-- ==== Sys2Proof/Word.lean ====
section
/-!
DEFINITION. The machine's words: the 32-bit register word, fabric time, a bit field of a word, and the plain-data forms of
the register map (R447) whose contents `Machine/RegMap.lean` lists.
-/
namespace Sys2Proof

/-- A BAR0 register (R9): 32 bits. -/
abbrev Word := BitVec 32

/-- Fabric time: 64 bits in 32.32 format, seconds since 2000-01-01 TAI (scope chapter, "Names used throughout"). -/
abbrev Time := BitVec 64

/-- A bit field of a register, from bit `hi` down to bit `lo`, as the register tables give it. -/
structure Field where
  hi : Nat
  lo : Nat
deriving DecidableEq, Repr

/-- The kinds of unit that R447 gives a block, or a part of a block with instances of its own. -/
inductive UnitKind where
  | dev | mode | clk | saf | alm | hif | eq | msix | pba | snp | boot | fab | fp | pch | bank | exc | cal | wch | wm | hc
  | cmp | eng | cl | engwin | str | hr | drc | drcport | ecc | res
deriving DecidableEq, Repr

/-- One register table: its offset in the unit, how often it repeats and at what step, the bits of each access type (R9) and the
reserved ones (R10), its reset value, whether it lies in the AON domain (R11), and whether bits 7:0 read the unit's own number. -/
structure RegDesc where
  off   : Nat
  cnt   : Nat := 1
  step  : Nat := 4
  rw    : Nat := 0
  w1c   : Nat := 0
  rc    : Nat := 0
  wo    : Nat := 0
  rsv   : Nat := 0
  reset : Nat := 0
  aon   : Bool := false
  inst  : Bool := false
deriving DecidableEq, Repr

/-- A block of R447: its kind, the base of its first unit, the stride and number of its units, and one unit's registers. -/
structure RegBlock where
  kind   : UnitKind
  base   : Nat
  stride : Nat
  count  : Nat
  regs   : List RegDesc
deriving DecidableEq, Repr

end Sys2Proof
end

