-- ==== Sys2Proof/Config.lean ====
section
/-!
DEFINITION. What one made device fixes and the spec leaves open: the variant and the values fused in production (plain data, a
field of State, so that every statement holds for every such device), and the FREE VALUES, opaque constants that nothing in
Lean can evaluate, so that a claim holds whatever they are.
-/
namespace Sys2Proof

/-- The four variants of R1. -/
inductive Variant where
  | xf6408 | xf6400 | xf3204 | xf6408f
deriving DecidableEq, Repr

/-- What production fuses into a device and the spec gives no value for (R448 to R452, R196, R380): log entry 2, DESIGN CHOICE. -/
structure Factory where
  variant  : Variant
  stepping : BitVec 8
  dieId    : BitVec 64
  epc      : BitVec 16
  epw      : BitVec 16
deriving DecidableEq, Repr

/-- The free value: the bits of a result that the spec does not state, at the `n`-th place where one is needed. The step reads
State's counter `fresh` for `n` and advances it. -/
opaque Config.freeValue : Nat → Nat
/-- Coefficient `index` of coefficient set `set` of the filter chains, and of the W decimator's stages as set 64, for the sets
whose numbers the spec does not list (R103, R104, R109, R150): log entry 6, DESIGN CHOICE. -/
opaque Config.filterCoef : Nat → Nat → Int
/-- Which of the twelve forms that keep R209's thresholds the device's FFT has: where the twiddle products and the radix-2 stage stand,
how a complex product is rounded, where the split stage halves: log entry 7, DESIGN CHOICE. -/
opaque Config.fftForm : Nat
/-- Word `index` of a kernel's result, for the last steps of its arithmetic that the spec does not state (the logarithm table, roundings,
an inverse transform), as a function of the kernel, its parameters and its operands, so that the result is the same on every
cluster of every device (R175): log entry 7, DESIGN CHOICE. -/
opaque Config.kernelWord : (kernel : Nat) → (params : List Nat) → (operands : List Int) → (index : Nat) → Nat
end Sys2Proof
end

