-- ==== Sys2Proof/Machine/Store.lean ====
section
/-!
DEFINITION. A store: plain data that gives every natural-number key a value, held as the list of the keys whose value is not
the one an unlisted key reads as. The list is in ONE canonical form (keys strictly rising, no entry equal to what its key
reads as when unlisted), so equal stores are equal lists. The register file, the DRAM's cells and the per-unit hidden state
are stores.
-/
namespace Sys2Proof.Machine

/-- A sparse map from keys to values, as sorted plain data. -/
abbrev Store (α : Type) := List (Nat × α)

/-- The value listed for a key, if the key is listed. -/
def Store.find {α : Type} : Store α → Nat → Option α
  | [], _ => none
  | (a, x) :: m, k => if a = k then some x else Store.find m k

/-- The value of a key: the listed one, or `d k` where the key is not listed. -/
def Store.get {α : Type} (d : Nat → α) (m : Store α) (k : Nat) : α := (Store.find m k).getD (d k)

/-- List `v` for `k`, at its place in the rising order. -/
def Store.put {α : Type} (k : Nat) (v : α) : Store α → Store α
  | [] => [(k, v)]
  | (a, x) :: m => if a = k then (k, v) :: m else if k < a then (k, v) :: (a, x) :: m else (a, x) :: Store.put k v m

/-- Take `k` off the list. -/
def Store.drop {α : Type} (k : Nat) (m : Store α) : Store α := m.filter (fun e => decide (e.1 ≠ k))

/-- Give `k` the value `v`, keeping the canonical form: the value an unlisted key reads as is never listed. -/
def Store.set {α : Type} [DecidableEq α] (d : Nat → α) (m : Store α) (k : Nat) (v : α) : Store α :=
  if v = d k then Store.drop k m else Store.put k v m

/-- Every key is above `b` and the keys rise strictly. -/
def Store.risesFrom {α : Type} : Option Nat → Store α → Bool
  | _, [] => true
  | none, (a, _) :: m => Store.risesFrom (some a) m
  | some b, (a, _) :: m => decide (b < a) && Store.risesFrom (some a) m

/-- The canonical form: keys strictly rising, no entry equal to what its key reads as when unlisted. -/
def Store.wf {α : Type} [DecidableEq α] (d : Nat → α) (m : Store α) : Bool :=
  Store.risesFrom none m && m.all (fun e => decide (e.2 ≠ d e.1))

end Sys2Proof.Machine
end

