-- ==== Sys2Proof/Machine/UnitsSystem.lean ====
section
/-!
DEFINITION. Plain data of the units that run the device as a whole: readers of registers, event records and the queues they
wait in, commands in flight, modes, clocks, PACER, the safety monitor, boot, and the device's pins and outputs. What a register
shows is held in the register file and nowhere else; these structures hold what the spec gives a unit beyond its registers.
-/
namespace Sys2Proof

/-- Who reads or writes a register (R77): the PCIe host, the management core, or a fabric device by its address. -/
inductive Reader where
  | pcie
  | mc
  | fabric (addr : Nat)
deriving DecidableEq, Repr

namespace Machine

/-- An event record (R398) before it has its sequence number and phase. `fields` are the payload's values in the order in
which the record's own table names them; the tables give no byte places for them (log entry 5, DESIGN CHOICE). `hold` marks a record of a fault
that affects data, whose blocks wait for it (R255). A record on its way to its event home carries its origin's address and die ID and
the count of that origin's records coalesced before it (R399). -/
structure Rec where
  type     : Nat
  unit     : Nat
  time     : Time
  sev      : Nat
  more     : Bool := false
  remote   : Bool := false
  origin   : Nat := 0
  die      : Nat := 0
  lost     : Nat := 0
  hold     : Bool := false
  fields   : List Int
deriving DecidableEq, Repr

/-- What the device does to the world outside it, in the order it does it (newest first): messages, packets, pulses, memory
written by DMA. The spec gives these as outputs; nothing in the device reads them back. A `flash` output writes entries into a section of a slot,
with that section's new CRC; a `dramRefresh` is a refresh of a bank, or of the rows named in it. -/
inductive Out where
  | msix (vector : Nat)
  | hostRecord (queue slot : Nat) (phase : Bool) (seq : Nat) (r : Rec)
  | hostCells (ring : Nat) (cells : List (Nat × Nat))
  | flit (port : Nat) (kind : String) (args : List Int)
  | packet (dst : Nat) (kind : String) (args : List Int)
  | eventPacket (home : Nat) (r : Rec)
  | flash (slot : Nat) (part : String) (entries : List (Nat × List Word)) (crc : Word)
  | bar2Data (data : List Nat) (poisoned : Bool)
  | mcData (cell : Nat) (busError : Bool)
  | dramRefresh (ch bank : Nat) (rows : List Nat)
  | regData (reader : Reader) (offset value : Nat)
  | syncPulse (rise : Bool)
  | clockCommand (what : String)
deriving DecidableEq, Repr

/-- The rate limit of one condition (R479). A rule whose setting and clearing records are one key uses side A alone; a rule
that makes them two keys uses A for the setting and B for the clearing. `reported` is the state last reported; `pend` is the latest
suppressed occurrence, with the state it would have reported and its side, and `interval` the key's interval in units of fabric time. -/
structure RateKey where
  lastA    : Option Time := none
  lastB    : Option Time := none
  suppA    : Nat := 0
  suppB    : Nat := 0
  reported : Nat := 0
  pend     : Option Rec := none
  pendNow  : Nat := 0
  pendB    : Bool := false
  interval : Nat := 0
deriving DecidableEq, Repr

/-- A register write that commits after the next base-sample boundary (R328): the AON cycle of its commit, the offset, the bits written, and the
word before it. -/
structure LateWrite where
  commit : Nat
  off    : Nat
  mask   : Word
  old    : Word
deriving DecidableEq, Repr

/-- A completion's contents (R396): status and detail of R392, result bytes 22 on as the values R391 names, and one list of
values for each continuation record, with its time where that is not the completion's own. -/
structure Completion where
  status : Nat
  detail : Nat := 0
  result : List Int := []
  conts  : List (Option Time × List Int) := []
  time   : Time := 0
deriving DecidableEq, Repr

/-- Where a command came from: the command ring of this device, or a COMMAND packet of the ring device `dev` (R394). -/
inductive CmdSrc where
  | ring
  | remote (dev : Nat)
deriving DecidableEq, Repr

/-- A command in flight (R393): its source, opcode, tag, target device (0: this one), the queue slots reserved for its completion, its
completion once decided, what has come of a completion that another device is sending, and that device's address and die ID. -/
structure InFlight where
  src     : CmdSrc
  opcode  : Nat
  tag     : Nat
  target  : Nat
  slots   : Nat := 0
  done    : Option Completion := none
  part    : Option Completion := none
  origin  : Option (Nat × Nat) := none
deriving DecidableEq, Repr

/-- An event queue beyond its registers (R397, R399, R400): records written and not yet returned, per-class lost counts, the time of
the last lost record, the origin of the record last written, whether an ORIGIN record is due after EQ_RESUMED, and per origin the records
coalesced there that its next ORIGIN record is to tell. -/
structure EvQueue where
  written    : Nat := 0
  lost       : Store Nat := []
  lastLost   : Time := 0
  prevOrigin : Option Nat := none
  originDue  : Bool := false
  owed       : Store Nat := []
deriving DecidableEq, Repr

/-- MSI-X vector moderation (R387): pending notifications, the time of the oldest, and the pending bit while masked. -/
structure MsiVec where
  pending : Nat := 0
  oldest  : Time := 0
deriving DecidableEq, Repr

/-- The PCI configuration space of the function (R382, R388): BAR0 and BAR2, maximum payload and read-request size in bytes, extended tags and
ASPM L1 enabled, MSI-X Enable and Function Mask, and the uncorrectable errors that AER has logged. What the spec gives no reset value for
has the standard's default (log entry 136, PRESUMED). -/
structure PciCfg where
  bar0     : Nat := 0
  bar2     : Nat := 0
  payload  : Nat := 128
  readReq  : Nat := 512
  extTags  : Bool := true
  aspmL1   : Bool := false
  msixOn   : Bool := false
  msixMask : Bool := false
  aer      : Nat := 0
deriving DecidableEq, Repr

/-- Whose turn it is among the DMA channels (R386): the channel, the TLPs it may still send, and per channel the TLPs sent beyond its turns. -/
structure DmaTurn where
  ch   : Nat := 7
  left : Nat := 0
  owed : List Nat := List.replicate 8 0
deriving DecidableEq, Repr

/-- The host link and event delivery beyond their registers (R382, R386, R388, R392, R393, R399): commands in flight in submission order,
D3hot with WAKE_N, whether the PCIe link has reached L0 (host attachment), the event home of HOSTIF, records sent and not yet
acknowledged by the tag of their EVENT packet, when the record of a fault was last taken into its queue, when the last DMA transfer ended, whose
turn it is among the channels, the configuration space, and the host region of DEVICE. -/
structure HostUnit where
  inflight   : List InFlight := []
  d3hot      : Bool := false
  wakeN      : Bool := false
  pcieEver   : Bool := false
  home       : Nat := 0
  unacked    : List (Nat × Rec) := []
  toldAt     : Time := 0
  dmaAt      : Time := 0
  dma        : DmaTurn := {}
  pci        : PciCfg := {}
  hostBase   : Nat := 0
  hostMib    : Nat := 0
deriving DecidableEq, Repr

/-- The phases of one mode change (R313, R314): none, waiting for the change instant, running its entry actions. -/
inductive ChangePhase where
  | none | waiting | acting
deriving DecidableEq, Repr

/-- What waits at the wake gate (R338): a WAKE or BURST trigger by its number, or the mode timer. -/
inductive GateCause where
  | wake (trig : Nat)
  | burst (trig : Nat)
  | timer
deriving DecidableEq, Repr

/-- The mode machine beyond MODE_STAT (R312 to R314, R338): the change in progress with its cause (0 boot, 1 command, 2 trigger,
3 timer, 4 PACER, 5 SMON), trigger number, second leg and MODE_SET; the causes that wait for it to complete (commands with source, tag, target and whether
SAFE_EXIT); what waits at the wake gate; the
last WAKE and BURST triggers, the entry into the present mode, whether the mode timer is in its ON interval, and whether MODE_SET
entered the present mode, and the instants at which SERVICE has begun or ended, the newest first. -/
structure ModeUnit where
  phase     : ChangePhase := .none
  cause     : Nat := 0
  trig      : Nat := 0
  oldMode   : Nat := 0
  instant   : Time := 0
  next      : Option Nat := none
  cmd       : Option (CmdSrc × Nat) := none
  waitCmd   : List (CmdSrc × Nat × Nat × Bool) := []
  waitBurst : Option Nat := none
  waitWake  : Option Nat := none
  waitTimer : Bool := false
  waitPacer : Bool := false
  gate      : List GateCause := []
  lastWake  : Option Time := none
  lastBurst : Option Time := none
  entryTime : Time := 0
  timerOn   : Bool := false
  bySet     : Bool := false
  svc       : List Time := []
deriving DecidableEq, Repr

/-- The clock unit beyond CLK (R324 to R327): when holdover began, the source that was selected before a loss, the switch in progress with
the source it leaves, whether its CLK_SWITCH is still to come, whether the missing-clock detector holds SAFE_N, the old root's die ID while the BATON record is still to be written, when an entry
into DEEP was abandoned (R320), the gates that have been asked to close and since when (R320), and since when a source has been locked after a loss (R428). -/
structure ClkUnit where
  lossTime  : Option Time := none
  lostSrc   : Nat := 0
  switching : Option Nat := none
  oldSrc    : Nat := 0
  swDue     : Bool := false
  mcdFired  : Bool := false
  baton     : Option Nat := none
  deepRetry : Option Time := none
  closing   : List (Nat × Time) := []
  lockAt    : Option Time := none
deriving DecidableEq, Repr

/-- PACER beyond its registers (R331 to R337): the window's start, the mode it has been spent in as long as that is one, its
budget with debt and mode changes taken in, E_used, all energy and that of class 2 and 3 invocations, the energy of admitted
unfinished invocations, the last four baselines of VIGIL and SURVEY in mW, pool and debt, whether PACER_OVER has been written in
the window, when BURST was entered and whether the pool has run out since. Energies are in µJ, those of invocations (`discretion`, `charged`) in pJ. -/
structure PacerUnit where
  windowStart : Time := 0
  wholeMode   : Option Nat := none
  budget      : Int := 0
  used        : Nat := 0
  total       : Nat := 0
  discretion  : Nat := 0
  charged     : Nat := 0
  lastEval    : Time := 0
  baseV       : List Nat := []
  baseS       : List Nat := []
  pool        : Nat := 0
  debt        : Nat := 0
  overWritten : Bool := false
  burstStart  : Time := 0
  exhausted   : Bool := false
deriving DecidableEq, Repr

/-- The three states of channel verification (R426). -/
inductive Trust where
  | pending | verified | unverified
deriving DecidableEq, Repr

/-- One channel as SMON sees it (R426, R428): its state, whether it has met the condition on which a PENDING channel becomes
VERIFIED, whether its first AGREE slot has ended, whether its window monitor has completed a self-test (on a W-channel: one with
every step passed), the same for its hit comparator, whether the last test of each failed a step, whether the newest output of each
filter chain (STATIC, SEISMIC, MONITOR; a W-channel's one output first) carried POISON, and the rows, as bits, that a field of
SERVICE alone raised there. -/
structure ChanTrust where
  trust    : Trust := .pending
  met      : Bool := false
  agreed   : Bool := false
  wmTested : Bool := false
  hcTested : Bool := false
  wmFailed : Bool := false
  hcFailed : Bool := false
  poison   : List Bool := [false, false, false]
  excepted : Nat := 0
deriving DecidableEq, Repr

/-- One alarm output beyond its registers (R433): whether the source was active, and until when its assertion lasts at least. -/
structure AlarmUnit where
  src   : Bool := false
  until_ : Time := 0
deriving DecidableEq, Repr

/-- SMON beyond its registers: whether it judges channels (from the end of BOOT on), SAFE_N as driven, whether SAFE has been
entered, the ball that reads back otherwise than driven (0 to 3 ALMn, 4 SAFE_N) with the level read, when SAFE was entered, and when each
monitor of R431 last left its window or came back to it. -/
structure Smon where
  running   : Bool := false
  safeNLow  : Bool := true
  inSafe    : Bool := false
  badBall   : Option (Nat × Bool) := none
  safeEntry : Time := 0
  supAt     : List (Nat × Time) := []
deriving DecidableEq, Repr

/-- A trigger of the TRIGGERS section (R413): source 0 node, 1 window monitor, 2 hit comparator, 3 SYNC_IN, 4 mode timer;
action 0 NONE, 1 WAKE, 2 BURST, 3 SNAPSHOT. -/
structure Trigger where
  num    : Nat
  source : Nat
  index  : Nat
  action : Nat
  lead   : Nat
deriving DecidableEq, Repr

/-- A trigger while the device runs (R433): raised and not yet cleared, the time of its latest raise, the alarm outputs, as bits,
whose HOLD has released it, and whether the node behind it released a placeholder as its last frame. -/
structure TrigState where
  raised   : Bool := false
  latest   : Option Time := none
  expired  : Nat := 0
  gapFrame : Bool := false
deriving DecidableEq, Repr

/-- A snapshot that is armed (R376 to R378): its time, ID and origin. -/
structure SnapPend where
  t      : Time
  id     : Nat
  origin : Nat
deriving DecidableEq, Repr

/-- The boot sequencer and the MC beyond BOOT's registers (R403 to R420): what holds the device in reset (its rails, PERST_N, the test
access port), the cause of the boot to come, when its reset was released, the slot in work with its IMAGE_ID, its sections by type and the section header of its CALSET, whether the
DRAM test is done, whether the MC runs and since when, its last kick of the watchdog, its restarts of the last hour and the cause of the last (0 watchdog, 1 SRAM), VIGIL_KIB, and the
regions of DRAM that start-up tests have overwritten: first cell, cells, and the place of their free contents. -/
structure BootUnit where
  coldHeld   : Bool := true
  perstLow   : Bool := false
  jtagHold   : Bool := false
  nextCause  : Nat := 0
  startTime  : Time := 0
  slotB      : Bool := false
  imageId    : Nat := 0
  sections   : List (Nat × List (BitVec 8)) := []
  calHead    : List (BitVec 8) := []
  dramTested : Bool := false
  mcRunning  : Bool := false
  mcFrom     : Time := 0
  kickAt     : Time := 0
  restarts   : List Time := []
  mcCause    : Nat := 0
  vigilKib   : Nat := 0
  tested     : List (Nat × Nat × Nat) := []
deriving DecidableEq, Repr

/-- Pins that no register shows (R463, R468): SYNC_OUT with the second it last pulsed for, JTAG's hold of the safety balls. -/
structure Pins where
  syncOut  : Bool := false
  pulsed   : Option Nat := none
  jtagSafe : Option (List Bool) := none
deriving DecidableEq, Repr

end Machine
end Sys2Proof
end

