-- ==== Sys2Proof/Machine/UnitsSignal.lean ====
section
/-!
DEFINITION. Plain data of the precision channels beyond their registers: base samples and their marks, the fusion unit, the
three filter chains, the mains tracker, the latest-result entries with their readers' shadows, and the excitation drivers.
-/
namespace Sys2Proof.Machine

/-- The marks of the base samples in a window (R66, R68, R91): the base index of the first and of the last, the most recent
overrange base sample with its sign (true: negative), the least and greatest count of changes under R28 (two differ when the
window spans a change), the coding of the last sample, and SERVICE, HOLDOVER and POISON. -/
structure Marks where
  first    : Nat
  last     : Nat
  ovr      : Option (Nat × Bool) := none
  epochLo  : Nat := 0
  epochHi  : Nat := 0
  seUni    : Bool := false
  service  : Bool := false
  holdover : Bool := false
  poison   : Bool := false
deriving DecidableEq, Repr

/-- A word of a filter's delay line: its value and the marks of the base samples that entered it. -/
structure Sample where
  val   : Int
  marks : Marks
deriving DecidableEq, Repr

/-- The STATIC window in progress (R97 to R99): its bounds in modulator clocks since the epoch, whether its length came from
the tracker, the weighted sum and the marks so far, and samples that reach past its end. -/
structure StaticWin where
  b0      : Nat
  b1      : Nat
  tracked : Bool
  num     : Int := 0
  marks   : Option Marks := none
  tail    : List Sample := []
deriving DecidableEq, Repr

/-- The mains tracker (R100): the high-pass state, the previous sample and its time in 1/16 clock, the peak, the last crossing,
the last eight accepted periods (newest first), their count, the crossing that ended the last one, and when it was accepted. -/
structure Mains where
  d        : Int := 0
  zPrev    : Option (Int × Nat) := none
  peak     : Nat := 0
  tlast    : Nat := 0
  periods  : List Nat := []
  accepted : Nat := 0
  lastTc   : Nat := 0
  lastAt   : Time := 0
deriving DecidableEq, Repr

/-- A P-channel beyond its registers: the base samples still discarded after reset (R54), whether one has been passed on (R28), PCH_CFG
as in force with a change that waits, the count of changes, the fusion unit's weight and holdoff with the overload flags of the samples
before (R56, R65), the check's last 1024 eligible samples, newest first (R62), overrange with the sign and cause of its newest base sample
(R71, R72), the balls beyond ±4.6 V and whether PIN_RANGE has been set since the last base sample (R20), the delay lines of the three
chains with the newest outputs of MONITOR and SEISMIC and the base samples after which they began (R92), the mains tracker, and the newest result of each output for snapshots. -/
structure Pch where
  discard   : Nat := 4
  passed    : Bool := false
  inForce   : Word := 0
  change    : Bool := false
  epoch     : Nat := 0
  thLoad    : Bool := false
  wprev     : Nat := 0
  hold      : Nat := 0
  fovlAgo   : Option Nat := none
  covlPrev  : List Bool := []
  sinceCfg  : Nat := 8
  window    : List (Option Nat) := []
  cleanRun  : Nat := 0
  noElig    : Nat := 0
  lastElig  : Time := 0
  faultFrom : Option Nat := none
  faultTo   : Option Nat := none
  lastDiff  : Int := 0
  diffSum   : Int := 0
  diffCnt   : Nat := 0
  overrange : Bool := false
  ovrNeg    : Bool := false
  ovrCause  : Nat := 0
  quiet     : Nat := 0
  newest    : Option Sample := none
  beyondP   : Bool := false
  beyondN   : Bool := false
  pinSeen   : Bool := false
  mon       : List Sample := []
  monDone   : Option Nat := none
  stat      : Option StaticWin := none
  seis      : List (List Sample) := []
  seisDone  : Option Nat := none
  monFrom   : Nat := 0
  seisFrom  : Nat := 0
  mains     : Mains := {}
  snapStat  : Option (Nat × Nat × Time) := none
  snapSeis  : Option (Nat × Nat × Time) := none
  snapMon   : Option (Nat × Nat × Time) := none
deriving DecidableEq, Repr

/-- One reader's shadow of a RES entry (R77): the result, which result of the entry it is, its sequence number, attributes, STALE and
POISON as latched, and whether RES_LO has returned it. -/
structure Shadow where
  val    : Nat
  num    : Nat
  seq    : Nat
  attr   : Nat
  stale  : Bool
  poison : Bool
  loRead : Bool := false
deriving DecidableEq, Repr

/-- A latest-result entry (R74 to R76, R81): the newest result, how many the entry has held, its sequence number, attributes and POISON,
STALE, whether any reader has latched it, and the shadows, most recently used first. -/
structure Res where
  val     : Nat := 0
  num     : Nat := 0
  seq     : Nat := 0
  attr    : Nat := 0
  poison  : Bool := false
  stale   : Bool := true
  latched : Bool := false
  shadows : List (Reader × Shadow) := []
deriving DecidableEq, Repr

/-- An excitation driver beyond its registers: base samples since its last polarity edge and the polarity (R39, R40), a ramp
that waits for the next edge, the level a ramp began at, the one it leads to and the AON cycle of its beginning (R37), whether a start is requested, whether
force is driven, the times of start and release of the last pulse or burst with the AON cycles they fell in (R42, R44, R45), the AON
cycles a burst has run and its phase accumulator (R43), the time from which the start timer looks for its next instant (R44), the faults
SMON still holds with the times since which they have been absent (R426), and for each fault of R46, OVERLOAD first, how many samples of
the driver's monitor in succession have shown its condition. -/
structure Exc where
  edgeAge  : Nat := 0
  positive : Bool := true
  rampDue  : Bool := false
  rampFrom : Nat := 0
  target   : Nat := 0
  rampCyc  : Nat := 0
  req      : Bool := false
  running  : Bool := false
  start    : Time := 0
  startCyc : Nat := 0
  release  : Time := 0
  relCyc   : Nat := 0
  ran      : Nat := 0
  phaseAcc : Nat := 0
  perFrom  : Time := 0
  held     : Nat := 0
  absent   : List (Nat × Time) := []
  seen     : List Nat := [0, 0, 0, 0, 0]
deriving DecidableEq, Repr

/-- What the two modulators of a channel deliver for one base sample (R52). -/
structure RawSample where
  ch   : Nat
  rawC : BitVec 24
  rawF : BitVec 24
  covl : Bool
  fovl : Bool
deriving DecidableEq, Repr

/-- What one base sample of a channel brings beside its marks (R53, R56, R115): the demodulated sample the filters take, c and f,
whether its F overload flag is set, whether it is an overrange base sample with c's sign, and whether R40 holds it. -/
structure BaseOut where
  x     : Sample
  c     : Int
  f     : Int
  fovl  : Bool
  ovr   : Bool
  neg   : Bool
  blank : Bool
deriving DecidableEq, Repr

/-- The attributes of an output sample (R91), in the bit order of R237. -/
structure Attrs where
  ovr      : Bool := false
  fflt     : Bool := false
  mixed    : Bool := false
  service  : Bool := false
  holdover : Bool := false
  poison   : Bool := false
deriving DecidableEq, Repr

/-- An output value of a source: its 40-bit full result as coded (R68), its two's complement value before coding, the value as
its stream carries it with its width, its timestamp, and its attributes. -/
structure OutVal where
  full  : Nat
  value : Int
  code  : Nat
  bits  : Nat
  t     : Time
  attrs : Attrs
deriving DecidableEq, Repr

end Sys2Proof.Machine
end

