-- ==== Sys2Proof/Machine/UnitsChecker.lean ====
section
/-!
DEFINITION. Plain data of the bank checkers and the calibration store beyond their registers (R110 to R145).
-/
namespace Sys2Proof.Machine

/-- An on-demand request of a bank (R129): who asked, the point, the window length in modulator clocks, whether it runs within an
open slot, as an urgent one does, and whether the command has ended before its slot (R420). -/
structure OnDemand where
  src    : CmdSrc
  tag    : Nat
  point  : Nat
  len    : Nat
  urgent : Bool := false
  silent : Bool := false
deriving DecidableEq, Repr

/-- A checker slot (R112 to R123): its point (0 to 7 channel, 8 ZERO, 9 +REF, 10 -REF, 11 TEMP, 12 an open slot left idle, 14 the wait for a
boundary of R114), the BANK_CFG, BANK_TOL and BANK_REF_TOL latched for its cycle, its window in modulator
clocks, for a channel the gain with KK and OK of its entry as the slot began (R141), whether it is a repeat, the on-demand request it serves, the weighted sums of the base samples in its window (fused and
demodulated, c and f) with their total weight, the most recent overrange base sample, and what R118 judges it by: OVERRANGE,
SETTLING by R28 (a change in the window or just before it), a base sample not passed on, the F overload flag seen, and whether a repeat has been scheduled for it. -/
structure Slot where
  point    : Nat
  cfg      : Word := 0
  tol      : Word := 0
  refTol   : Word := 0
  b0       : Nat
  b1       : Nat
  gain     : Nat := 0
  kk       : Nat := 4194304
  ok       : Int := 0
  isRepeat : Bool := false
  od       : Option OnDemand := none
  num      : Int := 0
  cnum     : Int := 0
  fnum     : Int := 0
  wt       : Nat := 0
  ovr      : Option (Nat × Bool) := none
  ovld     : Bool := false
  settle   : Bool := false
  missing  : Bool := false
  fovl     : Bool := false
  repeated : Bool := false
deriving DecidableEq, Repr

/-- A cycle that has ended and whose results CHECKER_CYCLE_END has yet to evaluate: its duration, slot length and latched
BANK_CFG. -/
structure CycleDone where
  dur : Nat
  len : Nat
  cfg : Word
deriving DecidableEq, Repr

/-- One internal point's counts of R125. -/
structure PointCheck where
  out     : Nat := 0
  within  : Nat := 0
  faulted : Bool := false
deriving DecidableEq, Repr

/-- A system calibration of a bank (R137 to R141): the command, the channel and gain, N, T for FULL, the slots counted with the
sums of their means, the F overload flag, the slot from whose start on it counts, and, once computed, the new words that wait for
the first valid cycle or, from the modulator clock `ready` on, for the slot boundary. -/
structure Meas where
  src    : CmdSrc
  tag    : Nat
  full   : Bool
  ch     : Nat
  gain   : Nat
  count  : Nat
  target : Int
  since  : Nat
  taken  : Nat := 0
  sumC   : Int := 0
  sumF   : Int := 0
  sumK   : Int := 0
  fovl   : Bool := false
  words  : Option (List Word) := none
  ready  : Option Nat := none
deriving DecidableEq, Repr

/-- A bank's checker and sequencer. -/
structure Bank where
  running   : Bool := false
  cfg       : Word := 0
  time      : Word := 0
  fast      : Word := 0
  tol       : Word := 0
  refTol    : Word := 0
  cur       : Option Slot := none
  ended     : List Slot := []
  todo      : List (Nat × Nat) := []
  repeatPt  : Option Nat := none
  appended  : Bool := false
  slots     : Nat := 0
  nextB     : Nat := 0
  cycleB    : Nat := 0
  lastOver  : Bool := false
  done      : Option CycleDone := none
  waiting   : Option OnDemand := none
  vp        : Option Int := none
  vm        : Option Int := none
  sf        : Option Int := none
  mf        : Int := 0
  firstSM   : Option (Int × Int) := none
  dtbMs     : Nat := 0
  points    : List PointCheck := [{}, {}, {}, {}]
  meas      : Option Meas := none
deriving DecidableEq, Repr

/-- A channel as its bank checks it: whether a slot of the cycle was valid, the cycles without one, the AGREE run, b0 of the
first counted MISMATCH, the time of the last valid slot, the base index at which a change under R28 applies, the targets of
R127 with the gain they belong to, a working entry that waits for the base sample it takes effect at (R141), and the base samples a slot
that has yet to begin may still take weight from (R115), newest first: index, whether a change under R28 applies at it, and the sample. -/
structure ChkCh where
  valid    : Bool := false
  without  : Nat := 0
  agree    : Nat := 0
  firstB   : Nat := 0
  mism     : Nat := 0
  lastAt   : Time := 0
  changeAt : Option Nat := none
  target   : Option (Nat × List Int) := none
  applyAt  : Option (Nat × Nat × List Word) := none
  recent   : List (Nat × Bool × Option BaseOut) := []
deriving DecidableEq, Repr

/-- An entry of the calibration store (R133 to R135, R154): its words as stored, whether its CRC failed at boot (R136), and
whether the store's copy is poisoned (R305). An entry without words has not been loaded. -/
structure CalEntry where
  words  : List Word := []
  bad    : Bool := false
  poison : Bool := false
deriving DecidableEq, Repr

/-- A CAL_COMMIT in progress (R142): its command and the entries it writes, as they stood when it began. -/
structure Commit where
  src     : CmdSrc
  tag     : Nat
  entries : List (Nat × List Word)
deriving DecidableEq, Repr

/-- How a CAL_COMMIT ends (R142, R414): the slot, flash offset and operation that failed, if any, and the CALSET section, header and body, as
read from the slot that the device did not boot from before its sectors are erased. -/
structure CommitEnd where
  fail  : Option (Nat × Nat × Nat) := none
  other : List (BitVec 8) := []
deriving DecidableEq, Repr

/-- Which input balls lay beyond the pin limit of R30 throughout the last quarter of a slot. -/
structure OpenBalls where
  p : Bool := false
  n : Bool := false
deriving DecidableEq, Repr

/-- What a P-channel entry gives, in the number forms of R134. -/
structure PEntry where
  kc    : Nat
  oc    : Int
  kf    : Nat
  of    : Int
  sigma : Nat
  sref  : Int
  mref  : Int
  kk    : Nat
  ok    : Int
deriving DecidableEq, Repr

/-- The effective conversion coefficients of a channel at one gain (R127): gains 2^22 = 1.0, offsets in raw units. -/
structure Eff where
  kc : Nat
  oc : Int
  kf : Nat
  of : Int
deriving DecidableEq, Repr

end Sys2Proof.Machine
end

