-- ==== Sys2Proof/Machine/UnitsDram.lean ====
section
/-!
DEFINITION. Plain data of the DRAM controller and of stored-data protection beyond their registers (R267 to R309): cells, requests,
channels, the error log, the remap table with its spare cells, the merge buffer and SRAM words.
-/
namespace Sys2Proof.Machine

/-- A DRAM cell as stored (R288): 246 protected bits (data 239:0, attributes 245:240) and 10 check bits. -/
structure Cell where
  prot  : Nat := 0
  check : Nat := 0
deriving DecidableEq, Repr

/-- A request at a DRAM port (R270): port, write or read, cell address, when it entered the queue and the target it entered under. -/
structure DramReq where
  port  : Nat
  write : Bool
  cell  : Nat
  at_   : Time
  tgt   : Nat
deriving DecidableEq, Repr

/-- The end of a change of operating point (R283, R284): how long it has held the channels, in 10 ns, and the channels whose training has failed
twice. -/
structure ChangeEnd where
  holding : Nat
  failed  : List Nat
deriving DecidableEq, Repr

/-- What the start-up tests of the DRAM find (R283, R306): the channel and operating point of each training that fails, and the failing cells. -/
structure DramTests where
  failed : List (Nat × Nat)
  bad    : List Nat
deriving DecidableEq, Repr

/-- What a channel is held by: nothing, a periodic check or a full training. -/
inductive Training where
  | none | check | full
deriving DecidableEq, Repr

/-- One DRAM channel (R275 to R283): power-down, self-refresh, when the last refresh fell due, postponed refreshes, the activation table of
each bank (16 entries of row and count), neighbour refreshes of each bank in the window, whether the storm has been written in the window,
the open row of each bank, the training in progress and since when it holds the channel, whether it is the repeat, consecutive failures,
the time of the last periodic check, the latest interval of R273 of each cause and bank (cause code, its end, and the bank where it held only
one; the latest first), the times in units of 2^-32 s until which a refresh holds the channel and occupies each bank, and before which the
scrubber reads no further cell (R302), the bank refreshed next, the port whose activation has last reached the threshold in each bank, and the
time of the last request. -/
structure DramChan where
  down      : Bool := false
  selfRef   : Bool := false
  refAt     : Time := 0
  postponed : Nat := 0
  tables    : Store (List (Nat × Nat)) := []
  nref      : Store Nat := []
  stormed   : Bool := false
  openRow   : Store (Option Nat) := []
  training  : Training := .none
  trainAt   : Time := 0
  again     : Bool := false
  fails     : Nat := 0
  lastCheck : Time := 0
  interval  : List (Nat × Time × Option Nat) := []
  holdTil   : Nat := 0
  busy      : Store Nat := []
  scrubAt   : Nat := 0
  nextBank  : Nat := 0
  lastPort  : Store Nat := []
  idleAt    : Time := 0
deriving DecidableEq, Repr

/-- One port (R271 to R274): waiting requests in the order of arrival, and what its next DRC_LATENCY_MISS carries. -/
structure DramPort where
  missed  : Nat := 0
  worst   : Nat := 0
deriving DecidableEq, Repr

/-- The controller (R269, R279 to R285): waiting requests of all ports in arrival order, when self-refresh was entered and whether the
M-PLL has stopped, the temperature at the last full training of each operating point, the change in progress with its old point, the
trainings still to come, by channel, and whether the full one has succeeded so far, the time in self-refresh, in µs, that makes
no whole ms yet, when the change in progress began, when the temperature was last read, and when the refresh window began. -/
structure DramUnit where
  queue   : List DramReq := []
  srAt    : Option Time := none
  mpllOff : Bool := false
  tTrain  : List Int := [0, 0, 0]
  change  : Option (Nat × Nat) := none
  toTrain : List (Nat × Training) := []
  trained : Bool := true
  srUs    : Nat := 0
  changeAt : Time := 0
  tempAt  : Option Time := none
  windowAt : Time := 0
deriving DecidableEq, Repr

/-- An entry of the error log (R293): valid, state (0 NEW, 1 WRITTEN_BACK, 2 REMAPPED, 3 WEAK), cell, syndrome, source (0 port read, 1
scrub, 2 RMW), port, repeat count, corrections in the lap, times of the first and latest error, and whether a write-back is due. -/
structure LogEntry where
  state  : Nat
  cell   : Nat
  synd   : Nat
  source : Nat
  port   : Nat
  rep    : Nat
  lap    : Nat
  first  : Time
  latest : Time
  back   : Option Nat := none
deriving DecidableEq, Repr

/-- A remap entry with its spare cell (R297, R304): the cell it stands for, whether made at start-up, and the cell's seven SRAM words, six for the
data and one for the attributes, each 40 data bits with its poison bit. -/
structure Spare where
  cell  : Nat
  boot  : Bool
  words : List (Nat × Bool)
deriving DecidableEq, Repr

/-- An entry of the merge buffer (R291): cell, data, the mask of its nibbles, the port and the time of its first write. -/
structure MergeEntry where
  cell : Nat
  data : Nat
  mask : Nat
  port : Nat
  at_  : Time
deriving DecidableEq, Repr

/-- A word of on-chip SRAM that carries data (R304): a data cell of stream `sid`'s block `i` in staging, a word of a frame that an input of a node
holds, of a frame that an invocation holds, a value of an input buffer, a word of a node's state, of its delay line, of its coefficients, masks,
windows and twiddles, of its state region, a word of a cluster's loop cache, register file, descriptor store or address generators, a word of the delay line of
MONITOR, of stage `j` of SEISMIC or of a W decimator, the sum of STATIC, and the index entry of a block held. -/
inductive SramWord where
  | cell (sid i c : Nat)
  | frame (node input i c : Nat)
  | held (node num f c : Nat)
  | buffer (node input i : Nat)
  | acc (node i : Nat)
  | line (node i : Nat)
  | coef (node i : Nat)
  | saved (node i : Nat)
  | logic (c : Nat)
  | monitor (n i : Nat)
  | seismic (n j i : Nat)
  | static (n : Nat)
  | wline (n i : Nat)
  | index (sid i : Nat)
deriving DecidableEq, Repr

/-- Stored-data protection (R293 to R309): the log and the remap table by entry number, the merge buffer (oldest first), cells read
poisoned in the lap and reported, the lap's start and counts, the errors not logged since the last ECC_LOG_FULL, whether the scrubber has
come round to the first cell, the start of the VIGIL scrub period with the cells read in it (R303), and the poisoned words of MC SRAM (R304). -/
structure EccUnit where
  log      : List (Option LogEntry) := List.replicate 16 none
  remap    : List (Option Spare) := List.replicate 16 none
  merge    : List MergeEntry := []
  reported : List Nat := []
  lapStart : Time := 0
  lapCorr  : Nat := 0
  lapUnc   : Nat := 0
  lapPoi   : Nat := 0
  unlogged : Nat := 0
  lapped   : Bool := false
  vigAt    : Time := 0
  vigCells : Nat := 0
  mcPo     : List Nat := []
deriving DecidableEq, Repr

end Sys2Proof.Machine
end

