-- ==== Sys2Proof/Machine/UnitsEngine.lean ====
section
/-!
DEFINITION. Plain data of the analysis engine (R174 to R232): frames, the kernel graph as the GRAPH section gives it, what a node
carries from one invocation to the next, invocations, and the clusters.
-/
namespace Sys2Proof.Machine

/-- A value on an edge: its real (or only) part, its imaginary part, its index on the grid of its source, its timestamp, its
attributes in the bit order of R237, and whether its word is poisoned. -/
structure NVal where
  v      : Int
  im     : Int := 0
  idx    : Nat := 0
  t      : Time := 0
  attr   : Nat := 0
  poison : Bool := false
deriving DecidableEq, Repr

/-- A frame: its format (R200), values, block exponent, NFR, the timestamps of the first and last sample it covers, PFLAGS, ATTR and
KSPEC of its product header (R199), how many of its values are new, the input samples since the frame before that it leaves out (H
above L, or after a discontinuity, R198), and for a placeholder its reason (R241; 0 for data). -/
structure Frame where
  fmt    : Nat
  vals   : List NVal
  exp    : Int := 0
  nfr    : Nat := 1
  tFirst : Time := 0
  tLast  : Time := 0
  flags  : Nat := 0
  attr   : Nat := 0
  kspec  : Nat := 0
  newV   : Nat := 0
  skipped : List NVal := []
  gap    : Nat := 0
deriving DecidableEq, Repr

/-- What an edge runs from (R179, R413): a channel output or W-channel by the source kinds of R234, a node output (node × 4 +
output), or an event: a trigger, a start unit, the end of an excitation pulse. -/
inductive EdgeSrc where
  | channel (srck n : Nat)
  | node (out : Nat)
  | trigger (t : Nat)
  | start (u : Nat)
  | excEnd (k : Nat)
deriving DecidableEq, Repr

/-- An edge entry (R413): its source, the node input it feeds, L, H, ISH, the depth D and memory of the input buffer, and the input
rate in samples per 1000 s that the image declares. -/
structure Edge where
  src   : EdgeSrc
  input : Nat
  len   : Nat
  hop   : Nat
  ish   : Nat
  depth : Nat
  memY  : Bool
  rate  : Nat
deriving DecidableEq, Repr

/-- A node entry (R413) with its edges and what its data area holds: kernel code, class, priority, DEADLINE in µs, placement list,
parameter record, coefficients, masks with their exponent, state region with its size in bytes, its footprint in protected words, and
its rate in invocations per 1000 s. -/
structure NodeDef where
  kernel   : Nat
  cls      : Nat
  prio     : Nat
  deadline : Nat
  place    : List Nat
  params   : List Word
  coefs    : List Int
  maskU    : List Int
  maskL    : List Int
  maskExp  : Int
  stDram   : Bool
  stOff    : Nat
  stSize   : Nat
  xUse     : Nat
  yUse     : Nat
  cUse     : Nat
  rate     : Nat
  ins      : List Edge
deriving DecidableEq, Repr

/-- What a kernel carries from one invocation to the next (R181): the accumulation of AVERAGE and PSD or the counts of DENSITY, with
poison, its exponent E_a, frames included and frames counted since the last product, frames since the last decay, the span so far
with its attributes and flags, whether a live change lies in that span (R202), the format of the frames added, UNDER and OVER, whether
DENSITY_SAT has been written since the last reset, the delay line of FIR and DECIM (newest first), the FMASK history (newest first; a hit frame's first time) with the frames still to ignore, and the run of the
limit check: its side (1 upper, 2 lower), length, first time and extreme, the run within the limits, and the condition declared. -/
structure KState where
  acc    : List Int := []
  accPo  : List Bool := []
  ea     : Option Int := none
  nfr    : Nat := 0
  cnt    : Nat := 0
  decCnt : Nat := 0
  first  : Option Time := none
  last   : Time := 0
  attr   : Nat := 0
  flags  : Nat := 0
  changed : Bool := false
  fmt    : Nat := 0
  under  : Nat := 0
  above  : Nat := 0
  satd   : Bool := false
  line   : List NVal := []
  hist   : List (Option Time) := []
  hold   : Nat := 0
  side   : Nat := 0
  run    : Nat := 0
  runT   : Time := 0
  runExt : Int := 0
  okRun  : Nat := 0
  cond   : Nat := 0
deriving DecidableEq, Repr

/-- What a kernel's run brings: its state after, a frame or nothing on each output, records (type, time, payload), triggers raised
with their event times, and triggers released. -/
structure KOut where
  st     : KState
  outs   : List (Option Frame) := []
  recs   : List (Nat × Time × List Int) := []
  raised : List (Nat × Time) := []
  freed  : List Nat := []
deriving DecidableEq, Repr

/-- One input of a node: its buffer (oldest first), the samples in it since the last discontinuity, the samples that arrived since the last
frame, frames formed and not yet taken, events arrived, and whether its next frame is the first after a discontinuity. -/
structure NodeIn where
  buf    : List NVal := []
  count  : Nat := 0
  fresh  : List NVal := []
  frames : List Frame := []
  events : List Time := []
  disc   : Bool := true
deriving DecidableEq, Repr

/-- An invocation of a node (R180 to R187): its number, ready time and deadline, its input frames, whether PACER has admitted it,
the clusters that have started and finished it, its time of R188, whether it is a repeat ahead of all other work, was lost to a cluster
fault, is the one repeat that a disagreement allows, the parameter record it started with and whether that record is a changed one, the
reason with which it is to end as a placeholder, whether it ended so, and, once it is complete, the frame or placeholder of each output. -/
structure Inv where
  num      : Nat
  ready    : Time
  deadline : Time
  frames   : List Frame := []
  admitted : Bool := false
  energy   : Nat := 0
  started  : List Nat := []
  finished : List Nat := []
  again    : Bool := false
  lost     : Bool := false
  retried  : Bool := false
  cycles   : Nat := 0
  params   : List Word := []
  changed  : Bool := false
  skip     : Option Nat := none
  gapped   : Bool := false
  outs     : Option (List (Option Frame)) := none
deriving DecidableEq, Repr

/-- A node while the graph runs: the clusters it is placed on (none: UNPLACED), the failed cluster it is being moved off, the
counters of its window (R196), its inputs, its invocations in order, its kernel state and parameter record, a parameter change that no
invocation has started with yet, its state as its state region holds it (R181), the poisoned words of its coefficients and tables in C memory
with the clusters whose memory they, or poisoned words of its resident state, are in, and the class 1 history: agreeing invocations, clean
frames, and whether it has consumed poison or is unresolved (R428). -/
structure NodeSt where
  run       : List Nat := []
  moving    : Option Nat := none
  longest   : Nat := 0
  released  : Nat := 0
  gaps      : Nat := 0
  mism      : Nat := 0
  ins       : List NodeIn := []
  invs      : List Inv := []
  nextNum   : Nat := 0
  k         : KState := {}
  params    : List Word := []
  pchange   : Bool := false
  saved     : KState := {}
  coefPo    : List Nat := []
  poAt      : List Nat := []
  agreed    : Nat := 0
  clean     : Nat := 0
  poisoned  : Bool := false
  unresolved : Bool := false
deriving DecidableEq, Repr

/-- A cluster beyond its registers: the node and invocation it runs and since when it runs it or its self-test, whether a self-test must
come before its next invocation, whether the nodes of the failed cluster are being re-placed, when it was last tested, and the busy cycles of the last 100 ms by end time. -/
structure Cluster where
  running : Option (Nat × Nat) := none
  since   : Time := 0
  testDue : Bool := false
  replacing : Bool := false
  tested  : Time := 0
  busy    : List (Time × Nat) := []
deriving DecidableEq, Repr

/-- The engine: the loaded graph, the coupling profile (true: ORDER, R187), the last mismatch of each pair of clusters (R187), and when
an invocation last ended (R318). -/
structure EngUnit where
  graph : List NodeDef := []
  order : Bool := false
  mism  : List (List Nat × Time) := []
  ended : Time := 0
deriving DecidableEq, Repr

end Sys2Proof.Machine
end

