-- ==== Sys2Proof/Machine/UnitsFabric.lean ====
section
/-!
DEFINITION. Plain data of the Ohmion fabric beyond its registers (R343 to R378): packets, ports, election, requests, the manager's
topology, and the time service.
-/
namespace Sys2Proof.Machine

/-- A packet (R351 to R353): type, destination, source, AGE in µs, EPOCH, the type-specific bits, payload flits of 240 bits, and which
of them are poisoned. -/
structure Packet where
  ptype   : Nat
  dst     : Nat
  src     : Nat
  age     : Nat := 0
  epoch   : Nat := 0
  tspec   : Nat := 0
  payload : List Nat := []
  poison  : List Bool := []
deriving DecidableEq, Repr

/-- A packet that waits for an output port (R356): with its input port (4: local), when it came, and whether its leaving frees the input's
buffer, which one copy of a broadcast does not. -/
structure QPkt where
  pkt  : Packet
  inp  : Nat
  at_  : Time
  frees : Bool := true
deriving DecidableEq, Repr

/-- A flit in the retry buffer (R348): its number, 240 payload bits, poison, when it was last sent and how often replayed. -/
structure TxFlit where
  seq     : Nat
  bits    : Nat
  poison  : Bool
  sentAt  : Time
  replays : Nat := 0
deriving DecidableEq, Repr

/-- The fields of a link section that acknowledge and return credits (R348, R351). -/
structure FlowSec where
  ack  : Nat
  ackv : Bool
  nak  : Bool
  cr   : List Nat
deriving DecidableEq, Repr

/-- The fields of a link section that tell times (R351, R369). -/
structure TimeSec where
  txt  : Nat
  echo : Nat
  res  : Nat
deriving DecidableEq, Repr

/-- The link section of a header or control flit (R351), as received. -/
structure LinkSec extends FlowSec, TimeSec where
  adv  : Nat
deriving DecidableEq, Repr

/-- What the manager's firmware has computed for a reroute (R361, R363): the entries of its own routing table, and the devices whose clock parent
is not their tree parent, in order of depth, with the source they are to take. -/
structure Routing where
  tables : List (Nat × Nat)
  moves  : List (Nat × Nat)
deriving DecidableEq, Repr

/-- An election key (R357): PRIO, host attachment, die ID. -/
structure Key where
  prio : Nat
  host : Bool
  die  : Nat
deriving DecidableEq, Repr

/-- A fabric port (R344 to R350, R356, R365, R369): HELLO clean since, the next number to receive and whether a flit has come in order, the next
number to send, the packet being received with the flits still to come, the retry buffer, a NAK owed, credits per virtual channel and credits
owed, the packets waiting for this output, the channel served last, stopped channels with the packets they have discarded, times of CRC errors,
the neighbour's key and the best key it has seen, the rates requested at both ends (the neighbour's from its first RATE flit on) with a
settled switch, the TXT and arrival of the last flit received and when a flit with a link section left last, round-trip delays and offsets
being averaged, the channel and the flits still to send of the packet that holds the output, whether a NAK has been sent for the gap before
the number missing, when the link failed, and the data flits sent and received in the present 100 ms. -/
structure Port where
  cleanFrom : Option Time := none
  rxNext   : Nat := 0
  rxAny    : Bool := false
  txNext   : Nat := 0
  part     : Option (Packet × Nat) := none
  retry    : List TxFlit := []
  nakOwed  : Bool := false
  credits  : List Nat := [48, 48, 96]
  owed     : List Nat := [0, 0, 0]
  queue    : List QPkt := []
  served   : Nat := 2
  stopped  : List Nat := []
  dropped  : List Nat := [0, 0, 0]
  crcAt    : List Time := []
  nbr      : Option Key := none
  nbrBest  : Option Key := none
  myRate   : Nat := 0
  nbrRate  : Option Nat := none
  switch   : Option (Nat × Time) := none
  lastTxt  : Nat := 0
  lastAt   : Time := 0
  txAt     : Time := 0
  delays   : List Int := []
  offsets  : List Int := []
  sending  : Option (Nat × List (Nat × Bool)) := none
  crcRun   : Bool := false
  failedAt : Option Time := none
  utilFrom : Time := 0
  txData   : Nat := 0
  rxData   : Nat := 0
deriving DecidableEq, Repr

/-- Who waits for the answer to a request (R355, R394): a REG_READ, REG_WRITE or forwarded command with its source, opcode and tag; an
event record; a stream's request for cells; the manager. -/
inductive Client where
  | command (src : CmdSrc) (opcode tag : Nat) (size : Nat)
  | forward (src : CmdSrc) (opcode tag : Nat)
  | event
  | stream (sid : Nat)
  | mgmt
deriving DecidableEq, Repr

/-- An outstanding request (R355): tag, destination, client, how often sent and when last, and the packet. -/
structure OutReq where
  tag    : Nat
  dst    : Nat
  client : Client
  tries  : Nat
  at_    : Time
  pkt    : Packet
deriving DecidableEq, Repr

/-- An answer that a target keeps (R355). -/
structure Answer where
  src : Nat
  tag : Nat
  at_ : Time
  pkt : Packet
deriving DecidableEq, Repr

/-- A device of the topology that the manager, or a standby from MIRROR, holds (R358, R363): address (before it has one, its previous address; 0 none),
die ID, key, hops from the clock root and the die ID of its parent in the tree, its links as ports with the neighbours' die IDs, its clock source as
CLK_SRC.SEL numbers it, and its READY candidates as CLK_READY shows them. -/
structure Dev where
  addr   : Nat
  die    : Nat
  prio   : Nat := 0
  host   : Bool := false
  depth  : Nat := 0
  parent : Nat := 0
  nbrs   : List (Nat × Nat) := []
  clk    : Nat := 0
  ready  : Nat := 0
deriving DecidableEq, Repr

/-- The fabric unit (R357 to R365, R367 to R376): the best key seen with its hop distance, the own key with the time since which it has been
advertised as the best, the die IDs of manager and standby and the root's, the two routing banks (the active one is FAB_STAT.EPOCH), whether the other bank has
been retired, the switch scheduled and when the last one was, outstanding requests and kept answers, the next tag, since when ORPHAN and whether an OFFER came,
the topology, the addresses that devices keep (die ID and address), the devices asked by INFO, the clock parents still to be moved (address and
source), the links EXCLUDED, the standby's mirror, the last heartbeat received or sent, topology changes gathered, whether one has followed
another within 10 ms, the last one, the last reroute, the onset of the failure being repaired with the links changed, devices lost and clock
parents to be moved of its reroute, the step of time scheduled, the frequency loop's y and y_int with the source samples, the part of a unit of
time (1/125 of 2^-32 s) that the steering of the clock's phase has left, and since when it steers. -/
structure FabUnit where
  best      : Option Key := none
  bestHops  : Nat := 0
  ownSince  : Option (Key × Time) := none
  mgrDie    : Nat := 0
  stbyDie   : Nat := 0
  rootDie   : Nat := 0
  bank0     : Store Nat := []
  bank1     : Store Nat := []
  retired   : Bool := false
  switchAt  : Option Time := none
  switched  : Option Time := none
  reqs      : List OutReq := []
  answers   : List Answer := []
  nextTag   : Nat := 0
  orphanAt  : Option Time := none
  repair    : Bool := false
  offered   : Bool := false
  topo      : List Dev := []
  given     : List (Nat × Nat) := []
  asked     : List Nat := []
  moves     : List (Nat × Nat) := []
  limits    : List (Nat × Nat × Nat) := []
  mirror    : List Dev := []
  hbAt      : Option Time := none
  churn     : Nat := 0
  churned   : Bool := false
  lastTopo  : Option Time := none
  reroutedAt : Option Time := none
  failAt    : Option Time := none
  reroute   : Option (Nat × Nat × List (Nat × Nat)) := none
  step      : Option (Int × Time) := none
  y         : Rat := 0
  yInt      : Rat := 0
  srcAt     : Option Time := none
  srcLast   : List Int := []
  slew      : Rat := 0
  slewAt    : Option Time := none
deriving DecidableEq, Repr

/-- The fabric unit without what a formed fabric has given it: manager and roles, topology and addresses. -/
def FabUnit.unformed (x : FabUnit) : FabUnit :=
  { x with mgrDie := 0, stbyDie := 0, rootDie := 0, topo := [], given := [], asked := [], moves := [], limits := [] }

end Sys2Proof.Machine
end

