-- ==== Sys2Proof/Machine/UnitsStream.lean ====
section
/-!
DEFINITION. Plain data of streams, captures and host rings beyond their registers (R233 to R266). Which free segments of the pool a
history ring takes is not stated (log entry 9, DESIGN CHOICE).
-/
namespace Sys2Proof.Machine

/-- A block (R237 to R241): the time of its first value and of the last value it holds or stands for, BSEQ and the numbers it
occupies, PERIOD, FMT, ATTR, BFLAGS (1 GAP, 2 FSTART, 4 DISCONT, 8 LAST), REASON, the values or frames it holds or stands for, the
node of a product, its values as coded (lowest index first) with the times of the first and last, the product header's 240 bits,
bits per value, its poisoned data cells by number, when its first value was written, the DRAM cells that hold it (header first) once it is
in its ring, whether its index entry is poisoned, and, in a capture, the cell and the place in it from which each value comes. -/
structure Block where
  t0     : Time
  tEnd   : Time
  bseq   : Nat := 0
  nseq   : Nat := 1
  period : Nat := 0
  fmt    : Nat := 0
  attr   : Nat := 0
  flags  : Nat := 0
  reason : Nat := 0
  count  : Nat := 0
  node   : Nat := 0
  vals   : List Nat := []
  bits   : Nat := 20
  head   : Option Nat := none
  first  : Time := 0
  pbmp   : List Nat := []
  since  : Time := 0
  cells_ : List Nat := []
  idxPo  : Bool := false
  srcs   : List (Nat × Nat) := []
deriving DecidableEq, Repr

/-- Values, blocks or sequence numbers that are gone: how many, the first BSEQ among them and the numbers they occupied, their PERIOD, and
the times of the first and last. -/
structure Gone where
  count : Nat
  bseq  : Nat := 0
  nseq  : Nat := 1
  period : Nat := 0
  t0    : Time
  tEnd  : Time
deriving DecidableEq, Repr

/-- How far the block a stream is sending has come (R249, R252): read and ready for its own ring, asked for at the destination,
sent and not yet acknowledged. -/
inductive TxPhase where
  | ready | asked | sent
deriving DecidableEq, Repr

/-- The block being sent with its cells as the sender read them (header first), and since when; whether its destination has been asked for
cells of it, so that it completes as it was read; once sent, whether a reroute has come since, and when a link has been lost since. -/
structure Tx where
  phase    : TxPhase
  blk      : Block
  raw      : List Nat := []
  since    : Time
  bound    : Bool := false
  rerouted : Bool := false
  linkLost : Option Time := none
deriving DecidableEq, Repr

/-- What makes a stream a capture (R258 to R264): its source, the end of its span, HOLD, CLIPPED and TRUNCATED, the SIDs of the
capture it belongs to, the segments reserved for it and those it has pinned out of its source's ring, blocks delivered, the cells of its
stored size and of the blocks acknowledged, whether its last value has been taken, and the time of the first value not yet taken. -/
structure Cap where
  source    : Nat
  tStart    : Time
  tEnd      : Time
  hold      : Bool
  clipped   : Bool := false
  truncated : Bool := false
  group     : List Nat := []
  reserve   : List Nat := []
  pins      : List Nat := []
  delivered : Nat := 0
  cells     : Nat := 0
  acked     : Nat := 0
  whole     : Bool := false
  nextT     : Option Time := none
deriving DecidableEq, Repr

/-- A stream (R233 to R247): its state (0 CLOSED, 1 OPEN, 2 CLOSING, 3 CAPTURE), source, ring size in segments with the segments of the pool
in their order, the cell of the ring that is written next and the segments detached from the ring, each with the one that took its place, AGE_MS, class,
destination (0 NONE, 1 LOCAL, 2 REMOTE) with device and host ring, the next BSEQ to write and to send, the block in progress, closed
blocks in staging, blocks held in the ring (oldest first), FMT of the newest block, placeholders written, blocks overwritten unsent,
blocks overwritten and not yet stood for, the time of the last value
overwritten, whether a discontinuity came since the last value, values discarded for lack of staging
space, the block being sent, and what makes it a capture. -/
structure Stream where
  st     : Nat := 0
  srck   : Nat := 0
  src    : Nat := 0
  segs   : Nat := 0
  ring   : List Nat := []
  wpos   : Nat := 0
  kept   : List (Nat × Nat) := []
  ageMs  : Nat := 0
  cls    : Nat := 0
  dest   : Nat := 0
  dev    : Nat := 0
  hr     : Nat := 0
  next   : Nat := 0
  send   : Nat := 0
  opn    : Option Block := none
  closed : List Block := []
  held   : List Block := []
  fmt    : Nat := 0
  gaps   : Nat := 0
  lost   : Nat := 0
  gone   : Option Gone := none
  dropT  : Option Time := none
  disc   : Bool := false
  skip   : Option Gone := none
  tx     : Option Tx := none
  cap    : Option Cap := none
deriving DecidableEq, Repr

/-- A request of a stream's origin for cells of a host ring (R252): origin, SID, BSEQ, cells, whether granted, where its cells begin
and in which phase, the cells that have come by their index in the block, the data cells among them that came poisoned, the header, which
is written last, and when it came. -/
structure RingReq where
  origin  : Nat
  sid     : Nat
  bseq    : Nat
  cells   : Nat
  granted : Bool := false
  at_     : Nat := 0
  phase   : Bool := true
  got     : List Nat := []
  hdr     : Option Nat := none
  po      : List Nat := []
  since   : Time := 0
deriving DecidableEq, Repr

/-- The last block completed in a ring for an origin and SID (R252, R253): its BSEQ, and until when a repeat of its request may still come,
if one may. -/
structure RingDone where
  origin : Nat
  sid    : Nat
  bseq   : Nat
  again  : Option Time := none
deriving DecidableEq, Repr

/-- A host ring beyond its registers (R249 to R252): cells written or granted and not yet freed, requests in the order of their
arrival, the last block completed for each origin and SID, the blocks that its free space does not hold, by origin (none: this device), SID and
BSEQ, with the time since which, and the block for which STALL is set. -/
structure HostRing where
  used : Nat := 0
  reqs : List RingReq := []
  last : List RingDone := []
  waits : List ((Option Nat × Nat × Nat) × Time) := []
  stalled : Option (Option Nat × Nat × Nat) := none
deriving DecidableEq, Repr

/-- Parameters of STREAM_OPEN, and of an entry of the STREAMS section (R235, R413). -/
structure OpenParams where
  sid   : Nat
  srck  : Nat
  src   : Nat
  segs  : Nat
  dest  : Nat
  dev   : Nat
  hr    : Nat
  ageMs : Nat
deriving DecidableEq, Repr

/-- Parameters of CAPTURE (R258): t_s, duration in µs, source SIDs, HOLD, destination with device and host ring. -/
structure CaptureParams where
  tStart  : Time
  durUs   : Nat
  sources : List Nat
  hold    : Bool
  dest    : Nat
  dev     : Nat
  hr      : Nat
deriving DecidableEq, Repr

end Sys2Proof.Machine
end

