-- ==== Sys2Proof/Machine/UnitsWide.lean ====
section
/-!
DEFINITION. Plain data of the W-channels, window monitors, hit comparators and start units beyond their registers (R146 to R173).
-/
namespace Sys2Proof.Machine

/-- A crossing of a hit comparator's threshold (R163): on the negative side or the positive one, and when it was captured. -/
structure Crossing where
  neg : Bool
  at_ : Time
deriving DecidableEq, Repr

/-- A comparator that a test is due for, or whose lockout ends (R163, R166): the unit, and whether an output has changed and its new state is being decided. -/
structure TestDue where
  unit     : Nat
  deciding : Bool
deriving DecidableEq, Repr

/-- A native sample in a decimator's line (R148, R151): its index, its code, OVR, the count of configuration changes, SERVICE,
HOLDOVER and POISON. -/
structure WSample where
  idx      : Nat
  val      : Int
  ovr      : Bool
  epoch    : Nat
  service  : Bool
  holdover : Bool
  poison   : Bool
deriving DecidableEq, Repr

/-- A W-channel (R146 to R153, R164): the index of the next native sample, the decimator's line and the native samples as a hit may look
back on them (newest first), samples since the last overrange sample, whether it is in overrange with the sign, the count of changes, a
wake that waits for W_CONVERTER_START, whether the converter was woken by a crossing, when the last hit ended (none while one runs; the
wake itself where no hit has run), the newest output for a snapshot, and which balls lie beyond the pin limit, with whether one has
done so since the last native sample (R20). -/
structure Wch where
  idx       : Nat := 0
  line      : List WSample := []
  hist      : List WSample := []
  quiet     : Nat := 0
  overrange : Bool := false
  ovrNeg    : Bool := false
  epoch     : Nat := 0
  wakeReq   : Bool := false
  woken     : Bool := false
  hitEnd    : Option Time := none
  snap      : Option (Nat × Nat × Time) := none
  beyondP   : Bool := false
  beyondN   : Bool := false
  pinSeen   : Bool := false
deriving DecidableEq, Repr

/-- The self-test of one comparator unit (R166): a test is running, one that fell due waits for the unit to be idle, when the next falls due,
consecutive failures, the time of the last completed test, and from when on a second without one counts. -/
structure CompTest where
  running : Bool := false
  held    : Bool := false
  nextAt  : Option Time := none
  fails   : Nat := 0
  lastAt  : Time := 0
  since   : Time := 0
deriving DecidableEq, Repr

/-- A window monitor (R159 to R161): the time of the last transition and each reader's shadow of it. -/
structure Wm where
  lastAt  : Time := 0
  shadows : List (Reader × Nat) := []
  test    : CompTest := {}
deriving DecidableEq, Repr

/-- A hit comparator (R162 to R165): the hit in progress, the native samples after what is known to be its end (newest first), when it
ended, sigma, and the 1 ms window of native samples. -/
structure Hc where
  tFirst   : Time := 0
  tLast    : Time := 0
  count    : Nat := 0
  b0       : Nat := 0
  peak     : Int := 0
  energy   : Nat := 0
  ovr      : Bool := false
  partly   : Bool := false
  late     : Bool := false
  holdover : Bool := false
  valid    : Option Time := none
  ahead    : List WSample := []
  endAt    : Time := 0
  sigma    : Int := 0
  winSum   : Int := 0
  winSq    : Nat := 0
  winN     : Nat := 0
  taint    : Bool := false
  test     : CompTest := {}
deriving DecidableEq, Repr

/-- A start unit (R168 to R170): event times offered and not yet taken up, the end of the capture in progress, and the time from which its
schedule timer looks for its next instant. -/
structure StartUnit where
  offers : List Time := []
  until_ : Option Time := none
  timerFrom : Time := 0
deriving DecidableEq, Repr

end Sys2Proof.Machine
end

