-- ==== Sys2Proof/Syntax.lean ====
section
/-!
DEFINITION. The commands of the device: one constructor for each row of spec/opcode_table.json, in the table's order, but that sixteen
without operands stand last (compiled code numbers no more than 245 constructors that carry operands). The table gives
its rows no operands; each constructor carries what its rule needs to know of the event beyond the device's state: the unit concerned,
the value written, what a converter, a pin, a packet or the host brings (log entry 1, DESIGN CHOICE).
-/
namespace Sys2Proof
open Machine

/-- A command: an operation on the device or an event in it. Each constructor stands for the table's row of its name. -/
inductive Instr where
  /-- SUPPLY_FAULT (R431): A rail stays outside its SAFE window for 100 us and the SUPPLY cause becomes active. -/
  | supplyFault (rail : Nat) (mv : Nat)
  /-- REFERENCE_MONITOR_TRIP (R431): The primary reference stays outside its window for 100 us, so the REFERENCE cause is active
  and affected outputs are marked OVR. -/
  | referenceMonitorTrip (mv : Nat)
  /-- CAUSE_CLEAR_TIMER (R428): A safety cause's hold-until interval expires, for example a rail in its window for 10 ms or a
  clock locked for 1 ms, and the cause clears. -/
  | causeClearTimer (cause : Nat)
  /-- OUTPUT_FAULT (R430): A safety-output readback differs from the driven level for 10 us, which activates OUTPUT and asserts
  every other output. -/
  | outputFault (ball : Nat) (level : Bool)
  /-- ALARM_HOLD_EXPIRY (R433): HOLD ms pass after a trigger raise that has no clear, and the trigger is released. -/
  | alarmHoldExpiry (output : Nat) (trig : Nat)
  /-- SAF_ALM_ACK (R433): A write of 1 to SAF_ALMn_STAT.ACK releases a latched output while its source is inactive. -/
  | safAlmAck (n : Nat)
  /-- SAF_ALM_CFG_WRITE (R435): A write to an alarm output's CFG, CH0, CH1 or HOLD is accepted or refused according to the mode
  and the bits it changes. -/
  | safAlmCfgWrite (n : Nat) (i : Nat) (v : Word)
  /-- SAF_FORCE_ALM (R446): A write to SAF_FORCE.ALM in SERVICE forces the selected alarm outputs asserted. -/
  | safForceAlm (v : Nat)
  /-- BOOT_REFERENCE_ACQUIRED (R403): The boot sequencer acquires REFCLK or a recovered port clock and begins the BOOT steps. -/
  | bootReferenceAcquired (src : Nat)
  /-- BOOT_SELF_TESTS (R306): The SRAM March, ECC checker and DRAM pattern tests complete, remapping failing cells or stopping
  boot in SAFE. -/
  | bootSelfTests (march : Nat) (chk : Bool) (dram : DramTests)
  /-- IMAGE_VALIDATION (R410): A slot's structural checks complete, and the first failure is recorded with its code. -/
  | imageValidation (slotB : Bool) (found : Word) (readable : Bool) (bytes : List (BitVec 8))
  /-- SEMANTIC_VALIDATION (R411): The firmware checks the image semantics at step 8 and either applies the records or fails the
  whole slot. -/
  | semanticValidation (graphId : Word) (graph : List NodeDef)
  /-- FL_RELEASE_WRITE (R406): A write to BOOT_CTRL.FL_RELEASE releases or reclaims the QSPI balls when the mode allows it. -/
  | flReleaseWrite (v : Bool)
  /-- MC_WDOG_KICK (R420): The firmware writes MC_WDOG.KICK and restarts the 50 ms watchdog. -/
  | mcWdogKick (who : Reader)
  /-- MC_WATCHDOG_EXPIRY (R420): 50 ms pass without a kick, or MC SRAM has an uncorrectable error, so SAFE is entered and the MC
  is reset and reloaded. -/
  | mcWatchdogExpiry (sram : Bool)
  /-- MC_SATURATED (R419): The MC load stays above 90 % for 100 ms, so SAT sets and MC_SATURATED is written. -/
  | mcSaturated (load : Nat)
  /-- MC_SAT_CLEAR (R419): The MC load stays below 80 % for 1 s, so SAT clears. -/
  | mcSatClear (load : Nat)
  /-- CMD_DOORBELL (R389): The host writes a new TAIL to HIF_CMD_DB; the doorbell is accepted or rejected with DB_ERR. -/
  | cmdDoorbell (tail : Nat)
  /-- DESCRIPTOR_FETCH (R393): The MC takes the next descriptor once completion space is reserved, checks it and starts it. -/
  | descriptorFetch (bytes : BitVec 256) (poisoned : Bool)
  /-- MODE_SET (R316): Command that requests a change to a target mode. -/
  | modeSet (src : CmdSrc) (tag : Nat) (target : Nat)
  /-- SAFE_EXIT (R317): Command that leaves SAFE for VIGIL or SURVEY unless a cause is still active. -/
  | safeExit (src : CmdSrc) (tag : Nat) (target : Nat)
  /-- RELOAD (R417): Command that writes its completion and then performs a WARM reset and a full BOOT. -/
  | reload (src : CmdSrc) (tag : Nat)
  /-- PARAM_SET (R202): Command that changes live fields of a node's parameter record from the node's next invocation. -/
  | paramSet (src : CmdSrc) (tag : Nat) (node : Nat) (word : Nat) (mask : Word) (value : Word)
  /-- REG_READ (R395): Command that reads a BAR0 register of this device or of a remote device. -/
  | regRead (src : CmdSrc) (tag : Nat) (target : Nat) (size : Nat) (off : Nat)
  /-- REG_WRITE (R395): Command that writes a BAR0 register of this device or of a remote device. -/
  | regWrite (src : CmdSrc) (tag : Nat) (target : Nat) (size : Nat) (off : Nat) (data : Nat)
  /-- STREAM_OPEN (R235): Command that opens a continuous stream with its ring and destination. -/
  | streamOpen (src : CmdSrc) (tag : Nat) (p : OpenParams)
  /-- STREAM_CLOSE (R236): Command that closes a stream's open block with LAST and takes the stream to CLOSING. -/
  | streamClose (src : CmdSrc) (tag : Nat) (sid : Nat)
  /-- CAPTURE (R258): Command that admits a capture over the history of 1 to 8 source streams. -/
  | capture (src : CmdSrc) (tag : Nat) (p : CaptureParams)
  /-- SNAPSHOT_ARM (R376): Command that arms a snapshot at fabric time T, for this device alone or broadcast by STARTER. -/
  | snapshotArm (src : CmdSrc) (tag : Nat) (t : Time) (id : Nat) (all : Bool)
  /-- CHK_CONVERT (R129): Command that requests a single on-demand conversion by a bank checker. -/
  | chkConvert (src : CmdSrc) (tag : Nat) (bank : Nat) (point : Nat) (window : Nat) (urgent : Bool)
  /-- CAL_SYSTEM_ZERO (R138): Command that starts a zero calibration of one channel at its present gain. -/
  | calSystemZero (src : CmdSrc) (tag : Nat) (ch : Nat) (n : Nat)
  /-- CAL_SYSTEM_FULL (R139): Command that starts a full-scale calibration of one channel at its present gain. -/
  | calSystemFull (src : CmdSrc) (tag : Nat) (ch : Nat) (n : Nat) (t : Int)
  /-- CAL_COMMIT (R142): Command that starts writing every pending calibration entry into CALSET in both slots. -/
  | calCommit (src : CmdSrc) (tag : Nat)
  /-- ON_DEMAND_SLOT_DONE (R129): An on-demand checker conversion ends and CHK_CONVERT completes with its values. -/
  | onDemandSlotDone (bank : Nat) (r : BitVec 32) (overload : Bool) (ow : OpenBalls)
  /-- CAL_MEASURE_DONE (R140): The N slots of a system calibration are complete, new working values are formed, and the command
  completes. -/
  | calMeasureDone (bank : Nat)
  /-- CAL_APPLIED (R141): The working entry is applied at the next slot boundary of the bank and CAL_APPLIED is written. -/
  | calApplied (bank : Nat)
  /-- CAL_COMMIT_DONE (R142): Both slots have been written and verified, or a flash operation has failed, and CAL_COMMIT
  completes. -/
  | calCommitDone (end_ : CommitEnd)
  /-- CAL_ENTRY_RELOAD (R305): The MC reloads a poisoned calibration entry from CALSET within 100 ms. -/
  | calEntryReload (key : Nat) (readable : Bool)
  /-- SURVEY_IDLE_EXPIRY (R312): SURVEY_IDLE passes without a WAKE trigger, so the device returns to VIGIL. -/
  | surveyIdleExpiry
  /-- BURST_HOLD_EXPIRY (R312): BURST_HOLD passes without a BURST trigger, so the device returns to SURVEY. -/
  | burstHoldExpiry
  /-- BURST_EXHAUSTED (R335): The reserve pool reaches zero in BURST, so the device returns to SURVEY. -/
  | burstExhausted
  /-- THERMAL_CEIL (R333): The die temperature reaches CEIL, or falls 5 C below it, and admission and BURST change. -/
  | thermalCeil (tj : BitVec 16)
  /-- THERMAL_EMERGENCY (R333): The die temperature reaches EMERG, a dangerous fault is reported, and the clusters stop. -/
  | thermalEmergency (tj : BitVec 16)
  /-- WAKE_GATE_PASS (R338): A waiting wake passes the gate while its cause persists, and the change proceeds. -/
  | wakeGatePass
  /-- POWER_STATE_SLEEP (R318): No work or DMA has been active for 10 us, so the device moves from RUN to SLEEP. -/
  | powerStateSleep
  /-- DEEP_ENTRY (R322): In VIGIL all DEEP conditions hold, so the gates close and the device enters DEEP. -/
  | deepEntry
  /-- RUN_BURST_START (R322): PACER starts a VIGIL RUN burst for a deadline, flush, scrub, admitted work or access. -/
  | runBurstStart
  /-- GATE_TIMEOUT (R320): A gate close gets no quiescence within 1024 cycles and is abandoned. -/
  | gateTimeout (gate : Nat)
  /-- DEEP_ENTRY_RETRY (R320): 1 ms after an abandoned DEEP entry, PACER retries the entry. -/
  | deepEntryRetry
  /-- GATED_ACCESS (R321): A register access or doorbell reaches a gated block, opens its gate and completes. -/
  | gatedAccess (gate : Nat)
  /-- PACER_EVALUATE (R332): PACER computes the headroom and admits waiting class 2 and 3 invocations in strict order. -/
  | pacerEvaluate (energy : List Nat) (tj : BitVec 16)
  /-- PACER_WINDOW_START (R331): A PACER window begins: unspent budget goes to the pool, debt is repaid and P_base is updated.
  -/
  | pacerWindowStart
  /-- INVOCATION_DEADLINE (R205): An invocation has not been admitted by its deadline and becomes a BUDGET placeholder. -/
  | invocationDeadline (node : Nat) (num : Nat)
  /-- CLK_SOURCE_LOSS (R326): The selected clock source is lost, the PLLs enter holdover and LOST is flooded. -/
  | clkSourceLoss
  /-- CLK_HOLDOVER_END (R326): The PLLs lock to a new candidate, holdover ends and CLK_HOLDOVER is written. -/
  | clkHoldoverEnd
  /-- CLK_MISSING (R327): 2 us pass without an edge of a READY candidate, so SAFE_N is pulled low and MCD is set. -/
  | clkMissing
  /-- CLK_RETURN (R327): A clock runs again after the detector fired; SMON enters SAFE and CLK_MISSING is written. -/
  | clkReturn
  /-- CANDIDATE_READY_CHANGE (R324): A clock candidate becomes READY or stops being READY. -/
  | candidateReadyChange (c : Nat) (ready : Bool)
  /-- CLK_SRC_WRITE (R325): A write to CLK_SRC.SEL starts a switch to a READY candidate, or is refused. -/
  | clkSrcWrite (v : Word)
  /-- CLK_SWITCH (R325): A source switch completes and CLK_SWITCH is written. -/
  | clkSwitch
  /-- LINK_SIGNAL (R346): A port receives a signal and the link starts TRAINING. -/
  | linkSignal (p : Nat)
  /-- LINK_TRAINED (R346): Training completes and the link enters HELLO. -/
  | linkTrained (p : Nat)
  /-- LINK_UP (R346): 1 ms of clean HELLO control flits has passed, so the link enters UP. -/
  | linkUp (p : Nat)
  /-- LINK_DOWN (R350): A link loses signal, lock or flits, or exhausts its replays, enters FAILED and LINK_DOWN is written. -/
  | linkDown (p : Nat) (cause : Nat)
  /-- LINK_RETRAIN (R346): 1 ms after failure a FAILED link returns to TRAINING. -/
  | linkRetrain (p : Nat)
  /-- DATA_FLIT_RX (R348): A data flit is received: CRC and sequence are checked, ACK or NAK and credits are processed, and the
  flit is forwarded. -/
  | dataFlitRx (p : Nat) (flit : BitVec 256)
  /-- REPLAY_TIMEOUT (R348): No acknowledgment arrives within the replay time, so the sender replays from the oldest
  unacknowledged flit. -/
  | replayTimeout (p : Nat)
  /-- HELLO (R357): A HELLO control flit is received with the neighbour's identity. -/
  | hello (p : Nat) (adv : Nat) (key : Key) (nport : Nat) (naddr : Nat)
  /-- ELECT (R357): An ELECT control flit is received and the best key is updated. -/
  | elect (p : Nat) (key : Key) (hops : Nat)
  /-- ELECTION_WIN (R357): A device's own key has been advertised as best for 2 ms, so it becomes manager. -/
  | electionWin
  /-- RATE (R345): A RATE control flit settles a requested link rate change. -/
  | rate (p : Nat) (code : Nat)
  /-- RATE_SWITCH (R345): 2 us after the settling flit, both ends switch rate and retrain. -/
  | rateSwitch (p : Nat)
  /-- LOST (R368): A LOST control flit is received, so the device sets ORPHAN, passes LOST on and switches where it can. -/
  | lost (p : Nat) (die : Nat)
  /-- OFFER (R368): An OFFER control flit reaches an orphan, which switches to that port and passes OFFER on. -/
  | offer (p : Nat) (depth : Nat) (die : Nat)
  /-- CLK_REPAIR (R368): An orphan's clock switch completes, ORPHAN clears and CLK_REPAIR is written. -/
  | clkRepair
  /-- BATON (R375): The successor has been ORPHAN for 20 us without an OFFER, so it takes REFCLK, becomes root and sends OFFER.
  -/
  | baton
  /-- READ_PACKET_RX (R354): A READ packet is executed on the target and answered with a RESPONSE. -/
  | readPacketRx (pkt : Packet)
  /-- WRITE_PACKET_RX (R354): A WRITE packet is executed on the target and answered with a RESPONSE. -/
  | writePacketRx (pkt : Packet)
  /-- RESPONSE_RX (R355): A RESPONSE completes an outstanding request toward its client. -/
  | responseRx (pkt : Packet)
  /-- REQUEST_TIMEOUT (R355): A request goes unanswered within TMO; it is sent once more, or completes as a timeout after the
  second try. -/
  | requestTimeout (tag : Nat)
  /-- COMMAND_PACKET_RX (R394): A forwarded COMMAND packet is accepted by the target, answered and executed. -/
  | commandPacketRx (origin : Nat) (tag : Nat) (bytes : BitVec 256)
  /-- EVENT_PACKET_RX (R399): An EVENT packet is written or coalesced at the event home and acknowledged. -/
  | eventPacketRx (origin : Nat) (tag : Nat) (r : Rec)
  /-- EVENT_ACK_RX (R255): An EVENT_ACK releases blocks that the origin held for the third ordering promise. -/
  | eventAckRx (origin : Nat) (tag : Nat)
  /-- STREAM_REQ_RX (R252): A request for host-ring cells is granted in arrival order when space allows. -/
  | streamReqRx (pkt : Packet)
  /-- STREAM_GRANT_RX (R252): A grant lets the origin send the block's cells. -/
  | streamGrantRx (pkt : Packet)
  /-- STREAM_DATA_RX (R252): The cells of a block are written into the reserved ring cells, header last, and the block is
  acknowledged. -/
  | streamDataRx (pkt : Packet)
  /-- STREAM_ACK_RX (R252): A block acknowledgment advances the origin's send pointer and may end a capture or a closing stream.
  -/
  | streamAckRx (pkt : Packet)
  /-- STREAM_RESEND (R252): A block unacknowledged for 1 ms after a link loss, or after a reroute, is sent again with the same
  BSEQ. -/
  | streamResend (sid : Nat)
  /-- INFO (R358): MGMT INFO returns the device's identity and ports. -/
  | info (die : Nat) (tag : Nat)
  /-- SET_ADDR (R358): MGMT SET_ADDR sets FAB_ADDR. -/
  | setAddr (die : Nat) (addr : Nat)
  /-- RT_WRITE (R361): MGMT RT_WRITE writes routing entries into the shadow bank. -/
  | rtWrite (die : Nat) (entries : List (Nat × Nat))
  /-- ROLES (R358): MGMT ROLES sets the manager, standby, root and successor, and this device's depth. -/
  | roles (die : Nat) (manager : Nat) (standby : Nat) (root : Nat) (successor : Nat) (stbyDie : Nat) (rootDie : Nat) (depth : Nat) (ecc : Nat)
  /-- CLK_SEL (R363): MGMT CLK_SEL writes CLK_SRC.SEL, subject to R325. -/
  | clkSel (die : Nat) (sel : Nat)
  /-- HEARTBEAT (R364): The standby receives the manager's heartbeat. -/
  | heartbeat (die : Nat)
  /-- HEARTBEAT_SEND (R358): Every 1 ms the manager sends a heartbeat to the standby. -/
  | heartbeatSend
  /-- MIRROR (R358): MGMT MIRROR gives the standby the topology and addresses. -/
  | mirror (die : Nat) (topo : List Dev)
  /-- MGMT_RSP_RX (R358): The manager receives an answer to a MGMT operation during discovery. -/
  | mgmtRspRx (tag : Nat) (dev : Dev)
  /-- DISCOVERY_DONE (R359): The manager completes discovery and addresses, and writes FAB_ELECTED. -/
  | discoveryDone (topo : List Dev) (limited : List (Nat × Nat × Nat)) (roles : List Nat) (diameter : Nat)
  /-- REROUTE (R363): The manager computes a new tree after a failure report, writes shadow banks and broadcasts TABLE_COMMIT.
  -/
  | reroute (topo : List Dev) (lost : List Nat) (links : Nat) (plan : Routing)
  /-- TABLE_COMMIT (R362): A TABLE_COMMIT packet schedules the routing bank switch at T_c. -/
  | tableCommit (t : Time)
  /-- TABLE_SWITCH (R362): At T_c the shadow bank becomes active and EPOCH toggles. -/
  | tableSwitch
  /-- BANK_RETIRE (R362): 200 us after T_c the old bank is retired and late old-epoch packets are discarded. -/
  | bankRetire
  /-- STANDBY_TAKEOVER (R364): The standby takes over after all the manager's links are reported failed or three heartbeats are
  missed. -/
  | standbyTakeover
  /-- FAB_CHURN (R367): Topology changes within 10 ms are gathered, and one reroute begins 10 ms after the previous one. -/
  | fabChurn
  /-- VC_STALL (R367): A virtual channel waits for credit longer than STALL_T and is STOPPED at that port. -/
  | vcStall (p : Nat) (vc : Nat) (ms : Nat)
  /-- VC_RESUMED (R367): A write to FAB_CTRL.RESUME, or a reroute, resumes stopped virtual channels. -/
  | vcResumed (mask : Nat)
  /-- REELECT (R364): A write of 1 to FAB_CTRL.REELECT at the manager starts a full election and discovery. -/
  | reelect
  /-- FABRIC_JOIN (R365): A link between two formed fabrics joins the lower-ranked fabric to the other. -/
  | fabricJoin (p : Nat) (higher : Bool) (offset : Int)
  /-- TIME_EXCHANGE (R369): A timing exchange with the clock parent updates the offset average and steers the clock phase. -/
  | timeExchange (p : Nat) (flow : FlowSec) (times : TimeSec) (adv : Nat) (t4 : Time)
  /-- PTM_SAMPLE (R372): The root obtains a PTM time sample and steers the fabric frequency. -/
  | ptmSample (ns : BitVec 64)
  /-- PPS_IN_EDGE (R372): A PPS_IN rising edge gives a source time sample, and FAB_PPS_SEC increments. -/
  | ppsInEdge (t : Time)
  /-- TIME_LOST (R372): No source sample arrives for 3 s, and TIME_LOST is written. -/
  | timeLost
  /-- TIME_STEP (R374): A TIME_STEP packet schedules a step of fabric time at T_s. -/
  | timeStep (step : Int) (t : Time)
  /-- TIME_STEP_APPLY (R374): At T_s the device adds the step, restarts every filter chain and cancels pending snapshots. -/
  | timeStepApply
  /-- STARTER (R376): A STARTER packet arms a snapshot, or misses it as late or full. -/
  | starter (t : Time) (id : Nat) (origin : Nat)
  /-- SNAPSHOT_LATCH (R377): Local fabric time reaches T and every block latches its snapshot registers. -/
  | snapshotLatch
  /-- SNAP_DONE (R377): Latching completes, the snapshot region swaps whole, and SNAP_DONE is written. -/
  | snapDone
  /-- SYNC_OUT_SECOND (R463): At each whole fabric second SYNC_OUT rises, and it falls 100 ms later. -/
  | syncOutSecond (rise : Bool)
  /-- PCIE_L0 (R360): The PCIe link reaches L0 for the first time after PERST_N, and the device becomes host-attached. -/
  | pcieL0
  /-- PCIE_LINK_DOWN (R388): The link goes down; DMA, record writing and MSI-X stop while recording continues. -/
  | pcieLinkDown
  /-- D3HOT_ENTRY (R388): The function enters or leaves D3hot, and WAKE_N follows waiting DANGEROUS records. -/
  | d3hotEntry (enter : Bool)
  /-- MSIX_SEND (R387): A vector's COUNT or TIME moderation is reached and its MSI-X message is sent. -/
  | msixSend (v : Nat)
  /-- BAR2_READ (R385): A BAR2 read is served through port 4, with EP set on poisoned data. -/
  | bar2Read (addr : Nat) (size : Nat)
  /-- BAR2_WRITE (R385): A BAR2 write is accepted inside the host region or ignored and counted. -/
  | bar2Write (addr : Nat) (data : List (BitVec 8))
  /-- HR_CFG_ENABLE (R249): Enabling a host ring resets HEAD, TAIL and PHASE. -/
  | hrCfgEnable (r : Nat) (v : Word)
  /-- HR_TAIL_WRITE (R249): A write of HR_TAIL frees host-ring cells, or is ignored with TAIL_ERR. -/
  | hrTailWrite (r : Nat) (v : Nat)
  /-- HOST_RING_BLOCK_WRITE (R249): DMA writes a ready block into a host ring once there is room, data cells first and header
  last. -/
  | hostRingBlockWrite (r : Nat)
  /-- HOST_RING_STALL (R251): A block waits for ring space longer than HOLD_T, so STALL sets. -/
  | hostRingStall (r : Nat)
  /-- CMD_RING_ENABLE (R389): Enabling the command ring resets HEAD and TAIL. -/
  | cmdRingEnable (v : Word)
  /-- EQ_CFG_ENABLE (R397): Enabling an event queue resets HEAD, TAIL, PHASE and SEQ. -/
  | eqCfgEnable (q : Nat) (v : Word)
  /-- EQ_TAIL_WRITE (R397): A write of EQ_TAIL returns records, or is ignored with TAIL_ERR. -/
  | eqTailWrite (q : Nat) (v : Nat)
  /-- EVENT_RECORD_WRITE (R397): A record is written to its queue with an ORIGIN record if needed, or coalesced. -/
  | eventRecordWrite
  /-- EVENT_DEFERRED_DELIVERY (R399): A device can deliver again and sends its waiting records and coalesced counts to its home.
  -/
  | eventDeferredDelivery
  /-- RATE_LIMIT_INTERVAL_END (R479): A rate-limit interval of a key ends with suppressed occurrences, and one further record is
  written if the state differs. -/
  | rateLimitIntervalEnd (type : Nat) (key : Nat)
  /-- BASE_SAMPLE (R85): Every 64 AON cycles a base-rate sample of each P-channel is fused, checked, demodulated and passed to
  the filters. -/
  | baseSample (raws : List RawSample)
  /-- FUSION_UNCHECKED (R64): 2560 base samples pass without an eligible sample, so UNCHK sets. -/
  | fusionUnchecked (n : Nat)
  /-- FUS_DIFF_UPDATE (R59): 65 536 further eligible samples have been counted, so PCH_FUS_DIFF updates. -/
  | fusDiffUpdate (n : Nat)
  /-- OVERRANGE_LEAVE (R71): 256 base samples pass without an overrange base sample, and a leave record is written. -/
  | overrangeLeave (n : Nat)
  /-- PIN_RANGE (R20): An input ball crosses the ±4.6 V pin limit, and PIN_RANGE sets or clears. -/
  | pinRange (n : Nat) (ballN : Bool) (beyond : Bool)
  /-- INPUT_CLAMP (R21): An input clamp starts or stops conducting. -/
  | inputClamp (n : Nat) (ballN : Bool) (conducts : Bool)
  /-- CFG_CHANGE (R28): A committed change of gain, mode, reference, excitation or input takes effect at a base-sample boundary.
  -/
  | cfgChange (n : Nat)
  /-- MONITOR_OUTPUT (R95): A MONITOR sample is completed on its 32 kS/s grid and delivered to the latest-result register and
  stream. -/
  | monitorOutput (n : Nat)
  /-- STATIC_OUTPUT (R97): A STATIC window ends, its result is delivered and the next window's length is fixed. -/
  | staticOutput (n : Nat)
  /-- SEISMIC_OUTPUT (R107): A SEISMIC sample is completed on its grid and delivered. -/
  | seismicOutput (n : Nat)
  /-- MAINS_LOST (R100): No period is accepted for 100 ms, so VALID clears. -/
  | mainsLost (n : Nat)
  /-- RES_HI_READ (R78): A read of RES_HI latches the newest result into the reader's shadow and returns the high half. -/
  | resHiRead (who : Reader) (i : Nat)
  /-- RES_LO_READ (R79): A read of RES_LO returns the low half from the reader's shadow with its flags. -/
  | resLoRead (who : Reader) (i : Nat)
  /-- RES_64_READ (R80): A 64-bit read at RES_HI returns both halves from one latch. -/
  | res64Read (who : Reader) (i : Nat)
  /-- PCH_CFG_WRITE (R27): A write to PCH_CFG applies valid fields, rejects invalid ones, and queues the change for its
  boundary. -/
  | pchCfgWrite (n : Nat) (v : Word)
  /-- PCH_FUS_CFG_WRITE (R62): A write to PCH_FUS_CFG is applied subject to the SERVICE and FUS_N relations. -/
  | pchFusCfgWrite (n : Nat) (v : Word)
  /-- PCH_PLAUS_TH_WRITE (R61): A write of PCH_PLAUS_TH sets the threshold in use from the next base sample. -/
  | pchPlausThWrite (n : Nat) (v : Word)
  /-- PCH_FMT_WRITE (R69): A write to PCH_FMT changes the output formats and restarts the latest-result register on a change of
  RES_SRC. -/
  | pchFmtWrite (n : Nat) (v : Word)
  /-- PCH_STATIC_CFG_WRITE (R92): A write that changes the STATIC window configuration restarts the STATIC chain. -/
  | pchStaticCfgWrite (n : Nat) (v : Word)
  /-- PCH_SEIS_CFG_WRITE (R93): A write that changes RATE or PHASE restarts SEISMIC, or is refused while the output is consumed.
  -/
  | pchSeisCfgWrite (n : Nat) (v : Word)
  /-- EXC_CTRL_MODE_WRITE (R37): A write of EXC_CTRL.MODE changes the driver's mode, ramping or restarting after shutdown. -/
  | excCtrlModeWrite (k : Nat) (v : Word)
  /-- EXC_FIRE (R44): A write of 1 to EXC_CTRL.FIRE requests a pluck or sweep start. -/
  | excFire (k : Nat)
  /-- EXC_LEVEL_WRITE (R35): A write of VSET sets the excitation level, clamped at 50 000, with a ramp in DC or AC. -/
  | excLevelWrite (k : Nat) (v : Word)
  /-- EXC_RAMP_END (R37): The 1 ms excitation ramp ends and RAMP clears. -/
  | excRampEnd (k : Nat)
  /-- EXC_POLARITY_EDGE (R39): After H base samples the AC excitation polarity reverses. -/
  | excPolarityEdge (k : Nat)
  /-- EXC_PERIOD_TIMER (R44): The fabric-aligned start timer reaches PHASE + j x PERIOD and requests a start. -/
  | excPeriodTimer (k : Nat)
  /-- EXC_START (R42): A pluck pulse or sweep burst begins at a base-sample boundary and muting starts, or the start is dropped.
  -/
  | excStart (k : Nat)
  /-- EXC_RELEASE (R42): The pulse or burst ends, the force outputs go to high impedance, and EXCk_END is offered. -/
  | excRelease (k : Nat)
  /-- EXC_DONE (R45): The mute end is reached 100 us after release, and EXC_DONE is written. -/
  | excDone (k : Nat)
  /-- EXC_MONITOR_SAMPLE (R46): Each 1 ms the driver samples its sense voltage and current into EXC_MON. -/
  | excMonitorSample (k : Nat) (vmon : BitVec 16) (imon : BitVec 16) (limit : Bool) (sense : Bool)
  /-- EXC_FAULT (R46): A fault condition persists for its detection time, the fault bit sets, and OVERLOAD shuts the driver
  down. -/
  | excFault (k : Nat) (b : Nat)
  /-- CHECKER_SLOT_BOUNDARY (R112): A checker slot begins, with its length fixed and its point taken from the schedule. -/
  | checkerSlotBoundary (bank : Nat) (overload : Bool)
  /-- CHECKER_RESULT (R118): A slot's checker result is published in slot order and judged against the aligned value or
  tolerance. -/
  | checkerResult (bank : Nat) (r : BitVec 32) (owP : Bool) (owN : Bool)
  /-- CHECKER_CYCLE_END (R126): A checker cycle ends: drift filters and coefficients update, unchecked channels are judged and
  the detection bound is computed. -/
  | checkerCycleEnd (bank : Nat)
  /-- BANK_CFG_WRITE (R114): A write to a bank register is latched for the next cycle; CH_MASK changes are refused outside
  SERVICE. -/
  | bankCfgWrite (bank : Nat) (i : Nat) (v : Word)
  /-- NATIVE_SAMPLE (R151): A W-channel native sample is calibrated, decimated and delivered. -/
  | nativeSample (n : Nat) (r : BitVec 20)
  /-- W_OVERRANGE_LEAVE (R148): 8192 native samples pass without an overrange sample, and a leave record is written. -/
  | wOverrangeLeave (n : Nat)
  /-- W_CONVERTER_START (R164): A wake by a crossing, a mode change or a RUN setting starts a sleeping W converter. -/
  | wConverterStart (n : Nat)
  /-- W_CONVERTER_READY (R152): The converter delivers its first valid native sample within 2 us of its start. -/
  | wConverterReady (n : Nat)
  /-- W_CONVERTER_STOP (R164): 10 ms after a hit ends, a woken converter sleeps again unless the mode requires it. -/
  | wConverterStop (n : Nat)
  /-- WCH_CFG_WRITE (R153): A write to WCH_CFG changes gain, decimation or coupling and restarts the decimator, or is refused.
  -/
  | wchCfgWrite (n : Nat) (v : Word)
  /-- BASELINE_WINDOW (R162): A 1 ms window of native samples updates the floating hit baseline. -/
  | baselineWindow (h : Nat)
  /-- WM_TRANSITION (R158): A window monitor's input stays beyond a threshold for one decision time and it changes state. -/
  | wmTransition (i : Nat) (state : Nat) (t : Time)
  /-- WM_RESOLVE (R159): An UNRESOLVED monitor resolves into a state silently. -/
  | wmResolve (i : Nat) (state : Nat)
  /-- WM_CFG_WRITE (R159): A write to WM_CFG or WM_TH changes the monitor and may restart it in UNRESOLVED. -/
  | wmCfgWrite (i : Nat) (th : Bool) (v : Word)
  /-- WM_TIME_LO_READ (R161): A read of WM_TIME_LO latches the 64-bit time into the reader's shadow. -/
  | wmTimeLoRead (who : Reader) (i : Nat)
  /-- WM_TIME_HI_READ (R161): A read of WM_TIME_HI returns the high half from the reader's shadow. -/
  | wmTimeHiRead (who : Reader) (i : Nat)
  /-- HC_CROSSING (R163): A hit comparator crossing starts a hit, counts a crossing, or counts a lockout crossing. -/
  | hcCrossing (h : Nat) (x : Crossing)
  /-- HIT (R165): HDT passes without a crossing, so the hit ends, the HIT record is written and LOCKOUT begins. -/
  | hit (h : Nat)
  /-- HIT_TRUNCATED (R163): HMAX passes from t_first, so the hit ends with TRUNC. -/
  | hitTruncated (h : Nat)
  /-- HC_LOCKOUT_END (R163): HLT ends the lockout and the comparator returns to IDLE. -/
  | hcLockoutEnd (lock : TestDue)
  /-- COMP_SELF_TEST (R166): A comparator test falls due and runs while its unit is idle. -/
  | compSelfTest (test : TestDue)
  /-- COMP_TEST_RELEASE (R167): The test releases the comparator, judges the steps and reports any blind crossing. -/
  | compTestRelease (u : Nat) (failed : Option Nat) (t : Time) (differs : Option Nat)
  /-- COMP_UNTESTED (R166): No test completes within 1 s, so UNTESTED sets. -/
  | compUntested (u : Nat)
  /-- SYNC_IN_EDGE (R168): A SYNC_IN edge is timestamped as a start-unit source. -/
  | syncInEdge (t : Time) (rising : Bool)
  /-- START_SCHEDULE_TIMER (R168): A start unit's schedule timer reaches PHASE + j x PERIOD. -/
  | startScheduleTimer (n : Nat)
  /-- START_FIRED (R169): A start unit receives its source event, computes t_s and starts a capture. -/
  | startFired (n : Nat)
  /-- START_UNIT_IDLE (R170): t_s + LEN is reached and the start unit is no longer busy. -/
  | startUnitIdle (n : Nat)
  /-- NODE_READY (R180): A node's inputs hold their next frames or its event arrives, so it becomes ready with a deadline. -/
  | nodeReady (node : Nat)
  /-- INVOCATION_START (R182): A cluster starts the next ready invocation by class, deadline and ready time. -/
  | invocationStart (c : Nat)
  /-- INVOCATION_DONE (R183): An invocation completes, writes back its state, and releases its outputs in order after any class
  1 comparison. -/
  | invocationDone (c : Nat) (cycles : Nat) (differs : Option Nat)
  /-- CLUSTER_SELF_TEST (R193): A cluster runs its periodic self-test in idle cycles. -/
  | clusterSelfTest (c : Nat) (pass : Bool)
  /-- CL_CTRL_TEST (R191): A write of 1 to CL_CTRL.TEST runs the self-test at the next idle point. -/
  | clCtrlTest (c : Nat)
  /-- CL_CTRL_OFFLINE (R191): A write of 1 to CL_CTRL.OFFLINE in SERVICE declares a cluster fault. -/
  | clCtrlOffline (c : Nat)
  /-- CLUSTER_FAULT (R192): A cluster fails by self-test, uncorrectable error or overrun, is gated, and its placements move. -/
  | clusterFault (c : Nat) (cause : Nat)
  /-- CLUSTER_REPLACED (R192): Re-placement completes and lost invocations are repeated or replaced by placeholders. -/
  | clusterReplaced (c : Nat) (duration : Nat)
  /-- AGE_MS_EXPIRY (R240): AGE_MS passes since a block's first value, so the block is closed. -/
  | ageMsExpiry (sid : Nat)
  /-- BLOCK_WRITE (R244): A closed block is written into its history ring with its BSEQ. -/
  | blockWrite (sid : Nat)
  /-- STAGING_FULL (R245): Staging space returns after values were discarded, and a STAGING placeholder is written. -/
  | stagingFull (sid : Nat)
  /-- FLUSH_BURST (R14): PACER schedules a class 0 flush of VIGIL stream cells to DRAM before 75 % fill. -/
  | flushBurst
  /-- BLOCK_SEND (R246): The sender sends the next held block, replacing an unreadable header by a HEADER placeholder. -/
  | blockSend (sid : Nat) (head : List Nat) (index : Option Bool) (data : List (Nat × Nat))
  /-- DRAM_REQUEST (R272): The controller chooses and serves the next request on a channel by the priority order. -/
  | dramRequest (ch : Nat) (loads stores : List (Nat × Nat))
  /-- REFRESH_DUE (R275): A per-bank refresh falls due and is issued or postponed. -/
  | refreshDue (ch : Nat)
  /-- REFRESH_CATCHUP (R276): No urgent request waits, so postponed refreshes are issued back to back. -/
  | refreshCatchup (ch : Nat)
  /-- DRAM_TEMP_READ (R275): Every 16 ms the DRAM temperature is read and the refresh multiplier set. -/
  | dramTempRead (temp : BitVec 16)
  /-- REFRESH_WINDOW_START (R277): A 32 ms refresh window begins and the activation tables are cleared. -/
  | refreshWindowStart
  /-- POWER_DOWN_ENTRY (R279): A channel is idle for 64 clocks and enters power-down. -/
  | powerDownEntry (ch : Nat)
  /-- SELF_REFRESH_ENTRY (R279): On entry to DEEP with queues empty, the DRAM enters self-refresh. -/
  | selfRefreshEntry
  /-- MPLL_STOP (R279): 20 us after self-refresh entry without a request, the M-PLL stops. -/
  | mpllStop
  /-- SELF_REFRESH_EXIT (R281): A request leads the DRAM out of self-refresh, with any training due. -/
  | selfRefreshExit
  /-- PERIODIC_TRAINING (R282): Every 1 s a channel's timing check runs. -/
  | periodicTraining (ch : Nat)
  /-- FULL_TRAINING (R282): The temperature has moved 5 C from T_TRAIN, so full training of each channel starts. -/
  | fullTraining (ch : Nat)
  /-- TRAINING_DONE (R283): A training ends and applies its settings, or is repeated and may fail. -/
  | trainingDone (ch : Nat) (ok : Bool)
  /-- DRC_CFG_WRITE (R284): A write to DRC_CFG changes the operating point of the present mode, requesting a change. -/
  | drcCfgWrite (v : Word)
  /-- OP_POINT_CHANGE (R284): A requested operating-point change begins now, or is deferred or replaced. -/
  | opPointChange
  /-- DRC_FREQ_DONE (R284): An operating-point change completes and DRC_FREQ_DONE is written. -/
  | drcFreqDone (end_ : ChangeEnd)
  /-- DRC_PORT_TGT_WRITE (R270): A write of a port latency target applies to later requests. -/
  | drcPortTgtWrite (p : Nat) (v : Word)
  /-- DRAM_CELL_READ (R289): A cell read is classified by syndrome, then corrected, logged or marked poisoned. -/
  | dramCellRead (port : Nat) (cell : Nat) (flips : List Nat)
  /-- ECC_WRITEBACK (R296): A cell corrected three times in one lap is written back within 10 us. -/
  | eccWriteback (cell : Nat)
  /-- FULL_CELL_WRITE (R290): A full-cell write stores new check bits and clears poison. -/
  | fullCellWrite (port : Nat) (cell : Nat) (data : Nat) (attr : Nat) (poison : Bool)
  /-- NARROW_WRITE (R291): A narrow write merges into the merge buffer, flushing an entry when full or displaced. -/
  | narrowWrite (port : Nat) (cell : Nat) (data : Nat) (mask : Nat)
  /-- MERGE_FLUSH (R292): An incomplete merge entry is flushed by age, by a read or before a self-refresh, as a read-modify-
  write. -/
  | mergeFlush (cell : Nat) (flips : List Nat)
  /-- SCRUB_READ (R302): The scrubber reads the next cell in an idle cycle and corrects or poisons it. -/
  | scrubRead (flips : List Nat)
  /-- ECC_SCRUB_LAP_DONE (R302): A scrub lap ends, its time is stored and lap counts reset. -/
  | eccScrubLapDone
  /-- SRAM_READ (R304): An SRAM word read corrects a single error or poisons the word. -/
  | sramRead (region : Nat) (addr : Nat) (ue : Bool)
  /-- ECC_LOG_CLR (R295): A write of 1 to ECC_LOG_CTRL.CLR removes non-WEAK log entries. -/
  | eccLogClr
  /-- ECC_LOG_SEL (R308): A write of ECC_LOG_CTRL.SEL copies a log entry into the reader's window. -/
  | eccLogSel (who : Reader) (i : Nat)
  /-- ECC_INJ_ARM (R309): A write of ECC_INJ.MODE in SERVICE arms an error injection for the next write of its cell. -/
  | eccInjArm (v : Word)
  /-- ABSENT_UNIT_WRITE (R5): A write to an absent unit is ignored and counted in DEV_ABSENT_WR. -/
  | absentUnitWrite (who : Reader) (off : Nat)
  /-- DEV_ABSENT_WR_CLEAR (R451): A write of 0 clears DEV_ABSENT_WR, keeping a same-cycle count. -/
  | devAbsentWrClear (also : Option (Reader × Nat))
  /-- READ_CLEAR (R9): A read of an RC field returns its value and clears it. -/
  | readClear (who : Reader) (off : Nat) (size : Nat)
  /-- REGISTER_WRITE (R9): A write to a register without a row of its own acts by field access type and crosses domains. -/
  | registerWrite (who : Reader) (off : Nat) (size : Nat) (data : Nat)
  /-- JTAG_EXTEST (R468): EXTEST or CLAMP becomes the current instruction and holds the device in COLD reset; leaving it
  restarts BOOT. -/
  | jtagExtest (on : Bool) (levels : List Bool)
  /-- MODE_TIMER_ON_END (R312): The ON interval of the mode timer ends, so a SURVEY whose SURVEY_IDLE has already passed returns
  to VIGIL, and a waiting timer wake stops persisting. -/
  | modeTimerOnEnd
  /-- WAKE_CAUSE_DROPPED (R338): A mode change waiting at the wake gate is dropped, because its WAKE or BURST trigger cause has
  stopped persisting after SURVEY_IDLE or BURST_HOLD. -/
  | wakeCauseDropped
  /-- PCIE_LINK_RETURN (R388): The PCIe link returns to L0 after a loss, and DMA, record writing and MSI-X resume on a device
  that is already host-attached. -/
  | pcieLinkReturn
  /-- THERMAL_EMERGENCY_END (R333): The die temperature falls 5 C below EMERG, so the THERMAL cause clears and the clusters may
  run invocations again. -/
  | thermalEmergencyEnd (tj : BitVec 16)
  /-- SAF_SUP_CHANGE (R431): A rail or the primary reference leaves or re-enters its window, so SAF_SUP changes at once and the
  100 us trip or the 10 ms clearing interval starts. -/
  | safSupChange (i : Nat) (out : Bool)
  /-- BOOT_DONE (R404): BOOT ends: the base index phase is set, filters start and the start mode is entered. -/
  | bootDone
  /-- POWER_ON (R459): A supply rail rises from below 0.3 V and the device holds itself in COLD reset. -/
  | powerOn
  /-- COLD_RESET_END (R459): Every rail has stayed inside its SMON window for 10 ms, so COLD reset ends and BOOT may begin. -/
  | coldResetEnd
  /-- RAIL_BELOW_COLD (R431): A rail falls below its COLD threshold and the device is reset as COLD. -/
  | railBelowCold
  /-- PERST_N_ASSERT (R467): PERST_N stays low for at least 10 us, which is a WARM reset that takes down links and ends roles.
  -/
  | perstNAssert
  /-- PERST_N_RELEASE (R467): PERST_N rises and BOOT begins, or restarts if it was in progress. -/
  | perstNRelease
  /-- SMON_LOCKSTEP_MISMATCH (R430): The two SMON copies disagree, and the comparator pulls SAFE_N low and asserts every alarm
  output. -/
  | smonLockstepMismatch
  /-- ALARM_EVALUATE (R433): In each AON cycle SMON evaluates every alarm output from its sources, faults, mode and force. -/
  | alarmEvaluate
  /-- SAF_FORCE_SAFE (R446): A write of 1 to SAF_FORCE.SAFE in SERVICE enters SAFE with cause TEST. -/
  | safForceSafe
  /-- FW_START_TIMEOUT (R410): The firmware gives no start report within 100 ms, and the slot fails with FW_SIZE. -/
  | fwStartTimeout
  /-- BOOT_RETRY (R412): A write of 1 to BOOT_CTRL.RETRY while BOOT has failed or the MC is held restarts BOOT. -/
  | bootRetry
  /-- MC_RESTART (R420): The restarted MC is running: in-flight commands complete REFUSED MC_RESTART, or the MC is held after a
  third restart. -/
  | mcRestart
  /-- COMPLETION (R396): A command's result is decided and its completion record is written in submission order. -/
  | completion
  /-- MODE_CHANGE_INSTANT (R314): A mode change takes effect at a base-rate sample boundary and its entry actions start. -/
  | modeChangeInstant
  /-- MODE_CHANGE (R314): The entry actions of a mode change complete; MODE_CHANGE is written and any waiting causes are taken
  up. -/
  | modeChange
  /-- MODE_TIMER_ON (R312): The ON interval of the mode timer begins at a multiple of PER and causes a wake. -/
  | modeTimerOn
deriving DecidableEq, Repr

end Sys2Proof
end

