-- ==== Sys2Proof/Decode.lean ====
section
/-!
DEFINITION. The decoder of spec/opcode_table.json. The table gives none of its rows any bits, so no word spells a command (log entry 30, DESIGN CHOICE).
-/
namespace Sys2Proof

/-- The command that a word spells by the table's bits: none, since no row has any. -/
def decodeTableWord (_nbits _w : Nat) : Option Instr := none

end Sys2Proof
end

