-- ==== Sys2Proof/Machine/Flags.lean ====
section
/-!
DEFINITION. The arithmetic of register fields and of the spec's number forms: reading and replacing a field of a word, counters
that saturate, signed halves, floor division and rounding, saturation to a width.
-/
namespace Sys2Proof.Machine

/-- How many bits a field has. -/
def fieldWidth (f : Field) : Nat := f.hi + 1 - f.lo

/-- The number that field `f` of word `w` holds. -/
def getField (f : Field) (w : Word) : Nat := (w.toNat / 2 ^ f.lo) % 2 ^ (fieldWidth f)

/-- Word `w` with field `f` holding `v`, modulo the field's size; every other bit unchanged. -/
def putField (f : Field) (w : Word) (v : Nat) : Word :=
  BitVec.ofNat 32 (w.toNat / 2 ^ (f.hi + 1) * 2 ^ (f.hi + 1) + (v % 2 ^ (fieldWidth f)) * 2 ^ f.lo + w.toNat % 2 ^ f.lo)

/-- The bits of field `f` as a mask. -/
def maskOf (f : Field) : Word := putField f 0 (2 ^ (fieldWidth f) - 1)

/-- The bits of several fields as a mask. -/
def maskAll (fs : List Field) : Word := fs.foldl (fun m f => m ||| maskOf f) 0

/-- One count more, stopping at the largest number of a `w`-bit counter. -/
def satInc (w n : Nat) : Nat := if n + 1 < 2 ^ w then n + 1 else 2 ^ w - 1

/-- A number of a `w`-bit two's complement field. -/
def signedOf (w n : Nat) : Int := if n % 2 ^ w < 2 ^ (w - 1) then (n % 2 ^ w : Nat) else ((n % 2 ^ w : Nat) : Int) - 2 ^ w

/-- The `w`-bit two's complement form of an integer. -/
def twos (w : Nat) (x : Int) : Nat := (x % (2 ^ w : Int)).toNat

/-- An integer limited to the `w`-bit two's complement range. -/
def satSigned (w : Nat) (x : Int) : Int :=
  if x < -(2 ^ (w - 1)) then -(2 ^ (w - 1)) else if x > 2 ^ (w - 1) - 1 then 2 ^ (w - 1) - 1 else x

/-- An integer limited to the span from `lo` to `hi`. -/
def clampInt (lo hi x : Int) : Int := if x < lo then lo else if x > hi then hi else x

/-- Arithmetic shift right: floor division by a power of two. -/
def asr (x : Int) (n : Nat) : Int := x.fdiv (2 ^ n)

/-- Round to nearest with halves up: floor of x / d + 1/2. -/
def roundDiv (x : Int) (d : Nat) : Int := (2 * x + d).fdiv (2 * d)

/-- Bit `i` of a number. -/
def bitAt (n i : Nat) : Bool := (n / 2 ^ i) % 2 == 1

/-- A Boolean as a bit. -/
def bit (b : Bool) : Nat := if b then 1 else 0

end Sys2Proof.Machine
end

