-- ==== Sys2Proof/Machine/RegMap.lean ====
section
/-!
DEFINITION. The register map of BAR0 (R447): every register of the spec's register tables with its address, its fields,
the access type of each bit (R9), its reset value and its reset domain (R11). The tables of R49, R50, R83, R84, R109,
R144, R145, R172, R173, R196, R266, R287, R308, R341, R342, R380, R381, R402, R422, R446 and R452 are written out
here bit for bit; what a read or a write DOES beyond its access type stands in `Machine/RegFile.lean`.
-/
namespace Sys2Proof.Machine

/-! ### Addresses: BAR0 offset of each register, by unit instance and, for arrays, by index -/

/- R447, R452 DEV -/
def Reg.DEV_ID : Nat := 0x0
def Reg.DEV_VARIANT : Nat := 0x4
def Reg.DEV_PCI_ID : Nat := 0x8
def Reg.DEV_CAP0 : Nat := 0xC
def Reg.DEV_CAP1 : Nat := 0x10
def Reg.DEV_PCH_MASK0 : Nat := 0x20
def Reg.DEV_PCH_MASK1 : Nat := 0x24
def Reg.DEV_UNIT_MASK : Nat := 0x28
def Reg.DEV_UNIT_MASK1 : Nat := 0x2C
def Reg.DEV_WM_MASK0 : Nat := 0x30
def Reg.DEV_WM_MASK1 : Nat := 0x34
def Reg.DEV_WM_MASK2 : Nat := 0x38
def Reg.DEV_FW : Nat := 0x40
def Reg.DEV_ABSENT_WR : Nat := 0x50
def Reg.DEV_ABSENT_ADDR : Nat := 0x54
def Reg.DEV_EV_LOST : Nat := 0x58

/- R447, R341 MODE and PACER -/
def Reg.MODE_ID : Nat := 0x1000
def Reg.MODE_STAT : Nat := 0x1004
def Reg.MODE_POLICY : Nat := 0x1008
def Reg.MODE_TMR : Nat := 0x100C
def Reg.MODE_CNT : Nat := 0x1010
def Reg.PACER_CFG : Nat := 0x1100
def Reg.PACER_BUD_V : Nat := 0x1104
def Reg.PACER_BUD_S : Nat := 0x1108
def Reg.PACER_RES : Nat := 0x110C
def Reg.PACER_THERM : Nat := 0x1110
def Reg.PACER_USED : Nat := 0x1114
def Reg.PACER_HEAD : Nat := 0x1118
def Reg.PACER_POOL : Nat := 0x111C
def Reg.PACER_BASE_V : Nat := 0x1120
def Reg.PACER_BASE_S : Nat := 0x1124
def Reg.PACER_BORROW : Nat := 0x1128
def Reg.PACER_DEFER : Nat := 0x112C
def Reg.PACER_STAT : Nat := 0x1130
def Reg.PACER_E (j : Nat) : Nat := 0x1140 + 0x4 * j

/- R447, R342 CLK -/
def Reg.CLK_ID : Nat := 0x2000
def Reg.CLK_SRC : Nat := 0x2004
def Reg.CLK_READY : Nat := 0x2008
def Reg.CLK_PRIO : Nat := 0x200C
def Reg.CLK_STAT : Nat := 0x2010
def Reg.CLK_HOLD_CNT : Nat := 0x2014
def Reg.CLK_HOLD_T : Nat := 0x2018
def Reg.CLK_GATE_RUN : Nat := 0x2020
def Reg.CLK_GATE_SLEEP : Nat := 0x2024
def Reg.CLK_GATE_DEEP : Nat := 0x2028
def Reg.CLK_GATE_OPEN : Nat := 0x202C
def Reg.CLK_GATE_TO : Nat := 0x2030
def Reg.CLK_WAKE_ACC : Nat := 0x2034

/- R446 SAF, common part -/
def Reg.SAF_ID : Nat := 0x3000
def Reg.SAF_STAT : Nat := 0x3004
def Reg.SAF_CAUSE : Nat := 0x3008
def Reg.SAF_CAUSE_S : Nat := 0x300C
def Reg.SAF_VER0 : Nat := 0x3010
def Reg.SAF_VER1 : Nat := 0x3014
def Reg.SAF_SET0 : Nat := 0x3018
def Reg.SAF_SET1 : Nat := 0x301C
def Reg.SAF_W : Nat := 0x3020
def Reg.SAF_SUP : Nat := 0x3024
def Reg.SAF_DTB : Nat := 0x3028
def Reg.SAF_FORCE : Nat := 0x302C
def Reg.SAF_CNT : Nat := 0x3030

/- R446 SAF alarm output n -/
def Reg.SAF_ALM_CFG (n : Nat) : Nat := 0x3100 + 0x20 * n
def Reg.SAF_ALM_CH0 (n : Nat) : Nat := 0x3104 + 0x20 * n
def Reg.SAF_ALM_CH1 (n : Nat) : Nat := 0x3108 + 0x20 * n
def Reg.SAF_ALM_HOLD (n : Nat) : Nat := 0x310C + 0x20 * n
def Reg.SAF_ALM_STAT (n : Nat) : Nat := 0x3110 + 0x20 * n

/- R402 HIF, common part -/
def Reg.HIF_ID : Nat := 0x4000
def Reg.HIF_STAT : Nat := 0x4004
def Reg.HIF_WIN_BASE : Nat := 0x4008
def Reg.HIF_WIN_DROP : Nat := 0x400C
def Reg.HIF_BAD_ACC : Nat := 0x4010
def Reg.HIF_DMA_WGT : Nat := 0x4014
def Reg.HIF_DMA_BUSY : Nat := 0x4018
def Reg.HIF_CMD_BASE_LO : Nat := 0x4040
def Reg.HIF_CMD_BASE_HI : Nat := 0x4044
def Reg.HIF_CMD_CFG : Nat := 0x4048
def Reg.HIF_CMD_DB : Nat := 0x404C
def Reg.HIF_CMD_HEAD : Nat := 0x4050
def Reg.HIF_CMD_STAT : Nat := 0x4054
def Reg.HIF_CMD_CNT : Nat := 0x4058
def Reg.HIF_EQ_ROUTE : Nat := 0x4080
def Reg.HIF_TYPE_SEL : Nat := 0x4084
def Reg.HIF_TYPE_INFO : Nat := 0x4088
def Reg.HIF_VMOD (j : Nat) : Nat := 0x40C0 + 0x4 * j

/- R402 event queue q -/
def Reg.EQ_BASE_LO (q : Nat) : Nat := 0x4100 + 0x20 * q
def Reg.EQ_BASE_HI (q : Nat) : Nat := 0x4104 + 0x20 * q
def Reg.EQ_CFG (q : Nat) : Nat := 0x4108 + 0x20 * q
def Reg.EQ_HEAD (q : Nat) : Nat := 0x410C + 0x20 * q
def Reg.EQ_TAIL (q : Nat) : Nat := 0x4110 + 0x20 * q
def Reg.EQ_STAT (q : Nat) : Nat := 0x4114 + 0x20 * q
def Reg.EQ_LOST (q : Nat) : Nat := 0x4118 + 0x20 * q
def Reg.EQ_SEQ (q : Nat) : Nat := 0x411C + 0x20 * q

/- R402 MSI-X table, laid out as PCI Express defines it -/
def Reg.MSIX_ADDR_LO (v : Nat) : Nat := 0x4800 + 0x10 * v
def Reg.MSIX_ADDR_HI (v : Nat) : Nat := 0x4804 + 0x10 * v
def Reg.MSIX_DATA (v : Nat) : Nat := 0x4808 + 0x10 * v
def Reg.MSIX_CTRL (v : Nat) : Nat := 0x480C + 0x10 * v

/- R402 MSI-X pending bit array -/
def Reg.MSIX_PBA : Nat := 0x4900

/- R381 SNP -/
def Reg.SNP_ID : Nat := 0x5000
def Reg.SNP_STAT : Nat := 0x5004
def Reg.SNP_ORIGIN : Nat := 0x5008
def Reg.SNP_T_LO : Nat := 0x500C
def Reg.SNP_T_HI : Nat := 0x5010
def Reg.SNP_NEXT_LO : Nat := 0x5014
def Reg.SNP_NEXT_HI : Nat := 0x5018
def Reg.SNP_MISS_CNT : Nat := 0x501C

/- R422 BOOT -/
def Reg.BOOT_ID : Nat := 0x6000
def Reg.BOOT_STAT : Nat := 0x6004
def Reg.BOOT_ERRA : Nat := 0x6008
def Reg.BOOT_ERRB : Nat := 0x600C
def Reg.BOOT_IMG : Nat := 0x6010
def Reg.BOOT_TIME : Nat := 0x6014
def Reg.BOOT_FLASH : Nat := 0x6018
def Reg.BOOT_CTRL : Nat := 0x601C
def Reg.MC_LOAD : Nat := 0x6020
def Reg.MC_WDOG : Nat := 0x6024

/- R380 FAB, common part -/
def Reg.FAB_ID : Nat := 0x8000
def Reg.FAB_CFG : Nat := 0x8004
def Reg.FAB_STAT : Nat := 0x8008
def Reg.FAB_ADDR : Nat := 0x800C
def Reg.FAB_ROLES0 : Nat := 0x8010
def Reg.FAB_ROLES1 : Nat := 0x8014
def Reg.FAB_DIE_LO : Nat := 0x8018
def Reg.FAB_DIE_HI : Nat := 0x801C
def Reg.FAB_SIZE : Nat := 0x8020
def Reg.FAB_CTRL : Nat := 0x8024
def Reg.FAB_VC : Nat := 0x8028
def Reg.FAB_CNT : Nat := 0x802C
def Reg.FAB_DROP : Nat := 0x8030
def Reg.FAB_TIME_LO : Nat := 0x8040
def Reg.FAB_TIME_HI : Nat := 0x8044
def Reg.FAB_TIME_CFG : Nat := 0x8048
def Reg.FAB_TIME_OFS_LO : Nat := 0x804C
def Reg.FAB_TIME_OFS_HI : Nat := 0x8050
def Reg.FAB_PPS_SEC : Nat := 0x8054
def Reg.FAB_FREQ : Nat := 0x8058
def Reg.FAB_THETA : Nat := 0x805C

/- R380 fabric port n -/
def Reg.FP_CFG (n : Nat) : Nat := 0x8100 + 0x40 * n
def Reg.FP_STAT (n : Nat) : Nat := 0x8104 + 0x40 * n
def Reg.FP_NBR_LO (n : Nat) : Nat := 0x8108 + 0x40 * n
def Reg.FP_NBR_HI (n : Nat) : Nat := 0x810C + 0x40 * n
def Reg.FP_NBR_ADDR (n : Nat) : Nat := 0x8110 + 0x40 * n
def Reg.FP_DELAY (n : Nat) : Nat := 0x8114 + 0x40 * n
def Reg.FP_CRC_CNT (n : Nat) : Nat := 0x8118 + 0x40 * n
def Reg.FP_REPLAY_CNT (n : Nat) : Nat := 0x811C + 0x40 * n
def Reg.FP_DOWN_CNT (n : Nat) : Nat := 0x8120 + 0x40 * n
def Reg.FP_UTIL (n : Nat) : Nat := 0x8124 + 0x40 * n

/- R49, R83, R109 PCH -/
def Reg.PCH_ID (n : Nat) : Nat := 0x10000 + 0x100 * n
def Reg.PCH_CFG (n : Nat) : Nat := 0x10004 + 0x100 * n
def Reg.PCH_STAT (n : Nat) : Nat := 0x1000C + 0x100 * n
def Reg.PCH_FMT (n : Nat) : Nat := 0x10010 + 0x100 * n
def Reg.PCH_FUS_CFG (n : Nat) : Nat := 0x10014 + 0x100 * n
def Reg.PCH_PLAUS_TH (n : Nat) : Nat := 0x10018 + 0x100 * n
def Reg.PCH_PLAUS_EFF (n : Nat) : Nat := 0x1001C + 0x100 * n
def Reg.PCH_CONV_STAT (n : Nat) : Nat := 0x10020 + 0x100 * n
def Reg.PCH_FUS_DIFF (n : Nat) : Nat := 0x10024 + 0x100 * n
def Reg.PCH_FUS_CNT (n : Nat) : Nat := 0x10028 + 0x100 * n
def Reg.PCH_OVR_CNT (n : Nat) : Nat := 0x1002C + 0x100 * n
def Reg.PCH_STATIC_CFG (n : Nat) : Nat := 0x10040 + 0x100 * n
def Reg.PCH_STATIC_TIME (n : Nat) : Nat := 0x10044 + 0x100 * n
def Reg.PCH_MTRK (n : Nat) : Nat := 0x10048 + 0x100 * n
def Reg.PCH_MAINS_PER (n : Nat) : Nat := 0x1004C + 0x100 * n
def Reg.PCH_SEIS_CFG (n : Nat) : Nat := 0x10050 + 0x100 * n
def Reg.PCH_TS_ADJ (n : Nat) : Nat := 0x10054 + 0x100 * n
def Reg.PCH_FLT_STAT (n : Nat) : Nat := 0x10058 + 0x100 * n
def Reg.PCH_STATIC_LAST (n : Nat) : Nat := 0x1005C + 0x100 * n
def Reg.PCH_SEIS_DELAY (n : Nat) : Nat := 0x10060 + 0x100 * n
def Reg.PCH_COEF_SEL (n : Nat) : Nat := 0x10064 + 0x100 * n
def Reg.PCH_COEF_DATA (n : Nat) : Nat := 0x10068 + 0x100 * n

/- R144 BANK -/
def Reg.BANK_ID (m : Nat) : Nat := 0x14000 + 0x200 * m
def Reg.BANK_CFG (m : Nat) : Nat := 0x14004 + 0x200 * m
def Reg.BANK_TIME (m : Nat) : Nat := 0x14008 + 0x200 * m
def Reg.BANK_FAST (m : Nat) : Nat := 0x1400C + 0x200 * m
def Reg.BANK_TOL (m : Nat) : Nat := 0x14010 + 0x200 * m
def Reg.BANK_REF_TOL (m : Nat) : Nat := 0x14014 + 0x200 * m
def Reg.BANK_STAT (m : Nat) : Nat := 0x14018 + 0x200 * m
def Reg.BANK_DROP_CNT (m : Nat) : Nat := 0x1401C + 0x200 * m
def Reg.BANK_CYCLE_T (m : Nat) : Nat := 0x14020 + 0x200 * m
def Reg.BANK_TEMP (m : Nat) : Nat := 0x14024 + 0x200 * m
def Reg.BANK_S (m : Nat) : Nat := 0x14028 + 0x200 * m
def Reg.BANK_M (m : Nat) : Nat := 0x1402C + 0x200 * m
def Reg.BANK_ZERO (m : Nat) : Nat := 0x14030 + 0x200 * m
def Reg.CHK_CH_STAT (m j : Nat) : Nat := 0x14040 + 0x200 * m + 0x20 * j
def Reg.CHK_CH_A_LO (m j : Nat) : Nat := 0x14044 + 0x200 * m + 0x20 * j
def Reg.CHK_CH_K_LO (m j : Nat) : Nat := 0x14048 + 0x200 * m + 0x20 * j
def Reg.CHK_CH_HI (m j : Nat) : Nat := 0x1404C + 0x200 * m + 0x20 * j
def Reg.CHK_CH_DIFF (m j : Nat) : Nat := 0x14050 + 0x200 * m + 0x20 * j
def Reg.CHK_CH_TOTAL (m j : Nat) : Nat := 0x14054 + 0x200 * m + 0x20 * j
def Reg.BANK_PT_ZERO (m : Nat) : Nat := 0x14140 + 0x200 * m
def Reg.BANK_PT_PREF (m : Nat) : Nat := 0x14144 + 0x200 * m
def Reg.BANK_PT_NREF (m : Nat) : Nat := 0x14148 + 0x200 * m
def Reg.BANK_PT_TEMP (m : Nat) : Nat := 0x1414C + 0x200 * m

/- R50 EXC -/
def Reg.EXC_ID (k : Nat) : Nat := 0x15000 + 0x40 * k
def Reg.EXC_CTRL (k : Nat) : Nat := 0x15004 + 0x40 * k
def Reg.EXC_LEVEL (k : Nat) : Nat := 0x15008 + 0x40 * k
def Reg.EXC_AC (k : Nat) : Nat := 0x1500C + 0x40 * k
def Reg.EXC_VW (k : Nat) : Nat := 0x15010 + 0x40 * k
def Reg.EXC_PER (k : Nat) : Nat := 0x15014 + 0x40 * k
def Reg.EXC_SWEEP0 (k : Nat) : Nat := 0x15018 + 0x40 * k
def Reg.EXC_SWEEP1 (k : Nat) : Nat := 0x1501C + 0x40 * k
def Reg.EXC_LIM (k : Nat) : Nat := 0x15020 + 0x40 * k
def Reg.EXC_STAT (k : Nat) : Nat := 0x15024 + 0x40 * k
def Reg.EXC_MON (k : Nat) : Nat := 0x15028 + 0x40 * k
def Reg.EXC_PHASE (k : Nat) : Nat := 0x1502C + 0x40 * k

/- R145 CAL -/
def Reg.CAL_ID : Nat := 0x16000
def Reg.CAL_SEL : Nat := 0x16004
def Reg.CAL_STAT : Nat := 0x16008
def Reg.CAL_WIN (j : Nat) : Nat := 0x16040 + 0x4 * j

/- R172 WCH -/
def Reg.WCH_ID (n : Nat) : Nat := 0x18000 + 0x400 * n
def Reg.WCH_CFG (n : Nat) : Nat := 0x18004 + 0x400 * n
def Reg.WCH_STAT (n : Nat) : Nat := 0x18008 + 0x400 * n
def Reg.WCH_TS_ADJ (n : Nat) : Nat := 0x1800C + 0x400 * n
def Reg.WCH_DELAY (n : Nat) : Nat := 0x18010 + 0x400 * n
def Reg.WCH_OVR_CNT (n : Nat) : Nat := 0x18014 + 0x400 * n
def Reg.WCH_WAKE_CNT (n : Nat) : Nat := 0x18018 + 0x400 * n
def Reg.WCH_ST_CFG (n : Nat) : Nat := 0x18040 + 0x400 * n
def Reg.WCH_ST_DELAY (n : Nat) : Nat := 0x18044 + 0x400 * n
def Reg.WCH_ST_LEN (n : Nat) : Nat := 0x18048 + 0x400 * n
def Reg.WCH_ST_PER (n : Nat) : Nat := 0x1804C + 0x400 * n
def Reg.WCH_ST_PHASE (n : Nat) : Nat := 0x18050 + 0x400 * n
def Reg.WCH_ST_STAT (n : Nat) : Nat := 0x18054 + 0x400 * n

/- R173 window monitor i -/
def Reg.WM_ID (i : Nat) : Nat := 0x1A000 + 0x20 * i
def Reg.WM_CFG (i : Nat) : Nat := 0x1A004 + 0x20 * i
def Reg.WM_TH (i : Nat) : Nat := 0x1A008 + 0x20 * i
def Reg.WM_STAT (i : Nat) : Nat := 0x1A00C + 0x20 * i
def Reg.WM_TIME_LO (i : Nat) : Nat := 0x1A010 + 0x20 * i
def Reg.WM_TIME_HI (i : Nat) : Nat := 0x1A014 + 0x20 * i
def Reg.WM_CNT (i : Nat) : Nat := 0x1A018 + 0x20 * i

/- R173 hit comparator h -/
def Reg.HC_ID (h : Nat) : Nat := 0x1B000 + 0x40 * h
def Reg.HC_CFG (h : Nat) : Nat := 0x1B004 + 0x40 * h
def Reg.HC_LEVEL (h : Nat) : Nat := 0x1B008 + 0x40 * h
def Reg.HC_RAMP (h : Nat) : Nat := 0x1B00C + 0x40 * h
def Reg.HC_TIMING0 (h : Nat) : Nat := 0x1B010 + 0x40 * h
def Reg.HC_TIMING1 (h : Nat) : Nat := 0x1B014 + 0x40 * h
def Reg.HC_BASE (h : Nat) : Nat := 0x1B018 + 0x40 * h
def Reg.HC_STAT (h : Nat) : Nat := 0x1B01C + 0x40 * h
def Reg.HC_HIT_CNT (h : Nat) : Nat := 0x1B020 + 0x40 * h
def Reg.HC_LOCK_CNT (h : Nat) : Nat := 0x1B024 + 0x40 * h

/- R173 CMP, common part -/
def Reg.CMP_ID : Nat := 0x1B400
def Reg.CMP_STCFG : Nat := 0x1B404
def Reg.CMP_SYNC : Nat := 0x1B408

/- R196 ENG, common part -/
def Reg.ENG_ID : Nat := 0x20000
def Reg.ENG_CFG : Nat := 0x20004
def Reg.ENG_STAT : Nat := 0x20008
def Reg.ENG_GRAPH_ID : Nat := 0x2000C
def Reg.ENG_EPC : Nat := 0x20010
def Reg.ENG_EPW : Nat := 0x20014
def Reg.ENG_MISM_CNT : Nat := 0x20018
def Reg.ENG_REPL_T : Nat := 0x2001C

/- R196 cluster c -/
def Reg.CL_ID (c : Nat) : Nat := 0x20100 + 0x100 * c
def Reg.CL_CTRL (c : Nat) : Nat := 0x20104 + 0x100 * c
def Reg.CL_STAT (c : Nat) : Nat := 0x20108 + 0x100 * c
def Reg.CL_LOAD (c : Nat) : Nat := 0x2010C + 0x100 * c
def Reg.CL_CYC (c : Nat) : Nat := 0x20110 + 0x100 * c
def Reg.CL_XYUSE (c : Nat) : Nat := 0x20114 + 0x100 * c
def Reg.CL_CUSE (c : Nat) : Nat := 0x20118 + 0x100 * c
def Reg.CL_WMAX (c : Nat) : Nat := 0x2011C + 0x100 * c

/- R196 ENG node window -/
def Reg.ENG_NODE_SEL : Nat := 0x21000
def Reg.ENG_NODE_W (j : Nat) : Nat := 0x21040 + 0x4 * j

/- R266 STR, common part -/
def Reg.STR_ID : Nat := 0x30000
def Reg.STR_POOL : Nat := 0x30004
def Reg.STR_SEGS : Nat := 0x30008
def Reg.STR_STAT : Nat := 0x3000C
def Reg.STR_STAGE : Nat := 0x30010
def Reg.STR_OVR_CNT : Nat := 0x30014
def Reg.STR_SEL : Nat := 0x30020
def Reg.STR_W (j : Nat) : Nat := 0x30040 + 0x4 * j
def Reg.STR_CAPDEF (j : Nat) : Nat := 0x30100 + 0x4 * j

/- R266 host ring r -/
def Reg.HR_BASE_LO (r : Nat) : Nat := 0x30400 + 0x20 * r
def Reg.HR_BASE_HI (r : Nat) : Nat := 0x30404 + 0x20 * r
def Reg.HR_CFG (r : Nat) : Nat := 0x30408 + 0x20 * r
def Reg.HR_HEAD (r : Nat) : Nat := 0x3040C + 0x20 * r
def Reg.HR_TAIL (r : Nat) : Nat := 0x30410 + 0x20 * r
def Reg.HR_STAT (r : Nat) : Nat := 0x30414 + 0x20 * r
def Reg.HR_BLOCKS (r : Nat) : Nat := 0x30418 + 0x20 * r

/- R287 DRC, common part -/
def Reg.DRC_ID : Nat := 0x40000
def Reg.DRC_CFG : Nat := 0x40004
def Reg.DRC_STAT : Nat := 0x40008
def Reg.DRC_ACT_TH : Nat := 0x40010
def Reg.DRC_REF : Nat := 0x40014
def Reg.DRC_TEMP : Nat := 0x40018
def Reg.DRC_SR_CNT : Nat := 0x4001C
def Reg.DRC_SR_TIME : Nat := 0x40020
def Reg.DRC_TRAIN_CNT : Nat := 0x40024
def Reg.DRC_NREF_CNT : Nat := 0x40028
def Reg.DRC_CATCHUP_CNT : Nat := 0x4002C
def Reg.DRC_FREQ_CNT : Nat := 0x40030

/- R287 DRC port p -/
def Reg.DRC_PORT_TGT (p : Nat) : Nat := 0x40100 + 0x20 * p
def Reg.DRC_PORT_STAT (p : Nat) : Nat := 0x40104 + 0x20 * p
def Reg.DRC_PORT_REQ (p : Nat) : Nat := 0x40108 + 0x20 * p
def Reg.DRC_PORT_MISS (p : Nat) : Nat := 0x4010C + 0x20 * p
def Reg.DRC_PORT_MAXLAT (p : Nat) : Nat := 0x40110 + 0x20 * p

/- R308 ECC -/
def Reg.ECC_ID : Nat := 0x44000
def Reg.ECC_CFG : Nat := 0x44004
def Reg.ECC_STAT : Nat := 0x44008
def Reg.ECC_CE_CNT0 : Nat := 0x4400C
def Reg.ECC_CE_CNT1 : Nat := 0x44010
def Reg.ECC_UE_CNT : Nat := 0x44014
def Reg.ECC_POISON_CNT : Nat := 0x44018
def Reg.ECC_RMW_CNT : Nat := 0x4401C
def Reg.ECC_SCRUB_VIG : Nat := 0x44020
def Reg.ECC_SCRUB_POS : Nat := 0x44024
def Reg.ECC_SCRUB_LAP : Nat := 0x44028
def Reg.ECC_LOG_CTRL : Nat := 0x4402C
def Reg.ECC_BIST : Nat := 0x44034
def Reg.ECC_INJ : Nat := 0x44038
def Reg.ECC_INJ_ADDR : Nat := 0x4403C
def Reg.ECC_SRAM_CE (j : Nat) : Nat := 0x44060 + 0x4 * j
def Reg.ECC_LOG_W (j : Nat) : Nat := 0x44080 + 0x4 * j
def Reg.ECC_REMAP (j : Nat) : Nat := 0x44100 + 0x4 * j

/- R84 RES entry i -/
def Reg.RES_HI (i : Nat) : Nat := 0x50000 + 0x10 * i
def Reg.RES_LO (i : Nat) : Nat := 0x50004 + 0x10 * i
def Reg.RES_ATTR (i : Nat) : Nat := 0x50008 + 0x10 * i
def Reg.RES_OVCNT (i : Nat) : Nat := 0x5000C + 0x10 * i

/-! ### Fields: high and low bit of each field, under the register's name -/

def Fld.PCH_ID_TYPE : Field := ⟨31, 24⟩
def Fld.PCH_ID_VERSION : Field := ⟨23, 16⟩
def Fld.PCH_ID_INST : Field := ⟨7, 0⟩
def Fld.PCH_CFG_GAIN : Field := ⟨28, 26⟩
def Fld.PCH_CFG_MODE : Field := ⟨25, 24⟩
def Fld.PCH_CFG_REFSEL : Field := ⟨23, 22⟩
def Fld.PCH_CFG_EXCSEL : Field := ⟨21, 20⟩
def Fld.PCH_CFG_MUTE : Field := ⟨19, 19⟩
def Fld.PCH_CFG_INSEL : Field := ⟨18, 18⟩
def Fld.PCH_CFG_OW_MODE : Field := ⟨15, 14⟩
def Fld.PCH_CFG_OW_I : Field := ⟨13, 12⟩
def Fld.PCH_CFG_OW_POL : Field := ⟨11, 11⟩
def Fld.PCH_STAT_CFG_REJ : Field := ⟨8, 8⟩
def Fld.PCH_STAT_OPEN_S : Field := ⟨7, 7⟩
def Fld.PCH_STAT_PINR_S : Field := ⟨6, 6⟩
def Fld.PCH_STAT_CLAMP_S : Field := ⟨5, 5⟩
def Fld.PCH_STAT_OPEN_N : Field := ⟨4, 4⟩
def Fld.PCH_STAT_OPEN_P : Field := ⟨3, 3⟩
def Fld.PCH_STAT_PIN_RANGE : Field := ⟨2, 2⟩
def Fld.PCH_STAT_CLAMP_N : Field := ⟨1, 1⟩
def Fld.PCH_STAT_CLAMP_P : Field := ⟨0, 0⟩
def Fld.EXC_ID_TYPE : Field := ⟨31, 24⟩
def Fld.EXC_ID_VERSION : Field := ⟨23, 16⟩
def Fld.EXC_ID_INST : Field := ⟨7, 0⟩
def Fld.EXC_CTRL_FIRE : Field := ⟨31, 31⟩
def Fld.EXC_CTRL_MODE : Field := ⟨2, 0⟩
def Fld.EXC_LEVEL_VSET : Field := ⟨15, 0⟩
def Fld.EXC_AC_HDIV : Field := ⟨11, 8⟩
def Fld.EXC_AC_BLANK : Field := ⟨7, 0⟩
def Fld.EXC_VW_SRC : Field := ⟨31, 30⟩
def Fld.EXC_VW_TRIG : Field := ⟨23, 16⟩
def Fld.EXC_VW_PWIDTH : Field := ⟨15, 0⟩
def Fld.EXC_PER_PERIOD : Field := ⟨23, 0⟩
def Fld.EXC_SWEEP0_F_STOP : Field := ⟨31, 16⟩
def Fld.EXC_SWEEP0_F_START : Field := ⟨15, 0⟩
def Fld.EXC_SWEEP1_SWEEP_MS : Field := ⟨15, 0⟩
def Fld.EXC_LIM_OPEN_TH : Field := ⟨7, 0⟩
def Fld.EXC_STAT_DROP_CNT : Field := ⟨31, 24⟩
def Fld.EXC_STAT_CFG_REJ : Field := ⟨10, 10⟩
def Fld.EXC_STAT_BUSY : Field := ⟨9, 9⟩
def Fld.EXC_STAT_RAMP : Field := ⟨8, 8⟩
def Fld.EXC_STAT_REF_LOW : Field := ⟨7, 7⟩
def Fld.EXC_STAT_REG : Field := ⟨6, 6⟩
def Fld.EXC_STAT_SENSE : Field := ⟨5, 5⟩
def Fld.EXC_STAT_OPEN : Field := ⟨4, 4⟩
def Fld.EXC_STAT_OVERLOAD : Field := ⟨3, 3⟩
def Fld.EXC_STAT_SHUTDOWN : Field := ⟨2, 2⟩
def Fld.EXC_STAT_LIMIT : Field := ⟨1, 1⟩
def Fld.EXC_MON_IMON : Field := ⟨31, 16⟩
def Fld.EXC_MON_VMON : Field := ⟨15, 0⟩
def Fld.EXC_PHASE_PHASE : Field := ⟨23, 0⟩
def Fld.PCH_FMT_RES_SRC : Field := ⟨29, 28⟩
def Fld.PCH_FMT_FORM_SEISMIC : Field := ⟨17, 17⟩
def Fld.PCH_FMT_FORM_STATIC : Field := ⟨16, 16⟩
def Fld.PCH_FMT_S_MONITOR : Field := ⟨14, 10⟩
def Fld.PCH_FMT_S_SEISMIC : Field := ⟨9, 5⟩
def Fld.PCH_FMT_S_STATIC : Field := ⟨4, 0⟩
def Fld.PCH_FUS_CFG_FORCE : Field := ⟨31, 30⟩
def Fld.PCH_FUS_CFG_PL_EN : Field := ⟨29, 29⟩
def Fld.PCH_FUS_CFG_MSEL : Field := ⟨26, 24⟩
def Fld.PCH_FUS_CFG_FUS_N : Field := ⟨23, 16⟩
def Fld.PCH_FUS_CFG_FREC : Field := ⟨5, 0⟩
def Fld.PCH_PLAUS_TH_TH : Field := ⟨31, 0⟩
def Fld.PCH_PLAUS_EFF_TH_EFF : Field := ⟨31, 0⟩
def Fld.PCH_CONV_STAT_MISM : Field := ⟨31, 24⟩
def Fld.PCH_CONV_STAT_DIFF_VALID : Field := ⟨11, 11⟩
def Fld.PCH_CONV_STAT_OVR_S : Field := ⟨10, 10⟩
def Fld.PCH_CONV_STAT_OVR_NOW : Field := ⟨9, 9⟩
def Fld.PCH_CONV_STAT_F_OVL : Field := ⟨8, 8⟩
def Fld.PCH_CONV_STAT_REGION : Field := ⟨7, 6⟩
def Fld.PCH_CONV_STAT_UNCHK_S : Field := ⟨5, 5⟩
def Fld.PCH_CONV_STAT_UNCHK : Field := ⟨4, 4⟩
def Fld.PCH_CONV_STAT_FAULT_S : Field := ⟨3, 3⟩
def Fld.PCH_CONV_STAT_FAULT : Field := ⟨2, 2⟩
def Fld.PCH_FUS_DIFF_DIFF : Field := ⟨31, 0⟩
def Fld.PCH_FUS_CNT_MISM_TOTAL : Field := ⟨31, 0⟩
def Fld.PCH_OVR_CNT_OVR_TOTAL : Field := ⟨31, 0⟩
def Fld.RES_HI_STALE : Field := ⟨31, 31⟩
def Fld.RES_HI_READ : Field := ⟨30, 30⟩
def Fld.RES_HI_OVR : Field := ⟨29, 29⟩
def Fld.RES_HI_POISON : Field := ⟨28, 28⟩
def Fld.RES_HI_SEQ : Field := ⟨27, 20⟩
def Fld.RES_HI_DATA_HI : Field := ⟨19, 0⟩
def Fld.RES_LO_STALE : Field := ⟨31, 31⟩
def Fld.RES_LO_READ : Field := ⟨30, 30⟩
def Fld.RES_LO_OVR : Field := ⟨29, 29⟩
def Fld.RES_LO_POISON : Field := ⟨28, 28⟩
def Fld.RES_LO_SEQ : Field := ⟨27, 20⟩
def Fld.RES_LO_DATA_LO : Field := ⟨19, 0⟩
def Fld.RES_ATTR_SRC : Field := ⟨11, 8⟩
def Fld.RES_ATTR_MIXED : Field := ⟨4, 4⟩
def Fld.RES_ATTR_SERVICE : Field := ⟨3, 3⟩
def Fld.RES_ATTR_HOLDOVER : Field := ⟨2, 2⟩
def Fld.RES_ATTR_FFLT : Field := ⟨1, 1⟩
def Fld.RES_ATTR_OVR : Field := ⟨0, 0⟩
def Fld.RES_OVCNT_OVF : Field := ⟨31, 31⟩
def Fld.RES_OVCNT_WATCH : Field := ⟨30, 30⟩
def Fld.RES_OVCNT_OV_CNT : Field := ⟨15, 0⟩
def Fld.PCH_STATIC_CFG_SMODE : Field := ⟨31, 30⟩
def Fld.PCH_STATIC_CFG_MAINS_NOM : Field := ⟨29, 29⟩
def Fld.PCH_STATIC_CFG_MAINS_CH : Field := ⟨21, 16⟩
def Fld.PCH_STATIC_CFG_NCYC : Field := ⟨7, 0⟩
def Fld.PCH_STATIC_TIME_TLEN : Field := ⟨24, 0⟩
def Fld.PCH_MTRK_EN : Field := ⟨31, 31⟩
def Fld.PCH_MTRK_AVG : Field := ⟨27, 26⟩
def Fld.PCH_MTRK_MIN : Field := ⟨18, 0⟩
def Fld.PCH_MAINS_PER_VALID : Field := ⟨31, 31⟩
def Fld.PCH_MAINS_PER_PERIOD : Field := ⟨23, 0⟩
def Fld.PCH_SEIS_CFG_PHASE : Field := ⟨31, 31⟩
def Fld.PCH_SEIS_CFG_RATE : Field := ⟨2, 0⟩
def Fld.PCH_TS_ADJ_ADJ : Field := ⟨31, 0⟩
def Fld.PCH_FLT_STAT_MAINS_FB_S : Field := ⟨7, 7⟩
def Fld.PCH_FLT_STAT_MAINS_FB : Field := ⟨6, 6⟩
def Fld.PCH_FLT_STAT_RESTART_S : Field := ⟨5, 5⟩
def Fld.PCH_FLT_STAT_POISON_S : Field := ⟨3, 3⟩
def Fld.PCH_FLT_STAT_STAT_FILL : Field := ⟨2, 2⟩
def Fld.PCH_FLT_STAT_SEIS_FILL : Field := ⟨1, 1⟩
def Fld.PCH_FLT_STAT_MON_FILL : Field := ⟨0, 0⟩
def Fld.PCH_STATIC_LAST_TRACKED : Field := ⟨31, 31⟩
def Fld.PCH_STATIC_LAST_LEN : Field := ⟨24, 0⟩
def Fld.PCH_SEIS_DELAY_DELAY : Field := ⟨18, 0⟩
def Fld.PCH_COEF_SEL_SET : Field := ⟨12, 8⟩
def Fld.PCH_COEF_SEL_INDEX : Field := ⟨7, 0⟩
def Fld.PCH_COEF_DATA_COEF : Field := ⟨31, 0⟩
def Fld.BANK_ID_TYPE : Field := ⟨31, 24⟩
def Fld.BANK_ID_VERSION : Field := ⟨23, 16⟩
def Fld.BANK_ID_INST : Field := ⟨7, 0⟩
def Fld.BANK_CFG_SLOT : Field := ⟨31, 30⟩
def Fld.BANK_CFG_MAINS_NOM : Field := ⟨29, 29⟩
def Fld.BANK_CFG_DRIFT_EN : Field := ⟨28, 28⟩
def Fld.BANK_CFG_DTAU : Field := ⟨27, 25⟩
def Fld.BANK_CFG_CHK_N : Field := ⟨24, 22⟩
def Fld.BANK_CFG_OPEN : Field := ⟨21, 20⟩
def Fld.BANK_CFG_MAINS_CH : Field := ⟨19, 14⟩
def Fld.BANK_CFG_CH_MASK : Field := ⟨7, 0⟩
def Fld.BANK_TIME_SLOT_TLEN : Field := ⟨24, 0⟩
def Fld.BANK_FAST_FAST_LEN : Field := ⟨16, 0⟩
def Fld.BANK_TOL_CHK_TOL_FAST : Field := ⟨31, 16⟩
def Fld.BANK_TOL_CHK_TOL : Field := ⟨15, 0⟩
def Fld.BANK_REF_TOL_TEMP_TOL : Field := ⟨23, 16⟩
def Fld.BANK_REF_TOL_REF_TOL : Field := ⟨15, 0⟩
def Fld.BANK_STAT_CYCLE_SLOTS : Field := ⟨31, 24⟩
def Fld.BANK_STAT_POS : Field := ⟨23, 20⟩
def Fld.BANK_STAT_POINT : Field := ⟨19, 16⟩
def Fld.BANK_STAT_CFG_REJ : Field := ⟨8, 8⟩
def Fld.BANK_STAT_DRIFT_LIM_S : Field := ⟨7, 7⟩
def Fld.BANK_STAT_DRIFT_LIM : Field := ⟨6, 6⟩
def Fld.BANK_STAT_TEMP_FAULT_S : Field := ⟨5, 5⟩
def Fld.BANK_STAT_TEMP_FAULT : Field := ⟨4, 4⟩
def Fld.BANK_STAT_REF_FAULT_S : Field := ⟨3, 3⟩
def Fld.BANK_STAT_REF_FAULT : Field := ⟨2, 2⟩
def Fld.BANK_STAT_FAST : Field := ⟨1, 1⟩
def Fld.BANK_STAT_OD_BUSY : Field := ⟨0, 0⟩
def Fld.BANK_DROP_CNT_DROPS : Field := ⟨31, 0⟩
def Fld.BANK_CYCLE_T_LEN : Field := ⟨31, 0⟩
def Fld.BANK_TEMP_TB : Field := ⟨15, 0⟩
def Fld.BANK_S_SF : Field := ⟨31, 0⟩
def Fld.BANK_M_MF : Field := ⟨31, 0⟩
def Fld.BANK_ZERO_ZC : Field := ⟨31, 0⟩
def Fld.CHK_CH_STAT_SLOTSEQ : Field := ⟨31, 24⟩
def Fld.CHK_CH_STAT_LAST : Field := ⟨23, 20⟩
def Fld.CHK_CH_STAT_MISM : Field := ⟨15, 8⟩
def Fld.CHK_CH_STAT_UNCHK_S : Field := ⟨6, 6⟩
def Fld.CHK_CH_STAT_UNCHK : Field := ⟨5, 5⟩
def Fld.CHK_CH_STAT_FAULT_S : Field := ⟨4, 4⟩
def Fld.CHK_CH_STAT_FAULT : Field := ⟨3, 3⟩
def Fld.CHK_CH_A_LO_A_LO : Field := ⟨31, 0⟩
def Fld.CHK_CH_K_LO_K_LO : Field := ⟨31, 0⟩
def Fld.CHK_CH_HI_K_HI : Field := ⟨15, 8⟩
def Fld.CHK_CH_HI_A_HI : Field := ⟨7, 0⟩
def Fld.CHK_CH_DIFF_DIFF : Field := ⟨31, 0⟩
def Fld.CHK_CH_TOTAL_MISM_TOTAL : Field := ⟨31, 0⟩
def Fld.BANK_PT_ZERO_LAST : Field := ⟨31, 28⟩
def Fld.BANK_PT_ZERO_VALUE : Field := ⟨27, 0⟩
def Fld.BANK_PT_PREF_LAST : Field := ⟨31, 28⟩
def Fld.BANK_PT_PREF_VALUE : Field := ⟨27, 0⟩
def Fld.BANK_PT_NREF_LAST : Field := ⟨31, 28⟩
def Fld.BANK_PT_NREF_VALUE : Field := ⟨27, 0⟩
def Fld.BANK_PT_TEMP_LAST : Field := ⟨31, 28⟩
def Fld.BANK_PT_TEMP_VALUE : Field := ⟨27, 0⟩
def Fld.CAL_ID_TYPE : Field := ⟨31, 24⟩
def Fld.CAL_ID_VERSION : Field := ⟨23, 16⟩
def Fld.CAL_SEL_KIND : Field := ⟨31, 30⟩
def Fld.CAL_SEL_INDEX : Field := ⟨15, 8⟩
def Fld.CAL_SEL_GAIN : Field := ⟨2, 0⟩
def Fld.CAL_STAT_COMMIT_BUSY : Field := ⟨31, 31⟩
def Fld.CAL_STAT_MEAS_BUSY : Field := ⟨30, 30⟩
def Fld.CAL_STAT_BAD : Field := ⟨23, 16⟩
def Fld.CAL_STAT_PENDING : Field := ⟨9, 0⟩
def Fld.CAL_WIN_WORD : Field := ⟨31, 0⟩
def Fld.WCH_ID_TYPE : Field := ⟨31, 24⟩
def Fld.WCH_ID_VERSION : Field := ⟨23, 16⟩
def Fld.WCH_ID_INST : Field := ⟨7, 0⟩
def Fld.WCH_CFG_RUN : Field := ⟨13, 12⟩
def Fld.WCH_CFG_COUPLING : Field := ⟨9, 8⟩
def Fld.WCH_CFG_DECIM : Field := ⟨6, 4⟩
def Fld.WCH_CFG_GAIN : Field := ⟨2, 0⟩
def Fld.WCH_STAT_CFG_REJ : Field := ⟨5, 5⟩
def Fld.WCH_STAT_OVR_S : Field := ⟨4, 4⟩
def Fld.WCH_STAT_OVR_NOW : Field := ⟨3, 3⟩
def Fld.WCH_STAT_HOLDOVER : Field := ⟨2, 2⟩
def Fld.WCH_STAT_WAKING : Field := ⟨1, 1⟩
def Fld.WCH_STAT_RUNNING : Field := ⟨0, 0⟩
def Fld.WCH_TS_ADJ_ADJ : Field := ⟨31, 0⟩
def Fld.WCH_DELAY_DELAY : Field := ⟨8, 0⟩
def Fld.WCH_OVR_CNT_OVR_TOTAL : Field := ⟨31, 0⟩
def Fld.WCH_WAKE_CNT_WAKES : Field := ⟨31, 0⟩
def Fld.WCH_ST_CFG_SRC : Field := ⟨18, 16⟩
def Fld.WCH_ST_CFG_SRC_IDX : Field := ⟨15, 8⟩
def Fld.WCH_ST_CFG_CH_MASK : Field := ⟨7, 0⟩
def Fld.WCH_ST_DELAY_DELAY : Field := ⟨31, 0⟩
def Fld.WCH_ST_LEN_LEN : Field := ⟨30, 0⟩
def Fld.WCH_ST_PER_PERIOD : Field := ⟨31, 0⟩
def Fld.WCH_ST_PHASE_PHASE : Field := ⟨31, 0⟩
def Fld.WCH_ST_STAT_DROP_CNT : Field := ⟨31, 24⟩
def Fld.WCH_ST_STAT_CLIPPED_S : Field := ⟨1, 1⟩
def Fld.WCH_ST_STAT_BUSY : Field := ⟨0, 0⟩
def Fld.WM_ID_TYPE : Field := ⟨31, 24⟩
def Fld.WM_ID_INST : Field := ⟨7, 0⟩
def Fld.WM_CFG_EVT : Field := ⟨7, 5⟩
def Fld.WM_CFG_WAKE_EN : Field := ⟨4, 4⟩
def Fld.WM_CFG_HYST : Field := ⟨3, 2⟩
def Fld.WM_CFG_EN : Field := ⟨0, 0⟩
def Fld.WM_TH_MODE : Field := ⟨31, 29⟩
def Fld.WM_TH_UPPER : Field := ⟨25, 16⟩
def Fld.WM_TH_LOWER : Field := ⟨9, 0⟩
def Fld.WM_STAT_RESOLVED_S : Field := ⟨5, 5⟩
def Fld.WM_STAT_UNTESTED : Field := ⟨4, 4⟩
def Fld.WM_STAT_ST_FAIL : Field := ⟨3, 3⟩
def Fld.WM_STAT_CFG_REJ : Field := ⟨2, 2⟩
def Fld.WM_STAT_STATE : Field := ⟨1, 0⟩
def Fld.WM_TIME_LO_TIME : Field := ⟨31, 0⟩
def Fld.WM_TIME_HI_TIME : Field := ⟨31, 0⟩
def Fld.WM_CNT_CROSSINGS : Field := ⟨31, 0⟩
def Fld.HC_ID_TYPE : Field := ⟨31, 24⟩
def Fld.HC_ID_INST : Field := ⟨7, 0⟩
def Fld.HC_CFG_MODE : Field := ⟨31, 29⟩
def Fld.HC_CFG_POL : Field := ⟨7, 6⟩
def Fld.HC_CFG_THMODE : Field := ⟨5, 5⟩
def Fld.HC_CFG_WAKE_EN : Field := ⟨4, 4⟩
def Fld.HC_CFG_EN : Field := ⟨0, 0⟩
def Fld.HC_LEVEL_FLOAT_K : Field := ⟨31, 24⟩
def Fld.HC_LEVEL_FIX_LEVEL : Field := ⟨19, 10⟩
def Fld.HC_LEVEL_B_MIN : Field := ⟨9, 0⟩
def Fld.HC_RAMP_B_MAX : Field := ⟨25, 16⟩
def Fld.HC_RAMP_RATE : Field := ⟨15, 8⟩
def Fld.HC_RAMP_RAMP_MAX : Field := ⟨7, 0⟩
def Fld.HC_TIMING0_HLT : Field := ⟨31, 16⟩
def Fld.HC_TIMING0_HDT : Field := ⟨15, 0⟩
def Fld.HC_TIMING1_HMAX : Field := ⟨9, 0⟩
def Fld.HC_BASE_B : Field := ⟨25, 16⟩
def Fld.HC_BASE_SIGMA : Field := ⟨15, 0⟩
def Fld.HC_STAT_UNTESTED : Field := ⟨4, 4⟩
def Fld.HC_STAT_ST_FAIL : Field := ⟨3, 3⟩
def Fld.HC_STAT_CFG_REJ : Field := ⟨2, 2⟩
def Fld.HC_STAT_STATE : Field := ⟨1, 0⟩
def Fld.HC_HIT_CNT_COUNT : Field := ⟨31, 0⟩
def Fld.HC_LOCK_CNT_COUNT : Field := ⟨31, 0⟩
def Fld.CMP_ID_TYPE : Field := ⟨31, 24⟩
def Fld.CMP_STCFG_CFG_REJ : Field := ⟨31, 31⟩
def Fld.CMP_STCFG_EN : Field := ⟨0, 0⟩
def Fld.CMP_SYNC_EDGE : Field := ⟨1, 0⟩
def Fld.ENG_ID_TYPE : Field := ⟨31, 24⟩
def Fld.ENG_ID_VERSION : Field := ⟨23, 16⟩
def Fld.ENG_CFG_OVR_MULT : Field := ⟨11, 8⟩
def Fld.ENG_CFG_STEST_EN : Field := ⟨0, 0⟩
def Fld.ENG_STAT_NODES : Field := ⟨31, 24⟩
def Fld.ENG_STAT_FAILED : Field := ⟨23, 20⟩
def Fld.ENG_STAT_CFG_REJ : Field := ⟨9, 9⟩
def Fld.ENG_STAT_NO_SPARE : Field := ⟨8, 8⟩
def Fld.ENG_STAT_REPLACING : Field := ⟨7, 7⟩
def Fld.ENG_STAT_MISM_S : Field := ⟨6, 6⟩
def Fld.ENG_STAT_FAULT_S : Field := ⟨5, 5⟩
def Fld.ENG_STAT_UNPLACED : Field := ⟨4, 4⟩
def Fld.ENG_STAT_LOADED : Field := ⟨0, 0⟩
def Fld.ENG_GRAPH_ID_GRAPH_ID : Field := ⟨31, 0⟩
def Fld.ENG_EPC_EPC : Field := ⟨15, 0⟩
def Fld.ENG_EPW_EPW : Field := ⟨15, 0⟩
def Fld.ENG_MISM_CNT_MISMATCHES : Field := ⟨31, 0⟩
def Fld.ENG_REPL_T_DURATION : Field := ⟨31, 0⟩
def Fld.CL_ID_TYPE : Field := ⟨31, 24⟩
def Fld.CL_ID_INST : Field := ⟨7, 0⟩
def Fld.CL_CTRL_TEST : Field := ⟨1, 1⟩
def Fld.CL_CTRL_OFFLINE : Field := ⟨0, 0⟩
def Fld.CL_STAT_STATE : Field := ⟨31, 28⟩
def Fld.CL_STAT_CAUSE : Field := ⟨27, 24⟩
def Fld.CL_STAT_PLACED : Field := ⟨23, 16⟩
def Fld.CL_STAT_ST_FAIL : Field := ⟨1, 1⟩
def Fld.CL_STAT_ST_DONE : Field := ⟨0, 0⟩
def Fld.CL_LOAD_COMMIT : Field := ⟨31, 16⟩
def Fld.CL_LOAD_BUSY : Field := ⟨15, 0⟩
def Fld.CL_CYC_CYCLES : Field := ⟨31, 0⟩
def Fld.CL_XYUSE_YUSE : Field := ⟨31, 16⟩
def Fld.CL_XYUSE_XUSE : Field := ⟨15, 0⟩
def Fld.CL_CUSE_DESC : Field := ⟨23, 16⟩
def Fld.CL_CUSE_CUSE : Field := ⟨15, 0⟩
def Fld.CL_WMAX_WMAX : Field := ⟨31, 0⟩
def Fld.ENG_NODE_SEL_NODE : Field := ⟨7, 0⟩
def Fld.ENG_NODE_W_WORD : Field := ⟨31, 0⟩
def Fld.STR_ID_TYPE : Field := ⟨31, 24⟩
def Fld.STR_ID_VERSION : Field := ⟨23, 16⟩
def Fld.STR_POOL_BASE_MIB : Field := ⟨31, 16⟩
def Fld.STR_POOL_SIZE_MIB : Field := ⟨15, 0⟩
def Fld.STR_SEGS_FREE : Field := ⟨31, 16⟩
def Fld.STR_SEGS_PINNED : Field := ⟨15, 0⟩
def Fld.STR_STAT_OPEN : Field := ⟨31, 21⟩
def Fld.STR_STAT_CAPTURES : Field := ⟨20, 14⟩
def Fld.STR_STAT_STALL_S : Field := ⟨3, 3⟩
def Fld.STR_STAT_OVERRUN_S : Field := ⟨2, 2⟩
def Fld.STR_STAT_STAGE_FULL_S : Field := ⟨1, 1⟩
def Fld.STR_STAGE_USE : Field := ⟨28, 16⟩
def Fld.STR_STAGE_PEAK : Field := ⟨12, 0⟩
def Fld.STR_OVR_CNT_BLOCKS : Field := ⟨31, 0⟩
def Fld.STR_SEL_SID : Field := ⟨9, 0⟩
def Fld.STR_W_WORD : Field := ⟨31, 0⟩
def Fld.STR_CAPDEF_HOLD : Field := ⟨31, 31⟩
def Fld.STR_CAPDEF_DEST : Field := ⟨30, 29⟩
def Fld.STR_CAPDEF_DEV : Field := ⟨27, 16⟩
def Fld.STR_CAPDEF_HR : Field := ⟨4, 0⟩
def Fld.HR_BASE_LO_BASE : Field := ⟨31, 16⟩
def Fld.HR_BASE_HI_BASE : Field := ⟨31, 0⟩
def Fld.HR_CFG_EN : Field := ⟨31, 31⟩
def Fld.HR_CFG_DMA : Field := ⟨26, 24⟩
def Fld.HR_CFG_VEC : Field := ⟨19, 16⟩
def Fld.HR_CFG_HOLD_T : Field := ⟨15, 4⟩
def Fld.HR_CFG_SIZE : Field := ⟨3, 0⟩
def Fld.HR_HEAD_PHASE : Field := ⟨31, 31⟩
def Fld.HR_HEAD_HEAD : Field := ⟨24, 0⟩
def Fld.HR_TAIL_TAIL : Field := ⟨24, 0⟩
def Fld.HR_STAT_CFG_REJ : Field := ⟨4, 4⟩
def Fld.HR_STAT_TAIL_ERR : Field := ⟨3, 3⟩
def Fld.HR_STAT_STALL_S : Field := ⟨2, 2⟩
def Fld.HR_STAT_STALL : Field := ⟨1, 1⟩
def Fld.HR_BLOCKS_BLOCKS : Field := ⟨31, 0⟩
def Fld.DRC_ID_TYPE : Field := ⟨31, 24⟩
def Fld.DRC_ID_VERSION : Field := ⟨23, 16⟩
def Fld.DRC_CFG_OP_BURST : Field := ⟨9, 8⟩
def Fld.DRC_CFG_OP_SURVEY : Field := ⟨5, 4⟩
def Fld.DRC_CFG_OP_VIGIL : Field := ⟨1, 0⟩
def Fld.DRC_STAT_OP_NOW : Field := ⟨31, 30⟩
def Fld.DRC_STAT_PEND_V : Field := ⟨29, 29⟩
def Fld.DRC_STAT_OP_PEND : Field := ⟨28, 27⟩
def Fld.DRC_STAT_FREQ_BUSY : Field := ⟨26, 26⟩
def Fld.DRC_STAT_TRAIN : Field := ⟨25, 24⟩
def Fld.DRC_STAT_SR : Field := ⟨23, 22⟩
def Fld.DRC_STAT_TRAIN_FAIL_S : Field := ⟨7, 7⟩
def Fld.DRC_STAT_MISS_S : Field := ⟨6, 6⟩
def Fld.DRC_STAT_REPLACED_S : Field := ⟨5, 5⟩
def Fld.DRC_STAT_NREF_STORM_S : Field := ⟨4, 4⟩
def Fld.DRC_STAT_CFG_REJ : Field := ⟨3, 3⟩
def Fld.DRC_ACT_TH_ACT_TH : Field := ⟨15, 0⟩
def Fld.DRC_REF_PP_PEAK : Field := ⟨11, 8⟩
def Fld.DRC_REF_MULT : Field := ⟨5, 4⟩
def Fld.DRC_REF_PP_MAX : Field := ⟨3, 0⟩
def Fld.DRC_TEMP_T_TRAIN : Field := ⟨31, 16⟩
def Fld.DRC_TEMP_T_NOW : Field := ⟨15, 0⟩
def Fld.DRC_SR_CNT_ENTRIES : Field := ⟨31, 0⟩
def Fld.DRC_SR_TIME_MS : Field := ⟨31, 0⟩
def Fld.DRC_TRAIN_CNT_FULL : Field := ⟨31, 16⟩
def Fld.DRC_TRAIN_CNT_CHECK : Field := ⟨15, 0⟩
def Fld.DRC_NREF_CNT_NREF : Field := ⟨31, 0⟩
def Fld.DRC_CATCHUP_CNT_BURSTS : Field := ⟨31, 0⟩
def Fld.DRC_FREQ_CNT_REPLACED : Field := ⟨31, 16⟩
def Fld.DRC_FREQ_CNT_CHANGES : Field := ⟨15, 0⟩
def Fld.DRC_PORT_TGT_TGT : Field := ⟨15, 0⟩
def Fld.DRC_PORT_STAT_URG : Field := ⟨31, 30⟩
def Fld.DRC_PORT_STAT_CAUSE : Field := ⟨27, 24⟩
def Fld.DRC_PORT_STAT_QDEPTH : Field := ⟨15, 0⟩
def Fld.DRC_PORT_REQ_REQUESTS : Field := ⟨31, 0⟩
def Fld.DRC_PORT_MISS_MISSES : Field := ⟨31, 0⟩
def Fld.DRC_PORT_MAXLAT_MAXLAT : Field := ⟨31, 0⟩
def Fld.ECC_ID_TYPE : Field := ⟨31, 24⟩
def Fld.ECC_ID_VERSION : Field := ⟨23, 16⟩
def Fld.ECC_CFG_SCRUB_EN : Field := ⟨8, 8⟩
def Fld.ECC_CFG_INTERVAL : Field := ⟨7, 0⟩
def Fld.ECC_STAT_REMAP_USED : Field := ⟨28, 24⟩
def Fld.ECC_STAT_LOG_USED : Field := ⟨20, 16⟩
def Fld.ECC_STAT_CFG_REJ : Field := ⟨6, 6⟩
def Fld.ECC_STAT_SRAM_UE_S : Field := ⟨5, 5⟩
def Fld.ECC_STAT_PARTIAL_POISON_S : Field := ⟨4, 4⟩
def Fld.ECC_STAT_LOG_FULL_S : Field := ⟨3, 3⟩
def Fld.ECC_STAT_REMAP_FULL_S : Field := ⟨2, 2⟩
def Fld.ECC_STAT_POISON_S : Field := ⟨1, 1⟩
def Fld.ECC_STAT_UE_S : Field := ⟨0, 0⟩
def Fld.ECC_CE_CNT0_COUNT : Field := ⟨31, 0⟩
def Fld.ECC_CE_CNT1_COUNT : Field := ⟨31, 0⟩
def Fld.ECC_UE_CNT_COUNT : Field := ⟨31, 0⟩
def Fld.ECC_POISON_CNT_COUNT : Field := ⟨31, 0⟩
def Fld.ECC_RMW_CNT_RMW : Field := ⟨31, 16⟩
def Fld.ECC_RMW_CNT_MERGED : Field := ⟨15, 0⟩
def Fld.ECC_SCRUB_VIG_VIG_PERIOD : Field := ⟨31, 16⟩
def Fld.ECC_SCRUB_VIG_VIG_CELLS : Field := ⟨15, 0⟩
def Fld.ECC_SCRUB_POS_CELL : Field := ⟨27, 0⟩
def Fld.ECC_SCRUB_LAP_LAPS : Field := ⟨31, 16⟩
def Fld.ECC_SCRUB_LAP_SECONDS : Field := ⟨15, 0⟩
def Fld.ECC_LOG_CTRL_CLR : Field := ⟨31, 31⟩
def Fld.ECC_LOG_CTRL_LOST : Field := ⟨19, 4⟩
def Fld.ECC_LOG_CTRL_SEL : Field := ⟨3, 0⟩
def Fld.ECC_BIST_MARCH_FAIL : Field := ⟨31, 27⟩
def Fld.ECC_BIST_CHK_FAIL : Field := ⟨26, 26⟩
def Fld.ECC_BIST_DRAM_FAIL : Field := ⟨25, 25⟩
def Fld.ECC_BIST_BOOT_REMAPS : Field := ⟨24, 20⟩
def Fld.ECC_BIST_TESTED_MIB : Field := ⟨19, 0⟩
def Fld.ECC_INJ_ARMED : Field := ⟨31, 31⟩
def Fld.ECC_INJ_MODE : Field := ⟨9, 8⟩
def Fld.ECC_INJ_BIT : Field := ⟨7, 0⟩
def Fld.ECC_INJ_ADDR_CELL : Field := ⟨27, 0⟩
def Fld.ECC_SRAM_CE_UE : Field := ⟨31, 16⟩
def Fld.ECC_SRAM_CE_CE : Field := ⟨15, 0⟩
def Fld.ECC_REMAP_VALID : Field := ⟨31, 31⟩
def Fld.ECC_REMAP_SRC : Field := ⟨30, 29⟩
def Fld.ECC_REMAP_POISON : Field := ⟨28, 28⟩
def Fld.ECC_REMAP_CELL : Field := ⟨27, 0⟩
def Fld.MODE_ID_TYPE : Field := ⟨31, 24⟩
def Fld.MODE_ID_VERSION : Field := ⟨23, 16⟩
def Fld.MODE_STAT_CUR : Field := ⟨31, 29⟩
def Fld.MODE_STAT_PREV : Field := ⟨28, 26⟩
def Fld.MODE_STAT_TARGET : Field := ⟨25, 23⟩
def Fld.MODE_STAT_BUSY : Field := ⟨22, 22⟩
def Fld.MODE_STAT_PSTATE : Field := ⟨21, 20⟩
def Fld.MODE_STAT_CAUSE : Field := ⟨19, 16⟩
def Fld.MODE_STAT_TRIG : Field := ⟨15, 8⟩
def Fld.MODE_STAT_CMD_HELD : Field := ⟨1, 1⟩
def Fld.MODE_STAT_CFG_REJ : Field := ⟨0, 0⟩
def Fld.MODE_POLICY_AUTO : Field := ⟨31, 31⟩
def Fld.MODE_POLICY_CMD_STICKY : Field := ⟨30, 30⟩
def Fld.MODE_POLICY_BUDGET_VIGIL : Field := ⟨29, 29⟩
def Fld.MODE_POLICY_START : Field := ⟨28, 28⟩
def Fld.MODE_POLICY_BURST_HOLD : Field := ⟨27, 16⟩
def Fld.MODE_POLICY_SURVEY_IDLE : Field := ⟨15, 0⟩
def Fld.MODE_TMR_PER : Field := ⟨31, 16⟩
def Fld.MODE_TMR_DUR : Field := ⟨15, 0⟩
def Fld.MODE_CNT_CHANGES : Field := ⟨31, 0⟩
def Fld.PACER_CFG_COUPLING : Field := ⟨31, 31⟩
def Fld.PACER_CFG_WAKE_GATE : Field := ⟨30, 30⟩
def Fld.PACER_CFG_WIN : Field := ⟨9, 0⟩
def Fld.PACER_BUD_V_BUDGET : Field := ⟨31, 0⟩
def Fld.PACER_BUD_S_BUDGET : Field := ⟨31, 0⟩
def Fld.PACER_RES_MIN : Field := ⟨31, 16⟩
def Fld.PACER_RES_MAX : Field := ⟨15, 0⟩
def Fld.PACER_THERM_EMERG : Field := ⟨15, 8⟩
def Fld.PACER_THERM_CEIL : Field := ⟨7, 0⟩
def Fld.PACER_USED_E_USED : Field := ⟨31, 0⟩
def Fld.PACER_HEAD_H : Field := ⟨31, 0⟩
def Fld.PACER_POOL_POOL : Field := ⟨31, 0⟩
def Fld.PACER_BASE_V_P_BASE : Field := ⟨31, 0⟩
def Fld.PACER_BASE_S_P_BASE : Field := ⟨31, 0⟩
def Fld.PACER_BORROW_DEBT : Field := ⟨31, 0⟩
def Fld.PACER_DEFER_BUDGET_PH : Field := ⟨31, 16⟩
def Fld.PACER_DEFER_WAITING : Field := ⟨15, 0⟩
def Fld.PACER_STAT_TJ : Field := ⟨31, 16⟩
def Fld.PACER_STAT_EMERG : Field := ⟨5, 5⟩
def Fld.PACER_STAT_CEIL : Field := ⟨4, 4⟩
def Fld.PACER_STAT_OVER_S : Field := ⟨3, 3⟩
def Fld.PACER_STAT_BORROW_S : Field := ⟨2, 2⟩
def Fld.PACER_STAT_DENIED_S : Field := ⟨1, 1⟩
def Fld.PACER_STAT_EXH_S : Field := ⟨0, 0⟩
def Fld.PACER_E_ENERGY : Field := ⟨31, 0⟩
def Fld.CLK_ID_TYPE : Field := ⟨31, 24⟩
def Fld.CLK_ID_VERSION : Field := ⟨23, 16⟩
def Fld.CLK_SRC_ST : Field := ⟨5, 4⟩
def Fld.CLK_SRC_AUTO : Field := ⟨3, 3⟩
def Fld.CLK_SRC_SEL : Field := ⟨2, 0⟩
def Fld.CLK_READY_READY : Field := ⟨4, 0⟩
def Fld.CLK_PRIO_P4 : Field := ⟨14, 12⟩
def Fld.CLK_PRIO_P3 : Field := ⟨11, 9⟩
def Fld.CLK_PRIO_P2 : Field := ⟨8, 6⟩
def Fld.CLK_PRIO_P1 : Field := ⟨5, 3⟩
def Fld.CLK_PRIO_P0 : Field := ⟨2, 0⟩
def Fld.CLK_STAT_CFG_REJ : Field := ⟨11, 11⟩
def Fld.CLK_STAT_MCD : Field := ⟨10, 10⟩
def Fld.CLK_STAT_REFUSED_S : Field := ⟨9, 9⟩
def Fld.CLK_STAT_SWITCH_S : Field := ⟨8, 8⟩
def Fld.CLK_STAT_HOLD_S : Field := ⟨7, 7⟩
def Fld.CLK_STAT_HOLDOVER : Field := ⟨6, 6⟩
def Fld.CLK_STAT_TB_LOCK : Field := ⟨3, 3⟩
def Fld.CLK_STAT_M_LOCK : Field := ⟨2, 2⟩
def Fld.CLK_STAT_F_LOCK : Field := ⟨1, 1⟩
def Fld.CLK_STAT_T_LOCK : Field := ⟨0, 0⟩
def Fld.CLK_HOLD_CNT_COUNT : Field := ⟨31, 0⟩
def Fld.CLK_HOLD_T_DURATION : Field := ⟨31, 0⟩
def Fld.CLK_GATE_RUN_EN : Field := ⟨15, 0⟩
def Fld.CLK_GATE_SLEEP_EN : Field := ⟨15, 0⟩
def Fld.CLK_GATE_DEEP_EN : Field := ⟨15, 0⟩
def Fld.CLK_GATE_OPEN_OPEN : Field := ⟨15, 0⟩
def Fld.CLK_GATE_TO_LAST : Field := ⟨19, 16⟩
def Fld.CLK_GATE_TO_COUNT : Field := ⟨15, 0⟩
def Fld.CLK_WAKE_ACC_COUNT : Field := ⟨31, 0⟩
def Fld.FAB_ID_TYPE : Field := ⟨31, 24⟩
def Fld.FAB_ID_VERSION : Field := ⟨23, 16⟩
def Fld.FAB_CFG_PRIO : Field := ⟨31, 28⟩
def Fld.FAB_CFG_STALL_T : Field := ⟨23, 16⟩
def Fld.FAB_CFG_TMO : Field := ⟨15, 8⟩
def Fld.FAB_CFG_BER_TH : Field := ⟨7, 0⟩
def Fld.FAB_STAT_MANAGER : Field := ⟨31, 31⟩
def Fld.FAB_STAT_ROOT : Field := ⟨30, 30⟩
def Fld.FAB_STAT_SUCCESSOR : Field := ⟨29, 29⟩
def Fld.FAB_STAT_STANDBY : Field := ⟨28, 28⟩
def Fld.FAB_STAT_STATE : Field := ⟨27, 26⟩
def Fld.FAB_STAT_ORPHAN : Field := ⟨25, 25⟩
def Fld.FAB_STAT_TIME_VALID : Field := ⟨24, 24⟩
def Fld.FAB_STAT_DEPTH : Field := ⟨23, 19⟩
def Fld.FAB_STAT_ECC : Field := ⟨18, 14⟩
def Fld.FAB_STAT_EPOCH : Field := ⟨13, 13⟩
def Fld.FAB_STAT_TIME_LOCK : Field := ⟨12, 12⟩
def Fld.FAB_STAT_LIMIT_S : Field := ⟨6, 6⟩
def Fld.FAB_STAT_CHURN_S : Field := ⟨5, 5⟩
def Fld.FAB_STAT_STALL_S : Field := ⟨4, 4⟩
def Fld.FAB_STAT_TIMEOUT_S : Field := ⟨3, 3⟩
def Fld.FAB_STAT_REROUTE_S : Field := ⟨2, 2⟩
def Fld.FAB_STAT_BATON_S : Field := ⟨1, 1⟩
def Fld.FAB_ADDR_ADDR : Field := ⟨11, 0⟩
def Fld.FAB_ROLES0_A : Field := ⟨27, 16⟩
def Fld.FAB_ROLES0_B : Field := ⟨11, 0⟩
def Fld.FAB_ROLES1_A : Field := ⟨27, 16⟩
def Fld.FAB_ROLES1_B : Field := ⟨11, 0⟩
def Fld.FAB_DIE_LO_DIE : Field := ⟨31, 0⟩
def Fld.FAB_DIE_HI_DIE : Field := ⟨31, 0⟩
def Fld.FAB_SIZE_DEVICES : Field := ⟨27, 16⟩
def Fld.FAB_SIZE_DIAMETER : Field := ⟨4, 0⟩
def Fld.FAB_CTRL_REELECT : Field := ⟨31, 31⟩
def Fld.FAB_CTRL_RESUME : Field := ⟨2, 0⟩
def Fld.FAB_VC_STOPPED : Field := ⟨2, 0⟩
def Fld.FAB_CNT_REROUTES : Field := ⟨31, 16⟩
def Fld.FAB_CNT_TIMEOUTS : Field := ⟨15, 0⟩
def Fld.FAB_DROP_EPOCH : Field := ⟨31, 16⟩
def Fld.FAB_DROP_STOP : Field := ⟨15, 0⟩
def Fld.FAB_TIME_LO_TIME : Field := ⟨31, 0⟩
def Fld.FAB_TIME_HI_TIME : Field := ⟨31, 0⟩
def Fld.FAB_TIME_CFG_SRC : Field := ⟨31, 30⟩
def Fld.FAB_TIME_CFG_STEP_EN : Field := ⟨29, 29⟩
def Fld.FAB_TIME_CFG_TC : Field := ⟨28, 24⟩
def Fld.FAB_TIME_CFG_STEP_TH : Field := ⟨23, 16⟩
def Fld.FAB_TIME_CFG_PTM_PER : Field := ⟨15, 0⟩
def Fld.FAB_TIME_OFS_LO_OFS : Field := ⟨31, 0⟩
def Fld.FAB_TIME_OFS_HI_OFS : Field := ⟨31, 0⟩
def Fld.FAB_PPS_SEC_SEC : Field := ⟨31, 0⟩
def Fld.FAB_FREQ_Y : Field := ⟨31, 0⟩
def Fld.FAB_THETA_THETA : Field := ⟨31, 0⟩
def Fld.FP_CFG_EN : Field := ⟨31, 31⟩
def Fld.FP_CFG_RATE : Field := ⟨29, 28⟩
def Fld.FP_CFG_ASYM : Field := ⟨15, 0⟩
def Fld.FP_STAT_LSTATE : Field := ⟨31, 29⟩
def Fld.FP_STAT_RATE_NOW : Field := ⟨28, 28⟩
def Fld.FP_STAT_UPLINK : Field := ⟨27, 27⟩
def Fld.FP_STAT_CLKSRC : Field := ⟨26, 26⟩
def Fld.FP_STAT_NDEPTH : Field := ⟨25, 21⟩
def Fld.FP_STAT_NSYNT : Field := ⟨20, 20⟩
def Fld.FP_STAT_NORPHAN : Field := ⟨19, 19⟩
def Fld.FP_STAT_NFROM : Field := ⟨18, 18⟩
def Fld.FP_STAT_DEGRADED_S : Field := ⟨3, 3⟩
def Fld.FP_STAT_DOWN_S : Field := ⟨2, 2⟩
def Fld.FP_NBR_LO_DIE : Field := ⟨31, 0⟩
def Fld.FP_NBR_HI_DIE : Field := ⟨31, 0⟩
def Fld.FP_NBR_ADDR_NPORT : Field := ⟨17, 16⟩
def Fld.FP_NBR_ADDR_NADDR : Field := ⟨11, 0⟩
def Fld.FP_DELAY_DELAY : Field := ⟨31, 0⟩
def Fld.FP_CRC_CNT_COUNT : Field := ⟨31, 0⟩
def Fld.FP_REPLAY_CNT_COUNT : Field := ⟨31, 0⟩
def Fld.FP_DOWN_CNT_COUNT : Field := ⟨31, 0⟩
def Fld.FP_UTIL_TX : Field := ⟨31, 16⟩
def Fld.FP_UTIL_RX : Field := ⟨15, 0⟩
def Fld.SNP_ID_TYPE : Field := ⟨31, 24⟩
def Fld.SNP_ID_VERSION : Field := ⟨23, 16⟩
def Fld.SNP_STAT_LAST_ID : Field := ⟨31, 16⟩
def Fld.SNP_STAT_PEND : Field := ⟨15, 13⟩
def Fld.SNP_STAT_VALID : Field := ⟨12, 12⟩
def Fld.SNP_STAT_BUSY : Field := ⟨11, 11⟩
def Fld.SNP_STAT_MISSED_S : Field := ⟨1, 1⟩
def Fld.SNP_STAT_DONE_S : Field := ⟨0, 0⟩
def Fld.SNP_ORIGIN_SEQ : Field := ⟨31, 16⟩
def Fld.SNP_ORIGIN_ORIGIN : Field := ⟨11, 0⟩
def Fld.SNP_T_LO_T : Field := ⟨31, 0⟩
def Fld.SNP_T_HI_T : Field := ⟨31, 0⟩
def Fld.SNP_NEXT_LO_T : Field := ⟨31, 0⟩
def Fld.SNP_NEXT_HI_T : Field := ⟨31, 0⟩
def Fld.SNP_MISS_CNT_COUNT : Field := ⟨31, 0⟩
def Fld.HIF_ID_TYPE : Field := ⟨31, 24⟩
def Fld.HIF_ID_VERSION : Field := ⟨23, 16⟩
def Fld.HIF_STAT_SPEED : Field := ⟨27, 24⟩
def Fld.HIF_STAT_WIDTH : Field := ⟨23, 20⟩
def Fld.HIF_STAT_DSTATE : Field := ⟨19, 18⟩
def Fld.HIF_STAT_CFG_REJ : Field := ⟨5, 5⟩
def Fld.HIF_STAT_PTM_VALID : Field := ⟨4, 4⟩
def Fld.HIF_STAT_BAD_ACC_S : Field := ⟨3, 3⟩
def Fld.HIF_STAT_WIN_WR_S : Field := ⟨2, 2⟩
def Fld.HIF_STAT_LINK_UP : Field := ⟨1, 1⟩
def Fld.HIF_STAT_READY : Field := ⟨0, 0⟩
def Fld.HIF_WIN_BASE_BASE : Field := ⟨12, 0⟩
def Fld.HIF_WIN_DROP_COUNT : Field := ⟨31, 0⟩
def Fld.HIF_BAD_ACC_COUNT : Field := ⟨31, 0⟩
def Fld.HIF_DMA_WGT_WGT : Field := ⟨31, 0⟩
def Fld.HIF_DMA_BUSY_BUSY : Field := ⟨7, 0⟩
def Fld.HIF_CMD_BASE_LO_BASE : Field := ⟨31, 6⟩
def Fld.HIF_CMD_BASE_HI_BASE : Field := ⟨31, 0⟩
def Fld.HIF_CMD_CFG_EN : Field := ⟨31, 31⟩
def Fld.HIF_CMD_CFG_EQ : Field := ⟨5, 4⟩
def Fld.HIF_CMD_CFG_SIZE : Field := ⟨3, 0⟩
def Fld.HIF_CMD_DB_TAIL : Field := ⟨11, 0⟩
def Fld.HIF_CMD_HEAD_HEAD : Field := ⟨11, 0⟩
def Fld.HIF_CMD_STAT_INFLIGHT : Field := ⟨20, 16⟩
def Fld.HIF_CMD_STAT_CFG_REJ : Field := ⟨3, 3⟩
def Fld.HIF_CMD_STAT_DB_ERR : Field := ⟨2, 2⟩
def Fld.HIF_CMD_STAT_WAIT_EQ : Field := ⟨1, 1⟩
def Fld.HIF_CMD_CNT_COUNT : Field := ⟨31, 0⟩
def Fld.HIF_EQ_ROUTE_QUEUE : Field := ⟨15, 0⟩
def Fld.HIF_TYPE_SEL_TYPE : Field := ⟨15, 0⟩
def Fld.HIF_TYPE_INFO_DEFINED : Field := ⟨31, 31⟩
def Fld.HIF_TYPE_INFO_SEVERITY : Field := ⟨6, 4⟩
def Fld.HIF_VMOD_COUNT : Field := ⟨23, 16⟩
def Fld.HIF_VMOD_TIME : Field := ⟨15, 0⟩
def Fld.EQ_BASE_LO_BASE : Field := ⟨31, 6⟩
def Fld.EQ_BASE_HI_BASE : Field := ⟨31, 0⟩
def Fld.EQ_CFG_EN : Field := ⟨31, 31⟩
def Fld.EQ_CFG_SEV_IMM : Field := ⟨30, 28⟩
def Fld.EQ_CFG_VEC : Field := ⟨19, 16⟩
def Fld.EQ_CFG_SIZE : Field := ⟨4, 0⟩
def Fld.EQ_HEAD_PHASE : Field := ⟨31, 31⟩
def Fld.EQ_HEAD_HEAD : Field := ⟨15, 0⟩
def Fld.EQ_TAIL_TAIL : Field := ⟨15, 0⟩
def Fld.EQ_STAT_CFG_REJ : Field := ⟨3, 3⟩
def Fld.EQ_STAT_TAIL_ERR : Field := ⟨2, 2⟩
def Fld.EQ_STAT_OVF_S : Field := ⟨1, 1⟩
def Fld.EQ_STAT_OVERFLOW : Field := ⟨0, 0⟩
def Fld.EQ_LOST_COUNT : Field := ⟨31, 0⟩
def Fld.EQ_SEQ_SEQ : Field := ⟨31, 0⟩
def Fld.BOOT_ID_TYPE : Field := ⟨31, 24⟩
def Fld.BOOT_ID_VERSION : Field := ⟨23, 16⟩
def Fld.BOOT_STAT_PHASE : Field := ⟨31, 28⟩
def Fld.BOOT_STAT_SLOT : Field := ⟨27, 27⟩
def Fld.BOOT_STAT_FALLBACK : Field := ⟨26, 26⟩
def Fld.BOOT_STAT_CAUSE : Field := ⟨25, 24⟩
def Fld.BOOT_ERRA_CODE : Field := ⟨31, 24⟩
def Fld.BOOT_ERRA_STYPE : Field := ⟨23, 16⟩
def Fld.BOOT_ERRA_ENTRY : Field := ⟨15, 0⟩
def Fld.BOOT_ERRB_CODE : Field := ⟨31, 24⟩
def Fld.BOOT_ERRB_STYPE : Field := ⟨23, 16⟩
def Fld.BOOT_ERRB_ENTRY : Field := ⟨15, 0⟩
def Fld.BOOT_IMG_IMAGE_ID : Field := ⟨31, 0⟩
def Fld.BOOT_TIME_US : Field := ⟨31, 0⟩
def Fld.BOOT_FLASH_MFR : Field := ⟨31, 24⟩
def Fld.BOOT_FLASH_SIZE_LOG2 : Field := ⟨23, 16⟩
def Fld.BOOT_FLASH_MODE : Field := ⟨15, 14⟩
def Fld.BOOT_FLASH_ADDR4 : Field := ⟨13, 12⟩
def Fld.BOOT_FLASH_QCLK : Field := ⟨9, 8⟩
def Fld.BOOT_CTRL_RETRY : Field := ⟨31, 31⟩
def Fld.BOOT_CTRL_FL_RELEASE : Field := ⟨0, 0⟩
def Fld.MC_LOAD_SAT_S : Field := ⟨31, 31⟩
def Fld.MC_LOAD_SAT : Field := ⟨30, 30⟩
def Fld.MC_LOAD_LOAD : Field := ⟨15, 0⟩
def Fld.MC_WDOG_KICK : Field := ⟨31, 31⟩
def Fld.MC_WDOG_EXPIRED : Field := ⟨15, 8⟩
def Fld.MC_WDOG_HELD : Field := ⟨0, 0⟩
def Fld.SAF_ID_TYPE : Field := ⟨31, 24⟩
def Fld.SAF_ID_VERSION : Field := ⟨23, 16⟩
def Fld.SAF_STAT_IN_SAFE : Field := ⟨31, 31⟩
def Fld.SAF_STAT_SAFE_N_RD : Field := ⟨30, 30⟩
def Fld.SAF_STAT_ALM_RD : Field := ⟨29, 26⟩
def Fld.SAF_STAT_CFG_REJ : Field := ⟨6, 6⟩
def Fld.SAF_STAT_DTB_S : Field := ⟨5, 5⟩
def Fld.SAF_STAT_TEMP_S : Field := ⟨4, 4⟩
def Fld.SAF_STAT_OUTPUT_S : Field := ⟨3, 3⟩
def Fld.SAF_STAT_SUPPLY_S : Field := ⟨2, 2⟩
def Fld.SAF_STAT_ENTER_S : Field := ⟨1, 1⟩
def Fld.SAF_STAT_DIAG_OFF : Field := ⟨0, 0⟩
def Fld.SAF_CAUSE_ACTIVE : Field := ⟨14, 0⟩
def Fld.SAF_CAUSE_S_SEEN : Field := ⟨14, 0⟩
def Fld.SAF_VER0_VER : Field := ⟨31, 0⟩
def Fld.SAF_VER1_VER : Field := ⟨31, 0⟩
def Fld.SAF_SET0_SET : Field := ⟨31, 0⟩
def Fld.SAF_SET1_SET : Field := ⟨31, 0⟩
def Fld.SAF_W_SET : Field := ⟨15, 8⟩
def Fld.SAF_W_VER : Field := ⟨7, 0⟩
def Fld.SAF_SUP_REF : Field := ⟨9, 9⟩
def Fld.SAF_SUP_RAIL : Field := ⟨8, 0⟩
def Fld.SAF_DTB_WORST : Field := ⟨31, 16⟩
def Fld.SAF_DTB_BUDGET : Field := ⟨15, 0⟩
def Fld.SAF_FORCE_SAFE : Field := ⟨31, 31⟩
def Fld.SAF_FORCE_ALM : Field := ⟨3, 0⟩
def Fld.SAF_CNT_ENTRIES : Field := ⟨31, 0⟩
def Fld.SAF_ALM_CFG_EN : Field := ⟨31, 31⟩
def Fld.SAF_ALM_CFG_LATCH : Field := ⟨30, 30⟩
def Fld.SAF_ALM_CFG_SAFE_ACT : Field := ⟨29, 29⟩
def Fld.SAF_ALM_CFG_FAULT_ACT : Field := ⟨28, 28⟩
def Fld.SAF_ALM_CFG_WM_STATE : Field := ⟨27, 26⟩
def Fld.SAF_ALM_CFG_WSET : Field := ⟨23, 16⟩
def Fld.SAF_ALM_CFG_TRIG_B : Field := ⟨15, 8⟩
def Fld.SAF_ALM_CFG_TRIG_A : Field := ⟨7, 0⟩
def Fld.SAF_ALM_CH0_SET : Field := ⟨31, 0⟩
def Fld.SAF_ALM_CH1_SET : Field := ⟨31, 0⟩
def Fld.SAF_ALM_HOLD_HOLD : Field := ⟨15, 0⟩
def Fld.SAF_ALM_STAT_LEVEL : Field := ⟨31, 31⟩
def Fld.SAF_ALM_STAT_REASON : Field := ⟨30, 29⟩
def Fld.SAF_ALM_STAT_LATCHED : Field := ⟨28, 28⟩
def Fld.SAF_ALM_STAT_ACK : Field := ⟨27, 27⟩
def Fld.SAF_ALM_STAT_COUNT : Field := ⟨15, 0⟩
def Fld.DEV_ID_TYPE : Field := ⟨31, 24⟩
def Fld.DEV_ID_VERSION : Field := ⟨23, 16⟩
def Fld.DEV_ID_STEPPING : Field := ⟨15, 8⟩
def Fld.DEV_VARIANT_VARIANT : Field := ⟨7, 0⟩
def Fld.DEV_PCI_ID_DID : Field := ⟨31, 16⟩
def Fld.DEV_PCI_ID_VID : Field := ⟨15, 0⟩
def Fld.DEV_CAP0_NPCH : Field := ⟨31, 24⟩
def Fld.DEV_CAP0_NBANK : Field := ⟨23, 20⟩
def Fld.DEV_CAP0_NWCH : Field := ⟨19, 16⟩
def Fld.DEV_CAP0_NCL : Field := ⟨15, 12⟩
def Fld.DEV_CAP0_NFP : Field := ⟨11, 8⟩
def Fld.DEV_CAP0_HOST : Field := ⟨7, 7⟩
def Fld.DEV_CAP0_DRAM_GIB : Field := ⟨6, 0⟩
def Fld.DEV_CAP1_DRAM_MIB : Field := ⟨31, 16⟩
def Fld.DEV_CAP1_PCIE_GEN : Field := ⟨7, 4⟩
def Fld.DEV_CAP1_PCIE_LANES : Field := ⟨3, 0⟩
def Fld.DEV_PCH_MASK0_PRESENT : Field := ⟨31, 0⟩
def Fld.DEV_PCH_MASK1_PRESENT : Field := ⟨31, 0⟩
def Fld.DEV_UNIT_MASK_EXC : Field := ⟨31, 16⟩
def Fld.DEV_UNIT_MASK_BANK : Field := ⟨15, 8⟩
def Fld.DEV_UNIT_MASK_WCH : Field := ⟨7, 0⟩
def Fld.DEV_UNIT_MASK1_FP : Field := ⟨15, 12⟩
def Fld.DEV_UNIT_MASK1_CL : Field := ⟨11, 8⟩
def Fld.DEV_UNIT_MASK1_HC : Field := ⟨7, 0⟩
def Fld.DEV_WM_MASK0_PRESENT : Field := ⟨31, 0⟩
def Fld.DEV_WM_MASK1_PRESENT : Field := ⟨31, 0⟩
def Fld.DEV_WM_MASK2_PRESENT : Field := ⟨31, 0⟩
def Fld.DEV_FW_MAJOR : Field := ⟨31, 24⟩
def Fld.DEV_FW_MINOR : Field := ⟨23, 16⟩
def Fld.DEV_FW_BUILD : Field := ⟨15, 0⟩
def Fld.DEV_ABSENT_WR_COUNT : Field := ⟨31, 0⟩
def Fld.DEV_ABSENT_ADDR_REQ : Field := ⟨31, 20⟩
def Fld.DEV_ABSENT_ADDR_OFFSET : Field := ⟨19, 0⟩
def Fld.DEV_EV_LOST_COUNT : Field := ⟨31, 0⟩
def Fld.MSIX_CTRL_MASK : Field := ⟨0, 0⟩

/-! ### Blocks (R447): base, stride and instances, and the registers of one instance -/

/-- R447, R452 DEV. -/
def RegBlock.dev : RegBlock := ⟨.dev, 0x0, 0x1000, 1, [
  { off := 0x0, rsv := 0xFF, reset := 0x58010000 },
  { off := 0x4, rsv := 0xFFFFFF00 },
  { off := 0x8, reset := 0x1F4D },
  { off := 0xC },
  { off := 0x10, rsv := 0xFF00 },
  { off := 0x20 },
  { off := 0x24 },
  { off := 0x28 },
  { off := 0x2C, rsv := 0xFFFF0000 },
  { off := 0x30 },
  { off := 0x34 },
  { off := 0x38 },
  { off := 0x40 },
  { off := 0x50, rw := 0xFFFFFFFF },
  { off := 0x54 },
  { off := 0x58, rc := 0xFFFFFFFF, aon := true }]⟩

/-- R447, R341 MODE and PACER. -/
def RegBlock.mode : RegBlock := ⟨.mode, 0x1000, 0x1000, 1, [
  { off := 0x0, rsv := 0xFFFF, reset := 0x4F010000 },
  { off := 0x4, w1c := 0x1, rsv := 0xFC },
  { off := 0x8, rw := 0xFFFFFFFF, reset := 0x801E0258 },
  { off := 0xC, rw := 0xFFFFFFFF },
  { off := 0x10, rc := 0xFFFFFFFF },
  { off := 0x100, rw := 0x400003FF, rsv := 0x3FFFFC00, reset := 0xA },
  { off := 0x104, rw := 0xFFFFFFFF, reset := 0xFFFFFFFF },
  { off := 0x108, rw := 0xFFFFFFFF, reset := 0xFFFFFFFF },
  { off := 0x10C, rw := 0xFFFFFFFF, reset := 0xFFFF },
  { off := 0x110, rw := 0xFFFF, rsv := 0xFFFF0000, reset := 0x6C5F },
  { off := 0x114 },
  { off := 0x118 },
  { off := 0x11C },
  { off := 0x120 },
  { off := 0x124 },
  { off := 0x128 },
  { off := 0x12C, rc := 0xFFFF0000 },
  { off := 0x130, w1c := 0xF, rsv := 0xFFC0 },
  { off := 0x140, cnt := 6, step := 0x4 }]⟩

/-- R447, R342 CLK. -/
def RegBlock.clk : RegBlock := ⟨.clk, 0x2000, 0x1000, 1, [
  { off := 0x0, rsv := 0xFFFF, reset := 0x43010000 },
  { off := 0x4, rw := 0xF, rsv := 0xFFFFFFC0, reset := 0x8 },
  { off := 0x8, rsv := 0xFFFFFFE0 },
  { off := 0xC, rw := 0x7FFF, rsv := 0xFFFF8000, reset := 0x4688 },
  { off := 0x10, w1c := 0xF80, rsv := 0xFFFFF030, aon := true },
  { off := 0x14, rc := 0xFFFFFFFF, aon := true },
  { off := 0x18, aon := true },
  { off := 0x20, rw := 0xFFFF, rsv := 0xFFFF0000 },
  { off := 0x24, rw := 0xFFFF, rsv := 0xFFFF0000 },
  { off := 0x28, rw := 0xFFFF, rsv := 0xFFFF0000 },
  { off := 0x2C, rsv := 0xFFFF0000, reset := 0xFFFF },
  { off := 0x30, rc := 0xFFFF, rsv := 0xFFF00000 },
  { off := 0x34, rc := 0xFFFFFFFF }]⟩

/-- R446 SAF, common part. -/
def RegBlock.saf : RegBlock := ⟨.saf, 0x3000, 0x100, 1, [
  { off := 0x0, rsv := 0xFFFF, reset := 0x53010000 },
  { off := 0x4, w1c := 0x7E, rsv := 0x3FFFF80 },
  { off := 0x8, rsv := 0xFFFF8000 },
  { off := 0xC, w1c := 0x7FFF, rsv := 0xFFFF8000, aon := true },
  { off := 0x10 },
  { off := 0x14 },
  { off := 0x18 },
  { off := 0x1C },
  { off := 0x20, rsv := 0xFFFF0000 },
  { off := 0x24, rsv := 0xFFFFFC00 },
  { off := 0x28, rw := 0xFFFF, reset := 0x1F4 },
  { off := 0x2C, rw := 0xF, wo := 0x80000000, rsv := 0x7FFFFFF0 },
  { off := 0x30, rc := 0xFFFFFFFF, aon := true }]⟩

/-- R446 SAF alarm output n. -/
def RegBlock.alm : RegBlock := ⟨.alm, 0x3100, 0x20, 4, [
  { off := 0x0, rw := 0xFCFFFFFF, rsv := 0x3000000, reset := 0x2000FFFF },
  { off := 0x4, rw := 0xFFFFFFFF },
  { off := 0x8, rw := 0xFFFFFFFF },
  { off := 0xC, rw := 0xFFFF, rsv := 0xFFFF0000 },
  { off := 0x10, rc := 0xFFFF, wo := 0x8000000, rsv := 0x7FF0000, reset := 0xE0000000 }]⟩

/-- R402 HIF, common part. -/
def RegBlock.hif : RegBlock := ⟨.hif, 0x4000, 0x100, 1, [
  { off := 0x0, rsv := 0xFFFF, reset := 0x49010000 },
  { off := 0x4, w1c := 0x2C, rsv := 0xF003FFC0 },
  { off := 0x8, rw := 0x1FFF, rsv := 0xFFFFE000 },
  { off := 0xC, rc := 0xFFFFFFFF },
  { off := 0x10, rc := 0xFFFFFFFF },
  { off := 0x14, rw := 0xFFFFFFFF, reset := 0x11111111 },
  { off := 0x18, rsv := 0xFFFFFF00 },
  { off := 0x40, rw := 0xFFFFFFC0, rsv := 0x3F },
  { off := 0x44, rw := 0xFFFFFFFF },
  { off := 0x48, rw := 0x8000000F, rsv := 0x7FFFFFC0, reset := 0x4 },
  { off := 0x4C, rw := 0xFFF, rsv := 0xFFFFF000 },
  { off := 0x50, rsv := 0xFFFFF000 },
  { off := 0x54, w1c := 0xC, rsv := 0xFFE0FFF1 },
  { off := 0x58, rc := 0xFFFFFFFF },
  { off := 0x80, rw := 0xFFFF, rsv := 0xFFFF0000 },
  { off := 0x84, rw := 0xFFFF, rsv := 0xFFFF0000 },
  { off := 0x88, rsv := 0x7FFFFF8F },
  { off := 0xC0, cnt := 16, step := 0x4, rw := 0xFFFFFF, rsv := 0xFF000000, reset := 0x10000 }]⟩

/-- R402 event queue q. -/
def RegBlock.eq : RegBlock := ⟨.eq, 0x4100, 0x20, 4, [
  { off := 0x0, rw := 0xFFFFFFC0, rsv := 0x3F },
  { off := 0x4, rw := 0xFFFFFFFF },
  { off := 0x8, rw := 0xF00F001F, rsv := 0xFF0FFE0, reset := 0x40000004 },
  { off := 0xC, rsv := 0x7FFF0000, reset := 0x80000000 },
  { off := 0x10, rw := 0xFFFF, rsv := 0xFFFF0000 },
  { off := 0x14, w1c := 0xE, rsv := 0xFFFFFFF0 },
  { off := 0x18, rc := 0xFFFFFFFF },
  { off := 0x1C }]⟩

/-- R402 MSI-X table, laid out as PCI Express defines it. -/
def RegBlock.msix : RegBlock := ⟨.msix, 0x4800, 0x10, 16, [
  { off := 0x0, rw := 0xFFFFFFFC, rsv := 0x3 },
  { off := 0x4, rw := 0xFFFFFFFF },
  { off := 0x8, rw := 0xFFFFFFFF },
  { off := 0xC, rw := 0x1, rsv := 0xFFFFFFFE, reset := 0x1 }]⟩

/-- R402 MSI-X pending bit array. -/
def RegBlock.pba : RegBlock := ⟨.pba, 0x4900, 0x10, 1, [
  { off := 0x0, rsv := 0xFFFF0000 }]⟩

/-- R381 SNP. -/
def RegBlock.snp : RegBlock := ⟨.snp, 0x5000, 0x1000, 1, [
  { off := 0x0, rsv := 0xFFFF, reset := 0x4E010000 },
  { off := 0x4, w1c := 0x3, rsv := 0x7FC },
  { off := 0x8, rsv := 0xF000 },
  { off := 0xC },
  { off := 0x10 },
  { off := 0x14 },
  { off := 0x18 },
  { off := 0x1C, rc := 0xFFFFFFFF }]⟩

/-- R422 BOOT. -/
def RegBlock.boot : RegBlock := ⟨.boot, 0x6000, 0x2000, 1, [
  { off := 0x0, rsv := 0xFFFF, reset := 0x42010000 },
  { off := 0x4, rsv := 0xFFFFFF },
  { off := 0x8 },
  { off := 0xC },
  { off := 0x10 },
  { off := 0x14 },
  { off := 0x18, rsv := 0xCFF },
  { off := 0x1C, rw := 0x1, wo := 0x80000000, rsv := 0x7FFFFFFE },
  { off := 0x20, w1c := 0x80000000, rsv := 0x3FFF0000 },
  { off := 0x24, rc := 0xFF00, wo := 0x80000000, rsv := 0x7FFF00FE, aon := true }]⟩

/-- R380 FAB, common part. -/
def RegBlock.fab : RegBlock := ⟨.fab, 0x8000, 0x100, 1, [
  { off := 0x0, rsv := 0xFFFF, reset := 0x46010000 },
  { off := 0x4, rw := 0xFFFFFF, rsv := 0xF000000, reset := 0xA0A04 },
  { off := 0x8, w1c := 0x7E, rsv := 0xF81, reset := 0xF80000 },
  { off := 0xC, rsv := 0xFFFFF000 },
  { off := 0x10, rsv := 0xF000F000 },
  { off := 0x14, rsv := 0xF000F000 },
  { off := 0x18 },
  { off := 0x1C },
  { off := 0x20, rsv := 0xF000FFE0 },
  { off := 0x24, wo := 0x80000007, rsv := 0x7FFFFFF8 },
  { off := 0x28, rsv := 0xFFFFFFF8 },
  { off := 0x2C, rc := 0xFFFFFFFF },
  { off := 0x30, rc := 0xFFFFFFFF },
  { off := 0x40 },
  { off := 0x44 },
  { off := 0x48, rw := 0xFFFFFFFF, reset := 0x601000A },
  { off := 0x4C, rw := 0xFFFFFFFF },
  { off := 0x50, rw := 0xFFFFFFFF },
  { off := 0x54, rw := 0xFFFFFFFF },
  { off := 0x58 },
  { off := 0x5C }]⟩

/-- R380 fabric port n. -/
def RegBlock.fp : RegBlock := ⟨.fp, 0x8100, 0x40, 4, [
  { off := 0x0, rw := 0xB000FFFF, rsv := 0x4FFF0000, reset := 0x80000000 },
  { off := 0x4, w1c := 0xC, rsv := 0x3FFF3, reset := 0x3E00000 },
  { off := 0x8 },
  { off := 0xC },
  { off := 0x10, rsv := 0xFFFCF000 },
  { off := 0x14 },
  { off := 0x18, rc := 0xFFFFFFFF },
  { off := 0x1C, rc := 0xFFFFFFFF },
  { off := 0x20, rc := 0xFFFFFFFF },
  { off := 0x24 }]⟩

/-- R49, R83, R109 PCH. -/
def RegBlock.pch : RegBlock := ⟨.pch, 0x10000, 0x100, 64, [
  { off := 0x0, rsv := 0xFF00, reset := 0x50010000, inst := true },
  { off := 0x4, rw := 0x1FFCF800, rsv := 0xE00307FF },
  { off := 0xC, w1c := 0x1E0, rsv := 0xFFFFFE00 },
  { off := 0x10, rw := 0x30037FFF, rsv := 0xCFFC8000, reset := 0x5294 },
  { off := 0x14, rw := 0xE7FF003F, rsv := 0x1800FFC0, reset := 0x22100008 },
  { off := 0x18, rw := 0xFFFFFFFF },
  { off := 0x1C },
  { off := 0x20, w1c := 0x428, rsv := 0xFFF003 },
  { off := 0x24 },
  { off := 0x28, rc := 0xFFFFFFFF },
  { off := 0x2C, rc := 0xFFFFFFFF },
  { off := 0x40, rw := 0xE03F00FF, rsv := 0x1FC0FF00, reset := 0x40000001 },
  { off := 0x44, rw := 0x1FFFFFF, rsv := 0xFE000000, reset := 0x64000 },
  { off := 0x48, rw := 0x8C07FFFF, rsv := 0x73F80000, reset := 0x8000100 },
  { off := 0x4C, rsv := 0x7F000000 },
  { off := 0x50, rw := 0x80000007, rsv := 0x7FFFFFF8, reset := 0x1 },
  { off := 0x54, rw := 0xFFFFFFFF },
  { off := 0x58, w1c := 0xA8, rsv := 0xFFFFFF10, reset := 0x7 },
  { off := 0x5C, rsv := 0x7E000000 },
  { off := 0x60, rsv := 0xFFF80000, reset := 0x2282D },
  { off := 0x64, rw := 0x1FFF, rsv := 0xFFFFE000 },
  { off := 0x68 }]⟩

/-- R144 BANK. -/
def RegBlock.bank : RegBlock := ⟨.bank, 0x14000, 0x200, 8, [
  { off := 0x0, rsv := 0xFF00, reset := 0x42010000, inst := true },
  { off := 0x4, rw := 0xFFFFC0FF, rsv := 0x3F00, reset := 0x188000FF },
  { off := 0x8, rw := 0x1FFFFFF, rsv := 0xFE000000, reset := 0x14000 },
  { off := 0xC, rw := 0x1FFFF, rsv := 0xFFFE0000, reset := 0x2000 },
  { off := 0x10, rw := 0xFFFFFFFF, reset := 0x1F40064 },
  { off := 0x14, rw := 0xFFFFFF, rsv := 0xFF000000, reset := 0x500C8 },
  { off := 0x18, w1c := 0x1A8, rsv := 0xFE00 },
  { off := 0x1C, rc := 0xFFFFFFFF },
  { off := 0x20 },
  { off := 0x24, rsv := 0xFFFF0000 },
  { off := 0x28 },
  { off := 0x2C },
  { off := 0x30 },
  { off := 0x40, cnt := 8, step := 0x20, w1c := 0x50, rsv := 0xF0087 },
  { off := 0x44, cnt := 8, step := 0x20 },
  { off := 0x48, cnt := 8, step := 0x20 },
  { off := 0x4C, cnt := 8, step := 0x20, rsv := 0xFFFF0000 },
  { off := 0x50, cnt := 8, step := 0x20 },
  { off := 0x54, cnt := 8, step := 0x20, rc := 0xFFFFFFFF },
  { off := 0x140 },
  { off := 0x144 },
  { off := 0x148 },
  { off := 0x14C }]⟩

/-- R50 EXC. -/
def RegBlock.exc : RegBlock := ⟨.exc, 0x15000, 0x40, 16, [
  { off := 0x0, rsv := 0xFF00, reset := 0x45010000, inst := true },
  { off := 0x4, rw := 0x7, wo := 0x80000000, rsv := 0x7FFFFFF8 },
  { off := 0x8, rw := 0xFFFF, rsv := 0xFFFF0000 },
  { off := 0xC, rw := 0xFFF, rsv := 0xFFFFF000, reset := 0x608 },
  { off := 0x10, rw := 0xC0FFFFFF, rsv := 0x3F000000, reset := 0x3E8 },
  { off := 0x14, rw := 0xFFFFFF, rsv := 0xFF000000 },
  { off := 0x18, rw := 0xFFFFFFFF, reset := 0x2EE00320 },
  { off := 0x1C, rw := 0xFFFF, rsv := 0xFFFF0000, reset := 0xC8 },
  { off := 0x20, rw := 0xFF, rsv := 0xFFFFFF00 },
  { off := 0x24, w1c := 0x4F8, rc := 0xFF000000, rsv := 0xFFF801 },
  { off := 0x28 },
  { off := 0x2C, rw := 0xFFFFFF, rsv := 0xFF000000 }]⟩

/-- R145 CAL. -/
def RegBlock.cal : RegBlock := ⟨.cal, 0x16000, 0x2000, 1, [
  { off := 0x0, rsv := 0xFFFF, reset := 0x43010000 },
  { off := 0x4, rw := 0xC000FF07, rsv := 0x3FFF00F8 },
  { off := 0x8, rsv := 0x3F00FC00 },
  { off := 0x40, cnt := 16, step := 0x4 }]⟩

/-- R172 WCH. -/
def RegBlock.wch : RegBlock := ⟨.wch, 0x18000, 0x400, 8, [
  { off := 0x0, rsv := 0xFF00, reset := 0x57010000, inst := true },
  { off := 0x4, rw := 0x3377, rsv := 0xFFFFCC88 },
  { off := 0x8, w1c := 0x30, rsv := 0xFFFFFFC0 },
  { off := 0xC, rw := 0xFFFFFFFF },
  { off := 0x10, rsv := 0xFFFFFE00 },
  { off := 0x14, rc := 0xFFFFFFFF },
  { off := 0x18, rc := 0xFFFFFFFF },
  { off := 0x40, rw := 0x7FFFF, rsv := 0xFFF80000 },
  { off := 0x44, rw := 0xFFFFFFFF },
  { off := 0x48, rw := 0x7FFFFFFF, rsv := 0x80000000, reset := 0x2000 },
  { off := 0x4C, rw := 0xFFFFFFFF },
  { off := 0x50, rw := 0xFFFFFFFF },
  { off := 0x54, w1c := 0x2, rc := 0xFF000000, rsv := 0xFFFFFC }]⟩

/-- R173 window monitor i. -/
def RegBlock.wm : RegBlock := ⟨.wm, 0x1A000, 0x20, 72, [
  { off := 0x0, rsv := 0xFFFF00, reset := 0x4D000000, inst := true },
  { off := 0x4, rw := 0xFD, rsv := 0xFFFFFF02 },
  { off := 0x8, rw := 0xE3FF03FF, rsv := 0x1C00FC00, reset := 0x83FF0000 },
  { off := 0xC, w1c := 0x2C, rsv := 0xFFFFFFC0 },
  { off := 0x10 },
  { off := 0x14 },
  { off := 0x18, rc := 0xFFFFFFFF }]⟩

/-- R173 hit comparator h. -/
def RegBlock.hc : RegBlock := ⟨.hc, 0x1B000, 0x40, 8, [
  { off := 0x0, rsv := 0xFFFF00, reset := 0x48000000, inst := true },
  { off := 0x4, rw := 0xE00000F1, rsv := 0x1FFFFF0E, reset := 0x80000080 },
  { off := 0x8, rw := 0xFF0FFFFF, rsv := 0xF00000, reset := 0x4000A004 },
  { off := 0xC, rw := 0x3FFFFFF, rsv := 0xFC000000, reset := 0x19000FF },
  { off := 0x10, rw := 0xFFFFFFFF, reset := 0x3E800C8 },
  { off := 0x14, rw := 0x3FF, rsv := 0xFFFFFC00, reset := 0x64 },
  { off := 0x18, rsv := 0xFC000000 },
  { off := 0x1C, w1c := 0xC, rsv := 0xFFFFFFE0 },
  { off := 0x20, rc := 0xFFFFFFFF },
  { off := 0x24, rc := 0xFFFFFFFF }]⟩

/-- R173 CMP, common part. -/
def RegBlock.cmp : RegBlock := ⟨.cmp, 0x1B400, 0x100, 1, [
  { off := 0x0, rsv := 0xFFFFFF, reset := 0x4B000000 },
  { off := 0x4, rw := 0x1, w1c := 0x80000000, rsv := 0x7FFFFFFE, reset := 0x1 },
  { off := 0x8, rw := 0x3, rsv := 0xFFFFFFFC }]⟩

/-- R196 ENG, common part. -/
def RegBlock.eng : RegBlock := ⟨.eng, 0x20000, 0x100, 1, [
  { off := 0x0, rsv := 0xFFFF, reset := 0x47010000 },
  { off := 0x4, rw := 0xF01, rsv := 0xFFFFF0FE, reset := 0x401 },
  { off := 0x8, w1c := 0x260, rsv := 0xFFC0E },
  { off := 0xC },
  { off := 0x10, rsv := 0xFFFF0000 },
  { off := 0x14, rsv := 0xFFFF0000 },
  { off := 0x18, rc := 0xFFFFFFFF },
  { off := 0x1C }]⟩

/-- R196 cluster c. -/
def RegBlock.cl : RegBlock := ⟨.cl, 0x20100, 0x100, 4, [
  { off := 0x0, rsv := 0xFFFF00, reset := 0x4C000000, inst := true },
  { off := 0x4, wo := 0x3, rsv := 0xFFFFFFFC },
  { off := 0x8, rsv := 0xFFFC },
  { off := 0xC },
  { off := 0x10 },
  { off := 0x14 },
  { off := 0x18, rsv := 0xFF000000 },
  { off := 0x1C }]⟩

/-- R196 ENG node window. -/
def RegBlock.engwin : RegBlock := ⟨.engwin, 0x21000, 0x1000, 1, [
  { off := 0x0, rw := 0xFF, rsv := 0xFFFFFF00 },
  { off := 0x40, cnt := 8, step := 0x4 }]⟩

/-- R266 STR, common part. -/
def RegBlock.str : RegBlock := ⟨.str, 0x30000, 0x400, 1, [
  { off := 0x0, rsv := 0xFFFF, reset := 0x53010000 },
  { off := 0x4 },
  { off := 0x8 },
  { off := 0xC, w1c := 0xE, rsv := 0x3FF1 },
  { off := 0x10, rc := 0x1FFF, rsv := 0xE000E000 },
  { off := 0x14, rc := 0xFFFFFFFF },
  { off := 0x20, rw := 0x3FF, rsv := 0xFFFFFC00 },
  { off := 0x40, cnt := 8, step := 0x4 },
  { off := 0x100, cnt := 8, step := 0x4, rw := 0xEFFF001F, rsv := 0x1000FFE0 }]⟩

/-- R266 host ring r. -/
def RegBlock.hr : RegBlock := ⟨.hr, 0x30400, 0x20, 32, [
  { off := 0x0, rw := 0xFFFF0000, rsv := 0xFFFF },
  { off := 0x4, rw := 0xFFFFFFFF },
  { off := 0x8, rw := 0x870FFFFF, rsv := 0x78F00000, reset := 0x640 },
  { off := 0xC, rsv := 0x7E000000, reset := 0x80000000 },
  { off := 0x10, rw := 0x1FFFFFF, rsv := 0xFE000000 },
  { off := 0x14, w1c := 0x1C, rsv := 0xFFFFFFE1 },
  { off := 0x18, rc := 0xFFFFFFFF }]⟩

/-- R287 DRC, common part. -/
def RegBlock.drc : RegBlock := ⟨.drc, 0x40000, 0x100, 1, [
  { off := 0x0, rsv := 0xFFFF, reset := 0x44010000 },
  { off := 0x4, rw := 0x333, rsv := 0xFFFFFCCC, reset := 0x210 },
  { off := 0x8, w1c := 0xF8, rsv := 0x3FFF07, reset := 0x40000000 },
  { off := 0x10, rw := 0xFFFF, rsv := 0xFFFF0000, reset := 0x800 },
  { off := 0x14, rw := 0xF, rc := 0xF00, rsv := 0xFFFFF0C0, reset := 0x8 },
  { off := 0x18 },
  { off := 0x1C, rc := 0xFFFFFFFF },
  { off := 0x20 },
  { off := 0x24, rc := 0xFFFFFFFF },
  { off := 0x28, rc := 0xFFFFFFFF },
  { off := 0x2C, rc := 0xFFFFFFFF },
  { off := 0x30, rc := 0xFFFFFFFF }]⟩

/-- R287 DRC port p. -/
def RegBlock.drcport : RegBlock := ⟨.drcport, 0x40100, 0x20, 6, [
  { off := 0x0, rw := 0xFFFF, rsv := 0xFFFF0000 },
  { off := 0x4, rsv := 0x30FF0000 },
  { off := 0x8, rc := 0xFFFFFFFF },
  { off := 0xC, rc := 0xFFFFFFFF },
  { off := 0x10, rc := 0xFFFFFFFF }]⟩

/-- R308 ECC. -/
def RegBlock.ecc : RegBlock := ⟨.ecc, 0x44000, 0x1000, 1, [
  { off := 0x0, rsv := 0xFFFF, reset := 0x45010000 },
  { off := 0x4, rw := 0x1FF, rsv := 0xFFFFFE00, reset := 0x103 },
  { off := 0x8, w1c := 0x7F, rsv := 0xE0E0FF80 },
  { off := 0xC, rc := 0xFFFFFFFF },
  { off := 0x10, rc := 0xFFFFFFFF },
  { off := 0x14, rc := 0xFFFFFFFF },
  { off := 0x18, rc := 0xFFFFFFFF },
  { off := 0x1C, rc := 0xFFFFFFFF },
  { off := 0x20, rw := 0xFFFFFFFF, reset := 0x3C0010 },
  { off := 0x24, rsv := 0xF0000000 },
  { off := 0x28 },
  { off := 0x2C, rw := 0xF, rc := 0xFFFF0, wo := 0x80000000, rsv := 0x7FF00000 },
  { off := 0x34 },
  { off := 0x38, rw := 0x3FF, rsv := 0x7FFFFC00 },
  { off := 0x3C, rw := 0xFFFFFFF, rsv := 0xF0000000 },
  { off := 0x60, cnt := 5, step := 0x4, rc := 0xFFFFFFFF },
  { off := 0x80, cnt := 8, step := 0x4, aon := true },
  { off := 0x100, cnt := 16, step := 0x4, aon := true }]⟩

/-- R84 RES entry i. -/
def RegBlock.res : RegBlock := ⟨.res, 0x50000, 0x10, 72, [
  { off := 0x0, reset := 0x80000000 },
  { off := 0x4, reset := 0x80000000 },
  { off := 0x8, rsv := 0xFFFFF0E0 },
  { off := 0xC, rw := 0x40000000, w1c := 0x80000000, rc := 0xFFFF, rsv := 0x3FFF0000 }]⟩

/-- Every block of registers (R447); the routing window of FAB (R380) and the snapshot region (R453) are read by
their own operations and are no registers of this map. -/
def blocks : List RegBlock :=
  [RegBlock.dev, RegBlock.mode, RegBlock.clk, RegBlock.saf, RegBlock.alm, RegBlock.hif, RegBlock.eq, RegBlock.msix, RegBlock.pba, RegBlock.snp, RegBlock.boot, RegBlock.fab, RegBlock.fp, RegBlock.pch, RegBlock.bank,
   RegBlock.exc, RegBlock.cal, RegBlock.wch, RegBlock.wm, RegBlock.hc, RegBlock.cmp, RegBlock.eng, RegBlock.cl, RegBlock.engwin, RegBlock.str, RegBlock.hr, RegBlock.drc, RegBlock.drcport, RegBlock.ecc, RegBlock.res]

end Sys2Proof.Machine
end

