-- ==== Sys2Proof/Machine/Operands.lean ====
section
/-!
DEFINITION. What a device consists of and where its registers lie: the capability words of each variant (R1, R448), which
units are present (R449), the register table a BAR0 offset falls in (R447, R450) and each register's reset value (R11).
-/
namespace Sys2Proof.Machine

/-- DEV_VARIANT, DEV_CAP0, DEV_CAP1, DEV_UNIT_MASK, DEV_UNIT_MASK1, DEV_PCH_MASK1, DEV_WM_MASK1, DEV_WM_MASK2 (R448). -/
def capWords : Variant → List Nat
  | .xf6408  => [0x00000001, 0x40884488, 0x1E000032, 0xFFFFFFFF, 0x0000FFFF, 0xFFFFFFFF, 0xFFFFFFFF, 0x000000FF]
  | .xf6400  => [0x00000002, 0x40802484, 0x0F000032, 0xFFFFFF00, 0x0000F300, 0xFFFFFFFF, 0xFFFFFFFF, 0x00000000]
  | .xf3204  => [0x00000003, 0x20442284, 0x0F000032, 0x00FF0F0F, 0x0000330F, 0x00000000, 0x00000000, 0x0000000F]
  | .xf6408f => [0x00000004, 0x40884408, 0x1E000000, 0xFFFFFFFF, 0x0000FFFF, 0xFFFFFFFF, 0xFFFFFFFF, 0x000000FF]

/-- One of the words of `capWords`. -/
def capWord (v : Variant) (i : Nat) : Nat := (capWords v).getD i 0

/-- The PCI Device ID and Vendor ID (R452); 0 on the XF6408F, which has no host link. -/
def pciId : Variant → Nat
  | .xf6408 => 0x64081F4D
  | .xf6400 => 0x64001F4D
  | .xf3204 => 0x32041F4D
  | .xf6408f => 0

/-- Whether P-channel `n` is present: its bit of DEV_PCH_MASK0 or DEV_PCH_MASK1 (R449). -/
def hasPch (v : Variant) (n : Nat) : Bool := if n < 32 then true else n < 64 && bitAt (capWord v 5) (n - 32)
/-- Whether bank `m` is present. -/
def hasBank (v : Variant) (m : Nat) : Bool := m < 8 && bitAt (capWord v 3) (8 + m)
/-- Whether excitation driver `k` is present. -/
def hasExc (v : Variant) (k : Nat) : Bool := k < 16 && bitAt (capWord v 3) (16 + k)
/-- Whether W-channel `n` is present. -/
def hasWch (v : Variant) (n : Nat) : Bool := n < 8 && bitAt (capWord v 3) n
/-- Whether hit comparator `h` is present. -/
def hasHc (v : Variant) (h : Nat) : Bool := h < 8 && bitAt (capWord v 4) h
/-- Whether cluster `c` is present. -/
def hasCl (v : Variant) (c : Nat) : Bool := c < 4 && bitAt (capWord v 4) (8 + c)
/-- Whether fabric port `n` is present. -/
def hasFp (v : Variant) (n : Nat) : Bool := n < 4 && bitAt (capWord v 4) (12 + n)
/-- Whether window monitor `i` is present. -/
def hasWm (v : Variant) (i : Nat) : Bool :=
  if i < 32 then true else if i < 64 then bitAt (capWord v 6) (i - 32) else i < 72 && bitAt (capWord v 7) (i - 64)
/-- Whether the variant has the host link, and so the HIF block (R3). -/
def hasHost (v : Variant) : Bool := bitAt (capWord v 1) 7
/-- The number of cell addresses of DRAM space (R8, R267): 8 GiB or 4 GiB of 32-byte cells. -/
def dramCells (v : Variant) : Nat := (capWord v 1) % 128 * 2 ^ 25

/-- Whether the unit a block instance belongs to is present (R449, R450): a common part is present whenever its block holds
any present instance; the RES entry of an absent channel behaves as that channel's register. -/
def unitPresent (v : Variant) (k : UnitKind) (i : Nat) : Bool :=
  match k with
  | .pch => hasPch v i
  | .bank => hasBank v i
  | .exc => hasExc v i
  | .wch => hasWch v i
  | .wm => hasWm v i
  | .hc => hasHc v i
  | .cl => hasCl v i
  | .fp => hasFp v i
  | .hif | .eq | .msix | .pba | .hr => hasHost v
  | .res => if i < 64 then hasPch v i else hasWch v (i - 64)
  | .dev | .mode | .clk | .saf | .alm | .snp | .boot | .fab | .cal | .cmp | .eng | .engwin | .str | .drc | .drcport
  | .ecc => true

/-- The block an offset falls in, and the number of the unit in it. -/
def blockAt (off : Nat) : Option (RegBlock × Nat) :=
  (blocks.find? (fun b => b.base ≤ off && off < b.base + b.stride * b.count)).map
    (fun b => (b, (off - b.base) / b.stride))

/-- The register table that offset `rel` of a unit falls in, if its map lists a register there. -/
def regAt (b : RegBlock) (rel : Nat) : Option RegDesc :=
  b.regs.find? (fun r => r.off ≤ rel && rel < r.off + r.step * r.cnt && (rel - r.off) % r.step == 0)

/-- The register at a BAR0 offset, with the number of its unit; none where the offset is reserved (R447). -/
def descAt (off : Nat) : Option (RegDesc × Nat) :=
  match blockAt off with
  | none => none
  | some (b, i) => (regAt b ((off - b.base) % b.stride)).map (fun r => (r, i))

/-- Whether an offset lies in a unit that the variant lacks (R450): reserved offsets inside an absent unit count too, and the snapshot
records of an absent channel. -/
def isAbsent (v : Variant) (off : Nat) : Bool :=
  if v = .xf6408f ∧ 0x4000 ≤ off ∧ off < 0x5000 then true
  else if 0x81000 ≤ off ∧ off < 0x82000 then !hasPch v ((off - 0x81000) / 0x40)
  else if 0x82000 ≤ off ∧ off < 0x82100 then !hasWch v ((off - 0x82000) / 0x20)
  else match blockAt off with
    | none => false
    | some (b, i) => !unitPresent v b.kind i

/-- The reset enables of the clock gates (R319). -/
def gateReset : Nat → Nat
  | 0 => 0xFFFF
  | 1 => 0xFFC3
  | _ => 0x3E01

/-- The reset values of the registers that no table gives as one number: factory values (R448, R452, R196, R380), the latency
targets of the ports (R270) and the gate enables (R319). -/
def resetSpecial (f : Factory) (off : Nat) : Option Nat :=
  if off < 0x1000 then
    if off = Reg.DEV_ID then some (0x58010000 + f.stepping.toNat * 256)
    else if off = Reg.DEV_VARIANT then some (capWord f.variant 0)
    else if off = Reg.DEV_PCI_ID then some (pciId f.variant)
    else if off = Reg.DEV_CAP0 then some (capWord f.variant 1)
    else if off = Reg.DEV_CAP1 then some (capWord f.variant 2)
    else if off = Reg.DEV_PCH_MASK0 then some 0xFFFFFFFF
    else if off = Reg.DEV_PCH_MASK1 then some (capWord f.variant 5)
    else if off = Reg.DEV_UNIT_MASK then some (capWord f.variant 3)
    else if off = Reg.DEV_UNIT_MASK1 then some (capWord f.variant 4)
    else if off = Reg.DEV_WM_MASK0 then some 0xFFFFFFFF
    else if off = Reg.DEV_WM_MASK1 then some (capWord f.variant 6)
    else if off = Reg.DEV_WM_MASK2 then some (capWord f.variant 7)
    else none
  else if off = Reg.CLK_GATE_RUN then some (gateReset 0)
  else if off = Reg.CLK_GATE_SLEEP then some (gateReset 1)
  else if off = Reg.CLK_GATE_DEEP then some (gateReset 2)
  else if off = Reg.FAB_DIE_LO then some (f.dieId.toNat % 2 ^ 32)
  else if off = Reg.FAB_DIE_HI then some (f.dieId.toNat / 2 ^ 32)
  else if off = Reg.ENG_EPC then some f.epc.toNat
  else if off = Reg.ENG_EPW then some f.epw.toNat
  else if 0x40100 ≤ off ∧ off < 0x401C0 ∧ off % 0x20 = 0 then
    some ([5000, 1000, 200, 100, 2000, 500].getD ((off - 0x40100) / 0x20) 0)
  else none

/-- What a register reads at reset: its table's value, a unit-ID register its unit's own number (R4, R449). -/
def regReset (f : Factory) (off : Nat) : Word :=
  match resetSpecial f off with
  | some n => BitVec.ofNat 32 n
  | none =>
    match descAt off with
    | none => 0
    | some (r, i) => BitVec.ofNat 32 (r.reset + if r.inst then i else 0)

/-- The registers whose value nothing changes: the unit-ID registers (R4, R449), the identity and capability registers of DEV (R448, R452),
the die ID (R380) and the engine's energy figures (R196). -/
def hardwired (off : Nat) : Bool :=
  off < 0x40 || off == Reg.FAB_DIE_LO || off == Reg.FAB_DIE_HI || off == Reg.ENG_EPC || off == Reg.ENG_EPW ||
  match blockAt off with
  | none => false
  | some (b, _) => match regAt b ((off - b.base) % b.stride) with
    | none => false
    | some d => b.kind != .res && d.off == 0 && d.rw == 0 && d.w1c == 0 && decide (2 ^ 24 ≤ d.reset)

end Sys2Proof.Machine
end

