-- ==== Sys2Proof/Machine/State.lean ====
section
/-!
DEFINITION. The device's state as plain data: the commands that wait, what production has fused, every register of BAR0 (R447) in one
register file, and per unit what the spec gives it beyond its registers. State.reset is the device as POWER_ON leaves it.
-/
namespace Sys2Proof.Machine

/-- Faults. The block has none: the spec gives every command an effect on the device's state. Nothing raises one. -/
inductive Fault where
deriving DecidableEq, Repr

/-- Refusals. A command without a meaning would be refused by its name; every command has one, so nothing refuses. Safe. -/
inductive Refusal where
  /-- The command of this mnemonic is not modelled. Raised by an arm of Machine.exec alone; safe. -/
  | notModelled (mnemonic : String)
deriving DecidableEq, Repr

/-- The state of the device. -/
structure State where
  /-- Commands that wait, first in, first out: the model's own queue. -/
  pending     : List Instr := []
  /-- What production has fused (R1, R448, R451): log entry 2, DESIGN CHOICE. -/
  fac         : Factory
  /-- The register file: every register of R447 by its BAR0 offset; an unlisted one holds its reset value. -/
  regs        : Store Word := []
  /-- AON cycles since the clocks began (R12). -/
  cycles      : Nat := 0
  /-- Fabric time (R369, R374), and the fraction of a unit that the last cycle left, in 1/125. -/
  time        : Time := 0
  /-- See `time`. -/
  timeRem     : Nat := 0
  /-- AON cycles since the last base sample (R85). -/
  sinceBase   : Nat := 0
  /-- The base index of the last base sample (R86). -/
  baseIdx     : BitVec 64 := 0
  /-- Whether base samples exist: from the end of BOOT on (R85, R89). -/
  baseRunning : Bool := false
  /-- The model's own counter of free values; no statement rests on it (log entry 3, DESIGN CHOICE). -/
  fresh       : Nat := 0
  /-- Writes that reach the signal blocks too late for the next base sample, newest first (R328). -/
  late        : List LateWrite := []
  /-- Event records that wait to be written or sent, oldest first, and per class the count of those coalesced at this origin (R399). -/
  recs        : List Rec := []
  /-- See `recs`. -/
  classLost   : Store Nat := []
  /-- The rate limits of R479, by record type and key. -/
  rate        : Store RateKey := []
  /-- What the device has done to the world outside it, newest first. -/
  out         : List Out := []
  /-- Host link and command processing (R382 to R396). -/
  host        : HostUnit := {}
  /-- Event queues (R397, R400). -/
  queues      : Store EvQueue := []
  /-- MSI-X vectors (R387). -/
  msi         : Store MsiVec := []
  /-- Copies that a reader's access has latched, by register and reader (R77): selectors, 64-bit times, the error log's window. -/
  latch       : List ((Nat × Reader) × List Nat) := []
  /-- The mode machine (R310 to R317). -/
  mode        : ModeUnit := {}
  /-- Clocks (R323 to R327). -/
  clk         : ClkUnit := {}
  /-- PACER (R331 to R338). -/
  pacer       : PacerUnit := {}
  /-- SMON (R424 to R430). -/
  smon        : Smon := {}
  /-- The verification of each channel (R426). -/
  trust       : Store ChanTrust := []
  /-- Alarm outputs (R433). -/
  alarm       : Store AlarmUnit := []
  /-- The triggers of the TRIGGERS section (R413), and each one's state by number. -/
  triggers    : List Trigger := []
  /-- See `triggers`. -/
  trig        : Store TrigState := []
  /-- Armed snapshots (R376 to R378), the region's words by offset, and the snapshot being latched. -/
  snp         : List SnapPend := []
  /-- The STARTERs that have come, by ID and origin (R378). -/
  snpSeen     : List (Nat × Nat) := []
  /-- See `snp`. -/
  snapRegion  : Store Nat := []
  /-- See `snp`. -/
  snapNext    : Option (SnapPend × Store Nat) := none
  /-- The boot sequencer and the management core (R403 to R420). -/
  bootu       : BootUnit := {}
  /-- Pins that no register shows (R459 to R468). -/
  pins        : Pins := {}
  /-- P-channels. -/
  pch         : Store Pch := []
  /-- Excitation drivers. -/
  exc         : Store Exc := []
  /-- Latest-result entries (R74 to R82). -/
  res         : Store Res := []
  /-- The conversion coefficients in effect where drift tracking has moved them (R127), by calibration entry. -/
  eff         : Store (Option Eff) := []
  /-- The calibration store (R133). -/
  cal         : Store CalEntry := []
  /-- Bank checkers (R110 to R141). -/
  bank        : Store Bank := []
  /-- Channels as their banks check them. -/
  chk         : Store ChkCh := []
  /-- A CAL_COMMIT in progress (R142). -/
  commit      : Option Commit := none
  /-- W-channels. -/
  wch         : Store Wch := []
  /-- Window monitors. -/
  wm          : Store Wm := []
  /-- Hit comparators. -/
  hc          : Store Hc := []
  /-- Start units. -/
  start       : Store StartUnit := []
  /-- The analysis engine: the graph, its nodes, the clusters (R174 to R196). -/
  eng         : EngUnit := {}
  /-- See `eng`. -/
  nodes       : Store NodeSt := []
  /-- See `eng`. -/
  clu         : Store Cluster := []
  /-- Streams by SID (R233), and host rings (R248). -/
  streams     : Store Stream := []
  /-- See `streams`. -/
  rings       : Store HostRing := []
  /-- The DRAM controller, its channels and ports (R267 to R285). -/
  drc         : DramUnit := {}
  /-- See `drc`. -/
  chan        : Store DramChan := []
  /-- See `drc`. -/
  dport       : Store DramPort := []
  /-- The DRAM's cells by cell address; an unlisted one is zero with clean check bits (log entry 4, DESIGN CHOICE). -/
  cells       : Store Cell := []
  /-- Stored-data protection (R288 to R309). -/
  ecc         : EccUnit := {}
  /-- The fabric and its ports (R343 to R375). -/
  fab         : FabUnit := {}
  /-- See `fab`. -/
  port        : Store Port := []
deriving DecidableEq, Repr

/-- The factory values of the device that State.reset stands for (log entry 2, DESIGN CHOICE). -/
def Factory.standard : Factory := { variant := .xf6408, stepping := 1, dieId := 1, epc := 700, epw := 50 }

/-- The device right after reset, as POWER_ON (R459) leaves it: in COLD reset, every register at its reset value (R11), nothing else
begun. -/
def State.reset : State := { fac := Factory.standard }

end Sys2Proof.Machine
end

