-- ==== Sys2Proof/Machine/Ops.lean ====
section
/-!
DEFINITION. The named operations every command's meaning is built from: the register file, free values, event records and their
rate limits, outputs, time, and what is present in this device.
-/
namespace Sys2Proof.Machine

/-! ### The register file -/

/-- The word that the register at BAR0 offset `a` holds. -/
def State.reg (s : State) (a : Nat) : Word := Store.get (regReset s.fac) s.regs a

/-- The state with the register at offset `a` holding `w`. -/
def State.setReg (s : State) (a : Nat) (w : Word) : State := { s with regs := Store.set (regReset s.fac) s.regs a w }

/-- The number in field `f` of the register at `a`. -/
def State.fld (s : State) (a : Nat) (f : Field) : Nat := getField f (s.reg a)

/-- The state with field `f` of the register at `a` holding `v`. -/
def State.setFld (s : State) (a : Nat) (f : Field) (v : Nat) : State := s.setReg a (putField f (s.reg a) v)

/-- Whether a one-bit field is set. -/
def State.flag (s : State) (a : Nat) (f : Field) : Bool := s.fld a f == 1

/-- Set a one-bit field. -/
def State.raise (s : State) (a : Nat) (f : Field) : State := s.setFld a f 1

/-- Clear a field. -/
def State.clear (s : State) (a : Nat) (f : Field) : State := s.setFld a f 0

/-- Set a live status bit and its sticky companion. -/
def State.setLive (s : State) (a : Nat) (live sticky : Field) (b : Bool) : State :=
  if b then (s.raise a live).raise a sticky else s.clear a live

/-- Count one more in a field, which saturates (R9). -/
def State.count (s : State) (a : Nat) (f : Field) : State := s.setFld a f (satInc (fieldWidth f) (s.fld a f))

/-- Add `n` to a field that saturates. -/
def State.countBy (s : State) (a : Nat) (f : Field) (n : Nat) : State :=
  s.setFld a f (min (s.fld a f + n) (2 ^ (fieldWidth f) - 1))

/-- Set or clear bit `i` of the register at `a`. -/
def State.setBit (s : State) (a i : Nat) (b : Bool) : State := s.setFld a ⟨i, i⟩ (bit b)

/-- Bit `i` of the register at `a`. -/
def State.regBit (s : State) (a i : Nat) : Bool := bitAt (s.reg a).toNat i

/-- The whole of a 32-bit register. -/
def word32 : Field := ⟨31, 0⟩

/-- A 64-bit value in a pair of registers. -/
def State.setPair (s : State) (lo hi : Nat) (t : Nat) : State :=
  (s.setReg lo (BitVec.ofNat 32 t)).setReg hi (BitVec.ofNat 32 (t / 2 ^ 32))

/-- A value of `w` bits that the spec leaves open: opaque, and a fresh one each time. -/
def State.freeNat (s : State) (w : Nat) : Nat × State :=
  (Config.freeValue s.fresh % 2 ^ w, { s with fresh := s.fresh + 1 })

/-- The AON cycle of the next base-sample boundary (R85). -/
def State.nextBoundary (s : State) : Nat := s.cycles + (64 - s.sinceBase)

/-- Whether a register belongs to the blocks that base samples run through: channels, drivers, bank checkers, calibration, comparators. -/
def signalReg (a : Nat) : Bool :=
  match blockAt a with
  | some (b, _) => [UnitKind.pch, .exc, .bank, .cal, .wch, .wm, .hc, .cmp, .res].contains b.kind
  | none => false

/-- A write to the AON domain commits in its second to fourth cycle, which of them is free (R328): one that may miss the next base-sample
boundary is noted with what stood there. -/
def State.noteLate (s : State) (a : Nat) (mask : Word) : State :=
  if !s.baseRunning || decide (s.sinceBase ≤ 60) || !signalReg a then s else
  let p := s.freeNat 8
  let e : LateWrite := { commit := s.cycles + 2 + p.1 % 3, off := a, mask := mask, old := s.reg a }
  { p.2 with late := e :: p.2.late.filter (fun e => decide (s.cycles < e.commit)) }

/-- The register at `a` as the AON domain holds it at AON cycle `c` (R328). -/
def State.regBy (s : State) (c a : Nat) : Word :=
  (s.late.filter (fun e => e.off == a && decide (c < e.commit))).foldl (fun w e => (w &&& ~~~e.mask) ||| (e.old &&& e.mask)) (s.reg a)

/-- Whether a write of the register at `a` has not committed by AON cycle `c` (R328). -/
def State.lateBy (s : State) (c a : Nat) : Bool := s.late.any (fun e => e.off == a && decide (c < e.commit))

/-- Write the RW bits of the register at `a` that `reject` does not name (R9, R27): every other bit keeps its value. -/
def State.writeBits (s : State) (a : Nat) (mask reject v : Word) : State :=
  (s.noteLate a (mask &&& ~~~reject)).setReg a ((s.reg a &&& ~~~(mask &&& ~~~reject)) ||| (v &&& (mask &&& ~~~reject)))

/-- A write judged field by field (R27): the rejected fields keep their value, the others take effect, and where any was
rejected the status bit `f` of the register at `st` sets. -/
def State.writeJudged (s : State) (a : Nat) (mask reject v : Word) (st : Nat) (f : Field) : State :=
  let s := s.writeBits a mask reject v
  if reject = 0 then s else s.raise st f

/-- A write that clears the W1C bits that `v` has set (R9). -/
def State.writeOnes (s : State) (a : Nat) (w1c v : Word) : State := s.setReg a (s.reg a &&& ~~~(v &&& w1c))

/-- The mask that rejects a field when a condition fails. -/
def rejectIf (b : Bool) (f : Field) : Word := if b then maskOf f else 0

/-- Whether a reader is a fabric requester. -/
def Reader.isFabric : Reader → Bool
  | .fabric _ => true
  | _ => false

/-! ### Units kept in stores -/

/-- P-channel `n` beyond its registers. -/
def State.pchU (s : State) (n : Nat) : Pch := Store.get (fun _ => {}) s.pch n
/-- The state with P-channel `n` replaced. -/
def State.setPch (s : State) (n : Nat) (c : Pch) : State := { s with pch := Store.set (fun _ => {}) s.pch n c }
/-- Excitation driver `k` beyond its registers. -/
def State.excU (s : State) (k : Nat) : Exc := Store.get (fun _ => {}) s.exc k
/-- The state with excitation driver `k` replaced. -/
def State.setExc (s : State) (k : Nat) (x : Exc) : State := { s with exc := Store.set (fun _ => {}) s.exc k x }

/-- W-channel `n` beyond its registers. -/
def State.wchU (s : State) (n : Nat) : Wch := Store.get (fun _ => {}) s.wch n
/-- The state with W-channel `n` replaced. -/
def State.setWch (s : State) (n : Nat) (w : Wch) : State := { s with wch := Store.set (fun _ => {}) s.wch n w }
/-- Window monitor `i` beyond its registers. -/
def State.wmU (s : State) (i : Nat) : Wm := Store.get (fun _ => {}) s.wm i
/-- The state with window monitor `i` replaced. -/
def State.setWm (s : State) (i : Nat) (w : Wm) : State := { s with wm := Store.set (fun _ => {}) s.wm i w }
/-- Hit comparator `h` beyond its registers. -/
def State.hcU (s : State) (h : Nat) : Hc := Store.get (fun _ => {}) s.hc h
/-- The state with hit comparator `h` replaced. -/
def State.setHc (s : State) (h : Nat) (x : Hc) : State := { s with hc := Store.set (fun _ => {}) s.hc h x }
/-- Start unit `n`. -/
def State.startU (s : State) (n : Nat) : StartUnit := Store.get (fun _ => {}) s.start n
/-- The state with start unit `n` replaced. -/
def State.setStart (s : State) (n : Nat) (u : StartUnit) : State := { s with start := Store.set (fun _ => {}) s.start n u }

/-! ### Free values -/

/-! ### Time -/

/-- Units of fabric time (2^-32 s) in a number of microseconds. -/
def usTime (n : Nat) : Nat := n * 2 ^ 32 / 1000000
/-- Units of fabric time in a number of milliseconds. -/
def msTime (n : Nat) : Nat := n * 2 ^ 32 / 1000
/-- `n` ns in fabric time, rounded down. -/
def nsTime (n : Nat) : Nat := n * 2 ^ 32 / 1000000000
/-- Units of fabric time in a number of seconds. -/
def secTime (n : Nat) : Nat := n * 2 ^ 32
/-- Microseconds from one fabric time to a later one. -/
def usSince (a b : Time) : Nat := (b - a).toNat * 1000000 / 2 ^ 32
/-- Milliseconds from one fabric time to a later one. -/
def msSince (a b : Time) : Nat := (b - a).toNat * 1000 / 2 ^ 32

/-- Whether a time that is held lies at least `d` back. -/
def State.longSince (s : State) (t : Option Time) (d : Nat) : Bool :=
  match t with
  | some t => decide (t.toNat + d ≤ s.time.toNat)
  | none => false

/-- Let `n` AON cycles of 1/16 384 000 s pass: fabric time advances by exactly 262 + 18/125 units a cycle, the fraction kept. -/
def State.passCycles (s : State) (n : Nat) : State :=
  let x := s.timeRem + 32768 * n
  { s with cycles := s.cycles + n, time := s.time + BitVec.ofNat 64 (x / 125), timeRem := x % 125,
           sinceBase := s.sinceBase + n }

/-! ### Event records -/

/-- The fixed severity of each record type (R480): 0 INFO, 1 NOTICE, 2 WARNING, 3 ERROR, 4 DANGEROUS; none for a type that
does not exist. A completion takes its severity from its status (R396). -/
def severityOf (t : Nat) : Option Nat :=
  if t ∈ [0x0003, 0x0119, 0x0200, 0x0230, 0x0319, 0x0450] then some 0
  else if t ∈ [0x0010, 0x0041, 0x0052, 0x0113, 0x0121, 0x0131, 0x0132, 0x0141, 0x0144, 0x0148, 0x0149, 0x0210, 0x0240,
    0x0241, 0x0242, 0x0301, 0x0302, 0x0310, 0x0314, 0x0365, 0x0401, 0x0410, 0x0420, 0x0421, 0x0422, 0x0427, 0x0430,
    0x0431, 0x0440, 0x0442, 0x0501, 0x0502, 0x0504, 0x0701] then some 1
  else if t ∈ [0x0001, 0x0002, 0x0011, 0x0020, 0x0044, 0x0051, 0x0053, 0x0110, 0x0111, 0x0114, 0x0122, 0x0130, 0x0142,
    0x0146, 0x014B, 0x0150, 0x0221, 0x0231, 0x0243, 0x0244, 0x0300, 0x0304, 0x0315, 0x0316, 0x0317, 0x0360, 0x0361,
    0x0362, 0x0363, 0x0364, 0x0400, 0x0412, 0x0424, 0x0425, 0x0426, 0x0441, 0x0451, 0x0700, 0x0702, 0x0703,
    0x0704] then some 2
  else if t ∈ [0x0040, 0x0042, 0x0050, 0x0054, 0x0055, 0x0112, 0x0118, 0x0120, 0x0140, 0x0143, 0x0145, 0x014A, 0x0220,
    0x0303, 0x0311, 0x0312, 0x0313, 0x0318, 0x0411, 0x0423, 0x0503, 0x0507, 0x0510] then some 3
  else if t ∈ [0x0402, 0x0500, 0x0505, 0x0506, 0x0511] then some 4
  else none

/-- The class of a record: bits 10:8 of its type (R398). -/
def classOf (t : Nat) : Nat := t / 256 % 8

/-- Whether a record is part of a completion (R396). -/
def Rec.isCompletion (r : Rec) : Bool := r.type == 0x0600 || r.type == 0x0601

/-- Whether 1024 records wait (R399). -/
def State.recsFull (s : State) : Bool := decide (1024 ≤ s.recs.length)

/-- Put a record behind those that wait to be written (R397). 1024 records can wait (R399); a further one is coalesced into
its class's count and DEV_EV_LOST. In D3hot a DANGEROUS record that waits asserts WAKE_N (R388). -/
def State.push (s : State) (r : Rec) : State :=
  let full := s.recsFull
  let lost := Store.get (fun _ => 0) s.classLost (classOf r.type)
  { s with
    host := if s.host.d3hot && r.sev == 4 then { s.host with wakeN := true } else s.host
    recs := if full then s.recs else s.recs ++ [r]
    classLost := if full then Store.set (fun _ => 0) s.classLost (classOf r.type) (satInc 16 lost) else s.classLost
    regs := if full then (s.count Reg.DEV_EV_LOST word32).regs else s.regs }

/-- A record of a type with a fixed severity, of unit `u`, with the time its rule names. -/
def mkRec (type u : Nat) (t : Time) (fields : List Int) : Rec :=
  { type := type, unit := u % 256, time := t, sev := (severityOf type).getD 0, fields := fields }

/-- Write an event record of the present fabric time. -/
def State.emit (s : State) (type u : Nat) (fields : List Int) : State := s.push (mkRec type u s.time fields)

/-- Write an event record of a given fabric time. -/
def State.emitAt (s : State) (t : Time) (type u : Nat) (fields : List Int) : State := s.push (mkRec type u t fields)

/-- Write the record of a fault that affects data (R255): blocks with the affected data wait for it. -/
def State.emitSafetyHeld (s : State) (type u : Nat) (fields : List Int) : State :=
  s.push { mkRec type u s.time fields with hold := true }

/-- The rate-limit state of a condition: record type and unit, ball or other key. -/
def rateIndex (type key : Nat) : Nat := type * 2 ^ 24 + key

/-- The rate-limit state kept for a key. -/
def State.rateKey (s : State) (type key : Nat) : RateKey := Store.get (fun _ => {}) s.rate (rateIndex type key)

/-- The state with the rate limit of a key replaced. -/
def State.setRate (s : State) (type key : Nat) (k : RateKey) : State :=
  { s with rate := Store.set (fun _ => {}) s.rate (rateIndex type key) k }

/-- A record whose key has one record in `interval` units of fabric time (R479). `sideB` names the clearing side where the
rule makes setting and clearing two keys; `now` is the state it reports; `mk n` is the record carrying suppressed count `n`.
Within the interval the occurrence is counted and kept as the latest; otherwise it is written with the count so far. -/
def State.emitLimited (s : State) (type u key interval : Nat) (sideB : Bool) (now : Nat) (mk : Nat → List Int) : State :=
  let k := s.rateKey type key
  let last := if sideB then k.lastB else k.lastA
  let supp := if sideB then k.suppB else k.suppA
  let due := match last with
    | none => true
    | some t => interval ≤ (s.time - t).toNat
  if due then
    let k' := if sideB then { k with lastB := some s.time, suppB := 0, reported := now, pend := none, interval := interval }
      else { k with lastA := some s.time, suppA := 0, reported := now, pend := none, interval := interval }
    (s.setRate type key k').emit type u (mk supp)
  else
    let r := mkRec type u s.time (mk supp)
    let k := { k with pend := some r, pendNow := now, pendB := sideB, interval := interval }
    let k' := if sideB then { k with suppB := supp + 1 } else { k with suppA := supp + 1 }
    s.setRate type key k'

/-! ### Absent units -/

/-- The address of a requester in DEV_ABSENT_ADDR (R451). -/
def Reader.addr : Reader → Nat
  | .pcie | .mc => 0
  | .fabric a => a

/-- A write to an absent unit (R5, R450, R451): ignored, counted, its offset and requester kept. -/
def State.absentWrite (s : State) (who : Reader) (off : Nat) : State :=
  let s := s.count Reg.DEV_ABSENT_WR word32
  s.setReg Reg.DEV_ABSENT_ADDR (BitVec.ofNat 32 (Reader.addr who % 4096 * 2 ^ 20 + off % 2 ^ 20))

/-- A write of the register at `off` of instance `i` of a unit of which the map has `count`, where the device lacks that instance: it is
counted as one of the host's (R5). The map has no register for a larger `i`. -/
def State.writeAbsent (s : State) (i count off : Nat) : State := if i < count then s.absentWrite .pcie off else s

/-! ### Outputs -/

/-- The device does `o` to the world outside it. -/
def State.put (s : State) (o : Out) : State := { s with out := o :: s.out }

/-- Whether the clock is in holdover now, or a source is being switched (R88, R325, R326). -/
def State.inHoldover (s : State) : Bool := s.flag Reg.CLK_STAT Fld.CLK_STAT_HOLDOVER || s.clk.switching.isSome

/-! ### Modes, by their codes (R310) -/

def modeBoot : Nat := 0
def modeVigil : Nat := 1
def modeSurvey : Nat := 2
def modeBurst : Nat := 3
def modeService : Nat := 4
def modeSafe : Nat := 5

/-- The present mode: MODE_STAT.CUR. -/
def State.curMode (s : State) : Nat := s.fld Reg.MODE_STAT Fld.MODE_STAT_CUR

/-- Whether the device is in SERVICE. -/
def State.inService (s : State) : Bool := s.curMode == modeService

/-- Whether the device is held in reset (R459, R467, R468). -/
def State.inReset (s : State) : Bool := s.bootu.coldHeld || s.bootu.perstLow || s.bootu.jtagHold

/-- How far BOOT has come (R422): BOOT_STAT.PHASE. -/
def State.bootPhase (s : State) : Nat := s.fld Reg.BOOT_STAT Fld.BOOT_STAT_PHASE

/-- BOOT has failed (R412). -/
def State.bootFailed (s : State) : Bool := s.bootPhase == 8

/-- The address that names this device in records: FAB_ADDR. -/
def State.ownAddr (s : State) : Nat := s.fld Reg.FAB_ADDR Fld.FAB_ADDR_ADDR

/-! ### Power states and clock gates (R318, R319) -/

/-- The gates of the clusters that have failed: they stay shut (R192). -/
def State.failedGates (s : State) : Word := BitVec.ofNat 32 (s.fld Reg.ENG_STAT Fld.ENG_STAT_FAILED * 4)

/-- 1024 cycles of the clock of a gate's block, in fabric time (R320): 600 MHz for the MC, 409.6 MHz for the W timebase, else 800 MHz (log entry
128, DESIGN CHOICE). -/
def quiesceTime (g : Nat) : Nat := 2 ^ 42 / (if g = 1 then 600000000 else if g = 14 then 409600000 else 800000000)

/-- The gates that are open: a gate asked to close has done so once the time of R320 has passed without a GATE_TIMEOUT. -/
def State.openGates (s : State) : Word :=
  s.clk.closing.foldl (fun w q => if quiesceTime q.1 < (s.time - q.2).toNat then w &&& ~~~(BitVec.ofNat 32 (2 ^ q.1)) else w)
    (s.reg Reg.CLK_GATE_OPEN)

/-- Whether gate `g` is open (R319). -/
def State.gateOpen (s : State) (g : Nat) : Bool := s.openGates.getLsbD g

/-- Exactly these gates are open, and no other is being closed; the timebase multiplier is locked while gate 14 is. -/
def State.setGates (s : State) (w : Word) : State :=
  let s := { s with clk := { s.clk with closing := s.clk.closing.filter (fun q => w.getLsbD q.1) } }
  (s.setReg Reg.CLK_GATE_OPEN w).setFld Reg.CLK_STAT Fld.CLK_STAT_TB_LOCK (bit (w.getLsbD 14))

/-- The gate enables of a power state (R319). -/
def State.gateEnables (s : State) (ps : Nat) : Word :=
  s.reg (if ps = 0 then Reg.CLK_GATE_RUN else if ps = 1 then Reg.CLK_GATE_SLEEP else Reg.CLK_GATE_DEEP)

/-- The power state (R318): MODE_STAT.PSTATE, 0 RUN, 1 SLEEP, 2 DEEP. -/
def State.pstate (s : State) : Nat := s.fld Reg.MODE_STAT Fld.MODE_STAT_PSTATE

/-- The gates that a W-channel's wake holds open whatever the enables hold: 14 and 15 (R319). -/
def State.heldGates (s : State) : Word :=
  if (List.range 8).any (fun n => hasWch s.fac.variant n && (s.wchU n).woken) then 0xC000 else 0

/-- The gates that the enables of the power state ask to be open (R319). -/
def State.wantedGates (s : State) : Word := (s.gateEnables s.pstate &&& ~~~s.failedGates) ||| s.heldGates

/-- The gates follow the enables of the power state (R319, R320): they open at once; an open one that is to close is asked to. -/
def State.regate (s : State) : State :=
  let now := s.openGates
  let want := s.wantedGates
  let s := s.setGates (now ||| want)
  let since := fun (g : Nat) => ((s.clk.closing.find? (fun q => q.1 == g)).map (·.2)).getD s.time
  { s with clk := { s.clk with
      closing := ((List.range 16).filter (fun g => now.getLsbD g && !want.getLsbD g)).map (fun g => (g, since g)) } }

/-- Every gate that is to close has done so: an entry into DEEP is complete (R322). -/
def State.shutGates (s : State) : State := s.setGates s.wantedGates

/-- A close of gate `g` is given up (R320): it stays open. -/
def State.keepGate (s : State) (g : Nat) : State := { s with clk := { s.clk with closing := s.clk.closing.filter (fun q => q.1 != g) } }

/-- One gate opens. -/
def State.openGate (s : State) (g : Nat) : State := (s.setGates (s.openGates ||| BitVec.ofNat 32 (2 ^ g))).keepGate g

/-- An open gate is asked to close (R320). -/
def State.closeGate (s : State) (g : Nat) : State :=
  if !s.gateOpen g then s else { s.keepGate g with clk := { s.clk with closing := (g, s.time) :: s.clk.closing.filter (fun q => q.1 != g) } }

/-! ### The mode of an instant (R314) -/

/-- Whether base samples of an instant belong to SERVICE: the mode now, and back over the instants at which SERVICE began or ended since. -/
def State.serviceAt (s : State) (t : Time) : Bool :=
  s.inService != ((s.mode.svc.filter (fun b => decide (t.toNat < b.toNat))).length % 2 == 1)

/-- Whether what stands for base samples from one instant to another belongs to SERVICE in part (R91, R240, R314). -/
def State.serviceIn (s : State) (t0 t1 : Time) : Bool :=
  s.serviceAt t0 || s.serviceAt t1 || s.mode.svc.any (fun b => decide (t0.toNat < b.toNat) && decide (b.toNat ≤ t1.toNat))

end Sys2Proof.Machine
end

