-- ==== Sys2Proof/Machine/Events.lean ====
section
/-!
DEFINITION. The inputs of the graph's nodes and the events that reach them (R179, R180): a trigger, a start unit, the end of an
excitation pulse.
-/
namespace Sys2Proof.Machine

/-- Node `i` while the graph runs. -/
def State.nodeU (s : State) (i : Nat) : NodeSt := Store.get (fun _ => {}) s.nodes i
/-- The state with node `i` replaced. -/
def State.setNode (s : State) (i : Nat) (x : NodeSt) : State := { s with nodes := Store.set (fun _ => {}) s.nodes i x }

/-- Change one input of a node. -/
def NodeSt.onInput (x : NodeSt) (k : Nat) (f : NodeIn → NodeIn) : NodeSt :=
  { x with ins := x.ins.zipIdx.map (fun p => if p.2 = k then f p.1 else p.1) }

/-- Apply `f` to every node input that an edge feeds from one of the sources `p` accepts. -/
def State.onEdges (s : State) (p : EdgeSrc → Bool) (f : NodeDef → Edge → NodeIn → NodeIn) : State :=
  (s.eng.graph.zipIdx).foldl (fun s dn =>
    dn.1.ins.foldl (fun s e => if p e.src then s.setNode dn.2 ((s.nodeU dn.2).onInput e.input (f dn.1 e)) else s) s) s

/-- An event at fabric time `t` to the nodes that wait for it (R180). -/
def State.feedEvent (s : State) (src : EdgeSrc) (t : Time) : State :=
  s.onEdges (fun x => x == src) (fun _ _ i => { i with events := i.events ++ [t] })

end Sys2Proof.Machine
end

