-- ==== Sys2Proof/Machine/Kernels.lean ====
section
/-!
DEFINITION. What the fourteen kernels compute (R197 to R232). The arithmetic that the spec states is computed; what it leaves open
(the logarithm's last steps, roundings it does not name) is an opaque function of the operands within the bounds that it does state.
-/
namespace Sys2Proof.Machine

/-! ### Edges -/

/-- Whether a source carries values, rather than an event (R179). -/
def EdgeSrc.isData : EdgeSrc → Bool
  | .channel _ _ => true
  | .node _ => true
  | _ => false

/-- A node's data inputs, in the order of their numbers. -/
def NodeDef.dataIns (d : NodeDef) : List Edge := d.ins.filter (fun e => e.src.isData)

/-- L of a node's first data input. -/
def NodeDef.frameLen (d : NodeDef) : Nat := (d.dataIns.head?.map (·.len)).getD 0

/-- The rate of a node's first data input in samples per 1000 s. -/
def NodeDef.inRate (d : NodeDef) : Nat := (d.dataIns.head?.map (·.rate)).getD 0

/-! ### Fixed-point cosine and logarithm -/

/-- 2^100, the scale of the cosine below. -/
def cosOne : Int := 2 ^ 100

/-- Σ of a Taylor series from `term` on: each next term is -term·x²/((k+1)(k+2)), x² in units of 2^-200. -/
def taylor (x2 : Int) : Nat → Nat → Int → Int
  | 0, _, _ => 0
  | fuel + 1, k, term => term + taylor x2 fuel (k + 2) (-(term * x2 / 2 ^ 200) / ((k + 1) * (k + 2)))

/-- 2π × num / den in units of 2^-100. -/
def turnAngle (num den : Nat) : Int := 7964883625991394727376702227904 * num / den

/-- The cosine of num/den of a turn, in units of 2^-100, from the first eighth of a turn by symmetry. -/
def cosTurn (num den : Nat) : Int :=
  let m := num % den
  let m := if 2 * m > den then den - m else m
  let neg := 4 * m > den
  let q := if neg then den - 2 * m else 2 * m
  let c := if 4 * q ≤ den then let x := turnAngle q (2 * den); taylor (x * x) 20 0 cosOne
    else let x := turnAngle (den - 2 * q) (4 * den); taylor (x * x) 20 1 x
  if neg then -c else c

/-- The sine of num/den of a turn, in units of 2^-100. -/
def sinTurn (num den : Nat) : Int := cosTurn (4 * num + 3 * den) (4 * den)

/-- The next `n` binary digits of a logarithm, behind `acc`: the mantissa `m`, from 1 to 2 in units of 2^-120, is squared for each. -/
def logDigits : Nat → Nat → Nat → Nat
  | 0, _, acc => acc
  | n + 1, m, acc =>
    let q := m * m / 2 ^ 120
    if 2 ^ 121 ≤ q then logDigits n (q / 2) (2 * acc + 1) else logDigits n q (2 * acc)

/-- log₂ of a number above zero, in units of 2^-40. -/
def log2Fix (x : Nat) : Int :=
  let e := Nat.log2 x
  (logDigits 40 (if e ≤ 120 then x * 2 ^ (120 - e) else x / 2 ^ (e - 120)) e : Nat)

/-- A logarithm to base 2 in 1/1024 dB of a power, 10240 log₁₀, both in units of 2^-40. -/
def levelFix (x : Int) : Int := x * 56862958474479177034551 / 2 ^ 64

/-- The whole part of a level in units of 2^-40, or the next number: which of the two the rounding gives is not stated. -/
def levelNear (x : Int) (free : Nat) : Int := x.fdiv (2 ^ 40) + (free % 2 : Nat)

/-- The quotient where it is exact, else one of the two numbers next to it: a rounding that is not stated. -/
def divNear (x : Int) (d : Nat) (free : Nat) : Int := if x % d = 0 then x / d else x.fdiv d + (free % 2 : Nat)

/-- The coefficients a0 to a4 of the window of a WTYPE (R208), in units of 10^-9. -/
def winCoef (wtype : Nat) : List Int :=
  match wtype with
  | 0 => [1000000000, 0, 0, 0, 0]
  | 1 => [500000000, -500000000, 0, 0, 0]
  | 2 => [540000000, -460000000, 0, 0, 0]
  | 3 => [358750000, -488290000, 141280000, -11680000, 0]
  | _ => [215578950, -416631580, 277263158, -83578947, 6947368]

/-- c[n] = round(2^18 × w(n)) of a window over L samples, halves toward plus infinity (R208). -/
def windowCoef (wtype l n : Nat) : Int :=
  let sum := (winCoef wtype).zipIdx.foldl (fun a p => a + p.1 * cosTurn (p.2 * n) l) 0
  roundDiv (sum * 2 ^ 18) (1000000000 * 2 ^ 100)

/-- Σ w(n)² in units of 2^-8, rounded (R208, R213). -/
def windowS2 (wtype l : Nat) : Int :=
  match winCoef wtype with
  | [a, b, c, d, e] => roundDiv ((2 * a * a + b * b + c * c + d * d + e * e) * l * 2 ^ 8) (2 * 10 ^ 18)
  | _ => 0

/-! ### Words and frames -/

/-- A word of the opaque part of a kernel. -/
def openWord (kernel : Nat) (params : List Nat) (f : Frame) (extra : List Int) (i : Nat) : Nat :=
  Config.kernelWord kernel params (f.exp :: extra ++ f.vals.flatMap (fun x => [x.v, x.im])) i

/-- A field of a parameter record. -/
def pf (params : List Word) (w hi lo : Nat) : Nat := getField ⟨hi, lo⟩ (params.getD w 0)

/-- Whether any value of a list is poisoned. -/
def anyPoison (l : List NVal) : Bool := l.any (·.poison)

/-- Attributes of a product: those of its input, with POISON where an affected word is poisoned (R175, R201). -/
def outAttr (attr : Nat) (poison : Bool) : Nat := if poison then attr ||| 32 else attr

/-- A product from one input frame that covers the same span. -/
def Frame.made (f : Frame) (fmt : Nat) (vals : List NVal) (exp : Int) : Frame :=
  { f with fmt := fmt, vals := vals, exp := exp, nfr := 1, kspec := 0, newV := vals.length, attr := outAttr f.attr (anyPoison vals),
           flags := f.flags &&& 2 }

/-- The midpoint of two timestamps, rounded once, halves up (R87, R201). -/
def midTime (a b : Time) : Time := BitVec.ofNat 64 ((a.toNat + b.toNat + 1) / 2)

/-- T_F of a frame (R201). -/
def Frame.tf (f : Frame) : Time := midTime f.tFirst f.tLast

/-! ### Transforms -/

/-- WINDOW (R208). -/
def kWindow (wtype : Nat) (f : Frame) : Frame :=
  let l := f.vals.length
  let mul := fun (x c : Int) => satSigned 20 (asr (x * c + 2 ^ 17) 18)
  f.made f.fmt (f.vals.zipIdx.map (fun p => let c := windowCoef wtype l p.2
    { p.1 with v := mul p.1.v c, im := mul p.1.im c })) f.exp

/-- log2 of a power of two. -/
def log2n (n : Nat) : Nat := Nat.log2 n

/-- A factor cos φ ± j sin φ of R209 for φ = 2πk/n, in units of 2^-18: e^(-jφ), or e^(+jφ) in an inverse transform. -/
def twiddle (inverse : Bool) (k n : Nat) : Int × Int :=
  let s := roundDiv (sinTurn k n) (2 ^ 82)
  (roundDiv (cosTurn k n) (2 ^ 82), if inverse then s else -s)

/-- A twiddle product, rounded by (p + 2^17) >> 18 (R209): whether `each` real product is rounded or their sum the rule does not say. -/
def twiddleMul (each : Bool) (w x : Int × Int) : Int × Int :=
  let rd := fun (p : Int) => asr (p + 2 ^ 17) 18
  if each then (rd (x.1 * w.1) - rd (x.2 * w.2), rd (x.1 * w.2) + rd (x.2 * w.1))
  else (rd (x.1 * w.1 - x.2 * w.2), rd (x.1 * w.2 + x.2 * w.1))

/-- A number times j^q. -/
def quarterTurn (q : Nat) (x : Int × Int) : Int × Int :=
  match q % 4 with
  | 0 => x
  | 1 => (-x.2, x.1)
  | 2 => (-x.1, -x.2)
  | _ => (x.2, -x.1)

/-- The sum of complex numbers. -/
def sumC (l : List (Int × Int)) : Int × Int := l.foldl (fun a x => (a.1 + x.1, a.2 + x.2)) (0, 0)

/-- The discrete Fourier transform of 2 or 4 numbers, which needs no product. -/
def butterfly (inverse : Bool) (u : List (Int × Int)) : List (Int × Int) :=
  let turn := 4 / u.length * (if inverse then 1 else 3)
  (List.range u.length).map (fun q => sumC (u.zipIdx.map (fun p => quarterTurn (turn * q * p.2) p.1)))

/-- The shift of a stage from the largest magnitude of its input (R209). -/
def stageShift (radix : Nat) (l : List (Int × Int)) : Nat :=
  let m := l.foldl (fun a x => max a (max x.1.natAbs x.2.natAbs)) 0
  if radix = 4 then (if m < 92681 then 0 else if m < 370727 then 2 else 3)
  else if m < 217167 then 0 else if m < 434335 then 1 else 2

/-- A stage's output times 2^-s, to nearest with halves toward plus infinity (R209). -/
def stageScale (s : Nat) (x : Int × Int) : Int × Int := (roundDiv x.1 (2 ^ s), roundDiv x.2 (2 ^ s))

/-- One stage over blocks of radix × size numbers (R209): the butterflies take the numbers `size` apart, with the twiddle products before
them (decimation in time) or behind them (in frequency). Answers the scaled output with the shift. -/
def fftStage (inverse each before : Bool) (radix size : Nat) (l : List (Int × Int)) : List (Int × Int) × Nat :=
  let s := stageShift radix l
  let w := fun (i j : Nat) x => twiddleMul each (twiddle inverse (i * j) (radix * size)) x
  let block := fun (b : Nat) =>
    let part := ((l.drop (b * (radix * size))).take (radix * size)).toArray
    let cols := ((List.range size).map (fun j =>
      let u := (List.range radix).map (fun i => let x := part.getD (i * size + j) (0, 0); if before then w i j x else x)
      ((butterfly inverse u).zipIdx.map (fun p => if before then p.1 else w p.2 j p.1)).toArray)).toArray
    (List.range radix).flatMap (fun q => (List.range size).map (fun j => stageScale s ((cols.getD j #[]).getD q (0, 0))))
  ((List.range (l.length / (radix * size))).flatMap block, s)

/-- The stages in order, with the sum of their shifts. -/
def fftStages (inverse each before : Bool) (stages : List (Nat × Nat)) (l : List (Int × Int)) : List (Int × Int) × Nat :=
  stages.foldl (fun r p => let t := fftStage inverse each before p.1 p.2 r.1; (t.1, r.2 + t.2)) (l, 0)

/-- Every `r`-th element of a list, from element `i` on. -/
def strided {α : Type} (r i : Nat) (l : List α) : List α := (l.zipIdx.filter (fun p => p.2 % r == i)).map (·.1)

/-- The order in which decimation in time takes its numbers: the radices from the last stage to the first. -/
def digitOrder {α : Type} : List Nat → List α → List α
  | [], l => l
  | r :: rs, l => (List.range r).flatMap (fun i => digitOrder rs (strided r i l))

/-- The order in which decimation in frequency leaves its numbers, undone: the radices from the first stage on. -/
def digitRestore {α : Type} : List Nat → List α → List α
  | [], l => l
  | r :: rs, l =>
    let n := l.length / r
    let parts := ((List.range r).map (fun q => (digitRestore rs ((l.drop (q * n)).take n)).toArray)).toArray
    (List.range n).flatMap (fun k => (List.range r).filterMap (fun q => (parts.getD q #[])[k]?))

/-- The radices of N = 2^p points (R209): radix-4 stages, and one of radix 2 when p is odd, first or last. -/
def radices (n : Nat) (twoFirst : Bool) : List Nat :=
  let fours := List.replicate (log2n n / 2) 4
  if log2n n % 2 = 0 then fours else if twoFirst then 2 :: fours else fours ++ [2]

/-- Stages with the size of the transforms that they join: 1 for the first, then the product of the radices before. -/
def stageSizes (rs : List Nat) : List (Nat × Nat) :=
  (rs.foldl (fun (p : List (Nat × Nat) × Nat) r => (p.1 ++ [(r, p.2)], p.2 * r)) ([], 1)).1

/-- A complex transform of N points with the sum of its shifts (R209). The rule leaves the order of the stages open: form 0 is decimation
in time with the radix-2 stage last, 1 with it first, 2 decimation in frequency with it last; in these the thresholds of the table keep
every part within 20 bits (log entry 7, DESIGN CHOICE). -/
def fftComplex (inverse : Bool) (l : List (Int × Int)) : List (Int × Int) × Nat :=
  let each := bitAt (Config.fftForm / 3) 0
  let form := Config.fftForm % 3
  let rs := radices l.length (form == 1)
  if form = 2 then
    let r := fftStages inverse each false ((stageSizes rs.reverse).reverse) l
    (digitRestore rs r.1, r.2)
  else fftStages inverse each true (stageSizes rs) (digitOrder rs.reverse l)

/-- The split stage (R209): the bins of a real frame of 2N points from the N-point transform of its pairs, scaled as a radix-2 stage. Where
the half of the sum of two bins is rounded, before or with the shift, the rule does not say (log entry 7, DESIGN CHOICE). -/
def fftSplit (z : List (Int × Int)) : List (Int × Int) × Nat :=
  let n := z.length
  let each := bitAt (Config.fftForm / 3) 0
  let halve := bitAt (Config.fftForm / 3) 1
  let s := stageShift 2 z
  let za := z.toArray
  let bin := fun (k : Nat) =>
    let a := za.getD (k % n) (0, 0)
    let b := za.getD ((n - k) % n) (0, 0)
    let even := (a.1 + b.1, a.2 - b.2)
    let odd := quarterTurn 3 (a.1 - b.1, a.2 + b.2)
    let w := twiddle false k (2 * n)
    if halve then
      let o := twiddleMul each w (stageScale 1 odd)
      let e := stageScale 1 even
      stageScale s (e.1 + o.1, e.2 + o.2)
    else
      let o := twiddleMul each w odd
      stageScale (s + 1) (even.1 + o.1, even.2 + o.2)
  ((List.range (n + 1)).map bin, s)

/-- The values of a list in pairs, as complex numbers. -/
def pairUp : List Int → List (Int × Int)
  | a :: b :: l => (a, b) :: pairUp l
  | _ => []

/-- FFT (R209): a real frame of L points gives L/2 + 1 bins, the imaginary parts of the first and the last zero; a complex one of N points
gives N. -/
def kFft (complex inverse : Bool) (f : Frame) : Frame :=
  let po := anyPoison f.vals
  let t := f.tf
  let r := if complex then fftComplex inverse (f.vals.map (fun x => (x.v, x.im))) else
    let z := fftComplex false (pairUp (f.vals.map (·.v)))
    let x := fftSplit z.1
    (x.1.zipIdx.map (fun p => if p.2 = 0 ∨ p.2 + 1 = x.1.length then (p.1.1, 0) else p.1), z.2 + x.2)
  f.made 3 (r.1.zipIdx.map (fun p => ({ v := p.1.1, im := p.1.2, idx := p.2, t := t, attr := f.attr, poison := po } : NVal)))
    (f.exp + (r.2 : Nat))

/-- MAG2 (R210). -/
def kMag2 (f : Frame) : Frame :=
  f.made 2 (f.vals.map (fun x => { x with v := x.v * x.v + x.im * x.im, im := 0 })) (2 * f.exp)

/-- Whether 10^v ≤ (P × 2^e)^10240, for P > 0: whether v is at most 10240 log10 (P × 2^e). -/
def powAtMost (v : Int) (p : Nat) (e : Int) : Bool :=
  let l := (if e < 0 then 2 ^ (10240 * e.natAbs) else 1) * (if v < 0 then 1 else 10 ^ v.natAbs)
  let r := p ^ 10240 * (if e < 0 then 1 else 2 ^ (10240 * e.natAbs)) * (if v < 0 then 10 ^ v.natAbs else 1)
  decide (l ≤ r)

/-- The largest v with v ≤ 10240 log10 (P × 2^e), between -2^20 and 2^20. -/
def logFloor (p : Nat) (e : Int) : Int :=
  (List.range 21).reverse.foldl (fun (r : Int) i => if powAtMost (r + 2 ^ i) p e then r + 2 ^ i else r) (-(2 ^ 20))

/-- 1024 × 10 log10 (P × 2^e) as the device forms it (R210): an integer within 2 of the exact value, the same on every device; which
one the table gives is not stated. -/
def logLevel (p : Nat) (e : Int) : Int :=
  let v := logFloor p e
  let exact := !powAtMost (v + 1) p e && decide (p ^ 10240 * 2 ^ (10240 * e.natAbs) = 10 ^ v.natAbs) && decide (0 ≤ e) && decide (0 ≤ v)
  let c := Config.kernelWord 4 [] [p, e] 0
  if exact then v - 2 + (c % 5 : Nat) else v - 1 + (c % 4 : Nat)

/-- One value of LOGPOW (R210). -/
def logPow (p : Int) (e ref : Int) : Int := if p ≤ 0 then -524288 else satSigned 20 (logLevel p.toNat e - ref)

/-- LOGPOW (R210). -/
def kLogpow (ref : Int) (f : Frame) : Frame :=
  f.made 4 (f.vals.map (fun x => { x with v := logPow x.v f.exp ref })) 0

/-! ### Accumulations -/

/-- The frame's span joins the span of the product in progress (R201). -/
def KState.cover (k : KState) (f : Frame) : KState :=
  { k with first := k.first.or (some f.tFirst), last := f.tLast, attr := k.attr ||| f.attr, flags := k.flags ||| (f.flags &&& 2) }

/-- The accumulation halves until the frame can be added (R212): each frame value taken right by E_a - E_f. -/
def powAlign (vals : List Int) (ef : Int) : Nat → List Int → Int → List Int × Int
  | 0, acc, ea => (acc, ea)
  | fuel + 1, acc, ea =>
    let sh := vals.map (fun v => asr v (ea - ef).toNat)
    if (acc.zipWith (· + ·) sh).any (fun v => decide (2 ^ 40 ≤ v)) then powAlign vals ef fuel (acc.map (fun v => asr v 1)) (ea + 1)
    else (acc, ea)

/-- One frame into the accumulation of AVERAGE or PSD (R212). An accumulation that has been cleared takes the exponent of its first
frame (log entry 8, DEDUCED). -/
def accumulate (exp : Bool) (a : Nat) (f : Frame) (k : KState) : KState :=
  let vals := f.vals.map (·.v)
  let n := vals.length
  let acc := if k.acc.length = n then k.acc else List.replicate n 0
  let po := ((if k.accPo.length = n then k.accPo else List.replicate n false).zipWith (· || ·) (f.vals.map (·.poison)))
  let k := { k with accPo := po, nfr := min (k.nfr + 1) 0xFFFFFF, fmt := f.fmt }.cover f
  if f.fmt = 2 then
    let ea := max (k.ea.getD f.exp) f.exp
    let acc := acc.map (fun v => asr v (ea - k.ea.getD f.exp).toNat)
    if exp then
      { k with ea := some ea, acc := acc.zipWith (fun c v => c + asr (asr v (ea - f.exp).toNat - c) a) vals }
    else
      let p := powAlign vals f.exp 42 acc ea
      { k with ea := some p.2, acc := p.1.zipWith (fun c v => c + asr v (p.2 - f.exp).toNat) vals }
  else if exp then { k with acc := acc.zipWith (fun c v => c + asr (v - c) a) vals }
  else { k with acc := acc.zipWith (· + ·) vals }

/-- A placeholder of a product. -/
def gapFrame (reason : Nat) (t0 t1 : Time) : Frame := { fmt := 0, vals := [], nfr := 0, tFirst := t0, tLast := t1, gap := reason }

/-- The product of an accumulation that is due, and the state after it (R207, R212): NFR below the configured count sets PARTIAL, no
frame at all gives a placeholder with reason EMPTY. A live change in the span sets PCHANGE (R202); a placeholder cannot carry it, so the
next product does (log entry 98, DEDUCED). -/
def accProduct (exp : Bool) (cfg : Nat) (kspec : Nat) (now : Time) (k : KState) : Option Frame × KState :=
  let t0 := k.first.getD now
  let t1 := if k.first.isSome then k.last else now
  let next := { k with cnt := 0, nfr := 0, first := none, attr := 0, flags := if exp && k.nfr == 0 then k.flags else 0 }
  let next := if exp then next else { next with acc := [], accPo := [], ea := none }
  if k.nfr = 0 then (some (gapFrame 5 t0 t1), next)
  else
    let fmt := k.fmt
    let sum := fmt == 2 && !exp
    let val := fun (c : Int) => if exp || fmt = 2 then c else (2 * c + k.nfr).fdiv (2 * k.nfr)
    let vals := (k.acc.zip k.accPo).zipIdx.map (fun p => ({ v := val p.1.1, idx := p.2, t := midTime t0 t1, attr := k.attr,
                                                            poison := p.1.2 } : NVal))
    (some { fmt := fmt, vals := vals, exp := if fmt = 2 then k.ea.getD 0 else 0, nfr := k.nfr, tFirst := t0, tLast := t1,
            flags := k.flags ||| bit (decide (k.nfr < cfg)) ||| 32 * bit k.changed, attr := outAttr k.attr (anyPoison vals),
            kspec := kspec + bit sum, newV := vals.length }, { next with changed := false })

/-- AVERAGE (R212) over a frame, or over a placeholder, which adds nothing (R207). -/
def kAverage (params : List Word) (f : Frame) (k : KState) : KOut :=
  let exp := pf params 1 31 31 == 1
  let kk := pf params 1 15 0
  let k := { (if f.gap = 0 then accumulate exp (pf params 1 27 24) f k else k) with cnt := k.cnt + 1 }
  if k.cnt < kk then { st := k, outs := [none] }
  else let p := accProduct exp kk 0 f.tLast k; { st := p.2, outs := [p.1] }

/-- The per-frame power spectrum that PSD accumulates (R213). -/
def psdFrame (params : List Word) (f : Frame) : Frame := kMag2 (kFft false false (kWindow (pf params 1 19 16) f))

/-- PSD (R213) over frames of `l` points. A live change that this invocation starts with marks its per-frame output too (R202). -/
def kPsd (l : Nat) (changed : Bool) (params : List Word) (f : Frame) (k : KState) : KOut :=
  let exp := pf params 1 31 31 == 1
  let kk := pf params 1 15 0
  let wt := pf params 1 19 16
  let p := psdFrame params f
  let k := { (if f.gap = 0 then accumulate exp (pf params 1 27 24) p k else k) with cnt := k.cnt + 1 }
  let ks := wt * 16 + (windowS2 wt l).toNat % 2 ^ 32 * 256
  let each := if pf params 1 30 30 = 1 then
      [if f.gap = 0 then some { p with flags := p.flags ||| 32 * bit changed } else some (gapFrame f.gap f.tFirst f.tLast)] else []
  if k.cnt < kk then { st := k, outs := none :: each }
  else let q := accProduct exp kk ks f.tLast k; { st := q.2, outs := q.1 :: each }

/-- A value into the counts of DENSITY (R215): bin `b`, level index `j`. Returns the counts, UNDER, OVER and whether it saturated. -/
def densityAdd (lv b : Nat) (j : Int) (acc : List Int) (under above : Nat) : List Int × Nat × Nat × Bool :=
  if j < 0 then (acc, min (under + 1) 0xFFFFFF, above, false)
  else if j ≥ lv then (acc, under, min (above + 1) 0xFFFFFF, false)
  else
    let i := b * lv + j.toNat
    let c := acc.getD i 0
    if c ≥ 1048575 then (acc, under, above, true) else (acc.set i (c + 1), under, above, c + 1 == 1048575)

/-- Every bin of a frame into the counts (R215), with the first bin that saturated and its level. Each count has its mark: a poisoned bin marks
its whole column, an error in memory the counts of its word (R304). -/
def densityFrame (params : List Word) (f : Frame) (k : KState) : KState × Option (Nat × Int) :=
  let bin0 := pf params 1 31 16
  let b := pf params 1 15 0
  let lv := pf params 2 31 24 + 1
  let lev0 := signedOf 20 (pf params 2 19 0)
  let lstep := pf params 3 15 0
  let acc := if k.acc.length = b * lv then k.acc else List.replicate (b * lv) 0
  let po := if k.accPo.length = b * lv then k.accPo else List.replicate (b * lv) false
  let r := (List.range b).foldl (fun (r : List Int × List Bool × Nat × Nat × Option (Nat × Int)) i =>
    let (acc, po, under, above, sat) := r
    let x := f.vals.getD (bin0 + i) { v := 0 }
    if x.poison then (acc, po.zipIdx.map (fun q => q.1 || q.2 / lv == i), under, above, sat)
    else
      let v := if f.fmt = 2 then logPow x.v f.exp 0 else x.v
      let j := (v - lev0).fdiv lstep
      let d := densityAdd lv i j acc under above
      (d.1, po, d.2.1, d.2.2.1, if d.2.2.2 then sat.or (some (bin0 + i, j)) else sat)) (acc, po, k.under, k.above, none)
  ({ k with acc := r.1, accPo := r.2.1, under := r.2.2.1, above := r.2.2.2.1, nfr := min (k.nfr + 1) 0xFFFFFF }.cover f, r.2.2.2.2)

/-- DENSITY (R215, R216): add, output, decay, reset, in that order. -/
def kDensity (node : Nat) (params : List Word) (f : Frame) (k : KState) : KOut :=
  let outN := pf params 5 23 0
  let reset := pf params 5 31 31 == 1
  let dsh := pf params 4 31 28
  let p := if f.gap = 0 then densityFrame params f k else (k, none)
  let k : KState := { p.1 with cnt := p.1.cnt + 1, decCnt := p.1.decCnt + 1 }
  let new := p.2.isSome && !k.satd
  let recs := match p.2 with
    | some (b, j) => if new then [((0x0244 : Nat), f.tLast, [(node : Int), b, j])] else []
    | none => []
  let k : KState := { k with satd := k.satd || p.2.isSome }
  let due := decide (outN ≤ k.cnt)
  let t0 := k.first.getD f.tFirst
  let t1 := if k.first.isSome then k.last else f.tLast
  let vals := k.acc.zipIdx.map (fun q => ({ v := q.1, idx := q.2, t := midTime t0 t1, attr := k.attr,
                                            poison := k.accPo.getD q.2 false } : NVal))
  let out : Frame := if k.nfr = 0 then gapFrame 5 t0 t1 else
    { fmt := 5, vals := vals, nfr := k.nfr, tFirst := t0, tLast := t1, newV := vals.length,
      flags := k.flags ||| bit (decide (k.nfr < outN)) ||| 4 * bit k.satd ||| 32 * bit k.changed, attr := outAttr k.attr (anyPoison vals),
      kspec := k.under + 2 ^ 24 * k.above }
  let k := if due then { k with cnt := 0, nfr := 0, under := 0, above := 0, flags := if k.nfr = 0 then k.flags else 0,
                                changed := k.changed && k.nfr == 0 } else k
  let k := if decide (pf params 4 23 0 ≤ k.decCnt) && dsh != 0 then
      { k with decCnt := 0, acc := k.acc.map (fun c => c - asr c dsh) }
    else k
  let k := if due && reset then
      { k with acc := k.acc.map (fun _ => 0), accPo := k.accPo.map (fun _ => false), satd := false, first := none, attr := 0 }
    else k
  { st := k, outs := [if due then some out else none], recs := recs }

/-! ### Frequency-mask triggers -/

/-- Whether a × 2^e exceeds b × 2^g, exactly. -/
def mantAbove (a e b g : Int) : Bool := decide (b * 2 ^ (g - e).toNat < a * 2 ^ (e - g).toNat)

/-- The ratio of a × 2^e to b × 2^g in 1/1024 dB (R218, R232): its rounding is not stated, and a zero leaves it open altogether. -/
def excessLevel (a e b g : Int) : Int :=
  let free := Config.kernelWord 8 [] [a, e, b, g] 0
  if a ≤ 0 ∨ b ≤ 0 then signedOf 20 free
  else levelNear (levelFix (log2Fix a.toNat - log2Fix b.toNat + (e - g) * 2 ^ 40)) free

/-- Whether a bin exceeds, and by how much (R218). A poisoned bin, or one whose mask word is poisoned, never exceeds. -/
def maskBin (d : NodeDef) (params : List Word) (cpo : List Nat) (f : Frame) (i : Nat) : Option Int :=
  let x := f.vals.getD (pf params 1 31 16 + i) { v := 0, poison := true }
  let mode := pf params 2 31 30
  let mu := d.maskU.getD i 0
  let ml := d.maskL.getD i 0
  let sh := signedOf 20 (pf params 4 19 0)
  if x.poison || cpo.contains i || cpo.contains (d.maskU.length + i) then none
  else if f.fmt = 2 then
    let up := (mode == 0 || mode == 2) && mantAbove x.v f.exp mu d.maskExp
    let lo := (mode == 1 || mode == 2) && mantAbove ml d.maskExp x.v f.exp
    if up then some (excessLevel x.v f.exp mu d.maskExp) else if lo then some (excessLevel ml d.maskExp x.v f.exp) else none
  else
    let up := (mode == 0 || mode == 2) && decide (mu + sh < x.v)
    let lo := (mode == 1 || mode == 2) && decide (x.v < ml + sh)
    if up then some (x.v - mu - sh) else if lo then some (ml + sh - x.v) else none

/-- FMASK (R218, R219). A placeholder frame is not a hit frame. -/
def kFmask (node : Nat) (d : NodeDef) (params : List Word) (cpo : List Nat) (f : Frame) (k : KState) : KOut :=
  let b := pf params 1 15 0
  let pwin := pf params 2 12 8
  let hits := if f.gap = 0 then
      (List.range b).filterMap (fun i => (maskBin d params cpo f i).map (fun e => (pf params 1 31 16 + i, e)))
    else []
  let isHit := decide (pf params 2 29 16 ≤ hits.length) && !hits.isEmpty
  if k.hold > 0 then
    { st := { k with hold := k.hold - 1, hist := [] } }
  else
    let hist := ((if isHit then some f.tFirst else none) :: k.hist).take pwin
    let found := hist.filterMap id
    if pf params 2 4 0 ≤ found.length && !found.isEmpty then
      let t := found.getLast?.getD f.tFirst
      let trig := pf params 3 7 0
      let worst := (hits.map (·.2)).foldl max ((hits.map (·.2)).headD 0)
      { st := { k with hist := [], hold := pf params 3 31 16 },
        recs := [(0x0240, t, [(node : Int), trig, hits.length, (hits.map (·.1)).headD 0, worst])], raised := [(trig, t)] }
    else { st := { k with hist := hist } }

/-! ### Peaks -/

/-- The index of the extremum of a list (R178, R222): MAX, MIN or ABSMAX, the lowest on ties. -/
def peakIndex (mode : Nat) (l : List Int) : Nat :=
  let better := fun (a b : Int) => if mode = 0 then decide (b < a) else if mode = 1 then decide (a < b) else decide (b.natAbs < a.natAbs)
  (l.zipIdx.foldl (fun (r : Option (Int × Nat)) p => match r with
    | none => some (p.1, p.2)
    | some q => if better p.1 q.1 then some (p.1, p.2) else some q) none).elim 0 (·.2)

/-- A WIDE value of a result (R200). -/
def wide (v : Int) (poison : Bool) (i : Nat) : NVal := { v := signedOf 40 (twos 40 v), idx := i, poison := poison }

/-- δ of R222 in units of 2^-16; a parabola without curvature has no stated vertex, so δ is free there, within half a step. -/
def vertex (al be ga : Int) (free : Nat) : Int :=
  let den := 2 * (al - 2 * be + ga)
  if den = 0 then (free % 65537 : Nat) - 32768
  else if 0 < den then roundDiv ((al - ga) * 65536) den.toNat else roundDiv (-((al - ga) * 65536)) (-den).toNat

/-- The largest power below 2^40 that, times 2^e, has a level of at most `v` in 1/1024 dB. -/
def levelPower (v e : Int) : Nat :=
  (List.range 40).reverse.foldl (fun (p : Nat) i =>
    if levelFix (log2Fix (p + 2 ^ i) + e * 2 ^ 40) ≤ v * 2 ^ 40 then p + 2 ^ i else p) 0

/-- PEAK (R222). The rounding of the interpolated value is not stated; after a logarithm it is a power, in input units × 2^EXP, whose level
is the formula's (log entry 7, DESIGN CHOICE). -/
def kPeak (params : List Word) (f : Frame) : Frame :=
  let mode := pf params 1 31 30
  let interp := pf params 1 29 28
  let i0 := pf params 2 31 16
  let nv := if pf params 2 15 0 = 0 then f.vals.length - i0 else min (pf params 2 15 0) (f.vals.length - i0)
  let vals := (f.vals.drop i0).take nv
  let j := peakIndex mode (vals.map (·.v))
  let i := i0 + j
  let edge := j == 0 || j + 1 == nv
  let at_ := fun (i : Nat) => (f.vals.getD i { v := 0 }).v
  let onLog := interp == 2 && f.fmt == 2
  let conv := fun (v : Int) => if onLog then logPow v f.exp 0 else v
  let al := conv (at_ (i - 1))
  let be := conv (at_ i)
  let ga := conv (at_ (i + 1))
  let w := fun k => openWord 9 (params.map (·.toNat)) f [] k
  let delta : Int := if edge || interp = 0 then 0 else vertex al be ga (w 0)
  let top := be * 2 ^ 18 - (al - ga) * delta
  let inter : Int := if delta = 0 then at_ i
    else if onLog then
      let v := top.fdiv (2 ^ 18)
      let p := levelPower v f.exp
      (p + w 1 % (levelPower (v + 1) f.exp + 2 - p) : Nat)
    else divNear top (2 ^ 18) (w 1)
  let po := anyPoison vals
  let g := f.made 1 [wide i po 0, wide (65536 * i + delta) po 1, wide (at_ i) po 2, wide inter po 3] f.exp
  { g with flags := g.flags ||| 16 * bit edge }

/-- The power of a real record's transform at num/den bins (R223), in units of 2^-200. -/
def tonePower (x : List Int) (num : Int) (den : Nat) : Nat :=
  let m := den * x.length
  let sum := fun (g : Nat → Nat → Int) => (x.zipIdx.map (fun p => p.1 * g ((num * p.2) % (m : Int)).toNat m)).foldl (· + ·) 0
  (sum cosTurn).natAbs ^ 2 + (sum sinTurn).natAbs ^ 2

/-- The level of a power in units of 2^-40, for the parabola of the refinement; that of zero lies below all others. -/
def toneLevel (p : Nat) : Int := if p = 0 then -(2 ^ 60) else levelFix (log2Fix p)

/-- The refinement of VWIRE (R223, step 4): from position `p0` in units of 2^-16 bin, the position in units of 2^-(16 + ZS) bin and whether
the largest power lies at an end. The rule does not state the precision of the direct evaluation, so the vertex is free within 2^-10 of the
spacing, which keeps R224's bound (log entry 7, DESIGN CHOICE). -/
def refineTone (x : List Int) (z zs : Nat) (p0 : Int) (free : Nat) : Int × Bool :=
  let place := fun (j : Nat) => p0 * 2 ^ zs + ((j : Int) - ((z - 1) / 2 : Nat)) * 2 ^ 16
  let powers := (List.range z).map (fun j => tonePower x (place j) (2 ^ (16 + zs)))
  let j := peakIndex 0 (powers.map (fun (p : Nat) => (p : Int)))
  let lev := fun (i : Nat) => toneLevel (powers.getD i 0)
  if j = 0 ∨ j + 1 = z then (place j, true)
  else (place j + clampInt (-32768) 32768 (vertex (lev (j - 1)) (lev j) (lev (j + 1)) free) + ((free % 129 : Nat) - 64), false)

/-- VWIRE (R223): the windowed record's power spectrum, the largest bin in the band, its position by the parabola on log power and by the
refinement, FREQ, AMP and QUAL. `rate` is the input rate per 1000 s. -/
def kVwire (node rate : Nat) (params : List Word) (f : Frame) (k : KState) : KOut :=
  let l := f.vals.length
  let x := kWindow (pf params 2 19 16) f
  let p := kMag2 (kFft false false x)
  let lo := (pf params 1 15 0 * 500 * l + rate - 1) / rate
  let hi := pf params 1 31 16 * 500 * l / rate
  let band := (p.vals.drop lo).take (hi + 1 - lo)
  let j := lo + peakIndex 0 (band.map (·.v))
  let edgeBin := j == lo || j == hi
  let w := fun i => openWord 14 (rate :: params.map (·.toNat)) f [] i
  let pow := fun (i : Nat) => (p.vals.getD i { v := 0 }).v
  let lev := fun (i : Nat) => logPow (pow i) p.exp 0
  let p0 : Int := 65536 * j + (if edgeBin then 0 else vertex (lev (j - 1)) (lev j) (lev (j + 1)) (w 0))
  let z := pf params 2 31 28
  let zs := pf params 2 27 24
  let r := if z = 0 then (p0 * 2 ^ zs, false) else refineTone (x.vals.map (·.v)) z zs p0 (w 1)
  let freq := roundDiv (r.1 * rate * 2 ^ 20) (l * 1000 * 2 ^ (16 + zs))
  let rest := (band.zipIdx.filter (fun q => decide (3 < ((lo + q.2 : Nat) - (j : Int)).natAbs))).map (·.1.v)
  let sum := (rest.foldl (· + ·) 0).toNat
  let qual : Int := if sum = 0 ∨ pow j ≤ 0 then signedOf 40 (w 2)
    else levelNear (levelFix (log2Fix ((pow j).toNat * rest.length) - log2Fix sum)) (w 2)
  let edge := edgeBin || r.2
  let nopeak := edgeBin || decide (qual < (pf params 3 15 0 * 64 : Nat))
  let po := anyPoison f.vals
  let g := f.made 1 [wide freq po 0, wide (pow j) po 1, wide qual po 2] p.exp
  { st := k, outs := [some { g with flags := g.flags ||| 8 * bit nopeak ||| 16 * bit edge }],
    recs := if nopeak then [(0x0243, f.tf, [(node : Int), qual, j, bit edge])] else [] }

/-- The largest n with n² ≤ a, below 2^bits. -/
def rootFloor (bits a : Nat) : Nat :=
  (List.range bits).reverse.foldl (fun r i => if (r + 2 ^ i) * (r + 2 ^ i) ≤ a then r + 2 ^ i else r) 0

/-- G_k of R226 in units of 2^-30 under PHAT. -/
def crossBin (phat : Bool) (a b : NVal) : Int × Int :=
  let g := (a.v * b.v + a.im * b.im, a.im * b.v - a.v * b.im)
  if !phat then g else
  let m := rootFloor 70 ((g.1.natAbs ^ 2 + g.2.natAbs ^ 2) * 2 ^ 40)
  if m = 0 then (0, 0) else (roundDiv (g.1 * 2 ^ 50) m, roundDiv (g.2 * 2 ^ 50) m)

/-- G transformed back at lag `t` over L points (R226), in units of 2^-100: a positive lag where B is the later. -/
def corrAt (g : List (Int × Int)) (l : Nat) (t : Int) : Int :=
  g.zipIdx.foldl (fun (a : Int) p =>
    let m := ((t * p.2) % (l : Int)).toNat
    a + (if p.2 = 0 ∨ 2 * p.2 = l then 1 else 2) * (p.1.1 * cosTurn m l + p.1.2 * sinTurn m l)) 0

/-- XCORR (R226). The roundings of the transform back are not stated: each value is free within 2^-16 of the largest; so are those of the
three results. The peak is that of the correlation, the transform back over L, so that the third result is a ratio under both weights (log
entry 100, DEDUCED); of frames without energy it is not stated. -/
def kXcorr (rate : Nat) (params : List Word) (a b : Frame) : Frame :=
  let l := a.vals.length
  let pad := fun (x : Frame) => if pf params 1 30 30 = 1 then
    { x with vals := x.vals.zipIdx.map (fun p => if l / 2 ≤ p.2 then { p.1 with v := 0, im := 0 } else p.1) } else x
  let wa := pad (kWindow (pf params 1 27 24) a)
  let wb := pad (kWindow (pf params 1 27 24) b)
  let xa := kFft false false wa
  let xb := kFft false false wb
  let phat := pf params 1 31 31 == 1
  let w := fun i => openWord 12 (rate :: params.map (·.toNat)) a (b.exp :: b.vals.map (·.v)) i
  let g := (xa.vals.zip xb.vals).map (fun p => crossBin phat p.1 p.2)
  let most := pf params 1 15 0
  let exact := (List.range (2 * most + 1)).map (fun i => corrAt g l ((i : Int) - most))
  let eps : Nat := exact.foldl (fun (m : Nat) v => max m v.natAbs) 0 / 2 ^ 16
  let c : List Int := exact.zipIdx.map (fun (p : Int × Nat) => p.1 - (eps : Int) + ((w (p.2 + 4) % (2 * eps + 1) : Nat) : Int))
  let j := peakIndex 0 c
  let edge := j == 0 || j == 2 * most
  let at_ := fun (i : Nat) => c.getD i 0
  let delta : Int := if edge then 0 else vertex (at_ (j - 1)) (at_ j) (at_ (j + 1)) (w 0)
  let tau := divNear (65536 * ((j : Int) - most) + delta) 256 (w 1)
  let delay := divNear (tau * 1000 * 2 ^ 24) rate (w 2)
  let energy := fun (x : Frame) => (x.vals.foldl (fun (s : Int) v => s + v.v * v.v) 0).toNat
  let shifts := ((xa.exp - wa.exp) + (xb.exp - wb.exp)).toNat
  let root := rootFloor 90 (energy wa * energy wb * 2 ^ 60)
  let ratio := if phat then divNear (at_ j) (l * 2 ^ 100) (w 3)
    else if root = 0 then signedOf 40 (w 3) else divNear (at_ j * 2 ^ (shifts + 60)) (l * root * 2 ^ 100) (w 3)
  let po := anyPoison a.vals || anyPoison b.vals
  { (a.made 1 [wide tau po 0, wide delay po 1, wide ratio po 2] 0) with
    attr := outAttr (a.attr ||| b.attr) po, flags := (a.flags ||| b.flags) &&& 2 ||| 16 * bit edge }

/-! ### Time-domain kernels -/

/-- The sum of a filter over its line, newest first. -/
def dot (h : List Int) (x : List Int) : Int := (h.zipWith (· * ·) x).foldl (· + ·) 0

/-- The new samples of a frame (R177). -/
def Frame.fresh (f : Frame) : List NVal := f.vals.drop (f.vals.length - f.newV)

/-- A delay line with the samples that lie between two frames taken in (R228: the line is node state; log entry 96, DEDUCED). -/
def lineAfter (n : Nat) (skipped line : List NVal) : List NVal := skipped.foldl (fun l x => (x :: l).take n) line

/-- The timestamp of input n − i of a line whose newest input is n: an input from before the line began stands as many input periods before
the oldest one in it (log entry 101, DEDUCED). -/
def tapTime (rate : Nat) (line : List NVal) (i : Nat) : Time :=
  let oldest := line.getLastD { v := 0 }
  if i < line.length then (line.getD i oldest).t
  else oldest.t - BitVec.ofNat 64 (roundDiv ((i + 1 - line.length) * 1000 * 2 ^ 32 : Nat) rate).toNat

/-- The timestamp of a FIR output (R228): the centre tap's with SYM, else the newest input's less GD / (256 × r_in), the rate given per
1000 s. -/
def firTime (rate : Nat) (params : List Word) (line : List NVal) : Time :=
  let t := pf params 1 26 16
  let at_ := tapTime rate line
  if pf params 1 31 31 = 1 then midTime (at_ ((t - 1) / 2)) (at_ (t / 2))
  else at_ 0 - BitVec.ofNat 64 (roundDiv ((params.getD 2 0).toNat * 1000 * 2 ^ 32) (256 * rate)).toNat

/-- FIR (R228): one output at each input whose grid index is a whole multiple of R. Before T samples have come the rest of the line is zero
(log entry 101, DEDUCED). -/
def kFir (d : NodeDef) (params : List Word) (f : Frame) (k : KState) : KOut :=
  let t := pf params 1 26 16
  let r := pf params 1 7 0 + 1
  let osh := pf params 3 4 0
  let go := f.fresh.foldl (fun (p : List NVal × List NVal) x =>
    let line := (x :: p.1).take t
    if x.idx % r != 0 then (line, p.2) else
    let val := fun (l : List Int) => satSigned 20 (asr (dot d.coefs l + 2 ^ (osh - 1)) osh)
    (line, { v := val (line.map (·.v)), im := val (line.map (·.im)), idx := x.idx / r, t := firTime d.inRate params line,
             attr := line.foldl (fun a y => a ||| y.attr) 0, poison := anyPoison line } :: p.2)) (lineAfter t f.skipped k.line, [])
  { st := { k with line := go.1 }, outs := [some (f.made f.fmt go.2.reverse f.exp)] }

/-- DECIM (R229): a mean takes R samples without a discontinuity among them. -/
def kDecim (params : List Word) (f : Frame) (k : KState) : KOut :=
  let r := pf params 1 7 0 + 1
  let pick := pf params 1 31 31 == 1
  let go := f.fresh.foldl (fun (p : List NVal × List NVal) x =>
    let line := (x :: p.1).take r
    if x.idx % r != 0 then (line, p.2)
    else if pick then (line, { x with idx := x.idx / r } :: p.2)
    else if line.length < r then (line, p.2)
    else
      let mean := fun (g : NVal → Int) => (2 * (line.map g).foldl (· + ·) 0 + (r : Int)).fdiv (2 * (r : Int))
      let old := line.getLast?.getD x
      (line, { v := mean (·.v), im := mean (·.im), idx := x.idx / r, t := midTime old.t x.t,
               attr := line.foldl (fun a y => a ||| y.attr) 0, poison := anyPoison line } :: p.2))
    (lineAfter r f.skipped (if bitAt f.flags 1 then [] else k.line), [])
  { st := { k with line := go.1 }, outs := [some (f.made f.fmt go.2.reverse f.exp)] }

/-- The largest n with (2n - 1)² d ≤ 4a: round(√(a / d)), below 2^40 (R230). -/
def rootRound (a d : Nat) : Nat :=
  (List.range 40).reverse.foldl (fun r i => if (2 * (r + 2 ^ i) - 1) * (2 * (r + 2 ^ i) - 1) * d ≤ 4 * a then r + 2 ^ i else r) 0

/-- One sample into the limit check of STATS (R230): OVR counts as beyond on the side of its sign. PCNT is live, and a run that has reached it
counts whenever it does. -/
def limitStep (node : Nat) (params : List Word) (x : NVal) (o : KOut) : KOut :=
  let k := o.st
  let sel := pf params 1 30 29
  let pcnt := pf params 1 15 0
  let hi := signedOf 20 (pf params 2 19 0)
  let lo := signedOf 20 (pf params 3 19 0)
  let trig := pf params 4 7 0
  let ovr := bitAt x.attr 0
  let up := (sel == 0 || sel == 2) && (decide (hi < x.v) || ovr && decide (0 ≤ x.v))
  let dn := (sel == 1 || sel == 2) && (decide (x.v < lo) || ovr && decide (x.v < 0))
  if up || dn then
    let side := if up then 1 else 2
    let same := k.side == side && k.run > 0
    let ext := if !same then x.v else if up then max k.runExt x.v else min k.runExt x.v
    let k := { k with side := side, run := if same then k.run + 1 else 1, runT := if same then k.runT else x.t, runExt := ext, okRun := 0 }
    if pcnt ≤ k.run ∧ k.cond ≠ side then
      { o with st := { k with cond := side }, recs := o.recs ++ [(0x0241, k.runT, [(node : Int), trig, side - 1, k.runExt])],
               raised := o.raised ++ [(trig, k.runT)] }
    else { o with st := k }
  else
    let k := { k with run := 0, okRun := k.okRun + 1, runT := if k.okRun = 0 then x.t else k.runT }
    if pcnt ≤ k.okRun ∧ k.cond ≠ 0 then
      { o with st := { k with cond := 0 }, recs := o.recs ++ [(0x0242, k.runT, [(node : Int), trig])], freed := o.freed ++ [trig] }
    else { o with st := k }

/-- STATS (R230): the limit check sees every input sample, those between two frames too. -/
def kStats (node : Nat) (params : List Word) (f : Frame) (k : KState) : KOut :=
  let l := f.vals.map (·.v)
  let n := l.length
  let imin := peakIndex 1 l
  let imax := peakIndex 0 l
  let sum := l.foldl (· + ·) 0
  let sq := (l.foldl (fun a x => a + x * x) 0).toNat
  let po := anyPoison f.vals
  let g := f.made 1 [wide (l.getD imin 0) po 0, wide (l.getD imax 0) po 1, wide imin po 2, wide imax po 3,
    wide (roundDiv (256 * sum) n) po 4, wide (rootRound (65536 * sq) n) po 5] f.exp
  let o : KOut := { st := k, outs := [some g] }
  if pf params 1 31 31 = 1 then (f.skipped ++ f.fresh).foldl (fun o x => limitStep node params x o) o else o

/-! ### The kernels by code -/

/-- A frame all of whose words are poisoned. -/
def Frame.poisonAll (f : Frame) : Frame := { f with vals := f.vals.map (fun x => { x with poison := true }), attr := outAttr f.attr (f.gap == 0) }

/-- Run a node's kernel (R189) on its input frames, with the poisoned words `cpo` of its coefficients, which poison all it makes of its
input (R175); `changed` when it starts with a record that PARAM_SET changed (R202). -/
def runKernel (node : Nat) (d : NodeDef) (params : List Word) (cpo : List Nat) (changed : Bool) (frames : List Frame) (k : KState) : KOut :=
  let frames := if cpo.isEmpty || d.kernel == 8 then frames else frames.map Frame.poisonAll
  let f := frames.headD (gapFrame 0 0 0)
  let k := { k with changed := k.changed || changed }
  let one := fun (g : Frame) => ({ st := { k with changed := false }, outs := [some { g with flags := g.flags ||| 32 * bit k.changed }] } : KOut)
  let all := fun (o : KOut) => { o with st := { o.st with changed := false },
                                        outs := o.outs.map (Option.map (fun (g : Frame) => { g with flags := g.flags ||| 32 * bit k.changed })) }
  match d.kernel with
  | 1 => one (kWindow (pf params 1 3 0) f)
  | 2 => one (kFft (pf params 1 1 1 == 1) (pf params 1 0 0 == 1) f)
  | 3 => one (kMag2 f)
  | 4 => one (kLogpow (signedOf 20 (pf params 1 19 0)) f)
  | 5 => kAverage params f k
  | 6 => kPsd d.frameLen changed params f k
  | 7 => kDensity node params f k
  | 8 => kFmask node d params cpo f k
  | 9 => one (kPeak params f)
  | 10 => all (kFir d params f k)
  | 11 => all (kDecim params f k)
  | 12 => one (kXcorr d.inRate params f (frames.getD 1 f))
  | 13 => all (kStats node params f k)
  | 14 => all (kVwire node d.inRate params f k)
  | _ => { st := k }

/-- How many outputs a node has. -/
def outputsOf (d : NodeDef) (params : List Word) : Nat := if d.kernel = 8 then 0 else if d.kernel = 6 ∧ pf params 1 30 30 = 1 then 2 else 1

/-- Whether a kernel goes on with a placeholder in place of an input frame (R207, R218). -/
def takesGap (kernel : Nat) : Bool := kernel == 5 || kernel == 6 || kernel == 7 || kernel == 8

/-- An invocation of an accumulating kernel that becomes a placeholder (R207): the frame count advances, and a product then due
becomes a placeholder with the same reason, a BLOCK accumulation being discarded. An EXP accumulation and the counts go on, and DISCONT with
them until a product carries it (R198). -/
def skipKernel (d : NodeDef) (params : List Word) (reason : Nat) (t0 t1 : Time) (k : KState) : KState × List (Option Frame) :=
  let g := some (gapFrame reason t0 t1)
  if d.kernel = 5 ∨ d.kernel = 6 then
    let each := if outputsOf d params = 2 then [g] else []
    let k := { k with cnt := k.cnt + 1 }
    if k.cnt < pf params 1 15 0 then (k, none :: each)
    else
      let k := { k with cnt := 0, nfr := 0, first := none, attr := 0 }
      (if pf params 1 31 31 = 1 then k else { k with acc := [], accPo := [], ea := none, flags := 0 }, g :: each)
  else if d.kernel = 7 then
    let k := { k with cnt := k.cnt + 1, decCnt := k.decCnt + 1 }
    if k.cnt < pf params 5 23 0 then (k, [none]) else ({ k with cnt := 0, nfr := 0, under := 0, above := 0 }, [g])
  else if d.kernel = 8 then ({ k with hist := (none :: k.hist).take (pf params 2 12 8), hold := k.hold - 1 }, [])
  else (k, List.replicate (outputsOf d params) g)

end Sys2Proof.Machine
end

