-- ==== Sys2Proof/Machine/Deliver.lean ====
section
/-!
DEFINITION. Where output values go (R197, R198, R233 to R242): the stream writers with the block format bit for bit, captures of live
values, and the input buffers of the graph's nodes.
-/
namespace Sys2Proof.Machine

/-! ### Attributes and cells -/

/-- Attributes in the bit order of R237. -/
def attrByte (a : Attrs) : Nat :=
  bit a.ovr + 2 * bit a.fflt + 4 * bit a.mixed + 8 * bit a.service + 16 * bit a.holdover + 32 * bit a.poison

/-- The SRCK of a P-channel output (R234): STATIC, SEISMIC, MONITOR as 0, 1, 2. -/
def srckOfPch (src : Nat) : Nat := src

/-- A word made of values at bit places. -/
def placed (l : List (Nat × Nat)) : Nat := l.foldl (fun a p => a + p.1 * 2 ^ p.2) 0

/-- BFLAGS (R237). -/
def bGap : Nat := 1
def bFstart : Nat := 2
def bDiscont : Nat := 4
def bLast : Nat := 8

/-- Values per data cell (R200, R238). -/
def Block.perCell (b : Block) : Nat := 240 / b.bits

/-- Whether a block is a placeholder (R241). -/
def Block.isGap (b : Block) : Bool := bitAt b.flags 0

/-- The number of data cells of a block (R237, R241). -/
def Block.cells (b : Block) : Nat :=
  if b.isGap then 1 else max 1 (bit b.head.isSome + (b.vals.length + b.perCell - 1) / b.perCell)

/-- The values of a list in groups of `n`. -/
def chunks {α : Type} (n : Nat) : Nat → List α → List (List α)
  | 0, _ => []
  | _, [] => []
  | fuel + 1, l => l.take n :: chunks n fuel (l.drop n)

/-- The header cell's 240 bits (R237). -/
def Block.header (b : Block) (sid dev : Nat) : Nat :=
  let nlast := if b.isGap || b.fmt = 3 then 0 else (b.vals.length + b.perCell - 1) % b.perCell + 1
  placed [(b.t0.toNat, 0), (b.bseq % 2 ^ 32, 64), (b.period % 2 ^ 28, 96), (sid % 1024, 124), (dev % 4096, 134), (b.cells - 1, 146),
    (b.fmt, 152), (b.attr % 256, 156), (b.flags % 16, 164), (b.reason % 16, 168), (nlast, 172),
    ((b.pbmp.map (fun i => 2 ^ i)).foldl (· + ·) 0, 176)]

/-- The data cells' 240 bits each (R238, R241): a placeholder's one cell, or the product header and the values, lowest index first. -/
def Block.data (b : Block) : List Nat :=
  if b.isGap then
    [placed [(b.tEnd.toNat, 0), (b.nseq % 2 ^ 32, 64), (min b.count (2 ^ 32 - 1), 96), (if b.fmt = 3 then b.node else 0, 128)]]
  else
    b.head.toList ++ (chunks b.perCell b.vals.length b.vals).map (fun l => placed (l.zipIdx.map (fun p => (p.1, p.2 * b.bits))))

/-- A product header's 240 bits (R199). -/
def Frame.header (f : Frame) (node : Nat) : Nat :=
  placed [(f.tf.toNat, 0), (min ((f.tLast - f.tFirst).toNat / 2 ^ 16) (2 ^ 40 - 1), 64), (min f.nfr 0xFFFFFF, 104), (twos 8 f.exp, 128),
    (node % 256, 136), (f.flags % 64, 144), (f.attr % 64, 152), (f.vals.length % 2 ^ 20, 160), (f.fmt, 180), (f.kspec % 2 ^ 48, 192)]

/-- A value of a frame as its format packs it (R200). -/
def NVal.code (fmt : Nat) (x : NVal) : Nat :=
  match fmt with
  | 1 => twos 40 x.v
  | 2 => twos 40 x.v
  | 3 => twos 20 x.v + 2 ^ 20 * twos 20 x.im
  | _ => twos 20 x.v

/-- The bits a value of a format takes (R200). -/
def formatBits (fmt : Nat) : Nat := if fmt = 1 ∨ fmt = 2 ∨ fmt = 3 then 40 else 20

/-! ### Streams -/

/-- Stream `sid` (R233). -/
def State.streamU (s : State) (sid : Nat) : Stream := Store.get (fun _ => {}) s.streams sid
/-- The state with stream `sid` replaced. -/
def State.setStream (s : State) (sid : Nat) (x : Stream) : State :=
  { s with streams := Store.set (fun _ => {}) s.streams sid x }

/-- The SIDs that are in use. -/
def State.sids (s : State) : List Nat := s.streams.map (·.1)

/-- The cells that a stream keeps in staging SRAM: its block in progress and those not yet written to its ring. A capture's values
lie in its source's ring. -/
def Stream.staged (x : Stream) : Nat :=
  if x.st = 3 then 0 else ((x.opn.toList ++ x.closed).map (fun b => 1 + b.cells)).foldl (· + ·) 0

/-- The cells of a frame's new values in staging SRAM (R177, R181). -/
def Frame.heldCells (f : Frame) : Nat := let per := 240 / formatBits f.fmt; (min f.newV f.vals.length + per - 1) / per

/-- The input frames that nodes hold in staging SRAM until the invocations that use them are released (R181), each once however many nodes
hold it. -/
def State.heldFrames (s : State) : List (EdgeSrc × Frame) :=
  (s.eng.graph.zipIdx.flatMap (fun p => ((p.1.ins.filter (fun e => e.src.isData)).zipIdx.flatMap (fun q =>
    let x := s.nodeU p.2
    ((x.ins.getD q.1.input {}).frames ++ x.invs.filterMap (fun v => v.frames[q.2]?)).map (fun f => (q.1.src, f)))))).dedup

/-- The cells of all streams in staging SRAM. -/
def State.streamCells (s : State) : Nat := (s.streams.map (fun p => p.2.staged)).foldl (· + ·) 0

/-- The cells in staging SRAM: those of all streams, the input frames of nodes, the state regions there (R181, R245). -/
def State.stagedCells (s : State) : Nat :=
  s.streamCells + (s.heldFrames.map (fun p => p.2.heldCells)).foldl (· + ·) 0 +
  ((s.eng.graph.filter (fun d => !d.stDram)).map (fun d => (d.stSize + 31) / 32)).foldl (· + ·) 0

/-- STR_STAGE follows the stream cells in staging SRAM (R266), in KiB. -/
def State.showStage (s : State) : State :=
  let use := min (s.streamCells * 32 / 1024) 8191
  (s.setFld Reg.STR_STAGE Fld.STR_STAGE_USE use).setFld Reg.STR_STAGE Fld.STR_STAGE_PEAK
    (max use (s.fld Reg.STR_STAGE Fld.STR_STAGE_PEAK))

/-- Cells of the VIGIL recording region of staging SRAM (R14): VIGIL_KIB of the image, 32 bytes a cell. -/
def State.vigilCells (s : State) : Nat := s.bootu.vigilKib * 32

/-- Whether staging SRAM has room for `need` more stream cells (R14, R245): its 4 MiB (R10) of 32-byte cells hold all that lies there, and in
VIGIL the region that the image assigns to recording holds the stream cells (log entry 10, DEDUCED). -/
def State.stageRoom (s : State) (need : Nat) : Bool :=
  need == 0 || decide (s.stagedCells + need ≤ 131072) &&
    (s.curMode != modeVigil || s.vigilCells == 0 || decide (s.streamCells + need ≤ s.vigilCells))

/-- Close the block in progress (R240): a stream's block waits in staging to be written to its ring, a capture's is ready to send. -/
def Stream.close (x : Stream) (last : Bool) : Stream :=
  match x.opn with
  | none => if last then
      (match x.closed.reverse with
       | b :: l => { x with closed := (({ b with flags := b.flags ||| bLast }) :: l).reverse }
       | [] => match x.held.reverse with
         | b :: l => if x.st = 3 then { x with held := (({ b with flags := b.flags ||| bLast }) :: l).reverse } else x
         | [] => x)
    else x
  | some b =>
    let b := if last then { b with flags := b.flags ||| bLast } else b
    let x := { x with opn := none, fmt := b.fmt }
    if x.st = 3 then { x with held := x.held ++ [{ b with bseq := x.next }], next := (x.next + b.nseq) % 2 ^ 32 }
    else { x with closed := x.closed ++ [b] }

/-- Put a whole block behind those of a stream. -/
def Stream.append (x : Stream) (b : Block) : Stream :=
  let x := x.close false
  let x := if b.isGap then { x with gaps := (x.gaps + 1) % 2 ^ 32 } else x
  if x.st = 3 then { x with held := x.held ++ [{ b with bseq := x.next }], next := (x.next + b.nseq) % 2 ^ 32, fmt := b.fmt }
  else { x with closed := x.closed ++ [b], fmt := b.fmt }

/-- One value into a stream at time `now` (R238 to R240); in a capture with the cell and place it comes from. -/
def Stream.value (x : Stream) (fmt bits period attr code : Nat) (t now : Time) (src : List (Nat × Nat)) : Stream :=
  let x := match x.opn with
    | some b => if b.fmt != fmt || b.period != period || b.attr != attr || x.disc then x.close false else x
    | none => x
  let b := x.opn.getD { t0 := t, tEnd := t, first := t, fmt := fmt, period := period, attr := attr, bits := bits, since := now,
                        flags := if x.disc then bDiscont else 0 }
  let b := { b with vals := b.vals ++ [code], count := b.count + 1, tEnd := t, srcs := b.srcs ++ src }
  let x := { x with opn := some b, disc := false, fmt := fmt }
  if b.vals.length = 64 * b.perCell then x.close false else x

/-- A frame into a product stream at time `now` (R238): each frame begins a new block, and one of more than 63 value cells goes on in further
blocks. A last block of fewer than 64 cells stays in progress until the next frame or its age closes it. -/
def Stream.frame (x : Stream) (node : Nat) (now : Time) (f : Frame) : Stream :=
  let x := x.close false
  let bits := formatBits f.fmt
  let per := 240 / bits
  let codes := f.vals.map (NVal.code f.fmt)
  let po := f.vals.map (·.poison)
  let mk := fun (head : Option Nat) (off n flags : Nat) =>
    let cellOf := fun (i : Nat) => i / per + bit head.isSome
    ({ t0 := f.tf, tEnd := f.tLast, since := now, first := f.tf, fmt := 3, attr := f.attr, flags := flags, count := bit head.isSome, node := node,
       vals := (codes.drop off).take n, bits := bits, head := head,
       pbmp := (((po.drop off).take n).zipIdx.filterMap (fun p => if p.1 then some (cellOf p.2) else none)).dedup } : Block)
  let dis := if x.disc || bitAt f.flags 1 then bDiscont else 0
  let b0 := mk (some (f.header node)) 0 (63 * per) (bFstart + dis)
  let rest := codes.length - 63 * per
  let more := (List.range ((rest + 64 * per - 1) / (64 * per))).map (fun i => mk none (63 * per + 64 * per * i) (64 * per) 0)
  let x := (b0 :: more).foldl (fun (x : Stream) b =>
    let x := { x.close false with opn := some b }
    if b.cells = 64 then x.close false else x) x
  { x with disc := false, fmt := 3 }

/-- A placeholder block (R241) of a source whose values lie `period` apart (R237; 0 for products). -/
def gapBlock (reason fmt node nseq count period : Nat) (t0 tEnd : Time) : Block :=
  { t0 := t0, tEnd := tEnd, first := t0, nseq := nseq, period := period, fmt := fmt, flags := bGap, reason := reason, count := count,
    node := node }

/-- The fabric time that `period` units of 1/8 192 000 s take (R239). -/
def periodTime (period : Nat) : Nat := period * 2 ^ 32 / 8192000

/-- The captures that take the values of stream `sid` as its blocks are written (R259). -/
def State.capturesOf (s : State) (sid : Nat) : List Nat :=
  (s.streams.filter (fun p => match p.2.cap with | some c => c.source == sid && !c.whole && p.2.st == 3 | none => false)).map (·.1)

/-- Values are discarded for want of staging space, `n` of them from `t` to `tEnd` (R245). -/
def State.discard (s : State) (sid n period : Nat) (t tEnd : Time) : State :=
  let x := s.streamU sid
  match x.skip with
  | some g => s.setStream sid { x with skip := some { g with count := g.count + n, tEnd := tEnd } }
  | none => (s.setStream sid { x with skip := some { count := n, period := period, t0 := t, tEnd := tEnd } }).raise Reg.STR_STAT
      Fld.STR_STAT_STAGE_FULL_S

/-- Whether a stream's next values, with which it becomes `x`, find staging space (R245): none while values are being discarded. -/
def State.fitsStage (s : State) (sid : Nat) (x : Stream) : Bool :=
  (s.streamU sid).skip.isNone && s.stageRoom (x.staged - (s.streamU sid).staged)

/-- A placeholder into a stream (R241, R245): while values are being discarded it joins them. -/
def State.streamGap (s : State) (sid : Nat) (b : Block) : State :=
  let b := { b with attr := if s.serviceIn b.t0 b.tEnd then b.attr ||| 8 else b.attr }
  let x := (s.streamU sid).append b
  if s.fitsStage sid x then (s.setStream sid x).showStage else s.discard sid b.count b.period b.t0 b.tEnd

/-- A value into a stream (R238 to R240, R245). Every value of a device in SERVICE carries SERVICE. -/
def State.streamValue (s : State) (sid fmt bits period attr code : Nat) (t : Time) : State :=
  let x := (s.streamU sid).value fmt bits period attr code t s.time []
  if s.fitsStage sid x then (s.setStream sid x).showStage else s.discard sid 1 period t t

/-- The open continuous streams of a source. -/
def State.streamsOf (s : State) (srck src : Nat) : List Nat :=
  (s.streams.filter (fun p => p.2.st == 1 && p.2.srck == srck && p.2.src == src)).map (·.1)

/-! ### Node inputs -/

/-- Whether a kernel's records are started by an event (R198, R223, R226). -/
def eventStarted (d : NodeDef) : Bool :=
  (d.kernel == 14 || d.kernel == 12) &&
    d.ins.any (fun e => match e.src with | .trigger _ => true | .start _ => true | .excEnd _ => true | _ => false)

/-- The frame of the last `len` values of a buffer (R177, R198). -/
def frameOf (fmt : Nat) (exp : Int) (vals : List NVal) (newV : Nat) (disc : Bool) : Frame :=
  { fmt := fmt, vals := vals, exp := exp, tFirst := (vals.headD { v := 0 }).t, tLast := (vals.getLastD { v := 0 }).t,
    attr := vals.foldl (fun a x => a ||| x.attr) 0, flags := 2 * bit disc, newV := newV }

/-- One value into an input buffer; where a frame ends with it (R198), the frame of the last L values, once as many have come, with how many of
them are new and those since the frame before that lie in none. -/
def NodeIn.push (i : NodeIn) (e : Edge) (started due : Bool) (fmt : Nat) (exp : Int) (x : NVal) : NodeIn :=
  let buf := i.buf ++ [x]
  let buf := buf.drop (buf.length - max e.depth e.len)
  let i := { i with buf := buf, count := i.count + 1, fresh := if started then [] else i.fresh ++ [x] }
  if started || !due || i.count < e.len then i
  else
    let newV := min i.fresh.length e.len
    let f := frameOf fmt exp (buf.drop (buf.length - e.len)) newV i.disc
    { i with frames := i.frames ++ [{ f with skipped := i.fresh.take (i.fresh.length - newV) }], disc := false, fresh := [] }

/-- A sample of a channel output into an input buffer (R197, R198): frames end at multiples of H on the output's grid; STATIC's samples are
counted from its restart, and its frames end at every H-th. -/
def NodeIn.sample (i : NodeIn) (e : Edge) (started isStatic : Bool) (x : NVal) : NodeIn :=
  let x := if isStatic then { x with idx := i.count + 1 } else x
  i.push e started (x.idx % e.hop == 0) 0 0 x

/-- An input at a discontinuity (R198): no frame straddles it, and the first after it is marked. -/
def NodeIn.broken (i : NodeIn) : NodeIn := { i with buf := [], count := 0, fresh := [], disc := true }

/-- A frame of another node into an input (R177, R198): a placeholder is a discontinuity, and one that AVERAGE, PSD, DENSITY and FMASK count
(R207, R218); so is a frame that carries DISCONT. A frame of L values that the edge takes whole passes as it is; others are cut anew, samples on their grid, other
values as they are counted, each with the attributes of the frame that brought it (R201) (log entry 102, DEDUCED). -/
def NodeIn.take (i : NodeIn) (e : Edge) (kernel : Nat) (started : Bool) (f : Frame) : NodeIn :=
  if f.gap ≠ 0 then
    let i := i.broken
    if takesGap kernel then { i with frames := i.frames ++ [f] } else i
  else if f.vals.length = e.len ∧ e.len ≤ e.hop ∧ !started then
    { i with frames := i.frames ++ [{ f with flags := (f.flags &&& 2) ||| 2 * bit i.disc, newV := e.len }], disc := false }
  else
    f.vals.foldl (fun (i : NodeIn) x =>
      let due := (if f.fmt = 0 then x.idx else i.count + 1) % e.hop == 0
      i.push e started due f.fmt f.exp { x with attr := x.attr ||| f.attr }) (if bitAt f.flags 1 then i.broken else i)

/-- A channel's sample to the nodes that read it (R197). -/
def State.feedNodes (s : State) (srck n idx : Nat) (v : OutVal) : State :=
  s.onEdges (fun x => x == .channel srck n) (fun d e i =>
    let val := if srck = 3 then v.value / 2 ^ 20 else satSigned 20 (asr v.value e.ish)
    i.sample e (eventStarted d) (srck == 0)
      { v := val, idx := idx, t := v.t, attr := attrByte v.attrs, poison := v.attrs.poison })

/-! ### Delivery -/

/-- An output value goes to its streams and to the nodes that read it (R197, R234). `idx` is its index on its own grid, `period` the
spacing of its values in 1/8 192 000 s. -/
def State.deliver (s : State) (srck n idx period : Nat) (v : OutVal) : State :=
  let fmt := if srck = 3 then 2 else if v.bits = 40 then 0 else 1
  let s := (s.streamsOf srck n).foldl (fun s sid => s.streamValue sid fmt v.bits period (attrByte v.attrs) v.code v.t) s
  s.feedNodes srck n idx v

/-- A discontinuity of an output (R198, R240). -/
def State.discontinue (s : State) (srck n : Nat) : State :=
  let s := (s.streamsOf srck n).foldl (fun (s : State) sid => s.setStream sid { s.streamU sid with disc := true }) s
  s.onEdges (fun x => x == .channel srck n) (fun _ _ i => i.broken)

/-- Whether an output is consumed (R93, R153): by an open stream, a node of the running graph (R179: it runs from the end of BOOT on), or,
for a W-channel, a collecting capture. -/
def State.consumed (s : State) (srck n : Nat) : Bool :=
  !(s.streamsOf srck n).isEmpty ||
  s.baseRunning && s.eng.graph.any (fun d => d.ins.any (fun e => e.src == .channel srck n)) ||
  s.streams.any (fun p => match p.2.cap with
    | some c => srck == 3 && p.2.st == 3 && !c.whole && (s.streamU c.source).srck == 3 && (s.streamU c.source).src == n
    | none => false)

end Sys2Proof.Machine
end

