-- ==== Sys2Proof/Machine/Crc.lean ====
section
/-!
DEFINITION. CRC-32C as R407 fixes it, over bytes, and the little-endian words that stored data is made of.
-/
namespace Sys2Proof.Machine

/-- One bit of the reflected CRC-32C register. -/
def crcBit (c : BitVec 32) : BitVec 32 := if c.getLsbD 0 then (c >>> 1) ^^^ 0x82F63B78#32 else c >>> 1

/-- One byte into the CRC register. -/
def crcByte (c : BitVec 32) (b : BitVec 8) : BitVec 32 :=
  crcBit (crcBit (crcBit (crcBit (crcBit (crcBit (crcBit (crcBit (c ^^^ b.setWidth 32))))))))

/-- CRC-32C of a list of bytes (R407): initial value and final exclusive-or all ones; "123456789" gives 0xE3069283. -/
def crc32c (bs : List (BitVec 8)) : BitVec 32 := ~~~(bs.foldl crcByte 0xFFFFFFFF#32)

/-- The four bytes of a word, least significant first. -/
def wordBytes (w : Word) : List (BitVec 8) := [w.setWidth 8, (w >>> 8).setWidth 8, (w >>> 16).setWidth 8, (w >>> 24).setWidth 8]

/-- The words that a list of bytes holds, little-endian; a last part of fewer than four bytes is no word. -/
def bytesWords : List (BitVec 8) → List Word
  | a :: b :: c :: d :: rest => (d ++ c ++ b ++ a) :: bytesWords rest
  | _ => []

/-- CRC-32C of a list of words as stored. -/
def crcWords (ws : List Word) : Word := crc32c (ws.flatMap wordBytes)

end Sys2Proof.Machine
end

