-- ==== Sys2Proof/Machine/CalStore.lean ====
section
/-!
DEFINITION. The calibration store (R127, R133 to R136, R145): its entries, the nominal values that stand in for a bad one, the
coefficients in effect, and the CAL window.
-/
namespace Sys2Proof.Machine

/-- Bank `m`'s checker and sequencer. -/
def State.bankU (s : State) (m : Nat) : Bank := Store.get (fun _ => {}) s.bank m
/-- The state with bank `m`'s checker replaced. -/
def State.setBank (s : State) (m : Nat) (b : Bank) : State := { s with bank := Store.set (fun _ => {}) s.bank m b }
/-- Channel `n` as its bank checks it. -/
def State.chkU (s : State) (n : Nat) : ChkCh := Store.get (fun _ => {}) s.chk n
/-- The state with channel `n`'s check replaced. -/
def State.setChk (s : State) (n : Nat) (c : ChkCh) : State := { s with chk := Store.set (fun _ => {}) s.chk n c }

/-- The primary reference has left its window: every slot that runs is an OVERRANGE slot (R118, R431). -/
def State.referenceOut (s : State) : State :=
  (List.range 8).foldl (fun s m =>
    let b := s.bankU m
    match b.cur with
    | none => s
    | some sl => s.setBank m { b with cur := some { sl with ovld := true } }) s

/-- Where the calibration store keeps an entry (R133): the P-channel entries, the bank entries, the W-channel entries. -/
def calKeyP (n g : Nat) : Nat := 8 * n + g
/-- The key of a bank entry. -/
def calKeyB (m : Nat) : Nat := 512 + m
/-- The key of a W-channel entry. -/
def calKeyW (n g : Nat) : Nat := 520 + 5 * n + g

/-- An entry of the calibration store. -/
def State.calE (s : State) (k : Nat) : CalEntry := Store.get (fun _ => {}) s.cal k
/-- The state with an entry of the calibration store replaced. -/
def State.setCal (s : State) (k : Nat) (e : CalEntry) : State := { s with cal := Store.set (fun _ => {}) s.cal k e }

/-- σ_C of R61 for a gain index, in full-result codes. -/
def sigmaNominal (g : Nat) : Nat := [4194304, 4194304, 4194304, 4194304, 4194304, 4600000, 5500000, 7300000].getD g 4194304

/-- Bits 23:0 of a word as a two's complement number. -/
def low24 (w : Word) : Int := signedOf 24 w.toNat

/-- The values of the P-channel entry of channel `n` at gain `g` (R134), or the nominal ones where it is not used (R136). -/
def State.pEntry (s : State) (n g : Nat) : PEntry :=
  let e := s.calE (calKeyP n g)
  if e.bad || e.words.isEmpty then
    let sm := (s.bankU (n / 8)).firstSM.getD (0, 0)
    { kc := 4194304, oc := 0, kf := 4194304, of := 0, sigma := sigmaNominal g, sref := sm.1, mref := sm.2, kk := 4194304, ok := 0 }
  else
    let w := fun i => e.words.getD i 0
    { kc := (w 0).toNat % 2 ^ 24, oc := low24 (w 1), kf := (w 2).toNat % 2 ^ 24, of := low24 (w 3), sigma := (w 4).toNat,
      sref := (w 5).toInt, mref := (w 6).toInt, kk := (w 7).toNat % 2 ^ 24, ok := (w 8).toInt }

/-- KCHK of bank `m` for a gain index (R135, R136). -/
def State.kchk (s : State) (m g : Nat) : Nat :=
  let e := s.calE (calKeyB m)
  if e.bad || e.words.isEmpty then 4194304 else (e.words.getD g 0).toNat % 2 ^ 24

/-- PREF, NREF, T25 and SLOPE of bank `m` (R135, R136). -/
def State.bankConst (s : State) (m : Nat) : Int × Int × Nat × Nat :=
  let e := s.calE (calKeyB m)
  if e.bad || e.words.isEmpty then (2 ^ 30, -(2 ^ 30), 16000, 4096)
  else
    let w := e.words.getD 10 0
    ((e.words.getD 8 0).toInt, (e.words.getD 9 0).toInt, w.toNat / 2 ^ 16, w.toNat % 2 ^ 16)

/-- The gain of channel `n` in force. -/
def State.gainOf (s : State) (n : Nat) : Nat := getField Fld.PCH_CFG_GAIN (s.pchU n).inForce

/-- The coefficients in effect of channel `n` at gain `g` (R127): the entry's own until drift tracking moves them. -/
def State.effAt (s : State) (n g : Nat) : Eff :=
  match Store.get (fun _ => none) s.eff (calKeyP n g) with
  | some e => e
  | none => let p := s.pEntry n g; { kc := p.kc, oc := p.oc, kf := p.kf, of := p.of }

/-- The coefficients in effect of channel `n` at its present gain. -/
def State.effOf (s : State) (n : Nat) : Eff := s.effAt n (s.gainOf n)

/-- σ_C of channel `n`'s present gain (R61). -/
def State.sigmaOf (s : State) (n : Nat) : Nat := (s.pEntry n (s.gainOf n)).sigma

/-- The entries the calibration store holds, by key. -/
def calKeys : List Nat := List.range 560

/-- Whether the unit of a calibration entry is present. -/
def calPresent (v : Variant) (k : Nat) : Bool :=
  if k < 512 then hasPch v (k / 8) else if k < 520 then hasBank v (k - 512) else k < 560 && hasWch v ((k - 520) / 5)

/-- How many words an entry has. -/
def calLen (k : Nat) : Nat := if k < 512 then 12 else if k < 520 then 16 else 8

/-- Whether an entry is pending: it has been changed and not yet committed (R134). A BAD entry is not: its words mean nothing (R136). -/
def CalEntry.isPending (e : CalEntry) : Bool := !e.bad && (e.words.getD 9 0).getLsbD 29

/-- The keys of the pending P-channel entries. -/
def State.pendingKeys (s : State) : List Nat := (List.range 512).filter (fun k => (s.calE k).isPending)

/-- CAL_STAT.PENDING follows the working entries. -/
def State.countPending (s : State) : State := s.setFld Reg.CAL_STAT Fld.CAL_STAT_PENDING s.pendingKeys.length

/-- Copy CALSET's body into the calibration store (R133, R136): an entry whose CRC fails, and a bank entry whose SLOPE is 0, is
marked BAD, counted and reported. -/
def State.loadCalEntry (s : State) (k : Nat) (ws : List Word) : State :=
  if !calPresent s.fac.variant k then s else
  let n := calLen k
  let bad := crcWords (ws.take (n - 1)) != ws.getD (n - 1) 0 || (512 ≤ k && k < 520 && (ws.getD 10 0).toNat % 2 ^ 16 == 0)
  let s := s.setCal k { words := ws, bad := bad }
  if bad then
    let id := if k < 512 then (0, k / 8, k % 8) else if k < 520 then (1, k - 512, 0) else (2, (k - 520) / 5, (k - 520) % 5)
    (s.count Reg.CAL_STAT Fld.CAL_STAT_BAD).emit 0x014A id.2.1 [id.1, id.2.1, id.2.2]
  else s

/-- Load every entry of a CALSET body given as words (R133). -/
def State.loadCalset (s : State) (ws : List Word) : State :=
  let s := { s with cal := [], eff := [] }
  (calKeys.foldl (fun (p : State × List Word) k => (p.1.loadCalEntry k (p.2.take (calLen k)), p.2.drop (calLen k)))
    (s, ws)).1.countPending

/-- The body of a section of the image the device booted from, empty where it is absent. -/
def State.sectionBody (s : State) (t : Nat) : List (BitVec 8) := ((s.bootu.sections.find? (fun p => p.1 == t)).map (·.2)).getD []

/-- Where an entry begins in CALSET, in words (R133). -/
def calOffset (k : Nat) : Nat :=
  if k < 512 then 12 * k else if k < 520 then 6144 + 16 * (k - 512) else 6272 + 8 * (k - 520)

/-- An entry's words in the CALSET section of the image the device booted from (R133, R305). -/
def State.calsetEntry (s : State) (k : Nat) : List Word := ((bytesWords (s.sectionBody 9)).drop (calOffset k)).take (calLen k)

/-- The bytes of words, little-endian. -/
def wordsBytes (l : List Word) : List (BitVec 8) := l.flatMap (fun w => (List.range 4).map (fun i => BitVec.ofNat 8 (w.toNat / 2 ^ (8 * i))))

/-- What stands before a CALSET body, and the body with an entry's words replaced. -/
def replaceEntry (head body : List (BitVec 8)) (k : Nat) (ws : List Word) : List (BitVec 8) :=
  head ++ body.take (4 * calOffset k) ++ wordsBytes ws ++ body.drop (4 * (calOffset k + calLen k))

/-- CALSET of the booted image with an entry's words replaced (R142). -/
def State.setCalset (s : State) (k : Nat) (ws : List Word) : State :=
  { s with bootu := { s.bootu with sections := s.bootu.sections.map (fun p => if p.1 = 9 then (p.1, replaceEntry [] p.2 k ws) else p) } }

/-- Whether a reader's CAL_SEL selects an entry of a channel or bank that the variant lacks (R450). -/
def calWinAbsent (v : Variant) (sel : Word) : Bool :=
  let idx := getField Fld.CAL_SEL_INDEX sel
  match getField Fld.CAL_SEL_KIND sel with
  | 1 => decide (idx < 8) && !hasBank v idx
  | 2 => decide (idx < 8) && !hasWch v idx
  | _ => decide (idx < 64) && !hasPch v idx

/-- Word `i` of the window that a reader's CAL_SEL selects (R145). -/
def State.calWin (s : State) (sel : Word) (i : Nat) : Word :=
  let kind := getField Fld.CAL_SEL_KIND sel
  let idx := getField Fld.CAL_SEL_INDEX sel
  let g := getField Fld.CAL_SEL_GAIN sel
  if kind = 3 then
    if !(idx < 64 && hasPch s.fac.variant idx) then 0 else
    let e := s.effAt idx g
    let p := s.pEntry idx g
    let c := s.calE (calKeyP idx g)
    match i with
    | 0 => BitVec.ofNat 32 e.kc
    | 1 => BitVec.ofNat 32 (twos 24 e.oc)
    | 2 => BitVec.ofNat 32 e.kf
    | 3 => BitVec.ofNat 32 (twos 24 e.of)
    | 4 => BitVec.ofNat 32 (8 * p.sigma)
    | 5 => BitVec.ofNat 32 p.kk
    | 6 => BitVec.ofInt 32 p.ok
    | 7 => BitVec.ofNat 32 (2 ^ 31 * bit c.bad + 2 ^ 30 * bit c.isPending + 2 ^ 29 * bit (g == s.gainOf idx))
    | _ => 0
  else
    let k := if kind = 0 then (if idx < 64 then calKeyP idx g else 560)
      else if kind = 1 then (if idx < 8 then calKeyB idx else 560)
      else if idx < 8 ∧ g < 5 then calKeyW idx g else 560
    if calPresent s.fac.variant k then (s.calE k).words.getD i 0 else 0

end Sys2Proof.Machine
end

