-- ==== Sys2Proof/Machine/Topology.lean ====
section
/-!
DEFINITION. What the manager's firmware computes from the devices and links it has found (R357 to R364): the key order, the tree with its
addresses, legal routes and routing tables, the roles. Functions of plain data; nothing here changes the device.
-/
namespace Sys2Proof.Machine

/-- A list in the order of `before`; of two that neither precedes, the earlier stays first. -/
def insertBy {α : Type} (before : α → α → Bool) (x : α) : List α → List α
  | [] => [x]
  | y :: l => if before y x || !before x y then y :: insertBy before x l else x :: y :: l

/-- The list sorted by insertion. -/
def sortBy {α : Type} (before : α → α → Bool) (l : List α) : List α := l.foldl (fun acc x => insertBy before x acc) []

/-- Whether key `a` wins over key `b` (R357): PRIO, then host attachment, then the lower die ID. -/
def Key.beats (a b : Key) : Bool :=
  decide (b.prio < a.prio) || a.prio == b.prio && (a.host && !b.host || a.host == b.host && decide (a.die < b.die))

/-- A device's election key. -/
def Dev.key (d : Dev) : Key := { prio := d.prio, host := d.host, die := d.die }

/-- The devices in key order (R357). -/
def ranked (g : List Dev) : List Dev := sortBy (fun a b => a.key.beats b.key) g

/-- The device of a die ID. -/
def devOf (g : List Dev) (die : Nat) : Option Dev := g.find? (fun d => d.die == die)

/-- A device's links to devices that are known, port by port (R358). -/
def Dev.links (g : List Dev) (d : Dev) : List (Nat × Nat) :=
  (sortBy (fun a b => decide (a.1 < b.1)) d.nbrs).filter (fun l => g.any (fun e => e.die == l.2))

/-- The part of the fabric that `die` is connected with, in as many rounds as there are devices. -/
def connected (g : List Dev) (die : Nat) : List Dev :=
  let near := fun (seen : List Nat) (d : Dev) => seen.contains d.die || (d.links g).any (fun l => seen.contains l.2) ||
    g.any (fun e => seen.contains e.die && (e.links g).any (fun l => l.2 == d.die))
  let seen := g.foldl (fun (seen : List Nat) _ => (g.filter (near seen)).map (·.die)) [die]
  g.filter (fun d => seen.contains d.die)

/-! ### Source routes (R353, R358) -/

/-- One hop further from every device reached last: what is reached, with the ports that lead there, and what has been reached before. -/
def spread (g : List Dev) (front : List (Nat × List Nat)) (seen : List (Nat × List Nat)) : List (Nat × List Nat) :=
  front.foldl (fun acc f => ((devOf g f.1).map (Dev.links g)).getD [] |>.foldl (fun (acc : List (Nat × List Nat)) l =>
    if (seen ++ acc).any (fun q => q.1 == l.2) then acc else acc ++ [(l.2, f.2 ++ [l.1])]) acc) []

/-- The ports of a shortest way from `me` to every device within `n` hops. -/
def waysOf (g : List Dev) : Nat → List (Nat × List Nat) → List (Nat × List Nat) → List (Nat × List Nat)
  | 0, _, seen => seen
  | n + 1, front, seen =>
    let next := spread g front seen
    waysOf g n next (seen ++ next)

/-- The ports by which a packet goes from `me` to `die`, at most 16, which ROUTE holds (R353). -/
def pathTo (g : List Dev) (me die : Nat) : List Nat :=
  (((waysOf g 16 [(me, [])] [(me, [])]).find? (fun q => q.1 == die)).map (·.2)).getD []

/-! ### The tree and the addresses (R358, R359) -/

/-- The tree as far as it has grown: the devices placed, each with its address, depth and parent, and the links that lead to devices without
an address (device, port, cause 0 devices or 1 hops). -/
structure Tree where
  placed  : List Dev := []
  limited : List (Nat × Nat × Nat) := []
deriving DecidableEq, Repr

/-- The address of a device reached for the first time (R358): the one it has kept, else 1 for the clock root, else its previous one where that
is free, else the lowest free one. An address that another device keeps is not free. -/
def addrFor (given : List (Nat × Nat)) (t : Tree) (d : Dev) : Nat :=
  let free := fun (a : Nat) => t.placed.all (fun e => e.addr != a) && given.all (fun q => q.2 != a)
  match given.find? (fun q => q.1 == d.die) with
  | some q => q.2
  | none =>
    if t.placed.isEmpty then 1
    else if 0 < d.addr && d.addr ≤ 4094 && free d.addr then d.addr
    else ((List.range 4094).find? (fun i => free (i + 1))).map (· + 1) |>.getD 0

/-- One link of a device of the tree is visited (R358, R359): a device not yet placed takes its address, unless it lies beyond 16 hops, comes
after 4094 others, or has not been reached by the exploration. -/
def Tree.visit (g : List Dev) (given : List (Nat × Nat)) (v : Dev) (t : Tree) (l : Nat × Nat) : Tree :=
  if t.placed.any (fun d => d.die == l.2) then t else
  match devOf g l.2 with
  | none => { t with limited := t.limited ++ [(v.addr, l.1, 1)] }
  | some d =>
    if 16 ≤ v.depth then { t with limited := t.limited ++ [(v.addr, l.1, 1)] }
    else if 4094 ≤ t.placed.length then { t with limited := t.limited ++ [(v.addr, l.1, 0)] }
    else { t with placed := t.placed ++ [{ d with addr := addrFor given t d, depth := v.depth + 1, parent := v.die }] }

/-- The devices of one depth are visited in ascending address order, each one's ports in the order FP0 to FP3 (R358). -/
def Tree.level (g : List Dev) (given : List (Nat × Nat)) (t : Tree) (depth : Nat) : Tree :=
  let front := sortBy (fun a b => decide (a.addr < b.addr)) (t.placed.filter (fun d => d.depth == depth))
  front.foldl (fun t v => (sortBy (fun a b => decide (a.1 < b.1)) v.nbrs).foldl (Tree.visit g given v) t) t

/-- The breadth-first spanning tree from the clock root (R358). -/
def treeOf (g : List Dev) (given : List (Nat × Nat)) (root : Dev) : Tree :=
  let t : Tree := { placed := [{ root with addr := addrFor given {} root, depth := 0, parent := root.die }] }
  (List.range 17).foldl (Tree.level g given) t

/-! ### Routes (R361) -/

/-- Whether the link from `a` to `b` is an up link: its up end is the device with the lower depth, or on equal depth the lower address. -/
def upLink (a b : Dev) : Bool := decide (b.depth < a.depth) || a.depth == b.depth && decide (b.addr < a.addr)

/-- The lengths of the shortest legal route and of the shortest route down from a device, as far as they are known. -/
structure Reach where
  any_  : Option Nat := none
  down  : Option Nat := none
deriving DecidableEq, Repr

/-- The shorter of two lengths. -/
def shorter (a b : Option Nat) : Option Nat :=
  match a, b with
  | some x, some y => some (min x y)
  | some x, none => some x
  | none, y => y

/-- What the known lengths at a link's far end make of it: a legal route that begins with this link goes on as it likes after an up link, and down
after a down link. -/
def viaLink (known : List (Nat × Reach)) (a b : Dev) : Option Nat :=
  let r := ((known.find? (fun q => q.1 == b.die)).map (·.2)).getD {}
  (if upLink a b then r.any_ else r.down).map (· + 1)

/-- One round: lengths one link longer. -/
def reachRound (g : List Dev) (dst : Nat) (known : List (Nat × Reach)) : List (Nat × Reach) :=
  g.map (fun v =>
    let ends := (v.links g).filterMap (fun l => devOf g l.2)
    let best := fun (l : List Dev) => l.foldl (fun acc w => shorter acc (viaLink known v w)) none
    let down := if v.die = dst then some 0 else best (ends.filter (fun w => !upLink v w))
    (v.die, { any_ := if v.die = dst then some 0 else shorter down (best (ends.filter (upLink v))), down := down }))

/-- The lengths of the legal routes to a device: none is longer than 32, up to the root and down again. -/
def reachTo (g : List Dev) (dst : Nat) : List (Nat × Reach) := (List.range 32).foldl (fun k _ => reachRound g dst k) []

/-- The routing entry of `v` for `dst` (R361, R380): the port of the shortest legal route, on equal length the lower one. -/
def entryFor (g : List Dev) (v dst : Dev) : Nat :=
  if v.die = dst.die then 2 ^ 31 + 2 ^ 27 else
  let known := reachTo g dst.die
  let best := (v.links g).foldl (fun (acc : Option (Nat × Nat)) l =>
    match (devOf g l.2).bind (fun w => (viaLink known v w).map (fun n => (n, l.1 * 2 ^ 28 + 2 ^ 30 * (if upLink v w then 1 else 0)))) with
    | none => acc
    | some q => match acc with
      | some b => if q.1 < b.1 then some q else some b
      | none => some q) none
  match best with
  | some q => 2 ^ 31 + q.2 + q.1 % 32 * 2 ^ 16
  | none => 0

/-- The routing table of a device: an entry for each address given. -/
def tableFor (g : List Dev) (v : Dev) : List (Nat × Nat) := g.map (fun d => (d.addr, entryFor g v d))

/-- The largest hop count from a device to any other (R376), by legal routes. -/
def eccOf (g : List Dev) (v : Dev) : Nat := (g.map (fun d => entryFor g v d / 2 ^ 16 % 32)).foldl max 0

/-! ### Roles and the whole (R357, R364) -/

/-- What holds over from the fabric as it was: the addresses kept, and the die IDs of the clock root, its successor and the standby (0: none). -/
structure Held where
  given : List (Nat × Nat) := []
  root  : Nat := 0
  succ  : Nat := 0
  stby  : Nat := 0
deriving DecidableEq, Repr

/-- What the manager has computed: the tree, the roles (manager, standby, clock root, successor), the die IDs of root, successor and standby, and the
diameter. -/
structure Plan where
  tree     : Tree
  who      : List Nat
  held     : Held
  diameter : Nat
deriving DecidableEq, Repr

/-- The holder of a role (R357, R364): the one that has it stays while it is there; else the first in key order that may have it. -/
def holder (g : List Dev) (now : Nat) (may : Dev → Bool) : Option Dev :=
  match g.find? (fun d => d.die == now && may d) with
  | some d => some d
  | none => (ranked g).find? may

/-- The manager's computation over the devices connected with it (R357 to R361, R364); none without a host-attached device. -/
def planOf (g : List Dev) (me : Nat) (h : Held) : Option Plan :=
  let g := connected g me
  (holder g h.root (·.host)).map (fun root =>
    let tree := treeOf g h.given root
    let here := tree.placed
    let succ := holder here h.succ (fun d => d.host && d.die != root.die)
    let stby := holder here h.stby (fun d => d.die != me)
    let addr := fun (d : Option Dev) => ((d.bind (fun d => devOf here d.die)).map (·.addr)).getD 0
    let die := fun (d : Option Dev) => (d.map (·.die)).getD 0
    let kept := here.map (fun d => (d.die, d.addr)) ++ h.given.filter (fun q => here.all (fun d => d.die != q.1))
    { tree := tree, who := [addr (devOf here me), addr stby, addr (some root), addr succ],
      held := { given := kept, root := root.die, succ := die succ, stby := die stby },
      diameter := (here.map (eccOf here)).foldl max 0 })

/-- The links that two topologies do not share (R379): each has two ends. -/
def linkChanges (a b : List Dev) : Nat :=
  let ends := fun (g : List Dev) => g.flatMap (fun d => d.nbrs.map (fun l => (d.die, l.1, l.2)))
  let only := fun (x y : List (Nat × Nat × Nat)) => (x.filter (fun e => !y.contains e)).length
  (only (ends a) (ends b) + only (ends b) (ends a) + 1) / 2

/-- The addresses of a former topology whose devices can no longer be reached (R363). -/
def lostDevices (before after : List Dev) : List Nat :=
  (before.filter (fun d => d.addr != 0 && !after.any (fun e => e.die == d.die))).map (·.addr)

/-- The source that makes a device's tree parent its clock parent: its lowest port that leads there, as CLK_SRC.SEL numbers it (R323, R363). -/
def parentSource (d : Dev) : Option Nat := ((sortBy (fun a b => decide (a.1 < b.1)) d.nbrs).find? (fun l => l.2 == d.parent)).map (·.1 + 1)

/-- The devices, in order of depth, whose clock parent is not their tree parent, with the source each is to take (R363). -/
def movesOf (here : List Dev) : List (Nat × Nat) :=
  (sortBy (fun a b => decide (a.depth < b.depth)) here).filterMap (fun d =>
    if d.depth = 0 then none else (parentSource d).bind (fun c => if d.clk = c then none else some (d.addr, c)))

end Sys2Proof.Machine
end

