-- ==== Sys2Proof/Machine/FabOps.lean ====
section
/-!
DEFINITION. What every fabric rule builds on (R347 to R356, R361): flits with their check, packets with their type-specific fields,
output ports with credits and the retry buffer, requests that expect an answer, and answers that a target keeps.
-/
namespace Sys2Proof.Machine

/-- Fabric port `p` beyond its registers. -/
def State.portU (s : State) (p : Nat) : Port := Store.get (fun _ => {}) s.port p
/-- The state with port `p` replaced. -/
def State.setPort (s : State) (p : Nat) (x : Port) : State := { s with port := Store.set (fun _ => {}) s.port p x }

/-! ### Link states (R346) -/

def lsDown : Nat := 0
def lsTraining : Nat := 1
def lsHello : Nat := 2
def lsUp : Nat := 3
def lsExcluded : Nat := 4
def lsFailed : Nat := 5

/-- The state of port `p`'s link. -/
def State.lstate (s : State) (p : Nat) : Nat := s.fld (Reg.FP_STAT p) Fld.FP_STAT_LSTATE

/-! ### The check (R347) -/

/-- One bit into the CRC-16 of R347. -/
def crc16Bit (c : Nat) (b : Bool) : Nat :=
  let top := bitAt c 15
  let c := c * 2 % 65536
  if top != b then c ^^^ 0x8BB7 else c

/-- The CRC-16 over `n` bits of a number, bit 0 first. -/
def crc16Bits : Nat → Nat → Nat → Nat
  | 0, _, c => c
  | n + 1, v, c => crc16Bits n (v / 2) (crc16Bit c (v % 2 == 1))

/-- The check of a flit: over the prefix and the payload bits 0 to 239 (R347). The order of the prefix's bits is not stated; they are
taken like the payload's, bit 0 first (log entry 12, DEDUCED). -/
def flitCrc (pre payload : Nat) : Nat := crc16Bits 240 payload (crc16Bits 8 pre 0xFFFF)

/-- What a receiver finds in a flit's check: good, poisoned, or a failure (R347). -/
def flitCheck (pre flit : Nat) : Option Bool :=
  let c := flitCrc pre (flit % 2 ^ 240)
  if flit / 2 ^ 240 = c then some false else if flit / 2 ^ 240 = c ^^^ 0x5A5A then some true else none

/-- A flit as sent: the payload with its check in bits 255:240, with the pattern of R347 where it carries poisoned data. -/
def mkFlit (pre payload : Nat) (poison : Bool) : Nat :=
  payload + (flitCrc pre payload ^^^ (if poison then 0x5A5A else 0)) * 2 ^ 240

/-! ### Packets (R351 to R353) -/

def ptRead : Nat := 0
def ptWrite : Nat := 1
def ptResponse : Nat := 2
def ptCommand : Nat := 3
def ptEvent : Nat := 4
def ptEventAck : Nat := 5
def ptStreamReq : Nat := 6
def ptStreamGrant : Nat := 7
def ptStreamData : Nat := 8
def ptStreamAck : Nat := 9
def ptMgmt : Nat := 10
def ptMgmtRsp : Nat := 11
def ptStarter : Nat := 12
def ptTimeStep : Nat := 13
def ptTableCommit : Nat := 14

/-- The virtual channel of a packet type: 0 REQ, 1 RSP, 2 STR (R352). -/
def vcOf (ptype : Nat) : Nat := if ptype ∈ [0, 1, 3, 4, 6, 10] then 0 else if ptype = 8 then 2 else 1

/-- Bits `hi`:`lo` of the header flit, where they lie in the type-specific part 239:185. -/
def Packet.ts (p : Packet) (hi lo : Nat) : Nat := p.tspec / 2 ^ (lo - 185) % 2 ^ (hi + 1 - lo)

/-- The TAG of a packet (R353). -/
def Packet.tag (p : Packet) : Nat := p.ts 192 185
/-- STATUS of a RESPONSE. -/
def Packet.status (p : Packet) : Nat := p.ts 195 193
/-- ADDR of a READ or WRITE. -/
def Packet.addr (p : Packet) : Nat := p.ts 228 193
/-- SIZE of a READ or WRITE. -/
def Packet.size (p : Packet) : Nat := p.ts 233 229
/-- RING of a stream packet. -/
def Packet.ring (p : Packet) : Nat := p.ts 189 185
/-- SID of a stream packet. -/
def Packet.sid (p : Packet) : Nat := p.ts 199 190
/-- CIDX of a stream packet. -/
def Packet.cidx (p : Packet) : Nat := p.ts 205 200
/-- BSEQ of a stream packet. -/
def Packet.bseq (p : Packet) : Nat := p.ts 237 206

/-- The type-specific bits of a stream packet (R353). -/
def streamTs (ring sid cidx bseq : Nat) : Nat := ring % 32 + sid % 1024 * 2 ^ 5 + cidx % 64 * 2 ^ 15 + bseq % 2 ^ 32 * 2 ^ 21

/-- HOPS of a MGMT packet (R353). -/
def Packet.hops (p : Packet) : Nat := p.ts 205 201
/-- ROUTE of a MGMT packet. -/
def Packet.route (p : Packet) : Nat := p.ts 237 206

/-- Whether a packet is source-routed (R353). -/
def Packet.sourced (p : Packet) : Bool := (p.ptype == ptMgmt || p.ptype == ptMgmtRsp) && decide (0 < p.hops)

/-- The type-specific bits of a MGMT packet (R353) with the ports of its way, the first in the low bits of ROUTE; without a way it goes by DST. -/
def mgmtTs (op : Nat) (way : List Nat) : Nat :=
  op % 256 * 2 ^ 8 + (if way.length ≤ 16 then
    way.length * 2 ^ 16 + (way.zipIdx.map (fun q => q.1 % 4 * 4 ^ q.2)).foldl (· + ·) 0 * 2 ^ 21 else 0)

/-- The type-specific bits of a READ or WRITE. -/
def accessTs (tag addr size : Nat) : Nat := tag % 256 + addr % 2 ^ 36 * 2 ^ 8 + size % 32 * 2 ^ 44

/-- The packet section of the header flit, bits 239:125 (R351). -/
def Packet.section (p : Packet) : Nat :=
  vcOf p.ptype + p.ptype % 16 * 2 ^ 2 + p.payload.length % 32 * 2 ^ 6 + p.dst % 4096 * 2 ^ 11 + p.src % 4096 * 2 ^ 23
    + p.age % 256 * 2 ^ 35 + p.epoch % 2 * 2 ^ 43
    + ((p.poison.zipIdx.map (fun q => bit q.1 * 2 ^ q.2)).foldl (· + ·) 0) % 2 ^ 16 * 2 ^ 44 + p.tspec % 2 ^ 55 * 2 ^ 60

/-! ### What a port sends -/

/-- Whether the clock is syntonised: locked to a source, or in holdover for at most 100 µs (R368). -/
def State.syntonised (s : State) : Bool :=
  s.flag Reg.CLK_STAT Fld.CLK_STAT_T_LOCK ||
    (s.flag Reg.CLK_STAT Fld.CLK_STAT_HOLDOVER && match s.clk.lossTime with
      | some t => decide ((s.time - t).toNat ≤ usTime 100)
      | none => false)

/-- This end's advertisement ADV (R351, R368): clock depth, SYNT, ORPHAN, FROM_YOU. -/
def State.advOf (s : State) (p : Nat) : Nat :=
  s.fld Reg.FAB_STAT Fld.FAB_STAT_DEPTH + 32 * bit s.syntonised + 64 * s.fld Reg.FAB_STAT Fld.FAB_STAT_ORPHAN
    + 128 * s.fld (Reg.FP_STAT p) Fld.FP_STAT_CLKSRC

/-- The link section that port `p` sends now (R351): acknowledgment, valid once a flit has come in order, or NAK, credits returned, times,
advertisement. -/
def State.linkSection (s : State) (p : Nat) : Nat :=
  let x := s.portU p
  let ack := if x.nakOwed then x.rxNext else (x.rxNext + 255) % 256
  let cr := fun (v : Nat) => min 31 (x.owed.getD v 0)
  ack * 2 ^ 8 + bit (x.rxAny || x.nakOwed) * 2 ^ 16 + bit x.nakOwed * 2 ^ 17 + cr 0 * 2 ^ 18 + cr 1 * 2 ^ 23 + cr 2 * 2 ^ 28
    + s.time.toNat % 2 ^ 32 * 2 ^ 33 + x.lastTxt % 2 ^ 32 * 2 ^ 65 + min ((s.time - x.lastAt).toNat) 0xFFFFF * 2 ^ 97
    + s.advOf p % 256 * 2 ^ 117

/-- A link section has left at `t`: the credits that it has returned are no longer owed; a NAK has been told. -/
def Port.told (x : Port) (t : Time) : Port := { x with owed := x.owed.map (fun n => n - min 31 n), nakOwed := false, txAt := t }

/-- Whether control flits travel on port `p`: in HELLO, UP and EXCLUDED (R346, R357). -/
def State.talks (s : State) (p : Nat) : Bool := s.lstate p == lsHello || s.lstate p == lsUp || s.lstate p == lsExcluded

/-- Port `p` sends an IDLE control flit, whose control payload is empty (R347, R348, R357): link state repeated in full. -/
def State.sendIdle (s : State) (p : Nat) : State :=
  if s.talks p then (s.setPort p ((s.portU p).told s.time)).put (.flit p "IDLE" [(mkFlit 0 (0xD4 + s.linkSection p * 2 ^ 8) false : Int)]) else s

/-- Port `p` sends a control flit of another type (R348, R351, R357): the link section, then its control payload. The spec lists what the payload holds
and gives it no places: the values stand in the order listed (log entry 20, DESIGN CHOICE). -/
def State.sendControl (s : State) (p : Nat) (kind : String) (args : List Int) : State :=
  if s.talks p then (s.setPort p ((s.portU p).told s.time)).put (.flit p kind ((s.linkSection p : Int) :: args)) else s

/-- A link that has been idle for 16 µs gets a control flit, so that times are exchanged (R369). -/
def State.keepTalking (s : State) : State :=
  (List.range 4).foldl (fun (s : State) p => if s.longSince (some (s.portU p).txAt) (usTime 16) then s.sendIdle p else s) s

/-- The flit slots of a port in 10 s (R344). -/
def State.slotRate (s : State) (p : Nat) : Nat := if s.fld (Reg.FP_STAT p) Fld.FP_STAT_RATE_NOW = 0 then 390625000 else 97656250

/-- FP_UTIL (R380): the data-flit shares of the 100 ms that have ended last, in 1/65 536. -/
def State.rollUtil (s : State) (p : Nat) : State :=
  let x := s.portU p
  let gone := (s.time - x.utilFrom).toNat
  let span := msTime 100
  if gone < span then s else
  let share := fun (n : Nat) => if gone < 2 * span then min 65535 (n * 6553600 / s.slotRate p) else 0
  (s.setPort p { x with utilFrom := BitVec.ofNat 64 (s.time.toNat / span * span), txData := 0, rxData := 0 }).setReg (Reg.FP_UTIL p)
    (BitVec.ofNat 32 (share x.txData * 65536 + share x.rxData))

/-- Data flits that a port has sent or received (R380). -/
def State.noteFlits (s : State) (p tx rx : Nat) : State :=
  let s := s.rollUtil p
  let x := s.portU p
  s.setPort p { x with txData := x.txData + tx, rxData := x.rxData + rx }

/-- The packet that leaves port `x` next: within channel `v` the one with the largest AGE, on a tie the lower input port (R356). -/
def pickPacket (now : Time) (v : Nat) (q : List QPkt) : Option QPkt :=
  (q.filter (fun e => vcOf e.pkt.ptype == v)).foldl (fun best e => match best with
    | none => some e
    | some b =>
      let ae := e.pkt.age + usSince e.at_ now
      let ab := b.pkt.age + usSince b.at_ now
      if ae > ab ∨ (ae = ab ∧ e.inp < b.inp) then some e else best) none

/-- Flits of channel `v` have left the buffer of input port `p`, whose neighbour is owed the credits (R349). -/
def State.giveBack (s : State) (p v n : Nat) : State :=
  if p < 4 then s.setPort p { s.portU p with owed := (s.portU p).owed.set v ((s.portU p).owed.getD v 0 + n) } else s

/-- A packet leaves its output's queue: the buffer of its input port is free, unless a copy has freed it (R349). -/
def State.leaveQueue (s : State) (e : QPkt) : State :=
  if e.frees then s.giveBack e.inp (vcOf e.pkt.ptype) (1 + e.pkt.payload.length) else s

/-- One flit into the retry buffer and onto the link, against a credit (R348, R349). -/
def State.sendFlit (s : State) (p v bits : Nat) (poison header : Bool) : State :=
  let s := s.noteFlits p 1 0
  let x := s.portU p
  let seq := x.txNext
  let full := if header then bits + s.linkSection p + seq else bits
  let x := { x with txNext := (seq + 1) % 256, credits := x.credits.set v (x.credits.getD v 0 - 1),
                    retry := x.retry ++ [{ seq := seq, bits := full, poison := poison, sentAt := s.time }] }
  (s.setPort p (if header then x.told s.time else x)).put (.flit p "DATA" [(mkFlit seq full poison : Int)])

/-- The output port serves its channels in turn, skipping one that has no packet ready or no credit (R349, R356): one flit at a time
while the link is UP, credits and the retry buffer allow, and no rate switch is settled. -/
def State.servePort (s : State) (p : Nat) : Nat → State
  | 0 => s
  | fuel + 1 =>
    let x := s.portU p
    if s.lstate p != lsUp || x.switch.isSome || x.retry.length ≥ 64 then s else
    match x.sending with
    | some (_, []) => (s.setPort p { x with sending := none }).servePort p fuel
    | some (v, (b, po) :: rest) =>
      if x.credits.getD v 0 = 0 then s
      else ((s.setPort p { x with sending := some (v, rest) }).sendFlit p v b po false).servePort p fuel
    | none =>
      let turn := [(x.served + 1) % 3, (x.served + 2) % 3, x.served % 3]
      let ready := turn.filterMap (fun v => if x.credits.getD v 0 = 0 || x.stopped.contains v then none
        else (pickPacket s.time v x.queue).map (fun e => (v, e)))
      match ready.head? with
      | none => s
      | some (v, e) =>
        let pk := { e.pkt with age := min 255 (e.pkt.age + usSince e.at_ s.time) }
        let rest := pk.payload.zipIdx.map (fun q => (q.1, pk.poison.getD q.2 false))
        let s := (s.setPort p { x with queue := x.queue.erase e, served := v, sending := some (v, rest) }).leaveQueue e
        (s.sendFlit p v (pk.section * 2 ^ 125) false true).servePort p fuel

/-- Enough fuel for every flit a port can hold. -/
def portFuel : Nat := 256

/-! ### Routing (R361, R362) -/

/-- The routing entry of a bank for a destination: bit 31 VALID, 30 UP, 29:28 port, 27 LOCAL, 20:16 hops (R380). -/
def State.routeEntry (s : State) (bank dst : Nat) : Nat :=
  Store.get (fun _ => 0) (if bank = 0 then s.fab.bank0 else s.fab.bank1) dst

/-- The output port for a destination by the bank of an epoch. -/
def State.routePort (s : State) (epoch dst : Nat) : Option Nat :=
  let e := s.routeEntry epoch dst
  if bitAt e 31 && !bitAt e 27 then some (e / 2 ^ 28 % 4) else none

/-- The active bank: FAB_STAT.EPOCH. -/
def State.epoch (s : State) : Nat := s.fld Reg.FAB_STAT Fld.FAB_STAT_EPOCH

/-- The ports that are UP. -/
def State.upPorts (s : State) : List Nat := (List.range 4).filter (fun p => hasFp s.fac.variant p && s.lstate p == lsUp)

/-- Whether a neighbour is this device's parent or child in the tree that the manager holds (R358). -/
def State.treeNeighbour (s : State) (die : Nat) : Bool :=
  let me := s.fac.dieId.toNat
  die != me && ((devOf s.fab.topo me).any (fun d => d.parent == die) || (devOf s.fab.topo die).any (fun d => d.parent == me))

/-- The ports of tree links, on which broadcasts travel (R361). The manager knows its tree; of parallel links the lowest port's is the tree's. Any
other device takes the one toward the root and those whose neighbour is timed from here, since the manager makes every device's clock parent its
tree parent (R363; log entry 13, DEDUCED). -/
def State.treePorts (s : State) : List Nat :=
  if s.flag Reg.FAB_STAT Fld.FAB_STAT_MANAGER && !s.fab.topo.isEmpty then
    let die := fun (p : Nat) => (s.portU p).nbr.map (·.die)
    s.upPorts.filter (fun p => (die p).any s.treeNeighbour && (s.upPorts.filter (fun q => decide (q < p))).all (fun q => die q != die p))
  else s.upPorts.filter (fun p => s.flag (Reg.FP_STAT p) Fld.FP_STAT_UPLINK || s.flag (Reg.FP_STAT p) Fld.FP_STAT_NFROM)

/-- A packet into the queue of an output port; a stopped channel discards it (R367). -/
def State.enqueueAs (s : State) (p : Nat) (e : QPkt) : State :=
  let x := s.portU p
  let v := vcOf e.pkt.ptype
  if x.stopped.contains v then
    ((s.setPort p { x with dropped := x.dropped.set v (x.dropped.getD v 0 + 1) }).count Reg.FAB_DROP Fld.FAB_DROP_STOP).leaveQueue e
  else (s.setPort p { x with queue := x.queue ++ [e] }).servePort p portFuel

/-- A packet into the queue of an output port, coming from input `inp`, whose buffer it leaves as it goes on. -/
def State.enqueue (s : State) (p inp : Nat) (pk : Packet) : State := s.enqueueAs p { pkt := pk, inp := inp, at_ := s.time }

/-- A packet that this device injects (R353, R361, R362): under the present epoch, by its routing table, or by the first port of its source route; a
broadcast on every tree link. A packet for this device's own address is handed to it directly. -/
def State.inject (s : State) (pk : Packet) : State :=
  let pk := { pk with src := s.ownAddr, epoch := s.epoch, age := 0 }
  let s := s.put (.packet pk.dst "INJECT" [pk.ptype, pk.tspec])
  if pk.sourced then s.enqueue (pk.route % 4) 4 pk
  else if pk.dst = 0xFFF then s.treePorts.foldl (fun s p => s.enqueue p 4 pk) s
  else match s.routePort s.epoch pk.dst with
    | some p => s.enqueue p 4 pk
    | none => s

/-! ### Requests and answers (R355) -/

/-- This device broadcasts a packet (R352, R361) with `n` payload flits, whose places the spec does not give and which are free (log entry 5,
DESIGN CHOICE). -/
def State.broadcast (s : State) (ptype n : Nat) : State :=
  let f := s.freeNat 240
  let s := if n = 0 then s else f.2
  s.inject { ptype := ptype, dst := 0xFFF, src := 0, payload := if n = 0 then [] else [f.1], poison := List.replicate n false }

/-- TMO in fabric time. -/
def State.tmo (s : State) : Nat := msTime (s.fld Reg.FAB_CFG Fld.FAB_CFG_TMO)

/-- Requests that have been sent and are not yet answered. -/
def State.outstanding (s : State) : Nat := (s.fab.reqs.filter (fun r => decide (0 < r.tries))).length

/-- Send the requests that wait for one of the 64 places (R355). -/
def State.pumpRequests (s : State) : State :=
  s.fab.reqs.foldl (fun (s : State) (r : OutReq) =>
    if r.tries = 0 && s.outstanding < 64 then
      let first := fun (q : OutReq) => if q.tag = r.tag ∧ q.dst = r.dst ∧ q.tries = 0 then { q with tries := 1, at_ := s.time } else q
      let s := { s with fab := { s.fab with reqs := s.fab.reqs.map first } }
      s.inject r.pkt
    else s) s

/-- The next tag that no outstanding request carries. -/
def State.freeTag (s : State) : Nat :=
  let used := s.fab.reqs.map (·.tag)
  ((List.range 256).map (fun i => (s.fab.nextTag + i) % 256)).find? (fun t => !used.contains t) |>.getD s.fab.nextTag

/-- Send a request that expects an answer toward `client`, with a key that a stream's request brings or the tag put into it. -/
def State.requestKeyed (s : State) (key : Nat) (client : Client) (pk : Packet) : State :=
  ({ s with fab := { s.fab with reqs := s.fab.reqs ++
      [({ tag := key, dst := pk.dst, client := client, tries := 0, at_ := s.time, pkt := pk } : OutReq)] } }).pumpRequests

/-- Send a request with a fresh tag in its type-specific bits. -/
def State.request (s : State) (client : Client) (pk : Packet) : State :=
  let t := s.freeTag
  let s := { s with fab := { s.fab with nextTag := (t + 1) % 256 } }
  s.requestKeyed t client { pk with tspec := pk.tspec / 256 * 256 + t }

/-- The request an answer belongs to. -/
def State.findRequest (s : State) (tag dst : Nat) : Option OutReq :=
  s.fab.reqs.find? (fun r => r.tag == tag && r.dst == dst && decide (0 < r.tries))

/-- A request is answered or given up: its place is free. -/
def State.dropRequest (s : State) (tag dst : Nat) : State :=
  { s with fab := { s.fab with reqs := s.fab.reqs.filter (fun r => !(r.tag == tag && r.dst == dst)) } }.pumpRequests

/-- The answer that this target has kept for a request, for 2 × TMO (R355). -/
def State.keptAnswer (s : State) (src tag : Nat) : Option Packet :=
  (s.fab.answers.find? (fun a => a.src == src && a.tag == tag && decide ((s.time - a.at_).toNat < 2 * s.tmo))).map (·.pkt)

/-- Answer a request and keep the answer. -/
def State.answer (s : State) (src tag : Nat) (pk : Packet) : State :=
  let keep := s.fab.answers.filter (fun a => decide ((s.time - a.at_).toNat < 2 * s.tmo) && !(a.src == src && a.tag == tag))
  let s := { s with fab := { s.fab with answers := keep ++ [({ src := src, tag := tag, at_ := s.time, pkt := pk } : Answer)] } }
  s.inject pk

/-- An event record leaves for its event home in an EVENT packet, to be acknowledged (R255, R352, R399). The spec gives most payloads no
byte places (log entry 5, DESIGN CHOICE), so the record goes out as its values and the payload flits are free. -/
def State.sendEvent (s : State) (home : Nat) (r : Rec) : State :=
  let a := s.freeNat 240
  let b := a.2.freeNat 240
  let s := b.2.put (.eventPacket home r)
  let s := { s with host := { s.host with unacked := s.host.unacked ++ [(s.freeTag, r)] } }
  s.request .event { ptype := ptEvent, dst := home, src := 0, payload := [a.1, b.1], poison := [false, false] }

/-- The packet that answers `pk` with a status and payload. -/
def Packet.response (pk : Packet) (status : Nat) (payload : List Nat) (poison : List Bool) : Packet :=
  { ptype := ptResponse, dst := pk.src, src := pk.dst, tspec := pk.tag + status * 2 ^ 8, payload := payload, poison := poison }

end Sys2Proof.Machine
end

