-- ==== Sys2Proof/Machine/Inflight.lean ====
section
/-!
DEFINITION. Commands in flight and their completions (R392 to R396): how a command's result is decided, wherever in the model it
is decided.
-/
namespace Sys2Proof.Machine

def stOk : Nat := 0
def stState : Nat := 1
def stAbsent : Nat := 2
def stDropped : Nat := 3
def stNoSpace : Nat := 4
def stBusy : Nat := 5
def stRefused : Nat := 6
def stInvalid : Nat := 7

/-- The records of a completion (R396): 0x0600 and its continuations 0x0601, every record but the last with MORE. -/
def completionRecs (addr tag : Nat) (c : Completion) : List Rec :=
  let sev := if c.status = 0 then 0 else 1
  let n := c.conts.length
  { type := 0x0600, unit := 0, time := c.time, sev := sev, more := n != 0,
    fields := [(tag : Int), c.status, c.detail, addr] ++ c.result } ::
  (c.conts.zipIdx.map (fun p =>
    { type := 0x0601, unit := 0, time := p.1.1.getD c.time, sev := sev, more := decide (p.2 + 1 < n),
      fields := [(tag : Int), p.2 + 1] ++ p.1.2 }))

/-- The in-flight list and what HIF_CMD_STAT.INFLIGHT shows of it (R393). -/
def State.setInflight (s : State) (l : List InFlight) : State :=
  { s with host := { s.host with inflight := l } }.setFld Reg.HIF_CMD_STAT Fld.HIF_CMD_STAT_INFLIGHT l.length

/-- Decide the oldest command of a list that this decision is for. -/
def decideIn (src : CmdSrc) (opcode tag : Nat) (c : Completion) : List InFlight → Option (List InFlight)
  | [] => none
  | e :: l =>
    if e.src == src && e.opcode == opcode && e.tag == tag && e.done.isNone then some ({ e with done := some c } :: l)
    else (decideIn src opcode tag c l).map (e :: ·)

/-- A command's result is decided (R393, R394): for a command of this device's ring the completion waits its turn in submission
order; for a command from another device the completion travels to the ring's device as an EVENT packet. A ring command that is
not yet in flight enters it, up to the 16 of R393. -/
def State.settle (s : State) (src : CmdSrc) (opcode tag : Nat) (c : Completion) : State :=
  let c := { c with time := s.time }
  match src with
  | .remote dev => (completionRecs s.ownAddr tag c).foldl (fun (s : State) r => s.sendEvent dev { r with die := s.fac.dieId.toNat }) s
  | .ring =>
    match decideIn src opcode tag c s.host.inflight with
    | some l => s.setInflight l
    | none =>
      if s.host.inflight.length < 16 then
        s.setInflight (s.host.inflight ++ [{ src := src, opcode := opcode, tag := tag, target := 0, done := some c }])
      else s

/-- Every command in flight that `p` picks and that is not yet decided ends with the same completion. -/
def State.settleAll (s : State) (p : InFlight → Bool) (c : Completion) : State :=
  let l := s.host.inflight.filter (fun e => e.done.isNone && p e)
  l.foldl (fun (s : State) e => s.settle e.src e.opcode e.tag c) s

/-- Whether a command in flight keeps the next one from starting (R393): its effect is decided at once, and it has not been. CHK_CONVERT, the
calibration commands and what goes to another device run on, and what comes after a RELOAD is discarded. -/
def InFlight.startsAlone (e : InFlight) : Bool :=
  e.target == 0 && e.done.isNone && !([0x0003, 0x0040, 0x0041, 0x0042, 0x0043].contains e.opcode)

/-- Whether a command in flight has been accepted by its target (R394): the packet that carried it is no longer outstanding. -/
def State.atTarget (s : State) (e : InFlight) : Bool :=
  !s.fab.reqs.any (fun r => match r.client with
    | .command src op t _ | .forward src op t => src == e.src && op == e.opcode && t == e.tag
    | .event | .stream _ | .mgmt => false)

/-- A target has been reported lost (R394): the commands it has accepted and not completed end with REFUSED, LOST. -/
def State.loseTarget (s : State) (a : Nat) : State :=
  s.settleAll (fun e => e.target == a && a != 0 && s.atTarget e) { status := stRefused, detail := 11 }

/-- Accept a command that runs on (R393): it is in flight, its result not yet decided. -/
def State.accept (s : State) (src : CmdSrc) (opcode tag target : Nat) : State :=
  match src with
  | .remote _ => s
  | .ring =>
    if s.host.inflight.any (fun e => e.src == src && e.opcode == opcode && e.tag == tag && e.done.isNone) then s
    else if s.host.inflight.length < 16 then
      s.setInflight (s.host.inflight ++ [{ src := src, opcode := opcode, tag := tag, target := target }])
    else s

end Sys2Proof.Machine
end

