-- ==== Sys2Proof/Machine/ModeOps.lean ====
section
/-!
DEFINITION. How mode changes are asked for (R310 to R317, R332, R335, R338): the headroom, burst admission and the wake gate, the
start of a change, causes that wait, and SMON's request for SAFE.
-/
namespace Sys2Proof.Machine

/-! ### Energy -/

/-- The window budget of a mode in µJ (R331). -/
def State.budgetOf (s : State) (mode : Nat) : Nat :=
  1000 * (if mode = modeVigil then (s.reg Reg.PACER_BUD_V).toNat else (s.reg Reg.PACER_BUD_S).toNat)

/-- The window length in fabric time (R331). -/
def State.windowLen (s : State) : Nat := s.fld Reg.PACER_CFG Fld.PACER_CFG_WIN * 2 ^ 32 / 10

/-- The first instant of the window that holds the present time (R331): windows begin at whole multiples of their length. -/
def State.windowBegin (s : State) : Nat :=
  let len := max 1 (s.fld Reg.PACER_CFG Fld.PACER_CFG_WIN) * 2 ^ 32
  (s.time.toNat * 10 / len * len + 9) / 10

/-- What is left of the window in fabric time. -/
def State.windowLeft (s : State) : Nat := s.windowLen - (s.time - s.pacer.windowStart).toNat

/-- P_base of a mode in mW (R331): VIGIL's in VIGIL, SURVEY's in every other mode. -/
def State.pBase (s : State) (mode : Nat) : Nat :=
  if mode = modeVigil then (s.reg Reg.PACER_BASE_V).toNat else (s.reg Reg.PACER_BASE_S).toNat

/-- The headroom H of R332 in pJ, with the budget and baseline of `mode`: the rest of the window is taken pro rata from that
mode's budget (R331). -/
def State.headroomIn (s : State) (mode : Nat) : Int :=
  let left : Int := s.windowLeft
  let len : Int := s.windowLen
  let shift : Int := if mode = s.curMode then 0
    else (((s.budgetOf mode : Int) - s.budgetOf s.curMode) * left).fdiv len
  (s.pacer.budget + shift - s.pacer.used + (if mode = modeBurst then (s.pacer.pool : Int) else 0)) * 1000000
    - ((s.pBase mode : Int) * 1000000000 * left).fdiv (2 ^ 32) - s.pacer.charged

/-- The die temperature in 1/256 °C (R333). -/
def State.tj (s : State) : Int := signedOf 16 (s.fld Reg.PACER_STAT Fld.PACER_STAT_TJ)

/-- Whether the temperature is at or above CEIL (R333). -/
def State.atCeil (s : State) : Bool := decide ((256 * s.fld Reg.PACER_THERM Fld.PACER_THERM_CEIL : Int) ≤ s.tj)

/-- Why burst admission fails (R316, R335): 0 it does not, 1 the pool is below MIN, 2 the temperature, 3 both. -/
def State.burstRefusal (s : State) : Nat :=
  bit (decide (s.pacer.pool < s.fld Reg.PACER_RES Fld.PACER_RES_MIN * 1000000)) + 2 * bit s.atCeil

/-- Whether a wake passes the gate (R338). -/
def State.gatePasses (s : State) : Bool :=
  !s.atCeil && (!s.flag Reg.PACER_CFG Fld.PACER_CFG_WAKE_GATE || decide (0 ≤ s.headroomIn modeSurvey))

/-! ### Changes -/

/-- Whether a mode change is in progress. -/
def State.changing (s : State) : Bool := s.mode.phase != .none

/-- Start a mode change (R312, R313): between VIGIL and BURST it passes through SURVEY, in two changes. -/
def State.beginChange (s : State) (target cause trig : Nat) (cmd : Option (CmdSrc × Nat)) : State :=
  let cur := s.curMode
  let via := (cur == modeBurst && target == modeVigil) || (cur == modeVigil && target == modeBurst)
  let s := { s with mode := { s.mode with phase := .waiting, cause := cause, trig := trig, cmd := cmd,
                                          next := if via then some target else none } }
  (s.setFld Reg.MODE_STAT Fld.MODE_STAT_TARGET (if via then modeSurvey else target)).raise Reg.MODE_STAT Fld.MODE_STAT_BUSY

/-- Whether automatic changes act (R312): AUTO, not in BOOT, SERVICE or SAFE, and the mode not held by CMD_STICKY. -/
def State.autoOk (s : State) : Bool :=
  s.flag Reg.MODE_POLICY Fld.MODE_POLICY_AUTO && !s.flag Reg.MODE_STAT Fld.MODE_STAT_CMD_HELD &&
  (s.curMode == modeVigil || s.curMode == modeSurvey || s.curMode == modeBurst)

/-- The opcode of MODE_SET. -/
def opModeSet : Nat := 0x0001
/-- The opcode of SAFE_EXIT. -/
def opSafeExit : Nat := 0x0002

/-- The mode that a cause at the wake gate asks for. -/
def GateCause.target : GateCause → Nat
  | .burst _ => modeBurst
  | _ => modeSurvey

/-- Whether two causes at the wake gate are of one kind. -/
def GateCause.alike : GateCause → GateCause → Bool
  | .wake _, .wake _ | .burst _, .burst _ | .timer, .timer => true
  | _, _ => false

/-- A cause takes its place at the wake gate (R338): it stands for the earlier one of its kind, and MODE_DEFERRED is written once for each
change that waits. -/
def State.waitAtGate (s : State) (c : GateCause) : State :=
  let old := s.mode.gate
  let s := { s with mode := { s.mode with gate := old.filter (fun g => !g.alike c) ++ [c] } }
  if old.any (fun g => g.target == c.target) then s else s.emit 0x0011 0 [c.target, if s.atCeil then 0 else 1]

/-- The first step from VIGIL of a WAKE, a BURST or the mode timer (R338): through the gate, or waiting at it. -/
def State.wakeFrom (s : State) (c : GateCause) : State :=
  if s.gatePasses then
    match c with
    | .wake t => s.beginChange modeSurvey 2 t none
    | .burst t => s.beginChange modeBurst 2 t none
    | .timer => s.beginChange modeSurvey 3 0 none
  else s.waitAtGate c

/-- A refused BURST trigger (R335): at most one record a second, with the count of refusals. -/
def State.burstDenied (s : State) : State :=
  let why := s.burstRefusal
  (s.raise Reg.PACER_STAT Fld.PACER_STAT_DENIED_S).emitLimited 0x0702 0 0 (secTime 1) false 0
    (fun k => [why, s.pacer.pool / 1000, k + 1])

/-- A BURST trigger acts (R312, R335). -/
def State.burstTrigger (s : State) (t : Nat) : State :=
  if s.changing then { s with mode := { s.mode with waitBurst := some t } }
  else if s.autoOk && s.curMode != modeBurst then
    if s.burstRefusal ≠ 0 then s.burstDenied
    else if s.curMode = modeVigil then s.wakeFrom (.burst t)
    else s.beginChange modeBurst 2 t none
  else s

/-- A WAKE trigger acts (R312). -/
def State.wakeTrigger (s : State) (t : Nat) : State :=
  if s.changing then { s with mode := { s.mode with waitWake := some t } }
  else if s.autoOk && s.curMode == modeVigil then s.wakeFrom (.wake t) else s

/-- The ON interval of the mode timer acts (R312). -/
def State.timerWake (s : State) : State :=
  if s.changing then { s with mode := { s.mode with waitTimer := true } }
  else if s.autoOk && s.curMode == modeVigil && s.mode.timerOn then s.wakeFrom .timer else s

/-- PACER's own changes (R312), always: BURST to SURVEY when the pool is empty or the ceiling is reached, SURVEY to VIGIL when the
headroom is below zero with BUDGET_VIGIL = 1. -/
def State.pacerChange (s : State) : State :=
  let burst := s.curMode == modeBurst && (s.pacer.pool == 0 || s.atCeil)
  let vigil := s.curMode == modeSurvey && s.flag Reg.MODE_POLICY Fld.MODE_POLICY_BUDGET_VIGIL && decide (s.headroomIn modeSurvey < 0)
  if !burst && !vigil && !s.changing then s
  else if s.changing then { s with mode := { s.mode with waitPacer := true } }
  else s.beginChange (if burst then modeSurvey else modeVigil) 4 0 none

/-- The mask of R315 of a MODE_SET with a target (R316). -/
def modeSetMask (target : Nat) : Nat := if target = modeService then 0x16 else if target = modeBurst then 0x0E else 0x1E

/-- MODE_SET as it is taken up (R315, R316). -/
def State.modeSetNow (s : State) (src : CmdSrc) (tag target : Nat) : State :=
  let cur := s.curMode
  if !bitAt (modeSetMask target) cur then
    s.settle src opModeSet tag { status := stState, detail := cur, result := [(modeSetMask target : Int)] }
  else if target = cur then s.settle src opModeSet tag { status := stOk, result := [(cur : Int)] }
  else if target = modeBurst ∧ s.burstRefusal ≠ 0 then
    (s.raise Reg.PACER_STAT Fld.PACER_STAT_DENIED_S).settle src opModeSet tag
      { status := stRefused, detail := 8, result := [(cur : Int), s.burstRefusal] }
  else (s.beginChange target 1 0 (some (src, tag))).accept src opModeSet tag 0

/-- SAFE_EXIT as it is taken up (R315, R317): refused while a cause of SAFE is active. -/
def State.safeExitNow (s : State) (src : CmdSrc) (tag target : Nat) : State :=
  let cur := s.curMode
  if cur ≠ modeSafe then s.settle src opSafeExit tag { status := stState, detail := cur, result := [(0x20 : Int)] }
  else if s.reg Reg.SAF_CAUSE ≠ 0 then s.settle src opSafeExit tag { status := stRefused, detail := 9, result := [(cur : Int)] }
  else (s.settle src opSafeExit tag { status := stOk, result := [(target : Int)] }).beginChange target 1 0 none

/-- MODE_SET or SAFE_EXIT is taken up. -/
def State.modeCmdNow (s : State) (src : CmdSrc) (tag target : Nat) (exit : Bool) : State :=
  if exit then s.safeExitNow src tag target else s.modeSetNow src tag target

/-- MODE_SET or SAFE_EXIT (R313): during a change it waits. -/
def State.requestMode (s : State) (src : CmdSrc) (tag target : Nat) (exit : Bool) : State :=
  if s.changing then
    { s with mode := { s.mode with waitCmd := s.mode.waitCmd ++ [(src, tag, target, exit)] } }.accept src
      (if exit then opSafeExit else opModeSet) tag 0
  else s.modeCmdNow src tag target exit

/-- Take up the commands that wait, until one of them starts a change (R313). -/
def takeCmds : List (CmdSrc × Nat × Nat × Bool) → State → State
  | [], s => { s with mode := { s.mode with waitCmd := [] } }
  | (src, tag, target, exit) :: l, s =>
    let s := s.modeCmdNow src tag target exit
    if s.changing then { s with mode := { s.mode with waitCmd := l } } else takeCmds l s

/-- The state of trigger `n`. -/
def State.trigU (s : State) (n : Nat) : TrigState := Store.get (fun _ => {}) s.trig n

/-- Whether a cause at the wake gate persists (R338): a WAKE trigger for SURVEY_IDLE and a BURST trigger for BURST_HOLD after its latest
raise, the mode timer until its ON interval ends. -/
def State.persists (s : State) (c : GateCause) : Bool :=
  let lasts := fun (t : Nat) (f : Field) => match (s.trigU t).latest with
    | some at_ => decide (s.time.toNat < at_.toNat + secTime (s.fld Reg.MODE_POLICY f))
    | none => false
  match c with
  | .wake t => lasts t Fld.MODE_POLICY_SURVEY_IDLE
  | .burst t => lasts t Fld.MODE_POLICY_BURST_HOLD
  | .timer => s.mode.timerOn

/-- The BURST trigger that waits for the change to complete, or that has waited at the wake gate, which SURVEY has not (R338). -/
def State.burstWaiting (s : State) : Option Nat :=
  let atGate := (s.mode.gate.filter s.persists).findSome? (fun c => match c with | .burst t => some t | _ => none)
  s.mode.waitBurst.orElse fun _ => if s.curMode = modeSurvey then atGate else none

/-- The causes that waited for a change to complete are taken up in the order of R313: MODE_SET, BURST triggers, WAKE triggers,
the mode timer, PACER. What no longer applies is dropped; only in VIGIL is there a gate to wait at. -/
def State.takeWaiting (s : State) : State :=
  let s := takeCmds s.mode.waitCmd s
  let s := if s.changing then s else
    let w := s.burstWaiting
    let s := { s with mode := { s.mode with waitBurst := none, gate := if s.curMode = modeVigil then s.mode.gate else [] } }
    match w with | some t => s.burstTrigger t | none => s
  let s := if s.changing then s else
    let w := s.mode.waitWake
    let s := { s with mode := { s.mode with waitWake := none } }
    match w with | some t => s.wakeTrigger t | none => s
  let s := if s.changing then s else
    let w := s.mode.waitTimer
    let s := { s with mode := { s.mode with waitTimer := false } }
    if w then s.timerWake else s
  if s.changing then s else
    let w := s.mode.waitPacer
    let s := { s with mode := { s.mode with waitPacer := false } }
    if w then s.pacerChange else s

/-- SMON asks for SAFE (R313): it does not wait; the change in progress takes SAFE as its target, and its MODE_SET is refused. A
change out of SAFE that has not reached its instant is complete with that, and what has waited for it is taken up. -/
def State.safeRequest (s : State) : State :=
  let s := match s.mode.cmd with
    | some (src, tag) => s.settle src opModeSet tag { status := stRefused, detail := 9, result := [(modeSafe : Int)] }
    | none => s
  let phase := s.mode.phase
  let m := { s.mode with cmd := none, next := none, gate := [], cause := 5, trig := 0 }
  if s.curMode != modeSafe then
    ({ s with mode := { m with phase := .waiting } }.raise Reg.MODE_STAT Fld.MODE_STAT_BUSY).setFld Reg.MODE_STAT
      Fld.MODE_STAT_TARGET modeSafe
  else if phase == .waiting then
    (({ s with mode := { m with phase := .none } }.clear Reg.MODE_STAT Fld.MODE_STAT_BUSY).setFld Reg.MODE_STAT
      Fld.MODE_STAT_TARGET modeSafe).takeWaiting
  else { s with mode := m }

end Sys2Proof.Machine
end

