-- ==== Sys2Proof/Machine/Triggers.lean ====
section
/-!
DEFINITION. Triggers and snapshots that they arm (R312, R376 to R378, R413, R433), start-unit events (R168), and excitation ends.
-/
namespace Sys2Proof.Machine

/-! ### Snapshots -/

/-- SNP_STAT.PEND and SNP_NEXT follow the armed snapshots (R381). -/
def State.showPending (s : State) : State :=
  let n := s.snp.length
  let s := s.setFld Reg.SNP_STAT Fld.SNP_STAT_PEND n
  match (s.snp.map (fun p => p.t.toNat)).min? with
  | some t => s.setPair Reg.SNP_NEXT_LO Reg.SNP_NEXT_HI t
  | none => s.setPair Reg.SNP_NEXT_LO Reg.SNP_NEXT_HI 0

/-- A snapshot is missed (R378): cause 0 LATE, 1 FULL, 2 STEP. -/
def State.missSnapshot (s : State) (p : SnapPend) (cause : Nat) : State :=
  ((s.raise Reg.SNP_STAT Fld.SNP_STAT_MISSED_S).count Reg.SNP_MISS_CNT word32).emit 0x0451 0xFF [p.id, p.origin, p.t.toNat, cause]

/-- Arm a snapshot on this device (R378): a late one or a fifth one is missed. -/
def State.armSnapshot (s : State) (p : SnapPend) : State :=
  if p.t.toNat < s.time.toNat then s.missSnapshot p 0
  else if s.snp.length ≥ 4 then s.missSnapshot p 1
  else { s with snp := s.snp ++ [p] }.showPending

/-- The least lead of a snapshot in fabric time (R376): 50 µs for each hop of ECC. -/
def State.snapLead (s : State) : Nat := usTime (50 * s.fld Reg.FAB_STAT Fld.FAB_STAT_ECC)

/-- A STARTER arms a snapshot (R378); a second one with the same ID and origin is ignored. -/
def State.takeStarter (s : State) (p : SnapPend) : State :=
  if s.snpSeen.contains (p.id, p.origin) then s else { s with snpSeen := s.snpSeen ++ [(p.id, p.origin)] }.armSnapshot p

/-- Broadcast STARTER and arm on this device too (R376). -/
def State.broadcastStarter (s : State) (p : SnapPend) : State :=
  ((s.put (.packet 0xFFF "STARTER" [(p.t.toNat : Int), p.id, p.origin])).broadcast ptStarter 1).takeStarter p

/-! ### Starts of excitation -/

/-- The present MODE of a driver: OFF while SHUTDOWN holds it off (R47). -/
def State.excMode (s : State) (k : Nat) : Nat :=
  if s.flag (Reg.EXC_STAT k) Fld.EXC_STAT_SHUTDOWN then 0 else s.fld (Reg.EXC_CTRL k) Fld.EXC_CTRL_MODE

/-- A start of a pluck or sweep arrives (R42, R44): it waits for the next base-sample boundary, or is dropped and counted where one is in
progress up to its mute end. A second start that arrives before that boundary is dropped too (log entry 79, DEDUCED). -/
def State.excRequest (s : State) (k : Nat) : State :=
  if s.excMode k != 3 && s.excMode k != 4 then s
  else if s.flag (Reg.EXC_STAT k) Fld.EXC_STAT_BUSY || (s.excU k).req then s.count (Reg.EXC_STAT k) Fld.EXC_STAT_DROP_CNT
  else s.setExc k { s.excU k with req := true }

/-- A trigger starts every driver whose SRC is TRIGGER and whose TRIG names it (R44). -/
def State.triggerExc (s : State) (num : Nat) : State :=
  (List.range 16).foldl (fun s k =>
    if hasExc s.fac.variant k && s.fld (Reg.EXC_VW k) Fld.EXC_VW_SRC == 2 && s.fld (Reg.EXC_VW k) Fld.EXC_VW_TRIG == num then
      s.excRequest k
    else s) s

/-! ### Triggers -/

/-- The state with trigger `n` replaced. -/
def State.setTrig (s : State) (n : Nat) (t : TrigState) : State := { s with trig := Store.set (fun _ => {}) s.trig n t }

/-- A trigger is raised by an event at fabric time `t` (R44, R180, R312, R376, R433): it goes to the nodes and the drivers that wait for it,
and its action is applied. The snapshot ID of a trigger is not given by the spec: it is free. -/
def State.raiseTrigger (s : State) (tr : Trigger) (t : Time) : State :=
  let s := s.setTrig tr.num { s.trigU tr.num with raised := true, latest := some s.time, expired := 0 }
  let s := (s.feedEvent (.trigger tr.num) t).triggerExc tr.num
  match tr.action with
  | 1 => { s with mode := { s.mode with lastWake := some s.time } }.wakeTrigger tr.num
  | 2 => { s with mode := { s.mode with lastBurst := some s.time } }.burstTrigger tr.num
  | 3 =>
    let p := s.freeNat 16
    let want := t.toNat + usTime tr.lead
    let least := s.time.toNat + s.snapLead
    p.2.broadcastStarter { t := BitVec.ofNat 64 (max want least), id := p.1, origin := s.ownAddr }
  | _ => s

/-- An event of a source (R413: 0 node, 1 window monitor, 2 hit comparator, 3 SYNC_IN, 4 mode timer) raises every trigger that
names it. -/
def State.offerTrigger (s : State) (source index : Nat) (t : Time) : State :=
  (s.triggers.filter (fun tr => tr.source == source && (tr.index == index || source ≥ 3))).foldl
    (fun s tr => s.raiseTrigger tr t) s

/-- The source's clear releases the triggers that name it (R433). -/
def State.releaseSource (s : State) (source index : Nat) : State :=
  (s.triggers.filter (fun tr => tr.source == source && tr.index == index)).foldl
    (fun s tr => s.setTrig tr.num { s.trigU tr.num with raised := false }) s

/-- Whether a node's last frame was a placeholder, for the triggers that name it (R433). -/
def State.noteFrame (s : State) (node : Nat) (gap : Bool) : State :=
  (s.triggers.filter (fun tr => tr.source == 0 && tr.index == node)).foldl
    (fun s tr => s.setTrig tr.num { s.trigU tr.num with gapFrame := gap }) s

/-! ### Start-unit events -/

/-- How many instants PHASE + j × PERIOD ms since the epoch have come by fabric time `t` (R44, R168): j of the latest. -/
def periodIndex (phase per : Nat) (t : Time) : Int := ((t.toNat : Int) * 1000 - phase * 2 ^ 32).fdiv (per * 2 ^ 32)

/-- Offer an event to one start unit (R168). -/
def State.offerStartTo (s : State) (n : Nat) (t : Time) : State :=
  s.setStart n { s.startU n with offers := (s.startU n).offers ++ [t] }

/-- Offer an event of a source (the SRC codes of R168) to every start unit armed for it. -/
def State.offerStart (s : State) (src index : Nat) (t : Time) : State :=
  (List.range 8).foldl (fun s n =>
    let a := Reg.WCH_ST_CFG n
    if hasWch s.fac.variant n && s.fld a Fld.WCH_ST_CFG_SRC == src && (src == 2 || s.fld a Fld.WCH_ST_CFG_SRC_IDX == index) &&
        s.fld a Fld.WCH_ST_CFG_CH_MASK != 0 then
      s.offerStartTo n t
    else s) s

/-- EXCk_END at a driver's release is offered to graph nodes and start units (R45, R168). -/
def State.offerExcEnd (s : State) (k : Nat) : State :=
  let t := (s.excU k).release
  (s.feedEvent (.excEnd k) t).offerStart 6 k t

/-- A node raises trigger `num` (R219, R231): the trigger's action, and for FMASK an event for the start units armed for it (R168). -/
def State.nodeRaises (s : State) (num : Nat) (t : Time) (mask : Bool) : State :=
  let s := (s.triggers.filter (fun tr => tr.num == num)).foldl (fun (s : State) (tr : Trigger) => s.raiseTrigger tr t) s
  if mask then s.offerStart 5 num t else s

/-- A node releases trigger `num` (R433). -/
def State.nodeFrees (s : State) (num : Nat) : State := s.setTrig num { s.trigU num with raised := false }

end Sys2Proof.Machine
end

