-- ==== Sys2Proof/Machine/Smon.lean ====
section
/-!
DEFINITION. The safety monitor's operations (R424 to R434): causes and entry to SAFE, the verification of channels, and the levels
of the alarm outputs.
-/
namespace Sys2Proof.Machine

/-! ### Causes and entry to SAFE -/

/-- Whether cause `c` of R428 is active. -/
def State.causeActive (s : State) (c : Nat) : Bool := s.regBit Reg.SAF_CAUSE c

/-- What SAF_STAT reads back (R430, R446): SAFE_N and the alarm outputs as driven, but for a ball that reads otherwise. -/
def State.showBalls (s : State) : State :=
  let rd := fun (ball : Nat) (driven : Bool) => match s.smon.badBall with
    | some (b, l) => if b = ball then l else driven
    | none => driven
  let s := s.setFld Reg.SAF_STAT Fld.SAF_STAT_SAFE_N_RD (bit (rd 4 (!s.smon.safeNLow)))
  let alm := fun n => bit (rd n (!s.flag (Reg.SAF_ALM_STAT n) Fld.SAF_ALM_STAT_LEVEL))
  s.setFld Reg.SAF_STAT Fld.SAF_STAT_ALM_RD (alm 0 + 2 * alm 1 + 4 * alm 2 + 8 * alm 3)

/-- Drive SAFE_N. -/
def State.driveSafeN (s : State) (low : Bool) : State := { s with smon := { s.smon with safeNLow := low } }.showBalls

/-- SMON enters SAFE (R429) for cause `c`: SAFE_N low, the mode change, SAFE_ENTER. In SAFE a further cause adds nothing, but it
keeps the device from leaving (R432). -/
def State.enterSafe (s : State) (c rule unit : Nat) : State :=
  if s.smon.inSafe then (if s.mode.phase == .waiting && s.curMode == modeSafe then s.safeRequest else s) else
  let prev := s.curMode
  let s := { s with smon := { s.smon with inSafe := true, safeEntry := s.time } }.driveSafeN true
  let s := (s.raise Reg.SAF_STAT Fld.SAF_STAT_ENTER_S).count Reg.SAF_CNT word32
  s.safeRequest.emit 0x0500 0 [c, rule, unit, prev]

/-- A cause becomes active (R428). TEST (14) is never active after entry. -/
def State.raiseCause (s : State) (c rule unit : Nat) : State :=
  let s := s.setBit Reg.SAF_CAUSE_S c true
  if c = 14 then s.enterSafe c rule unit
  else if s.causeActive c then s
  else (s.setBit Reg.SAF_CAUSE c true).enterSafe c rule unit

/-- A cause is no longer active. -/
def State.dropCause (s : State) (c : Nat) : State := s.setBit Reg.SAF_CAUSE c false

/-! ### Channel sets -/

/-- Channel `n` as SMON sees it: 0 to 63 the P-channels, 64 to 71 the W-channels. -/
def State.trustU (s : State) (n : Nat) : ChanTrust := Store.get (fun _ => {}) s.trust n
/-- The state with SMON's view of a channel replaced. -/
def State.setTrust (s : State) (n : Nat) (t : ChanTrust) : State := { s with trust := Store.set (fun _ => {}) s.trust n t }

/-- Whether a channel belongs to the set of alarm output `a` (R433). -/
def State.inAlarm (s : State) (a n : Nat) : Bool :=
  if n < 32 then s.regBit (Reg.SAF_ALM_CH0 a) n
  else if n < 64 then s.regBit (Reg.SAF_ALM_CH1 a) (n - 32)
  else bitAt (s.fld (Reg.SAF_ALM_CFG a) Fld.SAF_ALM_CFG_WSET) (n - 64)

/-- Whether alarm output `a` is enabled. -/
def State.alarmOn (s : State) (a : Nat) : Bool := s.flag (Reg.SAF_ALM_CFG a) Fld.SAF_ALM_CFG_EN

/-- Whether a channel is present. -/
def State.chanPresent (s : State) (n : Nat) : Bool := if n < 64 then hasPch s.fac.variant n else hasWch s.fac.variant (n - 64)

/-- Whether a channel is a safety channel (R425). -/
def State.isSafety (s : State) (n : Nat) : Bool :=
  s.chanPresent n && (List.range 4).any (fun a => s.alarmOn a && s.inAlarm a n)

/-- SAF_SET0, SAF_SET1 and SAF_W.SET show the safety channels (R425). -/
def State.showSets (s : State) : State :=
  let bits := fun (from_ n : Nat) => ((List.range n).map (fun j => 2 ^ j * bit (s.isSafety (from_ + j)))).foldl (· + ·) 0
  ((s.setReg Reg.SAF_SET0 (BitVec.ofNat 32 (bits 0 32))).setReg Reg.SAF_SET1 (BitVec.ofNat 32 (bits 32 32))).setFld Reg.SAF_W
    Fld.SAF_W_SET (bits 64 8)

/-- Whether an enabled alarm output names trigger `t`. -/
def State.alarmTrigger (s : State) (a : Nat) (source index : Nat) : Bool :=
  s.triggers.any (fun tr => tr.source == source && tr.index == index &&
    (tr.num == s.fld (Reg.SAF_ALM_CFG a) Fld.SAF_ALM_CFG_TRIG_A || tr.num == s.fld (Reg.SAF_ALM_CFG a) Fld.SAF_ALM_CFG_TRIG_B))

/-- Whether the channel's alarm uses its window monitor (R426): through WM_STATE, or through a trigger that names the monitor. -/
def State.usesWm (s : State) (n : Nat) : Bool :=
  (List.range 4).any (fun a => s.alarmOn a &&
    (s.inAlarm a n && s.fld (Reg.SAF_ALM_CFG a) Fld.SAF_ALM_CFG_WM_STATE != 0 || s.alarmTrigger a 1 n))

/-- Whether an alarm output uses hit comparator `h`, through a trigger (R426). -/
def State.usesHc (s : State) (h : Nat) : Bool := (List.range 4).any (fun a => s.alarmOn a && s.alarmTrigger a 2 h)

/-! ### Verification -/

/-- The rows of the table of R426 that hold for a channel, 1 to 11 in its order. -/
def State.conditions (s : State) (n : Nat) : List Nat :=
  let t := s.trustU n
  if n < 64 then
    let m := n / 8
    let chk := Reg.CHK_CH_STAT m (n % 8)
    let e := s.fld (Reg.PCH_CFG n) Fld.PCH_CFG_EXCSEL
    (if s.flag (Reg.PCH_CONV_STAT n) Fld.PCH_CONV_STAT_FAULT then [1] else []) ++
    (if s.flag (Reg.PCH_CONV_STAT n) Fld.PCH_CONV_STAT_UNCHK then [2] else []) ++
    (if s.flag chk Fld.CHK_CH_STAT_FAULT then [3] else []) ++
    (if s.flag chk Fld.CHK_CH_STAT_UNCHK then [4] else []) ++
    (if s.flag (Reg.PCH_STAT n) Fld.PCH_STAT_OPEN_P || s.flag (Reg.PCH_STAT n) Fld.PCH_STAT_OPEN_N then [5] else []) ++
    (if s.flag (Reg.BANK_STAT m) Fld.BANK_STAT_REF_FAULT then [6] else []) ++
    (if (e == 1 || e == 2) && (s.excU (2 * m + e - 1)).held != 0 then [7] else []) ++
    (if t.wmFailed || s.flag (Reg.WM_STAT n) Fld.WM_STAT_UNTESTED then [8] else []) ++
    (if (s.calE (calKeyP n (s.gainOf n))).poison then [9] else []) ++
    (if t.poison.any id then [10] else []) ++
    (if s.flag (Reg.PCH_CFG n) Fld.PCH_CFG_INSEL then [11] else [])
  else
    let w := n - 64
    (if t.wmFailed || t.hcFailed || s.flag (Reg.WM_STAT n) Fld.WM_STAT_UNTESTED || s.flag (Reg.HC_STAT w) Fld.HC_STAT_UNTESTED
      then [8] else []) ++
    (if (s.calE (calKeyW w (s.fld (Reg.WCH_CFG w) Fld.WCH_CFG_GAIN))).poison then [9] else []) ++
    (if t.poison.any id then [10] else [])

/-- The rows that hold only through a field that SERVICE alone may set (R428). -/
def State.serviceOnly (s : State) (n row : Nat) : Bool :=
  let t := s.trustU n
  match row with
  | 2 => s.fld (Reg.PCH_FUS_CFG n) Fld.PCH_FUS_CFG_PL_EN == 0
  | 4 => !s.regBit (Reg.BANK_CFG (n / 8)) (n % 8)
  | 8 => !t.wmFailed && !t.hcFailed && !s.flag Reg.CMP_STCFG Fld.CMP_STCFG_EN
  | 11 => true
  | _ => false

/-- What a PENDING channel must meet to become VERIFIED (R426). -/
def State.meets (s : State) (n : Nat) : Bool :=
  let t := s.trustU n
  if n < 64 then t.agreed && (!s.usesWm n || t.wmTested)
  else (!s.usesWm n || t.wmTested) && (!s.usesHc (n - 64) || t.hcTested)

/-- A set of rows as bits. -/
def rowBits (rows : List Nat) : Nat := rows.foldl (fun m r => m ||| 2 ^ r) 0

/-- SAF_VER0, SAF_VER1 and SAF_W.VER show whether a channel is VERIFIED. -/
def State.showVerified (s : State) (n : Nat) (b : Bool) : State :=
  if n < 32 then s.setBit Reg.SAF_VER0 n b else if n < 64 then s.setBit Reg.SAF_VER1 (n - 32) b else s.setBit Reg.SAF_W (n - 64) b

/-- Judge one channel (R426): the rows that hold, its state, the records of a transition. A channel that has never met the
condition of PENDING returns to PENDING when no row holds any longer. -/
def State.judge (s : State) (n : Nat) : State :=
  if !s.smon.running || !s.chanPresent n then s else
  let rows := s.conditions n
  let t := s.trustU n
  let met := t.met || s.meets n
  let svc := if s.inService then rowBits (rows.filter (s.serviceOnly n)) else 0
  let now := if rows.isEmpty then (if met then Trust.verified else Trust.pending) else Trust.unverified
  let s := s.setTrust n { t with trust := now, met := met, excepted := (t.excepted ||| svc) &&& rowBits rows }
  if now = t.trust then s
  else match now with
    | .unverified => (s.showVerified n false).emit 0x0503 n [n, rows.headD 0]
    | .verified => (s.showVerified n true).emit 0x0504 n [n]
    | .pending => s.showVerified n false

/-- Whether a channel makes CHANNEL active (R428): a safety channel that is UNVERIFIED not only through fields of SERVICE. -/
def State.countsUnverified (s : State) (n : Nat) : Bool :=
  s.isSafety n && (s.trustU n).trust == .unverified && rowBits (s.conditions n) != (s.trustU n).excepted

/-- The CHANNEL cause (R428): active from a safety channel's loss of trust until no safety channel is UNVERIFIED. -/
def State.judgeChannelCause (s : State) : State :=
  if s.causeActive 0 then
    if (List.range 72).any (fun n => s.isSafety n && (s.trustU n).trust == .unverified) then s else s.dropCause 0
  else match (List.range 72).find? s.countsUnverified with
    | some n => s.raiseCause 0 426 n
    | none => s

/-- A P-channel is judged again. -/
def State.verifyP (s : State) (n : Nat) : State := if s.smon.running then (s.judge n).judgeChannelCause else s

/-- A W-channel is judged again. -/
def State.verifyW (s : State) (n : Nat) : State := if s.smon.running then (s.judge (64 + n)).judgeChannelCause else s

/-- Every channel is judged again, after the alarm outputs' sets have changed or SERVICE has been entered or left. -/
def State.verifyAll (s : State) : State :=
  if s.smon.running then ((List.range 72).foldl (fun s n => s.judge n) s).judgeChannelCause else s

/-- The channel of window monitor `i` is judged again: both are numbered alike. -/
def State.verifyWm (s : State) (i : Nat) : State := s.verifyP i

/-- The end of a P-channel's first AGREE slot (R426). -/
def State.firstAgree (s : State) (n : Nat) : State := s.setTrust n { s.trustU n with agreed := true }

/-- Whether the newest output of filter chain `src` carries POISON (R426). -/
def State.setTrustPoison (s : State) (n src : Nat) (b : Bool) : State :=
  s.setTrust n { s.trustU n with poison := (s.trustU n).poison.set src b }

/-- A comparator unit (0 to 71 WM, 72 to 79 HC) has completed a self-test (R166, R426). -/
def State.compTested (s : State) (u : Nat) (pass : Bool) : State :=
  if u < 72 then
    let t := s.trustU u
    (s.setTrust u { t with wmTested := t.wmTested || pass || u < 64, wmFailed := !pass }).verifyP u
  else
    let t := s.trustU (u - 8)
    (s.setTrust (u - 8) { t with hcTested := t.hcTested || pass, hcFailed := !pass }).verifyP (u - 8)

/-- A comparator unit has become UNTESTED (R166, R426). -/
def State.compUntrusted (s : State) (u : Nat) : State := s.verifyP (if u < 72 then u else u - 8)

/-! ### Alarm outputs -/

/-- Whether a monitor's state is one that WM_STATE names (R433). -/
def wmNamed (sel state : Nat) : Bool := (state == 2 && (sel == 1 || sel == 3)) || (state == 3 && (sel == 2 || sel == 3))

/-- Whether trigger `t` counts as raised for alarm output `a` (R433). -/
def State.trigActive (s : State) (a t : Nat) : Bool :=
  t != 0xFF && (s.trigU t).raised && !bitAt (s.trigU t).expired a

/-- The channel whose monitor is in a state that WM_STATE names, or else the raised trigger, that makes src of R433, before the least
assertion time; none while src is inactive. -/
def State.alarmSource (s : State) (a : Nat) : Option Nat :=
  let cfg := s.reg (Reg.SAF_ALM_CFG a)
  let sel := getField Fld.SAF_ALM_CFG_WM_STATE cfg
  match (List.range 72).find? (fun n => s.chanPresent n && s.inAlarm a n && wmNamed sel (s.fld (Reg.WM_STAT n) Fld.WM_STAT_STATE)) with
  | some n => some n
  | none => [getField Fld.SAF_ALM_CFG_TRIG_A cfg, getField Fld.SAF_ALM_CFG_TRIG_B cfg].find? (s.trigActive a)

/-- The channel or trigger whose loss of trust is fault of R433, if any. -/
def State.alarmFault (s : State) (a : Nat) : Option Nat :=
  let cfg := s.reg (Reg.SAF_ALM_CFG a)
  let gap := fun (t : Nat) => t != 0xFF && (s.trigU t).gapFrame
  match (List.range 72).find? (fun n => s.chanPresent n && s.inAlarm a n && (s.trustU n).trust != .verified) with
  | some n => some n
  | none =>
    if gap (getField Fld.SAF_ALM_CFG_TRIG_A cfg) then some (getField Fld.SAF_ALM_CFG_TRIG_A cfg)
    else if gap (getField Fld.SAF_ALM_CFG_TRIG_B cfg) then some (getField Fld.SAF_ALM_CFG_TRIG_B cfg)
    else none

/-- An alarm output takes a level and reason (R433): a change of level writes ALARM and counts. -/
def State.setAlarm (s : State) (a : Nat) (level : Bool) (reason : Nat) (what : Nat) : State :=
  let was := s.flag (Reg.SAF_ALM_STAT a) Fld.SAF_ALM_STAT_LEVEL
  let s := s.setFld (Reg.SAF_ALM_STAT a) Fld.SAF_ALM_STAT_LEVEL (bit level)
  let s := s.setFld (Reg.SAF_ALM_STAT a) Fld.SAF_ALM_STAT_REASON reason
  if was == level then s
  else ((s.count (Reg.SAF_ALM_STAT a) Fld.SAF_ALM_STAT_COUNT).emit 0x0502 a [a, bit level, reason, what]).showBalls

/-- Alarm output `a` beyond its registers. -/
def State.alarmU (s : State) (a : Nat) : AlarmUnit := Store.get (fun _ => {}) s.alarm a
/-- The state with alarm output `a` replaced. -/
def State.setAlarmU (s : State) (a : Nat) (x : AlarmUnit) : State := { s with alarm := Store.set (fun _ => {}) s.alarm a x }

/-- One evaluation of an alarm output (R430, R433): `inSafe` from the report of R429 on. While SMON's copies disagree every output is
asserted; while a readback mismatch is active, every output but the one that mismatches. ALARM names the channel or trigger of its
reason, 0xFF where there is none (log entry 110, DESIGN CHOICE). -/
def State.evaluateAlarm (s : State) (a : Nat) : State :=
  let cfg := s.reg (Reg.SAF_ALM_CFG a)
  let x := s.alarmU a
  let by_ := s.alarmSource a
  let raw := by_.isSome
  let until_ := if raw && !x.src then s.time + BitVec.ofNat 64 (msTime (s.fld (Reg.SAF_ALM_HOLD a) Fld.SAF_ALM_HOLD_HOLD)) else x.until_
  let src := raw || decide (s.time.toNat < until_.toNat)
  let s := s.setAlarmU a { src := raw, until_ := until_ }
  let latched := s.flag (Reg.SAF_ALM_STAT a) Fld.SAF_ALM_STAT_LATCHED
  let other := s.causeActive 11 && s.smon.badBall.map (·.1) != some a
  let s := if other || s.causeActive 12 then s.setAlarm a true 3 0xFF
    else if getField Fld.SAF_ALM_CFG_EN cfg = 0 then s.setAlarm a false 0 0xFF
    else if bitAt (s.fld Reg.SAF_FORCE Fld.SAF_FORCE_ALM) a then s.setAlarm a true 3 0xFF
    else if s.smon.inSafe && getField Fld.SAF_ALM_CFG_SAFE_ACT cfg == 1 then s.setAlarm a true 3 0xFF
    else match s.alarmFault a with
      | some n => if getField Fld.SAF_ALM_CFG_FAULT_ACT cfg = 0 then s.setAlarm a true 2 n else s
      | none =>
        if src || latched then s.setAlarm a true 1 (by_.getD 0xFF) else s.setAlarm a false 0 0xFF
  if src && getField Fld.SAF_ALM_CFG_LATCH cfg == 1 then s.raise (Reg.SAF_ALM_STAT a) Fld.SAF_ALM_STAT_LATCHED else s
end Sys2Proof.Machine
end

