-- ==== Sys2Proof/Machine/Inputs.lean ====
section
/-!
DEFINITION. Precision inputs, gain and excitation (R18 to R50): the front end's comparators, PCH_CFG and its changes, and the
excitation drivers.
-/
namespace Sys2Proof.Machine

/-! ### P-channels -/

/-- The driver that a channel names in the setting in force (R38, R40, R45). -/
def State.driverOf (s : State) (n : Nat) : Option Nat :=
  let e := getField Fld.PCH_CFG_EXCSEL (s.pchU n).inForce
  if e == 1 || e == 2 then some (2 * (n / 8) + e - 1) else none

/-- Whether a channel names driver `k` in the setting in force. -/
def State.namesDriver (s : State) (n k : Nat) : Bool := s.driverOf n == some k

/-- 100 µs, the mute after a release (R45), have passed since AON cycle `c`. -/
def State.muteOver (s : State) (c : Nat) : Bool := decide (100 * 16384 ≤ (s.cycles - c) * 1000)

/-- A channel is muted from the start of a pulse or burst of the driver it names until the mute end (R45). -/
def State.muted (s : State) (n : Nat) : Bool :=
  s.flag (Reg.PCH_CFG n) Fld.PCH_CFG_MUTE && match s.driverOf n with
    | none => false
    | some k => s.flag (Reg.EXC_STAT k) Fld.EXC_STAT_BUSY && ((s.excU k).running || !s.muteOver (s.excU k).relCyc)

/-- The amplifier inputs are tied to BANKm_AGND and the channel converts zero: INSEL = SHORT in force (R26), or muted (R45). -/
def State.grounded (s : State) (n : Nat) : Bool := getField Fld.PCH_CFG_INSEL (s.pchU n).inForce == 1 || s.muted n

/-- A ball that the channel converts lies beyond the ±4.6 V limit (R20): both balls in DIFF mode, PCHn_P alone in SE_UNI mode, none while
the inputs are switched away from them. -/
def State.pinBeyond (s : State) (n : Nat) : Bool :=
  let c := s.pchU n
  !s.grounded n && (c.beyondP || (c.beyondN && getField Fld.PCH_CFG_MODE c.inForce != 1))

/-- PIN_RANGE follows the balls that the channel converts (R20, R32). -/
def State.pinUpdate (s : State) (n : Nat) : State :=
  let now := s.pinBeyond n
  if now == s.flag (Reg.PCH_STAT n) Fld.PCH_STAT_PIN_RANGE then s else
  let s := s.setPch n { s.pchU n with pinSeen := (s.pchU n).pinSeen || now }
  let s := s.setLive (Reg.PCH_STAT n) Fld.PCH_STAT_PIN_RANGE Fld.PCH_STAT_PINR_S now
  s.emitLimited 0x0111 n n (secTime 1) (!now) (bit now) (fun k => [n, bit now, k])

/-- The channels of driver `k`'s bank show PIN_RANGE again, after a mute has begun or ended. -/
def State.pinUpdateBank (s : State) (k : Nat) : State := (List.range 8).foldl (fun s j => s.pinUpdate (8 * (k / 2) + j)) s

/-- A ball of W-channel `n` crosses the pin limit (R20, R146): its native samples carry OVR. WCH_STAT has no bit for it. -/
def State.wPinRange (s : State) (n : Nat) (ballN beyond : Bool) : State :=
  let w := { s.wchU n with pinSeen := (s.wchU n).pinSeen || beyond }
  s.setWch n (if ballN then { w with beyondN := beyond } else { w with beyondP := beyond })

/-- PIN_RANGE (R20, R32, R146): a ball of P-channel `n`, or from 64 on of W-channel `n` - 64, crosses the ±4.6 V limit. -/
def pinRange (s : State) (n : Nat) (ballN beyond : Bool) : State :=
  if 64 ≤ n then (if hasWch s.fac.variant (n - 64) then s.wPinRange (n - 64) ballN beyond else s)
  else if !hasPch s.fac.variant n then s else
  let c := s.pchU n
  (s.setPch n (if ballN then { c with beyondN := beyond } else { c with beyondP := beyond })).pinUpdate n

/-- INPUT_CLAMP (R21, R32): a clamp starts or stops conducting. Those of W balls show in no bit and no record. -/
def inputClamp (s : State) (n : Nat) (ballN conducts : Bool) : State :=
  if !hasPch s.fac.variant n then s else
  let f := if ballN then Fld.PCH_STAT_CLAMP_N else Fld.PCH_STAT_CLAMP_P
  let was := s.flag (Reg.PCH_STAT n) f
  let s := s.setLive (Reg.PCH_STAT n) f Fld.PCH_STAT_CLAMP_S conducts
  if conducts && !was then
    s.emitLimited 0x0110 n (2 * n + bit ballN) (secTime 1) false 1 (fun k => [n, bit ballN, k])
  else s

/-- The fields of PCH_CFG whose change takes effect at a base-sample boundary (R28). -/
def cfgChangeMask : Word :=
  maskAll [Fld.PCH_CFG_GAIN, Fld.PCH_CFG_MODE, Fld.PCH_CFG_REFSEL, Fld.PCH_CFG_EXCSEL, Fld.PCH_CFG_INSEL]

/-- An open-wire bit of PCH_STAT takes a judgement (R30, R32): each transition writes OPEN_WIRE. -/
def State.openBall (s : State) (n : Nat) (ballN opened : Bool) : State :=
  let f := if ballN then Fld.PCH_STAT_OPEN_N else Fld.PCH_STAT_OPEN_P
  if s.flag (Reg.PCH_STAT n) f == opened then s else
  let s := s.setLive (Reg.PCH_STAT n) f Fld.PCH_STAT_OPEN_S opened
  s.emitLimited 0x0112 n (2 * n + bit ballN) (secTime 1) (!opened) (bit opened) (fun k => [n, bit ballN, bit opened, k])

/-- The current of a ball's open-wire source (R29): none, or OW_I and whether the device sinks it. CONT flows always, SLOT only during the
channel's slot on the bank checker; in SE_UNI mode only PCHn_P carries a source. -/
def State.owSource (s : State) (n : Nat) (ballN : Bool) : Option (Nat × Bool) :=
  let a := Reg.PCH_CFG n
  let mode := s.fld a Fld.PCH_CFG_OW_MODE
  let inSlot := match (s.bankU (n / 8)).cur with
    | some sl => sl.point == n % 8
    | none => false
  let ball := !(ballN && getField Fld.PCH_CFG_MODE (s.pchU n).inForce == 1)
  if ball && (mode == 1 || (mode == 2 && inSlot)) then some (s.fld a Fld.PCH_CFG_OW_I, s.flag a Fld.PCH_CFG_OW_POL) else none

/-- After PCH_CFG has been written: before the first base sample has been passed on, the fields act at once; later a change
waits for its boundary (R28). With OW_MODE = OFF, OPEN_P and OPEN_N read 0 (R30). -/
def pchCfgWritten (s : State) (n : Nat) : State :=
  let w := s.reg (Reg.PCH_CFG n)
  let c := s.pchU n
  let s := if !c.passed then s.setPch n { c with inForce := w }
    else s.setPch n { c with inForce := (c.inForce &&& cfgChangeMask) ||| (w &&& ~~~cfgChangeMask),
                             change := c.inForce &&& cfgChangeMask != w &&& cfgChangeMask }
  let s := if getField Fld.PCH_CFG_OW_MODE w = 0 then (s.openBall n false false).openBall n true false else s
  (s.pinUpdate n).verifyP n

/-- PCH_CFG as a write finds it valid or not (R25 to R30, R38): reserved encodings, SHORT outside SERVICE, and RATIO with no
driver named, whose two fields are one relation (R27): it is judged by what the two fields would hold, a reserved encoding leaving its
field as it is. -/
def pchCfgReject (service : Bool) (old v : Word) : Word :=
  let excsel := getField Fld.PCH_CFG_EXCSEL v
  let refsel := getField Fld.PCH_CFG_REFSEL v
  let excsel' := if excsel = 3 then getField Fld.PCH_CFG_EXCSEL old else excsel
  let refsel' := if refsel ≥ 2 then getField Fld.PCH_CFG_REFSEL old else refsel
  let broken := refsel' == 1 && excsel' == 0
  rejectIf (getField Fld.PCH_CFG_MODE v ≥ 2) Fld.PCH_CFG_MODE |||
  rejectIf (decide (refsel ≥ 2) || broken) Fld.PCH_CFG_REFSEL |||
  rejectIf (excsel == 3 || broken) Fld.PCH_CFG_EXCSEL |||
  rejectIf (getField Fld.PCH_CFG_INSEL v == 1 && !service) Fld.PCH_CFG_INSEL |||
  rejectIf (getField Fld.PCH_CFG_OW_MODE v == 3) Fld.PCH_CFG_OW_MODE

/-- The writable fields of PCH_CFG (R49). -/
def pchCfgMask : Word := 0x1FFCF800

/-- A write of PCH_CFG (R25 to R30, R49). -/
def pchCfgWrite (s : State) (n : Nat) (v : Word) : State :=
  if !hasPch s.fac.variant n then s.writeAbsent n 64 (Reg.PCH_CFG n) else
  let rej := pchCfgReject s.inService (s.reg (Reg.PCH_CFG n)) v
  pchCfgWritten (s.writeJudged (Reg.PCH_CFG n) pchCfgMask rej v (Reg.PCH_STAT n) Fld.PCH_STAT_CFG_REJ) n

/-! ### Excitation drivers -/

/-- The AON cycles since a driver's ramp began have made the 1 ms of R37. -/
def State.rampOver (s : State) (k : Nat) : Bool := decide (16384 ≤ s.cycles - (s.excU k).rampCyc)

/-- The amplitude that a driver regulates to, in 100 µV (R34, R37): the set value it has taken, on the way to it during a ramp. -/
def State.excLevel (s : State) (k : Nat) : Nat :=
  let x := s.excU k
  if s.flag (Reg.EXC_STAT k) Fld.EXC_STAT_RAMP then
    ((x.rampFrom : Int) + ((x.target : Int) - x.rampFrom) * min (s.cycles - x.rampCyc) 16384 / 16384).toNat
  else x.target

/-- The driver takes the set value VSET at once. -/
def State.takeLevel (s : State) (k : Nat) : State :=
  s.setExc k { s.excU k with rampDue := false, target := s.fld (Reg.EXC_LEVEL k) Fld.EXC_LEVEL_VSET }

/-- A ramp to VSET begins at level `from_` (R37). -/
def State.startRamp (s : State) (k from_ : Nat) : State :=
  let s := s.takeLevel k
  (s.setExc k { s.excU k with rampFrom := from_, rampCyc := s.cycles }).raise (Reg.EXC_STAT k) Fld.EXC_STAT_RAMP

/-- The pulse or burst of driver `k` has lasted its time (R42): PWIDTH µs, or SWEEP_MS ms. -/
def State.excLasted (s : State) (k : Nat) : Bool :=
  let ran := s.cycles - (s.excU k).startCyc
  if s.excMode k = 3 then decide (s.fld (Reg.EXC_VW k) Fld.EXC_VW_PWIDTH * 16384 ≤ ran * 1000)
  else decide (s.fld (Reg.EXC_SWEEP1 k) Fld.EXC_SWEEP1_SWEEP_MS * 16384 ≤ ran)

/-- The increment of the sweep's phase accumulator after `cyc` AON cycles of the burst (R43): recomputed every 1024 cycles from
the linear interpolation between F_START and F_STOP over SWEEP_MS ms, in units of round(F × 131.072). -/
def sweepIncrement (fStart fStop ms cyc : Nat) : Nat :=
  let total : Int := 16384 * ms
  let t : Int := cyc / 1024 * 1024
  (roundDiv ((fStart * total + ((fStop : Int) - fStart) * t) * 131072) (1000 * (16384 * ms))).toNat

/-- The sweep's phase accumulator `n` AON cycles after those it holds (R43). -/
def sweepPhase (fStart fStop ms ran acc n : Nat) : Nat :=
  (List.range n).foldl (fun a c => (a + sweepIncrement fStart fStop ms (ran + c)) % 2 ^ 32) acc

/-- The phase accumulator of driver `k` at this AON cycle of its burst (R43). -/
def State.sweepNow (s : State) (k : Nat) : Nat :=
  let x := s.excU k
  sweepPhase (s.fld (Reg.EXC_SWEEP0 k) Fld.EXC_SWEEP0_F_START) (s.fld (Reg.EXC_SWEEP0 k) Fld.EXC_SWEEP0_F_STOP)
    (s.fld (Reg.EXC_SWEEP1 k) Fld.EXC_SWEEP1_SWEEP_MS) x.ran x.phaseAcc (s.cycles - x.startCyc - x.ran)

/-- What a driver forces, in 100 µV, positive from EXCk_FP to EXCk_FN (R36, R39, R42, R43); none is high impedance. In SWEEP the
polarity is the top bit of the phase accumulator. -/
def State.excForce (s : State) (k : Nat) : Option Int :=
  let x := s.excU k
  let v : Int := s.excLevel k
  match s.excMode k with
  | 1 => some v
  | 2 => some (if x.positive then v else -v)
  | 3 => if x.running && !s.excLasted k then some v else none
  | 4 => if x.running && !s.excLasted k then some (if s.sweepNow k < 2 ^ 31 then v else -v) else none
  | _ => none

/-- The release (R42, R45): force goes to high impedance, and EXCk_END is offered to graph nodes and start units. -/
def State.releaseExc (s : State) (k : Nat) : State :=
  (s.setExc k { s.excU k with running := false, release := s.time, relCyc := s.cycles }).offerExcEnd k

/-- Driver `k`'s force outputs are switched off or over to another mode: a start that waits is given up, and the end of a pulse or burst
in progress is its release, from which its mute end and EXC_DONE follow (R42, R45; log entry 80, DEDUCED: the spec does not say so of one
that OVERLOAD or a write of MODE cuts short). -/
def State.cutExc (s : State) (k : Nat) : State :=
  let s := (s.setExc k { s.excU k with req := false, seen := [0, 0, 0, 0, 0] }).takeLevel k
  if (s.excU k).running then s.releaseExc k else s

/-- EXC_CTRL.FIRE written 1 (R44): ignored unless MODE is PLUCK or SWEEP and SRC is FIRE. -/
def excFire (s : State) (k : Nat) : State :=
  if !hasExc s.fac.variant k then s.writeAbsent k 16 (Reg.EXC_CTRL k)
  else if s.fld (Reg.EXC_VW k) Fld.EXC_VW_SRC == 0 then s.excRequest k else s

/-- Both drivers of `k`'s bank are in AC mode: the odd one takes the even one's edges (R39). -/
def State.acTogether (s : State) (k : Nat) : Bool := s.excMode (k / 2 * 2) == 2 && s.excMode (k / 2 * 2 + 1) == 2

/-- The edges of a driver that enters AC mode (R39): its half-period begins at the write, with positive polarity (log entry 116, DESIGN CHOICE),
or it stands where the driver stands with which it shares its edges. -/
def State.enterAc (s : State) (k : Nat) : State :=
  let s := s.setExc k { s.excU k with edgeAge := 0, positive := true }
  if s.acTogether k then
    let e := s.excU (k / 2 * 2)
    s.setExc (k / 2 * 2 + 1) { s.excU (k / 2 * 2 + 1) with edgeAge := e.edgeAge, positive := e.positive }
  else s

/-- A write of EXC_CTRL.MODE (R36, R37, R47): 5 to 7 are reserved; a change from OFF to DC or AC, and a restart after
SHUTDOWN, ramp over 1 ms; a mode that is left gives up its pulse, its burst or its ramp. -/
def excCtrlModeWrite (s : State) (k : Nat) (v : Word) : State :=
  if !hasExc s.fac.variant k then s.writeAbsent k 16 (Reg.EXC_CTRL k) else
  let m := getField Fld.EXC_CTRL_MODE v
  if m ≥ 5 then s.raise (Reg.EXC_STAT k) Fld.EXC_STAT_CFG_REJ else
  let was := s.excMode k
  let s := if m ≠ was then s.cutExc k else s
  let s := s.setFld (Reg.EXC_CTRL k) Fld.EXC_CTRL_MODE m
  let s := if m ≠ 0 then s.clear (Reg.EXC_STAT k) Fld.EXC_STAT_SHUTDOWN else s
  let s := if m = 2 ∧ was ≠ 2 then s.enterAc k else s
  if was == 0 && (m == 1 || m == 2) then s.startRamp k 0
  else if m = 1 ∨ m = 2 then s
  else s.clear (Reg.EXC_STAT k) Fld.EXC_STAT_RAMP

/-- A write of VSET (R35, R37): clamped at 50 000; in DC mode a change ramps now, in AC mode from the next polarity edge. -/
def excLevelWrite (s : State) (k : Nat) (v : Word) : State :=
  if !hasExc s.fac.variant k then s.writeAbsent k 16 (Reg.EXC_LEVEL k) else
  let old := s.fld (Reg.EXC_LEVEL k) Fld.EXC_LEVEL_VSET
  let want := getField Fld.EXC_LEVEL_VSET v
  let new := min want 50000
  let s := s.setFld (Reg.EXC_LEVEL k) Fld.EXC_LEVEL_VSET new
  let s := if want > 50000 then s.raise (Reg.EXC_STAT k) Fld.EXC_STAT_CFG_REJ else s
  if new = old then s
  else if s.excMode k = 1 then s.startRamp k (s.excLevel k)
  else if s.excMode k = 2 then s.setExc k { s.excU k with rampDue := true }
  else s.takeLevel k

/-- The 1 ms ramp ends (R37). -/
def excRampEnd (s : State) (k : Nat) : State :=
  if !hasExc s.fac.variant k || !s.rampOver k then s else s.clear (Reg.EXC_STAT k) Fld.EXC_STAT_RAMP

/-- Turn the polarity of one driver at an edge, and start a ramp that waited for it. -/
def excEdgeOne (s : State) (k : Nat) (positive : Bool) : State :=
  let x := s.excU k
  let s := s.setExc k { x with edgeAge := 0, positive := positive }
  if x.rampDue then s.startRamp k (s.excLevel k) else s

/-- The AON clock stands at a base-sample boundary (R85). -/
def State.atBoundary (s : State) : Bool := s.sinceBase % 64 == 0

/-- The polarity edge of a driver in AC mode falls on the boundary at which its half-period of 2^HDIV base samples is over (R39); with both drivers of a bank in
AC mode, the odd one takes the even one's edges, and has none of its own. -/
def State.excEdge (s : State) (k : Nat) : State :=
  if s.excMode k != 2 || !s.atBoundary || (k % 2 == 1 && s.excMode (k - 1) == 2) ||
      decide ((s.excU k).edgeAge < 2 ^ s.fld (Reg.EXC_AC k) Fld.EXC_AC_HDIV) then s
  else
    let p := !(s.excU k).positive
    let s := excEdgeOne s k p
    if k % 2 = 0 ∧ s.excMode (k + 1) = 2 then excEdgeOne s (k + 1) p else s

/-- EXC_POLARITY_EDGE (R39): after H base samples the polarity reverses. -/
def excPolarityEdge (s : State) (k : Nat) : State := if hasExc s.fac.variant k then s.excEdge k else s

/-- A base sample is due: every polarity edge that falls on its boundary has been taken (R39). -/
def State.takeEdges (s : State) : State := (List.range 16).foldl (fun s k => excPolarityEdge s k) s

/-- A write of EXC_VW, EXC_PER or EXC_PHASE has committed: the start timer's next instant comes after it (R44). -/
def State.excTimerWritten (s : State) (k : Nat) : State := s.setExc k { s.excU k with perFrom := s.time }

/-- The fabric-aligned start timer reaches PHASE + j × PERIOD ms (R44). -/
def excPeriodTimer (s : State) (k : Nat) : State :=
  let phase := s.fld (Reg.EXC_PHASE k) Fld.EXC_PHASE_PHASE
  let per := s.fld (Reg.EXC_PER k) Fld.EXC_PER_PERIOD
  if !hasExc s.fac.variant k || s.fld (Reg.EXC_VW k) Fld.EXC_VW_SRC != 1 || per == 0 ||
      decide (periodIndex phase per s.time ≤ periodIndex phase per (s.excU k).perFrom) then s
  else (s.setExc k { s.excU k with perFrom := s.time }).excRequest k

/-- A requested start at a base-sample boundary (R42, R45): the pulse or burst begins, and its channels are muted. -/
def excStart (s : State) (k : Nat) : State :=
  if !hasExc s.fac.variant k || !(s.excU k).req || !s.atBoundary then s
  else if s.excMode k != 3 && s.excMode k != 4 then s.setExc k { s.excU k with req := false }
  else
    let s := s.setExc k { s.excU k with req := false, running := true, start := s.time, startCyc := s.cycles, ran := 0, phaseAcc := 0 }
    (s.raise (Reg.EXC_STAT k) Fld.EXC_STAT_BUSY).pinUpdateBank k

/-- EXC_RELEASE (R42, R45): the pulse or burst has lasted its time. -/
def excRelease (s : State) (k : Nat) : State :=
  if !hasExc s.fac.variant k || !(s.excU k).running || !s.excLasted k then s else s.releaseExc k

/-- The mute end, 100 µs after the release (R44, R45). -/
def excDone (s : State) (k : Nat) : State :=
  let x := s.excU k
  if !hasExc s.fac.variant k || x.running || !s.flag (Reg.EXC_STAT k) Fld.EXC_STAT_BUSY || !s.muteOver x.relCyc then s
  else ((s.clear (Reg.EXC_STAT k) Fld.EXC_STAT_BUSY).pinUpdateBank k).emit 0x0119 k [k, x.start.toNat, x.release.toNat, s.time.toNat]

/-- The sweep generator of driver `k` has run up to this base sample (R43). -/
def State.sweepAdvance (s : State) (k : Nat) : State :=
  let x := s.excU k
  if x.running && s.excMode k == 4 then s.setExc k { x with ran := s.cycles - x.startCyc, phaseAcc := s.sweepNow k } else s

/-- The drivers over the 64 AON cycles of one base sample: the sweep generators, and the age of each AC half-period. -/
def State.advanceExc (s : State) : State :=
  (List.range 16).foldl (fun s k =>
    let s := s.sweepAdvance k
    if s.excMode k = 2 then s.setExc k { s.excU k with edgeAge := (s.excU k).edgeAge + 1 } else s) s

/-- Whether any channel takes driver `k` as its ratiometric reference (R38, R46). -/
def State.isReference (s : State) (k : Nat) : Bool :=
  (List.range 8).any (fun j =>
    let n := 8 * (k / 2) + j
    s.namesDriver n k && getField Fld.PCH_CFG_REFSEL (s.pchU n).inForce == 1)

/-- The channels that name driver `k` are judged again (R426). -/
def State.verifyDriver (s : State) (k : Nat) : State :=
  (List.range 8).foldl (fun s j => let n := 8 * (k / 2) + j; if s.namesDriver n k then s.verifyP n else s) s

/-- V_EXS as EXC_MON shows it, in 0.25 mV: switched with the polarity in AC mode (R38). -/
def State.excSense (s : State) (k : Nat) : Int :=
  let v := (BitVec.ofNat 16 (s.fld (Reg.EXC_MON k) Fld.EXC_MON_VMON)).toInt
  if s.fld (Reg.EXC_CTRL k) Fld.EXC_CTRL_MODE = 2 then v.natAbs else v

/-- V_EXS is below 0.25 V outside a ramp (R38). -/
def State.refLow (s : State) (k : Nat) : Bool := decide (s.excSense k < 1000) && !s.flag (Reg.EXC_STAT k) Fld.EXC_STAT_RAMP

/-- The modes and ramps in which fault bit `b` of R46 is looked for. -/
def State.excWatches (s : State) (k b : Nat) : Bool :=
  let on := s.excMode k == 1 || s.excMode k == 2
  let steady := on && !s.flag (Reg.EXC_STAT k) Fld.EXC_STAT_RAMP
  let m := s.fld (Reg.EXC_CTRL k) Fld.EXC_CTRL_MODE
  if b = 3 then s.excMode k != 0 else if b = 5 then on
  else if b = 7 then (m == 1 || m == 2) && !s.flag (Reg.EXC_STAT k) Fld.EXC_STAT_RAMP
  else steady

/-- Whether the condition of fault bit `b` of R46 holds by what the monitor last sampled, in the modes and outside the ramps that the
table names; `sense` is the force monitor's own finding, which EXC_MON does not show. -/
def State.excCondition (s : State) (k b : Nat) (sense : Bool) : Bool :=
  let i := (BitVec.ofNat 16 (s.fld (Reg.EXC_MON k) Fld.EXC_MON_IMON)).toInt.natAbs
  let set_ : Int := (s.excU k).target
  let openTh := s.fld (Reg.EXC_LIM k) Fld.EXC_LIM_OPEN_TH
  s.excWatches k b &&
    (if b = 3 then s.flag (Reg.EXC_STAT k) Fld.EXC_STAT_LIMIT
     else if b = 4 then openTh != 0 && decide (i < 125 * openTh)
     else if b = 5 then sense
     else if b = 6 then decide (set_ < (5 * s.excSense k - 2 * set_).natAbs * 50)
     else s.refLow k && s.isReference k)

/-- The detection time of fault bit `b` in ms (R46), which is as many samples of the 1 kS/s monitor. -/
def excDetect (b : Nat) : Nat := if b = 3 then 10 else if b = 4 then 2 else 1

/-- A fault bit of EXC_STAT sets (R46, R47): its record is written when it sets, and OVERLOAD switches the force outputs off. -/
def State.excFaultBit (s : State) (k b : Nat) : State :=
  let was := s.regBit (Reg.EXC_STAT k) b
  let x := s.excU k
  let s := s.setBit (Reg.EXC_STAT k) b true
  let s := s.setExc k { x with held := x.held ||| 2 ^ b, absent := x.absent.filter (fun p => p.1 != b) }
  let s := if was then s else s.emit 0x0118 k [k, b, (s.reg (Reg.EXC_MON k)).toNat]
  let s := if b = 3 then
      ((s.raise (Reg.EXC_STAT k) Fld.EXC_STAT_SHUTDOWN).clear (Reg.EXC_STAT k) Fld.EXC_STAT_RAMP).cutExc k
    else s
  s.verifyDriver k

/-- EXC_FAULT (R46): a fault condition has persisted for its detection time. -/
def excFault (s : State) (k b : Nat) : State :=
  if !hasExc s.fac.variant k || b < 3 || b > 7 || !s.excWatches k b || decide ((s.excU k).seen.getD (b - 3) 0 < excDetect b) then s
  else s.excFaultBit k b

/-- EXC_STAT after a write of 1s: REF_LOW stays set while its condition lasts (R38). -/
def State.excHoldRefLow (s : State) (k : Nat) : State := if s.excCondition k 7 false then s.excFaultBit k 7 else s

/-- One fault SMON holds for driver `k`: while its condition persists it stays; once absent for 10 ms it is let go (R426). -/
def excHeldStep (now : Time) (present : Nat → Bool) (x : Exc) (b : Nat) : Exc :=
  if !bitAt x.held b then x
  else if present b then { x with absent := x.absent.filter (fun p => p.1 != b) }
  else match x.absent.find? (fun p => p.1 == b) with
    | none => { x with absent := (b, now) :: x.absent }
    | some (_, t) =>
      if msTime 10 ≤ (now - t).toNat then { x with held := x.held - 2 ^ b, absent := x.absent.filter (fun p => p.1 != b) }
      else x

/-- The 1 kS/s sample of sense voltage and load current (R46, R50): EXC_MON takes both at once, LIMIT follows the current limit, each
fault's condition is counted as long as it lasts, and REF_LOW is held set while it does (R38). An OVERLOAD that has shut the driver down
persists until the driver is restarted (R47). -/
def excMonitorSample (s : State) (k : Nat) (vmon imon : BitVec 16) (limit sense : Bool) : State :=
  if !hasExc s.fac.variant k then s else
  let s := s.setReg (Reg.EXC_MON k) (imon ++ vmon)
  let s := s.setFld (Reg.EXC_STAT k) Fld.EXC_STAT_LIMIT (bit limit)
  let x := s.excU k
  let seen := [3, 4, 5, 6, 7].map (fun b => if s.excCondition k b sense then min (x.seen.getD (b - 3) 0 + 1) 10 else 0)
  let present := fun b => s.excCondition k b sense || (b == 3 && s.flag (Reg.EXC_STAT k) Fld.EXC_STAT_SHUTDOWN)
  let s := s.setExc k ([3, 4, 5, 6, 7].foldl (excHeldStep s.time present) { x with seen := seen })
  if s.excCondition k 7 sense then s.excFaultBit k 7 else s.verifyDriver k

end Sys2Proof.Machine
end

