-- ==== Sys2Proof/Machine/Results.lean ====
section
/-!
DEFINITION. The latest-result registers (R74 to R82, R84): how a new result replaces the newest one, how a restart marks it, and
what each reader's reads of RES_HI, RES_LO and RES_ATTR return.
-/
namespace Sys2Proof.Machine

/-- Entry `i` of the RES block: 0 to 63 the P-channels, 64 to 71 the W-channels. -/
def State.resU (s : State) (i : Nat) : Res := Store.get (fun _ => {}) s.res i

/-- The state with RES entry `i` replaced. -/
def State.setRes (s : State) (i : Nat) (r : Res) : State := { s with res := Store.set (fun _ => {}) s.res i r }

/-- The attribute word of RES_ATTR (R84): SRC in bits 11:8, then MIXED, SERVICE, HOLDOVER, FFLT and OVR from bit 4 down. -/
def resAttr (src : Nat) (a : Attrs) : Nat :=
  256 * src + 16 * bit a.mixed + 8 * bit a.service + 4 * bit a.holdover + 2 * bit a.fflt + bit a.ovr

/-- A new result of the entry's output (R75, R81): it replaces the newest, the sequence number counts on modulo 256, and where
the one replaced was latched by no reader and WATCH is 1, OVF sets and OV_CNT counts. The reset value is no result, so its replacement loses nothing. -/
def State.newResult (s : State) (i val attr : Nat) (poison : Bool) : State :=
  let r := s.resU i
  let lost := r.num != 0 && !r.latched && s.flag (Reg.RES_OVCNT i) Fld.RES_OVCNT_WATCH
  let s := s.setRes i { r with val := val, num := r.num + 1, seq := (r.seq + 1) % 256, attr := attr, poison := poison,
                               stale := false, latched := false }
  if lost then (s.raise (Reg.RES_OVCNT i) Fld.RES_OVCNT_OVF).count (Reg.RES_OVCNT i) Fld.RES_OVCNT_OV_CNT else s

/-- A restart of the entry (R76): the previous result and its sequence number stay, STALE sets. -/
def State.restartRes (s : State) (i : Nat) : State := s.setRes i { s.resU i with stale := true }

/-- The shadow a reader holds. -/
def Res.shadowOf (r : Res) (who : Reader) : Option Shadow := (r.shadows.find? (fun p => p.1 == who)).map (·.2)

/-- Give a reader a shadow (R77): a fabric requester that has none takes the least recently used of the 14 fabric shadows. -/
def Res.withShadow (r : Res) (who : Reader) (sh : Shadow) : Res :=
  let rest := r.shadows.filter (fun p => p.1 != who)
  let fab := rest.filter (fun p => Reader.isFabric p.1)
  let rest := if Reader.isFabric who && fab.length ≥ 14 then
      match fab.getLast? with
      | some old => rest.filter (fun p => p.1 != old.1)
      | none => rest
    else rest
  { r with shadows := (who, sh) :: rest }

/-- A word of the entry (R74): flags STALE, READ, OVR, POISON from bit 31, the sequence number, and half of the result. -/
def resWord (stale read ovr poison : Bool) (seq data : Nat) : Nat :=
  2 ^ 31 * bit stale + 2 ^ 30 * bit read + 2 ^ 29 * bit ovr + 2 ^ 28 * bit poison + 2 ^ 20 * (seq % 256) + data % 2 ^ 20

/-- A read of RES_HI (R78): one copy of the newest result into the reader's shadow, and the high half. -/
def State.readResHi (s : State) (who : Reader) (i : Nat) : Nat × State :=
  let r := s.resU i
  let sh : Shadow := { val := r.val, num := r.num, seq := r.seq, attr := r.attr, stale := r.stale, poison := r.poison }
  let held := match r.shadowOf who with
    | some old => old.num == r.num
    | none => false
  let w := resWord r.stale held (s.flag (Reg.RES_OVCNT i) Fld.RES_OVCNT_OVF) r.poison r.seq (r.val / 2 ^ 20)
  (w, s.setRes i { (r.withShadow who sh) with latched := true })

/-- A read of RES_LO (R79): the low half from the reader's shadow, or 0xA000_0000 for a reader that holds none. -/
def State.readResLo (s : State) (who : Reader) (i : Nat) : Nat × State :=
  let r := s.resU i
  match r.shadowOf who with
  | none => (0xA0000000, s)
  | some sh =>
    let w := resWord sh.stale sh.loRead (sh.num != r.num) sh.poison sh.seq sh.val
    (w, s.setRes i (r.withShadow who { sh with loRead := true }))

/-- A read of RES_ATTR (R79): the attributes from the reader's shadow, 0 if it holds none. Whether it counts as a use of the shadow in R77
is not stated: here it does not, as it changes nothing (log entry 78, DESIGN CHOICE). -/
def State.readResAttr (s : State) (who : Reader) (i : Nat) : Nat :=
  match (s.resU i).shadowOf who with
  | none => 0
  | some sh => sh.attr

/-- A register read returns `w` to `who`. -/
def State.returns (s : State) (who : Reader) (off w : Nat) : State := s.put (.regData who off w)

/-- RES_HI_READ (R78). -/
def resHiRead (s : State) (who : Reader) (i : Nat) : State :=
  if !unitPresent s.fac.variant .res i then s.returns who (Reg.RES_HI i) 0 else
  let p := s.readResHi who i
  p.2.returns who (Reg.RES_HI i) p.1

/-- RES_LO_READ (R79). -/
def resLoRead (s : State) (who : Reader) (i : Nat) : State :=
  if !unitPresent s.fac.variant .res i then s.returns who (Reg.RES_LO i) 0 else
  let p := s.readResLo who i
  p.2.returns who (Reg.RES_LO i) p.1

/-- RES_64_READ (R80): RES_HI in bits 31:0 and RES_LO in bits 63:32, both from the one latch the read performs. -/
def res64Read (s : State) (who : Reader) (i : Nat) : State :=
  if !unitPresent s.fac.variant .res i then s.returns who (Reg.RES_HI i) 0 else
  let p := s.readResHi who i
  let q := p.2.readResLo who i
  q.2.returns who (Reg.RES_HI i) (p.1 + 2 ^ 32 * q.1)

end Sys2Proof.Machine
end

