-- ==== Sys2Proof/Machine/Fusion.lean ====
section
/-!
DEFINITION. Dual-range conversion and fusion (R51 to R72): one base sample of one P-channel, from its two raw words to the
demodulated sample the filters take, with the plausibility check and overrange.
-/
namespace Sys2Proof.Machine

/-- T_LO of R55. -/
def tLo : Int := 0xC0000000
/-- T_HI of R55. -/
def tHi : Int := 0xF3333333
/-- The largest valid code of the extended range (R65). -/
def extE : Int := 329853488332
/-- The smallest |raw_F| that sets the F overload flag (R52). -/
def fOverload : Nat := 4404020
/-- The band of |c| in which neither test of the plausibility check applies (R60). -/
def bandLo : Int := 3865470566
def bandHi : Int := 4724464026

/-- c of R53: held exactly, shifted toward minus infinity. -/
def scaleC (e : Eff) (rawC : Int) : Int := asr ((rawC - e.oc) * e.kc) 6
/-- f of R53. -/
def scaleF (e : Eff) (rawF : Int) : Int := asr ((rawF - e.of) * e.kf) 12

/-- The raw weight of R55, in units of 2^-16. -/
def rawWeight (c : Int) : Nat :=
  let a : Int := c.natAbs
  if a < tLo then 0 else if a < tHi then (asr ((a - tLo) * 5) 16).toNat else 65536

/-- The effective weight and the holdoff counter after one base sample (R56): FORCE 1 C_ONLY, 2 F_ONLY. -/
def weightStep (force frec : Nat) (fovl : Bool) (wRaw wprev hold : Nat) : Nat × Nat :=
  if force = 1 then (65536, hold)
  else if force = 2 then (0, hold)
  else if fovl then (65536, frec)
  else if hold > 0 then (65536, hold - 1)
  else (max wRaw (wprev - 1024), hold)

/-- y of R56. -/
def fuse (c f : Int) (w : Nat) : Int := f + asr ((c - f) * w + 32768) 16

/-- The time of base sample `k` (R85): k / 256 000 s, rounded as R87 rounds. -/
def baseTime (k : Nat) : Time := BitVec.ofInt 64 (roundDiv ((k : Int) * 2 ^ 32) 256000)

/-- M of R62 for a channel. -/
def State.mismWindow (s : State) (n : Nat) : Nat := 2 ^ (s.fld (Reg.PCH_FUS_CFG n) Fld.PCH_FUS_CFG_MSEL + 6)

/-- 8 σ_C of the channel's present gain, or the register's value (R61). -/
def State.plausTh (s : State) (n : Nat) : Nat :=
  let th := (s.reg (Reg.PCH_PLAUS_TH n)).toNat
  if th = 0 then 8 * s.sigmaOf n else th

/-- Load the threshold in use (R61). A value of 8 σ_C beyond 32 bits keeps its low 32 bits (log entry 117, DESIGN CHOICE). -/
def State.loadPlaus (s : State) (n : Nat) : State := s.setReg (Reg.PCH_PLAUS_EFF n) (BitVec.ofNat 32 (s.plausTh n))

/-- The averaging of f − c starts again and DIFF_VALID clears (R59). -/
def State.restartDiff (s : State) (n : Nat) : State :=
  (s.setPch n { s.pchU n with diffSum := 0, diffCnt := 0 }).clear (Reg.PCH_CONV_STAT n) Fld.PCH_CONV_STAT_DIFF_VALID

/-- UNCHK sets (R64): cause 0 band, 1 PL_EN. -/
def State.setFusionUnchecked (s : State) (n cause : Nat) : State :=
  if s.flag (Reg.PCH_CONV_STAT n) Fld.PCH_CONV_STAT_UNCHK then s
  else
    let s := s.setLive (Reg.PCH_CONV_STAT n) Fld.PCH_CONV_STAT_UNCHK Fld.PCH_CONV_STAT_UNCHK_S true
    (s.emit 0x0122 n [n, cause, (s.pchU n).lastElig.toNat]).verifyP n

/-- FUSION_UNCHECKED (R64): 2560 base samples have passed without an eligible one. -/
def fusionUnchecked (s : State) (n : Nat) : State :=
  if hasPch s.fac.variant n && (s.pchU n).noElig ≥ 2560 then s.setFusionUnchecked n 0 else s

/-- FUS_DIFF_UPDATE (R59): 65 536 further eligible samples have been counted. -/
def fusDiffUpdate (s : State) (n : Nat) : State :=
  let c := s.pchU n
  if !hasPch s.fac.variant n || c.diffCnt < 65536 then s else
  let mean := clampInt (-(2 ^ 31)) (2 ^ 31 - 1) (c.diffSum.fdiv c.diffCnt)
  let s := s.setReg (Reg.PCH_FUS_DIFF n) (BitVec.ofInt 32 mean)
  (s.setPch n { c with diffSum := 0, diffCnt := 0 }).raise (Reg.PCH_CONV_STAT n) Fld.PCH_CONV_STAT_DIFF_VALID

/-- Why a base sample is an overrange base sample (R65), the first of the causes R72 lists that applies: 0 C level, 1 C overload,
2 F overload in F_ONLY, 3 PIN_RANGE at it or since the sample before (R20), 4 REF_LOW of the driver it takes its reference from (R38),
5 REFERENCE. A muted channel converts zero, so that of these only what stands before the mute or beside its inputs can apply (R45). -/
def State.overrangeCause (s : State) (n : Nat) (c : Int) (covl fovl : Bool) : Option Nat :=
  let u := s.pchU n
  let force := s.fld (Reg.PCH_FUS_CFG n) Fld.PCH_FUS_CFG_FORCE
  let ratio := getField Fld.PCH_CFG_REFSEL u.inForce == 1
  if c.natAbs > extE.toNat then some 0
  else if covl || u.covlPrev.any id then some 1
  else if force == 2 && fovl then some 2
  else if s.flag (Reg.PCH_STAT n) Fld.PCH_STAT_PIN_RANGE || u.pinSeen then some 3
  else if ratio && (s.driverOf n).any s.refLow then some 4
  else if !ratio && s.flag Reg.SAF_SUP Fld.SAF_SUP_REF then some 5
  else none

/-- The driver a channel demodulates against while it is in AC mode, with the BLANK in use (R39, R40): the odd driver
uses the even one's when both are in AC mode. -/
def State.acDriver (s : State) (n : Nat) : Option (Nat × Nat) :=
  match s.driverOf n with
  | none => none
  | some k =>
    if s.excMode k = 2 then some (k, s.fld (Reg.EXC_AC (if s.acTogether k then k / 2 * 2 else k)) Fld.EXC_AC_BLANK) else none

/-- Whether the plausibility check takes the sample (R60). With PL_EN = 0 the check is off and takes none, so the averaging of R59 and the
mismatch window stand still (log entry 81, DEDUCED: R60's list does not name PL_EN). -/
def State.eligible (s : State) (n : Nat) (c : Int) (ovr fovl : Bool) : Bool :=
  let u := s.pchU n
  let a : Int := c.natAbs
  let holdoff := !fovl && (match u.fovlAgo with
    | none => false
    | some d => decide (d + 1 ≤ s.fld (Reg.PCH_FUS_CFG n) Fld.PCH_FUS_CFG_FREC))
  let blanked := match s.acDriver n with
    | none => false
    | some (k, b) => decide ((s.excU k).edgeAge < b)
  s.flag (Reg.PCH_FUS_CFG n) Fld.PCH_FUS_CFG_PL_EN && !(bandLo ≤ a && a < bandHi) && !ovr && !holdoff && 8 ≤ u.sinceCfg
    && !blanked

/-- The mismatch tests of R60. -/
def mismatches (th : Nat) (c f rawF : Int) (fovl : Bool) : Bool :=
  let a : Int := c.natAbs
  if a < bandLo then decide ((f - c).natAbs > th)
  else if a ≥ bandHi then !fovl || decide ((rawF < 0) ≠ (c < 0))
  else false

/-- The plausibility check on one base sample (R60 to R64). -/
def State.plausibility (s : State) (n k : Nat) (c f rawF : Int) (ovr fovl : Bool) : State :=
  let u := s.pchU n
  if !s.eligible n c ovr fovl then s.setPch n { u with noElig := u.noElig + 1 } else
  let th := (s.reg (Reg.PCH_PLAUS_EFF n)).toNat
  let bad := mismatches th c f rawF fovl
  let m := s.mismWindow n
  let win := ((if bad then some k else none) :: u.window).take 1024
  let counted := (win.take m).filterMap id
  let cnt := counted.length
  let run := if bad then 0 else u.cleanRun + 1
  let u' := { u with
    window := win, cleanRun := run, noElig := 0, lastElig := baseTime k, lastDiff := f - c,
    diffSum := if u.diffCnt < 65536 then u.diffSum + (f - c) else u.diffSum,
    diffCnt := min 65536 (u.diffCnt + 1) }
  let s := (s.setPch n u').setFld (Reg.PCH_CONV_STAT n) Fld.PCH_CONV_STAT_MISM (min cnt 255)
  let s := if bad then s.count (Reg.PCH_FUS_CNT n) word32 else s
  let s := if s.flag (Reg.PCH_CONV_STAT n) Fld.PCH_CONV_STAT_UNCHK then
      (s.clear (Reg.PCH_CONV_STAT n) Fld.PCH_CONV_STAT_UNCHK).verifyP n
    else s
  let fault := s.flag (Reg.PCH_CONV_STAT n) Fld.PCH_CONV_STAT_FAULT
  if !fault && cnt ≥ s.fld (Reg.PCH_FUS_CFG n) Fld.PCH_FUS_CFG_FUS_N then
    let firstK := counted.getLast?.getD k
    let s := s.setLive (Reg.PCH_CONV_STAT n) Fld.PCH_CONV_STAT_FAULT Fld.PCH_CONV_STAT_FAULT_S true
    let s := s.setPch n { s.pchU n with faultFrom := some firstK, faultTo := none, cleanRun := 0 }
    let s := s.emitSafetyHeld 0x0120 n [n, getField Fld.PCH_CFG_GAIN u.inForce, (baseTime firstK).toNat, cnt, th, f - c]
    s.verifyP n
  else if fault && run ≥ 4 * m then
    let s := s.clear (Reg.PCH_CONV_STAT n) Fld.PCH_CONV_STAT_FAULT
    let s := s.setPch n { s.pchU n with faultTo := some k }
    (s.emit 0x0121 n [n, (baseTime k).toNat]).verifyP n
  else s

/-- Overrange of the newest base sample (R71): OVR_NOW, OVR_S, the count, and the record of entering. -/
def State.overrangeStep (s : State) (n : Nat) (cause : Option Nat) (neg : Bool) : State :=
  let u := s.pchU n
  match cause with
  | none =>
    (s.clear (Reg.PCH_CONV_STAT n) Fld.PCH_CONV_STAT_OVR_NOW).setPch n { u with quiet := min 256 (u.quiet + 1) }
  | some why =>
    let s := s.setLive (Reg.PCH_CONV_STAT n) Fld.PCH_CONV_STAT_OVR_NOW Fld.PCH_CONV_STAT_OVR_S true
    let s := s.count (Reg.PCH_OVR_CNT n) word32
    let s := s.setPch n { u with overrange := true, ovrNeg := neg, ovrCause := why, quiet := 0 }
    if u.overrange then s
    else s.emitLimited 0x0114 n n (secTime 1) false 1 (fun x => [n, 1, if neg then -1 else 1, why, x])

/-- OVERRANGE_LEAVE (R71): 256 base samples have passed without an overrange base sample. The record names the sign and the cause of the
last one (log entry 82, DEDUCED). -/
def overrangeLeave (s : State) (n : Nat) : State :=
  let u := s.pchU n
  if !hasPch s.fac.variant n || !u.overrange || u.quiet < 256 then s
  else
    (s.setPch n { u with overrange := false }).emitLimited 0x0114 n n (secTime 1) true 0
      (fun x => [n, 0, if u.ovrNeg then -1 else 1, u.ovrCause, x])

/-- Demodulation of one fused sample (R40): blanked samples hold the last demodulated value and its OVR. Before there is one, a blanked
sample passes as it is (log entry 83, DESIGN CHOICE). The sign of an overrange mark stays that of c as converted, whatever the polarity
(R66; log entry 84, DEDUCED). -/
def demodulate (blank : Option (Bool × Bool)) (held : Option Sample) (x : Sample) : Sample :=
  match blank with
  | none => x
  | some (true, _) =>
    match held with
    | none => x
    | some h => { val := h.val, marks := { x.marks with ovr := h.marks.ovr.map (fun o => (x.marks.last, o.2)) } }
  | some (false, positive) => if positive then x else { x with val := -x.val }

/-- What the modulators of a channel deliver (R26, R45, R52): the words the sample brings, or, while the channel converts zero, those that its
calibration maps to zero, without overload (log entry 85, DESIGN CHOICE: noise and what offset the calibration leaves are not modelled). -/
def State.converted (s : State) (r : RawSample) : Int × Int × Bool × Bool :=
  let e := s.effOf r.ch
  if s.grounded r.ch then (e.oc, e.of, false, false) else (r.rawC.toInt, r.rawF.toInt, r.covl, r.fovl)

/-- The marks of base sample `k` of channel `n` (R66, R68, R91). -/
def State.baseMarks (s : State) (n k : Nat) (ovr : Option Bool) : Marks :=
  let u := s.pchU n
  { first := k, last := k, ovr := ovr.map (fun neg => (k, neg)), epochLo := u.epoch, epochHi := u.epoch,
    seUni := getField Fld.PCH_CFG_MODE u.inForce == 1, service := s.inService,
    poison := (s.calE (calKeyP n (s.gainOf n))).poison,
    holdover := s.inHoldover }

/-- One base sample of one channel, up to the demodulated sample; none while the fusion unit still discards (R51 to R71), whose overload
flags are not looked at (R54; log entry 86, DEDUCED). -/
def fuseChannel (s : State) (k : Nat) (r : RawSample) : Option BaseOut × State :=
  let n := r.ch
  let s := if (s.pchU n).thLoad then
      (s.loadPlaus n).setPch n { s.pchU n with thLoad := s.lateBy s.cycles (Reg.PCH_PLAUS_TH n) }
    else s
  let u := s.pchU n
  let pins := fun (s : State) => s.setPch n { s.pchU n with pinSeen := s.flag (Reg.PCH_STAT n) Fld.PCH_STAT_PIN_RANGE }
  if u.discard > 0 then (none, pins (s.setPch n { u with discard := u.discard - 1 })) else
  let e := s.effOf n
  let w := s.converted r
  let c := scaleC e w.1
  let f := scaleF e w.2.1
  let covl := w.2.2.1
  let fovl := w.2.2.2 || decide (w.2.1.natAbs ≥ fOverload)
  let force := s.fld (Reg.PCH_FUS_CFG n) Fld.PCH_FUS_CFG_FORCE
  let frec := s.fld (Reg.PCH_FUS_CFG n) Fld.PCH_FUS_CFG_FREC
  let wh := weightStep force frec fovl (rawWeight c) u.wprev u.hold
  let cause := s.overrangeCause n c covl fovl
  let neg := decide (c < 0)
  let y := if cause.isSome then (if neg then -extE else extE) else fuse c f wh.1
  let s := s.plausibility n k c f w.2.1 cause.isSome fovl
  let s := s.overrangeStep n cause neg
  let s := s.setFld (Reg.PCH_CONV_STAT n) Fld.PCH_CONV_STAT_F_OVL (bit fovl)
  let s := s.setFld (Reg.PCH_CONV_STAT n) Fld.PCH_CONV_STAT_REGION (if wh.1 = 0 then 0 else if wh.1 = 65536 then 2 else 1)
  let marks := s.baseMarks n k (cause.map (fun _ => neg))
  let blank := (s.acDriver n).map (fun d => (decide ((s.excU d.1).edgeAge < d.2), (s.excU d.1).positive))
  let x := demodulate blank u.newest { val := y, marks := marks }
  let u' := s.pchU n
  let s := pins (s.setPch n { u' with
    passed := true, wprev := wh.1, hold := wh.2, sinceCfg := min 8 (u'.sinceCfg + 1), newest := some x,
    fovlAgo := if fovl then some 0 else u'.fovlAgo.map (fun d => min 64 (d + 1)),
    covlPrev := (covl :: u'.covlPrev).take 2 })
  (some { x := x, c := c, f := f, fovl := fovl, ovr := cause.isSome, neg := neg,
          blank := match blank with | some (true, _) => true | _ => false }, s)

/-- A change under R28 takes effect at base sample `k` (R28, R59, R61, R66, R76, R122). -/
def State.changeAt (s : State) (n k : Nat) (old new : Word) : State :=
  let s := s.setPch n { s.pchU n with inForce := new, change := false, epoch := (s.pchU n).epoch + 1, sinceCfg := 0 }
  let s := if s.reg (Reg.PCH_PLAUS_TH n) = 0 then s.loadPlaus n else s
  let s := (s.restartDiff n).restartRes n
  let s := s.setChk n { s.chkU n with changeAt := some k }
  ((s.emitAt (baseTime k) 0x0113 n [n, old.toNat, new.toNat, (baseTime k).toNat]).pinUpdate n).verifyP n

/-- CFG_CHANGE (R28): a change committed to PCH_CFG takes effect at the next base-sample boundary. -/
def cfgChange (s : State) (n : Nat) : State :=
  let u := s.pchU n
  let new := (u.inForce &&& ~~~cfgChangeMask) ||| (s.regBy s.nextBoundary (Reg.PCH_CFG n) &&& cfgChangeMask)
  if !hasPch s.fac.variant n || !u.change || new = u.inForce then s else
  let s := s.changeAt n (s.baseIdx.toNat + 1) u.inForce new
  s.setPch n { s.pchU n with change := new &&& cfgChangeMask != s.reg (Reg.PCH_CFG n) &&& cfgChangeMask }

/-- What a write of PCH_FUS_CFG leaves unchanged (R57, R62, R64): FORCE other than AUTO and PL_EN = 0 only in SERVICE; a write that
would leave FUS_N larger than M leaves both FUS_N and MSEL. -/
def pchFusCfgReject (service : Bool) (old v : Word) : Word :=
  let force := getField Fld.PCH_FUS_CFG_FORCE v
  let msel := getField Fld.PCH_FUS_CFG_MSEL v
  let fusN := getField Fld.PCH_FUS_CFG_FUS_N v
  let msel' := if msel ≥ 5 then getField Fld.PCH_FUS_CFG_MSEL old else msel
  let fusN' := if fusN = 0 then getField Fld.PCH_FUS_CFG_FUS_N old else fusN
  let broken := fusN' > 2 ^ (msel' + 6)
  rejectIf (force == 3 || (force != 0 && !service)) Fld.PCH_FUS_CFG_FORCE |||
    rejectIf (getField Fld.PCH_FUS_CFG_PL_EN v == 0 && !service) Fld.PCH_FUS_CFG_PL_EN |||
    rejectIf (msel ≥ 5 || broken) Fld.PCH_FUS_CFG_MSEL ||| rejectIf (fusN == 0 || broken) Fld.PCH_FUS_CFG_FUS_N

/-- A write of PCH_FUS_CFG (R57, R62, R64). -/
def pchFusCfgWrite (s : State) (n : Nat) (v : Word) : State :=
  if !hasPch s.fac.variant n then s.writeAbsent n 64 (Reg.PCH_FUS_CFG n) else
  let old := s.reg (Reg.PCH_FUS_CFG n)
  let rej := pchFusCfgReject s.inService old v
  let s := s.writeJudged (Reg.PCH_FUS_CFG n) 0xE7FF003F rej v (Reg.PCH_STAT n) Fld.PCH_STAT_CFG_REJ
  let new := s.reg (Reg.PCH_FUS_CFG n)
  let s := if getField Fld.PCH_FUS_CFG_FORCE new != getField Fld.PCH_FUS_CFG_FORCE old then s.restartDiff n else s
  let m := s.mismWindow n
  let counted := ((s.pchU n).window.take m).filterMap id
  let cnt := counted.length
  let s := s.setFld (Reg.PCH_CONV_STAT n) Fld.PCH_CONV_STAT_MISM (min cnt 255)
  let s := if getField Fld.PCH_FUS_CFG_PL_EN new = 0 then s.setFusionUnchecked n 1 else s
  if !s.flag (Reg.PCH_CONV_STAT n) Fld.PCH_CONV_STAT_FAULT && cnt ≥ getField Fld.PCH_FUS_CFG_FUS_N new && cnt > 0 then
    let firstK := counted.getLast?.getD 0
    let s := s.setLive (Reg.PCH_CONV_STAT n) Fld.PCH_CONV_STAT_FAULT Fld.PCH_CONV_STAT_FAULT_S true
    let s := s.setPch n { s.pchU n with faultFrom := some firstK, faultTo := none }
    (s.emitSafetyHeld 0x0120 n [n, getField Fld.PCH_CFG_GAIN (s.pchU n).inForce, (baseTime firstK).toNat, cnt,
      (s.reg (Reg.PCH_PLAUS_EFF n)).toNat, (s.pchU n).lastDiff]).verifyP n
  else s

/-- The exit from SERVICE for one channel (R26, R57, R64): INSEL to INPUT, FORCE to AUTO, PL_EN to 1. -/
def State.leaveServiceChannel (s : State) (n : Nat) : State :=
  if !hasPch s.fac.variant n then s else
  let s := pchFusCfgWrite s n ((s.reg (Reg.PCH_FUS_CFG n) &&& 0x3FFFFFFF) ||| 0x20000000)
  if s.flag (Reg.PCH_CFG n) Fld.PCH_CFG_INSEL then pchCfgWritten (s.clear (Reg.PCH_CFG n) Fld.PCH_CFG_INSEL) n else s

/-- A write of PCH_PLAUS_TH (R61): the threshold in use follows at the next base sample. -/
def pchPlausThWrite (s : State) (n : Nat) (v : Word) : State :=
  if !hasPch s.fac.variant n then s.writeAbsent n 64 (Reg.PCH_PLAUS_TH n) else
  (s.writeBits (Reg.PCH_PLAUS_TH n) 0xFFFFFFFF 0 v).setPch n { s.pchU n with thLoad := true }

/-- What a write of PCH_FMT leaves unchanged (R67, R69): shifts above 20 and RES_SRC 3 are reserved. -/
def pchFmtReject (v : Word) : Word :=
  rejectIf (getField Fld.PCH_FMT_RES_SRC v == 3) Fld.PCH_FMT_RES_SRC |||
    rejectIf (getField Fld.PCH_FMT_S_MONITOR v > 20) Fld.PCH_FMT_S_MONITOR |||
    rejectIf (getField Fld.PCH_FMT_S_SEISMIC v > 20) Fld.PCH_FMT_S_SEISMIC |||
    rejectIf (getField Fld.PCH_FMT_S_STATIC v > 20) Fld.PCH_FMT_S_STATIC

/-- A write of PCH_FMT (R67, R69): a change of RES_SRC restarts the entry. -/
def pchFmtWrite (s : State) (n : Nat) (v : Word) : State :=
  if !hasPch s.fac.variant n then s.writeAbsent n 64 (Reg.PCH_FMT n) else
  let rej := pchFmtReject v
  let old := s.fld (Reg.PCH_FMT n) Fld.PCH_FMT_RES_SRC
  let s := s.writeJudged (Reg.PCH_FMT n) 0x30037FFF rej v (Reg.PCH_STAT n) Fld.PCH_STAT_CFG_REJ
  if s.fld (Reg.PCH_FMT n) Fld.PCH_FMT_RES_SRC = old then s else s.restartRes n

end Sys2Proof.Machine
end

