-- ==== Sys2Proof/Machine/Filters.lean ====
section
/-!
DEFINITION. The three filter chains of a P-channel (R85 to R109): base samples into the delay lines, MONITOR, STATIC, SEISMIC and
the mains tracker, restarts, and the coding of results (R66 to R68).
-/
namespace Sys2Proof.Machine

/-! ### Marks and coding -/

/-- The marks of a window that holds two sets of base samples (R66, R91). -/
def Marks.join (a b : Marks) : Marks :=
  let later := if a.last ≤ b.last then b else a
  { first := min a.first b.first, last := max a.last b.last,
    ovr := match a.ovr, b.ovr with
      | none, o => o
      | o, none => o
      | some x, some y => if x.1 ≤ y.1 then some y else some x,
    epochLo := min a.epochLo b.epochLo, epochHi := max a.epochHi b.epochHi, seUni := later.seUni,
    service := a.service || b.service, holdover := a.holdover || b.holdover, poison := a.poison || b.poison }

/-- The marks of all the samples of a window. -/
def marksOf : List Sample → Option Marks
  | [] => none
  | x :: xs => some (xs.foldl (fun m y => m.join y.marks) x.marks)

/-- The attributes of an output sample from its window's marks (R62, R63, R91): FFLT on a window that reaches to the first
counted mismatch of a fault or beyond and does not begin after the sample that cleared it. -/
def attrsOf (u : Pch) (m : Marks) : Attrs :=
  { ovr := m.ovr.isSome,
    fflt := match u.faultFrom with
      | none => false
      | some a => decide (a ≤ m.last) && (match u.faultTo with
        | none => true
        | some b => decide (m.first ≤ b)),
    mixed := m.epochLo != m.epochHi, service := m.service, holdover := m.holdover, poison := m.poison }

/-- The value of an output sample (R66): the saturation code, with the sign of the most recent overrange base sample, where the
window holds one. -/
def ovrValue (m : Marks) (y : Int) : Int :=
  match m.ovr with
  | none => y
  | some (_, neg) => if neg then -(2 ^ 39) else 2 ^ 39 - 1

/-- The full result as delivered (R68): two's complement, or offset binary on an SE_UNI channel. -/
def codeFull (se : Bool) (y : Int) : Nat := (twos 40 y + if se then 2 ^ 39 else 0) % 2 ^ 40

/-- The compact result (R67, R68): saturate(full >> shift) to 20 bits, in the channel's coding. -/
def codeCompact (se : Bool) (shift : Nat) (y : Int) : Nat :=
  (twos 20 (satSigned 20 (asr y shift)) + if se then 2 ^ 19 else 0) % 2 ^ 20

/-- The timestamp of an output (R87): an exact time of `num` / `den` seconds plus PCH_TS_ADJ, rounded once, halves up. -/
def State.stamp (s : State) (n : Nat) (num : Int) (den : Nat) : Time :=
  BitVec.ofInt 64 (roundDiv (num * 2 ^ 32 + (s.reg (Reg.PCH_TS_ADJ n)).toInt * den) den)

/-- The output value of a chain: the full result and the form its stream carries (R67). -/
def outVal (se compact : Bool) (shift : Nat) (y : Int) (t : Time) (a : Attrs) : OutVal :=
  { full := codeFull se y, value := y, code := if compact then codeCompact se shift y else codeFull se y,
    bits := if compact then 20 else 40, t := t, attrs := a }

/-! ### MONITOR -/

/-- Multiply two polynomials, lowest power first. -/
def polyMul : List Int → List Int → List Int
  | [], _ => []
  | a :: p, q => List.zipWithAll (fun x y => x.getD 0 + y.getD 0) (q.map (a * ·)) (0 :: polyMul p q)

/-- (1 + z^-1 + … + z^-7)^k. -/
def boxPower : Nat → List Int
  | 0 => [1]
  | k + 1 => (polyMul (List.replicate 8 1) (boxPower k)).take (7 * (k + 1) + 1)

/-- The 29 coefficients of MONITOR (R95). -/
def monitorCoef : List Int := boxPower 4

/-- The sum of coefficients times the newest inputs (R95, R104). -/
def firSum (h : List Int) (line : List Sample) : Int := (List.zipWith (fun a x => a * x.val) h line).foldl (· + ·) 0

/-- The mains tracker on one MONITOR result (R100): `x` before compact shift and coding, at time `t` in 1/16 clocks. Both roundings take
halves up (log entry 87, DESIGN CHOICE: R100 does not say). -/
def mainsStep (avg min : Nat) (now : Time) (m : Mains) (x : Int) (t : Nat) : Mains × Option Nat :=
  let z := x - m.d
  let m := { m with d := m.d + asr (x - m.d) 13, peak := max m.peak z.natAbs }
  match m.zPrev with
  | none => ({ m with zPrev := some (z, t) }, none)
  | some (z0, t0) =>
    let m := { m with zPrev := some (z, t) }
    if z0 < 0 ∧ 0 ≤ z ∧ m.peak ≥ min * 2 ^ 20 then
      let tc := t0 + (roundDiv (2048 * (-z0)) (z - z0).toNat).toNat
      let p := tc - m.tlast
      let m := { m with tlast := tc, peak := 0 }
      if 1008246 ≤ p ∧ p ≤ 1456356 then
        let m := { m with periods := (p :: m.periods).take 8, accepted := m.accepted + 1, lastTc := tc, lastAt := now }
        let sum : Nat := (m.periods.take (2 ^ avg)).foldl (· + ·) 0
        if m.accepted ≥ 2 ^ avg then (m, some (roundDiv sum (2 ^ avg)).toNat) else (m, none)
      else (m, none)
    else (m, none)

/-- The mains tracker of channel `n` takes a MONITOR result (R100): MAINS_LOCK when VALID sets. -/
def State.trackMains (s : State) (n : Nat) (y : Int) (kc : Nat) : State :=
  if !s.flag (Reg.PCH_MTRK n) Fld.PCH_MTRK_EN then s else
  let u := s.pchU n
  let p := mainsStep (s.fld (Reg.PCH_MTRK n) Fld.PCH_MTRK_AVG) (s.fld (Reg.PCH_MTRK n) Fld.PCH_MTRK_MIN) s.time u.mains y (256 * kc)
  let s := s.setPch n { u with mains := p.1 }
  match p.2 with
  | none => s
  | some per =>
    let was := s.flag (Reg.PCH_MAINS_PER n) Fld.PCH_MAINS_PER_VALID
    let s := (s.setFld (Reg.PCH_MAINS_PER n) Fld.PCH_MAINS_PER_PERIOD per).raise (Reg.PCH_MAINS_PER n) Fld.PCH_MAINS_PER_VALID
    if was then s else s.emit 0x0131 n [n, per]

/-- The fabric time of a crossing at `tc` sixteenths of a modulator clock since the epoch (R98, R100). -/
def crossTime (tc : Nat) : Time := BitVec.ofInt 64 (roundDiv ((tc : Int) * 2 ^ 32) (16 * 4096000))

/-- VALID clears and the count of accepted periods starts again (R100), with MAINS_LOST where VALID was set. -/
def State.dropMains (s : State) (n : Nat) : State :=
  let u := s.pchU n
  let s := s.setPch n { u with mains := { u.mains with accepted := 0 } }
  if s.flag (Reg.PCH_MAINS_PER n) Fld.PCH_MAINS_PER_VALID then
    (s.clear (Reg.PCH_MAINS_PER n) Fld.PCH_MAINS_PER_VALID).emit 0x0130 n
      [n, s.fld (Reg.PCH_MAINS_PER n) Fld.PCH_MAINS_PER_PERIOD, (crossTime u.mains.lastTc).toNat]
  else s

/-- MAINS_LOST (R100): no period has been accepted for 100 ms. -/
def mainsLost (s : State) (n : Nat) : State :=
  if !hasPch s.fac.variant n || decide ((s.time - (s.pchU n).mains.lastAt).toNat < msTime 100) then s else s.dropMains n

/-- A write of PCH_MTRK (R100): while EN = 0, VALID reads 0, with MAINS_LOST when that clears it. A tracker that is switched off forgets what
it has measured (log entry 88, DESIGN CHOICE). -/
def pchMtrkWrite (s : State) (n : Nat) (v : Word) : State :=
  if !hasPch s.fac.variant n then s.writeAbsent n 64 (Reg.PCH_MTRK n) else
  let s := s.writeBits (Reg.PCH_MTRK n) 0x8C07FFFF 0 v
  if s.flag (Reg.PCH_MTRK n) Fld.PCH_MTRK_EN then s
  else
    let s := s.dropMains n
    s.setPch n { s.pchU n with mains := {} }

/-- Where a chain's newest output goes (R74, R75, R91, R426): the latest-result register if RES_SRC names it, POISON_S and the
channel's trust, the consumers of the output. `src` is 0 STATIC, 1 SEISMIC, 2 MONITOR. -/
def State.deliverOut (s : State) (n src idx period : Nat) (v : OutVal) (fill : Field) : State :=
  let s := s.clear (Reg.PCH_FLT_STAT n) fill
  let s := if v.attrs.poison then s.raise (Reg.PCH_FLT_STAT n) Fld.PCH_FLT_STAT_POISON_S else s
  let s := if s.fld (Reg.PCH_FMT n) Fld.PCH_FMT_RES_SRC = src then
      s.newResult n v.full (resAttr src v.attrs) v.attrs.poison
    else s
  let snap := some (v.full, attrByte v.attrs, v.t)
  let u := s.pchU n
  let s := s.setPch n (if src = 0 then { u with snapStat := snap } else if src = 1 then { u with snapSeis := snap }
    else { u with snapMon := snap })
  let s := (s.setTrustPoison n src v.attrs.poison).verifyP n
  s.deliver (srckOfPch src) n idx period v

/-- MONITOR_OUTPUT (R95): a MONITOR sample is completed for the centre index 14 base samples back, a whole multiple of 8. -/
def monitorOutput (s : State) (n : Nat) : State :=
  let u := s.pchU n
  match u.mon with
  | [] => s
  | x :: _ =>
    let kc := x.marks.last - 14
    if !hasPch s.fac.variant n || u.mon.length < 29 || x.marks.last < 14 || kc % 8 != 0 || u.monDone == some kc then s else
    match marksOf u.mon with
    | none => s
    | some m =>
      let y := asr (firSum monitorCoef u.mon + 2048) 12
      let y := ovrValue m y
      let s := s.setPch n { u with monDone := some kc }
      let s := s.trackMains n y kc
      let v := outVal m.seUni true (s.fld (Reg.PCH_FMT n) Fld.PCH_FMT_S_MONITOR) y (s.stamp n kc 256000) (attrsOf u m)
      s.deliverOut n 2 (kc / 8) 256 v Fld.PCH_FLT_STAT_MON_FILL

/-! ### STATIC -/

/-- The window length of the fixed modes and of the fallback (R98, R101). -/
def mainsLen (ncyc nom : Nat) : Nat := if nom = 0 then ncyc * 81920 else (roundDiv (ncyc * 4096000) 60).toNat

/-- The length a STATIC window takes at its start, and whether the tracker gave it (R98, R101). -/
def State.staticLen (s : State) (n : Nat) : Nat × Bool :=
  let cfg := s.reg (Reg.PCH_STATIC_CFG n)
  let ncyc := getField Fld.PCH_STATIC_CFG_NCYC cfg
  let nom := getField Fld.PCH_STATIC_CFG_MAINS_NOM cfg
  let src := getField Fld.PCH_STATIC_CFG_MAINS_CH cfg
  match getField Fld.PCH_STATIC_CFG_SMODE cfg with
  | 0 =>
    if s.flag (Reg.PCH_MAINS_PER src) Fld.PCH_MAINS_PER_VALID then
      ((roundDiv (ncyc * s.fld (Reg.PCH_MAINS_PER src) Fld.PCH_MAINS_PER_PERIOD) 16).toNat, true)
    else (mainsLen ncyc nom, false)
  | 1 => (mainsLen ncyc nom, false)
  | _ => (s.fld (Reg.PCH_STATIC_TIME n) Fld.PCH_STATIC_TIME_TLEN, false)

/-- MAINS_FB and its sticky bit while a MAINS_TRACK window falls back (R101). -/
def State.noteFallback (s : State) (n : Nat) (tracked : Bool) : State :=
  let fb := s.fld (Reg.PCH_STATIC_CFG n) Fld.PCH_STATIC_CFG_SMODE == 0 && !tracked
  s.setLive (Reg.PCH_FLT_STAT n) Fld.PCH_FLT_STAT_MAINS_FB Fld.PCH_FLT_STAT_MAINS_FB_S fb

/-- The first window after a restart, when base sample `k` is the first after it (R98, R99): MAINS_TRACK begins at the cell
boundary 16k - 8, the other modes at the next whole multiple of L. -/
def State.firstWindow (s : State) (n k : Nat) : StaticWin × State :=
  let l := s.staticLen n
  let m := 16 * k - 8
  let b0 := if s.fld (Reg.PCH_STATIC_CFG n) Fld.PCH_STATIC_CFG_SMODE = 0 then m else (m + l.1 - 1) / l.1 * l.1
  ({ b0 := b0, b1 := b0 + l.1, tracked := l.2 }, s.noteFallback n l.2)

/-- The clocks in which the cell [16k - 8, 16k + 8) of base sample `k` overlaps [b0, b1) (R97). -/
def overlap (k b0 b1 : Nat) : Nat := min (16 * k + 8) b1 - max (16 * k - 8) b0

/-- A base sample enters a STATIC window with its weight; what reaches past the end is kept for the next window (R97, R99). -/
def StaticWin.add (w : StaticWin) (x : Sample) : StaticWin :=
  let k := x.marks.last
  let wt := overlap k w.b0 w.b1
  let w := if wt > 0 then
      { w with num := w.num + wt * x.val, marks := some (match w.marks with | none => x.marks | some m => m.join x.marks) }
    else w
  if 16 * k + 8 > w.b1 then { w with tail := w.tail ++ [x] } else w

/-- A base sample enters STATIC. -/
def State.staticAdd (s : State) (n : Nat) (x : Sample) : State :=
  match (s.pchU n).stat with
  | some w => s.setPch n { s.pchU n with stat := some (w.add x) }
  | none =>
    let p := s.firstWindow n x.marks.last
    p.2.setPch n { p.2.pchU n with stat := some (p.1.add x) }

/-- Whether the window's last base sample has entered it. -/
def StaticWin.ended (w : StaticWin) : Bool := match w.tail.getLast? with
  | some x => decide (16 * x.marks.last + 8 ≥ w.b1)
  | none => match w.marks with
    | none => false
    | some m => decide (16 * m.last + 8 ≥ w.b1)

/-- STATIC_OUTPUT (R97 to R101): the window has ended, its result is delivered, and the next window begins where it ended with
the length fixed there. -/
def staticOutput (s : State) (n : Nat) : State :=
  let u := s.pchU n
  match u.stat with
  | none => s
  | some w =>
    match w.marks with
    | none => s
    | some m =>
      if !hasPch s.fac.variant n || !w.ended then s else
      let len := w.b1 - w.b0
      let y := ovrValue m ((2 * w.num + len).fdiv (2 * len))
      let l := s.staticLen n
      let s := s.noteFallback n l.2
      let w' := w.tail.foldl StaticWin.add { b0 := w.b1, b1 := w.b1 + l.1, tracked := l.2 }
      let s := s.setPch n { u with stat := some w' }
      let s := s.setFld (Reg.PCH_STATIC_LAST n) Fld.PCH_STATIC_LAST_LEN len
      let s := s.setFld (Reg.PCH_STATIC_LAST n) Fld.PCH_STATIC_LAST_TRACKED (bit w.tracked)
      let v := outVal m.seUni (s.flag (Reg.PCH_FMT n) Fld.PCH_FMT_FORM_STATIC) (s.fld (Reg.PCH_FMT n) Fld.PCH_FMT_S_STATIC) y
        (s.stamp n (w.b0 + w.b1) (2 * 4096000)) (attrsOf u m)
      s.deliverOut n 0 0 (2 * len) v Fld.PCH_FLT_STAT_STAT_FILL

/-! ### SEISMIC -/

/-- The taps, the decimation and the coefficient set of each stage of the chain of a rate (R103, R106, R109): S1 first, whose set
number 32 stands for (1 + z^-1 + … + z^-7)^6. -/
def seisChain (rate phase : Nat) : List (Nat × Nat × Nat) :=
  let d2 := [6, 5, 4, 6, 5, 4, 3, 2].getD rate 0
  (43, 8, 32) :: List.replicate d2 (59, 2, phase) ++ (if rate < 3 then [(99, 5, 2 + phase)] else []) ++
    [(191, 2, 8 + 8 * phase + rate)]

/-- The delay in base samples (R106), by RATE: LINEAR, MINIMUM. -/
def seisDelay (rate phase : Nat) : Nat :=
  if phase = 0 then [282925, 141357, 70573, 63277, 31533, 15661, 7725, 3757].getD rate 0
  else [36075, 18027, 9003, 8555, 4267, 2123, 1051, 515].getD rate 0

/-- D of R107: base samples per output sample. -/
def seisD (rate : Nat) : Nat := [5120, 2560, 1280, 1024, 512, 256, 128, 64].getD rate 1

/-- The numbers that the sets of D2, D5 and FN leave free, in 24-bit two's complement. -/
def freeCoef (set j : Nat) : Int := signedOf 24 (twos 24 (Config.filterCoef set j))

/-- A coefficient of D2, D5 or FN (R104): the spec gives the numbers only through what they must satisfy, so they are free but for
that (log entry 6, DESIGN CHOICE). Every set holds 24-bit two's complement numbers that sum to 2^22; a LINEAR set (0, 2 and 8 to 15) is
symmetric, its centre making up the sum; of a MINIMUM set the first coefficient makes up the sum. Free numbers for which no 24-bit number
makes up the sum stand for the set that passes its input through. -/
def filterCoef (taps set i : Nat) : Int :=
  let linear := set == 0 || set == 2 || (8 ≤ set && set < 16)
  let at_ := if linear then taps / 2 else 0
  let rest := if linear then 2 * ((List.range (taps / 2)).map (freeCoef set)).foldl (· + ·) 0
    else ((List.range (taps - 1)).map (fun j => freeCoef set (j + 1))).foldl (· + ·) 0
  let fits := decide (2 ^ 22 - rest < 2 ^ 23) && decide (-(2 ^ 23) ≤ 2 ^ 22 - rest)
  if taps ≤ i then 0
  else if i = at_ then (if fits then 2 ^ 22 - rest else 2 ^ 22)
  else if !fits then 0
  else if linear then freeCoef set (min i (taps - 1 - i)) else freeCoef set i

/-- The coefficients of a stage (R104, R109). -/
def coefSet (taps set : Nat) : List Int :=
  if set = 32 then boxPower 6 else (List.range taps).map (filterCoef taps set)

/-- Rounding of a stage (R104): S1 adds 2^17 and shifts by 18, the others add 2^21 and shift by 22. -/
def stageRound (set : Nat) (acc : Int) : Int := if set = 32 then asr (acc + 2 ^ 17) 18 else asr (acc + 2 ^ 21) 22

/-- The largest magnitude that a clean sample of SEISMIC reaches (R104): 1.32 × FS_C, rounded down. -/
def seisBound : Int := 362838837166

/-- One stage's output from its full delay line: a word of 44 bits (R104). A sum beyond them saturates (log entry 118, DESIGN CHOICE). -/
def stageOut (st : Nat × Nat × Nat) (line : List Sample) : Option Sample :=
  if line.length < st.1 then none
  else (marksOf line).map (fun m =>
    { val := satSigned 44 (stageRound st.2.2 (firSum (coefSet st.1 st.2.2) line)), marks := m })

/-- Push a sample down the stages before the last: a stage with its decimation due at base index `k` hands its output on. The
phase of each stage follows from the output grid (R107): an output falls where k - delay is a whole multiple of the
decimation so far. -/
def seisPush (delay k : Nat) : Nat → List (Nat × Nat × Nat) → List (List Sample) → Sample → List (List Sample)
  | _, [], _, _ => []
  | dec, st :: sts, lines, x =>
    let line := (x :: lines.headD []).take st.1
    let dec' := dec * st.2.1
    if sts.isEmpty then [line]
    else if ((k : Int) - delay) % dec' = 0 then
      match stageOut st line with
      | some y => line :: seisPush delay k dec' sts lines.tail y
      | none => line :: lines.tail
    else line :: lines.tail

/-- A base sample enters SEISMIC. -/
def State.seisAdd (s : State) (n : Nat) (x : Sample) : State :=
  let rate := s.fld (Reg.PCH_SEIS_CFG n) Fld.PCH_SEIS_CFG_RATE
  let phase := s.fld (Reg.PCH_SEIS_CFG n) Fld.PCH_SEIS_CFG_PHASE
  let chain := seisChain rate phase
  let lines := (s.pchU n).seis ++ List.replicate (chain.length - (s.pchU n).seis.length) []
  s.setPch n { s.pchU n with seis := seisPush (seisDelay rate phase) x.marks.last 1 chain lines x }

/-- SEISMIC_OUTPUT (R103 to R107): where k_e - delay is a whole multiple of D, FN's output is delivered with the time of base
sample k_e - delay. -/
def seismicOutput (s : State) (n : Nat) : State :=
  let u := s.pchU n
  let rate := s.fld (Reg.PCH_SEIS_CFG n) Fld.PCH_SEIS_CFG_RATE
  let phase := s.fld (Reg.PCH_SEIS_CFG n) Fld.PCH_SEIS_CFG_PHASE
  match (seisChain rate phase).getLast?, u.seis.getLast? with
  | some st, some line =>
    match stageOut st line with
    | none => s
    | some y =>
      let ke := y.marks.last
      let delay := seisDelay rate phase
      if !hasPch s.fac.variant n || ((ke : Int) - delay) % seisD rate != 0 || ke < delay || u.seisDone == some ke then s else
      let s := s.setPch n { u with seisDone := some ke }
      let v := outVal y.marks.seUni (s.flag (Reg.PCH_FMT n) Fld.PCH_FMT_FORM_SEISMIC)
        (s.fld (Reg.PCH_FMT n) Fld.PCH_FMT_S_SEISMIC) (ovrValue y.marks (clampInt (-seisBound) seisBound y.val))
        (s.stamp n ((ke - delay : Nat) : Int) 256000) (attrsOf u y.marks)
      s.deliverOut n 1 ((ke - delay) / seisD rate) (32 * seisD rate) v Fld.PCH_FLT_STAT_SEIS_FILL
  | _, _ => s

/-! ### Restarts -/

/-- The base sample for which the first SEISMIC sample after base sample `k` stands whose whole input window lies after it (R92, R107). -/
def State.seisFirst (s : State) (n k : Nat) : Nat :=
  let rate := s.fld (Reg.PCH_SEIS_CFG n) Fld.PCH_SEIS_CFG_RATE
  let phase := s.fld (Reg.PCH_SEIS_CFG n) Fld.PCH_SEIS_CFG_PHASE
  let span := ((seisChain rate phase).foldl (fun (a : Nat × Nat) st => (a.1 + (st.1 - 1) * a.2, a.2 * st.2.1)) (1, 1)).1
  let d := seisD rate
  (k + span - seisDelay rate phase + d - 1) / d * d

/-- The time of the first sample due on an output after a restart (R92, R108): the first sample of the output's own grid whose
whole input window lies after base sample `k`. -/
def State.firstDue (s : State) (n out k : Nat) : Time :=
  if out = 2 then s.stamp n ((k + 1 + 14 + 7) / 8 * 8 : Nat) 256000
  else if out = 0 then
    let w := (s.firstWindow n (k + 1)).1
    s.stamp n (w.b0 + w.b1 : Nat) (2 * 4096000)
  else s.stamp n (s.seisFirst n k : Nat) 256000

/-- Restart one output of a channel (R92), once the outputs run (R89); before the first base sample is passed on, the chain waits for
those that are still discarded (R54): its state is cleared, with MONITOR's that of the mains tracker that runs on it, whose VALID and
PERIOD stay (R100; log entry 89, DESIGN CHOICE), RESTART_S and the output's FILL bit set, FILTER_RESTART is
written, and the latest-result register restarts if it takes this output (R76). The rule gives its causes no codes: 0 reset, 1 step of
time, 2 write (log entry 118, DESIGN CHOICE). -/
def State.restartChain (s : State) (n out cause : Nat) : State :=
  if !s.baseRunning then s else
  let u := s.pchU n
  let s := s.setPch n (if out = 2 then
      { u with mon := [], monDone := none, monFrom := s.baseIdx.toNat + u.discard, snapMon := none, mains := { lastTc := u.mains.lastTc, lastAt := u.mains.lastAt } }
    else if out = 0 then { u with stat := none, snapStat := none }
    else { u with seis := [], seisDone := none, seisFrom := s.baseIdx.toNat + u.discard, snapSeis := none })
  let fill := if out = 2 then Fld.PCH_FLT_STAT_MON_FILL else if out = 0 then Fld.PCH_FLT_STAT_STAT_FILL
    else Fld.PCH_FLT_STAT_SEIS_FILL
  let s := (s.raise (Reg.PCH_FLT_STAT n) Fld.PCH_FLT_STAT_RESTART_S).raise (Reg.PCH_FLT_STAT n) fill
  let s := s.emit 0x0132 n [n, out, cause, (s.firstDue n out (s.baseIdx.toNat + u.discard)).toNat]
  let s := s.discontinue (srckOfPch out) n
  if s.fld (Reg.PCH_FMT n) Fld.PCH_FMT_RES_SRC = out then s.restartRes n else s

/-- Every output of every present channel restarts (R92). -/
def State.restartAllChains (s : State) (cause : Nat) : State :=
  (List.range 64).foldl (fun s n =>
    if hasPch s.fac.variant n then ((s.restartChain n 2 cause).restartChain n 0 cause).restartChain n 1 cause else s) s

/-- What a write of PCH_STATIC_CFG leaves unchanged (R98): SMODE 3 and NCYC 0 or above 250 are reserved. -/
def pchStaticCfgReject (v : Word) : Word :=
  let ncyc := getField Fld.PCH_STATIC_CFG_NCYC v
  rejectIf (getField Fld.PCH_STATIC_CFG_SMODE v == 3) Fld.PCH_STATIC_CFG_SMODE |||
    rejectIf (ncyc == 0 || ncyc > 250) Fld.PCH_STATIC_CFG_NCYC

/-- A write of PCH_STATIC_CFG (R92, R98): a change restarts STATIC. -/
def pchStaticCfgWrite (s : State) (n : Nat) (v : Word) : State :=
  if !hasPch s.fac.variant n then s.writeAbsent n 64 (Reg.PCH_STATIC_CFG n) else
  let rej := pchStaticCfgReject v
  let old := s.reg (Reg.PCH_STATIC_CFG n)
  let s := s.writeJudged (Reg.PCH_STATIC_CFG n) 0xE03F00FF rej v (Reg.PCH_STAT n) Fld.PCH_STAT_CFG_REJ
  if s.reg (Reg.PCH_STATIC_CFG n) = old then s else s.restartChain n 0 2

/-- A write of PCH_STATIC_TIME (R92, R98): TLEN below 4096 is reserved; a change while SMODE is FIXED_TIME restarts STATIC. -/
def pchStaticTimeWrite (s : State) (n : Nat) (v : Word) : State :=
  if !hasPch s.fac.variant n then s.writeAbsent n 64 (Reg.PCH_STATIC_TIME n) else
  let tlen := getField Fld.PCH_STATIC_TIME_TLEN v
  if tlen < 4096 then s.raise (Reg.PCH_STAT n) Fld.PCH_STAT_CFG_REJ
  else
    let old := s.fld (Reg.PCH_STATIC_TIME n) Fld.PCH_STATIC_TIME_TLEN
    let s := s.setFld (Reg.PCH_STATIC_TIME n) Fld.PCH_STATIC_TIME_TLEN tlen
    if tlen ≠ old ∧ s.fld (Reg.PCH_STATIC_CFG n) Fld.PCH_STATIC_CFG_SMODE = 2 then s.restartChain n 0 2 else s

/-- A write of PCH_SEIS_CFG (R92, R93): a change of RATE or PHASE is refused while the SEISMIC output is consumed; otherwise it
restarts SEISMIC, and PCH_SEIS_DELAY follows (R106). -/
def pchSeisCfgWrite (s : State) (n : Nat) (v : Word) : State :=
  if !hasPch s.fac.variant n then s.writeAbsent n 64 (Reg.PCH_SEIS_CFG n) else
  let old := s.reg (Reg.PCH_SEIS_CFG n)
  let new := v &&& 0x80000007
  if new = old then s
  else if s.consumed (srckOfPch 1) n then s.raise (Reg.PCH_STAT n) Fld.PCH_STAT_CFG_REJ
  else
    let s := s.setReg (Reg.PCH_SEIS_CFG n) new
    let s := s.setFld (Reg.PCH_SEIS_DELAY n) Fld.PCH_SEIS_DELAY_DELAY
      (seisDelay (getField Fld.PCH_SEIS_CFG_RATE new) (getField Fld.PCH_SEIS_CFG_PHASE new))
    s.restartChain n 1 2

/-- What PCH_COEF_DATA reads (R109): the selected coefficient, 0 for other sets and for indices beyond the stage's taps. -/
def State.coefData (s : State) (n : Nat) : Word :=
  let set := s.fld (Reg.PCH_COEF_SEL n) Fld.PCH_COEF_SEL_SET
  let i := s.fld (Reg.PCH_COEF_SEL n) Fld.PCH_COEF_SEL_INDEX
  let taps := if set < 2 then 59 else if set < 4 then 99 else if 8 ≤ set ∧ set < 24 then 191 else 0
  BitVec.ofInt 32 (filterCoef taps set i)

end Sys2Proof.Machine
end

