-- ==== Sys2Proof/Machine/Checker.lean ====
section
/-!
DEFINITION. The bank checker and its sequencer (R110 to R131): the slot schedule, the comparison with the channel, the internal
points, drift tracking, on-demand conversions.
-/
namespace Sys2Proof.Machine

/-- The present instant in modulator clocks since the epoch (R112): 16 to a base sample, one to four AON cycles. -/
def State.modClock (s : State) : Nat := 16 * s.baseIdx.toNat + s.sinceBase / 4

/-- Whether channel `n`'s bit of CH_MASK is set in BANK_CFG as written (R120). -/
def State.chMasked (s : State) (n : Nat) : Bool := !s.regBit (Reg.BANK_CFG (n / 8)) (n % 8)

/-- UNCHK sets (R120): cause 0 mask, 1 no valid slot. -/
def State.setCheckUnchecked (s : State) (n cause : Nat) : State :=
  if s.flag (Reg.CHK_CH_STAT (n / 8) (n % 8)) Fld.CHK_CH_STAT_UNCHK then s
  else
    let s := s.setLive (Reg.CHK_CH_STAT (n / 8) (n % 8)) Fld.CHK_CH_STAT_UNCHK Fld.CHK_CH_STAT_UNCHK_S true
    (s.emit 0x0142 n [n, cause, (s.chkU n).lastAt.toNat]).verifyP n

/-- The channels of bank `m` whose CH_MASK bit is 0 are unchecked (R120). -/
def State.maskUnchecked (s : State) (m : Nat) : State :=
  (List.range 8).foldl (fun s j =>
    let n := 8 * m + j
    if hasPch s.fac.variant n && s.chMasked n then s.setCheckUnchecked n 0 else s) s

/-! ### Registers -/

/-- The writable bits of BANK_CFG, BANK_TIME, BANK_FAST, BANK_TOL and BANK_REF_TOL (R144). -/
def bankCfgMasks : List Word := [0xFFFFC0FF, 0x01FFFFFF, 0x0001FFFF, 0xFFFFFFFF, 0x00FFFFFF]

/-- What a write of one of those registers leaves unchanged (R27, R114): reserved encodings, values out of range, and CH_MASK
outside SERVICE where the write would change it. -/
def State.bankCfgReject (s : State) (m i : Nat) (v : Word) : Word :=
  match i with
  | 0 =>
    rejectIf (getField Fld.BANK_CFG_SLOT v == 3) Fld.BANK_CFG_SLOT |||
    rejectIf (getField Fld.BANK_CFG_CHK_N v == 0) Fld.BANK_CFG_CHK_N |||
    rejectIf (!s.inService && getField Fld.BANK_CFG_CH_MASK v != s.fld (Reg.BANK_CFG m) Fld.BANK_CFG_CH_MASK)
      Fld.BANK_CFG_CH_MASK
  | 1 => let l := getField Fld.BANK_TIME_SLOT_TLEN v; rejectIf (l < 4096 || l > 33554431) Fld.BANK_TIME_SLOT_TLEN
  | 2 => let l := getField Fld.BANK_FAST_FAST_LEN v; rejectIf (l < 2048 || l > 81920) Fld.BANK_FAST_FAST_LEN
  | 3 =>
    rejectIf (getField Fld.BANK_TOL_CHK_TOL_FAST v == 0) Fld.BANK_TOL_CHK_TOL_FAST |||
    rejectIf (getField Fld.BANK_TOL_CHK_TOL v == 0) Fld.BANK_TOL_CHK_TOL
  | _ =>
    rejectIf (getField Fld.BANK_REF_TOL_TEMP_TOL v == 0) Fld.BANK_REF_TOL_TEMP_TOL |||
    rejectIf (getField Fld.BANK_REF_TOL_REF_TOL v == 0) Fld.BANK_REF_TOL_REF_TOL

/-- A write of BANK_CFG (`i` = 0), BANK_TIME, BANK_FAST, BANK_TOL or BANK_REF_TOL (R114): in effect from the next cycle on. -/
def bankCfgWrite (s : State) (m i : Nat) (v : Word) : State :=
  if i ≥ 5 then s else if !hasBank s.fac.variant m then s.writeAbsent m 8 (Reg.BANK_CFG m + 4 * i) else
  let s := s.writeJudged (Reg.BANK_CFG m + 4 * i) (bankCfgMasks.getD i 0) (s.bankCfgReject m i v) v (Reg.BANK_STAT m)
    Fld.BANK_STAT_CFG_REJ
  s.maskUnchecked m

/-! ### The slot schedule -/

/-- L of R112 with a cycle's latched configuration. -/
def State.slotLen (s : State) (b : Bank) : Nat :=
  match getField Fld.BANK_CFG_SLOT b.cfg with
  | 0 =>
    let ch := getField Fld.BANK_CFG_MAINS_CH b.cfg
    if s.flag (Reg.PCH_MAINS_PER ch) Fld.PCH_MAINS_PER_VALID then
      (roundDiv (s.fld (Reg.PCH_MAINS_PER ch) Fld.PCH_MAINS_PER_PERIOD) 16).toNat
    else mainsLen 1 (getField Fld.BANK_CFG_MAINS_NOM b.cfg)
  | 1 => getField Fld.BANK_TIME_SLOT_TLEN b.time
  | _ => getField Fld.BANK_FAST_FAST_LEN b.fast

/-- The positions and points of a cycle (R113). -/
def cyclePoints (mask opens : Nat) : List (Nat × Nat) :=
  ([(0, 0), (1, 1), (2, 8), (3, 2), (4, 3), (5, 9), (6, 4), (7, 5), (8, 10), (9, 6), (10, 7), (11, 11)].filter
    (fun p => p.2 ≥ 8 || bitAt mask p.2)) ++ List.replicate opens (12, 12)

/-- Start a cycle at `nextB` (R113, R114): the five registers are latched. -/
def State.startCycle (s : State) (m : Nat) (b : Bank) : Bank :=
  let cfg := s.reg (Reg.BANK_CFG m)
  let todo := cyclePoints (getField Fld.BANK_CFG_CH_MASK cfg) (getField Fld.BANK_CFG_OPEN cfg)
  { b with cfg := cfg, time := s.reg (Reg.BANK_TIME m), fast := s.reg (Reg.BANK_FAST m), tol := s.reg (Reg.BANK_TOL m),
           refTol := s.reg (Reg.BANK_REF_TOL m), todo := todo, slots := todo.length, appended := false }

/-- The sequencer starts at the end of BOOT (R114, R124): nothing is measured yet, zc is 0. -/
def State.startBank (s : State) (m : Nat) : State :=
  if !hasBank s.fac.variant m then s else
  (s.setBank m { running := true, nextB := s.modClock, cycleB := s.modClock }).maskUnchecked m

/-- What a slot that has ended is known to be (R118, R122): OVERRANGE, SETTLING or valid, as 3, 4 or 0. Time left idle converts no point and
has no status; `lastOver` passes over it (log entry 90, DEDUCED). -/
def Slot.standing (sl : Slot) (lastOver : Bool) : Nat :=
  if sl.ovld || sl.ovr.isSome then 3
  else if sl.missing || lastOver || sl.settle then 4
  else 0

/-! ### The aligned value -/

/-- A base sample enters a slot of its channel (R115, R117, R122): the samples R40 holds take no part. -/
def Slot.feed (sl : Slot) (k : Nat) (changed : Bool) (o : Option BaseOut) : Slot :=
  let w := overlap k sl.b0 sl.b1
  if w = 0 then sl else
  let sl := if changed then { sl with settle := true } else sl
  match o with
  | none => { sl with missing := true }
  | some x =>
    let sl := { sl with ovr := if x.ovr then some (k, x.neg) else sl.ovr, fovl := sl.fovl || x.fovl }
    if x.blank then sl
    else { sl with num := sl.num + w * x.x.val, cnum := sl.cnum + w * x.c, fnum := sl.fnum + w * x.f, wt := sl.wt + w }

/-- Base sample `k` of channel `n` enters the slots of that channel, and is kept for a slot that begins within its cell (R115). -/
def State.feedChecker (s : State) (n k : Nat) (o : Option BaseOut) : State :=
  let m := n / 8
  let b := s.bankU m
  let c := s.chkU n
  let changed := c.changeAt == some k
  let go := fun (sl : Slot) => if sl.point == n % 8 then sl.feed k changed o else sl
  let s := s.setChk n { c with recent := (k, changed, o) :: c.recent.filter (fun x => decide (b.nextB < 16 * x.1 + 8)) }
  if b.cur.isNone && b.ended.isEmpty then s
  else s.setBank m { b with cur := b.cur.map go, ended := b.ended.map go }

/-- A weighted mean as R97 rounds it. -/
def meanR97 (num : Int) (wt : Nat) : Int := (2 * num + wt).fdiv (2 * wt)

/-- a of R115, before the coding of R68; the saturation code where the window holds an overrange base sample (R66). -/
def Slot.aligned (sl : Slot) : Int :=
  match sl.ovr with
  | some (_, neg) => if neg then -(2 ^ 39) else 2 ^ 39 - 1
  | none => meanR97 sl.num sl.wt

/-- A slot of point `p` over [b0, b1) of bank `m`, under the configuration latched in `b` (R112, R122, R141): a channel's slot takes its entry
as it stands now and the base samples already taken whose cells reach into its window (R115), and one that begins within 8 base
samples after a change under R28 settles. -/
def State.newSlot (s : State) (m : Nat) (b : Bank) (p b0 b1 : Nat) (isRepeat : Bool) (od : Option OnDemand) : Slot :=
  let sl : Slot := { point := p, cfg := b.cfg, tol := b.tol, refTol := b.refTol, b0 := b0, b1 := b1, isRepeat := isRepeat, od := od,
                     ovld := s.flag Reg.SAF_SUP Fld.SAF_SUP_REF }
  if p < 8 then
    let n := 8 * m + p
    let e := s.pEntry n (s.gainOf n)
    let c := s.chkU n
    let near := match c.changeAt with
      | none => false
      | some k => decide (b0 < 16 * (k + 8) + 8)
    c.recent.foldr (fun x (sl : Slot) => sl.feed x.1 x.2.1 x.2.2) { sl with gain := s.gainOf n, kk := e.kk, ok := e.ok, settle := near }
  else sl

/-- OD_BUSY (R144): an on-demand request waits or runs. -/
def State.showOdBusy (s : State) (m : Nat) : State :=
  let b := s.bankU m
  let busy := b.waiting.isSome || (match b.cur with | some sl => sl.od.isSome | none => false) ||
    b.ended.any (fun sl => sl.od.isSome)
  s.setFld (Reg.BANK_STAT m) Fld.BANK_STAT_OD_BUSY (bit busy)

/-- Begin a slot (R112, R113) and show it in BANK_STAT. Positions 0 to 11 are the schedule's; of the others R144 says only that
they read 12 or above. -/
def State.openSlot (s : State) (m : Nat) (b : Bank) (pos b1 : Nat) (sl : Slot) : State :=
  let p := s.freeNat 2
  let s := p.2
  let s := s.setBank m { b with cur := some sl, nextB := b1 }
  let s := s.setFld (Reg.BANK_STAT m) Fld.BANK_STAT_POS (if pos < 12 then pos else 12 + p.1)
  let s := s.setFld (Reg.BANK_STAT m) Fld.BANK_STAT_POINT (if sl.od.isSome then 13 else min sl.point 12)
  let s := s.setFld (Reg.BANK_STAT m) Fld.BANK_STAT_CYCLE_SLOTS (min b.slots 255)
  (s.setFld (Reg.BANK_STAT m) Fld.BANK_STAT_FAST (bit (getField Fld.BANK_CFG_SLOT b.cfg == 2))).showOdBusy m

/-- The first boundary of the slot mode at or after the end of the last slot (R112). -/
def State.slotGrid (s : State) (b : Bank) : Nat :=
  let grid := s.slotLen b
  if getField Fld.BANK_CFG_SLOT b.cfg = 0 || grid = 0 then b.nextB else (b.nextB + grid - 1) / grid * grid

/-- A slot of the cycle begins where the last one ended (R112). -/
def State.beginSlot (s : State) (m : Nat) (b : Bank) (pos point : Nat) (isRepeat : Bool) (od : Option OnDemand) : State :=
  let l := match od with
    | none => s.slotLen b
    | some o => if o.len = 0 then s.slotLen b else o.len
  let b1 := b.nextB + max l 1
  s.openSlot m b pos b1 (s.newSlot m b point b.nextB b1 isRepeat od)

/-- The checker is idle until the next boundary of the slot mode (R112, R114). -/
def State.awaitBoundary (s : State) (m : Nat) (b : Bank) : State :=
  let b1 := s.slotGrid b
  s.openSlot m b 12 b1 (s.newSlot m b 14 b.nextB b1 false none)

/-- The running slot ends: what it was is kept for its result, and a SETTLING slot of the schedule asks for one repeat (R123). An
on-demand slot, which the schedule has no point for, gets none (log entry 91, DEDUCED). -/
def Bank.closeSlot (b : Bank) (overload : Bool) : Bank :=
  match b.cur with
  | none => b
  | some sl =>
    let sl := { sl with ovld := sl.ovld || overload }
    let before := match (b.ended.filter (fun p => decide (p.point < 12))).getLast? with
      | none => b.lastOver
      | some p => p.standing false == 3
    let rep := sl.point < 12 && sl.od.isNone && !sl.isRepeat && sl.standing before == 4
    { b with cur := none, ended := b.ended ++ [{ sl with repeated := rep }],
             repeatPt := if rep then some sl.point else b.repeatPt, slots := if rep then b.slots + 1 else b.slots }

/-- A cycle ends where the slot before it ended (R121) and the next one begins there, or at the new slot mode's first boundary (R114). -/
def State.firstSlot (s : State) (m : Nat) (b : Bank) : State :=
  let b := if b.slots = 0 then b
    else { b with done := some { dur := b.nextB - b.cycleB, len := s.slotLen b, cfg := b.cfg } }
  let b := s.startCycle m b
  let b := { b with cycleB := s.slotGrid b }
  if b.cycleB ≠ b.nextB then s.awaitBoundary m b else
  match b.todo with
  | (pos, p) :: rest => s.beginSlot m { b with todo := rest } pos p false none
  | [] => s.setBank m b

/-- The next slot of the cycle (R113, R123, R129): a repeat, the schedule, an open slot for the waiting request, one appended
slot; and after the last, the first slot of a new cycle. Between boundaries of the slot mode the checker is idle. -/
def State.nextSlot (s : State) (m : Nat) (b : Bank) : State :=
  if b.slots ≠ 0 ∧ s.slotGrid b ≠ b.nextB then s.awaitBoundary m b else
  match b.repeatPt with
  | some p => s.beginSlot m { b with repeatPt := none } 12 p true none
  | none =>
    match b.todo with
    | (pos, 12) :: rest =>
      match b.waiting with
      | some o => s.beginSlot m { b with todo := rest, waiting := none } pos o.point false (some o)
      | none => s.beginSlot m { b with todo := rest } pos 12 false none
    | (pos, p) :: rest => s.beginSlot m { b with todo := rest } pos p false none
    | [] =>
      match b.waiting with
      | some o =>
        if getField Fld.BANK_CFG_OPEN b.cfg = 0 ∧ !b.appended ∧ b.slots ≠ 0 then
          s.beginSlot m { b with waiting := none, appended := true, slots := b.slots + 1 } 12 o.point false (some o)
        else s.firstSlot m b
      | none => s.firstSlot m b
/-- CHECKER_SLOT_BOUNDARY (R112, R113): the running slot has reached its end, with `overload` whether its integrator overloaded (R110),
and the next one begins. -/
def checkerSlotBoundary (s : State) (m : Nat) (overload : Bool) : State :=
  let b := s.bankU m
  if !hasBank s.fac.variant m || !b.running || s.modClock < b.nextB then s else s.nextSlot m (b.closeSlot overload)

/-! ### Results -/

/-- MEAS_BUSY (R137). -/
def State.showMeas (s : State) : State :=
  s.setFld Reg.CAL_STAT Fld.CAL_STAT_MEAS_BUSY (bit ((List.range 8).any (fun m => (s.bankU m).meas.isSome)))

/-- A slot's R97 mean, formed in two's complement; free where no sample's weight lies in the window. -/
def State.slotMean (s : State) (sl : Slot) (num : Int) : Int × State :=
  if sl.wt = 0 then
    let f := s.freeNat 40
    (signedOf 40 f.1, f.2)
  else (meanR97 num sl.wt, s)

/-- Where the measurement of a system calibration takes a slot of its channel, an on-demand one too (R137): a valid slot that began after
acceptance counts; OVERRANGE ends the command with INVALID. -/
def State.measureSlot (s : State) (m : Nat) (sl : Slot) (status : Nat) (k2 : Int) : State :=
  let b := s.bankU m
  match b.meas with
  | none => s
  | some me =>
    if me.ch % 8 != sl.point || sl.b0 < me.since || me.taken ≥ me.count then s
    else if status = 3 then
      ((s.setBank m { b with meas := none }).settle me.src (if me.full then 0x0042 else 0x0041) me.tag
        { status := stInvalid }).showMeas
    else if status = 1 ∨ status = 2 then
      let c := s.slotMean sl sl.cnum
      let f := c.2.slotMean sl sl.fnum
      f.2.setBank m { b with meas := some { me with
        taken := me.taken + 1, sumC := me.sumC + c.1, sumF := me.sumF + f.1, sumK := me.sumK + k2, fovl := me.fovl || sl.fovl } }
    else s
/-- The open-wire judgement at the end of a slot of the channel (R30, R32): `p` and `n` say whether the ball lay beyond the pin
limit in the direction of OW_POL throughout the last quarter of the slot. -/
def State.openWire (s : State) (n : Nat) (beyondP beyondN : Bool) : State :=
  if s.fld (Reg.PCH_CFG n) Fld.PCH_CFG_OW_MODE = 0 then s
  else (s.openBall n false beyondP).openBall n true beyondN

/-- The counts of R119 and R120 for a channel slot that belongs to the schedule. -/
def State.judgeChannel (s : State) (m : Nat) (sl : Slot) (n status : Nat) (a k2 : Int) : State :=
  let st := Reg.CHK_CH_STAT m (n % 8)
  if status ≠ 1 ∧ status ≠ 2 then s else
  let t : Time := BitVec.ofInt 64 (roundDiv ((sl.b0 : Int) * 2 ^ 32) 4096000)
  let c := s.chkU n
  let s := s.setChk n { c with valid := true, lastAt := t }
  let s := if s.flag st Fld.CHK_CH_STAT_UNCHK && !s.chMasked n then s.clear st Fld.CHK_CH_STAT_UNCHK else s
  let chkN := getField Fld.BANK_CFG_CHK_N sl.cfg
  if status = 2 then
    let first := if c.mism = 0 then sl.b0 else c.firstB
    let s := s.setChk n { s.chkU n with mism := c.mism + 1, agree := 0, firstB := first }
    let s := s.setFld st Fld.CHK_CH_STAT_MISM (min (c.mism + 1) 255)
    if c.mism + 1 ≥ chkN && !s.flag st Fld.CHK_CH_STAT_FAULT then
      let t0 : Time := BitVec.ofInt 64 (roundDiv ((first : Int) * 2 ^ 32) 4096000)
      (s.setLive st Fld.CHK_CH_STAT_FAULT Fld.CHK_CH_STAT_FAULT_S true).emitSafetyHeld 0x0140 n [n, sl.gain, t0.toNat, a, k2]
    else s
  else
    let s := s.setChk n { s.chkU n with mism := 0, agree := c.agree + 1 }
    let s := s.setFld st Fld.CHK_CH_STAT_MISM 0
    if s.flag st Fld.CHK_CH_STAT_FAULT && c.agree + 1 ≥ 4 then
      (s.clear st Fld.CHK_CH_STAT_FAULT).emit 0x0141 n [n, t.toNat]
    else s

/-- The result of a channel slot (R115 to R120, R144). Where no aligned value was formed, a is a free value. -/
def State.channelResult (s : State) (m : Nat) (sl : Slot) (status0 : Nat) (r : BitVec 32) (owP owN : Bool) :
    (Int × Int) × State :=
  let n := 8 * m + sl.point
  let zc := (s.reg (Reg.BANK_ZERO m)).toInt
  let k := asr ((r.toInt - zc) * s.kchk m sl.gain) 12
  let k2 := asr ((k - sl.ok * 256) * sl.kk) 22
  let f := s.freeNat 40
  let a := if sl.missing || sl.wt == 0 then signedOf 40 f.1 else sl.aligned
  let s := if sl.missing || sl.wt == 0 then f.2 else s
  let tolPpm := if getField Fld.BANK_CFG_SLOT sl.cfg = 2 then getField Fld.BANK_TOL_CHK_TOL_FAST sl.tol
    else getField Fld.BANK_TOL_CHK_TOL sl.tol
  let status := if status0 ≠ 0 then status0 else if (a - k2).natAbs ≤ tolPpm * 2 ^ 38 / 1000000 then 1 else 2
  let st := Reg.CHK_CH_STAT m sl.point
  let s := s.setFld st Fld.CHK_CH_STAT_SLOTSEQ (s.fld st Fld.CHK_CH_STAT_SLOTSEQ + 1)
  let s := s.setFld st Fld.CHK_CH_STAT_LAST status
  let s := if status = 2 then s.count (Reg.CHK_CH_TOTAL m sl.point) word32 else s
  let s := s.setReg (Reg.CHK_CH_A_LO m sl.point) (BitVec.ofNat 32 (twos 40 a))
  let s := s.setReg (Reg.CHK_CH_K_LO m sl.point) (BitVec.ofNat 32 (twos 40 k2))
  let s := s.setReg (Reg.CHK_CH_HI m sl.point) (BitVec.ofNat 32 (256 * (twos 40 k2 / 2 ^ 32) + twos 40 a / 2 ^ 32))
  let s := s.setReg (Reg.CHK_CH_DIFF m sl.point) (BitVec.ofInt 32 (satSigned 32 (roundDiv ((a - k2) * 10 ^ 8) (2 ^ 38))))
  let s := s.openWire n owP owN
  let s := if sl.od.isSome then s else s.judgeChannel m sl n status a k2
  let s := if status = 1 ∧ sl.od.isNone then s.firstAgree n else s
  ((a, k2), (s.measureSlot m sl status k2).verifyP n)

/-- A point of R125 becomes faulted or recovers, for REF_FAULT and TEMP_FAULT; the record names it by its code in BANK_STAT.POINT (R131). -/
def State.pointTransition (s : State) (m i : Nat) (now : Bool) (value expected : Int) : State :=
  let st := Reg.BANK_STAT m
  if i = 3 then
    let s := s.setLive st Fld.BANK_STAT_TEMP_FAULT Fld.BANK_STAT_TEMP_FAULT_S now
    let s := if now then s.raise Reg.SAF_STAT Fld.SAF_STAT_TEMP_S else s
    s.emit 0x0145 m [m, value, expected, bit now]
  else
    let pts := (s.bankU m).points
    let any := (List.range 3).any (fun j => (pts.getD j {}).faulted)
    let s := if now then s.emit 0x0143 m [m, 8 + i, value, expected] else s
    let s := if any then
        if s.flag st Fld.BANK_STAT_REF_FAULT then s else s.setLive st Fld.BANK_STAT_REF_FAULT Fld.BANK_STAT_REF_FAULT_S true
      else if s.flag st Fld.BANK_STAT_REF_FAULT then (s.clear st Fld.BANK_STAT_REF_FAULT).emit 0x0144 m [m]
      else s
    (List.range 8).foldl (fun s j => s.verifyP (8 * m + j)) s

/-- One slot of an internal point counts, with CHK_N of its cycle (R125): `i` is 0 ZERO, 1 +REF, 2 -REF, 3 TEMP. -/
def State.countPoint (s : State) (m chkN i : Nat) (out : Bool) (value expected : Int) : State :=
  let b := s.bankU m
  let p := b.points.getD i {}
  let p' : PointCheck := if out then { p with out := p.out + 1, within := 0 } else { p with out := 0, within := p.within + 1 }
  let now := if !p.faulted && out && p'.out ≥ chkN then true else if p.faulted && p'.within ≥ 4 then false else p.faulted
  let s := s.setBank m { b with points := b.points.set i { p' with faulted := now } }
  if now == p.faulted then s else s.pointTransition m i now value expected

/-- T_b in 1/256 °C from v_T (R124), rounded down (log entry 92, DESIGN CHOICE; BANK_TEMP shows it saturated). -/
def bankTemp (t25 slope : Nat) (vT : Int) : Int := 256 * 25 + (vT - t25 * 2 ^ 14).fdiv slope

/-- The result of an internal point's slot (R118, R124, R125). A valid on-demand slot updates what
R124 derives and takes no part in the checks (R129). A slot that is OVERRANGE or SETTLING updates neither zc nor BANK_TEMP (log entry 119,
DESIGN CHOICE). -/
def State.pointResult (s : State) (m : Nat) (sl : Slot) (status0 : Nat) (r : BitVec 32) : State :=
  let i := sl.point - 8
  let b := s.bankU m
  let c := s.bankConst m
  let zc := (s.reg (Reg.BANK_ZERO m)).toInt
  let v := asr ((r.toInt - zc) * s.kchk m 0) 20
  let value := if i = 0 then r.toInt else v
  let tb := bankTemp c.2.2.1 c.2.2.2 v
  let tj := signedOf 16 (s.fld Reg.PACER_STAT Fld.PACER_STAT_TJ)
  let tol := getField Fld.BANK_REF_TOL_REF_TOL sl.refTol
  let expected := if i = 0 then 0 else if i = 1 then c.1 else if i = 2 then c.2.1 else tj
  let out := if i = 0 then decide (1000 * r.toInt.natAbs > 2 ^ 28)
    else if i = 3 then decide ((tb - tj).natAbs > 256 * getField Fld.BANK_REF_TOL_TEMP_TOL sl.refTol)
    else decide ((v - expected).natAbs * 1000000 > tol * 2 ^ 30)
  let status := if status0 ≠ 0 then status0 else if out then 2 else 1
  let s := s.setReg (Reg.BANK_PT_ZERO m + 4 * i) (BitVec.ofNat 32 (status * 2 ^ 28 + twos 28 (asr value 4)))
  if status0 ≠ 0 then s
  else
    let s := if i = 0 then s.setReg (Reg.BANK_ZERO m) (BitVec.ofInt 32 (zc + asr (r.toInt - zc) 2))
      else if i = 3 then s.setFld (Reg.BANK_TEMP m) Fld.BANK_TEMP_TB (twos 16 (satSigned 16 tb))
      else s
    if sl.od.isSome then s else
    let s := if i = 1 then s.setBank m { b with vp := if out then none else some v }
      else if i = 2 then s.setBank m { b with vm := if out then none else some v }
      else s
    s.countPoint m (getField Fld.BANK_CFG_CHK_N sl.cfg) i out (if i = 3 then tb else value) expected

/-- Publish the oldest ended slot of a bank (R110, R118): its status in slot order, and the repeat of a slot found SETTLING only
now (R123). Answers a with k2, or the raw ratio twice: r_z for ZERO, the ratio v of R124 for the other internal points (log entry 119,
DESIGN CHOICE). -/
def State.publish (s : State) (m : Nat) (sl : Slot) (rest : List Slot) (r : BitVec 32) (owP owN : Bool) :
    (Int × Int) × State :=
  let b := s.bankU m
  let st := sl.standing b.lastOver
  let rep := st == 4 && sl.point < 12 && sl.od.isNone && !sl.isRepeat && !sl.repeated && b.repeatPt.isNone
  let s := s.setBank m { b with ended := rest, lastOver := st == 3, repeatPt := if rep then some sl.point else b.repeatPt,
                                slots := if rep then b.slots + 1 else b.slots }
  if sl.point < 8 then s.channelResult m sl st r owP owN
  else if sl.point < 12 then
    let zc := (s.reg (Reg.BANK_ZERO m)).toInt
    let v := if sl.point = 8 then r.toInt else asr ((r.toInt - zc) * s.kchk m 0) 20
    ((v, v), s.pointResult m sl st r)
  else ((0, 0), s)

/-- The bank without the idle stretches at the front of the slots that have ended: these have no result, and an OVERRANGE slot before them
is still the one before the next slot (R122; log entry 90, DEDUCED). -/
def Bank.skipIdle (b : Bank) : Bank := { b with ended := b.ended.dropWhile (fun sl => decide (12 ≤ sl.point)) }

/-- Whether a slot's result can be given: its window has ended and the base samples whose cells reach into it have been taken (R115). -/
def State.slotDue (s : State) (sl : Slot) : Bool := decide (sl.b1 + 7 ≤ s.modClock)

/-- CHECKER_RESULT (R115 to R125): the raw result `r` of the oldest scheduled slot that has ended. -/
def checkerResult (s : State) (m : Nat) (r : BitVec 32) (owP owN : Bool) : State :=
  if !hasBank s.fac.variant m then s else
  let b := (s.bankU m).skipIdle
  match b.ended with
  | sl :: rest => if sl.od.isSome || !s.slotDue sl then s else ((s.setBank m b).publish m sl rest r owP owN).2
  | [] => s

/-! ### The end of a cycle -/

/-- The targets of R127 for a channel's present gain under a cycle's BANK_CFG, and whether R128 clamps one. -/
def State.driftTarget (s : State) (n : Nat) (b : Bank) (cfg : Word) : List Int × Bool :=
  let e := s.pEntry n (s.gainOf n)
  let entry : List Int := [e.kc, e.oc, e.kf, e.of]
  let ratio := getField Fld.PCH_CFG_REFSEL (s.pchU n).inForce == 1
  match b.sf with
  | none => (entry, false)
  | some sf =>
    if ratio || getField Fld.BANK_CFG_DRIFT_EN cfg == 0 || sf ≤ 0 || e.sref ≤ 0 then (entry, false)
    else
      let dO := roundDiv ((b.mf - e.mref) * 2 ^ 22) sf.toNat
      let gain := fun (k : Nat) => roundDiv ((k : Int) * sf) e.sref.toNat
      let limG := fun (k : Nat) (t : Int) => clampInt (k - (k * 200 / 1000000 : Nat)) (k + (k * 200 / 1000000 : Nat)) t
      let limO := fun (o t : Int) => clampInt (o - 4096) (o + 4096) t
      let want : List Int := [gain e.kc, e.oc - dO, gain e.kf, e.of - dO]
      let got : List Int := [limG e.kc (gain e.kc), limO e.oc (e.oc - dO), limG e.kf (gain e.kf), limO e.of (e.of - dO)]
      (got, got != want)

/-- One unit toward a target (R127). -/
def towards (x t : Int) : Int := if x < t then x + 1 else if x > t then x - 1 else x

/-- Drift tracking of one channel at the end of a cycle (R127, R128): targets frozen while REF_FAULT is set. Answers whether a
target is clamped. -/
def State.driftChannel (s : State) (m n : Nat) (cfg : Word) : Bool × State :=
  if !hasPch s.fac.variant n then (false, s) else
  let b := s.bankU m
  let g := s.gainOf n
  let p := s.driftTarget n b cfg
  let frozen := s.flag (Reg.BANK_STAT m) Fld.BANK_STAT_REF_FAULT
  let t := match (s.chkU n).target with
    | some (g0, t0) => if frozen && g0 == g then t0 else p.1
    | none => p.1
  let e := s.effOf n
  let e' : Eff := { kc := (towards e.kc (t.getD 0 e.kc)).toNat, oc := towards e.oc (t.getD 1 e.oc),
                    kf := (towards e.kf (t.getD 2 e.kf)).toNat, of := towards e.of (t.getD 3 e.of) }
  let s := s.setChk n { s.chkU n with target := some (g, t) }
  let s := if e' = e then s else { s with eff := Store.set (fun _ => none) s.eff (calKeyP n g) (some e') }
  (p.2 && !frozen, s)

/-- s_f and m_f after a cycle whose +REF and -REF slots were valid and within tolerance (R126, R136). -/
def State.trackReferences (s : State) (m : Nat) (cfg : Word) : State :=
  let b := s.bankU m
  match b.vp, b.vm with
  | some vp, some vm =>
    let x := asr (vp - vm) 1
    let y := asr (vp + vm) 1
    let d := getField Fld.BANK_CFG_DTAU cfg
    let sf := match b.sf with | none => x | some o => o + asr (x - o) d
    let mf := match b.sf with | none => y | some _ => b.mf + asr (y - b.mf) d
    let s := s.setBank m { b with sf := some sf, mf := mf, firstSM := b.firstSM.or (some (x, y)), vp := none, vm := none }
    (s.setReg (Reg.BANK_S m) (BitVec.ofInt 32 sf)).setReg (Reg.BANK_M m) (BitVec.ofInt 32 mf)
  | _, _ => s.setBank m { b with vp := none, vm := none }

/-- The cycles without a valid slot of a channel (R120). -/
def State.missedCycle (s : State) (n : Nat) (cfg : Word) : State :=
  if !hasPch s.fac.variant n || !bitAt cfg.toNat (n % 8) then s else
  let c := s.chkU n
  let w := if c.valid then 0 else c.without + 1
  let s := s.setChk n { c with valid := false, without := w }
  if w ≥ 3 then s.setCheckUnchecked n 1 else s

/-- SMON's detection bound of a bank that holds a safety channel (R439), in ms rounded up. -/
def State.detectionBound (s : State) (m : Nat) (d : CycleDone) : State :=
  let set := if m < 4 then (s.reg Reg.SAF_SET0).toNat / 2 ^ (8 * m) else (s.reg Reg.SAF_SET1).toNat / 2 ^ (8 * (m - 4))
  if set % 256 = 0 then s else
  let clocks2 := 2 * getField Fld.BANK_CFG_CHK_N d.cfg * d.dur + d.len + 8192
  let ms := (clocks2 + 8191) / 8192
  let s := s.setBank m { s.bankU m with dtbMs := ms }
  let worst := ((List.range 8).map (fun j => (s.bankU j).dtbMs)).foldl max 0
  let s := s.setFld Reg.SAF_DTB Fld.SAF_DTB_WORST (min worst 65535)
  if clocks2 > 8192 * s.fld Reg.SAF_DTB Fld.SAF_DTB_BUDGET then
    (s.raise Reg.SAF_STAT Fld.SAF_STAT_DTB_S).emitLimited 0x0507 0 m (secTime 60) false 1 (fun _ => [m, ms])
  else s

/-- DRIFT_LIM after the targets of a cycle (R128): the record names the first channel whose target is clamped. -/
def State.showDrift (s : State) (m : Nat) (clamped : Option Nat) : State :=
  let was := s.flag (Reg.BANK_STAT m) Fld.BANK_STAT_DRIFT_LIM
  let s := s.setLive (Reg.BANK_STAT m) Fld.BANK_STAT_DRIFT_LIM Fld.BANK_STAT_DRIFT_LIM_S clamped.isSome
  match clamped with
  | some n => if was then s else
    let b := s.bankU m
    s.emit 0x0146 m [m, n, b.sf.getD 0, b.mf]
  | none => s

/-- What the end of a cycle does before a calibration that waited for its s_f and m_f completes (R120, R126 to R128, R439). -/
def State.cycleEnd (s : State) (m : Nat) (d : CycleDone) : State :=
  let s := s.setBank m { s.bankU m with done := none }
  let s := s.setReg (Reg.BANK_CYCLE_T m) (BitVec.ofNat 32 d.dur)
  let s := s.trackReferences m d.cfg
  let p := (List.range 8).foldl (fun (p : Option Nat × State) j =>
    let q := p.2.driftChannel m (8 * m + j) d.cfg
    (if q.1 then p.1.or (some (8 * m + j)) else p.1, q.2)) (none, s)
  let s := if p.2.flag (Reg.BANK_STAT m) Fld.BANK_STAT_REF_FAULT then p.2 else p.2.showDrift m p.1
  let s := (List.range 8).foldl (fun s j => s.missedCycle (8 * m + j) d.cfg) s
  s.detectionBound m d

/-! ### On-demand conversions -/

/-- The checker is idle again in an open slot once an urgent conversion's window has ended: its result is due and the rest of the open slot
is free (R110, R129). -/
def State.freeOpen (s : State) (b : Bank) : Bank :=
  match b.cur with
  | some sl =>
    if (sl.od.any (·.urgent)) && decide (sl.b1 ≤ s.modClock) then
      { b with ended := b.ended ++ [sl], cur := some { point := 12, b0 := sl.b1, b1 := b.nextB } }
    else b
  | none => b

/-- The length of a requested window (R129). -/
def State.odLen (s : State) (b : Bank) (o : OnDemand) : Nat := if o.len = 0 then s.slotLen b else o.len

/-- What CHK_CONVERT does once its form and mode have been checked (R129). -/
def State.requestConversion (s : State) (m : Nat) (urgent : Bool) (o : OnDemand) : State :=
  let b := s.freeOpen (s.bankU m)
  let drop := fun (s : State) => (s.count (Reg.BANK_DROP_CNT m) Fld.BANK_DROP_CNT_DROPS).settle o.src 0x0040 o.tag
    { status := stDropped }
  if urgent then
    match b.cur with
    | some sl =>
      if sl.point = 12 then
        let b0 := s.modClock + 1
        let b1 := b0 + s.odLen b o
        if b1 ≤ sl.b1 then
          let s := s.setBank m { b with cur := some (s.newSlot m b o.point b0 b1 false (some { o with urgent := true })) }
          let s := s.setFld (Reg.BANK_STAT m) Fld.BANK_STAT_POINT 13
          (s.accept o.src 0x0040 o.tag 0).showOdBusy m
        else drop s
      else drop s
    | none => drop s
  else if b.waiting.isSome then s.settle o.src 0x0040 o.tag { status := stBusy }
  else ((s.setBank m { b with waiting := some o }).accept o.src 0x0040 o.tag 0).showOdBusy m

/-- The bytes of a little-endian number. -/
def leBytes (n v : Nat) : List Int := (List.range n).map (fun i => ((v / 256 ^ i % 256 : Nat) : Int))

/-- ON_DEMAND_SLOT_DONE (R129): the oldest ended slot serves a request, which completes with a and k2 or the raw ratio. `overload` says whether
the integrator overloaded in an urgent conversion (R110), which may end before the boundary that tells it for other slots. -/
def onDemandSlotDone (s : State) (m : Nat) (r : BitVec 32) (overload : Bool) (ow : OpenBalls) : State :=
  if !hasBank s.fac.variant m then s else
  let b := (s.freeOpen (s.bankU m)).skipIdle
  match b.ended with
  | sl :: rest =>
    match sl.od with
    | none => s
    | some o =>
      if !s.slotDue sl then s else
      let sl := { sl with ovld := sl.ovld || (o.urgent && overload) }
      let p := (s.setBank m b).publish m sl rest r ow.p ow.n
      let res := if o.point < 8 then leBytes 5 (twos 40 p.1.1) ++ leBytes 5 (twos 40 p.1.2) else leBytes 4 (twos 32 p.1.1)
      if o.silent then p.2.showOdBusy m else
      (p.2.settle o.src 0x0040 o.tag { status := stOk, result := res }).showOdBusy m
  | [] => s

end Sys2Proof.Machine
end

