-- ==== Sys2Proof/Machine/Cal.lean ====
section
/-!
DEFINITION. System calibration and CAL_COMMIT (R137 to R143), and CHECKER_CYCLE_END, which completes a calibration that waited for
the bank's first valid cycle (R140).
-/
namespace Sys2Proof.Machine

/-- What CAL_SYSTEM_ZERO and CAL_SYSTEM_FULL do once their form and mode have been checked (R137): a channel without a slot is
INVALID before the bank is BUSY. -/
def State.requestCalibration (s : State) (src : CmdSrc) (tag ch n : Nat) (full : Bool) (target : Int) : State :=
  let m := ch / 8
  let op := if full then 0x0042 else 0x0041
  if s.chMasked ch then s.settle src op tag { status := stInvalid }
  else if (s.bankU m).meas.isSome || s.commit.isSome then s.settle src op tag { status := stBusy }
  else
    let me : Meas := { src := src, tag := tag, full := full, ch := ch, gain := s.gainOf ch, count := if n = 0 then 8 else n,
                       target := target, since := s.modClock + 1 }
    ((s.setBank m { s.bankU m with meas := some me }).raise Reg.CAL_STAT Fld.CAL_STAT_MEAS_BUSY).accept src op tag 0

/-- Whether a number fits a field: `w` bits two's complement, or `w` bits unsigned. -/
def fitsS (w : Nat) (x : Int) : Bool := decide (-(2 ^ (w - 1)) ≤ x) && decide (x < 2 ^ (w - 1))
/-- Whether a number fits an unsigned field. -/
def fitsU (w : Nat) (x : Int) : Bool := decide (0 ≤ x) && decide (x < 2 ^ w)

/-- round(k × t / u) with exact division (R127, R139). -/
def roundRatio (k t u : Int) : Int := roundDiv (k * t * u.sign) u.natAbs

/-- Whether t / u lies in 0.9 to 1.1 (R139). -/
def ratioOk (t u : Int) : Bool :=
  u != 0 && decide (9 * u.natAbs ≤ 10 * (t * u.sign)) && decide (10 * (t * u.sign) ≤ 11 * u.natAbs)

/-- The words 0 to 3, 7 and 8 of the new working entry (R138, R139): the effective coefficients with what the measurement changes;
none where the command completes with INVALID. A coefficient of 0, which leaves a quotient without a value, counts as a result
that does not fit. -/
def State.calNewWords (s : State) (me : Meas) : Option (List Word) :=
  let e := s.effAt me.ch me.gain
  let p := s.pEntry me.ch me.gain
  let mC := me.sumC.fdiv me.count
  let mF := me.sumF.fdiv me.count
  let mK := me.sumK.fdiv me.count
  let pack := fun (kc oc kf of kk ok : Int) =>
    [BitVec.ofNat 32 (twos 24 kc), BitVec.ofNat 32 (twos 24 oc), BitVec.ofNat 32 (twos 24 kf), BitVec.ofNat 32 (twos 24 of),
     BitVec.ofNat 32 (twos 24 kk), BitVec.ofInt 32 ok]
  if me.full then
    let kc := roundRatio e.kc me.target mC
    let kf := roundRatio e.kf me.target mC
    let kk := roundRatio p.kk me.target mK
    if mC.natAbs < 13743895347 || !ratioOk me.target mC || !ratioOk me.target mK || !fitsU 24 kc || !fitsU 24 kf || !fitsU 24 kk
    then none else some (pack kc e.oc kf e.of kk p.ok)
  else if e.kc = 0 ∨ e.kf = 0 ∨ p.kk = 0 then none
  else
    let oc := e.oc + roundDiv (mC * 64) e.kc
    let of := e.of + roundDiv (mF * 4096) e.kf
    let ok := p.ok + roundDiv (mK * 2 ^ 22) (p.kk * 256)
    if mC.natAbs ≥ 3221225472 || me.fovl || !fitsS 24 oc || !fitsS 24 of || !fitsS 32 ok then none
    else some (pack e.kc oc e.kf of p.kk ok)

/-- The working entry that R140 forms from new words: ORIGIN SYSTEM, PENDING, s_f and m_f, TCAL, DATE, a new CRC. -/
def State.calEntryWords (s : State) (me : Meas) (w : List Word) : List Word :=
  let b := s.bankU (me.ch / 8)
  let p := s.pEntry me.ch me.gain
  let tb := signedOf 16 (s.fld (Reg.BANK_TEMP (me.ch / 8)) Fld.BANK_TEMP_TB)
  let date := (s.time.toNat / 2 ^ 32 / 86400) % 2 ^ 16
  let w9 := 2 ^ 30 + 2 ^ 29 + 2 ^ 16 * twos 8 (satSigned 8 (roundDiv tb 256)) + date
  let ws := w.take 4 ++ [BitVec.ofNat 32 p.sigma, BitVec.ofInt 32 (b.sf.getD 0), BitVec.ofInt 32 b.mf, w.getD 4 0, w.getD 5 0,
    BitVec.ofNat 32 w9, BitVec.ofNat 32 (256 * me.ch + me.gain)]
  ws ++ [crcWords ws]

/-- The result of a calibration command (R391): the measured means. -/
def Meas.completion (me : Meas) : Completion :=
  let mean := fun (x : Int) => twos 40 (x.fdiv me.count)
  if me.full then { status := stOk, result := leBytes 5 (mean me.sumC) ++ leBytes 5 (mean me.sumK) }
  else { status := stOk, result := leBytes 5 (mean me.sumC) ++ leBytes 5 (mean me.sumF), conts := [(none, leBytes 5 (mean me.sumK))] }

/-- Complete a measurement whose words are formed, if the bank has had its first valid cycle (R140). -/
def State.finishCalibration (s : State) (m : Nat) (me : Meas) (w : List Word) : State :=
  if (s.bankU m).sf.isNone then s.setBank m { s.bankU m with meas := some { me with words := some w } }
  else
    (s.setBank m { s.bankU m with meas := some { me with words := some (s.calEntryWords me w), ready := some s.modClock } }).settle me.src
      (if me.full then 0x0042 else 0x0041) me.tag me.completion

/-- CAL_MEASURE_DONE (R138 to R140): the N slots are complete. -/
def calMeasureDone (s : State) (m : Nat) : State :=
  match (s.bankU m).meas with
  | none => s
  | some me =>
    if me.taken < me.count || me.words.isSome then s
    else match s.calNewWords me with
      | some w => s.finishCalibration m me w
      | none =>
        ((s.setBank m { s.bankU m with meas := none }).settle me.src (if me.full then 0x0042 else 0x0041) me.tag
          { status := stInvalid }).showMeas

/-- CHECKER_CYCLE_END (R120, R126 to R128, R140, R439): the results of the cycle's slots have all been published. -/
def checkerCycleEnd (s : State) (m : Nat) : State :=
  match (s.bankU m).done with
  | none => s
  | some d =>
    if !hasBank s.fac.variant m || (s.bankU m).ended.any (fun sl => decide (sl.point < 12 ∧ sl.b1 ≤ (s.bankU m).cycleB)) then s else
    let s := s.cycleEnd m d
    match (s.bankU m).meas with
    | some me => match me.words, me.ready with
      | some w, none => s.finishCalibration m me w
      | _, _ => s
    | none => s

/-- The working entry enters the calibration store, and the correction of R127 starts from zero (R128, R141). -/
def State.storeWorking (s : State) (ch gain : Nat) (w : List Word) : State :=
  let s := s.setCal (calKeyP ch gain) { words := w }
  let s := { s with eff := Store.set (fun _ => none) s.eff (calKeyP ch gain) none }
  (s.setChk ch { s.chkU ch with target := none }).countPending

/-- A working entry of the present gain takes effect at base sample `k`, as a change under R28 (R141). A change of PCH_CFG that waits for its
boundary still waits. -/
def State.applyWorking (s : State) (ch gain k : Nat) (w : List Word) : State :=
  let s := s.storeWorking ch gain w
  let cfg := (s.pchU ch).inForce
  let waits := (s.pchU ch).change
  let s := s.changeAt ch k cfg cfg
  s.setPch ch { s.pchU ch with change := waits }

/-- Before base sample `k` is processed, a working entry that waits for it takes effect (R141). -/
def State.applyDue (s : State) (ch k : Nat) : State :=
  match (s.chkU ch).applyAt with
  | some (k0, g, w) =>
    if k0 ≤ k then (s.setChk ch { s.chkU ch with applyAt := none }).applyWorking ch g k w else s
  | none => s

/-- A slot that begins at the boundary where the entry of its channel and gain is applied uses the new entry (R141). -/
def Slot.withEntry (sl : Slot) (ch gain : Nat) (w : List Word) : Slot :=
  if sl.point = ch % 8 ∧ sl.gain = gain then
    { sl with kk := (w.getD 7 0).toNat % 2 ^ 24, ok := (w.getD 8 0).toInt }
  else sl

/-- CAL_APPLIED (R141): at the first slot boundary of the bank after the entry is formed, which the running slot's start is. -/
def calApplied (s : State) (m : Nat) : State :=
  let b := s.bankU m
  match b.meas, b.cur with
  | some me, some sl =>
    match me.words, me.ready with
    | some w, some since =>
      if sl.b0 < since || sl.od.any (·.urgent) then s else
      let k := max (s.baseIdx.toNat + 1) ((sl.b0 + 8 + 15) / 16)
      let inUse := me.gain == s.gainOf me.ch
      let t : Time := if inUse then baseTime k else BitVec.ofInt 64 (roundDiv ((sl.b0 : Int) * 2 ^ 32) 4096000)
      let s := (s.setBank m { b with meas := none, cur := some (sl.withEntry me.ch me.gain w) }).showMeas
      let s := if inUse then
          if k = s.baseIdx.toNat + 1 then s.applyWorking me.ch me.gain k w
          else s.setChk me.ch { s.chkU me.ch with applyAt := some (k, me.gain, w) }
        else s.storeWorking me.ch me.gain w
      s.emit 0x0148 me.ch [me.ch, me.gain, bit me.full, bit inUse, t.toNat]
    | _, _ => s
  | _, _ => s

/-- What CAL_COMMIT does once its form and mode have been checked (R142, R406). -/
def State.requestCommit (s : State) (src : CmdSrc) (tag : Nat) : State :=
  let keys := s.pendingKeys
  if s.commit.isSome then s.settle src 0x0043 tag { status := stBusy }
  else if s.flag Reg.BOOT_CTRL Fld.BOOT_CTRL_FL_RELEASE then s.settle src 0x0043 tag { status := stBusy }
  else if keys.isEmpty then s.settle src 0x0043 tag { status := stInvalid }
  else
    let es := keys.map (fun k => (k, (s.calE k).words))
    ({ s with commit := some { src := src, tag := tag, entries := es } }.raise Reg.CAL_STAT Fld.CAL_STAT_COMMIT_BUSY).accept src
      0x0043 tag 0

/-- An entry's words with PENDING clear and the CRC that this gives (R134, R142). -/
def committed (w : List Word) : List Word :=
  let ws := (w.take 11).set 9 (w.getD 9 0 &&& ~~~0x20000000#32)
  ws ++ [crcWords ws]

/-- A slot's CALSET section `sec`, header and body, gets the entries of a commit, and with them the SCRC of header and body (R142, R408,
R414). The slot's other entries stay as they are. -/
def State.writeCalset (s : State) (slot : Nat) (sec : List (BitVec 8)) (es : List (Nat × List Word)) : State :=
  let es := es.map (fun e => (e.1, committed e.2))
  s.put (.flash slot "CALSET" es (crc32c (es.foldl (fun bs e => replaceEntry (bs.take 12) (bs.drop 12) e.1 e.2) sec)))

/-- The CALSET section of the slot the device booted from, header and body. -/
def State.bootedCalset (s : State) : List (BitVec 8) := s.bootu.calHead ++ s.sectionBody 9

/-- CAL_COMMIT_DONE (R142, R414): both slots written and verified, or `fail` names the slot, flash offset and operation that
failed. The slot that the device did not boot from is written first; its section is `other`. -/
def calCommitDone (s : State) (e : CommitEnd) : State :=
  match s.commit with
  | none => s
  | some c =>
    let s := { s with commit := none }.clear Reg.CAL_STAT Fld.CAL_STAT_COMMIT_BUSY
    let n := c.entries.length
    let first := if s.bootu.slotB then 0 else 1
    match e.fail with
    | some (slot, off, op) =>
      let s := if slot = first then s else s.writeCalset first e.other c.entries
      (s.emit 0x0055 0 [slot, off, op]).settle c.src 0x0043 c.tag { status := stRefused, detail := 12 }
    | none =>
      let s := (s.writeCalset first e.other c.entries).writeCalset (1 - first) s.bootedCalset c.entries
      let s := c.entries.foldl (fun s e =>
        let s := s.setCalset e.1 (committed e.2)
        if (s.calE e.1).words = e.2 then s.setCal e.1 { s.calE e.1 with words := committed e.2 } else s) s
      (s.countPending.emit 0x0149 0 [n, 2]).settle c.src 0x0043 c.tag { status := stOk, result := leBytes 2 n }

/-- CAL_UNCOMMITTED (R143): the device leaves SERVICE while entries are pending. -/
def State.leaveServiceCal (s : State) : State :=
  let n := s.pendingKeys.length
  if n = 0 then s else s.emit 0x014B 0 [n]

end Sys2Proof.Machine
end

