-- ==== Sys2Proof/Machine/Base.lean ====
section
/-!
DEFINITION. BASE_SAMPLE (R85): the step that takes a base sample of every present P-channel.
-/
namespace Sys2Proof.Machine

/-- The raw words of one channel: those the command brings, or free ones for a channel it does not name. -/
def State.rawOf (s : State) (raws : List RawSample) (n : Nat) : RawSample × State :=
  match raws.find? (fun r => r.ch == n) with
  | some r => (r, s)
  | none =>
    let a := s.freeNat 24
    let b := a.2.freeNat 24
    let c := b.2.freeNat 2
    ({ ch := n, rawC := BitVec.ofNat 24 a.1, rawF := BitVec.ofNat 24 b.1, covl := bitAt c.1 0, fovl := bitAt c.1 1 }, c.2)

/-- One channel takes its base sample: fusion, check, demodulation, and into the three delay lines (R85, R90). -/
def State.baseChannel (s : State) (raws : List RawSample) (k n : Nat) : State :=
  if !hasPch s.fac.variant n then s else
  let s := s.applyDue n k
  let r := s.rawOf raws n
  let p := fuseChannel r.2 k r.1
  let s := p.2.feedChecker n k p.1
  match p.1 with
  | none => s
  | some o =>
    let s := s.setPch n { s.pchU n with mon := (o.x :: (s.pchU n).mon).take 29 }
    (s.staticAdd n o.x).seisAdd n o.x

/-- The registers as the AON domain holds them at this boundary (R328). -/
def State.asCommitted (s : State) : State := s.late.foldl (fun (t : State) e => t.setReg e.off (s.regBy s.cycles e.off)) s

/-- The writes of `s` that have not committed at this boundary stand again; a channel whose RES_SRC one of them changes has its entry
restarted as it commits (R69, R328). -/
def State.withLate (t s : State) : State :=
  (s.late.filter (fun e => decide (s.cycles < e.commit))).foldl (fun (t : State) e =>
    let t := t.setReg e.off ((t.reg e.off &&& ~~~e.mask) ||| (s.reg e.off &&& e.mask))
    (List.range 64).foldl (fun (t : State) n =>
      if e.off = Reg.PCH_FMT n && getField Fld.PCH_FMT_RES_SRC e.old != s.fld e.off Fld.PCH_FMT_RES_SRC then t.restartRes n else t) t) t

/-- BASE_SAMPLE (R85): 64 AON cycles after the last one, a base sample of each present P-channel. Base samples exist only from
the end of BOOT on (R85, R89). -/
def baseSample (s : State) (raws : List RawSample) : State :=
  if !s.baseRunning then s else
  let s := { s.passCycles (64 - s.sinceBase) with sinceBase := 0, baseIdx := s.baseIdx + 1 }
  let k := s.baseIdx.toNat
  ((List.range 64).foldl (fun s n => s.baseChannel raws k n) s.asCommitted.takeEdges).advanceExc.withLate s

end Sys2Proof.Machine
end

