-- ==== Sys2Proof/Machine/Ecc.lean ====
section
/-!
DEFINITION. Protection of stored data (R288 to R309): the cell code, reads and writes of DRAM cells with the merge buffer, the error
log, write-back, remapping, the scrubber, SRAM words and error injection.
-/
namespace Sys2Proof.Machine

/-! ### The cell code (R288, R289) -/

/-- The number of bits set among the lowest ten. -/
def weight10 (n : Nat) : Nat := ((List.range 10).filter (fun i => bitAt n i)).length

/-- The columns of the code positions 0 to 255: the 120 values of weight 3, the 126 lowest of weight 5, the check bits. -/
def eccColumns : List Nat :=
  (List.range 1024).filter (fun n => weight10 n == 3) ++ ((List.range 1024).filter (fun n => weight10 n == 5)).take 126 ++
    (List.range 10).map (fun j => 2 ^ j)

/-- The normal check bits of 246 protected bits. -/
def checkOf (prot : Nat) : Nat :=
  (eccColumns.take 246).zipIdx.foldl (fun a p => if bitAt prot p.2 then a ^^^ p.1 else a) 0

/-- What distinguishes the check bits of a poisoned cell. -/
def poisonMark : Nat := 0x3FE

/-- The class of a read (R289). -/
inductive CellClass where
  | clean
  | corrected (pos : Nat)
  | poisoned
  | uncorrectable
deriving DecidableEq, Repr

/-- The class that a syndrome stands for. -/
def classOfSyndrome (y : Nat) : CellClass :=
  if y = 0 then .clean
  else if y = poisonMark then .poisoned
  else
    let i := eccColumns.findIdx (fun c => c == y)
    if i < eccColumns.length then .corrected i else .uncorrectable

/-- Invert one of the 256 stored bits of a cell. -/
def Cell.flip (c : Cell) (pos : Nat) : Cell :=
  if pos < 246 then { c with prot := c.prot ^^^ 2 ^ pos } else { c with check := c.check ^^^ 2 ^ ((pos - 246) % 10) }

/-- The syndrome of a cell as stored. -/
def Cell.syndrome (c : Cell) : Nat := c.check ^^^ checkOf c.prot

/-- A cell with its check bits, poisoned or not. -/
def mkCell (prot : Nat) (poison : Bool) : Cell := { prot := prot, check := checkOf prot ^^^ (if poison then poisonMark else 0) }

/-! ### Cells and spare cells -/

/-- The channel of a cell address (R268). -/
def cellChan (c : Nat) : Nat := c % 2

/-- Channel `ch` of the DRAM beyond its registers. -/
def State.chanU (s : State) (ch : Nat) : DramChan := Store.get (fun _ => {}) s.chan ch
/-- The state with channel `ch` replaced. -/
def State.setChan (s : State) (ch : Nat) (x : DramChan) : State := { s with chan := Store.set (fun _ => {}) s.chan ch x }

/-- What an address reads as that nothing has been stored at: zero with clean check bits (log entry 4, DESIGN CHOICE), or, where a start-up test has
overwritten it (R306), the test's pattern, whose form the spec does not give: free. -/
def State.blankCell (s : State) (a : Nat) : Cell :=
  match s.bootu.tested.find? (fun t => t.1 ≤ a && a < t.1 + t.2.1) with
  | some t => mkCell (Config.freeValue (t.2.2 + (a - t.1)) % 2 ^ 246) false
  | none => {}

/-- The cell stored at an address. -/
def State.cellAt (s : State) (a : Nat) : Cell := Store.get s.blankCell s.cells a
/-- The state with the cell at an address replaced. -/
def State.setCell (s : State) (a : Nat) (c : Cell) : State := { s with cells := Store.set s.blankCell s.cells a c }

/-- The remap entry of a cell, with its spare. -/
def State.spareOf (s : State) (cell : Nat) : Option (Nat × Spare) :=
  (s.ecc.remap.zipIdx.filterMap (fun p => p.1.map (fun x => (p.2, x)))).find? (fun p => p.2.cell == cell)

/-- The 246 protected bits of a spare cell. -/
def Spare.prot (x : Spare) : Nat := x.words.zipIdx.foldl (fun a p => a + p.1.1 * 2 ^ (40 * p.2)) 0

/-- Whether a spare cell reads as poisoned: one of its words is (R299, R304). -/
def Spare.poison (x : Spare) : Bool := x.words.any (·.2)

/-- The seven words of a spare cell that holds `prot`; a poisoned one has all seven poison bits set (R304). -/
def spareWords (prot : Nat) (poison : Bool) : List (Nat × Bool) := (List.range 7).map (fun i => (prot / 2 ^ (40 * i) % 2 ^ 40, poison))

/-- What ECC_REMAP and ECC_STAT.REMAP_USED show (R308). -/
def State.showRemap (s : State) : State :=
  let s := s.ecc.remap.zipIdx.foldl (fun (s : State) p => s.setReg (Reg.ECC_REMAP p.2) (match p.1 with
    | none => 0
    | some x => BitVec.ofNat 32 (2 ^ 31 + bit x.boot * 2 ^ 29 + bit x.poison * 2 ^ 28 + x.cell % 2 ^ 28))) s
  s.setFld Reg.ECC_STAT Fld.ECC_STAT_REMAP_USED (s.ecc.remap.filter (fun e => Option.isSome e)).length

/-- The state with a remap entry replaced. -/
def State.setSpare (s : State) (i : Nat) (x : Spare) : State :=
  { s with ecc := { s.ecc with remap := s.ecc.remap.set i (some x) } }.showRemap

/-- Store 246 protected bits at an address, in the spare cell of a remapped one, with the injection that is armed for it (R290, R297,
R309). -/
def State.storeCell (s : State) (a prot : Nat) (poison : Bool) : State :=
  match s.spareOf a with
  | some (i, x) => s.setSpare i { x with words := spareWords prot poison }
  | none =>
    let c := mkCell prot poison
    if s.flag Reg.ECC_INJ Fld.ECC_INJ_ARMED && s.fld Reg.ECC_INJ_ADDR Fld.ECC_INJ_ADDR_CELL == a then
      let b := s.fld Reg.ECC_INJ Fld.ECC_INJ_BIT
      let col := fun (i : Nat) => eccColumns.getD (i % 256) 0
      let x := match s.fld Reg.ECC_INJ Fld.ECC_INJ_MODE with
        | 1 => col b
        | 2 => col b ^^^ col (b + 1)
        | _ => poisonMark
      ((s.setCell a { c with check := c.check ^^^ x }).clear Reg.ECC_INJ Fld.ECC_INJ_ARMED).clear Reg.ECC_INJ Fld.ECC_INJ_MODE
    else s.setCell a c

/-- What a read delivers: the protected bits, corrected where they can be, the class and the syndrome. `flips` are the stored bits that
have changed since the cell was written. -/
def State.readCell (s : State) (a : Nat) (flips : List Nat) : (Nat × CellClass × Nat) × State :=
  match s.spareOf a with
  | some (_, x) => ((x.prot, if x.poison then .poisoned else .clean, if x.poison then poisonMark else 0), s)
  | none =>
    let c := flips.foldl (fun (c : Cell) p => c.flip p) (s.cellAt a)
    let s := s.setCell a c
    let y := c.syndrome
    match classOfSyndrome y with
    | .corrected p => (((c.flip p).prot, .corrected p, y), s)
    | k => ((c.prot, k, y), s)

/-! ### The error log (R293 to R295) -/

/-- ECC_STAT.LOG_USED shows the entries valid. -/
def State.setLog (s : State) (l : List (Option LogEntry)) : State :=
  { s with ecc := { s.ecc with log := l } }.setFld Reg.ECC_STAT Fld.ECC_STAT_LOG_USED (l.filter (fun e => Option.isSome e)).length

/-- The log entry of a cell. -/
def State.logOf (s : State) (cell : Nat) : Option (Nat × LogEntry) :=
  (s.ecc.log.zipIdx.filterMap (fun p => p.1.map (fun x => (p.2, x)))).find? (fun p => p.2.cell == cell)

/-- Change the log entry of a cell, if there is one. -/
def State.updLog (s : State) (cell : Nat) (f : LogEntry → LogEntry) : State :=
  match s.logOf cell with
  | some (i, e) => s.setLog (s.ecc.log.set i (some (f e)))
  | none => s

/-- The entry that a new error takes (R294): the first free one, else the NEW one with repeat count 1 whose latest time is oldest. -/
def State.logPlace (s : State) : Option Nat :=
  match s.ecc.log.findIdx? (·.isNone) with
  | some i => some i
  | none =>
    let l := s.ecc.log.zipIdx.filterMap (fun p => match p.1 with
      | some e => if e.state = 0 ∧ e.rep = 1 then some (e.latest.toNat, p.2) else none
      | none => none)
    match (l.map (·.1)).min? with
    | some t => (l.find? (fun p => p.1 == t)).map (·.2)
    | none => none

/-- A correctable error that cannot be logged (R294). -/
def State.logFull (s : State) (ch : Nat) : State :=
  let n := s.ecc.unlogged + 1
  let due := match (s.rateKey 0x0317 0).lastA with
    | none => true
    | some t => decide (secTime 1 ≤ (s.time - t).toNat)
  let s := (s.count Reg.ECC_LOG_CTRL Fld.ECC_LOG_CTRL_LOST).raise Reg.ECC_STAT Fld.ECC_STAT_LOG_FULL_S
  let s := { s with ecc := { s.ecc with unlogged := if due then 0 else n } }
  if due then s.emitLimited 0x0317 ch 0 (secTime 1) false 0 (fun _ => [n]) else s

/-- A correctable error is counted and logged (R293, R294): source 0 port read, 1 scrub, 2 RMW; `prot` is the corrected data, which is
due for write-back when the lap count of a NEW entry reaches 3 (R296). -/
def State.logError (s : State) (cell synd source port prot : Nat) : State :=
  let ch := cellChan cell
  let s := s.count (if ch = 0 then Reg.ECC_CE_CNT0 else Reg.ECC_CE_CNT1) word32
  let s := { s with ecc := { s.ecc with lapCorr := if source = 1 then s.ecc.lapCorr + 1 else s.ecc.lapCorr } }
  match s.logOf cell with
  | some (i, e) =>
    let lap := min 3 (e.lap + 1)
    let back := if e.state = 0 ∧ lap = 3 ∧ e.lap < 3 then some prot else e.back
    let e := { e with rep := satInc 16 e.rep, lap := lap, synd := synd, source := source, port := port, latest := s.time, back := back }
    s.setLog (s.ecc.log.set i (some e))
  | none =>
    match s.logPlace with
    | some i =>
      let e : LogEntry := { state := 0, cell := cell, synd := synd, source := source, port := port, rep := 1, lap := 1,
                            first := s.time, latest := s.time }
      (s.setLog (s.ecc.log.set i (some e))).emit 0x0310 ch [cell, synd, source, port]
    | none => s.logFull ch

/-- A cell is remapped to the first free spare cell, filled with the data just delivered (R297); with none free its entry becomes WEAK
(R298). -/
def State.remapCell (s : State) (cell prot : Nat) (poison boot : Bool) : State :=
  let ch := cellChan cell
  match s.ecc.remap.findIdx? (·.isNone) with
  | some i =>
    let s := s.setSpare i { cell := cell, boot := boot, words := spareWords prot poison }
    (s.updLog cell (fun e => { e with state := 2, back := none })).emit 0x0315 ch [cell, i, bit boot]
  | none =>
    let s := (s.raise Reg.ECC_STAT Fld.ECC_STAT_REMAP_FULL_S).updLog cell (fun e => { e with state := 3, back := none })
    s.emit 0x0316 ch [cell]

/-- An uncorrectable read is reported (R301). -/
def State.reportUe (s : State) (cell synd source port : Nat) : State :=
  let s := (s.count Reg.ECC_UE_CNT word32).raise Reg.ECC_STAT Fld.ECC_STAT_UE_S
  s.emitSafetyHeld 0x0311 (cellChan cell) [cell, synd, source, port]

/-- What every read of a cell brings about by its class (R289, R293, R296, R297, R301), before anything is written back. -/
def State.noteRead (s : State) (cell source port : Nat) (r : Nat × CellClass × Nat) : State :=
  let hard := match s.logOf cell with | some (_, e) => e.state == 1 | none => false
  match r.2.1 with
  | .clean => s
  | .corrected _ =>
    let s := s.logError cell r.2.2 source port r.1
    if hard then s.remapCell cell r.1 false false else s
  | .poisoned => (s.count Reg.ECC_POISON_CNT word32).raise Reg.ECC_STAT Fld.ECC_STAT_POISON_S
  | .uncorrectable =>
    let s := s.reportUe cell r.2.2 source port
    if hard then s.remapCell cell r.1 true false else s

/-! ### Writes (R290 to R292) -/

/-- A write to a cell drops a write-back that waits for it (R296). -/
def State.dropBack (s : State) (cell : Nat) : State := s.updLog cell (fun e => { e with back := none })

/-- Take a cell's entry out of the merge buffer. -/
def State.dropMerge (s : State) (cell : Nat) : State :=
  { s with ecc := { s.ecc with merge := s.ecc.merge.filter (fun e => e.cell != cell) } }

/-- A whole cell is written (R290): a stream writer or the engine (ports 0 to 2) supplies the attributes, every other writer's are
zero. -/
def fullCellWrite (s : State) (port cell data attr : Nat) (poison : Bool) : State :=
  if dramCells s.fac.variant ≤ cell then s else
  let a := if port ≤ 2 then attr % 64 else 0
  ((s.dropMerge cell).dropBack cell).storeCell cell (data % 2 ^ 240 + a * 2 ^ 240) poison

/-- The data of a narrow write over the data of a cell, by its nibble mask (R291). -/
def mergeNibbles (old new mask : Nat) : Nat :=
  (List.range 60).foldl (fun a i => a + (if bitAt mask i then new else old) / 16 ^ i % 16 * 16 ^ i) 0

/-- An incomplete entry is flushed as a read-modify-write (R292). -/
def State.flushEntry (s : State) (e : MergeEntry) (flips : List Nat) : State :=
  let s := (s.dropMerge e.cell).count Reg.ECC_RMW_CNT Fld.ECC_RMW_CNT_RMW
  let p := s.readCell e.cell flips
  let s := p.2.noteRead e.cell 2 e.port p.1
  let prot := p.1.1 / 2 ^ 240 * 2 ^ 240 + mergeNibbles (p.1.1 % 2 ^ 240) e.data e.mask
  let bad := match p.1.2.1 with | .poisoned => true | .uncorrectable => true | _ => false
  let s := if p.1.2.1 = .poisoned then
      (s.raise Reg.ECC_STAT Fld.ECC_STAT_PARTIAL_POISON_S).emitLimited 0x0313 (cellChan e.cell) 0 (secTime 1) false 0
        (fun n => [e.cell, e.port, e.mask, n])
    else s
  (s.dropBack e.cell).storeCell e.cell prot bad

/-- The entry of a cell is flushed before the cell is read (R291). -/
def State.flushCell (s : State) (cell : Nat) (flips : List Nat) : State :=
  match s.ecc.merge.find? (fun e => e.cell == cell) with
  | some e => s.flushEntry e flips
  | none => s

/-- MERGE_FLUSH (R291, R292): an entry that is 1 µs old is flushed. -/
def mergeFlush (s : State) (cell : Nat) (flips : List Nat) : State :=
  if s.ecc.merge.any (fun e => e.cell == cell && decide (usTime 1 ≤ (s.time - e.at_).toNat)) then s.flushCell cell flips else s

/-- Every entry is flushed, before a self-refresh or a change of operating point (R291). -/
def State.flushMerge (s : State) : State := s.ecc.merge.foldl (fun (s : State) e => s.flushEntry e []) s

/-- All 60 nibbles. -/
def allNibbles : Nat := 2 ^ 60 - 1

/-- NARROW_WRITE (R291): into the merge buffer; an entry that becomes full goes out as a full-cell write, a ninth address displaces the
oldest entry. -/
def narrowWrite (s : State) (port cell data mask : Nat) : State :=
  if dramCells s.fac.variant ≤ cell then s else
  let mask := mask % 2 ^ 60
  let s := s.dropBack cell
  match s.ecc.merge.find? (fun e => e.cell == cell) with
  | some e =>
    let s := s.count Reg.ECC_RMW_CNT Fld.ECC_RMW_CNT_MERGED
    let e := { e with data := mergeNibbles e.data data mask, mask := e.mask ||| mask }
    if e.mask = allNibbles then fullCellWrite s e.port cell e.data 0 false
    else { s with ecc := { s.ecc with merge := s.ecc.merge.map (fun x => if x.cell = cell then e else x) } }
  | none =>
    if mask = allNibbles then fullCellWrite s port cell data 0 false
    else
      let s := if s.ecc.merge.length < 8 then s else match s.ecc.merge.head? with
        | some old => s.flushEntry old []
        | none => s
      let e : MergeEntry := { cell := cell, data := mergeNibbles 0 data mask, mask := mask, port := port, at_ := s.time }
      { s with ecc := { s.ecc with merge := s.ecc.merge ++ [e] } }

/-! ### Reads -/

/-- A port reads a cell (R289, R301): an entry of the merge buffer for it is flushed first. A poisoned cell is reported once in a scrub
lap. -/
def State.portRead (s : State) (port cell : Nat) (flips : List Nat) : (Nat × CellClass × Nat) × State :=
  let had := s.ecc.merge.any (fun e => e.cell == cell)
  let s := s.flushCell cell flips
  let p := s.readCell cell (if had then [] else flips)
  let s := p.2.noteRead cell 0 port p.1
  (p.1, if p.1.2.1 = .poisoned && !s.ecc.reported.contains cell then
      { s with ecc := { s.ecc with reported := cell :: s.ecc.reported } }.emitSafetyHeld 0x0312 (cellChan cell) [cell, port]
    else s)

/-- The class of a read that delivers poisoned data. -/
def CellClass.bad : CellClass → Bool
  | .poisoned => true
  | .uncorrectable => true
  | _ => false

/-- DRAM_CELL_READ (R289, R299, R301): a read by the MC (port 3) of data that is poisoned gets a bus error, and the firmware treats it as an
uncorrectable error of MC SRAM, a dangerous fault (R305). -/
def dramCellRead (s : State) (port cell : Nat) (flips : List Nat) : State :=
  if dramCells s.fac.variant ≤ cell then s else
  let p := s.portRead port cell flips
  if port ≠ 3 then p.2
  else
    let s := p.2.put (.mcData cell p.1.2.1.bad)
    if p.1.2.1.bad then s.raiseCause 6 305 0 else s

/-- ECC_WRITEBACK (R296): the corrected data goes back as a full-cell write, and the entry moves to WRITTEN_BACK. -/
def eccWriteback (s : State) (cell : Nat) : State :=
  match s.logOf cell with
  | some (_, e) =>
    match e.back with
    | some prot =>
      ((s.storeCell cell prot false).updLog cell (fun e => { e with state := 1, back := none })).emit 0x0314 (cellChan cell) [cell, e.rep]
    | none => s
  | none => s

/-! ### Scrubbing (R302, R303) -/

/-- Whether a write-back waits for a cell of channel `ch` (R296). -/
def State.backWaits (s : State) (ch : Nat) : Bool := s.ecc.log.any (fun e => e.any (fun x => cellChan x.cell == ch && x.back.isSome))

/-- Whether the scrubber may read on channel `ch` now (R272, R302): nothing else claims it, no write-back and no postponed refresh goes
before it, and INTERVAL × 10 ns have passed for every cell read, to within the AON cycle that the model counts time in. -/
def State.scrubFree (s : State) (ch : Nat) : Bool :=
  let x := s.chanU ch
  s.flag Reg.ECC_CFG Fld.ECC_CFG_SCRUB_EN && !x.selfRef && x.training == .none && s.drc.change.isNone &&
    !s.drc.queue.any (fun r => cellChan r.cell == ch) && x.postponed == 0 && !s.backWaits ch && decide (x.holdTil ≤ s.time.toNat) &&
    decide (x.scrubAt ≤ s.time.toNat + 263)

/-- Whether the scrubber may read in VIGIL (R303): in a RUN burst, VIG_CELLS × 65 536 cells at most in a period. -/
def State.scrubVigil (s : State) : Bool :=
  s.curMode != modeVigil || s.pstate == 0 &&
    (decide (s.ecc.vigCells < 65536 * s.fld Reg.ECC_SCRUB_VIG Fld.ECC_SCRUB_VIG_VIG_CELLS) ||
      decide (secTime (s.fld Reg.ECC_SCRUB_VIG Fld.ECC_SCRUB_VIG_VIG_PERIOD) ≤ (s.time - s.ecc.vigAt).toNat))

/-- Whether a burst is due for scrubbing in VIGIL (R303): none has fallen into the period. -/
def State.scrubDue (s : State) : Bool :=
  s.curMode == modeVigil && s.flag Reg.ECC_CFG Fld.ECC_CFG_SCRUB_EN &&
    decide (secTime (s.fld Reg.ECC_SCRUB_VIG Fld.ECC_SCRUB_VIG_VIG_PERIOD) ≤ (s.time - s.ecc.vigAt).toNat)

/-- Whether the flush burst of R14 is due: in VIGIL, once the stream cells fill 11/16 of the VIGIL region (log entry 104, DESIGN CHOICE: the rule
says before 75 %). -/
def State.flushDue (s : State) : Bool :=
  s.curMode == modeVigil && s.vigilCells != 0 && decide (11 * s.vigilCells ≤ 16 * s.streamCells)

/-- A cell read by the scrubber counts against the rate of its channel and, in VIGIL, of the period (R302, R303). -/
def State.scrubCount (s : State) (ch : Nat) : State :=
  let x := s.chanU ch
  let s := s.setChan ch { x with scrubAt := max x.scrubAt s.time.toNat + s.fld Reg.ECC_CFG Fld.ECC_CFG_INTERVAL * 2 ^ 32 / 100000000 }
  if s.curMode ≠ modeVigil then s
  else if secTime (s.fld Reg.ECC_SCRUB_VIG Fld.ECC_SCRUB_VIG_VIG_PERIOD) ≤ (s.time - s.ecc.vigAt).toNat then
    { s with ecc := { s.ecc with vigAt := s.time, vigCells := 1 } }
  else { s with ecc := { s.ecc with vigCells := s.ecc.vigCells + 1 } }

/-- A lap has ended (R294, R302): its time and counts, and a new lap begins. The counts are those of the scrubber's own reads (log entry 106,
DEDUCED). -/
def State.endLap (s : State) : State :=
  let secs := min ((s.time - s.ecc.lapStart).toNat / 2 ^ 32) 65535
  let s := s.setFld Reg.ECC_SCRUB_LAP Fld.ECC_SCRUB_LAP_LAPS (s.fld Reg.ECC_SCRUB_LAP Fld.ECC_SCRUB_LAP_LAPS + 1)
  let s := s.setFld Reg.ECC_SCRUB_LAP Fld.ECC_SCRUB_LAP_SECONDS secs
  let s := s.emit 0x0319 0xFF [secs, s.ecc.lapCorr, s.ecc.lapUnc, s.ecc.lapPoi]
  { s with ecc := { s.ecc with lapStart := s.time, lapCorr := 0, lapUnc := 0, lapPoi := 0, reported := [], lapped := false,
                               log := s.ecc.log.map (fun e => e.map (fun e => { e with lap := 0 })) } }

/-- ECC_SCRUB_LAP_DONE (R294, R302): the scrubber has come round. -/
def eccScrubLapDone (s : State) : State := if s.ecc.lapped then s.endLap else s

/-- SCRUB_READ (R302): the next cell; a single error goes back corrected but for a WEAK cell's (R298), an uncorrectable cell goes back
poisoned. -/
def scrubRead (s : State) (flips : List Nat) : State :=
  let cell := s.fld Reg.ECC_SCRUB_POS Fld.ECC_SCRUB_POS_CELL
  let ch := cellChan cell
  if !s.scrubFree ch || !s.scrubVigil then s else
  let s := (eccScrubLapDone s).scrubCount ch
  let had := s.ecc.merge.any (fun e => e.cell == cell)
  let s := s.flushCell cell flips
  let p := s.readCell cell (if had then [] else flips)
  let s := p.2.noteRead cell 1 15 p.1
  let weak := match s.logOf cell with | some (_, e) => e.state == 3 | none => false
  let s := match p.1.2.1 with
    | .corrected _ => if weak || (s.spareOf cell).isSome then s else s.storeCell cell p.1.1 false
    | .uncorrectable =>
      let s := { s with ecc := { s.ecc with lapUnc := s.ecc.lapUnc + 1 } }
      if (s.spareOf cell).isSome then s else s.storeCell cell p.1.1 true
    | .poisoned => { s with ecc := { s.ecc with lapPoi := s.ecc.lapPoi + 1 } }
    | .clean => s
  let next := (cell + 1) % dramCells s.fac.variant
  { s with ecc := { s.ecc with lapped := decide (next = 0) } }.setFld Reg.ECC_SCRUB_POS Fld.ECC_SCRUB_POS_CELL next

/-! ### Errors of SRAM words (R304) -/

/-- An error in an SRAM word that is read (R304): a single one is counted, a double one counted and recorded. -/
def State.sramError (s : State) (region addr : Nat) (ue : Bool) : State :=
  if !ue then s.count (Reg.ECC_SRAM_CE region) Fld.ECC_SRAM_CE_CE else
  ((s.count (Reg.ECC_SRAM_CE region) Fld.ECC_SRAM_CE_UE).raise Reg.ECC_STAT Fld.ECC_STAT_SRAM_UE_S).emitSafetyHeld 0x0318 (0x80 + region)
    [region, addr]

/-! ### The log's registers and injection (R295, R308, R309) -/

/-- ECC_LOG_CLR (R295): every entry but the WEAK ones is removed. -/
def eccLogClr (s : State) : State :=
  s.setLog (s.ecc.log.map (fun e => match e with
    | some x => if x.state = 3 then some x else none
    | none => none))

/-- The words of a log entry (R308). -/
def logWords (e : Option LogEntry) : List Nat :=
  match e with
  | none => List.replicate 8 0
  | some e => [2 ^ 31 + e.state * 2 ^ 28 + e.cell % 2 ^ 28, e.synd * 2 ^ 22 + e.source * 2 ^ 20 + e.port * 2 ^ 16 + e.rep, e.lap,
      e.first.toNat % 2 ^ 32, e.first.toNat / 2 ^ 32, e.latest.toNat % 2 ^ 32, e.latest.toNat / 2 ^ 32, 0]

/-- What a reader's access has latched under a register (R77). -/
def State.latched (s : State) (reg : Nat) (who : Reader) : Option (List Nat) :=
  (s.latch.find? (fun p => p.1 == (reg, who))).map (·.2)

/-- Latch words under a register for a reader; a fabric requester that has none takes the least recently used of the 14 that a register
keeps for fabric requesters (R77). -/
def State.setLatch (s : State) (reg : Nat) (who : Reader) (l : List Nat) : State :=
  let rest := s.latch.filter (fun p => p.1 != (reg, who))
  let fab := rest.filter (fun p => p.1.1 == reg && Reader.isFabric p.1.2)
  let rest := if Reader.isFabric who && fab.length ≥ 14 then
      match fab.getLast? with
      | some old => rest.filter (fun p => p.1 != old.1)
      | none => rest
    else rest
  { s with latch := ((reg, who), l) :: rest }

/-- ECC_LOG_SEL (R308): a write of SEL copies that log entry into the reader's window. -/
def eccLogSel (s : State) (who : Reader) (i : Nat) : State :=
  s.setLatch Reg.ECC_LOG_CTRL who (i % 16 :: logWords (s.ecc.log.getD (i % 16) none))

/-- ECC_INJ_ARM (R309): a MODE other than 0 is refused outside SERVICE and for a remapped cell. -/
def eccInjArm (s : State) (v : Word) : State :=
  let mode := getField Fld.ECC_INJ_MODE v
  let bad := mode != 0 && (!s.inService || (s.spareOf (s.fld Reg.ECC_INJ_ADDR Fld.ECC_INJ_ADDR_CELL)).isSome)
  let s := s.writeJudged Reg.ECC_INJ 0x3FF (rejectIf bad Fld.ECC_INJ_MODE) v Reg.ECC_STAT Fld.ECC_STAT_CFG_REJ
  s.setFld Reg.ECC_INJ Fld.ECC_INJ_ARMED (bit (s.fld Reg.ECC_INJ Fld.ECC_INJ_MODE != 0))

/-- Leaving SERVICE disarms the injection (R309). -/
def State.disarmInjection (s : State) : State := (s.clear Reg.ECC_INJ Fld.ECC_INJ_ARMED).clear Reg.ECC_INJ Fld.ECC_INJ_MODE

end Sys2Proof.Machine
end

