-- ==== Sys2Proof/Machine/Dram.lean ====
section
/-!
DEFINITION. The DRAM controller (R267 to R287): requests and their urgency, refresh, activation counts, self-refresh, training, and
changes of the operating point.
-/
namespace Sys2Proof.Machine

/-- Port `p`'s miss report. -/
def State.dportU (s : State) (p : Nat) : DramPort := Store.get (fun _ => {}) s.dport p
/-- The state with port `p`'s miss report replaced. -/
def State.setDport (s : State) (p : Nat) (x : DramPort) : State := { s with dport := Store.set (fun _ => {}) s.dport p x }

/-! ### Addresses (R268) -/

/-- The bank. -/
def cellBank (c : Nat) : Nat := c / 2 ^ 7 % 16
/-- The row. -/
def cellRow (c : Nat) : Nat := c / 2 ^ 11
/-- Rows of a bank (R268). -/
def dramRows (v : Variant) : Nat := dramCells v / 2 ^ 11

/-! ### Requests (R270 to R274) -/

/-- The urgency of a request at time `now` (R271). -/
def DramReq.urgency (r : DramReq) (now : Time) : Nat :=
  let a := (now - r.at_).toNat * 100000000
  let t := r.tgt * 2 ^ 32
  if 9 * t ≤ 10 * a then 3 else if 3 * t ≤ 4 * a then 2 else if t ≤ 2 * a then 1 else 0

/-- The requests that wait on a channel. -/
def State.waitingOn (s : State) (ch : Nat) : List DramReq := s.drc.queue.filter (fun r => cellChan r.cell == ch)

/-- Whether a request of urgency 2 or 3 waits on a channel. -/
def State.urgentOn (s : State) (ch : Nat) : Bool := (s.waitingOn ch).any (fun r => decide (2 ≤ r.urgency s.time))

/-- DRC_PORT_STAT follows the queues (R271, R287). -/
def State.showPorts (s : State) : State :=
  (List.range 6).foldl (fun (s : State) p =>
    let l := s.drc.queue.filter (fun r => r.port == p)
    let s := s.setFld (Reg.DRC_PORT_STAT p) Fld.DRC_PORT_STAT_URG ((l.map (fun r => r.urgency s.time)).foldl max 0)
    s.setFld (Reg.DRC_PORT_STAT p) Fld.DRC_PORT_STAT_QDEPTH (min l.length 65535)) s

/-- Requests enter the queue, each with its port's target (R270). -/
def State.enterRequests (s : State) (l : List DramReq) : State :=
  let l := l.filter (fun r => decide (r.port < 6) && decide (r.cell < dramCells s.fac.variant))
  { s with drc := { s.drc with queue := s.drc.queue ++ l.map (fun r =>
    { r with at_ := s.time, tgt := s.fld (Reg.DRC_PORT_TGT r.port) Fld.DRC_PORT_TGT_TGT }) } }

/-- Whether a channel serves requests now: not in self-refresh or on its way out, not held by a catch-up, a training or a change. -/
def State.serves (s : State) (ch : Nat) : Bool :=
  !(s.chanU ch).selfRef && (s.chanU ch).training == .none && s.drc.change.isNone && decide ((s.chanU ch).holdTil ≤ s.time.toNat)

/-- Whether no refresh occupies the bank of a cell (R275, R277). -/
def State.bankFree (s : State) (ch cell : Nat) : Bool := decide (Store.get (fun _ => 0) (s.chanU ch).busy (cellBank cell) ≤ s.time.toNat)

/-- Whether a request's row is open. -/
def DramChan.isOpen (x : DramChan) (r : DramReq) : Bool := Store.get (fun _ => none) x.openRow (cellBank r.cell) == some (cellRow r.cell)

/-- The request that a channel serves next (R272): the most urgent, then one to an open row, then the oldest, in a bank that no refresh occupies;
none overtakes an older one of its port to its cell. -/
def State.nextRequest (s : State) (ch : Nat) : Option DramReq :=
  let x := s.chanU ch
  let better := fun (a b : DramReq) =>
    let ua := a.urgency s.time
    let ub := b.urgency s.time
    decide (ub < ua) || ua == ub && x.isOpen a && !x.isOpen b
  let step := fun (p : Option DramReq × List DramReq) (r : DramReq) =>
    let held := !s.bankFree ch r.cell || p.2.any (fun q => q.port == r.port && q.cell == r.cell)
    (match p.1 with
     | none => if held then none else some r
     | some b => if !held && better r b then some r else some b, p.2 ++ [r])
  ((s.waitingOn ch).foldl step (none, [])).1

/-- An activation of a row in the table of its bank (R277): the table after it, and whether the count reached the threshold. -/
def activate (th row : Nat) (t : List (Nat × Nat)) : List (Nat × Nat) × Bool :=
  let t := if t.any (fun e => e.1 == row) then t.map (fun e => if e.1 = row then (e.1, e.2 + 1) else e)
    else if t.length < 16 then t ++ [(row, 1)]
    else
      let low := (t.map (·.2)).foldl min (t.headD (0, 0)).2
      let i := t.findIdx (fun e => e.2 == low)
      t.set i (row, low + 1)
  let hit := t.any (fun e => e.1 == row && decide (th ≤ e.2))
  (if hit then t.map (fun e => if e.1 = row then (e.1, 0) else e) else t, hit)

/-- An interval of R273 that holds requests back until `ns` from now: a channel, or one bank of it. -/
def State.noteInterval (s : State) (ch code : Nat) (bank : Option Nat) (ns : Nat) : State :=
  let x := s.chanU ch
  let end_ := s.time + BitVec.ofNat 64 (nsTime ns)
  s.setChan ch { x with interval := (code, end_, bank) :: x.interval.filter (fun q => q.1 != code || q.2.2 != bank) }

/-- The cause code of a request's latest interval (R273, R274): 7, demand beyond the first condition, where none has fallen into its wait. -/
def DramChan.causeOf (x : DramChan) (r : DramReq) : Nat :=
  let mine := fun (q : Nat × Time × Option Nat) => decide (r.at_.toNat ≤ q.2.1.toNat) && q.2.2.all (fun b => b == cellBank r.cell)
  ((x.interval.find? mine).map (·.1)).getD 7

/-- The rows next to a row and next but one, those that exist (R277). -/
def neighbours (rows row : Nat) : List Nat :=
  ((if 1 ≤ row then [row - 1] else []) ++ [row + 1] ++ (if 2 ≤ row then [row - 2] else []) ++ [row + 2]).filter (fun r => decide (r < rows))

/-- A neighbour refresh in bank `b` around a row (R277, R278): it takes the bank for 0.24 µs, is counted, and may make a storm. The refresh closes the
bank's row (log entry 124, PRESUMED). -/
def State.neighbourRefresh (s : State) (ch b row port : Nat) : State :=
  let x := s.chanU ch
  let n := Store.get (fun _ => 0) x.nref b + 1
  let storm := decide (64 < n) && !x.stormed
  let s := s.setChan ch { x with nref := Store.set (fun _ => 0) x.nref b n, stormed := x.stormed || storm,
                                 openRow := Store.set (fun _ => none) x.openRow b none, lastPort := Store.set (fun _ => 0) x.lastPort b port,
                                 busy := Store.set (fun _ => 0) x.busy b (s.time.toNat + nsTime 240) }
  let s := (s.count Reg.DRC_NREF_CNT word32).put (.dramRefresh ch b (neighbours (dramRows s.fac.variant) row))
  let s := s.noteInterval ch 2 (some b) 240
  if storm then (s.raise Reg.DRC_STAT Fld.DRC_STAT_NREF_STORM_S).emit 0x0304 ch [ch, b, n, port] else s

/-- A row is activated (R277): its count, and the neighbour refresh that it may cause. -/
def State.activateRow (s : State) (ch : Nat) (r : DramReq) : State :=
  let x := s.chanU ch
  let b := cellBank r.cell
  let a := activate (s.fld Reg.DRC_ACT_TH Fld.DRC_ACT_TH_ACT_TH) (cellRow r.cell) (Store.get (fun _ => []) x.tables b)
  let s := s.setChan ch { x with tables := Store.set (fun _ => []) x.tables b a.1,
                                 openRow := Store.set (fun _ => none) x.openRow b (some (cellRow r.cell)) }
  if a.2 then s.neighbourRefresh ch b (cellRow r.cell) r.port else s

/-- DRC_ACT_TH is written (R277): the rows whose counts have reached the new threshold have their neighbours refreshed, and count from 0; the port
told is the one whose activation reached a threshold last in the bank. -/
def State.actThWritten (s : State) : State :=
  let th := s.fld Reg.DRC_ACT_TH Fld.DRC_ACT_TH_ACT_TH
  (List.range 32).foldl (fun (s : State) i =>
    let ch := i / 16
    let b := i % 16
    let t := Store.get (fun _ => []) (s.chanU ch).tables b
    let hit := t.filter (fun e => decide (th ≤ e.2))
    if hit.isEmpty then s else
    let cut := t.map (fun e => if th ≤ e.2 then (e.1, 0) else e)
    let s := s.setChan ch { s.chanU ch with tables := Store.set (fun _ => []) (s.chanU ch).tables b cut }
    hit.foldl (fun (s : State) e => s.neighbourRefresh ch b e.1 (Store.get (fun _ => 0) (s.chanU ch).lastPort b)) s) s

/-- A request has missed its target (R274): at most one record a second for a port, with what has happened since the last. -/
def State.missLatency (s : State) (ch p lat cause : Nat) : State :=
  let s := (s.count (Reg.DRC_PORT_MISS p) word32).raise Reg.DRC_STAT Fld.DRC_STAT_MISS_S
  let s := s.setFld (Reg.DRC_PORT_STAT p) Fld.DRC_PORT_STAT_CAUSE cause
  let x := s.dportU p
  let x := { missed := x.missed + 1, worst := max x.worst lat }
  let due := match (s.rateKey 0x0300 p).lastA with
    | none => true
    | some t => decide (secTime 1 ≤ (s.time - t).toNat)
  let s := s.setDport p (if due then {} else x)
  if due then s.emitLimited 0x0300 ch p (secTime 1) false 0 (fun _ => [p, x.missed, x.worst, cause]) else s

/-- One request completes on a channel. -/
def State.serveRequest (s : State) (ch : Nat) (r : DramReq) : State :=
  let cause := (s.chanU ch).causeOf r
  let s := { s with drc := { s.drc with queue := s.drc.queue.erase r } }
  let s := if (s.chanU ch).isOpen r then s else s.activateRow ch r
  let s := s.setChan ch { s.chanU ch with down := false, idleAt := s.time }
  let lat := min ((s.time - r.at_).toNat * 100000000 / 2 ^ 32) (2 ^ 32 - 1)
  let s := s.count (Reg.DRC_PORT_REQ r.port) word32
  let s := s.setReg (Reg.DRC_PORT_MAXLAT r.port) (BitVec.ofNat 32 (max (s.reg (Reg.DRC_PORT_MAXLAT r.port)).toNat lat))
  if r.tgt * 2 ^ 32 < (s.time - r.at_).toNat * 100000000 then s.missLatency ch r.port lat cause else s

/-- The requests that arrive at once, by port and cell (R270). -/
def dramArrivals (loads stores : List (Nat × Nat)) : List DramReq :=
  let l := fun (write : Bool) (q : List (Nat × Nat)) =>
    q.map (fun a => ({ port := a.1, write := write, cell := a.2, at_ := 0, tgt := 0 } : DramReq))
  l false loads ++ l true stores

/-! ### Refresh (R275 to R278) -/

/-- The least time between per-bank refreshes of a channel: 244 ns over the multiplier (R275). -/
def State.refreshTime (s : State) : Nat := 244 * 2 ^ 32 / 1000000000 / 2 ^ s.fld Reg.DRC_REF Fld.DRC_REF_MULT

/-- Whether a per-bank refresh of a channel is due; in self-refresh, and through a change of operating point, the DRAM refreshes itself. -/
def State.refreshFalls (s : State) (ch : Nat) : Bool :=
  decide (ch < 2) && !(s.chanU ch).selfRef && s.drc.change.isNone && decide (s.refreshTime ≤ (s.time - (s.chanU ch).refAt).toNat)

/-- Whether a refresh of a channel may no longer be postponed (R276). -/
def State.refreshForced (s : State) (ch : Nat) : Bool := decide (s.fld Reg.DRC_REF Fld.DRC_REF_PP_MAX ≤ (s.chanU ch).postponed)

/-- The next bank of a channel is refreshed (R275): it is occupied for 190 ns, and its row is closed (log entry 124, PRESUMED). -/
def State.issueRefresh (s : State) (ch : Nat) : State :=
  let x := s.chanU ch
  let b := x.nextBank % 16
  (s.setChan ch { x with nextBank := (b + 1) % 16, openRow := Store.set (fun _ => none) x.openRow b none,
                         busy := Store.set (fun _ => 0) x.busy b (s.time.toNat + nsTime 190) }).put (.dramRefresh ch b [])

/-- REFRESH_DUE (R275, R276): postponed while an urgent request waits and PP_MAX allows, else issued. -/
def refreshDue (s : State) (ch : Nat) : State :=
  if !s.refreshFalls ch then s
  else
    let x := s.chanU ch
    let s := s.setChan ch { x with refAt := s.time }
    if s.urgentOn ch && !s.refreshForced ch then
      (s.setChan ch { s.chanU ch with postponed := x.postponed + 1 }).setFld Reg.DRC_REF Fld.DRC_REF_PP_PEAK
        (max (s.fld Reg.DRC_REF Fld.DRC_REF_PP_PEAK) (x.postponed + 1))
    else s.issueRefresh ch

/-- The postponed refreshes of a channel are made up in one burst, 90 ns apart, which holds the channel. -/
def State.catchUp (s : State) (ch : Nat) : State :=
  let n := (s.chanU ch).postponed
  if n = 0 then s else
  let s := (List.range n).foldl (fun (s : State) _ => s.issueRefresh ch) s
  let s := s.setChan ch { s.chanU ch with postponed := 0, holdTil := s.time.toNat + nsTime (90 * n + 190) }
  (s.count Reg.DRC_CATCHUP_CNT word32).noteInterval ch 1 none (90 * n + 190)

/-- REFRESH_CATCHUP (R276): no urgent request waits, so the postponed refreshes are issued. -/
def refreshCatchup (s : State) (ch : Nat) : State := if 2 ≤ ch ∨ s.urgentOn ch then s else s.catchUp ch

/-- DRAM_REQUEST (R272): requests enter the queue, and the channel takes its turn: a refresh that may no longer be postponed, then the request whose
turn it is, then the refreshes that no urgent request holds back. -/
def dramRequest (s : State) (ch : Nat) (arrivals : List DramReq) : State :=
  if 2 ≤ ch then s else
  let s := s.enterRequests arrivals
  let s := if s.serves ch && s.refreshForced ch then refreshDue s ch else s
  let s := if s.serves ch then match s.nextRequest ch with
      | some r => s.serveRequest ch r
      | none => s
    else s
  (if s.serves ch && !s.urgentOn ch then refreshDue (refreshCatchup s ch) ch else s).showPorts

/-- DRAM_TEMP_READ (R275): every 16 ms, the temperature in 1/256 °C, and the refresh multiplier that it asks for. -/
def dramTempRead (s : State) (temp : BitVec 16) : State :=
  let wait := match s.drc.tempAt with | some t => decide ((s.time - t).toNat < msTime 16) | none => false
  if wait then s else
  let t := temp.toInt
  let mult := if 256 * 95 < t then 2 else if 256 * 85 < t then 1 else 0
  let s := { s with drc := { s.drc with tempAt := some s.time } }
  (s.setFld Reg.DRC_TEMP Fld.DRC_TEMP_T_NOW temp.toNat).setFld Reg.DRC_REF Fld.DRC_REF_MULT mult

/-- A new window of the activation tables of a channel (R277, R278). -/
def DramChan.newWindow (x : DramChan) : DramChan := { x with tables := [], nref := [], stormed := false }

/-- REFRESH_WINDOW_START (R277): 32 ms after the last. -/
def refreshWindowStart (s : State) : State :=
  if (s.time - s.drc.windowAt).toNat < msTime 32 then s else
  (List.range 2).foldl (fun (s : State) ch => if (s.chanU ch).selfRef then s else s.setChan ch (s.chanU ch).newWindow)
    { s with drc := { s.drc with windowAt := s.time } }

/-! ### Training (R282, R283) -/

/-- The point in use. -/
def State.opNow (s : State) : Nat := s.fld Reg.DRC_STAT Fld.DRC_STAT_OP_NOW

/-- Whether full training of a point is due: T_NOW is 5 °C or more from the temperature of its last (R282, R284). -/
def State.fullDue (s : State) (op : Nat) : Bool :=
  decide (1280 ≤ ((signedOf 16 (s.fld Reg.DRC_TEMP Fld.DRC_TEMP_T_NOW)) - s.drc.tTrain.getD op 0).natAbs)

/-- DRC_STAT.TRAIN shows the channels that train. -/
def State.showTraining (s : State) : State :=
  s.setFld Reg.DRC_STAT Fld.DRC_STAT_TRAIN (bit ((s.chanU 0).training != .none) + 2 * bit ((s.chanU 1).training != .none))

/-- A training begins on a channel. -/
def State.startTraining (s : State) (ch : Nat) (t : Training) : State :=
  (s.setChan ch { s.chanU ch with training := t, trainAt := s.time, again := false }).showTraining

/-- Whether no training and no change runs, and the DRAM is not in self-refresh. -/
def State.drcQuiet (s : State) : Bool :=
  (List.range 2).all (fun ch => (s.chanU ch).training == .none && !(s.chanU ch).selfRef) && s.drc.change.isNone

/-- Whether a channel's last periodic check is 1 s old. -/
def State.checkDue (s : State) (ch : Nat) : Bool := decide (secTime 1 ≤ (s.time - (s.chanU ch).lastCheck).toNat)

/-- PERIODIC_TRAINING (R282): the 1 s check of a channel, one channel at a time. -/
def periodicTraining (s : State) (ch : Nat) : State :=
  if decide (ch < 2) && s.drcQuiet && s.drc.toTrain.isEmpty && s.checkDue ch then s.startTraining ch .check else s

/-- Full training of both channels in turn, beginning with `ch`. -/
def bothFrom (ch : Nat) : List (Nat × Training) := [(ch, .full), (1 - ch, .full)]

/-- T_TRAIN of a point and what DRC_TEMP shows of the point in use. -/
def State.setTrained (s : State) (op : Nat) : State :=
  let t := signedOf 16 (s.fld Reg.DRC_TEMP Fld.DRC_TEMP_T_NOW)
  { s with drc := { s.drc with tTrain := s.drc.tTrain.set op t } }

/-- DRC_TEMP.T_TRAIN shows the temperature of the point in use. -/
def State.showTTrain (s : State) : State :=
  s.setFld Reg.DRC_TEMP Fld.DRC_TEMP_T_TRAIN (twos 16 (s.drc.tTrain.getD s.opNow 0))

/-! ### Operating points (R269, R284, R285) -/

/-- The point that DRC_CFG selects for a mode (R269). -/
def State.pointOf (s : State) (mode : Nat) : Nat :=
  if mode = modeBoot then 1
  else if mode = modeVigil then s.fld Reg.DRC_CFG Fld.DRC_CFG_OP_VIGIL
  else if mode = modeBurst then s.fld Reg.DRC_CFG Fld.DRC_CFG_OP_BURST
  else s.fld Reg.DRC_CFG Fld.DRC_CFG_OP_SURVEY

/-- Whether a change must wait: a training gathers measurements, or a change runs (R285). -/
def State.opBusy (s : State) : Bool :=
  s.drc.change.isSome || !s.drc.toTrain.isEmpty || (List.range 2).any (fun ch => (s.chanU ch).training != .none)

/-- The pending change begins, once nothing holds it back (R284, R285); one to the point in use ends at once as UNCHANGED. -/
def State.beginPending (s : State) : State :=
  if !s.flag Reg.DRC_STAT Fld.DRC_STAT_PEND_V || s.opBusy || (s.chanU 0).selfRef then s else
  let op := s.fld Reg.DRC_STAT Fld.DRC_STAT_OP_PEND
  let s := s.clear Reg.DRC_STAT Fld.DRC_STAT_PEND_V
  if op = s.opNow then s.emit 0x0301 0xFF [op, op, 1, 0, 0]
  else
    let s := (s.flushMerge.catchUp 0).catchUp 1
    let s := (List.range 2).foldl (fun (s : State) ch => s.setChan ch { s.chanU ch with openRow := [], down := false }) s
    { s with drc := { s.drc with change := some (s.opNow, op), changeAt := s.time } }.raise Reg.DRC_STAT Fld.DRC_STAT_FREQ_BUSY

/-- The trainings of a list follow one another; after the last, a change that has waited for their end begins (R285). -/
def State.trainNext (s : State) (l : List (Nat × Training)) : State :=
  match l with
  | (c, t) :: rest => { s with drc := { s.drc with toTrain := rest } }.startTraining c t
  | [] => { s with drc := { s.drc with toTrain := [] } }.beginPending

/-- FULL_TRAINING (R282): the temperature has moved 5 °C since the last full training of the point in use. -/
def fullTraining (s : State) (ch : Nat) : State :=
  if decide (ch < 2) && s.drcQuiet && s.fullDue s.opNow then { s with drc := { s.drc with trained := true } }.trainNext (bothFrom ch) else s

/-- A change of the operating point is requested (R284, R285): it replaces a pending one and begins when it can. -/
def State.requestOp (s : State) (op : Nat) : State :=
  let pend := s.flag Reg.DRC_STAT Fld.DRC_STAT_PEND_V
  if op = s.opNow && !pend && s.drc.change.isNone then s else
  let old := s.fld Reg.DRC_STAT Fld.DRC_STAT_OP_PEND
  let s := if pend then
      ((s.raise Reg.DRC_STAT Fld.DRC_STAT_REPLACED_S).count Reg.DRC_FREQ_CNT Fld.DRC_FREQ_CNT_REPLACED).emit 0x0302 0xFF [old, op]
    else s
  ((s.setFld Reg.DRC_STAT Fld.DRC_STAT_OP_PEND op).raise Reg.DRC_STAT Fld.DRC_STAT_PEND_V).beginPending

/-- OP_POINT_CHANGE (R284, R285): the present mode's point is requested if it is not in use, and a pending change begins if it can. -/
def opPointChange (s : State) : State :=
  if s.flag Reg.DRC_STAT Fld.DRC_STAT_PEND_V then s.beginPending
  else if s.drc.change.isSome then s
  else s.requestOp (s.pointOf s.curMode)

/-- The least and the largest time that a change holds the channels, in 10 ns (R284): a check of 10 µs or full training of 50 µs, and at most
30 µs or 70 µs. -/
def changeBounds (full : Bool) : Nat × Nat := if full then (5000, 7000) else (1000, 3000)

/-- A training of a channel has failed twice (R283): the settings stay, and three in a row are reported to SMON. -/
def State.trainFailed (s : State) (ch op : Nat) (full : Bool) : State :=
  let n := (s.chanU ch).fails + 1
  let s := (s.setChan ch { s.chanU ch with fails := n }).raise Reg.DRC_STAT Fld.DRC_STAT_TRAIN_FAIL_S
  let s := s.emit 0x0303 ch [ch, op, bit full, n]
  if 3 ≤ n then s.raiseCause 10 283 ch else s

/-- How long a change has its channels in self-refresh while the M-PLL locks at the new point: what the bounds leave before the training (R284; log
entry 125, DESIGN CHOICE). -/
def State.relocking (s : State) : Bool := s.drc.change.isSome && decide ((s.time - s.drc.changeAt).toNat < usTime 20)

/-- The training of a change ends on a channel (R283, R284): within the margins, or failed twice. -/
def State.changeTrained (s : State) (ch op : Nat) (full failed : Bool) : State :=
  let x := s.chanU ch
  if failed then s.trainFailed ch op full else
  let s := s.setChan ch { x with fails := 0 }
  if (s.chanU (1 - ch)).fails < 3 then s.dropCause 10 else s

/-- DRC_FREQ_DONE (R284): the change is complete, having held the channels for `holding` units of 10 ns. -/
def drcFreqDone (s : State) (end_ : ChangeEnd) : State :=
  let holding := end_.holding
  match s.drc.change with
  | none => s
  | some (old, op) =>
    let full := s.fullDue op
    if holding < (changeBounds full).1 || (changeBounds full).2 < holding ||
        (s.time - s.drc.changeAt).toNat * 100000000 < holding * 2 ^ 32 then s else
    let s := if full && end_.failed.all (fun ch => decide (2 ≤ ch)) then s.setTrained op else s
    let s := { s with drc := { s.drc with change := none } }
    let s := (List.range 2).foldl (fun (s : State) ch =>
      let s := s.changeTrained ch op full (end_.failed.contains ch)
      (s.setChan ch { s.chanU ch with refAt := s.time, idleAt := s.time }).noteInterval ch 6 none 0) s
    let s := (s.setFld Reg.DRC_STAT Fld.DRC_STAT_OP_NOW op).clear Reg.DRC_STAT Fld.DRC_STAT_FREQ_BUSY
    let s := s.count Reg.DRC_TRAIN_CNT (if full then Fld.DRC_TRAIN_CNT_FULL else Fld.DRC_TRAIN_CNT_CHECK)
    let s := (s.count Reg.DRC_FREQ_CNT Fld.DRC_FREQ_CNT_CHANGES).showTTrain
    (s.emit 0x0301 0xFF [old, op, 0, holding, bit full]).beginPending

/-- The reserved points of DRC_CFG (R287). -/
def drcCfgReject (v : Word) : Word :=
  let bad := fun (f : Field) => rejectIf (getField f v == 3) f
  bad Fld.DRC_CFG_OP_BURST ||| bad Fld.DRC_CFG_OP_SURVEY ||| bad Fld.DRC_CFG_OP_VIGIL

/-- A target outside 10 to 10 000 (R270). -/
def drcTgtReject (v : Word) : Word :=
  let t := getField Fld.DRC_PORT_TGT_TGT v
  rejectIf (decide (t < 10) || decide (10000 < t)) Fld.DRC_PORT_TGT_TGT

/-- DRC_CFG_WRITE (R269, R284): a change of the present mode's point requests a change. -/
def drcCfgWrite (s : State) (v : Word) : State :=
  let was := s.pointOf s.curMode
  let s := s.writeJudged Reg.DRC_CFG 0x333 (drcCfgReject v) v
    Reg.DRC_STAT Fld.DRC_STAT_CFG_REJ
  if s.pointOf s.curMode = was then s else s.requestOp (s.pointOf s.curMode)

/-- DRC_PORT_TGT_WRITE (R270): 10 to 10 000, for requests that enter the queue after it. -/
def drcPortTgtWrite (s : State) (p : Nat) (v : Word) : State :=
  if 6 ≤ p then s
  else s.writeJudged (Reg.DRC_PORT_TGT p) 0xFFFF (drcTgtReject v) v Reg.DRC_STAT Fld.DRC_STAT_CFG_REJ

/-- A channel's training is over: the next one of those still to come begins, or a change that waited for their end. -/
def State.trainingOver (s : State) (ch : Nat) (full ok : Bool) : State :=
  let x := s.chanU ch
  let s := (s.setChan ch { x with training := .none, again := false, lastCheck := if full then x.lastCheck else s.time }).showTraining
  let s := s.noteInterval ch 5 none 0
  let s := s.count Reg.DRC_TRAIN_CNT (if full then Fld.DRC_TRAIN_CNT_FULL else Fld.DRC_TRAIN_CNT_CHECK)
  let s := { s with drc := { s.drc with trained := s.drc.trained && (ok || !full) } }
  let whole := full && s.drc.toTrain.all (fun q => q.2 != .full)
  (if whole && s.drc.trained then (s.setTrained s.opNow).showTTrain else s).trainNext s.drc.toTrain

/-- How long a training holds its channel: 2 µs a check, 50 µs a full one (R282). -/
def Training.hold (t : Training) : Nat := if t = .full then usTime 50 else usTime 2

/-- TRAINING_DONE (R283): a training ends within the controller's margins or not; one that is not is repeated once. -/
def trainingDone (s : State) (ch : Nat) (ok : Bool) : State :=
  let x := s.chanU ch
  if decide (2 ≤ ch) || x.training == .none || decide ((s.time - x.trainAt).toNat < x.training.hold) then s else
  let full := x.training == .full
  if ok then
    let s := s.setChan ch { x with fails := 0 }
    let s := if (s.chanU (1 - ch)).fails < 3 then s.dropCause 10 else s
    s.trainingOver ch full true
  else if !x.again then s.setChan ch { x with again := true, trainAt := s.time }
  else (s.trainFailed ch s.opNow full).trainingOver ch full false

/-! ### Power-down and self-refresh (R279 to R281) -/

/-- The time of 64 controller clocks at the point in use: a clock is the time of one cell at the peak rate of a channel, 10, 5 or 2.5 ns (R269; log
entry 125, DESIGN CHOICE). -/
def State.idleClocks (s : State) : Nat := nsTime (640 / 2 ^ s.opNow)

/-- POWER_DOWN_ENTRY (R279): in RUN and SLEEP, a channel without a waiting request for 64 clocks, and without a training or a change. -/
def powerDownEntry (s : State) (ch : Nat) : State :=
  let x := s.chanU ch
  if decide (2 ≤ ch) || !(s.waitingOn ch).isEmpty || !s.serves ch || s.pstate == 2 || decide ((s.time - x.idleAt).toNat < s.idleClocks) then s
  else s.setChan ch { x with down := true }

/-- SELF_REFRESH_ENTRY (R279): in DEEP, with every queue empty, no refresh postponed, no training and no change. -/
def selfRefreshEntry (s : State) : State :=
  if s.fld Reg.MODE_STAT Fld.MODE_STAT_PSTATE != 2 || !s.drc.queue.isEmpty || !s.drcQuiet || s.opBusy ||
      (List.range 2).any (fun ch => (s.chanU ch).postponed != 0) then s else
  let s := s.flushMerge
  let s := (List.range 2).foldl (fun (s : State) ch => s.setChan ch { s.chanU ch with selfRef := true, down := false, openRow := [] }) s
  { s with drc := { s.drc with srAt := some s.time, mpllOff := false } }.setFld Reg.DRC_STAT Fld.DRC_STAT_SR 3
    |>.count Reg.DRC_SR_CNT word32

/-- MPLL_STOP (R279): 20 µs after the entry without a request. -/
def mpllStop (s : State) : State :=
  let since := match s.drc.srAt with | some t => (s.time - t).toNat | none => 0
  if (s.chanU 0).selfRef && s.drc.queue.isEmpty && decide (usTime 20 ≤ since) then
    { s with drc := { s.drc with mpllOff := true } }.clear Reg.CLK_STAT Fld.CLK_STAT_M_LOCK
  else s

/-- The time in self-refresh, in µs, that DRC_SR_TIME does not yet hold. -/
def State.srMicros (s : State) : Nat :=
  s.drc.srUs + match s.drc.srAt with
    | some t => usSince t s.time
    | none => 0

/-- What DRC_SR_TIME shows: the present stay in self-refresh is in it (R279, R287). -/
def State.srShown (s : State) : Word := s.reg Reg.DRC_SR_TIME + BitVec.ofNat 32 (s.srMicros / 1000)

/-- What DRC_STAT shows: through a change both channels are in self-refresh, then train (R284, R287). -/
def State.drcStatShown (s : State) : State :=
  if s.drc.change.isNone then s
  else if s.relocking then s.setFld Reg.DRC_STAT Fld.DRC_STAT_SR 3
  else s.setFld Reg.DRC_STAT Fld.DRC_STAT_TRAIN 3

/-- What CLK_STAT shows: the M-PLL locks anew through the first part of a change (R284). -/
def State.clkStatShown (s : State) : State :=
  let s := s.setFld Reg.CLK_STAT Fld.CLK_STAT_TB_LOCK (bit (s.gateOpen 14))
  if s.relocking then s.clear Reg.CLK_STAT Fld.CLK_STAT_M_LOCK else s

/-- The DRAM leaves self-refresh (R279 to R282): the time in it is added up, the activation tables start a new window after 32 ms, the
M-PLL runs again, and the trainings that are due follow, then a change that waits. The exit takes 0.4 µs, and 65 µs more where the M-PLL locks
and its clock settles. -/
def State.exitSelfRefresh (s : State) : State :=
  if !(s.chanU 0).selfRef then s else
  let t0 := s.drc.srAt.getD s.time
  let us := s.srMicros
  let long := decide (msTime 32 ≤ (s.time - t0).toNat)
  let code := if s.drc.mpllOff then 4 else 3
  let s := (List.range 2).foldl (fun (s : State) ch =>
    let x := s.chanU ch
    (s.setChan ch { (if long then x.newWindow else x) with selfRef := false, refAt := s.time, idleAt := s.time,
                                                           holdTil := s.time.toNat + nsTime (if code = 4 then 65400 else 400) }).noteInterval ch
      code none 0) s
  let s := { s with drc := { s.drc with srAt := none, mpllOff := false, srUs := us % 1000,
                                        windowAt := if long then s.time else s.drc.windowAt } }
  let s := (s.setFld Reg.DRC_STAT Fld.DRC_STAT_SR 0).raise Reg.CLK_STAT Fld.CLK_STAT_M_LOCK
  let s := s.setReg Reg.DRC_SR_TIME (s.reg Reg.DRC_SR_TIME + BitVec.ofNat 32 (us / 1000))
  let due := ((List.range 2).filter s.checkDue).map (fun ch => (ch, Training.check))
  { s with drc := { s.drc with trained := true } }.trainNext (due ++ (if s.fullDue s.opNow then bothFrom 0 else []))

/-- Whether the entry into self-refresh is complete, 0.3 µs, and the minimum residency of 0.4 µs has passed (R280). -/
def State.srResident (s : State) : Bool := s.drc.srAt.all (fun t => decide (nsTime 700 ≤ (s.time - t).toNat))

/-- SELF_REFRESH_EXIT (R280, R281): a request has arrived, or the power state has left DEEP; the entry completes and the residency passes first. -/
def selfRefreshExit (s : State) : State :=
  if s.drc.queue.isEmpty && s.pstate == 2 || !s.srResident then s else s.exitSelfRefresh

end Sys2Proof.Machine
end

