-- ==== Sys2Proof/Machine/Clocks.lean ====
section
/-!
DEFINITION. Clock sources (R323 to R327, R342) and the repair of a lost one across the fabric (R368, R375).
-/
namespace Sys2Proof.Machine

/-! ### The source -/

/-- CLK_SRC.SEL. -/
def State.clkSel (s : State) : Nat := s.fld Reg.CLK_SRC Fld.CLK_SRC_SEL

/-- Whether candidate `c` is READY (R324). -/
def State.isReady (s : State) (c : Nat) : Bool := c < 5 && bitAt (s.fld Reg.CLK_READY Fld.CLK_READY_READY) c

/-- Whether a neighbour advertises what R324 asks of a port candidate. -/
def State.advReady (s : State) (p : Nat) : Bool :=
  hasFp s.fac.variant p && s.talks p && s.flag (Reg.FP_STAT p) Fld.FP_STAT_NSYNT && !s.flag (Reg.FP_STAT p) Fld.FP_STAT_NFROM &&
  decide (s.fld (Reg.FP_STAT p) Fld.FP_STAT_NDEPTH ≤ s.fld Reg.FAB_STAT Fld.FAB_STAT_DEPTH)

/-- What FP_STAT.CLKSRC and FAB_STAT.DEPTH show of the source (R368): depth 0 at the clock root, else the clock parent's plus 1. A
neighbour that is deeper than that is no candidate (R324). -/
def State.showSource (s : State) : State :=
  let c := s.clkSel
  let s := (List.range 4).foldl (fun (s : State) p =>
    if hasFp s.fac.variant p then s.setFld (Reg.FP_STAT p) Fld.FP_STAT_CLKSRC (bit (c == p + 1)) else s) s
  let d := if s.flag Reg.FAB_STAT Fld.FAB_STAT_ROOT then 0
    else if c = 0 then 31 else min 31 (s.fld (Reg.FP_STAT (c - 1)) Fld.FP_STAT_NDEPTH + 1)
  let s := s.setFld Reg.FAB_STAT Fld.FAB_STAT_DEPTH d
  (List.range 4).foldl (fun (s : State) p => if s.advReady p then s else s.setBit Reg.CLK_READY (p + 1) false) s

/-- An interval of holdover begins (R326): PLLs hold, HOLDOVER and HOLD_S set, the interval counts. -/
def State.beginHoldover (s : State) : State :=
  if s.flag Reg.CLK_STAT Fld.CLK_STAT_HOLDOVER then s else
  let s := { s with clk := { s.clk with lossTime := some s.time, lostSrc := s.clkSel } }
  ((s.setLive Reg.CLK_STAT Fld.CLK_STAT_HOLDOVER Fld.CLK_STAT_HOLD_S true).clear Reg.CLK_STAT Fld.CLK_STAT_T_LOCK).count
    Reg.CLK_HOLD_CNT word32

/-- The source changes to candidate `c` (R325, R368): the PLLs hold until they have locked to it. A switch in progress leaves the source that
it left. -/
def State.takeSource (s : State) (c : Nat) : State :=
  let old := if s.clk.switching.isSome then s.clk.oldSrc else s.clkSel
  let s := { s with clk := { s.clk with switching := some c, oldSrc := old },
                    fab := { s.fab with repair := s.fab.repair || s.flag Reg.FAB_STAT Fld.FAB_STAT_ORPHAN } }
  (s.setFld Reg.CLK_SRC Fld.CLK_SRC_SEL c).showSource

/-- Send OFFER with this device's new depth on every other port (R368). -/
def State.sendOffers (s : State) (except : Option Nat) : State :=
  (List.range 4).foldl (fun (s : State) p =>
    if hasFp s.fac.variant p && except != some p then
      s.sendControl p "OFFER" [s.fld Reg.FAB_STAT Fld.FAB_STAT_DEPTH, s.fab.rootDie] else s) s

/-- An orphan switches to a port and passes its clock on (R368); a former root is an ordinary device now (R375). -/
def State.reparent (s : State) (p : Nat) : State :=
  (((s.clear Reg.FAB_STAT Fld.FAB_STAT_ROOT).beginHoldover.takeSource (p + 1))).sendOffers (some p)

/-- The PLLs have locked to the source switched to (R325, R342). -/
def State.lockSource (s : State) : State :=
  match s.clk.switching with
  | none => s
  | some c =>
    let s := { s with clk := { s.clk with switching := none } }
    let s := if s.fld Reg.CLK_SRC Fld.CLK_SRC_ST = 2 then s.setFld Reg.CLK_SRC Fld.CLK_SRC_ST 0 else s
    if c = s.clk.oldSrc then s else s.raise Reg.CLK_STAT Fld.CLK_STAT_SWITCH_S

/-- Whether a candidate may be taken automatically (R326, R368, R375): READY; a port's neighbour is no orphan; REFCLK only where this
device ran from it (log entry 20, DESIGN CHOICE). -/
def State.autoEligible (s : State) (c : Nat) : Bool :=
  s.isReady c && (if c = 0 then s.clkSel == 0 else !s.flag (Reg.FP_STAT (c - 1)) Fld.FP_STAT_NORPHAN)

/-- The candidates in the order of CLK_PRIO (R326). -/
def State.clkOrder (s : State) : List Nat :=
  [Fld.CLK_PRIO_P0, Fld.CLK_PRIO_P1, Fld.CLK_PRIO_P2, Fld.CLK_PRIO_P3, Fld.CLK_PRIO_P4].map (fun f => s.fld Reg.CLK_PRIO f)

/-- A device whose source is lost takes the first candidate it may with AUTO = 1 (R326); one that LOST has made an orphan does so whatever
AUTO holds (R368; log entry 126, DEDUCED). -/
def State.autoSwitch (s : State) : State :=
  let lost := s.flag Reg.CLK_STAT Fld.CLK_STAT_HOLDOVER
  let needs := lost && s.flag Reg.CLK_SRC Fld.CLK_SRC_AUTO || !lost && s.flag Reg.FAB_STAT Fld.FAB_STAT_ORPHAN
  if !needs || s.clk.switching.isSome then s else
  match s.clkOrder.find? s.autoEligible with
  | none => s
  | some 0 => s.beginHoldover.takeSource 0
  | some (p + 1) => s.reparent p

/-- The device is ORPHAN (R368) and floods LOST to every neighbour that takes its clock from it. -/
def State.orphaned (s : State) (die : Nat) : State :=
  if s.flag Reg.FAB_STAT Fld.FAB_STAT_ORPHAN then s else
  let s := { s.raise Reg.FAB_STAT Fld.FAB_STAT_ORPHAN with fab := { s.fab with orphanAt := some s.time, offered := false } }
  (List.range 4).foldl (fun (s : State) p =>
    if hasFp s.fac.variant p && s.flag (Reg.FP_STAT p) Fld.FP_STAT_NFROM then s.sendControl p "LOST" [die] else s) s

/-- CLK_SOURCE_LOSS (R326, R368): the selected source is lost. -/
def clkSourceLoss (s : State) : State :=
  let s := { s with clk := { s.clk with switching := none, swDue := false }, fab := { s.fab with repair := false } }
  let s := if s.fld Reg.CLK_SRC Fld.CLK_SRC_ST = 2 then s.setFld Reg.CLK_SRC Fld.CLK_SRC_ST 0 else s
  let s := (s.beginHoldover.setBit Reg.CLK_READY s.clkSel false).orphaned s.fac.dieId.toNat
  s.autoSwitch

/-- CLK_HOLDOVER_END (R326): the PLLs have locked to the new candidate, or to the old one again; a BATON successor reports the handover
(R375). -/
def clkHoldoverEnd (s : State) : State :=
  if !s.flag Reg.CLK_STAT Fld.CLK_STAT_HOLDOVER || !(s.clk.switching.isSome || s.clkSel != s.clk.lostSrc || s.isReady s.clkSel) then s
  else
    let t0 := s.clk.lossTime.getD s.time
    let dur := min ((s.time - t0).toNat * 100000000 / 2 ^ 32) (2 ^ 32 - 1)
    let s := ((s.clear Reg.CLK_STAT Fld.CLK_STAT_HOLDOVER).raise Reg.CLK_STAT Fld.CLK_STAT_T_LOCK).setReg Reg.CLK_HOLD_T (BitVec.ofNat 32 dur)
    let s := s.emit 0x0400 0 [s.clk.lostSrc, s.clkSel, dur]
    let s := match s.clk.baton with
      | some old => s.emit 0x0431 0xFF [old, s.ownAddr, usSince t0 s.time]
      | none => s
    { s with clk := { s.clk with lossTime := none, lockAt := some s.time, baton := none } }.lockSource

/-- CLK_MISSING (R327): 2 µs without an edge of a READY candidate; no clock runs, so SMON acts when one returns. -/
def clkMissing (s : State) : State :=
  let s := (s.raise Reg.CLK_STAT Fld.CLK_STAT_MCD).driveSafeN true
  { s with clk := { s.clk with mcdFired := true } }

/-- CLK_RETURN (R327, R428): a clock runs again after the detector has fired. -/
def clkReturn (s : State) : State :=
  if !s.clk.mcdFired then s else
  ({ s with clk := { s.clk with mcdFired := false, lockAt := some s.time } }.emit 0x0402 0 [s.time.toNat]).raiseCause 1 327 0

/-- CANDIDATE_READY_CHANGE (R324): a candidate whose signal has been present and whose PLL has been locked for 1 ms becomes READY where
the device is host-attached, or the neighbour advertises what R324 asks; or it stops being READY. -/
def candidateReadyChange (s : State) (c : Nat) (ready : Bool) : State :=
  if 5 ≤ c then s else
  let ok := if c = 0 then s.host.pcieEver else s.advReady (c - 1)
  (s.setBit Reg.CLK_READY c (ready && ok)).autoSwitch

/-- A neighbour's advertisement no longer meets R324, so its candidate is not READY. -/
def State.checkAdv (s : State) (p : Nat) : State :=
  let s := if s.advReady p then s else s.setBit Reg.CLK_READY (p + 1) false
  if s.clkSel = p + 1 then s.showSource else s

/-- A candidate is named for CLK_SRC.SEL (R325): refused unless it is READY; naming the source in use, or the one that a switch is going to,
changes nothing. -/
def State.selectSource (s : State) (c : Nat) : State :=
  if !s.isReady c then (s.setFld Reg.CLK_SRC Fld.CLK_SRC_ST 1).raise Reg.CLK_STAT Fld.CLK_STAT_REFUSED_S
  else if c = s.clkSel && s.clk.switching.isNone && !s.flag Reg.CLK_STAT Fld.CLK_STAT_HOLDOVER then s.setFld Reg.CLK_SRC Fld.CLK_SRC_ST 0
  else
    let s := if s.clk.switching = some c then s else s.takeSource c
    { s with clk := { s.clk with swDue := true } }.setFld Reg.CLK_SRC Fld.CLK_SRC_ST 2

/-- CLK_SRC_WRITE (R325). -/
def clkSrcWrite (s : State) (v : Word) : State :=
  ((s.setFld Reg.CLK_SRC Fld.CLK_SRC_AUTO (getField Fld.CLK_SRC_AUTO v)).selectSource (getField Fld.CLK_SRC_SEL v)).autoSwitch

/-- CLK_SWITCH (R325, R345): the switch is complete. A retraining of the link that the clock comes over holds the PLLs in the same way
and changes no source. -/
def clkSwitch (s : State) : State :=
  if !s.clk.swDue then s else
  let s := { s.lockSource with clk := { s.lockSource.clk with swDue := false } }
  if s.clkSel = s.clk.oldSrc then s else s.emit 0x0401 0 [s.clk.oldSrc, s.clkSel]

/-! ### Across the fabric -/

/-- LOST (R368): a control flit from a neighbour that has become an orphan. -/
def lost (s : State) (p die : Nat) : State :=
  if !(p < 4 && hasFp s.fac.variant p && s.talks p) then s else
  ((s.raise (Reg.FP_STAT p) Fld.FP_STAT_NORPHAN).orphaned die).autoSwitch

/-- OFFER (R368): an orphan takes the port of the first OFFER, before the comparison of depths holds, and passes it on. -/
def offer (s : State) (p depth die : Nat) : State :=
  if !(p < 4 && hasFp s.fac.variant p && s.talks p) then s else
  let s := (s.setFld (Reg.FP_STAT p) Fld.FP_STAT_NDEPTH depth).clear (Reg.FP_STAT p) Fld.FP_STAT_NORPHAN
  if !s.flag Reg.FAB_STAT Fld.FAB_STAT_ORPHAN || s.fab.offered || s.clk.switching.isSome then s
  else { s with fab := { s.fab with offered := true, rootDie := die } }.reparent p

/-- The port that the clock comes over; 0xFF for REFCLK, which is none (log entry 127, DESIGN CHOICE). -/
def State.clkPort (s : State) : Nat := if s.clkSel = 0 then 0xFF else s.clkSel - 1

/-- CLK_REPAIR (R368, R379): the orphan's switch is complete. -/
def clkRepair (s : State) : State :=
  if !s.flag Reg.FAB_STAT Fld.FAB_STAT_ORPHAN || !s.fab.repair then s else
  let t : Nat := (s.time - s.fab.orphanAt.getD s.time).toNat * 100000000 / 2 ^ 32
  let s := ((s.clear Reg.FAB_STAT Fld.FAB_STAT_ORPHAN).emit 0x0430 0xFF [s.clkPort, s.fld Reg.FAB_STAT Fld.FAB_STAT_DEPTH, t]).lockSource
  { s with fab := { s.fab with orphanAt := none, offered := false, repair := false } }

/-- The addresses of the host-attached devices of a topology in key order (R357). -/
def hostOrder (l : List Dev) : List Nat :=
  ((ranked l).filter (·.host)).map (·.addr)

/-- Nearest integer to a rational, halves up. -/
def ratRound (x : Rat) : Int := (x + 1 / 2).floor

/-- FAB_FREQ shows y (R373, R380). -/
def State.showFreq (s : State) : State := s.setReg Reg.FAB_FREQ (BitVec.ofInt 32 (ratRound (s.fab.y * 1000000000000)))

/-- The topology this device knows: the manager's own, or what a standby has been given. -/
def State.knownTopo (s : State) : List Dev := if s.fab.topo.isEmpty then s.fab.mirror else s.fab.topo

/-- BATON (R375): having been ORPHAN for 20 µs without an OFFER, the successor takes REFCLK, keeps fabric time and its rate, becomes clock root at depth 0 and sends OFFER. The y that
keeps the rate is not the model's to know: it is free, within R373's limit. The next successor is named where the topology is known. -/
def baton (s : State) : State :=
  if !hasHost s.fac.variant || !s.flag Reg.FAB_STAT Fld.FAB_STAT_SUCCESSOR || !s.flag Reg.FAB_STAT Fld.FAB_STAT_ORPHAN || s.fab.offered ||
      s.clk.switching.isSome || s.fab.orphanAt.all (fun t => decide ((s.time - t).toNat < usTime 20)) then s else
  let old := s.fld Reg.FAB_ROLES0 Fld.FAB_ROLES0_A
  let next := ((hostOrder s.knownTopo).filter (fun a => a != old && a != s.ownAddr)).headD 0
  let f := s.freeNat 30
  let g := f.2.freeNat 30
  let y := fun (n : Nat) => ((n % 1000000001 : Nat) : Rat) / 1000000000000 - 1 / 2000
  let s := { g.2 with fab := { g.2.fab with y := y f.1, yInt := y g.1, offered := true, rootDie := g.2.fac.dieId.toNat },
                        clk := { g.2.clk with baton := some g.2.fab.rootDie } }
  let s := ((s.raise Reg.FAB_STAT Fld.FAB_STAT_ROOT).clear Reg.FAB_STAT Fld.FAB_STAT_SUCCESSOR).raise Reg.FAB_STAT Fld.FAB_STAT_BATON_S
  let s := (s.setFld Reg.FAB_ROLES0 Fld.FAB_ROLES0_A s.ownAddr).setFld Reg.FAB_ROLES0 Fld.FAB_ROLES0_B next
  let s := s.showFreq
  (s.beginHoldover.takeSource 0).sendOffers none

end Sys2Proof.Machine
end

