-- ==== Sys2Proof/Machine/Elapsed.lean ====
section
/-!
DEFINITION. What the device measures by elapsed time, through a change of fabric time (R374, R359): each time that only tells how long ago
something was moves with the step, so that durations, deadlines and rate limits go on as if no step had come (log entry 122, DEDUCED).
Instants that the spec gives in fabric time stay: boundaries of windows, periods and grids, switches, steps, captures, and times that records tell.
-/
namespace Sys2Proof.Machine

/-- Every listed value of a store changed by `f`. -/
def Store.adjust {α : Type} [DecidableEq α] (d : Nat → α) (f : α → α) (m : Store α) : Store α :=
  m.foldl (fun acc e => Store.set d acc e.1 (f e.2)) m

/-- The values of the first `n` keys changed by `f`. -/
def Store.adjustTo {α : Type} [DecidableEq α] (d : Nat → α) (f : α → α) (n : Nat) (m : Store α) : Store α :=
  (List.range n).foldl (fun acc k => Store.set d acc k (f (Store.get d acc k))) m

/-- A comparator test's times. -/
def CompTest.shifted (x : CompTest) (d : Time) : CompTest :=
  { x with nextAt := x.nextAt.map (· + d), lastAt := x.lastAt + d, since := x.since + d }

/-- A P-channel's times: when the tracker last accepted a period. -/
def Pch.shifted (x : Pch) (d : Time) : Pch := { x with mains := { x.mains with lastAt := x.mains.lastAt + d } }

/-- A hit that is running, or has ended and is not yet written, keeps its length and its distance from the time. -/
def Hc.shifted (x : Hc) (d : Time) : Hc :=
  { x with tFirst := x.tFirst + d, tLast := x.tLast + d, endAt := x.endAt + d, valid := x.valid.map (· + d), test := x.test.shifted d }

/-- An invocation's ready time and deadline. -/
def Inv.shifted (x : Inv) (d : Time) : Inv := { x with ready := x.ready + d, deadline := x.deadline + d }

/-- A cluster's times. -/
def Cluster.shifted (x : Cluster) (d : Time) : Cluster :=
  { x with since := x.since + d, tested := x.tested + d, busy := x.busy.map (fun q => (q.1 + d, q.2)) }

/-- A block's age, from its first value (R239). -/
def Block.shifted (x : Block) (d : Time) : Block := { x with since := x.since + d }

/-- A stream's block in progress and the block it is sending. -/
def Stream.shifted (x : Stream) (d : Time) : Stream :=
  { x with opn := x.opn.map (·.shifted d), tx := x.tx.map (fun t => { t with since := t.since + d, linkLost := t.linkLost.map (· + d) }) }

/-- A host ring's times. -/
def HostRing.shifted (x : HostRing) (d : Time) : HostRing :=
  { x with reqs := x.reqs.map (fun r => { r with since := r.since + d }), waits := x.waits.map (fun w => (w.1, w.2 + d)),
           last := x.last.map (fun e => { e with again := e.again.map (· + d) }) }

/-- A DRAM channel's times; `k` is the step as a count of the unit of fabric time. -/
def DramChan.shifted (x : DramChan) (d : Time) (k : Int) : DramChan :=
  { x with refAt := x.refAt + d, trainAt := x.trainAt + d, lastCheck := x.lastCheck + d,
           interval := x.interval.map (fun q => (q.1, q.2.1 + d, q.2.2)), scrubAt := ((x.scrubAt : Int) + k).toNat,
           holdTil := ((x.holdTil : Int) + k).toNat, busy := Store.adjust (fun _ => 0) (fun v => ((v : Int) + k).toNat) x.busy,
           idleAt := x.idleAt + d }

/-- The DRAM controller's times. -/
def DramUnit.shifted (x : DramUnit) (d : Time) : DramUnit :=
  { x with queue := x.queue.map (fun r => { r with at_ := r.at_ + d }), srAt := x.srAt.map (· + d), changeAt := x.changeAt + d,
           tempAt := x.tempAt.map (· + d), windowAt := x.windowAt + d }

/-- The merge buffer's ages, the lap and the VIGIL scrub period. -/
def EccUnit.shifted (x : EccUnit) (d : Time) : EccUnit :=
  { x with merge := x.merge.map (fun e => { e with at_ := e.at_ + d }), lapStart := x.lapStart + d, vigAt := x.vigAt + d }

/-- A port's times. -/
def Port.shifted (x : Port) (d : Time) : Port :=
  { x with cleanFrom := x.cleanFrom.map (· + d), retry := x.retry.map (fun f => { f with sentAt := f.sentAt + d }),
           queue := x.queue.map (fun q => { q with at_ := q.at_ + d }), crcAt := x.crcAt.map (· + d),
           switch := x.switch.map (fun q => (q.1, q.2 + d)), lastAt := x.lastAt + d, txAt := x.txAt + d, failedAt := x.failedAt.map (· + d),
           utilFrom := x.utilFrom + d }

/-- The fabric unit's times; the instants of a table switch and of a step are given in fabric time. -/
def FabUnit.shifted (x : FabUnit) (d : Time) : FabUnit :=
  { x with ownSince := x.ownSince.map (fun q => (q.1, q.2 + d)), switched := x.switched.map (· + d),
           reqs := x.reqs.map (fun r => { r with at_ := r.at_ + d }), answers := x.answers.map (fun r => { r with at_ := r.at_ + d }),
           orphanAt := x.orphanAt.map (· + d), hbAt := x.hbAt.map (· + d), lastTopo := x.lastTopo.map (· + d),
           reroutedAt := x.reroutedAt.map (· + d), failAt := x.failAt.map (· + d), srcAt := x.srcAt.map (· + d),
           slewAt := x.slewAt.map (· + d) }

/-- The times of what runs the device as a whole: rate limits, moderation, modes, clocks, PACER, SMON, alarms, triggers, boot. -/
def State.shiftSystem (s : State) (d : Time) : State :=
  let b := s.bootu
  { s with rate := Store.adjust (fun _ => {}) (fun k => { k with lastA := k.lastA.map (· + d), lastB := k.lastB.map (· + d) }) s.rate,
           host := { s.host with toldAt := s.host.toldAt + d, dmaAt := s.host.dmaAt + d },
           msi := Store.adjust (fun _ => {}) (fun v => { v with oldest := v.oldest + d }) s.msi,
           mode := { s.mode with instant := s.mode.instant + d, entryTime := s.mode.entryTime + d, lastWake := s.mode.lastWake.map (· + d),
                                 lastBurst := s.mode.lastBurst.map (· + d), svc := s.mode.svc.map (· + d) },
           clk := { s.clk with lossTime := s.clk.lossTime.map (· + d), deepRetry := s.clk.deepRetry.map (· + d),
                               lockAt := s.clk.lockAt.map (· + d), closing := s.clk.closing.map (fun q => (q.1, q.2 + d)) },
           pacer := { s.pacer with lastEval := s.pacer.lastEval + d, burstStart := s.pacer.burstStart + d },
           smon := { s.smon with safeEntry := s.smon.safeEntry + d, supAt := s.smon.supAt.map (fun e => (e.1, e.2 + d)) },
           alarm := Store.adjust (fun _ => {}) (fun a => { a with until_ := a.until_ + d }) s.alarm,
           trig := Store.adjust (fun _ => {}) (fun t => { t with latest := t.latest.map (· + d) }) s.trig,
           bootu := { b with startTime := b.startTime + d, kickAt := b.kickAt + d, mcFrom := b.mcFrom + d,
                             restarts := b.restarts.map (· + d) } }

/-- The times of the channels, monitors, comparators, drivers and the analysis engine. -/
def State.shiftSignals (s : State) (d : Time) : State :=
  { s with pch := Store.adjustTo (fun _ => {}) (·.shifted d) 64 s.pch,
           exc := Store.adjust (fun _ => {}) (fun x => { x with absent := x.absent.map (fun q => (q.1, q.2 + d)) }) s.exc,
           wch := Store.adjustTo (fun _ => {}) (fun x => { x with hitEnd := x.hitEnd.map (· + d) }) 8 s.wch,
           wm := Store.adjustTo (fun _ => {}) (fun x => { x with lastAt := x.lastAt + d, test := x.test.shifted d }) 72 s.wm,
           hc := Store.adjustTo (fun _ => {}) (·.shifted d) 8 s.hc,
           nodes := Store.adjust (fun _ => {}) (fun x => { x with invs := x.invs.map (·.shifted d) }) s.nodes,
           clu := Store.adjustTo (fun _ => {}) (·.shifted d) 16 s.clu,
           eng := { s.eng with mism := s.eng.mism.map (fun q => (q.1, q.2 + d)), ended := s.eng.ended + d } }

/-- The times of streams, DRAM, stored-data protection and the fabric. -/
def State.shiftStores (s : State) (d : Time) : State :=
  { s with streams := Store.adjust (fun _ => {}) (·.shifted d) s.streams,
           rings := Store.adjust (fun _ => {}) (·.shifted d) s.rings,
           drc := s.drc.shifted d, chan := Store.adjustTo (fun _ => {}) (·.shifted d d.toInt) 2 s.chan, ecc := s.ecc.shifted d,
           fab := s.fab.shifted d, port := Store.adjustTo (fun _ => {}) (·.shifted d) 4 s.port }

/-- Everything that elapsed time decides follows a step `d` of fabric time. -/
def State.keepElapsed (s : State) (d : Time) : State := ((s.shiftSystem d).shiftSignals d).shiftStores d

/-- The timers that start at instants of fabric time look for their next one from the present time on, where it has been set back (R44, R168). -/
def State.rearmTimers (s : State) : State :=
  let s := (List.range 16).foldl (fun (s : State) k =>
    if s.time.toNat < (s.excU k).perFrom.toNat then s.setExc k { s.excU k with perFrom := s.time } else s) s
  (List.range 8).foldl (fun (s : State) n =>
    if s.time.toNat < (s.startU n).timerFrom.toNat then s.setStart n { s.startU n with timerFrom := s.time } else s) s

end Sys2Proof.Machine
end

