-- ==== Sys2Proof/Machine/Links.lean ====
section
/-!
DEFINITION. Links and flits (R343 to R353, R356): the states of a link, its rate, the retry protocol, and what becomes of a packet
that has arrived whole.
-/
namespace Sys2Proof.Machine

/-! ### Rates (R344, R345, R319) -/

/-- The rate port `p` requests in a mode (R344): 0 FULL, 1 ECONOMY. In DEEP every enabled port requests ECONOMY. -/
def State.wantedRate (s : State) (p mode : Nat) : Nat :=
  if s.pstate = 2 then 1 else
  match s.fld (Reg.FP_CFG p) Fld.FP_CFG_RATE with
  | 1 => 0
  | 2 => 1
  | _ => if mode = modeVigil then 1 else 0

/-- The rate that both ends' requests settle (R344), and the switch 2 µs after it settles (R345). ECONOMY takes both ends' word. -/
def State.settleRate (s : State) (p : Nat) : State :=
  let x := s.portU p
  let now := s.fld (Reg.FP_STAT p) Fld.FP_STAT_RATE_NOW
  let r := if x.myRate = 0 ∨ x.nbrRate = some 0 then 0 else if x.nbrRate = none then now else 1
  if r = now then s.setPort p { x with switch := none }
  else s.setPort p { x with switch := some (r, s.time + BitVec.ofNat 64 (usTime 2)) }

/-- The rate that port `p` requests is settled with the neighbour's and sent in a RATE control flit with the instant of a switch (R345, R357). -/
def State.tellRate (s : State) (p : Nat) : State :=
  (s.settleRate p).sendControl p "RATE" [(s.portU p).myRate, (s.time + BitVec.ofNat 64 (usTime 2)).toNat]

/-- Port `p` requests the rate of a mode; a change is sent in a RATE control flit (R345), at once or, while the link carries none, when it enters
HELLO. -/
def State.requestRate (s : State) (p mode : Nat) : State :=
  let r := s.wantedRate p mode
  if !hasFp s.fac.variant p || (s.portU p).myRate = r then s else
  let s := s.setPort p { s.portU p with myRate := r }
  if s.talks p then s.tellRate p else s

/-- Every port requests the rate of a mode (R314, R344). -/
def State.requestRates (s : State) (mode : Nat) : State := (List.range 4).foldl (fun (s : State) p => s.requestRate p mode) s

/-- RATE (R345): the neighbour's request. -/
def rate (s : State) (p r : Nat) : State :=
  if !(p < 4 && hasFp s.fac.variant p && s.talks p) then s else
  (s.setPort p { s.portU p with nbrRate := some (if r = 0 then 0 else 1) }).settleRate p

/-- RATE_SWITCH (R345): at the instant settled both ends switch and retrain, packets waiting; a device whose clock comes over the link holds its PLLs. -/
def rateSwitch (s : State) (p : Nat) : State :=
  match (if hasFp s.fac.variant p then (s.portU p).switch else none) with
  | none => s
  | some (r, t) =>
    if s.time.toNat < t.toNat then s else
    let s := (s.setPort p { s.portU p with switch := none }).setFld (Reg.FP_STAT p) Fld.FP_STAT_RATE_NOW r
    let s := if s.clkSel = p + 1 && s.clk.switching.isNone then
        { s with clk := { s.clk with switching := some (p + 1), oldSrc := p + 1, swDue := true } }.setFld Reg.CLK_SRC Fld.CLK_SRC_ST 2
      else s
    s.servePort p portFuel

/-! ### Link states (R346, R350) -/

/-- Change the state of a link. -/
def State.setLink (s : State) (p st : Nat) : State := s.setFld (Reg.FP_STAT p) Fld.FP_STAT_LSTATE st

/-- A link that carries nothing any more: what waited on the port is lost, the neighbour unknown (log entry 21, DEDUCED). -/
def State.clearLink (s : State) (p : Nat) : State :=
  let keep := s.fld (Reg.FP_STAT p) Fld.FP_STAT_DEGRADED_S + 2 * s.fld (Reg.FP_STAT p) Fld.FP_STAT_DOWN_S
  let lst := s.lstate p
  let rate := s.fld (Reg.FP_STAT p) Fld.FP_STAT_RATE_NOW
  let src := s.fld (Reg.FP_STAT p) Fld.FP_STAT_CLKSRC
  let s := s.setReg (Reg.FP_STAT p) (regReset s.fac (Reg.FP_STAT p))
  let s := ((s.setLink p lst).setFld (Reg.FP_STAT p) Fld.FP_STAT_RATE_NOW rate).setFld (Reg.FP_STAT p) Fld.FP_STAT_CLKSRC src
  let s := (s.setFld (Reg.FP_STAT p) Fld.FP_STAT_DEGRADED_S keep).setFld (Reg.FP_STAT p) Fld.FP_STAT_DOWN_S (keep / 2)
  let x := s.portU p
  (s.setPort p { myRate := x.myRate, crcAt := x.crcAt, txAt := x.txAt, utilFrom := x.utilFrom, txData := x.txData, rxData := x.rxData }).setBit Reg.CLK_READY (p + 1) false

/-- LINK_SIGNAL (R346): an enabled port receives a signal; in reset, and where BOOT has failed (R412), the ports stay DOWN. -/
def linkSignal (s : State) (p : Nat) : State :=
  let closed := !bitAt (s.gateEnables s.pstate).toNat (10 + p)
  if !s.inReset && !s.bootFailed && p < 4 && hasFp s.fac.variant p && s.flag (Reg.FP_CFG p) Fld.FP_CFG_EN && !closed && s.lstate p == lsDown then s.setLink p lsTraining
  else s

/-- This device's election key (R357): PRIO, host attachment (R360), die ID. -/
def State.ownKey (s : State) : Key :=
  { prio := s.fld Reg.FAB_CFG Fld.FAB_CFG_PRIO, host := s.host.pcieEver, die := s.fac.dieId.toNat }

/-- The best key seen: the own one until a better one comes. -/
def State.bestKey (s : State) : Key :=
  match s.fab.best with
  | none => s.ownKey
  | some k => if s.ownKey.beats k then s.ownKey else k

/-- Since when the own key has been advertised as the best (R357). -/
def State.noteOwn (s : State) : State :=
  let k := s.ownKey
  let since := if s.bestKey ≠ k then none else match s.fab.ownSince with
    | some (k', t) => some (k, if k' = k then t else s.time)
    | none => some (k, s.time)
  { s with fab := { s.fab with ownSince := since } }

/-- Send HELLO, the best key seen and the rate requested (R345, R357). -/
def State.greet (s : State) (p : Nat) : State :=
  let k := s.ownKey
  let b := s.bestKey
  let s := s.noteOwn.sendControl p "HELLO" [k.die, k.prio, bit k.host, p, s.ownAddr]
  (s.sendControl p "ELECT" [b.prio, bit b.host, b.die, s.fab.bestHops]).tellRate p

/-- LINK_TRAINED (R346). -/
def linkTrained (s : State) (p : Nat) : State :=
  if p < 4 && hasFp s.fac.variant p && s.lstate p == lsTraining then ((s.clearLink p).setLink p lsHello).greet p else s

/-- A change of the topology (R363, R367): the first of a failure is its onset; those that follow are gathered. -/
def State.topologyChange (s : State) : State :=
  let near := s.fab.lastTopo.isSome && !s.longSince s.fab.lastTopo (msTime 10)
  { s with fab := { s.fab with churn := s.fab.churn + 1, churned := s.fab.churned || near, lastTopo := some s.time,
                               failAt := s.fab.failAt.or (some s.time) } }

/-- The die ID of the manager: as its operations have shown, before these the best key's. -/
def State.managerDie (s : State) : Nat := if s.fab.mgrDie = 0 then s.bestKey.die else s.fab.mgrDie

/-- Whether a link joins two formed fabrics (R365): both ends have addresses, and the neighbour has seen another device as the best than this one's
manager and its own best (log entry 132, DEDUCED). -/
def State.foreign (s : State) (p : Nat) : Bool :=
  s.ownAddr != 0 && s.fld (Reg.FP_NBR_ADDR p) Fld.FP_NBR_ADDR_NADDR != 0 &&
    (s.portU p).nbrBest.any (fun k => k.die != s.managerDie && k.die != s.bestKey.die)

/-- Whether a link in HELLO has had 1 ms of control flits without a CRC error (R346). -/
def State.helloDone (s : State) (p : Nat) : Bool :=
  p < 4 && hasFp s.fac.variant p && s.lstate p == lsHello && s.longSince (s.portU p).cleanFrom (msTime 1)

/-- A link enters UP (R346). -/
def State.enterUp (s : State) (p : Nat) : State :=
  let s := s.setLink p lsUp
  let die : Nat := (s.reg (Reg.FP_NBR_LO p)).toNat + 2 ^ 32 * (s.reg (Reg.FP_NBR_HI p)).toNat
  ((s.emit 0x0410 p [p, s.fld (Reg.FP_STAT p) Fld.FP_STAT_RATE_NOW, die]).topologyChange).servePort p portFuel

/-- LINK_UP (R346): 1 ms of HELLO control flits without a CRC error. A link between two formed fabrics stays in HELLO (R365). -/
def linkUp (s : State) (p : Nat) : State := if s.helloDone p && !s.foreign p then s.enterUp p else s

/-- The blocks sent by way of a port whose link is lost wait for their acknowledgment no longer than 1 ms from now (R252). -/
def State.loseRoute (s : State) (p : Nat) : State :=
  let lose := fun (t : Tx) => if t.phase == .sent && t.linkLost.isNone then { t with linkLost := some s.time } else t
  { s with streams := Store.adjust (fun _ => {}) (fun x =>
      if x.dest == 2 && s.routePort s.epoch x.dev == some p then { x with tx := x.tx.map lose } else x) s.streams }

/-- The loss of a link that was UP is reported to the manager and the standby (R363): the port, the cause and the neighbour. No operation of R358 is
such a report, so its form is not the spec's (log entry 20, DESIGN CHOICE). -/
def State.reportLoss (s : State) (p cause : Nat) : State :=
  if s.lstate p != lsUp then s else
  let who := [s.fld Reg.FAB_ROLES1 Fld.FAB_ROLES1_A, s.fld Reg.FAB_ROLES1 Fld.FAB_ROLES1_B]
  (who.filter (fun a => a != 0 && a != s.ownAddr)).foldl (fun (s : State) a =>
    s.put (.packet a "LINK_REPORT" [p, cause, (((s.portU p).nbr.map (·.die)).getD 0 : Nat)])) (s.loseRoute p)

/-- A link fails (R350): cause 0 signal or lock, 1 silence, 2 replays. -/
def State.failLink (s : State) (p cause : Nat) : State :=
  let s := ((((s.reportLoss p cause).clearLink p).setLink p lsFailed).raise (Reg.FP_STAT p) Fld.FP_STAT_DOWN_S).count (Reg.FP_DOWN_CNT p) word32
  let s := s.setPort p { s.portU p with failedAt := some s.time }
  (s.emit 0x0411 p [p, cause, (s.reg (Reg.FP_DOWN_CNT p)).toNat]).topologyChange

/-- LINK_DOWN (R350). -/
def linkDown (s : State) (p cause : Nat) : State :=
  if p < 4 && hasFp s.fac.variant p && (s.talks p || s.lstate p == lsTraining) then s.failLink p cause else s

/-- LINK_RETRAIN (R346): 1 ms after it failed. -/
def linkRetrain (s : State) (p : Nat) : State :=
  if p < 4 && hasFp s.fac.variant p && s.lstate p == lsFailed && s.longSince (s.portU p).failedAt (msTime 1) then s.setLink p lsTraining
  else s

/-! ### The receiver (R347 to R351) -/

/-- Bits `hi`:`lo` of a flit. -/
def bitsOf (f hi lo : Nat) : Nat := f / 2 ^ lo % 2 ^ (hi + 1 - lo)

/-- The link section of a header flit (R351). -/
def linkOf (f : Nat) : LinkSec :=
  { ack := bitsOf f 15 8, ackv := bitAt f 16, nak := bitAt f 17, cr := [bitsOf f 22 18, bitsOf f 27 23, bitsOf f 32 28], txt := bitsOf f 64 33,
    echo := bitsOf f 96 65, res := bitsOf f 116 97, adv := bitsOf f 124 117 }

/-- The packet section of a header flit (R351): the packet without its payload, and how many payload flits follow. -/
def packetOf (f : Nat) : Packet × Nat :=
  let flags := bitsOf f 184 169
  let n := min 16 (bitsOf f 135 131)
  ({ ptype := bitsOf f 130 127, dst := bitsOf f 147 136, src := bitsOf f 159 148, age := bitsOf f 167 160, epoch := bitsOf f 168 168,
     tspec := bitsOf f 239 185, poison := (List.range n).map (fun i => bitAt flags i) }, n)

/-- The advertisement of the neighbour (R351, R368). -/
def State.takeAdv (s : State) (p adv : Nat) : State :=
  let s := (s.setFld (Reg.FP_STAT p) Fld.FP_STAT_NDEPTH (adv % 32)).setFld (Reg.FP_STAT p) Fld.FP_STAT_NSYNT (adv / 32)
  let s := (s.setFld (Reg.FP_STAT p) Fld.FP_STAT_NORPHAN (adv / 64)).setFld (Reg.FP_STAT p) Fld.FP_STAT_NFROM (adv / 128)
  s.checkAdv p

/-- Send the flits of the retry buffer again from the oldest on (R348); one replayed 8 times already fails the link (R350). -/
def State.replay (s : State) (p : Nat) : State :=
  let x := s.portU p
  if x.retry.isEmpty then s
  else if x.retry.any (fun e => decide (8 ≤ e.replays)) then s.failLink p 2
  else
    let s := s.setPort p { x with retry := x.retry.map (fun e => { e with replays := e.replays + 1, sentAt := s.time }) }
    x.retry.foldl (fun (s : State) e => s.put (.flit p "DATA" [(mkFlit e.seq e.bits e.poison : Int)]))
      ((s.noteFlits p x.retry.length 0).count (Reg.FP_REPLAY_CNT p) word32)

/-- The replay time (R348): 1 µs at FULL, 4 µs at ECONOMY. -/
def State.replayTime (s : State) (p : Nat) : Nat := usTime (if s.fld (Reg.FP_STAT p) Fld.FP_STAT_RATE_NOW = 0 then 1 else 4)

/-- REPLAY_TIMEOUT (R348): no acknowledgment of the oldest flit for the replay time. -/
def replayTimeout (s : State) (p : Nat) : State :=
  if p < 4 && s.lstate p == lsUp && s.longSince ((s.portU p).retry.head?.map (·.sentAt)) (s.replayTime p) then s.replay p else s

/-- The sum of a list of integers. -/
def sumOf (l : List Int) : Int := l.foldl (· + ·) 0

/-- The mean of a list of integers, to the nearest; 0 of none. -/
def meanOf (l : List Int) : Int := if l.isEmpty then 0 else roundDiv (sumOf l) l.length

/-- Picoseconds in units of 2^-32 s. -/
def psUnits (ps : Int) : Rat := (ps : Rat) * 4294967296 / 1000000000000

/-- The clock's phase is steered by a mean offset from the clock parent (R369): by at most 10 ps per ms, until the offset is less than 10 ps. What is
less than 1/125 of a unit of time stays for the next time. -/
def State.steerPhase (s : State) (theta : Rat) : State :=
  let gone : Nat := match s.fab.slewAt with | some t => (s.time - t).toNat | none => 0
  let lim := psUnits 10 * (gone : Rat) * 1000 / 4294967296
  let move : Rat := if -psUnits 10 < theta && theta < psUnits 10 then 0 else max (-lim) (min lim theta)
  let whole := (s.fab.slew + move * 125).floor
  let x := (s.time.toNat * 125 + s.timeRem : Int) - whole
  let now := BitVec.ofNat 64 (x / 125).toNat
  { s with time := now, timeRem := (x % 125).toNat, fab := { s.fab with slew := s.fab.slew + move * 125 - whole, slewAt := some now } }

/-- A header or control flit has told its times on port `p` at local time `t4` (R369): the one-way delay of the port, and from the clock parent the
offset, both averaged over 64 exchanges, the last offset in FAB_THETA, and the phase steered. A residence of 0xF_FFFF is longer than it tells and
gives no delay. -/
def State.exchange (s : State) (p : Nat) (l : TimeSec) (t4 : Time) : State :=
  let x := s.portU p
  let since : Nat → Nat := fun t => (t4.toNat + 2 ^ 32 - t % 2 ^ 32) % 2 ^ 32
  let trip : Int := ((since l.echo : Nat) : Int) - l.res
  let delays := if 0xFFFFF ≤ l.res then x.delays else (trip :: x.delays).take 64
  let d : Rat := (sumOf delays : Rat) / (2 * max 1 delays.length : Nat)
  let asym := psUnits (signedOf 16 (s.fld (Reg.FP_CFG p) Fld.FP_CFG_ASYM))
  let theta : Int := ratRound ((signedOf 32 (since l.txt) : Rat) - (d - asym / 2))
  let offsets := if s.flag (Reg.FP_STAT p) Fld.FP_STAT_CLKSRC then (theta :: x.offsets).take 64 else []
  let s := (s.setPort p { x with delays := delays, offsets := offsets }).setReg (Reg.FP_DELAY p) (BitVec.ofInt 32 (ratRound d))
  if offsets.isEmpty then s
  else (s.setReg Reg.FAB_THETA (BitVec.ofInt 32 (satSigned 32 theta))).steerPhase ((sumOf offsets : Rat) / (offsets.length : Nat))

/-- The link section of a header or control flit received at local time `t4` (R348, R349, R351, R369): the times are taken, what is acknowledged
leaves the retry buffer, a NAK starts a replay, credits return. -/
def State.takeLink (s : State) (p : Nat) (l : LinkSec) (t4 : Time) : State :=
  let s := s.exchange p l.toTimeSec t4
  let x := s.portU p
  let upTo := if l.nak then l.ack else (l.ack + 1) % 256
  let held := if l.ackv && decide ((upTo + 256 - (x.retry.headD { seq := upTo, bits := 0, poison := false, sentAt := 0 }).seq) % 256 ≤ 64) then
      x.retry.drop ((upTo + 256 - (x.retry.headD { seq := upTo, bits := 0, poison := false, sentAt := 0 }).seq) % 256)
    else x.retry
  let x := { x with retry := held, credits := List.zipWith (· + ·) x.credits l.cr, lastTxt := l.txt, lastAt := t4 }
  let s := (s.setPort p x).takeAdv p l.adv
  if l.nak then s.replay p else s

/-- The number a flit carries (R347, R348), found by the check that its prefix enters: the one expected, one of the 64 before it, which
is a repeat, or one after it, which leaves a gap. -/
def flitNumber (next flit : Nat) : Option (Nat × Bool) :=
  let order := 0 :: ((List.range 64).map (fun i => 255 - i) ++ (List.range 63).map (fun i => i + 1))
  order.findSome? (fun o => (flitCheck ((next + o) % 256) flit).map (fun po => ((next + o) % 256, po)))

/-- A failed check or a gap is answered with NAK and the first number missing (R348). -/
def State.nakLink (s : State) (p : Nat) : State := (s.setPort p { s.portU p with crcRun := true, nakOwed := true }).sendIdle p

/-- A gap is answered once: the flits after it that are on their way find the same number missing. -/
def State.nakGap (s : State) (p : Nat) : State := if (s.portU p).crcRun then s else s.nakLink p

/-- A CRC failure (R350): counted; more than BER_TH in 10 s write LINK_DEGRADED, once per 10 s. -/
def State.crcFailure (s : State) (p : Nat) : State :=
  let x := s.portU p
  let at_ := (x.crcAt ++ [s.time]).filter (fun t => decide ((s.time - t).toNat ≤ secTime 10))
  let s := (s.setPort p { x with crcAt := at_, cleanFrom := none }).count (Reg.FP_CRC_CNT p) word32
  if at_.length ≤ s.fld Reg.FAB_CFG Fld.FAB_CFG_BER_TH then s
  else (s.raise (Reg.FP_STAT p) Fld.FP_STAT_DEGRADED_S).emitLimited 0x0412 p p (secTime 10) false 0 (fun _ => [p, at_.length])

/-! ### Packets that have arrived -/

/-- A packet for this device: handed to the unit of its type, which a command of that packet's row stands for (log entry 22, DEDUCED). -/
def State.handUp (s : State) (pk : Packet) : State := s.put (.packet s.ownAddr "ARRIVED" [pk.ptype, pk.src, pk.tspec])

/-- A source-routed packet that has come over the first of its hops goes on by the next (R353): HOPS counts the hops to go, and ROUTE begins with
the one that the packet is on (log entry 22, DEDUCED). -/
def Packet.nextHop (p : Packet) : Nat × Packet :=
  (p.route / 4 % 4, { p with tspec := p.tspec % 2 ^ 16 + (p.hops - 1) * 2 ^ 16 + p.route / 4 * 2 ^ 21 })

/-- A whole packet has arrived on port `p` (R352, R353, R356, R361, R362). A source-routed packet, which finds its way without tables, is of no
epoch; at the end of its route it is for this device, whatever DST holds (log entry 22, DEDUCED). -/
def State.arrive (s : State) (p : Nat) (pk : Packet) : State :=
  let free := fun (s : State) => s.giveBack p (vcOf pk.ptype) (1 + pk.payload.length)
  let broadcast := pk.dst == 0xFFF
  if pk.sourced then if pk.hops = 1 then free (s.handUp pk) else s.enqueue pk.nextHop.1 p pk.nextHop.2
  else if pk.ptype = 15 || (broadcast && !(12 ≤ pk.ptype && pk.ptype ≤ 14)) then free s
  else if pk.epoch ≠ s.epoch && s.fab.retired then free (s.count Reg.FAB_DROP Fld.FAB_DROP_EPOCH)
  else if broadcast then
    (s.treePorts.filter (· != p)).foldl (fun (s : State) q =>
      s.enqueueAs q { pkt := pk, inp := p, at_ := s.time, frees := false }) (free (s.handUp pk))
  else if pk.dst = s.ownAddr then free (s.handUp pk)
  else match s.routePort pk.epoch pk.dst with
    | some q => s.enqueue q p pk
    | none => free s

/-- A flit in order: a header begins a packet, a payload flit goes on with it; the last one completes it. -/
def State.takeFlit (s : State) (p flit : Nat) (poisoned : Bool) : State :=
  let x := s.portU p
  let s := s.setPort p { x with rxNext := (x.rxNext + 1) % 256, rxAny := true, crcRun := false, nakOwed := false }
  let whole := fun (s : State) (pk : Packet) => (s.setPort p { s.portU p with part := none }).arrive p pk
  match x.part with
  | none =>
    let q := packetOf flit
    let s := s.takeLink p (linkOf flit) s.time
    if q.2 = 0 then whole s q.1 else s.setPort p { s.portU p with part := some q }
  | some (pk, n) =>
    let i := pk.payload.length
    let pk := { pk with payload := pk.payload ++ [flit % 2 ^ 240], poison := if poisoned then pk.poison.set i true else pk.poison }
    if n ≤ 1 then whole s pk else s.setPort p { s.portU p with part := some (pk, n - 1) }

/-- DATA_FLIT_RX (R347 to R352): the check, the number, acknowledgment and credits, and the packet a last flit completes. -/
def dataFlitRx (s : State) (p : Nat) (flit : BitVec 256) : State :=
  if !(p < 4 && s.lstate p == lsUp) then s else
  let s := s.noteFlits p 0 1
  match flitNumber (s.portU p).rxNext flit.toNat with
  | none => (s.crcFailure p).nakLink p
  | some (n, po) =>
    if n = (s.portU p).rxNext then ((s.takeFlit p flit.toNat po).sendIdle p).servePort p portFuel
    else if (n + 256 - (s.portU p).rxNext) % 256 < 64 then s.nakGap p
    else s.sendIdle p

/-! ### Stopped channels (R367) -/

/-- FAB_VC shows the channels that are stopped at any port. -/
def State.showStopped (s : State) : State :=
  s.setFld Reg.FAB_VC Fld.FAB_VC_STOPPED (((List.range 3).map (fun v =>
    2 ^ v * bit ((List.range 4).any (fun p => (s.portU p).stopped.contains v)))).foldl (· + ·) 0)

/-- VC_STALL (R367): a channel has waited for credit longer than STALL_T: its packets are discarded and credited back, the one that holds the
output among them, so that the other channels go on (log entry 12, DEDUCED). -/
def vcStall (s : State) (p v ms : Nat) : State :=
  let x := s.portU p
  if !(p < 4 && v < 3 && hasFp s.fac.variant p && s.lstate p == lsUp) || x.stopped.contains v || ms ≤ s.fld Reg.FAB_CFG Fld.FAB_CFG_STALL_T ||
      x.credits.getD v 0 != 0 then s else
  let gone := x.queue.filter (fun e => vcOf e.pkt.ptype == v)
  let held := match x.sending with | some (w, _) => w == v | none => false
  let n := gone.length + bit held
  let s := s.setPort p { x with stopped := x.stopped ++ [v], dropped := x.dropped.set v n,
                                queue := x.queue.filter (fun e => vcOf e.pkt.ptype != v),
                                sending := if held then none else x.sending }
  let s := gone.foldl (fun (s : State) e => s.leaveQueue e) s
  let s := (s.countBy Reg.FAB_DROP Fld.FAB_DROP_STOP n).raise Reg.FAB_STAT Fld.FAB_STAT_STALL_S
  ((s.emit 0x0426 p [p, v, ms]).showStopped).servePort p portFuel

/-- Stopped channels of a mask resume at every port (R367). -/
def vcResumed (s : State) (mask : Nat) : State :=
  let one := fun (s : State) (pv : Nat × Nat) =>
    let x := s.portU pv.1
    if x.stopped.contains pv.2 && bitAt mask pv.2 then
      let n := x.dropped.getD pv.2 0
      let s := s.setPort pv.1 { x with stopped := x.stopped.filter (· != pv.2), dropped := x.dropped.set pv.2 0 }
      (s.emit 0x0427 pv.1 [pv.1, pv.2, n]).servePort pv.1 portFuel
    else s
  (((List.range 4).flatMap (fun p => (List.range 3).map (fun v => (p, v)))).foldl one s).showStopped

/-! ### Power states (R318, R319) -/

/-- A port whose enable for the power state is 0 goes down, which the fabric treats as a link loss (R319, R345). -/
def State.gatePorts (s : State) : State :=
  (List.range 4).foldl (fun (s : State) p =>
    if hasFp s.fac.variant p && s.lstate p != lsDown && !bitAt (s.gateEnables s.pstate).toNat (10 + p) then
      (((s.reportLoss p 0).clearLink p).setLink p lsDown).topologyChange
    else s) s

/-- The device enters a power state: its gates follow their enables (R318 to R320). -/
def State.enterPstate (s : State) (ps : Nat) : State := (s.setFld Reg.MODE_STAT Fld.MODE_STAT_PSTATE ps).regate.gatePorts

/-- From SLEEP the device moves to RUN (R318). -/
def State.toRun (s : State) : State := if s.pstate ≠ 1 then s else s.enterPstate 0

/-- A transfer of the host DMA has taken place (R318): it is work of RUN. -/
def State.dmaDone (s : State) : State := { s with host := { s.host with dmaAt := s.time } }.toRun

end Sys2Proof.Machine
end

