-- ==== Sys2Proof/Machine/EngineCost.lean ====
section
/-!
DEFINITION. What a graph must meet and what its invocations cost (R176, R179, R185, R188 to R190, R202, R203, R206): formats along the
edges, cycles, words and energy, parameter records and their live fields, placement, load and footprint.
-/
namespace Sys2Proof.Machine

/-- Division rounded up. -/
def ceilDiv (a b : Nat) : Nat := (a + b - 1) / b

/-! ### Edges and formats -/

/-- The new values of an invocation's first data input (R177); a record that an event starts is new as a whole. -/
def NodeDef.newLen (d : NodeDef) (e : Edge) : Nat :=
  if d.ins.any (fun e => !e.src.isData) then e.len else min e.hop e.len

/-- The format of what a kernel emits, from that of its input (R200, R208 to R230). -/
def emitFormat (kernel fin : Nat) : Nat :=
  match kernel with
  | 2 => 3
  | 3 => 2
  | 4 => 4
  | 6 => 2
  | 7 => 5
  | 9 => 1
  | 12 => 1
  | 13 => 1
  | 14 => 1
  | _ => fin

/-- The format that a source carries, given each node's. -/
def EdgeSrc.format (fm : List Nat) : EdgeSrc → Nat
  | .node o => fm.getD (o / 4) 0
  | _ => 0

/-- The format that a node's first data input carries. -/
def NodeDef.inFormat (d : NodeDef) (fm : List Nat) : Nat := (d.dataIns.head?.map (fun e => e.src.format fm)).getD 0

/-- The formats of all nodes: 16 passes settle the longest path (R179). -/
def formats (g : List NodeDef) : List Nat :=
  (List.range 16).foldl (fun (fm : List Nat) _ => g.map (fun d => emitFormat d.kernel (d.inFormat fm))) (g.map (fun _ => 0))

/-- Native words of a value: a complex or 40-bit value counts as two (R188). -/
def wordsOf (fmt : Nat) : Nat := if fmt = 1 ∨ fmt = 2 ∨ fmt = 3 then 2 else 1

/-! ### Cost (R188 to R190) -/

/-- The variable part of F(N); its fixed part is 96 (R189). -/
def fftVar (n : Nat) : Nat :=
  let p := log2n n
  7 * n / 8 * (p / 2) + n / 2 * (p % 2)

/-- The bins, values or outputs that the cost of a kernel counts: B of its record for DENSITY and FMASK, else the values of a frame. -/
def costBins (d : NodeDef) (params : List Word) : Nat :=
  match d.kernel with
  | 6 => d.frameLen / 2 + 1
  | 7 => pf params 1 15 0
  | 8 => pf params 1 15 0
  | 12 => d.frameLen / 2 + 1
  | 14 => d.frameLen / 2 + 1
  | _ => d.frameLen

/-- Values that PEAK searches. -/
def peakValues (len : Nat) (params : List Word) : Nat :=
  let n := len - pf params 2 31 16
  if pf params 2 15 0 = 0 then n else min (pf params 2 15 0) n

/-- The fixed and the variable term of an invocation that emits no accumulation (R189). -/
def baseCost (d : NodeDef) (fin : Nat) (params : List Word) : Nat × Nat :=
  let l := d.frameLen
  let b := costBins d params
  let n := (d.dataIns.head?.map (fun e => d.newLen e)).getD 0
  match d.kernel with
  | 1 => (48, ceilDiv (if fin = 3 then 2 * l else l) 8)
  | 2 => if pf params 1 1 1 = 1 then (96, fftVar l) else (96, fftVar (l / 2) + l / 4)
  | 3 => (48, ceilDiv b 4)
  | 4 => (48, ceilDiv (3 * b) 8)
  | 5 => (48, ceilDiv b 8)
  | 6 => (192, fftVar (l / 2) + l / 4 + ceilDiv l 8 + ceilDiv b 4 + ceilDiv b 8)
  | 7 => (48, ceilDiv (5 * b) 8)
  | 8 => (48, ceilDiv b 4)
  | 9 => (72, ceilDiv (peakValues l params) 8)
  | 10 =>
    let t := pf params 1 26 16
    let v := n / (pf params 1 7 0 + 1) * (ceilDiv t 8 + (if t ≤ 64 then 1 else 2))
    if fin = 3 then (96, 2 * v) else (48, v)
  | 11 => (48, ceilDiv n 8)
  | 12 => (384, 3 * fftVar (l / 2) + 3 * l / 4 + ceilDiv b 2 + ceilDiv l 8)
  | 13 => (48, ceilDiv l 4)
  | 14 => (192, fftVar (l / 2) + l / 4 + ceilDiv l 8 + ceilDiv b 4 + pf params 2 31 28 * ceilDiv l 8)
  | _ => (0, 0)

/-- What an invocation does beside its frame: it emits a product, it applies decay (R189, R215). -/
structure Emits where
  out   : Bool := false
  decay : Bool := false
deriving DecidableEq, Repr

/-- Whether an action that is due every `n`-th invocation, with `cnt` of them past, falls on the one that comes `ahead` others after. -/
def dueAhead (n cnt ahead : Nat) : Bool :=
  let first := max 1 (n - cnt)
  decide (first ≤ ahead + 1) && (ahead + 1 - first) % max 1 n == 0

/-- Whether the invocation that comes `ahead` others after the node's state emits and applies decay (R212, R216). -/
def emitsAt (d : NodeDef) (params : List Word) (k : KState) (ahead : Nat) : Emits :=
  match d.kernel with
  | 5 => { out := dueAhead (pf params 1 15 0) k.cnt ahead }
  | 6 => { out := dueAhead (pf params 1 15 0) k.cnt ahead }
  | 7 => { out := dueAhead (pf params 5 23 0) k.cnt ahead,
           decay := pf params 4 31 28 != 0 && dueAhead (pf params 4 23 0) k.decCnt ahead }
  | _ => {}

/-- The most that an invocation of a node can do beside its frame. -/
def emitsMost (d : NodeDef) (params : List Word) : Emits :=
  { out := d.kernel == 5 || d.kernel == 6 || d.kernel == 7, decay := d.kernel == 7 && pf params 4 31 28 != 0 }

/-- W of R188: new input words, output words and state words written back. -/
def wordCost (d : NodeDef) (fm : List Nat) (params : List Word) (e : Emits) : Nat :=
  let fin := d.inFormat fm
  let b := costBins d params
  let lv := pf params 2 31 24 + 1
  let input := match d.kernel with
    | 7 => b * wordsOf fin
    | 8 => b * wordsOf fin
    | _ => (d.dataIns.map (fun x => d.newLen x * wordsOf (x.src.format fm))).foldl (· + ·) 0
  let n := (d.dataIns.head?.map (fun x => d.newLen x)).getD 0
  let output := match d.kernel with
    | 1 => d.frameLen * wordsOf fin
    | 2 => 2 * (if pf params 1 1 1 = 1 then d.frameLen else d.frameLen / 2 + 1)
    | 3 => 2 * d.frameLen
    | 4 => d.frameLen
    | 5 => if e.out then b * wordsOf fin else 0
    | 6 => (if pf params 1 30 30 = 1 then 2 * b else 0) + (if e.out then 2 * b else 0)
    | 7 => if e.out then b * lv else 0
    | 9 => 8
    | 10 => n / (pf params 1 7 0 + 1) * wordsOf fin
    | 11 => n / (pf params 1 7 0 + 1) * wordsOf fin
    | 12 => 6
    | 13 => 12
    | 14 => 6
    | _ => 0
  let state := match d.kernel with
    | 5 => 2 * b
    | 6 => 2 * b
    | 7 => b + (if e.decay then b * lv else 0)
    | 10 => (pf params 1 26 16 - 1) * wordsOf fin
    | _ => 0
  input + output + state

/-- Whether the doubling of R176 applies: two data operands of the kernel's loop lie in the same memory, as its edges place their buffers. A
node entry has no memory for its state, so only the two frames of a kernel that takes two meet there (log entry 97, DEDUCED). -/
def NodeDef.penalty (d : NodeDef) : Bool :=
  match d.dataIns with
  | a :: b :: _ => a.memY == b.memY
  | _ => false

/-- The time of an invocation in cluster cycles, with its words (R188). -/
def invCost (d : NodeDef) (fm : List Nat) (params : List Word) (penalty : Bool) (e : Emits) : Nat × Nat :=
  let base := baseCost d (d.inFormat fm) params
  let b := costBins d params
  let more := (if e.out && (d.kernel == 5 || d.kernel == 6) then [(48, ceilDiv b 8)] else []) ++
    (if e.decay then [(48, ceilDiv (b * (pf params 2 31 24 + 1)) 8)] else [])
  let fixed := more.foldl (fun (a : Nat) p => a + p.1) base.1
  let var := more.foldl (fun (a : Nat) p => a + p.2) base.2
  let w := wordCost d fm params e
  (max (fixed + (if penalty then 2 * var else var)) (ceilDiv w 8), w)

/-- The energy charged for an invocation in pJ (R190). -/
def State.invEnergy (s : State) (cost : Nat × Nat) : Nat :=
  cost.1 * (s.reg Reg.ENG_EPC).toNat + cost.2 * (s.reg Reg.ENG_EPW).toNat

/-! ### Parameter records (R202) -/

/-- The bits that a kernel's record may set in words 1 to 5. -/
def recordBits (kernel : Nat) : List Word :=
  match kernel with
  | 1 => [0xF]
  | 2 => [0x3]
  | 4 => [0xFFFFF]
  | 5 => [0x8F00FFFF]
  | 6 => [0xCF0FFFFF]
  | 7 => [0xFFFFFFFF, 0xFF0FFFFF, 0xFFFF, 0xF0FFFFFF, 0x80FFFFFF]
  | 8 => [0xFFFFFFFF, 0xFFFF1F1F, 0xFFFF00FF, 0xFFFFF]
  | 9 => [0xF0000000, 0xFFFFFFFF]
  | 10 => [0x87FF00FF, 0xFFFFFFFF, 0x1F]
  | 11 => [0x800000FF]
  | 12 => [0xCF00FFFF, 0xFFFF]
  | 13 => [0xE000FFFF, 0xFFFFF, 0xFFFFF, 0xFF]
  | 14 => [0xFFFFFFFF, 0xFF0FFFFF, 0xFFFF]
  | _ => []

/-- The bits marked live in words 1 to 5. -/
def liveBits (kernel : Nat) : List Word :=
  match kernel with
  | 4 => [0xFFFFF]
  | 5 => [0x0F000000]
  | 6 => [0x0F000000]
  | 7 => [0, 0, 0, 0xF0FFFFFF, 0x00FFFFFF]
  | 8 => [0, 0x3FFF1F1F, 0xFFFF0000, 0xFFFFF]
  | 9 => [0, 0xFFFFFFFF]
  | 12 => [0xFFFF]
  | 13 => [0xFFFF, 0xFFFFF, 0xFFFFF]
  | 14 => [0xFFFFFFFF, 0, 0xFFFF]
  | _ => []

/-- Whether a number of complex points is one the FFT takes (R209). -/
def fftPoints (n : Nat) : Bool := decide (64 ≤ n) && decide (n ≤ 16384) && n == 2 ^ log2n n

/-- Whether the fields of a record are in range for its kernel and frame length (R202 to R231). -/
def fieldsOk (kernel len : Nat) (p : List Word) : Bool :=
  match kernel with
  | 1 => decide (pf p 1 3 0 ≤ 4)
  | 2 => if pf p 1 1 1 = 1 then fftPoints len else pf p 1 0 0 == 0 && len % 2 == 0 && fftPoints (len / 2)
  | 3 => true
  | 4 => true
  | 5 => decide (1 ≤ pf p 1 27 24) && decide (1 ≤ pf p 1 15 0)
  | 6 => decide (1 ≤ pf p 1 27 24) && decide (1 ≤ pf p 1 15 0) && decide (pf p 1 19 16 ≤ 4) && len % 2 == 0 && fftPoints (len / 2)
  | 7 => decide (1 ≤ pf p 1 15 0) && decide (pf p 1 15 0 ≤ 16384) && decide (7 ≤ pf p 2 31 24) && decide (64 ≤ pf p 3 15 0) &&
    decide (1 ≤ pf p 4 23 0) && decide (1 ≤ pf p 5 23 0)
  | 8 => decide (1 ≤ pf p 1 15 0) && decide (pf p 1 15 0 ≤ 16384) && decide (pf p 2 31 30 ≤ 2) && decide (1 ≤ pf p 2 29 16) &&
    decide (pf p 2 29 16 ≤ pf p 1 15 0) && decide (1 ≤ pf p 2 4 0) && decide (pf p 2 4 0 ≤ 16) && decide (pf p 2 4 0 ≤ pf p 2 12 8) &&
    decide (pf p 2 12 8 ≤ 16)
  | 9 => decide (pf p 1 31 30 ≤ 2) && decide (pf p 1 29 28 ≤ 2)
  | 10 => decide (1 ≤ pf p 1 26 16) && decide (pf p 1 26 16 ≤ 1024) && decide (1 ≤ pf p 3 4 0)
  | 11 => decide (1 ≤ pf p 1 7 0)
  | 12 => decide (pf p 1 27 24 ≤ 4) && decide (1 ≤ pf p 1 15 0) && decide (pf p 1 15 0 + 1 ≤ len / 2) && fftPoints (len / 2)
  | 13 => decide (pf p 1 30 29 ≤ 2) && decide (1 ≤ pf p 1 15 0) && decide (signedOf 20 (pf p 3 19 0) < signedOf 20 (pf p 2 19 0))
  | 14 => decide (pf p 1 15 0 < pf p 1 31 16) && (pf p 2 31 28 == 0 || (decide (3 ≤ pf p 2 31 28) && pf p 2 31 28 % 2 == 1)) &&
    decide (1 ≤ pf p 2 27 24) && decide (pf p 2 27 24 ≤ 8) && decide (pf p 2 19 16 ≤ 4) && fftPoints (len / 2)
  | _ => false

/-- Whether a record passes R202: its word 0, no reserved bit set, every field in range. -/
def recordOk (kernel len : Nat) (p : List Word) : Bool :=
  pf p 0 31 24 == kernel && pf p 0 23 16 == 1 && pf p 0 15 8 == p.length && decide (p.length ≤ 24) && pf p 0 7 0 == 0 &&
  (p.drop 1).zipIdx.all (fun q => q.1 &&& ~~~((recordBits kernel).getD q.2 0) == 0) && fieldsOk kernel len p

/-! ### Placement, load and footprint (R179, R185) -/

/-- The clusters a node runs on, among those in service (R185): one, or two for class 1. -/
def NodeDef.placeOn (d : NodeDef) (inService : Nat → Bool) : List Nat :=
  (d.place.filter inService).take (if d.cls = 1 then 2 else 1)

/-- The time of a node's invocation that does `e` beside its frame (R188). -/
def NodeDef.cyclesOf (d : NodeDef) (fm : List Nat) (params : List Word) (e : Emits) : Nat := (invCost d fm params d.penalty e).1

/-- Cycles in 1000 s that a placement commits its cluster to (R185, R189), rounded up: the mean over the invocations that emit an output
and that apply decay with those that do not. -/
def NodeDef.load (d : NodeDef) (fm : List Nat) : Nat :=
  let p := d.params
  let c := fun e => d.cyclesOf fm p e
  match d.kernel with
  | 5 => let k := max 1 (pf p 1 15 0); ceilDiv (d.rate * (c { out := true } + (k - 1) * c {})) k
  | 6 => let k := max 1 (pf p 1 15 0); ceilDiv (d.rate * (c { out := true } + (k - 1) * c {})) k
  | 7 =>
    let o := max 1 (pf p 5 23 0)
    let e := max 1 (pf p 4 23 0)
    if pf p 4 31 28 = 0 then ceilDiv (d.rate * (c { out := true } + (o - 1) * c {})) o else
    let m := Nat.lcm o e
    ceilDiv (d.rate * (c { out := true, decay := true } + (m / o - 1) * c { out := true } + (m / e - 1) * c { decay := true } +
      (m + 1 - m / o - m / e) * c {})) m
  | _ => d.rate * c {}

/-- The nodes that run on a cluster, given each node's clusters. -/
def onCluster (g : List NodeDef) (runs : List (List Nat)) (c : Nat) : List (NodeDef × List Nat) :=
  (g.zip runs).filter (fun p => p.2.contains c)

/-- Committed load of a cluster in cycles of 1000 s. -/
def clusterLoad (g : List NodeDef) (fm : List Nat) (runs : List (List Nat)) (c : Nat) : Nat :=
  ((onCluster g runs c).map (fun p => p.1.load fm)).foldl (· + ·) 0

/-- Whether a cluster's placements fit (R174, R179, R185): 64 descriptors, its memories, 90 % of its cycles. -/
def clusterFits (g : List NodeDef) (fm : List Nat) (runs : List (List Nat)) (c : Nat) : Bool :=
  let l := onCluster g runs c
  let sum : (NodeDef → Nat) → Nat := fun f => (l.map (fun p => f p.1)).foldl (· + ·) 0
  decide (l.length ≤ 64) && decide (sum (fun d => d.xUse) ≤ 32768) && decide (sum (fun d => d.yUse) ≤ 32768) && decide (sum (fun d => d.cUse) ≤ 20480) &&
  decide (clusterLoad g fm runs c ≤ 720000000000)

/-- The clusters, of those in service, whose loss would leave a class 0 or class 1 node without room (R185), in rising order. -/
def spareless (on : Nat → Bool) (g : List NodeDef) (fm : List Nat) : List Nat :=
  (List.range 4).filter (fun x => on x &&
    let after := g.map (fun d => d.placeOn (fun c => on c && c != x))
    (g.zip after).any (fun p =>
      decide (p.1.cls ≤ 1) &&
        (decide (p.2.length < (if p.1.cls = 1 then 2 else 1)) || p.2.any (fun c => !clusterFits g fm after c))))

/-! ### Validation (R179, R185, R203, R206) -/

/-- Whether a source is absent in the variant (R7). -/
def EdgeSrc.absent (v : Variant) : EdgeSrc → Bool
  | .channel srck n => if srck = 3 then !hasWch v n else !hasPch v n
  | .start u => !hasWch v u
  | .excEnd k => !hasExc v k
  | _ => false

/-- Whether a graph names a unit that the variant lacks (R7): code ABSENT. -/
def graphAbsent (v : Variant) (g : List NodeDef) : Bool :=
  g.any (fun d => d.place.any (fun c => !hasCl v c) || d.ins.any (fun e => e.src.absent v))

/-- The number of nodes on the longest path to each node, up to 17. -/
def pathLengths (g : List NodeDef) : List Nat :=
  (List.range 16).foldl (fun (l : List Nat) _ => g.map (fun d =>
    1 + (d.ins.map (fun e => match e.src with | .node o => l.getD (o / 4) 0 | _ => 0)).foldl max 0)) (g.map (fun _ => 1))

/-- The record offset of an event-started kernel (R206, R223, R226). -/
def recordOffset (d : NodeDef) (params : List Word) : Int :=
  if d.ins.all (fun e => e.src.isData) then 0
  else match d.kernel with
    | 14 => pf params 2 15 0
    | 12 => signedOf 16 (pf params 2 15 0)
    | _ => 0

/-- Whether an edge keeps the limits of R179, R197, R198 and R206 for its node. -/
def edgeOk (g : List NodeDef) (fm : List Nat) (d : NodeDef) (e : Edge) : Bool :=
  decide (e.input < 4) &&
  (match e.src with
   | .node o => decide (o / 4 < g.length) &&
      decide ((g.getD (o / 4) d).cls ≤ d.cls) &&
      decide (o % 4 < outputsOf (g.getD (o / 4) d) (g.getD (o / 4) d).params)
   | _ => true) &&
  (!e.src.isData ||
    decide (1 ≤ e.hop) && decide (e.hop ≤ 65536) && decide (1 ≤ e.len) && decide (e.len * wordsOf (e.src.format fm) ≤ 65536) &&
    decide (e.ish ≤ 20) &&
    decide ((d.deadline : Int) * e.rate ≤ ((e.depth : Int) - e.len - (recordOffset d d.params).natAbs) * 1000000000))

/-- Protected words that hold native words: two to a word (R174). -/
def heldWords (n : Nat) : Nat := ceilDiv n 2

/-- What a node's buffers and state take at least in X and Y memory and in C memory, in protected words (R177, R179, R181, R217): the input
buffers in the memory of each edge, the accumulation or counts or lines in either, the coefficients and masks. -/
def NodeDef.needs (d : NodeDef) (fm : List Nat) : Nat × Nat × Nat × Nat :=
  let buf := fun (y : Bool) => ((d.dataIns.filter (fun e => e.memY == y)).map (fun e => heldWords (e.depth * wordsOf (e.src.format fm)))).foldl (· + ·) 0
  let state := match d.kernel with
    | 5 => d.frameLen
    | 6 => d.frameLen / 2 + 1
    | 7 => heldWords (pf d.params 1 15 0 * (pf d.params 2 31 24 + 1))
    | _ => 0
  let masks := if d.kernel = 8 then d.maskU.length + d.maskL.length else 0
  (buf false, buf true, state, heldWords d.coefs.length + (if d.inFormat fm = 2 then masks else heldWords masks))

/-- Whether the footprint that the image gives a node holds what its edges and its record need. -/
def NodeDef.footprintOk (d : NodeDef) (fm : List Nat) : Bool :=
  let n := d.needs fm
  decide (n.1 ≤ d.xUse) && decide (n.2.1 ≤ d.yUse) && decide (n.1 + n.2.1 + n.2.2.1 ≤ d.xUse + d.yUse) && decide (n.2.2.2 ≤ d.cUse)

/-- Whether a graph passes R179, R185, R203 and R206 on the clusters in service; code GRAPH where it does not. -/
def graphOk (on : Nat → Bool) (g : List NodeDef) : Bool :=
  let fm := formats g
  let runs := g.map (fun d => d.placeOn on)
  let outs := g.flatMap (fun d => d.ins.filterMap (fun e => match e.src with | .node o => some o | _ => none))
  decide (g.length ≤ 256) && decide ((g.map (fun d => d.ins.length)).foldl (· + ·) 0 ≤ 1024) &&
  (pathLengths g).all (fun n => decide (n ≤ 16)) &&
  outs.all (fun o => decide (outs.count o ≤ 8)) &&
  g.all (fun d => decide (d.cls ≤ 3) && decide (2 ≤ d.place.length) && decide (d.place.length ≤ 4) && decide d.place.Nodup &&
    decide ((d.ins.map (·.input)).Nodup) && recordOk d.kernel d.frameLen d.params && d.footprintOk fm &&
    d.ins.all (edgeOk g fm d)) &&
  (List.range 4).all (fun c => !on c || clusterFits g fm runs c)

end Sys2Proof.Machine
end

