-- ==== Sys2Proof/Machine/PacerOps.lean ====
section
/-!
DEFINITION. Admission and charging of invocations by PACER (R329 to R337).
-/
namespace Sys2Proof.Machine

/-- What PACER's registers show of its accounts (R341). -/
def State.showPacer (s : State) : State :=
  let s := s.setReg Reg.PACER_USED (BitVec.ofNat 32 (s.pacer.used / 1000))
  let s := s.setReg Reg.PACER_HEAD (BitVec.ofInt 32 ((s.headroomIn s.curMode).fdiv 1000000000))
  let s := s.setReg Reg.PACER_POOL (BitVec.ofNat 32 (s.pacer.pool / 1000))
  s.setReg Reg.PACER_BORROW (BitVec.ofNat 32 (s.pacer.debt / 1000))

/-- Node `i` of the loaded graph. -/
def State.nodeDef (s : State) (i : Nat) : Option NodeDef := s.eng.graph[i]?

/-- Whether a node has the clusters its class needs (R185, R194). -/
def hasClusters (d : NodeDef) (x : NodeSt) : Bool := if d.cls = 1 then x.run.length == 2 else !x.run.isEmpty

/-- Every invocation that has not completed and is not to end as a placeholder, with its node. -/
def State.openInvs (s : State) : List (Nat × NodeDef × Inv) :=
  (s.eng.graph.zipIdx).flatMap (fun p => ((s.nodeU p.2).invs.filter (fun v => v.outs.isNone && v.skip.isNone)).map (fun v => (p.2, p.1, v)))

/-- The class 2 and class 3 invocations that wait for admission (R332). -/
def State.waitingInvs (s : State) : List (Nat × NodeDef × Inv) :=
  s.openInvs.filter (fun p => decide (2 ≤ p.2.1.cls) && !p.2.2.admitted && hasClusters p.2.1 (s.nodeU p.1))

/-- The order in which PACER considers them: class, priority from 15 down, deadline (R332). -/
def admitBefore (a b : Nat × NodeDef × Inv) : Bool :=
  decide (a.2.1.cls < b.2.1.cls) || a.2.1.cls == b.2.1.cls &&
    (decide (b.2.1.prio < a.2.1.prio) || a.2.1.prio == b.2.1.prio && decide (a.2.2.deadline.toNat < b.2.2.deadline.toNat))

/-- The first of a list in an order. -/
def firstBy {α : Type} (before : α → α → Bool) (l : List α) : Option α :=
  l.foldl (fun (b : Option α) x => match b with
    | none => some x
    | some y => if before x y then some x else some y) none

/-- The state with one invocation of a node changed. -/
def State.updInv (s : State) (node num : Nat) (f : Inv → Inv) : State :=
  let x := s.nodeU node
  s.setNode node { x with invs := x.invs.map (fun v => if v.num = num then f v else v) }

/-- The most that PACER may owe in µJ (R336): the budget of 2 s. -/
def State.debtLimit (s : State) : Nat := s.budgetOf s.curMode * 20 / max 1 (s.fld Reg.PACER_CFG Fld.PACER_CFG_WIN)

/-- PACER borrows `short` µJ (R336): the budget of this window grows by it (log entry 18, DEDUCED). -/
def State.borrow (s : State) (short : Nat) : State :=
  if short = 0 then s else
  let first := s.pacer.debt == 0
  let debt := s.pacer.debt + short
  let s := ({ s with pacer := { s.pacer with debt := debt, budget := s.pacer.budget + short } }.raise Reg.PACER_STAT
    Fld.PACER_STAT_BORROW_S).showPacer
  if first then s.emit 0x0701 0 [debt / 1000, 0] else s

/-- What an invocation of energy `e` pJ lacks in µJ (R336). -/
def State.shortfall (s : State) (e : Nat) : Nat := ((e - s.headroomIn s.curMode + 999999).fdiv 1000000).toNat

/-- An invocation is admitted (R332): its energy is charged until it completes. -/
def State.admitInv (s : State) (node : Nat) (v : Inv) : State :=
  let s := { s with pacer := { s.pacer with charged := s.pacer.charged + v.energy } }
  s.updInv node v.num (fun w => { w with admitted := true })

/-- Whether PACER admits work of class 2 and 3 at all (R333): from CEIL on not until the temperature is 5 °C below it. -/
def State.admitsAny (s : State) : Bool :=
  !s.atCeil && !s.flag Reg.PACER_STAT Fld.PACER_STAT_CEIL && !s.flag Reg.PACER_STAT Fld.PACER_STAT_EMERG

/-- Admission (R332, R336): the first of those that wait, as long as its energy fits the headroom; one that is offered again under
ORDER may borrow what it lacks up to the limit. -/
def State.admitLoop (s : State) : Nat → State
  | 0 => s
  | fuel + 1 =>
    match firstBy admitBefore s.waitingInvs with
    | none => s
    | some (i, _, v) =>
      if (v.energy : Int) ≤ s.headroomIn s.curMode then (s.admitInv i v).admitLoop fuel
      else
        let short := s.shortfall v.energy
        if v.again && s.eng.order && decide (s.pacer.debt + short ≤ s.debtLimit) then
          ((s.borrow short).admitInv i v).admitLoop fuel
        else s

/-- PACER_DEFER.WAITING shows what waits for admission (R341). -/
def State.showWaiting (s : State) : State :=
  s.setFld Reg.PACER_DEFER Fld.PACER_DEFER_WAITING (min s.waitingInvs.length 65535)

/-- PACER evaluates (R332): it admits what it can and shows its accounts and what still waits. -/
def State.pacerAdmit (s : State) : State :=
  let s := if s.admitsAny then s.admitLoop s.waitingInvs.length else s
  s.showWaiting.showPacer

/-- An admitted invocation is no longer charged (R332). -/
def State.uncharge (s : State) (d : NodeDef) (v : Inv) : State :=
  if v.admitted && decide (2 ≤ d.cls) then { s with pacer := { s.pacer with charged := s.pacer.charged - v.energy } } else s

end Sys2Proof.Machine
end

