-- ==== Sys2Proof/Machine/Engine.lean ====
section
/-!
DEFINITION. The analysis engine at work (R174 to R196, R202, R205, R207): nodes become ready, clusters run invocations, outputs are
compared and released in order, clusters fail and are replaced.
-/
namespace Sys2Proof.Machine

/-- Cluster `c` beyond its registers. -/
def State.cluU (s : State) (c : Nat) : Cluster := Store.get (fun _ => {}) s.clu c
/-- The state with cluster `c` replaced. -/
def State.setClu (s : State) (c : Nat) (x : Cluster) : State := { s with clu := Store.set (fun _ => {}) s.clu c x }

def clOff : Nat := 0
def clIdle : Nat := 1
def clBusy : Nat := 2
def clTest : Nat := 3
def clFailed : Nat := 4

/-- The state of cluster `c`. -/
def State.clState (s : State) (c : Nat) : Nat := s.fld (Reg.CL_STAT c) Fld.CL_STAT_STATE

/-- Whether a cluster is in service for placement (R185, R191, R319). -/
def State.clInService (s : State) (c : Nat) : Bool :=
  hasCl s.fac.variant c && s.clState c != clFailed && s.regBit Reg.CLK_GATE_RUN (2 + c)

/-! ### What the registers show -/

/-! ### State regions (R181) -/

/-- Two values of 20 bits in a word. -/
def pairWord (a b : Int) : Nat := twos 20 a + 2 ^ 20 * twos 20 b

/-- A kernel's state as the 40-bit words of its state region, with their poison: the accumulation, the counts of DENSITY two to a word, then the
line, real and imaginary part in one word. Which word stands where is log entry 138, DESIGN CHOICE. -/
def KState.words (k : KState) (kernel : Nat) : List (Nat × Bool) :=
  let po := fun (i : Nat) => k.accPo.getD i false
  (if kernel = 7 then (List.range ((k.acc.length + 1) / 2)).map (fun w =>
      (pairWord (k.acc.getD (2 * w) 0) (k.acc.getD (2 * w + 1) 0), po (2 * w) || po (2 * w + 1)))
    else k.acc.zipIdx.map (fun p => (twos 40 p.1, po p.2))) ++
  k.line.map (fun x => (pairWord x.v x.im, x.poison))

/-- The state that the words of a state region give. -/
def KState.withWords (k : KState) (kernel : Nat) (ws : List (Nat × Bool)) : KState :=
  let n := if kernel = 7 then (k.acc.length + 1) / 2 else k.acc.length
  let word := fun (i : Nat) => ws.getD i (0, false)
  let acc := k.acc.zipIdx.map (fun p =>
    if kernel = 7 then (((word (p.2 / 2)).1 / 2 ^ (20 * (p.2 % 2)) % 2 ^ 20 : Nat) : Int)
    else if k.fmt = 2 then ((word p.2).1 : Int) else signedOf 40 (word p.2).1)
  let po := (List.range k.acc.length).map (fun i => (word (if kernel = 7 then i / 2 else i)).2)
  let line := k.line.zipIdx.map (fun p => let w := word (n + p.2)
    { p.1 with v := signedOf 20 (w.1 % 2 ^ 20), im := signedOf 20 (w.1 / 2 ^ 20), poison := w.2 })
  { k with acc := acc, accPo := po, line := line }

/-- The cells of a node's state region in DRAM. -/
def NodeDef.regionCells (d : NodeDef) : List Nat := (List.range ((d.stSize + 31) / 32)).map (fun i => d.stOff / 32 + i)

/-- The end of an invocation writes the state back (R181): into the region's copy and, where the region lies in DRAM, into its cells, six words
to a cell, through the engine's port. -/
def State.writeRegion (s : State) (i : Nat) (d : NodeDef) (k : KState) : State :=
  let s := s.setNode i { s.nodeU i with saved := k }
  if !d.stDram then s else
  let ws := k.words d.kernel
  d.regionCells.zipIdx.foldl (fun (s : State) p =>
    let part := (ws.drop (6 * p.2)).take 6
    if part.isEmpty then s
    else fullCellWrite s 2 p.1 (part.zipIdx.foldl (fun a q => a + q.1.1 * 2 ^ (40 * q.2)) 0) 0 (part.any (·.2))) s

/-- A node that moves reads its state from its state region (R192): what the last invocation left there, with the poison that the region's
words or cells carry. -/
def State.readRegion (s : State) (i : Nat) (d : NodeDef) : State :=
  let k := (s.nodeU i).saved
  if !d.stDram then s.setNode i { s.nodeU i with k := k } else
  let used := d.regionCells.take (((k.words d.kernel).length + 5) / 6)
  let r := used.foldl (fun (p : List (Nat × Bool) × State) c =>
    let q := p.2.portRead 2 c []
    (p.1 ++ (List.range 6).map (fun j => (q.1.1 / 2 ^ (40 * j) % 2 ^ 40, q.1.2.1.bad)), q.2)) ([], s)
  r.2.setNode i { r.2.nodeU i with k := k.withWords d.kernel r.1 }

/-- Each node's clusters. -/
def State.runs (s : State) : List (List Nat) := (List.range s.eng.graph.length).map (fun i => (s.nodeU i).run)

/-- What ENG_STAT and the cluster registers show of the placements (R182, R185, R196). -/
def State.showEngine (s : State) : State :=
  let g := s.eng.graph
  let runs := s.runs
  let fm := formats g
  let s := s.setFld Reg.ENG_STAT Fld.ENG_STAT_NODES (min g.length 255)
  let s := s.setFld Reg.ENG_STAT Fld.ENG_STAT_UNPLACED (bit (runs.any (fun r => r.isEmpty)))
  let s := s.setFld Reg.ENG_STAT Fld.ENG_STAT_REPLACING (bit ((List.range 4).any (fun c => (s.cluU c).replacing)))
  (List.range 4).foldl (fun (s : State) c =>
    if !hasCl s.fac.variant c then s else
    let l := onCluster g runs c
    let sum : (NodeDef → Nat) → Nat := fun f => (l.map (fun p => f p.1)).foldl (· + ·) 0
    let s := s.setFld (Reg.CL_STAT c) Fld.CL_STAT_PLACED l.length
    let s := s.setFld (Reg.CL_LOAD c) Fld.CL_LOAD_COMMIT (min (clusterLoad g fm runs c * 65536 / 800000000000) 65535)
    let s := s.setReg (Reg.CL_XYUSE c) (BitVec.ofNat 32 (sum (fun d => d.yUse) % 65536 * 65536 + sum (fun d => d.xUse) % 65536))
    let s := s.setReg (Reg.CL_CUSE c) (BitVec.ofNat 32 (l.length % 256 * 65536 + sum (fun d => d.cUse) % 65536))
    let times := (g.zipIdx.filter (fun p => (runs.getD p.2 []).contains c)).map (fun p =>
      let q := (s.nodeU p.2).params
      p.1.cyclesOf fm q (emitsMost p.1 q))
    s.setReg (Reg.CL_WMAX c) (BitVec.ofNat 32 (times.foldl max 0))) s

/-- The cluster cycles of a span of fabric time (R174: 800 MHz). -/
def clusterCycles (t : Nat) : Nat := t * 800000000 / 2 ^ 32

/-- Busy cycles of cluster `c` in the last 100 ms: those of the invocations that ended in it, as far as they lie in it, and of the one that
runs. -/
def State.busyCycles (s : State) (c : Nat) : Nat :=
  let x := s.cluU c
  let past := x.busy.map (fun p => min p.2 (clusterCycles (msTime 100 - (s.time - p.1).toNat)))
  let now := if x.running.isSome then clusterCycles (min (msTime 100) (s.time - x.since).toNat) else 0
  past.foldl (· + ·) now

/-- CL_LOAD.BUSY (R196): the fraction of the 80 000 000 cycles of the last 100 ms, in 1/65 536. -/
def State.busyField (s : State) (c : Nat) : Nat := min (s.busyCycles c * 65536 / 80000000) 65535

/-- Word `w` of node `i` in the node window (R196). -/
def State.nodeWord (s : State) (i w : Nat) : Nat :=
  match s.nodeDef i with
  | none => 0
  | some d =>
    let x := s.nodeU i
    let cost := invCost d (formats s.eng.graph) x.params d.penalty {}
    match w with
    | 0 => d.kernel * 2 ^ 24 + d.cls * 2 ^ 22 + bit x.run.isEmpty * 2 ^ 20 + x.run.headD 15 * 2 ^ 16
        + (if d.cls = 1 then x.run.getD 1 15 else 15) * 2 ^ 12 + bit d.penalty * 2 ^ 11
    | 1 => cost.1
    | 2 => s.invEnergy cost
    | 3 => x.longest
    | 4 => x.released % 2 ^ 32
    | 5 => x.gaps % 2 ^ 32
    | 6 => if d.cls = 1 then x.mism % 2 ^ 32 else 0
    | _ => 0

/-! ### Loading a graph -/

/-- The graph is loaded (R179, R185): every node on the first clusters of its list in service, its state empty. -/
def State.loadGraph (s : State) (graphId : Word) (g : List NodeDef) : State :=
  let s := { s with eng := { s.eng with graph := g, mism := [] }, nodes := [] }
  let s := g.zipIdx.foldl (fun (s : State) p => s.setNode p.2 { s.nodeU p.2 with
    run := p.1.placeOn s.clInService, ins := List.replicate 4 {}, params := p.1.params }) s
  let s := s.setReg Reg.ENG_GRAPH_ID graphId
  (s.setFld Reg.ENG_STAT Fld.ENG_STAT_LOADED (bit (!g.isEmpty))).showEngine

/-- At the end of BOOT every present cluster that has not failed has power and stands idle (R179, R193). -/
def State.startClusters (s : State) : State :=
  (List.range 4).foldl (fun (s : State) c =>
    if hasCl s.fac.variant c && s.clState c != clFailed then
      (s.setFld (Reg.CL_STAT c) Fld.CL_STAT_STATE clIdle).setClu c { s.cluU c with tested := s.time }
    else s) s

/-- NO_SPARE and GRAPH_NO_SPARE at the end of BOOT (R185). -/
def State.judgeSpare (s : State) : State :=
  match spareless s.clInService s.eng.graph (formats s.eng.graph) with
  | [] => s.clear Reg.ENG_STAT Fld.ENG_STAT_NO_SPARE
  | c :: _ => (s.raise Reg.ENG_STAT Fld.ENG_STAT_NO_SPARE).emit 0x0044 c [c]

/-! ### Release of outputs (R183) -/

/-- A frame into a product stream (R238), or discarded while staging SRAM has no space for its cells (R245). -/
def State.streamFrame (s : State) (sid node : Nat) (f : Frame) : State :=
  let x := (s.streamU sid).frame node s.time f
  if s.fitsStage sid x then (s.setStream sid x).showStage else s.discard sid 1 0 f.tf f.tf

/-- One output of a node releases a frame or a placeholder: to its streams and to the nodes that read it. -/
def State.releaseFrame (s : State) (node out : Nat) (f : Frame) : State :=
  let s := (s.streamsOf 4 (4 * node + out)).foldl (fun (s : State) sid =>
    if f.gap ≠ 0 then s.streamGap sid (gapBlock f.gap 3 node 1 1 0 f.tf f.tf) else s.streamFrame sid node f) s
  s.onEdges (fun x => x == .node (4 * node + out)) (fun d e i => i.take e d.kernel (eventStarted d) f)

/-- The outputs of one invocation are released (R183, R196): it counts among the placeholders when it releases one, among those released
when it is not itself one. -/
def State.releaseOuts (s : State) (node : Nat) (gapped : Bool) (outs : List (Option Frame)) : State :=
  let gap := outs.any (fun o => match o with | some f => f.gap != 0 | none => false)
  let x := s.nodeU node
  let s := s.setNode node (if gap then { x with gaps := x.gaps + 1 } else if gapped then x else { x with released := x.released + 1 })
  let s := s.noteFrame node (gap || gapped)
  outs.zipIdx.foldl (fun (s : State) p => match p.1 with | some f => s.releaseFrame node p.2 f | none => s) s

/-- Release every invocation that is complete and has no incomplete one ahead of it (R183). -/
def State.releaseNode (s : State) (node : Nat) : Nat → State
  | 0 => s
  | fuel + 1 =>
    match (s.nodeU node).invs with
    | [] => s
    | v :: rest =>
      match v.outs with
      | none => s
      | some outs => ((s.setNode node { s.nodeU node with invs := rest }).releaseOuts node v.gapped outs).releaseNode node fuel

/-- The first invocation of a node that is not complete. -/
def NodeSt.current (x : NodeSt) : Option Inv := x.invs.find? (fun v => v.outs.isNone)

/-- An invocation that is to end as a placeholder does so when those before it are complete (R207): the frame count of its node advances, and
a live change that it had started with waits for the next. -/
def State.skipDue (s : State) (node : Nat) (d : NodeDef) : Nat → State
  | 0 => s
  | fuel + 1 =>
    let x := s.nodeU node
    match x.current with
    | none => s
    | some v =>
      match v.skip with
      | none => s
      | some reason =>
        let t0 := (v.frames.head?.map (fun f => f.tFirst)).getD v.ready
        let t1 := (v.frames.head?.map (fun f => f.tLast)).getD v.ready
        let p := skipKernel d x.params reason t0 t1 x.k
        let saved := (skipKernel d x.params reason t0 t1 x.saved).1
        let s := (s.setNode node { x with k := p.1, saved := saved, pchange := x.pchange || v.changed }).updInv node v.num
          (fun w => { w with outs := some p.2, gapped := true })
        s.skipDue node d fuel

/-- What of a node is complete is released, after the placeholders that are due. -/
def State.settleNode (s : State) (node : Nat) (d : NodeDef) : State :=
  let n := (s.nodeU node).invs.length
  (s.skipDue node d n).releaseNode node n

/-- An invocation has ended (R318). -/
def State.workEnded (s : State) : State := { s with eng := { s.eng with ended := s.time } }

/-- An invocation becomes a placeholder with a reason (R187, R194, R205, R207), and no longer waits for admission (R332). -/
def State.placehold (s : State) (node : Nat) (d : NodeDef) (v : Inv) (reason : Nat) : State :=
  (((s.uncharge d v).workEnded.updInv node v.num (fun w => { w with skip := some reason })).settleNode node d).showWaiting

/-! ### Readiness (R180, R198) -/

/-- Where the record that an event starts stands in an input buffer (R223, R226). -/
inductive RecordAt where
  | gone
  | wait
  | here (f : Frame)
deriving DecidableEq, Repr

/-- The record of L samples that begins `off` samples after the first one at or after `t`. -/
def NodeIn.recordAt (i : NodeIn) (e : Edge) (t : Time) (off : Int) : RecordAt :=
  let p := i.buf.findIdx (fun v => decide (t.toNat ≤ v.t.toNat))
  if p = i.buf.length then .wait
  else if p = 0 ∧ i.buf.length < i.count then .gone
  else
    let start := (p : Int) + off
    if start < 0 then .gone
    else if i.buf.length < start.toNat + e.len then .wait
    else .here (frameOf 0 0 ((i.buf.drop start.toNat).take e.len) e.len i.disc)

/-- The input of a node that an edge feeds. -/
def NodeSt.inOf (x : NodeSt) (e : Edge) : NodeIn := x.ins.getD e.input {}

/-- Take the first event of an input. -/
def NodeSt.popEvent (x : NodeSt) (e : Edge) : NodeSt := x.onInput e.input (fun i => { i with events := i.events.drop 1 })

/-- Take the first event of every event input. -/
def NodeSt.popEvents (d : NodeDef) (x : NodeSt) : NodeSt := (d.ins.filter (fun e => !e.src.isData)).foldl NodeSt.popEvent x

/-- The grid position of a frame: the index of its last sample (R198). -/
def Frame.position (f : Frame) : Nat := (f.vals.getLast?.map (·.idx)).getD 0

/-- Two inputs' frames with those dropped that have no counterpart of the same grid position (R226). -/
def alignFrames : Nat → List Frame → List Frame → List Frame × List Frame
  | fuel + 1, f :: a, g :: b =>
    if f.position < g.position then alignFrames fuel a (g :: b)
    else if g.position < f.position then alignFrames fuel (f :: a) b
    else (f :: a, g :: b)
  | _, a, b => (a, b)

/-- The node with the heads of XCORR's two inputs at the same grid position (R226). -/
def NodeSt.aligned (d : NodeDef) (x : NodeSt) : NodeSt :=
  match d.kernel, d.dataIns with
  | 12, [a, b] =>
    let l := (x.inOf a).frames
    let m := (x.inOf b).frames
    let r := alignFrames (l.length + m.length) l m
    (x.onInput a.input (fun i => { i with frames := r.1 })).onInput b.input (fun i => { i with frames := r.2 })
  | _, _ => x

/-- What is ready at a node: nothing; events whose record is gone; the frames of an invocation with the node after it has taken them. -/
inductive Ready where
  | no
  | discard (x : NodeSt)
  | yes (frames : List Frame) (x : NodeSt)
deriving DecidableEq, Repr

/-- Readiness of a node (R180): a node whose inputs are all events is ready at each of them, the earliest first. -/
def NodeSt.ready (d : NodeDef) (x : NodeSt) : Ready :=
  let evs := d.ins.filter (fun e => !e.src.isData)
  let head := fun (e : Edge) => (x.inOf e).events.head?
  if d.dataIns.isEmpty then
    let first := evs.foldl (fun (b : Option (Time × Edge)) e => match head e, b with
      | some t, none => some (t, e)
      | some t, some y => if t.toNat < y.1.toNat then some (t, e) else b
      | none, _ => b) none
    match first with
    | none => .no
    | some y => .yes [] (x.popEvent y.2)
  else if evs.any (fun e => (head e).isNone) then .no
  else if eventStarted d then
    let t := (evs.head?.bind head).getD 0
    let recs := d.dataIns.map (fun e => (x.inOf e).recordAt e t (recordOffset d x.params))
    if recs.any (fun r => r == .gone) then .discard (x.popEvents d)
    else if recs.any (fun r => r == .wait) then .no
    else
      let x := d.dataIns.foldl (fun (x : NodeSt) e => x.onInput e.input (fun i => { i with disc := false })) (x.popEvents d)
      .yes (recs.filterMap (fun r => match r with | .here f => some f | _ => none)) x
  else
    let x := x.aligned d
    if d.dataIns.any (fun e => (x.inOf e).frames.isEmpty) then .no
    else
      let frames := d.dataIns.filterMap (fun e => (x.inOf e).frames.head?)
      let x := d.dataIns.foldl (fun (x : NodeSt) e => x.onInput e.input (fun i => { i with frames := i.frames.drop 1 })) (x.popEvents d)
      .yes frames x

/-- NODE_READY (R180). -/
def nodeReady (s : State) (node : Nat) : State :=
  match s.nodeDef node with
  | none => s
  | some d =>
    match (s.nodeU node).ready d with
    | .no => s
    | .discard x => s.setNode node x
    | .yes frames x =>
      let ahead := (x.invs.filter (fun v => v.outs.isNone)).length
      let cost := invCost d (formats s.eng.graph) x.params d.penalty (emitsAt d x.params x.k ahead)
      let v : Inv := { num := x.nextNum, ready := s.time, deadline := s.time + BitVec.ofNat 64 (usTime d.deadline), frames := frames,
                       energy := s.invEnergy cost }
      let x := { x with invs := x.invs ++ [v], nextNum := x.nextNum + 1 }
      ((s.setNode node x).toRun).pacerAdmit

/-! ### Running invocations (R182) -/

/-- Whether cluster `c` may start this invocation now: placed there and not being re-placed, admitted or of class 0 or 1, not started
there, and the first of its node that is not complete, since each takes up the state that the one before has left (R181; log entry 99,
DEDUCED). -/
def State.startable (s : State) (c : Nat) (p : Nat × NodeDef × Inv) : Bool :=
  let x := s.nodeU p.1
  x.run.contains c && x.moving.isNone && hasClusters p.2.1 x && (decide (p.2.1.cls ≤ 1) || p.2.2.admitted) && !p.2.2.started.contains c &&
  (x.current.map (·.num)) == some p.2.2.num

/-- The order of R182, repeats of class 0 and 1 ahead of all other work (R187, R194): task class, deadline, ready time. -/
def runBefore (a b : Nat × NodeDef × Inv) : Bool :=
  let key := fun (p : Nat × NodeDef × Inv) =>
    [bit (!(p.2.2.again && decide (p.2.1.cls ≤ 1))), p.2.1.cls, p.2.2.deadline.toNat, p.2.2.ready.toNat]
  decide (key a < key b)

/-- Whether a second has passed since cluster `c` was last tested (R193). -/
def State.testOverdue (s : State) (c : Nat) : Bool :=
  s.flag Reg.ENG_CFG Fld.ENG_CFG_STEST_EN && decide (secTime 1 ≤ (s.time - (s.cluU c).tested).toNat)

/-- INVOCATION_START (R182): cluster `c` starts the next ready invocation; a repeat of class 0 or 1 borrows what it lacks (R336). The
parameter record and its time are those of its first start. -/
def invocationStart (s : State) (c : Nat) : State :=
  if !s.clInService c || s.clState c != clIdle || (s.cluU c).testDue || s.testOverdue c || s.fld Reg.MODE_STAT Fld.MODE_STAT_PSTATE != 0 ||
      s.flag Reg.PACER_STAT Fld.PACER_STAT_EMERG then s else
  match firstBy runBefore (s.openInvs.filter (s.startable c)) with
  | none => s
  | some (i, d, v) =>
    let x := s.nodeU i
    let s := if v.params.isEmpty then
        (s.setNode i { x with pchange := false }).updInv i v.num (fun w => { w with
          started := w.started ++ [c], params := x.params, changed := x.pchange,
          cycles := d.cyclesOf (formats s.eng.graph) x.params (emitsAt d x.params x.k 0) })
      else s.updInv i v.num (fun w => { w with started := w.started ++ [c] })
    let s := s.setClu c { s.cluU c with running := some (i, v.num), since := s.time }
    let s := s.setFld (Reg.CL_STAT c) Fld.CL_STAT_STATE clBusy
    if v.again && s.eng.order && decide (d.cls ≤ 1) && v.started.isEmpty then
      s.borrow (min (s.shortfall v.energy) (s.debtLimit - s.pacer.debt))
    else s

/-- A cluster's test must come before its next invocation (R187, R193). -/
def State.dueTest (s : State) (c : Nat) : State := s.setClu c { s.cluU c with testDue := true }

/-- Both clusters of a class 1 node must pass the self-test (R187). -/
def State.dueTests (s : State) (run : List Nat) : State := run.foldl (fun (s : State) c => s.dueTest c) s

/-- Whether a frame carries poison. -/
def Frame.poisoned (f : Frame) : Bool := bitAt f.attr 5 || anyPoison f.vals

/-- Whether what a kernel carries holds a poisoned word. -/
def KState.poisoned (k : KState) : Bool := k.accPo.any id || anyPoison k.line

/-- Whether every node of the graph satisfies `p`. -/
def State.anyNode (s : State) (p : NodeSt → Bool) : Bool := (List.range s.eng.graph.length).any (fun j => p (s.nodeU j))

/-- A class 1 node's invocation has run on poison (R175): entry to SAFE. -/
def State.class1Poison (s : State) (i : Nat) (ins : List Frame) : State :=
  let x := s.nodeU i
  if ins.any Frame.poisoned || x.k.poisoned || !x.coefPo.isEmpty then
    (s.setNode i { x with poisoned := true, clean := 0 }).raiseCause 7 175 i
  else s

/-- What a class 1 node's completed invocation means for SMON (R175, R428): CLASS1_POISON is active until 16 consecutive frames are clean,
and 64 agreeing invocations end CLASS1_UNRESOLVED. -/
def State.class1Done (s : State) (i : Nat) (took : Bool) (outs : List Frame) : State :=
  let x := s.nodeU i
  let clean := if took || outs.any Frame.poisoned then 0 else x.clean + 1
  let s := s.setNode i { x with
    clean := clean, poisoned := took || (x.poisoned && decide (clean < 16)), agreed := x.agreed + 1,
    unresolved := x.unresolved && decide (x.agreed + 1 < 64) }
  let s := if s.anyNode (fun y => y.poisoned) then s else s.dropCause 7
  if s.anyNode (fun y => y.unresolved) then s else s.dropCause 8

/-- An invocation completes (R181, R183): its state is written back, its records and triggers take effect, its outputs are released in
order. -/
def State.completeInv (s : State) (i : Nat) (d : NodeDef) (v : Inv) (c : Nat) : State :=
  let x := s.nodeU i
  let took := v.frames.any Frame.poisoned || x.k.poisoned || !x.coefPo.isEmpty
  let o := runKernel i d v.params x.coefPo v.changed v.frames x.k
  let s := (s.setNode i { x with k := o.st, poAt := if x.coefPo.isEmpty then [] else x.poAt }).writeRegion i d o.st
  let s := s.workEnded.updInv i v.num (fun w => { w with outs := some o.outs })
  let s := o.recs.foldl (fun (s : State) r => s.emitAt r.2.1 r.1 c r.2.2) s
  let s := o.raised.foldl (fun (s : State) r => s.nodeRaises r.1 r.2 (d.kernel == 8)) s
  let s := o.freed.foldl (fun (s : State) t => s.nodeFrees t) s
  let s := if d.cls = 1 then s.class1Done i took (o.outs.filterMap id) else s
  let s := if 2 ≤ d.cls then
      { s with pacer := { s.pacer with discretion := s.pacer.discretion + v.energy } } else s
  let s := s.uncharge d v
  let s := if v.retried then s.dueTests x.run else s
  (s.settleNode i d).pacerAdmit

/-- A pair of clusters, the lower number first. -/
def pairOf (l : List Nat) : List Nat := [min (l.headD 0) (l.getD 1 0), max (l.headD 0) (l.getD 1 0)]

/-- Whether a pair of clusters has disagreed within the last second and both have passed their self-test since (R187). -/
def State.disagreedBefore (s : State) (pair : List Nat) : Bool :=
  match s.eng.mism.find? (fun p => p.1 == pair) with
  | some (_, t) => decide ((s.time - t).toNat ≤ secTime 1) && pair.all (fun c => decide (t.toNat < (s.cluU c).tested.toNat))
  | none => false

/-- The outputs of a class 1 invocation disagree at word `idx` (R187). -/
def State.mismatch (s : State) (i : Nat) (d : NodeDef) (v : Inv) (c idx : Nat) : State :=
  let x := s.nodeU i
  let pair := pairOf x.run
  let again := s.disagreedBefore pair
  let s := { s with eng := { s.eng with mism := (pair, s.time) :: s.eng.mism.filter (fun p => p.1 != pair) } }
  let s := s.setNode i { x with mism := x.mism + 1, agreed := 0, unresolved := x.unresolved || again }
  let s := (s.raise Reg.ENG_STAT Fld.ENG_STAT_MISM_S).count Reg.ENG_MISM_CNT word32
  let s := s.emitSafetyHeld 0x0510 c [i, x.run.headD 0, x.run.getD 1 0, v.num, idx]
  let s := if again then (s.emitSafetyHeld 0x0511 c [i, x.run.headD 0, x.run.getD 1 0]).raiseCause 8 187 i else s
  if s.eng.order && !v.retried then
    s.updInv i v.num (fun w => { w with started := [], finished := [], again := true, retried := true })
  else (s.dueTests pair).placehold i d v 3

/-- The busy cycles of cluster `c`'s invocation, which ends (R190, R196). -/
def State.countBusy (s : State) (c cycles : Nat) : State :=
  let x := s.cluU c
  let busy := ((s.time, cycles) :: x.busy).filter (fun p => decide ((s.time - p.1).toNat ≤ msTime 100))
  let s := s.setClu c { x with busy := busy, running := none }
  s.setReg (Reg.CL_CYC c) (s.reg (Reg.CL_CYC c) + BitVec.ofNat 32 cycles)

/-! ### Faults and re-placement (R191 to R194) -/

/-- The next cluster of a node's list that is in service and not used by it (R192). -/
def State.nextCluster (s : State) (d : NodeDef) (run : List Nat) : Option Nat :=
  d.place.find? (fun c => s.clInService c && !run.contains c)

/-- An invocation as cluster `c` fails (R192, R194): lost if it ran there, or had run there and awaits its partner; else nothing is lost. -/
def Inv.leave (c : Nat) (v : Inv) : Inv :=
  if v.outs.isSome || !v.started.contains c then v
  else { v with started := v.started.filter (· != c), finished := v.finished.filter (· != c), lost := true }

/-- One node leaves a failed cluster (R192, R194): its invocations there are lost, and it moves to the next cluster of its list. The poisoned
words of the failed cluster's memory stay behind; coefficients and state are read anew. -/
def State.leaveCluster (s : State) (c i : Nat) (d : NodeDef) : State :=
  let x := s.nodeU i
  if !x.run.contains c then s else
  let to_ := s.nextCluster d x.run
  let run := x.run.filterMap (fun r => if r = c then to_ else some r)
  let poAt := x.poAt.filter (· != c)
  let x := { x with run := run, moving := if to_.isSome then some c else x.moving, invs := x.invs.map (Inv.leave c), poAt := poAt,
                    unresolved := x.unresolved && !to_.isSome, coefPo := if poAt.isEmpty then [] else x.coefPo }
  let s := s.setNode i x
  let s := if s.anyNode (fun y => y.unresolved) then s else s.dropCause 8
  let s := if run.isEmpty then s.emitSafetyHeld 0x0042 c [i, d.cls] else s
  if d.cls = 1 ∧ run.length < 2 then s.raiseCause 9 194 i else s

/-- A cluster fault (R192): cause 1 self-test, 2 uncorrectable error, 3 overrun, 4 offline. The cycles that the abandoned invocation has
taken were busy ones. Where no invocation runs, the record's node in progress is 0xFF (log entry 121, DESIGN CHOICE). -/
def clusterFault (s : State) (c cause : Nat) : State :=
  if !hasCl s.fac.variant c || s.clState c == clFailed then s else
  let node := match (s.cluU c).running with | some (i, _) => i | none => 0xFF
  let s := if (s.cluU c).running.isSome then s.countBusy c (clusterCycles (s.time - (s.cluU c).since).toNat) else s
  let s := (s.setFld (Reg.CL_STAT c) Fld.CL_STAT_STATE clFailed).setFld (Reg.CL_STAT c) Fld.CL_STAT_CAUSE cause
  let s := (s.setBit Reg.ENG_STAT (20 + c) true).raise Reg.ENG_STAT Fld.ENG_STAT_FAULT_S
  let s := s.setBit Reg.CLK_GATE_OPEN (2 + c) false
  let s := s.setClu c { s.cluU c with running := none, testDue := false, replacing := true }
  let s := s.emitSafetyHeld 0x0040 c [c, cause, node, s.time.toNat]
  ((s.eng.graph.zipIdx).foldl (fun (s : State) p => s.leaveCluster c p.2 p.1) s).showEngine

/-- The cycles beyond which an invocation is an overrun (R191). -/
def State.overrunAt (s : State) (v : Inv) : Nat := s.fld Reg.ENG_CFG Fld.ENG_CFG_OVR_MULT * v.cycles + 1024

/-- The invocation that cluster `c` runs, with its node. -/
def State.runningInv (s : State) (c : Nat) : Option (Nat × NodeDef × Inv) :=
  match (s.cluU c).running with
  | none => none
  | some (i, num) => match s.nodeDef i, (s.nodeU i).invs.find? (fun v => v.num == num && v.outs.isNone && v.skip.isNone) with
    | some d, some v => some (i, d, v)
    | _, _ => none

/-- Whether cluster `c` can suffer a fault of a cause now (R191): a self-test that runs, an uncorrectable error in a cluster with power, an
invocation that has run longer than its limit. Going offline is a write of CL_CTRL. -/
def State.faultSeen (s : State) (c cause : Nat) : Bool :=
  match cause with
  | 1 => s.clState c == clTest
  | 2 => s.clState c != clOff
  | 3 => match s.runningInv c with
    | some (_, _, v) => decide (s.overrunAt v < clusterCycles (s.time - (s.cluU c).since).toNat)
    | none => false
  | _ => false

/-- CLUSTER_FAULT (R191, R192, R304): an uncorrectable error is one of an SRAM word of region 1, whose address is free. -/
def clusterFaultSeen (s : State) (c cause : Nat) : State :=
  if !s.faultSeen c cause then s
  else if cause = 2 then
    let a := s.freeNat 32
    clusterFault (a.2.sramError 1 a.1 true) c cause
  else clusterFault s c cause

/-- What becomes of a lost invocation once its node has moved (R194): it is settled once. -/
def State.settleLost (s : State) (i : Nat) (d : NodeDef) (v : Inv) : State :=
  let s := s.updInv i v.num (fun w => { w with lost := false })
  if !hasClusters d (s.nodeU i) then s
  else if !s.eng.order then s.placehold i d v 2
  else if d.cls ≤ 1 then s.updInv i v.num (fun w => { w with again := true })
  else ((s.uncharge d v).updInv i v.num (fun w => { w with again := true, admitted := false })).pacerAdmit

/-- CLUSTER_REPLACED (R192, R194): the re-placement off failed cluster `c` is complete, after `duration` units of 10 ns, which is 10 µs and
more and at most 300 µs. -/
def clusterReplaced (s : State) (c duration : Nat) : State :=
  if !hasCl s.fac.variant c || !(s.cluU c).replacing || duration < 1000 || 30000 < duration then s else
  let moved := (List.range s.eng.graph.length).filter (fun i => (s.nodeU i).moving == some c)
  let s := moved.foldl (fun (s : State) i =>
    let s := s.setNode i { s.nodeU i with moving := none }
    match s.nodeDef i with
    | some d => if (s.nodeU i).poAt.isEmpty then s.readRegion i d else s
    | none => s) s
  let s := s.setClu c { s.cluU c with replacing := false }
  let s := (s.setReg Reg.ENG_REPL_T (BitVec.ofNat 32 duration)).emit 0x0041 c [c, moved.length, duration]
  (s.eng.graph.zipIdx.foldl (fun (s : State) p => if !moved.contains p.2 then s else
    ((s.nodeU p.2).invs.filter (fun v => v.lost && v.outs.isNone && v.skip.isNone)).foldl (fun (s : State) v => s.settleLost p.2 p.1 v) s)
    s).showEngine

/-! ### The end of an invocation -/

/-- A cluster has ended its invocation `v` of node `i`, which is complete when every cluster that its class needs has (R186). -/
def State.endInv (s : State) (i : Nat) (d : NodeDef) (v : Inv) (c : Nat) (differs : Option Nat) : State :=
  let v := { v with finished := v.finished ++ [c] }
  let s := s.updInv i v.num (fun _ => v)
  if v.finished.length < (if d.cls = 1 then 2 else 1) then s else
  let s := if d.cls = 1 then s.class1Poison i v.frames else s
  match (if d.cls = 1 then differs else none) with
  | some idx => s.mismatch i d v c idx
  | none => s.completeInv i d v c

/-- INVOCATION_DONE (R183, R186, R191): cluster `c` ends its invocation after `cycles`, or has overrun; `differs` is the first word in which
the two outputs of a class 1 node differ, if any. An invocation that has become a placeholder meanwhile only leaves the cluster idle. -/
def invocationDone (s : State) (c cycles : Nat) (differs : Option Nat) : State :=
  if !hasCl s.fac.variant c || (s.cluU c).running.isNone then s else
  match s.runningInv c with
  | none => (s.countBusy c cycles).setFld (Reg.CL_STAT c) Fld.CL_STAT_STATE clIdle
  | some (i, d, v) =>
    if s.overrunAt v < cycles then clusterFault s c 3 else
    let s := (s.countBusy c cycles).setFld (Reg.CL_STAT c) Fld.CL_STAT_STATE clIdle
    (s.setNode i { s.nodeU i with longest := max (s.nodeU i).longest cycles }).endInv i d v c differs

/-- INVOCATION_DEADLINE (R194, R205): at its deadline an invocation that has not been admitted, or whose node has no clusters for its class,
becomes a placeholder. -/
def invocationDeadline (s : State) (node num : Nat) : State :=
  match s.nodeDef node, (s.nodeU node).invs.find? (fun v => v.num == num && v.outs.isNone && v.skip.isNone) with
  | some d, some v =>
    if s.time.toNat < v.deadline.toNat then s
    else if !hasClusters d (s.nodeU node) then s.placehold node d v 4
    else if s.flag Reg.PACER_STAT Fld.PACER_STAT_EMERG then s.placehold node d v 4
    else if !v.started.isEmpty then s
    else if d.cls ≤ 1 || v.admitted then s
    else if v.lost || v.again then s.placehold node d v 2
    else (s.placehold node d v 1).count Reg.PACER_DEFER Fld.PACER_DEFER_BUDGET_PH
  | _, _ => s

/-- CLUSTER_SELF_TEST (R193): an idle cluster in service begins its test; 9600 cycles later, 12 µs, the test ends and has passed or not. -/
def clusterSelfTest (s : State) (c : Nat) (pass : Bool) : State :=
  if !s.clInService c then s
  else if s.clState c == clTest then
    if (s.time - (s.cluU c).since).toNat < usTime 12 then s else
    let s := (s.setClu c { s.cluU c with testDue := false, tested := s.time }).setFld (Reg.CL_STAT c) Fld.CL_STAT_STATE clIdle
    let s := (s.raise (Reg.CL_STAT c) Fld.CL_STAT_ST_DONE).setFld (Reg.CL_STAT c) Fld.CL_STAT_ST_FAIL (bit (!pass))
    if pass then s else clusterFault s c 1
  else if s.clState c != clIdle || !(s.flag Reg.ENG_CFG Fld.ENG_CFG_STEST_EN || (s.cluU c).testDue) then s
  else (s.setFld (Reg.CL_STAT c) Fld.CL_STAT_STATE clTest).setClu c { s.cluU c with since := s.time }

/-- CL_CTRL_TEST (R191, R193): the test runs at the next idle point. -/
def clCtrlTest (s : State) (c : Nat) : State :=
  if !hasCl s.fac.variant c then s.writeAbsent c 4 (Reg.CL_CTRL c) else if s.clState c != clFailed then s.dueTest c else s

/-- CL_CTRL_OFFLINE (R191): a cluster fault, in SERVICE only. -/
def clCtrlOffline (s : State) (c : Nat) : State :=
  if !hasCl s.fac.variant c then s.writeAbsent c 4 (Reg.CL_CTRL c) else if s.inService then clusterFault s c 4 else s

/-! ### PARAM_SET (R202) -/

def opParamSet : Nat := 0x0010

/-- A record with the masked bits of one word replaced. -/
def paramsWith (p : List Word) (word : Nat) (mask value : Word) : List Word :=
  p.set word ((p.getD word 0 &&& ~~~mask) ||| (value &&& mask))

/-- Why PARAM_SET does not act, if it does not (R202, R315, R392). -/
def State.paramStatus (s : State) (node word : Nat) (mask value : Word) : Completion :=
  if word = 0 ∨ 23 < word then { status := stInvalid, detail := 2 }
  else if !bitAt streamMaskParam s.curMode then { status := stState, detail := s.curMode, result := [(streamMaskParam : Int)] }
  else match s.nodeDef node with
    | none => { status := stInvalid }
    | some d =>
      let p := (s.nodeU node).params
      if mask &&& ~~~((liveBits d.kernel).getD (word - 1) 0) ≠ 0 then { status := stInvalid }
      else if !recordOk d.kernel d.frameLen (paramsWith p word mask value) then { status := stInvalid }
      else if (s.nodeU node).run.isEmpty then { status := stInvalid }
      else { status := stOk }
where
  /-- The modes that accept PARAM_SET: all but BOOT and SAFE. -/
  streamMaskParam : Nat := 0x1E

/-- PARAM_SET (R202): the change takes effect at the node's next invocation. -/
def paramSet (s : State) (src : CmdSrc) (tag node word : Nat) (mask value : Word) : State :=
  let c := s.paramStatus node word mask value
  let s := if c.status = stOk then
      (s.setNode node { s.nodeU node with params := paramsWith (s.nodeU node).params word mask value, pchange := true }).showEngine
    else s
  s.settle src opParamSet tag c

end Sys2Proof.Machine
end

