-- ==== Sys2Proof/Machine/Wide.lean ====
section
/-!
DEFINITION. W-channels (R146 to R154): native samples, decimation, overrange, and when the converter runs.
-/
namespace Sys2Proof.Machine

/-- KW, OW of a W-channel's present gain (R154), nominal where the entry is not used. -/
def State.wCoef (s : State) (n : Nat) : Nat × Int :=
  let e := s.calE (calKeyW n (s.fld (Reg.WCH_CFG n) Fld.WCH_CFG_GAIN))
  if e.bad || e.words.isEmpty then (4194304, 0) else ((e.words.getD 0 0).toNat % 2 ^ 24, low24 (e.words.getD 1 0))

/-- The native code of a raw code before saturation (R154). -/
def nativeCode (kw : Nat) (ow r : Int) : Int := asr ((16 * r - ow) * kw + 2 ^ 25) 26

/-- Whether a W converter is required to run in a mode (R152, R314): RUN = ON, or AUTO in every mode but BOOT and VIGIL. -/
def State.wRequired (s : State) (n mode : Nat) : Bool :=
  let run := s.fld (Reg.WCH_CFG n) Fld.WCH_CFG_RUN
  run == 1 && mode != modeBoot || run == 0 && mode != modeBoot && mode != modeVigil

/-- Whether the converter runs or is starting. -/
def State.wAwake (s : State) (n : Nat) : Bool :=
  s.flag (Reg.WCH_STAT n) Fld.WCH_STAT_RUNNING || s.flag (Reg.WCH_STAT n) Fld.WCH_STAT_WAKING

/-- W_CONVERTER_START (R152, R164): a crossing under AUTO, the mode or RUN starts a sleeping converter. One that a crossing woke without a
hit in progress runs for 10 ms from then (log entry 93, DESIGN CHOICE). -/
def wConverterStart (s : State) (n : Nat) : State :=
  let w := s.wchU n
  let wake := w.wakeReq && s.fld (Reg.WCH_CFG n) Fld.WCH_CFG_RUN == 0
  if !hasWch s.fac.variant n || s.wAwake n || !(wake || s.wRequired n s.curMode) then s else
  let s := s.raise (Reg.WCH_STAT n) Fld.WCH_STAT_WAKING
  let s := if wake then ((s.count (Reg.WCH_WAKE_CNT n) Fld.WCH_WAKE_CNT_WAKES).openGate 14).openGate 15 else s
  let hit := s.fld (Reg.HC_STAT n) Fld.HC_STAT_STATE == 1
  s.setWch n { w with wakeReq := false, woken := wake, hitEnd := if hit then none else some s.time }

/-- The decimator of a W-channel restarts (R92, R152): its line is empty, and its outputs begin anew. -/
def State.wRestart (s : State) (n : Nat) : State :=
  ((s.setWch n { s.wchU n with line := [] }).restartRes (64 + n)).discontinue 3 n

/-- The timestamp of native sample `i` (R151). -/
def State.wStamp (s : State) (n i : Nat) : Time :=
  BitVec.ofInt 64 (roundDiv ((i : Int) * 2 ^ 32 + (s.reg (Reg.WCH_TS_ADJ n)).toInt * 8192000) 8192000)

/-- W_CONVERTER_READY (R152, R198, R319): while the W timebase is clocked, the first valid native sample, 2 µs after the start at the latest; the decimator restarts. -/
def wConverterReady (s : State) (n : Nat) : State :=
  if !hasWch s.fac.variant n || !s.flag (Reg.WCH_STAT n) Fld.WCH_STAT_WAKING || !s.gateOpen 14 then s else
  let s := (s.clear (Reg.WCH_STAT n) Fld.WCH_STAT_WAKING).raise (Reg.WCH_STAT n) Fld.WCH_STAT_RUNNING
  let s := s.setWch n { s.wchU n with idx := 32 * s.baseIdx.toNat + (s.sinceBase + 1) / 2, hist := [] }
  let h := s.hcU n
  let s := if s.fld (Reg.HC_STAT n) Fld.HC_STAT_STATE = 1 then s.setHc n { h with valid := h.valid.or (some (s.wStamp n (s.wchU n).idx)) }
    else s.setHc n { h with winSum := 0, winSq := 0, winN := 0, taint := false }
  s.wRestart n

/-- Stop a converter: sleep clears RUNNING and WAKING, and a wake that waits. -/
def State.wSleep (s : State) (n : Nat) : State :=
  let s := (s.clear (Reg.WCH_STAT n) Fld.WCH_STAT_RUNNING).clear (Reg.WCH_STAT n) Fld.WCH_STAT_WAKING
  let s := s.setWch n { s.wchU n with line := [], hist := [], woken := false, wakeReq := false, hitEnd := none }
  [14, 15].foldl (fun (s : State) g => if s.wantedGates.getLsbD g then s else s.closeGate g) s

/-- W_CONVERTER_STOP (R152, R164): a converter that the mode and RUN do not require stops; one that a crossing woke, 10 ms after the hit has
ended. -/
def wConverterStop (s : State) (n : Nat) : State :=
  let w := s.wchU n
  let stays := match w.hitEnd with
    | none => true
    | some t => decide ((s.time - t).toNat < msTime 10)
  if !hasWch s.fac.variant n || !s.wAwake n || s.wRequired n s.curMode then s
  else if w.woken && s.fld (Reg.WCH_CFG n) Fld.WCH_CFG_RUN == 0 && stays then s
  else s.wSleep n

/-- The delay and the span of decimation by 2^d, in native samples (R150). -/
def wDelay (d : Nat) : Nat := 23 * (2 ^ d - 1)
def wSpan (d : Nat) : Nat := 1 + 46 * (2 ^ d - 1)

/-- Coefficient `i` of the 47 of a half-band stage (R150), in units of 2^-24. The spec gives the response and not the numbers, so they are free
but for what it states (log entry 6, DESIGN CHOICE): the stage is half-band, so every second one beside the centre is 0 and the centre is
one half; it has linear phase, so the rest is symmetric; and its DC gain is 1, which the two next to the centre make up. -/
def halfBand (i : Nat) : Int :=
  let free := fun (j : Nat) => signedOf 24 (twos 24 (Config.filterCoef 64 j))
  let dist := if i < 23 then 23 - i else i - 23
  if 47 ≤ i then 0
  else if dist = 0 then 2 ^ 23
  else if dist % 2 = 0 then 0
  else if dist = 1 then 2 ^ 22 - ((List.range 11).map (fun j => free (2 * j + 3))).foldl (· + ·) 0
  else free dist

/-- One stage of decimation by 2 over a window (R150): its outputs at every second place from the first. -/
def halfStage (coef : List Int) : Nat → List Int → List Int
  | 0, _ => []
  | fuel + 1, win =>
    if win.length < 47 then []
    else ((coef.zip win).map (fun p => p.1 * p.2)).foldl (· + ·) 0 :: halfStage coef fuel (win.drop 2)

/-- The exact value of `d` stages over a window of their span, in units of 2^-(24 d) (R150). -/
def halfStages (coef : List Int) : Nat → List Int → List Int
  | 0, win => win
  | d + 1, win => halfStages coef d (halfStage coef win.length win)

/-- The code of a decimated output (R150): the value of the stages, rounded to one of the two codes next to it. The spec gives no rounding
within the stages or at the end (log entry 95, DESIGN CHOICE). -/
def State.decimated (s : State) (d : Nat) (win : List WSample) : Int × State :=
  let x := (halfStages ((List.range 47).map halfBand) d (win.map (·.val))).headD 0
  let lo := asr x (24 * d)
  if lo * 2 ^ (24 * d) = x then (satSigned 20 lo, s)
  else let p := s.freeNat 1; (satSigned 20 (lo + p.1), p.2)

/-- The decimator after a native sample (R150, R151): an output where k_e - delay is a whole multiple of 2^D. -/
def State.wOutput (s : State) (n : Nat) : State :=
  let w := s.wchU n
  let d := s.fld (Reg.WCH_CFG n) Fld.WCH_CFG_DECIM
  let win := w.line.take (wSpan d)
  match win with
  | [] => s
  | x :: _ =>
    if win.length < wSpan d || x.idx < wDelay d || (x.idx - wDelay d) % 2 ^ d != 0 then s else
    let p := s.decimated d win
    let s := p.2
    let a : Attrs := { ovr := win.any (·.ovr), mixed := win.any (fun y => y.epoch != x.epoch), service := win.any (·.service),
                       holdover := win.any (·.holdover), poison := win.any (·.poison) }
    let code := twos 20 p.1
    let v : OutVal := { full := code * 2 ^ 20, value := p.1 * 2 ^ 20, code := code, bits := 20, t := s.wStamp n (x.idx - wDelay d),
                        attrs := a }
    let s := s.newResult (64 + n) v.full (resAttr 8 a) a.poison
    let s := s.setWch n { s.wchU n with snap := some (code, attrByte a, v.t) }
    let s := (s.setTrustPoison (64 + n) 0 a.poison).verifyW n
    s.deliver 3 n ((x.idx - wDelay d) / 2 ^ d) (2 ^ d) v

/-- The samples of a hit up to its end as it is known (R165): those within go into its peak and energy, the rest wait. -/
def Hc.absorb (h : Hc) (stamp : Nat → Time) (last : Nat) : Hc :=
  let within := fun (x : WSample) => decide ((stamp x.idx).toNat ≤ last)
  let h' := (h.ahead.filter within).foldr (fun x (h : Hc) =>
    { h with peak := if x.val.natAbs > h.peak.natAbs then x.val else h.peak, energy := h.energy + (x.val * x.val).toNat,
             ovr := h.ovr || x.ovr, holdover := h.holdover || x.holdover }) h
  { h' with ahead := h.ahead.filter (fun x => !within x) }

/-- HDT and HMAX of a hit comparator in units of fabric time (R163). -/
def State.hcHdt (s : State) (h : Nat) : Nat := usTime (s.fld (Reg.HC_TIMING0 h) Fld.HC_TIMING0_HDT)
def State.hcHmax (s : State) (h : Nat) : Nat := msTime (s.fld (Reg.HC_TIMING1 h) Fld.HC_TIMING1_HMAX)

/-- When the hit in progress ends if nothing more crosses (R163): HDT after its last crossing, and no later than HMAX after its first. -/
def State.hitBound (s : State) (h : Nat) : Nat :=
  min ((s.hcU h).tLast.toNat + s.hcHdt h) ((s.hcU h).tFirst.toNat + s.hcHmax h)

/-- The samples that the hit in progress now reaches (R165). -/
def State.wAbsorb (s : State) (n : Nat) : State :=
  if s.fld (Reg.HC_STAT n) Fld.HC_STAT_STATE = 1 then s.setHc n ((s.hcU n).absorb (s.wStamp n) (s.hitBound n)) else s

/-- A native sample enters the hit in progress and the baseline's window of 8192 (R162, R165). -/
def State.wFeedHit (s : State) (n : Nat) (x : WSample) : State :=
  let h := s.hcU n
  let st := s.fld (Reg.HC_STAT n) Fld.HC_STAT_STATE
  let h := if 8192 ≤ h.winN then h
    else { h with winSum := h.winSum + x.val, winSq := h.winSq + (x.val * x.val).toNat, winN := h.winN + 1,
                  taint := h.taint || x.ovr || st != 0 }
  let inHit := st == 1 && decide (h.tFirst.toNat ≤ (s.wStamp n x.idx).toNat)
  (s.setHc n (if inHit then { h with ahead := x :: h.ahead } else h)).wAbsorb n

/-- Overrange of the newest native sample (R148). -/
def State.wOverrange (s : State) (n : Nat) (ovr neg : Bool) : State :=
  let w := s.wchU n
  if ovr then
    let s := s.setLive (Reg.WCH_STAT n) Fld.WCH_STAT_OVR_NOW Fld.WCH_STAT_OVR_S true
    let s := s.count (Reg.WCH_OVR_CNT n) Fld.WCH_OVR_CNT_OVR_TOTAL
    let s := s.setWch n { w with quiet := 0, overrange := true, ovrNeg := neg }
    if w.overrange then s
    else s.emitLimited 0x0150 (64 + n) n (secTime 1) false 1 (fun k => [n, 1, if neg then -1 else 1, k])
  else (s.clear (Reg.WCH_STAT n) Fld.WCH_STAT_OVR_NOW).setWch n { w with quiet := min 8192 (w.quiet + 1) }

/-- NATIVE_SAMPLE (R20, R148, R151, R154, R319): while the W timebase is clocked, raw code `r` of a running converter is calibrated, checked for overrange, fed to the hit in
progress and decimated. While the primary reference is outside its window the code is free and carries OVR. -/
def nativeSample (s : State) (n : Nat) (r : BitVec 20) : State :=
  if !hasWch s.fac.variant n || !s.flag (Reg.WCH_STAT n) Fld.WCH_STAT_RUNNING || !s.gateOpen 14 then s else
  let w := s.wchU n
  let k := s.wCoef n
  let y := nativeCode k.1 k.2 r.toInt
  let refOut := s.flag Reg.SAF_SUP Fld.SAF_SUP_REF
  let p := s.freeNat 20
  let val := if refOut then signedOf 20 p.1 else satSigned 20 y
  let s := if refOut then p.2 else s
  let ovr := refOut || r.toInt == 2 ^ 19 - 1 || r.toInt == -(2 ^ 19) || satSigned 20 y != y || w.beyondP || w.beyondN || w.pinSeen
  let bad := (s.calE (calKeyW n (s.fld (Reg.WCH_CFG n) Fld.WCH_CFG_GAIN))).poison
  let x : WSample := { idx := w.idx, val := val, ovr := ovr, epoch := w.epoch, service := s.inService, holdover := s.inHoldover,
                       poison := bad }
  let s := s.setWch n { w with idx := w.idx + 1, line := (x :: w.line).take 691, hist := (x :: w.hist).take 1024, pinSeen := false }
  ((s.wOverrange n ovr (decide (val < 0))).wFeedHit n x).wOutput n

/-- W_OVERRANGE_LEAVE (R148): 8192 native samples have passed without an overrange sample. -/
def wOverrangeLeave (s : State) (n : Nat) : State :=
  let w := s.wchU n
  if !hasWch s.fac.variant n || !w.overrange || w.quiet < 8192 then s
  else (s.setWch n { w with overrange := false }).emitLimited 0x0150 (64 + n) n (secTime 1) true 0
    (fun k => [n, 0, if w.ovrNeg then -1 else 1, k])

/-- The reserved encodings of WCH_CFG (R172). -/
def wchCfgReject (v : Word) : Word :=
  rejectIf (getField Fld.WCH_CFG_GAIN v ≥ 5) Fld.WCH_CFG_GAIN |||
    rejectIf (getField Fld.WCH_CFG_DECIM v ≥ 5) Fld.WCH_CFG_DECIM |||
    rejectIf (getField Fld.WCH_CFG_COUPLING v == 3) Fld.WCH_CFG_COUPLING |||
    rejectIf (getField Fld.WCH_CFG_RUN v == 3) Fld.WCH_CFG_RUN

/-- A write of WCH_CFG (R149, R150, R152, R153): a change of GAIN, DECIM or COUPLING is refused while the channel is consumed;
otherwise it takes effect at the next native sample and restarts the decimator. RUN is always accepted. -/
def wchCfgWrite (s : State) (n : Nat) (v : Word) : State :=
  if !hasWch s.fac.variant n then s.writeAbsent n 8 (Reg.WCH_CFG n) else
  let a := Reg.WCH_CFG n
  let old := s.reg a
  let three := maskAll [Fld.WCH_CFG_GAIN, Fld.WCH_CFG_DECIM, Fld.WCH_CFG_COUPLING]
  let rej := wchCfgReject v
  let used := s.consumed 3 n && (old ^^^ v) &&& three &&& ~~~rej != 0
  let s := s.writeJudged a 0x00003377 (rej ||| if used then three else 0) v (Reg.WCH_STAT n) Fld.WCH_STAT_CFG_REJ
  let new := s.reg a
  let s := if (old ^^^ new) &&& three = 0 then s else
    let s := s.setFld (Reg.WCH_DELAY n) Fld.WCH_DELAY_DELAY (wDelay (getField Fld.WCH_CFG_DECIM new))
    (s.setWch n { s.wchU n with epoch := (s.wchU n).epoch + 1 }).wRestart n
  if getField Fld.WCH_CFG_RUN new = 2 then s.wSleep n else s

end Sys2Proof.Machine
end

