-- ==== Sys2Proof/Machine/Power.lean ====
section
/-!
DEFINITION. Power states and clock gates (R318 to R322).
-/
namespace Sys2Proof.Machine

/-- POWER_STATE_SLEEP (R318): in SURVEY and SAFE, with no invocation ready or running and no host DMA transfer for 10 µs. -/
def powerStateSleep (s : State) : State :=
  if (s.curMode == modeSurvey || s.curMode == modeSafe) && s.pstate == 0 && !s.changing && s.openInvs.isEmpty &&
      decide (usTime 10 ≤ (s.time - s.eng.ended).toNat) && decide (usTime 10 ≤ (s.time - s.host.dmaAt).toNat) then s.enterPstate 1 else s

/-- Whether every condition of R322 for DEEP holds, in VIGIL or among the entry actions of a change to it (R314). -/
def State.deepOk (s : State) : Bool :=
  s.curMode == modeVigil && (!s.changing || s.mode.phase == .acting && s.mode.next.isNone) && s.pstate != 2 &&
  s.openInvs.all (fun p => decide (2 ≤ p.2.1.cls) && !p.2.2.admitted && p.2.2.started.isEmpty) &&
  (List.range 4).all (fun c => (s.cluU c).running.isNone && s.clState c != clTest) &&
  s.fld Reg.HIF_CMD_HEAD Fld.HIF_CMD_HEAD_HEAD == s.fld Reg.HIF_CMD_DB Fld.HIF_CMD_DB_TAIL &&
  s.host.inflight.all (fun e => e.done.isSome) &&
  s.drc.change.isNone && !s.flag Reg.DRC_STAT Fld.DRC_STAT_PEND_V && !s.flushDue && !s.scrubDue

/-- DEEP is entered (R319, R322): the gates have closed, clusters lose power, the F-PLL stops, every enabled port asks for ECONOMY, and a port
whose gate closes goes down. -/
def State.enterDeep (s : State) : State :=
  let s := (s.enterPstate 2).shutGates
  let s := (List.range 4).foldl (fun (s : State) c =>
    if hasCl s.fac.variant c && s.clState c != clFailed then s.setFld (Reg.CL_STAT c) Fld.CL_STAT_STATE clOff else s) s
  (s.clear Reg.CLK_STAT Fld.CLK_STAT_F_LOCK).requestRates modeVigil

/-- DEEP_ENTRY (R320, R322): an entry that has been abandoned is tried again after 1 ms. -/
def deepEntry (s : State) : State := if s.deepOk && s.clk.deepRetry.isNone then s.enterDeep else s

/-- DEEP_ENTRY_RETRY (R320): 1 ms after an abandoned entry, the entry is tried again. -/
def deepEntryRetry (s : State) : State :=
  match s.clk.deepRetry with
  | none => s
  | some t =>
    if (s.time - t).toNat < msTime 1 then s else
    let s := { s with clk := { s.clk with deepRetry := none } }
    if s.deepOk then s.enterDeep else s

/-- The fast domains leave DEEP (R281, R318, R322): the PLLs lock, clusters have power again, the DRAM leaves self-refresh, the ports ask
for their rates, and a cluster whose last self-test is 1 s old is tested before its first invocation (R193). -/
def State.leaveDeep (s : State) (ps : Nat) : State :=
  let s := ((s.enterPstate ps).raise Reg.CLK_STAT Fld.CLK_STAT_F_LOCK)
  let s := (List.range 4).foldl (fun (s : State) c =>
    if !hasCl s.fac.variant c || s.clState c == clFailed then s else
    let s := s.setFld (Reg.CL_STAT c) Fld.CL_STAT_STATE clIdle
    if s.flag Reg.ENG_CFG Fld.ENG_CFG_STEST_EN && decide (secTime 1 ≤ (s.time - (s.cluU c).tested).toNat) then s.dueTest c else s) s
  (selfRefreshExit s).requestRates s.curMode

/-- A RUN burst in DEEP, or RUN again from SLEEP (R318, R322). -/
def State.runBurst (s : State) : State := if s.pstate = 2 then s.leaveDeep 0 else s.toRun

/-- Whether PACER has a reason for a RUN burst (R184, R322): a waiting class 0 or 1 invocation, an admitted one of class 2 or 3, a flush, a
scrub burst. A doorbell or a gated access starts its own. -/
def State.burstReason (s : State) : Bool :=
  s.openInvs.any (fun p => decide (p.2.1.cls < 2) || p.2.2.admitted) || s.flushDue || s.scrubDue

/-- RUN_BURST_START (R322): PACER starts a RUN burst. -/
def runBurstStart (s : State) : State := if s.burstReason then s.runBurst else s

/-- Whether gate `g` is to close for an entry into DEEP (R319, R322). -/
def State.deepCloses (s : State) (g : Nat) : Bool := s.deepOk && g < 16 && !s.regBit Reg.CLK_GATE_DEEP g && !s.heldGates.getLsbD g

/-- Whether a close of gate `g` has waited for its 1024 cycles (R320). -/
def State.closeWaited (s : State) (g : Nat) : Bool :=
  s.clk.closing.any (fun q => q.1 == g && decide (quiesceTime g ≤ (s.time - q.2).toNat))

/-- GATE_TIMEOUT (R320): the close of a gate is abandoned after 1024 cycles, and the gate stays open: one that the power state asks for, or one
of an entry into DEEP, which is abandoned with it and leaves the device in SLEEP. -/
def gateTimeout (s : State) (g : Nat) : State :=
  let deep := s.deepCloses g
  if !deep && !s.closeWaited g then s else
  let s := (s.count Reg.CLK_GATE_TO Fld.CLK_GATE_TO_COUNT).setFld Reg.CLK_GATE_TO Fld.CLK_GATE_TO_LAST g
  let ps := if deep then 2 else s.pstate
  let s := (s.emitLimited 0x0020 0 g (secTime 1) false 0 (fun _ => [g, ps])).keepGate g
  if deep then ({ s with clk := { s.clk with deepRetry := some s.time } }.enterPstate 1).openGate g else s

/-- An access reaches the block of gate `g` (R320, R321): a close that waits is given up; a closed gate opens, in DEEP with a RUN burst. -/
def State.reach (s : State) (g : Nat) : State :=
  if s.gateOpen g then s.keepGate g
  else if s.pstate = 2 then ((s.leaveDeep 0).count Reg.CLK_WAKE_ACC word32).openGate g
  else s.openGate g

/-- A write reaches a block that is present (R321). -/
def State.reachIf (s : State) (present : Bool) (g : Nat) : State := if present then s.reach g else s

/-- GATED_ACCESS (R321): an access reaches a gated block. -/
def gatedAccess (s : State) (g : Nat) : State := if 16 ≤ g then s else s.reach g

end Sys2Proof.Machine
end

