-- ==== Sys2Proof/Machine/HostOps.lean ====
section
/-!
DEFINITION. What the host link's rules build on (R387, R388): whether the device may use the link, MSI-X vectors and their
moderation.
-/
namespace Sys2Proof.Machine

/-- Whether DMA, record writing and MSI-X go ahead (R388): a host link that is up, with the function in D0. -/
def State.hostUp (s : State) : Bool :=
  hasHost s.fac.variant && s.flag Reg.HIF_STAT Fld.HIF_STAT_LINK_UP && !s.host.d3hot

/-- MSI-X vector `v`'s moderation. -/
def State.msiU (s : State) (v : Nat) : MsiVec := Store.get (fun _ => {}) s.msi v
/-- The state with vector `v`'s moderation replaced. -/
def State.setMsi (s : State) (v : Nat) (x : MsiVec) : State := { s with msi := Store.set (fun _ => {}) s.msi v x }

/-- Send vector `v`'s message (R387): while the vector or the function is masked, its pending bit is set instead; a function whose MSI-X is not enabled
sends none (PCI Express; log entry 136, PRESUMED). -/
def State.sendMsix (s : State) (v : Nat) : State :=
  let s := s.setMsi v {}
  if !s.host.pci.msixOn then s
  else if s.flag (Reg.MSIX_CTRL v) Fld.MSIX_CTRL_MASK || s.host.pci.msixMask then s.setBit Reg.MSIX_PBA v true else s.put (.msix v)

/-- A notification of vector `v` (R387): its message goes at once for an immediate one, when TIME is 0, or when COUNT are pending. -/
def State.notify (s : State) (v : Nat) (imm : Bool) : State :=
  let x := s.msiU v
  let x := { pending := x.pending + 1, oldest := if x.pending = 0 then s.time else x.oldest }
  let s := s.setMsi v x
  if imm || s.fld (Reg.HIF_VMOD v) Fld.HIF_VMOD_TIME == 0 || s.fld (Reg.HIF_VMOD v) Fld.HIF_VMOD_COUNT ≤ x.pending then s.sendMsix v
  else s

/-- MSIX_SEND (R387): vector `v`'s moderation is reached: COUNT notifications are pending, or TIME has passed since the oldest. -/
def msixSend (s : State) (v : Nat) : State :=
  let x := s.msiU v
  let due := decide (s.fld (Reg.HIF_VMOD v) Fld.HIF_VMOD_COUNT ≤ x.pending) ||
    s.longSince (some x.oldest) (usTime (s.fld (Reg.HIF_VMOD v) Fld.HIF_VMOD_TIME))
  if v < 16 && s.hostUp && decide (0 < x.pending) && due then s.sendMsix v else s

end Sys2Proof.Machine
end

