-- ==== Sys2Proof/Machine/Streams.lean ====
section
/-!
DEFINITION. Streams, history rings, captures and host rings (R233 to R266).
-/
namespace Sys2Proof.Machine

/-! ### The pool and what the registers show (R243, R266) -/

/-- The segments that captures have pinned or reserved (R260), each once. -/
def State.capSegs (s : State) : List Nat :=
  (s.streams.flatMap (fun p => match p.2.cap with | some k => k.reserve ++ k.pins | none => [])).dedup

/-- The segments of the pool that are not free: those of rings, those that still hold blocks of a ring after a capture has let them go, and
those of captures. -/
def State.usedSegs (s : State) : List Nat := s.streams.flatMap (fun p => p.2.ring ++ p.2.kept.map (·.1)) ++ s.capSegs

/-- How many segments of the pool are free. -/
def State.freeSegs (s : State) : Nat := s.fld Reg.STR_POOL Fld.STR_POOL_SIZE_MIB - s.usedSegs.dedup.length

/-- Segments pinned or reserved by captures. -/
def State.pinnedSegs (s : State) : Nat := s.capSegs.length

/-- The `n` free segments with the lowest numbers, which a ring or a reservation takes (log entry 9, DESIGN CHOICE). -/
def State.takeSegs (s : State) (n : Nat) : List Nat :=
  let used := s.usedSegs
  ((List.range (s.fld Reg.STR_POOL Fld.STR_POOL_SIZE_MIB)).filter (fun g => !used.contains g)).take n

/-- The DRAM cell at a place of a ring (R243): the pool begins at BASE_MIB, and a segment holds 32 768 cells. -/
def State.ringCell (s : State) (ring : List Nat) (pos : Nat) : Nat :=
  (s.fld Reg.STR_POOL Fld.STR_POOL_BASE_MIB + ring.getD (pos / 32768) 0) * 32768 + pos % 32768

/-- The segment of the pool in which a DRAM cell lies. -/
def State.segOf (s : State) (cell : Nat) : Nat := cell / 32768 - s.fld Reg.STR_POOL Fld.STR_POOL_BASE_MIB

/-- Whether the DRAM can be read and written: no channel is in self-refresh, and no change of operating point holds both. -/
def State.dramAwake (s : State) : Bool := !(s.chanU 0).selfRef && !(s.chanU 1).selfRef && s.drc.change.isNone

/-- STR_SEGS, STR_STAT and STR_STAGE follow the streams. -/
def State.showStreams (s : State) : State :=
  let s := (s.setFld Reg.STR_SEGS Fld.STR_SEGS_FREE s.freeSegs).setFld Reg.STR_SEGS Fld.STR_SEGS_PINNED s.pinnedSegs
  let opn := (s.streams.filter (fun p => decide (p.1 < 960) && p.2.st != 0)).length
  let caps := (s.streams.filter (fun p => decide (960 ≤ p.1) && p.2.st != 0)).length
  ((s.setFld Reg.STR_STAT Fld.STR_STAT_OPEN opn).setFld Reg.STR_STAT Fld.STR_STAT_CAPTURES caps).showStage

/-- The coding of a source's values now as its blocks' FMT shows it (R234, R238). -/
def State.fmtOf (s : State) (x : Stream) : Nat :=
  if x.srck = 4 then 3
  else if x.srck = 3 then 2
  else if x.srck = 0 then s.fld (Reg.PCH_FMT x.src) Fld.PCH_FMT_FORM_STATIC
  else if x.srck = 1 then s.fld (Reg.PCH_FMT x.src) Fld.PCH_FMT_FORM_SEISMIC
  else 1

/-- Values per cell of a source now (R234, R238): full P-channel results 6, every other value 12. -/
def State.perCellOf (s : State) (x : Stream) : Nat := if s.fmtOf x = 0 then 6 else 12

/-- PERIOD of a source now (R234). -/
def State.periodOf (s : State) (x : Stream) : Nat :=
  match x.srck with
  | 0 => 2 * (s.staticLen x.src).1
  | 1 => 32 * seisD (s.fld (Reg.PCH_SEIS_CFG x.src) Fld.PCH_SEIS_CFG_RATE)
  | 2 => 256
  | 3 => 2 ^ s.fld (Reg.WCH_CFG x.src) Fld.WCH_CFG_DECIM
  | _ => 0

/-- The node of a product stream. -/
def Stream.node (x : Stream) : Nat := if x.srck = 4 then x.src / 4 else 0

/-- The cells of a block with its header. -/
def Block.total (b : Block) : Nat := 1 + b.cells

/-- The cells of the blocks that a stream holds. -/
def Stream.heldCells (x : Stream) : Nat := (x.held.map Block.total).foldl (· + ·) 0

/-- Word `i` of the window of stream `sid` (R266); a closed SID reads 0. -/
def State.streamWord (s : State) (sid i : Nat) : Nat :=
  let x := s.streamU sid
  if x.st = 0 then 0 else
  match i with
  | 0 => placed [(x.hr % 32, 0), (x.dest, 10), (x.fmt % 16, 12), (x.src % 1024, 16), (if 960 ≤ sid then 5 else x.srck, 26), (x.st, 30)]
  | 1 => placed [(x.segs % 2 ^ 16, 0), (x.cls, 16), (x.dev % 4096, 20)]
  | 2 => x.next
  | 3 => x.send
  | 4 => match x.held with | b :: _ => b.bseq | [] => x.next
  | 5 => x.ageMs
  | 6 => x.gaps
  | _ => match x.cap with
    | some k => if k.whole then x.heldCells % 2 ^ 32 else (k.cells - k.acked) % 2 ^ 32
    | none => if 960 ≤ sid then x.heldCells % 2 ^ 32 else x.lost

/-! ### Opening and closing (R235, R236) -/

def opStreamOpen : Nat := 0x0020
def opStreamClose : Nat := 0x0021
def opCapture : Nat := 0x0022

/-- The modes, as the mask of R315, in which streams are opened and closed and captures admitted: all but BOOT and SAFE. -/
def streamMask : Nat := 0x1E

/-- The completion of a command that the present mode does not accept (R315, R392). -/
def State.stateStatus (s : State) (mask : Nat) : Completion := { status := stState, detail := s.curMode, result := [(mask : Int)] }

/-- Whether the parameters of a stream are out of range or reserved (R235). -/
def State.streamInvalid (s : State) (p : OpenParams) : Bool :=
  p.sid ≥ 960 || p.srck ≥ 5 || p.segs == 0 || p.segs ≥ 65536 || p.dest ≥ 3 || p.dev ≥ 4096 || p.hr ≥ 32 || p.ageMs == 0 ||
    p.ageMs ≥ 65536 || (p.dest == 1 && !hasHost s.fac.variant) ||
    (if p.srck ≤ 2 then decide (64 ≤ p.src) else if p.srck = 3 then decide (8 ≤ p.src)
     else match s.eng.graph[p.src / 4]? with
       | some d =>
         let live := (s.nodeU (p.src / 4)).params
         decide (outputsOf d (if live.isEmpty then d.params else live) ≤ p.src % 4)
       | none => true)

/-- Whether a stream's source is an absent unit (R6). -/
def State.sourceAbsent (s : State) (srck src : Nat) : Bool :=
  if srck ≤ 2 then !hasPch s.fac.variant src else if srck = 3 then !hasWch s.fac.variant src else false

/-- Open a stream (R235): it takes its segments, and its first block takes sequence number 0. -/
def State.openStream (s : State) (p : OpenParams) : State :=
  let cls := if p.srck = 4 then ((s.eng.graph[p.src / 4]?).map (·.cls)).getD 3 else 0
  (s.setStream p.sid { st := 1, srck := p.srck, src := p.src, segs := p.segs, ring := s.takeSegs p.segs, ageMs := p.ageMs, cls := cls,
                       dest := p.dest, dev := p.dev, hr := p.hr }).showStreams

/-- How STREAM_OPEN completes (R235, in the order of R392): a status and detail, 0 for OK. -/
def State.openStatus (s : State) (p : OpenParams) : Completion :=
  if s.streamInvalid p then { status := stInvalid, detail := 2 }
  else if s.sourceAbsent p.srck p.src then { status := stAbsent }
  else if !bitAt streamMask s.curMode then s.stateStatus streamMask
  else if (s.streamU p.sid).st ≠ 0 then { status := stBusy }
  else if s.freeSegs < p.segs then { status := stNoSpace }
  else { status := stOk }

/-- STREAM_OPEN (R235). -/
def streamOpen (s : State) (src : CmdSrc) (tag : Nat) (p : OpenParams) : State :=
  let c := s.openStatus p
  (if c.status = stOk then s.openStream p else s).settle src opStreamOpen tag c

/-- Whether the sender can still give a block up that it has read: its destination has not been asked for cells of it. -/
def Tx.free (t : Tx) : Bool := t.phase == .ready && !t.bound

/-- The cells that a capture has still to read (R260, R261): those of its blocks that the sender does not yet hold. -/
def Stream.owedCells (x : Stream) : List Nat :=
  let out := match x.tx with | some t => if t.free then none else some t.blk.bseq | none => none
  ((x.held.filter (fun b => out != some b.bseq)) ++ x.opn.toList).flatMap (fun b => b.srcs.map (·.1))

/-- Whether nothing of a closing stream is left to deliver (R236, R245). -/
def Stream.drained (x : Stream) : Bool :=
  x.opn.isNone && x.closed.isEmpty && x.tx.isNone && x.skip.isNone && (x.dest == 0 || (x.gone.isNone && x.send == x.next))

/-- The block in progress of a capture ends with LAST, and no further value belongs to it. -/
def State.finishCapture (s : State) (c : Nat) : State :=
  let x := s.streamU c
  match x.cap with
  | some k => if k.whole then s else s.setStream c { x.close true with cap := some { k with whole := true } }
  | none => s

/-- The captures of a source that have not ended. -/
def State.readersOf (s : State) (sid : Nat) : List Nat :=
  (s.streams.filter (fun p => match p.2.cap with | some k => k.source == sid | none => false)).map (·.1)

/-- The segments detached from a ring, once no capture pins them (R260): one that still holds blocks takes its place in the ring again, and
the one that stood there is free; where the writer has begun on that place, it stays until its blocks are overwritten. -/
def State.settleKept (s : State) (sid : Nat) : State :=
  let pinned := s.capSegs
  (s.streamU sid).kept.foldl (fun (s : State) e =>
    let x := s.streamU sid
    let at_ := x.held.flatMap (fun b => b.cells_.map s.segOf)
    let others := x.kept.erase e
    if !at_.contains e.1 then s.setStream sid { x with kept := others }
    else if pinned.contains e.1 || at_.contains e.2 || !x.ring.contains e.2 then s
    else s.setStream sid { x with kept := others, ring := x.ring.map (fun g => if g = e.2 then e.1 else g) }) s

/-- CAPTURE_DONE of one SID (R264, R265). -/
def State.emitDone (s : State) (c : Nat) (k : Cap) : State :=
  s.emit 0x0365 0 [c, k.delivered, bit k.truncated, bit k.clipped]

/-- CAPTURE_DONE (R264): when the last block of every SID of a capture has been acknowledged, the device writes it for each SID and
frees the SIDs and segments. -/
def captureDone (s : State) (c : Nat) : State :=
  match (s.streamU c).cap with
  | none => s
  | some k =>
    let ended := k.group.all (fun g => match (s.streamU g).cap with
      | some q => q.whole && (s.streamU g).held.isEmpty && (s.streamU g).opn.isNone
      | none => true)
    if !ended then s.showStreams else
    (k.group.foldl (fun s g => match (s.streamU g).cap with
      | some q => ((s.emitDone g q).setStream g {}).settleKept q.source
      | none => s) s).showStreams

/-- A stream's SID and segments are free again. Its captures take no further value, and the segments in which they have still to read
stay theirs; one that has nothing to deliver is done (log entry 14, DEDUCED). -/
def State.freeStream (s : State) (sid : Nat) : State :=
  let ring := (s.streamU sid).ring ++ (s.streamU sid).kept.map (·.1)
  let readers := s.readersOf sid
  let s := readers.foldl (fun (s : State) c =>
    let s := s.finishCapture c
    let x := s.streamU c
    match x.cap with
    | some k =>
      let segs := x.owedCells.map s.segOf
      let mine := ring.filter (fun g => segs.contains g && !k.pins.contains g)
      s.setStream c { x with cap := some { k with pins := k.pins ++ mine, reserve := k.reserve.drop mine.length } }
    | none => s) s
  (readers.foldl (fun (s : State) c => captureDone s c) (s.setStream sid {})).showStreams

/-- A CLOSING stream that has nothing left to deliver is closed. -/
def State.closeIfDrained (s : State) (sid : Nat) : State :=
  let x := s.streamU sid
  if x.st = 2 ∧ x.drained then s.freeStream sid else s.showStreams

/-! ### Captures (R258 to R264) -/

/-- The first block of a capture that the sender has not asked for or sent, what is still to be sent of it, and its sequence number. -/
def Stream.unsent (x : Stream) : List Block × Nat :=
  let l := x.held ++ x.opn.toList
  match x.tx with
  | some t => if t.free then (l, x.send)
    else (l.filter (fun b => b.bseq != t.blk.bseq || x.opn == some b), (t.blk.bseq + t.blk.nseq) % 2 ^ 32)
  | none => (l, x.send)

/-- The TRUNCATED placeholder that stands for every value a capture has still to send (R261, R264), from time `t0` on. -/
def Stream.truncation (x : Stream) (k : Cap) (period : Nat) (service : Bool) (t0 : Time) : Block :=
  let period := ((x.unsent.1.head?).map (·.period)).getD period
  let n := if period = 0 then 1 else ((k.tEnd.toNat - t0.toNat) * 8192000 + period * 2 ^ 32 - 1) / (period * 2 ^ 32)
  let b := gapBlock 6 x.fmt 0 1 n period t0 (t0 + BitVec.ofNat 64 (periodTime ((n - 1) * period)))
  { b with flags := bGap + bLast, bseq := x.unsent.2, attr := 8 * bit service }

/-- A capture that ends early keeps what is being sent and delivers one TRUNCATED placeholder after it (R261). -/
def State.truncateCapture (s : State) (c : Nat) (t0 : Time) : State :=
  let x := s.streamU c
  match x.cap with
  | none => s
  | some k =>
    let b := x.truncation k (s.periodOf (s.streamU k.source)) (s.serviceIn t0 k.tEnd) t0
    let tx := match x.tx with | some t => if t.free then none else some t | none => none
    s.setStream c { x with opn := none, tx := tx, held := (tx.map (·.blk)).toList ++ [b], next := (b.bseq + 1) % 2 ^ 32,
                           gaps := (x.gaps + 1) % 2 ^ 32, cap := some { k with whole := true, truncated := true } }

/-- A capture whose next value has been overwritten ends with a TRUNCATED placeholder and CAPTURE_TRUNCATED (R261). -/
def State.cutCapture (s : State) (c : Nat) : State :=
  let x := s.streamU c
  match x.cap, x.unsent.1.head? with
  | some k, some b => if k.truncated then s else (s.truncateCapture c b.t0).emit 0x0364 0 [c, k.source, b.t0.toNat]
  | _, _ => s

/-- CAPTURE_TRUNCATED (R261): the writer of the source has overwritten values up to `t` that a capture without HOLD has not yet sent. -/
def captureTruncated (s : State) (c : Nat) (t : Time) : State :=
  let x := s.streamU c
  match x.cap, x.unsent.1.head? with
  | some k, some b =>
    let lost := match (s.streamU k.source).dropT with | some d => min d.toNat t.toNat | none => 0
    if !k.hold && b.t0.toNat ≤ lost then s.cutCapture c else s
  | _, _ => s

/-- One capture of a group is closed: truncated at its oldest block that has not gone out, else at the first value not yet taken, and done
(R264); with no value left its placeholder stands for none. -/
def State.closeOne (s : State) (g : Nat) : State :=
  match (s.streamU g).cap with
  | none => s
  | some q =>
    let t0 := (((s.streamU g).unsent.1.head?).map (·.t0)).getD (if q.whole then q.tEnd else q.nextT.getD q.tStart)
    let s := if q.truncated then s else s.truncateCapture g t0
    let x := s.streamU g
    ((s.emitDone g { q with truncated := true }).setStream g (if x.dest = 0 then {} else { x with st := 2, cap := none })).settleKept q.source

/-- STREAM_CLOSE of a capture's SID (R264): every stream of the capture ends with a TRUNCATED placeholder, CAPTURE_DONE is written and
the segments are free; a stream with a destination is CLOSING until the placeholder is acknowledged (log entry 14, DEDUCED). -/
def State.closeCapture (s : State) (c : Nat) : State :=
  match (s.streamU c).cap with
  | none => s
  | some k => (k.group.foldl (fun (s : State) g => s.closeOne g) s).showStreams

/-- A capture's data go on (R259): `src` is the cell and the place in it that a value comes from, and the device's own attributes of the
source's block are copied. -/
def State.captureValue (s : State) (c : Nat) (b : Block) (i code : Nat) : State :=
  let x := s.streamU c
  match x.cap with
  | none => s
  | some k =>
    let t := b.first + BitVec.ofNat 64 (periodTime (i * b.period))
    if k.whole then s
    else if k.tEnd.toNat ≤ t.toNat then s.finishCapture c
    else if t.toNat < k.tStart.toNat then s
    else
      let x := { x with cap := some { k with nextT := some (t + BitVec.ofNat 64 (periodTime b.period)) },
                        disc := x.disc || (i == 0 && bitAt b.flags 2) }
      s.setStream c (x.value b.fmt b.bits b.period b.attr code t s.time [(b.cells_.getD (1 + i / b.perCell) 0, i % b.perCell)])

/-- A placeholder of the source is copied into a capture whose span it meets (R259). -/
def State.captureGap (s : State) (c : Nat) (b : Block) : State :=
  let x := s.streamU c
  match x.cap with
  | none => s
  | some k =>
    if k.whole || decide (b.tEnd.toNat < k.tStart.toNat) then s
    else if k.tEnd.toNat ≤ b.t0.toNat then s.finishCapture c
    else s.setStream c ({ x with cap := some { k with nextT := some (b.tEnd + BitVec.ofNat 64 (periodTime b.period)) } }.append
      { b with nseq := 1, cells_ := [] })

/-- Copy one block of a source into a capture (R259): its values, attributes, placeholders and discontinuities. -/
def State.captureBlock (s : State) (c : Nat) (b : Block) : State :=
  let s := if b.isGap then s.captureGap c b else b.vals.zipIdx.foldl (fun (s : State) v => s.captureValue c b v.2 v.1) s
  if bitAt b.flags 3 then s.finishCapture c else s

/-! ### Writing into history (R240 to R245) -/

/-- AGE_MS_EXPIRY (R240): AGE_MS has passed since the first value of the block in progress was written. -/
def ageMsExpiry (s : State) (sid : Nat) : State :=
  let x := s.streamU sid
  match x.opn with
  | some b => if x.st = 0 || decide ((s.time - b.since).toNat < msTime x.ageMs) then s else (s.setStream sid (x.close false)).showStage
  | none => s

/-- Whether a block of stream `x` has not yet been acknowledged: its number is at or after the next to send (R244). -/
def Stream.unacked (x : Stream) (bseq : Nat) : Bool := x.dest != 0 && decide ((bseq + 2 ^ 32 - x.send) % 2 ^ 32 < 2 ^ 31)

/-- The block being sent is given up, with its request for cells. -/
def State.dropTx (s : State) (sid : Nat) : State :=
  let x := s.streamU sid
  let s := if x.dest = 2 then s.dropRequest (1024 + sid) x.dev else s
  s.setStream sid { x with tx := none }

/-- A block that its destination has not acknowledged is overwritten (R244): the OVERRUN placeholder that stands for the numbers so lost
grows by it. One that the sender has asked for or sent stays in its hands and completes as it was read (log entry 16, DEDUCED); an OVERRUN
placeholder that has not been sent takes the number in. The numbers that a HEADER placeholder in its hands stands for are told by it. -/
def State.lose (s : State) (sid : Nat) (b : Block) : State :=
  let x := s.streamU sid
  let more := fun (g : Gone) => { g with count := g.count + b.count, nseq := g.nseq + b.nseq, tEnd := b.tEnd }
  let new : Gone := { count := b.count, bseq := b.bseq, nseq := b.nseq, period := b.period, t0 := b.t0, tEnd := b.tEnd }
  let join := fun (x : Stream) => { x with gone := some (match x.gone with | some g => more g | none => new) }
  match x.tx with
  | none => s.setStream sid (join x)
  | some t =>
    if t.blk.isGap && t.blk.reason == 7 && t.phase != .sent && x.gone.isNone then
      let q := { t.blk with nseq := t.blk.nseq + b.nseq, count := t.blk.count + b.count, tEnd := b.tEnd }
      s.setStream sid { x with tx := some { t with blk := q, raw := q.header sid s.ownAddr :: q.data } }
    else if t.blk.nseq ≤ (b.bseq + 2 ^ 32 - t.blk.bseq) % 2 ^ 32 then s.setStream sid (join x)
    else if t.free then let s := s.dropTx sid; s.setStream sid (join (s.streamU sid))
    else s

/-- The writer overwrites the oldest block of a ring (R244). -/
def State.overwriteOldest (s : State) (sid : Nat) : State :=
  let x := s.streamU sid
  match x.held with
  | [] => s
  | b :: rest =>
    let s := s.setStream sid { x with held := rest, dropT := some b.tEnd }
    if !x.unacked b.bseq then s else
    let s := s.lose sid b
    let first := match (s.streamU sid).gone with | some g => g.bseq | none => b.bseq
    let s := s.setStream sid { s.streamU sid with lost := satInc 32 x.lost }
    let s := (s.count Reg.STR_OVR_CNT Fld.STR_OVR_CNT_BLOCKS).raise Reg.STR_STAT Fld.STR_STAT_OVERRUN_S
    s.emitLimited 0x0360 0 sid (secTime 1) false 0 (fun k => [sid, k + 1, first])

/-- Overwrite as many of the oldest blocks as a new one needs. -/
def State.makeRoom (s : State) (sid need : Nat) : Nat → State
  | 0 => s
  | fuel + 1 =>
    let x := s.streamU sid
    if x.heldCells + need ≤ x.segs * 32768 then s
    else (s.overwriteOldest sid).makeRoom sid need fuel

/-- The places of a ring that a block of `n` cells takes next. -/
def Stream.places (x : Stream) (n : Nat) : List Nat := (List.range n).map (fun i => (x.wpos + i) % (x.segs * 32768))

/-- Slot `slot` of a ring leaves it with the cells among `hits` that captures with HOLD have still to read (R260): its segment is pinned, and one
that a capture has reserved takes its place, or a free one where all are used up. -/
def State.detach (s : State) (sid slot : Nat) (hits : Nat → Bool) : State :=
  let x := s.streamU sid
  let old := x.ring.getD slot 0
  let reads := (s.readersOf sid).filter (fun c =>
    ((s.streamU c).cap.map (·.hold)).getD false && (s.streamU c).owedCells.any (fun a => hits a && s.segOf a == old))
  match reads with
  | [] => s
  | c :: _ =>
    let k := ((s.streamU c).cap.map (·.reserve)).getD []
    match k ++ s.takeSegs 1 with
    | [] => s
    | new :: _ =>
      let s := s.setStream sid { x with ring := x.ring.set slot new, kept := x.kept ++ [(old, new)] }
      let s := s.setStream c { s.streamU c with cap := (s.streamU c).cap.map (fun q => { q with reserve := q.reserve.drop 1 }) }
      reads.foldl (fun (s : State) r => s.setStream r { s.streamU r with cap := (s.streamU r).cap.map (fun q =>
        { q with pins := (q.pins ++ [old]).dedup }) }) s

/-- The cells of the ring that the next block of `n` cells takes. -/
def State.nextCells (s : State) (sid n : Nat) : List Nat :=
  ((s.streamU sid).places n).map (s.ringCell (s.streamU sid).ring)

/-- The way of the next block of `n` cells, with every segment detached that a capture with HOLD still reads there. -/
def State.clearWay (s : State) (sid n : Nat) : State :=
  let cells := s.nextCells sid n
  (((s.streamU sid).places n).map (· / 32768)).dedup.foldl (fun (s : State) slot => s.detach sid slot cells.contains) s

/-- Whether the next block of `n` cells would overwrite values of a capture with HOLD: no segment is left to detach theirs. The capture can
never be overwritten (R260), so the writer waits. -/
def State.wayHeld (s : State) (sid n : Nat) : Bool :=
  let cells := s.nextCells sid n
  (s.readersOf sid).any (fun c => ((s.streamU c).cap.map (·.hold)).getD false && (s.streamU c).owedCells.any cells.contains)

/-- The writer goes on from cell `pos` of a ring: the segment there, if it has left it, is detached where it holds values of a capture with HOLD
(R260). -/
def State.leaveSeg (s : State) (sid pos : Nat) : State :=
  if pos / 32768 = (s.streamU sid).wpos / 32768 && decide (pos < (s.streamU sid).wpos) then s
  else s.detach sid (pos / 32768) (fun _ => true)

/-- The segments that the writer has left, and of the one it is in the part still to be overwritten, as a capture with HOLD is admitted: those
that hold its values are detached (R260). -/
def State.leaveAll (s : State) (sid : Nat) : State :=
  let x := s.streamU sid
  (List.range x.segs).foldl (fun (s : State) slot =>
    s.detach sid slot (fun a => slot != x.wpos / 32768 || decide (x.wpos % 32768 ≤ a % 32768))) s

/-- Write the cells of a block (R237, R241, R243, R247): BLOCK_START on the header, GAP on every cell of a placeholder, the poison mark on
the cells that hold poisoned words. -/
def State.storeBlock (s : State) (port sid : Nat) (b : Block) : State :=
  let gap := 2 * bit b.isGap
  let cells := ({ b with pbmp := [] }.header sid s.ownAddr, 1 + gap, false) ::
    b.data.zipIdx.map (fun d => (d.1, gap, b.pbmp.contains d.2))
  (b.cells_.zip cells).foldl (fun (s : State) c => fullCellWrite s port c.1 c.2.1 c.2.2.1 c.2.2.2) s

/-- The oldest closed block of a stream goes into its ring with its BSEQ (R242 to R244), and on into the captures that read there
(R259); those that lose values so are truncated (R261), and the writer waits where a capture with HOLD has the way (R260). -/
def State.writeBlock (s : State) (sid : Nat) : State :=
  let x := s.streamU sid
  match x.closed with
  | [] => s
  | b :: rest =>
    if x.st = 0 || x.st = 3 || !s.dramAwake then s else
    let b := { b with bseq := x.next, attr := if s.serviceIn b.t0 b.tEnd then b.attr ||| 8 else b.attr }
    let s := s.clearWay sid b.total
    if s.wayHeld sid b.total then s else
    let s := s.makeRoom sid b.total x.held.length
    let x := s.streamU sid
    let b := { b with cells_ := s.nextCells sid b.total }
    let s := ((s.readersOf sid).filter (fun c => (s.streamU c).owedCells.any (fun a => b.cells_.contains a))).foldl
      (fun (s : State) c => s.cutCapture c) s
    let s := s.storeBlock (if x.srck = 3 then 1 else if x.srck = 4 then 2 else 0) sid b
    let s := s.setStream sid { x with closed := rest, held := x.held ++ [b], next := (x.next + b.nseq) % 2 ^ 32,
                                      wpos := (x.wpos + b.total) % (x.segs * 32768) }
    let s := (s.capturesOf sid).foldl (fun (s : State) c => captureDone (s.captureBlock c b) c) s
    ((s.leaveSeg sid x.wpos).settleKept sid).closeIfDrained sid

/-- BLOCK_WRITE (R14, R237 to R244): the writer moves a closed block from staging to DRAM. In VIGIL the cells of P-channel streams stay in
staging until a flush burst. -/
def blockWrite (s : State) (sid : Nat) : State :=
  if s.curMode = modeVigil && decide ((s.streamU sid).srck ≤ 2) then s
  else if (s.streamU sid).srck = 3 && !s.gateOpen 15 then s
  else s.writeBlock sid

/-- Write every closed block of a stream. -/
def State.writeAll (s : State) (sid : Nat) : Nat → State
  | 0 => s
  | fuel + 1 => if (s.streamU sid).closed.isEmpty then s else (s.writeBlock sid).writeAll sid fuel

/-- Every closed block in staging goes to DRAM (R14, R314). -/
def State.flushStaging (s : State) : State :=
  s.sids.foldl (fun s sid => s.writeAll sid (s.streamU sid).closed.length) s

/-- STAGING_FULL (R245): staging space has returned; one STAGING placeholder stands for the values discarded. It is the last block of a stream
that closes meanwhile. -/
def stagingFull (s : State) (sid : Nat) : State :=
  let x := s.streamU sid
  match x.skip with
  | none => s
  | some g =>
    if !s.stageRoom 1 then s else
    let s := s.setStream sid { x with skip := none }
    let b := gapBlock 8 (s.fmtOf x) x.node 1 g.count g.period g.t0 g.tEnd
    let b := if x.st = 2 then { b with flags := bGap + bLast } else b
    (s.streamGap sid b).emit 0x0361 0 [sid, g.count]

/-! ### STREAM_CLOSE -/

/-- STREAM_CLOSE (R236, R264). A stream with values still discarded for want of staging space ends with their placeholder; one without a
destination only reports them. A capture whose source closes ends with the values that exist (log entry 14, DEDUCED). -/
def streamClose (s : State) (src : CmdSrc) (tag sid : Nat) : State :=
  let x := s.streamU sid
  if sid ≥ 1024 then s.settle src opStreamClose tag { status := stInvalid, detail := 2 }
  else if !bitAt streamMask s.curMode then s.settle src opStreamClose tag (s.stateStatus streamMask)
  else if x.st = 3 then (s.closeCapture sid).settle src opStreamClose tag { status := stOk }
  else if x.st ≠ 1 then s.settle src opStreamClose tag { status := stInvalid }
  else
    let s := s.setStream sid { x.close x.skip.isNone with st := 2 }
    let s := if x.dest ≠ 0 then s.closeIfDrained sid else
      let s := match x.skip with | some g => s.emit 0x0361 0 [sid, g.count] | none => s
      let s := s.writeAll sid (s.streamU sid).closed.length
      if (s.streamU sid).st = 2 then s.freeStream sid else s
    s.settle src opStreamClose tag { status := stOk }

/-! ### CAPTURE -/

/-- The stored size of a capture's part in cells (R258): the cells that full 65-cell blocks would take for its values. -/
def State.storedCells (s : State) (x : Stream) (len : Nat) : Nat :=
  let period := s.periodOf x
  let n := if period = 0 then 0 else (len * 8192000 + period * 2 ^ 32 - 1) / (period * 2 ^ 32)
  let data := (n + s.perCellOf x - 1) / s.perCellOf x
  65 * ((data + 63) / 64)

/-- Capture SIDs that are free. -/
def State.freeCaptureSids (s : State) : List Nat :=
  ((List.range 64).map (· + 960)).filter (fun c => (s.streamU c).st == 0)

/-- How a capture over `len` units of fabric time is judged (R258, R260, R262): a status, and the place in the list of the first
source refused; `missing` says that a source named does not exist. -/
def State.captureStatus (s : State) (p : CaptureParams) (len : Nat) (missing : Bool) : Completion × Nat :=
  let xs := p.sources.map s.streamU
  let okSrc := fun (x : Stream) => x.st == 1 && decide (x.srck ≤ 3)
  let cells := xs.map (fun x => s.storedCells x len)
  let segs := (cells.map (fun c => (c + 32767) / 32768 + 1)).foldl (· + ·) 0
  let bad := ((xs.zipIdx.find? (fun q => !okSrc q.1)).map (·.2)).getD 0
  if p.sources.isEmpty && !missing || p.sources.length > 8 || p.dest ≥ 3 || p.dev ≥ 4096 || p.hr ≥ 32 || (p.dest == 1 && !hasHost s.fac.variant) then
    ({ status := stInvalid, detail := 2 }, 0)
  else if !bitAt streamMask s.curMode then (s.stateStatus streamMask, 0)
  else if missing || !xs.all okSrc then ({ status := stInvalid }, bad)
  else if 2 ^ 25 < cells.foldl (· + ·) 0 then ({ status := stInvalid }, 0)
  else if s.freeCaptureSids.length < p.sources.length then ({ status := stNoSpace }, 0)
  else if p.hold && (s.freeSegs < segs || s.fld Reg.STR_POOL Fld.STR_POOL_SIZE_MIB < 2 * (s.pinnedSegs + segs)) then
    ({ status := stNoSpace }, 0)
  else ({ status := stOk }, 0)

/-- Of the values at whole numbers of a grid the first at or after `t` (R258): `stampOf` gives their times, `num / den` seconds apart, and `low` the
first that is not yet written. -/
def gridFirst (stampOf : Nat → Time) (num den low : Nat) (t : Time) : Time :=
  let at0 := (stampOf low).toNat
  let n := low + ((t.toNat - at0) * den / (num * 2 ^ 32) - 1)
  let c := [n, n + 1, n + 2]
  stampOf ((c.find? (fun i => decide (t.toNat ≤ (stampOf i).toNat))).getD n)

/-- The time of the first value of a source at or after `t` that is not yet written to its ring (R87, R151, R258): one that waits in staging,
else by the output's grid as it is set now. The time of a W value while the converter sleeps depends on its start and is free (log entry
15, DESIGN CHOICE). -/
def State.firstComing (s : State) (x : Stream) (t : Time) : Nat × State :=
  let staged := ((x.closed ++ x.opn.toList).flatMap (fun b => if b.isGap then [b.t0] else
    (List.range b.vals.length).map (fun i => b.first + BitVec.ofNat 64 (periodTime (i * b.period))))).find? (fun u => decide (t.toNat ≤ u.toNat))
  let n := x.src
  match staged with
  | some u => (u.toNat, s)
  | none =>
    if x.srck = 3 then
      let w := s.wchU n
      let d := s.fld (Reg.WCH_CFG n) Fld.WCH_CFG_DECIM
      if !s.flag (Reg.WCH_STAT n) Fld.WCH_STAT_RUNNING then s.freeNat 64 else
      let ke := w.idx + (wSpan d - 1 - w.line.length)
      ((gridFirst (fun m => s.wStamp n (m * 2 ^ d)) (2 ^ d) 8192000 ((ke - wDelay d + 2 ^ d - 1) / 2 ^ d) t).toNat, s)
    else if x.srck = 2 then
      let low := match (s.pchU n).monDone with | some k => k / 8 + 1 | none => ((s.pchU n).monFrom + 22) / 8
      ((gridFirst (fun j => s.stamp n (8 * j : Nat) 256000) 8 256000 low t).toNat, s)
    else if x.srck = 1 then
      let rate := s.fld (Reg.PCH_SEIS_CFG n) Fld.PCH_SEIS_CFG_RATE
      let d := seisD rate
      let low := match (s.pchU n).seisDone with
        | some k => (k - seisDelay rate (s.fld (Reg.PCH_SEIS_CFG n) Fld.PCH_SEIS_CFG_PHASE)) / d + 1
        | none => s.seisFirst n (s.pchU n).seisFrom / d
      ((gridFirst (fun j => s.stamp n (d * j : Nat) 256000) d 256000 low t).toNat, s)
    else
      let w := match (s.pchU n).stat with | some w => w | none => (s.firstWindow n (s.baseIdx.toNat + (s.pchU n).discard + 1)).1
      let l := (s.staticLen n).1
      let first := s.stamp n (w.b0 + w.b1 : Nat) (2 * 4096000)
      (if t.toNat ≤ first.toNat then first.toNat
       else (gridFirst (fun j => s.stamp n (2 * w.b1 + (2 * j + 1) * l : Nat) (2 * 4096000)) l 4096000 0 t).toNat, s)

/-- Admit one source of a capture under the SID `c` (R258 to R260), with the values that its ring holds. -/
def State.admitOne (s : State) (p : CaptureParams) (tEnd : Time) (group : List Nat) (sid c : Nat) : State :=
  let x := s.streamU sid
  let cells := s.storedCells x (tEnd - p.tStart).toNat
  let clipped := match x.dropT with | some t => decide (p.tStart.toNat ≤ t.toNat) | none => false
  let k : Cap := { source := sid, tStart := p.tStart, tEnd := tEnd, hold := p.hold, clipped := clipped, group := group, cells := cells,
                   reserve := if p.hold then s.takeSegs ((cells + 32767) / 32768 + 1) else [] }
  let s := s.setStream c { st := 3, srck := x.srck, src := sid, ageMs := x.ageMs, cls := x.cls, dest := p.dest, dev := p.dev, hr := p.hr,
                           fmt := x.fmt, cap := some k }
  let s := x.held.foldl (fun s b => s.captureBlock c b) s
  if p.hold then s.leaveAll sid else s

/-- The time of the first value a capture has, if it exists yet. -/
def Stream.firstTime (x : Stream) : Option Time := ((x.held ++ x.opn.toList).head?).map (·.t0)

/-- Admit a capture whole (R258): each source receives its own SID, lowest first; the results are each source's first time (R396),
SID, source and CLIPPED. -/
def State.admitCapture (s : State) (p : CaptureParams) (tEnd : Time) : List (Option Time × List Int) × State :=
  let group := s.freeCaptureSids.take p.sources.length
  let pairs := p.sources.zip group
  let s := (pairs.foldl (fun s q => s.admitOne p tEnd group q.1 q.2) s).showStreams
  pairs.foldl (fun (a : List (Option Time × List Int) × State) q =>
    let x := a.2.streamU q.2
    let clip := bit ((x.cap.map (·.clipped)).getD false)
    match x.firstTime with
    | some t => (a.1 ++ [(some t, [(q.2 : Int), q.1, clip])], a.2)
    | none =>
      let f := a.2.firstComing (a.2.streamU q.1) p.tStart
      (a.1 ++ [(some (BitVec.ofNat 64 f.1), [(q.2 : Int), q.1, clip])], f.2)) ([], s)

/-- A capture that has no block to deliver when it is admitted has ended (R264). -/
def State.endWhole (s : State) (group : List Nat) : State := group.foldl (fun (s : State) c => captureDone s c) s

/-- CAPTURE (R258). -/
def capture (s : State) (src : CmdSrc) (tag : Nat) (p : CaptureParams) : State :=
  let len := p.durUs * 2 ^ 32 / 1000000
  let c := (s.captureStatus p len false).1
  if c.status ≠ stOk then s.settle src opCapture tag c else
  let group := s.freeCaptureSids.take p.sources.length
  let mask := (group.map (fun g => 2 ^ (g - 960))).foldl (· + ·) 0
  let r := s.admitCapture p (p.tStart + BitVec.ofNat 64 len)
  (r.2.settle src opCapture tag { status := stOk, result := [(mask : Int)], conts := r.1 }).endWhole group

/-- The captures of start unit `n` over [t, t + LEN) (R262), of every open stream of SRCK 3 of its channels: refused whole where a channel has
none or CAPTURE would be; the second result is CLIPPED (R169). -/
def State.startCapture (s : State) (n : Nat) (t tEnd : Time) : State × Bool :=
  let mask := s.fld (Reg.WCH_ST_CFG n) Fld.WCH_ST_CFG_CH_MASK
  let chans := (List.range 8).filter (fun w => bitAt mask w)
  let def_ := s.reg (Reg.STR_CAPDEF n)
  let srcs := chans.flatMap (fun w => s.streamsOf 3 w)
  let none_ := chans.find? (fun w => (s.streamsOf 3 w).isEmpty)
  let p : CaptureParams := { tStart := t, durUs := 0, sources := srcs, hold := getField Fld.STR_CAPDEF_HOLD def_ == 1,
                             dest := getField Fld.STR_CAPDEF_DEST def_, dev := getField Fld.STR_CAPDEF_DEV def_,
                             hr := getField Fld.STR_CAPDEF_HR def_ }
  let c := s.captureStatus p (tEnd - t).toNat none_.isSome
  if c.1.status ≠ stOk then
    let first := none_.getD ((s.streamU (srcs.getD c.2 0)).src)
    (s.emit 0x0363 0 [n, c.1.status, first], false)
  else
    let group := s.freeCaptureSids.take srcs.length
    let r := s.admitCapture p tEnd
    let late := r.1.any (fun l => match l with
      | (some f, c :: sid :: clip :: _) =>
        let x := s.streamU sid.toNat
        clip == 1 || (if (r.2.streamU c.toNat).firstTime.isSome || s.flag (Reg.WCH_STAT x.src) Fld.WCH_STAT_RUNNING then
          decide (t.toNat + periodTime (s.periodOf x) < f.toNat) else decide (t.toNat ≤ s.time.toNat))
      | _ => false)
    (r.2.endWhole group, late)

/-- START_DROPPED (R170): at most once per second, with the count. -/
def startDropped (s : State) (n : Nat) : State :=
  (s.count (Reg.WCH_ST_STAT n) Fld.WCH_ST_STAT_DROP_CNT).emitLimited 0x0231 (64 + n) n (secTime 1) false 0 (fun k => [n, k + 1])

/-- START_FIRED (R169): the oldest event offered to start unit `n` is taken up. -/
def startFired (s : State) (n : Nat) : State :=
  let u := s.startU n
  match u.offers with
  | [] => s
  | t :: rest =>
    let s := s.setStart n { u with offers := rest }
    if !hasWch s.fac.variant n || s.fld (Reg.WCH_ST_CFG n) Fld.WCH_ST_CFG_SRC == 0 || s.fld (Reg.WCH_ST_CFG n) Fld.WCH_ST_CFG_CH_MASK == 0
    then s
    else if s.flag (Reg.WCH_ST_STAT n) Fld.WCH_ST_STAT_BUSY && u.until_.all (fun e => decide (t.toNat < e.toNat)) then startDropped s n
    else
      let delay := (s.reg (Reg.WCH_ST_DELAY n)).toInt
      let ts := t + BitVec.ofInt 64 (roundDiv (delay * 2 ^ 32) 8192000)
      let tEnd := ts + BitVec.ofNat 64 ((s.fld (Reg.WCH_ST_LEN n) Fld.WCH_ST_LEN_LEN) * 2 ^ 32 / 8192000)
      let r := s.startCapture n ts tEnd
      let s := r.1.setStart n { r.1.startU n with until_ := some tEnd }
      let s := s.raise (Reg.WCH_ST_STAT n) Fld.WCH_ST_STAT_BUSY
      let s := if r.2 then s.raise (Reg.WCH_ST_STAT n) Fld.WCH_ST_STAT_CLIPPED_S else s
      (s.feedEvent (.start n) t).emitAt t 0x0230 (64 + n) [n, s.fld (Reg.WCH_ST_CFG n) Fld.WCH_ST_CFG_SRC, t.toNat, ts.toNat,
        s.fld (Reg.WCH_ST_CFG n) Fld.WCH_ST_CFG_CH_MASK, bit r.2]

/-- START_UNIT_IDLE (R170): t_s + LEN is reached. -/
def startUnitIdle (s : State) (n : Nat) : State :=
  if !hasWch s.fac.variant n || !s.flag (Reg.WCH_ST_STAT n) Fld.WCH_ST_STAT_BUSY ||
      (s.startU n).until_.any (fun e => decide (s.time.toNat < e.toNat)) then s
  else (s.setStart n { s.startU n with until_ := none }).clear (Reg.WCH_ST_STAT n) Fld.WCH_ST_STAT_BUSY

/-! ### The space of host rings (R249, R251) -/

/-- Host ring `r` beyond its registers. -/
def State.ringU (s : State) (r : Nat) : HostRing := Store.get (fun _ => {}) s.rings r
/-- The state with host ring `r` replaced. -/
def State.setRing (s : State) (r : Nat) (x : HostRing) : State := { s with rings := Store.set (fun _ => {}) s.rings r x }

/-- The cells a host ring holds: 2^(11 + SIZE). -/
def State.ringCells (s : State) (r : Nat) : Nat := 2 ^ (11 + s.fld (Reg.HR_CFG r) Fld.HR_CFG_SIZE)

/-- Cells of the ring that are free. -/
def State.ringFree (s : State) (r : Nat) : Nat := s.ringCells r - (s.ringU r).used

/-- The streams with a block ready for ring `r` of this device. -/
def State.readyFor (s : State) (r : Nat) : List (Nat × Stream × Tx) :=
  s.streams.filterMap (fun p => match p.2.tx with
    | some t => if p.2.dest = 1 && p.2.hr = r && t.phase = .ready then some (p.1, p.2, t) else none
    | none => none)

/-- The blocks that a ring's free space does not hold (R251): those ready here and those asked for from other devices, by origin, SID and BSEQ. -/
def State.unfit (s : State) (r : Nat) : List (Option Nat × Nat × Nat) :=
  if !s.flag (Reg.HR_CFG r) Fld.HR_CFG_EN then [] else
  ((s.readyFor r).filter (fun e => decide (s.ringFree r < e.2.2.raw.length))).map (fun e => (none, e.1, e.2.2.blk.bseq)) ++
    (((s.ringU r).reqs.filter (fun q => !q.granted && decide (s.ringFree r < q.cells))).map (fun q => (some q.origin, q.sid, q.bseq)))

/-- The blocks that wait for space in a ring are noted with the time since which they do. -/
def State.noteWaits (s : State) (r : Nat) : State :=
  let x := s.ringU r
  s.setRing r { x with waits := (s.unfit r).map (fun k => (k, ((x.waits.find? (fun w => w.1 == k)).map (·.2)).getD s.time)) }

/-! ### Sending (R246, R247, R252, R255) -/

/-- Whether a block carries data affected by a fault (R255): FFLT, POISON, a PBMP bit, or a placeholder whose reason is a fault. -/
def Block.affected (b : Block) : Bool :=
  bitAt b.attr 1 || bitAt b.attr 5 || !b.pbmp.isEmpty || (b.isGap && [2, 3, 4, 9].contains b.reason)

/-- Whether the record of a fault that affects data has not yet been acknowledged by the device that holds its queue (R255). -/
def State.faultUntold (s : State) : Bool := s.recs.any (·.hold) || s.host.unacked.any (fun p => p.2.hold)

/-- The 240 bits of a block's cells, header first, as the device writes them itself. -/
def Block.cellBits (b : Block) (sid dev : Nat) : List Nat := b.header sid dev :: b.data

/-- The port of the controller that reads a stream's blocks: host DMA for LOCAL, the fabric for REMOTE (R270). -/
def Stream.readPort (x : Stream) : Nat := if x.dest = 1 then 4 else 5

/-- The sender reads DRAM cells (R246, R247): the 240 bits of each as read and whether they are poisoned. `flips` are the stored bits that have
changed since, as a cell's address and a bit. -/
def State.readCells (s : State) (port : Nat) (flips : List (Nat × Nat)) (cells : List Nat) : List (Nat × Bool) × State :=
  cells.foldl (fun (a : List (Nat × Bool) × State) cell =>
    let r := a.2.portRead port cell ((flips.filter (fun f => f.1 == cell)).map (·.2))
    let bad := match r.1.2.1 with | .poisoned => true | .uncorrectable => true | _ => false
    (a.1 ++ [(r.1.1 % 2 ^ 240, bad)], r.2)) ([], s)

/-- The OVERRUN placeholder for the numbers that were overwritten (R244). -/
def Stream.overrun (x : Stream) (g : Gone) (fmt : Nat) (service : Bool) : Block :=
  { gapBlock 7 fmt x.node g.nseq g.count g.period g.t0 g.tEnd with bseq := g.bseq, attr := 8 * bit service }

/-- The HEADER placeholder for a block whose header cell is unreadable (R246); what its index entry does not hold is free: the time of
the last value and their number, and with the entry unreadable too the time of the first (log entry 17, DESIGN CHOICE). -/
def State.headerGap (s : State) (x : Stream) (b : Block) (nseq : Nat) : Block × State :=
  let a := s.freeNat 64
  let n := a.2.freeNat 32
  let t := n.2.freeNat 64
  let t0 := if b.idxPo then BitVec.ofNat 64 t.1 else b.t0
  ({ gapBlock 9 b.fmt x.node nseq n.1 b.period t0 (BitVec.ofNat 64 a.1) with bseq := b.bseq, attr := 8 * bit (s.serviceAt t0) },
   if b.idxPo then t.2 else n.2)

/-- What the sender puts into a block of a ring (R246, R247): the cells as read, the header with the PBMP bits of the data cells that
read back poisoned; a HEADER placeholder where the header does. The third is what the placeholder still needs: the block whose number ends
it, where the index entry is unreadable too. -/
def State.readBlock (s : State) (sid : Nat) (flips : List (Nat × Nat)) (b : Block) : (Block × List Nat × Bool) × State :=
  let x := s.streamU sid
  let h := s.readCells x.readPort flips (b.cells_.take 1)
  if h.1.any (·.2) then
    if b.idxPo then ((b, [], true), h.2)
    else let g := h.2.headerGap x b 1; ((g.1, g.1.cellBits sid s.ownAddr, false), g.2)
  else
    let d := h.2.readCells x.readPort flips (b.cells_.drop 1)
    let po := (d.1.zipIdx.filter (fun c => c.1.2)).map (·.2)
    let head := (h.1.map (·.1)).headD 0 ||| (po.map (fun i => 2 ^ (176 + i))).foldl (· + ·) 0
    (({ b with pbmp := po }, head :: d.1.map (·.1), false), d.2)

/-- The next readable block behind one whose header and index entry are both unreadable (R246), with the state after the reads. -/
def State.nextReadable (s : State) (port : Nat) (flips : List (Nat × Nat)) : List Block → Option Block × State
  | [] => (none, s)
  | b :: l =>
    if !b.idxPo then (some b, s) else
    let h := s.readCells port flips (b.cells_.take 1)
    if h.1.any (·.2) then h.2.nextReadable port flips l else (some b, h.2)

/-- The sender builds a block of a capture from the cells in which its source's values lie (R259). -/
def State.readCapture (s : State) (sid : Nat) (flips : List (Nat × Nat)) (b : Block) : (Block × List Nat) × State :=
  let cells := (b.srcs.map (·.1)).dedup
  let r := s.readCells (s.streamU sid).readPort flips cells
  let got := cells.zip r.1
  let at_ := fun (a : Nat) => ((got.find? (fun g => g.1 == a)).map (·.2)).getD (0, false)
  let vals := b.srcs.map (fun q => (at_ q.1).1 / 2 ^ (q.2 * b.bits) % 2 ^ b.bits)
  let po := ((b.srcs.zipIdx.filter (fun q => (at_ q.1.1).2)).map (fun q => q.2 / b.perCell)).dedup
  let b := if b.isGap then b else { b with vals := vals, pbmp := po }
  ((b, b.cellBits sid s.ownAddr), r.2)

/-- Whether a block of a stream can go out (R259): a capture keeps its newest block until another follows or its last value has been
taken, so that LAST lies on the last one (log entry 105, DEDUCED). -/
def Stream.mayGo (x : Stream) (b : Block) : Bool :=
  match x.cap with
  | some k => k.whole || x.opn.isSome || x.held.getLast? != some b
  | none => true

/-- The block that the sender takes next, with its cells, if there is one, and the state after (R244, R246, R259): an OVERRUN placeholder, the
block whose number is next, or the HEADER placeholder that stands for it and, where its index entry is unreadable too, for every number
up to the next readable block. -/
def State.readNext (s : State) (sid : Nat) (flips : List (Nat × Nat)) : Option (Block × List Nat) × State :=
  let x := s.streamU sid
  match x.gone with
  | some g =>
    let b := x.overrun g (s.fmtOf x) (s.serviceIn g.t0 g.tEnd)
    (some (b, b.cellBits sid s.ownAddr), s.setStream sid { x with gone := none })
  | none =>
    match x.held.find? (fun b => b.bseq == x.send && x.mayGo b) with
    | none => (none, s)
    | some b =>
      if 960 ≤ sid then let r := s.readCapture sid flips b; (some r.1, r.2) else
      let r := s.readBlock sid flips b
      if !r.1.2.2 then (some (r.1.1, r.1.2.1), r.2) else
      let behind := (x.held.dropWhile (fun c => c.bseq != b.bseq)).drop 1
      let n := r.2.nextReadable x.readPort flips behind
      match n.1 with
      | none => (none, n.2)
      | some c =>
        let g := n.2.headerGap x b ((c.bseq + 2 ^ 32 - b.bseq) % 2 ^ 32)
        (some (g.1, g.1.cellBits sid s.ownAddr), g.2)

/-- Ask the destination for the cells of the block that is ready, once no record of a fault in it is untold (R252, R255). -/
def State.askCells (s : State) (sid : Nat) : State :=
  let x := s.streamU sid
  match x.tx with
  | some t =>
    if x.dest ≠ 2 ∨ t.phase ≠ .ready || (t.blk.affected && s.faultUntold) then s else
    (s.setStream sid { x with tx := some { t with phase := .asked, since := s.time, bound := true } }).requestKeyed (1024 + sid) (.stream sid)
      { ptype := ptStreamReq, dst := x.dev, src := s.ownAddr, tspec := streamTs x.hr sid (t.raw.length - 2) t.blk.bseq }
  | none => s

/-- The number among the held blocks of the one that the sender takes next. -/
def State.nextHeld (s : State) (sid : Nat) : Option Nat :=
  let x := s.streamU sid
  x.held.findIdx? (fun b => b.bseq == x.send && x.mayGo b)

/-- The sender reads the index entry of the next block (R246), with a single error or a double one in it (R304, R305); the spec gives the
entry no address (log entry 19, DESIGN CHOICE). -/
def State.readIndex (s : State) (sid : Nat) (error : Option Bool) : State :=
  match error, s.nextHeld sid with
  | some ue, some i =>
    let a := s.freeNat 32
    let s := a.2.sramError 3 a.1 ue
    if ue then s.setStream sid { s.streamU sid with held := (s.streamU sid).held.modify i (fun b => { b with idxPo := true }) } else s
  | _, _ => s

/-- The stored bits that have changed since they were written, by cell: those of the next block's header cell among them. -/
def State.sendFlips (s : State) (sid : Nat) (head : List Nat) (data : List (Nat × Nat)) : List (Nat × Nat) :=
  match (s.nextHeld sid).bind (fun i => (s.streamU sid).held[i]?) with
  | some b => (b.cells_.take 1).flatMap (fun a => head.map (fun i => (a, i))) ++ data
  | none => data

/-- BLOCK_SEND (R246): the sender reads the next block of a stream from DRAM; `head` and `data` are the stored bits that have changed in its
header cell and in others by their cell, `index` an error in its index entry. A block with affected data waits for the record of the fault
(R255), those that the reads themselves write among them. -/
def blockSend (s : State) (sid : Nat) (head : List Nat) (index : Option Bool) (data : List (Nat × Nat)) : State :=
  let x := s.streamU sid
  if x.st = 0 || x.dest = 0 then s
  else if x.tx.isSome then s.askCells sid
  else if !s.dramAwake then s
  else
    let s := s.readIndex sid index
    let r := s.readNext sid (s.sendFlips sid head data)
    match r.1 with
    | none => r.2
    | some b =>
      let s := r.2.setStream sid { r.2.streamU sid with tx := some { phase := .ready, blk := b.1, raw := b.2, since := s.time } }
      if x.dest = 1 then s.noteWaits x.hr else s.askCells sid

/-- The request for a block's cells has been given up (R355): the block waits to be asked for again. -/
def State.askAgain (s : State) (sid : Nat) : State :=
  let x := s.streamU sid
  match x.tx with
  | some t => if t.phase = .asked then s.setStream sid { x with tx := some { t with phase := .ready } } else s
  | none => s

/-- A block is acknowledged (R236, R252, R260, R264): the send pointer advances; the segments that a capture has pinned return as it no longer
reads in them; one of a ring that still holds blocks takes its place there again. -/
def State.ackBlock (s : State) (sid bseq : Nat) : State :=
  let x := s.streamU sid
  match x.tx with
  | none => s
  | some t =>
    if t.blk.bseq ≠ bseq then s else
    let x := { x with tx := none, send := (bseq + t.blk.nseq) % 2 ^ 32 }
    let x := if sid ≥ 960 then { x with held := x.held.filter (fun b => b.bseq != bseq) } else x
    match x.cap with
    | some k =>
      let owed := x.owedCells.map s.segOf
      let k := { k with delivered := k.delivered + 1, acked := k.acked + t.blk.total, pins := k.pins.filter (fun g => owed.contains g) }
      captureDone ((s.setStream sid { x with cap := some k }).settleKept k.source) sid
    | none => (s.setStream sid x).closeIfDrained sid

/-! ### Host rings (R248 to R252) -/

/-- A cell as host memory holds it (R248). -/
def hostCell (bits : Nat) (start gap poison phase : Bool) : Nat :=
  bits % 2 ^ 240 + bit start * 2 ^ 240 + bit gap * 2 ^ 241 + bit poison * 2 ^ 246 + bit phase * 2 ^ 255

/-- Where cell `i` after ring index `at_` lies, and in which phase: PHASE toggles at each wrap (R249). -/
def ringPlace (cap at_ i : Nat) (phase : Bool) : Nat × Bool := ((at_ + i) % cap, phase != bitAt ((at_ + i) / cap) 0)

/-- Take `n` cells of the ring from HR_HEAD on. -/
def State.takeCells (s : State) (r n : Nat) : State :=
  let head := s.fld (Reg.HR_HEAD r) Fld.HR_HEAD_HEAD
  let q := ringPlace (s.ringCells r) head n (s.flag (Reg.HR_HEAD r) Fld.HR_HEAD_PHASE)
  let s := (s.setFld (Reg.HR_HEAD r) Fld.HR_HEAD_HEAD q.1).setFld (Reg.HR_HEAD r) Fld.HR_HEAD_PHASE (bit q.2)
  s.setRing r { s.ringU r with used := (s.ringU r).used + n }

/-- A block is complete in a ring (R249, R251, R387): counted, its vector notified, and STALL clears if it was the block that waited. `origin` is
none for a block of this device. -/
def State.blockComplete (s : State) (r : Nat) (origin : Option Nat) (sid bseq : Nat) : State :=
  let s := s.count (Reg.HR_BLOCKS r) Fld.HR_BLOCKS_BLOCKS
  let s := if (s.ringU r).stalled = some (origin, sid, bseq) then
      (s.clear (Reg.HR_STAT r) Fld.HR_STAT_STALL).setRing r { s.ringU r with stalled := none }
    else s
  s.notify (s.fld (Reg.HR_CFG r) Fld.HR_CFG_VEC) false

/-- The cells of a block as they lie in a host ring, in the order written: data cells first, the header last (R248, R249). -/
def hostForm (raw : List Nat) (b : Block) (cap at_ : Nat) (phase : Bool) : List (Nat × Nat) :=
  let data := (raw.drop 1).zipIdx.map (fun q =>
    let w := ringPlace cap at_ (q.2 + 1) phase
    (w.1, hostCell q.1 false b.isGap (b.pbmp.contains q.2) w.2))
  let w := ringPlace cap at_ 0 phase
  data ++ [(w.1, hostCell (raw.headD 0) true b.isGap false w.2)]

/-- Grant the requests for a ring in the order of their arrival, as far as its free space goes (R252). -/
def State.grantRing (s : State) (r : Nat) : Nat → State
  | 0 => s
  | fuel + 1 =>
    let x := s.ringU r
    match x.reqs.find? (fun q => !q.granted) with
    | none => s
    | some q =>
      if !s.flag (Reg.HR_CFG r) Fld.HR_CFG_EN || s.ringFree r < q.cells then s else
      let q' := { q with granted := true, at_ := s.fld (Reg.HR_HEAD r) Fld.HR_HEAD_HEAD,
                         phase := s.flag (Reg.HR_HEAD r) Fld.HR_HEAD_PHASE }
      let s := s.setRing r { x with reqs := x.reqs.map (fun e => if e = q then q' else e) }
      let s := (s.takeCells r q.cells).inject
        { ptype := ptStreamGrant, dst := q.origin, src := s.ownAddr, tspec := streamTs r q.sid (q.cells - 2) q.bseq }
      s.grantRing r fuel

/-- The reserved values of HR_CFG (R266): HOLD_T 0 and SIZE 15. -/
def hrCfgReject (v : Word) : Word :=
  rejectIf (getField Fld.HR_CFG_HOLD_T v == 0) Fld.HR_CFG_HOLD_T ||| rejectIf (getField Fld.HR_CFG_SIZE v == 15) Fld.HR_CFG_SIZE

/-- HR_CFG is written (R249, R266): while the ring is enabled, only EN and HOLD_T change; enabling resets HEAD, TAIL and PHASE. -/
def hrCfgWrite (s : State) (r : Nat) (v : Word) : State :=
  if r ≥ 32 then s else
  let was := s.flag (Reg.HR_CFG r) Fld.HR_CFG_EN
  let rest : Word := 0x070F000F
  let rej := hrCfgReject v
  let s := s.writeBits (Reg.HR_CFG r) 0x870FFFFF (rej ||| if was then rest else 0) v
  let s := if rej = 0 then s else s.raise (Reg.HR_STAT r) Fld.HR_STAT_CFG_REJ
  let s := if was && (v &&& rest) != (s.reg (Reg.HR_CFG r) &&& rest) then s.raise (Reg.HR_STAT r) Fld.HR_STAT_CFG_REJ else s
  if !was && s.flag (Reg.HR_CFG r) Fld.HR_CFG_EN then
    let s := (s.setReg (Reg.HR_HEAD r) 0x80000000).setReg (Reg.HR_TAIL r) 0
    let s := s.setRing r { s.ringU r with used := 0, reqs := (s.ringU r).reqs.map (fun q => { q with granted := false, got := [], hdr := none }) }
    (s.grantRing r (s.ringU r).reqs.length).noteWaits r
  else s.noteWaits r

/-- HR_CFG_ENABLE (R249). -/
def hrCfgEnable (s : State) (r : Nat) (v : Word) : State :=
  if hasHost s.fac.variant then hrCfgWrite s r v else s.writeAbsent r 32 (Reg.HR_CFG r)

/-- The cells of a ring from HR_TAIL on that have been written, up to the first block granted and not complete (R249). -/
def State.ringWritten (s : State) (r : Nat) : Nat :=
  let cap := s.ringCells r
  let tail := s.fld (Reg.HR_TAIL r) Fld.HR_TAIL_TAIL
  (((s.ringU r).reqs.filter (·.granted)).map (fun q => (q.at_ + cap - tail) % cap)).foldl min (s.ringU r).used

/-- The cells that a write of `v` to HR_TAIL frees (R249): all of a full ring where TAIL stays as it is. -/
def State.freedCells (s : State) (r v : Nat) : Nat :=
  let cap := s.ringCells r
  let tail := s.fld (Reg.HR_TAIL r) Fld.HR_TAIL_TAIL
  if v = tail then (if (s.ringU r).used = cap then cap else 0) else (v + cap - tail) % cap

/-- HR_TAIL_WRITE (R249): the host frees cells; a write that would free cells not yet written is ignored. -/
def hrTailWrite (s : State) (r v : Nat) : State :=
  if !hasHost s.fac.variant then s.writeAbsent r 32 (Reg.HR_TAIL r) else
  if r ≥ 32 then s else
  let n := s.freedCells r v
  if v ≥ s.ringCells r || s.ringWritten r < n then s.raise (Reg.HR_STAT r) Fld.HR_STAT_TAIL_ERR
  else
    let s := (s.setFld (Reg.HR_TAIL r) Fld.HR_TAIL_TAIL v).setRing r { s.ringU r with used := (s.ringU r).used - n }
    (s.grantRing r (s.ringU r).reqs.length).noteWaits r

/-- Of the blocks ready for a ring the one to write (R250): the lowest stream class, within it the oldest T0. -/
def nextReady (l : List (Nat × Stream × Tx)) : Option (Nat × Stream × Tx) :=
  l.foldl (fun best e => match best with
    | none => some e
    | some b => if e.2.1.cls < b.2.1.cls || (e.2.1.cls == b.2.1.cls && decide (e.2.2.blk.t0.toNat < b.2.2.blk.t0.toNat)) then some e else best) none

/-- The block whose turn it is in a ring of this device (R250), if the ring has room for all of it. A block that waits for the record of a fault is not
ready (R255). -/
def State.blockFor (s : State) (r : Nat) : Option (Nat × Stream × Tx) :=
  if r ≥ 32 || !s.hostUp || !s.flag (Reg.HR_CFG r) Fld.HR_CFG_EN || !s.gateOpen 8 then none else
  (nextReady ((s.readyFor r).filter (fun e => !(e.2.2.blk.affected && s.faultUntold)))).filter
    (fun e => decide (e.2.2.raw.length ≤ s.ringFree r))

/-- DMA writes the block whose turn it is in a ring (R249, R250). -/
def hostRingBlockWrite (s : State) (r : Nat) : State :=
  match s.blockFor r with
  | none => s
  | some (sid, _, t) =>
    let head := s.fld (Reg.HR_HEAD r) Fld.HR_HEAD_HEAD
    let cells := hostForm t.raw t.blk (s.ringCells r) head (s.flag (Reg.HR_HEAD r) Fld.HR_HEAD_PHASE)
    let s := (s.takeCells r t.raw.length).put (.hostCells r cells)
    (((s.blockComplete r none sid t.blk.bseq).ackBlock sid t.blk.bseq).noteWaits r).dmaDone

/-- The block that has waited longest for space in a ring (R251), and since when. One of this device that waited for the record of a fault has been
ready only since then (R255). -/
def State.ringWaits (s : State) (r : Nat) : Option ((Option Nat × Nat × Nat) × Time) :=
  let ready := s.readyFor r
  let since := (s.ringU r).waits.filterMap (fun w => match ready.find? (fun e => w.1 == (none, e.1, e.2.2.blk.bseq)) with
    | some e => if !e.2.2.blk.affected then some w
      else if s.faultUntold then none
      else some (w.1, if w.2.toNat < s.host.toldAt.toNat then s.host.toldAt else w.2)
    | none => some w)
  since.foldl (fun (best : Option ((Option Nat × Nat × Nat) × Time)) w => match best with
    | some b => if w.2.toNat < b.2.toNat then some w else best
    | none => some w) none

/-- HOST_RING_STALL (R251): a block has waited for space in the ring longer than HOLD_T. -/
def hostRingStall (s : State) (r : Nat) : State :=
  if r ≥ 32 || !hasHost s.fac.variant || !s.flag (Reg.HR_CFG r) Fld.HR_CFG_EN || s.flag (Reg.HR_STAT r) Fld.HR_STAT_STALL then s else
  match s.ringWaits r with
  | none => s
  | some (b, since) =>
    if (s.time - since).toNat ≤ msTime (s.fld (Reg.HR_CFG r) Fld.HR_CFG_HOLD_T) then s else
    let s := (s.setLive (Reg.HR_STAT r) Fld.HR_STAT_STALL Fld.HR_STAT_STALL_S true).setRing r { s.ringU r with stalled := some b }
    (s.raise Reg.STR_STAT Fld.STR_STAT_STALL_S).emit 0x0362 0 [r, b.2.1, s.ringFree r]

/-! ### Delivery across the fabric (R252) -/

/-- The last block completed in a ring for an origin and SID. -/
def HostRing.lastOf (x : HostRing) (origin sid : Nat) : Option RingDone := x.last.find? (fun e => e.origin == origin && e.sid == sid)

/-- Whether a block has been completed in a ring (R252, R253). -/
def HostRing.completed (x : HostRing) (pk : Packet) : Bool := ((x.lastOf pk.src pk.sid).map (·.bseq)) == some pk.bseq

/-- Whether a request for cells is a repeat for the block completed last (R253, R355), which a timeout sent before the grant came; otherwise
the SID is in use anew and its numbers begin at 0 (R235; log entry 123, DEDUCED). -/
def State.repeats (s : State) (x : HostRing) (pk : Packet) : Bool :=
  x.completed pk && match (x.lastOf pk.src pk.sid).bind (·.again) with
    | some t => decide (s.time.toNat < t.toNat)
    | none => false

/-- Until when a repeat of a completed block's request may come: it was sent before the grant reached the origin, which takes a request that has
waited TMO, and the block was not its stream's last. -/
def State.repeatUntil (s : State) (q : RingReq) (last : Bool) : Option Time :=
  if last || decide ((s.time - q.since).toNat < s.tmo) then none else some (s.time + BitVec.ofNat 64 (2 * s.tmo))

/-- Tell the origin that a block is complete. -/
def State.ackRemote (s : State) (r origin sid bseq : Nat) : State :=
  s.inject { ptype := ptStreamAck, dst := origin, src := s.ownAddr, tspec := streamTs r sid 0 bseq }

/-- STREAM_REQ_RX (R252, R355): granted in the order of arrival. A repeat of a granted request is granted again; one for a block that
is already complete is acknowledged. A request of another size for a block that waits takes its place, at the end (log entry 123, DEDUCED). -/
def streamReqRx (s : State) (pk : Packet) : State :=
  let r := pk.ring
  if !hasHost s.fac.variant then s else
  let x := s.ringU r
  let same := fun (q : RingReq) => q.origin == pk.src && q.sid == pk.sid && q.bseq == pk.bseq
  if s.repeats x pk then s.ackRemote r pk.src pk.sid pk.bseq
  else match x.reqs.find? (fun q => same q && q.cells == pk.cidx + 2) with
    | some q => if q.granted then
        s.inject { ptype := ptStreamGrant, dst := q.origin, src := s.ownAddr, tspec := streamTs r q.sid (q.cells - 2) q.bseq } else s
    | none =>
      let q : RingReq := { origin := pk.src, sid := pk.sid, bseq := pk.bseq, cells := pk.cidx + 2, since := s.time }
      let x := { x with reqs := x.reqs.filter (fun q => !same q) ++ [q], last := if x.completed pk then x.last.filter (fun e => !(e.origin == pk.src && e.sid == pk.sid)) else x.last }
      ((s.setRing r x).grantRing r x.reqs.length).noteWaits r

/-- Send the cells of the block being sent, at most 16 to a packet, the header first (R252, R353). -/
def State.sendCells (s : State) (sid : Nat) (x : Stream) (t : Tx) : State :=
  let cells := t.raw.zipIdx.map (fun q => (q.1, decide (0 < q.2) && t.blk.pbmp.contains (q.2 - 1)))
  (chunks 16 cells.length cells).zipIdx.foldl (fun s q =>
    s.inject { ptype := ptStreamData, dst := x.dev, src := s.ownAddr, tspec := streamTs x.hr sid (16 * q.2) t.blk.bseq,
               payload := q.1.map (·.1), poison := q.1.map (·.2) }) s

/-- STREAM_GRANT_RX (R252): the origin sends the block's cells. -/
def streamGrantRx (s : State) (pk : Packet) : State :=
  let x := s.streamU pk.sid
  match x.tx with
  | some t =>
    if t.phase = .asked && t.blk.bseq = pk.bseq && x.dev = pk.src && x.dest = 2 then
      let s := s.dropRequest (1024 + pk.sid) pk.src
      let s := s.setStream pk.sid { x with tx := some { t with phase := .sent, since := s.time } }
      s.sendCells pk.sid x t
    else s
  | none => s

/-- Cells that have come for a granted block are written into its reserved cells; the header waits until it is the last (R249, R252), and
takes the PBMP bits of the data cells that came poisoned (R247). -/
def State.putCells (s : State) (r : Nat) (q : RingReq) (first : Nat) (cells : List (Nat × Bool)) : State :=
  let cap := s.ringCells r
  let idx := cells.zipIdx.map (fun c => (first + c.2, c.1.1, c.1.2))
  let hdr := match idx.find? (fun c => c.1 == 0) with | some c => some c.2.1 | none => q.hdr
  let data := idx.filter (fun c => c.1 != 0)
  let got := (q.got ++ idx.map (·.1)).dedup
  let po := (q.po ++ (data.filter (fun (c : Nat × Nat × Bool) => c.2.2)).map (fun (c : Nat × Nat × Bool) => c.1 - 1)).dedup
  let isGap := (hdr.map (fun h => bitAt h 164)).getD false
  let out := data.map (fun c => let w := ringPlace cap q.at_ c.1 q.phase; (w.1, hostCell c.2.1 false isGap c.2.2 w.2))
  let whole := (List.range q.cells).all (fun i => got.contains i)
  let x := s.ringU r
  let s := if data.isEmpty then s else s.put (.hostCells r out)
  if !whole then s.setRing r { x with reqs := x.reqs.map (fun e => if e = q then { q with got := got, hdr := hdr, po := po } else e) }
  else
    let w := ringPlace cap q.at_ 0 q.phase
    let head := hdr.getD 0 ||| (po.map (fun i => 2 ^ (176 + i))).foldl (· + ·) 0
    let s := s.put (.hostCells r [(w.1, hostCell head true isGap false w.2)])
    let s := s.setRing r { x with reqs := x.reqs.filter (fun e => e != q),
                                  last := { origin := q.origin, sid := q.sid, bseq := q.bseq, again := s.repeatUntil q (bitAt head 167) } ::
                                    x.last.filter (fun e => !(e.origin == q.origin && e.sid == q.sid)) }
    ((s.blockComplete r (some q.origin) q.sid q.bseq).ackRemote r q.origin q.sid q.bseq).dmaDone

/-- STREAM_DATA_RX (R252): the cells of a block are written into the cells reserved for it; a block completed before is acknowledged
again. -/
def streamDataRx (s : State) (pk : Packet) : State :=
  let r := pk.ring
  if !s.hostUp then s else
  let x := s.ringU r
  match x.reqs.find? (fun q => q.origin == pk.src && q.sid == pk.sid && q.bseq == pk.bseq && q.granted) with
  | some q => s.putCells r q pk.cidx (pk.payload.zipIdx.map (fun c => (c.1, pk.poison.getD c.2 false)))
  | none => if x.completed pk then s.ackRemote r pk.src pk.sid pk.bseq else s

/-- STREAM_ACK_RX (R252): the origin's send pointer advances. -/
def streamAckRx (s : State) (pk : Packet) : State :=
  let x := s.streamU pk.sid
  if x.dest = 2 && x.dev = pk.src then
    (if x.tx.isSome then s.dropRequest (1024 + pk.sid) pk.src else s).ackBlock pk.sid pk.bseq
  else s

/-- Whether a block that has been sent is to be sent again (R252): after a reroute, or 1 ms after a loss of link that has left it unacknowledged. -/
def State.resendDue (s : State) (t : Tx) : Bool := t.phase == .sent && (t.rerouted || s.longSince t.linkLost (msTime 1))

/-- STREAM_RESEND (R252): a block that is not acknowledged is sent again with the same BSEQ. -/
def streamResend (s : State) (sid : Nat) : State :=
  let x := s.streamU sid
  match x.tx with
  | some t => if s.resendDue t && x.dest == 2 then
      (s.setStream sid { x with tx := some { t with since := s.time, rerouted := false, linkLost := none } }).sendCells sid x t else s
  | none => s

end Sys2Proof.Machine
end

