-- ==== Sys2Proof/Machine/Modes.lean ====
section
/-!
DEFINITION. Mode changes and their causes (R310 to R317, R338).
-/
namespace Sys2Proof.Machine

/-! ### Commands -/

/-- MODE_SET (R316): a target of BOOT, SAFE or a reserved code is INVALID. -/
def modeSet (s : State) (src : CmdSrc) (tag target : Nat) : State :=
  if target = 0 ∨ 4 < target then s.settle src opModeSet tag { status := stInvalid, detail := 2 }
  else s.requestMode src tag target false

/-- SAFE_EXIT (R317): it names VIGIL or SURVEY. -/
def safeExit (s : State) (src : CmdSrc) (tag target : Nat) : State :=
  if target ≠ 1 ∧ target ≠ 2 then s.settle src opSafeExit tag { status := stInvalid, detail := 2 }
  else s.requestMode src tag target true

/-! ### The change -/

/-- MODE_STAT.CMD_HELD (R312, R341). -/
def State.showHeld (s : State) : State :=
  s.setFld Reg.MODE_STAT Fld.MODE_STAT_CMD_HELD (bit (s.mode.bySet && s.flag Reg.MODE_POLICY Fld.MODE_POLICY_CMD_STICKY))

/-- The budget for the rest of the window is taken pro rata from the new mode's (R331). -/
def State.shiftBudget (s : State) (old new : Nat) : State :=
  let len : Int := s.windowLen
  let shift := (((s.budgetOf new : Int) - s.budgetOf old) * s.windowLeft).fdiv len
  { s with pacer := { s.pacer with budget := s.pacer.budget + shift, wholeMode := none } }

/-- The self-tests and the scrubber run again (R166, R193, R302): their enables are 0 only in SERVICE. -/
def State.restoreTests (s : State) : State :=
  ((s.raise Reg.CMP_STCFG Fld.CMP_STCFG_EN).raise Reg.ENG_CFG Fld.ENG_CFG_STEST_EN).raise Reg.ECC_CFG Fld.ECC_CFG_SCRUB_EN

/-- What leaving SERVICE resets (R26, R57, R64, R143, R166, R193, R302, R309, R406, R446). -/
def State.leaveService (s : State) : State :=
  let s := (List.range 64).foldl (fun (s : State) n => s.leaveServiceChannel n) s
  let s := s.leaveServiceCal.disarmInjection.restoreTests
  (s.clear Reg.SAF_FORCE Fld.SAF_FORCE_ALM).clear Reg.BOOT_CTRL Fld.BOOT_CTRL_FL_RELEASE

/-- SAFE is left (R432). -/
def State.leaveSafe (s : State) (target : Nat) : State :=
  let ms := msSince s.smon.safeEntry s.time
  ({ s with smon := { s.smon with inSafe := false } }.driveSafeN false).emit 0x0501 0 [target, ms]

/-- The W converters follow the mode (R152, R314). -/
def State.modeConverters (s : State) : State :=
  (List.range 8).foldl (fun (s : State) n => if s.wRequired n s.curMode then wConverterStart s n else wConverterStop s n) s

/-- FLUSH_BURST (R14, R322): in VIGIL a RUN burst moves the stream cells in staging to DRAM. -/
def flushBurst (s : State) : State := if s.curMode = modeVigil then s.runBurst.flushStaging else s

/-- PACER schedules the flush burst of R14 as staging nears its limit, and a RUN burst when none has fallen into the period of R303. -/
def State.flushIfDue (s : State) : State :=
  if s.flushDue then flushBurst s else if s.scrubDue && s.pstate == 2 then s.runBurst else s

/-- BASE_SAMPLE (R85) with what PACER schedules as staging fills (R14); links left idle get a control flit (R369). -/
def basePeriod (s : State) (raws : List RawSample) : State := (baseSample s raws).flushIfDue.keepTalking

/-- The clocks of the new mode run; on entry to VIGIL the staged blocks are flushed (R314, R429). -/
def State.modeClocks (s : State) (new : Nat) : State := if new = modeVigil then s.toRun.flushStaging else s.runBurst

/-- The entry actions of a mode (R269, R314, R344, R429): clocks, DRAM operating point, W converters, port rates, and on entry to VIGIL
the staging flush. -/
def State.entryActions (s : State) (new : Nat) : State :=
  ((s.modeClocks new).modeConverters.requestOp (s.pointOf new)).requestRates new

/-- What a mode change does to the mode machine's own state and to MODE_STAT and SAF_STAT at its instant (R314). -/
def State.beginMode (s : State) (old new : Nat) : State :=
  let s := { s with mode := { s.mode with phase := .acting, oldMode := old, instant := s.time, entryTime := s.time,
                                          bySet := s.mode.cmd.isSome,
                                          svc := if (old == modeService) != (new == modeService) then s.time :: s.mode.svc.take 15 else s.mode.svc } }
  let s := (s.setFld Reg.MODE_STAT Fld.MODE_STAT_PREV old).setFld Reg.MODE_STAT Fld.MODE_STAT_CUR new
  let s := (s.setFld Reg.MODE_STAT Fld.MODE_STAT_CAUSE s.mode.cause).setFld Reg.MODE_STAT Fld.MODE_STAT_TRIG s.mode.trig
  s.showHeld.setFld Reg.SAF_STAT Fld.SAF_STAT_IN_SAFE (bit (new == modeSafe))

/-- A burst begins: the time it began at (R335). -/
def State.beginBurst (s : State) (new : Nat) : State :=
  if new = modeBurst then { s with pacer := { s.pacer with burstStart := s.time, exhausted := false } } else s

/-- What leaving SERVICE or SAFE does (R316, R317). -/
def State.leaveModes (s : State) (old new : Nat) : State :=
  let s := if old = modeService ∧ new ≠ modeService then s.leaveService else s
  if old = modeSafe then s.leaveSafe new else s

/-- Entering and leaving SERVICE shows anew which channels are verified (R426). -/
def State.verifyModes (s : State) (old new : Nat) : State := if old = modeService ∨ new = modeService then s.verifyAll else s

/-- The mode becomes `new` (R314). -/
def State.changeMode (s : State) (old new : Nat) : State :=
  let s := ((s.shiftBudget old new).beginMode old new).beginBurst new
  ((s.leaveModes old new).entryActions new).verifyModes old new

/-- MODE_CHANGE_INSTANT (R314): the change takes effect at this base-rate sample boundary. -/
def modeChangeInstant (s : State) : State :=
  if s.mode.phase != .waiting || !s.atBoundary then s else s.changeMode s.curMode (s.fld Reg.MODE_STAT Fld.MODE_STAT_TARGET)

/-- The MODE_SET that a change has carried out completes (R316). -/
def State.modeSetDone (s : State) (cmd : Option (CmdSrc × Nat)) (new : Nat) : State :=
  match cmd with
  | some (src, tag) => s.settle src opModeSet tag { status := stOk, result := [(new : Int)] }
  | none => s

/-- The record and the count of a finished change (R314). -/
def State.modeRecord (s : State) : State :=
  let m := s.mode
  (s.emit 0x0010 0 [m.oldMode, s.curMode, m.cause, m.trig, m.instant.toNat, usSince m.instant s.time]).count Reg.MODE_CNT word32

/-- The state with the mode machine's own state replaced. -/
def State.setMode (s : State) (m : ModeUnit) : State := { s with mode := m }

/-- The last entry actions of a change to VIGIL (R279, R314, R322): where the conditions for DEEP hold, gates close, the DRAM enters self-refresh
and the F-PLL stops. -/
def State.closeVigil (s : State) : State := if s.deepOk && s.clk.deepRetry.isNone then selfRefreshEntry s.enterDeep else s

/-- MODE_CHANGE (R313, R314): the entry actions are complete. Either the second of two changes follows, or the MODE_SET behind it
completes and the causes that have waited are taken up. -/
def modeChange (s : State) : State :=
  if s.mode.phase != .acting then s else
  let m := s.mode
  let s := s.closeVigil
  match m.next with
  | some t => (s.modeRecord.setMode { m with phase := .waiting, next := none }).setFld Reg.MODE_STAT Fld.MODE_STAT_TARGET t
  | none => (((s.modeRecord.setMode { m with phase := .none, cmd := none }).clear Reg.MODE_STAT Fld.MODE_STAT_BUSY).modeSetDone m.cmd
      s.curMode).takeWaiting

/-! ### Automatic causes (R312, R338) -/

/-- Whether SURVEY_IDLE has passed since the later of the entry into SURVEY and the last WAKE trigger. -/
def State.idlePassed (s : State) : Bool :=
  let from_ := max s.mode.entryTime.toNat ((s.mode.lastWake.getD 0).toNat)
  decide (from_ + secTime (s.fld Reg.MODE_POLICY Fld.MODE_POLICY_SURVEY_IDLE) ≤ s.time.toNat)

/-- SURVEY goes back to VIGIL, outside the ON interval of the mode timer. -/
def State.idleToVigil (s : State) : State :=
  if s.curMode == modeSurvey && !s.changing && s.autoOk && !s.mode.timerOn then s.beginChange modeVigil 3 0 none else s

/-- Whether fabric time lies in an ON interval of the mode timer (R312): DUR s from every whole multiple of PER s. -/
def State.inTimerOn (s : State) : Bool :=
  let per := s.fld Reg.MODE_TMR Fld.MODE_TMR_PER
  per != 0 && decide (s.time.toNat % secTime per < secTime (s.fld Reg.MODE_TMR Fld.MODE_TMR_DUR))

/-- MODE_TIMER_ON (R312): the ON interval begins. -/
def modeTimerOn (s : State) : State :=
  if !s.inTimerOn || s.mode.timerOn then s else
  ({ s with mode := { s.mode with timerOn := true } }.timerWake).offerTrigger 4 0 s.time

/-- MODE_TIMER_ON_END (R312, R338): the ON interval has ended; a timer wake that waits at the gate or for a change no longer persists. -/
def modeTimerOnEnd (s : State) : State :=
  if s.inTimerOn || !s.mode.timerOn then s else
  let s := { s with mode := { s.mode with timerOn := false, waitTimer := false, gate := s.mode.gate.filter (fun g => g != GateCause.timer) } }
  if s.idlePassed then s.idleToVigil else s

/-- SURVEY_IDLE_EXPIRY (R312): the time has passed since the later of the entry and the last WAKE trigger. -/
def surveyIdleExpiry (s : State) : State := if s.idlePassed then s.idleToVigil else s

/-- Whether BURST_HOLD has passed since the later of the entry into BURST and the last BURST trigger (R312). -/
def State.holdPassed (s : State) : Bool :=
  let from_ := max s.mode.entryTime.toNat ((s.mode.lastBurst.getD 0).toNat)
  decide (from_ + secTime (s.fld Reg.MODE_POLICY Fld.MODE_POLICY_BURST_HOLD) ≤ s.time.toNat)

/-- BURST_HOLD_EXPIRY (R312). -/
def burstHoldExpiry (s : State) : State :=
  if s.curMode == modeBurst && !s.changing && s.autoOk && s.holdPassed then s.beginChange modeSurvey 3 0 none else s

/-- The cause at the wake gate that is taken up first, in the order of R313: BURST, WAKE, the mode timer. -/
def firstCause (l : List GateCause) : Option GateCause :=
  (l.find? (fun c => c.target == modeBurst)).orElse fun _ => (l.find? (fun c => c != .timer)).orElse fun _ => l.head?

/-- What has waited at the wake gate takes effect (R338). -/
def State.passGate (s : State) (c : GateCause) : State :=
  match c with
  | .wake t => s.beginChange modeSurvey 2 t none
  | .burst t => if s.burstRefusal ≠ 0 then s.burstDenied else s.beginChange modeBurst 2 t none
  | .timer => s.beginChange modeSurvey 3 0 none

/-- WAKE_GATE_PASS (R338): the gate passes while a cause persists, and the change takes place. -/
def wakeGatePass (s : State) : State :=
  if s.changing || !s.autoOk || s.curMode != modeVigil || !s.gatePasses then s else
  match firstCause (s.mode.gate.filter s.persists) with
  | none => s
  | some c => (s.setMode { s.mode with gate := s.mode.gate.filter (fun g => g != c) }).passGate c

/-- WAKE_CAUSE_DROPPED (R338): what waits and has stopped persisting is dropped. -/
def wakeCauseDropped (s : State) : State := { s with mode := { s.mode with gate := s.mode.gate.filter s.persists } }

end Sys2Proof.Machine
end

