-- ==== Sys2Proof/Machine/Alarms.lean ====
section
/-!
DEFINITION. SMON's commands (R424 to R435, R446): supply and reference monitors, causes that end, readback, alarm outputs and their
configuration, forced tests.
-/
namespace Sys2Proof.Machine

/-! ### Supply and reference monitors (R431) -/

/-- How long monitor `i` has stood as SAF_SUP shows it; `least` where nothing has changed it. -/
def State.supFor (s : State) (i least : Nat) : Nat :=
  match s.smon.supAt.find? (fun e => e.1 == i) with
  | some e => (s.time - e.2).toNat
  | none => least

/-- Monitor `i` is outside its window from now on, or inside it again. -/
def State.setSup (s : State) (i : Nat) (out : Bool) : State :=
  if 10 ≤ i ∨ s.regBit Reg.SAF_SUP i = out then s
  else { s.setBit Reg.SAF_SUP i out with smon := { s.smon with supAt := (i, s.time) :: s.smon.supAt.filter (fun e => e.1 != i) } }

/-- SAF_SUP_CHANGE: monitor `i` (0 to 8 the rails, 9 the reference) leaves its window or comes back to it. -/
def safSupChange (s : State) (i : Nat) (out : Bool) : State :=
  let s := s.setSup i out
  if i = 9 ∧ out then s.referenceOut else s

/-- Whether a monitor that SAF_SUP shows outside its window has not been there for the 100 µs of a trip. -/
def State.tooEarly (s : State) (i : Nat) : Bool := s.regBit Reg.SAF_SUP i && decide (s.supFor i (usTime 100) < usTime 100)

/-- SUPPLY_FAULT: a rail has been outside its window for 100 µs. -/
def supplyFault (s : State) (rail mv : Nat) : State :=
  if 9 ≤ rail ∨ s.inReset ∨ s.tooEarly rail then s else
  let s := (s.setSup rail true).raise Reg.SAF_STAT Fld.SAF_STAT_SUPPLY_S
  (s.emit 0x0505 0 [rail, mv]).raiseCause 2 431 rail

/-- REFERENCE_MONITOR_TRIP: the primary reference has been outside its window for 100 µs. -/
def referenceMonitorTrip (s : State) (mv : Nat) : State :=
  if s.inReset ∨ s.tooEarly 9 then s else
  let s := (s.setSup 9 true).referenceOut.raise Reg.SAF_STAT Fld.SAF_STAT_SUPPLY_S
  (s.emit 0x0505 0 [9, mv]).raiseCause 3 431 9

/-! ### Causes -/

/-- Whether the condition on which a cause with a clearing interval stays active has ended for that interval (R428): a source locked for
1 ms, every rail or the reference in its window for 10 ms, the restarted MC running, kicked in time, for 1 s. That a readback has
agreed is what CAUSE_CLEAR_TIMER itself reports. -/
def State.causeEnded (s : State) (c : Nat) : Bool :=
  match c with
  | 1 => s.flag Reg.CLK_STAT Fld.CLK_STAT_T_LOCK && !s.clk.mcdFired && s.clk.lockAt.any (fun t => decide (msTime 1 ≤ (s.time - t).toNat))
  | 2 => s.fld Reg.SAF_SUP Fld.SAF_SUP_RAIL == 0 && (List.range 9).all (fun i => decide (msTime 10 ≤ s.supFor i (msTime 10)))
  | 3 => !s.flag Reg.SAF_SUP Fld.SAF_SUP_REF && decide (msTime 10 ≤ s.supFor 9 (msTime 10))
  | 5 | 6 => s.bootu.mcRunning && !s.flag Reg.MC_WDOG Fld.MC_WDOG_HELD && decide (secTime 1 ≤ (s.time - s.bootu.mcFrom).toNat)
  | 11 => true
  | _ => false

/-- CAUSE_CLEAR_TIMER (R428): the interval of a cause has passed with its condition ended; for OUTPUT, the readback has agreed. -/
def causeClearTimer (s : State) (c : Nat) : State :=
  if !s.causeActive c || !s.causeEnded c then s
  else if c = 11 then { s.dropCause 11 with smon := { s.smon with badBall := none } }.showBalls
  else s.dropCause c

/-- Every alarm output asserted (R430). -/
def State.assertAll (s : State) : State := (List.range 4).foldl (fun (s : State) a => s.setAlarm a true 3 0xFF) s

/-- SMON_LOCKSTEP_MISMATCH (R430): the comparator pulls SAFE_N low and asserts every alarm output, and the SMON cause is active. -/
def smonLockstepMismatch (s : State) : State := ((s.driveSafeN true).assertAll).raiseCause 12 430 0

/-- What a ball is driven to: 0 to 3 ALMn, 4 SAFE_N; asserted is low. -/
def State.ballDriven (s : State) (ball : Nat) : Bool :=
  if ball < 4 then !s.flag (Reg.SAF_ALM_STAT ball) Fld.SAF_ALM_STAT_LEVEL else !s.smon.safeNLow

/-- OUTPUT_FAULT (R430): a ball has read back otherwise than driven for 10 µs; every other output is asserted. -/
def outputFault (s : State) (ball : Nat) (level : Bool) : State :=
  let driven := s.ballDriven ball
  if 5 ≤ ball ∨ level = driven then s else
  let s := { s with smon := { s.smon with badBall := some (ball, level) } }.showBalls
  let s := (s.raise Reg.SAF_STAT Fld.SAF_STAT_OUTPUT_S).emit 0x0506 0 [ball, bit driven, bit level]
  let s := s.raiseCause 11 430 ball
  (List.range 4).foldl (fun (s : State) a => if a = ball then s else s.setAlarm a true 3 0xFF) s

/-! ### Alarm outputs (R433) -/

/-- ALARM_EVALUATE: every output, from the end of BOOT on. -/
def alarmEvaluate (s : State) : State :=
  if s.smon.running then (List.range 4).foldl (fun (s : State) a => s.evaluateAlarm a) s else s

/-- The kernel code of STATS (R189). -/
def kernelStats : Nat := 13

/-- Whether a trigger's source has a clear of its own (R433): a window monitor, or a STATS node. -/
def State.hasClear (s : State) (t : Nat) : Bool :=
  s.triggers.any (fun tr => tr.num == t && (tr.source == 1 || tr.source == 0 && (s.nodeDef tr.index).any (fun d => d.kernel == kernelStats)))

/-- ALARM_HOLD_EXPIRY: HOLD ms after its latest raise, a trigger without a clear is released for this output. -/
def alarmHoldExpiry (s : State) (a t : Nat) : State :=
  let cfg := s.reg (Reg.SAF_ALM_CFG a)
  let named := t != 0xFF && (getField Fld.SAF_ALM_CFG_TRIG_A cfg == t || getField Fld.SAF_ALM_CFG_TRIG_B cfg == t)
  let early := !s.longSince (s.trigU t).latest (msTime (s.fld (Reg.SAF_ALM_HOLD a) Fld.SAF_ALM_HOLD_HOLD))
  if 4 ≤ a ∨ !s.smon.running ∨ !named ∨ s.hasClear t ∨ !(s.trigU t).raised ∨ early then s
  else (s.setTrig t { s.trigU t with expired := (s.trigU t).expired ||| 2 ^ a }).evaluateAlarm a

/-- SAF_ALM_ACK: a latched output is released while its source is inactive. -/
def safAlmAck (s : State) (n : Nat) : State :=
  if 4 ≤ n then s else
  let x := s.alarmU n
  let active := (s.alarmSource n).isSome || decide (s.time.toNat < x.until_.toNat)
  if active then s else
  let s := s.clear (Reg.SAF_ALM_STAT n) Fld.SAF_ALM_STAT_LATCHED
  if s.smon.running then s.evaluateAlarm n else s

/-! ### Configuration (R434, R435) -/

/-- Whether an alarm output may name trigger `t` (R434): none, or one whose source is a window monitor, a hit comparator or a class 1
node. -/
def trigAllowed (triggers : List Trigger) (g : List NodeDef) (t : Nat) : Bool :=
  t == 0xFF || triggers.any (fun tr => tr.num == t &&
    (tr.source == 1 || tr.source == 2 || tr.source == 0 && (g[tr.index]?).any (fun d => d.cls == 1)))

/-- The written bits of SAF_ALMn_CFG, CH0, CH1 and HOLD. -/
def almMasks : List Word := [0xFCFFFFFF, 0xFFFFFFFF, 0xFFFFFFFF, 0x0000FFFF]

/-- The register that index `i` of SAF_ALM_CFG_WRITE names. -/
def almReg (n i : Nat) : Nat := Reg.SAF_ALM_CFG n + 4 * i

/-- The alarm's configuration has changed: the safety channels and their verification follow (R425, R426). -/
def State.almChanged (s : State) : State := s.showSets.verifyAll

/-- Whether SAFE accepts a value for an alarm register (R435): cleared bits of the sets alone. -/
def almSafeOk (i : Nat) (old new : Word) : Bool :=
  if i = 0 then (old &&& ~~~0x00FF0000) == (new &&& ~~~0x00FF0000) && (new &&& ~~~old) == 0
  else if i = 3 then false
  else (new &&& ~~~old) == 0

/-- SAF_ALM_CFG_WRITE (R434, R435): `i` names CFG, CH0, CH1 or HOLD of output `n`. -/
def safAlmCfgWrite (s : State) (n i : Nat) (v : Word) : State :=
  if 4 ≤ n ∨ 4 ≤ i then s else
  let old := s.reg (almReg n i)
  let new := (old &&& ~~~(almMasks.getD i 0)) ||| (v &&& almMasks.getD i 0)
  let trigs := i != 0 || trigAllowed s.triggers s.eng.graph (getField Fld.SAF_ALM_CFG_TRIG_A new) &&
    trigAllowed s.triggers s.eng.graph (getField Fld.SAF_ALM_CFG_TRIG_B new)
  let ok := trigs && (s.inService || s.curMode == modeSafe && almSafeOk i old new)
  if ok then (s.setReg (almReg n i) new).almChanged else s.raise Reg.SAF_STAT Fld.SAF_STAT_CFG_REJ

/-! ### Forced tests (R446) -/

/-- SAF_FORCE_SAFE: in SERVICE, SAFE is entered with cause TEST. -/
def safForceSafe (s : State) : State :=
  if s.inService then s.raiseCause 14 446 0 else s.raise Reg.SAF_STAT Fld.SAF_STAT_CFG_REJ

/-- SAF_FORCE_ALM: in SERVICE, the selected outputs are forced asserted. -/
def safForceAlm (s : State) (v : Nat) : State :=
  if s.inService then s.setFld Reg.SAF_FORCE Fld.SAF_FORCE_ALM v else s.raise Reg.SAF_STAT Fld.SAF_STAT_CFG_REJ

end Sys2Proof.Machine
end

