-- ==== Sys2Proof/Machine/EventQ.lean ====
section
/-!
DEFINITION. Event queues and the delivery of records (R387, R393, R396 to R400, R479).
-/
namespace Sys2Proof.Machine

/-! ### Queues -/

/-- Event queue `q` beyond its registers. -/
def State.eqU (s : State) (q : Nat) : EvQueue := Store.get (fun _ => {}) s.queues q
/-- The state with event queue `q` replaced. -/
def State.setEq (s : State) (q : Nat) (x : EvQueue) : State := { s with queues := Store.set (fun _ => {}) s.queues q x }

/-- Whether queue `q` is enabled. -/
def State.eqOn (s : State) (q : Nat) : Bool := hasHost s.fac.variant && s.flag (Reg.EQ_CFG q) Fld.EQ_CFG_EN

/-- 2^SIZE, the records that queue `q` holds. -/
def State.eqSize (s : State) (q : Nat) : Nat := 2 ^ s.fld (Reg.EQ_CFG q) Fld.EQ_CFG_SIZE

/-- The queue for records of class `c` (R399): the one that HIF_EQ_ROUTE names, or the lowest-numbered enabled one. -/
def State.routeQueue (s : State) (c : Nat) : Option Nat :=
  let q := s.fld Reg.HIF_EQ_ROUTE Fld.HIF_EQ_ROUTE_QUEUE / 4 ^ c % 4
  if s.eqOn q then some q else (List.range 4).find? s.eqOn

/-- The slots of queue `q` that commands in flight have reserved (R393). -/
def State.eqReserved (s : State) (q : Nat) : Nat :=
  if s.routeQueue 6 = some q then (s.host.inflight.map (·.slots)).foldl (· + ·) 0 else 0

/-- The free slots of queue `q` that nothing has reserved. -/
def State.eqFree (s : State) (q : Nat) : Nat := s.eqSize q - (s.eqU q).written - s.eqReserved q

/-- A record is written at EQ_HEAD with the present phase and the next sequence number, and its vector is notified (R387, R397). -/
def State.putRecord (s : State) (q : Nat) (r : Rec) : State :=
  let head := s.fld (Reg.EQ_HEAD q) Fld.EQ_HEAD_HEAD
  let phase := s.flag (Reg.EQ_HEAD q) Fld.EQ_HEAD_PHASE
  let seq := (s.reg (Reg.EQ_SEQ q)).toNat
  let next := (head + 1) % s.eqSize q
  let s := s.put (.hostRecord q head phase seq r)
  let s := s.setFld (Reg.EQ_HEAD q) Fld.EQ_HEAD_HEAD next
  let s := if next = 0 then s.setFld (Reg.EQ_HEAD q) Fld.EQ_HEAD_PHASE (bit (!phase)) else s
  let s := s.setReg (Reg.EQ_SEQ q) (BitVec.ofNat 32 (seq + 1))
  let s := s.setEq q { s.eqU q with written := (s.eqU q).written + 1 }
  let imm := s.fld (Reg.EQ_CFG q) Fld.EQ_CFG_SEV_IMM
  s.notify (s.fld (Reg.EQ_CFG q) Fld.EQ_CFG_VEC) (decide (imm < 5) && decide (imm ≤ r.sev))

/-- The records of an origin that were coalesced before they left it, since its last ORIGIN record in queue `q` (R399). -/
def State.lostThere (s : State) (q : Nat) (r : Rec) : Nat := Store.get (fun _ => 0) (s.eqU q).owed r.origin + r.lost

/-- Whether an ORIGIN record must come before record `r` in queue `q` (R399). -/
def State.originNeeded (s : State) (q : Nat) (r : Rec) : Bool :=
  let x := s.eqU q
  x.originDue || x.prevOrigin.getD s.ownAddr != r.origin || s.lostThere q r != 0

/-- Write a record with the ORIGIN record it needs. -/
def State.putWithOrigin (s : State) (q : Nat) (r : Rec) : State :=
  let owed := Store.set (fun _ => 0) (s.eqU q).owed r.origin 0
  let s := if s.originNeeded q r then
      s.putRecord q { type := 0x0003, unit := 0, time := r.time, sev := 0, origin := r.origin,
                      fields := [(r.origin : Int), r.die, min (s.lostThere q r) (2 ^ 32 - 1)] }
    else s
  (s.putRecord q r).setEq q { (s.putRecord q r).eqU q with prevOrigin := some r.origin, originDue := false, owed := owed }

/-- A record of queue `q` is coalesced (R400): EQ_LOST and its class's count. What it was to tell of records lost at its origin, the next ORIGIN
record tells (R399). -/
def State.coalesce (s : State) (q : Nat) (r : Rec) : State :=
  let x := s.eqU q
  let c := classOf r.type
  let n := satInc 16 (Store.get (fun _ => 0) x.lost c)
  (s.setEq q { x with lost := Store.set (fun _ => 0) x.lost c n, lastLost := r.time,
                       owed := Store.set (fun _ => 0) x.owed r.origin (s.lostThere q r) }).count (Reg.EQ_LOST q) word32

/-- A record to a queue (R400): written, or where it would take the last free slot, EQ_OVERFLOW in its place, and coalesced from then
on. -/
def State.queueRecord (s : State) (q : Nat) (r : Rec) : State :=
  if s.flag (Reg.EQ_STAT q) Fld.EQ_STAT_OVERFLOW then s.coalesce q r
  else if s.eqFree q ≤ 1 + bit (s.originNeeded q r) then
    let s := if s.eqFree q = 0 then s else
      let t := s.putRecord q { type := 0x0001, unit := 0, time := r.time, sev := 2, origin := s.ownAddr, fields := [] }
      t.setEq q { t.eqU q with prevOrigin := some s.ownAddr }
    (s.setLive (Reg.EQ_STAT q) Fld.EQ_STAT_OVERFLOW Fld.EQ_STAT_OVF_S true).coalesce q r
  else s.putWithOrigin q r

/-- The queue leaves OVERFLOW once 2 unreserved slots are free (R400): EQ_RESUMED with the eight counts. -/
def State.checkResume (s : State) (q : Nat) : State :=
  if !s.flag (Reg.EQ_STAT q) Fld.EQ_STAT_OVERFLOW || decide (s.eqFree q < 2) then s else
  let x := s.eqU q
  let counts : List Int := (List.range 8).map (fun c => ((Store.get (fun _ => 0) x.lost c : Nat) : Int))
  let s := s.putRecord q { type := 0x0002, unit := 0, time := x.lastLost, sev := 2, origin := s.ownAddr, fields := counts }
  (s.setEq q { s.eqU q with lost := [], originDue := true }).clear (Reg.EQ_STAT q) Fld.EQ_STAT_OVERFLOW

/-- EQ_CFG_ENABLE (R397, R402): a write of EQ_CFG. -/
def eqCfgEnable (s : State) (q : Nat) (v : Word) : State :=
  if 4 ≤ q then s else
  if !hasHost s.fac.variant then s.writeAbsent q 4 (Reg.EQ_CFG q) else
  let was := s.eqOn q
  let size := getField Fld.EQ_CFG_SIZE v
  let bad := decide (size < 4) || decide (16 < size) || was && decide (size ≠ s.fld (Reg.EQ_CFG q) Fld.EQ_CFG_SIZE)
  let s := s.writeJudged (Reg.EQ_CFG q) 0xF00F001F (rejectIf bad Fld.EQ_CFG_SIZE) v (Reg.EQ_STAT q) Fld.EQ_STAT_CFG_REJ
  if was || getField Fld.EQ_CFG_EN v = 0 then s else
  let s := (s.setReg (Reg.EQ_HEAD q) 0x80000000).setReg (Reg.EQ_TAIL q) 0
  ((s.setReg (Reg.EQ_SEQ q) 0).clear (Reg.EQ_STAT q) Fld.EQ_STAT_OVERFLOW).setEq q {}

/-- EQ_TAIL_WRITE (R397): records are returned; one that would return records not yet written is ignored. -/
def eqTailWrite (s : State) (q v : Nat) : State :=
  if 4 ≤ q then s else
  if !hasHost s.fac.variant then s.writeAbsent q 4 (Reg.EQ_TAIL q) else
  let n := s.eqSize q
  let tail := s.fld (Reg.EQ_TAIL q) Fld.EQ_TAIL_TAIL
  let x := s.eqU q
  let d := (v + n - tail) % n
  let back := if d = 0 ∧ x.written = n then n else d
  if n ≤ v ∨ x.written < back then s.raise (Reg.EQ_STAT q) Fld.EQ_STAT_TAIL_ERR
  else ((s.setFld (Reg.EQ_TAIL q) Fld.EQ_TAIL_TAIL v).setEq q { x with written := x.written - back }).checkResume q

/-! ### Delivery (R399) -/

/-- Whether a record of class `c` can be written here now: the host can be reached and a queue is enabled. -/
def State.canWrite (s : State) (c : Nat) : Option Nat := if s.hostUp then s.routeQueue c else none

/-- The event home of a device that is not host-attached (R399): the device that HOSTIF names while it is reachable, else the clock
root. -/
def State.eventHome (s : State) : Option Nat :=
  let reach := fun (a : Nat) => a != 0 && (s.routePort s.epoch a).isSome
  let root := s.fld Reg.FAB_ROLES0 Fld.FAB_ROLES0_A
  if reach s.host.home then some s.host.home else if reach root then some root else none

/-- The records of this device that have been coalesced before they left it (R399). -/
def State.lostHere (s : State) : Nat := (s.classLost.map (·.2)).foldl (· + ·) 0

/-- The record as it leaves this device, its origin, with the count that goes with it. -/
def State.fromHere (s : State) (r : Rec) : Rec :=
  if r.remote then r else { r with origin := s.ownAddr, die := s.fac.dieId.toNat, lost := r.lost + s.lostHere }

/-- The record of a fault that affects data is in its queue (R255): blocks that waited for it are ready from now on. -/
def State.toldFault (s : State) (fault : Bool) : State := if fault then { s with host := { s.host with toldAt := s.time } } else s

/-- EVENT_RECORD_WRITE (R397, R399): the oldest record that waits is written to its queue, or sent to the event home; it waits on where
neither can be. -/
def eventRecordWrite (s : State) : State :=
  match s.recs with
  | [] => s
  | r :: rest =>
    let r' := s.fromHere r
    let taken : State := { s with recs := rest, classLost := if r.remote then s.classLost else [] }
    if s.host.pcieEver then
      match s.canWrite (classOf r.type) with
      | some q => (taken.queueRecord q r').toldFault r.hold
      | none => s
    else match s.eventHome with
      | some h => taken.sendEvent h r'
      | none => s

/-- Deliver up to `n` records. -/
def State.deliverRecs (s : State) : Nat → State
  | 0 => s
  | n + 1 => (eventRecordWrite s).deliverRecs n

/-- EVENT_DEFERRED_DELIVERY (R399): a device that can deliver again sends what has waited. -/
def eventDeferredDelivery (s : State) : State := s.deliverRecs s.recs.length

/-- Acknowledge an EVENT packet; a repeat is answered with the same (R355). -/
def State.ackEvent (s : State) (origin tag : Nat) : State :=
  s.answer origin (tag % 256) { ptype := ptEventAck, dst := origin, src := 0, tspec := tag % 256 }

/-- One record of a completion that the executing device sends (R394, R396): it is decided with its last record. -/
def completionPart (origin : Nat) (r : Rec) : List InFlight → List InFlight
  | [] => []
  | e :: l =>
    let tag : Int := e.tag
    if e.done.isSome || e.target != origin || r.fields.headD 0 != tag then e :: completionPart origin r l
    else
      let f := fun (i : Nat) => (r.fields.getD i 0).toNat
      let c : Option Completion := if r.type = 0x0600 then
          some { status := f 1, detail := f 2, result := r.fields.drop 4, time := r.time }
        else e.part.map (fun c => { c with conts := c.conts ++ [(some r.time, r.fields.drop 2)] })
      (if r.more then { e with part := c } else { e with part := none, done := c, origin := some (origin, r.die) }) :: l

/-- EVENT_PACKET_RX (R394, R399): a record from another device is written or coalesced here and acknowledged; a completion is taken into
the in-flight command it belongs to, and the report of a lost device ends what that device had accepted. A repeat is only acknowledged
again (R355); a home that cannot write does not acknowledge. -/
def eventPacketRx (s : State) (origin tag : Nat) (r : Rec) : State :=
  match s.keptAnswer origin (tag % 256) with
  | some a => s.inject a
  | none =>
  if r.type = 0x0600 ∨ r.type = 0x0601 then
    (s.setInflight (completionPart origin r s.host.inflight)).ackEvent origin tag
  else
    let s := if r.type = 0x0423 then s.loseTarget (r.fields.headD 0).toNat else s
    match (if s.host.pcieEver then s.canWrite (classOf r.type) else none) with
    | some q => (s.queueRecord q { r with remote := true, origin := origin }).ackEvent origin tag
    | none => s

/-- EVENT_ACK_RX (R255): the record has been written or coalesced at its home. -/
def eventAckRx (s : State) (origin tag : Nat) : State :=
  let fault := s.host.unacked.any (fun p => p.1 == tag && p.2.hold)
  let s := { s with host := { s.host with unacked := s.host.unacked.filter (fun p => p.1 != tag) } }
  (s.toldFault fault).dropRequest tag origin

/-- An EVENT packet stays unanswered: its record waits for delivery again (R399). A completion's record belongs to one ring and goes nowhere
else. -/
def State.eventBack (s : State) (tag : Nat) : State :=
  match s.host.unacked.find? (fun p => p.1 == tag) with
  | none => s
  | some p =>
    let s := { s with host := { s.host with unacked := s.host.unacked.filter (fun q => q.1 != tag) } }
    if p.2.isCompletion then s
    else if s.recs.length < 1024 then { s with recs := p.2 :: s.recs }
    else s.push p.2

/-- RATE_LIMIT_INTERVAL_END (R479): the interval has passed since the record last written, occurrences were suppressed and the condition is in a state other than the one last reported: one
further record is written, with the time of its last transition and the count of the others. -/
def rateLimitIntervalEnd (s : State) (type key : Nat) : State :=
  let k := s.rateKey type key
  match k.pend with
  | none => s
  | some r =>
    let wait := match (if k.pendB then k.lastB else k.lastA) with
      | none => false
      | some t => decide ((s.time - t).toNat < k.interval)
    if wait then s
    else if k.pendNow = k.reported then s.setRate type key { k with pend := none }
    else
      let k := { k with pend := none, reported := k.pendNow }
      let k := if k.pendB then { k with lastB := some s.time, suppB := 0 } else { k with lastA := some s.time, suppA := 0 }
      (s.setRate type key k).push r

end Sys2Proof.Machine
end

