-- ==== Sys2Proof/Machine/TimeOps.lean ====
section
/-!
DEFINITION. The fabric time service (R369 to R374, R463): delays and offsets, source samples and the loop that steers the rate, steps of
fabric time, SYNC_OUT.
-/
namespace Sys2Proof.Machine

/-- TIME_EXCHANGE (R348, R349, R368, R369): a control flit whose link section has arrived at local time `t4`: the times it tells, then
acknowledgments, credits and the advertisement. -/
def timeExchange (s : State) (p : Nat) (l : LinkSec) (t4 : Time) : State :=
  if !(p < 4 && hasFp s.fac.variant p && s.talks p) then s else
  (s.takeLink p l t4).servePort p portFuel

/-- A step of fabric time is announced (R374): at the least lead that the rule allows. -/
def State.announceStep (s : State) (step : Int) : State :=
  let t := s.time + BitVec.ofNat 64 s.snapLead
  let s := (s.put (.packet 0xFFF "TIME_STEP" [step, t.toNat])).broadcast ptTimeStep 1
  { s with fab := { s.fab with step := some (step, t) } }

/-- The loop of R373 takes an offset θ of the source, `dt` after the last sample: the new y_int and y. -/
def steer (y yInt theta dt : Rat) (tc : Nat) : Rat × Rat :=
  let tau : Rat := (2 ^ tc : Nat)
  let yInt := yInt + theta * dt / (4 * tau * tau)
  let want := yInt + theta / tau
  let lim := dt / 1000000
  let y := y + max (-lim) (min lim (want - y))
  (max (-(1 / 2000)) (min (1 / 2000) y), yInt)

/-- An offset θ of a source steers the rate (R373). -/
def State.steerBy (s : State) (theta : Int) : State :=
  let seconds : Int → Rat := fun n => (n : Rat) / 4294967296
  let loop := match s.fab.srcAt with
    | some t => steer s.fab.y s.fab.yInt (seconds theta) (seconds (s.time - t).toNat) (s.fld Reg.FAB_TIME_CFG Fld.FAB_TIME_CFG_TC)
    | none => (s.fab.y, s.fab.yInt)
  let s := { s with fab := { s.fab with y := loop.1, yInt := loop.2, srcAt := some s.time } }
  s.showFreq.setReg Reg.FAB_THETA (BitVec.ofInt 32 (satSigned 32 theta))

/-- A sample of the source (R372 to R374): θ steers the rate; three samples within 1 µs lock; the first lock, or an offset beyond STEP_TH
with STEP_EN, steps. -/
def State.sourceSample (s : State) (theta : Int) : State :=
  let last := (theta :: s.fab.srcLast).take 3
  let s := s.steerBy theta
  let s := { s with fab := { s.fab with srcLast := last } }
  let close := decide (last.length = 3) && last.all (fun a => last.all (fun b => decide ((a - b) * 1000000 ≤ 4294967296)))
  let locked := s.flag Reg.FAB_STAT Fld.FAB_STAT_TIME_LOCK
  let src := s.fld Reg.FAB_TIME_CFG Fld.FAB_TIME_CFG_SRC
  let s := if close && !locked then (s.raise Reg.FAB_STAT Fld.FAB_STAT_TIME_LOCK).emit 0x0440 0xFF [src, theta] else s
  let beyond := decide (msTime (s.fld Reg.FAB_TIME_CFG Fld.FAB_TIME_CFG_STEP_TH) < theta.natAbs)
  if s.fab.step.isSome then s
  else if close && !s.flag Reg.FAB_STAT Fld.FAB_STAT_TIME_VALID then s.announceStep theta
  else if s.flag Reg.FAB_STAT Fld.FAB_STAT_TIME_VALID && beyond && s.flag Reg.FAB_TIME_CFG Fld.FAB_TIME_CFG_STEP_EN then s.announceStep theta
  else s

/-- PTM_SAMPLE (R372): the host's master time in ns, at the root. The product is taken to the unit below. -/
def ptmSample (s : State) (ns : BitVec 64) : State :=
  if s.fld Reg.FAB_TIME_CFG Fld.FAB_TIME_CFG_SRC ≠ 1 || !s.flag Reg.FAB_STAT Fld.FAB_STAT_ROOT then s else
  let ofs := (s.reg Reg.FAB_TIME_OFS_LO).toNat + 2 ^ 32 * (s.reg Reg.FAB_TIME_OFS_HI).toNat
  let src := BitVec.ofNat 64 (ns.toNat * 2 ^ 32 / 1000000000 + ofs)
  (if hasHost s.fac.variant then s.raise Reg.HIF_STAT Fld.HIF_STAT_PTM_VALID else s).sourceSample (src - s.time).toInt

/-- PPS_IN_EDGE (R372): a rising edge at local time `t` marks the second of FAB_PPS_SEC, which then counts on. -/
def ppsInEdge (s : State) (t : Time) : State :=
  let sec := (s.reg Reg.FAB_PPS_SEC).toNat
  let s := s.setReg Reg.FAB_PPS_SEC (BitVec.ofNat 32 (sec + 1))
  if s.fld Reg.FAB_TIME_CFG Fld.FAB_TIME_CFG_SRC = 2 && s.flag Reg.FAB_STAT Fld.FAB_STAT_ROOT then
    s.sourceSample (BitVec.ofNat 64 (sec * 2 ^ 32) - t).toInt
  else s

/-- TIME_LOST (R372): no sample for 3 s; fabric time runs on uncorrected. -/
def timeLost (s : State) : State :=
  let src := s.fld Reg.FAB_TIME_CFG Fld.FAB_TIME_CFG_SRC
  if src = 0 || !s.flag Reg.FAB_STAT Fld.FAB_STAT_ROOT || !s.longSince s.fab.srcAt (secTime 3) then s else
  { (s.clear Reg.FAB_STAT Fld.FAB_STAT_TIME_LOCK).emit 0x0441 0xFF [src] with fab := { s.fab with srcLast := [], srcAt := none } }

/-- TIME_STEP (R374): a packet schedules a step. -/
def timeStep (s : State) (step : Int) (t : Time) : State := { s with fab := { s.fab with step := some (step, t) } }

/-- A step of fabric time restarts a W-channel's decimator and moves its native samples to the new instants (R88, R151). -/
def State.wStep (s : State) (n : Nat) (step : Int) : State :=
  let dn := roundDiv (step * 8192000) 4294967296
  (s.setWch n { s.wchU n with idx := ((s.wchU n).idx + dn).toNat, hist := [] }).wRestart n

/-- An index or a clock count that a step of fabric time moves by `d`. -/
def moved (d : Int) (n : Nat) : Nat := ((n : Int) + d).toNat

/-- A slot's places on the modulator clock follow a step of `dk` base samples. -/
def Slot.stepped (x : Slot) (dk : Int) : Slot :=
  { x with b0 := moved (16 * dk) x.b0, b1 := moved (16 * dk) x.b1, ovr := x.ovr.map (fun q => (moved dk q.1, q.2)) }

/-- A bank goes on through a step (R114): its slots, boundaries and system calibration keep their places in local time. -/
def Bank.stepped (b : Bank) (dk : Int) : Bank :=
  let c := moved (16 * dk)
  { b with cur := b.cur.map (·.stepped dk), ended := b.ended.map (·.stepped dk), nextB := c b.nextB, cycleB := c b.cycleB,
           meas := b.meas.map (fun m => { m with since := c m.since, ready := m.ready.map c }) }

/-- A channel as its bank checks it goes on through a step. -/
def ChkCh.stepped (x : ChkCh) (dk : Int) : ChkCh :=
  { x with firstB := moved (16 * dk) x.firstB, changeAt := x.changeAt.map (moved dk), applyAt := x.applyAt.map (fun q => (moved dk q.1, q.2)),
           recent := x.recent.map (fun q => (moved dk q.1, q.2)) }

/-- A P-channel's marks keep their base samples through a step (R62, R91, R108). -/
def Pch.stepped (u : Pch) (dk : Int) : Pch :=
  { u with faultFrom := u.faultFrom.map (moved dk), faultTo := u.faultTo.map (moved dk), window := u.window.map (·.map (moved dk)),
           mains := { u.mains with lastTc := moved (256 * dk) u.mains.lastTc } }

/-- Base samples are numbered anew after a step of `dk` of them (R85): what refers to one follows. -/
def State.renumber (s : State) (dk : Int) : State :=
  let s := { s with baseIdx := s.baseIdx + BitVec.ofInt 64 dk }
  let s := (List.range 8).foldl (fun (s : State) m => if hasBank s.fac.variant m then s.setBank m ((s.bankU m).stepped dk) else s) s
  (List.range 64).foldl (fun (s : State) n =>
    if hasPch s.fac.variant n then (s.setPch n ((s.pchU n).stepped dk)).setChk n ((s.chkU n).stepped dk) else s) s

/-- TIME_STEP_APPLY (R374, R88, R378): at its instant the step is added; the base index, counted from the fabric epoch (R85), follows it; every chain
restarts and every pending snapshot is cancelled; what elapsed time decides goes on. -/
def timeStepApply (s : State) : State :=
  match s.fab.step with
  | none => s
  | some (step, t) =>
    if s.time.toNat < t.toNat then s else
    let dk := roundDiv (step * 256000) 4294967296
    let s := s.keepElapsed (BitVec.ofInt 64 step)
    let s := { s with time := s.time + BitVec.ofInt 64 step, fab := { s.fab with step := none } }.renumber dk
    let s := { s with pins := { s.pins with pulsed := s.pins.pulsed.filter (fun n => decide (n ≤ s.time.toNat / 2 ^ 32)) } }.rearmTimers
    let s := (List.range 8).foldl (fun (s : State) n => if hasWch s.fac.variant n then s.wStep n step else s) s
    let s := (s.raise Reg.FAB_STAT Fld.FAB_STAT_TIME_VALID).emit 0x0442 0xFF [step, t.toNat]
    let s := s.restartAllChains 1
    let gone := s.snp
    gone.foldl (fun (s : State) p => s.missSnapshot p 2) { s with snp := [] }.showPending

/-- SYNC_OUT_SECOND (R463): within the AON cycle in which fabric time reaches a whole second, while TIME_VALID, SYNC_OUT rises, not again for
a second already pulsed; it falls 100 ms later. -/
def syncOutSecond (s : State) (rise : Bool) : State :=
  let sec := s.time.toNat / 2 ^ 32
  let into := s.time.toNat % 2 ^ 32
  let again := match s.pins.pulsed with | some n => decide (sec ≤ n) | none => false
  if !rise then
    if s.pins.syncOut && !(s.pins.pulsed == some sec && decide (into < msTime 100)) then
      { s.put (.syncPulse false) with pins := { s.pins with syncOut := false } }
    else s
  else if s.flag Reg.FAB_STAT Fld.FAB_STAT_TIME_VALID && !again && decide (into < 263) then
    { s.put (.syncPulse true) with pins := { s.pins with syncOut := true, pulsed := some sec } }
  else s

end Sys2Proof.Machine
end

