-- ==== Sys2Proof/Machine/Fabric.lean ====
section
/-!
DEFINITION. The formation and management of the fabric (R357 to R368): HELLO and the election, MGMT operations, discovery, reroutes,
the routing banks, the standby's takeover, joined fabrics.
-/
namespace Sys2Proof.Machine

/-! ### Election (R357) -/

/-- HELLO (R346, R351, R357, R369): the neighbour's identity and advertisement. -/
def hello (s : State) (p adv : Nat) (key : Key) (nport naddr : Nat) : State :=
  if !(p < 4 && hasFp s.fac.variant p && s.talks p) then s else
  let x := s.portU p
  let s := s.setPort p { x with nbr := some key, cleanFrom := x.cleanFrom.or (some s.time) }
  let s := s.setPair (Reg.FP_NBR_LO p) (Reg.FP_NBR_HI p) key.die
  let s := (s.setFld (Reg.FP_NBR_ADDR p) Fld.FP_NBR_ADDR_NPORT nport).setFld (Reg.FP_NBR_ADDR p) Fld.FP_NBR_ADDR_NADDR naddr
  s.takeAdv p adv

/-- Advertise the best key seen on every port (R357). -/
def State.advertise (s : State) : State :=
  let b := s.bestKey
  (List.range 4).foldl (fun (s : State) p => if hasFp s.fac.variant p then s.sendControl p "ELECT" [b.prio, bit b.host, b.die, s.fab.bestHops]
    else s) s.noteOwn

/-- ELECT (R357): a better key is taken and advertised; one from another formed fabric not before the fabrics join (R365; log entry 132, DEDUCED). -/
def elect (s : State) (p : Nat) (key : Key) (hops : Nat) : State :=
  if !(p < 4 && hasFp s.fac.variant p && s.talks p) then s else
  let s := s.setPort p { s.portU p with nbrBest := some key }
  if !key.beats s.bestKey || (s.foreign p && s.lstate p == lsHello) then s else
  { s with fab := { s.fab with best := some key, bestHops := hops + 1 } }.advertise

/-- Whether a neighbour belongs to a formed fabric that this device has not joined: it has an address, and this device none. -/
def State.newcomer (s : State) : Bool :=
  s.ownAddr == 0 && (List.range 4).any (fun p => hasFp s.fac.variant p && s.talks p &&
    s.fld (Reg.FP_NBR_ADDR p) Fld.FP_NBR_ADDR_NADDR != 0)

/-- This device as the topology holds it (R358). -/
def State.ownDev (s : State) : Dev :=
  let k := s.ownKey
  { addr := s.ownAddr, die := k.die, prio := k.prio, host := k.host, clk := s.clkSel, ready := s.fld Reg.CLK_READY Fld.CLK_READY_READY,
    nbrs := (List.range 4).filterMap (fun p => if s.lstate p == lsUp || s.lstate p == lsExcluded then
      (s.portU p).nbr.map (fun n => (p, n.die)) else none) }

/-- A topology with this device as it stands now. -/
def State.graph (s : State) (topo : List Dev) : List Dev := s.ownDev :: topo.filter (fun d => d.die != s.fac.dieId.toNat)

/-- Ask a device for INFO by a way of at most 16 hops (R353, R358); it is expected to answer (R355). -/
def State.askInfo (s : State) (die : Nat) (way : List Nat) : State :=
  if way.isEmpty || 16 < way.length then s else
  { s with fab := { s.fab with asked := die :: s.fab.asked.erase die } }.request .mgmt
    { ptype := ptMgmt, dst := 0, src := 0, tspec := mgmtTs 1 way }

/-- The manager asks every device that one it knows has for a neighbour and that has not been asked (R358). -/
def State.explore (s : State) : State :=
  let g := s.graph s.fab.topo
  let ends := g.flatMap (fun d => d.nbrs.map (fun l => (d.die, l.1, l.2)))
  ends.foldl (fun (s : State) e =>
    if g.any (fun d => d.die == e.2.2) || s.fab.asked.contains e.2.2 then s
    else s.askInfo e.2.2 (pathTo g s.fac.dieId.toNat e.1 ++ [e.2.1])) s

/-- ELECTION_WIN (R357, R358): the own key has been advertised as the best for 2 ms, and the manager begins to explore. A device never displaces a
manager it has, nor one that a fabric has which it joins (R364). -/
def electionWin (s : State) : State :=
  let since := s.fab.ownSince.bind (fun q => if q.1 = s.ownKey then some q.2 else none)
  if !s.bootu.mcRunning || !s.longSince since (msTime 2) || s.bestKey ≠ s.ownKey || s.flag Reg.FAB_STAT Fld.FAB_STAT_MANAGER || s.fab.mgrDie ≠ 0 ||
      s.newcomer then s else
  let s := { s with fab := { s.fab.unformed with best := some s.ownKey, bestHops := 0, mgrDie := s.fac.dieId.toNat } }
  ((s.raise Reg.FAB_STAT Fld.FAB_STAT_MANAGER).setFld Reg.FAB_STAT Fld.FAB_STAT_STATE 0).explore

/-! ### MGMT operations (R358) -/

/-- A MGMT packet is accepted from the manager's die ID; the standby's first one shows that it has taken over and is manager now (R364; log entry 133,
DEDUCED), but to the manager itself. Any other is discarded and counted (R358). A device whose MC is stopped answers no MGMT traffic (R420). -/
def State.fromManager (s : State) (die : Nat) (act : State → State) : State :=
  if !s.bootu.mcRunning then s
  else if die = s.managerDie then act s
  else if die = s.fab.stbyDie && die != 0 && !s.flag Reg.FAB_STAT Fld.FAB_STAT_MANAGER then
    act { s with fab := { s.fab with mgrDie := die, stbyDie := 0 } }
  else s.count Reg.FAB_DROP Fld.FAB_DROP_EPOCH

/-- The operations by their codes. -/
def opInfo : Nat := 1
def opSetAddr : Nat := 2
def opRtWrite : Nat := 3
def opRoles : Nat := 4
def opClkSel : Nat := 5
def opHeartbeat : Nat := 6
def opMirror : Nat := 7

/-- INFO (R355, R358): die ID, variant, present ports, host attachment and previous address go back to the manager. The answer is kept, by the die ID
that asked, since the manager may have no address yet; a repeat is answered from it. -/
def info (s : State) (die tag : Nat) : State :=
  s.fromManager die (fun s =>
    match s.keptAnswer (4096 + die) tag with
    | some pk => s.inject pk
    | none =>
      let s := s.put (.packet (s.fld Reg.FAB_ROLES1 Fld.FAB_ROLES1_A) "MGMT_RSP" [opInfo, tag, s.fac.dieId.toNat, (s.reg Reg.DEV_VARIANT).toNat,
        (s.reg Reg.DEV_UNIT_MASK1).toNat / 2 ^ 12, bit s.host.pcieEver, s.ownAddr])
      let f := s.freeNat 240
      f.2.answer (4096 + die) tag { ptype := ptMgmtRsp, dst := s.fld Reg.FAB_ROLES1 Fld.FAB_ROLES1_A, src := 0,
                                    tspec := tag % 256 + opInfo * 2 ^ 8, payload := [f.1], poison := [false] })

/-- SET_ADDR (R358). -/
def setAddr (s : State) (die addr : Nat) : State :=
  s.fromManager die (fun s => s.setFld Reg.FAB_ADDR Fld.FAB_ADDR_ADDR addr)

/-- The fields of a routing entry (R380). -/
def routeMask : Nat := 2 ^ 31 + 2 ^ 30 + 3 * 2 ^ 28 + 2 ^ 27 + 31 * 2 ^ 16

/-- Write routing entries into the shadow bank (R361, R362). -/
def State.writeShadow (s : State) (entries : List (Nat × Nat)) : State :=
  let put := fun (b : Store Nat) => entries.foldl (fun m e => Store.set (fun _ => 0) m (e.1 % 4096) (e.2 &&& routeMask)) b
  if s.epoch = 0 then { s with fab := { s.fab with bank1 := put s.fab.bank1 } } else { s with fab := { s.fab with bank0 := put s.fab.bank0 } }

/-- RT_WRITE (R358, R361). -/
def rtWrite (s : State) (die : Nat) (entries : List (Nat × Nat)) : State := s.fromManager die (fun s => s.writeShadow entries)

/-- The four roles, by address, as the registers and FAB_STAT show them (R357, R380). A device without a host link is never clock root or
its successor (R3). -/
def State.setRoles (s : State) (manager standby root successor : Nat) : State :=
  let s := (s.setFld Reg.FAB_ROLES0 Fld.FAB_ROLES0_A root).setFld Reg.FAB_ROLES0 Fld.FAB_ROLES0_B successor
  let s := (s.setFld Reg.FAB_ROLES1 Fld.FAB_ROLES1_A manager).setFld Reg.FAB_ROLES1 Fld.FAB_ROLES1_B standby
  let me := fun (a : Nat) => bit (a != 0 && a == s.ownAddr)
  let s := (s.setFld Reg.FAB_STAT Fld.FAB_STAT_MANAGER (me manager)).setFld Reg.FAB_STAT Fld.FAB_STAT_STANDBY (me standby)
  let can := bit (hasHost s.fac.variant)
  ((s.setFld Reg.FAB_STAT Fld.FAB_STAT_ROOT (can * me root)).setFld Reg.FAB_STAT Fld.FAB_STAT_SUCCESSOR (can * me successor)).showSource

/-- The roles, this device's depth and eccentricity, as ROLES gives them (R357, R358). -/
def State.takeRoles (s : State) (who : List Nat) (depth ecc : Nat) : State :=
  let s := s.setRoles (who.getD 0 0) (who.getD 1 0) (who.getD 2 0) (who.getD 3 0)
  let s := (s.setFld Reg.FAB_STAT Fld.FAB_STAT_DEPTH depth).setFld Reg.FAB_STAT Fld.FAB_STAT_ECC ecc
  s.setFld Reg.FAB_STAT Fld.FAB_STAT_STATE 1

/-- ROLES (R358). -/
def roles (s : State) (die manager standby root successor stbyDie rootDie depth ecc : Nat) : State :=
  s.fromManager die (fun s =>
    { s with fab := { s.fab with mgrDie := die, stbyDie := stbyDie, rootDie := rootDie } }.takeRoles [manager, standby, root, successor] depth ecc)

/-- CLK_SEL (R358, R363): as a write of CLK_SRC.SEL. -/
def clkSel (s : State) (die sel : Nat) : State := s.fromManager die (fun s => s.selectSource sel)

/-- HEARTBEAT (R364): at the standby. -/
def heartbeat (s : State) (die : Nat) : State :=
  s.fromManager die (fun s =>
    if s.flag Reg.FAB_STAT Fld.FAB_STAT_STANDBY then { s with fab := { s.fab with hbAt := some s.time } } else s)

/-- HEARTBEAT_SEND (R358, R364): from the manager to the standby, every 1 ms. -/
def heartbeatSend (s : State) : State :=
  let stby := s.fld Reg.FAB_ROLES1 Fld.FAB_ROLES1_B
  if s.bootu.mcRunning && s.flag Reg.FAB_STAT Fld.FAB_STAT_MANAGER && stby != 0 &&
      (s.fab.hbAt.isNone || s.longSince s.fab.hbAt (msTime 1)) then
    { s with fab := { s.fab with hbAt := some s.time } }.inject { ptype := ptMgmt, dst := stby, src := s.ownAddr, tspec := opHeartbeat * 2 ^ 8 }
  else s

/-- MIRROR (R358, R364): the standby takes the topology and addresses. -/
def mirror (s : State) (die : Nat) (topo : List Dev) : State :=
  s.fromManager die (fun s =>
    if s.flag Reg.FAB_STAT Fld.FAB_STAT_STANDBY then { s with fab := { s.fab with mirror := topo } } else s)

/-! ### The manager -/

/-- Whether this device is manager. -/
def State.isManager (s : State) : Bool := s.flag Reg.FAB_STAT Fld.FAB_STAT_MANAGER

/-- The manager sends an operation to a device (R358) with its values, by a source route where there is one, else by the tables. The values are in a
payload flit whose places the spec does not give (log entry 5, DESIGN CHOICE); of the operations INFO alone returns something, and no answer to the
others is waited for. -/
def State.sendMgmt (s : State) (d : Dev) (op : Nat) (name : String) (values : List Int) : State :=
  let f := (s.put (.packet d.addr name values)).freeNat 240
  f.2.inject { ptype := ptMgmt, dst := d.addr, src := 0, tspec := mgmtTs op (pathTo (s.graph s.fab.topo) s.fac.dieId.toNat d.die),
               payload := [f.1], poison := [false] }

/-- A clock parent is to be moved and can be: the device's source READY (R363). -/
def State.movable (s : State) (m : Nat × Nat) : Bool :=
  if m.1 = s.ownAddr then s.isReady m.2 else s.fab.topo.any (fun d => d.addr == m.1 && bitAt d.ready m.2)

/-- The manager moves the next device to its tree parent (R363): one at a time, in order of depth, leaving those whose parent is not READY. What a
device then runs from, INFO asks. -/
def State.nextMove (s : State) : State :=
  let busy := s.clk.switching.isSome || s.fab.reqs.any (fun r => r.client == Client.mgmt)
  if !s.isManager || busy then s else
  match s.fab.moves.find? s.movable with
  | none => s
  | some m =>
    let s := { s with fab := { s.fab with moves := s.fab.moves.erase m } }
    if m.1 = s.ownAddr then s.selectSource m.2
    else match s.fab.topo.find? (fun d => d.addr == m.1) with
      | none => s
      | some d => (s.sendMgmt d opClkSel "CLK_SEL" [m.2]).askInfo d.die (pathTo (s.graph s.fab.topo) s.fac.dieId.toNat d.die)

/-- MGMT_RSP_RX (R355, R358): an answer to INFO that the manager waits for tells it of a device; the exploration goes on. What the answer tells of the
device's links, clock source and READY candidates the firmware reads from it with INFO (log entry 13, DEDUCED). -/
def mgmtRspRx (s : State) (tag : Nat) (dev : Dev) : State :=
  match (if s.isManager then s.fab.reqs.find? (fun r => r.client == Client.mgmt && r.tag == tag && decide (0 < r.tries)) else none) with
  | none => s
  | some r =>
    let old := (devOf s.fab.topo dev.die).getD dev
    let topo := s.fab.topo.filter (fun d => d.die != dev.die) ++ [{ dev with depth := old.depth, parent := old.parent }]
    ({ s with fab := { s.fab with topo := topo } }.dropRequest r.tag r.dst).explore.nextMove

/-- CLK_SWITCH (R325), after which a manager that has moved its own clock parent goes on with its moves (R363). -/
def clkSwitched (s : State) : State := (clkSwitch s).nextMove

/-- What the fabric's manager holds on to (R358, R364): addresses, clock root, its successor and the standby. -/
def State.heldRoles (s : State) : Held :=
  let succ := s.fld Reg.FAB_ROLES0 Fld.FAB_ROLES0_B
  { given := s.fab.given, root := s.fab.rootDie, stby := s.fab.stbyDie,
    succ := ((s.fab.given.find? (fun q => q.2 == succ && succ != 0)).map (·.1)).getD 0 }

/-- What the manager's firmware computes of a topology (R358 to R361). -/
def State.plan (s : State) (topo : List Dev) : Option Plan := planOf (s.graph topo) s.fac.dieId.toNat s.heldRoles

/-- This device's place in a computed tree. -/
def Plan.own (q : Plan) (die : Nat) : Dev := (devOf q.tree.placed die).getD { addr := 0, die := die, depth := 31 }

/-- The manager's own table, and the clock parents to be moved (R361, R363). -/
def Plan.routing (q : Plan) (die : Nat) : Routing :=
  { tables := tableFor q.tree.placed (q.own die), moves := movesOf q.tree.placed }

/-- The links that lead to devices without an address are EXCLUDED, each told by FAB_LIMIT once (R359); of its own ports the manager sets the state. -/
def State.takeLimits (s : State) (limited : List (Nat × Nat × Nat)) : State :=
  let s := (List.range 4).foldl (fun (s : State) p =>
    if !hasFp s.fac.variant p then s
    else if limited.any (fun x => x.1 == s.ownAddr && x.2.1 == p) then if s.lstate p == lsUp then s.setLink p lsExcluded else s
    else if s.lstate p == lsExcluded then s.setLink p lsUp else s) s
  let new := limited.filter (fun x => !s.fab.limits.contains x)
  let tell := fun (s : State) (x : Nat × Nat × Nat) => (s.raise Reg.FAB_STAT Fld.FAB_STAT_LIMIT_S).emit 0x0424 0xFF [x.2.1, x.2.2]
  new.foldl tell { s with fab := { s.fab with limits := limited } }

/-- A device of the tree is given its address, where it is new, its table for the shadow bank, and the roles with its depth and eccentricity (R358). -/
def State.instruct (s : State) (q : Plan) (isNew : Dev → Bool) (d : Dev) : State :=
  let here := q.tree.placed
  let s := if isNew d then s.sendMgmt d opSetAddr "SET_ADDR" [d.addr] else s
  let s := s.sendMgmt d opRtWrite "RT_WRITE" ((tableFor here d).flatMap (fun e => [(e.1 : Int), e.2]))
  s.sendMgmt d opRoles "ROLES" ((q.who ++ [q.held.stby, q.held.root, d.depth, eccOf here d]).map (fun (n : Nat) => (n : Int)))

/-- The manager gives the standby the topology and addresses after each change (R358). -/
def State.sendMirror (s : State) : State :=
  match s.fab.topo.find? (fun d => d.die == s.fab.stbyDie && d.addr != 0 && d.die != s.fac.dieId.toNat) with
  | none => s
  | some d => s.sendMgmt d opMirror "MIRROR" (s.fab.topo.flatMap (fun d => [(d.addr : Int), d.die]))

/-- The manager takes what it has computed, and tells every device its part (R357 to R361): devices that have joined are written, and the tables go into
the shadow banks. -/
def State.takePlan (s : State) (g : List Dev) (q : Plan) : State :=
  let die := s.fac.dieId.toNat
  let here := q.tree.placed
  let known := (s.fab.topo.filter (fun d => d.addr != 0)).map Dev.die
  let isNew := fun (d : Dev) => !known.contains d.die && d.die != die
  let me := q.own die
  let rest := (g.filter (fun d => here.all (fun e => e.die != d.die))).map (fun d => { d with addr := 0 })
  let s := { s with fab := { s.fab with topo := here ++ rest, given := q.held.given, rootDie := q.held.root, stbyDie := q.held.stby,
                                        asked := (here.map Dev.die) } }
  let s := (s.setFld Reg.FAB_ADDR Fld.FAB_ADDR_ADDR me.addr).setFld Reg.FAB_SIZE Fld.FAB_SIZE_DEVICES here.length
  let s := (s.setFld Reg.FAB_SIZE Fld.FAB_SIZE_DIAMETER q.diameter).takeRoles q.who me.depth (eccOf here me)
  let s := (s.raise Reg.FAB_STAT Fld.FAB_STAT_MANAGER).takeLimits q.tree.limited
  let s := (here.filter isNew).foldl (fun (s : State) d => s.emit 0x0422 0xFF [d.addr, d.die]) s
  let s := (here.filter (fun d => d.die != die)).foldl (fun (s : State) d => s.instruct q isNew d) s
  s.sendMirror.writeShadow (q.routing die).tables

/-- TABLE_COMMIT goes out with the least lead of R362, and the own switch is scheduled. The packet has no payload and no type-specific field, so where it
carries T_c the spec does not say (log entry 5, DESIGN CHOICE). -/
def State.commitTables (s : State) : State :=
  let t := s.time + BitVec.ofNat 64 (usTime 20)
  let s := (s.put (.packet 0xFFF "TABLE_COMMIT" [t.toNat])).broadcast ptTableCommit 0
  { s with fab := { s.fab with switchAt := some t } }

/-- DISCOVERY_DONE (R357 to R361): the manager's firmware has computed the tree, the addresses, the roles and the tables over what the exploration has
found, sends them out, and writes FAB_ELECTED. The operands tell what it has computed: the devices of the tree, the links EXCLUDED with the cause of
each (device, port, 0 devices or 1 hops), the roles (manager, standby, root, successor) and the diameter; other values are not this command's
(log entry 13, DEDUCED). -/
def discoveryDone (s : State) (topo : List Dev) (limited : List (Nat × Nat × Nat)) (who : List Nat) (diameter : Nat) : State :=
  match (if s.isManager then s.plan s.fab.topo else none) with
  | none => s
  | some q =>
    if topo ≠ q.tree.placed ∨ limited ≠ q.tree.limited ∨ who ≠ q.who ∨ diameter ≠ q.diameter then s else
    let s := (s.takePlan (s.graph s.fab.topo) q).commitTables
    s.emit 0x0420 0xFF (who.map (fun (n : Nat) => (n : Int)))

/-- FAB_CHURN (R367): a change has followed another within 10 ms; the changes gathered since the last reroute. -/
def fabChurn (s : State) : State :=
  if !s.fab.churned || s.fab.churn = 0 then s else
  { (s.raise Reg.FAB_STAT Fld.FAB_STAT_CHURN_S).emit 0x0425 0xFF [s.fab.churn] with fab := { s.fab with churn := 0 } }

/-- Devices have been lost (R363, R394): their commands in flight end with REFUSED, LOST. -/
def State.loseDevices (s : State) (addrs : List Nat) : State :=
  addrs.foldl (fun (s : State) (a : Nat) =>
    let die := ((s.fab.topo.find? (fun d => d.addr == a)).map Dev.die).getD 0
    (s.emit 0x0423 0xFF [a, die]).loseTarget a) s

/-- The manager begins the reroute it has computed (R363). -/
def State.beginReroute (s : State) (g : List Dev) (q : Plan) (links : Nat) : State :=
  let moves := (q.routing s.fac.dieId.toNat).moves
  let lost := lostDevices s.fab.topo q.tree.placed
  let s := ((fabChurn s).loseDevices lost).takePlan g q
  let s := s.commitTables.setFld Reg.FAB_STAT Fld.FAB_STAT_STATE 2
  { s with fab := { s.fab with reroute := some (links, lost.length, moves), churn := 0, churned := false, reroutedAt := some s.time } }

/-- REROUTE (R363, R367): the manager's firmware has computed a new tree over the topology that reports have left, `topo`. A change that no link of its
own has shown counts as it comes; changes that have followed each other are gathered into one reroute that begins 10 ms after the previous one. The
other operands tell what it has computed: the addresses lost, the links changed, its own table and the moves; other values are not this command's
(log entry 13, DEDUCED). -/
def reroute (s : State) (topo : List Dev) (lost : List Nat) (links : Nat) (plan : Routing) : State :=
  match (if s.isManager then s.plan topo else none) with
  | none => s
  | some q =>
    if lost ≠ lostDevices s.fab.topo q.tree.placed ∨ links ≠ linkChanges s.fab.topo (s.graph topo) ∨ plan ≠ q.routing s.fac.dieId.toNat then s else
    let s := if s.fab.churn = 0 && !s.fab.churned then s.topologyChange else s
    if s.fab.churned && s.fab.reroutedAt.isSome && !s.longSince s.fab.reroutedAt (msTime 10) then s
    else s.beginReroute (s.graph topo) q links

/-- TABLE_COMMIT (R362): the switch of banks is scheduled. -/
def tableCommit (s : State) (t : Time) : State := { s with fab := { s.fab with switchAt := some t } }

/-- The port toward the clock root (R361; log entry 13, DEDUCED). -/
def State.showUplink (s : State) : State :=
  let up := s.routePort s.epoch (s.fld Reg.FAB_ROLES0 Fld.FAB_ROLES0_A)
  (List.range 4).foldl (fun (s : State) p =>
    if hasFp s.fac.variant p then s.setFld (Reg.FP_STAT p) Fld.FP_STAT_UPLINK (bit (up == some p)) else s) s

/-- Blocks sent and not acknowledged are sent again after a reroute (R252). -/
def State.resendAll (s : State) : State :=
  let again := fun (t : Tx) => if t.phase == .sent then { t with rerouted := true } else t
  { s with streams := Store.adjust (fun _ => {}) (fun x => if x.dest == 2 then { x with tx := x.tx.map again } else x) s.streams }

/-- TABLE_SWITCH (R252, R362, R363, R367): at T_c the shadow bank becomes active, stopped channels resume, blocks without acknowledgment are to be sent
again, and the manager's reroute is complete: the moves of clock parents follow. -/
def tableSwitch (s : State) : State :=
  if !s.longSince s.fab.switchAt 0 then s else
  let s := s.setFld Reg.FAB_STAT Fld.FAB_STAT_EPOCH (1 - s.epoch)
  let s := (vcResumed { s with fab := { s.fab with switchAt := none, retired := false, switched := some s.time } } 7).showUplink.resendAll
  match s.fab.reroute with
  | none => { s with fab := { s.fab with failAt := none } }
  | some (links, lost, moves) =>
    let us : Nat := usSince (s.fab.failAt.getD s.time) s.time
    let s := ((s.raise Reg.FAB_STAT Fld.FAB_STAT_REROUTE_S).count Reg.FAB_CNT Fld.FAB_CNT_REROUTES).setFld Reg.FAB_STAT Fld.FAB_STAT_STATE 1
    let s := s.emit 0x0421 0xFF [us, links, lost]
    { s with fab := { s.fab with reroute := none, failAt := none, moves := moves } }.nextMove

/-- BANK_RETIRE (R362): 200 µs after the switch. -/
def bankRetire (s : State) : State :=
  if s.longSince s.fab.switched (usTime 200) then { s with fab := { s.fab with retired := true } } else s

/-- The standby is manager and starts from the topology mirrored to it; the next device in key order follows it (R364). -/
def State.takeManager (s : State) : State :=
  let gone := s.fld Reg.FAB_ROLES1 Fld.FAB_ROLES1_A
  let next : Option Dev := (ranked s.fab.mirror).find? (fun d => d.addr != gone && d.addr != s.ownAddr && d.addr != 0)
  let given := (s.fab.mirror.filter (fun d => d.addr != 0)).map (fun d => (d.die, d.addr))
  let s := { s with fab := { s.fab with topo := s.fab.mirror, mirror := [], mgrDie := s.fac.dieId.toNat, hbAt := none, given := given,
                                        asked := s.fab.mirror.map Dev.die, stbyDie := (next.map Dev.die).getD 0 } }
  let s := (s.setFld Reg.FAB_ROLES1 Fld.FAB_ROLES1_A s.ownAddr).setFld Reg.FAB_ROLES1 Fld.FAB_ROLES1_B ((next.map Dev.addr).getD 0)
  ((s.raise Reg.FAB_STAT Fld.FAB_STAT_MANAGER).clear Reg.FAB_STAT Fld.FAB_STAT_STANDBY).setFld Reg.FAB_STAT Fld.FAB_STAT_STATE 2

/-- The new manager shows itself to every device of its topology by the roles (R357, R364). -/
def State.announceRoles (s : State) (gone : Nat) : State :=
  let here := s.fab.topo.filter (fun d => d.addr != 0)
  let who := [s.ownAddr, s.fld Reg.FAB_ROLES1 Fld.FAB_ROLES1_B, s.fld Reg.FAB_ROLES0 Fld.FAB_ROLES0_A, s.fld Reg.FAB_ROLES0 Fld.FAB_ROLES0_B]
  (here.filter (fun d => d.addr != gone && d.addr != s.ownAddr)).foldl (fun (s : State) d => s.sendMgmt d opRoles "ROLES"
    ((who ++ [s.fab.stbyDie, s.fab.rootDie, d.depth, eccOf here d]).map (fun (n : Nat) => (n : Int)))) s

/-- STANDBY_TAKEOVER (R364): three heartbeats are missed, or else the row tells that the manager's links have all been reported failed, which no link of
this device's own to the manager that is UP may belie (log entry 137, DEDUCED). -/
def standbyTakeover (s : State) : State :=
  let mine := s.upPorts.any (fun p => (s.portU p).nbr.any (fun k => k.die == s.managerDie))
  if !s.bootu.mcRunning || !s.flag Reg.FAB_STAT Fld.FAB_STAT_STANDBY || (!s.longSince s.fab.hbAt (msTime 3) && mine) then s
  else s.takeManager.announceRoles (s.fld Reg.FAB_ROLES1 Fld.FAB_ROLES1_A)

/-- REELECT (R358, R364): at the manager a full election and discovery start; addresses are given anew. -/
def reelect (s : State) : State :=
  if !s.isManager then s else
  let s := { s with fab := { s.fab.unformed with best := none, bestHops := 0, ownSince := none } }
  ((s.clear Reg.FAB_STAT Fld.FAB_STAT_MANAGER).setFld Reg.FAB_STAT Fld.FAB_STAT_STATE 0).advertise

/-- FABRIC_JOIN (R365): on a link to another formed fabric, once 10 ms have passed since the last change of the topology. Where the other manager
ranks higher this fabric joins: its root steps at once when its offset exceeds STEP_TH, and slews otherwise; its devices join as new ones. The link
then enters UP. -/
def fabricJoin (s : State) (p : Nat) (higher : Bool) (offset : Int) : State :=
  let ranks := (s.portU p).nbrBest.any (fun k => k.beats s.bestKey)
  if !s.helloDone p || !s.foreign p || higher != ranks || (s.fab.lastTopo.isSome && !s.longSince s.fab.lastTopo (msTime 10)) then s else
  if !higher then s.enterUp p else
  let root := s.flag Reg.FAB_STAT Fld.FAB_STAT_ROOT
  let s := if !root then s
    else if msTime (s.fld Reg.FAB_TIME_CFG Fld.FAB_TIME_CFG_STEP_TH) < offset.natAbs then s.announceStep offset else s.steerBy offset
  let s := (s.clear Reg.FAB_STAT Fld.FAB_STAT_MANAGER).clear Reg.FAB_STAT Fld.FAB_STAT_STANDBY
  let s := (s.clear Reg.FAB_STAT Fld.FAB_STAT_ROOT).clear Reg.FAB_STAT Fld.FAB_STAT_SUCCESSOR
  let s := { s with fab := { s.fab.unformed with best := (s.portU p).nbrBest, bestHops := 1, mirror := [] } }
  ((s.setFld Reg.FAB_STAT Fld.FAB_STAT_STATE 0).enterUp p).advertise

end Sys2Proof.Machine
end

