-- ==== Sys2Proof/Machine/HostLink.lean ====
section
/-!
DEFINITION. The host link (R360, R384 to R389): its state, BAR2, the command ring's doorbell.
-/
namespace Sys2Proof.Machine

/-! ### The link -/

/-- What host software writes into the configuration space has no command of the table: from the link's first L0 on it holds what the host has
configured, which is free within the limits of R382 (log entry 134, DESIGN CHOICE). -/
def State.configure (s : State) : State :=
  let a := s.freeNat 44
  let b := a.2.freeNat 36
  let c := b.2.freeNat 8
  let on := bitAt c.1
  { c.2 with host := { c.2.host with pci := { c.2.host.pci with
      bar0 := a.1 * 2 ^ 20, bar2 := b.1 * 2 ^ 28, payload := if on 0 then 256 else 128, readReq := 128 * 2 ^ (c.1 / 2 % 4 % 3),
      extTags := on 3, aspmL1 := on 4, msixOn := on 5, msixMask := on 6 } } }

/-- PCIE_L0 (R357, R360): the link reaches L0 for the first time since PERST_N rose, and the device is host-attached, which its key shows. What rate and width have
been negotiated is not the model's to know: 1 to 3 and 1 or 2, free. A link that RELOAD has kept is in L0 already, with what it has (log entry 131,
DEDUCED). -/
def pcieL0 (s : State) : State :=
  if !hasHost s.fac.variant || s.host.pcieEver || s.bootu.perstLow then s else
  if s.flag Reg.HIF_STAT Fld.HIF_STAT_LINK_UP then { s with host := { s.host with pcieEver := true } }.advertise else
  let f := s.freeNat 16
  let g := f.2.freeNat 16
  let s := { g.2 with host := { g.2.host with pcieEver := true } }.configure
  let s := s.setFld Reg.HIF_STAT Fld.HIF_STAT_SPEED (1 + f.1 % 3)
  ((s.setFld Reg.HIF_STAT Fld.HIF_STAT_WIDTH (1 + g.1 % 2)).raise Reg.HIF_STAT Fld.HIF_STAT_LINK_UP).advertise

/-- PCIE_LINK_DOWN (R360, R388): DMA, record writing and MSI-X stop; the device stays host-attached and keeps its roles. -/
def pcieLinkDown (s : State) : State :=
  if !hasHost s.fac.variant then s else
  ((s.clear Reg.HIF_STAT Fld.HIF_STAT_LINK_UP).clear Reg.HIF_STAT Fld.HIF_STAT_PTM_VALID).setReg Reg.HIF_DMA_BUSY 0

/-- PCIE_LINK_RETURN (R388). -/
def pcieLinkReturn (s : State) : State := if s.host.pcieEver then s.raise Reg.HIF_STAT Fld.HIF_STAT_LINK_UP else s

/-- D3HOT_ENTRY (R388): the function enters or leaves D3hot; WAKE_N is asserted while a DANGEROUS record waits there. -/
def d3hotEntry (s : State) (enter : Bool) : State :=
  if !hasHost s.fac.variant then s else
  let s := s.setFld Reg.HIF_STAT Fld.HIF_STAT_DSTATE (if enter then 3 else 0)
  { s with host := { s.host with d3hot := enter, wakeN := enter && s.recs.any (fun r => r.sev == 4) } }

/-! ### BAR2 (R8, R385) -/

/-- The 32 bytes of a cell as BAR2 shows them (R267): data, the attribute byte, zero. -/
def cellBytes (prot : Nat) : List Nat :=
  (List.range 30).map (fun i => prot / 2 ^ (8 * i) % 256) ++ [prot / 2 ^ 240 % 64, 0]

/-- The DRAM-space address of a BAR2 offset. -/
def State.winAddr (s : State) (x : Nat) : Nat := s.fld Reg.HIF_WIN_BASE Fld.HIF_WIN_BASE_BASE * 2 ^ 20 + x

/-- A cell as a BAR2 read finds it: its bytes and whether it is poisoned or uncorrectable. Beyond DRAM space zeros (R8). -/
def State.bar2Cell (s : State) (cell : Nat) : (List Nat × Bool) × State :=
  if dramCells s.fac.variant ≤ cell then ((List.replicate 32 0, false), s) else
  let r := s.portRead 4 cell []
  ((cellBytes r.1.1, r.1.2.1 == .poisoned || r.1.2.1 == .uncorrectable), r.2)

/-- Whether an access of BAR2 reaches the device: the link is up, the access has bytes and ends within the window's 256 MiB (R385). -/
def State.inBar2 (s : State) (addr size : Nat) : Bool := s.hostUp && size != 0 && decide (addr + size ≤ 2 ^ 28)

/-- BAR2_READ (R385): served through port 4; a poisoned or uncorrectable cell poisons the whole completion. -/
def bar2Read (s : State) (addr size : Nat) : State :=
  if !s.inBar2 addr size then s else
  let a := s.winAddr addr
  let first := a / 32
  let n := (a + size - 1) / 32 + 1 - first
  let step := fun (p : (List Nat × Bool) × State) (i : Nat) =>
    let r := p.2.bar2Cell (first + i)
    ((p.1.1 ++ r.1.1, p.1.2 || r.1.2), r.2)
  let r := (List.range n).foldl step (([], false), s)
  r.2.put (.bar2Data ((r.1.1.drop (a % 32)).take size) r.1.2)

/-- One byte of a write: its place in the cell's 240 bits, none for bytes 30 and 31. -/
def byteIn (a v : Nat) : Nat × Nat := if a % 32 < 30 then (v * 2 ^ (8 * (a % 32)), 3 * 2 ^ (2 * (a % 32))) else (0, 0)

/-- BAR2_WRITE (R8, R385): inside the host region, as full-cell writes or through the merge buffer; elsewhere ignored and counted. -/
def bar2Write (s : State) (addr : Nat) (data : List (BitVec 8)) : State :=
  let a := s.winAddr addr
  let n := data.length
  let lo := s.host.hostBase * 2 ^ 20
  if !s.inBar2 addr n then s
  else if 32 * dramCells s.fac.variant ≤ a then s.count Reg.DEV_ABSENT_WR word32
  else if a < lo ∨ lo + s.host.hostMib * 2 ^ 20 < a + n then
    (s.count Reg.HIF_WIN_DROP word32).raise Reg.HIF_STAT Fld.HIF_STAT_WIN_WR_S
  else
    let first := a / 32
    let bytes := data.zipIdx.map (fun p => (a + p.2, p.1.toNat))
    (List.range ((a + n - 1) / 32 + 1 - first)).foldl (fun (s : State) i =>
      let mine := (bytes.filter (fun p => p.1 / 32 == first + i)).map (fun p => byteIn p.1 p.2)
      let d : Nat := (mine.map (·.1)).foldl (· + ·) 0
      let m : Nat := (mine.map (·.2)).foldl (· + ·) 0
      if m = 0 then s else narrowWrite s 4 (first + i) d m) s

/-! ### The command ring (R389, R402) -/

/-- The descriptors that the command ring holds. -/
def State.cmdSize (s : State) : Nat := 2 ^ s.fld Reg.HIF_CMD_CFG Fld.HIF_CMD_CFG_SIZE

/-- CMD_RING_ENABLE (R389, R402): a write of HIF_CMD_CFG. -/
def cmdRingEnable (s : State) (v : Word) : State :=
  if !hasHost s.fac.variant then s.writeAbsent 0 1 Reg.HIF_CMD_CFG else
  let was := s.flag Reg.HIF_CMD_CFG Fld.HIF_CMD_CFG_EN
  let size := getField Fld.HIF_CMD_CFG_SIZE v
  let bad := decide (size < 4) || decide (12 < size) || was && decide (size ≠ s.fld Reg.HIF_CMD_CFG Fld.HIF_CMD_CFG_SIZE)
  let s := s.writeJudged Reg.HIF_CMD_CFG 0x8000000F (rejectIf bad Fld.HIF_CMD_CFG_SIZE) v Reg.HIF_CMD_STAT Fld.HIF_CMD_STAT_CFG_REJ
  if was || getField Fld.HIF_CMD_CFG_EN v = 0 then s
  else (s.setReg Reg.HIF_CMD_HEAD 0).setReg Reg.HIF_CMD_DB 0

/-- CMD_DOORBELL (R321, R389): a TAIL that would pass HEAD is ignored; in DEEP an accepted doorbell starts a RUN burst. -/
def cmdDoorbell (s : State) (tail : Nat) : State :=
  if !hasHost s.fac.variant then s.writeAbsent 0 1 Reg.HIF_CMD_DB else
  let s := s.reach 9
  let n := s.cmdSize
  let head := s.fld Reg.HIF_CMD_HEAD Fld.HIF_CMD_HEAD_HEAD
  let old := s.fld Reg.HIF_CMD_DB Fld.HIF_CMD_DB_TAIL
  let waiting := (old + n - head) % n
  let more := (tail + n - old) % n
  if n ≤ tail ∨ n ≤ waiting + more then s.raise Reg.HIF_CMD_STAT Fld.HIF_CMD_STAT_DB_ERR
  else
    let s := s.setFld Reg.HIF_CMD_DB Fld.HIF_CMD_DB_TAIL tail
    if s.pstate = 2 then (s.leaveDeep 0).count Reg.CLK_WAKE_ACC word32 else s

end Sys2Proof.Machine
end

