-- ==== Sys2Proof/Machine/Boot.lean ====
section
/-!
DEFINITION. Resets and the boot sequencer up to the structural validation of an image (R11, R403 to R410, R459, R467, R468), and the
management core's watchdog and load (R419, R420).
-/
namespace Sys2Proof.Machine

/-! ### Resets (R11) -/

/-- A COLD reset: every register, and everything else the device holds. What production has fused and what holds the device in reset
stay. -/
def State.coldReset (s : State) : State :=
  { fac := s.fac, pending := s.pending, fresh := s.fresh, out := s.out, pins := { jtagSafe := s.pins.jtagSafe },
    bootu := { coldHeld := s.bootu.coldHeld, perstLow := s.bootu.perstLow, jtagHold := s.bootu.jtagHold } }

/-- The records sent and not acknowledged wait again, before those that wait (R399). -/
def State.recallRecs (s : State) : List Rec := ((s.host.unacked.map (·.2)).filter (fun r => !r.isCompletion) ++ s.recs).take 1024

/-- Fabric time is set to `t` outside a step of R374; what elapsed time decides goes on. -/
def State.retime (s : State) (t : Time) : State :=
  { s.keepElapsed (t - s.time) with time := t, timeRem := 0 }.rearmTimers

/-- A WARM reset (R11): every register but those of the AON domain. The event records waiting for delivery with their counts, the error
log with the entries copied from it (R308), the remap table with its spare cells and the DRAM's contents are kept (R293, R298, R399, R417); fabric time, which FAB_TIME_LO
and FAB_TIME_HI show, is reset with the rest (log entry 24, DEDUCED). SAF_SUP shows its monitors as they stand. RELOAD and RETRY keep the PCIe link, the configuration space and the BARs (R388), and end host attachment as any WARM reset does (R360; log entry 131,
DEDUCED). -/
def State.warmReset (s : State) (keepLink : Bool) : State :=
  let aon := s.regs.filter (fun e => (descAt e.1).any (fun d => d.1.aon))
  let link := if keepLink then s.reg Reg.HIF_STAT &&& maskAll [Fld.HIF_STAT_SPEED, Fld.HIF_STAT_WIDTH, Fld.HIF_STAT_DSTATE, Fld.HIF_STAT_LINK_UP]
    else 0
  let host : HostUnit := if keepLink then { d3hot := s.host.d3hot, wakeN := s.host.wakeN, pci := s.host.pci } else {}
  let boot : BootUnit := { coldHeld := s.bootu.coldHeld, perstLow := s.bootu.perstLow, jtagHold := s.bootu.jtagHold,
                           restarts := s.bootu.restarts.map (· - s.time), tested := s.bootu.tested }
  let t : State := { fac := s.fac, pending := s.pending, fresh := s.fresh, out := s.out, regs := aon, cycles := s.cycles, recs := s.recallRecs, classLost := s.classLost, rate := s.rate,
                     latch := (s.latch.filter (fun p => p.1.1 == Reg.ECC_LOG_CTRL)).map (fun p => (p.1, 0 :: p.2.drop 1)),
                     cells := s.cells, ecc := { log := s.ecc.log, remap := s.ecc.remap }, pins := { jtagSafe := s.pins.jtagSafe },
                     clk := { mcdFired := s.clk.mcdFired }, host := host, bootu := boot }
  let since := s.smon.supAt.map (fun (e : Nat × Time) => (e.1, e.2 - s.time))
  let t := { t with smon := { supAt := since } }
  (((t.setReg Reg.HIF_STAT link).setReg Reg.SAF_SUP (s.reg Reg.SAF_SUP)).setLog t.ecc.log).showRemap

/-- BOOT begins (R403, R422) for the cause 0 COLD, 1 PERST_N, 2 RELOAD, 3 RETRY; reset is released now. -/
def State.beginBoot (s : State) (cause : Nat) : State :=
  let s := { s with bootu := { s.bootu with startTime := s.time, nextCause := cause } }
  s.setFld Reg.BOOT_STAT Fld.BOOT_STAT_CAUSE cause

/-- BOOT begins once nothing holds the device in reset. -/
def State.released (s : State) : State := if s.inReset then s else s.beginBoot s.bootu.nextCause

/-- POWER_ON (R459): the device holds itself in COLD reset. -/
def powerOn (s : State) : State := { s with bootu := { s.bootu with coldHeld := true } }.coldReset

/-- RAIL_BELOW_COLD (R431): a rail has fallen below its COLD threshold. -/
def railBelowCold (s : State) : State := { s with bootu := { s.bootu with coldHeld := true } }.coldReset

/-- COLD_RESET_END (R459): every rail has stayed in its window for 10 ms. -/
def coldResetEnd (s : State) : State :=
  if s.bootu.coldHeld then ({ s with bootu := { s.bootu with coldHeld := false } }).released else s

/-- HELD clears, and the restarts of the MC are counted anew (R420). -/
def State.freeMc (s : State) : State :=
  { s with bootu := { s.bootu with restarts := [] } }.clear Reg.MC_WDOG Fld.MC_WDOG_HELD

/-- PERST_N_ASSERT (R388, R467): WARM reset while it is low; during COLD reset that one holds on. Not connected on the XF6408F. -/
def perstNAssert (s : State) : State :=
  if !hasHost s.fac.variant || s.bootu.perstLow then s else
  let s := { s with bootu := { s.bootu with perstLow := true } }
  if s.bootu.coldHeld || s.bootu.jtagHold then s
  else
    let s := (s.warmReset false).freeMc
    { s with bootu := { s.bootu with nextCause := 1 } }

/-- PERST_N_RELEASE (R467): BOOT begins at the later of this and the end of COLD reset. -/
def perstNRelease (s : State) : State :=
  if s.bootu.perstLow then ({ s with bootu := { s.bootu with perstLow := false } }).released else s

/-- JTAG_EXTEST (R468): EXTEST or CLAMP holds the device in COLD reset, with SAFE_N and ALM0 to ALM3 at `levels`, the boundary
register's; leaving them restarts the device with BOOT. -/
def jtagExtest (s : State) (on : Bool) (levels : List Bool) : State :=
  if on then
    let s := if s.bootu.jtagHold then s else { s with bootu := { s.bootu with jtagHold := true } }.coldReset
    { s with pins := { s.pins with jtagSafe := some levels } }
  else if s.bootu.jtagHold then
    ({ s with bootu := { s.bootu with jtagHold := false }, pins := { s.pins with jtagSafe := none } }).released
  else s

/-- What IDCODE of the test access port reads (R468). -/
def idCode (f : Factory) : Nat :=
  let part := match f.variant with
    | .xf6408 => 0x6408
    | .xf6400 => 0x6400
    | .xf3204 => 0x3204
    | .xf6408f => 0x640F
  f.stepping.toNat % 16 * 2 ^ 28 + part * 2 ^ 12 + 0x27B * 2 + 1

/-! ### BOOT (R403 to R406) -/

/-- Whether the device drives the QSPI balls (R406): during BOOT, a CAL_COMMIT and the MC's restart, never while FL_RELEASE is set. -/
def State.qspiDriven (s : State) : Bool :=
  let booting := !s.inReset && decide (s.bootPhase < 7)
  let restart := s.bootPhase == 7 && !s.bootu.mcRunning && !s.bootu.restarts.isEmpty && !s.flag Reg.MC_WDOG Fld.MC_WDOG_HELD
  !s.flag Reg.BOOT_CTRL Fld.BOOT_CTRL_FL_RELEASE && (booting || s.commit.isSome || restart)

/-- BOOT_STAT.PHASE. -/
def State.setPhase (s : State) (ph : Nat) : State := s.setFld Reg.BOOT_STAT Fld.BOOT_STAT_PHASE ph

/-- BOOT_REFERENCE_ACQUIRED (R403, R404 steps 1 to 3): REFCLK (0), which the XF6408F has not, or the recovered clock of a port (1 to 4). The
T-PLL locks and the SRAM tests begin: PHASE passes through CLOCK within this command. -/
def bootReferenceAcquired (s : State) (src : Nat) : State :=
  let ok := if src = 0 then hasHost s.fac.variant else hasFp s.fac.variant (src - 1)
  if s.inReset || s.bootPhase != 0 || !ok then s else
  let s := (s.setFld Reg.CLK_SRC Fld.CLK_SRC_SEL src).raise Reg.CLK_STAT Fld.CLK_STAT_T_LOCK
  (s.clear Reg.CLK_STAT Fld.CLK_STAT_HOLDOVER).showSource.setPhase 2

/-- The slot that BOOT works on (R404): FALLBACK restarts at step 4 with the MC held in reset. -/
def State.startSlot (s : State) (b : Bool) : State :=
  let s := { s with bootu := { s.bootu with slotB := b, sections := [], imageId := 0, mcRunning := false, dramTested := false } }
  ((s.setReg Reg.DEV_FW 0).setFld Reg.BOOT_STAT Fld.BOOT_STAT_SLOT (bit b)).setPhase 3

/-- A little-endian number of `n` bytes at an offset. -/
def leAt (bs : List (BitVec 8)) (off n : Nat) : Nat :=
  ((bs.drop off).take n).zipIdx.foldl (fun acc p => acc + p.1.toNat * 2 ^ (8 * p.2)) 0

/-- Every fabric port DOWN (R412). -/
def State.portsDown (s : State) : State :=
  (List.range 4).foldl (fun (s : State) p => if hasFp s.fac.variant p then (s.clearLink p).setLink p lsDown else s) s

/-- The slot fails (R410 to R412): its first failure in BOOT_ERRA or BOOT_ERRB, IMAGE_INVALID; after slot A the device boots slot B, after
slot B BOOT has failed. Only a failure with ABSENT names a unit; for the others the record's unit is free. -/
def State.failSlot (s : State) (code stype entry : Nat) (unit : Option Nat) : State :=
  let b := s.bootu.slotB
  let err := BitVec.ofNat 32 (code * 2 ^ 24 + min stype 255 * 2 ^ 16 + entry % 2 ^ 16)
  let s := s.setReg (if b then Reg.BOOT_ERRB else Reg.BOOT_ERRA) err
  let f := s.freeNat 16
  let u : Nat := unit.getD f.1
  let s := f.2.emit 0x0050 0 [bit b, code, stype, entry, u]
  if b then { s with bootu := { s.bootu with mcRunning := false, sections := [] } }.portsDown.setPhase 8
  else ((s.raise Reg.BOOT_STAT Fld.BOOT_STAT_FALLBACK).emit 0x0051 0 [code]).startSlot true

/-- What a start-up test leaves in a cell: free (see `State.blankCell`). The region's cells hold it until they are written. -/
def State.overwriteRegion (s : State) (first n : Nat) : State :=
  let keep := s.cells.filter (fun c => c.1 < first || first + n ≤ c.1)
  { s with cells := keep, fresh := s.fresh + n, bootu := { s.bootu with tested := (first, n, s.fresh) :: s.bootu.tested } }

/-- The DRAM pattern test (R306): its region is overwritten, failing cells are remapped with source BOOT; where one cannot be, boot stops in
SAFE. -/
def State.dramTest (s : State) (bad : List Nat) : State :=
  let dev := s.sectionBody 2
  let first := leAt dev 8 2 * 2 ^ 15
  let mib := leAt dev 10 2
  let n := mib * 2 ^ 15
  let s := s.overwriteRegion first n
  let fails := ((bad.filter (fun c => first ≤ c && c < first + n)).filter (fun c => (s.spareOf c).isNone)).dedup
  let step := fun (p : Nat × State) (c : Nat) =>
    let full := p.2.ecc.remap.all (fun e => Option.isSome e)
    ((if full then p.1 else p.1 + 1), p.2.remapCell c (p.2.cellAt c).prot false true)
  let r := fails.foldl step (0, s)
  let s := (r.2.setFld Reg.ECC_BIST Fld.ECC_BIST_BOOT_REMAPS r.1).setFld Reg.ECC_BIST Fld.ECC_BIST_TESTED_MIB mib
  if r.1 < fails.length then (s.raise Reg.ECC_BIST Fld.ECC_BIST_DRAM_FAIL).raiseCause 13 306 0 else s

/-- A training of BOOT that fails twice (R283): written, and a self-test failure. -/
def State.bootUntrained (s : State) (ch op : Nat) : State := (s.trainFailed ch op true).raiseCause 13 306 0

/-- The channels' trainings at all operating points (R282), those of `failed` (channel and point) without success. -/
def State.bootTrain (s : State) (failed : List (Nat × Nat)) : State :=
  let good := (List.range 3).filter (fun op => failed.all (fun x => x.2 != op || decide (2 ≤ x.1)))
  let s := good.foldl (fun (s : State) op => s.setTrained op) s
  ((List.range 3).foldl (fun (s : State) op => (List.range 2).foldl (fun (s : State) ch =>
    if failed.contains (ch, op) then s.bootUntrained ch op else s.setChan ch { s.chanU ch with fails := 0 }) s) s).showTTrain

/-- BOOT_SELF_TESTS (R306, R404): at step 3 the SRAM March (`march`, the failing regions) and the ECC checker test (`chk`, failed); at steps 6
and 7, once the image is read, the F-PLL and M-PLL lock, the DRAM is trained at all points (R282, R283) and tested. -/
def bootSelfTests (s : State) (march : Nat) (chk : Bool) (dram : DramTests) : State :=
  if s.inReset || s.causeActive 13 then s
  else if s.bootPhase = 2 then
    let s := (s.setFld Reg.ECC_BIST Fld.ECC_BIST_MARCH_FAIL march).setFld Reg.ECC_BIST Fld.ECC_BIST_CHK_FAIL (bit chk)
    if march % 32 ≠ 0 ∨ chk then s.raiseCause 13 306 0 else s.startSlot false
  else if s.bootPhase = 3 ∧ !s.bootu.sections.isEmpty then
    let s := ((s.raise Reg.CLK_STAT Fld.CLK_STAT_F_LOCK).raise Reg.CLK_STAT Fld.CLK_STAT_M_LOCK).setPhase 4
    let s := s.bootTrain dram.failed
    if s.causeActive 13 then s else
    let s := { s with bootu := { s.bootu with dramTested := true } }
    if leAt (s.sectionBody 2) 10 2 = 0 then s else s.dramTest dram.bad
  else s

/-! ### The structure of an image (R405 to R410) -/

/-- A section as its header places it (R408). -/
structure Sec where
  pos   : Nat
  stype : Nat
  flags : Nat
  len   : Nat
  span  : Nat
deriving DecidableEq, Repr

/-- The padded length of a section's body. -/
def Sec.padded (x : Sec) : Nat := (x.len + 3) / 4 * 4

/-- The section header at a position. -/
def secAt (bs : List (BitVec 8)) (pos : Nat) : Sec :=
  { pos := pos, stype := leAt bs pos 2, flags := leAt bs (pos + 2) 2, len := leAt bs (pos + 4) 4, span := leAt bs (pos + 8) 4 }

/-- The chain of `n` sections from a position, or the type of the first whose SPAN is no multiple of 4, less than its own size, or overruns
LENGTH. -/
def secChain (bs : List (BitVec 8)) (length : Nat) : Nat → Nat → List Sec × Option Nat
  | 0, _ => ([], none)
  | n + 1, pos =>
    let x := secAt bs pos
    if length < pos + 12 then ([], some 0)
    else if x.span % 4 ≠ 0 ∨ x.span < 16 + x.padded ∨ length < pos + x.span then ([], some x.stype)
    else
      let r := secChain bs length n (pos + x.span)
      (x :: r.1, r.2)

/-- Whether a section's SCRC is right. -/
def Sec.crcOk (bs : List (BitVec 8)) (x : Sec) : Bool :=
  (crc32c ((bs.drop x.pos).take (12 + x.len))).toNat == leAt bs (x.pos + 12 + x.padded) 4

/-- The first section whose type an earlier one has. -/
def firstDup : List Sec → Option Nat
  | [] => none
  | x :: l => match firstDup l with
    | some t => some t
    | none => if l.any (fun y => y.stype == x.stype) then some x.stype else none

/-- The checks over the sections, codes 6 to 10, in the order of R410: a code with a section type. -/
def secFailure (bs : List (BitVec 8)) (l : List Sec) : Option (Nat × Nat) :=
  let has := fun (t : Nat) => l.any (fun x => x.stype == t)
  match l.find? (fun x => !x.crcOk bs) with
  | some x => some (6, x.stype)
  | none =>
    match [1, 2, 9].find? (fun t => !has t) with
    | some t => some (7, t)
    | none =>
      match firstDup l with
      | some t => some (8, t)
      | none =>
        match l.find? (fun x => (x.stype = 0 || 10 ≤ x.stype) && x.flags % 2 = 0) with
        | some x => some (9, x.stype)
        | none => if l.any (fun x => x.stype == 1 && decide (448 * 1024 < x.len)) then some (10, 1) else none

/-- The structural checks of R410 in their order: a code with a section type, or the sections. -/
def structure_ (bs : List (BitVec 8)) (flashOk : Bool) : (Nat × Nat) ⊕ List Sec :=
  let length := leAt bs 8 4
  let nsec := leAt bs 7 1
  if !flashOk then .inl (1, 0)
  else if leAt bs 0 4 ≠ 0x4D494658 then .inl (2, 0)
  else if leAt bs 4 2 ≠ 1 ∨ 2 < leAt bs 6 1 then .inl (3, 0)
  else if (crc32c (bs.take 28)).toNat ≠ leAt bs 28 4 then .inl (4, 0)
  else if length % 4 ≠ 0 ∨ length < 32 ∨ 4 * 2 ^ 20 < length ∨ nsec < 3 ∨ 16 < nsec then .inl (5, 0)
  else
    let r := secChain bs length nsec 32
    match r.2 with
    | some t => .inl (5, t)
    | none => match secFailure bs r.1 with
      | some e => .inl e
      | none => .inr r.1

/-- Whether the header of an image passes its checks (R407), so that the rest is read at the clock that it names. -/
def headerOk (bs : List (BitVec 8)) : Bool :=
  leAt bs 0 4 == 0x4D494658 && leAt bs 4 2 == 1 && decide (leAt bs 6 1 ≤ 2) && (crc32c (bs.take 28)).toNat == leAt bs 28 4

/-- The MC starts: the watchdog's 50 ms begin. -/
def State.startMc (s : State) : State := { s with bootu := { s.bootu with mcRunning := true, mcFrom := s.time, kickAt := s.time } }

/-- IMAGE_VALIDATION (R405, R410): the flash of the slot has been read. `found` is what SFDP gives for BOOT_FLASH, `readable` whether it meets
R405 and its data repeats, `bytes` the slot from its start. Until
its header has passed, the slot is read at 12.5 MHz. A slot that passes has its FIRMWARE loaded and the MC started; DEV_FW then shows the version the firmware reports, which is free. -/
def imageValidation (s : State) (slotB : Bool) (found : Word) (readable : Bool) (bytes : List (BitVec 8)) : State :=
  if s.inReset || s.bootPhase != 3 || !s.bootu.sections.isEmpty || slotB != s.bootu.slotB then s else
  let seen := maskAll [Fld.BOOT_FLASH_MFR, Fld.BOOT_FLASH_SIZE_LOG2, Fld.BOOT_FLASH_MODE, Fld.BOOT_FLASH_ADDR4]
  let driven := !s.flag Reg.BOOT_CTRL Fld.BOOT_CTRL_FL_RELEASE
  let fits := !slotB || decide (25 ≤ getField Fld.BOOT_FLASH_SIZE_LOG2 found)
  let s := if driven then (s.setReg Reg.BOOT_FLASH (found &&& seen)).setFld Reg.BOOT_FLASH Fld.BOOT_FLASH_QCLK (if headerOk bytes then leAt bytes 6 1 else 2) else s
  match structure_ bytes (readable && driven && fits) with
  | .inl (code, t) => s.failSlot code t 0 none
  | .inr l =>
    let body := fun (x : Sec) => (x.stype, (bytes.drop (x.pos + 12)).take x.len)
    let secs := (l.filter (fun x => 1 ≤ x.stype && x.stype ≤ 9)).map body
    let fw := s.freeNat 32
    let s := fw.2.setReg Reg.DEV_FW (BitVec.ofNat 32 fw.1)
    let head := ((l.find? (fun x => x.stype == 9)).map (fun x => (bytes.drop x.pos).take 12)).getD []
    { s with bootu := { s.bootu with sections := secs, calHead := head, imageId := leAt bytes 12 4 } }.startMc

/-- Whether the firmware has reported its start (R410): it has kicked the watchdog, or made the checks of R411 (log entry 109, DEDUCED). -/
def State.fwStarted (s : State) : Bool := s.bootu.kickAt != s.bootu.mcFrom || decide (5 ≤ s.bootPhase)

/-- FW_START_TIMEOUT (R410): the firmware has given no start report within 100 ms of its start, while BOOT goes on to the DRAM. -/
def fwStartTimeout (s : State) : State :=
  if !s.inReset && (s.bootPhase == 3 || s.bootPhase == 4) && !s.bootu.sections.isEmpty && !s.fwStarted &&
      decide (msTime 100 ≤ (s.time - s.bootu.mcFrom).toNat) then
    s.failSlot 10 1 0 none else s

/-- BOOT_RETRY (R412, R422): acts while BOOT has failed or the MC is held; the device restarts as by RELOAD (log entry 25, DEDUCED). -/
def bootRetry (s : State) : State :=
  if s.bootFailed || s.flag Reg.MC_WDOG Fld.MC_WDOG_HELD then ((s.warmReset true).freeMc).beginBoot 3 else s

/-- FL_RELEASE_WRITE (R406): it can be set only in SERVICE or after a failed BOOT. -/
def flReleaseWrite (s : State) (v : Bool) : State :=
  if v && !s.inService && !s.bootFailed then s else s.setFld Reg.BOOT_CTRL Fld.BOOT_CTRL_FL_RELEASE (bit v)

/-! ### The management core (R419, R420) -/

/-- MC_WDOG_KICK (R420): from the MC, the 50 ms begin anew; a write from any other reader is ignored. -/
def mcWdogKick (s : State) (who : Reader) : State :=
  if who = .mc then { s with bootu := { s.bootu with kickAt := s.time } } else s

/-- MC_WATCHDOG_EXPIRY (R420): 50 ms without a kick, or an uncorrectable error of MC SRAM: SAFE, and the MC is in reset. Until the firmware
has reported its start, the 100 ms of R410 stand in the watchdog's place (log entry 109, DEDUCED). -/
def mcWatchdogExpiry (s : State) (sram : Bool) : State :=
  if !s.bootu.mcRunning || (!sram && !s.fwStarted) || (!sram && decide ((s.time - s.bootu.kickAt).toNat < msTime 50)) then s else
  let recent := s.bootu.restarts.filter (fun t => decide ((s.time - t).toNat < secTime 3600))
  let s := { s with bootu := { s.bootu with mcRunning := false, mcCause := bit sram, restarts := s.time :: recent } }
  (s.count Reg.MC_WDOG Fld.MC_WDOG_EXPIRED).raiseCause (if sram then 6 else 5) 420 0

/-- The completion of a command that a restart of the MC has ended (R392, R420). -/
def mcRefused : Completion := { status := stRefused, detail := 13 }

/-- The commands that bank `m` works on end (R420): none is repeated. An on-demand slot that has begun runs to its end and reports nothing (log
entry 140, DEDUCED). -/
def State.abandonBank (s : State) (m : Nat) : State :=
  let b := s.bankU m
  let asked := (b.waiting.toList ++ (b.cur.toList ++ b.ended).filterMap (·.od)).filter (fun o => !o.silent)
  let quiet := fun (sl : Slot) => { sl with od := sl.od.map (fun o => { o with silent := true }) }
  let s := (s.setBank m { b with waiting := none, cur := b.cur.map quiet, ended := b.ended.map quiet, meas := none }).showOdBusy m
  let s := asked.foldl (fun (s : State) (o : OnDemand) => s.settle o.src 0x0040 o.tag mcRefused) s
  match b.meas with
  | some me => s.settle me.src (if me.full then 0x0042 else 0x0041) me.tag mcRefused
  | none => s

/-- A CAL_COMMIT in progress ends: the MC writes the flash (R15, R420). -/
def State.abandonCommit (s : State) : State :=
  match s.commit with
  | some c => ({ s with commit := none }.clear Reg.CAL_STAT Fld.CAL_STAT_COMMIT_BUSY).settle c.src 0x0043 c.tag mcRefused
  | none => s

/-- The mode commands that wait for a change to complete end (R313, R420). -/
def State.abandonModes (s : State) : State :=
  s.mode.waitCmd.foldl (fun (s : State) (q : CmdSrc × Nat × Nat × Bool) => s.settle q.1 (if q.2.2.2 then opSafeExit else opModeSet) q.2.1 mcRefused)
    { s with mode := { s.mode with waitCmd := [] } }

/-- The requests that carry commands to other devices are given up: their answers decide nothing any more (R394, R420). -/
def State.abandonRequests (s : State) : State :=
  { s with fab := { s.fab with reqs := s.fab.reqs.filter (fun r => match r.client with
      | .command _ _ _ _ | .forward _ _ _ => false
      | .event | .stream _ | .mgmt => true) } }.pumpRequests

/-- Every command that the MC had started ends REFUSED, MC_RESTART (R420), those of other devices' rings too. -/
def State.abandonCommands (s : State) : State :=
  let s := (List.range 8).foldl (fun (s : State) m => s.abandonBank m) s
  let s := s.showMeas.abandonCommit.abandonModes.abandonRequests
  let refused : Completion := { mcRefused with time := s.time }
  s.setInflight (s.host.inflight.map (fun e => { e with done := some refused, part := none }))

/-- MC_RESTART (R420): the MC runs again and every command in flight ends REFUSED, MC_RESTART; or, at the third event within an hour, the MC is
held in reset, and the commands in flight stay without completion, since no MC writes one. -/
def mcRestart (s : State) : State :=
  if s.bootu.mcRunning || s.bootu.restarts.isEmpty || decide (s.bootPhase < 3 ∨ 7 < s.bootPhase) ||
      (s.bootPhase == 3 && s.bootu.sections.isEmpty) || s.flag Reg.MC_WDOG Fld.MC_WDOG_HELD then s else
  let n := s.bootu.restarts.length
  let s := if 3 ≤ n then s.raise Reg.MC_WDOG Fld.MC_WDOG_HELD
    else
      let s := s.abandonCommands
      { s with ecc := { s.ecc with mcPo := [] } }.startMc
  s.emit 0x0054 0 [s.bootu.mcCause, n]

/-- The commands that wait in the ring. -/
def State.cmdWaiting (s : State) : Nat :=
  let n := s.cmdSize
  (s.fld Reg.HIF_CMD_DB Fld.HIF_CMD_DB_TAIL + n - s.fld Reg.HIF_CMD_HEAD Fld.HIF_CMD_HEAD_HEAD) % n

/-- MC_SATURATED (R419): above 90 % for 100 ms; written again only after SAT has cleared. -/
def mcSaturated (s : State) (load : Nat) : State :=
  if 10 * load ≤ 9 * 65536 then s else
  let s := s.setFld Reg.MC_LOAD Fld.MC_LOAD_LOAD load
  if s.flag Reg.MC_LOAD Fld.MC_LOAD_SAT then s
  else (s.setLive Reg.MC_LOAD Fld.MC_LOAD_SAT Fld.MC_LOAD_SAT_S true).emit 0x0053 0 [load, s.cmdWaiting]

/-- MC_SAT_CLEAR (R419): below 80 % for 1 s. -/
def mcSatClear (s : State) (load : Nat) : State :=
  if 8 * 65536 ≤ 10 * load then s else (s.setFld Reg.MC_LOAD Fld.MC_LOAD_LOAD load).clear Reg.MC_LOAD Fld.MC_LOAD_SAT

end Sys2Proof.Machine
end

