-- ==== Sys2Proof/Machine/Pacer.lean ====
section
/-!
DEFINITION. PACER's steps (R330 to R337): evaluation, windows, the reserve pool, the thermal limits.
-/
namespace Sys2Proof.Machine

/-- The die temperature as SMON's monitor gives it (R333). -/
def State.setTj (s : State) (tj : BitVec 16) : State := s.setFld Reg.PACER_STAT Fld.PACER_STAT_TJ tj.toNat

/-- The energy counters take what the domains have drawn (R330). -/
def State.countEnergy (s : State) (energy : List Nat) : State :=
  (List.range 6).foldl (fun (s : State) n =>
    s.setReg (Reg.PACER_E n) (s.reg (Reg.PACER_E n) + BitVec.ofNat 32 (energy.getD n 0))) s

/-- The energy of an interval of `dt` goes to the window, in BURST only up to its share, and what is above it to the pool (R331, R334). -/
def State.chargeWindow (s : State) (e dt : Nat) : State :=
  let share := if s.curMode = modeBurst then s.budgetOf modeBurst * dt / max 1 s.windowLen else e
  { s with pacer := { s.pacer with used := s.pacer.used + min e share, pool := s.pacer.pool - (e - min e share), total := s.pacer.total + e,
                                   lastEval := s.time } }

/-- PACER_OVER (R337), once per window. -/
def State.judgeOver (s : State) : State :=
  if s.pacer.overWritten || decide ((s.pacer.used : Int) ≤ s.pacer.budget) then s
  else ({ s with pacer := { s.pacer with overWritten := true } }.raise Reg.PACER_STAT Fld.PACER_STAT_OVER_S).emit 0x0700 0
    [s.pacer.windowStart.toNat, s.pacer.budget.fdiv 1000, s.pacer.used / 1000]

/-- The pool has reached zero in BURST (R335): the record, once in a BURST, and the return to SURVEY. -/
def burstExhausted (s : State) : State :=
  if s.curMode != modeBurst || s.pacer.pool != 0 || s.pacer.exhausted then s else
  (({ s with pacer := { s.pacer with exhausted := true } }.raise Reg.PACER_STAT Fld.PACER_STAT_EXH_S).emit 0x0703 0
    [msSince s.pacer.burstStart s.time]).pacerChange

/-- The temperature has reached CEIL (R333). -/
def State.reachCeil (s : State) : State := (s.raise Reg.PACER_STAT Fld.PACER_STAT_CEIL).emit 0x0704 0 [s.tj, 0, 1]

/-- An invocation as the clusters stop (R333): it has not started; its placeholder comes at its deadline. -/
def Inv.halt (v : Inv) : Inv := if v.outs.isSome || v.skip.isSome then v else { v with started := [], finished := [] }

/-- The clusters run no invocation of any class (R333). -/
def State.haltClusters (s : State) : State :=
  let s := (List.range 4).foldl (fun (s : State) c =>
    if (s.cluU c).running.isNone then s else
    (s.countBusy c (clusterCycles (s.time - (s.cluU c).since).toNat)).setFld (Reg.CL_STAT c) Fld.CL_STAT_STATE clIdle) s
  (List.range s.eng.graph.length).foldl (fun (s : State) i => s.setNode i { s.nodeU i with invs := (s.nodeU i).invs.map Inv.halt }) s

/-- Whether a thermal emergency begins (R333). -/
def State.inEmergency (s : State) : Bool :=
  !s.flag Reg.PACER_STAT Fld.PACER_STAT_EMERG && decide ((256 * s.fld Reg.PACER_THERM Fld.PACER_THERM_EMERG : Int) ≤ s.tj)

/-- A thermal emergency begins (R333, R428). -/
def State.reachEmerg (s : State) : State :=
  (((s.raise Reg.PACER_STAT Fld.PACER_STAT_EMERG).haltClusters).emit 0x0704 0 [s.tj, 1, 1]).raiseCause 4 333 0

/-- What the temperature that an evaluation is given has reached (R333). -/
def State.judgeTemp (s : State) : State :=
  let s := if !s.flag Reg.PACER_STAT Fld.PACER_STAT_CEIL && s.atCeil then s.reachCeil else s
  if s.inEmergency then s.reachEmerg else s

/-- PACER_EVALUATE (R332): the domains have drawn `energy` µJ since the last evaluation, and the die is at `tj`. -/
def pacerEvaluate (s : State) (energy : List Nat) (tj : BitVec 16) : State :=
  let e := (energy.take 6).foldl (· + ·) 0
  let s := (s.setTj tj).countEnergy energy
  let s := (s.chargeWindow e (s.time - s.pacer.lastEval).toNat).judgeOver
  (burstExhausted s.judgeTemp.pacerAdmit).pacerChange

/-- P_base of the mode that the window was spent in (R331): the mean over its last four such windows, in mW. -/
def State.measureBase (s : State) : State :=
  let ms := max 1 (s.fld Reg.PACER_CFG Fld.PACER_CFG_WIN * 100)
  let p := (s.pacer.total - s.pacer.discretion / 1000000) / ms
  let mean := fun (l : List Nat) => BitVec.ofNat 32 (l.foldl (· + ·) 0 / max 1 l.length)
  if s.pacer.wholeMode = some modeVigil then
    let l := (p :: s.pacer.baseV).take 4
    { s with pacer := { s.pacer with baseV := l } }.setReg Reg.PACER_BASE_V (mean l)
  else if s.pacer.wholeMode = some modeSurvey then
    let l := (p :: s.pacer.baseS).take 4
    { s with pacer := { s.pacer with baseS := l } }.setReg Reg.PACER_BASE_S (mean l)
  else s

/-- Capacity of the reserve pool in µJ (R334). -/
def State.poolMax (s : State) : Nat := s.fld Reg.PACER_RES Fld.PACER_RES_MAX * 1000000

/-- PACER_WINDOW_START (R331, R334, R336): a whole multiple of the length has been reached; the unspent budget goes to the pool, debt is
repaid from the new window's budget. -/
def pacerWindowStart (s : State) : State :=
  let start := s.windowBegin
  if start ≤ s.pacer.windowStart.toNat ∧ s.pacer.windowStart.toNat ≤ s.time.toNat then s else
  let s := s.measureBase
  let b := s.budgetOf s.curMode
  let unspent := (s.pacer.budget - s.pacer.used).toNat
  let back := min s.pacer.debt (b / 2)
  let repaid := s.pacer.debt != 0 && s.pacer.debt == back
  let s := { s with pacer := { s.pacer with
    pool := max s.pacer.pool (min s.poolMax (s.pacer.pool + unspent)), debt := s.pacer.debt - back, budget := (b : Int) - back,
    used := 0, total := 0, discretion := 0, windowStart := BitVec.ofNat 64 start, wholeMode := some s.curMode, overWritten := false } }
  let s := s.pacerAdmit
  if repaid then s.emit 0x0701 0 [0, 1] else s

/-- THERMAL_CEIL (R333): the temperature reaches CEIL, or has fallen 5 °C below it. -/
def thermalCeil (s : State) (tj : BitVec 16) : State :=
  let s := s.setTj tj
  let ceil : Int := s.fld Reg.PACER_THERM Fld.PACER_THERM_CEIL
  let set := s.flag Reg.PACER_STAT Fld.PACER_STAT_CEIL
  if !set && s.atCeil then s.reachCeil.pacerChange
  else if set && decide (s.tj ≤ 256 * (ceil - 5)) then
    ((s.clear Reg.PACER_STAT Fld.PACER_STAT_CEIL).emit 0x0704 0 [tj.toInt, 0, 0]).pacerAdmit
  else s

/-- THERMAL_EMERGENCY (R333, R428): the temperature is at or above EMERG. -/
def thermalEmergency (s : State) (tj : BitVec 16) : State :=
  let s := s.setTj tj
  if s.inEmergency then s.reachEmerg else s

/-- THERMAL_EMERGENCY_END (R333, R428): the temperature is 5 °C below EMERG. -/
def thermalEmergencyEnd (s : State) (tj : BitVec 16) : State :=
  let s := s.setTj tj
  let emerg : Int := s.fld Reg.PACER_THERM Fld.PACER_THERM_EMERG
  if !s.flag Reg.PACER_STAT Fld.PACER_STAT_EMERG || decide (256 * (emerg - 5) < s.tj) then s
  else (((s.clear Reg.PACER_STAT Fld.PACER_STAT_EMERG).emit 0x0704 0 [tj.toInt, 1, 0]).dropCause 4).pacerAdmit

end Sys2Proof.Machine
end

