-- ==== Sys2Proof/Machine/Comparators.lean ====
section
/-!
DEFINITION. Window monitors, hit comparators and their self-test (R155 to R167, R173), with the times they report.
-/
namespace Sys2Proof.Machine

/-! ### Times -/

/-- The propagation delay of a power mode at 100 mV overdrive in ns (R155). -/
def modeDelay (m : Nat) : Nat := [4, 25, 250, 2500, 20000].getD m 20000

/-- The decision time of a power mode in ns (R155). -/
def decisionTime (m : Nat) : Nat := [10, 60, 600, 6000, 50000].getD m 50000

/-- d_fe of a W-channel in 10^-9 × 2^-32 s (R154, R156): DFE of the present gain's entry, or the design value of 12 ns. -/
def State.wFrontDelay (s : State) (n : Nat) : Nat :=
  let e := s.calE (calKeyW n (s.fld (Reg.WCH_CFG n) Fld.WCH_CFG_GAIN))
  if e.bad || e.words.isEmpty then 12 * 2 ^ 32 else (e.words.getD 2 0).toNat * 1000000000

/-- d_fe of WM0 to WM63 in the same unit (R156). -/
def State.pFrontDelay (s : State) (n : Nat) : Nat :=
  let g := s.gainOf n
  (if g < 4 then 180 else if g < 6 then 260 else 420) * 2 ^ 32

/-- The reported time of a crossing (R156): t - d_mode - d_fe + ADJ, rounded once, halves up. -/
def reportTime (t : Time) (modeNs frontDelay : Nat) (adj : Int) : Time :=
  BitVec.ofInt 64 (roundDiv (((t.toNat : Int) + adj) * 1000000000 - modeNs * 2 ^ 32 - frontDelay) 1000000000)

/-- The reported time of a crossing of monitor `i` (R156). Crossings found by a self-test take no d_mode (R167). -/
def State.wmTime (s : State) (i : Nat) (t : Time) (late : Bool) : Time :=
  let d := if late then 0 else modeDelay (s.fld (Reg.WM_TH i) Fld.WM_TH_MODE)
  if i < 64 then reportTime t d (s.pFrontDelay i) (s.reg (Reg.PCH_TS_ADJ i)).toInt
  else reportTime t d (s.wFrontDelay (i - 64)) (s.reg (Reg.WCH_TS_ADJ (i - 64))).toInt

/-- The reported time of a crossing of hit comparator `h` (R156, R167). -/
def State.hcTime (s : State) (h : Nat) (t : Time) (late : Bool) : Time :=
  reportTime t (if late then 0 else modeDelay (s.fld (Reg.HC_CFG h) Fld.HC_CFG_MODE)) (s.wFrontDelay h)
    (s.reg (Reg.WCH_TS_ADJ h)).toInt

/-- The present instant as hit comparator `h` reports it: what the times of its hits are compared with (R156, R163). -/
def State.hcNow (s : State) (h : Nat) : Time := s.hcTime h s.time false

/-! ### Window monitors -/

def wmUnresolved : Nat := 0
def wmInside : Nat := 1
def wmAbove : Nat := 2
def wmBelow : Nat := 3

/-- The bit of EVT that enables a transition into a state (R160). -/
def evtBit (state : Nat) : Nat := if state = wmAbove then 0 else if state = wmBelow then 1 else 2

/-- The monitor's own state. -/
def State.wmState (s : State) (i : Nat) : Nat := s.fld (Reg.WM_STAT i) Fld.WM_STAT_STATE

/-- A crossing wakes a sleeping W converter under RUN = AUTO (R164). -/
def State.wakeConverter (s : State) (n : Nat) : State :=
  if !hasWch s.fac.variant n || s.wAwake n || s.fld (Reg.WCH_CFG n) Fld.WCH_CFG_RUN != 0 then s else s.setWch n { s.wchU n with wakeReq := true }

/-- A transition between resolved states (R160): counted, timed, offered to triggers and start units, and recorded if enabled. -/
def State.wmMove (s : State) (i new : Nat) (t : Time) (late : Bool) : State :=
  let old := s.wmState i
  let s := s.setFld (Reg.WM_STAT i) Fld.WM_STAT_STATE new
  let s := s.count (Reg.WM_CNT i) Fld.WM_CNT_CROSSINGS
  let s := s.setPair (Reg.WM_TIME_LO i) (Reg.WM_TIME_HI i) t.toNat
  let s := s.setWm i { s.wmU i with lastAt := t }
  let s := if i ≥ 64 ∧ s.flag (Reg.WM_CFG i) Fld.WM_CFG_WAKE_EN then s.wakeConverter (i - 64) else s
  let s := if bitAt (s.fld (Reg.WM_CFG i) Fld.WM_CFG_EVT) (evtBit new) then
      let k := s.rateKey 0x0210 i
      let due := match k.lastA with | none => true | some a => msTime 1 ≤ (s.time - a).toNat
      let mk := fun (n : Nat) => ([(i : Int), old, new, bit late, n] : List Int)
      if due then (s.setRate 0x0210 i { lastA := some s.time, reported := new, interval := msTime 1 }).emitAt t 0x0210 i (mk k.suppA)
      else
        let later := if new = k.reported then none else some (mkRec 0x0210 i t (mk k.suppA))
        s.setRate 0x0210 i { k with suppA := k.suppA + 1, pend := later, pendNow := new }
    else s.setRate 0x0210 i { s.rateKey 0x0210 i with pend := none }
  let s := s.offerTrigger 1 i t
  let s := if old = wmInside then s.offerStart 4 i t else s
  if new = wmInside then s.releaseSource 1 i else s

/-- Which state can follow which (R158): every transition passes through INSIDE. -/
def wmAdjacent (old new : Nat) : Bool :=
  old == wmInside && (new == wmAbove || new == wmBelow) || (old == wmAbove || old == wmBelow) && new == wmInside

/-- WM_TRANSITION (R158, R160): the input has stayed beyond a threshold for one decision time; `t` is the captured time. A comparator under
test is blind (R167). -/
def wmTransition (s : State) (i new : Nat) (t : Time) : State :=
  if !hasWm s.fac.variant i || !s.flag (Reg.WM_CFG i) Fld.WM_CFG_EN || (s.wmU i).test.running || !wmAdjacent (s.wmState i) new then s
  else s.wmMove i new (s.wmTime i t false) false

/-- WM_RESOLVE (R159): an UNRESOLVED monitor resolves, silently. -/
def wmResolve (s : State) (i new : Nat) : State :=
  if !hasWm s.fac.variant i || !s.flag (Reg.WM_CFG i) Fld.WM_CFG_EN || s.wmState i != wmUnresolved || new == 0 || new ≥ 4 then s
  else (s.setFld (Reg.WM_STAT i) Fld.WM_STAT_STATE new).raise (Reg.WM_STAT i) Fld.WM_STAT_RESOLVED_S

/-- The monitor starts again in UNRESOLVED with its output inactive (R159): a trigger it had raised is released, and a crossing not yet
reported is reported no more. -/
def State.wmRestart (s : State) (i : Nat) : State :=
  let s := s.setRate 0x0210 i { s.rateKey 0x0210 i with pend := none }
  let s := s.setWm i { s.wmU i with test := { (s.wmU i).test with running := false, held := false, since := s.time } }
  (s.setFld (Reg.WM_STAT i) Fld.WM_STAT_STATE wmUnresolved).releaseSource 1 i

/-- At the end of BOOT every enabled monitor starts in UNRESOLVED (R159). -/
def State.startMonitors (s : State) : State :=
  (List.range 72).foldl (fun (s : State) i => if hasWm s.fac.variant i then s.wmRestart i else s) s

/-- The hysteresis h that HYST selects, in DAC LSB (R158). -/
def hystOf (c : Nat) : Nat := [0, 1, 4, 16].getD c 0

/-- What a write of WM_TH leaves unchanged (R158): UPPER and LOWER where they would break the order, a reserved MODE. -/
def wmThReject (cfg v : Word) : Word :=
  let broken := getField Fld.WM_TH_UPPER v ≤ getField Fld.WM_TH_LOWER v + hystOf (getField Fld.WM_CFG_HYST cfg)
  rejectIf broken Fld.WM_TH_UPPER ||| rejectIf broken Fld.WM_TH_LOWER ||| rejectIf (getField Fld.WM_TH_MODE v ≥ 5) Fld.WM_TH_MODE

/-- What a write of WM_CFG leaves unchanged (R158): a HYST that would break the order. -/
def wmCfgReject (th v : Word) : Word :=
  rejectIf (getField Fld.WM_TH_UPPER th ≤ getField Fld.WM_TH_LOWER th + hystOf (getField Fld.WM_CFG_HYST v)) Fld.WM_CFG_HYST

/-- A write of WM_CFG (`th` false) or WM_TH (R155, R158, R159): UPPER must exceed LOWER plus h. -/
def wmCfgWrite (s : State) (i : Nat) (th : Bool) (v : Word) : State :=
  if !hasWm s.fac.variant i then s.writeAbsent i 72 (if th then Reg.WM_TH i else Reg.WM_CFG i) else
  let cfg := s.reg (Reg.WM_CFG i)
  let old := s.reg (Reg.WM_TH i)
  if th then
    let s := s.writeJudged (Reg.WM_TH i) 0xE3FF03FF (wmThReject cfg v) v (Reg.WM_STAT i) Fld.WM_STAT_CFG_REJ
    if s.fld (Reg.WM_TH i) Fld.WM_TH_MODE = getField Fld.WM_TH_MODE old then s else (s.wmRestart i).verifyWm i
  else
    let s := s.writeJudged (Reg.WM_CFG i) 0x000000FD (wmCfgReject old v) v (Reg.WM_STAT i) Fld.WM_STAT_CFG_REJ
    if s.fld (Reg.WM_CFG i) Fld.WM_CFG_EN = getField Fld.WM_CFG_EN cfg then s else (s.wmRestart i).verifyWm i

/-- Give a reader a shadow of a 64-bit value, with 14 for fabric requesters (R77, R161, R328). -/
def giveShadow (l : List (Reader × Nat)) (who : Reader) (x : Nat) : List (Reader × Nat) :=
  let rest := l.filter (fun p => p.1 != who)
  let fab := rest.filter (fun p => Reader.isFabric p.1)
  let rest := if Reader.isFabric who && fab.length ≥ 14 then
      match fab.getLast? with
      | some old => rest.filter (fun p => p.1 != old.1)
      | none => rest
    else rest
  (who, x) :: rest

/-- What a reader's shadow holds; 0 where it has none. -/
def shadowOf (l : List (Reader × Nat)) (who : Reader) : Nat := ((l.find? (fun p => p.1 == who)).map (·.2)).getD 0

/-- A read of WM_TIME_LO (R161): the time into the reader's shadow, bits 31:0 returned. -/
def State.readWmTimeLo (s : State) (who : Reader) (i : Nat) : Nat × State :=
  let t := (s.reg (Reg.WM_TIME_LO i)).toNat + 2 ^ 32 * (s.reg (Reg.WM_TIME_HI i)).toNat
  (t % 2 ^ 32, s.setWm i { s.wmU i with shadows := giveShadow (s.wmU i).shadows who t })

/-- A read of WM_TIME_HI (R161): bits 63:32 of the reader's shadow, 0 without one. It counts as no use of the shadow where R77 replaces the
least recently used one (log entry 120, DESIGN CHOICE). -/
def State.readWmTimeHi (s : State) (who : Reader) (i : Nat) : Nat := shadowOf (s.wmU i).shadows who / 2 ^ 32

/-- WM_TIME_LO_READ (R161). -/
def wmTimeLoRead (s : State) (who : Reader) (i : Nat) : State :=
  if !hasWm s.fac.variant i then s.returns who (Reg.WM_TIME_LO i) 0 else
  let p := s.readWmTimeLo who i
  p.2.returns who (Reg.WM_TIME_LO i) p.1

/-- WM_TIME_HI_READ (R161). -/
def wmTimeHiRead (s : State) (who : Reader) (i : Nat) : State :=
  s.returns who (Reg.WM_TIME_HI i) (if hasWm s.fac.variant i then s.readWmTimeHi who i else 0)

/-! ### Hit comparators -/

/-- The baseline in use (R162). -/
def State.hcBase (s : State) (h : Nat) : Nat :=
  if s.flag (Reg.HC_CFG h) Fld.HC_CFG_THMODE then s.fld (Reg.HC_BASE h) Fld.HC_BASE_B else s.fld (Reg.HC_LEVEL h) Fld.HC_LEVEL_FIX_LEVEL

/-- B of a floating baseline from sigma (R162). -/
def State.floatBase (s : State) (h sigma : Nat) : Nat :=
  min (max (roundDiv (s.fld (Reg.HC_LEVEL h) Fld.HC_LEVEL_FLOAT_K * sigma) 10240).toNat (s.fld (Reg.HC_LEVEL h) Fld.HC_LEVEL_B_MIN))
    (s.fld (Reg.HC_RAMP h) Fld.HC_RAMP_B_MAX)

/-- HC_BASE follows THMODE, the levels and sigma (R162, R173). -/
def State.showBase (s : State) (h : Nat) : State :=
  let sig := (s.hcU h).sigma.toNat
  let b := if s.flag (Reg.HC_CFG h) Fld.HC_CFG_THMODE then s.floatBase h sig
    else s.fld (Reg.HC_LEVEL h) Fld.HC_LEVEL_FIX_LEVEL
  (s.setFld (Reg.HC_BASE h) Fld.HC_BASE_B b).setFld (Reg.HC_BASE h) Fld.HC_BASE_SIGMA (min sig 65535)

/-- The threshold code in force at time `t` (R163): B, the ramp of the hit in progress, RAMP_MAX in LOCKOUT. -/
def State.hcThreshold (s : State) (h : Nat) (t : Time) : Nat :=
  let top := s.fld (Reg.HC_RAMP h) Fld.HC_RAMP_RAMP_MAX
  match s.fld (Reg.HC_STAT h) Fld.HC_STAT_STATE with
  | 0 => s.hcBase h
  | 1 => min ((s.hcU h).b0 + s.fld (Reg.HC_RAMP h) Fld.HC_RAMP_RATE * (t - (s.hcU h).tFirst).toNat * 1000 / 2 ^ 32) top
  | _ => top

/-- Word 3 of the W-channel entry in use: the offsets of the threshold DACs of HCn and WM(64 + n), in 1/8 DAC LSB (R154). -/
def State.dacOffsets (s : State) (n : Nat) : Int × Int :=
  let e := s.calE (calKeyW n (s.fld (Reg.WCH_CFG n) Fld.WCH_CFG_GAIN))
  if e.bad || e.words.isEmpty then (0, 0)
  else (signedOf 8 ((e.words.getD 3 0).toNat / 256 % 256), signedOf 8 ((e.words.getD 3 0).toNat % 256))

/-- What a hit comparator's threshold DAC converts at time `t`, in 1/8 LSB (R154, R157): the code less the DAC's offset. -/
def State.hcDac (s : State) (h : Nat) (t : Time) : Int := 8 * s.hcThreshold h t - (s.dacOffsets h).1

/-- What a window monitor's upper and lower threshold DACs convert, in 1/8 LSB (R154, R157). -/
def State.wmDac (s : State) (i : Nat) : Int × Int :=
  let ofs := if 64 ≤ i then (s.dacOffsets (i - 64)).2 else 0
  (8 * s.fld (Reg.WM_TH i) Fld.WM_TH_UPPER - ofs, 8 * s.fld (Reg.WM_TH i) Fld.WM_TH_LOWER - ofs)

/-- The largest number whose square is at most `v`, below 2^21. -/
def isqrt (v : Nat) : Nat :=
  (List.range 21).reverse.foldl (fun r i => if (r + 2 ^ i) * (r + 2 ^ i) ≤ v then r + 2 ^ i else r) 0

/-- BASELINE_WINDOW (R162): a 1 ms window of native samples with the converter running, no OVR sample and no part of a hit or
lockout moves sigma and B; other windows do not. Where the rms is no whole number of codes the spec gives no rounding: it is one
of the two numbers next to it, which one is free. -/
def baselineWindow (s : State) (h : Nat) : State :=
  let x := s.hcU h
  if !hasHc s.fac.variant h || !s.flag (Reg.WCH_STAT h) Fld.WCH_STAT_RUNNING || x.winN < 8192 then s else
  let s1 := s.setHc h { x with winSum := 0, winSq := 0, winN := 0, taint := s.fld (Reg.HC_STAT h) Fld.HC_STAT_STATE != 0 }
  if x.taint then s1 else
  let var := x.winN * x.winSq - (x.winSum * x.winSum).toNat
  let r := isqrt (var / (x.winN * x.winN))
  let p := s1.freeNat 1
  let exact := r * r * (x.winN * x.winN) == var
  let rms : Int := if exact then r else r + p.1
  let s := if exact then s1 else p.2
  (s.setHc h { s.hcU h with sigma := x.sigma + asr (rms - x.sigma) 3 }).showBase h

/-- A hit begins (R163 to R165): the native samples already taken from t_first on belong to it. -/
def State.beginHit (s : State) (h : Nat) (t : Time) (late : Bool) : State :=
  let awake := s.flag (Reg.WCH_STAT h) Fld.WCH_STAT_RUNNING
  let since := (s.wchU h).hist.filter (fun x => decide (t.toNat ≤ (s.wStamp h x.idx).toNat))
  let x := { s.hcU h with tFirst := t, tLast := t, count := 1, b0 := s.hcBase h, peak := 0, energy := 0, ovr := false, ahead := since,
                          partly := !awake, late := late, holdover := s.inHoldover, valid := none, taint := true }
  let s := ((s.setHc h x).setFld (Reg.HC_STAT h) Fld.HC_STAT_STATE 1).wAbsorb h
  let s := if s.flag (Reg.HC_CFG h) Fld.HC_CFG_WAKE_EN then s.wakeConverter h else s
  let s := if (s.wchU h).woken then s.setWch h { s.wchU h with hitEnd := none } else s
  (s.offerTrigger 2 h t).offerStart 3 h t

/-- Whether a hit comparator watches a polarity (R163): POL 0 positive, 1 negative, 2 both. -/
def State.hcWatches (s : State) (h : Nat) (neg : Bool) : Bool :=
  let pol := s.fld (Reg.HC_CFG h) Fld.HC_CFG_POL
  pol == 2 || pol == bit neg


/-- The latency of a wake in 10 ns units (R165). -/
def wakeUnits (a b : Time) : Nat := min 255 (((b.toNat : Int) - a.toNat) * 100000000 / 2 ^ 32).toNat

/-- A hit ends at `tEnd` (R163, R165): the record, the count, LOCKOUT. Where no native sample has followed t_first, WAKE is 255 (log entry
120, DESIGN CHOICE). -/
def State.endHit (s : State) (h : Nat) (tEnd : Time) (trunc : Bool) : State :=
  let x := s.hcU h
  let cap := decide (s.fld (Reg.HC_RAMP h) Fld.HC_RAMP_RAMP_MAX ≤ s.hcThreshold h tEnd)
  let flags := bit x.ovr + 2 * bit x.partly + 4 * bit trunc + 8 * bit cap + 16 * bit x.late + 32 * bit (x.holdover || s.inHoldover)
  let wake := if x.partly then (match x.valid with | some v => wakeUnits x.tFirst v | none => 255) else 0
  let s := s.emitAt x.tFirst 0x0200 (64 + h) [x.peak, flags, min (x.tLast - x.tFirst).toNat (2 ^ 32 - 1),
    (x.energy / 2 ^ 24 % 2 ^ 40 : Nat), min x.count 255, wake, min x.b0 255]
  let s := (s.setFld (Reg.HC_STAT h) Fld.HC_STAT_STATE 2).count (Reg.HC_HIT_CNT h) Fld.HC_HIT_CNT_COUNT
  let s := s.setHc h { s.hcU h with ahead := [], endAt := tEnd }
  if (s.wchU h).woken then s.setWch h { s.wchU h with hitEnd := some s.time } else s

/-- Whether a hit that ends at `tEnd` can be told: the time has come, and every native sample up to it has been taken (R163, R165). -/
def State.hitDue (s : State) (h : Nat) (tEnd : Nat) : Bool :=
  s.fld (Reg.HC_STAT h) Fld.HC_STAT_STATE == 1 && decide (tEnd ≤ (s.hcNow h).toNat) &&
    (!s.flag (Reg.WCH_STAT h) Fld.WCH_STAT_RUNNING || decide (tEnd < (s.wStamp h (s.wchU h).idx).toNat))

/-- When the hit in progress ends without a further crossing, and whether HMAX ends it (R163). -/
def State.hitOver (s : State) (h : Nat) : Nat × Bool :=
  let quiet := (s.hcU h).tLast.toNat + s.hcHdt h
  let longest := (s.hcU h).tFirst.toNat + s.hcHmax h
  if quiet ≤ longest then (quiet, false) else (longest, true)

/-- HIT (R163, R165): HDT has passed without a crossing, before HMAX has. -/
def hitEnds (s : State) (h : Nat) : State :=
  let e := s.hitOver h
  if !hasHc s.fac.variant h || !s.hitDue h e.1 || e.2 then s else s.endHit h (BitVec.ofNat 64 e.1) false

/-- HIT_TRUNCATED (R163): HMAX has passed since t_first, and no quiet of HDT before it. -/
def hitTruncated (s : State) (h : Nat) : State :=
  let e := s.hitOver h
  if !hasHc s.fac.variant h || !s.hitDue h e.1 || !e.2 then s else s.endHit h (BitVec.ofNat 64 e.1) true

/-- HLT in units of fabric time (R163). -/
def State.hcHlt (s : State) (h : Nat) : Nat := usTime (s.fld (Reg.HC_TIMING0 h) Fld.HC_TIMING0_HLT)

/-- HC_CROSSING (R163): the signal has risen through the threshold in force. A comparator under test is blind (R167). A crossing after the end
of a hit or of a lockout is none of theirs, whether or not HIT or HC_LOCKOUT_END has told that end yet. -/
def hcCrossing (s : State) (h : Nat) (x : Crossing) : State :=
  if !hasHc s.fac.variant h || !s.flag (Reg.HC_CFG h) Fld.HC_CFG_EN || !s.hcWatches h x.neg || (s.hcU h).test.running then s else
  let t := s.hcTime h x.at_ false
  let u := s.hcU h
  let locked := s.count (Reg.HC_LOCK_CNT h) Fld.HC_LOCK_CNT_COUNT
  match s.fld (Reg.HC_STAT h) Fld.HC_STAT_STATE with
  | 0 => s.beginHit h t false
  | 1 =>
    let e := s.hitOver h
    if t.toNat < e.1 then (s.setHc h { u with tLast := t, count := u.count + 1 }).wAbsorb h
    else if t.toNat < e.1 + s.hcHlt h || !s.hitDue h e.1 then locked
    else (s.endHit h (BitVec.ofNat 64 e.1) e.2).beginHit h t false
  | _ => if t.toNat < u.endAt.toNat + s.hcHlt h then locked else s.beginHit h t false

/-! ### Self-test -/

/-- A comparator unit (R166): 0 to 71 the window monitors, 72 to 79 the hit comparators. -/
def State.compTest (s : State) (u : Nat) : CompTest := if u < 72 then (s.wmU u).test else (s.hcU (u - 72)).test

/-- The state with a unit's self-test replaced. -/
def State.setCompTest (s : State) (u : Nat) (t : CompTest) : State :=
  if u < 72 then s.setWm u { s.wmU u with test := t } else s.setHc (u - 72) { s.hcU (u - 72) with test := t }

/-- Whether a unit is present and enabled, with the self-test enabled. -/
def State.compEnabled (s : State) (u : Nat) : Bool :=
  s.flag Reg.CMP_STCFG Fld.CMP_STCFG_EN &&
  (if u < 72 then hasWm s.fac.variant u && s.flag (Reg.WM_CFG u) Fld.WM_CFG_EN
   else hasHc s.fac.variant (u - 72) && s.flag (Reg.HC_CFG (u - 72)) Fld.HC_CFG_EN)

/-- Whether a unit is idle, but for an output that has changed and is still being decided (R166): a monitor resolved, with no transition in
the last 4 decision times; a hit comparator in IDLE. -/
def State.compIdle (s : State) (u : Nat) : Bool :=
  if u < 72 then
    let since : Int := (s.wmTime u s.time false).toNat - (s.wmU u).lastAt.toNat
    s.wmState u != wmUnresolved &&
      decide ((4 * decisionTime (s.fld (Reg.WM_TH u) Fld.WM_TH_MODE) * 2 ^ 32 : Nat) ≤ since * 1000000000)
  else s.fld (Reg.HC_STAT (u - 72)) Fld.HC_STAT_STATE == 0

/-- A test that waits begins (R166): the next falls due 250 ms after it. -/
def State.beginTest (s : State) (u : Nat) : State :=
  s.setCompTest u { s.compTest u with running := true, held := false, nextAt := some (s.time + BitVec.ofNat 64 (msTime 250)) }

/-- COMP_SELF_TEST (R166): a test falls due 250 ms after the one before, and begins at once while its unit is idle. One that fell due while
it was not waits for that, and the first of a unit newly enabled falls due at once (log entry 120, DESIGN CHOICE); `deciding` says that a comparator's output has changed and its new state is being decided. -/
def compSelfTest (s : State) (u : Nat) (deciding : Bool) : State :=
  let c := s.compTest u
  let due := c.held || (match c.nextAt with | none => true | some t => decide (t.toNat ≤ s.time.toNat))
  if 80 ≤ u || !s.compEnabled u || c.running || !due then s
  else if s.compIdle u && !deciding then s.beginTest u
  else s.setCompTest u { c with held := true }

/-- HC_LOCKOUT_END (R163, R166): HLT has passed; a self-test that waited for the comparator to be idle begins, unless its output has changed
and is being decided. -/
def hcLockoutEnd (s : State) (h : Nat) (deciding : Bool) : State :=
  if !hasHc s.fac.variant h || s.fld (Reg.HC_STAT h) Fld.HC_STAT_STATE != 2 || decide ((s.hcNow h).toNat < (s.hcU h).endAt.toNat + s.hcHlt h)
  then s
  else
    let s := s.setFld (Reg.HC_STAT h) Fld.HC_STAT_STATE 0
    if (s.hcU h).test.held && s.compEnabled (72 + h) && !deciding then s.beginTest (72 + h) else s

/-- The source unit of a comparator's events (R171). -/
def compUnit (u : Nat) : Nat := if u < 72 then u else u - 8

/-- A status bit of a comparator unit: ST_FAIL or UNTESTED. -/
def State.setCompFlag (s : State) (u : Nat) (untested b : Bool) : State :=
  if u < 72 then s.setFld (Reg.WM_STAT u) (if untested then Fld.WM_STAT_UNTESTED else Fld.WM_STAT_ST_FAIL) (bit b)
  else s.setFld (Reg.HC_STAT (u - 72)) (if untested then Fld.HC_STAT_UNTESTED else Fld.HC_STAT_ST_FAIL) (bit b)

/-- A monitor takes on the state that its comparators show (R158, R167): from one side to the other it passes through INSIDE. -/
def State.wmReach (s : State) (i new : Nat) (t : Time) : State :=
  let old := s.wmState i
  if wmAdjacent old new then s.wmMove i new t true
  else if wmAdjacent old wmInside && wmAdjacent wmInside new then (s.wmMove i wmInside t true).wmMove i new t true
  else s

/-- COMP_TEST_RELEASE (R166, R167): the test judges its three steps (`failed` is the first that failed, 1 to 3) and releases the
comparator at `t`; `differs` is the state the comparator now shows where that is not the state before the test. A monitor accepts it one
decision time after `t`, and the step is taken then. -/
def compTestRelease (s : State) (u : Nat) (failed : Option Nat) (t : Time) (differs : Option Nat) : State :=
  let c := s.compTest u
  let early := u < 72 && differs.isSome &&
    decide ((s.time.toNat - t.toNat) * 1000000000 < decisionTime (s.fld (Reg.WM_TH u) Fld.WM_TH_MODE) * 2 ^ 32)
  if u ≥ 80 || !c.running || early then s else
  let s := s.setCompTest u
    { c with running := false, fails := if failed.isSome then c.fails + 1 else 0, lastAt := s.time, since := s.time }
  let s := s.setCompFlag u true false
  let s := match failed with
    | some step =>
      let s := if 2 ≤ c.fails + 1 then s.setCompFlag u false true else s
      if c.fails + 1 = 2 then s.emit 0x0220 (compUnit u) [u, step] else s
    | none => s
  let s := s.compTested u failed.isNone
  match differs with
  | none => s
  | some new =>
    if u < 72 then s.wmReach u new (s.wmTime u t true)
    else if s.fld (Reg.HC_STAT (u - 72)) Fld.HC_STAT_STATE = 0 then s.beginHit (u - 72) (s.hcTime (u - 72) t true) true
    else s

/-- COMP_UNTESTED (R166): no test has completed within 1 s. -/
def compUntested (s : State) (u : Nat) : State :=
  if u < 80 && s.compEnabled u && decide (secTime 1 ≤ (s.time - (s.compTest u).since).toNat) then
    let was := if u < 72 then s.flag (Reg.WM_STAT u) Fld.WM_STAT_UNTESTED else s.flag (Reg.HC_STAT (u - 72)) Fld.HC_STAT_UNTESTED
    if was then s
    else ((s.setCompFlag u true true).emit 0x0221 (compUnit u) [u, (s.compTest u).lastAt.toNat]).compUntrusted u
  else s

/-- SYNC_IN_EDGE (R168, R413): an edge of the SYNC_IN ball, timed by its own converter. -/
def syncInEdge (s : State) (t : Time) (rising : Bool) : State :=
  let e := s.fld Reg.CMP_SYNC Fld.CMP_SYNC_EDGE
  if e == 2 || e == (if rising then 0 else 1) then (s.offerTrigger 3 0 t).offerStart 2 0 t else s

/-- A write of WCH_ST_CFG, WCH_ST_PER or WCH_ST_PHASE has committed: the schedule timer's next instant comes after it (R168). -/
def State.startTimerWritten (s : State) (n : Nat) : State := s.setStart n { s.startU n with timerFrom := s.time }

/-- START_SCHEDULE_TIMER (R168): the timer of start unit `n` reaches PHASE + j × PERIOD ms. -/
def startScheduleTimer (s : State) (n : Nat) : State :=
  let per := (s.reg (Reg.WCH_ST_PER n)).toNat
  let ph := (s.reg (Reg.WCH_ST_PHASE n)).toNat
  if !hasWch s.fac.variant n || per = 0 || s.fld (Reg.WCH_ST_CFG n) Fld.WCH_ST_CFG_SRC != 1 then s else
  let j := periodIndex ph per s.time
  if j ≤ periodIndex ph per (s.startU n).timerFrom then s else
  let s := s.setStart n { s.startU n with timerFrom := s.time }
  s.offerStartTo n (BitVec.ofInt 64 (roundDiv ((ph + j * per) * 2 ^ 32) 1000))

end Sys2Proof.Machine
end

