-- ==== Sys2Proof/Machine/RegFile.lean ====
section
/-!
DEFINITION. Reads and writes of BAR0 (R4, R5, R9, R10, R27, R77, R384, R402, R412, R447 to R451): what a write leaves unchanged, what it
does beyond its access type, what a read returns and clears, and the rows for accesses that have no row of their own.
-/
namespace Sys2Proof.Machine

/-! ### What a write leaves unchanged (R27 and the rules that follow it) -/

/-- EXC_AC (R39, R40): HDIV from 3 to 12, BLANK from 1 to half of 2^HDIV. -/
def excAcReject (old v : Word) : Word :=
  let h := getField Fld.EXC_AC_HDIV v
  let b := getField Fld.EXC_AC_BLANK v
  let badH := decide (h < 3) || decide (12 < h)
  let h' := if badH then getField Fld.EXC_AC_HDIV old else h
  let b' := if b = 0 then getField Fld.EXC_AC_BLANK old else b
  let broken := decide (2 ^ h' < 2 * b')
  rejectIf (badH || broken) Fld.EXC_AC_HDIV ||| rejectIf (b == 0 || broken) Fld.EXC_AC_BLANK

/-- A register of an excitation driver (R27, R36, R42 to R44). -/
def State.excReject (s : State) (k rel : Nat) (v : Word) : Word :=
  let late := fun (phase per : Nat) => per != 0 && decide (per ≤ phase)
  let sweep := fun (f : Field) => rejectIf (decide (getField f v < 200) || decide (20000 < getField f v)) f
  match rel with
  | 0x04 => rejectIf (decide (5 ≤ getField Fld.EXC_CTRL_MODE v)) Fld.EXC_CTRL_MODE
  | 0x0C => excAcReject (s.reg (Reg.EXC_AC k)) v
  | 0x10 => rejectIf (getField Fld.EXC_VW_SRC v == 3) Fld.EXC_VW_SRC ||| rejectIf (getField Fld.EXC_VW_PWIDTH v == 0) Fld.EXC_VW_PWIDTH
  | 0x14 => rejectIf (late (s.fld (Reg.EXC_PHASE k) Fld.EXC_PHASE_PHASE) (getField Fld.EXC_PER_PERIOD v)) Fld.EXC_PER_PERIOD
  | 0x18 => sweep Fld.EXC_SWEEP0_F_STOP ||| sweep Fld.EXC_SWEEP0_F_START
  | 0x1C => rejectIf (getField Fld.EXC_SWEEP1_SWEEP_MS v == 0) Fld.EXC_SWEEP1_SWEEP_MS
  | 0x2C => rejectIf (late (getField Fld.EXC_PHASE_PHASE v) (s.fld (Reg.EXC_PER k) Fld.EXC_PER_PERIOD)) Fld.EXC_PHASE_PHASE
  | _ => 0

/-- A register of a P-channel. -/
def State.pchReject (s : State) (n rel : Nat) (v : Word) : Word :=
  match rel with
  | 0x04 => pchCfgReject s.inService (s.reg (Reg.PCH_CFG n)) v
  | 0x10 => pchFmtReject v
  | 0x14 => pchFusCfgReject s.inService (s.reg (Reg.PCH_FUS_CFG n)) v
  | 0x40 => pchStaticCfgReject v
  | 0x44 => rejectIf (decide (getField Fld.PCH_STATIC_TIME_TLEN v < 4096)) Fld.PCH_STATIC_TIME_TLEN
  | _ => 0

/-- Whether a mask of W-channels names one that this variant lacks (R170). -/
def namesAbsentWch (v : Variant) (mask : Nat) : Bool := (List.range 8).any (fun j => bitAt mask j && !hasWch v j)

/-- A register of a W-channel or its start unit (R149, R150, R168, R170, R172). -/
def State.wchReject (s : State) (n rel : Nat) (v : Word) : Word :=
  let late := fun (phase per : Nat) => per != 0 && decide (per ≤ phase)
  match rel with
  | 0x04 => wchCfgReject v
  | 0x40 => rejectIf (getField Fld.WCH_ST_CFG_SRC v == 7) Fld.WCH_ST_CFG_SRC |||
      rejectIf (namesAbsentWch s.fac.variant (getField Fld.WCH_ST_CFG_CH_MASK v)) Fld.WCH_ST_CFG_CH_MASK
  | 0x48 => rejectIf (getField Fld.WCH_ST_LEN_LEN v == 0) Fld.WCH_ST_LEN_LEN
  | 0x4C => rejectIf (late (s.reg (Reg.WCH_ST_PHASE n)).toNat v.toNat) Fld.WCH_ST_PER_PERIOD
  | 0x50 => rejectIf (late v.toNat (s.reg (Reg.WCH_ST_PER n)).toNat) Fld.WCH_ST_PHASE_PHASE
  | _ => 0

/-- A register of a hit comparator (R173). -/
def hcReject (rel : Nat) (v : Word) : Word :=
  match rel with
  | 0x04 => rejectIf (decide (5 ≤ getField Fld.HC_CFG_MODE v)) Fld.HC_CFG_MODE ||| rejectIf (getField Fld.HC_CFG_POL v == 3) Fld.HC_CFG_POL
  | 0x08 => rejectIf (getField Fld.HC_LEVEL_FLOAT_K v == 0) Fld.HC_LEVEL_FLOAT_K
  | 0x10 => rejectIf (getField Fld.HC_TIMING0_HDT v == 0) Fld.HC_TIMING0_HDT
  | 0x14 => let m := getField Fld.HC_TIMING1_HMAX v; rejectIf (m == 0 || decide (1000 < m)) Fld.HC_TIMING1_HMAX
  | _ => 0

/-- A register of the MODE block (R331, R333, R341). A timer whose ON interval is not less than its period, and an EMERG not above CEIL,
are broken relations, so both fields stay. -/
def State.modeReject (rel : Nat) (v : Word) : Word :=
  match rel with
  | 0x008 => rejectIf (getField Fld.MODE_POLICY_BURST_HOLD v == 0) Fld.MODE_POLICY_BURST_HOLD |||
      rejectIf (getField Fld.MODE_POLICY_SURVEY_IDLE v == 0) Fld.MODE_POLICY_SURVEY_IDLE
  | 0x00C =>
    let bad := getField Fld.MODE_TMR_PER v != 0 && decide (getField Fld.MODE_TMR_PER v ≤ getField Fld.MODE_TMR_DUR v)
    rejectIf bad Fld.MODE_TMR_PER ||| rejectIf bad Fld.MODE_TMR_DUR
  | 0x100 => let w := getField Fld.PACER_CFG_WIN v; rejectIf (w == 0 || decide (600 < w)) Fld.PACER_CFG_WIN
  | 0x110 =>
    let bad := decide (getField Fld.PACER_THERM_EMERG v ≤ getField Fld.PACER_THERM_CEIL v)
    rejectIf bad Fld.PACER_THERM_EMERG ||| rejectIf bad Fld.PACER_THERM_CEIL
  | _ => 0

/-- The FIXED enables of RUN, SLEEP and DEEP (R319). -/
def gateFixed (rel : Nat) : Word := if rel = 0x20 then 0x00C3 else if rel = 0x24 then 0x0083 else 0x0001

/-- A register of the clock unit: a FIXED enable that the write would clear stays (R319). -/
def clkReject (rel : Nat) (v : Word) : Word :=
  if rel = 0x20 ∨ rel = 0x24 ∨ rel = 0x28 then gateFixed rel &&& ~~~v else 0

/-- A register of the host interface (R386, R387, R389, R402). -/
def State.hifReject (s : State) (rel : Nat) (v : Word) : Word :=
  let moved := fun (a : Nat) (m : Word) => s.flag Reg.HIF_CMD_CFG Fld.HIF_CMD_CFG_EN && (s.reg a ^^^ v) &&& m != 0
  if rel = 0x14 then
    ((List.range 8).map (fun i => rejectIf (v.toNat / 16 ^ i % 16 == 0) ⟨4 * i + 3, 4 * i⟩)).foldl (· ||| ·) 0
  else if rel = 0x40 then (if moved Reg.HIF_CMD_BASE_LO 0xFFFFFFC0 then 0xFFFFFFC0 else 0)
  else if rel = 0x44 then (if moved Reg.HIF_CMD_BASE_HI 0xFFFFFFFF then 0xFFFFFFFF else 0)
  else if rel = 0x48 then
    rejectIf (decide (getField Fld.HIF_CMD_CFG_SIZE v < 4) || decide (12 < getField Fld.HIF_CMD_CFG_SIZE v)) Fld.HIF_CMD_CFG_SIZE
  else if 0xC0 ≤ rel ∧ rel < 0x100 then rejectIf (getField ⟨23, 16⟩ v == 0) ⟨23, 16⟩
  else 0

/-- The base of an event queue while it is enabled (R402). -/
def State.eqReject (s : State) (q rel : Nat) (v : Word) : Word :=
  let mask : Word := if rel = 0 then 0xFFFFFFC0 else 0xFFFFFFFF
  if (rel = 0 ∨ rel = 4) ∧ s.eqOn q ∧ (s.reg (Reg.EQ_BASE_LO q + rel) ^^^ v) &&& mask ≠ 0 then mask else 0

/-- A register of DRC (R270, R277, R287). -/
def drcReject (rel : Nat) (v : Word) : Word :=
  match rel with
  | 0x004 => drcCfgReject v
  | 0x010 => rejectIf (decide (getField Fld.DRC_ACT_TH_ACT_TH v < 256)) Fld.DRC_ACT_TH_ACT_TH
  | 0x014 => rejectIf (decide (8 < getField Fld.DRC_REF_PP_MAX v)) Fld.DRC_REF_PP_MAX
  | _ => 0

/-- A register of ECC (R302, R303). -/
def State.eccReject (s : State) (rel : Nat) (v : Word) : Word :=
  match rel with
  | 0x004 => rejectIf (getField Fld.ECC_CFG_INTERVAL v == 0) Fld.ECC_CFG_INTERVAL |||
      rejectIf (getField Fld.ECC_CFG_SCRUB_EN v == 0 && !s.inService) Fld.ECC_CFG_SCRUB_EN
  | 0x020 => rejectIf (getField Fld.ECC_SCRUB_VIG_VIG_PERIOD v == 0) Fld.ECC_SCRUB_VIG_VIG_PERIOD |||
      rejectIf (getField Fld.ECC_SCRUB_VIG_VIG_CELLS v == 0) Fld.ECC_SCRUB_VIG_VIG_CELLS
  | 0x038 => rejectIf (getField Fld.ECC_INJ_MODE v != 0 &&
      (!s.inService || (s.spareOf (s.fld Reg.ECC_INJ_ADDR Fld.ECC_INJ_ADDR_CELL)).isSome)) Fld.ECC_INJ_MODE
  | _ => 0

/-- A register of FAB (R350, R355, R367, R372 to R374). -/
def fabReject (rel : Nat) (v : Word) : Word :=
  let zero := fun (f : Field) => rejectIf (getField f v == 0) f
  match rel with
  | 0x004 => zero Fld.FAB_CFG_STALL_T ||| zero Fld.FAB_CFG_TMO ||| zero Fld.FAB_CFG_BER_TH
  | 0x048 => rejectIf (getField Fld.FAB_TIME_CFG_SRC v == 3) Fld.FAB_TIME_CFG_SRC |||
      rejectIf (decide (12 < getField Fld.FAB_TIME_CFG_TC v)) Fld.FAB_TIME_CFG_TC ||| zero Fld.FAB_TIME_CFG_STEP_TH |||
      rejectIf (getField Fld.FAB_TIME_CFG_PTM_PER v == 0 || decide (1000 < getField Fld.FAB_TIME_CFG_PTM_PER v)) Fld.FAB_TIME_CFG_PTM_PER
  | _ => 0

/-- The bits of a register that a write of `v` must leave unchanged: reserved encodings, values out of range, broken relations, fields
that only SERVICE may write. -/
def State.regReject (s : State) (k : UnitKind) (i rel : Nat) (v : Word) : Word :=
  match k with
  | .pch => s.pchReject i rel v
  | .exc => s.excReject i rel v
  | .bank => if 4 ≤ rel ∧ rel ≤ 0x14 then s.bankCfgReject i ((rel - 4) / 4) v else 0
  | .wch => s.wchReject i rel v
  | .wm => if rel = 8 then wmThReject (s.reg (Reg.WM_CFG i)) v else if rel = 4 then wmCfgReject (s.reg (Reg.WM_TH i)) v else 0
  | .hc => hcReject rel v
  | .cmp => if rel = 4 then rejectIf (getField Fld.CMP_STCFG_EN v == 0 && !s.inService) Fld.CMP_STCFG_EN
      else if rel = 8 then rejectIf (getField Fld.CMP_SYNC_EDGE v == 3) Fld.CMP_SYNC_EDGE else 0
  | .eng => if rel = 4 then rejectIf (decide (getField Fld.ENG_CFG_OVR_MULT v < 2)) Fld.ENG_CFG_OVR_MULT |||
        rejectIf (getField Fld.ENG_CFG_STEST_EN v == 0 && !s.inService) Fld.ENG_CFG_STEST_EN
      else 0
  | .str => if 0x100 ≤ rel then rejectIf (getField ⟨30, 29⟩ v == 3) ⟨30, 29⟩ else 0
  | .hr =>
    if rel = 8 then hrCfgReject v
    else if (rel = 0 ∨ rel = 4) ∧ s.flag (Reg.HR_CFG i) Fld.HR_CFG_EN then (if rel = 0 then 0xFFFF0000 else 0xFFFFFFFF) else 0
  | .drc => drcReject rel v
  | .drcport => if rel = 0 then drcTgtReject v else 0
  | .ecc => s.eccReject rel v
  | .mode => State.modeReject rel v
  | .clk => clkReject rel v
  | .saf => if rel = 0x28 then rejectIf (getField Fld.SAF_DTB_BUDGET v == 0) Fld.SAF_DTB_BUDGET else 0
  | .hif => s.hifReject rel v
  | .eq => s.eqReject i rel v
  | .fab => fabReject rel v
  | .fp => if rel = 0 then rejectIf (getField Fld.FP_CFG_RATE v == 3) Fld.FP_CFG_RATE else 0
  | .dev | .alm | .msix | .pba | .snp | .boot | .cal | .cl | .engwin | .res => 0

/-- The CFG_REJ bit that records a refusal, where the unit has one (R27, R341, R402; log entry 26, DEDUCED). -/
def cfgRejOf (k : UnitKind) (i rel : Nat) : Option (Nat × Field) :=
  match k with
  | .pch => some (Reg.PCH_STAT i, Fld.PCH_STAT_CFG_REJ)
  | .exc => some (Reg.EXC_STAT i, Fld.EXC_STAT_CFG_REJ)
  | .bank => some (Reg.BANK_STAT i, Fld.BANK_STAT_CFG_REJ)
  | .wch => some (Reg.WCH_STAT i, Fld.WCH_STAT_CFG_REJ)
  | .wm => some (Reg.WM_STAT i, Fld.WM_STAT_CFG_REJ)
  | .hc => some (Reg.HC_STAT i, Fld.HC_STAT_CFG_REJ)
  | .cmp => if rel = 4 then some (Reg.CMP_STCFG, Fld.CMP_STCFG_CFG_REJ) else none
  | .eng => some (Reg.ENG_STAT, Fld.ENG_STAT_CFG_REJ)
  | .hr => some (Reg.HR_STAT i, Fld.HR_STAT_CFG_REJ)
  | .drc | .drcport => some (Reg.DRC_STAT, Fld.DRC_STAT_CFG_REJ)
  | .ecc => some (Reg.ECC_STAT, Fld.ECC_STAT_CFG_REJ)
  | .mode => some (Reg.MODE_STAT, Fld.MODE_STAT_CFG_REJ)
  | .clk => some (Reg.CLK_STAT, Fld.CLK_STAT_CFG_REJ)
  | .saf | .alm => some (Reg.SAF_STAT, Fld.SAF_STAT_CFG_REJ)
  | .hif => if 0x40 ≤ rel ∧ rel < 0x60 then some (Reg.HIF_CMD_STAT, Fld.HIF_CMD_STAT_CFG_REJ)
      else some (Reg.HIF_STAT, Fld.HIF_STAT_CFG_REJ)
  | .eq => some (Reg.EQ_STAT i, Fld.EQ_STAT_CFG_REJ)
  | .dev | .msix | .pba | .snp | .boot | .cal | .cl | .engwin | .res | .str | .fab | .fp => none

/-- A write by access type (R9, R10) that leaves the bits `rej` unchanged and records a refusal. W1C bits that `v` sets are cleared
first, so that a refusal's own bit stays. -/
def State.typedWrite (s : State) (k : UnitKind) (i rel off : Nat) (d : RegDesc) (v : Word) : State :=
  let rej := s.regReject k i rel v
  let s := (s.writeBits off (BitVec.ofNat 32 d.rw) rej v).writeOnes off (BitVec.ofNat 32 d.w1c) v
  if rej &&& BitVec.ofNat 32 d.rw = 0 then s
  else match cfgRejOf k i rel with
    | some (a, f) => s.raise a f
    | none => s

/-! ### Writes -/

/-- EXC_CTRL (R37, R44): MODE, then FIRE. -/
def State.excCtrlWrite (s : State) (k : Nat) (v : Word) : State :=
  let s := excCtrlModeWrite s k v
  if bitAt v.toNat 31 then excFire s k else s

/-- A hit comparator that EN has just enabled starts its second without a self-test anew (R166). -/
def State.hcEnabled (s : State) (h : Nat) (was : Bool) : State :=
  if was == s.flag (Reg.HC_CFG h) Fld.HC_CFG_EN then s
  else s.setHc h { s.hcU h with test := { (s.hcU h).test with running := false, held := false, since := s.time } }

/-- A budget is written (R331): the rest of the window is taken pro rata from the new value where the present mode uses it. -/
def State.budgetWrite (s : State) (off : Nat) (v : Word) : State :=
  let old := s.budgetOf s.curMode
  let s := s.setReg off v
  let shift := (((s.budgetOf s.curMode : Int) - old) * s.windowLeft).fdiv s.windowLen
  { s with pacer := { s.pacer with budget := s.pacer.budget + shift } }.showPacer

/-- A fabric port is enabled or not, and asks for a rate (R344, R346): a port that is not enabled is DOWN. -/
def State.portCfgWritten (s : State) (p : Nat) (was : Bool) : State :=
  let on := s.flag (Reg.FP_CFG p) Fld.FP_CFG_EN
  if was && !on then
    let up := s.lstate p == lsUp
    let s := (s.clearLink p).setLink p lsDown
    if up then s.topologyChange else s
  else s.requestRate p s.curMode

/-- SAF_FORCE (R446): ALM as written, then SAFE. -/
def State.forceWrite (s : State) (v : Word) : State :=
  let s := safForceAlm s (getField Fld.SAF_FORCE_ALM v)
  if bitAt v.toNat 31 then safForceSafe s else s

/-- ECC_LOG_CTRL (R295, R308): CLR, then SEL. -/
def State.logCtrlWrite (s : State) (who : Reader) (v : Word) : State :=
  let s := if bitAt v.toNat 31 then eccLogClr s else s
  eccLogSel s who (getField Fld.ECC_LOG_CTRL_SEL v)

/-- BOOT_CTRL (R406, R412): FL_RELEASE, then RETRY. -/
def State.bootCtrlWrite (s : State) (v : Word) : State :=
  let s := flReleaseWrite s (v.getLsbD 0)
  if bitAt v.toNat 31 then bootRetry s else s

/-- FAB_CTRL (R364, R367): RESUME, then REELECT. -/
def State.fabCtrlWrite (s : State) (v : Word) : State :=
  let s := vcResumed s (getField Fld.FAB_CTRL_RESUME v)
  if bitAt v.toNat 31 then reelect s else s

/-- An MSI-X vector's control word (PCI Express): unmasking a vector whose pending bit is set sends its message. -/
def State.msixCtrlWritten (s : State) (i : Nat) : State :=
  if !s.flag (Reg.MSIX_CTRL i) Fld.MSIX_CTRL_MASK && s.regBit Reg.MSIX_PBA i && s.hostUp &&
      s.host.pci.msixOn && !s.host.pci.msixMask then
    (s.setBit Reg.MSIX_PBA i false).put (.msix i)
  else s

/-- A write of 0 clears DEV_ABSENT_WR; any other value is ignored (R451, R452). -/
def State.absentCountWrite (s : State) (v : Word) : State := if v = 0 then s.setReg Reg.DEV_ABSENT_WR 0 else s

/-- What a write of a present register does (R9): its own rule, where it has one, or its access type. -/
def State.unitWrite (s : State) (who : Reader) (k : UnitKind) (i rel off : Nat) (d : RegDesc) (v : Word) : State :=
  let t := s.typedWrite k i rel off d v
  match k with
  | .pch =>
    if rel = 0x04 then pchCfgWrite s i v else if rel = 0x10 then pchFmtWrite s i v else if rel = 0x14 then pchFusCfgWrite s i v
    else if rel = 0x18 then pchPlausThWrite s i v else if rel = 0x40 then pchStaticCfgWrite s i v
    else if rel = 0x44 then pchStaticTimeWrite s i v else if rel = 0x48 then pchMtrkWrite s i v
    else if rel = 0x50 then pchSeisCfgWrite s i v else t
  | .exc =>
    if rel = 0x04 then s.excCtrlWrite i v else if rel = 0x08 then excLevelWrite s i v
    else if rel = 0x10 ∨ rel = 0x14 ∨ rel = 0x2C then t.excTimerWritten i else if rel = 0x24 then t.excHoldRefLow i else t
  | .bank => if 4 ≤ rel ∧ rel ≤ 0x14 then bankCfgWrite s i ((rel - 4) / 4) v else t
  | .cal => if rel = 0x04 then s.setLatch Reg.CAL_SEL who [(v &&& 0xC000FF07).toNat] else t
  | .wch => if rel = 0x04 then wchCfgWrite s i v else if rel = 0x40 ∨ rel = 0x4C ∨ rel = 0x50 then t.startTimerWritten i else t
  | .wm => if rel = 0x04 then wmCfgWrite s i false v else if rel = 0x08 then wmCfgWrite s i true v else t
  | .hc =>
    let t := if rel = 0x04 then t.hcEnabled i (s.flag (Reg.HC_CFG i) Fld.HC_CFG_EN) else t
    if rel = 0x04 ∨ rel = 0x08 ∨ rel = 0x0C then (t.showBase i).verifyW i else t
  | .cmp => if rel = 0x04 then t.verifyAll else t
  | .cl =>
    if rel = 0x04 then
      let s := if bitAt v.toNat 1 then clCtrlTest s i else s
      if bitAt v.toNat 0 then clCtrlOffline s i else s
    else t
  | .engwin => if rel = 0 then s.setLatch Reg.ENG_NODE_SEL who [v.toNat % 256] else t
  | .str => if rel = 0x20 then s.setLatch Reg.STR_SEL who [v.toNat % 1024] else t
  | .hr => if rel = 0x08 then hrCfgEnable s i v else if rel = 0x10 then hrTailWrite s i (v.toNat % 2 ^ 25) else t
  | .drc => if rel = 0x04 then drcCfgWrite s v else if rel = 0x10 then t.actThWritten else t
  | .drcport => if rel = 0 then drcPortTgtWrite s i v else t
  | .ecc => if rel = 0x2C then s.logCtrlWrite who v else if rel = 0x38 then eccInjArm s v else t
  | .mode =>
    if rel = 0x008 then t.showHeld else if rel = 0x104 ∨ rel = 0x108 then s.budgetWrite off v
    else if 0x100 ≤ rel ∧ rel ≤ 0x110 then t.showPacer else t
  | .clk => if rel = 0x04 then clkSrcWrite s v else if 0x20 ≤ rel ∧ rel ≤ 0x28 then t.regate.gatePorts else t
  | .saf => if rel = 0x2C then s.forceWrite v else t
  | .alm => if rel < 0x10 then safAlmCfgWrite s i (rel / 4) v else if rel = 0x10 ∧ bitAt v.toNat 27 then safAlmAck s i else t
  | .hif =>
    if rel = 0x48 then cmdRingEnable s v else if rel = 0x4C then cmdDoorbell s (v.toNat % 4096)
    else if rel = 0x84 then s.setLatch Reg.HIF_TYPE_SEL who [v.toNat % 65536] else t
  | .eq => if rel = 0x08 then eqCfgEnable s i v else if rel = 0x10 then eqTailWrite s i (v.toNat % 65536) else t
  | .msix => if rel = 0x0C then t.msixCtrlWritten i else t
  | .boot => if rel = 0x1C then s.bootCtrlWrite v else if rel = 0x24 then (if bitAt v.toNat 31 then mcWdogKick s who else s) else t
  | .fab => if rel = 0x24 then s.fabCtrlWrite v else t
  | .fp => if rel = 0 then t.portCfgWritten i (s.flag (Reg.FP_CFG i) Fld.FP_CFG_EN) else t
  | .dev => if rel = 0x50 then s.absentCountWrite v else t
  | .eng | .snp | .pba | .res => t

/-- A number latched by a reader's selector; 0 until it has written one. -/
def State.selOf (s : State) (reg : Nat) (who : Reader) : Nat := ((s.latched reg who).getD []).headD 0

/-- Whether an offset lies in the BOOT block, which alone answers while BOOT has failed (R412). -/
def inBootBlock (off : Nat) : Bool := match blockAt off with
  | some (b, _) => b.kind == .boot
  | none => false

/-- Whether an offset lies in an absent unit for a reader (R450): the CAL window belongs to the channel or bank whose entry the reader selects. -/
def State.absentTo (s : State) (who : Reader) (off : Nat) : Bool :=
  isAbsent s.fac.variant off || (match blockAt off with
    | some (b, _) => b.kind == .cal && decide (0x40 ≤ (off - b.base) % b.stride) && decide ((off - b.base) % b.stride < 0x80) &&
        calWinAbsent s.fac.variant (BitVec.ofNat 32 (s.selOf Reg.CAL_SEL who))
    | none => false)

/-- The gate of a block's clock (R319, R321): clusters, the DRAM controller, the PCIe core with the host registers, and ports have their own; the
engine and the stream block hang on the network-on-chip; the rest is of the AON domain (log entry 130, DESIGN CHOICE). -/
def blockGate (k : UnitKind) (i : Nat) : Nat :=
  match k with
  | .cl => 2 + i
  | .eng | .engwin | .str | .hr => 6
  | .drc | .drcport => 7
  | .hif | .eq | .msix | .pba => 9
  | .fp => 10 + i
  | .dev | .pch | .res | .exc | .bank | .cal | .wch | .wm | .hc | .cmp | .ecc | .mode | .clk | .saf | .alm | .boot | .fab | .snp => 0

/-- An access reaches the block at an offset, whose gate opens for it (R321). -/
def State.reachAt (s : State) (off : Nat) : State :=
  match blockAt off with
  | some (b, i) => if blockGate b.kind i = 0 then s else s.reach (blockGate b.kind i)
  | none => s

/-- A 32-bit write at a 4-byte-aligned offset (R5, R9, R10, R321, R412, R450): a reserved offset is ignored; the CAL window of an absent unit's
entry is that unit's. -/
def State.writeReg (s : State) (who : Reader) (off : Nat) (v : Word) : State :=
  if s.bootFailed && !inBootBlock off then s
  else if s.absentTo who off then s.absentWrite who off
  else match blockAt off with
    | none => s
    | some (b, i) =>
      let rel := (off - b.base) % b.stride
      let s := s.reachAt off
      match regAt b rel with
      | none => s
      | some d => s.unitWrite who b.kind i rel off d v

/-! ### Reads -/

/-- The first offset and the length of the snapshot region (R381), and of the routing window (R380). -/
def snapBase : Nat := 0x80000
def routeBase : Nat := 0x9000

/-- SAF_STAT.DIAG_OFF (R428, R446): a field that SERVICE alone may set suspends a diagnostic. -/
def State.diagOff (s : State) : Bool :=
  (List.range 64).any (fun n => hasPch s.fac.variant n &&
    (s.flag (Reg.PCH_CFG n) Fld.PCH_CFG_INSEL || !s.flag (Reg.PCH_FUS_CFG n) Fld.PCH_FUS_CFG_PL_EN || s.chMasked n)) ||
  !s.flag Reg.CMP_STCFG Fld.CMP_STCFG_EN || !s.flag Reg.ENG_CFG Fld.ENG_CFG_STEST_EN

/-- The record type's word of HIF_TYPE_INFO (R398, R402): DEFINED and SEVERITY; a completion takes its severity from its status. -/
def typeInfo (t : Nat) : Nat :=
  if t = 0x0600 ∨ t = 0x0601 then 2 ^ 31
  else match severityOf t with
    | some v => 2 ^ 31 + 16 * v
    | none => 0

/-- A 64-bit value read as two words (R161, R328): the low word's read latches both, the high word comes from the latch. -/
def State.pairLow (s : State) (who : Reader) (lo : Nat) (t : Nat) : Nat × State := (t % 2 ^ 32, s.setLatch lo who [t])

/-- The registers that hold the high word of a pair whose low word latches it, by their offset. -/
def pairHigh (off : Nat) : Bool :=
  off == Reg.FAB_TIME_HI || off == Reg.SNP_T_HI || off == Reg.SNP_NEXT_HI || (List.range 4).any (fun p => off == Reg.FP_NBR_HI p)

/-- The same for the low words. -/
def pairLo (off : Nat) : Bool := pairHigh (off + 4)

/-- The word that a register shows to a reader, and the state after a read that latches. -/
def State.showReg (s : State) (who : Reader) (k : UnitKind) (i rel off : Nat) : Nat × State :=
  let w := (s.reg off).toNat
  match k with
  | .res =>
    if rel = 0 then s.readResHi who i else if rel = 4 then s.readResLo who i else if rel = 8 then (s.readResAttr who i, s) else (w, s)
  | .wm => if rel = 0x10 then s.readWmTimeLo who i else if rel = 0x14 then (s.readWmTimeHi who i, s) else (w, s)
  | .wch => if rel = 0x08 then (w / 8 * 8 + 4 * bit s.inHoldover + w % 4, s) else (w, s)
  | .pch => if rel = 0x68 then ((s.coefData i).toNat, s) else (w, s)
  | .cal =>
    let sel := s.selOf Reg.CAL_SEL who
    if rel = 0x04 then (sel, s) else if 0x40 ≤ rel then ((s.calWin (BitVec.ofNat 32 sel) ((rel - 0x40) / 4)).toNat, s) else (w, s)
  | .cl => if rel = 0x0C then (w / 65536 * 65536 + s.busyField i, s) else (w, s)
  | .engwin =>
    let sel := s.selOf Reg.ENG_NODE_SEL who
    if rel = 0 then (sel, s) else (s.nodeWord sel ((rel - 0x40) / 4), s)
  | .str =>
    let sel := s.selOf Reg.STR_SEL who
    if rel = 0x20 then (sel, s) else if 0x40 ≤ rel ∧ rel < 0x60 then (s.streamWord sel ((rel - 0x40) / 4), s) else (w, s)
  | .hif =>
    let sel := s.selOf Reg.HIF_TYPE_SEL who
    let eq := s.fld Reg.HIF_EQ_ROUTE Fld.HIF_EQ_ROUTE_QUEUE / 4 ^ 6 % 4
    if rel = 0x84 then (sel, s) else if rel = 0x88 then (typeInfo sel, s)
    else if rel = 0x48 then (w / 64 * 64 + eq * 16 + w % 16, s) else (w, s)
  | .ecc =>
    if rel = 0x2C then (w / 16 * 16 + s.selOf Reg.ECC_LOG_CTRL who, s)
    else if 0x80 ≤ rel ∧ rel < 0xA0 then (((s.latched Reg.ECC_LOG_CTRL who).getD []).getD (1 + (rel - 0x80) / 4) 0, s)
    else (w, s)
  | .bank =>
    if rel = 0x18 ∧ (s.freeOpen (s.bankU i)).cur != (s.bankU i).cur then ((s.setFld off Fld.BANK_STAT_POINT 12).reg off |>.toNat, s) else (w, s)
  | .drcport => if rel = 0x04 then ((s.showPorts.reg off).toNat, s) else (w, s)
  | .saf => if rel = 0x004 then (w / 2 * 2 + bit s.diagOff, s) else (w, s)
  | .fab | .snp | .fp =>
    if k = .fp ∧ rel = 0x24 then let s := s.rollUtil i; ((s.reg off).toNat, s)
    else if pairLo off then
      s.pairLow who off (if off = Reg.FAB_TIME_LO then s.time.toNat else w + 2 ^ 32 * (s.reg (off + 4)).toNat)
    else if pairHigh off then (s.selOf (off - 4) who / 2 ^ 32, s)
    else (w, s)
  | .boot =>
    if rel = 0x20 then
      let p := s.freeNat 16
      (w / 2 ^ 16 * 2 ^ 16 + p.1, p.2)
    else (w, s)
  | .drc =>
    if rel = 0x08 then ((s.drcStatShown.reg off).toNat, s) else if rel = 0x20 then (s.srShown.toNat, s) else (w, s)
  | .clk =>
    if off = Reg.CLK_STAT then ((s.clkStatShown.reg off).toNat, s)
    else if off = Reg.CLK_GATE_OPEN then (s.openGates.toNat, s) else (w, s)
  | .dev | .mode | .alm | .eq | .msix | .pba | .exc | .hc | .cmp | .eng | .hr => (w, s)

/-- A 32-bit read at a 4-byte-aligned offset (R4, R9, R10, R321, R384, R412): RC bits are cleared once their value is taken; absent units and
reserved offsets read 0. -/
def State.readReg (s : State) (who : Reader) (off : Nat) : Nat × State :=
  if s.bootFailed && !inBootBlock off then (0, s)
  else if s.absentTo who off then (0, s)
  else if snapBase ≤ off ∧ off < 2 * snapBase then (Store.get (fun _ => 0) s.snapRegion (off - snapBase) % 2 ^ 32, s)
  else if routeBase ≤ off ∧ off < routeBase + 0x4000 then
    let a := (off - routeBase) / 4
    let e := s.routeEntry s.epoch a
    ((if a = s.ownAddr && a != 0 then 2 ^ 31 + 2 ^ 27 else e), s)
  else match blockAt off with
    | none => (0, s)
    | some (b, i) =>
      let rel := (off - b.base) % b.stride
      let s := s.reachAt off
      match regAt b rel with
      | none => (0, s)
      | some d =>
        if hardwired off then ((regReset s.fac off).toNat, s) else
        let p := s.showReg who b.kind i rel off
        if d.rc = 0 then p else (p.1, p.2.setReg off (p.2.reg off &&& ~~~(BitVec.ofNat 32 d.rc)))

/-- An access of 4 bytes at a multiple of 4, or of 8 at a multiple of 8 (R384). -/
def accepted (off size : Nat) : Bool := size == 4 && off % 4 == 0 || size == 8 && off % 8 == 0

/-- A read of 1 to 8 bytes (R384): fewer than 4 bytes are bytes of the aligned register; an access that BAR0 does not accept returns a
free value. -/
def State.readAccess (s : State) (who : Reader) (off size : Nat) : Nat × State :=
  if accepted off size then
    let p := s.readReg who off
    if size = 4 then p
    else
      let q := p.2.readReg who (off + 4)
      (p.1 + 2 ^ 32 * q.1, q.2)
  else if size < 4 ∧ off % 4 + size ≤ 4 then
    let p := s.readReg who (off / 4 * 4)
    (p.1 / 256 ^ (off % 4) % 256 ^ size, p.2)
  else s.freeNat (8 * size)

/-- A write of 1 to 8 bytes (R384): one that BAR0 does not accept is ignored and counted. One of 8 bytes is two writes of registers, so in an
absent unit DEV_ABSENT_WR counts two (log entry 115, DESIGN CHOICE). -/
def State.writeAccess (s : State) (who : Reader) (off size data : Nat) : State :=
  if accepted off size then
    let s := s.writeReg who off (BitVec.ofNat 32 data)
    if size = 4 then s else s.writeReg who (off + 4) (BitVec.ofNat 32 (data / 2 ^ 32))
  else if hasHost s.fac.variant && !s.bootFailed then
    (s.count Reg.HIF_BAD_ACC word32).raise Reg.HIF_STAT Fld.HIF_STAT_BAD_ACC_S
  else s

/-! ### The rows -/

/-- REGISTER_WRITE (R9, R384). -/
def registerWrite (s : State) (who : Reader) (off size data : Nat) : State := s.writeAccess who off size data

/-- READ_CLEAR (R9): a read returns its value to the reader and clears what it read of an RC field. -/
def readClear (s : State) (who : Reader) (off size : Nat) : State :=
  let p := s.readAccess who off size
  p.2.returns who off p.1

/-- ABSENT_UNIT_WRITE (R5, R451). -/
def absentUnitWrite (s : State) (who : Reader) (off : Nat) : State :=
  if s.absentTo who off && !s.bootFailed then s.absentWrite who off else s

/-- DEV_ABSENT_WR_CLEAR (R451): a write of 0; a write to an absent unit in the same cycle is counted after it. -/
def devAbsentWrClear (s : State) (also : Option (Reader × Nat)) : State :=
  if s.bootFailed then s else
  let s := s.setReg Reg.DEV_ABSENT_WR 0
  match also with
  | some (who, off) => absentUnitWrite s who off
  | none => s

end Sys2Proof.Machine
end

