-- ==== Sys2Proof/Machine/Image.lean ====
section
/-!
DEFINITION. The semantic validation of an image, the application of its sections, and the end of BOOT (R7, R404, R411, R413, R133, R311).
What the rules leave to be read of a section's records is log entry 27, DEDUCED.
-/
namespace Sys2Proof.Machine

/-! ### Semantic checks (R410 codes 11 to 14, R411, R413) -/

/-- A semantic failure: its code, the section's type, the entry and the absent unit. -/
structure ImgErr where
  code  : Nat
  stype : Nat
  entry : Nat
  unit  : Option Nat := none
deriving DecidableEq, Repr

/-- The blocks that a section's records may write (R409): CHANNELS, FABRIC and HOSTIF name theirs, DEVICE has those that they do not name. -/
def sectionBlock (sect : Nat) (k : UnitKind) : Bool :=
  match k with
  | .pch | .bank | .exc | .wch | .wm | .hc | .cmp => sect == 3
  | .fab | .fp | .clk => sect == 7
  | .hif | .eq | .msix | .pba | .str | .hr => sect == 8
  | .dev | .mode | .saf | .alm | .snp | .boot | .cal | .eng | .cl | .engwin | .drc | .drcport | .ecc | .res => sect == 2

/-- Whether a record's value is one that R413 forbids beyond reserved fields and what a write refuses: fields that SERVICE alone may write
(R177, R406, R446), values out of range, triggers that an alarm output may not name (R434), the base and size registers of a host ring or an
event queue. -/
def recordForbidden (trigs : List Trigger) (g : List NodeDef) (k : UnitKind) (rel : Nat) (v : Word) : Bool :=
  match k with
  | .boot => rel == 0x1C && v.getLsbD 0
  | .saf => rel == 0x2C && v != 0
  | .cl => rel == 0x04 && v.getLsbD 0
  | .clk => rel == 0x04 && decide (4 < getField Fld.CLK_SRC_SEL v)
  | .exc => rel == 0x08 && decide (50000 < getField Fld.EXC_LEVEL_VSET v)
  | .alm => rel == 0 && (!trigAllowed trigs g (getField Fld.SAF_ALM_CFG_TRIG_A v) || !trigAllowed trigs g (getField Fld.SAF_ALM_CFG_TRIG_B v))
  | .hr | .eq => decide (rel ≤ 8)
  | _ => false

/-- What one record does to the checks: its failure, if any, and the registers as it would leave them, so that a relation between fields is
judged against the records before it. -/
def State.recordErr (s : State) (trigs : List Trigger) (g : List NodeDef) (sect off : Nat) (v : Word) : Option (Nat × Option Nat) × State :=
  match blockAt off with
  | none => (some (12, none), s)
  | some (b, i) =>
    let rel := (off - b.base) % b.stride
    let absentW := (List.range 8).find? (fun j => bitAt (getField Fld.WCH_ST_CFG_CH_MASK v) j && !hasWch s.fac.variant j)
    if isAbsent s.fac.variant off then (some (11, some i), s)
    else if off % 4 ≠ 0 ∨ !sectionBlock sect b.kind then (some (12, none), s)
    else match regAt b rel with
      | none => (if v = 0 then none else some (12, none), s)
      | some d =>
        if b.kind = .wch ∧ rel = 0x40 ∧ absentW.isSome then (some (11, absentW), s)
        else if v &&& BitVec.ofNat 32 d.rsv ≠ 0 ∨ s.regReject b.kind i rel v &&& BitVec.ofNat 32 d.rw ≠ 0 ∨
            recordForbidden trigs g b.kind rel v then (some (12, none), s)
        else (none, s.typedWrite b.kind i rel off d v)

/-- The records of a body: 8 bytes each, an offset and a value (R413). -/
def recordsOf (bs : List (BitVec 8)) : List (Nat × Word) :=
  (List.range (bs.length / 8)).map (fun i => (leAt bs (8 * i) 4, BitVec.ofNat 32 (leAt bs (8 * i + 4) 4)))

/-- The failures of a section's records; a body that ends within a record is out of range. -/
def State.recordErrs (s : State) (trigs : List Trigger) (g : List NodeDef) (sect : Nat) (bs : List (BitVec 8)) : List ImgErr :=
  let step := fun (p : List ImgErr × State) (r : (Nat × Word) × Nat) =>
    let q := p.2.recordErr trigs g sect r.1.1 r.1.2
    match q.1 with
    | none => (p.1, q.2)
    | some (c, u) => (p.1 ++ [({ code := c, stype := sect, entry := r.2, unit := u } : ImgErr)], q.2)
  let errs := ((recordsOf bs).zipIdx.foldl step ([], s)).1
  if bs.length % 8 = 0 then errs else errs ++ [{ code := 12, stype := sect, entry := bs.length / 8 }]

/-- A TRIGGERS entry (R413). -/
def triggerAt (bs : List (BitVec 8)) (i : Nat) : Trigger :=
  { num := leAt bs (8 * i) 1, source := leAt bs (8 * i + 1) 1, index := leAt bs (8 * i + 2) 1, action := leAt bs (8 * i + 3) 1,
    lead := leAt bs (8 * i + 4) 4 }

/-- The triggers of a TRIGGERS body. -/
def triggersOf (bs : List (BitVec 8)) : List Trigger := (List.range (bs.length / 8)).map (triggerAt bs)

/-- The failure of a trigger entry, after the entries before it. -/
def triggerErr (v : Variant) (nodes : Nat) (before : List Trigger) (t : Trigger) : Option (Nat × Option Nat) :=
  let range := match t.source with
    | 0 => decide (t.index < nodes)
    | 1 => decide (t.index < 72)
    | 2 => decide (t.index < 8)
    | _ => true
  if (t.source = 1 ∧ t.index < 72 ∧ !hasWm v t.index) ∨ (t.source = 2 ∧ t.index < 8 ∧ !hasHc v t.index) then some (11, some t.index)
  else if 4 < t.source ∨ 3 < t.action ∨ !range ∨ before.any (fun b => b.num == t.num) then some (12, none)
  else none

/-- The failures of the TRIGGERS section. -/
def triggerErrs (v : Variant) (nodes : Nat) (bs : List (BitVec 8)) : List ImgErr :=
  let l := triggersOf bs
  let errs := l.zipIdx.filterMap (fun p => (triggerErr v nodes (l.take p.2) p.1).map
    (fun e => ({ code := e.1, stype := 6, entry := p.2, unit := e.2 } : ImgErr)))
  if bs.length % 8 = 0 then errs else errs ++ [{ code := 12, stype := 6, entry := bs.length / 8 }]

/-- A STREAMS entry (R413): bytes 6 to 21 of the STREAM_OPEN descriptor (R391). -/
def streamAt (bs : List (BitVec 8)) (i : Nat) : OpenParams :=
  let f := fun (o n : Nat) => leAt bs (16 * i + o) n
  { sid := f 0 2, srck := f 2 1, src := f 3 2, segs := f 6 2, dest := f 8 1, dev := f 10 2, hr := f 12 1, ageMs := f 14 2 }

/-- The streams of a STREAMS body. -/
def streamsOfBody (bs : List (BitVec 8)) : List OpenParams := (List.range (bs.length / 16)).map (streamAt bs)

/-- The failures of the STREAMS section, with the pool of the DEVICE section: `t` is the device with the image's graph. -/
def State.streamErrs (t : State) (pool : Nat) (bs : List (BitVec 8)) : List ImgErr :=
  let l := streamsOfBody bs
  let err := fun (p : OpenParams × Nat) =>
    let before := l.take p.2
    let used := (before.map (·.segs)).foldl (· + ·) 0
    let rest := leAt bs (16 * p.2 + 5) 1 + leAt bs (16 * p.2 + 9) 1 + leAt bs (16 * p.2 + 13) 1
    if !t.streamInvalid p.1 && t.sourceAbsent p.1.srck p.1.src then some (11, some (p.1.src % 256))
    else if t.streamInvalid p.1 || rest != 0 || before.any (fun b => b.sid == p.1.sid) || decide (pool < used + p.1.segs) then some (12, none)
    else none
  let errs := l.zipIdx.filterMap (fun p => (err p).map (fun e => ({ code := e.1, stype := 5, entry := p.2, unit := e.2 } : ImgErr)))
  if bs.length % 16 = 0 then errs else errs ++ [{ code := 12, stype := 5, entry := bs.length / 16 }]

/-- The unit that a graph node names and this variant lacks (R7), by its number among the units of its kind (log entry 115, DESIGN CHOICE). -/
def nodeAbsent (v : Variant) (d : NodeDef) : Option Nat :=
  match d.place.find? (fun c => !hasCl v c) with
  | some c => some c
  | none => (d.ins.find? (fun e => e.src.absent v)).map (fun e => match e.src with
    | .channel _ n => n
    | .start u => u
    | .excEnd k => k
    | _ => 0)

/-- One register record, as a write by reader MC; an alarm output's configuration is not closed in BOOT. -/
def State.applyRecord (s : State) (r : Nat × Word) : State :=
  match blockAt r.1 with
  | some (b, _) =>
    let rel := (r.1 - b.base) % b.stride
    if b.kind = .alm ∧ rel < 0x10 then (s.setReg r.1 (r.2 &&& almMasks.getD (rel / 4) 0)).almChanged
    else s.writeReg .mc r.1 r.2
  | none => s

/-- The records of the sections that have some, in the order of the image. -/
def State.imageRecords (s : State) : List (Nat × Word) :=
  s.bootu.sections.flatMap (fun p => match p.1 with
    | 2 => recordsOf (p.2.drop 32)
    | 3 => recordsOf p.2
    | 7 => recordsOf (p.2.drop 1)
    | 8 => recordsOf (p.2.drop 2)
    | _ => [])

/-- Whether cluster `c` is in service once the image's records are applied (R185, R319). -/
def State.serviceAfter (s : State) : Nat → Bool :=
  ((s.imageRecords.filter (fun r => r.1 == Reg.CLK_GATE_RUN)).foldl (fun (s : State) r => s.applyRecord r) s).clInService

/-- The failures of the GRAPH section: absent units per node, and the limits of R179, R185, R203 and R206 (`e` stands for the entry, which
no rule gives there). -/
def graphErrs (v : Variant) (on : Nat → Bool) (g : List NodeDef) (e : Nat) : List ImgErr :=
  g.zipIdx.filterMap (fun p => (nodeAbsent v p.1).map (fun u => ({ code := 11, stype := 4, entry := p.2, unit := some u } : ImgErr))) ++
  (if graphOk on g then [] else [{ code := 13, stype := 4, entry := e }])

/-- The failures of the DEVICE section: its fixed part, then its records. -/
def State.deviceErrs (s : State) (trigs : List Trigger) (g : List NodeDef) (bs : List (BitVec 8)) : List ImgErr :=
  let fixed := bs.length < 32 ∨ 1 < leAt bs 12 1 ∨ leAt bs 13 3 ≠ 0 ∨ leAt bs 28 4 ≠ 0
  (if fixed then [{ code := 12, stype := 2, entry := 0 }] else []) ++ s.recordErrs trigs g 2 (bs.drop 32)

/-- The failures of one section. -/
def State.sectionErrs (s : State) (trigs : List Trigger) (g : List NodeDef) (e : Nat) (p : Nat × List (BitVec 8)) : List ImgErr :=
  let bs := p.2
  match p.1 with
  | 2 => s.deviceErrs trigs g bs
  | 3 => s.recordErrs trigs g 3 bs
  | 4 => graphErrs s.fac.variant s.serviceAfter g e
  | 5 => ({ s with eng := { s.eng with graph := g } }).streamErrs (leAt (s.sectionBody 2) 2 2) bs
  | 6 => triggerErrs s.fac.variant g.length bs
  | 7 => (if bs.length = 0 ∨ 15 < leAt bs 0 1 then [{ code := 12, stype := 7, entry := 0 }] else []) ++ s.recordErrs trigs g 7 (bs.drop 1)
  | 8 => (if bs.length < 2 ∨ 0xFFF < leAt bs 0 2 then [{ code := 12, stype := 8, entry := 0 }] else []) ++ s.recordErrs trigs g 8 (bs.drop 2)
  | 9 => if bs.length = 26368 then [] else [{ code := 14, stype := 9, entry := 0 }]
  | _ => []

/-- The first failure: the lowest code, and among its failures the first in the image. -/
def State.imageErr (s : State) (g : List NodeDef) (e : Nat) : Option ImgErr :=
  let trigs := triggersOf (s.sectionBody 6)
  let errs := s.bootu.sections.flatMap (s.sectionErrs trigs g e)
  ([11, 12, 13, 14].filterMap (fun c => errs.find? (fun x => x.code == c))).head?

/-! ### Application (R404 step 8, R413) -/

/-- The fixed part of DEVICE: the pool, the host region, PACER's profile and baselines, the VIGIL recording region (R14, R243, R331, R385). -/
def State.applyDevice (s : State) (bs : List (BitVec 8)) : State :=
  let pv := leAt bs 16 4
  let ps := leAt bs 20 4
  let s := (s.setFld Reg.STR_POOL Fld.STR_POOL_BASE_MIB (leAt bs 0 2)).setFld Reg.STR_POOL Fld.STR_POOL_SIZE_MIB (leAt bs 2 2)
  let s := { s with host := { s.host with hostBase := leAt bs 4 2, hostMib := leAt bs 6 2 } }
  let s := s.setFld Reg.PACER_CFG Fld.PACER_CFG_COUPLING (leAt bs 12 1)
  let s := (s.setReg Reg.PACER_BASE_V (BitVec.ofNat 32 pv)).setReg Reg.PACER_BASE_S (BitVec.ofNat 32 ps)
  let s := { s with pacer := { s.pacer with baseV := [pv], baseS := [ps] }, bootu := { s.bootu with vigilKib := leAt bs 24 4 },
                    eng := { s.eng with order := leAt bs 12 1 == 1 } }
  s.showStreams

/-- The sections of a valid image are applied: CALSET is copied, then the sections' own parts, then the records in order; the graph is placed on
the clusters that they leave in service. -/
def State.applyImage (s : State) (graphId : Word) (g : List NodeDef) : State :=
  let s := s.loadCalset (bytesWords (s.sectionBody 9))
  let s := s.applyDevice (s.sectionBody 2)
  let s := s.setFld Reg.FAB_CFG Fld.FAB_CFG_PRIO (leAt (s.sectionBody 7) 0 1)
  let s := { s with host := { s.host with home := leAt (s.sectionBody 8) 0 2 }, triggers := triggersOf (s.sectionBody 6) }
  (s.imageRecords.foldl (fun (s : State) r => s.applyRecord r) s).loadGraph graphId g

/-- SEMANTIC_VALIDATION (R404 step 8, R411): `graph` is what the GRAPH section holds, `graphId` its GRAPH_ID; both count for nothing where the
image has no such section. A slot that fails leaves no setting. -/
def semanticValidation (s : State) (graphId : Word) (graph : List NodeDef) : State :=
  if s.inReset || s.bootPhase != 4 || !s.bootu.dramTested || s.causeActive 13 then s else
  let has := s.bootu.sections.any (fun p => p.1 == 4)
  let g := if has then graph else []
  let id := if has then graphId else 0
  let e := s.freeNat 16
  match s.imageErr g e.1 with
  | some x => e.2.failSlot x.code x.stype x.entry x.unit
  | none => ((s.setPhase 5).applyImage id g).setPhase 6

/-! ### The end of BOOT (R404 step 10) -/

/-- A host-attached device with no neighbour is a fabric of its own: address 1 and every role (R357, R358). -/
def State.loneDevice (s : State) : State :=
  if s.ownAddr != 0 || !s.host.pcieEver || (List.range 4).any (fun p => s.talks p) then s else
  let s := (s.setFld Reg.FAB_ADDR Fld.FAB_ADDR_ADDR 1).setRoles 1 0 1 0
  let die := s.fac.dieId.toNat
  let s := { s with fab := { s.fab with mgrDie := die, rootDie := die, given := [(die, 1)],
                                        topo := [{ s.ownDev with addr := 1, parent := die }] } }
  ((s.setFld Reg.FAB_STAT Fld.FAB_STAT_DEPTH 0).setFld Reg.FAB_STAT Fld.FAB_STAT_STATE 1).setFld Reg.FAB_SIZE Fld.FAB_SIZE_DEVICES 1

/-- The offsets that the exchanges with the clock parent have given. -/
def State.upstreamOffsets (s : State) : List Int := if s.clkSel = 0 then [] else (s.portU (s.clkSel - 1)).offsets

/-- Whether the device is timed (R359): the clock root has its own reference; any other device needs a syntonised clock from its upstream port, with no
switch in progress, and fabric time from it. -/
def State.timed (s : State) : Bool :=
  s.loneDevice.flag Reg.FAB_STAT Fld.FAB_STAT_ROOT ||
    (s.clkSel != 0 && s.syntonised && s.clk.switching.isNone && !s.upstreamOffsets.isEmpty)

/-- Fabric time at the end of BOOT (R359, R374): the root's starts at zero; any other device takes that of its upstream port (`t`; `valid`: it has
been set from a source). -/
def State.takeTime (s : State) (t : Time) (valid : Bool) : State :=
  if s.flag Reg.FAB_STAT Fld.FAB_STAT_ROOT then s.retime 0
  else (s.retime t).setFld Reg.FAB_STAT Fld.FAB_STAT_TIME_VALID (bit valid)

/-- The phase of the base index (R85): base sample k at fabric time k / 256 000 s. -/
def State.phaseBase (s : State) : State :=
  let k := s.time.toNat * 256000 / 2 ^ 32
  let since := (s.time.toNat * 256000 % 2 ^ 32) * 64 / 2 ^ 32
  { s with baseIdx := BitVec.ofNat 64 k, sinceBase := since, baseRunning := true }

/-- Filters, sequencers and comparators start (R54, R61, R89, R114, R159, R162). -/
def State.startUnits (s : State) : State :=
  let s := s.phaseBase.restartAllChains 0
  let s := (List.range 64).foldl (fun (s : State) n => if hasPch s.fac.variant n then s.loadPlaus n else s) s
  let s := (List.range 8).foldl (fun (s : State) m => s.startBank m) s
  let s := (List.range 8).foldl (fun (s : State) h => if hasHc s.fac.variant h then s.showBase h else s) s
  s.startMonitors.startClusters

/-- PACER's first window (R331, R334): the pool full, the window as far as it has gone. -/
def State.startPacer (s : State) : State :=
  let s := { s with pacer := { s.pacer with
    pool := s.poolMax, windowStart := BitVec.ofNat 64 s.windowBegin, lastEval := s.time } }
  { s with pacer := { s.pacer with budget := s.budgetOf s.curMode } }.showPacer

/-- The start mode is entered (R311), SAFE_N released; a device that SMON has taken to SAFE goes there instead. -/
def State.enterStart (s : State) : State :=
  if s.smon.inSafe then s else
  let target := if s.flag Reg.MODE_POLICY Fld.MODE_POLICY_START then modeSurvey else modeVigil
  ((if s.clk.mcdFired then s else s.driveSafeN false).beginChange target 0 0 none)

/-- The fabric time that a device takes from upstream, and whether it has been set from a source (R369, R374). The exchanges with the clock
parent give its low 32 bits, less their mean offset; the rest they do not carry, and is free (log entry 114, DESIGN CHOICE). -/
def State.upstreamTime (s : State) : (Time × Bool) × State :=
  let a := s.freeNat 64
  let b := a.2.freeNat 1
  let offsets := s.upstreamOffsets
  let low := (BitVec.ofInt 32 ((s.time.toNat : Int) - meanOf offsets)).toNat
  let t := if offsets.isEmpty then a.1 else a.1 / 2 ^ 32 * 2 ^ 32 + low
  ((BitVec.ofNat 64 t, b.1 == 1), b.2)

/-- The end of BOOT (R404 step 10) with the fabric time of upstream: fabric time and the base index take their phase, everything starts, the
STREAMS section's streams open, the start mode is entered. -/
def State.endBoot (s : State) (t : Time) (valid : Bool) : State :=
  let us := usSince s.bootu.startTime s.time
  let s := ((s.loneDevice.takeTime t valid).startUnits.judgeSpare).startPacer
  let s := (streamsOfBody (s.sectionBody 5)).foldl (fun (s : State) p => s.openStream p) s
  let s := if hasHost s.fac.variant then s.raise Reg.HIF_STAT Fld.HIF_STAT_READY else s
  let s := (s.setReg Reg.BOOT_IMG (BitVec.ofNat 32 s.bootu.imageId)).setReg Reg.BOOT_TIME (BitVec.ofNat 32 us)
  let s := (s.setPhase 7).enterStart
  let s := ({ s with smon := { s.smon with running := true } }).verifyAll
  s.emit 0x0052 0 [bit s.bootu.slotB, s.bootu.imageId, us, s.fld Reg.CAL_STAT Fld.CAL_STAT_BAD,
    s.fld Reg.BOOT_STAT Fld.BOOT_STAT_CAUSE]

/-- BOOT_DONE (R404): BOOT ends once the device is timed. -/
def bootDone (s : State) : State :=
  if s.inReset || s.bootPhase != 6 || !s.timed then s else
  let u := s.upstreamTime
  u.2.endBoot u.1.1 u.1.2

end Sys2Proof.Machine
end

