-- ==== Sys2Proof/Machine/Snapshots.lean ====
section
/-!
DEFINITION. STARTER snapshots (R376 to R378) and the snapshot region (R453, R454).
-/
namespace Sys2Proof.Machine

def opSnapshotArm : Nat := 0x0030

/-- SNAPSHOT_ARM (R376). -/
def snapshotArm (s : State) (src : CmdSrc) (tag : Nat) (t : Time) (id : Nat) (all : Bool) : State :=
  let done := fun (s : State) (c : Completion) => s.settle src opSnapshotArm tag c
  let p : SnapPend := { t := t, id := id % 65536, origin := s.ownAddr }
  if s.curMode = modeBoot then done s (s.stateStatus 0x3E)
  else if t.toNat < s.time.toNat + s.snapLead then done s { status := stInvalid }
  else if 4 ≤ s.snp.length then done s { status := stBusy }
  else done (if all then s.broadcastStarter p else s.armSnapshot p) { status := stOk }

/-- STARTER (R376, R378). -/
def starter (s : State) (t : Time) (id origin : Nat) : State :=
  s.takeStarter { t := t, id := id % 65536, origin := origin % 4096 }

/-! ### The region -/

/-- The two words of a value (R453). -/
def valuePair (v : Option (Nat × Nat)) : List Nat :=
  match v with
  | none => [0, 0]
  | some (x, attr) => [x % 2 ^ 32, x / 2 ^ 32 % 256 + attr % 256 * 2 ^ 8 + 2 ^ 16]

/-- The two words of a 64-bit number. -/
def pair64 (n : Nat) : List Nat := [n % 2 ^ 32, n / 2 ^ 32 % 2 ^ 32]

/-- A value pair with the timestamp of its output. -/
def stampedPair (v : Option (Nat × Nat × Time)) : List Nat :=
  valuePair (v.map (fun x => (x.1, x.2.1))) ++ pair64 ((v.map (fun x => x.2.2.toNat)).getD 0)

/-- The 16 words of a P-channel. -/
def State.snapPch (s : State) (n : Nat) : List Nat :=
  if !hasPch s.fac.variant n then [] else
  let u := s.pchU n
  let base := u.newest.map (fun x => (codeFull x.marks.seUni (ovrValue x.marks x.val), attrByte (attrsOf u x.marks)))
  valuePair base ++ pair64 ((u.newest.map (fun x => x.marks.last)).getD 0) ++ stampedPair u.snapStat ++ stampedPair u.snapSeis
    ++ stampedPair u.snapMon

/-- The 8 words of a W-channel. -/
def State.snapWch (s : State) (n : Nat) : List Nat :=
  if !hasWch s.fac.variant n then [] else
  let w := s.wchU n
  let head := w.line.head?
  let attr := fun (x : WSample) => attrByte { ovr := x.ovr, service := x.service, holdover := x.holdover, poison := x.poison }
  valuePair (head.map (fun x => (twos 20 x.val, attr x))) ++ pair64 ((head.map (·.idx)).getD 0) ++ stampedPair w.snap

/-- Words of the region from an offset on. -/
def wordsAt (off : Nat) (l : List Nat) : List (Nat × Nat) := l.zipIdx.map (fun p => (off + 4 * p.2, p.1))

/-- Every word of the region but the first, the second and their copy, by its offset in the region (R453). -/
def State.snapWords (s : State) (t : Time) : List (Nat × Nat) :=
  let r := fun (a : Nat) => (s.reg a).toNat
  let v := s.fac.variant
  wordsAt 8 (pair64 t.toNat ++ [r Reg.MODE_STAT, r Reg.CLK_STAT % 2 ^ 16 + r Reg.FAB_STAT / 2 ^ 16 * 2 ^ 16]) ++
  wordsAt 0x20 ((List.range 6).map (fun i => r (Reg.PACER_E i))) ++
  (List.range 64).flatMap (fun n => wordsAt (0x1000 + 0x40 * n) (s.snapPch n)) ++
  (List.range 8).flatMap (fun n => wordsAt (0x2000 + 0x20 * n) (s.snapWch n)) ++
  (List.range 72).flatMap (fun i => if hasWm v i then wordsAt (0x3000 + 8 * i) [r (Reg.WM_STAT i), r (Reg.WM_CNT i)] else []) ++
  (List.range 8).flatMap (fun h => if hasHc v h then wordsAt (0x3400 + 8 * h) [r (Reg.HC_STAT h), r (Reg.HC_HIT_CNT h)] else []) ++
  (List.range 8).flatMap (fun m => if hasBank v m then
    wordsAt (0x3800 + 0x10 * m) [r (Reg.BANK_STAT m), r (Reg.BANK_TEMP m), r (Reg.BANK_S m), r (Reg.BANK_M m)] else [])

/-- A store of the words that are not 0. -/
def wordStore (l : List (Nat × Nat)) : Store Nat := l.foldl (fun m p => Store.set (fun _ => 0) m p.1 p.2) []

/-- SNAP_DONE (R377, R453): the region is replaced whole. -/
def snapDone (s : State) : State :=
  match s.snapNext with
  | none => s
  | some (p, words) =>
    let seq := (s.fld Reg.SNP_ORIGIN Fld.SNP_ORIGIN_SEQ + 1) % 65536
    let first := seq * 2 ^ 16 + p.id
    let region := Store.set (fun _ => 0) (Store.set (fun _ => 0) (Store.set (fun _ => 0) words 0 first) 4 (p.origin * 2 ^ 16 + s.ownAddr)) 0x4FFC first
    let s := { s with snapRegion := region, snapNext := none }
    let s := (s.setFld Reg.SNP_ORIGIN Fld.SNP_ORIGIN_SEQ seq).setFld Reg.SNP_ORIGIN Fld.SNP_ORIGIN_ORIGIN p.origin
    let s := (s.setFld Reg.SNP_STAT Fld.SNP_STAT_LAST_ID p.id).raise Reg.SNP_STAT Fld.SNP_STAT_VALID
    let s := (s.clear Reg.SNP_STAT Fld.SNP_STAT_BUSY).raise Reg.SNP_STAT Fld.SNP_STAT_DONE_S
    (s.setPair Reg.SNP_T_LO Reg.SNP_T_HI p.t.toNat).emit 0x0450 0xFF [p.id, p.origin, p.t.toNat]

/-- The pending snapshot whose T comes first. -/
def State.firstPending (s : State) : Option SnapPend :=
  s.snp.foldl (fun (b : Option SnapPend) (p : SnapPend) => match b with
    | none => some p
    | some q => if p.t.toNat < q.t.toNat then some p else some q) none

/-- SNAPSHOT_LATCH (R377): fabric time has reached the earliest pending T; a latching still in progress completes first. -/
def snapshotLatch (s : State) : State :=
  let s := if s.firstPending.any (fun p => decide (p.t.toNat ≤ s.time.toNat)) then snapDone s else s
  match s.firstPending with
  | none => s
  | some p =>
    if s.time.toNat < p.t.toNat then s else
    let s := { s with snp := s.snp.erase p, snapNext := some (p, wordStore (s.snapWords p.t)) }
    s.showPending.raise Reg.SNP_STAT Fld.SNP_STAT_BUSY

end Sys2Proof.Machine
end

