-- ==== Sys2Proof/Machine/Commands.lean ====
section
/-!
DEFINITION. Commands and remote accesses (R6, R129, R137, R142, R315, R354, R355, R389 to R396, R417): descriptors and the checks on
them, the command ring, register commands, RELOAD, the completion records, and the packets that carry commands and accesses between devices.
DESCRIPTOR_FETCH and COMMAND_PACKET_RX check a descriptor and put the command in flight; the command's own row then does what its rule
says and decides it (log entry 23, DEDUCED).
-/
namespace Sys2Proof.Machine

/-! ### Descriptors (R390 to R392) -/

/-- A little-endian number of a descriptor: `n` bytes from byte `i`. -/
def descField (d : BitVec 256) (i n : Nat) : Nat := d.toNat / 2 ^ (8 * i) % 2 ^ (8 * n)

/-- A command's opcode, tag and target. -/
def descOp (d : BitVec 256) : Nat := descField d 0 2
def descTag (d : BitVec 256) : Nat := descField d 2 2
def descTarget (d : BitVec 256) : Nat := descField d 4 2 % 2 ^ 12

/-- The bytes that each opcode's parameters take (R391), from and to; none for an unknown opcode. -/
def paramBytes (op : Nat) : Option (List (Nat × Nat)) :=
  match op with
  | 0x0001 | 0x0002 => some [(6, 6)]
  | 0x0003 | 0x0043 => some []
  | 0x0010 => some [(6, 15)]
  | 0x0011 => some [(6, 6), (8, 11)]
  | 0x0012 => some [(6, 6), (8, 19)]
  | 0x0020 => some [(6, 10), (12, 14), (16, 18), (20, 21)]
  | 0x0021 | 0x0041 => some [(6, 7)]
  | 0x0022 => some [(6, 31)]
  | 0x0030 => some [(6, 16)]
  | 0x0040 | 0x0042 => some [(6, 12)]
  | _ => none

/-- Whether every byte that the table does not name is 0, and bits 15:12 of the target. -/
def unusedZero (spans : List (Nat × Nat)) (d : BitVec 256) : Bool :=
  descField d 4 2 < 2 ^ 12 &&
  (List.range 26).all (fun i => spans.any (fun p => p.1 ≤ i + 6 && i + 6 ≤ p.2) || descField d (i + 6) 1 == 0)

/-- Whether a register access names a size and an aligned offset of BAR0 (R384). -/
def accessOk (size off : Nat) : Bool := size ≤ 1 && decide (off < 2 ^ 20) && off % (if size = 1 then 8 else 4) == 0

/-- Parameters of STREAM_OPEN. -/
def descOpen (d : BitVec 256) : OpenParams :=
  { sid := descField d 6 2, srck := descField d 8 1, src := descField d 9 2, segs := descField d 12 2, dest := descField d 14 1,
    dev := descField d 16 2, hr := descField d 18 1, ageMs := descField d 20 2 }

/-- Whether a field holds a reserved or out-of-range value (R391 and the commands' own rules). -/
def State.badField (s : State) (d : BitVec 256) : Bool :=
  let f := descField d
  match descOp d with
  | 0x0001 => f 6 1 == 0 || decide (4 < f 6 1)
  | 0x0002 => f 6 1 != 1 && f 6 1 != 2
  | 0x0010 => f 7 1 == 0 || decide (23 < f 7 1)
  | 0x0011 | 0x0012 => !accessOk (f 6 1) (f 8 4)
  | 0x0020 => let p := descOpen d; if p.srck = 4 then s.streamInvalid { p with srck := 0, src := 0 } else s.streamInvalid p
  | 0x0021 => decide (1024 ≤ f 6 2)
  | 0x0022 => f 28 4 % 2 ^ 8 != 0 || bitAt (f 28 4) 11 || f 28 4 / 2 ^ 29 % 4 == 3
  | 0x0030 => decide (1 < f 16 1)
  | 0x0040 => decide (7 < f 6 1) || decide (11 < f 7 1) || decide (1 < f 12 1)
  | 0x0041 | 0x0042 => decide (63 < f 6 1) || decide (64 < f 7 1)
  | _ => false

/-- Whether the command names an absent unit of this device (R6). -/
def State.namesAbsent (s : State) (d : BitVec 256) : Bool :=
  let f := descField d
  match descOp d with
  | 0x0020 => s.sourceAbsent (f 8 1) (f 9 2)
  | 0x0040 => !hasBank s.fac.variant (f 6 1)
  | 0x0041 | 0x0042 => !hasPch s.fac.variant (f 6 1)
  | _ => false

/-- The modes that accept an opcode with these parameters, as the mask of R315. -/
def acceptMask (op target off : Nat) : Nat :=
  if op = 0x0001 then modeSetMask target
  else if op = 0x0002 then 0x20
  else if op = 0x0003 ∨ op = 0x0011 then 0x3F
  else if op = 0x0012 then (if 0x3000 ≤ off ∧ off < 0x4000 then 0x3E else 0x1E)
  else if op = 0x0030 ∨ op = 0x0040 then 0x3E
  else if op = 0x0041 ∨ op = 0x0042 ∨ op = 0x0043 then 0x10
  else 0x1E

/-- Step 1 of R392: the detail of INVALID, if the command's form or target is wrong. -/
def State.formError (s : State) (d : BitVec 256) (poisoned : Bool) : Option Nat :=
  let target := descTarget d
  match paramBytes (descOp d) with
  | none => some 1
  | some spans =>
    if poisoned then some 4
    else if !unusedZero spans d then some 2
    else if s.badField d then some 2
    else if target = 0xFFF ∨ (target ≠ 0 ∧ target ≠ s.ownAddr ∧ (s.routePort s.epoch target).isNone) then some 3
    else none

/-- Steps 2 and 3 of R392 on the device that executes the command. A mode command that comes during a change waits for it (R313), and
register commands make their access (R354), so both are left to their own rows. -/
def State.entryError (s : State) (d : BitVec 256) : Option Completion :=
  let op := descOp d
  let mask := acceptMask op (descField d 6 1) (descField d 8 4)
  if s.namesAbsent d then some { status := stAbsent }
  else if op = 0x0011 ∨ op = 0x0012 ∨ ((op = 0x0001 ∨ op = 0x0002) ∧ s.changing) then none
  else if !bitAt mask s.curMode then some (s.stateStatus mask)
  else none

/-- Completion records that a command can need: its own, its continuations (R391), and an ORIGIN record (R393). -/
def slotsFor (d : BitVec 256) : Nat :=
  if descOp d = 0x0022 then 2 + (descField d 28 4 / 2 ^ 8 % 8 + 1) else if descOp d = 0x0041 then 3 else 2

/-- DESCRIPTOR_FETCH (R389, R392, R393): `d` is the descriptor at HEAD, `poisoned` whether it came so. The MC takes it once no command before
it is still to be decided at once and the completion queue has room for what it can need; after a RELOAD it is discarded; otherwise it is in flight, decided at once where a check of R392 decides
it. A command for another device travels as a COMMAND packet (R394), REG_READ and REG_WRITE by their own rows (R395). AER logs a
poisoned one (R382; the bit is PCI Express's: log entry 136, PRESUMED). -/
def descriptorFetch (s : State) (d : BitVec 256) (poisoned : Bool) : State :=
  let head := s.fld Reg.HIF_CMD_HEAD Fld.HIF_CMD_HEAD_HEAD
  if !s.hostUp || !s.bootu.mcRunning || !s.flag Reg.HIF_CMD_CFG Fld.HIF_CMD_CFG_EN || s.cmdWaiting == 0 ||
      decide (16 ≤ s.host.inflight.length) || s.host.inflight.any InFlight.startsAlone then s else
  let room := match s.routeQueue 6 with
    | some q => decide (slotsFor d < s.eqFree q)
    | none => false
  if !room then s.raise Reg.HIF_CMD_STAT Fld.HIF_CMD_STAT_WAIT_EQ else
  let s := (s.clear Reg.HIF_CMD_STAT Fld.HIF_CMD_STAT_WAIT_EQ).setFld Reg.HIF_CMD_HEAD Fld.HIF_CMD_HEAD_HEAD ((head + 1) % s.cmdSize)
  if s.host.inflight.any (fun e => e.opcode == 0x0003 && e.target == 0) then s else
  let s := if poisoned then { s with host := { s.host with pci := { s.host.pci with aer := s.host.pci.aer ||| 2 ^ 12 } } } else s
  let op := descOp d
  let target := if descTarget d = s.ownAddr then 0 else descTarget d
  let e : InFlight := { src := .ring, opcode := op, tag := descTag d, target := target, slots := slotsFor d }
  let decided := match s.formError d poisoned with
    | some k => some ({ status := stInvalid, detail := k } : Completion)
    | none => if target = 0 then s.entryError d else none
  match decided with
  | some c => s.setInflight (s.host.inflight ++ [{ e with done := some { c with time := s.time } }])
  | none =>
    let s := s.setInflight (s.host.inflight ++ [e])
    if target = 0 ∨ op = 0x0011 ∨ op = 0x0012 then s
    else s.request (.forward .ring op (descTag d))
      { ptype := ptCommand, dst := target, src := 0, payload := [d.toNat % 2 ^ 240, d.toNat / 2 ^ 240], poison := [false, false] }

/-- The records of a completion with the device they come from: this one, or the one that sent it. -/
def State.completionOf (s : State) (e : InFlight) (c : Completion) : List Rec :=
  let addr := if e.target = 0 then s.ownAddr else e.target
  (completionRecs addr e.tag c).map (fun r => match e.origin with
    | some (a, die) => { r with remote := true, origin := a, die := die }
    | none => { r with origin := s.ownAddr, die := s.fac.dieId.toNat })

/-- COMPLETION (R393, R396): the oldest command in flight has been decided; its records go to the completion queue in the slots reserved for
them. A RELOAD's is the last before BOOT begins (R417). -/
def completion (s : State) : State :=
  match s.host.inflight with
  | [] => s
  | e :: rest =>
    match e.done, s.canWrite 6 with
    | some c, some q =>
      let recs := s.completionOf e c
      let t := s.setInflight rest
      let n := recs.length + bit (t.originNeeded q (recs.headD (mkRec 0x0600 0 c.time [])))
      if !s.bootu.mcRunning || decide (t.eqFree q < n) then s else
      let t := recs.foldl (fun (t : State) r => t.putWithOrigin q r) t
      let t := (t.count Reg.HIF_CMD_CNT Fld.HIF_CMD_CNT_COUNT).checkResume q
      if e.opcode = 0x0003 ∧ e.target = 0 ∧ c.status = stOk then (t.warmReset true).beginBoot 2 else t
    | _, _ => s

/-! ### Commands that have no unit of their own -/

/-- RELOAD (R393, R417). A command of another device's ring has its completion on its way before BOOT begins; for this device's ring, COMPLETION
writes it and begins BOOT. -/
def reload (s : State) (src : CmdSrc) (tag : Nat) : State :=
  if !s.bootu.mcRunning then s else
  let s := s.settle src 0x0003 tag { status := stOk }
  match src with
  | .ring => s
  | .remote _ => (s.warmReset true).beginBoot 2

/-- Whether a target names this device. -/
def State.isHere (s : State) (target : Nat) : Bool := target == 0 || target == s.ownAddr

/-- An access of another device's registers (R395): a READ or WRITE packet; without a route it is INVALID, TARGET. -/
def State.remoteAccess (s : State) (src : CmdSrc) (op tag target size : Nat) (pk : Packet) : State :=
  if target = 0xFFF ∨ (s.routePort s.epoch target).isNone then s.settle src op tag { status := stInvalid, detail := 3 }
  else (s.accept src op tag target).request (.command src op tag size) pk

/-- REG_READ (R395): `size` 0 is 4 bytes, 1 is 8; a local one acts as reader MC. -/
def regRead (s : State) (src : CmdSrc) (tag target size off : Nat) : State :=
  if !accessOk size off then s.settle src 0x0011 tag { status := stInvalid, detail := 2 }
  else if !s.isHere target then
    s.remoteAccess src 0x0011 tag target size { ptype := ptRead, dst := target, src := 0, tspec := accessTs 0 (2 ^ 35 + off) size }
  else if s.absentTo .mc off then s.settle src 0x0011 tag { status := stAbsent }
  else
    let p := s.readAccess .mc off (4 + 4 * size)
    p.2.settle src 0x0011 tag { status := stOk, result := leBytes 8 p.1 }

/-- Whether an offset lies in the routing window (R361, R380). -/
def inRouteWindow (off : Nat) : Bool := decide (routeBase ≤ off) && decide (off < routeBase + 0x4000)

/-- REG_WRITE (R315, R361, R395). A write to an absent unit is counted, as a remote one is (R5, R354; log entry 28, DEDUCED). -/
def regWrite (s : State) (src : CmdSrc) (tag target size off data : Nat) : State :=
  if !accessOk size off then s.settle src 0x0012 tag { status := stInvalid, detail := 2 }
  else if !s.isHere target then
    s.remoteAccess src 0x0012 tag target size
      { ptype := ptWrite, dst := target, src := 0, tspec := accessTs 0 (2 ^ 35 + off) size, payload := [data % 2 ^ (32 + 32 * size)], poison := [false] }
  else if s.absentTo .mc off then (s.writeAccess .mc off (4 + 4 * size) data).settle src 0x0012 tag { status := stAbsent }
  else if !bitAt (acceptMask 0x0012 0 off) s.curMode then s.settle src 0x0012 tag (s.stateStatus (acceptMask 0x0012 0 off))
  else if inRouteWindow off then s.settle src 0x0012 tag { status := stRefused }
  else (s.writeAccess .mc off (4 + 4 * size) data).settle src 0x0012 tag { status := stOk }

/-- CHK_CONVERT (R129). -/
def chkConvert (s : State) (src : CmdSrc) (tag bank point window : Nat) (urgent : Bool) : State :=
  if 7 < bank ∨ 11 < point then s.settle src 0x0040 tag { status := stInvalid, detail := 2 }
  else if !hasBank s.fac.variant bank then s.settle src 0x0040 tag { status := stAbsent }
  else if s.curMode = modeBoot then s.settle src 0x0040 tag (s.stateStatus 0x3E)
  else s.requestConversion bank urgent { src := src, tag := tag, point := point, len := window }

/-- CAL_SYSTEM_ZERO and CAL_SYSTEM_FULL (R137). -/
def State.calSystem (s : State) (src : CmdSrc) (tag ch n : Nat) (full : Bool) (t : Int) : State :=
  let op := if full then 0x0042 else 0x0041
  if 63 < ch ∨ 64 < n then s.settle src op tag { status := stInvalid, detail := 2 }
  else if !hasPch s.fac.variant ch then s.settle src op tag { status := stAbsent }
  else if !s.inService then s.settle src op tag (s.stateStatus 0x10)
  else s.requestCalibration src tag ch n full t

/-- CAL_SYSTEM_ZERO (R137, R138). -/
def calSystemZero (s : State) (src : CmdSrc) (tag ch n : Nat) : State := s.calSystem src tag ch n false 0

/-- CAL_SYSTEM_FULL (R137, R139). -/
def calSystemFull (s : State) (src : CmdSrc) (tag ch n : Nat) (t : Int) : State := s.calSystem src tag ch n true t

/-- CAL_COMMIT (R142). -/
def calCommit (s : State) (src : CmdSrc) (tag : Nat) : State :=
  if !s.inService then s.settle src 0x0043 tag (s.stateStatus 0x10) else s.requestCommit src tag

/-! ### Packets that carry commands and accesses (R354, R355, R394, R395) -/

/-- The completion that a RESPONSE to a register access stands for (R395). Status POISON, which no register access gives, becomes INVALID,
POISON. -/
def accessCompletion (op size : Nat) (pk : Packet) : Completion :=
  match pk.status with
  | 0 => { status := stOk, result := if op = 0x0011 then leBytes 8 (pk.payload.headD 0 % 2 ^ (32 + 32 * size)) else [] }
  | 1 => { status := stAbsent }
  | 2 => { status := stInvalid, detail := 5 }
  | 4 => { status := stInvalid, detail := 4 }
  | _ => { status := stRefused }

/-- RESPONSE_RX (R355, R394, R395): the answer ends a request; a forwarded command runs on at its target. -/
def responseRx (s : State) (pkt : Packet) : State :=
  match s.findRequest pkt.tag pkt.src with
  | none => s
  | some r =>
    let s := s.dropRequest pkt.tag pkt.src
    match r.client with
    | .command src op tag size => s.settle src op tag (accessCompletion op size pkt)
    | .forward src op tag => if pkt.status = 0 then s else s.settle src op tag { status := stRefused }
    | .event | .stream _ | .mgmt => s

/-- REQUEST_TIMEOUT (R355): unanswered within TMO, the first time the request is sent once more with the same TAG; the second time it completes as a timeout. -/
def requestTimeout (s : State) (tag : Nat) : State :=
  match s.fab.reqs.find? (fun r => r.tag == tag && decide (0 < r.tries) && decide (s.tmo ≤ (s.time - r.at_).toNat)) with
  | none => s
  | some r =>
    if r.tries = 1 then
      let again := fun (q : OutReq) => if q.tag = r.tag ∧ q.dst = r.dst then { q with tries := 2, at_ := s.time } else q
      ({ s with fab := { s.fab with reqs := s.fab.reqs.map again } }).inject r.pkt
    else
      let s := ((s.dropRequest r.tag r.dst).count Reg.FAB_CNT Fld.FAB_CNT_TIMEOUTS).raise Reg.FAB_STAT Fld.FAB_STAT_TIMEOUT_S
      match r.client with
      | .command src op t _ | .forward src op t => s.settle src op t { status := stRefused, detail := 10 }
      | .event => s.eventBack tag
      | .stream sid => s.askAgain sid
      | .mgmt => s

/-- REQUEST_TIMEOUT (R355), after which a manager goes on with its moves (R363). -/
def requestTimedOut (s : State) (tag : Nat) : State := (requestTimeout s tag).nextMove

/-- COMMAND_PACKET_RX (R394): a repeat is answered from the answer kept; else the command is accepted, answered, and checked as R392 says. -/
def commandPacketRx (s : State) (origin tag : Nat) (d : BitVec 256) : State :=
  if !s.bootu.mcRunning then s else
  let ask : Packet := { ptype := ptCommand, dst := s.ownAddr, src := origin, tspec := tag % 256 }
  match s.keptAnswer origin (tag % 256) with
  | some a => s.inject a
  | none =>
    let s := s.answer origin (tag % 256) (ask.response 0 [] [])
    match s.formError d false with
    | some k => s.settle (.remote origin) (descOp d) (descTag d) { status := stInvalid, detail := k }
    | none => match s.entryError d with
      | some c => s.settle (.remote origin) (descOp d) (descTag d) c
      | none => s

/-- The DRAM cells that a packet of SIZE 2 to 17 names, none where one lies outside the variant's DRAM. -/
def State.packetCells (s : State) (pk : Packet) : List Nat :=
  let n := if 2 ≤ pk.size ∧ pk.size ≤ 17 then pk.size - 1 else 0
  let l := (List.range n).map (fun i => pk.addr / 32 + i)
  if l.all (fun c => decide (c < dramCells s.fac.variant)) then l else []

/-- One flit of snapshot words (R354). -/
def State.snapFlit (s : State) (off : Nat) : Nat :=
  (List.range 7).foldl (fun a j =>
    let o := off + 4 * j
    a + (if o < snapBase then Store.get (fun _ => 0) s.snapRegion o % 2 ^ 32 else 0) * 2 ^ (32 * j)) 0

/-- Whether a packet's address lies in the DRAM's half of the target's address space (R354). -/
def Packet.toDram (pk : Packet) : Bool := decide (pk.addr < 2 ^ 35)

/-- A packet's address in the register space (R354). -/
def Packet.regOff (pk : Packet) : Nat := pk.addr - 2 ^ 35

/-- Whether a packet's register address lies beyond the 1 MiB of the register space (R354). -/
def Packet.beyond (pk : Packet) : Bool := decide (2 ^ 20 ≤ pk.regOff)

/-- Whether a packet reads a run of words of the snapshot region (R378). -/
def Packet.ofSnapshot (pk : Packet) : Bool := decide (pk.size ≤ 17) && decide (snapBase ≤ pk.regOff) && pk.regOff % 4 == 0

/-- What a READ packet of DRAM cells returns (R354). -/
def State.readDram (s : State) (pk : Packet) : (Nat × List (Nat × Bool)) × State :=
  match s.packetCells pk with
  | [] => ((2, []), s)
  | cells =>
    let r := s.readCells 5 [] cells
    ((if r.1.any (·.2) then 4 else 0, r.1), r.2)

/-- What a READ packet of one register or a pair returns (R354, R355). -/
def State.readRegs (s : State) (pk : Packet) : (Nat × List (Nat × Bool)) × State :=
  if !accessOk pk.size pk.regOff then ((2, []), s)
  else if s.absentTo (.fabric pk.src) pk.regOff then ((1, []), s)
  else
    let r := s.readAccess (.fabric pk.src) pk.regOff (4 + 4 * pk.size)
    ((0, [(r.1, false)]), r.2)

/-- What a READ packet returns (R354): status and flits with their poison. -/
def State.readPacket (s : State) (pk : Packet) : (Nat × List (Nat × Bool)) × State :=
  if pk.toDram then s.readDram pk
  else if pk.beyond then ((2, []), s)
  else if pk.size ≤ 1 then s.readRegs pk
  else if pk.ofSnapshot then
    ((0, (List.range (pk.size - 1)).map (fun i => (s.snapFlit (pk.regOff - snapBase + 28 * i), false))), s)
  else ((2, []), s)

/-- What a WRITE packet does, with the status of its response (R354, R355, R361). -/
def State.writePacket (s : State) (pk : Packet) : Nat × State :=
  if pk.toDram then
    match s.packetCells pk with
    | [] => (2, s)
    | cells => (0, cells.zipIdx.foldl (fun (s : State) p => fullCellWrite s 5 p.1 (pk.payload.getD p.2 0) 0 (pk.poison.getD p.2 false)) s)
  else if pk.beyond || !accessOk pk.size pk.regOff then (2, s)
  else if s.absentTo (.fabric pk.src) pk.regOff then (1, s.writeAccess (.fabric pk.src) pk.regOff (4 + 4 * pk.size) (pk.payload.headD 0))
  else if inRouteWindow pk.regOff then (3, s)
  else (0, s.writeAccess (.fabric pk.src) pk.regOff (4 + 4 * pk.size) (pk.payload.headD 0))

/-- READ_PACKET_RX (R354, R355). -/
def readPacketRx (s : State) (pkt : Packet) : State :=
  match s.keptAnswer pkt.src pkt.tag with
  | some a => s.inject a
  | none =>
    let r := s.readPacket pkt
    r.2.answer pkt.src pkt.tag (pkt.response r.1.1 (r.1.2.map (·.1)) (r.1.2.map (·.2)))

/-- WRITE_PACKET_RX (R354, R355). -/
def writePacketRx (s : State) (pkt : Packet) : State :=
  match s.keptAnswer pkt.src pkt.tag with
  | some a => s.inject a
  | none =>
    let r := s.writePacket pkt
    r.2.answer pkt.src pkt.tag (pkt.response r.1 [] [])

end Sys2Proof.Machine
end

