-- ==== Sys2Proof/Machine/Effect.lean ====
section
/-!
DEFINITION. How a command's meaning answers: with a next state, in which the queue of waiting commands and what production has fused
stand as before.
-/
namespace Sys2Proof.Machine

/-- A command's answer: the state `t` that its rule gives. No command touches the queue, which Machine/Step.lean alone moves, or the fuses. -/
def State.effect (s t : State) : Host.Outcome State Fault Refusal := .next { t with pending := s.pending, fac := s.fac }

/-- An access of a register outside the BOOT block: it does nothing while BOOT has failed (R412). -/
def State.whenOpen (s t : State) : State := if s.bootFailed then s else t

end Sys2Proof.Machine
end

