-- ==== Sys2Proof/Machine/BootRows.lean ====
section
/-!
DEFINITION. The meanings of the commands of one family: resets, boot and the management core. Each is one direct use of the operation that its rule gives.
-/
namespace Sys2Proof.Machine

/-- POWER_ON (R459): A supply rail rises from below 0.3 V and the device holds itself in COLD reset. -/
def execPowerOn (s : State) : Host.Outcome State Fault Refusal := s.effect (powerOn s)

/-- COLD_RESET_END (R459): Every rail has stayed inside its SMON window for 10 ms, so COLD reset ends and BOOT may begin. -/
def execColdResetEnd (s : State) : Host.Outcome State Fault Refusal := s.effect (coldResetEnd s)

/-- PERST_N_ASSERT (R467): PERST_N stays low for at least 10 us, which is a WARM reset that takes down links and ends roles. -/
def execPerstNAssert (s : State) : Host.Outcome State Fault Refusal := s.effect (perstNAssert s)

/-- PERST_N_RELEASE (R467): PERST_N rises and BOOT begins, or restarts if it was in progress. -/
def execPerstNRelease (s : State) : Host.Outcome State Fault Refusal := s.effect (perstNRelease s)

/-- BOOT_REFERENCE_ACQUIRED (R403): The boot sequencer acquires REFCLK or a recovered port clock and begins the BOOT steps. -/
def execBootReferenceAcquired (src : Nat) (s : State) : Host.Outcome State Fault Refusal := s.effect (bootReferenceAcquired s src)

/-- IMAGE_VALIDATION (R410): A slot's structural checks complete, and the first failure is recorded with its code. -/
def execImageValidation (slotB : Bool) (found : Word) (readable : Bool) (bytes : List (BitVec 8)) (s : State) : Host.Outcome State Fault Refusal :=
  s.effect (imageValidation s slotB found readable bytes)

/-- FW_START_TIMEOUT (R410): The firmware gives no start report within 100 ms, and the slot fails with FW_SIZE. -/
def execFwStartTimeout (s : State) : Host.Outcome State Fault Refusal := s.effect (fwStartTimeout s)

/-- SEMANTIC_VALIDATION (R411): The firmware checks the image semantics at step 8 and either applies the records or fails the whole slot.
-/
def execSemanticValidation (graphId : Word) (graph : List NodeDef) (s : State) : Host.Outcome State Fault Refusal :=
  s.effect (semanticValidation s graphId graph)

/-- BOOT_DONE (R404): BOOT ends: the base index phase is set, filters start and the start mode is entered. -/
def execBootDone (s : State) : Host.Outcome State Fault Refusal := s.effect (bootDone s)

/-- BOOT_RETRY (R412): A write of 1 to BOOT_CTRL.RETRY while BOOT has failed or the MC is held restarts BOOT. -/
def execBootRetry (s : State) : Host.Outcome State Fault Refusal := s.effect (bootRetry s)

/-- FL_RELEASE_WRITE (R406): A write to BOOT_CTRL.FL_RELEASE releases or reclaims the QSPI balls when the mode allows it. -/
def execFlReleaseWrite (v : Bool) (s : State) : Host.Outcome State Fault Refusal := s.effect (flReleaseWrite s v)

/-- MC_WDOG_KICK (R420): The firmware writes MC_WDOG.KICK and restarts the 50 ms watchdog. -/
def execMcWdogKick (who : Reader) (s : State) : Host.Outcome State Fault Refusal := s.effect (mcWdogKick s who)

/-- MC_WATCHDOG_EXPIRY (R420): 50 ms pass without a kick, or MC SRAM has an uncorrectable error, so SAFE is entered and the MC is reset
and reloaded. -/
def execMcWatchdogExpiry (sram : Bool) (s : State) : Host.Outcome State Fault Refusal := s.effect (mcWatchdogExpiry s sram)

/-- MC_RESTART (R420): The restarted MC is running: in-flight commands complete REFUSED MC_RESTART, or the MC is held after a third
restart. -/
def execMcRestart (s : State) : Host.Outcome State Fault Refusal := s.effect (mcRestart s)

/-- MC_SATURATED (R419): The MC load stays above 90 % for 100 ms, so SAT sets and MC_SATURATED is written. -/
def execMcSaturated (load : Nat) (s : State) : Host.Outcome State Fault Refusal := s.effect (mcSaturated s load)

/-- MC_SAT_CLEAR (R419): The MC load stays below 80 % for 1 s, so SAT clears. -/
def execMcSatClear (load : Nat) (s : State) : Host.Outcome State Fault Refusal := s.effect (mcSatClear s load)

/-- RELOAD (R417): Command that writes its completion and then performs a WARM reset and a full BOOT. -/
def execReload (src : CmdSrc) (tag : Nat) (s : State) : Host.Outcome State Fault Refusal := s.effect (reload s src tag)

/-- SYNC_OUT_SECOND (R463): At each whole fabric second SYNC_OUT rises, and it falls 100 ms later. -/
def execSyncOutSecond (rise : Bool) (s : State) : Host.Outcome State Fault Refusal := s.effect (syncOutSecond s rise)

/-- JTAG_EXTEST (R468): EXTEST or CLAMP becomes the current instruction and holds the device in COLD reset; leaving it restarts BOOT. -/
def execJtagExtest (on : Bool) (levels : List Bool) (s : State) : Host.Outcome State Fault Refusal := s.effect (jtagExtest s on levels)

end Sys2Proof.Machine
end

