-- ==== Sys2Proof/Machine/CheckerRows.lean ====
section
/-!
DEFINITION. The meanings of the commands of one family: bank checkers and calibration. Each is one direct use of the operation that its rule gives.
-/
namespace Sys2Proof.Machine

/-- CHK_CONVERT (R129): Command that requests a single on-demand conversion by a bank checker. -/
def execChkConvert (src : CmdSrc) (tag : Nat) (bank : Nat) (point : Nat) (window : Nat) (urgent : Bool) (s : State) : Host.Outcome State Fault Refusal :=
  s.effect (chkConvert s src tag bank point window urgent)

/-- CAL_SYSTEM_ZERO (R138): Command that starts a zero calibration of one channel at its present gain. -/
def execCalSystemZero (src : CmdSrc) (tag : Nat) (ch : Nat) (n : Nat) (s : State) : Host.Outcome State Fault Refusal :=
  s.effect (calSystemZero s src tag ch n)

/-- CAL_SYSTEM_FULL (R139): Command that starts a full-scale calibration of one channel at its present gain. -/
def execCalSystemFull (src : CmdSrc) (tag : Nat) (ch : Nat) (n : Nat) (t : Int) (s : State) : Host.Outcome State Fault Refusal :=
  s.effect (calSystemFull s src tag ch n t)

/-- CAL_COMMIT (R142): Command that starts writing every pending calibration entry into CALSET in both slots. -/
def execCalCommit (src : CmdSrc) (tag : Nat) (s : State) : Host.Outcome State Fault Refusal := s.effect (calCommit s src tag)

/-- ON_DEMAND_SLOT_DONE (R129): An on-demand checker conversion ends and CHK_CONVERT completes with its values. -/
def execOnDemandSlotDone (bank : Nat) (r : BitVec 32) (overload : Bool) (ow : OpenBalls) (s : State) : Host.Outcome State Fault Refusal :=
  s.effect (onDemandSlotDone s bank r overload ow)

/-- CAL_MEASURE_DONE (R140): The N slots of a system calibration are complete, new working values are formed, and the command completes.
-/
def execCalMeasureDone (bank : Nat) (s : State) : Host.Outcome State Fault Refusal := s.effect (calMeasureDone s bank)

/-- CAL_APPLIED (R141): The working entry is applied at the next slot boundary of the bank and CAL_APPLIED is written. -/
def execCalApplied (bank : Nat) (s : State) : Host.Outcome State Fault Refusal := s.effect (calApplied s bank)

/-- CAL_COMMIT_DONE (R142): Both slots have been written and verified, or a flash operation has failed, and CAL_COMMIT completes. -/
def execCalCommitDone (end_ : CommitEnd) (s : State) : Host.Outcome State Fault Refusal := s.effect (calCommitDone s end_)

/-- CHECKER_SLOT_BOUNDARY (R112): A checker slot begins, with its length fixed and its point taken from the schedule. -/
def execCheckerSlotBoundary (bank : Nat) (overload : Bool) (s : State) : Host.Outcome State Fault Refusal :=
  s.effect (checkerSlotBoundary s bank overload)

/-- CHECKER_RESULT (R118): A slot's checker result is published in slot order and judged against the aligned value or tolerance. -/
def execCheckerResult (bank : Nat) (r : BitVec 32) (owP : Bool) (owN : Bool) (s : State) : Host.Outcome State Fault Refusal :=
  s.effect (checkerResult s bank r owP owN)

/-- CHECKER_CYCLE_END (R126): A checker cycle ends: drift filters and coefficients update, unchecked channels are judged and the detection
bound is computed. -/
def execCheckerCycleEnd (bank : Nat) (s : State) : Host.Outcome State Fault Refusal := s.effect (checkerCycleEnd s bank)

/-- BANK_CFG_WRITE (R114): A write to a bank register is latched for the next cycle; CH_MASK changes are refused outside SERVICE. -/
def execBankCfgWrite (bank : Nat) (i : Nat) (v : Word) (s : State) : Host.Outcome State Fault Refusal :=
  s.effect (s.whenOpen (bankCfgWrite s bank i v))

end Sys2Proof.Machine
end

