-- ==== Sys2Proof/Machine/ConversionRows.lean ====
section
/-!
DEFINITION. The meanings of the commands of one family: dual-range conversion and the base sample. Each is one direct use of the operation that its rule gives.
-/
namespace Sys2Proof.Machine

/-- FUSION_UNCHECKED (R64): 2560 base samples pass without an eligible sample, so UNCHK sets. -/
def execFusionUnchecked (n : Nat) (s : State) : Host.Outcome State Fault Refusal := s.effect (fusionUnchecked s n)

/-- FUS_DIFF_UPDATE (R59): 65 536 further eligible samples have been counted, so PCH_FUS_DIFF updates. -/
def execFusDiffUpdate (n : Nat) (s : State) : Host.Outcome State Fault Refusal := s.effect (fusDiffUpdate s n)

/-- OVERRANGE_LEAVE (R71): 256 base samples pass without an overrange base sample, and a leave record is written. -/
def execOverrangeLeave (n : Nat) (s : State) : Host.Outcome State Fault Refusal := s.effect (overrangeLeave s n)

/-- RES_HI_READ (R78): A read of RES_HI latches the newest result into the reader's shadow and returns the high half. -/
def execResHiRead (who : Reader) (i : Nat) (s : State) : Host.Outcome State Fault Refusal := s.effect (s.whenOpen (resHiRead s who i))

/-- RES_LO_READ (R79): A read of RES_LO returns the low half from the reader's shadow with its flags. -/
def execResLoRead (who : Reader) (i : Nat) (s : State) : Host.Outcome State Fault Refusal := s.effect (s.whenOpen (resLoRead s who i))

/-- RES_64_READ (R80): A 64-bit read at RES_HI returns both halves from one latch. -/
def execRes64Read (who : Reader) (i : Nat) (s : State) : Host.Outcome State Fault Refusal := s.effect (s.whenOpen (res64Read s who i))

/-- PCH_FUS_CFG_WRITE (R62): A write to PCH_FUS_CFG is applied subject to the SERVICE and FUS_N relations. -/
def execPchFusCfgWrite (n : Nat) (v : Word) (s : State) : Host.Outcome State Fault Refusal := s.effect (s.whenOpen (pchFusCfgWrite s n v))

/-- PCH_PLAUS_TH_WRITE (R61): A write of PCH_PLAUS_TH sets the threshold in use from the next base sample. -/
def execPchPlausThWrite (n : Nat) (v : Word) (s : State) : Host.Outcome State Fault Refusal := s.effect (s.whenOpen (pchPlausThWrite s n v))

/-- PCH_FMT_WRITE (R69): A write to PCH_FMT changes the output formats and restarts the latest-result register on a change of RES_SRC. -/
def execPchFmtWrite (n : Nat) (v : Word) (s : State) : Host.Outcome State Fault Refusal := s.effect (s.whenOpen (pchFmtWrite s n v))

end Sys2Proof.Machine
end

