-- ==== Sys2Proof/Machine/DramRows.lean ====
section
/-!
DEFINITION. The meanings of the commands of one family: DRAM and its controller. Each is one direct use of the operation that its rule gives.
-/
namespace Sys2Proof.Machine

/-- DRAM_REQUEST (R272): The controller chooses and serves the next request on a channel by the priority order. -/
def execDramRequest (ch : Nat) (loads stores : List (Nat × Nat)) (s : State) : Host.Outcome State Fault Refusal :=
  s.effect (dramRequest s ch (dramArrivals loads stores))

/-- REFRESH_DUE (R275): A per-bank refresh falls due and is issued or postponed. -/
def execRefreshDue (ch : Nat) (s : State) : Host.Outcome State Fault Refusal := s.effect (refreshDue s ch)

/-- REFRESH_CATCHUP (R276): No urgent request waits, so postponed refreshes are issued back to back. -/
def execRefreshCatchup (ch : Nat) (s : State) : Host.Outcome State Fault Refusal := s.effect (refreshCatchup s ch)

/-- DRAM_TEMP_READ (R275): Every 16 ms the DRAM temperature is read and the refresh multiplier set. -/
def execDramTempRead (temp : BitVec 16) (s : State) : Host.Outcome State Fault Refusal := s.effect (dramTempRead s temp)

/-- REFRESH_WINDOW_START (R277): A 32 ms refresh window begins and the activation tables are cleared. -/
def execRefreshWindowStart (s : State) : Host.Outcome State Fault Refusal := s.effect (refreshWindowStart s)

/-- POWER_DOWN_ENTRY (R279): A channel is idle for 64 clocks and enters power-down. -/
def execPowerDownEntry (ch : Nat) (s : State) : Host.Outcome State Fault Refusal := s.effect (powerDownEntry s ch)

/-- SELF_REFRESH_ENTRY (R279): On entry to DEEP with queues empty, the DRAM enters self-refresh. -/
def execSelfRefreshEntry (s : State) : Host.Outcome State Fault Refusal := s.effect (selfRefreshEntry s)

/-- MPLL_STOP (R279): 20 us after self-refresh entry without a request, the M-PLL stops. -/
def execMpllStop (s : State) : Host.Outcome State Fault Refusal := s.effect (mpllStop s)

/-- SELF_REFRESH_EXIT (R281): A request leads the DRAM out of self-refresh, with any training due. -/
def execSelfRefreshExit (s : State) : Host.Outcome State Fault Refusal := s.effect (selfRefreshExit s)

/-- PERIODIC_TRAINING (R282): Every 1 s a channel's timing check runs. -/
def execPeriodicTraining (ch : Nat) (s : State) : Host.Outcome State Fault Refusal := s.effect (periodicTraining s ch)

/-- FULL_TRAINING (R282): The temperature has moved 5 C from T_TRAIN, so full training of each channel starts. -/
def execFullTraining (ch : Nat) (s : State) : Host.Outcome State Fault Refusal := s.effect (fullTraining s ch)

/-- TRAINING_DONE (R283): A training ends and applies its settings, or is repeated and may fail. -/
def execTrainingDone (ch : Nat) (ok : Bool) (s : State) : Host.Outcome State Fault Refusal := s.effect (trainingDone s ch ok)

/-- DRC_CFG_WRITE (R284): A write to DRC_CFG changes the operating point of the present mode, requesting a change. -/
def execDrcCfgWrite (v : Word) (s : State) : Host.Outcome State Fault Refusal := s.effect (s.whenOpen (drcCfgWrite (s.reach 7) v))

/-- OP_POINT_CHANGE (R284): A requested operating-point change begins now, or is deferred or replaced. -/
def execOpPointChange (s : State) : Host.Outcome State Fault Refusal := s.effect (opPointChange s)

/-- DRC_FREQ_DONE (R284): An operating-point change completes and DRC_FREQ_DONE is written. -/
def execDrcFreqDone (end_ : ChangeEnd) (s : State) : Host.Outcome State Fault Refusal := s.effect (drcFreqDone s end_)

/-- DRC_PORT_TGT_WRITE (R270): A write of a port latency target applies to later requests. -/
def execDrcPortTgtWrite (p : Nat) (v : Word) (s : State) : Host.Outcome State Fault Refusal := s.effect (s.whenOpen (drcPortTgtWrite (s.reach 7) p v))

end Sys2Proof.Machine
end

