-- ==== Sys2Proof/Machine/EngineRows.lean ====
section
/-!
DEFINITION. The meanings of the commands of one family: the analysis engine and its kernels. Each is one direct use of the operation that its rule gives.
-/
namespace Sys2Proof.Machine

/-- PARAM_SET (R202): Command that changes live fields of a node's parameter record from the node's next invocation. -/
def execParamSet (src : CmdSrc) (tag : Nat) (node : Nat) (word : Nat) (mask : Word) (value : Word) (s : State) : Host.Outcome State Fault Refusal :=
  s.effect (paramSet s src tag node word mask value)

/-- INVOCATION_DEADLINE (R205): An invocation has not been admitted by its deadline and becomes a BUDGET placeholder. -/
def execInvocationDeadline (node : Nat) (num : Nat) (s : State) : Host.Outcome State Fault Refusal :=
  s.effect (invocationDeadline s node num)

/-- NODE_READY (R180): A node's inputs hold their next frames or its event arrives, so it becomes ready with a deadline. -/
def execNodeReady (node : Nat) (s : State) : Host.Outcome State Fault Refusal := s.effect (nodeReady s node)

/-- INVOCATION_START (R182): A cluster starts the next ready invocation by class, deadline and ready time. -/
def execInvocationStart (c : Nat) (s : State) : Host.Outcome State Fault Refusal := s.effect (invocationStart s c)

/-- INVOCATION_DONE (R183): An invocation completes, writes back its state, and releases its outputs in order after any class 1
comparison. -/
def execInvocationDone (c : Nat) (cycles : Nat) (differs : Option Nat) (s : State) : Host.Outcome State Fault Refusal :=
  s.effect (invocationDone s c cycles differs)

/-- CLUSTER_SELF_TEST (R193): A cluster runs its periodic self-test in idle cycles. -/
def execClusterSelfTest (c : Nat) (pass : Bool) (s : State) : Host.Outcome State Fault Refusal := s.effect (clusterSelfTest s c pass)

/-- CL_CTRL_TEST (R191): A write of 1 to CL_CTRL.TEST runs the self-test at the next idle point. -/
def execClCtrlTest (c : Nat) (s : State) : Host.Outcome State Fault Refusal := s.effect (s.whenOpen (clCtrlTest (s.reachIf (hasCl s.fac.variant c) (2 + c)) c))

/-- CL_CTRL_OFFLINE (R191): A write of 1 to CL_CTRL.OFFLINE in SERVICE declares a cluster fault. -/
def execClCtrlOffline (c : Nat) (s : State) : Host.Outcome State Fault Refusal := s.effect (s.whenOpen (clCtrlOffline (s.reachIf (hasCl s.fac.variant c) (2 + c)) c))

/-- CLUSTER_FAULT (R192): A cluster fails by self-test, uncorrectable error or overrun, is gated, and its placements move. -/
def execClusterFault (c : Nat) (cause : Nat) (s : State) : Host.Outcome State Fault Refusal := s.effect (clusterFaultSeen s c cause)

/-- CLUSTER_REPLACED (R192): Re-placement completes and lost invocations are repeated or replaced by placeholders. -/
def execClusterReplaced (c : Nat) (duration : Nat) (s : State) : Host.Outcome State Fault Refusal := s.effect (clusterReplaced s c duration)

end Sys2Proof.Machine
end

