-- ==== Sys2Proof/Machine/FabricRows.lean ====
section
/-!
DEFINITION. The meanings of the commands of one family: the fabric, its time service and snapshots. Each is one direct use of the operation that its rule gives.
-/
namespace Sys2Proof.Machine

/-- SNAPSHOT_ARM (R376): Command that arms a snapshot at fabric time T, for this device alone or broadcast by STARTER. -/
def execSnapshotArm (src : CmdSrc) (tag : Nat) (t : Time) (id : Nat) (all : Bool) (s : State) : Host.Outcome State Fault Refusal :=
  s.effect (snapshotArm s src tag t id all)

/-- LINK_SIGNAL (R346): A port receives a signal and the link starts TRAINING. -/
def execLinkSignal (p : Nat) (s : State) : Host.Outcome State Fault Refusal := s.effect (linkSignal s p)

/-- LINK_TRAINED (R346): Training completes and the link enters HELLO. -/
def execLinkTrained (p : Nat) (s : State) : Host.Outcome State Fault Refusal := s.effect (linkTrained s p)

/-- LINK_UP (R346): 1 ms of clean HELLO control flits has passed, so the link enters UP. -/
def execLinkUp (p : Nat) (s : State) : Host.Outcome State Fault Refusal := s.effect (linkUp s p)

/-- LINK_DOWN (R350): A link loses signal, lock or flits, or exhausts its replays, enters FAILED and LINK_DOWN is written. -/
def execLinkDown (p : Nat) (cause : Nat) (s : State) : Host.Outcome State Fault Refusal := s.effect (linkDown s p cause)

/-- LINK_RETRAIN (R346): 1 ms after failure a FAILED link returns to TRAINING. -/
def execLinkRetrain (p : Nat) (s : State) : Host.Outcome State Fault Refusal := s.effect (linkRetrain s p)

/-- DATA_FLIT_RX (R348): A data flit is received: CRC and sequence are checked, ACK or NAK and credits are processed, and the flit is
forwarded. -/
def execDataFlitRx (p : Nat) (flit : BitVec 256) (s : State) : Host.Outcome State Fault Refusal := s.effect (dataFlitRx s p flit)

/-- REPLAY_TIMEOUT (R348): No acknowledgment arrives within the replay time, so the sender replays from the oldest unacknowledged flit. -/
def execReplayTimeout (p : Nat) (s : State) : Host.Outcome State Fault Refusal := s.effect (replayTimeout s p)

/-- HELLO (R357): A HELLO control flit is received with the neighbour's identity. -/
def execHello (p : Nat) (adv : Nat) (key : Key) (nport : Nat) (naddr : Nat) (s : State) : Host.Outcome State Fault Refusal :=
  s.effect (hello s p adv key nport naddr)

/-- ELECT (R357): An ELECT control flit is received and the best key is updated. -/
def execElect (p : Nat) (key : Key) (hops : Nat) (s : State) : Host.Outcome State Fault Refusal := s.effect (elect s p key hops)

/-- ELECTION_WIN (R357): A device's own key has been advertised as best for 2 ms, so it becomes manager. -/
def execElectionWin (s : State) : Host.Outcome State Fault Refusal := s.effect (electionWin s)

/-- RATE (R345): A RATE control flit settles a requested link rate change. -/
def execRate (p : Nat) (code : Nat) (s : State) : Host.Outcome State Fault Refusal := s.effect (rate s p code)

/-- RATE_SWITCH (R345): 2 us after the settling flit, both ends switch rate and retrain. -/
def execRateSwitch (p : Nat) (s : State) : Host.Outcome State Fault Refusal := s.effect (rateSwitch s p)

/-- LOST (R368): A LOST control flit is received, so the device sets ORPHAN, passes LOST on and switches where it can. -/
def execLost (p : Nat) (die : Nat) (s : State) : Host.Outcome State Fault Refusal := s.effect (lost s p die)

/-- OFFER (R368): An OFFER control flit reaches an orphan, which switches to that port and passes OFFER on. -/
def execOffer (p : Nat) (depth : Nat) (die : Nat) (s : State) : Host.Outcome State Fault Refusal := s.effect (offer s p depth die)

/-- CLK_REPAIR (R368): An orphan's clock switch completes, ORPHAN clears and CLK_REPAIR is written. -/
def execClkRepair (s : State) : Host.Outcome State Fault Refusal := s.effect (clkRepair s)

/-- BATON (R375): The successor has been ORPHAN for 20 us without an OFFER, so it takes REFCLK, becomes root and sends OFFER. -/
def execBaton (s : State) : Host.Outcome State Fault Refusal := s.effect (baton s)

/-- READ_PACKET_RX (R354): A READ packet is executed on the target and answered with a RESPONSE. -/
def execReadPacketRx (pkt : Packet) (s : State) : Host.Outcome State Fault Refusal := s.effect (readPacketRx s pkt)

/-- WRITE_PACKET_RX (R354): A WRITE packet is executed on the target and answered with a RESPONSE. -/
def execWritePacketRx (pkt : Packet) (s : State) : Host.Outcome State Fault Refusal := s.effect (writePacketRx s pkt)

/-- RESPONSE_RX (R355): A RESPONSE completes an outstanding request toward its client. -/
def execResponseRx (pkt : Packet) (s : State) : Host.Outcome State Fault Refusal := s.effect (responseRx s pkt)

/-- REQUEST_TIMEOUT (R355): A request goes unanswered within TMO; it is sent once more, or completes as a timeout after the second try. -/
def execRequestTimeout (tag : Nat) (s : State) : Host.Outcome State Fault Refusal := s.effect (requestTimedOut s tag)

/-- INFO (R358): MGMT INFO returns the device's identity and ports. -/
def execInfo (die : Nat) (tag : Nat) (s : State) : Host.Outcome State Fault Refusal := s.effect (info s die tag)

/-- SET_ADDR (R358): MGMT SET_ADDR sets FAB_ADDR. -/
def execSetAddr (die : Nat) (addr : Nat) (s : State) : Host.Outcome State Fault Refusal := s.effect (setAddr s die addr)

/-- RT_WRITE (R361): MGMT RT_WRITE writes routing entries into the shadow bank. -/
def execRtWrite (die : Nat) (entries : List (Nat × Nat)) (s : State) : Host.Outcome State Fault Refusal := s.effect (rtWrite s die entries)

/-- ROLES (R358): MGMT ROLES sets the manager, standby, root and successor, and this device's depth. -/
def execRoles (die : Nat) (manager : Nat) (standby : Nat) (root : Nat) (successor : Nat) (stbyDie : Nat) (rootDie : Nat) (depth : Nat) (ecc : Nat) (s : State) : Host.Outcome State Fault Refusal :=
  s.effect (roles s die manager standby root successor stbyDie rootDie depth ecc)

/-- CLK_SEL (R363): MGMT CLK_SEL writes CLK_SRC.SEL, subject to R325. -/
def execClkSel (die : Nat) (sel : Nat) (s : State) : Host.Outcome State Fault Refusal := s.effect (clkSel s die sel)

/-- HEARTBEAT (R364): The standby receives the manager's heartbeat. -/
def execHeartbeat (die : Nat) (s : State) : Host.Outcome State Fault Refusal := s.effect (heartbeat s die)

/-- HEARTBEAT_SEND (R358): Every 1 ms the manager sends a heartbeat to the standby. -/
def execHeartbeatSend (s : State) : Host.Outcome State Fault Refusal := s.effect (heartbeatSend s)

/-- MIRROR (R358): MGMT MIRROR gives the standby the topology and addresses. -/
def execMirror (die : Nat) (topo : List Dev) (s : State) : Host.Outcome State Fault Refusal := s.effect (mirror s die topo)

/-- MGMT_RSP_RX (R358): The manager receives an answer to a MGMT operation during discovery. -/
def execMgmtRspRx (tag : Nat) (dev : Dev) (s : State) : Host.Outcome State Fault Refusal := s.effect (mgmtRspRx s tag dev)

/-- DISCOVERY_DONE (R359): The manager completes discovery and addresses, and writes FAB_ELECTED. -/
def execDiscoveryDone (topo : List Dev) (limited : List (Nat × Nat × Nat)) (roles : List Nat) (diameter : Nat) (s : State) : Host.Outcome State Fault Refusal :=
  s.effect (discoveryDone s topo limited roles diameter)

/-- REROUTE (R363): The manager computes a new tree after a failure report, writes shadow banks and broadcasts TABLE_COMMIT. -/
def execReroute (topo : List Dev) (lost : List Nat) (links : Nat) (plan : Routing) (s : State) : Host.Outcome State Fault Refusal :=
  s.effect (reroute s topo lost links plan)

/-- TABLE_COMMIT (R362): A TABLE_COMMIT packet schedules the routing bank switch at T_c. -/
def execTableCommit (t : Time) (s : State) : Host.Outcome State Fault Refusal := s.effect (tableCommit s t)

/-- TABLE_SWITCH (R362): At T_c the shadow bank becomes active and EPOCH toggles. -/
def execTableSwitch (s : State) : Host.Outcome State Fault Refusal := s.effect (tableSwitch s)

/-- BANK_RETIRE (R362): 200 us after T_c the old bank is retired and late old-epoch packets are discarded. -/
def execBankRetire (s : State) : Host.Outcome State Fault Refusal := s.effect (bankRetire s)

/-- STANDBY_TAKEOVER (R364): The standby takes over after all the manager's links are reported failed or three heartbeats are missed. -/
def execStandbyTakeover (s : State) : Host.Outcome State Fault Refusal := s.effect (standbyTakeover s)

/-- FAB_CHURN (R367): Topology changes within 10 ms are gathered, and one reroute begins 10 ms after the previous one. -/
def execFabChurn (s : State) : Host.Outcome State Fault Refusal := s.effect (fabChurn s)

/-- VC_STALL (R367): A virtual channel waits for credit longer than STALL_T and is STOPPED at that port. -/
def execVcStall (p : Nat) (vc : Nat) (ms : Nat) (s : State) : Host.Outcome State Fault Refusal := s.effect (vcStall s p vc ms)

/-- VC_RESUMED (R367): A write to FAB_CTRL.RESUME, or a reroute, resumes stopped virtual channels. -/
def execVcResumed (mask : Nat) (s : State) : Host.Outcome State Fault Refusal := s.effect (s.whenOpen (vcResumed s mask))

/-- REELECT (R364): A write of 1 to FAB_CTRL.REELECT at the manager starts a full election and discovery. -/
def execReelect (s : State) : Host.Outcome State Fault Refusal := s.effect (s.whenOpen (reelect s))

/-- FABRIC_JOIN (R365): A link between two formed fabrics joins the lower-ranked fabric to the other. -/
def execFabricJoin (p : Nat) (higher : Bool) (offset : Int) (s : State) : Host.Outcome State Fault Refusal :=
  s.effect (fabricJoin s p higher offset)

/-- TIME_EXCHANGE (R369): A timing exchange with the clock parent updates the offset average and steers the clock phase. -/
def execTimeExchange (p : Nat) (flow : FlowSec) (times : TimeSec) (adv : Nat) (t4 : Time) (s : State) : Host.Outcome State Fault Refusal :=
  s.effect (timeExchange s p (LinkSec.mk flow times adv) t4)

/-- PTM_SAMPLE (R372): The root obtains a PTM time sample and steers the fabric frequency. -/
def execPtmSample (ns : BitVec 64) (s : State) : Host.Outcome State Fault Refusal := s.effect (ptmSample s ns)

/-- PPS_IN_EDGE (R372): A PPS_IN rising edge gives a source time sample, and FAB_PPS_SEC increments. -/
def execPpsInEdge (t : Time) (s : State) : Host.Outcome State Fault Refusal := s.effect (ppsInEdge s t)

/-- TIME_LOST (R372): No source sample arrives for 3 s, and TIME_LOST is written. -/
def execTimeLost (s : State) : Host.Outcome State Fault Refusal := s.effect (timeLost s)

/-- TIME_STEP (R374): A TIME_STEP packet schedules a step of fabric time at T_s. -/
def execTimeStep (step : Int) (t : Time) (s : State) : Host.Outcome State Fault Refusal := s.effect (timeStep s step t)

/-- TIME_STEP_APPLY (R374): At T_s the device adds the step, restarts every filter chain and cancels pending snapshots. -/
def execTimeStepApply (s : State) : Host.Outcome State Fault Refusal := s.effect (timeStepApply s)

/-- STARTER (R376): A STARTER packet arms a snapshot, or misses it as late or full. -/
def execStarter (t : Time) (id : Nat) (origin : Nat) (s : State) : Host.Outcome State Fault Refusal := s.effect (starter s t id origin)

/-- SNAPSHOT_LATCH (R377): Local fabric time reaches T and every block latches its snapshot registers. -/
def execSnapshotLatch (s : State) : Host.Outcome State Fault Refusal := s.effect (snapshotLatch s)

/-- SNAP_DONE (R377): Latching completes, the snapshot region swaps whole, and SNAP_DONE is written. -/
def execSnapDone (s : State) : Host.Outcome State Fault Refusal := s.effect (snapDone s)

/-- PCIE_L0 (R360): The PCIe link reaches L0 for the first time after PERST_N, and the device becomes host-attached. -/
def execPcieL0 (s : State) : Host.Outcome State Fault Refusal := s.effect (pcieL0 s)

end Sys2Proof.Machine
end

