-- ==== Sys2Proof/Machine/FilterRows.lean ====
section
/-!
DEFINITION. The meanings of the commands of one family: filter chains and results. Each is one direct use of the operation that its rule gives.
-/
namespace Sys2Proof.Machine

/-- BASE_SAMPLE (R85): Every 64 AON cycles a base-rate sample of each P-channel is fused, checked, demodulated and passed to the filters.
-/
def execBaseSample (raws : List RawSample) (s : State) : Host.Outcome State Fault Refusal := s.effect (basePeriod s raws)

/-- MONITOR_OUTPUT (R95): A MONITOR sample is completed on its 32 kS/s grid and delivered to the latest-result register and stream. -/
def execMonitorOutput (n : Nat) (s : State) : Host.Outcome State Fault Refusal := s.effect (monitorOutput s n)

/-- STATIC_OUTPUT (R97): A STATIC window ends, its result is delivered and the next window's length is fixed. -/
def execStaticOutput (n : Nat) (s : State) : Host.Outcome State Fault Refusal := s.effect (staticOutput s n)

/-- SEISMIC_OUTPUT (R107): A SEISMIC sample is completed on its grid and delivered. -/
def execSeismicOutput (n : Nat) (s : State) : Host.Outcome State Fault Refusal := s.effect (seismicOutput s n)

/-- MAINS_LOST (R100): No period is accepted for 100 ms, so VALID clears. -/
def execMainsLost (n : Nat) (s : State) : Host.Outcome State Fault Refusal := s.effect (mainsLost s n)

/-- PCH_STATIC_CFG_WRITE (R92): A write that changes the STATIC window configuration restarts the STATIC chain. -/
def execPchStaticCfgWrite (n : Nat) (v : Word) (s : State) : Host.Outcome State Fault Refusal :=
  s.effect (s.whenOpen (pchStaticCfgWrite s n v))

/-- PCH_SEIS_CFG_WRITE (R93): A write that changes RATE or PHASE restarts SEISMIC, or is refused while the output is consumed. -/
def execPchSeisCfgWrite (n : Nat) (v : Word) (s : State) : Host.Outcome State Fault Refusal := s.effect (s.whenOpen (pchSeisCfgWrite s n v))

end Sys2Proof.Machine
end

