-- ==== Sys2Proof/Machine/HostRows.lean ====
section
/-!
DEFINITION. The meanings of the commands of one family: the host link, commands and event queues. Each is one direct use of the operation that its rule gives.
-/
namespace Sys2Proof.Machine

/-- CMD_DOORBELL (R389): The host writes a new TAIL to HIF_CMD_DB; the doorbell is accepted or rejected with DB_ERR. -/
def execCmdDoorbell (tail : Nat) (s : State) : Host.Outcome State Fault Refusal := s.effect (s.whenOpen (cmdDoorbell s tail))

/-- DESCRIPTOR_FETCH (R393): The MC takes the next descriptor once completion space is reserved, checks it and starts it. -/
def execDescriptorFetch (bytes : BitVec 256) (poisoned : Bool) (s : State) : Host.Outcome State Fault Refusal :=
  s.effect (descriptorFetch s bytes poisoned)

/-- REG_READ (R395): Command that reads a BAR0 register of this device or of a remote device. -/
def execRegRead (src : CmdSrc) (tag : Nat) (target : Nat) (size : Nat) (off : Nat) (s : State) : Host.Outcome State Fault Refusal :=
  s.effect (regRead s src tag target size off)

/-- REG_WRITE (R395): Command that writes a BAR0 register of this device or of a remote device. -/
def execRegWrite (src : CmdSrc) (tag : Nat) (target : Nat) (size : Nat) (off : Nat) (data : Nat) (s : State) : Host.Outcome State Fault Refusal :=
  s.effect (regWrite s src tag target size off data)

/-- COMPLETION (R396): A command's result is decided and its completion record is written in submission order. -/
def execCompletion (s : State) : Host.Outcome State Fault Refusal := s.effect (completion s)

/-- COMMAND_PACKET_RX (R394): A forwarded COMMAND packet is accepted by the target, answered and executed. -/
def execCommandPacketRx (origin : Nat) (tag : Nat) (bytes : BitVec 256) (s : State) : Host.Outcome State Fault Refusal :=
  s.effect (commandPacketRx s origin tag bytes)

/-- EVENT_PACKET_RX (R399): An EVENT packet is written or coalesced at the event home and acknowledged. -/
def execEventPacketRx (origin : Nat) (tag : Nat) (r : Rec) (s : State) : Host.Outcome State Fault Refusal :=
  s.effect (eventPacketRx s origin tag r)

/-- PCIE_LINK_DOWN (R388): The link goes down; DMA, record writing and MSI-X stop while recording continues. -/
def execPcieLinkDown (s : State) : Host.Outcome State Fault Refusal := s.effect (pcieLinkDown s)

/-- D3HOT_ENTRY (R388): The function enters or leaves D3hot, and WAKE_N follows waiting DANGEROUS records. -/
def execD3hotEntry (enter : Bool) (s : State) : Host.Outcome State Fault Refusal := s.effect (d3hotEntry s enter)

/-- MSIX_SEND (R387): A vector's COUNT or TIME moderation is reached and its MSI-X message is sent. -/
def execMsixSend (v : Nat) (s : State) : Host.Outcome State Fault Refusal := s.effect (msixSend s v)

/-- BAR2_READ (R385): A BAR2 read is served through port 4, with EP set on poisoned data. -/
def execBar2Read (addr : Nat) (size : Nat) (s : State) : Host.Outcome State Fault Refusal := s.effect (bar2Read s addr size)

/-- BAR2_WRITE (R385): A BAR2 write is accepted inside the host region or ignored and counted. -/
def execBar2Write (addr : Nat) (data : List (BitVec 8)) (s : State) : Host.Outcome State Fault Refusal := s.effect (bar2Write s addr data)

/-- CMD_RING_ENABLE (R389): Enabling the command ring resets HEAD and TAIL. -/
def execCmdRingEnable (v : Word) (s : State) : Host.Outcome State Fault Refusal := s.effect (s.whenOpen (cmdRingEnable (s.reachIf (hasHost s.fac.variant) 9) v))

/-- EQ_CFG_ENABLE (R397): Enabling an event queue resets HEAD, TAIL, PHASE and SEQ. -/
def execEqCfgEnable (q : Nat) (v : Word) (s : State) : Host.Outcome State Fault Refusal := s.effect (s.whenOpen (eqCfgEnable (s.reachIf (hasHost s.fac.variant) 9) q v))

/-- EQ_TAIL_WRITE (R397): A write of EQ_TAIL returns records, or is ignored with TAIL_ERR. -/
def execEqTailWrite (q : Nat) (v : Nat) (s : State) : Host.Outcome State Fault Refusal := s.effect (s.whenOpen (eqTailWrite (s.reachIf (hasHost s.fac.variant) 9) q v))

/-- EVENT_RECORD_WRITE (R397): A record is written to its queue with an ORIGIN record if needed, or coalesced. -/
def execEventRecordWrite (s : State) : Host.Outcome State Fault Refusal := s.effect (eventRecordWrite s)

/-- EVENT_DEFERRED_DELIVERY (R399): A device can deliver again and sends its waiting records and coalesced counts to its home. -/
def execEventDeferredDelivery (s : State) : Host.Outcome State Fault Refusal := s.effect (eventDeferredDelivery s)

/-- RATE_LIMIT_INTERVAL_END (R479): A rate-limit interval of a key ends with suppressed occurrences, and one further record is written if
the state differs. -/
def execRateLimitIntervalEnd (type : Nat) (key : Nat) (s : State) : Host.Outcome State Fault Refusal :=
  s.effect (rateLimitIntervalEnd s type key)

/-- PCIE_LINK_RETURN (R388): The PCIe link returns to L0 after a loss, and DMA, record writing and MSI-X resume on a device that is
already host-attached. -/
def execPcieLinkReturn (s : State) : Host.Outcome State Fault Refusal := s.effect (pcieLinkReturn s)

end Sys2Proof.Machine
end

