-- ==== Sys2Proof/Machine/ModeRows.lean ====
section
/-!
DEFINITION. The meanings of the commands of one family: modes, clocks and PACER. Each is one direct use of the operation that its rule gives.
-/
namespace Sys2Proof.Machine

/-- MODE_SET (R316): Command that requests a change to a target mode. -/
def execModeSet (src : CmdSrc) (tag : Nat) (target : Nat) (s : State) : Host.Outcome State Fault Refusal :=
  s.effect (modeSet s src tag target)

/-- SAFE_EXIT (R317): Command that leaves SAFE for VIGIL or SURVEY unless a cause is still active. -/
def execSafeExit (src : CmdSrc) (tag : Nat) (target : Nat) (s : State) : Host.Outcome State Fault Refusal :=
  s.effect (safeExit s src tag target)

/-- MODE_CHANGE_INSTANT (R314): A mode change takes effect at a base-rate sample boundary and its entry actions start. -/
def execModeChangeInstant (s : State) : Host.Outcome State Fault Refusal := s.effect (modeChangeInstant s)

/-- MODE_CHANGE (R314): The entry actions of a mode change complete; MODE_CHANGE is written and any waiting causes are taken up. -/
def execModeChange (s : State) : Host.Outcome State Fault Refusal := s.effect (modeChange s)

/-- MODE_TIMER_ON (R312): The ON interval of the mode timer begins at a multiple of PER and causes a wake. -/
def execModeTimerOn (s : State) : Host.Outcome State Fault Refusal := s.effect (modeTimerOn s)

/-- SURVEY_IDLE_EXPIRY (R312): SURVEY_IDLE passes without a WAKE trigger, so the device returns to VIGIL. -/
def execSurveyIdleExpiry (s : State) : Host.Outcome State Fault Refusal := s.effect (surveyIdleExpiry s)

/-- BURST_HOLD_EXPIRY (R312): BURST_HOLD passes without a BURST trigger, so the device returns to SURVEY. -/
def execBurstHoldExpiry (s : State) : Host.Outcome State Fault Refusal := s.effect (burstHoldExpiry s)

/-- BURST_EXHAUSTED (R335): The reserve pool reaches zero in BURST, so the device returns to SURVEY. -/
def execBurstExhausted (s : State) : Host.Outcome State Fault Refusal := s.effect (burstExhausted s)

/-- THERMAL_CEIL (R333): The die temperature reaches CEIL, or falls 5 C below it, and admission and BURST change. -/
def execThermalCeil (tj : BitVec 16) (s : State) : Host.Outcome State Fault Refusal := s.effect (thermalCeil s tj)

/-- THERMAL_EMERGENCY (R333): The die temperature reaches EMERG, a dangerous fault is reported, and the clusters stop. -/
def execThermalEmergency (tj : BitVec 16) (s : State) : Host.Outcome State Fault Refusal := s.effect (thermalEmergency s tj)

/-- WAKE_GATE_PASS (R338): A waiting wake passes the gate while its cause persists, and the change proceeds. -/
def execWakeGatePass (s : State) : Host.Outcome State Fault Refusal := s.effect (wakeGatePass s)

/-- POWER_STATE_SLEEP (R318): No work or DMA has been active for 10 us, so the device moves from RUN to SLEEP. -/
def execPowerStateSleep (s : State) : Host.Outcome State Fault Refusal := s.effect (powerStateSleep s)

/-- DEEP_ENTRY (R322): In VIGIL all DEEP conditions hold, so the gates close and the device enters DEEP. -/
def execDeepEntry (s : State) : Host.Outcome State Fault Refusal := s.effect (deepEntry s)

/-- RUN_BURST_START (R322): PACER starts a VIGIL RUN burst for a deadline, flush, scrub, admitted work or access. -/
def execRunBurstStart (s : State) : Host.Outcome State Fault Refusal := s.effect (runBurstStart s)

/-- GATE_TIMEOUT (R320): A gate close gets no quiescence within 1024 cycles and is abandoned. -/
def execGateTimeout (gate : Nat) (s : State) : Host.Outcome State Fault Refusal := s.effect (gateTimeout s gate)

/-- DEEP_ENTRY_RETRY (R320): 1 ms after an abandoned DEEP entry, PACER retries the entry. -/
def execDeepEntryRetry (s : State) : Host.Outcome State Fault Refusal := s.effect (deepEntryRetry s)

/-- GATED_ACCESS (R321): A register access or doorbell reaches a gated block, opens its gate and completes. -/
def execGatedAccess (gate : Nat) (s : State) : Host.Outcome State Fault Refusal := s.effect (gatedAccess s gate)

/-- PACER_EVALUATE (R332): PACER computes the headroom and admits waiting class 2 and 3 invocations in strict order. -/
def execPacerEvaluate (energy : List Nat) (tj : BitVec 16) (s : State) : Host.Outcome State Fault Refusal :=
  s.effect (pacerEvaluate s energy tj)

/-- PACER_WINDOW_START (R331): A PACER window begins: unspent budget goes to the pool, debt is repaid and P_base is updated. -/
def execPacerWindowStart (s : State) : Host.Outcome State Fault Refusal := s.effect (pacerWindowStart s)

/-- CLK_SOURCE_LOSS (R326): The selected clock source is lost, the PLLs enter holdover and LOST is flooded. -/
def execClkSourceLoss (s : State) : Host.Outcome State Fault Refusal := s.effect (clkSourceLoss s)

/-- CLK_HOLDOVER_END (R326): The PLLs lock to a new candidate, holdover ends and CLK_HOLDOVER is written. -/
def execClkHoldoverEnd (s : State) : Host.Outcome State Fault Refusal := s.effect (clkHoldoverEnd s)

/-- CLK_MISSING (R327): 2 us pass without an edge of a READY candidate, so SAFE_N is pulled low and MCD is set. -/
def execClkMissing (s : State) : Host.Outcome State Fault Refusal := s.effect (clkMissing s)

/-- CLK_RETURN (R327): A clock runs again after the detector fired; SMON enters SAFE and CLK_MISSING is written. -/
def execClkReturn (s : State) : Host.Outcome State Fault Refusal := s.effect (clkReturn s)

/-- CANDIDATE_READY_CHANGE (R324): A clock candidate becomes READY or stops being READY. -/
def execCandidateReadyChange (c : Nat) (ready : Bool) (s : State) : Host.Outcome State Fault Refusal :=
  s.effect (candidateReadyChange s c ready)

/-- CLK_SRC_WRITE (R325): A write to CLK_SRC.SEL starts a switch to a READY candidate, or is refused. -/
def execClkSrcWrite (v : Word) (s : State) : Host.Outcome State Fault Refusal := s.effect (s.whenOpen (clkSrcWrite s v))

/-- CLK_SWITCH (R325): A source switch completes and CLK_SWITCH is written. -/
def execClkSwitch (s : State) : Host.Outcome State Fault Refusal := s.effect (clkSwitched s)

/-- MODE_TIMER_ON_END (R312): The ON interval of the mode timer ends, so a SURVEY whose SURVEY_IDLE has already passed returns to VIGIL,
and a waiting timer wake stops persisting. -/
def execModeTimerOnEnd (s : State) : Host.Outcome State Fault Refusal := s.effect (modeTimerOnEnd s)

/-- WAKE_CAUSE_DROPPED (R338): A mode change waiting at the wake gate is dropped, because its WAKE or BURST trigger cause has stopped
persisting after SURVEY_IDLE or BURST_HOLD. -/
def execWakeCauseDropped (s : State) : Host.Outcome State Fault Refusal := s.effect (wakeCauseDropped s)

/-- THERMAL_EMERGENCY_END (R333): The die temperature falls 5 C below EMERG, so the THERMAL cause clears and the clusters may run
invocations again. -/
def execThermalEmergencyEnd (tj : BitVec 16) (s : State) : Host.Outcome State Fault Refusal := s.effect (thermalEmergencyEnd s tj)

end Sys2Proof.Machine
end

