-- ==== Sys2Proof/Machine/PrecisionRows.lean ====
section
/-!
DEFINITION. The meanings of the commands of one family: precision inputs, their converters and excitation. Each is one direct use of the operation that its rule gives.
-/
namespace Sys2Proof.Machine

/-- PIN_RANGE (R20): An input ball crosses the ±4.6 V pin limit, and PIN_RANGE sets or clears. -/
def execPinRange (n : Nat) (ballN : Bool) (beyond : Bool) (s : State) : Host.Outcome State Fault Refusal :=
  s.effect (pinRange s n ballN beyond)

/-- INPUT_CLAMP (R21): An input clamp starts or stops conducting. -/
def execInputClamp (n : Nat) (ballN : Bool) (conducts : Bool) (s : State) : Host.Outcome State Fault Refusal :=
  s.effect (inputClamp s n ballN conducts)

/-- CFG_CHANGE (R28): A committed change of gain, mode, reference, excitation or input takes effect at a base-sample boundary. -/
def execCfgChange (n : Nat) (s : State) : Host.Outcome State Fault Refusal := s.effect (cfgChange s n)

/-- PCH_CFG_WRITE (R27): A write to PCH_CFG applies valid fields, rejects invalid ones, and queues the change for its boundary. -/
def execPchCfgWrite (n : Nat) (v : Word) (s : State) : Host.Outcome State Fault Refusal := s.effect (s.whenOpen (pchCfgWrite s n v))

/-- EXC_CTRL_MODE_WRITE (R37): A write of EXC_CTRL.MODE changes the driver's mode, ramping or restarting after shutdown. -/
def execExcCtrlModeWrite (k : Nat) (v : Word) (s : State) : Host.Outcome State Fault Refusal :=
  s.effect (s.whenOpen (excCtrlModeWrite s k v))

/-- EXC_FIRE (R44): A write of 1 to EXC_CTRL.FIRE requests a pluck or sweep start. -/
def execExcFire (k : Nat) (s : State) : Host.Outcome State Fault Refusal := s.effect (s.whenOpen (excFire s k))

/-- EXC_LEVEL_WRITE (R35): A write of VSET sets the excitation level, clamped at 50 000, with a ramp in DC or AC. -/
def execExcLevelWrite (k : Nat) (v : Word) (s : State) : Host.Outcome State Fault Refusal := s.effect (s.whenOpen (excLevelWrite s k v))

/-- EXC_RAMP_END (R37): The 1 ms excitation ramp ends and RAMP clears. -/
def execExcRampEnd (k : Nat) (s : State) : Host.Outcome State Fault Refusal := s.effect (excRampEnd s k)

/-- EXC_POLARITY_EDGE (R39): After H base samples the AC excitation polarity reverses. -/
def execExcPolarityEdge (k : Nat) (s : State) : Host.Outcome State Fault Refusal := s.effect (excPolarityEdge s k)

/-- EXC_PERIOD_TIMER (R44): The fabric-aligned start timer reaches PHASE + j x PERIOD and requests a start. -/
def execExcPeriodTimer (k : Nat) (s : State) : Host.Outcome State Fault Refusal := s.effect (excPeriodTimer s k)

/-- EXC_START (R42): A pluck pulse or sweep burst begins at a base-sample boundary and muting starts, or the start is dropped. -/
def execExcStart (k : Nat) (s : State) : Host.Outcome State Fault Refusal := s.effect (excStart s k)

/-- EXC_RELEASE (R42): The pulse or burst ends, the force outputs go to high impedance, and EXCk_END is offered. -/
def execExcRelease (k : Nat) (s : State) : Host.Outcome State Fault Refusal := s.effect (excRelease s k)

/-- EXC_DONE (R45): The mute end is reached 100 us after release, and EXC_DONE is written. -/
def execExcDone (k : Nat) (s : State) : Host.Outcome State Fault Refusal := s.effect (excDone s k)

/-- EXC_MONITOR_SAMPLE (R46): Each 1 ms the driver samples its sense voltage and current into EXC_MON. -/
def execExcMonitorSample (k : Nat) (vmon : BitVec 16) (imon : BitVec 16) (limit : Bool) (sense : Bool) (s : State) : Host.Outcome State Fault Refusal :=
  s.effect (excMonitorSample s k vmon imon limit sense)

/-- EXC_FAULT (R46): A fault condition persists for its detection time, the fault bit sets, and OVERLOAD shuts the driver down. -/
def execExcFault (k : Nat) (b : Nat) (s : State) : Host.Outcome State Fault Refusal := s.effect (excFault s k b)

end Sys2Proof.Machine
end

