-- ==== Sys2Proof/Machine/Sram.lean ====
section
/-!
DEFINITION. The words of on-chip SRAM that carry data, and what an uncorrectable error in each leads to (R304, R305).
-/
namespace Sys2Proof.Machine

/-- The calibration entry of a channel is poisoned or good again, and the channel is judged (R305, R426). -/
def State.setCalPoison (s : State) (key : Nat) (b : Bool) : State :=
  let s := s.setCal key { s.calE key with poison := b }
  if key < 512 then s.verifyP (key / 8) else if key < 520 then s else s.verifyW ((key - 520) / 5)

/-- Native words to a value of format `fmt` are two or one: the protected words that `n` values take (R174). -/
def valueWords (fmt n : Nat) : Nat := heldWords (n * wordsOf fmt)

/-- The values of format `fmt` that a protected word holds. -/
def valuesIn (fmt w : Nat) : List Nat := if wordsOf fmt = 2 then [w] else [2 * w, 2 * w + 1]

/-- Values with those of the protected word `w` poisoned. -/
def spoilVals (fmt w : Nat) (l : List NVal) : List NVal := (valuesIn fmt w).foldl (fun l i => l.modify i (fun x => { x with poison := true })) l

/-- The format of the counts and sums of a kernel's accumulation: DENSITY's are native words. -/
def accFormat (kernel : Nat) : Nat := if kernel = 7 then 0 else 1

/-- A kernel's state with a word of its accumulation poisoned. -/
def KState.spoilAcc (k : KState) (kernel w : Nat) : KState :=
  let po := k.accPo ++ List.replicate (k.acc.length - k.accPo.length) false
  { k with accPo := (valuesIn (accFormat kernel) w).foldl (fun l i => l.set i true) po }

/-- A kernel's state with a word of its delay line poisoned. -/
def KState.spoilLine (k : KState) (i : Nat) : KState := { k with line := k.line.modify i (fun x => { x with poison := true }) }

/-- The words of a kernel's state: its accumulation, then its line. -/
def KState.accWords (k : KState) (kernel : Nat) : Nat := valueWords (accFormat kernel) k.acc.length

/-- The kernel and the words in C memory of node `i`: its footprint there, and at the least its coefficients, masks, window and twiddles. -/
def State.kernelOf (s : State) (i : Nat) : Nat := (s.eng.graph[i]?.map (·.kernel)).getD 0
/-- See `State.kernelOf`. -/
def State.tableWords (s : State) (i : Nat) : Nat :=
  match s.eng.graph[i]? with
  | none => 0
  | some d =>
    let l := d.frameLen
    let own := match d.kernel with
      | 1 => heldWords l
      | 2 => l / 4
      | 6 => heldWords l + l / 4
      | 12 => l / 4
      | 14 => heldWords l + l / 4
      | _ => 0
    max d.cUse ((d.needs (formats s.eng.graph)).2.2.2 + own)

/-- The words of staging SRAM that carry data (R305, region 0): the cells of streams, the input frames of nodes and of their invocations (R181),
and the state regions there. -/
def State.stagingWords (s : State) : List SramWord :=
  s.streams.flatMap (fun p => if p.2.st = 3 then [] else (p.2.closed ++ p.2.opn.toList).zipIdx.flatMap (fun b =>
    (List.range b.1.cells).map (fun c => .cell p.1 b.2 c))) ++
  s.nodes.flatMap (fun p => p.2.ins.zipIdx.flatMap (fun i => i.1.frames.zipIdx.flatMap (fun f =>
      (List.range (valueWords f.1.fmt f.1.vals.length)).map (fun c => .frame p.1 i.2 f.2 c))) ++
    p.2.invs.flatMap (fun v => if v.outs.isSome then [] else v.frames.zipIdx.flatMap (fun f =>
      (List.range (valueWords f.1.fmt f.1.vals.length)).map (fun c => .held p.1 v.num f.2 c))) ++
    (if (s.eng.graph[p.1]?.map (·.stDram)).getD true then []
     else (List.range (p.2.saved.accWords (s.kernelOf p.1) + p.2.saved.line.length)).map (fun c => .saved p.1 c)))

/-- The words of clusters that carry data (region 1): input buffers, the frames that an invocation runs on, resident state, coefficients and
tables; and what holds a cluster's program, in each that has power. -/
def State.clusterWords (s : State) : List SramWord :=
  s.nodes.flatMap (fun p => if p.2.run.isEmpty then [] else
    p.2.ins.zipIdx.flatMap (fun i => (List.range i.1.buf.length).map (fun c => .buffer p.1 i.2 c)) ++
    p.2.invs.flatMap (fun v => if v.outs.isSome || v.started.length == v.finished.length then [] else v.frames.zipIdx.flatMap (fun f =>
      (List.range (valueWords f.1.fmt f.1.vals.length)).map (fun c => .held p.1 v.num f.2 c))) ++
    (List.range (p.2.k.accWords (s.kernelOf p.1))).map (fun c => .acc p.1 c) ++ (List.range p.2.k.line.length).map (fun c => .line p.1 c) ++
    (List.range (s.tableWords p.1)).map (fun c => .coef p.1 c)) ++
  ((List.range 4).filter (fun c => hasCl s.fac.variant c && s.clState c != clOff)).map (fun c => .logic c)

/-- The words of region 3 beside calibration entries: filter state and the index of the history rings. -/
def State.filterWords (s : State) : List SramWord :=
  s.pch.flatMap (fun p => (List.range p.2.mon.length).map (fun c => .monitor p.1 c) ++
    p.2.seis.zipIdx.flatMap (fun l => (List.range l.1.length).map (fun c => .seismic p.1 l.2 c)) ++
    (if p.2.stat.isSome then [.static p.1] else [])) ++
  s.wch.flatMap (fun p => (List.range p.2.line.length).map (fun c => .wline p.1 c)) ++
  s.streams.flatMap (fun p => if p.2.st = 3 then [] else (List.range p.2.held.length).map (fun c => .index p.1 c))

/-- A sample with POISON. -/
def Sample.poison (x : Sample) : Sample := { x with marks := { x.marks with poison := true } }

/-- Values of an input buffer with those poisoned that share a word with the `i`-th: the buffer is circular, so pairs are told by how many
values have come. -/
def NodeIn.spoil (q : NodeIn) (fmt i : Nat) : NodeIn :=
  let base := q.count - q.buf.length
  { q with buf := q.buf.zipIdx.map (fun p =>
      if p.2 = i || (wordsOf fmt = 1 && (base + p.2) / 2 == (base + i) / 2) then { p.1 with poison := true } else p.1) }

/-- The format of what feeds input `k` of node `n`. -/
def State.inputFormat (s : State) (n k : Nat) : Nat :=
  ((s.eng.graph[n]?.bind (fun d => d.ins.find? (fun e => e.input == k))).map (fun e => e.src.format (formats s.eng.graph))).getD 0

/-- Node `n` with a word of its memory in one of its clusters changed by `f`: of two clusters, either may be meant. -/
def State.inCluster (s : State) (n : Nat) (f : NodeSt → NodeSt) : State :=
  let p := s.freeNat 2
  let x := p.2.nodeU n
  p.2.setNode n (f { x with poAt := (x.poAt ++ [x.run.getD (p.1 % max 1 x.run.length) 0]).dedup })

/-- Stream `x` with data cell `c` of its `i`-th block in staging poisoned. -/
def Stream.spoilCell (x : Stream) (i c : Nat) : Stream :=
  let f := fun (b : Block) => { b with pbmp := (b.pbmp ++ [c]).dedup }
  if i < x.closed.length then { x with closed := x.closed.modify i f } else { x with opn := x.opn.map f }

/-- The poison bit of a word is set (R304): a stream's cell (R247), a node's input, state or table (R175), a filter's word (R91), an index
entry (R246). In what holds a cluster's program it is a cluster fault (R191, R305). -/
def State.spoil (s : State) (w : SramWord) : State :=
  let node := fun (i : Nat) (f : NodeSt → NodeSt) => s.setNode i (f (s.nodeU i))
  match w with
  | .cell sid i c => s.setStream sid ((s.streamU sid).spoilCell i c)
  | .frame n k i c => node n (fun x => x.onInput k (fun q => { q with frames := q.frames.modify i (fun f => { f with vals := spoilVals f.fmt c f.vals }) }))
  | .held n num i c => s.updInv n num (fun v => { v with frames := v.frames.modify i (fun f => { f with vals := spoilVals f.fmt c f.vals }) })
  | .buffer n k i => node n (fun x => x.onInput k (fun q => q.spoil (s.inputFormat n k) i))
  | .acc n i => s.inCluster n (fun x => { x with k := x.k.spoilAcc (s.kernelOf n) i })
  | .line n i => s.inCluster n (fun x => { x with k := x.k.spoilLine i })
  | .coef n i => s.inCluster n (fun x => { x with coefPo := (x.coefPo ++ (if s.kernelOf n = 8 then valuesIn (s.inputFormat n 0) i else [i])).dedup })
  | .saved n i => node n (fun x =>
      let w := x.saved.accWords (s.kernelOf n)
      { x with saved := if i < w then x.saved.spoilAcc (s.kernelOf n) i else x.saved.spoilLine (i - w) })
  | .logic c => clusterFault s c 2
  | .monitor n i => s.setPch n { s.pchU n with mon := (s.pchU n).mon.modify i Sample.poison }
  | .seismic n j i => s.setPch n { s.pchU n with seis := (s.pchU n).seis.modify j (fun l => l.modify i Sample.poison) }
  | .static n => s.setPch n { s.pchU n with stat := (s.pchU n).stat.map (fun w =>
      { w with marks := w.marks.map (fun m => { m with poison := true }) }) }
  | .wline n i => s.setWch n { s.wchU n with line := (s.wchU n).line.modify i (fun x => { x with poison := true }) }
  | .index sid i => s.setStream sid { s.streamU sid with held := (s.streamU sid).held.modify i (fun b => { b with idxPo := true }) }

/-- Which of the words of a region the address of a double error names: the spec gives the regions no addresses, so it is free (log entry
19, DESIGN CHOICE). -/
def State.spoilOne (s : State) (l : List SramWord) : State :=
  let p := s.freeNat 32
  match l[p.1 % l.length]? with
  | some w => p.2.spoil w
  | none => p.2

/-- SRAM_READ (R304, R305): a word of a region is read with a single error, which is corrected, or with a double one, which poisons it.
The address of a word of region 3 below 560 is the number of a calibration entry, that of a word of region 4 seven times its spare
cell's number and more; of the other regions and addresses any word may be meant (log entry 19, DESIGN CHOICE). -/
def sramRead (s : State) (region addr : Nat) (ue : Bool) : State :=
  if 5 ≤ region then s else
  let s := s.sramError region addr ue
  if !ue then s else
  match region with
  | 0 => s.spoilOne s.stagingWords
  | 1 => s.spoilOne s.clusterWords
  | 2 => { s with ecc := { s.ecc with mcPo := addr :: s.ecc.mcPo } }.raiseCause 6 305 0
  | 3 => if addr < 560 then (if calPresent s.fac.variant addr then s.setCalPoison addr true else s) else s.spoilOne s.filterWords
  | _ => match s.ecc.remap.getD (addr / 7) none with
    | some x => s.setSpare (addr / 7) { x with words := x.words.modify (addr % 7) (fun w => (w.1, true)) }
    | none => s

/-- CAL_ENTRY_RELOAD (R305): the MC reads a poisoned entry again from CALSET of the image it booted from; while the flash cannot be read
the entry stays as it is (log entry 19, DESIGN CHOICE). -/
def calEntryReload (s : State) (key : Nat) (readable : Bool) : State :=
  if !calPresent s.fac.variant key || !(s.calE key).poison || !s.bootu.mcRunning || !readable then s else
  ((s.setCal key { s.calE key with poison := false }).loadCalEntry key (s.calsetEntry key)).setCalPoison key false

end Sys2Proof.Machine
end

