-- ==== Sys2Proof/Machine/ProtectionRows.lean ====
section
/-!
DEFINITION. The meanings of the commands of one family: stored-data protection. Each is one direct use of the operation that its rule gives.
-/
namespace Sys2Proof.Machine

/-- BOOT_SELF_TESTS (R306): The SRAM March, ECC checker and DRAM pattern tests complete, remapping failing cells or stopping boot in SAFE.
-/
def execBootSelfTests (march : Nat) (chk : Bool) (dram : DramTests) (s : State) : Host.Outcome State Fault Refusal :=
  s.effect (bootSelfTests s march chk dram)

/-- CAL_ENTRY_RELOAD (R305): The MC reloads a poisoned calibration entry from CALSET within 100 ms. -/
def execCalEntryReload (key : Nat) (readable : Bool) (s : State) : Host.Outcome State Fault Refusal :=
  s.effect (calEntryReload s key readable)

/-- DRAM_CELL_READ (R289): A cell read is classified by syndrome, then corrected, logged or marked poisoned. -/
def execDramCellRead (port : Nat) (cell : Nat) (flips : List Nat) (s : State) : Host.Outcome State Fault Refusal :=
  s.effect (dramCellRead s port cell flips)

/-- ECC_WRITEBACK (R296): A cell corrected three times in one lap is written back within 10 us. -/
def execEccWriteback (cell : Nat) (s : State) : Host.Outcome State Fault Refusal := s.effect (eccWriteback s cell)

/-- FULL_CELL_WRITE (R290): A full-cell write stores new check bits and clears poison. -/
def execFullCellWrite (port : Nat) (cell : Nat) (data : Nat) (attr : Nat) (poison : Bool) (s : State) : Host.Outcome State Fault Refusal :=
  s.effect (fullCellWrite s port cell data attr poison)

/-- NARROW_WRITE (R291): A narrow write merges into the merge buffer, flushing an entry when full or displaced. -/
def execNarrowWrite (port : Nat) (cell : Nat) (data : Nat) (mask : Nat) (s : State) : Host.Outcome State Fault Refusal :=
  s.effect (narrowWrite s port cell data mask)

/-- MERGE_FLUSH (R292): An incomplete merge entry is flushed by age, by a read or before a self-refresh, as a read-modify-write. -/
def execMergeFlush (cell : Nat) (flips : List Nat) (s : State) : Host.Outcome State Fault Refusal := s.effect (mergeFlush s cell flips)

/-- SCRUB_READ (R302): The scrubber reads the next cell in an idle cycle and corrects or poisons it. -/
def execScrubRead (flips : List Nat) (s : State) : Host.Outcome State Fault Refusal := s.effect (scrubRead s flips)

/-- ECC_SCRUB_LAP_DONE (R302): A scrub lap ends, its time is stored and lap counts reset. -/
def execEccScrubLapDone (s : State) : Host.Outcome State Fault Refusal := s.effect (eccScrubLapDone s)

/-- SRAM_READ (R304): An SRAM word read corrects a single error or poisons the word. -/
def execSramRead (region : Nat) (addr : Nat) (ue : Bool) (s : State) : Host.Outcome State Fault Refusal :=
  s.effect (sramRead s region addr ue)

/-- ECC_LOG_CLR (R295): A write of 1 to ECC_LOG_CTRL.CLR removes non-WEAK log entries. -/
def execEccLogClr (s : State) : Host.Outcome State Fault Refusal := s.effect (s.whenOpen (eccLogClr s))

/-- ECC_LOG_SEL (R308): A write of ECC_LOG_CTRL.SEL copies a log entry into the reader's window. -/
def execEccLogSel (who : Reader) (i : Nat) (s : State) : Host.Outcome State Fault Refusal := s.effect (s.whenOpen (eccLogSel s who i))

/-- ECC_INJ_ARM (R309): A write of ECC_INJ.MODE in SERVICE arms an error injection for the next write of its cell. -/
def execEccInjArm (v : Word) (s : State) : Host.Outcome State Fault Refusal := s.effect (s.whenOpen (eccInjArm s v))

end Sys2Proof.Machine
end

