-- ==== Sys2Proof/Machine/RegisterRows.lean ====
section
/-!
DEFINITION. The meanings of the commands of one family: register accesses and absent units. Each is one direct use of the operation that its rule gives.
-/
namespace Sys2Proof.Machine

/-- ABSENT_UNIT_WRITE (R5): A write to an absent unit is ignored and counted in DEV_ABSENT_WR. -/
def execAbsentUnitWrite (who : Reader) (off : Nat) (s : State) : Host.Outcome State Fault Refusal := s.effect (absentUnitWrite s who off)

/-- DEV_ABSENT_WR_CLEAR (R451): A write of 0 clears DEV_ABSENT_WR, keeping a same-cycle count. -/
def execDevAbsentWrClear (also : Option (Reader × Nat)) (s : State) : Host.Outcome State Fault Refusal := s.effect (devAbsentWrClear s also)

/-- READ_CLEAR (R9): A read of an RC field returns its value and clears it. -/
def execReadClear (who : Reader) (off : Nat) (size : Nat) (s : State) : Host.Outcome State Fault Refusal :=
  s.effect (readClear s who off size)

/-- REGISTER_WRITE (R9): A write to a register without a row of its own acts by field access type and crosses domains. -/
def execRegisterWrite (who : Reader) (off : Nat) (size : Nat) (data : Nat) (s : State) : Host.Outcome State Fault Refusal :=
  s.effect (registerWrite s who off size data)

end Sys2Proof.Machine
end

