-- ==== Sys2Proof/Machine/SafetyRows.lean ====
section
/-!
DEFINITION. The meanings of the commands of one family: functional safety. Each is one direct use of the operation that its rule gives.
-/
namespace Sys2Proof.Machine

/-- RAIL_BELOW_COLD (R431): A rail falls below its COLD threshold and the device is reset as COLD. -/
def execRailBelowCold (s : State) : Host.Outcome State Fault Refusal := s.effect (railBelowCold s)

/-- SUPPLY_FAULT (R431): A rail stays outside its SAFE window for 100 us and the SUPPLY cause becomes active. -/
def execSupplyFault (rail : Nat) (mv : Nat) (s : State) : Host.Outcome State Fault Refusal := s.effect (supplyFault s rail mv)

/-- REFERENCE_MONITOR_TRIP (R431): The primary reference stays outside its window for 100 us, so the REFERENCE cause is active and
affected outputs are marked OVR. -/
def execReferenceMonitorTrip (mv : Nat) (s : State) : Host.Outcome State Fault Refusal := s.effect (referenceMonitorTrip s mv)

/-- CAUSE_CLEAR_TIMER (R428): A safety cause's hold-until interval expires, for example a rail in its window for 10 ms or a clock locked
for 1 ms, and the cause clears. -/
def execCauseClearTimer (cause : Nat) (s : State) : Host.Outcome State Fault Refusal := s.effect (causeClearTimer s cause)

/-- SMON_LOCKSTEP_MISMATCH (R430): The two SMON copies disagree, and the comparator pulls SAFE_N low and asserts every alarm output. -/
def execSmonLockstepMismatch (s : State) : Host.Outcome State Fault Refusal := s.effect (smonLockstepMismatch s)

/-- OUTPUT_FAULT (R430): A safety-output readback differs from the driven level for 10 us, which activates OUTPUT and asserts every other
output. -/
def execOutputFault (ball : Nat) (level : Bool) (s : State) : Host.Outcome State Fault Refusal := s.effect (outputFault s ball level)

/-- ALARM_EVALUATE (R433): In each AON cycle SMON evaluates every alarm output from its sources, faults, mode and force. -/
def execAlarmEvaluate (s : State) : Host.Outcome State Fault Refusal := s.effect (alarmEvaluate s)

/-- ALARM_HOLD_EXPIRY (R433): HOLD ms pass after a trigger raise that has no clear, and the trigger is released. -/
def execAlarmHoldExpiry (output : Nat) (trig : Nat) (s : State) : Host.Outcome State Fault Refusal :=
  s.effect (alarmHoldExpiry s output trig)

/-- SAF_ALM_ACK (R433): A write of 1 to SAF_ALMn_STAT.ACK releases a latched output while its source is inactive. -/
def execSafAlmAck (n : Nat) (s : State) : Host.Outcome State Fault Refusal := s.effect (s.whenOpen (safAlmAck s n))

/-- SAF_ALM_CFG_WRITE (R435): A write to an alarm output's CFG, CH0, CH1 or HOLD is accepted or refused according to the mode and the bits
it changes. -/
def execSafAlmCfgWrite (n : Nat) (i : Nat) (v : Word) (s : State) : Host.Outcome State Fault Refusal :=
  s.effect (s.whenOpen (safAlmCfgWrite s n i v))

/-- SAF_FORCE_SAFE (R446): A write of 1 to SAF_FORCE.SAFE in SERVICE enters SAFE with cause TEST. -/
def execSafForceSafe (s : State) : Host.Outcome State Fault Refusal := s.effect (s.whenOpen (safForceSafe s))

/-- SAF_FORCE_ALM (R446): A write to SAF_FORCE.ALM in SERVICE forces the selected alarm outputs asserted. -/
def execSafForceAlm (v : Nat) (s : State) : Host.Outcome State Fault Refusal := s.effect (s.whenOpen (safForceAlm s v))

/-- SAF_SUP_CHANGE (R431): A rail or the primary reference leaves or re-enters its window, so SAF_SUP changes at once and the 100 us trip
or the 10 ms clearing interval starts. -/
def execSafSupChange (i : Nat) (out : Bool) (s : State) : Host.Outcome State Fault Refusal := s.effect (safSupChange s i out)

end Sys2Proof.Machine
end

