-- ==== Sys2Proof/Machine/HostDma.lean ====
section
/-!
DEFINITION. How the device's traffic shares the host link (R386): descriptor fetch and event records ahead of the DMA channels, and these in
weighted round robin. A block goes out whole in one command, so that the TLPs by which it exceeds its channel's turn count against the
channel's next turns (log entry 135, DEDUCED).
-/
namespace Sys2Proof.Machine

/-- Whether the oldest record that waits can be written to its queue now. -/
def State.recordReady (s : State) : Bool :=
  match s.recs with
  | [] => false
  | r :: _ => s.host.pcieEver && (s.canWrite (classOf r.type)).isSome

/-- Whether the MC takes a descriptor from the command ring now (R389, R393): it runs, is not saturated, has a place, and does not wait for room in
the queue. -/
def State.fetchReady (s : State) : Bool :=
  s.hostUp && s.bootu.mcRunning && s.flag Reg.HIF_CMD_CFG Fld.HIF_CMD_CFG_EN && s.cmdWaiting != 0 && decide (s.host.inflight.length < 16) &&
    !s.host.inflight.any InFlight.startsAlone && !s.flag Reg.HIF_CMD_STAT Fld.HIF_CMD_STAT_WAIT_EQ && !s.flag Reg.MC_LOAD Fld.MC_LOAD_SAT

/-- The DMA channel of a ring. -/
def State.dmaOf (s : State) (r : Nat) : Nat := s.fld (Reg.HR_CFG r) Fld.HR_CFG_DMA

/-- Whether a DMA channel has a block ready. -/
def State.dmaReady (s : State) (ch : Nat) : Bool := (List.range 32).any (fun r => s.dmaOf r == ch && (s.blockFor r).isSome)

/-- A channel's weight. -/
def State.dmaWeight (s : State) (ch : Nat) : Nat := (s.reg Reg.HIF_DMA_WGT).toNat / 2 ^ (4 * ch) % 16

/-- The TLPs of the negotiated maximum payload that carry `n` cells. -/
def State.tlps (s : State) (n : Nat) : Nat := (32 * n + s.host.pci.payload - 1) / s.host.pci.payload

/-- The next channel in turn: one with nothing ready is skipped; one that has gone beyond its turn before lets its weight pass. -/
def State.dmaNext (s : State) : Nat → DmaTurn → DmaTurn
  | 0, t => t
  | n + 1, t =>
    if s.dmaReady t.ch && decide (0 < t.left) then t else
    let ch := (t.ch + 1) % 8
    let owed := t.owed.getD ch 0
    let w := s.dmaWeight ch
    if !s.dmaReady ch then s.dmaNext n { t with ch := ch, left := 0 }
    else s.dmaNext n { ch := ch, left := w - owed, owed := t.owed.set ch (owed - w) }

/-- Enough turns for the longest block at the least weight. -/
def dmaFuel : Nat := 256

/-- HOST_RING_BLOCK_WRITE (R249, R250, R386): the ring's DMA channel writes a block where nothing goes ahead of it and the turn is its. -/
def dmaBlockWrite (s : State) (r : Nat) : State :=
  match s.blockFor r with
  | none => s
  | some (_, _, t) =>
    let turn := s.dmaNext dmaFuel s.host.dma
    if s.recordReady || s.fetchReady || turn.ch != s.dmaOf r then s else
    let k := s.tlps t.raw.length
    let owed := turn.owed.set turn.ch (turn.owed.getD turn.ch 0 + (k - turn.left))
    hostRingBlockWrite { s with host := { s.host with dma := { turn with left := turn.left - k, owed := owed } } } r

end Sys2Proof.Machine
end

