-- ==== Sys2Proof/Machine/StreamRows.lean ====
section
/-!
DEFINITION. The meanings of the commands of one family: streams, captures and host rings. Each is one direct use of the operation that its rule gives.
-/
namespace Sys2Proof.Machine

/-- STREAM_OPEN (R235): Command that opens a continuous stream with its ring and destination. -/
def execStreamOpen (src : CmdSrc) (tag : Nat) (p : OpenParams) (s : State) : Host.Outcome State Fault Refusal :=
  s.effect (streamOpen s src tag p)

/-- STREAM_CLOSE (R236): Command that closes a stream's open block with LAST and takes the stream to CLOSING. -/
def execStreamClose (src : CmdSrc) (tag : Nat) (sid : Nat) (s : State) : Host.Outcome State Fault Refusal :=
  s.effect (streamClose s src tag sid)

/-- CAPTURE (R258): Command that admits a capture over the history of 1 to 8 source streams. -/
def execCapture (src : CmdSrc) (tag : Nat) (p : CaptureParams) (s : State) : Host.Outcome State Fault Refusal :=
  s.effect (capture s src tag p)

/-- EVENT_ACK_RX (R255): An EVENT_ACK releases blocks that the origin held for the third ordering promise. -/
def execEventAckRx (origin : Nat) (tag : Nat) (s : State) : Host.Outcome State Fault Refusal := s.effect (eventAckRx s origin tag)

/-- STREAM_REQ_RX (R252): A request for host-ring cells is granted in arrival order when space allows. -/
def execStreamReqRx (pkt : Packet) (s : State) : Host.Outcome State Fault Refusal := s.effect (streamReqRx s pkt)

/-- STREAM_GRANT_RX (R252): A grant lets the origin send the block's cells. -/
def execStreamGrantRx (pkt : Packet) (s : State) : Host.Outcome State Fault Refusal := s.effect (streamGrantRx s pkt)

/-- STREAM_DATA_RX (R252): The cells of a block are written into the reserved ring cells, header last, and the block is acknowledged. -/
def execStreamDataRx (pkt : Packet) (s : State) : Host.Outcome State Fault Refusal := s.effect (streamDataRx s pkt)

/-- STREAM_ACK_RX (R252): A block acknowledgment advances the origin's send pointer and may end a capture or a closing stream. -/
def execStreamAckRx (pkt : Packet) (s : State) : Host.Outcome State Fault Refusal := s.effect (streamAckRx s pkt)

/-- STREAM_RESEND (R252): A block unacknowledged for 1 ms after a link loss, or after a reroute, is sent again with the same BSEQ. -/
def execStreamResend (sid : Nat) (s : State) : Host.Outcome State Fault Refusal := s.effect (streamResend s sid)

/-- HR_CFG_ENABLE (R249): Enabling a host ring resets HEAD, TAIL and PHASE. -/
def execHrCfgEnable (r : Nat) (v : Word) (s : State) : Host.Outcome State Fault Refusal := s.effect (s.whenOpen (hrCfgEnable (s.reachIf (hasHost s.fac.variant) 6) r v))

/-- HR_TAIL_WRITE (R249): A write of HR_TAIL frees host-ring cells, or is ignored with TAIL_ERR. -/
def execHrTailWrite (r : Nat) (v : Nat) (s : State) : Host.Outcome State Fault Refusal := s.effect (s.whenOpen (hrTailWrite (s.reachIf (hasHost s.fac.variant) 6) r v))

/-- HOST_RING_BLOCK_WRITE (R249): DMA writes a ready block into a host ring once there is room, data cells first and header last. -/
def execHostRingBlockWrite (r : Nat) (s : State) : Host.Outcome State Fault Refusal := s.effect (dmaBlockWrite s r)

/-- HOST_RING_STALL (R251): A block waits for ring space longer than HOLD_T, so STALL sets. -/
def execHostRingStall (r : Nat) (s : State) : Host.Outcome State Fault Refusal := s.effect (hostRingStall s r)

/-- AGE_MS_EXPIRY (R240): AGE_MS passes since a block's first value, so the block is closed. -/
def execAgeMsExpiry (sid : Nat) (s : State) : Host.Outcome State Fault Refusal := s.effect (ageMsExpiry s sid)

/-- BLOCK_WRITE (R244): A closed block is written into its history ring with its BSEQ. -/
def execBlockWrite (sid : Nat) (s : State) : Host.Outcome State Fault Refusal := s.effect (blockWrite s sid)

/-- STAGING_FULL (R245): Staging space returns after values were discarded, and a STAGING placeholder is written. -/
def execStagingFull (sid : Nat) (s : State) : Host.Outcome State Fault Refusal := s.effect (stagingFull s sid)

/-- FLUSH_BURST (R14): PACER schedules a class 0 flush of VIGIL stream cells to DRAM before 75 % fill. -/
def execFlushBurst (s : State) : Host.Outcome State Fault Refusal := s.effect (flushBurst s)

/-- BLOCK_SEND (R246): The sender sends the next held block, replacing an unreadable header by a HEADER placeholder. -/
def execBlockSend (sid : Nat) (head : List Nat) (index : Option Bool) (data : List (Nat × Nat)) (s : State) :
    Host.Outcome State Fault Refusal :=
  s.effect (blockSend s sid head index data)

end Sys2Proof.Machine
end

