-- ==== Sys2Proof/Machine/WideRows.lean ====
section
/-!
DEFINITION. The meanings of the commands of one family: wideband channels, window monitors, hit comparators and start units. Each is one direct use of the operation that its rule gives.
-/
namespace Sys2Proof.Machine

/-- NATIVE_SAMPLE (R151): A W-channel native sample is calibrated, decimated and delivered. -/
def execNativeSample (n : Nat) (r : BitVec 20) (s : State) : Host.Outcome State Fault Refusal := s.effect (nativeSample s n r)

/-- W_OVERRANGE_LEAVE (R148): 8192 native samples pass without an overrange sample, and a leave record is written. -/
def execWOverrangeLeave (n : Nat) (s : State) : Host.Outcome State Fault Refusal := s.effect (wOverrangeLeave s n)

/-- W_CONVERTER_START (R164): A wake by a crossing, a mode change or a RUN setting starts a sleeping W converter. -/
def execWConverterStart (n : Nat) (s : State) : Host.Outcome State Fault Refusal := s.effect (wConverterStart s n)

/-- W_CONVERTER_READY (R152): The converter delivers its first valid native sample within 2 us of its start. -/
def execWConverterReady (n : Nat) (s : State) : Host.Outcome State Fault Refusal := s.effect (wConverterReady s n)

/-- W_CONVERTER_STOP (R164): 10 ms after a hit ends, a woken converter sleeps again unless the mode requires it. -/
def execWConverterStop (n : Nat) (s : State) : Host.Outcome State Fault Refusal := s.effect (wConverterStop s n)

/-- WCH_CFG_WRITE (R153): A write to WCH_CFG changes gain, decimation or coupling and restarts the decimator, or is refused. -/
def execWchCfgWrite (n : Nat) (v : Word) (s : State) : Host.Outcome State Fault Refusal := s.effect (s.whenOpen (wchCfgWrite s n v))

/-- BASELINE_WINDOW (R162): A 1 ms window of native samples updates the floating hit baseline. -/
def execBaselineWindow (h : Nat) (s : State) : Host.Outcome State Fault Refusal := s.effect (baselineWindow s h)

/-- WM_TRANSITION (R158): A window monitor's input stays beyond a threshold for one decision time and it changes state. -/
def execWmTransition (i : Nat) (state : Nat) (t : Time) (s : State) : Host.Outcome State Fault Refusal :=
  s.effect (wmTransition s i state t)

/-- WM_RESOLVE (R159): An UNRESOLVED monitor resolves into a state silently. -/
def execWmResolve (i : Nat) (state : Nat) (s : State) : Host.Outcome State Fault Refusal := s.effect (wmResolve s i state)

/-- WM_CFG_WRITE (R159): A write to WM_CFG or WM_TH changes the monitor and may restart it in UNRESOLVED. -/
def execWmCfgWrite (i : Nat) (th : Bool) (v : Word) (s : State) : Host.Outcome State Fault Refusal :=
  s.effect (s.whenOpen (wmCfgWrite s i th v))

/-- WM_TIME_LO_READ (R161): A read of WM_TIME_LO latches the 64-bit time into the reader's shadow. -/
def execWmTimeLoRead (who : Reader) (i : Nat) (s : State) : Host.Outcome State Fault Refusal := s.effect (s.whenOpen (wmTimeLoRead s who i))

/-- WM_TIME_HI_READ (R161): A read of WM_TIME_HI returns the high half from the reader's shadow. -/
def execWmTimeHiRead (who : Reader) (i : Nat) (s : State) : Host.Outcome State Fault Refusal := s.effect (s.whenOpen (wmTimeHiRead s who i))

/-- HC_CROSSING (R163): A hit comparator crossing starts a hit, counts a crossing, or counts a lockout crossing. -/
def execHcCrossing (h : Nat) (x : Crossing) (s : State) : Host.Outcome State Fault Refusal := s.effect (hcCrossing s h x)

/-- HIT (R165): HDT passes without a crossing, so the hit ends, the HIT record is written and LOCKOUT begins. -/
def execHit (h : Nat) (s : State) : Host.Outcome State Fault Refusal := s.effect (hitEnds s h)

/-- HIT_TRUNCATED (R163): HMAX passes from t_first, so the hit ends with TRUNC. -/
def execHitTruncated (h : Nat) (s : State) : Host.Outcome State Fault Refusal := s.effect (hitTruncated s h)

/-- HC_LOCKOUT_END (R163): HLT ends the lockout and the comparator returns to IDLE. -/
def execHcLockoutEnd (lock : TestDue) (s : State) : Host.Outcome State Fault Refusal := s.effect (hcLockoutEnd s lock.unit lock.deciding)

/-- COMP_SELF_TEST (R166): A comparator test falls due and runs while its unit is idle. -/
def execCompSelfTest (test : TestDue) (s : State) : Host.Outcome State Fault Refusal := s.effect (compSelfTest s test.unit test.deciding)

/-- COMP_TEST_RELEASE (R167): The test releases the comparator, judges the steps and reports any blind crossing. -/
def execCompTestRelease (u : Nat) (failed : Option Nat) (t : Time) (differs : Option Nat) (s : State) : Host.Outcome State Fault Refusal :=
  s.effect (compTestRelease s u failed t differs)

/-- COMP_UNTESTED (R166): No test completes within 1 s, so UNTESTED sets. -/
def execCompUntested (u : Nat) (s : State) : Host.Outcome State Fault Refusal := s.effect (compUntested s u)

/-- SYNC_IN_EDGE (R168): A SYNC_IN edge is timestamped as a start-unit source. -/
def execSyncInEdge (t : Time) (rising : Bool) (s : State) : Host.Outcome State Fault Refusal := s.effect (syncInEdge s t rising)

/-- START_SCHEDULE_TIMER (R168): A start unit's schedule timer reaches PHASE + j x PERIOD. -/
def execStartScheduleTimer (n : Nat) (s : State) : Host.Outcome State Fault Refusal := s.effect (startScheduleTimer s n)

/-- START_FIRED (R169): A start unit receives its source event, computes t_s and starts a capture. -/
def execStartFired (n : Nat) (s : State) : Host.Outcome State Fault Refusal := s.effect (startFired s n)

/-- START_UNIT_IDLE (R170): t_s + LEN is reached and the start unit is no longer busy. -/
def execStartUnitIdle (n : Nat) (s : State) : Host.Outcome State Fault Refusal := s.effect (startUnitIdle s n)

end Sys2Proof.Machine
end

