-- ==== Sys2Proof/Machine/Dispatch.lean ====
section
/-! DEFINITION. The dispatch: one arm for each constructor of Instr, in the order of spec/opcode_table.json. -/
namespace Sys2Proof.Machine

def exec (i : Instr) (s : State) : Host.Outcome State Fault Refusal :=
  match i with
  | .powerOn => Sys2Proof.Machine.execPowerOn s
  | .coldResetEnd => Sys2Proof.Machine.execColdResetEnd s
  | .railBelowCold => Sys2Proof.Machine.execRailBelowCold s
  | .perstNAssert => Sys2Proof.Machine.execPerstNAssert s
  | .perstNRelease => Sys2Proof.Machine.execPerstNRelease s
  | .supplyFault rail mv => Sys2Proof.Machine.execSupplyFault rail mv s
  | .referenceMonitorTrip mv => Sys2Proof.Machine.execReferenceMonitorTrip mv s
  | .causeClearTimer cause => Sys2Proof.Machine.execCauseClearTimer cause s
  | .smonLockstepMismatch => Sys2Proof.Machine.execSmonLockstepMismatch s
  | .outputFault ball level => Sys2Proof.Machine.execOutputFault ball level s
  | .alarmEvaluate => Sys2Proof.Machine.execAlarmEvaluate s
  | .alarmHoldExpiry output trig => Sys2Proof.Machine.execAlarmHoldExpiry output trig s
  | .safAlmAck n => Sys2Proof.Machine.execSafAlmAck n s
  | .safAlmCfgWrite n j v => Sys2Proof.Machine.execSafAlmCfgWrite n j v s
  | .safForceSafe => Sys2Proof.Machine.execSafForceSafe s
  | .safForceAlm v => Sys2Proof.Machine.execSafForceAlm v s
  | .bootReferenceAcquired src => Sys2Proof.Machine.execBootReferenceAcquired src s
  | .bootSelfTests march chk dram => Sys2Proof.Machine.execBootSelfTests march chk dram s
  | .imageValidation slotB found readable bytes => Sys2Proof.Machine.execImageValidation slotB found readable bytes s
  | .fwStartTimeout => Sys2Proof.Machine.execFwStartTimeout s
  | .semanticValidation graphId graph => Sys2Proof.Machine.execSemanticValidation graphId graph s
  | .bootDone => Sys2Proof.Machine.execBootDone s
  | .bootRetry => Sys2Proof.Machine.execBootRetry s
  | .flReleaseWrite v => Sys2Proof.Machine.execFlReleaseWrite v s
  | .mcWdogKick who => Sys2Proof.Machine.execMcWdogKick who s
  | .mcWatchdogExpiry sram => Sys2Proof.Machine.execMcWatchdogExpiry sram s
  | .mcRestart => Sys2Proof.Machine.execMcRestart s
  | .mcSaturated load => Sys2Proof.Machine.execMcSaturated load s
  | .mcSatClear load => Sys2Proof.Machine.execMcSatClear load s
  | .cmdDoorbell tail => Sys2Proof.Machine.execCmdDoorbell tail s
  | .descriptorFetch bytes poisoned => Sys2Proof.Machine.execDescriptorFetch bytes poisoned s
  | .modeSet src tag target => Sys2Proof.Machine.execModeSet src tag target s
  | .safeExit src tag target => Sys2Proof.Machine.execSafeExit src tag target s
  | .reload src tag => Sys2Proof.Machine.execReload src tag s
  | .paramSet src tag node word mask value => Sys2Proof.Machine.execParamSet src tag node word mask value s
  | .regRead src tag target size off => Sys2Proof.Machine.execRegRead src tag target size off s
  | .regWrite src tag target size off data => Sys2Proof.Machine.execRegWrite src tag target size off data s
  | .streamOpen src tag p => Sys2Proof.Machine.execStreamOpen src tag p s
  | .streamClose src tag sid => Sys2Proof.Machine.execStreamClose src tag sid s
  | .capture src tag p => Sys2Proof.Machine.execCapture src tag p s
  | .snapshotArm src tag t id all => Sys2Proof.Machine.execSnapshotArm src tag t id all s
  | .chkConvert src tag bank point window urgent => Sys2Proof.Machine.execChkConvert src tag bank point window urgent s
  | .calSystemZero src tag ch n => Sys2Proof.Machine.execCalSystemZero src tag ch n s
  | .calSystemFull src tag ch n t => Sys2Proof.Machine.execCalSystemFull src tag ch n t s
  | .calCommit src tag => Sys2Proof.Machine.execCalCommit src tag s
  | .completion => Sys2Proof.Machine.execCompletion s
  | .onDemandSlotDone bank r overload ow => Sys2Proof.Machine.execOnDemandSlotDone bank r overload ow s
  | .calMeasureDone bank => Sys2Proof.Machine.execCalMeasureDone bank s
  | .calApplied bank => Sys2Proof.Machine.execCalApplied bank s
  | .calCommitDone end_ => Sys2Proof.Machine.execCalCommitDone end_ s
  | .calEntryReload key readable => Sys2Proof.Machine.execCalEntryReload key readable s
  | .modeChangeInstant => Sys2Proof.Machine.execModeChangeInstant s
  | .modeChange => Sys2Proof.Machine.execModeChange s
  | .modeTimerOn => Sys2Proof.Machine.execModeTimerOn s
  | .surveyIdleExpiry => Sys2Proof.Machine.execSurveyIdleExpiry s
  | .burstHoldExpiry => Sys2Proof.Machine.execBurstHoldExpiry s
  | .burstExhausted => Sys2Proof.Machine.execBurstExhausted s
  | .thermalCeil tj => Sys2Proof.Machine.execThermalCeil tj s
  | .thermalEmergency tj => Sys2Proof.Machine.execThermalEmergency tj s
  | .wakeGatePass => Sys2Proof.Machine.execWakeGatePass s
  | .powerStateSleep => Sys2Proof.Machine.execPowerStateSleep s
  | .deepEntry => Sys2Proof.Machine.execDeepEntry s
  | .runBurstStart => Sys2Proof.Machine.execRunBurstStart s
  | .gateTimeout gate => Sys2Proof.Machine.execGateTimeout gate s
  | .deepEntryRetry => Sys2Proof.Machine.execDeepEntryRetry s
  | .gatedAccess gate => Sys2Proof.Machine.execGatedAccess gate s
  | .pacerEvaluate energy tj => Sys2Proof.Machine.execPacerEvaluate energy tj s
  | .pacerWindowStart => Sys2Proof.Machine.execPacerWindowStart s
  | .invocationDeadline node num => Sys2Proof.Machine.execInvocationDeadline node num s
  | .clkSourceLoss => Sys2Proof.Machine.execClkSourceLoss s
  | .clkHoldoverEnd => Sys2Proof.Machine.execClkHoldoverEnd s
  | .clkMissing => Sys2Proof.Machine.execClkMissing s
  | .clkReturn => Sys2Proof.Machine.execClkReturn s
  | .candidateReadyChange c ready => Sys2Proof.Machine.execCandidateReadyChange c ready s
  | .clkSrcWrite v => Sys2Proof.Machine.execClkSrcWrite v s
  | .clkSwitch => Sys2Proof.Machine.execClkSwitch s
  | .linkSignal p => Sys2Proof.Machine.execLinkSignal p s
  | .linkTrained p => Sys2Proof.Machine.execLinkTrained p s
  | .linkUp p => Sys2Proof.Machine.execLinkUp p s
  | .linkDown p cause => Sys2Proof.Machine.execLinkDown p cause s
  | .linkRetrain p => Sys2Proof.Machine.execLinkRetrain p s
  | .dataFlitRx p flit => Sys2Proof.Machine.execDataFlitRx p flit s
  | .replayTimeout p => Sys2Proof.Machine.execReplayTimeout p s
  | .hello p adv key nport naddr => Sys2Proof.Machine.execHello p adv key nport naddr s
  | .elect p key hops => Sys2Proof.Machine.execElect p key hops s
  | .electionWin => Sys2Proof.Machine.execElectionWin s
  | .rate p code => Sys2Proof.Machine.execRate p code s
  | .rateSwitch p => Sys2Proof.Machine.execRateSwitch p s
  | .lost p die => Sys2Proof.Machine.execLost p die s
  | .offer p depth die => Sys2Proof.Machine.execOffer p depth die s
  | .clkRepair => Sys2Proof.Machine.execClkRepair s
  | .baton => Sys2Proof.Machine.execBaton s
  | .readPacketRx pkt => Sys2Proof.Machine.execReadPacketRx pkt s
  | .writePacketRx pkt => Sys2Proof.Machine.execWritePacketRx pkt s
  | .responseRx pkt => Sys2Proof.Machine.execResponseRx pkt s
  | .requestTimeout tag => Sys2Proof.Machine.execRequestTimeout tag s
  | .commandPacketRx origin tag bytes => Sys2Proof.Machine.execCommandPacketRx origin tag bytes s
  | .eventPacketRx origin tag r => Sys2Proof.Machine.execEventPacketRx origin tag r s
  | .eventAckRx origin tag => Sys2Proof.Machine.execEventAckRx origin tag s
  | .streamReqRx pkt => Sys2Proof.Machine.execStreamReqRx pkt s
  | .streamGrantRx pkt => Sys2Proof.Machine.execStreamGrantRx pkt s
  | .streamDataRx pkt => Sys2Proof.Machine.execStreamDataRx pkt s
  | .streamAckRx pkt => Sys2Proof.Machine.execStreamAckRx pkt s
  | .streamResend sid => Sys2Proof.Machine.execStreamResend sid s
  | .info die tag => Sys2Proof.Machine.execInfo die tag s
  | .setAddr die addr => Sys2Proof.Machine.execSetAddr die addr s
  | .rtWrite die entries => Sys2Proof.Machine.execRtWrite die entries s
  | .roles die manager standby root successor stbyDie rootDie depth ecc => Sys2Proof.Machine.execRoles die manager standby root successor stbyDie rootDie depth ecc s
  | .clkSel die sel => Sys2Proof.Machine.execClkSel die sel s
  | .heartbeat die => Sys2Proof.Machine.execHeartbeat die s
  | .heartbeatSend => Sys2Proof.Machine.execHeartbeatSend s
  | .mirror die topo => Sys2Proof.Machine.execMirror die topo s
  | .mgmtRspRx tag dev => Sys2Proof.Machine.execMgmtRspRx tag dev s
  | .discoveryDone topo limited roles diameter => Sys2Proof.Machine.execDiscoveryDone topo limited roles diameter s
  | .reroute topo lost links plan => Sys2Proof.Machine.execReroute topo lost links plan s
  | .tableCommit t => Sys2Proof.Machine.execTableCommit t s
  | .tableSwitch => Sys2Proof.Machine.execTableSwitch s
  | .bankRetire => Sys2Proof.Machine.execBankRetire s
  | .standbyTakeover => Sys2Proof.Machine.execStandbyTakeover s
  | .fabChurn => Sys2Proof.Machine.execFabChurn s
  | .vcStall p vc ms => Sys2Proof.Machine.execVcStall p vc ms s
  | .vcResumed mask => Sys2Proof.Machine.execVcResumed mask s
  | .reelect => Sys2Proof.Machine.execReelect s
  | .fabricJoin p higher offset => Sys2Proof.Machine.execFabricJoin p higher offset s
  | .timeExchange p flow times adv t4 => Sys2Proof.Machine.execTimeExchange p flow times adv t4 s
  | .ptmSample ns => Sys2Proof.Machine.execPtmSample ns s
  | .ppsInEdge t => Sys2Proof.Machine.execPpsInEdge t s
  | .timeLost => Sys2Proof.Machine.execTimeLost s
  | .timeStep step t => Sys2Proof.Machine.execTimeStep step t s
  | .timeStepApply => Sys2Proof.Machine.execTimeStepApply s
  | .starter t id origin => Sys2Proof.Machine.execStarter t id origin s
  | .snapshotLatch => Sys2Proof.Machine.execSnapshotLatch s
  | .snapDone => Sys2Proof.Machine.execSnapDone s
  | .syncOutSecond rise => Sys2Proof.Machine.execSyncOutSecond rise s
  | .pcieL0 => Sys2Proof.Machine.execPcieL0 s
  | .pcieLinkDown => Sys2Proof.Machine.execPcieLinkDown s
  | .d3hotEntry enter => Sys2Proof.Machine.execD3hotEntry enter s
  | .msixSend v => Sys2Proof.Machine.execMsixSend v s
  | .bar2Read addr size => Sys2Proof.Machine.execBar2Read addr size s
  | .bar2Write addr data => Sys2Proof.Machine.execBar2Write addr data s
  | .hrCfgEnable r v => Sys2Proof.Machine.execHrCfgEnable r v s
  | .hrTailWrite r v => Sys2Proof.Machine.execHrTailWrite r v s
  | .hostRingBlockWrite r => Sys2Proof.Machine.execHostRingBlockWrite r s
  | .hostRingStall r => Sys2Proof.Machine.execHostRingStall r s
  | .cmdRingEnable v => Sys2Proof.Machine.execCmdRingEnable v s
  | .eqCfgEnable q v => Sys2Proof.Machine.execEqCfgEnable q v s
  | .eqTailWrite q v => Sys2Proof.Machine.execEqTailWrite q v s
  | .eventRecordWrite => Sys2Proof.Machine.execEventRecordWrite s
  | .eventDeferredDelivery => Sys2Proof.Machine.execEventDeferredDelivery s
  | .rateLimitIntervalEnd type key => Sys2Proof.Machine.execRateLimitIntervalEnd type key s
  | .baseSample raws => Sys2Proof.Machine.execBaseSample raws s
  | .fusionUnchecked n => Sys2Proof.Machine.execFusionUnchecked n s
  | .fusDiffUpdate n => Sys2Proof.Machine.execFusDiffUpdate n s
  | .overrangeLeave n => Sys2Proof.Machine.execOverrangeLeave n s
  | .pinRange n ballN beyond => Sys2Proof.Machine.execPinRange n ballN beyond s
  | .inputClamp n ballN conducts => Sys2Proof.Machine.execInputClamp n ballN conducts s
  | .cfgChange n => Sys2Proof.Machine.execCfgChange n s
  | .monitorOutput n => Sys2Proof.Machine.execMonitorOutput n s
  | .staticOutput n => Sys2Proof.Machine.execStaticOutput n s
  | .seismicOutput n => Sys2Proof.Machine.execSeismicOutput n s
  | .mainsLost n => Sys2Proof.Machine.execMainsLost n s
  | .resHiRead who j => Sys2Proof.Machine.execResHiRead who j s
  | .resLoRead who j => Sys2Proof.Machine.execResLoRead who j s
  | .res64Read who j => Sys2Proof.Machine.execRes64Read who j s
  | .pchCfgWrite n v => Sys2Proof.Machine.execPchCfgWrite n v s
  | .pchFusCfgWrite n v => Sys2Proof.Machine.execPchFusCfgWrite n v s
  | .pchPlausThWrite n v => Sys2Proof.Machine.execPchPlausThWrite n v s
  | .pchFmtWrite n v => Sys2Proof.Machine.execPchFmtWrite n v s
  | .pchStaticCfgWrite n v => Sys2Proof.Machine.execPchStaticCfgWrite n v s
  | .pchSeisCfgWrite n v => Sys2Proof.Machine.execPchSeisCfgWrite n v s
  | .excCtrlModeWrite k v => Sys2Proof.Machine.execExcCtrlModeWrite k v s
  | .excFire k => Sys2Proof.Machine.execExcFire k s
  | .excLevelWrite k v => Sys2Proof.Machine.execExcLevelWrite k v s
  | .excRampEnd k => Sys2Proof.Machine.execExcRampEnd k s
  | .excPolarityEdge k => Sys2Proof.Machine.execExcPolarityEdge k s
  | .excPeriodTimer k => Sys2Proof.Machine.execExcPeriodTimer k s
  | .excStart k => Sys2Proof.Machine.execExcStart k s
  | .excRelease k => Sys2Proof.Machine.execExcRelease k s
  | .excDone k => Sys2Proof.Machine.execExcDone k s
  | .excMonitorSample k vmon imon limit sense => Sys2Proof.Machine.execExcMonitorSample k vmon imon limit sense s
  | .excFault k b => Sys2Proof.Machine.execExcFault k b s
  | .checkerSlotBoundary bank overload => Sys2Proof.Machine.execCheckerSlotBoundary bank overload s
  | .checkerResult bank r owP owN => Sys2Proof.Machine.execCheckerResult bank r owP owN s
  | .checkerCycleEnd bank => Sys2Proof.Machine.execCheckerCycleEnd bank s
  | .bankCfgWrite bank j v => Sys2Proof.Machine.execBankCfgWrite bank j v s
  | .nativeSample n r => Sys2Proof.Machine.execNativeSample n r s
  | .wOverrangeLeave n => Sys2Proof.Machine.execWOverrangeLeave n s
  | .wConverterStart n => Sys2Proof.Machine.execWConverterStart n s
  | .wConverterReady n => Sys2Proof.Machine.execWConverterReady n s
  | .wConverterStop n => Sys2Proof.Machine.execWConverterStop n s
  | .wchCfgWrite n v => Sys2Proof.Machine.execWchCfgWrite n v s
  | .baselineWindow h => Sys2Proof.Machine.execBaselineWindow h s
  | .wmTransition j state t => Sys2Proof.Machine.execWmTransition j state t s
  | .wmResolve j state => Sys2Proof.Machine.execWmResolve j state s
  | .wmCfgWrite j th v => Sys2Proof.Machine.execWmCfgWrite j th v s
  | .wmTimeLoRead who j => Sys2Proof.Machine.execWmTimeLoRead who j s
  | .wmTimeHiRead who j => Sys2Proof.Machine.execWmTimeHiRead who j s
  | .hcCrossing h x => Sys2Proof.Machine.execHcCrossing h x s
  | .hit h => Sys2Proof.Machine.execHit h s
  | .hitTruncated h => Sys2Proof.Machine.execHitTruncated h s
  | .hcLockoutEnd lock => Sys2Proof.Machine.execHcLockoutEnd lock s
  | .compSelfTest test => Sys2Proof.Machine.execCompSelfTest test s
  | .compTestRelease u failed t differs => Sys2Proof.Machine.execCompTestRelease u failed t differs s
  | .compUntested u => Sys2Proof.Machine.execCompUntested u s
  | .syncInEdge t rising => Sys2Proof.Machine.execSyncInEdge t rising s
  | .startScheduleTimer n => Sys2Proof.Machine.execStartScheduleTimer n s
  | .startFired n => Sys2Proof.Machine.execStartFired n s
  | .startUnitIdle n => Sys2Proof.Machine.execStartUnitIdle n s
  | .nodeReady node => Sys2Proof.Machine.execNodeReady node s
  | .invocationStart c => Sys2Proof.Machine.execInvocationStart c s
  | .invocationDone c cycles differs => Sys2Proof.Machine.execInvocationDone c cycles differs s
  | .clusterSelfTest c pass => Sys2Proof.Machine.execClusterSelfTest c pass s
  | .clCtrlTest c => Sys2Proof.Machine.execClCtrlTest c s
  | .clCtrlOffline c => Sys2Proof.Machine.execClCtrlOffline c s
  | .clusterFault c cause => Sys2Proof.Machine.execClusterFault c cause s
  | .clusterReplaced c duration => Sys2Proof.Machine.execClusterReplaced c duration s
  | .ageMsExpiry sid => Sys2Proof.Machine.execAgeMsExpiry sid s
  | .blockWrite sid => Sys2Proof.Machine.execBlockWrite sid s
  | .stagingFull sid => Sys2Proof.Machine.execStagingFull sid s
  | .flushBurst => Sys2Proof.Machine.execFlushBurst s
  | .blockSend sid head index data => Sys2Proof.Machine.execBlockSend sid head index data s
  | .dramRequest ch loads stores => Sys2Proof.Machine.execDramRequest ch loads stores s
  | .refreshDue ch => Sys2Proof.Machine.execRefreshDue ch s
  | .refreshCatchup ch => Sys2Proof.Machine.execRefreshCatchup ch s
  | .dramTempRead temp => Sys2Proof.Machine.execDramTempRead temp s
  | .refreshWindowStart => Sys2Proof.Machine.execRefreshWindowStart s
  | .powerDownEntry ch => Sys2Proof.Machine.execPowerDownEntry ch s
  | .selfRefreshEntry => Sys2Proof.Machine.execSelfRefreshEntry s
  | .mpllStop => Sys2Proof.Machine.execMpllStop s
  | .selfRefreshExit => Sys2Proof.Machine.execSelfRefreshExit s
  | .periodicTraining ch => Sys2Proof.Machine.execPeriodicTraining ch s
  | .fullTraining ch => Sys2Proof.Machine.execFullTraining ch s
  | .trainingDone ch ok => Sys2Proof.Machine.execTrainingDone ch ok s
  | .drcCfgWrite v => Sys2Proof.Machine.execDrcCfgWrite v s
  | .opPointChange => Sys2Proof.Machine.execOpPointChange s
  | .drcFreqDone end_ => Sys2Proof.Machine.execDrcFreqDone end_ s
  | .drcPortTgtWrite p v => Sys2Proof.Machine.execDrcPortTgtWrite p v s
  | .dramCellRead port cell flips => Sys2Proof.Machine.execDramCellRead port cell flips s
  | .eccWriteback cell => Sys2Proof.Machine.execEccWriteback cell s
  | .fullCellWrite port cell data attr poison => Sys2Proof.Machine.execFullCellWrite port cell data attr poison s
  | .narrowWrite port cell data mask => Sys2Proof.Machine.execNarrowWrite port cell data mask s
  | .mergeFlush cell flips => Sys2Proof.Machine.execMergeFlush cell flips s
  | .scrubRead flips => Sys2Proof.Machine.execScrubRead flips s
  | .eccScrubLapDone => Sys2Proof.Machine.execEccScrubLapDone s
  | .sramRead region addr ue => Sys2Proof.Machine.execSramRead region addr ue s
  | .eccLogClr => Sys2Proof.Machine.execEccLogClr s
  | .eccLogSel who j => Sys2Proof.Machine.execEccLogSel who j s
  | .eccInjArm v => Sys2Proof.Machine.execEccInjArm v s
  | .absentUnitWrite who off => Sys2Proof.Machine.execAbsentUnitWrite who off s
  | .devAbsentWrClear also => Sys2Proof.Machine.execDevAbsentWrClear also s
  | .readClear who off size => Sys2Proof.Machine.execReadClear who off size s
  | .registerWrite who off size data => Sys2Proof.Machine.execRegisterWrite who off size data s
  | .jtagExtest on levels => Sys2Proof.Machine.execJtagExtest on levels s
  | .modeTimerOnEnd => Sys2Proof.Machine.execModeTimerOnEnd s
  | .wakeCauseDropped => Sys2Proof.Machine.execWakeCauseDropped s
  | .pcieLinkReturn => Sys2Proof.Machine.execPcieLinkReturn s
  | .thermalEmergencyEnd tj => Sys2Proof.Machine.execThermalEmergencyEnd tj s
  | .safSupChange j out => Sys2Proof.Machine.execSafSupChange j out s

end Sys2Proof.Machine
end

