-- ==== Sys2Proof/Machine/Step.lean ====
section
/-!
DEFINITION. One step of the block: the command at the front of the queue takes effect; on an empty queue a cycle of the AON clock passes
(log entry 29, DESIGN CHOICE). Where the host places a command.
-/
namespace Sys2Proof.Machine

/-- An empty queue: one AON cycle passes (R12), but for a device held in COLD reset, whose clocks stand. A link left idle
gets a control flit (R369). -/
def State.idle (s : State) : State := if s.bootu.coldHeld || s.bootu.jtagHold then s else (s.passCycles 1).keepTalking

/-- One step of the block. -/
def step (s : State) : Host.Outcome State Fault Refusal :=
  match s.pending with
  | [] => .next s.idle
  | c :: rest => exec c { s with pending := rest }

/-- The state with the command that a word spells at the front of its queue. -/
def State.withFetchWord (s : State) (nbits w : Nat) : State :=
  match Sys2Proof.decodeTableWord nbits w with
  | some c => { s with pending := c :: s.pending }
  | none => s

end Sys2Proof.Machine
end

