-- ==== Sys2Proof/Safety.lean ====
section
/-!
DEFINITION. The terms in which claims about the device are stated: the parts of its state and what agrees between two states outside
some of them, the canonical form of its stores, the identity registers.
-/
namespace Sys2Proof.Machine

/-- An offset that one of the choices of a list names. -/
def anyOf : List (Nat → Prop) → Nat → Prop
  | [], _ => False
  | c :: l, a => c a ∨ anyOf l a

/-- The choice of one register. -/
def is (r : Nat) : Nat → Prop := fun a => a = r

/-- The choice of a register of every unit, or of every unit and part of it. -/
def each (r : Nat → Nat) : Nat → Prop := fun a => ∃ n, a = r n

/-- See `each`. -/
def each2 (r : Nat → Nat → Nat) : Nat → Prop := fun a => ∃ n m, a = r n m

/-- A choice of parts of the state: registers by their BAR0 offset, and the other components by name. -/
structure Parts where
  regs : Nat → Prop := fun _ => False
  cycles : Bool := false
  time : Bool := false
  timeRem : Bool := false
  sinceBase : Bool := false
  baseIdx : Bool := false
  baseRunning : Bool := false
  fresh : Bool := false
  late : Bool := false
  recs : Bool := false
  classLost : Bool := false
  rate : Bool := false
  out : Bool := false
  host : Bool := false
  queues : Bool := false
  msi : Bool := false
  latch : Bool := false
  mode : Bool := false
  clk : Bool := false
  pacer : Bool := false
  smon : Bool := false
  trust : Bool := false
  alarm : Bool := false
  triggers : Bool := false
  trig : Bool := false
  snp : Bool := false
  snpSeen : Bool := false
  snapRegion : Bool := false
  snapNext : Bool := false
  bootu : Bool := false
  pins : Bool := false
  pch : Bool := false
  exc : Bool := false
  res : Bool := false
  eff : Bool := false
  cal : Bool := false
  bank : Bool := false
  chk : Bool := false
  commit : Bool := false
  wch : Bool := false
  wm : Bool := false
  hc : Bool := false
  start : Bool := false
  eng : Bool := false
  nodes : Bool := false
  clu : Bool := false
  streams : Bool := false
  rings : Bool := false
  drc : Bool := false
  chan : Bool := false
  dport : Bool := false
  cells : Bool := false
  ecc : Bool := false
  fab : Bool := false
  port : Bool := false

/-- The two states agree in everything but the chosen parts: every register that is not chosen reads the same, and so does every
other component; what waits in the queue and what production has fused agree always. -/
structure State.SameBut (p : Parts) (s t : State) : Prop where
  pending : t.pending = s.pending
  fac : t.fac = s.fac
  reg : ∀ a, ¬p.regs a → t.reg a = s.reg a
  cycles : p.cycles = false → t.cycles = s.cycles
  time : p.time = false → t.time = s.time
  timeRem : p.timeRem = false → t.timeRem = s.timeRem
  sinceBase : p.sinceBase = false → t.sinceBase = s.sinceBase
  baseIdx : p.baseIdx = false → t.baseIdx = s.baseIdx
  baseRunning : p.baseRunning = false → t.baseRunning = s.baseRunning
  fresh : p.fresh = false → t.fresh = s.fresh
  late : p.late = false → t.late = s.late
  recs : p.recs = false → t.recs = s.recs
  classLost : p.classLost = false → t.classLost = s.classLost
  rate : p.rate = false → t.rate = s.rate
  out : p.out = false → t.out = s.out
  host : p.host = false → t.host = s.host
  queues : p.queues = false → t.queues = s.queues
  msi : p.msi = false → t.msi = s.msi
  latch : p.latch = false → t.latch = s.latch
  mode : p.mode = false → t.mode = s.mode
  clk : p.clk = false → t.clk = s.clk
  pacer : p.pacer = false → t.pacer = s.pacer
  smon : p.smon = false → t.smon = s.smon
  trust : p.trust = false → t.trust = s.trust
  alarm : p.alarm = false → t.alarm = s.alarm
  triggers : p.triggers = false → t.triggers = s.triggers
  trig : p.trig = false → t.trig = s.trig
  snp : p.snp = false → t.snp = s.snp
  snpSeen : p.snpSeen = false → t.snpSeen = s.snpSeen
  snapRegion : p.snapRegion = false → t.snapRegion = s.snapRegion
  snapNext : p.snapNext = false → t.snapNext = s.snapNext
  bootu : p.bootu = false → t.bootu = s.bootu
  pins : p.pins = false → t.pins = s.pins
  pch : p.pch = false → t.pch = s.pch
  exc : p.exc = false → t.exc = s.exc
  res : p.res = false → t.res = s.res
  eff : p.eff = false → t.eff = s.eff
  cal : p.cal = false → t.cal = s.cal
  bank : p.bank = false → t.bank = s.bank
  chk : p.chk = false → t.chk = s.chk
  commit : p.commit = false → t.commit = s.commit
  wch : p.wch = false → t.wch = s.wch
  wm : p.wm = false → t.wm = s.wm
  hc : p.hc = false → t.hc = s.hc
  start : p.start = false → t.start = s.start
  eng : p.eng = false → t.eng = s.eng
  nodes : p.nodes = false → t.nodes = s.nodes
  clu : p.clu = false → t.clu = s.clu
  streams : p.streams = false → t.streams = s.streams
  rings : p.rings = false → t.rings = s.rings
  drc : p.drc = false → t.drc = s.drc
  chan : p.chan = false → t.chan = s.chan
  dport : p.dport = false → t.dport = s.dport
  cells : p.cells = false → t.cells = s.cells
  ecc : p.ecc = false → t.ecc = s.ecc
  fab : p.fab = false → t.fab = s.fab
  port : p.port = false → t.port = s.port

/-- Every part. -/
def Parts.all : Parts := 
  { regs := fun _ => True,
    cycles := true, time := true, timeRem := true, sinceBase := true, baseIdx := true, baseRunning := true, fresh := true,
    late := true, recs := true, classLost := true, rate := true, out := true, host := true, queues := true, msi := true,
    latch := true, mode := true, clk := true, pacer := true, smon := true, trust := true, alarm := true, triggers := true,
    trig := true, snp := true, snpSeen := true, snapRegion := true, snapNext := true, bootu := true, pins := true, pch := true,
    exc := true, res := true, eff := true, cal := true, bank := true, chk := true, commit := true, wch := true, wm := true,
    hc := true, start := true, eng := true, nodes := true, clu := true, streams := true, rings := true, drc := true, chan := true,
    dport := true, cells := true, ecc := true, fab := true, port := true }

/-- The parts of the state that a command may write; a name of a register group stands for each register of the group. A reset, the
start of a boot and a write of any register may reach every part. -/
def writes : Instr → Parts
  | .powerOn => Parts.all
  | .coldResetEnd => { regs := anyOf [is Reg.BOOT_STAT], bootu := true }
  | .railBelowCold => Parts.all
  | .perstNAssert => Parts.all
  | .perstNRelease => { regs := anyOf [is Reg.BOOT_STAT], bootu := true }
  | .supplyFault _ _ =>
      { regs := anyOf [is Reg.DEV_EV_LOST, is Reg.FAB_DROP, each Reg.FP_UTIL, is Reg.HIF_CMD_STAT, is Reg.MODE_STAT,
          is Reg.PACER_STAT, is Reg.SAF_CAUSE, is Reg.SAF_CAUSE_S, is Reg.SAF_CNT, is Reg.SAF_STAT, is Reg.SAF_SUP],
        classLost := true, fab := true, fresh := true, host := true, mode := true, out := true, port := true, rate := true,
        recs := true, smon := true }
  | .referenceMonitorTrip _ =>
      { regs := anyOf [is Reg.DEV_EV_LOST, is Reg.FAB_DROP, each Reg.FP_UTIL, is Reg.HIF_CMD_STAT, is Reg.MODE_STAT,
          is Reg.PACER_STAT, is Reg.SAF_CAUSE, is Reg.SAF_CAUSE_S, is Reg.SAF_CNT, is Reg.SAF_STAT, is Reg.SAF_SUP],
        bank := true, classLost := true, fab := true, fresh := true, host := true, mode := true, out := true, port := true,
        rate := true, recs := true, smon := true }
  | .causeClearTimer _ => { regs := anyOf [is Reg.SAF_CAUSE, is Reg.SAF_STAT], smon := true }
  | .smonLockstepMismatch =>
      { regs := anyOf [is Reg.DEV_EV_LOST, is Reg.FAB_DROP, each Reg.FP_UTIL, is Reg.HIF_CMD_STAT, is Reg.MODE_STAT,
          is Reg.PACER_STAT, each Reg.SAF_ALM_STAT, is Reg.SAF_CAUSE, is Reg.SAF_CAUSE_S, is Reg.SAF_CNT, is Reg.SAF_STAT],
        classLost := true, fab := true, fresh := true, host := true, mode := true, out := true, port := true, rate := true,
        recs := true, smon := true }
  | .outputFault _ _ =>
      { regs := anyOf [is Reg.DEV_EV_LOST, is Reg.FAB_DROP, each Reg.FP_UTIL, is Reg.HIF_CMD_STAT, is Reg.MODE_STAT,
          is Reg.PACER_STAT, each Reg.SAF_ALM_STAT, is Reg.SAF_CAUSE, is Reg.SAF_CAUSE_S, is Reg.SAF_CNT, is Reg.SAF_STAT],
        classLost := true, fab := true, fresh := true, host := true, mode := true, out := true, port := true, rate := true,
        recs := true, smon := true }
  | .alarmEvaluate =>
      { regs := anyOf [is Reg.DEV_EV_LOST, each Reg.SAF_ALM_STAT, is Reg.SAF_STAT],
        alarm := true, classLost := true, host := true, recs := true }
  | .alarmHoldExpiry _ _ =>
      { regs := anyOf [is Reg.DEV_EV_LOST, each Reg.SAF_ALM_STAT, is Reg.SAF_STAT],
        alarm := true, classLost := true, host := true, recs := true, trig := true }
  | .safAlmAck _ =>
      { regs := anyOf [is Reg.DEV_EV_LOST, each Reg.SAF_ALM_STAT, is Reg.SAF_STAT],
        alarm := true, classLost := true, host := true, recs := true }
  | .safAlmCfgWrite _ _ _ =>
      { regs := anyOf [is Reg.DEV_EV_LOST, is Reg.FAB_DROP, each Reg.FP_UTIL, is Reg.HIF_CMD_STAT, is Reg.MODE_STAT,
          is Reg.PACER_STAT, is Reg.SAF_CAUSE, is Reg.SAF_CAUSE_S, is Reg.SAF_CNT, is Reg.SAF_SET0, is Reg.SAF_SET1,
          is Reg.SAF_STAT, is Reg.SAF_VER0, is Reg.SAF_VER1, is Reg.SAF_W, each2 almReg],
        classLost := true, fab := true, fresh := true, host := true, mode := true, out := true, port := true, rate := true,
        recs := true, smon := true, trust := true }
  | .safForceSafe =>
      { regs := anyOf [is Reg.DEV_EV_LOST, is Reg.FAB_DROP, each Reg.FP_UTIL, is Reg.HIF_CMD_STAT, is Reg.MODE_STAT,
          is Reg.PACER_STAT, is Reg.SAF_CAUSE, is Reg.SAF_CAUSE_S, is Reg.SAF_CNT, is Reg.SAF_STAT],
        classLost := true, fab := true, fresh := true, host := true, mode := true, out := true, port := true, rate := true,
        recs := true, smon := true }
  | .safForceAlm _ => { regs := anyOf [is Reg.SAF_FORCE, is Reg.SAF_STAT] }
  | .bootReferenceAcquired _ =>
      { regs := anyOf [is Reg.BOOT_STAT, is Reg.CLK_READY, is Reg.CLK_SRC, is Reg.CLK_STAT, is Reg.FAB_STAT, each Reg.FP_STAT] }
  | .bootSelfTests _ _ _ =>
      { regs := anyOf [is Reg.BOOT_STAT, is Reg.CLK_STAT, is Reg.DEV_EV_LOST, is Reg.DEV_FW, is Reg.DRC_STAT, is Reg.DRC_TEMP,
          is Reg.ECC_BIST, each Reg.ECC_REMAP, is Reg.ECC_STAT, is Reg.FAB_DROP, each Reg.FP_UTIL, is Reg.HIF_CMD_STAT,
          is Reg.MODE_STAT, is Reg.PACER_STAT, is Reg.SAF_CAUSE, is Reg.SAF_CAUSE_S, is Reg.SAF_CNT, is Reg.SAF_STAT],
        bootu := true, cells := true, chan := true, classLost := true, drc := true, ecc := true, fab := true, fresh := true,
        host := true, mode := true, out := true, port := true, rate := true, recs := true, smon := true }
  | .imageValidation _ _ _ _ =>
      { regs := anyOf [is Reg.BOOT_ERRA, is Reg.BOOT_ERRB, is Reg.BOOT_FLASH, is Reg.BOOT_STAT, is Reg.CLK_READY,
          is Reg.DEV_EV_LOST, is Reg.DEV_FW, each Reg.FP_STAT],
        bootu := true, classLost := true, fresh := true, host := true, port := true, recs := true }
  | .fwStartTimeout =>
      { regs := anyOf [is Reg.BOOT_ERRA, is Reg.BOOT_ERRB, is Reg.BOOT_STAT, is Reg.CLK_READY, is Reg.DEV_EV_LOST,
          is Reg.DEV_FW, each Reg.FP_STAT],
        bootu := true, classLost := true, fresh := true, host := true, port := true, recs := true }
  | .semanticValidation _ _ => Parts.all
  | .bootDone =>
      { regs := anyOf [is Reg.BOOT_IMG, is Reg.BOOT_STAT, is Reg.BOOT_TIME, each2 Reg.CHK_CH_STAT, is Reg.CLK_READY,
          each Reg.CL_STAT, is Reg.DEV_EV_LOST, is Reg.ENG_STAT, is Reg.FAB_ADDR, is Reg.FAB_DROP, is Reg.FAB_ROLES0,
          is Reg.FAB_ROLES1, is Reg.FAB_SIZE, is Reg.FAB_STAT, each Reg.FP_STAT, each Reg.FP_UTIL, each Reg.HC_BASE,
          is Reg.HIF_CMD_STAT, is Reg.HIF_STAT, is Reg.MODE_STAT, is Reg.PACER_BORROW, is Reg.PACER_HEAD, is Reg.PACER_POOL,
          is Reg.PACER_STAT, is Reg.PACER_USED, each Reg.PCH_FLT_STAT, each Reg.PCH_PLAUS_EFF, is Reg.SAF_CAUSE,
          is Reg.SAF_CAUSE_S, is Reg.SAF_CNT, is Reg.SAF_STAT, is Reg.SAF_VER0, is Reg.SAF_VER1, is Reg.SAF_W, is Reg.STR_SEGS,
          is Reg.STR_STAGE, is Reg.STR_STAT, each Reg.WM_STAT],
        alarm := true, bank := true, baseIdx := true, baseRunning := true, bootu := true, chan := true, classLost := true,
        clk := true, clu := true, drc := true, ecc := true, eng := true, exc := true, fab := true, fresh := true, hc := true,
        host := true, mode := true, msi := true, nodes := true, out := true, pacer := true, pch := true, port := true,
        rate := true, recs := true, res := true, rings := true, sinceBase := true, smon := true, start := true,
        streams := true, time := true, timeRem := true, trig := true, trust := true, wch := true, wm := true }
  | .bootRetry => Parts.all
  | .flReleaseWrite _ => { regs := anyOf [is Reg.BOOT_CTRL] }
  | .mcWdogKick _ => { bootu := true }
  | .mcWatchdogExpiry _ =>
      { regs := anyOf [is Reg.DEV_EV_LOST, is Reg.FAB_DROP, each Reg.FP_UTIL, is Reg.HIF_CMD_STAT, is Reg.MC_WDOG,
          is Reg.MODE_STAT, is Reg.PACER_STAT, is Reg.SAF_CAUSE, is Reg.SAF_CAUSE_S, is Reg.SAF_CNT, is Reg.SAF_STAT],
        bootu := true, classLost := true, fab := true, fresh := true, host := true, mode := true, out := true, port := true,
        rate := true, recs := true, smon := true }
  | .mcRestart =>
      { regs := anyOf [each Reg.BANK_STAT, is Reg.CAL_STAT, is Reg.DEV_EV_LOST, is Reg.FAB_DROP, each Reg.FP_UTIL,
          is Reg.HIF_CMD_STAT, is Reg.MC_WDOG],
        bank := true, bootu := true, classLost := true, commit := true, ecc := true, fab := true, fresh := true, host := true,
        mode := true, out := true, port := true, recs := true }
  | .mcSaturated _ =>
      { regs := anyOf [is Reg.DEV_EV_LOST, is Reg.MC_LOAD],
        classLost := true, host := true, recs := true }
  | .mcSatClear _ => { regs := anyOf [is Reg.MC_LOAD] }
  | .cmdDoorbell _ =>
      { regs := anyOf [is Reg.CLK_GATE_OPEN, is Reg.CLK_READY, is Reg.CLK_STAT, is Reg.CLK_WAKE_ACC, each Reg.CL_STAT,
          is Reg.DEV_ABSENT_ADDR, is Reg.DEV_ABSENT_WR, is Reg.DEV_EV_LOST, is Reg.DRC_CATCHUP_CNT, is Reg.DRC_SR_TIME,
          is Reg.DRC_STAT, is Reg.ECC_CE_CNT0, is Reg.ECC_CE_CNT1, is Reg.ECC_INJ, is Reg.ECC_LOG_CTRL, is Reg.ECC_POISON_CNT,
          each Reg.ECC_REMAP, is Reg.ECC_RMW_CNT, is Reg.ECC_STAT, is Reg.ECC_UE_CNT, each Reg.FP_STAT, is Reg.HIF_CMD_DB,
          is Reg.HIF_CMD_STAT, is Reg.MODE_STAT],
        cells := true, chan := true, classLost := true, clk := true, clu := true, drc := true, ecc := true, fab := true,
        host := true, out := true, port := true, rate := true, recs := true, streams := true }
  | .descriptorFetch _ _ =>
      { regs := anyOf [is Reg.FAB_DROP, each Reg.FP_UTIL, is Reg.HIF_CMD_HEAD, is Reg.HIF_CMD_STAT],
        fab := true, host := true, out := true, port := true }
  | .modeSet _ _ _ =>
      { regs := anyOf [is Reg.FAB_DROP, each Reg.FP_UTIL, is Reg.HIF_CMD_STAT, is Reg.MODE_STAT, is Reg.PACER_STAT],
        fab := true, fresh := true, host := true, mode := true, out := true, port := true }
  | .safeExit _ _ _ =>
      { regs := anyOf [is Reg.FAB_DROP, each Reg.FP_UTIL, is Reg.HIF_CMD_STAT, is Reg.MODE_STAT, is Reg.PACER_STAT],
        fab := true, fresh := true, host := true, mode := true, out := true, port := true }
  | .reload _ _ => Parts.all
  | .paramSet _ _ _ _ _ _ =>
      { regs := anyOf [each Reg.CL_CUSE, each Reg.CL_LOAD, each Reg.CL_STAT, each Reg.CL_WMAX, each Reg.CL_XYUSE,
          is Reg.ENG_STAT, is Reg.FAB_DROP, each Reg.FP_UTIL, is Reg.HIF_CMD_STAT],
        fab := true, fresh := true, host := true, nodes := true, out := true, port := true }
  | .regRead _ _ _ _ _ =>
      { regs := fun _ => True,
        cells := true, chan := true, classLost := true, clk := true, clu := true, drc := true, ecc := true, fab := true,
        fresh := true, host := true, latch := true, out := true, port := true, rate := true, recs := true, res := true,
        streams := true, wm := true }
  | .regWrite _ _ _ _ _ _ => Parts.all
  | .streamOpen _ _ _ =>
      { regs := anyOf [is Reg.FAB_DROP, each Reg.FP_UTIL, is Reg.HIF_CMD_STAT, is Reg.STR_SEGS, is Reg.STR_STAGE,
          is Reg.STR_STAT],
        fab := true, fresh := true, host := true, out := true, port := true, streams := true }
  | .streamClose _ _ _ =>
      { regs := anyOf [is Reg.CLK_HOLD_CNT, is Reg.CLK_READY, is Reg.CLK_SRC, is Reg.CLK_STAT, is Reg.DEV_EV_LOST,
          is Reg.ECC_INJ, each Reg.ECC_REMAP, is Reg.ECC_STAT, is Reg.FAB_DROP, is Reg.FAB_STAT, each Reg.FP_STAT,
          each Reg.FP_UTIL, is Reg.HIF_CMD_STAT, is Reg.STR_OVR_CNT, is Reg.STR_SEGS, is Reg.STR_STAGE, is Reg.STR_STAT],
        cells := true, classLost := true, clk := true, ecc := true, fab := true, fresh := true, host := true, out := true,
        port := true, rate := true, recs := true, streams := true }
  | .capture _ _ _ =>
      { regs := anyOf [is Reg.DEV_EV_LOST, is Reg.FAB_DROP, each Reg.FP_UTIL, is Reg.HIF_CMD_STAT, each Reg.PCH_FLT_STAT,
          is Reg.STR_SEGS, is Reg.STR_STAGE, is Reg.STR_STAT],
        classLost := true, fab := true, fresh := true, host := true, out := true, port := true, recs := true, streams := true }
  | .snapshotArm _ _ _ _ _ =>
      { regs := anyOf [is Reg.DEV_EV_LOST, is Reg.FAB_DROP, each Reg.FP_UTIL, is Reg.HIF_CMD_STAT, is Reg.SNP_MISS_CNT,
          is Reg.SNP_NEXT_HI, is Reg.SNP_NEXT_LO, is Reg.SNP_STAT],
        classLost := true, fab := true, fresh := true, host := true, out := true, port := true, recs := true, snp := true,
        snpSeen := true }
  | .chkConvert _ _ _ _ _ _ =>
      { regs := anyOf [each Reg.BANK_DROP_CNT, each Reg.BANK_STAT, is Reg.FAB_DROP, each Reg.FP_UTIL, is Reg.HIF_CMD_STAT],
        bank := true, fab := true, fresh := true, host := true, out := true, port := true }
  | .calSystemZero _ _ _ _ =>
      { regs := anyOf [is Reg.CAL_STAT, is Reg.FAB_DROP, each Reg.FP_UTIL, is Reg.HIF_CMD_STAT],
        bank := true, fab := true, fresh := true, host := true, out := true, port := true }
  | .calSystemFull _ _ _ _ _ =>
      { regs := anyOf [is Reg.CAL_STAT, is Reg.FAB_DROP, each Reg.FP_UTIL, is Reg.HIF_CMD_STAT],
        bank := true, fab := true, fresh := true, host := true, out := true, port := true }
  | .calCommit _ _ =>
      { regs := anyOf [is Reg.CAL_STAT, is Reg.FAB_DROP, each Reg.FP_UTIL, is Reg.HIF_CMD_STAT],
        commit := true, fab := true, fresh := true, host := true, out := true, port := true }
  | .completion => Parts.all
  | .onDemandSlotDone _ _ _ _ =>
      { regs := anyOf [each Reg.BANK_PT_ZERO, each Reg.BANK_STAT, each Reg.BANK_TEMP, each Reg.BANK_ZERO, is Reg.CAL_STAT,
          each2 Reg.CHK_CH_A_LO, each2 Reg.CHK_CH_DIFF, each2 Reg.CHK_CH_HI, each2 Reg.CHK_CH_K_LO, each2 Reg.CHK_CH_STAT,
          each2 Reg.CHK_CH_TOTAL, is Reg.DEV_EV_LOST, is Reg.FAB_DROP, each Reg.FP_UTIL, is Reg.HIF_CMD_STAT, is Reg.MODE_STAT,
          is Reg.PACER_STAT, each Reg.PCH_STAT, is Reg.SAF_CAUSE, is Reg.SAF_CAUSE_S, is Reg.SAF_CNT, is Reg.SAF_STAT,
          is Reg.SAF_VER0, is Reg.SAF_VER1, is Reg.SAF_W, each2 (fun n m => Reg.BANK_PT_ZERO n + 4 * m)],
        bank := true, chk := true, classLost := true, fab := true, fresh := true, host := true, mode := true, out := true,
        port := true, rate := true, recs := true, smon := true, trust := true }
  | .calMeasureDone _ =>
      { regs := anyOf [is Reg.CAL_STAT, is Reg.FAB_DROP, each Reg.FP_UTIL, is Reg.HIF_CMD_STAT],
        bank := true, fab := true, fresh := true, host := true, out := true, port := true }
  | .calApplied _ =>
      { regs := anyOf [is Reg.CAL_STAT, is Reg.DEV_EV_LOST, is Reg.FAB_DROP, each Reg.FP_UTIL, is Reg.HIF_CMD_STAT,
          is Reg.MODE_STAT, is Reg.PACER_STAT, each Reg.PCH_CONV_STAT, each Reg.PCH_PLAUS_EFF, each Reg.PCH_STAT,
          is Reg.SAF_CAUSE, is Reg.SAF_CAUSE_S, is Reg.SAF_CNT, is Reg.SAF_STAT, is Reg.SAF_VER0, is Reg.SAF_VER1, is Reg.SAF_W],
        bank := true, cal := true, chk := true, classLost := true, eff := true, fab := true, fresh := true, host := true,
        mode := true, out := true, pch := true, port := true, rate := true, recs := true, res := true, smon := true,
        trust := true }
  | .calCommitDone _ =>
      { regs := anyOf [is Reg.CAL_STAT, is Reg.DEV_EV_LOST, is Reg.FAB_DROP, each Reg.FP_UTIL, is Reg.HIF_CMD_STAT],
        bootu := true, cal := true, classLost := true, commit := true, fab := true, fresh := true, host := true, out := true,
        port := true, recs := true }
  | .calEntryReload _ _ =>
      { regs := anyOf [is Reg.CAL_STAT, is Reg.DEV_EV_LOST, is Reg.FAB_DROP, each Reg.FP_UTIL, is Reg.HIF_CMD_STAT,
          is Reg.MODE_STAT, is Reg.PACER_STAT, is Reg.SAF_CAUSE, is Reg.SAF_CAUSE_S, is Reg.SAF_CNT, is Reg.SAF_STAT,
          is Reg.SAF_VER0, is Reg.SAF_VER1, is Reg.SAF_W],
        cal := true, classLost := true, fab := true, fresh := true, host := true, mode := true, out := true, port := true,
        rate := true, recs := true, smon := true, trust := true }
  | .modeChangeInstant =>
      { regs := anyOf [is Reg.BOOT_CTRL, is Reg.CLK_GATE_OPEN, is Reg.CLK_HOLD_CNT, is Reg.CLK_READY, is Reg.CLK_SRC,
          is Reg.CLK_STAT, each Reg.CL_STAT, is Reg.CMP_STCFG, is Reg.DEV_ABSENT_ADDR, is Reg.DEV_ABSENT_WR, is Reg.DEV_EV_LOST,
          is Reg.DRC_CATCHUP_CNT, is Reg.DRC_FREQ_CNT, is Reg.DRC_SR_TIME, is Reg.DRC_STAT, is Reg.ECC_CE_CNT0,
          is Reg.ECC_CE_CNT1, is Reg.ECC_CFG, is Reg.ECC_INJ, is Reg.ECC_LOG_CTRL, is Reg.ECC_POISON_CNT, each Reg.ECC_REMAP,
          is Reg.ECC_RMW_CNT, is Reg.ECC_STAT, is Reg.ECC_UE_CNT, is Reg.ENG_CFG, is Reg.FAB_DROP, is Reg.FAB_STAT,
          each Reg.FP_STAT, each Reg.FP_UTIL, is Reg.HIF_CMD_STAT, is Reg.MODE_STAT, is Reg.PACER_STAT, each Reg.PCH_CFG,
          each Reg.PCH_CONV_STAT, each Reg.PCH_FUS_CFG, each Reg.PCH_STAT, is Reg.SAF_CAUSE, is Reg.SAF_CAUSE_S, is Reg.SAF_CNT,
          is Reg.SAF_FORCE, is Reg.SAF_STAT, is Reg.SAF_VER0, is Reg.SAF_VER1, is Reg.SAF_W, is Reg.STR_OVR_CNT, is Reg.STR_SEGS,
          is Reg.STR_STAGE, is Reg.STR_STAT, each Reg.WCH_STAT, each Reg.WCH_WAKE_CNT],
        cells := true, chan := true, classLost := true, clk := true, clu := true, drc := true, ecc := true, fab := true,
        fresh := true, host := true, late := true, mode := true, out := true, pacer := true, pch := true, port := true,
        rate := true, recs := true, smon := true, streams := true, trust := true, wch := true }
  | .modeChange =>
      { regs := anyOf [is Reg.CLK_GATE_OPEN, is Reg.CLK_READY, is Reg.CLK_STAT, each Reg.CL_STAT, is Reg.DEV_EV_LOST,
          is Reg.DRC_SR_CNT, is Reg.DRC_STAT, is Reg.ECC_CE_CNT0, is Reg.ECC_CE_CNT1, is Reg.ECC_INJ, is Reg.ECC_LOG_CTRL,
          is Reg.ECC_POISON_CNT, each Reg.ECC_REMAP, is Reg.ECC_RMW_CNT, is Reg.ECC_STAT, is Reg.ECC_UE_CNT, is Reg.FAB_DROP,
          each Reg.FP_STAT, each Reg.FP_UTIL, is Reg.HIF_CMD_STAT, is Reg.MODE_CNT, is Reg.MODE_STAT, is Reg.PACER_STAT],
        cells := true, chan := true, classLost := true, clk := true, drc := true, ecc := true, fab := true, fresh := true,
        host := true, mode := true, out := true, port := true, rate := true, recs := true, streams := true }
  | .modeTimerOn =>
      { regs := anyOf [is Reg.DEV_EV_LOST, each Reg.EXC_STAT, is Reg.FAB_DROP, each Reg.FP_UTIL, is Reg.MODE_STAT,
          is Reg.PACER_STAT, is Reg.SNP_MISS_CNT, is Reg.SNP_NEXT_HI, is Reg.SNP_NEXT_LO, is Reg.SNP_STAT],
        classLost := true, exc := true, fresh := true, host := true, mode := true, nodes := true, out := true, port := true,
        rate := true, recs := true, snp := true, snpSeen := true, trig := true }
  | .surveyIdleExpiry => { regs := anyOf [is Reg.MODE_STAT], mode := true }
  | .burstHoldExpiry => { regs := anyOf [is Reg.MODE_STAT], mode := true }
  | .burstExhausted =>
      { regs := anyOf [is Reg.DEV_EV_LOST, is Reg.MODE_STAT, is Reg.PACER_STAT],
        classLost := true, host := true, mode := true, pacer := true, recs := true }
  | .thermalCeil _ =>
      { regs := anyOf [is Reg.DEV_EV_LOST, is Reg.MODE_STAT, is Reg.PACER_BORROW, is Reg.PACER_DEFER, is Reg.PACER_HEAD,
          is Reg.PACER_POOL, is Reg.PACER_STAT, is Reg.PACER_USED],
        classLost := true, host := true, mode := true, nodes := true, pacer := true, recs := true }
  | .thermalEmergency _ =>
      { regs := anyOf [each Reg.CL_CYC, each Reg.CL_STAT, is Reg.DEV_EV_LOST, is Reg.FAB_DROP, each Reg.FP_UTIL,
          is Reg.HIF_CMD_STAT, is Reg.MODE_STAT, is Reg.PACER_STAT, is Reg.SAF_CAUSE, is Reg.SAF_CAUSE_S, is Reg.SAF_CNT,
          is Reg.SAF_STAT],
        classLost := true, clu := true, fab := true, fresh := true, host := true, mode := true, nodes := true, out := true,
        port := true, rate := true, recs := true, smon := true }
  | .wakeGatePass =>
      { regs := anyOf [is Reg.DEV_EV_LOST, is Reg.MODE_STAT, is Reg.PACER_STAT],
        classLost := true, host := true, mode := true, rate := true, recs := true }
  | .powerStateSleep =>
      { regs := anyOf [is Reg.CLK_GATE_OPEN, is Reg.CLK_READY, is Reg.CLK_STAT, each Reg.FP_STAT, is Reg.MODE_STAT],
        clk := true, fab := true, out := true, port := true, streams := true }
  | .deepEntry =>
      { regs := anyOf [is Reg.CLK_GATE_OPEN, is Reg.CLK_READY, is Reg.CLK_STAT, each Reg.CL_STAT, each Reg.FP_STAT,
          is Reg.MODE_STAT],
        clk := true, fab := true, out := true, port := true, streams := true }
  | .runBurstStart =>
      { regs := anyOf [is Reg.CLK_GATE_OPEN, is Reg.CLK_READY, is Reg.CLK_STAT, each Reg.CL_STAT, is Reg.DEV_EV_LOST,
          is Reg.DRC_CATCHUP_CNT, is Reg.DRC_SR_TIME, is Reg.DRC_STAT, is Reg.ECC_CE_CNT0, is Reg.ECC_CE_CNT1, is Reg.ECC_INJ,
          is Reg.ECC_LOG_CTRL, is Reg.ECC_POISON_CNT, each Reg.ECC_REMAP, is Reg.ECC_RMW_CNT, is Reg.ECC_STAT, is Reg.ECC_UE_CNT,
          each Reg.FP_STAT, is Reg.MODE_STAT],
        cells := true, chan := true, classLost := true, clk := true, clu := true, drc := true, ecc := true, fab := true,
        host := true, out := true, port := true, rate := true, recs := true, streams := true }
  | .gateTimeout _ =>
      { regs := anyOf [is Reg.CLK_GATE_OPEN, is Reg.CLK_GATE_TO, is Reg.CLK_READY, is Reg.CLK_STAT, is Reg.DEV_EV_LOST,
          each Reg.FP_STAT, is Reg.MODE_STAT],
        classLost := true, clk := true, fab := true, host := true, out := true, port := true, rate := true, recs := true,
        streams := true }
  | .deepEntryRetry =>
      { regs := anyOf [is Reg.CLK_GATE_OPEN, is Reg.CLK_READY, is Reg.CLK_STAT, each Reg.CL_STAT, each Reg.FP_STAT,
          is Reg.MODE_STAT],
        clk := true, fab := true, out := true, port := true, streams := true }
  | .gatedAccess _ =>
      { regs := anyOf [is Reg.CLK_GATE_OPEN, is Reg.CLK_READY, is Reg.CLK_STAT, is Reg.CLK_WAKE_ACC, each Reg.CL_STAT,
          is Reg.DEV_EV_LOST, is Reg.DRC_CATCHUP_CNT, is Reg.DRC_SR_TIME, is Reg.DRC_STAT, is Reg.ECC_CE_CNT0,
          is Reg.ECC_CE_CNT1, is Reg.ECC_INJ, is Reg.ECC_LOG_CTRL, is Reg.ECC_POISON_CNT, each Reg.ECC_REMAP, is Reg.ECC_RMW_CNT,
          is Reg.ECC_STAT, is Reg.ECC_UE_CNT, each Reg.FP_STAT, is Reg.MODE_STAT],
        cells := true, chan := true, classLost := true, clk := true, clu := true, drc := true, ecc := true, fab := true,
        host := true, out := true, port := true, rate := true, recs := true, streams := true }
  | .pacerEvaluate _ _ =>
      { regs := anyOf [each Reg.CL_CYC, each Reg.CL_STAT, is Reg.DEV_EV_LOST, is Reg.FAB_DROP, each Reg.FP_UTIL,
          is Reg.HIF_CMD_STAT, is Reg.MODE_STAT, is Reg.PACER_BORROW, is Reg.PACER_DEFER, each Reg.PACER_E, is Reg.PACER_HEAD,
          is Reg.PACER_POOL, is Reg.PACER_STAT, is Reg.PACER_USED, is Reg.SAF_CAUSE, is Reg.SAF_CAUSE_S, is Reg.SAF_CNT,
          is Reg.SAF_STAT],
        classLost := true, clu := true, fab := true, fresh := true, host := true, mode := true, nodes := true, out := true,
        pacer := true, port := true, rate := true, recs := true, smon := true }
  | .pacerWindowStart =>
      { regs := anyOf [is Reg.DEV_EV_LOST, is Reg.PACER_BASE_S, is Reg.PACER_BASE_V, is Reg.PACER_BORROW, is Reg.PACER_DEFER,
          is Reg.PACER_HEAD, is Reg.PACER_POOL, is Reg.PACER_STAT, is Reg.PACER_USED],
        classLost := true, host := true, nodes := true, pacer := true, recs := true }
  | .invocationDeadline _ _ =>
      { regs := anyOf [is Reg.CLK_HOLD_CNT, is Reg.CLK_READY, is Reg.CLK_SRC, is Reg.CLK_STAT, is Reg.FAB_STAT,
          each Reg.FP_STAT, is Reg.PACER_DEFER, is Reg.STR_STAGE, is Reg.STR_STAT],
        clk := true, eng := true, fab := true, nodes := true, out := true, pacer := true, port := true, streams := true,
        trig := true }
  | .clkSourceLoss =>
      { regs := anyOf [is Reg.CLK_HOLD_CNT, is Reg.CLK_READY, is Reg.CLK_SRC, is Reg.CLK_STAT, is Reg.FAB_STAT,
          each Reg.FP_STAT],
        clk := true, fab := true, out := true, port := true }
  | .clkHoldoverEnd =>
      { regs := anyOf [is Reg.CLK_HOLD_T, is Reg.CLK_SRC, is Reg.CLK_STAT, is Reg.DEV_EV_LOST],
        classLost := true, clk := true, host := true, recs := true }
  | .clkMissing => { regs := anyOf [is Reg.CLK_STAT, is Reg.SAF_STAT], clk := true, smon := true }
  | .clkReturn =>
      { regs := anyOf [is Reg.DEV_EV_LOST, is Reg.FAB_DROP, each Reg.FP_UTIL, is Reg.HIF_CMD_STAT, is Reg.MODE_STAT,
          is Reg.PACER_STAT, is Reg.SAF_CAUSE, is Reg.SAF_CAUSE_S, is Reg.SAF_CNT, is Reg.SAF_STAT],
        classLost := true, clk := true, fab := true, fresh := true, host := true, mode := true, out := true, port := true,
        rate := true, recs := true, smon := true }
  | .candidateReadyChange _ _ =>
      { regs := anyOf [is Reg.CLK_HOLD_CNT, is Reg.CLK_READY, is Reg.CLK_SRC, is Reg.CLK_STAT, is Reg.FAB_STAT,
          each Reg.FP_STAT],
        clk := true, fab := true, out := true, port := true }
  | .clkSrcWrite _ =>
      { regs := anyOf [is Reg.CLK_HOLD_CNT, is Reg.CLK_READY, is Reg.CLK_SRC, is Reg.CLK_STAT, is Reg.FAB_STAT,
          each Reg.FP_STAT],
        clk := true, fab := true, out := true, port := true }
  | .clkSwitch =>
      { regs := anyOf [is Reg.CLK_READY, is Reg.CLK_SRC, is Reg.CLK_STAT, is Reg.DEV_EV_LOST, is Reg.FAB_DROP, is Reg.FAB_STAT,
          each Reg.FP_STAT, each Reg.FP_UTIL],
        classLost := true, clk := true, fab := true, fresh := true, host := true, out := true, port := true, recs := true }
  | .linkSignal _ => { regs := anyOf [each Reg.FP_STAT] }
  | .linkTrained _ =>
      { regs := anyOf [is Reg.CLK_READY, each Reg.FP_STAT],
        fab := true, out := true, port := true }
  | .linkUp _ =>
      { regs := anyOf [is Reg.DEV_EV_LOST, each Reg.FP_STAT, each Reg.FP_UTIL],
        classLost := true, fab := true, host := true, out := true, port := true, recs := true }
  | .linkDown _ _ =>
      { regs := anyOf [is Reg.CLK_READY, is Reg.DEV_EV_LOST, each Reg.FP_DOWN_CNT, each Reg.FP_STAT],
        classLost := true, fab := true, host := true, out := true, port := true, recs := true, streams := true }
  | .linkRetrain _ => { regs := anyOf [each Reg.FP_STAT] }
  | .dataFlitRx _ _ =>
      { regs := anyOf [is Reg.CLK_READY, is Reg.DEV_EV_LOST, is Reg.FAB_DROP, is Reg.FAB_STAT, is Reg.FAB_THETA,
          each Reg.FP_CRC_CNT, each Reg.FP_DELAY, each Reg.FP_DOWN_CNT, each Reg.FP_REPLAY_CNT, each Reg.FP_STAT,
          each Reg.FP_UTIL],
        classLost := true, fab := true, host := true, out := true, port := true, rate := true, recs := true, streams := true,
        time := true, timeRem := true }
  | .replayTimeout _ =>
      { regs := anyOf [is Reg.CLK_READY, is Reg.DEV_EV_LOST, each Reg.FP_DOWN_CNT, each Reg.FP_REPLAY_CNT, each Reg.FP_STAT,
          each Reg.FP_UTIL],
        classLost := true, fab := true, host := true, out := true, port := true, recs := true, streams := true }
  | .hello _ _ _ _ _ =>
      { regs := anyOf [is Reg.CLK_READY, is Reg.FAB_STAT, each Reg.FP_NBR_ADDR, each Reg.FP_NBR_HI, each Reg.FP_NBR_LO,
          each Reg.FP_STAT],
        port := true }
  | .elect _ _ _ => { fab := true, out := true, port := true }
  | .electionWin =>
      { regs := anyOf [is Reg.FAB_DROP, is Reg.FAB_STAT, each Reg.FP_UTIL],
        fab := true, out := true, port := true }
  | .rate _ _ => { port := true }
  | .rateSwitch _ =>
      { regs := anyOf [is Reg.CLK_SRC, each Reg.FP_STAT, each Reg.FP_UTIL],
        clk := true, out := true, port := true }
  | .lost _ _ =>
      { regs := anyOf [is Reg.CLK_HOLD_CNT, is Reg.CLK_READY, is Reg.CLK_SRC, is Reg.CLK_STAT, is Reg.FAB_STAT,
          each Reg.FP_STAT],
        clk := true, fab := true, out := true, port := true }
  | .offer _ _ _ =>
      { regs := anyOf [is Reg.CLK_HOLD_CNT, is Reg.CLK_READY, is Reg.CLK_SRC, is Reg.CLK_STAT, is Reg.FAB_STAT,
          each Reg.FP_STAT],
        clk := true, fab := true, out := true, port := true }
  | .clkRepair =>
      { regs := anyOf [is Reg.CLK_SRC, is Reg.CLK_STAT, is Reg.DEV_EV_LOST, is Reg.FAB_STAT],
        classLost := true, clk := true, fab := true, host := true, recs := true }
  | .baton =>
      { regs := anyOf [is Reg.CLK_HOLD_CNT, is Reg.CLK_READY, is Reg.CLK_SRC, is Reg.CLK_STAT, is Reg.FAB_FREQ,
          is Reg.FAB_ROLES0, is Reg.FAB_STAT, each Reg.FP_STAT],
        clk := true, fab := true, fresh := true, out := true, port := true }
  | .readPacketRx _ =>
      { regs := fun _ => True,
        cells := true, chan := true, classLost := true, clk := true, clu := true, drc := true, ecc := true, fab := true,
        fresh := true, host := true, latch := true, out := true, port := true, rate := true, recs := true, res := true,
        streams := true, wm := true }
  | .writePacketRx _ => Parts.all
  | .responseRx _ =>
      { regs := anyOf [is Reg.FAB_DROP, each Reg.FP_UTIL, is Reg.HIF_CMD_STAT],
        fab := true, fresh := true, host := true, out := true, port := true }
  | .requestTimeout _ =>
      { regs := anyOf [is Reg.CLK_READY, is Reg.CLK_SRC, is Reg.CLK_STAT, is Reg.DEV_EV_LOST, is Reg.FAB_CNT, is Reg.FAB_DROP,
          is Reg.FAB_STAT, each Reg.FP_STAT, each Reg.FP_UTIL, is Reg.HIF_CMD_STAT],
        classLost := true, clk := true, fab := true, fresh := true, host := true, out := true, port := true, recs := true,
        streams := true }
  | .commandPacketRx _ _ _ =>
      { regs := anyOf [is Reg.FAB_DROP, each Reg.FP_UTIL, is Reg.HIF_CMD_STAT],
        fab := true, fresh := true, host := true, out := true, port := true }
  | .eventPacketRx _ _ _ =>
      { regs := anyOf [is Reg.CLK_HOLD_CNT, is Reg.CLK_READY, is Reg.CLK_SRC, is Reg.CLK_STAT, each Reg.EQ_HEAD,
          each Reg.EQ_LOST, each Reg.EQ_SEQ, each Reg.EQ_STAT, is Reg.FAB_DROP, is Reg.FAB_STAT, each Reg.FP_STAT,
          each Reg.FP_UTIL, is Reg.HIF_CMD_STAT, is Reg.MSIX_PBA],
        clk := true, fab := true, fresh := true, host := true, msi := true, out := true, port := true, queues := true }
  | .eventAckRx _ _ =>
      { regs := anyOf [is Reg.FAB_DROP, each Reg.FP_UTIL],
        fab := true, host := true, out := true, port := true }
  | .streamReqRx _ =>
      { regs := anyOf [is Reg.FAB_DROP, each Reg.FP_UTIL, each Reg.HR_HEAD],
        out := true, port := true, rings := true }
  | .streamGrantRx _ =>
      { regs := anyOf [is Reg.FAB_DROP, each Reg.FP_UTIL],
        fab := true, out := true, port := true, streams := true }
  | .streamDataRx _ =>
      { regs := anyOf [is Reg.CLK_GATE_OPEN, is Reg.CLK_READY, is Reg.CLK_STAT, is Reg.FAB_DROP, each Reg.FP_STAT,
          each Reg.FP_UTIL, each Reg.HR_BLOCKS, each Reg.HR_STAT, is Reg.MODE_STAT, is Reg.MSIX_PBA],
        clk := true, fab := true, host := true, msi := true, out := true, port := true, rings := true, streams := true }
  | .streamAckRx _ =>
      { regs := anyOf [is Reg.DEV_EV_LOST, is Reg.FAB_DROP, each Reg.FP_UTIL, is Reg.STR_SEGS, is Reg.STR_STAGE,
          is Reg.STR_STAT],
        classLost := true, fab := true, host := true, out := true, port := true, recs := true, streams := true }
  | .streamResend _ =>
      { regs := anyOf [is Reg.FAB_DROP, each Reg.FP_UTIL],
        out := true, port := true, streams := true }
  | .info _ _ =>
      { regs := anyOf [is Reg.FAB_DROP, each Reg.FP_UTIL],
        fab := true, fresh := true, out := true, port := true }
  | .setAddr _ _ => { regs := anyOf [is Reg.FAB_ADDR, is Reg.FAB_DROP], fab := true }
  | .rtWrite _ _ => { regs := anyOf [is Reg.FAB_DROP], fab := true }
  | .roles _ _ _ _ _ _ _ _ _ =>
      { regs := anyOf [is Reg.CLK_READY, is Reg.FAB_DROP, is Reg.FAB_ROLES0, is Reg.FAB_ROLES1, is Reg.FAB_STAT,
          each Reg.FP_STAT],
        fab := true }
  | .clkSel _ _ =>
      { regs := anyOf [is Reg.CLK_READY, is Reg.CLK_SRC, is Reg.CLK_STAT, is Reg.FAB_DROP, is Reg.FAB_STAT, each Reg.FP_STAT],
        clk := true, fab := true }
  | .heartbeat _ => { regs := anyOf [is Reg.FAB_DROP], fab := true }
  | .heartbeatSend =>
      { regs := anyOf [is Reg.FAB_DROP, each Reg.FP_UTIL],
        fab := true, out := true, port := true }
  | .mirror _ _ => { regs := anyOf [is Reg.FAB_DROP], fab := true }
  | .mgmtRspRx _ _ =>
      { regs := anyOf [is Reg.CLK_READY, is Reg.CLK_SRC, is Reg.CLK_STAT, is Reg.FAB_DROP, is Reg.FAB_STAT, each Reg.FP_STAT,
          each Reg.FP_UTIL],
        clk := true, fab := true, fresh := true, out := true, port := true }
  | .discoveryDone _ _ _ _ =>
      { regs := anyOf [is Reg.CLK_READY, is Reg.DEV_EV_LOST, is Reg.FAB_ADDR, is Reg.FAB_DROP, is Reg.FAB_ROLES0,
          is Reg.FAB_ROLES1, is Reg.FAB_SIZE, is Reg.FAB_STAT, each Reg.FP_STAT, each Reg.FP_UTIL],
        classLost := true, fab := true, fresh := true, host := true, out := true, port := true, recs := true }
  | .reroute _ _ _ _ =>
      { regs := anyOf [is Reg.CLK_HOLD_CNT, is Reg.CLK_READY, is Reg.CLK_SRC, is Reg.CLK_STAT, is Reg.DEV_EV_LOST,
          is Reg.FAB_ADDR, is Reg.FAB_DROP, is Reg.FAB_ROLES0, is Reg.FAB_ROLES1, is Reg.FAB_SIZE, is Reg.FAB_STAT,
          each Reg.FP_STAT, each Reg.FP_UTIL, is Reg.HIF_CMD_STAT],
        classLost := true, clk := true, fab := true, fresh := true, host := true, out := true, port := true, recs := true }
  | .tableCommit _ => { fab := true }
  | .tableSwitch =>
      { regs := anyOf [is Reg.CLK_HOLD_CNT, is Reg.CLK_READY, is Reg.CLK_SRC, is Reg.CLK_STAT, is Reg.DEV_EV_LOST,
          is Reg.FAB_ADDR, is Reg.FAB_CNT, is Reg.FAB_DROP, is Reg.FAB_ROLES0, is Reg.FAB_ROLES1, is Reg.FAB_SIZE,
          is Reg.FAB_STAT, is Reg.FAB_VC, each Reg.FP_STAT, each Reg.FP_UTIL, is Reg.HIF_CMD_STAT],
        classLost := true, clk := true, fab := true, fresh := true, host := true, out := true, port := true, recs := true,
        streams := true }
  | .bankRetire => { fab := true }
  | .standbyTakeover =>
      { regs := anyOf [is Reg.FAB_DROP, is Reg.FAB_ROLES1, is Reg.FAB_STAT, each Reg.FP_UTIL],
        fab := true, fresh := true, out := true, port := true }
  | .fabChurn =>
      { regs := anyOf [is Reg.DEV_EV_LOST, is Reg.FAB_STAT],
        classLost := true, fab := true, host := true, recs := true }
  | .vcStall _ _ _ =>
      { regs := anyOf [is Reg.DEV_EV_LOST, is Reg.FAB_DROP, is Reg.FAB_STAT, is Reg.FAB_VC, each Reg.FP_UTIL],
        classLost := true, host := true, out := true, port := true, recs := true }
  | .vcResumed _ =>
      { regs := anyOf [is Reg.DEV_EV_LOST, is Reg.FAB_VC, each Reg.FP_UTIL],
        classLost := true, host := true, out := true, port := true, recs := true }
  | .reelect => { regs := anyOf [is Reg.FAB_STAT], fab := true, out := true, port := true }
  | .fabricJoin _ _ _ =>
      { regs := anyOf [is Reg.DEV_EV_LOST, is Reg.FAB_DROP, is Reg.FAB_FREQ, is Reg.FAB_STAT, is Reg.FAB_THETA,
          each Reg.FP_STAT, each Reg.FP_UTIL],
        classLost := true, fab := true, fresh := true, host := true, out := true, port := true, recs := true }
  | .timeExchange _ _ _ _ _ =>
      { regs := anyOf [is Reg.CLK_READY, is Reg.DEV_EV_LOST, is Reg.FAB_STAT, is Reg.FAB_THETA, each Reg.FP_DELAY,
          each Reg.FP_DOWN_CNT, each Reg.FP_REPLAY_CNT, each Reg.FP_STAT, each Reg.FP_UTIL],
        classLost := true, fab := true, host := true, out := true, port := true, recs := true, streams := true, time := true,
        timeRem := true }
  | .ptmSample _ =>
      { regs := anyOf [is Reg.DEV_EV_LOST, is Reg.FAB_DROP, is Reg.FAB_FREQ, is Reg.FAB_STAT, is Reg.FAB_THETA,
          each Reg.FP_UTIL, is Reg.HIF_STAT],
        classLost := true, fab := true, fresh := true, host := true, out := true, port := true, recs := true }
  | .ppsInEdge _ =>
      { regs := anyOf [is Reg.DEV_EV_LOST, is Reg.FAB_DROP, is Reg.FAB_FREQ, is Reg.FAB_PPS_SEC, is Reg.FAB_STAT,
          is Reg.FAB_THETA, each Reg.FP_UTIL],
        classLost := true, fab := true, fresh := true, host := true, out := true, port := true, recs := true }
  | .timeLost =>
      { regs := anyOf [is Reg.DEV_EV_LOST, is Reg.FAB_STAT],
        classLost := true, fab := true, host := true, recs := true }
  | .timeStep _ _ => { fab := true }
  | .timeStepApply =>
      { regs := anyOf [is Reg.DEV_EV_LOST, is Reg.FAB_STAT, each Reg.PCH_FLT_STAT, is Reg.SNP_MISS_CNT, is Reg.SNP_NEXT_HI,
          is Reg.SNP_NEXT_LO, is Reg.SNP_STAT, is Reg.STR_STAT],
        alarm := true, bank := true, baseIdx := true, bootu := true, chan := true, chk := true, classLost := true, clk := true,
        clu := true, drc := true, ecc := true, eng := true, exc := true, fab := true, hc := true, host := true, mode := true,
        msi := true, nodes := true, pacer := true, pch := true, pins := true, port := true, rate := true, recs := true,
        res := true, rings := true, smon := true, snp := true, start := true, streams := true, time := true, trig := true,
        wch := true, wm := true }
  | .starter _ _ _ =>
      { regs := anyOf [is Reg.DEV_EV_LOST, is Reg.SNP_MISS_CNT, is Reg.SNP_NEXT_HI, is Reg.SNP_NEXT_LO, is Reg.SNP_STAT],
        classLost := true, host := true, recs := true, snp := true, snpSeen := true }
  | .snapshotLatch =>
      { regs := anyOf [is Reg.DEV_EV_LOST, is Reg.SNP_NEXT_HI, is Reg.SNP_NEXT_LO, is Reg.SNP_ORIGIN, is Reg.SNP_STAT,
          is Reg.SNP_T_HI, is Reg.SNP_T_LO],
        classLost := true, host := true, recs := true, snapNext := true, snapRegion := true, snp := true }
  | .snapDone =>
      { regs := anyOf [is Reg.DEV_EV_LOST, is Reg.SNP_ORIGIN, is Reg.SNP_STAT, is Reg.SNP_T_HI, is Reg.SNP_T_LO],
        classLost := true, host := true, recs := true, snapNext := true, snapRegion := true }
  | .syncOutSecond _ => { out := true, pins := true }
  | .pcieL0 =>
      { regs := anyOf [is Reg.HIF_STAT],
        fab := true, fresh := true, host := true, out := true, port := true }
  | .pcieLinkDown => { regs := anyOf [is Reg.HIF_DMA_BUSY, is Reg.HIF_STAT] }
  | .d3hotEntry _ => { regs := anyOf [is Reg.HIF_STAT], host := true }
  | .msixSend _ => { regs := anyOf [is Reg.MSIX_PBA], msi := true, out := true }
  | .bar2Read _ _ =>
      { regs := anyOf [is Reg.DEV_EV_LOST, is Reg.ECC_CE_CNT0, is Reg.ECC_CE_CNT1, is Reg.ECC_INJ, is Reg.ECC_LOG_CTRL,
          is Reg.ECC_POISON_CNT, each Reg.ECC_REMAP, is Reg.ECC_RMW_CNT, is Reg.ECC_STAT, is Reg.ECC_UE_CNT],
        cells := true, classLost := true, ecc := true, host := true, out := true, rate := true, recs := true }
  | .bar2Write _ _ =>
      { regs := anyOf [is Reg.DEV_ABSENT_WR, is Reg.DEV_EV_LOST, is Reg.ECC_CE_CNT0, is Reg.ECC_CE_CNT1, is Reg.ECC_INJ,
          is Reg.ECC_LOG_CTRL, is Reg.ECC_POISON_CNT, each Reg.ECC_REMAP, is Reg.ECC_RMW_CNT, is Reg.ECC_STAT, is Reg.ECC_UE_CNT,
          is Reg.HIF_STAT, is Reg.HIF_WIN_DROP],
        cells := true, classLost := true, ecc := true, host := true, rate := true, recs := true }
  | .hrCfgEnable _ _ =>
      { regs := anyOf [is Reg.CLK_GATE_OPEN, is Reg.CLK_READY, is Reg.CLK_STAT, is Reg.CLK_WAKE_ACC, each Reg.CL_STAT,
          is Reg.DEV_ABSENT_ADDR, is Reg.DEV_ABSENT_WR, is Reg.DEV_EV_LOST, is Reg.DRC_CATCHUP_CNT, is Reg.DRC_SR_TIME,
          is Reg.DRC_STAT, is Reg.ECC_CE_CNT0, is Reg.ECC_CE_CNT1, is Reg.ECC_INJ, is Reg.ECC_LOG_CTRL, is Reg.ECC_POISON_CNT,
          each Reg.ECC_REMAP, is Reg.ECC_RMW_CNT, is Reg.ECC_STAT, is Reg.ECC_UE_CNT, is Reg.FAB_DROP, each Reg.FP_STAT,
          each Reg.FP_UTIL, each Reg.HR_CFG, each Reg.HR_HEAD, each Reg.HR_STAT, each Reg.HR_TAIL, is Reg.MODE_STAT],
        cells := true, chan := true, classLost := true, clk := true, clu := true, drc := true, ecc := true, fab := true,
        fresh := true, host := true, late := true, out := true, port := true, rate := true, recs := true, rings := true,
        streams := true }
  | .hrTailWrite _ _ =>
      { regs := anyOf [is Reg.CLK_GATE_OPEN, is Reg.CLK_READY, is Reg.CLK_STAT, is Reg.CLK_WAKE_ACC, each Reg.CL_STAT,
          is Reg.DEV_ABSENT_ADDR, is Reg.DEV_ABSENT_WR, is Reg.DEV_EV_LOST, is Reg.DRC_CATCHUP_CNT, is Reg.DRC_SR_TIME,
          is Reg.DRC_STAT, is Reg.ECC_CE_CNT0, is Reg.ECC_CE_CNT1, is Reg.ECC_INJ, is Reg.ECC_LOG_CTRL, is Reg.ECC_POISON_CNT,
          each Reg.ECC_REMAP, is Reg.ECC_RMW_CNT, is Reg.ECC_STAT, is Reg.ECC_UE_CNT, is Reg.FAB_DROP, each Reg.FP_STAT,
          each Reg.FP_UTIL, each Reg.HR_HEAD, each Reg.HR_STAT, each Reg.HR_TAIL, is Reg.MODE_STAT],
        cells := true, chan := true, classLost := true, clk := true, clu := true, drc := true, ecc := true, fab := true,
        host := true, out := true, port := true, rate := true, recs := true, rings := true, streams := true }
  | .hostRingBlockWrite _ =>
      { regs := anyOf [is Reg.CLK_GATE_OPEN, is Reg.CLK_READY, is Reg.CLK_STAT, is Reg.DEV_EV_LOST, each Reg.FP_STAT,
          each Reg.HR_BLOCKS, each Reg.HR_HEAD, each Reg.HR_STAT, is Reg.MODE_STAT, is Reg.MSIX_PBA, is Reg.STR_SEGS,
          is Reg.STR_STAGE, is Reg.STR_STAT],
        classLost := true, clk := true, fab := true, host := true, msi := true, out := true, port := true, recs := true,
        rings := true, streams := true }
  | .hostRingStall _ =>
      { regs := anyOf [is Reg.DEV_EV_LOST, each Reg.HR_STAT, is Reg.STR_STAT],
        classLost := true, host := true, recs := true, rings := true }
  | .cmdRingEnable _ =>
      { regs := anyOf [is Reg.CLK_GATE_OPEN, is Reg.CLK_READY, is Reg.CLK_STAT, is Reg.CLK_WAKE_ACC, each Reg.CL_STAT,
          is Reg.DEV_ABSENT_ADDR, is Reg.DEV_ABSENT_WR, is Reg.DEV_EV_LOST, is Reg.DRC_CATCHUP_CNT, is Reg.DRC_SR_TIME,
          is Reg.DRC_STAT, is Reg.ECC_CE_CNT0, is Reg.ECC_CE_CNT1, is Reg.ECC_INJ, is Reg.ECC_LOG_CTRL, is Reg.ECC_POISON_CNT,
          each Reg.ECC_REMAP, is Reg.ECC_RMW_CNT, is Reg.ECC_STAT, is Reg.ECC_UE_CNT, each Reg.FP_STAT, is Reg.HIF_CMD_CFG,
          is Reg.HIF_CMD_DB, is Reg.HIF_CMD_HEAD, is Reg.HIF_CMD_STAT, is Reg.MODE_STAT],
        cells := true, chan := true, classLost := true, clk := true, clu := true, drc := true, ecc := true, fab := true,
        fresh := true, host := true, late := true, out := true, port := true, rate := true, recs := true, streams := true }
  | .eqCfgEnable _ _ =>
      { regs := anyOf [is Reg.CLK_GATE_OPEN, is Reg.CLK_READY, is Reg.CLK_STAT, is Reg.CLK_WAKE_ACC, each Reg.CL_STAT,
          is Reg.DEV_ABSENT_ADDR, is Reg.DEV_ABSENT_WR, is Reg.DEV_EV_LOST, is Reg.DRC_CATCHUP_CNT, is Reg.DRC_SR_TIME,
          is Reg.DRC_STAT, is Reg.ECC_CE_CNT0, is Reg.ECC_CE_CNT1, is Reg.ECC_INJ, is Reg.ECC_LOG_CTRL, is Reg.ECC_POISON_CNT,
          each Reg.ECC_REMAP, is Reg.ECC_RMW_CNT, is Reg.ECC_STAT, is Reg.ECC_UE_CNT, each Reg.EQ_CFG, each Reg.EQ_HEAD,
          each Reg.EQ_SEQ, each Reg.EQ_STAT, each Reg.EQ_TAIL, each Reg.FP_STAT, is Reg.MODE_STAT],
        cells := true, chan := true, classLost := true, clk := true, clu := true, drc := true, ecc := true, fab := true,
        fresh := true, host := true, late := true, out := true, port := true, queues := true, rate := true, recs := true,
        streams := true }
  | .eqTailWrite _ _ =>
      { regs := anyOf [is Reg.CLK_GATE_OPEN, is Reg.CLK_HOLD_CNT, is Reg.CLK_READY, is Reg.CLK_SRC, is Reg.CLK_STAT,
          is Reg.CLK_WAKE_ACC, each Reg.CL_STAT, is Reg.DEV_ABSENT_ADDR, is Reg.DEV_ABSENT_WR, is Reg.DEV_EV_LOST,
          is Reg.DRC_CATCHUP_CNT, is Reg.DRC_SR_TIME, is Reg.DRC_STAT, is Reg.ECC_CE_CNT0, is Reg.ECC_CE_CNT1, is Reg.ECC_INJ,
          is Reg.ECC_LOG_CTRL, is Reg.ECC_POISON_CNT, each Reg.ECC_REMAP, is Reg.ECC_RMW_CNT, is Reg.ECC_STAT, is Reg.ECC_UE_CNT,
          each Reg.EQ_HEAD, each Reg.EQ_SEQ, each Reg.EQ_STAT, each Reg.EQ_TAIL, is Reg.FAB_STAT, each Reg.FP_STAT,
          is Reg.MODE_STAT, is Reg.MSIX_PBA],
        cells := true, chan := true, classLost := true, clk := true, clu := true, drc := true, ecc := true, fab := true,
        host := true, msi := true, out := true, port := true, queues := true, rate := true, recs := true, streams := true }
  | .eventRecordWrite =>
      { regs := anyOf [is Reg.CLK_HOLD_CNT, is Reg.CLK_READY, is Reg.CLK_SRC, is Reg.CLK_STAT, each Reg.EQ_HEAD,
          each Reg.EQ_LOST, each Reg.EQ_SEQ, each Reg.EQ_STAT, is Reg.FAB_DROP, is Reg.FAB_STAT, each Reg.FP_STAT,
          each Reg.FP_UTIL, is Reg.MSIX_PBA],
        classLost := true, clk := true, fab := true, fresh := true, host := true, msi := true, out := true, port := true,
        queues := true, recs := true }
  | .eventDeferredDelivery =>
      { regs := anyOf [is Reg.CLK_HOLD_CNT, is Reg.CLK_READY, is Reg.CLK_SRC, is Reg.CLK_STAT, each Reg.EQ_HEAD,
          each Reg.EQ_LOST, each Reg.EQ_SEQ, each Reg.EQ_STAT, is Reg.FAB_DROP, is Reg.FAB_STAT, each Reg.FP_STAT,
          each Reg.FP_UTIL, is Reg.MSIX_PBA],
        classLost := true, clk := true, fab := true, fresh := true, host := true, msi := true, out := true, port := true,
        queues := true, recs := true }
  | .rateLimitIntervalEnd _ _ =>
      { regs := anyOf [is Reg.DEV_EV_LOST],
        classLost := true, host := true, rate := true, recs := true }
  | .baseSample _ =>
      { regs := anyOf [is Reg.CAL_STAT, is Reg.CLK_GATE_OPEN, is Reg.CLK_HOLD_CNT, is Reg.CLK_READY, is Reg.CLK_SRC,
          is Reg.CLK_STAT, each Reg.CL_STAT, is Reg.DEV_EV_LOST, is Reg.DRC_CATCHUP_CNT, is Reg.DRC_SR_TIME, is Reg.DRC_STAT,
          is Reg.ECC_CE_CNT0, is Reg.ECC_CE_CNT1, is Reg.ECC_INJ, is Reg.ECC_LOG_CTRL, is Reg.ECC_POISON_CNT, each Reg.ECC_REMAP,
          is Reg.ECC_RMW_CNT, is Reg.ECC_STAT, is Reg.ECC_UE_CNT, each Reg.EXC_STAT, is Reg.FAB_DROP, is Reg.FAB_STAT,
          each Reg.FP_STAT, each Reg.FP_UTIL, is Reg.HIF_CMD_STAT, is Reg.MODE_STAT, is Reg.PACER_STAT, each Reg.PCH_CONV_STAT,
          each Reg.PCH_FLT_STAT, each Reg.PCH_FUS_CNT, each Reg.PCH_OVR_CNT, each Reg.PCH_PLAUS_EFF, each Reg.PCH_PLAUS_TH,
          each Reg.PCH_STAT, is Reg.SAF_CAUSE, is Reg.SAF_CAUSE_S, is Reg.SAF_CNT, is Reg.SAF_STAT, is Reg.SAF_VER0,
          is Reg.SAF_VER1, is Reg.SAF_W, is Reg.STR_OVR_CNT, is Reg.STR_SEGS, is Reg.STR_STAGE, is Reg.STR_STAT],
        bank := true, baseIdx := true, cal := true, cells := true, chan := true, chk := true, classLost := true, clk := true,
        clu := true, cycles := true, drc := true, ecc := true, eff := true, exc := true, fab := true, fresh := true,
        host := true, mode := true, out := true, pch := true, port := true, rate := true, recs := true, res := true,
        sinceBase := true, smon := true, streams := true, time := true, timeRem := true, trust := true }
  | .fusionUnchecked _ =>
      { regs := anyOf [is Reg.DEV_EV_LOST, is Reg.FAB_DROP, each Reg.FP_UTIL, is Reg.HIF_CMD_STAT, is Reg.MODE_STAT,
          is Reg.PACER_STAT, each Reg.PCH_CONV_STAT, is Reg.SAF_CAUSE, is Reg.SAF_CAUSE_S, is Reg.SAF_CNT, is Reg.SAF_STAT,
          is Reg.SAF_VER0, is Reg.SAF_VER1, is Reg.SAF_W],
        classLost := true, fab := true, fresh := true, host := true, mode := true, out := true, port := true, rate := true,
        recs := true, smon := true, trust := true }
  | .fusDiffUpdate _ => { regs := anyOf [each Reg.PCH_CONV_STAT, each Reg.PCH_FUS_DIFF], pch := true }
  | .overrangeLeave _ =>
      { regs := anyOf [is Reg.DEV_EV_LOST],
        classLost := true, host := true, pch := true, rate := true, recs := true }
  | .pinRange _ _ _ =>
      { regs := anyOf [is Reg.DEV_EV_LOST, each Reg.PCH_STAT],
        classLost := true, host := true, pch := true, rate := true, recs := true, wch := true }
  | .inputClamp _ _ _ =>
      { regs := anyOf [is Reg.DEV_EV_LOST, each Reg.PCH_STAT],
        classLost := true, host := true, rate := true, recs := true }
  | .cfgChange _ =>
      { regs := anyOf [is Reg.DEV_EV_LOST, is Reg.FAB_DROP, each Reg.FP_UTIL, is Reg.HIF_CMD_STAT, is Reg.MODE_STAT,
          is Reg.PACER_STAT, each Reg.PCH_CFG, each Reg.PCH_CONV_STAT, each Reg.PCH_PLAUS_EFF, each Reg.PCH_STAT,
          is Reg.SAF_CAUSE, is Reg.SAF_CAUSE_S, is Reg.SAF_CNT, is Reg.SAF_STAT, is Reg.SAF_VER0, is Reg.SAF_VER1, is Reg.SAF_W],
        chk := true, classLost := true, fab := true, fresh := true, host := true, mode := true, out := true, pch := true,
        port := true, rate := true, recs := true, res := true, smon := true, trust := true }
  | .monitorOutput _ =>
      { regs := anyOf [is Reg.DEV_EV_LOST, is Reg.FAB_DROP, each Reg.FP_UTIL, is Reg.HIF_CMD_STAT, is Reg.MODE_STAT,
          is Reg.PACER_STAT, each Reg.PCH_FLT_STAT, each Reg.PCH_MAINS_PER, each Reg.RES_OVCNT, is Reg.SAF_CAUSE,
          is Reg.SAF_CAUSE_S, is Reg.SAF_CNT, is Reg.SAF_STAT, is Reg.SAF_VER0, is Reg.SAF_VER1, is Reg.SAF_W, is Reg.STR_STAGE,
          is Reg.STR_STAT],
        classLost := true, fab := true, fresh := true, host := true, mode := true, nodes := true, out := true, pch := true,
        port := true, rate := true, recs := true, res := true, smon := true, streams := true, trust := true }
  | .staticOutput _ =>
      { regs := anyOf [is Reg.DEV_EV_LOST, is Reg.FAB_DROP, each Reg.FP_UTIL, is Reg.HIF_CMD_STAT, is Reg.MODE_STAT,
          is Reg.PACER_STAT, each Reg.PCH_FLT_STAT, each Reg.PCH_STATIC_LAST, each Reg.RES_OVCNT, is Reg.SAF_CAUSE,
          is Reg.SAF_CAUSE_S, is Reg.SAF_CNT, is Reg.SAF_STAT, is Reg.SAF_VER0, is Reg.SAF_VER1, is Reg.SAF_W, is Reg.STR_STAGE,
          is Reg.STR_STAT],
        classLost := true, fab := true, fresh := true, host := true, mode := true, nodes := true, out := true, pch := true,
        port := true, rate := true, recs := true, res := true, smon := true, streams := true, trust := true }
  | .seismicOutput _ =>
      { regs := anyOf [is Reg.DEV_EV_LOST, is Reg.FAB_DROP, each Reg.FP_UTIL, is Reg.HIF_CMD_STAT, is Reg.MODE_STAT,
          is Reg.PACER_STAT, each Reg.PCH_FLT_STAT, each Reg.RES_OVCNT, is Reg.SAF_CAUSE, is Reg.SAF_CAUSE_S, is Reg.SAF_CNT,
          is Reg.SAF_STAT, is Reg.SAF_VER0, is Reg.SAF_VER1, is Reg.SAF_W, is Reg.STR_STAGE, is Reg.STR_STAT],
        classLost := true, fab := true, fresh := true, host := true, mode := true, nodes := true, out := true, pch := true,
        port := true, rate := true, recs := true, res := true, smon := true, streams := true, trust := true }
  | .mainsLost _ =>
      { regs := anyOf [is Reg.DEV_EV_LOST, each Reg.PCH_MAINS_PER],
        classLost := true, host := true, pch := true, recs := true }
  | .resHiRead _ _ => { regs := anyOf [each Reg.RES_HI], out := true, res := true }
  | .resLoRead _ _ => { regs := anyOf [each Reg.RES_LO], out := true, res := true }
  | .res64Read _ _ => { regs := anyOf [each Reg.RES_HI], out := true, res := true }
  | .pchCfgWrite _ _ =>
      { regs := anyOf [is Reg.DEV_ABSENT_ADDR, is Reg.DEV_ABSENT_WR, is Reg.DEV_EV_LOST, is Reg.FAB_DROP, each Reg.FP_UTIL,
          is Reg.HIF_CMD_STAT, is Reg.MODE_STAT, is Reg.PACER_STAT, each Reg.PCH_CFG, each Reg.PCH_STAT, is Reg.SAF_CAUSE,
          is Reg.SAF_CAUSE_S, is Reg.SAF_CNT, is Reg.SAF_STAT, is Reg.SAF_VER0, is Reg.SAF_VER1, is Reg.SAF_W],
        classLost := true, fab := true, fresh := true, host := true, late := true, mode := true, out := true, pch := true,
        port := true, rate := true, recs := true, smon := true, trust := true }
  | .pchFusCfgWrite _ _ =>
      { regs := anyOf [is Reg.DEV_ABSENT_ADDR, is Reg.DEV_ABSENT_WR, is Reg.DEV_EV_LOST, is Reg.FAB_DROP, each Reg.FP_UTIL,
          is Reg.HIF_CMD_STAT, is Reg.MODE_STAT, is Reg.PACER_STAT, each Reg.PCH_CONV_STAT, each Reg.PCH_FUS_CFG,
          each Reg.PCH_STAT, is Reg.SAF_CAUSE, is Reg.SAF_CAUSE_S, is Reg.SAF_CNT, is Reg.SAF_STAT, is Reg.SAF_VER0,
          is Reg.SAF_VER1, is Reg.SAF_W],
        classLost := true, fab := true, fresh := true, host := true, late := true, mode := true, out := true, pch := true,
        port := true, rate := true, recs := true, smon := true, trust := true }
  | .pchPlausThWrite _ _ =>
      { regs := anyOf [is Reg.DEV_ABSENT_ADDR, is Reg.DEV_ABSENT_WR, each Reg.PCH_PLAUS_TH],
        fresh := true, late := true, pch := true }
  | .pchFmtWrite _ _ =>
      { regs := anyOf [is Reg.DEV_ABSENT_ADDR, is Reg.DEV_ABSENT_WR, each Reg.PCH_FMT, each Reg.PCH_STAT],
        fresh := true, late := true, res := true }
  | .pchStaticCfgWrite _ _ =>
      { regs := anyOf [is Reg.DEV_ABSENT_ADDR, is Reg.DEV_ABSENT_WR, is Reg.DEV_EV_LOST, each Reg.PCH_FLT_STAT,
          each Reg.PCH_STAT, each Reg.PCH_STATIC_CFG, is Reg.STR_STAT],
        classLost := true, fresh := true, host := true, late := true, nodes := true, pch := true, recs := true, res := true,
        streams := true }
  | .pchSeisCfgWrite _ _ =>
      { regs := anyOf [is Reg.DEV_ABSENT_ADDR, is Reg.DEV_ABSENT_WR, is Reg.DEV_EV_LOST, each Reg.PCH_FLT_STAT,
          each Reg.PCH_SEIS_CFG, each Reg.PCH_SEIS_DELAY, each Reg.PCH_STAT, is Reg.STR_STAT],
        classLost := true, host := true, nodes := true, pch := true, recs := true, res := true, streams := true }
  | .excCtrlModeWrite _ _ =>
      { regs := anyOf [is Reg.DEV_ABSENT_ADDR, is Reg.DEV_ABSENT_WR, each Reg.EXC_CTRL, each Reg.EXC_STAT,
          each Reg.WCH_ST_CFG],
        exc := true, nodes := true, start := true }
  | .excFire _ =>
      { regs := anyOf [is Reg.DEV_ABSENT_ADDR, is Reg.DEV_ABSENT_WR, each Reg.EXC_CTRL, each Reg.EXC_STAT],
        exc := true }
  | .excLevelWrite _ _ =>
      { regs := anyOf [is Reg.DEV_ABSENT_ADDR, is Reg.DEV_ABSENT_WR, each Reg.EXC_LEVEL, each Reg.EXC_STAT],
        exc := true }
  | .excRampEnd _ => { regs := anyOf [each Reg.EXC_STAT] }
  | .excPolarityEdge _ => { regs := anyOf [each Reg.EXC_STAT], exc := true }
  | .excPeriodTimer _ => { regs := anyOf [each Reg.EXC_STAT], exc := true }
  | .excStart _ =>
      { regs := anyOf [is Reg.DEV_EV_LOST, each Reg.EXC_STAT, each Reg.PCH_STAT],
        classLost := true, exc := true, host := true, pch := true, rate := true, recs := true, start := true }
  | .excRelease _ => { regs := anyOf [each Reg.WCH_ST_CFG], exc := true, nodes := true, start := true }
  | .excDone _ =>
      { regs := anyOf [is Reg.DEV_EV_LOST, each Reg.EXC_STAT, each Reg.PCH_STAT],
        classLost := true, host := true, pch := true, rate := true, recs := true }
  | .excMonitorSample _ _ _ _ _ =>
      { regs := anyOf [is Reg.DEV_EV_LOST, each Reg.EXC_MON, each Reg.EXC_STAT, is Reg.FAB_DROP, each Reg.FP_UTIL,
          is Reg.HIF_CMD_STAT, is Reg.MODE_STAT, is Reg.PACER_STAT, is Reg.SAF_CAUSE, is Reg.SAF_CAUSE_S, is Reg.SAF_CNT,
          is Reg.SAF_STAT, is Reg.SAF_VER0, is Reg.SAF_VER1, is Reg.SAF_W, each Reg.WCH_ST_CFG],
        classLost := true, exc := true, fab := true, fresh := true, host := true, mode := true, nodes := true, out := true,
        port := true, rate := true, recs := true, smon := true, start := true, trust := true }
  | .excFault _ _ =>
      { regs := anyOf [is Reg.DEV_EV_LOST, each Reg.EXC_STAT, is Reg.FAB_DROP, each Reg.FP_UTIL, is Reg.HIF_CMD_STAT,
          is Reg.MODE_STAT, is Reg.PACER_STAT, is Reg.SAF_CAUSE, is Reg.SAF_CAUSE_S, is Reg.SAF_CNT, is Reg.SAF_STAT,
          is Reg.SAF_VER0, is Reg.SAF_VER1, is Reg.SAF_W, each Reg.WCH_ST_CFG],
        classLost := true, exc := true, fab := true, fresh := true, host := true, mode := true, nodes := true, out := true,
        port := true, rate := true, recs := true, smon := true, start := true, trust := true }
  | .checkerSlotBoundary _ _ => { regs := anyOf [each Reg.BANK_STAT], bank := true, fresh := true }
  | .checkerResult _ _ _ _ =>
      { regs := anyOf [each Reg.BANK_PT_ZERO, each Reg.BANK_STAT, each Reg.BANK_TEMP, each Reg.BANK_ZERO, is Reg.CAL_STAT,
          each2 Reg.CHK_CH_A_LO, each2 Reg.CHK_CH_DIFF, each2 Reg.CHK_CH_HI, each2 Reg.CHK_CH_K_LO, each2 Reg.CHK_CH_STAT,
          each2 Reg.CHK_CH_TOTAL, is Reg.DEV_EV_LOST, is Reg.FAB_DROP, each Reg.FP_UTIL, is Reg.HIF_CMD_STAT, is Reg.MODE_STAT,
          is Reg.PACER_STAT, each Reg.PCH_STAT, is Reg.SAF_CAUSE, is Reg.SAF_CAUSE_S, is Reg.SAF_CNT, is Reg.SAF_STAT,
          is Reg.SAF_VER0, is Reg.SAF_VER1, is Reg.SAF_W, each2 (fun n m => Reg.BANK_PT_ZERO n + 4 * m)],
        bank := true, chk := true, classLost := true, fab := true, fresh := true, host := true, mode := true, out := true,
        port := true, rate := true, recs := true, smon := true, trust := true }
  | .checkerCycleEnd _ =>
      { regs := anyOf [each Reg.BANK_CYCLE_T, each Reg.BANK_M, each Reg.BANK_S, each Reg.BANK_STAT, each2 Reg.CHK_CH_STAT,
          is Reg.DEV_EV_LOST, is Reg.FAB_DROP, each Reg.FP_UTIL, is Reg.HIF_CMD_STAT, is Reg.MODE_STAT, is Reg.PACER_STAT,
          is Reg.SAF_CAUSE, is Reg.SAF_CAUSE_S, is Reg.SAF_CNT, is Reg.SAF_DTB, is Reg.SAF_STAT, is Reg.SAF_VER0,
          is Reg.SAF_VER1, is Reg.SAF_W],
        bank := true, chk := true, classLost := true, eff := true, fab := true, fresh := true, host := true, mode := true,
        out := true, port := true, rate := true, recs := true, smon := true, trust := true }
  | .bankCfgWrite _ _ _ =>
      { regs := anyOf [each Reg.BANK_CFG, each Reg.BANK_STAT, each2 Reg.CHK_CH_STAT, is Reg.DEV_ABSENT_ADDR,
          is Reg.DEV_ABSENT_WR, is Reg.DEV_EV_LOST, is Reg.FAB_DROP, each Reg.FP_UTIL, is Reg.HIF_CMD_STAT, is Reg.MODE_STAT,
          is Reg.PACER_STAT, is Reg.SAF_CAUSE, is Reg.SAF_CAUSE_S, is Reg.SAF_CNT, is Reg.SAF_STAT, is Reg.SAF_VER0,
          is Reg.SAF_VER1, is Reg.SAF_W, each2 (fun n m => Reg.BANK_CFG n + 4 * m)],
        classLost := true, fab := true, fresh := true, host := true, late := true, mode := true, out := true, port := true,
        rate := true, recs := true, smon := true, trust := true }
  | .nativeSample _ _ =>
      { regs := anyOf [is Reg.DEV_EV_LOST, is Reg.FAB_DROP, each Reg.FP_UTIL, is Reg.HIF_CMD_STAT, is Reg.MODE_STAT,
          is Reg.PACER_STAT, each Reg.RES_OVCNT, is Reg.SAF_CAUSE, is Reg.SAF_CAUSE_S, is Reg.SAF_CNT, is Reg.SAF_STAT,
          is Reg.SAF_VER0, is Reg.SAF_VER1, is Reg.SAF_W, is Reg.STR_STAGE, is Reg.STR_STAT, each Reg.WCH_OVR_CNT,
          each Reg.WCH_STAT],
        classLost := true, fab := true, fresh := true, hc := true, host := true, mode := true, nodes := true, out := true,
        port := true, rate := true, recs := true, res := true, smon := true, streams := true, trust := true, wch := true }
  | .wOverrangeLeave _ =>
      { regs := anyOf [is Reg.DEV_EV_LOST],
        classLost := true, host := true, rate := true, recs := true, wch := true }
  | .wConverterStart _ =>
      { regs := anyOf [is Reg.CLK_GATE_OPEN, is Reg.CLK_STAT, each Reg.WCH_STAT, each Reg.WCH_WAKE_CNT],
        clk := true, wch := true }
  | .wConverterReady _ =>
      { regs := anyOf [each Reg.WCH_STAT],
        hc := true, nodes := true, res := true, streams := true, wch := true }
  | .wConverterStop _ => { regs := anyOf [each Reg.WCH_STAT], clk := true, wch := true }
  | .wchCfgWrite _ _ =>
      { regs := anyOf [is Reg.DEV_ABSENT_ADDR, is Reg.DEV_ABSENT_WR, each Reg.WCH_CFG, each Reg.WCH_DELAY, each Reg.WCH_STAT],
        clk := true, fresh := true, late := true, nodes := true, res := true, streams := true, wch := true }
  | .baselineWindow _ => { regs := anyOf [each Reg.HC_BASE], fresh := true, hc := true }
  | .wmTransition _ _ _ =>
      { regs := anyOf [is Reg.DEV_EV_LOST, each Reg.EXC_STAT, is Reg.FAB_DROP, each Reg.FP_UTIL, is Reg.MODE_STAT,
          is Reg.PACER_STAT, is Reg.SNP_MISS_CNT, is Reg.SNP_NEXT_HI, is Reg.SNP_NEXT_LO, is Reg.SNP_STAT, each Reg.WCH_ST_CFG,
          each Reg.WM_CNT, each Reg.WM_STAT, each Reg.WM_TIME_HI, each Reg.WM_TIME_LO],
        classLost := true, exc := true, fresh := true, host := true, mode := true, nodes := true, out := true, port := true,
        rate := true, recs := true, snp := true, snpSeen := true, start := true, trig := true, wch := true, wm := true }
  | .wmResolve _ _ => { regs := anyOf [each Reg.WM_STAT] }
  | .wmCfgWrite _ _ _ =>
      { regs := anyOf [is Reg.DEV_ABSENT_ADDR, is Reg.DEV_ABSENT_WR, is Reg.DEV_EV_LOST, is Reg.FAB_DROP, each Reg.FP_UTIL,
          is Reg.HIF_CMD_STAT, is Reg.MODE_STAT, is Reg.PACER_STAT, is Reg.SAF_CAUSE, is Reg.SAF_CAUSE_S, is Reg.SAF_CNT,
          is Reg.SAF_STAT, is Reg.SAF_VER0, is Reg.SAF_VER1, is Reg.SAF_W, each Reg.WM_CFG, each Reg.WM_STAT, each Reg.WM_TH],
        classLost := true, fab := true, fresh := true, host := true, late := true, mode := true, out := true, port := true,
        rate := true, recs := true, smon := true, trig := true, trust := true, wm := true }
  | .wmTimeLoRead _ _ => { regs := anyOf [each Reg.WM_TIME_LO], out := true, wm := true }
  | .wmTimeHiRead _ _ => { regs := anyOf [each Reg.WM_TIME_HI], out := true }
  | .hcCrossing _ _ =>
      { regs := anyOf [is Reg.DEV_EV_LOST, each Reg.EXC_STAT, is Reg.FAB_DROP, each Reg.FP_UTIL, each Reg.HC_HIT_CNT,
          each Reg.HC_LOCK_CNT, each Reg.HC_STAT, is Reg.MODE_STAT, is Reg.PACER_STAT, is Reg.SNP_MISS_CNT, is Reg.SNP_NEXT_HI,
          is Reg.SNP_NEXT_LO, is Reg.SNP_STAT, each Reg.WCH_ST_CFG],
        classLost := true, exc := true, fresh := true, hc := true, host := true, late := true, mode := true, nodes := true,
        out := true, port := true, rate := true, recs := true, snp := true, snpSeen := true, start := true, trig := true,
        wch := true }
  | .hit _ =>
      { regs := anyOf [is Reg.DEV_EV_LOST, each Reg.HC_HIT_CNT, each Reg.HC_STAT],
        classLost := true, hc := true, host := true, recs := true, wch := true }
  | .hitTruncated _ =>
      { regs := anyOf [is Reg.DEV_EV_LOST, each Reg.HC_HIT_CNT, each Reg.HC_STAT],
        classLost := true, hc := true, host := true, recs := true, wch := true }
  | .hcLockoutEnd _ => { regs := anyOf [each Reg.HC_STAT], hc := true, wm := true }
  | .compSelfTest _ => { hc := true, wm := true }
  | .compTestRelease _ _ _ _ =>
      { regs := anyOf [is Reg.DEV_EV_LOST, each Reg.EXC_STAT, is Reg.FAB_DROP, each Reg.FP_UTIL, each Reg.HC_STAT,
          is Reg.HIF_CMD_STAT, is Reg.MODE_STAT, is Reg.PACER_STAT, is Reg.SAF_CAUSE, is Reg.SAF_CAUSE_S, is Reg.SAF_CNT,
          is Reg.SAF_STAT, is Reg.SAF_VER0, is Reg.SAF_VER1, is Reg.SAF_W, is Reg.SNP_MISS_CNT, is Reg.SNP_NEXT_HI,
          is Reg.SNP_NEXT_LO, is Reg.SNP_STAT, each Reg.WCH_ST_CFG, each Reg.WM_CNT, each Reg.WM_STAT, each Reg.WM_TIME_HI,
          each Reg.WM_TIME_LO],
        classLost := true, exc := true, fab := true, fresh := true, hc := true, host := true, late := true, mode := true,
        nodes := true, out := true, port := true, rate := true, recs := true, smon := true, snp := true, snpSeen := true,
        start := true, trig := true, trust := true, wch := true, wm := true }
  | .compUntested _ =>
      { regs := anyOf [is Reg.DEV_EV_LOST, is Reg.FAB_DROP, each Reg.FP_UTIL, each Reg.HC_STAT, is Reg.HIF_CMD_STAT,
          is Reg.MODE_STAT, is Reg.PACER_STAT, is Reg.SAF_CAUSE, is Reg.SAF_CAUSE_S, is Reg.SAF_CNT, is Reg.SAF_STAT,
          is Reg.SAF_VER0, is Reg.SAF_VER1, is Reg.SAF_W, each Reg.WM_STAT],
        classLost := true, fab := true, fresh := true, host := true, mode := true, out := true, port := true, rate := true,
        recs := true, smon := true, trust := true }
  | .syncInEdge _ _ =>
      { regs := anyOf [is Reg.DEV_EV_LOST, each Reg.EXC_STAT, is Reg.FAB_DROP, each Reg.FP_UTIL, is Reg.MODE_STAT,
          is Reg.PACER_STAT, is Reg.SNP_MISS_CNT, is Reg.SNP_NEXT_HI, is Reg.SNP_NEXT_LO, is Reg.SNP_STAT, each Reg.WCH_ST_CFG],
        classLost := true, exc := true, fresh := true, host := true, mode := true, nodes := true, out := true, port := true,
        rate := true, recs := true, snp := true, snpSeen := true, start := true, trig := true }
  | .startScheduleTimer _ => { start := true }
  | .startFired _ =>
      { regs := anyOf [is Reg.DEV_EV_LOST, each Reg.PCH_FLT_STAT, is Reg.STR_SEGS, is Reg.STR_STAGE, is Reg.STR_STAT,
          each Reg.WCH_ST_STAT],
        classLost := true, fresh := true, host := true, nodes := true, port := true, rate := true, recs := true, start := true,
        streams := true }
  | .startUnitIdle _ => { regs := anyOf [each Reg.WCH_ST_STAT], start := true }
  | .nodeReady _ =>
      { regs := anyOf [is Reg.CLK_GATE_OPEN, is Reg.CLK_READY, is Reg.CLK_STAT, is Reg.DEV_EV_LOST, each Reg.FP_STAT,
          is Reg.MODE_STAT, is Reg.PACER_BORROW, is Reg.PACER_DEFER, is Reg.PACER_HEAD, is Reg.PACER_POOL, is Reg.PACER_STAT,
          is Reg.PACER_USED, is Reg.STR_STAT],
        classLost := true, clk := true, fab := true, host := true, nodes := true, out := true, pacer := true, port := true,
        recs := true, streams := true }
  | .invocationStart _ =>
      { regs := anyOf [each Reg.CL_STAT, is Reg.DEV_EV_LOST, is Reg.PACER_BORROW, is Reg.PACER_HEAD, is Reg.PACER_POOL,
          is Reg.PACER_STAT, is Reg.PACER_USED],
        classLost := true, clu := true, host := true, nodes := true, pacer := true, recs := true }
  | .invocationDone _ _ _ =>
      { regs := anyOf [is Reg.CLK_GATE_OPEN, each Reg.CL_CUSE, each Reg.CL_CYC, each Reg.CL_LOAD, each Reg.CL_STAT,
          each Reg.CL_WMAX, each Reg.CL_XYUSE, is Reg.DEV_EV_LOST, is Reg.ECC_INJ, each Reg.ECC_REMAP, is Reg.ECC_STAT,
          is Reg.ENG_MISM_CNT, is Reg.ENG_STAT, each Reg.EXC_STAT, is Reg.FAB_DROP, each Reg.FP_UTIL, is Reg.HIF_CMD_STAT,
          is Reg.MODE_STAT, is Reg.PACER_BORROW, is Reg.PACER_DEFER, is Reg.PACER_HEAD, is Reg.PACER_POOL, is Reg.PACER_STAT,
          is Reg.PACER_USED, is Reg.SAF_CAUSE, is Reg.SAF_CAUSE_S, is Reg.SAF_CNT, is Reg.SAF_STAT, is Reg.SNP_MISS_CNT,
          is Reg.SNP_NEXT_HI, is Reg.SNP_NEXT_LO, is Reg.SNP_STAT, is Reg.STR_STAGE, is Reg.STR_STAT, each Reg.WCH_ST_CFG],
        cells := true, classLost := true, clu := true, ecc := true, eng := true, exc := true, fab := true, fresh := true,
        host := true, mode := true, nodes := true, out := true, pacer := true, port := true, rate := true, recs := true,
        smon := true, snp := true, snpSeen := true, start := true, streams := true, trig := true }
  | .clusterSelfTest _ _ =>
      { regs := anyOf [is Reg.CLK_GATE_OPEN, each Reg.CL_CUSE, each Reg.CL_CYC, each Reg.CL_LOAD, each Reg.CL_STAT,
          each Reg.CL_WMAX, each Reg.CL_XYUSE, is Reg.DEV_EV_LOST, is Reg.ENG_STAT, is Reg.FAB_DROP, each Reg.FP_UTIL,
          is Reg.HIF_CMD_STAT, is Reg.MODE_STAT, is Reg.PACER_STAT, is Reg.SAF_CAUSE, is Reg.SAF_CAUSE_S, is Reg.SAF_CNT,
          is Reg.SAF_STAT],
        classLost := true, clu := true, fab := true, fresh := true, host := true, mode := true, nodes := true, out := true,
        port := true, rate := true, recs := true, smon := true }
  | .clCtrlTest _ =>
      { regs := anyOf [is Reg.CLK_GATE_OPEN, is Reg.CLK_READY, is Reg.CLK_STAT, is Reg.CLK_WAKE_ACC, each Reg.CL_CTRL,
          each Reg.CL_STAT, is Reg.DEV_ABSENT_ADDR, is Reg.DEV_ABSENT_WR, is Reg.DEV_EV_LOST, is Reg.DRC_CATCHUP_CNT,
          is Reg.DRC_SR_TIME, is Reg.DRC_STAT, is Reg.ECC_CE_CNT0, is Reg.ECC_CE_CNT1, is Reg.ECC_INJ, is Reg.ECC_LOG_CTRL,
          is Reg.ECC_POISON_CNT, each Reg.ECC_REMAP, is Reg.ECC_RMW_CNT, is Reg.ECC_STAT, is Reg.ECC_UE_CNT, each Reg.FP_STAT,
          is Reg.MODE_STAT],
        cells := true, chan := true, classLost := true, clk := true, clu := true, drc := true, ecc := true, fab := true,
        host := true, out := true, port := true, rate := true, recs := true, streams := true }
  | .clCtrlOffline _ =>
      { regs := anyOf [is Reg.CLK_GATE_OPEN, is Reg.CLK_READY, is Reg.CLK_STAT, is Reg.CLK_WAKE_ACC, each Reg.CL_CTRL,
          each Reg.CL_CUSE, each Reg.CL_CYC, each Reg.CL_LOAD, each Reg.CL_STAT, each Reg.CL_WMAX, each Reg.CL_XYUSE,
          is Reg.DEV_ABSENT_ADDR, is Reg.DEV_ABSENT_WR, is Reg.DEV_EV_LOST, is Reg.DRC_CATCHUP_CNT, is Reg.DRC_SR_TIME,
          is Reg.DRC_STAT, is Reg.ECC_CE_CNT0, is Reg.ECC_CE_CNT1, is Reg.ECC_INJ, is Reg.ECC_LOG_CTRL, is Reg.ECC_POISON_CNT,
          each Reg.ECC_REMAP, is Reg.ECC_RMW_CNT, is Reg.ECC_STAT, is Reg.ECC_UE_CNT, is Reg.ENG_STAT, is Reg.FAB_DROP,
          each Reg.FP_STAT, each Reg.FP_UTIL, is Reg.HIF_CMD_STAT, is Reg.MODE_STAT, is Reg.PACER_STAT, is Reg.SAF_CAUSE,
          is Reg.SAF_CAUSE_S, is Reg.SAF_CNT, is Reg.SAF_STAT],
        cells := true, chan := true, classLost := true, clk := true, clu := true, drc := true, ecc := true, fab := true,
        fresh := true, host := true, mode := true, nodes := true, out := true, port := true, rate := true, recs := true,
        smon := true, streams := true }
  | .clusterFault _ _ =>
      { regs := anyOf [is Reg.CLK_GATE_OPEN, each Reg.CL_CUSE, each Reg.CL_CYC, each Reg.CL_LOAD, each Reg.CL_STAT,
          each Reg.CL_WMAX, each Reg.CL_XYUSE, is Reg.DEV_EV_LOST, each Reg.ECC_SRAM_CE, is Reg.ECC_STAT, is Reg.ENG_STAT,
          is Reg.FAB_DROP, each Reg.FP_UTIL, is Reg.HIF_CMD_STAT, is Reg.MODE_STAT, is Reg.PACER_STAT, is Reg.SAF_CAUSE,
          is Reg.SAF_CAUSE_S, is Reg.SAF_CNT, is Reg.SAF_STAT],
        classLost := true, clu := true, fab := true, fresh := true, host := true, mode := true, nodes := true, out := true,
        port := true, rate := true, recs := true, smon := true }
  | .clusterReplaced _ _ =>
      { regs := anyOf [is Reg.CLK_HOLD_CNT, is Reg.CLK_READY, is Reg.CLK_SRC, is Reg.CLK_STAT, each Reg.CL_CUSE,
          each Reg.CL_LOAD, each Reg.CL_STAT, each Reg.CL_WMAX, each Reg.CL_XYUSE, is Reg.DEV_EV_LOST, is Reg.ECC_CE_CNT0,
          is Reg.ECC_CE_CNT1, is Reg.ECC_INJ, is Reg.ECC_LOG_CTRL, is Reg.ECC_POISON_CNT, each Reg.ECC_REMAP, is Reg.ECC_RMW_CNT,
          is Reg.ECC_STAT, is Reg.ECC_UE_CNT, is Reg.ENG_REPL_T, is Reg.ENG_STAT, is Reg.FAB_STAT, each Reg.FP_STAT,
          is Reg.PACER_BORROW, is Reg.PACER_DEFER, is Reg.PACER_HEAD, is Reg.PACER_POOL, is Reg.PACER_STAT, is Reg.PACER_USED,
          is Reg.STR_STAGE, is Reg.STR_STAT],
        cells := true, classLost := true, clk := true, clu := true, ecc := true, eng := true, fab := true, host := true,
        nodes := true, out := true, pacer := true, port := true, rate := true, recs := true, streams := true, trig := true }
  | .ageMsExpiry _ => { regs := anyOf [is Reg.STR_STAGE], streams := true }
  | .blockWrite _ =>
      { regs := anyOf [is Reg.CLK_HOLD_CNT, is Reg.CLK_READY, is Reg.CLK_SRC, is Reg.CLK_STAT, is Reg.DEV_EV_LOST,
          is Reg.ECC_INJ, each Reg.ECC_REMAP, is Reg.ECC_STAT, is Reg.FAB_DROP, is Reg.FAB_STAT, each Reg.FP_STAT,
          each Reg.FP_UTIL, is Reg.STR_OVR_CNT, is Reg.STR_SEGS, is Reg.STR_STAGE, is Reg.STR_STAT],
        cells := true, classLost := true, clk := true, ecc := true, fab := true, host := true, out := true, port := true,
        rate := true, recs := true, streams := true }
  | .stagingFull _ =>
      { regs := anyOf [is Reg.DEV_EV_LOST, is Reg.STR_STAGE, is Reg.STR_STAT],
        classLost := true, host := true, recs := true, streams := true }
  | .flushBurst =>
      { regs := anyOf [is Reg.CLK_GATE_OPEN, is Reg.CLK_HOLD_CNT, is Reg.CLK_READY, is Reg.CLK_SRC, is Reg.CLK_STAT,
          each Reg.CL_STAT, is Reg.DEV_EV_LOST, is Reg.DRC_CATCHUP_CNT, is Reg.DRC_SR_TIME, is Reg.DRC_STAT, is Reg.ECC_CE_CNT0,
          is Reg.ECC_CE_CNT1, is Reg.ECC_INJ, is Reg.ECC_LOG_CTRL, is Reg.ECC_POISON_CNT, each Reg.ECC_REMAP, is Reg.ECC_RMW_CNT,
          is Reg.ECC_STAT, is Reg.ECC_UE_CNT, is Reg.FAB_DROP, is Reg.FAB_STAT, each Reg.FP_STAT, each Reg.FP_UTIL,
          is Reg.MODE_STAT, is Reg.STR_OVR_CNT, is Reg.STR_SEGS, is Reg.STR_STAGE, is Reg.STR_STAT],
        cells := true, chan := true, classLost := true, clk := true, clu := true, drc := true, ecc := true, fab := true,
        host := true, out := true, port := true, rate := true, recs := true, streams := true }
  | .blockSend _ _ _ _ =>
      { regs := anyOf [is Reg.DEV_EV_LOST, is Reg.ECC_CE_CNT0, is Reg.ECC_CE_CNT1, is Reg.ECC_INJ, is Reg.ECC_LOG_CTRL,
          is Reg.ECC_POISON_CNT, each Reg.ECC_REMAP, is Reg.ECC_RMW_CNT, each Reg.ECC_SRAM_CE, is Reg.ECC_STAT,
          is Reg.ECC_UE_CNT, is Reg.FAB_DROP, each Reg.FP_UTIL],
        cells := true, classLost := true, ecc := true, fab := true, fresh := true, host := true, out := true, port := true,
        rate := true, recs := true, rings := true, streams := true }
  | .dramRequest _ _ _ =>
      { regs := anyOf [is Reg.DEV_EV_LOST, is Reg.DRC_CATCHUP_CNT, is Reg.DRC_NREF_CNT, each Reg.DRC_PORT_MAXLAT,
          each Reg.DRC_PORT_MISS, each Reg.DRC_PORT_REQ, each Reg.DRC_PORT_STAT, is Reg.DRC_REF, is Reg.DRC_STAT],
        chan := true, classLost := true, dport := true, drc := true, host := true, out := true, rate := true, recs := true }
  | .refreshDue _ => { regs := anyOf [is Reg.DRC_REF], chan := true, out := true }
  | .refreshCatchup _ => { regs := anyOf [is Reg.DRC_CATCHUP_CNT], chan := true, out := true }
  | .dramTempRead _ => { regs := anyOf [is Reg.DRC_REF, is Reg.DRC_TEMP], drc := true }
  | .refreshWindowStart => { chan := true, drc := true }
  | .powerDownEntry _ => { chan := true }
  | .selfRefreshEntry =>
      { regs := anyOf [is Reg.DEV_EV_LOST, is Reg.DRC_SR_CNT, is Reg.DRC_STAT, is Reg.ECC_CE_CNT0, is Reg.ECC_CE_CNT1,
          is Reg.ECC_INJ, is Reg.ECC_LOG_CTRL, is Reg.ECC_POISON_CNT, each Reg.ECC_REMAP, is Reg.ECC_RMW_CNT, is Reg.ECC_STAT,
          is Reg.ECC_UE_CNT],
        cells := true, chan := true, classLost := true, drc := true, ecc := true, host := true, rate := true, recs := true }
  | .mpllStop => { regs := anyOf [is Reg.CLK_STAT], drc := true }
  | .selfRefreshExit =>
      { regs := anyOf [is Reg.CLK_STAT, is Reg.DEV_EV_LOST, is Reg.DRC_CATCHUP_CNT, is Reg.DRC_SR_TIME, is Reg.DRC_STAT,
          is Reg.ECC_CE_CNT0, is Reg.ECC_CE_CNT1, is Reg.ECC_INJ, is Reg.ECC_LOG_CTRL, is Reg.ECC_POISON_CNT, each Reg.ECC_REMAP,
          is Reg.ECC_RMW_CNT, is Reg.ECC_STAT, is Reg.ECC_UE_CNT],
        cells := true, chan := true, classLost := true, drc := true, ecc := true, host := true, out := true, rate := true,
        recs := true }
  | .periodicTraining _ => { regs := anyOf [is Reg.DRC_STAT], chan := true }
  | .fullTraining _ =>
      { regs := anyOf [is Reg.DEV_EV_LOST, is Reg.DRC_CATCHUP_CNT, is Reg.DRC_STAT, is Reg.ECC_CE_CNT0, is Reg.ECC_CE_CNT1,
          is Reg.ECC_INJ, is Reg.ECC_LOG_CTRL, is Reg.ECC_POISON_CNT, each Reg.ECC_REMAP, is Reg.ECC_RMW_CNT, is Reg.ECC_STAT,
          is Reg.ECC_UE_CNT],
        cells := true, chan := true, classLost := true, drc := true, ecc := true, host := true, out := true, rate := true,
        recs := true }
  | .trainingDone _ _ =>
      { regs := anyOf [is Reg.DEV_EV_LOST, is Reg.DRC_CATCHUP_CNT, is Reg.DRC_STAT, is Reg.DRC_TEMP, is Reg.DRC_TRAIN_CNT,
          is Reg.ECC_CE_CNT0, is Reg.ECC_CE_CNT1, is Reg.ECC_INJ, is Reg.ECC_LOG_CTRL, is Reg.ECC_POISON_CNT, each Reg.ECC_REMAP,
          is Reg.ECC_RMW_CNT, is Reg.ECC_STAT, is Reg.ECC_UE_CNT, is Reg.FAB_DROP, each Reg.FP_UTIL, is Reg.HIF_CMD_STAT,
          is Reg.MODE_STAT, is Reg.PACER_STAT, is Reg.SAF_CAUSE, is Reg.SAF_CAUSE_S, is Reg.SAF_CNT, is Reg.SAF_STAT],
        cells := true, chan := true, classLost := true, drc := true, ecc := true, fab := true, fresh := true, host := true,
        mode := true, out := true, port := true, rate := true, recs := true, smon := true }
  | .drcCfgWrite _ =>
      { regs := anyOf [is Reg.CLK_GATE_OPEN, is Reg.CLK_READY, is Reg.CLK_STAT, is Reg.CLK_WAKE_ACC, each Reg.CL_STAT,
          is Reg.DEV_EV_LOST, is Reg.DRC_CATCHUP_CNT, is Reg.DRC_CFG, is Reg.DRC_FREQ_CNT, is Reg.DRC_SR_TIME, is Reg.DRC_STAT,
          is Reg.ECC_CE_CNT0, is Reg.ECC_CE_CNT1, is Reg.ECC_INJ, is Reg.ECC_LOG_CTRL, is Reg.ECC_POISON_CNT, each Reg.ECC_REMAP,
          is Reg.ECC_RMW_CNT, is Reg.ECC_STAT, is Reg.ECC_UE_CNT, each Reg.FP_STAT, is Reg.MODE_STAT],
        cells := true, chan := true, classLost := true, clk := true, clu := true, drc := true, ecc := true, fab := true,
        fresh := true, host := true, late := true, out := true, port := true, rate := true, recs := true, streams := true }
  | .opPointChange =>
      { regs := anyOf [is Reg.DEV_EV_LOST, is Reg.DRC_CATCHUP_CNT, is Reg.DRC_FREQ_CNT, is Reg.DRC_STAT, is Reg.ECC_CE_CNT0,
          is Reg.ECC_CE_CNT1, is Reg.ECC_INJ, is Reg.ECC_LOG_CTRL, is Reg.ECC_POISON_CNT, each Reg.ECC_REMAP, is Reg.ECC_RMW_CNT,
          is Reg.ECC_STAT, is Reg.ECC_UE_CNT],
        cells := true, chan := true, classLost := true, drc := true, ecc := true, host := true, out := true, rate := true,
        recs := true }
  | .drcFreqDone _ =>
      { regs := anyOf [is Reg.DEV_EV_LOST, is Reg.DRC_CATCHUP_CNT, is Reg.DRC_FREQ_CNT, is Reg.DRC_STAT, is Reg.DRC_TEMP,
          is Reg.DRC_TRAIN_CNT, is Reg.ECC_CE_CNT0, is Reg.ECC_CE_CNT1, is Reg.ECC_INJ, is Reg.ECC_LOG_CTRL,
          is Reg.ECC_POISON_CNT, each Reg.ECC_REMAP, is Reg.ECC_RMW_CNT, is Reg.ECC_STAT, is Reg.ECC_UE_CNT, is Reg.FAB_DROP,
          each Reg.FP_UTIL, is Reg.HIF_CMD_STAT, is Reg.MODE_STAT, is Reg.PACER_STAT, each Reg.PCH_CONV_STAT,
          each Reg.PCH_PLAUS_EFF, each Reg.PCH_STAT, is Reg.SAF_CAUSE, is Reg.SAF_CAUSE_S, is Reg.SAF_CNT, is Reg.SAF_STAT,
          is Reg.SAF_VER0, is Reg.SAF_VER1, is Reg.SAF_W],
        cells := true, chan := true, chk := true, classLost := true, drc := true, ecc := true, fab := true, fresh := true,
        host := true, mode := true, out := true, pch := true, port := true, rate := true, recs := true, res := true,
        smon := true, trust := true }
  | .drcPortTgtWrite _ _ =>
      { regs := anyOf [is Reg.CLK_GATE_OPEN, is Reg.CLK_READY, is Reg.CLK_STAT, is Reg.CLK_WAKE_ACC, each Reg.CL_STAT,
          is Reg.DEV_EV_LOST, is Reg.DRC_CATCHUP_CNT, each Reg.DRC_PORT_TGT, is Reg.DRC_SR_TIME, is Reg.DRC_STAT,
          is Reg.ECC_CE_CNT0, is Reg.ECC_CE_CNT1, is Reg.ECC_INJ, is Reg.ECC_LOG_CTRL, is Reg.ECC_POISON_CNT, each Reg.ECC_REMAP,
          is Reg.ECC_RMW_CNT, is Reg.ECC_STAT, is Reg.ECC_UE_CNT, each Reg.FP_STAT, is Reg.MODE_STAT],
        cells := true, chan := true, classLost := true, clk := true, clu := true, drc := true, ecc := true, fab := true,
        fresh := true, host := true, late := true, out := true, port := true, rate := true, recs := true, streams := true }
  | .dramCellRead _ _ _ =>
      { regs := anyOf [is Reg.DEV_EV_LOST, is Reg.ECC_CE_CNT0, is Reg.ECC_CE_CNT1, is Reg.ECC_INJ, is Reg.ECC_LOG_CTRL,
          is Reg.ECC_POISON_CNT, each Reg.ECC_REMAP, is Reg.ECC_RMW_CNT, is Reg.ECC_STAT, is Reg.ECC_UE_CNT, is Reg.FAB_DROP,
          each Reg.FP_UTIL, is Reg.HIF_CMD_STAT, is Reg.MODE_STAT, is Reg.PACER_STAT, is Reg.SAF_CAUSE, is Reg.SAF_CAUSE_S,
          is Reg.SAF_CNT, is Reg.SAF_STAT],
        cells := true, classLost := true, ecc := true, fab := true, fresh := true, host := true, mode := true, out := true,
        port := true, rate := true, recs := true, smon := true }
  | .eccWriteback _ =>
      { regs := anyOf [is Reg.DEV_EV_LOST, is Reg.ECC_INJ, each Reg.ECC_REMAP, is Reg.ECC_STAT],
        cells := true, classLost := true, ecc := true, host := true, recs := true }
  | .fullCellWrite _ _ _ _ _ =>
      { regs := anyOf [is Reg.ECC_INJ, each Reg.ECC_REMAP, is Reg.ECC_STAT],
        cells := true, ecc := true }
  | .narrowWrite _ _ _ _ =>
      { regs := anyOf [is Reg.DEV_EV_LOST, is Reg.ECC_CE_CNT0, is Reg.ECC_CE_CNT1, is Reg.ECC_INJ, is Reg.ECC_LOG_CTRL,
          is Reg.ECC_POISON_CNT, each Reg.ECC_REMAP, is Reg.ECC_RMW_CNT, is Reg.ECC_STAT, is Reg.ECC_UE_CNT],
        cells := true, classLost := true, ecc := true, host := true, rate := true, recs := true }
  | .mergeFlush _ _ =>
      { regs := anyOf [is Reg.DEV_EV_LOST, is Reg.ECC_CE_CNT0, is Reg.ECC_CE_CNT1, is Reg.ECC_INJ, is Reg.ECC_LOG_CTRL,
          is Reg.ECC_POISON_CNT, each Reg.ECC_REMAP, is Reg.ECC_RMW_CNT, is Reg.ECC_STAT, is Reg.ECC_UE_CNT],
        cells := true, classLost := true, ecc := true, host := true, rate := true, recs := true }
  | .scrubRead _ =>
      { regs := anyOf [is Reg.DEV_EV_LOST, is Reg.ECC_CE_CNT0, is Reg.ECC_CE_CNT1, is Reg.ECC_INJ, is Reg.ECC_LOG_CTRL,
          is Reg.ECC_POISON_CNT, each Reg.ECC_REMAP, is Reg.ECC_RMW_CNT, is Reg.ECC_SCRUB_LAP, is Reg.ECC_SCRUB_POS,
          is Reg.ECC_STAT, is Reg.ECC_UE_CNT],
        cells := true, chan := true, classLost := true, ecc := true, host := true, rate := true, recs := true }
  | .eccScrubLapDone =>
      { regs := anyOf [is Reg.DEV_EV_LOST, is Reg.ECC_SCRUB_LAP],
        classLost := true, ecc := true, host := true, recs := true }
  | .sramRead _ _ _ =>
      { regs := anyOf [is Reg.CLK_GATE_OPEN, each Reg.CL_CUSE, each Reg.CL_CYC, each Reg.CL_LOAD, each Reg.CL_STAT,
          each Reg.CL_WMAX, each Reg.CL_XYUSE, is Reg.DEV_EV_LOST, each Reg.ECC_REMAP, each Reg.ECC_SRAM_CE, is Reg.ECC_STAT,
          is Reg.ENG_STAT, is Reg.FAB_DROP, each Reg.FP_UTIL, is Reg.HIF_CMD_STAT, is Reg.MODE_STAT, is Reg.PACER_STAT,
          is Reg.SAF_CAUSE, is Reg.SAF_CAUSE_S, is Reg.SAF_CNT, is Reg.SAF_STAT, is Reg.SAF_VER0, is Reg.SAF_VER1, is Reg.SAF_W],
        cal := true, classLost := true, clu := true, ecc := true, fab := true, fresh := true, host := true, mode := true,
        nodes := true, out := true, pch := true, port := true, rate := true, recs := true, smon := true, streams := true,
        trust := true, wch := true }
  | .eccLogClr => { regs := anyOf [is Reg.ECC_STAT], ecc := true }
  | .eccLogSel _ _ => { regs := anyOf [is Reg.ECC_LOG_CTRL], latch := true }
  | .eccInjArm _ => { regs := anyOf [is Reg.ECC_INJ, is Reg.ECC_STAT], fresh := true, late := true }
  | .absentUnitWrite _ _ => { regs := anyOf [is Reg.DEV_ABSENT_ADDR, is Reg.DEV_ABSENT_WR] }
  | .devAbsentWrClear _ => { regs := anyOf [is Reg.DEV_ABSENT_ADDR, is Reg.DEV_ABSENT_WR] }
  | .readClear _ off _ =>
      { regs := anyOf [is (off + 4), is (off / 4 * 4), is off, is Reg.CAL_SEL, is Reg.CLK_GATE_OPEN, is Reg.CLK_READY,
          is Reg.CLK_STAT, is Reg.CLK_WAKE_ACC, each Reg.CL_STAT, is Reg.DEV_EV_LOST, is Reg.DRC_CATCHUP_CNT,
          each Reg.DRC_PORT_STAT, is Reg.DRC_SR_TIME, is Reg.DRC_STAT, is Reg.ECC_CE_CNT0, is Reg.ECC_CE_CNT1, is Reg.ECC_INJ,
          is Reg.ECC_LOG_CTRL, is Reg.ECC_POISON_CNT, each Reg.ECC_REMAP, is Reg.ECC_RMW_CNT, is Reg.ECC_STAT, is Reg.ECC_UE_CNT,
          is Reg.ENG_NODE_SEL, is Reg.FAB_TIME_LO, each Reg.FP_STAT, each Reg.FP_UTIL, is Reg.HIF_TYPE_SEL, is Reg.MODE_STAT,
          is Reg.STR_SEL],
        cells := true, chan := true, classLost := true, clk := true, clu := true, drc := true, ecc := true, fab := true,
        fresh := true, host := true, latch := true, out := true, port := true, rate := true, recs := true, res := true,
        streams := true, wm := true }
  | .registerWrite _ _ _ _ => Parts.all
  | .jtagExtest _ _ => Parts.all
  | .modeTimerOnEnd => { regs := anyOf [is Reg.MODE_STAT], mode := true }
  | .wakeCauseDropped => { mode := true }
  | .pcieLinkReturn => { regs := anyOf [is Reg.HIF_STAT] }
  | .thermalEmergencyEnd _ =>
      { regs := anyOf [is Reg.DEV_EV_LOST, is Reg.PACER_BORROW, is Reg.PACER_DEFER, is Reg.PACER_HEAD, is Reg.PACER_POOL,
          is Reg.PACER_STAT, is Reg.PACER_USED, is Reg.SAF_CAUSE],
        classLost := true, host := true, nodes := true, pacer := true, recs := true }
  | .safSupChange _ _ => { regs := anyOf [is Reg.SAF_SUP], bank := true, smon := true }

/-- The register file and the DRAM's cells are in their one canonical form: offsets and cell addresses rise strictly, and nothing is
listed that holds what it would read as unlisted. -/
def State.canonical (s : State) : Prop :=
  Store.wf (regReset s.fac) s.regs = true ∧ Store.wf s.blankCell s.cells = true

/-- The identity registers read what production has given them (R4, R448, R449, R380, R196). -/
def State.identityKept (s : State) : Prop := ∀ a, hardwired a = true → s.reg a = regReset s.fac a

/-- Every reserved field of every register reads 0 (R10). -/
def State.reservedZero (s : State) : Prop :=
  ∀ a d i, descAt a = some (d, i) → s.reg a &&& BitVec.ofNat 32 d.rsv = 0

/-- The device's fixed tables hold no more than they have places for: eight merge entries (R291), four pending snapshots (R376),
sixteen commands in flight (R393), sixteen entries of the error log (R293) and of the remap table (R298). -/
def State.withinTables (s : State) : Prop :=
  s.ecc.merge.length ≤ 8 ∧ s.snp.length ≤ 4 ∧ s.host.inflight.length ≤ 16 ∧ s.ecc.log.length = 16 ∧ s.ecc.remap.length = 16

/-- What a register reads after a write of `v` that is judged field by field (R27): the bits of `mask` that `reject` does not name take
the value written, every other bit keeps its own. -/
def judged (old mask reject v : Word) : Word := (old &&& ~~~(mask &&& ~~~reject)) ||| (v &&& (mask &&& ~~~reject))

/-- A decision of a command of this device's ring finds it in flight, or a place free for it (R393). -/
def State.takes (s : State) (opcode tag : Nat) : Bool :=
  decide (s.host.inflight.length < 16) || (decideIn .ring opcode tag { status := 0 } s.host.inflight).isSome

/-- A command of this device's ring is in flight and has been decided: its completion is `c`, which COMPLETION writes (R393, R396). -/
def State.decided (s : State) (opcode tag : Nat) (c : Completion) : Prop :=
  ∃ e ∈ s.host.inflight, e.src = .ring ∧ e.opcode = opcode ∧ e.tag = tag ∧ e.done = some c

end Sys2Proof.Machine
end

