-- ==== Sys2Proof/Certificates/Slice0/Obligations.lean ====
section
/-!
DEFINITION. The obligations: what each command does and completes with, what it leaves, and what holds of every step. Each clause of a
statement about commands gives a condition on the state and the operands, and that `exec` then answers a next state with the effect.
-/
open Sys2Proof Sys2Proof.Machine

/-- With the command c at the front of the queue, a step is exec of c on the state whose queue is the rest. Rests on INDEX.md. -/
def Obligations.StepRunsFront : Prop :=
  ∀ (s : State) (c : Instr) (rest : List Instr), s.pending = c :: rest → step s = exec c { s with pending := rest }

/-- On an empty queue the block takes a next state: the same one while it is held in COLD reset or by the test access port, else one
in which one cycle of the AON clock and 2^32 / 16 384 000 units of fabric time have passed. This is the model's choice (log
entry 29, DESIGN CHOICE). Rests on 01_architecture.md. -/
def Obligations.IdleStepIsOneCycle : Prop :=
  ∀ s : State, s.pending = [] →
    (s.bootu.coldHeld = true ∨ s.bootu.jtagHold = true → step s = .next s) ∧
    (s.bootu.coldHeld = false → s.bootu.jtagHold = false → ∃ t, step s = .next t ∧ t.cycles = s.cycles + 1 ∧
      t.sinceBase = s.sinceBase + 1 ∧ t.time = s.time + BitVec.ofNat 64 ((s.timeRem + 32768) / 125) ∧
      t.timeRem = (s.timeRem + 32768) % 125 ∧ t.regs = s.regs ∧ t.pending = [])

/-- decodeTableWord answers none on every word, and withFetchWord leaves the state as it is. The table's rows have no fields (log
entry 30, DESIGN CHOICE). Rests on INDEX.md. -/
def Obligations.NoWordSpells : Prop :=
  ∀ (s : State) (n w : Nat), Sys2Proof.decodeTableWord n w = none ∧ s.withFetchWord n w = s

/-- After reset the queue is empty, every register holds its reset value, the mode is BOOT with SAFE_N low, fabric time is 0, every
result entry holds 0 with sequence number 0 (R75), and every channel has its four samples to discard and fusion weight 0 (R54).
The factory values and what the spec gives no reset value for are the model's (log entries 2, 31). Rests on
03_dual_range_conversion.md; 12_modes_clocks_pacer.md; 17_register_index.md. -/
def Obligations.ResetState : Prop :=
  State.reset.pending = [] ∧ (∀ a, State.reset.reg a = regReset State.reset.fac a) ∧ State.reset.curMode = modeBoot ∧
    State.reset.smon.safeNLow = true ∧ State.reset.time = 0 ∧
    (∀ i, (State.reset.resU i).val = 0 ∧ (State.reset.resU i).seq = 0) ∧
    (∀ n, (State.reset.pchU n).discard = 4 ∧ (State.reset.pchU n).wprev = 0)

/-- At reset the identity registers read what production gave them, every reserved field reads 0, and the tables are within their
places. Rests on 17_register_index.md; 11_stored_data_protection.md. -/
def Obligations.InvariantsAtReset : Prop :=
  State.reset.identityKept ∧ State.reset.reservedZero ∧ State.reset.withinTables

/-- Whatever the command and the state, exec answers a next state whose queue and factory values are those before; no command faults
or is refused. Rests on 00_scope.md. -/
def Obligations.EveryCommandCompletes : Prop :=
  ∀ (c : Instr) (s : State), ∃ t, exec c s = .next t ∧ t.pending = s.pending ∧ t.fac = s.fac

/-- When exec answers a next state, the two states agree in every register and every other part of the state that `writes` does not
name for that command: each register read by its offset, and each of the other components whole. Rests on 01_architecture.md;
17_register_index.md. -/
def Obligations.CommandFrame : Prop :=
  ∀ (c : Instr) (s t : State), exec c s = .next t → s.SameBut (writes c) t

/-- Where the unit-ID, capability, die-ID and energy registers read what production gave them, they do so after any step, and the
step leaves the factory values. Rests on 00_scope.md; 17_register_index.md. -/
def Obligations.IdentityPreserved : Prop :=
  ∀ s t : State, s.identityKept → step s = .next t → t.identityKept ∧ t.fac = s.fac

/-- Where every reserved field of every register holds 0, a 32-bit read of any register returns 0 in its reserved fields, and after
any step every reserved field still holds 0: no value written to one, by whatever command, is kept. Rule R10. -/
def Obligations.ReservedFieldsReadZero : Prop :=
  (∀ (s : State) (who : Reader) (off i : Nat) (d : RegDesc),
      s.reservedZero →
      descAt off = some (d, i) →
      off % 4 = 0 →
      ∃ t, exec (.readClear who off 4) s = .next t ∧
        (∃ v rest, t.out = .regData who off v :: rest ∧ v &&& d.rsv = 0)) ∧
  (∀ s t : State, s.reservedZero → step s = .next t → t.reservedZero)

/-- Where the merge buffer holds at most eight entries, at most four snapshots are pending, at most sixteen commands are in flight,
and the error log and the remap table have sixteen places each, this holds after any step. Rests on
11_stored_data_protection.md; 13_fabric.md; 14_host_interface.md. -/
def Obligations.TablesPreserved : Prop :=
  ∀ s t : State, s.withinTables → step s = .next t → t.withinTables

/-- A read of a register of an absent unit returns 0 to its reader, a 32-bit and a 64-bit one. Where the identity registers hold
what production gave them (an invariant of every step, IdentityPreserved), the read of the unit-ID register of a present unit
returns a value other than 0. Rule R4. -/
def Obligations.AbsentUnitsReadZero : Prop :=
  (∀ (s : State) (who : Reader) (off size : Nat),
      isAbsent s.fac.variant off = true →
      accepted off size = true →
      ∃ t, exec (.readClear who off size) s = .next t ∧
        t.out = .regData who off 0 :: s.out) ∧
  (∀ (s : State) (who : Reader) (off i : Nat) (b : RegBlock),
      s.bootFailed = false →
      s.identityKept →
      hardwired off = true →
      blockAt off = some (b, i) →
      off = b.base + b.stride * i →
      isAbsent s.fac.variant off = false →
      ∃ t, exec (.readClear who off 4) s = .next t ∧
        (∃ v rest, t.out = .regData who off v :: rest ∧ v ≠ 0))

/-- A write to an absent unit, the CAL window of an absent one included, is counted in DEV_ABSENT_WR and DEV_ABSENT_ADDR names its
writer and address, whether it comes as a register write or by the row of its own (command ring, event queues, banks, window
monitors, channels, host rings); writing the counter clears it, a write to an absent unit in the same cycle being counted after
it. A read returns its value to its reader; a write that is neither aligned nor whole is counted in HIF_BAD_ACC and writes
nothing else; an accepted one writes its one or two registers. At an interval's end a pending record is written, or dropped
where its condition is what was reported. Each clause gives the condition under which the command completes with its own effect.
Where the clauses rest on readings or choices of the model, these are log entries 28, 36, 115. Rests on 00_scope.md (R5, R9);
14_host_interface.md (R384); 17_register_index.md (R451). -/
def Obligations.AbsentUnits : Prop :=
  (∀ (s : State) (who : Reader) (off : Nat),
      s.bootFailed = false →
      s.absentTo who off = true →
      ∃ t, exec (.absentUnitWrite who off) s = .next t ∧
        t.fld Reg.DEV_ABSENT_WR word32 = satInc 32 (s.fld Reg.DEV_ABSENT_WR word32) ∧
        t.reg Reg.DEV_ABSENT_ADDR = BitVec.ofNat 32 (Reader.addr who % 4096 * 2 ^ 20 + off % 2 ^ 20)) ∧
  (∀ (s : State),
      s.bootFailed = false →
      ∃ t, exec (.devAbsentWrClear none) s = .next t ∧
        t.reg Reg.DEV_ABSENT_WR = 0) ∧
  (∀ (s : State) (who : Reader) (off : Nat),
      s.bootFailed = false →
      isAbsent s.fac.variant off = true →
      ∃ t, exec (.devAbsentWrClear (some (who, off))) s = .next t ∧
        t.reg Reg.DEV_ABSENT_WR = 1) ∧
  (∀ (s : State) (who : Reader) (off size : Nat),
      ∃ t, exec (.readClear who off size) s = .next t ∧
        t.out = .regData who off (s.readAccess who off size).1 :: (s.readAccess who off size).2.out) ∧
  (∀ (s : State) (who : Reader) (off size data : Nat),
      s.bootFailed = false →
      hasHost s.fac.variant = true →
      accepted off size = false →
      ∃ t, exec (.registerWrite who off size data) s = .next t ∧
        t.fld Reg.HIF_BAD_ACC word32 = satInc 32 (s.fld Reg.HIF_BAD_ACC word32) ∧
        (∀ a, a ≠ Reg.HIF_BAD_ACC → a ≠ Reg.HIF_STAT → t.reg a = s.reg a)) ∧
  (∀ (s : State) (who : Reader) (off data : Nat),
      accepted off 4 = true →
      ∃ t, exec (.registerWrite who off 4 data) s = .next t ∧
        t.regs = (s.writeReg who off (BitVec.ofNat 32 data)).regs) ∧
  (∀ (s : State) (who : Reader) (off data : Nat),
      accepted off 8 = true →
      ∃ t, exec (.registerWrite who off 8 data) s = .next t ∧
        t.regs = ((s.writeReg who off (BitVec.ofNat 32 data)).writeReg who (off + 4) (BitVec.ofNat 32 (data / 2 ^ 32))).regs) ∧
  (∀ (s : State) (type key : Nat) (r : Rec),
      (s.rateKey type key).pend = some r →
      ((if (s.rateKey type key).pendB then (s.rateKey type key).lastB else (s.rateKey type key).lastA).all
        (fun u => decide ((s.rateKey type key).interval ≤ (s.time - u).toNat)) = true) →
      (s.rateKey type key).pendNow ≠ (s.rateKey type key).reported →
      s.recsFull = false →
      ∃ t, exec (.rateLimitIntervalEnd type key) s = .next t ∧
        t.recs = s.recs ++ [r] ∧
        (t.rateKey type key).pend = none) ∧
  (∀ (s : State) (type key : Nat),
      ((if (s.rateKey type key).pendB then (s.rateKey type key).lastB else (s.rateKey type key).lastA).all
        (fun u => decide ((s.rateKey type key).interval ≤ (s.time - u).toNat)) = true) →
      (s.rateKey type key).pendNow = (s.rateKey type key).reported →
      ∃ t, exec (.rateLimitIntervalEnd type key) s = .next t ∧
        t.recs = s.recs ∧
        (t.rateKey type key).pend = none) ∧
  (∀ (s : State) (tail : Nat),
      s.bootFailed = false →
      hasHost s.fac.variant = false →
      ∃ t, exec (.cmdDoorbell tail) s = .next t ∧
        t.fld Reg.DEV_ABSENT_WR word32 = satInc 32 (s.fld Reg.DEV_ABSENT_WR word32) ∧
        (∀ a, a ≠ Reg.DEV_ABSENT_WR → a ≠ Reg.DEV_ABSENT_ADDR → t.reg a = s.reg a)) ∧
  (∀ (s : State) (v : Word),
      s.bootFailed = false →
      hasHost s.fac.variant = false →
      ∃ t, exec (.cmdRingEnable v) s = .next t ∧
        t.fld Reg.DEV_ABSENT_WR word32 = satInc 32 (s.fld Reg.DEV_ABSENT_WR word32) ∧
        (∀ a, a ≠ Reg.DEV_ABSENT_WR → a ≠ Reg.DEV_ABSENT_ADDR → t.reg a = s.reg a)) ∧
  (∀ (s : State) (q : Nat) (v : Word),
      s.bootFailed = false →
      q < 4 →
      hasHost s.fac.variant = false →
      ∃ t, exec (.eqCfgEnable q v) s = .next t ∧
        t.fld Reg.DEV_ABSENT_WR word32 = satInc 32 (s.fld Reg.DEV_ABSENT_WR word32) ∧
        (∀ a, a ≠ Reg.DEV_ABSENT_WR → a ≠ Reg.DEV_ABSENT_ADDR → t.reg a = s.reg a)) ∧
  (∀ (s : State) (q v : Nat),
      s.bootFailed = false →
      q < 4 →
      hasHost s.fac.variant = false →
      ∃ t, exec (.eqTailWrite q v) s = .next t ∧
        t.fld Reg.DEV_ABSENT_WR word32 = satInc 32 (s.fld Reg.DEV_ABSENT_WR word32) ∧
        (∀ a, a ≠ Reg.DEV_ABSENT_WR → a ≠ Reg.DEV_ABSENT_ADDR → t.reg a = s.reg a)) ∧
  (∀ (s : State) (n i : Nat) (v : Word),
      s.bootFailed = false →
      n < 8 →
      i < 5 →
      hasBank s.fac.variant n = false →
      ∃ t, exec (.bankCfgWrite n i v) s = .next t ∧
        t.fld Reg.DEV_ABSENT_WR word32 = satInc 32 (s.fld Reg.DEV_ABSENT_WR word32) ∧
        (∀ a, a ≠ Reg.DEV_ABSENT_WR → a ≠ Reg.DEV_ABSENT_ADDR → t.reg a = s.reg a)) ∧
  (∀ (s : State) (i : Nat) (th : Bool) (v : Word),
      s.bootFailed = false →
      i < 72 →
      hasWm s.fac.variant i = false →
      ∃ t, exec (.wmCfgWrite i th v) s = .next t ∧
        t.fld Reg.DEV_ABSENT_WR word32 = satInc 32 (s.fld Reg.DEV_ABSENT_WR word32) ∧
        (∀ a, a ≠ Reg.DEV_ABSENT_WR → a ≠ Reg.DEV_ABSENT_ADDR → t.reg a = s.reg a)) ∧
  (∀ (s : State) (n : Nat) (v : Word),
      s.bootFailed = false →
      n < 64 →
      hasPch s.fac.variant n = false →
      ∃ t, exec (.pchCfgWrite n v) s = .next t ∧
        t.fld Reg.DEV_ABSENT_WR word32 = satInc 32 (s.fld Reg.DEV_ABSENT_WR word32) ∧
        (∀ a, a ≠ Reg.DEV_ABSENT_WR → a ≠ Reg.DEV_ABSENT_ADDR → t.reg a = s.reg a)) ∧
  (∀ (s : State) (r v : Nat),
      s.bootFailed = false →
      r < 32 →
      hasHost s.fac.variant = false →
      ∃ t, exec (.hrTailWrite r v) s = .next t ∧
        t.fld Reg.DEV_ABSENT_WR word32 = satInc 32 (s.fld Reg.DEV_ABSENT_WR word32) ∧
        (∀ a, a ≠ Reg.DEV_ABSENT_WR → a ≠ Reg.DEV_ABSENT_ADDR → t.reg a = s.reg a))

/-- For an excitation driver that the device has, a write of VSET above 50 000 leaves VSET at 50 000 and sets EXC_STAT.CFG_REJ,
whether it comes by the row of its own or as a write of the register. Rule R35. -/
def Obligations.VsetClamped : Prop :=
  (∀ (s : State) (k : Nat) (v : Word),
      s.bootFailed = false →
      hasExc s.fac.variant k = true →
      50000 < getField Fld.EXC_LEVEL_VSET v →
      ∃ t, exec (.excLevelWrite k v) s = .next t ∧
        t.fld (Reg.EXC_LEVEL k) Fld.EXC_LEVEL_VSET = 50000 ∧
        t.flag (Reg.EXC_STAT k) Fld.EXC_STAT_CFG_REJ = true) ∧
  (∀ (s : State) (who : Reader) (k data : Nat),
      s.bootFailed = false →
      hasExc s.fac.variant k = true →
      50000 < getField Fld.EXC_LEVEL_VSET (BitVec.ofNat 32 data) →
      ∃ t, exec (.registerWrite who (Reg.EXC_LEVEL k) 4 data) s = .next t ∧
        t.fld (Reg.EXC_LEVEL k) Fld.EXC_LEVEL_VSET = 50000 ∧
        t.flag (Reg.EXC_STAT k) Fld.EXC_STAT_CFG_REJ = true)

/-- Of an entry that the device has, a 64-bit read at the address of RES_HI returns RES_HI in its low half and in its high half the
RES_LO that the latch of the same read gives, by the row of its own and as a read of the register. Rule R80. -/
def Obligations.Res64OneLatch : Prop :=
  (∀ (s : State) (who : Reader) (i : Nat),
      s.bootFailed = false →
      unitPresent s.fac.variant .res i = true →
      ∃ t, exec (.res64Read who i) s = .next t ∧
        t.out = .regData who (Reg.RES_HI i)
        ((s.readResHi who i).1 + 2 ^ 32 * ((s.readResHi who i).2.readResLo who i).1) :: s.out) ∧
  (∀ (s : State) (who : Reader) (i : Nat),
      s.bootFailed = false →
      unitPresent s.fac.variant .res i = true →
      ∃ t, exec (.readClear who (Reg.RES_HI i) 8) s = .next t ∧
        t.out = .regData who (Reg.RES_HI i)
        ((s.readResHi who i).1 + 2 ^ 32 * ((s.readResHi who i).2.readResLo who i).1) :: s.out)

/-- For a channel that the device has: PIN_RANGE keeps which ball is beyond the limit, and PCH_STAT.PIN_RANGE then shows a ball
beyond it, PCHn_N only outside SE_UNI mode and none while the channel does not convert its balls; for a W-channel, as channel 64
+ n, it keeps the same, and a ball beyond the limit marks the native sample to come. INPUT_CLAMP shows the clamp and makes
CLAMP_S sticky. CFG_CHANGE brings the written PCH_CFG in force, makes the latest result stale and advances the epoch. A write of
PCH_CFG takes every field but the rejected ones, a rejected one setting CFG_REJ; before the first sample has passed it is in
force at once, after that the fields that begin a change wait for the base sample. Each clause gives the condition under which
the command completes with its own effect. Where the clauses rest on readings or choices of the model, these are log entries 33,
72, 85. Rests on 02_precision_inputs.md (R20, R21, R27, R28, R32). -/
def Obligations.PinCommands : Prop :=
  (∀ (s : State) (n : Nat) (ballN beyond : Bool),
      hasPch s.fac.variant n = true →
      n < 64 →
      ∃ t, exec (.pinRange n ballN beyond) s = .next t ∧
        (if ballN then (t.pchU n).beyondN else (t.pchU n).beyondP) = beyond ∧
        t.flag (Reg.PCH_STAT n) Fld.PCH_STAT_PIN_RANGE =
        (!s.grounded n && ((t.pchU n).beyondP || (t.pchU n).beyondN && getField Fld.PCH_CFG_MODE (s.pchU n).inForce != 1))) ∧
  (∀ (s : State) (n : Nat) (ballN beyond : Bool),
      hasWch s.fac.variant n = true →
      ∃ t, exec (.pinRange (64 + n) ballN beyond) s = .next t ∧
        (if ballN then (t.wchU n).beyondN else (t.wchU n).beyondP) = beyond ∧
        (beyond = true → (t.wchU n).pinSeen = true)) ∧
  (∀ (s : State) (n : Nat) (ballN conducts : Bool),
      hasPch s.fac.variant n = true →
      ∃ t, exec (.inputClamp n ballN conducts) s = .next t ∧
        t.flag (Reg.PCH_STAT n) (if ballN then Fld.PCH_STAT_CLAMP_N else Fld.PCH_STAT_CLAMP_P) = conducts ∧
        (conducts = true → t.flag (Reg.PCH_STAT n) Fld.PCH_STAT_CLAMP_S = true)) ∧
  (∀ (s : State) (n : Nat) (new : Word),
      hasPch s.fac.variant n = true →
      (s.pchU n).change = true →
      new = ((s.pchU n).inForce &&& ~~~cfgChangeMask) ||| (s.regBy s.nextBoundary (Reg.PCH_CFG n) &&& cfgChangeMask) →
      new ≠ (s.pchU n).inForce →
      ∃ t, exec (.cfgChange n) s = .next t ∧
        (t.pchU n).inForce = new ∧
        ((t.pchU n).change = true ↔ new &&& cfgChangeMask ≠ s.reg (Reg.PCH_CFG n) &&& cfgChangeMask) ∧
        (t.pchU n).epoch = (s.pchU n).epoch + 1 ∧
        (t.resU n).stale = true) ∧
  (∀ (s : State) (n : Nat) (v : Word),
      s.bootFailed = false →
      hasPch s.fac.variant n = true →
      ∃ t, exec (.pchCfgWrite n v) s = .next t ∧
        t.reg (Reg.PCH_CFG n) =
        judged (s.reg (Reg.PCH_CFG n)) pchCfgMask (pchCfgReject s.inService (s.reg (Reg.PCH_CFG n)) v) v ∧
        (pchCfgReject s.inService (s.reg (Reg.PCH_CFG n)) v ≠ 0 → t.flag (Reg.PCH_STAT n) Fld.PCH_STAT_CFG_REJ = true) ∧
        ((s.pchU n).passed = false → (t.pchU n).inForce = t.reg (Reg.PCH_CFG n)) ∧
        ((s.pchU n).passed = true → (t.pchU n).inForce &&& cfgChangeMask = (s.pchU n).inForce &&& cfgChangeMask ∧
        ((t.pchU n).change = true ↔ (s.pchU n).inForce &&& cfgChangeMask ≠ t.reg (Reg.PCH_CFG n) &&& cfgChangeMask)))

/-- For an excitation driver that the device has: a write of MODE takes 0 to 4, ends a shutdown, starts the ramp out of OFF in DC
and AC, and where it changes MODE ends a run and a request; 5 to 7 are rejected with CFG_REJ. FIRE with its source in PLUCK or
SWEEP mode makes a request; with one in progress it is dropped and counted; with another source or mode it does nothing. The
period timer makes a request at the grid of PHASE and PERIOD. VSET is clamped at 50 000 with CFG_REJ; a change of it starts the
ramp in DC and is due at the next edge in AC. After 1 ms the ramp ends. An edge comes at the first base-sample boundary after
2^HDIV base samples, turns the polarity, and that of the odd driver of the bank with it. Each clause gives the condition under
which the command completes with its own effect. Where the clauses rest on readings or choices of the model, these are log
entries 33, 34, 116. Rests on 02_precision_inputs.md (R35, R36, R37, R39, R44). -/
def Obligations.ExcitationWrites : Prop :=
  (∀ (s : State) (k : Nat) (v : Word),
      s.bootFailed = false →
      hasExc s.fac.variant k = true →
      getField Fld.EXC_CTRL_MODE v < 5 →
      ∃ t, exec (.excCtrlModeWrite k v) s = .next t ∧
        t.fld (Reg.EXC_CTRL k) Fld.EXC_CTRL_MODE = getField Fld.EXC_CTRL_MODE v ∧
        (getField Fld.EXC_CTRL_MODE v ≠ 0 → t.flag (Reg.EXC_STAT k) Fld.EXC_STAT_SHUTDOWN = false) ∧
        (s.excMode k = 0 → getField Fld.EXC_CTRL_MODE v = 1 ∨ getField Fld.EXC_CTRL_MODE v = 2 →
        t.flag (Reg.EXC_STAT k) Fld.EXC_STAT_RAMP = true) ∧
        (getField Fld.EXC_CTRL_MODE v ≠ s.excMode k → (t.excU k).running = false ∧ (t.excU k).req = false)) ∧
  (∀ (s : State) (k : Nat) (v : Word),
      s.bootFailed = false →
      hasExc s.fac.variant k = true →
      5 ≤ getField Fld.EXC_CTRL_MODE v →
      ∃ t, exec (.excCtrlModeWrite k v) s = .next t ∧
        t.reg (Reg.EXC_CTRL k) = s.reg (Reg.EXC_CTRL k) ∧
        t.flag (Reg.EXC_STAT k) Fld.EXC_STAT_CFG_REJ = true) ∧
  (∀ (s : State) (k : Nat),
      s.bootFailed = false →
      hasExc s.fac.variant k = true →
      s.fld (Reg.EXC_VW k) Fld.EXC_VW_SRC = 0 →
      (s.excMode k = 3 ∨ s.excMode k = 4) →
      s.flag (Reg.EXC_STAT k) Fld.EXC_STAT_BUSY = false →
      (s.excU k).req = false →
      ∃ t, exec (.excFire k) s = .next t ∧
        (t.excU k).req = true) ∧
  (∀ (s : State) (k : Nat),
      s.bootFailed = false →
      hasExc s.fac.variant k = true →
      s.fld (Reg.EXC_VW k) Fld.EXC_VW_SRC = 0 →
      (s.excMode k = 3 ∨ s.excMode k = 4) →
      (s.flag (Reg.EXC_STAT k) Fld.EXC_STAT_BUSY = true ∨ (s.excU k).req = true) →
      ∃ t, exec (.excFire k) s = .next t ∧
        t.fld (Reg.EXC_STAT k) Fld.EXC_STAT_DROP_CNT =
        satInc (fieldWidth Fld.EXC_STAT_DROP_CNT) (s.fld (Reg.EXC_STAT k) Fld.EXC_STAT_DROP_CNT) ∧
        t.excU k = s.excU k) ∧
  (∀ (s : State) (k : Nat),
      s.bootFailed = false →
      hasExc s.fac.variant k = true →
      (s.fld (Reg.EXC_VW k) Fld.EXC_VW_SRC ≠ 0 ∨ (s.excMode k ≠ 3 ∧ s.excMode k ≠ 4)) →
      ∃ t, exec (.excFire k) s = .next t ∧
        t.regs = s.regs ∧
        t.excU k = s.excU k) ∧
  (∀ (s : State) (k : Nat),
      hasExc s.fac.variant k = true →
      s.fld (Reg.EXC_VW k) Fld.EXC_VW_SRC = 1 →
      s.fld (Reg.EXC_PER k) Fld.EXC_PER_PERIOD ≠ 0 →
      (s.excMode k = 3 ∨ s.excMode k = 4) →
      s.flag (Reg.EXC_STAT k) Fld.EXC_STAT_BUSY = false →
      (s.excU k).req = false →
      periodIndex (s.fld (Reg.EXC_PHASE k) Fld.EXC_PHASE_PHASE) (s.fld (Reg.EXC_PER k) Fld.EXC_PER_PERIOD) (s.excU k).perFrom <
      periodIndex (s.fld (Reg.EXC_PHASE k) Fld.EXC_PHASE_PHASE) (s.fld (Reg.EXC_PER k) Fld.EXC_PER_PERIOD) s.time →
      ∃ t, exec (.excPeriodTimer k) s = .next t ∧
        (t.excU k).req = true ∧
        (t.excU k).perFrom = s.time) ∧
  (∀ (s : State) (k : Nat) (v : Word),
      s.bootFailed = false →
      hasExc s.fac.variant k = true →
      ∃ t, exec (.excLevelWrite k v) s = .next t ∧
        t.fld (Reg.EXC_LEVEL k) Fld.EXC_LEVEL_VSET = min (getField Fld.EXC_LEVEL_VSET v) 50000 ∧
        (50000 < getField Fld.EXC_LEVEL_VSET v → t.flag (Reg.EXC_STAT k) Fld.EXC_STAT_CFG_REJ = true) ∧
        (s.excMode k = 1 → t.fld (Reg.EXC_LEVEL k) Fld.EXC_LEVEL_VSET ≠ s.fld (Reg.EXC_LEVEL k) Fld.EXC_LEVEL_VSET →
        t.flag (Reg.EXC_STAT k) Fld.EXC_STAT_RAMP = true) ∧
        (s.excMode k = 2 → t.fld (Reg.EXC_LEVEL k) Fld.EXC_LEVEL_VSET ≠ s.fld (Reg.EXC_LEVEL k) Fld.EXC_LEVEL_VSET →
        (t.excU k).rampDue = true)) ∧
  (∀ (s : State) (k : Nat),
      hasExc s.fac.variant k = true →
      16384 ≤ s.cycles - (s.excU k).rampCyc →
      ∃ t, exec (.excRampEnd k) s = .next t ∧
        t.flag (Reg.EXC_STAT k) Fld.EXC_STAT_RAMP = false) ∧
  (∀ (s : State) (k : Nat),
      hasExc s.fac.variant k = true →
      s.excMode k = 2 →
      s.atBoundary = true →
      ¬(k % 2 = 1 ∧ s.excMode (k - 1) = 2) →
      2 ^ s.fld (Reg.EXC_AC k) Fld.EXC_AC_HDIV ≤ (s.excU k).edgeAge →
      ∃ t, exec (.excPolarityEdge k) s = .next t ∧
        (t.excU k).positive = !(s.excU k).positive ∧
        (t.excU k).edgeAge = 0 ∧
        (k % 2 = 0 → s.excMode (k + 1) = 2 → (t.excU (k + 1)).positive = !(s.excU k).positive))

/-- For an excitation driver that the device has: a request in PLUCK or SWEEP mode starts at a base-sample boundary; the release
ends a run that has lasted its time; 100 µs after the release the mute ends, clears BUSY and writes EXC_DONE with start, release
and end. A monitor sample replaces EXC_MON whole and LIMIT. A fault whose condition has been seen for its detection time sets
its bit, and OVERLOAD shuts the driver down and ends its run. Each clause gives the condition under which the command completes
with its own effect. Where the clauses rest on readings or choices of the model, these are log entries 34, 72, 79, 80. Rests on
02_precision_inputs.md (R42, R44, R45, R46, R50). -/
def Obligations.ExcitationRuns : Prop :=
  (∀ (s : State) (k : Nat),
      hasExc s.fac.variant k = true →
      (s.excU k).req = true →
      s.atBoundary = true →
      (s.excMode k = 3 ∨ s.excMode k = 4) →
      ∃ t, exec (.excStart k) s = .next t ∧
        (t.excU k).running = true ∧
        (t.excU k).start = s.time ∧
        (t.excU k).req = false ∧
        t.flag (Reg.EXC_STAT k) Fld.EXC_STAT_BUSY = true) ∧
  (∀ (s : State) (k : Nat),
      hasExc s.fac.variant k = true →
      (s.excU k).running = true →
      s.excLasted k = true →
      ∃ t, exec (.excRelease k) s = .next t ∧
        (t.excU k).running = false ∧
        (t.excU k).release = s.time) ∧
  (∀ (s : State) (k : Nat),
      hasExc s.fac.variant k = true →
      (s.excU k).running = false →
      s.flag (Reg.EXC_STAT k) Fld.EXC_STAT_BUSY = true →
      100 * 16384 ≤ (s.cycles - (s.excU k).relCyc) * 1000 →
      ∃ t, exec (.excDone k) s = .next t ∧
        t.flag (Reg.EXC_STAT k) Fld.EXC_STAT_BUSY = false ∧
        (((s.clear (Reg.EXC_STAT k) Fld.EXC_STAT_BUSY).pinUpdateBank k).recs = s.recs →
        s.recsFull = false → t.recs = s.recs ++ [mkRec 0x0119 k s.time [k, (s.excU k).start.toNat, (s.excU k).release.toNat, s.time.toNat]])) ∧
  (∀ (s : State) (k : Nat) (vmon imon : BitVec 16) (limit sense : Bool),
      hasExc s.fac.variant k = true →
      ∃ t, exec (.excMonitorSample k vmon imon limit sense) s = .next t ∧
        t.reg (Reg.EXC_MON k) = imon ++ vmon ∧
        t.fld (Reg.EXC_STAT k) Fld.EXC_STAT_LIMIT = bit limit) ∧
  (∀ (s : State) (k b : Nat),
      hasExc s.fac.variant k = true →
      3 ≤ b →
      b ≤ 7 →
      s.excWatches k b = true →
      excDetect b ≤ (s.excU k).seen.getD (b - 3) 0 →
      ∃ t, exec (.excFault k b) s = .next t ∧
        t.regBit (Reg.EXC_STAT k) b = true ∧
        bitAt (t.excU k).held b = true ∧
        (b = 3 → t.flag (Reg.EXC_STAT k) Fld.EXC_STAT_SHUTDOWN = true ∧ (t.excU k).running = false))

/-- For a P-channel that the device has: 2560 base samples without an eligible one set UNCHK; 65 536 eligible ones give PCH_FUS_DIFF
their mean and start anew; 256 samples without an overrange end the overrange condition, its record naming the channel, the sign
and the cause kept with it; writes of PCH_FUS_CFG and PCH_FMT take every field but the rejected ones, a rejected one setting
CFG_REJ, and one of PCH_PLAUS_TH takes all and reloads the threshold. The record of the end is the model's reading where it
names sign and cause of the last overrange sample. Each clause gives the condition under which the command completes with its
own effect. Where the clauses rest on readings or choices of the model, these are log entries 33, 34, 81, 82, 86, 117. Rests on
03_dual_range_conversion.md (R57, R59, R61, R64, R67, R69, R71). -/
def Obligations.FusionCommands : Prop :=
  (∀ (s : State) (n : Nat),
      hasPch s.fac.variant n = true →
      2560 ≤ (s.pchU n).noElig →
      ∃ t, exec (.fusionUnchecked n) s = .next t ∧
        t.flag (Reg.PCH_CONV_STAT n) Fld.PCH_CONV_STAT_UNCHK = true) ∧
  (∀ (s : State) (n : Nat),
      hasPch s.fac.variant n = true →
      65536 ≤ (s.pchU n).diffCnt →
      ∃ t, exec (.fusDiffUpdate n) s = .next t ∧
        t.reg (Reg.PCH_FUS_DIFF n) =
        BitVec.ofInt 32 (clampInt (-(2 ^ 31)) (2 ^ 31 - 1) ((s.pchU n).diffSum.fdiv (s.pchU n).diffCnt)) ∧
        t.flag (Reg.PCH_CONV_STAT n) Fld.PCH_CONV_STAT_DIFF_VALID = true ∧
        (t.pchU n).diffSum = 0 ∧
        (t.pchU n).diffCnt = 0) ∧
  (∀ (s : State) (n : Nat),
      hasPch s.fac.variant n = true →
      (s.pchU n).overrange = true →
      256 ≤ (s.pchU n).quiet →
      ∃ t, exec (.overrangeLeave n) s = .next t ∧
        (t.pchU n).overrange = false ∧
        (s.recsFull = false → (s.rateKey 0x0114 n).lastB = none → t.recs = s.recs ++ [mkRec 0x0114 n s.time
        [n, 0, if (s.pchU n).ovrNeg then -1 else 1, (s.pchU n).ovrCause, (s.rateKey 0x0114 n).suppB]])) ∧
  (∀ (s : State) (n : Nat) (v : Word),
      s.bootFailed = false →
      hasPch s.fac.variant n = true →
      ∃ t, exec (.pchFusCfgWrite n v) s = .next t ∧
        t.reg (Reg.PCH_FUS_CFG n) = judged (s.reg (Reg.PCH_FUS_CFG n)) 0xE7FF003F (pchFusCfgReject s.inService (s.reg (Reg.PCH_FUS_CFG n)) v) v ∧
        (pchFusCfgReject s.inService (s.reg (Reg.PCH_FUS_CFG n)) v ≠ 0 → t.flag (Reg.PCH_STAT n) Fld.PCH_STAT_CFG_REJ = true)) ∧
  (∀ (s : State) (n : Nat) (v : Word),
      s.bootFailed = false →
      hasPch s.fac.variant n = true →
      ∃ t, exec (.pchPlausThWrite n v) s = .next t ∧
        t.reg (Reg.PCH_PLAUS_TH n) = v ∧
        (t.pchU n).thLoad = true) ∧
  (∀ (s : State) (n : Nat) (v : Word),
      s.bootFailed = false →
      hasPch s.fac.variant n = true →
      ∃ t, exec (.pchFmtWrite n v) s = .next t ∧
        t.reg (Reg.PCH_FMT n) = judged (s.reg (Reg.PCH_FMT n)) 0x30037FFF (pchFmtReject v) v ∧
        (pchFmtReject v ≠ 0 → t.flag (Reg.PCH_STAT n) Fld.PCH_STAT_CFG_REJ = true))

/-- RES_HI_READ and RES_LO_READ of an entry that the device has return the words of R78 and R79 to their reader and leave the newest
result as it is. Of an entry that the device has not, each returns 0. Each clause gives the condition under which the command
completes with its own effect. Where the clauses rest on readings or choices of the model, these are log entries 36, 78. Rests
on 03_dual_range_conversion.md (R78, R79). -/
def Obligations.ResultReads : Prop :=
  (∀ (s : State) (who : Reader) (i : Nat),
      s.bootFailed = false →
      unitPresent s.fac.variant .res i = true →
      ∃ t, exec (.resHiRead who i) s = .next t ∧
        t.out = .regData who (Reg.RES_HI i) (s.readResHi who i).1 :: s.out ∧
        (t.resU i).val = (s.resU i).val) ∧
  (∀ (s : State) (who : Reader) (i : Nat),
      s.bootFailed = false →
      unitPresent s.fac.variant .res i = true →
      ∃ t, exec (.resLoRead who i) s = .next t ∧
        t.out = .regData who (Reg.RES_LO i) (s.readResLo who i).1 :: s.out ∧
        (t.resU i).val = (s.resU i).val) ∧
  (∀ (s : State) (who : Reader) (i : Nat),
      s.bootFailed = false →
      unitPresent s.fac.variant .res i = false →
      ∃ t, exec (.resHiRead who i) s = .next t ∧
        t.out = .regData who (Reg.RES_HI i) 0 :: s.out) ∧
  (∀ (s : State) (who : Reader) (i : Nat),
      s.bootFailed = false →
      unitPresent s.fac.variant .res i = false →
      ∃ t, exec (.resLoRead who i) s = .next t ∧
        t.out = .regData who (Reg.RES_LO i) 0 :: s.out)

/-- BASE_SAMPLE advances the base index by one and begins a new base period. For a P-channel that the device has: a MONITOR output
that falls on its grid is delivered once for its centre; a STATIC output shows its window's length and the next window begins
where it ended; each counts as a result of the channel where RES_SRC names it, with the next sequence number; 100 ms without a
crossing accepted end MAINS lock, clear VALID, and write MAINS_LOST with the period and the last crossing where VALID was set.
For a P-channel that the device has: PCH_STATIC_CFG takes every field but the rejected ones; PCH_SEIS_CFG takes RATE and PHASE
while the SEISMIC output is not consumed, and keeps both with CFG_REJ while it is; a SEISMIC output that falls on a multiple of
D is delivered once, and counts as a result of the channel where RES_SRC names it. Each clause gives the condition under which
the command completes with its own effect. Where the clauses rest on readings or choices of the model, these are log entries 33,
87, 88, 89, 118. Rests on 04_filter_chains.md (R85, R92, R93, R95, R97, R98, R100, R103, R104, R107). -/
def Obligations.FilterOutputsAndWrites : Prop :=
  (∀ (s : State) (raws : List RawSample),
      s.baseRunning = true →
      ∃ t, exec (.baseSample raws) s = .next t ∧
        t.baseIdx = s.baseIdx + 1 ∧
        t.sinceBase = 0 ∧
        t.time = (s.passCycles (64 - s.sinceBase)).time) ∧
  (∀ (s : State) (n : Nat) (x : Sample) (rest : List Sample) (m : Marks),
      hasPch s.fac.variant n = true →
      (s.pchU n).mon = x :: rest →
      29 ≤ (s.pchU n).mon.length →
      marksOf (s.pchU n).mon = some m →
      14 ≤ x.marks.last →
      (x.marks.last - 14) % 8 = 0 →
      (s.pchU n).monDone ≠ some (x.marks.last - 14) →
      ∃ t, exec (.monitorOutput n) s = .next t ∧
        (t.pchU n).monDone = some (x.marks.last - 14) ∧
        (s.fld (Reg.PCH_FMT n) Fld.PCH_FMT_RES_SRC = 2 → (t.resU n).num = (s.resU n).num + 1 ∧ (t.resU n).seq = ((s.resU n).seq + 1) % 256)) ∧
  (∀ (s : State) (n : Nat) (w : StaticWin) (m : Marks),
      hasPch s.fac.variant n = true →
      (s.pchU n).stat = some w →
      w.marks = some m →
      w.ended = true →
      ∃ t, exec (.staticOutput n) s = .next t ∧
        t.fld (Reg.PCH_STATIC_LAST n) Fld.PCH_STATIC_LAST_LEN = (w.b1 - w.b0) % 2 ^ fieldWidth Fld.PCH_STATIC_LAST_LEN ∧
        (∃ w', (t.pchU n).stat = some w' ∧ w'.b0 = w.b1) ∧
        (s.fld (Reg.PCH_FMT n) Fld.PCH_FMT_RES_SRC = 0 → (t.resU n).num = (s.resU n).num + 1 ∧ (t.resU n).seq = ((s.resU n).seq + 1) % 256)) ∧
  (∀ (s : State) (n : Nat),
      hasPch s.fac.variant n = true →
      msTime 100 ≤ (s.time - (s.pchU n).mains.lastAt).toNat →
      ∃ t, exec (.mainsLost n) s = .next t ∧
        t.flag (Reg.PCH_MAINS_PER n) Fld.PCH_MAINS_PER_VALID = false ∧
        (t.pchU n).mains.accepted = 0 ∧
        (s.flag (Reg.PCH_MAINS_PER n) Fld.PCH_MAINS_PER_VALID = true → s.recsFull = false → t.recs = s.recs ++ [mkRec 0x0130 n s.time [n, s.fld (Reg.PCH_MAINS_PER n) Fld.PCH_MAINS_PER_PERIOD, (crossTime (s.pchU n).mains.lastTc).toNat]])) ∧
  (∀ (s : State) (n : Nat) (v : Word),
      s.bootFailed = false →
      hasPch s.fac.variant n = true →
      ∃ t, exec (.pchStaticCfgWrite n v) s = .next t ∧
        t.reg (Reg.PCH_STATIC_CFG n) = judged (s.reg (Reg.PCH_STATIC_CFG n)) 0xE03F00FF (pchStaticCfgReject v) v ∧
        (pchStaticCfgReject v ≠ 0 → t.flag (Reg.PCH_STAT n) Fld.PCH_STAT_CFG_REJ = true)) ∧
  (∀ (s : State) (n : Nat) (v : Word),
      s.bootFailed = false →
      hasPch s.fac.variant n = true →
      s.consumed (srckOfPch 1) n = false →
      ∃ t, exec (.pchSeisCfgWrite n v) s = .next t ∧
        t.reg (Reg.PCH_SEIS_CFG n) = v &&& 0x80000007) ∧
  (∀ (s : State) (n : Nat) (v : Word),
      s.bootFailed = false →
      hasPch s.fac.variant n = true →
      s.consumed (srckOfPch 1) n = true →
      v &&& 0x80000007 ≠ s.reg (Reg.PCH_SEIS_CFG n) →
      ∃ t, exec (.pchSeisCfgWrite n v) s = .next t ∧
        t.reg (Reg.PCH_SEIS_CFG n) = s.reg (Reg.PCH_SEIS_CFG n) ∧
        t.flag (Reg.PCH_STAT n) Fld.PCH_STAT_CFG_REJ = true) ∧
  (∀ (s : State) (n rate phase : Nat) (st : Nat × Nat × Nat) (line : List Sample) (m : Marks),
      hasPch s.fac.variant n = true →
      s.fld (Reg.PCH_SEIS_CFG n) Fld.PCH_SEIS_CFG_RATE = rate →
      s.fld (Reg.PCH_SEIS_CFG n) Fld.PCH_SEIS_CFG_PHASE = phase →
      (seisChain rate phase).getLast? = some st →
      (s.pchU n).seis.getLast? = some line →
      st.1 ≤ line.length →
      marksOf line = some m →
      seisDelay rate phase ≤ m.last →
      ((m.last : Int) - seisDelay rate phase) % seisD rate = 0 →
      (s.pchU n).seisDone ≠ some m.last →
      ∃ t, exec (.seismicOutput n) s = .next t ∧
        (t.pchU n).seisDone = some m.last ∧
        (s.fld (Reg.PCH_FMT n) Fld.PCH_FMT_RES_SRC = 1 → (t.resU n).num = (s.resU n).num + 1 ∧ (t.resU n).seq = ((s.resU n).seq + 1) % 256))

/-- For a bank that the device has: at a slot boundary the running slot joins the ended ones, and the slot of the next place of the
sequence begins there with its point; a result closes the oldest ended slot, seven converter clocks or more after its end, and
counts it for its channel; the cycle's end shows its length; a configuration register takes every field but the rejected ones,
and a rejected one sets CFG_REJ. A CHK_CONVERT that is not urgent waits for the next slot of its bank, or is BUSY where one
waits there; an urgent one begins at the next clock in an idle open slot that holds it, and is else dropped and counted; one
that names no bank or point is INVALID, one of an absent bank ABSENT; at the end of its slot the command completes OK with ten
bytes of a and k2 for a channel, four of the raw ratio for another point. Each clause gives the condition under which the
command completes with its own effect. Where the clauses rest on readings or choices of the model, these are log entries 71, 90,
91, 119, 140. Rests on 05_checker_and_calibration.md (R112, R113, R114, R115, R120, R129). -/
def Obligations.CheckerAndOnDemand : Prop :=
  (∀ (s : State) (m : Nat) (overload : Bool),
      hasBank s.fac.variant m = true →
      (s.bankU m).running = true →
      (s.bankU m).nextB ≤ s.modClock →
      ∃ t, exec (.checkerSlotBoundary m overload) s = .next t ∧
        ((t.bankU m).ended.length = (s.bankU m).ended.length + if (s.bankU m).cur.isSome then 1 else 0)) ∧
  (∀ (s : State) (m pos point : Nat) (overload : Bool) (b : Bank) (rest : List (Nat × Nat)),
      hasBank s.fac.variant m = true →
      (s.bankU m).running = true →
      (s.bankU m).nextB ≤ s.modClock →
      (s.bankU m).closeSlot overload = b →
      (b.slots = 0 ∨ s.slotGrid b = b.nextB) →
      b.repeatPt = none →
      b.todo = (pos, point) :: rest →
      point ≠ 12 →
      ∃ t, exec (.checkerSlotBoundary m overload) s = .next t ∧
        (t.bankU m).todo = rest ∧
        (∃ sl, (t.bankU m).cur = some sl ∧ sl.point = point ∧ sl.b0 = b.nextB ∧ sl.od = none)) ∧
  (∀ (s : State) (m : Nat) (r : BitVec 32) (owP owN : Bool) (sl : Slot) (rest : List Slot),
      hasBank s.fac.variant m = true →
      (s.bankU m).skipIdle.ended = sl :: rest →
      sl.od = none →
      sl.b1 + 7 ≤ s.modClock →
      ∃ t, exec (.checkerResult m r owP owN) s = .next t ∧
        (t.bankU m).ended = rest ∧
        (sl.point < 8 → t.fld (Reg.CHK_CH_STAT m sl.point) Fld.CHK_CH_STAT_SLOTSEQ =
        (s.fld (Reg.CHK_CH_STAT m sl.point) Fld.CHK_CH_STAT_SLOTSEQ + 1) % 2 ^ fieldWidth Fld.CHK_CH_STAT_SLOTSEQ)) ∧
  (∀ (s : State) (m : Nat) (d : CycleDone),
      hasBank s.fac.variant m = true →
      (s.bankU m).done = some d →
      (∀ sl ∈ (s.bankU m).ended, sl.point < 12 → (s.bankU m).cycleB < sl.b1) →
      ∃ t, exec (.checkerCycleEnd m) s = .next t ∧
        t.reg (Reg.BANK_CYCLE_T m) = BitVec.ofNat 32 d.dur ∧
        (t.bankU m).done = none) ∧
  (∀ (s : State) (m i : Nat) (v : Word),
      s.bootFailed = false →
      hasBank s.fac.variant m = true →
      i < 5 →
      ∃ t, exec (.bankCfgWrite m i v) s = .next t ∧
        t.reg (Reg.BANK_CFG m + 4 * i) =
        judged (s.reg (Reg.BANK_CFG m + 4 * i)) (bankCfgMasks.getD i 0) (s.bankCfgReject m i v) v ∧
        (s.bankCfgReject m i v ≠ 0 → t.flag (Reg.BANK_STAT m) Fld.BANK_STAT_CFG_REJ = true)) ∧
  (∀ (s : State) (src : CmdSrc) (tag m point window : Nat),
      m ≤ 7 →
      point ≤ 11 →
      hasBank s.fac.variant m = true →
      s.curMode ≠ modeBoot →
      (s.bankU m).waiting = none →
      ∃ t, exec (.chkConvert src tag m point window false) s = .next t ∧
        (t.bankU m).waiting = some { src := src, tag := tag, point := point, len := window }) ∧
  (∀ (s : State) (src : CmdSrc) (tag m point window : Nat),
      m ≤ 7 →
      point ≤ 11 →
      hasBank s.fac.variant m = true →
      s.curMode ≠ modeBoot →
      (s.bankU m).waiting ≠ none →
      src = .ring →
      s.takes 0x0040 tag = true →
      ∃ t, exec (.chkConvert src tag m point window false) s = .next t ∧
        t.decided 0x0040 tag { status := stBusy, time := s.time }) ∧
  (∀ (s : State) (src : CmdSrc) (tag m point window : Nat) (sl : Slot),
      m ≤ 7 →
      point ≤ 11 →
      hasBank s.fac.variant m = true →
      s.curMode ≠ modeBoot →
      (s.freeOpen (s.bankU m)).cur = some sl →
      sl.point = 12 →
      s.modClock + 1 + s.odLen (s.freeOpen (s.bankU m)) { src := src, tag := tag, point := point, len := window } ≤ sl.b1 →
      ∃ t, exec (.chkConvert src tag m point window true) s = .next t ∧
        (∃ x, (t.bankU m).cur = some x ∧ x.point = point ∧ x.b0 = s.modClock + 1 ∧ x.od.isSome = true) ∧
        t.fld (Reg.BANK_STAT m) Fld.BANK_STAT_POINT = 13) ∧
  (∀ (s : State) (src : CmdSrc) (tag m point window : Nat),
      m ≤ 7 →
      point ≤ 11 →
      hasBank s.fac.variant m = true →
      s.curMode ≠ modeBoot →
      (∀ sl, (s.freeOpen (s.bankU m)).cur = some sl → sl.point = 12 →
      sl.b1 < s.modClock + 1 + s.odLen (s.freeOpen (s.bankU m)) { src := src, tag := tag, point := point, len := window }) →
      ∃ t, exec (.chkConvert src tag m point window true) s = .next t ∧
        t.fld (Reg.BANK_DROP_CNT m) Fld.BANK_DROP_CNT_DROPS =
        satInc (fieldWidth Fld.BANK_DROP_CNT_DROPS) (s.fld (Reg.BANK_DROP_CNT m) Fld.BANK_DROP_CNT_DROPS) ∧
        t.bankU m = s.bankU m) ∧
  (∀ (s : State) (tag m point window : Nat) (urgent : Bool),
      s.takes 0x0040 tag = true →
      (7 < m ∨ 11 < point) →
      ∃ t, exec (.chkConvert .ring tag m point window urgent) s = .next t ∧
        (∃ c, t.decided 0x0040 tag c ∧ c.status = stInvalid ∧ c.detail = 2)) ∧
  (∀ (s : State) (tag m point window : Nat) (urgent : Bool),
      s.takes 0x0040 tag = true →
      m ≤ 7 →
      point ≤ 11 →
      hasBank s.fac.variant m = false →
      ∃ t, exec (.chkConvert .ring tag m point window urgent) s = .next t ∧
        (∃ c, t.decided 0x0040 tag c ∧ c.status = stAbsent)) ∧
  (∀ (s : State) (m : Nat) (r : BitVec 32) (overload : Bool) (ow : OpenBalls) (sl : Slot) (rest : List Slot) (o : OnDemand),
      hasBank s.fac.variant m = true →
      (s.freeOpen (s.bankU m)).skipIdle.ended = sl :: rest →
      sl.od = some o →
      o.silent = false →
      sl.b1 + 7 ≤ s.modClock →
      ∃ t, exec (.onDemandSlotDone m r overload ow) s = .next t ∧
        (t.bankU m).ended = rest ∧
        (o.src = .ring → s.takes 0x0040 o.tag = true →
        ∃ c, t.decided 0x0040 o.tag c ∧ c.status = stOk ∧ c.result.length = if o.point < 8 then 10 else 4))

/-- In SERVICE, CAL_SYSTEM_ZERO and CAL_SYSTEM_FULL of a channel that is checked begin a measurement of N slots, 8 where N is 0,
unless the bank measures already or a commit runs; CAL_COMMIT takes the pending entries. A measurement whose slots are taken
ends where it gives no usable words, else has its entry ready; a ready entry is applied at a slot that began no earlier and is
not urgent. The commit ends OK with the count of its entries, or REFUSED where the flash fails. A reload gives a poisoned entry
the words of its CALSET section, where the flash can be read; where it cannot, the state stays as it was. Each clause gives the
condition under which the command completes with its own effect. Where the clauses rest on readings or choices of the model,
these are log entries 19, 33, 92, 113. Rests on 05_checker_and_calibration.md (R137, R138, R139, R141, R142). -/
def Obligations.CalibrationCommands : Prop :=
  (∀ (s : State) (src : CmdSrc) (tag ch n : Nat),
      ch ≤ 63 →
      n ≤ 64 →
      hasPch s.fac.variant ch = true →
      s.inService = true →
      s.chMasked ch = false →
      (s.bankU (ch / 8)).meas = none →
      s.commit = none →
      ∃ t, exec (.calSystemZero src tag ch n) s = .next t ∧
        ((t.bankU (ch / 8)).meas = some
        { src := src, tag := tag, full := false, ch := ch, gain := s.gainOf ch, count := if n = 0 then 8 else n, target := 0,
          since := s.modClock + 1 }) ∧
        t.flag Reg.CAL_STAT Fld.CAL_STAT_MEAS_BUSY = true) ∧
  (∀ (s : State) (src : CmdSrc) (tag ch n : Nat) (target : Int),
      ch ≤ 63 →
      n ≤ 64 →
      hasPch s.fac.variant ch = true →
      s.inService = true →
      s.chMasked ch = false →
      (s.bankU (ch / 8)).meas = none →
      s.commit = none →
      ∃ t, exec (.calSystemFull src tag ch n target) s = .next t ∧
        ((t.bankU (ch / 8)).meas = some
        { src := src, tag := tag, full := true, ch := ch, gain := s.gainOf ch, count := if n = 0 then 8 else n, target := target,
          since := s.modClock + 1 }) ∧
        t.flag Reg.CAL_STAT Fld.CAL_STAT_MEAS_BUSY = true) ∧
  (∀ (s : State) (src : CmdSrc) (tag : Nat),
      s.inService = true →
      s.commit = none →
      s.flag Reg.BOOT_CTRL Fld.BOOT_CTRL_FL_RELEASE = false →
      s.pendingKeys ≠ [] →
      ∃ t, exec (.calCommit src tag) s = .next t ∧
        (t.commit = some { src := src, tag := tag, entries := s.pendingKeys.map (fun k => (k, (s.calE k).words)) }) ∧
        t.flag Reg.CAL_STAT Fld.CAL_STAT_COMMIT_BUSY = true) ∧
  (∀ (s : State) (m : Nat) (me : Meas),
      (s.bankU m).meas = some me →
      me.count ≤ me.taken →
      me.words = none →
      s.calNewWords me = none →
      ∃ t, exec (.calMeasureDone m) s = .next t ∧
        (t.bankU m).meas = none) ∧
  (∀ (s : State) (m : Nat) (me : Meas) (w : List Word),
      (s.bankU m).meas = some me →
      me.count ≤ me.taken →
      me.words = none →
      s.calNewWords me = some w →
      (s.bankU m).sf = none →
      ∃ t, exec (.calMeasureDone m) s = .next t ∧
        (t.bankU m).meas = some { me with words := some w }) ∧
  (∀ (s : State) (m : Nat) (me : Meas) (w : List Word),
      (s.bankU m).meas = some me →
      me.count ≤ me.taken →
      me.words = none →
      s.calNewWords me = some w →
      (s.bankU m).sf ≠ none →
      ∃ t, exec (.calMeasureDone m) s = .next t ∧
        (t.bankU m).meas = some { me with words := some (s.calEntryWords me w), ready := some s.modClock }) ∧
  (∀ (s : State) (m since : Nat) (me : Meas) (w : List Word) (sl : Slot),
      (s.bankU m).meas = some me →
      me.words = some w →
      me.ready = some since →
      (s.bankU m).cur = some sl →
      since ≤ sl.b0 →
      sl.od.any (·.urgent) = false →
      ∃ t, exec (.calApplied m) s = .next t ∧
        (t.bankU m).meas = none ∧
        (t.bankU m).cur = some (sl.withEntry me.ch me.gain w) ∧
        (me.gain ≠ s.gainOf me.ch → (t.calE (calKeyP me.ch me.gain)).words = w)) ∧
  (∀ (s : State) (end_ : CommitEnd) (c : Commit),
      s.commit = some c →
      ∃ t, exec (.calCommitDone end_) s = .next t ∧
        t.commit = none ∧
        t.flag Reg.CAL_STAT Fld.CAL_STAT_COMMIT_BUSY = false) ∧
  (∀ (s : State) (c : Commit) (other : List (BitVec 8)),
      s.commit = some c →
      c.src = .ring →
      s.takes 0x0043 c.tag = true →
      ∃ t, exec (.calCommitDone { other := other }) s = .next t ∧
        t.decided 0x0043 c.tag { status := stOk, result := leBytes 2 c.entries.length, time := s.time }) ∧
  (∀ (s : State) (c : Commit) (slot off op : Nat) (other : List (BitVec 8)),
      s.commit = some c →
      c.src = .ring →
      s.takes 0x0043 c.tag = true →
      ∃ t, exec (.calCommitDone { fail := some (slot, off, op), other := other }) s = .next t ∧
        t.decided 0x0043 c.tag { status := stRefused, detail := 12, time := s.time }) ∧
  (∀ (s : State) (key : Nat),
      calPresent s.fac.variant key = true →
      (s.calE key).poison = true →
      s.bootu.mcRunning = true →
      ∃ t, exec (.calEntryReload key true) s = .next t ∧
        (t.calE key).words = s.calsetEntry key ∧
        (t.calE key).poison = false) ∧
  (∀ (s : State) (key : Nat),
      (s.calE key).poison = true →
      ∃ t, exec (.calEntryReload key false) s = .next t ∧
        t = s)

/-- For a W-channel that the device has: a native sample of a running converter advances its index by one, and is the calibrated
code held to 20 bits while the reference is in its window; 8192 samples without an overrange end that condition; a start that is
asked for under AUTO, or required, wakes the converter; its first valid sample makes it run with an empty decimator; a stop that
neither RUN, the mode nor a hit of the last 10 ms forbids puts it to sleep. WCH_CFG takes every field but the rejected ones
while the channel is not consumed, RUN alone while it is, and OFF puts it to sleep at once. Each clause gives the condition
under which the command completes with its own effect. Where the clauses rest on readings or choices of the model, these are log
entries 34, 93. Rests on 06_wideband_and_hits.md (R148, R149, R152, R153, R164). -/
def Obligations.WideConverters : Prop :=
  (∀ (s : State) (n : Nat) (r : BitVec 20),
      hasWch s.fac.variant n = true →
      s.flag (Reg.WCH_STAT n) Fld.WCH_STAT_RUNNING = true →
      s.gateOpen 14 = true →
      ∃ t, exec (.nativeSample n r) s = .next t ∧
        (t.wchU n).idx = (s.wchU n).idx + 1 ∧
        (t.wchU n).pinSeen = false ∧
        (s.flag Reg.SAF_SUP Fld.SAF_SUP_REF = false → ∃ x, (t.wchU n).hist.head? = some x ∧ x.idx = (s.wchU n).idx ∧
        x.val = satSigned 20 (nativeCode (s.wCoef n).1 (s.wCoef n).2 r.toInt))) ∧
  (∀ (s : State) (n : Nat),
      hasWch s.fac.variant n = true →
      (s.wchU n).overrange = true →
      8192 ≤ (s.wchU n).quiet →
      ∃ t, exec (.wOverrangeLeave n) s = .next t ∧
        (t.wchU n).overrange = false) ∧
  (∀ (s : State) (n : Nat),
      hasWch s.fac.variant n = true →
      s.wAwake n = false →
      ((s.wchU n).wakeReq = true ∧ s.fld (Reg.WCH_CFG n) Fld.WCH_CFG_RUN = 0 ∨ s.wRequired n s.curMode = true) →
      ∃ t, exec (.wConverterStart n) s = .next t ∧
        t.flag (Reg.WCH_STAT n) Fld.WCH_STAT_WAKING = true ∧
        (t.wchU n).wakeReq = false ∧
        (t.wchU n).woken = ((s.wchU n).wakeReq && s.fld (Reg.WCH_CFG n) Fld.WCH_CFG_RUN == 0)) ∧
  (∀ (s : State) (n : Nat),
      hasWch s.fac.variant n = true →
      s.flag (Reg.WCH_STAT n) Fld.WCH_STAT_WAKING = true →
      s.gateOpen 14 = true →
      ∃ t, exec (.wConverterReady n) s = .next t ∧
        t.flag (Reg.WCH_STAT n) Fld.WCH_STAT_RUNNING = true ∧
        t.flag (Reg.WCH_STAT n) Fld.WCH_STAT_WAKING = false ∧
        (t.wchU n).line = []) ∧
  (∀ (s : State) (n : Nat),
      hasWch s.fac.variant n = true →
      s.wAwake n = true →
      s.wRequired n s.curMode = false →
      ((s.wchU n).woken = true → s.fld (Reg.WCH_CFG n) Fld.WCH_CFG_RUN = 0 →
      ∃ u ∈ (s.wchU n).hitEnd, msTime 10 ≤ (s.time - u).toNat) →
      ∃ t, exec (.wConverterStop n) s = .next t ∧
        t.wAwake n = false ∧
        (t.wchU n).woken = false) ∧
  (∀ (s : State) (n : Nat) (v : Word),
      s.bootFailed = false →
      hasWch s.fac.variant n = true →
      s.consumed 3 n = false →
      ∃ t, exec (.wchCfgWrite n v) s = .next t ∧
        t.reg (Reg.WCH_CFG n) = judged (s.reg (Reg.WCH_CFG n)) 0x00003377 (wchCfgReject v) v ∧
        (wchCfgReject v ≠ 0 → t.flag (Reg.WCH_STAT n) Fld.WCH_STAT_CFG_REJ = true) ∧
        (getField Fld.WCH_CFG_RUN (t.reg (Reg.WCH_CFG n)) = 2 → t.wAwake n = false)) ∧
  (∀ (s : State) (n : Nat) (v : Word),
      s.bootFailed = false →
      hasWch s.fac.variant n = true →
      s.consumed 3 n = true →
      wchCfgReject v = 0 →
      ∃ t, exec (.wchCfgWrite n v) s = .next t ∧
        t.fld (Reg.WCH_CFG n) Fld.WCH_CFG_RUN = getField Fld.WCH_CFG_RUN v ∧
        t.fld (Reg.WCH_CFG n) Fld.WCH_CFG_GAIN = s.fld (Reg.WCH_CFG n) Fld.WCH_CFG_GAIN ∧
        t.fld (Reg.WCH_CFG n) Fld.WCH_CFG_DECIM = s.fld (Reg.WCH_CFG n) Fld.WCH_CFG_DECIM)

/-- For a window monitor that the device has: an adjacent transition of an enabled monitor outside its self-test shows the new
state, counts it and keeps its time; an UNRESOLVED one resolves without a record; WM_CFG and WM_TH take every field but the
rejected ones, and a change of EN makes the state UNRESOLVED; the reads of its time return it to their reader. Each clause gives
the condition under which the command completes with its own effect. Where the clauses rest on readings or choices of the model,
these are log entries 71. Rests on 06_wideband_and_hits.md (R155, R158, R159, R160, R161). -/
def Obligations.WindowMonitors : Prop :=
  (∀ (s : State) (i new : Nat) (u : Time),
      hasWm s.fac.variant i = true →
      s.flag (Reg.WM_CFG i) Fld.WM_CFG_EN = true →
      (s.wmU i).test.running = false →
      wmAdjacent (s.wmState i) new = true →
      ∃ t, exec (.wmTransition i new u) s = .next t ∧
        t.wmState i = new ∧
        (t.wmU i).lastAt = s.wmTime i u false ∧
        t.fld (Reg.WM_CNT i) Fld.WM_CNT_CROSSINGS =
        satInc (fieldWidth Fld.WM_CNT_CROSSINGS) (s.fld (Reg.WM_CNT i) Fld.WM_CNT_CROSSINGS) ∧
        t.reg (Reg.WM_TIME_LO i) = BitVec.ofNat 32 (s.wmTime i u false).toNat) ∧
  (∀ (s : State) (i new : Nat),
      hasWm s.fac.variant i = true →
      s.flag (Reg.WM_CFG i) Fld.WM_CFG_EN = true →
      s.wmState i = wmUnresolved →
      1 ≤ new →
      new ≤ 3 →
      ∃ t, exec (.wmResolve i new) s = .next t ∧
        t.wmState i = new ∧
        t.flag (Reg.WM_STAT i) Fld.WM_STAT_RESOLVED_S = true ∧
        t.recs = s.recs) ∧
  (∀ (s : State) (i : Nat) (v : Word),
      s.bootFailed = false →
      hasWm s.fac.variant i = true →
      ∃ t, exec (.wmCfgWrite i true v) s = .next t ∧
        t.reg (Reg.WM_TH i) = judged (s.reg (Reg.WM_TH i)) 0xE3FF03FF (wmThReject (s.reg (Reg.WM_CFG i)) v) v ∧
        (wmThReject (s.reg (Reg.WM_CFG i)) v ≠ 0 → t.flag (Reg.WM_STAT i) Fld.WM_STAT_CFG_REJ = true)) ∧
  (∀ (s : State) (i : Nat) (v : Word),
      s.bootFailed = false →
      hasWm s.fac.variant i = true →
      ∃ t, exec (.wmCfgWrite i false v) s = .next t ∧
        t.reg (Reg.WM_CFG i) = judged (s.reg (Reg.WM_CFG i)) 0x000000FD (wmCfgReject (s.reg (Reg.WM_TH i)) v) v ∧
        (wmCfgReject (s.reg (Reg.WM_TH i)) v ≠ 0 → t.flag (Reg.WM_STAT i) Fld.WM_STAT_CFG_REJ = true) ∧
        (t.fld (Reg.WM_CFG i) Fld.WM_CFG_EN ≠ s.fld (Reg.WM_CFG i) Fld.WM_CFG_EN → t.wmState i = wmUnresolved)) ∧
  (∀ (s : State) (who : Reader) (i : Nat),
      s.bootFailed = false →
      hasWm s.fac.variant i = true →
      ∃ t, exec (.wmTimeLoRead who i) s = .next t ∧
        t.out = .regData who (Reg.WM_TIME_LO i) (s.readWmTimeLo who i).1 :: s.out) ∧
  (∀ (s : State) (who : Reader) (i : Nat),
      s.bootFailed = false →
      hasWm s.fac.variant i = true →
      ∃ t, exec (.wmTimeHiRead who i) s = .next t ∧
        t.out = .regData who (Reg.WM_TIME_HI i) (s.readWmTimeHi who i) :: s.out)

/-- For a hit comparator that the device has: a crossing of an enabled one, of a side it watches and outside its self-test, begins a
hit in IDLE or after the lockout, counts within a hit, and is counted apart after the hit's end and in its lockout; a hit ends
HDT after its last crossing, or is truncated HMAX after its first, once the samples of its time are there, into the lockout,
counted and recorded with the time of its first crossing; the lockout ends after HLT in IDLE. A baseline window of 8192 samples
starts the next one anew; a tainted one leaves B and sigma, any other moves sigma by an eighth of its distance to the rms, the
exact one or, where that is no whole number, one of the two next. Each clause gives the condition under which the command
completes with its own effect. Where the clauses rest on readings or choices of the model, these are log entries 34, 120. Rests
on 06_wideband_and_hits.md (R162, R163, R165). -/
def Obligations.HitComparators : Prop :=
  (∀ (s : State) (h : Nat) (x : Crossing),
      hasHc s.fac.variant h = true →
      s.flag (Reg.HC_CFG h) Fld.HC_CFG_EN = true →
      s.hcWatches h x.neg = true →
      (s.hcU h).test.running = false →
      s.fld (Reg.HC_STAT h) Fld.HC_STAT_STATE = 0 →
      ∃ t, exec (.hcCrossing h x) s = .next t ∧
        t.fld (Reg.HC_STAT h) Fld.HC_STAT_STATE = 1 ∧
        (t.hcU h).tFirst = s.hcTime h x.at_ false ∧
        (t.hcU h).tLast = s.hcTime h x.at_ false ∧
        (t.hcU h).count = 1) ∧
  (∀ (s : State) (h : Nat) (x : Crossing),
      hasHc s.fac.variant h = true →
      s.flag (Reg.HC_CFG h) Fld.HC_CFG_EN = true →
      s.hcWatches h x.neg = true →
      (s.hcU h).test.running = false →
      s.fld (Reg.HC_STAT h) Fld.HC_STAT_STATE = 1 →
      (s.hcTime h x.at_ false).toNat < (s.hitOver h).1 →
      ∃ t, exec (.hcCrossing h x) s = .next t ∧
        (t.hcU h).count = (s.hcU h).count + 1 ∧
        (t.hcU h).tLast = s.hcTime h x.at_ false ∧
        (t.hcU h).tFirst = (s.hcU h).tFirst) ∧
  (∀ (s : State) (h : Nat) (x : Crossing),
      hasHc s.fac.variant h = true →
      s.flag (Reg.HC_CFG h) Fld.HC_CFG_EN = true →
      s.hcWatches h x.neg = true →
      (s.hcU h).test.running = false →
      2 ≤ s.fld (Reg.HC_STAT h) Fld.HC_STAT_STATE →
      (s.hcTime h x.at_ false).toNat < (s.hcU h).endAt.toNat + s.hcHlt h →
      ∃ t, exec (.hcCrossing h x) s = .next t ∧
        t.fld (Reg.HC_LOCK_CNT h) Fld.HC_LOCK_CNT_COUNT =
        satInc (fieldWidth Fld.HC_LOCK_CNT_COUNT) (s.fld (Reg.HC_LOCK_CNT h) Fld.HC_LOCK_CNT_COUNT) ∧
        t.hcU h = s.hcU h) ∧
  (∀ (s : State) (h : Nat),
      hasHc s.fac.variant h = true →
      s.hitDue h ((s.hcU h).tLast.toNat + s.hcHdt h) = true →
      (s.hcU h).tLast.toNat + s.hcHdt h ≤ (s.hcU h).tFirst.toNat + s.hcHmax h →
      ∃ t, exec (.hit h) s = .next t ∧
        t.fld (Reg.HC_STAT h) Fld.HC_STAT_STATE = 2 ∧
        (t.hcU h).endAt = BitVec.ofNat 64 ((s.hcU h).tLast.toNat + s.hcHdt h) ∧
        t.fld (Reg.HC_HIT_CNT h) Fld.HC_HIT_CNT_COUNT = satInc (fieldWidth Fld.HC_HIT_CNT_COUNT) (s.fld (Reg.HC_HIT_CNT h) Fld.HC_HIT_CNT_COUNT) ∧
        (s.recsFull = false → ∃ r, t.recs = s.recs ++ [r] ∧ r.type = 0x0200 ∧ r.time = (s.hcU h).tFirst)) ∧
  (∀ (s : State) (h : Nat),
      hasHc s.fac.variant h = true →
      s.hitDue h ((s.hcU h).tFirst.toNat + s.hcHmax h) = true →
      (s.hcU h).tFirst.toNat + s.hcHmax h < (s.hcU h).tLast.toNat + s.hcHdt h →
      ∃ t, exec (.hitTruncated h) s = .next t ∧
        t.fld (Reg.HC_STAT h) Fld.HC_STAT_STATE = 2 ∧
        (t.hcU h).endAt = BitVec.ofNat 64 ((s.hcU h).tFirst.toNat + s.hcHmax h) ∧
        t.fld (Reg.HC_HIT_CNT h) Fld.HC_HIT_CNT_COUNT = satInc (fieldWidth Fld.HC_HIT_CNT_COUNT) (s.fld (Reg.HC_HIT_CNT h) Fld.HC_HIT_CNT_COUNT) ∧
        (s.recsFull = false → ∃ r, t.recs = s.recs ++ [r] ∧ r.type = 0x0200 ∧ r.time = (s.hcU h).tFirst)) ∧
  (∀ (s : State) (lock : TestDue),
      hasHc s.fac.variant lock.unit = true →
      s.fld (Reg.HC_STAT lock.unit) Fld.HC_STAT_STATE = 2 →
      (s.hcU lock.unit).endAt.toNat + s.hcHlt lock.unit ≤ (s.hcNow lock.unit).toNat →
      ∃ t, exec (.hcLockoutEnd lock) s = .next t ∧
        t.fld (Reg.HC_STAT lock.unit) Fld.HC_STAT_STATE = 0 ∧
        ((s.compTest (72 + lock.unit)).held = true → s.compEnabled (72 + lock.unit) = true → lock.deciding = false →
        (t.compTest (72 + lock.unit)).running = true)) ∧
  (∀ (s : State) (h : Nat),
      hasHc s.fac.variant h = true →
      s.flag (Reg.WCH_STAT h) Fld.WCH_STAT_RUNNING = true →
      8192 ≤ (s.hcU h).winN →
      ∃ t, exec (.baselineWindow h) s = .next t ∧
        (t.hcU h).winN = 0 ∧
        (t.hcU h).winSum = 0 ∧
        (t.hcU h).winSq = 0 ∧
        ((s.hcU h).taint = true → t.reg (Reg.HC_BASE h) = s.reg (Reg.HC_BASE h) ∧ (t.hcU h).sigma = (s.hcU h).sigma)) ∧
  (∀ (s : State) (h rms V : Nat),
      hasHc s.fac.variant h = true →
      s.flag (Reg.WCH_STAT h) Fld.WCH_STAT_RUNNING = true →
      8192 ≤ (s.hcU h).winN →
      (s.hcU h).taint = false →
      V = (s.hcU h).winN * (s.hcU h).winSq - ((s.hcU h).winSum * (s.hcU h).winSum).toNat →
      rms < 2 ^ 20 →
      rms ^ 2 * (s.hcU h).winN ^ 2 ≤ V →
      V < (rms + 1) ^ 2 * (s.hcU h).winN ^ 2 →
      ∃ t, exec (.baselineWindow h) s = .next t ∧
        ((t.hcU h).sigma = (s.hcU h).sigma + asr (rms - (s.hcU h).sigma) 3 ∨
        rms ^ 2 * (s.hcU h).winN ^ 2 ≠ V ∧ (t.hcU h).sigma = (s.hcU h).sigma + asr (rms + 1 - (s.hcU h).sigma) 3)) ∧
  (∀ (s : State) (h : Nat) (x : Crossing),
      hasHc s.fac.variant h = true →
      s.flag (Reg.HC_CFG h) Fld.HC_CFG_EN = true →
      s.hcWatches h x.neg = true →
      (s.hcU h).test.running = false →
      2 ≤ s.fld (Reg.HC_STAT h) Fld.HC_STAT_STATE →
      (s.hcU h).endAt.toNat + s.hcHlt h ≤ (s.hcTime h x.at_ false).toNat →
      ∃ t, exec (.hcCrossing h x) s = .next t ∧
        t.fld (Reg.HC_STAT h) Fld.HC_STAT_STATE = 1 ∧
        (t.hcU h).tFirst = s.hcTime h x.at_ false ∧
        (t.hcU h).tLast = s.hcTime h x.at_ false ∧
        (t.hcU h).count = 1) ∧
  (∀ (s : State) (h : Nat) (x : Crossing),
      hasHc s.fac.variant h = true →
      s.flag (Reg.HC_CFG h) Fld.HC_CFG_EN = true →
      s.hcWatches h x.neg = true →
      (s.hcU h).test.running = false →
      s.fld (Reg.HC_STAT h) Fld.HC_STAT_STATE = 1 →
      (s.hitOver h).1 ≤ (s.hcTime h x.at_ false).toNat →
      (s.hcTime h x.at_ false).toNat < (s.hitOver h).1 + s.hcHlt h →
      ∃ t, exec (.hcCrossing h x) s = .next t ∧
        t.fld (Reg.HC_LOCK_CNT h) Fld.HC_LOCK_CNT_COUNT =
        satInc (fieldWidth Fld.HC_LOCK_CNT_COUNT) (s.fld (Reg.HC_LOCK_CNT h) Fld.HC_LOCK_CNT_COUNT) ∧
        t.hcU h = s.hcU h)

/-- A test due of an enabled comparator runs where the comparator is idle and its output is not being decided, and is held
otherwise; its release ends it, counts failures in a row and sets ST_FAIL at the second, a difference that a window monitor
shows being taken one decision time later; a comparator without a test for 1 s shows UNTESTED. An edge of SYNC_IN that EDGE
names offers an event to a start unit with that source, and a scheduled time of PHASE and PER offers that time once; a start
unit takes up the oldest event offered: with a source and channels and not BUSY it is BUSY from DELAY on for LEN, while BUSY the
event is dropped and counted; its idle point ends BUSY. Each clause gives the condition under which the command completes with
its own effect. Where the clauses rest on readings or choices of the model, these are log entries 34, 71, 120, 122. Rests on
06_wideband_and_hits.md (R166, R167, R168, R169, R170). -/
def Obligations.ComparatorTestsAndStarts : Prop :=
  (∀ (s : State) (test : TestDue),
      test.unit < 80 →
      s.compEnabled test.unit = true →
      s.compIdle test.unit = true →
      test.deciding = false →
      (s.compTest test.unit).running = false →
      ((s.compTest test.unit).held = true ∨ (s.compTest test.unit).nextAt.all (fun a => decide (a.toNat ≤ s.time.toNat)) = true) →
      ∃ t, exec (.compSelfTest test) s = .next t ∧
        (t.compTest test.unit).running = true ∧
        (t.compTest test.unit).held = false ∧
        (t.compTest test.unit).nextAt = some (s.time + BitVec.ofNat 64 (msTime 250))) ∧
  (∀ (s : State) (test : TestDue),
      test.unit < 80 →
      s.compEnabled test.unit = true →
      (s.compIdle test.unit = false ∨ test.deciding = true) →
      (s.compTest test.unit).running = false →
      ((s.compTest test.unit).held = true ∨ (s.compTest test.unit).nextAt.all (fun a => decide (a.toNat ≤ s.time.toNat)) = true) →
      ∃ t, exec (.compSelfTest test) s = .next t ∧
        (t.compTest test.unit).running = false ∧
        (t.compTest test.unit).held = true) ∧
  (∀ (s : State) (u : Nat) (failed : Option Nat) (at_ : Time) (differs : Option Nat),
      u < 80 →
      (s.compTest u).running = true →
      (u < 72 → differs ≠ none → decisionTime (s.fld (Reg.WM_TH u) Fld.WM_TH_MODE) * 2 ^ 32 ≤ (s.time.toNat - at_.toNat) * 1000000000) →
      ∃ t, exec (.compTestRelease u failed at_ differs) s = .next t ∧
        (t.compTest u).running = false ∧
        ((t.compTest u).fails = if failed.isSome then (s.compTest u).fails + 1 else 0) ∧
        (t.compTest u).lastAt = s.time ∧
        (failed.isSome = true → 1 ≤ (s.compTest u).fails → (if u < 72 then t.flag (Reg.WM_STAT u) Fld.WM_STAT_ST_FAIL
        else t.flag (Reg.HC_STAT (u - 72)) Fld.HC_STAT_ST_FAIL) = true)) ∧
  (∀ (s : State) (u : Nat),
      u < 72 →
      s.compEnabled u = true →
      secTime 1 ≤ (s.time - (s.compTest u).since).toNat →
      ∃ t, exec (.compUntested u) s = .next t ∧
        t.flag (Reg.WM_STAT u) Fld.WM_STAT_UNTESTED = true) ∧
  (∀ (s : State) (u : Nat),
      72 ≤ u →
      u < 80 →
      s.compEnabled u = true →
      secTime 1 ≤ (s.time - (s.compTest u).since).toNat →
      ∃ t, exec (.compUntested u) s = .next t ∧
        t.flag (Reg.HC_STAT (u - 72)) Fld.HC_STAT_UNTESTED = true) ∧
  (∀ (s : State) (u : Time) (rising : Bool) (n : Nat),
      hasWch s.fac.variant n = true →
      n < 8 →
      (s.fld Reg.CMP_SYNC Fld.CMP_SYNC_EDGE = 2 ∨ s.fld Reg.CMP_SYNC Fld.CMP_SYNC_EDGE = if rising then 0 else 1) →
      s.fld (Reg.WCH_ST_CFG n) Fld.WCH_ST_CFG_SRC = 2 →
      s.fld (Reg.WCH_ST_CFG n) Fld.WCH_ST_CFG_CH_MASK ≠ 0 →
      ∃ t, exec (.syncInEdge u rising) s = .next t ∧
        (t.startU n).offers = (s.startU n).offers ++ [u]) ∧
  (∀ (s : State) (n : Nat) (j : Int),
      hasWch s.fac.variant n = true →
      s.reg (Reg.WCH_ST_PER n) ≠ 0 →
      s.fld (Reg.WCH_ST_CFG n) Fld.WCH_ST_CFG_SRC = 1 →
      j = periodIndex (s.reg (Reg.WCH_ST_PHASE n)).toNat (s.reg (Reg.WCH_ST_PER n)).toNat s.time →
      periodIndex (s.reg (Reg.WCH_ST_PHASE n)).toNat (s.reg (Reg.WCH_ST_PER n)).toNat (s.startU n).timerFrom < j →
      ∃ t, exec (.startScheduleTimer n) s = .next t ∧
        (t.startU n).offers = (s.startU n).offers ++ [BitVec.ofInt 64 (roundDiv
        (((s.reg (Reg.WCH_ST_PHASE n)).toNat + j * (s.reg (Reg.WCH_ST_PER n)).toNat) * 2 ^ 32) 1000)] ∧
        (t.startU n).timerFrom = s.time) ∧
  (∀ (s : State) (n : Nat) (u : Time) (rest : List Time),
      (s.startU n).offers = u :: rest →
      ∃ t, exec (.startFired n) s = .next t ∧
        (t.startU n).offers = rest) ∧
  (∀ (s : State) (n : Nat) (u : Time) (rest : List Time),
      hasWch s.fac.variant n = true →
      (s.startU n).offers = u :: rest →
      s.fld (Reg.WCH_ST_CFG n) Fld.WCH_ST_CFG_SRC ≠ 0 →
      s.fld (Reg.WCH_ST_CFG n) Fld.WCH_ST_CFG_CH_MASK ≠ 0 →
      (s.flag (Reg.WCH_ST_STAT n) Fld.WCH_ST_STAT_BUSY = false ∨ (s.startU n).until_.any (fun e => decide (e.toNat ≤ u.toNat)) = true) →
      ∃ t, exec (.startFired n) s = .next t ∧
        t.flag (Reg.WCH_ST_STAT n) Fld.WCH_ST_STAT_BUSY = true ∧
        (t.startU n).until_ = some (u + BitVec.ofInt 64 (roundDiv ((s.reg (Reg.WCH_ST_DELAY n)).toInt * 2 ^ 32) 8192000) +
        BitVec.ofNat 64 (s.fld (Reg.WCH_ST_LEN n) Fld.WCH_ST_LEN_LEN * 2 ^ 32 / 8192000))) ∧
  (∀ (s : State) (n : Nat) (u : Time) (rest : List Time),
      hasWch s.fac.variant n = true →
      (s.startU n).offers = u :: rest →
      s.fld (Reg.WCH_ST_CFG n) Fld.WCH_ST_CFG_SRC ≠ 0 →
      s.fld (Reg.WCH_ST_CFG n) Fld.WCH_ST_CFG_CH_MASK ≠ 0 →
      s.flag (Reg.WCH_ST_STAT n) Fld.WCH_ST_STAT_BUSY = true →
      ((s.startU n).until_.all (fun e => decide (u.toNat < e.toNat)) = true) →
      ∃ t, exec (.startFired n) s = .next t ∧
        t.fld (Reg.WCH_ST_STAT n) Fld.WCH_ST_STAT_DROP_CNT =
        satInc (fieldWidth Fld.WCH_ST_STAT_DROP_CNT) (s.fld (Reg.WCH_ST_STAT n) Fld.WCH_ST_STAT_DROP_CNT) ∧
        (t.startU n).until_ = (s.startU n).until_) ∧
  (∀ (s : State) (n : Nat),
      hasWch s.fac.variant n = true →
      s.flag (Reg.WCH_ST_STAT n) Fld.WCH_ST_STAT_BUSY = true →
      ((s.startU n).until_.all (fun e => decide (e.toNat ≤ s.time.toNat)) = true) →
      ∃ t, exec (.startUnitIdle n) s = .next t ∧
        t.flag (Reg.WCH_ST_STAT n) Fld.WCH_ST_STAT_BUSY = false ∧
        (t.startU n).until_ = none)

/-- A node whose inputs are there gets an invocation with its next number and its frames; a free cluster in service starts the first
startable invocation and is busy with it; the end of one frees the cluster and adds its cycles, and one beyond OVR_MULT times
its time plus 1024 cycles makes the cluster FAILED with cause 3. Past its deadline an invocation of a node without clusters, or
not started for want of energy, is replaced by a placeholder, the latter counted. PARAM_SET is decided with the status its
checks give, and where that is OK its word is in force. Each clause gives the condition under which the command completes with
its own effect. Where the clauses rest on readings or choices of the model, these are log entries 66, 67, 99. Rests on
07_analysis_engine.md (R180, R182, R183, R194); 08_spectral_products.md (R202, R205). -/
def Obligations.EngineInvocations : Prop :=
  (∀ (s : State) (src : CmdSrc) (tag node word : Nat) (mask value : Word),
      (s.paramStatus node word mask value).status = stOk →
      ∃ t, exec (.paramSet src tag node word mask value) s = .next t ∧
        (t.nodeU node).params = paramsWith (s.nodeU node).params word mask value ∧
        (t.nodeU node).pchange = true) ∧
  (∀ (s : State) (tag node word : Nat) (mask value : Word),
      s.takes opParamSet tag = true →
      ∃ t, exec (.paramSet .ring tag node word mask value) s = .next t ∧
        (∃ c, t.decided opParamSet tag c ∧ c.status = (s.paramStatus node word mask value).status ∧
        c.detail = (s.paramStatus node word mask value).detail)) ∧
  (∀ (s : State) (node : Nat) (d : NodeDef) (frames : List Frame) (x : NodeSt),
      s.nodeDef node = some d →
      (s.nodeU node).ready d = .yes frames x →
      ∃ t, exec (.nodeReady node) s = .next t ∧
        (t.nodeU node).nextNum = x.nextNum + 1 ∧
        (t.nodeU node).invs.length = x.invs.length + 1 ∧
        (∃ v ∈ (t.nodeU node).invs, v.num = x.nextNum ∧ v.ready = s.time ∧ v.frames = frames)) ∧
  (∀ (s : State) (c i : Nat) (d : NodeDef) (v : Inv),
      s.clInService c = true →
      s.clState c = clIdle →
      (s.cluU c).testDue = false →
      s.testOverdue c = false →
      s.pstate = 0 →
      s.flag Reg.PACER_STAT Fld.PACER_STAT_EMERG = false →
      firstBy runBefore (s.openInvs.filter (s.startable c)) = some (i, d, v) →
      ∃ t, exec (.invocationStart c) s = .next t ∧
        (t.cluU c).running = some (i, v.num) ∧
        t.clState c = clBusy) ∧
  (∀ (s : State) (c cycles i : Nat) (differs : Option Nat) (d : NodeDef) (v : Inv),
      hasCl s.fac.variant c = true →
      s.runningInv c = some (i, d, v) →
      cycles ≤ s.fld Reg.ENG_CFG Fld.ENG_CFG_OVR_MULT * v.cycles + 1024 →
      ∃ t, exec (.invocationDone c cycles differs) s = .next t ∧
        (t.cluU c).running = none ∧
        t.clState c = clIdle ∧
        t.reg (Reg.CL_CYC c) = s.reg (Reg.CL_CYC c) + BitVec.ofNat 32 cycles ∧
        (d.cls ≠ 1 → (t.nodeU i).invs.find? (fun w => w.num == v.num && w.outs.isNone && w.skip.isNone) = none)) ∧
  (∀ (s : State) (c cycles i : Nat) (differs : Option Nat) (d : NodeDef) (v : Inv),
      hasCl s.fac.variant c = true →
      s.clState c ≠ clFailed →
      s.runningInv c = some (i, d, v) →
      s.fld Reg.ENG_CFG Fld.ENG_CFG_OVR_MULT * v.cycles + 1024 < cycles →
      ∃ t, exec (.invocationDone c cycles differs) s = .next t ∧
        t.clState c = clFailed ∧
        t.fld (Reg.CL_STAT c) Fld.CL_STAT_CAUSE = 3 ∧
        (t.cluU c).running = none) ∧
  (∀ (s : State) (node num : Nat) (d : NodeDef) (v : Inv),
      s.nodeDef node = some d →
      ((s.nodeU node).invs.find? (fun v => v.num == num && v.outs.isNone && v.skip.isNone) = some v) →
      v.deadline.toNat ≤ s.time.toNat →
      (hasClusters d (s.nodeU node) = false ∨ s.flag Reg.PACER_STAT Fld.PACER_STAT_EMERG = true ∨ v.started = [] ∧ 2 ≤ d.cls ∧ v.admitted = false) →
      ∃ t, exec (.invocationDeadline node num) s = .next t ∧
        ((t.nodeU node).invs.find? (fun v => v.num == num && v.outs.isNone && v.skip.isNone) = none) ∧
        (hasClusters d (s.nodeU node) = true → s.flag Reg.PACER_STAT Fld.PACER_STAT_EMERG = false → v.lost = false → v.again = false →
        t.fld Reg.PACER_DEFER Fld.PACER_DEFER_BUDGET_PH =
          satInc (fieldWidth Fld.PACER_DEFER_BUDGET_PH) (s.fld Reg.PACER_DEFER Fld.PACER_DEFER_BUDGET_PH)))

/-- For a cluster that the device has: TEST makes a self-test due; a self-test that is due or enabled begins on an idle cluster in
service and lasts 12 µs; one that passes is recorded, one that fails makes the cluster FAILED with cause 1; OFFLINE in SERVICE
and a cluster fault make it FAILED with their cause, the fault showing in ENG_STAT and ending what ran; the end of the re-
placement shows its duration. Each clause gives the condition under which the command completes with its own effect. Where the
clauses rest on readings or choices of the model, these are log entries 67, 121, 138. Rests on 07_analysis_engine.md (R191,
R192, R193, R194). -/
def Obligations.EngineClusters : Prop :=
  (∀ (s : State) (c : Nat),
      s.bootFailed = false →
      hasCl s.fac.variant c = true →
      s.clState c ≠ clFailed →
      ∃ t, exec (.clCtrlTest c) s = .next t ∧
        (t.cluU c).testDue = true) ∧
  (∀ (s : State) (c : Nat) (pass : Bool),
      s.clInService c = true →
      s.clState c = clIdle →
      (s.flag Reg.ENG_CFG Fld.ENG_CFG_STEST_EN = true ∨ (s.cluU c).testDue = true) →
      ∃ t, exec (.clusterSelfTest c pass) s = .next t ∧
        t.clState c = clTest ∧
        (t.cluU c).since = s.time) ∧
  (∀ (s : State) (c : Nat),
      s.clInService c = true →
      s.clState c = clTest →
      usTime 12 ≤ (s.time - (s.cluU c).since).toNat →
      ∃ t, exec (.clusterSelfTest c true) s = .next t ∧
        t.clState c = clIdle ∧
        (t.cluU c).testDue = false ∧
        (t.cluU c).tested = s.time ∧
        t.flag (Reg.CL_STAT c) Fld.CL_STAT_ST_DONE = true ∧
        t.flag (Reg.CL_STAT c) Fld.CL_STAT_ST_FAIL = false) ∧
  (∀ (s : State) (c : Nat),
      s.clInService c = true →
      s.clState c = clTest →
      usTime 12 ≤ (s.time - (s.cluU c).since).toNat →
      ∃ t, exec (.clusterSelfTest c false) s = .next t ∧
        t.clState c = clFailed ∧
        t.fld (Reg.CL_STAT c) Fld.CL_STAT_CAUSE = 1 ∧
        t.flag (Reg.CL_STAT c) Fld.CL_STAT_ST_FAIL = true) ∧
  (∀ (s : State) (c : Nat),
      s.bootFailed = false →
      hasCl s.fac.variant c = true →
      s.clState c ≠ clFailed →
      s.inService = true →
      ∃ t, exec (.clCtrlOffline c) s = .next t ∧
        t.clState c = clFailed ∧
        t.fld (Reg.CL_STAT c) Fld.CL_STAT_CAUSE = 4) ∧
  (∀ (s : State) (c cause : Nat),
      hasCl s.fac.variant c = true →
      s.clState c ≠ clFailed →
      s.faultSeen c cause = true →
      ∃ t, exec (.clusterFault c cause) s = .next t ∧
        t.clState c = clFailed ∧
        t.fld (Reg.CL_STAT c) Fld.CL_STAT_CAUSE = cause % 2 ^ fieldWidth Fld.CL_STAT_CAUSE ∧
        t.regBit Reg.ENG_STAT (20 + c) = true ∧
        (t.cluU c).running = none) ∧
  (∀ (s : State) (c duration : Nat),
      hasCl s.fac.variant c = true →
      (s.cluU c).replacing = true →
      1000 ≤ duration →
      duration ≤ 30000 →
      ∃ t, exec (.clusterReplaced c duration) s = .next t ∧
        t.reg Reg.ENG_REPL_T = BitVec.ofNat 32 duration ∧
        (t.cluU c).replacing = false)

/-- STREAM_OPEN whose status is OK opens its stream with the parameters given; every STREAM_OPEN and CAPTURE of this device's ring
is decided with the status its checks give; STREAM_CLOSE closes an open stream, and frees at once one that stays in DRAM; of an
open or closing one it is OK, of a number beyond 1023 INVALID. CAPTURE whose status is OK gives its lowest free SIDs to the
capture with its destination. Each clause gives the condition under which the command completes with its own effect. Where the
clauses rest on readings or choices of the model, these are log entries 14. Rests on 09_streams_history.md (R235, R236, R258). -/
def Obligations.StreamCommands : Prop :=
  (∀ (s : State) (src : CmdSrc) (tag : Nat) (p : OpenParams),
      (s.openStatus p).status = stOk →
      ∃ t, exec (.streamOpen src tag p) s = .next t ∧
        (t.streamU p.sid).st = 1 ∧
        (t.streamU p.sid).srck = p.srck ∧
        (t.streamU p.sid).src = p.src ∧
        (t.streamU p.sid).dest = p.dest) ∧
  (∀ (s : State) (tag : Nat) (p : OpenParams),
      s.takes opStreamOpen tag = true →
      ∃ t, exec (.streamOpen .ring tag p) s = .next t ∧
        (∃ c, t.decided opStreamOpen tag c ∧ c.status = (s.openStatus p).status)) ∧
  (∀ (s : State) (src : CmdSrc) (tag sid : Nat),
      sid < 1024 →
      bitAt streamMask s.curMode = true →
      (s.streamU sid).st = 1 →
      ∃ t, exec (.streamClose src tag sid) s = .next t ∧
        (t.streamU sid).st ≠ 1 ∧
        ((s.streamU sid).dest = 0 → (t.streamU sid).st = 0)) ∧
  (∀ (s : State) (tag sid : Nat),
      sid < 1024 →
      bitAt streamMask s.curMode = true →
      ((s.streamU sid).st = 1 ∨ (s.streamU sid).st = 3) →
      s.takes opStreamClose tag = true →
      ∃ t, exec (.streamClose .ring tag sid) s = .next t ∧
        t.decided opStreamClose tag { status := stOk, time := s.time }) ∧
  (∀ (s : State) (tag sid : Nat),
      1024 ≤ sid →
      s.takes opStreamClose tag = true →
      ∃ t, exec (.streamClose .ring tag sid) s = .next t ∧
        t.decided opStreamClose tag { status := stInvalid, detail := 2, time := s.time }) ∧
  (∀ (s : State) (tag : Nat) (p : CaptureParams),
      s.takes opCapture tag = true →
      ∃ t, exec (.capture .ring tag p) s = .next t ∧
        (∃ c, t.decided opCapture tag c ∧ c.status = (s.captureStatus p (p.durUs * 2 ^ 32 / 1000000) false).1.status)) ∧
  (∀ (s : State) (src : CmdSrc) (tag : Nat) (p : CaptureParams),
      (s.captureStatus p (p.durUs * 2 ^ 32 / 1000000) false).1.status = stOk →
      ∃ t, exec (.capture src tag p) s = .next t ∧
        (∀ g ∈ s.freeCaptureSids.take p.sources.length, (t.streamU g).st ≠ 1 ∧ ((t.streamU g).st ≠ 0 → (t.streamU g).dest = p.dest)))

/-- A request for cells of a host ring that is new, or follows a block complete with LAST, waits with its origin, SID, BSEQ and cell
count; a grant makes the origin send; a cell of a granted block is kept, and the last one of the block completes it; an
acknowledgment ends the transfer; a transfer sent without one is sent again where it is due, after a reroute or a lost link; the
acknowledgment of an EVENT ends what waits for it. Each clause gives the condition under which the command completes with its
own effect. Where the clauses rest on readings or choices of the model, these are log entries 16, 34, 123. Rests on
09_streams_history.md (R252, R255). -/
def Obligations.StreamPackets : Prop :=
  (∀ (s : State) (pk : Packet),
      hasHost s.fac.variant = true →
      s.repeats (s.ringU pk.ring) pk = false →
      ((s.ringU pk.ring).reqs.find? (fun q => q.origin == pk.src && q.sid == pk.sid && q.bseq == pk.bseq && q.cells == pk.cidx + 2) = none) →
      ∃ t, exec (.streamReqRx pk) s = .next t ∧
        (∃ q ∈ (t.ringU pk.ring).reqs, q.origin = pk.src ∧ q.sid = pk.sid ∧ q.bseq = pk.bseq ∧ q.cells = pk.cidx + 2)) ∧
  (∀ (s : State) (pk : Packet) (x : Tx),
      (s.streamU pk.sid).tx = some x →
      x.phase = .asked →
      x.blk.bseq = pk.bseq →
      (s.streamU pk.sid).dev = pk.src →
      (s.streamU pk.sid).dest = 2 →
      ∃ t, exec (.streamGrantRx pk) s = .next t ∧
        (t.streamU pk.sid).tx = some { x with phase := .sent, since := s.time }) ∧
  (∀ (s : State) (pk : Packet) (q : RingReq),
      s.hostUp = true →
      ((s.ringU pk.ring).reqs.find? (fun z => z.origin == pk.src && z.sid == pk.sid && z.bseq == pk.bseq && z.granted) = some q) →
      (∀ k, k < q.cells → k ∈ q.got ∨ pk.cidx ≤ k ∧ k < pk.cidx + pk.payload.length) →
      ∃ t, exec (.streamDataRx pk) s = .next t ∧
        (t.ringU pk.ring).completed pk = true) ∧
  (∀ (s : State) (pk : Packet) (q : RingReq),
      s.hostUp = true →
      ((s.ringU pk.ring).reqs.find? (fun z => z.origin == pk.src && z.sid == pk.sid && z.bseq == pk.bseq && z.granted) = some q) →
      (¬(∀ k, k < q.cells → k ∈ q.got ∨ pk.cidx ≤ k ∧ k < pk.cidx + pk.payload.length)) →
      ∃ t, exec (.streamDataRx pk) s = .next t ∧
        (∃ e ∈ (t.ringU pk.ring).reqs, e.origin = pk.src ∧ e.sid = pk.sid ∧ e.bseq = pk.bseq ∧
        ∀ k, k < pk.payload.length → pk.cidx + k ∈ e.got)) ∧
  (∀ (s : State) (pk : Packet) (x : Tx),
      (s.streamU pk.sid).dest = 2 →
      (s.streamU pk.sid).dev = pk.src →
      (s.streamU pk.sid).tx = some x →
      x.blk.bseq = pk.bseq →
      ∃ t, exec (.streamAckRx pk) s = .next t ∧
        (t.streamU pk.sid).tx = none) ∧
  (∀ (s : State) (sid : Nat) (x : Tx),
      (s.streamU sid).tx = some x →
      s.resendDue x = true →
      (s.streamU sid).dest = 2 →
      ∃ t, exec (.streamResend sid) s = .next t ∧
        (t.streamU sid).tx = some { x with since := s.time, rerouted := false, linkLost := none }) ∧
  (∀ (s : State) (origin tag : Nat),
      ∃ t, exec (.eventAckRx origin tag) s = .next t ∧
        (t.host.unacked = s.host.unacked.filter (fun p => p.1 != tag)))

/-- Where the device has a host interface: HR_CFG takes every field but the rejected ones, and while the ring is enabled EN and
HOLD_T alone; enabling it starts it empty; a TAIL outside the ring, or that frees cells not written, sets TAIL_ERR and moves
nothing, any other is taken; the next block ready that fits is written, once no record and no descriptor waits and the ring's
channel has the turn, and is counted and ends its own stall; one that has waited longer than HOLD_T shows STALL, in STR_STAT
too, and writes HOST_RING_STALL. Each clause gives the condition under which the command completes with its own effect. Where
the clauses rest on readings or choices of the model, these are log entries 34, 54, 129, 135. Rests on 09_streams_history.md
(R249, R250, R251). -/
def Obligations.HostRings : Prop :=
  (∀ (s : State) (r : Nat) (v : Word),
      s.bootFailed = false →
      hasHost s.fac.variant = true →
      r < 32 →
      ∃ t, exec (.hrCfgEnable r v) s = .next t ∧
        (t.reg (Reg.HR_CFG r) = judged (s.reg (Reg.HR_CFG r)) 0x870FFFFF
        (hrCfgReject v ||| if s.flag (Reg.HR_CFG r) Fld.HR_CFG_EN then 0x070F000F else 0) v) ∧
        (s.flag (Reg.HR_CFG r) Fld.HR_CFG_EN = false → t.flag (Reg.HR_CFG r) Fld.HR_CFG_EN = true → t.reg (Reg.HR_TAIL r) = 0)) ∧
  (∀ (s : State) (r v : Nat),
      s.bootFailed = false →
      hasHost s.fac.variant = true →
      r < 32 →
      (s.ringCells r ≤ v ∨ s.ringWritten r < s.freedCells r v) →
      ∃ t, exec (.hrTailWrite r v) s = .next t ∧
        t.flag (Reg.HR_STAT r) Fld.HR_STAT_TAIL_ERR = true ∧
        t.reg (Reg.HR_TAIL r) = s.reg (Reg.HR_TAIL r) ∧
        t.ringU r = s.ringU r) ∧
  (∀ (s : State) (r v : Nat),
      s.bootFailed = false →
      hasHost s.fac.variant = true →
      r < 32 →
      v < s.ringCells r →
      s.freedCells r v ≤ s.ringWritten r →
      ∃ t, exec (.hrTailWrite r v) s = .next t ∧
        t.fld (Reg.HR_TAIL r) Fld.HR_TAIL_TAIL = v % 2 ^ fieldWidth Fld.HR_TAIL_TAIL ∧
        t.fld (Reg.HR_STAT r) Fld.HR_STAT_TAIL_ERR = s.fld (Reg.HR_STAT r) Fld.HR_STAT_TAIL_ERR) ∧
  (∀ (s : State) (r sid : Nat) (x : Stream) (b : Tx),
      s.blockFor r = some (sid, x, b) →
      s.recordReady = false →
      s.fetchReady = false →
      (s.dmaNext dmaFuel s.host.dma).ch = s.dmaOf r →
      ∃ t, exec (.hostRingBlockWrite r) s = .next t ∧
        t.fld (Reg.HR_BLOCKS r) Fld.HR_BLOCKS_BLOCKS =
        satInc (fieldWidth Fld.HR_BLOCKS_BLOCKS) (s.fld (Reg.HR_BLOCKS r) Fld.HR_BLOCKS_BLOCKS) ∧
        ((s.ringU r).stalled = some (none, sid, b.blk.bseq) → t.flag (Reg.HR_STAT r) Fld.HR_STAT_STALL = false) ∧
        (∃ cells, .hostCells r cells ∈ t.out)) ∧
  (∀ (s : State) (r : Nat) (b : Option Nat × Nat × Nat) (since : Time),
      r < 32 →
      hasHost s.fac.variant = true →
      s.flag (Reg.HR_CFG r) Fld.HR_CFG_EN = true →
      s.flag (Reg.HR_STAT r) Fld.HR_STAT_STALL = false →
      s.ringWaits r = some (b, since) →
      msTime (s.fld (Reg.HR_CFG r) Fld.HR_CFG_HOLD_T) < (s.time - since).toNat →
      ∃ t, exec (.hostRingStall r) s = .next t ∧
        t.flag (Reg.HR_STAT r) Fld.HR_STAT_STALL = true ∧
        t.flag Reg.STR_STAT Fld.STR_STAT_STALL_S = true ∧
        (s.recsFull = false → t.recs = s.recs ++ [mkRec 0x0362 0 s.time [r, b.2.1, s.ringFree r]]))

/-- AGE_MS closes the block in progress, which a held capture keeps with its BSEQ; with DRAM awake, the history's gate open for a
W-channel and no held segment in the way, BLOCK_WRITE moves the oldest closed block out of staging and, where the stream is
open, advances the next BSEQ by the numbers it takes; in VIGIL, FLUSH_BURST does so for every closed block of every stream that
is no capture and leaves DEEP; once staging has room a discarded run ends in its placeholder; BLOCK_SEND, after its index entry
is read with the error told, makes the next readable block ready with its bytes, and a ready one for another device asks for
cells once no fault of it is untold. Each clause gives the condition under which the command completes with its own effect.
Where the clauses rest on readings or choices of the model, these are log entries 9, 10, 16, 19, 104, 105, 130. Rests on
09_streams_history.md (R237, R240, R244, R245, R246). -/
def Obligations.StreamBlocks : Prop :=
  (∀ (s : State) (sid : Nat) (b : Block),
      (s.streamU sid).st ≠ 0 →
      (s.streamU sid).opn = some b →
      msTime (s.streamU sid).ageMs ≤ (s.time - b.since).toNat →
      ∃ t, exec (.ageMsExpiry sid) s = .next t ∧
        (t.streamU sid).opn = none ∧
        ((s.streamU sid).st ≠ 3 → (t.streamU sid).closed = (s.streamU sid).closed ++ [b]) ∧
        ((s.streamU sid).st = 3 → (t.streamU sid).held = (s.streamU sid).held ++ [{ b with bseq := (s.streamU sid).next }])) ∧
  (∀ (s : State) (sid : Nat) (b : Block) (rest : List Block),
      (s.streamU sid).closed = b :: rest →
      (∀ p ∈ s.streams, p.1 = sid → p.2.cap = none) →
      ((s.streamU sid).st = 1 ∨ (s.streamU sid).st = 2) →
      s.dramAwake = true →
      ¬(s.curMode = modeVigil ∧ (s.streamU sid).srck ≤ 2) →
      ((s.streamU sid).srck = 3 → s.gateOpen 15 = true) →
      (s.clearWay sid b.total).wayHeld sid b.total = false →
      ∃ t, exec (.blockWrite sid) s = .next t ∧
        (t.streamU sid).closed = rest ∧
        ((s.streamU sid).st = 1 → (t.streamU sid).next = ((s.streamU sid).next + b.nseq) % 2 ^ 32)) ∧
  (∀ (s : State) (sid : Nat) (g : Gone),
      (s.streamU sid).skip = some g →
      s.stageRoom 1 = true →
      ∃ t, exec (.stagingFull sid) s = .next t ∧
        (t.streamU sid).skip = none) ∧
  (∀ (s : State) (sid : Nat),
      s.curMode = modeVigil →
      s.runBurst.dramAwake = true →
      sid ∈ s.sids →
      (∀ p ∈ s.streams, p.2.cap = none) →
      (s.streamU sid).st ≠ 0 →
      (s.streamU sid).st ≠ 3 →
      ∃ t, exec (.flushBurst) s = .next t ∧
        (t.streamU sid).closed = [] ∧
        t.pstate ≠ 2) ∧
  (∀ (s : State) (sid : Nat) (head : List Nat) (index : Option Bool) (data : List (Nat × Nat)) (b : Block × List Nat),
      (s.streamU sid).st ≠ 0 →
      (s.streamU sid).dest ≠ 0 →
      (s.streamU sid).tx = none →
      s.dramAwake = true →
      ((s.readIndex sid index).readNext sid ((s.readIndex sid index).sendFlips sid head data)).1 = some b →
      ∃ t, exec (.blockSend sid head index data) s = .next t ∧
        (∃ x, (t.streamU sid).tx = some x ∧ x.blk = b.1 ∧ x.raw = b.2)) ∧
  (∀ (s : State) (sid : Nat) (head : List Nat) (index : Option Bool) (data : List (Nat × Nat)) (x : Tx),
      (s.streamU sid).st ≠ 0 →
      (s.streamU sid).dest = 2 →
      (s.streamU sid).tx = some x →
      x.phase = .ready →
      (x.blk.affected && s.faultUntold) = false →
      ∃ t, exec (.blockSend sid head index data) s = .next t ∧
        (t.streamU sid).tx = some { x with phase := .asked, since := s.time, bound := true })

/-- Requests enter the queue, and a channel that serves takes the one whose turn it is; a refresh is postponed only while an urgent
request waits and PP_MAX allows, else issued to the next of the 16 banks, and with no urgent request the postponed ones are
issued together; a temperature read, 16 ms after the last one, is shown with the multiplier of R275; a window start, 32 ms after
the last one, clears the counts of the channels in operation. Each clause gives the condition under which the command completes
with its own effect. Where the clauses rest on readings or choices of the model, these are log entries 34, 124. Rests on
10_dram.md (R272, R275, R276, R277). -/
def Obligations.DramQueue : Prop :=
  (∀ (s : State) (ch : Nat) (loads stores : List (Nat × Nat)),
      ch < 2 →
      ((s.enterRequests (dramArrivals loads stores)).serves ch = false ∨ (s.enterRequests (dramArrivals loads stores)).refreshForced ch = false ∧ (s.enterRequests (dramArrivals loads stores)).nextRequest ch = none) →
      ∃ t, exec (.dramRequest ch loads stores) s = .next t ∧
        t.drc.queue = (s.enterRequests (dramArrivals loads stores)).drc.queue) ∧
  (∀ (s : State) (ch : Nat) (loads stores : List (Nat × Nat)) (r : DramReq),
      ch < 2 →
      (s.enterRequests (dramArrivals loads stores)).serves ch = true →
      (s.enterRequests (dramArrivals loads stores)).refreshForced ch = false →
      (s.enterRequests (dramArrivals loads stores)).nextRequest ch = some r →
      ∃ t, exec (.dramRequest ch loads stores) s = .next t ∧
        t.drc.queue = (s.enterRequests (dramArrivals loads stores)).drc.queue.erase r) ∧
  (∀ (s : State) (ch : Nat),
      ch < 2 →
      (s.chanU ch).selfRef = false →
      s.drc.change = none →
      s.urgentOn ch = true →
      s.refreshTime ≤ (s.time - (s.chanU ch).refAt).toNat →
      (s.chanU ch).postponed < s.fld Reg.DRC_REF Fld.DRC_REF_PP_MAX →
      ∃ t, exec (.refreshDue ch) s = .next t ∧
        (t.chanU ch).postponed = (s.chanU ch).postponed + 1 ∧
        (t.chanU ch).refAt = s.time) ∧
  (∀ (s : State) (ch : Nat),
      ch < 2 →
      (s.chanU ch).selfRef = false →
      s.drc.change = none →
      s.refreshTime ≤ (s.time - (s.chanU ch).refAt).toNat →
      (s.urgentOn ch = false ∨ s.fld Reg.DRC_REF Fld.DRC_REF_PP_MAX ≤ (s.chanU ch).postponed) →
      ∃ t, exec (.refreshDue ch) s = .next t ∧
        (t.chanU ch).postponed = (s.chanU ch).postponed ∧
        (t.chanU ch).refAt = s.time ∧
        t.out = .dramRefresh ch ((s.chanU ch).nextBank % 16) [] :: s.out ∧
        (t.chanU ch).nextBank = ((s.chanU ch).nextBank % 16 + 1) % 16) ∧
  (∀ (s : State) (ch : Nat),
      ch < 2 →
      (s.chanU ch).postponed ≠ 0 →
      s.urgentOn ch = false →
      ∃ t, exec (.refreshCatchup ch) s = .next t ∧
        (t.chanU ch).postponed = 0) ∧
  (∀ (s : State) (temp : BitVec 16),
      (s.drc.tempAt.all (fun u => decide (msTime 16 ≤ (s.time - u).toNat)) = true) →
      ∃ t, exec (.dramTempRead temp) s = .next t ∧
        t.fld Reg.DRC_TEMP Fld.DRC_TEMP_T_NOW = temp.toNat ∧
        (t.fld Reg.DRC_REF Fld.DRC_REF_MULT = if 24320 < temp.toInt then 2 else if 21760 < temp.toInt then 1 else 0)) ∧
  (∀ (s : State) (ch : Nat),
      ch < 2 →
      msTime 32 ≤ (s.time - s.drc.windowAt).toNat →
      ∃ t, exec (.refreshWindowStart) s = .next t ∧
        (t.chanU ch = if (s.chanU ch).selfRef then s.chanU ch else (s.chanU ch).newWindow) ∧
        t.drc.windowAt = s.time)

/-- A channel without a waiting request for 64 of its clocks, outside DEEP, goes to power-down; in DEEP, with nothing queued,
postponed, training or changing, both channels enter self-refresh and SR shows it; 20 µs later without a request the M-PLL
stops; a request, or another power state, ends self-refresh of both channels after its least time and runs the M-PLL. Each
clause gives the condition under which the command completes with its own effect. Where the clauses rest on readings or choices
of the model, these are log entries 34, 69, 125. Rests on 10_dram.md (R279, R280, R282). -/
def Obligations.DramPower : Prop :=
  (∀ (s : State) (ch : Nat),
      ch < 2 →
      s.waitingOn ch = [] →
      s.serves ch = true →
      s.pstate ≠ 2 →
      s.idleClocks ≤ (s.time - (s.chanU ch).idleAt).toNat →
      ∃ t, exec (.powerDownEntry ch) s = .next t ∧
        (t.chanU ch).down = true) ∧
  (∀ (s : State),
      s.pstate = 2 →
      s.drc.queue = [] →
      s.drcQuiet = true →
      s.opBusy = false →
      (s.chanU 0).postponed = 0 →
      (s.chanU 1).postponed = 0 →
      ∃ t, exec (.selfRefreshEntry) s = .next t ∧
        (t.chanU 0).selfRef = true ∧
        (t.chanU 1).selfRef = true ∧
        t.fld Reg.DRC_STAT Fld.DRC_STAT_SR = 3) ∧
  (∀ (s : State),
      (s.chanU 0).selfRef = true →
      s.drc.queue = [] →
      (s.drc.srAt.any (fun u => decide (usTime 20 ≤ (s.time - u).toNat)) = true) →
      ∃ t, exec (.mpllStop) s = .next t ∧
        t.drc.mpllOff = true ∧
        t.flag Reg.CLK_STAT Fld.CLK_STAT_M_LOCK = false) ∧
  (∀ (s : State),
      (s.chanU 0).selfRef = true →
      (s.drc.queue ≠ [] ∨ s.pstate ≠ 2) →
      s.srResident = true →
      ∃ t, exec (.selfRefreshExit) s = .next t ∧
        (t.chanU 0).selfRef = false ∧
        (t.chanU 1).selfRef = false ∧
        t.drc.mpllOff = false ∧
        t.flag Reg.CLK_STAT Fld.CLK_STAT_M_LOCK = true)

/-- A quiet controller begins the check of a channel 1 s after its last, and its full training where the temperature has moved, the
other channel after it; a training that ends within the margins clears the channel's failures; one that does not is repeated
once, and the second time counts a failure and sets TRAIN_FAIL_S, the third failure making the cause of SAFE active. DRC_CFG and
a port's latency target take every field but the rejected ones, a rejected one setting CFG_REJ; a change of the operating point
that nothing holds up begins at once with FREQ_BUSY, one that is held up is pending with its point; its end, with a hold within
R284's bounds that has passed, shows the new point in use. Each clause gives the condition under which the command completes
with its own effect. Where the clauses rest on readings or choices of the model, these are log entries 69, 125. Rests on
10_dram.md (R269, R270, R282, R283, R284). -/
def Obligations.DramTrainingAndPoints : Prop :=
  (∀ (s : State) (ch : Nat),
      ch < 2 →
      s.drcQuiet = true →
      s.drc.toTrain = [] →
      secTime 1 ≤ (s.time - (s.chanU ch).lastCheck).toNat →
      ∃ t, exec (.periodicTraining ch) s = .next t ∧
        (t.chanU ch).training = .check ∧
        (t.chanU ch).trainAt = s.time) ∧
  (∀ (s : State) (ch : Nat),
      ch < 2 →
      s.drcQuiet = true →
      s.fullDue s.opNow = true →
      ∃ t, exec (.fullTraining ch) s = .next t ∧
        (t.chanU ch).training = .full ∧
        t.drc.toTrain = [(1 - ch, .full)]) ∧
  (∀ (s : State) (ch : Nat),
      ch < 2 →
      (s.chanU ch).training ≠ .none →
      (s.chanU ch).training.hold ≤ (s.time - (s.chanU ch).trainAt).toNat →
      ∃ t, exec (.trainingDone ch true) s = .next t ∧
        (t.chanU ch).fails = 0 ∧
        ((s.chanU ch).training = .check → (t.chanU ch).lastCheck = s.time)) ∧
  (∀ (s : State) (ch : Nat),
      ch < 2 →
      (s.chanU ch).training ≠ .none →
      (s.chanU ch).training.hold ≤ (s.time - (s.chanU ch).trainAt).toNat →
      (s.chanU ch).again = false →
      ∃ t, exec (.trainingDone ch false) s = .next t ∧
        (t.chanU ch).again = true ∧
        (t.chanU ch).fails = (s.chanU ch).fails ∧
        (t.chanU ch).training = (s.chanU ch).training) ∧
  (∀ (s : State) (ch : Nat),
      ch < 2 →
      (s.chanU ch).training ≠ .none →
      (s.chanU ch).training.hold ≤ (s.time - (s.chanU ch).trainAt).toNat →
      (s.chanU ch).again = true →
      ∃ t, exec (.trainingDone ch false) s = .next t ∧
        (t.chanU ch).fails = (s.chanU ch).fails + 1 ∧
        t.flag Reg.DRC_STAT Fld.DRC_STAT_TRAIN_FAIL_S = true ∧
        (2 ≤ (s.chanU ch).fails → t.causeActive 10 = true)) ∧
  (∀ (s : State) (v : Word),
      s.bootFailed = false →
      ∃ t, exec (.drcCfgWrite v) s = .next t ∧
        t.reg Reg.DRC_CFG = judged (s.reg Reg.DRC_CFG) 0x333 (drcCfgReject v) v ∧
        (drcCfgReject v ≠ 0 → t.flag Reg.DRC_STAT Fld.DRC_STAT_CFG_REJ = true)) ∧
  (∀ (s : State) (p : Nat) (v : Word),
      s.bootFailed = false →
      p < 6 →
      ∃ t, exec (.drcPortTgtWrite p v) s = .next t ∧
        t.reg (Reg.DRC_PORT_TGT p) = judged (s.reg (Reg.DRC_PORT_TGT p)) 0xFFFF (drcTgtReject v) v ∧
        (drcTgtReject v ≠ 0 → t.flag Reg.DRC_STAT Fld.DRC_STAT_CFG_REJ = true)) ∧
  (∀ (s : State),
      s.flag Reg.DRC_STAT Fld.DRC_STAT_PEND_V = true →
      s.opBusy = false →
      (s.chanU 0).selfRef = false →
      s.fld Reg.DRC_STAT Fld.DRC_STAT_OP_PEND ≠ s.opNow →
      ∃ t, exec (.opPointChange) s = .next t ∧
        t.drc.change = some (s.opNow, s.fld Reg.DRC_STAT Fld.DRC_STAT_OP_PEND) ∧
        t.flag Reg.DRC_STAT Fld.DRC_STAT_FREQ_BUSY = true ∧
        t.flag Reg.DRC_STAT Fld.DRC_STAT_PEND_V = false) ∧
  (∀ (s : State),
      s.flag Reg.DRC_STAT Fld.DRC_STAT_PEND_V = false →
      s.drc.change = none →
      (s.opBusy = true ∨ (s.chanU 0).selfRef = true) →
      s.pointOf s.curMode ≠ s.opNow →
      ∃ t, exec (.opPointChange) s = .next t ∧
        t.flag Reg.DRC_STAT Fld.DRC_STAT_PEND_V = true ∧
        t.fld Reg.DRC_STAT Fld.DRC_STAT_OP_PEND = s.pointOf s.curMode % 2 ^ fieldWidth Fld.DRC_STAT_OP_PEND ∧
        t.drc.change = none) ∧
  (∀ (s : State),
      s.flag Reg.DRC_STAT Fld.DRC_STAT_PEND_V = false →
      s.opBusy = false →
      (s.chanU 0).selfRef = false →
      s.pointOf s.curMode ≠ s.opNow →
      ∃ t, exec (.opPointChange) s = .next t ∧
        t.drc.change = some (s.opNow, s.pointOf s.curMode) ∧
        t.flag Reg.DRC_STAT Fld.DRC_STAT_FREQ_BUSY = true) ∧
  (∀ (s : State) (end_ : ChangeEnd) (old op : Nat),
      s.drc.change = some (old, op) →
      s.flag Reg.DRC_STAT Fld.DRC_STAT_PEND_V = false →
      (changeBounds (s.fullDue op)).1 ≤ end_.holding →
      end_.holding ≤ (changeBounds (s.fullDue op)).2 →
      end_.holding * 2 ^ 32 ≤ (s.time - s.drc.changeAt).toNat * 100000000 →
      ∃ t, exec (.drcFreqDone end_) s = .next t ∧
        t.drc.change = none ∧
        t.fld Reg.DRC_STAT Fld.DRC_STAT_OP_NOW = op % 2 ^ fieldWidth Fld.DRC_STAT_OP_NOW ∧
        t.flag Reg.DRC_STAT Fld.DRC_STAT_FREQ_BUSY = false ∧
        (∀ ch, ch < 2 → (t.chanU ch).fails = if end_.failed.contains ch then (s.chanU ch).fails + 1 else 0))

/-- A full-cell write of a cell that is not remapped, and for which no error injection is armed, stores the data, the attributes of
its port and clean or poisoned check bits; every other cell stays as it was. A read leaves in its cell what was there with the
bits that flip; a write-back stores the corrected cell and its log entry waits for the check. A narrow write changes at most the
cell of the entry it displaces and its own; a flush of an entry that is 1 µs old removes it, counts the read-modify-write and
stores the merged nibbles in a clean cell; a scrub read advances the position. Each changes no other cell. A narrow write that
does not fill a cell without an entry leaves one with its nibbles, at most eight in all where there were at most eight; one to a
cell with an entry adds its nibbles to the entry's. Each clause gives the condition under which the command completes with its
own effect. Where the clauses rest on readings or choices of the model, these are log entries 4, 70. Rests on
11_stored_data_protection.md (R289, R290, R291, R292, R296, R302). -/
def Obligations.DramCellsAndMerging : Prop :=
  (∀ (s : State) (port cell data attr : Nat) (poison : Bool),
      cell < dramCells s.fac.variant →
      ∃ t, exec (.fullCellWrite port cell data attr poison) s = .next t ∧
        (s.spareOf cell = none → s.flag Reg.ECC_INJ Fld.ECC_INJ_ARMED = false →
        t.cellAt cell = mkCell (data % 2 ^ 240 + (if port ≤ 2 then attr % 64 else 0) * 2 ^ 240) poison) ∧
        (∀ a, a ≠ cell → t.cellAt a = s.cellAt a)) ∧
  (∀ (s : State) (port cell : Nat) (flips : List Nat),
      cell < dramCells s.fac.variant →
      ∃ t, exec (.dramCellRead port cell flips) s = .next t ∧
        (∀ a, a ≠ cell → t.cellAt a = s.cellAt a) ∧
        (s.spareOf cell = none → (∀ e ∈ s.ecc.merge, e.cell ≠ cell) → t.cellAt cell = flips.foldl (fun c p => c.flip p) (s.cellAt cell))) ∧
  (∀ (s : State) (cell : Nat),
      ∃ t, exec (.eccWriteback cell) s = .next t ∧
        (∀ a, a ≠ cell → t.cellAt a = s.cellAt a)) ∧
  (∀ (s : State) (cell i prot : Nat) (e : LogEntry),
      s.logOf cell = some (i, e) →
      e.back = some prot →
      s.spareOf cell = none →
      s.flag Reg.ECC_INJ Fld.ECC_INJ_ARMED = false →
      ∃ t, exec (.eccWriteback cell) s = .next t ∧
        t.cellAt cell = mkCell prot false ∧
        (∃ x, some x ∈ t.ecc.log ∧ x.cell = e.cell ∧ x.state = 1 ∧ x.back = none)) ∧
  (∀ (s : State) (port cell data mask : Nat),
      cell < dramCells s.fac.variant →
      ∃ t, exec (.narrowWrite port cell data mask) s = .next t ∧
        (∀ a, a ≠ cell → (∀ e, s.ecc.merge.head? = some e → e.cell ≠ a) → t.cellAt a = s.cellAt a)) ∧
  (∀ (s : State) (cell : Nat) (flips : List Nat),
      ∃ t, exec (.mergeFlush cell flips) s = .next t ∧
        (∀ a, a ≠ cell → t.cellAt a = s.cellAt a)) ∧
  (∀ (s : State) (cell : Nat) (flips : List Nat),
      (∃ e ∈ s.ecc.merge, e.cell = cell ∧ usTime 1 ≤ (s.time - e.at_).toNat) →
      ∃ t, exec (.mergeFlush cell flips) s = .next t ∧
        (∀ e ∈ t.ecc.merge, e.cell ≠ cell) ∧
        t.fld Reg.ECC_RMW_CNT Fld.ECC_RMW_CNT_RMW =
        satInc (fieldWidth Fld.ECC_RMW_CNT_RMW) (s.fld Reg.ECC_RMW_CNT Fld.ECC_RMW_CNT_RMW)) ∧
  (∀ (s : State) (cell : Nat) (e : MergeEntry),
      (s.ecc.merge.find? (fun x => x.cell == cell) = some e) →
      usTime 1 ≤ (s.time - e.at_).toNat →
      s.logOf cell = none →
      s.spareOf cell = none →
      s.flag Reg.ECC_INJ Fld.ECC_INJ_ARMED = false →
      (s.cellAt cell).syndrome = 0 →
      ∃ t, exec (.mergeFlush cell []) s = .next t ∧
        t.cellAt cell = mkCell ((s.cellAt cell).prot / 2 ^ 240 * 2 ^ 240 + mergeNibbles ((s.cellAt cell).prot % 2 ^ 240) e.data e.mask) false) ∧
  (∀ (s : State) (flips : List Nat) (cell : Nat),
      s.fld Reg.ECC_SCRUB_POS Fld.ECC_SCRUB_POS_CELL = cell →
      s.scrubFree (cellChan cell) = true →
      s.scrubVigil = true →
      ∃ t, exec (.scrubRead flips) s = .next t ∧
        (∀ a, a ≠ cell → t.cellAt a = s.cellAt a) ∧
        t.fld Reg.ECC_SCRUB_POS Fld.ECC_SCRUB_POS_CELL =
        (cell + 1) % dramCells s.fac.variant % 2 ^ fieldWidth Fld.ECC_SCRUB_POS_CELL) ∧
  (∀ (s : State) (port cell data mask : Nat),
      cell < dramCells s.fac.variant →
      (s.ecc.merge.find? (fun e => e.cell == cell) = none) →
      mask % 2 ^ 60 ≠ allNibbles →
      ∃ t, exec (.narrowWrite port cell data mask) s = .next t ∧
        (∃ e ∈ t.ecc.merge, e.cell = cell ∧ e.mask = mask % 2 ^ 60 ∧ e.port = port) ∧
        (s.ecc.merge.length ≤ 8 → t.ecc.merge.length ≤ 8)) ∧
  (∀ (s : State) (port cell data mask : Nat) (m : MergeEntry),
      cell < dramCells s.fac.variant →
      (s.ecc.merge.find? (fun e => e.cell == cell) = some m) →
      m.mask ||| mask % 2 ^ 60 ≠ allNibbles →
      ∃ t, exec (.narrowWrite port cell data mask) s = .next t ∧
        (∃ x ∈ t.ecc.merge, x.cell = cell ∧ x.mask = m.mask ||| mask % 2 ^ 60))

/-- A lap's end counts it and starts the lap's counts anew; a word of SRAM with a single error is counted, with a double one counted
and reported, active as the cause of SAFE in the management region, and poison in the calibration entry or the word of the remap
entry it belongs to; clearing the log keeps the WEAK entries alone; SEL latches that entry for its reader; a MODE of the
injection is refused outside SERVICE with CFG_REJ, and ARMED shows whether one is set. Each clause gives the condition under
which the command completes with its own effect. Where the clauses rest on readings or choices of the model, these are log
entries 19, 37, 70, 106. Rests on 11_stored_data_protection.md (R294, R295, R302, R304, R305, R308, R309). -/
def Obligations.EccCommands : Prop :=
  (∀ (s : State),
      s.ecc.lapped = true →
      ∃ t, exec (.eccScrubLapDone) s = .next t ∧
        t.fld Reg.ECC_SCRUB_LAP Fld.ECC_SCRUB_LAP_LAPS =
        (s.fld Reg.ECC_SCRUB_LAP Fld.ECC_SCRUB_LAP_LAPS + 1) % 2 ^ fieldWidth Fld.ECC_SCRUB_LAP_LAPS ∧
        t.ecc.lapCorr = 0 ∧
        t.ecc.lapUnc = 0 ∧
        t.ecc.lapPoi = 0 ∧
        t.ecc.lapStart = s.time) ∧
  (∀ (s : State) (region addr : Nat),
      region < 5 →
      ∃ t, exec (.sramRead region addr false) s = .next t ∧
        t.fld (Reg.ECC_SRAM_CE region) Fld.ECC_SRAM_CE_CE =
        satInc (fieldWidth Fld.ECC_SRAM_CE_CE) (s.fld (Reg.ECC_SRAM_CE region) Fld.ECC_SRAM_CE_CE)) ∧
  (∀ (s : State) (region addr : Nat),
      region < 5 →
      ∃ t, exec (.sramRead region addr true) s = .next t ∧
        t.fld (Reg.ECC_SRAM_CE region) Fld.ECC_SRAM_CE_UE =
        satInc (fieldWidth Fld.ECC_SRAM_CE_UE) (s.fld (Reg.ECC_SRAM_CE region) Fld.ECC_SRAM_CE_UE) ∧
        t.flag Reg.ECC_STAT Fld.ECC_STAT_SRAM_UE_S = true ∧
        (region = 2 → t.causeActive 6 = true) ∧
        (region = 3 → calPresent s.fac.variant addr = true → addr < 560 → (t.calE addr).poison = true) ∧
        (region = 4 → ∀ x, t.ecc.remap.getD (addr / 7) none = some x → x.words[addr % 7]?.all (fun w => w.2) = true)) ∧
  (∀ (s : State),
      s.bootFailed = false →
      ∃ t, exec (.eccLogClr) s = .next t ∧
        (∀ x, some x ∈ t.ecc.log ↔ some x ∈ s.ecc.log ∧ x.state = 3)) ∧
  (∀ (s : State) (who : Reader) (i : Nat),
      s.bootFailed = false →
      ∃ t, exec (.eccLogSel who i) s = .next t ∧
        t.latched Reg.ECC_LOG_CTRL who = some (i % 16 :: logWords (s.ecc.log.getD (i % 16) none))) ∧
  (∀ (s : State) (v : Word),
      s.bootFailed = false →
      ∃ t, exec (.eccInjArm v) s = .next t ∧
        (s.inService = true → (s.spareOf (s.fld Reg.ECC_INJ_ADDR Fld.ECC_INJ_ADDR_CELL)).isNone = true →
        t.fld Reg.ECC_INJ Fld.ECC_INJ_MODE = getField Fld.ECC_INJ_MODE v) ∧
        (s.inService = false → getField Fld.ECC_INJ_MODE v ≠ 0 → t.fld Reg.ECC_INJ Fld.ECC_INJ_MODE = s.fld Reg.ECC_INJ Fld.ECC_INJ_MODE ∧
        t.flag Reg.ECC_STAT Fld.ECC_STAT_CFG_REJ = true) ∧
        t.flag Reg.ECC_INJ Fld.ECC_INJ_ARMED = decide (t.fld Reg.ECC_INJ Fld.ECC_INJ_MODE ≠ 0))

/-- MODE_SET of BOOT, SAFE or a reserved code and SAFE_EXIT of a mode other than VIGIL and SURVEY complete as INVALID; during a
change either waits behind the commands that wait already. MODE_SET in a mode that accepts it, with no change in progress and no
refusal of BURST, begins the change, BURST and VIGIL by way of SURVEY; of the present mode it is OK; in another mode it is
refused by STATE with the modes that accept it. SAFE_EXIT in SAFE with no cause active begins the change and is OK; with a cause
it is REFUSED, outside SAFE refused by STATE. The mode timer's interval begins and ends with its period set; in VIGIL with AUTO,
a gate that passes and no trigger it begins the change to SURVEY, during a change it waits. The first cause that persists at the
gate passes once the gate does, and begins the change to SURVEY, on to BURST for a BURST cause; a BURST that is refused is
denied with DENIED_S and dropped. Causes that no longer persist no longer wait. Each clause gives the condition under which the
command completes with its own effect. Where the clauses rest on readings or choices of the model, these are log entries 34, 52.
Rests on 12_modes_clocks_pacer.md (R312, R316, R317, R338). -/
def Obligations.ModeCommandsAndWakes : Prop :=
  (∀ (s : State) (tag target : Nat),
      s.takes opModeSet tag = true →
      (target = 0 ∨ 4 < target) →
      ∃ t, exec (.modeSet .ring tag target) s = .next t ∧
        t.decided opModeSet tag { status := stInvalid, detail := 2, time := s.time }) ∧
  (∀ (s : State) (src : CmdSrc) (tag target : Nat),
      1 ≤ target →
      target ≤ 4 →
      s.changing = true →
      ∃ t, exec (.modeSet src tag target) s = .next t ∧
        t.mode.waitCmd = s.mode.waitCmd ++ [(src, tag, target, false)]) ∧
  (∀ (s : State) (src : CmdSrc) (tag target : Nat),
      1 ≤ target →
      target ≤ 4 →
      s.changing = false →
      bitAt (modeSetMask target) s.curMode = true →
      target ≠ s.curMode →
      (target = modeBurst → s.burstRefusal = 0) →
      ∃ t, exec (.modeSet src tag target) s = .next t ∧
        t.mode.phase = .waiting ∧
        t.flag Reg.MODE_STAT Fld.MODE_STAT_BUSY = true ∧
        t.mode.cmd = some (src, tag) ∧
        (¬(s.curMode = modeBurst ∧ target = modeVigil ∨ s.curMode = modeVigil ∧ target = modeBurst) →
        t.fld Reg.MODE_STAT Fld.MODE_STAT_TARGET = target ∧ t.mode.next = none) ∧
        (s.curMode = modeBurst ∧ target = modeVigil ∨ s.curMode = modeVigil ∧ target = modeBurst →
        t.fld Reg.MODE_STAT Fld.MODE_STAT_TARGET = modeSurvey ∧ t.mode.next = some target)) ∧
  (∀ (s : State) (tag target : Nat),
      s.takes opModeSet tag = true →
      1 ≤ target →
      target ≤ 4 →
      s.changing = false →
      bitAt (modeSetMask target) s.curMode = true →
      target = s.curMode →
      ∃ t, exec (.modeSet .ring tag target) s = .next t ∧
        t.decided opModeSet tag { status := stOk, result := [(target : Int)], time := s.time } ∧
        t.mode = s.mode) ∧
  (∀ (s : State) (tag target : Nat),
      s.takes opModeSet tag = true →
      1 ≤ target →
      target ≤ 4 →
      s.changing = false →
      bitAt (modeSetMask target) s.curMode = false →
      ∃ t, exec (.modeSet .ring tag target) s = .next t ∧
        t.decided opModeSet tag { status := stState, detail := s.curMode, result := [(modeSetMask target : Int)], time := s.time } ∧
        t.mode = s.mode) ∧
  (∀ (s : State) (tag target : Nat),
      s.takes opSafeExit tag = true →
      target ≠ 1 →
      target ≠ 2 →
      ∃ t, exec (.safeExit .ring tag target) s = .next t ∧
        t.decided opSafeExit tag { status := stInvalid, detail := 2, time := s.time }) ∧
  (∀ (s : State) (src : CmdSrc) (tag target : Nat),
      (target = 1 ∨ target = 2) →
      s.changing = true →
      ∃ t, exec (.safeExit src tag target) s = .next t ∧
        t.mode.waitCmd = s.mode.waitCmd ++ [(src, tag, target, true)]) ∧
  (∀ (s : State) (src : CmdSrc) (tag target : Nat),
      (target = 1 ∨ target = 2) →
      s.changing = false →
      s.curMode = modeSafe →
      s.reg Reg.SAF_CAUSE = 0 →
      ∃ t, exec (.safeExit src tag target) s = .next t ∧
        t.mode.phase = .waiting ∧
        t.fld Reg.MODE_STAT Fld.MODE_STAT_TARGET = target ∧
        t.flag Reg.MODE_STAT Fld.MODE_STAT_BUSY = true ∧
        (src = .ring → s.takes opSafeExit tag = true →
        t.decided opSafeExit tag { status := stOk, result := [(target : Int)], time := s.time })) ∧
  (∀ (s : State) (tag target : Nat),
      s.takes opSafeExit tag = true →
      (target = 1 ∨ target = 2) →
      s.changing = false →
      s.curMode = modeSafe →
      s.reg Reg.SAF_CAUSE ≠ 0 →
      ∃ t, exec (.safeExit .ring tag target) s = .next t ∧
        t.decided opSafeExit tag { status := stRefused, detail := 9, result := [(modeSafe : Int)], time := s.time } ∧
        t.mode = s.mode) ∧
  (∀ (s : State) (tag target : Nat),
      s.takes opSafeExit tag = true →
      (target = 1 ∨ target = 2) →
      s.changing = false →
      s.curMode ≠ modeSafe →
      ∃ t, exec (.safeExit .ring tag target) s = .next t ∧
        t.decided opSafeExit tag { status := stState, detail := s.curMode, result := [(0x20 : Int)], time := s.time } ∧
        t.mode = s.mode) ∧
  (∀ (s : State),
      s.inTimerOn = true →
      s.mode.timerOn = false →
      ∃ t, exec (.modeTimerOn) s = .next t ∧
        t.mode.timerOn = true ∧
        (s.changing = true → t.mode.waitTimer = true)) ∧
  (∀ (s : State),
      s.inTimerOn = true →
      s.mode.timerOn = false →
      s.changing = false →
      s.autoOk = true →
      s.curMode = modeVigil →
      s.gatePasses = true →
      s.triggers = [] →
      ∃ t, exec (.modeTimerOn) s = .next t ∧
        t.fld Reg.MODE_STAT Fld.MODE_STAT_TARGET = modeSurvey ∧
        t.flag Reg.MODE_STAT Fld.MODE_STAT_BUSY = true ∧
        t.mode.phase = .waiting) ∧
  (∀ (s : State),
      s.inTimerOn = false →
      s.mode.timerOn = true →
      ∃ t, exec (.modeTimerOnEnd) s = .next t ∧
        t.mode.timerOn = false ∧
        t.mode.waitTimer = false ∧
        GateCause.timer ∉ t.mode.gate) ∧
  (∀ (s : State) (c : GateCause),
      firstCause (s.mode.gate.filter s.persists) = some c →
      s.changing = false →
      s.autoOk = true →
      s.curMode = modeVigil →
      s.gatePasses = true →
      (c.target = modeBurst → s.burstRefusal = 0) →
      ∃ t, exec (.wakeGatePass) s = .next t ∧
        t.fld Reg.MODE_STAT Fld.MODE_STAT_TARGET = modeSurvey ∧
        t.flag Reg.MODE_STAT Fld.MODE_STAT_BUSY = true ∧
        t.mode.phase = .waiting ∧
        (t.mode.gate = s.mode.gate.filter (fun g => g != c)) ∧
        (t.mode.next = if c.target = modeBurst then some modeBurst else none)) ∧
  (∀ (s : State) (c : GateCause),
      firstCause (s.mode.gate.filter s.persists) = some c →
      s.changing = false →
      s.autoOk = true →
      s.curMode = modeVigil →
      s.gatePasses = true →
      c.target = modeBurst →
      s.burstRefusal ≠ 0 →
      ∃ t, exec (.wakeGatePass) s = .next t ∧
        t.flag Reg.PACER_STAT Fld.PACER_STAT_DENIED_S = true ∧
        t.mode.phase = .none ∧
        c ∉ t.mode.gate) ∧
  (∀ (s : State),
      ∃ t, exec (.wakeCauseDropped) s = .next t ∧
        t.mode.gate = s.mode.gate.filter s.persists ∧
        t.regs = s.regs)

/-- At its instant, a base-sample boundary, a change makes the target the mode, the old mode PREV and starts its entry actions; its
end counts it, and with nothing waiting ends BUSY; the first of two changes is followed by the second; idle expiry in SURVEY
with AUTO begins the change to VIGIL, hold expiry in BURST that to SURVEY. Each clause gives the condition under which the
command completes with its own effect. Where the clauses rest on readings or choices of the model, these are log entries 55, 56.
Rests on 12_modes_clocks_pacer.md (R312, R313, R314). -/
def Obligations.ModeChanges : Prop :=
  (∀ (s : State),
      s.mode.phase = .waiting →
      s.atBoundary = true →
      ∃ t, exec (.modeChangeInstant) s = .next t ∧
        t.curMode = s.fld Reg.MODE_STAT Fld.MODE_STAT_TARGET ∧
        t.fld Reg.MODE_STAT Fld.MODE_STAT_PREV = s.curMode ∧
        t.mode.instant = s.time) ∧
  (∀ (s : State),
      s.mode.phase = .acting →
      s.mode.next = none →
      s.mode.waitCmd = [] →
      s.mode.waitBurst = none →
      s.burstWaiting = none →
      s.mode.waitWake = none →
      s.mode.waitTimer = false →
      s.mode.waitPacer = false →
      ∃ t, exec (.modeChange) s = .next t ∧
        t.mode.phase = .none ∧
        t.flag Reg.MODE_STAT Fld.MODE_STAT_BUSY = false ∧
        t.fld Reg.MODE_CNT word32 = satInc 32 (s.fld Reg.MODE_CNT word32)) ∧
  (∀ (s : State),
      s.mode.phase = .acting →
      s.mode.next = none →
      ∃ t, exec (.modeChange) s = .next t ∧
        t.fld Reg.MODE_CNT word32 = satInc 32 (s.fld Reg.MODE_CNT word32) ∧
        t.curMode = s.curMode) ∧
  (∀ (s : State) (n : Nat),
      s.mode.phase = .acting →
      s.mode.next = some n →
      ∃ t, exec (.modeChange) s = .next t ∧
        t.mode.phase = .waiting ∧
        t.fld Reg.MODE_STAT Fld.MODE_STAT_TARGET = n % 2 ^ fieldWidth Fld.MODE_STAT_TARGET ∧
        t.mode.next = none) ∧
  (∀ (s : State),
      s.curMode = modeSurvey →
      s.changing = false →
      s.autoOk = true →
      s.mode.timerOn = false →
      s.idlePassed = true →
      ∃ t, exec (.surveyIdleExpiry) s = .next t ∧
        t.fld Reg.MODE_STAT Fld.MODE_STAT_TARGET = modeVigil ∧
        t.flag Reg.MODE_STAT Fld.MODE_STAT_BUSY = true ∧
        t.mode.phase = .waiting) ∧
  (∀ (s : State),
      s.curMode = modeBurst →
      s.changing = false →
      s.autoOk = true →
      s.holdPassed = true →
      ∃ t, exec (.burstHoldExpiry) s = .next t ∧
        t.fld Reg.MODE_STAT Fld.MODE_STAT_TARGET = modeSurvey ∧
        t.flag Reg.MODE_STAT Fld.MODE_STAT_BUSY = true ∧
        t.mode.phase = .waiting)

/-- SURVEY and SAFE with nothing to run and 10 µs since the last invocation and the last host DMA transfer enter SLEEP; VIGIL enters
DEEP where nothing forbids it and no failed entry waits, and tries that again 1 ms after the failure; a RUN burst with a reason
enters RUN. A gate whose close has waited too long is counted and no longer being closed, the power state staying; one of an
entry into DEEP stays open, the device falling back to SLEEP. An access to a gated block opens its gate, and in DEEP ends DEEP
and is counted. Each clause gives the condition under which the command completes with its own effect. Where the clauses rest on
readings or choices of the model, these are log entries 58, 128, 129. Rests on 12_modes_clocks_pacer.md (R318, R319, R320, R321,
R322). -/
def Obligations.PowerStates : Prop :=
  (∀ (s : State),
      (s.curMode = modeSurvey ∨ s.curMode = modeSafe) →
      s.pstate = 0 →
      s.changing = false →
      s.openInvs = [] →
      usTime 10 ≤ (s.time - s.eng.ended).toNat →
      usTime 10 ≤ (s.time - s.host.dmaAt).toNat →
      ∃ t, exec (.powerStateSleep) s = .next t ∧
        t.pstate = 1) ∧
  (∀ (s : State),
      s.deepOk = true →
      s.clk.deepRetry = none →
      ∃ t, exec (.deepEntry) s = .next t ∧
        t.pstate = 2 ∧
        t.flag Reg.CLK_STAT Fld.CLK_STAT_F_LOCK = false) ∧
  (∀ (s : State) (u : Time),
      s.clk.deepRetry = some u →
      msTime 1 ≤ (s.time - u).toNat →
      ∃ t, exec (.deepEntryRetry) s = .next t ∧
        t.clk.deepRetry = none ∧
        (s.deepOk = true → t.pstate = 2 ∧ t.flag Reg.CLK_STAT Fld.CLK_STAT_F_LOCK = false)) ∧
  (∀ (s : State),
      s.pstate ≠ 3 →
      s.burstReason = true →
      ∃ t, exec (.runBurstStart) s = .next t ∧
        t.pstate = 0) ∧
  (∀ (s : State) (g : Nat),
      g < 16 →
      (s.deepCloses g = true ∨ s.closeWaited g = true) →
      ∃ t, exec (.gateTimeout g) s = .next t ∧
        t.fld Reg.CLK_GATE_TO Fld.CLK_GATE_TO_LAST = g ∧
        t.fld Reg.CLK_GATE_TO Fld.CLK_GATE_TO_COUNT =
        satInc (fieldWidth Fld.CLK_GATE_TO_COUNT) (s.fld Reg.CLK_GATE_TO Fld.CLK_GATE_TO_COUNT) ∧
        (∀ q ∈ t.clk.closing, q.1 ≠ g) ∧
        (s.deepCloses g = true → t.pstate = 1 ∧ t.gateOpen g = true ∧ t.clk.deepRetry = some s.time) ∧
        (s.deepCloses g = false → t.pstate = s.pstate ∧ t.regBit Reg.CLK_GATE_OPEN g = s.regBit Reg.CLK_GATE_OPEN g)) ∧
  (∀ (s : State) (g : Nat),
      g < 16 →
      s.gateOpen g = false →
      ∃ t, exec (.gatedAccess g) s = .next t ∧
        (s.pstate = 2 → t.pstate = 0 ∧ t.gateOpen g = true ∧ t.fld Reg.CLK_WAKE_ACC word32 = satInc 32 (s.fld Reg.CLK_WAKE_ACC word32)) ∧
        (s.pstate ≠ 2 → t.gateOpen g = true))

/-- An evaluation adds each domain's energy to its counter and shows the temperature; a window begins with nothing used, its
predecessor's unspent budget in the pool up to the pool's limit; an empty pool in BURST is reported, and the mode falls to
SURVEY. The temperature at CEIL sets its bit and 5 °C below clears it; at EMERG it sets that bit and makes the cause of SAFE
active; 5 °C below, both end. Each clause gives the condition under which the command completes with its own effect. Where the
clauses rest on readings or choices of the model, these are log entries 11, 68. Rests on 12_modes_clocks_pacer.md (R331, R332,
R333, R334, R335); 16_safety.md (R428). -/
def Obligations.PacerAndThermalLimits : Prop :=
  (∀ (s : State) (energy : List Nat) (tj : BitVec 16),
      ∃ t, exec (.pacerEvaluate energy tj) s = .next t ∧
        (∀ n, n < 6 → t.reg (Reg.PACER_E n) = s.reg (Reg.PACER_E n) + BitVec.ofNat 32 (energy.getD n 0)) ∧
        t.fld Reg.PACER_STAT Fld.PACER_STAT_TJ = tj.toNat ∧
        t.pacer.lastEval = s.time) ∧
  (∀ (s : State),
      ¬(s.windowBegin ≤ s.pacer.windowStart.toNat ∧ s.pacer.windowStart.toNat ≤ s.time.toNat) →
      ∃ t, exec (.pacerWindowStart) s = .next t ∧
        t.pacer.windowStart = BitVec.ofNat 64 s.windowBegin ∧
        t.pacer.used = 0 ∧
        t.pacer.total = 0 ∧
        t.pacer.overWritten = false ∧
        t.pacer.pool = max s.pacer.pool (min s.poolMax (s.pacer.pool + (s.pacer.budget - s.pacer.used).toNat))) ∧
  (∀ (s : State),
      s.curMode = modeBurst →
      s.pacer.pool = 0 →
      s.pacer.exhausted = false →
      s.changing = false →
      ∃ t, exec (.burstExhausted) s = .next t ∧
        t.flag Reg.PACER_STAT Fld.PACER_STAT_EXH_S = true ∧
        t.fld Reg.MODE_STAT Fld.MODE_STAT_TARGET = modeSurvey ∧
        t.mode.phase = .waiting) ∧
  (∀ (s : State) (tj : BitVec 16),
      s.flag Reg.PACER_STAT Fld.PACER_STAT_CEIL = false →
      (256 * s.fld Reg.PACER_THERM Fld.PACER_THERM_CEIL : Int) ≤ tj.toInt →
      ∃ t, exec (.thermalCeil tj) s = .next t ∧
        t.flag Reg.PACER_STAT Fld.PACER_STAT_CEIL = true) ∧
  (∀ (s : State) (tj : BitVec 16),
      s.flag Reg.PACER_STAT Fld.PACER_STAT_CEIL = true →
      tj.toInt ≤ 256 * ((s.fld Reg.PACER_THERM Fld.PACER_THERM_CEIL : Int) - 5) →
      ∃ t, exec (.thermalCeil tj) s = .next t ∧
        t.flag Reg.PACER_STAT Fld.PACER_STAT_CEIL = false) ∧
  (∀ (s : State) (tj : BitVec 16),
      s.flag Reg.PACER_STAT Fld.PACER_STAT_EMERG = false →
      (256 * s.fld Reg.PACER_THERM Fld.PACER_THERM_EMERG : Int) ≤ tj.toInt →
      ∃ t, exec (.thermalEmergency tj) s = .next t ∧
        t.flag Reg.PACER_STAT Fld.PACER_STAT_EMERG = true ∧
        t.causeActive 4 = true) ∧
  (∀ (s : State) (tj : BitVec 16),
      s.flag Reg.PACER_STAT Fld.PACER_STAT_EMERG = true →
      tj.toInt ≤ 256 * ((s.fld Reg.PACER_THERM Fld.PACER_THERM_EMERG : Int) - 5) →
      ∃ t, exec (.thermalEmergencyEnd tj) s = .next t ∧
        t.flag Reg.PACER_STAT Fld.PACER_STAT_EMERG = false ∧
        t.causeActive 4 = false)

/-- The loss of the source begins holdover and ends its readiness; once locked to a candidate, holdover ends; the detector drives
SAFE_N low, and the first clock after it makes the cause of SAFE active; a candidate shows whether it is READY; a source write
takes AUTO, refuses a source that is not READY and begins the switch to one that is; a switch ends with ST 0, and sets SWITCH_S
where the source has changed. Each clause gives the condition under which the command completes with its own effect. Where the
clauses rest on readings or choices of the model, these are log entries 60, 127. Rests on 12_modes_clocks_pacer.md (R324, R325,
R326, R327). -/
def Obligations.Clocks : Prop :=
  (∀ (s : State),
      ∃ t, exec (.clkSourceLoss) s = .next t ∧
        t.flag Reg.CLK_STAT Fld.CLK_STAT_HOLDOVER = true ∧
        t.regBit Reg.CLK_READY s.clkSel = false) ∧
  (∀ (s : State),
      s.flag Reg.CLK_STAT Fld.CLK_STAT_HOLDOVER = true →
      (s.clk.switching.isSome = true ∨ s.clkSel ≠ s.clk.lostSrc ∨ s.isReady s.clkSel = true) →
      ∃ t, exec (.clkHoldoverEnd) s = .next t ∧
        t.flag Reg.CLK_STAT Fld.CLK_STAT_HOLDOVER = false ∧
        t.flag Reg.CLK_STAT Fld.CLK_STAT_T_LOCK = true) ∧
  (∀ (s : State),
      ∃ t, exec (.clkMissing) s = .next t ∧
        t.flag Reg.CLK_STAT Fld.CLK_STAT_MCD = true ∧
        t.clk.mcdFired = true ∧
        t.smon.safeNLow = true) ∧
  (∀ (s : State),
      s.clk.mcdFired = true →
      ∃ t, exec (.clkReturn) s = .next t ∧
        t.clk.mcdFired = false ∧
        t.causeActive 1 = true) ∧
  (∀ (s : State) (c : Nat) (ready : Bool),
      c < 5 →
      ∃ t, exec (.candidateReadyChange c ready) s = .next t ∧
        (t.regBit Reg.CLK_READY c = (ready && if c = 0 then s.host.pcieEver else s.advReady (c - 1)))) ∧
  (∀ (s : State) (v : Word),
      s.bootFailed = false →
      ∃ t, exec (.clkSrcWrite v) s = .next t ∧
        t.fld Reg.CLK_SRC Fld.CLK_SRC_AUTO = getField Fld.CLK_SRC_AUTO v ∧
        (s.isReady (getField Fld.CLK_SRC_SEL v) = false → t.flag Reg.CLK_STAT Fld.CLK_STAT_REFUSED_S = true) ∧
        (s.isReady (getField Fld.CLK_SRC_SEL v) = true → getField Fld.CLK_SRC_SEL v ≠ s.clkSel → t.clkSel = getField Fld.CLK_SRC_SEL v ∧
        t.fld Reg.CLK_SRC Fld.CLK_SRC_ST = 2 ∧ t.clk.switching = some (getField Fld.CLK_SRC_SEL v))) ∧
  (∀ (s : State) (c : Nat),
      s.clk.swDue = true →
      s.clk.switching = some c →
      s.fld Reg.CLK_SRC Fld.CLK_SRC_ST = 2 →
      ∃ t, exec (.clkSwitch) s = .next t ∧
        t.fld Reg.CLK_SRC Fld.CLK_SRC_ST = 0 ∧
        t.clk.switching = none ∧
        t.clk.swDue = false ∧
        (c ≠ s.clk.oldSrc → t.flag Reg.CLK_STAT Fld.CLK_STAT_SWITCH_S = true))

/-- Outside reset, and not before its detection time, a rail or the reference outside its window shows in SAF_SUP and makes its
cause of SAFE active; a lockstep mismatch drives SAFE_N low with the SMON cause and asserts every alarm output; a ball that
reads back otherwise than driven makes OUTPUT active and asserts the other outputs; a cause whose condition has ended is
dropped; a monitor's change shows in SAF_SUP. Each clause gives the condition under which the command completes with its own
effect. Where the clauses rest on readings or choices of the model, these are log entries 34, 64. Rests on 16_safety.md (R425,
R428, R430, R431). -/
def Obligations.SafetyTrips : Prop :=
  (∀ (s : State) (rail mv : Nat),
      rail < 9 →
      s.inReset = false →
      s.tooEarly rail = false →
      ∃ t, exec (.supplyFault rail mv) s = .next t ∧
        t.regBit Reg.SAF_SUP rail = true ∧
        t.causeActive 2 = true ∧
        t.flag Reg.SAF_STAT Fld.SAF_STAT_SUPPLY_S = true) ∧
  (∀ (s : State) (mv : Nat),
      s.inReset = false →
      s.tooEarly 9 = false →
      ∃ t, exec (.referenceMonitorTrip mv) s = .next t ∧
        t.regBit Reg.SAF_SUP 9 = true ∧
        t.causeActive 3 = true) ∧
  (∀ (s : State) (c : Nat),
      s.causeActive c = true →
      s.causeEnded c = true →
      ∃ t, exec (.causeClearTimer c) s = .next t ∧
        t.causeActive c = false) ∧
  (∀ (s : State),
      ∃ t, exec (.smonLockstepMismatch) s = .next t ∧
        t.smon.safeNLow = true ∧
        t.causeActive 12 = true ∧
        (∀ a, a < 4 → t.flag (Reg.SAF_ALM_STAT a) Fld.SAF_ALM_STAT_LEVEL = true)) ∧
  (∀ (s : State) (ball : Nat) (level : Bool),
      ball < 5 →
      level ≠ s.ballDriven ball →
      ∃ t, exec (.outputFault ball level) s = .next t ∧
        t.smon.badBall = some (ball, level) ∧
        t.causeActive 11 = true ∧
        t.flag Reg.SAF_STAT Fld.SAF_STAT_OUTPUT_S = true ∧
        (∀ a, a < 4 → a ≠ ball → t.flag (Reg.SAF_ALM_STAT a) Fld.SAF_ALM_STAT_LEVEL = true)) ∧
  (∀ (s : State) (i : Nat) (out : Bool),
      i < 10 →
      ∃ t, exec (.safSupChange i out) s = .next t ∧
        t.regBit Reg.SAF_SUP i = out)

/-- While SMON runs, evaluation makes each output's LEVEL, in this order: asserted by SMON's cause or by OUTPUT of another ball;
released while disabled; forced; asserted in SAFE by SAFE_ACT; by an input fault asserted or held as FAULT_ACT says; else
asserted by an active source, its hold time or its latch. A trigger without a clear whose hold has passed no longer counts for
that output. An output without an active source is acknowledged. A configuration that is allowed in SERVICE, or in SAFE as R446
says, takes effect; any other sets CFG_REJ and keeps the register. SAF_FORCE in SERVICE enters SAFE or sets the forced outputs;
elsewhere it sets CFG_REJ alone. Each clause gives the condition under which the command completes with its own effect. Where
the clauses rest on readings or choices of the model, these are log entries 59, 64, 110. Rests on 16_safety.md (R433, R434,
R435, R446). -/
def Obligations.AlarmCommands : Prop :=
  (∀ (s : State),
      s.smon.running = true →
      s.causeActive 12 = true →
      ∃ t, exec (.alarmEvaluate) s = .next t ∧
        (∀ a, a < 4 → t.flag (Reg.SAF_ALM_STAT a) Fld.SAF_ALM_STAT_LEVEL = true)) ∧
  (∀ (s : State) (a : Nat),
      a < 4 →
      s.smon.running = true →
      ∃ t, exec (.alarmEvaluate) s = .next t ∧
        (t.flag (Reg.SAF_ALM_STAT a) Fld.SAF_ALM_STAT_LEVEL =
        if s.causeActive 12 || s.causeActive 11 && s.smon.badBall.map (·.1) != some a then true
        else if s.alarmOn a = false then false
        else if bitAt (s.fld Reg.SAF_FORCE Fld.SAF_FORCE_ALM) a then true
        else if s.smon.inSafe && s.flag (Reg.SAF_ALM_CFG a) Fld.SAF_ALM_CFG_SAFE_ACT then true
        else if (s.alarmFault a).isSome then
          (s.fld (Reg.SAF_ALM_CFG a) Fld.SAF_ALM_CFG_FAULT_ACT == 0) || s.flag (Reg.SAF_ALM_STAT a) Fld.SAF_ALM_STAT_LEVEL
        else (s.alarmSource a).isSome || decide (s.time.toNat < (s.alarmU a).until_.toNat) ||
          s.flag (Reg.SAF_ALM_STAT a) Fld.SAF_ALM_STAT_LATCHED)) ∧
  (∀ (s : State) (a : Nat),
      a < 4 →
      s.smon.running = true →
      s.causeActive 11 = false →
      s.causeActive 12 = false →
      s.fld (Reg.SAF_ALM_CFG a) Fld.SAF_ALM_CFG_EN = 0 →
      ∃ t, exec (.alarmEvaluate) s = .next t ∧
        t.flag (Reg.SAF_ALM_STAT a) Fld.SAF_ALM_STAT_LEVEL = false) ∧
  (∀ (s : State) (a tr : Nat) (u : Time),
      a < 4 →
      s.smon.running = true →
      tr < 0xFF →
      (s.fld (Reg.SAF_ALM_CFG a) Fld.SAF_ALM_CFG_TRIG_A = tr ∨ s.fld (Reg.SAF_ALM_CFG a) Fld.SAF_ALM_CFG_TRIG_B = tr) →
      s.hasClear tr = false →
      (s.trigU tr).raised = true →
      (s.trigU tr).latest = some u →
      u.toNat + msTime (s.fld (Reg.SAF_ALM_HOLD a) Fld.SAF_ALM_HOLD_HOLD) ≤ s.time.toNat →
      ∃ t, exec (.alarmHoldExpiry a tr) s = .next t ∧
        bitAt (t.trigU tr).expired a = true ∧
        (t.trigU tr).raised = true) ∧
  (∀ (s : State) (n : Nat),
      s.bootFailed = false →
      n < 4 →
      s.alarmSource n = none →
      (s.alarmU n).until_.toNat ≤ s.time.toNat →
      ∃ t, exec (.safAlmAck n) s = .next t ∧
        t.flag (Reg.SAF_ALM_STAT n) Fld.SAF_ALM_STAT_LATCHED = false) ∧
  (∀ (s : State) (n i : Nat) (v : Word),
      s.bootFailed = false →
      n < 4 →
      1 ≤ i →
      i < 4 →
      s.inService = true →
      ∃ t, exec (.safAlmCfgWrite n i v) s = .next t ∧
        t.reg (almReg n i) = judged (s.reg (almReg n i)) (almMasks.getD i 0) 0 v) ∧
  (∀ (s : State) (n i : Nat) (v new : Word),
      s.bootFailed = false →
      n < 4 →
      i < 4 →
      new = judged (s.reg (almReg n i)) (almMasks.getD i 0) 0 v →
      (i = 0 → trigAllowed s.triggers s.eng.graph (getField Fld.SAF_ALM_CFG_TRIG_A new) = true ∧
      trigAllowed s.triggers s.eng.graph (getField Fld.SAF_ALM_CFG_TRIG_B new) = true) →
      (s.inService = true ∨ s.curMode = modeSafe ∧ almSafeOk i (s.reg (almReg n i)) new = true) →
      ∃ t, exec (.safAlmCfgWrite n i v) s = .next t ∧
        t.reg (almReg n i) = new) ∧
  (∀ (s : State) (n i : Nat) (v new : Word),
      s.bootFailed = false →
      n < 4 →
      i < 4 →
      new = judged (s.reg (almReg n i)) (almMasks.getD i 0) 0 v →
      (¬((i = 0 → trigAllowed s.triggers s.eng.graph (getField Fld.SAF_ALM_CFG_TRIG_A new) = true ∧
      trigAllowed s.triggers s.eng.graph (getField Fld.SAF_ALM_CFG_TRIG_B new) = true) ∧ (s.inService = true ∨ s.curMode = modeSafe ∧ almSafeOk i (s.reg (almReg n i)) new = true))) →
      ∃ t, exec (.safAlmCfgWrite n i v) s = .next t ∧
        t.reg (almReg n i) = s.reg (almReg n i) ∧
        t.flag Reg.SAF_STAT Fld.SAF_STAT_CFG_REJ = true) ∧
  (∀ (s : State) (n i : Nat) (v : Word),
      s.bootFailed = false →
      n < 4 →
      i < 4 →
      s.inService = false →
      s.curMode ≠ modeSafe →
      ∃ t, exec (.safAlmCfgWrite n i v) s = .next t ∧
        t.reg (almReg n i) = s.reg (almReg n i) ∧
        t.flag Reg.SAF_STAT Fld.SAF_STAT_CFG_REJ = true) ∧
  (∀ (s : State),
      s.bootFailed = false →
      s.inService = true →
      ∃ t, exec (.safForceSafe) s = .next t ∧
        t.regBit Reg.SAF_CAUSE_S 14 = true ∧
        t.smon.inSafe = true ∧
        (s.smon.inSafe = false → t.smon.safeNLow = true ∧ t.mode.phase = .waiting ∧ t.fld Reg.MODE_STAT Fld.MODE_STAT_TARGET = modeSafe)) ∧
  (∀ (s : State),
      s.bootFailed = false →
      s.inService = false →
      ∃ t, exec (.safForceSafe) s = .next t ∧
        t.flag Reg.SAF_STAT Fld.SAF_STAT_CFG_REJ = true ∧
        t.smon = s.smon ∧
        t.mode = s.mode) ∧
  (∀ (s : State) (v : Nat),
      s.bootFailed = false →
      s.inService = true →
      ∃ t, exec (.safForceAlm v) s = .next t ∧
        t.fld Reg.SAF_FORCE Fld.SAF_FORCE_ALM = v % 16) ∧
  (∀ (s : State) (v : Nat),
      s.bootFailed = false →
      s.inService = false →
      ∃ t, exec (.safForceAlm v) s = .next t ∧
        t.reg Reg.SAF_FORCE = s.reg Reg.SAF_FORCE ∧
        t.flag Reg.SAF_STAT Fld.SAF_STAT_CFG_REJ = true)

/-- For a port that the device has: a signal in DOWN, outside reset, while the port is enabled and its block has its clock, begins
TRAINING; a trained link says HELLO; 1 ms of clean control flits makes it UP; a failure is counted, shows DOWN_S and leads to
FAILED, and 1 ms later to TRAINING. A flit that passes no check is counted; the next flit of a packet in part advances the
number expected; without acknowledgment for the replay time every flit kept is sent again and the replay counted, and after
eight the link fails; the neighbour's rate request is kept; a rate switch at its time shows the new rate. Each clause gives the
condition under which the command completes with its own effect. Where the clauses rest on readings or choices of the model,
these are log entries 20, 21, 34, 132. Rests on 13_fabric.md (R345, R346, R347, R348, R349, R350). -/
def Obligations.LinkStatesAndFlits : Prop :=
  (∀ (s : State) (p : Nat),
      p < 4 →
      hasFp s.fac.variant p = true →
      s.inReset = false →
      s.bootFailed = false →
      s.flag (Reg.FP_CFG p) Fld.FP_CFG_EN = true →
      s.lstate p = lsDown →
      bitAt (s.gateEnables s.pstate).toNat (10 + p) = true →
      ∃ t, exec (.linkSignal p) s = .next t ∧
        t.lstate p = lsTraining) ∧
  (∀ (s : State) (p : Nat),
      p < 4 →
      hasFp s.fac.variant p = true →
      s.lstate p = lsTraining →
      ∃ t, exec (.linkTrained p) s = .next t ∧
        t.lstate p = lsHello) ∧
  (∀ (s : State) (p : Nat) (u : Time),
      p < 4 →
      hasFp s.fac.variant p = true →
      s.lstate p = lsHello →
      (s.portU p).cleanFrom = some u →
      u.toNat + msTime 1 ≤ s.time.toNat →
      s.foreign p = false →
      ∃ t, exec (.linkUp p) s = .next t ∧
        t.lstate p = lsUp) ∧
  (∀ (s : State) (p cause : Nat),
      p < 4 →
      hasFp s.fac.variant p = true →
      (s.talks p = true ∨ s.lstate p = lsTraining) →
      ∃ t, exec (.linkDown p cause) s = .next t ∧
        t.lstate p = lsFailed ∧
        t.flag (Reg.FP_STAT p) Fld.FP_STAT_DOWN_S = true ∧
        t.fld (Reg.FP_DOWN_CNT p) word32 = satInc 32 (s.fld (Reg.FP_DOWN_CNT p) word32)) ∧
  (∀ (s : State) (p : Nat) (u : Time),
      p < 4 →
      hasFp s.fac.variant p = true →
      s.lstate p = lsFailed →
      (s.portU p).failedAt = some u →
      u.toNat + msTime 1 ≤ s.time.toNat →
      ∃ t, exec (.linkRetrain p) s = .next t ∧
        t.lstate p = lsTraining) ∧
  (∀ (s : State) (p : Nat) (flit : BitVec 256),
      p < 4 →
      s.lstate p = lsUp →
      flitNumber (s.portU p).rxNext flit.toNat = none →
      ∃ t, exec (.dataFlitRx p flit) s = .next t ∧
        t.fld (Reg.FP_CRC_CNT p) word32 = satInc 32 (s.fld (Reg.FP_CRC_CNT p) word32)) ∧
  (∀ (s : State) (p n : Nat) (flit : BitVec 256) (po : Bool) (pk : Packet),
      p < 4 →
      s.lstate p = lsUp →
      flitNumber (s.portU p).rxNext flit.toNat = some ((s.portU p).rxNext, po) →
      (s.portU p).part = some (pk, n) →
      2 ≤ n →
      ∃ t, exec (.dataFlitRx p flit) s = .next t ∧
        (t.portU p).rxNext = ((s.portU p).rxNext + 1) % 256) ∧
  (∀ (s : State) (p : Nat) (e : TxFlit),
      p < 4 →
      s.lstate p = lsUp →
      (s.portU p).retry.head? = some e →
      e.sentAt.toNat + s.replayTime p ≤ s.time.toNat →
      (∀ q ∈ (s.portU p).retry, q.replays < 8) →
      ∃ t, exec (.replayTimeout p) s = .next t ∧
        ((t.portU p).retry = (s.portU p).retry.map (fun q => { q with replays := q.replays + 1, sentAt := s.time })) ∧
        t.fld (Reg.FP_REPLAY_CNT p) word32 = satInc 32 (s.fld (Reg.FP_REPLAY_CNT p) word32)) ∧
  (∀ (s : State) (p : Nat) (e : TxFlit),
      p < 4 →
      s.lstate p = lsUp →
      (s.portU p).retry.head? = some e →
      e.sentAt.toNat + s.replayTime p ≤ s.time.toNat →
      (∃ q ∈ (s.portU p).retry, 8 ≤ q.replays) →
      ∃ t, exec (.replayTimeout p) s = .next t ∧
        t.lstate p = lsFailed) ∧
  (∀ (s : State) (p r : Nat),
      p < 4 →
      hasFp s.fac.variant p = true →
      s.talks p = true →
      ∃ t, exec (.rate p r) s = .next t ∧
        (t.portU p).nbrRate = some (if r = 0 then 0 else 1)) ∧
  (∀ (s : State) (p r : Nat) (u : Time),
      hasFp s.fac.variant p = true →
      (s.portU p).switch = some (r, u) →
      u.toNat ≤ s.time.toNat →
      ∃ t, exec (.rateSwitch p) s = .next t ∧
        t.fld (Reg.FP_STAT p) Fld.FP_STAT_RATE_NOW = r % 2 ^ fieldWidth Fld.FP_STAT_RATE_NOW ∧
        (t.portU p).switch = none)

/-- HELLO shows the neighbour's die and address; a better key is taken with its hops and one more, on a device without an address or
a link that is not in HELLO, and one that is not better is kept as the neighbour's best alone; the own key that has been best
for 2 ms, on a device that joins no fabric and has no manager, makes it manager; REELECT at the manager forgets manager,
topology and best key. LOST from a neighbour shows NORPHAN and makes this device an orphan; OFFER shows the neighbour's depth,
and an orphan without an offer or a switch takes it; the end of an orphan's switch ends ORPHAN; BATON makes the successor,
orphaned for 20 µs and with no offer, the root at depth 0 on REFCLK. Each clause gives the condition under which the command
completes with its own effect. Where the clauses rest on readings or choices of the model, these are log entries 34, 60, 126,
127, 132. Rests on 13_fabric.md (R346, R357, R358, R364, R368, R375). -/
def Obligations.ElectionAndClockRepair : Prop :=
  (∀ (s : State) (p adv : Nat) (key : Key) (nport naddr : Nat),
      p < 4 →
      hasFp s.fac.variant p = true →
      s.talks p = true →
      ∃ t, exec (.hello p adv key nport naddr) s = .next t ∧
        t.reg (Reg.FP_NBR_LO p) = BitVec.ofNat 32 key.die ∧
        t.reg (Reg.FP_NBR_HI p) = BitVec.ofNat 32 (key.die / 2 ^ 32) ∧
        t.fld (Reg.FP_NBR_ADDR p) Fld.FP_NBR_ADDR_NADDR = naddr % 2 ^ fieldWidth Fld.FP_NBR_ADDR_NADDR) ∧
  (∀ (s : State) (p : Nat) (key : Key) (hops : Nat),
      p < 4 →
      hasFp s.fac.variant p = true →
      s.talks p = true →
      key.beats s.bestKey = true →
      (s.ownAddr = 0 ∨ s.lstate p ≠ lsHello) →
      ∃ t, exec (.elect p key hops) s = .next t ∧
        t.fab.best = some key ∧
        t.fab.bestHops = hops + 1 ∧
        (t.portU p).nbrBest = some key) ∧
  (∀ (s : State) (u : Time),
      s.bootu.mcRunning = true →
      s.bestKey = s.ownKey →
      s.fab.ownSince = some (s.ownKey, u) →
      u.toNat + msTime 2 ≤ s.time.toNat →
      s.flag Reg.FAB_STAT Fld.FAB_STAT_MANAGER = false →
      s.fab.mgrDie = 0 →
      s.newcomer = false →
      ∃ t, exec (.electionWin) s = .next t ∧
        t.flag Reg.FAB_STAT Fld.FAB_STAT_MANAGER = true ∧
        t.fab.mgrDie = s.fac.dieId.toNat ∧
        t.fld Reg.FAB_STAT Fld.FAB_STAT_STATE = 0) ∧
  (∀ (s : State),
      s.bootFailed = false →
      s.isManager = true →
      ∃ t, exec (.reelect) s = .next t ∧
        t.isManager = false ∧
        t.fab.topo = [] ∧
        t.fab.mgrDie = 0 ∧
        t.fab.best = none) ∧
  (∀ (s : State) (p : Nat) (key : Key) (hops : Nat),
      p < 4 →
      hasFp s.fac.variant p = true →
      s.talks p = true →
      key.beats s.bestKey = false →
      ∃ t, exec (.elect p key hops) s = .next t ∧
        t.fab.best = s.fab.best ∧
        (t.portU p).nbrBest = some key) ∧
  (∀ (s : State) (p die : Nat),
      p < 4 →
      hasFp s.fac.variant p = true →
      s.talks p = true →
      ∃ t, exec (.lost p die) s = .next t ∧
        t.flag (Reg.FP_STAT p) Fld.FP_STAT_NORPHAN = true ∧
        t.flag Reg.FAB_STAT Fld.FAB_STAT_ORPHAN = true) ∧
  (∀ (s : State) (p depth die : Nat),
      p < 4 →
      hasFp s.fac.variant p = true →
      s.talks p = true →
      ∃ t, exec (.offer p depth die) s = .next t ∧
        t.fld (Reg.FP_STAT p) Fld.FP_STAT_NDEPTH = depth % 2 ^ fieldWidth Fld.FP_STAT_NDEPTH ∧
        t.flag (Reg.FP_STAT p) Fld.FP_STAT_NORPHAN = false ∧
        (s.flag Reg.FAB_STAT Fld.FAB_STAT_ORPHAN = true → s.fab.offered = false → s.clk.switching = none →
        t.fab.offered = true ∧ t.fab.rootDie = die ∧ t.clk.switching = some (p + 1))) ∧
  (∀ (s : State),
      s.flag Reg.FAB_STAT Fld.FAB_STAT_ORPHAN = true →
      s.fab.repair = true →
      ∃ t, exec (.clkRepair) s = .next t ∧
        t.flag Reg.FAB_STAT Fld.FAB_STAT_ORPHAN = false ∧
        t.clk.switching = none ∧
        t.fab.repair = false) ∧
  (∀ (s : State) (u : Time),
      hasHost s.fac.variant = true →
      s.flag Reg.FAB_STAT Fld.FAB_STAT_SUCCESSOR = true →
      s.flag Reg.FAB_STAT Fld.FAB_STAT_ORPHAN = true →
      s.fab.offered = false →
      s.clk.switching = none →
      s.fab.orphanAt = some u →
      usTime 20 ≤ (s.time - u).toNat →
      ∃ t, exec (.baton) s = .next t ∧
        t.flag Reg.FAB_STAT Fld.FAB_STAT_ROOT = true ∧
        t.flag Reg.FAB_STAT Fld.FAB_STAT_SUCCESSOR = false ∧
        t.clkSel = 0 ∧
        t.clk.switching = some 0 ∧
        t.fld Reg.FAB_STAT Fld.FAB_STAT_DEPTH = 0 ∧
        t.fld Reg.FAB_ROLES0 Fld.FAB_ROLES0_A = s.ownAddr)

/-- A READ or WRITE that is no repeat is carried out and its answer kept; a repeat of one whose answer is kept changes no cell, and
writes no record for a READ; a WRITE to DRAM changes no cell but its own; the answer to a command's access decides the command;
a request without answer is sent once more, and the second time counted with TIMEOUT_S, a command of the ring being REFUSED; a
COMMAND that is no repeat is answered while the MC runs. Each clause gives the condition under which the command completes with
its own effect. Where the clauses rest on readings or choices of the model, these are log entries 22, 34, 50. Rests on
13_fabric.md (R354, R355); 14_host_interface.md (R394, R395). -/
def Obligations.FabricAccess : Prop :=
  (∀ (s : State) (pkt : Packet),
      s.keptAnswer pkt.src pkt.tag = none →
      ∃ t, exec (.readPacketRx pkt) s = .next t ∧
        (∃ a ∈ t.fab.answers, a.src = pkt.src ∧ a.tag = pkt.tag ∧ a.pkt = pkt.response (s.readPacket pkt).1.1
        ((s.readPacket pkt).1.2.map (·.1)) ((s.readPacket pkt).1.2.map (·.2)))) ∧
  (∀ (s : State) (pkt : Packet),
      s.keptAnswer pkt.src pkt.tag = none →
      pkt.toDram = true →
      ∃ t, exec (.writePacketRx pkt) s = .next t ∧
        (∃ a ∈ t.fab.answers, a.src = pkt.src ∧ a.tag = pkt.tag ∧ a.pkt = pkt.response (s.writePacket pkt).1 [] []) ∧
        (∀ a, a ∉ s.packetCells pkt → t.cellAt a = s.cellAt a)) ∧
  (∀ (s : State) (pkt a : Packet),
      s.keptAnswer pkt.src pkt.tag = some a →
      ∃ t, exec (.writePacketRx pkt) s = .next t ∧
        t.cells = s.cells ∧
        t.fab.answers = s.fab.answers) ∧
  (∀ (s : State) (pkt a : Packet),
      s.keptAnswer pkt.src pkt.tag = some a →
      ∃ t, exec (.readPacketRx pkt) s = .next t ∧
        t.cells = s.cells ∧
        t.fab.answers = s.fab.answers ∧
        t.recs = s.recs) ∧
  (∀ (s : State) (pkt : Packet) (r : OutReq) (op tag size : Nat),
      s.takes op tag = true →
      s.findRequest pkt.tag pkt.src = some r →
      r.client = .command .ring op tag size →
      ∃ t, exec (.responseRx pkt) s = .next t ∧
        t.decided op tag { accessCompletion op size pkt with time := s.time }) ∧
  (∀ (s : State) (tag : Nat) (r : OutReq),
      (s.fab.reqs.find? (fun q => q.tag == tag && decide (0 < q.tries) && decide (s.tmo ≤ (s.time - q.at_).toNat)) = some r) →
      r.tries = 1 →
      ∃ t, exec (.requestTimeout tag) s = .next t ∧
        (∃ q ∈ t.fab.reqs, q.tag = r.tag ∧ q.dst = r.dst ∧ q.tries = 2 ∧ q.at_ = s.time)) ∧
  (∀ (s : State) (tag : Nat) (r : OutReq),
      (s.fab.reqs.find? (fun q => q.tag == tag && decide (0 < q.tries) && decide (s.tmo ≤ (s.time - q.at_).toNat)) = some r) →
      r.tries ≠ 1 →
      ∃ t, exec (.requestTimeout tag) s = .next t ∧
        (∀ op k n, r.client = .command .ring op k n → s.takes op k = true →
        t.decided op k { status := stRefused, detail := 10, time := s.time }) ∧
        t.flag Reg.FAB_STAT Fld.FAB_STAT_TIMEOUT_S = true ∧
        t.fld Reg.FAB_CNT Fld.FAB_CNT_TIMEOUTS = satInc (fieldWidth Fld.FAB_CNT_TIMEOUTS) (s.fld Reg.FAB_CNT Fld.FAB_CNT_TIMEOUTS)) ∧
  (∀ (s : State) (origin tag : Nat) (d : BitVec 256),
      s.bootu.mcRunning = true →
      s.keptAnswer origin (tag % 256) = none →
      ∃ t, exec (.commandPacketRx origin tag d) s = .next t ∧
        (∃ a ∈ t.fab.answers, a.src = origin ∧ a.tag = tag % 256))

/-- From the manager's die: INFO that is no repeat is answered with die ID, variant, ports, host attachment and address, and its
answer kept; SET_ADDR gives the address; RT_WRITE writes the shadow bank alone; ROLES shows the four roles, depth and
eccentricity and keeps the die IDs; CLK_SEL acts as a write of SEL; HEARTBEAT and MIRROR are kept at the standby. From another
die that is not the standby's SET_ADDR is counted and leaves the address; the standby's first packet makes it the manager and
takes effect. Each clause gives the condition under which the command completes with its own effect. Where the clauses rest on
readings or choices of the model, these are log entries 13, 63, 133. Rests on 13_fabric.md (R358, R361, R363, R364). -/
def Obligations.ManagementPackets : Prop :=
  (∀ (s : State) (die tag : Nat),
      s.bootu.mcRunning = true →
      die = s.managerDie →
      s.keptAnswer (4096 + die) tag = none →
      ∃ t, exec (.info die tag) s = .next t ∧
        .packet (s.fld Reg.FAB_ROLES1 Fld.FAB_ROLES1_A) "MGMT_RSP" [opInfo, tag, s.fac.dieId.toNat, (s.reg Reg.DEV_VARIANT).toNat,
        (s.reg Reg.DEV_UNIT_MASK1).toNat / 2 ^ 12, bit s.host.pcieEver, s.ownAddr] ∈ t.out ∧
        (∃ a ∈ t.fab.answers, a.src = 4096 + die ∧ a.tag = tag)) ∧
  (∀ (s : State) (die addr : Nat),
      s.bootu.mcRunning = true →
      die = s.managerDie →
      ∃ t, exec (.setAddr die addr) s = .next t ∧
        t.ownAddr = addr % 2 ^ fieldWidth Fld.FAB_ADDR_ADDR) ∧
  (∀ (s : State) (die addr : Nat),
      s.bootu.mcRunning = true →
      die ≠ s.managerDie →
      (die ≠ s.fab.stbyDie ∨ die = 0) →
      ∃ t, exec (.setAddr die addr) s = .next t ∧
        t.ownAddr = s.ownAddr ∧
        t.fld Reg.FAB_DROP Fld.FAB_DROP_EPOCH = satInc (fieldWidth Fld.FAB_DROP_EPOCH) (s.fld Reg.FAB_DROP Fld.FAB_DROP_EPOCH)) ∧
  (∀ (s : State) (die : Nat) (entries : List (Nat × Nat)),
      s.bootu.mcRunning = true →
      die = s.managerDie →
      ∃ t, exec (.rtWrite die entries) s = .next t ∧
        (s.epoch = 0 → t.fab.bank0 = s.fab.bank0) ∧
        (s.epoch ≠ 0 → t.fab.bank1 = s.fab.bank1) ∧
        (∀ d e, entries = [(d, e)] → t.routeEntry (if s.epoch = 0 then 1 else 0) (d % 4096) = e &&& routeMask)) ∧
  (∀ (s : State) (die manager standby root successor stbyDie rootDie depth ecc : Nat),
      s.bootu.mcRunning = true →
      die = s.managerDie →
      ∃ t, exec (.roles die manager standby root successor stbyDie rootDie depth ecc) s = .next t ∧
        t.fld Reg.FAB_ROLES1 Fld.FAB_ROLES1_A = manager % 2 ^ fieldWidth Fld.FAB_ROLES1_A ∧
        t.fld Reg.FAB_ROLES0 Fld.FAB_ROLES0_A = root % 2 ^ fieldWidth Fld.FAB_ROLES0_A ∧
        t.fld Reg.FAB_ROLES1 Fld.FAB_ROLES1_B = standby % 2 ^ fieldWidth Fld.FAB_ROLES1_B ∧
        t.fld Reg.FAB_ROLES0 Fld.FAB_ROLES0_B = successor % 2 ^ fieldWidth Fld.FAB_ROLES0_B ∧
        (hasHost s.fac.variant = false → t.flag Reg.FAB_STAT Fld.FAB_STAT_ROOT = false) ∧
        t.fab.mgrDie = die ∧
        t.fab.stbyDie = stbyDie ∧
        t.fab.rootDie = rootDie ∧
        t.fld Reg.FAB_STAT Fld.FAB_STAT_STATE = 1 ∧
        t.fld Reg.FAB_STAT Fld.FAB_STAT_DEPTH = depth % 2 ^ fieldWidth Fld.FAB_STAT_DEPTH ∧
        t.fld Reg.FAB_STAT Fld.FAB_STAT_ECC = ecc % 2 ^ fieldWidth Fld.FAB_STAT_ECC) ∧
  (∀ (s : State) (die sel : Nat),
      s.bootu.mcRunning = true →
      die = s.managerDie →
      s.isReady sel = false →
      ∃ t, exec (.clkSel die sel) s = .next t ∧
        t.flag Reg.CLK_STAT Fld.CLK_STAT_REFUSED_S = true ∧
        t.clkSel = s.clkSel) ∧
  (∀ (s : State) (die sel : Nat),
      s.bootu.mcRunning = true →
      die = s.managerDie →
      s.isReady sel = true →
      sel ≠ s.clkSel →
      ∃ t, exec (.clkSel die sel) s = .next t ∧
        t.clkSel = sel ∧
        t.fld Reg.CLK_SRC Fld.CLK_SRC_ST = 2 ∧
        t.clk.switching = some sel) ∧
  (∀ (s : State) (die : Nat),
      s.bootu.mcRunning = true →
      die = s.managerDie →
      s.flag Reg.FAB_STAT Fld.FAB_STAT_STANDBY = true →
      ∃ t, exec (.heartbeat die) s = .next t ∧
        t.fab.hbAt = some s.time) ∧
  (∀ (s : State) (die : Nat) (topo : List Dev),
      s.bootu.mcRunning = true →
      die = s.managerDie →
      s.flag Reg.FAB_STAT Fld.FAB_STAT_STANDBY = true →
      ∃ t, exec (.mirror die topo) s = .next t ∧
        t.fab.mirror = topo) ∧
  (∀ (s : State) (die addr : Nat),
      s.bootu.mcRunning = true →
      die ≠ s.managerDie →
      die = s.fab.stbyDie →
      die ≠ 0 →
      s.isManager = false →
      ∃ t, exec (.setAddr die addr) s = .next t ∧
        t.fab.mgrDie = die ∧
        t.fab.stbyDie = 0 ∧
        t.ownAddr = addr % 2 ^ fieldWidth Fld.FAB_ADDR_ADDR)

/-- The manager sends HEARTBEAT to the standby every 1 ms and learns of a device from an answer that it waits for. Where its
computation over the topology gives a plan, DISCOVERY_DONE with that plan's values takes the devices of its tree, its own
address, the roles and the diameter, and announces the switch of tables 20 µs ahead; REROUTE with such values does so with state
2, and keeps the links, the devices lost and the moves of clock parents for the switch, changes that follow each other being
gathered for 10 ms. The standby that has heard nothing for 3 ms, or has no link UP to the manager where the row reports the
manager's links lost, is manager with the topology mirrored to it. Each clause gives the condition under which the command
completes with its own effect. Where the clauses rest on readings or choices of the model, these are log entries 13, 62, 63,
133, 137. Rests on 13_fabric.md (R358, R359, R362, R363, R364). -/
def Obligations.Manager : Prop :=
  (∀ (s : State),
      s.bootu.mcRunning = true →
      s.isManager = true →
      s.fld Reg.FAB_ROLES1 Fld.FAB_ROLES1_B ≠ 0 →
      (s.fab.hbAt = none ∨ s.longSince s.fab.hbAt (msTime 1) = true) →
      ∃ t, exec (.heartbeatSend) s = .next t ∧
        .packet (s.fld Reg.FAB_ROLES1 Fld.FAB_ROLES1_B) "INJECT" [ptMgmt, (opHeartbeat * 2 ^ 8 : Nat)] ∈ t.out ∧
        t.fab.hbAt = some s.time) ∧
  (∀ (s : State) (tag : Nat) (dev : Dev) (r : OutReq),
      s.isManager = true →
      (s.fab.reqs.find? (fun q => q.client == Client.mgmt && q.tag == tag && decide (0 < q.tries)) = some r) →
      ∃ t, exec (.mgmtRspRx tag dev) s = .next t ∧
        (t.fab.topo = s.fab.topo.filter (fun d => d.die != dev.die) ++
        [{ dev with depth := ((devOf s.fab.topo dev.die).getD dev).depth, parent := ((devOf s.fab.topo dev.die).getD dev).parent }])) ∧
  (∀ (s : State) (q : Plan),
      s.isManager = true →
      s.plan s.fab.topo = some q →
      ∃ t, exec (.discoveryDone q.tree.placed q.tree.limited q.who q.diameter) s = .next t ∧
        (∀ d ∈ q.tree.placed, d ∈ t.fab.topo) ∧
        t.fld Reg.FAB_STAT Fld.FAB_STAT_STATE = 1 ∧
        t.fld Reg.FAB_ROLES1 Fld.FAB_ROLES1_A = q.who.getD 0 0 % 2 ^ fieldWidth Fld.FAB_ROLES1_A ∧
        t.fld Reg.FAB_SIZE Fld.FAB_SIZE_DIAMETER = q.diameter % 2 ^ fieldWidth Fld.FAB_SIZE_DIAMETER ∧
        t.ownAddr = (q.own s.fac.dieId.toNat).addr % 2 ^ fieldWidth Fld.FAB_ADDR_ADDR ∧
        t.fab.switchAt = some (s.time + BitVec.ofNat 64 (usTime 20))) ∧
  (∀ (s : State) (topo : List Dev) (lost : List Nat) (q : Plan),
      s.isManager = true →
      s.plan topo = some q →
      lost = lostDevices s.fab.topo q.tree.placed →
      (s.fab.churned = false ∧ s.fab.churn ≠ 0 ∨ s.fab.reroutedAt = none ∨ s.longSince s.fab.reroutedAt (msTime 10) = true) →
      ∃ t, exec (.reroute topo lost (linkChanges s.fab.topo (s.graph topo)) (q.routing s.fac.dieId.toNat)) s = .next t ∧
        t.fld Reg.FAB_STAT Fld.FAB_STAT_STATE = 2 ∧
        t.fab.switchAt = some (s.time + BitVec.ofNat 64 (usTime 20)) ∧
        t.fab.churn = 0 ∧
        (∀ d ∈ q.tree.placed, d ∈ t.fab.topo) ∧
        t.fab.reroute = some (linkChanges s.fab.topo (s.graph topo), lost.length, (q.routing s.fac.dieId.toNat).moves)) ∧
  (∀ (s : State),
      s.bootu.mcRunning = true →
      s.flag Reg.FAB_STAT Fld.FAB_STAT_STANDBY = true →
      s.longSince s.fab.hbAt (msTime 3) = true →
      ∃ t, exec (.standbyTakeover) s = .next t ∧
        t.isManager = true ∧
        t.flag Reg.FAB_STAT Fld.FAB_STAT_STANDBY = false ∧
        t.fab.topo = s.fab.mirror ∧
        t.fab.mgrDie = s.fac.dieId.toNat ∧
        t.fld Reg.FAB_ROLES1 Fld.FAB_ROLES1_A = s.ownAddr) ∧
  (∀ (s : State),
      s.bootu.mcRunning = true →
      s.flag Reg.FAB_STAT Fld.FAB_STAT_STANDBY = true →
      (∀ p ∈ s.upPorts, ∀ k, (s.portU p).nbr = some k → k.die ≠ s.managerDie) →
      ∃ t, exec (.standbyTakeover) s = .next t ∧
        t.isManager = true ∧
        t.flag Reg.FAB_STAT Fld.FAB_STAT_STANDBY = false ∧
        t.fab.topo = s.fab.mirror ∧
        t.fab.mgrDie = s.fac.dieId.toNat ∧
        t.fld Reg.FAB_ROLES1 Fld.FAB_ROLES1_A = s.ownAddr)

/-- TABLE_COMMIT schedules the switch, which at its time exchanges the banks; 200 µs later the old one is retired; the changes
gathered are reported; a channel without credit for more than STALL_T is stopped, drops what waits in it, and resumes where the
mask names it; a link to another formed fabric enters UP after 1 ms of clean flits and 10 ms without a change of the topology, a
device of the lower fabric giving up manager and root for the better key, one of the higher fabric keeping what it has. Each
clause gives the condition under which the command completes with its own effect. Where the clauses rest on readings or choices
of the model, these are log entries 13, 34, 63, 132. Rests on 13_fabric.md (R362, R365, R367). -/
def Obligations.RoutingTables : Prop :=
  (∀ (s : State) (u : Time),
      ∃ t, exec (.tableCommit u) s = .next t ∧
        t.fab.switchAt = some u) ∧
  (∀ (s : State) (u : Time),
      s.fab.switchAt = some u →
      u.toNat ≤ s.time.toNat →
      ∃ t, exec (.tableSwitch) s = .next t ∧
        t.epoch = 1 - s.epoch ∧
        t.fab.switchAt = none ∧
        t.fab.retired = false) ∧
  (∀ (s : State) (u : Time),
      s.fab.switched = some u →
      u.toNat + usTime 200 ≤ s.time.toNat →
      ∃ t, exec (.bankRetire) s = .next t ∧
        t.fab.retired = true) ∧
  (∀ (s : State),
      s.fab.churned = true →
      s.fab.churn ≠ 0 →
      ∃ t, exec (.fabChurn) s = .next t ∧
        t.fab.churn = 0 ∧
        t.flag Reg.FAB_STAT Fld.FAB_STAT_CHURN_S = true ∧
        (s.recsFull = false → t.recs = s.recs ++ [mkRec 0x0425 0xFF s.time [s.fab.churn]])) ∧
  (∀ (s : State) (p v ms : Nat),
      p < 4 →
      v < 3 →
      hasFp s.fac.variant p = true →
      s.lstate p = lsUp →
      v ∉ (s.portU p).stopped →
      s.fld Reg.FAB_CFG Fld.FAB_CFG_STALL_T < ms →
      (s.portU p).credits.getD v 0 = 0 →
      ∃ t, exec (.vcStall p v ms) s = .next t ∧
        v ∈ (t.portU p).stopped ∧
        t.flag Reg.FAB_STAT Fld.FAB_STAT_STALL_S = true ∧
        (∀ e ∈ (t.portU p).queue, vcOf e.pkt.ptype ≠ v)) ∧
  (∀ (s : State) (mask p v : Nat),
      s.bootFailed = false →
      p < 4 →
      v < 3 →
      bitAt mask v = true →
      ∃ t, exec (.vcResumed mask) s = .next t ∧
        v ∉ (t.portU p).stopped) ∧
  (∀ (s : State) (p : Nat) (offset : Int) (k : Key),
      s.helloDone p = true →
      s.foreign p = true →
      (s.portU p).nbrBest = some k →
      k.beats s.bestKey = true →
      (s.fab.lastTopo = none ∨ s.longSince s.fab.lastTopo (msTime 10) = true) →
      ∃ t, exec (.fabricJoin p true offset) s = .next t ∧
        t.lstate p = lsUp ∧
        t.isManager = false ∧
        t.flag Reg.FAB_STAT Fld.FAB_STAT_ROOT = false ∧
        t.fab.best = some k) ∧
  (∀ (s : State) (p : Nat) (offset : Int) (k : Key),
      s.helloDone p = true →
      s.foreign p = true →
      (s.portU p).nbrBest = some k →
      k.beats s.bestKey = false →
      (s.fab.lastTopo = none ∨ s.longSince s.fab.lastTopo (msTime 10) = true) →
      ∃ t, exec (.fabricJoin p false offset) s = .next t ∧
        t.lstate p = lsUp ∧
        t.isManager = s.isManager ∧
        t.fab.best = s.fab.best)

/-- An exchange keeps its round trip among the last 64 and shows half their mean; a PTM sample at the root is kept; an edge of
PPS_IN counts the second; a source lost ends TIME_LOCK; a step is scheduled and, at its time, added to fabric time, cancelling
the pending snapshots. Each clause gives the condition under which the command completes with its own effect. Where the clauses
rest on readings or choices of the model, these are log entries 62, 122. Rests on 13_fabric.md (R369, R372, R374, R378). -/
def Obligations.FabricTime : Prop :=
  (∀ (s : State) (p : Nat) (flow : FlowSec) (times : TimeSec) (adv : Nat) (t4 : Time),
      p < 4 →
      hasFp s.fac.variant p = true →
      s.talks p = true →
      flow.nak = false →
      ∃ t, exec (.timeExchange p flow times adv t4) s = .next t ∧
        ((t.portU p).delays = if 0xFFFFF ≤ times.res then (s.portU p).delays
        else (((((t4.toNat + 2 ^ 32 - times.echo % 2 ^ 32) % 2 ^ 32 : Nat) : Int) - times.res) :: (s.portU p).delays).take 64) ∧
        t.reg (Reg.FP_DELAY p) = BitVec.ofInt 32 (ratRound ((((t.portU p).delays.foldl (· + ·) 0 : Int) : Rat) / (2 * max 1 (t.portU p).delays.length : Nat)))) ∧
  (∀ (s : State) (ns : BitVec 64),
      s.fld Reg.FAB_TIME_CFG Fld.FAB_TIME_CFG_SRC = 1 →
      s.flag Reg.FAB_STAT Fld.FAB_STAT_ROOT = true →
      ∃ t, exec (.ptmSample ns) s = .next t ∧
        t.fab.srcAt = some s.time) ∧
  (∀ (s : State) (u : Time),
      ∃ t, exec (.ppsInEdge u) s = .next t ∧
        t.reg Reg.FAB_PPS_SEC = s.reg Reg.FAB_PPS_SEC + 1) ∧
  (∀ (s : State) (u : Time),
      s.fld Reg.FAB_TIME_CFG Fld.FAB_TIME_CFG_SRC ≠ 0 →
      s.flag Reg.FAB_STAT Fld.FAB_STAT_ROOT = true →
      s.fab.srcAt = some u →
      u.toNat + secTime 3 ≤ s.time.toNat →
      ∃ t, exec (.timeLost) s = .next t ∧
        t.flag Reg.FAB_STAT Fld.FAB_STAT_TIME_LOCK = false ∧
        t.fab.srcAt = none ∧
        (s.recsFull = false → t.recs = s.recs ++ [mkRec 0x0441 0xFF s.time [s.fld Reg.FAB_TIME_CFG Fld.FAB_TIME_CFG_SRC]])) ∧
  (∀ (s : State) (step : Int) (u : Time),
      ∃ t, exec (.timeStep step u) s = .next t ∧
        t.fab.step = some (step, u)) ∧
  (∀ (s : State) (step : Int) (u : Time),
      s.fab.step = some (step, u) →
      u.toNat ≤ s.time.toNat →
      ∃ t, exec (.timeStepApply) s = .next t ∧
        t.time = s.time + BitVec.ofInt 64 step ∧
        t.flag Reg.FAB_STAT Fld.FAB_STAT_TIME_VALID = true ∧
        t.fab.step = none ∧
        t.snp = [])

/-- SNAPSHOT_ARM outside BOOT with its lead and a place free is OK and arms, too late it is INVALID, with four pending BUSY; STARTER
arms another device's, unless it is late or a fifth one, which is missed and counted, or a repeat, which changes nothing; at its
time the pending snapshot is latched with BUSY, and then shown whole with its number; SYNC_OUT rises at a second once, while
time is valid, and falls 100 ms later, or in another second. Each clause gives the condition under which the command completes
with its own effect. Where the clauses rest on readings or choices of the model, these are log entries 63, 139. Rests on
13_fabric.md (R376, R377); 18_electrical_package.md (R463). -/
def Obligations.SnapshotCommands : Prop :=
  (∀ (s : State) (tag : Nat) (u : Time) (id : Nat) (all : Bool),
      s.takes opSnapshotArm tag = true →
      s.curMode ≠ modeBoot →
      s.time.toNat + s.snapLead ≤ u.toNat →
      s.snp.length < 4 →
      (all = true → (id % 65536, s.ownAddr) ∉ s.snpSeen) →
      ∃ t, exec (.snapshotArm .ring tag u id all) s = .next t ∧
        t.decided opSnapshotArm tag { status := stOk, time := s.time } ∧
        (∃ q ∈ t.snp, q.id = id % 65536 ∧ q.origin = s.ownAddr)) ∧
  (∀ (s : State) (tag : Nat) (u : Time) (id : Nat) (all : Bool),
      s.takes opSnapshotArm tag = true →
      s.curMode ≠ modeBoot →
      u.toNat < s.time.toNat + s.snapLead →
      ∃ t, exec (.snapshotArm .ring tag u id all) s = .next t ∧
        t.decided opSnapshotArm tag { status := stInvalid, time := s.time } ∧
        t.snp = s.snp) ∧
  (∀ (s : State) (tag : Nat) (u : Time) (id : Nat) (all : Bool),
      s.takes opSnapshotArm tag = true →
      s.curMode ≠ modeBoot →
      s.time.toNat + s.snapLead ≤ u.toNat →
      4 ≤ s.snp.length →
      ∃ t, exec (.snapshotArm .ring tag u id all) s = .next t ∧
        t.decided opSnapshotArm tag { status := stBusy, time := s.time } ∧
        t.snp = s.snp) ∧
  (∀ (s : State) (u : Time) (id origin : Nat),
      s.time.toNat ≤ u.toNat →
      s.snp.length < 4 →
      (id % 65536, origin % 4096) ∉ s.snpSeen →
      ∃ t, exec (.starter u id origin) s = .next t ∧
        (∃ q ∈ t.snp, q.id = id % 65536 ∧ q.origin = origin % 4096)) ∧
  (∀ (s : State) (q : SnapPend),
      s.snapNext = none →
      s.firstPending = some q →
      q.t.toNat ≤ s.time.toNat →
      ∃ t, exec (.snapshotLatch) s = .next t ∧
        t.snp = s.snp.erase q ∧
        (∃ w, t.snapNext = some (q, w)) ∧
        t.flag Reg.SNP_STAT Fld.SNP_STAT_BUSY = true) ∧
  (∀ (s : State) (q : SnapPend) (words : Store Nat),
      s.snapNext = some (q, words) →
      ∃ t, exec (.snapDone) s = .next t ∧
        t.snapNext = none ∧
        t.flag Reg.SNP_STAT Fld.SNP_STAT_VALID = true ∧
        t.flag Reg.SNP_STAT Fld.SNP_STAT_BUSY = false ∧
        t.fld Reg.SNP_STAT Fld.SNP_STAT_LAST_ID = q.id % 2 ^ fieldWidth Fld.SNP_STAT_LAST_ID) ∧
  (∀ (s : State),
      s.flag Reg.FAB_STAT Fld.FAB_STAT_TIME_VALID = true →
      (∀ n ∈ s.pins.pulsed, n < s.time.toNat / 2 ^ 32) →
      s.time.toNat % 2 ^ 32 < 263 →
      ∃ t, exec (.syncOutSecond true) s = .next t ∧
        t.pins.syncOut = true ∧
        t.pins.pulsed = some (s.time.toNat / 2 ^ 32) ∧
        t.out = .syncPulse true :: s.out) ∧
  (∀ (s : State),
      s.pins.syncOut = true →
      (s.pins.pulsed = some (s.time.toNat / 2 ^ 32) → msTime 100 ≤ s.time.toNat % 2 ^ 32) →
      ∃ t, exec (.syncOutSecond false) s = .next t ∧
        t.pins.syncOut = false ∧
        t.out = .syncPulse false :: s.out) ∧
  (∀ (s : State) (u : Time) (id origin : Nat),
      (u.toNat < s.time.toNat ∨ 4 ≤ s.snp.length) →
      (id % 65536, origin % 4096) ∉ s.snpSeen →
      ∃ t, exec (.starter u id origin) s = .next t ∧
        t.snp = s.snp ∧
        t.flag Reg.SNP_STAT Fld.SNP_STAT_MISSED_S = true ∧
        t.fld Reg.SNP_MISS_CNT word32 = satInc 32 (s.fld Reg.SNP_MISS_CNT word32)) ∧
  (∀ (s : State) (u : Time) (id origin : Nat),
      (id % 65536, origin % 4096) ∈ s.snpSeen →
      ∃ t, exec (.starter u id origin) s = .next t ∧
        t = s)

/-- POWER_ON and a rail below COLD hold the device in COLD reset with every register at its reset value, DRAM unlisted and the time
0; PERST_N low, in no other reset, stops the MC and holds it in WARM reset, which leaves DRAM and the error log; the release of
the last reset begins BOOT with the cause kept; EXTEST drives the balls and holds COLD reset until it is left. Each clause gives
the condition under which the command completes with its own effect. Where the clauses rest on readings or choices of the model,
these are log entries 4, 24, 31. Rests on 16_safety.md (R431); 18_electrical_package.md (R459, R467, R468). -/
def Obligations.ResetCommands : Prop :=
  (∀ (s : State),
      ∃ t, exec (.powerOn) s = .next t ∧
        (∀ a, t.reg a = regReset s.fac a) ∧
        t.bootu.coldHeld = true ∧
        t.cells = [] ∧
        t.time = 0) ∧
  (∀ (s : State),
      ∃ t, exec (.railBelowCold) s = .next t ∧
        (∀ a, t.reg a = regReset s.fac a) ∧
        t.bootu.coldHeld = true ∧
        t.cells = [] ∧
        t.time = 0) ∧
  (∀ (s : State),
      s.bootu.coldHeld = true →
      s.bootu.perstLow = false →
      s.bootu.jtagHold = false →
      ∃ t, exec (.coldResetEnd) s = .next t ∧
        t.bootu.coldHeld = false ∧
        t.bootu.startTime = s.time ∧
        t.fld Reg.BOOT_STAT Fld.BOOT_STAT_CAUSE = s.bootu.nextCause % 2 ^ fieldWidth Fld.BOOT_STAT_CAUSE) ∧
  (∀ (s : State),
      hasHost s.fac.variant = true →
      s.bootu.perstLow = false →
      s.bootu.coldHeld = false →
      s.bootu.jtagHold = false →
      ∃ t, exec (.perstNAssert) s = .next t ∧
        t.bootu.perstLow = true ∧
        t.bootu.mcRunning = false ∧
        t.bootu.nextCause = 1 ∧
        t.cells = s.cells ∧
        t.ecc.log = s.ecc.log) ∧
  (∀ (s : State),
      s.bootu.perstLow = true →
      s.bootu.coldHeld = false →
      s.bootu.jtagHold = false →
      ∃ t, exec (.perstNRelease) s = .next t ∧
        t.bootu.perstLow = false ∧
        t.bootu.startTime = s.time ∧
        t.fld Reg.BOOT_STAT Fld.BOOT_STAT_CAUSE = s.bootu.nextCause % 2 ^ fieldWidth Fld.BOOT_STAT_CAUSE) ∧
  (∀ (s : State) (levels : List Bool),
      ∃ t, exec (.jtagExtest true levels) s = .next t ∧
        t.bootu.jtagHold = true ∧
        t.pins.jtagSafe = some levels) ∧
  (∀ (s : State) (levels : List Bool),
      s.bootu.jtagHold = true →
      ∃ t, exec (.jtagExtest false levels) s = .next t ∧
        t.bootu.jtagHold = false ∧
        t.pins.jtagSafe = none)

/-- Outside reset: a reference that the device has locks the T-PLL and begins phase 2; the SRAM tests that pass begin the reading of
slot A, those that fail make the BOOT cause active; a slot that cannot be read falls back to slot B with FALLBACK; one that is
read starts the MC; with the DRAM trained and tested phase 4 follows, and a valid image phase 6, an invalid one slot B with
BOOT_ERRA its error; BOOT_DONE, once the device is timed, is phase 7 with SMON running. Each clause gives the condition under
which the command completes with its own effect. Where the clauses rest on readings or choices of the model, these are log
entries 43, 45, 47, 114. Rests on 15_boot_image.md (R403, R404, R405, R410, R411). -/
def Obligations.BootSequence : Prop :=
  (∀ (s : State) (src : Nat),
      s.inReset = false →
      s.bootPhase = 0 →
      1 ≤ src →
      src < 5 →
      hasFp s.fac.variant (src - 1) = true →
      ∃ t, exec (.bootReferenceAcquired src) s = .next t ∧
        t.bootPhase = 2 ∧
        t.clkSel = src ∧
        t.flag Reg.CLK_STAT Fld.CLK_STAT_T_LOCK = true) ∧
  (∀ (s : State) (march : Nat) (dram : DramTests),
      s.inReset = false →
      s.causeActive 13 = false →
      s.bootPhase = 2 →
      march % 32 = 0 →
      ∃ t, exec (.bootSelfTests march false dram) s = .next t ∧
        t.bootPhase = 3 ∧
        t.bootu.slotB = false) ∧
  (∀ (s : State) (march : Nat) (chk : Bool) (dram : DramTests),
      s.inReset = false →
      s.causeActive 13 = false →
      s.bootPhase = 2 →
      (march % 32 ≠ 0 ∨ chk = true) →
      ∃ t, exec (.bootSelfTests march chk dram) s = .next t ∧
        t.causeActive 13 = true ∧
        t.bootPhase = 2) ∧
  (∀ (s : State) (march : Nat) (chk : Bool) (dram : DramTests),
      s.inReset = false →
      s.causeActive 13 = false →
      s.bootPhase = 3 →
      s.bootu.sections ≠ [] →
      dram.failed = [] →
      ∃ t, exec (.bootSelfTests march chk dram) s = .next t ∧
        t.bootPhase = 4 ∧
        t.bootu.dramTested = true ∧
        t.flag Reg.CLK_STAT Fld.CLK_STAT_F_LOCK = true ∧
        t.flag Reg.CLK_STAT Fld.CLK_STAT_M_LOCK = true) ∧
  (∀ (s : State) (found : Word) (bytes : List (BitVec 8)),
      s.inReset = false →
      s.bootPhase = 3 →
      s.bootu.sections = [] →
      s.bootu.slotB = false →
      ∃ t, exec (.imageValidation false found false bytes) s = .next t ∧
        t.bootu.slotB = true ∧
        t.bootPhase = 3 ∧
        t.flag Reg.BOOT_STAT Fld.BOOT_STAT_FALLBACK = true) ∧
  (∀ (s : State) (found : Word) (bytes : List (BitVec 8)) (l : List Sec),
      s.inReset = false →
      s.bootPhase = 3 →
      s.bootu.sections = [] →
      s.bootu.slotB = false →
      s.flag Reg.BOOT_CTRL Fld.BOOT_CTRL_FL_RELEASE = false →
      structure_ bytes true = .inr l →
      ∃ t, exec (.imageValidation false found true bytes) s = .next t ∧
        t.bootu.mcRunning = true ∧
        t.bootu.imageId = leAt bytes 12 4 ∧
        t.bootPhase = 3) ∧
  (∀ (s : State) (graphId : Word) (graph g : List NodeDef),
      s.inReset = false →
      s.bootPhase = 4 →
      s.bootu.dramTested = true →
      s.causeActive 13 = false →
      (g = if s.bootu.sections.any (fun p => p.1 == 4) then graph else []) →
      s.imageErr g (s.freeNat 16).1 = none →
      ∃ t, exec (.semanticValidation graphId graph) s = .next t ∧
        t.bootPhase = 6) ∧
  (∀ (s : State) (graphId : Word) (graph g : List NodeDef) (e : ImgErr),
      s.inReset = false →
      s.bootPhase = 4 →
      s.bootu.dramTested = true →
      s.causeActive 13 = false →
      s.bootu.slotB = false →
      (g = if s.bootu.sections.any (fun p => p.1 == 4) then graph else []) →
      s.imageErr g (s.freeNat 16).1 = some e →
      ∃ t, exec (.semanticValidation graphId graph) s = .next t ∧
        t.bootPhase = 3 ∧
        t.bootu.slotB = true ∧
        t.reg Reg.BOOT_ERRA = BitVec.ofNat 32 (e.code * 2 ^ 24 + min e.stype 255 * 2 ^ 16 + e.entry % 2 ^ 16)) ∧
  (∀ (s : State),
      s.inReset = false →
      s.bootPhase = 6 →
      s.timed = true →
      ∃ t, exec (.bootDone) s = .next t ∧
        t.bootPhase = 7 ∧
        t.smon.running = true ∧
        t.reg Reg.BOOT_IMG = BitVec.ofNat 32 s.bootu.imageId)

/-- A firmware that gives no sign of its start within 100 ms, up to the DRAM's initialisation, falls back from slot A to slot B, and
from slot B fails BOOT; RETRY of a failed BOOT begins another with its cause; FL_RELEASE can be set only in SERVICE or after a
failed BOOT, and always cleared. Each clause gives the condition under which the command completes with its own effect. Where
the clauses rest on readings or choices of the model, these are log entries 25, 109. Rests on 15_boot_image.md (R406, R410,
R412). -/
def Obligations.BootFailure : Prop :=
  (∀ (s : State),
      s.inReset = false →
      (s.bootPhase = 3 ∨ s.bootPhase = 4) →
      s.fwStarted = false →
      msTime 100 ≤ (s.time - s.bootu.mcFrom).toNat →
      s.bootu.sections ≠ [] →
      s.bootu.slotB = false →
      ∃ t, exec (.fwStartTimeout) s = .next t ∧
        t.bootu.slotB = true ∧
        t.bootPhase = 3 ∧
        t.bootu.sections = []) ∧
  (∀ (s : State),
      s.inReset = false →
      (s.bootPhase = 3 ∨ s.bootPhase = 4) →
      s.fwStarted = false →
      msTime 100 ≤ (s.time - s.bootu.mcFrom).toNat →
      s.bootu.sections ≠ [] →
      s.bootu.slotB = true →
      ∃ t, exec (.fwStartTimeout) s = .next t ∧
        t.bootFailed = true ∧
        t.bootu.mcRunning = false) ∧
  (∀ (s : State),
      s.bootFailed = true →
      ∃ t, exec (.bootRetry) s = .next t ∧
        t.fld Reg.BOOT_STAT Fld.BOOT_STAT_CAUSE = 3 ∧
        t.bootu.startTime = s.time ∧
        t.bootu.restarts = []) ∧
  (∀ (s : State) (v : Bool),
      (v = false ∨ s.inService = true ∨ s.bootFailed = true) →
      ∃ t, exec (.flReleaseWrite v) s = .next t ∧
        t.flag Reg.BOOT_CTRL Fld.BOOT_CTRL_FL_RELEASE = v) ∧
  (∀ (s : State),
      s.inService = false →
      s.bootFailed = false →
      ∃ t, exec (.flReleaseWrite true) s = .next t ∧
        t.flag Reg.BOOT_CTRL Fld.BOOT_CTRL_FL_RELEASE = s.flag Reg.BOOT_CTRL Fld.BOOT_CTRL_FL_RELEASE)

/-- Only the MC's kick begins the 50 ms anew; without one, once the firmware has started, or at an uncorrectable error of its SRAM,
it stops and its cause of SAFE is active; it runs again and refuses what was in flight, but is held at the third event of an
hour; its load above 90 % sets SAT, below 80 % clears it; RELOAD is OK. Each clause gives the condition under which the command
completes with its own effect. Where the clauses rest on readings or choices of the model, these are log entries 46, 109, 140.
Rests on 14_host_interface.md (R393); 15_boot_image.md (R417, R419, R420). -/
def Obligations.ManagementCore : Prop :=
  (∀ (s : State),
      ∃ t, exec (.mcWdogKick .mc) s = .next t ∧
        t.bootu.kickAt = s.time) ∧
  (∀ (s : State) (who : Reader),
      who ≠ .mc →
      ∃ t, exec (.mcWdogKick who) s = .next t ∧
        t = s) ∧
  (∀ (s : State) (sram : Bool),
      s.bootu.mcRunning = true →
      (sram = true ∨ s.fwStarted = true ∧ msTime 50 ≤ (s.time - s.bootu.kickAt).toNat) →
      ∃ t, exec (.mcWatchdogExpiry sram) s = .next t ∧
        t.bootu.mcRunning = false ∧
        t.causeActive (if sram then 6 else 5) = true) ∧
  (∀ (s : State),
      s.bootu.mcRunning = false →
      s.bootu.restarts ≠ [] →
      3 ≤ s.bootPhase →
      s.bootPhase ≤ 7 →
      (s.bootPhase = 3 → s.bootu.sections ≠ []) →
      s.flag Reg.MC_WDOG Fld.MC_WDOG_HELD = false →
      s.bootu.restarts.length < 3 →
      ∃ t, exec (.mcRestart) s = .next t ∧
        t.bootu.mcRunning = true ∧
        (t.host.inflight = s.host.inflight.map (fun e =>
        { e with done := some { status := stRefused, detail := 13, time := s.time }, part := none }))) ∧
  (∀ (s : State),
      s.bootu.mcRunning = false →
      3 ≤ s.bootu.restarts.length →
      3 ≤ s.bootPhase →
      s.bootPhase ≤ 7 →
      (s.bootPhase = 3 → s.bootu.sections ≠ []) →
      s.flag Reg.MC_WDOG Fld.MC_WDOG_HELD = false →
      ∃ t, exec (.mcRestart) s = .next t ∧
        t.bootu.mcRunning = false ∧
        t.flag Reg.MC_WDOG Fld.MC_WDOG_HELD = true ∧
        t.host.inflight = s.host.inflight) ∧
  (∀ (s : State) (load : Nat),
      9 * 65536 < 10 * load →
      ∃ t, exec (.mcSaturated load) s = .next t ∧
        t.flag Reg.MC_LOAD Fld.MC_LOAD_SAT = true ∧
        (t.flag Reg.MC_LOAD Fld.MC_LOAD_SAT_S = true ∨ s.flag Reg.MC_LOAD Fld.MC_LOAD_SAT = true) ∧
        (s.flag Reg.MC_LOAD Fld.MC_LOAD_SAT = true → t.recs = s.recs)) ∧
  (∀ (s : State) (load : Nat),
      10 * load < 8 * 65536 →
      ∃ t, exec (.mcSatClear load) s = .next t ∧
        t.flag Reg.MC_LOAD Fld.MC_LOAD_SAT = false) ∧
  (∀ (s : State) (tag : Nat),
      s.takes 0x0003 tag = true →
      s.bootu.mcRunning = true →
      ∃ t, exec (.reload .ring tag) s = .next t ∧
        t.decided 0x0003 tag { status := stOk, time := s.time })

/-- A TAIL within the ring that does not pass HEAD is taken, any other sets DB_ERR and moves nothing; a descriptor is fetched where
no command before it is still to be decided at once and the completion queue has room, and moves HEAD; unless a RELOAD of this
device is in flight its command is in flight then, decided as INVALID where its form is wrong; without a queue WAIT_EQ shows and
HEAD stays. HIF_CMD_CFG takes EN, and enabling the ring starts it empty. Each clause gives the condition under which the command
completes with its own effect. Where the clauses rest on readings or choices of the model, these are log entries 49, 51, 52,
136. Rests on 14_host_interface.md (R389, R393, R402). -/
def Obligations.CommandRing : Prop :=
  (∀ (s : State) (tail : Nat),
      s.bootFailed = false →
      hasHost s.fac.variant = true →
      (s.cmdSize ≤ tail ∨ s.cmdSize ≤ (s.fld Reg.HIF_CMD_DB Fld.HIF_CMD_DB_TAIL + s.cmdSize - s.fld Reg.HIF_CMD_HEAD Fld.HIF_CMD_HEAD_HEAD) % s.cmdSize +
        (tail + s.cmdSize - s.fld Reg.HIF_CMD_DB Fld.HIF_CMD_DB_TAIL) % s.cmdSize) →
      ∃ t, exec (.cmdDoorbell tail) s = .next t ∧
        t.flag Reg.HIF_CMD_STAT Fld.HIF_CMD_STAT_DB_ERR = true ∧
        t.reg Reg.HIF_CMD_DB = s.reg Reg.HIF_CMD_DB) ∧
  (∀ (s : State) (tail : Nat),
      s.bootFailed = false →
      hasHost s.fac.variant = true →
      tail < s.cmdSize →
      (s.fld Reg.HIF_CMD_DB Fld.HIF_CMD_DB_TAIL + s.cmdSize - s.fld Reg.HIF_CMD_HEAD Fld.HIF_CMD_HEAD_HEAD) % s.cmdSize +
        (tail + s.cmdSize - s.fld Reg.HIF_CMD_DB Fld.HIF_CMD_DB_TAIL) % s.cmdSize < s.cmdSize →
      ∃ t, exec (.cmdDoorbell tail) s = .next t ∧
        t.fld Reg.HIF_CMD_DB Fld.HIF_CMD_DB_TAIL = tail % 2 ^ fieldWidth Fld.HIF_CMD_DB_TAIL) ∧
  (∀ (s : State) (d : BitVec 256) (poisoned : Bool) (q : Nat),
      s.hostUp = true →
      s.bootu.mcRunning = true →
      s.flag Reg.HIF_CMD_CFG Fld.HIF_CMD_CFG_EN = true →
      s.cmdWaiting ≠ 0 →
      s.host.inflight.length < 16 →
      (∀ e ∈ s.host.inflight, e.startsAlone = false) →
      s.routeQueue 6 = some q →
      slotsFor d < s.eqFree q →
      ∃ t, exec (.descriptorFetch d poisoned) s = .next t ∧
        t.fld Reg.HIF_CMD_HEAD Fld.HIF_CMD_HEAD_HEAD =
        (s.fld Reg.HIF_CMD_HEAD Fld.HIF_CMD_HEAD_HEAD + 1) % s.cmdSize % 2 ^ fieldWidth Fld.HIF_CMD_HEAD_HEAD ∧
        ((∀ e ∈ s.host.inflight, ¬(e.opcode = 0x0003 ∧ e.target = 0)) → ∃ e ∈ t.host.inflight, e.src = .ring ∧ e.opcode = descOp d ∧ e.tag = descTag d) ∧
        ((∀ e ∈ s.host.inflight, ¬(e.opcode = 0x0003 ∧ e.target = 0)) → ∀ k, s.formError d poisoned = some k →
        t.decided (descOp d) (descTag d) { status := stInvalid, detail := k, time := s.time })) ∧
  (∀ (s : State) (d : BitVec 256) (poisoned : Bool),
      s.hostUp = true →
      s.bootu.mcRunning = true →
      s.flag Reg.HIF_CMD_CFG Fld.HIF_CMD_CFG_EN = true →
      s.cmdWaiting ≠ 0 →
      s.host.inflight.length < 16 →
      (∀ e ∈ s.host.inflight, e.startsAlone = false) →
      s.routeQueue 6 = none →
      ∃ t, exec (.descriptorFetch d poisoned) s = .next t ∧
        t.flag Reg.HIF_CMD_STAT Fld.HIF_CMD_STAT_WAIT_EQ = true ∧
        t.reg Reg.HIF_CMD_HEAD = s.reg Reg.HIF_CMD_HEAD) ∧
  (∀ (s : State) (v : Word),
      s.bootFailed = false →
      hasHost s.fac.variant = true →
      ∃ t, exec (.cmdRingEnable v) s = .next t ∧
        t.flag Reg.HIF_CMD_CFG Fld.HIF_CMD_CFG_EN = decide (getField Fld.HIF_CMD_CFG_EN v = 1) ∧
        (s.flag Reg.HIF_CMD_CFG Fld.HIF_CMD_CFG_EN = false → getField Fld.HIF_CMD_CFG_EN v = 1 → t.reg Reg.HIF_CMD_HEAD = 0 ∧ t.reg Reg.HIF_CMD_DB = 0))

/-- REG_READ and REG_WRITE are INVALID for an access that R395 does not allow. On this device REG_READ of an absent unit is ABSENT,
and of any other register OK with the eight bytes of the value read as reader MC; REG_WRITE of a present unit is refused by
STATE in a mode that does not accept it, REFUSED in a routing window, and otherwise writes as reader MC and is OK. For another
device with a route either becomes a request that waits for its answer, without one it is INVALID. Each clause gives the
condition under which the command completes with its own effect. Where the clauses rest on readings or choices of the model,
these are log entries 50, 115. Rests on 12_modes_clocks_pacer.md (R315); 13_fabric.md (R361); 14_host_interface.md (R395). -/
def Obligations.RegisterCommands : Prop :=
  (∀ (s : State) (tag target size off : Nat),
      s.takes 0x0011 tag = true →
      accessOk size off = false →
      ∃ t, exec (.regRead .ring tag target size off) s = .next t ∧
        t.decided 0x0011 tag { status := stInvalid, detail := 2, time := s.time }) ∧
  (∀ (s : State) (tag target size off : Nat),
      s.takes 0x0011 tag = true →
      accessOk size off = true →
      s.isHere target = true →
      s.absentTo .mc off = true →
      ∃ t, exec (.regRead .ring tag target size off) s = .next t ∧
        t.decided 0x0011 tag { status := stAbsent, time := s.time }) ∧
  (∀ (s : State) (tag target size off : Nat),
      accessOk size off = true →
      s.isHere target = true →
      s.absentTo .mc off = false →
      ∃ t, exec (.regRead .ring tag target size off) s = .next t ∧
        ((s.readAccess .mc off (4 + 4 * size)).2.takes 0x0011 tag = true → t.decided 0x0011 tag
        { status := stOk, result := leBytes 8 (s.readAccess .mc off (4 + 4 * size)).1, time := (s.readAccess .mc off (4 + 4 * size)).2.time }) ∧
        t.host = ((s.readAccess .mc off (4 + 4 * size)).2.settle .ring 0x0011 tag { status := stOk, result := leBytes 8 (s.readAccess .mc off (4 + 4 * size)).1 }).host) ∧
  (∀ (s : State) (tag target size off data : Nat),
      s.takes 0x0012 tag = true →
      accessOk size off = false →
      ∃ t, exec (.regWrite .ring tag target size off data) s = .next t ∧
        t.decided 0x0012 tag { status := stInvalid, detail := 2, time := s.time }) ∧
  (∀ (s : State) (tag target size off data : Nat),
      s.takes 0x0012 tag = true →
      accessOk size off = true →
      s.isHere target = true →
      s.absentTo .mc off = false →
      bitAt (acceptMask 0x0012 0 off) s.curMode = true →
      inRouteWindow off = true →
      ∃ t, exec (.regWrite .ring tag target size off data) s = .next t ∧
        t.decided 0x0012 tag { status := stRefused, time := s.time }) ∧
  (∀ (s : State) (src : CmdSrc) (tag target size off data : Nat),
      accessOk size off = true →
      s.isHere target = true →
      s.absentTo .mc off = false →
      bitAt (acceptMask 0x0012 0 off) s.curMode = true →
      inRouteWindow off = false →
      ∃ t, exec (.regWrite src tag target size off data) s = .next t ∧
        (src = .ring → (s.writeAccess .mc off (4 + 4 * size) data).takes 0x0012 tag = true →
        t.decided 0x0012 tag { status := stOk, time := (s.writeAccess .mc off (4 + 4 * size) data).time }) ∧
        t.regs = ((s.writeAccess .mc off (4 + 4 * size) data).settle src 0x0012 tag { status := stOk }).regs ∧
        t.host = ((s.writeAccess .mc off (4 + 4 * size) data).settle src 0x0012 tag { status := stOk }).host) ∧
  (∀ (s : State) (tag target size off data : Nat),
      s.takes 0x0012 tag = true →
      accessOk size off = true →
      s.isHere target = true →
      s.absentTo .mc off = false →
      bitAt (acceptMask 0x0012 0 off) s.curMode = false →
      ∃ t, exec (.regWrite .ring tag target size off data) s = .next t ∧
        t.decided 0x0012 tag { s.stateStatus (acceptMask 0x0012 0 off) with time := s.time } ∧
        t.regs = (s.settle .ring 0x0012 tag (s.stateStatus (acceptMask 0x0012 0 off))).regs) ∧
  (∀ (s : State) (src : CmdSrc) (tag target size off : Nat),
      accessOk size off = true →
      s.isHere target = false →
      target ≠ 0xFFF →
      (s.routePort s.epoch target).isSome = true →
      ∃ t, exec (.regRead src tag target size off) s = .next t ∧
        (∃ q ∈ t.fab.reqs, q.dst = target ∧ q.client = .command src 0x0011 tag size)) ∧
  (∀ (s : State) (src : CmdSrc) (tag target size off data : Nat),
      accessOk size off = true →
      s.isHere target = false →
      target ≠ 0xFFF →
      (s.routePort s.epoch target).isSome = true →
      ∃ t, exec (.regWrite src tag target size off data) s = .next t ∧
        (∃ q ∈ t.fab.reqs, q.dst = target ∧ q.client = .command src 0x0012 tag size)) ∧
  (∀ (s : State) (tag target size off : Nat),
      s.takes 0x0011 tag = true →
      accessOk size off = true →
      s.isHere target = false →
      (target = 0xFFF ∨ s.routePort s.epoch target = none) →
      ∃ t, exec (.regRead .ring tag target size off) s = .next t ∧
        t.decided 0x0011 tag { status := stInvalid, detail := 3, time := s.time }) ∧
  (∀ (s : State) (tag target size off data : Nat),
      s.takes 0x0012 tag = true →
      accessOk size off = true →
      s.isHere target = false →
      (target = 0xFFF ∨ s.routePort s.epoch target = none) →
      ∃ t, exec (.regWrite .ring tag target size off data) s = .next t ∧
        t.decided 0x0012 tag { status := stInvalid, detail := 3, time := s.time })

/-- EQ_CFG takes EN, and enabling starts the queue empty; a TAIL outside the queue sets TAIL_ERR and moves nothing, one that frees
records written is taken. The oldest waiting record leaves where its queue or its home can take it, in order. A record of
another device that no queue can take is not acknowledged and, where it reports no lost device, changes nothing; one that is
taken has its answer kept; a repeat is written no second time; its completions go to the command. A decided command's completion
leaves the flight and is counted; that of RELOAD begins the new BOOT with its cause and leaves DRAM. Each clause gives the
condition under which the command completes with its own effect. Where the clauses rest on readings or choices of the model,
these are log entries 41, 48. Rests on 14_host_interface.md (R393, R397, R399, R402). -/
def Obligations.EventQueues : Prop :=
  (∀ (s : State) (q : Nat) (v : Word),
      s.bootFailed = false →
      hasHost s.fac.variant = true →
      q < 4 →
      ∃ t, exec (.eqCfgEnable q v) s = .next t ∧
        t.flag (Reg.EQ_CFG q) Fld.EQ_CFG_EN = decide (getField Fld.EQ_CFG_EN v = 1) ∧
        (s.eqOn q = false → getField Fld.EQ_CFG_EN v = 1 → t.reg (Reg.EQ_TAIL q) = 0 ∧ t.eqU q = {})) ∧
  (∀ (s : State) (q v : Nat),
      s.bootFailed = false →
      hasHost s.fac.variant = true →
      q < 4 →
      s.eqSize q ≤ v →
      ∃ t, exec (.eqTailWrite q v) s = .next t ∧
        t.flag (Reg.EQ_STAT q) Fld.EQ_STAT_TAIL_ERR = true ∧
        t.reg (Reg.EQ_TAIL q) = s.reg (Reg.EQ_TAIL q) ∧
        t.eqU q = s.eqU q) ∧
  (∀ (s : State) (q v : Nat),
      s.bootFailed = false →
      hasHost s.fac.variant = true →
      q < 4 →
      v < s.eqSize q →
      v ≠ s.fld (Reg.EQ_TAIL q) Fld.EQ_TAIL_TAIL →
      (v + s.eqSize q - s.fld (Reg.EQ_TAIL q) Fld.EQ_TAIL_TAIL) % s.eqSize q ≤ (s.eqU q).written →
      ∃ t, exec (.eqTailWrite q v) s = .next t ∧
        t.fld (Reg.EQ_TAIL q) Fld.EQ_TAIL_TAIL = v % 2 ^ fieldWidth Fld.EQ_TAIL_TAIL ∧
        t.fld (Reg.EQ_STAT q) Fld.EQ_STAT_TAIL_ERR = s.fld (Reg.EQ_STAT q) Fld.EQ_STAT_TAIL_ERR) ∧
  (∀ (s : State) (r : Rec) (rest : List Rec) (q : Nat),
      s.recs = r :: rest →
      s.host.pcieEver = true →
      s.canWrite (classOf r.type) = some q →
      ∃ t, exec (.eventRecordWrite) s = .next t ∧
        t.recs = rest) ∧
  (∀ (s : State) (r : Rec) (rest : List Rec),
      s.recs = r :: rest →
      s.host.pcieEver = true →
      s.canWrite (classOf r.type) = none →
      ∃ t, exec (.eventRecordWrite) s = .next t ∧
        t = s) ∧
  (∀ (s : State) (r : Rec) (rest : List Rec) (h : Nat),
      s.recs = r :: rest →
      s.host.pcieEver = false →
      s.eventHome = some h →
      ∃ t, exec (.eventRecordWrite) s = .next t ∧
        t.recs = rest) ∧
  (∀ (s : State),
      ∃ t, exec (.eventDeferredDelivery) s = .next t ∧
        t.recs <:+ s.recs) ∧
  (∀ (s : State) (r : Rec) (rest : List Rec) (q : Nat),
      s.recs = r :: rest →
      s.host.pcieEver = true →
      s.canWrite (classOf r.type) = some q →
      ∃ t, exec (.eventDeferredDelivery) s = .next t ∧
        t.recs <:+ rest) ∧
  (∀ (s : State) (origin tag : Nat) (r : Rec),
      s.keptAnswer origin (tag % 256) = none →
      r.type ≠ 0x0600 →
      r.type ≠ 0x0601 →
      r.type ≠ 0x0423 →
      (s.host.pcieEver = false ∨ s.canWrite (classOf r.type) = none) →
      ∃ t, exec (.eventPacketRx origin tag r) s = .next t ∧
        t = s) ∧
  (∀ (s : State) (origin tag q : Nat) (r : Rec),
      s.keptAnswer origin (tag % 256) = none →
      r.type ≠ 0x0600 →
      r.type ≠ 0x0601 →
      s.host.pcieEver = true →
      s.canWrite (classOf r.type) = some q →
      ∃ t, exec (.eventPacketRx origin tag r) s = .next t ∧
        (∃ a ∈ t.fab.answers, a.src = origin ∧ a.tag = tag % 256)) ∧
  (∀ (s : State) (origin tag : Nat) (r : Rec) (a : Packet),
      s.keptAnswer origin (tag % 256) = some a →
      ∃ t, exec (.eventPacketRx origin tag r) s = .next t ∧
        t.host = s.host ∧
        t.recs = s.recs ∧
        t.fab.answers = s.fab.answers) ∧
  (∀ (s : State) (origin tag : Nat) (r : Rec),
      s.keptAnswer origin (tag % 256) = none →
      (r.type = 0x0600 ∨ r.type = 0x0601) →
      ∃ t, exec (.eventPacketRx origin tag r) s = .next t ∧
        t.host.inflight = completionPart origin r s.host.inflight) ∧
  (∀ (s : State) (e : InFlight) (rest : List InFlight) (c : Completion) (q : Nat),
      s.host.inflight = e :: rest →
      e.done = some c →
      s.canWrite 6 = some q →
      s.bootu.mcRunning = true →
      (e.opcode ≠ 0x0003 ∨ e.target ≠ 0 ∨ c.status ≠ stOk) →
      (s.completionOf e c).length + bit ((s.setInflight rest).originNeeded q ((s.completionOf e c).headD (mkRec 0x0600 0 c.time []))) ≤ (s.setInflight rest).eqFree q →
      ∃ t, exec (.completion) s = .next t ∧
        t.host.inflight = rest ∧
        t.fld Reg.HIF_CMD_CNT Fld.HIF_CMD_CNT_COUNT = satInc (fieldWidth Fld.HIF_CMD_CNT_COUNT) (s.fld Reg.HIF_CMD_CNT Fld.HIF_CMD_CNT_COUNT)) ∧
  (∀ (s : State) (e : InFlight) (rest : List InFlight) (c : Completion) (q : Nat),
      s.host.inflight = e :: rest →
      e.done = some c →
      s.canWrite 6 = some q →
      s.bootu.mcRunning = true →
      e.opcode = 0x0003 →
      e.target = 0 →
      c.status = stOk →
      (s.completionOf e c).length + bit ((s.setInflight rest).originNeeded q ((s.completionOf e c).headD (mkRec 0x0600 0 c.time []))) ≤ (s.setInflight rest).eqFree q →
      ∃ t, exec (.completion) s = .next t ∧
        t.bootPhase = 0 ∧
        t.fld Reg.BOOT_STAT Fld.BOOT_STAT_CAUSE = 2 ∧
        t.cells = s.cells)

/-- The first L0 since PERST_N makes the device host-attached; the loss of the link ends LINK_UP and DMA, its return raises it;
D3hot shows in DSTATE; with MSI-X enabled, a vector whose moderation is reached is sent, or pends where it or the function is
masked. A read of BAR2 answers with data of its length; a write below the host region is counted in HIF_WIN_DROP, one beyond
DRAM in DEV_ABSENT_WR, and neither stores; one inside is counted in neither, and a narrow one leaves its entry in the merge
buffer; no write changes a cell but those it covers and those of the merge entries there were. Each clause gives the condition
under which the command completes with its own effect. Where the clauses rest on readings or choices of the model, these are log
entries 49, 131, 134, 136. Rests on 00_scope.md (R8); 13_fabric.md (R360); 14_host_interface.md (R385, R387, R388). -/
def Obligations.HostLink : Prop :=
  (∀ (s : State),
      hasHost s.fac.variant = true →
      s.host.pcieEver = false →
      s.bootu.perstLow = false →
      ∃ t, exec (.pcieL0) s = .next t ∧
        t.host.pcieEver = true ∧
        t.flag Reg.HIF_STAT Fld.HIF_STAT_LINK_UP = true) ∧
  (∀ (s : State),
      hasHost s.fac.variant = true →
      ∃ t, exec (.pcieLinkDown) s = .next t ∧
        t.flag Reg.HIF_STAT Fld.HIF_STAT_LINK_UP = false ∧
        t.reg Reg.HIF_DMA_BUSY = 0 ∧
        t.host = s.host) ∧
  (∀ (s : State),
      s.host.pcieEver = true →
      ∃ t, exec (.pcieLinkReturn) s = .next t ∧
        t.flag Reg.HIF_STAT Fld.HIF_STAT_LINK_UP = true) ∧
  (∀ (s : State) (enter : Bool),
      hasHost s.fac.variant = true →
      ∃ t, exec (.d3hotEntry enter) s = .next t ∧
        t.host.d3hot = enter ∧
        (t.fld Reg.HIF_STAT Fld.HIF_STAT_DSTATE = if enter then 3 else 0)) ∧
  (∀ (s : State) (v : Nat),
      v < 16 →
      s.hostUp = true →
      0 < (s.msiU v).pending →
      (s.fld (Reg.HIF_VMOD v) Fld.HIF_VMOD_COUNT ≤ (s.msiU v).pending ∨ s.longSince (some (s.msiU v).oldest) (usTime (s.fld (Reg.HIF_VMOD v) Fld.HIF_VMOD_TIME)) = true) →
      s.host.pci.msixOn = true →
      s.host.pci.msixMask = false →
      s.flag (Reg.MSIX_CTRL v) Fld.MSIX_CTRL_MASK = false →
      ∃ t, exec (.msixSend v) s = .next t ∧
        t.out = .msix v :: s.out ∧
        (t.msiU v).pending = 0) ∧
  (∀ (s : State) (v : Nat),
      v < 16 →
      s.hostUp = true →
      0 < (s.msiU v).pending →
      (s.fld (Reg.HIF_VMOD v) Fld.HIF_VMOD_COUNT ≤ (s.msiU v).pending ∨ s.longSince (some (s.msiU v).oldest) (usTime (s.fld (Reg.HIF_VMOD v) Fld.HIF_VMOD_TIME)) = true) →
      s.host.pci.msixOn = true →
      (s.flag (Reg.MSIX_CTRL v) Fld.MSIX_CTRL_MASK = true ∨ s.host.pci.msixMask = true) →
      ∃ t, exec (.msixSend v) s = .next t ∧
        t.out = s.out ∧
        t.regBit Reg.MSIX_PBA v = true) ∧
  (∀ (s : State) (addr size : Nat),
      s.inBar2 addr size = true →
      ∃ t, exec (.bar2Read addr size) s = .next t ∧
        (∃ data po rest, t.out = .bar2Data data po :: rest ∧ data.length = size)) ∧
  (∀ (s : State) (addr : Nat) (data : List (BitVec 8)),
      s.inBar2 addr data.length = true →
      s.winAddr addr < 32 * dramCells s.fac.variant →
      s.winAddr addr < s.host.hostBase * 2 ^ 20 →
      ∃ t, exec (.bar2Write addr data) s = .next t ∧
        t.cells = s.cells ∧
        t.fld Reg.HIF_WIN_DROP word32 = satInc 32 (s.fld Reg.HIF_WIN_DROP word32)) ∧
  (∀ (s : State) (addr : Nat) (data : List (BitVec 8)),
      s.inBar2 addr data.length = true →
      32 * dramCells s.fac.variant ≤ s.winAddr addr →
      ∃ t, exec (.bar2Write addr data) s = .next t ∧
        t.cells = s.cells ∧
        t.fld Reg.DEV_ABSENT_WR word32 = satInc 32 (s.fld Reg.DEV_ABSENT_WR word32)) ∧
  (∀ (s : State) (addr : Nat) (data : List (BitVec 8)),
      s.inBar2 addr data.length = true →
      s.winAddr addr + data.length ≤ 32 * dramCells s.fac.variant →
      s.host.hostBase * 2 ^ 20 ≤ s.winAddr addr →
      s.winAddr addr + data.length ≤ s.host.hostBase * 2 ^ 20 + s.host.hostMib * 2 ^ 20 →
      ∃ t, exec (.bar2Write addr data) s = .next t ∧
        t.reg Reg.HIF_WIN_DROP = s.reg Reg.HIF_WIN_DROP ∧
        t.reg Reg.DEV_ABSENT_WR = s.reg Reg.DEV_ABSENT_WR ∧
        (data.length = 1 → s.winAddr addr % 32 < 30 → s.ecc.merge = [] → ∃ e ∈ t.ecc.merge, e.cell = s.winAddr addr / 32)) ∧
  (∀ (s : State) (addr : Nat) (data : List (BitVec 8)),
      ∃ t, exec (.bar2Write addr data) s = .next t ∧
        (∀ a, (∀ e ∈ s.ecc.merge, e.cell ≠ a) → ¬(s.winAddr addr / 32 ≤ a ∧ a ≤ (s.winAddr addr + data.length - 1) / 32) →
        t.cellAt a = s.cellAt a))
end

