-- ==== Sys2Proof/Laws/Fields.lean ====
section
/-!
SUPPORT. What reading and replacing a field of a word do: the field put is read back, a field apart from it keeps its number.
-/

set_option Elab.async false
namespace Sys2Proof.Machine

/-- A field that lies in a 32-bit word. -/
def Field.inWord (f : Field) : Prop := f.lo ≤ f.hi ∧ f.hi < 32

theorem pow_split {f : Field} (h : f.lo ≤ f.hi) : 2 ^ (f.hi + 1) = 2 ^ fieldWidth f * 2 ^ f.lo := by
  rw [← pow_add]
  congr 1
  unfold fieldWidth
  omega

theorem putField_low {f : Field} (h : f.lo ≤ f.hi) (w : Word) (v : Nat) :
    (v % 2 ^ fieldWidth f) * 2 ^ f.lo + w.toNat % 2 ^ f.lo < 2 ^ (f.hi + 1) := by
  rw [pow_split h]
  have h1 : v % 2 ^ fieldWidth f < 2 ^ fieldWidth f := Nat.mod_lt _ (by positivity)
  have h2 : w.toNat % 2 ^ f.lo < 2 ^ f.lo := Nat.mod_lt _ (by positivity)
  calc (v % 2 ^ fieldWidth f) * 2 ^ f.lo + w.toNat % 2 ^ f.lo < (v % 2 ^ fieldWidth f) * 2 ^ f.lo + 2 ^ f.lo := by omega
    _ = (v % 2 ^ fieldWidth f + 1) * 2 ^ f.lo := by ring
    _ ≤ 2 ^ fieldWidth f * 2 ^ f.lo := Nat.mul_le_mul_right _ h1

theorem putField_toNat {f : Field} (h : Field.inWord f) (w : Word) (v : Nat) :
    (putField f w v).toNat = w.toNat / 2 ^ (f.hi + 1) * 2 ^ (f.hi + 1) + ((v % 2 ^ fieldWidth f) * 2 ^ f.lo + w.toNat % 2 ^ f.lo) := by
  have hl := putField_low h.1 w v
  have hw : w.toNat < 2 ^ 32 := w.isLt
  have hp : 2 ^ (f.hi + 1) * 2 ^ (32 - (f.hi + 1)) = 2 ^ 32 := by
    rw [← pow_add]
    congr 1
    have := h.2
    omega
  have ha : w.toNat / 2 ^ (f.hi + 1) < 2 ^ (32 - (f.hi + 1)) := by
    apply Nat.div_lt_of_lt_mul
    rw [hp]
    exact hw
  unfold putField
  rw [BitVec.toNat_ofNat, Nat.mod_eq_of_lt, Nat.add_assoc]
  calc w.toNat / 2 ^ (f.hi + 1) * 2 ^ (f.hi + 1) + (v % 2 ^ fieldWidth f) * 2 ^ f.lo + w.toNat % 2 ^ f.lo
      < w.toNat / 2 ^ (f.hi + 1) * 2 ^ (f.hi + 1) + 2 ^ (f.hi + 1) := by omega
    _ = (w.toNat / 2 ^ (f.hi + 1) + 1) * 2 ^ (f.hi + 1) := by ring
    _ ≤ 2 ^ (32 - (f.hi + 1)) * 2 ^ (f.hi + 1) := Nat.mul_le_mul_right _ ha
    _ = 2 ^ 32 := by rw [Nat.mul_comm, hp]

/-- The field put is read back, modulo its size. -/
theorem getField_putField {f : Field} (h : Field.inWord f) (w : Word) (v : Nat) :
    getField f (putField f w v) = v % 2 ^ fieldWidth f := by
  have hm : w.toNat % 2 ^ f.lo < 2 ^ f.lo := Nat.mod_lt _ (by positivity)
  unfold getField
  rw [putField_toNat h, pow_split h.1]
  have e : w.toNat / (2 ^ fieldWidth f * 2 ^ f.lo) * (2 ^ fieldWidth f * 2 ^ f.lo) + ((v % 2 ^ fieldWidth f) * 2 ^ f.lo + w.toNat % 2 ^ f.lo)
      = w.toNat % 2 ^ f.lo + (w.toNat / (2 ^ fieldWidth f * 2 ^ f.lo) * 2 ^ fieldWidth f + v % 2 ^ fieldWidth f) * 2 ^ f.lo := by ring
  rw [e, Nat.add_mul_div_right _ _ (by positivity), Nat.div_eq_of_lt hm, Nat.zero_add, Nat.mul_comm, Nat.mul_add_mod, Nat.mod_mod]

/-- A field apart from the one put keeps its number. -/
theorem getField_putField_apart {f g : Field} (h : Field.inWord f) (hg : g.lo ≤ g.hi) (ha : f.hi < g.lo ∨ g.hi < f.lo) (w : Word) (v : Nat) :
    getField g (putField f w v) = getField g w := by
  unfold getField
  rw [putField_toNat h]
  have hl := putField_low h.1 w v
  rcases ha with ha | ha
  · have e : ∀ x : Nat, x / 2 ^ g.lo = x / 2 ^ (f.hi + 1) / 2 ^ (g.lo - (f.hi + 1)) := by
      intro x
      rw [Nat.div_div_eq_div_mul, ← pow_add]
      congr 2
      omega
    rw [e, e w.toNat, Nat.add_comm, Nat.add_mul_div_right _ _ (by positivity), Nat.div_eq_of_lt hl, Nat.zero_add]
  · have e : ∀ x : Nat, x / 2 ^ g.lo % 2 ^ fieldWidth g = x % 2 ^ f.lo / 2 ^ g.lo % 2 ^ fieldWidth g := by
      intro x
      have hd : 2 ^ f.lo = 2 ^ g.lo * 2 ^ (f.lo - g.lo) := by
        rw [← pow_add]
        congr 1
        omega
      have hk : 2 ^ fieldWidth g ∣ 2 ^ (f.lo - g.lo) := by
        apply pow_dvd_pow
        unfold fieldWidth
        omega
      rw [hd, Nat.mod_mul_right_div_self, Nat.mod_mod_of_dvd _ hk]
    rw [e, e w.toNat]
    congr 2
    have hs : 2 ^ (f.hi + 1) = 2 ^ fieldWidth f * 2 ^ f.lo := pow_split h.1
    rw [hs]
    have r : w.toNat / (2 ^ fieldWidth f * 2 ^ f.lo) * (2 ^ fieldWidth f * 2 ^ f.lo) + ((v % 2 ^ fieldWidth f) * 2 ^ f.lo + w.toNat % 2 ^ f.lo)
        = 2 ^ f.lo * (w.toNat / (2 ^ fieldWidth f * 2 ^ f.lo) * 2 ^ fieldWidth f + v % 2 ^ fieldWidth f) + w.toNat % 2 ^ f.lo := by ring
    rw [r, Nat.mul_add_mod, Nat.mod_mod]

end Sys2Proof.Machine
end

