-- ==== Sys2Proof/Laws/Store.lean ====
section
/-!
SUPPORT. What stores do: a value that has been set is read back, every other key keeps its value, and setting keeps the canonical form.
-/

set_option Elab.async false
namespace Sys2Proof.Machine

variable {α : Type}

/-- A key that has been put is listed with its value, and every other key as before. -/
theorem Store.find_put (k j : Nat) (v : α) (m : Store α) :
    Store.find (Store.put k v m) j = if k = j then some v else Store.find m j := by
  induction m <;> grind [Store.put, Store.find]

/-- A key that has been dropped is not listed, and every other key is as before. -/
theorem Store.find_drop (k j : Nat) (m : Store α) : Store.find (Store.drop k m) j = if k = j then none else Store.find m j := by
  unfold Store.drop
  induction m <;> grind [Store.find]

/-- Reading any key after one has been set. -/
theorem Store.get_set [DecidableEq α] (d : Nat → α) (m : Store α) (k j : Nat) (v : α) :
    Store.get d (Store.set d m k v) j = if j = k then v else Store.get d m j := by
  grind [Store.get, Store.set, Store.find_put, Store.find_drop]

/-- A value that has been set is read back. -/
@[simp] theorem Store.get_set_self [DecidableEq α] (d : Nat → α) (m : Store α) (k : Nat) (v : α) :
    Store.get d (Store.set d m k v) k = v := by
  rw [Store.get_set, if_pos rfl]

/-- Every other key keeps its value. -/
theorem Store.get_set_other [DecidableEq α] (d : Nat → α) (m : Store α) {k j : Nat} (h : j ≠ k) (v : α) :
    Store.get d (Store.set d m k v) j = Store.get d m j := by
  rw [Store.get_set, if_neg h]

/-- Rising from a bound, said of the keys as a list. -/
theorem Store.risesFrom_iff (b : Option Nat) (m : Store α) :
    Store.risesFrom b m = true ↔ m.Pairwise (fun x y => x.1 < y.1) ∧ ∀ x ∈ m, ∀ y, b = some y → y < x.1 := by
  induction m generalizing b with
  | nil => cases b <;> simp [Store.risesFrom]
  | cons e m ih =>
    cases b with
    | none => grind [Store.risesFrom, List.pairwise_cons]
    | some c => grind [Store.risesFrom, List.pairwise_cons]

theorem Store.risesFrom_filter (p : Nat × α → Bool) (b : Option Nat) (m : Store α) (h : Store.risesFrom b m = true) :
    Store.risesFrom b (m.filter p) = true := by
  rw [Store.risesFrom_iff] at h ⊢
  exact ⟨h.1.filter p, fun x hx => h.2 x (List.mem_of_mem_filter hx)⟩

/-- What is listed after a put. -/
theorem Store.mem_put {k : Nat} {v : α} {m : Store α} {e : Nat × α} (h : e ∈ Store.put k v m) : e = (k, v) ∨ e ∈ m := by
  induction m <;> grind [Store.put]

theorem Store.risesFrom_put (k : Nat) (v : α) (b : Option Nat) (m : Store α) (h : Store.risesFrom b m = true)
    (hk : ∀ y, b = some y → y < k) : Store.risesFrom b (Store.put k v m) = true := by
  induction m generalizing b with
  | nil => cases b <;> grind [Store.put, Store.risesFrom]
  | cons e m ih => cases b <;> grind [Store.put, Store.risesFrom]

/-- Setting a key keeps the canonical form. -/
theorem Store.wf_set [DecidableEq α] (d : Nat → α) (m : Store α) (k : Nat) (v : α) (h : Store.wf d m = true) :
    Store.wf d (Store.set d m k v) = true := by
  simp only [Store.wf, Bool.and_eq_true, List.all_eq_true, decide_eq_true_eq] at h ⊢
  unfold Store.set
  split
  · exact ⟨Store.risesFrom_filter _ _ _ h.1, fun e he => h.2 e (List.mem_filter.1 he).1⟩
  · rename_i hv
    refine ⟨Store.risesFrom_put k v none m h.1 (by simp), fun e he => ?_⟩
    rcases Store.mem_put he with rfl | he
    · exact hv
    · exact h.2 e he

/-- Taking entries off keeps the canonical form. -/
theorem Store.wf_filter [DecidableEq α] (d : Nat → α) (m : Store α) (p : Nat × α → Bool) (h : Store.wf d m = true) :
    Store.wf d (m.filter p) = true := by
  simp only [Store.wf, Bool.and_eq_true, List.all_eq_true, decide_eq_true_eq] at h ⊢
  exact ⟨Store.risesFrom_filter _ _ _ h.1, fun e he => h.2 e (List.mem_filter.1 he).1⟩

/-- The empty store is in canonical form. -/
@[simp] theorem Store.wf_nil [DecidableEq α] (d : Nat → α) : Store.wf d ([] : Store α) = true := rfl

end Sys2Proof.Machine
end

