-- ==== Sys2Proof/Laws/Frame.lean ====
section
/-!
SUPPORT. The frame of an operation, as an equation: `s.outside p` is the state with the parts of `p` blanked, and an operation that
writes only parts of `p` leaves it as it is. One lemma per update of a component, and the ways operations are put together.
-/

set_option Elab.async false
namespace Sys2Proof.Machine

open Classical in
/-- The state with the parts of `p` blanked. -/
noncomputable def State.outside (p : Parts) (s : State) : State where
  pending := s.pending
  fac := s.fac
  regs := s.regs.filter (fun e => !decide (p.regs e.1))
  cycles := bif p.cycles then State.reset.cycles else s.cycles
  time := bif p.time then State.reset.time else s.time
  timeRem := bif p.timeRem then State.reset.timeRem else s.timeRem
  sinceBase := bif p.sinceBase then State.reset.sinceBase else s.sinceBase
  baseIdx := bif p.baseIdx then State.reset.baseIdx else s.baseIdx
  baseRunning := bif p.baseRunning then State.reset.baseRunning else s.baseRunning
  fresh := bif p.fresh then State.reset.fresh else s.fresh
  late := bif p.late then State.reset.late else s.late
  recs := bif p.recs then State.reset.recs else s.recs
  classLost := bif p.classLost then State.reset.classLost else s.classLost
  rate := bif p.rate then State.reset.rate else s.rate
  out := bif p.out then State.reset.out else s.out
  host := bif p.host then State.reset.host else s.host
  queues := bif p.queues then State.reset.queues else s.queues
  msi := bif p.msi then State.reset.msi else s.msi
  latch := bif p.latch then State.reset.latch else s.latch
  mode := bif p.mode then State.reset.mode else s.mode
  clk := bif p.clk then State.reset.clk else s.clk
  pacer := bif p.pacer then State.reset.pacer else s.pacer
  smon := bif p.smon then State.reset.smon else s.smon
  trust := bif p.trust then State.reset.trust else s.trust
  alarm := bif p.alarm then State.reset.alarm else s.alarm
  triggers := bif p.triggers then State.reset.triggers else s.triggers
  trig := bif p.trig then State.reset.trig else s.trig
  snp := bif p.snp then State.reset.snp else s.snp
  snpSeen := bif p.snpSeen then State.reset.snpSeen else s.snpSeen
  snapRegion := bif p.snapRegion then State.reset.snapRegion else s.snapRegion
  snapNext := bif p.snapNext then State.reset.snapNext else s.snapNext
  bootu := bif p.bootu then State.reset.bootu else s.bootu
  pins := bif p.pins then State.reset.pins else s.pins
  pch := bif p.pch then State.reset.pch else s.pch
  exc := bif p.exc then State.reset.exc else s.exc
  res := bif p.res then State.reset.res else s.res
  eff := bif p.eff then State.reset.eff else s.eff
  cal := bif p.cal then State.reset.cal else s.cal
  bank := bif p.bank then State.reset.bank else s.bank
  chk := bif p.chk then State.reset.chk else s.chk
  commit := bif p.commit then State.reset.commit else s.commit
  wch := bif p.wch then State.reset.wch else s.wch
  wm := bif p.wm then State.reset.wm else s.wm
  hc := bif p.hc then State.reset.hc else s.hc
  start := bif p.start then State.reset.start else s.start
  eng := bif p.eng then State.reset.eng else s.eng
  nodes := bif p.nodes then State.reset.nodes else s.nodes
  clu := bif p.clu then State.reset.clu else s.clu
  streams := bif p.streams then State.reset.streams else s.streams
  rings := bif p.rings then State.reset.rings else s.rings
  drc := bif p.drc then State.reset.drc else s.drc
  chan := bif p.chan then State.reset.chan else s.chan
  dport := bif p.dport then State.reset.dport else s.dport
  cells := bif p.cells then State.reset.cells else s.cells
  ecc := bif p.ecc then State.reset.ecc else s.ecc
  fab := bif p.fab then State.reset.fab else s.fab
  port := bif p.port then State.reset.port else s.port

theorem Store.filter_put {α : Type} (q : Nat × α → Bool) (k : Nat) (v : α) (hq : ∀ x, q (k, x) = false) (m : Store α) :
    (Store.put k v m).filter q = m.filter q := by
  induction m <;> grind [Store.put]

theorem Store.filter_set {α : Type} [DecidableEq α] (d : Nat → α) (q : Nat × α → Bool) (k : Nat) (v : α)
    (hq : ∀ x, q (k, x) = false) (m : Store α) : (Store.set d m k v).filter q = m.filter q := by
  unfold Store.set
  split
  · unfold Store.drop
    rw [List.filter_filter]
    apply List.filter_congr
    intro e _
    by_cases he : e.1 = k
    · have h : q e = false := by
        have h := hq e.2
        rw [← he] at h
        exact h
      simp [h]
    · simp [he]
  · exact Store.filter_put q k v hq m

theorem Store.find_filter {α : Type} (q : Nat × α → Bool) (k : Nat) (hq : ∀ x, q (k, x) = true) (m : Store α) :
    Store.find (m.filter q) k = Store.find m k := by
  induction m <;> grind [Store.find]

/-- What `outside` means: the two states agree in everything but the parts of `p`. -/
theorem State.sameBut_of_outside {p : Parts} {s t : State} (h : t.outside p = s.outside p) : State.SameBut p s t := by
  have hf : t.fac = s.fac := by
    show (t.outside p).fac = (s.outside p).fac
    rw [h]
  refine { pending := by show (t.outside p).pending = (s.outside p).pending; rw [h], fac := hf, reg := ?_, cycles := ?_, time := ?_, timeRem := ?_, sinceBase := ?_, baseIdx := ?_, baseRunning := ?_, fresh := ?_, late := ?_, recs := ?_, classLost := ?_, rate := ?_, out := ?_, host := ?_, queues := ?_, msi := ?_, latch := ?_, mode := ?_, clk := ?_, pacer := ?_, smon := ?_, trust := ?_, alarm := ?_, triggers := ?_, trig := ?_, snp := ?_, snpSeen := ?_, snapRegion := ?_, snapNext := ?_, bootu := ?_, pins := ?_, pch := ?_, exc := ?_, res := ?_, eff := ?_, cal := ?_, bank := ?_, chk := ?_, commit := ?_, wch := ?_, wm := ?_, hc := ?_, start := ?_, eng := ?_, nodes := ?_, clu := ?_, streams := ?_, rings := ?_, drc := ?_, chan := ?_, dport := ?_, cells := ?_, ecc := ?_, fab := ?_, port := ?_ }
  · intro a ha
    have hr : t.regs.filter (fun e => !@decide (p.regs e.1) (Classical.propDecidable _))
      = s.regs.filter (fun e => !@decide (p.regs e.1) (Classical.propDecidable _)) := by
      show (t.outside p).regs = (s.outside p).regs
      rw [h]
    have e : Store.find t.regs a = Store.find s.regs a := by
      rw [← Store.find_filter (fun e => !@decide (p.regs e.1) (Classical.propDecidable _)) a (by simp [ha]) t.regs, hr,
        Store.find_filter _ a (by simp [ha])]
    simp only [State.reg, Store.get, e, hf]
  · intro hp
    have e : (t.outside p).cycles = (s.outside p).cycles := by rw [h]
    simp only [State.outside, hp, cond_false] at e
    exact e
  · intro hp
    have e : (t.outside p).time = (s.outside p).time := by rw [h]
    simp only [State.outside, hp, cond_false] at e
    exact e
  · intro hp
    have e : (t.outside p).timeRem = (s.outside p).timeRem := by rw [h]
    simp only [State.outside, hp, cond_false] at e
    exact e
  · intro hp
    have e : (t.outside p).sinceBase = (s.outside p).sinceBase := by rw [h]
    simp only [State.outside, hp, cond_false] at e
    exact e
  · intro hp
    have e : (t.outside p).baseIdx = (s.outside p).baseIdx := by rw [h]
    simp only [State.outside, hp, cond_false] at e
    exact e
  · intro hp
    have e : (t.outside p).baseRunning = (s.outside p).baseRunning := by rw [h]
    simp only [State.outside, hp, cond_false] at e
    exact e
  · intro hp
    have e : (t.outside p).fresh = (s.outside p).fresh := by rw [h]
    simp only [State.outside, hp, cond_false] at e
    exact e
  · intro hp
    have e : (t.outside p).late = (s.outside p).late := by rw [h]
    simp only [State.outside, hp, cond_false] at e
    exact e
  · intro hp
    have e : (t.outside p).recs = (s.outside p).recs := by rw [h]
    simp only [State.outside, hp, cond_false] at e
    exact e
  · intro hp
    have e : (t.outside p).classLost = (s.outside p).classLost := by rw [h]
    simp only [State.outside, hp, cond_false] at e
    exact e
  · intro hp
    have e : (t.outside p).rate = (s.outside p).rate := by rw [h]
    simp only [State.outside, hp, cond_false] at e
    exact e
  · intro hp
    have e : (t.outside p).out = (s.outside p).out := by rw [h]
    simp only [State.outside, hp, cond_false] at e
    exact e
  · intro hp
    have e : (t.outside p).host = (s.outside p).host := by rw [h]
    simp only [State.outside, hp, cond_false] at e
    exact e
  · intro hp
    have e : (t.outside p).queues = (s.outside p).queues := by rw [h]
    simp only [State.outside, hp, cond_false] at e
    exact e
  · intro hp
    have e : (t.outside p).msi = (s.outside p).msi := by rw [h]
    simp only [State.outside, hp, cond_false] at e
    exact e
  · intro hp
    have e : (t.outside p).latch = (s.outside p).latch := by rw [h]
    simp only [State.outside, hp, cond_false] at e
    exact e
  · intro hp
    have e : (t.outside p).mode = (s.outside p).mode := by rw [h]
    simp only [State.outside, hp, cond_false] at e
    exact e
  · intro hp
    have e : (t.outside p).clk = (s.outside p).clk := by rw [h]
    simp only [State.outside, hp, cond_false] at e
    exact e
  · intro hp
    have e : (t.outside p).pacer = (s.outside p).pacer := by rw [h]
    simp only [State.outside, hp, cond_false] at e
    exact e
  · intro hp
    have e : (t.outside p).smon = (s.outside p).smon := by rw [h]
    simp only [State.outside, hp, cond_false] at e
    exact e
  · intro hp
    have e : (t.outside p).trust = (s.outside p).trust := by rw [h]
    simp only [State.outside, hp, cond_false] at e
    exact e
  · intro hp
    have e : (t.outside p).alarm = (s.outside p).alarm := by rw [h]
    simp only [State.outside, hp, cond_false] at e
    exact e
  · intro hp
    have e : (t.outside p).triggers = (s.outside p).triggers := by rw [h]
    simp only [State.outside, hp, cond_false] at e
    exact e
  · intro hp
    have e : (t.outside p).trig = (s.outside p).trig := by rw [h]
    simp only [State.outside, hp, cond_false] at e
    exact e
  · intro hp
    have e : (t.outside p).snp = (s.outside p).snp := by rw [h]
    simp only [State.outside, hp, cond_false] at e
    exact e
  · intro hp
    have e : (t.outside p).snpSeen = (s.outside p).snpSeen := by rw [h]
    simp only [State.outside, hp, cond_false] at e
    exact e
  · intro hp
    have e : (t.outside p).snapRegion = (s.outside p).snapRegion := by rw [h]
    simp only [State.outside, hp, cond_false] at e
    exact e
  · intro hp
    have e : (t.outside p).snapNext = (s.outside p).snapNext := by rw [h]
    simp only [State.outside, hp, cond_false] at e
    exact e
  · intro hp
    have e : (t.outside p).bootu = (s.outside p).bootu := by rw [h]
    simp only [State.outside, hp, cond_false] at e
    exact e
  · intro hp
    have e : (t.outside p).pins = (s.outside p).pins := by rw [h]
    simp only [State.outside, hp, cond_false] at e
    exact e
  · intro hp
    have e : (t.outside p).pch = (s.outside p).pch := by rw [h]
    simp only [State.outside, hp, cond_false] at e
    exact e
  · intro hp
    have e : (t.outside p).exc = (s.outside p).exc := by rw [h]
    simp only [State.outside, hp, cond_false] at e
    exact e
  · intro hp
    have e : (t.outside p).res = (s.outside p).res := by rw [h]
    simp only [State.outside, hp, cond_false] at e
    exact e
  · intro hp
    have e : (t.outside p).eff = (s.outside p).eff := by rw [h]
    simp only [State.outside, hp, cond_false] at e
    exact e
  · intro hp
    have e : (t.outside p).cal = (s.outside p).cal := by rw [h]
    simp only [State.outside, hp, cond_false] at e
    exact e
  · intro hp
    have e : (t.outside p).bank = (s.outside p).bank := by rw [h]
    simp only [State.outside, hp, cond_false] at e
    exact e
  · intro hp
    have e : (t.outside p).chk = (s.outside p).chk := by rw [h]
    simp only [State.outside, hp, cond_false] at e
    exact e
  · intro hp
    have e : (t.outside p).commit = (s.outside p).commit := by rw [h]
    simp only [State.outside, hp, cond_false] at e
    exact e
  · intro hp
    have e : (t.outside p).wch = (s.outside p).wch := by rw [h]
    simp only [State.outside, hp, cond_false] at e
    exact e
  · intro hp
    have e : (t.outside p).wm = (s.outside p).wm := by rw [h]
    simp only [State.outside, hp, cond_false] at e
    exact e
  · intro hp
    have e : (t.outside p).hc = (s.outside p).hc := by rw [h]
    simp only [State.outside, hp, cond_false] at e
    exact e
  · intro hp
    have e : (t.outside p).start = (s.outside p).start := by rw [h]
    simp only [State.outside, hp, cond_false] at e
    exact e
  · intro hp
    have e : (t.outside p).eng = (s.outside p).eng := by rw [h]
    simp only [State.outside, hp, cond_false] at e
    exact e
  · intro hp
    have e : (t.outside p).nodes = (s.outside p).nodes := by rw [h]
    simp only [State.outside, hp, cond_false] at e
    exact e
  · intro hp
    have e : (t.outside p).clu = (s.outside p).clu := by rw [h]
    simp only [State.outside, hp, cond_false] at e
    exact e
  · intro hp
    have e : (t.outside p).streams = (s.outside p).streams := by rw [h]
    simp only [State.outside, hp, cond_false] at e
    exact e
  · intro hp
    have e : (t.outside p).rings = (s.outside p).rings := by rw [h]
    simp only [State.outside, hp, cond_false] at e
    exact e
  · intro hp
    have e : (t.outside p).drc = (s.outside p).drc := by rw [h]
    simp only [State.outside, hp, cond_false] at e
    exact e
  · intro hp
    have e : (t.outside p).chan = (s.outside p).chan := by rw [h]
    simp only [State.outside, hp, cond_false] at e
    exact e
  · intro hp
    have e : (t.outside p).dport = (s.outside p).dport := by rw [h]
    simp only [State.outside, hp, cond_false] at e
    exact e
  · intro hp
    have e : (t.outside p).cells = (s.outside p).cells := by rw [h]
    simp only [State.outside, hp, cond_false] at e
    exact e
  · intro hp
    have e : (t.outside p).ecc = (s.outside p).ecc := by rw [h]
    simp only [State.outside, hp, cond_false] at e
    exact e
  · intro hp
    have e : (t.outside p).fab = (s.outside p).fab := by rw [h]
    simp only [State.outside, hp, cond_false] at e
    exact e
  · intro hp
    have e : (t.outside p).port = (s.outside p).port := by rw [h]
    simp only [State.outside, hp, cond_false] at e
    exact e

/-- What writing an event record may write (R399). -/
def Parts.emits (p : Parts) : Prop := p.recs = true ∧ p.classLost = true ∧ p.host = true ∧ p.regs Reg.DEV_EV_LOST

theorem Parts.emits_recs {p : Parts} (h : p.emits) : p.recs = true := h.1
theorem Parts.emits_classLost {p : Parts} (h : p.emits) : p.classLost = true := h.2.1
theorem Parts.emits_host {p : Parts} (h : p.emits) : p.host = true := h.2.2.1
theorem Parts.emits_lost {p : Parts} (h : p.emits) : p.regs Reg.DEV_EV_LOST := h.2.2.2

/-! ### One update at a time -/

@[simp] theorem State.outside_alarm {p : Parts} (h0 : p.alarm = true) (s : State) v0 :
    State.outside p { s with alarm := v0 } = s.outside p := by simp only [State.outside, h0, cond_true]
@[simp] theorem State.outside_bank {p : Parts} (h0 : p.bank = true) (s : State) v0 :
    State.outside p { s with bank := v0 } = s.outside p := by simp only [State.outside, h0, cond_true]
@[simp] theorem State.outside_baseIdx {p : Parts} (h0 : p.baseIdx = true) (s : State) v0 :
    State.outside p { s with baseIdx := v0 } = s.outside p := by simp only [State.outside, h0, cond_true]
@[simp] theorem State.outside_bootu {p : Parts} (h0 : p.bootu = true) (s : State) v0 :
    State.outside p { s with bootu := v0 } = s.outside p := by simp only [State.outside, h0, cond_true]
@[simp] theorem State.outside_cal {p : Parts} (h0 : p.cal = true) (s : State) v0 :
    State.outside p { s with cal := v0 } = s.outside p := by simp only [State.outside, h0, cond_true]
@[simp] theorem State.outside_cells {p : Parts} (h0 : p.cells = true) (s : State) v0 :
    State.outside p { s with cells := v0 } = s.outside p := by simp only [State.outside, h0, cond_true]
@[simp] theorem State.outside_chan {p : Parts} (h0 : p.chan = true) (s : State) v0 :
    State.outside p { s with chan := v0 } = s.outside p := by simp only [State.outside, h0, cond_true]
@[simp] theorem State.outside_chk {p : Parts} (h0 : p.chk = true) (s : State) v0 :
    State.outside p { s with chk := v0 } = s.outside p := by simp only [State.outside, h0, cond_true]
@[simp] theorem State.outside_clk {p : Parts} (h0 : p.clk = true) (s : State) v0 :
    State.outside p { s with clk := v0 } = s.outside p := by simp only [State.outside, h0, cond_true]
@[simp] theorem State.outside_clu {p : Parts} (h0 : p.clu = true) (s : State) v0 :
    State.outside p { s with clu := v0 } = s.outside p := by simp only [State.outside, h0, cond_true]
@[simp] theorem State.outside_commit {p : Parts} (h0 : p.commit = true) (s : State) v0 :
    State.outside p { s with commit := v0 } = s.outside p := by simp only [State.outside, h0, cond_true]
@[simp] theorem State.outside_dport {p : Parts} (h0 : p.dport = true) (s : State) v0 :
    State.outside p { s with dport := v0 } = s.outside p := by simp only [State.outside, h0, cond_true]
@[simp] theorem State.outside_drc {p : Parts} (h0 : p.drc = true) (s : State) v0 :
    State.outside p { s with drc := v0 } = s.outside p := by simp only [State.outside, h0, cond_true]
@[simp] theorem State.outside_ecc {p : Parts} (h0 : p.ecc = true) (s : State) v0 :
    State.outside p { s with ecc := v0 } = s.outside p := by simp only [State.outside, h0, cond_true]
@[simp] theorem State.outside_eff {p : Parts} (h0 : p.eff = true) (s : State) v0 :
    State.outside p { s with eff := v0 } = s.outside p := by simp only [State.outside, h0, cond_true]
@[simp] theorem State.outside_eng {p : Parts} (h0 : p.eng = true) (s : State) v0 :
    State.outside p { s with eng := v0 } = s.outside p := by simp only [State.outside, h0, cond_true]
@[simp] theorem State.outside_exc {p : Parts} (h0 : p.exc = true) (s : State) v0 :
    State.outside p { s with exc := v0 } = s.outside p := by simp only [State.outside, h0, cond_true]
@[simp] theorem State.outside_fab {p : Parts} (h0 : p.fab = true) (s : State) v0 :
    State.outside p { s with fab := v0 } = s.outside p := by simp only [State.outside, h0, cond_true]
@[simp] theorem State.outside_fresh {p : Parts} (h0 : p.fresh = true) (s : State) v0 :
    State.outside p { s with fresh := v0 } = s.outside p := by simp only [State.outside, h0, cond_true]
@[simp] theorem State.outside_hc {p : Parts} (h0 : p.hc = true) (s : State) v0 :
    State.outside p { s with hc := v0 } = s.outside p := by simp only [State.outside, h0, cond_true]
@[simp] theorem State.outside_host {p : Parts} (h0 : p.host = true) (s : State) v0 :
    State.outside p { s with host := v0 } = s.outside p := by simp only [State.outside, h0, cond_true]
@[simp] theorem State.outside_latch {p : Parts} (h0 : p.latch = true) (s : State) v0 :
    State.outside p { s with latch := v0 } = s.outside p := by simp only [State.outside, h0, cond_true]
@[simp] theorem State.outside_late {p : Parts} (h0 : p.late = true) (s : State) v0 :
    State.outside p { s with late := v0 } = s.outside p := by simp only [State.outside, h0, cond_true]
@[simp] theorem State.outside_mode {p : Parts} (h0 : p.mode = true) (s : State) v0 :
    State.outside p { s with mode := v0 } = s.outside p := by simp only [State.outside, h0, cond_true]
@[simp] theorem State.outside_msi {p : Parts} (h0 : p.msi = true) (s : State) v0 :
    State.outside p { s with msi := v0 } = s.outside p := by simp only [State.outside, h0, cond_true]
@[simp] theorem State.outside_nodes {p : Parts} (h0 : p.nodes = true) (s : State) v0 :
    State.outside p { s with nodes := v0 } = s.outside p := by simp only [State.outside, h0, cond_true]
@[simp] theorem State.outside_out {p : Parts} (h0 : p.out = true) (s : State) v0 :
    State.outside p { s with out := v0 } = s.outside p := by simp only [State.outside, h0, cond_true]
@[simp] theorem State.outside_pacer {p : Parts} (h0 : p.pacer = true) (s : State) v0 :
    State.outside p { s with pacer := v0 } = s.outside p := by simp only [State.outside, h0, cond_true]
@[simp] theorem State.outside_pch {p : Parts} (h0 : p.pch = true) (s : State) v0 :
    State.outside p { s with pch := v0 } = s.outside p := by simp only [State.outside, h0, cond_true]
@[simp] theorem State.outside_pins {p : Parts} (h0 : p.pins = true) (s : State) v0 :
    State.outside p { s with pins := v0 } = s.outside p := by simp only [State.outside, h0, cond_true]
@[simp] theorem State.outside_port {p : Parts} (h0 : p.port = true) (s : State) v0 :
    State.outside p { s with port := v0 } = s.outside p := by simp only [State.outside, h0, cond_true]
@[simp] theorem State.outside_queues {p : Parts} (h0 : p.queues = true) (s : State) v0 :
    State.outside p { s with queues := v0 } = s.outside p := by simp only [State.outside, h0, cond_true]
@[simp] theorem State.outside_rate {p : Parts} (h0 : p.rate = true) (s : State) v0 :
    State.outside p { s with rate := v0 } = s.outside p := by simp only [State.outside, h0, cond_true]
@[simp] theorem State.outside_recs {p : Parts} (h0 : p.recs = true) (s : State) v0 :
    State.outside p { s with recs := v0 } = s.outside p := by simp only [State.outside, h0, cond_true]
@[simp] theorem State.outside_res {p : Parts} (h0 : p.res = true) (s : State) v0 :
    State.outside p { s with res := v0 } = s.outside p := by simp only [State.outside, h0, cond_true]
@[simp] theorem State.outside_rings {p : Parts} (h0 : p.rings = true) (s : State) v0 :
    State.outside p { s with rings := v0 } = s.outside p := by simp only [State.outside, h0, cond_true]
@[simp] theorem State.outside_smon {p : Parts} (h0 : p.smon = true) (s : State) v0 :
    State.outside p { s with smon := v0 } = s.outside p := by simp only [State.outside, h0, cond_true]
@[simp] theorem State.outside_snp {p : Parts} (h0 : p.snp = true) (s : State) v0 :
    State.outside p { s with snp := v0 } = s.outside p := by simp only [State.outside, h0, cond_true]
@[simp] theorem State.outside_snpSeen {p : Parts} (h0 : p.snpSeen = true) (s : State) v0 :
    State.outside p { s with snpSeen := v0 } = s.outside p := by simp only [State.outside, h0, cond_true]
@[simp] theorem State.outside_start {p : Parts} (h0 : p.start = true) (s : State) v0 :
    State.outside p { s with start := v0 } = s.outside p := by simp only [State.outside, h0, cond_true]
@[simp] theorem State.outside_streams {p : Parts} (h0 : p.streams = true) (s : State) v0 :
    State.outside p { s with streams := v0 } = s.outside p := by simp only [State.outside, h0, cond_true]
@[simp] theorem State.outside_time {p : Parts} (h0 : p.time = true) (s : State) v0 :
    State.outside p { s with time := v0 } = s.outside p := by simp only [State.outside, h0, cond_true]
@[simp] theorem State.outside_trig {p : Parts} (h0 : p.trig = true) (s : State) v0 :
    State.outside p { s with trig := v0 } = s.outside p := by simp only [State.outside, h0, cond_true]
@[simp] theorem State.outside_trust {p : Parts} (h0 : p.trust = true) (s : State) v0 :
    State.outside p { s with trust := v0 } = s.outside p := by simp only [State.outside, h0, cond_true]
@[simp] theorem State.outside_wch {p : Parts} (h0 : p.wch = true) (s : State) v0 :
    State.outside p { s with wch := v0 } = s.outside p := by simp only [State.outside, h0, cond_true]
@[simp] theorem State.outside_wm {p : Parts} (h0 : p.wm = true) (s : State) v0 :
    State.outside p { s with wm := v0 } = s.outside p := by simp only [State.outside, h0, cond_true]
@[simp] theorem State.outside_bootu_pins {p : Parts} (h0 : p.bootu = true) (h1 : p.pins = true) (s : State) v0 v1 :
    State.outside p { s with bootu := v0, pins := v1 } = s.outside p := by simp only [State.outside, h0, h1, cond_true]
@[simp] theorem State.outside_clk_fab {p : Parts} (h0 : p.clk = true) (h1 : p.fab = true) (s : State) v0 v1 :
    State.outside p { s with clk := v0, fab := v1 } = s.outside p := by simp only [State.outside, h0, h1, cond_true]
@[simp] theorem State.outside_eff_cal {p : Parts} (h0 : p.eff = true) (h1 : p.cal = true) (s : State) v0 v1 :
    State.outside p { s with eff := v0, cal := v1 } = s.outside p := by simp only [State.outside, h0, h1, cond_true]
@[simp] theorem State.outside_eng_nodes {p : Parts} (h0 : p.eng = true) (h1 : p.nodes = true) (s : State) v0 v1 :
    State.outside p { s with eng := v0, nodes := v1 } = s.outside p := by simp only [State.outside, h0, h1, cond_true]
@[simp] theorem State.outside_host_triggers {p : Parts} (h0 : p.host = true) (h1 : p.triggers = true) (s : State) v0 v1 :
    State.outside p { s with host := v0, triggers := v1 } = s.outside p := by simp only [State.outside, h0, h1, cond_true]
@[simp] theorem State.outside_recs_classLost {p : Parts} (h0 : p.recs = true) (h1 : p.classLost = true) (s : State) v0 v1 :
    State.outside p { s with recs := v0, classLost := v1 } = s.outside p := by simp only [State.outside, h0, h1, cond_true]
@[simp] theorem State.outside_recs_host {p : Parts} (h0 : p.recs = true) (h1 : p.host = true) (s : State) v0 v1 :
    State.outside p { s with recs := v0, host := v1 } = s.outside p := by simp only [State.outside, h0, h1, cond_true]
@[simp] theorem State.outside_sinceBase_baseIdx {p : Parts} (h0 : p.sinceBase = true) (h1 : p.baseIdx = true) (s : State) v0 v1 :
    State.outside p { s with sinceBase := v0, baseIdx := v1 } = s.outside p := by simp only [State.outside, h0, h1, cond_true]
@[simp] theorem State.outside_snapRegion_snapNext {p : Parts} (h0 : p.snapRegion = true) (h1 : p.snapNext = true) (s : State) v0 v1 :
    State.outside p { s with snapRegion := v0, snapNext := v1 } = s.outside p := by simp only [State.outside, h0, h1, cond_true]
@[simp] theorem State.outside_snp_snapNext {p : Parts} (h0 : p.snp = true) (h1 : p.snapNext = true) (s : State) v0 v1 :
    State.outside p { s with snp := v0, snapNext := v1 } = s.outside p := by simp only [State.outside, h0, h1, cond_true]
@[simp] theorem State.outside_time_fab {p : Parts} (h0 : p.time = true) (h1 : p.fab = true) (s : State) v0 v1 :
    State.outside p { s with time := v0, fab := v1 } = s.outside p := by simp only [State.outside, h0, h1, cond_true]
@[simp] theorem State.outside_time_timeRem {p : Parts} (h0 : p.time = true) (h1 : p.timeRem = true) (s : State) v0 v1 :
    State.outside p { s with time := v0, timeRem := v1 } = s.outside p := by simp only [State.outside, h0, h1, cond_true]
@[simp] theorem State.outside_fresh_bootu_cells {p : Parts} (h0 : p.fresh = true) (h1 : p.bootu = true) (h2 : p.cells = true) (s : State) v0 v1 v2 :
    State.outside p { s with fresh := v0, bootu := v1, cells := v2 } = s.outside p := by simp only [State.outside, h0, h1, h2, cond_true]
@[simp] theorem State.outside_pacer_bootu_eng {p : Parts} (h0 : p.pacer = true) (h1 : p.bootu = true) (h2 : p.eng = true) (s : State) v0 v1 v2 :
    State.outside p { s with pacer := v0, bootu := v1, eng := v2 } = s.outside p := by simp only [State.outside, h0, h1, h2, cond_true]
@[simp] theorem State.outside_sinceBase_baseIdx_baseRunning {p : Parts} (h0 : p.sinceBase = true) (h1 : p.baseIdx = true) (h2 : p.baseRunning = true) (s : State) v0 v1 v2 :
    State.outside p { s with sinceBase := v0, baseIdx := v1, baseRunning := v2 } = s.outside p := by simp only [State.outside, h0, h1, h2, cond_true]
@[simp] theorem State.outside_time_timeRem_fab {p : Parts} (h0 : p.time = true) (h1 : p.timeRem = true) (h2 : p.fab = true) (s : State) v0 v1 v2 :
    State.outside p { s with time := v0, timeRem := v1, fab := v2 } = s.outside p := by simp only [State.outside, h0, h1, h2, cond_true]
@[simp] theorem State.outside_cycles_time_timeRem_sinceBase {p : Parts} (h0 : p.cycles = true) (h1 : p.time = true) (h2 : p.timeRem = true) (h3 : p.sinceBase = true) (s : State) v0 v1 v2 v3 :
    State.outside p { s with cycles := v0, time := v1, timeRem := v2, sinceBase := v3 } = s.outside p := by simp only [State.outside, h0, h1, h2, h3, cond_true]
@[simp] theorem State.outside_streams_rings_drc_chan_ecc_fab_port {p : Parts} (h0 : p.streams = true) (h1 : p.rings = true) (h2 : p.drc = true) (h3 : p.chan = true) (h4 : p.ecc = true) (h5 : p.fab = true) (h6 : p.port = true) (s : State) v0 v1 v2 v3 v4 v5 v6 :
    State.outside p { s with streams := v0, rings := v1, drc := v2, chan := v3, ecc := v4, fab := v5, port := v6 } = s.outside p := by simp only [State.outside, h0, h1, h2, h3, h4, h5, h6, cond_true]
@[simp] theorem State.outside_pch_exc_wch_wm_hc_eng_nodes_clu {p : Parts} (h0 : p.pch = true) (h1 : p.exc = true) (h2 : p.wch = true) (h3 : p.wm = true) (h4 : p.hc = true) (h5 : p.eng = true) (h6 : p.nodes = true) (h7 : p.clu = true) (s : State) v0 v1 v2 v3 v4 v5 v6 v7 :
    State.outside p { s with pch := v0, exc := v1, wch := v2, wm := v3, hc := v4, eng := v5, nodes := v6, clu := v7 } = s.outside p := by simp only [State.outside, h0, h1, h2, h3, h4, h5, h6, h7, cond_true]
@[simp] theorem State.outside_rate_host_msi_mode_clk_pacer_smon_alarm_trig_bootu {p : Parts} (h0 : p.rate = true) (h1 : p.host = true) (h2 : p.msi = true) (h3 : p.mode = true) (h4 : p.clk = true) (h5 : p.pacer = true) (h6 : p.smon = true) (h7 : p.alarm = true) (h8 : p.trig = true) (h9 : p.bootu = true) (s : State) v0 v1 v2 v3 v4 v5 v6 v7 v8 v9 :
    State.outside p { s with rate := v0, host := v1, msi := v2, mode := v3, clk := v4, pacer := v5, smon := v6, alarm := v7, trig := v8, bootu := v9 } = s.outside p := by simp only [State.outside, h0, h1, h2, h3, h4, h5, h6, h7, h8, h9, cond_true]

@[simp] theorem State.outside_regs {p : Parts} (s : State) {m : Store Word}
    (h : ∀ q : Nat × Word → Bool, (∀ e, p.regs e.1 → q e = false) → m.filter q = s.regs.filter q) :
    State.outside p { s with regs := m } = s.outside p := by
  simp only [State.outside]
  congr 1
  exact h _ (by intro e he; simp [he])

/-! ### The register file -/

@[simp] theorem State.setReg_outside {p : Parts} {a : Nat} (h : p.regs a) (s : State) (w : Word) :
    (s.setReg a w).outside p = s.outside p := by
  unfold State.setReg
  apply State.outside_regs
  intro q hq
  exact Store.filter_set _ q a w (fun x => hq (a, x) h) _

theorem State.count_regs_filter {p : Parts} {a : Nat} (h : p.regs a) (s : State) (f : Field) (q : Nat × Word → Bool)
    (hq : ∀ e, p.regs e.1 → q e = false) : (s.count a f).regs.filter q = s.regs.filter q :=
  Store.filter_set _ q a _ (fun x => hq (a, x) h) _

/-! ### How operations are put together -/

theorem State.outside_ite {p : Parts} {c : Prop} [Decidable c] (a b : State) :
    (if c then a else b).outside p = if c then a.outside p else b.outside p := by split <;> rfl

theorem State.outside_bif {p : Parts} {c : Bool} (a b : State) :
    (bif c then a else b).outside p = bif c then a.outside p else b.outside p := by cases c <;> rfl

theorem State.foldl_outside {α : Type} {p : Parts} {f : State → α → State} (h : ∀ s x, (f s x).outside p = s.outside p)
    (l : List α) (s : State) : (l.foldl f s).outside p = s.outside p := by
  induction l generalizing s with
  | nil => rfl
  | cons x l ih => rw [List.foldl_cons, ih, h]

theorem State.foldl_outside_snd {α β : Type} {p : Parts} {f : β × State → α → β × State} (h : ∀ s x, (f s x).2.outside p = s.2.outside p)
    (l : List α) (s : β × State) : (l.foldl f s).2.outside p = s.2.outside p := by
  induction l generalizing s with
  | nil => rfl
  | cons x l ih => rw [List.foldl_cons, ih, h]

/-- The second of a pair, with its type left general. -/
theorem snd_mk {α β : Type} (a : α) (b : β) : (a, b).2 = b := rfl

theorem State.foldl_outside_start {α β : Type} {p : Parts} {f : β × State → α → β × State} (h : ∀ s x, (f s x).2.outside p = s.2.outside p)
    (b : β) (l : List α) (s : State) : (l.foldl f (b, s)).2.outside p = s.outside p := State.foldl_outside_snd h l (b, s)

theorem State.foldl_outside_fst {α β : Type} {p : Parts} {f : State × β → α → State × β} (h : ∀ s x, (f s x).1.outside p = s.1.outside p)
    (l : List α) (s : State × β) : (l.foldl f s).1.outside p = s.1.outside p := by
  induction l generalizing s with
  | nil => rfl
  | cons x l ih => rw [List.foldl_cons, ih, h]

@[simp] theorem State.push_outside {p : Parts} (h : p.emits) (s : State) (r : Rec) : (s.push r).outside p = s.outside p := by
  obtain ⟨h1, h2, h3, h4⟩ := h
  have hr : ∀ (c : Bool) (q : Nat × Word → Bool), (∀ e, p.regs e.1 → q e = false) →
      (if c = true then (s.count Reg.DEV_EV_LOST word32).regs else s.regs).filter q = s.regs.filter q := by
    intro c q hq
    cases c
    · simp
    · simp only [if_true]
      exact State.count_regs_filter h4 s word32 q hq
  have hr := hr s.recsFull
  unfold State.push
  generalize s.recsFull = full at hr ⊢
  simp only [State.outside, h1, h2, h3, cond_true]
  congr 1
  exact hr _ (by intro e he; simp [he])

theorem State.whenOpen_outside {p : Parts} {s t : State} (h : t.outside p = s.outside p) : (s.whenOpen t).outside p = s.outside p := by
  unfold State.whenOpen
  split
  · rfl
  · exact h

/-- The frame of a command's answer. -/
theorem State.sameBut_effect {p : Parts} {s u t : State} (h : s.effect u = .next t) (ho : u.outside p = s.outside p) : s.SameBut p t := by
  have e : { u with pending := s.pending, fac := s.fac } = u := by
    have h1 : (u.outside p).pending = (s.outside p).pending := by rw [ho]
    have h2 : (u.outside p).fac = (s.outside p).fac := by rw [ho]
    have h3 : u.pending = s.pending := h1
    have h4 : u.fac = s.fac := h2
    rw [← h3, ← h4]
  simp only [State.effect, e, Host.Outcome.next.injEq] at h
  subst h
  exact State.sameBut_of_outside ho

/-- A command that may write every part still leaves the queue and the fuses. -/
theorem State.sameBut_all {s u t : State} (h : s.effect u = .next t) : s.SameBut Parts.all t := by
  simp only [State.effect, Host.Outcome.next.injEq] at h
  subst h
  constructor
  · rfl
  · rfl
  · intro a ha
    exact absurd trivial ha
  all_goals
    intro hp
    exact absurd hp (by decide)

end Sys2Proof.Machine
end

