-- ==== Sys2Proof/Laws/FrameOps.lean ====
section
/-!
SUPPORT. What the operations of Machine/Ops.lean write: each leaves every part of the state as it is but those its hypothesis names.
-/

set_option Elab.async false
set_option linter.unusedSimpArgs false
namespace Sys2Proof.Machine

@[simp] theorem State.setFld_outside {P : Parts} (s : State) (a : Nat) (f : Field) (v : Nat) (hPa : P.regs a) :
    (State.setFld s a f v).outside P = s.outside P := by
  unfold State.setFld
  simp only [State.setReg_outside, State.push_outside, State.outside_ite, State.outside_bif, State.foldl_outside, State.foldl_outside_snd, State.foldl_outside_fst, ite_self, Bool.cond_self, Parts.emits_recs, Parts.emits_classLost, Parts.emits_host, Parts.emits_lost, and_self, and_true, true_and, implies_true, forall_const, hPa]

@[simp] theorem State.raise_outside {P : Parts} (s : State) (a : Nat) (f : Field) (hPa : P.regs a) :
    (State.raise s a f).outside P = s.outside P := by
  unfold State.raise
  simp only [State.setFld_outside, State.setReg_outside, State.push_outside, State.outside_ite, State.outside_bif, State.foldl_outside, State.foldl_outside_snd, State.foldl_outside_fst, ite_self, Bool.cond_self, Parts.emits_recs, Parts.emits_classLost, Parts.emits_host, Parts.emits_lost, and_self, and_true, true_and, implies_true, forall_const, hPa]

@[simp] theorem State.clear_outside {P : Parts} (s : State) (a : Nat) (f : Field) (hPa : P.regs a) :
    (State.clear s a f).outside P = s.outside P := by
  unfold State.clear
  simp only [State.setFld_outside, State.setReg_outside, State.push_outside, State.outside_ite, State.outside_bif, State.foldl_outside, State.foldl_outside_snd, State.foldl_outside_fst, ite_self, Bool.cond_self, Parts.emits_recs, Parts.emits_classLost, Parts.emits_host, Parts.emits_lost, and_self, and_true, true_and, implies_true, forall_const, hPa]

@[simp] theorem State.setLive_outside {P : Parts} (s : State) (a : Nat) (live sticky : Field) (b : Bool) (hPa : P.regs a) :
    (State.setLive s a live sticky b).outside P = s.outside P := by
  unfold State.setLive
  simp only [State.raise_outside, State.clear_outside, State.setReg_outside, State.push_outside, State.outside_ite, State.outside_bif, State.foldl_outside, State.foldl_outside_snd, State.foldl_outside_fst, ite_self, Bool.cond_self, Parts.emits_recs, Parts.emits_classLost, Parts.emits_host, Parts.emits_lost, and_self, and_true, true_and, implies_true, forall_const, hPa]

@[simp] theorem State.count_outside {P : Parts} (s : State) (a : Nat) (f : Field) (hPa : P.regs a) :
    (State.count s a f).outside P = s.outside P := by
  unfold State.count
  simp only [State.setFld_outside, State.setReg_outside, State.push_outside, State.outside_ite, State.outside_bif, State.foldl_outside, State.foldl_outside_snd, State.foldl_outside_fst, ite_self, Bool.cond_self, Parts.emits_recs, Parts.emits_classLost, Parts.emits_host, Parts.emits_lost, and_self, and_true, true_and, implies_true, forall_const, hPa]

@[simp] theorem State.countBy_outside {P : Parts} (s : State) (a : Nat) (f : Field) (n : Nat) (hPa : P.regs a) :
    (State.countBy s a f n).outside P = s.outside P := by
  unfold State.countBy
  simp only [State.setFld_outside, State.setReg_outside, State.push_outside, State.outside_ite, State.outside_bif, State.foldl_outside, State.foldl_outside_snd, State.foldl_outside_fst, ite_self, Bool.cond_self, Parts.emits_recs, Parts.emits_classLost, Parts.emits_host, Parts.emits_lost, and_self, and_true, true_and, implies_true, forall_const, hPa]

@[simp] theorem State.setBit_outside {P : Parts} (s : State) (a i : Nat) (b : Bool) (hPa : P.regs a) :
    (State.setBit s a i b).outside P = s.outside P := by
  unfold State.setBit
  simp only [State.setFld_outside, State.setReg_outside, State.push_outside, State.outside_ite, State.outside_bif, State.foldl_outside, State.foldl_outside_snd, State.foldl_outside_fst, ite_self, Bool.cond_self, Parts.emits_recs, Parts.emits_classLost, Parts.emits_host, Parts.emits_lost, and_self, and_true, true_and, implies_true, forall_const, hPa]

@[simp] theorem State.setPair_outside {P : Parts} (s : State) (lo hi : Nat) (t : Nat) (hPlo : P.regs lo) (hPhi : P.regs hi) :
    (State.setPair s lo hi t).outside P = s.outside P := by
  unfold State.setPair
  simp only [State.setReg_outside, State.push_outside, State.outside_ite, State.outside_bif, State.foldl_outside, State.foldl_outside_snd, State.foldl_outside_fst, ite_self, Bool.cond_self, Parts.emits_recs, Parts.emits_classLost, Parts.emits_host, Parts.emits_lost, and_self, and_true, true_and, implies_true, forall_const, hPlo, hPhi]

@[simp] theorem State.freeNat_outside {P : Parts} (s : State) (w : Nat) (hP : P.fresh = true) :
    (State.freeNat s w).2.outside P = s.outside P := by
  unfold State.freeNat
  simp only [State.outside_fresh, State.setReg_outside, State.push_outside, State.outside_ite, State.outside_bif, State.foldl_outside, State.foldl_outside_snd, State.foldl_outside_fst, ite_self, Bool.cond_self, Parts.emits_recs, Parts.emits_classLost, Parts.emits_host, Parts.emits_lost, and_self, and_true, true_and, implies_true, forall_const, hP]

@[simp] theorem State.noteLate_outside {P : Parts} (s : State) (a : Nat) (mask : Word) (hP : P.fresh = true ∧ P.late = true) :
    (State.noteLate s a mask).outside P = s.outside P := by
  unfold State.noteLate
  simp only [State.freeNat_outside, State.outside_late, State.setReg_outside, State.push_outside, State.outside_ite, State.outside_bif, State.foldl_outside, State.foldl_outside_snd, State.foldl_outside_fst, ite_self, Bool.cond_self, Parts.emits_recs, Parts.emits_classLost, Parts.emits_host, Parts.emits_lost, and_self, and_true, true_and, implies_true, forall_const, hP]

@[simp] theorem State.writeBits_outside {P : Parts} (s : State) (a : Nat) (mask reject v : Word) (hPa : P.regs a) (hP : P.fresh = true ∧ P.late = true) :
    (State.writeBits s a mask reject v).outside P = s.outside P := by
  unfold State.writeBits
  simp only [State.noteLate_outside, State.setReg_outside, State.push_outside, State.outside_ite, State.outside_bif, State.foldl_outside, State.foldl_outside_snd, State.foldl_outside_fst, ite_self, Bool.cond_self, Parts.emits_recs, Parts.emits_classLost, Parts.emits_host, Parts.emits_lost, and_self, and_true, true_and, implies_true, forall_const, hP, hPa]

@[simp] theorem State.writeJudged_outside {P : Parts} (s : State) (a : Nat) (mask reject v : Word) (st : Nat) (f : Field) (hPa : P.regs a) (hPst : P.regs st) (hP : P.fresh = true ∧ P.late = true) :
    (State.writeJudged s a mask reject v st f).outside P = s.outside P := by
  unfold State.writeJudged
  simp only [State.raise_outside, State.writeBits_outside, State.setReg_outside, State.push_outside, State.outside_ite, State.outside_bif, State.foldl_outside, State.foldl_outside_snd, State.foldl_outside_fst, ite_self, Bool.cond_self, Parts.emits_recs, Parts.emits_classLost, Parts.emits_host, Parts.emits_lost, and_self, and_true, true_and, implies_true, forall_const, hP, hPa, hPst]

@[simp] theorem State.writeOnes_outside {P : Parts} (s : State) (a : Nat) (w1c v : Word) (hPa : P.regs a) :
    (State.writeOnes s a w1c v).outside P = s.outside P := by
  unfold State.writeOnes
  simp only [State.setReg_outside, State.push_outside, State.outside_ite, State.outside_bif, State.foldl_outside, State.foldl_outside_snd, State.foldl_outside_fst, ite_self, Bool.cond_self, Parts.emits_recs, Parts.emits_classLost, Parts.emits_host, Parts.emits_lost, and_self, and_true, true_and, implies_true, forall_const, hPa]

@[simp] theorem State.setPch_outside {P : Parts} (s : State) (n : Nat) (c : Pch) (hP : P.pch = true) :
    (State.setPch s n c).outside P = s.outside P := by
  unfold State.setPch
  simp only [State.outside_pch, State.setReg_outside, State.push_outside, State.outside_ite, State.outside_bif, State.foldl_outside, State.foldl_outside_snd, State.foldl_outside_fst, ite_self, Bool.cond_self, Parts.emits_recs, Parts.emits_classLost, Parts.emits_host, Parts.emits_lost, and_self, and_true, true_and, implies_true, forall_const, hP]

@[simp] theorem State.setExc_outside {P : Parts} (s : State) (k : Nat) (x : Exc) (hP : P.exc = true) :
    (State.setExc s k x).outside P = s.outside P := by
  unfold State.setExc
  simp only [State.outside_exc, State.setReg_outside, State.push_outside, State.outside_ite, State.outside_bif, State.foldl_outside, State.foldl_outside_snd, State.foldl_outside_fst, ite_self, Bool.cond_self, Parts.emits_recs, Parts.emits_classLost, Parts.emits_host, Parts.emits_lost, and_self, and_true, true_and, implies_true, forall_const, hP]

@[simp] theorem State.setWch_outside {P : Parts} (s : State) (n : Nat) (w : Wch) (hP : P.wch = true) :
    (State.setWch s n w).outside P = s.outside P := by
  unfold State.setWch
  simp only [State.outside_wch, State.setReg_outside, State.push_outside, State.outside_ite, State.outside_bif, State.foldl_outside, State.foldl_outside_snd, State.foldl_outside_fst, ite_self, Bool.cond_self, Parts.emits_recs, Parts.emits_classLost, Parts.emits_host, Parts.emits_lost, and_self, and_true, true_and, implies_true, forall_const, hP]

@[simp] theorem State.setWm_outside {P : Parts} (s : State) (i : Nat) (w : Wm) (hP : P.wm = true) :
    (State.setWm s i w).outside P = s.outside P := by
  unfold State.setWm
  simp only [State.outside_wm, State.setReg_outside, State.push_outside, State.outside_ite, State.outside_bif, State.foldl_outside, State.foldl_outside_snd, State.foldl_outside_fst, ite_self, Bool.cond_self, Parts.emits_recs, Parts.emits_classLost, Parts.emits_host, Parts.emits_lost, and_self, and_true, true_and, implies_true, forall_const, hP]

@[simp] theorem State.setHc_outside {P : Parts} (s : State) (h : Nat) (x : Hc) (hP : P.hc = true) :
    (State.setHc s h x).outside P = s.outside P := by
  unfold State.setHc
  simp only [State.outside_hc, State.setReg_outside, State.push_outside, State.outside_ite, State.outside_bif, State.foldl_outside, State.foldl_outside_snd, State.foldl_outside_fst, ite_self, Bool.cond_self, Parts.emits_recs, Parts.emits_classLost, Parts.emits_host, Parts.emits_lost, and_self, and_true, true_and, implies_true, forall_const, hP]

@[simp] theorem State.setStart_outside {P : Parts} (s : State) (n : Nat) (u : StartUnit) (hP : P.start = true) :
    (State.setStart s n u).outside P = s.outside P := by
  unfold State.setStart
  simp only [State.outside_start, State.setReg_outside, State.push_outside, State.outside_ite, State.outside_bif, State.foldl_outside, State.foldl_outside_snd, State.foldl_outside_fst, ite_self, Bool.cond_self, Parts.emits_recs, Parts.emits_classLost, Parts.emits_host, Parts.emits_lost, and_self, and_true, true_and, implies_true, forall_const, hP]

@[simp] theorem State.passCycles_outside {P : Parts} (s : State) (n : Nat) (hP : P.cycles = true ∧ P.sinceBase = true ∧ P.time = true ∧ P.timeRem = true) :
    (State.passCycles s n).outside P = s.outside P := by
  unfold State.passCycles
  simp only [State.outside_cycles_time_timeRem_sinceBase, State.setReg_outside, State.push_outside, State.outside_ite, State.outside_bif, State.foldl_outside, State.foldl_outside_snd, State.foldl_outside_fst, ite_self, Bool.cond_self, Parts.emits_recs, Parts.emits_classLost, Parts.emits_host, Parts.emits_lost, and_self, and_true, true_and, implies_true, forall_const, hP]

@[simp] theorem State.emit_outside {P : Parts} (s : State) (type u : Nat) (fields : List Int) (hP : P.emits) :
    (State.emit s type u fields).outside P = s.outside P := by
  unfold State.emit
  simp only [State.setReg_outside, State.push_outside, State.outside_ite, State.outside_bif, State.foldl_outside, State.foldl_outside_snd, State.foldl_outside_fst, ite_self, Bool.cond_self, Parts.emits_recs, Parts.emits_classLost, Parts.emits_host, Parts.emits_lost, and_self, and_true, true_and, implies_true, forall_const, hP]

@[simp] theorem State.emitAt_outside {P : Parts} (s : State) (t : Time) (type u : Nat) (fields : List Int) (hP : P.emits) :
    (State.emitAt s t type u fields).outside P = s.outside P := by
  unfold State.emitAt
  simp only [State.setReg_outside, State.push_outside, State.outside_ite, State.outside_bif, State.foldl_outside, State.foldl_outside_snd, State.foldl_outside_fst, ite_self, Bool.cond_self, Parts.emits_recs, Parts.emits_classLost, Parts.emits_host, Parts.emits_lost, and_self, and_true, true_and, implies_true, forall_const, hP]

@[simp] theorem State.emitSafetyHeld_outside {P : Parts} (s : State) (type u : Nat) (fields : List Int) (hP : P.emits) :
    (State.emitSafetyHeld s type u fields).outside P = s.outside P := by
  unfold State.emitSafetyHeld
  simp only [State.setReg_outside, State.push_outside, State.outside_ite, State.outside_bif, State.foldl_outside, State.foldl_outside_snd, State.foldl_outside_fst, ite_self, Bool.cond_self, Parts.emits_recs, Parts.emits_classLost, Parts.emits_host, Parts.emits_lost, and_self, and_true, true_and, implies_true, forall_const, hP]

@[simp] theorem State.setRate_outside {P : Parts} (s : State) (type key : Nat) (k : RateKey) (hP : P.rate = true) :
    (State.setRate s type key k).outside P = s.outside P := by
  unfold State.setRate
  simp only [State.outside_rate, State.setReg_outside, State.push_outside, State.outside_ite, State.outside_bif, State.foldl_outside, State.foldl_outside_snd, State.foldl_outside_fst, ite_self, Bool.cond_self, Parts.emits_recs, Parts.emits_classLost, Parts.emits_host, Parts.emits_lost, and_self, and_true, true_and, implies_true, forall_const, hP]

@[simp] theorem State.emitLimited_outside {P : Parts} (s : State) (type u key interval : Nat) (sideB : Bool) (now : Nat) (mk : Nat → List Int) (hP : P.emits ∧ P.rate = true) :
    (State.emitLimited s type u key interval sideB now mk).outside P = s.outside P := by
  unfold State.emitLimited
  simp only [State.emit_outside, State.setRate_outside, State.setReg_outside, State.push_outside, State.outside_ite, State.outside_bif, State.foldl_outside, State.foldl_outside_snd, State.foldl_outside_fst, ite_self, Bool.cond_self, Parts.emits_recs, Parts.emits_classLost, Parts.emits_host, Parts.emits_lost, and_self, and_true, true_and, implies_true, forall_const, hP]

@[simp] theorem State.absentWrite_outside {P : Parts} (s : State) (who : Reader) (off : Nat) (hP : P.regs Reg.DEV_ABSENT_ADDR ∧ P.regs Reg.DEV_ABSENT_WR) :
    (State.absentWrite s who off).outside P = s.outside P := by
  unfold State.absentWrite
  simp only [State.count_outside, State.setReg_outside, State.push_outside, State.outside_ite, State.outside_bif, State.foldl_outside, State.foldl_outside_snd, State.foldl_outside_fst, ite_self, Bool.cond_self, Parts.emits_recs, Parts.emits_classLost, Parts.emits_host, Parts.emits_lost, and_self, and_true, true_and, implies_true, forall_const, hP]

@[simp] theorem State.writeAbsent_outside {P : Parts} (s : State) (i count off : Nat) (hP : P.regs Reg.DEV_ABSENT_ADDR ∧ P.regs Reg.DEV_ABSENT_WR) :
    (State.writeAbsent s i count off).outside P = s.outside P := by
  unfold State.writeAbsent
  simp only [State.absentWrite_outside, State.setReg_outside, State.push_outside, State.outside_ite, State.outside_bif, State.foldl_outside, State.foldl_outside_snd, State.foldl_outside_fst, ite_self, Bool.cond_self, Parts.emits_recs, Parts.emits_classLost, Parts.emits_host, Parts.emits_lost, and_self, and_true, true_and, implies_true, forall_const, hP]

@[simp] theorem State.put_outside {P : Parts} (s : State) (o : Out) (hP : P.out = true) :
    (State.put s o).outside P = s.outside P := by
  unfold State.put
  simp only [State.outside_out, State.setReg_outside, State.push_outside, State.outside_ite, State.outside_bif, State.foldl_outside, State.foldl_outside_snd, State.foldl_outside_fst, ite_self, Bool.cond_self, Parts.emits_recs, Parts.emits_classLost, Parts.emits_host, Parts.emits_lost, and_self, and_true, true_and, implies_true, forall_const, hP]

@[simp] theorem State.setGates_outside {P : Parts} (s : State) (w : Word) (hP : P.clk = true ∧ P.regs Reg.CLK_GATE_OPEN ∧ P.regs Reg.CLK_STAT) :
    (State.setGates s w).outside P = s.outside P := by
  unfold State.setGates
  simp only [State.setFld_outside, State.outside_clk, State.setReg_outside, State.push_outside, State.outside_ite, State.outside_bif, State.foldl_outside, State.foldl_outside_snd, State.foldl_outside_fst, ite_self, Bool.cond_self, Parts.emits_recs, Parts.emits_classLost, Parts.emits_host, Parts.emits_lost, and_self, and_true, true_and, implies_true, forall_const, hP]

@[simp] theorem State.regate_outside {P : Parts} (s : State) (hP : P.clk = true ∧ P.regs Reg.CLK_GATE_OPEN ∧ P.regs Reg.CLK_STAT) :
    (State.regate s).outside P = s.outside P := by
  unfold State.regate
  simp only [State.setGates_outside, State.outside_clk, State.setReg_outside, State.push_outside, State.outside_ite, State.outside_bif, State.foldl_outside, State.foldl_outside_snd, State.foldl_outside_fst, ite_self, Bool.cond_self, Parts.emits_recs, Parts.emits_classLost, Parts.emits_host, Parts.emits_lost, and_self, and_true, true_and, implies_true, forall_const, hP]

@[simp] theorem State.shutGates_outside {P : Parts} (s : State) (hP : P.clk = true ∧ P.regs Reg.CLK_GATE_OPEN ∧ P.regs Reg.CLK_STAT) :
    (State.shutGates s).outside P = s.outside P := by
  unfold State.shutGates
  simp only [State.setGates_outside, State.setReg_outside, State.push_outside, State.outside_ite, State.outside_bif, State.foldl_outside, State.foldl_outside_snd, State.foldl_outside_fst, ite_self, Bool.cond_self, Parts.emits_recs, Parts.emits_classLost, Parts.emits_host, Parts.emits_lost, and_self, and_true, true_and, implies_true, forall_const, hP]

@[simp] theorem State.keepGate_outside {P : Parts} (s : State) (g : Nat) (hP : P.clk = true) :
    (State.keepGate s g).outside P = s.outside P := by
  unfold State.keepGate
  simp only [State.outside_clk, State.setReg_outside, State.push_outside, State.outside_ite, State.outside_bif, State.foldl_outside, State.foldl_outside_snd, State.foldl_outside_fst, ite_self, Bool.cond_self, Parts.emits_recs, Parts.emits_classLost, Parts.emits_host, Parts.emits_lost, and_self, and_true, true_and, implies_true, forall_const, hP]

@[simp] theorem State.openGate_outside {P : Parts} (s : State) (g : Nat) (hP : P.clk = true ∧ P.regs Reg.CLK_GATE_OPEN ∧ P.regs Reg.CLK_STAT) :
    (State.openGate s g).outside P = s.outside P := by
  unfold State.openGate
  simp only [State.setGates_outside, State.keepGate_outside, State.setReg_outside, State.push_outside, State.outside_ite, State.outside_bif, State.foldl_outside, State.foldl_outside_snd, State.foldl_outside_fst, ite_self, Bool.cond_self, Parts.emits_recs, Parts.emits_classLost, Parts.emits_host, Parts.emits_lost, and_self, and_true, true_and, implies_true, forall_const, hP]

@[simp] theorem State.closeGate_outside {P : Parts} (s : State) (g : Nat) (hP : P.clk = true) :
    (State.closeGate s g).outside P = s.outside P := by
  unfold State.closeGate
  simp only [State.keepGate_outside, State.outside_clk, State.setReg_outside, State.push_outside, State.outside_ite, State.outside_bif, State.foldl_outside, State.foldl_outside_snd, State.foldl_outside_fst, ite_self, Bool.cond_self, Parts.emits_recs, Parts.emits_classLost, Parts.emits_host, Parts.emits_lost, and_self, and_true, true_and, implies_true, forall_const, hP]

end Sys2Proof.Machine
end

