-- ==== Sys2Proof/Laws/FrameCalStore.lean ====
section
/-!
SUPPORT. What the operations of Machine/CalStore.lean write: each leaves every part of the state as it is but those its hypothesis names.
-/

set_option Elab.async false
set_option linter.unusedSimpArgs false
namespace Sys2Proof.Machine

@[simp] theorem State.setBank_outside {P : Parts} (s : State) (m : Nat) (b : Bank) (hP : P.bank = true) :
    (State.setBank s m b).outside P = s.outside P := by
  unfold State.setBank
  simp only [State.outside_bank, State.setReg_outside, State.push_outside, State.outside_ite, State.outside_bif, State.foldl_outside, State.foldl_outside_snd, State.foldl_outside_fst, ite_self, Bool.cond_self, Parts.emits_recs, Parts.emits_classLost, Parts.emits_host, Parts.emits_lost, and_self, and_true, true_and, implies_true, forall_const, hP]

@[simp] theorem State.setChk_outside {P : Parts} (s : State) (n : Nat) (c : ChkCh) (hP : P.chk = true) :
    (State.setChk s n c).outside P = s.outside P := by
  unfold State.setChk
  simp only [State.outside_chk, State.setReg_outside, State.push_outside, State.outside_ite, State.outside_bif, State.foldl_outside, State.foldl_outside_snd, State.foldl_outside_fst, ite_self, Bool.cond_self, Parts.emits_recs, Parts.emits_classLost, Parts.emits_host, Parts.emits_lost, and_self, and_true, true_and, implies_true, forall_const, hP]

@[simp] theorem State.referenceOut_outside {P : Parts} (s : State) (hP : P.bank = true) :
    (State.referenceOut s).outside P = s.outside P := by
  unfold State.referenceOut
  repeat' (first | rfl | (simp (maxDischargeDepth := 6) only [State.setBank_outside, State.setReg_outside, State.push_outside, State.outside_ite, State.outside_bif, State.foldl_outside, State.foldl_outside_snd, State.foldl_outside_fst, ite_self, Bool.cond_self, Parts.emits_recs, Parts.emits_classLost, Parts.emits_host, Parts.emits_lost, and_self, and_true, true_and, implies_true, forall_const, hP]; done) | (refine (State.foldl_outside (fun s x => ?_) _ _).trans ?_) | (refine (State.foldl_outside_snd (fun s x => ?_) _ _).trans ?_) | (refine (State.foldl_outside_fst (fun s x => ?_) _ _).trans ?_) | split | simp (maxDischargeDepth := 6) only [State.setBank_outside, State.setReg_outside, State.push_outside, State.outside_ite, State.outside_bif, State.foldl_outside, State.foldl_outside_snd, State.foldl_outside_fst, ite_self, Bool.cond_self, Parts.emits_recs, Parts.emits_classLost, Parts.emits_host, Parts.emits_lost, and_self, and_true, true_and, implies_true, forall_const, hP])

@[simp] theorem State.setCal_outside {P : Parts} (s : State) (k : Nat) (e : CalEntry) (hP : P.cal = true) :
    (State.setCal s k e).outside P = s.outside P := by
  unfold State.setCal
  simp only [State.outside_cal, State.setReg_outside, State.push_outside, State.outside_ite, State.outside_bif, State.foldl_outside, State.foldl_outside_snd, State.foldl_outside_fst, ite_self, Bool.cond_self, Parts.emits_recs, Parts.emits_classLost, Parts.emits_host, Parts.emits_lost, and_self, and_true, true_and, implies_true, forall_const, hP]

@[simp] theorem State.countPending_outside {P : Parts} (s : State) (hP : P.regs Reg.CAL_STAT) :
    (State.countPending s).outside P = s.outside P := by
  unfold State.countPending
  simp only [State.setFld_outside, State.setReg_outside, State.push_outside, State.outside_ite, State.outside_bif, State.foldl_outside, State.foldl_outside_snd, State.foldl_outside_fst, ite_self, Bool.cond_self, Parts.emits_recs, Parts.emits_classLost, Parts.emits_host, Parts.emits_lost, and_self, and_true, true_and, implies_true, forall_const, hP]

@[simp] theorem State.loadCalEntry_outside {P : Parts} (s : State) (k : Nat) (ws : List Word) (hP : P.emits ∧ P.cal = true ∧ P.regs Reg.CAL_STAT) :
    (State.loadCalEntry s k ws).outside P = s.outside P := by
  unfold State.loadCalEntry
  simp only [State.count_outside, State.emit_outside, State.setCal_outside, State.setReg_outside, State.push_outside, State.outside_ite, State.outside_bif, State.foldl_outside, State.foldl_outside_snd, State.foldl_outside_fst, ite_self, Bool.cond_self, Parts.emits_recs, Parts.emits_classLost, Parts.emits_host, Parts.emits_lost, and_self, and_true, true_and, implies_true, forall_const, hP]

@[simp] theorem State.loadCalset_outside {P : Parts} (s : State) (ws : List Word) (hP : P.emits ∧ P.cal = true ∧ P.regs Reg.CAL_STAT ∧ P.eff = true) :
    (State.loadCalset s ws).outside P = s.outside P := by
  unfold State.loadCalset
  simp only [State.countPending_outside, State.loadCalEntry_outside, State.outside_eff_cal, State.setReg_outside, State.push_outside, State.outside_ite, State.outside_bif, State.foldl_outside, State.foldl_outside_snd, State.foldl_outside_fst, ite_self, Bool.cond_self, Parts.emits_recs, Parts.emits_classLost, Parts.emits_host, Parts.emits_lost, and_self, and_true, true_and, implies_true, forall_const, hP]

@[simp] theorem State.setCalset_outside {P : Parts} (s : State) (k : Nat) (ws : List Word) (hP : P.bootu = true) :
    (State.setCalset s k ws).outside P = s.outside P := by
  unfold State.setCalset
  simp only [State.outside_bootu, State.setReg_outside, State.push_outside, State.outside_ite, State.outside_bif, State.foldl_outside, State.foldl_outside_snd, State.foldl_outside_fst, ite_self, Bool.cond_self, Parts.emits_recs, Parts.emits_classLost, Parts.emits_host, Parts.emits_lost, and_self, and_true, true_and, implies_true, forall_const, hP]

end Sys2Proof.Machine
end

