-- ==== Sys2Proof/Laws/FrameFabOps.lean ====
section
/-!
SUPPORT. What the operations of Machine/FabOps.lean write: each leaves every part of the state as it is but those its hypothesis names.
-/

set_option Elab.async false
set_option linter.unusedSimpArgs false
namespace Sys2Proof.Machine

@[simp] theorem State.setPort_outside {P : Parts} (s : State) (p : Nat) (x : Port) (hP : P.port = true) :
    (State.setPort s p x).outside P = s.outside P := by
  unfold State.setPort
  simp only [State.outside_port, State.setReg_outside, State.push_outside, State.outside_ite, State.outside_bif, State.foldl_outside, State.foldl_outside_snd, State.foldl_outside_fst, ite_self, Bool.cond_self, Parts.emits_recs, Parts.emits_classLost, Parts.emits_host, Parts.emits_lost, and_self, and_true, true_and, implies_true, forall_const, hP]

@[simp] theorem State.sendIdle_outside {P : Parts} (s : State) (p : Nat) (hP : P.out = true ∧ P.port = true) :
    (State.sendIdle s p).outside P = s.outside P := by
  unfold State.sendIdle
  simp only [State.put_outside, State.setPort_outside, State.setReg_outside, State.push_outside, State.outside_ite, State.outside_bif, State.foldl_outside, State.foldl_outside_snd, State.foldl_outside_fst, ite_self, Bool.cond_self, Parts.emits_recs, Parts.emits_classLost, Parts.emits_host, Parts.emits_lost, and_self, and_true, true_and, implies_true, forall_const, hP]

@[simp] theorem State.sendControl_outside {P : Parts} (s : State) (p : Nat) (kind : String) (args : List Int) (hP : P.out = true ∧ P.port = true) :
    (State.sendControl s p kind args).outside P = s.outside P := by
  unfold State.sendControl
  simp only [State.put_outside, State.setPort_outside, State.setReg_outside, State.push_outside, State.outside_ite, State.outside_bif, State.foldl_outside, State.foldl_outside_snd, State.foldl_outside_fst, ite_self, Bool.cond_self, Parts.emits_recs, Parts.emits_classLost, Parts.emits_host, Parts.emits_lost, and_self, and_true, true_and, implies_true, forall_const, hP]

@[simp] theorem State.keepTalking_outside {P : Parts} (s : State) (hP : P.out = true ∧ P.port = true) :
    (State.keepTalking s).outside P = s.outside P := by
  unfold State.keepTalking
  simp only [State.sendIdle_outside, State.setReg_outside, State.push_outside, State.outside_ite, State.outside_bif, State.foldl_outside, State.foldl_outside_snd, State.foldl_outside_fst, ite_self, Bool.cond_self, Parts.emits_recs, Parts.emits_classLost, Parts.emits_host, Parts.emits_lost, and_self, and_true, true_and, implies_true, forall_const, hP]

@[simp] theorem State.rollUtil_outside {P : Parts} (s : State) (p : Nat) (hP : P.port = true ∧ (∀ n, P.regs (Reg.FP_UTIL n))) :
    (State.rollUtil s p).outside P = s.outside P := by
  unfold State.rollUtil
  simp only [State.setPort_outside, State.setReg_outside, State.push_outside, State.outside_ite, State.outside_bif, State.foldl_outside, State.foldl_outside_snd, State.foldl_outside_fst, ite_self, Bool.cond_self, Parts.emits_recs, Parts.emits_classLost, Parts.emits_host, Parts.emits_lost, and_self, and_true, true_and, implies_true, forall_const, hP]

@[simp] theorem State.noteFlits_outside {P : Parts} (s : State) (p tx rx : Nat) (hP : P.port = true ∧ (∀ n, P.regs (Reg.FP_UTIL n))) :
    (State.noteFlits s p tx rx).outside P = s.outside P := by
  unfold State.noteFlits
  simp only [State.setPort_outside, State.rollUtil_outside, State.setReg_outside, State.push_outside, State.outside_ite, State.outside_bif, State.foldl_outside, State.foldl_outside_snd, State.foldl_outside_fst, ite_self, Bool.cond_self, Parts.emits_recs, Parts.emits_classLost, Parts.emits_host, Parts.emits_lost, and_self, and_true, true_and, implies_true, forall_const, hP]

@[simp] theorem State.giveBack_outside {P : Parts} (s : State) (p v n : Nat) (hP : P.port = true) :
    (State.giveBack s p v n).outside P = s.outside P := by
  unfold State.giveBack
  simp only [State.setPort_outside, State.setReg_outside, State.push_outside, State.outside_ite, State.outside_bif, State.foldl_outside, State.foldl_outside_snd, State.foldl_outside_fst, ite_self, Bool.cond_self, Parts.emits_recs, Parts.emits_classLost, Parts.emits_host, Parts.emits_lost, and_self, and_true, true_and, implies_true, forall_const, hP]

@[simp] theorem State.leaveQueue_outside {P : Parts} (s : State) (e : QPkt) (hP : P.port = true) :
    (State.leaveQueue s e).outside P = s.outside P := by
  unfold State.leaveQueue
  simp only [State.giveBack_outside, State.setReg_outside, State.push_outside, State.outside_ite, State.outside_bif, State.foldl_outside, State.foldl_outside_snd, State.foldl_outside_fst, ite_self, Bool.cond_self, Parts.emits_recs, Parts.emits_classLost, Parts.emits_host, Parts.emits_lost, and_self, and_true, true_and, implies_true, forall_const, hP]

@[simp] theorem State.sendFlit_outside {P : Parts} (s : State) (p v bits : Nat) (poison header : Bool) (hP : P.out = true ∧ (∀ n, P.regs (Reg.FP_UTIL n)) ∧ P.port = true) :
    (State.sendFlit s p v bits poison header).outside P = s.outside P := by
  unfold State.sendFlit
  simp only [State.put_outside, State.setPort_outside, State.noteFlits_outside, State.setReg_outside, State.push_outside, State.outside_ite, State.outside_bif, State.foldl_outside, State.foldl_outside_snd, State.foldl_outside_fst, ite_self, Bool.cond_self, Parts.emits_recs, Parts.emits_classLost, Parts.emits_host, Parts.emits_lost, and_self, and_true, true_and, implies_true, forall_const, hP]

@[simp] theorem State.servePort_outside {P : Parts} (s : State) (p : Nat) (fuel : Nat) (hP : P.out = true ∧ (∀ n, P.regs (Reg.FP_UTIL n)) ∧ P.port = true) :
    (State.servePort s p fuel).outside P = s.outside P := by
  induction fuel generalizing s with
  | zero => rfl
  | succ fuel ih =>
    simp only [State.servePort, State.setPort_outside, State.leaveQueue_outside, State.sendFlit_outside, State.setReg_outside, State.push_outside, State.outside_ite, State.outside_bif, State.foldl_outside, State.foldl_outside_snd, State.foldl_outside_fst, ite_self, Bool.cond_self, Parts.emits_recs, Parts.emits_classLost, Parts.emits_host, Parts.emits_lost, and_self, and_true, true_and, implies_true, forall_const, hP, ih]
    try (repeat' (first | rfl | (split <;> try simp only [State.setPort_outside, State.leaveQueue_outside, State.sendFlit_outside, State.setReg_outside, State.push_outside, State.outside_ite, State.outside_bif, State.foldl_outside, State.foldl_outside_snd, State.foldl_outside_fst, ite_self, Bool.cond_self, Parts.emits_recs, Parts.emits_classLost, Parts.emits_host, Parts.emits_lost, and_self, and_true, true_and, implies_true, forall_const, hP, ih])))

@[simp] theorem State.enqueueAs_outside {P : Parts} (s : State) (p : Nat) (e : QPkt) (hP : P.out = true ∧ P.regs Reg.FAB_DROP ∧ P.port = true ∧ (∀ n, P.regs (Reg.FP_UTIL n))) :
    (State.enqueueAs s p e).outside P = s.outside P := by
  unfold State.enqueueAs
  simp only [State.count_outside, State.setPort_outside, State.leaveQueue_outside, State.servePort_outside, State.setReg_outside, State.push_outside, State.outside_ite, State.outside_bif, State.foldl_outside, State.foldl_outside_snd, State.foldl_outside_fst, ite_self, Bool.cond_self, Parts.emits_recs, Parts.emits_classLost, Parts.emits_host, Parts.emits_lost, and_self, and_true, true_and, implies_true, forall_const, hP]

@[simp] theorem State.enqueue_outside {P : Parts} (s : State) (p inp : Nat) (pk : Packet) (hP : P.out = true ∧ P.regs Reg.FAB_DROP ∧ P.port = true ∧ (∀ n, P.regs (Reg.FP_UTIL n))) :
    (State.enqueue s p inp pk).outside P = s.outside P := by
  unfold State.enqueue
  simp only [State.enqueueAs_outside, State.setReg_outside, State.push_outside, State.outside_ite, State.outside_bif, State.foldl_outside, State.foldl_outside_snd, State.foldl_outside_fst, ite_self, Bool.cond_self, Parts.emits_recs, Parts.emits_classLost, Parts.emits_host, Parts.emits_lost, and_self, and_true, true_and, implies_true, forall_const, hP]

@[simp] theorem State.inject_outside {P : Parts} (s : State) (pk : Packet) (hP : P.out = true ∧ P.regs Reg.FAB_DROP ∧ P.port = true ∧ (∀ n, P.regs (Reg.FP_UTIL n))) :
    (State.inject s pk).outside P = s.outside P := by
  unfold State.inject
  simp only [State.put_outside, State.enqueue_outside, State.setReg_outside, State.push_outside, State.outside_ite, State.outside_bif, State.foldl_outside, State.foldl_outside_snd, State.foldl_outside_fst, ite_self, Bool.cond_self, Parts.emits_recs, Parts.emits_classLost, Parts.emits_host, Parts.emits_lost, and_self, and_true, true_and, implies_true, forall_const, hP]
  repeat' (first | rfl | (split <;> try simp only [State.put_outside, State.enqueue_outside, State.setReg_outside, State.push_outside, State.outside_ite, State.outside_bif, State.foldl_outside, State.foldl_outside_snd, State.foldl_outside_fst, ite_self, Bool.cond_self, Parts.emits_recs, Parts.emits_classLost, Parts.emits_host, Parts.emits_lost, and_self, and_true, true_and, implies_true, forall_const, hP]))

@[simp] theorem State.broadcast_outside {P : Parts} (s : State) (ptype n : Nat) (hP : P.fresh = true ∧ P.regs Reg.FAB_DROP ∧ P.out = true ∧ (∀ n, P.regs (Reg.FP_UTIL n)) ∧ P.port = true) :
    (State.broadcast s ptype n).outside P = s.outside P := by
  unfold State.broadcast
  simp only [State.freeNat_outside, State.inject_outside, State.setReg_outside, State.push_outside, State.outside_ite, State.outside_bif, State.foldl_outside, State.foldl_outside_snd, State.foldl_outside_fst, ite_self, Bool.cond_self, Parts.emits_recs, Parts.emits_classLost, Parts.emits_host, Parts.emits_lost, and_self, and_true, true_and, implies_true, forall_const, hP]

@[simp] theorem State.pumpRequests_outside {P : Parts} (s : State) (hP : P.fab = true ∧ P.regs Reg.FAB_DROP ∧ P.out = true ∧ (∀ n, P.regs (Reg.FP_UTIL n)) ∧ P.port = true) :
    (State.pumpRequests s).outside P = s.outside P := by
  unfold State.pumpRequests
  simp only [State.inject_outside, State.outside_fab, State.setReg_outside, State.push_outside, State.outside_ite, State.outside_bif, State.foldl_outside, State.foldl_outside_snd, State.foldl_outside_fst, ite_self, Bool.cond_self, Parts.emits_recs, Parts.emits_classLost, Parts.emits_host, Parts.emits_lost, and_self, and_true, true_and, implies_true, forall_const, hP]

@[simp] theorem State.requestKeyed_outside {P : Parts} (s : State) (key : Nat) (client : Client) (pk : Packet) (hP : P.fab = true ∧ P.regs Reg.FAB_DROP ∧ P.out = true ∧ (∀ n, P.regs (Reg.FP_UTIL n)) ∧ P.port = true) :
    (State.requestKeyed s key client pk).outside P = s.outside P := by
  unfold State.requestKeyed
  simp only [State.pumpRequests_outside, State.outside_fab, State.setReg_outside, State.push_outside, State.outside_ite, State.outside_bif, State.foldl_outside, State.foldl_outside_snd, State.foldl_outside_fst, ite_self, Bool.cond_self, Parts.emits_recs, Parts.emits_classLost, Parts.emits_host, Parts.emits_lost, and_self, and_true, true_and, implies_true, forall_const, hP]

@[simp] theorem State.request_outside {P : Parts} (s : State) (client : Client) (pk : Packet) (hP : P.fab = true ∧ P.regs Reg.FAB_DROP ∧ P.out = true ∧ (∀ n, P.regs (Reg.FP_UTIL n)) ∧ P.port = true) :
    (State.request s client pk).outside P = s.outside P := by
  unfold State.request
  simp only [State.requestKeyed_outside, State.outside_fab, State.setReg_outside, State.push_outside, State.outside_ite, State.outside_bif, State.foldl_outside, State.foldl_outside_snd, State.foldl_outside_fst, ite_self, Bool.cond_self, Parts.emits_recs, Parts.emits_classLost, Parts.emits_host, Parts.emits_lost, and_self, and_true, true_and, implies_true, forall_const, hP]

@[simp] theorem State.dropRequest_outside {P : Parts} (s : State) (tag dst : Nat) (hP : P.fab = true ∧ P.regs Reg.FAB_DROP ∧ P.out = true ∧ (∀ n, P.regs (Reg.FP_UTIL n)) ∧ P.port = true) :
    (State.dropRequest s tag dst).outside P = s.outside P := by
  unfold State.dropRequest
  simp only [State.pumpRequests_outside, State.outside_fab, State.setReg_outside, State.push_outside, State.outside_ite, State.outside_bif, State.foldl_outside, State.foldl_outside_snd, State.foldl_outside_fst, ite_self, Bool.cond_self, Parts.emits_recs, Parts.emits_classLost, Parts.emits_host, Parts.emits_lost, and_self, and_true, true_and, implies_true, forall_const, hP]

@[simp] theorem State.answer_outside {P : Parts} (s : State) (src tag : Nat) (pk : Packet) (hP : P.fab = true ∧ P.regs Reg.FAB_DROP ∧ P.out = true ∧ (∀ n, P.regs (Reg.FP_UTIL n)) ∧ P.port = true) :
    (State.answer s src tag pk).outside P = s.outside P := by
  unfold State.answer
  simp only [State.inject_outside, State.outside_fab, State.setReg_outside, State.push_outside, State.outside_ite, State.outside_bif, State.foldl_outside, State.foldl_outside_snd, State.foldl_outside_fst, ite_self, Bool.cond_self, Parts.emits_recs, Parts.emits_classLost, Parts.emits_host, Parts.emits_lost, and_self, and_true, true_and, implies_true, forall_const, hP]

@[simp] theorem State.sendEvent_outside {P : Parts} (s : State) (home : Nat) (r : Rec) (hP : P.fab = true ∧ P.regs Reg.FAB_DROP ∧ P.fresh = true ∧ (∀ n, P.regs (Reg.FP_UTIL n)) ∧ P.host = true ∧ P.out = true ∧ P.port = true) :
    (State.sendEvent s home r).outside P = s.outside P := by
  unfold State.sendEvent
  simp only [State.freeNat_outside, State.put_outside, State.request_outside, State.outside_host, State.setReg_outside, State.push_outside, State.outside_ite, State.outside_bif, State.foldl_outside, State.foldl_outside_snd, State.foldl_outside_fst, ite_self, Bool.cond_self, Parts.emits_recs, Parts.emits_classLost, Parts.emits_host, Parts.emits_lost, and_self, and_true, true_and, implies_true, forall_const, hP]

end Sys2Proof.Machine
end

