-- ==== Sys2Proof/Laws/FrameInflight.lean ====
section
/-!
SUPPORT. What the operations of Machine/Inflight.lean write: each leaves every part of the state as it is but those its hypothesis names.
-/

set_option Elab.async false
set_option linter.unusedSimpArgs false
namespace Sys2Proof.Machine

@[simp] theorem State.setInflight_outside {P : Parts} (s : State) (l : List InFlight) (hP : P.host = true ∧ P.regs Reg.HIF_CMD_STAT) :
    (State.setInflight s l).outside P = s.outside P := by
  unfold State.setInflight
  simp only [State.setFld_outside, State.outside_host, State.setReg_outside, State.push_outside, State.outside_ite, State.outside_bif, State.foldl_outside, State.foldl_outside_snd, State.foldl_outside_fst, ite_self, Bool.cond_self, Parts.emits_recs, Parts.emits_classLost, Parts.emits_host, Parts.emits_lost, and_self, and_true, true_and, implies_true, forall_const, hP]

@[simp] theorem State.settle_outside {P : Parts} (s : State) (src : CmdSrc) (opcode tag : Nat) (c : Completion) (hP : P.fab = true ∧ P.regs Reg.FAB_DROP ∧ P.fresh = true ∧ (∀ n, P.regs (Reg.FP_UTIL n)) ∧ P.host = true ∧ P.regs Reg.HIF_CMD_STAT ∧ P.out = true ∧ P.port = true) :
    (State.settle s src opcode tag c).outside P = s.outside P := by
  unfold State.settle
  simp only [State.sendEvent_outside, State.setInflight_outside, State.outside_time, State.setReg_outside, State.push_outside, State.outside_ite, State.outside_bif, State.foldl_outside, State.foldl_outside_snd, State.foldl_outside_fst, ite_self, Bool.cond_self, Parts.emits_recs, Parts.emits_classLost, Parts.emits_host, Parts.emits_lost, and_self, and_true, true_and, implies_true, forall_const, hP]
  repeat' (first | rfl | (split <;> try simp only [State.sendEvent_outside, State.setInflight_outside, State.outside_time, State.setReg_outside, State.push_outside, State.outside_ite, State.outside_bif, State.foldl_outside, State.foldl_outside_snd, State.foldl_outside_fst, ite_self, Bool.cond_self, Parts.emits_recs, Parts.emits_classLost, Parts.emits_host, Parts.emits_lost, and_self, and_true, true_and, implies_true, forall_const, hP]))

@[simp] theorem State.settleAll_outside {P : Parts} (s : State) (p : InFlight → Bool) (c : Completion) (hP : P.fab = true ∧ P.regs Reg.FAB_DROP ∧ P.fresh = true ∧ (∀ n, P.regs (Reg.FP_UTIL n)) ∧ P.host = true ∧ P.regs Reg.HIF_CMD_STAT ∧ P.out = true ∧ P.port = true) :
    (State.settleAll s p c).outside P = s.outside P := by
  unfold State.settleAll
  simp only [State.settle_outside, State.setReg_outside, State.push_outside, State.outside_ite, State.outside_bif, State.foldl_outside, State.foldl_outside_snd, State.foldl_outside_fst, ite_self, Bool.cond_self, Parts.emits_recs, Parts.emits_classLost, Parts.emits_host, Parts.emits_lost, and_self, and_true, true_and, implies_true, forall_const, hP]

@[simp] theorem State.loseTarget_outside {P : Parts} (s : State) (a : Nat) (hP : P.fab = true ∧ P.regs Reg.FAB_DROP ∧ P.fresh = true ∧ (∀ n, P.regs (Reg.FP_UTIL n)) ∧ P.host = true ∧ P.regs Reg.HIF_CMD_STAT ∧ P.out = true ∧ P.port = true) :
    (State.loseTarget s a).outside P = s.outside P := by
  unfold State.loseTarget
  simp only [State.settleAll_outside, State.setReg_outside, State.push_outside, State.outside_ite, State.outside_bif, State.foldl_outside, State.foldl_outside_snd, State.foldl_outside_fst, ite_self, Bool.cond_self, Parts.emits_recs, Parts.emits_classLost, Parts.emits_host, Parts.emits_lost, and_self, and_true, true_and, implies_true, forall_const, hP]

@[simp] theorem State.accept_outside {P : Parts} (s : State) (src : CmdSrc) (opcode tag target : Nat) (hP : P.host = true ∧ P.regs Reg.HIF_CMD_STAT) :
    (State.accept s src opcode tag target).outside P = s.outside P := by
  unfold State.accept
  repeat' split
  all_goals first | rfl | simp only [State.setInflight_outside, State.setReg_outside, State.push_outside, State.outside_ite, State.outside_bif, State.foldl_outside, State.foldl_outside_snd, State.foldl_outside_fst, ite_self, Bool.cond_self, Parts.emits_recs, Parts.emits_classLost, Parts.emits_host, Parts.emits_lost, and_self, and_true, true_and, implies_true, forall_const, hP]

end Sys2Proof.Machine
end

