-- ==== Sys2Proof/Laws/FrameModeOps.lean ====
section
/-!
SUPPORT. What the operations of Machine/ModeOps.lean write: each leaves every part of the state as it is but those its hypothesis names.
-/

set_option Elab.async false
set_option linter.unusedSimpArgs false
namespace Sys2Proof.Machine

@[simp] theorem State.beginChange_outside {P : Parts} (s : State) (target cause trig : Nat) (cmd : Option (CmdSrc × Nat)) (hP : P.mode = true ∧ P.regs Reg.MODE_STAT) :
    (State.beginChange s target cause trig cmd).outside P = s.outside P := by
  unfold State.beginChange
  simp only [State.setFld_outside, State.raise_outside, State.outside_mode, State.setReg_outside, State.push_outside, State.outside_ite, State.outside_bif, State.foldl_outside, State.foldl_outside_snd, State.foldl_outside_fst, ite_self, Bool.cond_self, Parts.emits_recs, Parts.emits_classLost, Parts.emits_host, Parts.emits_lost, and_self, and_true, true_and, implies_true, forall_const, hP]

@[simp] theorem State.waitAtGate_outside {P : Parts} (s : State) (c : GateCause) (hP : P.emits ∧ P.mode = true) :
    (State.waitAtGate s c).outside P = s.outside P := by
  unfold State.waitAtGate
  simp only [State.emit_outside, State.outside_mode, State.setReg_outside, State.push_outside, State.outside_ite, State.outside_bif, State.foldl_outside, State.foldl_outside_snd, State.foldl_outside_fst, ite_self, Bool.cond_self, Parts.emits_recs, Parts.emits_classLost, Parts.emits_host, Parts.emits_lost, and_self, and_true, true_and, implies_true, forall_const, hP]

@[simp] theorem State.wakeFrom_outside {P : Parts} (s : State) (c : GateCause) (hP : P.emits ∧ P.mode = true ∧ P.regs Reg.MODE_STAT) :
    (State.wakeFrom s c).outside P = s.outside P := by
  unfold State.wakeFrom
  repeat' split
  all_goals first | rfl | simp only [State.beginChange_outside, State.waitAtGate_outside, State.setReg_outside, State.push_outside, State.outside_ite, State.outside_bif, State.foldl_outside, State.foldl_outside_snd, State.foldl_outside_fst, ite_self, Bool.cond_self, Parts.emits_recs, Parts.emits_classLost, Parts.emits_host, Parts.emits_lost, and_self, and_true, true_and, implies_true, forall_const, hP]

@[simp] theorem State.burstDenied_outside {P : Parts} (s : State) (hP : P.emits ∧ P.rate = true ∧ P.regs Reg.PACER_STAT) :
    (State.burstDenied s).outside P = s.outside P := by
  unfold State.burstDenied
  simp only [State.raise_outside, State.emitLimited_outside, State.setReg_outside, State.push_outside, State.outside_ite, State.outside_bif, State.foldl_outside, State.foldl_outside_snd, State.foldl_outside_fst, ite_self, Bool.cond_self, Parts.emits_recs, Parts.emits_classLost, Parts.emits_host, Parts.emits_lost, and_self, and_true, true_and, implies_true, forall_const, hP]

@[simp] theorem State.burstTrigger_outside {P : Parts} (s : State) (t : Nat) (hP : P.emits ∧ P.mode = true ∧ P.regs Reg.MODE_STAT ∧ P.rate = true ∧ P.regs Reg.PACER_STAT) :
    (State.burstTrigger s t).outside P = s.outside P := by
  unfold State.burstTrigger
  simp only [State.beginChange_outside, State.wakeFrom_outside, State.burstDenied_outside, State.outside_mode, State.setReg_outside, State.push_outside, State.outside_ite, State.outside_bif, State.foldl_outside, State.foldl_outside_snd, State.foldl_outside_fst, ite_self, Bool.cond_self, Parts.emits_recs, Parts.emits_classLost, Parts.emits_host, Parts.emits_lost, and_self, and_true, true_and, implies_true, forall_const, hP]

@[simp] theorem State.wakeTrigger_outside {P : Parts} (s : State) (t : Nat) (hP : P.emits ∧ P.mode = true ∧ P.regs Reg.MODE_STAT) :
    (State.wakeTrigger s t).outside P = s.outside P := by
  unfold State.wakeTrigger
  simp only [State.wakeFrom_outside, State.outside_mode, State.setReg_outside, State.push_outside, State.outside_ite, State.outside_bif, State.foldl_outside, State.foldl_outside_snd, State.foldl_outside_fst, ite_self, Bool.cond_self, Parts.emits_recs, Parts.emits_classLost, Parts.emits_host, Parts.emits_lost, and_self, and_true, true_and, implies_true, forall_const, hP]

@[simp] theorem State.timerWake_outside {P : Parts} (s : State) (hP : P.emits ∧ P.mode = true ∧ P.regs Reg.MODE_STAT) :
    (State.timerWake s).outside P = s.outside P := by
  unfold State.timerWake
  simp only [State.wakeFrom_outside, State.outside_mode, State.setReg_outside, State.push_outside, State.outside_ite, State.outside_bif, State.foldl_outside, State.foldl_outside_snd, State.foldl_outside_fst, ite_self, Bool.cond_self, Parts.emits_recs, Parts.emits_classLost, Parts.emits_host, Parts.emits_lost, and_self, and_true, true_and, implies_true, forall_const, hP]

@[simp] theorem State.pacerChange_outside {P : Parts} (s : State) (hP : P.mode = true ∧ P.regs Reg.MODE_STAT) :
    (State.pacerChange s).outside P = s.outside P := by
  unfold State.pacerChange
  simp only [State.beginChange_outside, State.outside_mode, State.setReg_outside, State.push_outside, State.outside_ite, State.outside_bif, State.foldl_outside, State.foldl_outside_snd, State.foldl_outside_fst, ite_self, Bool.cond_self, Parts.emits_recs, Parts.emits_classLost, Parts.emits_host, Parts.emits_lost, and_self, and_true, true_and, implies_true, forall_const, hP]

@[simp] theorem State.modeSetNow_outside {P : Parts} (s : State) (src : CmdSrc) (tag target : Nat) (hP : P.fab = true ∧ P.regs Reg.FAB_DROP ∧ P.fresh = true ∧ (∀ n, P.regs (Reg.FP_UTIL n)) ∧ P.host = true ∧ P.regs Reg.HIF_CMD_STAT ∧ P.mode = true ∧ P.regs Reg.MODE_STAT ∧ P.out = true ∧ P.regs Reg.PACER_STAT ∧ P.port = true) :
    (State.modeSetNow s src tag target).outside P = s.outside P := by
  unfold State.modeSetNow
  simp only [State.raise_outside, State.settle_outside, State.accept_outside, State.beginChange_outside, State.setReg_outside, State.push_outside, State.outside_ite, State.outside_bif, State.foldl_outside, State.foldl_outside_snd, State.foldl_outside_fst, ite_self, Bool.cond_self, Parts.emits_recs, Parts.emits_classLost, Parts.emits_host, Parts.emits_lost, and_self, and_true, true_and, implies_true, forall_const, hP]

@[simp] theorem State.safeExitNow_outside {P : Parts} (s : State) (src : CmdSrc) (tag target : Nat) (hP : P.fab = true ∧ P.regs Reg.FAB_DROP ∧ P.fresh = true ∧ (∀ n, P.regs (Reg.FP_UTIL n)) ∧ P.host = true ∧ P.regs Reg.HIF_CMD_STAT ∧ P.mode = true ∧ P.regs Reg.MODE_STAT ∧ P.out = true ∧ P.port = true) :
    (State.safeExitNow s src tag target).outside P = s.outside P := by
  unfold State.safeExitNow
  simp only [State.settle_outside, State.beginChange_outside, State.setReg_outside, State.push_outside, State.outside_ite, State.outside_bif, State.foldl_outside, State.foldl_outside_snd, State.foldl_outside_fst, ite_self, Bool.cond_self, Parts.emits_recs, Parts.emits_classLost, Parts.emits_host, Parts.emits_lost, and_self, and_true, true_and, implies_true, forall_const, hP]

@[simp] theorem State.modeCmdNow_outside {P : Parts} (s : State) (src : CmdSrc) (tag target : Nat) (exit : Bool) (hP : P.fab = true ∧ P.regs Reg.FAB_DROP ∧ P.fresh = true ∧ (∀ n, P.regs (Reg.FP_UTIL n)) ∧ P.host = true ∧ P.regs Reg.HIF_CMD_STAT ∧ P.mode = true ∧ P.regs Reg.MODE_STAT ∧ P.out = true ∧ P.regs Reg.PACER_STAT ∧ P.port = true) :
    (State.modeCmdNow s src tag target exit).outside P = s.outside P := by
  unfold State.modeCmdNow
  simp only [State.modeSetNow_outside, State.safeExitNow_outside, State.setReg_outside, State.push_outside, State.outside_ite, State.outside_bif, State.foldl_outside, State.foldl_outside_snd, State.foldl_outside_fst, ite_self, Bool.cond_self, Parts.emits_recs, Parts.emits_classLost, Parts.emits_host, Parts.emits_lost, and_self, and_true, true_and, implies_true, forall_const, hP]

@[simp] theorem State.requestMode_outside {P : Parts} (s : State) (src : CmdSrc) (tag target : Nat) (exit : Bool) (hP : P.fab = true ∧ P.regs Reg.FAB_DROP ∧ P.fresh = true ∧ (∀ n, P.regs (Reg.FP_UTIL n)) ∧ P.host = true ∧ P.regs Reg.HIF_CMD_STAT ∧ P.mode = true ∧ P.regs Reg.MODE_STAT ∧ P.out = true ∧ P.regs Reg.PACER_STAT ∧ P.port = true) :
    (State.requestMode s src tag target exit).outside P = s.outside P := by
  unfold State.requestMode
  simp only [State.accept_outside, State.modeCmdNow_outside, State.outside_mode, State.setReg_outside, State.push_outside, State.outside_ite, State.outside_bif, State.foldl_outside, State.foldl_outside_snd, State.foldl_outside_fst, ite_self, Bool.cond_self, Parts.emits_recs, Parts.emits_classLost, Parts.emits_host, Parts.emits_lost, and_self, and_true, true_and, implies_true, forall_const, hP]

@[simp] theorem takeCmds_outside {P : Parts} (l : List (CmdSrc × Nat × Nat × Bool)) (s : State) (hP : P.fab = true ∧ P.regs Reg.FAB_DROP ∧ P.fresh = true ∧ (∀ n, P.regs (Reg.FP_UTIL n)) ∧ P.host = true ∧ P.regs Reg.HIF_CMD_STAT ∧ P.mode = true ∧ P.regs Reg.MODE_STAT ∧ P.out = true ∧ P.regs Reg.PACER_STAT ∧ P.port = true) :
    (takeCmds l s).outside P = s.outside P := by
  induction l generalizing s with
  | nil => simp only [takeCmds, State.modeCmdNow_outside, State.outside_mode, State.setReg_outside, State.push_outside, State.outside_ite, State.outside_bif, State.foldl_outside, State.foldl_outside_snd, State.foldl_outside_fst, ite_self, Bool.cond_self, Parts.emits_recs, Parts.emits_classLost, Parts.emits_host, Parts.emits_lost, and_self, and_true, true_and, implies_true, forall_const, hP]
  | cons x l ih =>
    obtain ⟨a, b, c, d⟩ := x
    simp only [takeCmds, State.modeCmdNow_outside, State.outside_mode, State.setReg_outside, State.push_outside, State.outside_ite, State.outside_bif, State.foldl_outside, State.foldl_outside_snd, State.foldl_outside_fst, ite_self, Bool.cond_self, Parts.emits_recs, Parts.emits_classLost, Parts.emits_host, Parts.emits_lost, and_self, and_true, true_and, implies_true, forall_const, hP, ih]

@[simp] theorem State.takeWaiting_outside {P : Parts} (s : State) (hP : P.emits ∧ P.fab = true ∧ P.regs Reg.FAB_DROP ∧ P.fresh = true ∧ (∀ n, P.regs (Reg.FP_UTIL n)) ∧ P.mode = true ∧ P.regs Reg.HIF_CMD_STAT ∧ P.out = true ∧ P.regs Reg.MODE_STAT ∧ P.port = true ∧ P.regs Reg.PACER_STAT ∧ P.rate = true) :
    (State.takeWaiting s).outside P = s.outside P := by
  unfold State.takeWaiting
  simp only [State.burstTrigger_outside, State.wakeTrigger_outside, State.timerWake_outside, State.pacerChange_outside, takeCmds_outside, State.outside_mode, State.setReg_outside, State.push_outside, State.outside_ite, State.outside_bif, State.foldl_outside, State.foldl_outside_snd, State.foldl_outside_fst, ite_self, Bool.cond_self, Parts.emits_recs, Parts.emits_classLost, Parts.emits_host, Parts.emits_lost, and_self, and_true, true_and, implies_true, forall_const, hP]
  repeat' (first | rfl | (split <;> try simp only [State.burstTrigger_outside, State.wakeTrigger_outside, State.timerWake_outside, State.pacerChange_outside, takeCmds_outside, State.outside_mode, State.setReg_outside, State.push_outside, State.outside_ite, State.outside_bif, State.foldl_outside, State.foldl_outside_snd, State.foldl_outside_fst, ite_self, Bool.cond_self, Parts.emits_recs, Parts.emits_classLost, Parts.emits_host, Parts.emits_lost, and_self, and_true, true_and, implies_true, forall_const, hP]))

@[simp] theorem State.safeRequest_outside {P : Parts} (s : State) (hP : P.emits ∧ P.fab = true ∧ P.regs Reg.FAB_DROP ∧ P.fresh = true ∧ (∀ n, P.regs (Reg.FP_UTIL n)) ∧ P.mode = true ∧ P.regs Reg.HIF_CMD_STAT ∧ P.out = true ∧ P.regs Reg.MODE_STAT ∧ P.port = true ∧ P.regs Reg.PACER_STAT ∧ P.rate = true) :
    (State.safeRequest s).outside P = s.outside P := by
  unfold State.safeRequest
  repeat' split
  all_goals first | rfl | simp only [State.setFld_outside, State.raise_outside, State.clear_outside, State.settle_outside, State.takeWaiting_outside, State.outside_mode, State.setReg_outside, State.push_outside, State.outside_ite, State.outside_bif, State.foldl_outside, State.foldl_outside_snd, State.foldl_outside_fst, ite_self, Bool.cond_self, Parts.emits_recs, Parts.emits_classLost, Parts.emits_host, Parts.emits_lost, and_self, and_true, true_and, implies_true, forall_const, hP]

end Sys2Proof.Machine
end

