-- ==== Sys2Proof/Laws/FrameSmon.lean ====
section
/-!
SUPPORT. What the operations of Machine/Smon.lean write: each leaves every part of the state as it is but those its hypothesis names.
-/

set_option Elab.async false
set_option linter.unusedSimpArgs false
namespace Sys2Proof.Machine

@[simp] theorem State.showBalls_outside {P : Parts} (s : State) (hP : P.regs Reg.SAF_STAT) :
    (State.showBalls s).outside P = s.outside P := by
  unfold State.showBalls
  simp only [State.setFld_outside, State.setReg_outside, State.push_outside, State.outside_ite, State.outside_bif, State.foldl_outside, State.foldl_outside_snd, State.foldl_outside_fst, ite_self, Bool.cond_self, Parts.emits_recs, Parts.emits_classLost, Parts.emits_host, Parts.emits_lost, and_self, and_true, true_and, implies_true, forall_const, hP]

@[simp] theorem State.driveSafeN_outside {P : Parts} (s : State) (low : Bool) (hP : P.smon = true ∧ P.regs Reg.SAF_STAT) :
    (State.driveSafeN s low).outside P = s.outside P := by
  unfold State.driveSafeN
  simp only [State.showBalls_outside, State.outside_smon, State.setReg_outside, State.push_outside, State.outside_ite, State.outside_bif, State.foldl_outside, State.foldl_outside_snd, State.foldl_outside_fst, ite_self, Bool.cond_self, Parts.emits_recs, Parts.emits_classLost, Parts.emits_host, Parts.emits_lost, and_self, and_true, true_and, implies_true, forall_const, hP]

@[simp] theorem State.enterSafe_outside {P : Parts} (s : State) (c rule unit : Nat) (hP : P.emits ∧ P.fab = true ∧ P.regs Reg.FAB_DROP ∧ P.fresh = true ∧ (∀ n, P.regs (Reg.FP_UTIL n)) ∧ P.mode = true ∧ P.regs Reg.HIF_CMD_STAT ∧ P.out = true ∧ P.regs Reg.MODE_STAT ∧ P.port = true ∧ P.regs Reg.PACER_STAT ∧ P.rate = true ∧ P.regs Reg.SAF_CNT ∧ P.smon = true ∧ P.regs Reg.SAF_STAT) :
    (State.enterSafe s c rule unit).outside P = s.outside P := by
  unfold State.enterSafe
  simp only [State.raise_outside, State.count_outside, State.emit_outside, State.safeRequest_outside, State.driveSafeN_outside, State.outside_smon, State.setReg_outside, State.push_outside, State.outside_ite, State.outside_bif, State.foldl_outside, State.foldl_outside_snd, State.foldl_outside_fst, ite_self, Bool.cond_self, Parts.emits_recs, Parts.emits_classLost, Parts.emits_host, Parts.emits_lost, and_self, and_true, true_and, implies_true, forall_const, hP]

@[simp] theorem State.raiseCause_outside {P : Parts} (s : State) (c rule unit : Nat) (hP : P.emits ∧ P.fab = true ∧ P.regs Reg.FAB_DROP ∧ P.fresh = true ∧ (∀ n, P.regs (Reg.FP_UTIL n)) ∧ P.mode = true ∧ P.regs Reg.HIF_CMD_STAT ∧ P.out = true ∧ P.regs Reg.MODE_STAT ∧ P.port = true ∧ P.regs Reg.PACER_STAT ∧ P.rate = true ∧ P.regs Reg.SAF_CAUSE ∧ P.smon = true ∧ P.regs Reg.SAF_CAUSE_S ∧ P.regs Reg.SAF_CNT ∧ P.regs Reg.SAF_STAT) :
    (State.raiseCause s c rule unit).outside P = s.outside P := by
  unfold State.raiseCause
  simp only [State.setBit_outside, State.enterSafe_outside, State.setReg_outside, State.push_outside, State.outside_ite, State.outside_bif, State.foldl_outside, State.foldl_outside_snd, State.foldl_outside_fst, ite_self, Bool.cond_self, Parts.emits_recs, Parts.emits_classLost, Parts.emits_host, Parts.emits_lost, and_self, and_true, true_and, implies_true, forall_const, hP]

@[simp] theorem State.dropCause_outside {P : Parts} (s : State) (c : Nat) (hP : P.regs Reg.SAF_CAUSE) :
    (State.dropCause s c).outside P = s.outside P := by
  unfold State.dropCause
  simp only [State.setBit_outside, State.setReg_outside, State.push_outside, State.outside_ite, State.outside_bif, State.foldl_outside, State.foldl_outside_snd, State.foldl_outside_fst, ite_self, Bool.cond_self, Parts.emits_recs, Parts.emits_classLost, Parts.emits_host, Parts.emits_lost, and_self, and_true, true_and, implies_true, forall_const, hP]

@[simp] theorem State.setTrust_outside {P : Parts} (s : State) (n : Nat) (t : ChanTrust) (hP : P.trust = true) :
    (State.setTrust s n t).outside P = s.outside P := by
  unfold State.setTrust
  simp only [State.outside_trust, State.setReg_outside, State.push_outside, State.outside_ite, State.outside_bif, State.foldl_outside, State.foldl_outside_snd, State.foldl_outside_fst, ite_self, Bool.cond_self, Parts.emits_recs, Parts.emits_classLost, Parts.emits_host, Parts.emits_lost, and_self, and_true, true_and, implies_true, forall_const, hP]

@[simp] theorem State.showSets_outside {P : Parts} (s : State) (hP : P.regs Reg.SAF_SET0 ∧ P.regs Reg.SAF_SET1 ∧ P.regs Reg.SAF_W) :
    (State.showSets s).outside P = s.outside P := by
  unfold State.showSets
  simp only [State.setFld_outside, State.setReg_outside, State.push_outside, State.outside_ite, State.outside_bif, State.foldl_outside, State.foldl_outside_snd, State.foldl_outside_fst, ite_self, Bool.cond_self, Parts.emits_recs, Parts.emits_classLost, Parts.emits_host, Parts.emits_lost, and_self, and_true, true_and, implies_true, forall_const, hP]

@[simp] theorem State.showVerified_outside {P : Parts} (s : State) (n : Nat) (b : Bool) (hP : P.regs Reg.SAF_VER0 ∧ P.regs Reg.SAF_VER1 ∧ P.regs Reg.SAF_W) :
    (State.showVerified s n b).outside P = s.outside P := by
  unfold State.showVerified
  simp only [State.setBit_outside, State.setReg_outside, State.push_outside, State.outside_ite, State.outside_bif, State.foldl_outside, State.foldl_outside_snd, State.foldl_outside_fst, ite_self, Bool.cond_self, Parts.emits_recs, Parts.emits_classLost, Parts.emits_host, Parts.emits_lost, and_self, and_true, true_and, implies_true, forall_const, hP]

@[simp] theorem State.judge_outside {P : Parts} (s : State) (n : Nat) (hP : P.emits ∧ P.trust = true ∧ P.regs Reg.SAF_VER0 ∧ P.regs Reg.SAF_VER1 ∧ P.regs Reg.SAF_W) :
    (State.judge s n).outside P = s.outside P := by
  unfold State.judge
  simp only [State.emit_outside, State.setTrust_outside, State.showVerified_outside, State.setReg_outside, State.push_outside, State.outside_ite, State.outside_bif, State.foldl_outside, State.foldl_outside_snd, State.foldl_outside_fst, ite_self, Bool.cond_self, Parts.emits_recs, Parts.emits_classLost, Parts.emits_host, Parts.emits_lost, and_self, and_true, true_and, implies_true, forall_const, hP]
  repeat' (first | rfl | (split <;> try simp only [State.emit_outside, State.setTrust_outside, State.showVerified_outside, State.setReg_outside, State.push_outside, State.outside_ite, State.outside_bif, State.foldl_outside, State.foldl_outside_snd, State.foldl_outside_fst, ite_self, Bool.cond_self, Parts.emits_recs, Parts.emits_classLost, Parts.emits_host, Parts.emits_lost, and_self, and_true, true_and, implies_true, forall_const, hP]))

@[simp] theorem State.judgeChannelCause_outside {P : Parts} (s : State) (hP : P.emits ∧ P.fab = true ∧ P.regs Reg.FAB_DROP ∧ P.fresh = true ∧ (∀ n, P.regs (Reg.FP_UTIL n)) ∧ P.mode = true ∧ P.regs Reg.HIF_CMD_STAT ∧ P.out = true ∧ P.regs Reg.MODE_STAT ∧ P.port = true ∧ P.regs Reg.PACER_STAT ∧ P.rate = true ∧ P.regs Reg.SAF_CAUSE ∧ P.smon = true ∧ P.regs Reg.SAF_CAUSE_S ∧ P.regs Reg.SAF_CNT ∧ P.regs Reg.SAF_STAT) :
    (State.judgeChannelCause s).outside P = s.outside P := by
  unfold State.judgeChannelCause
  repeat' split
  all_goals first | rfl | simp only [State.raiseCause_outside, State.dropCause_outside, State.setReg_outside, State.push_outside, State.outside_ite, State.outside_bif, State.foldl_outside, State.foldl_outside_snd, State.foldl_outside_fst, ite_self, Bool.cond_self, Parts.emits_recs, Parts.emits_classLost, Parts.emits_host, Parts.emits_lost, and_self, and_true, true_and, implies_true, forall_const, hP]

@[simp] theorem State.verifyP_outside {P : Parts} (s : State) (n : Nat) (hP : P.emits ∧ P.fab = true ∧ P.regs Reg.FAB_DROP ∧ P.fresh = true ∧ (∀ n, P.regs (Reg.FP_UTIL n)) ∧ P.mode = true ∧ P.regs Reg.HIF_CMD_STAT ∧ P.out = true ∧ P.regs Reg.MODE_STAT ∧ P.port = true ∧ P.regs Reg.PACER_STAT ∧ P.rate = true ∧ P.regs Reg.SAF_CAUSE ∧ P.smon = true ∧ P.regs Reg.SAF_CAUSE_S ∧ P.trust = true ∧ P.regs Reg.SAF_CNT ∧ P.regs Reg.SAF_STAT ∧ P.regs Reg.SAF_VER0 ∧ P.regs Reg.SAF_VER1 ∧ P.regs Reg.SAF_W) :
    (State.verifyP s n).outside P = s.outside P := by
  unfold State.verifyP
  simp only [State.judge_outside, State.judgeChannelCause_outside, State.setReg_outside, State.push_outside, State.outside_ite, State.outside_bif, State.foldl_outside, State.foldl_outside_snd, State.foldl_outside_fst, ite_self, Bool.cond_self, Parts.emits_recs, Parts.emits_classLost, Parts.emits_host, Parts.emits_lost, and_self, and_true, true_and, implies_true, forall_const, hP]

@[simp] theorem State.verifyW_outside {P : Parts} (s : State) (n : Nat) (hP : P.emits ∧ P.fab = true ∧ P.regs Reg.FAB_DROP ∧ P.fresh = true ∧ (∀ n, P.regs (Reg.FP_UTIL n)) ∧ P.mode = true ∧ P.regs Reg.HIF_CMD_STAT ∧ P.out = true ∧ P.regs Reg.MODE_STAT ∧ P.port = true ∧ P.regs Reg.PACER_STAT ∧ P.rate = true ∧ P.regs Reg.SAF_CAUSE ∧ P.smon = true ∧ P.regs Reg.SAF_CAUSE_S ∧ P.trust = true ∧ P.regs Reg.SAF_CNT ∧ P.regs Reg.SAF_STAT ∧ P.regs Reg.SAF_VER0 ∧ P.regs Reg.SAF_VER1 ∧ P.regs Reg.SAF_W) :
    (State.verifyW s n).outside P = s.outside P := by
  unfold State.verifyW
  simp only [State.judge_outside, State.judgeChannelCause_outside, State.setReg_outside, State.push_outside, State.outside_ite, State.outside_bif, State.foldl_outside, State.foldl_outside_snd, State.foldl_outside_fst, ite_self, Bool.cond_self, Parts.emits_recs, Parts.emits_classLost, Parts.emits_host, Parts.emits_lost, and_self, and_true, true_and, implies_true, forall_const, hP]

@[simp] theorem State.verifyAll_outside {P : Parts} (s : State) (hP : P.emits ∧ P.fab = true ∧ P.regs Reg.FAB_DROP ∧ P.fresh = true ∧ (∀ n, P.regs (Reg.FP_UTIL n)) ∧ P.mode = true ∧ P.regs Reg.HIF_CMD_STAT ∧ P.out = true ∧ P.regs Reg.MODE_STAT ∧ P.port = true ∧ P.regs Reg.PACER_STAT ∧ P.rate = true ∧ P.regs Reg.SAF_CAUSE ∧ P.smon = true ∧ P.regs Reg.SAF_CAUSE_S ∧ P.trust = true ∧ P.regs Reg.SAF_CNT ∧ P.regs Reg.SAF_STAT ∧ P.regs Reg.SAF_VER0 ∧ P.regs Reg.SAF_VER1 ∧ P.regs Reg.SAF_W) :
    (State.verifyAll s).outside P = s.outside P := by
  unfold State.verifyAll
  simp only [State.judge_outside, State.judgeChannelCause_outside, State.setReg_outside, State.push_outside, State.outside_ite, State.outside_bif, State.foldl_outside, State.foldl_outside_snd, State.foldl_outside_fst, ite_self, Bool.cond_self, Parts.emits_recs, Parts.emits_classLost, Parts.emits_host, Parts.emits_lost, and_self, and_true, true_and, implies_true, forall_const, hP]

@[simp] theorem State.verifyWm_outside {P : Parts} (s : State) (i : Nat) (hP : P.emits ∧ P.fab = true ∧ P.regs Reg.FAB_DROP ∧ P.fresh = true ∧ (∀ n, P.regs (Reg.FP_UTIL n)) ∧ P.mode = true ∧ P.regs Reg.HIF_CMD_STAT ∧ P.out = true ∧ P.regs Reg.MODE_STAT ∧ P.port = true ∧ P.regs Reg.PACER_STAT ∧ P.rate = true ∧ P.regs Reg.SAF_CAUSE ∧ P.smon = true ∧ P.regs Reg.SAF_CAUSE_S ∧ P.trust = true ∧ P.regs Reg.SAF_CNT ∧ P.regs Reg.SAF_STAT ∧ P.regs Reg.SAF_VER0 ∧ P.regs Reg.SAF_VER1 ∧ P.regs Reg.SAF_W) :
    (State.verifyWm s i).outside P = s.outside P := by
  unfold State.verifyWm
  simp only [State.verifyP_outside, State.setReg_outside, State.push_outside, State.outside_ite, State.outside_bif, State.foldl_outside, State.foldl_outside_snd, State.foldl_outside_fst, ite_self, Bool.cond_self, Parts.emits_recs, Parts.emits_classLost, Parts.emits_host, Parts.emits_lost, and_self, and_true, true_and, implies_true, forall_const, hP]

@[simp] theorem State.firstAgree_outside {P : Parts} (s : State) (n : Nat) (hP : P.trust = true) :
    (State.firstAgree s n).outside P = s.outside P := by
  unfold State.firstAgree
  simp only [State.setTrust_outside, State.setReg_outside, State.push_outside, State.outside_ite, State.outside_bif, State.foldl_outside, State.foldl_outside_snd, State.foldl_outside_fst, ite_self, Bool.cond_self, Parts.emits_recs, Parts.emits_classLost, Parts.emits_host, Parts.emits_lost, and_self, and_true, true_and, implies_true, forall_const, hP]

@[simp] theorem State.setTrustPoison_outside {P : Parts} (s : State) (n src : Nat) (b : Bool) (hP : P.trust = true) :
    (State.setTrustPoison s n src b).outside P = s.outside P := by
  unfold State.setTrustPoison
  simp only [State.setTrust_outside, State.setReg_outside, State.push_outside, State.outside_ite, State.outside_bif, State.foldl_outside, State.foldl_outside_snd, State.foldl_outside_fst, ite_self, Bool.cond_self, Parts.emits_recs, Parts.emits_classLost, Parts.emits_host, Parts.emits_lost, and_self, and_true, true_and, implies_true, forall_const, hP]

@[simp] theorem State.compTested_outside {P : Parts} (s : State) (u : Nat) (pass : Bool) (hP : P.emits ∧ P.fab = true ∧ P.regs Reg.FAB_DROP ∧ P.fresh = true ∧ (∀ n, P.regs (Reg.FP_UTIL n)) ∧ P.mode = true ∧ P.regs Reg.HIF_CMD_STAT ∧ P.out = true ∧ P.regs Reg.MODE_STAT ∧ P.port = true ∧ P.regs Reg.PACER_STAT ∧ P.rate = true ∧ P.regs Reg.SAF_CAUSE ∧ P.smon = true ∧ P.regs Reg.SAF_CAUSE_S ∧ P.trust = true ∧ P.regs Reg.SAF_CNT ∧ P.regs Reg.SAF_STAT ∧ P.regs Reg.SAF_VER0 ∧ P.regs Reg.SAF_VER1 ∧ P.regs Reg.SAF_W) :
    (State.compTested s u pass).outside P = s.outside P := by
  unfold State.compTested
  simp only [State.setTrust_outside, State.verifyP_outside, State.setReg_outside, State.push_outside, State.outside_ite, State.outside_bif, State.foldl_outside, State.foldl_outside_snd, State.foldl_outside_fst, ite_self, Bool.cond_self, Parts.emits_recs, Parts.emits_classLost, Parts.emits_host, Parts.emits_lost, and_self, and_true, true_and, implies_true, forall_const, hP]

@[simp] theorem State.compUntrusted_outside {P : Parts} (s : State) (u : Nat) (hP : P.emits ∧ P.fab = true ∧ P.regs Reg.FAB_DROP ∧ P.fresh = true ∧ (∀ n, P.regs (Reg.FP_UTIL n)) ∧ P.mode = true ∧ P.regs Reg.HIF_CMD_STAT ∧ P.out = true ∧ P.regs Reg.MODE_STAT ∧ P.port = true ∧ P.regs Reg.PACER_STAT ∧ P.rate = true ∧ P.regs Reg.SAF_CAUSE ∧ P.smon = true ∧ P.regs Reg.SAF_CAUSE_S ∧ P.trust = true ∧ P.regs Reg.SAF_CNT ∧ P.regs Reg.SAF_STAT ∧ P.regs Reg.SAF_VER0 ∧ P.regs Reg.SAF_VER1 ∧ P.regs Reg.SAF_W) :
    (State.compUntrusted s u).outside P = s.outside P := by
  unfold State.compUntrusted
  simp only [State.verifyP_outside, State.setReg_outside, State.push_outside, State.outside_ite, State.outside_bif, State.foldl_outside, State.foldl_outside_snd, State.foldl_outside_fst, ite_self, Bool.cond_self, Parts.emits_recs, Parts.emits_classLost, Parts.emits_host, Parts.emits_lost, and_self, and_true, true_and, implies_true, forall_const, hP]

@[simp] theorem State.setAlarm_outside {P : Parts} (s : State) (a : Nat) (level : Bool) (reason : Nat) (what : Nat) (hP : P.emits ∧ (∀ n, P.regs (Reg.SAF_ALM_STAT n)) ∧ P.regs Reg.SAF_STAT) :
    (State.setAlarm s a level reason what).outside P = s.outside P := by
  unfold State.setAlarm
  simp only [State.setFld_outside, State.count_outside, State.emit_outside, State.showBalls_outside, State.setReg_outside, State.push_outside, State.outside_ite, State.outside_bif, State.foldl_outside, State.foldl_outside_snd, State.foldl_outside_fst, ite_self, Bool.cond_self, Parts.emits_recs, Parts.emits_classLost, Parts.emits_host, Parts.emits_lost, and_self, and_true, true_and, implies_true, forall_const, hP]

@[simp] theorem State.setAlarmU_outside {P : Parts} (s : State) (a : Nat) (x : AlarmUnit) (hP : P.alarm = true) :
    (State.setAlarmU s a x).outside P = s.outside P := by
  unfold State.setAlarmU
  simp only [State.outside_alarm, State.setReg_outside, State.push_outside, State.outside_ite, State.outside_bif, State.foldl_outside, State.foldl_outside_snd, State.foldl_outside_fst, ite_self, Bool.cond_self, Parts.emits_recs, Parts.emits_classLost, Parts.emits_host, Parts.emits_lost, and_self, and_true, true_and, implies_true, forall_const, hP]

@[simp] theorem State.evaluateAlarm_outside {P : Parts} (s : State) (a : Nat) (hP : P.emits ∧ P.alarm = true ∧ (∀ n, P.regs (Reg.SAF_ALM_STAT n)) ∧ P.regs Reg.SAF_STAT) :
    (State.evaluateAlarm s a).outside P = s.outside P := by
  unfold State.evaluateAlarm
  simp only [State.raise_outside, State.setAlarm_outside, State.setAlarmU_outside, State.setReg_outside, State.push_outside, State.outside_ite, State.outside_bif, State.foldl_outside, State.foldl_outside_snd, State.foldl_outside_fst, ite_self, Bool.cond_self, Parts.emits_recs, Parts.emits_classLost, Parts.emits_host, Parts.emits_lost, and_self, and_true, true_and, implies_true, forall_const, hP]
  repeat' (first | rfl | (split <;> try simp only [State.raise_outside, State.setAlarm_outside, State.setAlarmU_outside, State.setReg_outside, State.push_outside, State.outside_ite, State.outside_bif, State.foldl_outside, State.foldl_outside_snd, State.foldl_outside_fst, ite_self, Bool.cond_self, Parts.emits_recs, Parts.emits_classLost, Parts.emits_host, Parts.emits_lost, and_self, and_true, true_and, implies_true, forall_const, hP]))

end Sys2Proof.Machine
end

