-- ==== Sys2Proof/Laws/FrameEvents.lean ====
section
/-!
SUPPORT. What the operations of Machine/Events.lean write: each leaves every part of the state as it is but those its hypothesis names.
-/

set_option Elab.async false
set_option linter.unusedSimpArgs false
namespace Sys2Proof.Machine

@[simp] theorem State.setNode_outside {P : Parts} (s : State) (i : Nat) (x : NodeSt) (hP : P.nodes = true) :
    (State.setNode s i x).outside P = s.outside P := by
  unfold State.setNode
  simp only [State.outside_nodes, State.setReg_outside, State.push_outside, State.outside_ite, State.outside_bif, State.foldl_outside, State.foldl_outside_snd, State.foldl_outside_fst, ite_self, Bool.cond_self, Parts.emits_recs, Parts.emits_classLost, Parts.emits_host, Parts.emits_lost, and_self, and_true, true_and, implies_true, forall_const, hP]

@[simp] theorem State.onEdges_outside {P : Parts} (s : State) (p : EdgeSrc → Bool) (f : NodeDef → Edge → NodeIn → NodeIn) (hP : P.nodes = true) :
    (State.onEdges s p f).outside P = s.outside P := by
  unfold State.onEdges
  simp (maxDischargeDepth := 6) only [State.setNode_outside, State.setReg_outside, State.push_outside, State.outside_ite, State.outside_bif, State.foldl_outside, State.foldl_outside_snd, State.foldl_outside_fst, ite_self, Bool.cond_self, Parts.emits_recs, Parts.emits_classLost, Parts.emits_host, Parts.emits_lost, and_self, and_true, true_and, implies_true, forall_const, hP]

@[simp] theorem State.feedEvent_outside {P : Parts} (s : State) (src : EdgeSrc) (t : Time) (hP : P.nodes = true) :
    (State.feedEvent s src t).outside P = s.outside P := by
  unfold State.feedEvent
  simp only [State.onEdges_outside, State.setReg_outside, State.push_outside, State.outside_ite, State.outside_bif, State.foldl_outside, State.foldl_outside_snd, State.foldl_outside_fst, ite_self, Bool.cond_self, Parts.emits_recs, Parts.emits_classLost, Parts.emits_host, Parts.emits_lost, and_self, and_true, true_and, implies_true, forall_const, hP]

end Sys2Proof.Machine
end

