-- ==== Sys2Proof/Laws/FrameTriggers.lean ====
section
/-!
SUPPORT. What the operations of Machine/Triggers.lean write: each leaves every part of the state as it is but those its hypothesis names.
-/

set_option Elab.async false
set_option linter.unusedSimpArgs false
namespace Sys2Proof.Machine

@[simp] theorem State.showPending_outside {P : Parts} (s : State) (hP : P.regs Reg.SNP_NEXT_HI ∧ P.regs Reg.SNP_NEXT_LO ∧ P.regs Reg.SNP_STAT) :
    (State.showPending s).outside P = s.outside P := by
  unfold State.showPending
  simp only [State.setFld_outside, State.setPair_outside, State.setReg_outside, State.push_outside, State.outside_ite, State.outside_bif, State.foldl_outside, State.foldl_outside_snd, State.foldl_outside_fst, ite_self, Bool.cond_self, Parts.emits_recs, Parts.emits_classLost, Parts.emits_host, Parts.emits_lost, and_self, and_true, true_and, implies_true, forall_const, hP]
  repeat' (first | rfl | (split <;> try simp only [State.setFld_outside, State.setPair_outside, State.setReg_outside, State.push_outside, State.outside_ite, State.outside_bif, State.foldl_outside, State.foldl_outside_snd, State.foldl_outside_fst, ite_self, Bool.cond_self, Parts.emits_recs, Parts.emits_classLost, Parts.emits_host, Parts.emits_lost, and_self, and_true, true_and, implies_true, forall_const, hP]))

@[simp] theorem State.missSnapshot_outside {P : Parts} (s : State) (p : SnapPend) (cause : Nat) (hP : P.emits ∧ P.regs Reg.SNP_MISS_CNT ∧ P.regs Reg.SNP_STAT) :
    (State.missSnapshot s p cause).outside P = s.outside P := by
  unfold State.missSnapshot
  simp only [State.raise_outside, State.count_outside, State.emit_outside, State.setReg_outside, State.push_outside, State.outside_ite, State.outside_bif, State.foldl_outside, State.foldl_outside_snd, State.foldl_outside_fst, ite_self, Bool.cond_self, Parts.emits_recs, Parts.emits_classLost, Parts.emits_host, Parts.emits_lost, and_self, and_true, true_and, implies_true, forall_const, hP]

@[simp] theorem State.armSnapshot_outside {P : Parts} (s : State) (p : SnapPend) (hP : P.emits ∧ P.snp = true ∧ P.regs Reg.SNP_MISS_CNT ∧ P.regs Reg.SNP_NEXT_HI ∧ P.regs Reg.SNP_NEXT_LO ∧ P.regs Reg.SNP_STAT) :
    (State.armSnapshot s p).outside P = s.outside P := by
  unfold State.armSnapshot
  simp only [State.showPending_outside, State.missSnapshot_outside, State.outside_snp, State.setReg_outside, State.push_outside, State.outside_ite, State.outside_bif, State.foldl_outside, State.foldl_outside_snd, State.foldl_outside_fst, ite_self, Bool.cond_self, Parts.emits_recs, Parts.emits_classLost, Parts.emits_host, Parts.emits_lost, and_self, and_true, true_and, implies_true, forall_const, hP]

@[simp] theorem State.takeStarter_outside {P : Parts} (s : State) (p : SnapPend) (hP : P.emits ∧ P.snp = true ∧ P.regs Reg.SNP_MISS_CNT ∧ P.snpSeen = true ∧ P.regs Reg.SNP_NEXT_HI ∧ P.regs Reg.SNP_NEXT_LO ∧ P.regs Reg.SNP_STAT) :
    (State.takeStarter s p).outside P = s.outside P := by
  unfold State.takeStarter
  simp only [State.armSnapshot_outside, State.outside_snpSeen, State.setReg_outside, State.push_outside, State.outside_ite, State.outside_bif, State.foldl_outside, State.foldl_outside_snd, State.foldl_outside_fst, ite_self, Bool.cond_self, Parts.emits_recs, Parts.emits_classLost, Parts.emits_host, Parts.emits_lost, and_self, and_true, true_and, implies_true, forall_const, hP]

@[simp] theorem State.broadcastStarter_outside {P : Parts} (s : State) (p : SnapPend) (hP : P.emits ∧ P.fresh = true ∧ P.regs Reg.FAB_DROP ∧ P.out = true ∧ (∀ n, P.regs (Reg.FP_UTIL n)) ∧ P.port = true ∧ P.regs Reg.SNP_MISS_CNT ∧ P.snp = true ∧ P.regs Reg.SNP_NEXT_HI ∧ P.snpSeen = true ∧ P.regs Reg.SNP_NEXT_LO ∧ P.regs Reg.SNP_STAT) :
    (State.broadcastStarter s p).outside P = s.outside P := by
  unfold State.broadcastStarter
  simp only [State.put_outside, State.broadcast_outside, State.takeStarter_outside, State.setReg_outside, State.push_outside, State.outside_ite, State.outside_bif, State.foldl_outside, State.foldl_outside_snd, State.foldl_outside_fst, ite_self, Bool.cond_self, Parts.emits_recs, Parts.emits_classLost, Parts.emits_host, Parts.emits_lost, and_self, and_true, true_and, implies_true, forall_const, hP]

@[simp] theorem State.excRequest_outside {P : Parts} (s : State) (k : Nat) (hP : P.exc = true ∧ (∀ n, P.regs (Reg.EXC_STAT n))) :
    (State.excRequest s k).outside P = s.outside P := by
  unfold State.excRequest
  simp only [State.count_outside, State.setExc_outside, State.setReg_outside, State.push_outside, State.outside_ite, State.outside_bif, State.foldl_outside, State.foldl_outside_snd, State.foldl_outside_fst, ite_self, Bool.cond_self, Parts.emits_recs, Parts.emits_classLost, Parts.emits_host, Parts.emits_lost, and_self, and_true, true_and, implies_true, forall_const, hP]

@[simp] theorem State.triggerExc_outside {P : Parts} (s : State) (num : Nat) (hP : P.exc = true ∧ (∀ n, P.regs (Reg.EXC_STAT n))) :
    (State.triggerExc s num).outside P = s.outside P := by
  unfold State.triggerExc
  simp only [State.excRequest_outside, State.setReg_outside, State.push_outside, State.outside_ite, State.outside_bif, State.foldl_outside, State.foldl_outside_snd, State.foldl_outside_fst, ite_self, Bool.cond_self, Parts.emits_recs, Parts.emits_classLost, Parts.emits_host, Parts.emits_lost, and_self, and_true, true_and, implies_true, forall_const, hP]

@[simp] theorem State.setTrig_outside {P : Parts} (s : State) (n : Nat) (t : TrigState) (hP : P.trig = true) :
    (State.setTrig s n t).outside P = s.outside P := by
  unfold State.setTrig
  simp only [State.outside_trig, State.setReg_outside, State.push_outside, State.outside_ite, State.outside_bif, State.foldl_outside, State.foldl_outside_snd, State.foldl_outside_fst, ite_self, Bool.cond_self, Parts.emits_recs, Parts.emits_classLost, Parts.emits_host, Parts.emits_lost, and_self, and_true, true_and, implies_true, forall_const, hP]

@[simp] theorem State.raiseTrigger_outside {P : Parts} (s : State) (tr : Trigger) (t : Time) (hP : P.emits ∧ P.exc = true ∧ (∀ n, P.regs (Reg.EXC_STAT n)) ∧ P.fresh = true ∧ P.regs Reg.FAB_DROP ∧ P.mode = true ∧ (∀ n, P.regs (Reg.FP_UTIL n)) ∧ P.nodes = true ∧ P.regs Reg.MODE_STAT ∧ P.out = true ∧ P.regs Reg.PACER_STAT ∧ P.port = true ∧ P.regs Reg.SNP_MISS_CNT ∧ P.rate = true ∧ P.regs Reg.SNP_NEXT_HI ∧ P.snp = true ∧ P.regs Reg.SNP_NEXT_LO ∧ P.snpSeen = true ∧ P.regs Reg.SNP_STAT ∧ P.trig = true) :
    (State.raiseTrigger s tr t).outside P = s.outside P := by
  unfold State.raiseTrigger
  repeat' split
  all_goals first | rfl | simp only [State.freeNat_outside, State.feedEvent_outside, State.burstTrigger_outside, State.wakeTrigger_outside, State.broadcastStarter_outside, State.triggerExc_outside, State.setTrig_outside, State.outside_mode, State.setReg_outside, State.push_outside, State.outside_ite, State.outside_bif, State.foldl_outside, State.foldl_outside_snd, State.foldl_outside_fst, ite_self, Bool.cond_self, Parts.emits_recs, Parts.emits_classLost, Parts.emits_host, Parts.emits_lost, and_self, and_true, true_and, implies_true, forall_const, hP]

@[simp] theorem State.offerTrigger_outside {P : Parts} (s : State) (source index : Nat) (t : Time) (hP : P.emits ∧ P.exc = true ∧ (∀ n, P.regs (Reg.EXC_STAT n)) ∧ P.fresh = true ∧ P.regs Reg.FAB_DROP ∧ P.mode = true ∧ (∀ n, P.regs (Reg.FP_UTIL n)) ∧ P.nodes = true ∧ P.regs Reg.MODE_STAT ∧ P.out = true ∧ P.regs Reg.PACER_STAT ∧ P.port = true ∧ P.regs Reg.SNP_MISS_CNT ∧ P.rate = true ∧ P.regs Reg.SNP_NEXT_HI ∧ P.snp = true ∧ P.regs Reg.SNP_NEXT_LO ∧ P.snpSeen = true ∧ P.regs Reg.SNP_STAT ∧ P.trig = true) :
    (State.offerTrigger s source index t).outside P = s.outside P := by
  unfold State.offerTrigger
  simp only [State.raiseTrigger_outside, State.setReg_outside, State.push_outside, State.outside_ite, State.outside_bif, State.foldl_outside, State.foldl_outside_snd, State.foldl_outside_fst, ite_self, Bool.cond_self, Parts.emits_recs, Parts.emits_classLost, Parts.emits_host, Parts.emits_lost, and_self, and_true, true_and, implies_true, forall_const, hP]

@[simp] theorem State.releaseSource_outside {P : Parts} (s : State) (source index : Nat) (hP : P.trig = true) :
    (State.releaseSource s source index).outside P = s.outside P := by
  unfold State.releaseSource
  simp only [State.setTrig_outside, State.setReg_outside, State.push_outside, State.outside_ite, State.outside_bif, State.foldl_outside, State.foldl_outside_snd, State.foldl_outside_fst, ite_self, Bool.cond_self, Parts.emits_recs, Parts.emits_classLost, Parts.emits_host, Parts.emits_lost, and_self, and_true, true_and, implies_true, forall_const, hP]

@[simp] theorem State.noteFrame_outside {P : Parts} (s : State) (node : Nat) (gap : Bool) (hP : P.trig = true) :
    (State.noteFrame s node gap).outside P = s.outside P := by
  unfold State.noteFrame
  simp only [State.setTrig_outside, State.setReg_outside, State.push_outside, State.outside_ite, State.outside_bif, State.foldl_outside, State.foldl_outside_snd, State.foldl_outside_fst, ite_self, Bool.cond_self, Parts.emits_recs, Parts.emits_classLost, Parts.emits_host, Parts.emits_lost, and_self, and_true, true_and, implies_true, forall_const, hP]

@[simp] theorem State.offerStartTo_outside {P : Parts} (s : State) (n : Nat) (t : Time) (hP : P.start = true) :
    (State.offerStartTo s n t).outside P = s.outside P := by
  unfold State.offerStartTo
  simp only [State.setStart_outside, State.setReg_outside, State.push_outside, State.outside_ite, State.outside_bif, State.foldl_outside, State.foldl_outside_snd, State.foldl_outside_fst, ite_self, Bool.cond_self, Parts.emits_recs, Parts.emits_classLost, Parts.emits_host, Parts.emits_lost, and_self, and_true, true_and, implies_true, forall_const, hP]

@[simp] theorem State.offerStart_outside {P : Parts} (s : State) (src index : Nat) (t : Time) (hP : P.start = true ∧ (∀ n, P.regs (Reg.WCH_ST_CFG n))) :
    (State.offerStart s src index t).outside P = s.outside P := by
  unfold State.offerStart
  simp only [State.offerStartTo_outside, State.setReg_outside, State.push_outside, State.outside_ite, State.outside_bif, State.foldl_outside, State.foldl_outside_snd, State.foldl_outside_fst, ite_self, Bool.cond_self, Parts.emits_recs, Parts.emits_classLost, Parts.emits_host, Parts.emits_lost, and_self, and_true, true_and, implies_true, forall_const, hP]

@[simp] theorem State.offerExcEnd_outside {P : Parts} (s : State) (k : Nat) (hP : P.nodes = true ∧ (∀ n, P.regs (Reg.WCH_ST_CFG n)) ∧ P.start = true) :
    (State.offerExcEnd s k).outside P = s.outside P := by
  unfold State.offerExcEnd
  simp only [State.feedEvent_outside, State.offerStart_outside, State.setReg_outside, State.push_outside, State.outside_ite, State.outside_bif, State.foldl_outside, State.foldl_outside_snd, State.foldl_outside_fst, ite_self, Bool.cond_self, Parts.emits_recs, Parts.emits_classLost, Parts.emits_host, Parts.emits_lost, and_self, and_true, true_and, implies_true, forall_const, hP]

@[simp] theorem State.nodeRaises_outside {P : Parts} (s : State) (num : Nat) (t : Time) (mask : Bool) (hP : P.emits ∧ P.exc = true ∧ (∀ n, P.regs (Reg.EXC_STAT n)) ∧ P.fresh = true ∧ P.regs Reg.FAB_DROP ∧ P.mode = true ∧ (∀ n, P.regs (Reg.FP_UTIL n)) ∧ P.nodes = true ∧ P.regs Reg.MODE_STAT ∧ P.out = true ∧ P.regs Reg.PACER_STAT ∧ P.port = true ∧ P.regs Reg.SNP_MISS_CNT ∧ P.rate = true ∧ P.regs Reg.SNP_NEXT_HI ∧ P.snp = true ∧ P.regs Reg.SNP_NEXT_LO ∧ P.snpSeen = true ∧ P.regs Reg.SNP_STAT ∧ P.start = true ∧ (∀ n, P.regs (Reg.WCH_ST_CFG n)) ∧ P.trig = true) :
    (State.nodeRaises s num t mask).outside P = s.outside P := by
  unfold State.nodeRaises
  simp only [State.raiseTrigger_outside, State.offerStart_outside, State.setReg_outside, State.push_outside, State.outside_ite, State.outside_bif, State.foldl_outside, State.foldl_outside_snd, State.foldl_outside_fst, ite_self, Bool.cond_self, Parts.emits_recs, Parts.emits_classLost, Parts.emits_host, Parts.emits_lost, and_self, and_true, true_and, implies_true, forall_const, hP]

@[simp] theorem State.nodeFrees_outside {P : Parts} (s : State) (num : Nat) (hP : P.trig = true) :
    (State.nodeFrees s num).outside P = s.outside P := by
  unfold State.nodeFrees
  simp only [State.setTrig_outside, State.setReg_outside, State.push_outside, State.outside_ite, State.outside_bif, State.foldl_outside, State.foldl_outside_snd, State.foldl_outside_fst, ite_self, Bool.cond_self, Parts.emits_recs, Parts.emits_classLost, Parts.emits_host, Parts.emits_lost, and_self, and_true, true_and, implies_true, forall_const, hP]

end Sys2Proof.Machine
end

