-- ==== Sys2Proof/Laws/FrameAlarms.lean ====
section
/-!
SUPPORT. What the operations of Machine/Alarms.lean write: each leaves every part of the state as it is but those its hypothesis names.
-/

set_option Elab.async false
set_option linter.unusedSimpArgs false
namespace Sys2Proof.Machine

@[simp] theorem State.setSup_outside {P : Parts} (s : State) (i : Nat) (out : Bool) (hP : P.smon = true ∧ P.regs Reg.SAF_SUP) :
    (State.setSup s i out).outside P = s.outside P := by
  unfold State.setSup
  simp only [State.setBit_outside, State.outside_smon, State.setReg_outside, State.push_outside, State.outside_ite, State.outside_bif, State.foldl_outside, State.foldl_outside_snd, State.foldl_outside_fst, ite_self, Bool.cond_self, Parts.emits_recs, Parts.emits_classLost, Parts.emits_host, Parts.emits_lost, and_self, and_true, true_and, implies_true, forall_const, hP]

@[simp] theorem safSupChange_outside {P : Parts} (s : State) (i : Nat) (out : Bool) (hP : P.bank = true ∧ P.regs Reg.SAF_SUP ∧ P.smon = true) :
    (safSupChange s i out).outside P = s.outside P := by
  unfold safSupChange
  simp only [State.referenceOut_outside, State.setSup_outside, State.setReg_outside, State.push_outside, State.outside_ite, State.outside_bif, State.foldl_outside, State.foldl_outside_snd, State.foldl_outside_fst, ite_self, Bool.cond_self, Parts.emits_recs, Parts.emits_classLost, Parts.emits_host, Parts.emits_lost, and_self, and_true, true_and, implies_true, forall_const, hP]

@[simp] theorem supplyFault_outside {P : Parts} (s : State) (rail mv : Nat) (hP : P.emits ∧ P.fab = true ∧ P.regs Reg.FAB_DROP ∧ P.fresh = true ∧ (∀ n, P.regs (Reg.FP_UTIL n)) ∧ P.mode = true ∧ P.regs Reg.HIF_CMD_STAT ∧ P.out = true ∧ P.regs Reg.MODE_STAT ∧ P.port = true ∧ P.regs Reg.PACER_STAT ∧ P.rate = true ∧ P.regs Reg.SAF_CAUSE ∧ P.smon = true ∧ P.regs Reg.SAF_CAUSE_S ∧ P.regs Reg.SAF_CNT ∧ P.regs Reg.SAF_STAT ∧ P.regs Reg.SAF_SUP) :
    (supplyFault s rail mv).outside P = s.outside P := by
  unfold supplyFault
  simp only [State.raise_outside, State.emit_outside, State.raiseCause_outside, State.setSup_outside, State.setReg_outside, State.push_outside, State.outside_ite, State.outside_bif, State.foldl_outside, State.foldl_outside_snd, State.foldl_outside_fst, ite_self, Bool.cond_self, Parts.emits_recs, Parts.emits_classLost, Parts.emits_host, Parts.emits_lost, and_self, and_true, true_and, implies_true, forall_const, hP]

@[simp] theorem referenceMonitorTrip_outside {P : Parts} (s : State) (mv : Nat) (hP : P.emits ∧ P.bank = true ∧ P.regs Reg.FAB_DROP ∧ P.fab = true ∧ (∀ n, P.regs (Reg.FP_UTIL n)) ∧ P.fresh = true ∧ P.regs Reg.HIF_CMD_STAT ∧ P.mode = true ∧ P.regs Reg.MODE_STAT ∧ P.out = true ∧ P.regs Reg.PACER_STAT ∧ P.port = true ∧ P.regs Reg.SAF_CAUSE ∧ P.rate = true ∧ P.regs Reg.SAF_CAUSE_S ∧ P.smon = true ∧ P.regs Reg.SAF_CNT ∧ P.regs Reg.SAF_STAT ∧ P.regs Reg.SAF_SUP) :
    (referenceMonitorTrip s mv).outside P = s.outside P := by
  unfold referenceMonitorTrip
  simp only [State.raise_outside, State.emit_outside, State.referenceOut_outside, State.raiseCause_outside, State.setSup_outside, State.setReg_outside, State.push_outside, State.outside_ite, State.outside_bif, State.foldl_outside, State.foldl_outside_snd, State.foldl_outside_fst, ite_self, Bool.cond_self, Parts.emits_recs, Parts.emits_classLost, Parts.emits_host, Parts.emits_lost, and_self, and_true, true_and, implies_true, forall_const, hP]

@[simp] theorem causeClearTimer_outside {P : Parts} (s : State) (c : Nat) (hP : P.smon = true ∧ P.regs Reg.SAF_CAUSE ∧ P.regs Reg.SAF_STAT) :
    (causeClearTimer s c).outside P = s.outside P := by
  unfold causeClearTimer
  simp only [State.showBalls_outside, State.dropCause_outside, State.outside_smon, State.setReg_outside, State.push_outside, State.outside_ite, State.outside_bif, State.foldl_outside, State.foldl_outside_snd, State.foldl_outside_fst, ite_self, Bool.cond_self, Parts.emits_recs, Parts.emits_classLost, Parts.emits_host, Parts.emits_lost, and_self, and_true, true_and, implies_true, forall_const, hP]

@[simp] theorem State.assertAll_outside {P : Parts} (s : State) (hP : P.emits ∧ (∀ n, P.regs (Reg.SAF_ALM_STAT n)) ∧ P.regs Reg.SAF_STAT) :
    (State.assertAll s).outside P = s.outside P := by
  unfold State.assertAll
  simp only [State.setAlarm_outside, State.setReg_outside, State.push_outside, State.outside_ite, State.outside_bif, State.foldl_outside, State.foldl_outside_snd, State.foldl_outside_fst, ite_self, Bool.cond_self, Parts.emits_recs, Parts.emits_classLost, Parts.emits_host, Parts.emits_lost, and_self, and_true, true_and, implies_true, forall_const, hP]

@[simp] theorem smonLockstepMismatch_outside {P : Parts} (s : State) (hP : P.emits ∧ P.fab = true ∧ P.regs Reg.FAB_DROP ∧ P.fresh = true ∧ (∀ n, P.regs (Reg.FP_UTIL n)) ∧ P.mode = true ∧ P.regs Reg.HIF_CMD_STAT ∧ P.out = true ∧ P.regs Reg.MODE_STAT ∧ P.port = true ∧ P.regs Reg.PACER_STAT ∧ P.rate = true ∧ (∀ n, P.regs (Reg.SAF_ALM_STAT n)) ∧ P.smon = true ∧ P.regs Reg.SAF_CAUSE ∧ P.regs Reg.SAF_CAUSE_S ∧ P.regs Reg.SAF_CNT ∧ P.regs Reg.SAF_STAT) :
    (smonLockstepMismatch s).outside P = s.outside P := by
  unfold smonLockstepMismatch
  simp only [State.driveSafeN_outside, State.raiseCause_outside, State.assertAll_outside, State.setReg_outside, State.push_outside, State.outside_ite, State.outside_bif, State.foldl_outside, State.foldl_outside_snd, State.foldl_outside_fst, ite_self, Bool.cond_self, Parts.emits_recs, Parts.emits_classLost, Parts.emits_host, Parts.emits_lost, and_self, and_true, true_and, implies_true, forall_const, hP]

@[simp] theorem outputFault_outside {P : Parts} (s : State) (ball : Nat) (level : Bool) (hP : P.emits ∧ P.fab = true ∧ P.regs Reg.FAB_DROP ∧ P.fresh = true ∧ (∀ n, P.regs (Reg.FP_UTIL n)) ∧ P.mode = true ∧ P.regs Reg.HIF_CMD_STAT ∧ P.out = true ∧ P.regs Reg.MODE_STAT ∧ P.port = true ∧ P.regs Reg.PACER_STAT ∧ P.rate = true ∧ (∀ n, P.regs (Reg.SAF_ALM_STAT n)) ∧ P.smon = true ∧ P.regs Reg.SAF_CAUSE ∧ P.regs Reg.SAF_CAUSE_S ∧ P.regs Reg.SAF_CNT ∧ P.regs Reg.SAF_STAT) :
    (outputFault s ball level).outside P = s.outside P := by
  unfold outputFault
  simp only [State.raise_outside, State.emit_outside, State.showBalls_outside, State.raiseCause_outside, State.setAlarm_outside, State.outside_smon, State.setReg_outside, State.push_outside, State.outside_ite, State.outside_bif, State.foldl_outside, State.foldl_outside_snd, State.foldl_outside_fst, ite_self, Bool.cond_self, Parts.emits_recs, Parts.emits_classLost, Parts.emits_host, Parts.emits_lost, and_self, and_true, true_and, implies_true, forall_const, hP]

@[simp] theorem alarmEvaluate_outside {P : Parts} (s : State) (hP : P.emits ∧ P.alarm = true ∧ (∀ n, P.regs (Reg.SAF_ALM_STAT n)) ∧ P.regs Reg.SAF_STAT) :
    (alarmEvaluate s).outside P = s.outside P := by
  unfold alarmEvaluate
  simp only [State.evaluateAlarm_outside, State.setReg_outside, State.push_outside, State.outside_ite, State.outside_bif, State.foldl_outside, State.foldl_outside_snd, State.foldl_outside_fst, ite_self, Bool.cond_self, Parts.emits_recs, Parts.emits_classLost, Parts.emits_host, Parts.emits_lost, and_self, and_true, true_and, implies_true, forall_const, hP]

@[simp] theorem alarmHoldExpiry_outside {P : Parts} (s : State) (a t : Nat) (hP : P.emits ∧ P.alarm = true ∧ (∀ n, P.regs (Reg.SAF_ALM_STAT n)) ∧ P.trig = true ∧ P.regs Reg.SAF_STAT) :
    (alarmHoldExpiry s a t).outside P = s.outside P := by
  unfold alarmHoldExpiry
  simp only [State.setTrig_outside, State.evaluateAlarm_outside, State.setReg_outside, State.push_outside, State.outside_ite, State.outside_bif, State.foldl_outside, State.foldl_outside_snd, State.foldl_outside_fst, ite_self, Bool.cond_self, Parts.emits_recs, Parts.emits_classLost, Parts.emits_host, Parts.emits_lost, and_self, and_true, true_and, implies_true, forall_const, hP]

@[simp] theorem safAlmAck_outside {P : Parts} (s : State) (n : Nat) (hP : P.emits ∧ P.alarm = true ∧ (∀ n, P.regs (Reg.SAF_ALM_STAT n)) ∧ P.regs Reg.SAF_STAT) :
    (safAlmAck s n).outside P = s.outside P := by
  unfold safAlmAck
  simp only [State.clear_outside, State.evaluateAlarm_outside, State.setReg_outside, State.push_outside, State.outside_ite, State.outside_bif, State.foldl_outside, State.foldl_outside_snd, State.foldl_outside_fst, ite_self, Bool.cond_self, Parts.emits_recs, Parts.emits_classLost, Parts.emits_host, Parts.emits_lost, and_self, and_true, true_and, implies_true, forall_const, hP]

@[simp] theorem State.almChanged_outside {P : Parts} (s : State) (hP : P.emits ∧ P.fab = true ∧ P.regs Reg.FAB_DROP ∧ P.fresh = true ∧ (∀ n, P.regs (Reg.FP_UTIL n)) ∧ P.mode = true ∧ P.regs Reg.HIF_CMD_STAT ∧ P.out = true ∧ P.regs Reg.MODE_STAT ∧ P.port = true ∧ P.regs Reg.PACER_STAT ∧ P.rate = true ∧ P.regs Reg.SAF_CAUSE ∧ P.smon = true ∧ P.regs Reg.SAF_CAUSE_S ∧ P.trust = true ∧ P.regs Reg.SAF_CNT ∧ P.regs Reg.SAF_SET0 ∧ P.regs Reg.SAF_SET1 ∧ P.regs Reg.SAF_STAT ∧ P.regs Reg.SAF_VER0 ∧ P.regs Reg.SAF_VER1 ∧ P.regs Reg.SAF_W) :
    (State.almChanged s).outside P = s.outside P := by
  unfold State.almChanged
  simp only [State.showSets_outside, State.verifyAll_outside, State.setReg_outside, State.push_outside, State.outside_ite, State.outside_bif, State.foldl_outside, State.foldl_outside_snd, State.foldl_outside_fst, ite_self, Bool.cond_self, Parts.emits_recs, Parts.emits_classLost, Parts.emits_host, Parts.emits_lost, and_self, and_true, true_and, implies_true, forall_const, hP]

@[simp] theorem safAlmCfgWrite_outside {P : Parts} (s : State) (n i : Nat) (v : Word) (hP : P.emits ∧ P.fab = true ∧ P.regs Reg.FAB_DROP ∧ P.fresh = true ∧ (∀ n, P.regs (Reg.FP_UTIL n)) ∧ P.mode = true ∧ P.regs Reg.HIF_CMD_STAT ∧ P.out = true ∧ P.regs Reg.MODE_STAT ∧ P.port = true ∧ P.regs Reg.PACER_STAT ∧ P.rate = true ∧ P.regs Reg.SAF_CAUSE ∧ P.smon = true ∧ P.regs Reg.SAF_CAUSE_S ∧ P.trust = true ∧ P.regs Reg.SAF_CNT ∧ P.regs Reg.SAF_SET0 ∧ P.regs Reg.SAF_SET1 ∧ P.regs Reg.SAF_STAT ∧ P.regs Reg.SAF_VER0 ∧ P.regs Reg.SAF_VER1 ∧ P.regs Reg.SAF_W ∧ (∀ n m, P.regs (almReg n m))) :
    (safAlmCfgWrite s n i v).outside P = s.outside P := by
  unfold safAlmCfgWrite
  simp only [State.raise_outside, State.almChanged_outside, State.setReg_outside, State.push_outside, State.outside_ite, State.outside_bif, State.foldl_outside, State.foldl_outside_snd, State.foldl_outside_fst, ite_self, Bool.cond_self, Parts.emits_recs, Parts.emits_classLost, Parts.emits_host, Parts.emits_lost, and_self, and_true, true_and, implies_true, forall_const, hP]

@[simp] theorem safForceSafe_outside {P : Parts} (s : State) (hP : P.emits ∧ P.fab = true ∧ P.regs Reg.FAB_DROP ∧ P.fresh = true ∧ (∀ n, P.regs (Reg.FP_UTIL n)) ∧ P.mode = true ∧ P.regs Reg.HIF_CMD_STAT ∧ P.out = true ∧ P.regs Reg.MODE_STAT ∧ P.port = true ∧ P.regs Reg.PACER_STAT ∧ P.rate = true ∧ P.regs Reg.SAF_CAUSE ∧ P.smon = true ∧ P.regs Reg.SAF_CAUSE_S ∧ P.regs Reg.SAF_CNT ∧ P.regs Reg.SAF_STAT) :
    (safForceSafe s).outside P = s.outside P := by
  unfold safForceSafe
  simp only [State.raise_outside, State.raiseCause_outside, State.setReg_outside, State.push_outside, State.outside_ite, State.outside_bif, State.foldl_outside, State.foldl_outside_snd, State.foldl_outside_fst, ite_self, Bool.cond_self, Parts.emits_recs, Parts.emits_classLost, Parts.emits_host, Parts.emits_lost, and_self, and_true, true_and, implies_true, forall_const, hP]

@[simp] theorem safForceAlm_outside {P : Parts} (s : State) (v : Nat) (hP : P.regs Reg.SAF_FORCE ∧ P.regs Reg.SAF_STAT) :
    (safForceAlm s v).outside P = s.outside P := by
  unfold safForceAlm
  simp only [State.setFld_outside, State.raise_outside, State.setReg_outside, State.push_outside, State.outside_ite, State.outside_bif, State.foldl_outside, State.foldl_outside_snd, State.foldl_outside_fst, ite_self, Bool.cond_self, Parts.emits_recs, Parts.emits_classLost, Parts.emits_host, Parts.emits_lost, and_self, and_true, true_and, implies_true, forall_const, hP]

end Sys2Proof.Machine
end

