-- ==== Sys2Proof/Laws/FrameDeliver.lean ====
section
/-!
SUPPORT. What the operations of Machine/Deliver.lean write: each leaves every part of the state as it is but those its hypothesis names.
-/

set_option Elab.async false
set_option linter.unusedSimpArgs false
namespace Sys2Proof.Machine

@[simp] theorem State.setStream_outside {P : Parts} (s : State) (sid : Nat) (x : Stream) (hP : P.streams = true) :
    (State.setStream s sid x).outside P = s.outside P := by
  unfold State.setStream
  simp only [State.outside_streams, State.setReg_outside, State.push_outside, State.outside_ite, State.outside_bif, State.foldl_outside, State.foldl_outside_snd, State.foldl_outside_fst, ite_self, Bool.cond_self, Parts.emits_recs, Parts.emits_classLost, Parts.emits_host, Parts.emits_lost, and_self, and_true, true_and, implies_true, forall_const, hP]

@[simp] theorem State.showStage_outside {P : Parts} (s : State) (hP : P.regs Reg.STR_STAGE) :
    (State.showStage s).outside P = s.outside P := by
  unfold State.showStage
  simp only [State.setFld_outside, State.setReg_outside, State.push_outside, State.outside_ite, State.outside_bif, State.foldl_outside, State.foldl_outside_snd, State.foldl_outside_fst, ite_self, Bool.cond_self, Parts.emits_recs, Parts.emits_classLost, Parts.emits_host, Parts.emits_lost, and_self, and_true, true_and, implies_true, forall_const, hP]

@[simp] theorem State.discard_outside {P : Parts} (s : State) (sid n period : Nat) (t tEnd : Time) (hP : P.streams = true ∧ P.regs Reg.STR_STAT) :
    (State.discard s sid n period t tEnd).outside P = s.outside P := by
  unfold State.discard
  simp only [State.raise_outside, State.count_outside, State.setStream_outside, State.setReg_outside, State.push_outside, State.outside_ite, State.outside_bif, State.foldl_outside, State.foldl_outside_snd, State.foldl_outside_fst, ite_self, Bool.cond_self, Parts.emits_recs, Parts.emits_classLost, Parts.emits_host, Parts.emits_lost, and_self, and_true, true_and, implies_true, forall_const, hP]
  repeat' (first | rfl | (split <;> try simp only [State.raise_outside, State.count_outside, State.setStream_outside, State.setReg_outside, State.push_outside, State.outside_ite, State.outside_bif, State.foldl_outside, State.foldl_outside_snd, State.foldl_outside_fst, ite_self, Bool.cond_self, Parts.emits_recs, Parts.emits_classLost, Parts.emits_host, Parts.emits_lost, and_self, and_true, true_and, implies_true, forall_const, hP]))

@[simp] theorem State.streamGap_outside {P : Parts} (s : State) (sid : Nat) (b : Block) (hP : P.streams = true ∧ P.regs Reg.STR_STAGE ∧ P.regs Reg.STR_STAT) :
    (State.streamGap s sid b).outside P = s.outside P := by
  unfold State.streamGap
  simp only [State.count_outside, State.setStream_outside, State.showStage_outside, State.discard_outside, State.setReg_outside, State.push_outside, State.outside_ite, State.outside_bif, State.foldl_outside, State.foldl_outside_snd, State.foldl_outside_fst, ite_self, Bool.cond_self, Parts.emits_recs, Parts.emits_classLost, Parts.emits_host, Parts.emits_lost, and_self, and_true, true_and, implies_true, forall_const, hP]

@[simp] theorem State.streamValue_outside {P : Parts} (s : State) (sid fmt bits period attr code : Nat) (t : Time) (hP : P.streams = true ∧ P.regs Reg.STR_STAGE ∧ P.regs Reg.STR_STAT) :
    (State.streamValue s sid fmt bits period attr code t).outside P = s.outside P := by
  unfold State.streamValue
  simp only [State.setStream_outside, State.showStage_outside, State.discard_outside, State.setReg_outside, State.push_outside, State.outside_ite, State.outside_bif, State.foldl_outside, State.foldl_outside_snd, State.foldl_outside_fst, ite_self, Bool.cond_self, Parts.emits_recs, Parts.emits_classLost, Parts.emits_host, Parts.emits_lost, and_self, and_true, true_and, implies_true, forall_const, hP]

@[simp] theorem State.feedNodes_outside {P : Parts} (s : State) (srck n idx : Nat) (v : OutVal) (hP : P.nodes = true) :
    (State.feedNodes s srck n idx v).outside P = s.outside P := by
  unfold State.feedNodes
  simp only [State.onEdges_outside, State.setReg_outside, State.push_outside, State.outside_ite, State.outside_bif, State.foldl_outside, State.foldl_outside_snd, State.foldl_outside_fst, ite_self, Bool.cond_self, Parts.emits_recs, Parts.emits_classLost, Parts.emits_host, Parts.emits_lost, and_self, and_true, true_and, implies_true, forall_const, hP]

@[simp] theorem State.deliver_outside {P : Parts} (s : State) (srck n idx period : Nat) (v : OutVal) (hP : P.nodes = true ∧ P.regs Reg.STR_STAGE ∧ P.streams = true ∧ P.regs Reg.STR_STAT) :
    (State.deliver s srck n idx period v).outside P = s.outside P := by
  unfold State.deliver
  simp only [State.streamValue_outside, State.feedNodes_outside, State.setReg_outside, State.push_outside, State.outside_ite, State.outside_bif, State.foldl_outside, State.foldl_outside_snd, State.foldl_outside_fst, ite_self, Bool.cond_self, Parts.emits_recs, Parts.emits_classLost, Parts.emits_host, Parts.emits_lost, and_self, and_true, true_and, implies_true, forall_const, hP]

@[simp] theorem State.discontinue_outside {P : Parts} (s : State) (srck n : Nat) (hP : P.nodes = true ∧ P.streams = true) :
    (State.discontinue s srck n).outside P = s.outside P := by
  unfold State.discontinue
  simp (maxDischargeDepth := 6) only [State.onEdges_outside, State.setStream_outside, State.setReg_outside, State.push_outside, State.outside_ite, State.outside_bif, State.foldl_outside, State.foldl_outside_snd, State.foldl_outside_fst, ite_self, Bool.cond_self, Parts.emits_recs, Parts.emits_classLost, Parts.emits_host, Parts.emits_lost, and_self, and_true, true_and, implies_true, forall_const, hP]

end Sys2Proof.Machine
end

