-- ==== Sys2Proof/Laws/FrameInputs.lean ====
section
/-!
SUPPORT. What the operations of Machine/Inputs.lean write: each leaves every part of the state as it is but those its hypothesis names.
-/

set_option Elab.async false
set_option linter.unusedSimpArgs false
namespace Sys2Proof.Machine

@[simp] theorem State.pinUpdate_outside {P : Parts} (s : State) (n : Nat) (hP : P.emits ∧ P.pch = true ∧ (∀ n, P.regs (Reg.PCH_STAT n)) ∧ P.rate = true) :
    (State.pinUpdate s n).outside P = s.outside P := by
  unfold State.pinUpdate
  simp only [State.setLive_outside, State.setPch_outside, State.emitLimited_outside, State.setReg_outside, State.push_outside, State.outside_ite, State.outside_bif, State.foldl_outside, State.foldl_outside_snd, State.foldl_outside_fst, ite_self, Bool.cond_self, Parts.emits_recs, Parts.emits_classLost, Parts.emits_host, Parts.emits_lost, and_self, and_true, true_and, implies_true, forall_const, hP]

@[simp] theorem State.pinUpdateBank_outside {P : Parts} (s : State) (k : Nat) (hP : P.emits ∧ P.pch = true ∧ (∀ n, P.regs (Reg.PCH_STAT n)) ∧ P.rate = true) :
    (State.pinUpdateBank s k).outside P = s.outside P := by
  unfold State.pinUpdateBank
  simp only [State.pinUpdate_outside, State.setReg_outside, State.push_outside, State.outside_ite, State.outside_bif, State.foldl_outside, State.foldl_outside_snd, State.foldl_outside_fst, ite_self, Bool.cond_self, Parts.emits_recs, Parts.emits_classLost, Parts.emits_host, Parts.emits_lost, and_self, and_true, true_and, implies_true, forall_const, hP]

@[simp] theorem State.wPinRange_outside {P : Parts} (s : State) (n : Nat) (ballN beyond : Bool) (hP : P.wch = true) :
    (State.wPinRange s n ballN beyond).outside P = s.outside P := by
  unfold State.wPinRange
  simp only [State.setWch_outside, State.setReg_outside, State.push_outside, State.outside_ite, State.outside_bif, State.foldl_outside, State.foldl_outside_snd, State.foldl_outside_fst, ite_self, Bool.cond_self, Parts.emits_recs, Parts.emits_classLost, Parts.emits_host, Parts.emits_lost, and_self, and_true, true_and, implies_true, forall_const, hP]

@[simp] theorem pinRange_outside {P : Parts} (s : State) (n : Nat) (ballN beyond : Bool) (hP : P.emits ∧ P.pch = true ∧ (∀ n, P.regs (Reg.PCH_STAT n)) ∧ P.rate = true ∧ P.wch = true) :
    (pinRange s n ballN beyond).outside P = s.outside P := by
  unfold pinRange
  simp only [State.setPch_outside, State.pinUpdate_outside, State.wPinRange_outside, State.setReg_outside, State.push_outside, State.outside_ite, State.outside_bif, State.foldl_outside, State.foldl_outside_snd, State.foldl_outside_fst, ite_self, Bool.cond_self, Parts.emits_recs, Parts.emits_classLost, Parts.emits_host, Parts.emits_lost, and_self, and_true, true_and, implies_true, forall_const, hP]

@[simp] theorem inputClamp_outside {P : Parts} (s : State) (n : Nat) (ballN conducts : Bool) (hP : P.emits ∧ P.rate = true ∧ (∀ n, P.regs (Reg.PCH_STAT n))) :
    (inputClamp s n ballN conducts).outside P = s.outside P := by
  unfold inputClamp
  simp only [State.setLive_outside, State.emitLimited_outside, State.setReg_outside, State.push_outside, State.outside_ite, State.outside_bif, State.foldl_outside, State.foldl_outside_snd, State.foldl_outside_fst, ite_self, Bool.cond_self, Parts.emits_recs, Parts.emits_classLost, Parts.emits_host, Parts.emits_lost, and_self, and_true, true_and, implies_true, forall_const, hP]

@[simp] theorem State.openBall_outside {P : Parts} (s : State) (n : Nat) (ballN opened : Bool) (hP : P.emits ∧ P.rate = true ∧ (∀ n, P.regs (Reg.PCH_STAT n))) :
    (State.openBall s n ballN opened).outside P = s.outside P := by
  unfold State.openBall
  simp only [State.setLive_outside, State.emitLimited_outside, State.setReg_outside, State.push_outside, State.outside_ite, State.outside_bif, State.foldl_outside, State.foldl_outside_snd, State.foldl_outside_fst, ite_self, Bool.cond_self, Parts.emits_recs, Parts.emits_classLost, Parts.emits_host, Parts.emits_lost, and_self, and_true, true_and, implies_true, forall_const, hP]

@[simp] theorem pchCfgWritten_outside {P : Parts} (s : State) (n : Nat) (hP : P.emits ∧ P.fab = true ∧ P.regs Reg.FAB_DROP ∧ P.fresh = true ∧ (∀ n, P.regs (Reg.FP_UTIL n)) ∧ P.mode = true ∧ P.regs Reg.HIF_CMD_STAT ∧ P.out = true ∧ P.regs Reg.MODE_STAT ∧ P.pch = true ∧ P.regs Reg.PACER_STAT ∧ P.port = true ∧ (∀ n, P.regs (Reg.PCH_STAT n)) ∧ P.rate = true ∧ P.regs Reg.SAF_CAUSE ∧ P.smon = true ∧ P.regs Reg.SAF_CAUSE_S ∧ P.trust = true ∧ P.regs Reg.SAF_CNT ∧ P.regs Reg.SAF_STAT ∧ P.regs Reg.SAF_VER0 ∧ P.regs Reg.SAF_VER1 ∧ P.regs Reg.SAF_W) :
    (pchCfgWritten s n).outside P = s.outside P := by
  unfold pchCfgWritten
  simp only [State.setPch_outside, State.verifyP_outside, State.pinUpdate_outside, State.openBall_outside, State.setReg_outside, State.push_outside, State.outside_ite, State.outside_bif, State.foldl_outside, State.foldl_outside_snd, State.foldl_outside_fst, ite_self, Bool.cond_self, Parts.emits_recs, Parts.emits_classLost, Parts.emits_host, Parts.emits_lost, and_self, and_true, true_and, implies_true, forall_const, hP]

@[simp] theorem pchCfgWrite_outside {P : Parts} (s : State) (n : Nat) (v : Word) (hP : P.emits ∧ P.fab = true ∧ P.regs Reg.DEV_ABSENT_ADDR ∧ P.fresh = true ∧ P.regs Reg.DEV_ABSENT_WR ∧ P.late = true ∧ P.regs Reg.FAB_DROP ∧ P.mode = true ∧ (∀ n, P.regs (Reg.FP_UTIL n)) ∧ P.out = true ∧ P.regs Reg.HIF_CMD_STAT ∧ P.pch = true ∧ P.regs Reg.MODE_STAT ∧ P.port = true ∧ P.regs Reg.PACER_STAT ∧ P.rate = true ∧ (∀ n, P.regs (Reg.PCH_CFG n)) ∧ P.smon = true ∧ (∀ n, P.regs (Reg.PCH_STAT n)) ∧ P.trust = true ∧ P.regs Reg.SAF_CAUSE ∧ P.regs Reg.SAF_CAUSE_S ∧ P.regs Reg.SAF_CNT ∧ P.regs Reg.SAF_STAT ∧ P.regs Reg.SAF_VER0 ∧ P.regs Reg.SAF_VER1 ∧ P.regs Reg.SAF_W) :
    (pchCfgWrite s n v).outside P = s.outside P := by
  unfold pchCfgWrite
  simp only [State.writeJudged_outside, State.writeAbsent_outside, pchCfgWritten_outside, State.setReg_outside, State.push_outside, State.outside_ite, State.outside_bif, State.foldl_outside, State.foldl_outside_snd, State.foldl_outside_fst, ite_self, Bool.cond_self, Parts.emits_recs, Parts.emits_classLost, Parts.emits_host, Parts.emits_lost, and_self, and_true, true_and, implies_true, forall_const, hP]

@[simp] theorem State.takeLevel_outside {P : Parts} (s : State) (k : Nat) (hP : P.exc = true) :
    (State.takeLevel s k).outside P = s.outside P := by
  unfold State.takeLevel
  simp only [State.setExc_outside, State.setReg_outside, State.push_outside, State.outside_ite, State.outside_bif, State.foldl_outside, State.foldl_outside_snd, State.foldl_outside_fst, ite_self, Bool.cond_self, Parts.emits_recs, Parts.emits_classLost, Parts.emits_host, Parts.emits_lost, and_self, and_true, true_and, implies_true, forall_const, hP]

@[simp] theorem State.startRamp_outside {P : Parts} (s : State) (k from_ : Nat) (hP : P.exc = true ∧ (∀ n, P.regs (Reg.EXC_STAT n))) :
    (State.startRamp s k from_).outside P = s.outside P := by
  unfold State.startRamp
  simp only [State.raise_outside, State.setExc_outside, State.takeLevel_outside, State.setReg_outside, State.push_outside, State.outside_ite, State.outside_bif, State.foldl_outside, State.foldl_outside_snd, State.foldl_outside_fst, ite_self, Bool.cond_self, Parts.emits_recs, Parts.emits_classLost, Parts.emits_host, Parts.emits_lost, and_self, and_true, true_and, implies_true, forall_const, hP]

@[simp] theorem State.releaseExc_outside {P : Parts} (s : State) (k : Nat) (hP : P.exc = true ∧ (∀ n, P.regs (Reg.WCH_ST_CFG n)) ∧ P.nodes = true ∧ P.start = true) :
    (State.releaseExc s k).outside P = s.outside P := by
  unfold State.releaseExc
  simp only [State.setExc_outside, State.offerExcEnd_outside, State.setReg_outside, State.push_outside, State.outside_ite, State.outside_bif, State.foldl_outside, State.foldl_outside_snd, State.foldl_outside_fst, ite_self, Bool.cond_self, Parts.emits_recs, Parts.emits_classLost, Parts.emits_host, Parts.emits_lost, and_self, and_true, true_and, implies_true, forall_const, hP]

@[simp] theorem State.cutExc_outside {P : Parts} (s : State) (k : Nat) (hP : P.exc = true ∧ (∀ n, P.regs (Reg.WCH_ST_CFG n)) ∧ P.nodes = true ∧ P.start = true) :
    (State.cutExc s k).outside P = s.outside P := by
  unfold State.cutExc
  simp only [State.setExc_outside, State.takeLevel_outside, State.releaseExc_outside, State.setReg_outside, State.push_outside, State.outside_ite, State.outside_bif, State.foldl_outside, State.foldl_outside_snd, State.foldl_outside_fst, ite_self, Bool.cond_self, Parts.emits_recs, Parts.emits_classLost, Parts.emits_host, Parts.emits_lost, and_self, and_true, true_and, implies_true, forall_const, hP]

@[simp] theorem excFire_outside {P : Parts} (s : State) (k : Nat) (hP : P.exc = true ∧ P.regs Reg.DEV_ABSENT_ADDR ∧ P.regs Reg.DEV_ABSENT_WR ∧ (∀ n, P.regs (Reg.EXC_CTRL n)) ∧ (∀ n, P.regs (Reg.EXC_STAT n))) :
    (excFire s k).outside P = s.outside P := by
  unfold excFire
  simp only [State.writeAbsent_outside, State.excRequest_outside, State.setReg_outside, State.push_outside, State.outside_ite, State.outside_bif, State.foldl_outside, State.foldl_outside_snd, State.foldl_outside_fst, ite_self, Bool.cond_self, Parts.emits_recs, Parts.emits_classLost, Parts.emits_host, Parts.emits_lost, and_self, and_true, true_and, implies_true, forall_const, hP]

@[simp] theorem State.enterAc_outside {P : Parts} (s : State) (k : Nat) (hP : P.exc = true) :
    (State.enterAc s k).outside P = s.outside P := by
  unfold State.enterAc
  simp only [State.setExc_outside, State.setReg_outside, State.push_outside, State.outside_ite, State.outside_bif, State.foldl_outside, State.foldl_outside_snd, State.foldl_outside_fst, ite_self, Bool.cond_self, Parts.emits_recs, Parts.emits_classLost, Parts.emits_host, Parts.emits_lost, and_self, and_true, true_and, implies_true, forall_const, hP]

@[simp] theorem excCtrlModeWrite_outside {P : Parts} (s : State) (k : Nat) (v : Word) (hP : P.exc = true ∧ P.regs Reg.DEV_ABSENT_ADDR ∧ P.nodes = true ∧ P.regs Reg.DEV_ABSENT_WR ∧ P.start = true ∧ (∀ n, P.regs (Reg.EXC_CTRL n)) ∧ (∀ n, P.regs (Reg.EXC_STAT n)) ∧ (∀ n, P.regs (Reg.WCH_ST_CFG n))) :
    (excCtrlModeWrite s k v).outside P = s.outside P := by
  unfold excCtrlModeWrite
  simp only [State.setFld_outside, State.raise_outside, State.clear_outside, State.writeAbsent_outside, State.startRamp_outside, State.cutExc_outside, State.enterAc_outside, State.setReg_outside, State.push_outside, State.outside_ite, State.outside_bif, State.foldl_outside, State.foldl_outside_snd, State.foldl_outside_fst, ite_self, Bool.cond_self, Parts.emits_recs, Parts.emits_classLost, Parts.emits_host, Parts.emits_lost, and_self, and_true, true_and, implies_true, forall_const, hP]

@[simp] theorem excLevelWrite_outside {P : Parts} (s : State) (k : Nat) (v : Word) (hP : P.exc = true ∧ P.regs Reg.DEV_ABSENT_ADDR ∧ P.regs Reg.DEV_ABSENT_WR ∧ (∀ n, P.regs (Reg.EXC_LEVEL n)) ∧ (∀ n, P.regs (Reg.EXC_STAT n))) :
    (excLevelWrite s k v).outside P = s.outside P := by
  unfold excLevelWrite
  simp only [State.setFld_outside, State.raise_outside, State.setExc_outside, State.writeAbsent_outside, State.takeLevel_outside, State.startRamp_outside, State.setReg_outside, State.push_outside, State.outside_ite, State.outside_bif, State.foldl_outside, State.foldl_outside_snd, State.foldl_outside_fst, ite_self, Bool.cond_self, Parts.emits_recs, Parts.emits_classLost, Parts.emits_host, Parts.emits_lost, and_self, and_true, true_and, implies_true, forall_const, hP]

@[simp] theorem excRampEnd_outside {P : Parts} (s : State) (k : Nat) (hP : (∀ n, P.regs (Reg.EXC_STAT n))) :
    (excRampEnd s k).outside P = s.outside P := by
  unfold excRampEnd
  simp only [State.clear_outside, State.setReg_outside, State.push_outside, State.outside_ite, State.outside_bif, State.foldl_outside, State.foldl_outside_snd, State.foldl_outside_fst, ite_self, Bool.cond_self, Parts.emits_recs, Parts.emits_classLost, Parts.emits_host, Parts.emits_lost, and_self, and_true, true_and, implies_true, forall_const, hP]

@[simp] theorem excEdgeOne_outside {P : Parts} (s : State) (k : Nat) (positive : Bool) (hP : P.exc = true ∧ (∀ n, P.regs (Reg.EXC_STAT n))) :
    (excEdgeOne s k positive).outside P = s.outside P := by
  unfold excEdgeOne
  simp only [State.setExc_outside, State.startRamp_outside, State.setReg_outside, State.push_outside, State.outside_ite, State.outside_bif, State.foldl_outside, State.foldl_outside_snd, State.foldl_outside_fst, ite_self, Bool.cond_self, Parts.emits_recs, Parts.emits_classLost, Parts.emits_host, Parts.emits_lost, and_self, and_true, true_and, implies_true, forall_const, hP]

@[simp] theorem State.excEdge_outside {P : Parts} (s : State) (k : Nat) (hP : P.exc = true ∧ (∀ n, P.regs (Reg.EXC_STAT n))) :
    (State.excEdge s k).outside P = s.outside P := by
  unfold State.excEdge
  simp only [excEdgeOne_outside, State.setReg_outside, State.push_outside, State.outside_ite, State.outside_bif, State.foldl_outside, State.foldl_outside_snd, State.foldl_outside_fst, ite_self, Bool.cond_self, Parts.emits_recs, Parts.emits_classLost, Parts.emits_host, Parts.emits_lost, and_self, and_true, true_and, implies_true, forall_const, hP]

@[simp] theorem excPolarityEdge_outside {P : Parts} (s : State) (k : Nat) (hP : P.exc = true ∧ (∀ n, P.regs (Reg.EXC_STAT n))) :
    (excPolarityEdge s k).outside P = s.outside P := by
  unfold excPolarityEdge
  simp only [State.excEdge_outside, State.setReg_outside, State.push_outside, State.outside_ite, State.outside_bif, State.foldl_outside, State.foldl_outside_snd, State.foldl_outside_fst, ite_self, Bool.cond_self, Parts.emits_recs, Parts.emits_classLost, Parts.emits_host, Parts.emits_lost, and_self, and_true, true_and, implies_true, forall_const, hP]

@[simp] theorem State.takeEdges_outside {P : Parts} (s : State) (hP : P.exc = true ∧ (∀ n, P.regs (Reg.EXC_STAT n))) :
    (State.takeEdges s).outside P = s.outside P := by
  unfold State.takeEdges
  simp only [excPolarityEdge_outside, State.setReg_outside, State.push_outside, State.outside_ite, State.outside_bif, State.foldl_outside, State.foldl_outside_snd, State.foldl_outside_fst, ite_self, Bool.cond_self, Parts.emits_recs, Parts.emits_classLost, Parts.emits_host, Parts.emits_lost, and_self, and_true, true_and, implies_true, forall_const, hP]

@[simp] theorem State.excTimerWritten_outside {P : Parts} (s : State) (k : Nat) (hP : P.exc = true) :
    (State.excTimerWritten s k).outside P = s.outside P := by
  unfold State.excTimerWritten
  simp only [State.setExc_outside, State.setReg_outside, State.push_outside, State.outside_ite, State.outside_bif, State.foldl_outside, State.foldl_outside_snd, State.foldl_outside_fst, ite_self, Bool.cond_self, Parts.emits_recs, Parts.emits_classLost, Parts.emits_host, Parts.emits_lost, and_self, and_true, true_and, implies_true, forall_const, hP]

@[simp] theorem excPeriodTimer_outside {P : Parts} (s : State) (k : Nat) (hP : P.exc = true ∧ (∀ n, P.regs (Reg.EXC_STAT n))) :
    (excPeriodTimer s k).outside P = s.outside P := by
  unfold excPeriodTimer
  simp only [State.setExc_outside, State.excRequest_outside, State.setReg_outside, State.push_outside, State.outside_ite, State.outside_bif, State.foldl_outside, State.foldl_outside_snd, State.foldl_outside_fst, ite_self, Bool.cond_self, Parts.emits_recs, Parts.emits_classLost, Parts.emits_host, Parts.emits_lost, and_self, and_true, true_and, implies_true, forall_const, hP]

@[simp] theorem excStart_outside {P : Parts} (s : State) (k : Nat) (hP : P.emits ∧ P.exc = true ∧ (∀ n, P.regs (Reg.EXC_STAT n)) ∧ P.pch = true ∧ (∀ n, P.regs (Reg.PCH_STAT n)) ∧ P.rate = true ∧ P.start = true) :
    (excStart s k).outside P = s.outside P := by
  unfold excStart
  simp only [State.raise_outside, State.setExc_outside, State.pinUpdateBank_outside, State.setReg_outside, State.push_outside, State.outside_ite, State.outside_bif, State.foldl_outside, State.foldl_outside_snd, State.foldl_outside_fst, ite_self, Bool.cond_self, Parts.emits_recs, Parts.emits_classLost, Parts.emits_host, Parts.emits_lost, and_self, and_true, true_and, implies_true, forall_const, hP]

@[simp] theorem excRelease_outside {P : Parts} (s : State) (k : Nat) (hP : P.exc = true ∧ (∀ n, P.regs (Reg.WCH_ST_CFG n)) ∧ P.nodes = true ∧ P.start = true) :
    (excRelease s k).outside P = s.outside P := by
  unfold excRelease
  simp only [State.releaseExc_outside, State.setReg_outside, State.push_outside, State.outside_ite, State.outside_bif, State.foldl_outside, State.foldl_outside_snd, State.foldl_outside_fst, ite_self, Bool.cond_self, Parts.emits_recs, Parts.emits_classLost, Parts.emits_host, Parts.emits_lost, and_self, and_true, true_and, implies_true, forall_const, hP]

@[simp] theorem excDone_outside {P : Parts} (s : State) (k : Nat) (hP : P.emits ∧ P.pch = true ∧ (∀ n, P.regs (Reg.EXC_STAT n)) ∧ P.rate = true ∧ (∀ n, P.regs (Reg.PCH_STAT n))) :
    (excDone s k).outside P = s.outside P := by
  unfold excDone
  simp only [State.clear_outside, State.emit_outside, State.pinUpdateBank_outside, State.setReg_outside, State.push_outside, State.outside_ite, State.outside_bif, State.foldl_outside, State.foldl_outside_snd, State.foldl_outside_fst, ite_self, Bool.cond_self, Parts.emits_recs, Parts.emits_classLost, Parts.emits_host, Parts.emits_lost, and_self, and_true, true_and, implies_true, forall_const, hP]

@[simp] theorem State.sweepAdvance_outside {P : Parts} (s : State) (k : Nat) (hP : P.exc = true) :
    (State.sweepAdvance s k).outside P = s.outside P := by
  unfold State.sweepAdvance
  simp only [State.setExc_outside, State.setReg_outside, State.push_outside, State.outside_ite, State.outside_bif, State.foldl_outside, State.foldl_outside_snd, State.foldl_outside_fst, ite_self, Bool.cond_self, Parts.emits_recs, Parts.emits_classLost, Parts.emits_host, Parts.emits_lost, and_self, and_true, true_and, implies_true, forall_const, hP]

@[simp] theorem State.advanceExc_outside {P : Parts} (s : State) (hP : P.exc = true) :
    (State.advanceExc s).outside P = s.outside P := by
  unfold State.advanceExc
  simp only [State.setExc_outside, State.sweepAdvance_outside, State.setReg_outside, State.push_outside, State.outside_ite, State.outside_bif, State.foldl_outside, State.foldl_outside_snd, State.foldl_outside_fst, ite_self, Bool.cond_self, Parts.emits_recs, Parts.emits_classLost, Parts.emits_host, Parts.emits_lost, and_self, and_true, true_and, implies_true, forall_const, hP]

@[simp] theorem State.verifyDriver_outside {P : Parts} (s : State) (k : Nat) (hP : P.emits ∧ P.fab = true ∧ P.regs Reg.FAB_DROP ∧ P.fresh = true ∧ (∀ n, P.regs (Reg.FP_UTIL n)) ∧ P.mode = true ∧ P.regs Reg.HIF_CMD_STAT ∧ P.out = true ∧ P.regs Reg.MODE_STAT ∧ P.port = true ∧ P.regs Reg.PACER_STAT ∧ P.rate = true ∧ P.regs Reg.SAF_CAUSE ∧ P.smon = true ∧ P.regs Reg.SAF_CAUSE_S ∧ P.trust = true ∧ P.regs Reg.SAF_CNT ∧ P.regs Reg.SAF_STAT ∧ P.regs Reg.SAF_VER0 ∧ P.regs Reg.SAF_VER1 ∧ P.regs Reg.SAF_W) :
    (State.verifyDriver s k).outside P = s.outside P := by
  unfold State.verifyDriver
  simp only [State.verifyP_outside, State.setReg_outside, State.push_outside, State.outside_ite, State.outside_bif, State.foldl_outside, State.foldl_outside_snd, State.foldl_outside_fst, ite_self, Bool.cond_self, Parts.emits_recs, Parts.emits_classLost, Parts.emits_host, Parts.emits_lost, and_self, and_true, true_and, implies_true, forall_const, hP]

@[simp] theorem State.excFaultBit_outside {P : Parts} (s : State) (k b : Nat) (hP : P.emits ∧ P.exc = true ∧ (∀ n, P.regs (Reg.EXC_STAT n)) ∧ P.fab = true ∧ P.regs Reg.FAB_DROP ∧ P.fresh = true ∧ (∀ n, P.regs (Reg.FP_UTIL n)) ∧ P.mode = true ∧ P.regs Reg.HIF_CMD_STAT ∧ P.nodes = true ∧ P.regs Reg.MODE_STAT ∧ P.out = true ∧ P.regs Reg.PACER_STAT ∧ P.port = true ∧ P.regs Reg.SAF_CAUSE ∧ P.rate = true ∧ P.regs Reg.SAF_CAUSE_S ∧ P.smon = true ∧ P.regs Reg.SAF_CNT ∧ P.start = true ∧ P.regs Reg.SAF_STAT ∧ P.trust = true ∧ P.regs Reg.SAF_VER0 ∧ P.regs Reg.SAF_VER1 ∧ P.regs Reg.SAF_W ∧ (∀ n, P.regs (Reg.WCH_ST_CFG n))) :
    (State.excFaultBit s k b).outside P = s.outside P := by
  unfold State.excFaultBit
  simp only [State.raise_outside, State.clear_outside, State.setBit_outside, State.setExc_outside, State.emit_outside, State.cutExc_outside, State.verifyDriver_outside, State.setReg_outside, State.push_outside, State.outside_ite, State.outside_bif, State.foldl_outside, State.foldl_outside_snd, State.foldl_outside_fst, ite_self, Bool.cond_self, Parts.emits_recs, Parts.emits_classLost, Parts.emits_host, Parts.emits_lost, and_self, and_true, true_and, implies_true, forall_const, hP]

@[simp] theorem excFault_outside {P : Parts} (s : State) (k b : Nat) (hP : P.emits ∧ P.exc = true ∧ (∀ n, P.regs (Reg.EXC_STAT n)) ∧ P.fab = true ∧ P.regs Reg.FAB_DROP ∧ P.fresh = true ∧ (∀ n, P.regs (Reg.FP_UTIL n)) ∧ P.mode = true ∧ P.regs Reg.HIF_CMD_STAT ∧ P.nodes = true ∧ P.regs Reg.MODE_STAT ∧ P.out = true ∧ P.regs Reg.PACER_STAT ∧ P.port = true ∧ P.regs Reg.SAF_CAUSE ∧ P.rate = true ∧ P.regs Reg.SAF_CAUSE_S ∧ P.smon = true ∧ P.regs Reg.SAF_CNT ∧ P.start = true ∧ P.regs Reg.SAF_STAT ∧ P.trust = true ∧ P.regs Reg.SAF_VER0 ∧ P.regs Reg.SAF_VER1 ∧ P.regs Reg.SAF_W ∧ (∀ n, P.regs (Reg.WCH_ST_CFG n))) :
    (excFault s k b).outside P = s.outside P := by
  unfold excFault
  simp only [State.excFaultBit_outside, State.setReg_outside, State.push_outside, State.outside_ite, State.outside_bif, State.foldl_outside, State.foldl_outside_snd, State.foldl_outside_fst, ite_self, Bool.cond_self, Parts.emits_recs, Parts.emits_classLost, Parts.emits_host, Parts.emits_lost, and_self, and_true, true_and, implies_true, forall_const, hP]

@[simp] theorem State.excHoldRefLow_outside {P : Parts} (s : State) (k : Nat) (hP : P.emits ∧ P.exc = true ∧ (∀ n, P.regs (Reg.EXC_STAT n)) ∧ P.fab = true ∧ P.regs Reg.FAB_DROP ∧ P.fresh = true ∧ (∀ n, P.regs (Reg.FP_UTIL n)) ∧ P.mode = true ∧ P.regs Reg.HIF_CMD_STAT ∧ P.nodes = true ∧ P.regs Reg.MODE_STAT ∧ P.out = true ∧ P.regs Reg.PACER_STAT ∧ P.port = true ∧ P.regs Reg.SAF_CAUSE ∧ P.rate = true ∧ P.regs Reg.SAF_CAUSE_S ∧ P.smon = true ∧ P.regs Reg.SAF_CNT ∧ P.start = true ∧ P.regs Reg.SAF_STAT ∧ P.trust = true ∧ P.regs Reg.SAF_VER0 ∧ P.regs Reg.SAF_VER1 ∧ P.regs Reg.SAF_W ∧ (∀ n, P.regs (Reg.WCH_ST_CFG n))) :
    (State.excHoldRefLow s k).outside P = s.outside P := by
  unfold State.excHoldRefLow
  simp only [State.excFaultBit_outside, State.setReg_outside, State.push_outside, State.outside_ite, State.outside_bif, State.foldl_outside, State.foldl_outside_snd, State.foldl_outside_fst, ite_self, Bool.cond_self, Parts.emits_recs, Parts.emits_classLost, Parts.emits_host, Parts.emits_lost, and_self, and_true, true_and, implies_true, forall_const, hP]

@[simp] theorem excMonitorSample_outside {P : Parts} (s : State) (k : Nat) (vmon imon : BitVec 16) (limit sense : Bool) (hP : P.emits ∧ P.exc = true ∧ (∀ n, P.regs (Reg.EXC_MON n)) ∧ P.fab = true ∧ (∀ n, P.regs (Reg.EXC_STAT n)) ∧ P.fresh = true ∧ P.regs Reg.FAB_DROP ∧ P.mode = true ∧ (∀ n, P.regs (Reg.FP_UTIL n)) ∧ P.nodes = true ∧ P.regs Reg.HIF_CMD_STAT ∧ P.out = true ∧ P.regs Reg.MODE_STAT ∧ P.port = true ∧ P.regs Reg.PACER_STAT ∧ P.rate = true ∧ P.regs Reg.SAF_CAUSE ∧ P.smon = true ∧ P.regs Reg.SAF_CAUSE_S ∧ P.start = true ∧ P.regs Reg.SAF_CNT ∧ P.trust = true ∧ P.regs Reg.SAF_STAT ∧ P.regs Reg.SAF_VER0 ∧ P.regs Reg.SAF_VER1 ∧ P.regs Reg.SAF_W ∧ (∀ n, P.regs (Reg.WCH_ST_CFG n))) :
    (excMonitorSample s k vmon imon limit sense).outside P = s.outside P := by
  unfold excMonitorSample
  simp only [State.setFld_outside, State.setExc_outside, State.verifyDriver_outside, State.excFaultBit_outside, State.setReg_outside, State.push_outside, State.outside_ite, State.outside_bif, State.foldl_outside, State.foldl_outside_snd, State.foldl_outside_fst, ite_self, Bool.cond_self, Parts.emits_recs, Parts.emits_classLost, Parts.emits_host, Parts.emits_lost, and_self, and_true, true_and, implies_true, forall_const, hP]

end Sys2Proof.Machine
end

