-- ==== Sys2Proof/Laws/FrameResults.lean ====
section
/-!
SUPPORT. What the operations of Machine/Results.lean write: each leaves every part of the state as it is but those its hypothesis names.
-/

set_option Elab.async false
set_option linter.unusedSimpArgs false
namespace Sys2Proof.Machine

@[simp] theorem State.setRes_outside {P : Parts} (s : State) (i : Nat) (r : Res) (hP : P.res = true) :
    (State.setRes s i r).outside P = s.outside P := by
  unfold State.setRes
  simp only [State.outside_res, State.setReg_outside, State.push_outside, State.outside_ite, State.outside_bif, State.foldl_outside, State.foldl_outside_snd, State.foldl_outside_fst, ite_self, Bool.cond_self, Parts.emits_recs, Parts.emits_classLost, Parts.emits_host, Parts.emits_lost, and_self, and_true, true_and, implies_true, forall_const, hP]

@[simp] theorem State.newResult_outside {P : Parts} (s : State) (i val attr : Nat) (poison : Bool) (hP : P.res = true ∧ (∀ n, P.regs (Reg.RES_OVCNT n))) :
    (State.newResult s i val attr poison).outside P = s.outside P := by
  unfold State.newResult
  simp only [State.raise_outside, State.count_outside, State.setRes_outside, State.setReg_outside, State.push_outside, State.outside_ite, State.outside_bif, State.foldl_outside, State.foldl_outside_snd, State.foldl_outside_fst, ite_self, Bool.cond_self, Parts.emits_recs, Parts.emits_classLost, Parts.emits_host, Parts.emits_lost, and_self, and_true, true_and, implies_true, forall_const, hP]

@[simp] theorem State.restartRes_outside {P : Parts} (s : State) (i : Nat) (hP : P.res = true) :
    (State.restartRes s i).outside P = s.outside P := by
  unfold State.restartRes
  simp only [State.setRes_outside, State.setReg_outside, State.push_outside, State.outside_ite, State.outside_bif, State.foldl_outside, State.foldl_outside_snd, State.foldl_outside_fst, ite_self, Bool.cond_self, Parts.emits_recs, Parts.emits_classLost, Parts.emits_host, Parts.emits_lost, and_self, and_true, true_and, implies_true, forall_const, hP]

@[simp] theorem State.readResHi_outside {P : Parts} (s : State) (who : Reader) (i : Nat) (hP : P.res = true) :
    (State.readResHi s who i).2.outside P = s.outside P := by
  unfold State.readResHi
  simp only [State.setRes_outside, State.setReg_outside, State.push_outside, State.outside_ite, State.outside_bif, State.foldl_outside, State.foldl_outside_snd, State.foldl_outside_fst, ite_self, Bool.cond_self, Parts.emits_recs, Parts.emits_classLost, Parts.emits_host, Parts.emits_lost, and_self, and_true, true_and, implies_true, forall_const, hP]

@[simp] theorem State.readResLo_outside {P : Parts} (s : State) (who : Reader) (i : Nat) (hP : P.res = true) :
    (State.readResLo s who i).2.outside P = s.outside P := by
  unfold State.readResLo
  simp only [State.setRes_outside, State.setReg_outside, State.push_outside, State.outside_ite, State.outside_bif, State.foldl_outside, State.foldl_outside_snd, State.foldl_outside_fst, ite_self, Bool.cond_self, Parts.emits_recs, Parts.emits_classLost, Parts.emits_host, Parts.emits_lost, and_self, and_true, true_and, implies_true, forall_const, hP]
  repeat' (first | rfl | (split <;> try simp only [State.setRes_outside, State.setReg_outside, State.push_outside, State.outside_ite, State.outside_bif, State.foldl_outside, State.foldl_outside_snd, State.foldl_outside_fst, ite_self, Bool.cond_self, Parts.emits_recs, Parts.emits_classLost, Parts.emits_host, Parts.emits_lost, and_self, and_true, true_and, implies_true, forall_const, hP]))

@[simp] theorem State.returns_outside {P : Parts} (s : State) (who : Reader) (off w : Nat) (hP : P.out = true) :
    (State.returns s who off w).outside P = s.outside P := by
  unfold State.returns
  simp only [State.put_outside, State.setReg_outside, State.push_outside, State.outside_ite, State.outside_bif, State.foldl_outside, State.foldl_outside_snd, State.foldl_outside_fst, ite_self, Bool.cond_self, Parts.emits_recs, Parts.emits_classLost, Parts.emits_host, Parts.emits_lost, and_self, and_true, true_and, implies_true, forall_const, hP]

@[simp] theorem resHiRead_outside {P : Parts} (s : State) (who : Reader) (i : Nat) (hP : P.out = true ∧ (∀ n, P.regs (Reg.RES_HI n)) ∧ P.res = true) :
    (resHiRead s who i).outside P = s.outside P := by
  unfold resHiRead
  simp only [State.readResHi_outside, State.returns_outside, State.setReg_outside, State.push_outside, State.outside_ite, State.outside_bif, State.foldl_outside, State.foldl_outside_snd, State.foldl_outside_fst, ite_self, Bool.cond_self, Parts.emits_recs, Parts.emits_classLost, Parts.emits_host, Parts.emits_lost, and_self, and_true, true_and, implies_true, forall_const, hP]

@[simp] theorem resLoRead_outside {P : Parts} (s : State) (who : Reader) (i : Nat) (hP : P.out = true ∧ (∀ n, P.regs (Reg.RES_LO n)) ∧ P.res = true) :
    (resLoRead s who i).outside P = s.outside P := by
  unfold resLoRead
  simp only [State.readResLo_outside, State.returns_outside, State.setReg_outside, State.push_outside, State.outside_ite, State.outside_bif, State.foldl_outside, State.foldl_outside_snd, State.foldl_outside_fst, ite_self, Bool.cond_self, Parts.emits_recs, Parts.emits_classLost, Parts.emits_host, Parts.emits_lost, and_self, and_true, true_and, implies_true, forall_const, hP]

@[simp] theorem res64Read_outside {P : Parts} (s : State) (who : Reader) (i : Nat) (hP : P.out = true ∧ (∀ n, P.regs (Reg.RES_HI n)) ∧ P.res = true) :
    (res64Read s who i).outside P = s.outside P := by
  unfold res64Read
  simp only [State.readResHi_outside, State.readResLo_outside, State.returns_outside, State.setReg_outside, State.push_outside, State.outside_ite, State.outside_bif, State.foldl_outside, State.foldl_outside_snd, State.foldl_outside_fst, ite_self, Bool.cond_self, Parts.emits_recs, Parts.emits_classLost, Parts.emits_host, Parts.emits_lost, and_self, and_true, true_and, implies_true, forall_const, hP]

end Sys2Proof.Machine
end

