-- ==== Sys2Proof/Laws/FrameFusion.lean ====
section
/-!
SUPPORT. What the operations of Machine/Fusion.lean write: each leaves every part of the state as it is but those its hypothesis names.
-/

set_option Elab.async false
set_option linter.unusedSimpArgs false
namespace Sys2Proof.Machine

@[simp] theorem State.loadPlaus_outside {P : Parts} (s : State) (n : Nat) (hP : (∀ n, P.regs (Reg.PCH_PLAUS_EFF n))) :
    (State.loadPlaus s n).outside P = s.outside P := by
  unfold State.loadPlaus
  simp only [State.setReg_outside, State.push_outside, State.outside_ite, State.outside_bif, State.foldl_outside, State.foldl_outside_snd, State.foldl_outside_fst, ite_self, Bool.cond_self, Parts.emits_recs, Parts.emits_classLost, Parts.emits_host, Parts.emits_lost, and_self, and_true, true_and, implies_true, forall_const, hP]

@[simp] theorem State.restartDiff_outside {P : Parts} (s : State) (n : Nat) (hP : P.pch = true ∧ (∀ n, P.regs (Reg.PCH_CONV_STAT n))) :
    (State.restartDiff s n).outside P = s.outside P := by
  unfold State.restartDiff
  simp only [State.clear_outside, State.setPch_outside, State.setReg_outside, State.push_outside, State.outside_ite, State.outside_bif, State.foldl_outside, State.foldl_outside_snd, State.foldl_outside_fst, ite_self, Bool.cond_self, Parts.emits_recs, Parts.emits_classLost, Parts.emits_host, Parts.emits_lost, and_self, and_true, true_and, implies_true, forall_const, hP]

@[simp] theorem State.setFusionUnchecked_outside {P : Parts} (s : State) (n cause : Nat) (hP : P.emits ∧ P.fab = true ∧ P.regs Reg.FAB_DROP ∧ P.fresh = true ∧ (∀ n, P.regs (Reg.FP_UTIL n)) ∧ P.mode = true ∧ P.regs Reg.HIF_CMD_STAT ∧ P.out = true ∧ P.regs Reg.MODE_STAT ∧ P.port = true ∧ P.regs Reg.PACER_STAT ∧ P.rate = true ∧ (∀ n, P.regs (Reg.PCH_CONV_STAT n)) ∧ P.smon = true ∧ P.regs Reg.SAF_CAUSE ∧ P.trust = true ∧ P.regs Reg.SAF_CAUSE_S ∧ P.regs Reg.SAF_CNT ∧ P.regs Reg.SAF_STAT ∧ P.regs Reg.SAF_VER0 ∧ P.regs Reg.SAF_VER1 ∧ P.regs Reg.SAF_W) :
    (State.setFusionUnchecked s n cause).outside P = s.outside P := by
  unfold State.setFusionUnchecked
  simp only [State.setLive_outside, State.emit_outside, State.verifyP_outside, State.setReg_outside, State.push_outside, State.outside_ite, State.outside_bif, State.foldl_outside, State.foldl_outside_snd, State.foldl_outside_fst, ite_self, Bool.cond_self, Parts.emits_recs, Parts.emits_classLost, Parts.emits_host, Parts.emits_lost, and_self, and_true, true_and, implies_true, forall_const, hP]

@[simp] theorem fusionUnchecked_outside {P : Parts} (s : State) (n : Nat) (hP : P.emits ∧ P.fab = true ∧ P.regs Reg.FAB_DROP ∧ P.fresh = true ∧ (∀ n, P.regs (Reg.FP_UTIL n)) ∧ P.mode = true ∧ P.regs Reg.HIF_CMD_STAT ∧ P.out = true ∧ P.regs Reg.MODE_STAT ∧ P.port = true ∧ P.regs Reg.PACER_STAT ∧ P.rate = true ∧ (∀ n, P.regs (Reg.PCH_CONV_STAT n)) ∧ P.smon = true ∧ P.regs Reg.SAF_CAUSE ∧ P.trust = true ∧ P.regs Reg.SAF_CAUSE_S ∧ P.regs Reg.SAF_CNT ∧ P.regs Reg.SAF_STAT ∧ P.regs Reg.SAF_VER0 ∧ P.regs Reg.SAF_VER1 ∧ P.regs Reg.SAF_W) :
    (fusionUnchecked s n).outside P = s.outside P := by
  unfold fusionUnchecked
  simp only [State.setFusionUnchecked_outside, State.setReg_outside, State.push_outside, State.outside_ite, State.outside_bif, State.foldl_outside, State.foldl_outside_snd, State.foldl_outside_fst, ite_self, Bool.cond_self, Parts.emits_recs, Parts.emits_classLost, Parts.emits_host, Parts.emits_lost, and_self, and_true, true_and, implies_true, forall_const, hP]

@[simp] theorem fusDiffUpdate_outside {P : Parts} (s : State) (n : Nat) (hP : P.pch = true ∧ (∀ n, P.regs (Reg.PCH_CONV_STAT n)) ∧ (∀ n, P.regs (Reg.PCH_FUS_DIFF n))) :
    (fusDiffUpdate s n).outside P = s.outside P := by
  unfold fusDiffUpdate
  simp only [State.raise_outside, State.setPch_outside, State.setReg_outside, State.push_outside, State.outside_ite, State.outside_bif, State.foldl_outside, State.foldl_outside_snd, State.foldl_outside_fst, ite_self, Bool.cond_self, Parts.emits_recs, Parts.emits_classLost, Parts.emits_host, Parts.emits_lost, and_self, and_true, true_and, implies_true, forall_const, hP]

@[simp] theorem State.plausibility_outside {P : Parts} (s : State) (n k : Nat) (c f rawF : Int) (ovr fovl : Bool) (hP : P.emits ∧ P.fab = true ∧ P.regs Reg.FAB_DROP ∧ P.fresh = true ∧ (∀ n, P.regs (Reg.FP_UTIL n)) ∧ P.mode = true ∧ P.regs Reg.HIF_CMD_STAT ∧ P.out = true ∧ P.regs Reg.MODE_STAT ∧ P.pch = true ∧ P.regs Reg.PACER_STAT ∧ P.port = true ∧ (∀ n, P.regs (Reg.PCH_CONV_STAT n)) ∧ P.rate = true ∧ (∀ n, P.regs (Reg.PCH_FUS_CNT n)) ∧ P.smon = true ∧ P.regs Reg.SAF_CAUSE ∧ P.trust = true ∧ P.regs Reg.SAF_CAUSE_S ∧ P.regs Reg.SAF_CNT ∧ P.regs Reg.SAF_STAT ∧ P.regs Reg.SAF_VER0 ∧ P.regs Reg.SAF_VER1 ∧ P.regs Reg.SAF_W) :
    (State.plausibility s n k c f rawF ovr fovl).outside P = s.outside P := by
  unfold State.plausibility
  simp only [State.setFld_outside, State.clear_outside, State.setLive_outside, State.count_outside, State.setPch_outside, State.emit_outside, State.emitSafetyHeld_outside, State.verifyP_outside, State.setReg_outside, State.push_outside, State.outside_ite, State.outside_bif, State.foldl_outside, State.foldl_outside_snd, State.foldl_outside_fst, ite_self, Bool.cond_self, Parts.emits_recs, Parts.emits_classLost, Parts.emits_host, Parts.emits_lost, and_self, and_true, true_and, implies_true, forall_const, hP]

@[simp] theorem State.overrangeStep_outside {P : Parts} (s : State) (n : Nat) (cause : Option Nat) (neg : Bool) (hP : P.emits ∧ P.pch = true ∧ (∀ n, P.regs (Reg.PCH_CONV_STAT n)) ∧ P.rate = true ∧ (∀ n, P.regs (Reg.PCH_OVR_CNT n))) :
    (State.overrangeStep s n cause neg).outside P = s.outside P := by
  unfold State.overrangeStep
  repeat' split
  all_goals first | rfl | simp only [State.clear_outside, State.setLive_outside, State.count_outside, State.setPch_outside, State.emitLimited_outside, State.setReg_outside, State.push_outside, State.outside_ite, State.outside_bif, State.foldl_outside, State.foldl_outside_snd, State.foldl_outside_fst, ite_self, Bool.cond_self, Parts.emits_recs, Parts.emits_classLost, Parts.emits_host, Parts.emits_lost, and_self, and_true, true_and, implies_true, forall_const, hP]

@[simp] theorem overrangeLeave_outside {P : Parts} (s : State) (n : Nat) (hP : P.emits ∧ P.pch = true ∧ P.rate = true) :
    (overrangeLeave s n).outside P = s.outside P := by
  unfold overrangeLeave
  simp only [State.setPch_outside, State.emitLimited_outside, State.setReg_outside, State.push_outside, State.outside_ite, State.outside_bif, State.foldl_outside, State.foldl_outside_snd, State.foldl_outside_fst, ite_self, Bool.cond_self, Parts.emits_recs, Parts.emits_classLost, Parts.emits_host, Parts.emits_lost, and_self, and_true, true_and, implies_true, forall_const, hP]

@[simp] theorem fuseChannel_outside {P : Parts} (s : State) (k : Nat) (r : RawSample) (hP : P.emits ∧ P.fab = true ∧ P.regs Reg.FAB_DROP ∧ P.fresh = true ∧ (∀ n, P.regs (Reg.FP_UTIL n)) ∧ P.mode = true ∧ P.regs Reg.HIF_CMD_STAT ∧ P.out = true ∧ P.regs Reg.MODE_STAT ∧ P.pch = true ∧ P.regs Reg.PACER_STAT ∧ P.port = true ∧ (∀ n, P.regs (Reg.PCH_CONV_STAT n)) ∧ P.rate = true ∧ (∀ n, P.regs (Reg.PCH_FUS_CNT n)) ∧ P.smon = true ∧ (∀ n, P.regs (Reg.PCH_OVR_CNT n)) ∧ P.streams = true ∧ (∀ n, P.regs (Reg.PCH_PLAUS_EFF n)) ∧ P.trust = true ∧ (∀ n, P.regs (Reg.PCH_PLAUS_TH n)) ∧ P.regs Reg.SAF_CAUSE ∧ P.regs Reg.SAF_CAUSE_S ∧ P.regs Reg.SAF_CNT ∧ P.regs Reg.SAF_STAT ∧ P.regs Reg.SAF_VER0 ∧ P.regs Reg.SAF_VER1 ∧ P.regs Reg.SAF_W ∧ P.regs Reg.STR_STAT) :
    (fuseChannel s k r).2.outside P = s.outside P := by
  unfold fuseChannel
  simp only [State.setFld_outside, State.setPch_outside, State.discard_outside, State.loadPlaus_outside, State.plausibility_outside, State.overrangeStep_outside, State.setReg_outside, State.push_outside, State.outside_ite, State.outside_bif, State.foldl_outside, State.foldl_outside_snd, State.foldl_outside_fst, ite_self, Bool.cond_self, Parts.emits_recs, Parts.emits_classLost, Parts.emits_host, Parts.emits_lost, and_self, and_true, true_and, implies_true, forall_const, hP]
  repeat' (first | rfl | (split <;> try simp only [State.setFld_outside, State.setPch_outside, State.discard_outside, State.loadPlaus_outside, State.plausibility_outside, State.overrangeStep_outside, State.setReg_outside, State.push_outside, State.outside_ite, State.outside_bif, State.foldl_outside, State.foldl_outside_snd, State.foldl_outside_fst, ite_self, Bool.cond_self, Parts.emits_recs, Parts.emits_classLost, Parts.emits_host, Parts.emits_lost, and_self, and_true, true_and, implies_true, forall_const, hP]))

@[simp] theorem State.changeAt_outside {P : Parts} (s : State) (n k : Nat) (old new : Word) (hP : P.emits ∧ P.chk = true ∧ P.regs Reg.FAB_DROP ∧ P.fab = true ∧ (∀ n, P.regs (Reg.FP_UTIL n)) ∧ P.fresh = true ∧ P.regs Reg.HIF_CMD_STAT ∧ P.mode = true ∧ P.regs Reg.MODE_STAT ∧ P.out = true ∧ P.regs Reg.PACER_STAT ∧ P.pch = true ∧ (∀ n, P.regs (Reg.PCH_CONV_STAT n)) ∧ P.port = true ∧ (∀ n, P.regs (Reg.PCH_PLAUS_EFF n)) ∧ P.rate = true ∧ (∀ n, P.regs (Reg.PCH_STAT n)) ∧ P.res = true ∧ P.regs Reg.SAF_CAUSE ∧ P.smon = true ∧ P.regs Reg.SAF_CAUSE_S ∧ P.trust = true ∧ P.regs Reg.SAF_CNT ∧ P.regs Reg.SAF_STAT ∧ P.regs Reg.SAF_VER0 ∧ P.regs Reg.SAF_VER1 ∧ P.regs Reg.SAF_W) :
    (State.changeAt s n k old new).outside P = s.outside P := by
  unfold State.changeAt
  simp only [State.setPch_outside, State.emitAt_outside, State.setChk_outside, State.verifyP_outside, State.pinUpdate_outside, State.restartRes_outside, State.loadPlaus_outside, State.restartDiff_outside, State.setReg_outside, State.push_outside, State.outside_ite, State.outside_bif, State.foldl_outside, State.foldl_outside_snd, State.foldl_outside_fst, ite_self, Bool.cond_self, Parts.emits_recs, Parts.emits_classLost, Parts.emits_host, Parts.emits_lost, and_self, and_true, true_and, implies_true, forall_const, hP]

@[simp] theorem cfgChange_outside {P : Parts} (s : State) (n : Nat) (hP : P.emits ∧ P.chk = true ∧ P.regs Reg.FAB_DROP ∧ P.fab = true ∧ (∀ n, P.regs (Reg.FP_UTIL n)) ∧ P.fresh = true ∧ P.regs Reg.HIF_CMD_STAT ∧ P.mode = true ∧ P.regs Reg.MODE_STAT ∧ P.out = true ∧ P.regs Reg.PACER_STAT ∧ P.pch = true ∧ (∀ n, P.regs (Reg.PCH_CFG n)) ∧ P.port = true ∧ (∀ n, P.regs (Reg.PCH_CONV_STAT n)) ∧ P.rate = true ∧ (∀ n, P.regs (Reg.PCH_PLAUS_EFF n)) ∧ P.res = true ∧ (∀ n, P.regs (Reg.PCH_STAT n)) ∧ P.smon = true ∧ P.regs Reg.SAF_CAUSE ∧ P.trust = true ∧ P.regs Reg.SAF_CAUSE_S ∧ P.regs Reg.SAF_CNT ∧ P.regs Reg.SAF_STAT ∧ P.regs Reg.SAF_VER0 ∧ P.regs Reg.SAF_VER1 ∧ P.regs Reg.SAF_W) :
    (cfgChange s n).outside P = s.outside P := by
  unfold cfgChange
  simp only [State.setPch_outside, State.changeAt_outside, State.setReg_outside, State.push_outside, State.outside_ite, State.outside_bif, State.foldl_outside, State.foldl_outside_snd, State.foldl_outside_fst, ite_self, Bool.cond_self, Parts.emits_recs, Parts.emits_classLost, Parts.emits_host, Parts.emits_lost, and_self, and_true, true_and, implies_true, forall_const, hP]

@[simp] theorem pchFusCfgWrite_outside {P : Parts} (s : State) (n : Nat) (v : Word) (hP : P.emits ∧ P.fab = true ∧ P.regs Reg.DEV_ABSENT_ADDR ∧ P.fresh = true ∧ P.regs Reg.DEV_ABSENT_WR ∧ P.late = true ∧ P.regs Reg.FAB_DROP ∧ P.mode = true ∧ (∀ n, P.regs (Reg.FP_UTIL n)) ∧ P.out = true ∧ P.regs Reg.HIF_CMD_STAT ∧ P.pch = true ∧ P.regs Reg.MODE_STAT ∧ P.port = true ∧ P.regs Reg.PACER_STAT ∧ P.rate = true ∧ (∀ n, P.regs (Reg.PCH_CONV_STAT n)) ∧ P.smon = true ∧ (∀ n, P.regs (Reg.PCH_FUS_CFG n)) ∧ P.trust = true ∧ (∀ n, P.regs (Reg.PCH_STAT n)) ∧ P.regs Reg.SAF_CAUSE ∧ P.regs Reg.SAF_CAUSE_S ∧ P.regs Reg.SAF_CNT ∧ P.regs Reg.SAF_STAT ∧ P.regs Reg.SAF_VER0 ∧ P.regs Reg.SAF_VER1 ∧ P.regs Reg.SAF_W) :
    (pchFusCfgWrite s n v).outside P = s.outside P := by
  unfold pchFusCfgWrite
  simp only [State.setFld_outside, State.setLive_outside, State.writeJudged_outside, State.setPch_outside, State.emitSafetyHeld_outside, State.writeAbsent_outside, State.verifyP_outside, State.restartDiff_outside, State.setFusionUnchecked_outside, State.setReg_outside, State.push_outside, State.outside_ite, State.outside_bif, State.foldl_outside, State.foldl_outside_snd, State.foldl_outside_fst, ite_self, Bool.cond_self, Parts.emits_recs, Parts.emits_classLost, Parts.emits_host, Parts.emits_lost, and_self, and_true, true_and, implies_true, forall_const, hP]

@[simp] theorem State.leaveServiceChannel_outside {P : Parts} (s : State) (n : Nat) (hP : P.emits ∧ P.fab = true ∧ P.regs Reg.DEV_ABSENT_ADDR ∧ P.fresh = true ∧ P.regs Reg.DEV_ABSENT_WR ∧ P.late = true ∧ P.regs Reg.FAB_DROP ∧ P.mode = true ∧ (∀ n, P.regs (Reg.FP_UTIL n)) ∧ P.out = true ∧ P.regs Reg.HIF_CMD_STAT ∧ P.pch = true ∧ P.regs Reg.MODE_STAT ∧ P.port = true ∧ P.regs Reg.PACER_STAT ∧ P.rate = true ∧ (∀ n, P.regs (Reg.PCH_CFG n)) ∧ P.smon = true ∧ (∀ n, P.regs (Reg.PCH_CONV_STAT n)) ∧ P.trust = true ∧ (∀ n, P.regs (Reg.PCH_FUS_CFG n)) ∧ (∀ n, P.regs (Reg.PCH_STAT n)) ∧ P.regs Reg.SAF_CAUSE ∧ P.regs Reg.SAF_CAUSE_S ∧ P.regs Reg.SAF_CNT ∧ P.regs Reg.SAF_STAT ∧ P.regs Reg.SAF_VER0 ∧ P.regs Reg.SAF_VER1 ∧ P.regs Reg.SAF_W) :
    (State.leaveServiceChannel s n).outside P = s.outside P := by
  unfold State.leaveServiceChannel
  simp only [State.clear_outside, pchCfgWritten_outside, pchFusCfgWrite_outside, State.setReg_outside, State.push_outside, State.outside_ite, State.outside_bif, State.foldl_outside, State.foldl_outside_snd, State.foldl_outside_fst, ite_self, Bool.cond_self, Parts.emits_recs, Parts.emits_classLost, Parts.emits_host, Parts.emits_lost, and_self, and_true, true_and, implies_true, forall_const, hP]

@[simp] theorem pchPlausThWrite_outside {P : Parts} (s : State) (n : Nat) (v : Word) (hP : P.fresh = true ∧ P.regs Reg.DEV_ABSENT_ADDR ∧ P.late = true ∧ P.regs Reg.DEV_ABSENT_WR ∧ P.pch = true ∧ (∀ n, P.regs (Reg.PCH_PLAUS_TH n))) :
    (pchPlausThWrite s n v).outside P = s.outside P := by
  unfold pchPlausThWrite
  simp only [State.writeBits_outside, State.setPch_outside, State.writeAbsent_outside, State.setReg_outside, State.push_outside, State.outside_ite, State.outside_bif, State.foldl_outside, State.foldl_outside_snd, State.foldl_outside_fst, ite_self, Bool.cond_self, Parts.emits_recs, Parts.emits_classLost, Parts.emits_host, Parts.emits_lost, and_self, and_true, true_and, implies_true, forall_const, hP]

@[simp] theorem pchFmtWrite_outside {P : Parts} (s : State) (n : Nat) (v : Word) (hP : P.fresh = true ∧ P.regs Reg.DEV_ABSENT_ADDR ∧ P.late = true ∧ P.regs Reg.DEV_ABSENT_WR ∧ P.res = true ∧ (∀ n, P.regs (Reg.PCH_FMT n)) ∧ (∀ n, P.regs (Reg.PCH_STAT n))) :
    (pchFmtWrite s n v).outside P = s.outside P := by
  unfold pchFmtWrite
  simp only [State.writeJudged_outside, State.writeAbsent_outside, State.restartRes_outside, State.setReg_outside, State.push_outside, State.outside_ite, State.outside_bif, State.foldl_outside, State.foldl_outside_snd, State.foldl_outside_fst, ite_self, Bool.cond_self, Parts.emits_recs, Parts.emits_classLost, Parts.emits_host, Parts.emits_lost, and_self, and_true, true_and, implies_true, forall_const, hP]

end Sys2Proof.Machine
end

