-- ==== Sys2Proof/Laws/FrameChecker.lean ====
section
/-!
SUPPORT. What the operations of Machine/Checker.lean write: each leaves every part of the state as it is but those its hypothesis names.
-/

set_option Elab.async false
set_option linter.unusedSimpArgs false
namespace Sys2Proof.Machine

@[simp] theorem State.setCheckUnchecked_outside {P : Parts} (s : State) (n cause : Nat) (hP : P.emits ∧ P.fab = true ∧ (∀ n m, P.regs (Reg.CHK_CH_STAT n m)) ∧ P.fresh = true ∧ P.regs Reg.FAB_DROP ∧ P.mode = true ∧ (∀ n, P.regs (Reg.FP_UTIL n)) ∧ P.out = true ∧ P.regs Reg.HIF_CMD_STAT ∧ P.port = true ∧ P.regs Reg.MODE_STAT ∧ P.rate = true ∧ P.regs Reg.PACER_STAT ∧ P.smon = true ∧ P.regs Reg.SAF_CAUSE ∧ P.trust = true ∧ P.regs Reg.SAF_CAUSE_S ∧ P.regs Reg.SAF_CNT ∧ P.regs Reg.SAF_STAT ∧ P.regs Reg.SAF_VER0 ∧ P.regs Reg.SAF_VER1 ∧ P.regs Reg.SAF_W) :
    (State.setCheckUnchecked s n cause).outside P = s.outside P := by
  unfold State.setCheckUnchecked
  simp only [State.setLive_outside, State.emit_outside, State.verifyP_outside, State.setReg_outside, State.push_outside, State.outside_ite, State.outside_bif, State.foldl_outside, State.foldl_outside_snd, State.foldl_outside_fst, ite_self, Bool.cond_self, Parts.emits_recs, Parts.emits_classLost, Parts.emits_host, Parts.emits_lost, and_self, and_true, true_and, implies_true, forall_const, hP]

@[simp] theorem State.maskUnchecked_outside {P : Parts} (s : State) (m : Nat) (hP : P.emits ∧ P.fab = true ∧ (∀ n m, P.regs (Reg.CHK_CH_STAT n m)) ∧ P.fresh = true ∧ P.regs Reg.FAB_DROP ∧ P.mode = true ∧ (∀ n, P.regs (Reg.FP_UTIL n)) ∧ P.out = true ∧ P.regs Reg.HIF_CMD_STAT ∧ P.port = true ∧ P.regs Reg.MODE_STAT ∧ P.rate = true ∧ P.regs Reg.PACER_STAT ∧ P.smon = true ∧ P.regs Reg.SAF_CAUSE ∧ P.trust = true ∧ P.regs Reg.SAF_CAUSE_S ∧ P.regs Reg.SAF_CNT ∧ P.regs Reg.SAF_STAT ∧ P.regs Reg.SAF_VER0 ∧ P.regs Reg.SAF_VER1 ∧ P.regs Reg.SAF_W) :
    (State.maskUnchecked s m).outside P = s.outside P := by
  unfold State.maskUnchecked
  simp only [State.setCheckUnchecked_outside, State.setReg_outside, State.push_outside, State.outside_ite, State.outside_bif, State.foldl_outside, State.foldl_outside_snd, State.foldl_outside_fst, ite_self, Bool.cond_self, Parts.emits_recs, Parts.emits_classLost, Parts.emits_host, Parts.emits_lost, and_self, and_true, true_and, implies_true, forall_const, hP]

@[simp] theorem bankCfgWrite_outside {P : Parts} (s : State) (m i : Nat) (v : Word) (hP : P.emits ∧ P.fab = true ∧ (∀ n, P.regs (Reg.BANK_CFG n)) ∧ P.fresh = true ∧ (∀ n, P.regs (Reg.BANK_STAT n)) ∧ P.late = true ∧ (∀ n m, P.regs (Reg.CHK_CH_STAT n m)) ∧ P.mode = true ∧ P.regs Reg.DEV_ABSENT_ADDR ∧ P.out = true ∧ P.regs Reg.DEV_ABSENT_WR ∧ P.port = true ∧ P.regs Reg.FAB_DROP ∧ P.rate = true ∧ (∀ n, P.regs (Reg.FP_UTIL n)) ∧ P.smon = true ∧ P.regs Reg.HIF_CMD_STAT ∧ P.trust = true ∧ P.regs Reg.MODE_STAT ∧ P.regs Reg.PACER_STAT ∧ P.regs Reg.SAF_CAUSE ∧ P.regs Reg.SAF_CAUSE_S ∧ P.regs Reg.SAF_CNT ∧ P.regs Reg.SAF_STAT ∧ P.regs Reg.SAF_VER0 ∧ P.regs Reg.SAF_VER1 ∧ P.regs Reg.SAF_W ∧ (∀ n m, P.regs (Reg.BANK_CFG n + 4 * m))) :
    (bankCfgWrite s m i v).outside P = s.outside P := by
  unfold bankCfgWrite
  simp only [State.writeJudged_outside, State.writeAbsent_outside, State.maskUnchecked_outside, State.setReg_outside, State.push_outside, State.outside_ite, State.outside_bif, State.foldl_outside, State.foldl_outside_snd, State.foldl_outside_fst, ite_self, Bool.cond_self, Parts.emits_recs, Parts.emits_classLost, Parts.emits_host, Parts.emits_lost, and_self, and_true, true_and, implies_true, forall_const, hP]

@[simp] theorem State.startBank_outside {P : Parts} (s : State) (m : Nat) (hP : P.emits ∧ P.bank = true ∧ (∀ n m, P.regs (Reg.CHK_CH_STAT n m)) ∧ P.fab = true ∧ P.regs Reg.FAB_DROP ∧ P.fresh = true ∧ (∀ n, P.regs (Reg.FP_UTIL n)) ∧ P.mode = true ∧ P.regs Reg.HIF_CMD_STAT ∧ P.out = true ∧ P.regs Reg.MODE_STAT ∧ P.port = true ∧ P.regs Reg.PACER_STAT ∧ P.rate = true ∧ P.regs Reg.SAF_CAUSE ∧ P.smon = true ∧ P.regs Reg.SAF_CAUSE_S ∧ P.trust = true ∧ P.regs Reg.SAF_CNT ∧ P.regs Reg.SAF_STAT ∧ P.regs Reg.SAF_VER0 ∧ P.regs Reg.SAF_VER1 ∧ P.regs Reg.SAF_W) :
    (State.startBank s m).outside P = s.outside P := by
  unfold State.startBank
  simp only [State.setBank_outside, State.maskUnchecked_outside, State.setReg_outside, State.push_outside, State.outside_ite, State.outside_bif, State.foldl_outside, State.foldl_outside_snd, State.foldl_outside_fst, ite_self, Bool.cond_self, Parts.emits_recs, Parts.emits_classLost, Parts.emits_host, Parts.emits_lost, and_self, and_true, true_and, implies_true, forall_const, hP]

@[simp] theorem State.feedChecker_outside {P : Parts} (s : State) (n k : Nat) (o : Option BaseOut) (hP : P.emits ∧ P.bank = true ∧ P.regs Reg.FAB_DROP ∧ P.chk = true ∧ (∀ n, P.regs (Reg.FP_UTIL n)) ∧ P.fab = true ∧ P.regs Reg.HIF_CMD_STAT ∧ P.fresh = true ∧ P.regs Reg.MODE_STAT ∧ P.mode = true ∧ P.regs Reg.PACER_STAT ∧ P.out = true ∧ (∀ n, P.regs (Reg.PCH_CONV_STAT n)) ∧ P.pch = true ∧ (∀ n, P.regs (Reg.PCH_PLAUS_EFF n)) ∧ P.port = true ∧ (∀ n, P.regs (Reg.PCH_STAT n)) ∧ P.rate = true ∧ P.regs Reg.SAF_CAUSE ∧ P.res = true ∧ P.regs Reg.SAF_CAUSE_S ∧ P.smon = true ∧ P.regs Reg.SAF_CNT ∧ P.trust = true ∧ P.regs Reg.SAF_STAT ∧ P.regs Reg.SAF_VER0 ∧ P.regs Reg.SAF_VER1 ∧ P.regs Reg.SAF_W) :
    (State.feedChecker s n k o).outside P = s.outside P := by
  unfold State.feedChecker
  simp only [State.setBank_outside, State.setChk_outside, State.changeAt_outside, State.setReg_outside, State.push_outside, State.outside_ite, State.outside_bif, State.foldl_outside, State.foldl_outside_snd, State.foldl_outside_fst, ite_self, Bool.cond_self, Parts.emits_recs, Parts.emits_classLost, Parts.emits_host, Parts.emits_lost, and_self, and_true, true_and, implies_true, forall_const, hP]

@[simp] theorem State.showOdBusy_outside {P : Parts} (s : State) (m : Nat) (hP : (∀ n, P.regs (Reg.BANK_STAT n))) :
    (State.showOdBusy s m).outside P = s.outside P := by
  unfold State.showOdBusy
  simp only [State.setFld_outside, State.setReg_outside, State.push_outside, State.outside_ite, State.outside_bif, State.foldl_outside, State.foldl_outside_snd, State.foldl_outside_fst, ite_self, Bool.cond_self, Parts.emits_recs, Parts.emits_classLost, Parts.emits_host, Parts.emits_lost, and_self, and_true, true_and, implies_true, forall_const, hP]

@[simp] theorem State.openSlot_outside {P : Parts} (s : State) (m : Nat) (b : Bank) (pos b1 : Nat) (sl : Slot) (hP : P.bank = true ∧ (∀ n, P.regs (Reg.BANK_STAT n)) ∧ P.fresh = true) :
    (State.openSlot s m b pos b1 sl).outside P = s.outside P := by
  unfold State.openSlot
  simp only [State.setFld_outside, State.freeNat_outside, State.setBank_outside, State.showOdBusy_outside, State.setReg_outside, State.push_outside, State.outside_ite, State.outside_bif, State.foldl_outside, State.foldl_outside_snd, State.foldl_outside_fst, ite_self, Bool.cond_self, Parts.emits_recs, Parts.emits_classLost, Parts.emits_host, Parts.emits_lost, and_self, and_true, true_and, implies_true, forall_const, hP]

@[simp] theorem State.beginSlot_outside {P : Parts} (s : State) (m : Nat) (b : Bank) (pos point : Nat) (isRepeat : Bool) (od : Option OnDemand) (hP : P.bank = true ∧ (∀ n, P.regs (Reg.BANK_STAT n)) ∧ P.fresh = true) :
    (State.beginSlot s m b pos point isRepeat od).outside P = s.outside P := by
  unfold State.beginSlot
  simp only [State.openSlot_outside, State.setReg_outside, State.push_outside, State.outside_ite, State.outside_bif, State.foldl_outside, State.foldl_outside_snd, State.foldl_outside_fst, ite_self, Bool.cond_self, Parts.emits_recs, Parts.emits_classLost, Parts.emits_host, Parts.emits_lost, and_self, and_true, true_and, implies_true, forall_const, hP]

@[simp] theorem State.awaitBoundary_outside {P : Parts} (s : State) (m : Nat) (b : Bank) (hP : P.bank = true ∧ (∀ n, P.regs (Reg.BANK_STAT n)) ∧ P.fresh = true) :
    (State.awaitBoundary s m b).outside P = s.outside P := by
  unfold State.awaitBoundary
  simp only [State.openSlot_outside, State.setReg_outside, State.push_outside, State.outside_ite, State.outside_bif, State.foldl_outside, State.foldl_outside_snd, State.foldl_outside_fst, ite_self, Bool.cond_self, Parts.emits_recs, Parts.emits_classLost, Parts.emits_host, Parts.emits_lost, and_self, and_true, true_and, implies_true, forall_const, hP]

@[simp] theorem State.firstSlot_outside {P : Parts} (s : State) (m : Nat) (b : Bank) (hP : P.bank = true ∧ (∀ n, P.regs (Reg.BANK_STAT n)) ∧ P.fresh = true) :
    (State.firstSlot s m b).outside P = s.outside P := by
  unfold State.firstSlot
  simp only [State.setBank_outside, State.beginSlot_outside, State.awaitBoundary_outside, State.setReg_outside, State.push_outside, State.outside_ite, State.outside_bif, State.foldl_outside, State.foldl_outside_snd, State.foldl_outside_fst, ite_self, Bool.cond_self, Parts.emits_recs, Parts.emits_classLost, Parts.emits_host, Parts.emits_lost, and_self, and_true, true_and, implies_true, forall_const, hP]
  repeat' (first | rfl | (split <;> try simp only [State.setBank_outside, State.beginSlot_outside, State.awaitBoundary_outside, State.setReg_outside, State.push_outside, State.outside_ite, State.outside_bif, State.foldl_outside, State.foldl_outside_snd, State.foldl_outside_fst, ite_self, Bool.cond_self, Parts.emits_recs, Parts.emits_classLost, Parts.emits_host, Parts.emits_lost, and_self, and_true, true_and, implies_true, forall_const, hP]))

@[simp] theorem State.nextSlot_outside {P : Parts} (s : State) (m : Nat) (b : Bank) (hP : P.bank = true ∧ (∀ n, P.regs (Reg.BANK_STAT n)) ∧ P.fresh = true) :
    (State.nextSlot s m b).outside P = s.outside P := by
  have h1 := fun b' pos pt rep od => State.beginSlot_outside (P := P) s m b' pos pt rep od (by simp only [hP, and_self, implies_true])
  have h2 := State.firstSlot_outside (P := P) s m b (by simp only [hP, and_self, implies_true])
  have h3 := State.awaitBoundary_outside (P := P) s m b (by simp only [hP, and_self, implies_true])
  unfold State.nextSlot
  repeat' split
  all_goals first | with_reducible exact h3 | with_reducible exact h2 | with_reducible exact h1 ..

@[simp] theorem checkerSlotBoundary_outside {P : Parts} (s : State) (m : Nat) (overload : Bool) (hP : P.bank = true ∧ (∀ n, P.regs (Reg.BANK_STAT n)) ∧ P.fresh = true) :
    (checkerSlotBoundary s m overload).outside P = s.outside P := by
  unfold checkerSlotBoundary
  simp only [State.nextSlot_outside, State.setReg_outside, State.push_outside, State.outside_ite, State.outside_bif, State.foldl_outside, State.foldl_outside_snd, State.foldl_outside_fst, ite_self, Bool.cond_self, Parts.emits_recs, Parts.emits_classLost, Parts.emits_host, Parts.emits_lost, and_self, and_true, true_and, implies_true, forall_const, hP]

@[simp] theorem State.showMeas_outside {P : Parts} (s : State) (hP : P.regs Reg.CAL_STAT) :
    (State.showMeas s).outside P = s.outside P := by
  unfold State.showMeas
  simp only [State.setFld_outside, State.setReg_outside, State.push_outside, State.outside_ite, State.outside_bif, State.foldl_outside, State.foldl_outside_snd, State.foldl_outside_fst, ite_self, Bool.cond_self, Parts.emits_recs, Parts.emits_classLost, Parts.emits_host, Parts.emits_lost, and_self, and_true, true_and, implies_true, forall_const, hP]

@[simp] theorem State.slotMean_outside {P : Parts} (s : State) (sl : Slot) (num : Int) (hP : P.fresh = true) :
    (State.slotMean s sl num).2.outside P = s.outside P := by
  unfold State.slotMean
  repeat' split
  all_goals first | rfl | simp only [State.freeNat_outside, State.setReg_outside, State.push_outside, State.outside_ite, State.outside_bif, State.foldl_outside, State.foldl_outside_snd, State.foldl_outside_fst, ite_self, Bool.cond_self, Parts.emits_recs, Parts.emits_classLost, Parts.emits_host, Parts.emits_lost, and_self, and_true, true_and, implies_true, forall_const, hP]

@[simp] theorem State.measureSlot_outside {P : Parts} (s : State) (m : Nat) (sl : Slot) (status : Nat) (k2 : Int) (hP : P.bank = true ∧ P.regs Reg.CAL_STAT ∧ P.fab = true ∧ P.regs Reg.FAB_DROP ∧ P.fresh = true ∧ (∀ n, P.regs (Reg.FP_UTIL n)) ∧ P.host = true ∧ P.regs Reg.HIF_CMD_STAT ∧ P.out = true ∧ P.port = true) :
    (State.measureSlot s m sl status k2).outside P = s.outside P := by
  unfold State.measureSlot
  simp only [State.count_outside, State.setBank_outside, State.settle_outside, State.showMeas_outside, State.slotMean_outside, State.setReg_outside, State.push_outside, State.outside_ite, State.outside_bif, State.foldl_outside, State.foldl_outside_snd, State.foldl_outside_fst, ite_self, Bool.cond_self, Parts.emits_recs, Parts.emits_classLost, Parts.emits_host, Parts.emits_lost, and_self, and_true, true_and, implies_true, forall_const, hP]
  repeat' (first | rfl | (split <;> try simp only [State.count_outside, State.setBank_outside, State.settle_outside, State.showMeas_outside, State.slotMean_outside, State.setReg_outside, State.push_outside, State.outside_ite, State.outside_bif, State.foldl_outside, State.foldl_outside_snd, State.foldl_outside_fst, ite_self, Bool.cond_self, Parts.emits_recs, Parts.emits_classLost, Parts.emits_host, Parts.emits_lost, and_self, and_true, true_and, implies_true, forall_const, hP]))

@[simp] theorem State.openWire_outside {P : Parts} (s : State) (n : Nat) (beyondP beyondN : Bool) (hP : P.emits ∧ P.rate = true ∧ (∀ n, P.regs (Reg.PCH_STAT n))) :
    (State.openWire s n beyondP beyondN).outside P = s.outside P := by
  unfold State.openWire
  simp only [State.openBall_outside, State.setReg_outside, State.push_outside, State.outside_ite, State.outside_bif, State.foldl_outside, State.foldl_outside_snd, State.foldl_outside_fst, ite_self, Bool.cond_self, Parts.emits_recs, Parts.emits_classLost, Parts.emits_host, Parts.emits_lost, and_self, and_true, true_and, implies_true, forall_const, hP]

@[simp] theorem State.judgeChannel_outside {P : Parts} (s : State) (m : Nat) (sl : Slot) (n status : Nat) (a k2 : Int) (hP : P.emits ∧ P.chk = true ∧ (∀ n m, P.regs (Reg.CHK_CH_STAT n m))) :
    (State.judgeChannel s m sl n status a k2).outside P = s.outside P := by
  unfold State.judgeChannel
  simp only [State.setFld_outside, State.clear_outside, State.setLive_outside, State.emit_outside, State.emitSafetyHeld_outside, State.setChk_outside, State.setReg_outside, State.push_outside, State.outside_ite, State.outside_bif, State.foldl_outside, State.foldl_outside_snd, State.foldl_outside_fst, ite_self, Bool.cond_self, Parts.emits_recs, Parts.emits_classLost, Parts.emits_host, Parts.emits_lost, and_self, and_true, true_and, implies_true, forall_const, hP]

@[simp] theorem State.channelResult_outside {P : Parts} (s : State) (m : Nat) (sl : Slot) (status0 : Nat) (r : BitVec 32) (owP owN : Bool) (hP : P.emits ∧ P.bank = true ∧ P.regs Reg.CAL_STAT ∧ P.chk = true ∧ (∀ n m, P.regs (Reg.CHK_CH_A_LO n m)) ∧ P.fab = true ∧ (∀ n m, P.regs (Reg.CHK_CH_DIFF n m)) ∧ P.fresh = true ∧ (∀ n m, P.regs (Reg.CHK_CH_HI n m)) ∧ P.mode = true ∧ (∀ n m, P.regs (Reg.CHK_CH_K_LO n m)) ∧ P.out = true ∧ (∀ n m, P.regs (Reg.CHK_CH_STAT n m)) ∧ P.port = true ∧ (∀ n m, P.regs (Reg.CHK_CH_TOTAL n m)) ∧ P.rate = true ∧ P.regs Reg.FAB_DROP ∧ P.smon = true ∧ (∀ n, P.regs (Reg.FP_UTIL n)) ∧ P.trust = true ∧ P.regs Reg.HIF_CMD_STAT ∧ P.regs Reg.MODE_STAT ∧ P.regs Reg.PACER_STAT ∧ (∀ n, P.regs (Reg.PCH_STAT n)) ∧ P.regs Reg.SAF_CAUSE ∧ P.regs Reg.SAF_CAUSE_S ∧ P.regs Reg.SAF_CNT ∧ P.regs Reg.SAF_STAT ∧ P.regs Reg.SAF_VER0 ∧ P.regs Reg.SAF_VER1 ∧ P.regs Reg.SAF_W) :
    (State.channelResult s m sl status0 r owP owN).2.outside P = s.outside P := by
  unfold State.channelResult
  simp only [State.setFld_outside, State.count_outside, State.freeNat_outside, State.verifyP_outside, State.firstAgree_outside, State.measureSlot_outside, State.openWire_outside, State.judgeChannel_outside, State.setReg_outside, State.push_outside, State.outside_ite, State.outside_bif, State.foldl_outside, State.foldl_outside_snd, State.foldl_outside_fst, ite_self, Bool.cond_self, Parts.emits_recs, Parts.emits_classLost, Parts.emits_host, Parts.emits_lost, and_self, and_true, true_and, implies_true, forall_const, hP]

@[simp] theorem State.pointTransition_outside {P : Parts} (s : State) (m i : Nat) (now : Bool) (value expected : Int) (hP : P.emits ∧ P.fab = true ∧ (∀ n, P.regs (Reg.BANK_STAT n)) ∧ P.fresh = true ∧ P.regs Reg.FAB_DROP ∧ P.mode = true ∧ (∀ n, P.regs (Reg.FP_UTIL n)) ∧ P.out = true ∧ P.regs Reg.HIF_CMD_STAT ∧ P.port = true ∧ P.regs Reg.MODE_STAT ∧ P.rate = true ∧ P.regs Reg.PACER_STAT ∧ P.smon = true ∧ P.regs Reg.SAF_CAUSE ∧ P.trust = true ∧ P.regs Reg.SAF_CAUSE_S ∧ P.regs Reg.SAF_CNT ∧ P.regs Reg.SAF_STAT ∧ P.regs Reg.SAF_VER0 ∧ P.regs Reg.SAF_VER1 ∧ P.regs Reg.SAF_W) :
    (State.pointTransition s m i now value expected).outside P = s.outside P := by
  unfold State.pointTransition
  simp only [State.raise_outside, State.clear_outside, State.setLive_outside, State.emit_outside, State.verifyP_outside, State.setReg_outside, State.push_outside, State.outside_ite, State.outside_bif, State.foldl_outside, State.foldl_outside_snd, State.foldl_outside_fst, ite_self, Bool.cond_self, Parts.emits_recs, Parts.emits_classLost, Parts.emits_host, Parts.emits_lost, and_self, and_true, true_and, implies_true, forall_const, hP]

@[simp] theorem State.countPoint_outside {P : Parts} (s : State) (m chkN i : Nat) (out : Bool) (value expected : Int) (hP : P.emits ∧ P.bank = true ∧ (∀ n, P.regs (Reg.BANK_STAT n)) ∧ P.fab = true ∧ P.regs Reg.FAB_DROP ∧ P.fresh = true ∧ (∀ n, P.regs (Reg.FP_UTIL n)) ∧ P.mode = true ∧ P.regs Reg.HIF_CMD_STAT ∧ P.out = true ∧ P.regs Reg.MODE_STAT ∧ P.port = true ∧ P.regs Reg.PACER_STAT ∧ P.rate = true ∧ P.regs Reg.SAF_CAUSE ∧ P.smon = true ∧ P.regs Reg.SAF_CAUSE_S ∧ P.trust = true ∧ P.regs Reg.SAF_CNT ∧ P.regs Reg.SAF_STAT ∧ P.regs Reg.SAF_VER0 ∧ P.regs Reg.SAF_VER1 ∧ P.regs Reg.SAF_W) :
    (State.countPoint s m chkN i out value expected).outside P = s.outside P := by
  unfold State.countPoint
  simp only [State.setBank_outside, State.pointTransition_outside, State.setReg_outside, State.push_outside, State.outside_ite, State.outside_bif, State.foldl_outside, State.foldl_outside_snd, State.foldl_outside_fst, ite_self, Bool.cond_self, Parts.emits_recs, Parts.emits_classLost, Parts.emits_host, Parts.emits_lost, and_self, and_true, true_and, implies_true, forall_const, hP]

@[simp] theorem State.pointResult_outside {P : Parts} (s : State) (m : Nat) (sl : Slot) (status0 : Nat) (r : BitVec 32) (hP : P.emits ∧ P.bank = true ∧ (∀ n, P.regs (Reg.BANK_PT_ZERO n)) ∧ P.fab = true ∧ (∀ n, P.regs (Reg.BANK_STAT n)) ∧ P.fresh = true ∧ (∀ n, P.regs (Reg.BANK_TEMP n)) ∧ P.mode = true ∧ (∀ n, P.regs (Reg.BANK_ZERO n)) ∧ P.out = true ∧ P.regs Reg.FAB_DROP ∧ P.port = true ∧ (∀ n, P.regs (Reg.FP_UTIL n)) ∧ P.rate = true ∧ P.regs Reg.HIF_CMD_STAT ∧ P.smon = true ∧ P.regs Reg.MODE_STAT ∧ P.trust = true ∧ P.regs Reg.PACER_STAT ∧ P.regs Reg.SAF_CAUSE ∧ P.regs Reg.SAF_CAUSE_S ∧ P.regs Reg.SAF_CNT ∧ P.regs Reg.SAF_STAT ∧ P.regs Reg.SAF_VER0 ∧ P.regs Reg.SAF_VER1 ∧ P.regs Reg.SAF_W ∧ (∀ n m, P.regs (Reg.BANK_PT_ZERO n + 4 * m))) :
    (State.pointResult s m sl status0 r).outside P = s.outside P := by
  unfold State.pointResult
  simp only [State.setFld_outside, State.setBank_outside, State.countPoint_outside, State.setReg_outside, State.push_outside, State.outside_ite, State.outside_bif, State.foldl_outside, State.foldl_outside_snd, State.foldl_outside_fst, ite_self, Bool.cond_self, Parts.emits_recs, Parts.emits_classLost, Parts.emits_host, Parts.emits_lost, and_self, and_true, true_and, implies_true, forall_const, hP]

@[simp] theorem State.publish_outside {P : Parts} (s : State) (m : Nat) (sl : Slot) (rest : List Slot) (r : BitVec 32) (owP owN : Bool) (hP : P.emits ∧ P.bank = true ∧ (∀ n, P.regs (Reg.BANK_PT_ZERO n)) ∧ P.chk = true ∧ (∀ n, P.regs (Reg.BANK_STAT n)) ∧ P.fab = true ∧ (∀ n, P.regs (Reg.BANK_TEMP n)) ∧ P.fresh = true ∧ (∀ n, P.regs (Reg.BANK_ZERO n)) ∧ P.mode = true ∧ P.regs Reg.CAL_STAT ∧ P.out = true ∧ (∀ n m, P.regs (Reg.CHK_CH_A_LO n m)) ∧ P.port = true ∧ (∀ n m, P.regs (Reg.CHK_CH_DIFF n m)) ∧ P.rate = true ∧ (∀ n m, P.regs (Reg.CHK_CH_HI n m)) ∧ P.smon = true ∧ (∀ n m, P.regs (Reg.CHK_CH_K_LO n m)) ∧ P.trust = true ∧ (∀ n m, P.regs (Reg.CHK_CH_STAT n m)) ∧ (∀ n m, P.regs (Reg.CHK_CH_TOTAL n m)) ∧ P.regs Reg.FAB_DROP ∧ (∀ n, P.regs (Reg.FP_UTIL n)) ∧ P.regs Reg.HIF_CMD_STAT ∧ P.regs Reg.MODE_STAT ∧ P.regs Reg.PACER_STAT ∧ (∀ n, P.regs (Reg.PCH_STAT n)) ∧ P.regs Reg.SAF_CAUSE ∧ P.regs Reg.SAF_CAUSE_S ∧ P.regs Reg.SAF_CNT ∧ P.regs Reg.SAF_STAT ∧ P.regs Reg.SAF_VER0 ∧ P.regs Reg.SAF_VER1 ∧ P.regs Reg.SAF_W ∧ (∀ n m, P.regs (Reg.BANK_PT_ZERO n + 4 * m))) :
    (State.publish s m sl rest r owP owN).2.outside P = s.outside P := by
  unfold State.publish
  repeat' split
  all_goals first | rfl | simp only [State.setBank_outside, State.channelResult_outside, State.pointResult_outside, State.setReg_outside, State.push_outside, State.outside_ite, State.outside_bif, State.foldl_outside, State.foldl_outside_snd, State.foldl_outside_fst, ite_self, Bool.cond_self, Parts.emits_recs, Parts.emits_classLost, Parts.emits_host, Parts.emits_lost, and_self, and_true, true_and, implies_true, forall_const, hP]

@[simp] theorem checkerResult_outside {P : Parts} (s : State) (m : Nat) (r : BitVec 32) (owP owN : Bool) (hP : P.emits ∧ P.bank = true ∧ (∀ n, P.regs (Reg.BANK_PT_ZERO n)) ∧ P.chk = true ∧ (∀ n, P.regs (Reg.BANK_STAT n)) ∧ P.fab = true ∧ (∀ n, P.regs (Reg.BANK_TEMP n)) ∧ P.fresh = true ∧ (∀ n, P.regs (Reg.BANK_ZERO n)) ∧ P.mode = true ∧ P.regs Reg.CAL_STAT ∧ P.out = true ∧ (∀ n m, P.regs (Reg.CHK_CH_A_LO n m)) ∧ P.port = true ∧ (∀ n m, P.regs (Reg.CHK_CH_DIFF n m)) ∧ P.rate = true ∧ (∀ n m, P.regs (Reg.CHK_CH_HI n m)) ∧ P.smon = true ∧ (∀ n m, P.regs (Reg.CHK_CH_K_LO n m)) ∧ P.trust = true ∧ (∀ n m, P.regs (Reg.CHK_CH_STAT n m)) ∧ (∀ n m, P.regs (Reg.CHK_CH_TOTAL n m)) ∧ P.regs Reg.FAB_DROP ∧ (∀ n, P.regs (Reg.FP_UTIL n)) ∧ P.regs Reg.HIF_CMD_STAT ∧ P.regs Reg.MODE_STAT ∧ P.regs Reg.PACER_STAT ∧ (∀ n, P.regs (Reg.PCH_STAT n)) ∧ P.regs Reg.SAF_CAUSE ∧ P.regs Reg.SAF_CAUSE_S ∧ P.regs Reg.SAF_CNT ∧ P.regs Reg.SAF_STAT ∧ P.regs Reg.SAF_VER0 ∧ P.regs Reg.SAF_VER1 ∧ P.regs Reg.SAF_W ∧ (∀ n m, P.regs (Reg.BANK_PT_ZERO n + 4 * m))) :
    (checkerResult s m r owP owN).outside P = s.outside P := by
  unfold checkerResult
  simp only [State.setBank_outside, State.publish_outside, State.setReg_outside, State.push_outside, State.outside_ite, State.outside_bif, State.foldl_outside, State.foldl_outside_snd, State.foldl_outside_fst, ite_self, Bool.cond_self, Parts.emits_recs, Parts.emits_classLost, Parts.emits_host, Parts.emits_lost, and_self, and_true, true_and, implies_true, forall_const, hP]
  repeat' (first | rfl | (split <;> try simp only [State.setBank_outside, State.publish_outside, State.setReg_outside, State.push_outside, State.outside_ite, State.outside_bif, State.foldl_outside, State.foldl_outside_snd, State.foldl_outside_fst, ite_self, Bool.cond_self, Parts.emits_recs, Parts.emits_classLost, Parts.emits_host, Parts.emits_lost, and_self, and_true, true_and, implies_true, forall_const, hP]))

@[simp] theorem State.driftChannel_outside {P : Parts} (s : State) (m n : Nat) (cfg : Word) (hP : P.chk = true ∧ P.eff = true) :
    (State.driftChannel s m n cfg).2.outside P = s.outside P := by
  unfold State.driftChannel
  repeat' split
  all_goals first | rfl | simp only [State.setChk_outside, State.outside_eff, State.setReg_outside, State.push_outside, State.outside_ite, State.outside_bif, State.foldl_outside, State.foldl_outside_snd, State.foldl_outside_fst, ite_self, Bool.cond_self, Parts.emits_recs, Parts.emits_classLost, Parts.emits_host, Parts.emits_lost, and_self, and_true, true_and, implies_true, forall_const, hP]

@[simp] theorem State.trackReferences_outside {P : Parts} (s : State) (m : Nat) (cfg : Word) (hP : P.bank = true ∧ (∀ n, P.regs (Reg.BANK_M n)) ∧ (∀ n, P.regs (Reg.BANK_S n))) :
    (State.trackReferences s m cfg).outside P = s.outside P := by
  unfold State.trackReferences
  simp only [State.setBank_outside, State.setReg_outside, State.push_outside, State.outside_ite, State.outside_bif, State.foldl_outside, State.foldl_outside_snd, State.foldl_outside_fst, ite_self, Bool.cond_self, Parts.emits_recs, Parts.emits_classLost, Parts.emits_host, Parts.emits_lost, and_self, and_true, true_and, implies_true, forall_const, hP]
  repeat' (first | rfl | (split <;> try simp only [State.setBank_outside, State.setReg_outside, State.push_outside, State.outside_ite, State.outside_bif, State.foldl_outside, State.foldl_outside_snd, State.foldl_outside_fst, ite_self, Bool.cond_self, Parts.emits_recs, Parts.emits_classLost, Parts.emits_host, Parts.emits_lost, and_self, and_true, true_and, implies_true, forall_const, hP]))

@[simp] theorem State.missedCycle_outside {P : Parts} (s : State) (n : Nat) (cfg : Word) (hP : P.emits ∧ P.chk = true ∧ (∀ n m, P.regs (Reg.CHK_CH_STAT n m)) ∧ P.fab = true ∧ P.regs Reg.FAB_DROP ∧ P.fresh = true ∧ (∀ n, P.regs (Reg.FP_UTIL n)) ∧ P.mode = true ∧ P.regs Reg.HIF_CMD_STAT ∧ P.out = true ∧ P.regs Reg.MODE_STAT ∧ P.port = true ∧ P.regs Reg.PACER_STAT ∧ P.rate = true ∧ P.regs Reg.SAF_CAUSE ∧ P.smon = true ∧ P.regs Reg.SAF_CAUSE_S ∧ P.trust = true ∧ P.regs Reg.SAF_CNT ∧ P.regs Reg.SAF_STAT ∧ P.regs Reg.SAF_VER0 ∧ P.regs Reg.SAF_VER1 ∧ P.regs Reg.SAF_W) :
    (State.missedCycle s n cfg).outside P = s.outside P := by
  unfold State.missedCycle
  simp only [State.setChk_outside, State.setCheckUnchecked_outside, State.setReg_outside, State.push_outside, State.outside_ite, State.outside_bif, State.foldl_outside, State.foldl_outside_snd, State.foldl_outside_fst, ite_self, Bool.cond_self, Parts.emits_recs, Parts.emits_classLost, Parts.emits_host, Parts.emits_lost, and_self, and_true, true_and, implies_true, forall_const, hP]

@[simp] theorem State.detectionBound_outside {P : Parts} (s : State) (m : Nat) (d : CycleDone) (hP : P.emits ∧ P.bank = true ∧ P.regs Reg.SAF_DTB ∧ P.rate = true ∧ P.regs Reg.SAF_STAT) :
    (State.detectionBound s m d).outside P = s.outside P := by
  unfold State.detectionBound
  simp only [State.setFld_outside, State.raise_outside, State.emitLimited_outside, State.setBank_outside, State.setReg_outside, State.push_outside, State.outside_ite, State.outside_bif, State.foldl_outside, State.foldl_outside_snd, State.foldl_outside_fst, ite_self, Bool.cond_self, Parts.emits_recs, Parts.emits_classLost, Parts.emits_host, Parts.emits_lost, and_self, and_true, true_and, implies_true, forall_const, hP]

@[simp] theorem State.showDrift_outside {P : Parts} (s : State) (m : Nat) (clamped : Option Nat) (hP : P.emits ∧ (∀ n, P.regs (Reg.BANK_STAT n))) :
    (State.showDrift s m clamped).outside P = s.outside P := by
  unfold State.showDrift
  repeat' split
  all_goals first | rfl | simp only [State.setLive_outside, State.emit_outside, State.setReg_outside, State.push_outside, State.outside_ite, State.outside_bif, State.foldl_outside, State.foldl_outside_snd, State.foldl_outside_fst, ite_self, Bool.cond_self, Parts.emits_recs, Parts.emits_classLost, Parts.emits_host, Parts.emits_lost, and_self, and_true, true_and, implies_true, forall_const, hP]

@[simp] theorem State.cycleEnd_outside {P : Parts} (s : State) (m : Nat) (d : CycleDone) (hP : P.emits ∧ P.bank = true ∧ (∀ n, P.regs (Reg.BANK_CYCLE_T n)) ∧ P.chk = true ∧ (∀ n, P.regs (Reg.BANK_M n)) ∧ P.eff = true ∧ (∀ n, P.regs (Reg.BANK_S n)) ∧ P.fab = true ∧ (∀ n, P.regs (Reg.BANK_STAT n)) ∧ P.fresh = true ∧ (∀ n m, P.regs (Reg.CHK_CH_STAT n m)) ∧ P.mode = true ∧ P.regs Reg.FAB_DROP ∧ P.out = true ∧ (∀ n, P.regs (Reg.FP_UTIL n)) ∧ P.port = true ∧ P.regs Reg.HIF_CMD_STAT ∧ P.rate = true ∧ P.regs Reg.MODE_STAT ∧ P.smon = true ∧ P.regs Reg.PACER_STAT ∧ P.trust = true ∧ P.regs Reg.SAF_CAUSE ∧ P.regs Reg.SAF_CAUSE_S ∧ P.regs Reg.SAF_CNT ∧ P.regs Reg.SAF_DTB ∧ P.regs Reg.SAF_STAT ∧ P.regs Reg.SAF_VER0 ∧ P.regs Reg.SAF_VER1 ∧ P.regs Reg.SAF_W) :
    (State.cycleEnd s m d).outside P = s.outside P := by
  unfold State.cycleEnd
  simp only [State.setBank_outside, State.driftChannel_outside, State.trackReferences_outside, State.missedCycle_outside, State.detectionBound_outside, State.showDrift_outside, State.setReg_outside, State.push_outside, State.outside_ite, State.outside_bif, State.foldl_outside, State.foldl_outside_snd, State.foldl_outside_fst, ite_self, Bool.cond_self, Parts.emits_recs, Parts.emits_classLost, Parts.emits_host, Parts.emits_lost, and_self, and_true, true_and, implies_true, forall_const, hP]

@[simp] theorem State.requestConversion_outside {P : Parts} (s : State) (m : Nat) (urgent : Bool) (o : OnDemand) (hP : P.bank = true ∧ (∀ n, P.regs (Reg.BANK_DROP_CNT n)) ∧ P.fab = true ∧ (∀ n, P.regs (Reg.BANK_STAT n)) ∧ P.fresh = true ∧ P.regs Reg.FAB_DROP ∧ P.host = true ∧ (∀ n, P.regs (Reg.FP_UTIL n)) ∧ P.out = true ∧ P.regs Reg.HIF_CMD_STAT ∧ P.port = true) :
    (State.requestConversion s m urgent o).outside P = s.outside P := by
  unfold State.requestConversion
  simp only [State.setFld_outside, State.count_outside, State.setBank_outside, State.settle_outside, State.accept_outside, State.showOdBusy_outside, State.setReg_outside, State.push_outside, State.outside_ite, State.outside_bif, State.foldl_outside, State.foldl_outside_snd, State.foldl_outside_fst, ite_self, Bool.cond_self, Parts.emits_recs, Parts.emits_classLost, Parts.emits_host, Parts.emits_lost, and_self, and_true, true_and, implies_true, forall_const, hP]
  repeat' (first | rfl | (split <;> try simp only [State.setFld_outside, State.count_outside, State.setBank_outside, State.settle_outside, State.accept_outside, State.showOdBusy_outside, State.setReg_outside, State.push_outside, State.outside_ite, State.outside_bif, State.foldl_outside, State.foldl_outside_snd, State.foldl_outside_fst, ite_self, Bool.cond_self, Parts.emits_recs, Parts.emits_classLost, Parts.emits_host, Parts.emits_lost, and_self, and_true, true_and, implies_true, forall_const, hP]))

@[simp] theorem onDemandSlotDone_outside {P : Parts} (s : State) (m : Nat) (r : BitVec 32) (overload : Bool) (ow : OpenBalls) (hP : P.emits ∧ P.bank = true ∧ (∀ n, P.regs (Reg.BANK_PT_ZERO n)) ∧ P.chk = true ∧ (∀ n, P.regs (Reg.BANK_STAT n)) ∧ P.fab = true ∧ (∀ n, P.regs (Reg.BANK_TEMP n)) ∧ P.fresh = true ∧ (∀ n, P.regs (Reg.BANK_ZERO n)) ∧ P.mode = true ∧ P.regs Reg.CAL_STAT ∧ P.out = true ∧ (∀ n m, P.regs (Reg.CHK_CH_A_LO n m)) ∧ P.port = true ∧ (∀ n m, P.regs (Reg.CHK_CH_DIFF n m)) ∧ P.rate = true ∧ (∀ n m, P.regs (Reg.CHK_CH_HI n m)) ∧ P.smon = true ∧ (∀ n m, P.regs (Reg.CHK_CH_K_LO n m)) ∧ P.trust = true ∧ (∀ n m, P.regs (Reg.CHK_CH_STAT n m)) ∧ (∀ n m, P.regs (Reg.CHK_CH_TOTAL n m)) ∧ P.regs Reg.FAB_DROP ∧ (∀ n, P.regs (Reg.FP_UTIL n)) ∧ P.regs Reg.HIF_CMD_STAT ∧ P.regs Reg.MODE_STAT ∧ P.regs Reg.PACER_STAT ∧ (∀ n, P.regs (Reg.PCH_STAT n)) ∧ P.regs Reg.SAF_CAUSE ∧ P.regs Reg.SAF_CAUSE_S ∧ P.regs Reg.SAF_CNT ∧ P.regs Reg.SAF_STAT ∧ P.regs Reg.SAF_VER0 ∧ P.regs Reg.SAF_VER1 ∧ P.regs Reg.SAF_W ∧ (∀ n m, P.regs (Reg.BANK_PT_ZERO n + 4 * m))) :
    (onDemandSlotDone s m r overload ow).outside P = s.outside P := by
  unfold onDemandSlotDone
  simp only [State.setBank_outside, State.settle_outside, State.showOdBusy_outside, State.publish_outside, State.setReg_outside, State.push_outside, State.outside_ite, State.outside_bif, State.foldl_outside, State.foldl_outside_snd, State.foldl_outside_fst, ite_self, Bool.cond_self, Parts.emits_recs, Parts.emits_classLost, Parts.emits_host, Parts.emits_lost, and_self, and_true, true_and, implies_true, forall_const, hP]
  repeat' (first | rfl | (split <;> try simp only [State.setBank_outside, State.settle_outside, State.showOdBusy_outside, State.publish_outside, State.setReg_outside, State.push_outside, State.outside_ite, State.outside_bif, State.foldl_outside, State.foldl_outside_snd, State.foldl_outside_fst, ite_self, Bool.cond_self, Parts.emits_recs, Parts.emits_classLost, Parts.emits_host, Parts.emits_lost, and_self, and_true, true_and, implies_true, forall_const, hP]))

end Sys2Proof.Machine
end

