-- ==== Sys2Proof/Laws/FrameCal.lean ====
section
/-!
SUPPORT. What the operations of Machine/Cal.lean write: each leaves every part of the state as it is but those its hypothesis names.
-/

set_option Elab.async false
set_option linter.unusedSimpArgs false
namespace Sys2Proof.Machine

@[simp] theorem State.requestCalibration_outside {P : Parts} (s : State) (src : CmdSrc) (tag ch n : Nat) (full : Bool) (target : Int) (hP : P.bank = true ∧ P.regs Reg.CAL_STAT ∧ P.fab = true ∧ P.regs Reg.FAB_DROP ∧ P.fresh = true ∧ (∀ n, P.regs (Reg.FP_UTIL n)) ∧ P.host = true ∧ P.regs Reg.HIF_CMD_STAT ∧ P.out = true ∧ P.port = true) :
    (State.requestCalibration s src tag ch n full target).outside P = s.outside P := by
  unfold State.requestCalibration
  simp only [State.raise_outside, State.setBank_outside, State.settle_outside, State.accept_outside, State.setReg_outside, State.push_outside, State.outside_ite, State.outside_bif, State.foldl_outside, State.foldl_outside_snd, State.foldl_outside_fst, ite_self, Bool.cond_self, Parts.emits_recs, Parts.emits_classLost, Parts.emits_host, Parts.emits_lost, and_self, and_true, true_and, implies_true, forall_const, hP]

@[simp] theorem State.finishCalibration_outside {P : Parts} (s : State) (m : Nat) (me : Meas) (w : List Word) (hP : P.bank = true ∧ P.regs Reg.FAB_DROP ∧ P.fab = true ∧ (∀ n, P.regs (Reg.FP_UTIL n)) ∧ P.fresh = true ∧ P.regs Reg.HIF_CMD_STAT ∧ P.host = true ∧ P.out = true ∧ P.port = true) :
    (State.finishCalibration s m me w).outside P = s.outside P := by
  unfold State.finishCalibration
  simp only [State.setBank_outside, State.settle_outside, State.setReg_outside, State.push_outside, State.outside_ite, State.outside_bif, State.foldl_outside, State.foldl_outside_snd, State.foldl_outside_fst, ite_self, Bool.cond_self, Parts.emits_recs, Parts.emits_classLost, Parts.emits_host, Parts.emits_lost, and_self, and_true, true_and, implies_true, forall_const, hP]

@[simp] theorem calMeasureDone_outside {P : Parts} (s : State) (m : Nat) (hP : P.bank = true ∧ P.regs Reg.CAL_STAT ∧ P.fab = true ∧ P.regs Reg.FAB_DROP ∧ P.fresh = true ∧ (∀ n, P.regs (Reg.FP_UTIL n)) ∧ P.host = true ∧ P.regs Reg.HIF_CMD_STAT ∧ P.out = true ∧ P.port = true) :
    (calMeasureDone s m).outside P = s.outside P := by
  unfold calMeasureDone
  repeat' split
  all_goals first | rfl | simp only [State.count_outside, State.setBank_outside, State.settle_outside, State.showMeas_outside, State.finishCalibration_outside, State.setReg_outside, State.push_outside, State.outside_ite, State.outside_bif, State.foldl_outside, State.foldl_outside_snd, State.foldl_outside_fst, ite_self, Bool.cond_self, Parts.emits_recs, Parts.emits_classLost, Parts.emits_host, Parts.emits_lost, and_self, and_true, true_and, implies_true, forall_const, hP]

@[simp] theorem checkerCycleEnd_outside {P : Parts} (s : State) (m : Nat) (hP : P.emits ∧ P.bank = true ∧ (∀ n, P.regs (Reg.BANK_CYCLE_T n)) ∧ P.chk = true ∧ (∀ n, P.regs (Reg.BANK_M n)) ∧ P.eff = true ∧ (∀ n, P.regs (Reg.BANK_S n)) ∧ P.fab = true ∧ (∀ n, P.regs (Reg.BANK_STAT n)) ∧ P.fresh = true ∧ (∀ n m, P.regs (Reg.CHK_CH_STAT n m)) ∧ P.mode = true ∧ P.regs Reg.FAB_DROP ∧ P.out = true ∧ (∀ n, P.regs (Reg.FP_UTIL n)) ∧ P.port = true ∧ P.regs Reg.HIF_CMD_STAT ∧ P.rate = true ∧ P.regs Reg.MODE_STAT ∧ P.smon = true ∧ P.regs Reg.PACER_STAT ∧ P.trust = true ∧ P.regs Reg.SAF_CAUSE ∧ P.regs Reg.SAF_CAUSE_S ∧ P.regs Reg.SAF_CNT ∧ P.regs Reg.SAF_DTB ∧ P.regs Reg.SAF_STAT ∧ P.regs Reg.SAF_VER0 ∧ P.regs Reg.SAF_VER1 ∧ P.regs Reg.SAF_W) :
    (checkerCycleEnd s m).outside P = s.outside P := by
  unfold checkerCycleEnd
  simp only [State.cycleEnd_outside, State.finishCalibration_outside, State.setReg_outside, State.push_outside, State.outside_ite, State.outside_bif, State.foldl_outside, State.foldl_outside_snd, State.foldl_outside_fst, ite_self, Bool.cond_self, Parts.emits_recs, Parts.emits_classLost, Parts.emits_host, Parts.emits_lost, and_self, and_true, true_and, implies_true, forall_const, hP]
  repeat' (first | rfl | (split <;> try simp only [State.cycleEnd_outside, State.finishCalibration_outside, State.setReg_outside, State.push_outside, State.outside_ite, State.outside_bif, State.foldl_outside, State.foldl_outside_snd, State.foldl_outside_fst, ite_self, Bool.cond_self, Parts.emits_recs, Parts.emits_classLost, Parts.emits_host, Parts.emits_lost, and_self, and_true, true_and, implies_true, forall_const, hP]))

@[simp] theorem State.storeWorking_outside {P : Parts} (s : State) (ch gain : Nat) (w : List Word) (hP : P.cal = true ∧ P.regs Reg.CAL_STAT ∧ P.chk = true ∧ P.eff = true) :
    (State.storeWorking s ch gain w).outside P = s.outside P := by
  unfold State.storeWorking
  simp only [State.setChk_outside, State.setCal_outside, State.countPending_outside, State.outside_eff, State.setReg_outside, State.push_outside, State.outside_ite, State.outside_bif, State.foldl_outside, State.foldl_outside_snd, State.foldl_outside_fst, ite_self, Bool.cond_self, Parts.emits_recs, Parts.emits_classLost, Parts.emits_host, Parts.emits_lost, and_self, and_true, true_and, implies_true, forall_const, hP]

@[simp] theorem State.applyWorking_outside {P : Parts} (s : State) (ch gain k : Nat) (w : List Word) (hP : P.emits ∧ P.cal = true ∧ P.regs Reg.CAL_STAT ∧ P.chk = true ∧ P.regs Reg.FAB_DROP ∧ P.eff = true ∧ (∀ n, P.regs (Reg.FP_UTIL n)) ∧ P.fab = true ∧ P.regs Reg.HIF_CMD_STAT ∧ P.fresh = true ∧ P.regs Reg.MODE_STAT ∧ P.mode = true ∧ P.regs Reg.PACER_STAT ∧ P.out = true ∧ (∀ n, P.regs (Reg.PCH_CONV_STAT n)) ∧ P.pch = true ∧ (∀ n, P.regs (Reg.PCH_PLAUS_EFF n)) ∧ P.port = true ∧ (∀ n, P.regs (Reg.PCH_STAT n)) ∧ P.rate = true ∧ P.regs Reg.SAF_CAUSE ∧ P.res = true ∧ P.regs Reg.SAF_CAUSE_S ∧ P.smon = true ∧ P.regs Reg.SAF_CNT ∧ P.trust = true ∧ P.regs Reg.SAF_STAT ∧ P.regs Reg.SAF_VER0 ∧ P.regs Reg.SAF_VER1 ∧ P.regs Reg.SAF_W) :
    (State.applyWorking s ch gain k w).outside P = s.outside P := by
  unfold State.applyWorking
  simp only [State.setPch_outside, State.changeAt_outside, State.storeWorking_outside, State.setReg_outside, State.push_outside, State.outside_ite, State.outside_bif, State.foldl_outside, State.foldl_outside_snd, State.foldl_outside_fst, ite_self, Bool.cond_self, Parts.emits_recs, Parts.emits_classLost, Parts.emits_host, Parts.emits_lost, and_self, and_true, true_and, implies_true, forall_const, hP]

@[simp] theorem State.applyDue_outside {P : Parts} (s : State) (ch k : Nat) (hP : P.emits ∧ P.cal = true ∧ P.regs Reg.CAL_STAT ∧ P.chk = true ∧ P.regs Reg.FAB_DROP ∧ P.eff = true ∧ (∀ n, P.regs (Reg.FP_UTIL n)) ∧ P.fab = true ∧ P.regs Reg.HIF_CMD_STAT ∧ P.fresh = true ∧ P.regs Reg.MODE_STAT ∧ P.mode = true ∧ P.regs Reg.PACER_STAT ∧ P.out = true ∧ (∀ n, P.regs (Reg.PCH_CONV_STAT n)) ∧ P.pch = true ∧ (∀ n, P.regs (Reg.PCH_PLAUS_EFF n)) ∧ P.port = true ∧ (∀ n, P.regs (Reg.PCH_STAT n)) ∧ P.rate = true ∧ P.regs Reg.SAF_CAUSE ∧ P.res = true ∧ P.regs Reg.SAF_CAUSE_S ∧ P.smon = true ∧ P.regs Reg.SAF_CNT ∧ P.trust = true ∧ P.regs Reg.SAF_STAT ∧ P.regs Reg.SAF_VER0 ∧ P.regs Reg.SAF_VER1 ∧ P.regs Reg.SAF_W) :
    (State.applyDue s ch k).outside P = s.outside P := by
  unfold State.applyDue
  repeat' split
  all_goals first | rfl | simp only [State.setChk_outside, State.applyWorking_outside, State.setReg_outside, State.push_outside, State.outside_ite, State.outside_bif, State.foldl_outside, State.foldl_outside_snd, State.foldl_outside_fst, ite_self, Bool.cond_self, Parts.emits_recs, Parts.emits_classLost, Parts.emits_host, Parts.emits_lost, and_self, and_true, true_and, implies_true, forall_const, hP]

@[simp] theorem calApplied_outside {P : Parts} (s : State) (m : Nat) (hP : P.emits ∧ P.bank = true ∧ P.regs Reg.CAL_STAT ∧ P.cal = true ∧ P.regs Reg.FAB_DROP ∧ P.chk = true ∧ (∀ n, P.regs (Reg.FP_UTIL n)) ∧ P.eff = true ∧ P.regs Reg.HIF_CMD_STAT ∧ P.fab = true ∧ P.regs Reg.MODE_STAT ∧ P.fresh = true ∧ P.regs Reg.PACER_STAT ∧ P.mode = true ∧ (∀ n, P.regs (Reg.PCH_CONV_STAT n)) ∧ P.out = true ∧ (∀ n, P.regs (Reg.PCH_PLAUS_EFF n)) ∧ P.pch = true ∧ (∀ n, P.regs (Reg.PCH_STAT n)) ∧ P.port = true ∧ P.regs Reg.SAF_CAUSE ∧ P.rate = true ∧ P.regs Reg.SAF_CAUSE_S ∧ P.res = true ∧ P.regs Reg.SAF_CNT ∧ P.smon = true ∧ P.regs Reg.SAF_STAT ∧ P.trust = true ∧ P.regs Reg.SAF_VER0 ∧ P.regs Reg.SAF_VER1 ∧ P.regs Reg.SAF_W) :
    (calApplied s m).outside P = s.outside P := by
  unfold calApplied
  simp only [State.emit_outside, State.setBank_outside, State.setChk_outside, State.showMeas_outside, State.storeWorking_outside, State.applyWorking_outside, State.setReg_outside, State.push_outside, State.outside_ite, State.outside_bif, State.foldl_outside, State.foldl_outside_snd, State.foldl_outside_fst, ite_self, Bool.cond_self, Parts.emits_recs, Parts.emits_classLost, Parts.emits_host, Parts.emits_lost, and_self, and_true, true_and, implies_true, forall_const, hP]
  repeat' (first | rfl | (split <;> try simp only [State.emit_outside, State.setBank_outside, State.setChk_outside, State.showMeas_outside, State.storeWorking_outside, State.applyWorking_outside, State.setReg_outside, State.push_outside, State.outside_ite, State.outside_bif, State.foldl_outside, State.foldl_outside_snd, State.foldl_outside_fst, ite_self, Bool.cond_self, Parts.emits_recs, Parts.emits_classLost, Parts.emits_host, Parts.emits_lost, and_self, and_true, true_and, implies_true, forall_const, hP]))

@[simp] theorem State.requestCommit_outside {P : Parts} (s : State) (src : CmdSrc) (tag : Nat) (hP : P.commit = true ∧ P.regs Reg.CAL_STAT ∧ P.fab = true ∧ P.regs Reg.FAB_DROP ∧ P.fresh = true ∧ (∀ n, P.regs (Reg.FP_UTIL n)) ∧ P.host = true ∧ P.regs Reg.HIF_CMD_STAT ∧ P.out = true ∧ P.port = true) :
    (State.requestCommit s src tag).outside P = s.outside P := by
  unfold State.requestCommit
  simp only [State.raise_outside, State.settle_outside, State.accept_outside, State.outside_commit, State.setReg_outside, State.push_outside, State.outside_ite, State.outside_bif, State.foldl_outside, State.foldl_outside_snd, State.foldl_outside_fst, ite_self, Bool.cond_self, Parts.emits_recs, Parts.emits_classLost, Parts.emits_host, Parts.emits_lost, and_self, and_true, true_and, implies_true, forall_const, hP]

@[simp] theorem State.writeCalset_outside {P : Parts} (s : State) (slot : Nat) (sec : List (BitVec 8)) (es : List (Nat × List Word)) (hP : P.out = true) :
    (State.writeCalset s slot sec es).outside P = s.outside P := by
  unfold State.writeCalset
  simp only [State.put_outside, State.setReg_outside, State.push_outside, State.outside_ite, State.outside_bif, State.foldl_outside, State.foldl_outside_snd, State.foldl_outside_fst, ite_self, Bool.cond_self, Parts.emits_recs, Parts.emits_classLost, Parts.emits_host, Parts.emits_lost, and_self, and_true, true_and, implies_true, forall_const, hP]

@[simp] theorem calCommitDone_outside {P : Parts} (s : State) (e : CommitEnd) (hP : P.emits ∧ P.bootu = true ∧ P.regs Reg.CAL_STAT ∧ P.cal = true ∧ P.regs Reg.FAB_DROP ∧ P.commit = true ∧ (∀ n, P.regs (Reg.FP_UTIL n)) ∧ P.fab = true ∧ P.regs Reg.HIF_CMD_STAT ∧ P.fresh = true ∧ P.out = true ∧ P.port = true) :
    (calCommitDone s e).outside P = s.outside P := by
  unfold calCommitDone
  repeat' split
  all_goals first | rfl | simp only [State.clear_outside, State.emit_outside, State.setCal_outside, State.countPending_outside, State.setCalset_outside, State.settle_outside, State.writeCalset_outside, State.outside_commit, State.setReg_outside, State.push_outside, State.outside_ite, State.outside_bif, State.foldl_outside, State.foldl_outside_snd, State.foldl_outside_fst, ite_self, Bool.cond_self, Parts.emits_recs, Parts.emits_classLost, Parts.emits_host, Parts.emits_lost, and_self, and_true, true_and, implies_true, forall_const, hP]

@[simp] theorem State.leaveServiceCal_outside {P : Parts} (s : State) (hP : P.emits) :
    (State.leaveServiceCal s).outside P = s.outside P := by
  unfold State.leaveServiceCal
  simp only [State.emit_outside, State.setReg_outside, State.push_outside, State.outside_ite, State.outside_bif, State.foldl_outside, State.foldl_outside_snd, State.foldl_outside_fst, ite_self, Bool.cond_self, Parts.emits_recs, Parts.emits_classLost, Parts.emits_host, Parts.emits_lost, and_self, and_true, true_and, implies_true, forall_const, hP]

end Sys2Proof.Machine
end

