-- ==== Sys2Proof/Laws/FrameFilters.lean ====
section
/-!
SUPPORT. What the operations of Machine/Filters.lean write: each leaves every part of the state as it is but those its hypothesis names.
-/

set_option Elab.async false
set_option linter.unusedSimpArgs false
namespace Sys2Proof.Machine

@[simp] theorem State.trackMains_outside {P : Parts} (s : State) (n : Nat) (y : Int) (kc : Nat) (hP : P.emits ∧ P.pch = true ∧ (∀ n, P.regs (Reg.PCH_MAINS_PER n))) :
    (State.trackMains s n y kc).outside P = s.outside P := by
  unfold State.trackMains
  simp only [State.setFld_outside, State.raise_outside, State.setPch_outside, State.emit_outside, State.setReg_outside, State.push_outside, State.outside_ite, State.outside_bif, State.foldl_outside, State.foldl_outside_snd, State.foldl_outside_fst, ite_self, Bool.cond_self, Parts.emits_recs, Parts.emits_classLost, Parts.emits_host, Parts.emits_lost, and_self, and_true, true_and, implies_true, forall_const, hP]
  repeat' (first | rfl | (split <;> try simp only [State.setFld_outside, State.raise_outside, State.setPch_outside, State.emit_outside, State.setReg_outside, State.push_outside, State.outside_ite, State.outside_bif, State.foldl_outside, State.foldl_outside_snd, State.foldl_outside_fst, ite_self, Bool.cond_self, Parts.emits_recs, Parts.emits_classLost, Parts.emits_host, Parts.emits_lost, and_self, and_true, true_and, implies_true, forall_const, hP]))

@[simp] theorem State.dropMains_outside {P : Parts} (s : State) (n : Nat) (hP : P.emits ∧ P.pch = true ∧ (∀ n, P.regs (Reg.PCH_MAINS_PER n))) :
    (State.dropMains s n).outside P = s.outside P := by
  unfold State.dropMains
  simp only [State.clear_outside, State.setPch_outside, State.emit_outside, State.setReg_outside, State.push_outside, State.outside_ite, State.outside_bif, State.foldl_outside, State.foldl_outside_snd, State.foldl_outside_fst, ite_self, Bool.cond_self, Parts.emits_recs, Parts.emits_classLost, Parts.emits_host, Parts.emits_lost, and_self, and_true, true_and, implies_true, forall_const, hP]

@[simp] theorem mainsLost_outside {P : Parts} (s : State) (n : Nat) (hP : P.emits ∧ P.pch = true ∧ (∀ n, P.regs (Reg.PCH_MAINS_PER n))) :
    (mainsLost s n).outside P = s.outside P := by
  unfold mainsLost
  simp only [State.dropMains_outside, State.setReg_outside, State.push_outside, State.outside_ite, State.outside_bif, State.foldl_outside, State.foldl_outside_snd, State.foldl_outside_fst, ite_self, Bool.cond_self, Parts.emits_recs, Parts.emits_classLost, Parts.emits_host, Parts.emits_lost, and_self, and_true, true_and, implies_true, forall_const, hP]

@[simp] theorem pchMtrkWrite_outside {P : Parts} (s : State) (n : Nat) (v : Word) (hP : P.emits ∧ P.fresh = true ∧ P.regs Reg.DEV_ABSENT_ADDR ∧ P.late = true ∧ P.regs Reg.DEV_ABSENT_WR ∧ P.pch = true ∧ (∀ n, P.regs (Reg.PCH_MAINS_PER n)) ∧ (∀ n, P.regs (Reg.PCH_MTRK n))) :
    (pchMtrkWrite s n v).outside P = s.outside P := by
  unfold pchMtrkWrite
  simp only [State.writeBits_outside, State.setPch_outside, State.writeAbsent_outside, State.dropMains_outside, State.setReg_outside, State.push_outside, State.outside_ite, State.outside_bif, State.foldl_outside, State.foldl_outside_snd, State.foldl_outside_fst, ite_self, Bool.cond_self, Parts.emits_recs, Parts.emits_classLost, Parts.emits_host, Parts.emits_lost, and_self, and_true, true_and, implies_true, forall_const, hP]

@[simp] theorem State.deliverOut_outside {P : Parts} (s : State) (n src idx period : Nat) (v : OutVal) (fill : Field) (hP : P.emits ∧ P.fab = true ∧ P.regs Reg.FAB_DROP ∧ P.fresh = true ∧ (∀ n, P.regs (Reg.FP_UTIL n)) ∧ P.mode = true ∧ P.regs Reg.HIF_CMD_STAT ∧ P.nodes = true ∧ P.regs Reg.MODE_STAT ∧ P.out = true ∧ P.regs Reg.PACER_STAT ∧ P.pch = true ∧ (∀ n, P.regs (Reg.PCH_FLT_STAT n)) ∧ P.port = true ∧ (∀ n, P.regs (Reg.RES_OVCNT n)) ∧ P.rate = true ∧ P.regs Reg.SAF_CAUSE ∧ P.res = true ∧ P.regs Reg.SAF_CAUSE_S ∧ P.smon = true ∧ P.regs Reg.SAF_CNT ∧ P.streams = true ∧ P.regs Reg.SAF_STAT ∧ P.trust = true ∧ P.regs Reg.SAF_VER0 ∧ P.regs Reg.SAF_VER1 ∧ P.regs Reg.SAF_W ∧ P.regs Reg.STR_STAGE ∧ P.regs Reg.STR_STAT) :
    (State.deliverOut s n src idx period v fill).outside P = s.outside P := by
  unfold State.deliverOut
  simp only [State.raise_outside, State.clear_outside, State.setPch_outside, State.deliver_outside, State.verifyP_outside, State.setTrustPoison_outside, State.newResult_outside, State.setReg_outside, State.push_outside, State.outside_ite, State.outside_bif, State.foldl_outside, State.foldl_outside_snd, State.foldl_outside_fst, ite_self, Bool.cond_self, Parts.emits_recs, Parts.emits_classLost, Parts.emits_host, Parts.emits_lost, and_self, and_true, true_and, implies_true, forall_const, hP]

@[simp] theorem monitorOutput_outside {P : Parts} (s : State) (n : Nat) (hP : P.emits ∧ P.fab = true ∧ P.regs Reg.FAB_DROP ∧ P.fresh = true ∧ (∀ n, P.regs (Reg.FP_UTIL n)) ∧ P.mode = true ∧ P.regs Reg.HIF_CMD_STAT ∧ P.nodes = true ∧ P.regs Reg.MODE_STAT ∧ P.out = true ∧ P.regs Reg.PACER_STAT ∧ P.pch = true ∧ (∀ n, P.regs (Reg.PCH_FLT_STAT n)) ∧ P.port = true ∧ (∀ n, P.regs (Reg.PCH_MAINS_PER n)) ∧ P.rate = true ∧ (∀ n, P.regs (Reg.RES_OVCNT n)) ∧ P.res = true ∧ P.regs Reg.SAF_CAUSE ∧ P.smon = true ∧ P.regs Reg.SAF_CAUSE_S ∧ P.streams = true ∧ P.regs Reg.SAF_CNT ∧ P.trust = true ∧ P.regs Reg.SAF_STAT ∧ P.regs Reg.SAF_VER0 ∧ P.regs Reg.SAF_VER1 ∧ P.regs Reg.SAF_W ∧ P.regs Reg.STR_STAGE ∧ P.regs Reg.STR_STAT) :
    (monitorOutput s n).outside P = s.outside P := by
  unfold monitorOutput
  simp only [State.setPch_outside, State.trackMains_outside, State.deliverOut_outside, State.setReg_outside, State.push_outside, State.outside_ite, State.outside_bif, State.foldl_outside, State.foldl_outside_snd, State.foldl_outside_fst, ite_self, Bool.cond_self, Parts.emits_recs, Parts.emits_classLost, Parts.emits_host, Parts.emits_lost, and_self, and_true, true_and, implies_true, forall_const, hP]
  repeat' (first | rfl | (split <;> try simp only [State.setPch_outside, State.trackMains_outside, State.deliverOut_outside, State.setReg_outside, State.push_outside, State.outside_ite, State.outside_bif, State.foldl_outside, State.foldl_outside_snd, State.foldl_outside_fst, ite_self, Bool.cond_self, Parts.emits_recs, Parts.emits_classLost, Parts.emits_host, Parts.emits_lost, and_self, and_true, true_and, implies_true, forall_const, hP]))

@[simp] theorem State.noteFallback_outside {P : Parts} (s : State) (n : Nat) (tracked : Bool) (hP : (∀ n, P.regs (Reg.PCH_FLT_STAT n))) :
    (State.noteFallback s n tracked).outside P = s.outside P := by
  unfold State.noteFallback
  simp only [State.setLive_outside, State.setReg_outside, State.push_outside, State.outside_ite, State.outside_bif, State.foldl_outside, State.foldl_outside_snd, State.foldl_outside_fst, ite_self, Bool.cond_self, Parts.emits_recs, Parts.emits_classLost, Parts.emits_host, Parts.emits_lost, and_self, and_true, true_and, implies_true, forall_const, hP]

@[simp] theorem State.firstWindow_outside {P : Parts} (s : State) (n k : Nat) (hP : (∀ n, P.regs (Reg.PCH_FLT_STAT n))) :
    (State.firstWindow s n k).2.outside P = s.outside P := by
  unfold State.firstWindow
  simp only [State.noteFallback_outside, State.setReg_outside, State.push_outside, State.outside_ite, State.outside_bif, State.foldl_outside, State.foldl_outside_snd, State.foldl_outside_fst, ite_self, Bool.cond_self, Parts.emits_recs, Parts.emits_classLost, Parts.emits_host, Parts.emits_lost, and_self, and_true, true_and, implies_true, forall_const, hP]

@[simp] theorem State.staticAdd_outside {P : Parts} (s : State) (n : Nat) (x : Sample) (hP : P.pch = true ∧ (∀ n, P.regs (Reg.PCH_FLT_STAT n))) :
    (State.staticAdd s n x).outside P = s.outside P := by
  unfold State.staticAdd
  repeat' split
  all_goals first | rfl | simp only [State.setPch_outside, State.firstWindow_outside, State.setReg_outside, State.push_outside, State.outside_ite, State.outside_bif, State.foldl_outside, State.foldl_outside_snd, State.foldl_outside_fst, ite_self, Bool.cond_self, Parts.emits_recs, Parts.emits_classLost, Parts.emits_host, Parts.emits_lost, and_self, and_true, true_and, implies_true, forall_const, hP]

@[simp] theorem staticOutput_outside {P : Parts} (s : State) (n : Nat) (hP : P.emits ∧ P.fab = true ∧ P.regs Reg.FAB_DROP ∧ P.fresh = true ∧ (∀ n, P.regs (Reg.FP_UTIL n)) ∧ P.mode = true ∧ P.regs Reg.HIF_CMD_STAT ∧ P.nodes = true ∧ P.regs Reg.MODE_STAT ∧ P.out = true ∧ P.regs Reg.PACER_STAT ∧ P.pch = true ∧ (∀ n, P.regs (Reg.PCH_FLT_STAT n)) ∧ P.port = true ∧ (∀ n, P.regs (Reg.PCH_STATIC_LAST n)) ∧ P.rate = true ∧ (∀ n, P.regs (Reg.RES_OVCNT n)) ∧ P.res = true ∧ P.regs Reg.SAF_CAUSE ∧ P.smon = true ∧ P.regs Reg.SAF_CAUSE_S ∧ P.streams = true ∧ P.regs Reg.SAF_CNT ∧ P.trust = true ∧ P.regs Reg.SAF_STAT ∧ P.regs Reg.SAF_VER0 ∧ P.regs Reg.SAF_VER1 ∧ P.regs Reg.SAF_W ∧ P.regs Reg.STR_STAGE ∧ P.regs Reg.STR_STAT) :
    (staticOutput s n).outside P = s.outside P := by
  unfold staticOutput
  simp only [State.setFld_outside, State.setPch_outside, State.deliverOut_outside, State.noteFallback_outside, State.setReg_outside, State.push_outside, State.outside_ite, State.outside_bif, State.foldl_outside, State.foldl_outside_snd, State.foldl_outside_fst, ite_self, Bool.cond_self, Parts.emits_recs, Parts.emits_classLost, Parts.emits_host, Parts.emits_lost, and_self, and_true, true_and, implies_true, forall_const, hP]
  repeat' (first | rfl | (split <;> try simp only [State.setFld_outside, State.setPch_outside, State.deliverOut_outside, State.noteFallback_outside, State.setReg_outside, State.push_outside, State.outside_ite, State.outside_bif, State.foldl_outside, State.foldl_outside_snd, State.foldl_outside_fst, ite_self, Bool.cond_self, Parts.emits_recs, Parts.emits_classLost, Parts.emits_host, Parts.emits_lost, and_self, and_true, true_and, implies_true, forall_const, hP]))

@[simp] theorem State.seisAdd_outside {P : Parts} (s : State) (n : Nat) (x : Sample) (hP : P.pch = true) :
    (State.seisAdd s n x).outside P = s.outside P := by
  unfold State.seisAdd
  simp only [State.setPch_outside, State.setReg_outside, State.push_outside, State.outside_ite, State.outside_bif, State.foldl_outside, State.foldl_outside_snd, State.foldl_outside_fst, ite_self, Bool.cond_self, Parts.emits_recs, Parts.emits_classLost, Parts.emits_host, Parts.emits_lost, and_self, and_true, true_and, implies_true, forall_const, hP]

@[simp] theorem seismicOutput_outside {P : Parts} (s : State) (n : Nat) (hP : P.emits ∧ P.fab = true ∧ P.regs Reg.FAB_DROP ∧ P.fresh = true ∧ (∀ n, P.regs (Reg.FP_UTIL n)) ∧ P.mode = true ∧ P.regs Reg.HIF_CMD_STAT ∧ P.nodes = true ∧ P.regs Reg.MODE_STAT ∧ P.out = true ∧ P.regs Reg.PACER_STAT ∧ P.pch = true ∧ (∀ n, P.regs (Reg.PCH_FLT_STAT n)) ∧ P.port = true ∧ (∀ n, P.regs (Reg.RES_OVCNT n)) ∧ P.rate = true ∧ P.regs Reg.SAF_CAUSE ∧ P.res = true ∧ P.regs Reg.SAF_CAUSE_S ∧ P.smon = true ∧ P.regs Reg.SAF_CNT ∧ P.streams = true ∧ P.regs Reg.SAF_STAT ∧ P.trust = true ∧ P.regs Reg.SAF_VER0 ∧ P.regs Reg.SAF_VER1 ∧ P.regs Reg.SAF_W ∧ P.regs Reg.STR_STAGE ∧ P.regs Reg.STR_STAT) :
    (seismicOutput s n).outside P = s.outside P := by
  unfold seismicOutput
  simp only [State.setPch_outside, State.deliverOut_outside, State.setReg_outside, State.push_outside, State.outside_ite, State.outside_bif, State.foldl_outside, State.foldl_outside_snd, State.foldl_outside_fst, ite_self, Bool.cond_self, Parts.emits_recs, Parts.emits_classLost, Parts.emits_host, Parts.emits_lost, and_self, and_true, true_and, implies_true, forall_const, hP]
  repeat' (first | rfl | (split <;> try simp only [State.setPch_outside, State.deliverOut_outside, State.setReg_outside, State.push_outside, State.outside_ite, State.outside_bif, State.foldl_outside, State.foldl_outside_snd, State.foldl_outside_fst, ite_self, Bool.cond_self, Parts.emits_recs, Parts.emits_classLost, Parts.emits_host, Parts.emits_lost, and_self, and_true, true_and, implies_true, forall_const, hP]))

@[simp] theorem State.restartChain_outside {P : Parts} (s : State) (n out cause : Nat) (hP : P.emits ∧ P.nodes = true ∧ (∀ n, P.regs (Reg.PCH_FLT_STAT n)) ∧ P.pch = true ∧ P.regs Reg.STR_STAT ∧ P.res = true ∧ P.streams = true) :
    (State.restartChain s n out cause).outside P = s.outside P := by
  unfold State.restartChain
  simp only [State.raise_outside, State.setPch_outside, State.emit_outside, State.discard_outside, State.discontinue_outside, State.restartRes_outside, State.setReg_outside, State.push_outside, State.outside_ite, State.outside_bif, State.foldl_outside, State.foldl_outside_snd, State.foldl_outside_fst, ite_self, Bool.cond_self, Parts.emits_recs, Parts.emits_classLost, Parts.emits_host, Parts.emits_lost, and_self, and_true, true_and, implies_true, forall_const, hP]

@[simp] theorem State.restartAllChains_outside {P : Parts} (s : State) (cause : Nat) (hP : P.emits ∧ P.nodes = true ∧ (∀ n, P.regs (Reg.PCH_FLT_STAT n)) ∧ P.pch = true ∧ P.regs Reg.STR_STAT ∧ P.res = true ∧ P.streams = true) :
    (State.restartAllChains s cause).outside P = s.outside P := by
  unfold State.restartAllChains
  simp only [State.restartChain_outside, State.setReg_outside, State.push_outside, State.outside_ite, State.outside_bif, State.foldl_outside, State.foldl_outside_snd, State.foldl_outside_fst, ite_self, Bool.cond_self, Parts.emits_recs, Parts.emits_classLost, Parts.emits_host, Parts.emits_lost, and_self, and_true, true_and, implies_true, forall_const, hP]

@[simp] theorem pchStaticCfgWrite_outside {P : Parts} (s : State) (n : Nat) (v : Word) (hP : P.emits ∧ P.fresh = true ∧ P.regs Reg.DEV_ABSENT_ADDR ∧ P.late = true ∧ P.regs Reg.DEV_ABSENT_WR ∧ P.nodes = true ∧ (∀ n, P.regs (Reg.PCH_FLT_STAT n)) ∧ P.pch = true ∧ (∀ n, P.regs (Reg.PCH_STAT n)) ∧ P.res = true ∧ (∀ n, P.regs (Reg.PCH_STATIC_CFG n)) ∧ P.streams = true ∧ P.regs Reg.STR_STAT) :
    (pchStaticCfgWrite s n v).outside P = s.outside P := by
  unfold pchStaticCfgWrite
  simp only [State.writeJudged_outside, State.writeAbsent_outside, State.restartChain_outside, State.setReg_outside, State.push_outside, State.outside_ite, State.outside_bif, State.foldl_outside, State.foldl_outside_snd, State.foldl_outside_fst, ite_self, Bool.cond_self, Parts.emits_recs, Parts.emits_classLost, Parts.emits_host, Parts.emits_lost, and_self, and_true, true_and, implies_true, forall_const, hP]

@[simp] theorem pchStaticTimeWrite_outside {P : Parts} (s : State) (n : Nat) (v : Word) (hP : P.emits ∧ P.nodes = true ∧ P.regs Reg.DEV_ABSENT_ADDR ∧ P.pch = true ∧ P.regs Reg.DEV_ABSENT_WR ∧ P.res = true ∧ (∀ n, P.regs (Reg.PCH_FLT_STAT n)) ∧ P.streams = true ∧ (∀ n, P.regs (Reg.PCH_STAT n)) ∧ (∀ n, P.regs (Reg.PCH_STATIC_TIME n)) ∧ P.regs Reg.STR_STAT) :
    (pchStaticTimeWrite s n v).outside P = s.outside P := by
  unfold pchStaticTimeWrite
  simp only [State.setFld_outside, State.raise_outside, State.writeAbsent_outside, State.restartChain_outside, State.setReg_outside, State.push_outside, State.outside_ite, State.outside_bif, State.foldl_outside, State.foldl_outside_snd, State.foldl_outside_fst, ite_self, Bool.cond_self, Parts.emits_recs, Parts.emits_classLost, Parts.emits_host, Parts.emits_lost, and_self, and_true, true_and, implies_true, forall_const, hP]

@[simp] theorem pchSeisCfgWrite_outside {P : Parts} (s : State) (n : Nat) (v : Word) (hP : P.emits ∧ P.nodes = true ∧ P.regs Reg.DEV_ABSENT_ADDR ∧ P.pch = true ∧ P.regs Reg.DEV_ABSENT_WR ∧ P.res = true ∧ (∀ n, P.regs (Reg.PCH_FLT_STAT n)) ∧ P.streams = true ∧ (∀ n, P.regs (Reg.PCH_SEIS_CFG n)) ∧ (∀ n, P.regs (Reg.PCH_SEIS_DELAY n)) ∧ (∀ n, P.regs (Reg.PCH_STAT n)) ∧ P.regs Reg.STR_STAT) :
    (pchSeisCfgWrite s n v).outside P = s.outside P := by
  unfold pchSeisCfgWrite
  simp only [State.setFld_outside, State.raise_outside, State.writeAbsent_outside, State.restartChain_outside, State.setReg_outside, State.push_outside, State.outside_ite, State.outside_bif, State.foldl_outside, State.foldl_outside_snd, State.foldl_outside_fst, ite_self, Bool.cond_self, Parts.emits_recs, Parts.emits_classLost, Parts.emits_host, Parts.emits_lost, and_self, and_true, true_and, implies_true, forall_const, hP]

end Sys2Proof.Machine
end

