-- ==== Sys2Proof/Laws/FrameBase.lean ====
section
/-!
SUPPORT. What the operations of Machine/Base.lean write: each leaves every part of the state as it is but those its hypothesis names.
-/

set_option Elab.async false
set_option linter.unusedSimpArgs false
namespace Sys2Proof.Machine

@[simp] theorem State.rawOf_outside {P : Parts} (s : State) (raws : List RawSample) (n : Nat) (hP : P.fresh = true) :
    (State.rawOf s raws n).2.outside P = s.outside P := by
  unfold State.rawOf
  repeat' split
  all_goals first | rfl | simp only [State.freeNat_outside, State.setReg_outside, State.push_outside, State.outside_ite, State.outside_bif, State.foldl_outside, State.foldl_outside_snd, State.foldl_outside_fst, ite_self, Bool.cond_self, Parts.emits_recs, Parts.emits_classLost, Parts.emits_host, Parts.emits_lost, and_self, and_true, true_and, implies_true, forall_const, hP]

@[simp] theorem State.baseChannel_outside {P : Parts} (s : State) (raws : List RawSample) (k n : Nat) (hP : P.emits ∧ P.bank = true ∧ P.regs Reg.CAL_STAT ∧ P.cal = true ∧ P.regs Reg.FAB_DROP ∧ P.chk = true ∧ (∀ n, P.regs (Reg.FP_UTIL n)) ∧ P.eff = true ∧ P.regs Reg.HIF_CMD_STAT ∧ P.fab = true ∧ P.regs Reg.MODE_STAT ∧ P.fresh = true ∧ P.regs Reg.PACER_STAT ∧ P.mode = true ∧ (∀ n, P.regs (Reg.PCH_CONV_STAT n)) ∧ P.out = true ∧ (∀ n, P.regs (Reg.PCH_FLT_STAT n)) ∧ P.pch = true ∧ (∀ n, P.regs (Reg.PCH_FUS_CNT n)) ∧ P.port = true ∧ (∀ n, P.regs (Reg.PCH_OVR_CNT n)) ∧ P.rate = true ∧ (∀ n, P.regs (Reg.PCH_PLAUS_EFF n)) ∧ P.res = true ∧ (∀ n, P.regs (Reg.PCH_PLAUS_TH n)) ∧ P.smon = true ∧ (∀ n, P.regs (Reg.PCH_STAT n)) ∧ P.streams = true ∧ P.regs Reg.SAF_CAUSE ∧ P.trust = true ∧ P.regs Reg.SAF_CAUSE_S ∧ P.regs Reg.SAF_CNT ∧ P.regs Reg.SAF_STAT ∧ P.regs Reg.SAF_VER0 ∧ P.regs Reg.SAF_VER1 ∧ P.regs Reg.SAF_W ∧ P.regs Reg.STR_STAT) :
    (State.baseChannel s raws k n).outside P = s.outside P := by
  unfold State.baseChannel
  simp only [State.setPch_outside, fuseChannel_outside, State.staticAdd_outside, State.seisAdd_outside, State.feedChecker_outside, State.applyDue_outside, State.rawOf_outside, State.setReg_outside, State.push_outside, State.outside_ite, State.outside_bif, State.foldl_outside, State.foldl_outside_snd, State.foldl_outside_fst, ite_self, Bool.cond_self, Parts.emits_recs, Parts.emits_classLost, Parts.emits_host, Parts.emits_lost, and_self, and_true, true_and, implies_true, forall_const, hP]
  repeat' (first | rfl | (split <;> try simp only [State.setPch_outside, fuseChannel_outside, State.staticAdd_outside, State.seisAdd_outside, State.feedChecker_outside, State.applyDue_outside, State.rawOf_outside, State.setReg_outside, State.push_outside, State.outside_ite, State.outside_bif, State.foldl_outside, State.foldl_outside_snd, State.foldl_outside_fst, ite_self, Bool.cond_self, Parts.emits_recs, Parts.emits_classLost, Parts.emits_host, Parts.emits_lost, and_self, and_true, true_and, implies_true, forall_const, hP]))

end Sys2Proof.Machine
end

