-- ==== Sys2Proof/Laws/FrameClocks.lean ====
section
/-!
SUPPORT. What the operations of Machine/Clocks.lean write: each leaves every part of the state as it is but those its hypothesis names.
-/

set_option Elab.async false
set_option linter.unusedSimpArgs false
namespace Sys2Proof.Machine

@[simp] theorem State.showSource_outside {P : Parts} (s : State) (hP : P.regs Reg.CLK_READY ∧ P.regs Reg.FAB_STAT ∧ (∀ n, P.regs (Reg.FP_STAT n))) :
    (State.showSource s).outside P = s.outside P := by
  unfold State.showSource
  simp only [State.setFld_outside, State.setBit_outside, State.setReg_outside, State.push_outside, State.outside_ite, State.outside_bif, State.foldl_outside, State.foldl_outside_snd, State.foldl_outside_fst, ite_self, Bool.cond_self, Parts.emits_recs, Parts.emits_classLost, Parts.emits_host, Parts.emits_lost, and_self, and_true, true_and, implies_true, forall_const, hP]

@[simp] theorem State.beginHoldover_outside {P : Parts} (s : State) (hP : P.clk = true ∧ P.regs Reg.CLK_HOLD_CNT ∧ P.regs Reg.CLK_STAT) :
    (State.beginHoldover s).outside P = s.outside P := by
  unfold State.beginHoldover
  simp only [State.clear_outside, State.setLive_outside, State.count_outside, State.outside_clk, State.setReg_outside, State.push_outside, State.outside_ite, State.outside_bif, State.foldl_outside, State.foldl_outside_snd, State.foldl_outside_fst, ite_self, Bool.cond_self, Parts.emits_recs, Parts.emits_classLost, Parts.emits_host, Parts.emits_lost, and_self, and_true, true_and, implies_true, forall_const, hP]

@[simp] theorem State.takeSource_outside {P : Parts} (s : State) (c : Nat) (hP : P.clk = true ∧ P.regs Reg.CLK_READY ∧ P.fab = true ∧ P.regs Reg.CLK_SRC ∧ P.regs Reg.FAB_STAT ∧ (∀ n, P.regs (Reg.FP_STAT n))) :
    (State.takeSource s c).outside P = s.outside P := by
  unfold State.takeSource
  simp only [State.setFld_outside, State.showSource_outside, State.outside_clk_fab, State.setReg_outside, State.push_outside, State.outside_ite, State.outside_bif, State.foldl_outside, State.foldl_outside_snd, State.foldl_outside_fst, ite_self, Bool.cond_self, Parts.emits_recs, Parts.emits_classLost, Parts.emits_host, Parts.emits_lost, and_self, and_true, true_and, implies_true, forall_const, hP]

@[simp] theorem State.sendOffers_outside {P : Parts} (s : State) (except : Option Nat) (hP : P.out = true ∧ P.port = true) :
    (State.sendOffers s except).outside P = s.outside P := by
  unfold State.sendOffers
  simp only [State.sendControl_outside, State.setReg_outside, State.push_outside, State.outside_ite, State.outside_bif, State.foldl_outside, State.foldl_outside_snd, State.foldl_outside_fst, ite_self, Bool.cond_self, Parts.emits_recs, Parts.emits_classLost, Parts.emits_host, Parts.emits_lost, and_self, and_true, true_and, implies_true, forall_const, hP]

@[simp] theorem State.reparent_outside {P : Parts} (s : State) (p : Nat) (hP : P.clk = true ∧ P.regs Reg.CLK_HOLD_CNT ∧ P.fab = true ∧ P.regs Reg.CLK_READY ∧ P.out = true ∧ P.regs Reg.CLK_SRC ∧ P.port = true ∧ P.regs Reg.CLK_STAT ∧ P.regs Reg.FAB_STAT ∧ (∀ n, P.regs (Reg.FP_STAT n))) :
    (State.reparent s p).outside P = s.outside P := by
  unfold State.reparent
  simp only [State.clear_outside, State.beginHoldover_outside, State.takeSource_outside, State.sendOffers_outside, State.setReg_outside, State.push_outside, State.outside_ite, State.outside_bif, State.foldl_outside, State.foldl_outside_snd, State.foldl_outside_fst, ite_self, Bool.cond_self, Parts.emits_recs, Parts.emits_classLost, Parts.emits_host, Parts.emits_lost, and_self, and_true, true_and, implies_true, forall_const, hP]

@[simp] theorem State.lockSource_outside {P : Parts} (s : State) (hP : P.clk = true ∧ P.regs Reg.CLK_SRC ∧ P.regs Reg.CLK_STAT) :
    (State.lockSource s).outside P = s.outside P := by
  unfold State.lockSource
  repeat' split
  all_goals first | rfl | simp only [State.setFld_outside, State.raise_outside, State.outside_clk, State.setReg_outside, State.push_outside, State.outside_ite, State.outside_bif, State.foldl_outside, State.foldl_outside_snd, State.foldl_outside_fst, ite_self, Bool.cond_self, Parts.emits_recs, Parts.emits_classLost, Parts.emits_host, Parts.emits_lost, and_self, and_true, true_and, implies_true, forall_const, hP]

@[simp] theorem State.autoSwitch_outside {P : Parts} (s : State) (hP : P.clk = true ∧ P.regs Reg.CLK_HOLD_CNT ∧ P.fab = true ∧ P.regs Reg.CLK_READY ∧ P.out = true ∧ P.regs Reg.CLK_SRC ∧ P.port = true ∧ P.regs Reg.CLK_STAT ∧ P.regs Reg.FAB_STAT ∧ (∀ n, P.regs (Reg.FP_STAT n))) :
    (State.autoSwitch s).outside P = s.outside P := by
  unfold State.autoSwitch
  repeat' split
  all_goals first | rfl | simp only [State.beginHoldover_outside, State.takeSource_outside, State.reparent_outside, State.setReg_outside, State.push_outside, State.outside_ite, State.outside_bif, State.foldl_outside, State.foldl_outside_snd, State.foldl_outside_fst, ite_self, Bool.cond_self, Parts.emits_recs, Parts.emits_classLost, Parts.emits_host, Parts.emits_lost, and_self, and_true, true_and, implies_true, forall_const, hP]

@[simp] theorem State.orphaned_outside {P : Parts} (s : State) (die : Nat) (hP : P.fab = true ∧ P.regs Reg.FAB_STAT ∧ P.out = true ∧ P.port = true) :
    (State.orphaned s die).outside P = s.outside P := by
  unfold State.orphaned
  simp only [State.raise_outside, State.sendControl_outside, State.outside_fab, State.setReg_outside, State.push_outside, State.outside_ite, State.outside_bif, State.foldl_outside, State.foldl_outside_snd, State.foldl_outside_fst, ite_self, Bool.cond_self, Parts.emits_recs, Parts.emits_classLost, Parts.emits_host, Parts.emits_lost, and_self, and_true, true_and, implies_true, forall_const, hP]

@[simp] theorem clkSourceLoss_outside {P : Parts} (s : State) (hP : P.clk = true ∧ P.regs Reg.CLK_HOLD_CNT ∧ P.fab = true ∧ P.regs Reg.CLK_READY ∧ P.out = true ∧ P.regs Reg.CLK_SRC ∧ P.port = true ∧ P.regs Reg.CLK_STAT ∧ P.regs Reg.FAB_STAT ∧ (∀ n, P.regs (Reg.FP_STAT n))) :
    (clkSourceLoss s).outside P = s.outside P := by
  unfold clkSourceLoss
  simp only [State.setFld_outside, State.setBit_outside, State.beginHoldover_outside, State.autoSwitch_outside, State.orphaned_outside, State.outside_clk_fab, State.setReg_outside, State.push_outside, State.outside_ite, State.outside_bif, State.foldl_outside, State.foldl_outside_snd, State.foldl_outside_fst, ite_self, Bool.cond_self, Parts.emits_recs, Parts.emits_classLost, Parts.emits_host, Parts.emits_lost, and_self, and_true, true_and, implies_true, forall_const, hP]

@[simp] theorem clkHoldoverEnd_outside {P : Parts} (s : State) (hP : P.emits ∧ P.clk = true ∧ P.regs Reg.CLK_HOLD_T ∧ P.regs Reg.CLK_SRC ∧ P.regs Reg.CLK_STAT) :
    (clkHoldoverEnd s).outside P = s.outside P := by
  unfold clkHoldoverEnd
  simp only [State.raise_outside, State.clear_outside, State.emit_outside, State.lockSource_outside, State.outside_clk, State.setReg_outside, State.push_outside, State.outside_ite, State.outside_bif, State.foldl_outside, State.foldl_outside_snd, State.foldl_outside_fst, ite_self, Bool.cond_self, Parts.emits_recs, Parts.emits_classLost, Parts.emits_host, Parts.emits_lost, and_self, and_true, true_and, implies_true, forall_const, hP]
  repeat' (first | rfl | (split <;> try simp only [State.raise_outside, State.clear_outside, State.emit_outside, State.lockSource_outside, State.outside_clk, State.setReg_outside, State.push_outside, State.outside_ite, State.outside_bif, State.foldl_outside, State.foldl_outside_snd, State.foldl_outside_fst, ite_self, Bool.cond_self, Parts.emits_recs, Parts.emits_classLost, Parts.emits_host, Parts.emits_lost, and_self, and_true, true_and, implies_true, forall_const, hP]))

@[simp] theorem clkMissing_outside {P : Parts} (s : State) (hP : P.clk = true ∧ P.regs Reg.CLK_STAT ∧ P.smon = true ∧ P.regs Reg.SAF_STAT) :
    (clkMissing s).outside P = s.outside P := by
  unfold clkMissing
  simp only [State.raise_outside, State.driveSafeN_outside, State.outside_clk, State.setReg_outside, State.push_outside, State.outside_ite, State.outside_bif, State.foldl_outside, State.foldl_outside_snd, State.foldl_outside_fst, ite_self, Bool.cond_self, Parts.emits_recs, Parts.emits_classLost, Parts.emits_host, Parts.emits_lost, and_self, and_true, true_and, implies_true, forall_const, hP]

@[simp] theorem clkReturn_outside {P : Parts} (s : State) (hP : P.emits ∧ P.clk = true ∧ P.regs Reg.FAB_DROP ∧ P.fab = true ∧ (∀ n, P.regs (Reg.FP_UTIL n)) ∧ P.fresh = true ∧ P.regs Reg.HIF_CMD_STAT ∧ P.mode = true ∧ P.regs Reg.MODE_STAT ∧ P.out = true ∧ P.regs Reg.PACER_STAT ∧ P.port = true ∧ P.regs Reg.SAF_CAUSE ∧ P.rate = true ∧ P.regs Reg.SAF_CAUSE_S ∧ P.smon = true ∧ P.regs Reg.SAF_CNT ∧ P.regs Reg.SAF_STAT) :
    (clkReturn s).outside P = s.outside P := by
  unfold clkReturn
  simp only [State.emit_outside, State.raiseCause_outside, State.outside_clk, State.setReg_outside, State.push_outside, State.outside_ite, State.outside_bif, State.foldl_outside, State.foldl_outside_snd, State.foldl_outside_fst, ite_self, Bool.cond_self, Parts.emits_recs, Parts.emits_classLost, Parts.emits_host, Parts.emits_lost, and_self, and_true, true_and, implies_true, forall_const, hP]

@[simp] theorem candidateReadyChange_outside {P : Parts} (s : State) (c : Nat) (ready : Bool) (hP : P.clk = true ∧ P.regs Reg.CLK_HOLD_CNT ∧ P.fab = true ∧ P.regs Reg.CLK_READY ∧ P.out = true ∧ P.regs Reg.CLK_SRC ∧ P.port = true ∧ P.regs Reg.CLK_STAT ∧ P.regs Reg.FAB_STAT ∧ (∀ n, P.regs (Reg.FP_STAT n))) :
    (candidateReadyChange s c ready).outside P = s.outside P := by
  unfold candidateReadyChange
  simp only [State.setBit_outside, State.autoSwitch_outside, State.setReg_outside, State.push_outside, State.outside_ite, State.outside_bif, State.foldl_outside, State.foldl_outside_snd, State.foldl_outside_fst, ite_self, Bool.cond_self, Parts.emits_recs, Parts.emits_classLost, Parts.emits_host, Parts.emits_lost, and_self, and_true, true_and, implies_true, forall_const, hP]

@[simp] theorem State.checkAdv_outside {P : Parts} (s : State) (p : Nat) (hP : P.regs Reg.CLK_READY ∧ P.regs Reg.FAB_STAT ∧ (∀ n, P.regs (Reg.FP_STAT n))) :
    (State.checkAdv s p).outside P = s.outside P := by
  unfold State.checkAdv
  simp only [State.setBit_outside, State.showSource_outside, State.setReg_outside, State.push_outside, State.outside_ite, State.outside_bif, State.foldl_outside, State.foldl_outside_snd, State.foldl_outside_fst, ite_self, Bool.cond_self, Parts.emits_recs, Parts.emits_classLost, Parts.emits_host, Parts.emits_lost, and_self, and_true, true_and, implies_true, forall_const, hP]

@[simp] theorem State.selectSource_outside {P : Parts} (s : State) (c : Nat) (hP : P.clk = true ∧ P.regs Reg.CLK_READY ∧ P.fab = true ∧ P.regs Reg.CLK_SRC ∧ P.regs Reg.CLK_STAT ∧ P.regs Reg.FAB_STAT ∧ (∀ n, P.regs (Reg.FP_STAT n))) :
    (State.selectSource s c).outside P = s.outside P := by
  unfold State.selectSource
  simp only [State.setFld_outside, State.raise_outside, State.takeSource_outside, State.outside_clk, State.setReg_outside, State.push_outside, State.outside_ite, State.outside_bif, State.foldl_outside, State.foldl_outside_snd, State.foldl_outside_fst, ite_self, Bool.cond_self, Parts.emits_recs, Parts.emits_classLost, Parts.emits_host, Parts.emits_lost, and_self, and_true, true_and, implies_true, forall_const, hP]

@[simp] theorem clkSrcWrite_outside {P : Parts} (s : State) (v : Word) (hP : P.clk = true ∧ P.regs Reg.CLK_HOLD_CNT ∧ P.fab = true ∧ P.regs Reg.CLK_READY ∧ P.out = true ∧ P.regs Reg.CLK_SRC ∧ P.port = true ∧ P.regs Reg.CLK_STAT ∧ P.regs Reg.FAB_STAT ∧ (∀ n, P.regs (Reg.FP_STAT n))) :
    (clkSrcWrite s v).outside P = s.outside P := by
  unfold clkSrcWrite
  simp only [State.setFld_outside, State.autoSwitch_outside, State.selectSource_outside, State.setReg_outside, State.push_outside, State.outside_ite, State.outside_bif, State.foldl_outside, State.foldl_outside_snd, State.foldl_outside_fst, ite_self, Bool.cond_self, Parts.emits_recs, Parts.emits_classLost, Parts.emits_host, Parts.emits_lost, and_self, and_true, true_and, implies_true, forall_const, hP]

@[simp] theorem clkSwitch_outside {P : Parts} (s : State) (hP : P.emits ∧ P.clk = true ∧ P.regs Reg.CLK_SRC ∧ P.regs Reg.CLK_STAT) :
    (clkSwitch s).outside P = s.outside P := by
  unfold clkSwitch
  repeat' split
  all_goals first | rfl | simp only [State.emit_outside, State.lockSource_outside, State.outside_clk, State.setReg_outside, State.push_outside, State.outside_ite, State.outside_bif, State.foldl_outside, State.foldl_outside_snd, State.foldl_outside_fst, ite_self, Bool.cond_self, Parts.emits_recs, Parts.emits_classLost, Parts.emits_host, Parts.emits_lost, and_self, and_true, true_and, implies_true, forall_const, hP]

@[simp] theorem lost_outside {P : Parts} (s : State) (p die : Nat) (hP : P.clk = true ∧ P.regs Reg.CLK_HOLD_CNT ∧ P.fab = true ∧ P.regs Reg.CLK_READY ∧ P.out = true ∧ P.regs Reg.CLK_SRC ∧ P.port = true ∧ P.regs Reg.CLK_STAT ∧ P.regs Reg.FAB_STAT ∧ (∀ n, P.regs (Reg.FP_STAT n))) :
    (lost s p die).outside P = s.outside P := by
  unfold lost
  simp only [State.raise_outside, State.autoSwitch_outside, State.orphaned_outside, State.setReg_outside, State.push_outside, State.outside_ite, State.outside_bif, State.foldl_outside, State.foldl_outside_snd, State.foldl_outside_fst, ite_self, Bool.cond_self, Parts.emits_recs, Parts.emits_classLost, Parts.emits_host, Parts.emits_lost, and_self, and_true, true_and, implies_true, forall_const, hP]

@[simp] theorem offer_outside {P : Parts} (s : State) (p depth die : Nat) (hP : P.clk = true ∧ P.regs Reg.CLK_HOLD_CNT ∧ P.fab = true ∧ P.regs Reg.CLK_READY ∧ P.out = true ∧ P.regs Reg.CLK_SRC ∧ P.port = true ∧ P.regs Reg.CLK_STAT ∧ P.regs Reg.FAB_STAT ∧ (∀ n, P.regs (Reg.FP_STAT n))) :
    (offer s p depth die).outside P = s.outside P := by
  unfold offer
  simp only [State.setFld_outside, State.clear_outside, State.reparent_outside, State.outside_fab, State.setReg_outside, State.push_outside, State.outside_ite, State.outside_bif, State.foldl_outside, State.foldl_outside_snd, State.foldl_outside_fst, ite_self, Bool.cond_self, Parts.emits_recs, Parts.emits_classLost, Parts.emits_host, Parts.emits_lost, and_self, and_true, true_and, implies_true, forall_const, hP]

@[simp] theorem clkRepair_outside {P : Parts} (s : State) (hP : P.emits ∧ P.clk = true ∧ P.regs Reg.CLK_SRC ∧ P.fab = true ∧ P.regs Reg.CLK_STAT ∧ P.regs Reg.FAB_STAT) :
    (clkRepair s).outside P = s.outside P := by
  unfold clkRepair
  simp only [State.clear_outside, State.emit_outside, State.lockSource_outside, State.outside_fab, State.setReg_outside, State.push_outside, State.outside_ite, State.outside_bif, State.foldl_outside, State.foldl_outside_snd, State.foldl_outside_fst, ite_self, Bool.cond_self, Parts.emits_recs, Parts.emits_classLost, Parts.emits_host, Parts.emits_lost, and_self, and_true, true_and, implies_true, forall_const, hP]

@[simp] theorem State.showFreq_outside {P : Parts} (s : State) (hP : P.regs Reg.FAB_FREQ) :
    (State.showFreq s).outside P = s.outside P := by
  unfold State.showFreq
  simp only [State.setReg_outside, State.push_outside, State.outside_ite, State.outside_bif, State.foldl_outside, State.foldl_outside_snd, State.foldl_outside_fst, ite_self, Bool.cond_self, Parts.emits_recs, Parts.emits_classLost, Parts.emits_host, Parts.emits_lost, and_self, and_true, true_and, implies_true, forall_const, hP]

@[simp] theorem baton_outside {P : Parts} (s : State) (hP : P.clk = true ∧ P.regs Reg.CLK_HOLD_CNT ∧ P.fab = true ∧ P.regs Reg.CLK_READY ∧ P.fresh = true ∧ P.regs Reg.CLK_SRC ∧ P.out = true ∧ P.regs Reg.CLK_STAT ∧ P.port = true ∧ P.regs Reg.FAB_FREQ ∧ P.regs Reg.FAB_ROLES0 ∧ P.regs Reg.FAB_STAT ∧ (∀ n, P.regs (Reg.FP_STAT n))) :
    (baton s).outside P = s.outside P := by
  unfold baton
  simp only [State.setFld_outside, State.raise_outside, State.clear_outside, State.freeNat_outside, State.beginHoldover_outside, State.takeSource_outside, State.sendOffers_outside, State.showFreq_outside, State.outside_clk_fab, State.setReg_outside, State.push_outside, State.outside_ite, State.outside_bif, State.foldl_outside, State.foldl_outside_snd, State.foldl_outside_fst, ite_self, Bool.cond_self, Parts.emits_recs, Parts.emits_classLost, Parts.emits_host, Parts.emits_lost, and_self, and_true, true_and, implies_true, forall_const, hP]

end Sys2Proof.Machine
end

