-- ==== Sys2Proof/Laws/FrameEcc.lean ====
section
/-!
SUPPORT. What the operations of Machine/Ecc.lean write: each leaves every part of the state as it is but those its hypothesis names.
-/

set_option Elab.async false
set_option linter.unusedSimpArgs false
namespace Sys2Proof.Machine

@[simp] theorem State.setChan_outside {P : Parts} (s : State) (ch : Nat) (x : DramChan) (hP : P.chan = true) :
    (State.setChan s ch x).outside P = s.outside P := by
  unfold State.setChan
  simp only [State.outside_chan, State.setReg_outside, State.push_outside, State.outside_ite, State.outside_bif, State.foldl_outside, State.foldl_outside_snd, State.foldl_outside_fst, ite_self, Bool.cond_self, Parts.emits_recs, Parts.emits_classLost, Parts.emits_host, Parts.emits_lost, and_self, and_true, true_and, implies_true, forall_const, hP]

@[simp] theorem State.setCell_outside {P : Parts} (s : State) (a : Nat) (c : Cell) (hP : P.cells = true) :
    (State.setCell s a c).outside P = s.outside P := by
  unfold State.setCell
  simp only [State.outside_cells, State.setReg_outside, State.push_outside, State.outside_ite, State.outside_bif, State.foldl_outside, State.foldl_outside_snd, State.foldl_outside_fst, ite_self, Bool.cond_self, Parts.emits_recs, Parts.emits_classLost, Parts.emits_host, Parts.emits_lost, and_self, and_true, true_and, implies_true, forall_const, hP]

@[simp] theorem State.showRemap_outside {P : Parts} (s : State) (hP : (∀ n, P.regs (Reg.ECC_REMAP n)) ∧ P.regs Reg.ECC_STAT) :
    (State.showRemap s).outside P = s.outside P := by
  unfold State.showRemap
  simp only [State.setFld_outside, State.setReg_outside, State.push_outside, State.outside_ite, State.outside_bif, State.foldl_outside, State.foldl_outside_snd, State.foldl_outside_fst, ite_self, Bool.cond_self, Parts.emits_recs, Parts.emits_classLost, Parts.emits_host, Parts.emits_lost, and_self, and_true, true_and, implies_true, forall_const, hP]

@[simp] theorem State.setSpare_outside {P : Parts} (s : State) (i : Nat) (x : Spare) (hP : P.ecc = true ∧ (∀ n, P.regs (Reg.ECC_REMAP n)) ∧ P.regs Reg.ECC_STAT) :
    (State.setSpare s i x).outside P = s.outside P := by
  unfold State.setSpare
  simp only [State.showRemap_outside, State.outside_ecc, State.setReg_outside, State.push_outside, State.outside_ite, State.outside_bif, State.foldl_outside, State.foldl_outside_snd, State.foldl_outside_fst, ite_self, Bool.cond_self, Parts.emits_recs, Parts.emits_classLost, Parts.emits_host, Parts.emits_lost, and_self, and_true, true_and, implies_true, forall_const, hP]

@[simp] theorem State.storeCell_outside {P : Parts} (s : State) (a prot : Nat) (poison : Bool) (hP : P.cells = true ∧ P.regs Reg.ECC_INJ ∧ P.ecc = true ∧ (∀ n, P.regs (Reg.ECC_REMAP n)) ∧ P.regs Reg.ECC_STAT) :
    (State.storeCell s a prot poison).outside P = s.outside P := by
  unfold State.storeCell
  repeat' split
  all_goals first | rfl | simp only [State.clear_outside, State.setCell_outside, State.setSpare_outside, State.setReg_outside, State.push_outside, State.outside_ite, State.outside_bif, State.foldl_outside, State.foldl_outside_snd, State.foldl_outside_fst, ite_self, Bool.cond_self, Parts.emits_recs, Parts.emits_classLost, Parts.emits_host, Parts.emits_lost, and_self, and_true, true_and, implies_true, forall_const, hP]

@[simp] theorem State.readCell_outside {P : Parts} (s : State) (a : Nat) (flips : List Nat) (hP : P.cells = true) :
    (State.readCell s a flips).2.outside P = s.outside P := by
  unfold State.readCell
  simp only [State.setCell_outside, State.setReg_outside, State.push_outside, State.outside_ite, State.outside_bif, State.foldl_outside, State.foldl_outside_snd, State.foldl_outside_fst, ite_self, Bool.cond_self, Parts.emits_recs, Parts.emits_classLost, Parts.emits_host, Parts.emits_lost, and_self, and_true, true_and, implies_true, forall_const, hP]
  repeat' (first | rfl | (split <;> try simp only [State.setCell_outside, State.setReg_outside, State.push_outside, State.outside_ite, State.outside_bif, State.foldl_outside, State.foldl_outside_snd, State.foldl_outside_fst, ite_self, Bool.cond_self, Parts.emits_recs, Parts.emits_classLost, Parts.emits_host, Parts.emits_lost, and_self, and_true, true_and, implies_true, forall_const, hP]))

@[simp] theorem State.setLog_outside {P : Parts} (s : State) (l : List (Option LogEntry)) (hP : P.ecc = true ∧ P.regs Reg.ECC_STAT) :
    (State.setLog s l).outside P = s.outside P := by
  unfold State.setLog
  simp only [State.setFld_outside, State.outside_ecc, State.setReg_outside, State.push_outside, State.outside_ite, State.outside_bif, State.foldl_outside, State.foldl_outside_snd, State.foldl_outside_fst, ite_self, Bool.cond_self, Parts.emits_recs, Parts.emits_classLost, Parts.emits_host, Parts.emits_lost, and_self, and_true, true_and, implies_true, forall_const, hP]

@[simp] theorem State.updLog_outside {P : Parts} (s : State) (cell : Nat) (f : LogEntry → LogEntry) (hP : P.ecc = true ∧ P.regs Reg.ECC_STAT) :
    (State.updLog s cell f).outside P = s.outside P := by
  unfold State.updLog
  repeat' split
  all_goals first | rfl | simp only [State.setLog_outside, State.setReg_outside, State.push_outside, State.outside_ite, State.outside_bif, State.foldl_outside, State.foldl_outside_snd, State.foldl_outside_fst, ite_self, Bool.cond_self, Parts.emits_recs, Parts.emits_classLost, Parts.emits_host, Parts.emits_lost, and_self, and_true, true_and, implies_true, forall_const, hP]

@[simp] theorem State.logFull_outside {P : Parts} (s : State) (ch : Nat) (hP : P.emits ∧ P.ecc = true ∧ P.regs Reg.ECC_LOG_CTRL ∧ P.rate = true ∧ P.regs Reg.ECC_STAT) :
    (State.logFull s ch).outside P = s.outside P := by
  unfold State.logFull
  simp only [State.raise_outside, State.count_outside, State.emitLimited_outside, State.outside_ecc, State.setReg_outside, State.push_outside, State.outside_ite, State.outside_bif, State.foldl_outside, State.foldl_outside_snd, State.foldl_outside_fst, ite_self, Bool.cond_self, Parts.emits_recs, Parts.emits_classLost, Parts.emits_host, Parts.emits_lost, and_self, and_true, true_and, implies_true, forall_const, hP]

@[simp] theorem State.logError_outside {P : Parts} (s : State) (cell synd source port prot : Nat) (hP : P.emits ∧ P.ecc = true ∧ P.regs Reg.ECC_CE_CNT0 ∧ P.rate = true ∧ P.regs Reg.ECC_CE_CNT1 ∧ P.regs Reg.ECC_LOG_CTRL ∧ P.regs Reg.ECC_STAT) :
    (State.logError s cell synd source port prot).outside P = s.outside P := by
  unfold State.logError
  simp only [State.count_outside, State.emit_outside, State.setLog_outside, State.logFull_outside, State.outside_ecc, State.setReg_outside, State.push_outside, State.outside_ite, State.outside_bif, State.foldl_outside, State.foldl_outside_snd, State.foldl_outside_fst, ite_self, Bool.cond_self, Parts.emits_recs, Parts.emits_classLost, Parts.emits_host, Parts.emits_lost, and_self, and_true, true_and, implies_true, forall_const, hP]
  repeat' (first | rfl | (split <;> try simp only [State.count_outside, State.emit_outside, State.setLog_outside, State.logFull_outside, State.outside_ecc, State.setReg_outside, State.push_outside, State.outside_ite, State.outside_bif, State.foldl_outside, State.foldl_outside_snd, State.foldl_outside_fst, ite_self, Bool.cond_self, Parts.emits_recs, Parts.emits_classLost, Parts.emits_host, Parts.emits_lost, and_self, and_true, true_and, implies_true, forall_const, hP]))

@[simp] theorem State.remapCell_outside {P : Parts} (s : State) (cell prot : Nat) (poison boot : Bool) (hP : P.emits ∧ P.ecc = true ∧ (∀ n, P.regs (Reg.ECC_REMAP n)) ∧ P.regs Reg.ECC_STAT) :
    (State.remapCell s cell prot poison boot).outside P = s.outside P := by
  unfold State.remapCell
  repeat' split
  all_goals first | rfl | simp only [State.raise_outside, State.emit_outside, State.setSpare_outside, State.updLog_outside, State.setReg_outside, State.push_outside, State.outside_ite, State.outside_bif, State.foldl_outside, State.foldl_outside_snd, State.foldl_outside_fst, ite_self, Bool.cond_self, Parts.emits_recs, Parts.emits_classLost, Parts.emits_host, Parts.emits_lost, and_self, and_true, true_and, implies_true, forall_const, hP]

@[simp] theorem State.reportUe_outside {P : Parts} (s : State) (cell synd source port : Nat) (hP : P.emits ∧ P.regs Reg.ECC_STAT ∧ P.regs Reg.ECC_UE_CNT) :
    (State.reportUe s cell synd source port).outside P = s.outside P := by
  unfold State.reportUe
  simp only [State.raise_outside, State.count_outside, State.emitSafetyHeld_outside, State.setReg_outside, State.push_outside, State.outside_ite, State.outside_bif, State.foldl_outside, State.foldl_outside_snd, State.foldl_outside_fst, ite_self, Bool.cond_self, Parts.emits_recs, Parts.emits_classLost, Parts.emits_host, Parts.emits_lost, and_self, and_true, true_and, implies_true, forall_const, hP]

@[simp] theorem State.noteRead_outside {P : Parts} (s : State) (cell source port : Nat) (r : Nat × CellClass × Nat) (hP : P.emits ∧ P.ecc = true ∧ P.regs Reg.ECC_CE_CNT0 ∧ P.rate = true ∧ P.regs Reg.ECC_CE_CNT1 ∧ P.regs Reg.ECC_LOG_CTRL ∧ P.regs Reg.ECC_POISON_CNT ∧ (∀ n, P.regs (Reg.ECC_REMAP n)) ∧ P.regs Reg.ECC_STAT ∧ P.regs Reg.ECC_UE_CNT) :
    (State.noteRead s cell source port r).outside P = s.outside P := by
  unfold State.noteRead
  repeat' split
  all_goals first | rfl | simp only [State.raise_outside, State.count_outside, State.logError_outside, State.remapCell_outside, State.reportUe_outside, State.setReg_outside, State.push_outside, State.outside_ite, State.outside_bif, State.foldl_outside, State.foldl_outside_snd, State.foldl_outside_fst, ite_self, Bool.cond_self, Parts.emits_recs, Parts.emits_classLost, Parts.emits_host, Parts.emits_lost, and_self, and_true, true_and, implies_true, forall_const, hP]

@[simp] theorem State.dropBack_outside {P : Parts} (s : State) (cell : Nat) (hP : P.ecc = true ∧ P.regs Reg.ECC_STAT) :
    (State.dropBack s cell).outside P = s.outside P := by
  unfold State.dropBack
  simp only [State.updLog_outside, State.setReg_outside, State.push_outside, State.outside_ite, State.outside_bif, State.foldl_outside, State.foldl_outside_snd, State.foldl_outside_fst, ite_self, Bool.cond_self, Parts.emits_recs, Parts.emits_classLost, Parts.emits_host, Parts.emits_lost, and_self, and_true, true_and, implies_true, forall_const, hP]

@[simp] theorem State.dropMerge_outside {P : Parts} (s : State) (cell : Nat) (hP : P.ecc = true) :
    (State.dropMerge s cell).outside P = s.outside P := by
  unfold State.dropMerge
  simp only [State.outside_ecc, State.setReg_outside, State.push_outside, State.outside_ite, State.outside_bif, State.foldl_outside, State.foldl_outside_snd, State.foldl_outside_fst, ite_self, Bool.cond_self, Parts.emits_recs, Parts.emits_classLost, Parts.emits_host, Parts.emits_lost, and_self, and_true, true_and, implies_true, forall_const, hP]

@[simp] theorem fullCellWrite_outside {P : Parts} (s : State) (port cell data attr : Nat) (poison : Bool) (hP : P.cells = true ∧ P.regs Reg.ECC_INJ ∧ P.ecc = true ∧ (∀ n, P.regs (Reg.ECC_REMAP n)) ∧ P.regs Reg.ECC_STAT) :
    (fullCellWrite s port cell data attr poison).outside P = s.outside P := by
  unfold fullCellWrite
  simp only [State.storeCell_outside, State.dropBack_outside, State.dropMerge_outside, State.setReg_outside, State.push_outside, State.outside_ite, State.outside_bif, State.foldl_outside, State.foldl_outside_snd, State.foldl_outside_fst, ite_self, Bool.cond_self, Parts.emits_recs, Parts.emits_classLost, Parts.emits_host, Parts.emits_lost, and_self, and_true, true_and, implies_true, forall_const, hP]

@[simp] theorem State.flushEntry_outside {P : Parts} (s : State) (e : MergeEntry) (flips : List Nat) (hP : P.emits ∧ P.cells = true ∧ P.regs Reg.ECC_CE_CNT0 ∧ P.ecc = true ∧ P.regs Reg.ECC_CE_CNT1 ∧ P.rate = true ∧ P.regs Reg.ECC_INJ ∧ P.regs Reg.ECC_LOG_CTRL ∧ P.regs Reg.ECC_POISON_CNT ∧ (∀ n, P.regs (Reg.ECC_REMAP n)) ∧ P.regs Reg.ECC_RMW_CNT ∧ P.regs Reg.ECC_STAT ∧ P.regs Reg.ECC_UE_CNT) :
    (State.flushEntry s e flips).outside P = s.outside P := by
  unfold State.flushEntry
  simp only [State.raise_outside, State.count_outside, State.emitLimited_outside, State.storeCell_outside, State.readCell_outside, State.noteRead_outside, State.dropBack_outside, State.dropMerge_outside, State.setReg_outside, State.push_outside, State.outside_ite, State.outside_bif, State.foldl_outside, State.foldl_outside_snd, State.foldl_outside_fst, ite_self, Bool.cond_self, Parts.emits_recs, Parts.emits_classLost, Parts.emits_host, Parts.emits_lost, and_self, and_true, true_and, implies_true, forall_const, hP]

@[simp] theorem State.flushCell_outside {P : Parts} (s : State) (cell : Nat) (flips : List Nat) (hP : P.emits ∧ P.cells = true ∧ P.regs Reg.ECC_CE_CNT0 ∧ P.ecc = true ∧ P.regs Reg.ECC_CE_CNT1 ∧ P.rate = true ∧ P.regs Reg.ECC_INJ ∧ P.regs Reg.ECC_LOG_CTRL ∧ P.regs Reg.ECC_POISON_CNT ∧ (∀ n, P.regs (Reg.ECC_REMAP n)) ∧ P.regs Reg.ECC_RMW_CNT ∧ P.regs Reg.ECC_STAT ∧ P.regs Reg.ECC_UE_CNT) :
    (State.flushCell s cell flips).outside P = s.outside P := by
  unfold State.flushCell
  repeat' split
  all_goals first | rfl | simp only [State.flushEntry_outside, State.setReg_outside, State.push_outside, State.outside_ite, State.outside_bif, State.foldl_outside, State.foldl_outside_snd, State.foldl_outside_fst, ite_self, Bool.cond_self, Parts.emits_recs, Parts.emits_classLost, Parts.emits_host, Parts.emits_lost, and_self, and_true, true_and, implies_true, forall_const, hP]

@[simp] theorem mergeFlush_outside {P : Parts} (s : State) (cell : Nat) (flips : List Nat) (hP : P.emits ∧ P.cells = true ∧ P.regs Reg.ECC_CE_CNT0 ∧ P.ecc = true ∧ P.regs Reg.ECC_CE_CNT1 ∧ P.rate = true ∧ P.regs Reg.ECC_INJ ∧ P.regs Reg.ECC_LOG_CTRL ∧ P.regs Reg.ECC_POISON_CNT ∧ (∀ n, P.regs (Reg.ECC_REMAP n)) ∧ P.regs Reg.ECC_RMW_CNT ∧ P.regs Reg.ECC_STAT ∧ P.regs Reg.ECC_UE_CNT) :
    (mergeFlush s cell flips).outside P = s.outside P := by
  unfold mergeFlush
  repeat' split
  all_goals first | rfl | simp only [State.flushCell_outside, State.setReg_outside, State.push_outside, State.outside_ite, State.outside_bif, State.foldl_outside, State.foldl_outside_snd, State.foldl_outside_fst, ite_self, Bool.cond_self, Parts.emits_recs, Parts.emits_classLost, Parts.emits_host, Parts.emits_lost, and_self, and_true, true_and, implies_true, forall_const, hP]

@[simp] theorem State.flushMerge_outside {P : Parts} (s : State) (hP : P.emits ∧ P.cells = true ∧ P.regs Reg.ECC_CE_CNT0 ∧ P.ecc = true ∧ P.regs Reg.ECC_CE_CNT1 ∧ P.rate = true ∧ P.regs Reg.ECC_INJ ∧ P.regs Reg.ECC_LOG_CTRL ∧ P.regs Reg.ECC_POISON_CNT ∧ (∀ n, P.regs (Reg.ECC_REMAP n)) ∧ P.regs Reg.ECC_RMW_CNT ∧ P.regs Reg.ECC_STAT ∧ P.regs Reg.ECC_UE_CNT) :
    (State.flushMerge s).outside P = s.outside P := by
  unfold State.flushMerge
  simp only [State.flushEntry_outside, State.setReg_outside, State.push_outside, State.outside_ite, State.outside_bif, State.foldl_outside, State.foldl_outside_snd, State.foldl_outside_fst, ite_self, Bool.cond_self, Parts.emits_recs, Parts.emits_classLost, Parts.emits_host, Parts.emits_lost, and_self, and_true, true_and, implies_true, forall_const, hP]

@[simp] theorem narrowWrite_outside {P : Parts} (s : State) (port cell data mask : Nat) (hP : P.emits ∧ P.cells = true ∧ P.regs Reg.ECC_CE_CNT0 ∧ P.ecc = true ∧ P.regs Reg.ECC_CE_CNT1 ∧ P.rate = true ∧ P.regs Reg.ECC_INJ ∧ P.regs Reg.ECC_LOG_CTRL ∧ P.regs Reg.ECC_POISON_CNT ∧ (∀ n, P.regs (Reg.ECC_REMAP n)) ∧ P.regs Reg.ECC_RMW_CNT ∧ P.regs Reg.ECC_STAT ∧ P.regs Reg.ECC_UE_CNT) :
    (narrowWrite s port cell data mask).outside P = s.outside P := by
  unfold narrowWrite
  simp only [State.count_outside, State.dropBack_outside, fullCellWrite_outside, State.flushEntry_outside, State.outside_ecc, State.setReg_outside, State.push_outside, State.outside_ite, State.outside_bif, State.foldl_outside, State.foldl_outside_snd, State.foldl_outside_fst, ite_self, Bool.cond_self, Parts.emits_recs, Parts.emits_classLost, Parts.emits_host, Parts.emits_lost, and_self, and_true, true_and, implies_true, forall_const, hP]
  repeat' (first | rfl | (split <;> try simp only [State.count_outside, State.dropBack_outside, fullCellWrite_outside, State.flushEntry_outside, State.outside_ecc, State.setReg_outside, State.push_outside, State.outside_ite, State.outside_bif, State.foldl_outside, State.foldl_outside_snd, State.foldl_outside_fst, ite_self, Bool.cond_self, Parts.emits_recs, Parts.emits_classLost, Parts.emits_host, Parts.emits_lost, and_self, and_true, true_and, implies_true, forall_const, hP]))

@[simp] theorem State.portRead_outside {P : Parts} (s : State) (port cell : Nat) (flips : List Nat) (hP : P.emits ∧ P.cells = true ∧ P.regs Reg.ECC_CE_CNT0 ∧ P.ecc = true ∧ P.regs Reg.ECC_CE_CNT1 ∧ P.rate = true ∧ P.regs Reg.ECC_INJ ∧ P.regs Reg.ECC_LOG_CTRL ∧ P.regs Reg.ECC_POISON_CNT ∧ (∀ n, P.regs (Reg.ECC_REMAP n)) ∧ P.regs Reg.ECC_RMW_CNT ∧ P.regs Reg.ECC_STAT ∧ P.regs Reg.ECC_UE_CNT) :
    (State.portRead s port cell flips).2.outside P = s.outside P := by
  unfold State.portRead
  simp only [State.emitSafetyHeld_outside, State.readCell_outside, State.noteRead_outside, State.flushCell_outside, State.outside_ecc, State.setReg_outside, State.push_outside, State.outside_ite, State.outside_bif, State.foldl_outside, State.foldl_outside_snd, State.foldl_outside_fst, ite_self, Bool.cond_self, Parts.emits_recs, Parts.emits_classLost, Parts.emits_host, Parts.emits_lost, and_self, and_true, true_and, implies_true, forall_const, hP]

@[simp] theorem dramCellRead_outside {P : Parts} (s : State) (port cell : Nat) (flips : List Nat) (hP : P.emits ∧ P.cells = true ∧ P.regs Reg.ECC_CE_CNT0 ∧ P.ecc = true ∧ P.regs Reg.ECC_CE_CNT1 ∧ P.fab = true ∧ P.regs Reg.ECC_INJ ∧ P.fresh = true ∧ P.regs Reg.ECC_LOG_CTRL ∧ P.mode = true ∧ P.regs Reg.ECC_POISON_CNT ∧ P.out = true ∧ (∀ n, P.regs (Reg.ECC_REMAP n)) ∧ P.port = true ∧ P.regs Reg.ECC_RMW_CNT ∧ P.rate = true ∧ P.regs Reg.ECC_STAT ∧ P.smon = true ∧ P.regs Reg.ECC_UE_CNT ∧ P.regs Reg.FAB_DROP ∧ (∀ n, P.regs (Reg.FP_UTIL n)) ∧ P.regs Reg.HIF_CMD_STAT ∧ P.regs Reg.MODE_STAT ∧ P.regs Reg.PACER_STAT ∧ P.regs Reg.SAF_CAUSE ∧ P.regs Reg.SAF_CAUSE_S ∧ P.regs Reg.SAF_CNT ∧ P.regs Reg.SAF_STAT) :
    (dramCellRead s port cell flips).outside P = s.outside P := by
  unfold dramCellRead
  simp only [State.put_outside, State.raiseCause_outside, State.portRead_outside, State.setReg_outside, State.push_outside, State.outside_ite, State.outside_bif, State.foldl_outside, State.foldl_outside_snd, State.foldl_outside_fst, ite_self, Bool.cond_self, Parts.emits_recs, Parts.emits_classLost, Parts.emits_host, Parts.emits_lost, and_self, and_true, true_and, implies_true, forall_const, hP]

@[simp] theorem eccWriteback_outside {P : Parts} (s : State) (cell : Nat) (hP : P.emits ∧ P.cells = true ∧ P.regs Reg.ECC_INJ ∧ P.ecc = true ∧ (∀ n, P.regs (Reg.ECC_REMAP n)) ∧ P.regs Reg.ECC_STAT) :
    (eccWriteback s cell).outside P = s.outside P := by
  unfold eccWriteback
  repeat' split
  all_goals first | rfl | simp only [State.emit_outside, State.storeCell_outside, State.updLog_outside, State.setReg_outside, State.push_outside, State.outside_ite, State.outside_bif, State.foldl_outside, State.foldl_outside_snd, State.foldl_outside_fst, ite_self, Bool.cond_self, Parts.emits_recs, Parts.emits_classLost, Parts.emits_host, Parts.emits_lost, and_self, and_true, true_and, implies_true, forall_const, hP]

@[simp] theorem State.scrubCount_outside {P : Parts} (s : State) (ch : Nat) (hP : P.chan = true ∧ P.ecc = true) :
    (State.scrubCount s ch).outside P = s.outside P := by
  unfold State.scrubCount
  simp only [State.setChan_outside, State.outside_ecc, State.setReg_outside, State.push_outside, State.outside_ite, State.outside_bif, State.foldl_outside, State.foldl_outside_snd, State.foldl_outside_fst, ite_self, Bool.cond_self, Parts.emits_recs, Parts.emits_classLost, Parts.emits_host, Parts.emits_lost, and_self, and_true, true_and, implies_true, forall_const, hP]

@[simp] theorem State.endLap_outside {P : Parts} (s : State) (hP : P.emits ∧ P.ecc = true ∧ P.regs Reg.ECC_SCRUB_LAP) :
    (State.endLap s).outside P = s.outside P := by
  unfold State.endLap
  simp only [State.setFld_outside, State.emit_outside, State.outside_ecc, State.setReg_outside, State.push_outside, State.outside_ite, State.outside_bif, State.foldl_outside, State.foldl_outside_snd, State.foldl_outside_fst, ite_self, Bool.cond_self, Parts.emits_recs, Parts.emits_classLost, Parts.emits_host, Parts.emits_lost, and_self, and_true, true_and, implies_true, forall_const, hP]

@[simp] theorem eccScrubLapDone_outside {P : Parts} (s : State) (hP : P.emits ∧ P.ecc = true ∧ P.regs Reg.ECC_SCRUB_LAP) :
    (eccScrubLapDone s).outside P = s.outside P := by
  unfold eccScrubLapDone
  simp only [State.endLap_outside, State.setReg_outside, State.push_outside, State.outside_ite, State.outside_bif, State.foldl_outside, State.foldl_outside_snd, State.foldl_outside_fst, ite_self, Bool.cond_self, Parts.emits_recs, Parts.emits_classLost, Parts.emits_host, Parts.emits_lost, and_self, and_true, true_and, implies_true, forall_const, hP]

@[simp] theorem scrubRead_outside {P : Parts} (s : State) (flips : List Nat) (hP : P.emits ∧ P.cells = true ∧ P.regs Reg.ECC_CE_CNT0 ∧ P.chan = true ∧ P.regs Reg.ECC_CE_CNT1 ∧ P.ecc = true ∧ P.regs Reg.ECC_INJ ∧ P.rate = true ∧ P.regs Reg.ECC_LOG_CTRL ∧ P.regs Reg.ECC_POISON_CNT ∧ (∀ n, P.regs (Reg.ECC_REMAP n)) ∧ P.regs Reg.ECC_RMW_CNT ∧ P.regs Reg.ECC_SCRUB_LAP ∧ P.regs Reg.ECC_SCRUB_POS ∧ P.regs Reg.ECC_STAT ∧ P.regs Reg.ECC_UE_CNT) :
    (scrubRead s flips).outside P = s.outside P := by
  unfold scrubRead
  simp only [State.setFld_outside, State.storeCell_outside, State.readCell_outside, State.noteRead_outside, State.flushCell_outside, State.scrubCount_outside, eccScrubLapDone_outside, State.outside_ecc, State.setReg_outside, State.push_outside, State.outside_ite, State.outside_bif, State.foldl_outside, State.foldl_outside_snd, State.foldl_outside_fst, ite_self, Bool.cond_self, Parts.emits_recs, Parts.emits_classLost, Parts.emits_host, Parts.emits_lost, and_self, and_true, true_and, implies_true, forall_const, hP]
  repeat' (first | rfl | (split <;> try simp only [State.setFld_outside, State.storeCell_outside, State.readCell_outside, State.noteRead_outside, State.flushCell_outside, State.scrubCount_outside, eccScrubLapDone_outside, State.outside_ecc, State.setReg_outside, State.push_outside, State.outside_ite, State.outside_bif, State.foldl_outside, State.foldl_outside_snd, State.foldl_outside_fst, ite_self, Bool.cond_self, Parts.emits_recs, Parts.emits_classLost, Parts.emits_host, Parts.emits_lost, and_self, and_true, true_and, implies_true, forall_const, hP]))

@[simp] theorem State.sramError_outside {P : Parts} (s : State) (region addr : Nat) (ue : Bool) (hP : P.emits ∧ (∀ n, P.regs (Reg.ECC_SRAM_CE n)) ∧ P.regs Reg.ECC_STAT) :
    (State.sramError s region addr ue).outside P = s.outside P := by
  unfold State.sramError
  simp only [State.raise_outside, State.count_outside, State.emitSafetyHeld_outside, State.setReg_outside, State.push_outside, State.outside_ite, State.outside_bif, State.foldl_outside, State.foldl_outside_snd, State.foldl_outside_fst, ite_self, Bool.cond_self, Parts.emits_recs, Parts.emits_classLost, Parts.emits_host, Parts.emits_lost, and_self, and_true, true_and, implies_true, forall_const, hP]

@[simp] theorem eccLogClr_outside {P : Parts} (s : State) (hP : P.ecc = true ∧ P.regs Reg.ECC_STAT) :
    (eccLogClr s).outside P = s.outside P := by
  unfold eccLogClr
  simp only [State.setLog_outside, State.setReg_outside, State.push_outside, State.outside_ite, State.outside_bif, State.foldl_outside, State.foldl_outside_snd, State.foldl_outside_fst, ite_self, Bool.cond_self, Parts.emits_recs, Parts.emits_classLost, Parts.emits_host, Parts.emits_lost, and_self, and_true, true_and, implies_true, forall_const, hP]

@[simp] theorem State.setLatch_outside {P : Parts} (s : State) (reg : Nat) (who : Reader) (l : List Nat) (hP : P.latch = true) :
    (State.setLatch s reg who l).outside P = s.outside P := by
  unfold State.setLatch
  simp only [State.outside_latch, State.setReg_outside, State.push_outside, State.outside_ite, State.outside_bif, State.foldl_outside, State.foldl_outside_snd, State.foldl_outside_fst, ite_self, Bool.cond_self, Parts.emits_recs, Parts.emits_classLost, Parts.emits_host, Parts.emits_lost, and_self, and_true, true_and, implies_true, forall_const, hP]

@[simp] theorem eccLogSel_outside {P : Parts} (s : State) (who : Reader) (i : Nat) (hP : P.latch = true ∧ P.regs Reg.ECC_LOG_CTRL) :
    (eccLogSel s who i).outside P = s.outside P := by
  unfold eccLogSel
  simp only [State.setLatch_outside, State.setReg_outside, State.push_outside, State.outside_ite, State.outside_bif, State.foldl_outside, State.foldl_outside_snd, State.foldl_outside_fst, ite_self, Bool.cond_self, Parts.emits_recs, Parts.emits_classLost, Parts.emits_host, Parts.emits_lost, and_self, and_true, true_and, implies_true, forall_const, hP]

@[simp] theorem eccInjArm_outside {P : Parts} (s : State) (v : Word) (hP : P.fresh = true ∧ P.regs Reg.ECC_INJ ∧ P.late = true ∧ P.regs Reg.ECC_STAT) :
    (eccInjArm s v).outside P = s.outside P := by
  unfold eccInjArm
  simp only [State.setFld_outside, State.writeJudged_outside, State.setReg_outside, State.push_outside, State.outside_ite, State.outside_bif, State.foldl_outside, State.foldl_outside_snd, State.foldl_outside_fst, ite_self, Bool.cond_self, Parts.emits_recs, Parts.emits_classLost, Parts.emits_host, Parts.emits_lost, and_self, and_true, true_and, implies_true, forall_const, hP]

@[simp] theorem State.disarmInjection_outside {P : Parts} (s : State) (hP : P.regs Reg.ECC_INJ) :
    (State.disarmInjection s).outside P = s.outside P := by
  unfold State.disarmInjection
  simp only [State.clear_outside, State.setReg_outside, State.push_outside, State.outside_ite, State.outside_bif, State.foldl_outside, State.foldl_outside_snd, State.foldl_outside_fst, ite_self, Bool.cond_self, Parts.emits_recs, Parts.emits_classLost, Parts.emits_host, Parts.emits_lost, and_self, and_true, true_and, implies_true, forall_const, hP]

end Sys2Proof.Machine
end

