-- ==== Sys2Proof/Laws/FrameDram.lean ====
section
/-!
SUPPORT. What the operations of Machine/Dram.lean write: each leaves every part of the state as it is but those its hypothesis names.
-/

set_option Elab.async false
set_option linter.unusedSimpArgs false
namespace Sys2Proof.Machine

@[simp] theorem State.setDport_outside {P : Parts} (s : State) (p : Nat) (x : DramPort) (hP : P.dport = true) :
    (State.setDport s p x).outside P = s.outside P := by
  unfold State.setDport
  simp only [State.outside_dport, State.setReg_outside, State.push_outside, State.outside_ite, State.outside_bif, State.foldl_outside, State.foldl_outside_snd, State.foldl_outside_fst, ite_self, Bool.cond_self, Parts.emits_recs, Parts.emits_classLost, Parts.emits_host, Parts.emits_lost, and_self, and_true, true_and, implies_true, forall_const, hP]

@[simp] theorem State.showPorts_outside {P : Parts} (s : State) (hP : (∀ n, P.regs (Reg.DRC_PORT_STAT n))) :
    (State.showPorts s).outside P = s.outside P := by
  unfold State.showPorts
  simp only [State.setFld_outside, State.setReg_outside, State.push_outside, State.outside_ite, State.outside_bif, State.foldl_outside, State.foldl_outside_snd, State.foldl_outside_fst, ite_self, Bool.cond_self, Parts.emits_recs, Parts.emits_classLost, Parts.emits_host, Parts.emits_lost, and_self, and_true, true_and, implies_true, forall_const, hP]

@[simp] theorem State.enterRequests_outside {P : Parts} (s : State) (l : List DramReq) (hP : P.drc = true) :
    (State.enterRequests s l).outside P = s.outside P := by
  unfold State.enterRequests
  simp only [State.outside_drc, State.setReg_outside, State.push_outside, State.outside_ite, State.outside_bif, State.foldl_outside, State.foldl_outside_snd, State.foldl_outside_fst, ite_self, Bool.cond_self, Parts.emits_recs, Parts.emits_classLost, Parts.emits_host, Parts.emits_lost, and_self, and_true, true_and, implies_true, forall_const, hP]

@[simp] theorem State.noteInterval_outside {P : Parts} (s : State) (ch code : Nat) (bank : Option Nat) (ns : Nat) (hP : P.chan = true) :
    (State.noteInterval s ch code bank ns).outside P = s.outside P := by
  unfold State.noteInterval
  simp only [State.setChan_outside, State.setReg_outside, State.push_outside, State.outside_ite, State.outside_bif, State.foldl_outside, State.foldl_outside_snd, State.foldl_outside_fst, ite_self, Bool.cond_self, Parts.emits_recs, Parts.emits_classLost, Parts.emits_host, Parts.emits_lost, and_self, and_true, true_and, implies_true, forall_const, hP]

@[simp] theorem State.neighbourRefresh_outside {P : Parts} (s : State) (ch b row port : Nat) (hP : P.emits ∧ P.chan = true ∧ P.regs Reg.DRC_NREF_CNT ∧ P.out = true ∧ P.regs Reg.DRC_STAT) :
    (State.neighbourRefresh s ch b row port).outside P = s.outside P := by
  unfold State.neighbourRefresh
  simp only [State.raise_outside, State.count_outside, State.emit_outside, State.put_outside, State.setChan_outside, State.noteInterval_outside, State.setReg_outside, State.push_outside, State.outside_ite, State.outside_bif, State.foldl_outside, State.foldl_outside_snd, State.foldl_outside_fst, ite_self, Bool.cond_self, Parts.emits_recs, Parts.emits_classLost, Parts.emits_host, Parts.emits_lost, and_self, and_true, true_and, implies_true, forall_const, hP]

@[simp] theorem State.activateRow_outside {P : Parts} (s : State) (ch : Nat) (r : DramReq) (hP : P.emits ∧ P.chan = true ∧ P.regs Reg.DRC_NREF_CNT ∧ P.out = true ∧ P.regs Reg.DRC_STAT) :
    (State.activateRow s ch r).outside P = s.outside P := by
  unfold State.activateRow
  simp only [State.setChan_outside, State.neighbourRefresh_outside, State.setReg_outside, State.push_outside, State.outside_ite, State.outside_bif, State.foldl_outside, State.foldl_outside_snd, State.foldl_outside_fst, ite_self, Bool.cond_self, Parts.emits_recs, Parts.emits_classLost, Parts.emits_host, Parts.emits_lost, and_self, and_true, true_and, implies_true, forall_const, hP]

@[simp] theorem State.actThWritten_outside {P : Parts} (s : State) (hP : P.emits ∧ P.chan = true ∧ P.regs Reg.DRC_NREF_CNT ∧ P.out = true ∧ P.regs Reg.DRC_STAT) :
    (State.actThWritten s).outside P = s.outside P := by
  unfold State.actThWritten
  simp (maxDischargeDepth := 6) only [State.setChan_outside, State.neighbourRefresh_outside, State.setReg_outside, State.push_outside, State.outside_ite, State.outside_bif, State.foldl_outside, State.foldl_outside_snd, State.foldl_outside_fst, ite_self, Bool.cond_self, Parts.emits_recs, Parts.emits_classLost, Parts.emits_host, Parts.emits_lost, and_self, and_true, true_and, implies_true, forall_const, hP]

@[simp] theorem State.missLatency_outside {P : Parts} (s : State) (ch p lat cause : Nat) (hP : P.emits ∧ P.dport = true ∧ (∀ n, P.regs (Reg.DRC_PORT_MISS n)) ∧ P.rate = true ∧ (∀ n, P.regs (Reg.DRC_PORT_STAT n)) ∧ P.regs Reg.DRC_STAT) :
    (State.missLatency s ch p lat cause).outside P = s.outside P := by
  unfold State.missLatency
  simp only [State.setFld_outside, State.raise_outside, State.count_outside, State.emitLimited_outside, State.setDport_outside, State.setReg_outside, State.push_outside, State.outside_ite, State.outside_bif, State.foldl_outside, State.foldl_outside_snd, State.foldl_outside_fst, ite_self, Bool.cond_self, Parts.emits_recs, Parts.emits_classLost, Parts.emits_host, Parts.emits_lost, and_self, and_true, true_and, implies_true, forall_const, hP]

@[simp] theorem State.serveRequest_outside {P : Parts} (s : State) (ch : Nat) (r : DramReq) (hP : P.emits ∧ P.chan = true ∧ P.regs Reg.DRC_NREF_CNT ∧ P.dport = true ∧ (∀ n, P.regs (Reg.DRC_PORT_MAXLAT n)) ∧ P.drc = true ∧ (∀ n, P.regs (Reg.DRC_PORT_MISS n)) ∧ P.out = true ∧ (∀ n, P.regs (Reg.DRC_PORT_REQ n)) ∧ P.rate = true ∧ (∀ n, P.regs (Reg.DRC_PORT_STAT n)) ∧ P.regs Reg.DRC_STAT) :
    (State.serveRequest s ch r).outside P = s.outside P := by
  unfold State.serveRequest
  simp only [State.count_outside, State.setChan_outside, State.activateRow_outside, State.missLatency_outside, State.outside_drc, State.setReg_outside, State.push_outside, State.outside_ite, State.outside_bif, State.foldl_outside, State.foldl_outside_snd, State.foldl_outside_fst, ite_self, Bool.cond_self, Parts.emits_recs, Parts.emits_classLost, Parts.emits_host, Parts.emits_lost, and_self, and_true, true_and, implies_true, forall_const, hP]

@[simp] theorem State.issueRefresh_outside {P : Parts} (s : State) (ch : Nat) (hP : P.chan = true ∧ P.out = true) :
    (State.issueRefresh s ch).outside P = s.outside P := by
  unfold State.issueRefresh
  simp only [State.put_outside, State.setChan_outside, State.setReg_outside, State.push_outside, State.outside_ite, State.outside_bif, State.foldl_outside, State.foldl_outside_snd, State.foldl_outside_fst, ite_self, Bool.cond_self, Parts.emits_recs, Parts.emits_classLost, Parts.emits_host, Parts.emits_lost, and_self, and_true, true_and, implies_true, forall_const, hP]

@[simp] theorem refreshDue_outside {P : Parts} (s : State) (ch : Nat) (hP : P.chan = true ∧ P.regs Reg.DRC_REF ∧ P.out = true) :
    (refreshDue s ch).outside P = s.outside P := by
  unfold refreshDue
  simp only [State.setFld_outside, State.setChan_outside, State.issueRefresh_outside, State.setReg_outside, State.push_outside, State.outside_ite, State.outside_bif, State.foldl_outside, State.foldl_outside_snd, State.foldl_outside_fst, ite_self, Bool.cond_self, Parts.emits_recs, Parts.emits_classLost, Parts.emits_host, Parts.emits_lost, and_self, and_true, true_and, implies_true, forall_const, hP]

@[simp] theorem State.catchUp_outside {P : Parts} (s : State) (ch : Nat) (hP : P.chan = true ∧ P.regs Reg.DRC_CATCHUP_CNT ∧ P.out = true) :
    (State.catchUp s ch).outside P = s.outside P := by
  unfold State.catchUp
  simp only [State.count_outside, State.setChan_outside, State.noteInterval_outside, State.issueRefresh_outside, State.setReg_outside, State.push_outside, State.outside_ite, State.outside_bif, State.foldl_outside, State.foldl_outside_snd, State.foldl_outside_fst, ite_self, Bool.cond_self, Parts.emits_recs, Parts.emits_classLost, Parts.emits_host, Parts.emits_lost, and_self, and_true, true_and, implies_true, forall_const, hP]

@[simp] theorem refreshCatchup_outside {P : Parts} (s : State) (ch : Nat) (hP : P.chan = true ∧ P.regs Reg.DRC_CATCHUP_CNT ∧ P.out = true) :
    (refreshCatchup s ch).outside P = s.outside P := by
  unfold refreshCatchup
  simp only [State.catchUp_outside, State.setReg_outside, State.push_outside, State.outside_ite, State.outside_bif, State.foldl_outside, State.foldl_outside_snd, State.foldl_outside_fst, ite_self, Bool.cond_self, Parts.emits_recs, Parts.emits_classLost, Parts.emits_host, Parts.emits_lost, and_self, and_true, true_and, implies_true, forall_const, hP]

@[simp] theorem dramRequest_outside {P : Parts} (s : State) (ch : Nat) (arrivals : List DramReq) (hP : P.emits ∧ P.chan = true ∧ P.regs Reg.DRC_CATCHUP_CNT ∧ P.dport = true ∧ P.regs Reg.DRC_NREF_CNT ∧ P.drc = true ∧ (∀ n, P.regs (Reg.DRC_PORT_MAXLAT n)) ∧ P.out = true ∧ (∀ n, P.regs (Reg.DRC_PORT_MISS n)) ∧ P.rate = true ∧ (∀ n, P.regs (Reg.DRC_PORT_REQ n)) ∧ (∀ n, P.regs (Reg.DRC_PORT_STAT n)) ∧ P.regs Reg.DRC_REF ∧ P.regs Reg.DRC_STAT) :
    (dramRequest s ch arrivals).outside P = s.outside P := by
  unfold dramRequest
  simp only [State.showPorts_outside, State.enterRequests_outside, State.serveRequest_outside, refreshDue_outside, refreshCatchup_outside, State.setReg_outside, State.push_outside, State.outside_ite, State.outside_bif, State.foldl_outside, State.foldl_outside_snd, State.foldl_outside_fst, ite_self, Bool.cond_self, Parts.emits_recs, Parts.emits_classLost, Parts.emits_host, Parts.emits_lost, and_self, and_true, true_and, implies_true, forall_const, hP]
  repeat' (first | rfl | (split <;> try simp only [State.showPorts_outside, State.enterRequests_outside, State.serveRequest_outside, refreshDue_outside, refreshCatchup_outside, State.setReg_outside, State.push_outside, State.outside_ite, State.outside_bif, State.foldl_outside, State.foldl_outside_snd, State.foldl_outside_fst, ite_self, Bool.cond_self, Parts.emits_recs, Parts.emits_classLost, Parts.emits_host, Parts.emits_lost, and_self, and_true, true_and, implies_true, forall_const, hP]))

@[simp] theorem dramTempRead_outside {P : Parts} (s : State) (temp : BitVec 16) (hP : P.drc = true ∧ P.regs Reg.DRC_REF ∧ P.regs Reg.DRC_TEMP) :
    (dramTempRead s temp).outside P = s.outside P := by
  unfold dramTempRead
  simp only [State.setFld_outside, State.outside_drc, State.setReg_outside, State.push_outside, State.outside_ite, State.outside_bif, State.foldl_outside, State.foldl_outside_snd, State.foldl_outside_fst, ite_self, Bool.cond_self, Parts.emits_recs, Parts.emits_classLost, Parts.emits_host, Parts.emits_lost, and_self, and_true, true_and, implies_true, forall_const, hP]

@[simp] theorem refreshWindowStart_outside {P : Parts} (s : State) (hP : P.chan = true ∧ P.drc = true) :
    (refreshWindowStart s).outside P = s.outside P := by
  unfold refreshWindowStart
  simp only [State.setChan_outside, State.outside_drc, State.setReg_outside, State.push_outside, State.outside_ite, State.outside_bif, State.foldl_outside, State.foldl_outside_snd, State.foldl_outside_fst, ite_self, Bool.cond_self, Parts.emits_recs, Parts.emits_classLost, Parts.emits_host, Parts.emits_lost, and_self, and_true, true_and, implies_true, forall_const, hP]

@[simp] theorem State.showTraining_outside {P : Parts} (s : State) (hP : P.regs Reg.DRC_STAT) :
    (State.showTraining s).outside P = s.outside P := by
  unfold State.showTraining
  simp only [State.setFld_outside, State.setReg_outside, State.push_outside, State.outside_ite, State.outside_bif, State.foldl_outside, State.foldl_outside_snd, State.foldl_outside_fst, ite_self, Bool.cond_self, Parts.emits_recs, Parts.emits_classLost, Parts.emits_host, Parts.emits_lost, and_self, and_true, true_and, implies_true, forall_const, hP]

@[simp] theorem State.startTraining_outside {P : Parts} (s : State) (ch : Nat) (t : Training) (hP : P.chan = true ∧ P.regs Reg.DRC_STAT) :
    (State.startTraining s ch t).outside P = s.outside P := by
  unfold State.startTraining
  simp only [State.setChan_outside, State.showTraining_outside, State.setReg_outside, State.push_outside, State.outside_ite, State.outside_bif, State.foldl_outside, State.foldl_outside_snd, State.foldl_outside_fst, ite_self, Bool.cond_self, Parts.emits_recs, Parts.emits_classLost, Parts.emits_host, Parts.emits_lost, and_self, and_true, true_and, implies_true, forall_const, hP]

@[simp] theorem periodicTraining_outside {P : Parts} (s : State) (ch : Nat) (hP : P.chan = true ∧ P.regs Reg.DRC_STAT) :
    (periodicTraining s ch).outside P = s.outside P := by
  unfold periodicTraining
  simp only [State.startTraining_outside, State.setReg_outside, State.push_outside, State.outside_ite, State.outside_bif, State.foldl_outside, State.foldl_outside_snd, State.foldl_outside_fst, ite_self, Bool.cond_self, Parts.emits_recs, Parts.emits_classLost, Parts.emits_host, Parts.emits_lost, and_self, and_true, true_and, implies_true, forall_const, hP]

@[simp] theorem State.setTrained_outside {P : Parts} (s : State) (op : Nat) (hP : P.drc = true) :
    (State.setTrained s op).outside P = s.outside P := by
  unfold State.setTrained
  simp only [State.outside_drc, State.setReg_outside, State.push_outside, State.outside_ite, State.outside_bif, State.foldl_outside, State.foldl_outside_snd, State.foldl_outside_fst, ite_self, Bool.cond_self, Parts.emits_recs, Parts.emits_classLost, Parts.emits_host, Parts.emits_lost, and_self, and_true, true_and, implies_true, forall_const, hP]

@[simp] theorem State.showTTrain_outside {P : Parts} (s : State) (hP : P.regs Reg.DRC_TEMP) :
    (State.showTTrain s).outside P = s.outside P := by
  unfold State.showTTrain
  simp only [State.setFld_outside, State.setReg_outside, State.push_outside, State.outside_ite, State.outside_bif, State.foldl_outside, State.foldl_outside_snd, State.foldl_outside_fst, ite_self, Bool.cond_self, Parts.emits_recs, Parts.emits_classLost, Parts.emits_host, Parts.emits_lost, and_self, and_true, true_and, implies_true, forall_const, hP]

@[simp] theorem State.beginPending_outside {P : Parts} (s : State) (hP : P.emits ∧ P.cells = true ∧ P.regs Reg.DRC_CATCHUP_CNT ∧ P.chan = true ∧ P.regs Reg.DRC_STAT ∧ P.drc = true ∧ P.regs Reg.ECC_CE_CNT0 ∧ P.ecc = true ∧ P.regs Reg.ECC_CE_CNT1 ∧ P.out = true ∧ P.regs Reg.ECC_INJ ∧ P.rate = true ∧ P.regs Reg.ECC_LOG_CTRL ∧ P.regs Reg.ECC_POISON_CNT ∧ (∀ n, P.regs (Reg.ECC_REMAP n)) ∧ P.regs Reg.ECC_RMW_CNT ∧ P.regs Reg.ECC_STAT ∧ P.regs Reg.ECC_UE_CNT) :
    (State.beginPending s).outside P = s.outside P := by
  unfold State.beginPending
  simp only [State.raise_outside, State.clear_outside, State.emit_outside, State.setChan_outside, State.flushMerge_outside, State.catchUp_outside, State.outside_drc, State.setReg_outside, State.push_outside, State.outside_ite, State.outside_bif, State.foldl_outside, State.foldl_outside_snd, State.foldl_outside_fst, ite_self, Bool.cond_self, Parts.emits_recs, Parts.emits_classLost, Parts.emits_host, Parts.emits_lost, and_self, and_true, true_and, implies_true, forall_const, hP]

@[simp] theorem State.trainNext_outside {P : Parts} (s : State) (l : List (Nat × Training)) (hP : P.emits ∧ P.cells = true ∧ P.regs Reg.DRC_CATCHUP_CNT ∧ P.chan = true ∧ P.regs Reg.DRC_STAT ∧ P.drc = true ∧ P.regs Reg.ECC_CE_CNT0 ∧ P.ecc = true ∧ P.regs Reg.ECC_CE_CNT1 ∧ P.out = true ∧ P.regs Reg.ECC_INJ ∧ P.rate = true ∧ P.regs Reg.ECC_LOG_CTRL ∧ P.regs Reg.ECC_POISON_CNT ∧ (∀ n, P.regs (Reg.ECC_REMAP n)) ∧ P.regs Reg.ECC_RMW_CNT ∧ P.regs Reg.ECC_STAT ∧ P.regs Reg.ECC_UE_CNT) :
    (State.trainNext s l).outside P = s.outside P := by
  unfold State.trainNext
  repeat' split
  all_goals first | rfl | simp only [State.startTraining_outside, State.beginPending_outside, State.outside_drc, State.setReg_outside, State.push_outside, State.outside_ite, State.outside_bif, State.foldl_outside, State.foldl_outside_snd, State.foldl_outside_fst, ite_self, Bool.cond_self, Parts.emits_recs, Parts.emits_classLost, Parts.emits_host, Parts.emits_lost, and_self, and_true, true_and, implies_true, forall_const, hP]

@[simp] theorem fullTraining_outside {P : Parts} (s : State) (ch : Nat) (hP : P.emits ∧ P.cells = true ∧ P.regs Reg.DRC_CATCHUP_CNT ∧ P.chan = true ∧ P.regs Reg.DRC_STAT ∧ P.drc = true ∧ P.regs Reg.ECC_CE_CNT0 ∧ P.ecc = true ∧ P.regs Reg.ECC_CE_CNT1 ∧ P.out = true ∧ P.regs Reg.ECC_INJ ∧ P.rate = true ∧ P.regs Reg.ECC_LOG_CTRL ∧ P.regs Reg.ECC_POISON_CNT ∧ (∀ n, P.regs (Reg.ECC_REMAP n)) ∧ P.regs Reg.ECC_RMW_CNT ∧ P.regs Reg.ECC_STAT ∧ P.regs Reg.ECC_UE_CNT) :
    (fullTraining s ch).outside P = s.outside P := by
  unfold fullTraining
  simp only [State.trainNext_outside, State.outside_drc, State.setReg_outside, State.push_outside, State.outside_ite, State.outside_bif, State.foldl_outside, State.foldl_outside_snd, State.foldl_outside_fst, ite_self, Bool.cond_self, Parts.emits_recs, Parts.emits_classLost, Parts.emits_host, Parts.emits_lost, and_self, and_true, true_and, implies_true, forall_const, hP]

@[simp] theorem State.requestOp_outside {P : Parts} (s : State) (op : Nat) (hP : P.emits ∧ P.cells = true ∧ P.regs Reg.DRC_CATCHUP_CNT ∧ P.chan = true ∧ P.regs Reg.DRC_FREQ_CNT ∧ P.drc = true ∧ P.regs Reg.DRC_STAT ∧ P.ecc = true ∧ P.regs Reg.ECC_CE_CNT0 ∧ P.out = true ∧ P.regs Reg.ECC_CE_CNT1 ∧ P.rate = true ∧ P.regs Reg.ECC_INJ ∧ P.regs Reg.ECC_LOG_CTRL ∧ P.regs Reg.ECC_POISON_CNT ∧ (∀ n, P.regs (Reg.ECC_REMAP n)) ∧ P.regs Reg.ECC_RMW_CNT ∧ P.regs Reg.ECC_STAT ∧ P.regs Reg.ECC_UE_CNT) :
    (State.requestOp s op).outside P = s.outside P := by
  unfold State.requestOp
  simp only [State.setFld_outside, State.raise_outside, State.count_outside, State.emit_outside, State.beginPending_outside, State.setReg_outside, State.push_outside, State.outside_ite, State.outside_bif, State.foldl_outside, State.foldl_outside_snd, State.foldl_outside_fst, ite_self, Bool.cond_self, Parts.emits_recs, Parts.emits_classLost, Parts.emits_host, Parts.emits_lost, and_self, and_true, true_and, implies_true, forall_const, hP]

@[simp] theorem opPointChange_outside {P : Parts} (s : State) (hP : P.emits ∧ P.cells = true ∧ P.regs Reg.DRC_CATCHUP_CNT ∧ P.chan = true ∧ P.regs Reg.DRC_FREQ_CNT ∧ P.drc = true ∧ P.regs Reg.DRC_STAT ∧ P.ecc = true ∧ P.regs Reg.ECC_CE_CNT0 ∧ P.out = true ∧ P.regs Reg.ECC_CE_CNT1 ∧ P.rate = true ∧ P.regs Reg.ECC_INJ ∧ P.regs Reg.ECC_LOG_CTRL ∧ P.regs Reg.ECC_POISON_CNT ∧ (∀ n, P.regs (Reg.ECC_REMAP n)) ∧ P.regs Reg.ECC_RMW_CNT ∧ P.regs Reg.ECC_STAT ∧ P.regs Reg.ECC_UE_CNT) :
    (opPointChange s).outside P = s.outside P := by
  unfold opPointChange
  simp only [State.beginPending_outside, State.requestOp_outside, State.setReg_outside, State.push_outside, State.outside_ite, State.outside_bif, State.foldl_outside, State.foldl_outside_snd, State.foldl_outside_fst, ite_self, Bool.cond_self, Parts.emits_recs, Parts.emits_classLost, Parts.emits_host, Parts.emits_lost, and_self, and_true, true_and, implies_true, forall_const, hP]

@[simp] theorem State.trainFailed_outside {P : Parts} (s : State) (ch op : Nat) (full : Bool) (hP : P.emits ∧ P.chan = true ∧ P.regs Reg.DRC_STAT ∧ P.fab = true ∧ P.regs Reg.FAB_DROP ∧ P.fresh = true ∧ (∀ n, P.regs (Reg.FP_UTIL n)) ∧ P.mode = true ∧ P.regs Reg.HIF_CMD_STAT ∧ P.out = true ∧ P.regs Reg.MODE_STAT ∧ P.port = true ∧ P.regs Reg.PACER_STAT ∧ P.rate = true ∧ P.regs Reg.SAF_CAUSE ∧ P.smon = true ∧ P.regs Reg.SAF_CAUSE_S ∧ P.regs Reg.SAF_CNT ∧ P.regs Reg.SAF_STAT) :
    (State.trainFailed s ch op full).outside P = s.outside P := by
  unfold State.trainFailed
  simp only [State.raise_outside, State.emit_outside, State.raiseCause_outside, State.setChan_outside, State.setReg_outside, State.push_outside, State.outside_ite, State.outside_bif, State.foldl_outside, State.foldl_outside_snd, State.foldl_outside_fst, ite_self, Bool.cond_self, Parts.emits_recs, Parts.emits_classLost, Parts.emits_host, Parts.emits_lost, and_self, and_true, true_and, implies_true, forall_const, hP]

@[simp] theorem State.changeTrained_outside {P : Parts} (s : State) (ch op : Nat) (full failed : Bool) (hP : P.emits ∧ P.chan = true ∧ P.regs Reg.DRC_STAT ∧ P.fab = true ∧ P.regs Reg.FAB_DROP ∧ P.fresh = true ∧ (∀ n, P.regs (Reg.FP_UTIL n)) ∧ P.mode = true ∧ P.regs Reg.HIF_CMD_STAT ∧ P.out = true ∧ P.regs Reg.MODE_STAT ∧ P.port = true ∧ P.regs Reg.PACER_STAT ∧ P.rate = true ∧ P.regs Reg.SAF_CAUSE ∧ P.smon = true ∧ P.regs Reg.SAF_CAUSE_S ∧ P.regs Reg.SAF_CNT ∧ P.regs Reg.SAF_STAT) :
    (State.changeTrained s ch op full failed).outside P = s.outside P := by
  unfold State.changeTrained
  simp only [State.dropCause_outside, State.setChan_outside, State.trainFailed_outside, State.setReg_outside, State.push_outside, State.outside_ite, State.outside_bif, State.foldl_outside, State.foldl_outside_snd, State.foldl_outside_fst, ite_self, Bool.cond_self, Parts.emits_recs, Parts.emits_classLost, Parts.emits_host, Parts.emits_lost, and_self, and_true, true_and, implies_true, forall_const, hP]

@[simp] theorem drcFreqDone_outside {P : Parts} (s : State) (end_ : ChangeEnd) (hP : P.emits ∧ P.cells = true ∧ P.regs Reg.DRC_CATCHUP_CNT ∧ P.chan = true ∧ P.regs Reg.DRC_FREQ_CNT ∧ P.chk = true ∧ P.regs Reg.DRC_STAT ∧ P.drc = true ∧ P.regs Reg.DRC_TEMP ∧ P.ecc = true ∧ P.regs Reg.DRC_TRAIN_CNT ∧ P.fab = true ∧ P.regs Reg.ECC_CE_CNT0 ∧ P.fresh = true ∧ P.regs Reg.ECC_CE_CNT1 ∧ P.mode = true ∧ P.regs Reg.ECC_INJ ∧ P.out = true ∧ P.regs Reg.ECC_LOG_CTRL ∧ P.pch = true ∧ P.regs Reg.ECC_POISON_CNT ∧ P.port = true ∧ (∀ n, P.regs (Reg.ECC_REMAP n)) ∧ P.rate = true ∧ P.regs Reg.ECC_RMW_CNT ∧ P.res = true ∧ P.regs Reg.ECC_STAT ∧ P.smon = true ∧ P.regs Reg.ECC_UE_CNT ∧ P.trust = true ∧ P.regs Reg.FAB_DROP ∧ (∀ n, P.regs (Reg.FP_UTIL n)) ∧ P.regs Reg.HIF_CMD_STAT ∧ P.regs Reg.MODE_STAT ∧ P.regs Reg.PACER_STAT ∧ (∀ n, P.regs (Reg.PCH_CONV_STAT n)) ∧ (∀ n, P.regs (Reg.PCH_PLAUS_EFF n)) ∧ (∀ n, P.regs (Reg.PCH_STAT n)) ∧ P.regs Reg.SAF_CAUSE ∧ P.regs Reg.SAF_CAUSE_S ∧ P.regs Reg.SAF_CNT ∧ P.regs Reg.SAF_STAT ∧ P.regs Reg.SAF_VER0 ∧ P.regs Reg.SAF_VER1 ∧ P.regs Reg.SAF_W) :
    (drcFreqDone s end_).outside P = s.outside P := by
  unfold drcFreqDone
  repeat' split
  all_goals first | rfl | simp only [State.setFld_outside, State.clear_outside, State.count_outside, State.emit_outside, State.changeAt_outside, State.setChan_outside, State.noteInterval_outside, State.setTrained_outside, State.showTTrain_outside, State.beginPending_outside, State.changeTrained_outside, State.outside_drc, State.setReg_outside, State.push_outside, State.outside_ite, State.outside_bif, State.foldl_outside, State.foldl_outside_snd, State.foldl_outside_fst, ite_self, Bool.cond_self, Parts.emits_recs, Parts.emits_classLost, Parts.emits_host, Parts.emits_lost, and_self, and_true, true_and, implies_true, forall_const, hP]

@[simp] theorem drcCfgWrite_outside {P : Parts} (s : State) (v : Word) (hP : P.emits ∧ P.cells = true ∧ P.regs Reg.DRC_CATCHUP_CNT ∧ P.chan = true ∧ P.regs Reg.DRC_CFG ∧ P.drc = true ∧ P.regs Reg.DRC_FREQ_CNT ∧ P.ecc = true ∧ P.regs Reg.DRC_STAT ∧ P.fresh = true ∧ P.regs Reg.ECC_CE_CNT0 ∧ P.late = true ∧ P.regs Reg.ECC_CE_CNT1 ∧ P.out = true ∧ P.regs Reg.ECC_INJ ∧ P.rate = true ∧ P.regs Reg.ECC_LOG_CTRL ∧ P.regs Reg.ECC_POISON_CNT ∧ (∀ n, P.regs (Reg.ECC_REMAP n)) ∧ P.regs Reg.ECC_RMW_CNT ∧ P.regs Reg.ECC_STAT ∧ P.regs Reg.ECC_UE_CNT) :
    (drcCfgWrite s v).outside P = s.outside P := by
  unfold drcCfgWrite
  simp only [State.writeJudged_outside, State.requestOp_outside, State.setReg_outside, State.push_outside, State.outside_ite, State.outside_bif, State.foldl_outside, State.foldl_outside_snd, State.foldl_outside_fst, ite_self, Bool.cond_self, Parts.emits_recs, Parts.emits_classLost, Parts.emits_host, Parts.emits_lost, and_self, and_true, true_and, implies_true, forall_const, hP]

@[simp] theorem drcPortTgtWrite_outside {P : Parts} (s : State) (p : Nat) (v : Word) (hP : P.fresh = true ∧ (∀ n, P.regs (Reg.DRC_PORT_TGT n)) ∧ P.late = true ∧ P.regs Reg.DRC_STAT) :
    (drcPortTgtWrite s p v).outside P = s.outside P := by
  unfold drcPortTgtWrite
  simp only [State.writeJudged_outside, State.setReg_outside, State.push_outside, State.outside_ite, State.outside_bif, State.foldl_outside, State.foldl_outside_snd, State.foldl_outside_fst, ite_self, Bool.cond_self, Parts.emits_recs, Parts.emits_classLost, Parts.emits_host, Parts.emits_lost, and_self, and_true, true_and, implies_true, forall_const, hP]

@[simp] theorem State.trainingOver_outside {P : Parts} (s : State) (ch : Nat) (full ok : Bool) (hP : P.emits ∧ P.cells = true ∧ P.regs Reg.DRC_CATCHUP_CNT ∧ P.chan = true ∧ P.regs Reg.DRC_STAT ∧ P.drc = true ∧ P.regs Reg.DRC_TEMP ∧ P.ecc = true ∧ P.regs Reg.DRC_TRAIN_CNT ∧ P.out = true ∧ P.regs Reg.ECC_CE_CNT0 ∧ P.rate = true ∧ P.regs Reg.ECC_CE_CNT1 ∧ P.regs Reg.ECC_INJ ∧ P.regs Reg.ECC_LOG_CTRL ∧ P.regs Reg.ECC_POISON_CNT ∧ (∀ n, P.regs (Reg.ECC_REMAP n)) ∧ P.regs Reg.ECC_RMW_CNT ∧ P.regs Reg.ECC_STAT ∧ P.regs Reg.ECC_UE_CNT) :
    (State.trainingOver s ch full ok).outside P = s.outside P := by
  unfold State.trainingOver
  simp only [State.count_outside, State.setChan_outside, State.noteInterval_outside, State.showTraining_outside, State.setTrained_outside, State.showTTrain_outside, State.trainNext_outside, State.outside_drc, State.setReg_outside, State.push_outside, State.outside_ite, State.outside_bif, State.foldl_outside, State.foldl_outside_snd, State.foldl_outside_fst, ite_self, Bool.cond_self, Parts.emits_recs, Parts.emits_classLost, Parts.emits_host, Parts.emits_lost, and_self, and_true, true_and, implies_true, forall_const, hP]

@[simp] theorem trainingDone_outside {P : Parts} (s : State) (ch : Nat) (ok : Bool) (hP : P.emits ∧ P.cells = true ∧ P.regs Reg.DRC_CATCHUP_CNT ∧ P.chan = true ∧ P.regs Reg.DRC_STAT ∧ P.drc = true ∧ P.regs Reg.DRC_TEMP ∧ P.ecc = true ∧ P.regs Reg.DRC_TRAIN_CNT ∧ P.fab = true ∧ P.regs Reg.ECC_CE_CNT0 ∧ P.fresh = true ∧ P.regs Reg.ECC_CE_CNT1 ∧ P.mode = true ∧ P.regs Reg.ECC_INJ ∧ P.out = true ∧ P.regs Reg.ECC_LOG_CTRL ∧ P.port = true ∧ P.regs Reg.ECC_POISON_CNT ∧ P.rate = true ∧ (∀ n, P.regs (Reg.ECC_REMAP n)) ∧ P.smon = true ∧ P.regs Reg.ECC_RMW_CNT ∧ P.regs Reg.ECC_STAT ∧ P.regs Reg.ECC_UE_CNT ∧ P.regs Reg.FAB_DROP ∧ (∀ n, P.regs (Reg.FP_UTIL n)) ∧ P.regs Reg.HIF_CMD_STAT ∧ P.regs Reg.MODE_STAT ∧ P.regs Reg.PACER_STAT ∧ P.regs Reg.SAF_CAUSE ∧ P.regs Reg.SAF_CAUSE_S ∧ P.regs Reg.SAF_CNT ∧ P.regs Reg.SAF_STAT) :
    (trainingDone s ch ok).outside P = s.outside P := by
  unfold trainingDone
  simp only [State.dropCause_outside, State.setChan_outside, State.trainFailed_outside, State.trainingOver_outside, State.setReg_outside, State.push_outside, State.outside_ite, State.outside_bif, State.foldl_outside, State.foldl_outside_snd, State.foldl_outside_fst, ite_self, Bool.cond_self, Parts.emits_recs, Parts.emits_classLost, Parts.emits_host, Parts.emits_lost, and_self, and_true, true_and, implies_true, forall_const, hP]

@[simp] theorem powerDownEntry_outside {P : Parts} (s : State) (ch : Nat) (hP : P.chan = true) :
    (powerDownEntry s ch).outside P = s.outside P := by
  unfold powerDownEntry
  simp only [State.setChan_outside, State.setReg_outside, State.push_outside, State.outside_ite, State.outside_bif, State.foldl_outside, State.foldl_outside_snd, State.foldl_outside_fst, ite_self, Bool.cond_self, Parts.emits_recs, Parts.emits_classLost, Parts.emits_host, Parts.emits_lost, and_self, and_true, true_and, implies_true, forall_const, hP]

@[simp] theorem selfRefreshEntry_outside {P : Parts} (s : State) (hP : P.emits ∧ P.cells = true ∧ P.regs Reg.DRC_SR_CNT ∧ P.chan = true ∧ P.regs Reg.DRC_STAT ∧ P.drc = true ∧ P.regs Reg.ECC_CE_CNT0 ∧ P.ecc = true ∧ P.regs Reg.ECC_CE_CNT1 ∧ P.rate = true ∧ P.regs Reg.ECC_INJ ∧ P.regs Reg.ECC_LOG_CTRL ∧ P.regs Reg.ECC_POISON_CNT ∧ (∀ n, P.regs (Reg.ECC_REMAP n)) ∧ P.regs Reg.ECC_RMW_CNT ∧ P.regs Reg.ECC_STAT ∧ P.regs Reg.ECC_UE_CNT) :
    (selfRefreshEntry s).outside P = s.outside P := by
  unfold selfRefreshEntry
  simp only [State.setFld_outside, State.count_outside, State.setChan_outside, State.flushMerge_outside, State.outside_drc, State.setReg_outside, State.push_outside, State.outside_ite, State.outside_bif, State.foldl_outside, State.foldl_outside_snd, State.foldl_outside_fst, ite_self, Bool.cond_self, Parts.emits_recs, Parts.emits_classLost, Parts.emits_host, Parts.emits_lost, and_self, and_true, true_and, implies_true, forall_const, hP]

@[simp] theorem mpllStop_outside {P : Parts} (s : State) (hP : P.drc = true ∧ P.regs Reg.CLK_STAT) :
    (mpllStop s).outside P = s.outside P := by
  unfold mpllStop
  simp only [State.clear_outside, State.outside_drc, State.setReg_outside, State.push_outside, State.outside_ite, State.outside_bif, State.foldl_outside, State.foldl_outside_snd, State.foldl_outside_fst, ite_self, Bool.cond_self, Parts.emits_recs, Parts.emits_classLost, Parts.emits_host, Parts.emits_lost, and_self, and_true, true_and, implies_true, forall_const, hP]

@[simp] theorem State.drcStatShown_outside {P : Parts} (s : State) (hP : P.regs Reg.DRC_STAT) :
    (State.drcStatShown s).outside P = s.outside P := by
  unfold State.drcStatShown
  simp only [State.setFld_outside, State.setReg_outside, State.push_outside, State.outside_ite, State.outside_bif, State.foldl_outside, State.foldl_outside_snd, State.foldl_outside_fst, ite_self, Bool.cond_self, Parts.emits_recs, Parts.emits_classLost, Parts.emits_host, Parts.emits_lost, and_self, and_true, true_and, implies_true, forall_const, hP]

@[simp] theorem State.clkStatShown_outside {P : Parts} (s : State) (hP : P.regs Reg.CLK_STAT) :
    (State.clkStatShown s).outside P = s.outside P := by
  unfold State.clkStatShown
  simp only [State.setFld_outside, State.clear_outside, State.setReg_outside, State.push_outside, State.outside_ite, State.outside_bif, State.foldl_outside, State.foldl_outside_snd, State.foldl_outside_fst, ite_self, Bool.cond_self, Parts.emits_recs, Parts.emits_classLost, Parts.emits_host, Parts.emits_lost, and_self, and_true, true_and, implies_true, forall_const, hP]

@[simp] theorem State.exitSelfRefresh_outside {P : Parts} (s : State) (hP : P.emits ∧ P.cells = true ∧ P.regs Reg.CLK_STAT ∧ P.chan = true ∧ P.regs Reg.DRC_CATCHUP_CNT ∧ P.drc = true ∧ P.regs Reg.DRC_SR_TIME ∧ P.ecc = true ∧ P.regs Reg.DRC_STAT ∧ P.out = true ∧ P.regs Reg.ECC_CE_CNT0 ∧ P.rate = true ∧ P.regs Reg.ECC_CE_CNT1 ∧ P.regs Reg.ECC_INJ ∧ P.regs Reg.ECC_LOG_CTRL ∧ P.regs Reg.ECC_POISON_CNT ∧ (∀ n, P.regs (Reg.ECC_REMAP n)) ∧ P.regs Reg.ECC_RMW_CNT ∧ P.regs Reg.ECC_STAT ∧ P.regs Reg.ECC_UE_CNT) :
    (State.exitSelfRefresh s).outside P = s.outside P := by
  unfold State.exitSelfRefresh
  simp only [State.setFld_outside, State.raise_outside, State.setChan_outside, State.noteInterval_outside, State.trainNext_outside, State.outside_drc, State.setReg_outside, State.push_outside, State.outside_ite, State.outside_bif, State.foldl_outside, State.foldl_outside_snd, State.foldl_outside_fst, ite_self, Bool.cond_self, Parts.emits_recs, Parts.emits_classLost, Parts.emits_host, Parts.emits_lost, and_self, and_true, true_and, implies_true, forall_const, hP]

@[simp] theorem selfRefreshExit_outside {P : Parts} (s : State) (hP : P.emits ∧ P.cells = true ∧ P.regs Reg.CLK_STAT ∧ P.chan = true ∧ P.regs Reg.DRC_CATCHUP_CNT ∧ P.drc = true ∧ P.regs Reg.DRC_SR_TIME ∧ P.ecc = true ∧ P.regs Reg.DRC_STAT ∧ P.out = true ∧ P.regs Reg.ECC_CE_CNT0 ∧ P.rate = true ∧ P.regs Reg.ECC_CE_CNT1 ∧ P.regs Reg.ECC_INJ ∧ P.regs Reg.ECC_LOG_CTRL ∧ P.regs Reg.ECC_POISON_CNT ∧ (∀ n, P.regs (Reg.ECC_REMAP n)) ∧ P.regs Reg.ECC_RMW_CNT ∧ P.regs Reg.ECC_STAT ∧ P.regs Reg.ECC_UE_CNT) :
    (selfRefreshExit s).outside P = s.outside P := by
  unfold selfRefreshExit
  simp only [State.exitSelfRefresh_outside, State.setReg_outside, State.push_outside, State.outside_ite, State.outside_bif, State.foldl_outside, State.foldl_outside_snd, State.foldl_outside_fst, ite_self, Bool.cond_self, Parts.emits_recs, Parts.emits_classLost, Parts.emits_host, Parts.emits_lost, and_self, and_true, true_and, implies_true, forall_const, hP]

end Sys2Proof.Machine
end

