-- ==== Sys2Proof/Laws/FrameElapsed.lean ====
section
/-!
SUPPORT. What the operations of Machine/Elapsed.lean write: each leaves every part of the state as it is but those its hypothesis names.
-/

set_option Elab.async false
set_option linter.unusedSimpArgs false
namespace Sys2Proof.Machine

@[simp] theorem State.shiftSystem_outside {P : Parts} (s : State) (d : Time) (hP : P.alarm = true ∧ P.bootu = true ∧ P.clk = true ∧ P.host = true ∧ P.mode = true ∧ P.msi = true ∧ P.pacer = true ∧ P.rate = true ∧ P.smon = true ∧ P.trig = true) :
    (State.shiftSystem s d).outside P = s.outside P := by
  unfold State.shiftSystem
  simp only [State.outside_rate_host_msi_mode_clk_pacer_smon_alarm_trig_bootu, State.setReg_outside, State.push_outside, State.outside_ite, State.outside_bif, State.foldl_outside, State.foldl_outside_snd, State.foldl_outside_fst, ite_self, Bool.cond_self, Parts.emits_recs, Parts.emits_classLost, Parts.emits_host, Parts.emits_lost, and_self, and_true, true_and, implies_true, forall_const, hP]

@[simp] theorem State.shiftSignals_outside {P : Parts} (s : State) (d : Time) (hP : P.clu = true ∧ P.eng = true ∧ P.exc = true ∧ P.hc = true ∧ P.nodes = true ∧ P.pch = true ∧ P.wch = true ∧ P.wm = true) :
    (State.shiftSignals s d).outside P = s.outside P := by
  unfold State.shiftSignals
  simp only [State.outside_pch_exc_wch_wm_hc_eng_nodes_clu, State.setReg_outside, State.push_outside, State.outside_ite, State.outside_bif, State.foldl_outside, State.foldl_outside_snd, State.foldl_outside_fst, ite_self, Bool.cond_self, Parts.emits_recs, Parts.emits_classLost, Parts.emits_host, Parts.emits_lost, and_self, and_true, true_and, implies_true, forall_const, hP]

@[simp] theorem State.shiftStores_outside {P : Parts} (s : State) (d : Time) (hP : P.chan = true ∧ P.drc = true ∧ P.ecc = true ∧ P.fab = true ∧ P.port = true ∧ P.rings = true ∧ P.streams = true) :
    (State.shiftStores s d).outside P = s.outside P := by
  unfold State.shiftStores
  simp only [State.outside_streams_rings_drc_chan_ecc_fab_port, State.setReg_outside, State.push_outside, State.outside_ite, State.outside_bif, State.foldl_outside, State.foldl_outside_snd, State.foldl_outside_fst, ite_self, Bool.cond_self, Parts.emits_recs, Parts.emits_classLost, Parts.emits_host, Parts.emits_lost, and_self, and_true, true_and, implies_true, forall_const, hP]

@[simp] theorem State.keepElapsed_outside {P : Parts} (s : State) (d : Time) (hP : P.alarm = true ∧ P.bootu = true ∧ P.chan = true ∧ P.clk = true ∧ P.clu = true ∧ P.drc = true ∧ P.ecc = true ∧ P.eng = true ∧ P.exc = true ∧ P.fab = true ∧ P.hc = true ∧ P.host = true ∧ P.mode = true ∧ P.msi = true ∧ P.nodes = true ∧ P.pacer = true ∧ P.pch = true ∧ P.port = true ∧ P.rate = true ∧ P.rings = true ∧ P.smon = true ∧ P.streams = true ∧ P.trig = true ∧ P.wch = true ∧ P.wm = true) :
    (State.keepElapsed s d).outside P = s.outside P := by
  unfold State.keepElapsed
  simp only [State.shiftSystem_outside, State.shiftSignals_outside, State.shiftStores_outside, State.setReg_outside, State.push_outside, State.outside_ite, State.outside_bif, State.foldl_outside, State.foldl_outside_snd, State.foldl_outside_fst, ite_self, Bool.cond_self, Parts.emits_recs, Parts.emits_classLost, Parts.emits_host, Parts.emits_lost, and_self, and_true, true_and, implies_true, forall_const, hP]

@[simp] theorem State.rearmTimers_outside {P : Parts} (s : State) (hP : P.exc = true ∧ P.start = true) :
    (State.rearmTimers s).outside P = s.outside P := by
  unfold State.rearmTimers
  simp only [State.setExc_outside, State.setStart_outside, State.setReg_outside, State.push_outside, State.outside_ite, State.outside_bif, State.foldl_outside, State.foldl_outside_snd, State.foldl_outside_fst, ite_self, Bool.cond_self, Parts.emits_recs, Parts.emits_classLost, Parts.emits_host, Parts.emits_lost, and_self, and_true, true_and, implies_true, forall_const, hP]

end Sys2Proof.Machine
end

