-- ==== Sys2Proof/Laws/FrameLinks.lean ====
section
/-!
SUPPORT. What the operations of Machine/Links.lean write: each leaves every part of the state as it is but those its hypothesis names.
-/

set_option Elab.async false
set_option linter.unusedSimpArgs false
namespace Sys2Proof.Machine

@[simp] theorem State.settleRate_outside {P : Parts} (s : State) (p : Nat) (hP : P.port = true) :
    (State.settleRate s p).outside P = s.outside P := by
  unfold State.settleRate
  simp only [State.setPort_outside, State.setReg_outside, State.push_outside, State.outside_ite, State.outside_bif, State.foldl_outside, State.foldl_outside_snd, State.foldl_outside_fst, ite_self, Bool.cond_self, Parts.emits_recs, Parts.emits_classLost, Parts.emits_host, Parts.emits_lost, and_self, and_true, true_and, implies_true, forall_const, hP]

@[simp] theorem State.tellRate_outside {P : Parts} (s : State) (p : Nat) (hP : P.out = true ∧ P.port = true) :
    (State.tellRate s p).outside P = s.outside P := by
  unfold State.tellRate
  simp only [State.sendControl_outside, State.settleRate_outside, State.setReg_outside, State.push_outside, State.outside_ite, State.outside_bif, State.foldl_outside, State.foldl_outside_snd, State.foldl_outside_fst, ite_self, Bool.cond_self, Parts.emits_recs, Parts.emits_classLost, Parts.emits_host, Parts.emits_lost, and_self, and_true, true_and, implies_true, forall_const, hP]

@[simp] theorem State.requestRate_outside {P : Parts} (s : State) (p mode : Nat) (hP : P.out = true ∧ P.port = true) :
    (State.requestRate s p mode).outside P = s.outside P := by
  unfold State.requestRate
  simp only [State.setPort_outside, State.tellRate_outside, State.setReg_outside, State.push_outside, State.outside_ite, State.outside_bif, State.foldl_outside, State.foldl_outside_snd, State.foldl_outside_fst, ite_self, Bool.cond_self, Parts.emits_recs, Parts.emits_classLost, Parts.emits_host, Parts.emits_lost, and_self, and_true, true_and, implies_true, forall_const, hP]

@[simp] theorem State.requestRates_outside {P : Parts} (s : State) (mode : Nat) (hP : P.out = true ∧ P.port = true) :
    (State.requestRates s mode).outside P = s.outside P := by
  unfold State.requestRates
  simp only [State.requestRate_outside, State.setReg_outside, State.push_outside, State.outside_ite, State.outside_bif, State.foldl_outside, State.foldl_outside_snd, State.foldl_outside_fst, ite_self, Bool.cond_self, Parts.emits_recs, Parts.emits_classLost, Parts.emits_host, Parts.emits_lost, and_self, and_true, true_and, implies_true, forall_const, hP]

@[simp] theorem rate_outside {P : Parts} (s : State) (p r : Nat) (hP : P.port = true) :
    (rate s p r).outside P = s.outside P := by
  unfold rate
  simp only [State.setPort_outside, State.settleRate_outside, State.setReg_outside, State.push_outside, State.outside_ite, State.outside_bif, State.foldl_outside, State.foldl_outside_snd, State.foldl_outside_fst, ite_self, Bool.cond_self, Parts.emits_recs, Parts.emits_classLost, Parts.emits_host, Parts.emits_lost, and_self, and_true, true_and, implies_true, forall_const, hP]

@[simp] theorem rateSwitch_outside {P : Parts} (s : State) (p : Nat) (hP : P.clk = true ∧ P.regs Reg.CLK_SRC ∧ P.out = true ∧ (∀ n, P.regs (Reg.FP_STAT n)) ∧ P.port = true ∧ (∀ n, P.regs (Reg.FP_UTIL n))) :
    (rateSwitch s p).outside P = s.outside P := by
  unfold rateSwitch
  repeat' split
  all_goals first | rfl | simp only [State.setFld_outside, State.setPort_outside, State.servePort_outside, State.outside_clk, State.setReg_outside, State.push_outside, State.outside_ite, State.outside_bif, State.foldl_outside, State.foldl_outside_snd, State.foldl_outside_fst, ite_self, Bool.cond_self, Parts.emits_recs, Parts.emits_classLost, Parts.emits_host, Parts.emits_lost, and_self, and_true, true_and, implies_true, forall_const, hP]

@[simp] theorem State.setLink_outside {P : Parts} (s : State) (p st : Nat) (hP : (∀ n, P.regs (Reg.FP_STAT n))) :
    (State.setLink s p st).outside P = s.outside P := by
  unfold State.setLink
  simp only [State.setFld_outside, State.setReg_outside, State.push_outside, State.outside_ite, State.outside_bif, State.foldl_outside, State.foldl_outside_snd, State.foldl_outside_fst, ite_self, Bool.cond_self, Parts.emits_recs, Parts.emits_classLost, Parts.emits_host, Parts.emits_lost, and_self, and_true, true_and, implies_true, forall_const, hP]

@[simp] theorem State.clearLink_outside {P : Parts} (s : State) (p : Nat) (hP : P.port = true ∧ P.regs Reg.CLK_READY ∧ (∀ n, P.regs (Reg.FP_STAT n))) :
    (State.clearLink s p).outside P = s.outside P := by
  unfold State.clearLink
  simp only [State.setFld_outside, State.setBit_outside, State.setPort_outside, rate_outside, State.setLink_outside, State.setReg_outside, State.push_outside, State.outside_ite, State.outside_bif, State.foldl_outside, State.foldl_outside_snd, State.foldl_outside_fst, ite_self, Bool.cond_self, Parts.emits_recs, Parts.emits_classLost, Parts.emits_host, Parts.emits_lost, and_self, and_true, true_and, implies_true, forall_const, hP]

@[simp] theorem linkSignal_outside {P : Parts} (s : State) (p : Nat) (hP : (∀ n, P.regs (Reg.FP_STAT n))) :
    (linkSignal s p).outside P = s.outside P := by
  unfold linkSignal
  simp only [State.setLink_outside, State.setReg_outside, State.push_outside, State.outside_ite, State.outside_bif, State.foldl_outside, State.foldl_outside_snd, State.foldl_outside_fst, ite_self, Bool.cond_self, Parts.emits_recs, Parts.emits_classLost, Parts.emits_host, Parts.emits_lost, and_self, and_true, true_and, implies_true, forall_const, hP]

@[simp] theorem State.noteOwn_outside {P : Parts} (s : State) (hP : P.fab = true) :
    (State.noteOwn s).outside P = s.outside P := by
  unfold State.noteOwn
  simp only [State.outside_fab, State.setReg_outside, State.push_outside, State.outside_ite, State.outside_bif, State.foldl_outside, State.foldl_outside_snd, State.foldl_outside_fst, ite_self, Bool.cond_self, Parts.emits_recs, Parts.emits_classLost, Parts.emits_host, Parts.emits_lost, and_self, and_true, true_and, implies_true, forall_const, hP]

@[simp] theorem State.greet_outside {P : Parts} (s : State) (p : Nat) (hP : P.fab = true ∧ P.out = true ∧ P.port = true) :
    (State.greet s p).outside P = s.outside P := by
  unfold State.greet
  simp only [State.sendControl_outside, State.tellRate_outside, State.noteOwn_outside, State.setReg_outside, State.push_outside, State.outside_ite, State.outside_bif, State.foldl_outside, State.foldl_outside_snd, State.foldl_outside_fst, ite_self, Bool.cond_self, Parts.emits_recs, Parts.emits_classLost, Parts.emits_host, Parts.emits_lost, and_self, and_true, true_and, implies_true, forall_const, hP]

@[simp] theorem linkTrained_outside {P : Parts} (s : State) (p : Nat) (hP : P.fab = true ∧ P.regs Reg.CLK_READY ∧ P.out = true ∧ (∀ n, P.regs (Reg.FP_STAT n)) ∧ P.port = true) :
    (linkTrained s p).outside P = s.outside P := by
  unfold linkTrained
  simp only [State.setLink_outside, State.clearLink_outside, State.greet_outside, State.setReg_outside, State.push_outside, State.outside_ite, State.outside_bif, State.foldl_outside, State.foldl_outside_snd, State.foldl_outside_fst, ite_self, Bool.cond_self, Parts.emits_recs, Parts.emits_classLost, Parts.emits_host, Parts.emits_lost, and_self, and_true, true_and, implies_true, forall_const, hP]

@[simp] theorem State.topologyChange_outside {P : Parts} (s : State) (hP : P.fab = true) :
    (State.topologyChange s).outside P = s.outside P := by
  unfold State.topologyChange
  simp only [State.outside_fab, State.setReg_outside, State.push_outside, State.outside_ite, State.outside_bif, State.foldl_outside, State.foldl_outside_snd, State.foldl_outside_fst, ite_self, Bool.cond_self, Parts.emits_recs, Parts.emits_classLost, Parts.emits_host, Parts.emits_lost, and_self, and_true, true_and, implies_true, forall_const, hP]

@[simp] theorem State.enterUp_outside {P : Parts} (s : State) (p : Nat) (hP : P.emits ∧ P.fab = true ∧ (∀ n, P.regs (Reg.FP_STAT n)) ∧ P.out = true ∧ (∀ n, P.regs (Reg.FP_UTIL n)) ∧ P.port = true) :
    (State.enterUp s p).outside P = s.outside P := by
  unfold State.enterUp
  simp only [State.emit_outside, State.servePort_outside, State.setLink_outside, State.topologyChange_outside, State.setReg_outside, State.push_outside, State.outside_ite, State.outside_bif, State.foldl_outside, State.foldl_outside_snd, State.foldl_outside_fst, ite_self, Bool.cond_self, Parts.emits_recs, Parts.emits_classLost, Parts.emits_host, Parts.emits_lost, and_self, and_true, true_and, implies_true, forall_const, hP]

@[simp] theorem linkUp_outside {P : Parts} (s : State) (p : Nat) (hP : P.emits ∧ P.fab = true ∧ (∀ n, P.regs (Reg.FP_STAT n)) ∧ P.out = true ∧ (∀ n, P.regs (Reg.FP_UTIL n)) ∧ P.port = true) :
    (linkUp s p).outside P = s.outside P := by
  unfold linkUp
  simp only [State.enterUp_outside, State.setReg_outside, State.push_outside, State.outside_ite, State.outside_bif, State.foldl_outside, State.foldl_outside_snd, State.foldl_outside_fst, ite_self, Bool.cond_self, Parts.emits_recs, Parts.emits_classLost, Parts.emits_host, Parts.emits_lost, and_self, and_true, true_and, implies_true, forall_const, hP]

@[simp] theorem State.loseRoute_outside {P : Parts} (s : State) (p : Nat) (hP : P.streams = true) :
    (State.loseRoute s p).outside P = s.outside P := by
  unfold State.loseRoute
  simp only [State.outside_streams, State.setReg_outside, State.push_outside, State.outside_ite, State.outside_bif, State.foldl_outside, State.foldl_outside_snd, State.foldl_outside_fst, ite_self, Bool.cond_self, Parts.emits_recs, Parts.emits_classLost, Parts.emits_host, Parts.emits_lost, and_self, and_true, true_and, implies_true, forall_const, hP]

@[simp] theorem State.reportLoss_outside {P : Parts} (s : State) (p cause : Nat) (hP : P.out = true ∧ P.streams = true) :
    (State.reportLoss s p cause).outside P = s.outside P := by
  unfold State.reportLoss
  simp only [State.put_outside, State.loseRoute_outside, State.setReg_outside, State.push_outside, State.outside_ite, State.outside_bif, State.foldl_outside, State.foldl_outside_snd, State.foldl_outside_fst, ite_self, Bool.cond_self, Parts.emits_recs, Parts.emits_classLost, Parts.emits_host, Parts.emits_lost, and_self, and_true, true_and, implies_true, forall_const, hP]

@[simp] theorem State.failLink_outside {P : Parts} (s : State) (p cause : Nat) (hP : P.emits ∧ P.fab = true ∧ P.regs Reg.CLK_READY ∧ P.out = true ∧ (∀ n, P.regs (Reg.FP_DOWN_CNT n)) ∧ P.port = true ∧ (∀ n, P.regs (Reg.FP_STAT n)) ∧ P.streams = true) :
    (State.failLink s p cause).outside P = s.outside P := by
  unfold State.failLink
  simp only [State.raise_outside, State.count_outside, State.emit_outside, State.setPort_outside, State.setLink_outside, State.clearLink_outside, State.topologyChange_outside, State.reportLoss_outside, State.setReg_outside, State.push_outside, State.outside_ite, State.outside_bif, State.foldl_outside, State.foldl_outside_snd, State.foldl_outside_fst, ite_self, Bool.cond_self, Parts.emits_recs, Parts.emits_classLost, Parts.emits_host, Parts.emits_lost, and_self, and_true, true_and, implies_true, forall_const, hP]

@[simp] theorem linkDown_outside {P : Parts} (s : State) (p cause : Nat) (hP : P.emits ∧ P.fab = true ∧ P.regs Reg.CLK_READY ∧ P.out = true ∧ (∀ n, P.regs (Reg.FP_DOWN_CNT n)) ∧ P.port = true ∧ (∀ n, P.regs (Reg.FP_STAT n)) ∧ P.streams = true) :
    (linkDown s p cause).outside P = s.outside P := by
  unfold linkDown
  simp only [State.failLink_outside, State.setReg_outside, State.push_outside, State.outside_ite, State.outside_bif, State.foldl_outside, State.foldl_outside_snd, State.foldl_outside_fst, ite_self, Bool.cond_self, Parts.emits_recs, Parts.emits_classLost, Parts.emits_host, Parts.emits_lost, and_self, and_true, true_and, implies_true, forall_const, hP]

@[simp] theorem linkRetrain_outside {P : Parts} (s : State) (p : Nat) (hP : (∀ n, P.regs (Reg.FP_STAT n))) :
    (linkRetrain s p).outside P = s.outside P := by
  unfold linkRetrain
  simp only [State.setLink_outside, State.setReg_outside, State.push_outside, State.outside_ite, State.outside_bif, State.foldl_outside, State.foldl_outside_snd, State.foldl_outside_fst, ite_self, Bool.cond_self, Parts.emits_recs, Parts.emits_classLost, Parts.emits_host, Parts.emits_lost, and_self, and_true, true_and, implies_true, forall_const, hP]

@[simp] theorem State.takeAdv_outside {P : Parts} (s : State) (p adv : Nat) (hP : P.regs Reg.CLK_READY ∧ P.regs Reg.FAB_STAT ∧ (∀ n, P.regs (Reg.FP_STAT n))) :
    (State.takeAdv s p adv).outside P = s.outside P := by
  unfold State.takeAdv
  simp only [State.setFld_outside, State.checkAdv_outside, State.setReg_outside, State.push_outside, State.outside_ite, State.outside_bif, State.foldl_outside, State.foldl_outside_snd, State.foldl_outside_fst, ite_self, Bool.cond_self, Parts.emits_recs, Parts.emits_classLost, Parts.emits_host, Parts.emits_lost, and_self, and_true, true_and, implies_true, forall_const, hP]

@[simp] theorem State.replay_outside {P : Parts} (s : State) (p : Nat) (hP : P.emits ∧ P.fab = true ∧ P.regs Reg.CLK_READY ∧ P.out = true ∧ (∀ n, P.regs (Reg.FP_DOWN_CNT n)) ∧ P.port = true ∧ (∀ n, P.regs (Reg.FP_REPLAY_CNT n)) ∧ P.streams = true ∧ (∀ n, P.regs (Reg.FP_STAT n)) ∧ (∀ n, P.regs (Reg.FP_UTIL n))) :
    (State.replay s p).outside P = s.outside P := by
  unfold State.replay
  simp only [State.count_outside, State.put_outside, State.setPort_outside, State.noteFlits_outside, State.failLink_outside, State.setReg_outside, State.push_outside, State.outside_ite, State.outside_bif, State.foldl_outside, State.foldl_outside_snd, State.foldl_outside_fst, ite_self, Bool.cond_self, Parts.emits_recs, Parts.emits_classLost, Parts.emits_host, Parts.emits_lost, and_self, and_true, true_and, implies_true, forall_const, hP]

@[simp] theorem replayTimeout_outside {P : Parts} (s : State) (p : Nat) (hP : P.emits ∧ P.fab = true ∧ P.regs Reg.CLK_READY ∧ P.out = true ∧ (∀ n, P.regs (Reg.FP_DOWN_CNT n)) ∧ P.port = true ∧ (∀ n, P.regs (Reg.FP_REPLAY_CNT n)) ∧ P.streams = true ∧ (∀ n, P.regs (Reg.FP_STAT n)) ∧ (∀ n, P.regs (Reg.FP_UTIL n))) :
    (replayTimeout s p).outside P = s.outside P := by
  unfold replayTimeout
  simp only [State.replay_outside, State.setReg_outside, State.push_outside, State.outside_ite, State.outside_bif, State.foldl_outside, State.foldl_outside_snd, State.foldl_outside_fst, ite_self, Bool.cond_self, Parts.emits_recs, Parts.emits_classLost, Parts.emits_host, Parts.emits_lost, and_self, and_true, true_and, implies_true, forall_const, hP]

@[simp] theorem State.steerPhase_outside {P : Parts} (s : State) (theta : Rat) (hP : P.fab = true ∧ P.time = true ∧ P.timeRem = true) :
    (State.steerPhase s theta).outside P = s.outside P := by
  unfold State.steerPhase
  simp only [State.outside_time_timeRem_fab, State.setReg_outside, State.push_outside, State.outside_ite, State.outside_bif, State.foldl_outside, State.foldl_outside_snd, State.foldl_outside_fst, ite_self, Bool.cond_self, Parts.emits_recs, Parts.emits_classLost, Parts.emits_host, Parts.emits_lost, and_self, and_true, true_and, implies_true, forall_const, hP]

@[simp] theorem State.exchange_outside {P : Parts} (s : State) (p : Nat) (l : TimeSec) (t4 : Time) (hP : P.fab = true ∧ P.regs Reg.FAB_THETA ∧ P.port = true ∧ (∀ n, P.regs (Reg.FP_DELAY n)) ∧ P.time = true ∧ P.timeRem = true) :
    (State.exchange s p l t4).outside P = s.outside P := by
  unfold State.exchange
  simp only [State.setPort_outside, State.steerPhase_outside, State.setReg_outside, State.push_outside, State.outside_ite, State.outside_bif, State.foldl_outside, State.foldl_outside_snd, State.foldl_outside_fst, ite_self, Bool.cond_self, Parts.emits_recs, Parts.emits_classLost, Parts.emits_host, Parts.emits_lost, and_self, and_true, true_and, implies_true, forall_const, hP]

@[simp] theorem State.takeLink_outside {P : Parts} (s : State) (p : Nat) (l : LinkSec) (t4 : Time) (hP : P.emits ∧ P.fab = true ∧ P.regs Reg.CLK_READY ∧ P.out = true ∧ P.regs Reg.FAB_STAT ∧ P.port = true ∧ P.regs Reg.FAB_THETA ∧ P.streams = true ∧ (∀ n, P.regs (Reg.FP_DELAY n)) ∧ P.time = true ∧ (∀ n, P.regs (Reg.FP_DOWN_CNT n)) ∧ P.timeRem = true ∧ (∀ n, P.regs (Reg.FP_REPLAY_CNT n)) ∧ (∀ n, P.regs (Reg.FP_STAT n)) ∧ (∀ n, P.regs (Reg.FP_UTIL n))) :
    (State.takeLink s p l t4).outside P = s.outside P := by
  unfold State.takeLink
  simp only [State.setPort_outside, State.takeAdv_outside, State.replay_outside, State.exchange_outside, State.setReg_outside, State.push_outside, State.outside_ite, State.outside_bif, State.foldl_outside, State.foldl_outside_snd, State.foldl_outside_fst, ite_self, Bool.cond_self, Parts.emits_recs, Parts.emits_classLost, Parts.emits_host, Parts.emits_lost, and_self, and_true, true_and, implies_true, forall_const, hP]

@[simp] theorem State.nakLink_outside {P : Parts} (s : State) (p : Nat) (hP : P.out = true ∧ P.port = true) :
    (State.nakLink s p).outside P = s.outside P := by
  unfold State.nakLink
  simp only [State.setPort_outside, State.sendIdle_outside, State.setReg_outside, State.push_outside, State.outside_ite, State.outside_bif, State.foldl_outside, State.foldl_outside_snd, State.foldl_outside_fst, ite_self, Bool.cond_self, Parts.emits_recs, Parts.emits_classLost, Parts.emits_host, Parts.emits_lost, and_self, and_true, true_and, implies_true, forall_const, hP]

@[simp] theorem State.nakGap_outside {P : Parts} (s : State) (p : Nat) (hP : P.out = true ∧ P.port = true) :
    (State.nakGap s p).outside P = s.outside P := by
  unfold State.nakGap
  simp only [State.nakLink_outside, State.setReg_outside, State.push_outside, State.outside_ite, State.outside_bif, State.foldl_outside, State.foldl_outside_snd, State.foldl_outside_fst, ite_self, Bool.cond_self, Parts.emits_recs, Parts.emits_classLost, Parts.emits_host, Parts.emits_lost, and_self, and_true, true_and, implies_true, forall_const, hP]

@[simp] theorem State.crcFailure_outside {P : Parts} (s : State) (p : Nat) (hP : P.emits ∧ P.port = true ∧ (∀ n, P.regs (Reg.FP_CRC_CNT n)) ∧ P.rate = true ∧ (∀ n, P.regs (Reg.FP_STAT n))) :
    (State.crcFailure s p).outside P = s.outside P := by
  unfold State.crcFailure
  simp only [State.raise_outside, State.count_outside, State.emitLimited_outside, State.setPort_outside, State.setReg_outside, State.push_outside, State.outside_ite, State.outside_bif, State.foldl_outside, State.foldl_outside_snd, State.foldl_outside_fst, ite_self, Bool.cond_self, Parts.emits_recs, Parts.emits_classLost, Parts.emits_host, Parts.emits_lost, and_self, and_true, true_and, implies_true, forall_const, hP]

@[simp] theorem State.handUp_outside {P : Parts} (s : State) (pk : Packet) (hP : P.out = true) :
    (State.handUp s pk).outside P = s.outside P := by
  unfold State.handUp
  simp only [State.put_outside, State.setReg_outside, State.push_outside, State.outside_ite, State.outside_bif, State.foldl_outside, State.foldl_outside_snd, State.foldl_outside_fst, ite_self, Bool.cond_self, Parts.emits_recs, Parts.emits_classLost, Parts.emits_host, Parts.emits_lost, and_self, and_true, true_and, implies_true, forall_const, hP]

@[simp] theorem State.arrive_outside {P : Parts} (s : State) (p : Nat) (pk : Packet) (hP : P.out = true ∧ P.regs Reg.FAB_DROP ∧ P.port = true ∧ (∀ n, P.regs (Reg.FP_UTIL n))) :
    (State.arrive s p pk).outside P = s.outside P := by
  unfold State.arrive
  repeat' split
  all_goals first | rfl | simp only [State.count_outside, State.giveBack_outside, State.enqueueAs_outside, State.enqueue_outside, State.handUp_outside, State.setReg_outside, State.push_outside, State.outside_ite, State.outside_bif, State.foldl_outside, State.foldl_outside_snd, State.foldl_outside_fst, ite_self, Bool.cond_self, Parts.emits_recs, Parts.emits_classLost, Parts.emits_host, Parts.emits_lost, and_self, and_true, true_and, implies_true, forall_const, hP]

@[simp] theorem State.takeFlit_outside {P : Parts} (s : State) (p flit : Nat) (poisoned : Bool) (hP : P.emits ∧ P.fab = true ∧ P.regs Reg.CLK_READY ∧ P.out = true ∧ P.regs Reg.FAB_DROP ∧ P.port = true ∧ P.regs Reg.FAB_STAT ∧ P.streams = true ∧ P.regs Reg.FAB_THETA ∧ P.time = true ∧ (∀ n, P.regs (Reg.FP_DELAY n)) ∧ P.timeRem = true ∧ (∀ n, P.regs (Reg.FP_DOWN_CNT n)) ∧ (∀ n, P.regs (Reg.FP_REPLAY_CNT n)) ∧ (∀ n, P.regs (Reg.FP_STAT n)) ∧ (∀ n, P.regs (Reg.FP_UTIL n))) :
    (State.takeFlit s p flit poisoned).outside P = s.outside P := by
  unfold State.takeFlit
  simp only [State.setPort_outside, State.takeLink_outside, State.arrive_outside, State.setReg_outside, State.push_outside, State.outside_ite, State.outside_bif, State.foldl_outside, State.foldl_outside_snd, State.foldl_outside_fst, ite_self, Bool.cond_self, Parts.emits_recs, Parts.emits_classLost, Parts.emits_host, Parts.emits_lost, and_self, and_true, true_and, implies_true, forall_const, hP]
  repeat' (first | rfl | (split <;> try simp only [State.setPort_outside, State.takeLink_outside, State.arrive_outside, State.setReg_outside, State.push_outside, State.outside_ite, State.outside_bif, State.foldl_outside, State.foldl_outside_snd, State.foldl_outside_fst, ite_self, Bool.cond_self, Parts.emits_recs, Parts.emits_classLost, Parts.emits_host, Parts.emits_lost, and_self, and_true, true_and, implies_true, forall_const, hP]))

@[simp] theorem dataFlitRx_outside {P : Parts} (s : State) (p : Nat) (flit : BitVec 256) (hP : P.emits ∧ P.fab = true ∧ P.regs Reg.CLK_READY ∧ P.out = true ∧ P.regs Reg.FAB_DROP ∧ P.port = true ∧ P.regs Reg.FAB_STAT ∧ P.rate = true ∧ P.regs Reg.FAB_THETA ∧ P.streams = true ∧ (∀ n, P.regs (Reg.FP_CRC_CNT n)) ∧ P.time = true ∧ (∀ n, P.regs (Reg.FP_DELAY n)) ∧ P.timeRem = true ∧ (∀ n, P.regs (Reg.FP_DOWN_CNT n)) ∧ (∀ n, P.regs (Reg.FP_REPLAY_CNT n)) ∧ (∀ n, P.regs (Reg.FP_STAT n)) ∧ (∀ n, P.regs (Reg.FP_UTIL n))) :
    (dataFlitRx s p flit).outside P = s.outside P := by
  unfold dataFlitRx
  simp only [State.sendIdle_outside, State.noteFlits_outside, State.servePort_outside, State.nakLink_outside, State.nakGap_outside, State.crcFailure_outside, State.takeFlit_outside, State.setReg_outside, State.push_outside, State.outside_ite, State.outside_bif, State.foldl_outside, State.foldl_outside_snd, State.foldl_outside_fst, ite_self, Bool.cond_self, Parts.emits_recs, Parts.emits_classLost, Parts.emits_host, Parts.emits_lost, and_self, and_true, true_and, implies_true, forall_const, hP]
  repeat' (first | rfl | (split <;> try simp only [State.sendIdle_outside, State.noteFlits_outside, State.servePort_outside, State.nakLink_outside, State.nakGap_outside, State.crcFailure_outside, State.takeFlit_outside, State.setReg_outside, State.push_outside, State.outside_ite, State.outside_bif, State.foldl_outside, State.foldl_outside_snd, State.foldl_outside_fst, ite_self, Bool.cond_self, Parts.emits_recs, Parts.emits_classLost, Parts.emits_host, Parts.emits_lost, and_self, and_true, true_and, implies_true, forall_const, hP]))

@[simp] theorem State.showStopped_outside {P : Parts} (s : State) (hP : P.regs Reg.FAB_VC) :
    (State.showStopped s).outside P = s.outside P := by
  unfold State.showStopped
  simp only [State.setFld_outside, State.setReg_outside, State.push_outside, State.outside_ite, State.outside_bif, State.foldl_outside, State.foldl_outside_snd, State.foldl_outside_fst, ite_self, Bool.cond_self, Parts.emits_recs, Parts.emits_classLost, Parts.emits_host, Parts.emits_lost, and_self, and_true, true_and, implies_true, forall_const, hP]

@[simp] theorem vcStall_outside {P : Parts} (s : State) (p v ms : Nat) (hP : P.emits ∧ P.out = true ∧ P.regs Reg.FAB_DROP ∧ P.port = true ∧ P.regs Reg.FAB_STAT ∧ P.regs Reg.FAB_VC ∧ (∀ n, P.regs (Reg.FP_UTIL n))) :
    (vcStall s p v ms).outside P = s.outside P := by
  unfold vcStall
  simp only [State.raise_outside, State.countBy_outside, State.emit_outside, State.setPort_outside, State.leaveQueue_outside, State.servePort_outside, State.showStopped_outside, State.setReg_outside, State.push_outside, State.outside_ite, State.outside_bif, State.foldl_outside, State.foldl_outside_snd, State.foldl_outside_fst, ite_self, Bool.cond_self, Parts.emits_recs, Parts.emits_classLost, Parts.emits_host, Parts.emits_lost, and_self, and_true, true_and, implies_true, forall_const, hP]

@[simp] theorem vcResumed_outside {P : Parts} (s : State) (mask : Nat) (hP : P.emits ∧ P.out = true ∧ P.regs Reg.FAB_VC ∧ P.port = true ∧ (∀ n, P.regs (Reg.FP_UTIL n))) :
    (vcResumed s mask).outside P = s.outside P := by
  unfold vcResumed
  simp only [State.emit_outside, State.setPort_outside, State.servePort_outside, State.showStopped_outside, State.setReg_outside, State.push_outside, State.outside_ite, State.outside_bif, State.foldl_outside, State.foldl_outside_snd, State.foldl_outside_fst, ite_self, Bool.cond_self, Parts.emits_recs, Parts.emits_classLost, Parts.emits_host, Parts.emits_lost, and_self, and_true, true_and, implies_true, forall_const, hP]

@[simp] theorem State.gatePorts_outside {P : Parts} (s : State) (hP : P.fab = true ∧ P.regs Reg.CLK_READY ∧ P.out = true ∧ (∀ n, P.regs (Reg.FP_STAT n)) ∧ P.port = true ∧ P.streams = true) :
    (State.gatePorts s).outside P = s.outside P := by
  unfold State.gatePorts
  simp only [State.setLink_outside, State.clearLink_outside, State.topologyChange_outside, State.reportLoss_outside, State.setReg_outside, State.push_outside, State.outside_ite, State.outside_bif, State.foldl_outside, State.foldl_outside_snd, State.foldl_outside_fst, ite_self, Bool.cond_self, Parts.emits_recs, Parts.emits_classLost, Parts.emits_host, Parts.emits_lost, and_self, and_true, true_and, implies_true, forall_const, hP]

@[simp] theorem State.enterPstate_outside {P : Parts} (s : State) (ps : Nat) (hP : P.clk = true ∧ P.regs Reg.CLK_GATE_OPEN ∧ P.fab = true ∧ P.regs Reg.CLK_READY ∧ P.out = true ∧ P.regs Reg.CLK_STAT ∧ P.port = true ∧ (∀ n, P.regs (Reg.FP_STAT n)) ∧ P.streams = true ∧ P.regs Reg.MODE_STAT) :
    (State.enterPstate s ps).outside P = s.outside P := by
  unfold State.enterPstate
  simp only [State.setFld_outside, State.regate_outside, State.gatePorts_outside, State.setReg_outside, State.push_outside, State.outside_ite, State.outside_bif, State.foldl_outside, State.foldl_outside_snd, State.foldl_outside_fst, ite_self, Bool.cond_self, Parts.emits_recs, Parts.emits_classLost, Parts.emits_host, Parts.emits_lost, and_self, and_true, true_and, implies_true, forall_const, hP]

@[simp] theorem State.toRun_outside {P : Parts} (s : State) (hP : P.clk = true ∧ P.regs Reg.CLK_GATE_OPEN ∧ P.fab = true ∧ P.regs Reg.CLK_READY ∧ P.out = true ∧ P.regs Reg.CLK_STAT ∧ P.port = true ∧ (∀ n, P.regs (Reg.FP_STAT n)) ∧ P.streams = true ∧ P.regs Reg.MODE_STAT) :
    (State.toRun s).outside P = s.outside P := by
  unfold State.toRun
  simp only [State.enterPstate_outside, State.setReg_outside, State.push_outside, State.outside_ite, State.outside_bif, State.foldl_outside, State.foldl_outside_snd, State.foldl_outside_fst, ite_self, Bool.cond_self, Parts.emits_recs, Parts.emits_classLost, Parts.emits_host, Parts.emits_lost, and_self, and_true, true_and, implies_true, forall_const, hP]

@[simp] theorem State.dmaDone_outside {P : Parts} (s : State) (hP : P.clk = true ∧ P.regs Reg.CLK_GATE_OPEN ∧ P.fab = true ∧ P.regs Reg.CLK_READY ∧ P.host = true ∧ P.regs Reg.CLK_STAT ∧ P.out = true ∧ (∀ n, P.regs (Reg.FP_STAT n)) ∧ P.port = true ∧ P.regs Reg.MODE_STAT ∧ P.streams = true) :
    (State.dmaDone s).outside P = s.outside P := by
  unfold State.dmaDone
  simp only [State.toRun_outside, State.outside_host, State.setReg_outside, State.push_outside, State.outside_ite, State.outside_bif, State.foldl_outside, State.foldl_outside_snd, State.foldl_outside_fst, ite_self, Bool.cond_self, Parts.emits_recs, Parts.emits_classLost, Parts.emits_host, Parts.emits_lost, and_self, and_true, true_and, implies_true, forall_const, hP]

end Sys2Proof.Machine
end

