-- ==== Sys2Proof/Laws/FrameBoot.lean ====
section
/-!
SUPPORT. What the operations of Machine/Boot.lean write: each leaves every part of the state as it is but those its hypothesis names.
-/

set_option Elab.async false
set_option linter.unusedSimpArgs false
namespace Sys2Proof.Machine

@[simp] theorem State.retime_outside {P : Parts} (s : State) (t : Time) (hP : P.alarm = true ∧ P.bootu = true ∧ P.chan = true ∧ P.clk = true ∧ P.clu = true ∧ P.drc = true ∧ P.ecc = true ∧ P.eng = true ∧ P.exc = true ∧ P.fab = true ∧ P.hc = true ∧ P.host = true ∧ P.mode = true ∧ P.msi = true ∧ P.nodes = true ∧ P.pacer = true ∧ P.pch = true ∧ P.port = true ∧ P.rate = true ∧ P.rings = true ∧ P.smon = true ∧ P.start = true ∧ P.streams = true ∧ P.time = true ∧ P.timeRem = true ∧ P.trig = true ∧ P.wch = true ∧ P.wm = true) :
    (State.retime s t).outside P = s.outside P := by
  unfold State.retime
  simp only [State.keepElapsed_outside, State.rearmTimers_outside, State.outside_time_timeRem, State.setReg_outside, State.push_outside, State.outside_ite, State.outside_bif, State.foldl_outside, State.foldl_outside_snd, State.foldl_outside_fst, ite_self, Bool.cond_self, Parts.emits_recs, Parts.emits_classLost, Parts.emits_host, Parts.emits_lost, and_self, and_true, true_and, implies_true, forall_const, hP]

@[simp] theorem State.beginBoot_outside {P : Parts} (s : State) (cause : Nat) (hP : P.bootu = true ∧ P.regs Reg.BOOT_STAT) :
    (State.beginBoot s cause).outside P = s.outside P := by
  unfold State.beginBoot
  simp only [State.setFld_outside, State.outside_bootu, State.setReg_outside, State.push_outside, State.outside_ite, State.outside_bif, State.foldl_outside, State.foldl_outside_snd, State.foldl_outside_fst, ite_self, Bool.cond_self, Parts.emits_recs, Parts.emits_classLost, Parts.emits_host, Parts.emits_lost, and_self, and_true, true_and, implies_true, forall_const, hP]

@[simp] theorem State.released_outside {P : Parts} (s : State) (hP : P.bootu = true ∧ P.regs Reg.BOOT_STAT) :
    (State.released s).outside P = s.outside P := by
  unfold State.released
  simp only [State.beginBoot_outside, State.setReg_outside, State.push_outside, State.outside_ite, State.outside_bif, State.foldl_outside, State.foldl_outside_snd, State.foldl_outside_fst, ite_self, Bool.cond_self, Parts.emits_recs, Parts.emits_classLost, Parts.emits_host, Parts.emits_lost, and_self, and_true, true_and, implies_true, forall_const, hP]

@[simp] theorem coldResetEnd_outside {P : Parts} (s : State) (hP : P.bootu = true ∧ P.regs Reg.BOOT_STAT) :
    (coldResetEnd s).outside P = s.outside P := by
  unfold coldResetEnd
  simp only [State.released_outside, State.outside_bootu, State.setReg_outside, State.push_outside, State.outside_ite, State.outside_bif, State.foldl_outside, State.foldl_outside_snd, State.foldl_outside_fst, ite_self, Bool.cond_self, Parts.emits_recs, Parts.emits_classLost, Parts.emits_host, Parts.emits_lost, and_self, and_true, true_and, implies_true, forall_const, hP]

@[simp] theorem State.freeMc_outside {P : Parts} (s : State) (hP : P.bootu = true ∧ P.regs Reg.MC_WDOG) :
    (State.freeMc s).outside P = s.outside P := by
  unfold State.freeMc
  simp only [State.clear_outside, State.outside_bootu, State.setReg_outside, State.push_outside, State.outside_ite, State.outside_bif, State.foldl_outside, State.foldl_outside_snd, State.foldl_outside_fst, ite_self, Bool.cond_self, Parts.emits_recs, Parts.emits_classLost, Parts.emits_host, Parts.emits_lost, and_self, and_true, true_and, implies_true, forall_const, hP]

@[simp] theorem perstNRelease_outside {P : Parts} (s : State) (hP : P.bootu = true ∧ P.regs Reg.BOOT_STAT) :
    (perstNRelease s).outside P = s.outside P := by
  unfold perstNRelease
  simp only [State.released_outside, State.outside_bootu, State.setReg_outside, State.push_outside, State.outside_ite, State.outside_bif, State.foldl_outside, State.foldl_outside_snd, State.foldl_outside_fst, ite_self, Bool.cond_self, Parts.emits_recs, Parts.emits_classLost, Parts.emits_host, Parts.emits_lost, and_self, and_true, true_and, implies_true, forall_const, hP]

@[simp] theorem State.setPhase_outside {P : Parts} (s : State) (ph : Nat) (hP : P.regs Reg.BOOT_STAT) :
    (State.setPhase s ph).outside P = s.outside P := by
  unfold State.setPhase
  simp only [State.setFld_outside, State.setReg_outside, State.push_outside, State.outside_ite, State.outside_bif, State.foldl_outside, State.foldl_outside_snd, State.foldl_outside_fst, ite_self, Bool.cond_self, Parts.emits_recs, Parts.emits_classLost, Parts.emits_host, Parts.emits_lost, and_self, and_true, true_and, implies_true, forall_const, hP]

@[simp] theorem bootReferenceAcquired_outside {P : Parts} (s : State) (src : Nat) (hP : P.regs Reg.BOOT_STAT ∧ P.regs Reg.CLK_READY ∧ P.regs Reg.CLK_SRC ∧ P.regs Reg.CLK_STAT ∧ P.regs Reg.FAB_STAT ∧ (∀ n, P.regs (Reg.FP_STAT n))) :
    (bootReferenceAcquired s src).outside P = s.outside P := by
  unfold bootReferenceAcquired
  simp only [State.setFld_outside, State.raise_outside, State.clear_outside, State.showSource_outside, State.setPhase_outside, State.setReg_outside, State.push_outside, State.outside_ite, State.outside_bif, State.foldl_outside, State.foldl_outside_snd, State.foldl_outside_fst, ite_self, Bool.cond_self, Parts.emits_recs, Parts.emits_classLost, Parts.emits_host, Parts.emits_lost, and_self, and_true, true_and, implies_true, forall_const, hP]

@[simp] theorem State.startSlot_outside {P : Parts} (s : State) (b : Bool) (hP : P.bootu = true ∧ P.regs Reg.BOOT_STAT ∧ P.regs Reg.DEV_FW) :
    (State.startSlot s b).outside P = s.outside P := by
  unfold State.startSlot
  simp only [State.setFld_outside, State.setPhase_outside, State.outside_bootu, State.setReg_outside, State.push_outside, State.outside_ite, State.outside_bif, State.foldl_outside, State.foldl_outside_snd, State.foldl_outside_fst, ite_self, Bool.cond_self, Parts.emits_recs, Parts.emits_classLost, Parts.emits_host, Parts.emits_lost, and_self, and_true, true_and, implies_true, forall_const, hP]

@[simp] theorem State.portsDown_outside {P : Parts} (s : State) (hP : P.port = true ∧ P.regs Reg.CLK_READY ∧ (∀ n, P.regs (Reg.FP_STAT n))) :
    (State.portsDown s).outside P = s.outside P := by
  unfold State.portsDown
  simp only [State.setLink_outside, State.clearLink_outside, State.setReg_outside, State.push_outside, State.outside_ite, State.outside_bif, State.foldl_outside, State.foldl_outside_snd, State.foldl_outside_fst, ite_self, Bool.cond_self, Parts.emits_recs, Parts.emits_classLost, Parts.emits_host, Parts.emits_lost, and_self, and_true, true_and, implies_true, forall_const, hP]

@[simp] theorem State.failSlot_outside {P : Parts} (s : State) (code stype entry : Nat) (unit : Option Nat) (hP : P.emits ∧ P.bootu = true ∧ P.regs Reg.BOOT_ERRA ∧ P.fresh = true ∧ P.regs Reg.BOOT_ERRB ∧ P.port = true ∧ P.regs Reg.BOOT_STAT ∧ P.regs Reg.CLK_READY ∧ P.regs Reg.DEV_FW ∧ (∀ n, P.regs (Reg.FP_STAT n))) :
    (State.failSlot s code stype entry unit).outside P = s.outside P := by
  unfold State.failSlot
  simp only [State.raise_outside, State.freeNat_outside, State.emit_outside, State.setPhase_outside, State.startSlot_outside, State.portsDown_outside, State.outside_bootu, State.setReg_outside, State.push_outside, State.outside_ite, State.outside_bif, State.foldl_outside, State.foldl_outside_snd, State.foldl_outside_fst, ite_self, Bool.cond_self, Parts.emits_recs, Parts.emits_classLost, Parts.emits_host, Parts.emits_lost, and_self, and_true, true_and, implies_true, forall_const, hP]
  repeat' (first | rfl | (split <;> try simp only [State.raise_outside, State.freeNat_outside, State.emit_outside, State.setPhase_outside, State.startSlot_outside, State.portsDown_outside, State.outside_bootu, State.setReg_outside, State.push_outside, State.outside_ite, State.outside_bif, State.foldl_outside, State.foldl_outside_snd, State.foldl_outside_fst, ite_self, Bool.cond_self, Parts.emits_recs, Parts.emits_classLost, Parts.emits_host, Parts.emits_lost, and_self, and_true, true_and, implies_true, forall_const, hP]))

@[simp] theorem State.overwriteRegion_outside {P : Parts} (s : State) (first n : Nat) (hP : P.bootu = true ∧ P.cells = true ∧ P.fresh = true) :
    (State.overwriteRegion s first n).outside P = s.outside P := by
  unfold State.overwriteRegion
  simp only [State.outside_fresh_bootu_cells, State.setReg_outside, State.push_outside, State.outside_ite, State.outside_bif, State.foldl_outside, State.foldl_outside_snd, State.foldl_outside_fst, ite_self, Bool.cond_self, Parts.emits_recs, Parts.emits_classLost, Parts.emits_host, Parts.emits_lost, and_self, and_true, true_and, implies_true, forall_const, hP]

@[simp] theorem State.dramTest_outside {P : Parts} (s : State) (bad : List Nat) (hP : P.emits ∧ P.bootu = true ∧ P.regs Reg.ECC_BIST ∧ P.cells = true ∧ (∀ n, P.regs (Reg.ECC_REMAP n)) ∧ P.ecc = true ∧ P.regs Reg.ECC_STAT ∧ P.fab = true ∧ P.regs Reg.FAB_DROP ∧ P.fresh = true ∧ (∀ n, P.regs (Reg.FP_UTIL n)) ∧ P.mode = true ∧ P.regs Reg.HIF_CMD_STAT ∧ P.out = true ∧ P.regs Reg.MODE_STAT ∧ P.port = true ∧ P.regs Reg.PACER_STAT ∧ P.rate = true ∧ P.regs Reg.SAF_CAUSE ∧ P.smon = true ∧ P.regs Reg.SAF_CAUSE_S ∧ P.regs Reg.SAF_CNT ∧ P.regs Reg.SAF_STAT) :
    (State.dramTest s bad).outside P = s.outside P := by
  unfold State.dramTest
  simp only [State.setFld_outside, State.raise_outside, State.raiseCause_outside, State.remapCell_outside, State.overwriteRegion_outside, State.setReg_outside, State.push_outside, State.outside_ite, State.outside_bif, State.foldl_outside, State.foldl_outside_snd, State.foldl_outside_fst, ite_self, Bool.cond_self, Parts.emits_recs, Parts.emits_classLost, Parts.emits_host, Parts.emits_lost, and_self, and_true, true_and, implies_true, forall_const, hP]

@[simp] theorem State.bootUntrained_outside {P : Parts} (s : State) (ch op : Nat) (hP : P.emits ∧ P.chan = true ∧ P.regs Reg.DRC_STAT ∧ P.fab = true ∧ P.regs Reg.FAB_DROP ∧ P.fresh = true ∧ (∀ n, P.regs (Reg.FP_UTIL n)) ∧ P.mode = true ∧ P.regs Reg.HIF_CMD_STAT ∧ P.out = true ∧ P.regs Reg.MODE_STAT ∧ P.port = true ∧ P.regs Reg.PACER_STAT ∧ P.rate = true ∧ P.regs Reg.SAF_CAUSE ∧ P.smon = true ∧ P.regs Reg.SAF_CAUSE_S ∧ P.regs Reg.SAF_CNT ∧ P.regs Reg.SAF_STAT) :
    (State.bootUntrained s ch op).outside P = s.outside P := by
  unfold State.bootUntrained
  simp only [State.raiseCause_outside, State.trainFailed_outside, State.setReg_outside, State.push_outside, State.outside_ite, State.outside_bif, State.foldl_outside, State.foldl_outside_snd, State.foldl_outside_fst, ite_self, Bool.cond_self, Parts.emits_recs, Parts.emits_classLost, Parts.emits_host, Parts.emits_lost, and_self, and_true, true_and, implies_true, forall_const, hP]

@[simp] theorem State.bootTrain_outside {P : Parts} (s : State) (failed : List (Nat × Nat)) (hP : P.emits ∧ P.chan = true ∧ P.regs Reg.DRC_STAT ∧ P.drc = true ∧ P.regs Reg.DRC_TEMP ∧ P.fab = true ∧ P.regs Reg.FAB_DROP ∧ P.fresh = true ∧ (∀ n, P.regs (Reg.FP_UTIL n)) ∧ P.mode = true ∧ P.regs Reg.HIF_CMD_STAT ∧ P.out = true ∧ P.regs Reg.MODE_STAT ∧ P.port = true ∧ P.regs Reg.PACER_STAT ∧ P.rate = true ∧ P.regs Reg.SAF_CAUSE ∧ P.smon = true ∧ P.regs Reg.SAF_CAUSE_S ∧ P.regs Reg.SAF_CNT ∧ P.regs Reg.SAF_STAT) :
    (State.bootTrain s failed).outside P = s.outside P := by
  unfold State.bootTrain
  simp (maxDischargeDepth := 6) only [State.setChan_outside, State.setTrained_outside, State.showTTrain_outside, State.bootUntrained_outside, State.setReg_outside, State.push_outside, State.outside_ite, State.outside_bif, State.foldl_outside, State.foldl_outside_snd, State.foldl_outside_fst, ite_self, Bool.cond_self, Parts.emits_recs, Parts.emits_classLost, Parts.emits_host, Parts.emits_lost, and_self, and_true, true_and, implies_true, forall_const, hP]

@[simp] theorem bootSelfTests_outside {P : Parts} (s : State) (march : Nat) (chk : Bool) (dram : DramTests) (hP : P.emits ∧ P.bootu = true ∧ P.regs Reg.BOOT_STAT ∧ P.cells = true ∧ P.regs Reg.CLK_STAT ∧ P.chan = true ∧ P.regs Reg.DEV_FW ∧ P.drc = true ∧ P.regs Reg.DRC_STAT ∧ P.ecc = true ∧ P.regs Reg.DRC_TEMP ∧ P.fab = true ∧ P.regs Reg.ECC_BIST ∧ P.fresh = true ∧ (∀ n, P.regs (Reg.ECC_REMAP n)) ∧ P.mode = true ∧ P.regs Reg.ECC_STAT ∧ P.out = true ∧ P.regs Reg.FAB_DROP ∧ P.port = true ∧ (∀ n, P.regs (Reg.FP_UTIL n)) ∧ P.rate = true ∧ P.regs Reg.HIF_CMD_STAT ∧ P.smon = true ∧ P.regs Reg.MODE_STAT ∧ P.regs Reg.PACER_STAT ∧ P.regs Reg.SAF_CAUSE ∧ P.regs Reg.SAF_CAUSE_S ∧ P.regs Reg.SAF_CNT ∧ P.regs Reg.SAF_STAT) :
    (bootSelfTests s march chk dram).outside P = s.outside P := by
  unfold bootSelfTests
  simp only [State.setFld_outside, State.raise_outside, State.raiseCause_outside, State.setPhase_outside, State.startSlot_outside, State.dramTest_outside, State.bootTrain_outside, State.outside_bootu, State.setReg_outside, State.push_outside, State.outside_ite, State.outside_bif, State.foldl_outside, State.foldl_outside_snd, State.foldl_outside_fst, ite_self, Bool.cond_self, Parts.emits_recs, Parts.emits_classLost, Parts.emits_host, Parts.emits_lost, and_self, and_true, true_and, implies_true, forall_const, hP]

@[simp] theorem State.startMc_outside {P : Parts} (s : State) (hP : P.bootu = true) :
    (State.startMc s).outside P = s.outside P := by
  unfold State.startMc
  simp only [State.outside_bootu, State.setReg_outside, State.push_outside, State.outside_ite, State.outside_bif, State.foldl_outside, State.foldl_outside_snd, State.foldl_outside_fst, ite_self, Bool.cond_self, Parts.emits_recs, Parts.emits_classLost, Parts.emits_host, Parts.emits_lost, and_self, and_true, true_and, implies_true, forall_const, hP]

@[simp] theorem imageValidation_outside {P : Parts} (s : State) (slotB : Bool) (found : Word) (readable : Bool) (bytes : List (BitVec 8)) (hP : P.emits ∧ P.bootu = true ∧ P.regs Reg.BOOT_ERRA ∧ P.fresh = true ∧ P.regs Reg.BOOT_ERRB ∧ P.port = true ∧ P.regs Reg.BOOT_FLASH ∧ P.regs Reg.BOOT_STAT ∧ P.regs Reg.CLK_READY ∧ P.regs Reg.DEV_FW ∧ (∀ n, P.regs (Reg.FP_STAT n))) :
    (imageValidation s slotB found readable bytes).outside P = s.outside P := by
  unfold imageValidation
  simp (maxDischargeDepth := 6) only [State.setFld_outside, State.freeNat_outside, State.failSlot_outside, State.startMc_outside, State.outside_bootu, State.setReg_outside, State.push_outside, State.outside_ite, State.outside_bif, State.foldl_outside, State.foldl_outside_snd, State.foldl_outside_fst, ite_self, Bool.cond_self, Parts.emits_recs, Parts.emits_classLost, Parts.emits_host, Parts.emits_lost, and_self, and_true, true_and, implies_true, forall_const, hP]
  repeat' (first | rfl | (split <;> try simp (maxDischargeDepth := 6) only [State.setFld_outside, State.freeNat_outside, State.failSlot_outside, State.startMc_outside, State.outside_bootu, State.setReg_outside, State.push_outside, State.outside_ite, State.outside_bif, State.foldl_outside, State.foldl_outside_snd, State.foldl_outside_fst, ite_self, Bool.cond_self, Parts.emits_recs, Parts.emits_classLost, Parts.emits_host, Parts.emits_lost, and_self, and_true, true_and, implies_true, forall_const, hP]))

@[simp] theorem fwStartTimeout_outside {P : Parts} (s : State) (hP : P.emits ∧ P.bootu = true ∧ P.regs Reg.BOOT_ERRA ∧ P.fresh = true ∧ P.regs Reg.BOOT_ERRB ∧ P.port = true ∧ P.regs Reg.BOOT_STAT ∧ P.regs Reg.CLK_READY ∧ P.regs Reg.DEV_FW ∧ (∀ n, P.regs (Reg.FP_STAT n))) :
    (fwStartTimeout s).outside P = s.outside P := by
  unfold fwStartTimeout
  repeat' split
  all_goals first | rfl | simp only [State.failSlot_outside, State.setReg_outside, State.push_outside, State.outside_ite, State.outside_bif, State.foldl_outside, State.foldl_outside_snd, State.foldl_outside_fst, ite_self, Bool.cond_self, Parts.emits_recs, Parts.emits_classLost, Parts.emits_host, Parts.emits_lost, and_self, and_true, true_and, implies_true, forall_const, hP]

@[simp] theorem flReleaseWrite_outside {P : Parts} (s : State) (v : Bool) (hP : P.regs Reg.BOOT_CTRL) :
    (flReleaseWrite s v).outside P = s.outside P := by
  unfold flReleaseWrite
  simp only [State.setFld_outside, State.setReg_outside, State.push_outside, State.outside_ite, State.outside_bif, State.foldl_outside, State.foldl_outside_snd, State.foldl_outside_fst, ite_self, Bool.cond_self, Parts.emits_recs, Parts.emits_classLost, Parts.emits_host, Parts.emits_lost, and_self, and_true, true_and, implies_true, forall_const, hP]

@[simp] theorem mcWdogKick_outside {P : Parts} (s : State) (who : Reader) (hP : P.bootu = true) :
    (mcWdogKick s who).outside P = s.outside P := by
  unfold mcWdogKick
  simp only [State.outside_bootu, State.setReg_outside, State.push_outside, State.outside_ite, State.outside_bif, State.foldl_outside, State.foldl_outside_snd, State.foldl_outside_fst, ite_self, Bool.cond_self, Parts.emits_recs, Parts.emits_classLost, Parts.emits_host, Parts.emits_lost, and_self, and_true, true_and, implies_true, forall_const, hP]

@[simp] theorem mcWatchdogExpiry_outside {P : Parts} (s : State) (sram : Bool) (hP : P.emits ∧ P.bootu = true ∧ P.regs Reg.FAB_DROP ∧ P.fab = true ∧ (∀ n, P.regs (Reg.FP_UTIL n)) ∧ P.fresh = true ∧ P.regs Reg.HIF_CMD_STAT ∧ P.mode = true ∧ P.regs Reg.MC_WDOG ∧ P.out = true ∧ P.regs Reg.MODE_STAT ∧ P.port = true ∧ P.regs Reg.PACER_STAT ∧ P.rate = true ∧ P.regs Reg.SAF_CAUSE ∧ P.smon = true ∧ P.regs Reg.SAF_CAUSE_S ∧ P.regs Reg.SAF_CNT ∧ P.regs Reg.SAF_STAT) :
    (mcWatchdogExpiry s sram).outside P = s.outside P := by
  unfold mcWatchdogExpiry
  simp only [State.count_outside, State.raiseCause_outside, State.outside_bootu, State.setReg_outside, State.push_outside, State.outside_ite, State.outside_bif, State.foldl_outside, State.foldl_outside_snd, State.foldl_outside_fst, ite_self, Bool.cond_self, Parts.emits_recs, Parts.emits_classLost, Parts.emits_host, Parts.emits_lost, and_self, and_true, true_and, implies_true, forall_const, hP]

@[simp] theorem State.abandonBank_outside {P : Parts} (s : State) (m : Nat) (hP : P.bank = true ∧ (∀ n, P.regs (Reg.BANK_STAT n)) ∧ P.fab = true ∧ P.regs Reg.FAB_DROP ∧ P.fresh = true ∧ (∀ n, P.regs (Reg.FP_UTIL n)) ∧ P.host = true ∧ P.regs Reg.HIF_CMD_STAT ∧ P.out = true ∧ P.port = true) :
    (State.abandonBank s m).outside P = s.outside P := by
  unfold State.abandonBank
  simp only [State.setBank_outside, State.settle_outside, State.showOdBusy_outside, State.setReg_outside, State.push_outside, State.outside_ite, State.outside_bif, State.foldl_outside, State.foldl_outside_snd, State.foldl_outside_fst, ite_self, Bool.cond_self, Parts.emits_recs, Parts.emits_classLost, Parts.emits_host, Parts.emits_lost, and_self, and_true, true_and, implies_true, forall_const, hP]
  repeat' (first | rfl | (split <;> try simp only [State.setBank_outside, State.settle_outside, State.showOdBusy_outside, State.setReg_outside, State.push_outside, State.outside_ite, State.outside_bif, State.foldl_outside, State.foldl_outside_snd, State.foldl_outside_fst, ite_self, Bool.cond_self, Parts.emits_recs, Parts.emits_classLost, Parts.emits_host, Parts.emits_lost, and_self, and_true, true_and, implies_true, forall_const, hP]))

@[simp] theorem State.abandonCommit_outside {P : Parts} (s : State) (hP : P.commit = true ∧ P.regs Reg.CAL_STAT ∧ P.fab = true ∧ P.regs Reg.FAB_DROP ∧ P.fresh = true ∧ (∀ n, P.regs (Reg.FP_UTIL n)) ∧ P.host = true ∧ P.regs Reg.HIF_CMD_STAT ∧ P.out = true ∧ P.port = true) :
    (State.abandonCommit s).outside P = s.outside P := by
  unfold State.abandonCommit
  repeat' split
  all_goals first | rfl | simp only [State.clear_outside, State.settle_outside, State.outside_commit, State.setReg_outside, State.push_outside, State.outside_ite, State.outside_bif, State.foldl_outside, State.foldl_outside_snd, State.foldl_outside_fst, ite_self, Bool.cond_self, Parts.emits_recs, Parts.emits_classLost, Parts.emits_host, Parts.emits_lost, and_self, and_true, true_and, implies_true, forall_const, hP]

@[simp] theorem State.abandonModes_outside {P : Parts} (s : State) (hP : P.fab = true ∧ P.regs Reg.FAB_DROP ∧ P.fresh = true ∧ (∀ n, P.regs (Reg.FP_UTIL n)) ∧ P.host = true ∧ P.regs Reg.HIF_CMD_STAT ∧ P.mode = true ∧ P.out = true ∧ P.port = true) :
    (State.abandonModes s).outside P = s.outside P := by
  unfold State.abandonModes
  simp only [State.settle_outside, State.outside_mode, State.setReg_outside, State.push_outside, State.outside_ite, State.outside_bif, State.foldl_outside, State.foldl_outside_snd, State.foldl_outside_fst, ite_self, Bool.cond_self, Parts.emits_recs, Parts.emits_classLost, Parts.emits_host, Parts.emits_lost, and_self, and_true, true_and, implies_true, forall_const, hP]

@[simp] theorem State.abandonRequests_outside {P : Parts} (s : State) (hP : P.fab = true ∧ P.regs Reg.FAB_DROP ∧ P.out = true ∧ (∀ n, P.regs (Reg.FP_UTIL n)) ∧ P.port = true) :
    (State.abandonRequests s).outside P = s.outside P := by
  unfold State.abandonRequests
  simp only [State.pumpRequests_outside, State.outside_fab, State.setReg_outside, State.push_outside, State.outside_ite, State.outside_bif, State.foldl_outside, State.foldl_outside_snd, State.foldl_outside_fst, ite_self, Bool.cond_self, Parts.emits_recs, Parts.emits_classLost, Parts.emits_host, Parts.emits_lost, and_self, and_true, true_and, implies_true, forall_const, hP]

@[simp] theorem State.abandonCommands_outside {P : Parts} (s : State) (hP : P.bank = true ∧ (∀ n, P.regs (Reg.BANK_STAT n)) ∧ P.commit = true ∧ P.regs Reg.CAL_STAT ∧ P.fab = true ∧ P.regs Reg.FAB_DROP ∧ P.fresh = true ∧ (∀ n, P.regs (Reg.FP_UTIL n)) ∧ P.host = true ∧ P.regs Reg.HIF_CMD_STAT ∧ P.mode = true ∧ P.out = true ∧ P.port = true) :
    (State.abandonCommands s).outside P = s.outside P := by
  unfold State.abandonCommands
  simp only [State.setInflight_outside, State.showMeas_outside, State.abandonBank_outside, State.abandonCommit_outside, State.abandonModes_outside, State.abandonRequests_outside, State.outside_time, State.setReg_outside, State.push_outside, State.outside_ite, State.outside_bif, State.foldl_outside, State.foldl_outside_snd, State.foldl_outside_fst, ite_self, Bool.cond_self, Parts.emits_recs, Parts.emits_classLost, Parts.emits_host, Parts.emits_lost, and_self, and_true, true_and, implies_true, forall_const, hP]

@[simp] theorem mcRestart_outside {P : Parts} (s : State) (hP : P.emits ∧ P.bank = true ∧ (∀ n, P.regs (Reg.BANK_STAT n)) ∧ P.bootu = true ∧ P.regs Reg.CAL_STAT ∧ P.commit = true ∧ P.regs Reg.FAB_DROP ∧ P.ecc = true ∧ (∀ n, P.regs (Reg.FP_UTIL n)) ∧ P.fab = true ∧ P.regs Reg.HIF_CMD_STAT ∧ P.fresh = true ∧ P.regs Reg.MC_WDOG ∧ P.mode = true ∧ P.out = true ∧ P.port = true) :
    (mcRestart s).outside P = s.outside P := by
  unfold mcRestart
  simp only [State.raise_outside, State.emit_outside, State.startMc_outside, State.abandonCommands_outside, State.outside_ecc, State.setReg_outside, State.push_outside, State.outside_ite, State.outside_bif, State.foldl_outside, State.foldl_outside_snd, State.foldl_outside_fst, ite_self, Bool.cond_self, Parts.emits_recs, Parts.emits_classLost, Parts.emits_host, Parts.emits_lost, and_self, and_true, true_and, implies_true, forall_const, hP]

@[simp] theorem mcSaturated_outside {P : Parts} (s : State) (load : Nat) (hP : P.emits ∧ P.regs Reg.MC_LOAD) :
    (mcSaturated s load).outside P = s.outside P := by
  unfold mcSaturated
  simp only [State.setFld_outside, State.setLive_outside, State.emit_outside, State.setReg_outside, State.push_outside, State.outside_ite, State.outside_bif, State.foldl_outside, State.foldl_outside_snd, State.foldl_outside_fst, ite_self, Bool.cond_self, Parts.emits_recs, Parts.emits_classLost, Parts.emits_host, Parts.emits_lost, and_self, and_true, true_and, implies_true, forall_const, hP]

@[simp] theorem mcSatClear_outside {P : Parts} (s : State) (load : Nat) (hP : P.regs Reg.MC_LOAD) :
    (mcSatClear s load).outside P = s.outside P := by
  unfold mcSatClear
  simp only [State.setFld_outside, State.clear_outside, State.setReg_outside, State.push_outside, State.outside_ite, State.outside_bif, State.foldl_outside, State.foldl_outside_snd, State.foldl_outside_fst, ite_self, Bool.cond_self, Parts.emits_recs, Parts.emits_classLost, Parts.emits_host, Parts.emits_lost, and_self, and_true, true_and, implies_true, forall_const, hP]

end Sys2Proof.Machine
end

