-- ==== Sys2Proof/Laws/FrameHostOps.lean ====
section
/-!
SUPPORT. What the operations of Machine/HostOps.lean write: each leaves every part of the state as it is but those its hypothesis names.
-/

set_option Elab.async false
set_option linter.unusedSimpArgs false
namespace Sys2Proof.Machine

@[simp] theorem State.setMsi_outside {P : Parts} (s : State) (v : Nat) (x : MsiVec) (hP : P.msi = true) :
    (State.setMsi s v x).outside P = s.outside P := by
  unfold State.setMsi
  simp only [State.outside_msi, State.setReg_outside, State.push_outside, State.outside_ite, State.outside_bif, State.foldl_outside, State.foldl_outside_snd, State.foldl_outside_fst, ite_self, Bool.cond_self, Parts.emits_recs, Parts.emits_classLost, Parts.emits_host, Parts.emits_lost, and_self, and_true, true_and, implies_true, forall_const, hP]

@[simp] theorem State.sendMsix_outside {P : Parts} (s : State) (v : Nat) (hP : P.msi = true ∧ P.regs Reg.MSIX_PBA ∧ P.out = true) :
    (State.sendMsix s v).outside P = s.outside P := by
  unfold State.sendMsix
  simp only [State.setBit_outside, State.put_outside, State.setMsi_outside, State.setReg_outside, State.push_outside, State.outside_ite, State.outside_bif, State.foldl_outside, State.foldl_outside_snd, State.foldl_outside_fst, ite_self, Bool.cond_self, Parts.emits_recs, Parts.emits_classLost, Parts.emits_host, Parts.emits_lost, and_self, and_true, true_and, implies_true, forall_const, hP]

@[simp] theorem State.notify_outside {P : Parts} (s : State) (v : Nat) (imm : Bool) (hP : P.msi = true ∧ P.regs Reg.MSIX_PBA ∧ P.out = true) :
    (State.notify s v imm).outside P = s.outside P := by
  unfold State.notify
  simp only [State.setMsi_outside, State.sendMsix_outside, State.setReg_outside, State.push_outside, State.outside_ite, State.outside_bif, State.foldl_outside, State.foldl_outside_snd, State.foldl_outside_fst, ite_self, Bool.cond_self, Parts.emits_recs, Parts.emits_classLost, Parts.emits_host, Parts.emits_lost, and_self, and_true, true_and, implies_true, forall_const, hP]

@[simp] theorem msixSend_outside {P : Parts} (s : State) (v : Nat) (hP : P.msi = true ∧ P.regs Reg.MSIX_PBA ∧ P.out = true) :
    (msixSend s v).outside P = s.outside P := by
  unfold msixSend
  simp only [State.sendMsix_outside, State.setReg_outside, State.push_outside, State.outside_ite, State.outside_bif, State.foldl_outside, State.foldl_outside_snd, State.foldl_outside_fst, ite_self, Bool.cond_self, Parts.emits_recs, Parts.emits_classLost, Parts.emits_host, Parts.emits_lost, and_self, and_true, true_and, implies_true, forall_const, hP]

end Sys2Proof.Machine
end

