-- ==== Sys2Proof/Laws/FrameEventQ.lean ====
section
/-!
SUPPORT. What the operations of Machine/EventQ.lean write: each leaves every part of the state as it is but those its hypothesis names.
-/

set_option Elab.async false
set_option linter.unusedSimpArgs false
namespace Sys2Proof.Machine

@[simp] theorem State.setEq_outside {P : Parts} (s : State) (q : Nat) (x : EvQueue) (hP : P.queues = true) :
    (State.setEq s q x).outside P = s.outside P := by
  unfold State.setEq
  simp only [State.outside_queues, State.setReg_outside, State.push_outside, State.outside_ite, State.outside_bif, State.foldl_outside, State.foldl_outside_snd, State.foldl_outside_fst, ite_self, Bool.cond_self, Parts.emits_recs, Parts.emits_classLost, Parts.emits_host, Parts.emits_lost, and_self, and_true, true_and, implies_true, forall_const, hP]

@[simp] theorem State.putRecord_outside {P : Parts} (s : State) (q : Nat) (r : Rec) (hP : P.msi = true ∧ (∀ n, P.regs (Reg.EQ_HEAD n)) ∧ P.out = true ∧ (∀ n, P.regs (Reg.EQ_SEQ n)) ∧ P.queues = true ∧ P.regs Reg.MSIX_PBA) :
    (State.putRecord s q r).outside P = s.outside P := by
  unfold State.putRecord
  simp only [State.setFld_outside, State.put_outside, State.notify_outside, State.setEq_outside, State.setReg_outside, State.push_outside, State.outside_ite, State.outside_bif, State.foldl_outside, State.foldl_outside_snd, State.foldl_outside_fst, ite_self, Bool.cond_self, Parts.emits_recs, Parts.emits_classLost, Parts.emits_host, Parts.emits_lost, and_self, and_true, true_and, implies_true, forall_const, hP]

@[simp] theorem State.putWithOrigin_outside {P : Parts} (s : State) (q : Nat) (r : Rec) (hP : P.msi = true ∧ (∀ n, P.regs (Reg.EQ_HEAD n)) ∧ P.out = true ∧ (∀ n, P.regs (Reg.EQ_SEQ n)) ∧ P.queues = true ∧ P.regs Reg.MSIX_PBA) :
    (State.putWithOrigin s q r).outside P = s.outside P := by
  unfold State.putWithOrigin
  simp only [State.setEq_outside, State.putRecord_outside, State.setReg_outside, State.push_outside, State.outside_ite, State.outside_bif, State.foldl_outside, State.foldl_outside_snd, State.foldl_outside_fst, ite_self, Bool.cond_self, Parts.emits_recs, Parts.emits_classLost, Parts.emits_host, Parts.emits_lost, and_self, and_true, true_and, implies_true, forall_const, hP]

@[simp] theorem State.coalesce_outside {P : Parts} (s : State) (q : Nat) (r : Rec) (hP : P.clk = true ∧ P.regs Reg.CLK_HOLD_CNT ∧ P.fab = true ∧ P.regs Reg.CLK_READY ∧ P.out = true ∧ P.regs Reg.CLK_SRC ∧ P.port = true ∧ P.regs Reg.CLK_STAT ∧ P.queues = true ∧ (∀ n, P.regs (Reg.EQ_LOST n)) ∧ P.regs Reg.FAB_STAT ∧ (∀ n, P.regs (Reg.FP_STAT n))) :
    (State.coalesce s q r).outside P = s.outside P := by
  unfold State.coalesce
  simp only [State.count_outside, lost_outside, State.setEq_outside, State.setReg_outside, State.push_outside, State.outside_ite, State.outside_bif, State.foldl_outside, State.foldl_outside_snd, State.foldl_outside_fst, ite_self, Bool.cond_self, Parts.emits_recs, Parts.emits_classLost, Parts.emits_host, Parts.emits_lost, and_self, and_true, true_and, implies_true, forall_const, hP]

@[simp] theorem State.queueRecord_outside {P : Parts} (s : State) (q : Nat) (r : Rec) (hP : P.clk = true ∧ P.regs Reg.CLK_HOLD_CNT ∧ P.fab = true ∧ P.regs Reg.CLK_READY ∧ P.msi = true ∧ P.regs Reg.CLK_SRC ∧ P.out = true ∧ P.regs Reg.CLK_STAT ∧ P.port = true ∧ (∀ n, P.regs (Reg.EQ_HEAD n)) ∧ P.queues = true ∧ (∀ n, P.regs (Reg.EQ_LOST n)) ∧ (∀ n, P.regs (Reg.EQ_SEQ n)) ∧ (∀ n, P.regs (Reg.EQ_STAT n)) ∧ P.regs Reg.FAB_STAT ∧ (∀ n, P.regs (Reg.FP_STAT n)) ∧ P.regs Reg.MSIX_PBA) :
    (State.queueRecord s q r).outside P = s.outside P := by
  unfold State.queueRecord
  simp only [State.setLive_outside, State.setEq_outside, State.putRecord_outside, State.putWithOrigin_outside, State.coalesce_outside, State.setReg_outside, State.push_outside, State.outside_ite, State.outside_bif, State.foldl_outside, State.foldl_outside_snd, State.foldl_outside_fst, ite_self, Bool.cond_self, Parts.emits_recs, Parts.emits_classLost, Parts.emits_host, Parts.emits_lost, and_self, and_true, true_and, implies_true, forall_const, hP]

@[simp] theorem State.checkResume_outside {P : Parts} (s : State) (q : Nat) (hP : P.clk = true ∧ P.regs Reg.CLK_HOLD_CNT ∧ P.fab = true ∧ P.regs Reg.CLK_READY ∧ P.msi = true ∧ P.regs Reg.CLK_SRC ∧ P.out = true ∧ P.regs Reg.CLK_STAT ∧ P.port = true ∧ (∀ n, P.regs (Reg.EQ_HEAD n)) ∧ P.queues = true ∧ (∀ n, P.regs (Reg.EQ_SEQ n)) ∧ (∀ n, P.regs (Reg.EQ_STAT n)) ∧ P.regs Reg.FAB_STAT ∧ (∀ n, P.regs (Reg.FP_STAT n)) ∧ P.regs Reg.MSIX_PBA) :
    (State.checkResume s q).outside P = s.outside P := by
  unfold State.checkResume
  simp only [State.clear_outside, lost_outside, State.setEq_outside, State.putRecord_outside, State.setReg_outside, State.push_outside, State.outside_ite, State.outside_bif, State.foldl_outside, State.foldl_outside_snd, State.foldl_outside_fst, ite_self, Bool.cond_self, Parts.emits_recs, Parts.emits_classLost, Parts.emits_host, Parts.emits_lost, and_self, and_true, true_and, implies_true, forall_const, hP]

@[simp] theorem eqCfgEnable_outside {P : Parts} (s : State) (q : Nat) (v : Word) (hP : P.fresh = true ∧ P.regs Reg.DEV_ABSENT_ADDR ∧ P.late = true ∧ P.regs Reg.DEV_ABSENT_WR ∧ P.queues = true ∧ (∀ n, P.regs (Reg.EQ_CFG n)) ∧ (∀ n, P.regs (Reg.EQ_HEAD n)) ∧ (∀ n, P.regs (Reg.EQ_SEQ n)) ∧ (∀ n, P.regs (Reg.EQ_STAT n)) ∧ (∀ n, P.regs (Reg.EQ_TAIL n))) :
    (eqCfgEnable s q v).outside P = s.outside P := by
  unfold eqCfgEnable
  simp only [State.clear_outside, State.writeJudged_outside, State.writeAbsent_outside, State.setEq_outside, State.setReg_outside, State.push_outside, State.outside_ite, State.outside_bif, State.foldl_outside, State.foldl_outside_snd, State.foldl_outside_fst, ite_self, Bool.cond_self, Parts.emits_recs, Parts.emits_classLost, Parts.emits_host, Parts.emits_lost, and_self, and_true, true_and, implies_true, forall_const, hP]

@[simp] theorem eqTailWrite_outside {P : Parts} (s : State) (q v : Nat) (hP : P.clk = true ∧ P.regs Reg.CLK_HOLD_CNT ∧ P.fab = true ∧ P.regs Reg.CLK_READY ∧ P.msi = true ∧ P.regs Reg.CLK_SRC ∧ P.out = true ∧ P.regs Reg.CLK_STAT ∧ P.port = true ∧ P.regs Reg.DEV_ABSENT_ADDR ∧ P.queues = true ∧ P.regs Reg.DEV_ABSENT_WR ∧ (∀ n, P.regs (Reg.EQ_HEAD n)) ∧ (∀ n, P.regs (Reg.EQ_SEQ n)) ∧ (∀ n, P.regs (Reg.EQ_STAT n)) ∧ (∀ n, P.regs (Reg.EQ_TAIL n)) ∧ P.regs Reg.FAB_STAT ∧ (∀ n, P.regs (Reg.FP_STAT n)) ∧ P.regs Reg.MSIX_PBA) :
    (eqTailWrite s q v).outside P = s.outside P := by
  unfold eqTailWrite
  simp only [State.setFld_outside, State.raise_outside, State.writeAbsent_outside, State.setEq_outside, State.checkResume_outside, State.setReg_outside, State.push_outside, State.outside_ite, State.outside_bif, State.foldl_outside, State.foldl_outside_snd, State.foldl_outside_fst, ite_self, Bool.cond_self, Parts.emits_recs, Parts.emits_classLost, Parts.emits_host, Parts.emits_lost, and_self, and_true, true_and, implies_true, forall_const, hP]

@[simp] theorem State.toldFault_outside {P : Parts} (s : State) (fault : Bool) (hP : P.host = true) :
    (State.toldFault s fault).outside P = s.outside P := by
  unfold State.toldFault
  simp only [State.outside_host, State.setReg_outside, State.push_outside, State.outside_ite, State.outside_bif, State.foldl_outside, State.foldl_outside_snd, State.foldl_outside_fst, ite_self, Bool.cond_self, Parts.emits_recs, Parts.emits_classLost, Parts.emits_host, Parts.emits_lost, and_self, and_true, true_and, implies_true, forall_const, hP]

@[simp] theorem eventRecordWrite_outside {P : Parts} (s : State) (hP : P.classLost = true ∧ P.regs Reg.CLK_HOLD_CNT ∧ P.clk = true ∧ P.regs Reg.CLK_READY ∧ P.fab = true ∧ P.regs Reg.CLK_SRC ∧ P.fresh = true ∧ P.regs Reg.CLK_STAT ∧ P.host = true ∧ (∀ n, P.regs (Reg.EQ_HEAD n)) ∧ P.msi = true ∧ (∀ n, P.regs (Reg.EQ_LOST n)) ∧ P.out = true ∧ (∀ n, P.regs (Reg.EQ_SEQ n)) ∧ P.port = true ∧ (∀ n, P.regs (Reg.EQ_STAT n)) ∧ P.queues = true ∧ P.regs Reg.FAB_DROP ∧ P.recs = true ∧ P.regs Reg.FAB_STAT ∧ (∀ n, P.regs (Reg.FP_STAT n)) ∧ (∀ n, P.regs (Reg.FP_UTIL n)) ∧ P.regs Reg.MSIX_PBA) :
    (eventRecordWrite s).outside P = s.outside P := by
  unfold eventRecordWrite
  repeat' split
  all_goals first | rfl | simp only [State.sendEvent_outside, State.queueRecord_outside, State.toldFault_outside, State.outside_recs_classLost, State.setReg_outside, State.push_outside, State.outside_ite, State.outside_bif, State.foldl_outside, State.foldl_outside_snd, State.foldl_outside_fst, ite_self, Bool.cond_self, Parts.emits_recs, Parts.emits_classLost, Parts.emits_host, Parts.emits_lost, and_self, and_true, true_and, implies_true, forall_const, hP]

@[simp] theorem State.deliverRecs_outside {P : Parts} (s : State) (fuel : Nat) (hP : P.classLost = true ∧ P.regs Reg.CLK_HOLD_CNT ∧ P.clk = true ∧ P.regs Reg.CLK_READY ∧ P.fab = true ∧ P.regs Reg.CLK_SRC ∧ P.fresh = true ∧ P.regs Reg.CLK_STAT ∧ P.host = true ∧ (∀ n, P.regs (Reg.EQ_HEAD n)) ∧ P.msi = true ∧ (∀ n, P.regs (Reg.EQ_LOST n)) ∧ P.out = true ∧ (∀ n, P.regs (Reg.EQ_SEQ n)) ∧ P.port = true ∧ (∀ n, P.regs (Reg.EQ_STAT n)) ∧ P.queues = true ∧ P.regs Reg.FAB_DROP ∧ P.recs = true ∧ P.regs Reg.FAB_STAT ∧ (∀ n, P.regs (Reg.FP_STAT n)) ∧ (∀ n, P.regs (Reg.FP_UTIL n)) ∧ P.regs Reg.MSIX_PBA) :
    (State.deliverRecs s fuel).outside P = s.outside P := by
  induction fuel generalizing s with
  | zero => rfl
  | succ fuel ih =>
    simp only [State.deliverRecs, eventRecordWrite_outside, State.setReg_outside, State.push_outside, State.outside_ite, State.outside_bif, State.foldl_outside, State.foldl_outside_snd, State.foldl_outside_fst, ite_self, Bool.cond_self, Parts.emits_recs, Parts.emits_classLost, Parts.emits_host, Parts.emits_lost, and_self, and_true, true_and, implies_true, forall_const, hP, ih]

@[simp] theorem eventDeferredDelivery_outside {P : Parts} (s : State) (hP : P.classLost = true ∧ P.regs Reg.CLK_HOLD_CNT ∧ P.clk = true ∧ P.regs Reg.CLK_READY ∧ P.fab = true ∧ P.regs Reg.CLK_SRC ∧ P.fresh = true ∧ P.regs Reg.CLK_STAT ∧ P.host = true ∧ (∀ n, P.regs (Reg.EQ_HEAD n)) ∧ P.msi = true ∧ (∀ n, P.regs (Reg.EQ_LOST n)) ∧ P.out = true ∧ (∀ n, P.regs (Reg.EQ_SEQ n)) ∧ P.port = true ∧ (∀ n, P.regs (Reg.EQ_STAT n)) ∧ P.queues = true ∧ P.regs Reg.FAB_DROP ∧ P.recs = true ∧ P.regs Reg.FAB_STAT ∧ (∀ n, P.regs (Reg.FP_STAT n)) ∧ (∀ n, P.regs (Reg.FP_UTIL n)) ∧ P.regs Reg.MSIX_PBA) :
    (eventDeferredDelivery s).outside P = s.outside P := by
  unfold eventDeferredDelivery
  simp only [State.deliverRecs_outside, State.setReg_outside, State.push_outside, State.outside_ite, State.outside_bif, State.foldl_outside, State.foldl_outside_snd, State.foldl_outside_fst, ite_self, Bool.cond_self, Parts.emits_recs, Parts.emits_classLost, Parts.emits_host, Parts.emits_lost, and_self, and_true, true_and, implies_true, forall_const, hP]

@[simp] theorem State.ackEvent_outside {P : Parts} (s : State) (origin tag : Nat) (hP : P.fab = true ∧ P.regs Reg.FAB_DROP ∧ P.out = true ∧ (∀ n, P.regs (Reg.FP_UTIL n)) ∧ P.port = true) :
    (State.ackEvent s origin tag).outside P = s.outside P := by
  unfold State.ackEvent
  simp only [State.answer_outside, State.setReg_outside, State.push_outside, State.outside_ite, State.outside_bif, State.foldl_outside, State.foldl_outside_snd, State.foldl_outside_fst, ite_self, Bool.cond_self, Parts.emits_recs, Parts.emits_classLost, Parts.emits_host, Parts.emits_lost, and_self, and_true, true_and, implies_true, forall_const, hP]

@[simp] theorem eventPacketRx_outside {P : Parts} (s : State) (origin tag : Nat) (r : Rec) (hP : P.clk = true ∧ P.regs Reg.CLK_HOLD_CNT ∧ P.fab = true ∧ P.regs Reg.CLK_READY ∧ P.fresh = true ∧ P.regs Reg.CLK_SRC ∧ P.host = true ∧ P.regs Reg.CLK_STAT ∧ P.msi = true ∧ (∀ n, P.regs (Reg.EQ_HEAD n)) ∧ P.out = true ∧ (∀ n, P.regs (Reg.EQ_LOST n)) ∧ P.port = true ∧ (∀ n, P.regs (Reg.EQ_SEQ n)) ∧ P.queues = true ∧ (∀ n, P.regs (Reg.EQ_STAT n)) ∧ P.regs Reg.FAB_DROP ∧ P.regs Reg.FAB_STAT ∧ (∀ n, P.regs (Reg.FP_STAT n)) ∧ (∀ n, P.regs (Reg.FP_UTIL n)) ∧ P.regs Reg.HIF_CMD_STAT ∧ P.regs Reg.MSIX_PBA) :
    (eventPacketRx s origin tag r).outside P = s.outside P := by
  unfold eventPacketRx
  simp only [State.inject_outside, State.setInflight_outside, State.loseTarget_outside, State.queueRecord_outside, State.ackEvent_outside, State.setReg_outside, State.push_outside, State.outside_ite, State.outside_bif, State.foldl_outside, State.foldl_outside_snd, State.foldl_outside_fst, ite_self, Bool.cond_self, Parts.emits_recs, Parts.emits_classLost, Parts.emits_host, Parts.emits_lost, and_self, and_true, true_and, implies_true, forall_const, hP]
  repeat' (first | rfl | (split <;> try simp only [State.inject_outside, State.setInflight_outside, State.loseTarget_outside, State.queueRecord_outside, State.ackEvent_outside, State.setReg_outside, State.push_outside, State.outside_ite, State.outside_bif, State.foldl_outside, State.foldl_outside_snd, State.foldl_outside_fst, ite_self, Bool.cond_self, Parts.emits_recs, Parts.emits_classLost, Parts.emits_host, Parts.emits_lost, and_self, and_true, true_and, implies_true, forall_const, hP]))

@[simp] theorem eventAckRx_outside {P : Parts} (s : State) (origin tag : Nat) (hP : P.fab = true ∧ P.regs Reg.FAB_DROP ∧ P.host = true ∧ (∀ n, P.regs (Reg.FP_UTIL n)) ∧ P.out = true ∧ P.port = true) :
    (eventAckRx s origin tag).outside P = s.outside P := by
  unfold eventAckRx
  simp only [State.dropRequest_outside, State.toldFault_outside, State.outside_host, State.setReg_outside, State.push_outside, State.outside_ite, State.outside_bif, State.foldl_outside, State.foldl_outside_snd, State.foldl_outside_fst, ite_self, Bool.cond_self, Parts.emits_recs, Parts.emits_classLost, Parts.emits_host, Parts.emits_lost, and_self, and_true, true_and, implies_true, forall_const, hP]

@[simp] theorem State.eventBack_outside {P : Parts} (s : State) (tag : Nat) (hP : P.emits) :
    (State.eventBack s tag).outside P = s.outside P := by
  unfold State.eventBack
  repeat' split
  all_goals first | rfl | simp only [State.outside_host, State.outside_recs, State.outside_recs_host, State.setReg_outside, State.push_outside, State.outside_ite, State.outside_bif, State.foldl_outside, State.foldl_outside_snd, State.foldl_outside_fst, ite_self, Bool.cond_self, Parts.emits_recs, Parts.emits_classLost, Parts.emits_host, Parts.emits_lost, and_self, and_true, true_and, implies_true, forall_const, hP]

@[simp] theorem rateLimitIntervalEnd_outside {P : Parts} (s : State) (type key : Nat) (hP : P.emits ∧ P.rate = true) :
    (rateLimitIntervalEnd s type key).outside P = s.outside P := by
  unfold rateLimitIntervalEnd
  simp only [State.setRate_outside, State.setReg_outside, State.push_outside, State.outside_ite, State.outside_bif, State.foldl_outside, State.foldl_outside_snd, State.foldl_outside_fst, ite_self, Bool.cond_self, Parts.emits_recs, Parts.emits_classLost, Parts.emits_host, Parts.emits_lost, and_self, and_true, true_and, implies_true, forall_const, hP]
  repeat' (first | rfl | (split <;> try simp only [State.setRate_outside, State.setReg_outside, State.push_outside, State.outside_ite, State.outside_bif, State.foldl_outside, State.foldl_outside_snd, State.foldl_outside_fst, ite_self, Bool.cond_self, Parts.emits_recs, Parts.emits_classLost, Parts.emits_host, Parts.emits_lost, and_self, and_true, true_and, implies_true, forall_const, hP]))

end Sys2Proof.Machine
end

