-- ==== Sys2Proof/Laws/FrameWide.lean ====
section
/-!
SUPPORT. What the operations of Machine/Wide.lean write: each leaves every part of the state as it is but those its hypothesis names.
-/

set_option Elab.async false
set_option linter.unusedSimpArgs false
namespace Sys2Proof.Machine

@[simp] theorem wConverterStart_outside {P : Parts} (s : State) (n : Nat) (hP : P.clk = true ∧ P.regs Reg.CLK_GATE_OPEN ∧ P.wch = true ∧ P.regs Reg.CLK_STAT ∧ (∀ n, P.regs (Reg.WCH_STAT n)) ∧ (∀ n, P.regs (Reg.WCH_WAKE_CNT n))) :
    (wConverterStart s n).outside P = s.outside P := by
  unfold wConverterStart
  simp only [State.raise_outside, State.count_outside, State.setWch_outside, State.openGate_outside, State.setReg_outside, State.push_outside, State.outside_ite, State.outside_bif, State.foldl_outside, State.foldl_outside_snd, State.foldl_outside_fst, ite_self, Bool.cond_self, Parts.emits_recs, Parts.emits_classLost, Parts.emits_host, Parts.emits_lost, and_self, and_true, true_and, implies_true, forall_const, hP]

@[simp] theorem State.wRestart_outside {P : Parts} (s : State) (n : Nat) (hP : P.nodes = true ∧ P.res = true ∧ P.streams = true ∧ P.wch = true) :
    (State.wRestart s n).outside P = s.outside P := by
  unfold State.wRestart
  simp only [State.setWch_outside, State.discontinue_outside, State.restartRes_outside, State.setReg_outside, State.push_outside, State.outside_ite, State.outside_bif, State.foldl_outside, State.foldl_outside_snd, State.foldl_outside_fst, ite_self, Bool.cond_self, Parts.emits_recs, Parts.emits_classLost, Parts.emits_host, Parts.emits_lost, and_self, and_true, true_and, implies_true, forall_const, hP]

@[simp] theorem wConverterReady_outside {P : Parts} (s : State) (n : Nat) (hP : P.hc = true ∧ (∀ n, P.regs (Reg.WCH_STAT n)) ∧ P.nodes = true ∧ P.res = true ∧ P.streams = true ∧ P.wch = true) :
    (wConverterReady s n).outside P = s.outside P := by
  unfold wConverterReady
  simp only [State.raise_outside, State.clear_outside, State.setWch_outside, State.setHc_outside, State.wRestart_outside, State.setReg_outside, State.push_outside, State.outside_ite, State.outside_bif, State.foldl_outside, State.foldl_outside_snd, State.foldl_outside_fst, ite_self, Bool.cond_self, Parts.emits_recs, Parts.emits_classLost, Parts.emits_host, Parts.emits_lost, and_self, and_true, true_and, implies_true, forall_const, hP]

@[simp] theorem State.wSleep_outside {P : Parts} (s : State) (n : Nat) (hP : P.clk = true ∧ (∀ n, P.regs (Reg.WCH_STAT n)) ∧ P.wch = true) :
    (State.wSleep s n).outside P = s.outside P := by
  unfold State.wSleep
  simp only [State.clear_outside, State.setWch_outside, State.closeGate_outside, State.setReg_outside, State.push_outside, State.outside_ite, State.outside_bif, State.foldl_outside, State.foldl_outside_snd, State.foldl_outside_fst, ite_self, Bool.cond_self, Parts.emits_recs, Parts.emits_classLost, Parts.emits_host, Parts.emits_lost, and_self, and_true, true_and, implies_true, forall_const, hP]

@[simp] theorem wConverterStop_outside {P : Parts} (s : State) (n : Nat) (hP : P.clk = true ∧ (∀ n, P.regs (Reg.WCH_STAT n)) ∧ P.wch = true) :
    (wConverterStop s n).outside P = s.outside P := by
  unfold wConverterStop
  simp only [State.wSleep_outside, State.setReg_outside, State.push_outside, State.outside_ite, State.outside_bif, State.foldl_outside, State.foldl_outside_snd, State.foldl_outside_fst, ite_self, Bool.cond_self, Parts.emits_recs, Parts.emits_classLost, Parts.emits_host, Parts.emits_lost, and_self, and_true, true_and, implies_true, forall_const, hP]

@[simp] theorem State.decimated_outside {P : Parts} (s : State) (d : Nat) (win : List WSample) (hP : P.fresh = true) :
    (State.decimated s d win).2.outside P = s.outside P := by
  unfold State.decimated
  simp only [State.freeNat_outside, State.setReg_outside, State.push_outside, State.outside_ite, State.outside_bif, State.foldl_outside, State.foldl_outside_snd, State.foldl_outside_fst, ite_self, Bool.cond_self, Parts.emits_recs, Parts.emits_classLost, Parts.emits_host, Parts.emits_lost, and_self, and_true, true_and, implies_true, forall_const, hP]
  repeat' (first | rfl | (split <;> try simp only [State.freeNat_outside, State.setReg_outside, State.push_outside, State.outside_ite, State.outside_bif, State.foldl_outside, State.foldl_outside_snd, State.foldl_outside_fst, ite_self, Bool.cond_self, Parts.emits_recs, Parts.emits_classLost, Parts.emits_host, Parts.emits_lost, and_self, and_true, true_and, implies_true, forall_const, hP]))

@[simp] theorem State.wOutput_outside {P : Parts} (s : State) (n : Nat) (hP : P.emits ∧ P.fab = true ∧ P.regs Reg.FAB_DROP ∧ P.fresh = true ∧ (∀ n, P.regs (Reg.FP_UTIL n)) ∧ P.mode = true ∧ P.regs Reg.HIF_CMD_STAT ∧ P.nodes = true ∧ P.regs Reg.MODE_STAT ∧ P.out = true ∧ P.regs Reg.PACER_STAT ∧ P.port = true ∧ (∀ n, P.regs (Reg.RES_OVCNT n)) ∧ P.rate = true ∧ P.regs Reg.SAF_CAUSE ∧ P.res = true ∧ P.regs Reg.SAF_CAUSE_S ∧ P.smon = true ∧ P.regs Reg.SAF_CNT ∧ P.streams = true ∧ P.regs Reg.SAF_STAT ∧ P.trust = true ∧ P.regs Reg.SAF_VER0 ∧ P.wch = true ∧ P.regs Reg.SAF_VER1 ∧ P.regs Reg.SAF_W ∧ P.regs Reg.STR_STAGE ∧ P.regs Reg.STR_STAT) :
    (State.wOutput s n).outside P = s.outside P := by
  unfold State.wOutput
  simp only [State.setWch_outside, State.deliver_outside, State.verifyW_outside, State.setTrustPoison_outside, State.newResult_outside, State.decimated_outside, State.setReg_outside, State.push_outside, State.outside_ite, State.outside_bif, State.foldl_outside, State.foldl_outside_snd, State.foldl_outside_fst, ite_self, Bool.cond_self, Parts.emits_recs, Parts.emits_classLost, Parts.emits_host, Parts.emits_lost, and_self, and_true, true_and, implies_true, forall_const, hP]
  repeat' (first | rfl | (split <;> try simp only [State.setWch_outside, State.deliver_outside, State.verifyW_outside, State.setTrustPoison_outside, State.newResult_outside, State.decimated_outside, State.setReg_outside, State.push_outside, State.outside_ite, State.outside_bif, State.foldl_outside, State.foldl_outside_snd, State.foldl_outside_fst, ite_self, Bool.cond_self, Parts.emits_recs, Parts.emits_classLost, Parts.emits_host, Parts.emits_lost, and_self, and_true, true_and, implies_true, forall_const, hP]))

@[simp] theorem State.wAbsorb_outside {P : Parts} (s : State) (n : Nat) (hP : P.hc = true) :
    (State.wAbsorb s n).outside P = s.outside P := by
  unfold State.wAbsorb
  simp only [State.setHc_outside, State.setReg_outside, State.push_outside, State.outside_ite, State.outside_bif, State.foldl_outside, State.foldl_outside_snd, State.foldl_outside_fst, ite_self, Bool.cond_self, Parts.emits_recs, Parts.emits_classLost, Parts.emits_host, Parts.emits_lost, and_self, and_true, true_and, implies_true, forall_const, hP]

@[simp] theorem State.wFeedHit_outside {P : Parts} (s : State) (n : Nat) (x : WSample) (hP : P.hc = true) :
    (State.wFeedHit s n x).outside P = s.outside P := by
  unfold State.wFeedHit
  simp only [State.setHc_outside, State.wAbsorb_outside, State.setReg_outside, State.push_outside, State.outside_ite, State.outside_bif, State.foldl_outside, State.foldl_outside_snd, State.foldl_outside_fst, ite_self, Bool.cond_self, Parts.emits_recs, Parts.emits_classLost, Parts.emits_host, Parts.emits_lost, and_self, and_true, true_and, implies_true, forall_const, hP]

@[simp] theorem State.wOverrange_outside {P : Parts} (s : State) (n : Nat) (ovr neg : Bool) (hP : P.emits ∧ P.rate = true ∧ (∀ n, P.regs (Reg.WCH_OVR_CNT n)) ∧ P.wch = true ∧ (∀ n, P.regs (Reg.WCH_STAT n))) :
    (State.wOverrange s n ovr neg).outside P = s.outside P := by
  unfold State.wOverrange
  simp only [State.clear_outside, State.setLive_outside, State.count_outside, State.setWch_outside, State.emitLimited_outside, State.setReg_outside, State.push_outside, State.outside_ite, State.outside_bif, State.foldl_outside, State.foldl_outside_snd, State.foldl_outside_fst, ite_self, Bool.cond_self, Parts.emits_recs, Parts.emits_classLost, Parts.emits_host, Parts.emits_lost, and_self, and_true, true_and, implies_true, forall_const, hP]

@[simp] theorem nativeSample_outside {P : Parts} (s : State) (n : Nat) (r : BitVec 20) (hP : P.emits ∧ P.fab = true ∧ P.regs Reg.FAB_DROP ∧ P.fresh = true ∧ (∀ n, P.regs (Reg.FP_UTIL n)) ∧ P.hc = true ∧ P.regs Reg.HIF_CMD_STAT ∧ P.mode = true ∧ P.regs Reg.MODE_STAT ∧ P.nodes = true ∧ P.regs Reg.PACER_STAT ∧ P.out = true ∧ (∀ n, P.regs (Reg.RES_OVCNT n)) ∧ P.port = true ∧ P.regs Reg.SAF_CAUSE ∧ P.rate = true ∧ P.regs Reg.SAF_CAUSE_S ∧ P.res = true ∧ P.regs Reg.SAF_CNT ∧ P.smon = true ∧ P.regs Reg.SAF_STAT ∧ P.streams = true ∧ P.regs Reg.SAF_VER0 ∧ P.trust = true ∧ P.regs Reg.SAF_VER1 ∧ P.wch = true ∧ P.regs Reg.SAF_W ∧ P.regs Reg.STR_STAGE ∧ P.regs Reg.STR_STAT ∧ (∀ n, P.regs (Reg.WCH_OVR_CNT n)) ∧ (∀ n, P.regs (Reg.WCH_STAT n))) :
    (nativeSample s n r).outside P = s.outside P := by
  unfold nativeSample
  simp only [State.freeNat_outside, State.setWch_outside, State.wOutput_outside, State.wFeedHit_outside, State.wOverrange_outside, State.setReg_outside, State.push_outside, State.outside_ite, State.outside_bif, State.foldl_outside, State.foldl_outside_snd, State.foldl_outside_fst, ite_self, Bool.cond_self, Parts.emits_recs, Parts.emits_classLost, Parts.emits_host, Parts.emits_lost, and_self, and_true, true_and, implies_true, forall_const, hP]

@[simp] theorem wOverrangeLeave_outside {P : Parts} (s : State) (n : Nat) (hP : P.emits ∧ P.rate = true ∧ P.wch = true) :
    (wOverrangeLeave s n).outside P = s.outside P := by
  unfold wOverrangeLeave
  simp only [State.setWch_outside, State.emitLimited_outside, State.setReg_outside, State.push_outside, State.outside_ite, State.outside_bif, State.foldl_outside, State.foldl_outside_snd, State.foldl_outside_fst, ite_self, Bool.cond_self, Parts.emits_recs, Parts.emits_classLost, Parts.emits_host, Parts.emits_lost, and_self, and_true, true_and, implies_true, forall_const, hP]

@[simp] theorem wchCfgWrite_outside {P : Parts} (s : State) (n : Nat) (v : Word) (hP : P.clk = true ∧ P.regs Reg.DEV_ABSENT_ADDR ∧ P.fresh = true ∧ P.regs Reg.DEV_ABSENT_WR ∧ P.late = true ∧ (∀ n, P.regs (Reg.WCH_CFG n)) ∧ P.nodes = true ∧ (∀ n, P.regs (Reg.WCH_DELAY n)) ∧ P.res = true ∧ (∀ n, P.regs (Reg.WCH_STAT n)) ∧ P.streams = true ∧ P.wch = true) :
    (wchCfgWrite s n v).outside P = s.outside P := by
  unfold wchCfgWrite
  simp only [State.setFld_outside, State.writeJudged_outside, State.setWch_outside, State.writeAbsent_outside, State.wRestart_outside, State.wSleep_outside, State.setReg_outside, State.push_outside, State.outside_ite, State.outside_bif, State.foldl_outside, State.foldl_outside_snd, State.foldl_outside_fst, ite_self, Bool.cond_self, Parts.emits_recs, Parts.emits_classLost, Parts.emits_host, Parts.emits_lost, and_self, and_true, true_and, implies_true, forall_const, hP]

end Sys2Proof.Machine
end

