-- ==== Sys2Proof/Laws/FrameTimeOps.lean ====
section
/-!
SUPPORT. What the operations of Machine/TimeOps.lean write: each leaves every part of the state as it is but those its hypothesis names.
-/

set_option Elab.async false
set_option linter.unusedSimpArgs false
namespace Sys2Proof.Machine

@[simp] theorem timeExchange_outside {P : Parts} (s : State) (p : Nat) (l : LinkSec) (t4 : Time) (hP : P.emits ∧ P.fab = true ∧ P.regs Reg.CLK_READY ∧ P.out = true ∧ P.regs Reg.FAB_STAT ∧ P.port = true ∧ P.regs Reg.FAB_THETA ∧ P.streams = true ∧ (∀ n, P.regs (Reg.FP_DELAY n)) ∧ P.time = true ∧ (∀ n, P.regs (Reg.FP_DOWN_CNT n)) ∧ P.timeRem = true ∧ (∀ n, P.regs (Reg.FP_REPLAY_CNT n)) ∧ (∀ n, P.regs (Reg.FP_STAT n)) ∧ (∀ n, P.regs (Reg.FP_UTIL n))) :
    (timeExchange s p l t4).outside P = s.outside P := by
  unfold timeExchange
  simp only [State.servePort_outside, State.takeLink_outside, State.setReg_outside, State.push_outside, State.outside_ite, State.outside_bif, State.foldl_outside, State.foldl_outside_snd, State.foldl_outside_fst, ite_self, Bool.cond_self, Parts.emits_recs, Parts.emits_classLost, Parts.emits_host, Parts.emits_lost, and_self, and_true, true_and, implies_true, forall_const, hP]

@[simp] theorem State.announceStep_outside {P : Parts} (s : State) (step : Int) (hP : P.fab = true ∧ P.regs Reg.FAB_DROP ∧ P.fresh = true ∧ (∀ n, P.regs (Reg.FP_UTIL n)) ∧ P.out = true ∧ P.port = true) :
    (State.announceStep s step).outside P = s.outside P := by
  unfold State.announceStep
  simp only [State.put_outside, State.broadcast_outside, State.outside_fab, State.setReg_outside, State.push_outside, State.outside_ite, State.outside_bif, State.foldl_outside, State.foldl_outside_snd, State.foldl_outside_fst, ite_self, Bool.cond_self, Parts.emits_recs, Parts.emits_classLost, Parts.emits_host, Parts.emits_lost, and_self, and_true, true_and, implies_true, forall_const, hP]

@[simp] theorem State.steerBy_outside {P : Parts} (s : State) (theta : Int) (hP : P.fab = true ∧ P.regs Reg.FAB_FREQ ∧ P.regs Reg.FAB_THETA) :
    (State.steerBy s theta).outside P = s.outside P := by
  unfold State.steerBy
  simp only [State.showFreq_outside, State.outside_fab, State.setReg_outside, State.push_outside, State.outside_ite, State.outside_bif, State.foldl_outside, State.foldl_outside_snd, State.foldl_outside_fst, ite_self, Bool.cond_self, Parts.emits_recs, Parts.emits_classLost, Parts.emits_host, Parts.emits_lost, and_self, and_true, true_and, implies_true, forall_const, hP]

@[simp] theorem State.sourceSample_outside {P : Parts} (s : State) (theta : Int) (hP : P.emits ∧ P.fab = true ∧ P.regs Reg.FAB_DROP ∧ P.fresh = true ∧ P.regs Reg.FAB_FREQ ∧ P.out = true ∧ P.regs Reg.FAB_STAT ∧ P.port = true ∧ P.regs Reg.FAB_THETA ∧ (∀ n, P.regs (Reg.FP_UTIL n))) :
    (State.sourceSample s theta).outside P = s.outside P := by
  unfold State.sourceSample
  simp only [State.raise_outside, State.emit_outside, State.announceStep_outside, State.steerBy_outside, State.outside_fab, State.setReg_outside, State.push_outside, State.outside_ite, State.outside_bif, State.foldl_outside, State.foldl_outside_snd, State.foldl_outside_fst, ite_self, Bool.cond_self, Parts.emits_recs, Parts.emits_classLost, Parts.emits_host, Parts.emits_lost, and_self, and_true, true_and, implies_true, forall_const, hP]

@[simp] theorem ptmSample_outside {P : Parts} (s : State) (ns : BitVec 64) (hP : P.emits ∧ P.fab = true ∧ P.regs Reg.FAB_DROP ∧ P.fresh = true ∧ P.regs Reg.FAB_FREQ ∧ P.out = true ∧ P.regs Reg.FAB_STAT ∧ P.port = true ∧ P.regs Reg.FAB_THETA ∧ (∀ n, P.regs (Reg.FP_UTIL n)) ∧ P.regs Reg.HIF_STAT) :
    (ptmSample s ns).outside P = s.outside P := by
  unfold ptmSample
  simp only [State.raise_outside, State.sourceSample_outside, State.setReg_outside, State.push_outside, State.outside_ite, State.outside_bif, State.foldl_outside, State.foldl_outside_snd, State.foldl_outside_fst, ite_self, Bool.cond_self, Parts.emits_recs, Parts.emits_classLost, Parts.emits_host, Parts.emits_lost, and_self, and_true, true_and, implies_true, forall_const, hP]

@[simp] theorem ppsInEdge_outside {P : Parts} (s : State) (t : Time) (hP : P.emits ∧ P.fab = true ∧ P.regs Reg.FAB_DROP ∧ P.fresh = true ∧ P.regs Reg.FAB_FREQ ∧ P.out = true ∧ P.regs Reg.FAB_PPS_SEC ∧ P.port = true ∧ P.regs Reg.FAB_STAT ∧ P.regs Reg.FAB_THETA ∧ (∀ n, P.regs (Reg.FP_UTIL n))) :
    (ppsInEdge s t).outside P = s.outside P := by
  unfold ppsInEdge
  simp only [State.sourceSample_outside, State.setReg_outside, State.push_outside, State.outside_ite, State.outside_bif, State.foldl_outside, State.foldl_outside_snd, State.foldl_outside_fst, ite_self, Bool.cond_self, Parts.emits_recs, Parts.emits_classLost, Parts.emits_host, Parts.emits_lost, and_self, and_true, true_and, implies_true, forall_const, hP]

@[simp] theorem timeLost_outside {P : Parts} (s : State) (hP : P.emits ∧ P.fab = true ∧ P.regs Reg.FAB_STAT) :
    (timeLost s).outside P = s.outside P := by
  unfold timeLost
  simp only [State.clear_outside, State.emit_outside, State.outside_fab, State.setReg_outside, State.push_outside, State.outside_ite, State.outside_bif, State.foldl_outside, State.foldl_outside_snd, State.foldl_outside_fst, ite_self, Bool.cond_self, Parts.emits_recs, Parts.emits_classLost, Parts.emits_host, Parts.emits_lost, and_self, and_true, true_and, implies_true, forall_const, hP]

@[simp] theorem timeStep_outside {P : Parts} (s : State) (step : Int) (t : Time) (hP : P.fab = true) :
    (timeStep s step t).outside P = s.outside P := by
  unfold timeStep
  simp only [State.outside_fab, State.setReg_outside, State.push_outside, State.outside_ite, State.outside_bif, State.foldl_outside, State.foldl_outside_snd, State.foldl_outside_fst, ite_self, Bool.cond_self, Parts.emits_recs, Parts.emits_classLost, Parts.emits_host, Parts.emits_lost, and_self, and_true, true_and, implies_true, forall_const, hP]

@[simp] theorem State.wStep_outside {P : Parts} (s : State) (n : Nat) (step : Int) (hP : P.nodes = true ∧ P.res = true ∧ P.streams = true ∧ P.wch = true) :
    (State.wStep s n step).outside P = s.outside P := by
  unfold State.wStep
  simp only [State.setWch_outside, State.wRestart_outside, State.setReg_outside, State.push_outside, State.outside_ite, State.outside_bif, State.foldl_outside, State.foldl_outside_snd, State.foldl_outside_fst, ite_self, Bool.cond_self, Parts.emits_recs, Parts.emits_classLost, Parts.emits_host, Parts.emits_lost, and_self, and_true, true_and, implies_true, forall_const, hP]

@[simp] theorem State.renumber_outside {P : Parts} (s : State) (dk : Int) (hP : P.bank = true ∧ P.baseIdx = true ∧ P.chk = true ∧ P.pch = true) :
    (State.renumber s dk).outside P = s.outside P := by
  unfold State.renumber
  simp only [State.setPch_outside, State.setBank_outside, State.setChk_outside, State.outside_baseIdx, State.setReg_outside, State.push_outside, State.outside_ite, State.outside_bif, State.foldl_outside, State.foldl_outside_snd, State.foldl_outside_fst, ite_self, Bool.cond_self, Parts.emits_recs, Parts.emits_classLost, Parts.emits_host, Parts.emits_lost, and_self, and_true, true_and, implies_true, forall_const, hP]

@[simp] theorem timeStepApply_outside {P : Parts} (s : State) (hP : P.emits ∧ P.alarm = true ∧ P.regs Reg.FAB_STAT ∧ P.bank = true ∧ (∀ n, P.regs (Reg.PCH_FLT_STAT n)) ∧ P.baseIdx = true ∧ P.regs Reg.SNP_MISS_CNT ∧ P.bootu = true ∧ P.regs Reg.SNP_NEXT_HI ∧ P.chan = true ∧ P.regs Reg.SNP_NEXT_LO ∧ P.chk = true ∧ P.regs Reg.SNP_STAT ∧ P.clk = true ∧ P.regs Reg.STR_STAT ∧ P.clu = true ∧ P.drc = true ∧ P.ecc = true ∧ P.eng = true ∧ P.exc = true ∧ P.fab = true ∧ P.hc = true ∧ P.mode = true ∧ P.msi = true ∧ P.nodes = true ∧ P.pacer = true ∧ P.pch = true ∧ P.pins = true ∧ P.port = true ∧ P.rate = true ∧ P.res = true ∧ P.rings = true ∧ P.smon = true ∧ P.snp = true ∧ P.start = true ∧ P.streams = true ∧ P.time = true ∧ P.trig = true ∧ P.wch = true ∧ P.wm = true) :
    (timeStepApply s).outside P = s.outside P := by
  unfold timeStepApply
  repeat' split
  all_goals first | rfl | simp only [State.raise_outside, State.emit_outside, State.showPending_outside, State.missSnapshot_outside, State.restartAllChains_outside, State.keepElapsed_outside, State.rearmTimers_outside, State.wStep_outside, State.renumber_outside, State.outside_pins, State.outside_snp, State.outside_time_fab, State.setReg_outside, State.push_outside, State.outside_ite, State.outside_bif, State.foldl_outside, State.foldl_outside_snd, State.foldl_outside_fst, ite_self, Bool.cond_self, Parts.emits_recs, Parts.emits_classLost, Parts.emits_host, Parts.emits_lost, and_self, and_true, true_and, implies_true, forall_const, hP]

@[simp] theorem syncOutSecond_outside {P : Parts} (s : State) (rise : Bool) (hP : P.out = true ∧ P.pins = true) :
    (syncOutSecond s rise).outside P = s.outside P := by
  unfold syncOutSecond
  simp only [State.put_outside, State.outside_pins, State.setReg_outside, State.push_outside, State.outside_ite, State.outside_bif, State.foldl_outside, State.foldl_outside_snd, State.foldl_outside_fst, ite_self, Bool.cond_self, Parts.emits_recs, Parts.emits_classLost, Parts.emits_host, Parts.emits_lost, and_self, and_true, true_and, implies_true, forall_const, hP]

end Sys2Proof.Machine
end

