-- ==== Sys2Proof/Laws/FrameFabric.lean ====
section
/-!
SUPPORT. What the operations of Machine/Fabric.lean write: each leaves every part of the state as it is but those its hypothesis names.
-/

set_option Elab.async false
set_option linter.unusedSimpArgs false
namespace Sys2Proof.Machine

@[simp] theorem hello_outside {P : Parts} (s : State) (p adv : Nat) (key : Key) (nport naddr : Nat) (hP : P.port = true ∧ P.regs Reg.CLK_READY ∧ P.regs Reg.FAB_STAT ∧ (∀ n, P.regs (Reg.FP_NBR_ADDR n)) ∧ (∀ n, P.regs (Reg.FP_NBR_HI n)) ∧ (∀ n, P.regs (Reg.FP_NBR_LO n)) ∧ (∀ n, P.regs (Reg.FP_STAT n))) :
    (hello s p adv key nport naddr).outside P = s.outside P := by
  unfold hello
  simp only [State.setFld_outside, State.setPair_outside, State.setPort_outside, State.takeAdv_outside, State.setReg_outside, State.push_outside, State.outside_ite, State.outside_bif, State.foldl_outside, State.foldl_outside_snd, State.foldl_outside_fst, ite_self, Bool.cond_self, Parts.emits_recs, Parts.emits_classLost, Parts.emits_host, Parts.emits_lost, and_self, and_true, true_and, implies_true, forall_const, hP]

@[simp] theorem State.advertise_outside {P : Parts} (s : State) (hP : P.fab = true ∧ P.out = true ∧ P.port = true) :
    (State.advertise s).outside P = s.outside P := by
  unfold State.advertise
  simp only [State.sendControl_outside, State.noteOwn_outside, State.setReg_outside, State.push_outside, State.outside_ite, State.outside_bif, State.foldl_outside, State.foldl_outside_snd, State.foldl_outside_fst, ite_self, Bool.cond_self, Parts.emits_recs, Parts.emits_classLost, Parts.emits_host, Parts.emits_lost, and_self, and_true, true_and, implies_true, forall_const, hP]

@[simp] theorem elect_outside {P : Parts} (s : State) (p : Nat) (key : Key) (hops : Nat) (hP : P.fab = true ∧ P.out = true ∧ P.port = true) :
    (elect s p key hops).outside P = s.outside P := by
  unfold elect
  simp only [State.setPort_outside, State.advertise_outside, State.outside_fab, State.setReg_outside, State.push_outside, State.outside_ite, State.outside_bif, State.foldl_outside, State.foldl_outside_snd, State.foldl_outside_fst, ite_self, Bool.cond_self, Parts.emits_recs, Parts.emits_classLost, Parts.emits_host, Parts.emits_lost, and_self, and_true, true_and, implies_true, forall_const, hP]

@[simp] theorem State.askInfo_outside {P : Parts} (s : State) (die : Nat) (way : List Nat) (hP : P.fab = true ∧ P.regs Reg.FAB_DROP ∧ P.out = true ∧ (∀ n, P.regs (Reg.FP_UTIL n)) ∧ P.port = true) :
    (State.askInfo s die way).outside P = s.outside P := by
  unfold State.askInfo
  simp only [State.request_outside, State.outside_fab, State.setReg_outside, State.push_outside, State.outside_ite, State.outside_bif, State.foldl_outside, State.foldl_outside_snd, State.foldl_outside_fst, ite_self, Bool.cond_self, Parts.emits_recs, Parts.emits_classLost, Parts.emits_host, Parts.emits_lost, and_self, and_true, true_and, implies_true, forall_const, hP]

@[simp] theorem State.explore_outside {P : Parts} (s : State) (hP : P.fab = true ∧ P.regs Reg.FAB_DROP ∧ P.out = true ∧ (∀ n, P.regs (Reg.FP_UTIL n)) ∧ P.port = true) :
    (State.explore s).outside P = s.outside P := by
  unfold State.explore
  simp only [State.askInfo_outside, State.setReg_outside, State.push_outside, State.outside_ite, State.outside_bif, State.foldl_outside, State.foldl_outside_snd, State.foldl_outside_fst, ite_self, Bool.cond_self, Parts.emits_recs, Parts.emits_classLost, Parts.emits_host, Parts.emits_lost, and_self, and_true, true_and, implies_true, forall_const, hP]

@[simp] theorem electionWin_outside {P : Parts} (s : State) (hP : P.fab = true ∧ P.regs Reg.FAB_DROP ∧ P.out = true ∧ P.regs Reg.FAB_STAT ∧ P.port = true ∧ (∀ n, P.regs (Reg.FP_UTIL n))) :
    (electionWin s).outside P = s.outside P := by
  unfold electionWin
  simp only [State.setFld_outside, State.raise_outside, State.explore_outside, State.outside_fab, State.setReg_outside, State.push_outside, State.outside_ite, State.outside_bif, State.foldl_outside, State.foldl_outside_snd, State.foldl_outside_fst, ite_self, Bool.cond_self, Parts.emits_recs, Parts.emits_classLost, Parts.emits_host, Parts.emits_lost, and_self, and_true, true_and, implies_true, forall_const, hP]

@[simp] theorem State.fromManager_outside {P : Parts} (s : State) (die : Nat) (act : State → State) (hact : ∀ s : State, (act s).outside P = s.outside P) (hP : P.fab = true ∧ P.regs Reg.FAB_DROP) :
    (State.fromManager s die act).outside P = s.outside P := by
  unfold State.fromManager
  simp only [State.count_outside, State.outside_fab, State.setReg_outside, State.push_outside, State.outside_ite, State.outside_bif, State.foldl_outside, State.foldl_outside_snd, State.foldl_outside_fst, ite_self, Bool.cond_self, Parts.emits_recs, Parts.emits_classLost, Parts.emits_host, Parts.emits_lost, and_self, and_true, true_and, implies_true, forall_const, hact, hP]

@[simp] theorem info_outside {P : Parts} (s : State) (die tag : Nat) (hP : P.fab = true ∧ P.regs Reg.FAB_DROP ∧ P.fresh = true ∧ (∀ n, P.regs (Reg.FP_UTIL n)) ∧ P.out = true ∧ P.port = true) :
    (info s die tag).outside P = s.outside P := by
  unfold info
  refine State.fromManager_outside s die _ (fun s => ?_) (by simp only [hP, and_self, implies_true])
  split
  · exact State.inject_outside _ _ (by simp only [hP, and_self, implies_true])
  · dsimp only
    simp only [State.answer_outside, State.freeNat_outside, State.put_outside, hP, and_self, implies_true]

@[simp] theorem setAddr_outside {P : Parts} (s : State) (die addr : Nat) (hP : P.fab = true ∧ P.regs Reg.FAB_ADDR ∧ P.regs Reg.FAB_DROP) :
    (setAddr s die addr).outside P = s.outside P := by
  unfold setAddr
  simp only [State.setFld_outside, State.fromManager_outside, State.setReg_outside, State.push_outside, State.outside_ite, State.outside_bif, State.foldl_outside, State.foldl_outside_snd, State.foldl_outside_fst, ite_self, Bool.cond_self, Parts.emits_recs, Parts.emits_classLost, Parts.emits_host, Parts.emits_lost, and_self, and_true, true_and, implies_true, forall_const, hP]

@[simp] theorem State.writeShadow_outside {P : Parts} (s : State) (entries : List (Nat × Nat)) (hP : P.fab = true) :
    (State.writeShadow s entries).outside P = s.outside P := by
  unfold State.writeShadow
  simp only [State.outside_fab, State.setReg_outside, State.push_outside, State.outside_ite, State.outside_bif, State.foldl_outside, State.foldl_outside_snd, State.foldl_outside_fst, ite_self, Bool.cond_self, Parts.emits_recs, Parts.emits_classLost, Parts.emits_host, Parts.emits_lost, and_self, and_true, true_and, implies_true, forall_const, hP]

@[simp] theorem rtWrite_outside {P : Parts} (s : State) (die : Nat) (entries : List (Nat × Nat)) (hP : P.fab = true ∧ P.regs Reg.FAB_DROP) :
    (rtWrite s die entries).outside P = s.outside P := by
  unfold rtWrite
  simp only [State.fromManager_outside, State.writeShadow_outside, State.setReg_outside, State.push_outside, State.outside_ite, State.outside_bif, State.foldl_outside, State.foldl_outside_snd, State.foldl_outside_fst, ite_self, Bool.cond_self, Parts.emits_recs, Parts.emits_classLost, Parts.emits_host, Parts.emits_lost, and_self, and_true, true_and, implies_true, forall_const, hP]

@[simp] theorem State.setRoles_outside {P : Parts} (s : State) (manager standby root successor : Nat) (hP : P.regs Reg.CLK_READY ∧ P.regs Reg.FAB_ROLES0 ∧ P.regs Reg.FAB_ROLES1 ∧ P.regs Reg.FAB_STAT ∧ (∀ n, P.regs (Reg.FP_STAT n))) :
    (State.setRoles s manager standby root successor).outside P = s.outside P := by
  unfold State.setRoles
  simp only [State.setFld_outside, State.showSource_outside, State.setReg_outside, State.push_outside, State.outside_ite, State.outside_bif, State.foldl_outside, State.foldl_outside_snd, State.foldl_outside_fst, ite_self, Bool.cond_self, Parts.emits_recs, Parts.emits_classLost, Parts.emits_host, Parts.emits_lost, and_self, and_true, true_and, implies_true, forall_const, hP]

@[simp] theorem State.takeRoles_outside {P : Parts} (s : State) (who : List Nat) (depth ecc : Nat) (hP : P.regs Reg.CLK_READY ∧ P.regs Reg.FAB_ROLES0 ∧ P.regs Reg.FAB_ROLES1 ∧ P.regs Reg.FAB_STAT ∧ (∀ n, P.regs (Reg.FP_STAT n))) :
    (State.takeRoles s who depth ecc).outside P = s.outside P := by
  unfold State.takeRoles
  simp only [State.setFld_outside, State.setRoles_outside, State.setReg_outside, State.push_outside, State.outside_ite, State.outside_bif, State.foldl_outside, State.foldl_outside_snd, State.foldl_outside_fst, ite_self, Bool.cond_self, Parts.emits_recs, Parts.emits_classLost, Parts.emits_host, Parts.emits_lost, and_self, and_true, true_and, implies_true, forall_const, hP]

@[simp] theorem roles_outside {P : Parts} (s : State) (die manager standby root successor stbyDie rootDie depth ecc : Nat) (hP : P.fab = true ∧ P.regs Reg.CLK_READY ∧ P.regs Reg.FAB_DROP ∧ P.regs Reg.FAB_ROLES0 ∧ P.regs Reg.FAB_ROLES1 ∧ P.regs Reg.FAB_STAT ∧ (∀ n, P.regs (Reg.FP_STAT n))) :
    (roles s die manager standby root successor stbyDie rootDie depth ecc).outside P = s.outside P := by
  unfold roles
  simp only [State.fromManager_outside, State.takeRoles_outside, State.outside_fab, State.setReg_outside, State.push_outside, State.outside_ite, State.outside_bif, State.foldl_outside, State.foldl_outside_snd, State.foldl_outside_fst, ite_self, Bool.cond_self, Parts.emits_recs, Parts.emits_classLost, Parts.emits_host, Parts.emits_lost, and_self, and_true, true_and, implies_true, forall_const, hP]

@[simp] theorem clkSel_outside {P : Parts} (s : State) (die sel : Nat) (hP : P.clk = true ∧ P.regs Reg.CLK_READY ∧ P.fab = true ∧ P.regs Reg.CLK_SRC ∧ P.regs Reg.CLK_STAT ∧ P.regs Reg.FAB_DROP ∧ P.regs Reg.FAB_STAT ∧ (∀ n, P.regs (Reg.FP_STAT n))) :
    (clkSel s die sel).outside P = s.outside P := by
  unfold clkSel
  simp only [State.selectSource_outside, State.fromManager_outside, State.setReg_outside, State.push_outside, State.outside_ite, State.outside_bif, State.foldl_outside, State.foldl_outside_snd, State.foldl_outside_fst, ite_self, Bool.cond_self, Parts.emits_recs, Parts.emits_classLost, Parts.emits_host, Parts.emits_lost, and_self, and_true, true_and, implies_true, forall_const, hP]

@[simp] theorem heartbeat_outside {P : Parts} (s : State) (die : Nat) (hP : P.fab = true ∧ P.regs Reg.FAB_DROP) :
    (heartbeat s die).outside P = s.outside P := by
  unfold heartbeat
  simp only [State.fromManager_outside, State.outside_fab, State.setReg_outside, State.push_outside, State.outside_ite, State.outside_bif, State.foldl_outside, State.foldl_outside_snd, State.foldl_outside_fst, ite_self, Bool.cond_self, Parts.emits_recs, Parts.emits_classLost, Parts.emits_host, Parts.emits_lost, and_self, and_true, true_and, implies_true, forall_const, hP]

@[simp] theorem heartbeatSend_outside {P : Parts} (s : State) (hP : P.fab = true ∧ P.regs Reg.FAB_DROP ∧ P.out = true ∧ (∀ n, P.regs (Reg.FP_UTIL n)) ∧ P.port = true) :
    (heartbeatSend s).outside P = s.outside P := by
  unfold heartbeatSend
  simp only [State.inject_outside, State.outside_fab, State.setReg_outside, State.push_outside, State.outside_ite, State.outside_bif, State.foldl_outside, State.foldl_outside_snd, State.foldl_outside_fst, ite_self, Bool.cond_self, Parts.emits_recs, Parts.emits_classLost, Parts.emits_host, Parts.emits_lost, and_self, and_true, true_and, implies_true, forall_const, hP]

@[simp] theorem mirror_outside {P : Parts} (s : State) (die : Nat) (topo : List Dev) (hP : P.fab = true ∧ P.regs Reg.FAB_DROP) :
    (mirror s die topo).outside P = s.outside P := by
  unfold mirror
  simp only [State.fromManager_outside, State.outside_fab, State.setReg_outside, State.push_outside, State.outside_ite, State.outside_bif, State.foldl_outside, State.foldl_outside_snd, State.foldl_outside_fst, ite_self, Bool.cond_self, Parts.emits_recs, Parts.emits_classLost, Parts.emits_host, Parts.emits_lost, and_self, and_true, true_and, implies_true, forall_const, hP]

@[simp] theorem State.sendMgmt_outside {P : Parts} (s : State) (d : Dev) (op : Nat) (name : String) (values : List Int) (hP : P.fresh = true ∧ P.regs Reg.FAB_DROP ∧ P.out = true ∧ (∀ n, P.regs (Reg.FP_UTIL n)) ∧ P.port = true) :
    (State.sendMgmt s d op name values).outside P = s.outside P := by
  unfold State.sendMgmt
  simp only [State.freeNat_outside, State.put_outside, State.inject_outside, State.setReg_outside, State.push_outside, State.outside_ite, State.outside_bif, State.foldl_outside, State.foldl_outside_snd, State.foldl_outside_fst, ite_self, Bool.cond_self, Parts.emits_recs, Parts.emits_classLost, Parts.emits_host, Parts.emits_lost, and_self, and_true, true_and, implies_true, forall_const, hP]

@[simp] theorem State.nextMove_outside {P : Parts} (s : State) (hP : P.clk = true ∧ P.regs Reg.CLK_READY ∧ P.fab = true ∧ P.regs Reg.CLK_SRC ∧ P.fresh = true ∧ P.regs Reg.CLK_STAT ∧ P.out = true ∧ P.regs Reg.FAB_DROP ∧ P.port = true ∧ P.regs Reg.FAB_STAT ∧ (∀ n, P.regs (Reg.FP_STAT n)) ∧ (∀ n, P.regs (Reg.FP_UTIL n))) :
    (State.nextMove s).outside P = s.outside P := by
  unfold State.nextMove
  simp only [State.selectSource_outside, State.askInfo_outside, State.sendMgmt_outside, State.outside_fab, State.setReg_outside, State.push_outside, State.outside_ite, State.outside_bif, State.foldl_outside, State.foldl_outside_snd, State.foldl_outside_fst, ite_self, Bool.cond_self, Parts.emits_recs, Parts.emits_classLost, Parts.emits_host, Parts.emits_lost, and_self, and_true, true_and, implies_true, forall_const, hP]
  repeat' (first | rfl | (split <;> try simp only [State.selectSource_outside, State.askInfo_outside, State.sendMgmt_outside, State.outside_fab, State.setReg_outside, State.push_outside, State.outside_ite, State.outside_bif, State.foldl_outside, State.foldl_outside_snd, State.foldl_outside_fst, ite_self, Bool.cond_self, Parts.emits_recs, Parts.emits_classLost, Parts.emits_host, Parts.emits_lost, and_self, and_true, true_and, implies_true, forall_const, hP]))

@[simp] theorem mgmtRspRx_outside {P : Parts} (s : State) (tag : Nat) (dev : Dev) (hP : P.clk = true ∧ P.regs Reg.CLK_READY ∧ P.fab = true ∧ P.regs Reg.CLK_SRC ∧ P.fresh = true ∧ P.regs Reg.CLK_STAT ∧ P.out = true ∧ P.regs Reg.FAB_DROP ∧ P.port = true ∧ P.regs Reg.FAB_STAT ∧ (∀ n, P.regs (Reg.FP_STAT n)) ∧ (∀ n, P.regs (Reg.FP_UTIL n))) :
    (mgmtRspRx s tag dev).outside P = s.outside P := by
  unfold mgmtRspRx
  repeat' split
  all_goals first | rfl | simp only [State.dropRequest_outside, State.explore_outside, State.nextMove_outside, State.outside_fab, State.setReg_outside, State.push_outside, State.outside_ite, State.outside_bif, State.foldl_outside, State.foldl_outside_snd, State.foldl_outside_fst, ite_self, Bool.cond_self, Parts.emits_recs, Parts.emits_classLost, Parts.emits_host, Parts.emits_lost, and_self, and_true, true_and, implies_true, forall_const, hP]

@[simp] theorem clkSwitched_outside {P : Parts} (s : State) (hP : P.emits ∧ P.clk = true ∧ P.regs Reg.CLK_READY ∧ P.fab = true ∧ P.regs Reg.CLK_SRC ∧ P.fresh = true ∧ P.regs Reg.CLK_STAT ∧ P.out = true ∧ P.regs Reg.FAB_DROP ∧ P.port = true ∧ P.regs Reg.FAB_STAT ∧ (∀ n, P.regs (Reg.FP_STAT n)) ∧ (∀ n, P.regs (Reg.FP_UTIL n))) :
    (clkSwitched s).outside P = s.outside P := by
  unfold clkSwitched
  simp only [clkSwitch_outside, State.nextMove_outside, State.setReg_outside, State.push_outside, State.outside_ite, State.outside_bif, State.foldl_outside, State.foldl_outside_snd, State.foldl_outside_fst, ite_self, Bool.cond_self, Parts.emits_recs, Parts.emits_classLost, Parts.emits_host, Parts.emits_lost, and_self, and_true, true_and, implies_true, forall_const, hP]

@[simp] theorem State.takeLimits_outside {P : Parts} (s : State) (limited : List (Nat × Nat × Nat)) (hP : P.emits ∧ P.fab = true ∧ P.regs Reg.FAB_STAT ∧ (∀ n, P.regs (Reg.FP_STAT n))) :
    (State.takeLimits s limited).outside P = s.outside P := by
  unfold State.takeLimits
  simp only [State.raise_outside, State.emit_outside, State.setLink_outside, State.outside_fab, State.setReg_outside, State.push_outside, State.outside_ite, State.outside_bif, State.foldl_outside, State.foldl_outside_snd, State.foldl_outside_fst, ite_self, Bool.cond_self, Parts.emits_recs, Parts.emits_classLost, Parts.emits_host, Parts.emits_lost, and_self, and_true, true_and, implies_true, forall_const, hP]

@[simp] theorem State.instruct_outside {P : Parts} (s : State) (q : Plan) (isNew : Dev → Bool) (d : Dev) (hP : P.fresh = true ∧ P.regs Reg.FAB_DROP ∧ P.out = true ∧ (∀ n, P.regs (Reg.FP_UTIL n)) ∧ P.port = true) :
    (State.instruct s q isNew d).outside P = s.outside P := by
  unfold State.instruct
  simp only [State.sendMgmt_outside, State.setReg_outside, State.push_outside, State.outside_ite, State.outside_bif, State.foldl_outside, State.foldl_outside_snd, State.foldl_outside_fst, ite_self, Bool.cond_self, Parts.emits_recs, Parts.emits_classLost, Parts.emits_host, Parts.emits_lost, and_self, and_true, true_and, implies_true, forall_const, hP]

@[simp] theorem State.sendMirror_outside {P : Parts} (s : State) (hP : P.fresh = true ∧ P.regs Reg.FAB_DROP ∧ P.out = true ∧ (∀ n, P.regs (Reg.FP_UTIL n)) ∧ P.port = true) :
    (State.sendMirror s).outside P = s.outside P := by
  unfold State.sendMirror
  repeat' split
  all_goals first | rfl | simp only [State.sendMgmt_outside, State.setReg_outside, State.push_outside, State.outside_ite, State.outside_bif, State.foldl_outside, State.foldl_outside_snd, State.foldl_outside_fst, ite_self, Bool.cond_self, Parts.emits_recs, Parts.emits_classLost, Parts.emits_host, Parts.emits_lost, and_self, and_true, true_and, implies_true, forall_const, hP]

@[simp] theorem State.takePlan_outside {P : Parts} (s : State) (g : List Dev) (q : Plan) (hP : P.emits ∧ P.fab = true ∧ P.regs Reg.CLK_READY ∧ P.fresh = true ∧ P.regs Reg.FAB_ADDR ∧ P.out = true ∧ P.regs Reg.FAB_DROP ∧ P.port = true ∧ P.regs Reg.FAB_ROLES0 ∧ P.regs Reg.FAB_ROLES1 ∧ P.regs Reg.FAB_SIZE ∧ P.regs Reg.FAB_STAT ∧ (∀ n, P.regs (Reg.FP_STAT n)) ∧ (∀ n, P.regs (Reg.FP_UTIL n))) :
    (State.takePlan s g q).outside P = s.outside P := by
  unfold State.takePlan
  simp only [State.setFld_outside, State.raise_outside, State.emit_outside, State.writeShadow_outside, State.takeRoles_outside, State.takeLimits_outside, State.instruct_outside, State.sendMirror_outside, State.outside_fab, State.setReg_outside, State.push_outside, State.outside_ite, State.outside_bif, State.foldl_outside, State.foldl_outside_snd, State.foldl_outside_fst, ite_self, Bool.cond_self, Parts.emits_recs, Parts.emits_classLost, Parts.emits_host, Parts.emits_lost, and_self, and_true, true_and, implies_true, forall_const, hP]

@[simp] theorem State.commitTables_outside {P : Parts} (s : State) (hP : P.fab = true ∧ P.regs Reg.FAB_DROP ∧ P.fresh = true ∧ (∀ n, P.regs (Reg.FP_UTIL n)) ∧ P.out = true ∧ P.port = true) :
    (State.commitTables s).outside P = s.outside P := by
  unfold State.commitTables
  simp only [State.put_outside, State.broadcast_outside, State.outside_fab, State.setReg_outside, State.push_outside, State.outside_ite, State.outside_bif, State.foldl_outside, State.foldl_outside_snd, State.foldl_outside_fst, ite_self, Bool.cond_self, Parts.emits_recs, Parts.emits_classLost, Parts.emits_host, Parts.emits_lost, and_self, and_true, true_and, implies_true, forall_const, hP]

@[simp] theorem discoveryDone_outside {P : Parts} (s : State) (topo : List Dev) (limited : List (Nat × Nat × Nat)) (who : List Nat) (diameter : Nat) (hP : P.emits ∧ P.fab = true ∧ P.regs Reg.CLK_READY ∧ P.fresh = true ∧ P.regs Reg.FAB_ADDR ∧ P.out = true ∧ P.regs Reg.FAB_DROP ∧ P.port = true ∧ P.regs Reg.FAB_ROLES0 ∧ P.regs Reg.FAB_ROLES1 ∧ P.regs Reg.FAB_SIZE ∧ P.regs Reg.FAB_STAT ∧ (∀ n, P.regs (Reg.FP_STAT n)) ∧ (∀ n, P.regs (Reg.FP_UTIL n))) :
    (discoveryDone s topo limited who diameter).outside P = s.outside P := by
  unfold discoveryDone
  repeat' split
  all_goals first | rfl | simp only [State.emit_outside, State.takePlan_outside, State.commitTables_outside, State.setReg_outside, State.push_outside, State.outside_ite, State.outside_bif, State.foldl_outside, State.foldl_outside_snd, State.foldl_outside_fst, ite_self, Bool.cond_self, Parts.emits_recs, Parts.emits_classLost, Parts.emits_host, Parts.emits_lost, and_self, and_true, true_and, implies_true, forall_const, hP]

@[simp] theorem fabChurn_outside {P : Parts} (s : State) (hP : P.emits ∧ P.fab = true ∧ P.regs Reg.FAB_STAT) :
    (fabChurn s).outside P = s.outside P := by
  unfold fabChurn
  simp only [State.raise_outside, State.emit_outside, State.outside_fab, State.setReg_outside, State.push_outside, State.outside_ite, State.outside_bif, State.foldl_outside, State.foldl_outside_snd, State.foldl_outside_fst, ite_self, Bool.cond_self, Parts.emits_recs, Parts.emits_classLost, Parts.emits_host, Parts.emits_lost, and_self, and_true, true_and, implies_true, forall_const, hP]

@[simp] theorem State.loseDevices_outside {P : Parts} (s : State) (addrs : List Nat) (hP : P.emits ∧ P.fab = true ∧ P.regs Reg.FAB_DROP ∧ P.fresh = true ∧ (∀ n, P.regs (Reg.FP_UTIL n)) ∧ P.out = true ∧ P.regs Reg.HIF_CMD_STAT ∧ P.port = true) :
    (State.loseDevices s addrs).outside P = s.outside P := by
  unfold State.loseDevices
  simp (maxDischargeDepth := 6) only [State.emit_outside, State.loseTarget_outside, State.setReg_outside, State.push_outside, State.outside_ite, State.outside_bif, State.foldl_outside, State.foldl_outside_snd, State.foldl_outside_fst, ite_self, Bool.cond_self, Parts.emits_recs, Parts.emits_classLost, Parts.emits_host, Parts.emits_lost, and_self, and_true, true_and, implies_true, forall_const, hP]

@[simp] theorem State.beginReroute_outside {P : Parts} (s : State) (g : List Dev) (q : Plan) (links : Nat) (hP : P.emits ∧ P.clk = true ∧ P.regs Reg.CLK_HOLD_CNT ∧ P.fab = true ∧ P.regs Reg.CLK_READY ∧ P.fresh = true ∧ P.regs Reg.CLK_SRC ∧ P.out = true ∧ P.regs Reg.CLK_STAT ∧ P.port = true ∧ P.regs Reg.FAB_ADDR ∧ P.regs Reg.FAB_DROP ∧ P.regs Reg.FAB_ROLES0 ∧ P.regs Reg.FAB_ROLES1 ∧ P.regs Reg.FAB_SIZE ∧ P.regs Reg.FAB_STAT ∧ (∀ n, P.regs (Reg.FP_STAT n)) ∧ (∀ n, P.regs (Reg.FP_UTIL n)) ∧ P.regs Reg.HIF_CMD_STAT) :
    (State.beginReroute s g q links).outside P = s.outside P := by
  unfold State.beginReroute
  simp only [State.setFld_outside, lost_outside, State.takePlan_outside, State.commitTables_outside, fabChurn_outside, State.loseDevices_outside, State.outside_fab, State.setReg_outside, State.push_outside, State.outside_ite, State.outside_bif, State.foldl_outside, State.foldl_outside_snd, State.foldl_outside_fst, ite_self, Bool.cond_self, Parts.emits_recs, Parts.emits_classLost, Parts.emits_host, Parts.emits_lost, and_self, and_true, true_and, implies_true, forall_const, hP]

@[simp] theorem reroute_outside {P : Parts} (s : State) (topo : List Dev) (lost : List Nat) (links : Nat) (plan : Routing) (hP : P.emits ∧ P.clk = true ∧ P.regs Reg.CLK_HOLD_CNT ∧ P.fab = true ∧ P.regs Reg.CLK_READY ∧ P.fresh = true ∧ P.regs Reg.CLK_SRC ∧ P.out = true ∧ P.regs Reg.CLK_STAT ∧ P.port = true ∧ P.regs Reg.FAB_ADDR ∧ P.regs Reg.FAB_DROP ∧ P.regs Reg.FAB_ROLES0 ∧ P.regs Reg.FAB_ROLES1 ∧ P.regs Reg.FAB_SIZE ∧ P.regs Reg.FAB_STAT ∧ (∀ n, P.regs (Reg.FP_STAT n)) ∧ (∀ n, P.regs (Reg.FP_UTIL n)) ∧ P.regs Reg.HIF_CMD_STAT) :
    (reroute s topo lost links plan).outside P = s.outside P := by
  unfold reroute
  repeat' split
  all_goals first | rfl | simp only [lost_outside, State.topologyChange_outside, State.beginReroute_outside, State.setReg_outside, State.push_outside, State.outside_ite, State.outside_bif, State.foldl_outside, State.foldl_outside_snd, State.foldl_outside_fst, ite_self, Bool.cond_self, Parts.emits_recs, Parts.emits_classLost, Parts.emits_host, Parts.emits_lost, and_self, and_true, true_and, implies_true, forall_const, hP]

@[simp] theorem tableCommit_outside {P : Parts} (s : State) (t : Time) (hP : P.fab = true) :
    (tableCommit s t).outside P = s.outside P := by
  unfold tableCommit
  simp only [State.outside_fab, State.setReg_outside, State.push_outside, State.outside_ite, State.outside_bif, State.foldl_outside, State.foldl_outside_snd, State.foldl_outside_fst, ite_self, Bool.cond_self, Parts.emits_recs, Parts.emits_classLost, Parts.emits_host, Parts.emits_lost, and_self, and_true, true_and, implies_true, forall_const, hP]

@[simp] theorem State.showUplink_outside {P : Parts} (s : State) (hP : (∀ n, P.regs (Reg.FP_STAT n))) :
    (State.showUplink s).outside P = s.outside P := by
  unfold State.showUplink
  simp only [State.setFld_outside, State.setReg_outside, State.push_outside, State.outside_ite, State.outside_bif, State.foldl_outside, State.foldl_outside_snd, State.foldl_outside_fst, ite_self, Bool.cond_self, Parts.emits_recs, Parts.emits_classLost, Parts.emits_host, Parts.emits_lost, and_self, and_true, true_and, implies_true, forall_const, hP]

@[simp] theorem State.resendAll_outside {P : Parts} (s : State) (hP : P.streams = true) :
    (State.resendAll s).outside P = s.outside P := by
  unfold State.resendAll
  simp only [State.outside_streams, State.setReg_outside, State.push_outside, State.outside_ite, State.outside_bif, State.foldl_outside, State.foldl_outside_snd, State.foldl_outside_fst, ite_self, Bool.cond_self, Parts.emits_recs, Parts.emits_classLost, Parts.emits_host, Parts.emits_lost, and_self, and_true, true_and, implies_true, forall_const, hP]

@[simp] theorem tableSwitch_outside {P : Parts} (s : State) (hP : P.emits ∧ P.clk = true ∧ P.regs Reg.CLK_HOLD_CNT ∧ P.fab = true ∧ P.regs Reg.CLK_READY ∧ P.fresh = true ∧ P.regs Reg.CLK_SRC ∧ P.out = true ∧ P.regs Reg.CLK_STAT ∧ P.port = true ∧ P.regs Reg.FAB_ADDR ∧ P.streams = true ∧ P.regs Reg.FAB_CNT ∧ P.regs Reg.FAB_DROP ∧ P.regs Reg.FAB_ROLES0 ∧ P.regs Reg.FAB_ROLES1 ∧ P.regs Reg.FAB_SIZE ∧ P.regs Reg.FAB_STAT ∧ P.regs Reg.FAB_VC ∧ (∀ n, P.regs (Reg.FP_STAT n)) ∧ (∀ n, P.regs (Reg.FP_UTIL n)) ∧ P.regs Reg.HIF_CMD_STAT) :
    (tableSwitch s).outside P = s.outside P := by
  unfold tableSwitch
  simp only [State.setFld_outside, State.raise_outside, State.count_outside, State.emit_outside, lost_outside, vcResumed_outside, State.nextMove_outside, reroute_outside, State.showUplink_outside, State.resendAll_outside, State.outside_fab, State.setReg_outside, State.push_outside, State.outside_ite, State.outside_bif, State.foldl_outside, State.foldl_outside_snd, State.foldl_outside_fst, ite_self, Bool.cond_self, Parts.emits_recs, Parts.emits_classLost, Parts.emits_host, Parts.emits_lost, and_self, and_true, true_and, implies_true, forall_const, hP]
  repeat' (first | rfl | (split <;> try simp only [State.setFld_outside, State.raise_outside, State.count_outside, State.emit_outside, lost_outside, vcResumed_outside, State.nextMove_outside, reroute_outside, State.showUplink_outside, State.resendAll_outside, State.outside_fab, State.setReg_outside, State.push_outside, State.outside_ite, State.outside_bif, State.foldl_outside, State.foldl_outside_snd, State.foldl_outside_fst, ite_self, Bool.cond_self, Parts.emits_recs, Parts.emits_classLost, Parts.emits_host, Parts.emits_lost, and_self, and_true, true_and, implies_true, forall_const, hP]))

@[simp] theorem bankRetire_outside {P : Parts} (s : State) (hP : P.fab = true) :
    (bankRetire s).outside P = s.outside P := by
  unfold bankRetire
  simp only [State.outside_fab, State.setReg_outside, State.push_outside, State.outside_ite, State.outside_bif, State.foldl_outside, State.foldl_outside_snd, State.foldl_outside_fst, ite_self, Bool.cond_self, Parts.emits_recs, Parts.emits_classLost, Parts.emits_host, Parts.emits_lost, and_self, and_true, true_and, implies_true, forall_const, hP]

@[simp] theorem State.takeManager_outside {P : Parts} (s : State) (hP : P.fab = true ∧ P.regs Reg.FAB_DROP ∧ P.regs Reg.FAB_ROLES1 ∧ P.regs Reg.FAB_STAT) :
    (State.takeManager s).outside P = s.outside P := by
  unfold State.takeManager
  simp only [State.setFld_outside, State.raise_outside, State.clear_outside, mirror_outside, State.outside_fab, State.setReg_outside, State.push_outside, State.outside_ite, State.outside_bif, State.foldl_outside, State.foldl_outside_snd, State.foldl_outside_fst, ite_self, Bool.cond_self, Parts.emits_recs, Parts.emits_classLost, Parts.emits_host, Parts.emits_lost, and_self, and_true, true_and, implies_true, forall_const, hP]

@[simp] theorem State.announceRoles_outside {P : Parts} (s : State) (gone : Nat) (hP : P.fresh = true ∧ P.regs Reg.FAB_DROP ∧ P.out = true ∧ (∀ n, P.regs (Reg.FP_UTIL n)) ∧ P.port = true) :
    (State.announceRoles s gone).outside P = s.outside P := by
  unfold State.announceRoles
  simp only [State.sendMgmt_outside, State.setReg_outside, State.push_outside, State.outside_ite, State.outside_bif, State.foldl_outside, State.foldl_outside_snd, State.foldl_outside_fst, ite_self, Bool.cond_self, Parts.emits_recs, Parts.emits_classLost, Parts.emits_host, Parts.emits_lost, and_self, and_true, true_and, implies_true, forall_const, hP]

@[simp] theorem standbyTakeover_outside {P : Parts} (s : State) (hP : P.fab = true ∧ P.regs Reg.FAB_DROP ∧ P.fresh = true ∧ P.regs Reg.FAB_ROLES1 ∧ P.out = true ∧ P.regs Reg.FAB_STAT ∧ P.port = true ∧ (∀ n, P.regs (Reg.FP_UTIL n))) :
    (standbyTakeover s).outside P = s.outside P := by
  unfold standbyTakeover
  simp only [State.takeManager_outside, State.announceRoles_outside, State.setReg_outside, State.push_outside, State.outside_ite, State.outside_bif, State.foldl_outside, State.foldl_outside_snd, State.foldl_outside_fst, ite_self, Bool.cond_self, Parts.emits_recs, Parts.emits_classLost, Parts.emits_host, Parts.emits_lost, and_self, and_true, true_and, implies_true, forall_const, hP]

@[simp] theorem reelect_outside {P : Parts} (s : State) (hP : P.fab = true ∧ P.regs Reg.FAB_STAT ∧ P.out = true ∧ P.port = true) :
    (reelect s).outside P = s.outside P := by
  unfold reelect
  simp only [State.setFld_outside, State.clear_outside, State.advertise_outside, State.outside_fab, State.setReg_outside, State.push_outside, State.outside_ite, State.outside_bif, State.foldl_outside, State.foldl_outside_snd, State.foldl_outside_fst, ite_self, Bool.cond_self, Parts.emits_recs, Parts.emits_classLost, Parts.emits_host, Parts.emits_lost, and_self, and_true, true_and, implies_true, forall_const, hP]

@[simp] theorem fabricJoin_outside {P : Parts} (s : State) (p : Nat) (higher : Bool) (offset : Int) (hP : P.emits ∧ P.fab = true ∧ P.regs Reg.FAB_DROP ∧ P.fresh = true ∧ P.regs Reg.FAB_FREQ ∧ P.out = true ∧ P.regs Reg.FAB_STAT ∧ P.port = true ∧ P.regs Reg.FAB_THETA ∧ (∀ n, P.regs (Reg.FP_STAT n)) ∧ (∀ n, P.regs (Reg.FP_UTIL n))) :
    (fabricJoin s p higher offset).outside P = s.outside P := by
  unfold fabricJoin
  simp only [State.setFld_outside, State.clear_outside, State.enterUp_outside, State.announceStep_outside, State.steerBy_outside, State.advertise_outside, mirror_outside, State.outside_fab, State.setReg_outside, State.push_outside, State.outside_ite, State.outside_bif, State.foldl_outside, State.foldl_outside_snd, State.foldl_outside_fst, ite_self, Bool.cond_self, Parts.emits_recs, Parts.emits_classLost, Parts.emits_host, Parts.emits_lost, and_self, and_true, true_and, implies_true, forall_const, hP]

end Sys2Proof.Machine
end

