-- ==== Sys2Proof/Laws/FrameComparators.lean ====
section
/-!
SUPPORT. What the operations of Machine/Comparators.lean write: each leaves every part of the state as it is but those its hypothesis names.
-/

set_option Elab.async false
set_option linter.unusedSimpArgs false
namespace Sys2Proof.Machine

@[simp] theorem State.wakeConverter_outside {P : Parts} (s : State) (n : Nat) (hP : P.wch = true) :
    (State.wakeConverter s n).outside P = s.outside P := by
  unfold State.wakeConverter
  simp only [State.setWch_outside, State.setReg_outside, State.push_outside, State.outside_ite, State.outside_bif, State.foldl_outside, State.foldl_outside_snd, State.foldl_outside_fst, ite_self, Bool.cond_self, Parts.emits_recs, Parts.emits_classLost, Parts.emits_host, Parts.emits_lost, and_self, and_true, true_and, implies_true, forall_const, hP]

@[simp] theorem State.wmMove_outside {P : Parts} (s : State) (i new : Nat) (t : Time) (late : Bool) (hP : P.emits ∧ P.exc = true ∧ (∀ n, P.regs (Reg.EXC_STAT n)) ∧ P.fresh = true ∧ P.regs Reg.FAB_DROP ∧ P.mode = true ∧ (∀ n, P.regs (Reg.FP_UTIL n)) ∧ P.nodes = true ∧ P.regs Reg.MODE_STAT ∧ P.out = true ∧ P.regs Reg.PACER_STAT ∧ P.port = true ∧ P.regs Reg.SNP_MISS_CNT ∧ P.rate = true ∧ P.regs Reg.SNP_NEXT_HI ∧ P.snp = true ∧ P.regs Reg.SNP_NEXT_LO ∧ P.snpSeen = true ∧ P.regs Reg.SNP_STAT ∧ P.start = true ∧ (∀ n, P.regs (Reg.WCH_ST_CFG n)) ∧ P.trig = true ∧ (∀ n, P.regs (Reg.WM_CNT n)) ∧ P.wch = true ∧ (∀ n, P.regs (Reg.WM_STAT n)) ∧ P.wm = true ∧ (∀ n, P.regs (Reg.WM_TIME_HI n)) ∧ (∀ n, P.regs (Reg.WM_TIME_LO n))) :
    (State.wmMove s i new t late).outside P = s.outside P := by
  unfold State.wmMove
  simp only [State.setFld_outside, State.count_outside, State.setPair_outside, State.setWm_outside, State.emitAt_outside, State.setRate_outside, State.offerTrigger_outside, State.releaseSource_outside, State.offerStart_outside, State.wakeConverter_outside, State.setReg_outside, State.push_outside, State.outside_ite, State.outside_bif, State.foldl_outside, State.foldl_outside_snd, State.foldl_outside_fst, ite_self, Bool.cond_self, Parts.emits_recs, Parts.emits_classLost, Parts.emits_host, Parts.emits_lost, and_self, and_true, true_and, implies_true, forall_const, hP]

@[simp] theorem wmTransition_outside {P : Parts} (s : State) (i new : Nat) (t : Time) (hP : P.emits ∧ P.exc = true ∧ (∀ n, P.regs (Reg.EXC_STAT n)) ∧ P.fresh = true ∧ P.regs Reg.FAB_DROP ∧ P.mode = true ∧ (∀ n, P.regs (Reg.FP_UTIL n)) ∧ P.nodes = true ∧ P.regs Reg.MODE_STAT ∧ P.out = true ∧ P.regs Reg.PACER_STAT ∧ P.port = true ∧ P.regs Reg.SNP_MISS_CNT ∧ P.rate = true ∧ P.regs Reg.SNP_NEXT_HI ∧ P.snp = true ∧ P.regs Reg.SNP_NEXT_LO ∧ P.snpSeen = true ∧ P.regs Reg.SNP_STAT ∧ P.start = true ∧ (∀ n, P.regs (Reg.WCH_ST_CFG n)) ∧ P.trig = true ∧ (∀ n, P.regs (Reg.WM_CNT n)) ∧ P.wch = true ∧ (∀ n, P.regs (Reg.WM_STAT n)) ∧ P.wm = true ∧ (∀ n, P.regs (Reg.WM_TIME_HI n)) ∧ (∀ n, P.regs (Reg.WM_TIME_LO n))) :
    (wmTransition s i new t).outside P = s.outside P := by
  unfold wmTransition
  simp only [State.wmMove_outside, State.setReg_outside, State.push_outside, State.outside_ite, State.outside_bif, State.foldl_outside, State.foldl_outside_snd, State.foldl_outside_fst, ite_self, Bool.cond_self, Parts.emits_recs, Parts.emits_classLost, Parts.emits_host, Parts.emits_lost, and_self, and_true, true_and, implies_true, forall_const, hP]

@[simp] theorem wmResolve_outside {P : Parts} (s : State) (i new : Nat) (hP : (∀ n, P.regs (Reg.WM_STAT n))) :
    (wmResolve s i new).outside P = s.outside P := by
  unfold wmResolve
  simp only [State.setFld_outside, State.raise_outside, State.setReg_outside, State.push_outside, State.outside_ite, State.outside_bif, State.foldl_outside, State.foldl_outside_snd, State.foldl_outside_fst, ite_self, Bool.cond_self, Parts.emits_recs, Parts.emits_classLost, Parts.emits_host, Parts.emits_lost, and_self, and_true, true_and, implies_true, forall_const, hP]

@[simp] theorem State.wmRestart_outside {P : Parts} (s : State) (i : Nat) (hP : P.rate = true ∧ (∀ n, P.regs (Reg.WM_STAT n)) ∧ P.trig = true ∧ P.wm = true) :
    (State.wmRestart s i).outside P = s.outside P := by
  unfold State.wmRestart
  simp only [State.setFld_outside, State.setWm_outside, State.setRate_outside, State.releaseSource_outside, State.setReg_outside, State.push_outside, State.outside_ite, State.outside_bif, State.foldl_outside, State.foldl_outside_snd, State.foldl_outside_fst, ite_self, Bool.cond_self, Parts.emits_recs, Parts.emits_classLost, Parts.emits_host, Parts.emits_lost, and_self, and_true, true_and, implies_true, forall_const, hP]

@[simp] theorem State.startMonitors_outside {P : Parts} (s : State) (hP : P.rate = true ∧ (∀ n, P.regs (Reg.WM_STAT n)) ∧ P.trig = true ∧ P.wm = true) :
    (State.startMonitors s).outside P = s.outside P := by
  unfold State.startMonitors
  simp only [State.wmRestart_outside, State.setReg_outside, State.push_outside, State.outside_ite, State.outside_bif, State.foldl_outside, State.foldl_outside_snd, State.foldl_outside_fst, ite_self, Bool.cond_self, Parts.emits_recs, Parts.emits_classLost, Parts.emits_host, Parts.emits_lost, and_self, and_true, true_and, implies_true, forall_const, hP]

@[simp] theorem wmCfgWrite_outside {P : Parts} (s : State) (i : Nat) (th : Bool) (v : Word) (hP : P.emits ∧ P.fab = true ∧ P.regs Reg.DEV_ABSENT_ADDR ∧ P.fresh = true ∧ P.regs Reg.DEV_ABSENT_WR ∧ P.late = true ∧ P.regs Reg.FAB_DROP ∧ P.mode = true ∧ (∀ n, P.regs (Reg.FP_UTIL n)) ∧ P.out = true ∧ P.regs Reg.HIF_CMD_STAT ∧ P.port = true ∧ P.regs Reg.MODE_STAT ∧ P.rate = true ∧ P.regs Reg.PACER_STAT ∧ P.smon = true ∧ P.regs Reg.SAF_CAUSE ∧ P.trig = true ∧ P.regs Reg.SAF_CAUSE_S ∧ P.trust = true ∧ P.regs Reg.SAF_CNT ∧ P.wm = true ∧ P.regs Reg.SAF_STAT ∧ P.regs Reg.SAF_VER0 ∧ P.regs Reg.SAF_VER1 ∧ P.regs Reg.SAF_W ∧ (∀ n, P.regs (Reg.WM_CFG n)) ∧ (∀ n, P.regs (Reg.WM_STAT n)) ∧ (∀ n, P.regs (Reg.WM_TH n))) :
    (wmCfgWrite s i th v).outside P = s.outside P := by
  unfold wmCfgWrite
  simp only [State.writeJudged_outside, State.writeAbsent_outside, State.verifyWm_outside, State.wmRestart_outside, State.setReg_outside, State.push_outside, State.outside_ite, State.outside_bif, State.foldl_outside, State.foldl_outside_snd, State.foldl_outside_fst, ite_self, Bool.cond_self, Parts.emits_recs, Parts.emits_classLost, Parts.emits_host, Parts.emits_lost, and_self, and_true, true_and, implies_true, forall_const, hP]

@[simp] theorem State.readWmTimeLo_outside {P : Parts} (s : State) (who : Reader) (i : Nat) (hP : P.wm = true) :
    (State.readWmTimeLo s who i).2.outside P = s.outside P := by
  unfold State.readWmTimeLo
  simp only [State.setWm_outside, State.setReg_outside, State.push_outside, State.outside_ite, State.outside_bif, State.foldl_outside, State.foldl_outside_snd, State.foldl_outside_fst, ite_self, Bool.cond_self, Parts.emits_recs, Parts.emits_classLost, Parts.emits_host, Parts.emits_lost, and_self, and_true, true_and, implies_true, forall_const, hP]

@[simp] theorem wmTimeLoRead_outside {P : Parts} (s : State) (who : Reader) (i : Nat) (hP : P.out = true ∧ (∀ n, P.regs (Reg.WM_TIME_LO n)) ∧ P.wm = true) :
    (wmTimeLoRead s who i).outside P = s.outside P := by
  unfold wmTimeLoRead
  simp only [State.returns_outside, State.readWmTimeLo_outside, State.setReg_outside, State.push_outside, State.outside_ite, State.outside_bif, State.foldl_outside, State.foldl_outside_snd, State.foldl_outside_fst, ite_self, Bool.cond_self, Parts.emits_recs, Parts.emits_classLost, Parts.emits_host, Parts.emits_lost, and_self, and_true, true_and, implies_true, forall_const, hP]

@[simp] theorem wmTimeHiRead_outside {P : Parts} (s : State) (who : Reader) (i : Nat) (hP : P.out = true ∧ (∀ n, P.regs (Reg.WM_TIME_HI n))) :
    (wmTimeHiRead s who i).outside P = s.outside P := by
  unfold wmTimeHiRead
  simp only [State.returns_outside, State.setReg_outside, State.push_outside, State.outside_ite, State.outside_bif, State.foldl_outside, State.foldl_outside_snd, State.foldl_outside_fst, ite_self, Bool.cond_self, Parts.emits_recs, Parts.emits_classLost, Parts.emits_host, Parts.emits_lost, and_self, and_true, true_and, implies_true, forall_const, hP]

@[simp] theorem State.showBase_outside {P : Parts} (s : State) (h : Nat) (hP : (∀ n, P.regs (Reg.HC_BASE n))) :
    (State.showBase s h).outside P = s.outside P := by
  unfold State.showBase
  simp only [State.setFld_outside, State.setReg_outside, State.push_outside, State.outside_ite, State.outside_bif, State.foldl_outside, State.foldl_outside_snd, State.foldl_outside_fst, ite_self, Bool.cond_self, Parts.emits_recs, Parts.emits_classLost, Parts.emits_host, Parts.emits_lost, and_self, and_true, true_and, implies_true, forall_const, hP]

@[simp] theorem baselineWindow_outside {P : Parts} (s : State) (h : Nat) (hP : P.fresh = true ∧ (∀ n, P.regs (Reg.HC_BASE n)) ∧ P.hc = true) :
    (baselineWindow s h).outside P = s.outside P := by
  unfold baselineWindow
  simp only [State.freeNat_outside, State.setHc_outside, State.showBase_outside, State.setReg_outside, State.push_outside, State.outside_ite, State.outside_bif, State.foldl_outside, State.foldl_outside_snd, State.foldl_outside_fst, ite_self, Bool.cond_self, Parts.emits_recs, Parts.emits_classLost, Parts.emits_host, Parts.emits_lost, and_self, and_true, true_and, implies_true, forall_const, hP]

@[simp] theorem State.beginHit_outside {P : Parts} (s : State) (h : Nat) (t : Time) (late : Bool) (hP : P.emits ∧ P.exc = true ∧ (∀ n, P.regs (Reg.EXC_STAT n)) ∧ P.fresh = true ∧ P.regs Reg.FAB_DROP ∧ P.hc = true ∧ (∀ n, P.regs (Reg.FP_UTIL n)) ∧ P.late = true ∧ (∀ n, P.regs (Reg.HC_STAT n)) ∧ P.mode = true ∧ P.regs Reg.MODE_STAT ∧ P.nodes = true ∧ P.regs Reg.PACER_STAT ∧ P.out = true ∧ P.regs Reg.SNP_MISS_CNT ∧ P.port = true ∧ P.regs Reg.SNP_NEXT_HI ∧ P.rate = true ∧ P.regs Reg.SNP_NEXT_LO ∧ P.snp = true ∧ P.regs Reg.SNP_STAT ∧ P.snpSeen = true ∧ (∀ n, P.regs (Reg.WCH_ST_CFG n)) ∧ P.start = true ∧ P.trig = true ∧ P.wch = true) :
    (State.beginHit s h t late).outside P = s.outside P := by
  unfold State.beginHit
  simp only [State.setFld_outside, State.setWch_outside, State.setHc_outside, State.offerTrigger_outside, State.offerStart_outside, State.wAbsorb_outside, State.wakeConverter_outside, State.setReg_outside, State.push_outside, State.outside_ite, State.outside_bif, State.foldl_outside, State.foldl_outside_snd, State.foldl_outside_fst, ite_self, Bool.cond_self, Parts.emits_recs, Parts.emits_classLost, Parts.emits_host, Parts.emits_lost, and_self, and_true, true_and, implies_true, forall_const, hP]

@[simp] theorem State.endHit_outside {P : Parts} (s : State) (h : Nat) (tEnd : Time) (trunc : Bool) (hP : P.emits ∧ P.hc = true ∧ (∀ n, P.regs (Reg.HC_HIT_CNT n)) ∧ P.wch = true ∧ (∀ n, P.regs (Reg.HC_STAT n))) :
    (State.endHit s h tEnd trunc).outside P = s.outside P := by
  unfold State.endHit
  simp only [State.setFld_outside, State.count_outside, State.setWch_outside, State.setHc_outside, State.emitAt_outside, State.setReg_outside, State.push_outside, State.outside_ite, State.outside_bif, State.foldl_outside, State.foldl_outside_snd, State.foldl_outside_fst, ite_self, Bool.cond_self, Parts.emits_recs, Parts.emits_classLost, Parts.emits_host, Parts.emits_lost, and_self, and_true, true_and, implies_true, forall_const, hP]

@[simp] theorem hitEnds_outside {P : Parts} (s : State) (h : Nat) (hP : P.emits ∧ P.hc = true ∧ (∀ n, P.regs (Reg.HC_HIT_CNT n)) ∧ P.wch = true ∧ (∀ n, P.regs (Reg.HC_STAT n))) :
    (hitEnds s h).outside P = s.outside P := by
  unfold hitEnds
  simp only [State.endHit_outside, State.setReg_outside, State.push_outside, State.outside_ite, State.outside_bif, State.foldl_outside, State.foldl_outside_snd, State.foldl_outside_fst, ite_self, Bool.cond_self, Parts.emits_recs, Parts.emits_classLost, Parts.emits_host, Parts.emits_lost, and_self, and_true, true_and, implies_true, forall_const, hP]

@[simp] theorem hitTruncated_outside {P : Parts} (s : State) (h : Nat) (hP : P.emits ∧ P.hc = true ∧ (∀ n, P.regs (Reg.HC_HIT_CNT n)) ∧ P.wch = true ∧ (∀ n, P.regs (Reg.HC_STAT n))) :
    (hitTruncated s h).outside P = s.outside P := by
  unfold hitTruncated
  simp only [State.endHit_outside, State.setReg_outside, State.push_outside, State.outside_ite, State.outside_bif, State.foldl_outside, State.foldl_outside_snd, State.foldl_outside_fst, ite_self, Bool.cond_self, Parts.emits_recs, Parts.emits_classLost, Parts.emits_host, Parts.emits_lost, and_self, and_true, true_and, implies_true, forall_const, hP]

@[simp] theorem hcCrossing_outside {P : Parts} (s : State) (h : Nat) (x : Crossing) (hP : P.emits ∧ P.exc = true ∧ (∀ n, P.regs (Reg.EXC_STAT n)) ∧ P.fresh = true ∧ P.regs Reg.FAB_DROP ∧ P.hc = true ∧ (∀ n, P.regs (Reg.FP_UTIL n)) ∧ P.late = true ∧ (∀ n, P.regs (Reg.HC_HIT_CNT n)) ∧ P.mode = true ∧ (∀ n, P.regs (Reg.HC_LOCK_CNT n)) ∧ P.nodes = true ∧ (∀ n, P.regs (Reg.HC_STAT n)) ∧ P.out = true ∧ P.regs Reg.MODE_STAT ∧ P.port = true ∧ P.regs Reg.PACER_STAT ∧ P.rate = true ∧ P.regs Reg.SNP_MISS_CNT ∧ P.snp = true ∧ P.regs Reg.SNP_NEXT_HI ∧ P.snpSeen = true ∧ P.regs Reg.SNP_NEXT_LO ∧ P.start = true ∧ P.regs Reg.SNP_STAT ∧ P.trig = true ∧ (∀ n, P.regs (Reg.WCH_ST_CFG n)) ∧ P.wch = true) :
    (hcCrossing s h x).outside P = s.outside P := by
  unfold hcCrossing
  repeat' split
  all_goals first | rfl | simp only [State.count_outside, State.setHc_outside, State.wAbsorb_outside, State.beginHit_outside, State.endHit_outside, State.setReg_outside, State.push_outside, State.outside_ite, State.outside_bif, State.foldl_outside, State.foldl_outside_snd, State.foldl_outside_fst, ite_self, Bool.cond_self, Parts.emits_recs, Parts.emits_classLost, Parts.emits_host, Parts.emits_lost, and_self, and_true, true_and, implies_true, forall_const, hP]

@[simp] theorem State.setCompTest_outside {P : Parts} (s : State) (u : Nat) (t : CompTest) (hP : P.hc = true ∧ P.wm = true) :
    (State.setCompTest s u t).outside P = s.outside P := by
  unfold State.setCompTest
  simp only [State.setWm_outside, State.setHc_outside, State.setReg_outside, State.push_outside, State.outside_ite, State.outside_bif, State.foldl_outside, State.foldl_outside_snd, State.foldl_outside_fst, ite_self, Bool.cond_self, Parts.emits_recs, Parts.emits_classLost, Parts.emits_host, Parts.emits_lost, and_self, and_true, true_and, implies_true, forall_const, hP]

@[simp] theorem State.beginTest_outside {P : Parts} (s : State) (u : Nat) (hP : P.hc = true ∧ P.wm = true) :
    (State.beginTest s u).outside P = s.outside P := by
  unfold State.beginTest
  simp only [State.setCompTest_outside, State.setReg_outside, State.push_outside, State.outside_ite, State.outside_bif, State.foldl_outside, State.foldl_outside_snd, State.foldl_outside_fst, ite_self, Bool.cond_self, Parts.emits_recs, Parts.emits_classLost, Parts.emits_host, Parts.emits_lost, and_self, and_true, true_and, implies_true, forall_const, hP]

@[simp] theorem compSelfTest_outside {P : Parts} (s : State) (u : Nat) (deciding : Bool) (hP : P.hc = true ∧ P.wm = true) :
    (compSelfTest s u deciding).outside P = s.outside P := by
  unfold compSelfTest
  simp only [State.setCompTest_outside, State.beginTest_outside, State.setReg_outside, State.push_outside, State.outside_ite, State.outside_bif, State.foldl_outside, State.foldl_outside_snd, State.foldl_outside_fst, ite_self, Bool.cond_self, Parts.emits_recs, Parts.emits_classLost, Parts.emits_host, Parts.emits_lost, and_self, and_true, true_and, implies_true, forall_const, hP]

@[simp] theorem hcLockoutEnd_outside {P : Parts} (s : State) (h : Nat) (deciding : Bool) (hP : P.hc = true ∧ (∀ n, P.regs (Reg.HC_STAT n)) ∧ P.wm = true) :
    (hcLockoutEnd s h deciding).outside P = s.outside P := by
  unfold hcLockoutEnd
  simp only [State.setFld_outside, State.beginTest_outside, State.setReg_outside, State.push_outside, State.outside_ite, State.outside_bif, State.foldl_outside, State.foldl_outside_snd, State.foldl_outside_fst, ite_self, Bool.cond_self, Parts.emits_recs, Parts.emits_classLost, Parts.emits_host, Parts.emits_lost, and_self, and_true, true_and, implies_true, forall_const, hP]

@[simp] theorem State.setCompFlag_outside {P : Parts} (s : State) (u : Nat) (untested b : Bool) (hP : (∀ n, P.regs (Reg.HC_STAT n)) ∧ (∀ n, P.regs (Reg.WM_STAT n))) :
    (State.setCompFlag s u untested b).outside P = s.outside P := by
  unfold State.setCompFlag
  simp only [State.setFld_outside, State.setReg_outside, State.push_outside, State.outside_ite, State.outside_bif, State.foldl_outside, State.foldl_outside_snd, State.foldl_outside_fst, ite_self, Bool.cond_self, Parts.emits_recs, Parts.emits_classLost, Parts.emits_host, Parts.emits_lost, and_self, and_true, true_and, implies_true, forall_const, hP]

@[simp] theorem State.wmReach_outside {P : Parts} (s : State) (i new : Nat) (t : Time) (hP : P.emits ∧ P.exc = true ∧ (∀ n, P.regs (Reg.EXC_STAT n)) ∧ P.fresh = true ∧ P.regs Reg.FAB_DROP ∧ P.mode = true ∧ (∀ n, P.regs (Reg.FP_UTIL n)) ∧ P.nodes = true ∧ P.regs Reg.MODE_STAT ∧ P.out = true ∧ P.regs Reg.PACER_STAT ∧ P.port = true ∧ P.regs Reg.SNP_MISS_CNT ∧ P.rate = true ∧ P.regs Reg.SNP_NEXT_HI ∧ P.snp = true ∧ P.regs Reg.SNP_NEXT_LO ∧ P.snpSeen = true ∧ P.regs Reg.SNP_STAT ∧ P.start = true ∧ (∀ n, P.regs (Reg.WCH_ST_CFG n)) ∧ P.trig = true ∧ (∀ n, P.regs (Reg.WM_CNT n)) ∧ P.wch = true ∧ (∀ n, P.regs (Reg.WM_STAT n)) ∧ P.wm = true ∧ (∀ n, P.regs (Reg.WM_TIME_HI n)) ∧ (∀ n, P.regs (Reg.WM_TIME_LO n))) :
    (State.wmReach s i new t).outside P = s.outside P := by
  unfold State.wmReach
  simp only [State.wmMove_outside, State.setReg_outside, State.push_outside, State.outside_ite, State.outside_bif, State.foldl_outside, State.foldl_outside_snd, State.foldl_outside_fst, ite_self, Bool.cond_self, Parts.emits_recs, Parts.emits_classLost, Parts.emits_host, Parts.emits_lost, and_self, and_true, true_and, implies_true, forall_const, hP]

@[simp] theorem compTestRelease_outside {P : Parts} (s : State) (u : Nat) (failed : Option Nat) (t : Time) (differs : Option Nat) (hP : P.emits ∧ P.exc = true ∧ (∀ n, P.regs (Reg.EXC_STAT n)) ∧ P.fab = true ∧ P.regs Reg.FAB_DROP ∧ P.fresh = true ∧ (∀ n, P.regs (Reg.FP_UTIL n)) ∧ P.hc = true ∧ (∀ n, P.regs (Reg.HC_STAT n)) ∧ P.late = true ∧ P.regs Reg.HIF_CMD_STAT ∧ P.mode = true ∧ P.regs Reg.MODE_STAT ∧ P.nodes = true ∧ P.regs Reg.PACER_STAT ∧ P.out = true ∧ P.regs Reg.SAF_CAUSE ∧ P.port = true ∧ P.regs Reg.SAF_CAUSE_S ∧ P.rate = true ∧ P.regs Reg.SAF_CNT ∧ P.smon = true ∧ P.regs Reg.SAF_STAT ∧ P.snp = true ∧ P.regs Reg.SAF_VER0 ∧ P.snpSeen = true ∧ P.regs Reg.SAF_VER1 ∧ P.start = true ∧ P.regs Reg.SAF_W ∧ P.trig = true ∧ P.regs Reg.SNP_MISS_CNT ∧ P.trust = true ∧ P.regs Reg.SNP_NEXT_HI ∧ P.wch = true ∧ P.regs Reg.SNP_NEXT_LO ∧ P.wm = true ∧ P.regs Reg.SNP_STAT ∧ (∀ n, P.regs (Reg.WCH_ST_CFG n)) ∧ (∀ n, P.regs (Reg.WM_CNT n)) ∧ (∀ n, P.regs (Reg.WM_STAT n)) ∧ (∀ n, P.regs (Reg.WM_TIME_HI n)) ∧ (∀ n, P.regs (Reg.WM_TIME_LO n))) :
    (compTestRelease s u failed t differs).outside P = s.outside P := by
  unfold compTestRelease
  repeat' split
  all_goals first | rfl | simp only [State.emit_outside, State.compTested_outside, State.beginHit_outside, State.setCompTest_outside, State.setCompFlag_outside, State.wmReach_outside, State.setReg_outside, State.push_outside, State.outside_ite, State.outside_bif, State.foldl_outside, State.foldl_outside_snd, State.foldl_outside_fst, ite_self, Bool.cond_self, Parts.emits_recs, Parts.emits_classLost, Parts.emits_host, Parts.emits_lost, and_self, and_true, true_and, implies_true, forall_const, hP]

@[simp] theorem compUntested_outside {P : Parts} (s : State) (u : Nat) (hP : P.emits ∧ P.fab = true ∧ P.regs Reg.FAB_DROP ∧ P.fresh = true ∧ (∀ n, P.regs (Reg.FP_UTIL n)) ∧ P.mode = true ∧ (∀ n, P.regs (Reg.HC_STAT n)) ∧ P.out = true ∧ P.regs Reg.HIF_CMD_STAT ∧ P.port = true ∧ P.regs Reg.MODE_STAT ∧ P.rate = true ∧ P.regs Reg.PACER_STAT ∧ P.smon = true ∧ P.regs Reg.SAF_CAUSE ∧ P.trust = true ∧ P.regs Reg.SAF_CAUSE_S ∧ P.regs Reg.SAF_CNT ∧ P.regs Reg.SAF_STAT ∧ P.regs Reg.SAF_VER0 ∧ P.regs Reg.SAF_VER1 ∧ P.regs Reg.SAF_W ∧ (∀ n, P.regs (Reg.WM_STAT n))) :
    (compUntested s u).outside P = s.outside P := by
  unfold compUntested
  simp only [State.emit_outside, State.compUntrusted_outside, State.setCompFlag_outside, State.setReg_outside, State.push_outside, State.outside_ite, State.outside_bif, State.foldl_outside, State.foldl_outside_snd, State.foldl_outside_fst, ite_self, Bool.cond_self, Parts.emits_recs, Parts.emits_classLost, Parts.emits_host, Parts.emits_lost, and_self, and_true, true_and, implies_true, forall_const, hP]

@[simp] theorem syncInEdge_outside {P : Parts} (s : State) (t : Time) (rising : Bool) (hP : P.emits ∧ P.exc = true ∧ (∀ n, P.regs (Reg.EXC_STAT n)) ∧ P.fresh = true ∧ P.regs Reg.FAB_DROP ∧ P.mode = true ∧ (∀ n, P.regs (Reg.FP_UTIL n)) ∧ P.nodes = true ∧ P.regs Reg.MODE_STAT ∧ P.out = true ∧ P.regs Reg.PACER_STAT ∧ P.port = true ∧ P.regs Reg.SNP_MISS_CNT ∧ P.rate = true ∧ P.regs Reg.SNP_NEXT_HI ∧ P.snp = true ∧ P.regs Reg.SNP_NEXT_LO ∧ P.snpSeen = true ∧ P.regs Reg.SNP_STAT ∧ P.start = true ∧ (∀ n, P.regs (Reg.WCH_ST_CFG n)) ∧ P.trig = true) :
    (syncInEdge s t rising).outside P = s.outside P := by
  unfold syncInEdge
  simp only [State.offerTrigger_outside, State.offerStart_outside, State.setReg_outside, State.push_outside, State.outside_ite, State.outside_bif, State.foldl_outside, State.foldl_outside_snd, State.foldl_outside_fst, ite_self, Bool.cond_self, Parts.emits_recs, Parts.emits_classLost, Parts.emits_host, Parts.emits_lost, and_self, and_true, true_and, implies_true, forall_const, hP]

@[simp] theorem State.startTimerWritten_outside {P : Parts} (s : State) (n : Nat) (hP : P.start = true) :
    (State.startTimerWritten s n).outside P = s.outside P := by
  unfold State.startTimerWritten
  simp only [State.setStart_outside, State.setReg_outside, State.push_outside, State.outside_ite, State.outside_bif, State.foldl_outside, State.foldl_outside_snd, State.foldl_outside_fst, ite_self, Bool.cond_self, Parts.emits_recs, Parts.emits_classLost, Parts.emits_host, Parts.emits_lost, and_self, and_true, true_and, implies_true, forall_const, hP]

@[simp] theorem startScheduleTimer_outside {P : Parts} (s : State) (n : Nat) (hP : P.start = true) :
    (startScheduleTimer s n).outside P = s.outside P := by
  unfold startScheduleTimer
  simp only [State.setStart_outside, State.offerStartTo_outside, State.setReg_outside, State.push_outside, State.outside_ite, State.outside_bif, State.foldl_outside, State.foldl_outside_snd, State.foldl_outside_fst, ite_self, Bool.cond_self, Parts.emits_recs, Parts.emits_classLost, Parts.emits_host, Parts.emits_lost, and_self, and_true, true_and, implies_true, forall_const, hP]

end Sys2Proof.Machine
end

