-- ==== Sys2Proof/Laws/FramePacerOps.lean ====
section
/-!
SUPPORT. What the operations of Machine/PacerOps.lean write: each leaves every part of the state as it is but those its hypothesis names.
-/

set_option Elab.async false
set_option linter.unusedSimpArgs false
namespace Sys2Proof.Machine

@[simp] theorem State.showPacer_outside {P : Parts} (s : State) (hP : P.regs Reg.PACER_BORROW ∧ P.regs Reg.PACER_HEAD ∧ P.regs Reg.PACER_POOL ∧ P.regs Reg.PACER_USED) :
    (State.showPacer s).outside P = s.outside P := by
  unfold State.showPacer
  simp only [State.setReg_outside, State.push_outside, State.outside_ite, State.outside_bif, State.foldl_outside, State.foldl_outside_snd, State.foldl_outside_fst, ite_self, Bool.cond_self, Parts.emits_recs, Parts.emits_classLost, Parts.emits_host, Parts.emits_lost, and_self, and_true, true_and, implies_true, forall_const, hP]

@[simp] theorem State.updInv_outside {P : Parts} (s : State) (node num : Nat) (f : Inv → Inv) (hP : P.nodes = true) :
    (State.updInv s node num f).outside P = s.outside P := by
  unfold State.updInv
  simp only [State.setNode_outside, State.setReg_outside, State.push_outside, State.outside_ite, State.outside_bif, State.foldl_outside, State.foldl_outside_snd, State.foldl_outside_fst, ite_self, Bool.cond_self, Parts.emits_recs, Parts.emits_classLost, Parts.emits_host, Parts.emits_lost, and_self, and_true, true_and, implies_true, forall_const, hP]

@[simp] theorem State.borrow_outside {P : Parts} (s : State) (short : Nat) (hP : P.emits ∧ P.pacer = true ∧ P.regs Reg.PACER_BORROW ∧ P.regs Reg.PACER_HEAD ∧ P.regs Reg.PACER_POOL ∧ P.regs Reg.PACER_STAT ∧ P.regs Reg.PACER_USED) :
    (State.borrow s short).outside P = s.outside P := by
  unfold State.borrow
  simp only [State.raise_outside, State.emit_outside, State.showPacer_outside, State.outside_pacer, State.setReg_outside, State.push_outside, State.outside_ite, State.outside_bif, State.foldl_outside, State.foldl_outside_snd, State.foldl_outside_fst, ite_self, Bool.cond_self, Parts.emits_recs, Parts.emits_classLost, Parts.emits_host, Parts.emits_lost, and_self, and_true, true_and, implies_true, forall_const, hP]

@[simp] theorem State.admitInv_outside {P : Parts} (s : State) (node : Nat) (v : Inv) (hP : P.nodes = true ∧ P.pacer = true) :
    (State.admitInv s node v).outside P = s.outside P := by
  unfold State.admitInv
  simp only [State.updInv_outside, State.outside_pacer, State.setReg_outside, State.push_outside, State.outside_ite, State.outside_bif, State.foldl_outside, State.foldl_outside_snd, State.foldl_outside_fst, ite_self, Bool.cond_self, Parts.emits_recs, Parts.emits_classLost, Parts.emits_host, Parts.emits_lost, and_self, and_true, true_and, implies_true, forall_const, hP]

@[simp] theorem State.admitLoop_outside {P : Parts} (s : State) (fuel : Nat) (hP : P.emits ∧ P.nodes = true ∧ P.regs Reg.PACER_BORROW ∧ P.pacer = true ∧ P.regs Reg.PACER_HEAD ∧ P.regs Reg.PACER_POOL ∧ P.regs Reg.PACER_STAT ∧ P.regs Reg.PACER_USED) :
    (State.admitLoop s fuel).outside P = s.outside P := by
  induction fuel generalizing s with
  | zero => rfl
  | succ fuel ih =>
    simp only [State.admitLoop, State.borrow_outside, State.admitInv_outside, State.setReg_outside, State.push_outside, State.outside_ite, State.outside_bif, State.foldl_outside, State.foldl_outside_snd, State.foldl_outside_fst, ite_self, Bool.cond_self, Parts.emits_recs, Parts.emits_classLost, Parts.emits_host, Parts.emits_lost, and_self, and_true, true_and, implies_true, forall_const, hP, ih]
    try (repeat' (first | rfl | (split <;> try simp only [State.borrow_outside, State.admitInv_outside, State.setReg_outside, State.push_outside, State.outside_ite, State.outside_bif, State.foldl_outside, State.foldl_outside_snd, State.foldl_outside_fst, ite_self, Bool.cond_self, Parts.emits_recs, Parts.emits_classLost, Parts.emits_host, Parts.emits_lost, and_self, and_true, true_and, implies_true, forall_const, hP, ih])))

@[simp] theorem State.showWaiting_outside {P : Parts} (s : State) (hP : P.regs Reg.PACER_DEFER) :
    (State.showWaiting s).outside P = s.outside P := by
  unfold State.showWaiting
  simp only [State.setFld_outside, State.setReg_outside, State.push_outside, State.outside_ite, State.outside_bif, State.foldl_outside, State.foldl_outside_snd, State.foldl_outside_fst, ite_self, Bool.cond_self, Parts.emits_recs, Parts.emits_classLost, Parts.emits_host, Parts.emits_lost, and_self, and_true, true_and, implies_true, forall_const, hP]

@[simp] theorem State.pacerAdmit_outside {P : Parts} (s : State) (hP : P.emits ∧ P.nodes = true ∧ P.regs Reg.PACER_BORROW ∧ P.pacer = true ∧ P.regs Reg.PACER_DEFER ∧ P.regs Reg.PACER_HEAD ∧ P.regs Reg.PACER_POOL ∧ P.regs Reg.PACER_STAT ∧ P.regs Reg.PACER_USED) :
    (State.pacerAdmit s).outside P = s.outside P := by
  unfold State.pacerAdmit
  simp only [State.showPacer_outside, State.admitLoop_outside, State.showWaiting_outside, State.setReg_outside, State.push_outside, State.outside_ite, State.outside_bif, State.foldl_outside, State.foldl_outside_snd, State.foldl_outside_fst, ite_self, Bool.cond_self, Parts.emits_recs, Parts.emits_classLost, Parts.emits_host, Parts.emits_lost, and_self, and_true, true_and, implies_true, forall_const, hP]

@[simp] theorem State.uncharge_outside {P : Parts} (s : State) (d : NodeDef) (v : Inv) (hP : P.pacer = true) :
    (State.uncharge s d v).outside P = s.outside P := by
  unfold State.uncharge
  simp only [State.outside_pacer, State.setReg_outside, State.push_outside, State.outside_ite, State.outside_bif, State.foldl_outside, State.foldl_outside_snd, State.foldl_outside_fst, ite_self, Bool.cond_self, Parts.emits_recs, Parts.emits_classLost, Parts.emits_host, Parts.emits_lost, and_self, and_true, true_and, implies_true, forall_const, hP]

end Sys2Proof.Machine
end

