-- ==== Sys2Proof/Laws/FrameEngine.lean ====
section
/-!
SUPPORT. What the operations of Machine/Engine.lean write: each leaves every part of the state as it is but those its hypothesis names.
-/

set_option Elab.async false
set_option linter.unusedSimpArgs false
namespace Sys2Proof.Machine

@[simp] theorem State.setClu_outside {P : Parts} (s : State) (c : Nat) (x : Cluster) (hP : P.clu = true) :
    (State.setClu s c x).outside P = s.outside P := by
  unfold State.setClu
  simp only [State.outside_clu, State.setReg_outside, State.push_outside, State.outside_ite, State.outside_bif, State.foldl_outside, State.foldl_outside_snd, State.foldl_outside_fst, ite_self, Bool.cond_self, Parts.emits_recs, Parts.emits_classLost, Parts.emits_host, Parts.emits_lost, and_self, and_true, true_and, implies_true, forall_const, hP]

@[simp] theorem State.writeRegion_outside {P : Parts} (s : State) (i : Nat) (d : NodeDef) (k : KState) (hP : P.cells = true ∧ P.regs Reg.ECC_INJ ∧ P.ecc = true ∧ (∀ n, P.regs (Reg.ECC_REMAP n)) ∧ P.nodes = true ∧ P.regs Reg.ECC_STAT) :
    (State.writeRegion s i d k).outside P = s.outside P := by
  unfold State.writeRegion
  simp only [State.setNode_outside, fullCellWrite_outside, State.setReg_outside, State.push_outside, State.outside_ite, State.outside_bif, State.foldl_outside, State.foldl_outside_snd, State.foldl_outside_fst, ite_self, Bool.cond_self, Parts.emits_recs, Parts.emits_classLost, Parts.emits_host, Parts.emits_lost, and_self, and_true, true_and, implies_true, forall_const, hP]

@[simp] theorem State.readRegion_outside {P : Parts} (s : State) (i : Nat) (d : NodeDef) (hP : P.emits ∧ P.cells = true ∧ P.regs Reg.ECC_CE_CNT0 ∧ P.ecc = true ∧ P.regs Reg.ECC_CE_CNT1 ∧ P.nodes = true ∧ P.regs Reg.ECC_INJ ∧ P.rate = true ∧ P.regs Reg.ECC_LOG_CTRL ∧ P.regs Reg.ECC_POISON_CNT ∧ (∀ n, P.regs (Reg.ECC_REMAP n)) ∧ P.regs Reg.ECC_RMW_CNT ∧ P.regs Reg.ECC_STAT ∧ P.regs Reg.ECC_UE_CNT) :
    (State.readRegion s i d).outside P = s.outside P := by
  unfold State.readRegion
  simp only [State.setNode_outside, State.portRead_outside, State.setReg_outside, State.push_outside, State.outside_ite, State.outside_bif, State.foldl_outside, State.foldl_outside_snd, State.foldl_outside_fst, ite_self, Bool.cond_self, Parts.emits_recs, Parts.emits_classLost, Parts.emits_host, Parts.emits_lost, and_self, and_true, true_and, implies_true, forall_const, hP]

@[simp] theorem State.showEngine_outside {P : Parts} (s : State) (hP : (∀ n, P.regs (Reg.CL_CUSE n)) ∧ (∀ n, P.regs (Reg.CL_LOAD n)) ∧ (∀ n, P.regs (Reg.CL_STAT n)) ∧ (∀ n, P.regs (Reg.CL_WMAX n)) ∧ (∀ n, P.regs (Reg.CL_XYUSE n)) ∧ P.regs Reg.ENG_STAT) :
    (State.showEngine s).outside P = s.outside P := by
  unfold State.showEngine
  simp only [State.setFld_outside, State.setReg_outside, State.push_outside, State.outside_ite, State.outside_bif, State.foldl_outside, State.foldl_outside_snd, State.foldl_outside_fst, ite_self, Bool.cond_self, Parts.emits_recs, Parts.emits_classLost, Parts.emits_host, Parts.emits_lost, and_self, and_true, true_and, implies_true, forall_const, hP]

@[simp] theorem State.loadGraph_outside {P : Parts} (s : State) (graphId : Word) (g : List NodeDef) (hP : P.eng = true ∧ (∀ n, P.regs (Reg.CL_CUSE n)) ∧ P.nodes = true ∧ (∀ n, P.regs (Reg.CL_LOAD n)) ∧ (∀ n, P.regs (Reg.CL_STAT n)) ∧ (∀ n, P.regs (Reg.CL_WMAX n)) ∧ (∀ n, P.regs (Reg.CL_XYUSE n)) ∧ P.regs Reg.ENG_GRAPH_ID ∧ P.regs Reg.ENG_STAT) :
    (State.loadGraph s graphId g).outside P = s.outside P := by
  unfold State.loadGraph
  simp only [State.setFld_outside, State.setNode_outside, State.showEngine_outside, State.outside_eng_nodes, State.setReg_outside, State.push_outside, State.outside_ite, State.outside_bif, State.foldl_outside, State.foldl_outside_snd, State.foldl_outside_fst, ite_self, Bool.cond_self, Parts.emits_recs, Parts.emits_classLost, Parts.emits_host, Parts.emits_lost, and_self, and_true, true_and, implies_true, forall_const, hP]

@[simp] theorem State.startClusters_outside {P : Parts} (s : State) (hP : P.clu = true ∧ (∀ n, P.regs (Reg.CL_STAT n))) :
    (State.startClusters s).outside P = s.outside P := by
  unfold State.startClusters
  simp only [State.setFld_outside, State.setClu_outside, State.setReg_outside, State.push_outside, State.outside_ite, State.outside_bif, State.foldl_outside, State.foldl_outside_snd, State.foldl_outside_fst, ite_self, Bool.cond_self, Parts.emits_recs, Parts.emits_classLost, Parts.emits_host, Parts.emits_lost, and_self, and_true, true_and, implies_true, forall_const, hP]

@[simp] theorem State.judgeSpare_outside {P : Parts} (s : State) (hP : P.emits ∧ P.regs Reg.ENG_STAT) :
    (State.judgeSpare s).outside P = s.outside P := by
  unfold State.judgeSpare
  repeat' split
  all_goals first | rfl | simp only [State.raise_outside, State.clear_outside, State.emit_outside, State.setReg_outside, State.push_outside, State.outside_ite, State.outside_bif, State.foldl_outside, State.foldl_outside_snd, State.foldl_outside_fst, ite_self, Bool.cond_self, Parts.emits_recs, Parts.emits_classLost, Parts.emits_host, Parts.emits_lost, and_self, and_true, true_and, implies_true, forall_const, hP]

@[simp] theorem State.streamFrame_outside {P : Parts} (s : State) (sid node : Nat) (f : Frame) (hP : P.streams = true ∧ P.regs Reg.STR_STAGE ∧ P.regs Reg.STR_STAT) :
    (State.streamFrame s sid node f).outside P = s.outside P := by
  unfold State.streamFrame
  simp only [State.setStream_outside, State.showStage_outside, State.discard_outside, State.setReg_outside, State.push_outside, State.outside_ite, State.outside_bif, State.foldl_outside, State.foldl_outside_snd, State.foldl_outside_fst, ite_self, Bool.cond_self, Parts.emits_recs, Parts.emits_classLost, Parts.emits_host, Parts.emits_lost, and_self, and_true, true_and, implies_true, forall_const, hP]

@[simp] theorem State.releaseFrame_outside {P : Parts} (s : State) (node out : Nat) (f : Frame) (hP : P.nodes = true ∧ P.regs Reg.STR_STAGE ∧ P.streams = true ∧ P.regs Reg.STR_STAT) :
    (State.releaseFrame s node out f).outside P = s.outside P := by
  unfold State.releaseFrame
  simp only [State.onEdges_outside, State.streamGap_outside, State.streamFrame_outside, State.setReg_outside, State.push_outside, State.outside_ite, State.outside_bif, State.foldl_outside, State.foldl_outside_snd, State.foldl_outside_fst, ite_self, Bool.cond_self, Parts.emits_recs, Parts.emits_classLost, Parts.emits_host, Parts.emits_lost, and_self, and_true, true_and, implies_true, forall_const, hP]

@[simp] theorem State.releaseOuts_outside {P : Parts} (s : State) (node : Nat) (gapped : Bool) (outs : List (Option Frame)) (hP : P.nodes = true ∧ P.regs Reg.STR_STAGE ∧ P.streams = true ∧ P.regs Reg.STR_STAT ∧ P.trig = true) :
    (State.releaseOuts s node gapped outs).outside P = s.outside P := by
  unfold State.releaseOuts
  repeat' (first | rfl | (simp (maxDischargeDepth := 6) only [State.setNode_outside, State.noteFrame_outside, State.releaseFrame_outside, State.setReg_outside, State.push_outside, State.outside_ite, State.outside_bif, State.foldl_outside, State.foldl_outside_snd, State.foldl_outside_fst, ite_self, Bool.cond_self, Parts.emits_recs, Parts.emits_classLost, Parts.emits_host, Parts.emits_lost, and_self, and_true, true_and, implies_true, forall_const, hP]; done) | (refine (State.foldl_outside (fun s x => ?_) _ _).trans ?_) | (refine (State.foldl_outside_snd (fun s x => ?_) _ _).trans ?_) | (refine (State.foldl_outside_fst (fun s x => ?_) _ _).trans ?_) | split)

@[simp] theorem State.releaseNode_outside {P : Parts} (s : State) (node : Nat) (fuel : Nat) (hP : P.nodes = true ∧ P.regs Reg.STR_STAGE ∧ P.streams = true ∧ P.regs Reg.STR_STAT ∧ P.trig = true) :
    (State.releaseNode s node fuel).outside P = s.outside P := by
  induction fuel generalizing s with
  | zero => rfl
  | succ fuel ih =>
    simp only [State.releaseNode, State.setNode_outside, State.releaseOuts_outside, State.setReg_outside, State.push_outside, State.outside_ite, State.outside_bif, State.foldl_outside, State.foldl_outside_snd, State.foldl_outside_fst, ite_self, Bool.cond_self, Parts.emits_recs, Parts.emits_classLost, Parts.emits_host, Parts.emits_lost, and_self, and_true, true_and, implies_true, forall_const, hP, ih]
    try (repeat' (first | rfl | (split <;> try simp only [State.setNode_outside, State.releaseOuts_outside, State.setReg_outside, State.push_outside, State.outside_ite, State.outside_bif, State.foldl_outside, State.foldl_outside_snd, State.foldl_outside_fst, ite_self, Bool.cond_self, Parts.emits_recs, Parts.emits_classLost, Parts.emits_host, Parts.emits_lost, and_self, and_true, true_and, implies_true, forall_const, hP, ih])))

@[simp] theorem State.skipDue_outside {P : Parts} (s : State) (node : Nat) (d : NodeDef) (fuel : Nat) (hP : P.nodes = true) :
    (State.skipDue s node d fuel).outside P = s.outside P := by
  induction fuel generalizing s with
  | zero => rfl
  | succ fuel ih =>
    simp only [State.skipDue, State.setNode_outside, State.updInv_outside, State.setReg_outside, State.push_outside, State.outside_ite, State.outside_bif, State.foldl_outside, State.foldl_outside_snd, State.foldl_outside_fst, ite_self, Bool.cond_self, Parts.emits_recs, Parts.emits_classLost, Parts.emits_host, Parts.emits_lost, and_self, and_true, true_and, implies_true, forall_const, hP, ih]
    try (repeat' (first | rfl | (split <;> try simp only [State.setNode_outside, State.updInv_outside, State.setReg_outside, State.push_outside, State.outside_ite, State.outside_bif, State.foldl_outside, State.foldl_outside_snd, State.foldl_outside_fst, ite_self, Bool.cond_self, Parts.emits_recs, Parts.emits_classLost, Parts.emits_host, Parts.emits_lost, and_self, and_true, true_and, implies_true, forall_const, hP, ih])))

@[simp] theorem State.settleNode_outside {P : Parts} (s : State) (node : Nat) (d : NodeDef) (hP : P.nodes = true ∧ P.regs Reg.STR_STAGE ∧ P.streams = true ∧ P.regs Reg.STR_STAT ∧ P.trig = true) :
    (State.settleNode s node d).outside P = s.outside P := by
  unfold State.settleNode
  simp only [State.releaseNode_outside, State.skipDue_outside, State.setReg_outside, State.push_outside, State.outside_ite, State.outside_bif, State.foldl_outside, State.foldl_outside_snd, State.foldl_outside_fst, ite_self, Bool.cond_self, Parts.emits_recs, Parts.emits_classLost, Parts.emits_host, Parts.emits_lost, and_self, and_true, true_and, implies_true, forall_const, hP]

@[simp] theorem State.workEnded_outside {P : Parts} (s : State) (hP : P.eng = true) :
    (State.workEnded s).outside P = s.outside P := by
  unfold State.workEnded
  simp only [State.outside_eng, State.setReg_outside, State.push_outside, State.outside_ite, State.outside_bif, State.foldl_outside, State.foldl_outside_snd, State.foldl_outside_fst, ite_self, Bool.cond_self, Parts.emits_recs, Parts.emits_classLost, Parts.emits_host, Parts.emits_lost, and_self, and_true, true_and, implies_true, forall_const, hP]

@[simp] theorem State.placehold_outside {P : Parts} (s : State) (node : Nat) (d : NodeDef) (v : Inv) (reason : Nat) (hP : P.eng = true ∧ P.regs Reg.PACER_DEFER ∧ P.nodes = true ∧ P.regs Reg.STR_STAGE ∧ P.pacer = true ∧ P.regs Reg.STR_STAT ∧ P.streams = true ∧ P.trig = true) :
    (State.placehold s node d v reason).outside P = s.outside P := by
  unfold State.placehold
  simp only [State.updInv_outside, State.showWaiting_outside, State.uncharge_outside, State.settleNode_outside, State.workEnded_outside, State.setReg_outside, State.push_outside, State.outside_ite, State.outside_bif, State.foldl_outside, State.foldl_outside_snd, State.foldl_outside_fst, ite_self, Bool.cond_self, Parts.emits_recs, Parts.emits_classLost, Parts.emits_host, Parts.emits_lost, and_self, and_true, true_and, implies_true, forall_const, hP]

@[simp] theorem nodeReady_outside {P : Parts} (s : State) (node : Nat) (hP : P.emits ∧ P.clk = true ∧ P.regs Reg.CLK_GATE_OPEN ∧ P.fab = true ∧ P.regs Reg.CLK_READY ∧ P.nodes = true ∧ P.regs Reg.CLK_STAT ∧ P.out = true ∧ (∀ n, P.regs (Reg.FP_STAT n)) ∧ P.pacer = true ∧ P.regs Reg.MODE_STAT ∧ P.port = true ∧ P.regs Reg.PACER_BORROW ∧ P.streams = true ∧ P.regs Reg.PACER_DEFER ∧ P.regs Reg.PACER_HEAD ∧ P.regs Reg.PACER_POOL ∧ P.regs Reg.PACER_STAT ∧ P.regs Reg.PACER_USED ∧ P.regs Reg.STR_STAT) :
    (nodeReady s node).outside P = s.outside P := by
  unfold nodeReady
  repeat' split
  all_goals first | rfl | simp only [State.setNode_outside, State.discard_outside, State.toRun_outside, State.pacerAdmit_outside, State.setReg_outside, State.push_outside, State.outside_ite, State.outside_bif, State.foldl_outside, State.foldl_outside_snd, State.foldl_outside_fst, ite_self, Bool.cond_self, Parts.emits_recs, Parts.emits_classLost, Parts.emits_host, Parts.emits_lost, and_self, and_true, true_and, implies_true, forall_const, hP]

@[simp] theorem invocationStart_outside {P : Parts} (s : State) (c : Nat) (hP : P.emits ∧ P.clu = true ∧ (∀ n, P.regs (Reg.CL_STAT n)) ∧ P.nodes = true ∧ P.regs Reg.PACER_BORROW ∧ P.pacer = true ∧ P.regs Reg.PACER_HEAD ∧ P.regs Reg.PACER_POOL ∧ P.regs Reg.PACER_STAT ∧ P.regs Reg.PACER_USED) :
    (invocationStart s c).outside P = s.outside P := by
  unfold invocationStart
  repeat' split
  all_goals first | rfl | simp only [State.setFld_outside, State.setNode_outside, State.updInv_outside, State.borrow_outside, State.setClu_outside, State.setReg_outside, State.push_outside, State.outside_ite, State.outside_bif, State.foldl_outside, State.foldl_outside_snd, State.foldl_outside_fst, ite_self, Bool.cond_self, Parts.emits_recs, Parts.emits_classLost, Parts.emits_host, Parts.emits_lost, and_self, and_true, true_and, implies_true, forall_const, hP]

@[simp] theorem State.dueTest_outside {P : Parts} (s : State) (c : Nat) (hP : P.clu = true) :
    (State.dueTest s c).outside P = s.outside P := by
  unfold State.dueTest
  simp only [State.setClu_outside, State.setReg_outside, State.push_outside, State.outside_ite, State.outside_bif, State.foldl_outside, State.foldl_outside_snd, State.foldl_outside_fst, ite_self, Bool.cond_self, Parts.emits_recs, Parts.emits_classLost, Parts.emits_host, Parts.emits_lost, and_self, and_true, true_and, implies_true, forall_const, hP]

@[simp] theorem State.dueTests_outside {P : Parts} (s : State) (run : List Nat) (hP : P.clu = true) :
    (State.dueTests s run).outside P = s.outside P := by
  unfold State.dueTests
  simp only [State.dueTest_outside, State.setReg_outside, State.push_outside, State.outside_ite, State.outside_bif, State.foldl_outside, State.foldl_outside_snd, State.foldl_outside_fst, ite_self, Bool.cond_self, Parts.emits_recs, Parts.emits_classLost, Parts.emits_host, Parts.emits_lost, and_self, and_true, true_and, implies_true, forall_const, hP]

@[simp] theorem State.class1Poison_outside {P : Parts} (s : State) (i : Nat) (ins : List Frame) (hP : P.emits ∧ P.fab = true ∧ P.regs Reg.FAB_DROP ∧ P.fresh = true ∧ (∀ n, P.regs (Reg.FP_UTIL n)) ∧ P.mode = true ∧ P.regs Reg.HIF_CMD_STAT ∧ P.nodes = true ∧ P.regs Reg.MODE_STAT ∧ P.out = true ∧ P.regs Reg.PACER_STAT ∧ P.port = true ∧ P.regs Reg.SAF_CAUSE ∧ P.rate = true ∧ P.regs Reg.SAF_CAUSE_S ∧ P.smon = true ∧ P.regs Reg.SAF_CNT ∧ P.regs Reg.SAF_STAT) :
    (State.class1Poison s i ins).outside P = s.outside P := by
  unfold State.class1Poison
  simp only [State.setNode_outside, State.raiseCause_outside, State.setReg_outside, State.push_outside, State.outside_ite, State.outside_bif, State.foldl_outside, State.foldl_outside_snd, State.foldl_outside_fst, ite_self, Bool.cond_self, Parts.emits_recs, Parts.emits_classLost, Parts.emits_host, Parts.emits_lost, and_self, and_true, true_and, implies_true, forall_const, hP]

@[simp] theorem State.class1Done_outside {P : Parts} (s : State) (i : Nat) (took : Bool) (outs : List Frame) (hP : P.nodes = true ∧ P.regs Reg.SAF_CAUSE) :
    (State.class1Done s i took outs).outside P = s.outside P := by
  unfold State.class1Done
  simp only [State.setNode_outside, State.dropCause_outside, State.setReg_outside, State.push_outside, State.outside_ite, State.outside_bif, State.foldl_outside, State.foldl_outside_snd, State.foldl_outside_fst, ite_self, Bool.cond_self, Parts.emits_recs, Parts.emits_classLost, Parts.emits_host, Parts.emits_lost, and_self, and_true, true_and, implies_true, forall_const, hP]

@[simp] theorem State.completeInv_outside {P : Parts} (s : State) (i : Nat) (d : NodeDef) (v : Inv) (c : Nat) (hP : P.emits ∧ P.cells = true ∧ P.regs Reg.ECC_INJ ∧ P.clu = true ∧ (∀ n, P.regs (Reg.ECC_REMAP n)) ∧ P.ecc = true ∧ P.regs Reg.ECC_STAT ∧ P.eng = true ∧ (∀ n, P.regs (Reg.EXC_STAT n)) ∧ P.exc = true ∧ P.regs Reg.FAB_DROP ∧ P.fresh = true ∧ (∀ n, P.regs (Reg.FP_UTIL n)) ∧ P.mode = true ∧ P.regs Reg.MODE_STAT ∧ P.nodes = true ∧ P.regs Reg.PACER_BORROW ∧ P.out = true ∧ P.regs Reg.PACER_DEFER ∧ P.pacer = true ∧ P.regs Reg.PACER_HEAD ∧ P.port = true ∧ P.regs Reg.PACER_POOL ∧ P.rate = true ∧ P.regs Reg.PACER_STAT ∧ P.snp = true ∧ P.regs Reg.PACER_USED ∧ P.snpSeen = true ∧ P.regs Reg.SAF_CAUSE ∧ P.start = true ∧ P.regs Reg.SNP_MISS_CNT ∧ P.streams = true ∧ P.regs Reg.SNP_NEXT_HI ∧ P.trig = true ∧ P.regs Reg.SNP_NEXT_LO ∧ P.regs Reg.SNP_STAT ∧ P.regs Reg.STR_STAGE ∧ P.regs Reg.STR_STAT ∧ (∀ n, P.regs (Reg.WCH_ST_CFG n))) :
    (State.completeInv s i d v c).outside P = s.outside P := by
  unfold State.completeInv
  simp only [State.emitAt_outside, State.setNode_outside, State.nodeRaises_outside, State.nodeFrees_outside, State.updInv_outside, State.pacerAdmit_outside, State.uncharge_outside, State.writeRegion_outside, State.settleNode_outside, State.workEnded_outside, State.dueTests_outside, State.class1Done_outside, State.outside_pacer, State.setReg_outside, State.push_outside, State.outside_ite, State.outside_bif, State.foldl_outside, State.foldl_outside_snd, State.foldl_outside_fst, ite_self, Bool.cond_self, Parts.emits_recs, Parts.emits_classLost, Parts.emits_host, Parts.emits_lost, and_self, and_true, true_and, implies_true, forall_const, hP]

@[simp] theorem State.mismatch_outside {P : Parts} (s : State) (i : Nat) (d : NodeDef) (v : Inv) (c idx : Nat) (hP : P.emits ∧ P.clu = true ∧ P.regs Reg.ENG_MISM_CNT ∧ P.eng = true ∧ P.regs Reg.ENG_STAT ∧ P.fab = true ∧ P.regs Reg.FAB_DROP ∧ P.fresh = true ∧ (∀ n, P.regs (Reg.FP_UTIL n)) ∧ P.mode = true ∧ P.regs Reg.HIF_CMD_STAT ∧ P.nodes = true ∧ P.regs Reg.MODE_STAT ∧ P.out = true ∧ P.regs Reg.PACER_DEFER ∧ P.pacer = true ∧ P.regs Reg.PACER_STAT ∧ P.port = true ∧ P.regs Reg.SAF_CAUSE ∧ P.rate = true ∧ P.regs Reg.SAF_CAUSE_S ∧ P.smon = true ∧ P.regs Reg.SAF_CNT ∧ P.streams = true ∧ P.regs Reg.SAF_STAT ∧ P.trig = true ∧ P.regs Reg.STR_STAGE ∧ P.regs Reg.STR_STAT) :
    (State.mismatch s i d v c idx).outside P = s.outside P := by
  unfold State.mismatch
  simp only [State.raise_outside, State.count_outside, State.emitSafetyHeld_outside, State.setNode_outside, State.raiseCause_outside, State.updInv_outside, State.placehold_outside, State.dueTests_outside, State.outside_eng, State.setReg_outside, State.push_outside, State.outside_ite, State.outside_bif, State.foldl_outside, State.foldl_outside_snd, State.foldl_outside_fst, ite_self, Bool.cond_self, Parts.emits_recs, Parts.emits_classLost, Parts.emits_host, Parts.emits_lost, and_self, and_true, true_and, implies_true, forall_const, hP]

@[simp] theorem State.countBusy_outside {P : Parts} (s : State) (c cycles : Nat) (hP : P.clu = true ∧ (∀ n, P.regs (Reg.CL_CYC n))) :
    (State.countBusy s c cycles).outside P = s.outside P := by
  unfold State.countBusy
  simp only [State.setClu_outside, State.setReg_outside, State.push_outside, State.outside_ite, State.outside_bif, State.foldl_outside, State.foldl_outside_snd, State.foldl_outside_fst, ite_self, Bool.cond_self, Parts.emits_recs, Parts.emits_classLost, Parts.emits_host, Parts.emits_lost, and_self, and_true, true_and, implies_true, forall_const, hP]

@[simp] theorem State.leaveCluster_outside {P : Parts} (s : State) (c i : Nat) (d : NodeDef) (hP : P.emits ∧ P.fab = true ∧ P.regs Reg.FAB_DROP ∧ P.fresh = true ∧ (∀ n, P.regs (Reg.FP_UTIL n)) ∧ P.mode = true ∧ P.regs Reg.HIF_CMD_STAT ∧ P.nodes = true ∧ P.regs Reg.MODE_STAT ∧ P.out = true ∧ P.regs Reg.PACER_STAT ∧ P.port = true ∧ P.regs Reg.SAF_CAUSE ∧ P.rate = true ∧ P.regs Reg.SAF_CAUSE_S ∧ P.smon = true ∧ P.regs Reg.SAF_CNT ∧ P.regs Reg.SAF_STAT) :
    (State.leaveCluster s c i d).outside P = s.outside P := by
  unfold State.leaveCluster
  simp only [State.emitSafetyHeld_outside, State.setNode_outside, State.raiseCause_outside, State.dropCause_outside, State.setReg_outside, State.push_outside, State.outside_ite, State.outside_bif, State.foldl_outside, State.foldl_outside_snd, State.foldl_outside_fst, ite_self, Bool.cond_self, Parts.emits_recs, Parts.emits_classLost, Parts.emits_host, Parts.emits_lost, and_self, and_true, true_and, implies_true, forall_const, hP]

@[simp] theorem clusterFault_outside {P : Parts} (s : State) (c cause : Nat) (hP : P.emits ∧ P.clu = true ∧ P.regs Reg.CLK_GATE_OPEN ∧ P.fab = true ∧ (∀ n, P.regs (Reg.CL_CUSE n)) ∧ P.fresh = true ∧ (∀ n, P.regs (Reg.CL_CYC n)) ∧ P.mode = true ∧ (∀ n, P.regs (Reg.CL_LOAD n)) ∧ P.nodes = true ∧ (∀ n, P.regs (Reg.CL_STAT n)) ∧ P.out = true ∧ (∀ n, P.regs (Reg.CL_WMAX n)) ∧ P.port = true ∧ (∀ n, P.regs (Reg.CL_XYUSE n)) ∧ P.rate = true ∧ P.regs Reg.ENG_STAT ∧ P.smon = true ∧ P.regs Reg.FAB_DROP ∧ (∀ n, P.regs (Reg.FP_UTIL n)) ∧ P.regs Reg.HIF_CMD_STAT ∧ P.regs Reg.MODE_STAT ∧ P.regs Reg.PACER_STAT ∧ P.regs Reg.SAF_CAUSE ∧ P.regs Reg.SAF_CAUSE_S ∧ P.regs Reg.SAF_CNT ∧ P.regs Reg.SAF_STAT) :
    (clusterFault s c cause).outside P = s.outside P := by
  unfold clusterFault
  simp only [State.setFld_outside, State.raise_outside, State.setBit_outside, State.emitSafetyHeld_outside, State.setClu_outside, State.showEngine_outside, State.countBusy_outside, State.leaveCluster_outside, State.setReg_outside, State.push_outside, State.outside_ite, State.outside_bif, State.foldl_outside, State.foldl_outside_snd, State.foldl_outside_fst, ite_self, Bool.cond_self, Parts.emits_recs, Parts.emits_classLost, Parts.emits_host, Parts.emits_lost, and_self, and_true, true_and, implies_true, forall_const, hP]

@[simp] theorem clusterFaultSeen_outside {P : Parts} (s : State) (c cause : Nat) (hP : P.emits ∧ P.clu = true ∧ P.regs Reg.CLK_GATE_OPEN ∧ P.fab = true ∧ (∀ n, P.regs (Reg.CL_CUSE n)) ∧ P.fresh = true ∧ (∀ n, P.regs (Reg.CL_CYC n)) ∧ P.mode = true ∧ (∀ n, P.regs (Reg.CL_LOAD n)) ∧ P.nodes = true ∧ (∀ n, P.regs (Reg.CL_STAT n)) ∧ P.out = true ∧ (∀ n, P.regs (Reg.CL_WMAX n)) ∧ P.port = true ∧ (∀ n, P.regs (Reg.CL_XYUSE n)) ∧ P.rate = true ∧ (∀ n, P.regs (Reg.ECC_SRAM_CE n)) ∧ P.smon = true ∧ P.regs Reg.ECC_STAT ∧ P.regs Reg.ENG_STAT ∧ P.regs Reg.FAB_DROP ∧ (∀ n, P.regs (Reg.FP_UTIL n)) ∧ P.regs Reg.HIF_CMD_STAT ∧ P.regs Reg.MODE_STAT ∧ P.regs Reg.PACER_STAT ∧ P.regs Reg.SAF_CAUSE ∧ P.regs Reg.SAF_CAUSE_S ∧ P.regs Reg.SAF_CNT ∧ P.regs Reg.SAF_STAT) :
    (clusterFaultSeen s c cause).outside P = s.outside P := by
  unfold clusterFaultSeen
  simp only [State.freeNat_outside, State.sramError_outside, clusterFault_outside, State.setReg_outside, State.push_outside, State.outside_ite, State.outside_bif, State.foldl_outside, State.foldl_outside_snd, State.foldl_outside_fst, ite_self, Bool.cond_self, Parts.emits_recs, Parts.emits_classLost, Parts.emits_host, Parts.emits_lost, and_self, and_true, true_and, implies_true, forall_const, hP]

@[simp] theorem State.settleLost_outside {P : Parts} (s : State) (i : Nat) (d : NodeDef) (v : Inv) (hP : P.emits ∧ P.clk = true ∧ P.regs Reg.CLK_HOLD_CNT ∧ P.eng = true ∧ P.regs Reg.CLK_READY ∧ P.fab = true ∧ P.regs Reg.CLK_SRC ∧ P.nodes = true ∧ P.regs Reg.CLK_STAT ∧ P.out = true ∧ P.regs Reg.FAB_STAT ∧ P.pacer = true ∧ (∀ n, P.regs (Reg.FP_STAT n)) ∧ P.port = true ∧ P.regs Reg.PACER_BORROW ∧ P.streams = true ∧ P.regs Reg.PACER_DEFER ∧ P.trig = true ∧ P.regs Reg.PACER_HEAD ∧ P.regs Reg.PACER_POOL ∧ P.regs Reg.PACER_STAT ∧ P.regs Reg.PACER_USED ∧ P.regs Reg.STR_STAGE ∧ P.regs Reg.STR_STAT) :
    (State.settleLost s i d v).outside P = s.outside P := by
  unfold State.settleLost
  simp only [lost_outside, State.updInv_outside, State.pacerAdmit_outside, State.uncharge_outside, State.placehold_outside, State.setReg_outside, State.push_outside, State.outside_ite, State.outside_bif, State.foldl_outside, State.foldl_outside_snd, State.foldl_outside_fst, ite_self, Bool.cond_self, Parts.emits_recs, Parts.emits_classLost, Parts.emits_host, Parts.emits_lost, and_self, and_true, true_and, implies_true, forall_const, hP]

@[simp] theorem clusterReplaced_outside {P : Parts} (s : State) (c duration : Nat) (hP : P.emits ∧ P.cells = true ∧ P.regs Reg.CLK_HOLD_CNT ∧ P.clk = true ∧ P.regs Reg.CLK_READY ∧ P.clu = true ∧ P.regs Reg.CLK_SRC ∧ P.ecc = true ∧ P.regs Reg.CLK_STAT ∧ P.eng = true ∧ (∀ n, P.regs (Reg.CL_CUSE n)) ∧ P.fab = true ∧ (∀ n, P.regs (Reg.CL_LOAD n)) ∧ P.nodes = true ∧ (∀ n, P.regs (Reg.CL_STAT n)) ∧ P.out = true ∧ (∀ n, P.regs (Reg.CL_WMAX n)) ∧ P.pacer = true ∧ (∀ n, P.regs (Reg.CL_XYUSE n)) ∧ P.port = true ∧ P.regs Reg.ECC_CE_CNT0 ∧ P.rate = true ∧ P.regs Reg.ECC_CE_CNT1 ∧ P.streams = true ∧ P.regs Reg.ECC_INJ ∧ P.trig = true ∧ P.regs Reg.ECC_LOG_CTRL ∧ P.regs Reg.ECC_POISON_CNT ∧ (∀ n, P.regs (Reg.ECC_REMAP n)) ∧ P.regs Reg.ECC_RMW_CNT ∧ P.regs Reg.ECC_STAT ∧ P.regs Reg.ECC_UE_CNT ∧ P.regs Reg.ENG_REPL_T ∧ P.regs Reg.ENG_STAT ∧ P.regs Reg.FAB_STAT ∧ (∀ n, P.regs (Reg.FP_STAT n)) ∧ P.regs Reg.PACER_BORROW ∧ P.regs Reg.PACER_DEFER ∧ P.regs Reg.PACER_HEAD ∧ P.regs Reg.PACER_POOL ∧ P.regs Reg.PACER_STAT ∧ P.regs Reg.PACER_USED ∧ P.regs Reg.STR_STAGE ∧ P.regs Reg.STR_STAT) :
    (clusterReplaced s c duration).outside P = s.outside P := by
  unfold clusterReplaced
  split
  · rfl
  · dsimp only
    refine (State.showEngine_outside _ (by simp only [hP, and_self, implies_true])).trans ?_
    refine (State.foldl_outside (fun s p => ?_) _ _).trans ?_
    · split
      · rfl
      · exact State.foldl_outside (fun s v => State.settleLost_outside s _ _ v (by simp only [hP, and_self, implies_true])) _ _
    · refine (State.emit_outside _ _ _ _ (by simp only [hP, and_self, implies_true])).trans ?_
      refine (State.setReg_outside (by simp only [hP]) _ _).trans ?_
      refine (State.setClu_outside _ _ _ (by simp only [hP, and_self, implies_true])).trans ?_
      refine State.foldl_outside (fun s i => ?_) _ _
      have h := State.setNode_outside (P := P) s i { s.nodeU i with moving := none } (by simp only [hP, and_self, implies_true])
      split
      · split
        · exact (State.readRegion_outside _ _ _ (by simp only [hP, and_self, implies_true])).trans h
        · exact h
      · exact h

@[simp] theorem State.endInv_outside {P : Parts} (s : State) (i : Nat) (d : NodeDef) (v : Inv) (c : Nat) (differs : Option Nat) (hP : P.emits ∧ P.cells = true ∧ P.regs Reg.ECC_INJ ∧ P.clu = true ∧ (∀ n, P.regs (Reg.ECC_REMAP n)) ∧ P.ecc = true ∧ P.regs Reg.ECC_STAT ∧ P.eng = true ∧ P.regs Reg.ENG_MISM_CNT ∧ P.exc = true ∧ P.regs Reg.ENG_STAT ∧ P.fab = true ∧ (∀ n, P.regs (Reg.EXC_STAT n)) ∧ P.fresh = true ∧ P.regs Reg.FAB_DROP ∧ P.mode = true ∧ (∀ n, P.regs (Reg.FP_UTIL n)) ∧ P.nodes = true ∧ P.regs Reg.HIF_CMD_STAT ∧ P.out = true ∧ P.regs Reg.MODE_STAT ∧ P.pacer = true ∧ P.regs Reg.PACER_BORROW ∧ P.port = true ∧ P.regs Reg.PACER_DEFER ∧ P.rate = true ∧ P.regs Reg.PACER_HEAD ∧ P.smon = true ∧ P.regs Reg.PACER_POOL ∧ P.snp = true ∧ P.regs Reg.PACER_STAT ∧ P.snpSeen = true ∧ P.regs Reg.PACER_USED ∧ P.start = true ∧ P.regs Reg.SAF_CAUSE ∧ P.streams = true ∧ P.regs Reg.SAF_CAUSE_S ∧ P.trig = true ∧ P.regs Reg.SAF_CNT ∧ P.regs Reg.SAF_STAT ∧ P.regs Reg.SNP_MISS_CNT ∧ P.regs Reg.SNP_NEXT_HI ∧ P.regs Reg.SNP_NEXT_LO ∧ P.regs Reg.SNP_STAT ∧ P.regs Reg.STR_STAGE ∧ P.regs Reg.STR_STAT ∧ (∀ n, P.regs (Reg.WCH_ST_CFG n))) :
    (State.endInv s i d v c differs).outside P = s.outside P := by
  unfold State.endInv
  repeat' split
  all_goals first | rfl | simp only [State.updInv_outside, State.class1Poison_outside, State.completeInv_outside, State.mismatch_outside, State.setReg_outside, State.push_outside, State.outside_ite, State.outside_bif, State.foldl_outside, State.foldl_outside_snd, State.foldl_outside_fst, ite_self, Bool.cond_self, Parts.emits_recs, Parts.emits_classLost, Parts.emits_host, Parts.emits_lost, and_self, and_true, true_and, implies_true, forall_const, hP]

@[simp] theorem invocationDone_outside {P : Parts} (s : State) (c cycles : Nat) (differs : Option Nat) (hP : P.emits ∧ P.cells = true ∧ P.regs Reg.CLK_GATE_OPEN ∧ P.clu = true ∧ (∀ n, P.regs (Reg.CL_CUSE n)) ∧ P.ecc = true ∧ (∀ n, P.regs (Reg.CL_CYC n)) ∧ P.eng = true ∧ (∀ n, P.regs (Reg.CL_LOAD n)) ∧ P.exc = true ∧ (∀ n, P.regs (Reg.CL_STAT n)) ∧ P.fab = true ∧ (∀ n, P.regs (Reg.CL_WMAX n)) ∧ P.fresh = true ∧ (∀ n, P.regs (Reg.CL_XYUSE n)) ∧ P.mode = true ∧ P.regs Reg.ECC_INJ ∧ P.nodes = true ∧ (∀ n, P.regs (Reg.ECC_REMAP n)) ∧ P.out = true ∧ P.regs Reg.ECC_STAT ∧ P.pacer = true ∧ P.regs Reg.ENG_MISM_CNT ∧ P.port = true ∧ P.regs Reg.ENG_STAT ∧ P.rate = true ∧ (∀ n, P.regs (Reg.EXC_STAT n)) ∧ P.smon = true ∧ P.regs Reg.FAB_DROP ∧ P.snp = true ∧ (∀ n, P.regs (Reg.FP_UTIL n)) ∧ P.snpSeen = true ∧ P.regs Reg.HIF_CMD_STAT ∧ P.start = true ∧ P.regs Reg.MODE_STAT ∧ P.streams = true ∧ P.regs Reg.PACER_BORROW ∧ P.trig = true ∧ P.regs Reg.PACER_DEFER ∧ P.regs Reg.PACER_HEAD ∧ P.regs Reg.PACER_POOL ∧ P.regs Reg.PACER_STAT ∧ P.regs Reg.PACER_USED ∧ P.regs Reg.SAF_CAUSE ∧ P.regs Reg.SAF_CAUSE_S ∧ P.regs Reg.SAF_CNT ∧ P.regs Reg.SAF_STAT ∧ P.regs Reg.SNP_MISS_CNT ∧ P.regs Reg.SNP_NEXT_HI ∧ P.regs Reg.SNP_NEXT_LO ∧ P.regs Reg.SNP_STAT ∧ P.regs Reg.STR_STAGE ∧ P.regs Reg.STR_STAT ∧ (∀ n, P.regs (Reg.WCH_ST_CFG n))) :
    (invocationDone s c cycles differs).outside P = s.outside P := by
  unfold invocationDone
  simp only [State.setFld_outside, State.setNode_outside, State.countBusy_outside, clusterFault_outside, State.endInv_outside, State.setReg_outside, State.push_outside, State.outside_ite, State.outside_bif, State.foldl_outside, State.foldl_outside_snd, State.foldl_outside_fst, ite_self, Bool.cond_self, Parts.emits_recs, Parts.emits_classLost, Parts.emits_host, Parts.emits_lost, and_self, and_true, true_and, implies_true, forall_const, hP]
  repeat' (first | rfl | (split <;> try simp only [State.setFld_outside, State.setNode_outside, State.countBusy_outside, clusterFault_outside, State.endInv_outside, State.setReg_outside, State.push_outside, State.outside_ite, State.outside_bif, State.foldl_outside, State.foldl_outside_snd, State.foldl_outside_fst, ite_self, Bool.cond_self, Parts.emits_recs, Parts.emits_classLost, Parts.emits_host, Parts.emits_lost, and_self, and_true, true_and, implies_true, forall_const, hP]))

@[simp] theorem invocationDeadline_outside {P : Parts} (s : State) (node num : Nat) (hP : P.clk = true ∧ P.regs Reg.CLK_HOLD_CNT ∧ P.eng = true ∧ P.regs Reg.CLK_READY ∧ P.fab = true ∧ P.regs Reg.CLK_SRC ∧ P.nodes = true ∧ P.regs Reg.CLK_STAT ∧ P.out = true ∧ P.regs Reg.FAB_STAT ∧ P.pacer = true ∧ (∀ n, P.regs (Reg.FP_STAT n)) ∧ P.port = true ∧ P.regs Reg.PACER_DEFER ∧ P.streams = true ∧ P.regs Reg.STR_STAGE ∧ P.trig = true ∧ P.regs Reg.STR_STAT) :
    (invocationDeadline s node num).outside P = s.outside P := by
  unfold invocationDeadline
  repeat' split
  all_goals first | rfl | simp only [State.count_outside, lost_outside, State.placehold_outside, State.setReg_outside, State.push_outside, State.outside_ite, State.outside_bif, State.foldl_outside, State.foldl_outside_snd, State.foldl_outside_fst, ite_self, Bool.cond_self, Parts.emits_recs, Parts.emits_classLost, Parts.emits_host, Parts.emits_lost, and_self, and_true, true_and, implies_true, forall_const, hP]

@[simp] theorem clusterSelfTest_outside {P : Parts} (s : State) (c : Nat) (pass : Bool) (hP : P.emits ∧ P.clu = true ∧ P.regs Reg.CLK_GATE_OPEN ∧ P.fab = true ∧ (∀ n, P.regs (Reg.CL_CUSE n)) ∧ P.fresh = true ∧ (∀ n, P.regs (Reg.CL_CYC n)) ∧ P.mode = true ∧ (∀ n, P.regs (Reg.CL_LOAD n)) ∧ P.nodes = true ∧ (∀ n, P.regs (Reg.CL_STAT n)) ∧ P.out = true ∧ (∀ n, P.regs (Reg.CL_WMAX n)) ∧ P.port = true ∧ (∀ n, P.regs (Reg.CL_XYUSE n)) ∧ P.rate = true ∧ P.regs Reg.ENG_STAT ∧ P.smon = true ∧ P.regs Reg.FAB_DROP ∧ (∀ n, P.regs (Reg.FP_UTIL n)) ∧ P.regs Reg.HIF_CMD_STAT ∧ P.regs Reg.MODE_STAT ∧ P.regs Reg.PACER_STAT ∧ P.regs Reg.SAF_CAUSE ∧ P.regs Reg.SAF_CAUSE_S ∧ P.regs Reg.SAF_CNT ∧ P.regs Reg.SAF_STAT) :
    (clusterSelfTest s c pass).outside P = s.outside P := by
  unfold clusterSelfTest
  simp only [State.setFld_outside, State.raise_outside, State.setClu_outside, clusterFault_outside, State.setReg_outside, State.push_outside, State.outside_ite, State.outside_bif, State.foldl_outside, State.foldl_outside_snd, State.foldl_outside_fst, ite_self, Bool.cond_self, Parts.emits_recs, Parts.emits_classLost, Parts.emits_host, Parts.emits_lost, and_self, and_true, true_and, implies_true, forall_const, hP]

@[simp] theorem clCtrlTest_outside {P : Parts} (s : State) (c : Nat) (hP : P.clu = true ∧ (∀ n, P.regs (Reg.CL_CTRL n)) ∧ P.regs Reg.DEV_ABSENT_ADDR ∧ P.regs Reg.DEV_ABSENT_WR) :
    (clCtrlTest s c).outside P = s.outside P := by
  unfold clCtrlTest
  simp only [State.writeAbsent_outside, State.dueTest_outside, State.setReg_outside, State.push_outside, State.outside_ite, State.outside_bif, State.foldl_outside, State.foldl_outside_snd, State.foldl_outside_fst, ite_self, Bool.cond_self, Parts.emits_recs, Parts.emits_classLost, Parts.emits_host, Parts.emits_lost, and_self, and_true, true_and, implies_true, forall_const, hP]

@[simp] theorem clCtrlOffline_outside {P : Parts} (s : State) (c : Nat) (hP : P.emits ∧ P.clu = true ∧ P.regs Reg.CLK_GATE_OPEN ∧ P.fab = true ∧ (∀ n, P.regs (Reg.CL_CTRL n)) ∧ P.fresh = true ∧ (∀ n, P.regs (Reg.CL_CUSE n)) ∧ P.mode = true ∧ (∀ n, P.regs (Reg.CL_CYC n)) ∧ P.nodes = true ∧ (∀ n, P.regs (Reg.CL_LOAD n)) ∧ P.out = true ∧ (∀ n, P.regs (Reg.CL_STAT n)) ∧ P.port = true ∧ (∀ n, P.regs (Reg.CL_WMAX n)) ∧ P.rate = true ∧ (∀ n, P.regs (Reg.CL_XYUSE n)) ∧ P.smon = true ∧ P.regs Reg.DEV_ABSENT_ADDR ∧ P.regs Reg.DEV_ABSENT_WR ∧ P.regs Reg.ENG_STAT ∧ P.regs Reg.FAB_DROP ∧ (∀ n, P.regs (Reg.FP_UTIL n)) ∧ P.regs Reg.HIF_CMD_STAT ∧ P.regs Reg.MODE_STAT ∧ P.regs Reg.PACER_STAT ∧ P.regs Reg.SAF_CAUSE ∧ P.regs Reg.SAF_CAUSE_S ∧ P.regs Reg.SAF_CNT ∧ P.regs Reg.SAF_STAT) :
    (clCtrlOffline s c).outside P = s.outside P := by
  unfold clCtrlOffline
  simp only [State.writeAbsent_outside, clusterFault_outside, State.setReg_outside, State.push_outside, State.outside_ite, State.outside_bif, State.foldl_outside, State.foldl_outside_snd, State.foldl_outside_fst, ite_self, Bool.cond_self, Parts.emits_recs, Parts.emits_classLost, Parts.emits_host, Parts.emits_lost, and_self, and_true, true_and, implies_true, forall_const, hP]

@[simp] theorem paramSet_outside {P : Parts} (s : State) (src : CmdSrc) (tag node word : Nat) (mask value : Word) (hP : P.fab = true ∧ (∀ n, P.regs (Reg.CL_CUSE n)) ∧ P.fresh = true ∧ (∀ n, P.regs (Reg.CL_LOAD n)) ∧ P.host = true ∧ (∀ n, P.regs (Reg.CL_STAT n)) ∧ P.nodes = true ∧ (∀ n, P.regs (Reg.CL_WMAX n)) ∧ P.out = true ∧ (∀ n, P.regs (Reg.CL_XYUSE n)) ∧ P.port = true ∧ P.regs Reg.ENG_STAT ∧ P.regs Reg.FAB_DROP ∧ (∀ n, P.regs (Reg.FP_UTIL n)) ∧ P.regs Reg.HIF_CMD_STAT) :
    (paramSet s src tag node word mask value).outside P = s.outside P := by
  unfold paramSet
  simp only [State.setNode_outside, State.settle_outside, State.showEngine_outside, State.setReg_outside, State.push_outside, State.outside_ite, State.outside_bif, State.foldl_outside, State.foldl_outside_snd, State.foldl_outside_fst, ite_self, Bool.cond_self, Parts.emits_recs, Parts.emits_classLost, Parts.emits_host, Parts.emits_lost, and_self, and_true, true_and, implies_true, forall_const, hP]

end Sys2Proof.Machine
end

