-- ==== Sys2Proof/Laws/FramePower.lean ====
section
/-!
SUPPORT. What the operations of Machine/Power.lean write: each leaves every part of the state as it is but those its hypothesis names.
-/

set_option Elab.async false
set_option linter.unusedSimpArgs false
namespace Sys2Proof.Machine

@[simp] theorem powerStateSleep_outside {P : Parts} (s : State) (hP : P.clk = true ∧ P.regs Reg.CLK_GATE_OPEN ∧ P.fab = true ∧ P.regs Reg.CLK_READY ∧ P.out = true ∧ P.regs Reg.CLK_STAT ∧ P.port = true ∧ (∀ n, P.regs (Reg.FP_STAT n)) ∧ P.streams = true ∧ P.regs Reg.MODE_STAT) :
    (powerStateSleep s).outside P = s.outside P := by
  unfold powerStateSleep
  simp only [State.enterPstate_outside, State.setReg_outside, State.push_outside, State.outside_ite, State.outside_bif, State.foldl_outside, State.foldl_outside_snd, State.foldl_outside_fst, ite_self, Bool.cond_self, Parts.emits_recs, Parts.emits_classLost, Parts.emits_host, Parts.emits_lost, and_self, and_true, true_and, implies_true, forall_const, hP]

@[simp] theorem State.enterDeep_outside {P : Parts} (s : State) (hP : P.clk = true ∧ P.regs Reg.CLK_GATE_OPEN ∧ P.fab = true ∧ P.regs Reg.CLK_READY ∧ P.out = true ∧ P.regs Reg.CLK_STAT ∧ P.port = true ∧ (∀ n, P.regs (Reg.CL_STAT n)) ∧ P.streams = true ∧ (∀ n, P.regs (Reg.FP_STAT n)) ∧ P.regs Reg.MODE_STAT) :
    (State.enterDeep s).outside P = s.outside P := by
  unfold State.enterDeep
  simp only [State.setFld_outside, State.clear_outside, State.shutGates_outside, State.requestRates_outside, State.enterPstate_outside, State.setReg_outside, State.push_outside, State.outside_ite, State.outside_bif, State.foldl_outside, State.foldl_outside_snd, State.foldl_outside_fst, ite_self, Bool.cond_self, Parts.emits_recs, Parts.emits_classLost, Parts.emits_host, Parts.emits_lost, and_self, and_true, true_and, implies_true, forall_const, hP]

@[simp] theorem deepEntry_outside {P : Parts} (s : State) (hP : P.clk = true ∧ P.regs Reg.CLK_GATE_OPEN ∧ P.fab = true ∧ P.regs Reg.CLK_READY ∧ P.out = true ∧ P.regs Reg.CLK_STAT ∧ P.port = true ∧ (∀ n, P.regs (Reg.CL_STAT n)) ∧ P.streams = true ∧ (∀ n, P.regs (Reg.FP_STAT n)) ∧ P.regs Reg.MODE_STAT) :
    (deepEntry s).outside P = s.outside P := by
  unfold deepEntry
  simp only [State.enterDeep_outside, State.setReg_outside, State.push_outside, State.outside_ite, State.outside_bif, State.foldl_outside, State.foldl_outside_snd, State.foldl_outside_fst, ite_self, Bool.cond_self, Parts.emits_recs, Parts.emits_classLost, Parts.emits_host, Parts.emits_lost, and_self, and_true, true_and, implies_true, forall_const, hP]

@[simp] theorem deepEntryRetry_outside {P : Parts} (s : State) (hP : P.clk = true ∧ P.regs Reg.CLK_GATE_OPEN ∧ P.fab = true ∧ P.regs Reg.CLK_READY ∧ P.out = true ∧ P.regs Reg.CLK_STAT ∧ P.port = true ∧ (∀ n, P.regs (Reg.CL_STAT n)) ∧ P.streams = true ∧ (∀ n, P.regs (Reg.FP_STAT n)) ∧ P.regs Reg.MODE_STAT) :
    (deepEntryRetry s).outside P = s.outside P := by
  unfold deepEntryRetry
  repeat' split
  all_goals first | rfl | simp only [State.enterDeep_outside, State.outside_clk, State.setReg_outside, State.push_outside, State.outside_ite, State.outside_bif, State.foldl_outside, State.foldl_outside_snd, State.foldl_outside_fst, ite_self, Bool.cond_self, Parts.emits_recs, Parts.emits_classLost, Parts.emits_host, Parts.emits_lost, and_self, and_true, true_and, implies_true, forall_const, hP]

@[simp] theorem State.leaveDeep_outside {P : Parts} (s : State) (ps : Nat) (hP : P.emits ∧ P.cells = true ∧ P.regs Reg.CLK_GATE_OPEN ∧ P.chan = true ∧ P.regs Reg.CLK_READY ∧ P.clk = true ∧ P.regs Reg.CLK_STAT ∧ P.clu = true ∧ (∀ n, P.regs (Reg.CL_STAT n)) ∧ P.drc = true ∧ P.regs Reg.DRC_CATCHUP_CNT ∧ P.ecc = true ∧ P.regs Reg.DRC_SR_TIME ∧ P.fab = true ∧ P.regs Reg.DRC_STAT ∧ P.out = true ∧ P.regs Reg.ECC_CE_CNT0 ∧ P.port = true ∧ P.regs Reg.ECC_CE_CNT1 ∧ P.rate = true ∧ P.regs Reg.ECC_INJ ∧ P.streams = true ∧ P.regs Reg.ECC_LOG_CTRL ∧ P.regs Reg.ECC_POISON_CNT ∧ (∀ n, P.regs (Reg.ECC_REMAP n)) ∧ P.regs Reg.ECC_RMW_CNT ∧ P.regs Reg.ECC_STAT ∧ P.regs Reg.ECC_UE_CNT ∧ (∀ n, P.regs (Reg.FP_STAT n)) ∧ P.regs Reg.MODE_STAT) :
    (State.leaveDeep s ps).outside P = s.outside P := by
  unfold State.leaveDeep
  simp only [State.setFld_outside, State.raise_outside, selfRefreshExit_outside, State.requestRates_outside, State.enterPstate_outside, State.dueTest_outside, State.setReg_outside, State.push_outside, State.outside_ite, State.outside_bif, State.foldl_outside, State.foldl_outside_snd, State.foldl_outside_fst, ite_self, Bool.cond_self, Parts.emits_recs, Parts.emits_classLost, Parts.emits_host, Parts.emits_lost, and_self, and_true, true_and, implies_true, forall_const, hP]

@[simp] theorem State.runBurst_outside {P : Parts} (s : State) (hP : P.emits ∧ P.cells = true ∧ P.regs Reg.CLK_GATE_OPEN ∧ P.chan = true ∧ P.regs Reg.CLK_READY ∧ P.clk = true ∧ P.regs Reg.CLK_STAT ∧ P.clu = true ∧ (∀ n, P.regs (Reg.CL_STAT n)) ∧ P.drc = true ∧ P.regs Reg.DRC_CATCHUP_CNT ∧ P.ecc = true ∧ P.regs Reg.DRC_SR_TIME ∧ P.fab = true ∧ P.regs Reg.DRC_STAT ∧ P.out = true ∧ P.regs Reg.ECC_CE_CNT0 ∧ P.port = true ∧ P.regs Reg.ECC_CE_CNT1 ∧ P.rate = true ∧ P.regs Reg.ECC_INJ ∧ P.streams = true ∧ P.regs Reg.ECC_LOG_CTRL ∧ P.regs Reg.ECC_POISON_CNT ∧ (∀ n, P.regs (Reg.ECC_REMAP n)) ∧ P.regs Reg.ECC_RMW_CNT ∧ P.regs Reg.ECC_STAT ∧ P.regs Reg.ECC_UE_CNT ∧ (∀ n, P.regs (Reg.FP_STAT n)) ∧ P.regs Reg.MODE_STAT) :
    (State.runBurst s).outside P = s.outside P := by
  unfold State.runBurst
  simp only [State.toRun_outside, State.leaveDeep_outside, State.setReg_outside, State.push_outside, State.outside_ite, State.outside_bif, State.foldl_outside, State.foldl_outside_snd, State.foldl_outside_fst, ite_self, Bool.cond_self, Parts.emits_recs, Parts.emits_classLost, Parts.emits_host, Parts.emits_lost, and_self, and_true, true_and, implies_true, forall_const, hP]

@[simp] theorem runBurstStart_outside {P : Parts} (s : State) (hP : P.emits ∧ P.cells = true ∧ P.regs Reg.CLK_GATE_OPEN ∧ P.chan = true ∧ P.regs Reg.CLK_READY ∧ P.clk = true ∧ P.regs Reg.CLK_STAT ∧ P.clu = true ∧ (∀ n, P.regs (Reg.CL_STAT n)) ∧ P.drc = true ∧ P.regs Reg.DRC_CATCHUP_CNT ∧ P.ecc = true ∧ P.regs Reg.DRC_SR_TIME ∧ P.fab = true ∧ P.regs Reg.DRC_STAT ∧ P.out = true ∧ P.regs Reg.ECC_CE_CNT0 ∧ P.port = true ∧ P.regs Reg.ECC_CE_CNT1 ∧ P.rate = true ∧ P.regs Reg.ECC_INJ ∧ P.streams = true ∧ P.regs Reg.ECC_LOG_CTRL ∧ P.regs Reg.ECC_POISON_CNT ∧ (∀ n, P.regs (Reg.ECC_REMAP n)) ∧ P.regs Reg.ECC_RMW_CNT ∧ P.regs Reg.ECC_STAT ∧ P.regs Reg.ECC_UE_CNT ∧ (∀ n, P.regs (Reg.FP_STAT n)) ∧ P.regs Reg.MODE_STAT) :
    (runBurstStart s).outside P = s.outside P := by
  unfold runBurstStart
  simp only [State.runBurst_outside, State.setReg_outside, State.push_outside, State.outside_ite, State.outside_bif, State.foldl_outside, State.foldl_outside_snd, State.foldl_outside_fst, ite_self, Bool.cond_self, Parts.emits_recs, Parts.emits_classLost, Parts.emits_host, Parts.emits_lost, and_self, and_true, true_and, implies_true, forall_const, hP]

@[simp] theorem gateTimeout_outside {P : Parts} (s : State) (g : Nat) (hP : P.emits ∧ P.clk = true ∧ P.regs Reg.CLK_GATE_OPEN ∧ P.fab = true ∧ P.regs Reg.CLK_GATE_TO ∧ P.out = true ∧ P.regs Reg.CLK_READY ∧ P.port = true ∧ P.regs Reg.CLK_STAT ∧ P.rate = true ∧ (∀ n, P.regs (Reg.FP_STAT n)) ∧ P.streams = true ∧ P.regs Reg.MODE_STAT) :
    (gateTimeout s g).outside P = s.outside P := by
  unfold gateTimeout
  simp only [State.setFld_outside, State.count_outside, State.emitLimited_outside, State.keepGate_outside, State.openGate_outside, State.enterPstate_outside, State.outside_clk, State.setReg_outside, State.push_outside, State.outside_ite, State.outside_bif, State.foldl_outside, State.foldl_outside_snd, State.foldl_outside_fst, ite_self, Bool.cond_self, Parts.emits_recs, Parts.emits_classLost, Parts.emits_host, Parts.emits_lost, and_self, and_true, true_and, implies_true, forall_const, hP]

@[simp] theorem State.reach_outside {P : Parts} (s : State) (g : Nat) (hP : P.emits ∧ P.cells = true ∧ P.regs Reg.CLK_GATE_OPEN ∧ P.chan = true ∧ P.regs Reg.CLK_READY ∧ P.clk = true ∧ P.regs Reg.CLK_STAT ∧ P.clu = true ∧ P.regs Reg.CLK_WAKE_ACC ∧ P.drc = true ∧ (∀ n, P.regs (Reg.CL_STAT n)) ∧ P.ecc = true ∧ P.regs Reg.DRC_CATCHUP_CNT ∧ P.fab = true ∧ P.regs Reg.DRC_SR_TIME ∧ P.out = true ∧ P.regs Reg.DRC_STAT ∧ P.port = true ∧ P.regs Reg.ECC_CE_CNT0 ∧ P.rate = true ∧ P.regs Reg.ECC_CE_CNT1 ∧ P.streams = true ∧ P.regs Reg.ECC_INJ ∧ P.regs Reg.ECC_LOG_CTRL ∧ P.regs Reg.ECC_POISON_CNT ∧ (∀ n, P.regs (Reg.ECC_REMAP n)) ∧ P.regs Reg.ECC_RMW_CNT ∧ P.regs Reg.ECC_STAT ∧ P.regs Reg.ECC_UE_CNT ∧ (∀ n, P.regs (Reg.FP_STAT n)) ∧ P.regs Reg.MODE_STAT) :
    (State.reach s g).outside P = s.outside P := by
  unfold State.reach
  simp only [State.count_outside, State.keepGate_outside, State.openGate_outside, State.leaveDeep_outside, State.setReg_outside, State.push_outside, State.outside_ite, State.outside_bif, State.foldl_outside, State.foldl_outside_snd, State.foldl_outside_fst, ite_self, Bool.cond_self, Parts.emits_recs, Parts.emits_classLost, Parts.emits_host, Parts.emits_lost, and_self, and_true, true_and, implies_true, forall_const, hP]

@[simp] theorem State.reachIf_outside {P : Parts} (s : State) (present : Bool) (g : Nat) (hP : P.emits ∧ P.cells = true ∧ P.regs Reg.CLK_GATE_OPEN ∧ P.chan = true ∧ P.regs Reg.CLK_READY ∧ P.clk = true ∧ P.regs Reg.CLK_STAT ∧ P.clu = true ∧ P.regs Reg.CLK_WAKE_ACC ∧ P.drc = true ∧ (∀ n, P.regs (Reg.CL_STAT n)) ∧ P.ecc = true ∧ P.regs Reg.DRC_CATCHUP_CNT ∧ P.fab = true ∧ P.regs Reg.DRC_SR_TIME ∧ P.out = true ∧ P.regs Reg.DRC_STAT ∧ P.port = true ∧ P.regs Reg.ECC_CE_CNT0 ∧ P.rate = true ∧ P.regs Reg.ECC_CE_CNT1 ∧ P.streams = true ∧ P.regs Reg.ECC_INJ ∧ P.regs Reg.ECC_LOG_CTRL ∧ P.regs Reg.ECC_POISON_CNT ∧ (∀ n, P.regs (Reg.ECC_REMAP n)) ∧ P.regs Reg.ECC_RMW_CNT ∧ P.regs Reg.ECC_STAT ∧ P.regs Reg.ECC_UE_CNT ∧ (∀ n, P.regs (Reg.FP_STAT n)) ∧ P.regs Reg.MODE_STAT) :
    (State.reachIf s present g).outside P = s.outside P := by
  unfold State.reachIf
  simp only [State.reach_outside, State.setReg_outside, State.push_outside, State.outside_ite, State.outside_bif, State.foldl_outside, State.foldl_outside_snd, State.foldl_outside_fst, ite_self, Bool.cond_self, Parts.emits_recs, Parts.emits_classLost, Parts.emits_host, Parts.emits_lost, and_self, and_true, true_and, implies_true, forall_const, hP]

@[simp] theorem gatedAccess_outside {P : Parts} (s : State) (g : Nat) (hP : P.emits ∧ P.cells = true ∧ P.regs Reg.CLK_GATE_OPEN ∧ P.chan = true ∧ P.regs Reg.CLK_READY ∧ P.clk = true ∧ P.regs Reg.CLK_STAT ∧ P.clu = true ∧ P.regs Reg.CLK_WAKE_ACC ∧ P.drc = true ∧ (∀ n, P.regs (Reg.CL_STAT n)) ∧ P.ecc = true ∧ P.regs Reg.DRC_CATCHUP_CNT ∧ P.fab = true ∧ P.regs Reg.DRC_SR_TIME ∧ P.out = true ∧ P.regs Reg.DRC_STAT ∧ P.port = true ∧ P.regs Reg.ECC_CE_CNT0 ∧ P.rate = true ∧ P.regs Reg.ECC_CE_CNT1 ∧ P.streams = true ∧ P.regs Reg.ECC_INJ ∧ P.regs Reg.ECC_LOG_CTRL ∧ P.regs Reg.ECC_POISON_CNT ∧ (∀ n, P.regs (Reg.ECC_REMAP n)) ∧ P.regs Reg.ECC_RMW_CNT ∧ P.regs Reg.ECC_STAT ∧ P.regs Reg.ECC_UE_CNT ∧ (∀ n, P.regs (Reg.FP_STAT n)) ∧ P.regs Reg.MODE_STAT) :
    (gatedAccess s g).outside P = s.outside P := by
  unfold gatedAccess
  simp only [State.reach_outside, State.setReg_outside, State.push_outside, State.outside_ite, State.outside_bif, State.foldl_outside, State.foldl_outside_snd, State.foldl_outside_fst, ite_self, Bool.cond_self, Parts.emits_recs, Parts.emits_classLost, Parts.emits_host, Parts.emits_lost, and_self, and_true, true_and, implies_true, forall_const, hP]

end Sys2Proof.Machine
end

