-- ==== Sys2Proof/Laws/FrameRegFile.lean ====
section
/-!
SUPPORT. What the operations of Machine/RegFile.lean write: each leaves every part of the state as it is but those its hypothesis names.
-/

set_option Elab.async false
set_option linter.unusedSimpArgs false
namespace Sys2Proof.Machine

@[simp] theorem State.excCtrlWrite_outside {P : Parts} (s : State) (k : Nat) (v : Word) (hP : P.exc = true ∧ P.regs Reg.DEV_ABSENT_ADDR ∧ P.nodes = true ∧ P.regs Reg.DEV_ABSENT_WR ∧ P.start = true ∧ (∀ n, P.regs (Reg.EXC_CTRL n)) ∧ (∀ n, P.regs (Reg.EXC_STAT n)) ∧ (∀ n, P.regs (Reg.WCH_ST_CFG n))) :
    (State.excCtrlWrite s k v).outside P = s.outside P := by
  unfold State.excCtrlWrite
  simp only [excFire_outside, excCtrlModeWrite_outside, State.setReg_outside, State.push_outside, State.outside_ite, State.outside_bif, State.foldl_outside, State.foldl_outside_snd, State.foldl_outside_fst, ite_self, Bool.cond_self, Parts.emits_recs, Parts.emits_classLost, Parts.emits_host, Parts.emits_lost, and_self, and_true, true_and, implies_true, forall_const, hP]

@[simp] theorem State.hcEnabled_outside {P : Parts} (s : State) (h : Nat) (was : Bool) (hP : P.hc = true) :
    (State.hcEnabled s h was).outside P = s.outside P := by
  unfold State.hcEnabled
  simp only [State.setHc_outside, State.setReg_outside, State.push_outside, State.outside_ite, State.outside_bif, State.foldl_outside, State.foldl_outside_snd, State.foldl_outside_fst, ite_self, Bool.cond_self, Parts.emits_recs, Parts.emits_classLost, Parts.emits_host, Parts.emits_lost, and_self, and_true, true_and, implies_true, forall_const, hP]

@[simp] theorem State.portCfgWritten_outside {P : Parts} (s : State) (p : Nat) (was : Bool) (hP : P.fab = true ∧ P.regs Reg.CLK_READY ∧ P.out = true ∧ (∀ n, P.regs (Reg.FP_STAT n)) ∧ P.port = true) :
    (State.portCfgWritten s p was).outside P = s.outside P := by
  unfold State.portCfgWritten
  simp only [State.requestRate_outside, State.setLink_outside, State.clearLink_outside, State.topologyChange_outside, State.setReg_outside, State.push_outside, State.outside_ite, State.outside_bif, State.foldl_outside, State.foldl_outside_snd, State.foldl_outside_fst, ite_self, Bool.cond_self, Parts.emits_recs, Parts.emits_classLost, Parts.emits_host, Parts.emits_lost, and_self, and_true, true_and, implies_true, forall_const, hP]

@[simp] theorem State.forceWrite_outside {P : Parts} (s : State) (v : Word) (hP : P.emits ∧ P.fab = true ∧ P.regs Reg.FAB_DROP ∧ P.fresh = true ∧ (∀ n, P.regs (Reg.FP_UTIL n)) ∧ P.mode = true ∧ P.regs Reg.HIF_CMD_STAT ∧ P.out = true ∧ P.regs Reg.MODE_STAT ∧ P.port = true ∧ P.regs Reg.PACER_STAT ∧ P.rate = true ∧ P.regs Reg.SAF_CAUSE ∧ P.smon = true ∧ P.regs Reg.SAF_CAUSE_S ∧ P.regs Reg.SAF_CNT ∧ P.regs Reg.SAF_FORCE ∧ P.regs Reg.SAF_STAT) :
    (State.forceWrite s v).outside P = s.outside P := by
  unfold State.forceWrite
  simp only [safForceSafe_outside, safForceAlm_outside, State.setReg_outside, State.push_outside, State.outside_ite, State.outside_bif, State.foldl_outside, State.foldl_outside_snd, State.foldl_outside_fst, ite_self, Bool.cond_self, Parts.emits_recs, Parts.emits_classLost, Parts.emits_host, Parts.emits_lost, and_self, and_true, true_and, implies_true, forall_const, hP]

@[simp] theorem State.logCtrlWrite_outside {P : Parts} (s : State) (who : Reader) (v : Word) (hP : P.ecc = true ∧ P.regs Reg.ECC_LOG_CTRL ∧ P.latch = true ∧ P.regs Reg.ECC_STAT) :
    (State.logCtrlWrite s who v).outside P = s.outside P := by
  unfold State.logCtrlWrite
  simp only [eccLogClr_outside, eccLogSel_outside, State.setReg_outside, State.push_outside, State.outside_ite, State.outside_bif, State.foldl_outside, State.foldl_outside_snd, State.foldl_outside_fst, ite_self, Bool.cond_self, Parts.emits_recs, Parts.emits_classLost, Parts.emits_host, Parts.emits_lost, and_self, and_true, true_and, implies_true, forall_const, hP]

@[simp] theorem State.fabCtrlWrite_outside {P : Parts} (s : State) (v : Word) (hP : P.emits ∧ P.fab = true ∧ P.regs Reg.FAB_STAT ∧ P.out = true ∧ P.regs Reg.FAB_VC ∧ P.port = true ∧ (∀ n, P.regs (Reg.FP_UTIL n))) :
    (State.fabCtrlWrite s v).outside P = s.outside P := by
  unfold State.fabCtrlWrite
  simp only [vcResumed_outside, reelect_outside, State.setReg_outside, State.push_outside, State.outside_ite, State.outside_bif, State.foldl_outside, State.foldl_outside_snd, State.foldl_outside_fst, ite_self, Bool.cond_self, Parts.emits_recs, Parts.emits_classLost, Parts.emits_host, Parts.emits_lost, and_self, and_true, true_and, implies_true, forall_const, hP]

@[simp] theorem State.msixCtrlWritten_outside {P : Parts} (s : State) (i : Nat) (hP : P.out = true ∧ P.regs Reg.MSIX_PBA) :
    (State.msixCtrlWritten s i).outside P = s.outside P := by
  unfold State.msixCtrlWritten
  simp only [State.setBit_outside, State.put_outside, State.setReg_outside, State.push_outside, State.outside_ite, State.outside_bif, State.foldl_outside, State.foldl_outside_snd, State.foldl_outside_fst, ite_self, Bool.cond_self, Parts.emits_recs, Parts.emits_classLost, Parts.emits_host, Parts.emits_lost, and_self, and_true, true_and, implies_true, forall_const, hP]

@[simp] theorem State.absentCountWrite_outside {P : Parts} (s : State) (v : Word) (hP : P.regs Reg.DEV_ABSENT_WR) :
    (State.absentCountWrite s v).outside P = s.outside P := by
  unfold State.absentCountWrite
  simp only [State.setReg_outside, State.push_outside, State.outside_ite, State.outside_bif, State.foldl_outside, State.foldl_outside_snd, State.foldl_outside_fst, ite_self, Bool.cond_self, Parts.emits_recs, Parts.emits_classLost, Parts.emits_host, Parts.emits_lost, and_self, and_true, true_and, implies_true, forall_const, hP]

@[simp] theorem State.reachAt_outside {P : Parts} (s : State) (off : Nat) (hP : P.emits ∧ P.cells = true ∧ P.regs Reg.CLK_GATE_OPEN ∧ P.chan = true ∧ P.regs Reg.CLK_READY ∧ P.clk = true ∧ P.regs Reg.CLK_STAT ∧ P.clu = true ∧ P.regs Reg.CLK_WAKE_ACC ∧ P.drc = true ∧ (∀ n, P.regs (Reg.CL_STAT n)) ∧ P.ecc = true ∧ P.regs Reg.DRC_CATCHUP_CNT ∧ P.fab = true ∧ P.regs Reg.DRC_SR_TIME ∧ P.out = true ∧ P.regs Reg.DRC_STAT ∧ P.port = true ∧ P.regs Reg.ECC_CE_CNT0 ∧ P.rate = true ∧ P.regs Reg.ECC_CE_CNT1 ∧ P.streams = true ∧ P.regs Reg.ECC_INJ ∧ P.regs Reg.ECC_LOG_CTRL ∧ P.regs Reg.ECC_POISON_CNT ∧ (∀ n, P.regs (Reg.ECC_REMAP n)) ∧ P.regs Reg.ECC_RMW_CNT ∧ P.regs Reg.ECC_STAT ∧ P.regs Reg.ECC_UE_CNT ∧ (∀ n, P.regs (Reg.FP_STAT n)) ∧ P.regs Reg.MODE_STAT) :
    (State.reachAt s off).outside P = s.outside P := by
  unfold State.reachAt
  repeat' split
  all_goals first | rfl | simp only [State.reach_outside, State.setReg_outside, State.push_outside, State.outside_ite, State.outside_bif, State.foldl_outside, State.foldl_outside_snd, State.foldl_outside_fst, ite_self, Bool.cond_self, Parts.emits_recs, Parts.emits_classLost, Parts.emits_host, Parts.emits_lost, and_self, and_true, true_and, implies_true, forall_const, hP]

@[simp] theorem State.pairLow_outside {P : Parts} (s : State) (who : Reader) (lo : Nat) (t : Nat) (hP : P.latch = true) :
    (State.pairLow s who lo t).2.outside P = s.outside P := by
  unfold State.pairLow
  simp only [State.setLatch_outside, State.setReg_outside, State.push_outside, State.outside_ite, State.outside_bif, State.foldl_outside, State.foldl_outside_snd, State.foldl_outside_fst, ite_self, Bool.cond_self, Parts.emits_recs, Parts.emits_classLost, Parts.emits_host, Parts.emits_lost, and_self, and_true, true_and, implies_true, forall_const, hP]

@[simp] theorem State.showReg_outside {P : Parts} (s : State) (who : Reader) (k : UnitKind) (i rel off : Nat) (hP : P.fresh = true ∧ P.regs Reg.CAL_SEL ∧ P.latch = true ∧ P.regs Reg.CLK_GATE_OPEN ∧ P.port = true ∧ P.regs Reg.CLK_STAT ∧ P.res = true ∧ (∀ n, P.regs (Reg.DRC_PORT_STAT n)) ∧ P.wm = true ∧ P.regs Reg.DRC_STAT ∧ P.regs Reg.ECC_LOG_CTRL ∧ P.regs Reg.ENG_NODE_SEL ∧ P.regs Reg.FAB_TIME_LO ∧ (∀ n, P.regs (Reg.FP_UTIL n)) ∧ P.regs Reg.HIF_TYPE_SEL ∧ P.regs Reg.STR_SEL) :
    (State.showReg s who k i rel off).2.outside P = s.outside P := by
  unfold State.showReg
  repeat' split
  all_goals first | rfl | simp only [State.setFld_outside, State.freeNat_outside, State.rollUtil_outside, State.readResHi_outside, State.readResLo_outside, State.showPorts_outside, State.drcStatShown_outside, State.clkStatShown_outside, State.readWmTimeLo_outside, State.pairLow_outside, State.setReg_outside, State.push_outside, State.outside_ite, State.outside_bif, State.foldl_outside, State.foldl_outside_snd, State.foldl_outside_fst, ite_self, Bool.cond_self, Parts.emits_recs, Parts.emits_classLost, Parts.emits_host, Parts.emits_lost, and_self, and_true, true_and, implies_true, forall_const, hP]

@[simp] theorem State.readReg_outside {P : Parts} (s : State) (who : Reader) (off : Nat) (hPoff : P.regs off) (hP : P.emits ∧ P.cells = true ∧ P.regs Reg.CAL_SEL ∧ P.chan = true ∧ P.regs Reg.CLK_GATE_OPEN ∧ P.clk = true ∧ P.regs Reg.CLK_READY ∧ P.clu = true ∧ P.regs Reg.CLK_STAT ∧ P.drc = true ∧ P.regs Reg.CLK_WAKE_ACC ∧ P.ecc = true ∧ (∀ n, P.regs (Reg.CL_STAT n)) ∧ P.fab = true ∧ P.regs Reg.DRC_CATCHUP_CNT ∧ P.fresh = true ∧ (∀ n, P.regs (Reg.DRC_PORT_STAT n)) ∧ P.latch = true ∧ P.regs Reg.DRC_SR_TIME ∧ P.out = true ∧ P.regs Reg.DRC_STAT ∧ P.port = true ∧ P.regs Reg.ECC_CE_CNT0 ∧ P.rate = true ∧ P.regs Reg.ECC_CE_CNT1 ∧ P.res = true ∧ P.regs Reg.ECC_INJ ∧ P.streams = true ∧ P.regs Reg.ECC_LOG_CTRL ∧ P.wm = true ∧ P.regs Reg.ECC_POISON_CNT ∧ (∀ n, P.regs (Reg.ECC_REMAP n)) ∧ P.regs Reg.ECC_RMW_CNT ∧ P.regs Reg.ECC_STAT ∧ P.regs Reg.ECC_UE_CNT ∧ P.regs Reg.ENG_NODE_SEL ∧ P.regs Reg.FAB_TIME_LO ∧ (∀ n, P.regs (Reg.FP_STAT n)) ∧ (∀ n, P.regs (Reg.FP_UTIL n)) ∧ P.regs Reg.HIF_TYPE_SEL ∧ P.regs Reg.MODE_STAT ∧ P.regs Reg.STR_SEL) :
    (State.readReg s who off).2.outside P = s.outside P := by
  unfold State.readReg
  simp only [State.reachAt_outside, State.showReg_outside, State.setReg_outside, State.push_outside, State.outside_ite, State.outside_bif, State.foldl_outside, State.foldl_outside_snd, State.foldl_outside_fst, ite_self, Bool.cond_self, Parts.emits_recs, Parts.emits_classLost, Parts.emits_host, Parts.emits_lost, and_self, and_true, true_and, implies_true, forall_const, hP, hPoff]
  repeat' (first | rfl | (split <;> try simp only [State.reachAt_outside, State.showReg_outside, State.setReg_outside, State.push_outside, State.outside_ite, State.outside_bif, State.foldl_outside, State.foldl_outside_snd, State.foldl_outside_fst, ite_self, Bool.cond_self, Parts.emits_recs, Parts.emits_classLost, Parts.emits_host, Parts.emits_lost, and_self, and_true, true_and, implies_true, forall_const, hP, hPoff]))

@[simp] theorem State.readAccess_outside {P : Parts} (s : State) (who : Reader) (off size : Nat) (hPoff : P.regs off ∧ P.regs (off + 4) ∧ P.regs (off / 4 * 4)) (hP : P.emits ∧ P.cells = true ∧ P.regs Reg.CAL_SEL ∧ P.chan = true ∧ P.regs Reg.CLK_GATE_OPEN ∧ P.clk = true ∧ P.regs Reg.CLK_READY ∧ P.clu = true ∧ P.regs Reg.CLK_STAT ∧ P.drc = true ∧ P.regs Reg.CLK_WAKE_ACC ∧ P.ecc = true ∧ (∀ n, P.regs (Reg.CL_STAT n)) ∧ P.fab = true ∧ P.regs Reg.DRC_CATCHUP_CNT ∧ P.fresh = true ∧ (∀ n, P.regs (Reg.DRC_PORT_STAT n)) ∧ P.latch = true ∧ P.regs Reg.DRC_SR_TIME ∧ P.out = true ∧ P.regs Reg.DRC_STAT ∧ P.port = true ∧ P.regs Reg.ECC_CE_CNT0 ∧ P.rate = true ∧ P.regs Reg.ECC_CE_CNT1 ∧ P.res = true ∧ P.regs Reg.ECC_INJ ∧ P.streams = true ∧ P.regs Reg.ECC_LOG_CTRL ∧ P.wm = true ∧ P.regs Reg.ECC_POISON_CNT ∧ (∀ n, P.regs (Reg.ECC_REMAP n)) ∧ P.regs Reg.ECC_RMW_CNT ∧ P.regs Reg.ECC_STAT ∧ P.regs Reg.ECC_UE_CNT ∧ P.regs Reg.ENG_NODE_SEL ∧ P.regs Reg.FAB_TIME_LO ∧ (∀ n, P.regs (Reg.FP_STAT n)) ∧ (∀ n, P.regs (Reg.FP_UTIL n)) ∧ P.regs Reg.HIF_TYPE_SEL ∧ P.regs Reg.MODE_STAT ∧ P.regs Reg.STR_SEL) :
    (State.readAccess s who off size).2.outside P = s.outside P := by
  unfold State.readAccess
  repeat' split
  all_goals first | rfl | simp only [State.freeNat_outside, State.readReg_outside, State.setReg_outside, State.push_outside, State.outside_ite, State.outside_bif, State.foldl_outside, State.foldl_outside_snd, State.foldl_outside_fst, ite_self, Bool.cond_self, Parts.emits_recs, Parts.emits_classLost, Parts.emits_host, Parts.emits_lost, and_self, and_true, true_and, implies_true, forall_const, hP, hPoff]

@[simp] theorem readClear_outside {P : Parts} (s : State) (who : Reader) (off size : Nat) (hPoff : P.regs off ∧ P.regs (off + 4) ∧ P.regs (off / 4 * 4)) (hP : P.emits ∧ P.cells = true ∧ P.regs Reg.CAL_SEL ∧ P.chan = true ∧ P.regs Reg.CLK_GATE_OPEN ∧ P.clk = true ∧ P.regs Reg.CLK_READY ∧ P.clu = true ∧ P.regs Reg.CLK_STAT ∧ P.drc = true ∧ P.regs Reg.CLK_WAKE_ACC ∧ P.ecc = true ∧ (∀ n, P.regs (Reg.CL_STAT n)) ∧ P.fab = true ∧ P.regs Reg.DRC_CATCHUP_CNT ∧ P.fresh = true ∧ (∀ n, P.regs (Reg.DRC_PORT_STAT n)) ∧ P.latch = true ∧ P.regs Reg.DRC_SR_TIME ∧ P.out = true ∧ P.regs Reg.DRC_STAT ∧ P.port = true ∧ P.regs Reg.ECC_CE_CNT0 ∧ P.rate = true ∧ P.regs Reg.ECC_CE_CNT1 ∧ P.res = true ∧ P.regs Reg.ECC_INJ ∧ P.streams = true ∧ P.regs Reg.ECC_LOG_CTRL ∧ P.wm = true ∧ P.regs Reg.ECC_POISON_CNT ∧ (∀ n, P.regs (Reg.ECC_REMAP n)) ∧ P.regs Reg.ECC_RMW_CNT ∧ P.regs Reg.ECC_STAT ∧ P.regs Reg.ECC_UE_CNT ∧ P.regs Reg.ENG_NODE_SEL ∧ P.regs Reg.FAB_TIME_LO ∧ (∀ n, P.regs (Reg.FP_STAT n)) ∧ (∀ n, P.regs (Reg.FP_UTIL n)) ∧ P.regs Reg.HIF_TYPE_SEL ∧ P.regs Reg.MODE_STAT ∧ P.regs Reg.STR_SEL) :
    (readClear s who off size).outside P = s.outside P := by
  unfold readClear
  simp only [State.returns_outside, State.readAccess_outside, State.setReg_outside, State.push_outside, State.outside_ite, State.outside_bif, State.foldl_outside, State.foldl_outside_snd, State.foldl_outside_fst, ite_self, Bool.cond_self, Parts.emits_recs, Parts.emits_classLost, Parts.emits_host, Parts.emits_lost, and_self, and_true, true_and, implies_true, forall_const, hP, hPoff]

@[simp] theorem absentUnitWrite_outside {P : Parts} (s : State) (who : Reader) (off : Nat) (hP : P.regs Reg.DEV_ABSENT_ADDR ∧ P.regs Reg.DEV_ABSENT_WR) :
    (absentUnitWrite s who off).outside P = s.outside P := by
  unfold absentUnitWrite
  simp only [State.absentWrite_outside, State.setReg_outside, State.push_outside, State.outside_ite, State.outside_bif, State.foldl_outside, State.foldl_outside_snd, State.foldl_outside_fst, ite_self, Bool.cond_self, Parts.emits_recs, Parts.emits_classLost, Parts.emits_host, Parts.emits_lost, and_self, and_true, true_and, implies_true, forall_const, hP]

@[simp] theorem devAbsentWrClear_outside {P : Parts} (s : State) (also : Option (Reader × Nat)) (hP : P.regs Reg.DEV_ABSENT_ADDR ∧ P.regs Reg.DEV_ABSENT_WR) :
    (devAbsentWrClear s also).outside P = s.outside P := by
  unfold devAbsentWrClear
  repeat' split
  all_goals first | rfl | simp only [absentUnitWrite_outside, State.setReg_outside, State.push_outside, State.outside_ite, State.outside_bif, State.foldl_outside, State.foldl_outside_snd, State.foldl_outside_fst, ite_self, Bool.cond_self, Parts.emits_recs, Parts.emits_classLost, Parts.emits_host, Parts.emits_lost, and_self, and_true, true_and, implies_true, forall_const, hP]

end Sys2Proof.Machine
end

