-- ==== Sys2Proof/Laws/FrameStreams.lean ====
section
/-!
SUPPORT. What the operations of Machine/Streams.lean write: each leaves every part of the state as it is but those its hypothesis names.
-/

set_option Elab.async false
set_option linter.unusedSimpArgs false
namespace Sys2Proof.Machine

@[simp] theorem State.showStreams_outside {P : Parts} (s : State) (hP : P.regs Reg.STR_SEGS ∧ P.regs Reg.STR_STAGE ∧ P.regs Reg.STR_STAT) :
    (State.showStreams s).outside P = s.outside P := by
  unfold State.showStreams
  simp only [State.setFld_outside, State.showStage_outside, State.setReg_outside, State.push_outside, State.outside_ite, State.outside_bif, State.foldl_outside, State.foldl_outside_snd, State.foldl_outside_fst, ite_self, Bool.cond_self, Parts.emits_recs, Parts.emits_classLost, Parts.emits_host, Parts.emits_lost, and_self, and_true, true_and, implies_true, forall_const, hP]

@[simp] theorem State.openStream_outside {P : Parts} (s : State) (p : OpenParams) (hP : P.streams = true ∧ P.regs Reg.STR_SEGS ∧ P.regs Reg.STR_STAGE ∧ P.regs Reg.STR_STAT) :
    (State.openStream s p).outside P = s.outside P := by
  unfold State.openStream
  simp only [State.setStream_outside, State.showStreams_outside, State.setReg_outside, State.push_outside, State.outside_ite, State.outside_bif, State.foldl_outside, State.foldl_outside_snd, State.foldl_outside_fst, ite_self, Bool.cond_self, Parts.emits_recs, Parts.emits_classLost, Parts.emits_host, Parts.emits_lost, and_self, and_true, true_and, implies_true, forall_const, hP]

@[simp] theorem streamOpen_outside {P : Parts} (s : State) (src : CmdSrc) (tag : Nat) (p : OpenParams) (hP : P.fab = true ∧ P.regs Reg.FAB_DROP ∧ P.fresh = true ∧ (∀ n, P.regs (Reg.FP_UTIL n)) ∧ P.host = true ∧ P.regs Reg.HIF_CMD_STAT ∧ P.out = true ∧ P.regs Reg.STR_SEGS ∧ P.port = true ∧ P.regs Reg.STR_STAGE ∧ P.streams = true ∧ P.regs Reg.STR_STAT) :
    (streamOpen s src tag p).outside P = s.outside P := by
  unfold streamOpen
  simp only [State.settle_outside, State.openStream_outside, State.setReg_outside, State.push_outside, State.outside_ite, State.outside_bif, State.foldl_outside, State.foldl_outside_snd, State.foldl_outside_fst, ite_self, Bool.cond_self, Parts.emits_recs, Parts.emits_classLost, Parts.emits_host, Parts.emits_lost, and_self, and_true, true_and, implies_true, forall_const, hP]

@[simp] theorem State.finishCapture_outside {P : Parts} (s : State) (c : Nat) (hP : P.streams = true) :
    (State.finishCapture s c).outside P = s.outside P := by
  unfold State.finishCapture
  simp only [State.setStream_outside, State.setReg_outside, State.push_outside, State.outside_ite, State.outside_bif, State.foldl_outside, State.foldl_outside_snd, State.foldl_outside_fst, ite_self, Bool.cond_self, Parts.emits_recs, Parts.emits_classLost, Parts.emits_host, Parts.emits_lost, and_self, and_true, true_and, implies_true, forall_const, hP]
  repeat' (first | rfl | (split <;> try simp only [State.setStream_outside, State.setReg_outside, State.push_outside, State.outside_ite, State.outside_bif, State.foldl_outside, State.foldl_outside_snd, State.foldl_outside_fst, ite_self, Bool.cond_self, Parts.emits_recs, Parts.emits_classLost, Parts.emits_host, Parts.emits_lost, and_self, and_true, true_and, implies_true, forall_const, hP]))

@[simp] theorem State.settleKept_outside {P : Parts} (s : State) (sid : Nat) (hP : P.streams = true) :
    (State.settleKept s sid).outside P = s.outside P := by
  unfold State.settleKept
  simp only [State.setStream_outside, State.setReg_outside, State.push_outside, State.outside_ite, State.outside_bif, State.foldl_outside, State.foldl_outside_snd, State.foldl_outside_fst, ite_self, Bool.cond_self, Parts.emits_recs, Parts.emits_classLost, Parts.emits_host, Parts.emits_lost, and_self, and_true, true_and, implies_true, forall_const, hP]

@[simp] theorem State.emitDone_outside {P : Parts} (s : State) (c : Nat) (k : Cap) (hP : P.emits) :
    (State.emitDone s c k).outside P = s.outside P := by
  unfold State.emitDone
  simp only [State.emit_outside, State.setReg_outside, State.push_outside, State.outside_ite, State.outside_bif, State.foldl_outside, State.foldl_outside_snd, State.foldl_outside_fst, ite_self, Bool.cond_self, Parts.emits_recs, Parts.emits_classLost, Parts.emits_host, Parts.emits_lost, and_self, and_true, true_and, implies_true, forall_const, hP]

@[simp] theorem captureDone_outside {P : Parts} (s : State) (c : Nat) (hP : P.emits ∧ P.streams = true ∧ P.regs Reg.STR_SEGS ∧ P.regs Reg.STR_STAGE ∧ P.regs Reg.STR_STAT) :
    (captureDone s c).outside P = s.outside P := by
  unfold captureDone
  repeat' (first | rfl | (simp (maxDischargeDepth := 6) only [State.setStream_outside, State.showStreams_outside, State.settleKept_outside, State.emitDone_outside, State.setReg_outside, State.push_outside, State.outside_ite, State.outside_bif, State.foldl_outside, State.foldl_outside_snd, State.foldl_outside_fst, ite_self, Bool.cond_self, Parts.emits_recs, Parts.emits_classLost, Parts.emits_host, Parts.emits_lost, and_self, and_true, true_and, implies_true, forall_const, hP]; done) | (refine (State.foldl_outside (fun s x => ?_) _ _).trans ?_) | (refine (State.foldl_outside_snd (fun s x => ?_) _ _).trans ?_) | (refine (State.foldl_outside_fst (fun s x => ?_) _ _).trans ?_) | split | simp (maxDischargeDepth := 6) only [State.setStream_outside, State.showStreams_outside, State.settleKept_outside, State.emitDone_outside, State.setReg_outside, State.push_outside, State.outside_ite, State.outside_bif, State.foldl_outside, State.foldl_outside_snd, State.foldl_outside_fst, ite_self, Bool.cond_self, Parts.emits_recs, Parts.emits_classLost, Parts.emits_host, Parts.emits_lost, and_self, and_true, true_and, implies_true, forall_const, hP])

@[simp] theorem State.freeStream_outside {P : Parts} (s : State) (sid : Nat) (hP : P.emits ∧ P.streams = true ∧ P.regs Reg.STR_SEGS ∧ P.regs Reg.STR_STAGE ∧ P.regs Reg.STR_STAT) :
    (State.freeStream s sid).outside P = s.outside P := by
  unfold State.freeStream
  dsimp only
  rw [State.showStreams_outside _ (by simp only [hP, and_self, implies_true])]
  refine (State.foldl_outside (fun s c => captureDone_outside s c (by simp only [hP, and_self, implies_true])) _ _).trans ?_
  rw [State.setStream_outside _ _ _ (by simp only [hP, and_self, implies_true])]
  refine State.foldl_outside (fun s c => ?_) _ _
  have h := State.finishCapture_outside (P := P) s c (by simp only [hP, and_self, implies_true])
  split
  · exact (State.setStream_outside _ _ _ (by simp only [hP, and_self, implies_true])).trans h
  · exact h

@[simp] theorem State.closeIfDrained_outside {P : Parts} (s : State) (sid : Nat) (hP : P.emits ∧ P.streams = true ∧ P.regs Reg.STR_SEGS ∧ P.regs Reg.STR_STAGE ∧ P.regs Reg.STR_STAT) :
    (State.closeIfDrained s sid).outside P = s.outside P := by
  unfold State.closeIfDrained
  simp only [State.showStreams_outside, State.freeStream_outside, State.setReg_outside, State.push_outside, State.outside_ite, State.outside_bif, State.foldl_outside, State.foldl_outside_snd, State.foldl_outside_fst, ite_self, Bool.cond_self, Parts.emits_recs, Parts.emits_classLost, Parts.emits_host, Parts.emits_lost, and_self, and_true, true_and, implies_true, forall_const, hP]

@[simp] theorem State.truncateCapture_outside {P : Parts} (s : State) (c : Nat) (t0 : Time) (hP : P.streams = true) :
    (State.truncateCapture s c t0).outside P = s.outside P := by
  unfold State.truncateCapture
  simp only [State.setStream_outside, State.setReg_outside, State.push_outside, State.outside_ite, State.outside_bif, State.foldl_outside, State.foldl_outside_snd, State.foldl_outside_fst, ite_self, Bool.cond_self, Parts.emits_recs, Parts.emits_classLost, Parts.emits_host, Parts.emits_lost, and_self, and_true, true_and, implies_true, forall_const, hP]
  repeat' (first | rfl | (split <;> try simp only [State.setStream_outside, State.setReg_outside, State.push_outside, State.outside_ite, State.outside_bif, State.foldl_outside, State.foldl_outside_snd, State.foldl_outside_fst, ite_self, Bool.cond_self, Parts.emits_recs, Parts.emits_classLost, Parts.emits_host, Parts.emits_lost, and_self, and_true, true_and, implies_true, forall_const, hP]))

@[simp] theorem State.cutCapture_outside {P : Parts} (s : State) (c : Nat) (hP : P.emits ∧ P.streams = true) :
    (State.cutCapture s c).outside P = s.outside P := by
  unfold State.cutCapture
  simp only [State.emit_outside, State.truncateCapture_outside, State.setReg_outside, State.push_outside, State.outside_ite, State.outside_bif, State.foldl_outside, State.foldl_outside_snd, State.foldl_outside_fst, ite_self, Bool.cond_self, Parts.emits_recs, Parts.emits_classLost, Parts.emits_host, Parts.emits_lost, and_self, and_true, true_and, implies_true, forall_const, hP]
  repeat' (first | rfl | (split <;> try simp only [State.emit_outside, State.truncateCapture_outside, State.setReg_outside, State.push_outside, State.outside_ite, State.outside_bif, State.foldl_outside, State.foldl_outside_snd, State.foldl_outside_fst, ite_self, Bool.cond_self, Parts.emits_recs, Parts.emits_classLost, Parts.emits_host, Parts.emits_lost, and_self, and_true, true_and, implies_true, forall_const, hP]))

@[simp] theorem captureTruncated_outside {P : Parts} (s : State) (c : Nat) (t : Time) (hP : P.emits ∧ P.clk = true ∧ P.regs Reg.CLK_HOLD_CNT ∧ P.fab = true ∧ P.regs Reg.CLK_READY ∧ P.out = true ∧ P.regs Reg.CLK_SRC ∧ P.port = true ∧ P.regs Reg.CLK_STAT ∧ P.streams = true ∧ P.regs Reg.FAB_STAT ∧ (∀ n, P.regs (Reg.FP_STAT n))) :
    (captureTruncated s c t).outside P = s.outside P := by
  unfold captureTruncated
  simp only [lost_outside, State.cutCapture_outside, State.setReg_outside, State.push_outside, State.outside_ite, State.outside_bif, State.foldl_outside, State.foldl_outside_snd, State.foldl_outside_fst, ite_self, Bool.cond_self, Parts.emits_recs, Parts.emits_classLost, Parts.emits_host, Parts.emits_lost, and_self, and_true, true_and, implies_true, forall_const, hP]
  repeat' (first | rfl | (split <;> try simp only [lost_outside, State.cutCapture_outside, State.setReg_outside, State.push_outside, State.outside_ite, State.outside_bif, State.foldl_outside, State.foldl_outside_snd, State.foldl_outside_fst, ite_self, Bool.cond_self, Parts.emits_recs, Parts.emits_classLost, Parts.emits_host, Parts.emits_lost, and_self, and_true, true_and, implies_true, forall_const, hP]))

@[simp] theorem State.closeOne_outside {P : Parts} (s : State) (g : Nat) (hP : P.emits ∧ P.streams = true) :
    (State.closeOne s g).outside P = s.outside P := by
  unfold State.closeOne
  repeat' split
  all_goals first | rfl | simp only [State.setStream_outside, State.settleKept_outside, State.emitDone_outside, State.truncateCapture_outside, State.setReg_outside, State.push_outside, State.outside_ite, State.outside_bif, State.foldl_outside, State.foldl_outside_snd, State.foldl_outside_fst, ite_self, Bool.cond_self, Parts.emits_recs, Parts.emits_classLost, Parts.emits_host, Parts.emits_lost, and_self, and_true, true_and, implies_true, forall_const, hP]

@[simp] theorem State.closeCapture_outside {P : Parts} (s : State) (c : Nat) (hP : P.emits ∧ P.streams = true ∧ P.regs Reg.STR_SEGS ∧ P.regs Reg.STR_STAGE ∧ P.regs Reg.STR_STAT) :
    (State.closeCapture s c).outside P = s.outside P := by
  unfold State.closeCapture
  repeat' split
  all_goals first | rfl | simp only [State.showStreams_outside, State.closeOne_outside, State.setReg_outside, State.push_outside, State.outside_ite, State.outside_bif, State.foldl_outside, State.foldl_outside_snd, State.foldl_outside_fst, ite_self, Bool.cond_self, Parts.emits_recs, Parts.emits_classLost, Parts.emits_host, Parts.emits_lost, and_self, and_true, true_and, implies_true, forall_const, hP]

@[simp] theorem State.captureValue_outside {P : Parts} (s : State) (c : Nat) (b : Block) (i code : Nat) (hP : P.streams = true) :
    (State.captureValue s c b i code).outside P = s.outside P := by
  unfold State.captureValue
  simp only [State.setStream_outside, State.finishCapture_outside, State.setReg_outside, State.push_outside, State.outside_ite, State.outside_bif, State.foldl_outside, State.foldl_outside_snd, State.foldl_outside_fst, ite_self, Bool.cond_self, Parts.emits_recs, Parts.emits_classLost, Parts.emits_host, Parts.emits_lost, and_self, and_true, true_and, implies_true, forall_const, hP]
  repeat' (first | rfl | (split <;> try simp only [State.setStream_outside, State.finishCapture_outside, State.setReg_outside, State.push_outside, State.outside_ite, State.outside_bif, State.foldl_outside, State.foldl_outside_snd, State.foldl_outside_fst, ite_self, Bool.cond_self, Parts.emits_recs, Parts.emits_classLost, Parts.emits_host, Parts.emits_lost, and_self, and_true, true_and, implies_true, forall_const, hP]))

@[simp] theorem State.captureGap_outside {P : Parts} (s : State) (c : Nat) (b : Block) (hP : P.streams = true) :
    (State.captureGap s c b).outside P = s.outside P := by
  unfold State.captureGap
  simp only [State.setStream_outside, State.finishCapture_outside, State.setReg_outside, State.push_outside, State.outside_ite, State.outside_bif, State.foldl_outside, State.foldl_outside_snd, State.foldl_outside_fst, ite_self, Bool.cond_self, Parts.emits_recs, Parts.emits_classLost, Parts.emits_host, Parts.emits_lost, and_self, and_true, true_and, implies_true, forall_const, hP]
  repeat' (first | rfl | (split <;> try simp only [State.setStream_outside, State.finishCapture_outside, State.setReg_outside, State.push_outside, State.outside_ite, State.outside_bif, State.foldl_outside, State.foldl_outside_snd, State.foldl_outside_fst, ite_self, Bool.cond_self, Parts.emits_recs, Parts.emits_classLost, Parts.emits_host, Parts.emits_lost, and_self, and_true, true_and, implies_true, forall_const, hP]))

@[simp] theorem State.captureBlock_outside {P : Parts} (s : State) (c : Nat) (b : Block) (hP : P.streams = true) :
    (State.captureBlock s c b).outside P = s.outside P := by
  unfold State.captureBlock
  simp only [State.finishCapture_outside, State.captureValue_outside, State.captureGap_outside, State.setReg_outside, State.push_outside, State.outside_ite, State.outside_bif, State.foldl_outside, State.foldl_outside_snd, State.foldl_outside_fst, ite_self, Bool.cond_self, Parts.emits_recs, Parts.emits_classLost, Parts.emits_host, Parts.emits_lost, and_self, and_true, true_and, implies_true, forall_const, hP]

@[simp] theorem ageMsExpiry_outside {P : Parts} (s : State) (sid : Nat) (hP : P.streams = true ∧ P.regs Reg.STR_STAGE) :
    (ageMsExpiry s sid).outside P = s.outside P := by
  unfold ageMsExpiry
  simp only [State.setStream_outside, State.showStage_outside, State.setReg_outside, State.push_outside, State.outside_ite, State.outside_bif, State.foldl_outside, State.foldl_outside_snd, State.foldl_outside_fst, ite_self, Bool.cond_self, Parts.emits_recs, Parts.emits_classLost, Parts.emits_host, Parts.emits_lost, and_self, and_true, true_and, implies_true, forall_const, hP]
  repeat' (first | rfl | (split <;> try simp only [State.setStream_outside, State.showStage_outside, State.setReg_outside, State.push_outside, State.outside_ite, State.outside_bif, State.foldl_outside, State.foldl_outside_snd, State.foldl_outside_fst, ite_self, Bool.cond_self, Parts.emits_recs, Parts.emits_classLost, Parts.emits_host, Parts.emits_lost, and_self, and_true, true_and, implies_true, forall_const, hP]))

@[simp] theorem State.dropTx_outside {P : Parts} (s : State) (sid : Nat) (hP : P.fab = true ∧ P.regs Reg.FAB_DROP ∧ P.out = true ∧ (∀ n, P.regs (Reg.FP_UTIL n)) ∧ P.port = true ∧ P.streams = true) :
    (State.dropTx s sid).outside P = s.outside P := by
  unfold State.dropTx
  simp only [State.setStream_outside, State.dropRequest_outside, State.setReg_outside, State.push_outside, State.outside_ite, State.outside_bif, State.foldl_outside, State.foldl_outside_snd, State.foldl_outside_fst, ite_self, Bool.cond_self, Parts.emits_recs, Parts.emits_classLost, Parts.emits_host, Parts.emits_lost, and_self, and_true, true_and, implies_true, forall_const, hP]

@[simp] theorem State.lose_outside {P : Parts} (s : State) (sid : Nat) (b : Block) (hP : P.fab = true ∧ P.regs Reg.FAB_DROP ∧ P.out = true ∧ (∀ n, P.regs (Reg.FP_UTIL n)) ∧ P.port = true ∧ P.streams = true) :
    (State.lose s sid b).outside P = s.outside P := by
  unfold State.lose
  simp only [State.count_outside, State.setStream_outside, State.dropTx_outside, State.setReg_outside, State.push_outside, State.outside_ite, State.outside_bif, State.foldl_outside, State.foldl_outside_snd, State.foldl_outside_fst, ite_self, Bool.cond_self, Parts.emits_recs, Parts.emits_classLost, Parts.emits_host, Parts.emits_lost, and_self, and_true, true_and, implies_true, forall_const, hP]
  repeat' (first | rfl | (split <;> try simp only [State.count_outside, State.setStream_outside, State.dropTx_outside, State.setReg_outside, State.push_outside, State.outside_ite, State.outside_bif, State.foldl_outside, State.foldl_outside_snd, State.foldl_outside_fst, ite_self, Bool.cond_self, Parts.emits_recs, Parts.emits_classLost, Parts.emits_host, Parts.emits_lost, and_self, and_true, true_and, implies_true, forall_const, hP]))

@[simp] theorem State.overwriteOldest_outside {P : Parts} (s : State) (sid : Nat) (hP : P.emits ∧ P.clk = true ∧ P.regs Reg.CLK_HOLD_CNT ∧ P.fab = true ∧ P.regs Reg.CLK_READY ∧ P.out = true ∧ P.regs Reg.CLK_SRC ∧ P.port = true ∧ P.regs Reg.CLK_STAT ∧ P.rate = true ∧ P.regs Reg.FAB_DROP ∧ P.streams = true ∧ P.regs Reg.FAB_STAT ∧ (∀ n, P.regs (Reg.FP_STAT n)) ∧ (∀ n, P.regs (Reg.FP_UTIL n)) ∧ P.regs Reg.STR_OVR_CNT ∧ P.regs Reg.STR_STAT) :
    (State.overwriteOldest s sid).outside P = s.outside P := by
  unfold State.overwriteOldest
  simp only [State.raise_outside, State.count_outside, State.emitLimited_outside, State.setStream_outside, lost_outside, State.lose_outside, State.setReg_outside, State.push_outside, State.outside_ite, State.outside_bif, State.foldl_outside, State.foldl_outside_snd, State.foldl_outside_fst, ite_self, Bool.cond_self, Parts.emits_recs, Parts.emits_classLost, Parts.emits_host, Parts.emits_lost, and_self, and_true, true_and, implies_true, forall_const, hP]
  repeat' (first | rfl | (split <;> try simp only [State.raise_outside, State.count_outside, State.emitLimited_outside, State.setStream_outside, lost_outside, State.lose_outside, State.setReg_outside, State.push_outside, State.outside_ite, State.outside_bif, State.foldl_outside, State.foldl_outside_snd, State.foldl_outside_fst, ite_self, Bool.cond_self, Parts.emits_recs, Parts.emits_classLost, Parts.emits_host, Parts.emits_lost, and_self, and_true, true_and, implies_true, forall_const, hP]))

@[simp] theorem State.makeRoom_outside {P : Parts} (s : State) (sid need : Nat) (fuel : Nat) (hP : P.emits ∧ P.clk = true ∧ P.regs Reg.CLK_HOLD_CNT ∧ P.fab = true ∧ P.regs Reg.CLK_READY ∧ P.out = true ∧ P.regs Reg.CLK_SRC ∧ P.port = true ∧ P.regs Reg.CLK_STAT ∧ P.rate = true ∧ P.regs Reg.FAB_DROP ∧ P.streams = true ∧ P.regs Reg.FAB_STAT ∧ (∀ n, P.regs (Reg.FP_STAT n)) ∧ (∀ n, P.regs (Reg.FP_UTIL n)) ∧ P.regs Reg.STR_OVR_CNT ∧ P.regs Reg.STR_STAT) :
    (State.makeRoom s sid need fuel).outside P = s.outside P := by
  induction fuel generalizing s with
  | zero => rfl
  | succ fuel ih =>
    simp only [State.makeRoom, State.overwriteOldest_outside, State.setReg_outside, State.push_outside, State.outside_ite, State.outside_bif, State.foldl_outside, State.foldl_outside_snd, State.foldl_outside_fst, ite_self, Bool.cond_self, Parts.emits_recs, Parts.emits_classLost, Parts.emits_host, Parts.emits_lost, and_self, and_true, true_and, implies_true, forall_const, hP, ih]

@[simp] theorem State.detach_outside {P : Parts} (s : State) (sid slot : Nat) (hits : Nat → Bool) (hP : P.streams = true) :
    (State.detach s sid slot hits).outside P = s.outside P := by
  unfold State.detach
  simp only [State.setStream_outside, State.outside_pins, State.setReg_outside, State.push_outside, State.outside_ite, State.outside_bif, State.foldl_outside, State.foldl_outside_snd, State.foldl_outside_fst, ite_self, Bool.cond_self, Parts.emits_recs, Parts.emits_classLost, Parts.emits_host, Parts.emits_lost, and_self, and_true, true_and, implies_true, forall_const, hP]
  repeat' (first | rfl | (split <;> try simp only [State.setStream_outside, State.outside_pins, State.setReg_outside, State.push_outside, State.outside_ite, State.outside_bif, State.foldl_outside, State.foldl_outside_snd, State.foldl_outside_fst, ite_self, Bool.cond_self, Parts.emits_recs, Parts.emits_classLost, Parts.emits_host, Parts.emits_lost, and_self, and_true, true_and, implies_true, forall_const, hP]))

@[simp] theorem State.clearWay_outside {P : Parts} (s : State) (sid n : Nat) (hP : P.streams = true) :
    (State.clearWay s sid n).outside P = s.outside P := by
  unfold State.clearWay
  simp only [State.detach_outside, State.setReg_outside, State.push_outside, State.outside_ite, State.outside_bif, State.foldl_outside, State.foldl_outside_snd, State.foldl_outside_fst, ite_self, Bool.cond_self, Parts.emits_recs, Parts.emits_classLost, Parts.emits_host, Parts.emits_lost, and_self, and_true, true_and, implies_true, forall_const, hP]

@[simp] theorem State.leaveSeg_outside {P : Parts} (s : State) (sid pos : Nat) (hP : P.streams = true) :
    (State.leaveSeg s sid pos).outside P = s.outside P := by
  unfold State.leaveSeg
  simp only [State.detach_outside, State.setReg_outside, State.push_outside, State.outside_ite, State.outside_bif, State.foldl_outside, State.foldl_outside_snd, State.foldl_outside_fst, ite_self, Bool.cond_self, Parts.emits_recs, Parts.emits_classLost, Parts.emits_host, Parts.emits_lost, and_self, and_true, true_and, implies_true, forall_const, hP]

@[simp] theorem State.leaveAll_outside {P : Parts} (s : State) (sid : Nat) (hP : P.streams = true) :
    (State.leaveAll s sid).outside P = s.outside P := by
  unfold State.leaveAll
  simp only [State.detach_outside, State.setReg_outside, State.push_outside, State.outside_ite, State.outside_bif, State.foldl_outside, State.foldl_outside_snd, State.foldl_outside_fst, ite_self, Bool.cond_self, Parts.emits_recs, Parts.emits_classLost, Parts.emits_host, Parts.emits_lost, and_self, and_true, true_and, implies_true, forall_const, hP]

@[simp] theorem State.storeBlock_outside {P : Parts} (s : State) (port sid : Nat) (b : Block) (hP : P.cells = true ∧ P.regs Reg.ECC_INJ ∧ P.ecc = true ∧ (∀ n, P.regs (Reg.ECC_REMAP n)) ∧ P.regs Reg.ECC_STAT) :
    (State.storeBlock s port sid b).outside P = s.outside P := by
  unfold State.storeBlock
  simp only [fullCellWrite_outside, State.setReg_outside, State.push_outside, State.outside_ite, State.outside_bif, State.foldl_outside, State.foldl_outside_snd, State.foldl_outside_fst, ite_self, Bool.cond_self, Parts.emits_recs, Parts.emits_classLost, Parts.emits_host, Parts.emits_lost, and_self, and_true, true_and, implies_true, forall_const, hP]

@[simp] theorem State.writeBlock_outside {P : Parts} (s : State) (sid : Nat) (hP : P.emits ∧ P.cells = true ∧ P.regs Reg.CLK_HOLD_CNT ∧ P.clk = true ∧ P.regs Reg.CLK_READY ∧ P.ecc = true ∧ P.regs Reg.CLK_SRC ∧ P.fab = true ∧ P.regs Reg.CLK_STAT ∧ P.out = true ∧ P.regs Reg.ECC_INJ ∧ P.port = true ∧ (∀ n, P.regs (Reg.ECC_REMAP n)) ∧ P.rate = true ∧ P.regs Reg.ECC_STAT ∧ P.streams = true ∧ P.regs Reg.FAB_DROP ∧ P.regs Reg.FAB_STAT ∧ (∀ n, P.regs (Reg.FP_STAT n)) ∧ (∀ n, P.regs (Reg.FP_UTIL n)) ∧ P.regs Reg.STR_OVR_CNT ∧ P.regs Reg.STR_SEGS ∧ P.regs Reg.STR_STAGE ∧ P.regs Reg.STR_STAT) :
    (State.writeBlock s sid).outside P = s.outside P := by
  unfold State.writeBlock
  simp only [State.setStream_outside, State.settleKept_outside, captureDone_outside, State.closeIfDrained_outside, State.cutCapture_outside, State.captureBlock_outside, State.makeRoom_outside, State.clearWay_outside, State.leaveSeg_outside, State.storeBlock_outside, State.setReg_outside, State.push_outside, State.outside_ite, State.outside_bif, State.foldl_outside, State.foldl_outside_snd, State.foldl_outside_fst, ite_self, Bool.cond_self, Parts.emits_recs, Parts.emits_classLost, Parts.emits_host, Parts.emits_lost, and_self, and_true, true_and, implies_true, forall_const, hP]
  repeat' (first | rfl | (split <;> try simp only [State.setStream_outside, State.settleKept_outside, captureDone_outside, State.closeIfDrained_outside, State.cutCapture_outside, State.captureBlock_outside, State.makeRoom_outside, State.clearWay_outside, State.leaveSeg_outside, State.storeBlock_outside, State.setReg_outside, State.push_outside, State.outside_ite, State.outside_bif, State.foldl_outside, State.foldl_outside_snd, State.foldl_outside_fst, ite_self, Bool.cond_self, Parts.emits_recs, Parts.emits_classLost, Parts.emits_host, Parts.emits_lost, and_self, and_true, true_and, implies_true, forall_const, hP]))

@[simp] theorem blockWrite_outside {P : Parts} (s : State) (sid : Nat) (hP : P.emits ∧ P.cells = true ∧ P.regs Reg.CLK_HOLD_CNT ∧ P.clk = true ∧ P.regs Reg.CLK_READY ∧ P.ecc = true ∧ P.regs Reg.CLK_SRC ∧ P.fab = true ∧ P.regs Reg.CLK_STAT ∧ P.out = true ∧ P.regs Reg.ECC_INJ ∧ P.port = true ∧ (∀ n, P.regs (Reg.ECC_REMAP n)) ∧ P.rate = true ∧ P.regs Reg.ECC_STAT ∧ P.streams = true ∧ P.regs Reg.FAB_DROP ∧ P.regs Reg.FAB_STAT ∧ (∀ n, P.regs (Reg.FP_STAT n)) ∧ (∀ n, P.regs (Reg.FP_UTIL n)) ∧ P.regs Reg.STR_OVR_CNT ∧ P.regs Reg.STR_SEGS ∧ P.regs Reg.STR_STAGE ∧ P.regs Reg.STR_STAT) :
    (blockWrite s sid).outside P = s.outside P := by
  unfold blockWrite
  simp only [State.writeBlock_outside, State.setReg_outside, State.push_outside, State.outside_ite, State.outside_bif, State.foldl_outside, State.foldl_outside_snd, State.foldl_outside_fst, ite_self, Bool.cond_self, Parts.emits_recs, Parts.emits_classLost, Parts.emits_host, Parts.emits_lost, and_self, and_true, true_and, implies_true, forall_const, hP]

@[simp] theorem State.writeAll_outside {P : Parts} (s : State) (sid : Nat) (fuel : Nat) (hP : P.emits ∧ P.cells = true ∧ P.regs Reg.CLK_HOLD_CNT ∧ P.clk = true ∧ P.regs Reg.CLK_READY ∧ P.ecc = true ∧ P.regs Reg.CLK_SRC ∧ P.fab = true ∧ P.regs Reg.CLK_STAT ∧ P.out = true ∧ P.regs Reg.ECC_INJ ∧ P.port = true ∧ (∀ n, P.regs (Reg.ECC_REMAP n)) ∧ P.rate = true ∧ P.regs Reg.ECC_STAT ∧ P.streams = true ∧ P.regs Reg.FAB_DROP ∧ P.regs Reg.FAB_STAT ∧ (∀ n, P.regs (Reg.FP_STAT n)) ∧ (∀ n, P.regs (Reg.FP_UTIL n)) ∧ P.regs Reg.STR_OVR_CNT ∧ P.regs Reg.STR_SEGS ∧ P.regs Reg.STR_STAGE ∧ P.regs Reg.STR_STAT) :
    (State.writeAll s sid fuel).outside P = s.outside P := by
  induction fuel generalizing s with
  | zero => rfl
  | succ fuel ih =>
    simp only [State.writeAll, State.writeBlock_outside, State.setReg_outside, State.push_outside, State.outside_ite, State.outside_bif, State.foldl_outside, State.foldl_outside_snd, State.foldl_outside_fst, ite_self, Bool.cond_self, Parts.emits_recs, Parts.emits_classLost, Parts.emits_host, Parts.emits_lost, and_self, and_true, true_and, implies_true, forall_const, hP, ih]

@[simp] theorem State.flushStaging_outside {P : Parts} (s : State) (hP : P.emits ∧ P.cells = true ∧ P.regs Reg.CLK_HOLD_CNT ∧ P.clk = true ∧ P.regs Reg.CLK_READY ∧ P.ecc = true ∧ P.regs Reg.CLK_SRC ∧ P.fab = true ∧ P.regs Reg.CLK_STAT ∧ P.out = true ∧ P.regs Reg.ECC_INJ ∧ P.port = true ∧ (∀ n, P.regs (Reg.ECC_REMAP n)) ∧ P.rate = true ∧ P.regs Reg.ECC_STAT ∧ P.streams = true ∧ P.regs Reg.FAB_DROP ∧ P.regs Reg.FAB_STAT ∧ (∀ n, P.regs (Reg.FP_STAT n)) ∧ (∀ n, P.regs (Reg.FP_UTIL n)) ∧ P.regs Reg.STR_OVR_CNT ∧ P.regs Reg.STR_SEGS ∧ P.regs Reg.STR_STAGE ∧ P.regs Reg.STR_STAT) :
    (State.flushStaging s).outside P = s.outside P := by
  unfold State.flushStaging
  simp only [State.writeAll_outside, State.setReg_outside, State.push_outside, State.outside_ite, State.outside_bif, State.foldl_outside, State.foldl_outside_snd, State.foldl_outside_fst, ite_self, Bool.cond_self, Parts.emits_recs, Parts.emits_classLost, Parts.emits_host, Parts.emits_lost, and_self, and_true, true_and, implies_true, forall_const, hP]

@[simp] theorem stagingFull_outside {P : Parts} (s : State) (sid : Nat) (hP : P.emits ∧ P.streams = true ∧ P.regs Reg.STR_STAGE ∧ P.regs Reg.STR_STAT) :
    (stagingFull s sid).outside P = s.outside P := by
  unfold stagingFull
  simp only [State.count_outside, State.emit_outside, State.setStream_outside, State.streamGap_outside, State.setReg_outside, State.push_outside, State.outside_ite, State.outside_bif, State.foldl_outside, State.foldl_outside_snd, State.foldl_outside_fst, ite_self, Bool.cond_self, Parts.emits_recs, Parts.emits_classLost, Parts.emits_host, Parts.emits_lost, and_self, and_true, true_and, implies_true, forall_const, hP]
  repeat' (first | rfl | (split <;> try simp only [State.count_outside, State.emit_outside, State.setStream_outside, State.streamGap_outside, State.setReg_outside, State.push_outside, State.outside_ite, State.outside_bif, State.foldl_outside, State.foldl_outside_snd, State.foldl_outside_fst, ite_self, Bool.cond_self, Parts.emits_recs, Parts.emits_classLost, Parts.emits_host, Parts.emits_lost, and_self, and_true, true_and, implies_true, forall_const, hP]))

@[simp] theorem streamClose_outside {P : Parts} (s : State) (src : CmdSrc) (tag sid : Nat) (hP : P.emits ∧ P.cells = true ∧ P.regs Reg.CLK_HOLD_CNT ∧ P.clk = true ∧ P.regs Reg.CLK_READY ∧ P.ecc = true ∧ P.regs Reg.CLK_SRC ∧ P.fab = true ∧ P.regs Reg.CLK_STAT ∧ P.fresh = true ∧ P.regs Reg.ECC_INJ ∧ P.out = true ∧ (∀ n, P.regs (Reg.ECC_REMAP n)) ∧ P.port = true ∧ P.regs Reg.ECC_STAT ∧ P.rate = true ∧ P.regs Reg.FAB_DROP ∧ P.streams = true ∧ P.regs Reg.FAB_STAT ∧ (∀ n, P.regs (Reg.FP_STAT n)) ∧ (∀ n, P.regs (Reg.FP_UTIL n)) ∧ P.regs Reg.HIF_CMD_STAT ∧ P.regs Reg.STR_OVR_CNT ∧ P.regs Reg.STR_SEGS ∧ P.regs Reg.STR_STAGE ∧ P.regs Reg.STR_STAT) :
    (streamClose s src tag sid).outside P = s.outside P := by
  unfold streamClose
  simp only [State.count_outside, State.emit_outside, State.setStream_outside, State.settle_outside, State.freeStream_outside, State.closeIfDrained_outside, State.closeCapture_outside, State.writeAll_outside, State.setReg_outside, State.push_outside, State.outside_ite, State.outside_bif, State.foldl_outside, State.foldl_outside_snd, State.foldl_outside_fst, ite_self, Bool.cond_self, Parts.emits_recs, Parts.emits_classLost, Parts.emits_host, Parts.emits_lost, and_self, and_true, true_and, implies_true, forall_const, hP]
  repeat' (first | rfl | (split <;> try simp only [State.count_outside, State.emit_outside, State.setStream_outside, State.settle_outside, State.freeStream_outside, State.closeIfDrained_outside, State.closeCapture_outside, State.writeAll_outside, State.setReg_outside, State.push_outside, State.outside_ite, State.outside_bif, State.foldl_outside, State.foldl_outside_snd, State.foldl_outside_fst, ite_self, Bool.cond_self, Parts.emits_recs, Parts.emits_classLost, Parts.emits_host, Parts.emits_lost, and_self, and_true, true_and, implies_true, forall_const, hP]))

@[simp] theorem State.firstComing_outside {P : Parts} (s : State) (x : Stream) (t : Time) (hP : P.fresh = true ∧ (∀ n, P.regs (Reg.PCH_FLT_STAT n)) ∧ P.port = true ∧ P.regs Reg.STR_STAT ∧ P.streams = true) :
    (State.firstComing s x t).2.outside P = s.outside P := by
  unfold State.firstComing
  simp only [State.freeNat_outside, State.discard_outside, State.firstWindow_outside, rate_outside, State.setReg_outside, State.push_outside, State.outside_ite, State.outside_bif, State.foldl_outside, State.foldl_outside_snd, State.foldl_outside_fst, ite_self, Bool.cond_self, Parts.emits_recs, Parts.emits_classLost, Parts.emits_host, Parts.emits_lost, and_self, and_true, true_and, implies_true, forall_const, hP]
  repeat' (first | rfl | (split <;> try simp only [State.freeNat_outside, State.discard_outside, State.firstWindow_outside, rate_outside, State.setReg_outside, State.push_outside, State.outside_ite, State.outside_bif, State.foldl_outside, State.foldl_outside_snd, State.foldl_outside_fst, ite_self, Bool.cond_self, Parts.emits_recs, Parts.emits_classLost, Parts.emits_host, Parts.emits_lost, and_self, and_true, true_and, implies_true, forall_const, hP]))

@[simp] theorem State.admitOne_outside {P : Parts} (s : State) (p : CaptureParams) (tEnd : Time) (group : List Nat) (sid c : Nat) (hP : P.streams = true) :
    (State.admitOne s p tEnd group sid c).outside P = s.outside P := by
  unfold State.admitOne
  simp only [State.setStream_outside, State.captureBlock_outside, State.leaveAll_outside, State.setReg_outside, State.push_outside, State.outside_ite, State.outside_bif, State.foldl_outside, State.foldl_outside_snd, State.foldl_outside_fst, ite_self, Bool.cond_self, Parts.emits_recs, Parts.emits_classLost, Parts.emits_host, Parts.emits_lost, and_self, and_true, true_and, implies_true, forall_const, hP]

@[simp] theorem State.admitCapture_outside {P : Parts} (s : State) (p : CaptureParams) (tEnd : Time) (hP : P.fresh = true ∧ (∀ n, P.regs (Reg.PCH_FLT_STAT n)) ∧ P.port = true ∧ P.regs Reg.STR_SEGS ∧ P.streams = true ∧ P.regs Reg.STR_STAGE ∧ P.regs Reg.STR_STAT) :
    (State.admitCapture s p tEnd).2.outside P = s.outside P := by
  unfold State.admitCapture
  repeat' (first | rfl | (simp (maxDischargeDepth := 6) only [State.showStreams_outside, State.firstComing_outside, State.admitOne_outside, State.setReg_outside, State.push_outside, State.outside_ite, State.outside_bif, State.foldl_outside, State.foldl_outside_snd, State.foldl_outside_fst, ite_self, Bool.cond_self, Parts.emits_recs, Parts.emits_classLost, Parts.emits_host, Parts.emits_lost, and_self, and_true, true_and, implies_true, forall_const, hP]; done) | (refine (State.foldl_outside (fun s x => ?_) _ _).trans ?_) | (refine (State.foldl_outside_snd (fun s x => ?_) _ _).trans ?_) | (refine (State.foldl_outside_fst (fun s x => ?_) _ _).trans ?_) | split | simp (maxDischargeDepth := 6) only [State.showStreams_outside, State.firstComing_outside, State.admitOne_outside, State.setReg_outside, State.push_outside, State.outside_ite, State.outside_bif, State.foldl_outside, State.foldl_outside_snd, State.foldl_outside_fst, ite_self, Bool.cond_self, Parts.emits_recs, Parts.emits_classLost, Parts.emits_host, Parts.emits_lost, and_self, and_true, true_and, implies_true, forall_const, hP])

@[simp] theorem State.endWhole_outside {P : Parts} (s : State) (group : List Nat) (hP : P.emits ∧ P.streams = true ∧ P.regs Reg.STR_SEGS ∧ P.regs Reg.STR_STAGE ∧ P.regs Reg.STR_STAT) :
    (State.endWhole s group).outside P = s.outside P := by
  unfold State.endWhole
  simp only [captureDone_outside, State.setReg_outside, State.push_outside, State.outside_ite, State.outside_bif, State.foldl_outside, State.foldl_outside_snd, State.foldl_outside_fst, ite_self, Bool.cond_self, Parts.emits_recs, Parts.emits_classLost, Parts.emits_host, Parts.emits_lost, and_self, and_true, true_and, implies_true, forall_const, hP]

@[simp] theorem capture_outside {P : Parts} (s : State) (src : CmdSrc) (tag : Nat) (p : CaptureParams) (hP : P.emits ∧ P.fab = true ∧ P.regs Reg.FAB_DROP ∧ P.fresh = true ∧ (∀ n, P.regs (Reg.FP_UTIL n)) ∧ P.out = true ∧ P.regs Reg.HIF_CMD_STAT ∧ P.port = true ∧ (∀ n, P.regs (Reg.PCH_FLT_STAT n)) ∧ P.streams = true ∧ P.regs Reg.STR_SEGS ∧ P.regs Reg.STR_STAGE ∧ P.regs Reg.STR_STAT) :
    (capture s src tag p).outside P = s.outside P := by
  unfold capture
  simp only [State.settle_outside, State.admitCapture_outside, State.endWhole_outside, State.setReg_outside, State.push_outside, State.outside_ite, State.outside_bif, State.foldl_outside, State.foldl_outside_snd, State.foldl_outside_fst, ite_self, Bool.cond_self, Parts.emits_recs, Parts.emits_classLost, Parts.emits_host, Parts.emits_lost, and_self, and_true, true_and, implies_true, forall_const, hP]

@[simp] theorem State.startCapture_outside {P : Parts} (s : State) (n : Nat) (t tEnd : Time) (hP : P.emits ∧ P.fresh = true ∧ (∀ n, P.regs (Reg.PCH_FLT_STAT n)) ∧ P.port = true ∧ P.regs Reg.STR_SEGS ∧ P.streams = true ∧ P.regs Reg.STR_STAGE ∧ P.regs Reg.STR_STAT) :
    (State.startCapture s n t tEnd).1.outside P = s.outside P := by
  unfold State.startCapture
  simp only [State.emit_outside, State.admitCapture_outside, State.endWhole_outside, State.setReg_outside, State.push_outside, State.outside_ite, State.outside_bif, State.foldl_outside, State.foldl_outside_snd, State.foldl_outside_fst, ite_self, Bool.cond_self, Parts.emits_recs, Parts.emits_classLost, Parts.emits_host, Parts.emits_lost, and_self, and_true, true_and, implies_true, forall_const, hP]
  repeat' (first | rfl | (split <;> try simp only [State.emit_outside, State.admitCapture_outside, State.endWhole_outside, State.setReg_outside, State.push_outside, State.outside_ite, State.outside_bif, State.foldl_outside, State.foldl_outside_snd, State.foldl_outside_fst, ite_self, Bool.cond_self, Parts.emits_recs, Parts.emits_classLost, Parts.emits_host, Parts.emits_lost, and_self, and_true, true_and, implies_true, forall_const, hP]))

@[simp] theorem startDropped_outside {P : Parts} (s : State) (n : Nat) (hP : P.emits ∧ P.rate = true ∧ (∀ n, P.regs (Reg.WCH_ST_STAT n))) :
    (startDropped s n).outside P = s.outside P := by
  unfold startDropped
  simp only [State.count_outside, State.emitLimited_outside, State.setReg_outside, State.push_outside, State.outside_ite, State.outside_bif, State.foldl_outside, State.foldl_outside_snd, State.foldl_outside_fst, ite_self, Bool.cond_self, Parts.emits_recs, Parts.emits_classLost, Parts.emits_host, Parts.emits_lost, and_self, and_true, true_and, implies_true, forall_const, hP]

@[simp] theorem startFired_outside {P : Parts} (s : State) (n : Nat) (hP : P.emits ∧ P.fresh = true ∧ (∀ n, P.regs (Reg.PCH_FLT_STAT n)) ∧ P.nodes = true ∧ P.regs Reg.STR_SEGS ∧ P.port = true ∧ P.regs Reg.STR_STAGE ∧ P.rate = true ∧ P.regs Reg.STR_STAT ∧ P.start = true ∧ (∀ n, P.regs (Reg.WCH_ST_STAT n)) ∧ P.streams = true) :
    (startFired s n).outside P = s.outside P := by
  unfold startFired
  simp only [State.raise_outside, State.setStart_outside, State.emitAt_outside, State.feedEvent_outside, State.startCapture_outside, startDropped_outside, State.setReg_outside, State.push_outside, State.outside_ite, State.outside_bif, State.foldl_outside, State.foldl_outside_snd, State.foldl_outside_fst, ite_self, Bool.cond_self, Parts.emits_recs, Parts.emits_classLost, Parts.emits_host, Parts.emits_lost, and_self, and_true, true_and, implies_true, forall_const, hP]
  repeat' (first | rfl | (split <;> try simp only [State.raise_outside, State.setStart_outside, State.emitAt_outside, State.feedEvent_outside, State.startCapture_outside, startDropped_outside, State.setReg_outside, State.push_outside, State.outside_ite, State.outside_bif, State.foldl_outside, State.foldl_outside_snd, State.foldl_outside_fst, ite_self, Bool.cond_self, Parts.emits_recs, Parts.emits_classLost, Parts.emits_host, Parts.emits_lost, and_self, and_true, true_and, implies_true, forall_const, hP]))

@[simp] theorem startUnitIdle_outside {P : Parts} (s : State) (n : Nat) (hP : P.start = true ∧ (∀ n, P.regs (Reg.WCH_ST_STAT n))) :
    (startUnitIdle s n).outside P = s.outside P := by
  unfold startUnitIdle
  simp only [State.clear_outside, State.setStart_outside, State.setReg_outside, State.push_outside, State.outside_ite, State.outside_bif, State.foldl_outside, State.foldl_outside_snd, State.foldl_outside_fst, ite_self, Bool.cond_self, Parts.emits_recs, Parts.emits_classLost, Parts.emits_host, Parts.emits_lost, and_self, and_true, true_and, implies_true, forall_const, hP]

@[simp] theorem State.setRing_outside {P : Parts} (s : State) (r : Nat) (x : HostRing) (hP : P.rings = true) :
    (State.setRing s r x).outside P = s.outside P := by
  unfold State.setRing
  simp only [State.outside_rings, State.setReg_outside, State.push_outside, State.outside_ite, State.outside_bif, State.foldl_outside, State.foldl_outside_snd, State.foldl_outside_fst, ite_self, Bool.cond_self, Parts.emits_recs, Parts.emits_classLost, Parts.emits_host, Parts.emits_lost, and_self, and_true, true_and, implies_true, forall_const, hP]

@[simp] theorem State.noteWaits_outside {P : Parts} (s : State) (r : Nat) (hP : P.rings = true) :
    (State.noteWaits s r).outside P = s.outside P := by
  unfold State.noteWaits
  simp only [State.setRing_outside, State.setReg_outside, State.push_outside, State.outside_ite, State.outside_bif, State.foldl_outside, State.foldl_outside_snd, State.foldl_outside_fst, ite_self, Bool.cond_self, Parts.emits_recs, Parts.emits_classLost, Parts.emits_host, Parts.emits_lost, and_self, and_true, true_and, implies_true, forall_const, hP]

@[simp] theorem State.readCells_outside {P : Parts} (s : State) (port : Nat) (flips : List (Nat × Nat)) (cells : List Nat) (hP : P.emits ∧ P.cells = true ∧ P.regs Reg.ECC_CE_CNT0 ∧ P.ecc = true ∧ P.regs Reg.ECC_CE_CNT1 ∧ P.rate = true ∧ P.regs Reg.ECC_INJ ∧ P.regs Reg.ECC_LOG_CTRL ∧ P.regs Reg.ECC_POISON_CNT ∧ (∀ n, P.regs (Reg.ECC_REMAP n)) ∧ P.regs Reg.ECC_RMW_CNT ∧ P.regs Reg.ECC_STAT ∧ P.regs Reg.ECC_UE_CNT) :
    (State.readCells s port flips cells).2.outside P = s.outside P := by
  unfold State.readCells
  simp only [State.portRead_outside, State.setReg_outside, State.push_outside, State.outside_ite, State.outside_bif, State.foldl_outside, State.foldl_outside_snd, State.foldl_outside_fst, ite_self, Bool.cond_self, Parts.emits_recs, Parts.emits_classLost, Parts.emits_host, Parts.emits_lost, and_self, and_true, true_and, implies_true, forall_const, hP]

@[simp] theorem State.headerGap_outside {P : Parts} (s : State) (x : Stream) (b : Block) (nseq : Nat) (hP : P.fresh = true) :
    (State.headerGap s x b nseq).2.outside P = s.outside P := by
  unfold State.headerGap
  simp only [State.freeNat_outside, State.setReg_outside, State.push_outside, State.outside_ite, State.outside_bif, State.foldl_outside, State.foldl_outside_snd, State.foldl_outside_fst, ite_self, Bool.cond_self, Parts.emits_recs, Parts.emits_classLost, Parts.emits_host, Parts.emits_lost, and_self, and_true, true_and, implies_true, forall_const, hP]

@[simp] theorem State.readBlock_outside {P : Parts} (s : State) (sid : Nat) (flips : List (Nat × Nat)) (b : Block) (hP : P.emits ∧ P.cells = true ∧ P.regs Reg.ECC_CE_CNT0 ∧ P.ecc = true ∧ P.regs Reg.ECC_CE_CNT1 ∧ P.fresh = true ∧ P.regs Reg.ECC_INJ ∧ P.rate = true ∧ P.regs Reg.ECC_LOG_CTRL ∧ P.regs Reg.ECC_POISON_CNT ∧ (∀ n, P.regs (Reg.ECC_REMAP n)) ∧ P.regs Reg.ECC_RMW_CNT ∧ P.regs Reg.ECC_STAT ∧ P.regs Reg.ECC_UE_CNT) :
    (State.readBlock s sid flips b).2.outside P = s.outside P := by
  unfold State.readBlock
  simp only [State.readCells_outside, State.headerGap_outside, State.setReg_outside, State.push_outside, State.outside_ite, State.outside_bif, State.foldl_outside, State.foldl_outside_snd, State.foldl_outside_fst, ite_self, Bool.cond_self, Parts.emits_recs, Parts.emits_classLost, Parts.emits_host, Parts.emits_lost, and_self, and_true, true_and, implies_true, forall_const, hP]
  repeat' (first | rfl | (split <;> try simp only [State.readCells_outside, State.headerGap_outside, State.setReg_outside, State.push_outside, State.outside_ite, State.outside_bif, State.foldl_outside, State.foldl_outside_snd, State.foldl_outside_fst, ite_self, Bool.cond_self, Parts.emits_recs, Parts.emits_classLost, Parts.emits_host, Parts.emits_lost, and_self, and_true, true_and, implies_true, forall_const, hP]))

@[simp] theorem State.nextReadable_outside {P : Parts} (s : State) (port : Nat) (flips : List (Nat × Nat)) (l : List Block) (hP : P.emits ∧ P.cells = true ∧ P.regs Reg.ECC_CE_CNT0 ∧ P.ecc = true ∧ P.regs Reg.ECC_CE_CNT1 ∧ P.rate = true ∧ P.regs Reg.ECC_INJ ∧ P.regs Reg.ECC_LOG_CTRL ∧ P.regs Reg.ECC_POISON_CNT ∧ (∀ n, P.regs (Reg.ECC_REMAP n)) ∧ P.regs Reg.ECC_RMW_CNT ∧ P.regs Reg.ECC_STAT ∧ P.regs Reg.ECC_UE_CNT) :
    (State.nextReadable s port flips l).2.outside P = s.outside P := by
  induction l generalizing s with
  | nil => rfl
  | cons b l ih =>
    unfold State.nextReadable
    have h := State.readCells_outside (P := P) s port flips (b.cells_.take 1) (by simp only [hP, and_self, implies_true])
    split
    · rfl
    · dsimp only
      split
      · exact (ih _).trans h
      · exact h

@[simp] theorem State.readCapture_outside {P : Parts} (s : State) (sid : Nat) (flips : List (Nat × Nat)) (b : Block) (hP : P.emits ∧ P.cells = true ∧ P.regs Reg.ECC_CE_CNT0 ∧ P.ecc = true ∧ P.regs Reg.ECC_CE_CNT1 ∧ P.rate = true ∧ P.regs Reg.ECC_INJ ∧ P.regs Reg.ECC_LOG_CTRL ∧ P.regs Reg.ECC_POISON_CNT ∧ (∀ n, P.regs (Reg.ECC_REMAP n)) ∧ P.regs Reg.ECC_RMW_CNT ∧ P.regs Reg.ECC_STAT ∧ P.regs Reg.ECC_UE_CNT) :
    (State.readCapture s sid flips b).2.outside P = s.outside P := by
  unfold State.readCapture
  simp only [State.readCells_outside, State.setReg_outside, State.push_outside, State.outside_ite, State.outside_bif, State.foldl_outside, State.foldl_outside_snd, State.foldl_outside_fst, ite_self, Bool.cond_self, Parts.emits_recs, Parts.emits_classLost, Parts.emits_host, Parts.emits_lost, and_self, and_true, true_and, implies_true, forall_const, hP]

@[simp] theorem State.readNext_outside {P : Parts} (s : State) (sid : Nat) (flips : List (Nat × Nat)) (hP : P.emits ∧ P.cells = true ∧ P.regs Reg.ECC_CE_CNT0 ∧ P.ecc = true ∧ P.regs Reg.ECC_CE_CNT1 ∧ P.fresh = true ∧ P.regs Reg.ECC_INJ ∧ P.rate = true ∧ P.regs Reg.ECC_LOG_CTRL ∧ P.streams = true ∧ P.regs Reg.ECC_POISON_CNT ∧ (∀ n, P.regs (Reg.ECC_REMAP n)) ∧ P.regs Reg.ECC_RMW_CNT ∧ P.regs Reg.ECC_STAT ∧ P.regs Reg.ECC_UE_CNT) :
    (State.readNext s sid flips).2.outside P = s.outside P := by
  unfold State.readNext
  simp only [State.setStream_outside, State.headerGap_outside, State.readBlock_outside, State.nextReadable_outside, State.readCapture_outside, State.setReg_outside, State.push_outside, State.outside_ite, State.outside_bif, State.foldl_outside, State.foldl_outside_snd, State.foldl_outside_fst, ite_self, Bool.cond_self, Parts.emits_recs, Parts.emits_classLost, Parts.emits_host, Parts.emits_lost, and_self, and_true, true_and, implies_true, forall_const, hP]
  repeat' (first | rfl | (split <;> try simp only [State.setStream_outside, State.headerGap_outside, State.readBlock_outside, State.nextReadable_outside, State.readCapture_outside, State.setReg_outside, State.push_outside, State.outside_ite, State.outside_bif, State.foldl_outside, State.foldl_outside_snd, State.foldl_outside_fst, ite_self, Bool.cond_self, Parts.emits_recs, Parts.emits_classLost, Parts.emits_host, Parts.emits_lost, and_self, and_true, true_and, implies_true, forall_const, hP]))

@[simp] theorem State.askCells_outside {P : Parts} (s : State) (sid : Nat) (hP : P.fab = true ∧ P.regs Reg.FAB_DROP ∧ P.out = true ∧ (∀ n, P.regs (Reg.FP_UTIL n)) ∧ P.port = true ∧ P.streams = true) :
    (State.askCells s sid).outside P = s.outside P := by
  unfold State.askCells
  simp only [State.setStream_outside, State.requestKeyed_outside, State.setReg_outside, State.push_outside, State.outside_ite, State.outside_bif, State.foldl_outside, State.foldl_outside_snd, State.foldl_outside_fst, ite_self, Bool.cond_self, Parts.emits_recs, Parts.emits_classLost, Parts.emits_host, Parts.emits_lost, and_self, and_true, true_and, implies_true, forall_const, hP]
  repeat' (first | rfl | (split <;> try simp only [State.setStream_outside, State.requestKeyed_outside, State.setReg_outside, State.push_outside, State.outside_ite, State.outside_bif, State.foldl_outside, State.foldl_outside_snd, State.foldl_outside_fst, ite_self, Bool.cond_self, Parts.emits_recs, Parts.emits_classLost, Parts.emits_host, Parts.emits_lost, and_self, and_true, true_and, implies_true, forall_const, hP]))

@[simp] theorem State.readIndex_outside {P : Parts} (s : State) (sid : Nat) (error : Option Bool) (hP : P.emits ∧ P.fresh = true ∧ (∀ n, P.regs (Reg.ECC_SRAM_CE n)) ∧ P.streams = true ∧ P.regs Reg.ECC_STAT) :
    (State.readIndex s sid error).outside P = s.outside P := by
  unfold State.readIndex
  repeat' split
  all_goals first | rfl | simp only [State.freeNat_outside, State.setStream_outside, State.sramError_outside, State.setReg_outside, State.push_outside, State.outside_ite, State.outside_bif, State.foldl_outside, State.foldl_outside_snd, State.foldl_outside_fst, ite_self, Bool.cond_self, Parts.emits_recs, Parts.emits_classLost, Parts.emits_host, Parts.emits_lost, and_self, and_true, true_and, implies_true, forall_const, hP]

@[simp] theorem blockSend_outside {P : Parts} (s : State) (sid : Nat) (head : List Nat) (index : Option Bool) (data : List (Nat × Nat)) (hP : P.emits ∧ P.cells = true ∧ P.regs Reg.ECC_CE_CNT0 ∧ P.ecc = true ∧ P.regs Reg.ECC_CE_CNT1 ∧ P.fab = true ∧ P.regs Reg.ECC_INJ ∧ P.fresh = true ∧ P.regs Reg.ECC_LOG_CTRL ∧ P.out = true ∧ P.regs Reg.ECC_POISON_CNT ∧ P.port = true ∧ (∀ n, P.regs (Reg.ECC_REMAP n)) ∧ P.rate = true ∧ P.regs Reg.ECC_RMW_CNT ∧ P.rings = true ∧ (∀ n, P.regs (Reg.ECC_SRAM_CE n)) ∧ P.streams = true ∧ P.regs Reg.ECC_STAT ∧ P.regs Reg.ECC_UE_CNT ∧ P.regs Reg.FAB_DROP ∧ (∀ n, P.regs (Reg.FP_UTIL n))) :
    (blockSend s sid head index data).outside P = s.outside P := by
  unfold blockSend
  simp only [State.setStream_outside, State.noteWaits_outside, State.readNext_outside, State.askCells_outside, State.readIndex_outside, State.setReg_outside, State.push_outside, State.outside_ite, State.outside_bif, State.foldl_outside, State.foldl_outside_snd, State.foldl_outside_fst, ite_self, Bool.cond_self, Parts.emits_recs, Parts.emits_classLost, Parts.emits_host, Parts.emits_lost, and_self, and_true, true_and, implies_true, forall_const, hP]
  repeat' (first | rfl | (split <;> try simp only [State.setStream_outside, State.noteWaits_outside, State.readNext_outside, State.askCells_outside, State.readIndex_outside, State.setReg_outside, State.push_outside, State.outside_ite, State.outside_bif, State.foldl_outside, State.foldl_outside_snd, State.foldl_outside_fst, ite_self, Bool.cond_self, Parts.emits_recs, Parts.emits_classLost, Parts.emits_host, Parts.emits_lost, and_self, and_true, true_and, implies_true, forall_const, hP]))

@[simp] theorem State.askAgain_outside {P : Parts} (s : State) (sid : Nat) (hP : P.streams = true) :
    (State.askAgain s sid).outside P = s.outside P := by
  unfold State.askAgain
  simp only [State.setStream_outside, State.setReg_outside, State.push_outside, State.outside_ite, State.outside_bif, State.foldl_outside, State.foldl_outside_snd, State.foldl_outside_fst, ite_self, Bool.cond_self, Parts.emits_recs, Parts.emits_classLost, Parts.emits_host, Parts.emits_lost, and_self, and_true, true_and, implies_true, forall_const, hP]
  repeat' (first | rfl | (split <;> try simp only [State.setStream_outside, State.setReg_outside, State.push_outside, State.outside_ite, State.outside_bif, State.foldl_outside, State.foldl_outside_snd, State.foldl_outside_fst, ite_self, Bool.cond_self, Parts.emits_recs, Parts.emits_classLost, Parts.emits_host, Parts.emits_lost, and_self, and_true, true_and, implies_true, forall_const, hP]))

@[simp] theorem State.ackBlock_outside {P : Parts} (s : State) (sid bseq : Nat) (hP : P.emits ∧ P.streams = true ∧ P.regs Reg.STR_SEGS ∧ P.regs Reg.STR_STAGE ∧ P.regs Reg.STR_STAT) :
    (State.ackBlock s sid bseq).outside P = s.outside P := by
  unfold State.ackBlock
  simp only [State.setStream_outside, State.settleKept_outside, captureDone_outside, State.closeIfDrained_outside, State.setReg_outside, State.push_outside, State.outside_ite, State.outside_bif, State.foldl_outside, State.foldl_outside_snd, State.foldl_outside_fst, ite_self, Bool.cond_self, Parts.emits_recs, Parts.emits_classLost, Parts.emits_host, Parts.emits_lost, and_self, and_true, true_and, implies_true, forall_const, hP]
  repeat' (first | rfl | (split <;> try simp only [State.setStream_outside, State.settleKept_outside, captureDone_outside, State.closeIfDrained_outside, State.setReg_outside, State.push_outside, State.outside_ite, State.outside_bif, State.foldl_outside, State.foldl_outside_snd, State.foldl_outside_fst, ite_self, Bool.cond_self, Parts.emits_recs, Parts.emits_classLost, Parts.emits_host, Parts.emits_lost, and_self, and_true, true_and, implies_true, forall_const, hP]))

@[simp] theorem State.takeCells_outside {P : Parts} (s : State) (r n : Nat) (hP : P.rings = true ∧ (∀ n, P.regs (Reg.HR_HEAD n))) :
    (State.takeCells s r n).outside P = s.outside P := by
  unfold State.takeCells
  simp only [State.setFld_outside, State.setRing_outside, State.setReg_outside, State.push_outside, State.outside_ite, State.outside_bif, State.foldl_outside, State.foldl_outside_snd, State.foldl_outside_fst, ite_self, Bool.cond_self, Parts.emits_recs, Parts.emits_classLost, Parts.emits_host, Parts.emits_lost, and_self, and_true, true_and, implies_true, forall_const, hP]

@[simp] theorem State.blockComplete_outside {P : Parts} (s : State) (r : Nat) (origin : Option Nat) (sid bseq : Nat) (hP : P.msi = true ∧ (∀ n, P.regs (Reg.HR_BLOCKS n)) ∧ P.out = true ∧ (∀ n, P.regs (Reg.HR_STAT n)) ∧ P.rings = true ∧ P.regs Reg.MSIX_PBA) :
    (State.blockComplete s r origin sid bseq).outside P = s.outside P := by
  unfold State.blockComplete
  simp only [State.clear_outside, State.count_outside, State.notify_outside, State.setRing_outside, State.setReg_outside, State.push_outside, State.outside_ite, State.outside_bif, State.foldl_outside, State.foldl_outside_snd, State.foldl_outside_fst, ite_self, Bool.cond_self, Parts.emits_recs, Parts.emits_classLost, Parts.emits_host, Parts.emits_lost, and_self, and_true, true_and, implies_true, forall_const, hP]

@[simp] theorem State.grantRing_outside {P : Parts} (s : State) (r : Nat) (fuel : Nat) (hP : P.out = true ∧ P.regs Reg.FAB_DROP ∧ P.port = true ∧ (∀ n, P.regs (Reg.FP_UTIL n)) ∧ P.rings = true ∧ (∀ n, P.regs (Reg.HR_HEAD n))) :
    (State.grantRing s r fuel).outside P = s.outside P := by
  induction fuel generalizing s with
  | zero => rfl
  | succ fuel ih =>
    simp only [State.grantRing, State.inject_outside, State.setRing_outside, State.takeCells_outside, State.setReg_outside, State.push_outside, State.outside_ite, State.outside_bif, State.foldl_outside, State.foldl_outside_snd, State.foldl_outside_fst, ite_self, Bool.cond_self, Parts.emits_recs, Parts.emits_classLost, Parts.emits_host, Parts.emits_lost, and_self, and_true, true_and, implies_true, forall_const, hP, ih]
    try (repeat' (first | rfl | (split <;> try simp only [State.inject_outside, State.setRing_outside, State.takeCells_outside, State.setReg_outside, State.push_outside, State.outside_ite, State.outside_bif, State.foldl_outside, State.foldl_outside_snd, State.foldl_outside_fst, ite_self, Bool.cond_self, Parts.emits_recs, Parts.emits_classLost, Parts.emits_host, Parts.emits_lost, and_self, and_true, true_and, implies_true, forall_const, hP, ih])))

@[simp] theorem hrCfgWrite_outside {P : Parts} (s : State) (r : Nat) (v : Word) (hP : P.fresh = true ∧ P.regs Reg.FAB_DROP ∧ P.late = true ∧ (∀ n, P.regs (Reg.FP_UTIL n)) ∧ P.out = true ∧ (∀ n, P.regs (Reg.HR_CFG n)) ∧ P.port = true ∧ (∀ n, P.regs (Reg.HR_HEAD n)) ∧ P.rings = true ∧ (∀ n, P.regs (Reg.HR_STAT n)) ∧ (∀ n, P.regs (Reg.HR_TAIL n))) :
    (hrCfgWrite s r v).outside P = s.outside P := by
  unfold hrCfgWrite
  simp only [State.raise_outside, State.writeBits_outside, State.setRing_outside, State.noteWaits_outside, State.grantRing_outside, State.setReg_outside, State.push_outside, State.outside_ite, State.outside_bif, State.foldl_outside, State.foldl_outside_snd, State.foldl_outside_fst, ite_self, Bool.cond_self, Parts.emits_recs, Parts.emits_classLost, Parts.emits_host, Parts.emits_lost, and_self, and_true, true_and, implies_true, forall_const, hP]

@[simp] theorem hrCfgEnable_outside {P : Parts} (s : State) (r : Nat) (v : Word) (hP : P.fresh = true ∧ P.regs Reg.DEV_ABSENT_ADDR ∧ P.late = true ∧ P.regs Reg.DEV_ABSENT_WR ∧ P.out = true ∧ P.regs Reg.FAB_DROP ∧ P.port = true ∧ (∀ n, P.regs (Reg.FP_UTIL n)) ∧ P.rings = true ∧ (∀ n, P.regs (Reg.HR_CFG n)) ∧ (∀ n, P.regs (Reg.HR_HEAD n)) ∧ (∀ n, P.regs (Reg.HR_STAT n)) ∧ (∀ n, P.regs (Reg.HR_TAIL n))) :
    (hrCfgEnable s r v).outside P = s.outside P := by
  unfold hrCfgEnable
  simp only [State.writeAbsent_outside, hrCfgWrite_outside, State.setReg_outside, State.push_outside, State.outside_ite, State.outside_bif, State.foldl_outside, State.foldl_outside_snd, State.foldl_outside_fst, ite_self, Bool.cond_self, Parts.emits_recs, Parts.emits_classLost, Parts.emits_host, Parts.emits_lost, and_self, and_true, true_and, implies_true, forall_const, hP]

@[simp] theorem hrTailWrite_outside {P : Parts} (s : State) (r v : Nat) (hP : P.out = true ∧ P.regs Reg.DEV_ABSENT_ADDR ∧ P.port = true ∧ P.regs Reg.DEV_ABSENT_WR ∧ P.rings = true ∧ P.regs Reg.FAB_DROP ∧ (∀ n, P.regs (Reg.FP_UTIL n)) ∧ (∀ n, P.regs (Reg.HR_HEAD n)) ∧ (∀ n, P.regs (Reg.HR_STAT n)) ∧ (∀ n, P.regs (Reg.HR_TAIL n))) :
    (hrTailWrite s r v).outside P = s.outside P := by
  unfold hrTailWrite
  simp only [State.setFld_outside, State.raise_outside, State.writeAbsent_outside, State.setRing_outside, State.noteWaits_outside, State.grantRing_outside, State.setReg_outside, State.push_outside, State.outside_ite, State.outside_bif, State.foldl_outside, State.foldl_outside_snd, State.foldl_outside_fst, ite_self, Bool.cond_self, Parts.emits_recs, Parts.emits_classLost, Parts.emits_host, Parts.emits_lost, and_self, and_true, true_and, implies_true, forall_const, hP]

@[simp] theorem hostRingBlockWrite_outside {P : Parts} (s : State) (r : Nat) (hP : P.emits ∧ P.clk = true ∧ P.regs Reg.CLK_GATE_OPEN ∧ P.fab = true ∧ P.regs Reg.CLK_READY ∧ P.msi = true ∧ P.regs Reg.CLK_STAT ∧ P.out = true ∧ (∀ n, P.regs (Reg.FP_STAT n)) ∧ P.port = true ∧ (∀ n, P.regs (Reg.HR_BLOCKS n)) ∧ P.rings = true ∧ (∀ n, P.regs (Reg.HR_HEAD n)) ∧ P.streams = true ∧ (∀ n, P.regs (Reg.HR_STAT n)) ∧ P.regs Reg.MODE_STAT ∧ P.regs Reg.MSIX_PBA ∧ P.regs Reg.STR_SEGS ∧ P.regs Reg.STR_STAGE ∧ P.regs Reg.STR_STAT) :
    (hostRingBlockWrite s r).outside P = s.outside P := by
  unfold hostRingBlockWrite
  repeat' split
  all_goals first | rfl | simp only [State.put_outside, State.dmaDone_outside, State.noteWaits_outside, State.ackBlock_outside, State.takeCells_outside, State.blockComplete_outside, State.setReg_outside, State.push_outside, State.outside_ite, State.outside_bif, State.foldl_outside, State.foldl_outside_snd, State.foldl_outside_fst, ite_self, Bool.cond_self, Parts.emits_recs, Parts.emits_classLost, Parts.emits_host, Parts.emits_lost, and_self, and_true, true_and, implies_true, forall_const, hP]

@[simp] theorem hostRingStall_outside {P : Parts} (s : State) (r : Nat) (hP : P.emits ∧ P.rings = true ∧ (∀ n, P.regs (Reg.HR_STAT n)) ∧ P.regs Reg.STR_STAT) :
    (hostRingStall s r).outside P = s.outside P := by
  unfold hostRingStall
  simp only [State.raise_outside, State.setLive_outside, State.emit_outside, State.setRing_outside, State.setReg_outside, State.push_outside, State.outside_ite, State.outside_bif, State.foldl_outside, State.foldl_outside_snd, State.foldl_outside_fst, ite_self, Bool.cond_self, Parts.emits_recs, Parts.emits_classLost, Parts.emits_host, Parts.emits_lost, and_self, and_true, true_and, implies_true, forall_const, hP]
  repeat' (first | rfl | (split <;> try simp only [State.raise_outside, State.setLive_outside, State.emit_outside, State.setRing_outside, State.setReg_outside, State.push_outside, State.outside_ite, State.outside_bif, State.foldl_outside, State.foldl_outside_snd, State.foldl_outside_fst, ite_self, Bool.cond_self, Parts.emits_recs, Parts.emits_classLost, Parts.emits_host, Parts.emits_lost, and_self, and_true, true_and, implies_true, forall_const, hP]))

@[simp] theorem State.ackRemote_outside {P : Parts} (s : State) (r origin sid bseq : Nat) (hP : P.out = true ∧ P.regs Reg.FAB_DROP ∧ P.port = true ∧ (∀ n, P.regs (Reg.FP_UTIL n))) :
    (State.ackRemote s r origin sid bseq).outside P = s.outside P := by
  unfold State.ackRemote
  simp only [State.inject_outside, State.setReg_outside, State.push_outside, State.outside_ite, State.outside_bif, State.foldl_outside, State.foldl_outside_snd, State.foldl_outside_fst, ite_self, Bool.cond_self, Parts.emits_recs, Parts.emits_classLost, Parts.emits_host, Parts.emits_lost, and_self, and_true, true_and, implies_true, forall_const, hP]

@[simp] theorem streamReqRx_outside {P : Parts} (s : State) (pk : Packet) (hP : P.out = true ∧ P.regs Reg.FAB_DROP ∧ P.port = true ∧ (∀ n, P.regs (Reg.FP_UTIL n)) ∧ P.rings = true ∧ (∀ n, P.regs (Reg.HR_HEAD n))) :
    (streamReqRx s pk).outside P = s.outside P := by
  unfold streamReqRx
  simp only [State.inject_outside, State.setRing_outside, State.noteWaits_outside, State.grantRing_outside, State.ackRemote_outside, State.setReg_outside, State.push_outside, State.outside_ite, State.outside_bif, State.foldl_outside, State.foldl_outside_snd, State.foldl_outside_fst, ite_self, Bool.cond_self, Parts.emits_recs, Parts.emits_classLost, Parts.emits_host, Parts.emits_lost, and_self, and_true, true_and, implies_true, forall_const, hP]
  repeat' (first | rfl | (split <;> try simp only [State.inject_outside, State.setRing_outside, State.noteWaits_outside, State.grantRing_outside, State.ackRemote_outside, State.setReg_outside, State.push_outside, State.outside_ite, State.outside_bif, State.foldl_outside, State.foldl_outside_snd, State.foldl_outside_fst, ite_self, Bool.cond_self, Parts.emits_recs, Parts.emits_classLost, Parts.emits_host, Parts.emits_lost, and_self, and_true, true_and, implies_true, forall_const, hP]))

@[simp] theorem State.sendCells_outside {P : Parts} (s : State) (sid : Nat) (x : Stream) (t : Tx) (hP : P.out = true ∧ P.regs Reg.FAB_DROP ∧ P.port = true ∧ (∀ n, P.regs (Reg.FP_UTIL n))) :
    (State.sendCells s sid x t).outside P = s.outside P := by
  unfold State.sendCells
  simp only [State.inject_outside, State.setReg_outside, State.push_outside, State.outside_ite, State.outside_bif, State.foldl_outside, State.foldl_outside_snd, State.foldl_outside_fst, ite_self, Bool.cond_self, Parts.emits_recs, Parts.emits_classLost, Parts.emits_host, Parts.emits_lost, and_self, and_true, true_and, implies_true, forall_const, hP]

@[simp] theorem streamGrantRx_outside {P : Parts} (s : State) (pk : Packet) (hP : P.fab = true ∧ P.regs Reg.FAB_DROP ∧ P.out = true ∧ (∀ n, P.regs (Reg.FP_UTIL n)) ∧ P.port = true ∧ P.streams = true) :
    (streamGrantRx s pk).outside P = s.outside P := by
  unfold streamGrantRx
  simp only [State.setStream_outside, State.dropRequest_outside, State.sendCells_outside, State.setReg_outside, State.push_outside, State.outside_ite, State.outside_bif, State.foldl_outside, State.foldl_outside_snd, State.foldl_outside_fst, ite_self, Bool.cond_self, Parts.emits_recs, Parts.emits_classLost, Parts.emits_host, Parts.emits_lost, and_self, and_true, true_and, implies_true, forall_const, hP]
  repeat' (first | rfl | (split <;> try simp only [State.setStream_outside, State.dropRequest_outside, State.sendCells_outside, State.setReg_outside, State.push_outside, State.outside_ite, State.outside_bif, State.foldl_outside, State.foldl_outside_snd, State.foldl_outside_fst, ite_self, Bool.cond_self, Parts.emits_recs, Parts.emits_classLost, Parts.emits_host, Parts.emits_lost, and_self, and_true, true_and, implies_true, forall_const, hP]))

@[simp] theorem State.putCells_outside {P : Parts} (s : State) (r : Nat) (q : RingReq) (first : Nat) (cells : List (Nat × Bool)) (hP : P.clk = true ∧ P.regs Reg.CLK_GATE_OPEN ∧ P.fab = true ∧ P.regs Reg.CLK_READY ∧ P.host = true ∧ P.regs Reg.CLK_STAT ∧ P.msi = true ∧ P.regs Reg.FAB_DROP ∧ P.out = true ∧ (∀ n, P.regs (Reg.FP_STAT n)) ∧ P.port = true ∧ (∀ n, P.regs (Reg.FP_UTIL n)) ∧ P.rings = true ∧ (∀ n, P.regs (Reg.HR_BLOCKS n)) ∧ P.streams = true ∧ (∀ n, P.regs (Reg.HR_STAT n)) ∧ P.regs Reg.MODE_STAT ∧ P.regs Reg.MSIX_PBA) :
    (State.putCells s r q first cells).outside P = s.outside P := by
  unfold State.putCells
  simp only [State.put_outside, State.dmaDone_outside, State.setRing_outside, State.blockComplete_outside, State.ackRemote_outside, State.setReg_outside, State.push_outside, State.outside_ite, State.outside_bif, State.foldl_outside, State.foldl_outside_snd, State.foldl_outside_fst, ite_self, Bool.cond_self, Parts.emits_recs, Parts.emits_classLost, Parts.emits_host, Parts.emits_lost, and_self, and_true, true_and, implies_true, forall_const, hP]

@[simp] theorem streamDataRx_outside {P : Parts} (s : State) (pk : Packet) (hP : P.clk = true ∧ P.regs Reg.CLK_GATE_OPEN ∧ P.fab = true ∧ P.regs Reg.CLK_READY ∧ P.host = true ∧ P.regs Reg.CLK_STAT ∧ P.msi = true ∧ P.regs Reg.FAB_DROP ∧ P.out = true ∧ (∀ n, P.regs (Reg.FP_STAT n)) ∧ P.port = true ∧ (∀ n, P.regs (Reg.FP_UTIL n)) ∧ P.rings = true ∧ (∀ n, P.regs (Reg.HR_BLOCKS n)) ∧ P.streams = true ∧ (∀ n, P.regs (Reg.HR_STAT n)) ∧ P.regs Reg.MODE_STAT ∧ P.regs Reg.MSIX_PBA) :
    (streamDataRx s pk).outside P = s.outside P := by
  unfold streamDataRx
  simp only [State.ackRemote_outside, State.putCells_outside, State.setReg_outside, State.push_outside, State.outside_ite, State.outside_bif, State.foldl_outside, State.foldl_outside_snd, State.foldl_outside_fst, ite_self, Bool.cond_self, Parts.emits_recs, Parts.emits_classLost, Parts.emits_host, Parts.emits_lost, and_self, and_true, true_and, implies_true, forall_const, hP]
  repeat' (first | rfl | (split <;> try simp only [State.ackRemote_outside, State.putCells_outside, State.setReg_outside, State.push_outside, State.outside_ite, State.outside_bif, State.foldl_outside, State.foldl_outside_snd, State.foldl_outside_fst, ite_self, Bool.cond_self, Parts.emits_recs, Parts.emits_classLost, Parts.emits_host, Parts.emits_lost, and_self, and_true, true_and, implies_true, forall_const, hP]))

@[simp] theorem streamAckRx_outside {P : Parts} (s : State) (pk : Packet) (hP : P.emits ∧ P.fab = true ∧ P.regs Reg.FAB_DROP ∧ P.out = true ∧ (∀ n, P.regs (Reg.FP_UTIL n)) ∧ P.port = true ∧ P.regs Reg.STR_SEGS ∧ P.streams = true ∧ P.regs Reg.STR_STAGE ∧ P.regs Reg.STR_STAT) :
    (streamAckRx s pk).outside P = s.outside P := by
  unfold streamAckRx
  simp only [State.dropRequest_outside, State.ackBlock_outside, State.setReg_outside, State.push_outside, State.outside_ite, State.outside_bif, State.foldl_outside, State.foldl_outside_snd, State.foldl_outside_fst, ite_self, Bool.cond_self, Parts.emits_recs, Parts.emits_classLost, Parts.emits_host, Parts.emits_lost, and_self, and_true, true_and, implies_true, forall_const, hP]

@[simp] theorem streamResend_outside {P : Parts} (s : State) (sid : Nat) (hP : P.out = true ∧ P.regs Reg.FAB_DROP ∧ P.port = true ∧ (∀ n, P.regs (Reg.FP_UTIL n)) ∧ P.streams = true) :
    (streamResend s sid).outside P = s.outside P := by
  unfold streamResend
  simp only [State.setStream_outside, State.sendCells_outside, State.setReg_outside, State.push_outside, State.outside_ite, State.outside_bif, State.foldl_outside, State.foldl_outside_snd, State.foldl_outside_fst, ite_self, Bool.cond_self, Parts.emits_recs, Parts.emits_classLost, Parts.emits_host, Parts.emits_lost, and_self, and_true, true_and, implies_true, forall_const, hP]
  repeat' (first | rfl | (split <;> try simp only [State.setStream_outside, State.sendCells_outside, State.setReg_outside, State.push_outside, State.outside_ite, State.outside_bif, State.foldl_outside, State.foldl_outside_snd, State.foldl_outside_fst, ite_self, Bool.cond_self, Parts.emits_recs, Parts.emits_classLost, Parts.emits_host, Parts.emits_lost, and_self, and_true, true_and, implies_true, forall_const, hP]))

end Sys2Proof.Machine
end

