-- ==== Sys2Proof/Laws/FrameCommands.lean ====
section
/-!
SUPPORT. What the operations of Machine/Commands.lean write: each leaves every part of the state as it is but those its hypothesis names.
-/

set_option Elab.async false
set_option linter.unusedSimpArgs false
namespace Sys2Proof.Machine

@[simp] theorem descriptorFetch_outside {P : Parts} (s : State) (d : BitVec 256) (poisoned : Bool) (hP : P.fab = true ∧ P.regs Reg.FAB_DROP ∧ P.host = true ∧ (∀ n, P.regs (Reg.FP_UTIL n)) ∧ P.out = true ∧ P.regs Reg.HIF_CMD_HEAD ∧ P.port = true ∧ P.regs Reg.HIF_CMD_STAT) :
    (descriptorFetch s d poisoned).outside P = s.outside P := by
  unfold descriptorFetch
  simp only [State.setFld_outside, State.raise_outside, State.clear_outside, State.request_outside, State.setInflight_outside, State.outside_host, State.outside_time, State.setReg_outside, State.push_outside, State.outside_ite, State.outside_bif, State.foldl_outside, State.foldl_outside_snd, State.foldl_outside_fst, ite_self, Bool.cond_self, Parts.emits_recs, Parts.emits_classLost, Parts.emits_host, Parts.emits_lost, and_self, and_true, true_and, implies_true, forall_const, hP]
  repeat' (first | rfl | (split <;> try simp only [State.setFld_outside, State.raise_outside, State.clear_outside, State.request_outside, State.setInflight_outside, State.outside_host, State.outside_time, State.setReg_outside, State.push_outside, State.outside_ite, State.outside_bif, State.foldl_outside, State.foldl_outside_snd, State.foldl_outside_fst, ite_self, Bool.cond_self, Parts.emits_recs, Parts.emits_classLost, Parts.emits_host, Parts.emits_lost, and_self, and_true, true_and, implies_true, forall_const, hP]))

@[simp] theorem State.remoteAccess_outside {P : Parts} (s : State) (src : CmdSrc) (op tag target size : Nat) (pk : Packet) (hP : P.fab = true ∧ P.regs Reg.FAB_DROP ∧ P.fresh = true ∧ (∀ n, P.regs (Reg.FP_UTIL n)) ∧ P.host = true ∧ P.regs Reg.HIF_CMD_STAT ∧ P.out = true ∧ P.port = true) :
    (State.remoteAccess s src op tag target size pk).outside P = s.outside P := by
  unfold State.remoteAccess
  simp only [State.request_outside, State.settle_outside, State.accept_outside, State.setReg_outside, State.push_outside, State.outside_ite, State.outside_bif, State.foldl_outside, State.foldl_outside_snd, State.foldl_outside_fst, ite_self, Bool.cond_self, Parts.emits_recs, Parts.emits_classLost, Parts.emits_host, Parts.emits_lost, and_self, and_true, true_and, implies_true, forall_const, hP]

@[simp] theorem regRead_outside {P : Parts} (s : State) (src : CmdSrc) (tag target size off : Nat) (hP : P.emits ∧ P.cells = true ∧ P.regs Reg.CAL_SEL ∧ P.chan = true ∧ P.regs Reg.CLK_GATE_OPEN ∧ P.clk = true ∧ P.regs Reg.CLK_READY ∧ P.clu = true ∧ P.regs Reg.CLK_STAT ∧ P.drc = true ∧ P.regs Reg.CLK_WAKE_ACC ∧ P.ecc = true ∧ (∀ n, P.regs (Reg.CL_STAT n)) ∧ P.fab = true ∧ P.regs Reg.DRC_CATCHUP_CNT ∧ P.fresh = true ∧ (∀ n, P.regs (Reg.DRC_PORT_STAT n)) ∧ P.latch = true ∧ P.regs Reg.DRC_SR_TIME ∧ P.out = true ∧ P.regs Reg.DRC_STAT ∧ P.port = true ∧ P.regs Reg.ECC_CE_CNT0 ∧ P.rate = true ∧ P.regs Reg.ECC_CE_CNT1 ∧ P.res = true ∧ P.regs Reg.ECC_INJ ∧ P.streams = true ∧ P.regs Reg.ECC_LOG_CTRL ∧ P.wm = true ∧ P.regs Reg.ECC_POISON_CNT ∧ (∀ n, P.regs (Reg.ECC_REMAP n)) ∧ P.regs Reg.ECC_RMW_CNT ∧ P.regs Reg.ECC_STAT ∧ P.regs Reg.ECC_UE_CNT ∧ P.regs Reg.ENG_NODE_SEL ∧ P.regs Reg.FAB_DROP ∧ P.regs Reg.FAB_TIME_LO ∧ (∀ n, P.regs (Reg.FP_STAT n)) ∧ (∀ n, P.regs (Reg.FP_UTIL n)) ∧ P.regs Reg.HIF_CMD_STAT ∧ P.regs Reg.HIF_TYPE_SEL ∧ P.regs Reg.MODE_STAT ∧ P.regs Reg.STR_SEL ∧ (∀ n, P.regs n)) :
    (regRead s src tag target size off).outside P = s.outside P := by
  unfold regRead
  simp only [State.settle_outside, State.readAccess_outside, State.remoteAccess_outside, State.setReg_outside, State.push_outside, State.outside_ite, State.outside_bif, State.foldl_outside, State.foldl_outside_snd, State.foldl_outside_fst, ite_self, Bool.cond_self, Parts.emits_recs, Parts.emits_classLost, Parts.emits_host, Parts.emits_lost, and_self, and_true, true_and, implies_true, forall_const, hP]

@[simp] theorem chkConvert_outside {P : Parts} (s : State) (src : CmdSrc) (tag bank point window : Nat) (urgent : Bool) (hP : P.bank = true ∧ (∀ n, P.regs (Reg.BANK_DROP_CNT n)) ∧ P.fab = true ∧ (∀ n, P.regs (Reg.BANK_STAT n)) ∧ P.fresh = true ∧ P.regs Reg.FAB_DROP ∧ P.host = true ∧ (∀ n, P.regs (Reg.FP_UTIL n)) ∧ P.out = true ∧ P.regs Reg.HIF_CMD_STAT ∧ P.port = true) :
    (chkConvert s src tag bank point window urgent).outside P = s.outside P := by
  unfold chkConvert
  simp only [State.settle_outside, State.requestConversion_outside, State.setReg_outside, State.push_outside, State.outside_ite, State.outside_bif, State.foldl_outside, State.foldl_outside_snd, State.foldl_outside_fst, ite_self, Bool.cond_self, Parts.emits_recs, Parts.emits_classLost, Parts.emits_host, Parts.emits_lost, and_self, and_true, true_and, implies_true, forall_const, hP]

@[simp] theorem State.calSystem_outside {P : Parts} (s : State) (src : CmdSrc) (tag ch n : Nat) (full : Bool) (t : Int) (hP : P.bank = true ∧ P.regs Reg.CAL_STAT ∧ P.fab = true ∧ P.regs Reg.FAB_DROP ∧ P.fresh = true ∧ (∀ n, P.regs (Reg.FP_UTIL n)) ∧ P.host = true ∧ P.regs Reg.HIF_CMD_STAT ∧ P.out = true ∧ P.port = true) :
    (State.calSystem s src tag ch n full t).outside P = s.outside P := by
  unfold State.calSystem
  simp only [State.settle_outside, State.requestCalibration_outside, State.setReg_outside, State.push_outside, State.outside_ite, State.outside_bif, State.foldl_outside, State.foldl_outside_snd, State.foldl_outside_fst, ite_self, Bool.cond_self, Parts.emits_recs, Parts.emits_classLost, Parts.emits_host, Parts.emits_lost, and_self, and_true, true_and, implies_true, forall_const, hP]

@[simp] theorem calSystemZero_outside {P : Parts} (s : State) (src : CmdSrc) (tag ch n : Nat) (hP : P.bank = true ∧ P.regs Reg.CAL_STAT ∧ P.fab = true ∧ P.regs Reg.FAB_DROP ∧ P.fresh = true ∧ (∀ n, P.regs (Reg.FP_UTIL n)) ∧ P.host = true ∧ P.regs Reg.HIF_CMD_STAT ∧ P.out = true ∧ P.port = true) :
    (calSystemZero s src tag ch n).outside P = s.outside P := by
  unfold calSystemZero
  simp only [State.calSystem_outside, State.setReg_outside, State.push_outside, State.outside_ite, State.outside_bif, State.foldl_outside, State.foldl_outside_snd, State.foldl_outside_fst, ite_self, Bool.cond_self, Parts.emits_recs, Parts.emits_classLost, Parts.emits_host, Parts.emits_lost, and_self, and_true, true_and, implies_true, forall_const, hP]

@[simp] theorem calSystemFull_outside {P : Parts} (s : State) (src : CmdSrc) (tag ch n : Nat) (t : Int) (hP : P.bank = true ∧ P.regs Reg.CAL_STAT ∧ P.fab = true ∧ P.regs Reg.FAB_DROP ∧ P.fresh = true ∧ (∀ n, P.regs (Reg.FP_UTIL n)) ∧ P.host = true ∧ P.regs Reg.HIF_CMD_STAT ∧ P.out = true ∧ P.port = true) :
    (calSystemFull s src tag ch n t).outside P = s.outside P := by
  unfold calSystemFull
  simp only [State.calSystem_outside, State.setReg_outside, State.push_outside, State.outside_ite, State.outside_bif, State.foldl_outside, State.foldl_outside_snd, State.foldl_outside_fst, ite_self, Bool.cond_self, Parts.emits_recs, Parts.emits_classLost, Parts.emits_host, Parts.emits_lost, and_self, and_true, true_and, implies_true, forall_const, hP]

@[simp] theorem calCommit_outside {P : Parts} (s : State) (src : CmdSrc) (tag : Nat) (hP : P.commit = true ∧ P.regs Reg.CAL_STAT ∧ P.fab = true ∧ P.regs Reg.FAB_DROP ∧ P.fresh = true ∧ (∀ n, P.regs (Reg.FP_UTIL n)) ∧ P.host = true ∧ P.regs Reg.HIF_CMD_STAT ∧ P.out = true ∧ P.port = true) :
    (calCommit s src tag).outside P = s.outside P := by
  unfold calCommit
  simp only [State.settle_outside, State.requestCommit_outside, State.setReg_outside, State.push_outside, State.outside_ite, State.outside_bif, State.foldl_outside, State.foldl_outside_snd, State.foldl_outside_fst, ite_self, Bool.cond_self, Parts.emits_recs, Parts.emits_classLost, Parts.emits_host, Parts.emits_lost, and_self, and_true, true_and, implies_true, forall_const, hP]

@[simp] theorem responseRx_outside {P : Parts} (s : State) (pkt : Packet) (hP : P.fab = true ∧ P.regs Reg.FAB_DROP ∧ P.fresh = true ∧ (∀ n, P.regs (Reg.FP_UTIL n)) ∧ P.host = true ∧ P.regs Reg.HIF_CMD_STAT ∧ P.out = true ∧ P.port = true) :
    (responseRx s pkt).outside P = s.outside P := by
  unfold responseRx
  repeat' split
  all_goals first | rfl | simp only [State.dropRequest_outside, State.settle_outside, State.setReg_outside, State.push_outside, State.outside_ite, State.outside_bif, State.foldl_outside, State.foldl_outside_snd, State.foldl_outside_fst, ite_self, Bool.cond_self, Parts.emits_recs, Parts.emits_classLost, Parts.emits_host, Parts.emits_lost, and_self, and_true, true_and, implies_true, forall_const, hP]

@[simp] theorem requestTimeout_outside {P : Parts} (s : State) (tag : Nat) (hP : P.emits ∧ P.fab = true ∧ P.regs Reg.FAB_CNT ∧ P.fresh = true ∧ P.regs Reg.FAB_DROP ∧ P.out = true ∧ P.regs Reg.FAB_STAT ∧ P.port = true ∧ (∀ n, P.regs (Reg.FP_UTIL n)) ∧ P.streams = true ∧ P.regs Reg.HIF_CMD_STAT) :
    (requestTimeout s tag).outside P = s.outside P := by
  unfold requestTimeout
  repeat' split
  all_goals first | rfl | simp only [State.raise_outside, State.count_outside, State.inject_outside, State.dropRequest_outside, State.settle_outside, State.askAgain_outside, State.eventBack_outside, State.outside_fab, State.setReg_outside, State.push_outside, State.outside_ite, State.outside_bif, State.foldl_outside, State.foldl_outside_snd, State.foldl_outside_fst, ite_self, Bool.cond_self, Parts.emits_recs, Parts.emits_classLost, Parts.emits_host, Parts.emits_lost, and_self, and_true, true_and, implies_true, forall_const, hP]

@[simp] theorem requestTimedOut_outside {P : Parts} (s : State) (tag : Nat) (hP : P.emits ∧ P.clk = true ∧ P.regs Reg.CLK_READY ∧ P.fab = true ∧ P.regs Reg.CLK_SRC ∧ P.fresh = true ∧ P.regs Reg.CLK_STAT ∧ P.out = true ∧ P.regs Reg.FAB_CNT ∧ P.port = true ∧ P.regs Reg.FAB_DROP ∧ P.streams = true ∧ P.regs Reg.FAB_STAT ∧ (∀ n, P.regs (Reg.FP_STAT n)) ∧ (∀ n, P.regs (Reg.FP_UTIL n)) ∧ P.regs Reg.HIF_CMD_STAT) :
    (requestTimedOut s tag).outside P = s.outside P := by
  unfold requestTimedOut
  simp only [State.nextMove_outside, requestTimeout_outside, State.setReg_outside, State.push_outside, State.outside_ite, State.outside_bif, State.foldl_outside, State.foldl_outside_snd, State.foldl_outside_fst, ite_self, Bool.cond_self, Parts.emits_recs, Parts.emits_classLost, Parts.emits_host, Parts.emits_lost, and_self, and_true, true_and, implies_true, forall_const, hP]

@[simp] theorem commandPacketRx_outside {P : Parts} (s : State) (origin tag : Nat) (d : BitVec 256) (hP : P.fab = true ∧ P.regs Reg.FAB_DROP ∧ P.fresh = true ∧ (∀ n, P.regs (Reg.FP_UTIL n)) ∧ P.host = true ∧ P.regs Reg.HIF_CMD_STAT ∧ P.out = true ∧ P.port = true) :
    (commandPacketRx s origin tag d).outside P = s.outside P := by
  unfold commandPacketRx
  simp only [State.inject_outside, State.answer_outside, State.settle_outside, State.setReg_outside, State.push_outside, State.outside_ite, State.outside_bif, State.foldl_outside, State.foldl_outside_snd, State.foldl_outside_fst, ite_self, Bool.cond_self, Parts.emits_recs, Parts.emits_classLost, Parts.emits_host, Parts.emits_lost, and_self, and_true, true_and, implies_true, forall_const, hP]
  repeat' (first | rfl | (split <;> try simp only [State.inject_outside, State.answer_outside, State.settle_outside, State.setReg_outside, State.push_outside, State.outside_ite, State.outside_bif, State.foldl_outside, State.foldl_outside_snd, State.foldl_outside_fst, ite_self, Bool.cond_self, Parts.emits_recs, Parts.emits_classLost, Parts.emits_host, Parts.emits_lost, and_self, and_true, true_and, implies_true, forall_const, hP]))

@[simp] theorem State.readDram_outside {P : Parts} (s : State) (pk : Packet) (hP : P.emits ∧ P.cells = true ∧ P.regs Reg.ECC_CE_CNT0 ∧ P.ecc = true ∧ P.regs Reg.ECC_CE_CNT1 ∧ P.rate = true ∧ P.regs Reg.ECC_INJ ∧ P.regs Reg.ECC_LOG_CTRL ∧ P.regs Reg.ECC_POISON_CNT ∧ (∀ n, P.regs (Reg.ECC_REMAP n)) ∧ P.regs Reg.ECC_RMW_CNT ∧ P.regs Reg.ECC_STAT ∧ P.regs Reg.ECC_UE_CNT) :
    (State.readDram s pk).2.outside P = s.outside P := by
  unfold State.readDram
  split
  · rfl
  · dsimp only
    exact State.readCells_outside _ _ _ _ (by simp only [hP, and_self, implies_true])

@[simp] theorem State.readRegs_outside {P : Parts} (s : State) (pk : Packet) (hP : P.emits ∧ P.cells = true ∧ P.regs Reg.CAL_SEL ∧ P.chan = true ∧ P.regs Reg.CLK_GATE_OPEN ∧ P.clk = true ∧ P.regs Reg.CLK_READY ∧ P.clu = true ∧ P.regs Reg.CLK_STAT ∧ P.drc = true ∧ P.regs Reg.CLK_WAKE_ACC ∧ P.ecc = true ∧ (∀ n, P.regs (Reg.CL_STAT n)) ∧ P.fab = true ∧ P.regs Reg.DRC_CATCHUP_CNT ∧ P.fresh = true ∧ (∀ n, P.regs (Reg.DRC_PORT_STAT n)) ∧ P.latch = true ∧ P.regs Reg.DRC_SR_TIME ∧ P.out = true ∧ P.regs Reg.DRC_STAT ∧ P.port = true ∧ P.regs Reg.ECC_CE_CNT0 ∧ P.rate = true ∧ P.regs Reg.ECC_CE_CNT1 ∧ P.res = true ∧ P.regs Reg.ECC_INJ ∧ P.streams = true ∧ P.regs Reg.ECC_LOG_CTRL ∧ P.wm = true ∧ P.regs Reg.ECC_POISON_CNT ∧ (∀ n, P.regs (Reg.ECC_REMAP n)) ∧ P.regs Reg.ECC_RMW_CNT ∧ P.regs Reg.ECC_STAT ∧ P.regs Reg.ECC_UE_CNT ∧ P.regs Reg.ENG_NODE_SEL ∧ P.regs Reg.FAB_TIME_LO ∧ (∀ n, P.regs (Reg.FP_STAT n)) ∧ (∀ n, P.regs (Reg.FP_UTIL n)) ∧ P.regs Reg.HIF_TYPE_SEL ∧ P.regs Reg.MODE_STAT ∧ P.regs Reg.STR_SEL ∧ (∀ n, P.regs n)) :
    (State.readRegs s pk).2.outside P = s.outside P := by
  unfold State.readRegs
  repeat' split
  all_goals first | rfl | simp only [State.readAccess_outside, State.setReg_outside, State.push_outside, State.outside_ite, State.outside_bif, State.foldl_outside, State.foldl_outside_snd, State.foldl_outside_fst, ite_self, Bool.cond_self, Parts.emits_recs, Parts.emits_classLost, Parts.emits_host, Parts.emits_lost, and_self, and_true, true_and, implies_true, forall_const, hP]

@[simp] theorem State.readPacket_outside {P : Parts} (s : State) (pk : Packet) (hP : P.emits ∧ P.cells = true ∧ P.regs Reg.CAL_SEL ∧ P.chan = true ∧ P.regs Reg.CLK_GATE_OPEN ∧ P.clk = true ∧ P.regs Reg.CLK_READY ∧ P.clu = true ∧ P.regs Reg.CLK_STAT ∧ P.drc = true ∧ P.regs Reg.CLK_WAKE_ACC ∧ P.ecc = true ∧ (∀ n, P.regs (Reg.CL_STAT n)) ∧ P.fab = true ∧ P.regs Reg.DRC_CATCHUP_CNT ∧ P.fresh = true ∧ (∀ n, P.regs (Reg.DRC_PORT_STAT n)) ∧ P.latch = true ∧ P.regs Reg.DRC_SR_TIME ∧ P.out = true ∧ P.regs Reg.DRC_STAT ∧ P.port = true ∧ P.regs Reg.ECC_CE_CNT0 ∧ P.rate = true ∧ P.regs Reg.ECC_CE_CNT1 ∧ P.res = true ∧ P.regs Reg.ECC_INJ ∧ P.streams = true ∧ P.regs Reg.ECC_LOG_CTRL ∧ P.wm = true ∧ P.regs Reg.ECC_POISON_CNT ∧ (∀ n, P.regs (Reg.ECC_REMAP n)) ∧ P.regs Reg.ECC_RMW_CNT ∧ P.regs Reg.ECC_STAT ∧ P.regs Reg.ECC_UE_CNT ∧ P.regs Reg.ENG_NODE_SEL ∧ P.regs Reg.FAB_TIME_LO ∧ (∀ n, P.regs (Reg.FP_STAT n)) ∧ (∀ n, P.regs (Reg.FP_UTIL n)) ∧ P.regs Reg.HIF_TYPE_SEL ∧ P.regs Reg.MODE_STAT ∧ P.regs Reg.STR_SEL ∧ (∀ n, P.regs n)) :
    (State.readPacket s pk).2.outside P = s.outside P := by
  unfold State.readPacket
  repeat' split
  all_goals first | rfl | simp only [State.readDram_outside, State.readRegs_outside, State.setReg_outside, State.push_outside, State.outside_ite, State.outside_bif, State.foldl_outside, State.foldl_outside_snd, State.foldl_outside_fst, ite_self, Bool.cond_self, Parts.emits_recs, Parts.emits_classLost, Parts.emits_host, Parts.emits_lost, and_self, and_true, true_and, implies_true, forall_const, hP]

@[simp] theorem readPacketRx_outside {P : Parts} (s : State) (pkt : Packet) (hP : P.emits ∧ P.cells = true ∧ P.regs Reg.CAL_SEL ∧ P.chan = true ∧ P.regs Reg.CLK_GATE_OPEN ∧ P.clk = true ∧ P.regs Reg.CLK_READY ∧ P.clu = true ∧ P.regs Reg.CLK_STAT ∧ P.drc = true ∧ P.regs Reg.CLK_WAKE_ACC ∧ P.ecc = true ∧ (∀ n, P.regs (Reg.CL_STAT n)) ∧ P.fab = true ∧ P.regs Reg.DRC_CATCHUP_CNT ∧ P.fresh = true ∧ (∀ n, P.regs (Reg.DRC_PORT_STAT n)) ∧ P.latch = true ∧ P.regs Reg.DRC_SR_TIME ∧ P.out = true ∧ P.regs Reg.DRC_STAT ∧ P.port = true ∧ P.regs Reg.ECC_CE_CNT0 ∧ P.rate = true ∧ P.regs Reg.ECC_CE_CNT1 ∧ P.res = true ∧ P.regs Reg.ECC_INJ ∧ P.streams = true ∧ P.regs Reg.ECC_LOG_CTRL ∧ P.wm = true ∧ P.regs Reg.ECC_POISON_CNT ∧ (∀ n, P.regs (Reg.ECC_REMAP n)) ∧ P.regs Reg.ECC_RMW_CNT ∧ P.regs Reg.ECC_STAT ∧ P.regs Reg.ECC_UE_CNT ∧ P.regs Reg.ENG_NODE_SEL ∧ P.regs Reg.FAB_DROP ∧ P.regs Reg.FAB_TIME_LO ∧ (∀ n, P.regs (Reg.FP_STAT n)) ∧ (∀ n, P.regs (Reg.FP_UTIL n)) ∧ P.regs Reg.HIF_TYPE_SEL ∧ P.regs Reg.MODE_STAT ∧ P.regs Reg.STR_SEL ∧ (∀ n, P.regs n)) :
    (readPacketRx s pkt).outside P = s.outside P := by
  unfold readPacketRx
  repeat' split
  all_goals first | rfl | simp only [State.inject_outside, State.answer_outside, State.readPacket_outside, State.setReg_outside, State.push_outside, State.outside_ite, State.outside_bif, State.foldl_outside, State.foldl_outside_snd, State.foldl_outside_fst, ite_self, Bool.cond_self, Parts.emits_recs, Parts.emits_classLost, Parts.emits_host, Parts.emits_lost, and_self, and_true, true_and, implies_true, forall_const, hP]

end Sys2Proof.Machine
end

