-- ==== Sys2Proof/Laws/FrameHostDma.lean ====
section
/-!
SUPPORT. What the operations of Machine/HostDma.lean write: each leaves every part of the state as it is but those its hypothesis names.
-/

set_option Elab.async false
set_option linter.unusedSimpArgs false
namespace Sys2Proof.Machine

@[simp] theorem dmaBlockWrite_outside {P : Parts} (s : State) (r : Nat) (hP : P.emits ∧ P.clk = true ∧ P.regs Reg.CLK_GATE_OPEN ∧ P.fab = true ∧ P.regs Reg.CLK_READY ∧ P.msi = true ∧ P.regs Reg.CLK_STAT ∧ P.out = true ∧ (∀ n, P.regs (Reg.FP_STAT n)) ∧ P.port = true ∧ (∀ n, P.regs (Reg.HR_BLOCKS n)) ∧ P.rings = true ∧ (∀ n, P.regs (Reg.HR_HEAD n)) ∧ P.streams = true ∧ (∀ n, P.regs (Reg.HR_STAT n)) ∧ P.regs Reg.MODE_STAT ∧ P.regs Reg.MSIX_PBA ∧ P.regs Reg.STR_SEGS ∧ P.regs Reg.STR_STAGE ∧ P.regs Reg.STR_STAT) :
    (dmaBlockWrite s r).outside P = s.outside P := by
  unfold dmaBlockWrite
  repeat' split
  all_goals first | rfl | simp only [hostRingBlockWrite_outside, State.outside_host, State.setReg_outside, State.push_outside, State.outside_ite, State.outside_bif, State.foldl_outside, State.foldl_outside_snd, State.foldl_outside_fst, ite_self, Bool.cond_self, Parts.emits_recs, Parts.emits_classLost, Parts.emits_host, Parts.emits_lost, and_self, and_true, true_and, implies_true, forall_const, hP]

end Sys2Proof.Machine
end

