-- ==== Sys2Proof/Laws/FrameHostLink.lean ====
section
/-!
SUPPORT. What the operations of Machine/HostLink.lean write: each leaves every part of the state as it is but those its hypothesis names.
-/

set_option Elab.async false
set_option linter.unusedSimpArgs false
namespace Sys2Proof.Machine

@[simp] theorem State.configure_outside {P : Parts} (s : State) (hP : P.fresh = true ∧ P.host = true) :
    (State.configure s).outside P = s.outside P := by
  unfold State.configure
  dsimp only
  rw [State.outside_host (by simp only [hP])]
  simp only [State.freeNat_outside, hP]

@[simp] theorem pcieL0_outside {P : Parts} (s : State) (hP : P.fab = true ∧ P.regs Reg.HIF_STAT ∧ P.fresh = true ∧ P.host = true ∧ P.out = true ∧ P.port = true) :
    (pcieL0 s).outside P = s.outside P := by
  unfold pcieL0
  simp only [State.setFld_outside, State.raise_outside, State.freeNat_outside, State.advertise_outside, State.configure_outside, State.outside_host, State.setReg_outside, State.push_outside, State.outside_ite, State.outside_bif, State.foldl_outside, State.foldl_outside_snd, State.foldl_outside_fst, ite_self, Bool.cond_self, Parts.emits_recs, Parts.emits_classLost, Parts.emits_host, Parts.emits_lost, and_self, and_true, true_and, implies_true, forall_const, hP]

@[simp] theorem pcieLinkDown_outside {P : Parts} (s : State) (hP : P.regs Reg.HIF_DMA_BUSY ∧ P.regs Reg.HIF_STAT) :
    (pcieLinkDown s).outside P = s.outside P := by
  unfold pcieLinkDown
  simp only [State.clear_outside, State.setReg_outside, State.push_outside, State.outside_ite, State.outside_bif, State.foldl_outside, State.foldl_outside_snd, State.foldl_outside_fst, ite_self, Bool.cond_self, Parts.emits_recs, Parts.emits_classLost, Parts.emits_host, Parts.emits_lost, and_self, and_true, true_and, implies_true, forall_const, hP]

@[simp] theorem pcieLinkReturn_outside {P : Parts} (s : State) (hP : P.regs Reg.HIF_STAT) :
    (pcieLinkReturn s).outside P = s.outside P := by
  unfold pcieLinkReturn
  simp only [State.raise_outside, State.setReg_outside, State.push_outside, State.outside_ite, State.outside_bif, State.foldl_outside, State.foldl_outside_snd, State.foldl_outside_fst, ite_self, Bool.cond_self, Parts.emits_recs, Parts.emits_classLost, Parts.emits_host, Parts.emits_lost, and_self, and_true, true_and, implies_true, forall_const, hP]

@[simp] theorem d3hotEntry_outside {P : Parts} (s : State) (enter : Bool) (hP : P.host = true ∧ P.regs Reg.HIF_STAT) :
    (d3hotEntry s enter).outside P = s.outside P := by
  unfold d3hotEntry
  simp only [State.setFld_outside, State.outside_host, State.setReg_outside, State.push_outside, State.outside_ite, State.outside_bif, State.foldl_outside, State.foldl_outside_snd, State.foldl_outside_fst, ite_self, Bool.cond_self, Parts.emits_recs, Parts.emits_classLost, Parts.emits_host, Parts.emits_lost, and_self, and_true, true_and, implies_true, forall_const, hP]

@[simp] theorem State.bar2Cell_outside {P : Parts} (s : State) (cell : Nat) (hP : P.emits ∧ P.cells = true ∧ P.regs Reg.ECC_CE_CNT0 ∧ P.ecc = true ∧ P.regs Reg.ECC_CE_CNT1 ∧ P.rate = true ∧ P.regs Reg.ECC_INJ ∧ P.regs Reg.ECC_LOG_CTRL ∧ P.regs Reg.ECC_POISON_CNT ∧ (∀ n, P.regs (Reg.ECC_REMAP n)) ∧ P.regs Reg.ECC_RMW_CNT ∧ P.regs Reg.ECC_STAT ∧ P.regs Reg.ECC_UE_CNT) :
    (State.bar2Cell s cell).2.outside P = s.outside P := by
  unfold State.bar2Cell
  repeat' split
  all_goals first | rfl | simp only [State.portRead_outside, State.setReg_outside, State.push_outside, State.outside_ite, State.outside_bif, State.foldl_outside, State.foldl_outside_snd, State.foldl_outside_fst, ite_self, Bool.cond_self, Parts.emits_recs, Parts.emits_classLost, Parts.emits_host, Parts.emits_lost, and_self, and_true, true_and, implies_true, forall_const, hP]

@[simp] theorem bar2Read_outside {P : Parts} (s : State) (addr size : Nat) (hP : P.emits ∧ P.cells = true ∧ P.regs Reg.ECC_CE_CNT0 ∧ P.ecc = true ∧ P.regs Reg.ECC_CE_CNT1 ∧ P.out = true ∧ P.regs Reg.ECC_INJ ∧ P.rate = true ∧ P.regs Reg.ECC_LOG_CTRL ∧ P.regs Reg.ECC_POISON_CNT ∧ (∀ n, P.regs (Reg.ECC_REMAP n)) ∧ P.regs Reg.ECC_RMW_CNT ∧ P.regs Reg.ECC_STAT ∧ P.regs Reg.ECC_UE_CNT) :
    (bar2Read s addr size).outside P = s.outside P := by
  unfold bar2Read
  split
  · rfl
  · dsimp only
    rw [State.put_outside _ _ (by simp only [hP])]
    rw [State.foldl_outside_start]
    intro p i
    rw [snd_mk]
    exact State.bar2Cell_outside _ _ (by simp only [hP, and_self, implies_true])

@[simp] theorem bar2Write_outside {P : Parts} (s : State) (addr : Nat) (data : List (BitVec 8)) (hP : P.emits ∧ P.cells = true ∧ P.regs Reg.DEV_ABSENT_WR ∧ P.ecc = true ∧ P.regs Reg.ECC_CE_CNT0 ∧ P.rate = true ∧ P.regs Reg.ECC_CE_CNT1 ∧ P.regs Reg.ECC_INJ ∧ P.regs Reg.ECC_LOG_CTRL ∧ P.regs Reg.ECC_POISON_CNT ∧ (∀ n, P.regs (Reg.ECC_REMAP n)) ∧ P.regs Reg.ECC_RMW_CNT ∧ P.regs Reg.ECC_STAT ∧ P.regs Reg.ECC_UE_CNT ∧ P.regs Reg.HIF_STAT ∧ P.regs Reg.HIF_WIN_DROP) :
    (bar2Write s addr data).outside P = s.outside P := by
  unfold bar2Write
  simp only [State.raise_outside, State.count_outside, narrowWrite_outside, State.setReg_outside, State.push_outside, State.outside_ite, State.outside_bif, State.foldl_outside, State.foldl_outside_snd, State.foldl_outside_fst, ite_self, Bool.cond_self, Parts.emits_recs, Parts.emits_classLost, Parts.emits_host, Parts.emits_lost, and_self, and_true, true_and, implies_true, forall_const, hP]

@[simp] theorem cmdRingEnable_outside {P : Parts} (s : State) (v : Word) (hP : P.fresh = true ∧ P.regs Reg.DEV_ABSENT_ADDR ∧ P.late = true ∧ P.regs Reg.DEV_ABSENT_WR ∧ P.regs Reg.HIF_CMD_CFG ∧ P.regs Reg.HIF_CMD_DB ∧ P.regs Reg.HIF_CMD_HEAD ∧ P.regs Reg.HIF_CMD_STAT) :
    (cmdRingEnable s v).outside P = s.outside P := by
  unfold cmdRingEnable
  simp only [State.writeJudged_outside, State.writeAbsent_outside, State.setReg_outside, State.push_outside, State.outside_ite, State.outside_bif, State.foldl_outside, State.foldl_outside_snd, State.foldl_outside_fst, ite_self, Bool.cond_self, Parts.emits_recs, Parts.emits_classLost, Parts.emits_host, Parts.emits_lost, and_self, and_true, true_and, implies_true, forall_const, hP]

@[simp] theorem cmdDoorbell_outside {P : Parts} (s : State) (tail : Nat) (hP : P.emits ∧ P.cells = true ∧ P.regs Reg.CLK_GATE_OPEN ∧ P.chan = true ∧ P.regs Reg.CLK_READY ∧ P.clk = true ∧ P.regs Reg.CLK_STAT ∧ P.clu = true ∧ P.regs Reg.CLK_WAKE_ACC ∧ P.drc = true ∧ (∀ n, P.regs (Reg.CL_STAT n)) ∧ P.ecc = true ∧ P.regs Reg.DEV_ABSENT_ADDR ∧ P.fab = true ∧ P.regs Reg.DEV_ABSENT_WR ∧ P.out = true ∧ P.regs Reg.DRC_CATCHUP_CNT ∧ P.port = true ∧ P.regs Reg.DRC_SR_TIME ∧ P.rate = true ∧ P.regs Reg.DRC_STAT ∧ P.streams = true ∧ P.regs Reg.ECC_CE_CNT0 ∧ P.regs Reg.ECC_CE_CNT1 ∧ P.regs Reg.ECC_INJ ∧ P.regs Reg.ECC_LOG_CTRL ∧ P.regs Reg.ECC_POISON_CNT ∧ (∀ n, P.regs (Reg.ECC_REMAP n)) ∧ P.regs Reg.ECC_RMW_CNT ∧ P.regs Reg.ECC_STAT ∧ P.regs Reg.ECC_UE_CNT ∧ (∀ n, P.regs (Reg.FP_STAT n)) ∧ P.regs Reg.HIF_CMD_DB ∧ P.regs Reg.HIF_CMD_STAT ∧ P.regs Reg.MODE_STAT) :
    (cmdDoorbell s tail).outside P = s.outside P := by
  unfold cmdDoorbell
  simp only [State.setFld_outside, State.raise_outside, State.count_outside, State.writeAbsent_outside, State.leaveDeep_outside, State.reach_outside, State.setReg_outside, State.push_outside, State.outside_ite, State.outside_bif, State.foldl_outside, State.foldl_outside_snd, State.foldl_outside_fst, ite_self, Bool.cond_self, Parts.emits_recs, Parts.emits_classLost, Parts.emits_host, Parts.emits_lost, and_self, and_true, true_and, implies_true, forall_const, hP]

end Sys2Proof.Machine
end

