-- ==== Sys2Proof/Laws/FrameImage.lean ====
section
/-!
SUPPORT. What the operations of Machine/Image.lean write: each leaves every part of the state as it is but those its hypothesis names.
-/

set_option Elab.async false
set_option linter.unusedSimpArgs false
namespace Sys2Proof.Machine

@[simp] theorem State.applyDevice_outside {P : Parts} (s : State) (bs : List (BitVec 8)) (hP : P.bootu = true ∧ P.regs Reg.PACER_BASE_S ∧ P.eng = true ∧ P.regs Reg.PACER_BASE_V ∧ P.host = true ∧ P.regs Reg.PACER_CFG ∧ P.pacer = true ∧ P.regs Reg.STR_POOL ∧ P.regs Reg.STR_SEGS ∧ P.regs Reg.STR_STAGE ∧ P.regs Reg.STR_STAT) :
    (State.applyDevice s bs).outside P = s.outside P := by
  unfold State.applyDevice
  simp only [State.setFld_outside, State.showStreams_outside, State.outside_host, State.outside_pacer_bootu_eng, State.setReg_outside, State.push_outside, State.outside_ite, State.outside_bif, State.foldl_outside, State.foldl_outside_snd, State.foldl_outside_fst, ite_self, Bool.cond_self, Parts.emits_recs, Parts.emits_classLost, Parts.emits_host, Parts.emits_lost, and_self, and_true, true_and, implies_true, forall_const, hP]

@[simp] theorem State.loneDevice_outside {P : Parts} (s : State) (hP : P.fab = true ∧ P.regs Reg.CLK_READY ∧ P.regs Reg.FAB_ADDR ∧ P.regs Reg.FAB_ROLES0 ∧ P.regs Reg.FAB_ROLES1 ∧ P.regs Reg.FAB_SIZE ∧ P.regs Reg.FAB_STAT ∧ (∀ n, P.regs (Reg.FP_STAT n))) :
    (State.loneDevice s).outside P = s.outside P := by
  unfold State.loneDevice
  simp only [State.setFld_outside, State.setRoles_outside, State.outside_fab, State.setReg_outside, State.push_outside, State.outside_ite, State.outside_bif, State.foldl_outside, State.foldl_outside_snd, State.foldl_outside_fst, ite_self, Bool.cond_self, Parts.emits_recs, Parts.emits_classLost, Parts.emits_host, Parts.emits_lost, and_self, and_true, true_and, implies_true, forall_const, hP]

@[simp] theorem State.takeTime_outside {P : Parts} (s : State) (t : Time) (valid : Bool) (hP : P.alarm = true ∧ P.regs Reg.FAB_STAT ∧ P.bootu = true ∧ P.chan = true ∧ P.clk = true ∧ P.clu = true ∧ P.drc = true ∧ P.ecc = true ∧ P.eng = true ∧ P.exc = true ∧ P.fab = true ∧ P.hc = true ∧ P.host = true ∧ P.mode = true ∧ P.msi = true ∧ P.nodes = true ∧ P.pacer = true ∧ P.pch = true ∧ P.port = true ∧ P.rate = true ∧ P.rings = true ∧ P.smon = true ∧ P.start = true ∧ P.streams = true ∧ P.time = true ∧ P.timeRem = true ∧ P.trig = true ∧ P.wch = true ∧ P.wm = true) :
    (State.takeTime s t valid).outside P = s.outside P := by
  unfold State.takeTime
  simp only [State.setFld_outside, State.retime_outside, State.setReg_outside, State.push_outside, State.outside_ite, State.outside_bif, State.foldl_outside, State.foldl_outside_snd, State.foldl_outside_fst, ite_self, Bool.cond_self, Parts.emits_recs, Parts.emits_classLost, Parts.emits_host, Parts.emits_lost, and_self, and_true, true_and, implies_true, forall_const, hP]

@[simp] theorem State.phaseBase_outside {P : Parts} (s : State) (hP : P.baseIdx = true ∧ P.baseRunning = true ∧ P.sinceBase = true) :
    (State.phaseBase s).outside P = s.outside P := by
  unfold State.phaseBase
  simp only [State.outside_sinceBase_baseIdx_baseRunning, State.setReg_outside, State.push_outside, State.outside_ite, State.outside_bif, State.foldl_outside, State.foldl_outside_snd, State.foldl_outside_fst, ite_self, Bool.cond_self, Parts.emits_recs, Parts.emits_classLost, Parts.emits_host, Parts.emits_lost, and_self, and_true, true_and, implies_true, forall_const, hP]

@[simp] theorem State.startUnits_outside {P : Parts} (s : State) (hP : P.emits ∧ P.bank = true ∧ (∀ n m, P.regs (Reg.CHK_CH_STAT n m)) ∧ P.baseIdx = true ∧ (∀ n, P.regs (Reg.CL_STAT n)) ∧ P.baseRunning = true ∧ P.regs Reg.FAB_DROP ∧ P.clu = true ∧ (∀ n, P.regs (Reg.FP_UTIL n)) ∧ P.fab = true ∧ (∀ n, P.regs (Reg.HC_BASE n)) ∧ P.fresh = true ∧ P.regs Reg.HIF_CMD_STAT ∧ P.mode = true ∧ P.regs Reg.MODE_STAT ∧ P.nodes = true ∧ P.regs Reg.PACER_STAT ∧ P.out = true ∧ (∀ n, P.regs (Reg.PCH_FLT_STAT n)) ∧ P.pch = true ∧ (∀ n, P.regs (Reg.PCH_PLAUS_EFF n)) ∧ P.port = true ∧ P.regs Reg.SAF_CAUSE ∧ P.rate = true ∧ P.regs Reg.SAF_CAUSE_S ∧ P.res = true ∧ P.regs Reg.SAF_CNT ∧ P.sinceBase = true ∧ P.regs Reg.SAF_STAT ∧ P.smon = true ∧ P.regs Reg.SAF_VER0 ∧ P.streams = true ∧ P.regs Reg.SAF_VER1 ∧ P.trig = true ∧ P.regs Reg.SAF_W ∧ P.trust = true ∧ P.regs Reg.STR_STAT ∧ P.wm = true ∧ (∀ n, P.regs (Reg.WM_STAT n))) :
    (State.startUnits s).outside P = s.outside P := by
  unfold State.startUnits
  simp only [State.loadPlaus_outside, State.restartAllChains_outside, State.startBank_outside, State.startClusters_outside, State.startMonitors_outside, State.showBase_outside, State.phaseBase_outside, State.setReg_outside, State.push_outside, State.outside_ite, State.outside_bif, State.foldl_outside, State.foldl_outside_snd, State.foldl_outside_fst, ite_self, Bool.cond_self, Parts.emits_recs, Parts.emits_classLost, Parts.emits_host, Parts.emits_lost, and_self, and_true, true_and, implies_true, forall_const, hP]

@[simp] theorem State.startPacer_outside {P : Parts} (s : State) (hP : P.pacer = true ∧ P.regs Reg.PACER_BORROW ∧ P.regs Reg.PACER_HEAD ∧ P.regs Reg.PACER_POOL ∧ P.regs Reg.PACER_USED) :
    (State.startPacer s).outside P = s.outside P := by
  unfold State.startPacer
  refine (State.showPacer_outside _ (by simp only [hP, and_self, implies_true])).trans ?_
  exact State.outside_pacer hP.1 s _

@[simp] theorem State.enterStart_outside {P : Parts} (s : State) (hP : P.mode = true ∧ P.regs Reg.MODE_STAT ∧ P.smon = true ∧ P.regs Reg.SAF_STAT) :
    (State.enterStart s).outside P = s.outside P := by
  unfold State.enterStart
  simp only [State.beginChange_outside, State.driveSafeN_outside, State.setReg_outside, State.push_outside, State.outside_ite, State.outside_bif, State.foldl_outside, State.foldl_outside_snd, State.foldl_outside_fst, ite_self, Bool.cond_self, Parts.emits_recs, Parts.emits_classLost, Parts.emits_host, Parts.emits_lost, and_self, and_true, true_and, implies_true, forall_const, hP]

@[simp] theorem State.upstreamTime_outside {P : Parts} (s : State) (hP : P.fresh = true) :
    (State.upstreamTime s).2.outside P = s.outside P := by
  unfold State.upstreamTime
  simp only [State.freeNat_outside, State.setReg_outside, State.push_outside, State.outside_ite, State.outside_bif, State.foldl_outside, State.foldl_outside_snd, State.foldl_outside_fst, ite_self, Bool.cond_self, Parts.emits_recs, Parts.emits_classLost, Parts.emits_host, Parts.emits_lost, and_self, and_true, true_and, implies_true, forall_const, hP]

@[simp] theorem State.endBoot_outside {P : Parts} (s : State) (t : Time) (valid : Bool) (hP : P.emits ∧ P.alarm = true ∧ P.regs Reg.BOOT_IMG ∧ P.bank = true ∧ P.regs Reg.BOOT_STAT ∧ P.baseIdx = true ∧ P.regs Reg.BOOT_TIME ∧ P.baseRunning = true ∧ (∀ n m, P.regs (Reg.CHK_CH_STAT n m)) ∧ P.bootu = true ∧ P.regs Reg.CLK_READY ∧ P.chan = true ∧ (∀ n, P.regs (Reg.CL_STAT n)) ∧ P.clk = true ∧ P.regs Reg.ENG_STAT ∧ P.clu = true ∧ P.regs Reg.FAB_ADDR ∧ P.drc = true ∧ P.regs Reg.FAB_DROP ∧ P.ecc = true ∧ P.regs Reg.FAB_ROLES0 ∧ P.eng = true ∧ P.regs Reg.FAB_ROLES1 ∧ P.exc = true ∧ P.regs Reg.FAB_SIZE ∧ P.fab = true ∧ P.regs Reg.FAB_STAT ∧ P.fresh = true ∧ (∀ n, P.regs (Reg.FP_STAT n)) ∧ P.hc = true ∧ (∀ n, P.regs (Reg.FP_UTIL n)) ∧ P.mode = true ∧ (∀ n, P.regs (Reg.HC_BASE n)) ∧ P.msi = true ∧ P.regs Reg.HIF_CMD_STAT ∧ P.nodes = true ∧ P.regs Reg.HIF_STAT ∧ P.out = true ∧ P.regs Reg.MODE_STAT ∧ P.pacer = true ∧ P.regs Reg.PACER_BORROW ∧ P.pch = true ∧ P.regs Reg.PACER_HEAD ∧ P.port = true ∧ P.regs Reg.PACER_POOL ∧ P.rate = true ∧ P.regs Reg.PACER_STAT ∧ P.res = true ∧ P.regs Reg.PACER_USED ∧ P.rings = true ∧ (∀ n, P.regs (Reg.PCH_FLT_STAT n)) ∧ P.sinceBase = true ∧ (∀ n, P.regs (Reg.PCH_PLAUS_EFF n)) ∧ P.smon = true ∧ P.regs Reg.SAF_CAUSE ∧ P.start = true ∧ P.regs Reg.SAF_CAUSE_S ∧ P.streams = true ∧ P.regs Reg.SAF_CNT ∧ P.time = true ∧ P.regs Reg.SAF_STAT ∧ P.timeRem = true ∧ P.regs Reg.SAF_VER0 ∧ P.trig = true ∧ P.regs Reg.SAF_VER1 ∧ P.trust = true ∧ P.regs Reg.SAF_W ∧ P.wch = true ∧ P.regs Reg.STR_SEGS ∧ P.wm = true ∧ P.regs Reg.STR_STAGE ∧ P.regs Reg.STR_STAT ∧ (∀ n, P.regs (Reg.WM_STAT n))) :
    (State.endBoot s t valid).outside P = s.outside P := by
  unfold State.endBoot
  simp only [State.raise_outside, State.emit_outside, State.verifyAll_outside, State.judgeSpare_outside, State.openStream_outside, State.setPhase_outside, State.loneDevice_outside, State.takeTime_outside, State.startUnits_outside, State.startPacer_outside, State.enterStart_outside, State.outside_smon, State.setReg_outside, State.push_outside, State.outside_ite, State.outside_bif, State.foldl_outside, State.foldl_outside_snd, State.foldl_outside_fst, ite_self, Bool.cond_self, Parts.emits_recs, Parts.emits_classLost, Parts.emits_host, Parts.emits_lost, and_self, and_true, true_and, implies_true, forall_const, hP]

@[simp] theorem bootDone_outside {P : Parts} (s : State) (hP : P.emits ∧ P.alarm = true ∧ P.regs Reg.BOOT_IMG ∧ P.bank = true ∧ P.regs Reg.BOOT_STAT ∧ P.baseIdx = true ∧ P.regs Reg.BOOT_TIME ∧ P.baseRunning = true ∧ (∀ n m, P.regs (Reg.CHK_CH_STAT n m)) ∧ P.bootu = true ∧ P.regs Reg.CLK_READY ∧ P.chan = true ∧ (∀ n, P.regs (Reg.CL_STAT n)) ∧ P.clk = true ∧ P.regs Reg.ENG_STAT ∧ P.clu = true ∧ P.regs Reg.FAB_ADDR ∧ P.drc = true ∧ P.regs Reg.FAB_DROP ∧ P.ecc = true ∧ P.regs Reg.FAB_ROLES0 ∧ P.eng = true ∧ P.regs Reg.FAB_ROLES1 ∧ P.exc = true ∧ P.regs Reg.FAB_SIZE ∧ P.fab = true ∧ P.regs Reg.FAB_STAT ∧ P.fresh = true ∧ (∀ n, P.regs (Reg.FP_STAT n)) ∧ P.hc = true ∧ (∀ n, P.regs (Reg.FP_UTIL n)) ∧ P.mode = true ∧ (∀ n, P.regs (Reg.HC_BASE n)) ∧ P.msi = true ∧ P.regs Reg.HIF_CMD_STAT ∧ P.nodes = true ∧ P.regs Reg.HIF_STAT ∧ P.out = true ∧ P.regs Reg.MODE_STAT ∧ P.pacer = true ∧ P.regs Reg.PACER_BORROW ∧ P.pch = true ∧ P.regs Reg.PACER_HEAD ∧ P.port = true ∧ P.regs Reg.PACER_POOL ∧ P.rate = true ∧ P.regs Reg.PACER_STAT ∧ P.res = true ∧ P.regs Reg.PACER_USED ∧ P.rings = true ∧ (∀ n, P.regs (Reg.PCH_FLT_STAT n)) ∧ P.sinceBase = true ∧ (∀ n, P.regs (Reg.PCH_PLAUS_EFF n)) ∧ P.smon = true ∧ P.regs Reg.SAF_CAUSE ∧ P.start = true ∧ P.regs Reg.SAF_CAUSE_S ∧ P.streams = true ∧ P.regs Reg.SAF_CNT ∧ P.time = true ∧ P.regs Reg.SAF_STAT ∧ P.timeRem = true ∧ P.regs Reg.SAF_VER0 ∧ P.trig = true ∧ P.regs Reg.SAF_VER1 ∧ P.trust = true ∧ P.regs Reg.SAF_W ∧ P.wch = true ∧ P.regs Reg.STR_SEGS ∧ P.wm = true ∧ P.regs Reg.STR_STAGE ∧ P.regs Reg.STR_STAT ∧ (∀ n, P.regs (Reg.WM_STAT n))) :
    (bootDone s).outside P = s.outside P := by
  unfold bootDone
  simp only [State.upstreamTime_outside, State.endBoot_outside, State.setReg_outside, State.push_outside, State.outside_ite, State.outside_bif, State.foldl_outside, State.foldl_outside_snd, State.foldl_outside_fst, ite_self, Bool.cond_self, Parts.emits_recs, Parts.emits_classLost, Parts.emits_host, Parts.emits_lost, and_self, and_true, true_and, implies_true, forall_const, hP]

end Sys2Proof.Machine
end

