-- ==== Sys2Proof/Laws/FrameModes.lean ====
section
/-!
SUPPORT. What the operations of Machine/Modes.lean write: each leaves every part of the state as it is but those its hypothesis names.
-/

set_option Elab.async false
set_option linter.unusedSimpArgs false
namespace Sys2Proof.Machine

@[simp] theorem modeSet_outside {P : Parts} (s : State) (src : CmdSrc) (tag target : Nat) (hP : P.fab = true ∧ P.regs Reg.FAB_DROP ∧ P.fresh = true ∧ (∀ n, P.regs (Reg.FP_UTIL n)) ∧ P.host = true ∧ P.regs Reg.HIF_CMD_STAT ∧ P.mode = true ∧ P.regs Reg.MODE_STAT ∧ P.out = true ∧ P.regs Reg.PACER_STAT ∧ P.port = true) :
    (modeSet s src tag target).outside P = s.outside P := by
  unfold modeSet
  simp only [State.settle_outside, State.requestMode_outside, State.setReg_outside, State.push_outside, State.outside_ite, State.outside_bif, State.foldl_outside, State.foldl_outside_snd, State.foldl_outside_fst, ite_self, Bool.cond_self, Parts.emits_recs, Parts.emits_classLost, Parts.emits_host, Parts.emits_lost, and_self, and_true, true_and, implies_true, forall_const, hP]

@[simp] theorem safeExit_outside {P : Parts} (s : State) (src : CmdSrc) (tag target : Nat) (hP : P.fab = true ∧ P.regs Reg.FAB_DROP ∧ P.fresh = true ∧ (∀ n, P.regs (Reg.FP_UTIL n)) ∧ P.host = true ∧ P.regs Reg.HIF_CMD_STAT ∧ P.mode = true ∧ P.regs Reg.MODE_STAT ∧ P.out = true ∧ P.regs Reg.PACER_STAT ∧ P.port = true) :
    (safeExit s src tag target).outside P = s.outside P := by
  unfold safeExit
  simp only [State.settle_outside, State.requestMode_outside, State.setReg_outside, State.push_outside, State.outside_ite, State.outside_bif, State.foldl_outside, State.foldl_outside_snd, State.foldl_outside_fst, ite_self, Bool.cond_self, Parts.emits_recs, Parts.emits_classLost, Parts.emits_host, Parts.emits_lost, and_self, and_true, true_and, implies_true, forall_const, hP]

@[simp] theorem State.showHeld_outside {P : Parts} (s : State) (hP : P.regs Reg.MODE_STAT) :
    (State.showHeld s).outside P = s.outside P := by
  unfold State.showHeld
  simp only [State.setFld_outside, State.setReg_outside, State.push_outside, State.outside_ite, State.outside_bif, State.foldl_outside, State.foldl_outside_snd, State.foldl_outside_fst, ite_self, Bool.cond_self, Parts.emits_recs, Parts.emits_classLost, Parts.emits_host, Parts.emits_lost, and_self, and_true, true_and, implies_true, forall_const, hP]

@[simp] theorem State.shiftBudget_outside {P : Parts} (s : State) (old new : Nat) (hP : P.pacer = true) :
    (State.shiftBudget s old new).outside P = s.outside P := by
  unfold State.shiftBudget
  simp only [State.outside_pacer, State.setReg_outside, State.push_outside, State.outside_ite, State.outside_bif, State.foldl_outside, State.foldl_outside_snd, State.foldl_outside_fst, ite_self, Bool.cond_self, Parts.emits_recs, Parts.emits_classLost, Parts.emits_host, Parts.emits_lost, and_self, and_true, true_and, implies_true, forall_const, hP]

@[simp] theorem State.restoreTests_outside {P : Parts} (s : State) (hP : P.regs Reg.CMP_STCFG ∧ P.regs Reg.ECC_CFG ∧ P.regs Reg.ENG_CFG) :
    (State.restoreTests s).outside P = s.outside P := by
  unfold State.restoreTests
  simp only [State.raise_outside, State.setReg_outside, State.push_outside, State.outside_ite, State.outside_bif, State.foldl_outside, State.foldl_outside_snd, State.foldl_outside_fst, ite_self, Bool.cond_self, Parts.emits_recs, Parts.emits_classLost, Parts.emits_host, Parts.emits_lost, and_self, and_true, true_and, implies_true, forall_const, hP]

@[simp] theorem State.leaveService_outside {P : Parts} (s : State) (hP : P.emits ∧ P.fab = true ∧ P.regs Reg.BOOT_CTRL ∧ P.fresh = true ∧ P.regs Reg.CMP_STCFG ∧ P.late = true ∧ P.regs Reg.DEV_ABSENT_ADDR ∧ P.mode = true ∧ P.regs Reg.DEV_ABSENT_WR ∧ P.out = true ∧ P.regs Reg.ECC_CFG ∧ P.pch = true ∧ P.regs Reg.ECC_INJ ∧ P.port = true ∧ P.regs Reg.ENG_CFG ∧ P.rate = true ∧ P.regs Reg.FAB_DROP ∧ P.smon = true ∧ (∀ n, P.regs (Reg.FP_UTIL n)) ∧ P.trust = true ∧ P.regs Reg.HIF_CMD_STAT ∧ P.regs Reg.MODE_STAT ∧ P.regs Reg.PACER_STAT ∧ (∀ n, P.regs (Reg.PCH_CFG n)) ∧ (∀ n, P.regs (Reg.PCH_CONV_STAT n)) ∧ (∀ n, P.regs (Reg.PCH_FUS_CFG n)) ∧ (∀ n, P.regs (Reg.PCH_STAT n)) ∧ P.regs Reg.SAF_CAUSE ∧ P.regs Reg.SAF_CAUSE_S ∧ P.regs Reg.SAF_CNT ∧ P.regs Reg.SAF_FORCE ∧ P.regs Reg.SAF_STAT ∧ P.regs Reg.SAF_VER0 ∧ P.regs Reg.SAF_VER1 ∧ P.regs Reg.SAF_W) :
    (State.leaveService s).outside P = s.outside P := by
  unfold State.leaveService
  simp only [State.clear_outside, State.leaveServiceChannel_outside, State.leaveServiceCal_outside, State.disarmInjection_outside, State.restoreTests_outside, State.setReg_outside, State.push_outside, State.outside_ite, State.outside_bif, State.foldl_outside, State.foldl_outside_snd, State.foldl_outside_fst, ite_self, Bool.cond_self, Parts.emits_recs, Parts.emits_classLost, Parts.emits_host, Parts.emits_lost, and_self, and_true, true_and, implies_true, forall_const, hP]

@[simp] theorem State.leaveSafe_outside {P : Parts} (s : State) (target : Nat) (hP : P.emits ∧ P.smon = true ∧ P.regs Reg.SAF_STAT) :
    (State.leaveSafe s target).outside P = s.outside P := by
  unfold State.leaveSafe
  simp only [State.emit_outside, State.driveSafeN_outside, State.outside_smon, State.setReg_outside, State.push_outside, State.outside_ite, State.outside_bif, State.foldl_outside, State.foldl_outside_snd, State.foldl_outside_fst, ite_self, Bool.cond_self, Parts.emits_recs, Parts.emits_classLost, Parts.emits_host, Parts.emits_lost, and_self, and_true, true_and, implies_true, forall_const, hP]

@[simp] theorem State.modeConverters_outside {P : Parts} (s : State) (hP : P.clk = true ∧ P.regs Reg.CLK_GATE_OPEN ∧ P.wch = true ∧ P.regs Reg.CLK_STAT ∧ (∀ n, P.regs (Reg.WCH_STAT n)) ∧ (∀ n, P.regs (Reg.WCH_WAKE_CNT n))) :
    (State.modeConverters s).outside P = s.outside P := by
  unfold State.modeConverters
  simp only [wConverterStart_outside, wConverterStop_outside, State.setReg_outside, State.push_outside, State.outside_ite, State.outside_bif, State.foldl_outside, State.foldl_outside_snd, State.foldl_outside_fst, ite_self, Bool.cond_self, Parts.emits_recs, Parts.emits_classLost, Parts.emits_host, Parts.emits_lost, and_self, and_true, true_and, implies_true, forall_const, hP]

@[simp] theorem flushBurst_outside {P : Parts} (s : State) (hP : P.emits ∧ P.cells = true ∧ P.regs Reg.CLK_GATE_OPEN ∧ P.chan = true ∧ P.regs Reg.CLK_HOLD_CNT ∧ P.clk = true ∧ P.regs Reg.CLK_READY ∧ P.clu = true ∧ P.regs Reg.CLK_SRC ∧ P.drc = true ∧ P.regs Reg.CLK_STAT ∧ P.ecc = true ∧ (∀ n, P.regs (Reg.CL_STAT n)) ∧ P.fab = true ∧ P.regs Reg.DRC_CATCHUP_CNT ∧ P.out = true ∧ P.regs Reg.DRC_SR_TIME ∧ P.port = true ∧ P.regs Reg.DRC_STAT ∧ P.rate = true ∧ P.regs Reg.ECC_CE_CNT0 ∧ P.streams = true ∧ P.regs Reg.ECC_CE_CNT1 ∧ P.regs Reg.ECC_INJ ∧ P.regs Reg.ECC_LOG_CTRL ∧ P.regs Reg.ECC_POISON_CNT ∧ (∀ n, P.regs (Reg.ECC_REMAP n)) ∧ P.regs Reg.ECC_RMW_CNT ∧ P.regs Reg.ECC_STAT ∧ P.regs Reg.ECC_UE_CNT ∧ P.regs Reg.FAB_DROP ∧ P.regs Reg.FAB_STAT ∧ (∀ n, P.regs (Reg.FP_STAT n)) ∧ (∀ n, P.regs (Reg.FP_UTIL n)) ∧ P.regs Reg.MODE_STAT ∧ P.regs Reg.STR_OVR_CNT ∧ P.regs Reg.STR_SEGS ∧ P.regs Reg.STR_STAGE ∧ P.regs Reg.STR_STAT) :
    (flushBurst s).outside P = s.outside P := by
  unfold flushBurst
  simp only [State.runBurst_outside, State.flushStaging_outside, State.setReg_outside, State.push_outside, State.outside_ite, State.outside_bif, State.foldl_outside, State.foldl_outside_snd, State.foldl_outside_fst, ite_self, Bool.cond_self, Parts.emits_recs, Parts.emits_classLost, Parts.emits_host, Parts.emits_lost, and_self, and_true, true_and, implies_true, forall_const, hP]

@[simp] theorem State.flushIfDue_outside {P : Parts} (s : State) (hP : P.emits ∧ P.cells = true ∧ P.regs Reg.CLK_GATE_OPEN ∧ P.chan = true ∧ P.regs Reg.CLK_HOLD_CNT ∧ P.clk = true ∧ P.regs Reg.CLK_READY ∧ P.clu = true ∧ P.regs Reg.CLK_SRC ∧ P.drc = true ∧ P.regs Reg.CLK_STAT ∧ P.ecc = true ∧ (∀ n, P.regs (Reg.CL_STAT n)) ∧ P.fab = true ∧ P.regs Reg.DRC_CATCHUP_CNT ∧ P.out = true ∧ P.regs Reg.DRC_SR_TIME ∧ P.port = true ∧ P.regs Reg.DRC_STAT ∧ P.rate = true ∧ P.regs Reg.ECC_CE_CNT0 ∧ P.streams = true ∧ P.regs Reg.ECC_CE_CNT1 ∧ P.regs Reg.ECC_INJ ∧ P.regs Reg.ECC_LOG_CTRL ∧ P.regs Reg.ECC_POISON_CNT ∧ (∀ n, P.regs (Reg.ECC_REMAP n)) ∧ P.regs Reg.ECC_RMW_CNT ∧ P.regs Reg.ECC_STAT ∧ P.regs Reg.ECC_UE_CNT ∧ P.regs Reg.FAB_DROP ∧ P.regs Reg.FAB_STAT ∧ (∀ n, P.regs (Reg.FP_STAT n)) ∧ (∀ n, P.regs (Reg.FP_UTIL n)) ∧ P.regs Reg.MODE_STAT ∧ P.regs Reg.STR_OVR_CNT ∧ P.regs Reg.STR_SEGS ∧ P.regs Reg.STR_STAGE ∧ P.regs Reg.STR_STAT) :
    (State.flushIfDue s).outside P = s.outside P := by
  unfold State.flushIfDue
  simp only [State.runBurst_outside, flushBurst_outside, State.setReg_outside, State.push_outside, State.outside_ite, State.outside_bif, State.foldl_outside, State.foldl_outside_snd, State.foldl_outside_fst, ite_self, Bool.cond_self, Parts.emits_recs, Parts.emits_classLost, Parts.emits_host, Parts.emits_lost, and_self, and_true, true_and, implies_true, forall_const, hP]

@[simp] theorem State.modeClocks_outside {P : Parts} (s : State) (new : Nat) (hP : P.emits ∧ P.cells = true ∧ P.regs Reg.CLK_GATE_OPEN ∧ P.chan = true ∧ P.regs Reg.CLK_HOLD_CNT ∧ P.clk = true ∧ P.regs Reg.CLK_READY ∧ P.clu = true ∧ P.regs Reg.CLK_SRC ∧ P.drc = true ∧ P.regs Reg.CLK_STAT ∧ P.ecc = true ∧ (∀ n, P.regs (Reg.CL_STAT n)) ∧ P.fab = true ∧ P.regs Reg.DRC_CATCHUP_CNT ∧ P.out = true ∧ P.regs Reg.DRC_SR_TIME ∧ P.port = true ∧ P.regs Reg.DRC_STAT ∧ P.rate = true ∧ P.regs Reg.ECC_CE_CNT0 ∧ P.streams = true ∧ P.regs Reg.ECC_CE_CNT1 ∧ P.regs Reg.ECC_INJ ∧ P.regs Reg.ECC_LOG_CTRL ∧ P.regs Reg.ECC_POISON_CNT ∧ (∀ n, P.regs (Reg.ECC_REMAP n)) ∧ P.regs Reg.ECC_RMW_CNT ∧ P.regs Reg.ECC_STAT ∧ P.regs Reg.ECC_UE_CNT ∧ P.regs Reg.FAB_DROP ∧ P.regs Reg.FAB_STAT ∧ (∀ n, P.regs (Reg.FP_STAT n)) ∧ (∀ n, P.regs (Reg.FP_UTIL n)) ∧ P.regs Reg.MODE_STAT ∧ P.regs Reg.STR_OVR_CNT ∧ P.regs Reg.STR_SEGS ∧ P.regs Reg.STR_STAGE ∧ P.regs Reg.STR_STAT) :
    (State.modeClocks s new).outside P = s.outside P := by
  unfold State.modeClocks
  simp only [State.toRun_outside, State.runBurst_outside, State.flushStaging_outside, State.setReg_outside, State.push_outside, State.outside_ite, State.outside_bif, State.foldl_outside, State.foldl_outside_snd, State.foldl_outside_fst, ite_self, Bool.cond_self, Parts.emits_recs, Parts.emits_classLost, Parts.emits_host, Parts.emits_lost, and_self, and_true, true_and, implies_true, forall_const, hP]

@[simp] theorem State.entryActions_outside {P : Parts} (s : State) (new : Nat) (hP : P.emits ∧ P.cells = true ∧ P.regs Reg.CLK_GATE_OPEN ∧ P.chan = true ∧ P.regs Reg.CLK_HOLD_CNT ∧ P.clk = true ∧ P.regs Reg.CLK_READY ∧ P.clu = true ∧ P.regs Reg.CLK_SRC ∧ P.drc = true ∧ P.regs Reg.CLK_STAT ∧ P.ecc = true ∧ (∀ n, P.regs (Reg.CL_STAT n)) ∧ P.fab = true ∧ P.regs Reg.DRC_CATCHUP_CNT ∧ P.out = true ∧ P.regs Reg.DRC_FREQ_CNT ∧ P.port = true ∧ P.regs Reg.DRC_SR_TIME ∧ P.rate = true ∧ P.regs Reg.DRC_STAT ∧ P.streams = true ∧ P.regs Reg.ECC_CE_CNT0 ∧ P.wch = true ∧ P.regs Reg.ECC_CE_CNT1 ∧ P.regs Reg.ECC_INJ ∧ P.regs Reg.ECC_LOG_CTRL ∧ P.regs Reg.ECC_POISON_CNT ∧ (∀ n, P.regs (Reg.ECC_REMAP n)) ∧ P.regs Reg.ECC_RMW_CNT ∧ P.regs Reg.ECC_STAT ∧ P.regs Reg.ECC_UE_CNT ∧ P.regs Reg.FAB_DROP ∧ P.regs Reg.FAB_STAT ∧ (∀ n, P.regs (Reg.FP_STAT n)) ∧ (∀ n, P.regs (Reg.FP_UTIL n)) ∧ P.regs Reg.MODE_STAT ∧ P.regs Reg.STR_OVR_CNT ∧ P.regs Reg.STR_SEGS ∧ P.regs Reg.STR_STAGE ∧ P.regs Reg.STR_STAT ∧ (∀ n, P.regs (Reg.WCH_STAT n)) ∧ (∀ n, P.regs (Reg.WCH_WAKE_CNT n))) :
    (State.entryActions s new).outside P = s.outside P := by
  unfold State.entryActions
  simp only [State.requestOp_outside, State.requestRates_outside, State.modeConverters_outside, State.modeClocks_outside, State.setReg_outside, State.push_outside, State.outside_ite, State.outside_bif, State.foldl_outside, State.foldl_outside_snd, State.foldl_outside_fst, ite_self, Bool.cond_self, Parts.emits_recs, Parts.emits_classLost, Parts.emits_host, Parts.emits_lost, and_self, and_true, true_and, implies_true, forall_const, hP]

@[simp] theorem State.beginMode_outside {P : Parts} (s : State) (old new : Nat) (hP : P.mode = true ∧ P.regs Reg.MODE_STAT ∧ P.regs Reg.SAF_STAT) :
    (State.beginMode s old new).outside P = s.outside P := by
  unfold State.beginMode
  simp only [State.setFld_outside, State.showHeld_outside, State.outside_mode, State.setReg_outside, State.push_outside, State.outside_ite, State.outside_bif, State.foldl_outside, State.foldl_outside_snd, State.foldl_outside_fst, ite_self, Bool.cond_self, Parts.emits_recs, Parts.emits_classLost, Parts.emits_host, Parts.emits_lost, and_self, and_true, true_and, implies_true, forall_const, hP]

@[simp] theorem State.beginBurst_outside {P : Parts} (s : State) (new : Nat) (hP : P.pacer = true) :
    (State.beginBurst s new).outside P = s.outside P := by
  unfold State.beginBurst
  simp only [State.outside_pacer, State.setReg_outside, State.push_outside, State.outside_ite, State.outside_bif, State.foldl_outside, State.foldl_outside_snd, State.foldl_outside_fst, ite_self, Bool.cond_self, Parts.emits_recs, Parts.emits_classLost, Parts.emits_host, Parts.emits_lost, and_self, and_true, true_and, implies_true, forall_const, hP]

@[simp] theorem State.leaveModes_outside {P : Parts} (s : State) (old new : Nat) (hP : P.emits ∧ P.fab = true ∧ P.regs Reg.BOOT_CTRL ∧ P.fresh = true ∧ P.regs Reg.CMP_STCFG ∧ P.late = true ∧ P.regs Reg.DEV_ABSENT_ADDR ∧ P.mode = true ∧ P.regs Reg.DEV_ABSENT_WR ∧ P.out = true ∧ P.regs Reg.ECC_CFG ∧ P.pch = true ∧ P.regs Reg.ECC_INJ ∧ P.port = true ∧ P.regs Reg.ENG_CFG ∧ P.rate = true ∧ P.regs Reg.FAB_DROP ∧ P.smon = true ∧ (∀ n, P.regs (Reg.FP_UTIL n)) ∧ P.trust = true ∧ P.regs Reg.HIF_CMD_STAT ∧ P.regs Reg.MODE_STAT ∧ P.regs Reg.PACER_STAT ∧ (∀ n, P.regs (Reg.PCH_CFG n)) ∧ (∀ n, P.regs (Reg.PCH_CONV_STAT n)) ∧ (∀ n, P.regs (Reg.PCH_FUS_CFG n)) ∧ (∀ n, P.regs (Reg.PCH_STAT n)) ∧ P.regs Reg.SAF_CAUSE ∧ P.regs Reg.SAF_CAUSE_S ∧ P.regs Reg.SAF_CNT ∧ P.regs Reg.SAF_FORCE ∧ P.regs Reg.SAF_STAT ∧ P.regs Reg.SAF_VER0 ∧ P.regs Reg.SAF_VER1 ∧ P.regs Reg.SAF_W) :
    (State.leaveModes s old new).outside P = s.outside P := by
  unfold State.leaveModes
  simp only [State.leaveService_outside, State.leaveSafe_outside, State.setReg_outside, State.push_outside, State.outside_ite, State.outside_bif, State.foldl_outside, State.foldl_outside_snd, State.foldl_outside_fst, ite_self, Bool.cond_self, Parts.emits_recs, Parts.emits_classLost, Parts.emits_host, Parts.emits_lost, and_self, and_true, true_and, implies_true, forall_const, hP]

@[simp] theorem State.verifyModes_outside {P : Parts} (s : State) (old new : Nat) (hP : P.emits ∧ P.fab = true ∧ P.regs Reg.FAB_DROP ∧ P.fresh = true ∧ (∀ n, P.regs (Reg.FP_UTIL n)) ∧ P.mode = true ∧ P.regs Reg.HIF_CMD_STAT ∧ P.out = true ∧ P.regs Reg.MODE_STAT ∧ P.port = true ∧ P.regs Reg.PACER_STAT ∧ P.rate = true ∧ P.regs Reg.SAF_CAUSE ∧ P.smon = true ∧ P.regs Reg.SAF_CAUSE_S ∧ P.trust = true ∧ P.regs Reg.SAF_CNT ∧ P.regs Reg.SAF_STAT ∧ P.regs Reg.SAF_VER0 ∧ P.regs Reg.SAF_VER1 ∧ P.regs Reg.SAF_W) :
    (State.verifyModes s old new).outside P = s.outside P := by
  unfold State.verifyModes
  simp only [State.verifyAll_outside, State.setReg_outside, State.push_outside, State.outside_ite, State.outside_bif, State.foldl_outside, State.foldl_outside_snd, State.foldl_outside_fst, ite_self, Bool.cond_self, Parts.emits_recs, Parts.emits_classLost, Parts.emits_host, Parts.emits_lost, and_self, and_true, true_and, implies_true, forall_const, hP]

@[simp] theorem State.changeMode_outside {P : Parts} (s : State) (old new : Nat) (hP : P.emits ∧ P.cells = true ∧ P.regs Reg.BOOT_CTRL ∧ P.chan = true ∧ P.regs Reg.CLK_GATE_OPEN ∧ P.clk = true ∧ P.regs Reg.CLK_HOLD_CNT ∧ P.clu = true ∧ P.regs Reg.CLK_READY ∧ P.drc = true ∧ P.regs Reg.CLK_SRC ∧ P.ecc = true ∧ P.regs Reg.CLK_STAT ∧ P.fab = true ∧ (∀ n, P.regs (Reg.CL_STAT n)) ∧ P.fresh = true ∧ P.regs Reg.CMP_STCFG ∧ P.late = true ∧ P.regs Reg.DEV_ABSENT_ADDR ∧ P.mode = true ∧ P.regs Reg.DEV_ABSENT_WR ∧ P.out = true ∧ P.regs Reg.DRC_CATCHUP_CNT ∧ P.pacer = true ∧ P.regs Reg.DRC_FREQ_CNT ∧ P.pch = true ∧ P.regs Reg.DRC_SR_TIME ∧ P.port = true ∧ P.regs Reg.DRC_STAT ∧ P.rate = true ∧ P.regs Reg.ECC_CE_CNT0 ∧ P.smon = true ∧ P.regs Reg.ECC_CE_CNT1 ∧ P.streams = true ∧ P.regs Reg.ECC_CFG ∧ P.trust = true ∧ P.regs Reg.ECC_INJ ∧ P.wch = true ∧ P.regs Reg.ECC_LOG_CTRL ∧ P.regs Reg.ECC_POISON_CNT ∧ (∀ n, P.regs (Reg.ECC_REMAP n)) ∧ P.regs Reg.ECC_RMW_CNT ∧ P.regs Reg.ECC_STAT ∧ P.regs Reg.ECC_UE_CNT ∧ P.regs Reg.ENG_CFG ∧ P.regs Reg.FAB_DROP ∧ P.regs Reg.FAB_STAT ∧ (∀ n, P.regs (Reg.FP_STAT n)) ∧ (∀ n, P.regs (Reg.FP_UTIL n)) ∧ P.regs Reg.HIF_CMD_STAT ∧ P.regs Reg.MODE_STAT ∧ P.regs Reg.PACER_STAT ∧ (∀ n, P.regs (Reg.PCH_CFG n)) ∧ (∀ n, P.regs (Reg.PCH_CONV_STAT n)) ∧ (∀ n, P.regs (Reg.PCH_FUS_CFG n)) ∧ (∀ n, P.regs (Reg.PCH_STAT n)) ∧ P.regs Reg.SAF_CAUSE ∧ P.regs Reg.SAF_CAUSE_S ∧ P.regs Reg.SAF_CNT ∧ P.regs Reg.SAF_FORCE ∧ P.regs Reg.SAF_STAT ∧ P.regs Reg.SAF_VER0 ∧ P.regs Reg.SAF_VER1 ∧ P.regs Reg.SAF_W ∧ P.regs Reg.STR_OVR_CNT ∧ P.regs Reg.STR_SEGS ∧ P.regs Reg.STR_STAGE ∧ P.regs Reg.STR_STAT ∧ (∀ n, P.regs (Reg.WCH_STAT n)) ∧ (∀ n, P.regs (Reg.WCH_WAKE_CNT n))) :
    (State.changeMode s old new).outside P = s.outside P := by
  unfold State.changeMode
  simp only [State.shiftBudget_outside, State.entryActions_outside, State.beginMode_outside, State.beginBurst_outside, State.leaveModes_outside, State.verifyModes_outside, State.setReg_outside, State.push_outside, State.outside_ite, State.outside_bif, State.foldl_outside, State.foldl_outside_snd, State.foldl_outside_fst, ite_self, Bool.cond_self, Parts.emits_recs, Parts.emits_classLost, Parts.emits_host, Parts.emits_lost, and_self, and_true, true_and, implies_true, forall_const, hP]

@[simp] theorem modeChangeInstant_outside {P : Parts} (s : State) (hP : P.emits ∧ P.cells = true ∧ P.regs Reg.BOOT_CTRL ∧ P.chan = true ∧ P.regs Reg.CLK_GATE_OPEN ∧ P.clk = true ∧ P.regs Reg.CLK_HOLD_CNT ∧ P.clu = true ∧ P.regs Reg.CLK_READY ∧ P.drc = true ∧ P.regs Reg.CLK_SRC ∧ P.ecc = true ∧ P.regs Reg.CLK_STAT ∧ P.fab = true ∧ (∀ n, P.regs (Reg.CL_STAT n)) ∧ P.fresh = true ∧ P.regs Reg.CMP_STCFG ∧ P.late = true ∧ P.regs Reg.DEV_ABSENT_ADDR ∧ P.mode = true ∧ P.regs Reg.DEV_ABSENT_WR ∧ P.out = true ∧ P.regs Reg.DRC_CATCHUP_CNT ∧ P.pacer = true ∧ P.regs Reg.DRC_FREQ_CNT ∧ P.pch = true ∧ P.regs Reg.DRC_SR_TIME ∧ P.port = true ∧ P.regs Reg.DRC_STAT ∧ P.rate = true ∧ P.regs Reg.ECC_CE_CNT0 ∧ P.smon = true ∧ P.regs Reg.ECC_CE_CNT1 ∧ P.streams = true ∧ P.regs Reg.ECC_CFG ∧ P.trust = true ∧ P.regs Reg.ECC_INJ ∧ P.wch = true ∧ P.regs Reg.ECC_LOG_CTRL ∧ P.regs Reg.ECC_POISON_CNT ∧ (∀ n, P.regs (Reg.ECC_REMAP n)) ∧ P.regs Reg.ECC_RMW_CNT ∧ P.regs Reg.ECC_STAT ∧ P.regs Reg.ECC_UE_CNT ∧ P.regs Reg.ENG_CFG ∧ P.regs Reg.FAB_DROP ∧ P.regs Reg.FAB_STAT ∧ (∀ n, P.regs (Reg.FP_STAT n)) ∧ (∀ n, P.regs (Reg.FP_UTIL n)) ∧ P.regs Reg.HIF_CMD_STAT ∧ P.regs Reg.MODE_STAT ∧ P.regs Reg.PACER_STAT ∧ (∀ n, P.regs (Reg.PCH_CFG n)) ∧ (∀ n, P.regs (Reg.PCH_CONV_STAT n)) ∧ (∀ n, P.regs (Reg.PCH_FUS_CFG n)) ∧ (∀ n, P.regs (Reg.PCH_STAT n)) ∧ P.regs Reg.SAF_CAUSE ∧ P.regs Reg.SAF_CAUSE_S ∧ P.regs Reg.SAF_CNT ∧ P.regs Reg.SAF_FORCE ∧ P.regs Reg.SAF_STAT ∧ P.regs Reg.SAF_VER0 ∧ P.regs Reg.SAF_VER1 ∧ P.regs Reg.SAF_W ∧ P.regs Reg.STR_OVR_CNT ∧ P.regs Reg.STR_SEGS ∧ P.regs Reg.STR_STAGE ∧ P.regs Reg.STR_STAT ∧ (∀ n, P.regs (Reg.WCH_STAT n)) ∧ (∀ n, P.regs (Reg.WCH_WAKE_CNT n))) :
    (modeChangeInstant s).outside P = s.outside P := by
  unfold modeChangeInstant
  simp only [State.changeMode_outside, State.setReg_outside, State.push_outside, State.outside_ite, State.outside_bif, State.foldl_outside, State.foldl_outside_snd, State.foldl_outside_fst, ite_self, Bool.cond_self, Parts.emits_recs, Parts.emits_classLost, Parts.emits_host, Parts.emits_lost, and_self, and_true, true_and, implies_true, forall_const, hP]

@[simp] theorem State.modeSetDone_outside {P : Parts} (s : State) (cmd : Option (CmdSrc × Nat)) (new : Nat) (hP : P.fab = true ∧ P.regs Reg.FAB_DROP ∧ P.fresh = true ∧ (∀ n, P.regs (Reg.FP_UTIL n)) ∧ P.host = true ∧ P.regs Reg.HIF_CMD_STAT ∧ P.out = true ∧ P.port = true) :
    (State.modeSetDone s cmd new).outside P = s.outside P := by
  unfold State.modeSetDone
  repeat' split
  all_goals first | rfl | simp only [State.settle_outside, State.setReg_outside, State.push_outside, State.outside_ite, State.outside_bif, State.foldl_outside, State.foldl_outside_snd, State.foldl_outside_fst, ite_self, Bool.cond_self, Parts.emits_recs, Parts.emits_classLost, Parts.emits_host, Parts.emits_lost, and_self, and_true, true_and, implies_true, forall_const, hP]

@[simp] theorem State.modeRecord_outside {P : Parts} (s : State) (hP : P.emits ∧ P.regs Reg.MODE_CNT) :
    (State.modeRecord s).outside P = s.outside P := by
  unfold State.modeRecord
  simp only [State.count_outside, State.emit_outside, State.setReg_outside, State.push_outside, State.outside_ite, State.outside_bif, State.foldl_outside, State.foldl_outside_snd, State.foldl_outside_fst, ite_self, Bool.cond_self, Parts.emits_recs, Parts.emits_classLost, Parts.emits_host, Parts.emits_lost, and_self, and_true, true_and, implies_true, forall_const, hP]

@[simp] theorem State.setMode_outside {P : Parts} (s : State) (m : ModeUnit) (hP : P.mode = true) :
    (State.setMode s m).outside P = s.outside P := by
  unfold State.setMode
  simp only [State.outside_mode, State.setReg_outside, State.push_outside, State.outside_ite, State.outside_bif, State.foldl_outside, State.foldl_outside_snd, State.foldl_outside_fst, ite_self, Bool.cond_self, Parts.emits_recs, Parts.emits_classLost, Parts.emits_host, Parts.emits_lost, and_self, and_true, true_and, implies_true, forall_const, hP]

@[simp] theorem State.closeVigil_outside {P : Parts} (s : State) (hP : P.emits ∧ P.cells = true ∧ P.regs Reg.CLK_GATE_OPEN ∧ P.chan = true ∧ P.regs Reg.CLK_READY ∧ P.clk = true ∧ P.regs Reg.CLK_STAT ∧ P.drc = true ∧ (∀ n, P.regs (Reg.CL_STAT n)) ∧ P.ecc = true ∧ P.regs Reg.DRC_SR_CNT ∧ P.fab = true ∧ P.regs Reg.DRC_STAT ∧ P.out = true ∧ P.regs Reg.ECC_CE_CNT0 ∧ P.port = true ∧ P.regs Reg.ECC_CE_CNT1 ∧ P.rate = true ∧ P.regs Reg.ECC_INJ ∧ P.streams = true ∧ P.regs Reg.ECC_LOG_CTRL ∧ P.regs Reg.ECC_POISON_CNT ∧ (∀ n, P.regs (Reg.ECC_REMAP n)) ∧ P.regs Reg.ECC_RMW_CNT ∧ P.regs Reg.ECC_STAT ∧ P.regs Reg.ECC_UE_CNT ∧ (∀ n, P.regs (Reg.FP_STAT n)) ∧ P.regs Reg.MODE_STAT) :
    (State.closeVigil s).outside P = s.outside P := by
  unfold State.closeVigil
  simp only [selfRefreshEntry_outside, State.enterDeep_outside, State.setReg_outside, State.push_outside, State.outside_ite, State.outside_bif, State.foldl_outside, State.foldl_outside_snd, State.foldl_outside_fst, ite_self, Bool.cond_self, Parts.emits_recs, Parts.emits_classLost, Parts.emits_host, Parts.emits_lost, and_self, and_true, true_and, implies_true, forall_const, hP]

@[simp] theorem modeChange_outside {P : Parts} (s : State) (hP : P.emits ∧ P.cells = true ∧ P.regs Reg.CLK_GATE_OPEN ∧ P.chan = true ∧ P.regs Reg.CLK_READY ∧ P.clk = true ∧ P.regs Reg.CLK_STAT ∧ P.drc = true ∧ (∀ n, P.regs (Reg.CL_STAT n)) ∧ P.ecc = true ∧ P.regs Reg.DRC_SR_CNT ∧ P.fab = true ∧ P.regs Reg.DRC_STAT ∧ P.fresh = true ∧ P.regs Reg.ECC_CE_CNT0 ∧ P.mode = true ∧ P.regs Reg.ECC_CE_CNT1 ∧ P.out = true ∧ P.regs Reg.ECC_INJ ∧ P.port = true ∧ P.regs Reg.ECC_LOG_CTRL ∧ P.rate = true ∧ P.regs Reg.ECC_POISON_CNT ∧ P.streams = true ∧ (∀ n, P.regs (Reg.ECC_REMAP n)) ∧ P.regs Reg.ECC_RMW_CNT ∧ P.regs Reg.ECC_STAT ∧ P.regs Reg.ECC_UE_CNT ∧ P.regs Reg.FAB_DROP ∧ (∀ n, P.regs (Reg.FP_STAT n)) ∧ (∀ n, P.regs (Reg.FP_UTIL n)) ∧ P.regs Reg.HIF_CMD_STAT ∧ P.regs Reg.MODE_CNT ∧ P.regs Reg.MODE_STAT ∧ P.regs Reg.PACER_STAT) :
    (modeChange s).outside P = s.outside P := by
  unfold modeChange
  simp only [State.setFld_outside, State.clear_outside, State.takeWaiting_outside, State.modeSetDone_outside, State.modeRecord_outside, State.setMode_outside, State.closeVigil_outside, State.setReg_outside, State.push_outside, State.outside_ite, State.outside_bif, State.foldl_outside, State.foldl_outside_snd, State.foldl_outside_fst, ite_self, Bool.cond_self, Parts.emits_recs, Parts.emits_classLost, Parts.emits_host, Parts.emits_lost, and_self, and_true, true_and, implies_true, forall_const, hP]
  repeat' (first | rfl | (split <;> try simp only [State.setFld_outside, State.clear_outside, State.takeWaiting_outside, State.modeSetDone_outside, State.modeRecord_outside, State.setMode_outside, State.closeVigil_outside, State.setReg_outside, State.push_outside, State.outside_ite, State.outside_bif, State.foldl_outside, State.foldl_outside_snd, State.foldl_outside_fst, ite_self, Bool.cond_self, Parts.emits_recs, Parts.emits_classLost, Parts.emits_host, Parts.emits_lost, and_self, and_true, true_and, implies_true, forall_const, hP]))

@[simp] theorem State.idleToVigil_outside {P : Parts} (s : State) (hP : P.mode = true ∧ P.regs Reg.MODE_STAT) :
    (State.idleToVigil s).outside P = s.outside P := by
  unfold State.idleToVigil
  simp only [State.beginChange_outside, State.setReg_outside, State.push_outside, State.outside_ite, State.outside_bif, State.foldl_outside, State.foldl_outside_snd, State.foldl_outside_fst, ite_self, Bool.cond_self, Parts.emits_recs, Parts.emits_classLost, Parts.emits_host, Parts.emits_lost, and_self, and_true, true_and, implies_true, forall_const, hP]

@[simp] theorem modeTimerOn_outside {P : Parts} (s : State) (hP : P.emits ∧ P.exc = true ∧ (∀ n, P.regs (Reg.EXC_STAT n)) ∧ P.fresh = true ∧ P.regs Reg.FAB_DROP ∧ P.mode = true ∧ (∀ n, P.regs (Reg.FP_UTIL n)) ∧ P.nodes = true ∧ P.regs Reg.MODE_STAT ∧ P.out = true ∧ P.regs Reg.PACER_STAT ∧ P.port = true ∧ P.regs Reg.SNP_MISS_CNT ∧ P.rate = true ∧ P.regs Reg.SNP_NEXT_HI ∧ P.snp = true ∧ P.regs Reg.SNP_NEXT_LO ∧ P.snpSeen = true ∧ P.regs Reg.SNP_STAT ∧ P.trig = true) :
    (modeTimerOn s).outside P = s.outside P := by
  unfold modeTimerOn
  simp only [State.timerWake_outside, State.offerTrigger_outside, State.outside_mode, State.setReg_outside, State.push_outside, State.outside_ite, State.outside_bif, State.foldl_outside, State.foldl_outside_snd, State.foldl_outside_fst, ite_self, Bool.cond_self, Parts.emits_recs, Parts.emits_classLost, Parts.emits_host, Parts.emits_lost, and_self, and_true, true_and, implies_true, forall_const, hP]

@[simp] theorem modeTimerOnEnd_outside {P : Parts} (s : State) (hP : P.mode = true ∧ P.regs Reg.MODE_STAT) :
    (modeTimerOnEnd s).outside P = s.outside P := by
  unfold modeTimerOnEnd
  simp only [State.idleToVigil_outside, State.outside_mode, State.setReg_outside, State.push_outside, State.outside_ite, State.outside_bif, State.foldl_outside, State.foldl_outside_snd, State.foldl_outside_fst, ite_self, Bool.cond_self, Parts.emits_recs, Parts.emits_classLost, Parts.emits_host, Parts.emits_lost, and_self, and_true, true_and, implies_true, forall_const, hP]

@[simp] theorem surveyIdleExpiry_outside {P : Parts} (s : State) (hP : P.mode = true ∧ P.regs Reg.MODE_STAT) :
    (surveyIdleExpiry s).outside P = s.outside P := by
  unfold surveyIdleExpiry
  simp only [State.idleToVigil_outside, State.setReg_outside, State.push_outside, State.outside_ite, State.outside_bif, State.foldl_outside, State.foldl_outside_snd, State.foldl_outside_fst, ite_self, Bool.cond_self, Parts.emits_recs, Parts.emits_classLost, Parts.emits_host, Parts.emits_lost, and_self, and_true, true_and, implies_true, forall_const, hP]

@[simp] theorem burstHoldExpiry_outside {P : Parts} (s : State) (hP : P.mode = true ∧ P.regs Reg.MODE_STAT) :
    (burstHoldExpiry s).outside P = s.outside P := by
  unfold burstHoldExpiry
  simp only [State.beginChange_outside, State.setReg_outside, State.push_outside, State.outside_ite, State.outside_bif, State.foldl_outside, State.foldl_outside_snd, State.foldl_outside_fst, ite_self, Bool.cond_self, Parts.emits_recs, Parts.emits_classLost, Parts.emits_host, Parts.emits_lost, and_self, and_true, true_and, implies_true, forall_const, hP]

@[simp] theorem State.passGate_outside {P : Parts} (s : State) (c : GateCause) (hP : P.emits ∧ P.mode = true ∧ P.regs Reg.MODE_STAT ∧ P.rate = true ∧ P.regs Reg.PACER_STAT) :
    (State.passGate s c).outside P = s.outside P := by
  unfold State.passGate
  repeat' split
  all_goals first | rfl | simp only [State.beginChange_outside, State.burstDenied_outside, State.setReg_outside, State.push_outside, State.outside_ite, State.outside_bif, State.foldl_outside, State.foldl_outside_snd, State.foldl_outside_fst, ite_self, Bool.cond_self, Parts.emits_recs, Parts.emits_classLost, Parts.emits_host, Parts.emits_lost, and_self, and_true, true_and, implies_true, forall_const, hP]

@[simp] theorem wakeGatePass_outside {P : Parts} (s : State) (hP : P.emits ∧ P.mode = true ∧ P.regs Reg.MODE_STAT ∧ P.rate = true ∧ P.regs Reg.PACER_STAT) :
    (wakeGatePass s).outside P = s.outside P := by
  unfold wakeGatePass
  repeat' split
  all_goals first | rfl | simp only [State.setMode_outside, State.passGate_outside, State.setReg_outside, State.push_outside, State.outside_ite, State.outside_bif, State.foldl_outside, State.foldl_outside_snd, State.foldl_outside_fst, ite_self, Bool.cond_self, Parts.emits_recs, Parts.emits_classLost, Parts.emits_host, Parts.emits_lost, and_self, and_true, true_and, implies_true, forall_const, hP]

@[simp] theorem wakeCauseDropped_outside {P : Parts} (s : State) (hP : P.mode = true) :
    (wakeCauseDropped s).outside P = s.outside P := by
  unfold wakeCauseDropped
  simp only [State.outside_mode, State.setReg_outside, State.push_outside, State.outside_ite, State.outside_bif, State.foldl_outside, State.foldl_outside_snd, State.foldl_outside_fst, ite_self, Bool.cond_self, Parts.emits_recs, Parts.emits_classLost, Parts.emits_host, Parts.emits_lost, and_self, and_true, true_and, implies_true, forall_const, hP]

end Sys2Proof.Machine
end

