-- ==== Sys2Proof/Laws/FramePacer.lean ====
section
/-!
SUPPORT. What the operations of Machine/Pacer.lean write: each leaves every part of the state as it is but those its hypothesis names.
-/

set_option Elab.async false
set_option linter.unusedSimpArgs false
namespace Sys2Proof.Machine

@[simp] theorem State.setTj_outside {P : Parts} (s : State) (tj : BitVec 16) (hP : P.regs Reg.PACER_STAT) :
    (State.setTj s tj).outside P = s.outside P := by
  unfold State.setTj
  simp only [State.setFld_outside, State.setReg_outside, State.push_outside, State.outside_ite, State.outside_bif, State.foldl_outside, State.foldl_outside_snd, State.foldl_outside_fst, ite_self, Bool.cond_self, Parts.emits_recs, Parts.emits_classLost, Parts.emits_host, Parts.emits_lost, and_self, and_true, true_and, implies_true, forall_const, hP]

@[simp] theorem State.countEnergy_outside {P : Parts} (s : State) (energy : List Nat) (hP : (∀ n, P.regs (Reg.PACER_E n))) :
    (State.countEnergy s energy).outside P = s.outside P := by
  unfold State.countEnergy
  simp only [State.setReg_outside, State.push_outside, State.outside_ite, State.outside_bif, State.foldl_outside, State.foldl_outside_snd, State.foldl_outside_fst, ite_self, Bool.cond_self, Parts.emits_recs, Parts.emits_classLost, Parts.emits_host, Parts.emits_lost, and_self, and_true, true_and, implies_true, forall_const, hP]

@[simp] theorem State.chargeWindow_outside {P : Parts} (s : State) (e dt : Nat) (hP : P.pacer = true) :
    (State.chargeWindow s e dt).outside P = s.outside P := by
  unfold State.chargeWindow
  simp only [State.outside_pacer, State.setReg_outside, State.push_outside, State.outside_ite, State.outside_bif, State.foldl_outside, State.foldl_outside_snd, State.foldl_outside_fst, ite_self, Bool.cond_self, Parts.emits_recs, Parts.emits_classLost, Parts.emits_host, Parts.emits_lost, and_self, and_true, true_and, implies_true, forall_const, hP]

@[simp] theorem State.judgeOver_outside {P : Parts} (s : State) (hP : P.emits ∧ P.pacer = true ∧ P.regs Reg.PACER_STAT) :
    (State.judgeOver s).outside P = s.outside P := by
  unfold State.judgeOver
  simp only [State.raise_outside, State.emit_outside, State.outside_pacer, State.setReg_outside, State.push_outside, State.outside_ite, State.outside_bif, State.foldl_outside, State.foldl_outside_snd, State.foldl_outside_fst, ite_self, Bool.cond_self, Parts.emits_recs, Parts.emits_classLost, Parts.emits_host, Parts.emits_lost, and_self, and_true, true_and, implies_true, forall_const, hP]

@[simp] theorem burstExhausted_outside {P : Parts} (s : State) (hP : P.emits ∧ P.mode = true ∧ P.regs Reg.MODE_STAT ∧ P.pacer = true ∧ P.regs Reg.PACER_STAT) :
    (burstExhausted s).outside P = s.outside P := by
  unfold burstExhausted
  simp only [State.raise_outside, State.emit_outside, State.pacerChange_outside, State.outside_pacer, State.setReg_outside, State.push_outside, State.outside_ite, State.outside_bif, State.foldl_outside, State.foldl_outside_snd, State.foldl_outside_fst, ite_self, Bool.cond_self, Parts.emits_recs, Parts.emits_classLost, Parts.emits_host, Parts.emits_lost, and_self, and_true, true_and, implies_true, forall_const, hP]

@[simp] theorem State.reachCeil_outside {P : Parts} (s : State) (hP : P.emits ∧ P.regs Reg.PACER_STAT) :
    (State.reachCeil s).outside P = s.outside P := by
  unfold State.reachCeil
  simp only [State.raise_outside, State.emit_outside, State.setReg_outside, State.push_outside, State.outside_ite, State.outside_bif, State.foldl_outside, State.foldl_outside_snd, State.foldl_outside_fst, ite_self, Bool.cond_self, Parts.emits_recs, Parts.emits_classLost, Parts.emits_host, Parts.emits_lost, and_self, and_true, true_and, implies_true, forall_const, hP]

@[simp] theorem State.haltClusters_outside {P : Parts} (s : State) (hP : P.clu = true ∧ (∀ n, P.regs (Reg.CL_CYC n)) ∧ P.nodes = true ∧ (∀ n, P.regs (Reg.CL_STAT n))) :
    (State.haltClusters s).outside P = s.outside P := by
  unfold State.haltClusters
  simp only [State.setFld_outside, State.setNode_outside, State.countBusy_outside, State.setReg_outside, State.push_outside, State.outside_ite, State.outside_bif, State.foldl_outside, State.foldl_outside_snd, State.foldl_outside_fst, ite_self, Bool.cond_self, Parts.emits_recs, Parts.emits_classLost, Parts.emits_host, Parts.emits_lost, and_self, and_true, true_and, implies_true, forall_const, hP]

@[simp] theorem State.reachEmerg_outside {P : Parts} (s : State) (hP : P.emits ∧ P.clu = true ∧ (∀ n, P.regs (Reg.CL_CYC n)) ∧ P.fab = true ∧ (∀ n, P.regs (Reg.CL_STAT n)) ∧ P.fresh = true ∧ P.regs Reg.FAB_DROP ∧ P.mode = true ∧ (∀ n, P.regs (Reg.FP_UTIL n)) ∧ P.nodes = true ∧ P.regs Reg.HIF_CMD_STAT ∧ P.out = true ∧ P.regs Reg.MODE_STAT ∧ P.port = true ∧ P.regs Reg.PACER_STAT ∧ P.rate = true ∧ P.regs Reg.SAF_CAUSE ∧ P.smon = true ∧ P.regs Reg.SAF_CAUSE_S ∧ P.regs Reg.SAF_CNT ∧ P.regs Reg.SAF_STAT) :
    (State.reachEmerg s).outside P = s.outside P := by
  unfold State.reachEmerg
  simp only [State.raise_outside, State.emit_outside, State.raiseCause_outside, State.haltClusters_outside, State.setReg_outside, State.push_outside, State.outside_ite, State.outside_bif, State.foldl_outside, State.foldl_outside_snd, State.foldl_outside_fst, ite_self, Bool.cond_self, Parts.emits_recs, Parts.emits_classLost, Parts.emits_host, Parts.emits_lost, and_self, and_true, true_and, implies_true, forall_const, hP]

@[simp] theorem State.judgeTemp_outside {P : Parts} (s : State) (hP : P.emits ∧ P.clu = true ∧ (∀ n, P.regs (Reg.CL_CYC n)) ∧ P.fab = true ∧ (∀ n, P.regs (Reg.CL_STAT n)) ∧ P.fresh = true ∧ P.regs Reg.FAB_DROP ∧ P.mode = true ∧ (∀ n, P.regs (Reg.FP_UTIL n)) ∧ P.nodes = true ∧ P.regs Reg.HIF_CMD_STAT ∧ P.out = true ∧ P.regs Reg.MODE_STAT ∧ P.port = true ∧ P.regs Reg.PACER_STAT ∧ P.rate = true ∧ P.regs Reg.SAF_CAUSE ∧ P.smon = true ∧ P.regs Reg.SAF_CAUSE_S ∧ P.regs Reg.SAF_CNT ∧ P.regs Reg.SAF_STAT) :
    (State.judgeTemp s).outside P = s.outside P := by
  unfold State.judgeTemp
  simp only [State.reachCeil_outside, State.reachEmerg_outside, State.setReg_outside, State.push_outside, State.outside_ite, State.outside_bif, State.foldl_outside, State.foldl_outside_snd, State.foldl_outside_fst, ite_self, Bool.cond_self, Parts.emits_recs, Parts.emits_classLost, Parts.emits_host, Parts.emits_lost, and_self, and_true, true_and, implies_true, forall_const, hP]

@[simp] theorem pacerEvaluate_outside {P : Parts} (s : State) (energy : List Nat) (tj : BitVec 16) (hP : P.emits ∧ P.clu = true ∧ (∀ n, P.regs (Reg.CL_CYC n)) ∧ P.fab = true ∧ (∀ n, P.regs (Reg.CL_STAT n)) ∧ P.fresh = true ∧ P.regs Reg.FAB_DROP ∧ P.mode = true ∧ (∀ n, P.regs (Reg.FP_UTIL n)) ∧ P.nodes = true ∧ P.regs Reg.HIF_CMD_STAT ∧ P.out = true ∧ P.regs Reg.MODE_STAT ∧ P.pacer = true ∧ P.regs Reg.PACER_BORROW ∧ P.port = true ∧ P.regs Reg.PACER_DEFER ∧ P.rate = true ∧ (∀ n, P.regs (Reg.PACER_E n)) ∧ P.smon = true ∧ P.regs Reg.PACER_HEAD ∧ P.regs Reg.PACER_POOL ∧ P.regs Reg.PACER_STAT ∧ P.regs Reg.PACER_USED ∧ P.regs Reg.SAF_CAUSE ∧ P.regs Reg.SAF_CAUSE_S ∧ P.regs Reg.SAF_CNT ∧ P.regs Reg.SAF_STAT) :
    (pacerEvaluate s energy tj).outside P = s.outside P := by
  unfold pacerEvaluate
  simp only [State.pacerChange_outside, State.pacerAdmit_outside, State.setTj_outside, State.countEnergy_outside, State.chargeWindow_outside, State.judgeOver_outside, burstExhausted_outside, State.judgeTemp_outside, State.setReg_outside, State.push_outside, State.outside_ite, State.outside_bif, State.foldl_outside, State.foldl_outside_snd, State.foldl_outside_fst, ite_self, Bool.cond_self, Parts.emits_recs, Parts.emits_classLost, Parts.emits_host, Parts.emits_lost, and_self, and_true, true_and, implies_true, forall_const, hP]

@[simp] theorem State.measureBase_outside {P : Parts} (s : State) (hP : P.pacer = true ∧ P.regs Reg.PACER_BASE_S ∧ P.regs Reg.PACER_BASE_V) :
    (State.measureBase s).outside P = s.outside P := by
  unfold State.measureBase
  simp only [State.outside_pacer, State.setReg_outside, State.push_outside, State.outside_ite, State.outside_bif, State.foldl_outside, State.foldl_outside_snd, State.foldl_outside_fst, ite_self, Bool.cond_self, Parts.emits_recs, Parts.emits_classLost, Parts.emits_host, Parts.emits_lost, and_self, and_true, true_and, implies_true, forall_const, hP]

@[simp] theorem pacerWindowStart_outside {P : Parts} (s : State) (hP : P.emits ∧ P.nodes = true ∧ P.regs Reg.PACER_BASE_S ∧ P.pacer = true ∧ P.regs Reg.PACER_BASE_V ∧ P.regs Reg.PACER_BORROW ∧ P.regs Reg.PACER_DEFER ∧ P.regs Reg.PACER_HEAD ∧ P.regs Reg.PACER_POOL ∧ P.regs Reg.PACER_STAT ∧ P.regs Reg.PACER_USED) :
    (pacerWindowStart s).outside P = s.outside P := by
  unfold pacerWindowStart
  simp only [State.emit_outside, State.pacerAdmit_outside, State.measureBase_outside, State.outside_pacer, State.setReg_outside, State.push_outside, State.outside_ite, State.outside_bif, State.foldl_outside, State.foldl_outside_snd, State.foldl_outside_fst, ite_self, Bool.cond_self, Parts.emits_recs, Parts.emits_classLost, Parts.emits_host, Parts.emits_lost, and_self, and_true, true_and, implies_true, forall_const, hP]

@[simp] theorem thermalCeil_outside {P : Parts} (s : State) (tj : BitVec 16) (hP : P.emits ∧ P.mode = true ∧ P.regs Reg.MODE_STAT ∧ P.nodes = true ∧ P.regs Reg.PACER_BORROW ∧ P.pacer = true ∧ P.regs Reg.PACER_DEFER ∧ P.regs Reg.PACER_HEAD ∧ P.regs Reg.PACER_POOL ∧ P.regs Reg.PACER_STAT ∧ P.regs Reg.PACER_USED) :
    (thermalCeil s tj).outside P = s.outside P := by
  unfold thermalCeil
  simp only [State.clear_outside, State.emit_outside, State.pacerChange_outside, State.pacerAdmit_outside, State.setTj_outside, State.reachCeil_outside, State.setReg_outside, State.push_outside, State.outside_ite, State.outside_bif, State.foldl_outside, State.foldl_outside_snd, State.foldl_outside_fst, ite_self, Bool.cond_self, Parts.emits_recs, Parts.emits_classLost, Parts.emits_host, Parts.emits_lost, and_self, and_true, true_and, implies_true, forall_const, hP]

@[simp] theorem thermalEmergency_outside {P : Parts} (s : State) (tj : BitVec 16) (hP : P.emits ∧ P.clu = true ∧ (∀ n, P.regs (Reg.CL_CYC n)) ∧ P.fab = true ∧ (∀ n, P.regs (Reg.CL_STAT n)) ∧ P.fresh = true ∧ P.regs Reg.FAB_DROP ∧ P.mode = true ∧ (∀ n, P.regs (Reg.FP_UTIL n)) ∧ P.nodes = true ∧ P.regs Reg.HIF_CMD_STAT ∧ P.out = true ∧ P.regs Reg.MODE_STAT ∧ P.port = true ∧ P.regs Reg.PACER_STAT ∧ P.rate = true ∧ P.regs Reg.SAF_CAUSE ∧ P.smon = true ∧ P.regs Reg.SAF_CAUSE_S ∧ P.regs Reg.SAF_CNT ∧ P.regs Reg.SAF_STAT) :
    (thermalEmergency s tj).outside P = s.outside P := by
  unfold thermalEmergency
  simp only [State.setTj_outside, State.reachEmerg_outside, State.setReg_outside, State.push_outside, State.outside_ite, State.outside_bif, State.foldl_outside, State.foldl_outside_snd, State.foldl_outside_fst, ite_self, Bool.cond_self, Parts.emits_recs, Parts.emits_classLost, Parts.emits_host, Parts.emits_lost, and_self, and_true, true_and, implies_true, forall_const, hP]

@[simp] theorem thermalEmergencyEnd_outside {P : Parts} (s : State) (tj : BitVec 16) (hP : P.emits ∧ P.nodes = true ∧ P.regs Reg.PACER_BORROW ∧ P.pacer = true ∧ P.regs Reg.PACER_DEFER ∧ P.regs Reg.PACER_HEAD ∧ P.regs Reg.PACER_POOL ∧ P.regs Reg.PACER_STAT ∧ P.regs Reg.PACER_USED ∧ P.regs Reg.SAF_CAUSE) :
    (thermalEmergencyEnd s tj).outside P = s.outside P := by
  unfold thermalEmergencyEnd
  simp only [State.clear_outside, State.emit_outside, State.dropCause_outside, State.pacerAdmit_outside, State.setTj_outside, State.setReg_outside, State.push_outside, State.outside_ite, State.outside_bif, State.foldl_outside, State.foldl_outside_snd, State.foldl_outside_fst, ite_self, Bool.cond_self, Parts.emits_recs, Parts.emits_classLost, Parts.emits_host, Parts.emits_lost, and_self, and_true, true_and, implies_true, forall_const, hP]

end Sys2Proof.Machine
end

