-- ==== Sys2Proof/Laws/FrameSnapshots.lean ====
section
/-!
SUPPORT. What the operations of Machine/Snapshots.lean write: each leaves every part of the state as it is but those its hypothesis names.
-/

set_option Elab.async false
set_option linter.unusedSimpArgs false
namespace Sys2Proof.Machine

@[simp] theorem snapshotArm_outside {P : Parts} (s : State) (src : CmdSrc) (tag : Nat) (t : Time) (id : Nat) (all : Bool) (hP : P.emits ∧ P.fab = true ∧ P.regs Reg.FAB_DROP ∧ P.fresh = true ∧ (∀ n, P.regs (Reg.FP_UTIL n)) ∧ P.out = true ∧ P.regs Reg.HIF_CMD_STAT ∧ P.port = true ∧ P.regs Reg.SNP_MISS_CNT ∧ P.snp = true ∧ P.regs Reg.SNP_NEXT_HI ∧ P.snpSeen = true ∧ P.regs Reg.SNP_NEXT_LO ∧ P.regs Reg.SNP_STAT) :
    (snapshotArm s src tag t id all).outside P = s.outside P := by
  unfold snapshotArm
  simp only [State.settle_outside, State.armSnapshot_outside, State.broadcastStarter_outside, State.setReg_outside, State.push_outside, State.outside_ite, State.outside_bif, State.foldl_outside, State.foldl_outside_snd, State.foldl_outside_fst, ite_self, Bool.cond_self, Parts.emits_recs, Parts.emits_classLost, Parts.emits_host, Parts.emits_lost, and_self, and_true, true_and, implies_true, forall_const, hP]

@[simp] theorem starter_outside {P : Parts} (s : State) (t : Time) (id origin : Nat) (hP : P.emits ∧ P.snp = true ∧ P.regs Reg.SNP_MISS_CNT ∧ P.snpSeen = true ∧ P.regs Reg.SNP_NEXT_HI ∧ P.regs Reg.SNP_NEXT_LO ∧ P.regs Reg.SNP_STAT) :
    (starter s t id origin).outside P = s.outside P := by
  unfold starter
  simp only [State.takeStarter_outside, State.setReg_outside, State.push_outside, State.outside_ite, State.outside_bif, State.foldl_outside, State.foldl_outside_snd, State.foldl_outside_fst, ite_self, Bool.cond_self, Parts.emits_recs, Parts.emits_classLost, Parts.emits_host, Parts.emits_lost, and_self, and_true, true_and, implies_true, forall_const, hP]

@[simp] theorem snapDone_outside {P : Parts} (s : State) (hP : P.emits ∧ P.snapNext = true ∧ P.regs Reg.SNP_ORIGIN ∧ P.snapRegion = true ∧ P.regs Reg.SNP_STAT ∧ P.regs Reg.SNP_T_HI ∧ P.regs Reg.SNP_T_LO) :
    (snapDone s).outside P = s.outside P := by
  unfold snapDone
  simp only [State.setFld_outside, State.raise_outside, State.clear_outside, State.setPair_outside, State.emit_outside, State.outside_snapRegion_snapNext, State.setReg_outside, State.push_outside, State.outside_ite, State.outside_bif, State.foldl_outside, State.foldl_outside_snd, State.foldl_outside_fst, ite_self, Bool.cond_self, Parts.emits_recs, Parts.emits_classLost, Parts.emits_host, Parts.emits_lost, and_self, and_true, true_and, implies_true, forall_const, hP]
  repeat' (first | rfl | (split <;> try simp only [State.setFld_outside, State.raise_outside, State.clear_outside, State.setPair_outside, State.emit_outside, State.outside_snapRegion_snapNext, State.setReg_outside, State.push_outside, State.outside_ite, State.outside_bif, State.foldl_outside, State.foldl_outside_snd, State.foldl_outside_fst, ite_self, Bool.cond_self, Parts.emits_recs, Parts.emits_classLost, Parts.emits_host, Parts.emits_lost, and_self, and_true, true_and, implies_true, forall_const, hP]))

@[simp] theorem snapshotLatch_outside {P : Parts} (s : State) (hP : P.emits ∧ P.snapNext = true ∧ P.regs Reg.SNP_NEXT_HI ∧ P.snapRegion = true ∧ P.regs Reg.SNP_NEXT_LO ∧ P.snp = true ∧ P.regs Reg.SNP_ORIGIN ∧ P.regs Reg.SNP_STAT ∧ P.regs Reg.SNP_T_HI ∧ P.regs Reg.SNP_T_LO) :
    (snapshotLatch s).outside P = s.outside P := by
  unfold snapshotLatch
  simp only [State.raise_outside, State.showPending_outside, snapDone_outside, State.outside_snp_snapNext, State.setReg_outside, State.push_outside, State.outside_ite, State.outside_bif, State.foldl_outside, State.foldl_outside_snd, State.foldl_outside_fst, ite_self, Bool.cond_self, Parts.emits_recs, Parts.emits_classLost, Parts.emits_host, Parts.emits_lost, and_self, and_true, true_and, implies_true, forall_const, hP]
  repeat' (first | rfl | (split <;> try simp only [State.raise_outside, State.showPending_outside, snapDone_outside, State.outside_snp_snapNext, State.setReg_outside, State.push_outside, State.outside_ite, State.outside_bif, State.foldl_outside, State.foldl_outside_snd, State.foldl_outside_fst, ite_self, Bool.cond_self, Parts.emits_recs, Parts.emits_classLost, Parts.emits_host, Parts.emits_lost, and_self, and_true, true_and, implies_true, forall_const, hP]))

end Sys2Proof.Machine
end

