-- ==== Sys2Proof/Laws/FrameSram.lean ====
section
/-!
SUPPORT. What the operations of Machine/Sram.lean write: each leaves every part of the state as it is but those its hypothesis names.
-/

set_option Elab.async false
set_option linter.unusedSimpArgs false
namespace Sys2Proof.Machine

@[simp] theorem State.setCalPoison_outside {P : Parts} (s : State) (key : Nat) (b : Bool) (hP : P.emits ∧ P.cal = true ∧ P.regs Reg.FAB_DROP ∧ P.fab = true ∧ (∀ n, P.regs (Reg.FP_UTIL n)) ∧ P.fresh = true ∧ P.regs Reg.HIF_CMD_STAT ∧ P.mode = true ∧ P.regs Reg.MODE_STAT ∧ P.out = true ∧ P.regs Reg.PACER_STAT ∧ P.port = true ∧ P.regs Reg.SAF_CAUSE ∧ P.rate = true ∧ P.regs Reg.SAF_CAUSE_S ∧ P.smon = true ∧ P.regs Reg.SAF_CNT ∧ P.trust = true ∧ P.regs Reg.SAF_STAT ∧ P.regs Reg.SAF_VER0 ∧ P.regs Reg.SAF_VER1 ∧ P.regs Reg.SAF_W) :
    (State.setCalPoison s key b).outside P = s.outside P := by
  unfold State.setCalPoison
  simp only [State.setCal_outside, State.verifyP_outside, State.verifyW_outside, State.setReg_outside, State.push_outside, State.outside_ite, State.outside_bif, State.foldl_outside, State.foldl_outside_snd, State.foldl_outside_fst, ite_self, Bool.cond_self, Parts.emits_recs, Parts.emits_classLost, Parts.emits_host, Parts.emits_lost, and_self, and_true, true_and, implies_true, forall_const, hP]

@[simp] theorem State.inCluster_outside {P : Parts} (s : State) (n : Nat) (f : NodeSt → NodeSt) (hP : P.fresh = true ∧ P.nodes = true) :
    (State.inCluster s n f).outside P = s.outside P := by
  unfold State.inCluster
  simp only [State.freeNat_outside, State.setNode_outside, State.setReg_outside, State.push_outside, State.outside_ite, State.outside_bif, State.foldl_outside, State.foldl_outside_snd, State.foldl_outside_fst, ite_self, Bool.cond_self, Parts.emits_recs, Parts.emits_classLost, Parts.emits_host, Parts.emits_lost, and_self, and_true, true_and, implies_true, forall_const, hP]

@[simp] theorem State.spoil_outside {P : Parts} (s : State) (w : SramWord) (hP : P.emits ∧ P.clu = true ∧ P.regs Reg.CLK_GATE_OPEN ∧ P.fab = true ∧ (∀ n, P.regs (Reg.CL_CUSE n)) ∧ P.fresh = true ∧ (∀ n, P.regs (Reg.CL_CYC n)) ∧ P.mode = true ∧ (∀ n, P.regs (Reg.CL_LOAD n)) ∧ P.nodes = true ∧ (∀ n, P.regs (Reg.CL_STAT n)) ∧ P.out = true ∧ (∀ n, P.regs (Reg.CL_WMAX n)) ∧ P.pch = true ∧ (∀ n, P.regs (Reg.CL_XYUSE n)) ∧ P.port = true ∧ P.regs Reg.ENG_STAT ∧ P.rate = true ∧ P.regs Reg.FAB_DROP ∧ P.smon = true ∧ (∀ n, P.regs (Reg.FP_UTIL n)) ∧ P.streams = true ∧ P.regs Reg.HIF_CMD_STAT ∧ P.wch = true ∧ P.regs Reg.MODE_STAT ∧ P.regs Reg.PACER_STAT ∧ P.regs Reg.SAF_CAUSE ∧ P.regs Reg.SAF_CAUSE_S ∧ P.regs Reg.SAF_CNT ∧ P.regs Reg.SAF_STAT) :
    (State.spoil s w).outside P = s.outside P := by
  unfold State.spoil
  repeat' split
  all_goals first | rfl | simp only [State.setPch_outside, State.setWch_outside, State.setNode_outside, State.setStream_outside, State.updInv_outside, clusterFault_outside, State.inCluster_outside, State.setReg_outside, State.push_outside, State.outside_ite, State.outside_bif, State.foldl_outside, State.foldl_outside_snd, State.foldl_outside_fst, ite_self, Bool.cond_self, Parts.emits_recs, Parts.emits_classLost, Parts.emits_host, Parts.emits_lost, and_self, and_true, true_and, implies_true, forall_const, hP]

@[simp] theorem State.spoilOne_outside {P : Parts} (s : State) (l : List SramWord) (hP : P.emits ∧ P.clu = true ∧ P.regs Reg.CLK_GATE_OPEN ∧ P.fab = true ∧ (∀ n, P.regs (Reg.CL_CUSE n)) ∧ P.fresh = true ∧ (∀ n, P.regs (Reg.CL_CYC n)) ∧ P.mode = true ∧ (∀ n, P.regs (Reg.CL_LOAD n)) ∧ P.nodes = true ∧ (∀ n, P.regs (Reg.CL_STAT n)) ∧ P.out = true ∧ (∀ n, P.regs (Reg.CL_WMAX n)) ∧ P.pch = true ∧ (∀ n, P.regs (Reg.CL_XYUSE n)) ∧ P.port = true ∧ P.regs Reg.ENG_STAT ∧ P.rate = true ∧ P.regs Reg.FAB_DROP ∧ P.smon = true ∧ (∀ n, P.regs (Reg.FP_UTIL n)) ∧ P.streams = true ∧ P.regs Reg.HIF_CMD_STAT ∧ P.wch = true ∧ P.regs Reg.MODE_STAT ∧ P.regs Reg.PACER_STAT ∧ P.regs Reg.SAF_CAUSE ∧ P.regs Reg.SAF_CAUSE_S ∧ P.regs Reg.SAF_CNT ∧ P.regs Reg.SAF_STAT) :
    (State.spoilOne s l).outside P = s.outside P := by
  unfold State.spoilOne
  simp only [State.freeNat_outside, State.spoil_outside, State.setReg_outside, State.push_outside, State.outside_ite, State.outside_bif, State.foldl_outside, State.foldl_outside_snd, State.foldl_outside_fst, ite_self, Bool.cond_self, Parts.emits_recs, Parts.emits_classLost, Parts.emits_host, Parts.emits_lost, and_self, and_true, true_and, implies_true, forall_const, hP]
  repeat' (first | rfl | (split <;> try simp only [State.freeNat_outside, State.spoil_outside, State.setReg_outside, State.push_outside, State.outside_ite, State.outside_bif, State.foldl_outside, State.foldl_outside_snd, State.foldl_outside_fst, ite_self, Bool.cond_self, Parts.emits_recs, Parts.emits_classLost, Parts.emits_host, Parts.emits_lost, and_self, and_true, true_and, implies_true, forall_const, hP]))

@[simp] theorem sramRead_outside {P : Parts} (s : State) (region addr : Nat) (ue : Bool) (hP : P.emits ∧ P.cal = true ∧ P.regs Reg.CLK_GATE_OPEN ∧ P.clu = true ∧ (∀ n, P.regs (Reg.CL_CUSE n)) ∧ P.ecc = true ∧ (∀ n, P.regs (Reg.CL_CYC n)) ∧ P.fab = true ∧ (∀ n, P.regs (Reg.CL_LOAD n)) ∧ P.fresh = true ∧ (∀ n, P.regs (Reg.CL_STAT n)) ∧ P.mode = true ∧ (∀ n, P.regs (Reg.CL_WMAX n)) ∧ P.nodes = true ∧ (∀ n, P.regs (Reg.CL_XYUSE n)) ∧ P.out = true ∧ (∀ n, P.regs (Reg.ECC_REMAP n)) ∧ P.pch = true ∧ (∀ n, P.regs (Reg.ECC_SRAM_CE n)) ∧ P.port = true ∧ P.regs Reg.ECC_STAT ∧ P.rate = true ∧ P.regs Reg.ENG_STAT ∧ P.smon = true ∧ P.regs Reg.FAB_DROP ∧ P.streams = true ∧ (∀ n, P.regs (Reg.FP_UTIL n)) ∧ P.trust = true ∧ P.regs Reg.HIF_CMD_STAT ∧ P.wch = true ∧ P.regs Reg.MODE_STAT ∧ P.regs Reg.PACER_STAT ∧ P.regs Reg.SAF_CAUSE ∧ P.regs Reg.SAF_CAUSE_S ∧ P.regs Reg.SAF_CNT ∧ P.regs Reg.SAF_STAT ∧ P.regs Reg.SAF_VER0 ∧ P.regs Reg.SAF_VER1 ∧ P.regs Reg.SAF_W) :
    (sramRead s region addr ue).outside P = s.outside P := by
  unfold sramRead
  simp only [State.raiseCause_outside, State.setSpare_outside, State.sramError_outside, State.setCalPoison_outside, State.spoilOne_outside, State.outside_ecc, State.setReg_outside, State.push_outside, State.outside_ite, State.outside_bif, State.foldl_outside, State.foldl_outside_snd, State.foldl_outside_fst, ite_self, Bool.cond_self, Parts.emits_recs, Parts.emits_classLost, Parts.emits_host, Parts.emits_lost, and_self, and_true, true_and, implies_true, forall_const, hP]
  repeat' (first | rfl | (split <;> try simp only [State.raiseCause_outside, State.setSpare_outside, State.sramError_outside, State.setCalPoison_outside, State.spoilOne_outside, State.outside_ecc, State.setReg_outside, State.push_outside, State.outside_ite, State.outside_bif, State.foldl_outside, State.foldl_outside_snd, State.foldl_outside_fst, ite_self, Bool.cond_self, Parts.emits_recs, Parts.emits_classLost, Parts.emits_host, Parts.emits_lost, and_self, and_true, true_and, implies_true, forall_const, hP]))

@[simp] theorem calEntryReload_outside {P : Parts} (s : State) (key : Nat) (readable : Bool) (hP : P.emits ∧ P.cal = true ∧ P.regs Reg.CAL_STAT ∧ P.fab = true ∧ P.regs Reg.FAB_DROP ∧ P.fresh = true ∧ (∀ n, P.regs (Reg.FP_UTIL n)) ∧ P.mode = true ∧ P.regs Reg.HIF_CMD_STAT ∧ P.out = true ∧ P.regs Reg.MODE_STAT ∧ P.port = true ∧ P.regs Reg.PACER_STAT ∧ P.rate = true ∧ P.regs Reg.SAF_CAUSE ∧ P.smon = true ∧ P.regs Reg.SAF_CAUSE_S ∧ P.trust = true ∧ P.regs Reg.SAF_CNT ∧ P.regs Reg.SAF_STAT ∧ P.regs Reg.SAF_VER0 ∧ P.regs Reg.SAF_VER1 ∧ P.regs Reg.SAF_W) :
    (calEntryReload s key readable).outside P = s.outside P := by
  unfold calEntryReload
  simp only [State.setCal_outside, State.loadCalEntry_outside, State.setCalPoison_outside, State.setReg_outside, State.push_outside, State.outside_ite, State.outside_bif, State.foldl_outside, State.foldl_outside_snd, State.foldl_outside_fst, ite_self, Bool.cond_self, Parts.emits_recs, Parts.emits_classLost, Parts.emits_host, Parts.emits_lost, and_self, and_true, true_and, implies_true, forall_const, hP]

end Sys2Proof.Machine
end

