-- ==== Sys2Proof/Laws/FrameStep.lean ====
section
/-!
SUPPORT. What the operations of Machine/Step.lean write: each leaves every part of the state as it is but those its hypothesis names.
-/

set_option Elab.async false
set_option linter.unusedSimpArgs false
namespace Sys2Proof.Machine

@[simp] theorem State.idle_outside {P : Parts} (s : State) (hP : P.cycles = true ∧ P.out = true ∧ P.port = true ∧ P.sinceBase = true ∧ P.time = true ∧ P.timeRem = true) :
    (State.idle s).outside P = s.outside P := by
  unfold State.idle
  simp only [State.passCycles_outside, State.keepTalking_outside, State.setReg_outside, State.push_outside, State.outside_ite, State.outside_bif, State.foldl_outside, State.foldl_outside_snd, State.foldl_outside_fst, ite_self, Bool.cond_self, Parts.emits_recs, Parts.emits_classLost, Parts.emits_host, Parts.emits_lost, and_self, and_true, true_and, implies_true, forall_const, hP]

end Sys2Proof.Machine
end

