-- ==== Sys2Proof/Laws/State.lean ====
section
/-!
SUPPORT. What the basic updates of State leave and change: a register that has been set is read back and every other one keeps its value;
an update of the register file, an output, a free value or a unit of a store changes nothing else.
-/

set_option Elab.async false
namespace Sys2Proof.Machine

/-! ### The register file -/

@[simp] theorem State.reg_setReg_self (s : State) (a : Nat) (w : Word) : (s.setReg a w).reg a = w := by
  simp [State.reg, State.setReg]

theorem State.reg_setReg_other (s : State) {a b : Nat} (h : b ≠ a) (w : Word) : (s.setReg a w).reg b = s.reg b := by
  simp [State.reg, State.setReg, Store.get_set_other _ _ h]

theorem State.reg_setReg (s : State) (a b : Nat) (w : Word) : (s.setReg a w).reg b = if b = a then w else s.reg b := by
  simp [State.reg, State.setReg, Store.get_set]

theorem State.reg_setFld_self (s : State) (a : Nat) (f : Field) (v : Nat) : (s.setFld a f v).reg a = putField f (s.reg a) v := by
  simp [State.setFld]

theorem State.reg_setFld_other (s : State) {a b : Nat} (h : b ≠ a) (f : Field) (v : Nat) : (s.setFld a f v).reg b = s.reg b := by
  simp [State.setFld, State.reg_setReg_other s h]

/-- A field that has been set is read back. -/
theorem State.fld_setFld_self (s : State) (a : Nat) {f : Field} (h : Field.inWord f) (v : Nat) :
    (s.setFld a f v).fld a f = v % 2 ^ fieldWidth f := by
  simp [State.fld, State.reg_setFld_self, getField_putField h]

/-- A field apart from the one set keeps its number. -/
theorem State.fld_setFld_apart (s : State) (a : Nat) {f g : Field} (h : Field.inWord f) (hg : g.lo ≤ g.hi)
    (ha : f.hi < g.lo ∨ g.hi < f.lo) (v : Nat) : (s.setFld a f v).fld a g = s.fld a g := by
  simp [State.fld, State.reg_setFld_self, getField_putField_apart h hg ha]

/-- A field of another register keeps its number. -/
theorem State.fld_setFld_other (s : State) {a b : Nat} (h : b ≠ a) (f g : Field) (v : Nat) : (s.setFld a f v).fld b g = s.fld b g := by
  simp [State.fld, State.reg_setFld_other s h]

/-- A bit that has been set reads 1. -/
theorem State.flag_raise (s : State) (a : Nat) {f : Field} (h : Field.inWord f) : (s.raise a f).flag a f = true := by
  have hp : 1 < 2 ^ fieldWidth f := Nat.one_lt_pow (by unfold fieldWidth; have := h.1; omega) (by omega)
  simp [State.flag, State.raise, State.fld_setFld_self s a h, Nat.mod_eq_of_lt hp]

/-- A field that has been cleared reads 0. -/
theorem State.fld_clear (s : State) (a : Nat) {f : Field} (h : Field.inWord f) : (s.clear a f).fld a f = 0 := by
  simp [State.clear, State.fld_setFld_self s a h]

theorem State.reg_raise_other (s : State) {a b : Nat} (h : b ≠ a) (f : Field) : (s.raise a f).reg b = s.reg b :=
  State.reg_setFld_other s h f 1

theorem State.reg_clear_other (s : State) {a b : Nat} (h : b ≠ a) (f : Field) : (s.clear a f).reg b = s.reg b :=
  State.reg_setFld_other s h f 0

theorem State.reg_count_other (s : State) {a b : Nat} (h : b ≠ a) (f : Field) : (s.count a f).reg b = s.reg b :=
  State.reg_setFld_other s h f _

/-- The register file stays in canonical form. -/
theorem State.regs_wf_setReg (s : State) (a : Nat) (w : Word) (h : Store.wf (regReset s.fac) s.regs = true) :
    Store.wf (regReset (s.setReg a w).fac) (s.setReg a w).regs = true := Store.wf_set _ _ _ _ h

/-! ### Updates of the register file change nothing else -/

@[simp] theorem State.noteLate_pending (s : State) (a : Nat) (m : Word) : (s.noteLate a m).pending = s.pending := by unfold State.noteLate; split <;> rfl
@[simp] theorem State.noteLate_fac (s : State) (a : Nat) (m : Word) : (s.noteLate a m).fac = s.fac := by unfold State.noteLate; split <;> rfl
@[simp] theorem State.noteLate_regs (s : State) (a : Nat) (m : Word) : (s.noteLate a m).regs = s.regs := by unfold State.noteLate; split <;> rfl
@[simp] theorem State.noteLate_cycles (s : State) (a : Nat) (m : Word) : (s.noteLate a m).cycles = s.cycles := by unfold State.noteLate; split <;> rfl
@[simp] theorem State.noteLate_time (s : State) (a : Nat) (m : Word) : (s.noteLate a m).time = s.time := by unfold State.noteLate; split <;> rfl
@[simp] theorem State.noteLate_timeRem (s : State) (a : Nat) (m : Word) : (s.noteLate a m).timeRem = s.timeRem := by unfold State.noteLate; split <;> rfl
@[simp] theorem State.noteLate_sinceBase (s : State) (a : Nat) (m : Word) : (s.noteLate a m).sinceBase = s.sinceBase := by unfold State.noteLate; split <;> rfl
@[simp] theorem State.noteLate_baseIdx (s : State) (a : Nat) (m : Word) : (s.noteLate a m).baseIdx = s.baseIdx := by unfold State.noteLate; split <;> rfl
@[simp] theorem State.noteLate_baseRunning (s : State) (a : Nat) (m : Word) : (s.noteLate a m).baseRunning = s.baseRunning := by unfold State.noteLate; split <;> rfl
@[simp] theorem State.noteLate_recs (s : State) (a : Nat) (m : Word) : (s.noteLate a m).recs = s.recs := by unfold State.noteLate; split <;> rfl
@[simp] theorem State.noteLate_classLost (s : State) (a : Nat) (m : Word) : (s.noteLate a m).classLost = s.classLost := by unfold State.noteLate; split <;> rfl
@[simp] theorem State.noteLate_rate (s : State) (a : Nat) (m : Word) : (s.noteLate a m).rate = s.rate := by unfold State.noteLate; split <;> rfl
@[simp] theorem State.noteLate_out (s : State) (a : Nat) (m : Word) : (s.noteLate a m).out = s.out := by unfold State.noteLate; split <;> rfl
@[simp] theorem State.noteLate_host (s : State) (a : Nat) (m : Word) : (s.noteLate a m).host = s.host := by unfold State.noteLate; split <;> rfl
@[simp] theorem State.noteLate_queues (s : State) (a : Nat) (m : Word) : (s.noteLate a m).queues = s.queues := by unfold State.noteLate; split <;> rfl
@[simp] theorem State.noteLate_msi (s : State) (a : Nat) (m : Word) : (s.noteLate a m).msi = s.msi := by unfold State.noteLate; split <;> rfl
@[simp] theorem State.noteLate_latch (s : State) (a : Nat) (m : Word) : (s.noteLate a m).latch = s.latch := by unfold State.noteLate; split <;> rfl
@[simp] theorem State.noteLate_mode (s : State) (a : Nat) (m : Word) : (s.noteLate a m).mode = s.mode := by unfold State.noteLate; split <;> rfl
@[simp] theorem State.noteLate_clk (s : State) (a : Nat) (m : Word) : (s.noteLate a m).clk = s.clk := by unfold State.noteLate; split <;> rfl
@[simp] theorem State.noteLate_pacer (s : State) (a : Nat) (m : Word) : (s.noteLate a m).pacer = s.pacer := by unfold State.noteLate; split <;> rfl
@[simp] theorem State.noteLate_smon (s : State) (a : Nat) (m : Word) : (s.noteLate a m).smon = s.smon := by unfold State.noteLate; split <;> rfl
@[simp] theorem State.noteLate_trust (s : State) (a : Nat) (m : Word) : (s.noteLate a m).trust = s.trust := by unfold State.noteLate; split <;> rfl
@[simp] theorem State.noteLate_alarm (s : State) (a : Nat) (m : Word) : (s.noteLate a m).alarm = s.alarm := by unfold State.noteLate; split <;> rfl
@[simp] theorem State.noteLate_triggers (s : State) (a : Nat) (m : Word) : (s.noteLate a m).triggers = s.triggers := by unfold State.noteLate; split <;> rfl
@[simp] theorem State.noteLate_trig (s : State) (a : Nat) (m : Word) : (s.noteLate a m).trig = s.trig := by unfold State.noteLate; split <;> rfl
@[simp] theorem State.noteLate_snp (s : State) (a : Nat) (m : Word) : (s.noteLate a m).snp = s.snp := by unfold State.noteLate; split <;> rfl
@[simp] theorem State.noteLate_snpSeen (s : State) (a : Nat) (m : Word) : (s.noteLate a m).snpSeen = s.snpSeen := by unfold State.noteLate; split <;> rfl
@[simp] theorem State.noteLate_snapRegion (s : State) (a : Nat) (m : Word) : (s.noteLate a m).snapRegion = s.snapRegion := by unfold State.noteLate; split <;> rfl
@[simp] theorem State.noteLate_snapNext (s : State) (a : Nat) (m : Word) : (s.noteLate a m).snapNext = s.snapNext := by unfold State.noteLate; split <;> rfl
@[simp] theorem State.noteLate_bootu (s : State) (a : Nat) (m : Word) : (s.noteLate a m).bootu = s.bootu := by unfold State.noteLate; split <;> rfl
@[simp] theorem State.noteLate_pins (s : State) (a : Nat) (m : Word) : (s.noteLate a m).pins = s.pins := by unfold State.noteLate; split <;> rfl
@[simp] theorem State.noteLate_pch (s : State) (a : Nat) (m : Word) : (s.noteLate a m).pch = s.pch := by unfold State.noteLate; split <;> rfl
@[simp] theorem State.noteLate_exc (s : State) (a : Nat) (m : Word) : (s.noteLate a m).exc = s.exc := by unfold State.noteLate; split <;> rfl
@[simp] theorem State.noteLate_res (s : State) (a : Nat) (m : Word) : (s.noteLate a m).res = s.res := by unfold State.noteLate; split <;> rfl
@[simp] theorem State.noteLate_eff (s : State) (a : Nat) (m : Word) : (s.noteLate a m).eff = s.eff := by unfold State.noteLate; split <;> rfl
@[simp] theorem State.noteLate_cal (s : State) (a : Nat) (m : Word) : (s.noteLate a m).cal = s.cal := by unfold State.noteLate; split <;> rfl
@[simp] theorem State.noteLate_bank (s : State) (a : Nat) (m : Word) : (s.noteLate a m).bank = s.bank := by unfold State.noteLate; split <;> rfl
@[simp] theorem State.noteLate_chk (s : State) (a : Nat) (m : Word) : (s.noteLate a m).chk = s.chk := by unfold State.noteLate; split <;> rfl
@[simp] theorem State.noteLate_commit (s : State) (a : Nat) (m : Word) : (s.noteLate a m).commit = s.commit := by unfold State.noteLate; split <;> rfl
@[simp] theorem State.noteLate_wch (s : State) (a : Nat) (m : Word) : (s.noteLate a m).wch = s.wch := by unfold State.noteLate; split <;> rfl
@[simp] theorem State.noteLate_wm (s : State) (a : Nat) (m : Word) : (s.noteLate a m).wm = s.wm := by unfold State.noteLate; split <;> rfl
@[simp] theorem State.noteLate_hc (s : State) (a : Nat) (m : Word) : (s.noteLate a m).hc = s.hc := by unfold State.noteLate; split <;> rfl
@[simp] theorem State.noteLate_start (s : State) (a : Nat) (m : Word) : (s.noteLate a m).start = s.start := by unfold State.noteLate; split <;> rfl
@[simp] theorem State.noteLate_eng (s : State) (a : Nat) (m : Word) : (s.noteLate a m).eng = s.eng := by unfold State.noteLate; split <;> rfl
@[simp] theorem State.noteLate_nodes (s : State) (a : Nat) (m : Word) : (s.noteLate a m).nodes = s.nodes := by unfold State.noteLate; split <;> rfl
@[simp] theorem State.noteLate_clu (s : State) (a : Nat) (m : Word) : (s.noteLate a m).clu = s.clu := by unfold State.noteLate; split <;> rfl
@[simp] theorem State.noteLate_streams (s : State) (a : Nat) (m : Word) : (s.noteLate a m).streams = s.streams := by unfold State.noteLate; split <;> rfl
@[simp] theorem State.noteLate_rings (s : State) (a : Nat) (m : Word) : (s.noteLate a m).rings = s.rings := by unfold State.noteLate; split <;> rfl
@[simp] theorem State.noteLate_drc (s : State) (a : Nat) (m : Word) : (s.noteLate a m).drc = s.drc := by unfold State.noteLate; split <;> rfl
@[simp] theorem State.noteLate_chan (s : State) (a : Nat) (m : Word) : (s.noteLate a m).chan = s.chan := by unfold State.noteLate; split <;> rfl
@[simp] theorem State.noteLate_dport (s : State) (a : Nat) (m : Word) : (s.noteLate a m).dport = s.dport := by unfold State.noteLate; split <;> rfl
@[simp] theorem State.noteLate_cells (s : State) (a : Nat) (m : Word) : (s.noteLate a m).cells = s.cells := by unfold State.noteLate; split <;> rfl
@[simp] theorem State.noteLate_ecc (s : State) (a : Nat) (m : Word) : (s.noteLate a m).ecc = s.ecc := by unfold State.noteLate; split <;> rfl
@[simp] theorem State.noteLate_fab (s : State) (a : Nat) (m : Word) : (s.noteLate a m).fab = s.fab := by unfold State.noteLate; split <;> rfl
@[simp] theorem State.noteLate_port (s : State) (a : Nat) (m : Word) : (s.noteLate a m).port = s.port := by unfold State.noteLate; split <;> rfl
@[simp] theorem State.noteLate_reg (s : State) (a : Nat) (m : Word) (b : Nat) : (s.noteLate a m).reg b = s.reg b := by unfold State.noteLate; split <;> rfl
@[simp] theorem State.setReg_pending (s : State) (a : Nat) (w : Word) : (s.setReg a w).pending = s.pending := rfl
@[simp] theorem State.setReg_fac (s : State) (a : Nat) (w : Word) : (s.setReg a w).fac = s.fac := rfl
@[simp] theorem State.setReg_cycles (s : State) (a : Nat) (w : Word) : (s.setReg a w).cycles = s.cycles := rfl
@[simp] theorem State.setReg_time (s : State) (a : Nat) (w : Word) : (s.setReg a w).time = s.time := rfl
@[simp] theorem State.setReg_timeRem (s : State) (a : Nat) (w : Word) : (s.setReg a w).timeRem = s.timeRem := rfl
@[simp] theorem State.setReg_sinceBase (s : State) (a : Nat) (w : Word) : (s.setReg a w).sinceBase = s.sinceBase := rfl
@[simp] theorem State.setReg_baseIdx (s : State) (a : Nat) (w : Word) : (s.setReg a w).baseIdx = s.baseIdx := rfl
@[simp] theorem State.setReg_baseRunning (s : State) (a : Nat) (w : Word) : (s.setReg a w).baseRunning = s.baseRunning := rfl
@[simp] theorem State.setReg_fresh (s : State) (a : Nat) (w : Word) : (s.setReg a w).fresh = s.fresh := rfl
@[simp] theorem State.setReg_late (s : State) (a : Nat) (w : Word) : (s.setReg a w).late = s.late := rfl
@[simp] theorem State.setReg_recs (s : State) (a : Nat) (w : Word) : (s.setReg a w).recs = s.recs := rfl
@[simp] theorem State.setReg_classLost (s : State) (a : Nat) (w : Word) : (s.setReg a w).classLost = s.classLost := rfl
@[simp] theorem State.setReg_rate (s : State) (a : Nat) (w : Word) : (s.setReg a w).rate = s.rate := rfl
@[simp] theorem State.setReg_out (s : State) (a : Nat) (w : Word) : (s.setReg a w).out = s.out := rfl
@[simp] theorem State.setReg_host (s : State) (a : Nat) (w : Word) : (s.setReg a w).host = s.host := rfl
@[simp] theorem State.setReg_queues (s : State) (a : Nat) (w : Word) : (s.setReg a w).queues = s.queues := rfl
@[simp] theorem State.setReg_msi (s : State) (a : Nat) (w : Word) : (s.setReg a w).msi = s.msi := rfl
@[simp] theorem State.setReg_latch (s : State) (a : Nat) (w : Word) : (s.setReg a w).latch = s.latch := rfl
@[simp] theorem State.setReg_mode (s : State) (a : Nat) (w : Word) : (s.setReg a w).mode = s.mode := rfl
@[simp] theorem State.setReg_clk (s : State) (a : Nat) (w : Word) : (s.setReg a w).clk = s.clk := rfl
@[simp] theorem State.setReg_pacer (s : State) (a : Nat) (w : Word) : (s.setReg a w).pacer = s.pacer := rfl
@[simp] theorem State.setReg_smon (s : State) (a : Nat) (w : Word) : (s.setReg a w).smon = s.smon := rfl
@[simp] theorem State.setReg_trust (s : State) (a : Nat) (w : Word) : (s.setReg a w).trust = s.trust := rfl
@[simp] theorem State.setReg_alarm (s : State) (a : Nat) (w : Word) : (s.setReg a w).alarm = s.alarm := rfl
@[simp] theorem State.setReg_triggers (s : State) (a : Nat) (w : Word) : (s.setReg a w).triggers = s.triggers := rfl
@[simp] theorem State.setReg_trig (s : State) (a : Nat) (w : Word) : (s.setReg a w).trig = s.trig := rfl
@[simp] theorem State.setReg_snp (s : State) (a : Nat) (w : Word) : (s.setReg a w).snp = s.snp := rfl
@[simp] theorem State.setReg_snpSeen (s : State) (a : Nat) (w : Word) : (s.setReg a w).snpSeen = s.snpSeen := rfl
@[simp] theorem State.setReg_snapRegion (s : State) (a : Nat) (w : Word) : (s.setReg a w).snapRegion = s.snapRegion := rfl
@[simp] theorem State.setReg_snapNext (s : State) (a : Nat) (w : Word) : (s.setReg a w).snapNext = s.snapNext := rfl
@[simp] theorem State.setReg_bootu (s : State) (a : Nat) (w : Word) : (s.setReg a w).bootu = s.bootu := rfl
@[simp] theorem State.setReg_pins (s : State) (a : Nat) (w : Word) : (s.setReg a w).pins = s.pins := rfl
@[simp] theorem State.setReg_pch (s : State) (a : Nat) (w : Word) : (s.setReg a w).pch = s.pch := rfl
@[simp] theorem State.setReg_exc (s : State) (a : Nat) (w : Word) : (s.setReg a w).exc = s.exc := rfl
@[simp] theorem State.setReg_res (s : State) (a : Nat) (w : Word) : (s.setReg a w).res = s.res := rfl
@[simp] theorem State.setReg_eff (s : State) (a : Nat) (w : Word) : (s.setReg a w).eff = s.eff := rfl
@[simp] theorem State.setReg_cal (s : State) (a : Nat) (w : Word) : (s.setReg a w).cal = s.cal := rfl
@[simp] theorem State.setReg_bank (s : State) (a : Nat) (w : Word) : (s.setReg a w).bank = s.bank := rfl
@[simp] theorem State.setReg_chk (s : State) (a : Nat) (w : Word) : (s.setReg a w).chk = s.chk := rfl
@[simp] theorem State.setReg_commit (s : State) (a : Nat) (w : Word) : (s.setReg a w).commit = s.commit := rfl
@[simp] theorem State.setReg_wch (s : State) (a : Nat) (w : Word) : (s.setReg a w).wch = s.wch := rfl
@[simp] theorem State.setReg_wm (s : State) (a : Nat) (w : Word) : (s.setReg a w).wm = s.wm := rfl
@[simp] theorem State.setReg_hc (s : State) (a : Nat) (w : Word) : (s.setReg a w).hc = s.hc := rfl
@[simp] theorem State.setReg_start (s : State) (a : Nat) (w : Word) : (s.setReg a w).start = s.start := rfl
@[simp] theorem State.setReg_eng (s : State) (a : Nat) (w : Word) : (s.setReg a w).eng = s.eng := rfl
@[simp] theorem State.setReg_nodes (s : State) (a : Nat) (w : Word) : (s.setReg a w).nodes = s.nodes := rfl
@[simp] theorem State.setReg_clu (s : State) (a : Nat) (w : Word) : (s.setReg a w).clu = s.clu := rfl
@[simp] theorem State.setReg_streams (s : State) (a : Nat) (w : Word) : (s.setReg a w).streams = s.streams := rfl
@[simp] theorem State.setReg_rings (s : State) (a : Nat) (w : Word) : (s.setReg a w).rings = s.rings := rfl
@[simp] theorem State.setReg_drc (s : State) (a : Nat) (w : Word) : (s.setReg a w).drc = s.drc := rfl
@[simp] theorem State.setReg_chan (s : State) (a : Nat) (w : Word) : (s.setReg a w).chan = s.chan := rfl
@[simp] theorem State.setReg_dport (s : State) (a : Nat) (w : Word) : (s.setReg a w).dport = s.dport := rfl
@[simp] theorem State.setReg_cells (s : State) (a : Nat) (w : Word) : (s.setReg a w).cells = s.cells := rfl
@[simp] theorem State.setReg_ecc (s : State) (a : Nat) (w : Word) : (s.setReg a w).ecc = s.ecc := rfl
@[simp] theorem State.setReg_fab (s : State) (a : Nat) (w : Word) : (s.setReg a w).fab = s.fab := rfl
@[simp] theorem State.setReg_port (s : State) (a : Nat) (w : Word) : (s.setReg a w).port = s.port := rfl
@[simp] theorem State.setFld_pending (s : State) (a : Nat) (f : Field) (v : Nat) : (s.setFld a f v).pending = s.pending := rfl
@[simp] theorem State.setFld_fac (s : State) (a : Nat) (f : Field) (v : Nat) : (s.setFld a f v).fac = s.fac := rfl
@[simp] theorem State.setFld_cycles (s : State) (a : Nat) (f : Field) (v : Nat) : (s.setFld a f v).cycles = s.cycles := rfl
@[simp] theorem State.setFld_time (s : State) (a : Nat) (f : Field) (v : Nat) : (s.setFld a f v).time = s.time := rfl
@[simp] theorem State.setFld_timeRem (s : State) (a : Nat) (f : Field) (v : Nat) : (s.setFld a f v).timeRem = s.timeRem := rfl
@[simp] theorem State.setFld_sinceBase (s : State) (a : Nat) (f : Field) (v : Nat) : (s.setFld a f v).sinceBase = s.sinceBase := rfl
@[simp] theorem State.setFld_baseIdx (s : State) (a : Nat) (f : Field) (v : Nat) : (s.setFld a f v).baseIdx = s.baseIdx := rfl
@[simp] theorem State.setFld_baseRunning (s : State) (a : Nat) (f : Field) (v : Nat) : (s.setFld a f v).baseRunning = s.baseRunning := rfl
@[simp] theorem State.setFld_fresh (s : State) (a : Nat) (f : Field) (v : Nat) : (s.setFld a f v).fresh = s.fresh := rfl
@[simp] theorem State.setFld_late (s : State) (a : Nat) (f : Field) (v : Nat) : (s.setFld a f v).late = s.late := rfl
@[simp] theorem State.setFld_recs (s : State) (a : Nat) (f : Field) (v : Nat) : (s.setFld a f v).recs = s.recs := rfl
@[simp] theorem State.setFld_classLost (s : State) (a : Nat) (f : Field) (v : Nat) : (s.setFld a f v).classLost = s.classLost := rfl
@[simp] theorem State.setFld_rate (s : State) (a : Nat) (f : Field) (v : Nat) : (s.setFld a f v).rate = s.rate := rfl
@[simp] theorem State.setFld_out (s : State) (a : Nat) (f : Field) (v : Nat) : (s.setFld a f v).out = s.out := rfl
@[simp] theorem State.setFld_host (s : State) (a : Nat) (f : Field) (v : Nat) : (s.setFld a f v).host = s.host := rfl
@[simp] theorem State.setFld_queues (s : State) (a : Nat) (f : Field) (v : Nat) : (s.setFld a f v).queues = s.queues := rfl
@[simp] theorem State.setFld_msi (s : State) (a : Nat) (f : Field) (v : Nat) : (s.setFld a f v).msi = s.msi := rfl
@[simp] theorem State.setFld_latch (s : State) (a : Nat) (f : Field) (v : Nat) : (s.setFld a f v).latch = s.latch := rfl
@[simp] theorem State.setFld_mode (s : State) (a : Nat) (f : Field) (v : Nat) : (s.setFld a f v).mode = s.mode := rfl
@[simp] theorem State.setFld_clk (s : State) (a : Nat) (f : Field) (v : Nat) : (s.setFld a f v).clk = s.clk := rfl
@[simp] theorem State.setFld_pacer (s : State) (a : Nat) (f : Field) (v : Nat) : (s.setFld a f v).pacer = s.pacer := rfl
@[simp] theorem State.setFld_smon (s : State) (a : Nat) (f : Field) (v : Nat) : (s.setFld a f v).smon = s.smon := rfl
@[simp] theorem State.setFld_trust (s : State) (a : Nat) (f : Field) (v : Nat) : (s.setFld a f v).trust = s.trust := rfl
@[simp] theorem State.setFld_alarm (s : State) (a : Nat) (f : Field) (v : Nat) : (s.setFld a f v).alarm = s.alarm := rfl
@[simp] theorem State.setFld_triggers (s : State) (a : Nat) (f : Field) (v : Nat) : (s.setFld a f v).triggers = s.triggers := rfl
@[simp] theorem State.setFld_trig (s : State) (a : Nat) (f : Field) (v : Nat) : (s.setFld a f v).trig = s.trig := rfl
@[simp] theorem State.setFld_snp (s : State) (a : Nat) (f : Field) (v : Nat) : (s.setFld a f v).snp = s.snp := rfl
@[simp] theorem State.setFld_snpSeen (s : State) (a : Nat) (f : Field) (v : Nat) : (s.setFld a f v).snpSeen = s.snpSeen := rfl
@[simp] theorem State.setFld_snapRegion (s : State) (a : Nat) (f : Field) (v : Nat) : (s.setFld a f v).snapRegion = s.snapRegion := rfl
@[simp] theorem State.setFld_snapNext (s : State) (a : Nat) (f : Field) (v : Nat) : (s.setFld a f v).snapNext = s.snapNext := rfl
@[simp] theorem State.setFld_bootu (s : State) (a : Nat) (f : Field) (v : Nat) : (s.setFld a f v).bootu = s.bootu := rfl
@[simp] theorem State.setFld_pins (s : State) (a : Nat) (f : Field) (v : Nat) : (s.setFld a f v).pins = s.pins := rfl
@[simp] theorem State.setFld_pch (s : State) (a : Nat) (f : Field) (v : Nat) : (s.setFld a f v).pch = s.pch := rfl
@[simp] theorem State.setFld_exc (s : State) (a : Nat) (f : Field) (v : Nat) : (s.setFld a f v).exc = s.exc := rfl
@[simp] theorem State.setFld_res (s : State) (a : Nat) (f : Field) (v : Nat) : (s.setFld a f v).res = s.res := rfl
@[simp] theorem State.setFld_eff (s : State) (a : Nat) (f : Field) (v : Nat) : (s.setFld a f v).eff = s.eff := rfl
@[simp] theorem State.setFld_cal (s : State) (a : Nat) (f : Field) (v : Nat) : (s.setFld a f v).cal = s.cal := rfl
@[simp] theorem State.setFld_bank (s : State) (a : Nat) (f : Field) (v : Nat) : (s.setFld a f v).bank = s.bank := rfl
@[simp] theorem State.setFld_chk (s : State) (a : Nat) (f : Field) (v : Nat) : (s.setFld a f v).chk = s.chk := rfl
@[simp] theorem State.setFld_commit (s : State) (a : Nat) (f : Field) (v : Nat) : (s.setFld a f v).commit = s.commit := rfl
@[simp] theorem State.setFld_wch (s : State) (a : Nat) (f : Field) (v : Nat) : (s.setFld a f v).wch = s.wch := rfl
@[simp] theorem State.setFld_wm (s : State) (a : Nat) (f : Field) (v : Nat) : (s.setFld a f v).wm = s.wm := rfl
@[simp] theorem State.setFld_hc (s : State) (a : Nat) (f : Field) (v : Nat) : (s.setFld a f v).hc = s.hc := rfl
@[simp] theorem State.setFld_start (s : State) (a : Nat) (f : Field) (v : Nat) : (s.setFld a f v).start = s.start := rfl
@[simp] theorem State.setFld_eng (s : State) (a : Nat) (f : Field) (v : Nat) : (s.setFld a f v).eng = s.eng := rfl
@[simp] theorem State.setFld_nodes (s : State) (a : Nat) (f : Field) (v : Nat) : (s.setFld a f v).nodes = s.nodes := rfl
@[simp] theorem State.setFld_clu (s : State) (a : Nat) (f : Field) (v : Nat) : (s.setFld a f v).clu = s.clu := rfl
@[simp] theorem State.setFld_streams (s : State) (a : Nat) (f : Field) (v : Nat) : (s.setFld a f v).streams = s.streams := rfl
@[simp] theorem State.setFld_rings (s : State) (a : Nat) (f : Field) (v : Nat) : (s.setFld a f v).rings = s.rings := rfl
@[simp] theorem State.setFld_drc (s : State) (a : Nat) (f : Field) (v : Nat) : (s.setFld a f v).drc = s.drc := rfl
@[simp] theorem State.setFld_chan (s : State) (a : Nat) (f : Field) (v : Nat) : (s.setFld a f v).chan = s.chan := rfl
@[simp] theorem State.setFld_dport (s : State) (a : Nat) (f : Field) (v : Nat) : (s.setFld a f v).dport = s.dport := rfl
@[simp] theorem State.setFld_cells (s : State) (a : Nat) (f : Field) (v : Nat) : (s.setFld a f v).cells = s.cells := rfl
@[simp] theorem State.setFld_ecc (s : State) (a : Nat) (f : Field) (v : Nat) : (s.setFld a f v).ecc = s.ecc := rfl
@[simp] theorem State.setFld_fab (s : State) (a : Nat) (f : Field) (v : Nat) : (s.setFld a f v).fab = s.fab := rfl
@[simp] theorem State.setFld_port (s : State) (a : Nat) (f : Field) (v : Nat) : (s.setFld a f v).port = s.port := rfl
@[simp] theorem State.raise_pending (s : State) (a : Nat) (f : Field) : (s.raise a f).pending = s.pending := rfl
@[simp] theorem State.raise_fac (s : State) (a : Nat) (f : Field) : (s.raise a f).fac = s.fac := rfl
@[simp] theorem State.raise_cycles (s : State) (a : Nat) (f : Field) : (s.raise a f).cycles = s.cycles := rfl
@[simp] theorem State.raise_time (s : State) (a : Nat) (f : Field) : (s.raise a f).time = s.time := rfl
@[simp] theorem State.raise_baseIdx (s : State) (a : Nat) (f : Field) : (s.raise a f).baseIdx = s.baseIdx := rfl
@[simp] theorem State.raise_baseRunning (s : State) (a : Nat) (f : Field) : (s.raise a f).baseRunning = s.baseRunning := rfl
@[simp] theorem State.raise_fresh (s : State) (a : Nat) (f : Field) : (s.raise a f).fresh = s.fresh := rfl
@[simp] theorem State.raise_recs (s : State) (a : Nat) (f : Field) : (s.raise a f).recs = s.recs := rfl
@[simp] theorem State.raise_out (s : State) (a : Nat) (f : Field) : (s.raise a f).out = s.out := rfl
@[simp] theorem State.raise_host (s : State) (a : Nat) (f : Field) : (s.raise a f).host = s.host := rfl
@[simp] theorem State.raise_mode (s : State) (a : Nat) (f : Field) : (s.raise a f).mode = s.mode := rfl
@[simp] theorem State.raise_pacer (s : State) (a : Nat) (f : Field) : (s.raise a f).pacer = s.pacer := rfl
@[simp] theorem State.raise_smon (s : State) (a : Nat) (f : Field) : (s.raise a f).smon = s.smon := rfl
@[simp] theorem State.raise_triggers (s : State) (a : Nat) (f : Field) : (s.raise a f).triggers = s.triggers := rfl
@[simp] theorem State.raise_bootu (s : State) (a : Nat) (f : Field) : (s.raise a f).bootu = s.bootu := rfl
@[simp] theorem State.raise_eng (s : State) (a : Nat) (f : Field) : (s.raise a f).eng = s.eng := rfl
@[simp] theorem State.raise_streams (s : State) (a : Nat) (f : Field) : (s.raise a f).streams = s.streams := rfl
@[simp] theorem State.raise_drc (s : State) (a : Nat) (f : Field) : (s.raise a f).drc = s.drc := rfl
@[simp] theorem State.raise_cells (s : State) (a : Nat) (f : Field) : (s.raise a f).cells = s.cells := rfl
@[simp] theorem State.raise_ecc (s : State) (a : Nat) (f : Field) : (s.raise a f).ecc = s.ecc := rfl
@[simp] theorem State.raise_fab (s : State) (a : Nat) (f : Field) : (s.raise a f).fab = s.fab := rfl
@[simp] theorem State.raise_port (s : State) (a : Nat) (f : Field) : (s.raise a f).port = s.port := rfl
@[simp] theorem State.clear_pending (s : State) (a : Nat) (f : Field) : (s.clear a f).pending = s.pending := rfl
@[simp] theorem State.clear_fac (s : State) (a : Nat) (f : Field) : (s.clear a f).fac = s.fac := rfl
@[simp] theorem State.clear_cycles (s : State) (a : Nat) (f : Field) : (s.clear a f).cycles = s.cycles := rfl
@[simp] theorem State.clear_time (s : State) (a : Nat) (f : Field) : (s.clear a f).time = s.time := rfl
@[simp] theorem State.clear_baseIdx (s : State) (a : Nat) (f : Field) : (s.clear a f).baseIdx = s.baseIdx := rfl
@[simp] theorem State.clear_baseRunning (s : State) (a : Nat) (f : Field) : (s.clear a f).baseRunning = s.baseRunning := rfl
@[simp] theorem State.clear_fresh (s : State) (a : Nat) (f : Field) : (s.clear a f).fresh = s.fresh := rfl
@[simp] theorem State.clear_recs (s : State) (a : Nat) (f : Field) : (s.clear a f).recs = s.recs := rfl
@[simp] theorem State.clear_out (s : State) (a : Nat) (f : Field) : (s.clear a f).out = s.out := rfl
@[simp] theorem State.clear_host (s : State) (a : Nat) (f : Field) : (s.clear a f).host = s.host := rfl
@[simp] theorem State.clear_mode (s : State) (a : Nat) (f : Field) : (s.clear a f).mode = s.mode := rfl
@[simp] theorem State.clear_pacer (s : State) (a : Nat) (f : Field) : (s.clear a f).pacer = s.pacer := rfl
@[simp] theorem State.clear_smon (s : State) (a : Nat) (f : Field) : (s.clear a f).smon = s.smon := rfl
@[simp] theorem State.clear_triggers (s : State) (a : Nat) (f : Field) : (s.clear a f).triggers = s.triggers := rfl
@[simp] theorem State.clear_bootu (s : State) (a : Nat) (f : Field) : (s.clear a f).bootu = s.bootu := rfl
@[simp] theorem State.clear_eng (s : State) (a : Nat) (f : Field) : (s.clear a f).eng = s.eng := rfl
@[simp] theorem State.clear_streams (s : State) (a : Nat) (f : Field) : (s.clear a f).streams = s.streams := rfl
@[simp] theorem State.clear_drc (s : State) (a : Nat) (f : Field) : (s.clear a f).drc = s.drc := rfl
@[simp] theorem State.clear_cells (s : State) (a : Nat) (f : Field) : (s.clear a f).cells = s.cells := rfl
@[simp] theorem State.clear_ecc (s : State) (a : Nat) (f : Field) : (s.clear a f).ecc = s.ecc := rfl
@[simp] theorem State.clear_fab (s : State) (a : Nat) (f : Field) : (s.clear a f).fab = s.fab := rfl
@[simp] theorem State.clear_port (s : State) (a : Nat) (f : Field) : (s.clear a f).port = s.port := rfl
@[simp] theorem State.setLive_pending (s : State) (a : Nat) (l k : Field) (b : Bool) : (s.setLive a l k b).pending = s.pending := by unfold State.setLive; split <;> rfl
@[simp] theorem State.setLive_fac (s : State) (a : Nat) (l k : Field) (b : Bool) : (s.setLive a l k b).fac = s.fac := by unfold State.setLive; split <;> rfl
@[simp] theorem State.setLive_cycles (s : State) (a : Nat) (l k : Field) (b : Bool) : (s.setLive a l k b).cycles = s.cycles := by unfold State.setLive; split <;> rfl
@[simp] theorem State.setLive_time (s : State) (a : Nat) (l k : Field) (b : Bool) : (s.setLive a l k b).time = s.time := by unfold State.setLive; split <;> rfl
@[simp] theorem State.setLive_baseIdx (s : State) (a : Nat) (l k : Field) (b : Bool) : (s.setLive a l k b).baseIdx = s.baseIdx := by unfold State.setLive; split <;> rfl
@[simp] theorem State.setLive_baseRunning (s : State) (a : Nat) (l k : Field) (b : Bool) : (s.setLive a l k b).baseRunning = s.baseRunning := by unfold State.setLive; split <;> rfl
@[simp] theorem State.setLive_fresh (s : State) (a : Nat) (l k : Field) (b : Bool) : (s.setLive a l k b).fresh = s.fresh := by unfold State.setLive; split <;> rfl
@[simp] theorem State.setLive_recs (s : State) (a : Nat) (l k : Field) (b : Bool) : (s.setLive a l k b).recs = s.recs := by unfold State.setLive; split <;> rfl
@[simp] theorem State.setLive_out (s : State) (a : Nat) (l k : Field) (b : Bool) : (s.setLive a l k b).out = s.out := by unfold State.setLive; split <;> rfl
@[simp] theorem State.setLive_host (s : State) (a : Nat) (l k : Field) (b : Bool) : (s.setLive a l k b).host = s.host := by unfold State.setLive; split <;> rfl
@[simp] theorem State.setLive_mode (s : State) (a : Nat) (l k : Field) (b : Bool) : (s.setLive a l k b).mode = s.mode := by unfold State.setLive; split <;> rfl
@[simp] theorem State.setLive_pacer (s : State) (a : Nat) (l k : Field) (b : Bool) : (s.setLive a l k b).pacer = s.pacer := by unfold State.setLive; split <;> rfl
@[simp] theorem State.setLive_smon (s : State) (a : Nat) (l k : Field) (b : Bool) : (s.setLive a l k b).smon = s.smon := by unfold State.setLive; split <;> rfl
@[simp] theorem State.setLive_triggers (s : State) (a : Nat) (l k : Field) (b : Bool) : (s.setLive a l k b).triggers = s.triggers := by unfold State.setLive; split <;> rfl
@[simp] theorem State.setLive_bootu (s : State) (a : Nat) (l k : Field) (b : Bool) : (s.setLive a l k b).bootu = s.bootu := by unfold State.setLive; split <;> rfl
@[simp] theorem State.setLive_eng (s : State) (a : Nat) (l k : Field) (b : Bool) : (s.setLive a l k b).eng = s.eng := by unfold State.setLive; split <;> rfl
@[simp] theorem State.setLive_streams (s : State) (a : Nat) (l k : Field) (b : Bool) : (s.setLive a l k b).streams = s.streams := by unfold State.setLive; split <;> rfl
@[simp] theorem State.setLive_drc (s : State) (a : Nat) (l k : Field) (b : Bool) : (s.setLive a l k b).drc = s.drc := by unfold State.setLive; split <;> rfl
@[simp] theorem State.setLive_cells (s : State) (a : Nat) (l k : Field) (b : Bool) : (s.setLive a l k b).cells = s.cells := by unfold State.setLive; split <;> rfl
@[simp] theorem State.setLive_ecc (s : State) (a : Nat) (l k : Field) (b : Bool) : (s.setLive a l k b).ecc = s.ecc := by unfold State.setLive; split <;> rfl
@[simp] theorem State.setLive_fab (s : State) (a : Nat) (l k : Field) (b : Bool) : (s.setLive a l k b).fab = s.fab := by unfold State.setLive; split <;> rfl
@[simp] theorem State.setLive_port (s : State) (a : Nat) (l k : Field) (b : Bool) : (s.setLive a l k b).port = s.port := by unfold State.setLive; split <;> rfl
@[simp] theorem State.count_pending (s : State) (a : Nat) (f : Field) : (s.count a f).pending = s.pending := rfl
@[simp] theorem State.count_fac (s : State) (a : Nat) (f : Field) : (s.count a f).fac = s.fac := rfl
@[simp] theorem State.count_cycles (s : State) (a : Nat) (f : Field) : (s.count a f).cycles = s.cycles := rfl
@[simp] theorem State.count_time (s : State) (a : Nat) (f : Field) : (s.count a f).time = s.time := rfl
@[simp] theorem State.count_baseIdx (s : State) (a : Nat) (f : Field) : (s.count a f).baseIdx = s.baseIdx := rfl
@[simp] theorem State.count_baseRunning (s : State) (a : Nat) (f : Field) : (s.count a f).baseRunning = s.baseRunning := rfl
@[simp] theorem State.count_fresh (s : State) (a : Nat) (f : Field) : (s.count a f).fresh = s.fresh := rfl
@[simp] theorem State.count_recs (s : State) (a : Nat) (f : Field) : (s.count a f).recs = s.recs := rfl
@[simp] theorem State.count_out (s : State) (a : Nat) (f : Field) : (s.count a f).out = s.out := rfl
@[simp] theorem State.count_host (s : State) (a : Nat) (f : Field) : (s.count a f).host = s.host := rfl
@[simp] theorem State.count_mode (s : State) (a : Nat) (f : Field) : (s.count a f).mode = s.mode := rfl
@[simp] theorem State.count_pacer (s : State) (a : Nat) (f : Field) : (s.count a f).pacer = s.pacer := rfl
@[simp] theorem State.count_smon (s : State) (a : Nat) (f : Field) : (s.count a f).smon = s.smon := rfl
@[simp] theorem State.count_triggers (s : State) (a : Nat) (f : Field) : (s.count a f).triggers = s.triggers := rfl
@[simp] theorem State.count_bootu (s : State) (a : Nat) (f : Field) : (s.count a f).bootu = s.bootu := rfl
@[simp] theorem State.count_eng (s : State) (a : Nat) (f : Field) : (s.count a f).eng = s.eng := rfl
@[simp] theorem State.count_streams (s : State) (a : Nat) (f : Field) : (s.count a f).streams = s.streams := rfl
@[simp] theorem State.count_drc (s : State) (a : Nat) (f : Field) : (s.count a f).drc = s.drc := rfl
@[simp] theorem State.count_cells (s : State) (a : Nat) (f : Field) : (s.count a f).cells = s.cells := rfl
@[simp] theorem State.count_ecc (s : State) (a : Nat) (f : Field) : (s.count a f).ecc = s.ecc := rfl
@[simp] theorem State.count_fab (s : State) (a : Nat) (f : Field) : (s.count a f).fab = s.fab := rfl
@[simp] theorem State.count_port (s : State) (a : Nat) (f : Field) : (s.count a f).port = s.port := rfl
@[simp] theorem State.countBy_pending (s : State) (a : Nat) (f : Field) (n : Nat) : (s.countBy a f n).pending = s.pending := rfl
@[simp] theorem State.countBy_fac (s : State) (a : Nat) (f : Field) (n : Nat) : (s.countBy a f n).fac = s.fac := rfl
@[simp] theorem State.countBy_cycles (s : State) (a : Nat) (f : Field) (n : Nat) : (s.countBy a f n).cycles = s.cycles := rfl
@[simp] theorem State.countBy_time (s : State) (a : Nat) (f : Field) (n : Nat) : (s.countBy a f n).time = s.time := rfl
@[simp] theorem State.countBy_baseIdx (s : State) (a : Nat) (f : Field) (n : Nat) : (s.countBy a f n).baseIdx = s.baseIdx := rfl
@[simp] theorem State.countBy_baseRunning (s : State) (a : Nat) (f : Field) (n : Nat) : (s.countBy a f n).baseRunning = s.baseRunning := rfl
@[simp] theorem State.countBy_fresh (s : State) (a : Nat) (f : Field) (n : Nat) : (s.countBy a f n).fresh = s.fresh := rfl
@[simp] theorem State.countBy_recs (s : State) (a : Nat) (f : Field) (n : Nat) : (s.countBy a f n).recs = s.recs := rfl
@[simp] theorem State.countBy_out (s : State) (a : Nat) (f : Field) (n : Nat) : (s.countBy a f n).out = s.out := rfl
@[simp] theorem State.countBy_host (s : State) (a : Nat) (f : Field) (n : Nat) : (s.countBy a f n).host = s.host := rfl
@[simp] theorem State.countBy_mode (s : State) (a : Nat) (f : Field) (n : Nat) : (s.countBy a f n).mode = s.mode := rfl
@[simp] theorem State.countBy_pacer (s : State) (a : Nat) (f : Field) (n : Nat) : (s.countBy a f n).pacer = s.pacer := rfl
@[simp] theorem State.countBy_smon (s : State) (a : Nat) (f : Field) (n : Nat) : (s.countBy a f n).smon = s.smon := rfl
@[simp] theorem State.countBy_triggers (s : State) (a : Nat) (f : Field) (n : Nat) : (s.countBy a f n).triggers = s.triggers := rfl
@[simp] theorem State.countBy_bootu (s : State) (a : Nat) (f : Field) (n : Nat) : (s.countBy a f n).bootu = s.bootu := rfl
@[simp] theorem State.countBy_eng (s : State) (a : Nat) (f : Field) (n : Nat) : (s.countBy a f n).eng = s.eng := rfl
@[simp] theorem State.countBy_streams (s : State) (a : Nat) (f : Field) (n : Nat) : (s.countBy a f n).streams = s.streams := rfl
@[simp] theorem State.countBy_drc (s : State) (a : Nat) (f : Field) (n : Nat) : (s.countBy a f n).drc = s.drc := rfl
@[simp] theorem State.countBy_cells (s : State) (a : Nat) (f : Field) (n : Nat) : (s.countBy a f n).cells = s.cells := rfl
@[simp] theorem State.countBy_ecc (s : State) (a : Nat) (f : Field) (n : Nat) : (s.countBy a f n).ecc = s.ecc := rfl
@[simp] theorem State.countBy_fab (s : State) (a : Nat) (f : Field) (n : Nat) : (s.countBy a f n).fab = s.fab := rfl
@[simp] theorem State.countBy_port (s : State) (a : Nat) (f : Field) (n : Nat) : (s.countBy a f n).port = s.port := rfl
@[simp] theorem State.setBit_pending (s : State) (a i : Nat) (b : Bool) : (s.setBit a i b).pending = s.pending := rfl
@[simp] theorem State.setBit_fac (s : State) (a i : Nat) (b : Bool) : (s.setBit a i b).fac = s.fac := rfl
@[simp] theorem State.setBit_cycles (s : State) (a i : Nat) (b : Bool) : (s.setBit a i b).cycles = s.cycles := rfl
@[simp] theorem State.setBit_time (s : State) (a i : Nat) (b : Bool) : (s.setBit a i b).time = s.time := rfl
@[simp] theorem State.setBit_baseIdx (s : State) (a i : Nat) (b : Bool) : (s.setBit a i b).baseIdx = s.baseIdx := rfl
@[simp] theorem State.setBit_baseRunning (s : State) (a i : Nat) (b : Bool) : (s.setBit a i b).baseRunning = s.baseRunning := rfl
@[simp] theorem State.setBit_fresh (s : State) (a i : Nat) (b : Bool) : (s.setBit a i b).fresh = s.fresh := rfl
@[simp] theorem State.setBit_recs (s : State) (a i : Nat) (b : Bool) : (s.setBit a i b).recs = s.recs := rfl
@[simp] theorem State.setBit_out (s : State) (a i : Nat) (b : Bool) : (s.setBit a i b).out = s.out := rfl
@[simp] theorem State.setBit_host (s : State) (a i : Nat) (b : Bool) : (s.setBit a i b).host = s.host := rfl
@[simp] theorem State.setBit_mode (s : State) (a i : Nat) (b : Bool) : (s.setBit a i b).mode = s.mode := rfl
@[simp] theorem State.setBit_pacer (s : State) (a i : Nat) (b : Bool) : (s.setBit a i b).pacer = s.pacer := rfl
@[simp] theorem State.setBit_smon (s : State) (a i : Nat) (b : Bool) : (s.setBit a i b).smon = s.smon := rfl
@[simp] theorem State.setBit_triggers (s : State) (a i : Nat) (b : Bool) : (s.setBit a i b).triggers = s.triggers := rfl
@[simp] theorem State.setBit_bootu (s : State) (a i : Nat) (b : Bool) : (s.setBit a i b).bootu = s.bootu := rfl
@[simp] theorem State.setBit_eng (s : State) (a i : Nat) (b : Bool) : (s.setBit a i b).eng = s.eng := rfl
@[simp] theorem State.setBit_streams (s : State) (a i : Nat) (b : Bool) : (s.setBit a i b).streams = s.streams := rfl
@[simp] theorem State.setBit_drc (s : State) (a i : Nat) (b : Bool) : (s.setBit a i b).drc = s.drc := rfl
@[simp] theorem State.setBit_cells (s : State) (a i : Nat) (b : Bool) : (s.setBit a i b).cells = s.cells := rfl
@[simp] theorem State.setBit_ecc (s : State) (a i : Nat) (b : Bool) : (s.setBit a i b).ecc = s.ecc := rfl
@[simp] theorem State.setBit_fab (s : State) (a i : Nat) (b : Bool) : (s.setBit a i b).fab = s.fab := rfl
@[simp] theorem State.setBit_port (s : State) (a i : Nat) (b : Bool) : (s.setBit a i b).port = s.port := rfl
@[simp] theorem State.setPair_pending (s : State) (lo hi t : Nat) : (s.setPair lo hi t).pending = s.pending := rfl
@[simp] theorem State.setPair_fac (s : State) (lo hi t : Nat) : (s.setPair lo hi t).fac = s.fac := rfl
@[simp] theorem State.setPair_cycles (s : State) (lo hi t : Nat) : (s.setPair lo hi t).cycles = s.cycles := rfl
@[simp] theorem State.setPair_time (s : State) (lo hi t : Nat) : (s.setPair lo hi t).time = s.time := rfl
@[simp] theorem State.setPair_baseIdx (s : State) (lo hi t : Nat) : (s.setPair lo hi t).baseIdx = s.baseIdx := rfl
@[simp] theorem State.setPair_baseRunning (s : State) (lo hi t : Nat) : (s.setPair lo hi t).baseRunning = s.baseRunning := rfl
@[simp] theorem State.setPair_fresh (s : State) (lo hi t : Nat) : (s.setPair lo hi t).fresh = s.fresh := rfl
@[simp] theorem State.setPair_recs (s : State) (lo hi t : Nat) : (s.setPair lo hi t).recs = s.recs := rfl
@[simp] theorem State.setPair_out (s : State) (lo hi t : Nat) : (s.setPair lo hi t).out = s.out := rfl
@[simp] theorem State.setPair_host (s : State) (lo hi t : Nat) : (s.setPair lo hi t).host = s.host := rfl
@[simp] theorem State.setPair_mode (s : State) (lo hi t : Nat) : (s.setPair lo hi t).mode = s.mode := rfl
@[simp] theorem State.setPair_pacer (s : State) (lo hi t : Nat) : (s.setPair lo hi t).pacer = s.pacer := rfl
@[simp] theorem State.setPair_smon (s : State) (lo hi t : Nat) : (s.setPair lo hi t).smon = s.smon := rfl
@[simp] theorem State.setPair_triggers (s : State) (lo hi t : Nat) : (s.setPair lo hi t).triggers = s.triggers := rfl
@[simp] theorem State.setPair_bootu (s : State) (lo hi t : Nat) : (s.setPair lo hi t).bootu = s.bootu := rfl
@[simp] theorem State.setPair_eng (s : State) (lo hi t : Nat) : (s.setPair lo hi t).eng = s.eng := rfl
@[simp] theorem State.setPair_streams (s : State) (lo hi t : Nat) : (s.setPair lo hi t).streams = s.streams := rfl
@[simp] theorem State.setPair_drc (s : State) (lo hi t : Nat) : (s.setPair lo hi t).drc = s.drc := rfl
@[simp] theorem State.setPair_cells (s : State) (lo hi t : Nat) : (s.setPair lo hi t).cells = s.cells := rfl
@[simp] theorem State.setPair_ecc (s : State) (lo hi t : Nat) : (s.setPair lo hi t).ecc = s.ecc := rfl
@[simp] theorem State.setPair_fab (s : State) (lo hi t : Nat) : (s.setPair lo hi t).fab = s.fab := rfl
@[simp] theorem State.setPair_port (s : State) (lo hi t : Nat) : (s.setPair lo hi t).port = s.port := rfl
@[simp] theorem State.writeBits_pending (s : State) (a : Nat) (m r v : Word) : (s.writeBits a m r v).pending = s.pending := State.noteLate_pending s a _
@[simp] theorem State.writeBits_fac (s : State) (a : Nat) (m r v : Word) : (s.writeBits a m r v).fac = s.fac := State.noteLate_fac s a _
@[simp] theorem State.writeBits_cycles (s : State) (a : Nat) (m r v : Word) : (s.writeBits a m r v).cycles = s.cycles := State.noteLate_cycles s a _
@[simp] theorem State.writeBits_time (s : State) (a : Nat) (m r v : Word) : (s.writeBits a m r v).time = s.time := State.noteLate_time s a _
@[simp] theorem State.writeBits_baseIdx (s : State) (a : Nat) (m r v : Word) : (s.writeBits a m r v).baseIdx = s.baseIdx := State.noteLate_baseIdx s a _
@[simp] theorem State.writeBits_baseRunning (s : State) (a : Nat) (m r v : Word) : (s.writeBits a m r v).baseRunning = s.baseRunning := State.noteLate_baseRunning s a _
@[simp] theorem State.writeBits_recs (s : State) (a : Nat) (m r v : Word) : (s.writeBits a m r v).recs = s.recs := State.noteLate_recs s a _
@[simp] theorem State.writeBits_out (s : State) (a : Nat) (m r v : Word) : (s.writeBits a m r v).out = s.out := State.noteLate_out s a _
@[simp] theorem State.writeBits_host (s : State) (a : Nat) (m r v : Word) : (s.writeBits a m r v).host = s.host := State.noteLate_host s a _
@[simp] theorem State.writeBits_mode (s : State) (a : Nat) (m r v : Word) : (s.writeBits a m r v).mode = s.mode := State.noteLate_mode s a _
@[simp] theorem State.writeBits_pacer (s : State) (a : Nat) (m r v : Word) : (s.writeBits a m r v).pacer = s.pacer := State.noteLate_pacer s a _
@[simp] theorem State.writeBits_smon (s : State) (a : Nat) (m r v : Word) : (s.writeBits a m r v).smon = s.smon := State.noteLate_smon s a _
@[simp] theorem State.writeBits_triggers (s : State) (a : Nat) (m r v : Word) : (s.writeBits a m r v).triggers = s.triggers := State.noteLate_triggers s a _
@[simp] theorem State.writeBits_bootu (s : State) (a : Nat) (m r v : Word) : (s.writeBits a m r v).bootu = s.bootu := State.noteLate_bootu s a _
@[simp] theorem State.writeBits_eng (s : State) (a : Nat) (m r v : Word) : (s.writeBits a m r v).eng = s.eng := State.noteLate_eng s a _
@[simp] theorem State.writeBits_streams (s : State) (a : Nat) (m r v : Word) : (s.writeBits a m r v).streams = s.streams := State.noteLate_streams s a _
@[simp] theorem State.writeBits_drc (s : State) (a : Nat) (m r v : Word) : (s.writeBits a m r v).drc = s.drc := State.noteLate_drc s a _
@[simp] theorem State.writeBits_cells (s : State) (a : Nat) (m r v : Word) : (s.writeBits a m r v).cells = s.cells := State.noteLate_cells s a _
@[simp] theorem State.writeBits_ecc (s : State) (a : Nat) (m r v : Word) : (s.writeBits a m r v).ecc = s.ecc := State.noteLate_ecc s a _
@[simp] theorem State.writeBits_fab (s : State) (a : Nat) (m r v : Word) : (s.writeBits a m r v).fab = s.fab := State.noteLate_fab s a _
@[simp] theorem State.writeBits_port (s : State) (a : Nat) (m r v : Word) : (s.writeBits a m r v).port = s.port := State.noteLate_port s a _
@[simp] theorem State.writeJudged_pending (s : State) (a : Nat) (m r v : Word) (st : Nat) (f : Field) : (s.writeJudged a m r v st f).pending = s.pending := by unfold State.writeJudged; dsimp only; split <;> exact State.writeBits_pending s a m r v
@[simp] theorem State.writeJudged_fac (s : State) (a : Nat) (m r v : Word) (st : Nat) (f : Field) : (s.writeJudged a m r v st f).fac = s.fac := by unfold State.writeJudged; dsimp only; split <;> exact State.writeBits_fac s a m r v
@[simp] theorem State.writeJudged_cycles (s : State) (a : Nat) (m r v : Word) (st : Nat) (f : Field) : (s.writeJudged a m r v st f).cycles = s.cycles := by unfold State.writeJudged; dsimp only; split <;> exact State.writeBits_cycles s a m r v
@[simp] theorem State.writeJudged_time (s : State) (a : Nat) (m r v : Word) (st : Nat) (f : Field) : (s.writeJudged a m r v st f).time = s.time := by unfold State.writeJudged; dsimp only; split <;> exact State.writeBits_time s a m r v
@[simp] theorem State.writeJudged_baseIdx (s : State) (a : Nat) (m r v : Word) (st : Nat) (f : Field) : (s.writeJudged a m r v st f).baseIdx = s.baseIdx := by unfold State.writeJudged; dsimp only; split <;> exact State.writeBits_baseIdx s a m r v
@[simp] theorem State.writeJudged_baseRunning (s : State) (a : Nat) (m r v : Word) (st : Nat) (f : Field) : (s.writeJudged a m r v st f).baseRunning = s.baseRunning := by unfold State.writeJudged; dsimp only; split <;> exact State.writeBits_baseRunning s a m r v
@[simp] theorem State.writeJudged_recs (s : State) (a : Nat) (m r v : Word) (st : Nat) (f : Field) : (s.writeJudged a m r v st f).recs = s.recs := by unfold State.writeJudged; dsimp only; split <;> exact State.writeBits_recs s a m r v
@[simp] theorem State.writeJudged_out (s : State) (a : Nat) (m r v : Word) (st : Nat) (f : Field) : (s.writeJudged a m r v st f).out = s.out := by unfold State.writeJudged; dsimp only; split <;> exact State.writeBits_out s a m r v
@[simp] theorem State.writeJudged_host (s : State) (a : Nat) (m r v : Word) (st : Nat) (f : Field) : (s.writeJudged a m r v st f).host = s.host := by unfold State.writeJudged; dsimp only; split <;> exact State.writeBits_host s a m r v
@[simp] theorem State.writeJudged_mode (s : State) (a : Nat) (m r v : Word) (st : Nat) (f : Field) : (s.writeJudged a m r v st f).mode = s.mode := by unfold State.writeJudged; dsimp only; split <;> exact State.writeBits_mode s a m r v
@[simp] theorem State.writeJudged_pacer (s : State) (a : Nat) (m r v : Word) (st : Nat) (f : Field) : (s.writeJudged a m r v st f).pacer = s.pacer := by unfold State.writeJudged; dsimp only; split <;> exact State.writeBits_pacer s a m r v
@[simp] theorem State.writeJudged_smon (s : State) (a : Nat) (m r v : Word) (st : Nat) (f : Field) : (s.writeJudged a m r v st f).smon = s.smon := by unfold State.writeJudged; dsimp only; split <;> exact State.writeBits_smon s a m r v
@[simp] theorem State.writeJudged_triggers (s : State) (a : Nat) (m r v : Word) (st : Nat) (f : Field) : (s.writeJudged a m r v st f).triggers = s.triggers := by unfold State.writeJudged; dsimp only; split <;> exact State.writeBits_triggers s a m r v
@[simp] theorem State.writeJudged_bootu (s : State) (a : Nat) (m r v : Word) (st : Nat) (f : Field) : (s.writeJudged a m r v st f).bootu = s.bootu := by unfold State.writeJudged; dsimp only; split <;> exact State.writeBits_bootu s a m r v
@[simp] theorem State.writeJudged_eng (s : State) (a : Nat) (m r v : Word) (st : Nat) (f : Field) : (s.writeJudged a m r v st f).eng = s.eng := by unfold State.writeJudged; dsimp only; split <;> exact State.writeBits_eng s a m r v
@[simp] theorem State.writeJudged_streams (s : State) (a : Nat) (m r v : Word) (st : Nat) (f : Field) : (s.writeJudged a m r v st f).streams = s.streams := by unfold State.writeJudged; dsimp only; split <;> exact State.writeBits_streams s a m r v
@[simp] theorem State.writeJudged_drc (s : State) (a : Nat) (m r v : Word) (st : Nat) (f : Field) : (s.writeJudged a m r v st f).drc = s.drc := by unfold State.writeJudged; dsimp only; split <;> exact State.writeBits_drc s a m r v
@[simp] theorem State.writeJudged_cells (s : State) (a : Nat) (m r v : Word) (st : Nat) (f : Field) : (s.writeJudged a m r v st f).cells = s.cells := by unfold State.writeJudged; dsimp only; split <;> exact State.writeBits_cells s a m r v
@[simp] theorem State.writeJudged_ecc (s : State) (a : Nat) (m r v : Word) (st : Nat) (f : Field) : (s.writeJudged a m r v st f).ecc = s.ecc := by unfold State.writeJudged; dsimp only; split <;> exact State.writeBits_ecc s a m r v
@[simp] theorem State.writeJudged_fab (s : State) (a : Nat) (m r v : Word) (st : Nat) (f : Field) : (s.writeJudged a m r v st f).fab = s.fab := by unfold State.writeJudged; dsimp only; split <;> exact State.writeBits_fab s a m r v
@[simp] theorem State.writeJudged_port (s : State) (a : Nat) (m r v : Word) (st : Nat) (f : Field) : (s.writeJudged a m r v st f).port = s.port := by unfold State.writeJudged; dsimp only; split <;> exact State.writeBits_port s a m r v
@[simp] theorem State.writeOnes_pending (s : State) (a : Nat) (m v : Word) : (s.writeOnes a m v).pending = s.pending := rfl
@[simp] theorem State.writeOnes_fac (s : State) (a : Nat) (m v : Word) : (s.writeOnes a m v).fac = s.fac := rfl
@[simp] theorem State.writeOnes_cycles (s : State) (a : Nat) (m v : Word) : (s.writeOnes a m v).cycles = s.cycles := rfl
@[simp] theorem State.writeOnes_time (s : State) (a : Nat) (m v : Word) : (s.writeOnes a m v).time = s.time := rfl
@[simp] theorem State.writeOnes_baseIdx (s : State) (a : Nat) (m v : Word) : (s.writeOnes a m v).baseIdx = s.baseIdx := rfl
@[simp] theorem State.writeOnes_baseRunning (s : State) (a : Nat) (m v : Word) : (s.writeOnes a m v).baseRunning = s.baseRunning := rfl
@[simp] theorem State.writeOnes_fresh (s : State) (a : Nat) (m v : Word) : (s.writeOnes a m v).fresh = s.fresh := rfl
@[simp] theorem State.writeOnes_recs (s : State) (a : Nat) (m v : Word) : (s.writeOnes a m v).recs = s.recs := rfl
@[simp] theorem State.writeOnes_out (s : State) (a : Nat) (m v : Word) : (s.writeOnes a m v).out = s.out := rfl
@[simp] theorem State.writeOnes_host (s : State) (a : Nat) (m v : Word) : (s.writeOnes a m v).host = s.host := rfl
@[simp] theorem State.writeOnes_mode (s : State) (a : Nat) (m v : Word) : (s.writeOnes a m v).mode = s.mode := rfl
@[simp] theorem State.writeOnes_pacer (s : State) (a : Nat) (m v : Word) : (s.writeOnes a m v).pacer = s.pacer := rfl
@[simp] theorem State.writeOnes_smon (s : State) (a : Nat) (m v : Word) : (s.writeOnes a m v).smon = s.smon := rfl
@[simp] theorem State.writeOnes_triggers (s : State) (a : Nat) (m v : Word) : (s.writeOnes a m v).triggers = s.triggers := rfl
@[simp] theorem State.writeOnes_bootu (s : State) (a : Nat) (m v : Word) : (s.writeOnes a m v).bootu = s.bootu := rfl
@[simp] theorem State.writeOnes_eng (s : State) (a : Nat) (m v : Word) : (s.writeOnes a m v).eng = s.eng := rfl
@[simp] theorem State.writeOnes_streams (s : State) (a : Nat) (m v : Word) : (s.writeOnes a m v).streams = s.streams := rfl
@[simp] theorem State.writeOnes_drc (s : State) (a : Nat) (m v : Word) : (s.writeOnes a m v).drc = s.drc := rfl
@[simp] theorem State.writeOnes_cells (s : State) (a : Nat) (m v : Word) : (s.writeOnes a m v).cells = s.cells := rfl
@[simp] theorem State.writeOnes_ecc (s : State) (a : Nat) (m v : Word) : (s.writeOnes a m v).ecc = s.ecc := rfl
@[simp] theorem State.writeOnes_fab (s : State) (a : Nat) (m v : Word) : (s.writeOnes a m v).fab = s.fab := rfl
@[simp] theorem State.writeOnes_port (s : State) (a : Nat) (m v : Word) : (s.writeOnes a m v).port = s.port := rfl

/-! ### An output changes nothing but the outputs -/

@[simp] theorem State.put_pending (s : State) (x : Out) : (s.put x).pending = s.pending := rfl
@[simp] theorem State.put_fac (s : State) (x : Out) : (s.put x).fac = s.fac := rfl
@[simp] theorem State.put_regs (s : State) (x : Out) : (s.put x).regs = s.regs := rfl
@[simp] theorem State.put_cycles (s : State) (x : Out) : (s.put x).cycles = s.cycles := rfl
@[simp] theorem State.put_time (s : State) (x : Out) : (s.put x).time = s.time := rfl
@[simp] theorem State.put_timeRem (s : State) (x : Out) : (s.put x).timeRem = s.timeRem := rfl
@[simp] theorem State.put_sinceBase (s : State) (x : Out) : (s.put x).sinceBase = s.sinceBase := rfl
@[simp] theorem State.put_baseIdx (s : State) (x : Out) : (s.put x).baseIdx = s.baseIdx := rfl
@[simp] theorem State.put_baseRunning (s : State) (x : Out) : (s.put x).baseRunning = s.baseRunning := rfl
@[simp] theorem State.put_fresh (s : State) (x : Out) : (s.put x).fresh = s.fresh := rfl
@[simp] theorem State.put_late (s : State) (x : Out) : (s.put x).late = s.late := rfl
@[simp] theorem State.put_recs (s : State) (x : Out) : (s.put x).recs = s.recs := rfl
@[simp] theorem State.put_classLost (s : State) (x : Out) : (s.put x).classLost = s.classLost := rfl
@[simp] theorem State.put_rate (s : State) (x : Out) : (s.put x).rate = s.rate := rfl
@[simp] theorem State.put_host (s : State) (x : Out) : (s.put x).host = s.host := rfl
@[simp] theorem State.put_queues (s : State) (x : Out) : (s.put x).queues = s.queues := rfl
@[simp] theorem State.put_msi (s : State) (x : Out) : (s.put x).msi = s.msi := rfl
@[simp] theorem State.put_latch (s : State) (x : Out) : (s.put x).latch = s.latch := rfl
@[simp] theorem State.put_mode (s : State) (x : Out) : (s.put x).mode = s.mode := rfl
@[simp] theorem State.put_clk (s : State) (x : Out) : (s.put x).clk = s.clk := rfl
@[simp] theorem State.put_pacer (s : State) (x : Out) : (s.put x).pacer = s.pacer := rfl
@[simp] theorem State.put_smon (s : State) (x : Out) : (s.put x).smon = s.smon := rfl
@[simp] theorem State.put_trust (s : State) (x : Out) : (s.put x).trust = s.trust := rfl
@[simp] theorem State.put_alarm (s : State) (x : Out) : (s.put x).alarm = s.alarm := rfl
@[simp] theorem State.put_triggers (s : State) (x : Out) : (s.put x).triggers = s.triggers := rfl
@[simp] theorem State.put_trig (s : State) (x : Out) : (s.put x).trig = s.trig := rfl
@[simp] theorem State.put_snp (s : State) (x : Out) : (s.put x).snp = s.snp := rfl
@[simp] theorem State.put_snpSeen (s : State) (x : Out) : (s.put x).snpSeen = s.snpSeen := rfl
@[simp] theorem State.put_snapRegion (s : State) (x : Out) : (s.put x).snapRegion = s.snapRegion := rfl
@[simp] theorem State.put_snapNext (s : State) (x : Out) : (s.put x).snapNext = s.snapNext := rfl
@[simp] theorem State.put_bootu (s : State) (x : Out) : (s.put x).bootu = s.bootu := rfl
@[simp] theorem State.put_pins (s : State) (x : Out) : (s.put x).pins = s.pins := rfl
@[simp] theorem State.put_pch (s : State) (x : Out) : (s.put x).pch = s.pch := rfl
@[simp] theorem State.put_exc (s : State) (x : Out) : (s.put x).exc = s.exc := rfl
@[simp] theorem State.put_res (s : State) (x : Out) : (s.put x).res = s.res := rfl
@[simp] theorem State.put_eff (s : State) (x : Out) : (s.put x).eff = s.eff := rfl
@[simp] theorem State.put_cal (s : State) (x : Out) : (s.put x).cal = s.cal := rfl
@[simp] theorem State.put_bank (s : State) (x : Out) : (s.put x).bank = s.bank := rfl
@[simp] theorem State.put_chk (s : State) (x : Out) : (s.put x).chk = s.chk := rfl
@[simp] theorem State.put_commit (s : State) (x : Out) : (s.put x).commit = s.commit := rfl
@[simp] theorem State.put_wch (s : State) (x : Out) : (s.put x).wch = s.wch := rfl
@[simp] theorem State.put_wm (s : State) (x : Out) : (s.put x).wm = s.wm := rfl
@[simp] theorem State.put_hc (s : State) (x : Out) : (s.put x).hc = s.hc := rfl
@[simp] theorem State.put_start (s : State) (x : Out) : (s.put x).start = s.start := rfl
@[simp] theorem State.put_eng (s : State) (x : Out) : (s.put x).eng = s.eng := rfl
@[simp] theorem State.put_nodes (s : State) (x : Out) : (s.put x).nodes = s.nodes := rfl
@[simp] theorem State.put_clu (s : State) (x : Out) : (s.put x).clu = s.clu := rfl
@[simp] theorem State.put_streams (s : State) (x : Out) : (s.put x).streams = s.streams := rfl
@[simp] theorem State.put_rings (s : State) (x : Out) : (s.put x).rings = s.rings := rfl
@[simp] theorem State.put_drc (s : State) (x : Out) : (s.put x).drc = s.drc := rfl
@[simp] theorem State.put_chan (s : State) (x : Out) : (s.put x).chan = s.chan := rfl
@[simp] theorem State.put_dport (s : State) (x : Out) : (s.put x).dport = s.dport := rfl
@[simp] theorem State.put_cells (s : State) (x : Out) : (s.put x).cells = s.cells := rfl
@[simp] theorem State.put_ecc (s : State) (x : Out) : (s.put x).ecc = s.ecc := rfl
@[simp] theorem State.put_fab (s : State) (x : Out) : (s.put x).fab = s.fab := rfl
@[simp] theorem State.put_port (s : State) (x : Out) : (s.put x).port = s.port := rfl
@[simp] theorem State.put_reg (s : State) (x : Out) (a : Nat) : (s.put x).reg a = s.reg a := rfl

/-! ### A free value changes nothing but its counter -/

@[simp] theorem State.freeNat_pending (s : State) (w : Nat) : (s.freeNat w).2.pending = s.pending := rfl
@[simp] theorem State.freeNat_fac (s : State) (w : Nat) : (s.freeNat w).2.fac = s.fac := rfl
@[simp] theorem State.freeNat_regs (s : State) (w : Nat) : (s.freeNat w).2.regs = s.regs := rfl
@[simp] theorem State.freeNat_cycles (s : State) (w : Nat) : (s.freeNat w).2.cycles = s.cycles := rfl
@[simp] theorem State.freeNat_time (s : State) (w : Nat) : (s.freeNat w).2.time = s.time := rfl
@[simp] theorem State.freeNat_timeRem (s : State) (w : Nat) : (s.freeNat w).2.timeRem = s.timeRem := rfl
@[simp] theorem State.freeNat_sinceBase (s : State) (w : Nat) : (s.freeNat w).2.sinceBase = s.sinceBase := rfl
@[simp] theorem State.freeNat_baseIdx (s : State) (w : Nat) : (s.freeNat w).2.baseIdx = s.baseIdx := rfl
@[simp] theorem State.freeNat_baseRunning (s : State) (w : Nat) : (s.freeNat w).2.baseRunning = s.baseRunning := rfl
@[simp] theorem State.freeNat_late (s : State) (w : Nat) : (s.freeNat w).2.late = s.late := rfl
@[simp] theorem State.freeNat_recs (s : State) (w : Nat) : (s.freeNat w).2.recs = s.recs := rfl
@[simp] theorem State.freeNat_classLost (s : State) (w : Nat) : (s.freeNat w).2.classLost = s.classLost := rfl
@[simp] theorem State.freeNat_rate (s : State) (w : Nat) : (s.freeNat w).2.rate = s.rate := rfl
@[simp] theorem State.freeNat_out (s : State) (w : Nat) : (s.freeNat w).2.out = s.out := rfl
@[simp] theorem State.freeNat_host (s : State) (w : Nat) : (s.freeNat w).2.host = s.host := rfl
@[simp] theorem State.freeNat_queues (s : State) (w : Nat) : (s.freeNat w).2.queues = s.queues := rfl
@[simp] theorem State.freeNat_msi (s : State) (w : Nat) : (s.freeNat w).2.msi = s.msi := rfl
@[simp] theorem State.freeNat_latch (s : State) (w : Nat) : (s.freeNat w).2.latch = s.latch := rfl
@[simp] theorem State.freeNat_mode (s : State) (w : Nat) : (s.freeNat w).2.mode = s.mode := rfl
@[simp] theorem State.freeNat_clk (s : State) (w : Nat) : (s.freeNat w).2.clk = s.clk := rfl
@[simp] theorem State.freeNat_pacer (s : State) (w : Nat) : (s.freeNat w).2.pacer = s.pacer := rfl
@[simp] theorem State.freeNat_smon (s : State) (w : Nat) : (s.freeNat w).2.smon = s.smon := rfl
@[simp] theorem State.freeNat_trust (s : State) (w : Nat) : (s.freeNat w).2.trust = s.trust := rfl
@[simp] theorem State.freeNat_alarm (s : State) (w : Nat) : (s.freeNat w).2.alarm = s.alarm := rfl
@[simp] theorem State.freeNat_triggers (s : State) (w : Nat) : (s.freeNat w).2.triggers = s.triggers := rfl
@[simp] theorem State.freeNat_trig (s : State) (w : Nat) : (s.freeNat w).2.trig = s.trig := rfl
@[simp] theorem State.freeNat_snp (s : State) (w : Nat) : (s.freeNat w).2.snp = s.snp := rfl
@[simp] theorem State.freeNat_snpSeen (s : State) (w : Nat) : (s.freeNat w).2.snpSeen = s.snpSeen := rfl
@[simp] theorem State.freeNat_snapRegion (s : State) (w : Nat) : (s.freeNat w).2.snapRegion = s.snapRegion := rfl
@[simp] theorem State.freeNat_snapNext (s : State) (w : Nat) : (s.freeNat w).2.snapNext = s.snapNext := rfl
@[simp] theorem State.freeNat_bootu (s : State) (w : Nat) : (s.freeNat w).2.bootu = s.bootu := rfl
@[simp] theorem State.freeNat_pins (s : State) (w : Nat) : (s.freeNat w).2.pins = s.pins := rfl
@[simp] theorem State.freeNat_pch (s : State) (w : Nat) : (s.freeNat w).2.pch = s.pch := rfl
@[simp] theorem State.freeNat_exc (s : State) (w : Nat) : (s.freeNat w).2.exc = s.exc := rfl
@[simp] theorem State.freeNat_res (s : State) (w : Nat) : (s.freeNat w).2.res = s.res := rfl
@[simp] theorem State.freeNat_eff (s : State) (w : Nat) : (s.freeNat w).2.eff = s.eff := rfl
@[simp] theorem State.freeNat_cal (s : State) (w : Nat) : (s.freeNat w).2.cal = s.cal := rfl
@[simp] theorem State.freeNat_bank (s : State) (w : Nat) : (s.freeNat w).2.bank = s.bank := rfl
@[simp] theorem State.freeNat_chk (s : State) (w : Nat) : (s.freeNat w).2.chk = s.chk := rfl
@[simp] theorem State.freeNat_commit (s : State) (w : Nat) : (s.freeNat w).2.commit = s.commit := rfl
@[simp] theorem State.freeNat_wch (s : State) (w : Nat) : (s.freeNat w).2.wch = s.wch := rfl
@[simp] theorem State.freeNat_wm (s : State) (w : Nat) : (s.freeNat w).2.wm = s.wm := rfl
@[simp] theorem State.freeNat_hc (s : State) (w : Nat) : (s.freeNat w).2.hc = s.hc := rfl
@[simp] theorem State.freeNat_start (s : State) (w : Nat) : (s.freeNat w).2.start = s.start := rfl
@[simp] theorem State.freeNat_eng (s : State) (w : Nat) : (s.freeNat w).2.eng = s.eng := rfl
@[simp] theorem State.freeNat_nodes (s : State) (w : Nat) : (s.freeNat w).2.nodes = s.nodes := rfl
@[simp] theorem State.freeNat_clu (s : State) (w : Nat) : (s.freeNat w).2.clu = s.clu := rfl
@[simp] theorem State.freeNat_streams (s : State) (w : Nat) : (s.freeNat w).2.streams = s.streams := rfl
@[simp] theorem State.freeNat_rings (s : State) (w : Nat) : (s.freeNat w).2.rings = s.rings := rfl
@[simp] theorem State.freeNat_drc (s : State) (w : Nat) : (s.freeNat w).2.drc = s.drc := rfl
@[simp] theorem State.freeNat_chan (s : State) (w : Nat) : (s.freeNat w).2.chan = s.chan := rfl
@[simp] theorem State.freeNat_dport (s : State) (w : Nat) : (s.freeNat w).2.dport = s.dport := rfl
@[simp] theorem State.freeNat_cells (s : State) (w : Nat) : (s.freeNat w).2.cells = s.cells := rfl
@[simp] theorem State.freeNat_ecc (s : State) (w : Nat) : (s.freeNat w).2.ecc = s.ecc := rfl
@[simp] theorem State.freeNat_fab (s : State) (w : Nat) : (s.freeNat w).2.fab = s.fab := rfl
@[simp] theorem State.freeNat_port (s : State) (w : Nat) : (s.freeNat w).2.port = s.port := rfl
@[simp] theorem State.freeNat_reg (s : State) (w a : Nat) : (s.freeNat w).2.reg a = s.reg a := rfl

/-! ### An event record changes what waits, what was coalesced, DEV_EV_LOST and WAKE_N, and nothing else -/

@[simp] theorem State.push_pending (s : State) (r : Rec) : (s.push r).pending = s.pending := rfl
@[simp] theorem State.push_fac (s : State) (r : Rec) : (s.push r).fac = s.fac := rfl
@[simp] theorem State.push_cycles (s : State) (r : Rec) : (s.push r).cycles = s.cycles := rfl
@[simp] theorem State.push_time (s : State) (r : Rec) : (s.push r).time = s.time := rfl
@[simp] theorem State.push_timeRem (s : State) (r : Rec) : (s.push r).timeRem = s.timeRem := rfl
@[simp] theorem State.push_sinceBase (s : State) (r : Rec) : (s.push r).sinceBase = s.sinceBase := rfl
@[simp] theorem State.push_baseIdx (s : State) (r : Rec) : (s.push r).baseIdx = s.baseIdx := rfl
@[simp] theorem State.push_baseRunning (s : State) (r : Rec) : (s.push r).baseRunning = s.baseRunning := rfl
@[simp] theorem State.push_fresh (s : State) (r : Rec) : (s.push r).fresh = s.fresh := rfl
@[simp] theorem State.push_late (s : State) (r : Rec) : (s.push r).late = s.late := rfl
@[simp] theorem State.push_rate (s : State) (r : Rec) : (s.push r).rate = s.rate := rfl
@[simp] theorem State.push_out (s : State) (r : Rec) : (s.push r).out = s.out := rfl
@[simp] theorem State.push_queues (s : State) (r : Rec) : (s.push r).queues = s.queues := rfl
@[simp] theorem State.push_msi (s : State) (r : Rec) : (s.push r).msi = s.msi := rfl
@[simp] theorem State.push_latch (s : State) (r : Rec) : (s.push r).latch = s.latch := rfl
@[simp] theorem State.push_mode (s : State) (r : Rec) : (s.push r).mode = s.mode := rfl
@[simp] theorem State.push_clk (s : State) (r : Rec) : (s.push r).clk = s.clk := rfl
@[simp] theorem State.push_pacer (s : State) (r : Rec) : (s.push r).pacer = s.pacer := rfl
@[simp] theorem State.push_smon (s : State) (r : Rec) : (s.push r).smon = s.smon := rfl
@[simp] theorem State.push_trust (s : State) (r : Rec) : (s.push r).trust = s.trust := rfl
@[simp] theorem State.push_alarm (s : State) (r : Rec) : (s.push r).alarm = s.alarm := rfl
@[simp] theorem State.push_triggers (s : State) (r : Rec) : (s.push r).triggers = s.triggers := rfl
@[simp] theorem State.push_trig (s : State) (r : Rec) : (s.push r).trig = s.trig := rfl
@[simp] theorem State.push_snp (s : State) (r : Rec) : (s.push r).snp = s.snp := rfl
@[simp] theorem State.push_snpSeen (s : State) (r : Rec) : (s.push r).snpSeen = s.snpSeen := rfl
@[simp] theorem State.push_snapRegion (s : State) (r : Rec) : (s.push r).snapRegion = s.snapRegion := rfl
@[simp] theorem State.push_snapNext (s : State) (r : Rec) : (s.push r).snapNext = s.snapNext := rfl
@[simp] theorem State.push_bootu (s : State) (r : Rec) : (s.push r).bootu = s.bootu := rfl
@[simp] theorem State.push_pins (s : State) (r : Rec) : (s.push r).pins = s.pins := rfl
@[simp] theorem State.push_pch (s : State) (r : Rec) : (s.push r).pch = s.pch := rfl
@[simp] theorem State.push_exc (s : State) (r : Rec) : (s.push r).exc = s.exc := rfl
@[simp] theorem State.push_res (s : State) (r : Rec) : (s.push r).res = s.res := rfl
@[simp] theorem State.push_eff (s : State) (r : Rec) : (s.push r).eff = s.eff := rfl
@[simp] theorem State.push_cal (s : State) (r : Rec) : (s.push r).cal = s.cal := rfl
@[simp] theorem State.push_bank (s : State) (r : Rec) : (s.push r).bank = s.bank := rfl
@[simp] theorem State.push_chk (s : State) (r : Rec) : (s.push r).chk = s.chk := rfl
@[simp] theorem State.push_commit (s : State) (r : Rec) : (s.push r).commit = s.commit := rfl
@[simp] theorem State.push_wch (s : State) (r : Rec) : (s.push r).wch = s.wch := rfl
@[simp] theorem State.push_wm (s : State) (r : Rec) : (s.push r).wm = s.wm := rfl
@[simp] theorem State.push_hc (s : State) (r : Rec) : (s.push r).hc = s.hc := rfl
@[simp] theorem State.push_start (s : State) (r : Rec) : (s.push r).start = s.start := rfl
@[simp] theorem State.push_eng (s : State) (r : Rec) : (s.push r).eng = s.eng := rfl
@[simp] theorem State.push_nodes (s : State) (r : Rec) : (s.push r).nodes = s.nodes := rfl
@[simp] theorem State.push_clu (s : State) (r : Rec) : (s.push r).clu = s.clu := rfl
@[simp] theorem State.push_streams (s : State) (r : Rec) : (s.push r).streams = s.streams := rfl
@[simp] theorem State.push_rings (s : State) (r : Rec) : (s.push r).rings = s.rings := rfl
@[simp] theorem State.push_drc (s : State) (r : Rec) : (s.push r).drc = s.drc := rfl
@[simp] theorem State.push_chan (s : State) (r : Rec) : (s.push r).chan = s.chan := rfl
@[simp] theorem State.push_dport (s : State) (r : Rec) : (s.push r).dport = s.dport := rfl
@[simp] theorem State.push_cells (s : State) (r : Rec) : (s.push r).cells = s.cells := rfl
@[simp] theorem State.push_ecc (s : State) (r : Rec) : (s.push r).ecc = s.ecc := rfl
@[simp] theorem State.push_fab (s : State) (r : Rec) : (s.push r).fab = s.fab := rfl
@[simp] theorem State.push_port (s : State) (r : Rec) : (s.push r).port = s.port := rfl
@[simp] theorem State.emit_pending (s : State) (type u : Nat) (l : List Int) : (s.emit type u l).pending = s.pending := rfl
@[simp] theorem State.emit_fac (s : State) (type u : Nat) (l : List Int) : (s.emit type u l).fac = s.fac := rfl
@[simp] theorem State.emit_cycles (s : State) (type u : Nat) (l : List Int) : (s.emit type u l).cycles = s.cycles := rfl
@[simp] theorem State.emit_time (s : State) (type u : Nat) (l : List Int) : (s.emit type u l).time = s.time := rfl
@[simp] theorem State.emit_timeRem (s : State) (type u : Nat) (l : List Int) : (s.emit type u l).timeRem = s.timeRem := rfl
@[simp] theorem State.emit_sinceBase (s : State) (type u : Nat) (l : List Int) : (s.emit type u l).sinceBase = s.sinceBase := rfl
@[simp] theorem State.emit_baseIdx (s : State) (type u : Nat) (l : List Int) : (s.emit type u l).baseIdx = s.baseIdx := rfl
@[simp] theorem State.emit_baseRunning (s : State) (type u : Nat) (l : List Int) : (s.emit type u l).baseRunning = s.baseRunning := rfl
@[simp] theorem State.emit_fresh (s : State) (type u : Nat) (l : List Int) : (s.emit type u l).fresh = s.fresh := rfl
@[simp] theorem State.emit_late (s : State) (type u : Nat) (l : List Int) : (s.emit type u l).late = s.late := rfl
@[simp] theorem State.emit_rate (s : State) (type u : Nat) (l : List Int) : (s.emit type u l).rate = s.rate := rfl
@[simp] theorem State.emit_out (s : State) (type u : Nat) (l : List Int) : (s.emit type u l).out = s.out := rfl
@[simp] theorem State.emit_queues (s : State) (type u : Nat) (l : List Int) : (s.emit type u l).queues = s.queues := rfl
@[simp] theorem State.emit_msi (s : State) (type u : Nat) (l : List Int) : (s.emit type u l).msi = s.msi := rfl
@[simp] theorem State.emit_latch (s : State) (type u : Nat) (l : List Int) : (s.emit type u l).latch = s.latch := rfl
@[simp] theorem State.emit_mode (s : State) (type u : Nat) (l : List Int) : (s.emit type u l).mode = s.mode := rfl
@[simp] theorem State.emit_clk (s : State) (type u : Nat) (l : List Int) : (s.emit type u l).clk = s.clk := rfl
@[simp] theorem State.emit_pacer (s : State) (type u : Nat) (l : List Int) : (s.emit type u l).pacer = s.pacer := rfl
@[simp] theorem State.emit_smon (s : State) (type u : Nat) (l : List Int) : (s.emit type u l).smon = s.smon := rfl
@[simp] theorem State.emit_trust (s : State) (type u : Nat) (l : List Int) : (s.emit type u l).trust = s.trust := rfl
@[simp] theorem State.emit_alarm (s : State) (type u : Nat) (l : List Int) : (s.emit type u l).alarm = s.alarm := rfl
@[simp] theorem State.emit_triggers (s : State) (type u : Nat) (l : List Int) : (s.emit type u l).triggers = s.triggers := rfl
@[simp] theorem State.emit_trig (s : State) (type u : Nat) (l : List Int) : (s.emit type u l).trig = s.trig := rfl
@[simp] theorem State.emit_snp (s : State) (type u : Nat) (l : List Int) : (s.emit type u l).snp = s.snp := rfl
@[simp] theorem State.emit_snpSeen (s : State) (type u : Nat) (l : List Int) : (s.emit type u l).snpSeen = s.snpSeen := rfl
@[simp] theorem State.emit_snapRegion (s : State) (type u : Nat) (l : List Int) : (s.emit type u l).snapRegion = s.snapRegion := rfl
@[simp] theorem State.emit_snapNext (s : State) (type u : Nat) (l : List Int) : (s.emit type u l).snapNext = s.snapNext := rfl
@[simp] theorem State.emit_bootu (s : State) (type u : Nat) (l : List Int) : (s.emit type u l).bootu = s.bootu := rfl
@[simp] theorem State.emit_pins (s : State) (type u : Nat) (l : List Int) : (s.emit type u l).pins = s.pins := rfl
@[simp] theorem State.emit_pch (s : State) (type u : Nat) (l : List Int) : (s.emit type u l).pch = s.pch := rfl
@[simp] theorem State.emit_exc (s : State) (type u : Nat) (l : List Int) : (s.emit type u l).exc = s.exc := rfl
@[simp] theorem State.emit_res (s : State) (type u : Nat) (l : List Int) : (s.emit type u l).res = s.res := rfl
@[simp] theorem State.emit_eff (s : State) (type u : Nat) (l : List Int) : (s.emit type u l).eff = s.eff := rfl
@[simp] theorem State.emit_cal (s : State) (type u : Nat) (l : List Int) : (s.emit type u l).cal = s.cal := rfl
@[simp] theorem State.emit_bank (s : State) (type u : Nat) (l : List Int) : (s.emit type u l).bank = s.bank := rfl
@[simp] theorem State.emit_chk (s : State) (type u : Nat) (l : List Int) : (s.emit type u l).chk = s.chk := rfl
@[simp] theorem State.emit_commit (s : State) (type u : Nat) (l : List Int) : (s.emit type u l).commit = s.commit := rfl
@[simp] theorem State.emit_wch (s : State) (type u : Nat) (l : List Int) : (s.emit type u l).wch = s.wch := rfl
@[simp] theorem State.emit_wm (s : State) (type u : Nat) (l : List Int) : (s.emit type u l).wm = s.wm := rfl
@[simp] theorem State.emit_hc (s : State) (type u : Nat) (l : List Int) : (s.emit type u l).hc = s.hc := rfl
@[simp] theorem State.emit_start (s : State) (type u : Nat) (l : List Int) : (s.emit type u l).start = s.start := rfl
@[simp] theorem State.emit_eng (s : State) (type u : Nat) (l : List Int) : (s.emit type u l).eng = s.eng := rfl
@[simp] theorem State.emit_nodes (s : State) (type u : Nat) (l : List Int) : (s.emit type u l).nodes = s.nodes := rfl
@[simp] theorem State.emit_clu (s : State) (type u : Nat) (l : List Int) : (s.emit type u l).clu = s.clu := rfl
@[simp] theorem State.emit_streams (s : State) (type u : Nat) (l : List Int) : (s.emit type u l).streams = s.streams := rfl
@[simp] theorem State.emit_rings (s : State) (type u : Nat) (l : List Int) : (s.emit type u l).rings = s.rings := rfl
@[simp] theorem State.emit_drc (s : State) (type u : Nat) (l : List Int) : (s.emit type u l).drc = s.drc := rfl
@[simp] theorem State.emit_chan (s : State) (type u : Nat) (l : List Int) : (s.emit type u l).chan = s.chan := rfl
@[simp] theorem State.emit_dport (s : State) (type u : Nat) (l : List Int) : (s.emit type u l).dport = s.dport := rfl
@[simp] theorem State.emit_cells (s : State) (type u : Nat) (l : List Int) : (s.emit type u l).cells = s.cells := rfl
@[simp] theorem State.emit_ecc (s : State) (type u : Nat) (l : List Int) : (s.emit type u l).ecc = s.ecc := rfl
@[simp] theorem State.emit_fab (s : State) (type u : Nat) (l : List Int) : (s.emit type u l).fab = s.fab := rfl
@[simp] theorem State.emit_port (s : State) (type u : Nat) (l : List Int) : (s.emit type u l).port = s.port := rfl
@[simp] theorem State.emitAt_pending (s : State) (t : Time) (type u : Nat) (l : List Int) : (s.emitAt t type u l).pending = s.pending := rfl
@[simp] theorem State.emitAt_fac (s : State) (t : Time) (type u : Nat) (l : List Int) : (s.emitAt t type u l).fac = s.fac := rfl
@[simp] theorem State.emitAt_cycles (s : State) (t : Time) (type u : Nat) (l : List Int) : (s.emitAt t type u l).cycles = s.cycles := rfl
@[simp] theorem State.emitAt_time (s : State) (t : Time) (type u : Nat) (l : List Int) : (s.emitAt t type u l).time = s.time := rfl
@[simp] theorem State.emitAt_baseIdx (s : State) (t : Time) (type u : Nat) (l : List Int) : (s.emitAt t type u l).baseIdx = s.baseIdx := rfl
@[simp] theorem State.emitAt_baseRunning (s : State) (t : Time) (type u : Nat) (l : List Int) : (s.emitAt t type u l).baseRunning = s.baseRunning := rfl
@[simp] theorem State.emitAt_fresh (s : State) (t : Time) (type u : Nat) (l : List Int) : (s.emitAt t type u l).fresh = s.fresh := rfl
@[simp] theorem State.emitAt_out (s : State) (t : Time) (type u : Nat) (l : List Int) : (s.emitAt t type u l).out = s.out := rfl
@[simp] theorem State.emitAt_mode (s : State) (t : Time) (type u : Nat) (l : List Int) : (s.emitAt t type u l).mode = s.mode := rfl
@[simp] theorem State.emitAt_pacer (s : State) (t : Time) (type u : Nat) (l : List Int) : (s.emitAt t type u l).pacer = s.pacer := rfl
@[simp] theorem State.emitAt_smon (s : State) (t : Time) (type u : Nat) (l : List Int) : (s.emitAt t type u l).smon = s.smon := rfl
@[simp] theorem State.emitAt_triggers (s : State) (t : Time) (type u : Nat) (l : List Int) : (s.emitAt t type u l).triggers = s.triggers := rfl
@[simp] theorem State.emitAt_bootu (s : State) (t : Time) (type u : Nat) (l : List Int) : (s.emitAt t type u l).bootu = s.bootu := rfl
@[simp] theorem State.emitAt_eng (s : State) (t : Time) (type u : Nat) (l : List Int) : (s.emitAt t type u l).eng = s.eng := rfl
@[simp] theorem State.emitAt_streams (s : State) (t : Time) (type u : Nat) (l : List Int) : (s.emitAt t type u l).streams = s.streams := rfl
@[simp] theorem State.emitAt_drc (s : State) (t : Time) (type u : Nat) (l : List Int) : (s.emitAt t type u l).drc = s.drc := rfl
@[simp] theorem State.emitAt_cells (s : State) (t : Time) (type u : Nat) (l : List Int) : (s.emitAt t type u l).cells = s.cells := rfl
@[simp] theorem State.emitAt_ecc (s : State) (t : Time) (type u : Nat) (l : List Int) : (s.emitAt t type u l).ecc = s.ecc := rfl
@[simp] theorem State.emitAt_fab (s : State) (t : Time) (type u : Nat) (l : List Int) : (s.emitAt t type u l).fab = s.fab := rfl
@[simp] theorem State.emitAt_port (s : State) (t : Time) (type u : Nat) (l : List Int) : (s.emitAt t type u l).port = s.port := rfl
@[simp] theorem State.emitSafetyHeld_pending (s : State) (type u : Nat) (l : List Int) : (s.emitSafetyHeld type u l).pending = s.pending := rfl
@[simp] theorem State.emitSafetyHeld_fac (s : State) (type u : Nat) (l : List Int) : (s.emitSafetyHeld type u l).fac = s.fac := rfl
@[simp] theorem State.emitSafetyHeld_cycles (s : State) (type u : Nat) (l : List Int) : (s.emitSafetyHeld type u l).cycles = s.cycles := rfl
@[simp] theorem State.emitSafetyHeld_time (s : State) (type u : Nat) (l : List Int) : (s.emitSafetyHeld type u l).time = s.time := rfl
@[simp] theorem State.emitSafetyHeld_baseIdx (s : State) (type u : Nat) (l : List Int) : (s.emitSafetyHeld type u l).baseIdx = s.baseIdx := rfl
@[simp] theorem State.emitSafetyHeld_baseRunning (s : State) (type u : Nat) (l : List Int) : (s.emitSafetyHeld type u l).baseRunning = s.baseRunning := rfl
@[simp] theorem State.emitSafetyHeld_fresh (s : State) (type u : Nat) (l : List Int) : (s.emitSafetyHeld type u l).fresh = s.fresh := rfl
@[simp] theorem State.emitSafetyHeld_out (s : State) (type u : Nat) (l : List Int) : (s.emitSafetyHeld type u l).out = s.out := rfl
@[simp] theorem State.emitSafetyHeld_mode (s : State) (type u : Nat) (l : List Int) : (s.emitSafetyHeld type u l).mode = s.mode := rfl
@[simp] theorem State.emitSafetyHeld_pacer (s : State) (type u : Nat) (l : List Int) : (s.emitSafetyHeld type u l).pacer = s.pacer := rfl
@[simp] theorem State.emitSafetyHeld_smon (s : State) (type u : Nat) (l : List Int) : (s.emitSafetyHeld type u l).smon = s.smon := rfl
@[simp] theorem State.emitSafetyHeld_triggers (s : State) (type u : Nat) (l : List Int) : (s.emitSafetyHeld type u l).triggers = s.triggers := rfl
@[simp] theorem State.emitSafetyHeld_bootu (s : State) (type u : Nat) (l : List Int) : (s.emitSafetyHeld type u l).bootu = s.bootu := rfl
@[simp] theorem State.emitSafetyHeld_eng (s : State) (type u : Nat) (l : List Int) : (s.emitSafetyHeld type u l).eng = s.eng := rfl
@[simp] theorem State.emitSafetyHeld_streams (s : State) (type u : Nat) (l : List Int) : (s.emitSafetyHeld type u l).streams = s.streams := rfl
@[simp] theorem State.emitSafetyHeld_drc (s : State) (type u : Nat) (l : List Int) : (s.emitSafetyHeld type u l).drc = s.drc := rfl
@[simp] theorem State.emitSafetyHeld_cells (s : State) (type u : Nat) (l : List Int) : (s.emitSafetyHeld type u l).cells = s.cells := rfl
@[simp] theorem State.emitSafetyHeld_ecc (s : State) (type u : Nat) (l : List Int) : (s.emitSafetyHeld type u l).ecc = s.ecc := rfl
@[simp] theorem State.emitSafetyHeld_fab (s : State) (type u : Nat) (l : List Int) : (s.emitSafetyHeld type u l).fab = s.fab := rfl
@[simp] theorem State.emitSafetyHeld_port (s : State) (type u : Nat) (l : List Int) : (s.emitSafetyHeld type u l).port = s.port := rfl

theorem State.push_reg_eq (s : State) (r : Rec) (a : Nat) :
    (s.push r).reg a = if s.recsFull then (s.count Reg.DEV_EV_LOST word32).reg a else s.reg a := by
  have hf : (s.count Reg.DEV_EV_LOST word32).fac = s.fac := State.count_fac s _ _
  unfold State.push
  generalize s.count Reg.DEV_EV_LOST word32 = t at hf ⊢
  generalize s.recsFull = b
  cases b <;> simp [State.reg, hf]

/-- Every register but DEV_EV_LOST keeps its value when a record is written. -/
theorem State.push_reg (s : State) (r : Rec) {a : Nat} (h : a ≠ Reg.DEV_EV_LOST) : (s.push r).reg a = s.reg a := by
  rw [State.push_reg_eq, State.reg_count_other s h]
  simp

/-- The same for a record of the present time. -/
theorem State.emit_reg (s : State) (type u : Nat) (l : List Int) {a : Nat} (h : a ≠ Reg.DEV_EV_LOST) : (s.emit type u l).reg a = s.reg a :=
  State.push_reg s _ h

/-- A record that finds room is the last of those that wait. -/
theorem State.push_recs (s : State) (r : Rec) (h : s.recsFull = false) : (s.push r).recs = s.recs ++ [r] := by
  simp [State.push, h]

/-- The same for a record of the present time. -/
theorem State.emit_recs (s : State) (type u : Nat) (l : List Int) (h : s.recsFull = false) :
    (s.emit type u l).recs = s.recs ++ [mkRec type u s.time l] := State.push_recs s _ h

end Sys2Proof.Machine
end

