-- ==== Sys2Proof/Laws/Late.lean ====
section
/-!
SUPPORT. A base sample works on the registers as the AON domain holds them, and what has not committed stands again after it (R328): no
register that the sample itself leaves alone changes.
-/

set_option Elab.async false
set_option linter.unusedSimpArgs false
namespace Sys2Proof.Machine

theorem State.SameBut.rfl {p : Parts} {s : State} : s.SameBut p s := State.sameBut_of_outside (Eq.refl _)

theorem State.SameBut.trans {p : Parts} {s t u : State} (h : s.SameBut p t) (k : t.SameBut p u) : s.SameBut p u where
  pending := k.pending.trans h.pending
  fac := k.fac.trans h.fac
  reg := fun a ha => (k.reg a ha).trans (h.reg a ha)
  cycles := fun e => (k.cycles e).trans (h.cycles e)
  time := fun e => (k.time e).trans (h.time e)
  timeRem := fun e => (k.timeRem e).trans (h.timeRem e)
  sinceBase := fun e => (k.sinceBase e).trans (h.sinceBase e)
  baseIdx := fun e => (k.baseIdx e).trans (h.baseIdx e)
  baseRunning := fun e => (k.baseRunning e).trans (h.baseRunning e)
  fresh := fun e => (k.fresh e).trans (h.fresh e)
  late := fun e => (k.late e).trans (h.late e)
  recs := fun e => (k.recs e).trans (h.recs e)
  classLost := fun e => (k.classLost e).trans (h.classLost e)
  rate := fun e => (k.rate e).trans (h.rate e)
  out := fun e => (k.out e).trans (h.out e)
  host := fun e => (k.host e).trans (h.host e)
  queues := fun e => (k.queues e).trans (h.queues e)
  msi := fun e => (k.msi e).trans (h.msi e)
  latch := fun e => (k.latch e).trans (h.latch e)
  mode := fun e => (k.mode e).trans (h.mode e)
  clk := fun e => (k.clk e).trans (h.clk e)
  pacer := fun e => (k.pacer e).trans (h.pacer e)
  smon := fun e => (k.smon e).trans (h.smon e)
  trust := fun e => (k.trust e).trans (h.trust e)
  alarm := fun e => (k.alarm e).trans (h.alarm e)
  triggers := fun e => (k.triggers e).trans (h.triggers e)
  trig := fun e => (k.trig e).trans (h.trig e)
  snp := fun e => (k.snp e).trans (h.snp e)
  snpSeen := fun e => (k.snpSeen e).trans (h.snpSeen e)
  snapRegion := fun e => (k.snapRegion e).trans (h.snapRegion e)
  snapNext := fun e => (k.snapNext e).trans (h.snapNext e)
  bootu := fun e => (k.bootu e).trans (h.bootu e)
  pins := fun e => (k.pins e).trans (h.pins e)
  pch := fun e => (k.pch e).trans (h.pch e)
  exc := fun e => (k.exc e).trans (h.exc e)
  res := fun e => (k.res e).trans (h.res e)
  eff := fun e => (k.eff e).trans (h.eff e)
  cal := fun e => (k.cal e).trans (h.cal e)
  bank := fun e => (k.bank e).trans (h.bank e)
  chk := fun e => (k.chk e).trans (h.chk e)
  commit := fun e => (k.commit e).trans (h.commit e)
  wch := fun e => (k.wch e).trans (h.wch e)
  wm := fun e => (k.wm e).trans (h.wm e)
  hc := fun e => (k.hc e).trans (h.hc e)
  start := fun e => (k.start e).trans (h.start e)
  eng := fun e => (k.eng e).trans (h.eng e)
  nodes := fun e => (k.nodes e).trans (h.nodes e)
  clu := fun e => (k.clu e).trans (h.clu e)
  streams := fun e => (k.streams e).trans (h.streams e)
  rings := fun e => (k.rings e).trans (h.rings e)
  drc := fun e => (k.drc e).trans (h.drc e)
  chan := fun e => (k.chan e).trans (h.chan e)
  dport := fun e => (k.dport e).trans (h.dport e)
  cells := fun e => (k.cells e).trans (h.cells e)
  ecc := fun e => (k.ecc e).trans (h.ecc e)
  fab := fun e => (k.fab e).trans (h.fab e)
  port := fun e => (k.port e).trans (h.port e)

/-- A frame whose registers are known apart from its other parts. -/
theorem State.SameBut.ofRegs {p : Parts} {s t : State} (h : s.SameBut { p with regs := fun _ => True } t)
    (hr : ∀ a, ¬p.regs a → t.reg a = s.reg a) : s.SameBut p t := { h with reg := hr }

/-- The frame of a command's answer, from the frame of what it leaves. -/
theorem State.sameBut_answer {p : Parts} {s u t : State} (h : s.effect u = .next t) (ho : s.SameBut p u) : s.SameBut p t := by
  have e : { u with pending := s.pending, fac := s.fac } = u := by
    rw [← ho.pending, ← ho.fac]
  simp only [State.effect, e, Host.Outcome.next.injEq] at h
  subst h
  exact ho

/-! ### Words merged under masks -/

theorem maskFold_keep (f : LateWrite → Word) (i : Nat) (l : List LateWrite) (w : Word) (h : l.any (fun e => e.mask.getLsbD i) = false) :
    (l.foldl (fun w e => (w &&& ~~~e.mask) ||| (f e &&& e.mask)) w).getLsbD i = w.getLsbD i := by
  induction l generalizing w with
  | nil => rfl
  | cons e l ih =>
    rw [List.any_cons, Bool.or_eq_false_iff] at h
    rw [List.foldl_cons, ih _ h.2]
    by_cases hi : i < 32
    · simp only [BitVec.getLsbD_or, BitVec.getLsbD_and, BitVec.getLsbD_not, h.1, hi, Bool.not_false, Bool.and_true, Bool.and_false,
        Bool.or_false, decide_true]
    · simp [BitVec.getLsbD_of_ge _ _ (Nat.le_of_not_lt hi)]

theorem maskFold_put (v : Word) (i : Nat) (l : List LateWrite) (w : Word) (h : l.any (fun e => e.mask.getLsbD i) = true) :
    (l.foldl (fun w e => (w &&& ~~~e.mask) ||| (v &&& e.mask)) w).getLsbD i = v.getLsbD i := by
  induction l generalizing w with
  | nil => cases h
  | cons e l ih =>
    rw [List.foldl_cons]
    cases hl : l.any (fun e => e.mask.getLsbD i) with
    | true => exact ih _ hl
    | false =>
      rw [List.any_cons, hl, Bool.or_false] at h
      rw [maskFold_keep _ _ _ _ hl]
      by_cases hi : i < 32
      · simp only [BitVec.getLsbD_or, BitVec.getLsbD_and, BitVec.getLsbD_not, h, hi, Bool.not_true, Bool.and_true, Bool.and_false,
          Bool.false_or, decide_true]
      · simp [BitVec.getLsbD_of_ge _ _ (Nat.le_of_not_lt hi)]

/-- Bits taken back to an earlier word and then put again give the word they came from. -/
theorem maskFold_restore (f : LateWrite → Word) (l : List LateWrite) (w : Word) :
    l.foldl (fun x e => (x &&& ~~~e.mask) ||| (w &&& e.mask)) (l.foldl (fun x e => (x &&& ~~~e.mask) ||| (f e &&& e.mask)) w) = w := by
  refine BitVec.eq_of_getLsbD_eq fun i _ => ?_
  cases h : l.any (fun e => e.mask.getLsbD i) with
  | true => exact maskFold_put _ _ _ _ h
  | false => rw [maskFold_keep _ _ _ _ h, maskFold_keep _ _ _ _ h]

/-! ### The registers around a base sample -/

theorem State.foldl_setReg_reg (f : Nat → Word) (a : Nat) (l : List LateWrite) (s : State) (h : (∀ e ∈ l, e.off ≠ a) → s.reg a = f a) :
    (l.foldl (fun (t : State) e => t.setReg e.off (f e.off)) s).reg a = f a := by
  induction l generalizing s with
  | nil => exact h (by simp)
  | cons e l ih =>
    rw [List.foldl_cons]
    refine ih _ fun hl => ?_
    rw [State.reg_setReg]
    split
    · next ha => rw [ha]
    · next ha => exact h (by simpa [hl] using ⟨fun e => ha e.symm, hl⟩)

theorem State.regBy_late (s : State) (c a : Nat) (h : ∀ e ∈ s.late, e.off ≠ a) : s.regBy c a = s.reg a := by
  unfold State.regBy
  rw [List.filter_eq_nil_iff.2 (fun e he => by simp [h e he])]
  rfl

theorem State.asCommitted_reg (s : State) (a : Nat) : s.asCommitted.reg a = s.regBy s.cycles a :=
  State.foldl_setReg_reg (fun o => s.regBy s.cycles o) a s.late s (fun h => (s.regBy_late _ a h).symm)

theorem State.withLate_step_reg (s t : State) (e : LateWrite) (a : Nat) :
    ((List.range 64).foldl (fun (t : State) n =>
      if e.off = Reg.PCH_FMT n && getField Fld.PCH_FMT_RES_SRC e.old != s.fld e.off Fld.PCH_FMT_RES_SRC then t.restartRes n else t) t).reg a
      = t.reg a := by
  have h : ((List.range 64).foldl (fun (t : State) n =>
      if e.off = Reg.PCH_FMT n && getField Fld.PCH_FMT_RES_SRC e.old != s.fld e.off Fld.PCH_FMT_RES_SRC then t.restartRes n else t) t).outside
      { regs := fun _ => False, res := true } = t.outside { regs := fun _ => False, res := true } := by
    refine State.foldl_outside (fun s x => ?_) _ _
    split
    · exact State.restartRes_outside _ _ rfl
    · rfl
  exact (State.sameBut_of_outside h).reg a id

theorem State.withLate_reg (s t : State) (a : Nat) : (t.withLate s).reg a =
    (s.late.filter (fun e => e.off == a && decide (s.cycles < e.commit))).foldl (fun w e => (w &&& ~~~e.mask) ||| (s.reg a &&& e.mask)) (t.reg a) := by
  unfold State.withLate
  rw [← List.filter_filter]
  generalize s.late.filter (fun e => decide (s.cycles < e.commit)) = l
  induction l generalizing t with
  | nil => rfl
  | cons e l ih =>
    rw [List.foldl_cons, ih, State.withLate_step_reg, State.reg_setReg, List.filter_cons]
    by_cases ha : e.off = a
    · simp [ha]
    · simp [ha, Ne.symm ha]

theorem State.asCommitted_outside {P : Parts} (s : State) (hr : ∀ n, P.regs n) : s.asCommitted.outside P = s.outside P :=
  State.foldl_outside (fun s _ => State.setReg_outside (hr _) s _) _ _

theorem State.withLate_outside {P : Parts} (t s : State) (hP : P.res = true) (hr : ∀ n, P.regs n) : (t.withLate s).outside P = t.outside P := by
  unfold State.withLate
  refine State.foldl_outside (fun u e => ?_) _ _
  refine (State.foldl_outside (fun v n => ?_) _ _).trans (State.setReg_outside (hr _) u _)
  split
  · exact State.restartRes_outside _ _ hP
  · rfl

/-- What works on the registers as committed changes no register that it leaves alone, once the later writes stand again. -/
theorem State.around_sameBut {P : Parts} (u t : State) (hP : P.res = true)
    (hall : t.outside { P with regs := fun _ => True } = u.asCommitted.outside { P with regs := fun _ => True })
    (hreg : t.outside P = u.asCommitted.outside P) : u.SameBut P (t.withLate u) := by
  refine .ofRegs (State.sameBut_of_outside ?_) fun a ha => ?_
  · exact (State.withLate_outside (P := { P with regs := fun _ => True }) t u hP fun _ => trivial).trans (hall.trans (State.asCommitted_outside u fun _ => trivial))
  · rw [State.withLate_reg, (State.sameBut_of_outside hreg).reg a ha, State.asCommitted_reg]
    exact maskFold_restore LateWrite.old _ _

/-- What a base sample does between the two views of the registers. -/
theorem State.sampleAll_outside {P : Parts} (s : State) (raws : List RawSample) (k : Nat)
    (hP : P.emits ∧ P.bank = true ∧ P.regs Reg.CAL_STAT ∧ P.baseIdx = true ∧ (∀ n, P.regs (Reg.EXC_STAT n)) ∧ P.cal = true ∧ P.regs Reg.FAB_DROP ∧ P.chk = true ∧ (∀ n, P.regs (Reg.FP_UTIL n)) ∧ P.cycles = true ∧ P.regs Reg.HIF_CMD_STAT ∧ P.eff = true ∧ P.regs Reg.MODE_STAT ∧ P.exc = true ∧ P.regs Reg.PACER_STAT ∧ P.fab = true ∧ (∀ n, P.regs (Reg.PCH_CONV_STAT n)) ∧ P.fresh = true ∧ (∀ n, P.regs (Reg.PCH_FLT_STAT n)) ∧ P.mode = true ∧ (∀ n, P.regs (Reg.PCH_FUS_CNT n)) ∧ P.out = true ∧ (∀ n, P.regs (Reg.PCH_OVR_CNT n)) ∧ P.pch = true ∧ (∀ n, P.regs (Reg.PCH_PLAUS_EFF n)) ∧ P.port = true ∧ (∀ n, P.regs (Reg.PCH_PLAUS_TH n)) ∧ P.rate = true ∧ (∀ n, P.regs (Reg.PCH_STAT n)) ∧ P.res = true ∧ P.regs Reg.SAF_CAUSE ∧ P.sinceBase = true ∧ P.regs Reg.SAF_CAUSE_S ∧ P.smon = true ∧ P.regs Reg.SAF_CNT ∧ P.streams = true ∧ P.regs Reg.SAF_STAT ∧ P.time = true ∧ P.regs Reg.SAF_VER0 ∧ P.timeRem = true ∧ P.regs Reg.SAF_VER1 ∧ P.trust = true ∧ P.regs Reg.SAF_W ∧ P.regs Reg.STR_STAT) :
    (((List.range 64).foldl (fun (s : State) n => s.baseChannel raws k n) s.takeEdges).advanceExc).outside P = s.outside P := by
  simp only [State.takeEdges_outside, State.advanceExc_outside, State.baseChannel_outside, State.setReg_outside, State.push_outside, State.outside_ite, State.outside_bif, State.foldl_outside, State.foldl_outside_snd, State.foldl_outside_fst, ite_self, Bool.cond_self, Parts.emits_recs, Parts.emits_classLost, Parts.emits_host, Parts.emits_lost, and_self, and_true, true_and, implies_true, forall_const, hP]

/-- The frame of a base sample. -/
theorem baseSample_sameBut {P : Parts} (s : State) (raws : List RawSample)
    (hP : P.emits ∧ P.bank = true ∧ P.regs Reg.CAL_STAT ∧ P.baseIdx = true ∧ (∀ n, P.regs (Reg.EXC_STAT n)) ∧ P.cal = true ∧ P.regs Reg.FAB_DROP ∧ P.chk = true ∧ (∀ n, P.regs (Reg.FP_UTIL n)) ∧ P.cycles = true ∧ P.regs Reg.HIF_CMD_STAT ∧ P.eff = true ∧ P.regs Reg.MODE_STAT ∧ P.exc = true ∧ P.regs Reg.PACER_STAT ∧ P.fab = true ∧ (∀ n, P.regs (Reg.PCH_CONV_STAT n)) ∧ P.fresh = true ∧ (∀ n, P.regs (Reg.PCH_FLT_STAT n)) ∧ P.mode = true ∧ (∀ n, P.regs (Reg.PCH_FUS_CNT n)) ∧ P.out = true ∧ (∀ n, P.regs (Reg.PCH_OVR_CNT n)) ∧ P.pch = true ∧ (∀ n, P.regs (Reg.PCH_PLAUS_EFF n)) ∧ P.port = true ∧ (∀ n, P.regs (Reg.PCH_PLAUS_TH n)) ∧ P.rate = true ∧ (∀ n, P.regs (Reg.PCH_STAT n)) ∧ P.res = true ∧ P.regs Reg.SAF_CAUSE ∧ P.sinceBase = true ∧ P.regs Reg.SAF_CAUSE_S ∧ P.smon = true ∧ P.regs Reg.SAF_CNT ∧ P.streams = true ∧ P.regs Reg.SAF_STAT ∧ P.time = true ∧ P.regs Reg.SAF_VER0 ∧ P.timeRem = true ∧ P.regs Reg.SAF_VER1 ∧ P.trust = true ∧ P.regs Reg.SAF_W ∧ P.regs Reg.STR_STAT) :
    s.SameBut P (baseSample s raws) := by
  unfold baseSample
  split
  · exact .rfl
  · dsimp only
    have h0 : State.outside P { s.passCycles (64 - s.sinceBase) with sinceBase := 0, baseIdx := s.baseIdx + 1 } = s.outside P := by
      simp only [State.passCycles_outside, State.setReg_outside, State.push_outside, State.outside_ite, State.outside_bif, State.foldl_outside, State.foldl_outside_snd, State.foldl_outside_fst, ite_self, Bool.cond_self, Parts.emits_recs, Parts.emits_classLost, Parts.emits_host, Parts.emits_lost, and_self, and_true, true_and, implies_true, forall_const, State.outside_sinceBase_baseIdx, hP]
    have g0 := State.sameBut_of_outside h0
    generalize { s.passCycles (64 - s.sinceBase) with sinceBase := 0, baseIdx := s.baseIdx + 1 : State } = u at h0 g0 ⊢
    exact g0.trans (State.around_sameBut u _ (by simp only [hP])
      (State.sampleAll_outside _ raws _ (by and_intros <;> first | trivial | exact fun _ => trivial | exact hP.1.1 | exact hP.1.2.1 | exact hP.1.2.2.1 | simp only [hP]))
      (State.sampleAll_outside _ raws _ hP))

/-- The frame of a whole base period. -/
theorem basePeriod_sameBut {P : Parts} (s : State) (raws : List RawSample)
    (hP : P.emits ∧ P.bank = true ∧ P.regs Reg.CAL_STAT ∧ P.baseIdx = true ∧ P.regs Reg.CLK_GATE_OPEN ∧ P.cal = true ∧ P.regs Reg.CLK_HOLD_CNT ∧ P.cells = true ∧ P.regs Reg.CLK_READY ∧ P.chan = true ∧ P.regs Reg.CLK_SRC ∧ P.chk = true ∧ P.regs Reg.CLK_STAT ∧ P.clk = true ∧ (∀ n, P.regs (Reg.CL_STAT n)) ∧ P.clu = true ∧ P.regs Reg.DRC_CATCHUP_CNT ∧ P.cycles = true ∧ P.regs Reg.DRC_SR_TIME ∧ P.drc = true ∧ P.regs Reg.DRC_STAT ∧ P.ecc = true ∧ P.regs Reg.ECC_CE_CNT0 ∧ P.eff = true ∧ P.regs Reg.ECC_CE_CNT1 ∧ P.exc = true ∧ P.regs Reg.ECC_INJ ∧ P.fab = true ∧ P.regs Reg.ECC_LOG_CTRL ∧ P.fresh = true ∧ P.regs Reg.ECC_POISON_CNT ∧ P.mode = true ∧ (∀ n, P.regs (Reg.ECC_REMAP n)) ∧ P.out = true ∧ P.regs Reg.ECC_RMW_CNT ∧ P.pch = true ∧ P.regs Reg.ECC_STAT ∧ P.port = true ∧ P.regs Reg.ECC_UE_CNT ∧ P.rate = true ∧ (∀ n, P.regs (Reg.EXC_STAT n)) ∧ P.res = true ∧ P.regs Reg.FAB_DROP ∧ P.sinceBase = true ∧ P.regs Reg.FAB_STAT ∧ P.smon = true ∧ (∀ n, P.regs (Reg.FP_STAT n)) ∧ P.streams = true ∧ (∀ n, P.regs (Reg.FP_UTIL n)) ∧ P.time = true ∧ P.regs Reg.HIF_CMD_STAT ∧ P.timeRem = true ∧ P.regs Reg.MODE_STAT ∧ P.trust = true ∧ P.regs Reg.PACER_STAT ∧ (∀ n, P.regs (Reg.PCH_CONV_STAT n)) ∧ (∀ n, P.regs (Reg.PCH_FLT_STAT n)) ∧ (∀ n, P.regs (Reg.PCH_FUS_CNT n)) ∧ (∀ n, P.regs (Reg.PCH_OVR_CNT n)) ∧ (∀ n, P.regs (Reg.PCH_PLAUS_EFF n)) ∧ (∀ n, P.regs (Reg.PCH_PLAUS_TH n)) ∧ (∀ n, P.regs (Reg.PCH_STAT n)) ∧ P.regs Reg.SAF_CAUSE ∧ P.regs Reg.SAF_CAUSE_S ∧ P.regs Reg.SAF_CNT ∧ P.regs Reg.SAF_STAT ∧ P.regs Reg.SAF_VER0 ∧ P.regs Reg.SAF_VER1 ∧ P.regs Reg.SAF_W ∧ P.regs Reg.STR_OVR_CNT ∧ P.regs Reg.STR_SEGS ∧ P.regs Reg.STR_STAGE ∧ P.regs Reg.STR_STAT) :
    s.SameBut P (basePeriod s raws) := by
  refine (baseSample_sameBut s raws (by simp only [hP, and_self, implies_true])).trans (State.sameBut_of_outside ?_)
  unfold basePeriod
  simp only [State.keepTalking_outside, State.flushIfDue_outside, State.setReg_outside, State.push_outside, State.outside_ite, State.outside_bif, State.foldl_outside, State.foldl_outside_snd, State.foldl_outside_fst, ite_self, Bool.cond_self, Parts.emits_recs, Parts.emits_classLost, Parts.emits_host, Parts.emits_lost, and_self, and_true, true_and, implies_true, forall_const, hP]

end Sys2Proof.Machine
end

