-- ==== Sys2Proof/Laws/Reset.lean ====
section
/-!
SUPPORT. What the registers hold at reset: the identity registers, and nothing in any reserved field.
-/

set_option Elab.async false
namespace Sys2Proof.Machine

/-- A described register belongs to a unit of its block. -/
theorem descAt_mem {a i : Nat} {d : RegDesc} (h : descAt a = some (d, i)) :
    ∃ b ∈ blocks, d ∈ b.regs ∧ i < b.count := by
  unfold descAt at h
  split at h
  · cases h
  · rename_i b j hb
    simp only [Option.map_eq_some_iff, Prod.mk.injEq] at h
    obtain ⟨r, hr, rfl, rfl⟩ := h
    unfold blockAt at hb
    simp only [Option.map_eq_some_iff, Prod.mk.injEq] at hb
    obtain ⟨c, hc, rfl, rfl⟩ := hb
    have hp := List.find?_some hc
    simp only [Bool.and_eq_true, decide_eq_true_eq] at hp
    refine ⟨c, List.mem_of_find?_eq_some hc, List.mem_of_find?_eq_some hr, Nat.div_lt_of_lt_mul ?_⟩
    omega

/-- No table gives a reserved field a reset value, in any unit of any block. -/
theorem blocks_reserved : (blocks.all fun b => b.regs.all fun d =>
    if d.inst then (List.range b.count).all fun i => BitVec.ofNat 32 (d.reset + i) &&& BitVec.ofNat 32 d.rsv == 0
    else BitVec.ofNat 32 d.reset &&& BitVec.ofNat 32 d.rsv == 0) = true := by decide +kernel

/-- The registers whose reset value no table gives as one number. -/
def specials : List Nat :=
  [Reg.DEV_ID, Reg.DEV_VARIANT, Reg.DEV_PCI_ID, Reg.DEV_CAP0, Reg.DEV_CAP1, Reg.DEV_PCH_MASK0, Reg.DEV_PCH_MASK1, Reg.DEV_UNIT_MASK, Reg.DEV_UNIT_MASK1, Reg.DEV_WM_MASK0,
   Reg.DEV_WM_MASK1, Reg.DEV_WM_MASK2, Reg.CLK_GATE_RUN, Reg.CLK_GATE_SLEEP, Reg.CLK_GATE_DEEP, Reg.FAB_DIE_LO, Reg.FAB_DIE_HI, Reg.ENG_EPC, Reg.ENG_EPW,
   0x40100, 0x40120, 0x40140, 0x40160, 0x40180, 0x401A0]

theorem resetSpecial_none {f : Factory} {a : Nat} (h : a ∉ specials) : resetSpecial f a = none := by
  simp only [specials, List.mem_cons, List.not_mem_nil, or_false, not_or] at h
  obtain ⟨h0, h1, h2, h3, h4, h5, h6, h7, h8, h9, h10, h11, h12, h13, h14, h15, h16, h17, h18, p0, p1, p2, p3, p4, p5⟩ := h
  have hp : ¬(0x40100 ≤ a ∧ a < 0x401C0 ∧ a % 0x20 = 0) := by omega
  rw [resetSpecial]
  split <;> rfl

/-- They keep their reserved fields 0 too. -/
theorem specials_reserved : (specials.all fun a => match resetSpecial Factory.standard a with
    | some n => (descAt a).all fun p => BitVec.ofNat 32 n &&& BitVec.ofNat 32 p.1.rsv == 0
    | none => true) = true := by decide +kernel

theorem State.reset_identityKept : State.reset.identityKept := fun _ _ => rfl

theorem State.reset_reservedZero : State.reset.reservedZero := by
  intro a d i h
  change regReset Factory.standard a &&& _ = 0
  unfold regReset
  split
  · rename_i n hn
    have hm : a ∈ specials := by
      by_contra hc
      rw [resetSpecial_none hc] at hn
      cases hn
    have key := List.all_eq_true.mp specials_reserved a hm
    rw [hn, h] at key
    simpa using key
  · rw [h]
    obtain ⟨b, hb, hd, hi⟩ := descAt_mem h
    have key := List.all_eq_true.mp (List.all_eq_true.mp blocks_reserved b hb) d hd
    split at key
    · rename_i hinst
      simpa [hinst] using List.all_eq_true.mp key i (List.mem_range.mpr hi)
    · rename_i hinst
      simpa [hinst] using key

end Sys2Proof.Machine
end

