-- ==== Sys2Proof/Laws/Rows.lean ====
section
/-!
SUPPORT. The frame of every command: it writes only the parts that `writes` names for it.
-/

set_option Elab.async false
namespace Sys2Proof.Machine

/-- An offset that the choice at place `i` of a list names is named by the list. -/
theorem pick : ∀ (i : Nat) {l : List (Nat → Prop)} {a : Nat}, (l.getD i fun _ => False) a → anyOf l a
  | _, [], _, h => h
  | 0, _ :: _, _, h => .inl h
  | i + 1, _ :: _, _, h => .inr (pick i h)
theorem execPowerOn_frame {s s' : State} (hx : execPowerOn s = .next s') :
    s.SameBut (writes (.powerOn)) s' :=
  State.sameBut_all hx

theorem execColdResetEnd_frame {s s' : State} (hx : execColdResetEnd s = .next s') :
    s.SameBut (writes (.coldResetEnd)) s' :=
  State.sameBut_effect hx (coldResetEnd_outside s ⟨rfl, pick 0 rfl⟩)

theorem execRailBelowCold_frame {s s' : State} (hx : execRailBelowCold s = .next s') :
    s.SameBut (writes (.railBelowCold)) s' :=
  State.sameBut_all hx

theorem execPerstNAssert_frame {s s' : State} (hx : execPerstNAssert s = .next s') :
    s.SameBut (writes (.perstNAssert)) s' :=
  State.sameBut_all hx

theorem execPerstNRelease_frame {s s' : State} (hx : execPerstNRelease s = .next s') :
    s.SameBut (writes (.perstNRelease)) s' :=
  State.sameBut_effect hx (perstNRelease_outside s ⟨rfl, pick 0 rfl⟩)

theorem execSupplyFault_frame {rail : Nat} {mv : Nat} {s s' : State} (hx : execSupplyFault rail mv s = .next s') :
    s.SameBut (writes (.supplyFault rail mv)) s' :=
  State.sameBut_effect hx (supplyFault_outside s rail mv ⟨⟨rfl, rfl, rfl, pick 0 rfl⟩, rfl, pick 1 rfl, rfl, fun n => pick 2 ⟨n, rfl⟩, rfl, pick 3 rfl, rfl, pick 4 rfl, rfl, pick 5 rfl, rfl, pick 6 rfl, rfl, pick 7 rfl, pick 8 rfl, pick 9 rfl, pick 10 rfl⟩)

theorem execReferenceMonitorTrip_frame {mv : Nat} {s s' : State} (hx : execReferenceMonitorTrip mv s = .next s') :
    s.SameBut (writes (.referenceMonitorTrip mv)) s' :=
  State.sameBut_effect hx (referenceMonitorTrip_outside s mv ⟨⟨rfl, rfl, rfl, pick 0 rfl⟩, rfl, pick 1 rfl, rfl, fun n => pick 2 ⟨n, rfl⟩, rfl, pick 3 rfl, rfl, pick 4 rfl, rfl, pick 5 rfl, rfl, pick 6 rfl, rfl, pick 7 rfl, rfl, pick 8 rfl, pick 9 rfl, pick 10 rfl⟩)

theorem execCauseClearTimer_frame {cause : Nat} {s s' : State} (hx : execCauseClearTimer cause s = .next s') :
    s.SameBut (writes (.causeClearTimer cause)) s' :=
  State.sameBut_effect hx (causeClearTimer_outside s cause ⟨rfl, pick 0 rfl, pick 1 rfl⟩)

theorem execSmonLockstepMismatch_frame {s s' : State} (hx : execSmonLockstepMismatch s = .next s') :
    s.SameBut (writes (.smonLockstepMismatch)) s' :=
  State.sameBut_effect hx (smonLockstepMismatch_outside s ⟨⟨rfl, rfl, rfl, pick 0 rfl⟩, rfl, pick 1 rfl, rfl, fun n => pick 2 ⟨n, rfl⟩, rfl, pick 3 rfl, rfl, pick 4 rfl, rfl, pick 5 rfl, rfl, fun n => pick 6 ⟨n, rfl⟩, rfl, pick 7 rfl, pick 8 rfl, pick 9 rfl, pick 10 rfl⟩)

theorem execOutputFault_frame {ball : Nat} {level : Bool} {s s' : State} (hx : execOutputFault ball level s = .next s') :
    s.SameBut (writes (.outputFault ball level)) s' :=
  State.sameBut_effect hx (outputFault_outside s ball level ⟨⟨rfl, rfl, rfl, pick 0 rfl⟩, rfl, pick 1 rfl, rfl, fun n => pick 2 ⟨n, rfl⟩, rfl, pick 3 rfl, rfl, pick 4 rfl, rfl, pick 5 rfl, rfl, fun n => pick 6 ⟨n, rfl⟩, rfl, pick 7 rfl, pick 8 rfl, pick 9 rfl, pick 10 rfl⟩)

theorem execAlarmEvaluate_frame {s s' : State} (hx : execAlarmEvaluate s = .next s') :
    s.SameBut (writes (.alarmEvaluate)) s' :=
  State.sameBut_effect hx (alarmEvaluate_outside s ⟨⟨rfl, rfl, rfl, pick 0 rfl⟩, rfl, fun n => pick 1 ⟨n, rfl⟩, pick 2 rfl⟩)

theorem execAlarmHoldExpiry_frame {output : Nat} {trig : Nat} {s s' : State} (hx : execAlarmHoldExpiry output trig s = .next s') :
    s.SameBut (writes (.alarmHoldExpiry output trig)) s' :=
  State.sameBut_effect hx (alarmHoldExpiry_outside s output trig ⟨⟨rfl, rfl, rfl, pick 0 rfl⟩, rfl, fun n => pick 1 ⟨n, rfl⟩, rfl, pick 2 rfl⟩)

theorem execSafAlmAck_frame {n : Nat} {s s' : State} (hx : execSafAlmAck n s = .next s') :
    s.SameBut (writes (.safAlmAck n)) s' :=
  State.sameBut_effect hx (State.whenOpen_outside (safAlmAck_outside s n ⟨⟨rfl, rfl, rfl, pick 0 rfl⟩, rfl, fun n => pick 1 ⟨n, rfl⟩, pick 2 rfl⟩))

theorem execSafAlmCfgWrite_frame {n : Nat} {i : Nat} {v : Word} {s s' : State} (hx : execSafAlmCfgWrite n i v s = .next s') :
    s.SameBut (writes (.safAlmCfgWrite n i v)) s' :=
  State.sameBut_effect hx (State.whenOpen_outside (safAlmCfgWrite_outside s n i v ⟨⟨rfl, rfl, rfl, pick 0 rfl⟩, rfl, pick 1 rfl, rfl, fun n => pick 2 ⟨n, rfl⟩, rfl, pick 3 rfl, rfl, pick 4 rfl, rfl, pick 5 rfl, rfl, pick 6 rfl, rfl, pick 7 rfl, rfl, pick 8 rfl, pick 9 rfl, pick 10 rfl, pick 11 rfl, pick 12 rfl, pick 13 rfl, pick 14 rfl, fun n m => pick 15 ⟨n, m, rfl⟩⟩))

theorem execSafForceSafe_frame {s s' : State} (hx : execSafForceSafe s = .next s') :
    s.SameBut (writes (.safForceSafe)) s' :=
  State.sameBut_effect hx (State.whenOpen_outside (safForceSafe_outside s ⟨⟨rfl, rfl, rfl, pick 0 rfl⟩, rfl, pick 1 rfl, rfl, fun n => pick 2 ⟨n, rfl⟩, rfl, pick 3 rfl, rfl, pick 4 rfl, rfl, pick 5 rfl, rfl, pick 6 rfl, rfl, pick 7 rfl, pick 8 rfl, pick 9 rfl⟩))

theorem execSafForceAlm_frame {v : Nat} {s s' : State} (hx : execSafForceAlm v s = .next s') :
    s.SameBut (writes (.safForceAlm v)) s' :=
  State.sameBut_effect hx (State.whenOpen_outside (safForceAlm_outside s v ⟨pick 0 rfl, pick 1 rfl⟩))

theorem execBootReferenceAcquired_frame {src : Nat} {s s' : State} (hx : execBootReferenceAcquired src s = .next s') :
    s.SameBut (writes (.bootReferenceAcquired src)) s' :=
  State.sameBut_effect hx (bootReferenceAcquired_outside s src ⟨pick 0 rfl, pick 1 rfl, pick 2 rfl, pick 3 rfl, pick 4 rfl, fun n => pick 5 ⟨n, rfl⟩⟩)

theorem execBootSelfTests_frame {march : Nat} {chk : Bool} {dram : DramTests} {s s' : State} (hx : execBootSelfTests march chk dram s = .next s') :
    s.SameBut (writes (.bootSelfTests march chk dram)) s' :=
  State.sameBut_effect hx (bootSelfTests_outside s march chk dram ⟨⟨rfl, rfl, rfl, pick 2 rfl⟩, rfl, pick 0 rfl, rfl, pick 1 rfl, rfl, pick 3 rfl, rfl, pick 4 rfl, rfl, pick 5 rfl, rfl, pick 6 rfl, rfl, fun n => pick 7 ⟨n, rfl⟩, rfl, pick 8 rfl, rfl, pick 9 rfl, rfl, fun n => pick 10 ⟨n, rfl⟩, rfl, pick 11 rfl, rfl, pick 12 rfl, pick 13 rfl, pick 14 rfl, pick 15 rfl, pick 16 rfl, pick 17 rfl⟩)

theorem execImageValidation_frame {slotB : Bool} {found : Word} {readable : Bool} {bytes : List (BitVec 8)} {s s' : State} (hx : execImageValidation slotB found readable bytes s = .next s') :
    s.SameBut (writes (.imageValidation slotB found readable bytes)) s' :=
  State.sameBut_effect hx (imageValidation_outside s slotB found readable bytes ⟨⟨rfl, rfl, rfl, pick 5 rfl⟩, rfl, pick 0 rfl, rfl, pick 1 rfl, rfl, pick 2 rfl, pick 3 rfl, pick 4 rfl, pick 6 rfl, fun n => pick 7 ⟨n, rfl⟩⟩)

theorem execFwStartTimeout_frame {s s' : State} (hx : execFwStartTimeout s = .next s') :
    s.SameBut (writes (.fwStartTimeout)) s' :=
  State.sameBut_effect hx (fwStartTimeout_outside s ⟨⟨rfl, rfl, rfl, pick 4 rfl⟩, rfl, pick 0 rfl, rfl, pick 1 rfl, rfl, pick 2 rfl, pick 3 rfl, pick 5 rfl, fun n => pick 6 ⟨n, rfl⟩⟩)

theorem execSemanticValidation_frame {graphId : Word} {graph : List NodeDef} {s s' : State} (hx : execSemanticValidation graphId graph s = .next s') :
    s.SameBut (writes (.semanticValidation graphId graph)) s' :=
  State.sameBut_all hx

theorem execBootDone_frame {s s' : State} (hx : execBootDone s = .next s') :
    s.SameBut (writes (.bootDone)) s' :=
  State.sameBut_effect hx (bootDone_outside s ⟨⟨rfl, rfl, rfl, pick 6 rfl⟩, rfl, pick 0 rfl, rfl, pick 1 rfl, rfl, pick 2 rfl, rfl, fun n m => pick 3 ⟨n, m, rfl⟩, rfl, pick 4 rfl, rfl, fun n => pick 5 ⟨n, rfl⟩, rfl, pick 7 rfl, rfl, pick 8 rfl, rfl, pick 9 rfl, rfl, pick 10 rfl, rfl, pick 11 rfl, rfl, pick 12 rfl, rfl, pick 13 rfl, rfl, fun n => pick 14 ⟨n, rfl⟩, rfl, fun n => pick 15 ⟨n, rfl⟩, rfl, fun n => pick 16 ⟨n, rfl⟩, rfl, pick 17 rfl, rfl, pick 18 rfl, rfl, pick 19 rfl, rfl, pick 20 rfl, rfl, pick 21 rfl, rfl, pick 22 rfl, rfl, pick 23 rfl, rfl, pick 24 rfl, rfl, fun n => pick 25 ⟨n, rfl⟩, rfl, fun n => pick 26 ⟨n, rfl⟩, rfl, pick 27 rfl, rfl, pick 28 rfl, rfl, pick 29 rfl, rfl, pick 30 rfl, rfl, pick 31 rfl, rfl, pick 32 rfl, rfl, pick 33 rfl, rfl, pick 34 rfl, rfl, pick 35 rfl, pick 36 rfl, fun n => pick 37 ⟨n, rfl⟩⟩)

theorem execBootRetry_frame {s s' : State} (hx : execBootRetry s = .next s') :
    s.SameBut (writes (.bootRetry)) s' :=
  State.sameBut_all hx

theorem execFlReleaseWrite_frame {v : Bool} {s s' : State} (hx : execFlReleaseWrite v s = .next s') :
    s.SameBut (writes (.flReleaseWrite v)) s' :=
  State.sameBut_effect hx (flReleaseWrite_outside s v (pick 0 rfl))

theorem execMcWdogKick_frame {who : Reader} {s s' : State} (hx : execMcWdogKick who s = .next s') :
    s.SameBut (writes (.mcWdogKick who)) s' :=
  State.sameBut_effect hx (mcWdogKick_outside s who rfl)

theorem execMcWatchdogExpiry_frame {sram : Bool} {s s' : State} (hx : execMcWatchdogExpiry sram s = .next s') :
    s.SameBut (writes (.mcWatchdogExpiry sram)) s' :=
  State.sameBut_effect hx (mcWatchdogExpiry_outside s sram ⟨⟨rfl, rfl, rfl, pick 0 rfl⟩, rfl, pick 1 rfl, rfl, fun n => pick 2 ⟨n, rfl⟩, rfl, pick 3 rfl, rfl, pick 4 rfl, rfl, pick 5 rfl, rfl, pick 6 rfl, rfl, pick 7 rfl, rfl, pick 8 rfl, pick 9 rfl, pick 10 rfl⟩)

theorem execMcRestart_frame {s s' : State} (hx : execMcRestart s = .next s') :
    s.SameBut (writes (.mcRestart)) s' :=
  State.sameBut_effect hx (mcRestart_outside s ⟨⟨rfl, rfl, rfl, pick 2 rfl⟩, rfl, fun n => pick 0 ⟨n, rfl⟩, rfl, pick 1 rfl, rfl, pick 3 rfl, rfl, fun n => pick 4 ⟨n, rfl⟩, rfl, pick 5 rfl, rfl, pick 6 rfl, rfl, rfl, rfl⟩)

theorem execMcSaturated_frame {load : Nat} {s s' : State} (hx : execMcSaturated load s = .next s') :
    s.SameBut (writes (.mcSaturated load)) s' :=
  State.sameBut_effect hx (mcSaturated_outside s load ⟨⟨rfl, rfl, rfl, pick 0 rfl⟩, pick 1 rfl⟩)

theorem execMcSatClear_frame {load : Nat} {s s' : State} (hx : execMcSatClear load s = .next s') :
    s.SameBut (writes (.mcSatClear load)) s' :=
  State.sameBut_effect hx (mcSatClear_outside s load (pick 0 rfl))

theorem execCmdDoorbell_frame {tail : Nat} {s s' : State} (hx : execCmdDoorbell tail s = .next s') :
    s.SameBut (writes (.cmdDoorbell tail)) s' :=
  State.sameBut_effect hx (State.whenOpen_outside (cmdDoorbell_outside s tail ⟨⟨rfl, rfl, rfl, pick 7 rfl⟩, rfl, pick 0 rfl, rfl, pick 1 rfl, rfl, pick 2 rfl, rfl, pick 3 rfl, rfl, fun n => pick 4 ⟨n, rfl⟩, rfl, pick 5 rfl, rfl, pick 6 rfl, rfl, pick 8 rfl, rfl, pick 9 rfl, rfl, pick 10 rfl, rfl, pick 11 rfl, pick 12 rfl, pick 13 rfl, pick 14 rfl, pick 15 rfl, fun n => pick 16 ⟨n, rfl⟩, pick 17 rfl, pick 18 rfl, pick 19 rfl, fun n => pick 20 ⟨n, rfl⟩, pick 21 rfl, pick 22 rfl, pick 23 rfl⟩))

theorem execDescriptorFetch_frame {bytes : BitVec 256} {poisoned : Bool} {s s' : State} (hx : execDescriptorFetch bytes poisoned s = .next s') :
    s.SameBut (writes (.descriptorFetch bytes poisoned)) s' :=
  State.sameBut_effect hx (descriptorFetch_outside s bytes poisoned ⟨rfl, pick 0 rfl, rfl, fun n => pick 1 ⟨n, rfl⟩, rfl, pick 2 rfl, rfl, pick 3 rfl⟩)

theorem execModeSet_frame {src : CmdSrc} {tag : Nat} {target : Nat} {s s' : State} (hx : execModeSet src tag target s = .next s') :
    s.SameBut (writes (.modeSet src tag target)) s' :=
  State.sameBut_effect hx (modeSet_outside s src tag target ⟨rfl, pick 0 rfl, rfl, fun n => pick 1 ⟨n, rfl⟩, rfl, pick 2 rfl, rfl, pick 3 rfl, rfl, pick 4 rfl, rfl⟩)

theorem execSafeExit_frame {src : CmdSrc} {tag : Nat} {target : Nat} {s s' : State} (hx : execSafeExit src tag target s = .next s') :
    s.SameBut (writes (.safeExit src tag target)) s' :=
  State.sameBut_effect hx (safeExit_outside s src tag target ⟨rfl, pick 0 rfl, rfl, fun n => pick 1 ⟨n, rfl⟩, rfl, pick 2 rfl, rfl, pick 3 rfl, rfl, pick 4 rfl, rfl⟩)

theorem execReload_frame {src : CmdSrc} {tag : Nat} {s s' : State} (hx : execReload src tag s = .next s') :
    s.SameBut (writes (.reload src tag)) s' :=
  State.sameBut_all hx

theorem execParamSet_frame {src : CmdSrc} {tag : Nat} {node : Nat} {word : Nat} {mask : Word} {value : Word} {s s' : State} (hx : execParamSet src tag node word mask value s = .next s') :
    s.SameBut (writes (.paramSet src tag node word mask value)) s' :=
  State.sameBut_effect hx (paramSet_outside s src tag node word mask value ⟨rfl, fun n => pick 0 ⟨n, rfl⟩, rfl, fun n => pick 1 ⟨n, rfl⟩, rfl, fun n => pick 2 ⟨n, rfl⟩, rfl, fun n => pick 3 ⟨n, rfl⟩, rfl, fun n => pick 4 ⟨n, rfl⟩, rfl, pick 5 rfl, pick 6 rfl, fun n => pick 7 ⟨n, rfl⟩, pick 8 rfl⟩)

theorem execRegRead_frame {src : CmdSrc} {tag : Nat} {target : Nat} {size : Nat} {off : Nat} {s s' : State} (hx : execRegRead src tag target size off s = .next s') :
    s.SameBut (writes (.regRead src tag target size off)) s' :=
  State.sameBut_effect hx (regRead_outside s src tag target size off (by and_intros <;> first | rfl | trivial | exact ⟨rfl, rfl, rfl, trivial⟩ | exact fun _ => trivial))

theorem execRegWrite_frame {src : CmdSrc} {tag : Nat} {target : Nat} {size : Nat} {off : Nat} {data : Nat} {s s' : State} (hx : execRegWrite src tag target size off data s = .next s') :
    s.SameBut (writes (.regWrite src tag target size off data)) s' :=
  State.sameBut_all hx

theorem execStreamOpen_frame {src : CmdSrc} {tag : Nat} {p : OpenParams} {s s' : State} (hx : execStreamOpen src tag p s = .next s') :
    s.SameBut (writes (.streamOpen src tag p)) s' :=
  State.sameBut_effect hx (streamOpen_outside s src tag p ⟨rfl, pick 0 rfl, rfl, fun n => pick 1 ⟨n, rfl⟩, rfl, pick 2 rfl, rfl, pick 3 rfl, rfl, pick 4 rfl, rfl, pick 5 rfl⟩)

theorem execStreamClose_frame {src : CmdSrc} {tag : Nat} {sid : Nat} {s s' : State} (hx : execStreamClose src tag sid s = .next s') :
    s.SameBut (writes (.streamClose src tag sid)) s' :=
  State.sameBut_effect hx (streamClose_outside s src tag sid ⟨⟨rfl, rfl, rfl, pick 4 rfl⟩, rfl, pick 0 rfl, rfl, pick 1 rfl, rfl, pick 2 rfl, rfl, pick 3 rfl, rfl, pick 5 rfl, rfl, fun n => pick 6 ⟨n, rfl⟩, rfl, pick 7 rfl, rfl, pick 8 rfl, rfl, pick 9 rfl, fun n => pick 10 ⟨n, rfl⟩, fun n => pick 11 ⟨n, rfl⟩, pick 12 rfl, pick 13 rfl, pick 14 rfl, pick 15 rfl, pick 16 rfl⟩)

theorem execCapture_frame {src : CmdSrc} {tag : Nat} {p : CaptureParams} {s s' : State} (hx : execCapture src tag p s = .next s') :
    s.SameBut (writes (.capture src tag p)) s' :=
  State.sameBut_effect hx (capture_outside s src tag p ⟨⟨rfl, rfl, rfl, pick 0 rfl⟩, rfl, pick 1 rfl, rfl, fun n => pick 2 ⟨n, rfl⟩, rfl, pick 3 rfl, rfl, fun n => pick 4 ⟨n, rfl⟩, rfl, pick 5 rfl, pick 6 rfl, pick 7 rfl⟩)

theorem execSnapshotArm_frame {src : CmdSrc} {tag : Nat} {t : Time} {id : Nat} {all : Bool} {s s' : State} (hx : execSnapshotArm src tag t id all s = .next s') :
    s.SameBut (writes (.snapshotArm src tag t id all)) s' :=
  State.sameBut_effect hx (snapshotArm_outside s src tag t id all ⟨⟨rfl, rfl, rfl, pick 0 rfl⟩, rfl, pick 1 rfl, rfl, fun n => pick 2 ⟨n, rfl⟩, rfl, pick 3 rfl, rfl, pick 4 rfl, rfl, pick 5 rfl, rfl, pick 6 rfl, pick 7 rfl⟩)

theorem execChkConvert_frame {src : CmdSrc} {tag : Nat} {bank : Nat} {point : Nat} {window : Nat} {urgent : Bool} {s s' : State} (hx : execChkConvert src tag bank point window urgent s = .next s') :
    s.SameBut (writes (.chkConvert src tag bank point window urgent)) s' :=
  State.sameBut_effect hx (chkConvert_outside s src tag bank point window urgent ⟨rfl, fun n => pick 0 ⟨n, rfl⟩, rfl, fun n => pick 1 ⟨n, rfl⟩, rfl, pick 2 rfl, rfl, fun n => pick 3 ⟨n, rfl⟩, rfl, pick 4 rfl, rfl⟩)

theorem execCalSystemZero_frame {src : CmdSrc} {tag : Nat} {ch : Nat} {n : Nat} {s s' : State} (hx : execCalSystemZero src tag ch n s = .next s') :
    s.SameBut (writes (.calSystemZero src tag ch n)) s' :=
  State.sameBut_effect hx (calSystemZero_outside s src tag ch n ⟨rfl, pick 0 rfl, rfl, pick 1 rfl, rfl, fun n => pick 2 ⟨n, rfl⟩, rfl, pick 3 rfl, rfl, rfl⟩)

theorem execCalSystemFull_frame {src : CmdSrc} {tag : Nat} {ch : Nat} {n : Nat} {t : Int} {s s' : State} (hx : execCalSystemFull src tag ch n t s = .next s') :
    s.SameBut (writes (.calSystemFull src tag ch n t)) s' :=
  State.sameBut_effect hx (calSystemFull_outside s src tag ch n t ⟨rfl, pick 0 rfl, rfl, pick 1 rfl, rfl, fun n => pick 2 ⟨n, rfl⟩, rfl, pick 3 rfl, rfl, rfl⟩)

theorem execCalCommit_frame {src : CmdSrc} {tag : Nat} {s s' : State} (hx : execCalCommit src tag s = .next s') :
    s.SameBut (writes (.calCommit src tag)) s' :=
  State.sameBut_effect hx (calCommit_outside s src tag ⟨rfl, pick 0 rfl, rfl, pick 1 rfl, rfl, fun n => pick 2 ⟨n, rfl⟩, rfl, pick 3 rfl, rfl, rfl⟩)

theorem execCompletion_frame {s s' : State} (hx : execCompletion s = .next s') :
    s.SameBut (writes (.completion)) s' :=
  State.sameBut_all hx

theorem execOnDemandSlotDone_frame {bank : Nat} {r : BitVec 32} {overload : Bool} {ow : OpenBalls} {s s' : State} (hx : execOnDemandSlotDone bank r overload ow s = .next s') :
    s.SameBut (writes (.onDemandSlotDone bank r overload ow)) s' :=
  State.sameBut_effect hx (onDemandSlotDone_outside s bank r overload ow ⟨⟨rfl, rfl, rfl, pick 11 rfl⟩, rfl, fun n => pick 0 ⟨n, rfl⟩, rfl, fun n => pick 1 ⟨n, rfl⟩, rfl, fun n => pick 2 ⟨n, rfl⟩, rfl, fun n => pick 3 ⟨n, rfl⟩, rfl, pick 4 rfl, rfl, fun n m => pick 5 ⟨n, m, rfl⟩, rfl, fun n m => pick 6 ⟨n, m, rfl⟩, rfl, fun n m => pick 7 ⟨n, m, rfl⟩, rfl, fun n m => pick 8 ⟨n, m, rfl⟩, rfl, fun n m => pick 9 ⟨n, m, rfl⟩, fun n m => pick 10 ⟨n, m, rfl⟩, pick 12 rfl, fun n => pick 13 ⟨n, rfl⟩, pick 14 rfl, pick 15 rfl, pick 16 rfl, fun n => pick 17 ⟨n, rfl⟩, pick 18 rfl, pick 19 rfl, pick 20 rfl, pick 21 rfl, pick 22 rfl, pick 23 rfl, pick 24 rfl, fun n m => pick 25 ⟨n, m, rfl⟩⟩)

theorem execCalMeasureDone_frame {bank : Nat} {s s' : State} (hx : execCalMeasureDone bank s = .next s') :
    s.SameBut (writes (.calMeasureDone bank)) s' :=
  State.sameBut_effect hx (calMeasureDone_outside s bank ⟨rfl, pick 0 rfl, rfl, pick 1 rfl, rfl, fun n => pick 2 ⟨n, rfl⟩, rfl, pick 3 rfl, rfl, rfl⟩)

theorem execCalApplied_frame {bank : Nat} {s s' : State} (hx : execCalApplied bank s = .next s') :
    s.SameBut (writes (.calApplied bank)) s' :=
  State.sameBut_effect hx (calApplied_outside s bank ⟨⟨rfl, rfl, rfl, pick 1 rfl⟩, rfl, pick 0 rfl, rfl, pick 2 rfl, rfl, fun n => pick 3 ⟨n, rfl⟩, rfl, pick 4 rfl, rfl, pick 5 rfl, rfl, pick 6 rfl, rfl, fun n => pick 7 ⟨n, rfl⟩, rfl, fun n => pick 8 ⟨n, rfl⟩, rfl, fun n => pick 9 ⟨n, rfl⟩, rfl, pick 10 rfl, rfl, pick 11 rfl, rfl, pick 12 rfl, rfl, pick 13 rfl, rfl, pick 14 rfl, pick 15 rfl, pick 16 rfl⟩)

theorem execCalCommitDone_frame {end_ : CommitEnd} {s s' : State} (hx : execCalCommitDone end_ s = .next s') :
    s.SameBut (writes (.calCommitDone end_)) s' :=
  State.sameBut_effect hx (calCommitDone_outside s end_ ⟨⟨rfl, rfl, rfl, pick 1 rfl⟩, rfl, pick 0 rfl, rfl, pick 2 rfl, rfl, fun n => pick 3 ⟨n, rfl⟩, rfl, pick 4 rfl, rfl, rfl, rfl⟩)

theorem execCalEntryReload_frame {key : Nat} {readable : Bool} {s s' : State} (hx : execCalEntryReload key readable s = .next s') :
    s.SameBut (writes (.calEntryReload key readable)) s' :=
  State.sameBut_effect hx (calEntryReload_outside s key readable ⟨⟨rfl, rfl, rfl, pick 1 rfl⟩, rfl, pick 0 rfl, rfl, pick 2 rfl, rfl, fun n => pick 3 ⟨n, rfl⟩, rfl, pick 4 rfl, rfl, pick 5 rfl, rfl, pick 6 rfl, rfl, pick 7 rfl, rfl, pick 8 rfl, rfl, pick 9 rfl, pick 10 rfl, pick 11 rfl, pick 12 rfl, pick 13 rfl⟩)

theorem execModeChangeInstant_frame {s s' : State} (hx : execModeChangeInstant s = .next s') :
    s.SameBut (writes (.modeChangeInstant)) s' :=
  State.sameBut_effect hx (modeChangeInstant_outside s ⟨⟨rfl, rfl, rfl, pick 10 rfl⟩, rfl, pick 0 rfl, rfl, pick 1 rfl, rfl, pick 2 rfl, rfl, pick 3 rfl, rfl, pick 4 rfl, rfl, pick 5 rfl, rfl, fun n => pick 6 ⟨n, rfl⟩, rfl, pick 7 rfl, rfl, pick 8 rfl, rfl, pick 9 rfl, rfl, pick 11 rfl, rfl, pick 12 rfl, rfl, pick 13 rfl, rfl, pick 14 rfl, rfl, pick 15 rfl, rfl, pick 16 rfl, rfl, pick 17 rfl, rfl, pick 18 rfl, rfl, pick 19 rfl, pick 20 rfl, fun n => pick 21 ⟨n, rfl⟩, pick 22 rfl, pick 23 rfl, pick 24 rfl, pick 25 rfl, pick 26 rfl, pick 27 rfl, fun n => pick 28 ⟨n, rfl⟩, fun n => pick 29 ⟨n, rfl⟩, pick 30 rfl, pick 31 rfl, pick 32 rfl, fun n => pick 33 ⟨n, rfl⟩, fun n => pick 34 ⟨n, rfl⟩, fun n => pick 35 ⟨n, rfl⟩, fun n => pick 36 ⟨n, rfl⟩, pick 37 rfl, pick 38 rfl, pick 39 rfl, pick 40 rfl, pick 41 rfl, pick 42 rfl, pick 43 rfl, pick 44 rfl, pick 45 rfl, pick 46 rfl, pick 47 rfl, pick 48 rfl, fun n => pick 49 ⟨n, rfl⟩, fun n => pick 50 ⟨n, rfl⟩⟩)

theorem execModeChange_frame {s s' : State} (hx : execModeChange s = .next s') :
    s.SameBut (writes (.modeChange)) s' :=
  State.sameBut_effect hx (modeChange_outside s ⟨⟨rfl, rfl, rfl, pick 4 rfl⟩, rfl, pick 0 rfl, rfl, pick 1 rfl, rfl, pick 2 rfl, rfl, fun n => pick 3 ⟨n, rfl⟩, rfl, pick 5 rfl, rfl, pick 6 rfl, rfl, pick 7 rfl, rfl, pick 8 rfl, rfl, pick 9 rfl, rfl, pick 10 rfl, rfl, pick 11 rfl, rfl, fun n => pick 12 ⟨n, rfl⟩, pick 13 rfl, pick 14 rfl, pick 15 rfl, pick 16 rfl, fun n => pick 17 ⟨n, rfl⟩, fun n => pick 18 ⟨n, rfl⟩, pick 19 rfl, pick 20 rfl, pick 21 rfl, pick 22 rfl⟩)

theorem execModeTimerOn_frame {s s' : State} (hx : execModeTimerOn s = .next s') :
    s.SameBut (writes (.modeTimerOn)) s' :=
  State.sameBut_effect hx (modeTimerOn_outside s ⟨⟨rfl, rfl, rfl, pick 0 rfl⟩, rfl, fun n => pick 1 ⟨n, rfl⟩, rfl, pick 2 rfl, rfl, fun n => pick 3 ⟨n, rfl⟩, rfl, pick 4 rfl, rfl, pick 5 rfl, rfl, pick 6 rfl, rfl, pick 7 rfl, rfl, pick 8 rfl, rfl, pick 9 rfl, rfl⟩)

theorem execSurveyIdleExpiry_frame {s s' : State} (hx : execSurveyIdleExpiry s = .next s') :
    s.SameBut (writes (.surveyIdleExpiry)) s' :=
  State.sameBut_effect hx (surveyIdleExpiry_outside s ⟨rfl, pick 0 rfl⟩)

theorem execBurstHoldExpiry_frame {s s' : State} (hx : execBurstHoldExpiry s = .next s') :
    s.SameBut (writes (.burstHoldExpiry)) s' :=
  State.sameBut_effect hx (burstHoldExpiry_outside s ⟨rfl, pick 0 rfl⟩)

theorem execBurstExhausted_frame {s s' : State} (hx : execBurstExhausted s = .next s') :
    s.SameBut (writes (.burstExhausted)) s' :=
  State.sameBut_effect hx (burstExhausted_outside s ⟨⟨rfl, rfl, rfl, pick 0 rfl⟩, rfl, pick 1 rfl, rfl, pick 2 rfl⟩)

theorem execThermalCeil_frame {tj : BitVec 16} {s s' : State} (hx : execThermalCeil tj s = .next s') :
    s.SameBut (writes (.thermalCeil tj)) s' :=
  State.sameBut_effect hx (thermalCeil_outside s tj ⟨⟨rfl, rfl, rfl, pick 0 rfl⟩, rfl, pick 1 rfl, rfl, pick 2 rfl, rfl, pick 3 rfl, pick 4 rfl, pick 5 rfl, pick 6 rfl, pick 7 rfl⟩)

theorem execThermalEmergency_frame {tj : BitVec 16} {s s' : State} (hx : execThermalEmergency tj s = .next s') :
    s.SameBut (writes (.thermalEmergency tj)) s' :=
  State.sameBut_effect hx (thermalEmergency_outside s tj ⟨⟨rfl, rfl, rfl, pick 2 rfl⟩, rfl, fun n => pick 0 ⟨n, rfl⟩, rfl, fun n => pick 1 ⟨n, rfl⟩, rfl, pick 3 rfl, rfl, fun n => pick 4 ⟨n, rfl⟩, rfl, pick 5 rfl, rfl, pick 6 rfl, rfl, pick 7 rfl, rfl, pick 8 rfl, rfl, pick 9 rfl, pick 10 rfl, pick 11 rfl⟩)

theorem execWakeGatePass_frame {s s' : State} (hx : execWakeGatePass s = .next s') :
    s.SameBut (writes (.wakeGatePass)) s' :=
  State.sameBut_effect hx (wakeGatePass_outside s ⟨⟨rfl, rfl, rfl, pick 0 rfl⟩, rfl, pick 1 rfl, rfl, pick 2 rfl⟩)

theorem execPowerStateSleep_frame {s s' : State} (hx : execPowerStateSleep s = .next s') :
    s.SameBut (writes (.powerStateSleep)) s' :=
  State.sameBut_effect hx (powerStateSleep_outside s ⟨rfl, pick 0 rfl, rfl, pick 1 rfl, rfl, pick 2 rfl, rfl, fun n => pick 3 ⟨n, rfl⟩, rfl, pick 4 rfl⟩)

theorem execDeepEntry_frame {s s' : State} (hx : execDeepEntry s = .next s') :
    s.SameBut (writes (.deepEntry)) s' :=
  State.sameBut_effect hx (deepEntry_outside s ⟨rfl, pick 0 rfl, rfl, pick 1 rfl, rfl, pick 2 rfl, rfl, fun n => pick 3 ⟨n, rfl⟩, rfl, fun n => pick 4 ⟨n, rfl⟩, pick 5 rfl⟩)

theorem execRunBurstStart_frame {s s' : State} (hx : execRunBurstStart s = .next s') :
    s.SameBut (writes (.runBurstStart)) s' :=
  State.sameBut_effect hx (runBurstStart_outside s ⟨⟨rfl, rfl, rfl, pick 4 rfl⟩, rfl, pick 0 rfl, rfl, pick 1 rfl, rfl, pick 2 rfl, rfl, fun n => pick 3 ⟨n, rfl⟩, rfl, pick 5 rfl, rfl, pick 6 rfl, rfl, pick 7 rfl, rfl, pick 8 rfl, rfl, pick 9 rfl, rfl, pick 10 rfl, rfl, pick 11 rfl, pick 12 rfl, fun n => pick 13 ⟨n, rfl⟩, pick 14 rfl, pick 15 rfl, pick 16 rfl, fun n => pick 17 ⟨n, rfl⟩, pick 18 rfl⟩)

theorem execGateTimeout_frame {gate : Nat} {s s' : State} (hx : execGateTimeout gate s = .next s') :
    s.SameBut (writes (.gateTimeout gate)) s' :=
  State.sameBut_effect hx (gateTimeout_outside s gate ⟨⟨rfl, rfl, rfl, pick 4 rfl⟩, rfl, pick 0 rfl, rfl, pick 1 rfl, rfl, pick 2 rfl, rfl, pick 3 rfl, rfl, fun n => pick 5 ⟨n, rfl⟩, rfl, pick 6 rfl⟩)

theorem execDeepEntryRetry_frame {s s' : State} (hx : execDeepEntryRetry s = .next s') :
    s.SameBut (writes (.deepEntryRetry)) s' :=
  State.sameBut_effect hx (deepEntryRetry_outside s ⟨rfl, pick 0 rfl, rfl, pick 1 rfl, rfl, pick 2 rfl, rfl, fun n => pick 3 ⟨n, rfl⟩, rfl, fun n => pick 4 ⟨n, rfl⟩, pick 5 rfl⟩)

theorem execGatedAccess_frame {gate : Nat} {s s' : State} (hx : execGatedAccess gate s = .next s') :
    s.SameBut (writes (.gatedAccess gate)) s' :=
  State.sameBut_effect hx (gatedAccess_outside s gate ⟨⟨rfl, rfl, rfl, pick 5 rfl⟩, rfl, pick 0 rfl, rfl, pick 1 rfl, rfl, pick 2 rfl, rfl, pick 3 rfl, rfl, fun n => pick 4 ⟨n, rfl⟩, rfl, pick 6 rfl, rfl, pick 7 rfl, rfl, pick 8 rfl, rfl, pick 9 rfl, rfl, pick 10 rfl, rfl, pick 11 rfl, pick 12 rfl, pick 13 rfl, fun n => pick 14 ⟨n, rfl⟩, pick 15 rfl, pick 16 rfl, pick 17 rfl, fun n => pick 18 ⟨n, rfl⟩, pick 19 rfl⟩)

theorem execPacerEvaluate_frame {energy : List Nat} {tj : BitVec 16} {s s' : State} (hx : execPacerEvaluate energy tj s = .next s') :
    s.SameBut (writes (.pacerEvaluate energy tj)) s' :=
  State.sameBut_effect hx (pacerEvaluate_outside s energy tj ⟨⟨rfl, rfl, rfl, pick 2 rfl⟩, rfl, fun n => pick 0 ⟨n, rfl⟩, rfl, fun n => pick 1 ⟨n, rfl⟩, rfl, pick 3 rfl, rfl, fun n => pick 4 ⟨n, rfl⟩, rfl, pick 5 rfl, rfl, pick 6 rfl, rfl, pick 7 rfl, rfl, pick 8 rfl, rfl, fun n => pick 9 ⟨n, rfl⟩, rfl, pick 10 rfl, pick 11 rfl, pick 12 rfl, pick 13 rfl, pick 14 rfl, pick 15 rfl, pick 16 rfl, pick 17 rfl⟩)

theorem execPacerWindowStart_frame {s s' : State} (hx : execPacerWindowStart s = .next s') :
    s.SameBut (writes (.pacerWindowStart)) s' :=
  State.sameBut_effect hx (pacerWindowStart_outside s ⟨⟨rfl, rfl, rfl, pick 0 rfl⟩, rfl, pick 1 rfl, rfl, pick 2 rfl, pick 3 rfl, pick 4 rfl, pick 5 rfl, pick 6 rfl, pick 7 rfl, pick 8 rfl⟩)

theorem execInvocationDeadline_frame {node : Nat} {num : Nat} {s s' : State} (hx : execInvocationDeadline node num s = .next s') :
    s.SameBut (writes (.invocationDeadline node num)) s' :=
  State.sameBut_effect hx (invocationDeadline_outside s node num ⟨rfl, pick 0 rfl, rfl, pick 1 rfl, rfl, pick 2 rfl, rfl, pick 3 rfl, rfl, pick 4 rfl, rfl, fun n => pick 5 ⟨n, rfl⟩, rfl, pick 6 rfl, rfl, pick 7 rfl, rfl, pick 8 rfl⟩)

theorem execClkSourceLoss_frame {s s' : State} (hx : execClkSourceLoss s = .next s') :
    s.SameBut (writes (.clkSourceLoss)) s' :=
  State.sameBut_effect hx (clkSourceLoss_outside s ⟨rfl, pick 0 rfl, rfl, pick 1 rfl, rfl, pick 2 rfl, rfl, pick 3 rfl, pick 4 rfl, fun n => pick 5 ⟨n, rfl⟩⟩)

theorem execClkHoldoverEnd_frame {s s' : State} (hx : execClkHoldoverEnd s = .next s') :
    s.SameBut (writes (.clkHoldoverEnd)) s' :=
  State.sameBut_effect hx (clkHoldoverEnd_outside s ⟨⟨rfl, rfl, rfl, pick 3 rfl⟩, rfl, pick 0 rfl, pick 1 rfl, pick 2 rfl⟩)

theorem execClkMissing_frame {s s' : State} (hx : execClkMissing s = .next s') :
    s.SameBut (writes (.clkMissing)) s' :=
  State.sameBut_effect hx (clkMissing_outside s ⟨rfl, pick 0 rfl, rfl, pick 1 rfl⟩)

theorem execClkReturn_frame {s s' : State} (hx : execClkReturn s = .next s') :
    s.SameBut (writes (.clkReturn)) s' :=
  State.sameBut_effect hx (clkReturn_outside s ⟨⟨rfl, rfl, rfl, pick 0 rfl⟩, rfl, pick 1 rfl, rfl, fun n => pick 2 ⟨n, rfl⟩, rfl, pick 3 rfl, rfl, pick 4 rfl, rfl, pick 5 rfl, rfl, pick 6 rfl, rfl, pick 7 rfl, rfl, pick 8 rfl, pick 9 rfl⟩)

theorem execCandidateReadyChange_frame {c : Nat} {ready : Bool} {s s' : State} (hx : execCandidateReadyChange c ready s = .next s') :
    s.SameBut (writes (.candidateReadyChange c ready)) s' :=
  State.sameBut_effect hx (candidateReadyChange_outside s c ready ⟨rfl, pick 0 rfl, rfl, pick 1 rfl, rfl, pick 2 rfl, rfl, pick 3 rfl, pick 4 rfl, fun n => pick 5 ⟨n, rfl⟩⟩)

theorem execClkSrcWrite_frame {v : Word} {s s' : State} (hx : execClkSrcWrite v s = .next s') :
    s.SameBut (writes (.clkSrcWrite v)) s' :=
  State.sameBut_effect hx (State.whenOpen_outside (clkSrcWrite_outside s v ⟨rfl, pick 0 rfl, rfl, pick 1 rfl, rfl, pick 2 rfl, rfl, pick 3 rfl, pick 4 rfl, fun n => pick 5 ⟨n, rfl⟩⟩))

theorem execClkSwitch_frame {s s' : State} (hx : execClkSwitch s = .next s') :
    s.SameBut (writes (.clkSwitch)) s' :=
  State.sameBut_effect hx (clkSwitched_outside s ⟨⟨rfl, rfl, rfl, pick 3 rfl⟩, rfl, pick 0 rfl, rfl, pick 1 rfl, rfl, pick 2 rfl, rfl, pick 4 rfl, rfl, pick 5 rfl, fun n => pick 6 ⟨n, rfl⟩, fun n => pick 7 ⟨n, rfl⟩⟩)

theorem execLinkSignal_frame {p : Nat} {s s' : State} (hx : execLinkSignal p s = .next s') :
    s.SameBut (writes (.linkSignal p)) s' :=
  State.sameBut_effect hx (linkSignal_outside s p (fun n => pick 0 ⟨n, rfl⟩))

theorem execLinkTrained_frame {p : Nat} {s s' : State} (hx : execLinkTrained p s = .next s') :
    s.SameBut (writes (.linkTrained p)) s' :=
  State.sameBut_effect hx (linkTrained_outside s p ⟨rfl, pick 0 rfl, rfl, fun n => pick 1 ⟨n, rfl⟩, rfl⟩)

theorem execLinkUp_frame {p : Nat} {s s' : State} (hx : execLinkUp p s = .next s') :
    s.SameBut (writes (.linkUp p)) s' :=
  State.sameBut_effect hx (linkUp_outside s p ⟨⟨rfl, rfl, rfl, pick 0 rfl⟩, rfl, fun n => pick 1 ⟨n, rfl⟩, rfl, fun n => pick 2 ⟨n, rfl⟩, rfl⟩)

theorem execLinkDown_frame {p : Nat} {cause : Nat} {s s' : State} (hx : execLinkDown p cause s = .next s') :
    s.SameBut (writes (.linkDown p cause)) s' :=
  State.sameBut_effect hx (linkDown_outside s p cause ⟨⟨rfl, rfl, rfl, pick 1 rfl⟩, rfl, pick 0 rfl, rfl, fun n => pick 2 ⟨n, rfl⟩, rfl, fun n => pick 3 ⟨n, rfl⟩, rfl⟩)

theorem execLinkRetrain_frame {p : Nat} {s s' : State} (hx : execLinkRetrain p s = .next s') :
    s.SameBut (writes (.linkRetrain p)) s' :=
  State.sameBut_effect hx (linkRetrain_outside s p (fun n => pick 0 ⟨n, rfl⟩))

theorem execDataFlitRx_frame {p : Nat} {flit : BitVec 256} {s s' : State} (hx : execDataFlitRx p flit s = .next s') :
    s.SameBut (writes (.dataFlitRx p flit)) s' :=
  State.sameBut_effect hx (dataFlitRx_outside s p flit ⟨⟨rfl, rfl, rfl, pick 1 rfl⟩, rfl, pick 0 rfl, rfl, pick 2 rfl, rfl, pick 3 rfl, rfl, pick 4 rfl, rfl, fun n => pick 5 ⟨n, rfl⟩, rfl, fun n => pick 6 ⟨n, rfl⟩, rfl, fun n => pick 7 ⟨n, rfl⟩, fun n => pick 8 ⟨n, rfl⟩, fun n => pick 9 ⟨n, rfl⟩, fun n => pick 10 ⟨n, rfl⟩⟩)

theorem execReplayTimeout_frame {p : Nat} {s s' : State} (hx : execReplayTimeout p s = .next s') :
    s.SameBut (writes (.replayTimeout p)) s' :=
  State.sameBut_effect hx (replayTimeout_outside s p ⟨⟨rfl, rfl, rfl, pick 1 rfl⟩, rfl, pick 0 rfl, rfl, fun n => pick 2 ⟨n, rfl⟩, rfl, fun n => pick 3 ⟨n, rfl⟩, rfl, fun n => pick 4 ⟨n, rfl⟩, fun n => pick 5 ⟨n, rfl⟩⟩)

theorem execHello_frame {p : Nat} {adv : Nat} {key : Key} {nport : Nat} {naddr : Nat} {s s' : State} (hx : execHello p adv key nport naddr s = .next s') :
    s.SameBut (writes (.hello p adv key nport naddr)) s' :=
  State.sameBut_effect hx (hello_outside s p adv key nport naddr ⟨rfl, pick 0 rfl, pick 1 rfl, fun n => pick 2 ⟨n, rfl⟩, fun n => pick 3 ⟨n, rfl⟩, fun n => pick 4 ⟨n, rfl⟩, fun n => pick 5 ⟨n, rfl⟩⟩)

theorem execElect_frame {p : Nat} {key : Key} {hops : Nat} {s s' : State} (hx : execElect p key hops s = .next s') :
    s.SameBut (writes (.elect p key hops)) s' :=
  State.sameBut_effect hx (elect_outside s p key hops ⟨rfl, rfl, rfl⟩)

theorem execElectionWin_frame {s s' : State} (hx : execElectionWin s = .next s') :
    s.SameBut (writes (.electionWin)) s' :=
  State.sameBut_effect hx (electionWin_outside s ⟨rfl, pick 0 rfl, rfl, pick 1 rfl, rfl, fun n => pick 2 ⟨n, rfl⟩⟩)

theorem execRate_frame {p : Nat} {code : Nat} {s s' : State} (hx : execRate p code s = .next s') :
    s.SameBut (writes (.rate p code)) s' :=
  State.sameBut_effect hx (rate_outside s p code rfl)

theorem execRateSwitch_frame {p : Nat} {s s' : State} (hx : execRateSwitch p s = .next s') :
    s.SameBut (writes (.rateSwitch p)) s' :=
  State.sameBut_effect hx (rateSwitch_outside s p ⟨rfl, pick 0 rfl, rfl, fun n => pick 1 ⟨n, rfl⟩, rfl, fun n => pick 2 ⟨n, rfl⟩⟩)

theorem execLost_frame {p : Nat} {die : Nat} {s s' : State} (hx : execLost p die s = .next s') :
    s.SameBut (writes (.lost p die)) s' :=
  State.sameBut_effect hx (lost_outside s p die ⟨rfl, pick 0 rfl, rfl, pick 1 rfl, rfl, pick 2 rfl, rfl, pick 3 rfl, pick 4 rfl, fun n => pick 5 ⟨n, rfl⟩⟩)

theorem execOffer_frame {p : Nat} {depth : Nat} {die : Nat} {s s' : State} (hx : execOffer p depth die s = .next s') :
    s.SameBut (writes (.offer p depth die)) s' :=
  State.sameBut_effect hx (offer_outside s p depth die ⟨rfl, pick 0 rfl, rfl, pick 1 rfl, rfl, pick 2 rfl, rfl, pick 3 rfl, pick 4 rfl, fun n => pick 5 ⟨n, rfl⟩⟩)

theorem execClkRepair_frame {s s' : State} (hx : execClkRepair s = .next s') :
    s.SameBut (writes (.clkRepair)) s' :=
  State.sameBut_effect hx (clkRepair_outside s ⟨⟨rfl, rfl, rfl, pick 2 rfl⟩, rfl, pick 0 rfl, rfl, pick 1 rfl, pick 3 rfl⟩)

theorem execBaton_frame {s s' : State} (hx : execBaton s = .next s') :
    s.SameBut (writes (.baton)) s' :=
  State.sameBut_effect hx (baton_outside s ⟨rfl, pick 0 rfl, rfl, pick 1 rfl, rfl, pick 2 rfl, rfl, pick 3 rfl, rfl, pick 4 rfl, pick 5 rfl, pick 6 rfl, fun n => pick 7 ⟨n, rfl⟩⟩)

theorem execReadPacketRx_frame {pkt : Packet} {s s' : State} (hx : execReadPacketRx pkt s = .next s') :
    s.SameBut (writes (.readPacketRx pkt)) s' :=
  State.sameBut_effect hx (readPacketRx_outside s pkt (by and_intros <;> first | rfl | trivial | exact ⟨rfl, rfl, rfl, trivial⟩ | exact fun _ => trivial))

theorem execWritePacketRx_frame {pkt : Packet} {s s' : State} (hx : execWritePacketRx pkt s = .next s') :
    s.SameBut (writes (.writePacketRx pkt)) s' :=
  State.sameBut_all hx

theorem execResponseRx_frame {pkt : Packet} {s s' : State} (hx : execResponseRx pkt s = .next s') :
    s.SameBut (writes (.responseRx pkt)) s' :=
  State.sameBut_effect hx (responseRx_outside s pkt ⟨rfl, pick 0 rfl, rfl, fun n => pick 1 ⟨n, rfl⟩, rfl, pick 2 rfl, rfl, rfl⟩)

theorem execRequestTimeout_frame {tag : Nat} {s s' : State} (hx : execRequestTimeout tag s = .next s') :
    s.SameBut (writes (.requestTimeout tag)) s' :=
  State.sameBut_effect hx (requestTimedOut_outside s tag ⟨⟨rfl, rfl, rfl, pick 3 rfl⟩, rfl, pick 0 rfl, rfl, pick 1 rfl, rfl, pick 2 rfl, rfl, pick 4 rfl, rfl, pick 5 rfl, rfl, pick 6 rfl, fun n => pick 7 ⟨n, rfl⟩, fun n => pick 8 ⟨n, rfl⟩, pick 9 rfl⟩)

theorem execCommandPacketRx_frame {origin : Nat} {tag : Nat} {bytes : BitVec 256} {s s' : State} (hx : execCommandPacketRx origin tag bytes s = .next s') :
    s.SameBut (writes (.commandPacketRx origin tag bytes)) s' :=
  State.sameBut_effect hx (commandPacketRx_outside s origin tag bytes ⟨rfl, pick 0 rfl, rfl, fun n => pick 1 ⟨n, rfl⟩, rfl, pick 2 rfl, rfl, rfl⟩)

theorem execEventPacketRx_frame {origin : Nat} {tag : Nat} {r : Rec} {s s' : State} (hx : execEventPacketRx origin tag r s = .next s') :
    s.SameBut (writes (.eventPacketRx origin tag r)) s' :=
  State.sameBut_effect hx (eventPacketRx_outside s origin tag r ⟨rfl, pick 0 rfl, rfl, pick 1 rfl, rfl, pick 2 rfl, rfl, pick 3 rfl, rfl, fun n => pick 4 ⟨n, rfl⟩, rfl, fun n => pick 5 ⟨n, rfl⟩, rfl, fun n => pick 6 ⟨n, rfl⟩, rfl, fun n => pick 7 ⟨n, rfl⟩, pick 8 rfl, pick 9 rfl, fun n => pick 10 ⟨n, rfl⟩, fun n => pick 11 ⟨n, rfl⟩, pick 12 rfl, pick 13 rfl⟩)

theorem execEventAckRx_frame {origin : Nat} {tag : Nat} {s s' : State} (hx : execEventAckRx origin tag s = .next s') :
    s.SameBut (writes (.eventAckRx origin tag)) s' :=
  State.sameBut_effect hx (eventAckRx_outside s origin tag ⟨rfl, pick 0 rfl, rfl, fun n => pick 1 ⟨n, rfl⟩, rfl, rfl⟩)

theorem execStreamReqRx_frame {pkt : Packet} {s s' : State} (hx : execStreamReqRx pkt s = .next s') :
    s.SameBut (writes (.streamReqRx pkt)) s' :=
  State.sameBut_effect hx (streamReqRx_outside s pkt ⟨rfl, pick 0 rfl, rfl, fun n => pick 1 ⟨n, rfl⟩, rfl, fun n => pick 2 ⟨n, rfl⟩⟩)

theorem execStreamGrantRx_frame {pkt : Packet} {s s' : State} (hx : execStreamGrantRx pkt s = .next s') :
    s.SameBut (writes (.streamGrantRx pkt)) s' :=
  State.sameBut_effect hx (streamGrantRx_outside s pkt ⟨rfl, pick 0 rfl, rfl, fun n => pick 1 ⟨n, rfl⟩, rfl, rfl⟩)

theorem execStreamDataRx_frame {pkt : Packet} {s s' : State} (hx : execStreamDataRx pkt s = .next s') :
    s.SameBut (writes (.streamDataRx pkt)) s' :=
  State.sameBut_effect hx (streamDataRx_outside s pkt ⟨rfl, pick 0 rfl, rfl, pick 1 rfl, rfl, pick 2 rfl, rfl, pick 3 rfl, rfl, fun n => pick 4 ⟨n, rfl⟩, rfl, fun n => pick 5 ⟨n, rfl⟩, rfl, fun n => pick 6 ⟨n, rfl⟩, rfl, fun n => pick 7 ⟨n, rfl⟩, pick 8 rfl, pick 9 rfl⟩)

theorem execStreamAckRx_frame {pkt : Packet} {s s' : State} (hx : execStreamAckRx pkt s = .next s') :
    s.SameBut (writes (.streamAckRx pkt)) s' :=
  State.sameBut_effect hx (streamAckRx_outside s pkt ⟨⟨rfl, rfl, rfl, pick 0 rfl⟩, rfl, pick 1 rfl, rfl, fun n => pick 2 ⟨n, rfl⟩, rfl, pick 3 rfl, rfl, pick 4 rfl, pick 5 rfl⟩)

theorem execStreamResend_frame {sid : Nat} {s s' : State} (hx : execStreamResend sid s = .next s') :
    s.SameBut (writes (.streamResend sid)) s' :=
  State.sameBut_effect hx (streamResend_outside s sid ⟨rfl, pick 0 rfl, rfl, fun n => pick 1 ⟨n, rfl⟩, rfl⟩)

theorem execInfo_frame {die : Nat} {tag : Nat} {s s' : State} (hx : execInfo die tag s = .next s') :
    s.SameBut (writes (.info die tag)) s' :=
  State.sameBut_effect hx (info_outside s die tag ⟨rfl, pick 0 rfl, rfl, fun n => pick 1 ⟨n, rfl⟩, rfl, rfl⟩)

theorem execSetAddr_frame {die : Nat} {addr : Nat} {s s' : State} (hx : execSetAddr die addr s = .next s') :
    s.SameBut (writes (.setAddr die addr)) s' :=
  State.sameBut_effect hx (setAddr_outside s die addr ⟨rfl, pick 0 rfl, pick 1 rfl⟩)

theorem execRtWrite_frame {die : Nat} {entries : List (Nat × Nat)} {s s' : State} (hx : execRtWrite die entries s = .next s') :
    s.SameBut (writes (.rtWrite die entries)) s' :=
  State.sameBut_effect hx (rtWrite_outside s die entries ⟨rfl, pick 0 rfl⟩)

theorem execRoles_frame {die : Nat} {manager : Nat} {standby : Nat} {root : Nat} {successor : Nat} {stbyDie : Nat} {rootDie : Nat} {depth : Nat} {ecc : Nat} {s s' : State} (hx : execRoles die manager standby root successor stbyDie rootDie depth ecc s = .next s') :
    s.SameBut (writes (.roles die manager standby root successor stbyDie rootDie depth ecc)) s' :=
  State.sameBut_effect hx (roles_outside s die manager standby root successor stbyDie rootDie depth ecc ⟨rfl, pick 0 rfl, pick 1 rfl, pick 2 rfl, pick 3 rfl, pick 4 rfl, fun n => pick 5 ⟨n, rfl⟩⟩)

theorem execClkSel_frame {die : Nat} {sel : Nat} {s s' : State} (hx : execClkSel die sel s = .next s') :
    s.SameBut (writes (.clkSel die sel)) s' :=
  State.sameBut_effect hx (clkSel_outside s die sel ⟨rfl, pick 0 rfl, rfl, pick 1 rfl, pick 2 rfl, pick 3 rfl, pick 4 rfl, fun n => pick 5 ⟨n, rfl⟩⟩)

theorem execHeartbeat_frame {die : Nat} {s s' : State} (hx : execHeartbeat die s = .next s') :
    s.SameBut (writes (.heartbeat die)) s' :=
  State.sameBut_effect hx (heartbeat_outside s die ⟨rfl, pick 0 rfl⟩)

theorem execHeartbeatSend_frame {s s' : State} (hx : execHeartbeatSend s = .next s') :
    s.SameBut (writes (.heartbeatSend)) s' :=
  State.sameBut_effect hx (heartbeatSend_outside s ⟨rfl, pick 0 rfl, rfl, fun n => pick 1 ⟨n, rfl⟩, rfl⟩)

theorem execMirror_frame {die : Nat} {topo : List Dev} {s s' : State} (hx : execMirror die topo s = .next s') :
    s.SameBut (writes (.mirror die topo)) s' :=
  State.sameBut_effect hx (mirror_outside s die topo ⟨rfl, pick 0 rfl⟩)

theorem execMgmtRspRx_frame {tag : Nat} {dev : Dev} {s s' : State} (hx : execMgmtRspRx tag dev s = .next s') :
    s.SameBut (writes (.mgmtRspRx tag dev)) s' :=
  State.sameBut_effect hx (mgmtRspRx_outside s tag dev ⟨rfl, pick 0 rfl, rfl, pick 1 rfl, rfl, pick 2 rfl, rfl, pick 3 rfl, rfl, pick 4 rfl, fun n => pick 5 ⟨n, rfl⟩, fun n => pick 6 ⟨n, rfl⟩⟩)

theorem execDiscoveryDone_frame {topo : List Dev} {limited : List (Nat × Nat × Nat)} {roles : List Nat} {diameter : Nat} {s s' : State} (hx : execDiscoveryDone topo limited roles diameter s = .next s') :
    s.SameBut (writes (.discoveryDone topo limited roles diameter)) s' :=
  State.sameBut_effect hx (discoveryDone_outside s topo limited roles diameter ⟨⟨rfl, rfl, rfl, pick 1 rfl⟩, rfl, pick 0 rfl, rfl, pick 2 rfl, rfl, pick 3 rfl, rfl, pick 4 rfl, pick 5 rfl, pick 6 rfl, pick 7 rfl, fun n => pick 8 ⟨n, rfl⟩, fun n => pick 9 ⟨n, rfl⟩⟩)

theorem execReroute_frame {topo : List Dev} {lost : List Nat} {links : Nat} {plan : Routing} {s s' : State} (hx : execReroute topo lost links plan s = .next s') :
    s.SameBut (writes (.reroute topo lost links plan)) s' :=
  State.sameBut_effect hx (reroute_outside s topo lost links plan ⟨⟨rfl, rfl, rfl, pick 4 rfl⟩, rfl, pick 0 rfl, rfl, pick 1 rfl, rfl, pick 2 rfl, rfl, pick 3 rfl, rfl, pick 5 rfl, pick 6 rfl, pick 7 rfl, pick 8 rfl, pick 9 rfl, pick 10 rfl, fun n => pick 11 ⟨n, rfl⟩, fun n => pick 12 ⟨n, rfl⟩, pick 13 rfl⟩)

theorem execTableCommit_frame {t : Time} {s s' : State} (hx : execTableCommit t s = .next s') :
    s.SameBut (writes (.tableCommit t)) s' :=
  State.sameBut_effect hx (tableCommit_outside s t rfl)

theorem execTableSwitch_frame {s s' : State} (hx : execTableSwitch s = .next s') :
    s.SameBut (writes (.tableSwitch)) s' :=
  State.sameBut_effect hx (tableSwitch_outside s ⟨⟨rfl, rfl, rfl, pick 4 rfl⟩, rfl, pick 0 rfl, rfl, pick 1 rfl, rfl, pick 2 rfl, rfl, pick 3 rfl, rfl, pick 5 rfl, rfl, pick 6 rfl, pick 7 rfl, pick 8 rfl, pick 9 rfl, pick 10 rfl, pick 11 rfl, pick 12 rfl, fun n => pick 13 ⟨n, rfl⟩, fun n => pick 14 ⟨n, rfl⟩, pick 15 rfl⟩)

theorem execBankRetire_frame {s s' : State} (hx : execBankRetire s = .next s') :
    s.SameBut (writes (.bankRetire)) s' :=
  State.sameBut_effect hx (bankRetire_outside s rfl)

theorem execStandbyTakeover_frame {s s' : State} (hx : execStandbyTakeover s = .next s') :
    s.SameBut (writes (.standbyTakeover)) s' :=
  State.sameBut_effect hx (standbyTakeover_outside s ⟨rfl, pick 0 rfl, rfl, pick 1 rfl, rfl, pick 2 rfl, rfl, fun n => pick 3 ⟨n, rfl⟩⟩)

theorem execFabChurn_frame {s s' : State} (hx : execFabChurn s = .next s') :
    s.SameBut (writes (.fabChurn)) s' :=
  State.sameBut_effect hx (fabChurn_outside s ⟨⟨rfl, rfl, rfl, pick 0 rfl⟩, rfl, pick 1 rfl⟩)

theorem execVcStall_frame {p : Nat} {vc : Nat} {ms : Nat} {s s' : State} (hx : execVcStall p vc ms s = .next s') :
    s.SameBut (writes (.vcStall p vc ms)) s' :=
  State.sameBut_effect hx (vcStall_outside s p vc ms ⟨⟨rfl, rfl, rfl, pick 0 rfl⟩, rfl, pick 1 rfl, rfl, pick 2 rfl, pick 3 rfl, fun n => pick 4 ⟨n, rfl⟩⟩)

theorem execVcResumed_frame {mask : Nat} {s s' : State} (hx : execVcResumed mask s = .next s') :
    s.SameBut (writes (.vcResumed mask)) s' :=
  State.sameBut_effect hx (State.whenOpen_outside (vcResumed_outside s mask ⟨⟨rfl, rfl, rfl, pick 0 rfl⟩, rfl, pick 1 rfl, rfl, fun n => pick 2 ⟨n, rfl⟩⟩))

theorem execReelect_frame {s s' : State} (hx : execReelect s = .next s') :
    s.SameBut (writes (.reelect)) s' :=
  State.sameBut_effect hx (State.whenOpen_outside (reelect_outside s ⟨rfl, pick 0 rfl, rfl, rfl⟩))

theorem execFabricJoin_frame {p : Nat} {higher : Bool} {offset : Int} {s s' : State} (hx : execFabricJoin p higher offset s = .next s') :
    s.SameBut (writes (.fabricJoin p higher offset)) s' :=
  State.sameBut_effect hx (fabricJoin_outside s p higher offset ⟨⟨rfl, rfl, rfl, pick 0 rfl⟩, rfl, pick 1 rfl, rfl, pick 2 rfl, rfl, pick 3 rfl, rfl, pick 4 rfl, fun n => pick 5 ⟨n, rfl⟩, fun n => pick 6 ⟨n, rfl⟩⟩)

theorem execTimeExchange_frame {p : Nat} {flow : FlowSec} {times : TimeSec} {adv : Nat} {t4 : Time} {s s' : State} (hx : execTimeExchange p flow times adv t4 s = .next s') :
    s.SameBut (writes (.timeExchange p flow times adv t4)) s' :=
  State.sameBut_effect hx (timeExchange_outside s p (LinkSec.mk flow times adv) t4 ⟨⟨rfl, rfl, rfl, pick 1 rfl⟩, rfl, pick 0 rfl, rfl, pick 2 rfl, rfl, pick 3 rfl, rfl, fun n => pick 4 ⟨n, rfl⟩, rfl, fun n => pick 5 ⟨n, rfl⟩, rfl, fun n => pick 6 ⟨n, rfl⟩, fun n => pick 7 ⟨n, rfl⟩, fun n => pick 8 ⟨n, rfl⟩⟩)

theorem execPtmSample_frame {ns : BitVec 64} {s s' : State} (hx : execPtmSample ns s = .next s') :
    s.SameBut (writes (.ptmSample ns)) s' :=
  State.sameBut_effect hx (ptmSample_outside s ns ⟨⟨rfl, rfl, rfl, pick 0 rfl⟩, rfl, pick 1 rfl, rfl, pick 2 rfl, rfl, pick 3 rfl, rfl, pick 4 rfl, fun n => pick 5 ⟨n, rfl⟩, pick 6 rfl⟩)

theorem execPpsInEdge_frame {t : Time} {s s' : State} (hx : execPpsInEdge t s = .next s') :
    s.SameBut (writes (.ppsInEdge t)) s' :=
  State.sameBut_effect hx (ppsInEdge_outside s t ⟨⟨rfl, rfl, rfl, pick 0 rfl⟩, rfl, pick 1 rfl, rfl, pick 2 rfl, rfl, pick 3 rfl, rfl, pick 4 rfl, pick 5 rfl, fun n => pick 6 ⟨n, rfl⟩⟩)

theorem execTimeLost_frame {s s' : State} (hx : execTimeLost s = .next s') :
    s.SameBut (writes (.timeLost)) s' :=
  State.sameBut_effect hx (timeLost_outside s ⟨⟨rfl, rfl, rfl, pick 0 rfl⟩, rfl, pick 1 rfl⟩)

theorem execTimeStep_frame {step : Int} {t : Time} {s s' : State} (hx : execTimeStep step t s = .next s') :
    s.SameBut (writes (.timeStep step t)) s' :=
  State.sameBut_effect hx (timeStep_outside s step t rfl)

theorem execTimeStepApply_frame {s s' : State} (hx : execTimeStepApply s = .next s') :
    s.SameBut (writes (.timeStepApply)) s' :=
  State.sameBut_effect hx (timeStepApply_outside s ⟨⟨rfl, rfl, rfl, pick 0 rfl⟩, rfl, pick 1 rfl, rfl, fun n => pick 2 ⟨n, rfl⟩, rfl, pick 3 rfl, rfl, pick 4 rfl, rfl, pick 5 rfl, rfl, pick 6 rfl, rfl, pick 7 rfl, rfl, rfl, rfl, rfl, rfl, rfl, rfl, rfl, rfl, rfl, rfl, rfl, rfl, rfl, rfl, rfl, rfl, rfl, rfl, rfl, rfl, rfl, rfl, rfl, rfl⟩)

theorem execStarter_frame {t : Time} {id : Nat} {origin : Nat} {s s' : State} (hx : execStarter t id origin s = .next s') :
    s.SameBut (writes (.starter t id origin)) s' :=
  State.sameBut_effect hx (starter_outside s t id origin ⟨⟨rfl, rfl, rfl, pick 0 rfl⟩, rfl, pick 1 rfl, rfl, pick 2 rfl, pick 3 rfl, pick 4 rfl⟩)

theorem execSnapshotLatch_frame {s s' : State} (hx : execSnapshotLatch s = .next s') :
    s.SameBut (writes (.snapshotLatch)) s' :=
  State.sameBut_effect hx (snapshotLatch_outside s ⟨⟨rfl, rfl, rfl, pick 0 rfl⟩, rfl, pick 1 rfl, rfl, pick 2 rfl, rfl, pick 3 rfl, pick 4 rfl, pick 5 rfl, pick 6 rfl⟩)

theorem execSnapDone_frame {s s' : State} (hx : execSnapDone s = .next s') :
    s.SameBut (writes (.snapDone)) s' :=
  State.sameBut_effect hx (snapDone_outside s ⟨⟨rfl, rfl, rfl, pick 0 rfl⟩, rfl, pick 1 rfl, rfl, pick 2 rfl, pick 3 rfl, pick 4 rfl⟩)

theorem execSyncOutSecond_frame {rise : Bool} {s s' : State} (hx : execSyncOutSecond rise s = .next s') :
    s.SameBut (writes (.syncOutSecond rise)) s' :=
  State.sameBut_effect hx (syncOutSecond_outside s rise ⟨rfl, rfl⟩)

theorem execPcieL0_frame {s s' : State} (hx : execPcieL0 s = .next s') :
    s.SameBut (writes (.pcieL0)) s' :=
  State.sameBut_effect hx (pcieL0_outside s ⟨rfl, pick 0 rfl, rfl, rfl, rfl, rfl⟩)

theorem execPcieLinkDown_frame {s s' : State} (hx : execPcieLinkDown s = .next s') :
    s.SameBut (writes (.pcieLinkDown)) s' :=
  State.sameBut_effect hx (pcieLinkDown_outside s ⟨pick 0 rfl, pick 1 rfl⟩)

theorem execD3hotEntry_frame {enter : Bool} {s s' : State} (hx : execD3hotEntry enter s = .next s') :
    s.SameBut (writes (.d3hotEntry enter)) s' :=
  State.sameBut_effect hx (d3hotEntry_outside s enter ⟨rfl, pick 0 rfl⟩)

theorem execMsixSend_frame {v : Nat} {s s' : State} (hx : execMsixSend v s = .next s') :
    s.SameBut (writes (.msixSend v)) s' :=
  State.sameBut_effect hx (msixSend_outside s v ⟨rfl, pick 0 rfl, rfl⟩)

theorem execBar2Read_frame {addr : Nat} {size : Nat} {s s' : State} (hx : execBar2Read addr size s = .next s') :
    s.SameBut (writes (.bar2Read addr size)) s' :=
  State.sameBut_effect hx (bar2Read_outside s addr size ⟨⟨rfl, rfl, rfl, pick 0 rfl⟩, rfl, pick 1 rfl, rfl, pick 2 rfl, rfl, pick 3 rfl, rfl, pick 4 rfl, pick 5 rfl, fun n => pick 6 ⟨n, rfl⟩, pick 7 rfl, pick 8 rfl, pick 9 rfl⟩)

theorem execBar2Write_frame {addr : Nat} {data : List (BitVec 8)} {s s' : State} (hx : execBar2Write addr data s = .next s') :
    s.SameBut (writes (.bar2Write addr data)) s' :=
  State.sameBut_effect hx (bar2Write_outside s addr data ⟨⟨rfl, rfl, rfl, pick 1 rfl⟩, rfl, pick 0 rfl, rfl, pick 2 rfl, rfl, pick 3 rfl, pick 4 rfl, pick 5 rfl, pick 6 rfl, fun n => pick 7 ⟨n, rfl⟩, pick 8 rfl, pick 9 rfl, pick 10 rfl, pick 11 rfl, pick 12 rfl⟩)

theorem execHrCfgEnable_frame {r : Nat} {v : Word} {s s' : State} (hx : execHrCfgEnable r v s = .next s') :
    s.SameBut (writes (.hrCfgEnable r v)) s' :=
  State.sameBut_effect hx (State.whenOpen_outside (Eq.trans (hrCfgEnable_outside (s.reachIf (hasHost s.fac.variant) 6) r v ⟨rfl, pick 5 rfl, rfl, pick 6 rfl, rfl, pick 20 rfl, rfl, fun n => pick 22 ⟨n, rfl⟩, rfl, fun n => pick 23 ⟨n, rfl⟩, fun n => pick 24 ⟨n, rfl⟩, fun n => pick 25 ⟨n, rfl⟩, fun n => pick 26 ⟨n, rfl⟩⟩) (State.reachIf_outside s _ _ ⟨⟨rfl, rfl, rfl, pick 7 rfl⟩, rfl, pick 0 rfl, rfl, pick 1 rfl, rfl, pick 2 rfl, rfl, pick 3 rfl, rfl, fun n => pick 4 ⟨n, rfl⟩, rfl, pick 8 rfl, rfl, pick 9 rfl, rfl, pick 10 rfl, rfl, pick 11 rfl, rfl, pick 12 rfl, rfl, pick 13 rfl, pick 14 rfl, pick 15 rfl, fun n => pick 16 ⟨n, rfl⟩, pick 17 rfl, pick 18 rfl, pick 19 rfl, fun n => pick 21 ⟨n, rfl⟩, pick 27 rfl⟩)))

theorem execHrTailWrite_frame {r : Nat} {v : Nat} {s s' : State} (hx : execHrTailWrite r v s = .next s') :
    s.SameBut (writes (.hrTailWrite r v)) s' :=
  State.sameBut_effect hx (State.whenOpen_outside (Eq.trans (hrTailWrite_outside (s.reachIf (hasHost s.fac.variant) 6) r v ⟨rfl, pick 5 rfl, rfl, pick 6 rfl, rfl, pick 20 rfl, fun n => pick 22 ⟨n, rfl⟩, fun n => pick 23 ⟨n, rfl⟩, fun n => pick 24 ⟨n, rfl⟩, fun n => pick 25 ⟨n, rfl⟩⟩) (State.reachIf_outside s _ _ ⟨⟨rfl, rfl, rfl, pick 7 rfl⟩, rfl, pick 0 rfl, rfl, pick 1 rfl, rfl, pick 2 rfl, rfl, pick 3 rfl, rfl, fun n => pick 4 ⟨n, rfl⟩, rfl, pick 8 rfl, rfl, pick 9 rfl, rfl, pick 10 rfl, rfl, pick 11 rfl, rfl, pick 12 rfl, rfl, pick 13 rfl, pick 14 rfl, pick 15 rfl, fun n => pick 16 ⟨n, rfl⟩, pick 17 rfl, pick 18 rfl, pick 19 rfl, fun n => pick 21 ⟨n, rfl⟩, pick 26 rfl⟩)))

theorem execHostRingBlockWrite_frame {r : Nat} {s s' : State} (hx : execHostRingBlockWrite r s = .next s') :
    s.SameBut (writes (.hostRingBlockWrite r)) s' :=
  State.sameBut_effect hx (dmaBlockWrite_outside s r ⟨⟨rfl, rfl, rfl, pick 3 rfl⟩, rfl, pick 0 rfl, rfl, pick 1 rfl, rfl, pick 2 rfl, rfl, fun n => pick 4 ⟨n, rfl⟩, rfl, fun n => pick 5 ⟨n, rfl⟩, rfl, fun n => pick 6 ⟨n, rfl⟩, rfl, fun n => pick 7 ⟨n, rfl⟩, pick 8 rfl, pick 9 rfl, pick 10 rfl, pick 11 rfl, pick 12 rfl⟩)

theorem execHostRingStall_frame {r : Nat} {s s' : State} (hx : execHostRingStall r s = .next s') :
    s.SameBut (writes (.hostRingStall r)) s' :=
  State.sameBut_effect hx (hostRingStall_outside s r ⟨⟨rfl, rfl, rfl, pick 0 rfl⟩, rfl, fun n => pick 1 ⟨n, rfl⟩, pick 2 rfl⟩)

theorem execCmdRingEnable_frame {v : Word} {s s' : State} (hx : execCmdRingEnable v s = .next s') :
    s.SameBut (writes (.cmdRingEnable v)) s' :=
  State.sameBut_effect hx (State.whenOpen_outside (Eq.trans (cmdRingEnable_outside (s.reachIf (hasHost s.fac.variant) 9) v ⟨rfl, pick 5 rfl, rfl, pick 6 rfl, pick 21 rfl, pick 22 rfl, pick 23 rfl, pick 24 rfl⟩) (State.reachIf_outside s _ _ ⟨⟨rfl, rfl, rfl, pick 7 rfl⟩, rfl, pick 0 rfl, rfl, pick 1 rfl, rfl, pick 2 rfl, rfl, pick 3 rfl, rfl, fun n => pick 4 ⟨n, rfl⟩, rfl, pick 8 rfl, rfl, pick 9 rfl, rfl, pick 10 rfl, rfl, pick 11 rfl, rfl, pick 12 rfl, rfl, pick 13 rfl, pick 14 rfl, pick 15 rfl, fun n => pick 16 ⟨n, rfl⟩, pick 17 rfl, pick 18 rfl, pick 19 rfl, fun n => pick 20 ⟨n, rfl⟩, pick 25 rfl⟩)))

theorem execEqCfgEnable_frame {q : Nat} {v : Word} {s s' : State} (hx : execEqCfgEnable q v s = .next s') :
    s.SameBut (writes (.eqCfgEnable q v)) s' :=
  State.sameBut_effect hx (State.whenOpen_outside (Eq.trans (eqCfgEnable_outside (s.reachIf (hasHost s.fac.variant) 9) q v ⟨rfl, pick 5 rfl, rfl, pick 6 rfl, rfl, fun n => pick 20 ⟨n, rfl⟩, fun n => pick 21 ⟨n, rfl⟩, fun n => pick 22 ⟨n, rfl⟩, fun n => pick 23 ⟨n, rfl⟩, fun n => pick 24 ⟨n, rfl⟩⟩) (State.reachIf_outside s _ _ ⟨⟨rfl, rfl, rfl, pick 7 rfl⟩, rfl, pick 0 rfl, rfl, pick 1 rfl, rfl, pick 2 rfl, rfl, pick 3 rfl, rfl, fun n => pick 4 ⟨n, rfl⟩, rfl, pick 8 rfl, rfl, pick 9 rfl, rfl, pick 10 rfl, rfl, pick 11 rfl, rfl, pick 12 rfl, rfl, pick 13 rfl, pick 14 rfl, pick 15 rfl, fun n => pick 16 ⟨n, rfl⟩, pick 17 rfl, pick 18 rfl, pick 19 rfl, fun n => pick 25 ⟨n, rfl⟩, pick 26 rfl⟩)))

theorem execEqTailWrite_frame {q : Nat} {v : Nat} {s s' : State} (hx : execEqTailWrite q v s = .next s') :
    s.SameBut (writes (.eqTailWrite q v)) s' :=
  State.sameBut_effect hx (State.whenOpen_outside (Eq.trans (eqTailWrite_outside (s.reachIf (hasHost s.fac.variant) 9) q v ⟨rfl, pick 1 rfl, rfl, pick 2 rfl, rfl, pick 3 rfl, rfl, pick 4 rfl, rfl, pick 7 rfl, rfl, pick 8 rfl, fun n => pick 22 ⟨n, rfl⟩, fun n => pick 23 ⟨n, rfl⟩, fun n => pick 24 ⟨n, rfl⟩, fun n => pick 25 ⟨n, rfl⟩, pick 26 rfl, fun n => pick 27 ⟨n, rfl⟩, pick 29 rfl⟩) (State.reachIf_outside s _ _ ⟨⟨rfl, rfl, rfl, pick 9 rfl⟩, rfl, pick 0 rfl, rfl, pick 2 rfl, rfl, pick 4 rfl, rfl, pick 5 rfl, rfl, fun n => pick 6 ⟨n, rfl⟩, rfl, pick 10 rfl, rfl, pick 11 rfl, rfl, pick 12 rfl, rfl, pick 13 rfl, rfl, pick 14 rfl, rfl, pick 15 rfl, pick 16 rfl, pick 17 rfl, fun n => pick 18 ⟨n, rfl⟩, pick 19 rfl, pick 20 rfl, pick 21 rfl, fun n => pick 27 ⟨n, rfl⟩, pick 28 rfl⟩)))

theorem execEventRecordWrite_frame {s s' : State} (hx : execEventRecordWrite s = .next s') :
    s.SameBut (writes (.eventRecordWrite)) s' :=
  State.sameBut_effect hx (eventRecordWrite_outside s ⟨rfl, pick 0 rfl, rfl, pick 1 rfl, rfl, pick 2 rfl, rfl, pick 3 rfl, rfl, fun n => pick 4 ⟨n, rfl⟩, rfl, fun n => pick 5 ⟨n, rfl⟩, rfl, fun n => pick 6 ⟨n, rfl⟩, rfl, fun n => pick 7 ⟨n, rfl⟩, rfl, pick 8 rfl, rfl, pick 9 rfl, fun n => pick 10 ⟨n, rfl⟩, fun n => pick 11 ⟨n, rfl⟩, pick 12 rfl⟩)

theorem execEventDeferredDelivery_frame {s s' : State} (hx : execEventDeferredDelivery s = .next s') :
    s.SameBut (writes (.eventDeferredDelivery)) s' :=
  State.sameBut_effect hx (eventDeferredDelivery_outside s ⟨rfl, pick 0 rfl, rfl, pick 1 rfl, rfl, pick 2 rfl, rfl, pick 3 rfl, rfl, fun n => pick 4 ⟨n, rfl⟩, rfl, fun n => pick 5 ⟨n, rfl⟩, rfl, fun n => pick 6 ⟨n, rfl⟩, rfl, fun n => pick 7 ⟨n, rfl⟩, rfl, pick 8 rfl, rfl, pick 9 rfl, fun n => pick 10 ⟨n, rfl⟩, fun n => pick 11 ⟨n, rfl⟩, pick 12 rfl⟩)

theorem execRateLimitIntervalEnd_frame {type : Nat} {key : Nat} {s s' : State} (hx : execRateLimitIntervalEnd type key s = .next s') :
    s.SameBut (writes (.rateLimitIntervalEnd type key)) s' :=
  State.sameBut_effect hx (rateLimitIntervalEnd_outside s type key ⟨⟨rfl, rfl, rfl, pick 0 rfl⟩, rfl⟩)

theorem execBaseSample_frame {raws : List RawSample} {s s' : State} (hx : execBaseSample raws s = .next s') :
    s.SameBut (writes (.baseSample raws)) s' :=
  State.sameBut_answer hx (basePeriod_sameBut s raws ⟨⟨rfl, rfl, rfl, pick 7 rfl⟩, rfl, pick 0 rfl, rfl, pick 1 rfl, rfl, pick 2 rfl, rfl, pick 3 rfl, rfl, pick 4 rfl, rfl, pick 5 rfl, rfl, fun n => pick 6 ⟨n, rfl⟩, rfl, pick 8 rfl, rfl, pick 9 rfl, rfl, pick 10 rfl, rfl, pick 11 rfl, rfl, pick 12 rfl, rfl, pick 13 rfl, rfl, pick 14 rfl, rfl, pick 15 rfl, rfl, fun n => pick 16 ⟨n, rfl⟩, rfl, pick 17 rfl, rfl, pick 18 rfl, rfl, pick 19 rfl, rfl, fun n => pick 20 ⟨n, rfl⟩, rfl, pick 21 rfl, rfl, pick 22 rfl, rfl, fun n => pick 23 ⟨n, rfl⟩, rfl, fun n => pick 24 ⟨n, rfl⟩, rfl, pick 25 rfl, rfl, pick 26 rfl, rfl, pick 27 rfl, fun n => pick 28 ⟨n, rfl⟩, fun n => pick 29 ⟨n, rfl⟩, fun n => pick 30 ⟨n, rfl⟩, fun n => pick 31 ⟨n, rfl⟩, fun n => pick 32 ⟨n, rfl⟩, fun n => pick 33 ⟨n, rfl⟩, fun n => pick 34 ⟨n, rfl⟩, pick 35 rfl, pick 36 rfl, pick 37 rfl, pick 38 rfl, pick 39 rfl, pick 40 rfl, pick 41 rfl, pick 42 rfl, pick 43 rfl, pick 44 rfl, pick 45 rfl⟩)

theorem execFusionUnchecked_frame {n : Nat} {s s' : State} (hx : execFusionUnchecked n s = .next s') :
    s.SameBut (writes (.fusionUnchecked n)) s' :=
  State.sameBut_effect hx (fusionUnchecked_outside s n ⟨⟨rfl, rfl, rfl, pick 0 rfl⟩, rfl, pick 1 rfl, rfl, fun n => pick 2 ⟨n, rfl⟩, rfl, pick 3 rfl, rfl, pick 4 rfl, rfl, pick 5 rfl, rfl, fun n => pick 6 ⟨n, rfl⟩, rfl, pick 7 rfl, rfl, pick 8 rfl, pick 9 rfl, pick 10 rfl, pick 11 rfl, pick 12 rfl, pick 13 rfl⟩)

theorem execFusDiffUpdate_frame {n : Nat} {s s' : State} (hx : execFusDiffUpdate n s = .next s') :
    s.SameBut (writes (.fusDiffUpdate n)) s' :=
  State.sameBut_effect hx (fusDiffUpdate_outside s n ⟨rfl, fun n => pick 0 ⟨n, rfl⟩, fun n => pick 1 ⟨n, rfl⟩⟩)

theorem execOverrangeLeave_frame {n : Nat} {s s' : State} (hx : execOverrangeLeave n s = .next s') :
    s.SameBut (writes (.overrangeLeave n)) s' :=
  State.sameBut_effect hx (overrangeLeave_outside s n ⟨⟨rfl, rfl, rfl, pick 0 rfl⟩, rfl, rfl⟩)

theorem execPinRange_frame {n : Nat} {ballN : Bool} {beyond : Bool} {s s' : State} (hx : execPinRange n ballN beyond s = .next s') :
    s.SameBut (writes (.pinRange n ballN beyond)) s' :=
  State.sameBut_effect hx (pinRange_outside s n ballN beyond ⟨⟨rfl, rfl, rfl, pick 0 rfl⟩, rfl, fun n => pick 1 ⟨n, rfl⟩, rfl, rfl⟩)

theorem execInputClamp_frame {n : Nat} {ballN : Bool} {conducts : Bool} {s s' : State} (hx : execInputClamp n ballN conducts s = .next s') :
    s.SameBut (writes (.inputClamp n ballN conducts)) s' :=
  State.sameBut_effect hx (inputClamp_outside s n ballN conducts ⟨⟨rfl, rfl, rfl, pick 0 rfl⟩, rfl, fun n => pick 1 ⟨n, rfl⟩⟩)

theorem execCfgChange_frame {n : Nat} {s s' : State} (hx : execCfgChange n s = .next s') :
    s.SameBut (writes (.cfgChange n)) s' :=
  State.sameBut_effect hx (cfgChange_outside s n ⟨⟨rfl, rfl, rfl, pick 0 rfl⟩, rfl, pick 1 rfl, rfl, fun n => pick 2 ⟨n, rfl⟩, rfl, pick 3 rfl, rfl, pick 4 rfl, rfl, pick 5 rfl, rfl, fun n => pick 6 ⟨n, rfl⟩, rfl, fun n => pick 7 ⟨n, rfl⟩, rfl, fun n => pick 8 ⟨n, rfl⟩, rfl, fun n => pick 9 ⟨n, rfl⟩, rfl, pick 10 rfl, rfl, pick 11 rfl, pick 12 rfl, pick 13 rfl, pick 14 rfl, pick 15 rfl, pick 16 rfl⟩)

theorem execMonitorOutput_frame {n : Nat} {s s' : State} (hx : execMonitorOutput n s = .next s') :
    s.SameBut (writes (.monitorOutput n)) s' :=
  State.sameBut_effect hx (monitorOutput_outside s n ⟨⟨rfl, rfl, rfl, pick 0 rfl⟩, rfl, pick 1 rfl, rfl, fun n => pick 2 ⟨n, rfl⟩, rfl, pick 3 rfl, rfl, pick 4 rfl, rfl, pick 5 rfl, rfl, fun n => pick 6 ⟨n, rfl⟩, rfl, fun n => pick 7 ⟨n, rfl⟩, rfl, fun n => pick 8 ⟨n, rfl⟩, rfl, pick 9 rfl, rfl, pick 10 rfl, rfl, pick 11 rfl, rfl, pick 12 rfl, pick 13 rfl, pick 14 rfl, pick 15 rfl, pick 16 rfl, pick 17 rfl⟩)

theorem execStaticOutput_frame {n : Nat} {s s' : State} (hx : execStaticOutput n s = .next s') :
    s.SameBut (writes (.staticOutput n)) s' :=
  State.sameBut_effect hx (staticOutput_outside s n ⟨⟨rfl, rfl, rfl, pick 0 rfl⟩, rfl, pick 1 rfl, rfl, fun n => pick 2 ⟨n, rfl⟩, rfl, pick 3 rfl, rfl, pick 4 rfl, rfl, pick 5 rfl, rfl, fun n => pick 6 ⟨n, rfl⟩, rfl, fun n => pick 7 ⟨n, rfl⟩, rfl, fun n => pick 8 ⟨n, rfl⟩, rfl, pick 9 rfl, rfl, pick 10 rfl, rfl, pick 11 rfl, rfl, pick 12 rfl, pick 13 rfl, pick 14 rfl, pick 15 rfl, pick 16 rfl, pick 17 rfl⟩)

theorem execSeismicOutput_frame {n : Nat} {s s' : State} (hx : execSeismicOutput n s = .next s') :
    s.SameBut (writes (.seismicOutput n)) s' :=
  State.sameBut_effect hx (seismicOutput_outside s n ⟨⟨rfl, rfl, rfl, pick 0 rfl⟩, rfl, pick 1 rfl, rfl, fun n => pick 2 ⟨n, rfl⟩, rfl, pick 3 rfl, rfl, pick 4 rfl, rfl, pick 5 rfl, rfl, fun n => pick 6 ⟨n, rfl⟩, rfl, fun n => pick 7 ⟨n, rfl⟩, rfl, pick 8 rfl, rfl, pick 9 rfl, rfl, pick 10 rfl, rfl, pick 11 rfl, rfl, pick 12 rfl, pick 13 rfl, pick 14 rfl, pick 15 rfl, pick 16 rfl⟩)

theorem execMainsLost_frame {n : Nat} {s s' : State} (hx : execMainsLost n s = .next s') :
    s.SameBut (writes (.mainsLost n)) s' :=
  State.sameBut_effect hx (mainsLost_outside s n ⟨⟨rfl, rfl, rfl, pick 0 rfl⟩, rfl, fun n => pick 1 ⟨n, rfl⟩⟩)

theorem execResHiRead_frame {who : Reader} {i : Nat} {s s' : State} (hx : execResHiRead who i s = .next s') :
    s.SameBut (writes (.resHiRead who i)) s' :=
  State.sameBut_effect hx (State.whenOpen_outside (resHiRead_outside s who i ⟨rfl, fun n => pick 0 ⟨n, rfl⟩, rfl⟩))

theorem execResLoRead_frame {who : Reader} {i : Nat} {s s' : State} (hx : execResLoRead who i s = .next s') :
    s.SameBut (writes (.resLoRead who i)) s' :=
  State.sameBut_effect hx (State.whenOpen_outside (resLoRead_outside s who i ⟨rfl, fun n => pick 0 ⟨n, rfl⟩, rfl⟩))

theorem execRes64Read_frame {who : Reader} {i : Nat} {s s' : State} (hx : execRes64Read who i s = .next s') :
    s.SameBut (writes (.res64Read who i)) s' :=
  State.sameBut_effect hx (State.whenOpen_outside (res64Read_outside s who i ⟨rfl, fun n => pick 0 ⟨n, rfl⟩, rfl⟩))

theorem execPchCfgWrite_frame {n : Nat} {v : Word} {s s' : State} (hx : execPchCfgWrite n v s = .next s') :
    s.SameBut (writes (.pchCfgWrite n v)) s' :=
  State.sameBut_effect hx (State.whenOpen_outside (pchCfgWrite_outside s n v ⟨⟨rfl, rfl, rfl, pick 2 rfl⟩, rfl, pick 0 rfl, rfl, pick 1 rfl, rfl, pick 3 rfl, rfl, fun n => pick 4 ⟨n, rfl⟩, rfl, pick 5 rfl, rfl, pick 6 rfl, rfl, pick 7 rfl, rfl, fun n => pick 8 ⟨n, rfl⟩, rfl, fun n => pick 9 ⟨n, rfl⟩, rfl, pick 10 rfl, pick 11 rfl, pick 12 rfl, pick 13 rfl, pick 14 rfl, pick 15 rfl, pick 16 rfl⟩))

theorem execPchFusCfgWrite_frame {n : Nat} {v : Word} {s s' : State} (hx : execPchFusCfgWrite n v s = .next s') :
    s.SameBut (writes (.pchFusCfgWrite n v)) s' :=
  State.sameBut_effect hx (State.whenOpen_outside (pchFusCfgWrite_outside s n v ⟨⟨rfl, rfl, rfl, pick 2 rfl⟩, rfl, pick 0 rfl, rfl, pick 1 rfl, rfl, pick 3 rfl, rfl, fun n => pick 4 ⟨n, rfl⟩, rfl, pick 5 rfl, rfl, pick 6 rfl, rfl, pick 7 rfl, rfl, fun n => pick 8 ⟨n, rfl⟩, rfl, fun n => pick 9 ⟨n, rfl⟩, rfl, fun n => pick 10 ⟨n, rfl⟩, pick 11 rfl, pick 12 rfl, pick 13 rfl, pick 14 rfl, pick 15 rfl, pick 16 rfl, pick 17 rfl⟩))

theorem execPchPlausThWrite_frame {n : Nat} {v : Word} {s s' : State} (hx : execPchPlausThWrite n v s = .next s') :
    s.SameBut (writes (.pchPlausThWrite n v)) s' :=
  State.sameBut_effect hx (State.whenOpen_outside (pchPlausThWrite_outside s n v ⟨rfl, pick 0 rfl, rfl, pick 1 rfl, rfl, fun n => pick 2 ⟨n, rfl⟩⟩))

theorem execPchFmtWrite_frame {n : Nat} {v : Word} {s s' : State} (hx : execPchFmtWrite n v s = .next s') :
    s.SameBut (writes (.pchFmtWrite n v)) s' :=
  State.sameBut_effect hx (State.whenOpen_outside (pchFmtWrite_outside s n v ⟨rfl, pick 0 rfl, rfl, pick 1 rfl, rfl, fun n => pick 2 ⟨n, rfl⟩, fun n => pick 3 ⟨n, rfl⟩⟩))

theorem execPchStaticCfgWrite_frame {n : Nat} {v : Word} {s s' : State} (hx : execPchStaticCfgWrite n v s = .next s') :
    s.SameBut (writes (.pchStaticCfgWrite n v)) s' :=
  State.sameBut_effect hx (State.whenOpen_outside (pchStaticCfgWrite_outside s n v ⟨⟨rfl, rfl, rfl, pick 2 rfl⟩, rfl, pick 0 rfl, rfl, pick 1 rfl, rfl, fun n => pick 3 ⟨n, rfl⟩, rfl, fun n => pick 4 ⟨n, rfl⟩, rfl, fun n => pick 5 ⟨n, rfl⟩, rfl, pick 6 rfl⟩))

theorem execPchSeisCfgWrite_frame {n : Nat} {v : Word} {s s' : State} (hx : execPchSeisCfgWrite n v s = .next s') :
    s.SameBut (writes (.pchSeisCfgWrite n v)) s' :=
  State.sameBut_effect hx (State.whenOpen_outside (pchSeisCfgWrite_outside s n v ⟨⟨rfl, rfl, rfl, pick 2 rfl⟩, rfl, pick 0 rfl, rfl, pick 1 rfl, rfl, fun n => pick 3 ⟨n, rfl⟩, rfl, fun n => pick 4 ⟨n, rfl⟩, fun n => pick 5 ⟨n, rfl⟩, fun n => pick 6 ⟨n, rfl⟩, pick 7 rfl⟩))

theorem execExcCtrlModeWrite_frame {k : Nat} {v : Word} {s s' : State} (hx : execExcCtrlModeWrite k v s = .next s') :
    s.SameBut (writes (.excCtrlModeWrite k v)) s' :=
  State.sameBut_effect hx (State.whenOpen_outside (excCtrlModeWrite_outside s k v ⟨rfl, pick 0 rfl, rfl, pick 1 rfl, rfl, fun n => pick 2 ⟨n, rfl⟩, fun n => pick 3 ⟨n, rfl⟩, fun n => pick 4 ⟨n, rfl⟩⟩))

theorem execExcFire_frame {k : Nat} {s s' : State} (hx : execExcFire k s = .next s') :
    s.SameBut (writes (.excFire k)) s' :=
  State.sameBut_effect hx (State.whenOpen_outside (excFire_outside s k ⟨rfl, pick 0 rfl, pick 1 rfl, fun n => pick 2 ⟨n, rfl⟩, fun n => pick 3 ⟨n, rfl⟩⟩))

theorem execExcLevelWrite_frame {k : Nat} {v : Word} {s s' : State} (hx : execExcLevelWrite k v s = .next s') :
    s.SameBut (writes (.excLevelWrite k v)) s' :=
  State.sameBut_effect hx (State.whenOpen_outside (excLevelWrite_outside s k v ⟨rfl, pick 0 rfl, pick 1 rfl, fun n => pick 2 ⟨n, rfl⟩, fun n => pick 3 ⟨n, rfl⟩⟩))

theorem execExcRampEnd_frame {k : Nat} {s s' : State} (hx : execExcRampEnd k s = .next s') :
    s.SameBut (writes (.excRampEnd k)) s' :=
  State.sameBut_effect hx (excRampEnd_outside s k (fun n => pick 0 ⟨n, rfl⟩))

theorem execExcPolarityEdge_frame {k : Nat} {s s' : State} (hx : execExcPolarityEdge k s = .next s') :
    s.SameBut (writes (.excPolarityEdge k)) s' :=
  State.sameBut_effect hx (excPolarityEdge_outside s k ⟨rfl, fun n => pick 0 ⟨n, rfl⟩⟩)

theorem execExcPeriodTimer_frame {k : Nat} {s s' : State} (hx : execExcPeriodTimer k s = .next s') :
    s.SameBut (writes (.excPeriodTimer k)) s' :=
  State.sameBut_effect hx (excPeriodTimer_outside s k ⟨rfl, fun n => pick 0 ⟨n, rfl⟩⟩)

theorem execExcStart_frame {k : Nat} {s s' : State} (hx : execExcStart k s = .next s') :
    s.SameBut (writes (.excStart k)) s' :=
  State.sameBut_effect hx (excStart_outside s k ⟨⟨rfl, rfl, rfl, pick 0 rfl⟩, rfl, fun n => pick 1 ⟨n, rfl⟩, rfl, fun n => pick 2 ⟨n, rfl⟩, rfl, rfl⟩)

theorem execExcRelease_frame {k : Nat} {s s' : State} (hx : execExcRelease k s = .next s') :
    s.SameBut (writes (.excRelease k)) s' :=
  State.sameBut_effect hx (excRelease_outside s k ⟨rfl, fun n => pick 0 ⟨n, rfl⟩, rfl, rfl⟩)

theorem execExcDone_frame {k : Nat} {s s' : State} (hx : execExcDone k s = .next s') :
    s.SameBut (writes (.excDone k)) s' :=
  State.sameBut_effect hx (excDone_outside s k ⟨⟨rfl, rfl, rfl, pick 0 rfl⟩, rfl, fun n => pick 1 ⟨n, rfl⟩, rfl, fun n => pick 2 ⟨n, rfl⟩⟩)

theorem execExcMonitorSample_frame {k : Nat} {vmon : BitVec 16} {imon : BitVec 16} {limit : Bool} {sense : Bool} {s s' : State} (hx : execExcMonitorSample k vmon imon limit sense s = .next s') :
    s.SameBut (writes (.excMonitorSample k vmon imon limit sense)) s' :=
  State.sameBut_effect hx (excMonitorSample_outside s k vmon imon limit sense ⟨⟨rfl, rfl, rfl, pick 0 rfl⟩, rfl, fun n => pick 1 ⟨n, rfl⟩, rfl, fun n => pick 2 ⟨n, rfl⟩, rfl, pick 3 rfl, rfl, fun n => pick 4 ⟨n, rfl⟩, rfl, pick 5 rfl, rfl, pick 6 rfl, rfl, pick 7 rfl, rfl, pick 8 rfl, rfl, pick 9 rfl, rfl, pick 10 rfl, rfl, pick 11 rfl, pick 12 rfl, pick 13 rfl, pick 14 rfl, fun n => pick 15 ⟨n, rfl⟩⟩)

theorem execExcFault_frame {k : Nat} {b : Nat} {s s' : State} (hx : execExcFault k b s = .next s') :
    s.SameBut (writes (.excFault k b)) s' :=
  State.sameBut_effect hx (excFault_outside s k b ⟨⟨rfl, rfl, rfl, pick 0 rfl⟩, rfl, fun n => pick 1 ⟨n, rfl⟩, rfl, pick 2 rfl, rfl, fun n => pick 3 ⟨n, rfl⟩, rfl, pick 4 rfl, rfl, pick 5 rfl, rfl, pick 6 rfl, rfl, pick 7 rfl, rfl, pick 8 rfl, rfl, pick 9 rfl, rfl, pick 10 rfl, rfl, pick 11 rfl, pick 12 rfl, pick 13 rfl, fun n => pick 14 ⟨n, rfl⟩⟩)

theorem execCheckerSlotBoundary_frame {bank : Nat} {overload : Bool} {s s' : State} (hx : execCheckerSlotBoundary bank overload s = .next s') :
    s.SameBut (writes (.checkerSlotBoundary bank overload)) s' :=
  State.sameBut_effect hx (checkerSlotBoundary_outside s bank overload ⟨rfl, fun n => pick 0 ⟨n, rfl⟩, rfl⟩)

theorem execCheckerResult_frame {bank : Nat} {r : BitVec 32} {owP : Bool} {owN : Bool} {s s' : State} (hx : execCheckerResult bank r owP owN s = .next s') :
    s.SameBut (writes (.checkerResult bank r owP owN)) s' :=
  State.sameBut_effect hx (checkerResult_outside s bank r owP owN ⟨⟨rfl, rfl, rfl, pick 11 rfl⟩, rfl, fun n => pick 0 ⟨n, rfl⟩, rfl, fun n => pick 1 ⟨n, rfl⟩, rfl, fun n => pick 2 ⟨n, rfl⟩, rfl, fun n => pick 3 ⟨n, rfl⟩, rfl, pick 4 rfl, rfl, fun n m => pick 5 ⟨n, m, rfl⟩, rfl, fun n m => pick 6 ⟨n, m, rfl⟩, rfl, fun n m => pick 7 ⟨n, m, rfl⟩, rfl, fun n m => pick 8 ⟨n, m, rfl⟩, rfl, fun n m => pick 9 ⟨n, m, rfl⟩, fun n m => pick 10 ⟨n, m, rfl⟩, pick 12 rfl, fun n => pick 13 ⟨n, rfl⟩, pick 14 rfl, pick 15 rfl, pick 16 rfl, fun n => pick 17 ⟨n, rfl⟩, pick 18 rfl, pick 19 rfl, pick 20 rfl, pick 21 rfl, pick 22 rfl, pick 23 rfl, pick 24 rfl, fun n m => pick 25 ⟨n, m, rfl⟩⟩)

theorem execCheckerCycleEnd_frame {bank : Nat} {s s' : State} (hx : execCheckerCycleEnd bank s = .next s') :
    s.SameBut (writes (.checkerCycleEnd bank)) s' :=
  State.sameBut_effect hx (checkerCycleEnd_outside s bank ⟨⟨rfl, rfl, rfl, pick 5 rfl⟩, rfl, fun n => pick 0 ⟨n, rfl⟩, rfl, fun n => pick 1 ⟨n, rfl⟩, rfl, fun n => pick 2 ⟨n, rfl⟩, rfl, fun n => pick 3 ⟨n, rfl⟩, rfl, fun n m => pick 4 ⟨n, m, rfl⟩, rfl, pick 6 rfl, rfl, fun n => pick 7 ⟨n, rfl⟩, rfl, pick 8 rfl, rfl, pick 9 rfl, rfl, pick 10 rfl, rfl, pick 11 rfl, pick 12 rfl, pick 13 rfl, pick 14 rfl, pick 15 rfl, pick 16 rfl, pick 17 rfl, pick 18 rfl⟩)

theorem execBankCfgWrite_frame {bank : Nat} {i : Nat} {v : Word} {s s' : State} (hx : execBankCfgWrite bank i v s = .next s') :
    s.SameBut (writes (.bankCfgWrite bank i v)) s' :=
  State.sameBut_effect hx (State.whenOpen_outside (bankCfgWrite_outside s bank i v ⟨⟨rfl, rfl, rfl, pick 5 rfl⟩, rfl, fun n => pick 0 ⟨n, rfl⟩, rfl, fun n => pick 1 ⟨n, rfl⟩, rfl, fun n m => pick 2 ⟨n, m, rfl⟩, rfl, pick 3 rfl, rfl, pick 4 rfl, rfl, pick 6 rfl, rfl, fun n => pick 7 ⟨n, rfl⟩, rfl, pick 8 rfl, rfl, pick 9 rfl, pick 10 rfl, pick 11 rfl, pick 12 rfl, pick 13 rfl, pick 14 rfl, pick 15 rfl, pick 16 rfl, pick 17 rfl, fun n m => pick 18 ⟨n, m, rfl⟩⟩))

theorem execNativeSample_frame {n : Nat} {r : BitVec 20} {s s' : State} (hx : execNativeSample n r s = .next s') :
    s.SameBut (writes (.nativeSample n r)) s' :=
  State.sameBut_effect hx (nativeSample_outside s n r ⟨⟨rfl, rfl, rfl, pick 0 rfl⟩, rfl, pick 1 rfl, rfl, fun n => pick 2 ⟨n, rfl⟩, rfl, pick 3 rfl, rfl, pick 4 rfl, rfl, pick 5 rfl, rfl, fun n => pick 6 ⟨n, rfl⟩, rfl, pick 7 rfl, rfl, pick 8 rfl, rfl, pick 9 rfl, rfl, pick 10 rfl, rfl, pick 11 rfl, rfl, pick 12 rfl, rfl, pick 13 rfl, pick 14 rfl, pick 15 rfl, fun n => pick 16 ⟨n, rfl⟩, fun n => pick 17 ⟨n, rfl⟩⟩)

theorem execWOverrangeLeave_frame {n : Nat} {s s' : State} (hx : execWOverrangeLeave n s = .next s') :
    s.SameBut (writes (.wOverrangeLeave n)) s' :=
  State.sameBut_effect hx (wOverrangeLeave_outside s n ⟨⟨rfl, rfl, rfl, pick 0 rfl⟩, rfl, rfl⟩)

theorem execWConverterStart_frame {n : Nat} {s s' : State} (hx : execWConverterStart n s = .next s') :
    s.SameBut (writes (.wConverterStart n)) s' :=
  State.sameBut_effect hx (wConverterStart_outside s n ⟨rfl, pick 0 rfl, rfl, pick 1 rfl, fun n => pick 2 ⟨n, rfl⟩, fun n => pick 3 ⟨n, rfl⟩⟩)

theorem execWConverterReady_frame {n : Nat} {s s' : State} (hx : execWConverterReady n s = .next s') :
    s.SameBut (writes (.wConverterReady n)) s' :=
  State.sameBut_effect hx (wConverterReady_outside s n ⟨rfl, fun n => pick 0 ⟨n, rfl⟩, rfl, rfl, rfl, rfl⟩)

theorem execWConverterStop_frame {n : Nat} {s s' : State} (hx : execWConverterStop n s = .next s') :
    s.SameBut (writes (.wConverterStop n)) s' :=
  State.sameBut_effect hx (wConverterStop_outside s n ⟨rfl, fun n => pick 0 ⟨n, rfl⟩, rfl⟩)

theorem execWchCfgWrite_frame {n : Nat} {v : Word} {s s' : State} (hx : execWchCfgWrite n v s = .next s') :
    s.SameBut (writes (.wchCfgWrite n v)) s' :=
  State.sameBut_effect hx (State.whenOpen_outside (wchCfgWrite_outside s n v ⟨rfl, pick 0 rfl, rfl, pick 1 rfl, rfl, fun n => pick 2 ⟨n, rfl⟩, rfl, fun n => pick 3 ⟨n, rfl⟩, rfl, fun n => pick 4 ⟨n, rfl⟩, rfl, rfl⟩))

theorem execBaselineWindow_frame {h : Nat} {s s' : State} (hx : execBaselineWindow h s = .next s') :
    s.SameBut (writes (.baselineWindow h)) s' :=
  State.sameBut_effect hx (baselineWindow_outside s h ⟨rfl, fun n => pick 0 ⟨n, rfl⟩, rfl⟩)

theorem execWmTransition_frame {i : Nat} {state : Nat} {t : Time} {s s' : State} (hx : execWmTransition i state t s = .next s') :
    s.SameBut (writes (.wmTransition i state t)) s' :=
  State.sameBut_effect hx (wmTransition_outside s i state t ⟨⟨rfl, rfl, rfl, pick 0 rfl⟩, rfl, fun n => pick 1 ⟨n, rfl⟩, rfl, pick 2 rfl, rfl, fun n => pick 3 ⟨n, rfl⟩, rfl, pick 4 rfl, rfl, pick 5 rfl, rfl, pick 6 rfl, rfl, pick 7 rfl, rfl, pick 8 rfl, rfl, pick 9 rfl, rfl, fun n => pick 10 ⟨n, rfl⟩, rfl, fun n => pick 11 ⟨n, rfl⟩, rfl, fun n => pick 12 ⟨n, rfl⟩, rfl, fun n => pick 13 ⟨n, rfl⟩, fun n => pick 14 ⟨n, rfl⟩⟩)

theorem execWmResolve_frame {i : Nat} {state : Nat} {s s' : State} (hx : execWmResolve i state s = .next s') :
    s.SameBut (writes (.wmResolve i state)) s' :=
  State.sameBut_effect hx (wmResolve_outside s i state (fun n => pick 0 ⟨n, rfl⟩))

theorem execWmCfgWrite_frame {i : Nat} {th : Bool} {v : Word} {s s' : State} (hx : execWmCfgWrite i th v s = .next s') :
    s.SameBut (writes (.wmCfgWrite i th v)) s' :=
  State.sameBut_effect hx (State.whenOpen_outside (wmCfgWrite_outside s i th v ⟨⟨rfl, rfl, rfl, pick 2 rfl⟩, rfl, pick 0 rfl, rfl, pick 1 rfl, rfl, pick 3 rfl, rfl, fun n => pick 4 ⟨n, rfl⟩, rfl, pick 5 rfl, rfl, pick 6 rfl, rfl, pick 7 rfl, rfl, pick 8 rfl, rfl, pick 9 rfl, rfl, pick 10 rfl, rfl, pick 11 rfl, pick 12 rfl, pick 13 rfl, pick 14 rfl, fun n => pick 15 ⟨n, rfl⟩, fun n => pick 16 ⟨n, rfl⟩, fun n => pick 17 ⟨n, rfl⟩⟩))

theorem execWmTimeLoRead_frame {who : Reader} {i : Nat} {s s' : State} (hx : execWmTimeLoRead who i s = .next s') :
    s.SameBut (writes (.wmTimeLoRead who i)) s' :=
  State.sameBut_effect hx (State.whenOpen_outside (wmTimeLoRead_outside s who i ⟨rfl, fun n => pick 0 ⟨n, rfl⟩, rfl⟩))

theorem execWmTimeHiRead_frame {who : Reader} {i : Nat} {s s' : State} (hx : execWmTimeHiRead who i s = .next s') :
    s.SameBut (writes (.wmTimeHiRead who i)) s' :=
  State.sameBut_effect hx (State.whenOpen_outside (wmTimeHiRead_outside s who i ⟨rfl, fun n => pick 0 ⟨n, rfl⟩⟩))

theorem execHcCrossing_frame {h : Nat} {x : Crossing} {s s' : State} (hx : execHcCrossing h x s = .next s') :
    s.SameBut (writes (.hcCrossing h x)) s' :=
  State.sameBut_effect hx (hcCrossing_outside s h x ⟨⟨rfl, rfl, rfl, pick 0 rfl⟩, rfl, fun n => pick 1 ⟨n, rfl⟩, rfl, pick 2 rfl, rfl, fun n => pick 3 ⟨n, rfl⟩, rfl, fun n => pick 4 ⟨n, rfl⟩, rfl, fun n => pick 5 ⟨n, rfl⟩, rfl, fun n => pick 6 ⟨n, rfl⟩, rfl, pick 7 rfl, rfl, pick 8 rfl, rfl, pick 9 rfl, rfl, pick 10 rfl, rfl, pick 11 rfl, rfl, pick 12 rfl, rfl, fun n => pick 13 ⟨n, rfl⟩, rfl⟩)

theorem execHit_frame {h : Nat} {s s' : State} (hx : execHit h s = .next s') :
    s.SameBut (writes (.hit h)) s' :=
  State.sameBut_effect hx (hitEnds_outside s h ⟨⟨rfl, rfl, rfl, pick 0 rfl⟩, rfl, fun n => pick 1 ⟨n, rfl⟩, rfl, fun n => pick 2 ⟨n, rfl⟩⟩)

theorem execHitTruncated_frame {h : Nat} {s s' : State} (hx : execHitTruncated h s = .next s') :
    s.SameBut (writes (.hitTruncated h)) s' :=
  State.sameBut_effect hx (hitTruncated_outside s h ⟨⟨rfl, rfl, rfl, pick 0 rfl⟩, rfl, fun n => pick 1 ⟨n, rfl⟩, rfl, fun n => pick 2 ⟨n, rfl⟩⟩)

theorem execHcLockoutEnd_frame {lock : TestDue} {s s' : State} (hx : execHcLockoutEnd lock s = .next s') :
    s.SameBut (writes (.hcLockoutEnd lock)) s' :=
  State.sameBut_effect hx (hcLockoutEnd_outside s lock.unit lock.deciding ⟨rfl, fun n => pick 0 ⟨n, rfl⟩, rfl⟩)

theorem execCompSelfTest_frame {test : TestDue} {s s' : State} (hx : execCompSelfTest test s = .next s') :
    s.SameBut (writes (.compSelfTest test)) s' :=
  State.sameBut_effect hx (compSelfTest_outside s test.unit test.deciding ⟨rfl, rfl⟩)

theorem execCompTestRelease_frame {u : Nat} {failed : Option Nat} {t : Time} {differs : Option Nat} {s s' : State} (hx : execCompTestRelease u failed t differs s = .next s') :
    s.SameBut (writes (.compTestRelease u failed t differs)) s' :=
  State.sameBut_effect hx (compTestRelease_outside s u failed t differs ⟨⟨rfl, rfl, rfl, pick 0 rfl⟩, rfl, fun n => pick 1 ⟨n, rfl⟩, rfl, pick 2 rfl, rfl, fun n => pick 3 ⟨n, rfl⟩, rfl, fun n => pick 4 ⟨n, rfl⟩, rfl, pick 5 rfl, rfl, pick 6 rfl, rfl, pick 7 rfl, rfl, pick 8 rfl, rfl, pick 9 rfl, rfl, pick 10 rfl, rfl, pick 11 rfl, rfl, pick 12 rfl, rfl, pick 13 rfl, rfl, pick 14 rfl, rfl, pick 15 rfl, rfl, pick 16 rfl, rfl, pick 17 rfl, rfl, pick 18 rfl, fun n => pick 19 ⟨n, rfl⟩, fun n => pick 20 ⟨n, rfl⟩, fun n => pick 21 ⟨n, rfl⟩, fun n => pick 22 ⟨n, rfl⟩, fun n => pick 23 ⟨n, rfl⟩⟩)

theorem execCompUntested_frame {u : Nat} {s s' : State} (hx : execCompUntested u s = .next s') :
    s.SameBut (writes (.compUntested u)) s' :=
  State.sameBut_effect hx (compUntested_outside s u ⟨⟨rfl, rfl, rfl, pick 0 rfl⟩, rfl, pick 1 rfl, rfl, fun n => pick 2 ⟨n, rfl⟩, rfl, fun n => pick 3 ⟨n, rfl⟩, rfl, pick 4 rfl, rfl, pick 5 rfl, rfl, pick 6 rfl, rfl, pick 7 rfl, rfl, pick 8 rfl, pick 9 rfl, pick 10 rfl, pick 11 rfl, pick 12 rfl, pick 13 rfl, fun n => pick 14 ⟨n, rfl⟩⟩)

theorem execSyncInEdge_frame {t : Time} {rising : Bool} {s s' : State} (hx : execSyncInEdge t rising s = .next s') :
    s.SameBut (writes (.syncInEdge t rising)) s' :=
  State.sameBut_effect hx (syncInEdge_outside s t rising ⟨⟨rfl, rfl, rfl, pick 0 rfl⟩, rfl, fun n => pick 1 ⟨n, rfl⟩, rfl, pick 2 rfl, rfl, fun n => pick 3 ⟨n, rfl⟩, rfl, pick 4 rfl, rfl, pick 5 rfl, rfl, pick 6 rfl, rfl, pick 7 rfl, rfl, pick 8 rfl, rfl, pick 9 rfl, rfl, fun n => pick 10 ⟨n, rfl⟩, rfl⟩)

theorem execStartScheduleTimer_frame {n : Nat} {s s' : State} (hx : execStartScheduleTimer n s = .next s') :
    s.SameBut (writes (.startScheduleTimer n)) s' :=
  State.sameBut_effect hx (startScheduleTimer_outside s n rfl)

theorem execStartFired_frame {n : Nat} {s s' : State} (hx : execStartFired n s = .next s') :
    s.SameBut (writes (.startFired n)) s' :=
  State.sameBut_effect hx (startFired_outside s n ⟨⟨rfl, rfl, rfl, pick 0 rfl⟩, rfl, fun n => pick 1 ⟨n, rfl⟩, rfl, pick 2 rfl, rfl, pick 3 rfl, rfl, pick 4 rfl, rfl, fun n => pick 5 ⟨n, rfl⟩, rfl⟩)

theorem execStartUnitIdle_frame {n : Nat} {s s' : State} (hx : execStartUnitIdle n s = .next s') :
    s.SameBut (writes (.startUnitIdle n)) s' :=
  State.sameBut_effect hx (startUnitIdle_outside s n ⟨rfl, fun n => pick 0 ⟨n, rfl⟩⟩)

theorem execNodeReady_frame {node : Nat} {s s' : State} (hx : execNodeReady node s = .next s') :
    s.SameBut (writes (.nodeReady node)) s' :=
  State.sameBut_effect hx (nodeReady_outside s node ⟨⟨rfl, rfl, rfl, pick 3 rfl⟩, rfl, pick 0 rfl, rfl, pick 1 rfl, rfl, pick 2 rfl, rfl, fun n => pick 4 ⟨n, rfl⟩, rfl, pick 5 rfl, rfl, pick 6 rfl, rfl, pick 7 rfl, pick 8 rfl, pick 9 rfl, pick 10 rfl, pick 11 rfl, pick 12 rfl⟩)

theorem execInvocationStart_frame {c : Nat} {s s' : State} (hx : execInvocationStart c s = .next s') :
    s.SameBut (writes (.invocationStart c)) s' :=
  State.sameBut_effect hx (invocationStart_outside s c ⟨⟨rfl, rfl, rfl, pick 1 rfl⟩, rfl, fun n => pick 0 ⟨n, rfl⟩, rfl, pick 2 rfl, rfl, pick 3 rfl, pick 4 rfl, pick 5 rfl, pick 6 rfl⟩)

theorem execInvocationDone_frame {c : Nat} {cycles : Nat} {differs : Option Nat} {s s' : State} (hx : execInvocationDone c cycles differs s = .next s') :
    s.SameBut (writes (.invocationDone c cycles differs)) s' :=
  State.sameBut_effect hx (invocationDone_outside s c cycles differs ⟨⟨rfl, rfl, rfl, pick 7 rfl⟩, rfl, pick 0 rfl, rfl, fun n => pick 1 ⟨n, rfl⟩, rfl, fun n => pick 2 ⟨n, rfl⟩, rfl, fun n => pick 3 ⟨n, rfl⟩, rfl, fun n => pick 4 ⟨n, rfl⟩, rfl, fun n => pick 5 ⟨n, rfl⟩, rfl, fun n => pick 6 ⟨n, rfl⟩, rfl, pick 8 rfl, rfl, fun n => pick 9 ⟨n, rfl⟩, rfl, pick 10 rfl, rfl, pick 11 rfl, rfl, pick 12 rfl, rfl, fun n => pick 13 ⟨n, rfl⟩, rfl, pick 14 rfl, rfl, fun n => pick 15 ⟨n, rfl⟩, rfl, pick 16 rfl, rfl, pick 17 rfl, rfl, pick 18 rfl, rfl, pick 19 rfl, pick 20 rfl, pick 21 rfl, pick 22 rfl, pick 23 rfl, pick 24 rfl, pick 25 rfl, pick 26 rfl, pick 27 rfl, pick 28 rfl, pick 29 rfl, pick 30 rfl, pick 31 rfl, pick 32 rfl, pick 33 rfl, fun n => pick 34 ⟨n, rfl⟩⟩)

theorem execClusterSelfTest_frame {c : Nat} {pass : Bool} {s s' : State} (hx : execClusterSelfTest c pass s = .next s') :
    s.SameBut (writes (.clusterSelfTest c pass)) s' :=
  State.sameBut_effect hx (clusterSelfTest_outside s c pass ⟨⟨rfl, rfl, rfl, pick 7 rfl⟩, rfl, pick 0 rfl, rfl, fun n => pick 1 ⟨n, rfl⟩, rfl, fun n => pick 2 ⟨n, rfl⟩, rfl, fun n => pick 3 ⟨n, rfl⟩, rfl, fun n => pick 4 ⟨n, rfl⟩, rfl, fun n => pick 5 ⟨n, rfl⟩, rfl, fun n => pick 6 ⟨n, rfl⟩, rfl, pick 8 rfl, rfl, pick 9 rfl, fun n => pick 10 ⟨n, rfl⟩, pick 11 rfl, pick 12 rfl, pick 13 rfl, pick 14 rfl, pick 15 rfl, pick 16 rfl, pick 17 rfl⟩)

theorem execClCtrlTest_frame {c : Nat} {s s' : State} (hx : execClCtrlTest c s = .next s') :
    s.SameBut (writes (.clCtrlTest c)) s' :=
  State.sameBut_effect hx (State.whenOpen_outside (Eq.trans (clCtrlTest_outside (s.reachIf (hasCl s.fac.variant c) (2 + c)) c ⟨rfl, fun n => pick 4 ⟨n, rfl⟩, pick 6 rfl, pick 7 rfl⟩) (State.reachIf_outside s _ _ ⟨⟨rfl, rfl, rfl, pick 8 rfl⟩, rfl, pick 0 rfl, rfl, pick 1 rfl, rfl, pick 2 rfl, rfl, pick 3 rfl, rfl, fun n => pick 5 ⟨n, rfl⟩, rfl, pick 9 rfl, rfl, pick 10 rfl, rfl, pick 11 rfl, rfl, pick 12 rfl, rfl, pick 13 rfl, rfl, pick 14 rfl, pick 15 rfl, pick 16 rfl, fun n => pick 17 ⟨n, rfl⟩, pick 18 rfl, pick 19 rfl, pick 20 rfl, fun n => pick 21 ⟨n, rfl⟩, pick 22 rfl⟩)))

theorem execClCtrlOffline_frame {c : Nat} {s s' : State} (hx : execClCtrlOffline c s = .next s') :
    s.SameBut (writes (.clCtrlOffline c)) s' :=
  State.sameBut_effect hx (State.whenOpen_outside (Eq.trans (clCtrlOffline_outside (s.reachIf (hasCl s.fac.variant c) (2 + c)) c ⟨⟨rfl, rfl, rfl, pick 13 rfl⟩, rfl, pick 0 rfl, rfl, fun n => pick 4 ⟨n, rfl⟩, rfl, fun n => pick 5 ⟨n, rfl⟩, rfl, fun n => pick 6 ⟨n, rfl⟩, rfl, fun n => pick 7 ⟨n, rfl⟩, rfl, fun n => pick 8 ⟨n, rfl⟩, rfl, fun n => pick 9 ⟨n, rfl⟩, rfl, fun n => pick 10 ⟨n, rfl⟩, rfl, pick 11 rfl, pick 12 rfl, pick 26 rfl, pick 27 rfl, fun n => pick 29 ⟨n, rfl⟩, pick 30 rfl, pick 31 rfl, pick 32 rfl, pick 33 rfl, pick 34 rfl, pick 35 rfl, pick 36 rfl⟩) (State.reachIf_outside s _ _ ⟨⟨rfl, rfl, rfl, pick 13 rfl⟩, rfl, pick 0 rfl, rfl, pick 1 rfl, rfl, pick 2 rfl, rfl, pick 3 rfl, rfl, fun n => pick 8 ⟨n, rfl⟩, rfl, pick 14 rfl, rfl, pick 15 rfl, rfl, pick 16 rfl, rfl, pick 17 rfl, rfl, pick 18 rfl, rfl, pick 19 rfl, pick 20 rfl, pick 21 rfl, fun n => pick 22 ⟨n, rfl⟩, pick 23 rfl, pick 24 rfl, pick 25 rfl, fun n => pick 28 ⟨n, rfl⟩, pick 31 rfl⟩)))

theorem execClusterFault_frame {c : Nat} {cause : Nat} {s s' : State} (hx : execClusterFault c cause s = .next s') :
    s.SameBut (writes (.clusterFault c cause)) s' :=
  State.sameBut_effect hx (clusterFaultSeen_outside s c cause ⟨⟨rfl, rfl, rfl, pick 7 rfl⟩, rfl, pick 0 rfl, rfl, fun n => pick 1 ⟨n, rfl⟩, rfl, fun n => pick 2 ⟨n, rfl⟩, rfl, fun n => pick 3 ⟨n, rfl⟩, rfl, fun n => pick 4 ⟨n, rfl⟩, rfl, fun n => pick 5 ⟨n, rfl⟩, rfl, fun n => pick 6 ⟨n, rfl⟩, rfl, fun n => pick 8 ⟨n, rfl⟩, rfl, pick 9 rfl, pick 10 rfl, pick 11 rfl, fun n => pick 12 ⟨n, rfl⟩, pick 13 rfl, pick 14 rfl, pick 15 rfl, pick 16 rfl, pick 17 rfl, pick 18 rfl, pick 19 rfl⟩)

theorem execClusterReplaced_frame {c : Nat} {duration : Nat} {s s' : State} (hx : execClusterReplaced c duration s = .next s') :
    s.SameBut (writes (.clusterReplaced c duration)) s' :=
  State.sameBut_effect hx (clusterReplaced_outside s c duration ⟨⟨rfl, rfl, rfl, pick 9 rfl⟩, rfl, pick 0 rfl, rfl, pick 1 rfl, rfl, pick 2 rfl, rfl, pick 3 rfl, rfl, fun n => pick 4 ⟨n, rfl⟩, rfl, fun n => pick 5 ⟨n, rfl⟩, rfl, fun n => pick 6 ⟨n, rfl⟩, rfl, fun n => pick 7 ⟨n, rfl⟩, rfl, fun n => pick 8 ⟨n, rfl⟩, rfl, pick 10 rfl, rfl, pick 11 rfl, rfl, pick 12 rfl, rfl, pick 13 rfl, pick 14 rfl, fun n => pick 15 ⟨n, rfl⟩, pick 16 rfl, pick 17 rfl, pick 18 rfl, pick 19 rfl, pick 20 rfl, pick 21 rfl, fun n => pick 22 ⟨n, rfl⟩, pick 23 rfl, pick 24 rfl, pick 25 rfl, pick 26 rfl, pick 27 rfl, pick 28 rfl, pick 29 rfl, pick 30 rfl⟩)

theorem execAgeMsExpiry_frame {sid : Nat} {s s' : State} (hx : execAgeMsExpiry sid s = .next s') :
    s.SameBut (writes (.ageMsExpiry sid)) s' :=
  State.sameBut_effect hx (ageMsExpiry_outside s sid ⟨rfl, pick 0 rfl⟩)

theorem execBlockWrite_frame {sid : Nat} {s s' : State} (hx : execBlockWrite sid s = .next s') :
    s.SameBut (writes (.blockWrite sid)) s' :=
  State.sameBut_effect hx (blockWrite_outside s sid ⟨⟨rfl, rfl, rfl, pick 4 rfl⟩, rfl, pick 0 rfl, rfl, pick 1 rfl, rfl, pick 2 rfl, rfl, pick 3 rfl, rfl, pick 5 rfl, rfl, fun n => pick 6 ⟨n, rfl⟩, rfl, pick 7 rfl, rfl, pick 8 rfl, pick 9 rfl, fun n => pick 10 ⟨n, rfl⟩, fun n => pick 11 ⟨n, rfl⟩, pick 12 rfl, pick 13 rfl, pick 14 rfl, pick 15 rfl⟩)

theorem execStagingFull_frame {sid : Nat} {s s' : State} (hx : execStagingFull sid s = .next s') :
    s.SameBut (writes (.stagingFull sid)) s' :=
  State.sameBut_effect hx (stagingFull_outside s sid ⟨⟨rfl, rfl, rfl, pick 0 rfl⟩, rfl, pick 1 rfl, pick 2 rfl⟩)

theorem execFlushBurst_frame {s s' : State} (hx : execFlushBurst s = .next s') :
    s.SameBut (writes (.flushBurst)) s' :=
  State.sameBut_effect hx (flushBurst_outside s ⟨⟨rfl, rfl, rfl, pick 6 rfl⟩, rfl, pick 0 rfl, rfl, pick 1 rfl, rfl, pick 2 rfl, rfl, pick 3 rfl, rfl, pick 4 rfl, rfl, fun n => pick 5 ⟨n, rfl⟩, rfl, pick 7 rfl, rfl, pick 8 rfl, rfl, pick 9 rfl, rfl, pick 10 rfl, rfl, pick 11 rfl, pick 12 rfl, pick 13 rfl, pick 14 rfl, fun n => pick 15 ⟨n, rfl⟩, pick 16 rfl, pick 17 rfl, pick 18 rfl, pick 19 rfl, pick 20 rfl, fun n => pick 21 ⟨n, rfl⟩, fun n => pick 22 ⟨n, rfl⟩, pick 23 rfl, pick 24 rfl, pick 25 rfl, pick 26 rfl, pick 27 rfl⟩)

theorem execBlockSend_frame {sid : Nat} {head : List Nat} {index : Option Bool} {data : List (Nat × Nat)} {s s' : State} (hx : execBlockSend sid head index data s = .next s') :
    s.SameBut (writes (.blockSend sid head index data)) s' :=
  State.sameBut_effect hx (blockSend_outside s sid head index data ⟨⟨rfl, rfl, rfl, pick 0 rfl⟩, rfl, pick 1 rfl, rfl, pick 2 rfl, rfl, pick 3 rfl, rfl, pick 4 rfl, rfl, pick 5 rfl, rfl, fun n => pick 6 ⟨n, rfl⟩, rfl, pick 7 rfl, rfl, fun n => pick 8 ⟨n, rfl⟩, rfl, pick 9 rfl, pick 10 rfl, pick 11 rfl, fun n => pick 12 ⟨n, rfl⟩⟩)

theorem execDramRequest_frame {ch : Nat} {loads stores : List (Nat × Nat)} {s s' : State} (hx : execDramRequest ch loads stores s = .next s') :
    s.SameBut (writes (.dramRequest ch loads stores)) s' :=
  State.sameBut_effect hx (dramRequest_outside s ch (dramArrivals loads stores) ⟨⟨rfl, rfl, rfl, pick 0 rfl⟩, rfl, pick 1 rfl, rfl, pick 2 rfl, rfl, fun n => pick 3 ⟨n, rfl⟩, rfl, fun n => pick 4 ⟨n, rfl⟩, rfl, fun n => pick 5 ⟨n, rfl⟩, fun n => pick 6 ⟨n, rfl⟩, pick 7 rfl, pick 8 rfl⟩)

theorem execRefreshDue_frame {ch : Nat} {s s' : State} (hx : execRefreshDue ch s = .next s') :
    s.SameBut (writes (.refreshDue ch)) s' :=
  State.sameBut_effect hx (refreshDue_outside s ch ⟨rfl, pick 0 rfl, rfl⟩)

theorem execRefreshCatchup_frame {ch : Nat} {s s' : State} (hx : execRefreshCatchup ch s = .next s') :
    s.SameBut (writes (.refreshCatchup ch)) s' :=
  State.sameBut_effect hx (refreshCatchup_outside s ch ⟨rfl, pick 0 rfl, rfl⟩)

theorem execDramTempRead_frame {temp : BitVec 16} {s s' : State} (hx : execDramTempRead temp s = .next s') :
    s.SameBut (writes (.dramTempRead temp)) s' :=
  State.sameBut_effect hx (dramTempRead_outside s temp ⟨rfl, pick 0 rfl, pick 1 rfl⟩)

theorem execRefreshWindowStart_frame {s s' : State} (hx : execRefreshWindowStart s = .next s') :
    s.SameBut (writes (.refreshWindowStart)) s' :=
  State.sameBut_effect hx (refreshWindowStart_outside s ⟨rfl, rfl⟩)

theorem execPowerDownEntry_frame {ch : Nat} {s s' : State} (hx : execPowerDownEntry ch s = .next s') :
    s.SameBut (writes (.powerDownEntry ch)) s' :=
  State.sameBut_effect hx (powerDownEntry_outside s ch rfl)

theorem execSelfRefreshEntry_frame {s s' : State} (hx : execSelfRefreshEntry s = .next s') :
    s.SameBut (writes (.selfRefreshEntry)) s' :=
  State.sameBut_effect hx (selfRefreshEntry_outside s ⟨⟨rfl, rfl, rfl, pick 0 rfl⟩, rfl, pick 1 rfl, rfl, pick 2 rfl, rfl, pick 3 rfl, rfl, pick 4 rfl, rfl, pick 5 rfl, pick 6 rfl, pick 7 rfl, fun n => pick 8 ⟨n, rfl⟩, pick 9 rfl, pick 10 rfl, pick 11 rfl⟩)

theorem execMpllStop_frame {s s' : State} (hx : execMpllStop s = .next s') :
    s.SameBut (writes (.mpllStop)) s' :=
  State.sameBut_effect hx (mpllStop_outside s ⟨rfl, pick 0 rfl⟩)

theorem execSelfRefreshExit_frame {s s' : State} (hx : execSelfRefreshExit s = .next s') :
    s.SameBut (writes (.selfRefreshExit)) s' :=
  State.sameBut_effect hx (selfRefreshExit_outside s ⟨⟨rfl, rfl, rfl, pick 1 rfl⟩, rfl, pick 0 rfl, rfl, pick 2 rfl, rfl, pick 3 rfl, rfl, pick 4 rfl, rfl, pick 5 rfl, rfl, pick 6 rfl, pick 7 rfl, pick 8 rfl, pick 9 rfl, fun n => pick 10 ⟨n, rfl⟩, pick 11 rfl, pick 12 rfl, pick 13 rfl⟩)

theorem execPeriodicTraining_frame {ch : Nat} {s s' : State} (hx : execPeriodicTraining ch s = .next s') :
    s.SameBut (writes (.periodicTraining ch)) s' :=
  State.sameBut_effect hx (periodicTraining_outside s ch ⟨rfl, pick 0 rfl⟩)

theorem execFullTraining_frame {ch : Nat} {s s' : State} (hx : execFullTraining ch s = .next s') :
    s.SameBut (writes (.fullTraining ch)) s' :=
  State.sameBut_effect hx (fullTraining_outside s ch ⟨⟨rfl, rfl, rfl, pick 0 rfl⟩, rfl, pick 1 rfl, rfl, pick 2 rfl, rfl, pick 3 rfl, rfl, pick 4 rfl, rfl, pick 5 rfl, rfl, pick 6 rfl, pick 7 rfl, fun n => pick 8 ⟨n, rfl⟩, pick 9 rfl, pick 10 rfl, pick 11 rfl⟩)

theorem execTrainingDone_frame {ch : Nat} {ok : Bool} {s s' : State} (hx : execTrainingDone ch ok s = .next s') :
    s.SameBut (writes (.trainingDone ch ok)) s' :=
  State.sameBut_effect hx (trainingDone_outside s ch ok ⟨⟨rfl, rfl, rfl, pick 0 rfl⟩, rfl, pick 1 rfl, rfl, pick 2 rfl, rfl, pick 3 rfl, rfl, pick 4 rfl, rfl, pick 5 rfl, rfl, pick 6 rfl, rfl, pick 7 rfl, rfl, pick 8 rfl, rfl, pick 9 rfl, rfl, fun n => pick 10 ⟨n, rfl⟩, rfl, pick 11 rfl, pick 12 rfl, pick 13 rfl, pick 14 rfl, fun n => pick 15 ⟨n, rfl⟩, pick 16 rfl, pick 17 rfl, pick 18 rfl, pick 19 rfl, pick 20 rfl, pick 21 rfl, pick 22 rfl⟩)

theorem execDrcCfgWrite_frame {v : Word} {s s' : State} (hx : execDrcCfgWrite v s = .next s') :
    s.SameBut (writes (.drcCfgWrite v)) s' :=
  State.sameBut_effect hx (State.whenOpen_outside (Eq.trans (drcCfgWrite_outside (s.reach 7) v ⟨⟨rfl, rfl, rfl, pick 5 rfl⟩, rfl, pick 6 rfl, rfl, pick 7 rfl, rfl, pick 8 rfl, rfl, pick 10 rfl, rfl, pick 11 rfl, rfl, pick 12 rfl, rfl, pick 13 rfl, rfl, pick 14 rfl, pick 15 rfl, fun n => pick 16 ⟨n, rfl⟩, pick 17 rfl, pick 18 rfl, pick 19 rfl⟩) (State.reach_outside s _ ⟨⟨rfl, rfl, rfl, pick 5 rfl⟩, rfl, pick 0 rfl, rfl, pick 1 rfl, rfl, pick 2 rfl, rfl, pick 3 rfl, rfl, fun n => pick 4 ⟨n, rfl⟩, rfl, pick 6 rfl, rfl, pick 9 rfl, rfl, pick 10 rfl, rfl, pick 11 rfl, rfl, pick 12 rfl, rfl, pick 13 rfl, pick 14 rfl, pick 15 rfl, fun n => pick 16 ⟨n, rfl⟩, pick 17 rfl, pick 18 rfl, pick 19 rfl, fun n => pick 20 ⟨n, rfl⟩, pick 21 rfl⟩)))

theorem execOpPointChange_frame {s s' : State} (hx : execOpPointChange s = .next s') :
    s.SameBut (writes (.opPointChange)) s' :=
  State.sameBut_effect hx (opPointChange_outside s ⟨⟨rfl, rfl, rfl, pick 0 rfl⟩, rfl, pick 1 rfl, rfl, pick 2 rfl, rfl, pick 3 rfl, rfl, pick 4 rfl, rfl, pick 5 rfl, rfl, pick 6 rfl, pick 7 rfl, pick 8 rfl, fun n => pick 9 ⟨n, rfl⟩, pick 10 rfl, pick 11 rfl, pick 12 rfl⟩)

theorem execDrcFreqDone_frame {end_ : ChangeEnd} {s s' : State} (hx : execDrcFreqDone end_ s = .next s') :
    s.SameBut (writes (.drcFreqDone end_)) s' :=
  State.sameBut_effect hx (drcFreqDone_outside s end_ ⟨⟨rfl, rfl, rfl, pick 0 rfl⟩, rfl, pick 1 rfl, rfl, pick 2 rfl, rfl, pick 3 rfl, rfl, pick 4 rfl, rfl, pick 5 rfl, rfl, pick 6 rfl, rfl, pick 7 rfl, rfl, pick 8 rfl, rfl, pick 9 rfl, rfl, pick 10 rfl, rfl, fun n => pick 11 ⟨n, rfl⟩, rfl, pick 12 rfl, rfl, pick 13 rfl, rfl, pick 14 rfl, rfl, pick 15 rfl, fun n => pick 16 ⟨n, rfl⟩, pick 17 rfl, pick 18 rfl, pick 19 rfl, fun n => pick 20 ⟨n, rfl⟩, fun n => pick 21 ⟨n, rfl⟩, fun n => pick 22 ⟨n, rfl⟩, pick 23 rfl, pick 24 rfl, pick 25 rfl, pick 26 rfl, pick 27 rfl, pick 28 rfl, pick 29 rfl⟩)

theorem execDrcPortTgtWrite_frame {p : Nat} {v : Word} {s s' : State} (hx : execDrcPortTgtWrite p v s = .next s') :
    s.SameBut (writes (.drcPortTgtWrite p v)) s' :=
  State.sameBut_effect hx (State.whenOpen_outside (Eq.trans (drcPortTgtWrite_outside (s.reach 7) p v ⟨rfl, fun n => pick 7 ⟨n, rfl⟩, rfl, pick 9 rfl⟩) (State.reach_outside s _ ⟨⟨rfl, rfl, rfl, pick 5 rfl⟩, rfl, pick 0 rfl, rfl, pick 1 rfl, rfl, pick 2 rfl, rfl, pick 3 rfl, rfl, fun n => pick 4 ⟨n, rfl⟩, rfl, pick 6 rfl, rfl, pick 8 rfl, rfl, pick 9 rfl, rfl, pick 10 rfl, rfl, pick 11 rfl, rfl, pick 12 rfl, pick 13 rfl, pick 14 rfl, fun n => pick 15 ⟨n, rfl⟩, pick 16 rfl, pick 17 rfl, pick 18 rfl, fun n => pick 19 ⟨n, rfl⟩, pick 20 rfl⟩)))

theorem execDramCellRead_frame {port : Nat} {cell : Nat} {flips : List Nat} {s s' : State} (hx : execDramCellRead port cell flips s = .next s') :
    s.SameBut (writes (.dramCellRead port cell flips)) s' :=
  State.sameBut_effect hx (dramCellRead_outside s port cell flips ⟨⟨rfl, rfl, rfl, pick 0 rfl⟩, rfl, pick 1 rfl, rfl, pick 2 rfl, rfl, pick 3 rfl, rfl, pick 4 rfl, rfl, pick 5 rfl, rfl, fun n => pick 6 ⟨n, rfl⟩, rfl, pick 7 rfl, rfl, pick 8 rfl, rfl, pick 9 rfl, pick 10 rfl, fun n => pick 11 ⟨n, rfl⟩, pick 12 rfl, pick 13 rfl, pick 14 rfl, pick 15 rfl, pick 16 rfl, pick 17 rfl, pick 18 rfl⟩)

theorem execEccWriteback_frame {cell : Nat} {s s' : State} (hx : execEccWriteback cell s = .next s') :
    s.SameBut (writes (.eccWriteback cell)) s' :=
  State.sameBut_effect hx (eccWriteback_outside s cell ⟨⟨rfl, rfl, rfl, pick 0 rfl⟩, rfl, pick 1 rfl, rfl, fun n => pick 2 ⟨n, rfl⟩, pick 3 rfl⟩)

theorem execFullCellWrite_frame {port : Nat} {cell : Nat} {data : Nat} {attr : Nat} {poison : Bool} {s s' : State} (hx : execFullCellWrite port cell data attr poison s = .next s') :
    s.SameBut (writes (.fullCellWrite port cell data attr poison)) s' :=
  State.sameBut_effect hx (fullCellWrite_outside s port cell data attr poison ⟨rfl, pick 0 rfl, rfl, fun n => pick 1 ⟨n, rfl⟩, pick 2 rfl⟩)

theorem execNarrowWrite_frame {port : Nat} {cell : Nat} {data : Nat} {mask : Nat} {s s' : State} (hx : execNarrowWrite port cell data mask s = .next s') :
    s.SameBut (writes (.narrowWrite port cell data mask)) s' :=
  State.sameBut_effect hx (narrowWrite_outside s port cell data mask ⟨⟨rfl, rfl, rfl, pick 0 rfl⟩, rfl, pick 1 rfl, rfl, pick 2 rfl, rfl, pick 3 rfl, pick 4 rfl, pick 5 rfl, fun n => pick 6 ⟨n, rfl⟩, pick 7 rfl, pick 8 rfl, pick 9 rfl⟩)

theorem execMergeFlush_frame {cell : Nat} {flips : List Nat} {s s' : State} (hx : execMergeFlush cell flips s = .next s') :
    s.SameBut (writes (.mergeFlush cell flips)) s' :=
  State.sameBut_effect hx (mergeFlush_outside s cell flips ⟨⟨rfl, rfl, rfl, pick 0 rfl⟩, rfl, pick 1 rfl, rfl, pick 2 rfl, rfl, pick 3 rfl, pick 4 rfl, pick 5 rfl, fun n => pick 6 ⟨n, rfl⟩, pick 7 rfl, pick 8 rfl, pick 9 rfl⟩)

theorem execScrubRead_frame {flips : List Nat} {s s' : State} (hx : execScrubRead flips s = .next s') :
    s.SameBut (writes (.scrubRead flips)) s' :=
  State.sameBut_effect hx (scrubRead_outside s flips ⟨⟨rfl, rfl, rfl, pick 0 rfl⟩, rfl, pick 1 rfl, rfl, pick 2 rfl, rfl, pick 3 rfl, rfl, pick 4 rfl, pick 5 rfl, fun n => pick 6 ⟨n, rfl⟩, pick 7 rfl, pick 8 rfl, pick 9 rfl, pick 10 rfl, pick 11 rfl⟩)

theorem execEccScrubLapDone_frame {s s' : State} (hx : execEccScrubLapDone s = .next s') :
    s.SameBut (writes (.eccScrubLapDone)) s' :=
  State.sameBut_effect hx (eccScrubLapDone_outside s ⟨⟨rfl, rfl, rfl, pick 0 rfl⟩, rfl, pick 1 rfl⟩)

theorem execSramRead_frame {region : Nat} {addr : Nat} {ue : Bool} {s s' : State} (hx : execSramRead region addr ue s = .next s') :
    s.SameBut (writes (.sramRead region addr ue)) s' :=
  State.sameBut_effect hx (sramRead_outside s region addr ue ⟨⟨rfl, rfl, rfl, pick 7 rfl⟩, rfl, pick 0 rfl, rfl, fun n => pick 1 ⟨n, rfl⟩, rfl, fun n => pick 2 ⟨n, rfl⟩, rfl, fun n => pick 3 ⟨n, rfl⟩, rfl, fun n => pick 4 ⟨n, rfl⟩, rfl, fun n => pick 5 ⟨n, rfl⟩, rfl, fun n => pick 6 ⟨n, rfl⟩, rfl, fun n => pick 8 ⟨n, rfl⟩, rfl, fun n => pick 9 ⟨n, rfl⟩, rfl, pick 10 rfl, rfl, pick 11 rfl, rfl, pick 12 rfl, rfl, fun n => pick 13 ⟨n, rfl⟩, rfl, pick 14 rfl, rfl, pick 15 rfl, pick 16 rfl, pick 17 rfl, pick 18 rfl, pick 19 rfl, pick 20 rfl, pick 21 rfl, pick 22 rfl, pick 23 rfl⟩)

theorem execEccLogClr_frame {s s' : State} (hx : execEccLogClr s = .next s') :
    s.SameBut (writes (.eccLogClr)) s' :=
  State.sameBut_effect hx (State.whenOpen_outside (eccLogClr_outside s ⟨rfl, pick 0 rfl⟩))

theorem execEccLogSel_frame {who : Reader} {i : Nat} {s s' : State} (hx : execEccLogSel who i s = .next s') :
    s.SameBut (writes (.eccLogSel who i)) s' :=
  State.sameBut_effect hx (State.whenOpen_outside (eccLogSel_outside s who i ⟨rfl, pick 0 rfl⟩))

theorem execEccInjArm_frame {v : Word} {s s' : State} (hx : execEccInjArm v s = .next s') :
    s.SameBut (writes (.eccInjArm v)) s' :=
  State.sameBut_effect hx (State.whenOpen_outside (eccInjArm_outside s v ⟨rfl, pick 0 rfl, rfl, pick 1 rfl⟩))

theorem execAbsentUnitWrite_frame {who : Reader} {off : Nat} {s s' : State} (hx : execAbsentUnitWrite who off s = .next s') :
    s.SameBut (writes (.absentUnitWrite who off)) s' :=
  State.sameBut_effect hx (absentUnitWrite_outside s who off ⟨pick 0 rfl, pick 1 rfl⟩)

theorem execDevAbsentWrClear_frame {also : Option (Reader × Nat)} {s s' : State} (hx : execDevAbsentWrClear also s = .next s') :
    s.SameBut (writes (.devAbsentWrClear also)) s' :=
  State.sameBut_effect hx (devAbsentWrClear_outside s also ⟨pick 0 rfl, pick 1 rfl⟩)

theorem execReadClear_frame {who : Reader} {off : Nat} {size : Nat} {s s' : State} (hx : execReadClear who off size s = .next s') :
    s.SameBut (writes (.readClear who off size)) s' :=
  State.sameBut_effect hx (readClear_outside s who off size (⟨pick 2 rfl, pick 0 rfl, pick 1 rfl⟩) ⟨⟨rfl, rfl, rfl, pick 9 rfl⟩, rfl, pick 3 rfl, rfl, pick 4 rfl, rfl, pick 5 rfl, rfl, pick 6 rfl, rfl, pick 7 rfl, rfl, fun n => pick 8 ⟨n, rfl⟩, rfl, pick 10 rfl, rfl, fun n => pick 11 ⟨n, rfl⟩, rfl, pick 12 rfl, rfl, pick 13 rfl, rfl, pick 14 rfl, rfl, pick 15 rfl, rfl, pick 16 rfl, rfl, pick 17 rfl, rfl, pick 18 rfl, fun n => pick 19 ⟨n, rfl⟩, pick 20 rfl, pick 21 rfl, pick 22 rfl, pick 23 rfl, pick 24 rfl, fun n => pick 25 ⟨n, rfl⟩, fun n => pick 26 ⟨n, rfl⟩, pick 27 rfl, pick 28 rfl, pick 29 rfl⟩)

theorem execRegisterWrite_frame {who : Reader} {off : Nat} {size : Nat} {data : Nat} {s s' : State} (hx : execRegisterWrite who off size data s = .next s') :
    s.SameBut (writes (.registerWrite who off size data)) s' :=
  State.sameBut_all hx

theorem execJtagExtest_frame {on : Bool} {levels : List Bool} {s s' : State} (hx : execJtagExtest on levels s = .next s') :
    s.SameBut (writes (.jtagExtest on levels)) s' :=
  State.sameBut_all hx

theorem execModeTimerOnEnd_frame {s s' : State} (hx : execModeTimerOnEnd s = .next s') :
    s.SameBut (writes (.modeTimerOnEnd)) s' :=
  State.sameBut_effect hx (modeTimerOnEnd_outside s ⟨rfl, pick 0 rfl⟩)

theorem execWakeCauseDropped_frame {s s' : State} (hx : execWakeCauseDropped s = .next s') :
    s.SameBut (writes (.wakeCauseDropped)) s' :=
  State.sameBut_effect hx (wakeCauseDropped_outside s rfl)

theorem execPcieLinkReturn_frame {s s' : State} (hx : execPcieLinkReturn s = .next s') :
    s.SameBut (writes (.pcieLinkReturn)) s' :=
  State.sameBut_effect hx (pcieLinkReturn_outside s (pick 0 rfl))

theorem execThermalEmergencyEnd_frame {tj : BitVec 16} {s s' : State} (hx : execThermalEmergencyEnd tj s = .next s') :
    s.SameBut (writes (.thermalEmergencyEnd tj)) s' :=
  State.sameBut_effect hx (thermalEmergencyEnd_outside s tj ⟨⟨rfl, rfl, rfl, pick 0 rfl⟩, rfl, pick 1 rfl, rfl, pick 2 rfl, pick 3 rfl, pick 4 rfl, pick 5 rfl, pick 6 rfl, pick 7 rfl⟩)

theorem execSafSupChange_frame {i : Nat} {out : Bool} {s s' : State} (hx : execSafSupChange i out s = .next s') :
    s.SameBut (writes (.safSupChange i out)) s' :=
  State.sameBut_effect hx (safSupChange_outside s i out ⟨rfl, pick 0 rfl, rfl⟩)

end Sys2Proof.Machine
end

