-- ==== Sys2Proof/WellFormed.lean ====
section
/-!
DEFINITION. Which commands are well formed: every operand within the range that the spec gives what it names (unit numbers by R1 and R447, fields of
descriptors by R390, of packets by R351 to R353). The machine is total on all commands; an ill-formed one is an event that the device has no input for.
-/
namespace Sys2Proof

/-- A reader's fabric address has 12 bits. -/
def Reader.wellFormed : Reader → Bool
  | .pcie | .mc => true
  | .fabric a => decide (a < 4096)

end Sys2Proof

namespace Sys2Proof.Machine

/-- A command's source: the ring, or a device by its 12-bit address. -/
def CmdSrc.wellFormed : CmdSrc → Bool
  | .ring => true
  | .remote a => decide (a < 4096)

/-- A packet's header fields have their widths (R351 to R353), with at most 16 payload flits of 240 bits. -/
def Packet.wellFormed (p : Packet) : Bool :=
  decide (p.ptype < 16) && decide (p.dst < 4096) && decide (p.src < 4096) && decide (p.age < 2 ^ 16) && decide (p.epoch < 2) &&
  decide (p.tspec < 2 ^ 55) && decide (p.payload.length ≤ 16) && p.payload.all (fun x => decide (x < 2 ^ 240))

/-- A link section's fields have their widths (R351). -/
def LinkSec.fits (l : LinkSec) : Bool :=
  decide (l.ack < 256) && l.cr.length == 3 && l.cr.all (fun n => decide (n < 32)) && decide (l.txt < 2 ^ 32) && decide (l.echo < 2 ^ 32) &&
  decide (l.res < 2 ^ 20) && decide (l.adv < 256)

/-- An election key (R357): PRIO has 4 bits, the die ID 64. -/
def Key.wellFormed (k : Key) : Bool := decide (k.prio < 16) && decide (k.die < 2 ^ 64)

end Sys2Proof.Machine

namespace Sys2Proof
open Machine

/-- Whether every operand of a command lies in its range. -/
def Instr.wellFormed : Instr → Bool
  | .powerOn => true
  | .coldResetEnd => true
  | .railBelowCold => true
  | .perstNAssert => true
  | .perstNRelease => true
  | .supplyFault rail mv => decide (rail < 9) && decide (mv < 2 ^ 16)
  | .referenceMonitorTrip mv => decide (mv < 2 ^ 16)
  | .causeClearTimer cause => decide (cause < 15)
  | .smonLockstepMismatch => true
  | .outputFault ball _ => decide (ball < 5)
  | .alarmEvaluate => true
  | .alarmHoldExpiry output trig => decide (output < 4) && decide (trig < 256)
  | .safAlmAck n => decide (n < 4)
  | .safAlmCfgWrite n i _ => decide (n < 4) && decide (i < 4)
  | .safForceSafe => true
  | .safForceAlm v => decide (v < 16)
  | .bootReferenceAcquired src => decide (src < 5)
  | .bootSelfTests march _ dram => decide (march < 32) && dram.failed.all (fun q => decide (q.1 < 2) && decide (q.2 < 3))
  | .imageValidation _ _ _ _ => true
  | .fwStartTimeout => true
  | .semanticValidation _ _ => true
  | .bootDone => true
  | .bootRetry => true
  | .flReleaseWrite _ => true
  | .mcWdogKick who => who.wellFormed
  | .mcWatchdogExpiry _ => true
  | .mcRestart => true
  | .mcSaturated load => decide (load < 2 ^ 16)
  | .mcSatClear load => decide (load < 2 ^ 16)
  | .cmdDoorbell tail => decide (tail < 4096)
  | .descriptorFetch _ _ => true
  | .modeSet src tag target => src.wellFormed && decide (tag < 2 ^ 16) && decide (target < 256)
  | .safeExit src tag target => src.wellFormed && decide (tag < 2 ^ 16) && decide (target < 256)
  | .reload src tag => src.wellFormed && decide (tag < 2 ^ 16)
  | .paramSet src tag node word _ _ => src.wellFormed && decide (tag < 2 ^ 16) && decide (node < 256) && decide (word < 256)
  | .regRead src tag target size off =>
    src.wellFormed && decide (tag < 2 ^ 16) && decide (target < 4096) && decide (size < 256) && decide (off < 2 ^ 32)
  | .regWrite src tag target size off data =>
    src.wellFormed && decide (tag < 2 ^ 16) && decide (target < 4096) && decide (size < 256) && decide (off < 2 ^ 32) &&
    decide (data < 2 ^ 64)
  | .streamOpen src tag p => src.wellFormed && decide (tag < 2 ^ 16) && decide (p.sid < 2 ^ 16)
  | .streamClose src tag sid => src.wellFormed && decide (tag < 2 ^ 16) && decide (sid < 2 ^ 16)
  | .capture src tag p => src.wellFormed && decide (tag < 2 ^ 16) && decide (p.sources.length < 9)
  | .snapshotArm src tag _ id _ => src.wellFormed && decide (tag < 2 ^ 16) && decide (id < 2 ^ 16)
  | .chkConvert src tag bank point window _ =>
    src.wellFormed && decide (tag < 2 ^ 16) && decide (bank < 256) && decide (point < 256) && decide (window < 2 ^ 32)
  | .calSystemZero src tag ch n => src.wellFormed && decide (tag < 2 ^ 16) && decide (ch < 256) && decide (n < 256)
  | .calSystemFull src tag ch n t =>
    src.wellFormed && decide (tag < 2 ^ 16) && decide (ch < 256) && decide (n < 256) && decide (-(2 ^ 39) ≤ t) && decide (t < 2 ^ 39)
  | .calCommit src tag => src.wellFormed && decide (tag < 2 ^ 16)
  | .completion => true
  | .onDemandSlotDone bank _ _ _ => decide (bank < 8)
  | .calMeasureDone bank => decide (bank < 8)
  | .calApplied bank => decide (bank < 8)
  | .calCommitDone end_ => end_.fail.all (fun f => decide (f.1 < 2))
  | .calEntryReload key _ => decide (key < 560)
  | .modeChangeInstant => true
  | .modeChange => true
  | .modeTimerOn => true
  | .surveyIdleExpiry => true
  | .burstHoldExpiry => true
  | .burstExhausted => true
  | .thermalCeil _ => true
  | .thermalEmergency _ => true
  | .wakeGatePass => true
  | .powerStateSleep => true
  | .deepEntry => true
  | .runBurstStart => true
  | .gateTimeout gate => decide (gate < 16)
  | .deepEntryRetry => true
  | .gatedAccess gate => decide (gate < 16)
  | .pacerEvaluate energy _ => energy.length == 6
  | .pacerWindowStart => true
  | .invocationDeadline node _ => decide (node < 256)
  | .clkSourceLoss => true
  | .clkHoldoverEnd => true
  | .clkMissing => true
  | .clkReturn => true
  | .candidateReadyChange c _ => decide (c < 5)
  | .clkSrcWrite _ => true
  | .clkSwitch => true
  | .linkSignal p => decide (p < 4)
  | .linkTrained p => decide (p < 4)
  | .linkUp p => decide (p < 4)
  | .linkDown p cause => decide (p < 4) && decide (cause < 16)
  | .linkRetrain p => decide (p < 4)
  | .dataFlitRx p _ => decide (p < 4)
  | .replayTimeout p => decide (p < 4)
  | .hello p adv key nport naddr => decide (p < 4) && decide (adv < 2 ^ 12) && key.wellFormed && decide (nport < 4) && decide (naddr < 4096)
  | .elect p key _ => decide (p < 4) && key.wellFormed
  | .electionWin => true
  | .rate p code => decide (p < 4) && decide (code < 4)
  | .rateSwitch p => decide (p < 4)
  | .lost p die => decide (die < 2 ^ 64) && decide (p < 4)
  | .offer p _ die => decide (die < 2 ^ 64) && decide (p < 4)
  | .clkRepair => true
  | .baton => true
  | .readPacketRx pkt => pkt.wellFormed
  | .writePacketRx pkt => pkt.wellFormed
  | .responseRx pkt => pkt.wellFormed
  | .requestTimeout tag => decide (tag < 2048)
  | .commandPacketRx origin tag _ => decide (origin < 4096) && decide (tag < 256)
  | .eventPacketRx origin tag r => decide (origin < 4096) && decide (tag < 256) && decide (r.type < 2 ^ 16)
  | .eventAckRx origin tag => decide (origin < 4096) && decide (tag < 256)
  | .streamReqRx pkt => pkt.wellFormed
  | .streamGrantRx pkt => pkt.wellFormed
  | .streamDataRx pkt => pkt.wellFormed
  | .streamAckRx pkt => pkt.wellFormed
  | .streamResend sid => decide (sid < 1024)
  | .info die tag => decide (die < 2 ^ 64) && decide (tag < 256)
  | .setAddr die addr => decide (die < 2 ^ 64) && decide (addr < 4096)
  | .rtWrite die entries => decide (die < 2 ^ 64) && entries.all (fun e => decide (e.1 < 4096))
  | .roles die manager standby root successor _ _ depth ecc =>
    decide (die < 2 ^ 64) && decide (manager < 4096) && decide (standby < 4096) && decide (root < 4096) &&
    decide (successor < 4096) && decide (depth < 32) && decide (ecc < 32)
  | .clkSel die sel => decide (die < 2 ^ 64) && decide (sel < 8)
  | .heartbeat die => decide (die < 2 ^ 64)
  | .heartbeatSend => true
  | .mirror die topo => decide (die < 2 ^ 64) && topo.all (fun d => decide (d.addr < 4096))
  | .mgmtRspRx tag dev => decide (tag < 256) && decide (dev.addr < 4096)
  | .discoveryDone topo _ given diameter => topo.all (fun d => decide (d.addr < 4096)) && given.length == 4 && decide (diameter < 32)
  | .reroute topo _ _ plan => topo.all (fun d => decide (d.addr < 4096)) && plan.moves.all (fun m => decide (m.1 < 4096) && decide (m.2 < 5))
  | .tableCommit _ => true
  | .tableSwitch => true
  | .bankRetire => true
  | .standbyTakeover => true
  | .fabChurn => true
  | .vcStall p vc _ => decide (p < 4) && decide (vc < 3)
  | .vcResumed mask => decide (mask < 2 ^ 16)
  | .reelect => true
  | .fabricJoin p _ _ => decide (p < 4)
  | .timeExchange p flow times adv _ => decide (p < 4) && (LinkSec.mk flow times adv).fits
  | .ptmSample _ => true
  | .ppsInEdge _ => true
  | .timeLost => true
  | .timeStep _ _ => true
  | .timeStepApply => true
  | .starter _ id origin => decide (id < 2 ^ 16) && decide (origin < 4096)
  | .snapshotLatch => true
  | .snapDone => true
  | .syncOutSecond _ => true
  | .pcieL0 => true
  | .pcieLinkDown => true
  | .d3hotEntry _ => true
  | .msixSend v => decide (v < 16)
  | .bar2Read addr _ => decide (addr < 2 ^ 28)
  | .bar2Write addr _ => decide (addr < 2 ^ 28)
  | .hrCfgEnable r _ => decide (r < 32)
  | .hrTailWrite r v => decide (r < 32) && decide (v < 2 ^ 25)
  | .hostRingBlockWrite r => decide (r < 32)
  | .hostRingStall r => decide (r < 32)
  | .cmdRingEnable _ => true
  | .eqCfgEnable q _ => decide (q < 4)
  | .eqTailWrite q v => decide (q < 4) && decide (v < 2 ^ 16)
  | .eventRecordWrite => true
  | .eventDeferredDelivery => true
  | .rateLimitIntervalEnd type _ => decide (type < 2 ^ 16)
  | .baseSample raws => raws.all (fun r => decide (r.ch < 64))
  | .fusionUnchecked n => decide (n < 64)
  | .fusDiffUpdate n => decide (n < 64)
  | .overrangeLeave n => decide (n < 64)
  | .pinRange n _ _ => decide (n < 72)
  | .inputClamp n _ _ => decide (n < 72)
  | .cfgChange n => decide (n < 64)
  | .monitorOutput n => decide (n < 64)
  | .staticOutput n => decide (n < 64)
  | .seismicOutput n => decide (n < 64)
  | .mainsLost n => decide (n < 64)
  | .resHiRead who i => who.wellFormed && decide (i < 72)
  | .resLoRead who i => who.wellFormed && decide (i < 72)
  | .res64Read who i => who.wellFormed && decide (i < 72)
  | .pchCfgWrite n _ => decide (n < 64)
  | .pchFusCfgWrite n _ => decide (n < 64)
  | .pchPlausThWrite n _ => decide (n < 64)
  | .pchFmtWrite n _ => decide (n < 64)
  | .pchStaticCfgWrite n _ => decide (n < 64)
  | .pchSeisCfgWrite n _ => decide (n < 64)
  | .excCtrlModeWrite k _ => decide (k < 16)
  | .excFire k => decide (k < 16)
  | .excLevelWrite k _ => decide (k < 16)
  | .excRampEnd k => decide (k < 16)
  | .excPolarityEdge k => decide (k < 16)
  | .excPeriodTimer k => decide (k < 16)
  | .excStart k => decide (k < 16)
  | .excRelease k => decide (k < 16)
  | .excDone k => decide (k < 16)
  | .excMonitorSample k _ _ _ _ => decide (k < 16)
  | .excFault k b => decide (k < 16) && decide (b < 8)
  | .checkerSlotBoundary bank _ => decide (bank < 8)
  | .checkerResult bank _ _ _ => decide (bank < 8)
  | .checkerCycleEnd bank => decide (bank < 8)
  | .bankCfgWrite bank i _ => decide (bank < 8) && decide (i < 5)
  | .nativeSample n _ => decide (n < 8)
  | .wOverrangeLeave n => decide (n < 8)
  | .wConverterStart n => decide (n < 8)
  | .wConverterReady n => decide (n < 8)
  | .wConverterStop n => decide (n < 8)
  | .wchCfgWrite n _ => decide (n < 8)
  | .baselineWindow h => decide (h < 8)
  | .wmTransition i state _ => decide (i < 72) && decide (state < 4)
  | .wmResolve i state => decide (i < 72) && decide (state < 4)
  | .wmCfgWrite i _ _ => decide (i < 72)
  | .wmTimeLoRead who i => who.wellFormed && decide (i < 72)
  | .wmTimeHiRead who i => who.wellFormed && decide (i < 72)
  | .hcCrossing h _ => decide (h < 8)
  | .hit h => decide (h < 8)
  | .hitTruncated h => decide (h < 8)
  | .hcLockoutEnd lock => decide (lock.unit < 8)
  | .compSelfTest test => decide (test.unit < 80)
  | .compTestRelease u _ _ _ => decide (u < 80)
  | .compUntested u => decide (u < 80)
  | .syncInEdge _ _ => true
  | .startScheduleTimer n => decide (n < 8)
  | .startFired n => decide (n < 8)
  | .startUnitIdle n => decide (n < 8)
  | .nodeReady node => decide (node < 256)
  | .invocationStart c => decide (c < 4)
  | .invocationDone c _ _ => decide (c < 4)
  | .clusterSelfTest c _ => decide (c < 4)
  | .clCtrlTest c => decide (c < 4)
  | .clCtrlOffline c => decide (c < 4)
  | .clusterFault c _ => decide (c < 4)
  | .clusterReplaced c _ => decide (c < 4)
  | .ageMsExpiry sid => decide (sid < 1024)
  | .blockWrite sid => decide (sid < 1024)
  | .stagingFull sid => decide (sid < 1024)
  | .flushBurst => true
  | .blockSend sid head _ data => decide (sid < 1024) && head.all (fun b => decide (b < 256)) && data.all (fun f => decide (f.2 < 256))
  | .dramRequest ch _ _ => decide (ch < 2)
  | .refreshDue ch => decide (ch < 2)
  | .refreshCatchup ch => decide (ch < 2)
  | .dramTempRead _ => true
  | .refreshWindowStart => true
  | .powerDownEntry ch => decide (ch < 2)
  | .selfRefreshEntry => true
  | .mpllStop => true
  | .selfRefreshExit => true
  | .periodicTraining ch => decide (ch < 2)
  | .fullTraining ch => decide (ch < 2)
  | .trainingDone ch _ => decide (ch < 2)
  | .drcCfgWrite _ => true
  | .opPointChange => true
  | .drcFreqDone end_ => end_.failed.all (fun ch => decide (ch < 2))
  | .drcPortTgtWrite p _ => decide (p < 6)
  | .dramCellRead port _ flips => decide (port < 6) && flips.all (fun i => decide (i < 256))
  | .eccWriteback _ => true
  | .fullCellWrite port _ data attr _ => decide (port < 6) && decide (data < 2 ^ 240) && decide (attr < 64)
  | .narrowWrite port _ data mask => decide (port < 6) && decide (data < 2 ^ 240) && decide (mask < 2 ^ 60)
  | .mergeFlush _ flips => flips.all (fun i => decide (i < 256))
  | .scrubRead flips => flips.all (fun i => decide (i < 256))
  | .eccScrubLapDone => true
  | .sramRead region _ _ => decide (region < 16)
  | .eccLogClr => true
  | .eccLogSel who i => who.wellFormed && decide (i < 16)
  | .eccInjArm _ => true
  | .absentUnitWrite who off => who.wellFormed && decide (off < 2 ^ 20)
  | .devAbsentWrClear _ => true
  | .readClear who off size => who.wellFormed && decide (off < 2 ^ 20) && decide (1 ≤ size) && decide (size ≤ 8)
  | .registerWrite who off size data =>
    who.wellFormed && decide (off < 2 ^ 20) && decide (1 ≤ size) && decide (size ≤ 8) && decide (data < 2 ^ 64)
  | .jtagExtest _ levels => levels.length == 5
  | .modeTimerOnEnd => true
  | .wakeCauseDropped => true
  | .pcieLinkReturn => true
  | .thermalEmergencyEnd _ => true
  | .safSupChange i _ => decide (i < 10)

end Sys2Proof
end

