-- ==== Sys2Proof/Tests/Slice0.lean ====
section
/-!
SUPPORT. Tests: an ill-formed term for each check of WellFormed, single steps whose result the spec gives, and for each obligation
with hypotheses a state and operands that meet them.
-/

set_option Elab.async false
namespace Sys2Proof.Tests
open Sys2Proof Sys2Proof.Machine

/-! ### Well-formedness -/

theorem test_illFormed_0 : ([
   .supplyFault (9) 0,
   .supplyFault 0 (2 ^ 16),
   .referenceMonitorTrip (2 ^ 16),
   .causeClearTimer (15),
   .outputFault (5) false,
   .alarmHoldExpiry (4) 0,
   .alarmHoldExpiry 0 (256),
   .safAlmAck (4),
   .safAlmCfgWrite (4) 0 0,
   .safAlmCfgWrite 0 (4) 0,
   .safForceAlm (16),
   .bootReferenceAcquired (5),
   .bootSelfTests (32) false { failed := [], bad := [] },
   .bootSelfTests 0 false { failed := [(2, 0)], bad := [] },
   .bootSelfTests 0 false { failed := [(0, 3)], bad := [] },
   .mcWdogKick (.fabric 4096),
   .mcSaturated (2 ^ 16),
   .mcSatClear (2 ^ 16),
   .cmdDoorbell (4096),
   .modeSet (.remote 4096) 0 0] : List Instr).all (fun c => !c.wellFormed) = true := by decide +kernel

theorem test_illFormed_1 : ([
   .modeSet .ring (2 ^ 16) 0,
   .modeSet .ring 0 (256),
   .safeExit (.remote 4096) 0 0,
   .safeExit .ring (2 ^ 16) 0,
   .safeExit .ring 0 (256),
   .reload (.remote 4096) 0,
   .reload .ring (2 ^ 16),
   .paramSet (.remote 4096) 0 0 0 0 0,
   .paramSet .ring (2 ^ 16) 0 0 0 0,
   .paramSet .ring 0 (256) 0 0 0,
   .paramSet .ring 0 0 (256) 0 0,
   .regRead (.remote 4096) 0 0 0 0,
   .regRead .ring (2 ^ 16) 0 0 0,
   .regRead .ring 0 (4096) 0 0,
   .regRead .ring 0 0 (256) 0,
   .regRead .ring 0 0 0 (2 ^ 32),
   .regWrite (.remote 4096) 0 0 0 0 0,
   .regWrite .ring (2 ^ 16) 0 0 0 0,
   .regWrite .ring 0 (4096) 0 0 0,
   .regWrite .ring 0 0 (256) 0 0] : List Instr).all (fun c => !c.wellFormed) = true := by decide +kernel

theorem test_illFormed_2 : ([
   .regWrite .ring 0 0 0 (2 ^ 32) 0,
   .regWrite .ring 0 0 0 0 (2 ^ 64),
   .streamOpen (.remote 4096) 0 { sid := 0, srck := 0, src := 0, segs := 1, dest := 0, dev := 0, hr := 0, ageMs := 1 },
   .streamOpen .ring (2 ^ 16) { sid := 0, srck := 0, src := 0, segs := 1, dest := 0, dev := 0, hr := 0, ageMs := 1 },
   .streamOpen .ring 0 { sid := 65536, srck := 0, src := 0, segs := 1, dest := 0, dev := 0, hr := 0, ageMs := 1 },
   .streamClose (.remote 4096) 0 0,
   .streamClose .ring (2 ^ 16) 0,
   .streamClose .ring 0 (2 ^ 16),
   .capture (.remote 4096) 0 { tStart := 0, durUs := 0, sources := [], hold := false, dest := 0, dev := 0, hr := 0 },
   .capture .ring (2 ^ 16) { tStart := 0, durUs := 0, sources := [], hold := false, dest := 0, dev := 0, hr := 0 },
   .capture .ring 0 { tStart := 0, durUs := 0, sources := [0, 1, 2, 3, 4, 5, 6, 7, 8], hold := false, dest := 0, dev := 0, hr := 0 },
   .snapshotArm (.remote 4096) 0 0 0 false,
   .snapshotArm .ring (2 ^ 16) 0 0 false,
   .snapshotArm .ring 0 0 (2 ^ 16) false,
   .chkConvert (.remote 4096) 0 0 0 0 false,
   .chkConvert .ring (2 ^ 16) 0 0 0 false,
   .chkConvert .ring 0 (256) 0 0 false,
   .chkConvert .ring 0 0 (256) 0 false,
   .chkConvert .ring 0 0 0 (2 ^ 32) false,
   .calSystemZero (.remote 4096) 0 0 0] : List Instr).all (fun c => !c.wellFormed) = true := by decide +kernel

theorem test_illFormed_3 : ([
   .calSystemZero .ring (2 ^ 16) 0 0,
   .calSystemZero .ring 0 (256) 0,
   .calSystemZero .ring 0 0 (256),
   .calSystemFull (.remote 4096) 0 0 0 0,
   .calSystemFull .ring (2 ^ 16) 0 0 0,
   .calSystemFull .ring 0 (256) 0 0,
   .calSystemFull .ring 0 0 (256) 0,
   .calSystemFull .ring 0 0 0 (2 ^ 39),
   .calCommit (.remote 4096) 0,
   .calCommit .ring (2 ^ 16),
   .onDemandSlotDone (8) 0 false {},
   .calMeasureDone (8),
   .calApplied (8),
   .calCommitDone { fail := some (2, 0, 0) },
   .calEntryReload (560) true,
   .gateTimeout (16),
   .gatedAccess (16),
   .pacerEvaluate [] 0,
   .invocationDeadline (256) 0,
   .candidateReadyChange (5) false] : List Instr).all (fun c => !c.wellFormed) = true := by decide +kernel

theorem test_illFormed_4 : ([
   .linkSignal (4),
   .linkTrained (4),
   .linkUp (4),
   .linkDown (4) 0,
   .linkDown 0 (16),
   .linkRetrain (4),
   .dataFlitRx (4) 0,
   .replayTimeout (4),
   .hello (4) 0 { prio := 0, host := false, die := 0 } 0 0,
   .hello 0 (2 ^ 12) { prio := 0, host := false, die := 0 } 0 0,
   .hello 0 0 { prio := 16, host := false, die := 0 } 0 0,
   .hello 0 0 { prio := 0, host := false, die := 0 } (4) 0,
   .hello 0 0 { prio := 0, host := false, die := 0 } 0 (4096),
   .elect (4) { prio := 0, host := false, die := 0 } 0,
   .elect 0 { prio := 16, host := false, die := 0 } 0,
   .rate (4) 0,
   .rate 0 (4),
   .rateSwitch (4),
   .lost 0 (2 ^ 64),
   .lost (4) 0] : List Instr).all (fun c => !c.wellFormed) = true := by decide +kernel

theorem test_illFormed_5 : ([
   .offer 0 0 (2 ^ 64),
   .offer (4) 0 0,
   .readPacketRx { ptype := 16, dst := 0, src := 0 },
   .writePacketRx { ptype := 16, dst := 0, src := 0 },
   .responseRx { ptype := 16, dst := 0, src := 0 },
   .requestTimeout (2048),
   .commandPacketRx (4096) 0 0,
   .commandPacketRx 0 (256) 0,
   .eventPacketRx (4096) 0 { type := 0, unit := 0, time := 0, sev := 0, fields := [] },
   .eventPacketRx 0 (256) { type := 0, unit := 0, time := 0, sev := 0, fields := [] },
   .eventPacketRx 0 0 { type := 65536, unit := 0, time := 0, sev := 0, fields := [] },
   .eventAckRx (4096) 0,
   .eventAckRx 0 (256),
   .streamReqRx { ptype := 16, dst := 0, src := 0 },
   .streamGrantRx { ptype := 16, dst := 0, src := 0 },
   .streamDataRx { ptype := 16, dst := 0, src := 0 },
   .streamAckRx { ptype := 16, dst := 0, src := 0 },
   .streamResend (1024),
   .info (2 ^ 64) 0,
   .info 0 (256)] : List Instr).all (fun c => !c.wellFormed) = true := by decide +kernel

theorem test_illFormed_6 : ([
   .setAddr (2 ^ 64) 0,
   .setAddr 0 (4096),
   .rtWrite (2 ^ 64) [],
   .rtWrite 0 [(4096, 0)],
   .roles (2 ^ 64) 0 0 0 0 0 0 0 0,
   .roles 0 (4096) 0 0 0 0 0 0 0,
   .roles 0 0 (4096) 0 0 0 0 0 0,
   .roles 0 0 0 (4096) 0 0 0 0 0,
   .roles 0 0 0 0 (4096) 0 0 0 0,
   .roles 0 0 0 0 0 0 0 (32) 0,
   .roles 0 0 0 0 0 0 0 0 (32),
   .clkSel (2 ^ 64) 0,
   .clkSel 0 (8),
   .heartbeat (2 ^ 64),
   .mirror (2 ^ 64) [],
   .mirror 0 [{ addr := 4096, die := 0 }],
   .mgmtRspRx (256) { addr := 0, die := 0 },
   .mgmtRspRx 0 { addr := 4096, die := 0 },
   .discoveryDone [{ addr := 4096, die := 0 }] [] [0, 0, 0, 0] 0,
   .discoveryDone [] [] [] 0] : List Instr).all (fun c => !c.wellFormed) = true := by decide +kernel

theorem test_illFormed_7 : ([
   .discoveryDone [] [] [0, 0, 0, 0] (32),
   .reroute [{ addr := 4096, die := 0 }] [] 0 { tables := [], moves := [] },
   .reroute [] [] 0 { tables := [], moves := [(4096, 0)] },
   .reroute [] [] 0 { tables := [], moves := [(0, 5)] },
   .vcStall (4) 0 0,
   .vcStall 0 (3) 0,
   .vcResumed (2 ^ 16),
   .fabricJoin (4) false 0,
   .timeExchange (4) { ack := 0, ackv := false, nak := false, cr := [0, 0, 0] } { txt := 0, echo := 0, res := 0 } 0 0,
   .timeExchange 0 { ack := 256, ackv := false, nak := false, cr := [0, 0, 0] } { txt := 0, echo := 0, res := 0 } 0 0,
   .timeExchange 0 { ack := 0, ackv := false, nak := false, cr := [0, 0] } { txt := 0, echo := 0, res := 0 } 0 0,
   .timeExchange 0 { ack := 0, ackv := false, nak := false, cr := [0, 32, 0] } { txt := 0, echo := 0, res := 0 } 0 0,
   .timeExchange 0 { ack := 0, ackv := false, nak := false, cr := [0, 0, 0] } { txt := 4294967296, echo := 0, res := 0 } 0 0,
   .timeExchange 0 { ack := 0, ackv := false, nak := false, cr := [0, 0, 0] } { txt := 0, echo := 4294967296, res := 0 } 0 0,
   .timeExchange 0 { ack := 0, ackv := false, nak := false, cr := [0, 0, 0] } { txt := 0, echo := 0, res := 1048576 } 0 0,
   .timeExchange 0 { ack := 0, ackv := false, nak := false, cr := [0, 0, 0] } { txt := 0, echo := 0, res := 0 } 256 0,
   .starter 0 (2 ^ 16) 0,
   .starter 0 0 (4096),
   .msixSend (16),
   .bar2Read (2 ^ 28) 0] : List Instr).all (fun c => !c.wellFormed) = true := by decide +kernel

theorem test_illFormed_8 : ([
   .bar2Write (2 ^ 28) [],
   .hrCfgEnable (32) 0,
   .hrTailWrite (32) 0,
   .hrTailWrite 0 (2 ^ 25),
   .hostRingBlockWrite (32),
   .hostRingStall (32),
   .eqCfgEnable (4) 0,
   .eqTailWrite (4) 0,
   .eqTailWrite 0 (2 ^ 16),
   .rateLimitIntervalEnd (2 ^ 16) 0,
   .baseSample [{ ch := 64, rawC := 0, rawF := 0, covl := false, fovl := false }],
   .fusionUnchecked (64),
   .fusDiffUpdate (64),
   .overrangeLeave (64),
   .pinRange (72) false false,
   .inputClamp (72) false false,
   .cfgChange (64),
   .monitorOutput (64),
   .staticOutput (64),
   .seismicOutput (64)] : List Instr).all (fun c => !c.wellFormed) = true := by decide +kernel

theorem test_illFormed_9 : ([
   .mainsLost (64),
   .resHiRead (.fabric 4096) 0,
   .resHiRead .pcie (72),
   .resLoRead (.fabric 4096) 0,
   .resLoRead .pcie (72),
   .res64Read (.fabric 4096) 0,
   .res64Read .pcie (72),
   .pchCfgWrite (64) 0,
   .pchFusCfgWrite (64) 0,
   .pchPlausThWrite (64) 0,
   .pchFmtWrite (64) 0,
   .pchStaticCfgWrite (64) 0,
   .pchSeisCfgWrite (64) 0,
   .excCtrlModeWrite (16) 0,
   .excFire (16),
   .excLevelWrite (16) 0,
   .excRampEnd (16),
   .excPolarityEdge (16),
   .excPeriodTimer (16),
   .excStart (16)] : List Instr).all (fun c => !c.wellFormed) = true := by decide +kernel

theorem test_illFormed_10 : ([
   .excRelease (16),
   .excDone (16),
   .excMonitorSample (16) 0 0 false false,
   .excFault (16) 0,
   .excFault 0 (8),
   .checkerSlotBoundary (8) false,
   .checkerResult (8) 0 false false,
   .checkerCycleEnd (8),
   .bankCfgWrite (8) 0 0,
   .bankCfgWrite 0 (5) 0,
   .nativeSample (8) 0,
   .wOverrangeLeave (8),
   .wConverterStart (8),
   .wConverterReady (8),
   .wConverterStop (8),
   .wchCfgWrite (8) 0,
   .baselineWindow (8),
   .wmTransition (72) 0 0,
   .wmTransition 0 (4) 0,
   .wmResolve (72) 0] : List Instr).all (fun c => !c.wellFormed) = true := by decide +kernel

theorem test_illFormed_11 : ([
   .wmResolve 0 (4),
   .wmCfgWrite (72) false 0,
   .wmTimeLoRead (.fabric 4096) 0,
   .wmTimeLoRead .pcie (72),
   .wmTimeHiRead (.fabric 4096) 0,
   .wmTimeHiRead .pcie (72),
   .hcCrossing (8) { neg := false, at_ := 0 },
   .hit (8),
   .hitTruncated (8),
   .hcLockoutEnd { unit := 8, deciding := false },
   .compSelfTest { unit := 80, deciding := false },
   .compTestRelease (80) none 0 none,
   .compUntested (80),
   .startScheduleTimer (8),
   .startFired (8),
   .startUnitIdle (8),
   .nodeReady (256),
   .invocationStart (4),
   .invocationDone (4) 0 none,
   .clusterSelfTest (4) false] : List Instr).all (fun c => !c.wellFormed) = true := by decide +kernel

theorem test_illFormed_12 : ([
   .clCtrlTest (4),
   .clCtrlOffline (4),
   .clusterFault (4) 0,
   .clusterReplaced (4) 0,
   .ageMsExpiry (1024),
   .blockWrite (1024),
   .stagingFull (1024),
   .blockSend (1024) [] none [],
   .blockSend 0 [256] none [],
   .blockSend 0 [] none [(0, 256)],
   .dramRequest (2) [] [],
   .refreshDue (2),
   .refreshCatchup (2),
   .powerDownEntry (2),
   .periodicTraining (2),
   .fullTraining (2),
   .trainingDone (2) false,
   .drcPortTgtWrite (6) 0,
   .dramCellRead (6) 0 [],
   .dramCellRead 0 0 [256]] : List Instr).all (fun c => !c.wellFormed) = true := by decide +kernel

theorem test_illFormed_13 : ([
   .fullCellWrite (6) 0 0 0 false,
   .fullCellWrite 0 0 (2 ^ 240) 0 false,
   .fullCellWrite 0 0 0 (64) false,
   .narrowWrite (6) 0 0 0,
   .narrowWrite 0 0 (2 ^ 240) 0,
   .narrowWrite 0 0 0 (2 ^ 60),
   .mergeFlush 0 [256],
   .scrubRead [256],
   .sramRead (16) 0 false,
   .eccLogSel (.fabric 4096) 0,
   .eccLogSel .pcie (16),
   .absentUnitWrite (.fabric 4096) 0,
   .absentUnitWrite .pcie (2 ^ 20),
   .readClear (.fabric 4096) 0 4,
   .readClear .pcie (2 ^ 20) 4,
   .readClear .pcie 0 0,
   .registerWrite (.fabric 4096) 0 4 0,
   .registerWrite .pcie (2 ^ 20) 4 0,
   .registerWrite .pcie 0 0 0,
   .registerWrite .pcie 0 4 (2 ^ 64)] : List Instr).all (fun c => !c.wellFormed) = true := by decide +kernel

theorem test_illFormed_14 : ([
   .jtagExtest false [],
   .safSupChange (10) false,
   .drcFreqDone { holding := 0, failed := [2] }] : List Instr).all (fun c => !c.wellFormed) = true := by decide +kernel

theorem test_wellFormed_0 : ([
   .powerOn,
   .coldResetEnd,
   .railBelowCold,
   .perstNAssert,
   .perstNRelease,
   .supplyFault 0 0,
   .referenceMonitorTrip 0,
   .causeClearTimer 0,
   .smonLockstepMismatch,
   .outputFault 0 false,
   .alarmEvaluate,
   .alarmHoldExpiry 0 0,
   .safAlmAck 0,
   .safAlmCfgWrite 0 0 0,
   .safForceSafe,
   .safForceAlm 0,
   .bootReferenceAcquired 0,
   .bootSelfTests 0 false { failed := [], bad := [] },
   .imageValidation false 0 false [],
   .fwStartTimeout] : List Instr).all (fun c => c.wellFormed) = true := by decide +kernel

theorem test_wellFormed_1 : ([
   .semanticValidation 0 [],
   .bootDone,
   .bootRetry,
   .flReleaseWrite false,
   .mcWdogKick .pcie,
   .mcWatchdogExpiry false,
   .mcRestart,
   .mcSaturated 0,
   .mcSatClear 0,
   .cmdDoorbell 0,
   .descriptorFetch 0 false,
   .modeSet .ring 0 0,
   .safeExit .ring 0 0,
   .reload .ring 0,
   .paramSet .ring 0 0 0 0 0,
   .regRead .ring 0 0 0 0,
   .regWrite .ring 0 0 0 0 0,
   .streamOpen .ring 0 { sid := 0, srck := 0, src := 0, segs := 1, dest := 0, dev := 0, hr := 0, ageMs := 1 },
   .streamClose .ring 0 0,
   .capture .ring 0 { tStart := 0, durUs := 0, sources := [], hold := false, dest := 0, dev := 0, hr := 0 }] : List Instr).all (fun c => c.wellFormed) = true := by decide +kernel

theorem test_wellFormed_2 : ([
   .snapshotArm .ring 0 0 0 false,
   .chkConvert .ring 0 0 0 0 false,
   .calSystemZero .ring 0 0 0,
   .calSystemFull .ring 0 0 0 0,
   .calCommit .ring 0,
   .completion,
   .onDemandSlotDone 0 0 false {},
   .calMeasureDone 0,
   .calApplied 0,
   .calCommitDone {},
   .calEntryReload 0 true,
   .modeChangeInstant,
   .modeChange,
   .modeTimerOn,
   .surveyIdleExpiry,
   .burstHoldExpiry,
   .burstExhausted,
   .thermalCeil 0,
   .thermalEmergency 0,
   .wakeGatePass] : List Instr).all (fun c => c.wellFormed) = true := by decide +kernel

theorem test_wellFormed_3 : ([
   .powerStateSleep,
   .deepEntry,
   .runBurstStart,
   .gateTimeout 0,
   .deepEntryRetry,
   .gatedAccess 0,
   .pacerEvaluate [0, 0, 0, 0, 0, 0] 0,
   .pacerWindowStart,
   .invocationDeadline 0 0,
   .clkSourceLoss,
   .clkHoldoverEnd,
   .clkMissing,
   .clkReturn,
   .candidateReadyChange 0 false,
   .clkSrcWrite 0,
   .clkSwitch,
   .linkSignal 0,
   .linkTrained 0,
   .linkUp 0,
   .linkDown 0 0] : List Instr).all (fun c => c.wellFormed) = true := by decide +kernel

theorem test_wellFormed_4 : ([
   .linkRetrain 0,
   .dataFlitRx 0 0,
   .replayTimeout 0,
   .hello 0 0 { prio := 0, host := false, die := 0 } 0 0,
   .elect 0 { prio := 0, host := false, die := 0 } 0,
   .electionWin,
   .rate 0 0,
   .rateSwitch 0,
   .lost 0 0,
   .offer 0 0 0,
   .clkRepair,
   .baton,
   .readPacketRx { ptype := 0, dst := 0, src := 0 },
   .writePacketRx { ptype := 0, dst := 0, src := 0 },
   .responseRx { ptype := 0, dst := 0, src := 0 },
   .requestTimeout 0,
   .commandPacketRx 0 0 0,
   .eventPacketRx 0 0 { type := 0, unit := 0, time := 0, sev := 0, fields := [] },
   .eventAckRx 0 0,
   .streamReqRx { ptype := 0, dst := 0, src := 0 }] : List Instr).all (fun c => c.wellFormed) = true := by decide +kernel

theorem test_wellFormed_5 : ([
   .streamGrantRx { ptype := 0, dst := 0, src := 0 },
   .streamDataRx { ptype := 0, dst := 0, src := 0 },
   .streamAckRx { ptype := 0, dst := 0, src := 0 },
   .streamResend 0,
   .info 0 0,
   .setAddr 0 0,
   .rtWrite 0 [],
   .roles 0 0 0 0 0 0 0 0 0,
   .clkSel 0 0,
   .heartbeat 0,
   .heartbeatSend,
   .mirror 0 [],
   .mgmtRspRx 0 { addr := 0, die := 0 },
   .discoveryDone [] [] [0, 0, 0, 0] 0,
   .reroute [] [] 0 { tables := [], moves := [] },
   .tableCommit 0,
   .tableSwitch,
   .bankRetire,
   .standbyTakeover,
   .fabChurn] : List Instr).all (fun c => c.wellFormed) = true := by decide +kernel

theorem test_wellFormed_6 : ([
   .vcStall 0 0 0,
   .vcResumed 0,
   .reelect,
   .fabricJoin 0 false 0,
   .timeExchange 0 { ack := 0, ackv := false, nak := false, cr := [0, 0, 0] } { txt := 0, echo := 0, res := 0 } 0 0,
   .ptmSample 0,
   .ppsInEdge 0,
   .timeLost,
   .timeStep 0 0,
   .timeStepApply,
   .starter 0 0 0,
   .snapshotLatch,
   .snapDone,
   .syncOutSecond false,
   .pcieL0,
   .pcieLinkDown,
   .d3hotEntry false,
   .msixSend 0,
   .bar2Read 0 0,
   .bar2Write 0 []] : List Instr).all (fun c => c.wellFormed) = true := by decide +kernel

theorem test_wellFormed_7 : ([
   .hrCfgEnable 0 0,
   .hrTailWrite 0 0,
   .hostRingBlockWrite 0,
   .hostRingStall 0,
   .cmdRingEnable 0,
   .eqCfgEnable 0 0,
   .eqTailWrite 0 0,
   .eventRecordWrite,
   .eventDeferredDelivery,
   .rateLimitIntervalEnd 0 0,
   .baseSample [],
   .fusionUnchecked 0,
   .fusDiffUpdate 0,
   .overrangeLeave 0,
   .pinRange 0 false false,
   .inputClamp 0 false false,
   .cfgChange 0,
   .monitorOutput 0,
   .staticOutput 0,
   .seismicOutput 0] : List Instr).all (fun c => c.wellFormed) = true := by decide +kernel

theorem test_wellFormed_8 : ([
   .mainsLost 0,
   .resHiRead .pcie 0,
   .resLoRead .pcie 0,
   .res64Read .pcie 0,
   .pchCfgWrite 0 0,
   .pchFusCfgWrite 0 0,
   .pchPlausThWrite 0 0,
   .pchFmtWrite 0 0,
   .pchStaticCfgWrite 0 0,
   .pchSeisCfgWrite 0 0,
   .excCtrlModeWrite 0 0,
   .excFire 0,
   .excLevelWrite 0 0,
   .excRampEnd 0,
   .excPolarityEdge 0,
   .excPeriodTimer 0,
   .excStart 0,
   .excRelease 0,
   .excDone 0,
   .excMonitorSample 0 0 0 false false] : List Instr).all (fun c => c.wellFormed) = true := by decide +kernel

theorem test_wellFormed_9 : ([
   .excFault 0 0,
   .checkerSlotBoundary 0 false,
   .checkerResult 0 0 false false,
   .checkerCycleEnd 0,
   .bankCfgWrite 0 0 0,
   .nativeSample 0 0,
   .wOverrangeLeave 0,
   .wConverterStart 0,
   .wConverterReady 0,
   .wConverterStop 0,
   .wchCfgWrite 0 0,
   .baselineWindow 0,
   .wmTransition 0 0 0,
   .wmResolve 0 0,
   .wmCfgWrite 0 false 0,
   .wmTimeLoRead .pcie 0,
   .wmTimeHiRead .pcie 0,
   .hcCrossing 0 { neg := false, at_ := 0 },
   .hit 0,
   .hitTruncated 0] : List Instr).all (fun c => c.wellFormed) = true := by decide +kernel

theorem test_wellFormed_10 : ([
   .hcLockoutEnd { unit := 0, deciding := false },
   .compSelfTest { unit := 0, deciding := false },
   .compTestRelease 0 none 0 none,
   .compUntested 0,
   .syncInEdge 0 false,
   .startScheduleTimer 0,
   .startFired 0,
   .startUnitIdle 0,
   .nodeReady 0,
   .invocationStart 0,
   .invocationDone 0 0 none,
   .clusterSelfTest 0 false,
   .clCtrlTest 0,
   .clCtrlOffline 0,
   .clusterFault 0 0,
   .clusterReplaced 0 0,
   .ageMsExpiry 0,
   .blockWrite 0,
   .stagingFull 0,
   .flushBurst] : List Instr).all (fun c => c.wellFormed) = true := by decide +kernel

theorem test_wellFormed_11 : ([
   .blockSend 0 [] none [],
   .dramRequest 0 [] [],
   .refreshDue 0,
   .refreshCatchup 0,
   .dramTempRead 0,
   .refreshWindowStart,
   .powerDownEntry 0,
   .selfRefreshEntry,
   .mpllStop,
   .selfRefreshExit,
   .periodicTraining 0,
   .fullTraining 0,
   .trainingDone 0 false,
   .drcCfgWrite 0,
   .opPointChange,
   .drcFreqDone { holding := 0, failed := [1] },
   .drcPortTgtWrite 0 0,
   .dramCellRead 0 0 [],
   .eccWriteback 0,
   .fullCellWrite 0 0 0 0 false] : List Instr).all (fun c => c.wellFormed) = true := by decide +kernel

theorem test_wellFormed_12 : ([
   .narrowWrite 0 0 0 0,
   .mergeFlush 0 [],
   .scrubRead [],
   .eccScrubLapDone,
   .sramRead 0 0 false,
   .eccLogClr,
   .eccLogSel .pcie 0,
   .eccInjArm 0,
   .absentUnitWrite .pcie 0,
   .devAbsentWrClear none,
   .readClear .pcie 0 4,
   .registerWrite .pcie 0 4 0,
   .jtagExtest false [false, false, false, false, false],
   .modeTimerOnEnd,
   .wakeCauseDropped,
   .pcieLinkReturn,
   .thermalEmergencyEnd 0,
   .safSupChange 0 false] : List Instr).all (fun c => c.wellFormed) = true := by decide +kernel

/-! ### Single steps -/

/-- What a command leaves, where it answers a next state. -/
def after (c : Instr) (s : State) : State :=
  match exec c s with
  | .next t => t
  | _ => s

-- R35: VSET is clamped at 50 000.
theorem test_vset_clamp :
    (after (.excLevelWrite 15 0xFFFF) State.reset).fld (Reg.EXC_LEVEL 15) Fld.EXC_LEVEL_VSET = 50000 := by decide +kernel

-- R49: PCH_ID of PCH5 reads type 0x50, version 0x01, instance 5.
theorem test_unit_id :
    (after (.readClear .mc (Reg.PCH_ID 5) 4) State.reset).out = [.regData .mc (Reg.PCH_ID 5) 0x50010005] := by decide +kernel

-- R4, R448: an XF3204 has 32 P-channels, and a register of PCH32 reads 0.
theorem test_absent_unit :
    (after (.readClear .mc (Reg.PCH_ID 32) 4)
      { State.reset with fac := { Factory.standard with variant := .xf3204 } }).out = [.regData .mc (Reg.PCH_ID 32) 0] := by
  decide +kernel

-- R79: RES_LO before any read of RES_HI returns 0xA000_0000.
theorem test_res_lo_unlatched :
    (after (.resLoRead .pcie 3) State.reset).out = [.regData .pcie (Reg.RES_LO 3) 0xA0000000] := by decide +kernel

-- R275: 86 °C (in 1/256 °C) gives a refresh multiplier of 2, which MULT shows as 1; 85 °C does not.
theorem test_refresh_multiplier :
    ((after (.dramTempRead 0x5600) State.reset).fld Reg.DRC_REF Fld.DRC_REF_MULT,
     (after (.dramTempRead 0x5500) State.reset).fld Reg.DRC_REF Fld.DRC_REF_MULT) = (1, 0) := by decide +kernel

-- R451: a write to an absent unit in the cycle that clears the counter leaves it at 1.
theorem test_absent_count :
    (after (.devAbsentWrClear (some (.mc, Reg.HIF_STAT)))
      { State.reset with fac := { Factory.standard with variant := .xf6408f } }).reg Reg.DEV_ABSENT_WR = 1 := by decide +kernel

-- R397: a TAIL outside the queue sets TAIL_ERR.
theorem test_eq_tail_error :
    (after (.eqTailWrite 0 65536) State.reset).flag (Reg.EQ_STAT 0) Fld.EQ_STAT_TAIL_ERR = true := by decide +kernel

-- R28: a change of gain takes effect at the next base-rate sample boundary, not at the write.
theorem test_gain_waits :
    ((after (.pchCfgWrite 0 0x04000000) (State.reset.setPch 0 { passed := true })).pchU 0).inForce = 0 := by decide +kernel

-- R291: a narrow write of nibble 3 leaves a merge entry with that nibble's bit.
theorem test_narrow_write :
    ((after (.narrowWrite 1 7 0xF000 8) State.reset).ecc.merge.map (fun e => (e.cell, e.mask))) = [(7, 8)] := by decide +kernel

-- R5, R9: a register write by reader PCIe changes the defined fields of the register and no reserved one.
theorem test_register_write :
    (after (.registerWrite .pcie (Reg.PCH_FMT 0) 4 0xFFFFFFFF) State.reset).reg (Reg.PCH_FMT 0) &&& 0xCFFC8000 = 0 := by
  decide +kernel

-- R468: IDCODE of the XF6408 at stepping 1, part 0x6408.
theorem test_idcode : idCode { Factory.standard with variant := .xf6408, stepping := 1 } = 0x164084F7 := by decide +kernel

-- R42: no pulse or burst starts without a request.
theorem test_start_needs_request :
    (after (.excStart 0) State.reset).flag (Reg.EXC_STAT 0) Fld.EXC_STAT_BUSY = false := by decide +kernel
/-! ### Hypotheses that are met -/

/-- A node of kernel 4 with one input, for witnesses. -/
def wNode (cls : Nat) : NodeDef :=
  { kernel := 4, cls := cls, prio := 0, deadline := 1000, place := [0], params := [0x04010200, 0], coefs := [], maskU := [], maskL := [],
    maskExp := 0, stDram := false, stOff := 0, stSize := 0, xUse := 0, yUse := 0, cUse := 0, rate := 0,
    ins := [{ src := .channel 0 0, input := 0, len := 1, hop := 1, ish := 0, depth := 2, memY := false, rate := 0 }] }

/-- A state with one node placed as `x` says. -/
def wEng (cls : Nat) (x : NodeSt) : State :=
  { (State.reset.setFld Reg.MODE_STAT Fld.MODE_STAT_CUR 2).setNode 0 x with eng := { graph := [wNode cls] } }

/-- The device out of reset, before BOOT has done anything. -/
def wOut : State := { State.reset with bootu := { coldHeld := false } }

def wInv : Inv := { num := 0, ready := 0, deadline := 0 }
def wFrame : Frame := { fmt := 0, vals := [] }
def wBlock : Block := { t0 := 0, tEnd := 0 }
def wTx (p : TxPhase) : Tx := { phase := p, blk := wBlock, since := 0 }
def wPacket : Packet := { ptype := 1, dst := 1, src := 2 }
def wReq (client : Client) (tries : Nat) : OutReq := { tag := 0, dst := 2, client := client, tries := tries, at_ := 0, pkt := wPacket }
def wRec : Rec := { type := 0x0111, unit := 0, time := 0, sev := 2, fields := [] }

/-- The device with its link up, the ring and queue 0 enabled, 16 slots each, and the MC running. -/
def wHost : State :=
  let s := (State.reset.raise Reg.HIF_STAT Fld.HIF_STAT_LINK_UP).setReg Reg.HIF_CMD_CFG 0x80000004
  let s := (s.setReg (Reg.EQ_CFG 0) 0x80000004).setFld Reg.HIF_CMD_DB Fld.HIF_CMD_DB_TAIL 1
  { s with host := { pcieEver := true }, bootu := { mcRunning := true } }

/-- An image with the sections FIRMWARE, DEVICE and CALSET, each without a body. -/
def wImage : List (BitVec 8) :=
  [88, 70, 73, 77, 1, 0, 0, 3, 80, 0, 0, 0, 7, 0, 0, 0, 0, 0, 0, 0, 0, 0, 0, 0, 0, 0, 0, 0, 225, 132, 180, 64, 1, 0, 0, 0, 0, 0, 0, 0, 16, 0, 0, 0, 80, 208, 117, 243, 2, 0, 0, 0, 0, 0, 0, 0, 16, 0, 0, 0, 0, 172, 231, 160, 9, 0, 0, 0, 0, 0, 0, 0, 16, 0, 0, 0, 33, 7, 23, 125]

theorem witness_StepRunsFront :
   (({ State.reset with pending := [.powerOn, .clkMissing] }).pending = .powerOn :: [.clkMissing]) :=
  by decide +kernel

theorem witness_IdleStepIsOneCycle :
   ((State.reset.pending = [] ∧ State.reset.bootu.coldHeld = true) ∧ (wOut.pending = [] ∧ wOut.bootu.coldHeld = false ∧ wOut.bootu.jtagHold = false)) :=
  by decide +kernel

theorem witness_CommandFrame :
   ((match exec .powerOn State.reset with | .next _ => true | _ => false) = true) :=
  by decide +kernel

theorem witness_IdentityPreserved :
   (State.reset.identityKept ∧ step State.reset = .next State.reset) :=
  ⟨State.reset_identityKept, rfl⟩

theorem witness_ReservedFieldsReadZero :
   ((((State.reset : State)).reservedZero) ∧
    (descAt ((0x10004 : Nat)) = some ((((RegBlock.pch.regs.getD 1 { off := 0 }) : RegDesc)), ((0 : Nat)))) ∧
    (((0x10004 : Nat)) % 4 = 0)) ∧
   (State.reset.reservedZero ∧ step State.reset = .next State.reset) :=
  ⟨⟨State.reset_reservedZero, by decide +kernel, by decide +kernel⟩,
   ⟨State.reset_reservedZero, rfl⟩⟩

theorem witness_TablesPreserved :
   (State.reset.withinTables ∧ step State.reset = .next State.reset) :=
  ⟨⟨by decide, by decide, by decide, by decide, by decide⟩, rfl⟩

theorem witness_AbsentUnitsReadZero :
   ((isAbsent (({ State.reset with fac := { Factory.standard with variant := .xf6408f } } : State)).fac.variant ((Reg.HIF_STAT : Nat)) = true) ∧
    (accepted ((Reg.HIF_STAT : Nat)) ((4 : Nat)) = true)) ∧
   ((((State.reset : State)).bootFailed = false) ∧
    (((State.reset : State)).identityKept) ∧
    (hardwired ((Reg.PCH_ID 63 : Nat)) = true) ∧
    (blockAt ((Reg.PCH_ID 63 : Nat)) = some (((RegBlock.pch : RegBlock)), ((63 : Nat)))) ∧
    (((Reg.PCH_ID 63 : Nat)) = ((RegBlock.pch : RegBlock)).base + ((RegBlock.pch : RegBlock)).stride * ((63 : Nat))) ∧
    (isAbsent ((State.reset : State)).fac.variant ((Reg.PCH_ID 63 : Nat)) = false)) :=
  ⟨by decide +kernel,
   ⟨by decide +kernel, State.reset_identityKept, by decide +kernel, by decide +kernel, by decide +kernel, by decide +kernel⟩⟩

theorem witness_AbsentUnits :
   (((({ State.reset with fac := { Factory.standard with variant := .xf6408f } } : State)).bootFailed = false) ∧
    ((({ State.reset with fac := { Factory.standard with variant := .xf6408f } } : State)).absentTo ((Reader.mc : Reader)) ((Reg.HIF_STAT : Nat)) = true)) ∧
   ((((State.reset : State)).bootFailed = false)) ∧
   (((({ State.reset with fac := { Factory.standard with variant := .xf6408f } } : State)).bootFailed = false) ∧
    (isAbsent (({ State.reset with fac := { Factory.standard with variant := .xf6408f } } : State)).fac.variant ((Reg.HIF_STAT : Nat)) = true)) ∧
   ((((State.reset : State)).bootFailed = false) ∧
    (hasHost ((State.reset : State)).fac.variant = true) ∧
    (accepted ((2 : Nat)) ((4 : Nat)) = false)) ∧
   ((accepted ((0 : Nat)) 4 = true)) ∧
   ((accepted ((0 : Nat)) 8 = true)) ∧
   ((((((State.reset.setRate 0x0111 0 { pend := some (mkRec 0x0111 0 0 []), pendNow := 1 }) : State)).rateKey ((0x0111 : Nat)) ((0 : Nat))).pend = some (((mkRec 0x0111 0 0 []) : Rec))) ∧
    ((if ((((State.reset.setRate 0x0111 0 { pend := some (mkRec 0x0111 0 0 []), pendNow := 1 }) : State)).rateKey ((0x0111 : Nat)) ((0 : Nat))).pendB then ((((State.reset.setRate 0x0111 0 { pend := some (mkRec 0x0111 0 0 []), pendNow := 1 }) : State)).rateKey ((0x0111 : Nat)) ((0 : Nat))).lastB else ((((State.reset.setRate 0x0111 0 { pend := some (mkRec 0x0111 0 0 []), pendNow := 1 }) : State)).rateKey ((0x0111 : Nat)) ((0 : Nat))).lastA).all
        (fun u => decide (((((State.reset.setRate 0x0111 0 { pend := some (mkRec 0x0111 0 0 []), pendNow := 1 }) : State)).rateKey ((0x0111 : Nat)) ((0 : Nat))).interval ≤ ((((State.reset.setRate 0x0111 0 { pend := some (mkRec 0x0111 0 0 []), pendNow := 1 }) : State)).time - u).toNat)) = true) ∧
    (((((State.reset.setRate 0x0111 0 { pend := some (mkRec 0x0111 0 0 []), pendNow := 1 }) : State)).rateKey ((0x0111 : Nat)) ((0 : Nat))).pendNow ≠ ((((State.reset.setRate 0x0111 0 { pend := some (mkRec 0x0111 0 0 []), pendNow := 1 }) : State)).rateKey ((0x0111 : Nat)) ((0 : Nat))).reported) ∧
    ((((State.reset.setRate 0x0111 0 { pend := some (mkRec 0x0111 0 0 []), pendNow := 1 }) : State)).recsFull = false)) ∧
   (((if (((State.reset : State)).rateKey ((0 : Nat)) ((0 : Nat))).pendB then (((State.reset : State)).rateKey ((0 : Nat)) ((0 : Nat))).lastB else (((State.reset : State)).rateKey ((0 : Nat)) ((0 : Nat))).lastA).all
        (fun u => decide ((((State.reset : State)).rateKey ((0 : Nat)) ((0 : Nat))).interval ≤ (((State.reset : State)).time - u).toNat)) = true) ∧
    ((((State.reset : State)).rateKey ((0 : Nat)) ((0 : Nat))).pendNow = (((State.reset : State)).rateKey ((0 : Nat)) ((0 : Nat))).reported)) ∧
   (((({ State.reset with fac := { Factory.standard with variant := .xf6408f } } : State)).bootFailed = false) ∧
    (hasHost (({ State.reset with fac := { Factory.standard with variant := .xf6408f } } : State)).fac.variant = false)) ∧
   (((({ State.reset with fac := { Factory.standard with variant := .xf6408f } } : State)).bootFailed = false) ∧
    (hasHost (({ State.reset with fac := { Factory.standard with variant := .xf6408f } } : State)).fac.variant = false)) ∧
   (((({ State.reset with fac := { Factory.standard with variant := .xf6408f } } : State)).bootFailed = false) ∧
    (((3 : Nat)) < 4) ∧
    (hasHost (({ State.reset with fac := { Factory.standard with variant := .xf6408f } } : State)).fac.variant = false)) ∧
   (((({ State.reset with fac := { Factory.standard with variant := .xf6408f } } : State)).bootFailed = false) ∧
    (((3 : Nat)) < 4) ∧
    (hasHost (({ State.reset with fac := { Factory.standard with variant := .xf6408f } } : State)).fac.variant = false)) ∧
   (((({ State.reset with fac := { Factory.standard with variant := .xf3204 } } : State)).bootFailed = false) ∧
    (((7 : Nat)) < 8) ∧
    (((0 : Nat)) < 5) ∧
    (hasBank (({ State.reset with fac := { Factory.standard with variant := .xf3204 } } : State)).fac.variant ((7 : Nat)) = false)) ∧
   (((({ State.reset with fac := { Factory.standard with variant := .xf6400 } } : State)).bootFailed = false) ∧
    (((71 : Nat)) < 72) ∧
    (hasWm (({ State.reset with fac := { Factory.standard with variant := .xf6400 } } : State)).fac.variant ((71 : Nat)) = false)) ∧
   (((({ State.reset with fac := { Factory.standard with variant := .xf3204 } } : State)).bootFailed = false) ∧
    (((63 : Nat)) < 64) ∧
    (hasPch (({ State.reset with fac := { Factory.standard with variant := .xf3204 } } : State)).fac.variant ((63 : Nat)) = false)) ∧
   (((({ State.reset with fac := { Factory.standard with variant := .xf6408f } } : State)).bootFailed = false) ∧
    (((31 : Nat)) < 32) ∧
    (hasHost (({ State.reset with fac := { Factory.standard with variant := .xf6408f } } : State)).fac.variant = false)) :=
  by and_intros <;> decide +kernel

theorem witness_VsetClamped :
   ((((State.reset : State)).bootFailed = false) ∧
    (hasExc ((State.reset : State)).fac.variant ((15 : Nat)) = true) ∧
    (50000 < getField Fld.EXC_LEVEL_VSET ((50001 : Word)))) ∧
   ((((State.reset : State)).bootFailed = false) ∧
    (hasExc ((State.reset : State)).fac.variant ((0 : Nat)) = true) ∧
    (50000 < getField Fld.EXC_LEVEL_VSET (BitVec.ofNat 32 ((65535 : Nat))))) :=
  by and_intros <;> decide +kernel

theorem witness_Res64OneLatch :
   ((((State.reset : State)).bootFailed = false) ∧
    (unitPresent ((State.reset : State)).fac.variant .res ((0 : Nat)) = true)) ∧
   ((((State.reset : State)).bootFailed = false) ∧
    (unitPresent ((State.reset : State)).fac.variant .res ((71 : Nat)) = true)) :=
  by and_intros <;> decide +kernel

theorem witness_PinCommands :
   ((hasPch ((State.reset : State)).fac.variant ((0 : Nat)) = true) ∧
    (((0 : Nat)) < 64)) ∧
   ((hasWch ((State.reset : State)).fac.variant ((7 : Nat)) = true)) ∧
   ((hasPch ((State.reset : State)).fac.variant ((63 : Nat)) = true)) ∧
   ((hasPch (((State.reset.setPch 0 { change := true, inForce := cfgChangeMask }) : State)).fac.variant ((0 : Nat)) = true) ∧
    (((((State.reset.setPch 0 { change := true, inForce := cfgChangeMask }) : State)).pchU ((0 : Nat))).change = true) ∧
    (((0 : Word)) = (((((State.reset.setPch 0 { change := true, inForce := cfgChangeMask }) : State)).pchU ((0 : Nat))).inForce &&& ~~~cfgChangeMask) ||| ((((State.reset.setPch 0 { change := true, inForce := cfgChangeMask }) : State)).regBy (((State.reset.setPch 0 { change := true, inForce := cfgChangeMask }) : State)).nextBoundary (Reg.PCH_CFG ((0 : Nat))) &&& cfgChangeMask)) ∧
    (((0 : Word)) ≠ ((((State.reset.setPch 0 { change := true, inForce := cfgChangeMask }) : State)).pchU ((0 : Nat))).inForce)) ∧
   ((((State.reset : State)).bootFailed = false) ∧
    (hasPch ((State.reset : State)).fac.variant ((0 : Nat)) = true)) :=
  by and_intros <;> decide +kernel

theorem witness_ExcitationWrites :
   ((((State.reset : State)).bootFailed = false) ∧
    (hasExc ((State.reset : State)).fac.variant ((0 : Nat)) = true) ∧
    (getField Fld.EXC_CTRL_MODE ((0 : Word)) < 5)) ∧
   ((((State.reset : State)).bootFailed = false) ∧
    (hasExc ((State.reset : State)).fac.variant ((0 : Nat)) = true) ∧
    (5 ≤ getField Fld.EXC_CTRL_MODE ((0xFFFFFFFF : Word)))) ∧
   (((((State.reset.setFld (Reg.EXC_CTRL 0) Fld.EXC_CTRL_MODE 3) : State)).bootFailed = false) ∧
    (hasExc (((State.reset.setFld (Reg.EXC_CTRL 0) Fld.EXC_CTRL_MODE 3) : State)).fac.variant ((0 : Nat)) = true) ∧
    ((((State.reset.setFld (Reg.EXC_CTRL 0) Fld.EXC_CTRL_MODE 3) : State)).fld (Reg.EXC_VW ((0 : Nat))) Fld.EXC_VW_SRC = 0) ∧
    ((((State.reset.setFld (Reg.EXC_CTRL 0) Fld.EXC_CTRL_MODE 3) : State)).excMode ((0 : Nat)) = 3 ∨ (((State.reset.setFld (Reg.EXC_CTRL 0) Fld.EXC_CTRL_MODE 3) : State)).excMode ((0 : Nat)) = 4) ∧
    ((((State.reset.setFld (Reg.EXC_CTRL 0) Fld.EXC_CTRL_MODE 3) : State)).flag (Reg.EXC_STAT ((0 : Nat))) Fld.EXC_STAT_BUSY = false) ∧
    (((((State.reset.setFld (Reg.EXC_CTRL 0) Fld.EXC_CTRL_MODE 3) : State)).excU ((0 : Nat))).req = false)) ∧
   ((((((State.reset.setFld (Reg.EXC_CTRL 0) Fld.EXC_CTRL_MODE 3).setExc 0 { req := true }) : State)).bootFailed = false) ∧
    (hasExc ((((State.reset.setFld (Reg.EXC_CTRL 0) Fld.EXC_CTRL_MODE 3).setExc 0 { req := true }) : State)).fac.variant ((0 : Nat)) = true) ∧
    (((((State.reset.setFld (Reg.EXC_CTRL 0) Fld.EXC_CTRL_MODE 3).setExc 0 { req := true }) : State)).fld (Reg.EXC_VW ((0 : Nat))) Fld.EXC_VW_SRC = 0) ∧
    (((((State.reset.setFld (Reg.EXC_CTRL 0) Fld.EXC_CTRL_MODE 3).setExc 0 { req := true }) : State)).excMode ((0 : Nat)) = 3 ∨ ((((State.reset.setFld (Reg.EXC_CTRL 0) Fld.EXC_CTRL_MODE 3).setExc 0 { req := true }) : State)).excMode ((0 : Nat)) = 4) ∧
    (((((State.reset.setFld (Reg.EXC_CTRL 0) Fld.EXC_CTRL_MODE 3).setExc 0 { req := true }) : State)).flag (Reg.EXC_STAT ((0 : Nat))) Fld.EXC_STAT_BUSY = true ∨ (((((State.reset.setFld (Reg.EXC_CTRL 0) Fld.EXC_CTRL_MODE 3).setExc 0 { req := true }) : State)).excU ((0 : Nat))).req = true)) ∧
   ((((State.reset : State)).bootFailed = false) ∧
    (hasExc ((State.reset : State)).fac.variant ((0 : Nat)) = true) ∧
    (((State.reset : State)).fld (Reg.EXC_VW ((0 : Nat))) Fld.EXC_VW_SRC ≠ 0 ∨ (((State.reset : State)).excMode ((0 : Nat)) ≠ 3 ∧ ((State.reset : State)).excMode ((0 : Nat)) ≠ 4))) ∧
   ((hasExc (({ (((State.reset.setFld (Reg.EXC_CTRL 0) Fld.EXC_CTRL_MODE 4).setFld (Reg.EXC_VW 0) Fld.EXC_VW_SRC 1).setFld (Reg.EXC_PER 0) Fld.EXC_PER_PERIOD 5) with time := 4294967296 } : State)).fac.variant ((0 : Nat)) = true) ∧
    ((({ (((State.reset.setFld (Reg.EXC_CTRL 0) Fld.EXC_CTRL_MODE 4).setFld (Reg.EXC_VW 0) Fld.EXC_VW_SRC 1).setFld (Reg.EXC_PER 0) Fld.EXC_PER_PERIOD 5) with time := 4294967296 } : State)).fld (Reg.EXC_VW ((0 : Nat))) Fld.EXC_VW_SRC = 1) ∧
    ((({ (((State.reset.setFld (Reg.EXC_CTRL 0) Fld.EXC_CTRL_MODE 4).setFld (Reg.EXC_VW 0) Fld.EXC_VW_SRC 1).setFld (Reg.EXC_PER 0) Fld.EXC_PER_PERIOD 5) with time := 4294967296 } : State)).fld (Reg.EXC_PER ((0 : Nat))) Fld.EXC_PER_PERIOD ≠ 0) ∧
    ((({ (((State.reset.setFld (Reg.EXC_CTRL 0) Fld.EXC_CTRL_MODE 4).setFld (Reg.EXC_VW 0) Fld.EXC_VW_SRC 1).setFld (Reg.EXC_PER 0) Fld.EXC_PER_PERIOD 5) with time := 4294967296 } : State)).excMode ((0 : Nat)) = 3 ∨ (({ (((State.reset.setFld (Reg.EXC_CTRL 0) Fld.EXC_CTRL_MODE 4).setFld (Reg.EXC_VW 0) Fld.EXC_VW_SRC 1).setFld (Reg.EXC_PER 0) Fld.EXC_PER_PERIOD 5) with time := 4294967296 } : State)).excMode ((0 : Nat)) = 4) ∧
    ((({ (((State.reset.setFld (Reg.EXC_CTRL 0) Fld.EXC_CTRL_MODE 4).setFld (Reg.EXC_VW 0) Fld.EXC_VW_SRC 1).setFld (Reg.EXC_PER 0) Fld.EXC_PER_PERIOD 5) with time := 4294967296 } : State)).flag (Reg.EXC_STAT ((0 : Nat))) Fld.EXC_STAT_BUSY = false) ∧
    (((({ (((State.reset.setFld (Reg.EXC_CTRL 0) Fld.EXC_CTRL_MODE 4).setFld (Reg.EXC_VW 0) Fld.EXC_VW_SRC 1).setFld (Reg.EXC_PER 0) Fld.EXC_PER_PERIOD 5) with time := 4294967296 } : State)).excU ((0 : Nat))).req = false) ∧
    (periodIndex ((({ (((State.reset.setFld (Reg.EXC_CTRL 0) Fld.EXC_CTRL_MODE 4).setFld (Reg.EXC_VW 0) Fld.EXC_VW_SRC 1).setFld (Reg.EXC_PER 0) Fld.EXC_PER_PERIOD 5) with time := 4294967296 } : State)).fld (Reg.EXC_PHASE ((0 : Nat))) Fld.EXC_PHASE_PHASE) ((({ (((State.reset.setFld (Reg.EXC_CTRL 0) Fld.EXC_CTRL_MODE 4).setFld (Reg.EXC_VW 0) Fld.EXC_VW_SRC 1).setFld (Reg.EXC_PER 0) Fld.EXC_PER_PERIOD 5) with time := 4294967296 } : State)).fld (Reg.EXC_PER ((0 : Nat))) Fld.EXC_PER_PERIOD) ((({ (((State.reset.setFld (Reg.EXC_CTRL 0) Fld.EXC_CTRL_MODE 4).setFld (Reg.EXC_VW 0) Fld.EXC_VW_SRC 1).setFld (Reg.EXC_PER 0) Fld.EXC_PER_PERIOD 5) with time := 4294967296 } : State)).excU ((0 : Nat))).perFrom <
      periodIndex ((({ (((State.reset.setFld (Reg.EXC_CTRL 0) Fld.EXC_CTRL_MODE 4).setFld (Reg.EXC_VW 0) Fld.EXC_VW_SRC 1).setFld (Reg.EXC_PER 0) Fld.EXC_PER_PERIOD 5) with time := 4294967296 } : State)).fld (Reg.EXC_PHASE ((0 : Nat))) Fld.EXC_PHASE_PHASE) ((({ (((State.reset.setFld (Reg.EXC_CTRL 0) Fld.EXC_CTRL_MODE 4).setFld (Reg.EXC_VW 0) Fld.EXC_VW_SRC 1).setFld (Reg.EXC_PER 0) Fld.EXC_PER_PERIOD 5) with time := 4294967296 } : State)).fld (Reg.EXC_PER ((0 : Nat))) Fld.EXC_PER_PERIOD) (({ (((State.reset.setFld (Reg.EXC_CTRL 0) Fld.EXC_CTRL_MODE 4).setFld (Reg.EXC_VW 0) Fld.EXC_VW_SRC 1).setFld (Reg.EXC_PER 0) Fld.EXC_PER_PERIOD 5) with time := 4294967296 } : State)).time)) ∧
   ((((State.reset : State)).bootFailed = false) ∧
    (hasExc ((State.reset : State)).fac.variant ((15 : Nat)) = true)) ∧
   ((hasExc (({ State.reset with cycles := 16384 } : State)).fac.variant ((0 : Nat)) = true) ∧
    (16384 ≤ (({ State.reset with cycles := 16384 } : State)).cycles - ((({ State.reset with cycles := 16384 } : State)).excU ((0 : Nat))).rampCyc)) ∧
   ((hasExc ((((State.reset.setFld (Reg.EXC_CTRL 1) Fld.EXC_CTRL_MODE 2).setExc 1 { edgeAge := 2 ^ State.reset.fld (Reg.EXC_AC 1) Fld.EXC_AC_HDIV }) : State)).fac.variant ((1 : Nat)) = true) ∧
    (((((State.reset.setFld (Reg.EXC_CTRL 1) Fld.EXC_CTRL_MODE 2).setExc 1 { edgeAge := 2 ^ State.reset.fld (Reg.EXC_AC 1) Fld.EXC_AC_HDIV }) : State)).excMode ((1 : Nat)) = 2) ∧
    (((((State.reset.setFld (Reg.EXC_CTRL 1) Fld.EXC_CTRL_MODE 2).setExc 1 { edgeAge := 2 ^ State.reset.fld (Reg.EXC_AC 1) Fld.EXC_AC_HDIV }) : State)).atBoundary = true) ∧
    (¬(((1 : Nat)) % 2 = 1 ∧ ((((State.reset.setFld (Reg.EXC_CTRL 1) Fld.EXC_CTRL_MODE 2).setExc 1 { edgeAge := 2 ^ State.reset.fld (Reg.EXC_AC 1) Fld.EXC_AC_HDIV }) : State)).excMode (((1 : Nat)) - 1) = 2)) ∧
    (2 ^ ((((State.reset.setFld (Reg.EXC_CTRL 1) Fld.EXC_CTRL_MODE 2).setExc 1 { edgeAge := 2 ^ State.reset.fld (Reg.EXC_AC 1) Fld.EXC_AC_HDIV }) : State)).fld (Reg.EXC_AC ((1 : Nat))) Fld.EXC_AC_HDIV ≤ (((((State.reset.setFld (Reg.EXC_CTRL 1) Fld.EXC_CTRL_MODE 2).setExc 1 { edgeAge := 2 ^ State.reset.fld (Reg.EXC_AC 1) Fld.EXC_AC_HDIV }) : State)).excU ((1 : Nat))).edgeAge)) :=
  by and_intros <;> decide +kernel

theorem witness_ExcitationRuns :
   ((hasExc ((((State.reset.setFld (Reg.EXC_CTRL 0) Fld.EXC_CTRL_MODE 3).setExc 0 { req := true }) : State)).fac.variant ((0 : Nat)) = true) ∧
    ((((((State.reset.setFld (Reg.EXC_CTRL 0) Fld.EXC_CTRL_MODE 3).setExc 0 { req := true }) : State)).excU ((0 : Nat))).req = true) ∧
    (((((State.reset.setFld (Reg.EXC_CTRL 0) Fld.EXC_CTRL_MODE 3).setExc 0 { req := true }) : State)).atBoundary = true) ∧
    (((((State.reset.setFld (Reg.EXC_CTRL 0) Fld.EXC_CTRL_MODE 3).setExc 0 { req := true }) : State)).excMode ((0 : Nat)) = 3 ∨ ((((State.reset.setFld (Reg.EXC_CTRL 0) Fld.EXC_CTRL_MODE 3).setExc 0 { req := true }) : State)).excMode ((0 : Nat)) = 4)) ∧
   ((hasExc (({ (State.reset.setExc 3 { running := true }) with cycles := 10000000000 } : State)).fac.variant ((3 : Nat)) = true) ∧
    (((({ (State.reset.setExc 3 { running := true }) with cycles := 10000000000 } : State)).excU ((3 : Nat))).running = true) ∧
    ((({ (State.reset.setExc 3 { running := true }) with cycles := 10000000000 } : State)).excLasted ((3 : Nat)) = true)) ∧
   ((hasExc (({ (State.reset.raise (Reg.EXC_STAT 0) Fld.EXC_STAT_BUSY) with cycles := 2000 } : State)).fac.variant ((0 : Nat)) = true) ∧
    (((({ (State.reset.raise (Reg.EXC_STAT 0) Fld.EXC_STAT_BUSY) with cycles := 2000 } : State)).excU ((0 : Nat))).running = false) ∧
    ((({ (State.reset.raise (Reg.EXC_STAT 0) Fld.EXC_STAT_BUSY) with cycles := 2000 } : State)).flag (Reg.EXC_STAT ((0 : Nat))) Fld.EXC_STAT_BUSY = true) ∧
    (100 * 16384 ≤ ((({ (State.reset.raise (Reg.EXC_STAT 0) Fld.EXC_STAT_BUSY) with cycles := 2000 } : State)).cycles - ((({ (State.reset.raise (Reg.EXC_STAT 0) Fld.EXC_STAT_BUSY) with cycles := 2000 } : State)).excU ((0 : Nat))).relCyc) * 1000)) ∧
   ((hasExc ((State.reset : State)).fac.variant ((0 : Nat)) = true)) ∧
   ((hasExc ((((State.reset.setFld (Reg.EXC_CTRL 0) Fld.EXC_CTRL_MODE 1).setExc 0 { seen := [0, 0, 0, 0, 1] }) : State)).fac.variant ((0 : Nat)) = true) ∧
    (3 ≤ ((7 : Nat))) ∧
    (((7 : Nat)) ≤ 7) ∧
    (((((State.reset.setFld (Reg.EXC_CTRL 0) Fld.EXC_CTRL_MODE 1).setExc 0 { seen := [0, 0, 0, 0, 1] }) : State)).excWatches ((0 : Nat)) ((7 : Nat)) = true) ∧
    (excDetect ((7 : Nat)) ≤ (((((State.reset.setFld (Reg.EXC_CTRL 0) Fld.EXC_CTRL_MODE 1).setExc 0 { seen := [0, 0, 0, 0, 1] }) : State)).excU ((0 : Nat))).seen.getD (((7 : Nat)) - 3) 0)) :=
  by and_intros <;> decide +kernel

theorem witness_FusionCommands :
   ((hasPch (((State.reset.setPch 0 { noElig := 2560 }) : State)).fac.variant ((0 : Nat)) = true) ∧
    (2560 ≤ ((((State.reset.setPch 0 { noElig := 2560 }) : State)).pchU ((0 : Nat))).noElig)) ∧
   ((hasPch (((State.reset.setPch 0 { diffCnt := 65536 }) : State)).fac.variant ((0 : Nat)) = true) ∧
    (65536 ≤ ((((State.reset.setPch 0 { diffCnt := 65536 }) : State)).pchU ((0 : Nat))).diffCnt)) ∧
   ((hasPch (((State.reset.setPch 0 { overrange := true, quiet := 256 }) : State)).fac.variant ((0 : Nat)) = true) ∧
    (((((State.reset.setPch 0 { overrange := true, quiet := 256 }) : State)).pchU ((0 : Nat))).overrange = true) ∧
    (256 ≤ ((((State.reset.setPch 0 { overrange := true, quiet := 256 }) : State)).pchU ((0 : Nat))).quiet)) ∧
   ((((State.reset : State)).bootFailed = false) ∧
    (hasPch ((State.reset : State)).fac.variant ((0 : Nat)) = true)) ∧
   ((((State.reset : State)).bootFailed = false) ∧
    (hasPch ((State.reset : State)).fac.variant ((0 : Nat)) = true)) ∧
   ((((State.reset : State)).bootFailed = false) ∧
    (hasPch ((State.reset : State)).fac.variant ((0 : Nat)) = true)) :=
  by and_intros <;> decide +kernel

theorem witness_ResultReads :
   ((((State.reset : State)).bootFailed = false) ∧
    (unitPresent ((State.reset : State)).fac.variant .res ((0 : Nat)) = true)) ∧
   ((((State.reset : State)).bootFailed = false) ∧
    (unitPresent ((State.reset : State)).fac.variant .res ((0 : Nat)) = true)) ∧
   ((((State.reset : State)).bootFailed = false) ∧
    (unitPresent ((State.reset : State)).fac.variant .res ((4000 : Nat)) = false)) ∧
   ((((State.reset : State)).bootFailed = false) ∧
    (unitPresent ((State.reset : State)).fac.variant .res ((4000 : Nat)) = false)) :=
  by and_intros <;> decide +kernel

theorem witness_FilterOutputsAndWrites :
   (((({ State.reset with baseRunning := true } : State)).baseRunning = true)) ∧
   ((hasPch (((State.reset.setPch 0 { mon := List.replicate 29 ⟨5, { first := 22, last := 22 }⟩ }) : State)).fac.variant ((0 : Nat)) = true) ∧
    (((((State.reset.setPch 0 { mon := List.replicate 29 ⟨5, { first := 22, last := 22 }⟩ }) : State)).pchU ((0 : Nat))).mon = (((⟨5, { first := 22, last := 22 }⟩ : Sample) : Sample)) :: (((List.replicate 28 ⟨5, { first := 22, last := 22 }⟩) : List Sample))) ∧
    (29 ≤ ((((State.reset.setPch 0 { mon := List.replicate 29 ⟨5, { first := 22, last := 22 }⟩ }) : State)).pchU ((0 : Nat))).mon.length) ∧
    (marksOf ((((State.reset.setPch 0 { mon := List.replicate 29 ⟨5, { first := 22, last := 22 }⟩ }) : State)).pchU ((0 : Nat))).mon = some (({ first := 22, last := 22 } : Marks))) ∧
    (14 ≤ (((⟨5, { first := 22, last := 22 }⟩ : Sample) : Sample)).marks.last) ∧
    (((((⟨5, { first := 22, last := 22 }⟩ : Sample) : Sample)).marks.last - 14) % 8 = 0) ∧
    (((((State.reset.setPch 0 { mon := List.replicate 29 ⟨5, { first := 22, last := 22 }⟩ }) : State)).pchU ((0 : Nat))).monDone ≠ some ((((⟨5, { first := 22, last := 22 }⟩ : Sample) : Sample)).marks.last - 14))) ∧
   ((hasPch (((State.reset.setPch 0 { stat := some { b0 := 0, b1 := 16, tracked := false, marks := some { first := 0, last := 1 } } }) : State)).fac.variant ((0 : Nat)) = true) ∧
    (((((State.reset.setPch 0 { stat := some { b0 := 0, b1 := 16, tracked := false, marks := some { first := 0, last := 1 } } }) : State)).pchU ((0 : Nat))).stat = some ((({ b0 := 0, b1 := 16, tracked := false, marks := some { first := 0, last := 1 } } : StaticWin) : StaticWin))) ∧
    (((({ b0 := 0, b1 := 16, tracked := false, marks := some { first := 0, last := 1 } } : StaticWin) : StaticWin)).marks = some (({ first := 0, last := 1 } : Marks))) ∧
    (((({ b0 := 0, b1 := 16, tracked := false, marks := some { first := 0, last := 1 } } : StaticWin) : StaticWin)).ended = true)) ∧
   ((hasPch (({ (State.reset.raise (Reg.PCH_MAINS_PER 0) Fld.PCH_MAINS_PER_VALID) with time := 4294967296 } : State)).fac.variant ((0 : Nat)) = true) ∧
    (msTime 100 ≤ ((({ (State.reset.raise (Reg.PCH_MAINS_PER 0) Fld.PCH_MAINS_PER_VALID) with time := 4294967296 } : State)).time - ((({ (State.reset.raise (Reg.PCH_MAINS_PER 0) Fld.PCH_MAINS_PER_VALID) with time := 4294967296 } : State)).pchU ((0 : Nat))).mains.lastAt).toNat)) ∧
   ((((State.reset : State)).bootFailed = false) ∧
    (hasPch ((State.reset : State)).fac.variant ((0 : Nat)) = true)) ∧
   ((((State.reset : State)).bootFailed = false) ∧
    (hasPch ((State.reset : State)).fac.variant ((0 : Nat)) = true) ∧
    (((State.reset : State)).consumed (srckOfPch 1) ((0 : Nat)) = false)) ∧
   (((((State.reset.setStream 0 { st := 1, srck := 1, src := 0 }) : State)).bootFailed = false) ∧
    (hasPch (((State.reset.setStream 0 { st := 1, srck := 1, src := 0 }) : State)).fac.variant ((0 : Nat)) = true) ∧
    ((((State.reset.setStream 0 { st := 1, srck := 1, src := 0 }) : State)).consumed (srckOfPch 1) ((0 : Nat)) = true) ∧
    (((2 : Word)) &&& 0x80000007 ≠ (((State.reset.setStream 0 { st := 1, srck := 1, src := 0 }) : State)).reg (Reg.PCH_SEIS_CFG ((0 : Nat))))) ∧
   ((hasPch ((((State.reset.setReg (Reg.PCH_SEIS_CFG 0) 0).setPch 0 { seis := [List.replicate 191 ⟨0, { first := 0, last := 282925 }⟩] }) : State)).fac.variant ((0 : Nat)) = true) ∧
    (((((State.reset.setReg (Reg.PCH_SEIS_CFG 0) 0).setPch 0 { seis := [List.replicate 191 ⟨0, { first := 0, last := 282925 }⟩] }) : State)).fld (Reg.PCH_SEIS_CFG ((0 : Nat))) Fld.PCH_SEIS_CFG_RATE = ((0 : Nat))) ∧
    (((((State.reset.setReg (Reg.PCH_SEIS_CFG 0) 0).setPch 0 { seis := [List.replicate 191 ⟨0, { first := 0, last := 282925 }⟩] }) : State)).fld (Reg.PCH_SEIS_CFG ((0 : Nat))) Fld.PCH_SEIS_CFG_PHASE = ((0 : Nat))) ∧
    ((seisChain ((0 : Nat)) ((0 : Nat))).getLast? = some (((191, 2, 8) : Nat × Nat × Nat))) ∧
    ((((((State.reset.setReg (Reg.PCH_SEIS_CFG 0) 0).setPch 0 { seis := [List.replicate 191 ⟨0, { first := 0, last := 282925 }⟩] }) : State)).pchU ((0 : Nat))).seis.getLast? = some (((List.replicate 191 ⟨0, { first := 0, last := 282925 }⟩) : List Sample))) ∧
    ((((191, 2, 8) : Nat × Nat × Nat)).1 ≤ (((List.replicate 191 ⟨0, { first := 0, last := 282925 }⟩) : List Sample)).length) ∧
    (marksOf (((List.replicate 191 ⟨0, { first := 0, last := 282925 }⟩) : List Sample)) = some (({ first := 0, last := 282925 } : Marks))) ∧
    (seisDelay ((0 : Nat)) ((0 : Nat)) ≤ (({ first := 0, last := 282925 } : Marks)).last) ∧
    ((((({ first := 0, last := 282925 } : Marks)).last : Int) - seisDelay ((0 : Nat)) ((0 : Nat))) % seisD ((0 : Nat)) = 0) ∧
    ((((((State.reset.setReg (Reg.PCH_SEIS_CFG 0) 0).setPch 0 { seis := [List.replicate 191 ⟨0, { first := 0, last := 282925 }⟩] }) : State)).pchU ((0 : Nat))).seisDone ≠ some (({ first := 0, last := 282925 } : Marks)).last)) :=
  by and_intros <;> decide +kernel

theorem witness_CheckerAndOnDemand :
   ((hasBank (((State.reset.setBank 0 { running := true, cur := some { point := 0, b0 := 0, b1 := 8 } }) : State)).fac.variant ((0 : Nat)) = true) ∧
    (((((State.reset.setBank 0 { running := true, cur := some { point := 0, b0 := 0, b1 := 8 } }) : State)).bankU ((0 : Nat))).running = true) ∧
    (((((State.reset.setBank 0 { running := true, cur := some { point := 0, b0 := 0, b1 := 8 } }) : State)).bankU ((0 : Nat))).nextB ≤ (((State.reset.setBank 0 { running := true, cur := some { point := 0, b0 := 0, b1 := 8 } }) : State)).modClock)) ∧
   ((hasBank (((State.reset.setBank 0 { running := true, todo := [(3, 3)] }) : State)).fac.variant ((0 : Nat)) = true) ∧
    (((((State.reset.setBank 0 { running := true, todo := [(3, 3)] }) : State)).bankU ((0 : Nat))).running = true) ∧
    (((((State.reset.setBank 0 { running := true, todo := [(3, 3)] }) : State)).bankU ((0 : Nat))).nextB ≤ (((State.reset.setBank 0 { running := true, todo := [(3, 3)] }) : State)).modClock) ∧
    (((((State.reset.setBank 0 { running := true, todo := [(3, 3)] }) : State)).bankU ((0 : Nat))).closeSlot ((false : Bool)) = ((({ running := true, todo := [(3, 3)] } : Bank) : Bank))) ∧
    (((({ running := true, todo := [(3, 3)] } : Bank) : Bank)).slots = 0 ∨ (((State.reset.setBank 0 { running := true, todo := [(3, 3)] }) : State)).slotGrid ((({ running := true, todo := [(3, 3)] } : Bank) : Bank)) = ((({ running := true, todo := [(3, 3)] } : Bank) : Bank)).nextB) ∧
    (((({ running := true, todo := [(3, 3)] } : Bank) : Bank)).repeatPt = none) ∧
    (((({ running := true, todo := [(3, 3)] } : Bank) : Bank)).todo = (((3 : Nat)), ((3 : Nat))) :: ((([] : List (Nat × Nat)) : List (Nat × Nat)))) ∧
    (((3 : Nat)) ≠ 12)) ∧
   ((hasBank (({ (State.reset.setBank 0 { ended := [{ point := 7, b0 := 0, b1 := 8 }] }) with baseIdx := 1 } : State)).fac.variant ((0 : Nat)) = true) ∧
    (((({ (State.reset.setBank 0 { ended := [{ point := 7, b0 := 0, b1 := 8 }] }) with baseIdx := 1 } : State)).bankU ((0 : Nat))).skipIdle.ended = ((({ point := 7, b0 := 0, b1 := 8 } : Slot) : Slot)) :: ((([] : List Slot) : List Slot))) ∧
    (((({ point := 7, b0 := 0, b1 := 8 } : Slot) : Slot)).od = none) ∧
    (((({ point := 7, b0 := 0, b1 := 8 } : Slot) : Slot)).b1 + 7 ≤ (({ (State.reset.setBank 0 { ended := [{ point := 7, b0 := 0, b1 := 8 }] }) with baseIdx := 1 } : State)).modClock)) ∧
   ((hasBank (((State.reset.setBank 7 { done := some { dur := 5, len := 1, cfg := 0 } }) : State)).fac.variant ((7 : Nat)) = true) ∧
    (((((State.reset.setBank 7 { done := some { dur := 5, len := 1, cfg := 0 } }) : State)).bankU ((7 : Nat))).done = some ((({ dur := 5, len := 1, cfg := 0 } : CycleDone) : CycleDone))) ∧
    ((∀ sl ∈ ((((State.reset.setBank 7 { done := some { dur := 5, len := 1, cfg := 0 } }) : State)).bankU ((7 : Nat))).ended, sl.point < 12 → ((((State.reset.setBank 7 { done := some { dur := 5, len := 1, cfg := 0 } }) : State)).bankU ((7 : Nat))).cycleB < sl.b1))) ∧
   ((((State.reset : State)).bootFailed = false) ∧
    (hasBank ((State.reset : State)).fac.variant ((0 : Nat)) = true) ∧
    (((4 : Nat)) < 5)) ∧
   ((((7 : Nat)) ≤ 7) ∧
    (((11 : Nat)) ≤ 11) ∧
    (hasBank (((State.reset.setFld Reg.MODE_STAT Fld.MODE_STAT_CUR 4) : State)).fac.variant ((7 : Nat)) = true) ∧
    ((((State.reset.setFld Reg.MODE_STAT Fld.MODE_STAT_CUR 4) : State)).curMode ≠ modeBoot) ∧
    (((((State.reset.setFld Reg.MODE_STAT Fld.MODE_STAT_CUR 4) : State)).bankU ((7 : Nat))).waiting = none)) ∧
   ((((0 : Nat)) ≤ 7) ∧
    (((11 : Nat)) ≤ 11) ∧
    (hasBank ((((State.reset.setFld Reg.MODE_STAT Fld.MODE_STAT_CUR 4).setBank 0 { waiting := some ⟨.ring, 1, 7, 0, false, false⟩ }) : State)).fac.variant ((0 : Nat)) = true) ∧
    (((((State.reset.setFld Reg.MODE_STAT Fld.MODE_STAT_CUR 4).setBank 0 { waiting := some ⟨.ring, 1, 7, 0, false, false⟩ }) : State)).curMode ≠ modeBoot) ∧
    ((((((State.reset.setFld Reg.MODE_STAT Fld.MODE_STAT_CUR 4).setBank 0 { waiting := some ⟨.ring, 1, 7, 0, false, false⟩ }) : State)).bankU ((0 : Nat))).waiting ≠ none) ∧
    (((CmdSrc.ring : CmdSrc)) = .ring) ∧
    (((((State.reset.setFld Reg.MODE_STAT Fld.MODE_STAT_CUR 4).setBank 0 { waiting := some ⟨.ring, 1, 7, 0, false, false⟩ }) : State)).takes 0x0040 ((0 : Nat)) = true)) ∧
   ((((0 : Nat)) ≤ 7) ∧
    (((11 : Nat)) ≤ 11) ∧
    (hasBank ((((State.reset.setFld Reg.MODE_STAT Fld.MODE_STAT_CUR 4).setBank 0 { cur := some { point := 12, b0 := 0, b1 := 100000000 } }) : State)).fac.variant ((0 : Nat)) = true) ∧
    (((((State.reset.setFld Reg.MODE_STAT Fld.MODE_STAT_CUR 4).setBank 0 { cur := some { point := 12, b0 := 0, b1 := 100000000 } }) : State)).curMode ≠ modeBoot) ∧
    ((((((State.reset.setFld Reg.MODE_STAT Fld.MODE_STAT_CUR 4).setBank 0 { cur := some { point := 12, b0 := 0, b1 := 100000000 } }) : State)).freeOpen (((((State.reset.setFld Reg.MODE_STAT Fld.MODE_STAT_CUR 4).setBank 0 { cur := some { point := 12, b0 := 0, b1 := 100000000 } }) : State)).bankU ((0 : Nat)))).cur = some ((({ point := 12, b0 := 0, b1 := 100000000 } : Slot) : Slot))) ∧
    (((({ point := 12, b0 := 0, b1 := 100000000 } : Slot) : Slot)).point = 12) ∧
    (((((State.reset.setFld Reg.MODE_STAT Fld.MODE_STAT_CUR 4).setBank 0 { cur := some { point := 12, b0 := 0, b1 := 100000000 } }) : State)).modClock + 1 + ((((State.reset.setFld Reg.MODE_STAT Fld.MODE_STAT_CUR 4).setBank 0 { cur := some { point := 12, b0 := 0, b1 := 100000000 } }) : State)).odLen (((((State.reset.setFld Reg.MODE_STAT Fld.MODE_STAT_CUR 4).setBank 0 { cur := some { point := 12, b0 := 0, b1 := 100000000 } }) : State)).freeOpen (((((State.reset.setFld Reg.MODE_STAT Fld.MODE_STAT_CUR 4).setBank 0 { cur := some { point := 12, b0 := 0, b1 := 100000000 } }) : State)).bankU ((0 : Nat)))) { src := ((CmdSrc.ring : CmdSrc)), tag := ((0 : Nat)), point := ((11 : Nat)), len := ((8 : Nat)) } ≤ ((({ point := 12, b0 := 0, b1 := 100000000 } : Slot) : Slot)).b1)) ∧
   ((((0 : Nat)) ≤ 7) ∧
    (((11 : Nat)) ≤ 11) ∧
    (hasBank (((State.reset.setFld Reg.MODE_STAT Fld.MODE_STAT_CUR 4) : State)).fac.variant ((0 : Nat)) = true) ∧
    ((((State.reset.setFld Reg.MODE_STAT Fld.MODE_STAT_CUR 4) : State)).curMode ≠ modeBoot) ∧
    ((∀ sl, ((((State.reset.setFld Reg.MODE_STAT Fld.MODE_STAT_CUR 4) : State)).freeOpen ((((State.reset.setFld Reg.MODE_STAT Fld.MODE_STAT_CUR 4) : State)).bankU ((0 : Nat)))).cur = some sl → sl.point = 12 →
      sl.b1 < (((State.reset.setFld Reg.MODE_STAT Fld.MODE_STAT_CUR 4) : State)).modClock + 1 + (((State.reset.setFld Reg.MODE_STAT Fld.MODE_STAT_CUR 4) : State)).odLen ((((State.reset.setFld Reg.MODE_STAT Fld.MODE_STAT_CUR 4) : State)).freeOpen ((((State.reset.setFld Reg.MODE_STAT Fld.MODE_STAT_CUR 4) : State)).bankU ((0 : Nat)))) { src := ((CmdSrc.ring : CmdSrc)), tag := ((0 : Nat)), point := ((11 : Nat)), len := ((0 : Nat)) }))) ∧
   ((((State.reset : State)).takes 0x0040 ((0 : Nat)) = true) ∧
    (7 < ((8 : Nat)) ∨ 11 < ((11 : Nat)))) ∧
   (((({ State.reset with fac := { Factory.standard with variant := .xf3204 } } : State)).takes 0x0040 ((0 : Nat)) = true) ∧
    (((7 : Nat)) ≤ 7) ∧
    (((0 : Nat)) ≤ 11) ∧
    (hasBank (({ State.reset with fac := { Factory.standard with variant := .xf3204 } } : State)).fac.variant ((7 : Nat)) = false)) ∧
   ((hasBank (({ (State.reset.setBank 0 { ended := [{ point := 7, b0 := 0, b1 := 8, od := some ⟨.ring, 1, 7, 0, false, false⟩ }] }) with baseIdx := 1 } : State)).fac.variant ((0 : Nat)) = true) ∧
    (((({ (State.reset.setBank 0 { ended := [{ point := 7, b0 := 0, b1 := 8, od := some ⟨.ring, 1, 7, 0, false, false⟩ }] }) with baseIdx := 1 } : State)).freeOpen ((({ (State.reset.setBank 0 { ended := [{ point := 7, b0 := 0, b1 := 8, od := some ⟨.ring, 1, 7, 0, false, false⟩ }] }) with baseIdx := 1 } : State)).bankU ((0 : Nat)))).skipIdle.ended = ((({ point := 7, b0 := 0, b1 := 8, od := some ⟨.ring, 1, 7, 0, false, false⟩ } : Slot) : Slot)) :: ((([] : List Slot) : List Slot))) ∧
    (((({ point := 7, b0 := 0, b1 := 8, od := some ⟨.ring, 1, 7, 0, false, false⟩ } : Slot) : Slot)).od = some (((⟨.ring, 1, 7, 0, false, false⟩ : OnDemand) : OnDemand))) ∧
    ((((⟨.ring, 1, 7, 0, false, false⟩ : OnDemand) : OnDemand)).silent = false) ∧
    (((({ point := 7, b0 := 0, b1 := 8, od := some ⟨.ring, 1, 7, 0, false, false⟩ } : Slot) : Slot)).b1 + 7 ≤ (({ (State.reset.setBank 0 { ended := [{ point := 7, b0 := 0, b1 := 8, od := some ⟨.ring, 1, 7, 0, false, false⟩ }] }) with baseIdx := 1 } : State)).modClock)) :=
  by and_intros <;> decide +kernel

theorem witness_CalibrationCommands :
   ((((63 : Nat)) ≤ 63) ∧
    (((64 : Nat)) ≤ 64) ∧
    (hasPch ((((State.reset.setFld Reg.MODE_STAT Fld.MODE_STAT_CUR 4).setReg (Reg.BANK_CFG 7) 0xFF) : State)).fac.variant ((63 : Nat)) = true) ∧
    (((((State.reset.setFld Reg.MODE_STAT Fld.MODE_STAT_CUR 4).setReg (Reg.BANK_CFG 7) 0xFF) : State)).inService = true) ∧
    (((((State.reset.setFld Reg.MODE_STAT Fld.MODE_STAT_CUR 4).setReg (Reg.BANK_CFG 7) 0xFF) : State)).chMasked ((63 : Nat)) = false) ∧
    ((((((State.reset.setFld Reg.MODE_STAT Fld.MODE_STAT_CUR 4).setReg (Reg.BANK_CFG 7) 0xFF) : State)).bankU (((63 : Nat)) / 8)).meas = none) ∧
    (((((State.reset.setFld Reg.MODE_STAT Fld.MODE_STAT_CUR 4).setReg (Reg.BANK_CFG 7) 0xFF) : State)).commit = none)) ∧
   ((((63 : Nat)) ≤ 63) ∧
    (((0 : Nat)) ≤ 64) ∧
    (hasPch ((((State.reset.setFld Reg.MODE_STAT Fld.MODE_STAT_CUR 4).setReg (Reg.BANK_CFG 7) 0xFF) : State)).fac.variant ((63 : Nat)) = true) ∧
    (((((State.reset.setFld Reg.MODE_STAT Fld.MODE_STAT_CUR 4).setReg (Reg.BANK_CFG 7) 0xFF) : State)).inService = true) ∧
    (((((State.reset.setFld Reg.MODE_STAT Fld.MODE_STAT_CUR 4).setReg (Reg.BANK_CFG 7) 0xFF) : State)).chMasked ((63 : Nat)) = false) ∧
    ((((((State.reset.setFld Reg.MODE_STAT Fld.MODE_STAT_CUR 4).setReg (Reg.BANK_CFG 7) 0xFF) : State)).bankU (((63 : Nat)) / 8)).meas = none) ∧
    (((((State.reset.setFld Reg.MODE_STAT Fld.MODE_STAT_CUR 4).setReg (Reg.BANK_CFG 7) 0xFF) : State)).commit = none)) ∧
   ((((((State.reset.setFld Reg.MODE_STAT Fld.MODE_STAT_CUR 4).setCal 0 { words := [0, 0, 0, 0, 0, 0, 0, 0, 0, 0x20000000] }) : State)).inService = true) ∧
    (((((State.reset.setFld Reg.MODE_STAT Fld.MODE_STAT_CUR 4).setCal 0 { words := [0, 0, 0, 0, 0, 0, 0, 0, 0, 0x20000000] }) : State)).commit = none) ∧
    (((((State.reset.setFld Reg.MODE_STAT Fld.MODE_STAT_CUR 4).setCal 0 { words := [0, 0, 0, 0, 0, 0, 0, 0, 0, 0x20000000] }) : State)).flag Reg.BOOT_CTRL Fld.BOOT_CTRL_FL_RELEASE = false) ∧
    (((((State.reset.setFld Reg.MODE_STAT Fld.MODE_STAT_CUR 4).setCal 0 { words := [0, 0, 0, 0, 0, 0, 0, 0, 0, 0x20000000] }) : State)).pendingKeys ≠ [])) ∧
   ((((((State.reset.setBank 0 { meas := some { src := .ring, tag := 0, full := true, ch := 0, gain := 0, count := 1, target := 0, since := 0, taken := 1 } }) : State)).bankU ((0 : Nat))).meas = some ((({ src := .ring, tag := 0, full := true, ch := 0, gain := 0, count := 1, target := 0, since := 0, taken := 1 } : Meas) : Meas))) ∧
    (((({ src := .ring, tag := 0, full := true, ch := 0, gain := 0, count := 1, target := 0, since := 0, taken := 1 } : Meas) : Meas)).count ≤ ((({ src := .ring, tag := 0, full := true, ch := 0, gain := 0, count := 1, target := 0, since := 0, taken := 1 } : Meas) : Meas)).taken) ∧
    (((({ src := .ring, tag := 0, full := true, ch := 0, gain := 0, count := 1, target := 0, since := 0, taken := 1 } : Meas) : Meas)).words = none) ∧
    ((((State.reset.setBank 0 { meas := some { src := .ring, tag := 0, full := true, ch := 0, gain := 0, count := 1, target := 0, since := 0, taken := 1 } }) : State)).calNewWords ((({ src := .ring, tag := 0, full := true, ch := 0, gain := 0, count := 1, target := 0, since := 0, taken := 1 } : Meas) : Meas)) = none)) ∧
   (((((((State.reset.setCal 0 { words := [1, 0, 1, 0, 1, 0, 0, 1, 0, 0] }).setBank 0 { meas := some ({ src := .ring, tag := 0, full := false, ch := 0, gain := 0, count := 1, target := 0, since := 0, taken := 1 } : Meas) }) : State)).bankU ((0 : Nat))).meas = some ((({ src := .ring, tag := 0, full := false, ch := 0, gain := 0, count := 1, target := 0, since := 0, taken := 1 } : Meas) : Meas))) ∧
    (((({ src := .ring, tag := 0, full := false, ch := 0, gain := 0, count := 1, target := 0, since := 0, taken := 1 } : Meas) : Meas)).count ≤ ((({ src := .ring, tag := 0, full := false, ch := 0, gain := 0, count := 1, target := 0, since := 0, taken := 1 } : Meas) : Meas)).taken) ∧
    (((({ src := .ring, tag := 0, full := false, ch := 0, gain := 0, count := 1, target := 0, since := 0, taken := 1 } : Meas) : Meas)).words = none) ∧
    (((((State.reset.setCal 0 { words := [1, 0, 1, 0, 1, 0, 0, 1, 0, 0] }).setBank 0 { meas := some ({ src := .ring, tag := 0, full := false, ch := 0, gain := 0, count := 1, target := 0, since := 0, taken := 1 } : Meas) }) : State)).calNewWords ((({ src := .ring, tag := 0, full := false, ch := 0, gain := 0, count := 1, target := 0, since := 0, taken := 1 } : Meas) : Meas)) = some ((((((State.reset.setCal 0 { words := [1, 0, 1, 0, 1, 0, 0, 1, 0, 0] }).setBank 0 { meas := some ({ src := .ring, tag := 0, full := false, ch := 0, gain := 0, count := 1, target := 0, since := 0, taken := 1 } : Meas) })).calNewWords ({ src := .ring, tag := 0, full := false, ch := 0, gain := 0, count := 1, target := 0, since := 0, taken := 1 } : Meas)).getD [] : List Word))) ∧
    ((((((State.reset.setCal 0 { words := [1, 0, 1, 0, 1, 0, 0, 1, 0, 0] }).setBank 0 { meas := some ({ src := .ring, tag := 0, full := false, ch := 0, gain := 0, count := 1, target := 0, since := 0, taken := 1 } : Meas) }) : State)).bankU ((0 : Nat))).sf = none)) ∧
   (((((((State.reset.setCal 0 { words := [1, 0, 1, 0, 1, 0, 0, 1, 0, 0] }).setBank 0 { sf := some 0, meas := some ({ src := .ring, tag := 0, full := false, ch := 0, gain := 0, count := 1, target := 0, since := 0, taken := 1 } : Meas) }) : State)).bankU ((0 : Nat))).meas = some ((({ src := .ring, tag := 0, full := false, ch := 0, gain := 0, count := 1, target := 0, since := 0, taken := 1 } : Meas) : Meas))) ∧
    (((({ src := .ring, tag := 0, full := false, ch := 0, gain := 0, count := 1, target := 0, since := 0, taken := 1 } : Meas) : Meas)).count ≤ ((({ src := .ring, tag := 0, full := false, ch := 0, gain := 0, count := 1, target := 0, since := 0, taken := 1 } : Meas) : Meas)).taken) ∧
    (((({ src := .ring, tag := 0, full := false, ch := 0, gain := 0, count := 1, target := 0, since := 0, taken := 1 } : Meas) : Meas)).words = none) ∧
    (((((State.reset.setCal 0 { words := [1, 0, 1, 0, 1, 0, 0, 1, 0, 0] }).setBank 0 { sf := some 0, meas := some ({ src := .ring, tag := 0, full := false, ch := 0, gain := 0, count := 1, target := 0, since := 0, taken := 1 } : Meas) }) : State)).calNewWords ((({ src := .ring, tag := 0, full := false, ch := 0, gain := 0, count := 1, target := 0, since := 0, taken := 1 } : Meas) : Meas)) = some ((((((State.reset.setCal 0 { words := [1, 0, 1, 0, 1, 0, 0, 1, 0, 0] }).setBank 0 { sf := some 0, meas := some ({ src := .ring, tag := 0, full := false, ch := 0, gain := 0, count := 1, target := 0, since := 0, taken := 1 } : Meas) })).calNewWords ({ src := .ring, tag := 0, full := false, ch := 0, gain := 0, count := 1, target := 0, since := 0, taken := 1 } : Meas)).getD [] : List Word))) ∧
    ((((((State.reset.setCal 0 { words := [1, 0, 1, 0, 1, 0, 0, 1, 0, 0] }).setBank 0 { sf := some 0, meas := some ({ src := .ring, tag := 0, full := false, ch := 0, gain := 0, count := 1, target := 0, since := 0, taken := 1 } : Meas) }) : State)).bankU ((0 : Nat))).sf ≠ none)) ∧
   ((((((State.reset.setBank 0 { cur := some { point := 1, b0 := 8, b1 := 16 }, meas := some { src := .ring, tag := 0, full := false, ch := 0, gain := 0, count := 1, target := 0, since := 0, taken := 1, words := some [], ready := some 0 } }) : State)).bankU ((0 : Nat))).meas = some ((({ src := .ring, tag := 0, full := false, ch := 0, gain := 0, count := 1, target := 0, since := 0, taken := 1, words := some [], ready := some 0 } : Meas) : Meas))) ∧
    (((({ src := .ring, tag := 0, full := false, ch := 0, gain := 0, count := 1, target := 0, since := 0, taken := 1, words := some [], ready := some 0 } : Meas) : Meas)).words = some ((([] : List Word) : List Word))) ∧
    (((({ src := .ring, tag := 0, full := false, ch := 0, gain := 0, count := 1, target := 0, since := 0, taken := 1, words := some [], ready := some 0 } : Meas) : Meas)).ready = some ((0 : Nat))) ∧
    (((((State.reset.setBank 0 { cur := some { point := 1, b0 := 8, b1 := 16 }, meas := some { src := .ring, tag := 0, full := false, ch := 0, gain := 0, count := 1, target := 0, since := 0, taken := 1, words := some [], ready := some 0 } }) : State)).bankU ((0 : Nat))).cur = some ((({ point := 1, b0 := 8, b1 := 16 } : Slot) : Slot))) ∧
    (((0 : Nat)) ≤ ((({ point := 1, b0 := 8, b1 := 16 } : Slot) : Slot)).b0) ∧
    (((({ point := 1, b0 := 8, b1 := 16 } : Slot) : Slot)).od.any (·.urgent) = false)) ∧
   (((({ State.reset with commit := some { src := .ring, tag := 0, entries := [] } } : State)).commit = some ((({ src := .ring, tag := 0, entries := [] } : Commit) : Commit)))) ∧
   (((({ State.reset with commit := some { src := .ring, tag := 0, entries := [] } } : State)).commit = some ((({ src := .ring, tag := 0, entries := [] } : Commit) : Commit))) ∧
    (((({ src := .ring, tag := 0, entries := [] } : Commit) : Commit)).src = .ring) ∧
    ((({ State.reset with commit := some { src := .ring, tag := 0, entries := [] } } : State)).takes 0x0043 ((({ src := .ring, tag := 0, entries := [] } : Commit) : Commit)).tag = true)) ∧
   (((({ State.reset with commit := some { src := .ring, tag := 0, entries := [] } } : State)).commit = some ((({ src := .ring, tag := 0, entries := [] } : Commit) : Commit))) ∧
    (((({ src := .ring, tag := 0, entries := [] } : Commit) : Commit)).src = .ring) ∧
    ((({ State.reset with commit := some { src := .ring, tag := 0, entries := [] } } : State)).takes 0x0043 ((({ src := .ring, tag := 0, entries := [] } : Commit) : Commit)).tag = true)) ∧
   ((calPresent (({ (State.reset.setCal 0 { poison := true }) with bootu := { State.reset.bootu with mcRunning := true } } : State)).fac.variant ((0 : Nat)) = true) ∧
    (((({ (State.reset.setCal 0 { poison := true }) with bootu := { State.reset.bootu with mcRunning := true } } : State)).calE ((0 : Nat))).poison = true) ∧
    ((({ (State.reset.setCal 0 { poison := true }) with bootu := { State.reset.bootu with mcRunning := true } } : State)).bootu.mcRunning = true)) ∧
   ((((((State.reset.setCal 3 { State.reset.calE 3 with poison := true }) : State)).calE ((3 : Nat))).poison = true)) :=
  by and_intros <;> decide +kernel

theorem witness_WideConverters :
   ((hasWch (((State.reset.raise (Reg.WCH_STAT 7) Fld.WCH_STAT_RUNNING) : State)).fac.variant ((7 : Nat)) = true) ∧
    ((((State.reset.raise (Reg.WCH_STAT 7) Fld.WCH_STAT_RUNNING) : State)).flag (Reg.WCH_STAT ((7 : Nat))) Fld.WCH_STAT_RUNNING = true) ∧
    ((((State.reset.raise (Reg.WCH_STAT 7) Fld.WCH_STAT_RUNNING) : State)).gateOpen 14 = true)) ∧
   ((hasWch (((State.reset.setWch 0 { overrange := true, quiet := 8192 }) : State)).fac.variant ((0 : Nat)) = true) ∧
    (((((State.reset.setWch 0 { overrange := true, quiet := 8192 }) : State)).wchU ((0 : Nat))).overrange = true) ∧
    (8192 ≤ ((((State.reset.setWch 0 { overrange := true, quiet := 8192 }) : State)).wchU ((0 : Nat))).quiet)) ∧
   ((hasWch (((State.reset.setWch 0 { wakeReq := true }) : State)).fac.variant ((0 : Nat)) = true) ∧
    ((((State.reset.setWch 0 { wakeReq := true }) : State)).wAwake ((0 : Nat)) = false) ∧
    (((((State.reset.setWch 0 { wakeReq := true }) : State)).wchU ((0 : Nat))).wakeReq = true ∧ (((State.reset.setWch 0 { wakeReq := true }) : State)).fld (Reg.WCH_CFG ((0 : Nat))) Fld.WCH_CFG_RUN = 0 ∨ (((State.reset.setWch 0 { wakeReq := true }) : State)).wRequired ((0 : Nat)) (((State.reset.setWch 0 { wakeReq := true }) : State)).curMode = true)) ∧
   ((hasWch (((State.reset.raise (Reg.WCH_STAT 0) Fld.WCH_STAT_WAKING) : State)).fac.variant ((0 : Nat)) = true) ∧
    ((((State.reset.raise (Reg.WCH_STAT 0) Fld.WCH_STAT_WAKING) : State)).flag (Reg.WCH_STAT ((0 : Nat))) Fld.WCH_STAT_WAKING = true) ∧
    ((((State.reset.raise (Reg.WCH_STAT 0) Fld.WCH_STAT_WAKING) : State)).gateOpen 14 = true)) ∧
   ((hasWch (((State.reset.raise (Reg.WCH_STAT 0) Fld.WCH_STAT_WAKING) : State)).fac.variant ((0 : Nat)) = true) ∧
    ((((State.reset.raise (Reg.WCH_STAT 0) Fld.WCH_STAT_WAKING) : State)).wAwake ((0 : Nat)) = true) ∧
    ((((State.reset.raise (Reg.WCH_STAT 0) Fld.WCH_STAT_WAKING) : State)).wRequired ((0 : Nat)) (((State.reset.raise (Reg.WCH_STAT 0) Fld.WCH_STAT_WAKING) : State)).curMode = false) ∧
    (((((State.reset.raise (Reg.WCH_STAT 0) Fld.WCH_STAT_WAKING) : State)).wchU ((0 : Nat))).woken = true → (((State.reset.raise (Reg.WCH_STAT 0) Fld.WCH_STAT_WAKING) : State)).fld (Reg.WCH_CFG ((0 : Nat))) Fld.WCH_CFG_RUN = 0 →
      ∃ u ∈ ((((State.reset.raise (Reg.WCH_STAT 0) Fld.WCH_STAT_WAKING) : State)).wchU ((0 : Nat))).hitEnd, msTime 10 ≤ ((((State.reset.raise (Reg.WCH_STAT 0) Fld.WCH_STAT_WAKING) : State)).time - u).toNat)) ∧
   ((((State.reset : State)).bootFailed = false) ∧
    (hasWch ((State.reset : State)).fac.variant ((0 : Nat)) = true) ∧
    (((State.reset : State)).consumed 3 ((0 : Nat)) = false)) ∧
   (((((State.reset.setStream 0 { st := 1, srck := 3, src := 0 }) : State)).bootFailed = false) ∧
    (hasWch (((State.reset.setStream 0 { st := 1, srck := 3, src := 0 }) : State)).fac.variant ((0 : Nat)) = true) ∧
    ((((State.reset.setStream 0 { st := 1, srck := 3, src := 0 }) : State)).consumed 3 ((0 : Nat)) = true) ∧
    (wchCfgReject ((0 : Word)) = 0)) :=
  by and_intros <;> decide +kernel

theorem witness_WindowMonitors :
   ((hasWm ((((State.reset.raise (Reg.WM_CFG 0) Fld.WM_CFG_EN).setFld (Reg.WM_STAT 0) Fld.WM_STAT_STATE 2) : State)).fac.variant ((0 : Nat)) = true) ∧
    (((((State.reset.raise (Reg.WM_CFG 0) Fld.WM_CFG_EN).setFld (Reg.WM_STAT 0) Fld.WM_STAT_STATE 2) : State)).flag (Reg.WM_CFG ((0 : Nat))) Fld.WM_CFG_EN = true) ∧
    ((((((State.reset.raise (Reg.WM_CFG 0) Fld.WM_CFG_EN).setFld (Reg.WM_STAT 0) Fld.WM_STAT_STATE 2) : State)).wmU ((0 : Nat))).test.running = false) ∧
    (wmAdjacent (((((State.reset.raise (Reg.WM_CFG 0) Fld.WM_CFG_EN).setFld (Reg.WM_STAT 0) Fld.WM_STAT_STATE 2) : State)).wmState ((0 : Nat))) ((1 : Nat)) = true)) ∧
   ((hasWm (((State.reset.raise (Reg.WM_CFG 71) Fld.WM_CFG_EN) : State)).fac.variant ((71 : Nat)) = true) ∧
    ((((State.reset.raise (Reg.WM_CFG 71) Fld.WM_CFG_EN) : State)).flag (Reg.WM_CFG ((71 : Nat))) Fld.WM_CFG_EN = true) ∧
    ((((State.reset.raise (Reg.WM_CFG 71) Fld.WM_CFG_EN) : State)).wmState ((71 : Nat)) = wmUnresolved) ∧
    (1 ≤ ((3 : Nat))) ∧
    (((3 : Nat)) ≤ 3)) ∧
   ((((State.reset : State)).bootFailed = false) ∧
    (hasWm ((State.reset : State)).fac.variant ((0 : Nat)) = true)) ∧
   ((((State.reset : State)).bootFailed = false) ∧
    (hasWm ((State.reset : State)).fac.variant ((0 : Nat)) = true)) ∧
   ((((State.reset : State)).bootFailed = false) ∧
    (hasWm ((State.reset : State)).fac.variant ((0 : Nat)) = true)) ∧
   ((((State.reset : State)).bootFailed = false) ∧
    (hasWm ((State.reset : State)).fac.variant ((0 : Nat)) = true)) :=
  by and_intros <;> decide +kernel

theorem witness_HitComparators :
   ((hasHc (((State.reset.raise (Reg.HC_CFG 0) Fld.HC_CFG_EN) : State)).fac.variant ((0 : Nat)) = true) ∧
    ((((State.reset.raise (Reg.HC_CFG 0) Fld.HC_CFG_EN) : State)).flag (Reg.HC_CFG ((0 : Nat))) Fld.HC_CFG_EN = true) ∧
    ((((State.reset.raise (Reg.HC_CFG 0) Fld.HC_CFG_EN) : State)).hcWatches ((0 : Nat)) (({ neg := false, at_ := 0 } : Crossing)).neg = true) ∧
    (((((State.reset.raise (Reg.HC_CFG 0) Fld.HC_CFG_EN) : State)).hcU ((0 : Nat))).test.running = false) ∧
    ((((State.reset.raise (Reg.HC_CFG 0) Fld.HC_CFG_EN) : State)).fld (Reg.HC_STAT ((0 : Nat))) Fld.HC_STAT_STATE = 0)) ∧
   ((hasHc ((((State.reset.raise (Reg.HC_CFG 0) Fld.HC_CFG_EN).setFld (Reg.HC_STAT 0) Fld.HC_STAT_STATE 1).setHc 0 { tFirst := 8589934592, tLast := 8589934592 } : State)).fac.variant ((0 : Nat)) = true) ∧
    (((((State.reset.raise (Reg.HC_CFG 0) Fld.HC_CFG_EN).setFld (Reg.HC_STAT 0) Fld.HC_STAT_STATE 1).setHc 0 { tFirst := 8589934592, tLast := 8589934592 } : State)).flag (Reg.HC_CFG ((0 : Nat))) Fld.HC_CFG_EN = true) ∧
    (((((State.reset.raise (Reg.HC_CFG 0) Fld.HC_CFG_EN).setFld (Reg.HC_STAT 0) Fld.HC_STAT_STATE 1).setHc 0 { tFirst := 8589934592, tLast := 8589934592 } : State)).hcWatches ((0 : Nat)) (({ neg := false, at_ := 4294967296 } : Crossing)).neg = true) ∧
    ((((((State.reset.raise (Reg.HC_CFG 0) Fld.HC_CFG_EN).setFld (Reg.HC_STAT 0) Fld.HC_STAT_STATE 1).setHc 0 { tFirst := 8589934592, tLast := 8589934592 } : State)).hcU ((0 : Nat))).test.running = false) ∧
    (((((State.reset.raise (Reg.HC_CFG 0) Fld.HC_CFG_EN).setFld (Reg.HC_STAT 0) Fld.HC_STAT_STATE 1).setHc 0 { tFirst := 8589934592, tLast := 8589934592 } : State)).fld (Reg.HC_STAT ((0 : Nat))) Fld.HC_STAT_STATE = 1) ∧
    ((((((State.reset.raise (Reg.HC_CFG 0) Fld.HC_CFG_EN).setFld (Reg.HC_STAT 0) Fld.HC_STAT_STATE 1).setHc 0 { tFirst := 8589934592, tLast := 8589934592 } : State)).hcTime ((0 : Nat)) (({ neg := false, at_ := 4294967296 } : Crossing)).at_ false).toNat < (((((State.reset.raise (Reg.HC_CFG 0) Fld.HC_CFG_EN).setFld (Reg.HC_STAT 0) Fld.HC_STAT_STATE 1).setHc 0 { tFirst := 8589934592, tLast := 8589934592 } : State)).hitOver ((0 : Nat))).1)) ∧
   ((hasHc ((((State.reset.raise (Reg.HC_CFG 0) Fld.HC_CFG_EN).setFld (Reg.HC_STAT 0) Fld.HC_STAT_STATE 2).setHc 0 { endAt := 42949672960 } : State)).fac.variant ((0 : Nat)) = true) ∧
    (((((State.reset.raise (Reg.HC_CFG 0) Fld.HC_CFG_EN).setFld (Reg.HC_STAT 0) Fld.HC_STAT_STATE 2).setHc 0 { endAt := 42949672960 } : State)).flag (Reg.HC_CFG ((0 : Nat))) Fld.HC_CFG_EN = true) ∧
    (((((State.reset.raise (Reg.HC_CFG 0) Fld.HC_CFG_EN).setFld (Reg.HC_STAT 0) Fld.HC_STAT_STATE 2).setHc 0 { endAt := 42949672960 } : State)).hcWatches ((0 : Nat)) (({ neg := false, at_ := 4294967296 } : Crossing)).neg = true) ∧
    ((((((State.reset.raise (Reg.HC_CFG 0) Fld.HC_CFG_EN).setFld (Reg.HC_STAT 0) Fld.HC_STAT_STATE 2).setHc 0 { endAt := 42949672960 } : State)).hcU ((0 : Nat))).test.running = false) ∧
    (2 ≤ ((((State.reset.raise (Reg.HC_CFG 0) Fld.HC_CFG_EN).setFld (Reg.HC_STAT 0) Fld.HC_STAT_STATE 2).setHc 0 { endAt := 42949672960 } : State)).fld (Reg.HC_STAT ((0 : Nat))) Fld.HC_STAT_STATE) ∧
    ((((((State.reset.raise (Reg.HC_CFG 0) Fld.HC_CFG_EN).setFld (Reg.HC_STAT 0) Fld.HC_STAT_STATE 2).setHc 0 { endAt := 42949672960 } : State)).hcTime ((0 : Nat)) (({ neg := false, at_ := 4294967296 } : Crossing)).at_ false).toNat < (((((State.reset.raise (Reg.HC_CFG 0) Fld.HC_CFG_EN).setFld (Reg.HC_STAT 0) Fld.HC_STAT_STATE 2).setHc 0 { endAt := 42949672960 } : State)).hcU ((0 : Nat))).endAt.toNat + ((((State.reset.raise (Reg.HC_CFG 0) Fld.HC_CFG_EN).setFld (Reg.HC_STAT 0) Fld.HC_STAT_STATE 2).setHc 0 { endAt := 42949672960 } : State)).hcHlt ((0 : Nat)))) ∧
   ((hasHc (({ (State.reset.setFld (Reg.HC_STAT 0) Fld.HC_STAT_STATE 1) with time := 42949672960 } : State)).fac.variant ((0 : Nat)) = true) ∧
    ((({ (State.reset.setFld (Reg.HC_STAT 0) Fld.HC_STAT_STATE 1) with time := 42949672960 } : State)).hitDue ((0 : Nat)) (((({ (State.reset.setFld (Reg.HC_STAT 0) Fld.HC_STAT_STATE 1) with time := 42949672960 } : State)).hcU ((0 : Nat))).tLast.toNat + (({ (State.reset.setFld (Reg.HC_STAT 0) Fld.HC_STAT_STATE 1) with time := 42949672960 } : State)).hcHdt ((0 : Nat))) = true) ∧
    (((({ (State.reset.setFld (Reg.HC_STAT 0) Fld.HC_STAT_STATE 1) with time := 42949672960 } : State)).hcU ((0 : Nat))).tLast.toNat + (({ (State.reset.setFld (Reg.HC_STAT 0) Fld.HC_STAT_STATE 1) with time := 42949672960 } : State)).hcHdt ((0 : Nat)) ≤ ((({ (State.reset.setFld (Reg.HC_STAT 0) Fld.HC_STAT_STATE 1) with time := 42949672960 } : State)).hcU ((0 : Nat))).tFirst.toNat + (({ (State.reset.setFld (Reg.HC_STAT 0) Fld.HC_STAT_STATE 1) with time := 42949672960 } : State)).hcHmax ((0 : Nat)))) ∧
   ((hasHc (({ ((State.reset.setFld (Reg.HC_STAT 7) Fld.HC_STAT_STATE 1).setHc 7 { tLast := 42949672960 }) with time := 52949672960 } : State)).fac.variant ((7 : Nat)) = true) ∧
    ((({ ((State.reset.setFld (Reg.HC_STAT 7) Fld.HC_STAT_STATE 1).setHc 7 { tLast := 42949672960 }) with time := 52949672960 } : State)).hitDue ((7 : Nat)) (((({ ((State.reset.setFld (Reg.HC_STAT 7) Fld.HC_STAT_STATE 1).setHc 7 { tLast := 42949672960 }) with time := 52949672960 } : State)).hcU ((7 : Nat))).tFirst.toNat + (({ ((State.reset.setFld (Reg.HC_STAT 7) Fld.HC_STAT_STATE 1).setHc 7 { tLast := 42949672960 }) with time := 52949672960 } : State)).hcHmax ((7 : Nat))) = true) ∧
    (((({ ((State.reset.setFld (Reg.HC_STAT 7) Fld.HC_STAT_STATE 1).setHc 7 { tLast := 42949672960 }) with time := 52949672960 } : State)).hcU ((7 : Nat))).tFirst.toNat + (({ ((State.reset.setFld (Reg.HC_STAT 7) Fld.HC_STAT_STATE 1).setHc 7 { tLast := 42949672960 }) with time := 52949672960 } : State)).hcHmax ((7 : Nat)) < ((({ ((State.reset.setFld (Reg.HC_STAT 7) Fld.HC_STAT_STATE 1).setHc 7 { tLast := 42949672960 }) with time := 52949672960 } : State)).hcU ((7 : Nat))).tLast.toNat + (({ ((State.reset.setFld (Reg.HC_STAT 7) Fld.HC_STAT_STATE 1).setHc 7 { tLast := 42949672960 }) with time := 52949672960 } : State)).hcHdt ((7 : Nat)))) ∧
   ((hasHc (({ (State.reset.setFld (Reg.HC_STAT 0) Fld.HC_STAT_STATE 2) with time := 42949672960 } : State)).fac.variant (({ unit := 0, deciding := false } : TestDue)).unit = true) ∧
    ((({ (State.reset.setFld (Reg.HC_STAT 0) Fld.HC_STAT_STATE 2) with time := 42949672960 } : State)).fld (Reg.HC_STAT (({ unit := 0, deciding := false } : TestDue)).unit) Fld.HC_STAT_STATE = 2) ∧
    (((({ (State.reset.setFld (Reg.HC_STAT 0) Fld.HC_STAT_STATE 2) with time := 42949672960 } : State)).hcU (({ unit := 0, deciding := false } : TestDue)).unit).endAt.toNat + (({ (State.reset.setFld (Reg.HC_STAT 0) Fld.HC_STAT_STATE 2) with time := 42949672960 } : State)).hcHlt (({ unit := 0, deciding := false } : TestDue)).unit ≤ ((({ (State.reset.setFld (Reg.HC_STAT 0) Fld.HC_STAT_STATE 2) with time := 42949672960 } : State)).hcNow (({ unit := 0, deciding := false } : TestDue)).unit).toNat)) ∧
   ((hasHc ((((State.reset.raise (Reg.WCH_STAT 0) Fld.WCH_STAT_RUNNING).setHc 0 { winN := 8192 }) : State)).fac.variant ((0 : Nat)) = true) ∧
    (((((State.reset.raise (Reg.WCH_STAT 0) Fld.WCH_STAT_RUNNING).setHc 0 { winN := 8192 }) : State)).flag (Reg.WCH_STAT ((0 : Nat))) Fld.WCH_STAT_RUNNING = true) ∧
    (8192 ≤ (((((State.reset.raise (Reg.WCH_STAT 0) Fld.WCH_STAT_RUNNING).setHc 0 { winN := 8192 }) : State)).hcU ((0 : Nat))).winN)) ∧
   ((hasHc ((((State.reset.raise (Reg.WCH_STAT 0) Fld.WCH_STAT_RUNNING).setHc 0 { winN := 8192, winSq := 8192 * 16 + 5 }) : State)).fac.variant ((0 : Nat)) = true) ∧
    (((((State.reset.raise (Reg.WCH_STAT 0) Fld.WCH_STAT_RUNNING).setHc 0 { winN := 8192, winSq := 8192 * 16 + 5 }) : State)).flag (Reg.WCH_STAT ((0 : Nat))) Fld.WCH_STAT_RUNNING = true) ∧
    (8192 ≤ (((((State.reset.raise (Reg.WCH_STAT 0) Fld.WCH_STAT_RUNNING).setHc 0 { winN := 8192, winSq := 8192 * 16 + 5 }) : State)).hcU ((0 : Nat))).winN) ∧
    ((((((State.reset.raise (Reg.WCH_STAT 0) Fld.WCH_STAT_RUNNING).setHc 0 { winN := 8192, winSq := 8192 * 16 + 5 }) : State)).hcU ((0 : Nat))).taint = false) ∧
    ((((8192 * (8192 * 16 + 5)) : Nat)) = (((((State.reset.raise (Reg.WCH_STAT 0) Fld.WCH_STAT_RUNNING).setHc 0 { winN := 8192, winSq := 8192 * 16 + 5 }) : State)).hcU ((0 : Nat))).winN * (((((State.reset.raise (Reg.WCH_STAT 0) Fld.WCH_STAT_RUNNING).setHc 0 { winN := 8192, winSq := 8192 * 16 + 5 }) : State)).hcU ((0 : Nat))).winSq - ((((((State.reset.raise (Reg.WCH_STAT 0) Fld.WCH_STAT_RUNNING).setHc 0 { winN := 8192, winSq := 8192 * 16 + 5 }) : State)).hcU ((0 : Nat))).winSum * (((((State.reset.raise (Reg.WCH_STAT 0) Fld.WCH_STAT_RUNNING).setHc 0 { winN := 8192, winSq := 8192 * 16 + 5 }) : State)).hcU ((0 : Nat))).winSum).toNat) ∧
    (((4 : Nat)) < 2 ^ 20) ∧
    (((4 : Nat)) ^ 2 * (((((State.reset.raise (Reg.WCH_STAT 0) Fld.WCH_STAT_RUNNING).setHc 0 { winN := 8192, winSq := 8192 * 16 + 5 }) : State)).hcU ((0 : Nat))).winN ^ 2 ≤ (((8192 * (8192 * 16 + 5)) : Nat))) ∧
    ((((8192 * (8192 * 16 + 5)) : Nat)) < (((4 : Nat)) + 1) ^ 2 * (((((State.reset.raise (Reg.WCH_STAT 0) Fld.WCH_STAT_RUNNING).setHc 0 { winN := 8192, winSq := 8192 * 16 + 5 }) : State)).hcU ((0 : Nat))).winN ^ 2)) ∧
   ((hasHc ((((State.reset.raise (Reg.HC_CFG 0) Fld.HC_CFG_EN).setFld (Reg.HC_STAT 0) Fld.HC_STAT_STATE 2) : State)).fac.variant ((0 : Nat)) = true) ∧
    (((((State.reset.raise (Reg.HC_CFG 0) Fld.HC_CFG_EN).setFld (Reg.HC_STAT 0) Fld.HC_STAT_STATE 2) : State)).flag (Reg.HC_CFG ((0 : Nat))) Fld.HC_CFG_EN = true) ∧
    (((((State.reset.raise (Reg.HC_CFG 0) Fld.HC_CFG_EN).setFld (Reg.HC_STAT 0) Fld.HC_STAT_STATE 2) : State)).hcWatches ((0 : Nat)) (({ neg := false, at_ := 4294967296 } : Crossing)).neg = true) ∧
    ((((((State.reset.raise (Reg.HC_CFG 0) Fld.HC_CFG_EN).setFld (Reg.HC_STAT 0) Fld.HC_STAT_STATE 2) : State)).hcU ((0 : Nat))).test.running = false) ∧
    (2 ≤ ((((State.reset.raise (Reg.HC_CFG 0) Fld.HC_CFG_EN).setFld (Reg.HC_STAT 0) Fld.HC_STAT_STATE 2) : State)).fld (Reg.HC_STAT ((0 : Nat))) Fld.HC_STAT_STATE) ∧
    ((((((State.reset.raise (Reg.HC_CFG 0) Fld.HC_CFG_EN).setFld (Reg.HC_STAT 0) Fld.HC_STAT_STATE 2) : State)).hcU ((0 : Nat))).endAt.toNat + ((((State.reset.raise (Reg.HC_CFG 0) Fld.HC_CFG_EN).setFld (Reg.HC_STAT 0) Fld.HC_STAT_STATE 2) : State)).hcHlt ((0 : Nat)) ≤ (((((State.reset.raise (Reg.HC_CFG 0) Fld.HC_CFG_EN).setFld (Reg.HC_STAT 0) Fld.HC_STAT_STATE 2) : State)).hcTime ((0 : Nat)) (({ neg := false, at_ := 4294967296 } : Crossing)).at_ false).toNat)) ∧
   ((hasHc (((((State.reset.raise (Reg.HC_CFG 0) Fld.HC_CFG_EN).setFld (Reg.HC_STAT 0) Fld.HC_STAT_STATE 1).setFld (Reg.HC_TIMING0 0) Fld.HC_TIMING0_HLT 1000).setHc 0 { tFirst := 4294000000, tLast := 4294000000 } : State)).fac.variant ((0 : Nat)) = true) ∧
    ((((((State.reset.raise (Reg.HC_CFG 0) Fld.HC_CFG_EN).setFld (Reg.HC_STAT 0) Fld.HC_STAT_STATE 1).setFld (Reg.HC_TIMING0 0) Fld.HC_TIMING0_HLT 1000).setHc 0 { tFirst := 4294000000, tLast := 4294000000 } : State)).flag (Reg.HC_CFG ((0 : Nat))) Fld.HC_CFG_EN = true) ∧
    ((((((State.reset.raise (Reg.HC_CFG 0) Fld.HC_CFG_EN).setFld (Reg.HC_STAT 0) Fld.HC_STAT_STATE 1).setFld (Reg.HC_TIMING0 0) Fld.HC_TIMING0_HLT 1000).setHc 0 { tFirst := 4294000000, tLast := 4294000000 } : State)).hcWatches ((0 : Nat)) (({ neg := false, at_ := 4294967296 } : Crossing)).neg = true) ∧
    (((((((State.reset.raise (Reg.HC_CFG 0) Fld.HC_CFG_EN).setFld (Reg.HC_STAT 0) Fld.HC_STAT_STATE 1).setFld (Reg.HC_TIMING0 0) Fld.HC_TIMING0_HLT 1000).setHc 0 { tFirst := 4294000000, tLast := 4294000000 } : State)).hcU ((0 : Nat))).test.running = false) ∧
    ((((((State.reset.raise (Reg.HC_CFG 0) Fld.HC_CFG_EN).setFld (Reg.HC_STAT 0) Fld.HC_STAT_STATE 1).setFld (Reg.HC_TIMING0 0) Fld.HC_TIMING0_HLT 1000).setHc 0 { tFirst := 4294000000, tLast := 4294000000 } : State)).fld (Reg.HC_STAT ((0 : Nat))) Fld.HC_STAT_STATE = 1) ∧
    (((((((State.reset.raise (Reg.HC_CFG 0) Fld.HC_CFG_EN).setFld (Reg.HC_STAT 0) Fld.HC_STAT_STATE 1).setFld (Reg.HC_TIMING0 0) Fld.HC_TIMING0_HLT 1000).setHc 0 { tFirst := 4294000000, tLast := 4294000000 } : State)).hitOver ((0 : Nat))).1 ≤ ((((((State.reset.raise (Reg.HC_CFG 0) Fld.HC_CFG_EN).setFld (Reg.HC_STAT 0) Fld.HC_STAT_STATE 1).setFld (Reg.HC_TIMING0 0) Fld.HC_TIMING0_HLT 1000).setHc 0 { tFirst := 4294000000, tLast := 4294000000 } : State)).hcTime ((0 : Nat)) (({ neg := false, at_ := 4294967296 } : Crossing)).at_ false).toNat) ∧
    (((((((State.reset.raise (Reg.HC_CFG 0) Fld.HC_CFG_EN).setFld (Reg.HC_STAT 0) Fld.HC_STAT_STATE 1).setFld (Reg.HC_TIMING0 0) Fld.HC_TIMING0_HLT 1000).setHc 0 { tFirst := 4294000000, tLast := 4294000000 } : State)).hcTime ((0 : Nat)) (({ neg := false, at_ := 4294967296 } : Crossing)).at_ false).toNat < ((((((State.reset.raise (Reg.HC_CFG 0) Fld.HC_CFG_EN).setFld (Reg.HC_STAT 0) Fld.HC_STAT_STATE 1).setFld (Reg.HC_TIMING0 0) Fld.HC_TIMING0_HLT 1000).setHc 0 { tFirst := 4294000000, tLast := 4294000000 } : State)).hitOver ((0 : Nat))).1 + (((((State.reset.raise (Reg.HC_CFG 0) Fld.HC_CFG_EN).setFld (Reg.HC_STAT 0) Fld.HC_STAT_STATE 1).setFld (Reg.HC_TIMING0 0) Fld.HC_TIMING0_HLT 1000).setHc 0 { tFirst := 4294000000, tLast := 4294000000 } : State)).hcHlt ((0 : Nat)))) :=
  by and_intros <;> decide +kernel

theorem witness_ComparatorTestsAndStarts :
   (((({ unit := 79, deciding := false } : TestDue)).unit < 80) ∧
    (((((State.reset.raise Reg.CMP_STCFG Fld.CMP_STCFG_EN).raise (Reg.HC_CFG 7) Fld.HC_CFG_EN).setCompTest 79 { held := true } : State)).compEnabled (({ unit := 79, deciding := false } : TestDue)).unit = true) ∧
    (((((State.reset.raise Reg.CMP_STCFG Fld.CMP_STCFG_EN).raise (Reg.HC_CFG 7) Fld.HC_CFG_EN).setCompTest 79 { held := true } : State)).compIdle (({ unit := 79, deciding := false } : TestDue)).unit = true) ∧
    ((({ unit := 79, deciding := false } : TestDue)).deciding = false) ∧
    ((((((State.reset.raise Reg.CMP_STCFG Fld.CMP_STCFG_EN).raise (Reg.HC_CFG 7) Fld.HC_CFG_EN).setCompTest 79 { held := true } : State)).compTest (({ unit := 79, deciding := false } : TestDue)).unit).running = false) ∧
    ((((((State.reset.raise Reg.CMP_STCFG Fld.CMP_STCFG_EN).raise (Reg.HC_CFG 7) Fld.HC_CFG_EN).setCompTest 79 { held := true } : State)).compTest (({ unit := 79, deciding := false } : TestDue)).unit).held = true ∨ (((((State.reset.raise Reg.CMP_STCFG Fld.CMP_STCFG_EN).raise (Reg.HC_CFG 7) Fld.HC_CFG_EN).setCompTest 79 { held := true } : State)).compTest (({ unit := 79, deciding := false } : TestDue)).unit).nextAt.all (fun a => decide (a.toNat ≤ ((((State.reset.raise Reg.CMP_STCFG Fld.CMP_STCFG_EN).raise (Reg.HC_CFG 7) Fld.HC_CFG_EN).setCompTest 79 { held := true } : State)).time.toNat)) = true)) ∧
   (((({ unit := 79, deciding := true } : TestDue)).unit < 80) ∧
    (((((State.reset.raise Reg.CMP_STCFG Fld.CMP_STCFG_EN).raise (Reg.HC_CFG 7) Fld.HC_CFG_EN).setCompTest 79 { held := true } : State)).compEnabled (({ unit := 79, deciding := true } : TestDue)).unit = true) ∧
    (((((State.reset.raise Reg.CMP_STCFG Fld.CMP_STCFG_EN).raise (Reg.HC_CFG 7) Fld.HC_CFG_EN).setCompTest 79 { held := true } : State)).compIdle (({ unit := 79, deciding := true } : TestDue)).unit = false ∨ (({ unit := 79, deciding := true } : TestDue)).deciding = true) ∧
    ((((((State.reset.raise Reg.CMP_STCFG Fld.CMP_STCFG_EN).raise (Reg.HC_CFG 7) Fld.HC_CFG_EN).setCompTest 79 { held := true } : State)).compTest (({ unit := 79, deciding := true } : TestDue)).unit).running = false) ∧
    ((((((State.reset.raise Reg.CMP_STCFG Fld.CMP_STCFG_EN).raise (Reg.HC_CFG 7) Fld.HC_CFG_EN).setCompTest 79 { held := true } : State)).compTest (({ unit := 79, deciding := true } : TestDue)).unit).held = true ∨ (((((State.reset.raise Reg.CMP_STCFG Fld.CMP_STCFG_EN).raise (Reg.HC_CFG 7) Fld.HC_CFG_EN).setCompTest 79 { held := true } : State)).compTest (({ unit := 79, deciding := true } : TestDue)).unit).nextAt.all (fun a => decide (a.toNat ≤ ((((State.reset.raise Reg.CMP_STCFG Fld.CMP_STCFG_EN).raise (Reg.HC_CFG 7) Fld.HC_CFG_EN).setCompTest 79 { held := true } : State)).time.toNat)) = true)) ∧
   ((((0 : Nat)) < 80) ∧
    (((((State.reset.setCompTest 0 { running := true }) : State)).compTest ((0 : Nat))).running = true) ∧
    (((0 : Nat)) < 72 → ((none : Option Nat)) ≠ none → decisionTime ((((State.reset.setCompTest 0 { running := true }) : State)).fld (Reg.WM_TH ((0 : Nat))) Fld.WM_TH_MODE) * 2 ^ 32 ≤ ((((State.reset.setCompTest 0 { running := true }) : State)).time.toNat - ((0 : Time)).toNat) * 1000000000)) ∧
   ((((71 : Nat)) < 72) ∧
    ((({ ((State.reset.raise Reg.CMP_STCFG Fld.CMP_STCFG_EN).raise (Reg.WM_CFG 71) Fld.WM_CFG_EN) with time := 4294967296 } : State)).compEnabled ((71 : Nat)) = true) ∧
    (secTime 1 ≤ ((({ ((State.reset.raise Reg.CMP_STCFG Fld.CMP_STCFG_EN).raise (Reg.WM_CFG 71) Fld.WM_CFG_EN) with time := 4294967296 } : State)).time - ((({ ((State.reset.raise Reg.CMP_STCFG Fld.CMP_STCFG_EN).raise (Reg.WM_CFG 71) Fld.WM_CFG_EN) with time := 4294967296 } : State)).compTest ((71 : Nat))).since).toNat)) ∧
   ((72 ≤ ((72 : Nat))) ∧
    (((72 : Nat)) < 80) ∧
    ((({ ((State.reset.raise Reg.CMP_STCFG Fld.CMP_STCFG_EN).raise (Reg.HC_CFG 0) Fld.HC_CFG_EN) with time := 4294967296 } : State)).compEnabled ((72 : Nat)) = true) ∧
    (secTime 1 ≤ ((({ ((State.reset.raise Reg.CMP_STCFG Fld.CMP_STCFG_EN).raise (Reg.HC_CFG 0) Fld.HC_CFG_EN) with time := 4294967296 } : State)).time - ((({ ((State.reset.raise Reg.CMP_STCFG Fld.CMP_STCFG_EN).raise (Reg.HC_CFG 0) Fld.HC_CFG_EN) with time := 4294967296 } : State)).compTest ((72 : Nat))).since).toNat)) ∧
   ((hasWch (((((State.reset.setFld Reg.CMP_SYNC Fld.CMP_SYNC_EDGE 2).setFld (Reg.WCH_ST_CFG 7) Fld.WCH_ST_CFG_SRC 2).setFld (Reg.WCH_ST_CFG 7) Fld.WCH_ST_CFG_CH_MASK 1) : State)).fac.variant ((7 : Nat)) = true) ∧
    (((7 : Nat)) < 8) ∧
    ((((((State.reset.setFld Reg.CMP_SYNC Fld.CMP_SYNC_EDGE 2).setFld (Reg.WCH_ST_CFG 7) Fld.WCH_ST_CFG_SRC 2).setFld (Reg.WCH_ST_CFG 7) Fld.WCH_ST_CFG_CH_MASK 1) : State)).fld Reg.CMP_SYNC Fld.CMP_SYNC_EDGE = 2 ∨ (((((State.reset.setFld Reg.CMP_SYNC Fld.CMP_SYNC_EDGE 2).setFld (Reg.WCH_ST_CFG 7) Fld.WCH_ST_CFG_SRC 2).setFld (Reg.WCH_ST_CFG 7) Fld.WCH_ST_CFG_CH_MASK 1) : State)).fld Reg.CMP_SYNC Fld.CMP_SYNC_EDGE = if ((false : Bool)) then 0 else 1) ∧
    ((((((State.reset.setFld Reg.CMP_SYNC Fld.CMP_SYNC_EDGE 2).setFld (Reg.WCH_ST_CFG 7) Fld.WCH_ST_CFG_SRC 2).setFld (Reg.WCH_ST_CFG 7) Fld.WCH_ST_CFG_CH_MASK 1) : State)).fld (Reg.WCH_ST_CFG ((7 : Nat))) Fld.WCH_ST_CFG_SRC = 2) ∧
    ((((((State.reset.setFld Reg.CMP_SYNC Fld.CMP_SYNC_EDGE 2).setFld (Reg.WCH_ST_CFG 7) Fld.WCH_ST_CFG_SRC 2).setFld (Reg.WCH_ST_CFG 7) Fld.WCH_ST_CFG_CH_MASK 1) : State)).fld (Reg.WCH_ST_CFG ((7 : Nat))) Fld.WCH_ST_CFG_CH_MASK ≠ 0)) ∧
   ((hasWch (({ ((State.reset.setReg (Reg.WCH_ST_PER 0) 1).setFld (Reg.WCH_ST_CFG 0) Fld.WCH_ST_CFG_SRC 1) with time := 4294967296 } : State)).fac.variant ((0 : Nat)) = true) ∧
    ((({ ((State.reset.setReg (Reg.WCH_ST_PER 0) 1).setFld (Reg.WCH_ST_CFG 0) Fld.WCH_ST_CFG_SRC 1) with time := 4294967296 } : State)).reg (Reg.WCH_ST_PER ((0 : Nat))) ≠ 0) ∧
    ((({ ((State.reset.setReg (Reg.WCH_ST_PER 0) 1).setFld (Reg.WCH_ST_CFG 0) Fld.WCH_ST_CFG_SRC 1) with time := 4294967296 } : State)).fld (Reg.WCH_ST_CFG ((0 : Nat))) Fld.WCH_ST_CFG_SRC = 1) ∧
    (((1000 : Int)) = periodIndex ((({ ((State.reset.setReg (Reg.WCH_ST_PER 0) 1).setFld (Reg.WCH_ST_CFG 0) Fld.WCH_ST_CFG_SRC 1) with time := 4294967296 } : State)).reg (Reg.WCH_ST_PHASE ((0 : Nat)))).toNat ((({ ((State.reset.setReg (Reg.WCH_ST_PER 0) 1).setFld (Reg.WCH_ST_CFG 0) Fld.WCH_ST_CFG_SRC 1) with time := 4294967296 } : State)).reg (Reg.WCH_ST_PER ((0 : Nat)))).toNat (({ ((State.reset.setReg (Reg.WCH_ST_PER 0) 1).setFld (Reg.WCH_ST_CFG 0) Fld.WCH_ST_CFG_SRC 1) with time := 4294967296 } : State)).time) ∧
    (periodIndex ((({ ((State.reset.setReg (Reg.WCH_ST_PER 0) 1).setFld (Reg.WCH_ST_CFG 0) Fld.WCH_ST_CFG_SRC 1) with time := 4294967296 } : State)).reg (Reg.WCH_ST_PHASE ((0 : Nat)))).toNat ((({ ((State.reset.setReg (Reg.WCH_ST_PER 0) 1).setFld (Reg.WCH_ST_CFG 0) Fld.WCH_ST_CFG_SRC 1) with time := 4294967296 } : State)).reg (Reg.WCH_ST_PER ((0 : Nat)))).toNat ((({ ((State.reset.setReg (Reg.WCH_ST_PER 0) 1).setFld (Reg.WCH_ST_CFG 0) Fld.WCH_ST_CFG_SRC 1) with time := 4294967296 } : State)).startU ((0 : Nat))).timerFrom < ((1000 : Int)))) ∧
   ((((((State.reset.setStart 0 { offers := [5] }) : State)).startU ((0 : Nat))).offers = (((5 : Time) : Time)) :: ((([] : List Time) : List Time)))) ∧
   ((hasWch (((((State.reset.setFld (Reg.WCH_ST_CFG 0) Fld.WCH_ST_CFG_SRC 1).setFld (Reg.WCH_ST_CFG 0) Fld.WCH_ST_CFG_CH_MASK 1).setStart 0 { offers := [5] }) : State)).fac.variant ((0 : Nat)) = true) ∧
    (((((((State.reset.setFld (Reg.WCH_ST_CFG 0) Fld.WCH_ST_CFG_SRC 1).setFld (Reg.WCH_ST_CFG 0) Fld.WCH_ST_CFG_CH_MASK 1).setStart 0 { offers := [5] }) : State)).startU ((0 : Nat))).offers = (((5 : Time) : Time)) :: ((([] : List Time) : List Time))) ∧
    ((((((State.reset.setFld (Reg.WCH_ST_CFG 0) Fld.WCH_ST_CFG_SRC 1).setFld (Reg.WCH_ST_CFG 0) Fld.WCH_ST_CFG_CH_MASK 1).setStart 0 { offers := [5] }) : State)).fld (Reg.WCH_ST_CFG ((0 : Nat))) Fld.WCH_ST_CFG_SRC ≠ 0) ∧
    ((((((State.reset.setFld (Reg.WCH_ST_CFG 0) Fld.WCH_ST_CFG_SRC 1).setFld (Reg.WCH_ST_CFG 0) Fld.WCH_ST_CFG_CH_MASK 1).setStart 0 { offers := [5] }) : State)).fld (Reg.WCH_ST_CFG ((0 : Nat))) Fld.WCH_ST_CFG_CH_MASK ≠ 0) ∧
    ((((((State.reset.setFld (Reg.WCH_ST_CFG 0) Fld.WCH_ST_CFG_SRC 1).setFld (Reg.WCH_ST_CFG 0) Fld.WCH_ST_CFG_CH_MASK 1).setStart 0 { offers := [5] }) : State)).flag (Reg.WCH_ST_STAT ((0 : Nat))) Fld.WCH_ST_STAT_BUSY = false ∨ ((((((State.reset.setFld (Reg.WCH_ST_CFG 0) Fld.WCH_ST_CFG_SRC 1).setFld (Reg.WCH_ST_CFG 0) Fld.WCH_ST_CFG_CH_MASK 1).setStart 0 { offers := [5] }) : State)).startU ((0 : Nat))).until_.any (fun e => decide (e.toNat ≤ (((5 : Time) : Time)).toNat)) = true)) ∧
   ((hasWch ((((((State.reset.setFld (Reg.WCH_ST_CFG 0) Fld.WCH_ST_CFG_SRC 1).setFld (Reg.WCH_ST_CFG 0) Fld.WCH_ST_CFG_CH_MASK 1).raise (Reg.WCH_ST_STAT 0) Fld.WCH_ST_STAT_BUSY).setStart 0 { offers := [5] }) : State)).fac.variant ((0 : Nat)) = true) ∧
    ((((((((State.reset.setFld (Reg.WCH_ST_CFG 0) Fld.WCH_ST_CFG_SRC 1).setFld (Reg.WCH_ST_CFG 0) Fld.WCH_ST_CFG_CH_MASK 1).raise (Reg.WCH_ST_STAT 0) Fld.WCH_ST_STAT_BUSY).setStart 0 { offers := [5] }) : State)).startU ((0 : Nat))).offers = (((5 : Time) : Time)) :: ((([] : List Time) : List Time))) ∧
    (((((((State.reset.setFld (Reg.WCH_ST_CFG 0) Fld.WCH_ST_CFG_SRC 1).setFld (Reg.WCH_ST_CFG 0) Fld.WCH_ST_CFG_CH_MASK 1).raise (Reg.WCH_ST_STAT 0) Fld.WCH_ST_STAT_BUSY).setStart 0 { offers := [5] }) : State)).fld (Reg.WCH_ST_CFG ((0 : Nat))) Fld.WCH_ST_CFG_SRC ≠ 0) ∧
    (((((((State.reset.setFld (Reg.WCH_ST_CFG 0) Fld.WCH_ST_CFG_SRC 1).setFld (Reg.WCH_ST_CFG 0) Fld.WCH_ST_CFG_CH_MASK 1).raise (Reg.WCH_ST_STAT 0) Fld.WCH_ST_STAT_BUSY).setStart 0 { offers := [5] }) : State)).fld (Reg.WCH_ST_CFG ((0 : Nat))) Fld.WCH_ST_CFG_CH_MASK ≠ 0) ∧
    (((((((State.reset.setFld (Reg.WCH_ST_CFG 0) Fld.WCH_ST_CFG_SRC 1).setFld (Reg.WCH_ST_CFG 0) Fld.WCH_ST_CFG_CH_MASK 1).raise (Reg.WCH_ST_STAT 0) Fld.WCH_ST_STAT_BUSY).setStart 0 { offers := [5] }) : State)).flag (Reg.WCH_ST_STAT ((0 : Nat))) Fld.WCH_ST_STAT_BUSY = true) ∧
    ((((((((State.reset.setFld (Reg.WCH_ST_CFG 0) Fld.WCH_ST_CFG_SRC 1).setFld (Reg.WCH_ST_CFG 0) Fld.WCH_ST_CFG_CH_MASK 1).raise (Reg.WCH_ST_STAT 0) Fld.WCH_ST_STAT_BUSY).setStart 0 { offers := [5] }) : State)).startU ((0 : Nat))).until_.all (fun e => decide ((((5 : Time) : Time)).toNat < e.toNat)) = true)) ∧
   ((hasWch (((State.reset.raise (Reg.WCH_ST_STAT 0) Fld.WCH_ST_STAT_BUSY) : State)).fac.variant ((0 : Nat)) = true) ∧
    ((((State.reset.raise (Reg.WCH_ST_STAT 0) Fld.WCH_ST_STAT_BUSY) : State)).flag (Reg.WCH_ST_STAT ((0 : Nat))) Fld.WCH_ST_STAT_BUSY = true) ∧
    (((((State.reset.raise (Reg.WCH_ST_STAT 0) Fld.WCH_ST_STAT_BUSY) : State)).startU ((0 : Nat))).until_.all (fun e => decide (e.toNat ≤ (((State.reset.raise (Reg.WCH_ST_STAT 0) Fld.WCH_ST_STAT_BUSY) : State)).time.toNat)) = true)) :=
  by and_intros <;> decide +kernel

theorem witness_EngineInvocations :
   ((((((wEng 2 { run := [0], params := [0x04010200, 0] }) : State)).paramStatus ((0 : Nat)) ((1 : Nat)) ((0 : Word)) ((0 : Word))).status = stOk)) ∧
   ((((State.reset : State)).takes opParamSet ((0 : Nat)) = true)) ∧
   (((((wEng 2 { ins := [{ frames := [wFrame] }] }) : State)).nodeDef ((0 : Nat)) = some (((wNode 2) : NodeDef))) ∧
    (((((wEng 2 { ins := [{ frames := [wFrame] }] }) : State)).nodeU ((0 : Nat))).ready (((wNode 2) : NodeDef)) = .yes (([wFrame] : List Frame)) ((({ ins := [{ }] } : NodeSt) : NodeSt)))) ∧
   ((((((wEng 0 { run := [0], invs := [wInv] }).setFld (Reg.CL_STAT 0) Fld.CL_STAT_STATE clIdle) : State)).clInService ((0 : Nat)) = true) ∧
    (((((wEng 0 { run := [0], invs := [wInv] }).setFld (Reg.CL_STAT 0) Fld.CL_STAT_STATE clIdle) : State)).clState ((0 : Nat)) = clIdle) ∧
    ((((((wEng 0 { run := [0], invs := [wInv] }).setFld (Reg.CL_STAT 0) Fld.CL_STAT_STATE clIdle) : State)).cluU ((0 : Nat))).testDue = false) ∧
    (((((wEng 0 { run := [0], invs := [wInv] }).setFld (Reg.CL_STAT 0) Fld.CL_STAT_STATE clIdle) : State)).testOverdue ((0 : Nat)) = false) ∧
    (((((wEng 0 { run := [0], invs := [wInv] }).setFld (Reg.CL_STAT 0) Fld.CL_STAT_STATE clIdle) : State)).pstate = 0) ∧
    (((((wEng 0 { run := [0], invs := [wInv] }).setFld (Reg.CL_STAT 0) Fld.CL_STAT_STATE clIdle) : State)).flag Reg.PACER_STAT Fld.PACER_STAT_EMERG = false) ∧
    (firstBy runBefore (((((wEng 0 { run := [0], invs := [wInv] }).setFld (Reg.CL_STAT 0) Fld.CL_STAT_STATE clIdle) : State)).openInvs.filter (((((wEng 0 { run := [0], invs := [wInv] }).setFld (Reg.CL_STAT 0) Fld.CL_STAT_STATE clIdle) : State)).startable ((0 : Nat)))) = some (((0 : Nat)), (((wNode 0) : NodeDef)), ((wInv : Inv))))) ∧
   ((hasCl ((((wEng 2 { run := [0], invs := [wInv] }).setClu 0 { running := some (0, 0) }) : State)).fac.variant ((0 : Nat)) = true) ∧
    (((((wEng 2 { run := [0], invs := [wInv] }).setClu 0 { running := some (0, 0) }) : State)).runningInv ((0 : Nat)) = some (((0 : Nat)), (((wNode 2) : NodeDef)), ((wInv : Inv)))) ∧
    (((0 : Nat)) ≤ ((((wEng 2 { run := [0], invs := [wInv] }).setClu 0 { running := some (0, 0) }) : State)).fld Reg.ENG_CFG Fld.ENG_CFG_OVR_MULT * ((wInv : Inv)).cycles + 1024)) ∧
   ((hasCl ((((wEng 2 { run := [0], invs := [wInv] }).setClu 0 { running := some (0, 0) }) : State)).fac.variant ((0 : Nat)) = true) ∧
    (((((wEng 2 { run := [0], invs := [wInv] }).setClu 0 { running := some (0, 0) }) : State)).clState ((0 : Nat)) ≠ clFailed) ∧
    (((((wEng 2 { run := [0], invs := [wInv] }).setClu 0 { running := some (0, 0) }) : State)).runningInv ((0 : Nat)) = some (((0 : Nat)), (((wNode 2) : NodeDef)), ((wInv : Inv)))) ∧
    (((((wEng 2 { run := [0], invs := [wInv] }).setClu 0 { running := some (0, 0) }) : State)).fld Reg.ENG_CFG Fld.ENG_CFG_OVR_MULT * ((wInv : Inv)).cycles + 1024 < ((1025 : Nat)))) ∧
   (((((wEng 0 { invs := [wInv] }) : State)).nodeDef ((0 : Nat)) = some (((wNode 0) : NodeDef))) ∧
    (((((wEng 0 { invs := [wInv] }) : State)).nodeU ((0 : Nat))).invs.find? (fun ((wInv : Inv)) => ((wInv : Inv)).num == ((0 : Nat)) && ((wInv : Inv)).outs.isNone && ((wInv : Inv)).skip.isNone) = some ((wInv : Inv))) ∧
    (((wInv : Inv)).deadline.toNat ≤ (((wEng 0 { invs := [wInv] }) : State)).time.toNat) ∧
    (hasClusters (((wNode 0) : NodeDef)) ((((wEng 0 { invs := [wInv] }) : State)).nodeU ((0 : Nat))) = false ∨ (((wEng 0 { invs := [wInv] }) : State)).flag Reg.PACER_STAT Fld.PACER_STAT_EMERG = true ∨ ((wInv : Inv)).started = [] ∧ 2 ≤ (((wNode 0) : NodeDef)).cls ∧ ((wInv : Inv)).admitted = false)) :=
  by and_intros <;> decide +kernel

theorem witness_EngineClusters :
   ((((State.reset : State)).bootFailed = false) ∧
    (hasCl ((State.reset : State)).fac.variant ((3 : Nat)) = true) ∧
    (((State.reset : State)).clState ((3 : Nat)) ≠ clFailed)) ∧
   ((((((State.reset.setFld (Reg.CL_STAT 0) Fld.CL_STAT_STATE clIdle).setClu 0 { testDue := true }) : State)).clInService ((0 : Nat)) = true) ∧
    (((((State.reset.setFld (Reg.CL_STAT 0) Fld.CL_STAT_STATE clIdle).setClu 0 { testDue := true }) : State)).clState ((0 : Nat)) = clIdle) ∧
    (((((State.reset.setFld (Reg.CL_STAT 0) Fld.CL_STAT_STATE clIdle).setClu 0 { testDue := true }) : State)).flag Reg.ENG_CFG Fld.ENG_CFG_STEST_EN = true ∨ (((((State.reset.setFld (Reg.CL_STAT 0) Fld.CL_STAT_STATE clIdle).setClu 0 { testDue := true }) : State)).cluU ((0 : Nat))).testDue = true)) ∧
   (((({ (State.reset.setFld (Reg.CL_STAT 0) Fld.CL_STAT_STATE clTest) with time := 4294967296 } : State)).clInService ((0 : Nat)) = true) ∧
    ((({ (State.reset.setFld (Reg.CL_STAT 0) Fld.CL_STAT_STATE clTest) with time := 4294967296 } : State)).clState ((0 : Nat)) = clTest) ∧
    (usTime 12 ≤ ((({ (State.reset.setFld (Reg.CL_STAT 0) Fld.CL_STAT_STATE clTest) with time := 4294967296 } : State)).time - ((({ (State.reset.setFld (Reg.CL_STAT 0) Fld.CL_STAT_STATE clTest) with time := 4294967296 } : State)).cluU ((0 : Nat))).since).toNat)) ∧
   (((({ (State.reset.setFld (Reg.CL_STAT 0) Fld.CL_STAT_STATE clTest) with time := 4294967296 } : State)).clInService ((0 : Nat)) = true) ∧
    ((({ (State.reset.setFld (Reg.CL_STAT 0) Fld.CL_STAT_STATE clTest) with time := 4294967296 } : State)).clState ((0 : Nat)) = clTest) ∧
    (usTime 12 ≤ ((({ (State.reset.setFld (Reg.CL_STAT 0) Fld.CL_STAT_STATE clTest) with time := 4294967296 } : State)).time - ((({ (State.reset.setFld (Reg.CL_STAT 0) Fld.CL_STAT_STATE clTest) with time := 4294967296 } : State)).cluU ((0 : Nat))).since).toNat)) ∧
   (((((State.reset.setFld Reg.MODE_STAT Fld.MODE_STAT_CUR 4) : State)).bootFailed = false) ∧
    (hasCl (((State.reset.setFld Reg.MODE_STAT Fld.MODE_STAT_CUR 4) : State)).fac.variant ((0 : Nat)) = true) ∧
    ((((State.reset.setFld Reg.MODE_STAT Fld.MODE_STAT_CUR 4) : State)).clState ((0 : Nat)) ≠ clFailed) ∧
    ((((State.reset.setFld Reg.MODE_STAT Fld.MODE_STAT_CUR 4) : State)).inService = true)) ∧
   ((hasCl (((State.reset.setFld (Reg.CL_STAT 0) Fld.CL_STAT_STATE clTest) : State)).fac.variant ((0 : Nat)) = true) ∧
    ((((State.reset.setFld (Reg.CL_STAT 0) Fld.CL_STAT_STATE clTest) : State)).clState ((0 : Nat)) ≠ clFailed) ∧
    ((((State.reset.setFld (Reg.CL_STAT 0) Fld.CL_STAT_STATE clTest) : State)).faultSeen ((0 : Nat)) ((1 : Nat)) = true)) ∧
   ((hasCl (((State.reset.setClu 0 { replacing := true }) : State)).fac.variant ((0 : Nat)) = true) ∧
    (((((State.reset.setClu 0 { replacing := true }) : State)).cluU ((0 : Nat))).replacing = true) ∧
    (1000 ≤ ((1000 : Nat))) ∧
    (((1000 : Nat)) ≤ 30000)) :=
  by and_intros <;> decide +kernel

theorem witness_StreamCommands :
   (((((((State.reset.setFld Reg.MODE_STAT Fld.MODE_STAT_CUR 2).setFld Reg.STR_POOL Fld.STR_POOL_SIZE_MIB 64) : State)).openStatus ((({ sid := 0, srck := 0, src := 0, segs := 1, dest := 0, dev := 0, hr := 0, ageMs := 1 } : OpenParams) : OpenParams))).status = stOk)) ∧
   ((((State.reset : State)).takes opStreamOpen ((0 : Nat)) = true)) ∧
   ((((5 : Nat)) < 1024) ∧
    (bitAt streamMask ((((State.reset.setFld Reg.MODE_STAT Fld.MODE_STAT_CUR 2).setStream 5 { st := 1 }) : State)).curMode = true) ∧
    ((((((State.reset.setFld Reg.MODE_STAT Fld.MODE_STAT_CUR 2).setStream 5 { st := 1 }) : State)).streamU ((5 : Nat))).st = 1)) ∧
   ((((5 : Nat)) < 1024) ∧
    (bitAt streamMask ((((State.reset.setFld Reg.MODE_STAT Fld.MODE_STAT_CUR 2).setStream 5 { st := 1 }) : State)).curMode = true) ∧
    ((((((State.reset.setFld Reg.MODE_STAT Fld.MODE_STAT_CUR 2).setStream 5 { st := 1 }) : State)).streamU ((5 : Nat))).st = 1 ∨ (((((State.reset.setFld Reg.MODE_STAT Fld.MODE_STAT_CUR 2).setStream 5 { st := 1 }) : State)).streamU ((5 : Nat))).st = 3) ∧
    (((((State.reset.setFld Reg.MODE_STAT Fld.MODE_STAT_CUR 2).setStream 5 { st := 1 }) : State)).takes opStreamClose ((0 : Nat)) = true)) ∧
   ((1024 ≤ ((1024 : Nat))) ∧
    (((State.reset : State)).takes opStreamClose ((0 : Nat)) = true)) ∧
   ((((State.reset : State)).takes opCapture ((0 : Nat)) = true)) ∧
   ((((((((State.reset.setFld Reg.MODE_STAT Fld.MODE_STAT_CUR 2).setFld Reg.STR_POOL Fld.STR_POOL_SIZE_MIB 64).setStream 0 { st := 1 }) : State)).captureStatus ((({ tStart := 0, durUs := 1, sources := [0], hold := false, dest := 0, dev := 0, hr := 0 } : CaptureParams) : CaptureParams)) (((({ tStart := 0, durUs := 1, sources := [0], hold := false, dest := 0, dev := 0, hr := 0 } : CaptureParams) : CaptureParams)).durUs * 2 ^ 32 / 1000000) false).1.status = stOk)) :=
  by and_intros <;> decide +kernel

theorem witness_StreamPackets :
   ((hasHost ((State.reset : State)).fac.variant = true) ∧
    (((State.reset : State)).repeats (((State.reset : State)).ringU ((({ ptype := 5, dst := 1, src := 2, tspec := 0 } : Packet) : Packet)).ring) ((({ ptype := 5, dst := 1, src := 2, tspec := 0 } : Packet) : Packet)) = false) ∧
    ((((State.reset : State)).ringU ((({ ptype := 5, dst := 1, src := 2, tspec := 0 } : Packet) : Packet)).ring).reqs.find? (fun q => q.origin == ((({ ptype := 5, dst := 1, src := 2, tspec := 0 } : Packet) : Packet)).src && q.sid == ((({ ptype := 5, dst := 1, src := 2, tspec := 0 } : Packet) : Packet)).sid && q.bseq == ((({ ptype := 5, dst := 1, src := 2, tspec := 0 } : Packet) : Packet)).bseq && q.cells == ((({ ptype := 5, dst := 1, src := 2, tspec := 0 } : Packet) : Packet)).cidx + 2) = none)) ∧
   ((((((State.reset.setStream 0 { dest := 2, dev := 2, tx := some (wTx .asked) }) : State)).streamU ((wPacket : Packet)).sid).tx = some (((wTx .asked) : Tx))) ∧
    ((((wTx .asked) : Tx)).phase = .asked) ∧
    ((((wTx .asked) : Tx)).blk.bseq = ((wPacket : Packet)).bseq) ∧
    (((((State.reset.setStream 0 { dest := 2, dev := 2, tx := some (wTx .asked) }) : State)).streamU ((wPacket : Packet)).sid).dev = ((wPacket : Packet)).src) ∧
    (((((State.reset.setStream 0 { dest := 2, dev := 2, tx := some (wTx .asked) }) : State)).streamU ((wPacket : Packet)).sid).dest = 2)) ∧
   ((((((State.reset.raise Reg.HIF_STAT Fld.HIF_STAT_LINK_UP).setRing 0 { reqs := [({ origin := 2, sid := 0, bseq := 0, cells := 0, granted := true } : RingReq)] }) : State)).hostUp = true) ∧
    ((((((State.reset.raise Reg.HIF_STAT Fld.HIF_STAT_LINK_UP).setRing 0 { reqs := [({ origin := 2, sid := 0, bseq := 0, cells := 0, granted := true } : RingReq)] }) : State)).ringU ((wPacket : Packet)).ring).reqs.find? (fun z => z.origin == ((wPacket : Packet)).src && z.sid == ((wPacket : Packet)).sid && z.bseq == ((wPacket : Packet)).bseq && z.granted) = some ((({ origin := 2, sid := 0, bseq := 0, cells := 0, granted := true } : RingReq) : RingReq))) ∧
    ((∀ k, k < ((({ origin := 2, sid := 0, bseq := 0, cells := 0, granted := true } : RingReq) : RingReq)).cells → k ∈ ((({ origin := 2, sid := 0, bseq := 0, cells := 0, granted := true } : RingReq) : RingReq)).got ∨ ((wPacket : Packet)).cidx ≤ k ∧ k < ((wPacket : Packet)).cidx + ((wPacket : Packet)).payload.length))) ∧
   ((((((State.reset.raise Reg.HIF_STAT Fld.HIF_STAT_LINK_UP).setRing 0 { reqs := [({ origin := 2, sid := 0, bseq := 0, cells := 2, granted := true } : RingReq)] }) : State)).hostUp = true) ∧
    ((((((State.reset.raise Reg.HIF_STAT Fld.HIF_STAT_LINK_UP).setRing 0 { reqs := [({ origin := 2, sid := 0, bseq := 0, cells := 2, granted := true } : RingReq)] }) : State)).ringU ((wPacket : Packet)).ring).reqs.find? (fun z => z.origin == ((wPacket : Packet)).src && z.sid == ((wPacket : Packet)).sid && z.bseq == ((wPacket : Packet)).bseq && z.granted) = some ((({ origin := 2, sid := 0, bseq := 0, cells := 2, granted := true } : RingReq) : RingReq))) ∧
    (¬(∀ k, k < ((({ origin := 2, sid := 0, bseq := 0, cells := 2, granted := true } : RingReq) : RingReq)).cells → k ∈ ((({ origin := 2, sid := 0, bseq := 0, cells := 2, granted := true } : RingReq) : RingReq)).got ∨ ((wPacket : Packet)).cidx ≤ k ∧ k < ((wPacket : Packet)).cidx + ((wPacket : Packet)).payload.length))) ∧
   ((((((State.reset.setStream 0 { dest := 2, dev := 2, tx := some (wTx .sent) }) : State)).streamU ((wPacket : Packet)).sid).dest = 2) ∧
    (((((State.reset.setStream 0 { dest := 2, dev := 2, tx := some (wTx .sent) }) : State)).streamU ((wPacket : Packet)).sid).dev = ((wPacket : Packet)).src) ∧
    (((((State.reset.setStream 0 { dest := 2, dev := 2, tx := some (wTx .sent) }) : State)).streamU ((wPacket : Packet)).sid).tx = some (((wTx .sent) : Tx))) ∧
    ((((wTx .sent) : Tx)).blk.bseq = ((wPacket : Packet)).bseq)) ∧
   ((((((State.reset.setStream 0 { dest := 2, dev := 2, tx := some { wTx .sent with rerouted := true } }) : State)).streamU ((0 : Nat))).tx = some ((({ wTx .sent with rerouted := true } : Tx) : Tx))) ∧
    ((((State.reset.setStream 0 { dest := 2, dev := 2, tx := some { wTx .sent with rerouted := true } }) : State)).resendDue ((({ wTx .sent with rerouted := true } : Tx) : Tx)) = true) ∧
    (((((State.reset.setStream 0 { dest := 2, dev := 2, tx := some { wTx .sent with rerouted := true } }) : State)).streamU ((0 : Nat))).dest = 2)) :=
  by and_intros <;> decide +kernel

theorem witness_HostRings :
   ((((State.reset : State)).bootFailed = false) ∧
    (hasHost ((State.reset : State)).fac.variant = true) ∧
    (((31 : Nat)) < 32)) ∧
   ((((State.reset : State)).bootFailed = false) ∧
    (hasHost ((State.reset : State)).fac.variant = true) ∧
    (((0 : Nat)) < 32) ∧
    (((State.reset : State)).ringCells ((0 : Nat)) ≤ ((16777216 : Nat)) ∨ ((State.reset : State)).ringWritten ((0 : Nat)) < ((State.reset : State)).freedCells ((0 : Nat)) ((16777216 : Nat)))) ∧
   (((((State.reset.setRing 0 { used := 5 }) : State)).bootFailed = false) ∧
    (hasHost (((State.reset.setRing 0 { used := 5 }) : State)).fac.variant = true) ∧
    (((0 : Nat)) < 32) ∧
    (((1 : Nat)) < (((State.reset.setRing 0 { used := 5 }) : State)).ringCells ((0 : Nat))) ∧
    ((((State.reset.setRing 0 { used := 5 }) : State)).freedCells ((0 : Nat)) ((1 : Nat)) ≤ (((State.reset.setRing 0 { used := 5 }) : State)).ringWritten ((0 : Nat)))) ∧
   (((((((State.reset.raise Reg.HIF_STAT Fld.HIF_STAT_LINK_UP).setReg (Reg.HR_CFG 0) 0x80000004).setStream 0 { dest := 1, hr := 0, tx := some (wTx .ready) }) : State)).blockFor ((0 : Nat)) = some (((0 : Nat)), ((({ dest := 1, hr := 0, tx := some (wTx .ready) } : Stream) : Stream)), (((wTx .ready) : Tx)))) ∧
    ((((((State.reset.raise Reg.HIF_STAT Fld.HIF_STAT_LINK_UP).setReg (Reg.HR_CFG 0) 0x80000004).setStream 0 { dest := 1, hr := 0, tx := some (wTx .ready) }) : State)).recordReady = false) ∧
    ((((((State.reset.raise Reg.HIF_STAT Fld.HIF_STAT_LINK_UP).setReg (Reg.HR_CFG 0) 0x80000004).setStream 0 { dest := 1, hr := 0, tx := some (wTx .ready) }) : State)).fetchReady = false) ∧
    (((((((State.reset.raise Reg.HIF_STAT Fld.HIF_STAT_LINK_UP).setReg (Reg.HR_CFG 0) 0x80000004).setStream 0 { dest := 1, hr := 0, tx := some (wTx .ready) }) : State)).dmaNext dmaFuel (((((State.reset.raise Reg.HIF_STAT Fld.HIF_STAT_LINK_UP).setReg (Reg.HR_CFG 0) 0x80000004).setStream 0 { dest := 1, hr := 0, tx := some (wTx .ready) }) : State)).host.dma).ch = (((((State.reset.raise Reg.HIF_STAT Fld.HIF_STAT_LINK_UP).setReg (Reg.HR_CFG 0) 0x80000004).setStream 0 { dest := 1, hr := 0, tx := some (wTx .ready) }) : State)).dmaOf ((0 : Nat)))) ∧
   ((((0 : Nat)) < 32) ∧
    (hasHost (({ ((State.reset.setReg (Reg.HR_CFG 0) 0x80000004).setRing 0 { reqs := [({ origin := 2, sid := 0, bseq := 0, cells := 65536 } : RingReq)], waits := [((some 2, 0, 0), 0)] }) with time := 281474976710656000 } : State)).fac.variant = true) ∧
    ((({ ((State.reset.setReg (Reg.HR_CFG 0) 0x80000004).setRing 0 { reqs := [({ origin := 2, sid := 0, bseq := 0, cells := 65536 } : RingReq)], waits := [((some 2, 0, 0), 0)] }) with time := 281474976710656000 } : State)).flag (Reg.HR_CFG ((0 : Nat))) Fld.HR_CFG_EN = true) ∧
    ((({ ((State.reset.setReg (Reg.HR_CFG 0) 0x80000004).setRing 0 { reqs := [({ origin := 2, sid := 0, bseq := 0, cells := 65536 } : RingReq)], waits := [((some 2, 0, 0), 0)] }) with time := 281474976710656000 } : State)).flag (Reg.HR_STAT ((0 : Nat))) Fld.HR_STAT_STALL = false) ∧
    ((({ ((State.reset.setReg (Reg.HR_CFG 0) 0x80000004).setRing 0 { reqs := [({ origin := 2, sid := 0, bseq := 0, cells := 65536 } : RingReq)], waits := [((some 2, 0, 0), 0)] }) with time := 281474976710656000 } : State)).ringWaits ((0 : Nat)) = some ((((some 2, 0, 0) : Option Nat × Nat × Nat)), (((0 : Time) : Time)))) ∧
    (msTime ((({ ((State.reset.setReg (Reg.HR_CFG 0) 0x80000004).setRing 0 { reqs := [({ origin := 2, sid := 0, bseq := 0, cells := 65536 } : RingReq)], waits := [((some 2, 0, 0), 0)] }) with time := 281474976710656000 } : State)).fld (Reg.HR_CFG ((0 : Nat))) Fld.HR_CFG_HOLD_T) < ((({ ((State.reset.setReg (Reg.HR_CFG 0) 0x80000004).setRing 0 { reqs := [({ origin := 2, sid := 0, bseq := 0, cells := 65536 } : RingReq)], waits := [((some 2, 0, 0), 0)] }) with time := 281474976710656000 } : State)).time - (((0 : Time) : Time))).toNat)) :=
  by and_intros <;> decide +kernel

theorem witness_StreamBlocks :
   ((((({ (State.reset.setStream 0 { st := 1, opn := some wBlock }) with time := 4294967296 } : State)).streamU ((0 : Nat))).st ≠ 0) ∧
    (((({ (State.reset.setStream 0 { st := 1, opn := some wBlock }) with time := 4294967296 } : State)).streamU ((0 : Nat))).opn = some ((wBlock : Block))) ∧
    (msTime ((({ (State.reset.setStream 0 { st := 1, opn := some wBlock }) with time := 4294967296 } : State)).streamU ((0 : Nat))).ageMs ≤ ((({ (State.reset.setStream 0 { st := 1, opn := some wBlock }) with time := 4294967296 } : State)).time - ((wBlock : Block)).since).toNat)) ∧
   ((((((State.reset.setStream 0 { st := 1, closed := [wBlock] }) : State)).streamU ((0 : Nat))).closed = ((wBlock : Block)) :: ((([] : List Block) : List Block))) ∧
    ((∀ p ∈ (((State.reset.setStream 0 { st := 1, closed := [wBlock] }) : State)).streams, p.1 = ((0 : Nat)) → p.2.cap = none)) ∧
    (((((State.reset.setStream 0 { st := 1, closed := [wBlock] }) : State)).streamU ((0 : Nat))).st = 1 ∨ ((((State.reset.setStream 0 { st := 1, closed := [wBlock] }) : State)).streamU ((0 : Nat))).st = 2) ∧
    ((((State.reset.setStream 0 { st := 1, closed := [wBlock] }) : State)).dramAwake = true) ∧
    (¬((((State.reset.setStream 0 { st := 1, closed := [wBlock] }) : State)).curMode = modeVigil ∧ ((((State.reset.setStream 0 { st := 1, closed := [wBlock] }) : State)).streamU ((0 : Nat))).srck ≤ 2)) ∧
    (((((State.reset.setStream 0 { st := 1, closed := [wBlock] }) : State)).streamU ((0 : Nat))).srck = 3 → (((State.reset.setStream 0 { st := 1, closed := [wBlock] }) : State)).gateOpen 15 = true) ∧
    (((((State.reset.setStream 0 { st := 1, closed := [wBlock] }) : State)).clearWay ((0 : Nat)) ((wBlock : Block)).total).wayHeld ((0 : Nat)) ((wBlock : Block)).total = false)) ∧
   ((((((State.reset.setStream 0 { st := 1, skip := some { count := 1, t0 := 0, tEnd := 0 } }) : State)).streamU ((0 : Nat))).skip = some ((({ count := 1, t0 := 0, tEnd := 0 } : Gone) : Gone))) ∧
    ((((State.reset.setStream 0 { st := 1, skip := some { count := 1, t0 := 0, tEnd := 0 } }) : State)).stageRoom 1 = true)) ∧
   ((((((State.reset.setFld Reg.MODE_STAT Fld.MODE_STAT_CUR 1).setStream 0 { st := 1, segs := 1, closed := [wBlock] }) : State)).curMode = modeVigil) ∧
    (((((State.reset.setFld Reg.MODE_STAT Fld.MODE_STAT_CUR 1).setStream 0 { st := 1, segs := 1, closed := [wBlock] }) : State)).runBurst.dramAwake = true) ∧
    (((0 : Nat)) ∈ ((((State.reset.setFld Reg.MODE_STAT Fld.MODE_STAT_CUR 1).setStream 0 { st := 1, segs := 1, closed := [wBlock] }) : State)).sids) ∧
    ((∀ p ∈ ((((State.reset.setFld Reg.MODE_STAT Fld.MODE_STAT_CUR 1).setStream 0 { st := 1, segs := 1, closed := [wBlock] }) : State)).streams, p.2.cap = none)) ∧
    ((((((State.reset.setFld Reg.MODE_STAT Fld.MODE_STAT_CUR 1).setStream 0 { st := 1, segs := 1, closed := [wBlock] }) : State)).streamU ((0 : Nat))).st ≠ 0) ∧
    ((((((State.reset.setFld Reg.MODE_STAT Fld.MODE_STAT_CUR 1).setStream 0 { st := 1, segs := 1, closed := [wBlock] }) : State)).streamU ((0 : Nat))).st ≠ 3)) ∧
   ((((((State.reset.setStream 0 { st := 1, dest := 1, held := [wBlock], next := 1 }) : State)).streamU ((0 : Nat))).st ≠ 0) ∧
    (((((State.reset.setStream 0 { st := 1, dest := 1, held := [wBlock], next := 1 }) : State)).streamU ((0 : Nat))).dest ≠ 0) ∧
    (((((State.reset.setStream 0 { st := 1, dest := 1, held := [wBlock], next := 1 }) : State)).streamU ((0 : Nat))).tx = none) ∧
    ((((State.reset.setStream 0 { st := 1, dest := 1, held := [wBlock], next := 1 }) : State)).dramAwake = true) ∧
    ((((((State.reset.setStream 0 { st := 1, dest := 1, held := [wBlock], next := 1 }) : State)).readIndex ((0 : Nat)) ((none : Option Bool))).readNext ((0 : Nat)) (((((State.reset.setStream 0 { st := 1, dest := 1, held := [wBlock], next := 1 }) : State)).readIndex ((0 : Nat)) ((none : Option Bool))).sendFlips ((0 : Nat)) (([] : List Nat)) (([] : List (Nat × Nat))))).1 = some (((((State.reset.setStream 0 { st := 1, dest := 1, held := [wBlock], next := 1 }).readNext 0 []).1).getD (wBlock, []) : Block × List Nat)))) ∧
   ((((((State.reset.setStream 0 { st := 1, dest := 2, dev := 2, tx := some (wTx .ready) }) : State)).streamU ((0 : Nat))).st ≠ 0) ∧
    (((((State.reset.setStream 0 { st := 1, dest := 2, dev := 2, tx := some (wTx .ready) }) : State)).streamU ((0 : Nat))).dest = 2) ∧
    (((((State.reset.setStream 0 { st := 1, dest := 2, dev := 2, tx := some (wTx .ready) }) : State)).streamU ((0 : Nat))).tx = some (((wTx .ready) : Tx))) ∧
    ((((wTx .ready) : Tx)).phase = .ready) ∧
    (((((wTx .ready) : Tx)).blk.affected && (((State.reset.setStream 0 { st := 1, dest := 2, dev := 2, tx := some (wTx .ready) }) : State)).faultUntold) = false)) :=
  by and_intros <;> decide +kernel

theorem witness_DramQueue :
   ((((0 : Nat)) < 2) ∧
    (((((State.reset.setChan 0 { selfRef := true }) : State)).enterRequests (dramArrivals (([] : List (Nat × Nat))) (([] : List (Nat × Nat))))).serves ((0 : Nat)) = false ∨ ((((State.reset.setChan 0 { selfRef := true }) : State)).enterRequests (dramArrivals (([] : List (Nat × Nat))) (([] : List (Nat × Nat))))).refreshForced ((0 : Nat)) = false ∧ ((((State.reset.setChan 0 { selfRef := true }) : State)).enterRequests (dramArrivals (([] : List (Nat × Nat))) (([] : List (Nat × Nat))))).nextRequest ((0 : Nat)) = none)) ∧
   ((((0 : Nat)) < 2) ∧
    ((((State.reset : State)).enterRequests (dramArrivals (([(0, 0)] : List (Nat × Nat))) (([] : List (Nat × Nat))))).serves ((0 : Nat)) = true) ∧
    ((((State.reset : State)).enterRequests (dramArrivals (([(0, 0)] : List (Nat × Nat))) (([] : List (Nat × Nat))))).refreshForced ((0 : Nat)) = false) ∧
    ((((State.reset : State)).enterRequests (dramArrivals (([(0, 0)] : List (Nat × Nat))) (([] : List (Nat × Nat))))).nextRequest ((0 : Nat)) = some ((({ port := 0, write := false, cell := 0, at_ := 0, tgt := (State.reset.fld (Reg.DRC_PORT_TGT 0) Fld.DRC_PORT_TGT_TGT) } : DramReq) : DramReq)))) ∧
   ((((0 : Nat)) < 2) ∧
    (((({ (State.reset.setFld Reg.DRC_REF Fld.DRC_REF_PP_MAX 4) with time := 4294967296, drc := { queue := [⟨0, false, 0, 0, 1⟩] } } : State)).chanU ((0 : Nat))).selfRef = false) ∧
    ((({ (State.reset.setFld Reg.DRC_REF Fld.DRC_REF_PP_MAX 4) with time := 4294967296, drc := { queue := [⟨0, false, 0, 0, 1⟩] } } : State)).drc.change = none) ∧
    ((({ (State.reset.setFld Reg.DRC_REF Fld.DRC_REF_PP_MAX 4) with time := 4294967296, drc := { queue := [⟨0, false, 0, 0, 1⟩] } } : State)).urgentOn ((0 : Nat)) = true) ∧
    ((({ (State.reset.setFld Reg.DRC_REF Fld.DRC_REF_PP_MAX 4) with time := 4294967296, drc := { queue := [⟨0, false, 0, 0, 1⟩] } } : State)).refreshTime ≤ ((({ (State.reset.setFld Reg.DRC_REF Fld.DRC_REF_PP_MAX 4) with time := 4294967296, drc := { queue := [⟨0, false, 0, 0, 1⟩] } } : State)).time - ((({ (State.reset.setFld Reg.DRC_REF Fld.DRC_REF_PP_MAX 4) with time := 4294967296, drc := { queue := [⟨0, false, 0, 0, 1⟩] } } : State)).chanU ((0 : Nat))).refAt).toNat) ∧
    (((({ (State.reset.setFld Reg.DRC_REF Fld.DRC_REF_PP_MAX 4) with time := 4294967296, drc := { queue := [⟨0, false, 0, 0, 1⟩] } } : State)).chanU ((0 : Nat))).postponed < (({ (State.reset.setFld Reg.DRC_REF Fld.DRC_REF_PP_MAX 4) with time := 4294967296, drc := { queue := [⟨0, false, 0, 0, 1⟩] } } : State)).fld Reg.DRC_REF Fld.DRC_REF_PP_MAX)) ∧
   ((((1 : Nat)) < 2) ∧
    (((({ State.reset with time := 4294967296 } : State)).chanU ((1 : Nat))).selfRef = false) ∧
    ((({ State.reset with time := 4294967296 } : State)).drc.change = none) ∧
    ((({ State.reset with time := 4294967296 } : State)).refreshTime ≤ ((({ State.reset with time := 4294967296 } : State)).time - ((({ State.reset with time := 4294967296 } : State)).chanU ((1 : Nat))).refAt).toNat) ∧
    ((({ State.reset with time := 4294967296 } : State)).urgentOn ((1 : Nat)) = false ∨ (({ State.reset with time := 4294967296 } : State)).fld Reg.DRC_REF Fld.DRC_REF_PP_MAX ≤ ((({ State.reset with time := 4294967296 } : State)).chanU ((1 : Nat))).postponed)) ∧
   ((((1 : Nat)) < 2) ∧
    (((((State.reset.setChan 1 { postponed := 3 }) : State)).chanU ((1 : Nat))).postponed ≠ 0) ∧
    ((((State.reset.setChan 1 { postponed := 3 }) : State)).urgentOn ((1 : Nat)) = false)) ∧
   ((((State.reset : State)).drc.tempAt.all (fun u => decide (msTime 16 ≤ (((State.reset : State)).time - u).toNat)) = true)) ∧
   ((((0 : Nat)) < 2) ∧
    (msTime 32 ≤ ((({ State.reset with time := 4294967296 } : State)).time - (({ State.reset with time := 4294967296 } : State)).drc.windowAt).toNat)) :=
  by and_intros <;> decide +kernel

theorem witness_DramPower :
   ((((0 : Nat)) < 2) ∧
    ((({ State.reset with time := 4294967296 } : State)).waitingOn ((0 : Nat)) = []) ∧
    ((({ State.reset with time := 4294967296 } : State)).serves ((0 : Nat)) = true) ∧
    ((({ State.reset with time := 4294967296 } : State)).pstate ≠ 2) ∧
    ((({ State.reset with time := 4294967296 } : State)).idleClocks ≤ ((({ State.reset with time := 4294967296 } : State)).time - ((({ State.reset with time := 4294967296 } : State)).chanU ((0 : Nat))).idleAt).toNat)) ∧
   (((((State.reset.setFld Reg.MODE_STAT Fld.MODE_STAT_PSTATE 2) : State)).pstate = 2) ∧
    ((((State.reset.setFld Reg.MODE_STAT Fld.MODE_STAT_PSTATE 2) : State)).drc.queue = []) ∧
    ((((State.reset.setFld Reg.MODE_STAT Fld.MODE_STAT_PSTATE 2) : State)).drcQuiet = true) ∧
    ((((State.reset.setFld Reg.MODE_STAT Fld.MODE_STAT_PSTATE 2) : State)).opBusy = false) ∧
    (((((State.reset.setFld Reg.MODE_STAT Fld.MODE_STAT_PSTATE 2) : State)).chanU 0).postponed = 0) ∧
    (((((State.reset.setFld Reg.MODE_STAT Fld.MODE_STAT_PSTATE 2) : State)).chanU 1).postponed = 0)) ∧
   ((((({ (State.reset.setChan 0 { selfRef := true }) with time := 4294967296, drc := { srAt := some 0 } } : State)).chanU 0).selfRef = true) ∧
    ((({ (State.reset.setChan 0 { selfRef := true }) with time := 4294967296, drc := { srAt := some 0 } } : State)).drc.queue = []) ∧
    ((({ (State.reset.setChan 0 { selfRef := true }) with time := 4294967296, drc := { srAt := some 0 } } : State)).drc.srAt.any (fun u => decide (usTime 20 ≤ ((({ (State.reset.setChan 0 { selfRef := true }) with time := 4294967296, drc := { srAt := some 0 } } : State)).time - u).toNat)) = true)) ∧
   ((((((State.reset.setChan 0 { selfRef := true }) : State)).chanU 0).selfRef = true) ∧
    ((((State.reset.setChan 0 { selfRef := true }) : State)).drc.queue ≠ [] ∨ (((State.reset.setChan 0 { selfRef := true }) : State)).pstate ≠ 2) ∧
    ((((State.reset.setChan 0 { selfRef := true }) : State)).srResident = true)) :=
  by and_intros <;> decide +kernel

theorem witness_DramTrainingAndPoints :
   ((((0 : Nat)) < 2) ∧
    ((({ State.reset with time := 4294967296 } : State)).drcQuiet = true) ∧
    ((({ State.reset with time := 4294967296 } : State)).drc.toTrain = []) ∧
    (secTime 1 ≤ ((({ State.reset with time := 4294967296 } : State)).time - ((({ State.reset with time := 4294967296 } : State)).chanU ((0 : Nat))).lastCheck).toNat)) ∧
   ((((1 : Nat)) < 2) ∧
    ((((State.reset.setFld Reg.DRC_TEMP Fld.DRC_TEMP_T_NOW 6400) : State)).drcQuiet = true) ∧
    ((((State.reset.setFld Reg.DRC_TEMP Fld.DRC_TEMP_T_NOW 6400) : State)).fullDue (((State.reset.setFld Reg.DRC_TEMP Fld.DRC_TEMP_T_NOW 6400) : State)).opNow = true)) ∧
   ((((0 : Nat)) < 2) ∧
    (((({ (State.reset.setChan 0 { training := .full }) with time := 4294967296 } : State)).chanU ((0 : Nat))).training ≠ .none) ∧
    (((({ (State.reset.setChan 0 { training := .full }) with time := 4294967296 } : State)).chanU ((0 : Nat))).training.hold ≤ ((({ (State.reset.setChan 0 { training := .full }) with time := 4294967296 } : State)).time - ((({ (State.reset.setChan 0 { training := .full }) with time := 4294967296 } : State)).chanU ((0 : Nat))).trainAt).toNat)) ∧
   ((((0 : Nat)) < 2) ∧
    (((({ (State.reset.setChan 0 { training := .check }) with time := 4294967296 } : State)).chanU ((0 : Nat))).training ≠ .none) ∧
    (((({ (State.reset.setChan 0 { training := .check }) with time := 4294967296 } : State)).chanU ((0 : Nat))).training.hold ≤ ((({ (State.reset.setChan 0 { training := .check }) with time := 4294967296 } : State)).time - ((({ (State.reset.setChan 0 { training := .check }) with time := 4294967296 } : State)).chanU ((0 : Nat))).trainAt).toNat) ∧
    (((({ (State.reset.setChan 0 { training := .check }) with time := 4294967296 } : State)).chanU ((0 : Nat))).again = false)) ∧
   ((((0 : Nat)) < 2) ∧
    (((({ (State.reset.setChan 0 { training := .check, again := true }) with time := 4294967296 } : State)).chanU ((0 : Nat))).training ≠ .none) ∧
    (((({ (State.reset.setChan 0 { training := .check, again := true }) with time := 4294967296 } : State)).chanU ((0 : Nat))).training.hold ≤ ((({ (State.reset.setChan 0 { training := .check, again := true }) with time := 4294967296 } : State)).time - ((({ (State.reset.setChan 0 { training := .check, again := true }) with time := 4294967296 } : State)).chanU ((0 : Nat))).trainAt).toNat) ∧
    (((({ (State.reset.setChan 0 { training := .check, again := true }) with time := 4294967296 } : State)).chanU ((0 : Nat))).again = true)) ∧
   ((((State.reset : State)).bootFailed = false)) ∧
   ((((State.reset : State)).bootFailed = false) ∧
    (((5 : Nat)) < 6)) ∧
   ((((((State.reset.setFld Reg.DRC_STAT Fld.DRC_STAT_OP_PEND 3).raise Reg.DRC_STAT Fld.DRC_STAT_PEND_V) : State)).flag Reg.DRC_STAT Fld.DRC_STAT_PEND_V = true) ∧
    (((((State.reset.setFld Reg.DRC_STAT Fld.DRC_STAT_OP_PEND 3).raise Reg.DRC_STAT Fld.DRC_STAT_PEND_V) : State)).opBusy = false) ∧
    ((((((State.reset.setFld Reg.DRC_STAT Fld.DRC_STAT_OP_PEND 3).raise Reg.DRC_STAT Fld.DRC_STAT_PEND_V) : State)).chanU 0).selfRef = false) ∧
    (((((State.reset.setFld Reg.DRC_STAT Fld.DRC_STAT_OP_PEND 3).raise Reg.DRC_STAT Fld.DRC_STAT_PEND_V) : State)).fld Reg.DRC_STAT Fld.DRC_STAT_OP_PEND ≠ ((((State.reset.setFld Reg.DRC_STAT Fld.DRC_STAT_OP_PEND 3).raise Reg.DRC_STAT Fld.DRC_STAT_PEND_V) : State)).opNow)) ∧
   ((((((State.reset.setFld Reg.DRC_STAT Fld.DRC_STAT_OP_NOW 3).setChan 0 { selfRef := true }) : State)).flag Reg.DRC_STAT Fld.DRC_STAT_PEND_V = false) ∧
    (((((State.reset.setFld Reg.DRC_STAT Fld.DRC_STAT_OP_NOW 3).setChan 0 { selfRef := true }) : State)).drc.change = none) ∧
    (((((State.reset.setFld Reg.DRC_STAT Fld.DRC_STAT_OP_NOW 3).setChan 0 { selfRef := true }) : State)).opBusy = true ∨ (((((State.reset.setFld Reg.DRC_STAT Fld.DRC_STAT_OP_NOW 3).setChan 0 { selfRef := true }) : State)).chanU 0).selfRef = true) ∧
    (((((State.reset.setFld Reg.DRC_STAT Fld.DRC_STAT_OP_NOW 3).setChan 0 { selfRef := true }) : State)).pointOf ((((State.reset.setFld Reg.DRC_STAT Fld.DRC_STAT_OP_NOW 3).setChan 0 { selfRef := true }) : State)).curMode ≠ ((((State.reset.setFld Reg.DRC_STAT Fld.DRC_STAT_OP_NOW 3).setChan 0 { selfRef := true }) : State)).opNow)) ∧
   (((((State.reset.setFld Reg.DRC_STAT Fld.DRC_STAT_OP_NOW 3) : State)).flag Reg.DRC_STAT Fld.DRC_STAT_PEND_V = false) ∧
    ((((State.reset.setFld Reg.DRC_STAT Fld.DRC_STAT_OP_NOW 3) : State)).opBusy = false) ∧
    (((((State.reset.setFld Reg.DRC_STAT Fld.DRC_STAT_OP_NOW 3) : State)).chanU 0).selfRef = false) ∧
    ((((State.reset.setFld Reg.DRC_STAT Fld.DRC_STAT_OP_NOW 3) : State)).pointOf (((State.reset.setFld Reg.DRC_STAT Fld.DRC_STAT_OP_NOW 3) : State)).curMode ≠ (((State.reset.setFld Reg.DRC_STAT Fld.DRC_STAT_OP_NOW 3) : State)).opNow)) ∧
   (((({ State.reset with time := 4294967296, drc := { State.reset.drc with change := some (1, 2) } } : State)).drc.change = some (((1 : Nat)), ((2 : Nat)))) ∧
    ((({ State.reset with time := 4294967296, drc := { State.reset.drc with change := some (1, 2) } } : State)).flag Reg.DRC_STAT Fld.DRC_STAT_PEND_V = false) ∧
    ((changeBounds ((({ State.reset with time := 4294967296, drc := { State.reset.drc with change := some (1, 2) } } : State)).fullDue ((2 : Nat)))).1 ≤ (({ holding := 1000, failed := [] } : ChangeEnd)).holding) ∧
    ((({ holding := 1000, failed := [] } : ChangeEnd)).holding ≤ (changeBounds ((({ State.reset with time := 4294967296, drc := { State.reset.drc with change := some (1, 2) } } : State)).fullDue ((2 : Nat)))).2) ∧
    ((({ holding := 1000, failed := [] } : ChangeEnd)).holding * 2 ^ 32 ≤ ((({ State.reset with time := 4294967296, drc := { State.reset.drc with change := some (1, 2) } } : State)).time - (({ State.reset with time := 4294967296, drc := { State.reset.drc with change := some (1, 2) } } : State)).drc.changeAt).toNat * 100000000)) :=
  by and_intros <;> decide +kernel

theorem witness_DramCellsAndMerging :
   ((((0 : Nat)) < dramCells ((State.reset : State)).fac.variant)) ∧
   ((((0 : Nat)) < dramCells ((State.reset : State)).fac.variant)) ∧
   (((({ State.reset with ecc := { State.reset.ecc with log := some ({ state := 0, cell := 0, synd := 0, source := 0, port := 0, rep := 0, lap := 0, first := 0, latest := 0, back := some 0 } : LogEntry) :: State.reset.ecc.log.drop 1 } } : State)).logOf ((0 : Nat)) = some (((0 : Nat)), ((({ state := 0, cell := 0, synd := 0, source := 0, port := 0, rep := 0, lap := 0, first := 0, latest := 0, back := some 0 } : LogEntry) : LogEntry)))) ∧
    (((({ state := 0, cell := 0, synd := 0, source := 0, port := 0, rep := 0, lap := 0, first := 0, latest := 0, back := some 0 } : LogEntry) : LogEntry)).back = some ((0 : Nat))) ∧
    ((({ State.reset with ecc := { State.reset.ecc with log := some ({ state := 0, cell := 0, synd := 0, source := 0, port := 0, rep := 0, lap := 0, first := 0, latest := 0, back := some 0 } : LogEntry) :: State.reset.ecc.log.drop 1 } } : State)).spareOf ((0 : Nat)) = none) ∧
    ((({ State.reset with ecc := { State.reset.ecc with log := some ({ state := 0, cell := 0, synd := 0, source := 0, port := 0, rep := 0, lap := 0, first := 0, latest := 0, back := some 0 } : LogEntry) :: State.reset.ecc.log.drop 1 } } : State)).flag Reg.ECC_INJ Fld.ECC_INJ_ARMED = false)) ∧
   ((((0 : Nat)) < dramCells ((State.reset : State)).fac.variant)) ∧
   ((∃ e ∈ (({ State.reset with time := 4294967296, ecc := { State.reset.ecc with merge := [⟨0, 0, 1, 0, 0⟩] } } : State)).ecc.merge, e.cell = ((0 : Nat)) ∧ usTime 1 ≤ ((({ State.reset with time := 4294967296, ecc := { State.reset.ecc with merge := [⟨0, 0, 1, 0, 0⟩] } } : State)).time - e.at_).toNat)) ∧
   (((({ State.reset with time := 4294967296, ecc := { State.reset.ecc with merge := [⟨0, 0, 1, 0, 0⟩] } } : State)).ecc.merge.find? (fun x => x.cell == ((0 : Nat))) = some ((⟨0, 0, 1, 0, 0⟩ : MergeEntry))) ∧
    (usTime 1 ≤ ((({ State.reset with time := 4294967296, ecc := { State.reset.ecc with merge := [⟨0, 0, 1, 0, 0⟩] } } : State)).time - ((⟨0, 0, 1, 0, 0⟩ : MergeEntry)).at_).toNat) ∧
    ((({ State.reset with time := 4294967296, ecc := { State.reset.ecc with merge := [⟨0, 0, 1, 0, 0⟩] } } : State)).logOf ((0 : Nat)) = none) ∧
    ((({ State.reset with time := 4294967296, ecc := { State.reset.ecc with merge := [⟨0, 0, 1, 0, 0⟩] } } : State)).spareOf ((0 : Nat)) = none) ∧
    ((({ State.reset with time := 4294967296, ecc := { State.reset.ecc with merge := [⟨0, 0, 1, 0, 0⟩] } } : State)).flag Reg.ECC_INJ Fld.ECC_INJ_ARMED = false) ∧
    (((({ State.reset with time := 4294967296, ecc := { State.reset.ecc with merge := [⟨0, 0, 1, 0, 0⟩] } } : State)).cellAt ((0 : Nat))).syndrome = 0)) ∧
   (((((State.reset.raise Reg.ECC_CFG Fld.ECC_CFG_SCRUB_EN) : State)).fld Reg.ECC_SCRUB_POS Fld.ECC_SCRUB_POS_CELL = ((0 : Nat))) ∧
    ((((State.reset.raise Reg.ECC_CFG Fld.ECC_CFG_SCRUB_EN) : State)).scrubFree (cellChan ((0 : Nat))) = true) ∧
    ((((State.reset.raise Reg.ECC_CFG Fld.ECC_CFG_SCRUB_EN) : State)).scrubVigil = true)) ∧
   ((((0 : Nat)) < dramCells ((State.reset : State)).fac.variant) ∧
    (((State.reset : State)).ecc.merge.find? (fun e => e.cell == ((0 : Nat))) = none) ∧
    (((0 : Nat)) % 2 ^ 60 ≠ allNibbles)) ∧
   ((((0 : Nat)) < dramCells (({ State.reset with ecc := { State.reset.ecc with merge := [⟨0, 0, 0, 0, 0⟩] } } : State)).fac.variant) ∧
    ((({ State.reset with ecc := { State.reset.ecc with merge := [⟨0, 0, 0, 0, 0⟩] } } : State)).ecc.merge.find? (fun e => e.cell == ((0 : Nat))) = some (((⟨0, 0, 0, 0, 0⟩ : MergeEntry) : MergeEntry))) ∧
    ((((⟨0, 0, 0, 0, 0⟩ : MergeEntry) : MergeEntry)).mask ||| ((1 : Nat)) % 2 ^ 60 ≠ allNibbles)) :=
  by and_intros <;> decide +kernel

theorem witness_EccCommands :
   (((({ State.reset with ecc := { State.reset.ecc with lapped := true } } : State)).ecc.lapped = true)) ∧
   ((((4 : Nat)) < 5)) ∧
   ((((0 : Nat)) < 5)) ∧
   ((((State.reset : State)).bootFailed = false)) ∧
   ((((State.reset : State)).bootFailed = false)) ∧
   ((((State.reset : State)).bootFailed = false)) :=
  by and_intros <;> decide +kernel

theorem witness_ModeCommandsAndWakes :
   ((((State.reset : State)).takes opModeSet ((0 : Nat)) = true) ∧
    (((5 : Nat)) = 0 ∨ 4 < ((5 : Nat)))) ∧
   ((1 ≤ ((4 : Nat))) ∧
    (((4 : Nat)) ≤ 4) ∧
    ((({ State.reset with mode := { phase := .waiting } } : State)).changing = true)) ∧
   ((1 ≤ ((4 : Nat))) ∧
    (((4 : Nat)) ≤ 4) ∧
    ((((State.reset.setFld Reg.MODE_STAT Fld.MODE_STAT_CUR 2) : State)).changing = false) ∧
    (bitAt (modeSetMask ((4 : Nat))) (((State.reset.setFld Reg.MODE_STAT Fld.MODE_STAT_CUR 2) : State)).curMode = true) ∧
    (((4 : Nat)) ≠ (((State.reset.setFld Reg.MODE_STAT Fld.MODE_STAT_CUR 2) : State)).curMode) ∧
    (((4 : Nat)) = modeBurst → (((State.reset.setFld Reg.MODE_STAT Fld.MODE_STAT_CUR 2) : State)).burstRefusal = 0)) ∧
   (((((State.reset.setFld Reg.MODE_STAT Fld.MODE_STAT_CUR 2) : State)).takes opModeSet ((0 : Nat)) = true) ∧
    (1 ≤ ((2 : Nat))) ∧
    (((2 : Nat)) ≤ 4) ∧
    ((((State.reset.setFld Reg.MODE_STAT Fld.MODE_STAT_CUR 2) : State)).changing = false) ∧
    (bitAt (modeSetMask ((2 : Nat))) (((State.reset.setFld Reg.MODE_STAT Fld.MODE_STAT_CUR 2) : State)).curMode = true) ∧
    (((2 : Nat)) = (((State.reset.setFld Reg.MODE_STAT Fld.MODE_STAT_CUR 2) : State)).curMode)) ∧
   ((((State.reset : State)).takes opModeSet ((0 : Nat)) = true) ∧
    (1 ≤ ((2 : Nat))) ∧
    (((2 : Nat)) ≤ 4) ∧
    (((State.reset : State)).changing = false) ∧
    (bitAt (modeSetMask ((2 : Nat))) ((State.reset : State)).curMode = false)) ∧
   ((((State.reset : State)).takes opSafeExit ((0 : Nat)) = true) ∧
    (((3 : Nat)) ≠ 1) ∧
    (((3 : Nat)) ≠ 2)) ∧
   ((((1 : Nat)) = 1 ∨ ((1 : Nat)) = 2) ∧
    ((({ State.reset with mode := { phase := .waiting } } : State)).changing = true)) ∧
   ((((1 : Nat)) = 1 ∨ ((1 : Nat)) = 2) ∧
    ((((State.reset.setFld Reg.MODE_STAT Fld.MODE_STAT_CUR 5) : State)).changing = false) ∧
    ((((State.reset.setFld Reg.MODE_STAT Fld.MODE_STAT_CUR 5) : State)).curMode = modeSafe) ∧
    ((((State.reset.setFld Reg.MODE_STAT Fld.MODE_STAT_CUR 5) : State)).reg Reg.SAF_CAUSE = 0)) ∧
   ((((((State.reset.setFld Reg.MODE_STAT Fld.MODE_STAT_CUR 5).setBit Reg.SAF_CAUSE 2 true) : State)).takes opSafeExit ((0 : Nat)) = true) ∧
    (((1 : Nat)) = 1 ∨ ((1 : Nat)) = 2) ∧
    (((((State.reset.setFld Reg.MODE_STAT Fld.MODE_STAT_CUR 5).setBit Reg.SAF_CAUSE 2 true) : State)).changing = false) ∧
    (((((State.reset.setFld Reg.MODE_STAT Fld.MODE_STAT_CUR 5).setBit Reg.SAF_CAUSE 2 true) : State)).curMode = modeSafe) ∧
    (((((State.reset.setFld Reg.MODE_STAT Fld.MODE_STAT_CUR 5).setBit Reg.SAF_CAUSE 2 true) : State)).reg Reg.SAF_CAUSE ≠ 0)) ∧
   (((((State.reset.setFld Reg.MODE_STAT Fld.MODE_STAT_CUR 2) : State)).takes opSafeExit ((0 : Nat)) = true) ∧
    (((1 : Nat)) = 1 ∨ ((1 : Nat)) = 2) ∧
    ((((State.reset.setFld Reg.MODE_STAT Fld.MODE_STAT_CUR 2) : State)).changing = false) ∧
    ((((State.reset.setFld Reg.MODE_STAT Fld.MODE_STAT_CUR 2) : State)).curMode ≠ modeSafe)) ∧
   ((((((State.reset.setFld Reg.MODE_TMR Fld.MODE_TMR_PER 5).setFld Reg.MODE_TMR Fld.MODE_TMR_DUR 1) : State)).inTimerOn = true) ∧
    (((((State.reset.setFld Reg.MODE_TMR Fld.MODE_TMR_PER 5).setFld Reg.MODE_TMR Fld.MODE_TMR_DUR 1) : State)).mode.timerOn = false)) ∧
   ((((((((State.reset.setFld Reg.MODE_STAT Fld.MODE_STAT_CUR 1).raise Reg.MODE_POLICY Fld.MODE_POLICY_AUTO).setFld Reg.MODE_TMR Fld.MODE_TMR_PER 5).setFld Reg.MODE_TMR Fld.MODE_TMR_DUR 1) : State)).inTimerOn = true) ∧
    (((((((State.reset.setFld Reg.MODE_STAT Fld.MODE_STAT_CUR 1).raise Reg.MODE_POLICY Fld.MODE_POLICY_AUTO).setFld Reg.MODE_TMR Fld.MODE_TMR_PER 5).setFld Reg.MODE_TMR Fld.MODE_TMR_DUR 1) : State)).mode.timerOn = false) ∧
    (((((((State.reset.setFld Reg.MODE_STAT Fld.MODE_STAT_CUR 1).raise Reg.MODE_POLICY Fld.MODE_POLICY_AUTO).setFld Reg.MODE_TMR Fld.MODE_TMR_PER 5).setFld Reg.MODE_TMR Fld.MODE_TMR_DUR 1) : State)).changing = false) ∧
    (((((((State.reset.setFld Reg.MODE_STAT Fld.MODE_STAT_CUR 1).raise Reg.MODE_POLICY Fld.MODE_POLICY_AUTO).setFld Reg.MODE_TMR Fld.MODE_TMR_PER 5).setFld Reg.MODE_TMR Fld.MODE_TMR_DUR 1) : State)).autoOk = true) ∧
    (((((((State.reset.setFld Reg.MODE_STAT Fld.MODE_STAT_CUR 1).raise Reg.MODE_POLICY Fld.MODE_POLICY_AUTO).setFld Reg.MODE_TMR Fld.MODE_TMR_PER 5).setFld Reg.MODE_TMR Fld.MODE_TMR_DUR 1) : State)).curMode = modeVigil) ∧
    (((((((State.reset.setFld Reg.MODE_STAT Fld.MODE_STAT_CUR 1).raise Reg.MODE_POLICY Fld.MODE_POLICY_AUTO).setFld Reg.MODE_TMR Fld.MODE_TMR_PER 5).setFld Reg.MODE_TMR Fld.MODE_TMR_DUR 1) : State)).gatePasses = true) ∧
    (((((((State.reset.setFld Reg.MODE_STAT Fld.MODE_STAT_CUR 1).raise Reg.MODE_POLICY Fld.MODE_POLICY_AUTO).setFld Reg.MODE_TMR Fld.MODE_TMR_PER 5).setFld Reg.MODE_TMR Fld.MODE_TMR_DUR 1) : State)).triggers = [])) ∧
   (((({ State.reset with mode := { timerOn := true } } : State)).inTimerOn = false) ∧
    ((({ State.reset with mode := { timerOn := true } } : State)).mode.timerOn = true)) ∧
   ((firstCause ((({ ((State.reset.setFld Reg.MODE_STAT Fld.MODE_STAT_CUR 1).raise Reg.MODE_POLICY Fld.MODE_POLICY_AUTO) with mode := { gate := [.timer], timerOn := true } } : State)).mode.gate.filter (({ ((State.reset.setFld Reg.MODE_STAT Fld.MODE_STAT_CUR 1).raise Reg.MODE_POLICY Fld.MODE_POLICY_AUTO) with mode := { gate := [.timer], timerOn := true } } : State)).persists) = some ((GateCause.timer : GateCause))) ∧
    ((({ ((State.reset.setFld Reg.MODE_STAT Fld.MODE_STAT_CUR 1).raise Reg.MODE_POLICY Fld.MODE_POLICY_AUTO) with mode := { gate := [.timer], timerOn := true } } : State)).changing = false) ∧
    ((({ ((State.reset.setFld Reg.MODE_STAT Fld.MODE_STAT_CUR 1).raise Reg.MODE_POLICY Fld.MODE_POLICY_AUTO) with mode := { gate := [.timer], timerOn := true } } : State)).autoOk = true) ∧
    ((({ ((State.reset.setFld Reg.MODE_STAT Fld.MODE_STAT_CUR 1).raise Reg.MODE_POLICY Fld.MODE_POLICY_AUTO) with mode := { gate := [.timer], timerOn := true } } : State)).curMode = modeVigil) ∧
    ((({ ((State.reset.setFld Reg.MODE_STAT Fld.MODE_STAT_CUR 1).raise Reg.MODE_POLICY Fld.MODE_POLICY_AUTO) with mode := { gate := [.timer], timerOn := true } } : State)).gatePasses = true) ∧
    (((GateCause.timer : GateCause)).target = modeBurst → (({ ((State.reset.setFld Reg.MODE_STAT Fld.MODE_STAT_CUR 1).raise Reg.MODE_POLICY Fld.MODE_POLICY_AUTO) with mode := { gate := [.timer], timerOn := true } } : State)).burstRefusal = 0)) ∧
   ((firstCause ((({ ((((State.reset.setFld Reg.MODE_STAT Fld.MODE_STAT_CUR 1).raise Reg.MODE_POLICY Fld.MODE_POLICY_AUTO).setFld Reg.PACER_RES Fld.PACER_RES_MIN 1).setTrig 3 { latest := some 0 }) with pacer := { pool := 0 }, mode := { gate := [.burst 3] } } : State)).mode.gate.filter (({ ((((State.reset.setFld Reg.MODE_STAT Fld.MODE_STAT_CUR 1).raise Reg.MODE_POLICY Fld.MODE_POLICY_AUTO).setFld Reg.PACER_RES Fld.PACER_RES_MIN 1).setTrig 3 { latest := some 0 }) with pacer := { pool := 0 }, mode := { gate := [.burst 3] } } : State)).persists) = some ((GateCause.burst 3 : GateCause))) ∧
    ((({ ((((State.reset.setFld Reg.MODE_STAT Fld.MODE_STAT_CUR 1).raise Reg.MODE_POLICY Fld.MODE_POLICY_AUTO).setFld Reg.PACER_RES Fld.PACER_RES_MIN 1).setTrig 3 { latest := some 0 }) with pacer := { pool := 0 }, mode := { gate := [.burst 3] } } : State)).changing = false) ∧
    ((({ ((((State.reset.setFld Reg.MODE_STAT Fld.MODE_STAT_CUR 1).raise Reg.MODE_POLICY Fld.MODE_POLICY_AUTO).setFld Reg.PACER_RES Fld.PACER_RES_MIN 1).setTrig 3 { latest := some 0 }) with pacer := { pool := 0 }, mode := { gate := [.burst 3] } } : State)).autoOk = true) ∧
    ((({ ((((State.reset.setFld Reg.MODE_STAT Fld.MODE_STAT_CUR 1).raise Reg.MODE_POLICY Fld.MODE_POLICY_AUTO).setFld Reg.PACER_RES Fld.PACER_RES_MIN 1).setTrig 3 { latest := some 0 }) with pacer := { pool := 0 }, mode := { gate := [.burst 3] } } : State)).curMode = modeVigil) ∧
    ((({ ((((State.reset.setFld Reg.MODE_STAT Fld.MODE_STAT_CUR 1).raise Reg.MODE_POLICY Fld.MODE_POLICY_AUTO).setFld Reg.PACER_RES Fld.PACER_RES_MIN 1).setTrig 3 { latest := some 0 }) with pacer := { pool := 0 }, mode := { gate := [.burst 3] } } : State)).gatePasses = true) ∧
    (((GateCause.burst 3 : GateCause)).target = modeBurst) ∧
    ((({ ((((State.reset.setFld Reg.MODE_STAT Fld.MODE_STAT_CUR 1).raise Reg.MODE_POLICY Fld.MODE_POLICY_AUTO).setFld Reg.PACER_RES Fld.PACER_RES_MIN 1).setTrig 3 { latest := some 0 }) with pacer := { pool := 0 }, mode := { gate := [.burst 3] } } : State)).burstRefusal ≠ 0)) :=
  by and_intros <;> decide +kernel

theorem witness_ModeChanges :
   (((({ State.reset with mode := { phase := .waiting } } : State)).mode.phase = .waiting) ∧
    ((({ State.reset with mode := { phase := .waiting } } : State)).atBoundary = true)) ∧
   (((({ State.reset with mode := { phase := .acting } } : State)).mode.phase = .acting) ∧
    ((({ State.reset with mode := { phase := .acting } } : State)).mode.next = none) ∧
    ((({ State.reset with mode := { phase := .acting } } : State)).mode.waitCmd = []) ∧
    ((({ State.reset with mode := { phase := .acting } } : State)).mode.waitBurst = none) ∧
    ((({ State.reset with mode := { phase := .acting } } : State)).burstWaiting = none) ∧
    ((({ State.reset with mode := { phase := .acting } } : State)).mode.waitWake = none) ∧
    ((({ State.reset with mode := { phase := .acting } } : State)).mode.waitTimer = false) ∧
    ((({ State.reset with mode := { phase := .acting } } : State)).mode.waitPacer = false)) ∧
   (((({ State.reset with mode := { phase := .acting } } : State)).mode.phase = .acting) ∧
    ((({ State.reset with mode := { phase := .acting } } : State)).mode.next = none)) ∧
   (((({ State.reset with mode := { phase := .acting, next := some 1 } } : State)).mode.phase = .acting) ∧
    ((({ State.reset with mode := { phase := .acting, next := some 1 } } : State)).mode.next = some ((1 : Nat)))) ∧
   (((({ ((State.reset.setFld Reg.MODE_STAT Fld.MODE_STAT_CUR 2).raise Reg.MODE_POLICY Fld.MODE_POLICY_AUTO) with time := 281474976710656000 } : State)).curMode = modeSurvey) ∧
    ((({ ((State.reset.setFld Reg.MODE_STAT Fld.MODE_STAT_CUR 2).raise Reg.MODE_POLICY Fld.MODE_POLICY_AUTO) with time := 281474976710656000 } : State)).changing = false) ∧
    ((({ ((State.reset.setFld Reg.MODE_STAT Fld.MODE_STAT_CUR 2).raise Reg.MODE_POLICY Fld.MODE_POLICY_AUTO) with time := 281474976710656000 } : State)).autoOk = true) ∧
    ((({ ((State.reset.setFld Reg.MODE_STAT Fld.MODE_STAT_CUR 2).raise Reg.MODE_POLICY Fld.MODE_POLICY_AUTO) with time := 281474976710656000 } : State)).mode.timerOn = false) ∧
    ((({ ((State.reset.setFld Reg.MODE_STAT Fld.MODE_STAT_CUR 2).raise Reg.MODE_POLICY Fld.MODE_POLICY_AUTO) with time := 281474976710656000 } : State)).idlePassed = true)) ∧
   (((({ ((State.reset.setFld Reg.MODE_STAT Fld.MODE_STAT_CUR 3).raise Reg.MODE_POLICY Fld.MODE_POLICY_AUTO) with time := 281474976710656000 } : State)).curMode = modeBurst) ∧
    ((({ ((State.reset.setFld Reg.MODE_STAT Fld.MODE_STAT_CUR 3).raise Reg.MODE_POLICY Fld.MODE_POLICY_AUTO) with time := 281474976710656000 } : State)).changing = false) ∧
    ((({ ((State.reset.setFld Reg.MODE_STAT Fld.MODE_STAT_CUR 3).raise Reg.MODE_POLICY Fld.MODE_POLICY_AUTO) with time := 281474976710656000 } : State)).autoOk = true) ∧
    ((({ ((State.reset.setFld Reg.MODE_STAT Fld.MODE_STAT_CUR 3).raise Reg.MODE_POLICY Fld.MODE_POLICY_AUTO) with time := 281474976710656000 } : State)).holdPassed = true)) :=
  by and_intros <;> decide +kernel

theorem witness_PowerStates :
   (((({ (State.reset.setFld Reg.MODE_STAT Fld.MODE_STAT_CUR 2) with time := 4294967296 } : State)).curMode = modeSurvey ∨ (({ (State.reset.setFld Reg.MODE_STAT Fld.MODE_STAT_CUR 2) with time := 4294967296 } : State)).curMode = modeSafe) ∧
    ((({ (State.reset.setFld Reg.MODE_STAT Fld.MODE_STAT_CUR 2) with time := 4294967296 } : State)).pstate = 0) ∧
    ((({ (State.reset.setFld Reg.MODE_STAT Fld.MODE_STAT_CUR 2) with time := 4294967296 } : State)).changing = false) ∧
    ((({ (State.reset.setFld Reg.MODE_STAT Fld.MODE_STAT_CUR 2) with time := 4294967296 } : State)).openInvs = []) ∧
    (usTime 10 ≤ ((({ (State.reset.setFld Reg.MODE_STAT Fld.MODE_STAT_CUR 2) with time := 4294967296 } : State)).time - (({ (State.reset.setFld Reg.MODE_STAT Fld.MODE_STAT_CUR 2) with time := 4294967296 } : State)).eng.ended).toNat) ∧
    (usTime 10 ≤ ((({ (State.reset.setFld Reg.MODE_STAT Fld.MODE_STAT_CUR 2) with time := 4294967296 } : State)).time - (({ (State.reset.setFld Reg.MODE_STAT Fld.MODE_STAT_CUR 2) with time := 4294967296 } : State)).host.dmaAt).toNat)) ∧
   (((((State.reset.setFld Reg.MODE_STAT Fld.MODE_STAT_CUR 1) : State)).deepOk = true) ∧
    ((((State.reset.setFld Reg.MODE_STAT Fld.MODE_STAT_CUR 1) : State)).clk.deepRetry = none)) ∧
   (((({ (State.reset.setFld Reg.MODE_STAT Fld.MODE_STAT_CUR 1) with time := 4294967296, clk := { deepRetry := some 0 } } : State)).clk.deepRetry = some ((0 : Time))) ∧
    (msTime 1 ≤ ((({ (State.reset.setFld Reg.MODE_STAT Fld.MODE_STAT_CUR 1) with time := 4294967296, clk := { deepRetry := some 0 } } : State)).time - ((0 : Time))).toNat)) ∧
   (((((wEng 0 { run := [0], invs := [wInv] }) : State)).pstate ≠ 3) ∧
    ((((wEng 0 { run := [0], invs := [wInv] }) : State)).burstReason = true)) ∧
   ((((15 : Nat)) < 16) ∧
    ((({ State.reset with time := 281474976710656, clk := { State.reset.clk with closing := [(15, 0)] } } : State)).deepCloses ((15 : Nat)) = true ∨ (({ State.reset with time := 281474976710656, clk := { State.reset.clk with closing := [(15, 0)] } } : State)).closeWaited ((15 : Nat)) = true)) ∧
   ((((0 : Nat)) < 16) ∧
    ((((State.reset.setReg Reg.CLK_GATE_OPEN 0) : State)).gateOpen ((0 : Nat)) = false)) :=
  by and_intros <;> decide +kernel

theorem witness_PacerAndThermalLimits :
   ((¬((({ State.reset with pacer := { windowStart := 18446744073709551615 } } : State)).windowBegin ≤ (({ State.reset with pacer := { windowStart := 18446744073709551615 } } : State)).pacer.windowStart.toNat ∧ (({ State.reset with pacer := { windowStart := 18446744073709551615 } } : State)).pacer.windowStart.toNat ≤ (({ State.reset with pacer := { windowStart := 18446744073709551615 } } : State)).time.toNat))) ∧
   (((((State.reset.setFld Reg.MODE_STAT Fld.MODE_STAT_CUR 3) : State)).curMode = modeBurst) ∧
    ((((State.reset.setFld Reg.MODE_STAT Fld.MODE_STAT_CUR 3) : State)).pacer.pool = 0) ∧
    ((((State.reset.setFld Reg.MODE_STAT Fld.MODE_STAT_CUR 3) : State)).pacer.exhausted = false) ∧
    ((((State.reset.setFld Reg.MODE_STAT Fld.MODE_STAT_CUR 3) : State)).changing = false)) ∧
   ((((State.reset : State)).flag Reg.PACER_STAT Fld.PACER_STAT_CEIL = false) ∧
    ((256 * ((State.reset : State)).fld Reg.PACER_THERM Fld.PACER_THERM_CEIL : Int) ≤ ((0x7FFF : BitVec 16)).toInt)) ∧
   (((((State.reset.raise Reg.PACER_STAT Fld.PACER_STAT_CEIL) : State)).flag Reg.PACER_STAT Fld.PACER_STAT_CEIL = true) ∧
    (((0x8000 : BitVec 16)).toInt ≤ 256 * (((((State.reset.raise Reg.PACER_STAT Fld.PACER_STAT_CEIL) : State)).fld Reg.PACER_THERM Fld.PACER_THERM_CEIL : Int) - 5))) ∧
   ((((State.reset : State)).flag Reg.PACER_STAT Fld.PACER_STAT_EMERG = false) ∧
    ((256 * ((State.reset : State)).fld Reg.PACER_THERM Fld.PACER_THERM_EMERG : Int) ≤ ((0x7FFF : BitVec 16)).toInt)) ∧
   (((((State.reset.raise Reg.PACER_STAT Fld.PACER_STAT_EMERG) : State)).flag Reg.PACER_STAT Fld.PACER_STAT_EMERG = true) ∧
    (((0x8000 : BitVec 16)).toInt ≤ 256 * (((((State.reset.raise Reg.PACER_STAT Fld.PACER_STAT_EMERG) : State)).fld Reg.PACER_THERM Fld.PACER_THERM_EMERG : Int) - 5))) :=
  by and_intros <;> decide +kernel

theorem witness_Clocks :
   ((((((State.reset.raise Reg.CLK_STAT Fld.CLK_STAT_HOLDOVER).setReg Reg.CLK_READY 0x1F) : State)).flag Reg.CLK_STAT Fld.CLK_STAT_HOLDOVER = true) ∧
    (((((State.reset.raise Reg.CLK_STAT Fld.CLK_STAT_HOLDOVER).setReg Reg.CLK_READY 0x1F) : State)).clk.switching.isSome = true ∨ ((((State.reset.raise Reg.CLK_STAT Fld.CLK_STAT_HOLDOVER).setReg Reg.CLK_READY 0x1F) : State)).clkSel ≠ ((((State.reset.raise Reg.CLK_STAT Fld.CLK_STAT_HOLDOVER).setReg Reg.CLK_READY 0x1F) : State)).clk.lostSrc ∨ ((((State.reset.raise Reg.CLK_STAT Fld.CLK_STAT_HOLDOVER).setReg Reg.CLK_READY 0x1F) : State)).isReady ((((State.reset.raise Reg.CLK_STAT Fld.CLK_STAT_HOLDOVER).setReg Reg.CLK_READY 0x1F) : State)).clkSel = true)) ∧
   (((({ State.reset with clk := { mcdFired := true } } : State)).clk.mcdFired = true)) ∧
   ((((4 : Nat)) < 5)) ∧
   ((((State.reset : State)).bootFailed = false)) ∧
   (((({ (State.reset.setFld Reg.CLK_SRC Fld.CLK_SRC_ST 2) with clk := { switching := some 1, swDue := true } } : State)).clk.swDue = true) ∧
    ((({ (State.reset.setFld Reg.CLK_SRC Fld.CLK_SRC_ST 2) with clk := { switching := some 1, swDue := true } } : State)).clk.switching = some ((1 : Nat))) ∧
    ((({ (State.reset.setFld Reg.CLK_SRC Fld.CLK_SRC_ST 2) with clk := { switching := some 1, swDue := true } } : State)).fld Reg.CLK_SRC Fld.CLK_SRC_ST = 2)) :=
  by and_intros <;> decide +kernel

theorem witness_SafetyTrips :
   ((((8 : Nat)) < 9) ∧
    (((wOut : State)).inReset = false) ∧
    (((wOut : State)).tooEarly ((8 : Nat)) = false)) ∧
   ((((wOut : State)).inReset = false) ∧
    (((wOut : State)).tooEarly 9 = false)) ∧
   (((((State.reset.setBit Reg.SAF_CAUSE 2 true) : State)).causeActive ((2 : Nat)) = true) ∧
    ((((State.reset.setBit Reg.SAF_CAUSE 2 true) : State)).causeEnded ((2 : Nat)) = true)) ∧
   ((((4 : Nat)) < 5) ∧
    ((((!State.reset.ballDriven 4) : Bool)) ≠ ((State.reset : State)).ballDriven ((4 : Nat)))) ∧
   ((((9 : Nat)) < 10)) :=
  by and_intros <;> decide +kernel

theorem witness_AlarmCommands :
   (((({ (State.reset.setBit Reg.SAF_CAUSE 12 true) with smon := { running := true } } : State)).smon.running = true) ∧
    ((({ (State.reset.setBit Reg.SAF_CAUSE 12 true) with smon := { running := true } } : State)).causeActive 12 = true)) ∧
   ((((3 : Nat)) < 4) ∧
    ((({ State.reset with smon := { running := true } } : State)).smon.running = true)) ∧
   ((((3 : Nat)) < 4) ∧
    ((({ State.reset with smon := { running := true } } : State)).smon.running = true) ∧
    ((({ State.reset with smon := { running := true } } : State)).causeActive 11 = false) ∧
    ((({ State.reset with smon := { running := true } } : State)).causeActive 12 = false) ∧
    ((({ State.reset with smon := { running := true } } : State)).fld (Reg.SAF_ALM_CFG ((3 : Nat))) Fld.SAF_ALM_CFG_EN = 0)) ∧
   ((((0 : Nat)) < 4) ∧
    ((({ ((State.reset.setFld (Reg.SAF_ALM_CFG 0) Fld.SAF_ALM_CFG_TRIG_A 5).setTrig 5 { raised := true, latest := some 0 }) with time := 4294967296000, smon := { running := true } } : State)).smon.running = true) ∧
    (((5 : Nat)) < 0xFF) ∧
    ((({ ((State.reset.setFld (Reg.SAF_ALM_CFG 0) Fld.SAF_ALM_CFG_TRIG_A 5).setTrig 5 { raised := true, latest := some 0 }) with time := 4294967296000, smon := { running := true } } : State)).fld (Reg.SAF_ALM_CFG ((0 : Nat))) Fld.SAF_ALM_CFG_TRIG_A = ((5 : Nat)) ∨ (({ ((State.reset.setFld (Reg.SAF_ALM_CFG 0) Fld.SAF_ALM_CFG_TRIG_A 5).setTrig 5 { raised := true, latest := some 0 }) with time := 4294967296000, smon := { running := true } } : State)).fld (Reg.SAF_ALM_CFG ((0 : Nat))) Fld.SAF_ALM_CFG_TRIG_B = ((5 : Nat))) ∧
    ((({ ((State.reset.setFld (Reg.SAF_ALM_CFG 0) Fld.SAF_ALM_CFG_TRIG_A 5).setTrig 5 { raised := true, latest := some 0 }) with time := 4294967296000, smon := { running := true } } : State)).hasClear ((5 : Nat)) = false) ∧
    (((({ ((State.reset.setFld (Reg.SAF_ALM_CFG 0) Fld.SAF_ALM_CFG_TRIG_A 5).setTrig 5 { raised := true, latest := some 0 }) with time := 4294967296000, smon := { running := true } } : State)).trigU ((5 : Nat))).raised = true) ∧
    (((({ ((State.reset.setFld (Reg.SAF_ALM_CFG 0) Fld.SAF_ALM_CFG_TRIG_A 5).setTrig 5 { raised := true, latest := some 0 }) with time := 4294967296000, smon := { running := true } } : State)).trigU ((5 : Nat))).latest = some (((0 : Time) : Time))) ∧
    ((((0 : Time) : Time)).toNat + msTime ((({ ((State.reset.setFld (Reg.SAF_ALM_CFG 0) Fld.SAF_ALM_CFG_TRIG_A 5).setTrig 5 { raised := true, latest := some 0 }) with time := 4294967296000, smon := { running := true } } : State)).fld (Reg.SAF_ALM_HOLD ((0 : Nat))) Fld.SAF_ALM_HOLD_HOLD) ≤ (({ ((State.reset.setFld (Reg.SAF_ALM_CFG 0) Fld.SAF_ALM_CFG_TRIG_A 5).setTrig 5 { raised := true, latest := some 0 }) with time := 4294967296000, smon := { running := true } } : State)).time.toNat)) ∧
   ((((State.reset : State)).bootFailed = false) ∧
    (((0 : Nat)) < 4) ∧
    (((State.reset : State)).alarmSource ((0 : Nat)) = none) ∧
    ((((State.reset : State)).alarmU ((0 : Nat))).until_.toNat ≤ ((State.reset : State)).time.toNat)) ∧
   (((((State.reset.setFld Reg.MODE_STAT Fld.MODE_STAT_CUR 4) : State)).bootFailed = false) ∧
    (((3 : Nat)) < 4) ∧
    (1 ≤ ((3 : Nat))) ∧
    (((3 : Nat)) < 4) ∧
    ((((State.reset.setFld Reg.MODE_STAT Fld.MODE_STAT_CUR 4) : State)).inService = true)) ∧
   (((((State.reset.setFld Reg.MODE_STAT Fld.MODE_STAT_CUR 4) : State)).bootFailed = false) ∧
    (((3 : Nat)) < 4) ∧
    (((0 : Nat)) < 4) ∧
    ((((judged ((State.reset.setFld Reg.MODE_STAT Fld.MODE_STAT_CUR 4).reg (almReg 3 0)) 0xFCFFFFFF 0 0xFCFFFFFF) : Word)) = judged ((((State.reset.setFld Reg.MODE_STAT Fld.MODE_STAT_CUR 4) : State)).reg (almReg ((3 : Nat)) ((0 : Nat)))) (almMasks.getD ((0 : Nat)) 0) 0 ((0xFCFFFFFF : Word))) ∧
    (((0 : Nat)) = 0 → trigAllowed (((State.reset.setFld Reg.MODE_STAT Fld.MODE_STAT_CUR 4) : State)).triggers (((State.reset.setFld Reg.MODE_STAT Fld.MODE_STAT_CUR 4) : State)).eng.graph (getField Fld.SAF_ALM_CFG_TRIG_A (((judged ((State.reset.setFld Reg.MODE_STAT Fld.MODE_STAT_CUR 4).reg (almReg 3 0)) 0xFCFFFFFF 0 0xFCFFFFFF) : Word))) = true ∧
      trigAllowed (((State.reset.setFld Reg.MODE_STAT Fld.MODE_STAT_CUR 4) : State)).triggers (((State.reset.setFld Reg.MODE_STAT Fld.MODE_STAT_CUR 4) : State)).eng.graph (getField Fld.SAF_ALM_CFG_TRIG_B (((judged ((State.reset.setFld Reg.MODE_STAT Fld.MODE_STAT_CUR 4).reg (almReg 3 0)) 0xFCFFFFFF 0 0xFCFFFFFF) : Word))) = true) ∧
    ((((State.reset.setFld Reg.MODE_STAT Fld.MODE_STAT_CUR 4) : State)).inService = true ∨ (((State.reset.setFld Reg.MODE_STAT Fld.MODE_STAT_CUR 4) : State)).curMode = modeSafe ∧ almSafeOk ((0 : Nat)) ((((State.reset.setFld Reg.MODE_STAT Fld.MODE_STAT_CUR 4) : State)).reg (almReg ((3 : Nat)) ((0 : Nat)))) (((judged ((State.reset.setFld Reg.MODE_STAT Fld.MODE_STAT_CUR 4).reg (almReg 3 0)) 0xFCFFFFFF 0 0xFCFFFFFF) : Word)) = true)) ∧
   (((((State.reset.setFld Reg.MODE_STAT Fld.MODE_STAT_CUR 2) : State)).bootFailed = false) ∧
    (((0 : Nat)) < 4) ∧
    (((3 : Nat)) < 4) ∧
    ((((judged ((State.reset.setFld Reg.MODE_STAT Fld.MODE_STAT_CUR 2).reg (almReg 0 3)) 0x0000FFFF 0 1) : Word)) = judged ((((State.reset.setFld Reg.MODE_STAT Fld.MODE_STAT_CUR 2) : State)).reg (almReg ((0 : Nat)) ((3 : Nat)))) (almMasks.getD ((3 : Nat)) 0) 0 ((1 : Word))) ∧
    (¬((((3 : Nat)) = 0 → trigAllowed (((State.reset.setFld Reg.MODE_STAT Fld.MODE_STAT_CUR 2) : State)).triggers (((State.reset.setFld Reg.MODE_STAT Fld.MODE_STAT_CUR 2) : State)).eng.graph (getField Fld.SAF_ALM_CFG_TRIG_A (((judged ((State.reset.setFld Reg.MODE_STAT Fld.MODE_STAT_CUR 2).reg (almReg 0 3)) 0x0000FFFF 0 1) : Word))) = true ∧
      trigAllowed (((State.reset.setFld Reg.MODE_STAT Fld.MODE_STAT_CUR 2) : State)).triggers (((State.reset.setFld Reg.MODE_STAT Fld.MODE_STAT_CUR 2) : State)).eng.graph (getField Fld.SAF_ALM_CFG_TRIG_B (((judged ((State.reset.setFld Reg.MODE_STAT Fld.MODE_STAT_CUR 2).reg (almReg 0 3)) 0x0000FFFF 0 1) : Word))) = true) ∧ ((((State.reset.setFld Reg.MODE_STAT Fld.MODE_STAT_CUR 2) : State)).inService = true ∨ (((State.reset.setFld Reg.MODE_STAT Fld.MODE_STAT_CUR 2) : State)).curMode = modeSafe ∧ almSafeOk ((3 : Nat)) ((((State.reset.setFld Reg.MODE_STAT Fld.MODE_STAT_CUR 2) : State)).reg (almReg ((0 : Nat)) ((3 : Nat)))) (((judged ((State.reset.setFld Reg.MODE_STAT Fld.MODE_STAT_CUR 2).reg (almReg 0 3)) 0x0000FFFF 0 1) : Word)) = true)))) ∧
   (((((State.reset.setFld Reg.MODE_STAT Fld.MODE_STAT_CUR 2) : State)).bootFailed = false) ∧
    (((0 : Nat)) < 4) ∧
    (((0 : Nat)) < 4) ∧
    ((((State.reset.setFld Reg.MODE_STAT Fld.MODE_STAT_CUR 2) : State)).inService = false) ∧
    ((((State.reset.setFld Reg.MODE_STAT Fld.MODE_STAT_CUR 2) : State)).curMode ≠ modeSafe)) ∧
   (((((State.reset.setFld Reg.MODE_STAT Fld.MODE_STAT_CUR 4) : State)).bootFailed = false) ∧
    ((((State.reset.setFld Reg.MODE_STAT Fld.MODE_STAT_CUR 4) : State)).inService = true)) ∧
   ((((State.reset : State)).bootFailed = false) ∧
    (((State.reset : State)).inService = false)) ∧
   (((((State.reset.setFld Reg.MODE_STAT Fld.MODE_STAT_CUR 4) : State)).bootFailed = false) ∧
    ((((State.reset.setFld Reg.MODE_STAT Fld.MODE_STAT_CUR 4) : State)).inService = true)) ∧
   ((((State.reset : State)).bootFailed = false) ∧
    (((State.reset : State)).inService = false)) :=
  by and_intros <;> decide +kernel

theorem witness_LinkStatesAndFlits :
   ((((3 : Nat)) < 4) ∧
    (hasFp (((wOut.raise (Reg.FP_CFG 3) Fld.FP_CFG_EN) : State)).fac.variant ((3 : Nat)) = true) ∧
    ((((wOut.raise (Reg.FP_CFG 3) Fld.FP_CFG_EN) : State)).inReset = false) ∧
    ((((wOut.raise (Reg.FP_CFG 3) Fld.FP_CFG_EN) : State)).bootFailed = false) ∧
    ((((wOut.raise (Reg.FP_CFG 3) Fld.FP_CFG_EN) : State)).flag (Reg.FP_CFG ((3 : Nat))) Fld.FP_CFG_EN = true) ∧
    ((((wOut.raise (Reg.FP_CFG 3) Fld.FP_CFG_EN) : State)).lstate ((3 : Nat)) = lsDown) ∧
    (bitAt ((((wOut.raise (Reg.FP_CFG 3) Fld.FP_CFG_EN) : State)).gateEnables (((wOut.raise (Reg.FP_CFG 3) Fld.FP_CFG_EN) : State)).pstate).toNat (10 + ((3 : Nat))) = true)) ∧
   ((((0 : Nat)) < 4) ∧
    (hasFp (((State.reset.setLink 0 lsTraining) : State)).fac.variant ((0 : Nat)) = true) ∧
    ((((State.reset.setLink 0 lsTraining) : State)).lstate ((0 : Nat)) = lsTraining)) ∧
   ((((0 : Nat)) < 4) ∧
    (hasFp (({ ((State.reset.setLink 0 lsHello).setPort 0 { cleanFrom := some 0 }) with time := 4294967296 } : State)).fac.variant ((0 : Nat)) = true) ∧
    ((({ ((State.reset.setLink 0 lsHello).setPort 0 { cleanFrom := some 0 }) with time := 4294967296 } : State)).lstate ((0 : Nat)) = lsHello) ∧
    (((({ ((State.reset.setLink 0 lsHello).setPort 0 { cleanFrom := some 0 }) with time := 4294967296 } : State)).portU ((0 : Nat))).cleanFrom = some ((0 : Time))) ∧
    (((0 : Time)).toNat + msTime 1 ≤ (({ ((State.reset.setLink 0 lsHello).setPort 0 { cleanFrom := some 0 }) with time := 4294967296 } : State)).time.toNat) ∧
    ((({ ((State.reset.setLink 0 lsHello).setPort 0 { cleanFrom := some 0 }) with time := 4294967296 } : State)).foreign ((0 : Nat)) = false)) ∧
   ((((0 : Nat)) < 4) ∧
    (hasFp (((State.reset.setLink 0 lsTraining) : State)).fac.variant ((0 : Nat)) = true) ∧
    ((((State.reset.setLink 0 lsTraining) : State)).talks ((0 : Nat)) = true ∨ (((State.reset.setLink 0 lsTraining) : State)).lstate ((0 : Nat)) = lsTraining)) ∧
   ((((3 : Nat)) < 4) ∧
    (hasFp (({ ((State.reset.setLink 3 lsFailed).setPort 3 { failedAt := some 0 }) with time := 4294967296 } : State)).fac.variant ((3 : Nat)) = true) ∧
    ((({ ((State.reset.setLink 3 lsFailed).setPort 3 { failedAt := some 0 }) with time := 4294967296 } : State)).lstate ((3 : Nat)) = lsFailed) ∧
    (((({ ((State.reset.setLink 3 lsFailed).setPort 3 { failedAt := some 0 }) with time := 4294967296 } : State)).portU ((3 : Nat))).failedAt = some ((0 : Time))) ∧
    (((0 : Time)).toNat + msTime 1 ≤ (({ ((State.reset.setLink 3 lsFailed).setPort 3 { failedAt := some 0 }) with time := 4294967296 } : State)).time.toNat)) ∧
   ((((0 : Nat)) < 4) ∧
    ((((State.reset.setLink 0 lsUp) : State)).lstate ((0 : Nat)) = lsUp) ∧
    (flitNumber ((((State.reset.setLink 0 lsUp) : State)).portU ((0 : Nat))).rxNext (((0 : BitVec 256) : BitVec 256)).toNat = none)) ∧
   ((((0 : Nat)) < 4) ∧
    (((((State.reset.setLink 0 lsUp).setPort 0 { part := some (wPacket, 2) }) : State)).lstate ((0 : Nat)) = lsUp) ∧
    (flitNumber (((((State.reset.setLink 0 lsUp).setPort 0 { part := some (wPacket, 2) }) : State)).portU ((0 : Nat))).rxNext (((BitVec.ofNat 256 (mkFlit 0 5 false)) : BitVec 256)).toNat = some ((((((State.reset.setLink 0 lsUp).setPort 0 { part := some (wPacket, 2) }) : State)).portU ((0 : Nat))).rxNext, ((false : Bool)))) ∧
    ((((((State.reset.setLink 0 lsUp).setPort 0 { part := some (wPacket, 2) }) : State)).portU ((0 : Nat))).part = some (((wPacket : Packet)), ((2 : Nat)))) ∧
    (2 ≤ ((2 : Nat)))) ∧
   ((((0 : Nat)) < 4) ∧
    ((({ ((State.reset.setLink 0 lsUp).setPort 0 { retry := [{ seq := 0, bits := 0, poison := false, sentAt := 0 }] }) with time := 4294967296 } : State)).lstate ((0 : Nat)) = lsUp) ∧
    (((({ ((State.reset.setLink 0 lsUp).setPort 0 { retry := [{ seq := 0, bits := 0, poison := false, sentAt := 0 }] }) with time := 4294967296 } : State)).portU ((0 : Nat))).retry.head? = some (({ seq := 0, bits := 0, poison := false, sentAt := 0 } : TxFlit))) ∧
    ((({ seq := 0, bits := 0, poison := false, sentAt := 0 } : TxFlit)).sentAt.toNat + (({ ((State.reset.setLink 0 lsUp).setPort 0 { retry := [{ seq := 0, bits := 0, poison := false, sentAt := 0 }] }) with time := 4294967296 } : State)).replayTime ((0 : Nat)) ≤ (({ ((State.reset.setLink 0 lsUp).setPort 0 { retry := [{ seq := 0, bits := 0, poison := false, sentAt := 0 }] }) with time := 4294967296 } : State)).time.toNat) ∧
    ((∀ q ∈ ((({ ((State.reset.setLink 0 lsUp).setPort 0 { retry := [{ seq := 0, bits := 0, poison := false, sentAt := 0 }] }) with time := 4294967296 } : State)).portU ((0 : Nat))).retry, q.replays < 8))) ∧
   ((((0 : Nat)) < 4) ∧
    ((({ ((State.reset.setLink 0 lsUp).setPort 0 { retry := [{ seq := 0, bits := 0, poison := false, sentAt := 0, replays := 8 }] }) with time := 4294967296 } : State)).lstate ((0 : Nat)) = lsUp) ∧
    (((({ ((State.reset.setLink 0 lsUp).setPort 0 { retry := [{ seq := 0, bits := 0, poison := false, sentAt := 0, replays := 8 }] }) with time := 4294967296 } : State)).portU ((0 : Nat))).retry.head? = some (({ seq := 0, bits := 0, poison := false, sentAt := 0, replays := 8 } : TxFlit))) ∧
    ((({ seq := 0, bits := 0, poison := false, sentAt := 0, replays := 8 } : TxFlit)).sentAt.toNat + (({ ((State.reset.setLink 0 lsUp).setPort 0 { retry := [{ seq := 0, bits := 0, poison := false, sentAt := 0, replays := 8 }] }) with time := 4294967296 } : State)).replayTime ((0 : Nat)) ≤ (({ ((State.reset.setLink 0 lsUp).setPort 0 { retry := [{ seq := 0, bits := 0, poison := false, sentAt := 0, replays := 8 }] }) with time := 4294967296 } : State)).time.toNat) ∧
    ((∃ q ∈ ((({ ((State.reset.setLink 0 lsUp).setPort 0 { retry := [{ seq := 0, bits := 0, poison := false, sentAt := 0, replays := 8 }] }) with time := 4294967296 } : State)).portU ((0 : Nat))).retry, 8 ≤ q.replays))) ∧
   ((((0 : Nat)) < 4) ∧
    (hasFp (((State.reset.setLink 0 lsUp) : State)).fac.variant ((0 : Nat)) = true) ∧
    ((((State.reset.setLink 0 lsUp) : State)).talks ((0 : Nat)) = true)) ∧
   ((hasFp (((State.reset.setPort 0 { switch := some (1, 0) }) : State)).fac.variant ((0 : Nat)) = true) ∧
    (((((State.reset.setPort 0 { switch := some (1, 0) }) : State)).portU ((0 : Nat))).switch = some (((1 : Nat)), (((0 : Time) : Time)))) ∧
    ((((0 : Time) : Time)).toNat ≤ (((State.reset.setPort 0 { switch := some (1, 0) }) : State)).time.toNat)) :=
  by and_intros <;> decide +kernel

theorem witness_ElectionAndClockRepair :
   ((((0 : Nat)) < 4) ∧
    (hasFp (((State.reset.setLink 0 lsHello) : State)).fac.variant ((0 : Nat)) = true) ∧
    ((((State.reset.setLink 0 lsHello) : State)).talks ((0 : Nat)) = true)) ∧
   ((((0 : Nat)) < 4) ∧
    (hasFp (((State.reset.setLink 0 lsHello) : State)).fac.variant ((0 : Nat)) = true) ∧
    ((((State.reset.setLink 0 lsHello) : State)).talks ((0 : Nat)) = true) ∧
    (((({ prio := 300, host := true, die := 0 } : Key) : Key)).beats (((State.reset.setLink 0 lsHello) : State)).bestKey = true) ∧
    ((((State.reset.setLink 0 lsHello) : State)).ownAddr = 0 ∨ (((State.reset.setLink 0 lsHello) : State)).lstate ((0 : Nat)) ≠ lsHello)) ∧
   (((({ State.reset with time := 4294967296, fab := { State.reset.fab with ownSince := some (State.reset.ownKey, 0) }, bootu := { State.reset.bootu with mcRunning := true } } : State)).bootu.mcRunning = true) ∧
    ((({ State.reset with time := 4294967296, fab := { State.reset.fab with ownSince := some (State.reset.ownKey, 0) }, bootu := { State.reset.bootu with mcRunning := true } } : State)).bestKey = (({ State.reset with time := 4294967296, fab := { State.reset.fab with ownSince := some (State.reset.ownKey, 0) }, bootu := { State.reset.bootu with mcRunning := true } } : State)).ownKey) ∧
    ((({ State.reset with time := 4294967296, fab := { State.reset.fab with ownSince := some (State.reset.ownKey, 0) }, bootu := { State.reset.bootu with mcRunning := true } } : State)).fab.ownSince = some ((({ State.reset with time := 4294967296, fab := { State.reset.fab with ownSince := some (State.reset.ownKey, 0) }, bootu := { State.reset.bootu with mcRunning := true } } : State)).ownKey, ((0 : Time)))) ∧
    (((0 : Time)).toNat + msTime 2 ≤ (({ State.reset with time := 4294967296, fab := { State.reset.fab with ownSince := some (State.reset.ownKey, 0) }, bootu := { State.reset.bootu with mcRunning := true } } : State)).time.toNat) ∧
    ((({ State.reset with time := 4294967296, fab := { State.reset.fab with ownSince := some (State.reset.ownKey, 0) }, bootu := { State.reset.bootu with mcRunning := true } } : State)).flag Reg.FAB_STAT Fld.FAB_STAT_MANAGER = false) ∧
    ((({ State.reset with time := 4294967296, fab := { State.reset.fab with ownSince := some (State.reset.ownKey, 0) }, bootu := { State.reset.bootu with mcRunning := true } } : State)).fab.mgrDie = 0) ∧
    ((({ State.reset with time := 4294967296, fab := { State.reset.fab with ownSince := some (State.reset.ownKey, 0) }, bootu := { State.reset.bootu with mcRunning := true } } : State)).newcomer = false)) ∧
   (((((State.reset.raise Reg.FAB_STAT Fld.FAB_STAT_MANAGER) : State)).bootFailed = false) ∧
    ((((State.reset.raise Reg.FAB_STAT Fld.FAB_STAT_MANAGER) : State)).isManager = true)) ∧
   ((((0 : Nat)) < 4) ∧
    (hasFp (((State.reset.setLink 0 lsHello) : State)).fac.variant ((0 : Nat)) = true) ∧
    ((((State.reset.setLink 0 lsHello) : State)).talks ((0 : Nat)) = true) ∧
    (((State.reset.ownKey : Key)).beats (((State.reset.setLink 0 lsHello) : State)).bestKey = false)) ∧
   ((((0 : Nat)) < 4) ∧
    (hasFp (((State.reset.setLink 0 lsUp) : State)).fac.variant ((0 : Nat)) = true) ∧
    ((((State.reset.setLink 0 lsUp) : State)).talks ((0 : Nat)) = true)) ∧
   ((((0 : Nat)) < 4) ∧
    (hasFp (((State.reset.setLink 0 lsUp) : State)).fac.variant ((0 : Nat)) = true) ∧
    ((((State.reset.setLink 0 lsUp) : State)).talks ((0 : Nat)) = true)) ∧
   (((({ (State.reset.raise Reg.FAB_STAT Fld.FAB_STAT_ORPHAN) with clk := { switching := some 1 }, fab := { repair := true } } : State)).flag Reg.FAB_STAT Fld.FAB_STAT_ORPHAN = true) ∧
    ((({ (State.reset.raise Reg.FAB_STAT Fld.FAB_STAT_ORPHAN) with clk := { switching := some 1 }, fab := { repair := true } } : State)).fab.repair = true)) ∧
   ((hasHost (({ ((State.reset.raise Reg.FAB_STAT Fld.FAB_STAT_ORPHAN).raise Reg.FAB_STAT Fld.FAB_STAT_SUCCESSOR) with time := 4294967296, fab := { orphanAt := some 0 } } : State)).fac.variant = true) ∧
    ((({ ((State.reset.raise Reg.FAB_STAT Fld.FAB_STAT_ORPHAN).raise Reg.FAB_STAT Fld.FAB_STAT_SUCCESSOR) with time := 4294967296, fab := { orphanAt := some 0 } } : State)).flag Reg.FAB_STAT Fld.FAB_STAT_SUCCESSOR = true) ∧
    ((({ ((State.reset.raise Reg.FAB_STAT Fld.FAB_STAT_ORPHAN).raise Reg.FAB_STAT Fld.FAB_STAT_SUCCESSOR) with time := 4294967296, fab := { orphanAt := some 0 } } : State)).flag Reg.FAB_STAT Fld.FAB_STAT_ORPHAN = true) ∧
    ((({ ((State.reset.raise Reg.FAB_STAT Fld.FAB_STAT_ORPHAN).raise Reg.FAB_STAT Fld.FAB_STAT_SUCCESSOR) with time := 4294967296, fab := { orphanAt := some 0 } } : State)).fab.offered = false) ∧
    ((({ ((State.reset.raise Reg.FAB_STAT Fld.FAB_STAT_ORPHAN).raise Reg.FAB_STAT Fld.FAB_STAT_SUCCESSOR) with time := 4294967296, fab := { orphanAt := some 0 } } : State)).clk.switching = none) ∧
    ((({ ((State.reset.raise Reg.FAB_STAT Fld.FAB_STAT_ORPHAN).raise Reg.FAB_STAT Fld.FAB_STAT_SUCCESSOR) with time := 4294967296, fab := { orphanAt := some 0 } } : State)).fab.orphanAt = some ((0 : Time))) ∧
    (usTime 20 ≤ ((({ ((State.reset.raise Reg.FAB_STAT Fld.FAB_STAT_ORPHAN).raise Reg.FAB_STAT Fld.FAB_STAT_SUCCESSOR) with time := 4294967296, fab := { orphanAt := some 0 } } : State)).time - ((0 : Time))).toNat)) :=
  by and_intros <;> decide +kernel

theorem witness_FabricAccess :
   ((((State.reset : State)).keptAnswer ((({ ptype := 1, dst := 1, src := 2, tspec := 0 } : Packet) : Packet)).src ((({ ptype := 1, dst := 1, src := 2, tspec := 0 } : Packet) : Packet)).tag = none)) ∧
   ((((State.reset : State)).keptAnswer ((({ ptype := 2, dst := 1, src := 2, tspec := 0 } : Packet) : Packet)).src ((({ ptype := 2, dst := 1, src := 2, tspec := 0 } : Packet) : Packet)).tag = none) ∧
    (((({ ptype := 2, dst := 1, src := 2, tspec := 0 } : Packet) : Packet)).toDram = true)) ∧
   (((({ (State.reset.setFld Reg.FAB_CFG Fld.FAB_CFG_TMO 5) with fab := { answers := [{ src := 2, tag := 0, at_ := 0, pkt := wPacket }] } } : State)).keptAnswer ((wPacket : Packet)).src ((wPacket : Packet)).tag = some ((wPacket : Packet)))) ∧
   (((({ (State.reset.setFld Reg.FAB_CFG Fld.FAB_CFG_TMO 5) with fab := { answers := [{ src := 2, tag := 0, at_ := 0, pkt := wPacket }] } } : State)).keptAnswer ((wPacket : Packet)).src ((wPacket : Packet)).tag = some ((wPacket : Packet)))) ∧
   (((({ State.reset with fab := { reqs := [wReq (.command .ring 0x0011 5 0) 1] } } : State)).takes ((0x0011 : Nat)) ((5 : Nat)) = true) ∧
    ((({ State.reset with fab := { reqs := [wReq (.command .ring 0x0011 5 0) 1] } } : State)).findRequest ((wPacket : Packet)).tag ((wPacket : Packet)).src = some (((wReq (.command .ring 0x0011 5 0) 1) : OutReq))) ∧
    ((((wReq (.command .ring 0x0011 5 0) 1) : OutReq)).client = .command .ring ((0x0011 : Nat)) ((5 : Nat)) ((0 : Nat)))) ∧
   (((({ State.reset with time := 42949672960, fab := { reqs := [wReq .mgmt 1] } } : State)).fab.reqs.find? (fun q => q.tag == ((0 : Nat)) && decide (0 < q.tries) && decide ((({ State.reset with time := 42949672960, fab := { reqs := [wReq .mgmt 1] } } : State)).tmo ≤ ((({ State.reset with time := 42949672960, fab := { reqs := [wReq .mgmt 1] } } : State)).time - q.at_).toNat)) = some (((wReq .mgmt 1) : OutReq))) ∧
    ((((wReq .mgmt 1) : OutReq)).tries = 1)) ∧
   (((({ State.reset with time := 42949672960, fab := { reqs := [wReq .mgmt 2] } } : State)).fab.reqs.find? (fun q => q.tag == ((0 : Nat)) && decide (0 < q.tries) && decide ((({ State.reset with time := 42949672960, fab := { reqs := [wReq .mgmt 2] } } : State)).tmo ≤ ((({ State.reset with time := 42949672960, fab := { reqs := [wReq .mgmt 2] } } : State)).time - q.at_).toNat)) = some (((wReq .mgmt 2) : OutReq))) ∧
    ((((wReq .mgmt 2) : OutReq)).tries ≠ 1)) ∧
   (((({ State.reset with bootu := { State.reset.bootu with mcRunning := true } } : State)).bootu.mcRunning = true) ∧
    ((({ State.reset with bootu := { State.reset.bootu with mcRunning := true } } : State)).keptAnswer ((0 : Nat)) (((0 : Nat)) % 256) = none)) :=
  by and_intros <;> decide +kernel

theorem witness_ManagementPackets :
   (((({ State.reset with bootu := { State.reset.bootu with mcRunning := true } } : State)).bootu.mcRunning = true) ∧
    (((({ State.reset with bootu := { State.reset.bootu with mcRunning := true } }).managerDie : Nat)) = (({ State.reset with bootu := { State.reset.bootu with mcRunning := true } } : State)).managerDie) ∧
    ((({ State.reset with bootu := { State.reset.bootu with mcRunning := true } } : State)).keptAnswer (4096 + ((({ State.reset with bootu := { State.reset.bootu with mcRunning := true } }).managerDie : Nat))) ((0 : Nat)) = none)) ∧
   (((({ State.reset with bootu := { State.reset.bootu with mcRunning := true } } : State)).bootu.mcRunning = true) ∧
    (((({ State.reset with bootu := { State.reset.bootu with mcRunning := true } }).managerDie : Nat)) = (({ State.reset with bootu := { State.reset.bootu with mcRunning := true } } : State)).managerDie)) ∧
   (((({ State.reset with bootu := { State.reset.bootu with mcRunning := true } } : State)).bootu.mcRunning = true) ∧
    (((7 : Nat)) ≠ (({ State.reset with bootu := { State.reset.bootu with mcRunning := true } } : State)).managerDie) ∧
    (((7 : Nat)) ≠ (({ State.reset with bootu := { State.reset.bootu with mcRunning := true } } : State)).fab.stbyDie ∨ ((7 : Nat)) = 0)) ∧
   (((({ State.reset with bootu := { State.reset.bootu with mcRunning := true } } : State)).bootu.mcRunning = true) ∧
    (((({ State.reset with bootu := { State.reset.bootu with mcRunning := true } }).managerDie : Nat)) = (({ State.reset with bootu := { State.reset.bootu with mcRunning := true } } : State)).managerDie)) ∧
   (((({ State.reset with bootu := { State.reset.bootu with mcRunning := true } } : State)).bootu.mcRunning = true) ∧
    (((({ State.reset with bootu := { State.reset.bootu with mcRunning := true } }).managerDie : Nat)) = (({ State.reset with bootu := { State.reset.bootu with mcRunning := true } } : State)).managerDie)) ∧
   (((({ State.reset with bootu := { State.reset.bootu with mcRunning := true } } : State)).bootu.mcRunning = true) ∧
    (((({ State.reset with bootu := { State.reset.bootu with mcRunning := true } }).managerDie : Nat)) = (({ State.reset with bootu := { State.reset.bootu with mcRunning := true } } : State)).managerDie) ∧
    ((({ State.reset with bootu := { State.reset.bootu with mcRunning := true } } : State)).isReady ((7 : Nat)) = false)) ∧
   (((({ State.reset.setReg Reg.CLK_READY 0x1F with bootu := { State.reset.bootu with mcRunning := true } } : State)).bootu.mcRunning = true) ∧
    (((({ State.reset with bootu := { State.reset.bootu with mcRunning := true } }).managerDie : Nat)) = (({ State.reset.setReg Reg.CLK_READY 0x1F with bootu := { State.reset.bootu with mcRunning := true } } : State)).managerDie) ∧
    ((({ State.reset.setReg Reg.CLK_READY 0x1F with bootu := { State.reset.bootu with mcRunning := true } } : State)).isReady ((4 : Nat)) = true) ∧
    (((4 : Nat)) ≠ (({ State.reset.setReg Reg.CLK_READY 0x1F with bootu := { State.reset.bootu with mcRunning := true } } : State)).clkSel)) ∧
   (((({ State.reset.raise Reg.FAB_STAT Fld.FAB_STAT_STANDBY with bootu := { State.reset.bootu with mcRunning := true } } : State)).bootu.mcRunning = true) ∧
    (((({ State.reset with bootu := { State.reset.bootu with mcRunning := true } }).managerDie : Nat)) = (({ State.reset.raise Reg.FAB_STAT Fld.FAB_STAT_STANDBY with bootu := { State.reset.bootu with mcRunning := true } } : State)).managerDie) ∧
    ((({ State.reset.raise Reg.FAB_STAT Fld.FAB_STAT_STANDBY with bootu := { State.reset.bootu with mcRunning := true } } : State)).flag Reg.FAB_STAT Fld.FAB_STAT_STANDBY = true)) ∧
   (((({ State.reset.raise Reg.FAB_STAT Fld.FAB_STAT_STANDBY with bootu := { State.reset.bootu with mcRunning := true } } : State)).bootu.mcRunning = true) ∧
    (((({ State.reset with bootu := { State.reset.bootu with mcRunning := true } }).managerDie : Nat)) = (({ State.reset.raise Reg.FAB_STAT Fld.FAB_STAT_STANDBY with bootu := { State.reset.bootu with mcRunning := true } } : State)).managerDie) ∧
    ((({ State.reset.raise Reg.FAB_STAT Fld.FAB_STAT_STANDBY with bootu := { State.reset.bootu with mcRunning := true } } : State)).flag Reg.FAB_STAT Fld.FAB_STAT_STANDBY = true)) ∧
   (((({ { State.reset with bootu := { State.reset.bootu with mcRunning := true } } with fab := { stbyDie := 77 } } : State)).bootu.mcRunning = true) ∧
    (((77 : Nat)) ≠ (({ { State.reset with bootu := { State.reset.bootu with mcRunning := true } } with fab := { stbyDie := 77 } } : State)).managerDie) ∧
    (((77 : Nat)) = (({ { State.reset with bootu := { State.reset.bootu with mcRunning := true } } with fab := { stbyDie := 77 } } : State)).fab.stbyDie) ∧
    (((77 : Nat)) ≠ 0) ∧
    ((({ { State.reset with bootu := { State.reset.bootu with mcRunning := true } } with fab := { stbyDie := 77 } } : State)).isManager = false)) :=
  by and_intros <;> decide +kernel

theorem witness_Manager :
   (((({ (State.reset.raise Reg.FAB_STAT Fld.FAB_STAT_MANAGER).setFld Reg.FAB_ROLES1 Fld.FAB_ROLES1_B 2 with bootu := { State.reset.bootu with mcRunning := true } } : State)).bootu.mcRunning = true) ∧
    ((({ (State.reset.raise Reg.FAB_STAT Fld.FAB_STAT_MANAGER).setFld Reg.FAB_ROLES1 Fld.FAB_ROLES1_B 2 with bootu := { State.reset.bootu with mcRunning := true } } : State)).isManager = true) ∧
    ((({ (State.reset.raise Reg.FAB_STAT Fld.FAB_STAT_MANAGER).setFld Reg.FAB_ROLES1 Fld.FAB_ROLES1_B 2 with bootu := { State.reset.bootu with mcRunning := true } } : State)).fld Reg.FAB_ROLES1 Fld.FAB_ROLES1_B ≠ 0) ∧
    ((({ (State.reset.raise Reg.FAB_STAT Fld.FAB_STAT_MANAGER).setFld Reg.FAB_ROLES1 Fld.FAB_ROLES1_B 2 with bootu := { State.reset.bootu with mcRunning := true } } : State)).fab.hbAt = none ∨ (({ (State.reset.raise Reg.FAB_STAT Fld.FAB_STAT_MANAGER).setFld Reg.FAB_ROLES1 Fld.FAB_ROLES1_B 2 with bootu := { State.reset.bootu with mcRunning := true } } : State)).longSince (({ (State.reset.raise Reg.FAB_STAT Fld.FAB_STAT_MANAGER).setFld Reg.FAB_ROLES1 Fld.FAB_ROLES1_B 2 with bootu := { State.reset.bootu with mcRunning := true } } : State)).fab.hbAt (msTime 1) = true)) ∧
   (((({ (State.reset.raise Reg.FAB_STAT Fld.FAB_STAT_MANAGER) with fab := { reqs := [wReq .mgmt 1] } } : State)).isManager = true) ∧
    ((({ (State.reset.raise Reg.FAB_STAT Fld.FAB_STAT_MANAGER) with fab := { reqs := [wReq .mgmt 1] } } : State)).fab.reqs.find? (fun q => q.client == Client.mgmt && q.tag == ((0 : Nat)) && decide (0 < q.tries)) = some (((wReq .mgmt 1) : OutReq)))) ∧
   (((({ (State.reset.raise Reg.FAB_STAT Fld.FAB_STAT_MANAGER) with host := { pcieEver := true } } : State)).isManager = true) ∧
    ((({ (State.reset.raise Reg.FAB_STAT Fld.FAB_STAT_MANAGER) with host := { pcieEver := true } } : State)).plan (({ (State.reset.raise Reg.FAB_STAT Fld.FAB_STAT_MANAGER) with host := { pcieEver := true } } : State)).fab.topo = some ((((({ (State.reset.raise Reg.FAB_STAT Fld.FAB_STAT_MANAGER) with host := { pcieEver := true } }).plan []).getD { tree := {}, who := [], held := {}, diameter := 0 }) : Plan)))) ∧
   (((({ (State.reset.raise Reg.FAB_STAT Fld.FAB_STAT_MANAGER) with host := { pcieEver := true } } : State)).isManager = true) ∧
    ((({ (State.reset.raise Reg.FAB_STAT Fld.FAB_STAT_MANAGER) with host := { pcieEver := true } } : State)).plan (([] : List Dev)) = some ((((({ (State.reset.raise Reg.FAB_STAT Fld.FAB_STAT_MANAGER) with host := { pcieEver := true } }).plan []).getD { tree := {}, who := [], held := {}, diameter := 0 }) : Plan))) ∧
    ((([] : List Nat)) = lostDevices (({ (State.reset.raise Reg.FAB_STAT Fld.FAB_STAT_MANAGER) with host := { pcieEver := true } } : State)).fab.topo ((((({ (State.reset.raise Reg.FAB_STAT Fld.FAB_STAT_MANAGER) with host := { pcieEver := true } }).plan []).getD { tree := {}, who := [], held := {}, diameter := 0 }) : Plan)).tree.placed) ∧
    ((({ (State.reset.raise Reg.FAB_STAT Fld.FAB_STAT_MANAGER) with host := { pcieEver := true } } : State)).fab.churned = false ∧ (({ (State.reset.raise Reg.FAB_STAT Fld.FAB_STAT_MANAGER) with host := { pcieEver := true } } : State)).fab.churn ≠ 0 ∨ (({ (State.reset.raise Reg.FAB_STAT Fld.FAB_STAT_MANAGER) with host := { pcieEver := true } } : State)).fab.reroutedAt = none ∨ (({ (State.reset.raise Reg.FAB_STAT Fld.FAB_STAT_MANAGER) with host := { pcieEver := true } } : State)).longSince (({ (State.reset.raise Reg.FAB_STAT Fld.FAB_STAT_MANAGER) with host := { pcieEver := true } } : State)).fab.reroutedAt (msTime 10) = true)) ∧
   (((({ { State.reset.raise Reg.FAB_STAT Fld.FAB_STAT_STANDBY with bootu := { State.reset.bootu with mcRunning := true } } with fab := { hbAt := some 0 }, time := BitVec.ofNat 64 (msTime 4) } : State)).bootu.mcRunning = true) ∧
    ((({ { State.reset.raise Reg.FAB_STAT Fld.FAB_STAT_STANDBY with bootu := { State.reset.bootu with mcRunning := true } } with fab := { hbAt := some 0 }, time := BitVec.ofNat 64 (msTime 4) } : State)).flag Reg.FAB_STAT Fld.FAB_STAT_STANDBY = true) ∧
    ((({ { State.reset.raise Reg.FAB_STAT Fld.FAB_STAT_STANDBY with bootu := { State.reset.bootu with mcRunning := true } } with fab := { hbAt := some 0 }, time := BitVec.ofNat 64 (msTime 4) } : State)).longSince (({ { State.reset.raise Reg.FAB_STAT Fld.FAB_STAT_STANDBY with bootu := { State.reset.bootu with mcRunning := true } } with fab := { hbAt := some 0 }, time := BitVec.ofNat 64 (msTime 4) } : State)).fab.hbAt (msTime 3) = true)) ∧
   (((({ State.reset.raise Reg.FAB_STAT Fld.FAB_STAT_STANDBY with bootu := { State.reset.bootu with mcRunning := true } } : State)).bootu.mcRunning = true) ∧
    ((({ State.reset.raise Reg.FAB_STAT Fld.FAB_STAT_STANDBY with bootu := { State.reset.bootu with mcRunning := true } } : State)).flag Reg.FAB_STAT Fld.FAB_STAT_STANDBY = true) ∧
    ((∀ p ∈ (({ State.reset.raise Reg.FAB_STAT Fld.FAB_STAT_STANDBY with bootu := { State.reset.bootu with mcRunning := true } } : State)).upPorts, ∀ k, ((({ State.reset.raise Reg.FAB_STAT Fld.FAB_STAT_STANDBY with bootu := { State.reset.bootu with mcRunning := true } } : State)).portU p).nbr = some k → k.die ≠ (({ State.reset.raise Reg.FAB_STAT Fld.FAB_STAT_STANDBY with bootu := { State.reset.bootu with mcRunning := true } } : State)).managerDie))) :=
  by and_intros <;> decide +kernel

theorem witness_RoutingTables :
   (((({ State.reset with fab := { State.reset.fab with switchAt := some 0 } } : State)).fab.switchAt = some (((0 : Time) : Time))) ∧
    ((((0 : Time) : Time)).toNat ≤ (({ State.reset with fab := { State.reset.fab with switchAt := some 0 } } : State)).time.toNat)) ∧
   (((({ State.reset with time := 4294967296, fab := { switched := some 0 } } : State)).fab.switched = some ((0 : Time))) ∧
    (((0 : Time)).toNat + usTime 200 ≤ (({ State.reset with time := 4294967296, fab := { switched := some 0 } } : State)).time.toNat)) ∧
   (((({ State.reset with fab := { State.reset.fab with churn := 1, churned := true } } : State)).fab.churned = true) ∧
    ((({ State.reset with fab := { State.reset.fab with churn := 1, churned := true } } : State)).fab.churn ≠ 0)) ∧
   ((((0 : Nat)) < 4) ∧
    (((2 : Nat)) < 3) ∧
    (hasFp ((((State.reset.setLink 0 lsUp).setPort 0 { credits := [48, 48, 0] }) : State)).fac.variant ((0 : Nat)) = true) ∧
    (((((State.reset.setLink 0 lsUp).setPort 0 { credits := [48, 48, 0] }) : State)).lstate ((0 : Nat)) = lsUp) ∧
    (((2 : Nat)) ∉ (((((State.reset.setLink 0 lsUp).setPort 0 { credits := [48, 48, 0] }) : State)).portU ((0 : Nat))).stopped) ∧
    (((((State.reset.setLink 0 lsUp).setPort 0 { credits := [48, 48, 0] }) : State)).fld Reg.FAB_CFG Fld.FAB_CFG_STALL_T < ((1000 : Nat))) ∧
    ((((((State.reset.setLink 0 lsUp).setPort 0 { credits := [48, 48, 0] }) : State)).portU ((0 : Nat))).credits.getD ((2 : Nat)) 0 = 0)) ∧
   ((((State.reset : State)).bootFailed = false) ∧
    (((3 : Nat)) < 4) ∧
    (((2 : Nat)) < 3) ∧
    (bitAt ((7 : Nat)) ((2 : Nat)) = true)) ∧
   (((({ (((State.reset.setLink 0 lsHello).setFld Reg.FAB_ADDR Fld.FAB_ADDR_ADDR 1).setFld (Reg.FP_NBR_ADDR 0) Fld.FP_NBR_ADDR_NADDR 2).setPort 0 { cleanFrom := some 0, nbrBest := some { prio := 300, host := true, die := 5 } } with time := 4294967296 } : State)).helloDone ((0 : Nat)) = true) ∧
    ((({ (((State.reset.setLink 0 lsHello).setFld Reg.FAB_ADDR Fld.FAB_ADDR_ADDR 1).setFld (Reg.FP_NBR_ADDR 0) Fld.FP_NBR_ADDR_NADDR 2).setPort 0 { cleanFrom := some 0, nbrBest := some { prio := 300, host := true, die := 5 } } with time := 4294967296 } : State)).foreign ((0 : Nat)) = true) ∧
    (((({ (((State.reset.setLink 0 lsHello).setFld Reg.FAB_ADDR Fld.FAB_ADDR_ADDR 1).setFld (Reg.FP_NBR_ADDR 0) Fld.FP_NBR_ADDR_NADDR 2).setPort 0 { cleanFrom := some 0, nbrBest := some { prio := 300, host := true, die := 5 } } with time := 4294967296 } : State)).portU ((0 : Nat))).nbrBest = some ((({ prio := 300, host := true, die := 5 } : Key) : Key))) ∧
    (((({ prio := 300, host := true, die := 5 } : Key) : Key)).beats (({ (((State.reset.setLink 0 lsHello).setFld Reg.FAB_ADDR Fld.FAB_ADDR_ADDR 1).setFld (Reg.FP_NBR_ADDR 0) Fld.FP_NBR_ADDR_NADDR 2).setPort 0 { cleanFrom := some 0, nbrBest := some { prio := 300, host := true, die := 5 } } with time := 4294967296 } : State)).bestKey = true) ∧
    ((({ (((State.reset.setLink 0 lsHello).setFld Reg.FAB_ADDR Fld.FAB_ADDR_ADDR 1).setFld (Reg.FP_NBR_ADDR 0) Fld.FP_NBR_ADDR_NADDR 2).setPort 0 { cleanFrom := some 0, nbrBest := some { prio := 300, host := true, die := 5 } } with time := 4294967296 } : State)).fab.lastTopo = none ∨ (({ (((State.reset.setLink 0 lsHello).setFld Reg.FAB_ADDR Fld.FAB_ADDR_ADDR 1).setFld (Reg.FP_NBR_ADDR 0) Fld.FP_NBR_ADDR_NADDR 2).setPort 0 { cleanFrom := some 0, nbrBest := some { prio := 300, host := true, die := 5 } } with time := 4294967296 } : State)).longSince (({ (((State.reset.setLink 0 lsHello).setFld Reg.FAB_ADDR Fld.FAB_ADDR_ADDR 1).setFld (Reg.FP_NBR_ADDR 0) Fld.FP_NBR_ADDR_NADDR 2).setPort 0 { cleanFrom := some 0, nbrBest := some { prio := 300, host := true, die := 5 } } with time := 4294967296 } : State)).fab.lastTopo (msTime 10) = true)) ∧
   (((({ (((State.reset.setLink 0 lsHello).setFld Reg.FAB_ADDR Fld.FAB_ADDR_ADDR 1).setFld (Reg.FP_NBR_ADDR 0) Fld.FP_NBR_ADDR_NADDR 2).setPort 0 { cleanFrom := some 0, nbrBest := some { prio := 0, host := false, die := 5 } } with time := 4294967296 } : State)).helloDone ((0 : Nat)) = true) ∧
    ((({ (((State.reset.setLink 0 lsHello).setFld Reg.FAB_ADDR Fld.FAB_ADDR_ADDR 1).setFld (Reg.FP_NBR_ADDR 0) Fld.FP_NBR_ADDR_NADDR 2).setPort 0 { cleanFrom := some 0, nbrBest := some { prio := 0, host := false, die := 5 } } with time := 4294967296 } : State)).foreign ((0 : Nat)) = true) ∧
    (((({ (((State.reset.setLink 0 lsHello).setFld Reg.FAB_ADDR Fld.FAB_ADDR_ADDR 1).setFld (Reg.FP_NBR_ADDR 0) Fld.FP_NBR_ADDR_NADDR 2).setPort 0 { cleanFrom := some 0, nbrBest := some { prio := 0, host := false, die := 5 } } with time := 4294967296 } : State)).portU ((0 : Nat))).nbrBest = some ((({ prio := 0, host := false, die := 5 } : Key) : Key))) ∧
    (((({ prio := 0, host := false, die := 5 } : Key) : Key)).beats (({ (((State.reset.setLink 0 lsHello).setFld Reg.FAB_ADDR Fld.FAB_ADDR_ADDR 1).setFld (Reg.FP_NBR_ADDR 0) Fld.FP_NBR_ADDR_NADDR 2).setPort 0 { cleanFrom := some 0, nbrBest := some { prio := 0, host := false, die := 5 } } with time := 4294967296 } : State)).bestKey = false) ∧
    ((({ (((State.reset.setLink 0 lsHello).setFld Reg.FAB_ADDR Fld.FAB_ADDR_ADDR 1).setFld (Reg.FP_NBR_ADDR 0) Fld.FP_NBR_ADDR_NADDR 2).setPort 0 { cleanFrom := some 0, nbrBest := some { prio := 0, host := false, die := 5 } } with time := 4294967296 } : State)).fab.lastTopo = none ∨ (({ (((State.reset.setLink 0 lsHello).setFld Reg.FAB_ADDR Fld.FAB_ADDR_ADDR 1).setFld (Reg.FP_NBR_ADDR 0) Fld.FP_NBR_ADDR_NADDR 2).setPort 0 { cleanFrom := some 0, nbrBest := some { prio := 0, host := false, die := 5 } } with time := 4294967296 } : State)).longSince (({ (((State.reset.setLink 0 lsHello).setFld Reg.FAB_ADDR Fld.FAB_ADDR_ADDR 1).setFld (Reg.FP_NBR_ADDR 0) Fld.FP_NBR_ADDR_NADDR 2).setPort 0 { cleanFrom := some 0, nbrBest := some { prio := 0, host := false, die := 5 } } with time := 4294967296 } : State)).fab.lastTopo (msTime 10) = true)) :=
  by and_intros <;> decide +kernel

theorem witness_FabricTime :
   ((((0 : Nat)) < 4) ∧
    (hasFp (((State.reset.setLink 0 lsUp) : State)).fac.variant ((0 : Nat)) = true) ∧
    ((((State.reset.setLink 0 lsUp) : State)).talks ((0 : Nat)) = true) ∧
    ((({ ack := 0, ackv := false, nak := false, cr := [0, 0, 0] } : FlowSec)).nak = false)) ∧
   ((((((State.reset.setFld Reg.FAB_TIME_CFG Fld.FAB_TIME_CFG_SRC 1).raise Reg.FAB_STAT Fld.FAB_STAT_ROOT) : State)).fld Reg.FAB_TIME_CFG Fld.FAB_TIME_CFG_SRC = 1) ∧
    (((((State.reset.setFld Reg.FAB_TIME_CFG Fld.FAB_TIME_CFG_SRC 1).raise Reg.FAB_STAT Fld.FAB_STAT_ROOT) : State)).flag Reg.FAB_STAT Fld.FAB_STAT_ROOT = true)) ∧
   (((({ ((State.reset.setFld Reg.FAB_TIME_CFG Fld.FAB_TIME_CFG_SRC 2).raise Reg.FAB_STAT Fld.FAB_STAT_ROOT) with time := 42949672960, fab := { srcAt := some 0 } } : State)).fld Reg.FAB_TIME_CFG Fld.FAB_TIME_CFG_SRC ≠ 0) ∧
    ((({ ((State.reset.setFld Reg.FAB_TIME_CFG Fld.FAB_TIME_CFG_SRC 2).raise Reg.FAB_STAT Fld.FAB_STAT_ROOT) with time := 42949672960, fab := { srcAt := some 0 } } : State)).flag Reg.FAB_STAT Fld.FAB_STAT_ROOT = true) ∧
    ((({ ((State.reset.setFld Reg.FAB_TIME_CFG Fld.FAB_TIME_CFG_SRC 2).raise Reg.FAB_STAT Fld.FAB_STAT_ROOT) with time := 42949672960, fab := { srcAt := some 0 } } : State)).fab.srcAt = some ((0 : Time))) ∧
    (((0 : Time)).toNat + secTime 3 ≤ (({ ((State.reset.setFld Reg.FAB_TIME_CFG Fld.FAB_TIME_CFG_SRC 2).raise Reg.FAB_STAT Fld.FAB_STAT_ROOT) with time := 42949672960, fab := { srcAt := some 0 } } : State)).time.toNat)) ∧
   (((({ State.reset with fab := { State.reset.fab with step := some (5, 0) } } : State)).fab.step = some (((5 : Int)), (((0 : Time) : Time)))) ∧
    ((((0 : Time) : Time)).toNat ≤ (({ State.reset with fab := { State.reset.fab with step := some (5, 0) } } : State)).time.toNat)) :=
  by and_intros <;> decide +kernel

theorem witness_SnapshotCommands :
   (((((State.reset.setFld Reg.MODE_STAT Fld.MODE_STAT_CUR 2) : State)).takes opSnapshotArm ((0 : Nat)) = true) ∧
    ((((State.reset.setFld Reg.MODE_STAT Fld.MODE_STAT_CUR 2) : State)).curMode ≠ modeBoot) ∧
    ((((State.reset.setFld Reg.MODE_STAT Fld.MODE_STAT_CUR 2) : State)).time.toNat + (((State.reset.setFld Reg.MODE_STAT Fld.MODE_STAT_CUR 2) : State)).snapLead ≤ (((18446744073709551615 : Time) : Time)).toNat) ∧
    ((((State.reset.setFld Reg.MODE_STAT Fld.MODE_STAT_CUR 2) : State)).snp.length < 4) ∧
    (((false : Bool)) = true → (((0 : Nat)) % 65536, (((State.reset.setFld Reg.MODE_STAT Fld.MODE_STAT_CUR 2) : State)).ownAddr) ∉ (((State.reset.setFld Reg.MODE_STAT Fld.MODE_STAT_CUR 2) : State)).snpSeen)) ∧
   (((({ (State.reset.setFld Reg.MODE_STAT Fld.MODE_STAT_CUR 2) with time := 1 } : State)).takes opSnapshotArm ((0 : Nat)) = true) ∧
    ((({ (State.reset.setFld Reg.MODE_STAT Fld.MODE_STAT_CUR 2) with time := 1 } : State)).curMode ≠ modeBoot) ∧
    ((((0 : Time) : Time)).toNat < (({ (State.reset.setFld Reg.MODE_STAT Fld.MODE_STAT_CUR 2) with time := 1 } : State)).time.toNat + (({ (State.reset.setFld Reg.MODE_STAT Fld.MODE_STAT_CUR 2) with time := 1 } : State)).snapLead)) ∧
   (((({ (State.reset.setFld Reg.MODE_STAT Fld.MODE_STAT_CUR 2) with snp := List.replicate 4 { t := 0, id := 1, origin := 0 } } : State)).takes opSnapshotArm ((0 : Nat)) = true) ∧
    ((({ (State.reset.setFld Reg.MODE_STAT Fld.MODE_STAT_CUR 2) with snp := List.replicate 4 { t := 0, id := 1, origin := 0 } } : State)).curMode ≠ modeBoot) ∧
    ((({ (State.reset.setFld Reg.MODE_STAT Fld.MODE_STAT_CUR 2) with snp := List.replicate 4 { t := 0, id := 1, origin := 0 } } : State)).time.toNat + (({ (State.reset.setFld Reg.MODE_STAT Fld.MODE_STAT_CUR 2) with snp := List.replicate 4 { t := 0, id := 1, origin := 0 } } : State)).snapLead ≤ (((18446744073709551615 : Time) : Time)).toNat) ∧
    (4 ≤ (({ (State.reset.setFld Reg.MODE_STAT Fld.MODE_STAT_CUR 2) with snp := List.replicate 4 { t := 0, id := 1, origin := 0 } } : State)).snp.length)) ∧
   ((((State.reset : State)).time.toNat ≤ (((0 : Time) : Time)).toNat) ∧
    (((State.reset : State)).snp.length < 4) ∧
    ((((0 : Nat)) % 65536, ((0 : Nat)) % 4096) ∉ ((State.reset : State)).snpSeen)) ∧
   (((({ State.reset with snp := [{ t := 0, id := 1, origin := 0 }] } : State)).snapNext = none) ∧
    ((({ State.reset with snp := [{ t := 0, id := 1, origin := 0 }] } : State)).firstPending = some ((({ t := 0, id := 1, origin := 0 } : SnapPend) : SnapPend))) ∧
    (((({ t := 0, id := 1, origin := 0 } : SnapPend) : SnapPend)).t.toNat ≤ (({ State.reset with snp := [{ t := 0, id := 1, origin := 0 }] } : State)).time.toNat)) ∧
   (((({ State.reset with snapNext := some ({ t := 0, id := 1, origin := 0 }, []) } : State)).snapNext = some (((({ t := 0, id := 1, origin := 0 } : SnapPend) : SnapPend)), ((([] : Store Nat) : Store Nat))))) ∧
   (((((State.reset.raise Reg.FAB_STAT Fld.FAB_STAT_TIME_VALID) : State)).flag Reg.FAB_STAT Fld.FAB_STAT_TIME_VALID = true) ∧
    ((∀ n ∈ (((State.reset.raise Reg.FAB_STAT Fld.FAB_STAT_TIME_VALID) : State)).pins.pulsed, n < (((State.reset.raise Reg.FAB_STAT Fld.FAB_STAT_TIME_VALID) : State)).time.toNat / 2 ^ 32)) ∧
    ((((State.reset.raise Reg.FAB_STAT Fld.FAB_STAT_TIME_VALID) : State)).time.toNat % 2 ^ 32 < 263)) ∧
   (((({ State.reset with pins := { State.reset.pins with syncOut := true } } : State)).pins.syncOut = true) ∧
    ((({ State.reset with pins := { State.reset.pins with syncOut := true } } : State)).pins.pulsed = some ((({ State.reset with pins := { State.reset.pins with syncOut := true } } : State)).time.toNat / 2 ^ 32) → msTime 100 ≤ (({ State.reset with pins := { State.reset.pins with syncOut := true } } : State)).time.toNat % 2 ^ 32)) ∧
   (((((0 : Time) : Time)).toNat < (({ State.reset with time := 1 } : State)).time.toNat ∨ 4 ≤ (({ State.reset with time := 1 } : State)).snp.length) ∧
    ((((0 : Nat)) % 65536, ((0 : Nat)) % 4096) ∉ (({ State.reset with time := 1 } : State)).snpSeen)) ∧
   (((((0 : Nat)) % 65536, ((0 : Nat)) % 4096) ∈ (({ State.reset with snpSeen := [(0, 0)] } : State)).snpSeen)) :=
  by and_intros <;> decide +kernel

theorem witness_ResetCommands :
   (((({ State.reset with bootu := { coldHeld := true } } : State)).bootu.coldHeld = true) ∧
    ((({ State.reset with bootu := { coldHeld := true } } : State)).bootu.perstLow = false) ∧
    ((({ State.reset with bootu := { coldHeld := true } } : State)).bootu.jtagHold = false)) ∧
   ((hasHost ((wOut : State)).fac.variant = true) ∧
    (((wOut : State)).bootu.perstLow = false) ∧
    (((wOut : State)).bootu.coldHeld = false) ∧
    (((wOut : State)).bootu.jtagHold = false)) ∧
   (((({ State.reset with bootu := { coldHeld := false, perstLow := true } } : State)).bootu.perstLow = true) ∧
    ((({ State.reset with bootu := { coldHeld := false, perstLow := true } } : State)).bootu.coldHeld = false) ∧
    ((({ State.reset with bootu := { coldHeld := false, perstLow := true } } : State)).bootu.jtagHold = false)) ∧
   (((({ State.reset with bootu := { coldHeld := false, jtagHold := true } } : State)).bootu.jtagHold = true)) :=
  by and_intros <;> decide +kernel

theorem witness_BootSequence :
   ((((wOut : State)).inReset = false) ∧
    (((wOut : State)).bootPhase = 0) ∧
    (1 ≤ ((4 : Nat))) ∧
    (((4 : Nat)) < 5) ∧
    (hasFp ((wOut : State)).fac.variant (((4 : Nat)) - 1) = true)) ∧
   (((((wOut.setFld Reg.BOOT_STAT Fld.BOOT_STAT_PHASE 2) : State)).inReset = false) ∧
    ((((wOut.setFld Reg.BOOT_STAT Fld.BOOT_STAT_PHASE 2) : State)).causeActive 13 = false) ∧
    ((((wOut.setFld Reg.BOOT_STAT Fld.BOOT_STAT_PHASE 2) : State)).bootPhase = 2) ∧
    (((0 : Nat)) % 32 = 0)) ∧
   (((((wOut.setFld Reg.BOOT_STAT Fld.BOOT_STAT_PHASE 2) : State)).inReset = false) ∧
    ((((wOut.setFld Reg.BOOT_STAT Fld.BOOT_STAT_PHASE 2) : State)).causeActive 13 = false) ∧
    ((((wOut.setFld Reg.BOOT_STAT Fld.BOOT_STAT_PHASE 2) : State)).bootPhase = 2) ∧
    (((1 : Nat)) % 32 ≠ 0 ∨ ((false : Bool)) = true)) ∧
   (((({ (wOut.setFld Reg.BOOT_STAT Fld.BOOT_STAT_PHASE 3) with bootu := { coldHeld := false, sections := [(9, [])] } } : State)).inReset = false) ∧
    ((({ (wOut.setFld Reg.BOOT_STAT Fld.BOOT_STAT_PHASE 3) with bootu := { coldHeld := false, sections := [(9, [])] } } : State)).causeActive 13 = false) ∧
    ((({ (wOut.setFld Reg.BOOT_STAT Fld.BOOT_STAT_PHASE 3) with bootu := { coldHeld := false, sections := [(9, [])] } } : State)).bootPhase = 3) ∧
    ((({ (wOut.setFld Reg.BOOT_STAT Fld.BOOT_STAT_PHASE 3) with bootu := { coldHeld := false, sections := [(9, [])] } } : State)).bootu.sections ≠ []) ∧
    ((({ failed := [], bad := [] } : DramTests)).failed = [])) ∧
   (((((wOut.setFld Reg.BOOT_STAT Fld.BOOT_STAT_PHASE 3) : State)).inReset = false) ∧
    ((((wOut.setFld Reg.BOOT_STAT Fld.BOOT_STAT_PHASE 3) : State)).bootPhase = 3) ∧
    ((((wOut.setFld Reg.BOOT_STAT Fld.BOOT_STAT_PHASE 3) : State)).bootu.sections = []) ∧
    ((((wOut.setFld Reg.BOOT_STAT Fld.BOOT_STAT_PHASE 3) : State)).bootu.slotB = false)) ∧
   (((((wOut.setFld Reg.BOOT_STAT Fld.BOOT_STAT_PHASE 3) : State)).inReset = false) ∧
    ((((wOut.setFld Reg.BOOT_STAT Fld.BOOT_STAT_PHASE 3) : State)).bootPhase = 3) ∧
    ((((wOut.setFld Reg.BOOT_STAT Fld.BOOT_STAT_PHASE 3) : State)).bootu.sections = []) ∧
    ((((wOut.setFld Reg.BOOT_STAT Fld.BOOT_STAT_PHASE 3) : State)).bootu.slotB = false) ∧
    ((((wOut.setFld Reg.BOOT_STAT Fld.BOOT_STAT_PHASE 3) : State)).flag Reg.BOOT_CTRL Fld.BOOT_CTRL_FL_RELEASE = false) ∧
    (structure_ ((wImage : List (BitVec 8))) true = .inr (([⟨32, 1, 0, 0, 16⟩, ⟨48, 2, 0, 0, 16⟩, ⟨64, 9, 0, 0, 16⟩] : List Sec)))) ∧
   (((({ (wOut.setFld Reg.BOOT_STAT Fld.BOOT_STAT_PHASE 4) with bootu := { coldHeld := false, dramTested := true } } : State)).inReset = false) ∧
    ((({ (wOut.setFld Reg.BOOT_STAT Fld.BOOT_STAT_PHASE 4) with bootu := { coldHeld := false, dramTested := true } } : State)).bootPhase = 4) ∧
    ((({ (wOut.setFld Reg.BOOT_STAT Fld.BOOT_STAT_PHASE 4) with bootu := { coldHeld := false, dramTested := true } } : State)).bootu.dramTested = true) ∧
    ((({ (wOut.setFld Reg.BOOT_STAT Fld.BOOT_STAT_PHASE 4) with bootu := { coldHeld := false, dramTested := true } } : State)).causeActive 13 = false) ∧
    ((([] : List NodeDef)) = if (({ (wOut.setFld Reg.BOOT_STAT Fld.BOOT_STAT_PHASE 4) with bootu := { coldHeld := false, dramTested := true } } : State)).bootu.sections.any (fun p => p.1 == 4) then (([] : List NodeDef)) else []) ∧
    ((({ (wOut.setFld Reg.BOOT_STAT Fld.BOOT_STAT_PHASE 4) with bootu := { coldHeld := false, dramTested := true } } : State)).imageErr (([] : List NodeDef)) ((({ (wOut.setFld Reg.BOOT_STAT Fld.BOOT_STAT_PHASE 4) with bootu := { coldHeld := false, dramTested := true } } : State)).freeNat 16).1 = none)) ∧
   ((((({ State.reset with bootu := { coldHeld := false, dramTested := true, sections := [(2, [])] } }.setFld Reg.BOOT_STAT Fld.BOOT_STAT_PHASE 4) : State)).inReset = false) ∧
    (((({ State.reset with bootu := { coldHeld := false, dramTested := true, sections := [(2, [])] } }.setFld Reg.BOOT_STAT Fld.BOOT_STAT_PHASE 4) : State)).bootPhase = 4) ∧
    (((({ State.reset with bootu := { coldHeld := false, dramTested := true, sections := [(2, [])] } }.setFld Reg.BOOT_STAT Fld.BOOT_STAT_PHASE 4) : State)).bootu.dramTested = true) ∧
    (((({ State.reset with bootu := { coldHeld := false, dramTested := true, sections := [(2, [])] } }.setFld Reg.BOOT_STAT Fld.BOOT_STAT_PHASE 4) : State)).causeActive 13 = false) ∧
    (((({ State.reset with bootu := { coldHeld := false, dramTested := true, sections := [(2, [])] } }.setFld Reg.BOOT_STAT Fld.BOOT_STAT_PHASE 4) : State)).bootu.slotB = false) ∧
    ((([] : List NodeDef)) = if ((({ State.reset with bootu := { coldHeld := false, dramTested := true, sections := [(2, [])] } }.setFld Reg.BOOT_STAT Fld.BOOT_STAT_PHASE 4) : State)).bootu.sections.any (fun p => p.1 == 4) then (([] : List NodeDef)) else []) ∧
    (((({ State.reset with bootu := { coldHeld := false, dramTested := true, sections := [(2, [])] } }.setFld Reg.BOOT_STAT Fld.BOOT_STAT_PHASE 4) : State)).imageErr (([] : List NodeDef)) (((({ State.reset with bootu := { coldHeld := false, dramTested := true, sections := [(2, [])] } }.setFld Reg.BOOT_STAT Fld.BOOT_STAT_PHASE 4) : State)).freeNat 16).1 = some ((((({ State.reset with bootu := { coldHeld := false, dramTested := true, sections := [(2, [])] } }.setFld Reg.BOOT_STAT Fld.BOOT_STAT_PHASE 4).imageErr [] (({ State.reset with bootu := { coldHeld := false, dramTested := true, sections := [(2, [])] } }.setFld Reg.BOOT_STAT Fld.BOOT_STAT_PHASE 4).freeNat 16).1).getD ⟨0, 0, 0, none⟩) : ImgErr)))) ∧
   (((({ (wOut.setFld Reg.BOOT_STAT Fld.BOOT_STAT_PHASE 6) with host := { pcieEver := true } } : State)).inReset = false) ∧
    ((({ (wOut.setFld Reg.BOOT_STAT Fld.BOOT_STAT_PHASE 6) with host := { pcieEver := true } } : State)).bootPhase = 6) ∧
    ((({ (wOut.setFld Reg.BOOT_STAT Fld.BOOT_STAT_PHASE 6) with host := { pcieEver := true } } : State)).timed = true)) :=
  by and_intros <;> decide +kernel

theorem witness_BootFailure :
   (((({ { (wOut.setFld Reg.BOOT_STAT Fld.BOOT_STAT_PHASE 3) with time := 4294967296 } with bootu := { coldHeld := false, sections := [(9, [])] } } : State)).inReset = false) ∧
    ((({ { (wOut.setFld Reg.BOOT_STAT Fld.BOOT_STAT_PHASE 3) with time := 4294967296 } with bootu := { coldHeld := false, sections := [(9, [])] } } : State)).bootPhase = 3 ∨ (({ { (wOut.setFld Reg.BOOT_STAT Fld.BOOT_STAT_PHASE 3) with time := 4294967296 } with bootu := { coldHeld := false, sections := [(9, [])] } } : State)).bootPhase = 4) ∧
    ((({ { (wOut.setFld Reg.BOOT_STAT Fld.BOOT_STAT_PHASE 3) with time := 4294967296 } with bootu := { coldHeld := false, sections := [(9, [])] } } : State)).fwStarted = false) ∧
    (msTime 100 ≤ ((({ { (wOut.setFld Reg.BOOT_STAT Fld.BOOT_STAT_PHASE 3) with time := 4294967296 } with bootu := { coldHeld := false, sections := [(9, [])] } } : State)).time - (({ { (wOut.setFld Reg.BOOT_STAT Fld.BOOT_STAT_PHASE 3) with time := 4294967296 } with bootu := { coldHeld := false, sections := [(9, [])] } } : State)).bootu.mcFrom).toNat) ∧
    ((({ { (wOut.setFld Reg.BOOT_STAT Fld.BOOT_STAT_PHASE 3) with time := 4294967296 } with bootu := { coldHeld := false, sections := [(9, [])] } } : State)).bootu.sections ≠ []) ∧
    ((({ { (wOut.setFld Reg.BOOT_STAT Fld.BOOT_STAT_PHASE 3) with time := 4294967296 } with bootu := { coldHeld := false, sections := [(9, [])] } } : State)).bootu.slotB = false)) ∧
   (((({ { (wOut.setFld Reg.BOOT_STAT Fld.BOOT_STAT_PHASE 3) with time := 4294967296 } with bootu := { coldHeld := false, sections := [(9, [])], slotB := true } } : State)).inReset = false) ∧
    ((({ { (wOut.setFld Reg.BOOT_STAT Fld.BOOT_STAT_PHASE 3) with time := 4294967296 } with bootu := { coldHeld := false, sections := [(9, [])], slotB := true } } : State)).bootPhase = 3 ∨ (({ { (wOut.setFld Reg.BOOT_STAT Fld.BOOT_STAT_PHASE 3) with time := 4294967296 } with bootu := { coldHeld := false, sections := [(9, [])], slotB := true } } : State)).bootPhase = 4) ∧
    ((({ { (wOut.setFld Reg.BOOT_STAT Fld.BOOT_STAT_PHASE 3) with time := 4294967296 } with bootu := { coldHeld := false, sections := [(9, [])], slotB := true } } : State)).fwStarted = false) ∧
    (msTime 100 ≤ ((({ { (wOut.setFld Reg.BOOT_STAT Fld.BOOT_STAT_PHASE 3) with time := 4294967296 } with bootu := { coldHeld := false, sections := [(9, [])], slotB := true } } : State)).time - (({ { (wOut.setFld Reg.BOOT_STAT Fld.BOOT_STAT_PHASE 3) with time := 4294967296 } with bootu := { coldHeld := false, sections := [(9, [])], slotB := true } } : State)).bootu.mcFrom).toNat) ∧
    ((({ { (wOut.setFld Reg.BOOT_STAT Fld.BOOT_STAT_PHASE 3) with time := 4294967296 } with bootu := { coldHeld := false, sections := [(9, [])], slotB := true } } : State)).bootu.sections ≠ []) ∧
    ((({ { (wOut.setFld Reg.BOOT_STAT Fld.BOOT_STAT_PHASE 3) with time := 4294967296 } with bootu := { coldHeld := false, sections := [(9, [])], slotB := true } } : State)).bootu.slotB = true)) ∧
   (((((wOut.setFld Reg.BOOT_STAT Fld.BOOT_STAT_PHASE 8) : State)).bootFailed = true)) ∧
   ((((true : Bool)) = false ∨ (((wOut.setFld Reg.BOOT_STAT Fld.BOOT_STAT_PHASE 8) : State)).inService = true ∨ (((wOut.setFld Reg.BOOT_STAT Fld.BOOT_STAT_PHASE 8) : State)).bootFailed = true)) ∧
   ((((State.reset : State)).inService = false) ∧
    (((State.reset : State)).bootFailed = false)) :=
  by and_intros <;> decide +kernel

theorem witness_ManagementCore :
   ((((Reader.pcie : Reader)) ≠ .mc)) ∧
   (((({ State.reset with bootu := { coldHeld := false, mcRunning := true } } : State)).bootu.mcRunning = true) ∧
    (((true : Bool)) = true ∨ (({ State.reset with bootu := { coldHeld := false, mcRunning := true } } : State)).fwStarted = true ∧ msTime 50 ≤ ((({ State.reset with bootu := { coldHeld := false, mcRunning := true } } : State)).time - (({ State.reset with bootu := { coldHeld := false, mcRunning := true } } : State)).bootu.kickAt).toNat)) ∧
   (((({ (wOut.setFld Reg.BOOT_STAT Fld.BOOT_STAT_PHASE 7) with bootu := { coldHeld := false, restarts := [0, 0] } } : State)).bootu.mcRunning = false) ∧
    ((({ (wOut.setFld Reg.BOOT_STAT Fld.BOOT_STAT_PHASE 7) with bootu := { coldHeld := false, restarts := [0, 0] } } : State)).bootu.restarts ≠ []) ∧
    (3 ≤ (({ (wOut.setFld Reg.BOOT_STAT Fld.BOOT_STAT_PHASE 7) with bootu := { coldHeld := false, restarts := [0, 0] } } : State)).bootPhase) ∧
    ((({ (wOut.setFld Reg.BOOT_STAT Fld.BOOT_STAT_PHASE 7) with bootu := { coldHeld := false, restarts := [0, 0] } } : State)).bootPhase ≤ 7) ∧
    ((({ (wOut.setFld Reg.BOOT_STAT Fld.BOOT_STAT_PHASE 7) with bootu := { coldHeld := false, restarts := [0, 0] } } : State)).bootPhase = 3 → (({ (wOut.setFld Reg.BOOT_STAT Fld.BOOT_STAT_PHASE 7) with bootu := { coldHeld := false, restarts := [0, 0] } } : State)).bootu.sections ≠ []) ∧
    ((({ (wOut.setFld Reg.BOOT_STAT Fld.BOOT_STAT_PHASE 7) with bootu := { coldHeld := false, restarts := [0, 0] } } : State)).flag Reg.MC_WDOG Fld.MC_WDOG_HELD = false) ∧
    ((({ (wOut.setFld Reg.BOOT_STAT Fld.BOOT_STAT_PHASE 7) with bootu := { coldHeld := false, restarts := [0, 0] } } : State)).bootu.restarts.length < 3)) ∧
   (((({ (wOut.setFld Reg.BOOT_STAT Fld.BOOT_STAT_PHASE 7) with bootu := { coldHeld := false, restarts := [0, 0, 0] } } : State)).bootu.mcRunning = false) ∧
    (3 ≤ (({ (wOut.setFld Reg.BOOT_STAT Fld.BOOT_STAT_PHASE 7) with bootu := { coldHeld := false, restarts := [0, 0, 0] } } : State)).bootu.restarts.length) ∧
    (3 ≤ (({ (wOut.setFld Reg.BOOT_STAT Fld.BOOT_STAT_PHASE 7) with bootu := { coldHeld := false, restarts := [0, 0, 0] } } : State)).bootPhase) ∧
    ((({ (wOut.setFld Reg.BOOT_STAT Fld.BOOT_STAT_PHASE 7) with bootu := { coldHeld := false, restarts := [0, 0, 0] } } : State)).bootPhase ≤ 7) ∧
    ((({ (wOut.setFld Reg.BOOT_STAT Fld.BOOT_STAT_PHASE 7) with bootu := { coldHeld := false, restarts := [0, 0, 0] } } : State)).bootPhase = 3 → (({ (wOut.setFld Reg.BOOT_STAT Fld.BOOT_STAT_PHASE 7) with bootu := { coldHeld := false, restarts := [0, 0, 0] } } : State)).bootu.sections ≠ []) ∧
    ((({ (wOut.setFld Reg.BOOT_STAT Fld.BOOT_STAT_PHASE 7) with bootu := { coldHeld := false, restarts := [0, 0, 0] } } : State)).flag Reg.MC_WDOG Fld.MC_WDOG_HELD = false)) ∧
   ((9 * 65536 < 10 * ((60000 : Nat)))) ∧
   ((10 * ((0 : Nat)) < 8 * 65536)) ∧
   (((({ State.reset with bootu := { coldHeld := false, mcRunning := true } } : State)).takes 0x0003 ((0 : Nat)) = true) ∧
    ((({ State.reset with bootu := { coldHeld := false, mcRunning := true } } : State)).bootu.mcRunning = true)) :=
  by and_intros <;> decide +kernel

theorem witness_CommandRing :
   ((((State.reset : State)).bootFailed = false) ∧
    (hasHost ((State.reset : State)).fac.variant = true) ∧
    (((State.reset : State)).cmdSize ≤ ((65536 : Nat)) ∨ ((State.reset : State)).cmdSize ≤ (((State.reset : State)).fld Reg.HIF_CMD_DB Fld.HIF_CMD_DB_TAIL + ((State.reset : State)).cmdSize - ((State.reset : State)).fld Reg.HIF_CMD_HEAD Fld.HIF_CMD_HEAD_HEAD) % ((State.reset : State)).cmdSize +
        (((65536 : Nat)) + ((State.reset : State)).cmdSize - ((State.reset : State)).fld Reg.HIF_CMD_DB Fld.HIF_CMD_DB_TAIL) % ((State.reset : State)).cmdSize)) ∧
   ((((State.reset : State)).bootFailed = false) ∧
    (hasHost ((State.reset : State)).fac.variant = true) ∧
    (((0 : Nat)) < ((State.reset : State)).cmdSize) ∧
    ((((State.reset : State)).fld Reg.HIF_CMD_DB Fld.HIF_CMD_DB_TAIL + ((State.reset : State)).cmdSize - ((State.reset : State)).fld Reg.HIF_CMD_HEAD Fld.HIF_CMD_HEAD_HEAD) % ((State.reset : State)).cmdSize +
        (((0 : Nat)) + ((State.reset : State)).cmdSize - ((State.reset : State)).fld Reg.HIF_CMD_DB Fld.HIF_CMD_DB_TAIL) % ((State.reset : State)).cmdSize < ((State.reset : State)).cmdSize)) ∧
   ((((wHost : State)).hostUp = true) ∧
    (((wHost : State)).bootu.mcRunning = true) ∧
    (((wHost : State)).flag Reg.HIF_CMD_CFG Fld.HIF_CMD_CFG_EN = true) ∧
    (((wHost : State)).cmdWaiting ≠ 0) ∧
    (((wHost : State)).host.inflight.length < 16) ∧
    (∀ e ∈ ((wHost : State)).host.inflight, e.startsAlone = false) ∧
    (((wHost : State)).routeQueue 6 = some ((0 : Nat))) ∧
    (slotsFor (((0 : BitVec 256) : BitVec 256)) < ((wHost : State)).eqFree ((0 : Nat)))) ∧
   (((({ (((State.reset.raise Reg.HIF_STAT Fld.HIF_STAT_LINK_UP).setFld Reg.HIF_CMD_CFG Fld.HIF_CMD_CFG_SIZE 4).raise Reg.HIF_CMD_CFG Fld.HIF_CMD_CFG_EN).setFld Reg.HIF_CMD_DB Fld.HIF_CMD_DB_TAIL 1 with bootu := { coldHeld := false, mcRunning := true } } : State)).hostUp = true) ∧
    ((({ (((State.reset.raise Reg.HIF_STAT Fld.HIF_STAT_LINK_UP).setFld Reg.HIF_CMD_CFG Fld.HIF_CMD_CFG_SIZE 4).raise Reg.HIF_CMD_CFG Fld.HIF_CMD_CFG_EN).setFld Reg.HIF_CMD_DB Fld.HIF_CMD_DB_TAIL 1 with bootu := { coldHeld := false, mcRunning := true } } : State)).bootu.mcRunning = true) ∧
    ((({ (((State.reset.raise Reg.HIF_STAT Fld.HIF_STAT_LINK_UP).setFld Reg.HIF_CMD_CFG Fld.HIF_CMD_CFG_SIZE 4).raise Reg.HIF_CMD_CFG Fld.HIF_CMD_CFG_EN).setFld Reg.HIF_CMD_DB Fld.HIF_CMD_DB_TAIL 1 with bootu := { coldHeld := false, mcRunning := true } } : State)).flag Reg.HIF_CMD_CFG Fld.HIF_CMD_CFG_EN = true) ∧
    ((({ (((State.reset.raise Reg.HIF_STAT Fld.HIF_STAT_LINK_UP).setFld Reg.HIF_CMD_CFG Fld.HIF_CMD_CFG_SIZE 4).raise Reg.HIF_CMD_CFG Fld.HIF_CMD_CFG_EN).setFld Reg.HIF_CMD_DB Fld.HIF_CMD_DB_TAIL 1 with bootu := { coldHeld := false, mcRunning := true } } : State)).cmdWaiting ≠ 0) ∧
    ((({ (((State.reset.raise Reg.HIF_STAT Fld.HIF_STAT_LINK_UP).setFld Reg.HIF_CMD_CFG Fld.HIF_CMD_CFG_SIZE 4).raise Reg.HIF_CMD_CFG Fld.HIF_CMD_CFG_EN).setFld Reg.HIF_CMD_DB Fld.HIF_CMD_DB_TAIL 1 with bootu := { coldHeld := false, mcRunning := true } } : State)).host.inflight.length < 16) ∧
    (∀ e ∈ (({ (((State.reset.raise Reg.HIF_STAT Fld.HIF_STAT_LINK_UP).setFld Reg.HIF_CMD_CFG Fld.HIF_CMD_CFG_SIZE 4).raise Reg.HIF_CMD_CFG Fld.HIF_CMD_CFG_EN).setFld Reg.HIF_CMD_DB Fld.HIF_CMD_DB_TAIL 1 with bootu := { coldHeld := false, mcRunning := true } } : State)).host.inflight, e.startsAlone = false) ∧
    ((({ (((State.reset.raise Reg.HIF_STAT Fld.HIF_STAT_LINK_UP).setFld Reg.HIF_CMD_CFG Fld.HIF_CMD_CFG_SIZE 4).raise Reg.HIF_CMD_CFG Fld.HIF_CMD_CFG_EN).setFld Reg.HIF_CMD_DB Fld.HIF_CMD_DB_TAIL 1 with bootu := { coldHeld := false, mcRunning := true } } : State)).routeQueue 6 = none)) ∧
   ((((State.reset : State)).bootFailed = false) ∧
    (hasHost ((State.reset : State)).fac.variant = true)) :=
  by and_intros <;> decide +kernel

theorem witness_RegisterCommands :
   ((((State.reset : State)).takes 0x0011 ((0 : Nat)) = true) ∧
    (accessOk ((0 : Nat)) ((2 : Nat)) = false)) ∧
   (((({ State.reset with fac := { Factory.standard with variant := .xf6408f } } : State)).takes 0x0011 ((0 : Nat)) = true) ∧
    (accessOk ((0 : Nat)) ((Reg.HIF_STAT : Nat)) = true) ∧
    ((({ State.reset with fac := { Factory.standard with variant := .xf6408f } } : State)).isHere ((0 : Nat)) = true) ∧
    ((({ State.reset with fac := { Factory.standard with variant := .xf6408f } } : State)).absentTo .mc ((Reg.HIF_STAT : Nat)) = true)) ∧
   ((accessOk ((1 : Nat)) ((0 : Nat)) = true) ∧
    (((State.reset : State)).isHere ((0 : Nat)) = true) ∧
    (((State.reset : State)).absentTo .mc ((0 : Nat)) = false)) ∧
   ((((State.reset : State)).takes 0x0012 ((0 : Nat)) = true) ∧
    (accessOk ((2 : Nat)) ((0 : Nat)) = false)) ∧
   (((((State.reset.setFld Reg.MODE_STAT Fld.MODE_STAT_CUR 2) : State)).takes 0x0012 ((0 : Nat)) = true) ∧
    (accessOk ((0 : Nat)) ((routeBase : Nat)) = true) ∧
    ((((State.reset.setFld Reg.MODE_STAT Fld.MODE_STAT_CUR 2) : State)).isHere ((0 : Nat)) = true) ∧
    ((((State.reset.setFld Reg.MODE_STAT Fld.MODE_STAT_CUR 2) : State)).absentTo .mc ((routeBase : Nat)) = false) ∧
    (bitAt (acceptMask 0x0012 0 ((routeBase : Nat))) (((State.reset.setFld Reg.MODE_STAT Fld.MODE_STAT_CUR 2) : State)).curMode = true) ∧
    (inRouteWindow ((routeBase : Nat)) = true)) ∧
   ((accessOk ((0 : Nat)) ((0 : Nat)) = true) ∧
    ((((State.reset.setFld Reg.MODE_STAT Fld.MODE_STAT_CUR 2) : State)).isHere ((0 : Nat)) = true) ∧
    ((((State.reset.setFld Reg.MODE_STAT Fld.MODE_STAT_CUR 2) : State)).absentTo .mc ((0 : Nat)) = false) ∧
    (bitAt (acceptMask 0x0012 0 ((0 : Nat))) (((State.reset.setFld Reg.MODE_STAT Fld.MODE_STAT_CUR 2) : State)).curMode = true) ∧
    (inRouteWindow ((0 : Nat)) = false)) ∧
   ((((State.reset : State)).takes 0x0012 ((0 : Nat)) = true) ∧
    (accessOk ((0 : Nat)) ((0 : Nat)) = true) ∧
    (((State.reset : State)).isHere ((0 : Nat)) = true) ∧
    (((State.reset : State)).absentTo .mc ((0 : Nat)) = false) ∧
    (bitAt (acceptMask 0x0012 0 ((0 : Nat))) ((State.reset : State)).curMode = false)) ∧
   ((accessOk ((0 : Nat)) ((0 : Nat)) = true) ∧
    ((({ State.reset with fab := { bank0 := [(2, 2147483648)], bank1 := [(2, 2147483648)] } } : State)).isHere ((2 : Nat)) = false) ∧
    (((2 : Nat)) ≠ 0xFFF) ∧
    (((({ State.reset with fab := { bank0 := [(2, 2147483648)], bank1 := [(2, 2147483648)] } } : State)).routePort (({ State.reset with fab := { bank0 := [(2, 2147483648)], bank1 := [(2, 2147483648)] } } : State)).epoch ((2 : Nat))).isSome = true)) ∧
   ((accessOk ((0 : Nat)) ((0 : Nat)) = true) ∧
    ((({ State.reset with fab := { bank0 := [(2, 2147483648)], bank1 := [(2, 2147483648)] } } : State)).isHere ((2 : Nat)) = false) ∧
    (((2 : Nat)) ≠ 0xFFF) ∧
    (((({ State.reset with fab := { bank0 := [(2, 2147483648)], bank1 := [(2, 2147483648)] } } : State)).routePort (({ State.reset with fab := { bank0 := [(2, 2147483648)], bank1 := [(2, 2147483648)] } } : State)).epoch ((2 : Nat))).isSome = true)) ∧
   ((((State.reset : State)).takes 0x0011 ((0 : Nat)) = true) ∧
    (accessOk ((0 : Nat)) ((0 : Nat)) = true) ∧
    (((State.reset : State)).isHere ((2 : Nat)) = false) ∧
    (((2 : Nat)) = 0xFFF ∨ ((State.reset : State)).routePort ((State.reset : State)).epoch ((2 : Nat)) = none)) ∧
   ((((State.reset : State)).takes 0x0012 ((0 : Nat)) = true) ∧
    (accessOk ((0 : Nat)) ((0 : Nat)) = true) ∧
    (((State.reset : State)).isHere ((2 : Nat)) = false) ∧
    (((2 : Nat)) = 0xFFF ∨ ((State.reset : State)).routePort ((State.reset : State)).epoch ((2 : Nat)) = none)) :=
  by and_intros <;> decide +kernel

theorem witness_EventQueues :
   ((((State.reset : State)).bootFailed = false) ∧
    (hasHost ((State.reset : State)).fac.variant = true) ∧
    (((3 : Nat)) < 4)) ∧
   ((((State.reset : State)).bootFailed = false) ∧
    (hasHost ((State.reset : State)).fac.variant = true) ∧
    (((0 : Nat)) < 4) ∧
    (((State.reset : State)).eqSize ((0 : Nat)) ≤ ((1048576 : Nat)))) ∧
   ((((((State.reset.setReg (Reg.EQ_CFG 0) 0x80000004).setEq 0 { written := 5 }) : State)).bootFailed = false) ∧
    (hasHost ((((State.reset.setReg (Reg.EQ_CFG 0) 0x80000004).setEq 0 { written := 5 }) : State)).fac.variant = true) ∧
    (((0 : Nat)) < 4) ∧
    (((5 : Nat)) < ((((State.reset.setReg (Reg.EQ_CFG 0) 0x80000004).setEq 0 { written := 5 }) : State)).eqSize ((0 : Nat))) ∧
    (((5 : Nat)) ≠ ((((State.reset.setReg (Reg.EQ_CFG 0) 0x80000004).setEq 0 { written := 5 }) : State)).fld (Reg.EQ_TAIL ((0 : Nat))) Fld.EQ_TAIL_TAIL) ∧
    ((((5 : Nat)) + ((((State.reset.setReg (Reg.EQ_CFG 0) 0x80000004).setEq 0 { written := 5 }) : State)).eqSize ((0 : Nat)) - ((((State.reset.setReg (Reg.EQ_CFG 0) 0x80000004).setEq 0 { written := 5 }) : State)).fld (Reg.EQ_TAIL ((0 : Nat))) Fld.EQ_TAIL_TAIL) % ((((State.reset.setReg (Reg.EQ_CFG 0) 0x80000004).setEq 0 { written := 5 }) : State)).eqSize ((0 : Nat)) ≤ (((((State.reset.setReg (Reg.EQ_CFG 0) 0x80000004).setEq 0 { written := 5 }) : State)).eqU ((0 : Nat))).written)) ∧
   (((({ wHost with recs := [wRec] } : State)).recs = ((wRec : Rec)) :: ((([] : List Rec) : List Rec))) ∧
    ((({ wHost with recs := [wRec] } : State)).host.pcieEver = true) ∧
    ((({ wHost with recs := [wRec] } : State)).canWrite (classOf ((wRec : Rec)).type) = some ((0 : Nat)))) ∧
   (((({ State.reset with recs := [wRec], host := { pcieEver := true } } : State)).recs = ((wRec : Rec)) :: ((([] : List Rec) : List Rec))) ∧
    ((({ State.reset with recs := [wRec], host := { pcieEver := true } } : State)).host.pcieEver = true) ∧
    ((({ State.reset with recs := [wRec], host := { pcieEver := true } } : State)).canWrite (classOf ((wRec : Rec)).type) = none)) ∧
   (((({ State.reset with recs := [wRec], host := { home := 3 }, fab := { bank0 := [(3, 2147483648)], bank1 := [(3, 2147483648)] } } : State)).recs = ((wRec : Rec)) :: ((([] : List Rec) : List Rec))) ∧
    ((({ State.reset with recs := [wRec], host := { home := 3 }, fab := { bank0 := [(3, 2147483648)], bank1 := [(3, 2147483648)] } } : State)).host.pcieEver = false) ∧
    ((({ State.reset with recs := [wRec], host := { home := 3 }, fab := { bank0 := [(3, 2147483648)], bank1 := [(3, 2147483648)] } } : State)).eventHome = some ((3 : Nat)))) ∧
   (((({ wHost with recs := [wRec] } : State)).recs = ((wRec : Rec)) :: ((([] : List Rec) : List Rec))) ∧
    ((({ wHost with recs := [wRec] } : State)).host.pcieEver = true) ∧
    ((({ wHost with recs := [wRec] } : State)).canWrite (classOf ((wRec : Rec)).type) = some ((0 : Nat)))) ∧
   ((((State.reset : State)).keptAnswer ((0 : Nat)) (((0 : Nat)) % 256) = none) ∧
    (((wRec : Rec)).type ≠ 0x0600) ∧
    (((wRec : Rec)).type ≠ 0x0601) ∧
    (((wRec : Rec)).type ≠ 0x0423) ∧
    (((State.reset : State)).host.pcieEver = false ∨ ((State.reset : State)).canWrite (classOf ((wRec : Rec)).type) = none)) ∧
   ((((wHost : State)).keptAnswer ((0 : Nat)) (((0 : Nat)) % 256) = none) ∧
    (((wRec : Rec)).type ≠ 0x0600) ∧
    (((wRec : Rec)).type ≠ 0x0601) ∧
    (((wHost : State)).host.pcieEver = true) ∧
    (((wHost : State)).canWrite (classOf ((wRec : Rec)).type) = some ((0 : Nat)))) ∧
   (((({ (State.reset.setFld Reg.FAB_CFG Fld.FAB_CFG_TMO 5) with fab := { answers := [{ src := 2, tag := 0, at_ := 0, pkt := wPacket }] } } : State)).keptAnswer ((2 : Nat)) (((0 : Nat)) % 256) = some ((wPacket : Packet)))) ∧
   ((((State.reset : State)).keptAnswer ((0 : Nat)) (((0 : Nat)) % 256) = none) ∧
    (((({ type := 0x0600, unit := 0, time := 0, sev := 0, fields := [] } : Rec) : Rec)).type = 0x0600 ∨ ((({ type := 0x0600, unit := 0, time := 0, sev := 0, fields := [] } : Rec) : Rec)).type = 0x0601)) ∧
   (((({ wHost with host := { pcieEver := true, inflight := [({ src := .ring, opcode := 1, tag := 0, target := 0, done := some { status := 0 } } : InFlight)] } } : State)).host.inflight = ((({ src := .ring, opcode := 1, tag := 0, target := 0, done := some { status := 0 } } : InFlight) : InFlight)) :: ((([] : List InFlight) : List InFlight))) ∧
    (((({ src := .ring, opcode := 1, tag := 0, target := 0, done := some { status := 0 } } : InFlight) : InFlight)).done = some ((({ status := 0 } : Completion) : Completion))) ∧
    ((({ wHost with host := { pcieEver := true, inflight := [({ src := .ring, opcode := 1, tag := 0, target := 0, done := some { status := 0 } } : InFlight)] } } : State)).canWrite 6 = some ((0 : Nat))) ∧
    ((({ wHost with host := { pcieEver := true, inflight := [({ src := .ring, opcode := 1, tag := 0, target := 0, done := some { status := 0 } } : InFlight)] } } : State)).bootu.mcRunning = true) ∧
    (((({ src := .ring, opcode := 1, tag := 0, target := 0, done := some { status := 0 } } : InFlight) : InFlight)).opcode ≠ 0x0003 ∨ ((({ src := .ring, opcode := 1, tag := 0, target := 0, done := some { status := 0 } } : InFlight) : InFlight)).target ≠ 0 ∨ ((({ status := 0 } : Completion) : Completion)).status ≠ stOk) ∧
    (((({ wHost with host := { pcieEver := true, inflight := [({ src := .ring, opcode := 1, tag := 0, target := 0, done := some { status := 0 } } : InFlight)] } } : State)).completionOf ((({ src := .ring, opcode := 1, tag := 0, target := 0, done := some { status := 0 } } : InFlight) : InFlight)) ((({ status := 0 } : Completion) : Completion))).length + bit (((({ wHost with host := { pcieEver := true, inflight := [({ src := .ring, opcode := 1, tag := 0, target := 0, done := some { status := 0 } } : InFlight)] } } : State)).setInflight ((([] : List InFlight) : List InFlight))).originNeeded ((0 : Nat)) (((({ wHost with host := { pcieEver := true, inflight := [({ src := .ring, opcode := 1, tag := 0, target := 0, done := some { status := 0 } } : InFlight)] } } : State)).completionOf ((({ src := .ring, opcode := 1, tag := 0, target := 0, done := some { status := 0 } } : InFlight) : InFlight)) ((({ status := 0 } : Completion) : Completion))).headD (mkRec 0x0600 0 ((({ status := 0 } : Completion) : Completion)).time []))) ≤ ((({ wHost with host := { pcieEver := true, inflight := [({ src := .ring, opcode := 1, tag := 0, target := 0, done := some { status := 0 } } : InFlight)] } } : State)).setInflight ((([] : List InFlight) : List InFlight))).eqFree ((0 : Nat)))) ∧
   (((({ wHost with host := { pcieEver := true, inflight := [({ src := .ring, opcode := 3, tag := 0, target := 0, done := some { status := 0 } } : InFlight)] } } : State)).host.inflight = ((({ src := .ring, opcode := 3, tag := 0, target := 0, done := some { status := 0 } } : InFlight) : InFlight)) :: ((([] : List InFlight) : List InFlight))) ∧
    (((({ src := .ring, opcode := 3, tag := 0, target := 0, done := some { status := 0 } } : InFlight) : InFlight)).done = some ((({ status := 0 } : Completion) : Completion))) ∧
    ((({ wHost with host := { pcieEver := true, inflight := [({ src := .ring, opcode := 3, tag := 0, target := 0, done := some { status := 0 } } : InFlight)] } } : State)).canWrite 6 = some ((0 : Nat))) ∧
    ((({ wHost with host := { pcieEver := true, inflight := [({ src := .ring, opcode := 3, tag := 0, target := 0, done := some { status := 0 } } : InFlight)] } } : State)).bootu.mcRunning = true) ∧
    (((({ src := .ring, opcode := 3, tag := 0, target := 0, done := some { status := 0 } } : InFlight) : InFlight)).opcode = 0x0003) ∧
    (((({ src := .ring, opcode := 3, tag := 0, target := 0, done := some { status := 0 } } : InFlight) : InFlight)).target = 0) ∧
    (((({ status := 0 } : Completion) : Completion)).status = stOk) ∧
    (((({ wHost with host := { pcieEver := true, inflight := [({ src := .ring, opcode := 3, tag := 0, target := 0, done := some { status := 0 } } : InFlight)] } } : State)).completionOf ((({ src := .ring, opcode := 3, tag := 0, target := 0, done := some { status := 0 } } : InFlight) : InFlight)) ((({ status := 0 } : Completion) : Completion))).length + bit (((({ wHost with host := { pcieEver := true, inflight := [({ src := .ring, opcode := 3, tag := 0, target := 0, done := some { status := 0 } } : InFlight)] } } : State)).setInflight ((([] : List InFlight) : List InFlight))).originNeeded ((0 : Nat)) (((({ wHost with host := { pcieEver := true, inflight := [({ src := .ring, opcode := 3, tag := 0, target := 0, done := some { status := 0 } } : InFlight)] } } : State)).completionOf ((({ src := .ring, opcode := 3, tag := 0, target := 0, done := some { status := 0 } } : InFlight) : InFlight)) ((({ status := 0 } : Completion) : Completion))).headD (mkRec 0x0600 0 ((({ status := 0 } : Completion) : Completion)).time []))) ≤ ((({ wHost with host := { pcieEver := true, inflight := [({ src := .ring, opcode := 3, tag := 0, target := 0, done := some { status := 0 } } : InFlight)] } } : State)).setInflight ((([] : List InFlight) : List InFlight))).eqFree ((0 : Nat)))) :=
  by and_intros <;> decide +kernel

theorem witness_HostLink :
   ((hasHost ((wOut : State)).fac.variant = true) ∧
    (((wOut : State)).host.pcieEver = false) ∧
    (((wOut : State)).bootu.perstLow = false)) ∧
   ((hasHost ((State.reset : State)).fac.variant = true)) ∧
   (((({ State.reset with host := { pcieEver := true } } : State)).host.pcieEver = true)) ∧
   ((hasHost ((State.reset : State)).fac.variant = true)) ∧
   ((((15 : Nat)) < 16) ∧
    ((({ (((State.reset.raise Reg.HIF_STAT Fld.HIF_STAT_LINK_UP).setFld (Reg.MSIX_CTRL 15) Fld.MSIX_CTRL_MASK 0).setMsi 15 { pending := 1 }) with host := { pci := { msixOn := true } } } : State)).hostUp = true) ∧
    (0 < ((({ (((State.reset.raise Reg.HIF_STAT Fld.HIF_STAT_LINK_UP).setFld (Reg.MSIX_CTRL 15) Fld.MSIX_CTRL_MASK 0).setMsi 15 { pending := 1 }) with host := { pci := { msixOn := true } } } : State)).msiU ((15 : Nat))).pending) ∧
    ((({ (((State.reset.raise Reg.HIF_STAT Fld.HIF_STAT_LINK_UP).setFld (Reg.MSIX_CTRL 15) Fld.MSIX_CTRL_MASK 0).setMsi 15 { pending := 1 }) with host := { pci := { msixOn := true } } } : State)).fld (Reg.HIF_VMOD ((15 : Nat))) Fld.HIF_VMOD_COUNT ≤ ((({ (((State.reset.raise Reg.HIF_STAT Fld.HIF_STAT_LINK_UP).setFld (Reg.MSIX_CTRL 15) Fld.MSIX_CTRL_MASK 0).setMsi 15 { pending := 1 }) with host := { pci := { msixOn := true } } } : State)).msiU ((15 : Nat))).pending ∨ (({ (((State.reset.raise Reg.HIF_STAT Fld.HIF_STAT_LINK_UP).setFld (Reg.MSIX_CTRL 15) Fld.MSIX_CTRL_MASK 0).setMsi 15 { pending := 1 }) with host := { pci := { msixOn := true } } } : State)).longSince (some ((({ (((State.reset.raise Reg.HIF_STAT Fld.HIF_STAT_LINK_UP).setFld (Reg.MSIX_CTRL 15) Fld.MSIX_CTRL_MASK 0).setMsi 15 { pending := 1 }) with host := { pci := { msixOn := true } } } : State)).msiU ((15 : Nat))).oldest) (usTime ((({ (((State.reset.raise Reg.HIF_STAT Fld.HIF_STAT_LINK_UP).setFld (Reg.MSIX_CTRL 15) Fld.MSIX_CTRL_MASK 0).setMsi 15 { pending := 1 }) with host := { pci := { msixOn := true } } } : State)).fld (Reg.HIF_VMOD ((15 : Nat))) Fld.HIF_VMOD_TIME)) = true) ∧
    ((({ (((State.reset.raise Reg.HIF_STAT Fld.HIF_STAT_LINK_UP).setFld (Reg.MSIX_CTRL 15) Fld.MSIX_CTRL_MASK 0).setMsi 15 { pending := 1 }) with host := { pci := { msixOn := true } } } : State)).host.pci.msixOn = true) ∧
    ((({ (((State.reset.raise Reg.HIF_STAT Fld.HIF_STAT_LINK_UP).setFld (Reg.MSIX_CTRL 15) Fld.MSIX_CTRL_MASK 0).setMsi 15 { pending := 1 }) with host := { pci := { msixOn := true } } } : State)).host.pci.msixMask = false) ∧
    ((({ (((State.reset.raise Reg.HIF_STAT Fld.HIF_STAT_LINK_UP).setFld (Reg.MSIX_CTRL 15) Fld.MSIX_CTRL_MASK 0).setMsi 15 { pending := 1 }) with host := { pci := { msixOn := true } } } : State)).flag (Reg.MSIX_CTRL ((15 : Nat))) Fld.MSIX_CTRL_MASK = false)) ∧
   ((((15 : Nat)) < 16) ∧
    ((({ (((State.reset.raise Reg.HIF_STAT Fld.HIF_STAT_LINK_UP).setFld (Reg.MSIX_CTRL 15) Fld.MSIX_CTRL_MASK 1).setMsi 15 { pending := 1 }) with host := { pci := { msixOn := true } } } : State)).hostUp = true) ∧
    (0 < ((({ (((State.reset.raise Reg.HIF_STAT Fld.HIF_STAT_LINK_UP).setFld (Reg.MSIX_CTRL 15) Fld.MSIX_CTRL_MASK 1).setMsi 15 { pending := 1 }) with host := { pci := { msixOn := true } } } : State)).msiU ((15 : Nat))).pending) ∧
    ((({ (((State.reset.raise Reg.HIF_STAT Fld.HIF_STAT_LINK_UP).setFld (Reg.MSIX_CTRL 15) Fld.MSIX_CTRL_MASK 1).setMsi 15 { pending := 1 }) with host := { pci := { msixOn := true } } } : State)).fld (Reg.HIF_VMOD ((15 : Nat))) Fld.HIF_VMOD_COUNT ≤ ((({ (((State.reset.raise Reg.HIF_STAT Fld.HIF_STAT_LINK_UP).setFld (Reg.MSIX_CTRL 15) Fld.MSIX_CTRL_MASK 1).setMsi 15 { pending := 1 }) with host := { pci := { msixOn := true } } } : State)).msiU ((15 : Nat))).pending ∨ (({ (((State.reset.raise Reg.HIF_STAT Fld.HIF_STAT_LINK_UP).setFld (Reg.MSIX_CTRL 15) Fld.MSIX_CTRL_MASK 1).setMsi 15 { pending := 1 }) with host := { pci := { msixOn := true } } } : State)).longSince (some ((({ (((State.reset.raise Reg.HIF_STAT Fld.HIF_STAT_LINK_UP).setFld (Reg.MSIX_CTRL 15) Fld.MSIX_CTRL_MASK 1).setMsi 15 { pending := 1 }) with host := { pci := { msixOn := true } } } : State)).msiU ((15 : Nat))).oldest) (usTime ((({ (((State.reset.raise Reg.HIF_STAT Fld.HIF_STAT_LINK_UP).setFld (Reg.MSIX_CTRL 15) Fld.MSIX_CTRL_MASK 1).setMsi 15 { pending := 1 }) with host := { pci := { msixOn := true } } } : State)).fld (Reg.HIF_VMOD ((15 : Nat))) Fld.HIF_VMOD_TIME)) = true) ∧
    ((({ (((State.reset.raise Reg.HIF_STAT Fld.HIF_STAT_LINK_UP).setFld (Reg.MSIX_CTRL 15) Fld.MSIX_CTRL_MASK 1).setMsi 15 { pending := 1 }) with host := { pci := { msixOn := true } } } : State)).host.pci.msixOn = true) ∧
    ((({ (((State.reset.raise Reg.HIF_STAT Fld.HIF_STAT_LINK_UP).setFld (Reg.MSIX_CTRL 15) Fld.MSIX_CTRL_MASK 1).setMsi 15 { pending := 1 }) with host := { pci := { msixOn := true } } } : State)).flag (Reg.MSIX_CTRL ((15 : Nat))) Fld.MSIX_CTRL_MASK = true ∨ (({ (((State.reset.raise Reg.HIF_STAT Fld.HIF_STAT_LINK_UP).setFld (Reg.MSIX_CTRL 15) Fld.MSIX_CTRL_MASK 1).setMsi 15 { pending := 1 }) with host := { pci := { msixOn := true } } } : State)).host.pci.msixMask = true)) ∧
   (((((State.reset.raise Reg.HIF_STAT Fld.HIF_STAT_LINK_UP) : State)).inBar2 ((268435455 : Nat)) ((1 : Nat)) = true)) ∧
   (((({ (State.reset.raise Reg.HIF_STAT Fld.HIF_STAT_LINK_UP) with host := { hostBase := 1 } } : State)).inBar2 ((0 : Nat)) (([0] : List (BitVec 8))).length = true) ∧
    ((({ (State.reset.raise Reg.HIF_STAT Fld.HIF_STAT_LINK_UP) with host := { hostBase := 1 } } : State)).winAddr ((0 : Nat)) < 32 * dramCells (({ (State.reset.raise Reg.HIF_STAT Fld.HIF_STAT_LINK_UP) with host := { hostBase := 1 } } : State)).fac.variant) ∧
    ((({ (State.reset.raise Reg.HIF_STAT Fld.HIF_STAT_LINK_UP) with host := { hostBase := 1 } } : State)).winAddr ((0 : Nat)) < (({ (State.reset.raise Reg.HIF_STAT Fld.HIF_STAT_LINK_UP) with host := { hostBase := 1 } } : State)).host.hostBase * 2 ^ 20)) ∧
   ((((((State.reset.raise Reg.HIF_STAT Fld.HIF_STAT_LINK_UP).setReg Reg.HIF_WIN_BASE 0xFFFFFFFF) : State)).inBar2 ((268435455 : Nat)) (([0] : List (BitVec 8))).length = true) ∧
    (32 * dramCells ((((State.reset.raise Reg.HIF_STAT Fld.HIF_STAT_LINK_UP).setReg Reg.HIF_WIN_BASE 0xFFFFFFFF) : State)).fac.variant ≤ ((((State.reset.raise Reg.HIF_STAT Fld.HIF_STAT_LINK_UP).setReg Reg.HIF_WIN_BASE 0xFFFFFFFF) : State)).winAddr ((268435455 : Nat)))) ∧
   (((({ (State.reset.raise Reg.HIF_STAT Fld.HIF_STAT_LINK_UP) with host := { hostMib := 1 } } : State)).inBar2 ((5 : Nat)) (([7] : List (BitVec 8))).length = true) ∧
    ((({ (State.reset.raise Reg.HIF_STAT Fld.HIF_STAT_LINK_UP) with host := { hostMib := 1 } } : State)).winAddr ((5 : Nat)) + (([7] : List (BitVec 8))).length ≤ 32 * dramCells (({ (State.reset.raise Reg.HIF_STAT Fld.HIF_STAT_LINK_UP) with host := { hostMib := 1 } } : State)).fac.variant) ∧
    ((({ (State.reset.raise Reg.HIF_STAT Fld.HIF_STAT_LINK_UP) with host := { hostMib := 1 } } : State)).host.hostBase * 2 ^ 20 ≤ (({ (State.reset.raise Reg.HIF_STAT Fld.HIF_STAT_LINK_UP) with host := { hostMib := 1 } } : State)).winAddr ((5 : Nat))) ∧
    ((({ (State.reset.raise Reg.HIF_STAT Fld.HIF_STAT_LINK_UP) with host := { hostMib := 1 } } : State)).winAddr ((5 : Nat)) + (([7] : List (BitVec 8))).length ≤ (({ (State.reset.raise Reg.HIF_STAT Fld.HIF_STAT_LINK_UP) with host := { hostMib := 1 } } : State)).host.hostBase * 2 ^ 20 + (({ (State.reset.raise Reg.HIF_STAT Fld.HIF_STAT_LINK_UP) with host := { hostMib := 1 } } : State)).host.hostMib * 2 ^ 20)) :=
  by and_intros <;> decide +kernel

end Sys2Proof.Tests
end

section
/-!
PROOF. What a read of CAL_SEL shows of its reader's latch; O9 refuted by it.
-/
namespace Sys2Proof.Machine

/-- A read of CAL_SEL returns what its reader's latch holds (R77), whatever the register file holds there. -/
theorem State.readReg_calSel (s : State) (who : Reader) (hb : s.bootFailed = false) :
    s.readReg who Reg.CAL_SEL = (s.selOf Reg.CAL_SEL who, s) := by
  have hblock : blockAt Reg.CAL_SEL = some (RegBlock.cal, 0) := by decide
  have hreg : regAt RegBlock.cal ((Reg.CAL_SEL - RegBlock.cal.base) % RegBlock.cal.stride) =
      some { off := 0x4, rw := 0xC000FF07, rsv := 0x3FFF00F8 } := by decide
  have hpresent : s.absentTo who Reg.CAL_SEL = false := by
    have hv : ∀ v : Variant, isAbsent v Reg.CAL_SEL = false := fun v => by cases v <;> decide
    have hwin : ¬0x40 ≤ (Reg.CAL_SEL - RegBlock.cal.base) % RegBlock.cal.stride := by decide
    simp [State.absentTo, hv, hblock, hwin]
  have hsnap : ¬(snapBase ≤ Reg.CAL_SEL ∧ Reg.CAL_SEL < 2 * snapBase) := by decide
  have hroute : ¬(routeBase ≤ Reg.CAL_SEL ∧ Reg.CAL_SEL < routeBase + 0x4000) := by decide
  have hwired : hardwired Reg.CAL_SEL = false := by decide
  have hreach : s.reachAt Reg.CAL_SEL = s := by simp [State.reachAt, hblock, RegBlock.cal, blockGate]
  rw [State.readReg, hb, hpresent, if_neg hsnap, if_neg hroute, hblock]
  simp only [hreg, hreach, hwired]
  rfl

/-- The device after reset, but that the MC's latch of CAL_SEL holds 8: a bit that CAL_SEL reserves. -/
def calSelLatched : State := { State.reset with latch := [((Reg.CAL_SEL, .mc), [8])] }

/-- Its register file is that of reset, so no reserved field of a register holds anything. -/
theorem calSelLatched_reservedZero : calSelLatched.reservedZero := State.reset_reservedZero

/-- The read of CAL_SEL returns the latch's reserved bit. -/
theorem readClear_calSelLatched : (readClear calSelLatched .mc Reg.CAL_SEL 4).out = [.regData .mc Reg.CAL_SEL 8] := by
  have h : calSelLatched.readAccess .mc Reg.CAL_SEL 4 = (8, calSelLatched) :=
    calSelLatched.readReg_calSel .mc (by decide +kernel)
  rw [readClear, h]
  rfl

/-- Refutes O9: CAL_SEL reads its reader's latch, which the premise says nothing of. With 8 latched there, bit 3, which CAL_SEL
reserves, reads 1. -/
theorem not_reservedFieldsReadZero : ¬ Obligations.ReservedFieldsReadZero := by
  unfold Obligations.ReservedFieldsReadZero
  rintro ⟨hread, -⟩
  obtain ⟨t, ht, v, rest, hout, hv⟩ :=
    hread calSelLatched .mc Reg.CAL_SEL 0 { off := 0x4, rw := 0xC000FF07, rsv := 0x3FFF00F8 } calSelLatched_reservedZero
      (by decide) (by decide)
  obtain rfl : { readClear calSelLatched .mc Reg.CAL_SEL 4 with pending := calSelLatched.pending, fac := calSelLatched.fac } = t :=
    Host.Outcome.next.inj ht
  obtain ⟨hd, -⟩ := List.cons.inj (readClear_calSelLatched.symm.trans hout)
  obtain ⟨-, -, rfl⟩ := Out.regData.inj hd
  exact absurd hv (by decide)

end Sys2Proof.Machine
end

section
/-!
PROOF. A command's answer; writes to absent units, their counter, accesses of BAR0 and the end of a rate limit's interval (O12).
-/
namespace Sys2Proof.Machine

/-! ### A command's answer -/

/-- A meaning that keeps the queue and the fuses is the command's answer. -/
theorem State.effect_of_kept {s u : State} (hp : u.pending = s.pending) (hf : u.fac = s.fac) : s.effect u = .next u := by
  rw [State.effect, ← hp, ← hf]

/-- A meaning with a frame is the command's answer. -/
theorem State.effect_of_outside {P : Parts} {s u : State} (h : u.outside P = s.outside P) : s.effect u = .next u :=
  have same := State.sameBut_of_outside h
  State.effect_of_kept same.pending same.fac

/-! ### Counters -/

theorem satInc_lt (w n : Nat) : satInc w n < 2 ^ w := by
  have hpos : 0 < 2 ^ w := by positivity
  unfold satInc
  split <;> omega

theorem word32_inWord : Field.inWord word32 := ⟨by decide, by decide⟩

/-- A counter that is counted shows one more, up to its largest number. -/
theorem State.fld_count_self (s : State) (a : Nat) {f : Field} (h : Field.inWord f) :
    (s.count a f).fld a f = satInc (fieldWidth f) (s.fld a f) := by
  rw [State.count, State.fld_setFld_self s a h, Nat.mod_eq_of_lt (satInc_lt _ _)]

/-! ### A write to an absent unit -/

theorem State.absentWrite_counts (s : State) (who : Reader) (off : Nat) :
    (s.absentWrite who off).fld Reg.DEV_ABSENT_WR word32 = satInc 32 (s.fld Reg.DEV_ABSENT_WR word32) := by
  have hne : Reg.DEV_ABSENT_WR ≠ Reg.DEV_ABSENT_ADDR := by decide
  have hreg : (s.absentWrite who off).reg Reg.DEV_ABSENT_WR = (s.count Reg.DEV_ABSENT_WR word32).reg Reg.DEV_ABSENT_WR :=
    State.reg_setReg_other _ hne _
  rw [State.fld, hreg]
  exact s.fld_count_self Reg.DEV_ABSENT_WR word32_inWord

theorem State.absentWrite_names (s : State) (who : Reader) (off : Nat) :
    (s.absentWrite who off).reg Reg.DEV_ABSENT_ADDR = BitVec.ofNat 32 (Reader.addr who % 4096 * 2 ^ 20 + off % 2 ^ 20) :=
  State.reg_setReg_self _ _ _

theorem State.absentWrite_reg_other (s : State) (who : Reader) (off : Nat) {a : Nat} (hw : a ≠ Reg.DEV_ABSENT_WR)
    (ha : a ≠ Reg.DEV_ABSENT_ADDR) : (s.absentWrite who off).reg a = s.reg a :=
  (State.reg_setReg_other _ ha _).trans (s.reg_count_other hw _)

theorem absentUnitWrite_eq {s : State} {who : Reader} {off : Nat} (hb : s.bootFailed = false) (ha : s.absentTo who off = true) :
    absentUnitWrite s who off = s.absentWrite who off := by
  simp [absentUnitWrite, hb, ha]

/-- A write to an absent unit by a row of its own: counted, and every register but the count and its address keeps its value. -/
theorem State.answer_absentWrite {s u : State} {off : Nat} (hb : s.bootFailed = false) (hu : u = s.absentWrite .pcie off) :
    ∃ t, s.effect (s.whenOpen u) = .next t ∧
      t.fld Reg.DEV_ABSENT_WR word32 = satInc 32 (s.fld Reg.DEV_ABSENT_WR word32) ∧
      (∀ a, a ≠ Reg.DEV_ABSENT_WR → a ≠ Reg.DEV_ABSENT_ADDR → t.reg a = s.reg a) := by
  have hopen : s.whenOpen u = s.absentWrite .pcie off := by simp [State.whenOpen, hb, hu]
  rw [hopen]
  exact ⟨_, State.effect_of_outside (P := Parts.all) (s.absentWrite_outside .pcie off ⟨trivial, trivial⟩), s.absentWrite_counts .pcie off,
    fun _ hw ha => s.absentWrite_reg_other .pcie off hw ha⟩

theorem State.writeAbsent_eq {s : State} {i count off : Nat} (h : i < count) : s.writeAbsent i count off = s.absentWrite .pcie off := by
  rw [State.writeAbsent, if_pos h]

/-! ### DEV_ABSENT_WR -/

/-- A register other than BOOT_STAT has no part in whether BOOT has failed. -/
theorem State.bootFailed_setReg_other (s : State) {a : Nat} (h : Reg.BOOT_STAT ≠ a) (w : Word) :
    (s.setReg a w).bootFailed = s.bootFailed := by
  simp only [State.bootFailed, State.bootPhase, State.fld, State.reg_setReg_other s h]

theorem devAbsentWrClear_none {s : State} (hb : s.bootFailed = false) : devAbsentWrClear s none = s.setReg Reg.DEV_ABSENT_WR 0 := by
  simp [devAbsentWrClear, hb]

theorem devAbsentWrClear_some {s : State} {who : Reader} {off : Nat} (hb : s.bootFailed = false)
    (ha : isAbsent s.fac.variant off = true) :
    devAbsentWrClear s (some (who, off)) = (s.setReg Reg.DEV_ABSENT_WR 0).absentWrite who off := by
  have hb' : (s.setReg Reg.DEV_ABSENT_WR 0).bootFailed = false := (s.bootFailed_setReg_other (by decide) 0).trans hb
  have ha' : (s.setReg Reg.DEV_ABSENT_WR 0).absentTo who off = true := by
    simp [State.absentTo, State.setReg_fac, ha]
  simpa [devAbsentWrClear, hb] using absentUnitWrite_eq hb' ha'

/-- Cleared and then counted, DEV_ABSENT_WR holds 1. -/
theorem State.absentWrite_cleared (s : State) (who : Reader) (off : Nat) :
    ((s.setReg Reg.DEV_ABSENT_WR 0).absentWrite who off).reg Reg.DEV_ABSENT_WR = 1 := by
  have hne : Reg.DEV_ABSENT_WR ≠ Reg.DEV_ABSENT_ADDR := by decide
  have hone : putField word32 0 (satInc 32 (getField word32 0)) = 1 := by decide
  rw [State.absentWrite, State.reg_setReg_other _ hne, State.count, State.reg_setFld_self, State.fld, State.reg_setReg_self]
  exact hone

/-! ### Accesses of BAR0 -/

/-- A write that BAR0 does not accept is counted in HIF_BAD_ACC (R384). -/
theorem State.writeAccess_refused {s : State} {who : Reader} {off size data : Nat} (hb : s.bootFailed = false)
    (hh : hasHost s.fac.variant = true) (ha : accepted off size = false) :
    s.writeAccess who off size data = (s.count Reg.HIF_BAD_ACC word32).raise Reg.HIF_STAT Fld.HIF_STAT_BAD_ACC_S := by
  simp [State.writeAccess, ha, hh, hb]

theorem State.writeAccess_four {s : State} {who : Reader} {off data : Nat} (ha : accepted off 4 = true) :
    s.writeAccess who off 4 data = s.writeReg who off (BitVec.ofNat 32 data) := by
  simp [State.writeAccess, ha]

theorem State.writeAccess_eight {s : State} {who : Reader} {off data : Nat} (ha : accepted off 8 = true) :
    s.writeAccess who off 8 data =
      (s.writeReg who off (BitVec.ofNat 32 data)).writeReg who (off + 4) (BitVec.ofNat 32 (data / 2 ^ 32)) := by
  simp [State.writeAccess, ha]

/-! ### The end of a rate limit's interval -/

@[simp] theorem State.rateKey_setRate_self (s : State) (type key : Nat) (k : RateKey) : (s.setRate type key k).rateKey type key = k :=
  Store.get_set_self _ _ _ _

/-- Whether the interval of a record that is held back has passed (R479). -/
def State.intervalOver (s : State) (k : RateKey) : Bool :=
  (if k.pendB then k.lastB else k.lastA).all (fun u => decide (k.interval ≤ (s.time - u).toNat))

/-- The rate limit once the record held back is written: side B of it, or side A, is told now. -/
def State.reportedRate (s : State) (k : RateKey) : RateKey :=
  let k := { k with pend := none, reported := k.pendNow }
  if k.pendB then { k with lastB := some s.time, suppB := 0 } else { k with lastA := some s.time, suppA := 0 }

theorem State.reportedRate_pend (s : State) (k : RateKey) : (s.reportedRate k).pend = none := by
  unfold State.reportedRate
  dsimp only
  split <;> rfl

/-- Once its interval has passed, a record held back is dropped where it would tell what was told, else written. -/
theorem rateLimitIntervalEnd_due {s : State} {type key : Nat} {r : Rec} (hp : (s.rateKey type key).pend = some r)
    (hd : s.intervalOver (s.rateKey type key) = true) :
    rateLimitIntervalEnd s type key =
      if (s.rateKey type key).pendNow = (s.rateKey type key).reported then s.setRate type key { s.rateKey type key with pend := none }
      else (s.setRate type key (s.reportedRate (s.rateKey type key))).push r := by
  unfold State.intervalOver at hd
  unfold rateLimitIntervalEnd
  simp only [hp]
  cases hl : (if (s.rateKey type key).pendB then (s.rateKey type key).lastB else (s.rateKey type key).lastA) with
  | none => rfl
  | some u =>
    have hle : ¬(s.time - u).toNat < (s.rateKey type key).interval := by simpa [hl] using hd
    simp only [hle, decide_false]
    rfl

/-- The row answers with what its meaning leaves. -/
theorem rateLimitIntervalEnd_answers (s : State) (type key : Nat) :
    exec (.rateLimitIntervalEnd type key) s = .next (rateLimitIntervalEnd s type key) :=
  State.effect_of_outside (P := Parts.all) (rateLimitIntervalEnd_outside s type key ⟨⟨rfl, rfl, rfl, trivial⟩, rfl⟩)

/-- Settles O12: the absent-unit rows by what `State.absentWrite` does, the accesses by cases of size, the interval's end by
`rateLimitIntervalEnd_due`. -/
theorem absentUnits : Obligations.AbsentUnits := by
  unfold Obligations.AbsentUnits
  refine ⟨?write, ?clear, ?clearAndCount, ?read, ?refused, ?four, ?eight, ?reported, ?dropped, ?doorbell, ?cmdCfg, ?eqCfg, ?eqTail,
    ?bankCfg, ?wmCfg, ?pchCfg, ?hrTail⟩
  case write =>
    intro s who off hb ha
    refine ⟨absentUnitWrite s who off,
      State.effect_of_outside (P := Parts.all) (absentUnitWrite_outside s who off ⟨trivial, trivial⟩), ?_⟩
    rw [absentUnitWrite_eq hb ha]
    exact ⟨s.absentWrite_counts who off, s.absentWrite_names who off⟩
  case clear =>
    intro s hb
    refine ⟨devAbsentWrClear s none, State.effect_of_outside (P := Parts.all) (devAbsentWrClear_outside s none ⟨trivial, trivial⟩),
      ?_⟩
    rw [devAbsentWrClear_none hb, State.reg_setReg_self]
  case clearAndCount =>
    intro s who off hb ha
    refine ⟨devAbsentWrClear s (some (who, off)),
      State.effect_of_outside (P := Parts.all) (devAbsentWrClear_outside s _ ⟨trivial, trivial⟩), ?_⟩
    rw [devAbsentWrClear_some hb ha, State.absentWrite_cleared]
  case read => exact fun s who off size => ⟨_, rfl, rfl⟩
  case refused =>
    intro s who off size data hb hh ha
    have hw : registerWrite s who off size data = (s.count Reg.HIF_BAD_ACC word32).raise Reg.HIF_STAT Fld.HIF_STAT_BAD_ACC_S :=
      State.writeAccess_refused hb hh ha
    refine ⟨registerWrite s who off size data, State.effect_of_kept ?_ ?_, ?_, fun a h1 h2 => ?_⟩
    · rw [hw, State.raise_pending, State.count_pending]
    · rw [hw, State.raise_fac, State.count_fac]
    · rw [hw, State.raise, State.fld_setFld_other _ (by decide), State.fld_count_self s _ word32_inWord]
      rfl
    · rw [hw, State.reg_raise_other _ h2, State.reg_count_other s h1]
  case four =>
    intro s who off data ha
    refine ⟨_, rfl, ?_⟩
    change (s.writeAccess who off 4 data).regs = _
    rw [State.writeAccess_four ha]
  case eight =>
    intro s who off data ha
    refine ⟨_, rfl, ?_⟩
    change (s.writeAccess who off 8 data).regs = _
    rw [State.writeAccess_eight ha]
  case reported =>
    intro s type key r hp hd hne hfull
    refine ⟨_, rateLimitIntervalEnd_answers s type key, ?_⟩
    rw [rateLimitIntervalEnd_due hp hd, if_neg hne]
    refine ⟨State.push_recs _ r hfull, ?_⟩
    exact (congrArg RateKey.pend (State.rateKey_setRate_self s type key _)).trans (s.reportedRate_pend _)
  case dropped =>
    intro s type key hd he
    refine ⟨_, rateLimitIntervalEnd_answers s type key, ?_⟩
    cases hp : (s.rateKey type key).pend with
    | none => simp [rateLimitIntervalEnd, hp]
    | some r =>
      rw [rateLimitIntervalEnd_due hp hd, if_pos he]
      exact ⟨rfl, by rw [State.rateKey_setRate_self]⟩
  case doorbell =>
    exact fun s tail hb hh =>
      State.answer_absentWrite (off := Reg.HIF_CMD_DB) hb (by simp [cmdDoorbell, hh, State.writeAbsent_eq])
  case cmdCfg =>
    exact fun s v hb hh =>
      State.answer_absentWrite (off := Reg.HIF_CMD_CFG) hb (by simp [State.reachIf, cmdRingEnable, hh, State.writeAbsent_eq])
  case eqCfg =>
    exact fun s q v hb hq hh =>
      State.answer_absentWrite (off := Reg.EQ_CFG q) hb
        (by simp [State.reachIf, eqCfgEnable, hh, hq, Nat.not_le.2 hq, State.writeAbsent_eq])
  case eqTail =>
    exact fun s q v hb hq hh =>
      State.answer_absentWrite (off := Reg.EQ_TAIL q) hb
        (by simp [State.reachIf, eqTailWrite, hh, hq, Nat.not_le.2 hq, State.writeAbsent_eq])
  case bankCfg =>
    exact fun s n i v hb hn hi hh =>
      State.answer_absentWrite (off := Reg.BANK_CFG n + 4 * i) hb (by simp [bankCfgWrite, hh, hn, Nat.not_le.2 hi, State.writeAbsent_eq])
  case wmCfg =>
    exact fun s i th v hb hi hh =>
      State.answer_absentWrite (off := if th then Reg.WM_TH i else Reg.WM_CFG i) hb (by simp [wmCfgWrite, hh, hi, State.writeAbsent_eq])
  case pchCfg =>
    exact fun s n v hb hn hh =>
      State.answer_absentWrite (off := Reg.PCH_CFG n) hb (by simp [pchCfgWrite, hh, hn, State.writeAbsent_eq])
  case hrTail =>
    exact fun s r v hb hr hh =>
      State.answer_absentWrite (off := Reg.HR_TAIL r) hb (by simp [State.reachIf, hrTailWrite, hh, hr, State.writeAbsent_eq])

end Sys2Proof.Machine
end

section
/-!
PROOF. Reads of absent units, and the unit-ID registers of present ones (O11).
-/
namespace Sys2Proof.Machine

/-! ### Both words of a 64-bit access lie in one unit -/

/-- Every block and every unit begins at a multiple of 8. -/
theorem blocks_aligned : ∀ b ∈ blocks, b.base % 8 = 0 ∧ b.stride % 8 = 0 := by decide

/-- A multiple of 8 and the word after it divide alike by a multiple of 8. -/
theorem add_four_div {x m : Nat} (hx : x % 8 = 0) (hm : m % 8 = 0) : (x + 4) / m = x / m := by
  obtain ⟨k, rfl⟩ := Nat.dvd_of_mod_eq_zero hx
  obtain ⟨n, rfl⟩ := Nat.dvd_of_mod_eq_zero hm
  rw [← Nat.div_div_eq_div_mul, ← Nat.div_div_eq_div_mul]
  congr 1
  omega

theorem blockAt_add_four {off : Nat} (h : off % 8 = 0) : blockAt (off + 4) = blockAt off := by
  have hin : ∀ b ∈ blocks, (decide (b.base ≤ off + 4) && decide (off + 4 < b.base + b.stride * b.count)) =
      (decide (b.base ≤ off) && decide (off < b.base + b.stride * b.count)) := by
    intro b hb
    obtain ⟨hbase, hstride⟩ := blocks_aligned b hb
    have hsize : b.stride * b.count % 8 = 0 := by rw [Nat.mul_mod, hstride, Nat.zero_mul, Nat.zero_mod]
    generalize b.stride * b.count = n at hsize ⊢
    rw [Bool.eq_iff_iff]
    simp only [Bool.and_eq_true, decide_eq_true_eq]
    omega
  unfold blockAt
  rw [List.find?_congr hin]
  cases hf : blocks.find? fun b => decide (b.base ≤ off) && decide (off < b.base + b.stride * b.count) with
  | none => rfl
  | some b =>
    obtain ⟨hbase, hstride⟩ := blocks_aligned b (List.mem_of_find?_eq_some hf)
    have hle : b.base ≤ off := by
      have hp := List.find?_some hf
      simp only [Bool.and_eq_true, decide_eq_true_eq] at hp
      exact hp.1
    have hunit : (off + 4 - b.base) / b.stride = (off - b.base) / b.stride := by
      rw [show off + 4 - b.base = off - b.base + 4 by omega]
      exact add_four_div (by omega) hstride
    simp [hunit]

theorem isAbsent_add_four {v : Variant} {off : Nat} (h : off % 8 = 0) : isAbsent v (off + 4) = isAbsent v off := by
  have hhif : (0x4000 ≤ off + 4 ∧ off + 4 < 0x5000) ↔ (0x4000 ≤ off ∧ off < 0x5000) := by omega
  have hpch : (0x81000 ≤ off + 4 ∧ off + 4 < 0x82000) ↔ (0x81000 ≤ off ∧ off < 0x82000) := by omega
  have hwch : (0x82000 ≤ off + 4 ∧ off + 4 < 0x82100) ↔ (0x82000 ≤ off ∧ off < 0x82100) := by omega
  unfold isAbsent
  rw [blockAt_add_four h]
  simp only [hhif, hpch, hwch]
  split
  · rfl
  · split
    · rw [show (off + 4 - 0x81000) / 0x40 = (off - 0x81000) / 0x40 by omega]
    · split
      · rw [show (off + 4 - 0x82000) / 0x20 = (off - 0x82000) / 0x20 by omega]
      · rfl

/-! ### Reads of absent units -/

/-- A register of an absent unit reads 0, and the read leaves the state (R4). -/
theorem State.readReg_absent {s : State} {off : Nat} (who : Reader) (h : isAbsent s.fac.variant off = true) :
    s.readReg who off = (0, s) := by
  simp [State.readReg, State.absentTo, h]

theorem State.readAccess_absent {s : State} {off size : Nat} (who : Reader) (h : isAbsent s.fac.variant off = true)
    (ha : accepted off size = true) : s.readAccess who off size = (0, s) := by
  unfold State.readAccess
  rw [if_pos ha]
  simp only [State.readReg_absent who h]
  split
  · rfl
  · next hsize =>
    have hoff : off % 8 = 0 := by simp [accepted, hsize] at ha; exact ha.2
    simp only [State.readReg_absent who ((isAbsent_add_four hoff).trans h)]
    rfl

/-! ### Unit-ID registers -/

/-- What `descAt` finds at an offset of a block: the register that the block's map lists there. -/
theorem descAt_of_blockAt {off i : Nat} {b : RegBlock} (hblk : blockAt off = some (b, i)) :
    descAt off = (regAt b ((off - b.base) % b.stride)).map fun r => (r, i) := by
  simp [descAt, hblk]

/-- A block that an offset falls in is one of the map's, and the unit one of the block's. -/
theorem blockAt_mem {off i : Nat} {b : RegBlock} (hblk : blockAt off = some (b, i)) :
    b ∈ blocks ∧ i < b.count ∧ b.base ≤ off ∧ off < b.base + b.stride * b.count := by
  unfold blockAt at hblk
  simp only [Option.map_eq_some_iff, Prod.mk.injEq] at hblk
  obtain ⟨c, hc, rfl, rfl⟩ := hblk
  have hp := List.find?_some hc
  simp only [Bool.and_eq_true, decide_eq_true_eq] at hp
  exact ⟨List.mem_of_find?_eq_some hc, Nat.div_lt_of_lt_mul (by omega), hp⟩

/-- No block lies in the routing window or the snapshot region. -/
theorem blocks_apart : ∀ b ∈ blocks, b.base + b.stride * b.count ≤ snapBase ∧
    (b.base + b.stride * b.count ≤ routeBase ∨ routeBase + 0x4000 ≤ b.base) := by decide

/-- Every unit's first offset whose value is wired, DEV_ID apart, has in the map a value from 1 to 2^32 - 1 that no fuse decides. -/
theorem blocks_unitIds : (blocks.all fun b => (List.range b.count).all fun i =>
    let off := b.base + b.stride * i
    !hardwired off || off == Reg.DEV_ID || !specials.contains off && (descAt off).any fun p =>
      decide (0 < p.1.reset + if p.1.inst then p.2 else 0) && decide ((p.1.reset + if p.1.inst then p.2 else 0) < 2 ^ 32)) = true := by
  decide +kernel

/-- The word of a number from 1 to 2^32 - 1 is not 0. -/
theorem ofNat_ne_zero {n : Nat} (h0 : 0 < n) (h1 : n < 2 ^ 32) : (BitVec.ofNat 32 n).toNat ≠ 0 := by
  rw [BitVec.toNat_ofNat, Nat.mod_eq_of_lt h1]
  omega

theorem regReset_devId (f : Factory) : (regReset f Reg.DEV_ID).toNat ≠ 0 :=
  ofNat_ne_zero (n := 0x58010000 + f.stepping.toNat * 256) (by omega) (by have := f.stepping.isLt; omega)

/-- A unit's first register, where its value is wired, holds a number other than 0 whatever the fuses hold (R4). -/
theorem regReset_unitId (f : Factory) {off i : Nat} {b : RegBlock} (hblk : blockAt off = some (b, i)) (hoff : off = b.base + b.stride * i)
    (hw : hardwired off = true) : (descAt off).isSome = true ∧ (regReset f off).toNat ≠ 0 := by
  obtain ⟨hb, hi, -⟩ := blockAt_mem hblk
  have key := List.all_eq_true.mp (List.all_eq_true.mp blocks_unitIds b hb) i (List.mem_range.mpr hi)
  simp only [← hoff, hw, Bool.not_true, Bool.false_or, Bool.or_eq_true, Bool.and_eq_true, beq_iff_eq, Bool.not_eq_true',
    List.contains_eq_mem, decide_eq_false_iff_not, Option.any_eq_true, decide_eq_true_eq] at key
  rcases key with rfl | ⟨hspecial, ⟨d, j⟩, hd, h0, h1⟩
  · exact ⟨by decide, regReset_devId f⟩
  · refine ⟨by rw [hd]; rfl, ?_⟩
    rw [regReset, resetSpecial_none hspecial, hd]
    exact ofNat_ne_zero h0 h1

/-- A wired register of a present unit reads its value at reset. -/
theorem State.readReg_wired {s : State} {who : Reader} {off i : Nat} {b : RegBlock} (hb : s.bootFailed = false)
    (ha : s.absentTo who off = false) (hblk : blockAt off = some (b, i)) (hd : (descAt off).isSome = true)
    (hw : hardwired off = true) : s.readReg who off = ((regReset s.fac off).toNat, s.reachAt off) := by
  obtain ⟨hmem, -, hlo, hhi⟩ := blockAt_mem hblk
  obtain ⟨hsnap, hroute⟩ := blocks_apart b hmem
  have hfac : (s.reachAt off).fac = s.fac :=
    (State.sameBut_of_outside (State.reachAt_outside (P := Parts.all) s off (by simp [Parts.all, Parts.emits]))).fac
  obtain ⟨⟨d, j⟩, hd⟩ := Option.isSome_iff_exists.mp hd
  rw [descAt_of_blockAt hblk, Option.map_eq_some_iff] at hd
  obtain ⟨d', hd, -⟩ := hd
  have hout : ¬(snapBase ≤ off ∧ off < 2 * snapBase) := by omega
  have hrout : ¬(routeBase ≤ off ∧ off < routeBase + 0x4000) := by omega
  rw [State.readReg, hb, ha, if_neg hout, if_neg hrout, hblk]
  simp only [hd, hw, hfac]
  rfl

/-- Settles O11: an absent unit answers 0 to either word of a read; a unit-ID register is wired, and the map gives it a value
other than 0 in every unit of every block. -/
theorem absentUnitsReadZero : Obligations.AbsentUnitsReadZero := by
  unfold Obligations.AbsentUnitsReadZero
  constructor
  · intro s who off size habs hacc
    refine ⟨_, rfl, ?_⟩
    change (readClear s who off size).out = _
    rw [readClear, State.readAccess_absent who habs hacc]
    rfl
  · intro s who off i b hb _ hw hblk hoff habs
    obtain ⟨hd, hne⟩ := regReset_unitId s.fac hblk hoff hw
    have hfour : off % 4 = 0 := by
      obtain ⟨hbase, hstride⟩ := blocks_aligned b (blockAt_mem hblk).1
      have hunit : b.stride * i % 8 = 0 := by rw [Nat.mul_mod, hstride, Nat.zero_mul, Nat.zero_mod]
      omega
    have hrel : (off - b.base) % b.stride = 0 := by rw [hoff, Nat.add_sub_cancel_left, Nat.mul_mod_right]
    have hpresent : s.absentTo who off = false := by simp [State.absentTo, habs, hblk, hrel]
    have hacc : accepted off 4 = true := by simp [accepted, hfour]
    refine ⟨_, rfl, (regReset s.fac off).toNat, (s.reachAt off).out, ?_, hne⟩
    change (readClear s who off 4).out = _
    rw [readClear, State.readAccess, if_pos hacc, State.readReg_wired hb hpresent hblk hd hw]
    rfl

end Sys2Proof.Machine
end

section
/-!
PROOF. The link, MSI-X and reads of BAR2: what each leaves.
-/
namespace Sys2Proof.Machine

/-! ### What a register shows -/

theorem State.flag_congr {s t : State} {a : Nat} (h : t.reg a = s.reg a) (f : Field) : t.flag a f = s.flag a f := by
  rw [State.flag, State.flag, State.fld, State.fld, h]

/-- A cleared field that lies apart from another stays 0 when that one is cleared. -/
theorem State.flag_clear_clear (s : State) (a : Nat) {f g : Field} (hf : Field.inWord f) (hg : Field.inWord g)
    (ha : g.hi < f.lo ∨ f.hi < g.lo) : ((s.clear a f).clear a g).flag a f = false := by
  rw [State.flag, State.clear, State.fld_setFld_apart _ _ hg hf.1 ha, State.fld_clear s a hf]
  rfl

/-- A bit that has been set reads 1. -/
theorem State.regBit_setBit (s : State) (a : Nat) {i : Nat} (h : i < 32) : (s.setBit a i true).regBit a i = true := by
  have hf : Field.inWord ⟨i, i⟩ := ⟨Nat.le_refl i, h⟩
  have hw : fieldWidth ⟨i, i⟩ = 1 := Nat.add_sub_cancel_left i 1
  have hfld := s.fld_setFld_self a hf (bit true)
  rw [State.fld, getField, hw] at hfld
  simpa [State.regBit, bitAt, State.setBit, bit] using hfld

/-! ### The link (R360, R388) -/

/-- Advertising changes the fabric's parts and what leaves the device. -/
theorem State.advertise_sameBut (s : State) : s.SameBut { fab := true, out := true, port := true } s.advertise :=
  State.sameBut_of_outside (State.advertise_outside s ⟨rfl, rfl, rfl⟩)

@[simp] theorem State.configure_pcieEver (s : State) : s.configure.host.pcieEver = s.host.pcieEver := by
  simp [State.configure]

/-- The first L0 since PERST_N: the device is host-attached, its link up. -/
theorem pcieL0_attaches {s : State} (hh : hasHost s.fac.variant = true) (he : s.host.pcieEver = false) (hp : s.bootu.perstLow = false) :
    (pcieL0 s).host.pcieEver = true ∧ (pcieL0 s).flag Reg.HIF_STAT Fld.HIF_STAT_LINK_UP = true := by
  unfold pcieL0
  simp only [hh, he, hp, Bool.not_true, Bool.or_false, Bool.false_eq_true, if_false]
  split
  · next hup =>
    have same := State.advertise_sameBut { s with host := { s.host with pcieEver := true } }
    exact ⟨by rw [same.host rfl], (State.flag_congr (same.reg _ id) _).trans hup⟩
  · have same := State.advertise_sameBut
    refine ⟨?_, (State.flag_congr ((same _).reg _ id) _).trans (State.flag_raise _ _ ⟨by decide, by decide⟩)⟩
    rw [(same _).host rfl, State.raise_host, State.setFld_host, State.setFld_host, State.configure_pcieEver]

/-- The loss of the link: LINK_UP ends, no DMA runs, and what the host unit holds stays. -/
theorem pcieLinkDown_ends {s : State} (hh : hasHost s.fac.variant = true) :
    (pcieLinkDown s).flag Reg.HIF_STAT Fld.HIF_STAT_LINK_UP = false ∧ (pcieLinkDown s).reg Reg.HIF_DMA_BUSY = 0 ∧
      (pcieLinkDown s).host = s.host := by
  have hne : Reg.HIF_STAT ≠ Reg.HIF_DMA_BUSY := by decide
  have heq : pcieLinkDown s =
      ((s.clear Reg.HIF_STAT Fld.HIF_STAT_LINK_UP).clear Reg.HIF_STAT Fld.HIF_STAT_PTM_VALID).setReg Reg.HIF_DMA_BUSY 0 := by
    simp [pcieLinkDown, hh]
  rw [heq]
  refine ⟨?_, State.reg_setReg_self _ _ _, ?_⟩
  · rw [State.flag_congr (State.reg_setReg_other _ hne 0)]
    exact State.flag_clear_clear s _ ⟨by decide, by decide⟩ ⟨by decide, by decide⟩ (by decide)
  · rw [State.setReg_host, State.clear_host, State.clear_host]

theorem State.fld_withHost (s : State) (h : HostUnit) (a : Nat) (f : Field) : State.fld { s with host := h } a f = s.fld a f := rfl

/-- D3hot shows in DSTATE. -/
theorem d3hotEntry_shows {s : State} (hh : hasHost s.fac.variant = true) (enter : Bool) :
    (d3hotEntry s enter).host.d3hot = enter ∧
      (d3hotEntry s enter).fld Reg.HIF_STAT Fld.HIF_STAT_DSTATE = if enter then 3 else 0 := by
  rw [d3hotEntry, if_neg (by simp [hh])]
  refine ⟨rfl, ?_⟩
  rw [State.fld_withHost, State.fld_setFld_self _ _ ⟨by decide, by decide⟩]
  cases enter <;> rfl

/-! ### MSI-X (R387) -/

/-- A vector whose moderation is reached is sent. -/
theorem msixSend_due {s : State} {v : Nat} (hv : v < 16) (hup : s.hostUp = true) (hp : 0 < (s.msiU v).pending)
    (hd : s.fld (Reg.HIF_VMOD v) Fld.HIF_VMOD_COUNT ≤ (s.msiU v).pending ∨
      s.longSince (some (s.msiU v).oldest) (usTime (s.fld (Reg.HIF_VMOD v) Fld.HIF_VMOD_TIME)) = true) :
    msixSend s v = s.sendMsix v := by
  have hdue : (decide (s.fld (Reg.HIF_VMOD v) Fld.HIF_VMOD_COUNT ≤ (s.msiU v).pending) ||
      s.longSince (some (s.msiU v).oldest) (usTime (s.fld (Reg.HIF_VMOD v) Fld.HIF_VMOD_TIME))) = true := by
    simpa using hd
  simp only [msixSend, hv, hup, hp, hdue, decide_true, Bool.and_self, if_true]

@[simp] theorem State.msiU_setMsi_self (s : State) (v : Nat) (x : MsiVec) : (s.setMsi v x).msiU v = x :=
  Store.get_set_self _ _ _ _

@[simp] theorem State.setMsi_host (s : State) (v : Nat) (x : MsiVec) : (s.setMsi v x).host = s.host := rfl

@[simp] theorem State.setMsi_flag (s : State) (v : Nat) (x : MsiVec) (a : Nat) (f : Field) : (s.setMsi v x).flag a f = s.flag a f := rfl

theorem State.sendMsix_unmasked {s : State} {v : Nat} (hon : s.host.pci.msixOn = true) (hf : s.host.pci.msixMask = false)
    (hm : s.flag (Reg.MSIX_CTRL v) Fld.MSIX_CTRL_MASK = false) : s.sendMsix v = (s.setMsi v {}).put (.msix v) := by
  simp [State.sendMsix, hon, hf, hm]

theorem State.sendMsix_masked {s : State} {v : Nat} (hon : s.host.pci.msixOn = true)
    (hm : s.flag (Reg.MSIX_CTRL v) Fld.MSIX_CTRL_MASK = true ∨ s.host.pci.msixMask = true) :
    s.sendMsix v = (s.setMsi v {}).setBit Reg.MSIX_PBA v true := by
  simp [State.sendMsix, hon, hm]

/-! ### Reads of BAR2 (R385) -/

/-- One cell more of a BAR2 read: its bytes behind those gathered, poisoned where either is. -/
def bar2Gather (first : Nat) (p : (List Nat × Bool) × State) (i : Nat) : (List Nat × Bool) × State :=
  let r := p.2.bar2Cell (first + i)
  ((p.1.1 ++ r.1.1, p.1.2 || r.1.2), r.2)

/-- The cells of a BAR2 access of `size` bytes at DRAM-space address `a`. -/
def bar2Count (a size : Nat) : Nat := (a + size - 1) / 32 + 1 - a / 32

theorem State.bar2Cell_length (s : State) (cell : Nat) : (s.bar2Cell cell).1.1.length = 32 := by
  unfold State.bar2Cell
  split <;> simp [cellBytes]

theorem bar2Gather_length (first : Nat) (l : List Nat) (p : (List Nat × Bool) × State) :
    (l.foldl (bar2Gather first) p).1.1.length = p.1.1.length + 32 * l.length := by
  induction l generalizing p with
  | nil => rfl
  | cons i l ih =>
    rw [List.foldl_cons, ih]
    simp only [bar2Gather, List.length_append, State.bar2Cell_length, List.length_cons]
    omega

theorem bar2Read_eq {s : State} {addr size : Nat} (h : s.inBar2 addr size = true) :
    bar2Read s addr size =
      ((List.range (bar2Count (s.winAddr addr) size)).foldl (bar2Gather (s.winAddr addr / 32)) (([], false), s)).2.put
        (.bar2Data
          ((((List.range (bar2Count (s.winAddr addr) size)).foldl (bar2Gather (s.winAddr addr / 32)) (([], false), s)).1.1.drop
            (s.winAddr addr % 32)).take size)
          ((List.range (bar2Count (s.winAddr addr) size)).foldl (bar2Gather (s.winAddr addr / 32)) (([], false), s)).1.2) := by
  rw [bar2Read, h]
  rfl

/-- An access inside the window has bytes. -/
theorem State.inBar2_pos {s : State} {addr size : Nat} (h : s.inBar2 addr size = true) : 0 < size := by
  simp only [State.inBar2, Bool.and_eq_true, bne_iff_ne] at h
  omega

/-- A BAR2 read answers with as many bytes as it asks for. -/
theorem bar2Read_length {s : State} {addr size : Nat} (h : s.inBar2 addr size = true) :
    ∃ data po rest, (bar2Read s addr size).out = .bar2Data data po :: rest ∧ data.length = size := by
  have hpos := s.inBar2_pos h
  rw [bar2Read_eq h]
  refine ⟨_, _, _, rfl, ?_⟩
  rw [List.length_take, List.length_drop, bar2Gather_length, List.length_range, bar2Count]
  simp only [List.length_nil]
  omega

end Sys2Proof.Machine
end

section
/-!
PROOF. Which cells and merge entries a narrow write reaches.
-/
namespace Sys2Proof.Machine

/-! ### What leaves every cell -/

/-- Every part but the DRAM's cells and the boot sequencer's, which decides what an unwritten cell reads as. -/
def Parts.butCells : Parts := { Parts.all with cells := false, bootu := false }

/-- What writes neither the cells nor the boot sequencer leaves every cell. -/
theorem State.cellAt_of_outside {s t : State} (h : t.outside Parts.butCells = s.outside Parts.butCells) (a : Nat) :
    t.cellAt a = s.cellAt a := by
  have same := State.sameBut_of_outside h
  have hblank : t.blankCell = s.blankCell := by
    funext b
    rw [State.blankCell, State.blankCell, same.bootu rfl]
  rw [State.cellAt, State.cellAt, same.cells rfl, hblank]

theorem State.cellAt_setCell_other (s : State) {a b : Nat} (h : b ≠ a) (c : Cell) : (s.setCell a c).cellAt b = s.cellAt b :=
  Store.get_set_other s.blankCell s.cells h c

theorem State.cellAt_clear (s : State) (a : Nat) (f : Field) (b : Nat) : (s.clear a f).cellAt b = s.cellAt b :=
  State.cellAt_of_outside (State.clear_outside s a f trivial) b

/-- A cell stored changes no other cell; a remapped one lies in its spare. -/
theorem State.cellAt_storeCell_other (s : State) {a b : Nat} (h : b ≠ a) (prot : Nat) (poison : Bool) :
    (s.storeCell a prot poison).cellAt b = s.cellAt b := by
  unfold State.storeCell
  split
  · exact State.cellAt_of_outside (State.setSpare_outside s _ _ ⟨rfl, fun _ => trivial, trivial⟩) b
  · dsimp only
    split
    · rw [State.cellAt_clear, State.cellAt_clear, State.cellAt_setCell_other s h]
    · exact State.cellAt_setCell_other s h _

theorem State.cellAt_readCell_other (s : State) {a b : Nat} (h : b ≠ a) (flips : List Nat) :
    (s.readCell a flips).2.cellAt b = s.cellAt b := by
  unfold State.readCell
  split
  · rfl
  · dsimp only
    split <;> exact State.cellAt_setCell_other s h _

/-! ### What leaves the merge buffer -/

/-- Every part but the protection unit. -/
def Parts.butEcc : Parts := { Parts.all with ecc := false }

/-- What does not write the protection unit leaves it. -/
theorem State.ecc_of_outside {s t : State} (h : t.outside Parts.butEcc = s.outside Parts.butEcc) : t.ecc = s.ecc :=
  (State.sameBut_of_outside h).ecc rfl

theorem State.setLog_merge (s : State) (l : List (Option LogEntry)) : (s.setLog l).ecc.merge = s.ecc.merge := by
  rw [State.setLog, State.setFld_ecc]

theorem State.updLog_merge (s : State) (cell : Nat) (f : LogEntry → LogEntry) : (s.updLog cell f).ecc.merge = s.ecc.merge := by
  unfold State.updLog
  split
  · exact State.setLog_merge s _
  · rfl

theorem State.dropBack_merge (s : State) (cell : Nat) : (s.dropBack cell).ecc.merge = s.ecc.merge := State.updLog_merge s cell _

theorem State.setSpare_merge (s : State) (i : Nat) (x : Spare) : (s.setSpare i x).ecc.merge = s.ecc.merge := by
  rw [State.setSpare, State.ecc_of_outside (State.showRemap_outside _ ⟨fun _ => trivial, trivial⟩)]

theorem State.storeCell_merge (s : State) (a prot : Nat) (poison : Bool) : (s.storeCell a prot poison).ecc.merge = s.ecc.merge := by
  unfold State.storeCell
  split
  · exact State.setSpare_merge s _ _
  · dsimp only
    split
    · rw [State.clear_ecc, State.clear_ecc]
      rfl
    · rfl

theorem State.readCell_merge (s : State) (a : Nat) (flips : List Nat) : (s.readCell a flips).2.ecc.merge = s.ecc.merge := by
  unfold State.readCell
  split
  · rfl
  · dsimp only
    split <;> rfl

theorem State.emitLimited_ecc (s : State) (type u key interval : Nat) (sideB : Bool) (now : Nat) (mk : Nat → List Int) :
    (s.emitLimited type u key interval sideB now mk).ecc = s.ecc :=
  State.ecc_of_outside (State.emitLimited_outside s type u key interval sideB now mk ⟨⟨rfl, rfl, rfl, trivial⟩, rfl⟩)

theorem State.logFull_merge (s : State) (ch : Nat) : (s.logFull ch).ecc.merge = s.ecc.merge := by
  unfold State.logFull
  extract_lets n due s₁ ecc s₂
  have h₁ : s₁.ecc = s.ecc := (State.raise_ecc _ _ _).trans (State.count_ecc _ _ _)
  have h : s₂.ecc.merge = s.ecc.merge := by
    change s₁.ecc.merge = _
    rw [h₁]
  split
  · rw [State.emitLimited_ecc, h]
  · exact h

theorem State.logError_merge (s : State) (cell synd source port prot : Nat) :
    (s.logError cell synd source port prot).ecc.merge = s.ecc.merge := by
  unfold State.logError
  extract_lets ch s₁ ecc s₂
  have h₁ : s₁.ecc = s.ecc := State.count_ecc _ _ _
  have h : s₂.ecc.merge = s.ecc.merge := by
    change s₁.ecc.merge = _
    rw [h₁]
  split
  · exact (State.setLog_merge s₂ _).trans h
  · split
    · rw [State.emit_ecc, State.setLog_merge, h]
    · rw [State.logFull_merge, h]

theorem State.remapCell_merge (s : State) (cell prot : Nat) (poison boot : Bool) :
    (s.remapCell cell prot poison boot).ecc.merge = s.ecc.merge := by
  unfold State.remapCell
  dsimp only
  split
  · rw [State.emit_ecc, State.updLog_merge, State.setSpare_merge]
  · rw [State.emit_ecc, State.updLog_merge, State.raise_ecc]

theorem State.reportUe_merge (s : State) (cell synd source port : Nat) : (s.reportUe cell synd source port).ecc.merge = s.ecc.merge := by
  rw [State.reportUe, State.emitSafetyHeld_ecc, State.raise_ecc, State.count_ecc]

theorem State.noteRead_merge (s : State) (cell source port : Nat) (r : Nat × CellClass × Nat) :
    (s.noteRead cell source port r).ecc.merge = s.ecc.merge := by
  unfold State.noteRead
  extract_lets hard logged reported
  split
  · rfl
  · split
    · rw [State.remapCell_merge, State.logError_merge]
    · exact State.logError_merge s _ _ _ _ _
  · rw [State.raise_ecc, State.count_ecc]
  · split
    · rw [State.remapCell_merge, State.reportUe_merge]
    · exact State.reportUe_merge s _ _ _ _

/-! ### Narrow writes, by whether the merge buffer holds the cell (R291) -/

/-- The state with another merge buffer. -/
def State.withMerge (s : State) (l : List MergeEntry) : State := { s with ecc := { s.ecc with merge := l } }

/-- A merge buffer of eight entries gives up its oldest. -/
def State.roomInMerge (s : State) : State :=
  if s.ecc.merge.length < 8 then s else match s.ecc.merge.head? with
    | some old => s.flushEntry old []
    | none => s

/-- A narrow write to a cell that the merge buffer holds is counted. -/
def State.mergesInto (s : State) (cell : Nat) : State := (s.dropBack cell).count Reg.ECC_RMW_CNT Fld.ECC_RMW_CNT_MERGED

/-- An entry with a further narrow write merged into it. -/
def MergeEntry.merged (e : MergeEntry) (data mask : Nat) : MergeEntry :=
  { e with data := mergeNibbles e.data data (mask % 2 ^ 60), mask := e.mask ||| mask % 2 ^ 60 }

theorem MergeEntry.cell_mk (cell data mask port : Nat) (t : Time) : (MergeEntry.mk cell data mask port t).cell = cell := rfl

theorem MergeEntry.merged_cell (e : MergeEntry) (data mask : Nat) : (e.merged data mask).cell = e.cell := by
  rw [MergeEntry.merged, MergeEntry.cell_mk]

/-- The entry of a first narrow write at time `t`. -/
def MergeEntry.first (port cell data mask : Nat) (t : Time) : MergeEntry :=
  { cell := cell, data := mergeNibbles 0 data (mask % 2 ^ 60), mask := mask % 2 ^ 60, port := port, at_ := t }

theorem narrowWrite_beyond {s : State} {cell : Nat} (h : dramCells s.fac.variant ≤ cell) (port data mask : Nat) :
    narrowWrite s port cell data mask = s := if_pos h

theorem narrowWrite_held {s : State} {cell : Nat} {e : MergeEntry} (h : ¬dramCells s.fac.variant ≤ cell)
    (he : (s.dropBack cell).ecc.merge.find? (fun e => e.cell == cell) = some e) (port data mask : Nat) :
    narrowWrite s port cell data mask =
      if (e.merged data mask).mask = allNibbles then fullCellWrite (s.mergesInto cell) e.port cell (e.merged data mask).data 0 false
      else (s.mergesInto cell).withMerge ((s.mergesInto cell).ecc.merge.map fun x => if x.cell = cell then e.merged data mask else x) := by
  rw [narrowWrite, if_neg h]
  simp only [he]
  rfl

theorem narrowWrite_new {s : State} {cell : Nat} (h : ¬dramCells s.fac.variant ≤ cell)
    (he : (s.dropBack cell).ecc.merge.find? (fun e => e.cell == cell) = none) (port data mask : Nat) :
    narrowWrite s port cell data mask =
      if mask % 2 ^ 60 = allNibbles then fullCellWrite (s.dropBack cell) port cell data 0 false
      else (s.dropBack cell).roomInMerge.withMerge
        ((s.dropBack cell).roomInMerge.ecc.merge ++ [.first port cell data mask (s.dropBack cell).roomInMerge.time]) := by
  rw [narrowWrite, if_neg h]
  simp only [he]
  rfl

/-- A byte's write to an empty merge buffer leaves an entry of its cell. -/
theorem narrowWrite_enters {s : State} {cell mask : Nat} (h : ¬dramCells s.fac.variant ≤ cell) (he : s.ecc.merge = [])
    (hm : mask % 2 ^ 60 ≠ allNibbles) (port data : Nat) : ∃ e ∈ (narrowWrite s port cell data mask).ecc.merge, e.cell = cell := by
  have hnone : (s.dropBack cell).ecc.merge.find? (fun e => e.cell == cell) = none := by rw [State.dropBack_merge, he]; rfl
  rw [narrowWrite_new h hnone, if_neg hm]
  exact ⟨_, List.mem_append_right _ (List.mem_singleton_self _), rfl⟩

/-! ### Writes within a set of cells -/

/-- A change within the cells of `K`: where the merge buffer has entries of `K` alone, no other cell changes, and it still has entries of
`K` alone. -/
def State.Within (K : Nat → Prop) (s t : State) : Prop :=
  (∀ e ∈ s.ecc.merge, K e.cell) → (∀ a, ¬K a → t.cellAt a = s.cellAt a) ∧ ∀ e ∈ t.ecc.merge, K e.cell

section
variable {K : Nat → Prop} {s t u : State}

theorem State.Within.refl (s : State) : State.Within K s s := fun h => ⟨fun _ _ => rfl, h⟩

theorem State.Within.trans (h : s.Within K t) (k : t.Within K u) : s.Within K u := by
  intro hs
  obtain ⟨hcells, hmerge⟩ := h hs
  obtain ⟨kcells, kmerge⟩ := k hmerge
  exact ⟨fun a ha => (kcells a ha).trans (hcells a ha), kmerge⟩

/-- What changes no cell outside `K` and adds no entry to the merge buffer is within `K`. -/
theorem State.Within.of_sub (hcells : ∀ a, ¬K a → t.cellAt a = s.cellAt a) (hmerge : t.ecc.merge ⊆ s.ecc.merge) : s.Within K t :=
  fun h => ⟨hcells, fun e he => h e (hmerge he)⟩

/-- A cell's note in the error log is no change of a cell. -/
theorem State.cellAt_noteRead (s : State) (cell source port : Nat) (r : Nat × CellClass × Nat) (a : Nat) :
    (s.noteRead cell source port r).cellAt a = s.cellAt a :=
  State.cellAt_of_outside (State.noteRead_outside s _ _ _ _ (by simp [Parts.butCells, Parts.all, Parts.emits])) a

theorem State.cellAt_dropBack (s : State) (cell a : Nat) : (s.dropBack cell).cellAt a = s.cellAt a :=
  State.cellAt_of_outside (State.dropBack_outside s cell ⟨rfl, trivial⟩) a

theorem State.cellAt_dropMerge (s : State) (cell a : Nat) : (s.dropMerge cell).cellAt a = s.cellAt a :=
  State.cellAt_of_outside (State.dropMerge_outside s cell rfl) a

theorem State.cellAt_count (s : State) (a : Nat) (f : Field) (b : Nat) : (s.count a f).cellAt b = s.cellAt b :=
  State.cellAt_of_outside (State.count_outside s a f trivial) b

/-- An entry's flush is within every set that has its cell. -/
theorem State.flushEntry_within (s : State) {e : MergeEntry} (h : K e.cell) (flips : List Nat) : s.Within K (s.flushEntry e flips) := by
  unfold State.flushEntry
  extract_lets s₁ p s₂ prot bad s₃
  have hsub : s₁.ecc.merge ⊆ s.ecc.merge := by
    rw [show s₁.ecc = (s.dropMerge e.cell).ecc from State.count_ecc _ _ _]
    exact List.filter_subset_self _
  have hmerge₂ : s₂.ecc.merge = s₁.ecc.merge := (State.noteRead_merge _ _ _ _ _).trans (State.readCell_merge _ _ _)
  have hcells₂ : ∀ a, a ≠ e.cell → s₂.cellAt a = s.cellAt a := fun a ha =>
    calc s₂.cellAt a = p.2.cellAt a := State.cellAt_noteRead _ _ _ _ _ a
      _ = s₁.cellAt a := State.cellAt_readCell_other s₁ ha flips
      _ = s.cellAt a := (State.cellAt_count _ _ _ a).trans (State.cellAt_dropMerge s _ a)
  have hmerge₃ : s₃.ecc.merge = s₂.ecc.merge := by
    unfold s₃
    split
    · rw [State.emitLimited_ecc, State.raise_ecc]
    · rfl
  have hcells₃ : ∀ a, s₃.cellAt a = s₂.cellAt a := by
    refine State.cellAt_of_outside ?_
    unfold s₃
    split
    · exact (State.emitLimited_outside _ _ _ _ _ _ _ _ ⟨⟨rfl, rfl, rfl, trivial⟩, rfl⟩).trans (State.raise_outside _ _ _ trivial)
    · rfl
  refine .of_sub (fun a ha => ?_) ?_
  · have hne : a ≠ e.cell := fun he => ha (he ▸ h)
    rw [State.cellAt_storeCell_other _ hne, State.cellAt_dropBack, hcells₃, hcells₂ a hne]
  · rw [State.storeCell_merge, State.dropBack_merge, hmerge₃, hmerge₂]
    exact hsub

/-- A whole cell's write is within every set that has the cell. -/
theorem fullCellWrite_within (s : State) {cell : Nat} (h : K cell) (port data attr : Nat) (poison : Bool) :
    s.Within K (fullCellWrite s port cell data attr poison) := by
  unfold fullCellWrite
  split
  · exact .refl s
  · refine .of_sub (fun a ha => ?_) ?_
    · have hne : a ≠ cell := fun e => ha (e ▸ h)
      rw [State.cellAt_storeCell_other _ hne]
      refine State.cellAt_of_outside ?_ a
      rw [State.dropBack_outside _ _ ⟨rfl, trivial⟩, State.dropMerge_outside _ _ rfl]
    · rw [State.storeCell_merge, State.dropBack_merge]
      exact List.filter_subset_self _

/-- A new merge buffer with entries of `K` alone is within `K`. -/
theorem State.withMerge_within {l : List MergeEntry} (h : (∀ e ∈ s.ecc.merge, K e.cell) → ∀ e ∈ l, K e.cell) :
    s.Within K (s.withMerge l) := fun hs => ⟨fun _ _ => rfl, h hs⟩

/-- What changes neither a cell nor the merge buffer is within every set. -/
theorem State.Within.of_same (hcells : ∀ a, t.cellAt a = s.cellAt a) (hmerge : t.ecc.merge = s.ecc.merge) : s.Within K t :=
  fun h => ⟨fun a _ => hcells a, hmerge ▸ h⟩

/-- The entry displaced is one of the merge buffer's. -/
theorem State.roomInMerge_within (s : State) : s.Within K s.roomInMerge := by
  intro hs
  unfold State.roomInMerge
  split
  · exact State.Within.refl s hs
  · split
    · next old hold => exact State.flushEntry_within s (hs old (List.mem_of_mem_head? hold)) [] hs
    · exact State.Within.refl s hs

theorem State.dropBack_within (s : State) (cell : Nat) : s.Within K (s.dropBack cell) :=
  .of_same (State.cellAt_dropBack s cell) (State.dropBack_merge s cell)

theorem State.mergesInto_within (s : State) (cell : Nat) : s.Within K (s.mergesInto cell) :=
  .of_same (fun a => (State.cellAt_count _ _ _ a).trans (State.cellAt_dropBack s cell a))
    (by rw [State.mergesInto, State.count_ecc, State.dropBack_merge])

/-- A narrow write is within every set that has its cell: it reaches the cell or the cell's entry, and an entry that it displaces. -/
theorem narrowWrite_within (s : State) {cell : Nat} (h : K cell) (port data mask : Nat) :
    s.Within K (narrowWrite s port cell data mask) := by
  by_cases hd : dramCells s.fac.variant ≤ cell
  · rw [narrowWrite_beyond hd]
    exact .refl s
  cases he : (s.dropBack cell).ecc.merge.find? (fun e => e.cell == cell) with
  | some e =>
    have hcell : e.cell = cell := by simpa using List.find?_some he
    rw [narrowWrite_held hd he]
    refine (s.mergesInto_within cell).trans ?_
    split
    · exact fullCellWrite_within _ h _ _ _ _
    · refine State.withMerge_within fun hs x hx => ?_
      obtain ⟨y, hy, rfl⟩ := List.mem_map.1 hx
      split
      · rw [MergeEntry.merged_cell, hcell]
        exact h
      · exact hs y hy
  | none =>
    rw [narrowWrite_new hd he]
    refine (s.dropBack_within cell).trans ?_
    split
    · exact fullCellWrite_within _ h _ _ _ _
    · refine (State.roomInMerge_within _).trans (State.withMerge_within fun hs x hx => ?_)
      rcases List.mem_append.1 hx with hx | hx
      · exact hs x hx
      · rw [List.mem_singleton.1 hx]
        exact h

end

end Sys2Proof.Machine
end

section
/-!
PROOF. Writes of BAR2, by where they fall; O60 settled.
-/
namespace Sys2Proof.Machine

/-! ### Writes of BAR2 (R8, R385) -/

/-- One cell of a BAR2 write of `data` at DRAM-space address `a`: the bytes that fall into the cell, as a narrow write. -/
def bar2Store (a : Nat) (data : List (BitVec 8)) (s : State) (i : Nat) : State :=
  let bytes := data.zipIdx.map (fun p => (a + p.2, p.1.toNat))
  let mine := (bytes.filter (fun p => p.1 / 32 == a / 32 + i)).map (fun p => byteIn p.1 p.2)
  let d : Nat := (mine.map (·.1)).foldl (· + ·) 0
  let m : Nat := (mine.map (·.2)).foldl (· + ·) 0
  if m = 0 then s else narrowWrite s 4 (a / 32 + i) d m

/-- Whether a BAR2 write ends within the host region and DRAM. -/
def State.inHostRegion (s : State) (a n : Nat) : Prop :=
  a < 32 * dramCells s.fac.variant ∧ s.host.hostBase * 2 ^ 20 ≤ a ∧ a + n ≤ s.host.hostBase * 2 ^ 20 + s.host.hostMib * 2 ^ 20

section
variable {s : State} {addr : Nat} {data : List (BitVec 8)}

theorem bar2Write_unreached (h : s.inBar2 addr data.length = false) : bar2Write s addr data = s := by
  simp [bar2Write, h]

theorem bar2Write_beyond (h : s.inBar2 addr data.length = true) (hd : 32 * dramCells s.fac.variant ≤ s.winAddr addr) :
    bar2Write s addr data = s.count Reg.DEV_ABSENT_WR word32 := by
  simp [bar2Write, h, hd]

theorem bar2Write_dropped (h : s.inBar2 addr data.length = true) (hd : s.winAddr addr < 32 * dramCells s.fac.variant)
    (ho : s.winAddr addr < s.host.hostBase * 2 ^ 20 ∨
      s.host.hostBase * 2 ^ 20 + s.host.hostMib * 2 ^ 20 < s.winAddr addr + data.length) :
    bar2Write s addr data = (s.count Reg.HIF_WIN_DROP word32).raise Reg.HIF_STAT Fld.HIF_STAT_WIN_WR_S := by
  rw [bar2Write]
  simp only [h, Nat.not_le.2 hd, ho, Bool.not_true, Bool.false_eq_true, if_false, if_true]

theorem bar2Write_inside (h : s.inBar2 addr data.length = true) (hr : s.inHostRegion (s.winAddr addr) data.length) :
    bar2Write s addr data =
      (List.range (bar2Count (s.winAddr addr) data.length)).foldl (bar2Store (s.winAddr addr) data) s := by
  obtain ⟨hd, hlo, hhi⟩ := hr
  have hin : ¬(s.winAddr addr < s.host.hostBase * 2 ^ 20 ∨
      s.host.hostBase * 2 ^ 20 + s.host.hostMib * 2 ^ 20 < s.winAddr addr + data.length) := by omega
  rw [bar2Write]
  simp only [h, Nat.not_le.2 hd, hin, Bool.not_true, Bool.false_eq_true, if_false]
  rfl

end

/-- Every part, and of the registers those from the protection unit's block on, and the count of lost records. -/
def Parts.bar2Store : Parts := { Parts.all with regs := fun r => 0x44000 ≤ r ∨ r = Reg.DEV_EV_LOST }

/-- A cell of a BAR2 write writes no register below the protection unit's block, but DEV_EV_LOST. -/
theorem bar2Store_outside (a : Nat) (data : List (BitVec 8)) (s : State) (i : Nat) :
    (bar2Store a data s i).outside Parts.bar2Store = s.outside Parts.bar2Store := by
  unfold bar2Store
  extract_lets bytes mine d m
  split
  · rfl
  · have hecc : ∀ {r}, 0x44000 ≤ r → Parts.bar2Store.regs r := Or.inl
    have hremap : ∀ n, 0x44000 ≤ Reg.ECC_REMAP n := fun n => Nat.le_trans (by decide) (Nat.le_add_right _ _)
    exact narrowWrite_outside _ _ _ _ _ ⟨⟨rfl, rfl, rfl, .inr rfl⟩, rfl, hecc (by decide), rfl, hecc (by decide), rfl,
      hecc (by decide), hecc (by decide), hecc (by decide), fun n => hecc (hremap n), hecc (by decide), hecc (by decide),
      hecc (by decide)⟩

/-- The cells of a BAR2 write stay within every set that has them. -/
theorem bar2Store_within {K : Nat → Prop} {a : Nat} {data : List (BitVec 8)} {l : List Nat} (h : ∀ i ∈ l, K (a / 32 + i))
    (s : State) : s.Within K (l.foldl (bar2Store a data) s) := by
  induction l generalizing s with
  | nil => exact .refl s
  | cons i l ih =>
    refine State.Within.trans ?_ (ih (fun j hj => h j (List.mem_cons_of_mem i hj)) _)
    unfold bar2Store
    extract_lets bytes mine d m
    split
    · exact .refl s
    · exact narrowWrite_within s (h i List.mem_cons_self) _ _ _

/-- A byte of the data bytes of a cell has two of its nibbles in the mask, which is not all of them. -/
theorem byteIn_mask {k : Nat} (h : k < 30) : 3 * 2 ^ (2 * k) ≠ 0 ∧ 3 * 2 ^ (2 * k) % 2 ^ 60 ≠ allNibbles := by
  have hpos : 0 < 2 ^ (2 * k) := by positivity
  have hle : 2 ^ (2 * k) ≤ 2 ^ 58 := Nat.pow_le_pow_right (by decide) (by omega)
  generalize 2 ^ (2 * k) = x at hpos hle ⊢
  have hx : 3 * x % 2 ^ 60 = 3 * x := Nat.mod_eq_of_lt (by omega)
  rw [hx]
  have hall : allNibbles = 1152921504606846975 := by decide
  omega

/-- A byte's write into a data byte of a cell is a narrow write of the cell. -/
theorem bar2Store_byte {a : Nat} (h : a % 32 < 30) (x : BitVec 8) (s : State) :
    bar2Store a [x] s 0 = narrowWrite s 4 (a / 32) (x.toNat * 2 ^ (8 * (a % 32))) (3 * 2 ^ (2 * (a % 32))) := by
  simp [bar2Store, byteIn, h]

/-- A BAR2 write changes no cell but those it covers and those of the merge entries there were. -/
theorem bar2Write_cellAt (s : State) (addr : Nat) (data : List (BitVec 8)) {a : Nat} (hm : ∀ e ∈ s.ecc.merge, e.cell ≠ a)
    (hc : ¬(s.winAddr addr / 32 ≤ a ∧ a ≤ (s.winAddr addr + data.length - 1) / 32)) :
    (bar2Write s addr data).cellAt a = s.cellAt a := by
  cases hin : s.inBar2 addr data.length with
  | false => rw [bar2Write_unreached hin]
  | true =>
    by_cases hd : 32 * dramCells s.fac.variant ≤ s.winAddr addr
    · rw [bar2Write_beyond hin hd, State.cellAt_count]
    by_cases ho : s.winAddr addr < s.host.hostBase * 2 ^ 20 ∨
        s.host.hostBase * 2 ^ 20 + s.host.hostMib * 2 ^ 20 < s.winAddr addr + data.length
    · rw [bar2Write_dropped hin (Nat.not_le.1 hd) ho]
      exact State.cellAt_of_outside ((State.raise_outside _ _ _ trivial).trans (State.count_outside _ _ _ trivial)) a
    · rw [bar2Write_inside hin ⟨by omega, by omega, by omega⟩]
      have hwithin := bar2Store_within (K := fun c => (∃ e ∈ s.ecc.merge, e.cell = c) ∨
          (s.winAddr addr / 32 ≤ c ∧ c ≤ (s.winAddr addr + data.length - 1) / 32)) (a := s.winAddr addr)
        (data := data) (l := List.range (bar2Count (s.winAddr addr) data.length))
        (fun i hi => .inr (by have := List.mem_range.1 hi; unfold bar2Count at this; omega)) s
      refine (hwithin fun e he => .inl ⟨e, he, rfl⟩).1 a ?_
      rintro (⟨e, he, rfl⟩ | hcov)
      · exact hm e he rfl
      · exact hc hcov

/-- A BAR2 write is the command's answer. -/
theorem bar2Write_answers (s : State) (addr : Nat) (data : List (BitVec 8)) :
    exec (.bar2Write addr data) s = .next (bar2Write s addr data) :=
  State.effect_of_outside (P := Parts.all) (bar2Write_outside s addr data (by simp [Parts.all, Parts.emits]))

/-- A BAR2 write below the host region is counted and stores nothing. -/
theorem bar2Write_below {s : State} {addr : Nat} {data : List (BitVec 8)} (h : s.inBar2 addr data.length = true)
    (hd : s.winAddr addr < 32 * dramCells s.fac.variant) (hb : s.winAddr addr < s.host.hostBase * 2 ^ 20) :
    (bar2Write s addr data).cells = s.cells ∧
      (bar2Write s addr data).fld Reg.HIF_WIN_DROP word32 = satInc 32 (s.fld Reg.HIF_WIN_DROP word32) := by
  have hne : Reg.HIF_WIN_DROP ≠ Reg.HIF_STAT := by decide
  rw [bar2Write_dropped h hd (.inl hb)]
  refine ⟨by rw [State.raise_cells, State.count_cells], ?_⟩
  rw [State.raise, State.fld_setFld_other _ hne]
  exact s.fld_count_self Reg.HIF_WIN_DROP word32_inWord

/-- A BAR2 write inside the host region is counted as none that was dropped. -/
theorem bar2Write_inside_reg {s : State} {addr : Nat} {data : List (BitVec 8)} (h : s.inBar2 addr data.length = true)
    (hr : s.inHostRegion (s.winAddr addr) data.length) {r : Nat} (hlo : r < 0x44000) (hne : r ≠ Reg.DEV_EV_LOST) :
    (bar2Write s addr data).reg r = s.reg r := by
  have hfold := State.foldl_outside (bar2Store_outside (s.winAddr addr) data)
    (List.range (bar2Count (s.winAddr addr) data.length)) s
  rw [bar2Write_inside h hr]
  exact (State.sameBut_of_outside hfold).reg r (by rintro (hle | heq); exacts [Nat.not_le.2 hlo hle, hne heq])

/-- A byte written inside the host region leaves the entry of its cell in an empty merge buffer (R291). -/
theorem bar2Write_byte_enters {s : State} {addr : Nat} {data : List (BitVec 8)} (h : s.inBar2 addr data.length = true)
    (hr : s.inHostRegion (s.winAddr addr) data.length) (h1 : data.length = 1) (hk : s.winAddr addr % 32 < 30)
    (he : s.ecc.merge = []) : ∃ e ∈ (bar2Write s addr data).ecc.merge, e.cell = s.winAddr addr / 32 := by
  obtain ⟨x, rfl⟩ := List.length_eq_one_iff.1 h1
  have hone : bar2Count (s.winAddr addr) [x].length = 1 := by
    rw [h1, bar2Count, Nat.add_sub_cancel]
    omega
  have hcell : ¬dramCells s.fac.variant ≤ s.winAddr addr / 32 := by
    have := hr.1
    omega
  rw [bar2Write_inside h hr, hone, List.range_one, List.foldl_cons, List.foldl_nil, bar2Store_byte hk]
  exact narrowWrite_enters hcell he (byteIn_mask hk).2 _ _

/-- Settles O60: each meaning has a frame, so it is the command's answer, and the lemmas on the link, on MSI-X and on the window say
what it leaves; a BAR2 write is a row of narrow writes, each of which reaches its own cell and entries of the merge buffer alone. -/
theorem hostLink : Obligations.HostLink := by
  unfold Obligations.HostLink
  refine ⟨?l0, ?down, ?back, ?d3hot, ?sent, ?masked, ?read, ?below, ?beyond, ?inside, ?cells⟩
  case l0 =>
    intro s hh he hp
    exact ⟨_, State.effect_of_outside (P := Parts.all) (pcieL0_outside s ⟨rfl, trivial, rfl, rfl, rfl, rfl⟩),
      pcieL0_attaches hh he hp⟩
  case down =>
    intro s hh
    exact ⟨_, State.effect_of_outside (P := Parts.all) (pcieLinkDown_outside s ⟨trivial, trivial⟩), pcieLinkDown_ends hh⟩
  case back =>
    intro s he
    refine ⟨_, State.effect_of_outside (P := Parts.all) (pcieLinkReturn_outside s trivial), ?_⟩
    rw [pcieLinkReturn, if_pos he]
    exact State.flag_raise _ _ ⟨by decide, by decide⟩
  case d3hot =>
    intro s enter hh
    exact ⟨_, State.effect_of_outside (P := Parts.all) (d3hotEntry_outside s enter ⟨rfl, trivial⟩), d3hotEntry_shows hh enter⟩
  case sent =>
    intro s v hv hup hp hd hon hf hm
    refine ⟨_, State.effect_of_outside (P := Parts.all) (msixSend_outside s v ⟨rfl, trivial, rfl⟩), ?_⟩
    rw [msixSend_due hv hup hp hd, State.sendMsix_unmasked hon hf hm]
    exact ⟨rfl, congrArg MsiVec.pending (s.msiU_setMsi_self v {})⟩
  case masked =>
    intro s v hv hup hp hd hon hm
    refine ⟨_, State.effect_of_outside (P := Parts.all) (msixSend_outside s v ⟨rfl, trivial, rfl⟩), ?_⟩
    rw [msixSend_due hv hup hp hd, State.sendMsix_masked hon hm, State.setBit_out]
    exact ⟨rfl, State.regBit_setBit _ _ (by omega)⟩
  case read =>
    intro s addr size hin
    exact ⟨_, State.effect_of_outside (P := Parts.all) (bar2Read_outside s addr size (by simp [Parts.all, Parts.emits])),
      bar2Read_length hin⟩
  case below =>
    intro s addr data hin hd hb
    exact ⟨_, bar2Write_answers s addr data, bar2Write_below hin hd hb⟩
  case beyond =>
    intro s addr data hin hd
    refine ⟨_, bar2Write_answers s addr data, ?_⟩
    rw [bar2Write_beyond hin hd]
    exact ⟨State.count_cells _ _ _, s.fld_count_self Reg.DEV_ABSENT_WR word32_inWord⟩
  case inside =>
    intro s addr data hin hd hlo hhi
    have hpos := s.inBar2_pos hin
    have hr : s.inHostRegion (s.winAddr addr) data.length := ⟨by omega, hlo, hhi⟩
    exact ⟨_, bar2Write_answers s addr data, bar2Write_inside_reg hin hr (by decide) (by decide),
      bar2Write_inside_reg hin hr (by decide) (by decide), bar2Write_byte_enters hin hr⟩
  case cells =>
    intro s addr data
    exact ⟨_, bar2Write_answers s addr data, fun _ hm hc => bar2Write_cellAt s addr data hm hc⟩

end Sys2Proof.Machine
end

section
/-!
PROOF. What the judgement of channels by SMON reaches of the registers: none from the P-channels' blocks on. The frame lemmas name
FP_UTIL of every number; the packets of a completion leave by ports 0 to 3 alone.
-/
namespace Sys2Proof.Machine

/-- The parts that SMON's judgement and an entry to SAFE reach; of the registers, those below the P-channels' blocks. -/
def Parts.safety : Parts :=
  { regs := fun r => r < 0x10000, recs := true, classLost := true, rate := true, out := true, host := true, mode := true,
    smon := true, trust := true, fab := true, fresh := true, port := true }

theorem Parts.safety_regs {r : Nat} (h : r < 0x10000) : Parts.safety.regs r := h

theorem Parts.safety_emits : Parts.safety.emits := ⟨rfl, rfl, rfl, Parts.safety_regs (by decide)⟩

/-! ### What a port sends -/

section
variable {p : Nat} (hp : p < 4)
include hp

theorem State.rollUtil_safety (s : State) : (s.rollUtil p).outside Parts.safety = s.outside Parts.safety := by
  have hreg : Parts.safety.regs (Reg.FP_UTIL p) := Parts.safety_regs (by unfold Reg.FP_UTIL; omega)
  have hport : Parts.safety.port = true := rfl
  simp only [State.rollUtil, State.outside_ite, State.setReg_outside hreg, State.setPort_outside, hport, ite_self]

theorem State.sendFlit_safety (s : State) (v bits : Nat) (poison header : Bool) :
    (s.sendFlit p v bits poison header).outside Parts.safety = s.outside Parts.safety := by
  have hnote : (s.noteFlits p 1 0).outside Parts.safety = s.outside Parts.safety :=
    (State.setPort_outside _ _ _ rfl).trans (State.rollUtil_safety hp s)
  exact (State.put_outside _ _ rfl).trans ((State.setPort_outside _ _ _ rfl).trans hnote)

theorem State.servePort_safety (s : State) (fuel : Nat) :
    (s.servePort p fuel).outside Parts.safety = s.outside Parts.safety := by
  induction fuel generalizing s with
  | zero => rfl
  | succ fuel ih =>
    rw [State.servePort]
    dsimp only
    split
    · rfl
    split
    · rw [ih, State.setPort_outside _ _ _ rfl]
    · rw [State.outside_ite, ih, State.sendFlit_safety hp, State.setPort_outside _ _ _ rfl, ite_self]
    · split
      · rfl
      · rw [ih, State.sendFlit_safety hp, State.leaveQueue_outside _ _ rfl, State.setPort_outside _ _ _ rfl]

theorem State.enqueue_safety (s : State) (inp : Nat) (pk : Packet) :
    (s.enqueue p inp pk).outside Parts.safety = s.outside Parts.safety := by
  have hdrop : Parts.safety.regs Reg.FAB_DROP := Parts.safety_regs (by decide)
  have hport : Parts.safety.port = true := rfl
  simp only [State.enqueue, State.enqueueAs, State.outside_ite, State.leaveQueue_outside, State.count_outside _ _ _ hdrop,
    State.servePort_safety hp, State.setPort_outside, hport, ite_self]

end

/-! ### Packets that this device sends -/

theorem State.foldl_outside_of_mem {α : Type} {P : Parts} {f : State → α → State} {l : List α}
    (h : ∀ s, ∀ x ∈ l, (f s x).outside P = s.outside P) (s : State) : (l.foldl f s).outside P = s.outside P := by
  induction l generalizing s with
  | nil => rfl
  | cons x l ih =>
    rw [List.foldl_cons, ih (fun s y hy => h s y (List.mem_cons_of_mem x hy)), h s x List.mem_cons_self]

theorem State.upPorts_lt {s : State} {p : Nat} (h : p ∈ s.upPorts) : p < 4 :=
  List.mem_range.1 (List.mem_of_mem_filter h)

theorem State.treePorts_lt {s : State} {p : Nat} (h : p ∈ s.treePorts) : p < 4 := by
  unfold State.treePorts at h
  split at h <;> exact State.upPorts_lt (List.mem_of_mem_filter h)

theorem State.routePort_lt {s : State} {epoch dst p : Nat} (h : s.routePort epoch dst = some p) : p < 4 := by
  simp only [State.routePort] at h
  split at h
  · exact Option.some.inj h ▸ Nat.mod_lt _ (by decide)
  · cases h

theorem State.inject_safety (s : State) (pk : Packet) : (s.inject pk).outside Parts.safety = s.outside Parts.safety := by
  have hput : ∀ o, (s.put o).outside Parts.safety = s.outside Parts.safety := fun o => State.put_outside s o rfl
  unfold State.inject
  dsimp only
  split
  · exact (State.enqueue_safety (Nat.mod_lt _ (by decide)) _ _ _).trans (hput _)
  · split
    · exact (State.foldl_outside_of_mem (fun u q hq => State.enqueue_safety (State.treePorts_lt hq) u 4 _) _).trans (hput _)
    · split
      · next hport => exact (State.enqueue_safety (State.routePort_lt hport) _ _ _).trans (hput _)
      · exact hput _

theorem State.pumpRequests_safety (s : State) : s.pumpRequests.outside Parts.safety = s.outside Parts.safety := by
  refine State.foldl_outside (fun u r => ?_) _ s
  dsimp only
  rw [State.outside_ite, State.inject_safety, State.outside_fab rfl, ite_self]

theorem State.request_safety (s : State) (client : Client) (pk : Packet) :
    (s.request client pk).outside Parts.safety = s.outside Parts.safety := by
  rw [State.request, State.requestKeyed, State.pumpRequests_safety, State.outside_fab rfl, State.outside_fab rfl]

theorem State.sendEvent_safety (s : State) (home : Nat) (r : Rec) :
    (s.sendEvent home r).outside Parts.safety = s.outside Parts.safety := by
  rw [State.sendEvent, State.request_safety, State.outside_host rfl, State.put_outside _ _ rfl, State.freeNat_outside _ _ rfl,
    State.freeNat_outside _ _ rfl]

theorem State.setInflight_safety (s : State) (l : List InFlight) :
    (s.setInflight l).outside Parts.safety = s.outside Parts.safety :=
  State.setInflight_outside s l ⟨rfl, Parts.safety_regs (by decide)⟩

theorem State.settle_safety (s : State) (src : CmdSrc) (opcode tag : Nat) (c : Completion) :
    (s.settle src opcode tag c).outside Parts.safety = s.outside Parts.safety := by
  cases src with
  | remote dev => exact State.foldl_outside (fun u r => State.sendEvent_safety u dev _) _ s
  | ring =>
    simp only [State.settle]
    split
    · exact State.setInflight_safety s _
    · rw [State.outside_ite, State.setInflight_safety, ite_self]

/-! ### An entry to SAFE -/

theorem State.beginChange_safety (s : State) (target cause trig : Nat) (cmd : Option (CmdSrc × Nat)) :
    (s.beginChange target cause trig cmd).outside Parts.safety = s.outside Parts.safety :=
  State.beginChange_outside s target cause trig cmd ⟨rfl, Parts.safety_regs (by decide)⟩

theorem State.modeCmdNow_safety (s : State) (src : CmdSrc) (tag target : Nat) (exit : Bool) :
    (s.modeCmdNow src tag target exit).outside Parts.safety = s.outside Parts.safety := by
  have hpacer : Parts.safety.regs Reg.PACER_STAT := Parts.safety_regs (by decide)
  have haccept : ∀ u : State, (u.accept src opModeSet tag 0).outside Parts.safety = u.outside Parts.safety :=
    fun u => State.accept_outside u _ _ _ _ ⟨rfl, Parts.safety_regs (by decide)⟩
  cases exit <;>
    simp only [State.modeCmdNow, State.safeExitNow, State.modeSetNow, State.outside_ite, State.settle_safety, haccept,
      State.beginChange_safety, State.raise_outside _ _ _ hpacer, ite_self]

theorem takeCmds_safety (l : List (CmdSrc × Nat × Nat × Bool)) (s : State) :
    (takeCmds l s).outside Parts.safety = s.outside Parts.safety := by
  induction l generalizing s with
  | nil => exact State.outside_mode rfl s _
  | cons c l ih =>
    obtain ⟨src, tag, target, exit⟩ := c
    have hmode : Parts.safety.mode = true := rfl
    simp only [takeCmds, State.outside_ite, State.outside_mode, hmode, ih, State.modeCmdNow_safety, ite_self]

/-- The BURST trigger that waits is taken up, the second stage of `State.takeWaiting`. -/
def State.takeBurst (s : State) : State :=
  let w := s.burstWaiting
  let s := { s with mode := { s.mode with waitBurst := none, gate := if s.curMode = modeVigil then s.mode.gate else [] } }
  match w with | some t => s.burstTrigger t | none => s

/-- The WAKE trigger that waits is taken up, the third stage. -/
def State.takeWake (s : State) : State :=
  let w := s.mode.waitWake
  let s := { s with mode := { s.mode with waitWake := none } }
  match w with | some t => s.wakeTrigger t | none => s

/-- The mode timer that waits is taken up, the fourth stage. -/
def State.takeTimer (s : State) : State :=
  let w := s.mode.waitTimer
  let s := { s with mode := { s.mode with waitTimer := false } }
  if w then s.timerWake else s

/-- PACER's change that waits is taken up, the last stage. -/
def State.takePacer (s : State) : State :=
  let w := s.mode.waitPacer
  let s := { s with mode := { s.mode with waitPacer := false } }
  if w then s.pacerChange else s

/-- A stage, unless a change has begun. -/
def State.unlessChanging (f : State → State) (s : State) : State := if s.changing then s else f s

theorem State.takeWaiting_eq (s : State) : s.takeWaiting =
    State.unlessChanging State.takePacer (State.unlessChanging State.takeTimer
      (State.unlessChanging State.takeWake (State.unlessChanging State.takeBurst (takeCmds s.mode.waitCmd s)))) := rfl

theorem State.unlessChanging_outside {P : Parts} {f : State → State} (h : ∀ s, (f s).outside P = s.outside P) (s : State) :
    (State.unlessChanging f s).outside P = s.outside P := by
  rw [State.unlessChanging, State.outside_ite, h, ite_self]

theorem State.withMode_safety (s : State) (m : ModeUnit) :
    ({ s with mode := m } : State).outside Parts.safety = s.outside Parts.safety :=
  State.outside_mode rfl s m

theorem State.takeBurst_safety (s : State) : s.takeBurst.outside Parts.safety = s.outside Parts.safety := by
  simp only [State.takeBurst]
  cases s.burstWaiting with
  | none => exact s.withMode_safety _
  | some t =>
    exact (State.burstTrigger_outside _ t ⟨Parts.safety_emits, rfl, Parts.safety_regs (by decide), rfl,
      Parts.safety_regs (by decide)⟩).trans (s.withMode_safety _)

theorem State.takeWake_safety (s : State) : s.takeWake.outside Parts.safety = s.outside Parts.safety := by
  simp only [State.takeWake]
  cases s.mode.waitWake with
  | none => exact s.withMode_safety _
  | some t =>
    exact (State.wakeTrigger_outside _ t ⟨Parts.safety_emits, rfl, Parts.safety_regs (by decide)⟩).trans (s.withMode_safety _)

theorem State.takeTimer_safety (s : State) : s.takeTimer.outside Parts.safety = s.outside Parts.safety := by
  simp only [State.takeTimer]
  split
  · exact (State.timerWake_outside _ ⟨Parts.safety_emits, rfl, Parts.safety_regs (by decide)⟩).trans (s.withMode_safety _)
  · exact s.withMode_safety _

theorem State.takePacer_safety (s : State) : s.takePacer.outside Parts.safety = s.outside Parts.safety := by
  simp only [State.takePacer]
  split
  · exact (State.pacerChange_outside _ ⟨rfl, Parts.safety_regs (by decide)⟩).trans (s.withMode_safety _)
  · exact s.withMode_safety _

theorem State.takeWaiting_safety (s : State) : s.takeWaiting.outside Parts.safety = s.outside Parts.safety := by
  rw [State.takeWaiting_eq, State.unlessChanging_outside State.takePacer_safety,
    State.unlessChanging_outside State.takeTimer_safety, State.unlessChanging_outside State.takeWake_safety,
    State.unlessChanging_outside State.takeBurst_safety, takeCmds_safety]

theorem State.safeRequest_safety (s : State) : s.safeRequest.outside Parts.safety = s.outside Parts.safety := by
  have hstat : Parts.safety.regs Reg.MODE_STAT := Parts.safety_regs (by decide)
  have hmode : Parts.safety.mode = true := rfl
  simp only [State.safeRequest, State.outside_ite, State.takeWaiting_safety, State.setFld_outside _ _ _ _ hstat,
    State.raise_outside _ _ _ hstat, State.clear_outside _ _ _ hstat, State.outside_mode, hmode, ite_self]
  split
  · exact State.settle_safety _ _ _ _ _
  · rfl

theorem State.enterSafe_safety (s : State) (c rule unit : Nat) :
    (s.enterSafe c rule unit).outside Parts.safety = s.outside Parts.safety := by
  have hstat : Parts.safety.regs Reg.SAF_STAT := Parts.safety_regs (by decide)
  have hcnt : Parts.safety.regs Reg.SAF_CNT := Parts.safety_regs (by decide)
  have hsmon : Parts.safety.smon = true := rfl
  simp only [State.enterSafe, State.outside_ite, State.emit_outside _ _ _ _ Parts.safety_emits, State.safeRequest_safety,
    State.count_outside _ _ _ hcnt, State.raise_outside _ _ _ hstat, State.driveSafeN_outside _ _ ⟨hsmon, hstat⟩,
    State.outside_smon hsmon, ite_self]

theorem State.raiseCause_safety (s : State) (c rule unit : Nat) :
    (s.raiseCause c rule unit).outside Parts.safety = s.outside Parts.safety := by
  have hsticky : Parts.safety.regs Reg.SAF_CAUSE_S := Parts.safety_regs (by decide)
  have hcause : Parts.safety.regs Reg.SAF_CAUSE := Parts.safety_regs (by decide)
  simp only [State.raiseCause, State.outside_ite, State.enterSafe_safety, State.setBit_outside _ _ _ _ hsticky,
    State.setBit_outside _ _ _ _ hcause, ite_self]

theorem State.verifyP_safety (s : State) (n : Nat) : (s.verifyP n).outside Parts.safety = s.outside Parts.safety := by
  have hjudge : (s.judge n).outside Parts.safety = s.outside Parts.safety :=
    State.judge_outside s n ⟨Parts.safety_emits, rfl, Parts.safety_regs (by decide), Parts.safety_regs (by decide),
      Parts.safety_regs (by decide)⟩
  unfold State.verifyP State.judgeChannelCause
  split
  · refine Eq.trans ?_ hjudge
    split
    · rw [State.outside_ite, State.dropCause_outside _ _ (Parts.safety_regs (by decide)), ite_self]
    · split
      · exact State.raiseCause_safety _ _ _ _
      · rfl
  · rfl

theorem State.verifyDriver_safety (s : State) (k : Nat) : (s.verifyDriver k).outside Parts.safety = s.outside Parts.safety := by
  refine State.foldl_outside (fun u j => ?_) _ s
  dsimp only
  rw [State.outside_ite, State.verifyP_safety, ite_self]

/-- The judgement of a channel changes SMON's own parts and registers below the P-channels' blocks alone. -/
theorem State.verifyP_sameBut (s : State) (n : Nat) : s.SameBut Parts.safety (s.verifyP n) :=
  State.sameBut_of_outside (s.verifyP_safety n)

/-- The same for the judgement of a driver's channels. -/
theorem State.verifyDriver_sameBut (s : State) (k : Nat) : s.SameBut Parts.safety (s.verifyDriver k) :=
  State.sameBut_of_outside (s.verifyDriver_safety k)

end Sys2Proof.Machine
end

section
/-!
PROOF. What reads of fields and of the units kept in stores return after the updates of Machine/State.lean.
-/
namespace Sys2Proof.Machine

/-! ### Fields of one register -/

section
variable (s : State) {a b : Nat} {f g : Field}

theorem State.fld_congr {s t : State} {a : Nat} (h : t.reg a = s.reg a) (f : Field) : t.fld a f = s.fld a f := by
  rw [State.fld, State.fld, h]

theorem State.flag_setFld_apart (hf : Field.inWord f) (hg : g.lo ≤ g.hi) (ha : f.hi < g.lo ∨ g.hi < f.lo) (v : Nat) :
    (s.setFld a f v).flag a g = s.flag a g := by
  rw [State.flag, s.fld_setFld_apart a hf hg ha, State.flag]

theorem State.flag_raise_apart (hf : Field.inWord f) (hg : g.lo ≤ g.hi) (ha : f.hi < g.lo ∨ g.hi < f.lo) :
    (s.raise a f).flag a g = s.flag a g :=
  s.flag_setFld_apart hf hg ha 1

theorem State.flag_clear_apart (hf : Field.inWord f) (hg : g.lo ≤ g.hi) (ha : f.hi < g.lo ∨ g.hi < f.lo) :
    (s.clear a f).flag a g = s.flag a g :=
  s.flag_setFld_apart hf hg ha 0

theorem State.flag_clear (hf : Field.inWord f) : (s.clear a f).flag a f = false := by
  rw [State.flag, s.fld_clear a hf]
  rfl

end

/-! ### Commands that do nothing while BOOT has failed -/

/-- A row that BOOT's failure would stop answers with its meaning. -/
theorem State.answer_open {P : Parts} {s u : State} (hb : s.bootFailed = false) (h : u.outside P = s.outside P) :
    s.effect (s.whenOpen u) = .next u := by
  have hopen : s.whenOpen u = u := by simp [State.whenOpen, hb]
  rw [hopen]
  exact State.effect_of_outside h

/-! ### Excitation drivers -/

section
variable (s : State) (k : Nat) (x : Exc)

theorem State.excU_setExc (j : Nat) : (s.setExc k x).excU j = if j = k then x else s.excU j := Store.get_set _ _ _ _ _

@[simp] theorem State.excU_setExc_self : (s.setExc k x).excU k = x := Store.get_set_self _ _ _ _

theorem State.excU_setExc_other {j : Nat} (h : j ≠ k) : (s.setExc k x).excU j = s.excU j := Store.get_set_other _ _ h _

@[simp] theorem State.reg_setExc (a : Nat) : (s.setExc k x).reg a = s.reg a := rfl
@[simp] theorem State.fld_setExc (a : Nat) (f : Field) : (s.setExc k x).fld a f = s.fld a f := rfl

@[simp] theorem State.excU_raise (a : Nat) (f : Field) : (s.raise a f).excU k = s.excU k := rfl
@[simp] theorem State.excU_count (a : Nat) (f : Field) : (s.count a f).excU k = s.excU k := rfl

theorem State.excU_congr {s t : State} (h : t.exc = s.exc) (k : Nat) : t.excU k = s.excU k := by
  rw [State.excU, State.excU, h]

theorem hasExc_lt {v : Variant} {k : Nat} (h : hasExc v k = true) : k < 16 := by
  simp only [hasExc, Bool.and_eq_true, decide_eq_true_eq] at h
  exact h.1

theorem excCtrl_ne_excStat (j k : Nat) : Reg.EXC_CTRL j ≠ Reg.EXC_STAT k := by
  unfold Reg.EXC_CTRL Reg.EXC_STAT
  omega

theorem excLevel_ne_excStat (j k : Nat) : Reg.EXC_LEVEL j ≠ Reg.EXC_STAT k := by
  unfold Reg.EXC_LEVEL Reg.EXC_STAT
  omega

theorem excStat_ne_excLevel (j k : Nat) : Reg.EXC_STAT j ≠ Reg.EXC_LEVEL k := (excLevel_ne_excStat k j).symm

theorem excCtrl_ne_excLevel (j k : Nat) : Reg.EXC_CTRL j ≠ Reg.EXC_LEVEL k := by
  unfold Reg.EXC_CTRL Reg.EXC_LEVEL
  omega

theorem excStat_injective {j k : Nat} (h : j ≠ k) : Reg.EXC_STAT j ≠ Reg.EXC_STAT k := by
  unfold Reg.EXC_STAT
  omega

/-- The present mode of a driver depends on MODE and SHUTDOWN alone. -/
theorem State.excMode_congr {s t : State} {k : Nat}
    (hstat : t.flag (Reg.EXC_STAT k) Fld.EXC_STAT_SHUTDOWN = s.flag (Reg.EXC_STAT k) Fld.EXC_STAT_SHUTDOWN)
    (hctrl : t.reg (Reg.EXC_CTRL k) = s.reg (Reg.EXC_CTRL k)) : t.excMode k = s.excMode k := by
  rw [State.excMode, State.excMode, hstat, State.fld_congr hctrl]

end

/-! ### Ramps (R37) -/

section
variable (s : State) (k level : Nat)

/-- Of the registers, the start of a ramp changes EXC_STAT.RAMP alone. -/
theorem State.reg_startRamp (a : Nat) : (s.startRamp k level).reg a = (s.raise (Reg.EXC_STAT k) Fld.EXC_STAT_RAMP).reg a := rfl

theorem State.reg_startRamp_other {a : Nat} (h : a ≠ Reg.EXC_STAT k) : (s.startRamp k level).reg a = s.reg a :=
  (s.reg_startRamp k level a).trans (s.reg_raise_other h _)

theorem State.flag_startRamp_ramp : (s.startRamp k level).flag (Reg.EXC_STAT k) Fld.EXC_STAT_RAMP = true :=
  State.flag_raise _ _ ⟨by decide, by decide⟩

theorem State.flag_startRamp_apart {f : Field} (hf : f.lo ≤ f.hi) (ha : 8 < f.lo ∨ f.hi < 8) :
    (s.startRamp k level).flag (Reg.EXC_STAT k) f = s.flag (Reg.EXC_STAT k) f :=
  State.flag_raise_apart _ ⟨by decide, by decide⟩ hf ha

theorem State.excU_startRamp_self : (s.startRamp k level).excU k =
    { s.excU k with rampDue := false, target := s.fld (Reg.EXC_LEVEL k) Fld.EXC_LEVEL_VSET, rampFrom := level, rampCyc := s.cycles } := by
  simp only [State.startRamp, State.excU_raise, State.excU_setExc_self, State.takeLevel]
  rfl

theorem State.excU_startRamp_other {j : Nat} (h : j ≠ k) : (s.startRamp k level).excU j = s.excU j := by
  simp only [State.startRamp, State.excU_raise, State.excU_setExc_other _ _ _ h, State.takeLevel]

end

end Sys2Proof.Machine
end

section
/-!
PROOF. The level of an excitation driver: what a write of VSET leaves, by the row of its own and as a write of the register; O13 settled.
-/
namespace Sys2Proof.Machine

/-- The registers as a write of VSET leaves them: VSET clamped, a clamp shown in CFG_REJ (R35). -/
def State.vsetWritten (s : State) (k : Nat) (v : Word) : State :=
  let u := s.setFld (Reg.EXC_LEVEL k) Fld.EXC_LEVEL_VSET (min (getField Fld.EXC_LEVEL_VSET v) 50000)
  if getField Fld.EXC_LEVEL_VSET v > 50000 then u.raise (Reg.EXC_STAT k) Fld.EXC_STAT_CFG_REJ else u

/-- A write of VSET to a driver that the device has: the registers, and with a new level what R37 says of the mode. -/
theorem excLevelWrite_present {s : State} {k : Nat} (h : hasExc s.fac.variant k = true) (v : Word) :
    excLevelWrite s k v =
      if min (getField Fld.EXC_LEVEL_VSET v) 50000 = s.fld (Reg.EXC_LEVEL k) Fld.EXC_LEVEL_VSET then s.vsetWritten k v
      else if (s.vsetWritten k v).excMode k = 1 then (s.vsetWritten k v).startRamp k ((s.vsetWritten k v).excLevel k)
      else if (s.vsetWritten k v).excMode k = 2 then
        (s.vsetWritten k v).setExc k { (s.vsetWritten k v).excU k with rampDue := true }
      else (s.vsetWritten k v).takeLevel k := by
  rw [excLevelWrite, if_neg (by simp [h])]
  rfl

section
variable (s : State) (k : Nat) (v : Word)

theorem State.vset_vsetWritten :
    (s.vsetWritten k v).fld (Reg.EXC_LEVEL k) Fld.EXC_LEVEL_VSET = min (getField Fld.EXC_LEVEL_VSET v) 50000 := by
  have hlt : min (getField Fld.EXC_LEVEL_VSET v) 50000 < 2 ^ fieldWidth Fld.EXC_LEVEL_VSET :=
    Nat.lt_of_le_of_lt (Nat.min_le_right _ _) (by decide)
  have hset := s.fld_setFld_self (Reg.EXC_LEVEL k) (f := Fld.EXC_LEVEL_VSET) ⟨by decide, by decide⟩
    (min (getField Fld.EXC_LEVEL_VSET v) 50000)
  rw [Nat.mod_eq_of_lt hlt] at hset
  unfold State.vsetWritten
  split
  · exact (State.fld_congr (State.reg_raise_other _ (excLevel_ne_excStat k k) _) _).trans hset
  · exact hset

theorem State.cfgRej_vsetWritten (h : 50000 < getField Fld.EXC_LEVEL_VSET v) :
    (s.vsetWritten k v).flag (Reg.EXC_STAT k) Fld.EXC_STAT_CFG_REJ = true := by
  rw [State.vsetWritten, if_pos h]
  exact State.flag_raise _ _ ⟨by decide, by decide⟩

theorem State.excMode_vsetWritten : (s.vsetWritten k v).excMode k = s.excMode k := by
  have hset : (s.setFld (Reg.EXC_LEVEL k) Fld.EXC_LEVEL_VSET (min (getField Fld.EXC_LEVEL_VSET v) 50000)).excMode k = s.excMode k :=
    State.excMode_congr (State.flag_congr (s.reg_setFld_other (excStat_ne_excLevel k k) _ _) _)
      (s.reg_setFld_other (excCtrl_ne_excLevel k k) _ _)
  unfold State.vsetWritten
  split
  · exact (State.excMode_congr (State.flag_raise_apart _ ⟨by decide, by decide⟩ (by decide) (by decide))
      (State.reg_raise_other _ (excCtrl_ne_excStat k k) _)).trans hset
  · exact hset

end

section
variable {s : State} {k : Nat} (h : hasExc s.fac.variant k = true) (v : Word)
include h

/-- VSET, once written, holds the value written or 50 000 (R35). -/
theorem excLevelWrite_vset :
    (excLevelWrite s k v).fld (Reg.EXC_LEVEL k) Fld.EXC_LEVEL_VSET = min (getField Fld.EXC_LEVEL_VSET v) 50000 := by
  rw [← s.vset_vsetWritten k v, excLevelWrite_present h]
  split
  · rfl
  split
  · exact State.fld_congr (State.reg_startRamp_other _ _ _ (excLevel_ne_excStat k k)) _
  split <;> rfl

/-- A clamp shows in CFG_REJ (R35). -/
theorem excLevelWrite_cfgRej (hv : 50000 < getField Fld.EXC_LEVEL_VSET v) :
    (excLevelWrite s k v).flag (Reg.EXC_STAT k) Fld.EXC_STAT_CFG_REJ = true := by
  rw [← s.cfgRej_vsetWritten k v hv, excLevelWrite_present h]
  split
  · rfl
  split
  · exact State.flag_startRamp_apart _ _ _ (by decide) (by decide)
  split <;> rfl

/-- In DC mode a new level starts the ramp (R37). -/
theorem excLevelWrite_dc (hmode : s.excMode k = 1)
    (hnew : min (getField Fld.EXC_LEVEL_VSET v) 50000 ≠ s.fld (Reg.EXC_LEVEL k) Fld.EXC_LEVEL_VSET) :
    (excLevelWrite s k v).flag (Reg.EXC_STAT k) Fld.EXC_STAT_RAMP = true := by
  rw [excLevelWrite_present h, if_neg hnew, if_pos ((s.excMode_vsetWritten k v).trans hmode)]
  exact State.flag_startRamp_ramp _ _ _

/-- In AC mode a new level is due at the next edge (R37). -/
theorem excLevelWrite_ac (hmode : s.excMode k = 2)
    (hnew : min (getField Fld.EXC_LEVEL_VSET v) 50000 ≠ s.fld (Reg.EXC_LEVEL k) Fld.EXC_LEVEL_VSET) :
    ((excLevelWrite s k v).excU k).rampDue = true := by
  have hm : (s.vsetWritten k v).excMode k = 2 := (s.excMode_vsetWritten k v).trans hmode
  rw [excLevelWrite_present h, if_neg hnew, if_neg (by rw [hm]; decide), if_pos hm, State.excU_setExc_self]

end

theorem excLevelWrite_all (s : State) (k : Nat) (v : Word) : (excLevelWrite s k v).outside Parts.all = s.outside Parts.all :=
  excLevelWrite_outside s k v (by simp [Parts.all])

/-! ### EXC_LEVEL as a register -/

/-- EXC_LEVEL of a driver is decoded as the driver's register at 0x08. -/
theorem blockAt_excLevel {k : Nat} (h : k < 16) : blockAt (Reg.EXC_LEVEL k) = some (RegBlock.exc, k) := by
  have hall : ∀ k < 16, blockAt (Reg.EXC_LEVEL k) = some (RegBlock.exc, k) := by decide
  exact hall k h

theorem isAbsent_excLevel {v : Variant} {k : Nat} (h : hasExc v k = true) : isAbsent v (Reg.EXC_LEVEL k) = false := by
  have hlt := hasExc_lt h
  have hhost : ¬(v = .xf6408f ∧ 0x4000 ≤ Reg.EXC_LEVEL k ∧ Reg.EXC_LEVEL k < 0x5000) := by
    unfold Reg.EXC_LEVEL
    omega
  have hpch : ¬(0x81000 ≤ Reg.EXC_LEVEL k ∧ Reg.EXC_LEVEL k < 0x82000) := by
    unfold Reg.EXC_LEVEL
    omega
  have hwch : ¬(0x82000 ≤ Reg.EXC_LEVEL k ∧ Reg.EXC_LEVEL k < 0x82100) := by
    unfold Reg.EXC_LEVEL
    omega
  have hunit : unitPresent v .exc k = true := h
  rw [isAbsent, if_neg hhost, if_neg hpch, if_neg hwch, blockAt_excLevel hlt]
  simp only [show RegBlock.exc.kind = UnitKind.exc from rfl, hunit, Bool.not_true]

/-- A write of a register of a unit that the writer finds does what its unit's rule says. -/
theorem State.writeReg_present {s : State} {who : Reader} {off i : Nat} {b : RegBlock} {d : RegDesc} (hb : s.bootFailed = false)
    (ha : s.absentTo who off = false) (hblock : blockAt off = some (b, i)) (hreg : regAt b ((off - b.base) % b.stride) = some d)
    (v : Word) : s.writeReg who off v = (s.reachAt off).unitWrite who b.kind i ((off - b.base) % b.stride) off d v := by
  simp only [State.writeReg, hb, ha, hblock, hreg, Bool.false_and, Bool.false_eq_true, if_false]

/-- A write of the register EXC_LEVEL is a write of VSET. -/
theorem State.writeReg_excLevel {s : State} {k : Nat} (hb : s.bootFailed = false) (h : hasExc s.fac.variant k = true) (who : Reader)
    (v : Word) : s.writeReg who (Reg.EXC_LEVEL k) v = excLevelWrite s k v := by
  have hblock := blockAt_excLevel (hasExc_lt h)
  have hkind : RegBlock.exc.kind = .exc := rfl
  have hrel : (Reg.EXC_LEVEL k - RegBlock.exc.base) % RegBlock.exc.stride = 8 := by
    unfold Reg.EXC_LEVEL
    simp only [RegBlock.exc]
    omega
  have habsent : s.absentTo who (Reg.EXC_LEVEL k) = false := by
    simp [State.absentTo, isAbsent_excLevel h, hblock, hkind]
  have hreach : s.reachAt (Reg.EXC_LEVEL k) = s := by
    simp [State.reachAt, hblock, hkind, blockGate]
  obtain ⟨d, hd⟩ : ∃ d, regAt RegBlock.exc 8 = some d := ⟨_, rfl⟩
  rw [State.writeReg_present hb habsent hblock (by rw [hrel, hd]), hreach, hkind, hrel]
  simp [State.unitWrite]

theorem registerWrite_excLevel {s : State} {k : Nat} (hb : s.bootFailed = false) (h : hasExc s.fac.variant k = true) (who : Reader)
    (data : Nat) : registerWrite s who (Reg.EXC_LEVEL k) 4 data = excLevelWrite s k (BitVec.ofNat 32 data) := by
  have haccepted : accepted (Reg.EXC_LEVEL k) 4 = true := by
    have hmod : Reg.EXC_LEVEL k % 4 = 0 := by
      unfold Reg.EXC_LEVEL
      omega
    simp [accepted, hmod]
  exact (State.writeAccess_four haccepted).trans (State.writeReg_excLevel hb h who _)

/-- Settles O13: a write of VSET clamps, and the register's write is that write. -/
theorem vsetClamped : Obligations.VsetClamped := by
  unfold Obligations.VsetClamped
  have hclamped : ∀ {s : State} {k : Nat} {v : Word}, hasExc s.fac.variant k = true → 50000 < getField Fld.EXC_LEVEL_VSET v →
      (excLevelWrite s k v).fld (Reg.EXC_LEVEL k) Fld.EXC_LEVEL_VSET = 50000 ∧
        (excLevelWrite s k v).flag (Reg.EXC_STAT k) Fld.EXC_STAT_CFG_REJ = true := fun {_ _ v} h hv =>
    ⟨(excLevelWrite_vset h v).trans (Nat.min_eq_right (Nat.le_of_lt hv)), excLevelWrite_cfgRej h v hv⟩
  refine ⟨?row, ?register⟩
  case row =>
    intro s k v hb h hv
    exact ⟨_, State.answer_open hb (excLevelWrite_all s k v), hclamped h hv⟩
  case register =>
    intro s who k data hb h hv
    have hwrite := registerWrite_excLevel hb h who data
    refine ⟨registerWrite s who (Reg.EXC_LEVEL k) 4 data, State.effect_of_outside (P := Parts.all) ?_, ?_⟩
    · rw [hwrite, excLevelWrite_all]
    · rw [hwrite]
      exact hclamped h hv

end Sys2Proof.Machine
end

section
/-!
PROOF. Requests, releases and polarity edges of excitation drivers, and what a write of MODE leaves; O16 settled.
-/
namespace Sys2Proof.Machine

/-! ### Requests (R44) -/

section
variable {s : State} {k : Nat}

theorem State.pulseMode_reached (h : s.excMode k = 3 ∨ s.excMode k = 4) : ¬(s.excMode k != 3 && s.excMode k != 4) = true := by
  rcases h with h | h <;> simp [h]

/-- A request that finds the driver idle waits. -/
theorem State.excRequest_idle (hm : s.excMode k = 3 ∨ s.excMode k = 4) (hb : s.flag (Reg.EXC_STAT k) Fld.EXC_STAT_BUSY = false)
    (hr : (s.excU k).req = false) : s.excRequest k = s.setExc k { s.excU k with req := true } := by
  rw [State.excRequest, if_neg (State.pulseMode_reached hm), hb, hr]
  rfl

/-- One that finds a pulse or burst in progress, or a request, is counted. -/
theorem State.excRequest_dropped (hm : s.excMode k = 3 ∨ s.excMode k = 4)
    (h : s.flag (Reg.EXC_STAT k) Fld.EXC_STAT_BUSY = true ∨ (s.excU k).req = true) :
    s.excRequest k = s.count (Reg.EXC_STAT k) Fld.EXC_STAT_DROP_CNT := by
  rw [State.excRequest, if_neg (State.pulseMode_reached hm), if_pos (by simpa using h)]

/-- One in another mode is none. -/
theorem State.excRequest_otherMode (hm : s.excMode k ≠ 3 ∧ s.excMode k ≠ 4) : s.excRequest k = s := by
  rw [State.excRequest, if_pos (by simpa using hm)]

theorem excFire_fire (h : hasExc s.fac.variant k = true) (hsrc : s.fld (Reg.EXC_VW k) Fld.EXC_VW_SRC = 0) :
    excFire s k = s.excRequest k := by
  simp [excFire, h, hsrc]

theorem excFire_otherSource (h : hasExc s.fac.variant k = true) (hsrc : s.fld (Reg.EXC_VW k) Fld.EXC_VW_SRC ≠ 0) :
    excFire s k = s := by
  simp [excFire, h, hsrc]

theorem excPeriodTimer_due (h : hasExc s.fac.variant k = true) (hsrc : s.fld (Reg.EXC_VW k) Fld.EXC_VW_SRC = 1)
    (hper : s.fld (Reg.EXC_PER k) Fld.EXC_PER_PERIOD ≠ 0)
    (hdue : periodIndex (s.fld (Reg.EXC_PHASE k) Fld.EXC_PHASE_PHASE) (s.fld (Reg.EXC_PER k) Fld.EXC_PER_PERIOD) (s.excU k).perFrom <
      periodIndex (s.fld (Reg.EXC_PHASE k) Fld.EXC_PHASE_PHASE) (s.fld (Reg.EXC_PER k) Fld.EXC_PER_PERIOD) s.time) :
    excPeriodTimer s k = (s.setExc k { s.excU k with perFrom := s.time }).excRequest k := by
  simp [excPeriodTimer, h, hsrc, hper, Int.not_le.2 hdue]

end

/-! ### The release (R42, R45) -/

/-- What EXCk_END reaches: the start units, the nodes, and of the registers none but those the frame names. -/
def Parts.excEnd : Parts := { regs := each Reg.WCH_ST_CFG, nodes := true, start := true }

theorem State.offerExcEnd_sameBut (s : State) (k : Nat) : s.SameBut Parts.excEnd (s.offerExcEnd k) :=
  State.sameBut_of_outside (State.offerExcEnd_outside s k ⟨rfl, fun n => ⟨n, rfl⟩, rfl⟩)

section
variable (s : State) (k : Nat)

theorem State.excU_releaseExc_self :
    (s.releaseExc k).excU k = { s.excU k with running := false, release := s.time, relCyc := s.cycles } := by
  rw [State.releaseExc, State.excU_congr ((State.offerExcEnd_sameBut _ k).exc rfl), State.excU_setExc_self]

/-- A register at another place of its unit than WCH_ST_CFG keeps its value. -/
theorem State.reg_releaseExc {a : Nat} (h : a % 64 ≠ 0) : (s.releaseExc k).reg a = s.reg a := by
  refine (State.offerExcEnd_sameBut _ k).reg a ?_
  rintro ⟨n, rfl⟩
  unfold Reg.WCH_ST_CFG at h
  omega

/-- The state of a driver whose outputs are cut: its wait and its faults' counts are given up, its level is the one set. -/
def State.waitCut (s : State) (k : Nat) : State :=
  (s.setExc k { s.excU k with req := false, seen := [0, 0, 0, 0, 0] }).takeLevel k

theorem State.excU_waitCut : (s.waitCut k).excU k =
    { s.excU k with req := false, seen := [0, 0, 0, 0, 0], rampDue := false,
                    target := s.fld (Reg.EXC_LEVEL k) Fld.EXC_LEVEL_VSET } := by
  simp only [State.waitCut, State.takeLevel, State.excU_setExc_self, State.fld_setExc]

theorem State.cutExc_eq : s.cutExc k = if (s.excU k).running then (s.waitCut k).releaseExc k else s.waitCut k := by
  have hrun : ((s.waitCut k).excU k).running = (s.excU k).running := by rw [State.excU_waitCut]
  rw [← hrun]
  rfl

theorem State.reg_cutExc {a : Nat} (h : a % 64 ≠ 0) : (s.cutExc k).reg a = s.reg a := by
  rw [State.cutExc_eq]
  split
  · exact State.reg_releaseExc _ _ h
  · rfl

/-- A driver that is cut has no run and no request, and SMON holds the faults it held. -/
theorem State.excU_cutExc :
    ((s.cutExc k).excU k).running = false ∧ ((s.cutExc k).excU k).req = false ∧ ((s.cutExc k).excU k).held = (s.excU k).held := by
  rw [State.cutExc_eq]
  split
  · rw [State.excU_releaseExc_self, State.excU_waitCut]
    exact ⟨rfl, rfl, rfl⟩
  · next hrun =>
    rw [State.excU_waitCut]
    exact ⟨by simpa using hrun, rfl, rfl⟩

end

theorem excStat_mod (k : Nat) : Reg.EXC_STAT k % 64 ≠ 0 := by
  unfold Reg.EXC_STAT
  omega

/-! ### A write of MODE (R36, R37, R47) -/

section
variable (s : State) (k : Nat)

/-- Driver `k` with its edges counted and turned anew. -/
def State.edgesSet (s : State) (k age : Nat) (positive : Bool) : State :=
  s.setExc k { s.excU k with edgeAge := age, positive := positive }

theorem State.enterAc_eq : s.enterAc k =
    if (s.edgesSet k 0 true).acTogether k then
      (s.edgesSet k 0 true).edgesSet (k / 2 * 2 + 1) ((s.edgesSet k 0 true).excU (k / 2 * 2)).edgeAge
        ((s.edgesSet k 0 true).excU (k / 2 * 2)).positive
    else s.edgesSet k 0 true := rfl

theorem State.excU_edgesSet (age : Nat) (positive : Bool) (j : Nat) :
    ((s.edgesSet k age positive).excU j).running = (s.excU j).running ∧
      ((s.edgesSet k age positive).excU j).req = (s.excU j).req := by
  rw [State.edgesSet, State.excU_setExc]
  split
  · next hj => exact hj ▸ ⟨rfl, rfl⟩
  · exact ⟨rfl, rfl⟩

theorem State.reg_enterAc (a : Nat) : (s.enterAc k).reg a = s.reg a := by
  rw [State.enterAc_eq]
  split <;> rfl

/-- An entry into AC mode sets edges, of this driver or also of the odd one of its bank, and no run or request. -/
theorem State.excU_enterAc (j : Nat) :
    ((s.enterAc k).excU j).running = (s.excU j).running ∧ ((s.enterAc k).excU j).req = (s.excU j).req := by
  obtain ⟨hrun, hreq⟩ := s.excU_edgesSet k 0 true j
  rw [State.enterAc_eq]
  split
  · obtain ⟨hrun', hreq'⟩ := (s.edgesSet k 0 true).excU_edgesSet (k / 2 * 2 + 1) _ _ j
    exact ⟨hrun'.trans hrun, hreq'.trans hreq⟩
  · exact ⟨hrun, hreq⟩

/-- MODE as written, with a shutdown ended. -/
def State.modeSet (s : State) (k m : Nat) : State :=
  let u := s.setFld (Reg.EXC_CTRL k) Fld.EXC_CTRL_MODE m
  if m ≠ 0 then u.clear (Reg.EXC_STAT k) Fld.EXC_STAT_SHUTDOWN else u

/-- The same, with a mode that is left cut before it. -/
def State.modeTaken (s : State) (k m : Nat) : State := (if m ≠ s.excMode k then s.cutExc k else s).modeSet k m

/-- The edges of a driver that has come into AC mode from another. -/
def State.acEntered (s : State) (k m : Nat) : State :=
  if m = 2 ∧ s.excMode k ≠ 2 then (s.modeTaken k m).enterAc k else s.modeTaken k m

variable {s k} {v : Word} (h : hasExc s.fac.variant k = true)
include h

theorem excCtrlModeWrite_rejected (hm : 5 ≤ getField Fld.EXC_CTRL_MODE v) :
    excCtrlModeWrite s k v = s.raise (Reg.EXC_STAT k) Fld.EXC_STAT_CFG_REJ := by
  simp [excCtrlModeWrite, h, hm]

/-- A mode that exists is taken; then a ramp begins, goes on or is no longer shown. -/
theorem excCtrlModeWrite_taken {m : Nat} (hv : getField Fld.EXC_CTRL_MODE v = m) (hm : m < 5) :
    excCtrlModeWrite s k v =
      if s.excMode k = 0 ∧ (m = 1 ∨ m = 2) then (s.acEntered k m).startRamp k 0
      else if m = 1 ∨ m = 2 then s.acEntered k m else (s.acEntered k m).clear (Reg.EXC_STAT k) Fld.EXC_STAT_RAMP := by
  have hramp : (s.excMode k == 0 && (m == 1 || m == 2)) = decide (s.excMode k = 0 ∧ (m = 1 ∨ m = 2)) :=
    Bool.eq_iff_iff.2 (by simp)
  rw [excCtrlModeWrite, if_neg (by simp [h])]
  simp only [hv, Nat.not_le.2 hm, if_false]
  rw [hramp]
  simp only [decide_eq_true_eq]
  rfl

end

section
variable (s : State) (k : Nat) {m : Nat}

theorem State.excU_modeSet (m : Nat) : (s.modeSet k m).excU k = s.excU k := by
  unfold State.modeSet
  split <;> rfl

theorem State.mode_modeSet (hm : m < 5) : (s.modeSet k m).fld (Reg.EXC_CTRL k) Fld.EXC_CTRL_MODE = m := by
  have hset : (s.setFld (Reg.EXC_CTRL k) Fld.EXC_CTRL_MODE m).fld (Reg.EXC_CTRL k) Fld.EXC_CTRL_MODE = m := by
    rw [s.fld_setFld_self _ ⟨by decide, by decide⟩ m, Nat.mod_eq_of_lt (Nat.lt_trans hm (by decide))]
  unfold State.modeSet
  split
  · exact (State.fld_congr (State.reg_clear_other _ (excCtrl_ne_excStat k k) _) _).trans hset
  · exact hset

theorem State.shutdown_modeSet (hm : m ≠ 0) : (s.modeSet k m).flag (Reg.EXC_STAT k) Fld.EXC_STAT_SHUTDOWN = false := by
  rw [State.modeSet, if_pos hm]
  exact State.flag_clear _ ⟨by decide, by decide⟩

theorem State.reg_acEntered (m a : Nat) : (s.acEntered k m).reg a = (s.modeTaken k m).reg a := by
  unfold State.acEntered
  split
  · exact State.reg_enterAc _ _ _
  · rfl

/-- Where the mode changes, no run and no request is left. -/
theorem State.excU_acEntered (hm : m ≠ s.excMode k) :
    ((s.acEntered k m).excU k).running = false ∧ ((s.acEntered k m).excU k).req = false := by
  obtain ⟨hrun, hreq, -⟩ := s.excU_cutExc k
  have htaken : (s.modeTaken k m).excU k = (s.cutExc k).excU k := by
    rw [State.modeTaken, State.excU_modeSet, if_pos hm]
  unfold State.acEntered
  split
  · obtain ⟨hrun', hreq'⟩ := (s.modeTaken k m).excU_enterAc k k
    rw [hrun', hreq', htaken]
    exact ⟨hrun, hreq⟩
  · rw [htaken]
    exact ⟨hrun, hreq⟩

end

section
variable {s : State} {k m : Nat} {v : Word} (h : hasExc s.fac.variant k = true) (hv : getField Fld.EXC_CTRL_MODE v = m) (hm : m < 5)
include h hv hm

theorem excCtrlModeWrite_mode : (excCtrlModeWrite s k v).fld (Reg.EXC_CTRL k) Fld.EXC_CTRL_MODE = m := by
  have hentered : (s.acEntered k m).fld (Reg.EXC_CTRL k) Fld.EXC_CTRL_MODE = m :=
    (State.fld_congr (s.reg_acEntered k m _) _).trans (State.mode_modeSet _ k hm)
  rw [excCtrlModeWrite_taken h hv hm]
  split
  · exact (State.fld_congr (State.reg_startRamp_other _ _ _ (excCtrl_ne_excStat k k)) _).trans hentered
  split
  · exact hentered
  · exact (State.fld_congr (State.reg_clear_other _ (excCtrl_ne_excStat k k) _) _).trans hentered

theorem excCtrlModeWrite_shutdown (hne : m ≠ 0) :
    (excCtrlModeWrite s k v).flag (Reg.EXC_STAT k) Fld.EXC_STAT_SHUTDOWN = false := by
  have hentered : (s.acEntered k m).flag (Reg.EXC_STAT k) Fld.EXC_STAT_SHUTDOWN = false :=
    (State.flag_congr (s.reg_acEntered k m _) _).trans (State.shutdown_modeSet _ k hne)
  rw [excCtrlModeWrite_taken h hv hm]
  split
  · exact (State.flag_startRamp_apart _ _ _ (by decide) (by decide)).trans hentered
  split
  · exact hentered
  · exact (State.flag_clear_apart _ ⟨by decide, by decide⟩ (by decide) (by decide)).trans hentered

/-- Out of OFF into DC or AC the driver ramps. -/
theorem excCtrlModeWrite_ramp (hoff : s.excMode k = 0) (hon : m = 1 ∨ m = 2) :
    (excCtrlModeWrite s k v).flag (Reg.EXC_STAT k) Fld.EXC_STAT_RAMP = true := by
  rw [excCtrlModeWrite_taken h hv hm, if_pos ⟨hoff, hon⟩]
  exact State.flag_startRamp_ramp _ _ _

theorem excCtrlModeWrite_ends (hne : m ≠ s.excMode k) :
    ((excCtrlModeWrite s k v).excU k).running = false ∧ ((excCtrlModeWrite s k v).excU k).req = false := by
  have hentered := s.excU_acEntered k hne
  rw [excCtrlModeWrite_taken h hv hm]
  split
  · rwa [State.excU_startRamp_self]
  split
  · exact hentered
  · exact hentered

end

/-! ### Polarity edges (R39) -/

section
variable (s : State) (k : Nat) (positive : Bool)

theorem excU_excEdgeOne_self :
    ((excEdgeOne s k positive).excU k).positive = positive ∧ ((excEdgeOne s k positive).excU k).edgeAge = 0 := by
  unfold excEdgeOne
  dsimp only
  split
  · rw [State.excU_startRamp_self, State.excU_setExc_self]
    exact ⟨rfl, rfl⟩
  · rw [State.excU_setExc_self]
    exact ⟨rfl, rfl⟩

theorem excU_excEdgeOne_other {j : Nat} (h : j ≠ k) : (excEdgeOne s k positive).excU j = s.excU j := by
  unfold excEdgeOne
  dsimp only
  split
  · rw [State.excU_startRamp_other _ _ _ h, State.excU_setExc_other _ _ _ h]
  · exact State.excU_setExc_other _ _ _ h

theorem excMode_excEdgeOne_other {j : Nat} (h : j ≠ k) : (excEdgeOne s k positive).excMode j = s.excMode j := by
  unfold excEdgeOne
  dsimp only
  split
  · exact State.excMode_congr (State.flag_congr (State.reg_startRamp_other _ _ _ (excStat_injective h)) _)
      (State.reg_startRamp_other _ _ _ (excCtrl_ne_excStat j k))
  · rfl

/-- An edge that is due turns the driver's polarity, and that of the odd driver which shares the edges. -/
theorem excPolarityEdge_due {s : State} {k : Nat} (h : hasExc s.fac.variant k = true) (hm : s.excMode k = 2)
    (hb : s.atBoundary = true) (hown : ¬(k % 2 = 1 ∧ s.excMode (k - 1) = 2))
    (hage : 2 ^ s.fld (Reg.EXC_AC k) Fld.EXC_AC_HDIV ≤ (s.excU k).edgeAge) :
    excPolarityEdge s k =
      if k % 2 = 0 ∧ s.excMode (k + 1) = 2 then excEdgeOne (excEdgeOne s k (!(s.excU k).positive)) (k + 1) (!(s.excU k).positive)
      else excEdgeOne s k (!(s.excU k).positive) := by
  have hnot : ¬(s.excMode k != 2 || !s.atBoundary || (k % 2 == 1 && s.excMode (k - 1) == 2) ||
      decide ((s.excU k).edgeAge < 2 ^ s.fld (Reg.EXC_AC k) Fld.EXC_AC_HDIV)) = true := by
    have hown' : (k % 2 == 1 && s.excMode (k - 1) == 2) = false := by simpa using hown
    simp [hm, hb, hown', hage]
  rw [excPolarityEdge, if_pos h, State.excEdge, if_neg hnot]
  dsimp only
  rw [excMode_excEdgeOne_other s k _ (Nat.succ_ne_self k)]

end

theorem excRampEnd_due {s : State} {k : Nat} (h : hasExc s.fac.variant k = true) (hd : 16384 ≤ s.cycles - (s.excU k).rampCyc) :
    excRampEnd s k = s.clear (Reg.EXC_STAT k) Fld.EXC_STAT_RAMP := by
  simp [excRampEnd, h, State.rampOver, hd]

/-- Settles O16: each row's meaning has a frame, so it is the row's answer, and the lemmas on writes of MODE and VSET, on requests and
on edges say what it leaves. -/
theorem excitationWrites : Obligations.ExcitationWrites := by
  unfold Obligations.ExcitationWrites
  have hmode : ∀ s k v, (excCtrlModeWrite s k v).outside Parts.all = s.outside Parts.all :=
    fun s k v => excCtrlModeWrite_outside s k v (by simp [Parts.all])
  have hfire : ∀ s k, (excFire s k).outside Parts.all = s.outside Parts.all := fun s k => excFire_outside s k (by simp [Parts.all])
  refine ⟨?taken, ?rejected, ?fired, ?dropped, ?nothing, ?timer, ?level, ?rampEnd, ?edge⟩
  case taken =>
    intro s k v hb h hm
    exact ⟨_, State.answer_open hb (hmode s k v), excCtrlModeWrite_mode h rfl hm, excCtrlModeWrite_shutdown h rfl hm,
      excCtrlModeWrite_ramp h rfl hm, excCtrlModeWrite_ends h rfl hm⟩
  case rejected =>
    intro s k v hb h hm
    refine ⟨_, State.answer_open hb (hmode s k v), ?_⟩
    rw [excCtrlModeWrite_rejected h hm]
    exact ⟨State.reg_raise_other _ (excCtrl_ne_excStat k k) _, State.flag_raise _ _ ⟨by decide, by decide⟩⟩
  case fired =>
    intro s k hb h hsrc hm hbusy hreq
    refine ⟨_, State.answer_open hb (hfire s k), ?_⟩
    rw [excFire_fire h hsrc, State.excRequest_idle hm hbusy hreq, State.excU_setExc_self]
  case dropped =>
    intro s k hb h hsrc hm hwait
    refine ⟨_, State.answer_open hb (hfire s k), ?_⟩
    rw [excFire_fire h hsrc, State.excRequest_dropped hm hwait]
    exact ⟨s.fld_count_self _ ⟨by decide, by decide⟩, s.excU_count k _ _⟩
  case nothing =>
    intro s k hb h hnone
    refine ⟨_, State.answer_open hb (hfire s k), ?_⟩
    have hsame : excFire s k = s := by
      by_cases hsrc : s.fld (Reg.EXC_VW k) Fld.EXC_VW_SRC = 0
      · exact (excFire_fire h hsrc).trans (State.excRequest_otherMode (hnone.resolve_left (not_not_intro hsrc)))
      · exact excFire_otherSource h hsrc
    rw [hsame]
    exact ⟨rfl, rfl⟩
  case timer =>
    intro s k h hsrc hper hm hbusy hreq hdue
    refine ⟨_, State.effect_of_outside (P := Parts.all) (excPeriodTimer_outside s k (by simp [Parts.all])), ?_⟩
    have hidle : ((s.setExc k { s.excU k with perFrom := s.time }).excU k).req = false := by
      rw [State.excU_setExc_self]
      exact hreq
    rw [excPeriodTimer_due h hsrc hper hdue,
      State.excRequest_idle (s := s.setExc k { s.excU k with perFrom := s.time }) hm hbusy hidle, State.excU_setExc_self,
      State.excU_setExc_self]
    exact ⟨rfl, rfl⟩
  case level =>
    intro s k v hb h
    refine ⟨_, State.answer_open hb (excLevelWrite_all s k v), excLevelWrite_vset h v, excLevelWrite_cfgRej h v, fun hm hne => ?_,
      fun hm hne => ?_⟩
    · exact excLevelWrite_dc h v hm (excLevelWrite_vset h v ▸ hne)
    · exact excLevelWrite_ac h v hm (excLevelWrite_vset h v ▸ hne)
  case rampEnd =>
    intro s k h hd
    refine ⟨_, State.effect_of_outside (P := Parts.all) (excRampEnd_outside s k (by simp [Parts.all])), ?_⟩
    rw [excRampEnd_due h hd]
    exact State.flag_clear _ ⟨by decide, by decide⟩
  case edge =>
    intro s k h hm hb hown hage
    refine ⟨_, State.effect_of_outside (P := Parts.all) (excPolarityEdge_outside s k (by simp [Parts.all])), ?_⟩
    obtain ⟨hpos, hzero⟩ := excU_excEdgeOne_self s k (!(s.excU k).positive)
    rw [excPolarityEdge_due h hm hb hown hage]
    split
    · rw [excU_excEdgeOne_other _ _ _ (Nat.succ_ne_self k).symm]
      exact ⟨hpos, hzero, fun _ _ => (excU_excEdgeOne_self _ _ _).1⟩
    · next hpair => exact ⟨hpos, hzero, fun heven hac => absurd ⟨heven, hac⟩ hpair⟩

end Sys2Proof.Machine
end

section
/-!
PROOF. The runs, monitor samples and faults of excitation drivers; O17 settled.
-/
namespace Sys2Proof.Machine

/-! ### Bits as fields -/

theorem State.regBit_eq_flag (s : State) (a i : Nat) : s.regBit a i = s.flag a ⟨i, i⟩ := by
  have hw : fieldWidth ⟨i, i⟩ = 1 := Nat.add_sub_cancel_left i 1
  rw [State.regBit, State.flag, State.fld, getField, hw]
  rfl

theorem bitAt_eq_testBit (n i : Nat) : bitAt n i = n.testBit i := by
  rw [Nat.testBit_eq_decide_div_mod_eq]
  rfl

theorem bitAt_or_two_pow (n i : Nat) : bitAt (n ||| 2 ^ i) i = true := by
  rw [bitAt_eq_testBit, Nat.testBit_or, Nat.testBit_two_pow_self, Bool.or_true]

/-! ### What PIN_RANGE reaches when a mute begins or ends (R45) -/

/-- The parts that showing PIN_RANGE again may write. -/
def Parts.pinShown : Parts :=
  { regs := fun r => r = Reg.DEV_EV_LOST ∨ each Reg.PCH_STAT r, recs := true, classLost := true, rate := true, host := true, pch := true }

theorem Parts.pinShown_emits : Parts.pinShown.emits := ⟨rfl, rfl, rfl, .inl rfl⟩

theorem State.pinUpdateBank_sameBut (s : State) (k : Nat) : s.SameBut Parts.pinShown (s.pinUpdateBank k) :=
  State.sameBut_of_outside (s.pinUpdateBank_outside k ⟨Parts.pinShown_emits, rfl, fun n => .inr ⟨n, rfl⟩, rfl⟩)

theorem excStat_ne_lost (k : Nat) : Reg.EXC_STAT k ≠ Reg.DEV_EV_LOST := by
  unfold Reg.EXC_STAT Reg.DEV_EV_LOST
  omega

theorem excStat_not_pinShown (k : Nat) : ¬Parts.pinShown.regs (Reg.EXC_STAT k) := by
  rintro (hlost | ⟨n, hn⟩)
  · exact excStat_ne_lost k hlost
  · unfold Reg.EXC_STAT Reg.PCH_STAT at hn
    omega

/-! ### Starts, releases and mute ends (R42, R44, R45) -/

section
variable {s : State} {k : Nat} (h : hasExc s.fac.variant k = true)
include h

/-- A request in PLUCK or SWEEP mode becomes a run at a base-sample boundary. -/
theorem excStart_begins (hreq : (s.excU k).req = true) (hb : s.atBoundary = true) (hm : s.excMode k = 3 ∨ s.excMode k = 4) :
    excStart s k = ((s.setExc k { s.excU k with
      req := false, running := true, start := s.time, startCyc := s.cycles, ran := 0, phaseAcc := 0 }).raise
        (Reg.EXC_STAT k) Fld.EXC_STAT_BUSY).pinUpdateBank k := by
  rw [excStart, if_neg (by simp [h, hreq, hb]), if_neg (State.pulseMode_reached hm)]

theorem excRelease_ends (hrun : (s.excU k).running = true) (hlast : s.excLasted k = true) : excRelease s k = s.releaseExc k := by
  rw [excRelease, if_neg (by simp [h, hrun, hlast])]

/-- The mute end: BUSY clears, the bank's channels show PIN_RANGE again, and the record is written. -/
theorem excDone_mutes (hrun : (s.excU k).running = false) (hbusy : s.flag (Reg.EXC_STAT k) Fld.EXC_STAT_BUSY = true)
    (hover : 100 * 16384 ≤ (s.cycles - (s.excU k).relCyc) * 1000) :
    excDone s k = ((s.clear (Reg.EXC_STAT k) Fld.EXC_STAT_BUSY).pinUpdateBank k).emit 0x0119 k
      [k, (s.excU k).start.toNat, (s.excU k).release.toNat, s.time.toNat] := by
  have hmute : s.muteOver (s.excU k).relCyc = true := decide_eq_true hover
  rw [excDone, if_neg (by simp [h, hrun, hbusy, hmute])]

theorem excDone_busy (hrun : (s.excU k).running = false) (hbusy : s.flag (Reg.EXC_STAT k) Fld.EXC_STAT_BUSY = true)
    (hover : 100 * 16384 ≤ (s.cycles - (s.excU k).relCyc) * 1000) :
    (excDone s k).flag (Reg.EXC_STAT k) Fld.EXC_STAT_BUSY = false := by
  have same := (s.clear (Reg.EXC_STAT k) Fld.EXC_STAT_BUSY).pinUpdateBank_sameBut k
  rw [excDone_mutes h hrun hbusy hover, State.flag_congr (State.emit_reg _ _ _ _ (excStat_ne_lost k)),
    State.flag_congr (same.reg _ (excStat_not_pinShown k))]
  exact s.flag_clear ⟨by decide, by decide⟩

/-- Where the mute end changes no PIN_RANGE, EXC_DONE is the one record written. -/
theorem excDone_recs (hrun : (s.excU k).running = false) (hbusy : s.flag (Reg.EXC_STAT k) Fld.EXC_STAT_BUSY = true)
    (hover : 100 * 16384 ≤ (s.cycles - (s.excU k).relCyc) * 1000)
    (hrecs : ((s.clear (Reg.EXC_STAT k) Fld.EXC_STAT_BUSY).pinUpdateBank k).recs = s.recs) (hroom : s.recsFull = false) :
    (excDone s k).recs =
      s.recs ++ [mkRec 0x0119 k s.time [k, (s.excU k).start.toNat, (s.excU k).release.toNat, s.time.toNat]] := by
  have same := (s.clear (Reg.EXC_STAT k) Fld.EXC_STAT_BUSY).pinUpdateBank_sameBut k
  have htime : ((s.clear (Reg.EXC_STAT k) Fld.EXC_STAT_BUSY).pinUpdateBank k).time = s.time := same.time rfl
  have hfull : ((s.clear (Reg.EXC_STAT k) Fld.EXC_STAT_BUSY).pinUpdateBank k).recsFull = false := by
    rw [State.recsFull, hrecs]
    exact hroom
  rw [excDone_mutes h hrun hbusy hover, State.emit_recs _ _ _ _ hfull, hrecs, htime]

end

/-! ### Faults (R46, R47) -/

/-- A fault bit sets: SMON holds the fault, and its record is written where the bit was clear. -/
def State.faultNoted (s : State) (k b : Nat) : State :=
  let x := s.excU k
  let u := (s.setBit (Reg.EXC_STAT k) b true).setExc k
    { x with held := x.held ||| 2 ^ b, absent := x.absent.filter (fun p => p.1 != b) }
  if s.regBit (Reg.EXC_STAT k) b then u else u.emit 0x0118 k [k, b, (u.reg (Reg.EXC_MON k)).toNat]

/-- OVERLOAD shuts the driver down; no other fault does. -/
def State.faultActs (s : State) (k b : Nat) : State :=
  if b = 3 then ((s.raise (Reg.EXC_STAT k) Fld.EXC_STAT_SHUTDOWN).clear (Reg.EXC_STAT k) Fld.EXC_STAT_RAMP).cutExc k else s

section
variable (s : State) (k b : Nat)

theorem State.excFaultBit_eq : s.excFaultBit k b = ((s.faultNoted k b).faultActs k b).verifyDriver k := rfl

theorem State.reg_faultNoted {a : Nat} (h : a ≠ Reg.DEV_EV_LOST) :
    (s.faultNoted k b).reg a = (s.setBit (Reg.EXC_STAT k) b true).reg a := by
  unfold State.faultNoted
  dsimp only
  split
  · rfl
  · exact State.emit_reg _ _ _ _ h

theorem State.excU_faultNoted : (s.faultNoted k b).excU k =
    { s.excU k with held := (s.excU k).held ||| 2 ^ b, absent := (s.excU k).absent.filter (fun p => p.1 != b) } := by
  unfold State.faultNoted
  dsimp only
  split
  · exact State.excU_setExc_self _ _ _
  · exact State.excU_setExc_self _ _ _

theorem State.regBit_faultNoted (hb : b < 32) : (s.faultNoted k b).regBit (Reg.EXC_STAT k) b = true := by
  rw [State.regBit, State.reg_faultNoted _ _ _ (excStat_ne_lost k)]
  exact s.regBit_setBit _ hb

theorem State.flag_faultActs_apart {g : Field} (hg : g.lo ≤ g.hi) (hshut : 2 < g.lo ∨ g.hi < 2) (hramp : 8 < g.lo ∨ g.hi < 8) :
    (s.faultActs k b).flag (Reg.EXC_STAT k) g = s.flag (Reg.EXC_STAT k) g := by
  unfold State.faultActs
  split
  · rw [State.flag_congr (State.reg_cutExc _ k (excStat_mod k)), State.flag_clear_apart _ ⟨by decide, by decide⟩ hg hramp,
      State.flag_raise_apart _ ⟨by decide, by decide⟩ hg hshut]
  · rfl

theorem State.held_faultActs : ((s.faultActs k b).excU k).held = (s.excU k).held := by
  unfold State.faultActs
  split
  · exact (State.excU_cutExc _ k).2.2
  · rfl

/-- OVERLOAD leaves the driver shut down without a run. -/
theorem State.faultActs_overload :
    (s.faultActs k 3).flag (Reg.EXC_STAT k) Fld.EXC_STAT_SHUTDOWN = true ∧ ((s.faultActs k 3).excU k).running = false := by
  obtain ⟨hrun, -, -⟩ :=
    ((s.raise (Reg.EXC_STAT k) Fld.EXC_STAT_SHUTDOWN).clear (Reg.EXC_STAT k) Fld.EXC_STAT_RAMP).excU_cutExc k
  refine ⟨?_, hrun⟩
  rw [State.faultActs, if_pos rfl, State.flag_congr (State.reg_cutExc _ k (excStat_mod k)),
    State.flag_clear_apart _ ⟨by decide, by decide⟩ (by decide) (by decide)]
  exact s.flag_raise _ ⟨by decide, by decide⟩

theorem excStat_not_safety : ¬Parts.safety.regs (Reg.EXC_STAT k) := by
  intro hlow
  have hlt : Reg.EXC_STAT k < 0x10000 := hlow
  unfold Reg.EXC_STAT at hlt
  omega

theorem State.flag_verifyDriver (j : Nat) (f : Field) :
    (s.verifyDriver k).flag (Reg.EXC_STAT j) f = s.flag (Reg.EXC_STAT j) f :=
  State.flag_congr ((s.verifyDriver_sameBut k).reg _ (excStat_not_safety j)) f

theorem State.excU_verifyDriver (j : Nat) : (s.verifyDriver k).excU j = s.excU j :=
  State.excU_congr ((s.verifyDriver_sameBut k).exc rfl) j

/-- A fault bit that sets is read back. -/
theorem State.regBit_excFaultBit (hlo : 3 ≤ b) (hhi : b ≤ 7) : (s.excFaultBit k b).regBit (Reg.EXC_STAT k) b = true := by
  have hnoted := s.regBit_faultNoted k b (by omega)
  rw [State.regBit_eq_flag] at hnoted ⊢
  rw [State.excFaultBit_eq, State.flag_verifyDriver,
    State.flag_faultActs_apart _ k b (g := ⟨b, b⟩) (Nat.le_refl b) (.inl (show 2 < b by omega)) (.inr (show b < 8 by omega)), hnoted]

theorem State.held_excFaultBit : bitAt ((s.excFaultBit k b).excU k).held b = true := by
  rw [State.excFaultBit_eq, State.excU_verifyDriver, State.held_faultActs, State.excU_faultNoted]
  exact bitAt_or_two_pow _ _

theorem State.excFaultBit_overload :
    (s.excFaultBit k 3).flag (Reg.EXC_STAT k) Fld.EXC_STAT_SHUTDOWN = true ∧ ((s.excFaultBit k 3).excU k).running = false := by
  rw [State.excFaultBit_eq, State.flag_verifyDriver, State.excU_verifyDriver]
  exact State.faultActs_overload _ k

theorem excFault_due {s : State} {k b : Nat} (h : hasExc s.fac.variant k = true) (hlo : 3 ≤ b) (hhi : b ≤ 7)
    (hw : s.excWatches k b = true) (hd : excDetect b ≤ (s.excU k).seen.getD (b - 3) 0) : excFault s k b = s.excFaultBit k b := by
  rw [excFault, if_neg]
  simp only [h, hw, Nat.not_lt.2 hlo, Nat.not_lt.2 hhi, Nat.not_lt.2 hd, decide_false, Bool.not_true, Bool.or_false,
    Bool.false_eq_true, not_false_eq_true]

end

/-! ### Monitor samples (R46, R50) -/

/-- The registers that a monitor sample writes. -/
def State.monitored (s : State) (k : Nat) (vmon imon : BitVec 16) (limit : Bool) : State :=
  (s.setReg (Reg.EXC_MON k) (imon ++ vmon)).setFld (Reg.EXC_STAT k) Fld.EXC_STAT_LIMIT (bit limit)

section
variable (s : State) (k : Nat) (vmon imon : BitVec 16) (limit : Bool)

theorem excMon_ne_excStat : Reg.EXC_MON k ≠ Reg.EXC_STAT k := by
  unfold Reg.EXC_MON Reg.EXC_STAT
  omega

theorem excMon_ne_lost : Reg.EXC_MON k ≠ Reg.DEV_EV_LOST := by
  unfold Reg.EXC_MON Reg.DEV_EV_LOST
  omega

theorem excMon_not_safety : ¬Parts.safety.regs (Reg.EXC_MON k) := by
  intro hlow
  have hlt : Reg.EXC_MON k < 0x10000 := hlow
  unfold Reg.EXC_MON at hlt
  omega

theorem State.reg_monitored : (s.monitored k vmon imon limit).reg (Reg.EXC_MON k) = imon ++ vmon :=
  (State.reg_setFld_other _ (excMon_ne_excStat k) _ _).trans (State.reg_setReg_self _ _ _)

theorem State.limit_monitored : (s.monitored k vmon imon limit).fld (Reg.EXC_STAT k) Fld.EXC_STAT_LIMIT = bit limit := by
  rw [State.monitored, State.fld_setFld_self _ _ ⟨by decide, by decide⟩]
  cases limit <;> rfl

/-- REF_LOW, which a sample may set, changes neither EXC_MON nor LIMIT. -/
theorem State.excFaultBit_refLow (a : Nat) (ha : a = Reg.EXC_MON k ∨ a = Reg.EXC_STAT k) :
    (s.excFaultBit k 7).reg a = (s.setBit (Reg.EXC_STAT k) 7 true).reg a := by
  have hsafe : ¬Parts.safety.regs a := by
    rcases ha with rfl | rfl
    · exact excMon_not_safety k
    · exact excStat_not_safety k
  have hlost : a ≠ Reg.DEV_EV_LOST := by
    rcases ha with rfl | rfl
    · exact excMon_ne_lost k
    · exact excStat_ne_lost k
  rw [State.excFaultBit_eq, (State.verifyDriver_sameBut _ k).reg a hsafe, State.faultActs, if_neg (by decide),
    s.reg_faultNoted k 7 hlost]

/-- After a sample the monitor's finding and LIMIT stand as sampled, whatever it means for the faults and for the channels. -/
theorem excMonitorSample_shows {s : State} {k : Nat} (h : hasExc s.fac.variant k = true) (sense : Bool) :
    (excMonitorSample s k vmon imon limit sense).reg (Reg.EXC_MON k) = imon ++ vmon ∧
      (excMonitorSample s k vmon imon limit sense).fld (Reg.EXC_STAT k) Fld.EXC_STAT_LIMIT = bit limit := by
  have hmon := s.reg_monitored k vmon imon limit
  have hlimit := s.limit_monitored k vmon imon limit
  obtain ⟨x, hx⟩ : ∃ x, excMonitorSample s k vmon imon limit sense =
      if ((s.monitored k vmon imon limit).setExc k x).excCondition k 7 sense then
        ((s.monitored k vmon imon limit).setExc k x).excFaultBit k 7
      else ((s.monitored k vmon imon limit).setExc k x).verifyDriver k := by
    rw [excMonitorSample, if_neg (by simp [h])]
    exact ⟨_, rfl⟩
  rw [hx]
  split
  · have hfault := State.excFaultBit_refLow ((s.monitored k vmon imon limit).setExc k x) k
    refine ⟨?_, ?_⟩
    · rw [hfault _ (.inl rfl), State.setBit, State.reg_setFld_other _ (excMon_ne_excStat k), State.reg_setExc, hmon]
    · rw [State.fld_congr (hfault _ (.inr rfl)), State.setBit,
        State.fld_setFld_apart _ _ ⟨by decide, by decide⟩ (by decide) (by decide), State.fld_setExc, hlimit]
  · have same := ((s.monitored k vmon imon limit).setExc k x).verifyDriver_sameBut k
    rw [same.reg _ (excMon_not_safety k), State.fld_congr (same.reg _ (excStat_not_safety k))]
    exact ⟨hmon, hlimit⟩

end

/-- Settles O17: each row's meaning has a frame, so it is the row's answer; the lemmas on starts, releases and mute ends, on monitor
samples and on fault bits say what it leaves. -/
theorem excitationRuns : Obligations.ExcitationRuns := by
  unfold Obligations.ExcitationRuns
  refine ⟨?start, ?release, ?done, ?sample, ?fault⟩
  case start =>
    intro s k h hreq hb hm
    refine ⟨_, State.effect_of_outside (P := Parts.all) (excStart_outside s k (by simp [Parts.all, Parts.emits])), ?_⟩
    rw [excStart_begins h hreq hb hm]
    have same := State.pinUpdateBank_sameBut ((s.setExc k { s.excU k with
      req := false, running := true, start := s.time, startCyc := s.cycles, ran := 0, phaseAcc := 0 }).raise
        (Reg.EXC_STAT k) Fld.EXC_STAT_BUSY) k
    rw [State.flag_congr (same.reg _ (excStat_not_pinShown k)), State.excU_congr (same.exc rfl), State.excU_raise,
      State.excU_setExc_self]
    exact ⟨rfl, rfl, rfl, State.flag_raise _ _ ⟨by decide, by decide⟩⟩
  case release =>
    intro s k h hrun hlast
    refine ⟨_, State.effect_of_outside (P := Parts.all) (excRelease_outside s k (by simp [Parts.all])), ?_⟩
    rw [excRelease_ends h hrun hlast, State.excU_releaseExc_self]
    exact ⟨rfl, rfl⟩
  case done =>
    intro s k h hrun hbusy hover
    exact ⟨_, State.effect_of_outside (P := Parts.all) (excDone_outside s k (by simp [Parts.all, Parts.emits])),
      excDone_busy h hrun hbusy hover, excDone_recs h hrun hbusy hover⟩
  case sample =>
    intro s k vmon imon limit sense h
    exact ⟨_, State.effect_of_outside (P := Parts.all)
      (excMonitorSample_outside s k vmon imon limit sense (by simp [Parts.all, Parts.emits])),
      excMonitorSample_shows vmon imon limit h sense⟩
  case fault =>
    intro s k b h hlo hhi hw hd
    refine ⟨_, State.effect_of_outside (P := Parts.all) (excFault_outside s k b (by simp [Parts.all, Parts.emits])), ?_⟩
    rw [excFault_due h hlo hhi hw hd]
    refine ⟨s.regBit_excFaultBit k b hlo hhi, s.held_excFaultBit k b, ?_⟩
    rintro rfl
    exact s.excFaultBit_overload k

end Sys2Proof.Machine
end

section
/-!
PROOF. What reads of channels and result entries return after the updates of Machine/State.lean, and what live bits, limited records and
judged writes leave.
-/
namespace Sys2Proof.Machine

/-! ### Channels and result entries -/

section
variable (s : State) (n : Nat)

@[simp] theorem State.pchU_setPch_self (c : Pch) : (s.setPch n c).pchU n = c := Store.get_set_self _ _ _ _

@[simp] theorem State.reg_setPch (c : Pch) (a : Nat) : (s.setPch n c).reg a = s.reg a := rfl
@[simp] theorem State.flag_setPch (c : Pch) (a : Nat) (f : Field) : (s.setPch n c).flag a f = s.flag a f := rfl

theorem State.pchU_congr {s t : State} (h : t.pch = s.pch) (n : Nat) : t.pchU n = s.pchU n := by
  rw [State.pchU, State.pchU, h]

@[simp] theorem State.wchU_setWch_self (w : Wch) : (s.setWch n w).wchU n = w := Store.get_set_self _ _ _ _

@[simp] theorem State.resU_setRes_self (r : Res) : (s.setRes n r).resU n = r := Store.get_set_self _ _ _ _

theorem State.resU_congr {s t : State} (h : t.res = s.res) (n : Nat) : t.resU n = s.resU n := by
  rw [State.resU, State.resU, h]

theorem pchStat_ne_lost : Reg.PCH_STAT n ≠ Reg.DEV_EV_LOST := by
  unfold Reg.PCH_STAT Reg.DEV_EV_LOST
  omega

theorem pchStat_not_safety : ¬Parts.safety.regs (Reg.PCH_STAT n) := by
  intro hlow
  have hlt : Reg.PCH_STAT n < 0x10000 := hlow
  unfold Reg.PCH_STAT at hlt
  omega

theorem pchCfg_ne_lost : Reg.PCH_CFG n ≠ Reg.DEV_EV_LOST := by
  unfold Reg.PCH_CFG Reg.DEV_EV_LOST
  omega

theorem pchCfg_ne_pchStat (j : Nat) : Reg.PCH_CFG n ≠ Reg.PCH_STAT j := by
  unfold Reg.PCH_STAT Reg.PCH_CFG
  omega

theorem pchCfg_not_pinShown : ¬Parts.pinShown.regs (Reg.PCH_CFG n) := by
  rintro (hlost | ⟨j, hj⟩)
  · exact pchCfg_ne_lost n hlost
  · exact pchCfg_ne_pchStat n j hj

theorem pchCfg_not_safety : ¬Parts.safety.regs (Reg.PCH_CFG n) := by
  intro hlow
  have hlt : Reg.PCH_CFG n < 0x10000 := hlow
  unfold Reg.PCH_CFG at hlt
  omega

theorem pchCfg_ne_plausEff : Reg.PCH_CFG n ≠ Reg.PCH_PLAUS_EFF n := by
  unfold Reg.PCH_CFG Reg.PCH_PLAUS_EFF
  omega

theorem pchCfg_ne_convStat : Reg.PCH_CFG n ≠ Reg.PCH_CONV_STAT n := by
  unfold Reg.PCH_CFG Reg.PCH_CONV_STAT
  omega

end

/-! ### Limited records (R479) -/

/-- The parts that a record under a rate limit may write. -/
def Parts.limited : Parts :=
  { regs := (· = Reg.DEV_EV_LOST), recs := true, classLost := true, rate := true, host := true }

theorem State.emitLimited_sameBut (s : State) (type u key interval : Nat) (sideB : Bool) (now : Nat) (mk : Nat → List Int) :
    s.SameBut Parts.limited (s.emitLimited type u key interval sideB now mk) :=
  State.sameBut_of_outside (s.emitLimited_outside type u key interval sideB now mk ⟨⟨rfl, rfl, rfl, rfl⟩, rfl⟩)

/-! ### Live bits and their sticky companions -/

section
variable (s : State) (a : Nat) {live sticky : Field} (hl : Field.inWord live) (hs : Field.inWord sticky)

theorem State.pchU_setLive (live sticky : Field) (b : Bool) (n : Nat) : (s.setLive a live sticky b).pchU n = s.pchU n := by
  cases b <;> rfl

include hl in
theorem State.flag_setLive_live (hs : Field.inWord sticky) (hapart : sticky.hi < live.lo ∨ live.hi < sticky.lo) (b : Bool) :
    (s.setLive a live sticky b).flag a live = b := by
  cases b
  · exact s.flag_clear hl
  · exact (State.flag_raise_apart _ hs hl.1 hapart).trans (s.flag_raise a hl)

include hs in
theorem State.flag_setLive_sticky (live : Field) : (s.setLive a live sticky true).flag a sticky = true :=
  State.flag_raise _ a hs

include hl hs in
theorem State.flag_setLive_apart {f : Field} (hf : f.lo ≤ f.hi) (hlive : live.hi < f.lo ∨ f.hi < live.lo)
    (hsticky : sticky.hi < f.lo ∨ f.hi < sticky.lo) (b : Bool) : (s.setLive a live sticky b).flag a f = s.flag a f := by
  cases b
  · exact s.flag_clear_apart hl hf hlive
  · exact (State.flag_raise_apart _ hs hf hsticky).trans (s.flag_raise_apart hl hf hlive)

end

/-! ### Judged writes (R27, R328) -/

section
variable (s : State) (a : Nat) (mask reject v : Word) (st : Nat) (f : Field)

theorem State.pch_noteLate : (s.noteLate a mask).pch = s.pch := by
  unfold State.noteLate
  split <;> rfl

theorem State.reg_writeBits_self : (s.writeBits a mask reject v).reg a = judged (s.reg a) mask reject v :=
  State.reg_setReg_self _ _ _

theorem State.reg_writeJudged_self (h : a ≠ st) : (s.writeJudged a mask reject v st f).reg a = judged (s.reg a) mask reject v := by
  unfold State.writeJudged
  split
  · exact s.reg_writeBits_self a mask reject v
  · exact (State.reg_raise_other _ h f).trans (s.reg_writeBits_self a mask reject v)

theorem State.flag_writeJudged (hf : Field.inWord f) (h : reject ≠ 0) : (s.writeJudged a mask reject v st f).flag st f = true := by
  rw [State.writeJudged, if_neg h]
  exact State.flag_raise _ _ hf

theorem State.pchU_writeJudged (n : Nat) : (s.writeJudged a mask reject v st f).pchU n = s.pchU n := by
  have hbits : (s.writeBits a mask reject v).pchU n = s.pchU n := State.pchU_congr (s.pch_noteLate a _) n
  unfold State.writeJudged
  split <;> exact hbits

end

end Sys2Proof.Machine
end

section
/-!
PROOF. The comparators of the precision inputs and the changes of PCH_CFG; O15 settled.
-/
namespace Sys2Proof.Machine

/-! ### PIN_RANGE (R20, R32) -/

section
variable (s : State) (n : Nat)

/-- A channel with PIN_RANGE showing `now`. -/
def State.pinSet (s : State) (n : Nat) (now : Bool) : State :=
  (s.setPch n { s.pchU n with pinSeen := (s.pchU n).pinSeen || now }).setLive (Reg.PCH_STAT n) Fld.PCH_STAT_PIN_RANGE
    Fld.PCH_STAT_PINR_S now

theorem State.pinUpdate_eq : s.pinUpdate n =
    if s.pinBeyond n == s.flag (Reg.PCH_STAT n) Fld.PCH_STAT_PIN_RANGE then s
    else (s.pinSet n (s.pinBeyond n)).emitLimited 0x0111 n n (secTime 1) (!s.pinBeyond n) (bit (s.pinBeyond n))
      (fun k => [n, bit (s.pinBeyond n), k]) := rfl

/-- Of the channel's own state, PIN_RANGE's update touches what the result to come carries alone. -/
theorem State.pchU_pinUpdate : ∃ seen, (s.pinUpdate n).pchU n = { s.pchU n with pinSeen := seen } := by
  rw [State.pinUpdate_eq]
  split
  · exact ⟨_, rfl⟩
  · have same := (s.pinSet n (s.pinBeyond n)).emitLimited_sameBut 0x0111 n n (secTime 1) (!s.pinBeyond n) (bit (s.pinBeyond n))
      (fun k => [n, bit (s.pinBeyond n), k])
    rw [State.pchU_congr (same.pch rfl), State.pinSet, State.pchU_setLive, State.pchU_setPch_self]
    exact ⟨_, rfl⟩

theorem State.flag_pinUpdate_pinRange : (s.pinUpdate n).flag (Reg.PCH_STAT n) Fld.PCH_STAT_PIN_RANGE = s.pinBeyond n := by
  rw [State.pinUpdate_eq]
  split
  · next hsame => exact (beq_iff_eq.1 hsame).symm
  · rw [State.flag_congr ((State.emitLimited_sameBut _ _ _ _ _ _ _ _).reg _ (pchStat_ne_lost n)), State.pinSet]
    exact State.flag_setLive_live _ _ ⟨by decide, by decide⟩ ⟨by decide, by decide⟩ (by decide) _

theorem State.flag_pinUpdate_cfgRej :
    (s.pinUpdate n).flag (Reg.PCH_STAT n) Fld.PCH_STAT_CFG_REJ = s.flag (Reg.PCH_STAT n) Fld.PCH_STAT_CFG_REJ := by
  rw [State.pinUpdate_eq]
  split
  · rfl
  · rw [State.flag_congr ((State.emitLimited_sameBut _ _ _ _ _ _ _ _).reg _ (pchStat_ne_lost n)), State.pinSet,
      State.flag_setLive_apart _ _ ⟨by decide, by decide⟩ ⟨by decide, by decide⟩ (by decide) (by decide) (by decide),
      State.flag_setPch]

theorem State.pinUpdate_sameBut : s.SameBut Parts.pinShown (s.pinUpdate n) :=
  State.sameBut_of_outside (s.pinUpdate_outside n ⟨Parts.pinShown_emits, rfl, fun j => .inr ⟨j, rfl⟩, rfl⟩)

end

/-! ### PIN_RANGE, then SMON's look at the channel -/

section
variable (s : State) (n : Nat)

theorem State.pchU_pinVerified : ∃ seen, ((s.pinUpdate n).verifyP n).pchU n = { s.pchU n with pinSeen := seen } := by
  rw [State.pchU_congr (((s.pinUpdate n).verifyP_sameBut n).pch rfl)]
  exact s.pchU_pinUpdate n

theorem State.pchCfg_pinVerified : ((s.pinUpdate n).verifyP n).reg (Reg.PCH_CFG n) = s.reg (Reg.PCH_CFG n) :=
  (((s.pinUpdate n).verifyP_sameBut n).reg _ (pchCfg_not_safety n)).trans ((s.pinUpdate_sameBut n).reg _ (pchCfg_not_pinShown n))

theorem State.cfgRej_pinVerified : ((s.pinUpdate n).verifyP n).flag (Reg.PCH_STAT n) Fld.PCH_STAT_CFG_REJ =
    s.flag (Reg.PCH_STAT n) Fld.PCH_STAT_CFG_REJ :=
  (State.flag_congr (((s.pinUpdate n).verifyP_sameBut n).reg _ (pchStat_not_safety n)) _).trans (s.flag_pinUpdate_cfgRej n)

theorem State.resU_pinVerified (i : Nat) : ((s.pinUpdate n).verifyP n).resU i = s.resU i :=
  State.resU_congr ((((s.pinUpdate n).verifyP_sameBut n).res rfl).trans ((s.pinUpdate_sameBut n).res rfl)) i

end

/-! ### PIN_RANGE and INPUT_CLAMP as commands -/

/-- A channel with one of its balls found beyond the limit, or not. -/
def Pch.ballAt (c : Pch) (ballN beyond : Bool) : Pch :=
  if ballN then { c with beyondN := beyond } else { c with beyondP := beyond }

theorem Pch.inForce_ballAt (c : Pch) (ballN beyond : Bool) : (c.ballAt ballN beyond).inForce = c.inForce := by
  cases ballN <;> rfl

theorem Pch.beyond_ballAt (c : Pch) (ballN beyond : Bool) :
    (if ballN then (c.ballAt ballN beyond).beyondN else (c.ballAt ballN beyond).beyondP) = beyond := by
  cases ballN <;> rfl

/-- Whether a channel's inputs are grounded depends on the setting in force alone of the channel's own state. -/
theorem State.grounded_setPch (s : State) {n : Nat} {c : Pch} (h : c.inForce = (s.pchU n).inForce) :
    (s.setPch n c).grounded n = s.grounded n := by
  have hdriver : (s.setPch n c).driverOf n = s.driverOf n := by
    rw [State.driverOf, State.driverOf, State.pchU_setPch_self, h]
  have hmuted : (s.setPch n c).muted n = s.muted n := by
    rw [State.muted, State.muted, hdriver]
    rfl
  rw [State.grounded, State.grounded, State.pchU_setPch_self, h, hmuted]

section
variable {s : State} {n : Nat} (ballN beyond : Bool)

theorem pinRange_pch (h : hasPch s.fac.variant n = true) (hn : n < 64) :
    pinRange s n ballN beyond = (s.setPch n ((s.pchU n).ballAt ballN beyond)).pinUpdate n := by
  rw [pinRange, if_neg (Nat.not_le.2 hn), if_neg (by simp [h])]
  rfl

/-- PIN_RANGE of a P-channel: the ball is kept, and the bit shows whether a converted ball is beyond the limit. -/
theorem pinRange_shows (h : hasPch s.fac.variant n = true) (hn : n < 64) :
    (if ballN then ((pinRange s n ballN beyond).pchU n).beyondN else ((pinRange s n ballN beyond).pchU n).beyondP) = beyond ∧
      (pinRange s n ballN beyond).flag (Reg.PCH_STAT n) Fld.PCH_STAT_PIN_RANGE =
        (!s.grounded n && (((pinRange s n ballN beyond).pchU n).beyondP ||
          ((pinRange s n ballN beyond).pchU n).beyondN && getField Fld.PCH_CFG_MODE (s.pchU n).inForce != 1)) := by
  have hforce := (s.pchU n).inForce_ballAt ballN beyond
  obtain ⟨seen, hseen⟩ := (s.setPch n ((s.pchU n).ballAt ballN beyond)).pchU_pinUpdate n
  rw [State.pchU_setPch_self] at hseen
  rw [pinRange_pch ballN beyond h hn, State.flag_pinUpdate_pinRange, State.pinBeyond, State.grounded_setPch s hforce,
    State.pchU_setPch_self, hforce, hseen]
  exact ⟨(s.pchU n).beyond_ballAt ballN beyond, rfl⟩

/-- PIN_RANGE of a W-channel: the ball is kept, and one beyond the limit marks the sample to come. -/
theorem pinRange_wch (h : hasWch s.fac.variant n = true) :
    (if ballN then ((pinRange s (64 + n) ballN beyond).wchU n).beyondN else ((pinRange s (64 + n) ballN beyond).wchU n).beyondP) =
        beyond ∧
      (beyond = true → ((pinRange s (64 + n) ballN beyond).wchU n).pinSeen = true) := by
  have hrange : pinRange s (64 + n) ballN beyond = s.wPinRange n ballN beyond := by
    rw [pinRange, if_pos (Nat.le_add_right 64 n), Nat.add_sub_cancel_left, if_pos h]
  rw [hrange, State.wPinRange, State.wchU_setWch_self]
  cases ballN <;> exact ⟨rfl, fun hb => by simp [hb]⟩

end

/-- The clamp bit of a ball. -/
def clampField (ballN : Bool) : Field := if ballN then Fld.PCH_STAT_CLAMP_N else Fld.PCH_STAT_CLAMP_P

theorem clampField_inWord (ballN : Bool) : Field.inWord (clampField ballN) := by
  cases ballN <;> exact ⟨by decide, by decide⟩

theorem clampField_apart (ballN : Bool) :
    Fld.PCH_STAT_CLAMP_S.hi < (clampField ballN).lo ∨ (clampField ballN).hi < Fld.PCH_STAT_CLAMP_S.lo := by
  cases ballN <;> decide

theorem inputClamp_eq {s : State} {n : Nat} (h : hasPch s.fac.variant n = true) (ballN conducts : Bool) :
    inputClamp s n ballN conducts =
      if conducts && !s.flag (Reg.PCH_STAT n) (clampField ballN) then
        (s.setLive (Reg.PCH_STAT n) (clampField ballN) Fld.PCH_STAT_CLAMP_S conducts).emitLimited 0x0110 n (2 * n + bit ballN)
          (secTime 1) false 1 (fun k => [n, bit ballN, k])
      else s.setLive (Reg.PCH_STAT n) (clampField ballN) Fld.PCH_STAT_CLAMP_S conducts := by
  rw [inputClamp, if_neg (by simp [h])]
  rfl

/-- A clamp's record leaves PCH_STAT as the comparator has set it. -/
theorem flag_inputClamp {s : State} {n : Nat} (h : hasPch s.fac.variant n = true) (ballN conducts : Bool) (f : Field) :
    (inputClamp s n ballN conducts).flag (Reg.PCH_STAT n) f =
      (s.setLive (Reg.PCH_STAT n) (clampField ballN) Fld.PCH_STAT_CLAMP_S conducts).flag (Reg.PCH_STAT n) f := by
  rw [inputClamp_eq h]
  split
  · exact State.flag_congr ((State.emitLimited_sameBut _ _ _ _ _ _ _ _).reg _ (pchStat_ne_lost n)) f
  · rfl

theorem inputClamp_shows {s : State} {n : Nat} (h : hasPch s.fac.variant n = true) (ballN conducts : Bool) :
    (inputClamp s n ballN conducts).flag (Reg.PCH_STAT n) (clampField ballN) = conducts ∧
      (conducts = true → (inputClamp s n ballN conducts).flag (Reg.PCH_STAT n) Fld.PCH_STAT_CLAMP_S = true) := by
  rw [flag_inputClamp h, flag_inputClamp h]
  refine ⟨State.flag_setLive_live _ _ (clampField_inWord ballN) ⟨by decide, by decide⟩ (clampField_apart ballN) _, ?_⟩
  rintro rfl
  exact State.flag_setLive_sticky _ _ ⟨by decide, by decide⟩ _

/-! ### A change taking effect (R28, R76) -/

section
variable (s : State) (n k : Nat) (old new : Word)

/-- Channel `n` with a change in force, before the threshold, the averaging and the result start again. -/
def State.changeTaken (s : State) (n : Nat) (new : Word) : State :=
  s.setPch n { s.pchU n with inForce := new, change := false, epoch := (s.pchU n).epoch + 1, sinceCfg := 0 }

/-- The threshold in use follows the gain in force where PCH_PLAUS_TH is 0 (R61). -/
def State.plausFollows (s : State) (n : Nat) : State := if s.reg (Reg.PCH_PLAUS_TH n) = 0 then s.loadPlaus n else s

/-- A channel restarted after a change: the averaging, the result entry and the bank checker's skip. -/
def State.restarted (s : State) (n k : Nat) : State :=
  ((s.restartDiff n).restartRes n).setChk n { ((s.restartDiff n).restartRes n).chkU n with changeAt := some k }

theorem State.changeAt_eq : s.changeAt n k old new =
    ((((((s.changeTaken n new).plausFollows n).restarted n k).emitAt (baseTime k) 0x0113 n
      [n, old.toNat, new.toNat, (baseTime k).toNat]).pinUpdate n).verifyP n) := rfl

theorem State.pchU_plausFollows : (s.plausFollows n).pchU n = s.pchU n := by
  unfold State.plausFollows
  split <;> rfl

theorem State.pchCfg_plausFollows : (s.plausFollows n).reg (Reg.PCH_CFG n) = s.reg (Reg.PCH_CFG n) := by
  unfold State.plausFollows
  split
  · exact s.reg_setReg_other (pchCfg_ne_plausEff n) _
  · rfl

theorem State.pchU_restarted : (s.restarted n k).pchU n = { s.pchU n with diffSum := 0, diffCnt := 0 } :=
  State.pchU_setPch_self _ _ _

theorem State.pchCfg_restarted : (s.restarted n k).reg (Reg.PCH_CFG n) = s.reg (Reg.PCH_CFG n) := by
  have hdiff : (s.restarted n k).reg (Reg.PCH_CFG n) = (s.restartDiff n).reg (Reg.PCH_CFG n) := rfl
  rw [hdiff, State.restartDiff, State.reg_clear_other _ (pchCfg_ne_convStat n), State.reg_setPch]

theorem State.stale_restarted : ((s.restarted n k).resU n).stale = true := by
  have hres : (s.restarted n k).resU n = { (s.restartDiff n).resU n with stale := true } := State.resU_setRes_self _ _ _
  rw [hres]

/-- A change that takes effect: the new setting is in force, the epoch has advanced and the latest result is stale. -/
theorem State.changeAt_leaves :
    ((s.changeAt n k old new).pchU n).inForce = new ∧ ((s.changeAt n k old new).pchU n).epoch = (s.pchU n).epoch + 1 ∧
      ((s.changeAt n k old new).resU n).stale = true ∧ (s.changeAt n k old new).reg (Reg.PCH_CFG n) = s.reg (Reg.PCH_CFG n) := by
  rw [State.changeAt_eq, State.emitAt]
  obtain ⟨seen, hseen⟩ := State.pchU_pinVerified ((((s.changeTaken n new).plausFollows n).restarted n k).push
    (mkRec 0x0113 n (baseTime k) [n, old.toNat, new.toNat, (baseTime k).toNat])) n
  rw [hseen, State.resU_pinVerified, State.pchCfg_pinVerified, State.pchU_congr (State.push_pch _ _),
    State.resU_congr (State.push_res _ _), State.push_reg _ _ (pchCfg_ne_lost n), State.pchU_restarted, State.pchU_plausFollows,
    State.pchCfg_restarted, State.pchCfg_plausFollows, State.changeTaken, State.pchU_setPch_self]
  exact ⟨rfl, rfl, State.stale_restarted _ _ _, rfl⟩

end

theorem cfgChange_changes {s : State} {n : Nat} {new : Word} (h : hasPch s.fac.variant n = true) (hc : (s.pchU n).change = true)
    (hnew : new = ((s.pchU n).inForce &&& ~~~cfgChangeMask) ||| (s.regBy s.nextBoundary (Reg.PCH_CFG n) &&& cfgChangeMask))
    (hne : new ≠ (s.pchU n).inForce) :
    cfgChange s n = (s.changeAt n (s.baseIdx.toNat + 1) (s.pchU n).inForce new).setPch n
      { (s.changeAt n (s.baseIdx.toNat + 1) (s.pchU n).inForce new).pchU n with
        change := new &&& cfgChangeMask !=
          (s.changeAt n (s.baseIdx.toNat + 1) (s.pchU n).inForce new).reg (Reg.PCH_CFG n) &&& cfgChangeMask } := by
  rw [cfgChange, ← hnew, if_neg (by simp [h, hc, hne])]

/-- CFG_CHANGE: what has been written by the boundary is in force; a later write still waits. -/
theorem cfgChange_leaves {s : State} {n : Nat} {new : Word} (h : hasPch s.fac.variant n = true) (hc : (s.pchU n).change = true)
    (hnew : new = ((s.pchU n).inForce &&& ~~~cfgChangeMask) ||| (s.regBy s.nextBoundary (Reg.PCH_CFG n) &&& cfgChangeMask))
    (hne : new ≠ (s.pchU n).inForce) :
    ((cfgChange s n).pchU n).inForce = new ∧
      (((cfgChange s n).pchU n).change = true ↔ new &&& cfgChangeMask ≠ s.reg (Reg.PCH_CFG n) &&& cfgChangeMask) ∧
      ((cfgChange s n).pchU n).epoch = (s.pchU n).epoch + 1 ∧ ((cfgChange s n).resU n).stale = true := by
  obtain ⟨hforce, hepoch, hstale, hcfg⟩ := s.changeAt_leaves n (s.baseIdx.toNat + 1) (s.pchU n).inForce new
  rw [cfgChange_changes h hc hnew hne, State.pchU_setPch_self, hcfg]
  exact ⟨hforce, bne_iff_ne, hepoch, hstale⟩

/-! ### A write of PCH_CFG (R27, R28) -/

/-- Channel `n` after `w` has been written: in force before the first base sample has passed, else where no change is to wait. -/
def State.cfgTaken (s : State) (n : Nat) (w : Word) : State :=
  if !(s.pchU n).passed then s.setPch n { s.pchU n with inForce := w }
  else s.setPch n { s.pchU n with
    inForce := ((s.pchU n).inForce &&& cfgChangeMask) ||| (w &&& ~~~cfgChangeMask),
    change := (s.pchU n).inForce &&& cfgChangeMask != w &&& cfgChangeMask }

/-- The open-wire bit of a ball. -/
def openField (ballN : Bool) : Field := if ballN then Fld.PCH_STAT_OPEN_N else Fld.PCH_STAT_OPEN_P

theorem openField_inWord (ballN : Bool) : Field.inWord (openField ballN) := by
  cases ballN <;> exact ⟨by decide, by decide⟩

theorem openField_apart (ballN : Bool) :
    (openField ballN).hi < Fld.PCH_STAT_CFG_REJ.lo ∨ Fld.PCH_STAT_CFG_REJ.hi < (openField ballN).lo := by
  cases ballN <;> decide

theorem State.openBall_eq (s : State) (n : Nat) (ballN opened : Bool) : s.openBall n ballN opened =
    if s.flag (Reg.PCH_STAT n) (openField ballN) == opened then s
    else (s.setLive (Reg.PCH_STAT n) (openField ballN) Fld.PCH_STAT_OPEN_S opened).emitLimited 0x0112 n (2 * n + bit ballN) (secTime 1)
      (!opened) (bit opened) (fun k => [n, bit ballN, bit opened, k]) := rfl

/-- With OW_MODE = OFF neither ball reads open (R30). -/
def State.openOff (s : State) (n : Nat) (w : Word) : State :=
  if getField Fld.PCH_CFG_OW_MODE w = 0 then (s.openBall n false false).openBall n true false else s

theorem pchCfgWritten_eq (s : State) (n : Nat) : pchCfgWritten s n =
    (((s.cfgTaken n (s.reg (Reg.PCH_CFG n))).openOff n (s.reg (Reg.PCH_CFG n))).pinUpdate n).verifyP n := rfl

/-- The parts that an open-wire bit's judgement may write. -/
def Parts.ballJudged : Parts :=
  { regs := fun r => r = Reg.DEV_EV_LOST ∨ each Reg.PCH_STAT r, recs := true, classLost := true, rate := true, host := true }

section
variable (s : State) (n : Nat) (w : Word)

theorem State.openBall_sameBut (ballN opened : Bool) : s.SameBut Parts.ballJudged (s.openBall n ballN opened) :=
  State.sameBut_of_outside (s.openBall_outside n ballN opened ⟨⟨rfl, rfl, rfl, .inl rfl⟩, rfl, fun j => .inr ⟨j, rfl⟩⟩)

theorem State.flag_openBall_cfgRej (ballN opened : Bool) : (s.openBall n ballN opened).flag (Reg.PCH_STAT n) Fld.PCH_STAT_CFG_REJ =
    s.flag (Reg.PCH_STAT n) Fld.PCH_STAT_CFG_REJ := by
  rw [State.openBall_eq]
  split
  · rfl
  · rw [State.flag_congr ((State.emitLimited_sameBut _ _ _ _ _ _ _ _).reg _ (pchStat_ne_lost n))]
    exact State.flag_setLive_apart _ _ (openField_inWord ballN) ⟨by decide, by decide⟩ (by decide) (openField_apart ballN) (by decide) _

theorem State.pchU_openOff : (s.openOff n w).pchU n = s.pchU n := by
  unfold State.openOff
  split
  · rw [State.pchU_congr ((State.openBall_sameBut _ n _ _).pch rfl), State.pchU_congr ((State.openBall_sameBut _ n _ _).pch rfl)]
  · rfl

theorem State.pchCfg_openOff : (s.openOff n w).reg (Reg.PCH_CFG n) = s.reg (Reg.PCH_CFG n) := by
  unfold State.openOff
  split
  · rw [(State.openBall_sameBut _ n _ _).reg _ (pchCfg_not_pinShown n), (State.openBall_sameBut _ n _ _).reg _ (pchCfg_not_pinShown n)]
  · rfl

theorem State.cfgRej_openOff :
    (s.openOff n w).flag (Reg.PCH_STAT n) Fld.PCH_STAT_CFG_REJ = s.flag (Reg.PCH_STAT n) Fld.PCH_STAT_CFG_REJ := by
  unfold State.openOff
  split
  · rw [State.flag_openBall_cfgRej, State.flag_openBall_cfgRej]
  · rfl

theorem State.reg_cfgTaken (a : Nat) : (s.cfgTaken n w).reg a = s.reg a := by
  unfold State.cfgTaken
  split <;> rfl

theorem State.inForce_cfgTaken_before (h : (s.pchU n).passed = false) : ((s.cfgTaken n w).pchU n).inForce = w := by
  rw [State.cfgTaken, if_pos (by simp [h]), State.pchU_setPch_self]

/-- Of two words joined at a mask, the masked bits are those of the first. -/
theorem masked_join (x y m : Word) : ((x &&& m) ||| (y &&& ~~~m)) &&& m = x &&& m := by
  ext i hi
  simp only [BitVec.getElem_and, BitVec.getElem_or, BitVec.getElem_not]
  cases m[i] <;> simp

theorem State.cfgTaken_after (h : (s.pchU n).passed = true) :
    ((s.cfgTaken n w).pchU n).inForce &&& cfgChangeMask = (s.pchU n).inForce &&& cfgChangeMask ∧
      (((s.cfgTaken n w).pchU n).change = true ↔ (s.pchU n).inForce &&& cfgChangeMask ≠ w &&& cfgChangeMask) := by
  rw [State.cfgTaken, if_neg (by simp [h]), State.pchU_setPch_self]
  exact ⟨masked_join _ _ _, bne_iff_ne⟩

/-- What follows a write of PCH_CFG leaves PCH_CFG and CFG_REJ as written, and the channel takes the setting. -/
theorem pchCfgWritten_leaves :
    (pchCfgWritten s n).reg (Reg.PCH_CFG n) = s.reg (Reg.PCH_CFG n) ∧
      (pchCfgWritten s n).flag (Reg.PCH_STAT n) Fld.PCH_STAT_CFG_REJ = s.flag (Reg.PCH_STAT n) Fld.PCH_STAT_CFG_REJ ∧
      ∃ seen, (pchCfgWritten s n).pchU n = { (s.cfgTaken n (s.reg (Reg.PCH_CFG n))).pchU n with pinSeen := seen } := by
  have hpch := ((s.cfgTaken n (s.reg (Reg.PCH_CFG n))).openOff n (s.reg (Reg.PCH_CFG n))).pchU_pinVerified n
  rw [State.pchU_openOff] at hpch
  rw [pchCfgWritten_eq, State.pchCfg_pinVerified, State.pchCfg_openOff, State.reg_cfgTaken, State.cfgRej_pinVerified,
    State.cfgRej_openOff, State.flag_congr (State.reg_cfgTaken _ _ _ _)]
  exact ⟨rfl, rfl, hpch⟩

end

theorem pchCfgWrite_present {s : State} {n : Nat} (h : hasPch s.fac.variant n = true) (v : Word) :
    pchCfgWrite s n v = pchCfgWritten (s.writeJudged (Reg.PCH_CFG n) pchCfgMask
      (pchCfgReject s.inService (s.reg (Reg.PCH_CFG n)) v) v (Reg.PCH_STAT n) Fld.PCH_STAT_CFG_REJ) n := by
  rw [pchCfgWrite, if_neg (by simp [h])]

/-- A write of PCH_CFG: judged field by field, in force at once before the first sample, else waiting where a change begins. -/
theorem pchCfgWrite_leaves {s : State} {n : Nat} (h : hasPch s.fac.variant n = true) (v : Word) :
    (pchCfgWrite s n v).reg (Reg.PCH_CFG n) =
        judged (s.reg (Reg.PCH_CFG n)) pchCfgMask (pchCfgReject s.inService (s.reg (Reg.PCH_CFG n)) v) v ∧
      (pchCfgReject s.inService (s.reg (Reg.PCH_CFG n)) v ≠ 0 →
        (pchCfgWrite s n v).flag (Reg.PCH_STAT n) Fld.PCH_STAT_CFG_REJ = true) ∧
      ((s.pchU n).passed = false → ((pchCfgWrite s n v).pchU n).inForce = (pchCfgWrite s n v).reg (Reg.PCH_CFG n)) ∧
      ((s.pchU n).passed = true →
        ((pchCfgWrite s n v).pchU n).inForce &&& cfgChangeMask = (s.pchU n).inForce &&& cfgChangeMask ∧
        (((pchCfgWrite s n v).pchU n).change = true ↔
          (s.pchU n).inForce &&& cfgChangeMask ≠ (pchCfgWrite s n v).reg (Reg.PCH_CFG n) &&& cfgChangeMask)) := by
  rw [pchCfgWrite_present h]
  generalize hrej : pchCfgReject s.inService (s.reg (Reg.PCH_CFG n)) v = rej
  obtain ⟨hcfg, hflag, seen, hpch⟩ := pchCfgWritten_leaves
    (s.writeJudged (Reg.PCH_CFG n) pchCfgMask rej v (Reg.PCH_STAT n) Fld.PCH_STAT_CFG_REJ) n
  have hunit := s.pchU_writeJudged (Reg.PCH_CFG n) pchCfgMask rej v (Reg.PCH_STAT n) Fld.PCH_STAT_CFG_REJ n
  rw [hcfg, hflag, hpch, ← hunit]
  exact ⟨State.reg_writeJudged_self _ _ _ _ _ _ _ (pchCfg_ne_pchStat n n), State.flag_writeJudged _ _ _ _ _ _ _ ⟨by decide, by decide⟩,
    State.inForce_cfgTaken_before _ _ _, State.cfgTaken_after _ _ _⟩

/-- Settles O15: each row's meaning has a frame, so it is the row's answer; the lemmas on the comparators, on changes and on writes of
PCH_CFG say what it leaves. -/
theorem pinCommands : Obligations.PinCommands := by
  unfold Obligations.PinCommands
  refine ⟨?pch, ?wch, ?clamp, ?change, ?write⟩
  case pch =>
    intro s n ballN beyond h hn
    exact ⟨_, State.effect_of_outside (P := Parts.all) (pinRange_outside s n ballN beyond (by simp [Parts.all, Parts.emits])),
      pinRange_shows ballN beyond h hn⟩
  case wch =>
    intro s n ballN beyond h
    exact ⟨_, State.effect_of_outside (P := Parts.all) (pinRange_outside s (64 + n) ballN beyond (by simp [Parts.all, Parts.emits])),
      pinRange_wch ballN beyond h⟩
  case clamp =>
    intro s n ballN conducts h
    exact ⟨_, State.effect_of_outside (P := Parts.all) (inputClamp_outside s n ballN conducts (by simp [Parts.all, Parts.emits])),
      inputClamp_shows h ballN conducts⟩
  case change =>
    intro s n new h hc hnew hne
    exact ⟨_, State.effect_of_outside (P := Parts.all) (cfgChange_outside s n (by simp [Parts.all, Parts.emits])),
      cfgChange_leaves h hc hnew hne⟩
  case write =>
    intro s n v hb h
    exact ⟨_, State.answer_open (P := Parts.all) hb (pchCfgWrite_outside s n v (by simp [Parts.all, Parts.emits])),
      pchCfgWrite_leaves h v⟩

end Sys2Proof.Machine
end

section
/-!
PROOF. Reads of a result entry as a register: RES_HI and RES_LO, and both by one read of 64 bits (R80); O14 settled.
-/
namespace Sys2Proof.Machine

/-! ### The entry's registers in the map (R84) -/

theorem res_lt_of_present {v : Variant} {i : Nat} (h : unitPresent v .res i = true) : i < 72 := by
  simp only [unitPresent, hasWch] at h
  split at h
  · omega
  · simp only [Bool.and_eq_true, decide_eq_true_eq] at h
    omega

theorem blockAt_resHi {i : Nat} (h : i < 72) : blockAt (Reg.RES_HI i) = some (RegBlock.res, i) := by
  have hall : ∀ i < 72, blockAt (Reg.RES_HI i) = some (RegBlock.res, i) := by decide
  exact hall i h

theorem resHi_aligned (i : Nat) : Reg.RES_HI i % 8 = 0 := by
  unfold Reg.RES_HI
  omega

theorem isAbsent_resHi {v : Variant} {i : Nat} (h : unitPresent v .res i = true) : isAbsent v (Reg.RES_HI i) = false := by
  have hlt := res_lt_of_present h
  have hhost : ¬(v = .xf6408f ∧ 0x4000 ≤ Reg.RES_HI i ∧ Reg.RES_HI i < 0x5000) := by
    unfold Reg.RES_HI
    omega
  have hpch : ¬(0x81000 ≤ Reg.RES_HI i ∧ Reg.RES_HI i < 0x82000) := by
    unfold Reg.RES_HI
    omega
  have hwch : ¬(0x82000 ≤ Reg.RES_HI i ∧ Reg.RES_HI i < 0x82100) := by
    unfold Reg.RES_HI
    omega
  rw [isAbsent, if_neg hhost, if_neg hpch, if_neg hwch, blockAt_resHi hlt]
  simp only [show RegBlock.res.kind = UnitKind.res from rfl, h, Bool.not_true]

/-! ### Reads of a register that a unit shows -/

/-- A read of a register that is neither wired nor cleared by reads, in a unit that the reader finds, returns what the unit shows. -/
theorem State.readReg_shown {s : State} {who : Reader} {off i : Nat} {b : RegBlock} {d : RegDesc} (hb : s.bootFailed = false)
    (ha : s.absentTo who off = false) (hblock : blockAt off = some (b, i)) (hreg : regAt b ((off - b.base) % b.stride) = some d)
    (hw : hardwired off = false) (hrc : d.rc = 0) :
    s.readReg who off = (s.reachAt off).showReg who b.kind i ((off - b.base) % b.stride) off := by
  obtain ⟨hmem, -, hlo, hhi⟩ := blockAt_mem hblock
  obtain ⟨hsnap, hroute⟩ := blocks_apart b hmem
  have hout : ¬(snapBase ≤ off ∧ off < 2 * snapBase) := by omega
  have hrout : ¬(routeBase ≤ off ∧ off < routeBase + 0x4000) := by omega
  simp only [State.readReg, hb, ha, if_neg hout, if_neg hrout, hblock, hreg, hw, hrc, Bool.false_and, Bool.false_eq_true, if_false,
    if_true]

/-- No register of a result entry is wired. The block is a variable, since the kernel would else evaluate the offset in it. -/
theorem hardwired_res {off i : Nat} {b : RegBlock} (hblock : blockAt off = some (b, i)) (hkind : b.kind = .res)
    (hoff : 0x50000 ≤ off) : hardwired off = false := by
  have hfixed : (decide (off < 0x40) || off == Reg.FAB_DIE_LO || off == Reg.FAB_DIE_HI || off == Reg.ENG_EPC ||
      off == Reg.ENG_EPW) = false := by
    simp only [Bool.or_eq_false_iff, decide_eq_false_iff_not, beq_eq_false_iff_ne]
    unfold Reg.FAB_DIE_LO Reg.FAB_DIE_HI Reg.ENG_EPC Reg.ENG_EPW
    omega
  rw [hardwired, hfixed, Bool.false_or, hblock]
  cases hreg : regAt b ((off - b.base) % b.stride) <;> simp [hreg, hkind]

/-- A read of RES_HI, or of RES_LO, of an entry that the device has returns what the entry shows there. -/
theorem State.readReg_res {s : State} {i rel : Nat} (who : Reader) (hb : s.bootFailed = false)
    (h : unitPresent s.fac.variant .res i = true) (hrel : rel = 0 ∨ rel = 4) :
    s.readReg who (Reg.RES_HI i + rel) = s.showReg who .res i rel (Reg.RES_HI i + rel) := by
  have hkind : RegBlock.res.kind = UnitKind.res := rfl
  have hblock : blockAt (Reg.RES_HI i + rel) = some (RegBlock.res, i) := by
    have hhi := blockAt_resHi (res_lt_of_present h)
    rcases hrel with rfl | rfl
    · exact hhi
    · exact (blockAt_add_four (resHi_aligned i)).trans hhi
  have habs : isAbsent s.fac.variant (Reg.RES_HI i + rel) = false := by
    rcases hrel with rfl | rfl
    · exact isAbsent_resHi h
    · exact (isAbsent_add_four (resHi_aligned i)).trans (isAbsent_resHi h)
  have hunit : (Reg.RES_HI i + rel - RegBlock.res.base) % RegBlock.res.stride = rel := by
    unfold Reg.RES_HI
    simp only [RegBlock.res]
    omega
  obtain ⟨d, hd, hrc⟩ : ∃ d, regAt RegBlock.res rel = some d ∧ d.rc = 0 := by
    rcases hrel with rfl | rfl <;> exact ⟨_, rfl, rfl⟩
  have habsent : s.absentTo who (Reg.RES_HI i + rel) = false := by simp [State.absentTo, habs, hblock, hkind]
  have hreach : s.reachAt (Reg.RES_HI i + rel) = s := by simp [State.reachAt, hblock, hkind, blockGate]
  have hwired : hardwired (Reg.RES_HI i + rel) = false := hardwired_res hblock hkind (by unfold Reg.RES_HI; omega)
  rw [State.readReg_shown hb habsent hblock (by rw [hunit, hd]) hwired hrc, hreach, hkind, hunit]

theorem State.readReg_resHi {s : State} {i : Nat} (who : Reader) (hb : s.bootFailed = false)
    (h : unitPresent s.fac.variant .res i = true) : s.readReg who (Reg.RES_HI i) = s.readResHi who i :=
  State.readReg_res who hb h (.inl rfl)

theorem State.readReg_resLo {s : State} {i : Nat} (who : Reader) (hb : s.bootFailed = false)
    (h : unitPresent s.fac.variant .res i = true) : s.readReg who (Reg.RES_HI i + 4) = s.readResLo who i :=
  State.readReg_res who hb h (.inr rfl)

/-! ### 64-bit reads (R80) -/

theorem res64Read_all (s : State) (who : Reader) (i : Nat) : (res64Read s who i).outside Parts.all = s.outside Parts.all :=
  res64Read_outside s who i (by simp [Parts.all])

section
variable {s : State} (who : Reader) {i : Nat}

theorem State.out_readResHi : (s.readResHi who i).2.out = s.out := rfl

theorem State.out_readResLo : (s.readResLo who i).2.out = s.out := by
  unfold State.readResLo
  dsimp only
  split <;> rfl

/-- RES_64_READ of an entry that the device has reads RES_LO in the state that its read of RES_HI has latched. -/
theorem res64Read_present (h : unitPresent s.fac.variant .res i = true) :
    res64Read s who i = ((s.readResHi who i).2.readResLo who i).2.returns who (Reg.RES_HI i)
      ((s.readResHi who i).1 + 2 ^ 32 * ((s.readResHi who i).2.readResLo who i).1) := by
  rw [res64Read, if_neg (by simp [h])]

theorem res64Read_out (h : unitPresent s.fac.variant .res i = true) :
    (res64Read s who i).out =
      .regData who (Reg.RES_HI i) ((s.readResHi who i).1 + 2 ^ 32 * ((s.readResHi who i).2.readResLo who i).1) :: s.out := by
  rw [res64Read_present who h, State.returns, State.put, State.out_readResLo, State.out_readResHi]

/-- A 64-bit read of the register RES_HI is RES_64_READ. -/
theorem readClear_resHi_eq_res64Read (hb : s.bootFailed = false) (h : unitPresent s.fac.variant .res i = true) :
    readClear s who (Reg.RES_HI i) 8 = res64Read s who i := by
  have hacc : accepted (Reg.RES_HI i) 8 = true := by simp [accepted, resHi_aligned]
  have hlo : (s.readResHi who i).2.readReg who (Reg.RES_HI i + 4) = (s.readResHi who i).2.readResLo who i :=
    State.readReg_resLo who hb h
  rw [res64Read_present who h, readClear, State.readAccess, if_pos hacc, State.readReg_resHi who hb h]
  simp only [hlo]
  rfl

end

/-- Settles O14: RES_64_READ reads RES_LO in the state that its read of RES_HI has latched, and the register's read of 64 bits is that
row. -/
theorem res64OneLatch : Obligations.Res64OneLatch := by
  unfold Obligations.Res64OneLatch
  refine ⟨?row, ?register⟩
  case row =>
    intro s who i hb h
    exact ⟨_, State.answer_open hb (res64Read_all s who i), res64Read_out who h⟩
  case register =>
    intro s who i hb h
    have hread := readClear_resHi_eq_res64Read who hb h
    refine ⟨readClear s who (Reg.RES_HI i) 8, State.effect_of_outside (P := Parts.all) ?_, ?_⟩
    · rw [hread, res64Read_all]
    · rw [hread]
      exact res64Read_out who h

end Sys2Proof.Machine
end

section
/-!
PROOF. The fusion unit of a P-channel: UNCHK, the mean of f - c, the end of an overrange condition, and the writes of PCH_FUS_CFG,
PCH_PLAUS_TH and PCH_FMT; O18 settled.
-/
namespace Sys2Proof.Machine

/-! ### Registers from the P-channels' blocks on -/

section
variable (s : State) {a : Nat} (ha : 0x10000 ≤ a)
include ha

theorem ne_lost_of_channelReg : a ≠ Reg.DEV_EV_LOST := by
  unfold Reg.DEV_EV_LOST
  omega

/-- SMON's judgement of a channel writes none of them. -/
theorem State.reg_verifyP_channel (n : Nat) : (s.verifyP n).reg a = s.reg a :=
  (s.verifyP_sameBut n).reg a (Nat.not_lt.mpr ha)

end

theorem State.reg_setLive_other (s : State) {a b : Nat} (h : b ≠ a) (live sticky : Field) (on : Bool) :
    (s.setLive a live sticky on).reg b = s.reg b := by
  cases on
  · exact s.reg_clear_other h live
  · exact (State.reg_raise_other _ h sticky).trans (s.reg_raise_other h live)

section
variable (n : Nat)

theorem pchStat_channelReg : 0x10000 ≤ Reg.PCH_STAT n := by
  unfold Reg.PCH_STAT
  omega

theorem pchConvStat_channelReg : 0x10000 ≤ Reg.PCH_CONV_STAT n := by
  unfold Reg.PCH_CONV_STAT
  omega

theorem pchFusCfg_channelReg : 0x10000 ≤ Reg.PCH_FUS_CFG n := by
  unfold Reg.PCH_FUS_CFG
  omega

theorem pchStat_ne_convStat : Reg.PCH_STAT n ≠ Reg.PCH_CONV_STAT n := by
  unfold Reg.PCH_STAT Reg.PCH_CONV_STAT
  omega

theorem pchFusCfg_ne_convStat : Reg.PCH_FUS_CFG n ≠ Reg.PCH_CONV_STAT n := by
  unfold Reg.PCH_FUS_CFG Reg.PCH_CONV_STAT
  omega

theorem pchFusDiff_ne_convStat : Reg.PCH_FUS_DIFF n ≠ Reg.PCH_CONV_STAT n := by
  unfold Reg.PCH_FUS_DIFF Reg.PCH_CONV_STAT
  omega

theorem pchFusCfg_ne_pchStat : Reg.PCH_FUS_CFG n ≠ Reg.PCH_STAT n := by
  unfold Reg.PCH_FUS_CFG Reg.PCH_STAT
  omega

theorem pchFmt_ne_pchStat : Reg.PCH_FMT n ≠ Reg.PCH_STAT n := by
  unfold Reg.PCH_FMT Reg.PCH_STAT
  omega

end

/-! ### UNCHK (R64) -/

section
variable (s : State) (n cause : Nat)

/-- UNCHK reads 1 once it has been set, whether it was set before or not. -/
theorem State.flag_setFusionUnchecked :
    (s.setFusionUnchecked n cause).flag (Reg.PCH_CONV_STAT n) Fld.PCH_CONV_STAT_UNCHK = true := by
  have hreg := pchConvStat_channelReg n
  unfold State.setFusionUnchecked
  split
  · assumption
  · dsimp only
    rw [State.flag_congr (State.reg_verifyP_channel _ hreg n),
      State.flag_congr (State.emit_reg _ _ _ _ (ne_lost_of_channelReg hreg))]
    exact State.flag_setLive_live s _ ⟨by decide, by decide⟩ ⟨by decide, by decide⟩ (by decide) true

/-- Of the channels' registers, UNCHK is written in PCH_CONV_STAT alone. -/
theorem State.reg_setFusionUnchecked {a : Nat} (ha : 0x10000 ≤ a) (hne : a ≠ Reg.PCH_CONV_STAT n) :
    (s.setFusionUnchecked n cause).reg a = s.reg a := by
  unfold State.setFusionUnchecked
  split
  · rfl
  · dsimp only
    rw [State.reg_verifyP_channel _ ha, State.emit_reg _ _ _ _ (ne_lost_of_channelReg ha), s.reg_setLive_other hne]

end

theorem fusionUnchecked_due {s : State} {n : Nat} (h : hasPch s.fac.variant n = true) (hd : 2560 ≤ (s.pchU n).noElig) :
    fusionUnchecked s n = s.setFusionUnchecked n 0 := by
  rw [fusionUnchecked, if_pos (by simp [h, hd])]

/-! ### The mean of f - c (R59) -/

/-- The mean that PCH_FUS_DIFF shows, as a signed word. -/
def Pch.diffMean (c : Pch) : Word := BitVec.ofInt 32 (clampInt (-(2 ^ 31)) (2 ^ 31 - 1) (c.diffSum.fdiv c.diffCnt))

section
variable {s : State} {n : Nat} (h : hasPch s.fac.variant n = true) (hd : 65536 ≤ (s.pchU n).diffCnt)
include h hd

theorem fusDiffUpdate_due : fusDiffUpdate s n =
    ((s.setReg (Reg.PCH_FUS_DIFF n) (s.pchU n).diffMean).setPch n { s.pchU n with diffSum := 0, diffCnt := 0 }).raise
      (Reg.PCH_CONV_STAT n) Fld.PCH_CONV_STAT_DIFF_VALID := by
  rw [fusDiffUpdate, if_neg (by simp [h]; omega)]
  rfl

/-- The mean is shown and valid, and the averaging starts anew. -/
theorem fusDiffUpdate_leaves :
    (fusDiffUpdate s n).reg (Reg.PCH_FUS_DIFF n) = (s.pchU n).diffMean ∧
      (fusDiffUpdate s n).flag (Reg.PCH_CONV_STAT n) Fld.PCH_CONV_STAT_DIFF_VALID = true ∧
      (fusDiffUpdate s n).pchU n = { s.pchU n with diffSum := 0, diffCnt := 0 } := by
  rw [fusDiffUpdate_due h hd]
  refine ⟨?_, State.flag_raise _ _ ⟨by decide, by decide⟩, State.pchU_setPch_self _ n _⟩
  rw [State.reg_raise_other _ (pchFusDiff_ne_convStat n), State.reg_setPch, State.reg_setReg_self]

end

/-! ### The end of an overrange condition (R71) -/

/-- The first record of a clearing side is written at once, with the suppressed count kept (R479). -/
theorem State.emitLimited_recs_first {s : State} {type key : Nat} (u interval now : Nat) (mk : Nat → List Int)
    (hlast : (s.rateKey type key).lastB = none) (hroom : s.recsFull = false) :
    (s.emitLimited type u key interval true now mk).recs = s.recs ++ [mkRec type u s.time (mk (s.rateKey type key).suppB)] := by
  simp only [State.emitLimited, hlast, if_true]
  exact State.emit_recs _ _ _ _ hroom

/-- The record of the end of channel `n`'s overrange condition, but for the count of records held back. -/
def Pch.overrangeEnd (c : Pch) (n held : Nat) : List Int := [n, 0, if c.ovrNeg then -1 else 1, c.ovrCause, held]

section
variable {s : State} {n : Nat} (h : hasPch s.fac.variant n = true) (ho : (s.pchU n).overrange = true)
  (hq : 256 ≤ (s.pchU n).quiet)
include h ho hq

theorem overrangeLeave_due : overrangeLeave s n =
    (s.setPch n { s.pchU n with overrange := false }).emitLimited 0x0114 n n (secTime 1) true 0 fun x => (s.pchU n).overrangeEnd n x := by
  rw [overrangeLeave, if_neg (by simp [h, ho]; omega)]
  rfl

theorem overrangeLeave_overrange : ((overrangeLeave s n).pchU n).overrange = false := by
  rw [overrangeLeave_due h ho hq, State.pchU_congr ((State.emitLimited_sameBut _ _ _ _ _ _ _ _).pch rfl),
    State.pchU_setPch_self]

theorem overrangeLeave_recs (hroom : s.recsFull = false) (hlast : (s.rateKey 0x0114 n).lastB = none) :
    (overrangeLeave s n).recs =
      s.recs ++ [mkRec 0x0114 n s.time ((s.pchU n).overrangeEnd n (s.rateKey 0x0114 n).suppB)] := by
  rw [overrangeLeave_due h ho hq]
  exact State.emitLimited_recs_first (s := s.setPch n { s.pchU n with overrange := false }) n _ _ _ hlast hroom

end

/-! ### A write of PCH_FUS_CFG (R57, R62, R64) -/

/-- The mismatches that the window of M samples counts, newest first. -/
def State.mismCounted (s : State) (n : Nat) : List Nat := ((s.pchU n).window.take (s.mismWindow n)).filterMap id

/-- A change of FORCE starts the averaging again (R59). -/
def State.forceTaken (s : State) (n : Nat) (old new : Word) : State :=
  if getField Fld.PCH_FUS_CFG_FORCE new != getField Fld.PCH_FUS_CFG_FORCE old then s.restartDiff n else s

/-- The count of mismatches shown, and UNCHK where PL_EN is 0 (R62, R64). -/
def State.plausShown (s : State) (n : Nat) (new : Word) : State :=
  let u := s.setFld (Reg.PCH_CONV_STAT n) Fld.PCH_CONV_STAT_MISM (min (s.mismCounted n).length 255)
  if getField Fld.PCH_FUS_CFG_PL_EN new = 0 then u.setFusionUnchecked n 1 else u

/-- A fusion fault where the mismatches `counted` reach FUS_N (R62). -/
def State.mismJudged (s : State) (n : Nat) (counted : List Nat) (new : Word) : State :=
  if !s.flag (Reg.PCH_CONV_STAT n) Fld.PCH_CONV_STAT_FAULT && counted.length ≥ getField Fld.PCH_FUS_CFG_FUS_N new &&
      counted.length > 0 then
    let firstK := counted.getLast?.getD 0
    let s := s.setLive (Reg.PCH_CONV_STAT n) Fld.PCH_CONV_STAT_FAULT Fld.PCH_CONV_STAT_FAULT_S true
    let s := s.setPch n { s.pchU n with faultFrom := some firstK, faultTo := none }
    (s.emitSafetyHeld 0x0120 n [n, getField Fld.PCH_CFG_GAIN (s.pchU n).inForce, (baseTime firstK).toNat, counted.length,
      (s.reg (Reg.PCH_PLAUS_EFF n)).toNat, (s.pchU n).lastDiff]).verifyP n
  else s

/-- What follows a write of PCH_FUS_CFG over `old`. -/
def State.fusCfgTaken (s : State) (n : Nat) (old : Word) : State :=
  let new := s.reg (Reg.PCH_FUS_CFG n)
  let u := s.forceTaken n old new
  (u.plausShown n new).mismJudged n (u.mismCounted n) new

theorem pchFusCfgWrite_present {s : State} {n : Nat} (h : hasPch s.fac.variant n = true) (v : Word) :
    pchFusCfgWrite s n v = (s.writeJudged (Reg.PCH_FUS_CFG n) 0xE7FF003F
      (pchFusCfgReject s.inService (s.reg (Reg.PCH_FUS_CFG n)) v) v (Reg.PCH_STAT n) Fld.PCH_STAT_CFG_REJ).fusCfgTaken n
        (s.reg (Reg.PCH_FUS_CFG n)) := by
  rw [pchFusCfgWrite, if_neg (by simp [h])]
  rfl

section
variable (s : State) (n : Nat) (old new : Word) (counted : List Nat) {a : Nat} (hne : a ≠ Reg.PCH_CONV_STAT n)
include hne

theorem State.reg_forceTaken : (s.forceTaken n old new).reg a = s.reg a := by
  unfold State.forceTaken
  split
  · rw [State.restartDiff, State.reg_clear_other _ hne, State.reg_setPch]
  · rfl

variable (ha : 0x10000 ≤ a)
include ha

theorem State.reg_plausShown : (s.plausShown n new).reg a = s.reg a := by
  have hmism := s.reg_setFld_other hne Fld.PCH_CONV_STAT_MISM (min (s.mismCounted n).length 255)
  unfold State.plausShown
  dsimp only
  split
  · rw [State.reg_setFusionUnchecked _ _ _ ha hne, hmism]
  · exact hmism

theorem State.reg_mismJudged : (s.mismJudged n counted new).reg a = s.reg a := by
  unfold State.mismJudged
  split
  · dsimp only
    rw [State.reg_verifyP_channel _ ha, State.emitSafetyHeld, State.push_reg _ _ (ne_lost_of_channelReg ha), State.reg_setPch,
      s.reg_setLive_other hne]
  · rfl

/-- What follows the write changes of the channels' registers PCH_CONV_STAT alone. -/
theorem State.reg_fusCfgTaken : (s.fusCfgTaken n old).reg a = s.reg a := by
  rw [State.fusCfgTaken, State.reg_mismJudged _ _ _ _ hne ha, State.reg_plausShown _ _ _ hne ha, State.reg_forceTaken _ _ _ _ hne]

end

/-- A write of PCH_FUS_CFG: judged field by field, a rejected one setting CFG_REJ. -/
theorem pchFusCfgWrite_leaves {s : State} {n : Nat} (h : hasPch s.fac.variant n = true) (v : Word) :
    (pchFusCfgWrite s n v).reg (Reg.PCH_FUS_CFG n) =
        judged (s.reg (Reg.PCH_FUS_CFG n)) 0xE7FF003F (pchFusCfgReject s.inService (s.reg (Reg.PCH_FUS_CFG n)) v) v ∧
      (pchFusCfgReject s.inService (s.reg (Reg.PCH_FUS_CFG n)) v ≠ 0 →
        (pchFusCfgWrite s n v).flag (Reg.PCH_STAT n) Fld.PCH_STAT_CFG_REJ = true) := by
  rw [pchFusCfgWrite_present h, State.reg_fusCfgTaken _ _ _ (pchFusCfg_ne_convStat n) (pchFusCfg_channelReg n),
    State.flag_congr (State.reg_fusCfgTaken _ _ _ (pchStat_ne_convStat n) (pchStat_channelReg n))]
  exact ⟨State.reg_writeJudged_self _ _ _ _ _ _ _ (pchFusCfg_ne_pchStat n), State.flag_writeJudged _ _ _ _ _ _ _ ⟨by decide, by decide⟩⟩

/-! ### A write of PCH_PLAUS_TH (R61) -/

/-- With every bit writable and none rejected, a register takes the word written. -/
theorem judged_all (old v : Word) : judged old 0xFFFFFFFF 0 v = v := by
  have hall : (0xFFFFFFFF &&& ~~~0 : Word) = BitVec.allOnes 32 := by decide
  rw [judged, hall, BitVec.not_allOnes, BitVec.and_zero, BitVec.and_allOnes, BitVec.zero_or]

theorem pchPlausThWrite_leaves {s : State} {n : Nat} (h : hasPch s.fac.variant n = true) (v : Word) :
    (pchPlausThWrite s n v).reg (Reg.PCH_PLAUS_TH n) = v ∧ ((pchPlausThWrite s n v).pchU n).thLoad = true := by
  rw [pchPlausThWrite, if_neg (by simp [h]), State.reg_setPch, State.reg_writeBits_self, judged_all, State.pchU_setPch_self]
  exact ⟨rfl, rfl⟩

/-! ### A write of PCH_FMT (R67, R69) -/

theorem State.reg_restartRes (s : State) (i a : Nat) : (s.restartRes i).reg a = s.reg a := rfl

/-- Of the registers, a write of PCH_FMT changes what its judgement changes: a restart of the entry touches none. -/
theorem pchFmtWrite_reg {s : State} {n : Nat} (h : hasPch s.fac.variant n = true) (v : Word) (a : Nat) :
    (pchFmtWrite s n v).reg a =
      (s.writeJudged (Reg.PCH_FMT n) 0x30037FFF (pchFmtReject v) v (Reg.PCH_STAT n) Fld.PCH_STAT_CFG_REJ).reg a := by
  rw [pchFmtWrite, if_neg (by simp [h])]
  dsimp only
  split
  · rfl
  · exact State.reg_restartRes _ _ _

theorem pchFmtWrite_leaves {s : State} {n : Nat} (h : hasPch s.fac.variant n = true) (v : Word) :
    (pchFmtWrite s n v).reg (Reg.PCH_FMT n) = judged (s.reg (Reg.PCH_FMT n)) 0x30037FFF (pchFmtReject v) v ∧
      (pchFmtReject v ≠ 0 → (pchFmtWrite s n v).flag (Reg.PCH_STAT n) Fld.PCH_STAT_CFG_REJ = true) := by
  rw [pchFmtWrite_reg h, State.flag_congr (pchFmtWrite_reg h v _)]
  exact ⟨State.reg_writeJudged_self _ _ _ _ _ _ _ (pchFmt_ne_pchStat n), State.flag_writeJudged _ _ _ _ _ _ _ ⟨by decide, by decide⟩⟩

/-- Settles O18: each row's meaning has a frame, so it is the row's answer; the lemmas on UNCHK, the mean, the end of overrange and the
three writes say what it leaves. -/
theorem fusionCommands : Obligations.FusionCommands := by
  unfold Obligations.FusionCommands
  refine ⟨?unchecked, ?diff, ?leave, ?fusCfg, ?plausTh, ?fmt⟩
  case unchecked =>
    intro s n h hd
    refine ⟨_, State.effect_of_outside (P := Parts.all) (fusionUnchecked_outside s n (by simp [Parts.all, Parts.emits])), ?_⟩
    rw [fusionUnchecked_due h hd]
    exact s.flag_setFusionUnchecked n 0
  case diff =>
    intro s n h hd
    obtain ⟨hmean, hvalid, hunit⟩ := fusDiffUpdate_leaves h hd
    refine ⟨_, State.effect_of_outside (P := Parts.all) (fusDiffUpdate_outside s n (by simp [Parts.all])), hmean, hvalid, ?_⟩
    rw [hunit]
    exact ⟨rfl, rfl⟩
  case leave =>
    intro s n h ho hq
    exact ⟨_, State.effect_of_outside (P := Parts.all) (overrangeLeave_outside s n (by simp [Parts.all, Parts.emits])),
      overrangeLeave_overrange h ho hq, overrangeLeave_recs h ho hq⟩
  case fusCfg =>
    intro s n v hb h
    exact ⟨_, State.answer_open (P := Parts.all) hb (pchFusCfgWrite_outside s n v (by simp [Parts.all, Parts.emits])),
      pchFusCfgWrite_leaves h v⟩
  case plausTh =>
    intro s n v hb h
    exact ⟨_, State.answer_open (P := Parts.all) hb (pchPlausThWrite_outside s n v (by simp [Parts.all])),
      pchPlausThWrite_leaves h v⟩
  case fmt =>
    intro s n v hb h
    exact ⟨_, State.answer_open (P := Parts.all) hb (pchFmtWrite_outside s n v (by simp [Parts.all])), pchFmtWrite_leaves h v⟩

end Sys2Proof.Machine
end

section
/-!
PROOF. The filter chains of a P-channel: a base sample, the outputs MONITOR, STATIC and SEISMIC, the loss of MAINS lock, and the writes of
PCH_STATIC_CFG and PCH_SEIS_CFG; O20 settled.
-/
namespace Sys2Proof.Machine

/-! ### A base period (R85) -/

/-- The clock as a base sample leaves it: the next base index, at the start of a new base period. -/
def State.baseBegun (s : State) : State :=
  { s.passCycles (64 - s.sinceBase) with sinceBase := 0, baseIdx := s.baseIdx + 1 }

/-- Every part but fabric time, the base index and the place in the base period. -/
def Parts.butBaseClock : Parts := { Parts.all with time := false, sinceBase := false, baseIdx := false }

section
variable {s : State} (h : s.baseRunning = true) (raws : List RawSample)
include h

theorem baseSample_running : baseSample s raws =
    ((List.range 64).foldl (fun u n => u.baseChannel raws s.baseBegun.baseIdx.toNat n)
      s.baseBegun.asCommitted.takeEdges).advanceExc.withLate s.baseBegun := by
  rw [baseSample, if_neg (by simp [h])]
  rfl

/-- What follows the step of the clock in a base period leaves the clock. -/
theorem basePeriod_butBaseClock :
    (basePeriod s raws).outside Parts.butBaseClock = s.baseBegun.outside Parts.butBaseClock := by
  have hregs : ∀ n, Parts.butBaseClock.regs n := fun _ => trivial
  rw [basePeriod, State.keepTalking_outside _ ⟨rfl, rfl⟩,
    State.flushIfDue_outside _ (by simp [Parts.butBaseClock, Parts.all, Parts.emits]), baseSample_running h,
    State.withLate_outside _ _ rfl hregs, State.advanceExc_outside _ rfl,
    State.foldl_outside fun u n => u.baseChannel_outside raws _ n (by simp [Parts.butBaseClock, Parts.all, Parts.emits]),
    State.takeEdges_outside _ ⟨rfl, fun _ => trivial⟩, State.asCommitted_outside _ hregs]

end

theorem basePeriod_answers (s : State) (raws : List RawSample) : exec (.baseSample raws) s = .next (basePeriod s raws) :=
  have same : s.SameBut Parts.all (basePeriod s raws) := basePeriod_sameBut s raws (by simp [Parts.all, Parts.emits])
  State.effect_of_kept same.pending same.fac

/-! ### The registers of a P-channel's filters -/

section
variable {v : Variant} {n : Nat}

theorem hasPch_lt (h : hasPch v n = true) : n < 64 := by
  unfold hasPch at h
  split at h
  · omega
  · simp only [Bool.and_eq_true, decide_eq_true_eq] at h
    exact h.1

variable (n)

theorem pchFmt_channelReg : 0x10000 ≤ Reg.PCH_FMT n := by
  unfold Reg.PCH_FMT
  omega

theorem pchMainsPer_channelReg : 0x10000 ≤ Reg.PCH_MAINS_PER n := by
  unfold Reg.PCH_MAINS_PER
  omega

theorem pchStaticLast_channelReg : 0x10000 ≤ Reg.PCH_STATIC_LAST n := by
  unfold Reg.PCH_STATIC_LAST
  omega

theorem pchFmt_ne_fltStat : Reg.PCH_FMT n ≠ Reg.PCH_FLT_STAT n := by
  unfold Reg.PCH_FMT Reg.PCH_FLT_STAT
  omega

theorem pchFmt_ne_staticLast : Reg.PCH_FMT n ≠ Reg.PCH_STATIC_LAST n := by
  unfold Reg.PCH_FMT Reg.PCH_STATIC_LAST
  omega

theorem pchStaticLast_ne_fltStat : Reg.PCH_STATIC_LAST n ≠ Reg.PCH_FLT_STAT n := by
  unfold Reg.PCH_STATIC_LAST Reg.PCH_FLT_STAT
  omega

theorem pchStaticCfg_ne_pchStat : Reg.PCH_STATIC_CFG n ≠ Reg.PCH_STAT n := by
  unfold Reg.PCH_STATIC_CFG Reg.PCH_STAT
  omega

theorem pchSeisCfg_ne_pchStat : Reg.PCH_SEIS_CFG n ≠ Reg.PCH_STAT n := by
  unfold Reg.PCH_SEIS_CFG Reg.PCH_STAT
  omega

theorem pchSeisCfg_ne_seisDelay : Reg.PCH_SEIS_CFG n ≠ Reg.PCH_SEIS_DELAY n := by
  unfold Reg.PCH_SEIS_CFG Reg.PCH_SEIS_DELAY
  omega

end

/-! ### Units kept over writes of fields and records -/

section
variable (s : State) (n a : Nat) (f : Field) (c : Pch)

@[simp] theorem State.pchU_setFld (v : Nat) : (s.setFld a f v).pchU n = s.pchU n := rfl
@[simp] theorem State.pchU_raise : (s.raise a f).pchU n = s.pchU n := rfl
@[simp] theorem State.pchU_clear : (s.clear a f).pchU n = s.pchU n := rfl
@[simp] theorem State.pchU_count : (s.count a f).pchU n = s.pchU n := rfl
@[simp] theorem State.pchU_emit (type u : Nat) (l : List Int) : (s.emit type u l).pchU n = s.pchU n := rfl
@[simp] theorem State.pchU_setRes (i : Nat) (r : Res) : (s.setRes i r).pchU n = s.pchU n := rfl

@[simp] theorem State.resU_setFld (v : Nat) : (s.setFld a f v).resU n = s.resU n := rfl
@[simp] theorem State.resU_raise : (s.raise a f).resU n = s.resU n := rfl
@[simp] theorem State.resU_clear : (s.clear a f).resU n = s.resU n := rfl
@[simp] theorem State.resU_count : (s.count a f).resU n = s.resU n := rfl
@[simp] theorem State.resU_setPch (k : Nat) : (s.setPch k c).resU n = s.resU n := rfl

@[simp] theorem State.reg_setRes (i : Nat) (r : Res) : (s.setRes i r).reg a = s.reg a := rfl

end

/-! ### An output's newest value (R69, R75) -/

/-- The parts that the consumers of an output and its trust take up. -/
def Parts.consumers : Parts :=
  { regs := fun r => r = Reg.STR_STAGE ∨ r = Reg.STR_STAT, nodes := true, streams := true, trust := true }

/-- An output's value reaches the channel's trust, SMON and the output's consumers. -/
def State.handOn (s : State) (n src idx period : Nat) (v : OutVal) : State :=
  ((s.setTrustPoison n src v.attrs.poison).verifyP n).deliver (srckOfPch src) n idx period v

/-- A channel with a snapshot of the newest value of output `src`. -/
def Pch.withSnap (c : Pch) (src : Nat) (v : OutVal) : Pch :=
  let snap := some (v.full, attrByte v.attrs, v.t)
  if src = 0 then { c with snapStat := snap } else if src = 1 then { c with snapSeis := snap } else { c with snapMon := snap }

/-- The output is filled, and a poisoned value shows. -/
def State.outputFilled (s : State) (n : Nat) (v : OutVal) (fill : Field) : State :=
  let u := s.clear (Reg.PCH_FLT_STAT n) fill
  if v.attrs.poison then u.raise (Reg.PCH_FLT_STAT n) Fld.PCH_FLT_STAT_POISON_S else u

/-- The value is the channel's newest result where RES_SRC names the output. -/
def State.resultTaken (s : State) (n src : Nat) (v : OutVal) : State :=
  if s.fld (Reg.PCH_FMT n) Fld.PCH_FMT_RES_SRC = src then s.newResult n v.full (resAttr src v.attrs) v.attrs.poison else s

section
variable (s : State) (n src idx period : Nat) (v : OutVal) (fill : Field)

theorem State.deliverOut_eq : s.deliverOut n src idx period v fill =
    (((s.outputFilled n v fill).resultTaken n src v).setPch n
      ((((s.outputFilled n v fill).resultTaken n src v).pchU n).withSnap src v)).handOn n src idx period v := rfl

theorem State.setTrustPoison_sameBut (b : Bool) : s.SameBut Parts.consumers (s.setTrustPoison n src b) :=
  State.sameBut_of_outside (s.setTrustPoison_outside n src b rfl)

theorem State.deliver_sameBut (srck : Nat) : s.SameBut Parts.consumers (s.deliver srck n idx period v) :=
  State.sameBut_of_outside (s.deliver_outside srck n idx period v ⟨rfl, .inl rfl, rfl, .inr rfl⟩)

theorem State.pchU_handOn (k : Nat) : (s.handOn n src idx period v).pchU k = s.pchU k :=
  State.pchU_congr (((State.deliver_sameBut _ _ _ _ _ _).pch rfl).trans
    (((State.verifyP_sameBut _ n).pch rfl).trans ((s.setTrustPoison_sameBut n src _).pch rfl))) k

theorem State.resU_handOn (k : Nat) : (s.handOn n src idx period v).resU k = s.resU k :=
  State.resU_congr (((State.deliver_sameBut _ _ _ _ _ _).res rfl).trans
    (((State.verifyP_sameBut _ n).res rfl).trans ((s.setTrustPoison_sameBut n src _).res rfl))) k

theorem State.reg_handOn {a : Nat} (hlo : 0x10000 ≤ a) (hhi : a < 0x30000) : (s.handOn n src idx period v).reg a = s.reg a := by
  have hout : ¬Parts.consumers.regs a := by
    rintro (rfl | rfl) <;> exact absurd hhi (by decide)
  rw [State.handOn, (State.deliver_sameBut _ _ _ _ _ _).reg a hout, State.reg_verifyP_channel _ hlo,
    (s.setTrustPoison_sameBut n src _).reg a hout]

theorem State.reg_outputFilled {a : Nat} (h : a ≠ Reg.PCH_FLT_STAT n) : (s.outputFilled n v fill).reg a = s.reg a := by
  unfold State.outputFilled
  dsimp only
  split
  · rw [State.reg_raise_other _ h, State.reg_clear_other _ h]
  · exact State.reg_clear_other _ h _

theorem State.resU_outputFilled (k : Nat) : (s.outputFilled n v fill).resU k = s.resU k := by
  unfold State.outputFilled
  dsimp only
  split
  · rw [State.resU_raise, State.resU_clear]
  · rw [State.resU_clear]

theorem State.pchU_outputFilled (k : Nat) : (s.outputFilled n v fill).pchU k = s.pchU k := by
  unfold State.outputFilled
  dsimp only
  split
  · rw [State.pchU_raise, State.pchU_clear]
  · rw [State.pchU_clear]

/-- The entry with its new result, whether or not the one replaced is lost. -/
theorem State.resU_newResult (i val attr : Nat) (poison : Bool) : (s.newResult i val attr poison).resU i =
    { s.resU i with val := val, num := (s.resU i).num + 1, seq := ((s.resU i).seq + 1) % 256, attr := attr, poison := poison,
                    stale := false, latched := false } := by
  unfold State.newResult
  dsimp only
  split
  · rw [State.resU_count, State.resU_raise, State.resU_setRes_self]
  · rw [State.resU_setRes_self]

theorem State.pchU_newResult (i val attr : Nat) (poison : Bool) (k : Nat) : (s.newResult i val attr poison).pchU k = s.pchU k := by
  unfold State.newResult
  dsimp only
  split
  · rw [State.pchU_count, State.pchU_raise, State.pchU_setRes]
  · rw [State.pchU_setRes]

theorem State.reg_newResult (i val attr : Nat) (poison : Bool) {a : Nat} (h : a < 0x50000) :
    (s.newResult i val attr poison).reg a = s.reg a := by
  have hne : a ≠ Reg.RES_OVCNT i := by
    unfold Reg.RES_OVCNT
    omega
  unfold State.newResult
  dsimp only
  split
  · rw [State.reg_count_other _ hne, State.reg_raise_other _ hne, State.reg_setRes]
  · rw [State.reg_setRes]

theorem State.pchU_resultTaken (k : Nat) : (s.resultTaken n src v).pchU k = s.pchU k := by
  unfold State.resultTaken
  split
  · exact s.pchU_newResult _ _ _ _ k
  · rfl

theorem State.reg_resultTaken {a : Nat} (h : a < 0x50000) : (s.resultTaken n src v).reg a = s.reg a := by
  unfold State.resultTaken
  split
  · exact s.reg_newResult _ _ _ _ h
  · rfl

theorem Pch.withSnap_eq (c : Pch) : ∃ stat seis mon,
    c.withSnap src v = { c with snapStat := stat, snapSeis := seis, snapMon := mon } := by
  unfold Pch.withSnap
  dsimp only
  split
  · exact ⟨_, _, _, rfl⟩
  · split <;> exact ⟨_, _, _, rfl⟩

/-- Of the channel's own state, a delivery touches the snapshots of the outputs alone. -/
theorem State.pchU_deliverOut : ∃ stat seis mon, (s.deliverOut n src idx period v fill).pchU n =
    { s.pchU n with snapStat := stat, snapSeis := seis, snapMon := mon } := by
  rw [State.deliverOut_eq, State.pchU_handOn, State.pchU_setPch_self, State.pchU_resultTaken, State.pchU_outputFilled]
  exact Pch.withSnap_eq src v _

/-- Of the channels' registers, a delivery writes PCH_FLT_STAT alone. -/
theorem State.reg_deliverOut {a : Nat} (hlo : 0x10000 ≤ a) (hhi : a < 0x30000) (hne : a ≠ Reg.PCH_FLT_STAT n) :
    (s.deliverOut n src idx period v fill).reg a = s.reg a := by
  rw [State.deliverOut_eq, State.reg_handOn _ _ _ _ _ _ hlo hhi, State.reg_setPch,
    State.reg_resultTaken _ _ _ _ (Nat.lt_trans hhi (by decide)), s.reg_outputFilled n v fill hne]

/-- A delivery counts as a result of the channel where RES_SRC names the output. -/
theorem State.resU_deliverOut (h : s.fld (Reg.PCH_FMT n) Fld.PCH_FMT_RES_SRC = src) :
    ((s.deliverOut n src idx period v fill).resU n).num = (s.resU n).num + 1 ∧
      ((s.deliverOut n src idx period v fill).resU n).seq = ((s.resU n).seq + 1) % 256 := by
  have hsrc : (s.outputFilled n v fill).fld (Reg.PCH_FMT n) Fld.PCH_FMT_RES_SRC = src :=
    (State.fld_congr (s.reg_outputFilled n v fill (pchFmt_ne_fltStat n)) _).trans h
  rw [State.deliverOut_eq, State.resU_handOn, State.resU_setPch, State.resultTaken, if_pos hsrc, State.resU_newResult,
    State.resU_outputFilled]
  exact ⟨rfl, rfl⟩

end

/-! ### MONITOR (R95) -/

/-- The parts that the mains tracker writes. -/
def Parts.mainsTracked : Parts :=
  { regs := fun r => r = Reg.DEV_EV_LOST ∨ each Reg.PCH_MAINS_PER r, recs := true, classLost := true, host := true, pch := true }

section
variable (s : State) (n : Nat) (y : Int) (kc : Nat)

theorem State.trackMains_sameBut : s.SameBut Parts.mainsTracked (s.trackMains n y kc) :=
  State.sameBut_of_outside (s.trackMains_outside n y kc ⟨⟨rfl, rfl, rfl, .inl rfl⟩, rfl, fun j => .inr ⟨j, rfl⟩⟩)

theorem pchFmt_not_mainsTracked : ¬Parts.mainsTracked.regs (Reg.PCH_FMT n) := by
  rintro (hlost | ⟨j, hj⟩)
  · exact ne_lost_of_channelReg (pchFmt_channelReg n) hlost
  · unfold Reg.PCH_FMT Reg.PCH_MAINS_PER at hj
    omega

/-- Of the channel's own state, the tracker changes its own part alone. -/
theorem State.pchU_trackMains : ∃ x, (s.trackMains n y kc).pchU n = { s.pchU n with mains := x } := by
  unfold State.trackMains
  split
  · exact ⟨_, rfl⟩
  · dsimp only
    split
    · exact ⟨_, State.pchU_setPch_self _ _ _⟩
    · split
      · exact ⟨_, by rw [State.pchU_raise, State.pchU_setFld, State.pchU_setPch_self]⟩
      · exact ⟨_, by rw [State.pchU_emit, State.pchU_raise, State.pchU_setFld, State.pchU_setPch_self]⟩

end

section
variable {s : State} {n : Nat} {x : Sample} {rest : List Sample} {m : Marks} (h : hasPch s.fac.variant n = true)
  (hmon : (s.pchU n).mon = x :: rest) (hlen : 29 ≤ (s.pchU n).mon.length) (hm : marksOf (s.pchU n).mon = some m)
  (hlast : 14 ≤ x.marks.last) (hgrid : (x.marks.last - 14) % 8 = 0) (hnew : (s.pchU n).monDone ≠ some (x.marks.last - 14))
include h hmon hlen hm hlast hgrid hnew

/-- A MONITOR output on its grid: the centre is noted, the mains tracker takes the value, and it is delivered. -/
theorem monitorOutput_due : ∃ y v, monitorOutput s n =
      ((s.setPch n { s.pchU n with monDone := some (x.marks.last - 14) }).trackMains n y (x.marks.last - 14)).deliverOut n 2
        ((x.marks.last - 14) / 8) 256 v Fld.PCH_FLT_STAT_MON_FILL := by
  have hnot : ¬(!hasPch s.fac.variant n || (x :: rest).length < 29 || x.marks.last < 14 || (x.marks.last - 14) % 8 != 0 ||
      (s.pchU n).monDone == some (x.marks.last - 14)) = true := by
    rw [hmon] at hlen
    simp only [h, hgrid, Nat.not_lt.2 hlen, Nat.not_lt.2 hlast, beq_eq_false_iff_ne.2 hnew, decide_false, Bool.not_true, bne_self_eq_false,
      Bool.or_self, Bool.false_eq_true, not_false_eq_true]
  rw [hmon] at hm
  simp only [monitorOutput, hmon, if_neg hnot, hm]
  exact ⟨_, _, rfl⟩

/-- After a MONITOR output its centre is noted, and it counts as a result where RES_SRC is MONITOR. -/
theorem monitorOutput_leaves :
    ((monitorOutput s n).pchU n).monDone = some (x.marks.last - 14) ∧
      (s.fld (Reg.PCH_FMT n) Fld.PCH_FMT_RES_SRC = 2 →
        ((monitorOutput s n).resU n).num = (s.resU n).num + 1 ∧ ((monitorOutput s n).resU n).seq = ((s.resU n).seq + 1) % 256) := by
  obtain ⟨y, v, heq⟩ := monitorOutput_due h hmon hlen hm hlast hgrid hnew
  rw [heq]
  generalize hu : s.setPch n { s.pchU n with monDone := some (x.marks.last - 14) } = u
  obtain ⟨mains, hmains⟩ := u.pchU_trackMains n y (x.marks.last - 14)
  have same := u.trackMains_sameBut n y (x.marks.last - 14)
  constructor
  · obtain ⟨_, _, _, hpch⟩ := State.pchU_deliverOut (u.trackMains n y (x.marks.last - 14)) n 2 ((x.marks.last - 14) / 8) 256 v
      Fld.PCH_FLT_STAT_MON_FILL
    rw [hpch, hmains, ← hu, State.pchU_setPch_self]
  · intro hsrc
    have hres : (u.trackMains n y (x.marks.last - 14)).resU n = s.resU n := by
      rw [State.resU_congr (same.res rfl), ← hu, State.resU_setPch]
    rw [← hres]
    refine State.resU_deliverOut _ n 2 _ _ _ _ ?_
    rw [State.fld_congr (same.reg _ (pchFmt_not_mainsTracked n)), ← hu]
    exact hsrc

end

/-! ### STATIC (R97 to R99) -/

/-- The window that follows `w`: it begins where `w` ended, with what reached past that end. -/
def State.nextWindow (s : State) (n : Nat) (w : StaticWin) : StaticWin :=
  w.tail.foldl StaticWin.add { b0 := w.b1, b1 := w.b1 + (s.staticLen n).1, tracked := (s.staticLen n).2 }

/-- Window `w` shown as the last one, and the next one begun. -/
def State.windowEnded (s : State) (n : Nat) (w : StaticWin) : State :=
  (((s.noteFallback n (s.staticLen n).2).setPch n { s.pchU n with stat := some (s.nextWindow n w) }).setFld (Reg.PCH_STATIC_LAST n)
    Fld.PCH_STATIC_LAST_LEN (w.b1 - w.b0)).setFld (Reg.PCH_STATIC_LAST n) Fld.PCH_STATIC_LAST_TRACKED (bit w.tracked)

theorem StaticWin.b0_add (w : StaticWin) (x : Sample) : (w.add x).b0 = w.b0 := by
  have hwide : ∀ wide : StaticWin, (if 16 * x.marks.last + 8 > wide.b1 then { wide with tail := wide.tail ++ [x] } else wide).b0 =
      wide.b0 := fun wide => by split <;> rfl
  unfold StaticWin.add
  dsimp only
  rw [hwide]
  split <;> rfl

theorem StaticWin.b0_foldl_add (l : List Sample) (w : StaticWin) : (l.foldl StaticWin.add w).b0 = w.b0 := by
  induction l generalizing w with
  | nil => rfl
  | cons x l ih => rw [List.foldl_cons, ih, StaticWin.b0_add]

section
variable (s : State) (n : Nat) (w : StaticWin)

theorem State.b0_nextWindow : (s.nextWindow n w).b0 = w.b1 := StaticWin.b0_foldl_add _ _

theorem State.pchU_windowEnded : (s.windowEnded n w).pchU n = { s.pchU n with stat := some (s.nextWindow n w) } := by
  rw [State.windowEnded, State.pchU_setFld, State.pchU_setFld, State.pchU_setPch_self]

theorem State.noteFallback_sameBut (tracked : Bool) : s.SameBut { regs := each Reg.PCH_FLT_STAT } (s.noteFallback n tracked) :=
  State.sameBut_of_outside (s.noteFallback_outside n tracked fun j => ⟨j, rfl⟩)

theorem State.resU_windowEnded (k : Nat) : (s.windowEnded n w).resU k = s.resU k := by
  rw [State.windowEnded, State.resU_setFld, State.resU_setFld, State.resU_setPch,
    State.resU_congr ((s.noteFallback_sameBut n _).res rfl)]

theorem State.pchFmt_windowEnded : (s.windowEnded n w).reg (Reg.PCH_FMT n) = s.reg (Reg.PCH_FMT n) := by
  have hlast := pchFmt_ne_staticLast n
  rw [State.windowEnded, State.reg_setFld_other _ hlast, State.reg_setFld_other _ hlast, State.reg_setPch, State.noteFallback,
    s.reg_setLive_other (pchFmt_ne_fltStat n)]

theorem State.len_windowEnded : (s.windowEnded n w).fld (Reg.PCH_STATIC_LAST n) Fld.PCH_STATIC_LAST_LEN =
    (w.b1 - w.b0) % 2 ^ fieldWidth Fld.PCH_STATIC_LAST_LEN := by
  rw [State.windowEnded, State.fld_setFld_apart _ _ ⟨by decide, by decide⟩ (by decide) (by decide),
    State.fld_setFld_self _ _ ⟨by decide, by decide⟩]

end

section
variable {s : State} {n : Nat} {w : StaticWin} {m : Marks} (h : hasPch s.fac.variant n = true) (hw : (s.pchU n).stat = some w)
  (hm : w.marks = some m) (hend : w.ended = true)
include h hw hm hend

/-- A STATIC output: the window that has ended is shown, the next one begins, and the value is delivered. -/
theorem staticOutput_due : ∃ v, staticOutput s n =
    (s.windowEnded n w).deliverOut n 0 0 (2 * (w.b1 - w.b0)) v Fld.PCH_FLT_STAT_STAT_FILL := by
  have hnot : ¬(!hasPch s.fac.variant n || !w.ended) = true := by simp [h, hend]
  simp only [staticOutput, hw, hm, if_neg hnot]
  exact ⟨_, rfl⟩

/-- After a STATIC output its window's length shows, the next window begins where it ended, and it counts as a result where RES_SRC is
STATIC. -/
theorem staticOutput_leaves :
    (staticOutput s n).fld (Reg.PCH_STATIC_LAST n) Fld.PCH_STATIC_LAST_LEN =
        (w.b1 - w.b0) % 2 ^ fieldWidth Fld.PCH_STATIC_LAST_LEN ∧
      (∃ w', ((staticOutput s n).pchU n).stat = some w' ∧ w'.b0 = w.b1) ∧
      (s.fld (Reg.PCH_FMT n) Fld.PCH_FMT_RES_SRC = 0 →
        ((staticOutput s n).resU n).num = (s.resU n).num + 1 ∧ ((staticOutput s n).resU n).seq = ((s.resU n).seq + 1) % 256) := by
  obtain ⟨v, heq⟩ := staticOutput_due h hw hm hend
  have hhi : Reg.PCH_STATIC_LAST n < 0x30000 := by
    have hlt := hasPch_lt h
    unfold Reg.PCH_STATIC_LAST
    omega
  rw [heq]
  refine ⟨?_, ⟨s.nextWindow n w, ?_, s.b0_nextWindow n w⟩, fun hsrc => ?_⟩
  · rw [State.fld_congr (State.reg_deliverOut _ _ _ _ _ _ _ (pchStaticLast_channelReg n) hhi (pchStaticLast_ne_fltStat n)),
      State.len_windowEnded]
  · obtain ⟨_, _, _, hpch⟩ := (s.windowEnded n w).pchU_deliverOut n 0 0 (2 * (w.b1 - w.b0)) v Fld.PCH_FLT_STAT_STAT_FILL
    rw [hpch, State.pchU_windowEnded]
  · rw [← s.resU_windowEnded n w]
    exact State.resU_deliverOut _ n 0 _ _ _ _ ((State.fld_congr (s.pchFmt_windowEnded n w) _).trans hsrc)

end

/-! ### SEISMIC (R103, R107) -/

section
variable {s : State} {n rate phase : Nat} {st : Nat × Nat × Nat} {line : List Sample} {m : Marks}

/-- A stage whose delay line is full has an output, with the marks of its line. -/
theorem stageOut_full (hfull : st.1 ≤ line.length) (hm : marksOf line = some m) :
    stageOut st line = some { val := satSigned 44 (stageRound st.2.2 (firSum (coefSet st.1 st.2.2) line)), marks := m } := by
  rw [stageOut, if_neg (Nat.not_lt.2 hfull), hm]
  rfl

variable (h : hasPch s.fac.variant n = true) (hrate : s.fld (Reg.PCH_SEIS_CFG n) Fld.PCH_SEIS_CFG_RATE = rate)
  (hphase : s.fld (Reg.PCH_SEIS_CFG n) Fld.PCH_SEIS_CFG_PHASE = phase) (hst : (seisChain rate phase).getLast? = some st)
  (hline : (s.pchU n).seis.getLast? = some line) (hfull : st.1 ≤ line.length) (hm : marksOf line = some m)
  (hdelay : seisDelay rate phase ≤ m.last) (hgrid : ((m.last : Int) - seisDelay rate phase) % seisD rate = 0)
  (hnew : (s.pchU n).seisDone ≠ some m.last)
include h hrate hphase hst hline hfull hm hdelay hgrid hnew

/-- A SEISMIC output on its grid: its last base sample is noted, and the value is delivered. -/
theorem seismicOutput_due : ∃ idx v, seismicOutput s n =
    (s.setPch n { s.pchU n with seisDone := some m.last }).deliverOut n 1 idx (32 * seisD rate) v Fld.PCH_FLT_STAT_SEIS_FILL := by
  have hnot : ¬(!hasPch s.fac.variant n || ((m.last : Int) - seisDelay rate phase) % seisD rate != 0 ||
      m.last < seisDelay rate phase || (s.pchU n).seisDone == some m.last) = true := by
    simp only [h, hgrid, Nat.not_lt.2 hdelay, beq_eq_false_iff_ne.2 hnew, decide_false, Bool.not_true, bne_self_eq_false, Bool.or_self,
      Bool.false_eq_true, not_false_eq_true]
  simp only [seismicOutput, hrate, hphase, hst, hline, stageOut_full hfull hm, if_neg hnot]
  exact ⟨_, _, rfl⟩

/-- After a SEISMIC output it is noted, and it counts as a result where RES_SRC is SEISMIC. -/
theorem seismicOutput_leaves :
    ((seismicOutput s n).pchU n).seisDone = some m.last ∧
      (s.fld (Reg.PCH_FMT n) Fld.PCH_FMT_RES_SRC = 1 →
        ((seismicOutput s n).resU n).num = (s.resU n).num + 1 ∧
          ((seismicOutput s n).resU n).seq = ((s.resU n).seq + 1) % 256) := by
  obtain ⟨idx, v, heq⟩ := seismicOutput_due h hrate hphase hst hline hfull hm hdelay hgrid hnew
  rw [heq]
  refine ⟨?_, fun hsrc => State.resU_deliverOut (s.setPch n { s.pchU n with seisDone := some m.last }) n 1 _ _ _ _ hsrc⟩
  obtain ⟨_, _, _, hpch⟩ := (s.setPch n { s.pchU n with seisDone := some m.last }).pchU_deliverOut n 1 idx (32 * seisD rate) v
    Fld.PCH_FLT_STAT_SEIS_FILL
  rw [hpch, State.pchU_setPch_self]

end

/-! ### MAINS lock lost (R100) -/

theorem mainsLost_due {s : State} {n : Nat} (h : hasPch s.fac.variant n = true)
    (hd : msTime 100 ≤ (s.time - (s.pchU n).mains.lastAt).toNat) : mainsLost s n = s.dropMains n := by
  rw [mainsLost, if_neg]
  simp only [h, Nat.not_lt.2 hd, decide_false, Bool.not_true, Bool.or_self, Bool.false_eq_true, not_false_eq_true]

section
variable (s : State) (n : Nat)

/-- The tracker of channel `n` with no accepted period counted. -/
def State.mainsUncounted : State := s.setPch n { s.pchU n with mains := { (s.pchU n).mains with accepted := 0 } }

theorem State.dropMains_eq : s.dropMains n =
    if s.flag (Reg.PCH_MAINS_PER n) Fld.PCH_MAINS_PER_VALID then
      ((s.mainsUncounted n).clear (Reg.PCH_MAINS_PER n) Fld.PCH_MAINS_PER_VALID).emit 0x0130 n
        [n, s.fld (Reg.PCH_MAINS_PER n) Fld.PCH_MAINS_PER_PERIOD, (crossTime (s.pchU n).mains.lastTc).toNat]
    else s.mainsUncounted n := rfl

theorem State.valid_dropMains : (s.dropMains n).flag (Reg.PCH_MAINS_PER n) Fld.PCH_MAINS_PER_VALID = false := by
  rw [State.dropMains_eq]
  split
  · rw [State.flag_congr (State.emit_reg _ _ _ _ (ne_lost_of_channelReg (pchMainsPer_channelReg n)))]
    exact State.flag_clear _ ⟨by decide, by decide⟩
  · next hvalid => exact Bool.eq_false_iff.2 hvalid

theorem State.accepted_dropMains : ((s.dropMains n).pchU n).mains.accepted = 0 := by
  have huncounted : ((s.mainsUncounted n).pchU n).mains.accepted = 0 := by rw [State.mainsUncounted, State.pchU_setPch_self]
  rw [State.dropMains_eq]
  split
  · rw [State.pchU_emit, State.pchU_clear, huncounted]
  · exact huncounted

/-- Where VALID was set, MAINS_LOST names the period and the last crossing. -/
theorem State.recs_dropMains (hvalid : s.flag (Reg.PCH_MAINS_PER n) Fld.PCH_MAINS_PER_VALID = true) (hroom : s.recsFull = false) :
    (s.dropMains n).recs = s.recs ++ [mkRec 0x0130 n s.time
      [n, s.fld (Reg.PCH_MAINS_PER n) Fld.PCH_MAINS_PER_PERIOD, (crossTime (s.pchU n).mains.lastTc).toNat]] := by
  have hrecs : ((s.mainsUncounted n).clear (Reg.PCH_MAINS_PER n) Fld.PCH_MAINS_PER_VALID).recs = s.recs := by
    rw [State.clear_recs]
    rfl
  have hfull : ((s.mainsUncounted n).clear (Reg.PCH_MAINS_PER n) Fld.PCH_MAINS_PER_VALID).recsFull = false := by
    rw [State.recsFull, hrecs]
    exact hroom
  rw [State.dropMains_eq, if_pos hvalid, State.emit_recs _ _ _ _ hfull, hrecs, State.clear_time]
  rfl

end

/-! ### Restarts (R92) -/

/-- The parts that the restart of an output writes. -/
def Parts.restart : Parts :=
  { regs := fun r => r = Reg.DEV_EV_LOST ∨ r = Reg.STR_STAT ∨ each Reg.PCH_FLT_STAT r, recs := true, classLost := true, host := true,
    nodes := true, pch := true, res := true, streams := true }

theorem State.restartChain_sameBut (s : State) (n out cause : Nat) : s.SameBut Parts.restart (s.restartChain n out cause) :=
  State.sameBut_of_outside (s.restartChain_outside n out cause
    ⟨⟨rfl, rfl, rfl, .inl rfl⟩, rfl, fun j => .inr (.inr ⟨j, rfl⟩), rfl, .inr (.inl rfl), rfl, rfl⟩)

/-- The configuration and the status of a channel that the device has are no registers that a restart writes. -/
theorem channelReg_not_restart {n a : Nat} (hn : n < 64)
    (ha : a = Reg.PCH_STATIC_CFG n ∨ a = Reg.PCH_SEIS_CFG n ∨ a = Reg.PCH_STAT n) : ¬Parts.restart.regs a := by
  unfold Reg.PCH_STATIC_CFG Reg.PCH_SEIS_CFG Reg.PCH_STAT at ha
  rintro (hlost | hstr | ⟨j, hj⟩)
  · unfold Reg.DEV_EV_LOST at hlost
    omega
  · unfold Reg.STR_STAT at hstr
    omega
  · unfold Reg.PCH_FLT_STAT at hj
    omega

theorem State.reg_restartChain (s : State) {n a : Nat} (out cause : Nat) (hn : n < 64)
    (ha : a = Reg.PCH_STATIC_CFG n ∨ a = Reg.PCH_SEIS_CFG n ∨ a = Reg.PCH_STAT n) :
    (s.restartChain n out cause).reg a = s.reg a :=
  (s.restartChain_sameBut n out cause).reg a (channelReg_not_restart hn ha)

/-! ### A write of PCH_STATIC_CFG (R98) -/

section
variable {s : State} {n : Nat} (h : hasPch s.fac.variant n = true) (v : Word)
include h

/-- A restart of STATIC leaves PCH_STATIC_CFG and PCH_STAT as the judgement of the write has left them. -/
theorem reg_pchStaticCfgWrite {a : Nat} (ha : a = Reg.PCH_STATIC_CFG n ∨ a = Reg.PCH_STAT n) :
    (pchStaticCfgWrite s n v).reg a =
      (s.writeJudged (Reg.PCH_STATIC_CFG n) 0xE03F00FF (pchStaticCfgReject v) v (Reg.PCH_STAT n) Fld.PCH_STAT_CFG_REJ).reg a := by
  rw [pchStaticCfgWrite, if_neg (by simp [h])]
  dsimp only
  split
  · rfl
  · exact State.reg_restartChain _ _ _ (hasPch_lt h) (ha.imp_right .inr)

theorem pchStaticCfgWrite_leaves :
    (pchStaticCfgWrite s n v).reg (Reg.PCH_STATIC_CFG n) =
        judged (s.reg (Reg.PCH_STATIC_CFG n)) 0xE03F00FF (pchStaticCfgReject v) v ∧
      (pchStaticCfgReject v ≠ 0 → (pchStaticCfgWrite s n v).flag (Reg.PCH_STAT n) Fld.PCH_STAT_CFG_REJ = true) := by
  rw [reg_pchStaticCfgWrite h v (.inl rfl), State.flag_congr (reg_pchStaticCfgWrite h v (.inr rfl))]
  exact ⟨State.reg_writeJudged_self _ _ _ _ _ _ _ (pchStaticCfg_ne_pchStat n),
    State.flag_writeJudged _ _ _ _ _ _ _ ⟨by decide, by decide⟩⟩

/-! ### A write of PCH_SEIS_CFG (R93) -/

theorem pchSeisCfgWrite_taken (hfree : s.consumed (srckOfPch 1) n = false) :
    (pchSeisCfgWrite s n v).reg (Reg.PCH_SEIS_CFG n) = v &&& 0x80000007 := by
  rw [pchSeisCfgWrite, if_neg (by simp [h])]
  dsimp only
  split
  · next hsame => exact hsame.symm
  · rw [if_neg (by simp [hfree]), State.reg_restartChain _ _ _ (hasPch_lt h) (.inr (.inl rfl)),
      State.reg_setFld_other _ (pchSeisCfg_ne_seisDelay n), State.reg_setReg_self]

theorem pchSeisCfgWrite_refused (hused : s.consumed (srckOfPch 1) n = true) (hne : v &&& 0x80000007 ≠ s.reg (Reg.PCH_SEIS_CFG n)) :
    pchSeisCfgWrite s n v = s.raise (Reg.PCH_STAT n) Fld.PCH_STAT_CFG_REJ := by
  rw [pchSeisCfgWrite, if_neg (by simp [h])]
  dsimp only
  rw [if_neg hne, if_pos hused]

end

/-- Settles O20: each row's meaning has a frame, so it is the row's answer; the lemmas on the base clock, on deliveries, on the mains
tracker and on restarts say what it leaves. -/
theorem filterOutputsAndWrites : Obligations.FilterOutputsAndWrites := by
  unfold Obligations.FilterOutputsAndWrites
  refine ⟨?base, ?monitor, ?static, ?mains, ?staticCfg, ?seisFree, ?seisUsed, ?seismic⟩
  case base =>
    intro s raws hrun
    have same := State.sameBut_of_outside (basePeriod_butBaseClock hrun raws)
    exact ⟨_, basePeriod_answers s raws, same.baseIdx rfl, same.sinceBase rfl, same.time rfl⟩
  case monitor =>
    intro s n x rest m h hmon hlen hm hlast hgrid hnew
    exact ⟨_, State.effect_of_outside (P := Parts.all) (monitorOutput_outside s n (by simp [Parts.all, Parts.emits])),
      monitorOutput_leaves h hmon hlen hm hlast hgrid hnew⟩
  case static =>
    intro s n w m h hw hm hend
    exact ⟨_, State.effect_of_outside (P := Parts.all) (staticOutput_outside s n (by simp [Parts.all, Parts.emits])),
      staticOutput_leaves h hw hm hend⟩
  case mains =>
    intro s n h hd
    refine ⟨_, State.effect_of_outside (P := Parts.all) (mainsLost_outside s n (by simp [Parts.all, Parts.emits])), ?_⟩
    rw [mainsLost_due h hd]
    exact ⟨s.valid_dropMains n, s.accepted_dropMains n, s.recs_dropMains n⟩
  case staticCfg =>
    intro s n v hb h
    exact ⟨_, State.answer_open (P := Parts.all) hb (pchStaticCfgWrite_outside s n v (by simp [Parts.all, Parts.emits])),
      pchStaticCfgWrite_leaves h v⟩
  case seisFree =>
    intro s n v hb h hfree
    exact ⟨_, State.answer_open (P := Parts.all) hb (pchSeisCfgWrite_outside s n v (by simp [Parts.all, Parts.emits])),
      pchSeisCfgWrite_taken h v hfree⟩
  case seisUsed =>
    intro s n v hb h hused hne
    refine ⟨_, State.answer_open (P := Parts.all) hb (pchSeisCfgWrite_outside s n v (by simp [Parts.all, Parts.emits])), ?_⟩
    rw [pchSeisCfgWrite_refused h v hused hne]
    exact ⟨State.reg_raise_other _ (pchSeisCfg_ne_pchStat n) _, State.flag_raise _ _ ⟨by decide, by decide⟩⟩
  case seismic =>
    intro s n rate phase st line m h hrate hphase hst hline hfull hm hdelay hgrid hnew
    exact ⟨_, State.effect_of_outside (P := Parts.all) (seismicOutput_outside s n (by simp [Parts.all, Parts.emits])),
      seismicOutput_leaves h hrate hphase hst hline hfull hm hdelay hgrid hnew⟩

end Sys2Proof.Machine
end

section
/-!
PROOF. An on-demand conversion of a channel that is being calibrated, with one place left among the commands in flight; O21 refuted by it.
-/
namespace Sys2Proof.Machine

/-- A conversion of channel 0 that CHK_CONVERT with tag 1 asked for. -/
def crowdedRequest : OnDemand := { src := .ring, tag := 1, point := 0, len := 0 }

/-- Its slot, which has ended, and in which the integrator overloaded. -/
def crowdedSlot : Slot := { point := 0, b0 := 0, b1 := 8, od := some crowdedRequest, wt := 8, ovld := true }

/-- CAL_SYSTEM_ZERO of the same channel measures in the slots of its bank. -/
def crowdedMeas : Meas := { src := .ring, tag := 2, full := false, ch := 0, gain := 0, count := 8, target := 0, since := 0 }

/-- Fifteen other commands of the ring that have not been decided. -/
def crowdedInflight : List InFlight :=
  (List.range 15).map fun tag => { src := .ring, opcode := 0x0020, tag := tag, target := 0 }

/-- The device with that slot's result due, that measurement, and one place left among the sixteen commands in flight (R393). Both
commands run on without a place of their own, as `State.accept` leaves a command that finds sixteen others there. -/
def crowded : State :=
  { State.reset.setBank 0 { ended := [crowdedSlot], meas := some crowdedMeas } with
    baseIdx := 1, host := { State.reset.host with inflight := crowdedInflight } }

/-- The slot is OVERRANGE, so the measurement ends first, and its command takes the place; the conversion's completion finds none. -/
theorem onDemandSlotDone_crowded :
    (onDemandSlotDone crowded 0 0 false {}).host.inflight.all (fun e => e.opcode != 0x0040) = true := by
  decide +kernel

/-- Refutes O21: the result of an on-demand slot of a channel that is being calibrated also ends the measurement where the slot is
OVERRANGE. That command's decision may take the last place among the sixteen in flight, which the premise counts before it, and
CHK_CONVERT's own completion is then not decided. -/
theorem not_checkerAndOnDemand : ¬ Obligations.CheckerAndOnDemand := by
  unfold Obligations.CheckerAndOnDemand
  rintro ⟨-, -, -, -, -, -, -, -, -, -, -, hdone⟩
  obtain ⟨t, ht, -, hdecided⟩ := hdone crowded 0 0 false {} crowdedSlot [] crowdedRequest (by decide) (by decide +kernel) rfl rfl
    (by decide +kernel)
  obtain rfl : { onDemandSlotDone crowded 0 0 false {} with pending := crowded.pending, fac := crowded.fac } = t :=
    Host.Outcome.next.inj ht
  obtain ⟨c, ⟨e, hmem, -, hop, -, -⟩, -⟩ := hdecided rfl (by decide +kernel)
  have hne := List.all_eq_true.1 onDemandSlotDone_crowded e hmem
  rw [hop] at hne
  exact absurd hne (by decide)

end Sys2Proof.Machine
end

section
/-!
PROOF. What the decision of a command leaves, and what reads of banks and of calibration entries return after the updates of
Machine/State.lean.
-/
namespace Sys2Proof.Machine

/-! ### Decisions of commands (R393) -/

section
variable {src : CmdSrc} {op tag : Nat}

/-- Whether a decision finds its command does not depend on the completion. -/
theorem decideIn_isSome (c c' : Completion) (l : List InFlight) : (decideIn src op tag c l).isSome = (decideIn src op tag c' l).isSome := by
  induction l with
  | nil => rfl
  | cons e l ih =>
    unfold decideIn
    split
    · rfl
    · rw [Option.isSome_map, Option.isSome_map, ih]

/-- A decision that finds its command leaves it decided. -/
theorem decideIn_decided {c : Completion} {l l' : List InFlight} (h : decideIn src op tag c l = some l') :
    ∃ e ∈ l', e.src = src ∧ e.opcode = op ∧ e.tag = tag ∧ e.done = some c := by
  induction l generalizing l' with
  | nil => cases h
  | cons e l ih =>
    unfold decideIn at h
    split at h
    · next hthis =>
      obtain rfl := Option.some.inj h
      simp only [Bool.and_eq_true, beq_iff_eq] at hthis
      obtain ⟨⟨⟨hsrc, hop⟩, htag⟩, -⟩ := hthis
      exact ⟨_, List.mem_cons_self, hsrc, hop, htag, rfl⟩
    · obtain ⟨r, hr, rfl⟩ := Option.map_eq_some_iff.1 h
      obtain ⟨x, hx, hdone⟩ := ih hr
      exact ⟨x, List.mem_cons_of_mem _ hx, hdone⟩

theorem State.inflight_setInflight (s : State) (l : List InFlight) : (s.setInflight l).host.inflight = l := rfl

/-- A command of this device's ring that has its place or finds one is decided by its settlement. -/
theorem State.decided_settle {s : State} (h : s.takes op tag = true) (c : Completion) :
    (s.settle .ring op tag c).decided op tag { c with time := s.time } := by
  unfold State.settle State.decided
  dsimp only
  split
  · next l hl => exact decideIn_decided hl
  · next hnone =>
    have hroom : s.host.inflight.length < 16 := by
      rw [State.takes, decideIn_isSome { status := 0 } { c with time := s.time }, hnone] at h
      simpa using h
    rw [if_pos hroom, State.inflight_setInflight]
    exact ⟨_, List.mem_append_right _ (List.mem_singleton_self _), rfl, rfl, rfl, rfl⟩

theorem State.takes_congr {s t : State} (h : t.host.inflight = s.host.inflight) (op tag : Nat) : t.takes op tag = s.takes op tag := by
  rw [State.takes, State.takes, h]

/-- A record leaves the commands in flight. -/
theorem State.inflight_emit (s : State) (type u : Nat) (l : List Int) : (s.emit type u l).host.inflight = s.host.inflight := by
  unfold State.emit State.push
  dsimp only
  split <;> rfl

end

section
variable (s : State) (src : CmdSrc) (op tag : Nat) (c : Completion) (target : Nat)

theorem State.settle_sameBut : s.SameBut Parts.safety (s.settle src op tag c) :=
  State.sameBut_of_outside (s.settle_safety src op tag c)

theorem State.accept_sameBut : s.SameBut Parts.safety (s.accept src op tag target) :=
  State.sameBut_of_outside (s.accept_outside src op tag target ⟨rfl, Parts.safety_regs (by decide)⟩)

/-- A settlement writes none of the registers from the P-channels' blocks on. -/
theorem State.reg_settle {a : Nat} (ha : 0x10000 ≤ a) : (s.settle src op tag c).reg a = s.reg a :=
  (s.settle_sameBut src op tag c).reg a (Nat.not_lt.2 ha)

theorem State.reg_accept {a : Nat} (ha : 0x10000 ≤ a) : (s.accept src op tag target).reg a = s.reg a :=
  (s.accept_sameBut src op tag target).reg a (Nat.not_lt.2 ha)

end

/-! ### Banks -/

section
variable (s : State) (m : Nat)

@[simp] theorem State.bankU_setBank_self (b : Bank) : (s.setBank m b).bankU m = b := Store.get_set_self _ _ _ _

theorem State.bankU_congr {s t : State} (h : t.bank = s.bank) (m : Nat) : t.bankU m = s.bankU m := by
  rw [State.bankU, State.bankU, h]

theorem State.bankU_setFld (a : Nat) (f : Field) (v : Nat) : (s.setFld a f v).bankU m = s.bankU m := rfl

theorem State.bankU_showMeas : s.showMeas.bankU m = s.bankU m := s.bankU_setFld m _ _ _

theorem State.bankU_emit (type u : Nat) (l : List Int) : (s.emit type u l).bankU m = s.bankU m := rfl

theorem State.bankU_settle (src : CmdSrc) (op tag : Nat) (c : Completion) : (s.settle src op tag c).bankU m = s.bankU m :=
  State.bankU_congr ((s.settle_sameBut src op tag c).bank rfl) m

theorem State.bankU_accept (src : CmdSrc) (op tag target : Nat) : (s.accept src op tag target).bankU m = s.bankU m :=
  State.bankU_congr ((s.accept_sameBut src op tag target).bank rfl) m

end

/-! ### Calibration entries -/

section
variable (s : State) (k : Nat)

@[simp] theorem State.calE_setCal_self (e : CalEntry) : (s.setCal k e).calE k = e := Store.get_set_self _ _ _ _

theorem State.calE_congr {s t : State} (h : t.cal = s.cal) (k : Nat) : t.calE k = s.calE k := by
  rw [State.calE, State.calE, h]

theorem State.calE_emit (type u : Nat) (l : List Int) : (s.emit type u l).calE k = s.calE k := rfl

theorem State.calE_setFld (a : Nat) (f : Field) (v : Nat) : (s.setFld a f v).calE k = s.calE k := rfl

theorem State.calE_count (a : Nat) (f : Field) : (s.count a f).calE k = s.calE k := rfl

end

end Sys2Proof.Machine
end

section
/-!
PROOF. System calibration, its commit and the reload of a calibration entry; O22 settled.
-/
namespace Sys2Proof.Machine

theorem calStat_channelReg : 0x10000 ≤ Reg.CAL_STAT := by decide

/-! ### A measurement begins (R137) -/

/-- The measurement that a calibration command of channel `ch` begins: of `n` slots, 8 where `n` is 0. -/
def State.newMeas (s : State) (src : CmdSrc) (tag ch n : Nat) (full : Bool) (target : Int) : Meas :=
  { src := src, tag := tag, full := full, ch := ch, gain := s.gainOf ch, count := if n = 0 then 8 else n, target := target,
    since := s.modClock + 1 }

/-- The state with measurement `me` in its bank. -/
def State.measuring (s : State) (me : Meas) : State :=
  (s.setBank (me.ch / 8) { s.bankU (me.ch / 8) with meas := some me }).raise Reg.CAL_STAT Fld.CAL_STAT_MEAS_BUSY

theorem State.meas_measuring (s : State) (me : Meas) : ((s.measuring me).bankU (me.ch / 8)).meas = some me := by
  rw [State.measuring, State.raise, State.bankU_setFld, State.bankU_setBank_self]

theorem State.flag_measuring (s : State) (me : Meas) : (s.measuring me).flag Reg.CAL_STAT Fld.CAL_STAT_MEAS_BUSY = true := by
  rw [State.measuring, State.flag_raise _ _ ⟨by decide, by decide⟩]

section
variable {s : State} {ch n : Nat} (hch : ch ≤ 63) (hn : n ≤ 64) (h : hasPch s.fac.variant ch = true) (hserv : s.inService = true)
  (hmask : s.chMasked ch = false) (hfree : (s.bankU (ch / 8)).meas = none) (hcommit : s.commit = none)
  (src : CmdSrc) (tag : Nat) (full : Bool) (target : Int)
include hch hn h hserv hmask hfree hcommit

theorem State.calSystem_accepted : s.calSystem src tag ch n full target =
    (s.measuring (s.newMeas src tag ch n full target)).accept src (if full then 0x0042 else 0x0041) tag 0 := by
  have hform : ¬(63 < ch ∨ 64 < n) := by omega
  rw [State.calSystem, if_neg hform, if_neg (by simp [h]), if_neg (by simp [hserv]), State.requestCalibration,
    if_neg (by simp [hmask]), if_neg (by simp [hfree, hcommit])]
  rfl

theorem State.calSystem_begins :
    ((s.calSystem src tag ch n full target).bankU (ch / 8)).meas = some (s.newMeas src tag ch n full target) ∧
      (s.calSystem src tag ch n full target).flag Reg.CAL_STAT Fld.CAL_STAT_MEAS_BUSY = true := by
  rw [State.calSystem_accepted hch hn h hserv hmask hfree hcommit, State.bankU_accept,
    State.flag_congr (State.reg_accept _ _ _ _ _ calStat_channelReg)]
  exact ⟨s.meas_measuring (s.newMeas src tag ch n full target), s.flag_measuring _⟩

end

/-! ### A commit begins (R142) -/

/-- The commit of the entries that are pending now. -/
def State.newCommit (s : State) (src : CmdSrc) (tag : Nat) : Commit :=
  { src := src, tag := tag, entries := s.pendingKeys.map (fun k => (k, (s.calE k).words)) }

theorem State.raise_commit (s : State) (a : Nat) (f : Field) : (s.raise a f).commit = s.commit := rfl

theorem State.clear_commit (s : State) (a : Nat) (f : Field) : (s.clear a f).commit = s.commit := rfl

section
variable {s : State} (hserv : s.inService = true) (hcommit : s.commit = none)
  (hflash : s.flag Reg.BOOT_CTRL Fld.BOOT_CTRL_FL_RELEASE = false) (hkeys : s.pendingKeys ≠ []) (src : CmdSrc) (tag : Nat)
include hserv hcommit hflash hkeys

theorem calCommit_accepted : calCommit s src tag =
    ({ s with commit := some (s.newCommit src tag) }.raise Reg.CAL_STAT Fld.CAL_STAT_COMMIT_BUSY).accept src 0x0043 tag 0 := by
  rw [calCommit, if_neg (by simp [hserv]), State.requestCommit]
  dsimp only
  rw [if_neg (by simp [hcommit]), if_neg (by simp [hflash]), if_neg (by simp [hkeys])]
  rfl

theorem calCommit_begins :
    (calCommit s src tag).commit = some (s.newCommit src tag) ∧
      (calCommit s src tag).flag Reg.CAL_STAT Fld.CAL_STAT_COMMIT_BUSY = true := by
  rw [calCommit_accepted hserv hcommit hflash hkeys, State.flag_congr (State.reg_accept _ _ _ _ _ calStat_channelReg),
    (State.accept_sameBut _ _ _ _ _).commit rfl]
  exact ⟨State.raise_commit _ _ _, State.flag_raise _ _ ⟨by decide, by decide⟩⟩

end

/-! ### The slots of a measurement are complete (R138 to R140) -/

section
variable {s : State} {m : Nat} {me : Meas} (w : List Word)

/-- Before the bank's first valid cycle the new words wait in the measurement. -/
theorem State.meas_finishCalibration_waits (hsf : (s.bankU m).sf = none) :
    ((s.finishCalibration m me w).bankU m).meas = some { me with words := some w } := by
  rw [State.finishCalibration, if_pos (by simp [hsf]), State.bankU_setBank_self]

/-- Once the bank has had a valid cycle the measurement has its working entry ready. -/
theorem State.meas_finishCalibration_ready (hsf : (s.bankU m).sf ≠ none) :
    ((s.finishCalibration m me w).bankU m).meas =
      some { me with words := some (s.calEntryWords me w), ready := some s.modClock } := by
  rw [State.finishCalibration, if_neg (by simp [hsf]), State.bankU_settle, State.bankU_setBank_self]

variable {w} (hm : (s.bankU m).meas = some me) (htaken : me.count ≤ me.taken) (hwords : me.words = none)
include hm htaken hwords

theorem calMeasureDone_forms (hnew : s.calNewWords me = some w) : calMeasureDone s m = s.finishCalibration m me w := by
  simp only [calMeasureDone, hm, hnew, if_neg (show ¬(decide (me.taken < me.count) || me.words.isSome) = true by
    simp [hwords, htaken])]

theorem meas_calMeasureDone_unusable (hnew : s.calNewWords me = none) : ((calMeasureDone s m).bankU m).meas = none := by
  simp only [calMeasureDone, hm, hnew, if_neg (show ¬(decide (me.taken < me.count) || me.words.isSome) = true by
    simp [hwords, htaken])]
  rw [State.bankU_showMeas, State.bankU_settle, State.bankU_setBank_self]

end

/-! ### A ready entry is applied (R141) -/

/-- Every part but the banks' checkers. -/
def Parts.butBank : Parts := { Parts.all with bank := false }

/-- The working entry of a measurement enters the store: at base sample `k` where its gain is in use, else at once. -/
def State.entryTaken (s : State) (me : Meas) (w : List Word) (k : Nat) (inUse : Bool) : State :=
  if inUse then
    if k = s.baseIdx.toNat + 1 then s.applyWorking me.ch me.gain k w
    else s.setChk me.ch { s.chkU me.ch with applyAt := some (k, me.gain, w) }
  else s.storeWorking me.ch me.gain w

/-- Bank `m` without its measurement `me`, whose entry the running slot takes up. -/
def State.measApplied (s : State) (m : Nat) (me : Meas) (w : List Word) (sl : Slot) : State :=
  (s.setBank m { s.bankU m with meas := none, cur := some (sl.withEntry me.ch me.gain w) }).showMeas

theorem State.bankU_measApplied (s : State) (m : Nat) (me : Meas) (w : List Word) (sl : Slot) : (s.measApplied m me w sl).bankU m =
    { s.bankU m with meas := none, cur := some (sl.withEntry me.ch me.gain w) } := by
  rw [State.measApplied, State.bankU_showMeas, State.bankU_setBank_self]

theorem State.bankU_storeWorking (s : State) (ch gain : Nat) (w : List Word) (m : Nat) :
    (s.storeWorking ch gain w).bankU m = s.bankU m := by
  rw [State.storeWorking, State.countPending, State.bankU_setFld]
  rfl

/-- The store holds the new words of the entry. -/
theorem State.calE_storeWorking (s : State) (ch gain : Nat) (w : List Word) :
    (s.storeWorking ch gain w).calE (calKeyP ch gain) = { words := w } := by
  rw [State.storeWorking, State.countPending, State.calE_setFld]
  exact s.calE_setCal_self _ _

theorem State.bankU_entryTaken (s : State) (me : Meas) (w : List Word) (k : Nat) (inUse : Bool) (m : Nat) :
    (s.entryTaken me w k inUse).bankU m = s.bankU m := by
  unfold State.entryTaken
  split
  · split
    · have hout := s.applyWorking_outside (P := Parts.butBank) me.ch me.gain k w (by simp [Parts.butBank, Parts.all, Parts.emits])
      exact State.bankU_congr ((State.sameBut_of_outside hout).bank rfl) m
    · rfl
  · exact s.bankU_storeWorking _ _ _ _

/-- An entry whose gain is not in use enters the store at once. -/
theorem State.words_entryTaken (s : State) (me : Meas) (w : List Word) (k : Nat) :
    ((s.entryTaken me w k false).calE (calKeyP me.ch me.gain)).words = w := by
  rw [State.entryTaken, if_neg Bool.false_ne_true, State.calE_storeWorking]

section
variable {s : State} {m since : Nat} {me : Meas} {w : List Word} {sl : Slot} (hm : (s.bankU m).meas = some me)
  (hwords : me.words = some w) (hready : me.ready = some since) (hcur : (s.bankU m).cur = some sl) (hsince : since ≤ sl.b0)
  (hurgent : sl.od.any (·.urgent) = false)
include hm hwords hready hcur hsince hurgent

theorem calApplied_due : ∃ k l, calApplied s m =
    ((s.measApplied m me w sl).entryTaken me w k (me.gain == s.gainOf me.ch)).emit 0x0148 me.ch l := by
  have hnot : ¬(decide (sl.b0 < since) || sl.od.any (·.urgent)) = true := by simp [hsince, hurgent]
  simp only [calApplied, hm, hcur, hwords, hready, if_neg hnot]
  exact ⟨_, _, rfl⟩

theorem calApplied_leaves :
    ((calApplied s m).bankU m).meas = none ∧
      ((calApplied s m).bankU m).cur = some (sl.withEntry me.ch me.gain w) ∧
      (me.gain ≠ s.gainOf me.ch → ((calApplied s m).calE (calKeyP me.ch me.gain)).words = w) := by
  obtain ⟨k, l, heq⟩ := calApplied_due hm hwords hready hcur hsince hurgent
  rw [heq, State.bankU_emit, State.bankU_entryTaken, State.bankU_measApplied, State.calE_emit]
  refine ⟨rfl, rfl, fun hgain => ?_⟩
  rw [beq_eq_false_iff_ne.2 hgain]
  exact State.words_entryTaken _ me w k

end

/-! ### The commit ends (R142, R414) -/

/-- No commit runs any more. -/
def State.commitOver (s : State) : State := { s with commit := none }.clear Reg.CAL_STAT Fld.CAL_STAT_COMMIT_BUSY

/-- The slot whose CALSET is written first: the one that the device did not boot from. -/
def State.firstWritten (s : State) : Nat := if s.bootu.slotB then 0 else 1

/-- A committed entry is no longer pending, in the image's CALSET and in the store where it still stands as it was. -/
def State.entryCommitted (s : State) (e : Nat × List Word) : State :=
  let s := s.setCalset e.1 (committed e.2)
  if (s.calE e.1).words = e.2 then s.setCal e.1 { s.calE e.1 with words := committed e.2 } else s

/-- Commit `c` has been written to both slots, and its record. -/
def State.commitDone (s : State) (c : Commit) (other : List (BitVec 8)) : State :=
  ((c.entries.foldl State.entryCommitted ((s.commitOver.writeCalset s.commitOver.firstWritten other c.entries).writeCalset
    (1 - s.commitOver.firstWritten) s.commitOver.bootedCalset c.entries)).countPending).emit 0x0149 0 [c.entries.length, 2]

/-- A flash operation of commit `c` has failed in slot `slot`. -/
def State.commitFailed (s : State) (c : Commit) (slot off op : Nat) (other : List (BitVec 8)) : State :=
  (if slot = s.commitOver.firstWritten then s.commitOver
    else s.commitOver.writeCalset s.commitOver.firstWritten other c.entries).emit 0x0055 0 [slot, off, op]

section
variable {s : State} {c : Commit} (other : List (BitVec 8)) (slot off op : Nat)

theorem calCommitDone_ok (h : s.commit = some c) : calCommitDone s { other := other } =
    (s.commitDone c other).settle c.src 0x0043 c.tag { status := stOk, result := leBytes 2 c.entries.length } := by
  simp only [calCommitDone, h]
  rfl

theorem calCommitDone_failed (h : s.commit = some c) : calCommitDone s { fail := some (slot, off, op), other := other } =
    (s.commitFailed c slot off op other).settle c.src 0x0043 c.tag { status := stRefused, detail := 12 } := by
  simp only [calCommitDone, h]
  rfl

variable (s c)

/-- The parts that the writing of a commit's entries takes up. -/
def Parts.commitWritten : Parts := { out := true, bootu := true, cal := true }

theorem State.entryCommitted_outside (s : State) (e : Nat × List Word) :
    (s.entryCommitted e).outside Parts.commitWritten = s.outside Parts.commitWritten := by
  have hset : (s.setCalset e.1 (committed e.2)).outside Parts.commitWritten = s.outside Parts.commitWritten :=
    s.setCalset_outside _ _ rfl
  unfold State.entryCommitted
  dsimp only
  split
  · rw [State.setCal_outside _ _ _ rfl, hset]
  · exact hset

/-- Until the count of pending entries, the writing of a commit leaves all but the entries, the image and what leaves the device. -/
theorem State.commitWritten_sameBut (first second : Nat) (sec : List (BitVec 8)) (es : List (Nat × List Word)) :
    s.SameBut Parts.commitWritten (es.foldl State.entryCommitted ((s.writeCalset first other es).writeCalset second sec es)) := by
  refine State.sameBut_of_outside ?_
  rw [State.foldl_outside State.entryCommitted_outside, State.writeCalset_outside _ _ _ _ rfl, State.writeCalset_outside _ _ _ _ rfl]

/-- A commit that has ended leaves none running, and its command's place as it was. -/
def State.EndsCommit (s u : State) : Prop :=
  u.commit = none ∧ u.flag Reg.CAL_STAT Fld.CAL_STAT_COMMIT_BUSY = false ∧ u.host.inflight = s.host.inflight ∧ u.time = s.time

theorem State.endsCommit_commitOver : s.EndsCommit s.commitOver := by
  rw [State.EndsCommit, State.commitOver, State.clear_commit, State.clear_host, State.clear_time,
    State.flag_clear _ ⟨by decide, by decide⟩]
  exact ⟨rfl, rfl, rfl, rfl⟩

variable {s}

/-- What keeps the commit's part, its busy bit, the commands in flight and the time keeps the end of a commit. -/
theorem State.EndsCommit.kept {u v : State} (h : s.EndsCommit u) (hcommit : v.commit = u.commit)
    (hflag : v.flag Reg.CAL_STAT Fld.CAL_STAT_COMMIT_BUSY = u.flag Reg.CAL_STAT Fld.CAL_STAT_COMMIT_BUSY)
    (hinflight : v.host.inflight = u.host.inflight) (htime : v.time = u.time) : s.EndsCommit v := by
  rw [State.EndsCommit, hcommit, hflag, hinflight, htime]
  exact h

theorem State.EndsCommit.emit {u : State} (h : s.EndsCommit u) (type unit : Nat) (l : List Int) : s.EndsCommit (u.emit type unit l) :=
  h.kept (u.emit_commit _ _ _) (State.flag_congr (u.emit_reg _ _ _ (by decide)) _) (u.inflight_emit _ _ _) (u.emit_time _ _ _)

theorem State.EndsCommit.countPending {u : State} (h : s.EndsCommit u) : s.EndsCommit u.countPending :=
  h.kept (u.setFld_commit _ _ _) (u.flag_setFld_apart ⟨by decide, by decide⟩ (by decide) (by decide) _)
    (congrArg HostUnit.inflight (u.setFld_host _ _ _)) (u.setFld_time _ _ _)

theorem State.EndsCommit.written {u v : State} (h : s.EndsCommit u) (same : u.SameBut Parts.commitWritten v) : s.EndsCommit v :=
  h.kept (same.commit rfl) (State.flag_congr (same.reg Reg.CAL_STAT id) _) (congrArg HostUnit.inflight (same.host rfl)) (same.time rfl)

variable (s)

theorem State.endsCommit_commitDone : s.EndsCommit (s.commitDone c other) :=
  ((s.endsCommit_commitOver.written (State.commitWritten_sameBut _ other _ _ _ c.entries)).countPending).emit _ _ _

theorem State.endsCommit_commitFailed : s.EndsCommit (s.commitFailed c slot off op other) := by
  refine State.EndsCommit.emit ?_ _ _ _
  split
  · exact s.endsCommit_commitOver
  · exact s.endsCommit_commitOver.written (State.sameBut_of_outside (State.writeCalset_outside _ _ _ _ rfl))

variable {s c}

/-- The settlement of a commit that has ended leaves none running. -/
theorem State.EndsCommit.settled {u : State} (h : s.EndsCommit u) (x : Completion) :
    (u.settle c.src 0x0043 c.tag x).commit = none ∧
      (u.settle c.src 0x0043 c.tag x).flag Reg.CAL_STAT Fld.CAL_STAT_COMMIT_BUSY = false := by
  obtain ⟨hcommit, hflag, -, -⟩ := h
  exact ⟨((u.settle_sameBut _ _ _ x).commit rfl).trans hcommit,
    (State.flag_congr (u.reg_settle _ _ _ x calStat_channelReg) _).trans hflag⟩

/-- The settlement of a commit of this device's ring decides its command. -/
theorem State.EndsCommit.decided {u : State} (h : s.EndsCommit u) (hsrc : c.src = .ring) (htakes : s.takes 0x0043 c.tag = true)
    (x : Completion) : (u.settle c.src 0x0043 c.tag x).decided 0x0043 c.tag { x with time := s.time } := by
  obtain ⟨-, -, hinflight, htime⟩ := h
  rw [hsrc, ← htime]
  exact State.decided_settle ((State.takes_congr hinflight _ _).trans htakes) x

theorem calCommitDone_ends (h : s.commit = some c) (e : CommitEnd) :
    (calCommitDone s e).commit = none ∧ (calCommitDone s e).flag Reg.CAL_STAT Fld.CAL_STAT_COMMIT_BUSY = false := by
  obtain ⟨fail, other⟩ := e
  cases fail with
  | none =>
    rw [calCommitDone_ok other h]
    exact (s.endsCommit_commitDone c other).settled _
  | some f =>
    obtain ⟨slot, off, op⟩ := f
    rw [calCommitDone_failed other slot off op h]
    exact (s.endsCommit_commitFailed c other slot off op).settled _

end

/-! ### A poisoned entry is read again (R305) -/

/-- Every part but the calibration store. -/
def Parts.butCal : Parts := { Parts.all with cal := false }

section
variable (s : State) (key : Nat)

/-- An entry loaded from CALSET holds the words it was given, whether or not its CRC is right. -/
theorem State.words_loadCalEntry {s : State} {key : Nat} (h : calPresent s.fac.variant key = true) (ws : List Word) :
    ((s.loadCalEntry key ws).calE key).words = ws := by
  have hload : ∀ bad, ((s.setCal key { words := ws, bad := bad }).calE key).words = ws := fun bad => by rw [State.calE_setCal_self]
  rw [State.loadCalEntry, if_neg (by simp [h])]
  dsimp only
  split
  · rw [State.calE_emit, State.calE_count]
    exact hload _
  · exact hload _

/-- A change of an entry's poison leaves its words. -/
theorem State.calE_setCalPoison (b : Bool) : (s.setCalPoison key b).calE key = { s.calE key with poison := b } := by
  have hset : (s.setCal key { s.calE key with poison := b }).calE key = { s.calE key with poison := b } := State.calE_setCal_self _ _ _
  have hjudged : ∀ {u : State}, u.outside Parts.butCal = (s.setCal key { s.calE key with poison := b }).outside Parts.butCal →
      u.calE key = { s.calE key with poison := b } :=
    fun hout => (State.calE_congr ((State.sameBut_of_outside hout).cal rfl) key).trans hset
  unfold State.setCalPoison
  dsimp only
  split
  · exact hjudged (State.verifyP_outside _ _ (by simp [Parts.butCal, Parts.all, Parts.emits]))
  · split
    · exact hset
    · exact hjudged (State.verifyW_outside _ _ (by simp [Parts.butCal, Parts.all, Parts.emits]))

variable {s key}

theorem calEntryReload_readable (h : calPresent s.fac.variant key = true) (hpo : (s.calE key).poison = true)
    (hmc : s.bootu.mcRunning = true) :
    ((calEntryReload s key true).calE key).words = s.calsetEntry key ∧ ((calEntryReload s key true).calE key).poison = false := by
  rw [calEntryReload, if_neg (by simp [h, hpo, hmc]), State.calE_setCalPoison]
  exact ⟨State.words_loadCalEntry (s := s.setCal key { s.calE key with poison := false }) h _, rfl⟩

theorem calEntryReload_unreadable : calEntryReload s key false = s := by
  rw [calEntryReload, if_pos (by simp)]

end

/-- Settles O22: each row's meaning has a frame, so it is the row's answer; the lemmas on the beginning and the end of a measurement, on
entries that are applied, on commits and on the reload say what it leaves. -/
theorem calibrationCommands : Obligations.CalibrationCommands := by
  unfold Obligations.CalibrationCommands
  have hzero : ∀ s src tag ch n, exec (.calSystemZero src tag ch n) s = .next (s.calSystem src tag ch n false 0) :=
    fun s src tag ch n => State.effect_of_outside (calSystemZero_outside (P := Parts.all) s src tag ch n (by simp [Parts.all]))
  have hfull : ∀ s src tag ch n target, exec (.calSystemFull src tag ch n target) s = .next (s.calSystem src tag ch n true target) :=
    fun s src tag ch n target =>
      State.effect_of_outside (calSystemFull_outside (P := Parts.all) s src tag ch n target (by simp [Parts.all]))
  have hmeasured : ∀ s m, exec (.calMeasureDone m) s = .next (calMeasureDone s m) :=
    fun s m => State.effect_of_outside (calMeasureDone_outside (P := Parts.all) s m (by simp [Parts.all]))
  have hcommitted : ∀ s e, exec (.calCommitDone e) s = .next (calCommitDone s e) :=
    fun s e => State.effect_of_outside (calCommitDone_outside (P := Parts.all) s e (by simp [Parts.all, Parts.emits]))
  have hreloaded : ∀ s key readable, exec (.calEntryReload key readable) s = .next (calEntryReload s key readable) :=
    fun s key readable =>
      State.effect_of_outside (calEntryReload_outside (P := Parts.all) s key readable (by simp [Parts.all, Parts.emits]))
  refine ⟨?zero, ?full, ?commit, ?unusable, ?waits, ?ready, ?applied, ?ended, ?ok, ?failed, ?readable, ?unreadable⟩
  case zero =>
    intro s src tag ch n hch hn h hserv hmask hfree hcommit
    exact ⟨_, hzero s src tag ch n, State.calSystem_begins hch hn h hserv hmask hfree hcommit src tag false 0⟩
  case full =>
    intro s src tag ch n target hch hn h hserv hmask hfree hcommit
    exact ⟨_, hfull s src tag ch n target, State.calSystem_begins hch hn h hserv hmask hfree hcommit src tag true target⟩
  case commit =>
    intro s src tag hserv hcommit hflash hkeys
    exact ⟨_, State.effect_of_outside (calCommit_outside (P := Parts.all) s src tag (by simp [Parts.all])),
      calCommit_begins hserv hcommit hflash hkeys src tag⟩
  case unusable =>
    intro s m me hm htaken hwords hnew
    exact ⟨_, hmeasured s m, meas_calMeasureDone_unusable hm htaken hwords hnew⟩
  case waits =>
    intro s m me w hm htaken hwords hnew hsf
    refine ⟨_, hmeasured s m, ?_⟩
    rw [calMeasureDone_forms hm htaken hwords hnew]
    exact State.meas_finishCalibration_waits w hsf
  case ready =>
    intro s m me w hm htaken hwords hnew hsf
    refine ⟨_, hmeasured s m, ?_⟩
    rw [calMeasureDone_forms hm htaken hwords hnew]
    exact State.meas_finishCalibration_ready w hsf
  case applied =>
    intro s m since me w sl hm hwords hready hcur hsince hurgent
    exact ⟨_, State.effect_of_outside (calApplied_outside (P := Parts.all) s m (by simp [Parts.all, Parts.emits])),
      calApplied_leaves hm hwords hready hcur hsince hurgent⟩
  case ended =>
    intro s e c h
    exact ⟨_, hcommitted s e, calCommitDone_ends h e⟩
  case ok =>
    intro s c other h hsrc htakes
    refine ⟨_, hcommitted s _, ?_⟩
    rw [calCommitDone_ok other h]
    exact (s.endsCommit_commitDone c other).decided hsrc htakes _
  case failed =>
    intro s c slot off op other h hsrc htakes
    refine ⟨_, hcommitted s _, ?_⟩
    rw [calCommitDone_failed other slot off op h]
    exact (s.endsCommit_commitFailed c other slot off op).decided hsrc htakes _
  case readable =>
    intro s key h hpo hmc
    exact ⟨_, hreloaded s key true, calEntryReload_readable h hpo hmc⟩
  case unreadable =>
    intro s key hpo
    exact ⟨_, hreloaded s key false, calEntryReload_unreadable⟩

end Sys2Proof.Machine
end

section
/-!
PROOF. The W-channels, window monitors, hit comparators and start units as units of their stores and by their registers; fields of a judged
write; what an event that is offered to triggers and start units reaches.
-/
namespace Sys2Proof.Machine

/-! ### Units of their stores -/

section
variable (s : State) (n a : Nat)

@[simp] theorem State.reg_setWch (w : Wch) : (s.setWch n w).reg a = s.reg a := rfl

@[simp] theorem State.wmU_setWm_self (w : Wm) : (s.setWm n w).wmU n = w := Store.get_set_self _ _ _ _
@[simp] theorem State.reg_setWm (w : Wm) : (s.setWm n w).reg a = s.reg a := rfl

@[simp] theorem State.hcU_setHc_self (x : Hc) : (s.setHc n x).hcU n = x := Store.get_set_self _ _ _ _
@[simp] theorem State.reg_setHc (x : Hc) : (s.setHc n x).reg a = s.reg a := rfl

@[simp] theorem State.startU_setStart_self (u : StartUnit) : (s.setStart n u).startU n = u := Store.get_set_self _ _ _ _
theorem State.startU_setStart_other {j : Nat} (h : j ≠ n) (u : StartUnit) : (s.setStart n u).startU j = s.startU j :=
  Store.get_set_other _ _ h _

@[simp] theorem State.reg_setRate (type key : Nat) (k : RateKey) : (s.setRate type key k).reg a = s.reg a := rfl

@[simp] theorem State.wmU_setReg (w : Word) : (s.setReg a w).wmU n = s.wmU n := rfl
@[simp] theorem State.wmU_setFld (f : Field) (v : Nat) : (s.setFld a f v).wmU n = s.wmU n := rfl
@[simp] theorem State.wmU_count (f : Field) : (s.count a f).wmU n = s.wmU n := rfl

@[simp] theorem State.hcU_setFld (f : Field) (v : Nat) : (s.setFld a f v).hcU n = s.hcU n := rfl
@[simp] theorem State.hcU_count (f : Field) : (s.count a f).hcU n = s.hcU n := rfl

theorem State.wchU_congr {s t : State} (h : t.wch = s.wch) (n : Nat) : t.wchU n = s.wchU n := by
  rw [State.wchU, State.wchU, h]

theorem State.wmU_congr {s t : State} (h : t.wm = s.wm) (i : Nat) : t.wmU i = s.wmU i := by
  rw [State.wmU, State.wmU, h]

theorem State.hcU_congr {s t : State} (h : t.hc = s.hc) (i : Nat) : t.hcU i = s.hcU i := by
  rw [State.hcU, State.hcU, h]

theorem State.startU_congr {s t : State} (h : t.start = s.start) (n : Nat) : t.startU n = s.startU n := by
  rw [State.startU, State.startU, h]

end

/-! ### Fields of a judged write (R27) -/

/-- Words that agree on the bits of a field agree in the field. -/
theorem getField_congr {f : Field} {v w : Word} (h : ∀ i ≤ f.hi, f.lo ≤ i → v.getLsbD i = w.getLsbD i) :
    getField f v = getField f w := by
  have hslice : ∀ x : Word, getField f x = (x.extractLsb' f.lo (fieldWidth f)).toNat := fun x => by
    rw [BitVec.extractLsb'_toNat, Nat.shiftRight_eq_div_pow]
    rfl
  rw [hslice, hslice]
  congr 1
  refine BitVec.eq_of_getLsbD_eq fun j hj => ?_
  have hin : f.lo + j ≤ f.hi := by
    unfold fieldWidth at hj
    omega
  rw [BitVec.getLsbD_extractLsb', BitVec.getLsbD_extractLsb', h _ hin (Nat.le_add_right _ _)]

theorem getLsbD_judged (old mask reject v : Word) (i : Nat) :
    (judged old mask reject v).getLsbD i = if mask.getLsbD i && !reject.getLsbD i then v.getLsbD i else old.getLsbD i := by
  by_cases hi : i < 32
  · simp only [judged, BitVec.getLsbD_or, BitVec.getLsbD_and, BitVec.getLsbD_not, hi, decide_true, Bool.true_and]
    cases mask.getLsbD i && !reject.getLsbD i <;> simp
  · simp [BitVec.getLsbD_of_ge _ _ (Nat.le_of_not_lt hi)]

section
variable {f : Field} {old mask reject v : Word}

/-- A field whose bits are writable and not rejected takes the value written. -/
theorem getField_judged_taken (h : ∀ i ≤ f.hi, f.lo ≤ i → (mask.getLsbD i && !reject.getLsbD i) = true) :
    getField f (judged old mask reject v) = getField f v :=
  getField_congr fun i hi hlo => by rw [getLsbD_judged, if_pos (h i hi hlo)]

/-- A rejected field keeps its value. -/
theorem getField_judged_kept (h : ∀ i ≤ f.hi, f.lo ≤ i → reject.getLsbD i = true) :
    getField f (judged old mask reject v) = getField f old :=
  getField_congr fun i hi hlo => by simp [getLsbD_judged, h i hi hlo]

/-- A field of a mask in which two words do not differ. -/
theorem getField_eq_of_xor (h : ∀ i ≤ f.hi, f.lo ≤ i → mask.getLsbD i = true) (hx : (old ^^^ v) &&& mask = 0) :
    getField f old = getField f v :=
  getField_congr fun i hi hlo => by
    have hbit := congrArg (·.getLsbD i) hx
    simpa [h i hi hlo] using hbit

end

/-! ### Events offered to triggers and start units (R168, R413) -/

/-- The parts that a trigger's actions reach. -/
def Parts.triggered : Parts :=
  { regs := fun r => r < 0x10000 ∨ each Reg.EXC_STAT r ∨ each Reg.FP_UTIL r, recs := true, classLost := true, host := true,
    exc := true, fresh := true, mode := true, nodes := true, out := true, port := true, rate := true, snp := true, snpSeen := true,
    trig := true }

/-- Of the registers from the P-channels' blocks on, a trigger reaches those that stand at offset 4 of 32 bytes alone. -/
theorem not_triggered {a : Nat} (ha : 0x10000 ≤ a) (hm : a % 32 ≠ 4) : ¬Parts.triggered.regs a := by
  rintro (hlow | ⟨k, hk⟩ | ⟨p, hp⟩)
  · omega
  · unfold Reg.EXC_STAT at hk
    omega
  · unfold Reg.FP_UTIL at hp
    omega

/-- The parts that an event offered to triggers and start units, and a crossing that wakes a converter, reach. -/
def Parts.crossing : Parts := { Parts.triggered with wch := true, start := true }

section
variable {P : Parts} (s : State) (source index : Nat) (t : Time)

/-- An event is offered: a set of parts that holds those of `Parts.triggered` is all that it reaches. -/
theorem State.offerTrigger_reaches (hemits : P.emits) (hregs : ∀ r, Parts.triggered.regs r → P.regs r)
    (hparts : P.exc = true ∧ P.fresh = true ∧ P.mode = true ∧ P.nodes = true ∧ P.out = true ∧ P.port = true ∧ P.rate = true ∧
      P.snp = true ∧ P.snpSeen = true ∧ P.trig = true) :
    (s.offerTrigger source index t).outside P = s.outside P := by
  have hlow : ∀ r, r < 0x10000 → P.regs r := fun r hr => hregs r (.inl hr)
  obtain ⟨hexc, hfresh, hmode, hnodes, hout, hport, hrate, hsnp, hseen, htrig⟩ := hparts
  exact State.offerTrigger_outside s source index t ⟨hemits, hexc, fun k => hregs _ (.inr (.inl ⟨k, rfl⟩)), hfresh,
    hlow _ (by decide), hmode, fun p => hregs _ (.inr (.inr ⟨p, rfl⟩)), hnodes, hlow _ (by decide), hout, hlow _ (by decide), hport,
    hlow _ (by decide), hrate, hlow _ (by decide), hsnp, hlow _ (by decide), hseen, hlow _ (by decide), htrig⟩

theorem State.offerTrigger_sameBut : s.SameBut Parts.triggered (s.offerTrigger source index t) :=
  State.sameBut_of_outside (s.offerTrigger_reaches source index t ⟨rfl, rfl, rfl, .inl (by decide)⟩ (fun _ hr => hr)
    ⟨rfl, rfl, rfl, rfl, rfl, rfl, rfl, rfl, rfl, rfl⟩)

/-- An offer to the start units changes what they hold alone. -/
theorem State.offerStart_reaches (hP : P.start = true) : (s.offerStart source index t).outside P = s.outside P := by
  refine State.foldl_outside (fun u n => ?_) _ s
  dsimp only
  rw [State.outside_ite, State.offerStartTo_outside _ _ _ hP, ite_self]

end

theorem Parts.crossing_emits : Parts.crossing.emits := ⟨rfl, rfl, rfl, .inl (by decide)⟩

theorem State.offerTrigger_crossing (s : State) (source index : Nat) (t : Time) :
    (s.offerTrigger source index t).outside Parts.crossing = s.outside Parts.crossing :=
  s.offerTrigger_reaches source index t Parts.crossing_emits (fun _ hr => hr) ⟨rfl, rfl, rfl, rfl, rfl, rfl, rfl, rfl, rfl, rfl⟩

end Sys2Proof.Machine
end

section
/-!
PROOF. The transitions, reads and writes of window monitors; O24 settled.
-/
namespace Sys2Proof.Machine

/-! ### The monitor's registers -/

section
variable (i : Nat)

theorem wmStat_channelReg : 0x10000 ≤ Reg.WM_STAT i := by
  unfold Reg.WM_STAT
  omega

theorem wmStat_not_triggered : ¬Parts.triggered.regs (Reg.WM_STAT i) :=
  not_triggered (wmStat_channelReg i) (by unfold Reg.WM_STAT; omega)

theorem wmCnt_not_triggered : ¬Parts.triggered.regs (Reg.WM_CNT i) :=
  not_triggered (by unfold Reg.WM_CNT; omega) (by unfold Reg.WM_CNT; omega)

theorem wmTimeLo_not_triggered : ¬Parts.triggered.regs (Reg.WM_TIME_LO i) :=
  not_triggered (by unfold Reg.WM_TIME_LO; omega) (by unfold Reg.WM_TIME_LO; omega)

theorem wmStat_ne_cnt : Reg.WM_STAT i ≠ Reg.WM_CNT i := by
  unfold Reg.WM_STAT Reg.WM_CNT
  omega

theorem wmStat_ne_time : Reg.WM_STAT i ≠ Reg.WM_TIME_LO i ∧ Reg.WM_STAT i ≠ Reg.WM_TIME_HI i := by
  unfold Reg.WM_STAT Reg.WM_TIME_LO Reg.WM_TIME_HI
  omega

theorem wmCnt_ne_time : Reg.WM_CNT i ≠ Reg.WM_TIME_LO i ∧ Reg.WM_CNT i ≠ Reg.WM_TIME_HI i := by
  unfold Reg.WM_CNT Reg.WM_TIME_LO Reg.WM_TIME_HI
  omega

theorem wmTimeLo_ne_timeHi : Reg.WM_TIME_LO i ≠ Reg.WM_TIME_HI i := by
  unfold Reg.WM_TIME_LO Reg.WM_TIME_HI
  omega

theorem wmCfg_ne_wmStat : Reg.WM_CFG i ≠ Reg.WM_STAT i := by
  unfold Reg.WM_CFG Reg.WM_STAT
  omega

theorem wmTh_ne_wmStat : Reg.WM_TH i ≠ Reg.WM_STAT i := by
  unfold Reg.WM_TH Reg.WM_STAT
  omega

theorem wmCfg_channelReg : 0x10000 ≤ Reg.WM_CFG i := by
  unfold Reg.WM_CFG
  omega

theorem wmTh_channelReg : 0x10000 ≤ Reg.WM_TH i := by
  unfold Reg.WM_TH
  omega

end

theorem State.reg_setPair_other (s : State) {lo hi a : Nat} (h : a ≠ lo ∧ a ≠ hi) (v : Nat) : (s.setPair lo hi v).reg a = s.reg a :=
  (State.reg_setReg_other _ h.2 _).trans (s.reg_setReg_other h.1 _)

theorem State.reg_setPair_lo (s : State) {lo hi : Nat} (h : lo ≠ hi) (v : Nat) : (s.setPair lo hi v).reg lo = BitVec.ofNat 32 v :=
  (State.reg_setReg_other _ h _).trans (s.reg_setReg_self _ _)

/-! ### Transitions (R158, R160) -/

/-- The monitor shows the new state, counts the transition and keeps its time: the first part of `State.wmMove`. -/
def State.wmShown (s : State) (i new : Nat) (t : Time) : State :=
  let u := ((s.setFld (Reg.WM_STAT i) Fld.WM_STAT_STATE new).count (Reg.WM_CNT i) Fld.WM_CNT_CROSSINGS).setPair (Reg.WM_TIME_LO i)
    (Reg.WM_TIME_HI i) t.toNat
  u.setWm i { u.wmU i with lastAt := t }

/-- A crossing that WAKE_EN names wakes the W-channel's converter (R164). -/
def State.wmWoken (s : State) (i : Nat) : State :=
  if i ≥ 64 ∧ s.flag (Reg.WM_CFG i) Fld.WM_CFG_WAKE_EN then s.wakeConverter (i - 64) else s

/-- The transition's record, written, counted or, where EVT does not enable it, dropped (R160). -/
def State.wmRecorded (s : State) (i old new : Nat) (t : Time) (late : Bool) : State :=
  if bitAt (s.fld (Reg.WM_CFG i) Fld.WM_CFG_EVT) (evtBit new) then
    let k := s.rateKey 0x0210 i
    let due := match k.lastA with | none => true | some a => msTime 1 ≤ (s.time - a).toNat
    let mk := fun (n : Nat) => ([(i : Int), old, new, bit late, n] : List Int)
    if due then (s.setRate 0x0210 i { lastA := some s.time, reported := new, interval := msTime 1 }).emitAt t 0x0210 i (mk k.suppA)
    else s.setRate 0x0210 i { k with
      suppA := k.suppA + 1, pend := if new = k.reported then none else some (mkRec 0x0210 i t (mk k.suppA)), pendNow := new }
  else s.setRate 0x0210 i { s.rateKey 0x0210 i with pend := none }

/-- The transition is offered to triggers and start units; a return to INSIDE releases the triggers. -/
def State.wmOffered (s : State) (i old new : Nat) (t : Time) : State :=
  let u := s.offerTrigger 1 i t
  let u := if old = wmInside then u.offerStart 4 i t else u
  if new = wmInside then u.releaseSource 1 i else u

section
variable (s : State) (i new : Nat) (t : Time) (late : Bool)

theorem State.wmMove_eq : s.wmMove i new t late =
    (((s.wmShown i new t).wmWoken i).wmRecorded i (s.wmState i) new t late).wmOffered i (s.wmState i) new t := rfl

theorem State.wmWoken_crossing : (s.wmWoken i).outside Parts.crossing = s.outside Parts.crossing := by
  rw [State.wmWoken, State.outside_ite, State.wakeConverter_outside s _ rfl, ite_self]

theorem State.wmRecorded_crossing (old : Nat) :
    (s.wmRecorded i old new t late).outside Parts.crossing = s.outside Parts.crossing := by
  have hrate : ∀ k : RateKey, (s.setRate 0x0210 i k).outside Parts.crossing = s.outside Parts.crossing :=
    fun k => s.setRate_outside 0x0210 i k rfl
  simp only [State.wmRecorded, State.outside_ite, State.emitAt_outside _ _ _ _ _ Parts.crossing_emits, hrate, ite_self]

theorem State.wmOffered_crossing (old : Nat) : (s.wmOffered i old new t).outside Parts.crossing = s.outside Parts.crossing := by
  have hrelease : ∀ u : State, (u.releaseSource 1 i).outside Parts.crossing = u.outside Parts.crossing :=
    fun u => u.releaseSource_outside 1 i rfl
  have hstart : ∀ u : State, (u.offerStart 4 i t).outside Parts.crossing = u.outside Parts.crossing :=
    fun u => u.offerStart_reaches 4 i t rfl
  simp only [State.wmOffered, State.outside_ite, hrelease, hstart, State.offerTrigger_crossing, ite_self]

/-- What follows of a transition, the wake, the record and the offers, leaves the monitor as shown. -/
theorem State.wmMove_reaches : (s.wmMove i new t late).outside Parts.crossing = (s.wmShown i new t).outside Parts.crossing := by
  rw [State.wmMove_eq, State.wmOffered_crossing, State.wmRecorded_crossing, State.wmWoken_crossing]

theorem State.wmMove_sameBut : (s.wmShown i new t).SameBut Parts.crossing (s.wmMove i new t late) :=
  State.sameBut_of_outside (s.wmMove_reaches i new t late)

theorem State.wmU_wmMove : (s.wmMove i new t late).wmU i = { s.wmU i with lastAt := t } := by
  rw [State.wmU_congr ((s.wmMove_sameBut i new t late).wm rfl), State.wmShown, State.wmU_setWm_self, State.setPair, State.wmU_setReg,
    State.wmU_setReg, State.wmU_count, State.wmU_setFld]

/-- WM_STAT after a transition: as the write of STATE has left it. -/
theorem State.wmStat_wmMove :
    (s.wmMove i new t late).reg (Reg.WM_STAT i) = (s.setFld (Reg.WM_STAT i) Fld.WM_STAT_STATE new).reg (Reg.WM_STAT i) := by
  rw [(s.wmMove_sameBut i new t late).reg _ (wmStat_not_triggered i), State.wmShown, State.reg_setWm,
    State.reg_setPair_other _ (wmStat_ne_time i), State.reg_count_other _ (wmStat_ne_cnt i)]

theorem State.wmState_wmMove (h : new < 4) : (s.wmMove i new t late).wmState i = new := by
  rw [State.wmState, State.fld_congr (s.wmStat_wmMove i new t late), State.fld_setFld_self _ _ ⟨by decide, by decide⟩]
  exact Nat.mod_eq_of_lt h

/-- Of WM_STAT, a transition changes STATE alone. -/
theorem State.flag_wmMove {f : Field} (hf : f.lo ≤ f.hi) (hapart : 1 < f.lo) :
    (s.wmMove i new t late).flag (Reg.WM_STAT i) f = s.flag (Reg.WM_STAT i) f := by
  rw [State.flag_congr (s.wmStat_wmMove i new t late)]
  exact s.flag_setFld_apart ⟨by decide, by decide⟩ hf (.inl hapart) new

theorem State.crossings_wmMove : (s.wmMove i new t late).fld (Reg.WM_CNT i) Fld.WM_CNT_CROSSINGS =
    satInc (fieldWidth Fld.WM_CNT_CROSSINGS) (s.fld (Reg.WM_CNT i) Fld.WM_CNT_CROSSINGS) := by
  have hshown : (s.wmShown i new t).reg (Reg.WM_CNT i) =
      ((s.setFld (Reg.WM_STAT i) Fld.WM_STAT_STATE new).count (Reg.WM_CNT i) Fld.WM_CNT_CROSSINGS).reg (Reg.WM_CNT i) := by
    rw [State.wmShown, State.reg_setWm, State.reg_setPair_other _ (wmCnt_ne_time i)]
  rw [State.fld_congr ((s.wmMove_sameBut i new t late).reg _ (wmCnt_not_triggered i)), State.fld_congr hshown,
    State.fld_count_self _ _ ⟨by decide, by decide⟩, s.fld_setFld_other (wmStat_ne_cnt i).symm]

theorem State.timeLo_wmMove : (s.wmMove i new t late).reg (Reg.WM_TIME_LO i) = BitVec.ofNat 32 t.toNat := by
  rw [(s.wmMove_sameBut i new t late).reg _ (wmTimeLo_not_triggered i), State.wmShown, State.reg_setWm,
    State.reg_setPair_lo _ (wmTimeLo_ne_timeHi i)]

end

/-- A transition leads into a state that two bits hold. -/
theorem lt_of_wmAdjacent {old new : Nat} (h : wmAdjacent old new = true) : new < 4 := by
  simp only [wmAdjacent, wmInside, wmAbove, wmBelow, Bool.or_eq_true, Bool.and_eq_true, beq_iff_eq] at h
  omega

theorem wmTransition_due {s : State} {i new : Nat} (t : Time) (h : hasWm s.fac.variant i = true)
    (hen : s.flag (Reg.WM_CFG i) Fld.WM_CFG_EN = true) (htest : (s.wmU i).test.running = false)
    (hadj : wmAdjacent (s.wmState i) new = true) : wmTransition s i new t = s.wmMove i new (s.wmTime i t false) false := by
  rw [wmTransition, if_neg (by simp [h, hen, htest, hadj])]

/-! ### The first resolution (R159) -/

theorem wmResolve_due {s : State} {i new : Nat} (h : hasWm s.fac.variant i = true)
    (hen : s.flag (Reg.WM_CFG i) Fld.WM_CFG_EN = true) (hun : s.wmState i = wmUnresolved) (hlo : 1 ≤ new) (hhi : new ≤ 3) :
    wmResolve s i new = (s.setFld (Reg.WM_STAT i) Fld.WM_STAT_STATE new).raise (Reg.WM_STAT i) Fld.WM_STAT_RESOLVED_S := by
  have hzero : new ≠ 0 := by omega
  have hfour : ¬4 ≤ new := by omega
  rw [wmResolve, if_neg (by simp [h, hen, hun, hzero, hfour])]

/-- After the resolution STATE and RESOLVED_S show it, and no record has been written. -/
theorem wmResolve_leaves {s : State} {i new : Nat} (h : hasWm s.fac.variant i = true)
    (hen : s.flag (Reg.WM_CFG i) Fld.WM_CFG_EN = true) (hun : s.wmState i = wmUnresolved) (hlo : 1 ≤ new) (hhi : new ≤ 3) :
    (wmResolve s i new).wmState i = new ∧ (wmResolve s i new).flag (Reg.WM_STAT i) Fld.WM_STAT_RESOLVED_S = true ∧
      (wmResolve s i new).recs = s.recs := by
  rw [wmResolve_due h hen hun hlo hhi]
  refine ⟨?_, State.flag_raise _ _ ⟨by decide, by decide⟩, rfl⟩
  rw [State.wmState, State.raise, State.fld_setFld_apart _ _ ⟨by decide, by decide⟩ (by decide) (by decide),
    State.fld_setFld_self _ _ ⟨by decide, by decide⟩]
  exact Nat.mod_eq_of_lt (Nat.lt_succ_of_le hhi)

/-! ### Writes of WM_TH and WM_CFG (R158, R159) -/

section
variable (s : State) (i : Nat)

/-- Of the registers, a restart of the monitor changes STATE alone. -/
theorem State.reg_wmRestart (a : Nat) :
    (s.wmRestart i).reg a = (s.setFld (Reg.WM_STAT i) Fld.WM_STAT_STATE wmUnresolved).reg a := by
  have hrelease : ∀ u : State, (u.releaseSource 1 i).reg a = u.reg a := fun u =>
    (State.sameBut_of_outside (u.releaseSource_outside (P := { trig := true }) 1 i rfl)).reg a id
  rw [State.wmRestart, hrelease, State.setFld, State.setFld, State.reg_setReg, State.reg_setReg]
  simp only [State.reg_setWm, State.reg_setRate]

/-- The judgement of its channel by SMON reaches none of the registers from the P-channels' blocks on. -/
theorem State.reg_wmRestarted {a : Nat} (ha : 0x10000 ≤ a) :
    ((s.wmRestart i).verifyWm i).reg a = (s.setFld (Reg.WM_STAT i) Fld.WM_STAT_STATE wmUnresolved).reg a :=
  (State.reg_verifyP_channel _ ha i).trans (s.reg_wmRestart i a)

theorem State.wmState_wmRestarted : ((s.wmRestart i).verifyWm i).wmState i = wmUnresolved := by
  rw [State.wmState, State.fld_congr (s.reg_wmRestarted i (wmStat_channelReg i)),
    State.fld_setFld_self _ _ ⟨by decide, by decide⟩]
  rfl

theorem State.cfgRej_wmRestarted : ((s.wmRestart i).verifyWm i).flag (Reg.WM_STAT i) Fld.WM_STAT_CFG_REJ =
    s.flag (Reg.WM_STAT i) Fld.WM_STAT_CFG_REJ := by
  rw [State.flag_congr (s.reg_wmRestarted i (wmStat_channelReg i))]
  exact s.flag_setFld_apart ⟨by decide, by decide⟩ (by decide) (by decide) _

end

section
variable {s : State} {i : Nat} (h : hasWm s.fac.variant i = true) (v : Word)
include h

/-- A write of WM_TH: judged field by field; a change of MODE restarts the monitor. -/
theorem wmCfgWrite_th_leaves :
    (wmCfgWrite s i true v).reg (Reg.WM_TH i) = judged (s.reg (Reg.WM_TH i)) 0xE3FF03FF (wmThReject (s.reg (Reg.WM_CFG i)) v) v ∧
      (wmThReject (s.reg (Reg.WM_CFG i)) v ≠ 0 → (wmCfgWrite s i true v).flag (Reg.WM_STAT i) Fld.WM_STAT_CFG_REJ = true) := by
  have hth := s.reg_writeJudged_self (Reg.WM_TH i) 0xE3FF03FF (wmThReject (s.reg (Reg.WM_CFG i)) v) v (Reg.WM_STAT i)
    Fld.WM_STAT_CFG_REJ (wmTh_ne_wmStat i)
  have hrej := s.flag_writeJudged (Reg.WM_TH i) 0xE3FF03FF (wmThReject (s.reg (Reg.WM_CFG i)) v) v (Reg.WM_STAT i)
    Fld.WM_STAT_CFG_REJ ⟨by decide, by decide⟩
  rw [wmCfgWrite, if_neg (by simp [h])]
  simp only [if_true]
  split
  · exact ⟨hth, hrej⟩
  · rw [State.reg_wmRestarted _ _ (wmTh_channelReg i), State.reg_setFld_other _ (wmTh_ne_wmStat i), State.cfgRej_wmRestarted]
    exact ⟨hth, hrej⟩

/-- A write of WM_CFG: judged field by field; a change of EN restarts the monitor. -/
theorem wmCfgWrite_cfg_leaves :
    (wmCfgWrite s i false v).reg (Reg.WM_CFG i) = judged (s.reg (Reg.WM_CFG i)) 0x000000FD (wmCfgReject (s.reg (Reg.WM_TH i)) v) v ∧
      (wmCfgReject (s.reg (Reg.WM_TH i)) v ≠ 0 → (wmCfgWrite s i false v).flag (Reg.WM_STAT i) Fld.WM_STAT_CFG_REJ = true) ∧
      ((wmCfgWrite s i false v).fld (Reg.WM_CFG i) Fld.WM_CFG_EN ≠ s.fld (Reg.WM_CFG i) Fld.WM_CFG_EN →
        (wmCfgWrite s i false v).wmState i = wmUnresolved) := by
  have hcfg := s.reg_writeJudged_self (Reg.WM_CFG i) 0x000000FD (wmCfgReject (s.reg (Reg.WM_TH i)) v) v (Reg.WM_STAT i)
    Fld.WM_STAT_CFG_REJ (wmCfg_ne_wmStat i)
  have hrej := s.flag_writeJudged (Reg.WM_CFG i) 0x000000FD (wmCfgReject (s.reg (Reg.WM_TH i)) v) v (Reg.WM_STAT i)
    Fld.WM_STAT_CFG_REJ ⟨by decide, by decide⟩
  rw [wmCfgWrite, if_neg (by simp [h])]
  simp only [Bool.false_eq_true, if_false]
  split
  · next hsame => exact ⟨hcfg, hrej, fun hne => absurd hsame hne⟩
  · rw [State.reg_wmRestarted _ _ (wmCfg_channelReg i), State.reg_setFld_other _ (wmCfg_ne_wmStat i), State.cfgRej_wmRestarted]
    exact ⟨hcfg, hrej, fun _ => State.wmState_wmRestarted _ i⟩

/-! ### Reads of the time (R161) -/

omit v in
theorem wmTimeLoRead_out (who : Reader) :
    (wmTimeLoRead s who i).out = .regData who (Reg.WM_TIME_LO i) (s.readWmTimeLo who i).1 :: s.out := by
  rw [wmTimeLoRead, if_neg (by simp [h])]
  rfl

omit v in
theorem wmTimeHiRead_out (who : Reader) :
    (wmTimeHiRead s who i).out = .regData who (Reg.WM_TIME_HI i) (s.readWmTimeHi who i) :: s.out := by
  rw [wmTimeHiRead, if_pos h]
  rfl

end

/-- Settles O24: each row's meaning has a frame, so it is the row's answer; the lemmas on transitions, restarts and judged writes say what
it leaves. -/
theorem windowMonitors : Obligations.WindowMonitors := by
  unfold Obligations.WindowMonitors
  refine ⟨?transition, ?resolve, ?th, ?cfg, ?lo, ?hi⟩
  case transition =>
    intro s i new u h hen htest hadj
    refine ⟨_, State.effect_of_outside (P := Parts.all) (wmTransition_outside s i new u (by simp [Parts.all, Parts.emits])), ?_⟩
    rw [wmTransition_due u h hen htest hadj, State.wmU_wmMove]
    exact ⟨State.wmState_wmMove _ _ _ _ _ (lt_of_wmAdjacent hadj), rfl, State.crossings_wmMove _ _ _ _ _, State.timeLo_wmMove _ _ _ _ _⟩
  case resolve =>
    intro s i new h hen hun hlo hhi
    exact ⟨_, State.effect_of_outside (P := Parts.all) (wmResolve_outside s i new (by simp [Parts.all])),
      wmResolve_leaves h hen hun hlo hhi⟩
  case th =>
    intro s i v hb h
    exact ⟨_, State.answer_open (P := Parts.all) hb (wmCfgWrite_outside s i true v (by simp [Parts.all, Parts.emits])),
      wmCfgWrite_th_leaves h v⟩
  case cfg =>
    intro s i v hb h
    exact ⟨_, State.answer_open (P := Parts.all) hb (wmCfgWrite_outside s i false v (by simp [Parts.all, Parts.emits])),
      wmCfgWrite_cfg_leaves h v⟩
  case lo =>
    intro s who i hb h
    exact ⟨_, State.answer_open (P := Parts.all) hb (wmTimeLoRead_outside s who i (by simp [Parts.all])), wmTimeLoRead_out h who⟩
  case hi =>
    intro s who i hb h
    exact ⟨_, State.answer_open (P := Parts.all) hb (wmTimeHiRead_outside s who i (by simp [Parts.all])), wmTimeHiRead_out h who⟩

end Sys2Proof.Machine
end

section
/-!
PROOF. The converters of the W-channels: native samples, starts and stops, and the writes of WCH_CFG; O23 settled.
-/
namespace Sys2Proof.Machine

/-! ### The channel's registers -/

section
variable (n : Nat)

theorem wchStat_channelReg : 0x10000 ≤ Reg.WCH_STAT n := by
  unfold Reg.WCH_STAT
  omega

theorem wchStat_ne_wakeCnt (j : Nat) : Reg.WCH_STAT n ≠ Reg.WCH_WAKE_CNT j := by
  unfold Reg.WCH_STAT Reg.WCH_WAKE_CNT
  omega

theorem wchStat_ne_wchDelay : Reg.WCH_STAT n ≠ Reg.WCH_DELAY n := by
  unfold Reg.WCH_STAT Reg.WCH_DELAY
  omega

theorem wchCfg_ne_wchDelay : Reg.WCH_CFG n ≠ Reg.WCH_DELAY n := by
  unfold Reg.WCH_CFG Reg.WCH_DELAY
  omega

theorem wchCfg_ne_wchStat : Reg.WCH_CFG n ≠ Reg.WCH_STAT n := by
  unfold Reg.WCH_CFG Reg.WCH_STAT
  omega

end

/-! ### Native samples (R148, R151) -/

/-- A W-channel with a native sample taken: it stands first in the decimator's line and in what a hit may look back on. -/
def Wch.withSample (w : Wch) (x : WSample) : Wch :=
  { w with idx := w.idx + 1, line := (x :: w.line).take 691, hist := (x :: w.hist).take 1024, pinSeen := false }

section
variable (s : State) (n : Nat)

/-- A native sample of a running converter: it is taken, judged for overrange, fed to the hit in progress and decimated. -/
theorem nativeSample_running {s : State} {n : Nat} (h : hasWch s.fac.variant n = true)
    (hrun : s.flag (Reg.WCH_STAT n) Fld.WCH_STAT_RUNNING = true) (hgate : s.gateOpen 14 = true) (r : BitVec 20) :
    ∃ u x ovr, nativeSample s n r =
        (((State.setWch u n ((s.wchU n).withSample x)).wOverrange n ovr (decide (x.val < 0))).wFeedHit n x).wOutput n ∧
      x.idx = (s.wchU n).idx ∧
      (s.flag Reg.SAF_SUP Fld.SAF_SUP_REF = false → x.val = satSigned 20 (nativeCode (s.wCoef n).1 (s.wCoef n).2 r.toInt)) := by
  rw [nativeSample, if_neg (by simp [h, hrun, hgate])]
  exact ⟨_, _, _, rfl, rfl, fun href => by simp [href]⟩

/-- Of the channel's own state, the judgement of overrange touches the condition alone. -/
theorem State.wchU_wOverrange (ovr neg : Bool) : ∃ quiet beyond sign,
    (s.wOverrange n ovr neg).wchU n = { s.wchU n with quiet := quiet, overrange := beyond, ovrNeg := sign } := by
  cases ovr with
  | false => exact ⟨_, (s.wchU n).overrange, (s.wchU n).ovrNeg, State.wchU_setWch_self _ _ _⟩
  | true =>
    refine ⟨0, true, neg, ?_⟩
    rw [State.wOverrange, if_pos rfl]
    dsimp only
    split
    · exact State.wchU_setWch_self _ _ _
    · rw [State.wchU_congr ((State.emitLimited_sameBut _ _ _ _ _ _ _ _).wch rfl), State.wchU_setWch_self]

theorem State.wchU_wFeedHit (x : WSample) : (s.wFeedHit n x).wchU n = s.wchU n :=
  State.wchU_congr ((State.sameBut_of_outside (s.wFeedHit_outside (P := { hc := true }) n x rfl)).wch rfl) n

/-- An output of the decimator is kept for a snapshot, judged and delivered. -/
def State.wHandOn (s : State) (n idx period : Nat) (snap : Nat × Nat × Time) (poison : Bool) (v : OutVal) : State :=
  (((s.setWch n { s.wchU n with snap := some snap }).setTrustPoison (64 + n) 0 poison).verifyW n).deliver 3 n idx period v

/-- After a native sample the decimator has no output, or one that is a new result and is handed on. -/
theorem State.wOutput_cases : s.wOutput n = s ∨ ∃ d win val attr poison idx period snap v,
    s.wOutput n = ((s.decimated d win).2.newResult (64 + n) val attr poison).wHandOn n idx period snap poison v := by
  unfold State.wOutput
  dsimp only
  split
  · exact .inl rfl
  · split
    · exact .inl rfl
    · exact .inr ⟨_, _, _, _, _, _, _, _, _, rfl⟩

theorem State.wchU_decimated (d : Nat) (win : List WSample) : (s.decimated d win).2.wchU n = s.wchU n :=
  State.wchU_congr ((State.sameBut_of_outside (s.decimated_outside (P := { fresh := true }) d win rfl)).wch rfl) n

theorem State.wchU_newResult (i val attr : Nat) (poison : Bool) : (s.newResult i val attr poison).wchU n = s.wchU n :=
  State.wchU_congr ((State.sameBut_of_outside (s.newResult_outside (P := { res := true, regs := each Reg.RES_OVCNT }) i val attr poison
    ⟨rfl, fun j => ⟨j, rfl⟩⟩)).wch rfl) n

theorem State.wchU_wHandOn (idx period : Nat) (snap : Nat × Nat × Time) (poison : Bool) (v : OutVal) :
    (s.wHandOn n idx period snap poison v).wchU n = { s.wchU n with snap := some snap } := by
  have hverify : ∀ u : State, (u.verifyW n).wchU n = u.wchU n := fun u => State.wchU_congr ((u.verifyP_sameBut (64 + n)).wch rfl) n
  rw [State.wHandOn, State.wchU_congr ((State.deliver_sameBut _ _ _ _ _ _).wch rfl), hverify,
    State.wchU_congr ((State.setTrustPoison_sameBut _ _ _ _).wch rfl), State.wchU_setWch_self]

/-- Of the channel's own state, the decimator's output touches the snapshot alone. -/
theorem State.wchU_wOutput : ∃ snap, (s.wOutput n).wchU n = { s.wchU n with snap := snap } := by
  rcases s.wOutput_cases n with hnone | ⟨d, win, val, attr, poison, idx, period, snap, v, hout⟩
  · exact ⟨_, by rw [hnone]⟩
  · exact ⟨some snap, by rw [hout, State.wchU_wHandOn, State.wchU_newResult, State.wchU_decimated]⟩

/-- After a native sample its index is passed, no ball has been beyond the limit since, and it is the newest that a hit may look back on. -/
theorem nativeSample_leaves {s : State} {n : Nat} (h : hasWch s.fac.variant n = true)
    (hrun : s.flag (Reg.WCH_STAT n) Fld.WCH_STAT_RUNNING = true) (hgate : s.gateOpen 14 = true) (r : BitVec 20) :
    ((nativeSample s n r).wchU n).idx = (s.wchU n).idx + 1 ∧ ((nativeSample s n r).wchU n).pinSeen = false ∧
      (s.flag Reg.SAF_SUP Fld.SAF_SUP_REF = false → ∃ x, ((nativeSample s n r).wchU n).hist.head? = some x ∧
        x.idx = (s.wchU n).idx ∧ x.val = satSigned 20 (nativeCode (s.wCoef n).1 (s.wCoef n).2 r.toInt)) := by
  obtain ⟨u, x, ovr, heq, hidx, hval⟩ := nativeSample_running h hrun hgate r
  obtain ⟨quiet, beyond, sign, hjudged⟩ := (u.setWch n ((s.wchU n).withSample x)).wchU_wOverrange n ovr (decide (x.val < 0))
  obtain ⟨snap, hout⟩ := State.wchU_wOutput
    (((u.setWch n ((s.wchU n).withSample x)).wOverrange n ovr (decide (x.val < 0))).wFeedHit n x) n
  rw [heq, hout, State.wchU_wFeedHit, hjudged, State.wchU_setWch_self]
  exact ⟨rfl, rfl, fun href => ⟨x, rfl, hidx, hval href⟩⟩

/-! ### The end of an overrange condition (R148) -/

theorem wOverrangeLeave_leaves {s : State} {n : Nat} (h : hasWch s.fac.variant n = true) (hover : (s.wchU n).overrange = true)
    (hquiet : 8192 ≤ (s.wchU n).quiet) : ((wOverrangeLeave s n).wchU n).overrange = false := by
  rw [wOverrangeLeave, if_neg (by simp [h, hover, hquiet]), State.wchU_congr ((State.emitLimited_sameBut _ _ _ _ _ _ _ _).wch rfl),
    State.wchU_setWch_self]

/-! ### Starts (R152, R164) -/

/-- Whether a crossing's wake starts the converter: RUN is AUTO. -/
def State.wWakes (s : State) (n : Nat) : Bool := (s.wchU n).wakeReq && s.fld (Reg.WCH_CFG n) Fld.WCH_CFG_RUN == 0

/-- A wake is counted, and holds the gates of the W timebase and the decimator open. -/
def State.wakeTaken (s : State) (n : Nat) (wake : Bool) : State :=
  if wake then ((s.count (Reg.WCH_WAKE_CNT n) Fld.WCH_WAKE_CNT_WAKES).openGate 14).openGate 15 else s

theorem State.wStat_wakeTaken (wake : Bool) : (s.wakeTaken n wake).reg (Reg.WCH_STAT n) = s.reg (Reg.WCH_STAT n) := by
  have hgate : ∀ (u : State) (g : Nat), (u.openGate g).reg (Reg.WCH_STAT n) = u.reg (Reg.WCH_STAT n) := fun u g =>
    (State.sameBut_of_outside (u.openGate_outside (P := { clk := true, regs := (· < 0x10000) }) g
      ⟨rfl, show Reg.CLK_GATE_OPEN < 0x10000 by decide, show Reg.CLK_STAT < 0x10000 by decide⟩)).reg _
      (Nat.not_lt.mpr (wchStat_channelReg n))
  unfold State.wakeTaken
  split
  · rw [hgate, hgate, State.reg_count_other _ (wchStat_ne_wakeCnt n n)]
  · rfl

theorem wConverterStart_starts {s : State} {n : Nat} (h : hasWch s.fac.variant n = true) (hsleep : s.wAwake n = false)
    (hstart : s.wWakes n = true ∨ s.wRequired n s.curMode = true) : ∃ e, wConverterStart s n =
      ((s.raise (Reg.WCH_STAT n) Fld.WCH_STAT_WAKING).wakeTaken n (s.wWakes n)).setWch n
        { s.wchU n with wakeReq := false, woken := s.wWakes n, hitEnd := e } := by
  have hgo : (s.wWakes n || s.wRequired n s.curMode) = true := by simpa using hstart
  unfold State.wWakes at hgo
  rw [wConverterStart, if_neg (by simp only [h, hsleep, hgo]; decide)]
  exact ⟨_, rfl⟩

/-- A start: the converter is waking, and the wake that waited is taken up. -/
theorem wConverterStart_leaves {s : State} {n : Nat} (h : hasWch s.fac.variant n = true) (hsleep : s.wAwake n = false)
    (hstart : s.wWakes n = true ∨ s.wRequired n s.curMode = true) :
    (wConverterStart s n).flag (Reg.WCH_STAT n) Fld.WCH_STAT_WAKING = true ∧ ((wConverterStart s n).wchU n).wakeReq = false ∧
      ((wConverterStart s n).wchU n).woken = s.wWakes n := by
  obtain ⟨e, heq⟩ := wConverterStart_starts h hsleep hstart
  rw [heq, State.flag_congr (State.reg_setWch _ _ _ _), State.flag_congr (State.wStat_wakeTaken _ _ _), State.wchU_setWch_self]
  exact ⟨State.flag_raise _ _ ⟨by decide, by decide⟩, rfl, rfl⟩

/-! ### The first valid sample (R92, R152) -/

theorem State.discontinue_sameBut (srck : Nat) : s.SameBut { nodes := true, streams := true } (s.discontinue srck n) :=
  State.sameBut_of_outside (s.discontinue_outside srck n ⟨rfl, rfl⟩)

theorem State.reg_wRestart (a : Nat) : (s.wRestart n).reg a = s.reg a := by
  rw [State.wRestart, (State.discontinue_sameBut _ n 3).reg a id, State.reg_restartRes, State.reg_setWch]

theorem State.wchU_wRestart : (s.wRestart n).wchU n = { s.wchU n with line := [] } := by
  rw [State.wRestart, State.wchU_congr ((State.discontinue_sameBut _ n 3).wch rfl)]
  exact State.wchU_setWch_self _ _ _

theorem wConverterReady_due {s : State} {n : Nat} (h : hasWch s.fac.variant n = true)
    (hwaking : s.flag (Reg.WCH_STAT n) Fld.WCH_STAT_WAKING = true) (hgate : s.gateOpen 14 = true) :
    ∃ w x, wConverterReady s n = ((((s.clear (Reg.WCH_STAT n) Fld.WCH_STAT_WAKING).raise (Reg.WCH_STAT n)
      Fld.WCH_STAT_RUNNING).setWch n w).setHc n x).wRestart n := by
  rw [wConverterReady, if_neg (by simp [h, hwaking, hgate])]
  dsimp only
  split <;> exact ⟨_, _, rfl⟩

/-- The first valid sample: the converter runs, and its decimator is empty. -/
theorem wConverterReady_leaves {s : State} {n : Nat} (h : hasWch s.fac.variant n = true)
    (hwaking : s.flag (Reg.WCH_STAT n) Fld.WCH_STAT_WAKING = true) (hgate : s.gateOpen 14 = true) :
    (wConverterReady s n).flag (Reg.WCH_STAT n) Fld.WCH_STAT_RUNNING = true ∧
      (wConverterReady s n).flag (Reg.WCH_STAT n) Fld.WCH_STAT_WAKING = false ∧ ((wConverterReady s n).wchU n).line = [] := by
  obtain ⟨w, x, heq⟩ := wConverterReady_due h hwaking hgate
  have hstat : (wConverterReady s n).reg (Reg.WCH_STAT n) = ((s.clear (Reg.WCH_STAT n) Fld.WCH_STAT_WAKING).raise (Reg.WCH_STAT n)
      Fld.WCH_STAT_RUNNING).reg (Reg.WCH_STAT n) := by
    rw [heq, State.reg_wRestart, State.reg_setHc, State.reg_setWch]
  rw [State.flag_congr hstat, State.flag_congr hstat,
    State.flag_raise_apart _ (g := Fld.WCH_STAT_WAKING) ⟨by decide, by decide⟩ (by decide) (by decide), heq, State.wchU_wRestart]
  exact ⟨State.flag_raise _ _ ⟨by decide, by decide⟩, State.flag_clear _ ⟨by decide, by decide⟩, rfl⟩

/-! ### Stops (R152, R164) -/

/-- The converter's status and state as sleep leaves them: the first part of `State.wSleep`. -/
def State.wStopped (s : State) (n : Nat) : State :=
  let u := (s.clear (Reg.WCH_STAT n) Fld.WCH_STAT_RUNNING).clear (Reg.WCH_STAT n) Fld.WCH_STAT_WAKING
  u.setWch n { u.wchU n with line := [], hist := [], woken := false, wakeReq := false, hitEnd := none }

/-- The gates of the W timebase and the decimator close, where nothing else wants them open. -/
def State.wGatesReleased (s : State) : State :=
  [14, 15].foldl (fun (s : State) g => if s.wantedGates.getLsbD g then s else s.closeGate g) s

theorem State.wSleep_eq : s.wSleep n = (s.wStopped n).wGatesReleased := rfl

theorem State.wGatesReleased_sameBut : s.SameBut { clk := true } s.wGatesReleased := by
  refine State.sameBut_of_outside (State.foldl_outside (fun u g => ?_) [14, 15] s)
  rw [State.outside_ite, State.closeGate_outside _ _ rfl, ite_self]

/-- Beside the converter itself, sleep reaches the gates alone. -/
theorem State.wSleep_sameBut : (s.wStopped n).SameBut { clk := true } (s.wSleep n) := by
  rw [State.wSleep_eq]
  exact State.wGatesReleased_sameBut _

theorem State.reg_wSleep (a : Nat) : (s.wSleep n).reg a =
    ((s.clear (Reg.WCH_STAT n) Fld.WCH_STAT_RUNNING).clear (Reg.WCH_STAT n) Fld.WCH_STAT_WAKING).reg a := by
  rw [(s.wSleep_sameBut n).reg a id, State.wStopped, State.reg_setWch]

theorem State.wAwake_wSleep : (s.wSleep n).wAwake n = false := by
  have hrun : (s.wSleep n).flag (Reg.WCH_STAT n) Fld.WCH_STAT_RUNNING = false := by
    rw [State.flag_congr (s.reg_wSleep n _), State.flag_clear_apart _ ⟨by decide, by decide⟩ (by decide) (by decide)]
    exact s.flag_clear ⟨by decide, by decide⟩
  have hwake : (s.wSleep n).flag (Reg.WCH_STAT n) Fld.WCH_STAT_WAKING = false := by
    rw [State.flag_congr (s.reg_wSleep n _)]
    exact State.flag_clear _ ⟨by decide, by decide⟩
  rw [State.wAwake, hrun, hwake]
  rfl

theorem State.woken_wSleep : ((s.wSleep n).wchU n).woken = false := by
  rw [State.wchU_congr ((s.wSleep_sameBut n).wch rfl), State.wStopped, State.wchU_setWch_self]

theorem State.cfgRej_wSleep :
    (s.wSleep n).flag (Reg.WCH_STAT n) Fld.WCH_STAT_CFG_REJ = s.flag (Reg.WCH_STAT n) Fld.WCH_STAT_CFG_REJ := by
  rw [State.flag_congr (s.reg_wSleep n _), State.flag_clear_apart _ ⟨by decide, by decide⟩ (by decide) (by decide),
    State.flag_clear_apart _ ⟨by decide, by decide⟩ (by decide) (by decide)]

theorem State.wchCfg_wSleep : (s.wSleep n).reg (Reg.WCH_CFG n) = s.reg (Reg.WCH_CFG n) := by
  rw [State.reg_wSleep, State.reg_clear_other _ (wchCfg_ne_wchStat n), State.reg_clear_other _ (wchCfg_ne_wchStat n)]

/-- A converter that nothing requires stops: one that a crossing woke, 10 ms after its hit. -/
theorem wConverterStop_due {s : State} {n : Nat} (h : hasWch s.fac.variant n = true) (hawake : s.wAwake n = true)
    (hfree : s.wRequired n s.curMode = false)
    (hover : (s.wchU n).woken = true → s.fld (Reg.WCH_CFG n) Fld.WCH_CFG_RUN = 0 →
      ∃ u ∈ (s.wchU n).hitEnd, msTime 10 ≤ (s.time - u).toNat) : wConverterStop s n = s.wSleep n := by
  rw [wConverterStop, if_neg (by simp [h, hawake, hfree]), if_neg]
  intro hstays
  simp only [Bool.and_eq_true, beq_iff_eq] at hstays
  obtain ⟨⟨hwoken, hauto⟩, hlate⟩ := hstays
  obtain ⟨u, hend, hlong⟩ := hover hwoken hauto
  rw [Option.mem_def.1 hend] at hlate
  exact absurd (of_decide_eq_true hlate) (Nat.not_lt.2 hlong)

end

/-! ### Writes of WCH_CFG (R149, R150, R152, R153) -/

/-- GAIN, DECIM and COUPLING: what a consumed channel keeps. -/
def wchCfgGroup : Word := maskAll [Fld.WCH_CFG_GAIN, Fld.WCH_CFG_DECIM, Fld.WCH_CFG_COUPLING]

theorem wchCfgGroup_eq : wchCfgGroup = 0x377 := by decide

/-- What a write of WCH_CFG leaves unchanged: reserved encodings, and the group of a consumed channel where it would change. -/
def State.wchCfgKept (s : State) (n : Nat) (v : Word) : Word :=
  wchCfgReject v ||| if s.consumed 3 n && (s.reg (Reg.WCH_CFG n) ^^^ v) &&& wchCfgGroup &&& ~~~wchCfgReject v != 0 then wchCfgGroup else 0

/-- A change of the group restarts the decimator. -/
def State.wchCfgTaken (s : State) (n : Nat) (old : Word) : State :=
  if (old ^^^ s.reg (Reg.WCH_CFG n)) &&& wchCfgGroup = 0 then s
  else
    let u := s.setFld (Reg.WCH_DELAY n) Fld.WCH_DELAY_DELAY (wDelay (getField Fld.WCH_CFG_DECIM (s.reg (Reg.WCH_CFG n))))
    (u.setWch n { u.wchU n with epoch := (u.wchU n).epoch + 1 }).wRestart n

/-- OFF puts the converter to sleep. -/
def State.wchRunTaken (s : State) (n : Nat) (w : Word) : State := if getField Fld.WCH_CFG_RUN w = 2 then s.wSleep n else s

section
variable (s : State) (n : Nat) (old w : Word)

theorem State.reg_wchCfgTaken {a : Nat} (h : a ≠ Reg.WCH_DELAY n) : (s.wchCfgTaken n old).reg a = s.reg a := by
  unfold State.wchCfgTaken
  split
  · rfl
  · dsimp only
    rw [State.reg_wRestart, State.reg_setWch, s.reg_setFld_other h]

theorem State.wchCfg_wchRunTaken : (s.wchRunTaken n w).reg (Reg.WCH_CFG n) = s.reg (Reg.WCH_CFG n) := by
  unfold State.wchRunTaken
  split
  · exact s.wchCfg_wSleep n
  · rfl

theorem State.cfgRej_wchRunTaken :
    (s.wchRunTaken n w).flag (Reg.WCH_STAT n) Fld.WCH_STAT_CFG_REJ = s.flag (Reg.WCH_STAT n) Fld.WCH_STAT_CFG_REJ := by
  unfold State.wchRunTaken
  split
  · exact s.cfgRej_wSleep n
  · rfl

theorem State.wAwake_wchRunTaken (h : getField Fld.WCH_CFG_RUN w = 2) : (s.wchRunTaken n w).wAwake n = false := by
  rw [State.wchRunTaken, if_pos h]
  exact s.wAwake_wSleep n

end

section
variable {s : State} {n : Nat} (h : hasWch s.fac.variant n = true) (v : Word)
include h

theorem wchCfgWrite_present : wchCfgWrite s n v =
    ((s.writeJudged (Reg.WCH_CFG n) 0x00003377 (s.wchCfgKept n v) v (Reg.WCH_STAT n) Fld.WCH_STAT_CFG_REJ).wchCfgTaken n
      (s.reg (Reg.WCH_CFG n))).wchRunTaken n
        ((s.writeJudged (Reg.WCH_CFG n) 0x00003377 (s.wchCfgKept n v) v (Reg.WCH_STAT n) Fld.WCH_STAT_CFG_REJ).reg (Reg.WCH_CFG n)) := by
  rw [wchCfgWrite, if_neg (by simp [h])]
  rfl

/-- A write of WCH_CFG is judged field by field; OFF puts the converter to sleep. -/
theorem wchCfgWrite_leaves :
    (wchCfgWrite s n v).reg (Reg.WCH_CFG n) = judged (s.reg (Reg.WCH_CFG n)) 0x00003377 (s.wchCfgKept n v) v ∧
      (s.wchCfgKept n v ≠ 0 → (wchCfgWrite s n v).flag (Reg.WCH_STAT n) Fld.WCH_STAT_CFG_REJ = true) ∧
      (getField Fld.WCH_CFG_RUN ((wchCfgWrite s n v).reg (Reg.WCH_CFG n)) = 2 → (wchCfgWrite s n v).wAwake n = false) := by
  have hcfg := s.reg_writeJudged_self (Reg.WCH_CFG n) 0x00003377 (s.wchCfgKept n v) v (Reg.WCH_STAT n) Fld.WCH_STAT_CFG_REJ
    (wchCfg_ne_wchStat n)
  have hrej := s.flag_writeJudged (Reg.WCH_CFG n) 0x00003377 (s.wchCfgKept n v) v (Reg.WCH_STAT n) Fld.WCH_STAT_CFG_REJ
    ⟨by decide, by decide⟩
  rw [wchCfgWrite_present h, State.wchCfg_wchRunTaken, State.reg_wchCfgTaken _ _ _ (wchCfg_ne_wchDelay n), State.cfgRej_wchRunTaken,
    State.flag_congr (State.reg_wchCfgTaken _ _ _ (wchStat_ne_wchDelay n))]
  exact ⟨hcfg, hrej, State.wAwake_wchRunTaken _ n _⟩

omit h in
theorem State.wchCfgKept_free (hfree : s.consumed 3 n = false) : s.wchCfgKept n v = wchCfgReject v := by
  simp [State.wchCfgKept, hfree]

omit h in
/-- Of a write without reserved encodings to a consumed channel, the group is rejected, or it does not change. -/
theorem State.wchCfgKept_used (hused : s.consumed 3 n = true) (hv : wchCfgReject v = 0) :
    s.wchCfgKept n v = 0x377 ∨ s.wchCfgKept n v = 0 ∧ (s.reg (Reg.WCH_CFG n) ^^^ v) &&& 0x377 = 0 := by
  unfold State.wchCfgKept
  have hall : (s.reg (Reg.WCH_CFG n) ^^^ v) &&& 0x377 &&& ~~~(0 : Word) = (s.reg (Reg.WCH_CFG n) ^^^ v) &&& 0x377 := BitVec.and_allOnes
  rw [hused, hv, wchCfgGroup_eq, hall]
  by_cases hsame : (s.reg (Reg.WCH_CFG n) ^^^ v) &&& 0x377 = 0
  · exact .inr ⟨by rw [hsame]; rfl, hsame⟩
  · left
    rw [if_pos (by simpa using hsame)]
    rfl

/-- While the channel is consumed, a write without reserved encodings changes RUN alone. -/
theorem wchCfgWrite_used (hused : s.consumed 3 n = true) (hv : wchCfgReject v = 0) :
    (wchCfgWrite s n v).fld (Reg.WCH_CFG n) Fld.WCH_CFG_RUN = getField Fld.WCH_CFG_RUN v ∧
      (wchCfgWrite s n v).fld (Reg.WCH_CFG n) Fld.WCH_CFG_GAIN = s.fld (Reg.WCH_CFG n) Fld.WCH_CFG_GAIN ∧
      (wchCfgWrite s n v).fld (Reg.WCH_CFG n) Fld.WCH_CFG_DECIM = s.fld (Reg.WCH_CFG n) Fld.WCH_CFG_DECIM := by
  obtain ⟨hcfg, -, -⟩ := wchCfgWrite_leaves h v
  simp only [State.fld, hcfg]
  rcases s.wchCfgKept_used v hused hv with hkept | ⟨hkept, hsame⟩
  · rw [hkept]
    exact ⟨getField_judged_taken (by decide), getField_judged_kept (by decide), getField_judged_kept (by decide)⟩
  · rw [hkept]
    exact ⟨getField_judged_taken (by decide),
      (getField_judged_taken (by decide)).trans (getField_eq_of_xor (by decide) hsame).symm,
      (getField_judged_taken (by decide)).trans (getField_eq_of_xor (by decide) hsame).symm⟩

end

/-- Settles O23: each row's meaning has a frame, so it is the row's answer; the lemmas on native samples, starts, stops and judged writes
say what it leaves. -/
theorem wideConverters : Obligations.WideConverters := by
  unfold Obligations.WideConverters
  refine ⟨?sample, ?leave, ?start, ?ready, ?stop, ?free, ?used⟩
  case sample =>
    intro s n r h hrun hgate
    exact ⟨_, State.effect_of_outside (P := Parts.all) (nativeSample_outside s n r (by simp [Parts.all, Parts.emits])),
      nativeSample_leaves h hrun hgate r⟩
  case leave =>
    intro s n h hover hquiet
    exact ⟨_, State.effect_of_outside (P := Parts.all) (wOverrangeLeave_outside s n (by simp [Parts.all, Parts.emits])),
      wOverrangeLeave_leaves h hover hquiet⟩
  case start =>
    intro s n h hsleep hstart
    exact ⟨_, State.effect_of_outside (P := Parts.all) (wConverterStart_outside s n (by simp [Parts.all])),
      wConverterStart_leaves h hsleep (hstart.imp_left fun hwake => by simp [State.wWakes, hwake])⟩
  case ready =>
    intro s n h hwaking hgate
    exact ⟨_, State.effect_of_outside (P := Parts.all) (wConverterReady_outside s n (by simp [Parts.all])),
      wConverterReady_leaves h hwaking hgate⟩
  case stop =>
    intro s n h hawake hfree hover
    refine ⟨_, State.effect_of_outside (P := Parts.all) (wConverterStop_outside s n (by simp [Parts.all])), ?_⟩
    rw [wConverterStop_due h hawake hfree hover]
    exact ⟨s.wAwake_wSleep n, s.woken_wSleep n⟩
  case free =>
    intro s n v hb h hfree
    refine ⟨_, State.answer_open (P := Parts.all) hb (wchCfgWrite_outside s n v (by simp [Parts.all])), ?_⟩
    rw [← s.wchCfgKept_free v hfree]
    exact wchCfgWrite_leaves h v
  case used =>
    intro s n v hb h hused hv
    exact ⟨_, State.answer_open (P := Parts.all) hb (wchCfgWrite_outside s n v (by simp [Parts.all])), wchCfgWrite_used h v hused hv⟩

end Sys2Proof.Machine
end

section
/-!
PROOF. The hit comparators: crossings, hits, lockouts and baseline windows; O25 settled.
-/
namespace Sys2Proof.Machine

/-! ### The comparator's registers -/

section
variable (h : Nat)

theorem hcStat_channelReg : 0x10000 ≤ Reg.HC_STAT h := by
  unfold Reg.HC_STAT
  omega

theorem hcStat_not_triggered : ¬Parts.triggered.regs (Reg.HC_STAT h) :=
  not_triggered (hcStat_channelReg h) (by unfold Reg.HC_STAT; omega)

theorem hcStat_ne_hitCnt : Reg.HC_STAT h ≠ Reg.HC_HIT_CNT h := by
  unfold Reg.HC_STAT Reg.HC_HIT_CNT
  omega

theorem hcHitCnt_channelReg : 0x10000 ≤ Reg.HC_HIT_CNT h := by
  unfold Reg.HC_HIT_CNT
  omega

theorem hcCfg_ne_hcStat : Reg.HC_CFG h ≠ Reg.HC_STAT h := by
  unfold Reg.HC_CFG Reg.HC_STAT
  omega

theorem cmpStcfg_ne_hcStat : Reg.CMP_STCFG ≠ Reg.HC_STAT h := by
  unfold Reg.CMP_STCFG Reg.HC_STAT
  omega

end

/-! ### The samples of a hit (R165) -/

/-- A sample goes into the peak and the energy of a hit. -/
def Hc.takes (x : WSample) (h : Hc) : Hc :=
  { h with peak := if x.val.natAbs > h.peak.natAbs then x.val else h.peak, energy := h.energy + (x.val * x.val).toNat,
           ovr := h.ovr || x.ovr, holdover := h.holdover || x.holdover }

theorem Hc.foldr_takes (l : List WSample) (x : Hc) : ∃ peak energy ovr holdover,
    l.foldr Hc.takes x = { x with peak := peak, energy := energy, ovr := ovr, holdover := holdover } := by
  induction l with
  | nil => exact ⟨_, _, _, _, rfl⟩
  | cons y l ih =>
    obtain ⟨_, _, _, _, hl⟩ := ih
    rw [List.foldr_cons, hl]
    exact ⟨_, _, _, _, rfl⟩

/-- Of a hit, the samples that it reaches change what they go into, and wait no more. -/
theorem Hc.absorb_eq (x : Hc) (stamp : Nat → Time) (last : Nat) : ∃ peak energy ovr holdover ahead,
    x.absorb stamp last = { x with peak := peak, energy := energy, ovr := ovr, holdover := holdover, ahead := ahead } := by
  obtain ⟨_, _, _, _, hfold⟩ :=
    Hc.foldr_takes (x.ahead.filter fun y => decide ((stamp y.idx).toNat ≤ last)) x
  have habsorb : x.absorb stamp last = { (x.ahead.filter fun y => decide ((stamp y.idx).toNat ≤ last)).foldr Hc.takes x with
      ahead := x.ahead.filter fun y => !decide ((stamp y.idx).toNat ≤ last) } := rfl
  rw [habsorb, hfold]
  exact ⟨_, _, _, _, _, rfl⟩

section
variable (s : State) (h : Nat)

theorem State.wAbsorb_sameBut : s.SameBut { hc := true } (s.wAbsorb h) :=
  State.sameBut_of_outside (s.wAbsorb_outside h rfl)

theorem State.hcU_wAbsorb : ∃ peak energy ovr holdover ahead, (s.wAbsorb h).hcU h =
    { s.hcU h with peak := peak, energy := energy, ovr := ovr, holdover := holdover, ahead := ahead } := by
  unfold State.wAbsorb
  split
  · rw [State.hcU_setHc_self]
    exact Hc.absorb_eq _ _ _
  · exact ⟨_, _, _, _, _, rfl⟩

/-! ### A hit begins (R163, R164) -/

/-- A crossing that WAKE_EN names wakes the converter, whose last hit has not ended, and is offered to triggers and start units. -/
def State.hitOffered (s : State) (h : Nat) (t : Time) : State :=
  let u := if s.flag (Reg.HC_CFG h) Fld.HC_CFG_WAKE_EN then s.wakeConverter h else s
  let u := if (u.wchU h).woken then u.setWch h { u.wchU h with hitEnd := none } else u
  (u.offerTrigger 2 h t).offerStart 3 h t

theorem State.hitOffered_sameBut (t : Time) : s.SameBut Parts.crossing (s.hitOffered h t) := by
  have hwoken : ∀ (u : State) (w : Wch), (u.setWch h w).outside Parts.crossing = u.outside Parts.crossing :=
    fun u w => u.setWch_outside h w rfl
  refine State.sameBut_of_outside ?_
  simp only [State.hitOffered, State.offerStart_reaches _ _ _ _ (show Parts.crossing.start = true from rfl),
    State.offerTrigger_crossing, State.outside_ite, hwoken, State.wakeConverter_outside _ _ (show Parts.crossing.wch = true from rfl),
    ite_self]

/-- The comparator with a hit that begins at `t`. -/
def State.hitFirst (s : State) (h : Nat) (t : Time) (late : Bool) : Hc :=
  { s.hcU h with tFirst := t, tLast := t, count := 1, b0 := s.hcBase h, peak := 0, energy := 0, ovr := false,
                 ahead := (s.wchU h).hist.filter (fun x => decide (t.toNat ≤ (s.wStamp h x.idx).toNat)),
                 partly := !s.flag (Reg.WCH_STAT h) Fld.WCH_STAT_RUNNING, late := late, holdover := s.inHoldover, valid := none,
                 taint := true }

theorem State.beginHit_eq (t : Time) (late : Bool) : s.beginHit h t late =
    (((s.setHc h (s.hitFirst h t late)).setFld (Reg.HC_STAT h) Fld.HC_STAT_STATE 1).wAbsorb h).hitOffered h t := rfl

/-- HC_STAT after the beginning of a hit: as the write of STATE has left it. -/
theorem State.hcStat_beginHit (t : Time) (late : Bool) :
    (s.beginHit h t late).reg (Reg.HC_STAT h) = (s.setFld (Reg.HC_STAT h) Fld.HC_STAT_STATE 1).reg (Reg.HC_STAT h) := by
  rw [s.beginHit_eq, (State.hitOffered_sameBut _ h t).reg _ (hcStat_not_triggered h), (State.wAbsorb_sameBut _ h).reg _ id,
    State.reg_setFld_self, State.reg_setFld_self, State.reg_setHc]

theorem State.hcU_beginHit (t : Time) (late : Bool) :
    ((s.beginHit h t late).hcU h).tFirst = t ∧ ((s.beginHit h t late).hcU h).tLast = t ∧
      ((s.beginHit h t late).hcU h).count = 1 ∧ ((s.beginHit h t late).hcU h).test = (s.hcU h).test := by
  obtain ⟨_, _, _, _, _, habsorb⟩ :=
    ((s.setHc h (s.hitFirst h t late)).setFld (Reg.HC_STAT h) Fld.HC_STAT_STATE 1).hcU_wAbsorb h
  rw [s.beginHit_eq, State.hcU_congr ((State.hitOffered_sameBut _ h t).hc rfl), habsorb, State.hcU_setFld, State.hcU_setHc_self]
  exact ⟨rfl, rfl, rfl, rfl⟩

theorem State.state_beginHit (t : Time) (late : Bool) : (s.beginHit h t late).fld (Reg.HC_STAT h) Fld.HC_STAT_STATE = 1 := by
  rw [State.fld_congr (s.hcStat_beginHit h t late), State.fld_setFld_self _ _ ⟨by decide, by decide⟩]
  rfl

/-- A hit has begun at `t`. -/
theorem State.beginHit_leaves (t : Time) (late : Bool) :
    (s.beginHit h t late).fld (Reg.HC_STAT h) Fld.HC_STAT_STATE = 1 ∧ ((s.beginHit h t late).hcU h).tFirst = t ∧
      ((s.beginHit h t late).hcU h).tLast = t ∧ ((s.beginHit h t late).hcU h).count = 1 := by
  obtain ⟨hfirst, hlast, hcount, -⟩ := s.hcU_beginHit h t late
  exact ⟨s.state_beginHit h t late, hfirst, hlast, hcount⟩

/-! ### Crossings (R163) -/

/-- A crossing counted in the lockout. -/
def State.lockCounted (s : State) (h : Nat) : State := s.count (Reg.HC_LOCK_CNT h) Fld.HC_LOCK_CNT_COUNT

theorem State.lockCounted_leaves : (s.lockCounted h).fld (Reg.HC_LOCK_CNT h) Fld.HC_LOCK_CNT_COUNT =
      satInc (fieldWidth Fld.HC_LOCK_CNT_COUNT) (s.fld (Reg.HC_LOCK_CNT h) Fld.HC_LOCK_CNT_COUNT) ∧
    (s.lockCounted h).hcU h = s.hcU h :=
  ⟨s.fld_count_self _ ⟨by decide, by decide⟩, s.hcU_count _ _ _⟩

end

section
variable {s : State} {h : Nat} {x : Crossing} (hpresent : hasHc s.fac.variant h = true)
  (hen : s.flag (Reg.HC_CFG h) Fld.HC_CFG_EN = true) (hside : s.hcWatches h x.neg = true) (htest : (s.hcU h).test.running = false)
include hpresent hen hside htest

/-- Of what hides a crossing, nothing holds. -/
theorem hcCrossing_seen : ¬(!hasHc s.fac.variant h || !s.flag (Reg.HC_CFG h) Fld.HC_CFG_EN || !s.hcWatches h x.neg ||
    (s.hcU h).test.running) = true := by
  simp [hpresent, hen, hside, htest]

theorem hcCrossing_idle (hstate : s.fld (Reg.HC_STAT h) Fld.HC_STAT_STATE = 0) :
    hcCrossing s h x = s.beginHit h (s.hcTime h x.at_ false) false := by
  simp only [hcCrossing, if_neg (hcCrossing_seen hpresent hen hside htest), hstate]

theorem hcCrossing_within (hstate : s.fld (Reg.HC_STAT h) Fld.HC_STAT_STATE = 1)
    (hin : (s.hcTime h x.at_ false).toNat < (s.hitOver h).1) : hcCrossing s h x =
      (s.setHc h { s.hcU h with tLast := s.hcTime h x.at_ false, count := (s.hcU h).count + 1 }).wAbsorb h := by
  simp only [hcCrossing, if_neg (hcCrossing_seen hpresent hen hside htest), hstate, if_pos hin]

theorem hcCrossing_ended (hstate : s.fld (Reg.HC_STAT h) Fld.HC_STAT_STATE = 1)
    (hafter : (s.hitOver h).1 ≤ (s.hcTime h x.at_ false).toNat)
    (hlock : (s.hcTime h x.at_ false).toNat < (s.hitOver h).1 + s.hcHlt h) : hcCrossing s h x = s.lockCounted h := by
  simp only [hcCrossing, if_neg (hcCrossing_seen hpresent hen hside htest), hstate, if_neg (Nat.not_lt.2 hafter), hlock, decide_true,
    Bool.true_or, if_true]
  rfl

theorem hcCrossing_locked (hstate : 2 ≤ s.fld (Reg.HC_STAT h) Fld.HC_STAT_STATE)
    (hlock : (s.hcTime h x.at_ false).toNat < (s.hcU h).endAt.toNat + s.hcHlt h) : hcCrossing s h x = s.lockCounted h := by
  obtain ⟨k, hk⟩ := Nat.exists_eq_add_of_le' hstate
  simp only [hcCrossing, if_neg (hcCrossing_seen hpresent hen hside htest), hk, if_pos hlock]
  rfl

theorem hcCrossing_unlocked (hstate : 2 ≤ s.fld (Reg.HC_STAT h) Fld.HC_STAT_STATE)
    (hover : (s.hcU h).endAt.toNat + s.hcHlt h ≤ (s.hcTime h x.at_ false).toNat) :
    hcCrossing s h x = s.beginHit h (s.hcTime h x.at_ false) false := by
  obtain ⟨k, hk⟩ := Nat.exists_eq_add_of_le' hstate
  simp only [hcCrossing, if_neg (hcCrossing_seen hpresent hen hside htest), hk, if_neg (Nat.not_lt.2 hover)]

/-- A crossing within a hit is its last one, and is counted. -/
theorem hcCrossing_within_leaves (hstate : s.fld (Reg.HC_STAT h) Fld.HC_STAT_STATE = 1)
    (hin : (s.hcTime h x.at_ false).toNat < (s.hitOver h).1) :
    ((hcCrossing s h x).hcU h).count = (s.hcU h).count + 1 ∧ ((hcCrossing s h x).hcU h).tLast = s.hcTime h x.at_ false ∧
      ((hcCrossing s h x).hcU h).tFirst = (s.hcU h).tFirst := by
  obtain ⟨_, _, _, _, _, habsorb⟩ :=
    (s.setHc h { s.hcU h with tLast := s.hcTime h x.at_ false, count := (s.hcU h).count + 1 }).hcU_wAbsorb h
  rw [hcCrossing_within hpresent hen hside htest hstate hin, habsorb, State.hcU_setHc_self]
  exact ⟨rfl, rfl, rfl⟩

end

/-! ### The end of a hit (R163, R165) -/

/-- The lockout begins: STATE and the count show it, and the hit has its end. -/
def State.lockedOut (s : State) (h : Nat) (tEnd : Time) : State :=
  let u := (s.setFld (Reg.HC_STAT h) Fld.HC_STAT_STATE 2).count (Reg.HC_HIT_CNT h) Fld.HC_HIT_CNT_COUNT
  u.setHc h { u.hcU h with ahead := [], endAt := tEnd }

/-- A converter that a crossing woke stops from the end of its hit on. -/
def State.wakeEnds (s : State) (h : Nat) : State :=
  if (s.wchU h).woken then s.setWch h { s.wchU h with hitEnd := some s.time } else s

section
variable (s : State) (h : Nat) (tEnd : Time) (trunc : Bool)

theorem State.endHit_eq : ∃ l, s.endHit h tEnd trunc =
    ((s.emitAt (s.hcU h).tFirst 0x0200 (64 + h) l).lockedOut h tEnd).wakeEnds h := ⟨_, rfl⟩

theorem State.reg_wakeEnds (a : Nat) : (s.wakeEnds h).reg a = s.reg a := by
  unfold State.wakeEnds
  split <;> rfl

theorem State.hcU_wakeEnds : (s.wakeEnds h).hcU h = s.hcU h := by
  unfold State.wakeEnds
  split <;> rfl

theorem State.recs_wakeEnds : (s.wakeEnds h).recs = s.recs := by
  unfold State.wakeEnds
  split <;> rfl

theorem State.state_lockedOut : (s.lockedOut h tEnd).fld (Reg.HC_STAT h) Fld.HC_STAT_STATE = 2 := by
  rw [State.lockedOut, State.fld_congr (State.reg_setHc _ _ _ _), State.fld_congr (State.reg_count_other _ (hcStat_ne_hitCnt h) _),
    State.fld_setFld_self _ _ ⟨by decide, by decide⟩]
  rfl

theorem State.hitCnt_lockedOut : (s.lockedOut h tEnd).fld (Reg.HC_HIT_CNT h) Fld.HC_HIT_CNT_COUNT =
    satInc (fieldWidth Fld.HC_HIT_CNT_COUNT) (s.fld (Reg.HC_HIT_CNT h) Fld.HC_HIT_CNT_COUNT) := by
  rw [State.lockedOut, State.fld_congr (State.reg_setHc _ _ _ _), State.fld_count_self _ _ ⟨by decide, by decide⟩,
    s.fld_setFld_other (hcStat_ne_hitCnt h).symm]

theorem State.endAt_lockedOut : ((s.lockedOut h tEnd).hcU h).endAt = tEnd := by
  rw [State.lockedOut, State.hcU_setHc_self]

/-- The record of an event goes to the registers of none of the units. -/
theorem State.reg_emitAt {a : Nat} (ha : 0x10000 ≤ a) (t : Time) (type u : Nat) (l : List Int) :
    (s.emitAt t type u l).reg a = s.reg a := s.push_reg _ (ne_lost_of_channelReg ha)

theorem State.recs_lockedOut : (s.lockedOut h tEnd).recs = s.recs := by
  rw [State.lockedOut, State.setHc, State.count_recs, State.setFld_recs]

/-- A hit has ended at `tEnd`: the lockout, the count, and the record with the time of the first crossing. -/
theorem State.endHit_leaves :
    (s.endHit h tEnd trunc).fld (Reg.HC_STAT h) Fld.HC_STAT_STATE = 2 ∧ ((s.endHit h tEnd trunc).hcU h).endAt = tEnd ∧
      (s.endHit h tEnd trunc).fld (Reg.HC_HIT_CNT h) Fld.HC_HIT_CNT_COUNT =
        satInc (fieldWidth Fld.HC_HIT_CNT_COUNT) (s.fld (Reg.HC_HIT_CNT h) Fld.HC_HIT_CNT_COUNT) ∧
      (s.recsFull = false → ∃ r, (s.endHit h tEnd trunc).recs = s.recs ++ [r] ∧ r.type = 0x0200 ∧ r.time = (s.hcU h).tFirst) := by
  obtain ⟨l, heq⟩ := s.endHit_eq h tEnd trunc
  rw [heq, State.fld_congr (State.reg_wakeEnds _ h _), State.state_lockedOut, State.hcU_wakeEnds, State.endAt_lockedOut,
    State.fld_congr (State.reg_wakeEnds _ h _), State.hitCnt_lockedOut, State.fld_congr (s.reg_emitAt (hcHitCnt_channelReg h) _ _ _ _),
    State.recs_wakeEnds, State.recs_lockedOut]
  exact ⟨rfl, rfl, rfl, fun hroom => ⟨_, s.push_recs _ hroom, rfl, rfl⟩⟩

end

section
variable {s : State} {h : Nat} (hpresent : hasHc s.fac.variant h = true)
include hpresent

/-- HDT without a crossing ends the hit where HMAX does not end it before. -/
theorem hitEnds_due (hdue : s.hitDue h ((s.hcU h).tLast.toNat + s.hcHdt h) = true)
    (hquiet : (s.hcU h).tLast.toNat + s.hcHdt h ≤ (s.hcU h).tFirst.toNat + s.hcHmax h) :
    hitEnds s h = s.endHit h (BitVec.ofNat 64 ((s.hcU h).tLast.toNat + s.hcHdt h)) false := by
  have hover : s.hitOver h = ((s.hcU h).tLast.toNat + s.hcHdt h, false) := if_pos hquiet
  rw [hitEnds, hover, if_neg (by simp [hpresent, hdue])]

/-- HMAX ends the hit where HDT without a crossing does not end it by then. -/
theorem hitTruncated_due (hdue : s.hitDue h ((s.hcU h).tFirst.toNat + s.hcHmax h) = true)
    (hlong : (s.hcU h).tFirst.toNat + s.hcHmax h < (s.hcU h).tLast.toNat + s.hcHdt h) :
    hitTruncated s h = s.endHit h (BitVec.ofNat 64 ((s.hcU h).tFirst.toNat + s.hcHmax h)) true := by
  have hover : s.hitOver h = ((s.hcU h).tFirst.toNat + s.hcHmax h, true) := if_neg (Nat.not_le.2 hlong)
  rw [hitTruncated, hover, if_neg (by simp [hpresent, hdue])]

end

/-! ### The comparator units of the self-test (R166) -/

section
variable (s : State) (u : Nat) (c : CompTest)

@[simp] theorem State.compTest_setCompTest_self : (s.setCompTest u c).compTest u = c := by
  unfold State.setCompTest State.compTest
  split
  · rw [State.wmU_setWm_self]
  · rw [State.hcU_setHc_self]

@[simp] theorem State.reg_setCompTest (a : Nat) : (s.setCompTest u c).reg a = s.reg a := by
  unfold State.setCompTest
  split <;> rfl

theorem State.reg_beginTest (a : Nat) : (s.beginTest u).reg a = s.reg a := s.reg_setCompTest u _ a

theorem State.compTest_hc (h : Nat) : s.compTest (72 + h) = (s.hcU h).test := by
  rw [State.compTest, if_neg (by omega), Nat.add_sub_cancel_left]

end

/-! ### The end of the lockout (R163, R166) -/

/-- The end of the lockout: the comparator is idle, and a test that waited begins where nothing is being decided. -/
theorem hcLockoutEnd_due {s : State} {h : Nat} (hpresent : hasHc s.fac.variant h = true)
    (hstate : s.fld (Reg.HC_STAT h) Fld.HC_STAT_STATE = 2) (hover : (s.hcU h).endAt.toNat + s.hcHlt h ≤ (s.hcNow h).toNat)
    (deciding : Bool) : hcLockoutEnd s h deciding =
      if (s.compTest (72 + h)).held && s.compEnabled (72 + h) && !deciding then
        (s.setFld (Reg.HC_STAT h) Fld.HC_STAT_STATE 0).beginTest (72 + h)
      else s.setFld (Reg.HC_STAT h) Fld.HC_STAT_STATE 0 := by
  have henabled : (s.setFld (Reg.HC_STAT h) Fld.HC_STAT_STATE 0).compEnabled (72 + h) = s.compEnabled (72 + h) := by
    rw [State.compEnabled, State.compEnabled, if_neg (by omega), if_neg (by omega), Nat.add_sub_cancel_left,
      State.flag_congr (s.reg_setFld_other (hcCfg_ne_hcStat h) _ _), State.flag_congr (s.reg_setFld_other (cmpStcfg_ne_hcStat h) _ _)]
    rfl
  rw [hcLockoutEnd, if_neg (by simp [hpresent, hstate, Nat.not_lt.2 hover])]
  dsimp only
  rw [henabled, State.hcU_setFld, State.compTest_hc]

theorem hcLockoutEnd_leaves {s : State} {h : Nat} (hpresent : hasHc s.fac.variant h = true)
    (hstate : s.fld (Reg.HC_STAT h) Fld.HC_STAT_STATE = 2) (hover : (s.hcU h).endAt.toNat + s.hcHlt h ≤ (s.hcNow h).toNat)
    (deciding : Bool) :
    (hcLockoutEnd s h deciding).fld (Reg.HC_STAT h) Fld.HC_STAT_STATE = 0 ∧
      ((s.compTest (72 + h)).held = true → s.compEnabled (72 + h) = true → deciding = false →
        ((hcLockoutEnd s h deciding).compTest (72 + h)).running = true) := by
  have hidle := s.fld_setFld_self (Reg.HC_STAT h) (f := Fld.HC_STAT_STATE) ⟨by decide, by decide⟩ 0
  rw [hcLockoutEnd_due hpresent hstate hover]
  constructor
  · split
    · rw [State.fld_congr (State.reg_beginTest _ _ _), hidle]
      rfl
    · exact hidle
  · intro hheld henabled hdeciding
    rw [if_pos (by simp [hheld, henabled, hdeciding]), State.beginTest, State.compTest_setCompTest_self]

/-! ### Whole square roots -/

/-- The fold of `isqrt` over the bits below `k` closes the gap of 2^k between a root from below and one from above. -/
theorem isqrt_fold {v : Nat} (k r : Nat) (hlo : r * r ≤ v) (hhi : v < (r + 2 ^ k) * (r + 2 ^ k)) :
    (List.range k).reverse.foldl (fun r i => if (r + 2 ^ i) * (r + 2 ^ i) ≤ v then r + 2 ^ i else r) r = Nat.sqrt v := by
  induction k generalizing r with
  | zero => exact Nat.eq_sqrt.2 ⟨hlo, hhi⟩
  | succ k ih =>
    rw [List.range_succ, List.reverse_append, List.reverse_singleton, List.singleton_append, List.foldl_cons]
    split
    · next hbit =>
      refine ih _ hbit ?_
      rwa [Nat.add_assoc, ← Nat.two_mul, ← Nat.pow_succ']
    · next hbit => exact ih _ hlo (Nat.not_le.1 hbit)

theorem isqrt_eq_sqrt {v : Nat} (h : v < 2 ^ 42) : isqrt v = Nat.sqrt v :=
  isqrt_fold 21 0 (Nat.zero_le v) h

/-- The whole root of a mean of squares, from its bounds without division. -/
theorem isqrt_div {rms N V : Nat} (hN : 0 < N) (hsmall : rms < 2 ^ 20) (hlo : rms ^ 2 * N ^ 2 ≤ V) (hhi : V < (rms + 1) ^ 2 * N ^ 2) :
    isqrt (V / (N * N)) = rms := by
  have hNN : 0 < N * N := Nat.mul_pos hN hN
  simp only [Nat.pow_two] at hlo hhi
  have hroot : V / (N * N) < (rms + 1) * (rms + 1) := (Nat.div_lt_iff_lt_mul hNN).2 hhi
  have hbound : (rms + 1) * (rms + 1) ≤ 2 ^ 20 * 2 ^ 20 := Nat.mul_le_mul hsmall hsmall
  rw [isqrt_eq_sqrt (by omega)]
  exact (Nat.eq_sqrt.2 ⟨(Nat.le_div_iff_mul_le hNN).2 hlo, hroot⟩).symm

/-! ### Baseline windows (R162) -/

/-- The next window begins, tainted where a hit or a lockout is in progress. -/
def State.windowBegun (s : State) (h : Nat) : State :=
  s.setHc h { s.hcU h with winSum := 0, winSq := 0, winN := 0, taint := s.fld (Reg.HC_STAT h) Fld.HC_STAT_STATE != 0 }

/-- Sigma moves by an eighth of its distance to the rms, and B follows. -/
def State.sigmaMoved (s : State) (h : Nat) (rms sigma : Int) : State :=
  (s.setHc h { s.hcU h with sigma := sigma + asr (rms - sigma) 3 }).showBase h

theorem State.hcU_windowBegun (s : State) (h : Nat) : (s.windowBegun h).hcU h =
    { s.hcU h with winSum := 0, winSq := 0, winN := 0, taint := s.fld (Reg.HC_STAT h) Fld.HC_STAT_STATE != 0 } :=
  State.hcU_setHc_self _ _ _

theorem State.hcU_sigmaMoved (s : State) (h : Nat) (rms sigma : Int) :
    (s.sigmaMoved h rms sigma).hcU h = { s.hcU h with sigma := sigma + asr (rms - sigma) 3 } := by
  rw [State.sigmaMoved, State.showBase, State.hcU_setFld, State.hcU_setFld, State.hcU_setHc_self]

section
variable {s : State} {h : Nat} (hpresent : hasHc s.fac.variant h = true)
  (hrun : s.flag (Reg.WCH_STAT h) Fld.WCH_STAT_RUNNING = true) (hfull : 8192 ≤ (s.hcU h).winN)
include hpresent hrun hfull

theorem baselineWindow_tainted (htaint : (s.hcU h).taint = true) : baselineWindow s h = s.windowBegun h := by
  rw [baselineWindow, if_neg (by simp [hpresent, hrun, Nat.not_lt.2 hfull]), if_pos htaint]
  rfl

/-- An untainted window moves sigma to the whole root where that is exact, else to it or the next one. -/
theorem baselineWindow_clean {V r : Nat} (htaint : (s.hcU h).taint = false)
    (hV : V = (s.hcU h).winN * (s.hcU h).winSq - ((s.hcU h).winSum * (s.hcU h).winSum).toNat)
    (hr : r = isqrt (V / ((s.hcU h).winN * (s.hcU h).winN))) :
    baselineWindow s h = if r * r * ((s.hcU h).winN * (s.hcU h).winN) = V then (s.windowBegun h).sigmaMoved h r (s.hcU h).sigma
      else ((s.windowBegun h).freeNat 1).2.sigmaMoved h (r + ((s.windowBegun h).freeNat 1).1) (s.hcU h).sigma := by
  rw [baselineWindow, if_neg (by simp [hpresent, hrun, Nat.not_lt.2 hfull]), if_neg (by simp [htaint])]
  dsimp only
  rw [← hV, ← hr]
  by_cases hexact : r * r * ((s.hcU h).winN * (s.hcU h).winN) = V
  · simp only [hexact, beq_self_eq_true, if_true]
    rfl
  · simp only [hexact, beq_eq_false_iff_ne.2 hexact, if_false, Bool.false_eq_true]
    rfl

/-- A clean window: sigma has moved towards the exact root, or towards one of the two next to it. -/
theorem baselineWindow_sigma {V r : Nat} (htaint : (s.hcU h).taint = false)
    (hV : V = (s.hcU h).winN * (s.hcU h).winSq - ((s.hcU h).winSum * (s.hcU h).winSum).toNat)
    (hr : r = isqrt (V / ((s.hcU h).winN * (s.hcU h).winN))) :
    (baselineWindow s h).hcU h = { (s.windowBegun h).hcU h with sigma := (s.hcU h).sigma + asr (r - (s.hcU h).sigma) 3 } ∨
      r * r * ((s.hcU h).winN * (s.hcU h).winN) ≠ V ∧ (baselineWindow s h).hcU h =
        { (s.windowBegun h).hcU h with sigma := (s.hcU h).sigma + asr (r + 1 - (s.hcU h).sigma) 3 } := by
  rw [baselineWindow_clean hpresent hrun hfull htaint hV hr]
  split
  · exact .inl (State.hcU_sigmaMoved _ _ _ _)
  · next hexact =>
    have hunit : ((s.windowBegun h).freeNat 1).2.hcU h = (s.windowBegun h).hcU h := rfl
    rw [State.hcU_sigmaMoved, hunit]
    rcases Nat.mod_two_eq_zero_or_one (Config.freeValue (s.windowBegun h).fresh) with hfree | hfree
    · left
      rw [State.freeNat, Nat.pow_one, hfree, Int.natCast_zero, Int.add_zero]
    · right
      rw [State.freeNat, Nat.pow_one, hfree, Int.natCast_one]
      exact ⟨hexact, rfl⟩

/-- After a window the next one is empty; a tainted one leaves B and sigma. -/
theorem baselineWindow_leaves :
    ((baselineWindow s h).hcU h).winN = 0 ∧ ((baselineWindow s h).hcU h).winSum = 0 ∧ ((baselineWindow s h).hcU h).winSq = 0 ∧
      ((s.hcU h).taint = true → (baselineWindow s h).reg (Reg.HC_BASE h) = s.reg (Reg.HC_BASE h) ∧
        ((baselineWindow s h).hcU h).sigma = (s.hcU h).sigma) := by
  by_cases htaint : (s.hcU h).taint = true
  · rw [baselineWindow_tainted hpresent hrun hfull htaint, State.hcU_windowBegun]
    exact ⟨rfl, rfl, rfl, fun _ => ⟨State.reg_setHc _ _ _ _, rfl⟩⟩
  · rcases baselineWindow_sigma hpresent hrun hfull (Bool.eq_false_iff.2 htaint) rfl rfl with hunit | ⟨-, hunit⟩
    all_goals
      rw [hunit, State.hcU_windowBegun]
      exact ⟨rfl, rfl, rfl, fun h => absurd h htaint⟩

end

/-- Settles O25: each row's meaning has a frame, so it is the row's answer; the lemmas on crossings, on the beginning and the end of a hit
and on baseline windows say what it leaves. -/
theorem hitComparators : Obligations.HitComparators := by
  have hcrossing : ∀ (s : State) (h : Nat) (x : Crossing), exec (.hcCrossing h x) s = .next (hcCrossing s h x) := fun s h x =>
    State.effect_of_outside (P := Parts.all) (hcCrossing_outside s h x (by simp [Parts.all, Parts.emits]))
  have hwindow : ∀ (s : State) (h : Nat), exec (.baselineWindow h) s = .next (baselineWindow s h) := fun s h =>
    State.effect_of_outside (P := Parts.all) (baselineWindow_outside s h (by simp [Parts.all]))
  unfold Obligations.HitComparators
  refine ⟨?idle, ?within, ?locked, ?hit, ?truncated, ?lockoutEnd, ?window, ?sigma, ?unlocked, ?ended⟩
  case idle =>
    intro s h x hpresent hen hside htest hstate
    refine ⟨_, hcrossing s h x, ?_⟩
    rw [hcCrossing_idle hpresent hen hside htest hstate]
    exact s.beginHit_leaves h _ false
  case within =>
    intro s h x hpresent hen hside htest hstate hin
    exact ⟨_, hcrossing s h x, hcCrossing_within_leaves hpresent hen hside htest hstate hin⟩
  case locked =>
    intro s h x hpresent hen hside htest hstate hlock
    refine ⟨_, hcrossing s h x, ?_⟩
    rw [hcCrossing_locked hpresent hen hside htest hstate hlock]
    exact s.lockCounted_leaves h
  case hit =>
    intro s h hpresent hdue hquiet
    refine ⟨_, State.effect_of_outside (P := Parts.all) (hitEnds_outside s h (by simp [Parts.all, Parts.emits])), ?_⟩
    rw [hitEnds_due hpresent hdue hquiet]
    exact s.endHit_leaves h _ false
  case truncated =>
    intro s h hpresent hdue hlong
    refine ⟨_, State.effect_of_outside (P := Parts.all) (hitTruncated_outside s h (by simp [Parts.all, Parts.emits])), ?_⟩
    rw [hitTruncated_due hpresent hdue hlong]
    exact s.endHit_leaves h _ true
  case lockoutEnd =>
    intro s lock hpresent hstate hover
    exact ⟨_, State.effect_of_outside (P := Parts.all) (hcLockoutEnd_outside s lock.unit lock.deciding (by simp [Parts.all])),
      hcLockoutEnd_leaves hpresent hstate hover lock.deciding⟩
  case window =>
    intro s h hpresent hrun hfull
    exact ⟨_, hwindow s h, baselineWindow_leaves hpresent hrun hfull⟩
  case sigma =>
    intro s h rms V hpresent hrun hfull htaint hV hsmall hlo hhi
    have hroot : rms = isqrt (V / ((s.hcU h).winN * (s.hcU h).winN)) := (isqrt_div (by omega) hsmall hlo hhi).symm
    refine ⟨_, hwindow s h, ?_⟩
    rcases baselineWindow_sigma hpresent hrun hfull htaint hV hroot with hunit | ⟨hexact, hunit⟩
    · exact .inl (by rw [hunit])
    · exact .inr ⟨by simpa only [Nat.pow_two] using hexact, by rw [hunit]⟩
  case unlocked =>
    intro s h x hpresent hen hside htest hstate hover
    refine ⟨_, hcrossing s h x, ?_⟩
    rw [hcCrossing_unlocked hpresent hen hside htest hstate hover]
    exact s.beginHit_leaves h _ false
  case ended =>
    intro s h x hpresent hen hside htest hstate hafter hlock
    refine ⟨_, hcrossing s h x, ?_⟩
    rw [hcCrossing_ended hpresent hen hside htest hstate hafter hlock]
    exact s.lockCounted_leaves h

end Sys2Proof.Machine
end

section
/-!
PROOF. The comparators' self-test, the SYNC_IN ball and the start units; O26 settled.
-/
namespace Sys2Proof.Machine

/-! ### A comparator unit's test and its status bits (R166) -/

/-- Whether ST_FAIL of a comparator unit is set. -/
def State.testFailed (s : State) (u : Nat) : Bool :=
  if u < 72 then s.flag (Reg.WM_STAT u) Fld.WM_STAT_ST_FAIL else s.flag (Reg.HC_STAT (u - 72)) Fld.HC_STAT_ST_FAIL

section
variable (s : State) (u : Nat)

theorem State.compTest_congr {s t : State} (hwm : t.wm = s.wm) (hhc : t.hc = s.hc) (u : Nat) : t.compTest u = s.compTest u := by
  rw [State.compTest, State.compTest, State.wmU_congr hwm, State.hcU_congr hhc]

theorem State.testFailed_congr {s t : State} (h : ∀ a, 0x10000 ≤ a → t.reg a = s.reg a) (u : Nat) :
    t.testFailed u = s.testFailed u := by
  rw [State.testFailed, State.testFailed, State.flag_congr (h _ (wmStat_channelReg u)), State.flag_congr (h _ (hcStat_channelReg (u - 72)))]

theorem State.compTest_setCompFlag (untested b : Bool) : (s.setCompFlag u untested b).compTest u = s.compTest u := by
  unfold State.setCompFlag
  split <;> exact State.compTest_congr (State.setFld_wm _ _ _ _) (State.setFld_hc _ _ _ _) u

theorem State.testFailed_setCompFlag : (s.setCompFlag u false true).testFailed u = true := by
  unfold State.setCompFlag State.testFailed
  split
  · exact State.flag_raise s _ ⟨by decide, by decide⟩
  · exact State.flag_raise s _ ⟨by decide, by decide⟩

theorem State.untested_setCompFlag_wm {u : Nat} (h : u < 72) :
    (s.setCompFlag u true true).flag (Reg.WM_STAT u) Fld.WM_STAT_UNTESTED = true := by
  rw [State.setCompFlag, if_pos h]
  exact State.flag_raise s _ ⟨by decide, by decide⟩

theorem State.untested_setCompFlag_hc {u : Nat} (h : 72 ≤ u) :
    (s.setCompFlag u true true).flag (Reg.HC_STAT (u - 72)) Fld.HC_STAT_UNTESTED = true := by
  rw [State.setCompFlag, if_neg (Nat.not_lt.2 h)]
  exact State.flag_raise s _ ⟨by decide, by decide⟩

end

/-! ### A test falls due (R166) -/

/-- Whether a test waits or falls due: the first of a unit does at once. -/
def State.testFalls (s : State) (u : Nat) : Bool :=
  (s.compTest u).held || (s.compTest u).nextAt.all (fun a => decide (a.toNat ≤ s.time.toNat))

theorem compSelfTest_eq (s : State) (u : Nat) (deciding : Bool) : compSelfTest s u deciding =
    if 80 ≤ u || !s.compEnabled u || (s.compTest u).running || !s.testFalls u then s
    else if s.compIdle u && !deciding then s.beginTest u
    else s.setCompTest u { s.compTest u with held := true } := by
  unfold compSelfTest State.testFalls
  dsimp only
  cases (s.compTest u).nextAt <;> rfl

section
variable {s : State} {u : Nat} {deciding : Bool} (hu : u < 80) (hen : s.compEnabled u = true) (hrun : (s.compTest u).running = false)
  (hdue : (s.compTest u).held = true ∨ (s.compTest u).nextAt.all (fun a => decide (a.toNat ≤ s.time.toNat)) = true)
include hu hen hrun hdue

theorem compSelfTest_due : compSelfTest s u deciding = if s.compIdle u && !deciding then s.beginTest u
    else s.setCompTest u { s.compTest u with held := true } := by
  have hfalls : s.testFalls u = true := Bool.or_eq_true_iff.2 hdue
  rw [compSelfTest_eq, if_neg (by simp [Nat.not_le.2 hu, hen, hrun, hfalls])]

theorem compSelfTest_runs (hidle : s.compIdle u = true) (hdeciding : deciding = false) :
    compSelfTest s u deciding = s.beginTest u := by
  rw [compSelfTest_due hu hen hrun hdue, if_pos (by simp [hidle, hdeciding])]

theorem compSelfTest_waits (hbusy : s.compIdle u = false ∨ deciding = true) :
    compSelfTest s u deciding = s.setCompTest u { s.compTest u with held := true } := by
  rw [compSelfTest_due hu hen hrun hdue, if_neg (by rcases hbusy with h | h <;> simp [h])]

end

/-! ### The release of a test (R166, R167) -/

/-- The unit's test is over, at the present time. -/
def State.testEnded (s : State) (u : Nat) (failed : Option Nat) : State :=
  s.setCompTest u { s.compTest u with
    running := false, fails := if failed.isSome then (s.compTest u).fails + 1 else 0, lastAt := s.time, since := s.time }

/-- A test that failed, the number `fails` in a row: from the second on ST_FAIL is set, and the second is recorded. -/
def State.testJudged (s : State) (u fails : Nat) (failed : Option Nat) : State :=
  match failed with
  | some step =>
    let s := if 2 ≤ fails then s.setCompFlag u false true else s
    if fails = 2 then s.emit 0x0220 (compUnit u) [u, step] else s
  | none => s

/-- What a comparator shows after it was blind. -/
def State.blindJudged (s : State) (u : Nat) (t : Time) (differs : Option Nat) : State :=
  match differs with
  | none => s
  | some new =>
    if u < 72 then s.wmReach u new (s.wmTime u t true)
    else if s.fld (Reg.HC_STAT (u - 72)) Fld.HC_STAT_STATE = 0 then s.beginHit (u - 72) (s.hcTime (u - 72) t true) true
    else s

section
variable (s : State) (u : Nat)

theorem compTestRelease_due {s : State} {u : Nat} {failed : Option Nat} {t : Time} {differs : Option Nat} (hu : u < 80)
    (hrun : (s.compTest u).running = true)
    (hlate : u < 72 → differs ≠ none →
      decisionTime (s.fld (Reg.WM_TH u) Fld.WM_TH_MODE) * 2 ^ 32 ≤ (s.time.toNat - t.toNat) * 1000000000) :
    compTestRelease s u failed t differs = (((((s.testEnded u failed).setCompFlag u true false).testJudged u ((s.compTest u).fails + 1)
      failed).compTested u failed.isNone).blindJudged u t differs) := by
  refine if_neg ?_
  simp only [hrun, Bool.not_true, Bool.or_false, Bool.or_eq_true, Bool.and_eq_true, decide_eq_true_eq, not_or, not_and, Nat.not_lt, ge_iff_le,
    Nat.not_le, Option.isSome_iff_ne_none]
  exact ⟨hu, fun ⟨hwm, hdiffers⟩ => hlate hwm hdiffers⟩

theorem State.compTest_testJudged (fails : Nat) (failed : Option Nat) : (s.testJudged u fails failed).compTest u = s.compTest u := by
  cases failed with
  | none => rfl
  | some step =>
    have hflag : (if 2 ≤ fails then s.setCompFlag u false true else s).compTest u = s.compTest u := by
      split
      · exact s.compTest_setCompFlag u false true
      · rfl
    rw [State.testJudged]
    split
    · exact (State.compTest_congr (State.emit_wm _ _ _ _) (State.emit_hc _ _ _ _) u).trans hflag
    · exact hflag

/-- The second failure in a row sets ST_FAIL. -/
theorem State.testFailed_testJudged {fails : Nat} {failed : Option Nat} (hfailed : failed.isSome = true) (htwo : 2 ≤ fails) :
    (s.testJudged u fails failed).testFailed u = true := by
  obtain ⟨step, rfl⟩ := Option.isSome_iff_exists.1 hfailed
  rw [State.testJudged, if_pos htwo]
  split
  · rw [State.testFailed_congr fun a ha => State.emit_reg _ _ _ _ (ne_lost_of_channelReg ha)]
    exact s.testFailed_setCompFlag u
  · exact s.testFailed_setCompFlag u

/-- SMON's view of the test reaches neither the comparators nor their registers. -/
theorem State.compTested_sameBut (pass : Bool) : s.SameBut Parts.safety (s.compTested u pass) := by
  unfold State.compTested
  split
  · exact (State.sameBut_of_outside (State.setTrust_outside s _ _ rfl)).trans (State.verifyP_sameBut _ _)
  · exact (State.sameBut_of_outside (State.setTrust_outside s _ _ rfl)).trans (State.verifyP_sameBut _ _)

theorem State.compTest_compTested (pass : Bool) : (s.compTested u pass).compTest u = s.compTest u :=
  State.compTest_congr ((s.compTested_sameBut u pass).wm rfl) ((s.compTested_sameBut u pass).hc rfl) u

theorem State.testFailed_compTested (pass : Bool) : (s.compTested u pass).testFailed u = s.testFailed u :=
  State.testFailed_congr (fun a ha => (s.compTested_sameBut u pass).reg a (Nat.not_lt.2 ha)) u

/-- A monitor that takes on a state keeps its test and, of WM_STAT, all but STATE. -/
theorem State.wmReach_keeps (new : Nat) (t : Time) : ((s.wmReach u new t).wmU u).test = (s.wmU u).test ∧
    (s.wmReach u new t).flag (Reg.WM_STAT u) Fld.WM_STAT_ST_FAIL = s.flag (Reg.WM_STAT u) Fld.WM_STAT_ST_FAIL := by
  have hmove : ∀ (v : State) (m : Nat), ((v.wmMove u m t true).wmU u).test = (v.wmU u).test ∧
      (v.wmMove u m t true).flag (Reg.WM_STAT u) Fld.WM_STAT_ST_FAIL = v.flag (Reg.WM_STAT u) Fld.WM_STAT_ST_FAIL := fun v m =>
    ⟨by rw [State.wmU_wmMove], v.flag_wmMove u m t true (by decide) (by decide)⟩
  unfold State.wmReach
  dsimp only
  split
  · exact hmove s new
  · split
    · exact ⟨(hmove _ new).1.trans (hmove s wmInside).1, (hmove _ new).2.trans (hmove s wmInside).2⟩
    · exact ⟨rfl, rfl⟩

/-- What was missed while the comparator was blind leaves its test and ST_FAIL. -/
theorem State.blindJudged_keeps (t : Time) (differs : Option Nat) : (s.blindJudged u t differs).compTest u = s.compTest u ∧
    (s.blindJudged u t differs).testFailed u = s.testFailed u := by
  unfold State.blindJudged
  split
  · exact ⟨rfl, rfl⟩
  · next new =>
    by_cases hwm : u < 72
    · simp only [State.compTest, State.testFailed, if_pos hwm]
      exact s.wmReach_keeps u new _
    · simp only [State.compTest, State.testFailed, if_neg hwm]
      split
      · obtain ⟨-, -, -, htest⟩ := s.hcU_beginHit (u - 72) (s.hcTime (u - 72) t true) true
        refine ⟨htest, ?_⟩
        rw [State.flag_congr (s.hcStat_beginHit _ _ _)]
        exact s.flag_setFld_apart ⟨by decide, by decide⟩ (by decide) (by decide) 1
      · exact ⟨rfl, rfl⟩

end

/-- A test that is released: it runs no more, its failures in a row are counted, and the second sets ST_FAIL. -/
theorem compTestRelease_leaves {s : State} {u : Nat} {failed : Option Nat} {t : Time} {differs : Option Nat} (hu : u < 80)
    (hrun : (s.compTest u).running = true)
    (hlate : u < 72 → differs ≠ none →
      decisionTime (s.fld (Reg.WM_TH u) Fld.WM_TH_MODE) * 2 ^ 32 ≤ (s.time.toNat - t.toNat) * 1000000000) :
    (compTestRelease s u failed t differs).compTest u = { s.compTest u with
        running := false, fails := if failed.isSome then (s.compTest u).fails + 1 else 0, lastAt := s.time, since := s.time } ∧
      (failed.isSome = true → 1 ≤ (s.compTest u).fails → (compTestRelease s u failed t differs).testFailed u = true) := by
  rw [compTestRelease_due hu hrun hlate]
  obtain ⟨hblind, hfailed⟩ := State.blindJudged_keeps ((((s.testEnded u failed).setCompFlag u true false).testJudged u
    ((s.compTest u).fails + 1) failed).compTested u failed.isNone) u t differs
  rw [hblind, hfailed, State.compTest_compTested, State.testFailed_compTested, State.compTest_testJudged, State.compTest_setCompFlag,
    State.testEnded, State.compTest_setCompTest_self]
  exact ⟨rfl, fun hfailed hone => State.testFailed_testJudged _ u hfailed (Nat.succ_le_succ hone)⟩

/-! ### No test for 1 s (R166) -/

section
variable {s : State} {u : Nat} (hen : s.compEnabled u = true) (hlong : secTime 1 ≤ (s.time - (s.compTest u).since).toNat)
include hen hlong

/-- A unit that does not show UNTESTED gets it, with a record. -/
theorem compUntested_due (hu : u < 80) : compUntested s u =
    if (if u < 72 then s.flag (Reg.WM_STAT u) Fld.WM_STAT_UNTESTED else s.flag (Reg.HC_STAT (u - 72)) Fld.HC_STAT_UNTESTED) = true then s
    else ((s.setCompFlag u true true).emit 0x0221 (compUnit u) [u, (s.compTest u).lastAt.toNat]).compUntrusted u :=
  if_pos (by rw [hen, decide_eq_true hlong, decide_eq_true hu]; rfl)

omit hen hlong in
/-- The record and SMON's judgement leave the registers from the P-channels' blocks on. -/
theorem State.reg_untrusted (s : State) (type v : Nat) (l : List Int) {a : Nat} (ha : 0x10000 ≤ a) :
    ((s.emit type v l).compUntrusted u).reg a = s.reg a :=
  (State.reg_verifyP_channel _ ha _).trans (s.emit_reg type v l (ne_lost_of_channelReg ha))

theorem compUntested_wm (hu : u < 72) : (compUntested s u).flag (Reg.WM_STAT u) Fld.WM_STAT_UNTESTED = true := by
  rw [compUntested_due hen hlong (by omega), if_pos hu]
  split
  · next hshown => exact hshown
  · rw [State.flag_congr (State.reg_untrusted _ _ _ _ (wmStat_channelReg u))]
    exact s.untested_setCompFlag_wm hu

theorem compUntested_hc (hlo : 72 ≤ u) (hhi : u < 80) :
    (compUntested s u).flag (Reg.HC_STAT (u - 72)) Fld.HC_STAT_UNTESTED = true := by
  rw [compUntested_due hen hlong hhi, if_neg (Nat.not_lt.2 hlo)]
  split
  · next hshown => exact hshown
  · rw [State.flag_congr (State.reg_untrusted _ _ _ _ (hcStat_channelReg (u - 72)))]
    exact s.untested_setCompFlag_hc hlo

end

/-! ### Events offered to start units (R168) -/

/-- Whether start unit `n` is armed for an event. -/
def State.startArmed (s : State) (source index n : Nat) : Bool :=
  hasWch s.fac.variant n && s.fld (Reg.WCH_ST_CFG n) Fld.WCH_ST_CFG_SRC == source &&
    (source == 2 || s.fld (Reg.WCH_ST_CFG n) Fld.WCH_ST_CFG_SRC_IDX == index) && s.fld (Reg.WCH_ST_CFG n) Fld.WCH_ST_CFG_CH_MASK != 0

/-- An event is offered to start unit `n` where that is armed for it. -/
def State.offerArmed (source index : Nat) (t : Time) (s : State) (n : Nat) : State :=
  if s.startArmed source index n then s.offerStartTo n t else s

section
variable (s : State) (source index : Nat) (t : Time) {n : Nat}

theorem State.offerStart_eq : s.offerStart source index t = (List.range 8).foldl (State.offerArmed source index t) s := rfl

theorem State.startU_offerStartTo_self : ((s.offerStartTo n t).startU n).offers = (s.startU n).offers ++ [t] := by
  rw [State.offerStartTo, State.startU_setStart_self]

theorem State.startArmed_offerArmed (m : Nat) :
    (State.offerArmed source index t s m).startArmed source index n = s.startArmed source index n := by
  unfold State.offerArmed
  split <;> rfl

theorem State.startU_offerArmed_other {m : Nat} (h : n ≠ m) : (State.offerArmed source index t s m).startU n = s.startU n := by
  unfold State.offerArmed
  split
  · exact s.startU_setStart_other m h _
  · rfl

theorem State.startU_offerEach_other {l : List Nat} (h : n ∉ l) : (l.foldl (State.offerArmed source index t) s).startU n = s.startU n := by
  induction l generalizing s with
  | nil => rfl
  | cons m l ih =>
    obtain ⟨hm, hl⟩ := not_or.1 (mt List.mem_cons.2 h)
    rw [List.foldl_cons, ih _ hl, s.startU_offerArmed_other _ _ _ hm]

/-- Of units told apart, an armed one gets the event once. -/
theorem State.offers_offerEach {l : List Nat} (hnodup : l.Nodup) (hn : n ∈ l) (harmed : s.startArmed source index n = true) :
    ((l.foldl (State.offerArmed source index t) s).startU n).offers = (s.startU n).offers ++ [t] := by
  induction l generalizing s with
  | nil => exact absurd hn List.not_mem_nil
  | cons m l ih =>
    obtain ⟨hm, hl⟩ := List.nodup_cons.1 hnodup
    rw [List.foldl_cons]
    rcases List.mem_cons.1 hn with rfl | hin
    · rw [State.startU_offerEach_other _ _ _ _ hm, State.offerArmed, if_pos harmed, s.startU_offerStartTo_self]
    · have hne : n ≠ m := fun h => hm (h ▸ hin)
      rw [ih _ hl hin ((s.startArmed_offerArmed _ _ _ m).trans harmed), s.startU_offerArmed_other _ _ _ hne]

theorem State.offers_offerStart (hn : n < 8) (harmed : s.startArmed source index n = true) :
    ((s.offerStart source index t).startU n).offers = (s.startU n).offers ++ [t] := by
  rw [State.offerStart_eq]
  exact s.offers_offerEach source index t List.nodup_range (List.mem_range.2 hn) harmed

theorem stCfg_not_triggered (n : Nat) : ¬Parts.triggered.regs (Reg.WCH_ST_CFG n) :=
  not_triggered (by unfold Reg.WCH_ST_CFG; omega) (by unfold Reg.WCH_ST_CFG; omega)

/-- A trigger's actions reach no start unit's arming. -/
theorem State.startArmed_offerTrigger (src idx : Nat) :
    (s.offerTrigger src idx t).startArmed source index n = s.startArmed source index n := by
  have same := s.offerTrigger_sameBut src idx t
  have hcfg : ∀ f, (s.offerTrigger src idx t).fld (Reg.WCH_ST_CFG n) f = s.fld (Reg.WCH_ST_CFG n) f := fun f =>
    State.fld_congr (same.reg _ (stCfg_not_triggered n)) f
  rw [State.startArmed, State.startArmed, same.fac, hcfg, hcfg, hcfg]

end

/-- An edge of SYNC_IN that EDGE names is offered to a unit armed for it. -/
theorem syncInEdge_offers {s : State} {t : Time} {rising : Bool} {n : Nat} (hpresent : hasWch s.fac.variant n = true) (hn : n < 8)
    (hedge : s.fld Reg.CMP_SYNC Fld.CMP_SYNC_EDGE = 2 ∨ s.fld Reg.CMP_SYNC Fld.CMP_SYNC_EDGE = if rising then 0 else 1)
    (hsrc : s.fld (Reg.WCH_ST_CFG n) Fld.WCH_ST_CFG_SRC = 2) (hmask : s.fld (Reg.WCH_ST_CFG n) Fld.WCH_ST_CFG_CH_MASK ≠ 0) :
    ((syncInEdge s t rising).startU n).offers = (s.startU n).offers ++ [t] := by
  have harmed : s.startArmed 2 0 n = true := by simp [State.startArmed, hpresent, hsrc, hmask]
  have hedges : (s.fld Reg.CMP_SYNC Fld.CMP_SYNC_EDGE == 2 ||
      s.fld Reg.CMP_SYNC Fld.CMP_SYNC_EDGE == (if rising then 0 else 1)) = true := by simpa using hedge
  rw [syncInEdge, if_pos hedges, State.offers_offerStart _ 2 0 t hn ((s.startArmed_offerTrigger 2 0 t 3 0).trans harmed),
    State.startU_congr ((s.offerTrigger_sameBut 3 0 t).start rfl)]

/-- The schedule timer's next instant is offered once. -/
theorem startScheduleTimer_due {s : State} {n : Nat} {j : Int} (hpresent : hasWch s.fac.variant n = true)
    (hper : s.reg (Reg.WCH_ST_PER n) ≠ 0) (hsrc : s.fld (Reg.WCH_ST_CFG n) Fld.WCH_ST_CFG_SRC = 1)
    (hj : j = periodIndex (s.reg (Reg.WCH_ST_PHASE n)).toNat (s.reg (Reg.WCH_ST_PER n)).toNat s.time)
    (hnew : periodIndex (s.reg (Reg.WCH_ST_PHASE n)).toNat (s.reg (Reg.WCH_ST_PER n)).toNat (s.startU n).timerFrom < j) :
    startScheduleTimer s n = (s.setStart n { s.startU n with timerFrom := s.time }).offerStartTo n (BitVec.ofInt 64 (roundDiv
      (((s.reg (Reg.WCH_ST_PHASE n)).toNat + j * (s.reg (Reg.WCH_ST_PER n)).toNat) * 2 ^ 32) 1000)) := by
  have hpos : (s.reg (Reg.WCH_ST_PER n)).toNat ≠ 0 := fun h => hper (BitVec.eq_of_toNat_eq h)
  rw [startScheduleTimer]
  dsimp only
  rw [if_neg (by simp [hpresent, hpos, hsrc]), ← hj, if_neg (Int.not_le.2 hnew)]

theorem startScheduleTimer_leaves {s : State} {n : Nat} {j : Int} (hpresent : hasWch s.fac.variant n = true)
    (hper : s.reg (Reg.WCH_ST_PER n) ≠ 0) (hsrc : s.fld (Reg.WCH_ST_CFG n) Fld.WCH_ST_CFG_SRC = 1)
    (hj : j = periodIndex (s.reg (Reg.WCH_ST_PHASE n)).toNat (s.reg (Reg.WCH_ST_PER n)).toNat s.time)
    (hnew : periodIndex (s.reg (Reg.WCH_ST_PHASE n)).toNat (s.reg (Reg.WCH_ST_PER n)).toNat (s.startU n).timerFrom < j) :
    ((startScheduleTimer s n).startU n).offers = (s.startU n).offers ++ [BitVec.ofInt 64 (roundDiv
        (((s.reg (Reg.WCH_ST_PHASE n)).toNat + j * (s.reg (Reg.WCH_ST_PER n)).toNat) * 2 ^ 32) 1000)] ∧
      ((startScheduleTimer s n).startU n).timerFrom = s.time := by
  rw [startScheduleTimer_due hpresent hper hsrc hj hnew, State.offerStartTo, State.startU_setStart_self, State.startU_setStart_self]
  exact ⟨rfl, rfl⟩

/-! ### An event is taken up (R169, R170) -/

/-- The oldest event of start unit `n` is taken from those offered. -/
def State.startTaken (s : State) (n : Nat) (rest : List Time) : State := s.setStart n { s.startU n with offers := rest }

/-- The start that an event at `t` gives: DELAY later. -/
def State.startsAt (s : State) (n : Nat) (t : Time) : Time :=
  t + BitVec.ofInt 64 (roundDiv ((s.reg (Reg.WCH_ST_DELAY n)).toInt * 2 ^ 32) 8192000)

/-- The end of that start: LEN later. -/
def State.startsUntil (s : State) (n : Nat) (t : Time) : Time :=
  s.startsAt n t + BitVec.ofNat 64 (s.fld (Reg.WCH_ST_LEN n) Fld.WCH_ST_LEN_LEN * 2 ^ 32 / 8192000)

/-- The unit is BUSY until `tEnd`, and shows whether its captures are clipped. -/
def State.startBusy (s : State) (n : Nat) (tEnd : Time) (clipped : Bool) : State :=
  let u := (s.setStart n { s.startU n with until_ := some tEnd }).raise (Reg.WCH_ST_STAT n) Fld.WCH_ST_STAT_BUSY
  if clipped then u.raise (Reg.WCH_ST_STAT n) Fld.WCH_ST_STAT_CLIPPED_S else u

/-- The unit takes an event up: its captures, BUSY, the event for graph nodes and the record. -/
def State.startBegun (s : State) (n : Nat) (t : Time) : State :=
  let r := s.startCapture n (s.startsAt n t) (s.startsUntil n t)
  let u := r.1.startBusy n (s.startsUntil n t) r.2
  (u.feedEvent (.start n) t).emitAt t 0x0230 (64 + n) [n, u.fld (Reg.WCH_ST_CFG n) Fld.WCH_ST_CFG_SRC, t.toNat, (s.startsAt n t).toNat,
    u.fld (Reg.WCH_ST_CFG n) Fld.WCH_ST_CFG_CH_MASK, bit r.2]

/-- Whether a start unit has a source and channels. -/
def State.startIdleCfg (s : State) (n : Nat) : Bool :=
  !hasWch s.fac.variant n || s.fld (Reg.WCH_ST_CFG n) Fld.WCH_ST_CFG_SRC == 0 || s.fld (Reg.WCH_ST_CFG n) Fld.WCH_ST_CFG_CH_MASK == 0

/-- Whether a start unit is BUSY at an event of time `t`. -/
def State.startHeld (s : State) (n : Nat) (t : Time) : Bool :=
  s.flag (Reg.WCH_ST_STAT n) Fld.WCH_ST_STAT_BUSY && (s.startU n).until_.all (fun e => decide (t.toNat < e.toNat))

/-- The parts that a start unit's captures reach. -/
def Parts.capturing : Parts :=
  { regs := fun r => r = Reg.DEV_EV_LOST ∨ each Reg.PCH_FLT_STAT r ∨ r = Reg.STR_SEGS ∨ r = Reg.STR_STAGE ∨ r = Reg.STR_STAT,
    recs := true, classLost := true, host := true, fresh := true, port := true, streams := true }

section
variable (s : State) (n : Nat) (t : Time) (rest : List Time)

theorem startFired_eq (hoffers : (s.startU n).offers = t :: rest) : startFired s n =
    if s.startIdleCfg n then s.startTaken n rest
    else if s.startHeld n t then startDropped (s.startTaken n rest) n else (s.startTaken n rest).startBegun n t := by
  unfold startFired
  dsimp only
  rw [hoffers]
  rfl

theorem stStat_channelReg : 0x10000 ≤ Reg.WCH_ST_STAT n := by
  unfold Reg.WCH_ST_STAT
  omega

theorem State.startCapture_sameBut (tEnd : Time) : s.SameBut Parts.capturing (s.startCapture n t tEnd).1 :=
  State.sameBut_of_outside (s.startCapture_outside n t tEnd ⟨⟨rfl, rfl, rfl, .inl rfl⟩, rfl, fun k => .inr (.inl ⟨k, rfl⟩), rfl,
    .inr (.inr (.inl rfl)), rfl, .inr (.inr (.inr (.inl rfl))), .inr (.inr (.inr (.inr rfl)))⟩)

theorem State.startU_startBusy (tEnd : Time) (clipped : Bool) :
    (s.startBusy n tEnd clipped).startU n = { s.startU n with until_ := some tEnd } := by
  have hbusy : ((s.setStart n { s.startU n with until_ := some tEnd }).raise (Reg.WCH_ST_STAT n) Fld.WCH_ST_STAT_BUSY).startU n =
      { s.startU n with until_ := some tEnd } :=
    (State.startU_congr (State.setFld_start _ _ _ _) n).trans (s.startU_setStart_self n _)
  cases clipped with
  | false => exact hbusy
  | true => exact (State.startU_congr (State.setFld_start _ _ _ _) n).trans hbusy

theorem State.busy_startBusy (tEnd : Time) (clipped : Bool) :
    (s.startBusy n tEnd clipped).flag (Reg.WCH_ST_STAT n) Fld.WCH_ST_STAT_BUSY = true := by
  have hbusy := State.flag_raise (s.setStart n { s.startU n with until_ := some tEnd }) (Reg.WCH_ST_STAT n)
    (f := Fld.WCH_ST_STAT_BUSY) ⟨by decide, by decide⟩
  cases clipped with
  | false => exact hbusy
  | true => exact (State.flag_raise_apart _ ⟨by decide, by decide⟩ (by decide) (by decide)).trans hbusy

/-- The event and the record of a start leave the unit and its registers. -/
theorem State.startBegun_sameBut : ((s.startCapture n (s.startsAt n t) (s.startsUntil n t)).1.startBusy n (s.startsUntil n t)
    (s.startCapture n (s.startsAt n t) (s.startsUntil n t)).2).SameBut
      { regs := (· = Reg.DEV_EV_LOST), recs := true, classLost := true, host := true, nodes := true } (s.startBegun n t) := by
  refine State.sameBut_of_outside ?_
  rw [State.startBegun, State.emitAt_outside _ _ _ _ _ ⟨rfl, rfl, rfl, rfl⟩, State.feedEvent_outside _ _ _ rfl]

/-- A unit that takes an event up is BUSY until the end of the start. -/
theorem State.startBegun_leaves : (s.startBegun n t).flag (Reg.WCH_ST_STAT n) Fld.WCH_ST_STAT_BUSY = true ∧
    (s.startBegun n t).startU n = { s.startU n with until_ := some (s.startsUntil n t) } := by
  have same := s.startBegun_sameBut n t
  rw [State.flag_congr (same.reg _ (ne_lost_of_channelReg (stStat_channelReg n))), State.busy_startBusy,
    State.startU_congr (same.start rfl), State.startU_startBusy, State.startU_congr ((s.startCapture_sameBut n _ _).start rfl)]
  exact ⟨rfl, rfl⟩

/-- A unit that is BUSY drops the event, and counts it. -/
theorem startDropped_leaves : (startDropped s n).fld (Reg.WCH_ST_STAT n) Fld.WCH_ST_STAT_DROP_CNT =
      satInc (fieldWidth Fld.WCH_ST_STAT_DROP_CNT) (s.fld (Reg.WCH_ST_STAT n) Fld.WCH_ST_STAT_DROP_CNT) ∧
    (startDropped s n).startU n = s.startU n := by
  have same := State.emitLimited_sameBut (s.count (Reg.WCH_ST_STAT n) Fld.WCH_ST_STAT_DROP_CNT) 0x0231 (64 + n) n (secTime 1) false 0
    (fun k => [n, k + 1])
  rw [startDropped, State.fld_congr (same.reg _ (ne_lost_of_channelReg (stStat_channelReg n))),
    State.startU_congr (same.start rfl)]
  exact ⟨s.fld_count_self _ ⟨by decide, by decide⟩, State.startU_congr (State.setFld_start _ _ _ _) n⟩

end

section
variable {s : State} {n : Nat} {t : Time} {rest : List Time} (hoffers : (s.startU n).offers = t :: rest)
include hoffers

/-- Whatever becomes of an event that is taken up, it is offered no more. -/
theorem startFired_offers : ((startFired s n).startU n).offers = rest := by
  have htaken : (s.startTaken n rest).startU n = { s.startU n with offers := rest } := s.startU_setStart_self n _
  rw [startFired_eq s n t rest hoffers]
  split
  · rw [htaken]
  · split
    · rw [(startDropped_leaves _ n).2, htaken]
    · rw [(State.startBegun_leaves _ n t).2, htaken]

variable (hpresent : hasWch s.fac.variant n = true) (hsrc : s.fld (Reg.WCH_ST_CFG n) Fld.WCH_ST_CFG_SRC ≠ 0)
  (hmask : s.fld (Reg.WCH_ST_CFG n) Fld.WCH_ST_CFG_CH_MASK ≠ 0)
include hpresent hsrc hmask

omit hoffers in
theorem startIdleCfg_false : ¬s.startIdleCfg n = true := by
  simp [State.startIdleCfg, hpresent, hsrc, hmask]

theorem startFired_busy (hfree : s.flag (Reg.WCH_ST_STAT n) Fld.WCH_ST_STAT_BUSY = false ∨
      (s.startU n).until_.any (fun e => decide (e.toNat ≤ t.toNat)) = true) :
    (startFired s n).flag (Reg.WCH_ST_STAT n) Fld.WCH_ST_STAT_BUSY = true ∧
      ((startFired s n).startU n).until_ = some (s.startsUntil n t) := by
  have hheld : ¬s.startHeld n t = true := by
    rcases hfree with hidle | hover
    · simp [State.startHeld, hidle]
    · cases huntil : (s.startU n).until_ with
      | none => simp [huntil] at hover
      | some e =>
        have hle : e.toNat ≤ t.toNat := by simpa [huntil] using hover
        simp [State.startHeld, huntil, hle]
  rw [startFired_eq s n t rest hoffers, if_neg (startIdleCfg_false hpresent hsrc hmask), if_neg hheld]
  obtain ⟨hbusy, hunit⟩ := (s.startTaken n rest).startBegun_leaves n t
  exact ⟨hbusy, by rw [hunit]; rfl⟩

theorem startFired_drops (hbusy : s.flag (Reg.WCH_ST_STAT n) Fld.WCH_ST_STAT_BUSY = true)
    (hheld : (s.startU n).until_.all (fun e => decide (t.toNat < e.toNat)) = true) :
    (startFired s n).fld (Reg.WCH_ST_STAT n) Fld.WCH_ST_STAT_DROP_CNT =
        satInc (fieldWidth Fld.WCH_ST_STAT_DROP_CNT) (s.fld (Reg.WCH_ST_STAT n) Fld.WCH_ST_STAT_DROP_CNT) ∧
      ((startFired s n).startU n).until_ = (s.startU n).until_ := by
  rw [startFired_eq s n t rest hoffers, if_neg (startIdleCfg_false hpresent hsrc hmask),
    if_pos (by rw [State.startHeld, hbusy, hheld, Bool.and_self])]
  obtain ⟨hcount, hunit⟩ := startDropped_leaves (s.startTaken n rest) n
  exact ⟨hcount, by rw [hunit, State.startTaken, State.startU_setStart_self]⟩

end

/-- The end of a start ends BUSY. -/
theorem startUnitIdle_leaves {s : State} {n : Nat} (hpresent : hasWch s.fac.variant n = true)
    (hbusy : s.flag (Reg.WCH_ST_STAT n) Fld.WCH_ST_STAT_BUSY = true)
    (hover : (s.startU n).until_.all (fun e => decide (e.toNat ≤ s.time.toNat)) = true) :
    (startUnitIdle s n).flag (Reg.WCH_ST_STAT n) Fld.WCH_ST_STAT_BUSY = false ∧ ((startUnitIdle s n).startU n).until_ = none := by
  have hpast : (s.startU n).until_.any (fun e => decide (s.time.toNat < e.toNat)) = false := by
    cases huntil : (s.startU n).until_ with
    | none => rfl
    | some e => simpa [huntil] using hover
  rw [startUnitIdle, if_neg (by simp [hpresent, hbusy, hpast])]
  refine ⟨State.flag_clear _ ⟨by decide, by decide⟩, ?_⟩
  rw [State.clear, State.startU_congr (State.setFld_start _ _ _ _), State.startU_setStart_self]

/-- Settles O26: each row's meaning has a frame, so it is the row's answer; the lemmas on tests, on events offered to start units and on an
event taken up say what it leaves. -/
theorem comparatorTestsAndStarts : Obligations.ComparatorTestsAndStarts := by
  have htest : ∀ (s : State) (test : TestDue), exec (.compSelfTest test) s = .next (compSelfTest s test.unit test.deciding) :=
    fun s test => State.effect_of_outside (P := Parts.all) (compSelfTest_outside s test.unit test.deciding ⟨rfl, rfl⟩)
  have huntested : ∀ (s : State) (u : Nat), exec (.compUntested u) s = .next (compUntested s u) := fun s u =>
    State.effect_of_outside (P := Parts.all) (compUntested_outside s u (by simp [Parts.all, Parts.emits]))
  have hfired : ∀ (s : State) (n : Nat), exec (.startFired n) s = .next (startFired s n) := fun s n =>
    State.effect_of_outside (P := Parts.all) (startFired_outside s n (by simp [Parts.all, Parts.emits]))
  unfold Obligations.ComparatorTestsAndStarts
  refine ⟨?runs, ?waits, ?release, ?untestedWm, ?untestedHc, ?sync, ?timer, ?taken, ?busy, ?dropped, ?idle⟩
  case runs =>
    intro s test hu hen hidle hdeciding hrun hdue
    refine ⟨_, htest s test, ?_⟩
    rw [compSelfTest_runs hu hen hrun hdue hidle hdeciding, State.beginTest, State.compTest_setCompTest_self]
    exact ⟨rfl, rfl, rfl⟩
  case waits =>
    intro s test hu hen hbusy hrun hdue
    refine ⟨_, htest s test, ?_⟩
    rw [compSelfTest_waits hu hen hrun hdue hbusy, State.compTest_setCompTest_self]
    exact ⟨hrun, rfl⟩
  case release =>
    intro s u failed t differs hu hrun hlate
    refine ⟨_, State.effect_of_outside (P := Parts.all)
      (compTestRelease_outside s u failed t differs (by simp [Parts.all, Parts.emits])), ?_⟩
    obtain ⟨hunit, hfailed⟩ := compTestRelease_leaves (failed := failed) hu hrun hlate
    rw [hunit]
    exact ⟨rfl, rfl, rfl, hfailed⟩
  case untestedWm =>
    intro s u hu hen hlong
    exact ⟨_, huntested s u, compUntested_wm hen hlong hu⟩
  case untestedHc =>
    intro s u hlo hhi hen hlong
    exact ⟨_, huntested s u, compUntested_hc hen hlong hlo hhi⟩
  case sync =>
    intro s t rising n hpresent hn hedge hsrc hmask
    exact ⟨_, State.effect_of_outside (P := Parts.all) (syncInEdge_outside s t rising (by simp [Parts.all, Parts.emits])),
      syncInEdge_offers hpresent hn hedge hsrc hmask⟩
  case timer =>
    intro s n j hpresent hper hsrc hj hnew
    exact ⟨_, State.effect_of_outside (P := Parts.all) (startScheduleTimer_outside s n rfl),
      startScheduleTimer_leaves hpresent hper hsrc hj hnew⟩
  case taken =>
    intro s n t rest hoffers
    exact ⟨_, hfired s n, startFired_offers hoffers⟩
  case busy =>
    intro s n t rest hpresent hoffers hsrc hmask hfree
    exact ⟨_, hfired s n, startFired_busy hoffers hpresent hsrc hmask hfree⟩
  case dropped =>
    intro s n t rest hpresent hoffers hsrc hmask hbusy hheld
    exact ⟨_, hfired s n, startFired_drops hoffers hpresent hsrc hmask hbusy hheld⟩
  case idle =>
    intro s n hpresent hbusy hover
    exact ⟨_, State.effect_of_outside (P := Parts.all) (startUnitIdle_outside s n (by simp [Parts.all])),
      startUnitIdle_leaves hpresent hbusy hover⟩

end Sys2Proof.Machine
end

section
/-!
PROOF. The nodes and clusters of the engine as units of their stores, and what work on invocations leaves of them: clusters run what
they ran, and no invocation opens.
-/
namespace Sys2Proof.Machine

/-! ### Nodes and clusters -/

section
variable (s : State) (i : Nat)

@[simp] theorem State.nodeU_setNode_self (x : NodeSt) : (s.setNode i x).nodeU i = x := Store.get_set_self _ _ _ _

theorem State.nodeU_setNode (x : NodeSt) (j : Nat) : (s.setNode i x).nodeU j = if j = i then x else s.nodeU j := Store.get_set _ _ _ _ _

theorem State.nodeU_congr {s t : State} (h : t.nodes = s.nodes) (i : Nat) : t.nodeU i = s.nodeU i := by
  rw [State.nodeU, State.nodeU, h]

@[simp] theorem State.cluU_setClu_self (x : Cluster) : (s.setClu i x).cluU i = x := Store.get_set_self _ _ _ _

theorem State.cluU_setClu (x : Cluster) (j : Nat) : (s.setClu i x).cluU j = if j = i then x else s.cluU j := Store.get_set _ _ _ _ _

theorem State.cluU_congr {s t : State} (h : t.clu = s.clu) (i : Nat) : t.cluU i = s.cluU i := by
  rw [State.cluU, State.cluU, h]

theorem State.cluU_setReg (a : Nat) (w : Word) : (s.setReg a w).cluU i = s.cluU i := rfl

theorem State.cluU_setFld (a : Nat) (f : Field) (v : Nat) : (s.setFld a f v).cluU i = s.cluU i := rfl

theorem State.cluU_setNode (j : Nat) (x : NodeSt) : (s.setNode j x).cluU i = s.cluU i := rfl

theorem State.reg_setNode (x : NodeSt) (a : Nat) : (s.setNode i x).reg a = s.reg a := rfl

theorem State.reg_setClu (x : Cluster) (a : Nat) : (s.setClu i x).reg a = s.reg a := rfl

end

/-! ### Open invocations -/

/-- An invocation that is not complete and is not to end as a placeholder. -/
def Inv.isOpen (v : Inv) : Bool := v.outs.isNone && v.skip.isNone

/-- Whether a node holds an open invocation with a number. -/
def NodeSt.hasOpen (x : NodeSt) (num : Nat) : Prop := ∃ v ∈ x.invs, v.num = num ∧ v.isOpen = true

theorem NodeSt.find_none_of_closed {x : NodeSt} {num : Nat} (h : ¬x.hasOpen num) :
    x.invs.find? (fun v => v.num == num && v.outs.isNone && v.skip.isNone) = none := by
  rw [List.find?_eq_none]
  intro v hv hopen
  simp only [Bool.and_eq_true, beq_iff_eq] at hopen
  obtain ⟨⟨hnum, houts⟩, hskip⟩ := hopen
  exact h ⟨v, hv, hnum, by rw [Inv.isOpen, houts, hskip, Bool.and_self]⟩

/-- A change that neither renumbers an invocation nor opens one. -/
def Inv.OpensNone (f : Inv → Inv) : Prop := ∀ v, (f v).num = v.num ∧ ((f v).isOpen = true → v.isOpen = true)

theorem NodeSt.hasOpen_of_map {x y : NodeSt} {g : Inv → Inv} (hg : Inv.OpensNone g) (hinvs : y.invs = x.invs.map g) {num : Nat}
    (h : y.hasOpen num) : x.hasOpen num := by
  obtain ⟨w, hw, hnum, hopen⟩ := h
  rw [hinvs, List.mem_map] at hw
  obtain ⟨v, hv, rfl⟩ := hw
  exact ⟨v, hv, (hg v).1.symm.trans hnum, (hg v).2 hopen⟩

/-- What work on invocations keeps: every cluster runs what it ran, and no node has an open invocation that it had not. -/
structure State.Proceeds (s t : State) : Prop where
  running : ∀ c, (t.cluU c).running = (s.cluU c).running
  opened : ∀ i num, (t.nodeU i).hasOpen num → (s.nodeU i).hasOpen num

/-- Every part but the nodes and the clusters. -/
def Parts.butEngine : Parts := { Parts.all with nodes := false, clu := false }

namespace State.Proceeds

variable {s t u : State}

theorem refl (s : State) : s.Proceeds s := ⟨fun _ => rfl, fun _ _ h => h⟩

theorem trans (h : s.Proceeds t) (k : t.Proceeds u) : s.Proceeds u :=
  ⟨fun c => (k.running c).trans (h.running c), fun i num hu => h.opened i num (k.opened i num hu)⟩

theorem foldl {α : Type} {f : State → α → State} (h : ∀ (s : State) (x : α), s.Proceeds (f s x)) (l : List α) (s : State) :
    s.Proceeds (l.foldl f s) := by
  induction l generalizing s with
  | nil => exact refl s
  | cons x l ih => exact (h s x).trans (ih (f s x))

theorem of_outside (h : t.outside Parts.butEngine = s.outside Parts.butEngine) : s.Proceeds t :=
  have same := State.sameBut_of_outside h
  ⟨fun c => by rw [State.cluU_congr (same.clu rfl)], fun i _ => by rw [State.nodeU_congr (same.nodes rfl)]; exact id⟩

theorem setNode {i : Nat} {x : NodeSt} (h : ∀ num, x.hasOpen num → (s.nodeU i).hasOpen num) : s.Proceeds (s.setNode i x) := by
  refine ⟨fun _ => rfl, fun j num => ?_⟩
  rw [State.nodeU_setNode]
  split
  · next hj =>
    subst hj
    exact h num
  · exact id

theorem setNode_invs {i : Nat} {x : NodeSt} (h : x.invs = (s.nodeU i).invs := by rfl) : s.Proceeds (s.setNode i x) :=
  setNode fun num hx => by rwa [NodeSt.hasOpen, h] at hx

theorem updInv {node num : Nat} {f : Inv → Inv} (hf : Inv.OpensNone f) : s.Proceeds (s.updInv node num f) := by
  refine setNode fun num' => NodeSt.hasOpen_of_map (g := fun v => if v.num = num then f v else v) (fun v => ?_) rfl
  beta_reduce
  split
  · exact hf v
  · exact ⟨rfl, id⟩

theorem onEdges (p : EdgeSrc → Bool) (f : NodeDef → Edge → NodeIn → NodeIn) : s.Proceeds (s.onEdges p f) := by
  refine foldl (fun u dn => foldl (fun u e => ?_) _ u) _ s
  split
  · exact setNode fun _ => id
  · exact refl u

end State.Proceeds

/-- An update that closes every invocation of a number leaves none open. -/
theorem State.closed_updInv (s : State) (node num : Nat) {f : Inv → Inv} (hf : ∀ v, (f v).isOpen = false) :
    ¬((s.updInv node num f).nodeU node).hasOpen num := by
  rintro ⟨w, hw, hnum, hopen⟩
  rw [State.updInv, State.nodeU_setNode_self, List.mem_map] at hw
  obtain ⟨v, -, rfl⟩ := hw
  split at hopen
  · simp [hf] at hopen
  · next hne => exact hne (by rwa [if_neg hne] at hnum)

/-! ### Release of outputs (R183) -/

section
variable (s : State) (node : Nat)

theorem State.releaseFrame_proceeds (out : Nat) (f : Frame) : s.Proceeds (s.releaseFrame node out f) := by
  unfold State.releaseFrame
  refine (State.Proceeds.foldl (fun u sid => ?_) _ s).trans (State.Proceeds.onEdges _ _)
  split
  · exact State.Proceeds.of_outside (State.streamGap_outside u _ _ (by simp [Parts.butEngine, Parts.all]))
  · exact State.Proceeds.of_outside (State.streamFrame_outside u _ _ _ (by simp [Parts.butEngine, Parts.all]))

theorem State.releaseOuts_proceeds (gapped : Bool) (outs : List (Option Frame)) : s.Proceeds (s.releaseOuts node gapped outs) := by
  unfold State.releaseOuts
  refine .trans (.trans (.setNode fun num => ?_) (.of_outside (State.noteFrame_outside _ _ _ rfl))) (.foldl (fun u p => ?_) _ _)
  · split
    · exact id
    · split <;> exact id
  · split
    · exact u.releaseFrame_proceeds node _ _
    · exact .refl u

theorem State.releaseNode_proceeds (fuel : Nat) : s.Proceeds (s.releaseNode node fuel) := by
  induction fuel generalizing s with
  | zero => exact .refl s
  | succ fuel ih =>
    unfold State.releaseNode
    split
    · exact .refl s
    · next v rest hinvs =>
      split
      · exact .refl s
      · have hdrop : s.Proceeds (s.setNode node { s.nodeU node with invs := rest }) :=
          .setNode fun num ⟨w, hw, hopen⟩ => ⟨w, hinvs ▸ List.mem_cons_of_mem v hw, hopen⟩
        exact (hdrop.trans (State.releaseOuts_proceeds _ node _ _)).trans (ih _)

theorem State.skipDue_proceeds (d : NodeDef) (fuel : Nat) : s.Proceeds (s.skipDue node d fuel) := by
  induction fuel generalizing s with
  | zero => exact .refl s
  | succ fuel ih =>
    unfold State.skipDue
    dsimp only
    split
    · exact .refl s
    · split
      · exact .refl s
      · refine .trans (.trans (.setNode ?_) (.updInv ?_)) (ih _)
        · exact fun _ => id
        · exact fun v => ⟨rfl, fun h => by simp [Inv.isOpen] at h⟩

theorem State.settleNode_proceeds (d : NodeDef) : s.Proceeds (s.settleNode node d) :=
  (s.skipDue_proceeds node d _).trans (State.releaseNode_proceeds _ node _)

end

theorem State.uncharge_proceeds (s : State) (d : NodeDef) (v : Inv) : s.Proceeds (s.uncharge d v) :=
  .of_outside (State.uncharge_outside s d v rfl)

section
variable (s : State) (node : Nat) (d : NodeDef) (v : Inv) (reason : Nat)

/-- An invocation is marked to end as a placeholder, before its node is settled. -/
def State.markSkipped : State := (s.uncharge d v).workEnded.updInv node v.num (fun w => { w with skip := some reason })

theorem State.placehold_eq : s.placehold node d v reason = ((s.markSkipped node d v reason).settleNode node d).showWaiting := rfl

theorem State.markSkipped_proceeds : s.Proceeds (s.markSkipped node d v reason) :=
  ((s.uncharge_proceeds d v).trans (.of_outside (State.workEnded_outside _ rfl))).trans
    (.updInv fun w => ⟨rfl, fun h => by simp [Inv.isOpen] at h⟩)

theorem State.settleShown_proceeds : s.Proceeds (s.settleNode node d).showWaiting :=
  (s.settleNode_proceeds node d).trans (.of_outside (State.showWaiting_outside _ trivial))

theorem State.placehold_proceeds : s.Proceeds (s.placehold node d v reason) :=
  (s.markSkipped_proceeds node d v reason).trans (State.settleShown_proceeds _ node d)

/-- An invocation that becomes a placeholder is open no more. -/
theorem State.closed_placehold : ¬((s.placehold node d v reason).nodeU node).hasOpen v.num :=
  mt ((State.settleShown_proceeds _ node d).opened node v.num)
    (State.closed_updInv _ node v.num fun w => by simp [Inv.isOpen])

end

/-! ### Admission (R332) -/

/-- A change of an invocation's admission alone. -/
def Inv.AdmitsOnly (g : Inv → Inv) : Prop := ∀ v, g v = { v with admitted := (g v).admitted }

/-- What admission changes of the nodes: which of their invocations are admitted. -/
def State.Admits (s t : State) : Prop :=
  ∀ j, ∃ g, Inv.AdmitsOnly g ∧ t.nodeU j = { s.nodeU j with invs := (s.nodeU j).invs.map g }

theorem State.Admits.of_nodes {s t : State} (h : t.nodes = s.nodes) : s.Admits t := fun j =>
  ⟨id, fun _ => rfl, by rw [State.nodeU_congr h, List.map_id]⟩

theorem State.Admits.trans {s t u : State} (h : s.Admits t) (k : t.Admits u) : s.Admits u := by
  intro j
  obtain ⟨g, hg, ht⟩ := h j
  obtain ⟨g', hg', hu⟩ := k j
  refine ⟨g' ∘ g, fun v => ?_, by rw [hu, ht, List.map_map]⟩
  rw [Function.comp_apply, hg' (g v), hg v]

theorem State.admitInv_admits (s : State) (node : Nat) (v : Inv) : s.Admits (s.admitInv node v) := by
  intro j
  have hnode : (s.admitInv node v).nodeU j = if j = node then
      { s.nodeU node with invs := (s.nodeU node).invs.map (fun w => if w.num = v.num then { w with admitted := true } else w) }
      else s.nodeU j := State.nodeU_setNode _ node _ j
  rw [hnode]
  split
  · next hj =>
    subst hj
    refine ⟨_, fun w => ?_, rfl⟩
    split <;> rfl
  · exact ⟨id, fun _ => rfl, by rw [List.map_id]⟩

theorem State.borrow_sameBut (s : State) (short : Nat) : s.SameBut Parts.butEngine (s.borrow short) :=
  State.sameBut_of_outside (State.borrow_outside s short (by simp [Parts.butEngine, Parts.all, Parts.emits]))

theorem State.admitLoop_admits (s : State) (fuel : Nat) : s.Admits (s.admitLoop fuel) := by
  induction fuel generalizing s with
  | zero => exact .of_nodes rfl
  | succ fuel ih =>
    unfold State.admitLoop
    dsimp only
    split
    · exact .of_nodes rfl
    · next i d v _ =>
      split
      · exact (s.admitInv_admits i v).trans (ih _)
      · split
        · exact ((State.Admits.of_nodes ((s.borrow_sameBut _).nodes rfl)).trans (State.admitInv_admits _ i v)).trans (ih _)
        · exact .of_nodes rfl

theorem State.pacerAdmit_admits (s : State) : s.Admits s.pacerAdmit := by
  unfold State.pacerAdmit
  have hshown : ∀ u : State, u.Admits u.showWaiting.showPacer := fun u => .of_nodes rfl
  dsimp only
  split
  · exact (s.admitLoop_admits _).trans (hshown _)
  · exact hshown s

theorem State.pacerAdmit_clu (s : State) : s.pacerAdmit.clu = s.clu :=
  (State.sameBut_of_outside (State.pacerAdmit_outside (P := { Parts.all with clu := false }) s
    (by simp [Parts.all, Parts.emits]))).clu rfl

theorem State.pacerAdmit_proceeds (s : State) : s.Proceeds s.pacerAdmit := by
  refine ⟨fun c => by rw [State.cluU_congr s.pacerAdmit_clu], fun i num => ?_⟩
  obtain ⟨g, hg, hnode⟩ := s.pacerAdmit_admits i
  refine NodeSt.hasOpen_of_map (g := g) (fun v => ?_) (by rw [hnode])
  rw [hg v]
  exact ⟨rfl, id⟩

end Sys2Proof.Machine
end

section
/-!
PROOF. The end of an invocation: what a node raises, and what completing an invocation or finding its outputs to differ leaves.
-/
namespace Sys2Proof.Machine

/-! ### Triggers that a node raises (R219, R231, R433) -/

section
variable (s : State)

theorem State.raiseTrigger_proceeds (tr : Trigger) (t : Time) : s.Proceeds (s.raiseTrigger tr t) := by
  have hset : ∀ x, s.Proceeds (s.setTrig tr.num x) := fun x =>
    .of_outside (State.setTrig_outside s tr.num x (by simp [Parts.butEngine, Parts.all]))
  have hfed : ∀ u : State, u.Proceeds ((u.feedEvent (.trigger tr.num) t).triggerExc tr.num) := fun u =>
    .trans (.onEdges _ _) (.of_outside (State.triggerExc_outside _ _ (by simp [Parts.butEngine, Parts.all])))
  unfold State.raiseTrigger
  extract_lets _ noted fed
  have htold : s.Proceeds fed := (hset _).trans (hfed noted)
  clear_value fed
  refine htold.trans ?_
  split
  · exact .of_outside (by simp [Parts.butEngine, Parts.all, Parts.emits])
  · exact .of_outside (by simp [Parts.butEngine, Parts.all, Parts.emits])
  · exact .trans (.of_outside (State.freeNat_outside fed 16 rfl))
      (.of_outside (State.broadcastStarter_outside _ _ (by simp [Parts.butEngine, Parts.all, Parts.emits])))
  · exact .refl _

theorem State.nodeRaises_proceeds (num : Nat) (t : Time) (mask : Bool) : s.Proceeds (s.nodeRaises num t mask) := by
  have hraised := State.Proceeds.foldl (fun u tr => State.raiseTrigger_proceeds u tr t) (s.triggers.filter (fun tr => tr.num == num)) s
  unfold State.nodeRaises
  dsimp only
  split
  · exact hraised.trans (.of_outside (State.offerStart_reaches _ 5 num t rfl))
  · exact hraised

theorem State.nodeFrees_proceeds (num : Nat) : s.Proceeds (s.nodeFrees num) :=
  .of_outside (State.nodeFrees_outside s num (by simp [Parts.butEngine, Parts.all]))

end

/-! ### Self-tests that fall due, and causes of SAFE -/

section
variable (s : State)

theorem State.dueTest_proceeds (c : Nat) : s.Proceeds (s.dueTest c) := by
  refine ⟨fun j => ?_, fun _ _ => id⟩
  rw [State.dueTest, State.cluU_setClu]
  split
  · next hj => rw [hj]
  · rfl

theorem State.dueTests_proceeds (run : List Nat) : s.Proceeds (s.dueTests run) :=
  .foldl State.dueTest_proceeds run s

theorem State.raiseCause_proceeds (c rule unit : Nat) : s.Proceeds (s.raiseCause c rule unit) :=
  .of_outside (State.raiseCause_outside s c rule unit (by simp [Parts.butEngine, Parts.all, Parts.emits]))

theorem State.dropCause_proceeds (c : Nat) : s.Proceeds (s.dropCause c) :=
  .of_outside (State.dropCause_outside s c trivial)

theorem State.class1Poison_proceeds (i : Nat) (ins : List Frame) : s.Proceeds (s.class1Poison i ins) := by
  unfold State.class1Poison
  dsimp only
  split
  · exact .trans (.setNode_invs) (State.raiseCause_proceeds _ _ _ _)
  · exact .refl s

theorem State.class1Done_proceeds (i : Nat) (took : Bool) (outs : List Frame) : s.Proceeds (s.class1Done i took outs) := by
  have hdrop : ∀ (u : State) (p : NodeSt → Bool) (c : Nat), u.Proceeds (if u.anyNode p then u else u.dropCause c) := fun u p c => by
    split
    · exact .refl u
    · exact u.dropCause_proceeds c
  unfold State.class1Done
  exact .trans (.trans .setNode_invs (hdrop _ _ 7)) (hdrop _ _ 8)

end

/-! ### An invocation completes (R181, R183) -/

section
variable (s : State) (i : Nat) (d : NodeDef) (v : Inv) (c : Nat)

/-- What a kernel's run brings for an invocation of node `i`. -/
def State.kernelOut : KOut := runKernel i d v.params (s.nodeU i).coefPo v.changed v.frames (s.nodeU i).k

/-- The invocation is complete, with its outputs; its state is written back. -/
def State.invComplete : State :=
  let x := s.nodeU i
  let o := s.kernelOut i d v
  ((s.setNode i { x with k := o.st, poAt := if x.coefPo.isEmpty then [] else x.poAt }).writeRegion i d o.st).workEnded.updInv i v.num
    (fun w => { w with outs := some o.outs })

/-- The records and triggers of a kernel's run take effect. -/
def State.kernelTold (o : KOut) : State :=
  let s := o.recs.foldl (fun (s : State) r => s.emitAt r.2.1 r.1 c r.2.2) s
  let s := o.raised.foldl (fun (s : State) r => s.nodeRaises r.1 r.2 (d.kernel == 8)) s
  o.freed.foldl (fun (s : State) t => s.nodeFrees t) s

/-- The accounts of a completed invocation are closed, and its outputs released. -/
def State.invReleased (took : Bool) (outs : List Frame) (run : List Nat) : State :=
  let s := if d.cls = 1 then s.class1Done i took outs else s
  let s := if 2 ≤ d.cls then { s with pacer := { s.pacer with discretion := s.pacer.discretion + v.energy } } else s
  let s := s.uncharge d v
  let s := if v.retried then s.dueTests run else s
  (s.settleNode i d).pacerAdmit

theorem State.completeInv_eq : s.completeInv i d v c =
    (((s.invComplete i d v).kernelTold d c (s.kernelOut i d v)).invReleased i d v
      (v.frames.any Frame.poisoned || (s.nodeU i).k.poisoned || !(s.nodeU i).coefPo.isEmpty)
      ((s.kernelOut i d v).outs.filterMap id) (s.nodeU i).run) := rfl

theorem State.writeRegion_proceeds (k : KState) : s.Proceeds (s.writeRegion i d k) := by
  unfold State.writeRegion
  dsimp only
  have hsaved : s.Proceeds (s.setNode i { s.nodeU i with saved := k }) := .setNode_invs
  split
  · exact hsaved
  · refine hsaved.trans (.foldl (fun u p => ?_) _ _)
    split
    · exact .refl u
    · exact .of_outside (fullCellWrite_outside u _ _ _ _ _ (by simp [Parts.butEngine, Parts.all]))

theorem State.invComplete_proceeds : s.Proceeds (s.invComplete i d v) := by
  unfold State.invComplete
  refine .trans ?_ (.updInv ?_)
  · refine .trans ?_ (.of_outside (State.workEnded_outside _ rfl))
    refine .trans ?_ (State.writeRegion_proceeds _ i d _)
    exact .setNode_invs
  · exact fun w => ⟨rfl, fun h => by simp [Inv.isOpen] at h⟩

theorem State.closed_invComplete : ¬((s.invComplete i d v).nodeU i).hasOpen v.num :=
  State.closed_updInv _ i v.num fun w => by simp [Inv.isOpen]

theorem State.kernelTold_proceeds (o : KOut) : s.Proceeds (s.kernelTold d c o) := by
  have hrec : ∀ (u : State) (r : Nat × Time × List Int), u.Proceeds (u.emitAt r.2.1 r.1 c r.2.2) := fun u r =>
    .of_outside (State.emitAt_outside u _ _ _ _ (by simp [Parts.butEngine, Parts.all, Parts.emits]))
  have hraise : ∀ (u : State) (r : Nat × Time), u.Proceeds (u.nodeRaises r.1 r.2 (d.kernel == 8)) := fun u r =>
    u.nodeRaises_proceeds r.1 r.2 _
  exact ((State.Proceeds.foldl hrec o.recs s).trans (.foldl hraise o.raised _)).trans (.foldl State.nodeFrees_proceeds o.freed _)

theorem State.invReleased_proceeds (took : Bool) (outs : List Frame) (run : List Nat) :
    s.Proceeds (s.invReleased i d v took outs run) := by
  unfold State.invReleased
  dsimp only
  refine .trans (.trans ?_ (State.settleNode_proceeds _ i d)) (State.pacerAdmit_proceeds _)
  have hjudged : s.Proceeds (if d.cls = 1 then s.class1Done i took outs else s) := by
    split
    · exact s.class1Done_proceeds i took outs
    · exact .refl s
  have hspent : ∀ u : State, u.Proceeds
      (if 2 ≤ d.cls then { u with pacer := { u.pacer with discretion := u.pacer.discretion + v.energy } } else u) := fun u => by
    split
    · exact .of_outside (State.outside_pacer rfl _ _)
    · exact .refl u
  have htests : ∀ u : State, u.Proceeds (if v.retried then u.dueTests run else u) := fun u => by
    split
    · exact u.dueTests_proceeds run
    · exact .refl u
  exact ((hjudged.trans (hspent _)).trans (State.uncharge_proceeds _ d v)).trans (htests _)

theorem State.completeInv_proceeds : s.Proceeds (s.completeInv i d v c) :=
  ((s.invComplete_proceeds i d v).trans (State.kernelTold_proceeds _ d c _)).trans (State.invReleased_proceeds _ i d v _ _ _)

/-- A completed invocation is open no more. -/
theorem State.closed_completeInv : ¬((s.completeInv i d v c).nodeU i).hasOpen v.num :=
  mt (((State.kernelTold_proceeds _ d c _).trans (State.invReleased_proceeds _ i d v _ _ _)).opened i v.num)
    (s.closed_invComplete i d v)

/-! ### The outputs of the two clusters differ (R187) -/

theorem State.mismatch_proceeds (idx : Nat) : s.Proceeds (s.mismatch i d v c idx) := by
  have hrec : ∀ (u : State) (type : Nat) (l : List Int), u.Proceeds (u.emitSafetyHeld type c l) := fun u type l =>
    .of_outside (State.emitSafetyHeld_outside u type c l (by simp [Parts.butEngine, Parts.all, Parts.emits]))
  unfold State.mismatch
  extract_lets x pair again _ noted counted shown told safe
  have htold : s.Proceeds told := by
    have hcounted : s.Proceeds counted := .trans (.of_outside (State.outside_eng rfl _ _)) .setNode_invs
    have hshown : counted.Proceeds shown :=
      .of_outside ((State.count_outside _ _ _ trivial).trans (State.raise_outside _ _ _ trivial))
    exact (hcounted.trans hshown).trans (hrec _ _ _)
  have hsafe : told.Proceeds safe := by
    unfold safe
    split
    · exact (hrec _ _ _).trans (State.raiseCause_proceeds _ _ _ _)
    · exact .refl told
  refine (htold.trans hsafe).trans ?_
  split
  · exact .updInv fun w => ⟨rfl, id⟩
  · exact (safe.dueTests_proceeds pair).trans (State.placehold_proceeds _ i d v 3)

/-- The end of a cluster's invocation leaves what every cluster runs. -/
theorem State.running_endInv (differs : Option Nat) (j : Nat) : ((s.endInv i d v c differs).cluU j).running = (s.cluU j).running := by
  unfold State.endInv
  extract_lets w taken judged
  have hjudged : taken.Proceeds judged := by
    unfold judged
    split
    · exact taken.class1Poison_proceeds i _
    · exact .refl taken
  by_cases hwaits : w.finished.length < if d.cls = 1 then 2 else 1
  · rw [if_pos hwaits]
    rfl
  · rw [if_neg hwaits]
    cases (if d.cls = 1 then differs else none) with
    | some idx => exact (hjudged.trans (judged.mismatch_proceeds i d w c idx)).running j
    | none => exact (hjudged.trans (judged.completeInv_proceeds i d w c)).running j

/-- An invocation of a class other than 1 that its cluster ends is open no more. -/
theorem State.closed_endInv (differs : Option Nat) (hcls : d.cls ≠ 1) : ¬((s.endInv i d v c differs).nodeU i).hasOpen v.num := by
  unfold State.endInv
  extract_lets w taken judged
  rw [if_neg (by simp [w, hcls])]
  simp only [hcls, if_false]
  exact State.closed_completeInv _ i d w c

end

end Sys2Proof.Machine
end

section
/-!
PROOF. The registers of the clusters and of the engine: what work on invocations, a cluster's fault and an access leave of them.
-/
namespace Sys2Proof.Machine

/-! ### Registers that an operation spares -/

/-- Every part but the registers that `kept` names. -/
def Parts.sparing (kept : Nat → Prop) : Parts := { Parts.all with regs := fun r => ¬kept r }

theorem State.reg_of_sparing {kept : Nat → Prop} {s t : State} (h : t.outside (Parts.sparing kept) = s.outside (Parts.sparing kept))
    {a : Nat} (ha : kept a) : t.reg a = s.reg a :=
  (State.sameBut_of_outside h).reg a (not_not.2 ha)

/-- CL_STAT and CL_CYC of the four clusters. -/
def clusterReg (r : Nat) : Prop := ∃ c < 4, r = Reg.CL_STAT c ∨ r = Reg.CL_CYC c

theorem hasCl_lt {v : Variant} {c : Nat} (h : hasCl v c = true) : c < 4 := by
  simp only [hasCl, Bool.and_eq_true, decide_eq_true_eq] at h
  exact h.1

theorem clusterReg_clStat {c : Nat} (hc : c < 4) : clusterReg (Reg.CL_STAT c) := ⟨c, hc, .inl rfl⟩

theorem clusterReg_clCyc {c : Nat} (hc : c < 4) : clusterReg (Reg.CL_CYC c) := ⟨c, hc, .inr rfl⟩

/-- The clusters' registers lie between the fabric's and the DRAM's, at offset 8 or 16 of 64 bytes. -/
theorem clusterReg_range {r : Nat} (h : clusterReg r) : 0x20100 ≤ r ∧ r < 0x20500 ∧ (r % 64 = 8 ∨ r % 64 = 16) := by
  obtain ⟨c, hc, rfl | rfl⟩ := h
  · unfold Reg.CL_STAT
    omega
  · unfold Reg.CL_CYC
    omega

theorem not_clusterReg_low {r : Nat} (h : r < 0x20100) : ¬clusterReg r := fun hr => by
  have := clusterReg_range hr
  omega

theorem not_clusterReg_high {r : Nat} (h : 0x20500 ≤ r) : ¬clusterReg r := fun hr => by
  have := clusterReg_range hr
  omega

theorem not_clusterReg_apart {r : Nat} (h8 : r % 64 ≠ 8) (h16 : r % 64 ≠ 16) : ¬clusterReg r := fun hr => by
  have := clusterReg_range hr
  omega

theorem not_clusterReg_fpUtil (n : Nat) : ¬clusterReg (Reg.FP_UTIL n) := by
  apply not_clusterReg_apart <;> (unfold Reg.FP_UTIL; omega)

theorem not_clusterReg_fpStat (n : Nat) : ¬clusterReg (Reg.FP_STAT n) := by
  apply not_clusterReg_apart <;> (unfold Reg.FP_STAT; omega)

theorem not_clusterReg_excStat (n : Nat) : ¬clusterReg (Reg.EXC_STAT n) := by
  apply not_clusterReg_apart <;> (unfold Reg.EXC_STAT; omega)

theorem not_clusterReg_wchStCfg (n : Nat) : ¬clusterReg (Reg.WCH_ST_CFG n) := by
  apply not_clusterReg_apart <;> (unfold Reg.WCH_ST_CFG; omega)

theorem not_clusterReg_eccRemap (n : Nat) : ¬clusterReg (Reg.ECC_REMAP n) :=
  not_clusterReg_high (by unfold Reg.ECC_REMAP; omega)

theorem not_clusterReg_eccSramCe (n : Nat) : ¬clusterReg (Reg.ECC_SRAM_CE n) :=
  not_clusterReg_high (by unfold Reg.ECC_SRAM_CE; omega)

/-- The end of an invocation leaves the clusters' registers. -/
theorem State.reg_endInv (s : State) (i : Nat) (d : NodeDef) (v : Inv) (c : Nat) (differs : Option Nat) {a : Nat} (ha : clusterReg a) :
    (s.endInv i d v c differs).reg a = s.reg a :=
  State.reg_of_sparing (State.endInv_outside s i d v c differs (by
    simp (disch := decide) [Parts.sparing, Parts.all, Parts.emits, not_clusterReg_low, not_clusterReg_high, not_clusterReg_fpUtil,
      not_clusterReg_excStat, not_clusterReg_wchStCfg, not_clusterReg_eccRemap])) ha

theorem State.reg_borrow (s : State) (short : Nat) {a : Nat} (ha : clusterReg a) : (s.borrow short).reg a = s.reg a :=
  State.reg_of_sparing (State.borrow_outside s short (by
    simp (disch := decide) [Parts.sparing, Parts.all, Parts.emits, not_clusterReg_low])) ha

theorem State.clState_setClu (s : State) (j : Nat) (x : Cluster) (c : Nat) : (s.setClu j x).clState c = s.clState c :=
  State.fld_congr (s.reg_setClu j x _) _

/-- A cluster's state as it has been set. -/
theorem State.clState_setFld (s : State) (c v : Nat) : (s.setFld (Reg.CL_STAT c) Fld.CL_STAT_STATE v).clState c = v % 16 :=
  s.fld_setFld_self _ ⟨by decide, by decide⟩ v

/-! ### What the engine shows of its placements (R182, R185, R196) -/

/-- CL_STAT and CL_CYC of the four clusters, and ENG_STAT. -/
def engineReg (r : Nat) : Prop := r = Reg.ENG_STAT ∨ clusterReg r

theorem not_engineReg_low {r : Nat} (h : r < 0x20000) : ¬engineReg r := by
  rintro (rfl | hr)
  · exact absurd h (by decide)
  · exact not_clusterReg_low (by omega) hr

theorem not_engineReg_fpUtil (n : Nat) : ¬engineReg (Reg.FP_UTIL n) := by
  rintro (hr | hr)
  · unfold Reg.FP_UTIL Reg.ENG_STAT at hr
    omega
  · exact not_clusterReg_fpUtil n hr

theorem engineReg_channelReg {r : Nat} (h : engineReg r) : 0x10000 ≤ r :=
  Nat.not_lt.1 fun hr => not_engineReg_low (by omega) h

theorem State.foldl_keeps {α β : Type} {π : State → β} {f : State → α → State} (h : ∀ s x, π (f s x) = π s)
    (l : List α) (s : State) : π (l.foldl f s) = π s := by
  induction l generalizing s with
  | nil => rfl
  | cons x l ih => rw [List.foldl_cons, ih, h]

/-- A field of a cluster's CL_STAT that showing the placements does not write. -/
theorem State.clStat_showEngine (s : State) (c : Nat) {f : Field} (hf : f.lo ≤ f.hi) (ha : 23 < f.lo ∨ f.hi < 16) :
    s.showEngine.fld (Reg.CL_STAT c) f = s.fld (Reg.CL_STAT c) f := by
  have hEng : Reg.CL_STAT c ≠ Reg.ENG_STAT := by
    unfold Reg.CL_STAT Reg.ENG_STAT
    omega
  have hother : ∀ j, Reg.CL_STAT c ≠ Reg.CL_LOAD j ∧ Reg.CL_STAT c ≠ Reg.CL_XYUSE j ∧ Reg.CL_STAT c ≠ Reg.CL_CUSE j ∧
      Reg.CL_STAT c ≠ Reg.CL_WMAX j := fun j => by
    unfold Reg.CL_STAT Reg.CL_LOAD Reg.CL_XYUSE Reg.CL_CUSE Reg.CL_WMAX
    omega
  have hplaced : ∀ (u : State) (j n : Nat),
      (u.setFld (Reg.CL_STAT j) Fld.CL_STAT_PLACED n).fld (Reg.CL_STAT c) f = u.fld (Reg.CL_STAT c) f := fun u j n => by
    by_cases hj : Reg.CL_STAT c = Reg.CL_STAT j
    · rw [hj]
      exact u.fld_setFld_apart _ (f := Fld.CL_STAT_PLACED) ⟨by decide, by decide⟩ hf ha _
    · exact u.fld_setFld_other hj _ _ _
  unfold State.showEngine
  dsimp only
  rw [State.foldl_keeps (π := fun u => u.fld (Reg.CL_STAT c) f) (fun u j => ?_)]
  · rw [State.fld_setFld_other _ hEng, State.fld_setFld_other _ hEng, State.fld_setFld_other _ hEng]
  · obtain ⟨hload, hxy, hcuse, hwmax⟩ := hother j
    split
    · rfl
    · rw [State.fld_congr (State.reg_setReg_other _ hwmax _), State.fld_congr (State.reg_setReg_other _ hcuse _),
        State.fld_congr (State.reg_setReg_other _ hxy _), State.fld_setFld_other _ hload, hplaced]

/-- A field of ENG_STAT that showing the placements does not write. -/
theorem State.engStat_showEngine (s : State) {f : Field} (hf : f.lo ≤ f.hi) (hlo : 7 < f.lo) (hhi : f.hi < 24) :
    s.showEngine.fld Reg.ENG_STAT f = s.fld Reg.ENG_STAT f := by
  have hother : ∀ j, Reg.ENG_STAT ≠ Reg.CL_STAT j ∧ Reg.ENG_STAT ≠ Reg.CL_LOAD j ∧ Reg.ENG_STAT ≠ Reg.CL_XYUSE j ∧
      Reg.ENG_STAT ≠ Reg.CL_CUSE j ∧ Reg.ENG_STAT ≠ Reg.CL_WMAX j := fun j => by
    unfold Reg.ENG_STAT Reg.CL_STAT Reg.CL_LOAD Reg.CL_XYUSE Reg.CL_CUSE Reg.CL_WMAX
    omega
  unfold State.showEngine
  dsimp only
  rw [State.foldl_keeps (π := fun u => u.fld Reg.ENG_STAT f) (fun u j => ?_)]
  · rw [State.fld_setFld_apart _ _ ⟨by decide, by decide⟩ hf (.inl hlo),
      State.fld_setFld_apart _ _ ⟨by decide, by decide⟩ hf (.inl (Nat.lt_of_le_of_lt (by decide) hlo)),
      State.fld_setFld_apart _ _ ⟨by decide, by decide⟩ hf (.inr hhi)]
  · obtain ⟨hstat, hload, hxy, hcuse, hwmax⟩ := hother j
    split
    · rfl
    · rw [State.fld_congr (State.reg_setReg_other _ hwmax _), State.fld_congr (State.reg_setReg_other _ hcuse _),
        State.fld_congr (State.reg_setReg_other _ hxy _), State.fld_setFld_other _ hload, State.fld_setFld_other _ hstat]

theorem State.showEngine_sameBut (s : State) : s.SameBut { regs := fun _ => True } s.showEngine :=
  State.sameBut_of_outside (State.showEngine_outside s (by simp))

/-! ### A cluster's fault (R192) -/

section
variable (s : State) (c cause : Nat)

/-- The busy cycles of what a failing cluster runs are counted. -/
def State.abandoned : State :=
  if (s.cluU c).running.isSome then s.countBusy c (clusterCycles (s.time - (s.cluU c).since).toNat) else s

/-- A cluster is FAILED with a cause, shut and idle; its nodes have not moved yet. -/
def State.failed : State :=
  let s := ((s.abandoned c).setFld (Reg.CL_STAT c) Fld.CL_STAT_STATE clFailed).setFld (Reg.CL_STAT c) Fld.CL_STAT_CAUSE cause
  let s := ((s.setBit Reg.ENG_STAT (20 + c) true).raise Reg.ENG_STAT Fld.ENG_STAT_FAULT_S).setBit Reg.CLK_GATE_OPEN (2 + c) false
  s.setClu c { s.cluU c with running := none, testDue := false, replacing := true }

/-- The record of the fault is written, and the nodes leave the cluster. -/
def State.vacated (s : State) (c : Nat) (l : List Int) : State :=
  let s := s.emitSafetyHeld 0x0040 c l
  s.eng.graph.zipIdx.foldl (fun (s : State) p => s.leaveCluster c p.2 p.1) s

theorem clusterFault_eq (hpresent : hasCl s.fac.variant c = true) (hstate : s.clState c ≠ clFailed) :
    ∃ l, clusterFault s c cause = ((s.failed c cause).vacated c l).showEngine := by
  rw [clusterFault, if_neg (by simp [hpresent, hstate])]
  exact ⟨_, rfl⟩

theorem State.reg_vacated (l : List Int) {a : Nat} (ha : engineReg a) : (s.vacated c l).reg a = s.reg a := by
  have hleave : ∀ (u : State) (p : NodeDef × Nat), (u.leaveCluster c p.2 p.1).reg a = u.reg a := fun u p =>
    State.reg_of_sparing (State.leaveCluster_outside u c p.2 p.1 (by
      simp (disch := decide) [Parts.sparing, Parts.all, Parts.emits, not_engineReg_low, not_engineReg_fpUtil])) ha
  rw [State.vacated, State.foldl_keeps (π := fun u => u.reg a) hleave]
  exact s.push_reg _ (ne_lost_of_channelReg (engineReg_channelReg ha))

theorem State.cluU_vacated (l : List Int) (j : Nat) : (s.vacated c l).cluU j = s.cluU j := by
  have hleave : ∀ (u : State) (p : NodeDef × Nat), (u.leaveCluster c p.2 p.1).cluU j = u.cluU j := fun u p =>
    State.cluU_congr ((State.sameBut_of_outside (State.leaveCluster_outside (P := { Parts.all with clu := false }) u c p.2 p.1
      (by simp [Parts.all, Parts.emits]))).clu rfl) j
  rw [State.vacated, State.foldl_keeps (π := fun u => u.cluU j) hleave]
  rfl

theorem State.reg_abandoned {a : Nat} (ha : a ≠ Reg.CL_CYC c) : (s.abandoned c).reg a = s.reg a := by
  unfold State.abandoned
  split
  · exact State.reg_setReg_other _ ha _
  · rfl

theorem clStat_ne_low {a : Nat} (h : a < 0x20100) : Reg.CL_STAT c ≠ a := by
  unfold Reg.CL_STAT
  omega

theorem clStat_ne_clCyc : Reg.CL_STAT c ≠ Reg.CL_CYC c := by
  unfold Reg.CL_STAT Reg.CL_CYC
  omega

/-- CL_STAT of a cluster that fails shows its state and the cause, and is else as it was. -/
theorem State.clStat_failed : (s.failed c cause).reg (Reg.CL_STAT c) =
    putField Fld.CL_STAT_CAUSE (putField Fld.CL_STAT_STATE (s.reg (Reg.CL_STAT c)) clFailed) cause := by
  have hgate : Reg.CL_STAT c ≠ Reg.CLK_GATE_OPEN := clStat_ne_low c (by decide)
  have hEng : Reg.CL_STAT c ≠ Reg.ENG_STAT := clStat_ne_low c (by decide)
  rw [State.failed, State.reg_setClu, State.setBit, State.reg_setFld_other _ hgate, State.reg_raise_other _ hEng, State.setBit,
    State.reg_setFld_other _ hEng, State.reg_setFld_self, State.reg_setFld_self, State.reg_abandoned s c (clStat_ne_clCyc c)]

theorem State.engStat_failed (hc : c < 4) : (s.failed c cause).regBit Reg.ENG_STAT (20 + c) = true := by
  have hgate : Reg.ENG_STAT ≠ Reg.CLK_GATE_OPEN := by decide
  rw [State.regBit, State.failed, State.reg_setClu, State.setBit, State.reg_setFld_other _ hgate, ← State.regBit,
    State.regBit_eq_flag, State.flag_raise_apart _ ⟨by decide, by decide⟩ (Nat.le_refl _) (.inl (Nat.lt_add_right c (by decide))),
    ← State.regBit_eq_flag]
  exact State.regBit_setBit _ _ (by omega)

end

section
variable {s : State} {c : Nat} (cause : Nat) (hpresent : hasCl s.fac.variant c = true) (hstate : s.clState c ≠ clFailed)
include hpresent hstate

/-- A field of CL_STAT after the cluster's fault. -/
theorem clStat_clusterFault {f : Field} (hf : f.lo ≤ f.hi) (ha : 23 < f.lo ∨ f.hi < 16) :
    (clusterFault s c cause).fld (Reg.CL_STAT c) f =
      getField f (putField Fld.CL_STAT_CAUSE (putField Fld.CL_STAT_STATE (s.reg (Reg.CL_STAT c)) clFailed) cause) := by
  obtain ⟨l, hfault⟩ := clusterFault_eq s c cause hpresent hstate
  rw [hfault, State.clStat_showEngine _ _ hf ha, State.fld, State.reg_vacated _ _ _ (.inr (clusterReg_clStat (hasCl_lt hpresent))),
    State.clStat_failed]

theorem clState_clusterFault : (clusterFault s c cause).clState c = clFailed := by
  rw [State.clState, clStat_clusterFault cause hpresent hstate (by decide) (by decide),
    getField_putField_apart ⟨by decide, by decide⟩ (by decide) (by decide), getField_putField ⟨by decide, by decide⟩]
  rfl

theorem cause_clusterFault :
    (clusterFault s c cause).fld (Reg.CL_STAT c) Fld.CL_STAT_CAUSE = cause % 2 ^ fieldWidth Fld.CL_STAT_CAUSE := by
  rw [clStat_clusterFault cause hpresent hstate (by decide) (by decide), getField_putField ⟨by decide, by decide⟩]

theorem testFail_clusterFault : (clusterFault s c cause).flag (Reg.CL_STAT c) Fld.CL_STAT_ST_FAIL =
    s.flag (Reg.CL_STAT c) Fld.CL_STAT_ST_FAIL := by
  rw [State.flag, clStat_clusterFault cause hpresent hstate (by decide) (by decide),
    getField_putField_apart ⟨by decide, by decide⟩ (by decide) (by decide),
    getField_putField_apart ⟨by decide, by decide⟩ (by decide) (by decide), State.flag, State.fld]

theorem engStat_clusterFault : (clusterFault s c cause).regBit Reg.ENG_STAT (20 + c) = true := by
  have hc := hasCl_lt hpresent
  obtain ⟨l, hfault⟩ := clusterFault_eq s c cause hpresent hstate
  have hbit := s.engStat_failed c cause hc
  rw [State.regBit_eq_flag, State.flag] at hbit ⊢
  rw [hfault, State.engStat_showEngine _ (Nat.le_refl _) (Nat.lt_add_right c (by decide)) (by show 20 + c < 24; omega), State.fld,
    State.reg_vacated _ _ _ (.inl rfl)]
  exact hbit

theorem running_clusterFault : ((clusterFault s c cause).cluU c).running = none := by
  obtain ⟨l, hfault⟩ := clusterFault_eq s c cause hpresent hstate
  rw [hfault, State.cluU_congr ((State.showEngine_sameBut _).clu rfl), State.cluU_vacated, State.failed, State.cluU_setClu_self]

end

end Sys2Proof.Machine
end

section
/-!
PROOF. The clusters' self-tests, faults and re-placement; O28 settled.
-/
namespace Sys2Proof.Machine

theorem State.present_of_clInService {s : State} {c : Nat} (h : s.clInService c = true) : hasCl s.fac.variant c = true := by
  simp only [State.clInService, Bool.and_eq_true] at h
  exact h.1.1

/-! ### An access reaches a gated cluster (R321) -/

/-- MODE_STAT, and CL_STAT and CL_CYC of the four clusters. -/
def modeReg (r : Nat) : Prop := r = Reg.MODE_STAT ∨ clusterReg r

theorem not_modeReg {r : Nat} (hmode : r ≠ Reg.MODE_STAT) (h : r < 0x20100 ∨ 0x20500 ≤ r) : ¬modeReg r := by
  rintro (hr | hr)
  · exact hmode hr
  · exact h.elim (fun hlow => not_clusterReg_low hlow hr) (fun hhigh => not_clusterReg_high hhigh hr)

theorem not_modeReg_fpStat (n : Nat) : ¬modeReg (Reg.FP_STAT n) := by
  rintro (hr | hr)
  · unfold Reg.FP_STAT Reg.MODE_STAT at hr
    omega
  · exact not_clusterReg_fpStat n hr

theorem not_modeReg_eccRemap (n : Nat) : ¬modeReg (Reg.ECC_REMAP n) :=
  not_modeReg (by unfold Reg.ECC_REMAP Reg.MODE_STAT; omega) (.inr (by unfold Reg.ECC_REMAP; omega))

section
variable (s : State) {a : Nat}

theorem State.reg_openGate (g : Nat) (ha : modeReg a) : (s.openGate g).reg a = s.reg a :=
  State.reg_of_sparing (State.openGate_outside s g (by simp (disch := decide) [Parts.sparing, Parts.all, not_modeReg])) ha

theorem State.reg_gatesMoved (ha : modeReg a) : s.regate.gatePorts.reg a = s.reg a :=
  (State.reg_of_sparing (State.gatePorts_outside _
    (by simp (disch := decide) [Parts.sparing, Parts.all, not_modeReg, not_modeReg_fpStat])) ha).trans
  (State.reg_of_sparing (State.regate_outside s (by simp (disch := decide) [Parts.sparing, Parts.all, not_modeReg])) ha)

theorem State.reg_dramWoken (mode : Nat) (ha : modeReg a) : ((selfRefreshExit s).requestRates mode).reg a = s.reg a :=
  (State.reg_of_sparing (State.requestRates_outside _ mode ⟨rfl, rfl⟩) ha).trans
  (State.reg_of_sparing (selfRefreshExit_outside s
    (by simp (disch := decide) [Parts.sparing, Parts.all, Parts.emits, not_modeReg, not_modeReg_eccRemap])) ha)

end

/-- Cluster `c` has power again as the device leaves DEEP. -/
def State.clusterPowered (s : State) (c : Nat) : State :=
  if !hasCl s.fac.variant c || s.clState c == clFailed then s else
  let s := s.setFld (Reg.CL_STAT c) Fld.CL_STAT_STATE clIdle
  if s.flag Reg.ENG_CFG Fld.ENG_CFG_STEST_EN && decide (secTime 1 ≤ (s.time - (s.cluU c).tested).toNat) then s.dueTest c else s

/-- The F-PLL locks as the device leaves DEEP. -/
def State.pllLocked (s : State) (ps : Nat) : State := (s.enterPstate ps).raise Reg.CLK_STAT Fld.CLK_STAT_F_LOCK

theorem State.leaveDeep_eq (s : State) (ps : Nat) : s.leaveDeep ps =
    (selfRefreshExit ((List.range 4).foldl State.clusterPowered (s.pllLocked ps))).requestRates
      ((List.range 4).foldl State.clusterPowered (s.pllLocked ps)).curMode := by
  unfold State.leaveDeep State.pllLocked
  rfl

section
variable (s : State) (c : Nat)

theorem State.reg_clusterPowered (a : Nat) : (s.clusterPowered c).reg a = s.reg a ∨
    (s.clusterPowered c).reg a = (s.setFld (Reg.CL_STAT c) Fld.CL_STAT_STATE clIdle).reg a := by
  unfold State.clusterPowered
  dsimp only
  split
  · exact .inl rfl
  · split
    · exact .inr (State.reg_setClu _ c _ a)
    · exact .inr rfl

theorem State.curMode_clusterPowered : (s.clusterPowered c).curMode = s.curMode := by
  rcases s.reg_clusterPowered c Reg.MODE_STAT with h | h
  · exact State.fld_congr h _
  · exact State.fld_congr (h.trans (State.reg_setFld_other s (clStat_ne_low c (by decide)).symm _ _)) _

theorem State.clState_clusterPowered {j : Nat} (h : s.clState j ≠ clFailed) : (s.clusterPowered c).clState j ≠ clFailed := by
  rcases s.reg_clusterPowered c (Reg.CL_STAT j) with hr | hr
  · rwa [State.clState, State.fld_congr hr]
  · rw [State.clState, State.fld_congr hr]
    by_cases hj : Reg.CL_STAT j = Reg.CL_STAT c
    · rw [hj, State.fld_setFld_self _ _ ⟨by decide, by decide⟩]
      decide
    · rwa [State.fld_setFld_other _ hj]

theorem State.curMode_pllLocked (ps : Nat) : (s.pllLocked ps).curMode = s.curMode := by
  have hlock : Reg.MODE_STAT ≠ Reg.CLK_STAT := by decide
  rw [State.pllLocked, State.enterPstate, State.curMode, State.fld_congr (State.reg_raise_other _ hlock _),
    State.fld_congr (State.reg_gatesMoved _ (.inl rfl)), State.fld_setFld_apart _ _ ⟨by decide, by decide⟩ (by decide) (by decide),
    State.curMode]

theorem State.clState_pllLocked (ps : Nat) (hc : c < 4) : (s.pllLocked ps).clState c = s.clState c := by
  have hlock : Reg.CL_STAT c ≠ Reg.CLK_STAT := clStat_ne_low c (by decide)
  have hmode : Reg.CL_STAT c ≠ Reg.MODE_STAT := clStat_ne_low c (by decide)
  rw [State.pllLocked, State.enterPstate, State.clState, State.fld_congr (State.reg_raise_other _ hlock _),
    State.fld_congr (State.reg_gatesMoved _ (.inr (clusterReg_clStat hc))), State.fld_setFld_other _ hmode, State.clState]

theorem State.curMode_leaveDeep (ps : Nat) : (s.leaveDeep ps).curMode = s.curMode := by
  rw [State.leaveDeep_eq, State.curMode, State.fld_congr (State.reg_dramWoken _ _ (.inl rfl)), ← State.curMode,
    State.foldl_keeps (π := State.curMode) State.curMode_clusterPowered, State.curMode_pllLocked]

theorem State.clState_leaveDeep (ps : Nat) (hc : c < 4) (h : s.clState c ≠ clFailed) : (s.leaveDeep ps).clState c ≠ clFailed := by
  rw [← s.clState_pllLocked c ps hc] at h
  rw [State.leaveDeep_eq, State.clState, State.fld_congr (State.reg_dramWoken _ _ (.inr (clusterReg_clStat hc)))]
  exact List.foldlRecOn (motive := fun (u : State) => u.clState c ≠ clFailed) _ _ h fun u hu j _ =>
    State.clState_clusterPowered u j hu

theorem State.curMode_reach (g : Nat) : (s.reach g).curMode = s.curMode := by
  unfold State.reach
  split
  · rfl
  · split
    · rw [State.curMode, State.fld_congr (State.reg_openGate _ g (.inl rfl)), State.fld_congr (State.reg_count_other _ (by decide) _),
        ← State.curMode, State.curMode_leaveDeep]
    · exact State.fld_congr (s.reg_openGate g (.inl rfl)) _

theorem State.clState_reach (g : Nat) (hc : c < 4) (h : s.clState c ≠ clFailed) : (s.reach g).clState c ≠ clFailed := by
  have hreg := clusterReg_clStat hc
  unfold State.reach
  split
  · exact h
  · split
    · rw [State.clState, State.fld_congr (State.reg_openGate _ g (.inr hreg)),
        State.fld_congr (State.reg_count_other _ (clStat_ne_low c (by decide)) _)]
      exact s.clState_leaveDeep c 0 hc h
    · rwa [State.clState, State.fld_congr (s.reg_openGate g (.inr hreg))]

theorem State.fac_reach (g : Nat) : (s.reach g).fac = s.fac :=
  (State.sameBut_of_outside (State.reach_outside (P := Parts.all) s g (by simp [Parts.all, Parts.emits]))).fac

end

/-! ### Writes of CL_CTRL (R191) -/

section
variable {s : State} {c : Nat} (hpresent : hasCl s.fac.variant c = true) (hstate : s.clState c ≠ clFailed)
include hpresent hstate

theorem clCtrlTest_due : (clCtrlTest (s.reachIf (hasCl s.fac.variant c) (2 + c)) c).cluU c =
    { (s.reach (2 + c)).cluU c with testDue := true } := by
  have hstate' := s.clState_reach c (2 + c) (hasCl_lt hpresent) hstate
  rw [State.reachIf, if_pos hpresent, clCtrlTest, s.fac_reach, if_neg (by simp [hpresent]), if_pos (by simpa using hstate'),
    State.dueTest, State.cluU_setClu_self]

omit hstate in
theorem clCtrlOffline_due (hservice : s.inService = true) :
    clCtrlOffline (s.reachIf (hasCl s.fac.variant c) (2 + c)) c = clusterFault (s.reach (2 + c)) c 4 := by
  have hservice' : (s.reach (2 + c)).inService = true := by rwa [State.inService, s.curMode_reach]
  rw [State.reachIf, if_pos hpresent, clCtrlOffline, s.fac_reach, if_neg (by simp [hpresent]), if_pos hservice']

end

/-! ### Self-tests (R193) -/

section
variable {s : State} {c : Nat} {pass : Bool} (hserve : s.clInService c = true)
include hserve

theorem clusterSelfTest_begins (hidle : s.clState c = clIdle)
    (hdue : s.flag Reg.ENG_CFG Fld.ENG_CFG_STEST_EN = true ∨ (s.cluU c).testDue = true) : clusterSelfTest s c pass =
      (s.setFld (Reg.CL_STAT c) Fld.CL_STAT_STATE clTest).setClu c { s.cluU c with since := s.time } := by
  rw [clusterSelfTest, if_neg (by simp [hserve]), if_neg (by simp [hidle, clIdle, clTest]), if_neg (by
    rcases hdue with hen | hdue
    · simp [hidle, hen]
    · simp [hidle, hdue])]

omit hserve in
/-- A self-test has ended. -/
def State.clusterTested (s : State) (c : Nat) (pass : Bool) : State :=
  let s := (s.setClu c { s.cluU c with testDue := false, tested := s.time }).setFld (Reg.CL_STAT c) Fld.CL_STAT_STATE clIdle
  (s.raise (Reg.CL_STAT c) Fld.CL_STAT_ST_DONE).setFld (Reg.CL_STAT c) Fld.CL_STAT_ST_FAIL (bit (!pass))

theorem clusterSelfTest_ends (htest : s.clState c = clTest) (hlong : usTime 12 ≤ (s.time - (s.cluU c).since).toNat) :
    clusterSelfTest s c pass = if pass then s.clusterTested c pass else clusterFault (s.clusterTested c pass) c 1 := by
  rw [clusterSelfTest, if_neg (by simp [hserve]), if_pos (by simp [htest]), if_neg (Nat.not_lt.2 hlong)]
  rfl

end

section
variable (s : State) (c : Nat) (pass : Bool)

theorem State.clState_clusterTested : (s.clusterTested c pass).clState c = clIdle := by
  rw [State.clusterTested, State.clState, State.fld_setFld_apart _ _ ⟨by decide, by decide⟩ (by decide) (by decide), State.raise,
    State.fld_setFld_apart _ _ ⟨by decide, by decide⟩ (by decide) (by decide), State.fld_setFld_self _ _ ⟨by decide, by decide⟩]
  rfl

theorem State.testDone_clusterTested : (s.clusterTested c pass).flag (Reg.CL_STAT c) Fld.CL_STAT_ST_DONE = true := by
  rw [State.clusterTested, State.flag_setFld_apart _ ⟨by decide, by decide⟩ (by decide) (by decide)]
  exact State.flag_raise _ _ ⟨by decide, by decide⟩

theorem State.testFail_clusterTested : (s.clusterTested c pass).flag (Reg.CL_STAT c) Fld.CL_STAT_ST_FAIL = !pass := by
  rw [State.clusterTested, State.flag, State.fld_setFld_self _ _ ⟨by decide, by decide⟩]
  cases pass <;> rfl

theorem State.fac_clusterTested : (s.clusterTested c pass).fac = s.fac := by
  rw [State.clusterTested, State.setFld_fac, State.raise, State.setFld_fac, State.setFld_fac, State.setClu]

theorem State.cluU_clusterTested : (s.clusterTested c pass).cluU c = { s.cluU c with testDue := false, tested := s.time } := by
  rw [State.clusterTested, State.cluU_setFld, State.raise, State.cluU_setFld, State.cluU_setFld, State.cluU_setClu_self]

end

/-! ### Faults that are seen, and the end of a re-placement (R191, R192) -/

/-- A fault that is seen is a cluster's fault, in a state in which the cluster had not failed. -/
theorem clusterFaultSeen_eq {s : State} {c cause : Nat} (hpresent : hasCl s.fac.variant c = true) (hstate : s.clState c ≠ clFailed)
    (hseen : s.faultSeen c cause = true) :
    ∃ u : State, clusterFaultSeen s c cause = clusterFault u c cause ∧ hasCl u.fac.variant c = true ∧ u.clState c ≠ clFailed := by
  have hsram : ((s.freeNat 32).2.sramError 1 (s.freeNat 32).1 true).outside (Parts.sparing clusterReg) =
      s.outside (Parts.sparing clusterReg) :=
    (State.sramError_outside _ 1 _ true (by simp (disch := decide) [Parts.sparing, Parts.all, Parts.emits, not_clusterReg_low,
      not_clusterReg_high, not_clusterReg_eccSramCe])).trans (State.freeNat_outside s 32 rfl)
  have hreg := State.reg_of_sparing hsram (clusterReg_clStat (hasCl_lt hpresent))
  have hfac := (State.sameBut_of_outside hsram).fac
  rw [clusterFaultSeen, if_neg (by simp [hseen])]
  by_cases hword : cause = 2
  · rw [if_pos hword]
    exact ⟨_, rfl, by rwa [hfac], by rwa [State.clState, State.fld_congr hreg]⟩
  · rw [if_neg hword]
    exact ⟨s, rfl, hpresent, hstate⟩

theorem not_engReplT_low {r : Nat} (h : r < 0x20000) : ¬r = Reg.ENG_REPL_T := by
  unfold Reg.ENG_REPL_T
  omega

/-- Every part but ENG_REPL_T and the clusters, which settling lost invocations and showing the placements leave. -/
def Parts.resettled : Parts := { Parts.sparing (· = Reg.ENG_REPL_T) with clu := false }

theorem State.settleLost_resettled (s : State) (i : Nat) (d : NodeDef) (v : Inv) :
    (s.settleLost i d v).outside Parts.resettled = s.outside Parts.resettled :=
  State.settleLost_outside s i d v (by
    have hport : ∀ n, Reg.FP_STAT n ≠ Reg.ENG_REPL_T := fun n => by
      unfold Reg.FP_STAT Reg.ENG_REPL_T
      omega
    have hstage : Reg.STR_STAGE ≠ Reg.ENG_REPL_T := by decide
    have hstr : Reg.STR_STAT ≠ Reg.ENG_REPL_T := by decide
    simp (disch := decide) [Parts.resettled, Parts.sparing, Parts.all, Parts.emits, not_engReplT_low, hport, hstage, hstr])

theorem State.showEngine_resettled (s : State) : s.showEngine.outside Parts.resettled = s.outside Parts.resettled := by
  have hcl : ∀ k, 0x20100 ≤ k → ∀ n, k + 0x100 * n ≠ Reg.ENG_REPL_T := fun k hk n => by
    unfold Reg.ENG_REPL_T
    omega
  have hEng : Reg.ENG_STAT ≠ Reg.ENG_REPL_T := by decide
  exact State.showEngine_outside s ⟨hcl 0x20118 (by decide), hcl 0x2010C (by decide), hcl 0x20108 (by decide),
    hcl 0x2011C (by decide), hcl 0x20114 (by decide), hEng⟩

theorem clusterReplaced_leaves {s : State} {c duration : Nat} (hpresent : hasCl s.fac.variant c = true)
    (hreplacing : (s.cluU c).replacing = true) (hlo : 1000 ≤ duration) (hhi : duration ≤ 30000) :
    (clusterReplaced s c duration).reg Reg.ENG_REPL_T = BitVec.ofNat 32 duration ∧
      ((clusterReplaced s c duration).cluU c).replacing = false := by
  rw [clusterReplaced, if_neg (by simp [hpresent, hreplacing, hlo, hhi])]
  extract_lets moved reread _ idle told
  suffices hleft : ∀ t, told.SameBut Parts.resettled t →
      t.reg Reg.ENG_REPL_T = BitVec.ofNat 32 duration ∧ (t.cluU c).replacing = false by
    refine hleft _ (State.sameBut_of_outside ((State.showEngine_resettled _).trans (State.foldl_outside (fun u p => ?_) _ told)))
    split
    · rfl
    · exact State.foldl_outside (fun u v => u.settleLost_resettled p.2 p.1 v) _ u
  intro t same
  have hlost : Reg.ENG_REPL_T ≠ Reg.DEV_EV_LOST := by decide
  have hreg : told.reg Reg.ENG_REPL_T = BitVec.ofNat 32 duration :=
    (State.emit_reg _ _ _ _ hlost).trans (State.reg_setReg_self _ _ _)
  have hclu : told.cluU c = idle.cluU c := State.cluU_congr rfl c
  refine ⟨(same.reg _ (not_not.2 rfl)).trans hreg, ?_⟩
  rw [State.cluU_congr (same.clu rfl), hclu, State.cluU_setClu_self]

/-- Settles O28: each row's meaning has a frame, so it is the row's answer; the lemmas on self-tests, on a cluster's fault and on the end
of a re-placement say what it leaves. -/
theorem engineClusters : Obligations.EngineClusters := by
  have hselfTest : ∀ (s : State) (c : Nat) (pass : Bool), exec (.clusterSelfTest c pass) s = .next (clusterSelfTest s c pass) :=
    fun s c pass => State.effect_of_outside (P := Parts.all) (clusterSelfTest_outside s c pass (by simp [Parts.all, Parts.emits]))
  unfold Obligations.EngineClusters
  refine ⟨?due, ?begins, ?passes, ?fails, ?offline, ?fault, ?replaced⟩
  case due =>
    intro s c hboot hpresent hstate
    refine ⟨_, State.answer_open (P := Parts.all) hboot ((clCtrlTest_outside _ c (by simp [Parts.all])).trans
      (State.reachIf_outside s _ _ (by simp [Parts.all, Parts.emits]))), ?_⟩
    rw [clCtrlTest_due hpresent hstate]
  case begins =>
    intro s c pass hserve hidle hdue
    refine ⟨_, hselfTest s c pass, ?_⟩
    rw [clusterSelfTest_begins hserve hidle hdue, State.cluU_setClu_self, State.clState_setClu, State.clState_setFld]
    exact ⟨rfl, rfl⟩
  case passes =>
    intro s c hserve htest hlong
    refine ⟨_, hselfTest s c true, ?_⟩
    rw [clusterSelfTest_ends hserve htest hlong, if_pos rfl, State.cluU_clusterTested]
    exact ⟨s.clState_clusterTested c true, rfl, rfl, s.testDone_clusterTested c true, s.testFail_clusterTested c true⟩
  case fails =>
    intro s c hserve htest hlong
    have hpresent : hasCl (s.clusterTested c false).fac.variant c = true := by
      rw [s.fac_clusterTested]
      exact State.present_of_clInService hserve
    have hidle : (s.clusterTested c false).clState c ≠ clFailed := by
      rw [State.clState_clusterTested]
      decide
    refine ⟨_, hselfTest s c false, ?_⟩
    rw [clusterSelfTest_ends hserve htest hlong, if_neg (by decide)]
    exact ⟨clState_clusterFault 1 hpresent hidle, cause_clusterFault 1 hpresent hidle,
      (testFail_clusterFault 1 hpresent hidle).trans (s.testFail_clusterTested c false)⟩
  case offline =>
    intro s c hboot hpresent hstate hservice
    have hpresent' : hasCl (s.reach (2 + c)).fac.variant c = true := by rwa [s.fac_reach]
    have hstate' := s.clState_reach c (2 + c) (hasCl_lt hpresent) hstate
    refine ⟨_, State.answer_open (P := Parts.all) hboot ((clCtrlOffline_outside _ c (by simp [Parts.all, Parts.emits])).trans
      (State.reachIf_outside s _ _ (by simp [Parts.all, Parts.emits]))), ?_⟩
    rw [clCtrlOffline_due hpresent hservice]
    exact ⟨clState_clusterFault 4 hpresent' hstate', cause_clusterFault 4 hpresent' hstate'⟩
  case fault =>
    intro s c cause hpresent hstate hseen
    refine ⟨_, State.effect_of_outside (P := Parts.all) (clusterFaultSeen_outside s c cause (by simp [Parts.all, Parts.emits])), ?_⟩
    obtain ⟨u, hfault, hpresent, hstate⟩ := clusterFaultSeen_eq hpresent hstate hseen
    rw [hfault]
    exact ⟨clState_clusterFault cause hpresent hstate, cause_clusterFault cause hpresent hstate,
      engStat_clusterFault cause hpresent hstate, running_clusterFault cause hpresent hstate⟩
  case replaced =>
    intro s c duration hpresent hreplacing hlo hhi
    exact ⟨_, State.effect_of_outside (P := Parts.all) (clusterReplaced_outside s c duration (by simp [Parts.all, Parts.emits])),
      clusterReplaced_leaves hpresent hreplacing hlo hhi⟩

end Sys2Proof.Machine
end

section
/-!
PROOF. Invocations of nodes: their readiness, start, end and deadline, and PARAM_SET; O27 settled.
-/
namespace Sys2Proof.Machine

/-! ### PARAM_SET (R202) -/

section
variable (s : State) (src : CmdSrc) (tag node word : Nat) (mask value : Word)

/-- The word of a node's parameter record is in force from its next invocation on. -/
def State.paramChanged : State :=
  (s.setNode node { s.nodeU node with params := paramsWith (s.nodeU node).params word mask value, pchange := true }).showEngine

theorem paramSet_eq : paramSet s src tag node word mask value =
    (if (s.paramStatus node word mask value).status = stOk then s.paramChanged node word mask value else s).settle src opParamSet tag
      (s.paramStatus node word mask value) := rfl

theorem State.nodeU_paramChanged : (s.paramChanged node word mask value).nodeU node =
    { s.nodeU node with params := paramsWith (s.nodeU node).params word mask value, pchange := true } := by
  rw [State.paramChanged, State.nodeU_congr ((State.showEngine_sameBut _).nodes rfl), State.nodeU_setNode_self]

theorem State.host_paramChanged : (s.paramChanged node word mask value).host = s.host := by
  rw [State.paramChanged, (State.showEngine_sameBut _).host rfl, State.setNode]

theorem paramSet_accepted (hok : (s.paramStatus node word mask value).status = stOk) :
    (paramSet s src tag node word mask value).nodeU node =
      { s.nodeU node with params := paramsWith (s.nodeU node).params word mask value, pchange := true } := by
  rw [paramSet_eq, if_pos hok, State.nodeU_congr ((State.settle_sameBut _ _ _ _ _).nodes rfl), State.nodeU_paramChanged]

theorem paramSet_decided (htakes : s.takes opParamSet tag = true) : ∃ c,
    (paramSet s .ring tag node word mask value).decided opParamSet tag c ∧
      c.status = (s.paramStatus node word mask value).status ∧ c.detail = (s.paramStatus node word mask value).detail := by
  rw [paramSet_eq]
  refine ⟨_, State.decided_settle ?_ _, rfl, rfl⟩
  split
  · exact (State.takes_congr (by rw [State.host_paramChanged]) _ _).trans htakes
  · exact htakes

end

/-! ### Readiness (R180) -/

section
variable {s : State} {node : Nat} {d : NodeDef} {frames : List Frame} {x : NodeSt}

theorem State.toRun_nodes (s : State) : s.toRun.nodes = s.nodes :=
  (State.sameBut_of_outside (State.toRun_outside (P := { Parts.all with nodes := false }) s (by simp [Parts.all]))).nodes rfl

/-- The node that gets an invocation `v`, which PACER may then admit. -/
theorem nodeReady_node (hdef : s.nodeDef node = some d) (hready : (s.nodeU node).ready d = .yes frames x) :
    ∃ v g, v.num = x.nextNum ∧ v.ready = s.time ∧ v.frames = frames ∧ Inv.AdmitsOnly g ∧
      (nodeReady s node).nodeU node = { x with invs := (x.invs ++ [v]).map g, nextNum := x.nextNum + 1 } := by
  unfold nodeReady
  simp only [hdef, hready]
  obtain ⟨g, hg, hnode⟩ := State.pacerAdmit_admits (State.toRun (s.setNode node _)) node
  rw [State.nodeU_congr (State.toRun_nodes _), State.nodeU_setNode_self] at hnode
  exact ⟨_, g, rfl, rfl, rfl, hg, hnode⟩

theorem nodeReady_leaves (hdef : s.nodeDef node = some d) (hready : (s.nodeU node).ready d = .yes frames x) :
    ((nodeReady s node).nodeU node).nextNum = x.nextNum + 1 ∧
      ((nodeReady s node).nodeU node).invs.length = x.invs.length + 1 ∧
      ∃ v ∈ ((nodeReady s node).nodeU node).invs, v.num = x.nextNum ∧ v.ready = s.time ∧ v.frames = frames := by
  obtain ⟨v, g, hnum, htime, hframes, hg, hnode⟩ := nodeReady_node hdef hready
  rw [hnode]
  refine ⟨rfl, by rw [List.length_map, List.length_append, List.length_singleton],
    g v, List.mem_map_of_mem (List.mem_append_right _ (List.mem_singleton_self v)), ?_⟩
  rw [hg v]
  exact ⟨hnum, htime, hframes⟩

end

/-! ### The start of an invocation (R182) -/

/-- A cluster is BUSY with an invocation. -/
def State.BusyWith (s : State) (c i num : Nat) : Prop := (s.cluU c).running = some (i, num) ∧ s.clState c = clBusy

theorem State.busyWith_setClu (s : State) {c i num : Nat} {x : Cluster} (hx : x.running = some (i, num)) :
    ((s.setClu c x).setFld (Reg.CL_STAT c) Fld.CL_STAT_STATE clBusy).BusyWith c i num :=
  ⟨by rw [State.cluU_setFld, State.cluU_setClu_self, hx], State.clState_setFld _ c clBusy⟩

theorem State.BusyWith.borrow {s : State} {c i num : Nat} (h : s.BusyWith c i num) (hc : c < 4) (short : Nat) :
    (s.borrow short).BusyWith c i num := by
  obtain ⟨hrunning, hbusy⟩ := h
  exact ⟨by rw [State.cluU_congr ((s.borrow_sameBut short).clu rfl), hrunning],
    (State.fld_congr (s.reg_borrow short (clusterReg_clStat hc)) _).trans hbusy⟩

theorem invocationStart_busyWith {s : State} {c i : Nat} {d : NodeDef} {v : Inv} (hserve : s.clInService c = true)
    (hidle : s.clState c = clIdle) (hdue : (s.cluU c).testDue = false) (hoverdue : s.testOverdue c = false) (hrun : s.pstate = 0)
    (hemerg : s.flag Reg.PACER_STAT Fld.PACER_STAT_EMERG = false)
    (hfirst : firstBy runBefore (s.openInvs.filter (s.startable c)) = some (i, d, v)) :
    (invocationStart s c).BusyWith c i v.num := by
  have hpstate : s.fld Reg.MODE_STAT Fld.MODE_STAT_PSTATE = 0 := hrun
  rw [invocationStart, if_neg (by simp [hserve, hidle, hdue, hoverdue, hpstate, hemerg]), hfirst]
  dsimp -zeta only
  extract_lets x noted _ started busy
  have hbusy : busy.BusyWith c i v.num := noted.busyWith_setClu rfl
  split
  · exact hbusy.borrow (hasCl_lt (State.present_of_clInService hserve)) _
  · exact hbusy

/-! ### The end of an invocation (R183, R191) -/

theorem State.running_of_runningInv {s : State} {c i : Nat} {d : NodeDef} {v : Inv} (h : s.runningInv c = some (i, d, v)) :
    (s.cluU c).running.isNone = false := by
  cases hrun : (s.cluU c).running with
  | none => simp [State.runningInv, hrun] at h
  | some p => rfl

section
variable {s : State} {c i : Nat} {d : NodeDef} {v : Inv} (cycles : Nat) (differs : Option Nat)

/-- Cluster `c` is free of its invocation of node `i`, whose cycles are counted. -/
def State.clusterFreed (s : State) (c i : Nat) : State :=
  let s := (s.countBusy c cycles).setFld (Reg.CL_STAT c) Fld.CL_STAT_STATE clIdle
  s.setNode i { s.nodeU i with longest := max (s.nodeU i).longest cycles }

theorem State.running_countBusy (s : State) (c : Nat) : ((s.countBusy c cycles).cluU c).running = none := by
  rw [State.countBusy, State.cluU_setReg, State.cluU_setClu_self]

theorem State.clCyc_countBusy (s : State) (c : Nat) :
    (s.countBusy c cycles).reg (Reg.CL_CYC c) = s.reg (Reg.CL_CYC c) + BitVec.ofNat 32 cycles := by
  rw [State.countBusy, State.reg_setReg_self, State.reg_setClu]

theorem State.clusterFreed_leaves (s : State) (c i : Nat) : ((s.clusterFreed cycles c i).cluU c).running = none ∧
    (s.clusterFreed cycles c i).reg (Reg.CL_STAT c) = putField Fld.CL_STAT_STATE ((s.countBusy c cycles).reg (Reg.CL_STAT c)) clIdle ∧
    (s.clusterFreed cycles c i).reg (Reg.CL_CYC c) = s.reg (Reg.CL_CYC c) + BitVec.ofNat 32 cycles := by
  refine ⟨?_, ?_, ?_⟩
  · rw [State.clusterFreed, State.cluU_setNode, State.cluU_setFld, State.running_countBusy]
  · rw [State.clusterFreed, State.reg_setNode, State.reg_setFld_self]
  · rw [State.clusterFreed, State.reg_setNode, State.reg_setFld_other _ (clStat_ne_clCyc c).symm, State.clCyc_countBusy]

variable (hpresent : hasCl s.fac.variant c = true) (hrun : s.runningInv c = some (i, d, v))
include hpresent hrun

theorem invocationDone_ends (hwithin : cycles ≤ s.overrunAt v) :
    invocationDone s c cycles differs = (s.clusterFreed cycles c i).endInv i d v c differs := by
  rw [invocationDone, if_neg (by simp [hpresent, State.running_of_runningInv hrun])]
  simp only [hrun]
  rw [if_neg (Nat.not_lt.2 hwithin)]
  rfl

theorem invocationDone_overruns (hover : s.overrunAt v < cycles) : invocationDone s c cycles differs = clusterFault s c 3 := by
  rw [invocationDone, if_neg (by simp [hpresent, State.running_of_runningInv hrun])]
  simp only [hrun]
  rw [if_pos hover]

theorem invocationDone_leaves (hwithin : cycles ≤ s.overrunAt v) :
    ((invocationDone s c cycles differs).cluU c).running = none ∧ (invocationDone s c cycles differs).clState c = clIdle ∧
      (invocationDone s c cycles differs).reg (Reg.CL_CYC c) = s.reg (Reg.CL_CYC c) + BitVec.ofNat 32 cycles := by
  have hc := hasCl_lt hpresent
  obtain ⟨hfree, hstat, hcyc⟩ := s.clusterFreed_leaves cycles c i
  rw [invocationDone_ends cycles differs hpresent hrun hwithin, State.running_endInv, State.reg_endInv _ _ _ _ _ _ (clusterReg_clCyc hc),
    State.clState, State.fld, State.reg_endInv _ _ _ _ _ _ (clusterReg_clStat hc), hstat, getField_putField ⟨by decide, by decide⟩]
  exact ⟨hfree, rfl, hcyc⟩

end

/-! ### Deadlines (R194, R205) -/

section
variable {s : State} {node num : Nat} {d : NodeDef} {v : Inv}

/-- A placeholder leaves the count of those for want of energy. -/
theorem State.budget_placehold (s : State) (node : Nat) (d : NodeDef) (v : Inv) (reason : Nat) :
    (s.placehold node d v reason).fld Reg.PACER_DEFER Fld.PACER_DEFER_BUDGET_PH = s.fld Reg.PACER_DEFER Fld.PACER_DEFER_BUDGET_PH := by
  have hstage : Reg.STR_STAGE ≠ Reg.PACER_DEFER := by decide
  have hstr : Reg.STR_STAT ≠ Reg.PACER_DEFER := by decide
  have hsettled : ((s.markSkipped node d v reason).settleNode node d).outside (Parts.sparing (· = Reg.PACER_DEFER)) =
      s.outside (Parts.sparing (· = Reg.PACER_DEFER)) := by
    rw [State.settleNode_outside _ _ _ ⟨rfl, hstage, rfl, hstr, rfl⟩, State.markSkipped, State.updInv_outside _ _ _ _ rfl,
      State.workEnded_outside _ rfl, State.uncharge_outside _ _ _ rfl]
  rw [State.placehold_eq, State.showWaiting, State.fld_setFld_apart _ _ ⟨by decide, by decide⟩ (by decide) (by decide),
    State.fld_congr (State.reg_of_sparing hsettled rfl)]

variable (hdef : s.nodeDef node = some d)
  (hfind : (s.nodeU node).invs.find? (fun v => v.num == num && v.outs.isNone && v.skip.isNone) = some v)
  (hpast : v.deadline.toNat ≤ s.time.toNat)
include hdef hfind hpast

theorem invocationDeadline_eq : invocationDeadline s node num =
    if !hasClusters d (s.nodeU node) then s.placehold node d v 4
    else if s.flag Reg.PACER_STAT Fld.PACER_STAT_EMERG then s.placehold node d v 4
    else if !v.started.isEmpty then s
    else if d.cls ≤ 1 || v.admitted then s
    else if v.lost || v.again then s.placehold node d v 2
    else (s.placehold node d v 1).count Reg.PACER_DEFER Fld.PACER_DEFER_BUDGET_PH := by
  unfold invocationDeadline
  simp only [hdef, hfind]
  rw [if_neg (Nat.not_lt.2 hpast)]

omit hdef hpast in
theorem num_of_find : v.num = num := by
  have hv := List.find?_some hfind
  simp only [Bool.and_eq_true, beq_iff_eq] at hv
  exact hv.1.1

theorem invocationDeadline_closes (hwhy : hasClusters d (s.nodeU node) = false ∨
      s.flag Reg.PACER_STAT Fld.PACER_STAT_EMERG = true ∨ v.started = [] ∧ 2 ≤ d.cls ∧ v.admitted = false) :
    ¬((invocationDeadline s node num).nodeU node).hasOpen num := by
  have hclosed : ∀ reason, ¬((s.placehold node d v reason).nodeU node).hasOpen num := fun reason =>
    num_of_find hfind ▸ s.closed_placehold node d v reason
  rw [invocationDeadline_eq hdef hfind hpast]
  split
  · exact hclosed 4
  · next hclusters =>
    split
    · exact hclosed 4
    · next hemerg =>
      obtain ⟨hstarted, hcls, hadm⟩ : v.started = [] ∧ 2 ≤ d.cls ∧ v.admitted = false :=
        (hwhy.resolve_left (by simpa using hclusters)).resolve_left hemerg
      rw [if_neg (by simp [hstarted]), if_neg (by simp [hadm]; omega)]
      split
      · exact hclosed 2
      · rw [State.count, State.nodeU_congr (State.setFld_nodes _ _ _ _)]
        exact hclosed 1

theorem invocationDeadline_counts (hwhy : hasClusters d (s.nodeU node) = false ∨
      s.flag Reg.PACER_STAT Fld.PACER_STAT_EMERG = true ∨ v.started = [] ∧ 2 ≤ d.cls ∧ v.admitted = false)
    (hclusters : hasClusters d (s.nodeU node) = true) (hemerg : s.flag Reg.PACER_STAT Fld.PACER_STAT_EMERG = false)
    (hlost : v.lost = false) (hagain : v.again = false) :
    (invocationDeadline s node num).fld Reg.PACER_DEFER Fld.PACER_DEFER_BUDGET_PH =
      satInc (fieldWidth Fld.PACER_DEFER_BUDGET_PH) (s.fld Reg.PACER_DEFER Fld.PACER_DEFER_BUDGET_PH) := by
  obtain ⟨hstarted, hcls, hadm⟩ : v.started = [] ∧ 2 ≤ d.cls ∧ v.admitted = false := by
    simpa [hclusters, hemerg] using hwhy
  rw [invocationDeadline_eq hdef hfind hpast, if_neg (by simp [hclusters]), if_neg (by simp [hemerg]), if_neg (by simp [hstarted]),
    if_neg (by simp [hadm]; omega), if_neg (by simp [hlost, hagain]), State.fld_count_self _ _ ⟨by decide, by decide⟩,
    State.budget_placehold]

end

/-- Settles O27: each row's meaning has a frame, so it is the row's answer; the work that follows the end of an invocation or its
placeholder opens no invocation and leaves the clusters, so what the row itself does still stands. -/
theorem engineInvocations : Obligations.EngineInvocations := by
  have hparam : ∀ (s : State) (src : CmdSrc) (tag node word : Nat) (mask value : Word),
      exec (.paramSet src tag node word mask value) s = .next (paramSet s src tag node word mask value) :=
    fun s src tag node word mask value =>
    State.effect_of_outside (P := Parts.all) (paramSet_outside s src tag node word mask value (by simp [Parts.all]))
  have hdone : ∀ (s : State) (c cycles : Nat) (differs : Option Nat),
      exec (.invocationDone c cycles differs) s = .next (invocationDone s c cycles differs) := fun s c cycles differs =>
    State.effect_of_outside (P := Parts.all) (invocationDone_outside s c cycles differs (by simp [Parts.all, Parts.emits]))
  unfold Obligations.EngineInvocations
  refine ⟨?accepted, ?decided, ?ready, ?starts, ?ends, ?overruns, ?deadline⟩
  case accepted =>
    intro s src tag node word mask value hok
    refine ⟨_, hparam s src tag node word mask value, ?_⟩
    rw [paramSet_accepted s src tag node word mask value hok]
    exact ⟨rfl, rfl⟩
  case decided =>
    intro s tag node word mask value htakes
    exact ⟨_, hparam s .ring tag node word mask value, paramSet_decided s tag node word mask value htakes⟩
  case ready =>
    intro s node d frames x hdef hready
    exact ⟨_, State.effect_of_outside (P := Parts.all) (nodeReady_outside s node (by simp [Parts.all, Parts.emits])),
      nodeReady_leaves hdef hready⟩
  case starts =>
    intro s c i d v hserve hidle hdue hoverdue hrun hemerg hfirst
    exact ⟨_, State.effect_of_outside (P := Parts.all) (invocationStart_outside s c (by simp [Parts.all, Parts.emits])),
      invocationStart_busyWith hserve hidle hdue hoverdue hrun hemerg hfirst⟩
  case ends =>
    intro s c cycles i differs d v hpresent hrun hwithin
    obtain ⟨hfree, hidle, hcyc⟩ := invocationDone_leaves cycles differs hpresent hrun hwithin
    refine ⟨_, hdone s c cycles differs, hfree, hidle, hcyc, fun hcls => NodeSt.find_none_of_closed ?_⟩
    rw [invocationDone_ends cycles differs hpresent hrun hwithin]
    exact State.closed_endInv _ i d v c differs hcls
  case overruns =>
    intro s c cycles i differs d v hpresent hstate hrun hover
    refine ⟨_, hdone s c cycles differs, ?_⟩
    rw [invocationDone_overruns cycles differs hpresent hrun hover]
    exact ⟨clState_clusterFault 3 hpresent hstate, cause_clusterFault 3 hpresent hstate, running_clusterFault 3 hpresent hstate⟩
  case deadline =>
    intro s node num d v hdef hfind hpast hwhy
    exact ⟨_, State.effect_of_outside (P := Parts.all) (invocationDeadline_outside s node num (by simp [Parts.all])),
      NodeSt.find_none_of_closed (invocationDeadline_closes hdef hfind hpast hwhy), invocationDeadline_counts hdef hfind hpast hwhy⟩

end Sys2Proof.Machine
end

section
/-!
PROOF. Streams and host rings as units of their stores: what reads of them return after the updates of Machine/State.lean, and which
operations leave all of them.
-/
namespace Sys2Proof.Machine

/-! ### Packets that are sent -/

/-- The parts that the sending of packets and of requests may write. -/
def Parts.sent : Parts := { regs := fun r => r = Reg.FAB_DROP ∨ ∃ n, r = Reg.FP_UTIL n, out := true, fab := true, port := true }

section
variable (s : State)

theorem State.inject_sameBut (pk : Packet) : s.SameBut Parts.sent (s.inject pk) :=
  State.sameBut_of_outside (s.inject_outside pk (by simp [Parts.sent]))

theorem State.sendCells_sameBut (sid : Nat) (x : Stream) (t : Tx) : s.SameBut Parts.sent (s.sendCells sid x t) :=
  State.sameBut_of_outside (s.sendCells_outside sid x t (by simp [Parts.sent]))

theorem State.dropRequest_sameBut (tag dst : Nat) : s.SameBut Parts.sent (s.dropRequest tag dst) :=
  State.sameBut_of_outside (s.dropRequest_outside tag dst (by simp [Parts.sent]))

end

/-! ### Streams -/

/-- Every part but the streams. -/
def Parts.butStreams : Parts := { Parts.all with streams := false }

section
variable (s : State) (sid : Nat)

@[simp] theorem State.streamU_setStream_self (x : Stream) : (s.setStream sid x).streamU sid = x := Store.get_set_self _ _ _ _

theorem State.streamU_setStream (x : Stream) (j : Nat) : (s.setStream sid x).streamU j = if j = sid then x else s.streamU j :=
  Store.get_set _ _ _ _ _

theorem State.streamU_congr {s t : State} (h : t.streams = s.streams) (sid : Nat) : t.streamU sid = s.streamU sid := by
  rw [State.streamU, State.streamU, h]

theorem State.streams_of_outside {s t : State} (h : t.outside Parts.butStreams = s.outside Parts.butStreams) : t.streams = s.streams :=
  (State.sameBut_of_outside h).streams rfl

theorem State.streams_showStreams : s.showStreams.streams = s.streams :=
  State.streams_of_outside (s.showStreams_outside (by simp [Parts.butStreams, Parts.all]))

theorem State.streamU_emit (type u : Nat) (l : List Int) : (s.emit type u l).streamU sid = s.streamU sid := State.streamU_congr rfl sid

end

/-! ### Host rings -/

/-- Every part but the host rings. -/
def Parts.butRings : Parts := { Parts.all with rings := false }

section
variable (s : State) (r : Nat)

@[simp] theorem State.ringU_setRing_self (x : HostRing) : (s.setRing r x).ringU r = x := Store.get_set_self _ _ _ _

theorem State.ringU_congr {s t : State} (h : t.rings = s.rings) (r : Nat) : t.ringU r = s.ringU r := by
  rw [State.ringU, State.ringU, h]

theorem State.rings_of_outside {s t : State} (h : t.outside Parts.butRings = s.outside Parts.butRings) : t.rings = s.rings :=
  (State.sameBut_of_outside h).rings rfl

theorem State.rings_inject (pk : Packet) : (s.inject pk).rings = s.rings := (s.inject_sameBut pk).rings rfl

theorem State.rings_notify (v : Nat) (imm : Bool) : (s.notify v imm).rings = s.rings :=
  State.rings_of_outside (s.notify_outside v imm (by simp [Parts.butRings, Parts.all]))

theorem State.rings_dmaDone : s.dmaDone.rings = s.rings :=
  State.rings_of_outside (s.dmaDone_outside (by simp [Parts.butRings, Parts.all]))

/-- Taking cells of a ring counts them as used. -/
theorem State.ringU_takeCells (n : Nat) : (s.takeCells r n).ringU r = { s.ringU r with used := (s.ringU r).used + n } := by
  have hreg : ∀ v w, (((s.setFld (Reg.HR_HEAD r) Fld.HR_HEAD_HEAD v).setFld (Reg.HR_HEAD r) Fld.HR_HEAD_PHASE w).ringU r) = s.ringU r :=
    fun v w => State.ringU_congr ((State.setFld_rings _ _ _ _).trans (State.setFld_rings _ _ _ _)) r
  rw [State.takeCells, State.ringU_setRing_self, hreg]

/-- Noting which blocks wait for space changes nothing else of a ring. -/
theorem State.ringU_noteWaits : ∃ waits, (s.noteWaits r).ringU r = { s.ringU r with waits := waits } :=
  ⟨_, s.ringU_setRing_self r _⟩

/-- The completion of a block ends at most the ring's own stall. -/
theorem State.ringU_blockComplete (origin : Option Nat) (sid bseq : Nat) :
    (s.blockComplete r origin sid bseq).ringU r =
      if (s.ringU r).stalled = some (origin, sid, bseq) then { s.ringU r with stalled := none } else s.ringU r := by
  rw [State.blockComplete, State.ringU_congr (State.rings_notify _ _ _)]
  have hcount : (s.count (Reg.HR_BLOCKS r) Fld.HR_BLOCKS_BLOCKS).ringU r = s.ringU r := State.ringU_congr (State.setFld_rings _ _ _ _) r
  rw [hcount]
  split
  · exact State.ringU_setRing_self _ _ _
  · exact hcount

end

end Sys2Proof.Machine
end

section
/-!
PROOF. A STAGING placeholder takes two cells of staging, and STAGING_FULL asks for one; O32 refuted by it.
-/
namespace Sys2Proof.Machine

section
variable (s : State) (sid : Nat)

/-- Discarding leaves a stream with values discarded. -/
theorem State.skip_discard (n period : Nat) (t tEnd : Time) : ((s.discard sid n period t tEnd).streamU sid).skip ≠ none := by
  unfold State.discard
  dsimp only
  split
  · rw [State.streamU_setStream_self]
    exact Option.some_ne_none _
  · rw [State.streamU_congr (State.raise_streams _ _ _), State.streamU_setStream_self]
    exact Option.some_ne_none _

end

theorem Block.cells_of_isGap {b : Block} (h : b.isGap = true) : b.cells = 1 := by
  rw [Block.cells, if_pos h]

/-- The cells in staging of a stream that is no capture, as a sum over its blocks. -/
theorem Stream.staged_eq {x : Stream} (hst : x.st ≠ 3) :
    x.staged = ((x.opn.toList ++ x.closed).map (fun b => 1 + b.cells)).sum := by
  rw [Stream.staged, if_neg hst, List.sum_eq_foldl]

/-- Closing the block in progress moves it within staging. -/
theorem Stream.close_moves {x : Stream} (hst : x.st ≠ 3) :
    (x.close false).st = x.st ∧ (x.close false).opn = none ∧ (x.close false).closed = x.closed ++ x.opn.toList := by
  cases hopn : x.opn <;> simp [Stream.close, hopn, hst]

/-- A placeholder behind the blocks of a stream takes a header cell and a data cell of staging (R241). -/
theorem Stream.staged_append_gap {x : Stream} {b : Block} (hst : x.st ≠ 3) (hgap : b.isGap = true) :
    (x.append b).staged = x.staged + 2 := by
  obtain ⟨hst', hopn, hclosed⟩ := Stream.close_moves hst
  have hboth : (x.append b).st = x.st ∧ (x.append b).opn = none ∧ (x.append b).closed = x.closed ++ x.opn.toList ++ [b] := by
    simp [Stream.append, hgap, hst', hst, hopn, hclosed]
  obtain ⟨hst'', hopn', hclosed'⟩ := hboth
  rw [Stream.staged_eq hst, Stream.staged_eq (hst''.trans_ne hst), hopn', hclosed']
  simp [Block.cells_of_isGap hgap]
  omega

/-- A placeholder as it enters a stream: one that stands for values of SERVICE says so. -/
def State.gapMarked (s : State) (b : Block) : Block := { b with attr := if s.serviceIn b.t0 b.tEnd then b.attr ||| 8 else b.attr }

theorem State.streamGap_eq (s : State) (sid : Nat) (b : Block) : s.streamGap sid b =
    if s.fitsStage sid ((s.streamU sid).append (s.gapMarked b)) then
      (s.setStream sid ((s.streamU sid).append (s.gapMarked b))).showStage
    else s.discard sid b.count b.period b.t0 b.tEnd := rfl

theorem State.isGap_gapMarked (s : State) (b : Block) : (s.gapMarked b).isGap = b.isGap := rfl

/-- A run of discarded values has ended. -/
def State.skipEnded (s : State) (sid : Nat) : State := s.setStream sid { s.streamU sid with skip := none }

/-- STAGING_FULL puts a placeholder into its stream, in which no run goes on, and tells it (R245). -/
theorem stagingFull_placeholder {s : State} {sid : Nat} {g : Gone} (hskip : (s.streamU sid).skip = some g) (hone : s.stageRoom 1 = true) :
    ∃ b : Block, b.isGap = true ∧ stagingFull s sid = ((s.skipEnded sid).streamGap sid b).emit 0x0361 0 [sid, g.count] := by
  have hflags : bitAt (bGap + bLast) 0 = true ∧ bitAt bGap 0 = true := by decide
  simp only [stagingFull, hskip, hone, Bool.not_true, Bool.false_eq_true, if_false]
  exact ⟨_, by split; exacts [hflags.1, hflags.2], rfl⟩

/-- With room for one cell but not for two, the placeholder finds none: its values are discarded anew. -/
theorem stagingFull_discards_anew {s : State} {sid : Nat} {g : Gone} (hskip : (s.streamU sid).skip = some g)
    (hst : (s.streamU sid).st ≠ 3) (hone : s.stageRoom 1 = true) (htwo : (s.skipEnded sid).stageRoom 2 = false) :
    ((stagingFull s sid).streamU sid).skip ≠ none := by
  have hself : (s.skipEnded sid).streamU sid = { s.streamU sid with skip := none } := s.streamU_setStream_self sid _
  have hunfit : ∀ b : Block, b.isGap = true →
      (s.skipEnded sid).fitsStage sid (((s.skipEnded sid).streamU sid).append b) = false := fun b hgap => by
    rw [State.fitsStage, Stream.staged_append_gap (by rwa [hself]) hgap, Nat.add_sub_cancel_left, htwo, Bool.and_false]
  obtain ⟨b, hgap, heq⟩ := stagingFull_placeholder hskip hone
  rw [heq, State.streamU_emit, State.streamGap_eq, hunfit _ (by rwa [State.isGap_gapMarked])]
  exact State.skip_discard _ sid _ _ _ _

/-- A device in VIGIL whose recording region holds 32 cells, 31 of them in use by a block of 360 values that waits for the flush burst;
the stream has discarded a value. -/
def oneCellLeft : State :=
  { State.reset.setFld Reg.MODE_STAT Fld.MODE_STAT_CUR modeVigil with
    bootu := { vigilKib := 1 }
    streams := [(0, { st := 1, segs := 1, ageMs := 1, closed := [{ t0 := 0, tEnd := 0, count := 360, vals := List.replicate 360 0 }],
                      skip := some { count := 1, t0 := 0, tEnd := 0 } })] }

/-- Refutes O32: a STAGING placeholder takes two cells of staging, and STAGING_FULL asks for room for one. With room for just one cell the
placeholder is discarded in its turn, and the run goes on. -/
theorem not_streamBlocks : ¬ Obligations.StreamBlocks := by
  unfold Obligations.StreamBlocks
  rintro ⟨-, -, hstaging, -⟩
  have hone : oneCellLeft.stageRoom 1 = true := by decide +kernel
  have htwo : (oneCellLeft.skipEnded 0).stageRoom 2 = false := by decide +kernel
  obtain ⟨t, ht, hended⟩ := hstaging oneCellLeft 0 _ rfl hone
  have hanswer : exec (.stagingFull 0) oneCellLeft = .next (stagingFull oneCellLeft 0) :=
    State.effect_of_outside (P := Parts.all) (stagingFull_outside oneCellLeft 0 (by simp [Parts.all, Parts.emits]))
  rw [hanswer, Host.Outcome.next.injEq] at ht
  subst ht
  exact stagingFull_discards_anew rfl (by decide) hone htwo hended

end Sys2Proof.Machine
end

section
/-!
PROOF. Requests for cells of a host ring, their grants and the cells that come for them: what the ring holds then.
-/
namespace Sys2Proof.Machine

/-! ### Grants -/

/-- A request as the ring grants it, with the place of its cells. -/
def State.grantedReq (s : State) (r : Nat) (q : RingReq) : RingReq :=
  { q with granted := true, at_ := s.fld (Reg.HR_HEAD r) Fld.HR_HEAD_HEAD, phase := s.flag (Reg.HR_HEAD r) Fld.HR_HEAD_PHASE }

/-- A request of a ring is granted: its cells are taken from HR_HEAD on, and its origin is told (R252). -/
def State.grantTo (s : State) (r : Nat) (q : RingReq) : State :=
  let s := s.setRing r { s.ringU r with reqs := (s.ringU r).reqs.map (fun e => if e = q then s.grantedReq r q else e) }
  (s.takeCells r q.cells).inject
    { ptype := ptStreamGrant, dst := q.origin, src := s.ownAddr, tspec := streamTs r q.sid (q.cells - 2) q.bseq }

/-- What every grant keeps, granting the requests of a ring keeps. -/
theorem State.grantRing_keeps {I : State → Prop} {r : Nat} (hstep : ∀ s q, I s → I (s.grantTo r q)) (fuel : Nat) {s : State}
    (h : I s) : I (s.grantRing r fuel) := by
  induction fuel generalizing s with
  | zero => exact h
  | succ fuel ih =>
    unfold State.grantRing
    dsimp only
    split
    · exact h
    · split
      · exact h
      · exact ih (hstep s _ h)

theorem State.reqs_grantTo (s : State) (r : Nat) (q : RingReq) :
    ((s.grantTo r q).ringU r).reqs = (s.ringU r).reqs.map (fun e => if e = q then s.grantedReq r q else e) := by
  rw [State.grantTo, State.ringU_congr (State.rings_inject _ _), State.ringU_takeCells, State.ringU_setRing_self]

/-! ### Requests -/

/-- A request for the cells that a packet asks for waits in a ring, or is granted there. -/
def HostRing.Asked (x : HostRing) (pk : Packet) : Prop :=
  ∃ q ∈ x.reqs, q.origin = pk.src ∧ q.sid = pk.sid ∧ q.bseq = pk.bseq ∧ q.cells = pk.cidx + 2

theorem State.asked_grantTo {s : State} {r : Nat} {pk : Packet} (q : RingReq) (h : (s.ringU r).Asked pk) :
    ((s.grantTo r q).ringU r).Asked pk := by
  obtain ⟨e, he, hkey⟩ := h
  refine ⟨if e = q then s.grantedReq r q else e, (s.reqs_grantTo r q).symm ▸ List.mem_map_of_mem he, ?_⟩
  split
  case isTrue heq => exact heq ▸ hkey
  case isFalse => exact hkey

/-- The request of a packet as it joins those of a ring at its end (R252). -/
def RingReq.ofPacket (pk : Packet) (now : Time) : RingReq :=
  { origin := pk.src, sid := pk.sid, bseq := pk.bseq, cells := pk.cidx + 2, since := now }

/-- A ring with a new request: it takes the place of one of another size for the same block, and its SID's numbers begin anew where the
block is the one completed last. -/
def HostRing.withRequest (x : HostRing) (pk : Packet) (now : Time) : HostRing :=
  { x with
    reqs := x.reqs.filter (fun q => !(q.origin == pk.src && q.sid == pk.sid && q.bseq == pk.bseq)) ++ [.ofPacket pk now]
    last := if x.completed pk then x.last.filter (fun e => !(e.origin == pk.src && e.sid == pk.sid)) else x.last }

theorem HostRing.asked_withRequest (x : HostRing) (pk : Packet) (now : Time) : (x.withRequest pk now).Asked pk :=
  ⟨.ofPacket pk now, by simp [HostRing.withRequest], rfl, rfl, rfl, rfl⟩

/-- A new request joins those of its ring; what the ring has room for is granted. -/
theorem streamReqRx_new {s : State} {pk : Packet} (hhost : hasHost s.fac.variant = true) (hrep : s.repeats (s.ringU pk.ring) pk = false)
    (hnew : (s.ringU pk.ring).reqs.find?
      (fun q => q.origin == pk.src && q.sid == pk.sid && q.bseq == pk.bseq && q.cells == pk.cidx + 2) = none) :
    streamReqRx s pk = ((s.setRing pk.ring ((s.ringU pk.ring).withRequest pk s.time)).grantRing pk.ring
      ((s.ringU pk.ring).withRequest pk s.time).reqs.length).noteWaits pk.ring := by
  simp only [streamReqRx, hhost, hrep, hnew]
  rfl

theorem streamReqRx_asked {s : State} {pk : Packet} (hhost : hasHost s.fac.variant = true) (hrep : s.repeats (s.ringU pk.ring) pk = false)
    (hnew : (s.ringU pk.ring).reqs.find?
      (fun q => q.origin == pk.src && q.sid == pk.sid && q.bseq == pk.bseq && q.cells == pk.cidx + 2) = none) :
    ((streamReqRx s pk).ringU pk.ring).Asked pk := by
  have hjoined : ((s.setRing pk.ring ((s.ringU pk.ring).withRequest pk s.time)).ringU pk.ring).Asked pk := by
    rw [State.ringU_setRing_self]
    exact HostRing.asked_withRequest _ pk s.time
  obtain ⟨waits, hwaits⟩ := State.ringU_noteWaits ((s.setRing pk.ring ((s.ringU pk.ring).withRequest pk s.time)).grantRing pk.ring
    ((s.ringU pk.ring).withRequest pk s.time).reqs.length) pk.ring
  rw [streamReqRx_new hhost hrep hnew, hwaits]
  exact State.grantRing_keeps (I := fun u => (u.ringU pk.ring).Asked pk) (fun _ q => State.asked_grantTo q) _ hjoined

/-! ### Cells that have come -/

/-- The cells of a granted block that have come once `n` more have, from the one of index `first` on. -/
def RingReq.gotWith (q : RingReq) (first n : Nat) : List Nat := (q.got ++ (List.range n).map (first + ·)).dedup

theorem RingReq.mem_gotWith {q : RingReq} {first n k : Nat} :
    k ∈ q.gotWith first n ↔ k ∈ q.got ∨ first ≤ k ∧ k < first + n := by
  simp only [RingReq.gotWith, List.mem_dedup, List.mem_append, List.mem_map, List.mem_range]
  refine or_congr_right ⟨?_, fun h => ⟨k - first, by omega, by omega⟩⟩
  rintro ⟨i, hi, rfl⟩
  omega

/-- Whether a granted block is complete once `n` more cells have come. -/
def RingReq.wholeWith (q : RingReq) (first n : Nat) : Bool := (List.range q.cells).all (fun i => (q.gotWith first n).contains i)

theorem RingReq.wholeWith_iff {q : RingReq} {first n : Nat} :
    q.wholeWith first n = true ↔ ∀ k, k < q.cells → k ∈ q.got ∨ first ≤ k ∧ k < first + n := by
  simp [RingReq.wholeWith, RingReq.mem_gotWith]

/-- The places in a block of cells that come in order. -/
theorem places_of_cells (first : Nat) (cells : List (Nat × Bool)) :
    (cells.zipIdx.map (fun c => (first + c.2, c.1.1, c.1.2))).map (·.1) = (List.range cells.length).map (first + ·) := by
  rw [List.map_map, List.range_eq_range', ← List.zipIdx_map_snd, List.map_map]
  rfl

section
variable (s : State) (r : Nat) (q : RingReq) (first : Nat) (cells : List (Nat × Bool))

/-- Cells that leave a granted block incomplete are kept with it. -/
theorem State.reqs_putCells (h : q.wholeWith first cells.length = false) : ∃ (hdr : Option Nat) (po : List Nat),
    ((s.putCells r q first cells).ringU r).reqs = (s.ringU r).reqs.map
      (fun e => if e = q then { q with got := q.gotWith first cells.length, hdr := hdr, po := po } else e) := by
  rw [RingReq.wholeWith, RingReq.gotWith, ← places_of_cells] at h
  rw [RingReq.gotWith, ← places_of_cells]
  unfold State.putCells
  simp only [h]
  exact ⟨_, _, congrArg HostRing.reqs (State.ringU_setRing_self _ r _)⟩

/-- Cells that complete a granted block make it the last one of its origin and SID that is complete. -/
theorem State.last_putCells (h : q.wholeWith first cells.length = true) : ∃ (again : Option Time) (l : List RingDone),
    ((s.putCells r q first cells).ringU r).last = { origin := q.origin, sid := q.sid, bseq := q.bseq, again := again } :: l := by
  rw [RingReq.wholeWith, RingReq.gotWith, ← places_of_cells] at h
  have hdone : ∀ (u : State) (x : HostRing), ((((u.setRing r x).blockComplete r (some q.origin) q.sid q.bseq).ackRemote r q.origin q.sid
      q.bseq).dmaDone.ringU r).last = x.last := fun u x => by
    rw [State.ringU_congr (State.rings_dmaDone _), State.ackRemote, State.ringU_congr (State.rings_inject _ _), State.ringU_blockComplete,
      State.ringU_setRing_self]
    split <;> rfl
  unfold State.putCells
  simp only [h]
  exact ⟨_, _, hdone _ _⟩

end

theorem HostRing.completed_of_last {x : HostRing} {pk : Packet} {e : RingDone} {l : List RingDone} (h : x.last = e :: l)
    (horigin : e.origin = pk.src) (hsid : e.sid = pk.sid) (hbseq : e.bseq = pk.bseq) : x.completed pk = true := by
  simp [HostRing.completed, HostRing.lastOf, h, horigin, hsid, hbseq]

section
variable {s : State} {pk : Packet} {q : RingReq} (hup : s.hostUp = true) (hgranted : (s.ringU pk.ring).reqs.find?
  (fun z => z.origin == pk.src && z.sid == pk.sid && z.bseq == pk.bseq && z.granted) = some q)
include hup hgranted

/-- The cells of a granted block are put into the places reserved for them. -/
theorem streamDataRx_granted : ∃ cells : List (Nat × Bool), cells.length = pk.payload.length ∧
    streamDataRx s pk = s.putCells pk.ring q pk.cidx cells := by
  refine ⟨_, ?_, by simp only [streamDataRx, hup, hgranted]; rfl⟩
  simp

omit hup in
theorem granted_key : q ∈ (s.ringU pk.ring).reqs ∧ q.origin = pk.src ∧ q.sid = pk.sid ∧ q.bseq = pk.bseq := by
  have hkey := List.find?_some hgranted
  simp only [Bool.and_eq_true, beq_iff_eq] at hkey
  obtain ⟨⟨⟨horigin, hsid⟩, hbseq⟩, -⟩ := hkey
  exact ⟨List.mem_of_find?_eq_some hgranted, horigin, hsid, hbseq⟩

theorem streamDataRx_completes (hwhole : q.wholeWith pk.cidx pk.payload.length = true) :
    ((streamDataRx s pk).ringU pk.ring).completed pk = true := by
  obtain ⟨cells, hlen, heq⟩ := streamDataRx_granted hup hgranted
  obtain ⟨-, horigin, hsid, hbseq⟩ := granted_key hgranted
  obtain ⟨again, l, hlast⟩ := s.last_putCells pk.ring q pk.cidx cells (by rwa [hlen])
  rw [heq]
  exact HostRing.completed_of_last hlast horigin hsid hbseq

theorem streamDataRx_kept (hpart : q.wholeWith pk.cidx pk.payload.length = false) :
    ∃ e ∈ ((streamDataRx s pk).ringU pk.ring).reqs, e.origin = pk.src ∧ e.sid = pk.sid ∧ e.bseq = pk.bseq ∧
      ∀ k, k < pk.payload.length → pk.cidx + k ∈ e.got := by
  obtain ⟨cells, hlen, heq⟩ := streamDataRx_granted hup hgranted
  obtain ⟨hmem, horigin, hsid, hbseq⟩ := granted_key hgranted
  obtain ⟨hdr, po, hreqs⟩ := s.reqs_putCells pk.ring q pk.cidx cells (by rwa [hlen])
  rw [heq, hreqs]
  refine ⟨_, List.mem_map_of_mem hmem, ?_⟩
  rw [if_pos rfl]
  exact ⟨horigin, hsid, hbseq, fun k hk => RingReq.mem_gotWith.2 (.inr (by omega))⟩

end

end Sys2Proof.Machine
end

section
/-!
PROOF. What a stream sends of its blocks: grants, acknowledgments and what is sent again; O30 settled.
-/
namespace Sys2Proof.Machine

/-! ### Nothing more is sent on a stream -/

/-- On a stream on which `s` sends nothing, `t` sends nothing. -/
def State.Idles (s t : State) : Prop := ∀ sid, (s.streamU sid).tx = none → (t.streamU sid).tx = none

section
variable {s t u : State}

theorem State.Idles.refl (s : State) : s.Idles s := fun _ h => h

theorem State.Idles.trans (h : s.Idles t) (k : t.Idles u) : s.Idles u := fun sid hsid => k sid (h sid hsid)

theorem State.Idles.foldl {α : Type} {f : State → α → State} (h : ∀ (s : State) (x : α), s.Idles (f s x)) (l : List α)
    (s : State) : s.Idles (l.foldl f s) := by
  induction l generalizing s with
  | nil => exact .refl s
  | cons x l ih => exact (h s x).trans (ih _)

theorem State.Idles.of_streams (h : t.streams = s.streams) : s.Idles t := fun sid hsid => by rwa [State.streamU_congr h]

theorem State.Idles.setStream {sid : Nat} {x : Stream} (h : (s.streamU sid).tx = none → x.tx = none) : s.Idles (s.setStream sid x) := by
  intro j hj
  rw [State.streamU_setStream]
  split
  case isTrue heq => exact h (heq ▸ hj)
  case isFalse => exact hj

end

theorem Stream.tx_close (x : Stream) (last : Bool) : (x.close last).tx = x.tx := by
  unfold Stream.close
  dsimp only
  split
  · split
    · repeat' split
      all_goals rfl
    · rfl
  · split <;> rfl

section
variable (s : State) (c : Nat)

theorem State.finishCapture_idles : s.Idles (s.finishCapture c) := by
  unfold State.finishCapture
  dsimp only
  split
  · split
    · exact .refl s
    · exact .setStream fun h => (Stream.tx_close _ true).trans h
  · exact .refl s

theorem State.settleKept_idles : s.Idles (s.settleKept c) := by
  unfold State.settleKept
  refine .foldl (fun u e => ?_) _ s
  dsimp only
  split
  · exact .setStream id
  · split
    · exact .refl u
    · exact .setStream id

theorem State.showStreams_idles : s.Idles s.showStreams := .of_streams s.streams_showStreams

theorem captureDone_idles : s.Idles (captureDone s c) := by
  unfold captureDone
  split
  case h_1 => exact .refl s
  case h_2 k _ =>
    dsimp only
    split
    · exact s.showStreams_idles
    · refine .trans (.foldl (fun u g => ?_) _ s) (State.showStreams_idles _)
      split
      case h_1 q _ =>
        have hdone : u.Idles (u.emitDone g q) := .of_streams rfl
        exact (hdone.trans (.setStream fun _ => rfl)).trans (State.settleKept_idles _ q.source)
      case h_2 => exact .refl u

theorem State.freeStream_idles : s.Idles (s.freeStream c) := by
  unfold State.freeStream
  dsimp only
  refine State.Idles.trans (.trans (.trans (.foldl (fun u g => ?_) _ s) (.setStream fun _ => rfl)) (.foldl captureDone_idles _ _))
    (State.showStreams_idles _)
  split
  · exact (u.finishCapture_idles g).trans (.setStream id)
  · exact u.finishCapture_idles g

theorem State.closeIfDrained_idles : s.Idles (s.closeIfDrained c) := by
  unfold State.closeIfDrained
  dsimp only
  split
  · exact s.freeStream_idles c
  · exact s.showStreams_idles

end

/-! ### Acknowledgments and grants -/

/-- The acknowledgment of the block being sent ends its transfer (R252). -/
theorem State.tx_ackBlock {s : State} {sid bseq : Nat} {t : Tx} (htx : (s.streamU sid).tx = some t) (hbseq : t.blk.bseq = bseq) :
    ((s.ackBlock sid bseq).streamU sid).tx = none := by
  have hset : ∀ x : Stream, x.tx = none → ((s.setStream sid x).streamU sid).tx = none := fun x hx => by
    rwa [State.streamU_setStream_self]
  unfold State.ackBlock
  simp only [htx, hbseq, ne_eq, not_true_eq_false, if_false]
  split
  · exact ((State.settleKept_idles _ _).trans (captureDone_idles _ sid)) sid (hset _ (by split <;> rfl))
  · exact State.closeIfDrained_idles _ sid sid (hset _ (by split <;> rfl))

theorem streamAckRx_ends {s : State} {pk : Packet} {x : Tx} (hdest : (s.streamU pk.sid).dest = 2) (hdev : (s.streamU pk.sid).dev = pk.src)
    (htx : (s.streamU pk.sid).tx = some x) (hbseq : x.blk.bseq = pk.bseq) : ((streamAckRx s pk).streamU pk.sid).tx = none := by
  simp only [streamAckRx, hdest, hdev, htx, Option.isSome_some, decide_true, Bool.and_self, if_true]
  exact State.tx_ackBlock (by rwa [State.streamU_congr ((s.dropRequest_sameBut _ _).streams rfl)]) hbseq

theorem streamGrantRx_sends {s : State} {pk : Packet} {x : Tx} (htx : (s.streamU pk.sid).tx = some x) (hphase : x.phase = .asked)
    (hbseq : x.blk.bseq = pk.bseq) (hdev : (s.streamU pk.sid).dev = pk.src) (hdest : (s.streamU pk.sid).dest = 2) :
    ((streamGrantRx s pk).streamU pk.sid).tx = some { x with phase := .sent, since := s.time } := by
  have htime : (s.dropRequest (1024 + pk.sid) pk.src).time = s.time := (s.dropRequest_sameBut _ _).time rfl
  simp only [streamGrantRx, htx, hphase, hbseq, hdev, hdest, decide_true, Bool.and_self, if_true, htime]
  rw [State.streamU_congr ((State.sendCells_sameBut _ _ _ _).streams rfl), State.streamU_setStream_self]

theorem streamResend_sends {s : State} {sid : Nat} {x : Tx} (htx : (s.streamU sid).tx = some x) (hdue : s.resendDue x = true)
    (hdest : (s.streamU sid).dest = 2) :
    ((streamResend s sid).streamU sid).tx = some { x with since := s.time, rerouted := false, linkLost := none } := by
  simp only [streamResend, htx, hdue, hdest, BEq.rfl, Bool.and_self, if_true]
  rw [State.streamU_congr ((State.sendCells_sameBut _ _ _ _).streams rfl), State.streamU_setStream_self]

/-- The acknowledgment of an EVENT ends what waits for it, and at most marks since when its fault is told (R255). -/
theorem unacked_eventAckRx (s : State) (origin tag : Nat) :
    (eventAckRx s origin tag).host.unacked = s.host.unacked.filter (fun p => p.1 != tag) := by
  rw [eventAckRx, (State.dropRequest_sameBut _ tag origin).host rfl]
  unfold State.toldFault
  split <;> rfl

/-- Settles O30: each row's meaning has a frame, so it is the row's answer, and the lemmas on requests, grants, cells and
acknowledgments say what it leaves. -/
theorem streamPackets : Obligations.StreamPackets := by
  have hdata : ∀ (s : State) (pk : Packet), exec (.streamDataRx pk) s = .next (streamDataRx s pk) := fun s pk =>
    State.effect_of_outside (P := Parts.all) (streamDataRx_outside s pk (by simp [Parts.all]))
  unfold Obligations.StreamPackets
  refine ⟨?request, ?grant, ?whole, ?part, ?ack, ?resend, ?event⟩
  case request =>
    intro s pk hhost hrep hnew
    exact ⟨_, State.effect_of_outside (P := Parts.all) (streamReqRx_outside s pk (by simp [Parts.all])),
      streamReqRx_asked hhost hrep hnew⟩
  case grant =>
    intro s pk x htx hphase hbseq hdev hdest
    exact ⟨_, State.effect_of_outside (P := Parts.all) (streamGrantRx_outside s pk (by simp [Parts.all])),
      streamGrantRx_sends htx hphase hbseq hdev hdest⟩
  case whole =>
    intro s pk q hup hgranted hwhole
    exact ⟨_, hdata s pk, streamDataRx_completes hup hgranted (RingReq.wholeWith_iff.2 hwhole)⟩
  case part =>
    intro s pk q hup hgranted hpart
    exact ⟨_, hdata s pk, streamDataRx_kept hup hgranted (Bool.eq_false_iff.2 fun h => hpart (RingReq.wholeWith_iff.1 h))⟩
  case ack =>
    intro s pk x hdest hdev htx hbseq
    exact ⟨_, State.effect_of_outside (P := Parts.all) (streamAckRx_outside s pk (by simp [Parts.all, Parts.emits])),
      streamAckRx_ends hdest hdev htx hbseq⟩
  case resend =>
    intro s sid x htx hdue hdest
    exact ⟨_, State.effect_of_outside (P := Parts.all) (streamResend_outside s sid (by simp [Parts.all])),
      streamResend_sends htx hdue hdest⟩
  case event =>
    intro s origin tag
    exact ⟨_, State.effect_of_outside (P := Parts.all) (eventAckRx_outside s origin tag (by simp [Parts.all])),
      unacked_eventAckRx s origin tag⟩

end Sys2Proof.Machine
end

section
/-!
PROOF. The registers of the host rings: what an access that reaches the host interface, a grant and a block's completion leave of them.
-/
namespace Sys2Proof.Machine

/-! ### Registers of host rings that no other unit writes -/

/-- HR_CFG, HR_TAIL, HR_STAT and HR_BLOCKS lie in the host rings' blocks of 32 bytes, at none of the offsets that other units' numbers and
HR_HEAD take. -/
def ringReg (a : Nat) : Prop := 0x30400 ≤ a ∧ a < 0x30800 ∧ a % 32 ≠ 4 ∧ a % 32 ≠ 12

theorem ringReg_hrCfg {r : Nat} (h : r < 32) : ringReg (Reg.HR_CFG r) := by
  unfold ringReg Reg.HR_CFG
  omega

theorem ringReg_hrTail {r : Nat} (h : r < 32) : ringReg (Reg.HR_TAIL r) := by
  unfold ringReg Reg.HR_TAIL
  omega

theorem ringReg_hrStat {r : Nat} (h : r < 32) : ringReg (Reg.HR_STAT r) := by
  unfold ringReg Reg.HR_STAT
  omega

theorem ringReg_hrBlocks {r : Nat} (h : r < 32) : ringReg (Reg.HR_BLOCKS r) := by
  unfold ringReg Reg.HR_BLOCKS
  omega

theorem not_ringReg_low {a : Nat} (h : a < 0x30400) : ¬ringReg a := fun ha => Nat.not_le.2 h ha.1

theorem not_ringReg_high {a : Nat} (h : 0x30800 ≤ a) : ¬ringReg a := fun ha => Nat.not_le.2 ha.2.1 h

theorem not_ringReg_fpStat (n : Nat) : ¬ringReg (Reg.FP_STAT n) := by
  unfold ringReg Reg.FP_STAT
  omega

theorem not_ringReg_fpUtil (n : Nat) : ¬ringReg (Reg.FP_UTIL n) := by
  unfold ringReg Reg.FP_UTIL
  omega

theorem not_ringReg_hrHead (n : Nat) : ¬ringReg (Reg.HR_HEAD n) := by
  unfold ringReg Reg.HR_HEAD
  omega

theorem not_ringReg_eccRemap (n : Nat) : ¬ringReg (Reg.ECC_REMAP n) :=
  not_ringReg_high (by unfold Reg.ECC_REMAP; omega)

theorem hrStat_ne_hrCfg (r j : Nat) : Reg.HR_STAT r ≠ Reg.HR_CFG j := by
  unfold Reg.HR_STAT Reg.HR_CFG
  omega

theorem hrTail_ne_hrCfg (r j : Nat) : Reg.HR_TAIL r ≠ Reg.HR_CFG j := by
  unfold Reg.HR_TAIL Reg.HR_CFG
  omega

theorem hrStat_ne_hrTail (r j : Nat) : Reg.HR_STAT r ≠ Reg.HR_TAIL j := by
  unfold Reg.HR_STAT Reg.HR_TAIL
  omega

theorem hrStat_ne_hrBlocks (r j : Nat) : Reg.HR_STAT r ≠ Reg.HR_BLOCKS j := by
  unfold Reg.HR_STAT Reg.HR_BLOCKS
  omega

/-! ### An access reaches the host interface (R321) -/

section
variable (s : State) {a : Nat} (ha : ringReg a)
include ha

theorem State.ringReg_openGate (g : Nat) : (s.openGate g).reg a = s.reg a :=
  State.reg_of_sparing (State.openGate_outside s g (by simp (disch := decide) [Parts.sparing, Parts.all, not_ringReg_low])) ha

theorem State.ringReg_enterPstate (ps : Nat) : (s.enterPstate ps).reg a = s.reg a :=
  State.reg_of_sparing (State.enterPstate_outside s ps
    (by simp (disch := decide) [Parts.sparing, Parts.all, not_ringReg_low, not_ringReg_fpStat])) ha

theorem State.ringReg_dramWoken (mode : Nat) : ((selfRefreshExit s).requestRates mode).reg a = s.reg a :=
  (State.reg_of_sparing (State.requestRates_outside _ mode ⟨rfl, rfl⟩) ha).trans
  (State.reg_of_sparing (selfRefreshExit_outside s
    (by simp (disch := decide) [Parts.sparing, Parts.all, Parts.emits, not_ringReg_low, not_ringReg_high, not_ringReg_eccRemap])) ha)

theorem State.ringReg_clusterPowered {c : Nat} (hc : c < 4) : (s.clusterPowered c).reg a = s.reg a := by
  have hne : a ≠ Reg.CL_STAT c := by
    rintro rfl
    exact not_ringReg_low (by unfold Reg.CL_STAT; omega) ha
  rcases s.reg_clusterPowered c a with h | h
  · exact h
  · exact h.trans (s.reg_setFld_other hne _ _)

theorem State.ringReg_leaveDeep (ps : Nat) : (s.leaveDeep ps).reg a = s.reg a := by
  have hlock : a ≠ Reg.CLK_STAT := by
    rintro rfl
    exact not_ringReg_low (by decide) ha
  have hpll : (s.pllLocked ps).reg a = s.reg a := (State.reg_raise_other _ hlock _).trans (s.ringReg_enterPstate ha ps)
  rw [State.leaveDeep_eq, State.ringReg_dramWoken _ ha]
  exact List.foldlRecOn (motive := fun (u : State) => u.reg a = s.reg a) _ _ hpll fun u hu c hc =>
    (u.ringReg_clusterPowered ha (List.mem_range.1 hc)).trans hu

theorem State.ringReg_reach (g : Nat) : (s.reach g).reg a = s.reg a := by
  have hwake : a ≠ Reg.CLK_WAKE_ACC := by
    rintro rfl
    exact not_ringReg_low (by decide) ha
  unfold State.reach
  split
  · rfl
  · split
    · rw [State.ringReg_openGate _ ha, State.reg_count_other _ hwake, State.ringReg_leaveDeep _ ha]
    · exact s.ringReg_openGate ha g

end

theorem State.rings_reach (s : State) (g : Nat) : (s.reach g).rings = s.rings :=
  State.rings_of_outside (s.reach_outside g (by simp [Parts.butRings, Parts.all, Parts.emits]))

/-! ### Grants, blocks and their completion -/

section
variable (s : State) (r : Nat) {a : Nat}

theorem State.ringReg_grantRing (fuel : Nat) (ha : ringReg a) : (s.grantRing r fuel).reg a = s.reg a :=
  State.reg_of_sparing (s.grantRing_outside r fuel
    (by simp (disch := decide) [Parts.sparing, Parts.all, not_ringReg_low, not_ringReg_fpUtil, not_ringReg_hrHead])) ha

theorem State.ringReg_takeCells (n : Nat) (ha : ringReg a) : (s.takeCells r n).reg a = s.reg a :=
  State.reg_of_sparing (s.takeCells_outside r n (by simp [Parts.sparing, Parts.all, not_ringReg_hrHead])) ha

theorem State.ringReg_notify (v : Nat) (imm : Bool) (ha : ringReg a) : (s.notify v imm).reg a = s.reg a :=
  State.reg_of_sparing (s.notify_outside v imm (by simp (disch := decide) [Parts.sparing, Parts.all, not_ringReg_low])) ha

theorem State.ringReg_ackBlock (sid bseq : Nat) (ha : ringReg a) : (s.ackBlock sid bseq).reg a = s.reg a :=
  State.reg_of_sparing (s.ackBlock_outside sid bseq
    (by simp (disch := decide) [Parts.sparing, Parts.all, Parts.emits, not_ringReg_low])) ha

theorem State.ringReg_dmaDone (ha : ringReg a) : s.dmaDone.reg a = s.reg a :=
  State.reg_of_sparing (s.dmaDone_outside
    (by simp (disch := decide) [Parts.sparing, Parts.all, not_ringReg_low, not_ringReg_fpStat])) ha

theorem State.reg_noteWaits : (s.noteWaits r).reg a = s.reg a := rfl

end

/-- A ring's stall has ended. -/
def State.stallEnded (s : State) (r : Nat) : State :=
  (s.clear (Reg.HR_STAT r) Fld.HR_STAT_STALL).setRing r { s.ringU r with stalled := none }

/-- A block that is complete in a ring is counted, and ends the ring's stall if that was its own. -/
def State.blockCounted (s : State) (r : Nat) (origin : Option Nat) (sid bseq : Nat) : State :=
  let s := s.count (Reg.HR_BLOCKS r) Fld.HR_BLOCKS_BLOCKS
  if (s.ringU r).stalled = some (origin, sid, bseq) then s.stallEnded r else s

section
variable (s : State) (r : Nat) (origin : Option Nat) (sid bseq : Nat)

theorem State.blockComplete_eq : s.blockComplete r origin sid bseq = (s.blockCounted r origin sid bseq).notify
    ((s.blockCounted r origin sid bseq).fld (Reg.HR_CFG r) Fld.HR_CFG_VEC) false := rfl

theorem State.reg_stallEnded (a : Nat) : (s.stallEnded r).reg a = (s.clear (Reg.HR_STAT r) Fld.HR_STAT_STALL).reg a := rfl

theorem State.out_stallEnded : (s.stallEnded r).out = s.out := rfl

/-- The completion of a block is counted (R249). -/
theorem State.blocks_blockCounted : (s.blockCounted r origin sid bseq).fld (Reg.HR_BLOCKS r) Fld.HR_BLOCKS_BLOCKS =
    satInc (fieldWidth Fld.HR_BLOCKS_BLOCKS) (s.fld (Reg.HR_BLOCKS r) Fld.HR_BLOCKS_BLOCKS) := by
  unfold State.blockCounted
  dsimp only
  split
  · rw [State.fld_congr (State.reg_stallEnded _ r _), State.fld_congr (State.reg_clear_other _ (hrStat_ne_hrBlocks r r).symm _),
      s.fld_count_self _ ⟨by decide, by decide⟩]
  · exact s.fld_count_self _ ⟨by decide, by decide⟩

/-- The completion of the block for which a ring shows STALL ends it (R251). -/
theorem State.stall_blockCounted (hstalled : (s.ringU r).stalled = some (origin, sid, bseq)) :
    (s.blockCounted r origin sid bseq).flag (Reg.HR_STAT r) Fld.HR_STAT_STALL = false := by
  have hcount : (s.count (Reg.HR_BLOCKS r) Fld.HR_BLOCKS_BLOCKS).ringU r = s.ringU r := State.ringU_congr (State.setFld_rings _ _ _ _) r
  rw [State.blockCounted, hcount, if_pos hstalled, State.flag_congr (State.reg_stallEnded _ r _)]
  exact State.flag_clear _ ⟨by decide, by decide⟩

theorem State.out_blockCounted : (s.blockCounted r origin sid bseq).out = s.out := by
  unfold State.blockCounted
  dsimp only
  split
  · exact (State.out_stallEnded _ r).trans (State.setFld_out _ _ _ _)
  · exact State.setFld_out _ _ _ _

end

/-! ### What has gone out stays out -/

/-- Everything that `s` has done to the world outside the device, `t` has done too. -/
def State.Puts (s t : State) : Prop := s.out ⊆ t.out

section
variable {s t u : State}

theorem State.Puts.refl (s : State) : s.Puts s := List.Subset.refl _

theorem State.Puts.trans (h : s.Puts t) (k : t.Puts u) : s.Puts u := List.Subset.trans h k

theorem State.Puts.of_out (h : t.out = s.out) : s.Puts t := fun _ hx => h ▸ hx

theorem State.Puts.foldl {α : Type} {f : State → α → State} (h : ∀ (s : State) (x : α), s.Puts (f s x)) (l : List α) (s : State) :
    s.Puts (l.foldl f s) := by
  induction l generalizing s with
  | nil => exact .refl s
  | cons x l ih => exact (h s x).trans (ih _)

end

/-- Every part but the outputs. -/
def Parts.butOut : Parts := { Parts.all with out := false }

theorem State.out_of_outside {s t : State} (h : t.outside Parts.butOut = s.outside Parts.butOut) : t.out = s.out :=
  (State.sameBut_of_outside h).out rfl

section
variable (s : State)

theorem State.put_puts (o : Out) : s.Puts (s.put o) := List.subset_cons_self _ _

theorem State.sendMsix_puts (v : Nat) : s.Puts (s.sendMsix v) := by
  unfold State.sendMsix
  dsimp only
  split
  · exact .of_out rfl
  · split
    · exact .of_out rfl
    · exact State.put_puts _ _

theorem State.notify_puts (v : Nat) (imm : Bool) : s.Puts (s.notify v imm) := by
  unfold State.notify
  extract_lets x x' u
  split
  · exact (State.Puts.of_out rfl).trans (u.sendMsix_puts v)
  · exact .of_out rfl

theorem State.blockComplete_puts (r : Nat) (origin : Option Nat) (sid bseq : Nat) : s.Puts (s.blockComplete r origin sid bseq) := by
  rw [State.blockComplete_eq]
  exact .trans (.of_out (s.out_blockCounted r origin sid bseq)) (State.notify_puts _ _ false)

theorem State.ackBlock_puts (sid bseq : Nat) : s.Puts (s.ackBlock sid bseq) :=
  .of_out (State.out_of_outside (s.ackBlock_outside sid bseq (by simp [Parts.butOut, Parts.all, Parts.emits])))

theorem State.reportLoss_puts (p cause : Nat) : s.Puts (s.reportLoss p cause) := by
  unfold State.reportLoss
  split
  · exact .refl s
  · exact .trans (.of_out (State.out_of_outside (s.loseRoute_outside p (by simp [Parts.butOut, Parts.all]))))
      (.foldl (fun u _ => u.put_puts _) _ _)

theorem State.gatePorts_puts : s.Puts s.gatePorts := by
  refine .foldl (fun u p => ?_) _ s
  split
  · refine (u.reportLoss_puts p 0).trans (.of_out (State.out_of_outside ?_))
    rw [State.topologyChange_outside _ (by simp [Parts.butOut, Parts.all]), State.setLink_outside _ _ _ (by simp [Parts.butOut, Parts.all]),
      State.clearLink_outside _ _ (by simp [Parts.butOut, Parts.all])]
  · exact .refl u

theorem State.enterPstate_puts (ps : Nat) : s.Puts (s.enterPstate ps) :=
  .trans (.of_out ((State.out_of_outside (State.regate_outside _ (by simp [Parts.butOut, Parts.all]))).trans (s.setFld_out _ _ ps)))
    (State.gatePorts_puts _)

theorem State.toRun_puts : s.Puts s.toRun := by
  unfold State.toRun
  split
  · exact .refl s
  · exact s.enterPstate_puts 0

theorem State.dmaDone_puts : s.Puts s.dmaDone := by
  have hat : s.Puts { s with host := { s.host with dmaAt := s.time } } := .of_out rfl
  exact hat.trans (State.toRun_puts _)

end

end Sys2Proof.Machine
end

section
/-!
PROOF. The host rings: writes of HR_CFG and HR_TAIL, blocks written and stalls; O31 settled.
-/
namespace Sys2Proof.Machine

/-! ### Writes of HR_CFG (R249, R266) -/

section
variable (s : State) (r : Nat) (v : Word)

/-- The bits that a write of HR_CFG leaves: the rejected fields and, while the ring is enabled, every field but EN and HOLD_T. -/
def State.hrCfgKept : Word := hrCfgReject v ||| if s.flag (Reg.HR_CFG r) Fld.HR_CFG_EN then 0x070F000F else 0

/-- HR_CFG as it is written, and CFG_REJ. -/
def State.hrCfgTaken : State :=
  let was := s.flag (Reg.HR_CFG r) Fld.HR_CFG_EN
  let s := s.writeBits (Reg.HR_CFG r) 0x870FFFFF (s.hrCfgKept r v) v
  let s := if hrCfgReject v = 0 then s else s.raise (Reg.HR_STAT r) Fld.HR_STAT_CFG_REJ
  if was && (v &&& 0x070F000F) != (s.reg (Reg.HR_CFG r) &&& 0x070F000F) then s.raise (Reg.HR_STAT r) Fld.HR_STAT_CFG_REJ else s

/-- A ring that is enabled starts empty, with none of its requests granted. -/
def State.ringStarted : State :=
  let s := (s.setReg (Reg.HR_HEAD r) 0x80000000).setReg (Reg.HR_TAIL r) 0
  s.setRing r { s.ringU r with used := 0, reqs := (s.ringU r).reqs.map (fun q => { q with granted := false, got := [], hdr := none }) }

theorem hrCfgWrite_eq (hr : r < 32) : hrCfgWrite s r v =
    if !s.flag (Reg.HR_CFG r) Fld.HR_CFG_EN && (s.hrCfgTaken r v).flag (Reg.HR_CFG r) Fld.HR_CFG_EN then
      (((s.hrCfgTaken r v).ringStarted r).grantRing r (((s.hrCfgTaken r v).ringStarted r).ringU r).reqs.length).noteWaits r
    else (s.hrCfgTaken r v).noteWaits r := by
  rw [hrCfgWrite, if_neg (Nat.not_le.2 hr)]
  rfl

theorem State.hrCfg_hrCfgTaken : (s.hrCfgTaken r v).reg (Reg.HR_CFG r) = judged (s.reg (Reg.HR_CFG r)) 0x870FFFFF (s.hrCfgKept r v) v := by
  have hraise : ∀ u : State, (u.raise (Reg.HR_STAT r) Fld.HR_STAT_CFG_REJ).reg (Reg.HR_CFG r) = u.reg (Reg.HR_CFG r) := fun u =>
    u.reg_raise_other (hrStat_ne_hrCfg r r).symm _
  rw [← s.reg_writeBits_self (Reg.HR_CFG r) 0x870FFFFF (s.hrCfgKept r v) v, State.hrCfgTaken]
  split
  · split
    · exact hraise _
    · rfl
  · split
    · exact (hraise _).trans (hraise _)
    · exact hraise _

theorem State.reg_setRing (x : HostRing) (a : Nat) : (s.setRing r x).reg a = s.reg a := rfl

theorem State.reg_ringStarted (a : Nat) (ha : ringReg a) : (s.ringStarted r).reg a = if a = Reg.HR_TAIL r then 0 else s.reg a := by
  have hhead : a ≠ Reg.HR_HEAD r := by
    rintro rfl
    exact not_ringReg_hrHead r ha
  rw [State.ringStarted, State.reg_setRing, State.reg_setReg]
  split
  · rfl
  · exact s.reg_setReg_other hhead _

theorem hrCfgWrite_takes (hr : r < 32) :
    (hrCfgWrite s r v).reg (Reg.HR_CFG r) = judged (s.reg (Reg.HR_CFG r)) 0x870FFFFF (s.hrCfgKept r v) v := by
  rw [hrCfgWrite_eq s r v hr, ← s.hrCfg_hrCfgTaken r v]
  split
  · rw [State.reg_noteWaits, State.ringReg_grantRing _ _ _ (ringReg_hrCfg hr), State.reg_ringStarted _ _ _ (ringReg_hrCfg hr),
      if_neg (hrTail_ne_hrCfg r r).symm]
  · exact State.reg_noteWaits _ r

theorem hrCfgWrite_starts (hr : r < 32) (hwas : s.flag (Reg.HR_CFG r) Fld.HR_CFG_EN = false)
    (hnow : (hrCfgWrite s r v).flag (Reg.HR_CFG r) Fld.HR_CFG_EN = true) : (hrCfgWrite s r v).reg (Reg.HR_TAIL r) = 0 := by
  have hreg : (hrCfgWrite s r v).reg (Reg.HR_CFG r) = (s.hrCfgTaken r v).reg (Reg.HR_CFG r) :=
    (hrCfgWrite_takes s r v hr).trans (s.hrCfg_hrCfgTaken r v).symm
  have hen : (s.hrCfgTaken r v).flag (Reg.HR_CFG r) Fld.HR_CFG_EN = true := by rwa [State.flag_congr hreg] at hnow
  rw [hrCfgWrite_eq s r v hr, hwas, hen, if_pos (by decide), State.reg_noteWaits, State.ringReg_grantRing _ _ _ (ringReg_hrTail hr),
    State.reg_ringStarted _ _ _ (ringReg_hrTail hr), if_pos rfl]

end

/-! ### Writes of HR_TAIL (R249) -/

section
variable {s t : State} {r : Nat} (hcfg : t.reg (Reg.HR_CFG r) = s.reg (Reg.HR_CFG r))
include hcfg

theorem State.ringCells_congr : t.ringCells r = s.ringCells r := by
  rw [State.ringCells, State.ringCells, State.fld_congr hcfg]

variable (htail : t.reg (Reg.HR_TAIL r) = s.reg (Reg.HR_TAIL r)) (hring : t.ringU r = s.ringU r)
include htail hring

theorem State.ringWritten_congr : t.ringWritten r = s.ringWritten r := by
  rw [State.ringWritten, State.ringWritten, State.ringCells_congr hcfg, State.fld_congr htail, hring]

theorem State.freedCells_congr (v : Nat) : t.freedCells r v = s.freedCells r v := by
  rw [State.freedCells, State.freedCells, State.ringCells_congr hcfg, State.fld_congr htail, hring]

end

section
variable {s : State} {r v : Nat} (hhost : hasHost s.fac.variant = true) (hr : r < 32)
include hhost hr

theorem hrTailWrite_refused (h : s.ringCells r ≤ v ∨ s.ringWritten r < s.freedCells r v) :
    hrTailWrite s r v = s.raise (Reg.HR_STAT r) Fld.HR_STAT_TAIL_ERR := by
  rw [hrTailWrite, if_neg (by simp [hhost]), if_neg (Nat.not_le.2 hr), if_pos (by simpa using h)]

theorem hrTailWrite_taken (hin : v < s.ringCells r) (hfreed : s.freedCells r v ≤ s.ringWritten r) :
    ∃ (x : HostRing) (fuel : Nat),
      hrTailWrite s r v = (((s.setFld (Reg.HR_TAIL r) Fld.HR_TAIL_TAIL v).setRing r x).grantRing r fuel).noteWaits r := by
  rw [hrTailWrite, if_neg (by simp [hhost]), if_neg (Nat.not_le.2 hr), if_neg (by simp; omega)]
  exact ⟨_, _, rfl⟩

theorem hrTailWrite_moves (hin : v < s.ringCells r) (hfreed : s.freedCells r v ≤ s.ringWritten r) {a : Nat} (ha : ringReg a) :
    (hrTailWrite s r v).reg a = (s.setFld (Reg.HR_TAIL r) Fld.HR_TAIL_TAIL v).reg a := by
  obtain ⟨x, fuel, heq⟩ := hrTailWrite_taken hhost hr hin hfreed
  rw [heq, State.reg_noteWaits, State.ringReg_grantRing _ _ _ ha, State.reg_setRing]

end

/-! ### Blocks written (R249, R250) -/

/-- The host DMA's turn as it stands. -/
def State.withTurn (s : State) (turn : DmaTurn) : State := { s with host := { s.host with dma := turn } }

theorem State.blockFor_withTurn (s : State) (turn : DmaTurn) (r : Nat) : (s.withTurn turn).blockFor r = s.blockFor r := rfl

section
variable {s : State} {r sid : Nat} {x : Stream} {b : Tx} (hfor : s.blockFor r = some (sid, x, b))
include hfor

theorem State.lt_of_blockFor : r < 32 := by
  by_contra hr
  rw [State.blockFor, if_pos (by simp [Nat.not_lt.1 hr])] at hfor
  exact Option.some_ne_none _ hfor.symm

theorem dmaBlockWrite_turn (hrec : s.recordReady = false) (hfetch : s.fetchReady = false)
    (hturn : (s.dmaNext dmaFuel s.host.dma).ch = s.dmaOf r) : ∃ turn, dmaBlockWrite s r = hostRingBlockWrite (s.withTurn turn) r := by
  simp only [dmaBlockWrite, hfor, hrec, hfetch, hturn, bne_self_eq_false, Bool.or_self, Bool.false_eq_true, if_false]
  exact ⟨_, rfl⟩

/-- The block whose turn it is goes out whole, and is complete in its ring. -/
theorem hostRingBlockWrite_writes : ∃ cells, hostRingBlockWrite s r =
    ((((((s.takeCells r b.raw.length).put (.hostCells r cells)).blockComplete r none sid b.blk.bseq).ackBlock sid b.blk.bseq).noteWaits
      r).dmaDone) := by
  simp only [hostRingBlockWrite, hfor]
  exact ⟨_, rfl⟩

theorem hostRingBlockWrite_leaves :
    (hostRingBlockWrite s r).fld (Reg.HR_BLOCKS r) Fld.HR_BLOCKS_BLOCKS =
      satInc (fieldWidth Fld.HR_BLOCKS_BLOCKS) (s.fld (Reg.HR_BLOCKS r) Fld.HR_BLOCKS_BLOCKS) ∧
    ((s.ringU r).stalled = some (none, sid, b.blk.bseq) →
      (hostRingBlockWrite s r).flag (Reg.HR_STAT r) Fld.HR_STAT_STALL = false) ∧
    ∃ cells, .hostCells r cells ∈ (hostRingBlockWrite s r).out := by
  have hr := State.lt_of_blockFor hfor
  obtain ⟨cells, heq⟩ := hostRingBlockWrite_writes hfor
  have hreg : ∀ {a}, ringReg a → (hostRingBlockWrite s r).reg a =
      (((s.takeCells r b.raw.length).put (.hostCells r cells)).blockCounted r none sid b.blk.bseq).reg a := fun ha => by
    rw [heq, State.ringReg_dmaDone _ ha, State.reg_noteWaits, State.ringReg_ackBlock _ _ _ ha, State.blockComplete_eq,
      State.ringReg_notify _ _ _ ha]
  refine ⟨?counted, ?ends, cells, ?out⟩
  case counted =>
    rw [State.fld_congr (hreg (ringReg_hrBlocks hr)), State.blocks_blockCounted, State.fld_congr (State.put_reg _ _ _),
      State.fld_congr (State.ringReg_takeCells _ _ _ (ringReg_hrBlocks hr))]
  case ends =>
    intro hstalled
    rw [State.flag_congr (hreg (ringReg_hrStat hr))]
    refine State.stall_blockCounted _ _ _ _ _ ?_
    rwa [State.ringU_congr (State.put_rings _ _), State.ringU_takeCells]
  case out =>
    rw [heq]
    have hput : Out.hostCells r cells ∈ ((s.takeCells r b.raw.length).put (.hostCells r cells)).out := List.mem_cons_self
    exact State.dmaDone_puts _ ((State.Puts.of_out rfl : State.Puts _ (State.noteWaits _ r))
      (State.ackBlock_puts _ _ _ (State.blockComplete_puts _ _ _ _ _ hput)))

end

/-! ### Stalls (R251) -/

/-- A ring shows STALL for block `b`. -/
def State.ringStalled (s : State) (r : Nat) (b : Option Nat × Nat × Nat) : State :=
  let s := s.setLive (Reg.HR_STAT r) Fld.HR_STAT_STALL Fld.HR_STAT_STALL_S true
  s.setRing r { s.ringU r with stalled := some b }

section
variable (s : State) (r : Nat) (b : Option Nat × Nat × Nat)

theorem State.reg_ringStalled (a : Nat) :
    (s.ringStalled r b).reg a = (s.setLive (Reg.HR_STAT r) Fld.HR_STAT_STALL Fld.HR_STAT_STALL_S true).reg a := rfl

theorem State.recs_ringStalled : (s.ringStalled r b).recs = s.recs := State.setLive_recs _ _ _ _ _

theorem State.time_ringStalled : (s.ringStalled r b).time = s.time := State.setLive_time _ _ _ _ _

theorem State.rings_setLive (a : Nat) (live sticky : Field) (on : Bool) : (s.setLive a live sticky on).rings = s.rings := by
  cases on
  · exact State.setFld_rings _ _ _ _
  · exact (State.setFld_rings _ _ _ _).trans (State.setFld_rings _ _ _ _)

/-- A stall takes no cell of the ring. -/
theorem State.ringFree_ringStalled : (s.ringStalled r b).ringFree r = s.ringFree r := by
  have hcfg : (s.ringStalled r b).reg (Reg.HR_CFG r) = s.reg (Reg.HR_CFG r) :=
    (s.reg_ringStalled r b _).trans (s.reg_setLive_other (hrStat_ne_hrCfg r r).symm _ _ true)
  have hused : ((s.ringStalled r b).ringU r).used = (s.ringU r).used := by
    rw [State.ringStalled, State.ringU_setRing_self, State.ringU_congr (s.rings_setLive _ _ _ true)]
  rw [State.ringFree, State.ringFree, State.ringCells_congr hcfg, hused]

/-- The stall as STR_STAT shows it and HOST_RING_STALL tells it. -/
def State.stallTold : State :=
  ((s.ringStalled r b).raise Reg.STR_STAT Fld.STR_STAT_STALL_S).emit 0x0362 0 [r, b.2.1, s.ringFree r]

theorem State.stallTold_leaves : (s.stallTold r b).flag (Reg.HR_STAT r) Fld.HR_STAT_STALL = true ∧
    (s.stallTold r b).flag Reg.STR_STAT Fld.STR_STAT_STALL_S = true ∧
    (s.recsFull = false → (s.stallTold r b).recs = s.recs ++ [mkRec 0x0362 0 s.time [r, b.2.1, s.ringFree r]]) := by
  have hlost : Reg.HR_STAT r ≠ Reg.DEV_EV_LOST := by
    unfold Reg.HR_STAT Reg.DEV_EV_LOST
    omega
  have hshown : Reg.HR_STAT r ≠ Reg.STR_STAT := by
    unfold Reg.HR_STAT Reg.STR_STAT
    omega
  have hrecs : ((s.ringStalled r b).raise Reg.STR_STAT Fld.STR_STAT_STALL_S).recs = s.recs :=
    (State.raise_recs _ _ _).trans (s.recs_ringStalled r b)
  refine ⟨?stall, ?shown, fun hroom => ?told⟩
  case stall =>
    rw [State.stallTold, State.flag_congr (State.emit_reg _ _ _ _ hlost), State.flag_congr (State.reg_raise_other _ hshown _),
      State.flag_congr (s.reg_ringStalled r b _)]
    exact s.flag_setLive_live _ ⟨by decide, by decide⟩ ⟨by decide, by decide⟩ (by decide) true
  case shown =>
    rw [State.stallTold, State.flag_congr (State.emit_reg _ _ _ _ (by decide))]
    exact State.flag_raise _ _ ⟨by decide, by decide⟩
  case told =>
    rw [State.stallTold, State.emit_recs _ _ _ _ (by rwa [State.recsFull, hrecs]), hrecs, State.raise_time, s.time_ringStalled]

end

theorem hostRingStall_due {s : State} {r : Nat} {b : Option Nat × Nat × Nat} {since : Time} (hr : r < 32)
    (hhost : hasHost s.fac.variant = true) (hen : s.flag (Reg.HR_CFG r) Fld.HR_CFG_EN = true)
    (hstall : s.flag (Reg.HR_STAT r) Fld.HR_STAT_STALL = false) (hwaits : s.ringWaits r = some (b, since))
    (hpast : msTime (s.fld (Reg.HR_CFG r) Fld.HR_CFG_HOLD_T) < (s.time - since).toNat) : hostRingStall s r = s.stallTold r b := by
  rw [State.stallTold, ← s.ringFree_ringStalled r b, hostRingStall, if_neg (by simp [hhost, hen, hstall, hr]), hwaits]
  exact if_neg (Nat.not_le.2 hpast)

/-- Settles O31: each row's meaning has a frame, so it is the row's answer; the access that a write makes leaves the rings as they are,
and the lemmas on HR_CFG, HR_TAIL, blocks and stalls say what the row leaves. -/
theorem hostRings : Obligations.HostRings := by
  have htail : ∀ (s : State) (r v : Nat), s.bootFailed = false → hasHost s.fac.variant = true →
      exec (.hrTailWrite r v) s = .next (hrTailWrite (s.reach 6) r v) := fun s r v hb hhost => by
    have hreach : s.reachIf (hasHost s.fac.variant) 6 = s.reach 6 := if_pos hhost
    rw [← hreach]
    exact State.answer_open (P := Parts.all) hb ((hrTailWrite_outside _ r v (by simp [Parts.all])).trans
      (State.reachIf_outside s _ _ (by simp [Parts.all, Parts.emits])))
  unfold Obligations.HostRings
  refine ⟨?enable, ?refused, ?taken, ?block, ?stall⟩
  case enable =>
    intro s r v hb hhost hr
    have hcfg := s.ringReg_reach (ringReg_hrCfg hr) 6
    have hkept : (s.reach 6).hrCfgKept r v = s.hrCfgKept r v := by rw [State.hrCfgKept, State.flag_congr hcfg, State.hrCfgKept]
    have hmeans : hrCfgEnable (s.reachIf (hasHost s.fac.variant) 6) r v = hrCfgWrite (s.reach 6) r v := by
      rw [State.reachIf, if_pos hhost, hrCfgEnable, s.fac_reach, if_pos hhost]
    refine ⟨_, State.answer_open (P := Parts.all) hb ((hrCfgEnable_outside _ r v (by simp [Parts.all])).trans
      (State.reachIf_outside s _ _ (by simp [Parts.all, Parts.emits]))), ?_⟩
    rw [hmeans, hrCfgWrite_takes _ r v hr, hkept, hcfg]
    exact ⟨rfl, fun hwas => hrCfgWrite_starts _ r v hr ((State.flag_congr hcfg _).trans hwas)⟩
  case refused =>
    intro s r v hb hhost hr hwhy
    have hcfg := s.ringReg_reach (ringReg_hrCfg hr) 6
    have htailReg := s.ringReg_reach (ringReg_hrTail hr) 6
    have hring : (s.reach 6).ringU r = s.ringU r := State.ringU_congr (s.rings_reach 6) r
    refine ⟨_, htail s r v hb hhost, ?_⟩
    rw [hrTailWrite_refused (by rwa [s.fac_reach]) hr (by rwa [State.ringCells_congr hcfg, State.ringWritten_congr hcfg htailReg hring,
      State.freedCells_congr hcfg htailReg hring])]
    exact ⟨State.flag_raise _ _ ⟨by decide, by decide⟩, (State.reg_raise_other _ (hrStat_ne_hrTail r r).symm _).trans htailReg,
      (State.ringU_congr (State.setFld_rings _ _ _ _) r).trans hring⟩
  case taken =>
    intro s r v hb hhost hr hin hfreed
    have hcfg := s.ringReg_reach (ringReg_hrCfg hr) 6
    have htailReg := s.ringReg_reach (ringReg_hrTail hr) 6
    have hring : (s.reach 6).ringU r = s.ringU r := State.ringU_congr (s.rings_reach 6) r
    have hmoves : ∀ {a}, ringReg a → (hrTailWrite (s.reach 6) r v).reg a = _ := hrTailWrite_moves (by rwa [s.fac_reach]) hr
      (by rwa [State.ringCells_congr hcfg])
      (by rwa [State.ringWritten_congr hcfg htailReg hring, State.freedCells_congr hcfg htailReg hring])
    refine ⟨_, htail s r v hb hhost, ?_, ?_⟩
    · rw [State.fld_congr (hmoves (ringReg_hrTail hr))]
      exact State.fld_setFld_self _ _ ⟨by decide, by decide⟩ v
    · rw [State.fld_congr (hmoves (ringReg_hrStat hr)), State.fld_setFld_other _ (hrStat_ne_hrTail r r),
        State.fld_congr (s.ringReg_reach (ringReg_hrStat hr) 6)]
  case block =>
    intro s r sid x b hfor hrec hfetch hturn
    obtain ⟨turn, heq⟩ := dmaBlockWrite_turn hfor hrec hfetch hturn
    have hleaves := hostRingBlockWrite_leaves ((s.blockFor_withTurn turn r).trans hfor)
    exact ⟨_, State.effect_of_outside (P := Parts.all) (dmaBlockWrite_outside s r (by simp [Parts.all, Parts.emits])), heq ▸ hleaves⟩
  case stall =>
    intro s r b since hr hhost hen hstall hwaits hpast
    refine ⟨_, State.effect_of_outside (P := Parts.all) (hostRingStall_outside s r (by simp [Parts.all, Parts.emits])), ?_⟩
    rw [hostRingStall_due hr hhost hen hstall hwaits hpast]
    exact s.stallTold_leaves r b

end Sys2Proof.Machine
end

section
/-!
PROOF. The channels of the DRAM as units of their store: what reads of them return after the updates of Machine/State.lean; an operation
on each of the two channels in turn; operations that leave the controller as it is.
-/
namespace Sys2Proof.Machine

/-! ### Channels -/

section
variable (s : State) (ch a : Nat) (f : Field) (v : Nat)

theorem State.chanU_setChan (x : DramChan) (j : Nat) : (s.setChan ch x).chanU j = if j = ch then x else s.chanU j := Store.get_set _ _ _ _ _

@[simp] theorem State.chanU_setChan_self (x : DramChan) : (s.setChan ch x).chanU ch = x := Store.get_set_self _ _ _ _

@[simp] theorem State.reg_setChan (x : DramChan) : (s.setChan ch x).reg a = s.reg a := rfl
@[simp] theorem State.fld_setChan (x : DramChan) : (s.setChan ch x).fld a f = s.fld a f := rfl
@[simp] theorem State.flag_setChan (x : DramChan) : (s.setChan ch x).flag a f = s.flag a f := rfl
@[simp] theorem State.drc_setChan (x : DramChan) : (s.setChan ch x).drc = s.drc := rfl

@[simp] theorem State.chanU_setFld : (s.setFld a f v).chanU ch = s.chanU ch := rfl
@[simp] theorem State.chanU_raise : (s.raise a f).chanU ch = s.chanU ch := rfl
@[simp] theorem State.chanU_clear : (s.clear a f).chanU ch = s.chanU ch := rfl
@[simp] theorem State.chanU_count : (s.count a f).chanU ch = s.chanU ch := rfl
@[simp] theorem State.chanU_setReg (w : Word) : (s.setReg a w).chanU ch = s.chanU ch := rfl
@[simp] theorem State.chanU_withDrc (d : DramUnit) : ({ s with drc := d } : State).chanU ch = s.chanU ch := rfl
@[simp] theorem State.flag_withDrc (d : DramUnit) : ({ s with drc := d } : State).flag a f = s.flag a f := rfl
@[simp] theorem State.chanU_emit (type u : Nat) (l : List Int) : (s.emit type u l).chanU ch = s.chanU ch := rfl
@[simp] theorem State.chanU_put (o : Out) : (s.put o).chanU ch = s.chanU ch := rfl

theorem State.chanU_congr {s t : State} (h : t.chan = s.chan) (ch : Nat) : t.chanU ch = s.chanU ch := by
  rw [State.chanU, State.chanU, h]

end

/-- An operation on both channels in turn has its effect on what is read of one of them. -/
theorem State.foldl_channels {β : Type} {π : State → β} {f : State → Nat → State} {g : β → β} {ch : Nat} (hch : ch < 2)
    (h : ∀ s j, π (f s j) = if j = ch then g (π s) else π s) (s : State) : π ((List.range 2).foldl f s) = g (π s) := by
  have hboth : (List.range 2).foldl f s = f (f s 0) 1 := rfl
  have hcase : ch = 0 ∨ ch = 1 := by omega
  obtain rfl | rfl := hcase <;> simp [hboth, h]

/-! ### Operations that leave the controller -/

/-- Every part but the controller. -/
def Parts.butDrc : Parts := { Parts.all with drc := false }

theorem State.drc_of_outside {s t : State} (h : t.outside Parts.butDrc = s.outside Parts.butDrc) : t.drc = s.drc :=
  (State.sameBut_of_outside h).drc rfl

end Sys2Proof.Machine
end

section
/-!
PROOF. The DRAM controller's queue, its refreshes, the temperature it reads and its refresh windows; O33 settled.
-/
namespace Sys2Proof.Machine

/-! ### Refreshes (R275, R276) -/

section
variable (s : State) (ch : Nat)

/-- A refresh of a channel falls due now. -/
def State.refreshFallen : State := s.setChan ch { s.chanU ch with refAt := s.time }

/-- A refresh that falls due is postponed, in the channel and in PP_PEAK. -/
def State.refreshPostponed : State :=
  let n := (s.chanU ch).postponed + 1
  ((s.refreshFallen ch).setChan ch { (s.refreshFallen ch).chanU ch with postponed := n }).setFld Reg.DRC_REF Fld.DRC_REF_PP_PEAK
    (max (s.fld Reg.DRC_REF Fld.DRC_REF_PP_PEAK) n)

theorem refreshDue_of_falls (h : s.refreshFalls ch = true) : refreshDue s ch =
    if s.urgentOn ch && !s.refreshForced ch then s.refreshPostponed ch else (s.refreshFallen ch).issueRefresh ch := by
  have hurgent : (s.refreshFallen ch).urgentOn ch = s.urgentOn ch := rfl
  have hforced : (s.refreshFallen ch).refreshForced ch = s.refreshForced ch := by
    simp [State.refreshForced, State.refreshFallen]
  rw [← hurgent, ← hforced, refreshDue, if_neg (by simp [h])]
  rfl

theorem State.chanU_refreshPostponed :
    (s.refreshPostponed ch).chanU ch = { s.chanU ch with refAt := s.time, postponed := (s.chanU ch).postponed + 1 } := by
  simp [State.refreshPostponed, State.refreshFallen]

/-- The next bank is refreshed, and the one after it is next. -/
theorem State.issueRefresh_issues :
    (s.issueRefresh ch).out = .dramRefresh ch ((s.chanU ch).nextBank % 16) [] :: s.out ∧
    ((s.issueRefresh ch).chanU ch).nextBank = ((s.chanU ch).nextBank % 16 + 1) % 16 ∧
    ((s.issueRefresh ch).chanU ch).refAt = (s.chanU ch).refAt ∧
    ((s.issueRefresh ch).chanU ch).postponed = (s.chanU ch).postponed := by
  refine ⟨rfl, ?_⟩
  simp [State.issueRefresh]

theorem State.chanU_noteInterval (code : Nat) (bank : Option Nat) (ns : Nat) :
    ∃ l, (s.noteInterval ch code bank ns).chanU ch = { s.chanU ch with interval := l } :=
  ⟨_, s.chanU_setChan_self ch _⟩

/-- Once the postponed refreshes have been made up, none is left. -/
theorem State.postponed_catchUp : ((s.catchUp ch).chanU ch).postponed = 0 := by
  unfold State.catchUp
  dsimp only
  split
  · assumption
  · obtain ⟨l, hl⟩ := State.chanU_noteInterval (State.count (State.setChan _ ch _) Reg.DRC_CATCHUP_CNT word32) ch 1 none _
    rw [hl, State.chanU_count, State.chanU_setChan_self]

end

section
variable {s : State} {ch : Nat} (hch : ch < 2) (hself : (s.chanU ch).selfRef = false) (hchange : s.drc.change = none)
  (hdue : s.refreshTime ≤ (s.time - (s.chanU ch).refAt).toNat)
include hch hself hchange hdue

theorem State.refreshFalls_of_due : s.refreshFalls ch = true := by
  have hfalls : decide (s.refreshTime ≤ (s.time - (s.chanU ch).refAt).toNat) = true := decide_eq_true hdue
  rw [State.refreshFalls, hfalls, hself, hchange, decide_eq_true hch]
  rfl

theorem refreshDue_postpones (hurgent : s.urgentOn ch = true)
    (hroom : (s.chanU ch).postponed < s.fld Reg.DRC_REF Fld.DRC_REF_PP_MAX) : refreshDue s ch = s.refreshPostponed ch := by
  have hforced : s.refreshForced ch = false := decide_eq_false (Nat.not_le.2 hroom)
  rw [refreshDue_of_falls s ch (State.refreshFalls_of_due hch hself hchange hdue), hurgent, hforced]
  rfl

theorem refreshDue_issues
    (h : s.urgentOn ch = false ∨ s.fld Reg.DRC_REF Fld.DRC_REF_PP_MAX ≤ (s.chanU ch).postponed) :
    refreshDue s ch = (s.refreshFallen ch).issueRefresh ch := by
  have hnot : (s.urgentOn ch && !s.refreshForced ch) = false := by
    rw [State.refreshForced]
    obtain hurgent | hfull := h <;> simp [*]
  rw [refreshDue_of_falls s ch (State.refreshFalls_of_due hch hself hchange hdue), hnot]
  rfl

end

/-! ### Requests (R272) -/

section
variable (s : State) (ch : Nat)

/-- The first stage of a channel's turn: a refresh that may no longer be postponed. -/
def State.forcedRefresh : State := if s.serves ch && s.refreshForced ch then refreshDue s ch else s

/-- The second stage: the request whose turn it is. -/
def State.turnServed : State :=
  if s.serves ch then match s.nextRequest ch with
    | some r => s.serveRequest ch r
    | none => s
  else s

/-- The last stage: the refreshes that no urgent request holds back. -/
def State.freeRefreshes : State := if s.serves ch && !s.urgentOn ch then refreshDue (refreshCatchup s ch) ch else s

theorem dramRequest_eq {ch : Nat} (hch : ch < 2) (l : List DramReq) :
    dramRequest s ch l = ((((s.enterRequests l).forcedRefresh ch).turnServed ch).freeRefreshes ch).showPorts := by
  rw [dramRequest, if_neg (Nat.not_le.2 hch)]
  rfl

theorem State.drc_refreshDue : (refreshDue s ch).drc = s.drc :=
  State.drc_of_outside (refreshDue_outside s ch (by simp [Parts.butDrc, Parts.all]))

theorem State.drc_freeRefreshes : (s.freeRefreshes ch).drc = s.drc := by
  unfold State.freeRefreshes
  split
  · exact (State.drc_refreshDue _ ch).trans
      (State.drc_of_outside (refreshCatchup_outside s ch (by simp [Parts.butDrc, Parts.all])))
  · rfl

theorem State.drc_showPorts : s.showPorts.drc = s.drc :=
  State.drc_of_outside (s.showPorts_outside (by simp [Parts.butDrc, Parts.all]))

theorem State.drc_activateRow (r : DramReq) : (s.activateRow ch r).drc = s.drc :=
  State.drc_of_outside (s.activateRow_outside ch r (by simp [Parts.butDrc, Parts.all, Parts.emits]))

theorem State.drc_missLatency (p lat cause : Nat) : (s.missLatency ch p lat cause).drc = s.drc :=
  State.drc_of_outside (s.missLatency_outside ch p lat cause (by simp [Parts.butDrc, Parts.all, Parts.emits]))

/-- The request that is served leaves the queue, and nothing else of the controller changes. -/
theorem State.drc_serveRequest (r : DramReq) : (s.serveRequest ch r).drc = { s.drc with queue := s.drc.queue.erase r } := by
  have hrow : ∀ u : State, (if (u.chanU ch).isOpen r then u else u.activateRow ch r).drc = u.drc := fun u => by
    split
    · rfl
    · exact u.drc_activateRow ch r
  unfold State.serveRequest
  extract_lets cause _ taken opened x idle lat counted shown
  have hshown : shown.drc = taken.drc := by
    rw [State.setReg_drc, State.count_drc, State.drc_setChan, hrow]
  split
  · exact (State.drc_missLatency _ ch _ _ _).trans hshown
  · exact hshown

theorem State.turnServed_idle (h : s.serves ch = false ∨ s.nextRequest ch = none) : s.turnServed ch = s := by
  unfold State.turnServed
  obtain h | h := h <;> simp [h]

theorem State.turnServed_some {r : DramReq} (hserves : s.serves ch = true) (hnext : s.nextRequest ch = some r) :
    s.turnServed ch = s.serveRequest ch r := by
  simp [State.turnServed, hserves, hnext]

theorem State.forcedRefresh_none (h : s.serves ch = false ∨ s.refreshForced ch = false) : s.forcedRefresh ch = s := by
  rw [State.forcedRefresh, if_neg (by obtain h | h := h <;> simp [h])]

/-- Of a turn without a forced refresh, the request that is served alone touches the queue. -/
theorem dramRequest_drc {ch : Nat} (hch : ch < 2) (l : List DramReq)
    (h : (s.enterRequests l).serves ch = false ∨ (s.enterRequests l).refreshForced ch = false) :
    (dramRequest s ch l).drc = ((s.enterRequests l).turnServed ch).drc := by
  rw [dramRequest_eq s hch, State.drc_showPorts, State.drc_freeRefreshes, State.forcedRefresh_none _ ch h]

end

/-! ### Temperature and refresh windows (R275, R277) -/

theorem dramTempRead_due {s : State} {temp : BitVec 16}
    (hdue : s.drc.tempAt.all (fun u => decide (msTime 16 ≤ (s.time - u).toNat)) = true) :
    dramTempRead s temp =
      ({ s with drc := { s.drc with tempAt := some s.time } }.setFld Reg.DRC_TEMP Fld.DRC_TEMP_T_NOW temp.toNat).setFld Reg.DRC_REF
        Fld.DRC_REF_MULT (if 24320 < temp.toInt then 2 else if 21760 < temp.toInt then 1 else 0) := by
  unfold dramTempRead
  cases htemp : s.drc.tempAt with
  | none => rfl
  | some u =>
    have hlong : ¬(s.time - u).toNat < msTime 16 := by simpa [htemp] using hdue
    simp only [hlong, decide_false]
    rfl

theorem refreshWindowStart_due {s : State} (hdue : msTime 32 ≤ (s.time - s.drc.windowAt).toNat) :
    refreshWindowStart s = (List.range 2).foldl (fun s ch => if (s.chanU ch).selfRef then s else s.setChan ch (s.chanU ch).newWindow)
      { s with drc := { s.drc with windowAt := s.time } } :=
  if_neg (Nat.not_lt.2 hdue)

/-- A window start clears the counts of a channel that is not in self-refresh. -/
theorem refreshWindowStart_leaves {s : State} {ch : Nat} (hch : ch < 2) (hdue : msTime 32 ≤ (s.time - s.drc.windowAt).toNat) :
    ((refreshWindowStart s).chanU ch = if (s.chanU ch).selfRef then s.chanU ch else (s.chanU ch).newWindow) ∧
    (refreshWindowStart s).drc.windowAt = s.time := by
  rw [refreshWindowStart_due hdue]
  refine ⟨State.foldl_channels (π := fun s => s.chanU ch) (g := fun x => if x.selfRef then x else x.newWindow) hch
    (fun u j => ?_) _, State.foldl_keeps (π := fun s => s.drc.windowAt) (fun u j => ?_) _ _⟩
  · by_cases hj : j = ch
    · subst hj
      split <;> simp
    · rw [if_neg hj]
      split
      · rfl
      · rw [State.chanU_setChan, if_neg (Ne.symm hj)]
  · split <;> rfl

/-- Settles O33: each row's meaning has a frame, so it is the row's answer; the lemmas on a channel's turn, on refreshes, on the
temperature and on windows say what it leaves. -/
theorem dramQueue : Obligations.DramQueue := by
  have hturnFrame : ∀ s ch loads stores, exec (.dramRequest ch loads stores) s = .next (dramRequest s ch (dramArrivals loads stores)) :=
    fun s ch loads stores =>
    State.effect_of_outside (P := Parts.all) (dramRequest_outside s ch _ (by simp [Parts.all, Parts.emits]))
  have hdueFrame : ∀ s ch, exec (.refreshDue ch) s = .next (refreshDue s ch) := fun s ch =>
    State.effect_of_outside (P := Parts.all) (refreshDue_outside s ch (by simp [Parts.all]))
  unfold Obligations.DramQueue
  refine ⟨?enters, ?served, ?postponed, ?issued, ?catchup, ?temp, ?window⟩
  case enters =>
    intro s ch loads stores hch hidle
    refine ⟨_, hturnFrame s ch loads stores, ?_⟩
    rw [dramRequest_drc s hch _ (hidle.imp_right And.left), State.turnServed_idle _ _ (hidle.imp_right And.right)]
  case served =>
    intro s ch loads stores r hch hserves hforced hnext
    refine ⟨_, hturnFrame s ch loads stores, ?_⟩
    rw [dramRequest_drc s hch _ (.inr hforced), State.turnServed_some _ _ hserves hnext, State.drc_serveRequest]
  case postponed =>
    intro s ch hch hself hchange hurgent hdue hroom
    refine ⟨_, hdueFrame s ch, ?_⟩
    rw [refreshDue_postpones hch hself hchange hdue hurgent hroom, State.chanU_refreshPostponed]
    exact ⟨rfl, rfl⟩
  case issued =>
    intro s ch hch hself hchange hdue hwhy
    obtain ⟨hout, hbank, href, hpost⟩ := (s.refreshFallen ch).issueRefresh_issues ch
    have hfallen : (s.refreshFallen ch).chanU ch = { s.chanU ch with refAt := s.time } := s.chanU_setChan_self ch _
    refine ⟨_, hdueFrame s ch, ?_⟩
    rw [refreshDue_issues hch hself hchange hdue hwhy, hout, hbank, href, hpost, hfallen]
    exact ⟨rfl, rfl, rfl, rfl⟩
  case catchup =>
    intro s ch hch _ hurgent
    refine ⟨_, State.effect_of_outside (P := Parts.all) (refreshCatchup_outside s ch (by simp [Parts.all])), ?_⟩
    rw [refreshCatchup, if_neg (by simp [hurgent, hch])]
    exact s.postponed_catchUp ch
  case temp =>
    intro s temp hdue
    refine ⟨_, State.effect_of_outside (P := Parts.all) (dramTempRead_outside s temp (by simp [Parts.all])), ?_⟩
    rw [dramTempRead_due hdue, State.fld_setFld_other _ (by decide), State.fld_setFld_self _ _ ⟨by decide, by decide⟩,
      State.fld_setFld_self _ _ ⟨by decide, by decide⟩]
    refine ⟨Nat.mod_eq_of_lt temp.isLt, Nat.mod_eq_of_lt ?_⟩
    split
    · decide
    · split <;> decide
  case window =>
    intro s ch hch hdue
    exact ⟨_, State.effect_of_outside (P := Parts.all) (refreshWindowStart_outside s (by simp [Parts.all])),
      refreshWindowStart_leaves hch hdue⟩

end Sys2Proof.Machine
end

section
/-!
PROOF. What the trainings that follow one another and the changes of operating point that begin leave of the DRAM.
-/
namespace Sys2Proof.Machine

/-! ### What stands through trainings and changes -/

/-- A field of DRC_STAT that neither a training nor a request or the beginning of a change writes. -/
def statStands (f : Field) : Prop := f.lo ≤ f.hi ∧ (f.hi < 5 ∨ 5 < f.lo ∧ f.hi < 24)

/-- The parts beside the DRAM's own: of the registers, those above DRC_STAT, and DEV_EV_LOST. -/
def Parts.besideDram : Parts := { Parts.all with regs := fun r => r = Reg.DEV_EV_LOST ∨ Reg.DRC_STAT < r, drc := false, chan := false }

theorem Parts.besideDram_emits : Parts.besideDram.emits := ⟨rfl, rfl, rfl, .inl rfl⟩

/-- What stands where trainings and changes follow one another: the failures, self-refresh and last checks of the channels, the M-PLL, what
DRC_STAT shows of them, and the registers below it. -/
structure State.DramStands (s t : State) : Prop where
  fails : ∀ ch, (t.chanU ch).fails = (s.chanU ch).fails
  selfRef : ∀ ch, (t.chanU ch).selfRef = (s.chanU ch).selfRef
  lastCheck : ∀ ch, (t.chanU ch).lastCheck = (s.chanU ch).lastCheck
  mpllOff : t.drc.mpllOff = s.drc.mpllOff
  stat : ∀ f, statStands f → t.fld Reg.DRC_STAT f = s.fld Reg.DRC_STAT f
  reg : ∀ a, a < Reg.DRC_STAT → a ≠ Reg.DEV_EV_LOST → t.reg a = s.reg a

namespace State.DramStands

variable {s t u : State}

theorem refl (s : State) : s.DramStands s := ⟨fun _ => rfl, fun _ => rfl, fun _ => rfl, rfl, fun _ _ => rfl, fun _ _ _ => rfl⟩

theorem trans (h : s.DramStands t) (k : t.DramStands u) : s.DramStands u :=
  ⟨fun ch => (k.fails ch).trans (h.fails ch), fun ch => (k.selfRef ch).trans (h.selfRef ch),
    fun ch => (k.lastCheck ch).trans (h.lastCheck ch), k.mpllOff.trans h.mpllOff, fun f hf => (k.stat f hf).trans (h.stat f hf),
    fun a ha hl => (k.reg a ha hl).trans (h.reg a ha hl)⟩

theorem foldl {α : Type} {f : State → α → State} (h : ∀ (s : State) (x : α), s.DramStands (f s x)) (l : List α) (s : State) :
    s.DramStands (l.foldl f s) := by
  induction l generalizing s with
  | nil => exact refl s
  | cons x l ih => exact (h s x).trans (ih (f s x))

theorem of_outside (h : t.outside Parts.besideDram = s.outside Parts.besideDram) : s.DramStands t := by
  have same := State.sameBut_of_outside h
  have hchan := State.chanU_congr (same.chan rfl)
  have hstat : t.reg Reg.DRC_STAT = s.reg Reg.DRC_STAT := same.reg _ (by simp +decide [Parts.besideDram])
  refine ⟨fun ch => by rw [hchan], fun ch => by rw [hchan], fun ch => by rw [hchan], by rw [same.drc rfl],
    fun f _ => State.fld_congr hstat f, fun a ha hl => same.reg a ?_⟩
  simp [Parts.besideDram, hl, Nat.le_of_lt ha]

theorem setChan {ch : Nat} {x : DramChan} (hfails : x.fails = (s.chanU ch).fails := by rfl)
    (hself : x.selfRef = (s.chanU ch).selfRef := by rfl) (hcheck : x.lastCheck = (s.chanU ch).lastCheck := by rfl) :
    s.DramStands (s.setChan ch x) := by
  have hproj : ∀ {β : Type} (π : DramChan → β), π x = π (s.chanU ch) → ∀ j, π ((s.setChan ch x).chanU j) = π (s.chanU j) := by
    intro β π h j
    rw [State.chanU_setChan]
    split
    · next hj => rw [h, hj]
    · rfl
  exact ⟨hproj _ hfails, hproj _ hself, hproj _ hcheck, rfl, fun _ _ => rfl, fun _ _ _ => rfl⟩

theorem withDrc {d : DramUnit} (h : d.mpllOff = s.drc.mpllOff := by rfl) : s.DramStands { s with drc := d } :=
  ⟨fun _ => rfl, fun _ => rfl, fun _ => rfl, h, fun _ _ => rfl, fun _ _ _ => rfl⟩

/-- A write of another field of DRC_STAT. -/
theorem setStat {f : Field} {v : Nat} (hf : f.lo ≤ f.hi ∧ f.hi < 32 := by decide)
    (hapart : 24 ≤ f.lo ∨ f.lo = 5 ∧ f.hi = 5 := by decide) : s.DramStands (s.setFld Reg.DRC_STAT f v) := by
  refine ⟨fun _ => rfl, fun _ => rfl, fun _ => rfl, rfl, fun g hg => ?_, fun a ha _ => s.reg_setFld_other (Nat.ne_of_lt ha) f v⟩
  obtain ⟨hord, hg⟩ := hg
  exact s.fld_setFld_apart _ hf hord (by omega) v

theorem flag (h : s.DramStands t) {f : Field} (hf : statStands f) : t.flag Reg.DRC_STAT f = s.flag Reg.DRC_STAT f := by
  rw [State.flag, h.stat f hf, State.flag]

end State.DramStands

/-! ### Refreshes and trainings -/

section
variable (s : State) (ch : Nat)

theorem State.noteInterval_stands (code : Nat) (bank : Option Nat) (ns : Nat) : s.DramStands (s.noteInterval ch code bank ns) :=
  .setChan

theorem State.put_stands (o : Out) : s.DramStands (s.put o) := .of_outside (s.put_outside o rfl)

theorem State.issueRefresh_stands : s.DramStands (s.issueRefresh ch) :=
  .trans .setChan (State.put_stands _ _)

theorem State.count_stands {a : Nat} (ha : Reg.DRC_STAT < a) (f : Field) : s.DramStands (s.count a f) :=
  .of_outside (State.count_outside _ _ _ (.inr ha))

theorem State.emit_stands (type u : Nat) (l : List Int) : s.DramStands (s.emit type u l) :=
  .of_outside (State.emit_outside _ _ _ _ Parts.besideDram_emits)

theorem State.catchUp_stands : s.DramStands (s.catchUp ch) := by
  unfold State.catchUp
  dsimp only
  split
  · exact .refl s
  · refine .trans (.trans ?_ (State.count_stands _ (by decide) _)) (State.noteInterval_stands _ _ _ _ _)
    exact .trans (.foldl (fun u _ => u.issueRefresh_stands ch) _ s) .setChan

theorem State.flushMerge_stands : s.DramStands s.flushMerge :=
  have hremap : ∀ n, Reg.DRC_STAT < Reg.ECC_REMAP n := fun n => by
    unfold Reg.DRC_STAT Reg.ECC_REMAP
    omega
  .of_outside (s.flushMerge_outside (by simp +decide [Parts.besideDram, Parts.all, Parts.emits, hremap]))

theorem State.startTraining_stands (t : Training) : s.DramStands (s.startTraining ch t) :=
  .trans .setChan .setStat

end

/-! ### Changes of the operating point that begin (R284, R285) -/

section
variable (s : State)

/-- A channel's rows are closed, and it is not in power-down. -/
def State.rowsClosed (ch : Nat) : State := s.setChan ch { s.chanU ch with openRow := [], down := false }

/-- The channels as a change finds them: the merge buffer flushed, the postponed refreshes made up, every row closed. -/
def State.channelsCleared : State := (List.range 2).foldl State.rowsClosed ((s.flushMerge.catchUp 0).catchUp 1)

/-- A change to point `op` has begun. -/
def State.changeBegun (op : Nat) : State :=
  let s := s.channelsCleared
  { s with drc := { s.drc with change := some (s.opNow, op), changeAt := s.time } }.raise Reg.DRC_STAT Fld.DRC_STAT_FREQ_BUSY

theorem State.beginPending_held
    (h : s.flag Reg.DRC_STAT Fld.DRC_STAT_PEND_V = false ∨ s.opBusy = true ∨ (s.chanU 0).selfRef = true) : s.beginPending = s := by
  rw [State.beginPending, if_pos]
  obtain h | h | h := h <;> simp [h]

theorem State.opNow_clearPend : (s.clear Reg.DRC_STAT Fld.DRC_STAT_PEND_V).opNow = s.opNow :=
  s.fld_setFld_apart _ ⟨by decide, by decide⟩ (by decide) (by decide) 0

/-- A pending change that nothing holds up begins, or ends at once where its point is in use. -/
theorem State.beginPending_free (hpend : s.flag Reg.DRC_STAT Fld.DRC_STAT_PEND_V = true) (hbusy : s.opBusy = false)
    (hself : (s.chanU 0).selfRef = false) : s.beginPending =
      if s.fld Reg.DRC_STAT Fld.DRC_STAT_OP_PEND = s.opNow then
        (s.clear Reg.DRC_STAT Fld.DRC_STAT_PEND_V).emit 0x0301 0xFF
          [s.fld Reg.DRC_STAT Fld.DRC_STAT_OP_PEND, s.fld Reg.DRC_STAT Fld.DRC_STAT_OP_PEND, 1, 0, 0]
      else (s.clear Reg.DRC_STAT Fld.DRC_STAT_PEND_V).changeBegun (s.fld Reg.DRC_STAT Fld.DRC_STAT_OP_PEND) := by
  rw [← s.opNow_clearPend, State.beginPending, if_neg (by simp [hpend, hbusy, hself])]
  rfl

theorem State.channelsCleared_stands : s.DramStands s.channelsCleared :=
  ((s.flushMerge_stands.trans (State.catchUp_stands _ 0)).trans (State.catchUp_stands _ 1)).trans
    (.foldl (fun _ _ => .setChan) _ _)

theorem State.clearPend_stands : s.DramStands (s.clear Reg.DRC_STAT Fld.DRC_STAT_PEND_V) :=
  .setStat

theorem State.changeBegun_stands (op : Nat) : s.DramStands (s.changeBegun op) :=
  s.channelsCleared_stands.trans (.trans .withDrc .setStat)

theorem State.beginPending_stands : s.DramStands s.beginPending := by
  by_cases hheld : s.flag Reg.DRC_STAT Fld.DRC_STAT_PEND_V = false ∨ s.opBusy = true ∨ (s.chanU 0).selfRef = true
  · rw [s.beginPending_held hheld]
    exact .refl s
  · simp only [not_or, Bool.not_eq_false, Bool.not_eq_true] at hheld
    obtain ⟨hpend, hbusy, hself⟩ := hheld
    rw [s.beginPending_free hpend hbusy hself]
    split
    · exact s.clearPend_stands.trans (State.emit_stands _ _ _ _)
    · exact s.clearPend_stands.trans (State.changeBegun_stands _ _)

theorem State.trainNext_stands (l : List (Nat × Training)) : s.DramStands (s.trainNext l) := by
  cases l with
  | nil => exact .trans .withDrc (State.beginPending_stands _)
  | cons q rest => exact .trans .withDrc (State.startTraining_stands _ _ _)

theorem State.requestOp_stands (op : Nat) : s.DramStands (s.requestOp op) := by
  unfold State.requestOp
  extract_lets pend old replaced
  have hreplaced : s.DramStands replaced := by
    unfold replaced
    split
    · exact .trans (.trans .setStat (State.count_stands _ (by decide) _)) (State.emit_stands _ _ _ _)
    · exact .refl s
  split
  · exact .refl s
  · exact hreplaced.trans (.trans .setStat (.trans .setStat (State.beginPending_stands _)))

end

end Sys2Proof.Machine
end

section
/-!
PROOF. Power-down and self-refresh of the DRAM; O34 settled.
-/
namespace Sys2Proof.Machine

/-! ### Power-down (R279) -/

theorem powerDownEntry_idle {s : State} {ch : Nat} (hch : ch < 2) (hwait : s.waitingOn ch = []) (hserves : s.serves ch = true)
    (hdeep : s.pstate ≠ 2) (hidle : s.idleClocks ≤ (s.time - (s.chanU ch).idleAt).toNat) :
    powerDownEntry s ch = s.setChan ch { s.chanU ch with down := true } := by
  have hlong : decide ((s.time - (s.chanU ch).idleAt).toNat < s.idleClocks) = false := decide_eq_false (Nat.not_lt.2 hidle)
  rw [powerDownEntry, if_neg]
  rw [hwait, hserves, hlong, beq_false_of_ne hdeep, decide_eq_false (Nat.not_le.2 hch)]
  decide

/-! ### Self-refresh begins (R279) -/

/-- Both channels enter self-refresh. -/
def State.channelsAsleep (s : State) : State :=
  (List.range 2).foldl (fun s ch => s.setChan ch { s.chanU ch with selfRef := true, down := false, openRow := [] }) s.flushMerge

theorem State.selfRef_channelsAsleep (s : State) {ch : Nat} (hch : ch < 2) : (s.channelsAsleep.chanU ch).selfRef = true :=
  State.foldl_channels (π := fun s => (s.chanU ch).selfRef) (g := fun _ => true) hch
    (fun u j => by
      rw [State.chanU_setChan]
      by_cases hj : j = ch <;> simp [hj, Ne.symm]) s.flushMerge

section
variable {s : State} (hdeep : s.pstate = 2) (hqueue : s.drc.queue = []) (hquiet : s.drcQuiet = true) (hbusy : s.opBusy = false)
  (hpost0 : (s.chanU 0).postponed = 0) (hpost1 : (s.chanU 1).postponed = 0)
include hdeep hqueue hquiet hbusy hpost0 hpost1

theorem selfRefreshEntry_due : selfRefreshEntry s =
    ({ s.channelsAsleep with drc := { s.channelsAsleep.drc with srAt := some s.channelsAsleep.time, mpllOff := false } }.setFld
      Reg.DRC_STAT Fld.DRC_STAT_SR 3).count Reg.DRC_SR_CNT word32 := by
  have hdeep' : s.fld Reg.MODE_STAT Fld.MODE_STAT_PSTATE = 2 := hdeep
  have hpost : (List.range 2).any (fun ch => (s.chanU ch).postponed != 0) = false := by
    simp [List.range_succ, hpost0, hpost1]
  rw [selfRefreshEntry, if_neg (by simp [hdeep', hqueue, hquiet, hbusy, hpost])]
  rfl

theorem selfRefreshEntry_leaves : (∀ ch, ch < 2 → ((selfRefreshEntry s).chanU ch).selfRef = true) ∧
    (selfRefreshEntry s).fld Reg.DRC_STAT Fld.DRC_STAT_SR = 3 := by
  rw [selfRefreshEntry_due hdeep hqueue hquiet hbusy hpost0 hpost1]
  refine ⟨fun ch hch => ?_, ?_⟩
  · rw [State.chanU_count, State.chanU_setFld, State.chanU_withDrc, s.selfRef_channelsAsleep hch]
  · rw [State.fld_congr (State.reg_count_other _ (by decide) _), State.fld_setFld_self _ _ ⟨by decide, by decide⟩]
    rfl

end

/-! ### The M-PLL stops (R279) -/

theorem mpllStop_due {s : State} (hself : (s.chanU 0).selfRef = true) (hqueue : s.drc.queue = [])
    (hlong : s.drc.srAt.any (fun u => decide (usTime 20 ≤ (s.time - u).toNat)) = true) :
    mpllStop s = { s with drc := { s.drc with mpllOff := true } }.clear Reg.CLK_STAT Fld.CLK_STAT_M_LOCK := by
  cases hat : s.drc.srAt with
  | none => simp [hat] at hlong
  | some u =>
    rw [hat, Option.any_some, decide_eq_true_iff] at hlong
    unfold mpllStop
    simp only [hat, hself, hqueue, hlong, decide_true, List.isEmpty_nil, Bool.and_self, if_true]

/-! ### Self-refresh ends (R280, R281) -/

/-- A channel leaves self-refresh, after a long stay with a new window of its activation tables. -/
def State.channelWoken (long : Bool) (code : Nat) (s : State) (ch : Nat) : State :=
  (s.setChan ch { (if long then (s.chanU ch).newWindow else s.chanU ch) with
    selfRef := false, refAt := s.time, idleAt := s.time,
    holdTil := s.time.toNat + nsTime (if code = 4 then 65400 else 400) }).noteInterval ch code none 0

theorem State.selfRef_channelWoken (long : Bool) (code : Nat) (s : State) (j ch : Nat) :
    ((s.channelWoken long code j).chanU ch).selfRef = if j = ch then false else (s.chanU ch).selfRef := by
  rw [State.channelWoken, State.noteInterval, State.chanU_setChan]
  by_cases hj : j = ch
  · simp [hj]
  · simp [hj, Ne.symm hj, State.chanU_setChan]

/-- Both channels serve again, the controller stands at `d`, and the M-PLL runs. -/
def State.selfRefreshEnded (s : State) (long : Bool) (code : Nat) (d : DramUnit) (w : Word) : State :=
  let s := { (List.range 2).foldl (State.channelWoken long code) s with drc := d }
  let s := ((s.setFld Reg.DRC_STAT Fld.DRC_STAT_SR 0).raise Reg.CLK_STAT Fld.CLK_STAT_M_LOCK).setReg Reg.DRC_SR_TIME w
  { s with drc := { s.drc with trained := true } }

/-- Once self-refresh has ended, the trainings that are due follow. -/
theorem State.exitSelfRefresh_trains {s : State} (hself : (s.chanU 0).selfRef = true) :
    ∃ long code d w l, d.mpllOff = false ∧ s.exitSelfRefresh = (s.selfRefreshEnded long code d w).trainNext l := by
  rw [State.exitSelfRefresh, if_neg (by simp [hself])]
  exact ⟨_, _, _, _, _, rfl, rfl⟩

theorem State.selfRef_selfRefreshEnded (s : State) (long : Bool) (code : Nat) (d : DramUnit) (w : Word) {ch : Nat} (hch : ch < 2) :
    ((s.selfRefreshEnded long code d w).chanU ch).selfRef = false := by
  rw [State.selfRefreshEnded, State.chanU_withDrc, State.chanU_setReg, State.chanU_raise, State.chanU_setFld, State.chanU_withDrc]
  exact State.foldl_channels (π := fun s => (s.chanU ch).selfRef) (g := fun _ => false) hch
    (fun u j => u.selfRef_channelWoken long code j ch) s

theorem State.mpllOff_selfRefreshEnded (s : State) (long : Bool) (code : Nat) (d : DramUnit) (w : Word) :
    (s.selfRefreshEnded long code d w).drc.mpllOff = d.mpllOff := rfl

theorem State.lock_selfRefreshEnded (s : State) (long : Bool) (code : Nat) (d : DramUnit) (w : Word) :
    (s.selfRefreshEnded long code d w).flag Reg.CLK_STAT Fld.CLK_STAT_M_LOCK = true := by
  rw [State.selfRefreshEnded, State.flag_withDrc, State.flag_congr (State.reg_setReg_other _ (by decide) w)]
  exact State.flag_raise _ _ ⟨by decide, by decide⟩

theorem State.exitSelfRefresh_leaves {s : State} (hself : (s.chanU 0).selfRef = true) :
    (∀ ch, ch < 2 → (s.exitSelfRefresh.chanU ch).selfRef = false) ∧ s.exitSelfRefresh.drc.mpllOff = false ∧
    s.exitSelfRefresh.flag Reg.CLK_STAT Fld.CLK_STAT_M_LOCK = true := by
  obtain ⟨long, code, d, w, l, hd, heq⟩ := State.exitSelfRefresh_trains hself
  have hstands := State.trainNext_stands (s.selfRefreshEnded long code d w) l
  rw [heq]
  refine ⟨fun ch hch => ?_, ?_, ?_⟩
  · rw [hstands.selfRef, State.selfRef_selfRefreshEnded _ _ _ _ _ hch]
  · rw [hstands.mpllOff, State.mpllOff_selfRefreshEnded, hd]
  · rw [State.flag_congr (hstands.reg _ (by decide) (by decide)), State.lock_selfRefreshEnded]

/-- Settles O34: each row's meaning has a frame, so it is the row's answer; the lemmas on power-down, on entry into self-refresh, on the
M-PLL and on the exit say what it leaves. -/
theorem dramPower : Obligations.DramPower := by
  unfold Obligations.DramPower
  refine ⟨?down, ?sleep, ?stop, ?wake⟩
  case down =>
    intro s ch hch hwait hserves hdeep hidle
    refine ⟨_, State.effect_of_outside (P := Parts.all) (powerDownEntry_outside s ch rfl), ?_⟩
    rw [powerDownEntry_idle hch hwait hserves hdeep hidle, State.chanU_setChan_self]
  case sleep =>
    intro s hdeep hqueue hquiet hbusy hpost0 hpost1
    obtain ⟨hself, hshown⟩ := selfRefreshEntry_leaves hdeep hqueue hquiet hbusy hpost0 hpost1
    exact ⟨_, State.effect_of_outside (P := Parts.all) (selfRefreshEntry_outside s (by simp [Parts.all, Parts.emits])),
      hself 0 (by decide), hself 1 (by decide), hshown⟩
  case stop =>
    intro s hself hqueue hlong
    refine ⟨_, State.effect_of_outside (P := Parts.all) (mpllStop_outside s ⟨rfl, trivial⟩), ?_⟩
    rw [mpllStop_due hself hqueue hlong]
    exact ⟨rfl, State.flag_clear _ ⟨by decide, by decide⟩⟩
  case wake =>
    intro s hself hwhy hresident
    have hexit : selfRefreshExit s = s.exitSelfRefresh := by
      rw [selfRefreshExit, if_neg]
      obtain hqueue | hrun := hwhy
      · simp [hqueue, hresident]
      · simp [hrun, hresident]
    obtain ⟨hawake, hmpll, hlock⟩ := State.exitSelfRefresh_leaves hself
    refine ⟨_, State.effect_of_outside (P := Parts.all) (selfRefreshExit_outside s (by simp [Parts.all, Parts.emits])), ?_⟩
    rw [hexit]
    exact ⟨hawake 0 (by decide), hawake 1 (by decide), hmpll, hlock⟩

end Sys2Proof.Machine
end

section
/-!
PROOF. The controller's settings: an access that reaches the DRAM's block leaves DRC_CFG and the ports' targets as they are. The frame
lemmas name FP_STAT of every number; a gate that shuts takes down ports 0 to 3 alone.
-/
namespace Sys2Proof.Machine

/-- DRC_CFG and the latency targets of the six ports. -/
def drcSetting (a : Nat) : Prop := a = Reg.DRC_CFG ∨ ∃ p < 6, a = Reg.DRC_PORT_TGT p

theorem drcSetting_drcCfg : drcSetting Reg.DRC_CFG := .inl rfl

theorem drcSetting_drcPortTgt {p : Nat} (hp : p < 6) : drcSetting (Reg.DRC_PORT_TGT p) := .inr ⟨p, hp, rfl⟩

theorem drcSetting_range {a : Nat} (h : drcSetting a) : a = 0x40004 ∨ 0x40100 ≤ a ∧ a < 0x401C0 := by
  obtain rfl | ⟨p, hp, rfl⟩ := h
  · exact .inl rfl
  · unfold Reg.DRC_PORT_TGT
    omega

theorem not_drcSetting {a : Nat} (h : a < 0x40004 ∨ 0x40004 < a ∧ a < 0x40100 ∨ 0x401C0 ≤ a) : ¬drcSetting a := fun ha => by
  have := drcSetting_range ha
  omega

theorem not_drcSetting_eccRemap (n : Nat) : ¬drcSetting (Reg.ECC_REMAP n) :=
  not_drcSetting (.inr (.inr (by unfold Reg.ECC_REMAP; omega)))

/-! ### Ports whose gate shuts (R319) -/

section
variable (s : State) {a : Nat}

theorem State.reg_clearLink {p : Nat} (hstat : a ≠ Reg.FP_STAT p) (hready : a ≠ Reg.CLK_READY) : (s.clearLink p).reg a = s.reg a := by
  have hset : ∀ (u : State) f v, (u.setFld (Reg.FP_STAT p) f v).reg a = u.reg a := fun u f v => u.reg_setFld_other hstat f v
  have hport : ∀ (u : State) x, (u.setPort p x).reg a = u.reg a := fun _ _ => rfl
  simp only [State.clearLink, State.setBit, State.setLink, State.reg_setFld_other _ hready, hport, hset,
    State.reg_setReg_other _ hstat]

variable (ha : drcSetting a)
include ha

theorem State.drcSetting_gatePorts : s.gatePorts.reg a = s.reg a := by
  refine List.foldlRecOn (motive := fun (u : State) => u.reg a = s.reg a) _ _ rfl fun u hu p hp => ?_
  have hp4 : p < 4 := List.mem_range.1 hp
  have hstat : a ≠ Reg.FP_STAT p := by
    have := drcSetting_range ha
    unfold Reg.FP_STAT
    omega
  have hready : a ≠ Reg.CLK_READY := by
    rintro rfl
    exact not_drcSetting (by decide) ha
  have hloss : (u.reportLoss p 0).reg a = u.reg a :=
    State.reg_of_sparing (kept := drcSetting) (u.reportLoss_outside p 0 ⟨rfl, rfl⟩) ha
  have htopo : ∀ u : State, u.topologyChange.reg a = u.reg a := fun _ => rfl
  split
  · rw [htopo, State.setLink, State.reg_setFld_other _ hstat, State.reg_clearLink _ hstat hready, hloss, hu]
  · exact hu

/-! ### An access reaches the DRAM (R321) -/

theorem State.drcSetting_openGate (g : Nat) : (s.openGate g).reg a = s.reg a :=
  State.reg_of_sparing (State.openGate_outside s g (by simp (disch := decide) [Parts.sparing, Parts.all, not_drcSetting])) ha

theorem State.drcSetting_enterPstate (ps : Nat) : (s.enterPstate ps).reg a = s.reg a := by
  have hmode : a ≠ Reg.MODE_STAT := by
    rintro rfl
    exact not_drcSetting (by decide) ha
  exact ((State.drcSetting_gatePorts _ ha).trans (State.reg_of_sparing (State.regate_outside _
    (by simp (disch := decide) [Parts.sparing, Parts.all, not_drcSetting])) ha)).trans (s.reg_setFld_other hmode _ ps)

theorem State.drcSetting_dramWoken (mode : Nat) : ((selfRefreshExit s).requestRates mode).reg a = s.reg a :=
  (State.reg_of_sparing (State.requestRates_outside _ mode ⟨rfl, rfl⟩) ha).trans
  (State.reg_of_sparing (selfRefreshExit_outside s
    (by simp (disch := decide) [Parts.sparing, Parts.all, Parts.emits, not_drcSetting, not_drcSetting_eccRemap])) ha)

theorem State.drcSetting_clusterPowered {c : Nat} (hc : c < 4) : (s.clusterPowered c).reg a = s.reg a := by
  have hne : a ≠ Reg.CL_STAT c := by
    rintro rfl
    exact not_drcSetting (.inl (by unfold Reg.CL_STAT; omega)) ha
  obtain h | h := s.reg_clusterPowered c a
  · exact h
  · exact h.trans (s.reg_setFld_other hne _ _)

theorem State.drcSetting_leaveDeep (ps : Nat) : (s.leaveDeep ps).reg a = s.reg a := by
  have hlock : a ≠ Reg.CLK_STAT := by
    rintro rfl
    exact not_drcSetting (by decide) ha
  have hpll : (s.pllLocked ps).reg a = s.reg a := (State.reg_raise_other _ hlock _).trans (s.drcSetting_enterPstate ha ps)
  rw [State.leaveDeep_eq, State.drcSetting_dramWoken _ ha]
  exact List.foldlRecOn (motive := fun (u : State) => u.reg a = s.reg a) _ _ hpll fun u hu c hc =>
    (u.drcSetting_clusterPowered ha (List.mem_range.1 hc)).trans hu

theorem State.drcSetting_reach (g : Nat) : (s.reach g).reg a = s.reg a := by
  have hwake : a ≠ Reg.CLK_WAKE_ACC := by
    rintro rfl
    exact not_drcSetting (by decide) ha
  unfold State.reach
  split
  · rfl
  · split
    · rw [State.drcSetting_openGate _ ha, State.reg_count_other _ hwake, State.drcSetting_leaveDeep _ ha]
    · exact s.drcSetting_openGate ha g

end

end Sys2Proof.Machine
end

section
/-!
PROOF. Trainings of the DRAM: those that begin, and how one that ends leaves its channel.
-/
namespace Sys2Proof.Machine

/-! ### Trainings that begin (R282) -/

theorem State.chanU_startTraining (s : State) (ch : Nat) (t : Training) :
    (s.startTraining ch t).chanU ch = { s.chanU ch with training := t, trainAt := s.time, again := false } := by
  rw [State.startTraining, State.showTraining, State.chanU_setFld, State.chanU_setChan_self]

theorem periodicTraining_due {s : State} {ch : Nat} (hch : ch < 2) (hquiet : s.drcQuiet = true) (hnone : s.drc.toTrain = [])
    (hdue : secTime 1 ≤ (s.time - (s.chanU ch).lastCheck).toNat) : periodicTraining s ch = s.startTraining ch .check := by
  have hcheck : s.checkDue ch = true := decide_eq_true hdue
  rw [periodicTraining, if_pos (by simp [hch, hquiet, hnone, hcheck])]

/-- Full training begins on a channel, and is to follow on the other. -/
theorem fullTraining_due {s : State} {ch : Nat} (hch : ch < 2) (hquiet : s.drcQuiet = true) (hdue : s.fullDue s.opNow = true) :
    fullTraining s ch = { s with drc := { s.drc with trained := true, toTrain := [(1 - ch, .full)] } }.startTraining ch .full := by
  rw [fullTraining, if_pos (by simp [hch, hquiet, hdue])]
  rfl

/-! ### Trainings that end within the margins or not (R283) -/

section
variable (s : State) (ch : Nat)

/-- What the end of a training tells of its channel: one failure more, in DRC_STAT too, or none. -/
def State.trainingJudged (failed : Bool) : State :=
  if failed then (s.setChan ch { s.chanU ch with fails := (s.chanU ch).fails + 1 }).raise Reg.DRC_STAT Fld.DRC_STAT_TRAIN_FAIL_S
  else s.setChan ch { s.chanU ch with fails := 0 }

theorem State.chanU_trainingJudged (failed : Bool) (j : Nat) : (s.trainingJudged ch failed).chanU j =
    if j = ch then { s.chanU ch with fails := if failed then (s.chanU ch).fails + 1 else 0 } else s.chanU j := by
  cases failed <;> exact s.chanU_setChan ch _ j

theorem State.flag_trainingJudged_apart (failed : Bool) {f : Field} (hf : f.lo ≤ f.hi) (hapart : 7 < f.lo ∨ f.hi < 7) :
    (s.trainingJudged ch failed).flag Reg.DRC_STAT f = s.flag Reg.DRC_STAT f := by
  cases failed
  · rfl
  · exact State.flag_raise_apart _ ⟨by decide, by decide⟩ hf hapart

theorem State.trainFailed_sameBut (op : Nat) (full : Bool) :
    (s.trainingJudged ch true).SameBut Parts.safety (s.trainFailed ch op full) := by
  refine State.sameBut_of_outside ?_
  unfold State.trainFailed
  extract_lets n _ failed told
  have htold : told.outside Parts.safety = failed.outside Parts.safety := State.emit_outside _ _ _ _ Parts.safety_emits
  split
  · exact (State.raiseCause_safety _ _ _ _).trans htold
  · exact htold

/-- Beyond the judgement itself, it reaches SMON's parts alone. -/
theorem State.changeTrained_sameBut (op : Nat) (full failed : Bool) :
    (s.trainingJudged ch failed).SameBut Parts.safety (s.changeTrained ch op full failed) := by
  cases failed
  · refine State.sameBut_of_outside ?_
    rw [State.changeTrained, if_neg (by decide), State.outside_ite, State.dropCause_outside _ _ (Parts.safety_regs (by decide)), ite_self]
    rfl
  · exact s.trainFailed_sameBut ch op full

theorem State.chanU_changeTrained (op : Nat) (full failed : Bool) (j : Nat) : (s.changeTrained ch op full failed).chanU j =
    if j = ch then { s.chanU ch with fails := if failed then (s.chanU ch).fails + 1 else 0 } else s.chanU j :=
  (State.chanU_congr ((s.changeTrained_sameBut ch op full failed).chan rfl) j).trans (s.chanU_trainingJudged ch failed j)

theorem State.time_changeTrained (op : Nat) (full failed : Bool) : (s.changeTrained ch op full failed).time = s.time := by
  rw [(s.changeTrained_sameBut ch op full failed).time rfl]
  cases failed <;> rfl

theorem State.drc_changeTrained (op : Nat) (full failed : Bool) : (s.changeTrained ch op full failed).drc = s.drc := by
  rw [(s.changeTrained_sameBut ch op full failed).drc rfl]
  cases failed <;> rfl

theorem State.drcStat_changeTrained (op : Nat) (full failed : Bool) :
    (s.changeTrained ch op full failed).reg Reg.DRC_STAT = (s.trainingJudged ch failed).reg Reg.DRC_STAT :=
  (s.changeTrained_sameBut ch op full failed).reg _ (fun h : Reg.DRC_STAT < 0x10000 => absurd h (by decide))

/-- A cause that becomes active is active, whatever else the entry to SAFE does (R428, R429). -/
theorem State.causeActive_raiseCause {c : Nat} (hc : c < 32) (htest : c ≠ 14) (rule unit : Nat) :
    (s.raiseCause c rule unit).causeActive c = true := by
  have henter : ∀ u : State, (u.enterSafe c rule unit).reg Reg.SAF_CAUSE = u.reg Reg.SAF_CAUSE := fun u => by
    have hutil : ∀ n, Reg.FP_UTIL n ≠ Reg.SAF_CAUSE := fun n => by
      unfold Reg.FP_UTIL Reg.SAF_CAUSE
      omega
    exact State.reg_of_sparing (kept := (· = Reg.SAF_CAUSE)) (u.enterSafe_outside c rule unit
      (by simp +decide [Parts.sparing, Parts.all, Parts.emits, hutil])) rfl
  rw [State.raiseCause, if_neg htest]
  split
  · assumption
  · rw [State.causeActive, State.regBit, henter]
    exact State.regBit_setBit _ _ hc

theorem State.causeActive_changeTrained (op : Nat) (full : Bool) (h : 2 ≤ (s.chanU ch).fails) :
    (s.changeTrained ch op full true).causeActive 10 = true := by
  rw [State.changeTrained, if_pos rfl, State.trainFailed, if_pos (Nat.succ_le_succ h)]
  exact State.causeActive_raiseCause _ (by decide) (by decide) _ _

/-! ### What follows on a training (R282, R285) -/

/-- A channel's training is over. -/
def State.trainingEnded (full : Bool) : State :=
  (s.setChan ch { s.chanU ch with
    training := .none, again := false, lastCheck := if full then (s.chanU ch).lastCheck else s.time }).showTraining

theorem State.trainingOver_stands (full ok : Bool) : (s.trainingEnded ch full).DramStands (s.trainingOver ch full ok) := by
  unfold State.trainingOver
  extract_lets x ended spaced counted _ judged whole
  have hcounted : ended.DramStands counted := (State.noteInterval_stands _ _ _ _ _).trans (State.count_stands _ (by decide) _)
  have hjudged : ended.DramStands judged := hcounted.trans .withDrc
  refine State.DramStands.trans ?_ (State.trainNext_stands _ _)
  split
  · refine hjudged.trans (.trans (t := judged.setTrained judged.opNow) .withDrc (.of_outside ?_))
    exact State.showTTrain_outside _ (.inr (by decide))
  · exact hjudged

end

section
variable {s : State} {ch : Nat} (hch : ch < 2) (htrains : (s.chanU ch).training ≠ .none)
  (hlong : (s.chanU ch).training.hold ≤ (s.time - (s.chanU ch).trainAt).toNat)
include hch htrains hlong

/-- A training that has held its channel for its time is over within the margins or at its repeat, and else is repeated. -/
theorem trainingDone_eq (ok : Bool) : trainingDone s ch ok =
    if ok = true ∨ (s.chanU ch).again = true then
      (s.changeTrained ch s.opNow ((s.chanU ch).training == .full) (!ok)).trainingOver ch ((s.chanU ch).training == .full) ok
    else s.setChan ch { s.chanU ch with again := true, trainAt := s.time } := by
  have hrunning : (decide (2 ≤ ch) || (s.chanU ch).training == .none ||
      decide ((s.time - (s.chanU ch).trainAt).toNat < (s.chanU ch).training.hold)) = false := by
    rw [decide_eq_false (Nat.not_le.2 hch), beq_false_of_ne htrains, decide_eq_false (Nat.not_lt.2 hlong)]
    rfl
  rw [trainingDone, if_neg (by rw [hrunning]; decide)]
  cases ok
  · cases hagain : (s.chanU ch).again <;> simp [State.changeTrained]
  · rfl

theorem trainingDone_ends {ok : Bool} (h : ok = true ∨ (s.chanU ch).again = true) : trainingDone s ch ok =
    (s.changeTrained ch s.opNow ((s.chanU ch).training == .full) (!ok)).trainingOver ch ((s.chanU ch).training == .full) ok :=
  (trainingDone_eq hch htrains hlong ok).trans (if_pos h)

theorem trainingDone_repeats (hagain : (s.chanU ch).again = false) :
    trainingDone s ch false = s.setChan ch { s.chanU ch with again := true, trainAt := s.time } :=
  (trainingDone_eq hch htrains hlong false).trans (if_neg (by simp [hagain]))

theorem fails_trainingDone {ok : Bool} (h : ok = true ∨ (s.chanU ch).again = true) :
    ((trainingDone s ch ok).chanU ch).fails = if !ok then (s.chanU ch).fails + 1 else 0 := by
  rw [trainingDone_ends hch htrains hlong h, (State.trainingOver_stands _ ch _ ok).fails, State.trainingEnded, State.showTraining,
    State.chanU_setFld, State.chanU_setChan_self, State.chanU_changeTrained, if_pos rfl]

/-- A check within the margins is the channel's last. -/
theorem lastCheck_trainingDone (hcheck : (s.chanU ch).training = .check) :
    ((trainingDone s ch true).chanU ch).lastCheck = s.time := by
  rw [trainingDone_ends hch htrains hlong (.inl rfl), (State.trainingOver_stands _ ch _ true).lastCheck, State.trainingEnded,
    State.showTraining, State.chanU_setFld, State.chanU_setChan_self, hcheck, ← s.time_changeTrained ch s.opNow false (!true)]
  rfl

theorem trainingDone_fails (hagain : (s.chanU ch).again = true) :
    (trainingDone s ch false).flag Reg.DRC_STAT Fld.DRC_STAT_TRAIN_FAIL_S = true ∧
    (2 ≤ (s.chanU ch).fails → (trainingDone s ch false).causeActive 10 = true) := by
  rw [trainingDone_ends hch htrains hlong (.inr hagain)]
  have hstands := State.trainingOver_stands (s.changeTrained ch s.opNow ((s.chanU ch).training == .full) (!false)) ch
    ((s.chanU ch).training == .full) false
  refine ⟨?_, fun hthird => ?_⟩
  · rw [hstands.flag ⟨by decide, by decide⟩, State.trainingEnded, State.showTraining,
      State.flag_setFld_apart _ ⟨by decide, by decide⟩ (by decide) (by decide), State.flag_setChan,
      State.flag_congr (s.drcStat_changeTrained ch _ _ _)]
    exact State.flag_raise _ _ ⟨by decide, by decide⟩
  · rw [State.causeActive, State.regBit, hstands.reg _ (by decide) (by decide), State.trainingEnded, State.showTraining,
      State.reg_setFld_other _ (by decide), State.reg_setChan]
    exact s.causeActive_changeTrained ch _ _ hthird

end

end Sys2Proof.Machine
end

section
/-!
PROOF. Operating points of the DRAM: writes of DRC_CFG and of the ports' targets, changes that begin, wait and end; O35 settled.
-/
namespace Sys2Proof.Machine

/-! ### Writes of the controller's settings (R27, R269, R270) -/

section
variable (s : State) (v : Word)

theorem drcCfgWrite_stands :
    (s.writeJudged Reg.DRC_CFG 0x333 (drcCfgReject v) v Reg.DRC_STAT Fld.DRC_STAT_CFG_REJ).DramStands (drcCfgWrite s v) := by
  unfold drcCfgWrite
  dsimp only
  split
  · exact .refl _
  · exact State.requestOp_stands _ _

theorem drcCfgWrite_takes : (drcCfgWrite s v).reg Reg.DRC_CFG = judged (s.reg Reg.DRC_CFG) 0x333 (drcCfgReject v) v ∧
    (drcCfgReject v ≠ 0 → (drcCfgWrite s v).flag Reg.DRC_STAT Fld.DRC_STAT_CFG_REJ = true) := by
  have hstands := drcCfgWrite_stands s v
  refine ⟨?_, fun hreject => ?_⟩
  · rw [hstands.reg _ (by decide) (by decide), State.reg_writeJudged_self _ _ _ _ _ _ _ (by decide)]
  · rw [hstands.flag ⟨by decide, by decide⟩, State.flag_writeJudged _ _ _ _ _ _ _ ⟨by decide, by decide⟩ hreject]

theorem drcPortTgtWrite_takes {p : Nat} (hp : p < 6) :
    (drcPortTgtWrite s p v).reg (Reg.DRC_PORT_TGT p) = judged (s.reg (Reg.DRC_PORT_TGT p)) 0xFFFF (drcTgtReject v) v ∧
    (drcTgtReject v ≠ 0 → (drcPortTgtWrite s p v).flag Reg.DRC_STAT Fld.DRC_STAT_CFG_REJ = true) := by
  have hne : Reg.DRC_PORT_TGT p ≠ Reg.DRC_STAT := by
    unfold Reg.DRC_PORT_TGT Reg.DRC_STAT
    omega
  rw [drcPortTgtWrite, if_neg (Nat.not_le.2 hp)]
  exact ⟨State.reg_writeJudged_self _ _ _ _ _ _ _ hne, State.flag_writeJudged _ _ _ _ _ _ _ ⟨by decide, by decide⟩⟩

end

/-! ### Changes that begin or wait (R284, R285) -/

section
variable (s : State)

theorem State.drcStat_channelsCleared : s.channelsCleared.reg Reg.DRC_STAT = s.reg Reg.DRC_STAT := by
  have hremap : ∀ n, Reg.ECC_REMAP n ≠ Reg.DRC_STAT := fun n => by
    unfold Reg.ECC_REMAP Reg.DRC_STAT
    omega
  have hflush : s.flushMerge.reg Reg.DRC_STAT = s.reg Reg.DRC_STAT :=
    State.reg_of_sparing (kept := (· = Reg.DRC_STAT)) (s.flushMerge_outside
      (by simp +decide [Parts.sparing, Parts.all, Parts.emits, hremap])) rfl
  have hcatch : ∀ (u : State) ch, (u.catchUp ch).reg Reg.DRC_STAT = u.reg Reg.DRC_STAT := fun u ch =>
    State.reg_of_sparing (kept := (· = Reg.DRC_STAT)) (u.catchUp_outside ch
      (by simp +decide [Parts.sparing, Parts.all])) rfl
  calc s.channelsCleared.reg Reg.DRC_STAT = ((s.flushMerge.catchUp 0).catchUp 1).reg Reg.DRC_STAT :=
        State.foldl_keeps (π := fun s => s.reg Reg.DRC_STAT) (f := State.rowsClosed) (fun _ _ => rfl) _ _
    _ = s.reg Reg.DRC_STAT := by rw [hcatch, hcatch, hflush]

theorem State.opNow_channelsCleared : s.channelsCleared.opNow = s.opNow := State.fld_congr s.drcStat_channelsCleared _

/-- A change that has begun is under way, and shows in FREQ_BUSY. -/
theorem State.changeBegun_leaves (op : Nat) : (s.changeBegun op).drc.change = some (s.opNow, op) ∧
    (s.changeBegun op).flag Reg.DRC_STAT Fld.DRC_STAT_FREQ_BUSY = true ∧
    (s.changeBegun op).flag Reg.DRC_STAT Fld.DRC_STAT_PEND_V = s.flag Reg.DRC_STAT Fld.DRC_STAT_PEND_V := by
  rw [State.changeBegun]
  refine ⟨?_, State.flag_raise _ _ ⟨by decide, by decide⟩, ?_⟩
  · rw [State.raise_drc, s.opNow_channelsCleared]
  · rw [State.flag_raise_apart _ ⟨by decide, by decide⟩ (by decide) (by decide), State.flag_withDrc,
      State.flag_congr s.drcStat_channelsCleared]

/-- A request for point `op` that replaces none. -/
def State.opRequested (op : Nat) : State :=
  (s.setFld Reg.DRC_STAT Fld.DRC_STAT_OP_PEND op).raise Reg.DRC_STAT Fld.DRC_STAT_PEND_V

theorem State.opPend_opRequested (op : Nat) :
    (s.opRequested op).fld Reg.DRC_STAT Fld.DRC_STAT_OP_PEND = op % 2 ^ fieldWidth Fld.DRC_STAT_OP_PEND := by
  rw [State.opRequested, State.raise, State.fld_setFld_apart _ _ ⟨by decide, by decide⟩ (by decide) (by decide),
    State.fld_setFld_self _ _ ⟨by decide, by decide⟩]

theorem State.pendV_opRequested (op : Nat) : (s.opRequested op).flag Reg.DRC_STAT Fld.DRC_STAT_PEND_V = true :=
  State.flag_raise _ _ ⟨by decide, by decide⟩

theorem State.opNow_opRequested (op : Nat) : (s.opRequested op).opNow = s.opNow := by
  rw [State.opNow, State.opRequested, State.raise, State.fld_setFld_apart _ _ ⟨by decide, by decide⟩ (by decide) (by decide),
    State.fld_setFld_apart _ _ ⟨by decide, by decide⟩ (by decide) (by decide), State.opNow]

theorem State.drc_opRequested (op : Nat) : (s.opRequested op).drc = s.drc := by
  rw [State.opRequested, State.raise_drc, State.setFld_drc]

theorem State.chanU_opRequested (op ch : Nat) : (s.opRequested op).chanU ch = s.chanU ch := by
  rw [State.opRequested, State.chanU_raise, State.chanU_setFld]

theorem State.opBusy_opRequested (op : Nat) : (s.opRequested op).opBusy = s.opBusy := by
  simp only [State.opBusy, State.drc_opRequested, State.chanU_opRequested]

/-- Every mode's point is one of the four that OP_PEND can hold. -/
theorem State.pointOf_lt (mode : Nat) : s.pointOf mode < 2 ^ fieldWidth Fld.DRC_STAT_OP_PEND := by
  have hfld : ∀ f : Field, fieldWidth f = 2 → s.fld Reg.DRC_CFG f < 4 := fun f hf => by
    have hlt : getField f (s.reg Reg.DRC_CFG) < 2 ^ fieldWidth f := Nat.mod_lt _ (by positivity)
    rwa [hf] at hlt
  unfold State.pointOf
  split
  · decide
  · split
    · exact hfld _ (by decide)
    · split
      · exact hfld _ (by decide)
      · exact hfld _ (by decide)

end

section
variable {s : State}

/-- A pending change that nothing holds up, and that is not to the point in use, begins. -/
theorem State.beginPending_begins (hpend : s.flag Reg.DRC_STAT Fld.DRC_STAT_PEND_V = true) (hbusy : s.opBusy = false)
    (hself : (s.chanU 0).selfRef = false) (hnew : s.fld Reg.DRC_STAT Fld.DRC_STAT_OP_PEND ≠ s.opNow) :
    s.beginPending.drc.change = some (s.opNow, s.fld Reg.DRC_STAT Fld.DRC_STAT_OP_PEND) ∧
    s.beginPending.flag Reg.DRC_STAT Fld.DRC_STAT_FREQ_BUSY = true ∧
    s.beginPending.flag Reg.DRC_STAT Fld.DRC_STAT_PEND_V = false := by
  obtain ⟨hchange, hshown, hpendV⟩ :=
    (s.clear Reg.DRC_STAT Fld.DRC_STAT_PEND_V).changeBegun_leaves (s.fld Reg.DRC_STAT Fld.DRC_STAT_OP_PEND)
  rw [s.beginPending_free hpend hbusy hself, if_neg hnew, hchange, hpendV, s.opNow_clearPend]
  exact ⟨rfl, hshown, State.flag_clear _ ⟨by decide, by decide⟩⟩

/-- Without a pending change, the present mode's point is requested where it is not in use. -/
theorem opPointChange_requests (hpend : s.flag Reg.DRC_STAT Fld.DRC_STAT_PEND_V = false) (hchange : s.drc.change = none)
    (hnew : s.pointOf s.curMode ≠ s.opNow) : opPointChange s = (s.opRequested (s.pointOf s.curMode)).beginPending := by
  rw [opPointChange, if_neg (by simp [hpend]), if_neg (by simp [hchange]), State.requestOp]
  dsimp only
  rw [if_neg (by simp [hnew]), if_neg (by simp [hpend])]
  rfl

end

/-! ### Changes that end (R284) -/

section
variable (op : Nat) (full : Bool) (failed : List Nat) (s : State)

/-- A channel serves again after a change, as its training has ended. -/
def State.channelBack (s : State) (ch : Nat) : State :=
  let s := s.changeTrained ch op full (failed.contains ch)
  (s.setChan ch { s.chanU ch with refAt := s.time, idleAt := s.time }).noteInterval ch 6 none 0

/-- No change is under way; the point is trained where its full training has succeeded on both channels. -/
def State.changeOver : State :=
  let s := if full && failed.all (fun ch => decide (2 ≤ ch)) then s.setTrained op else s
  { s with drc := { s.drc with change := none } }

/-- Both channels serve again after the change. -/
def State.channelsBack : State := (List.range 2).foldl (State.channelBack op full failed) (s.changeOver op full failed)

/-- The new point is in use. -/
def State.pointShown : State := (s.setFld Reg.DRC_STAT Fld.DRC_STAT_OP_NOW op).clear Reg.DRC_STAT Fld.DRC_STAT_FREQ_BUSY

/-- The counts and the record of a change from point `old` that has held the channels for `holding`. -/
def State.changeReported (old holding : Nat) : State :=
  let s := s.count Reg.DRC_TRAIN_CNT (if full then Fld.DRC_TRAIN_CNT_FULL else Fld.DRC_TRAIN_CNT_CHECK)
  let s := (s.count Reg.DRC_FREQ_CNT Fld.DRC_FREQ_CNT_CHANGES).showTTrain
  s.emit 0x0301 0xFF [old, op, 0, holding, bit full]

theorem State.fails_channelBack (ch j : Nat) : ((State.channelBack op full failed s j).chanU ch).fails =
    if j = ch then (if failed.contains ch then (s.chanU ch).fails + 1 else 0) else (s.chanU ch).fails := by
  rw [State.channelBack]
  dsimp only
  rw [State.noteInterval, State.chanU_setChan]
  by_cases hj : j = ch
  · subst hj
    rw [if_pos rfl, if_pos rfl, State.chanU_setChan_self, State.chanU_changeTrained, if_pos rfl]
  · rw [if_neg (Ne.symm hj), if_neg hj, State.chanU_setChan, if_neg (Ne.symm hj), State.chanU_changeTrained, if_neg (Ne.symm hj)]

theorem State.change_channelBack (ch : Nat) : (State.channelBack op full failed s ch).drc.change = s.drc.change := by
  have hdrc : (State.channelBack op full failed s ch).drc = (s.changeTrained ch op full (failed.contains ch)).drc := rfl
  rw [hdrc, s.drc_changeTrained]

theorem State.pendV_channelBack (ch : Nat) : (State.channelBack op full failed s ch).flag Reg.DRC_STAT Fld.DRC_STAT_PEND_V =
    s.flag Reg.DRC_STAT Fld.DRC_STAT_PEND_V := by
  have hreg : (State.channelBack op full failed s ch).reg Reg.DRC_STAT =
      (s.changeTrained ch op full (failed.contains ch)).reg Reg.DRC_STAT := rfl
  rw [State.flag_congr hreg, State.flag_congr (s.drcStat_changeTrained ch op full _),
    s.flag_trainingJudged_apart ch _ (by decide) (by decide)]

theorem State.changeOver_eq : ∃ d : DramUnit, d.change = none ∧ s.changeOver op full failed = { s with drc := d } := by
  rw [State.changeOver]
  split <;> exact ⟨_, rfl, rfl⟩

theorem State.channelsBack_leaves : (s.channelsBack op full failed).drc.change = none ∧
    (s.channelsBack op full failed).flag Reg.DRC_STAT Fld.DRC_STAT_PEND_V = s.flag Reg.DRC_STAT Fld.DRC_STAT_PEND_V ∧
    ∀ ch, ch < 2 → ((s.channelsBack op full failed).chanU ch).fails =
      if failed.contains ch then (s.chanU ch).fails + 1 else 0 := by
  obtain ⟨d, hnone, hover⟩ := s.changeOver_eq op full failed
  rw [State.channelsBack, hover]
  refine ⟨?_, ?_, fun ch hch => ?_⟩
  · exact (State.foldl_keeps (π := fun s => s.drc.change) (fun u j => u.change_channelBack op full failed j) _ _).trans hnone
  · exact State.foldl_keeps (π := fun s => s.flag Reg.DRC_STAT Fld.DRC_STAT_PEND_V)
      (fun u j => u.pendV_channelBack op full failed j) _ _
  · exact State.foldl_channels (π := fun s => (s.chanU ch).fails) (g := fun n => if failed.contains ch then n + 1 else 0) hch
      (fun u j => u.fails_channelBack op full failed ch j) _

theorem State.drcStat_changeReported (old holding : Nat) :
    (s.changeReported op full old holding).reg Reg.DRC_STAT = s.reg Reg.DRC_STAT := by
  rw [State.changeReported, State.emit_reg _ _ _ _ (by decide), State.showTTrain, State.reg_setFld_other _ (by decide),
    State.reg_count_other _ (by decide), State.reg_count_other _ (by decide)]

theorem State.drc_changeReported (old holding : Nat) : (s.changeReported op full old holding).drc = s.drc := by
  rw [State.changeReported, State.emit_drc, State.showTTrain, State.setFld_drc, State.count_drc, State.count_drc]

theorem State.chanU_changeReported (old holding ch : Nat) : (s.changeReported op full old holding).chanU ch = s.chanU ch := by
  rw [State.changeReported, State.chanU_emit, State.showTTrain, State.chanU_setFld, State.chanU_count, State.chanU_count]

theorem State.pendV_pointShown :
    (s.pointShown op).flag Reg.DRC_STAT Fld.DRC_STAT_PEND_V = s.flag Reg.DRC_STAT Fld.DRC_STAT_PEND_V := by
  rw [State.pointShown, State.flag_clear_apart _ ⟨by decide, by decide⟩ (by decide) (by decide),
    State.flag_setFld_apart _ ⟨by decide, by decide⟩ (by decide) (by decide)]

theorem State.opNow_pointShown :
    (s.pointShown op).fld Reg.DRC_STAT Fld.DRC_STAT_OP_NOW = op % 2 ^ fieldWidth Fld.DRC_STAT_OP_NOW := by
  rw [State.pointShown, State.clear, State.fld_setFld_apart _ _ ⟨by decide, by decide⟩ (by decide) (by decide),
    State.fld_setFld_self _ _ ⟨by decide, by decide⟩]

end

section
variable {s : State} {end_ : ChangeEnd} {old op : Nat} (hchange : s.drc.change = some (old, op))
  (hleast : (changeBounds (s.fullDue op)).1 ≤ end_.holding) (hmost : end_.holding ≤ (changeBounds (s.fullDue op)).2)
  (hpast : end_.holding * 2 ^ 32 ≤ (s.time - s.drc.changeAt).toNat * 100000000)
include hchange hleast hmost hpast

theorem drcFreqDone_ends : drcFreqDone s end_ =
    (((s.channelsBack op (s.fullDue op) end_.failed).pointShown op).changeReported op (s.fullDue op) old end_.holding).beginPending := by
  rw [drcFreqDone, hchange]
  dsimp only
  rw [if_neg]
  · rfl
  · simp only [Bool.or_eq_true, decide_eq_true_eq, not_or, Nat.not_lt]
    exact ⟨⟨hleast, hmost⟩, hpast⟩

/-- With none pending, a change that has ended leaves the new point in use and none under way. -/
theorem drcFreqDone_leaves (hpend : s.flag Reg.DRC_STAT Fld.DRC_STAT_PEND_V = false) :
    (drcFreqDone s end_).drc.change = none ∧
    (drcFreqDone s end_).fld Reg.DRC_STAT Fld.DRC_STAT_OP_NOW = op % 2 ^ fieldWidth Fld.DRC_STAT_OP_NOW ∧
    (drcFreqDone s end_).flag Reg.DRC_STAT Fld.DRC_STAT_FREQ_BUSY = false ∧
    ∀ ch, ch < 2 → ((drcFreqDone s end_).chanU ch).fails = if end_.failed.contains ch then (s.chanU ch).fails + 1 else 0 := by
  obtain ⟨hnone, hpendBack, hfails⟩ := s.channelsBack_leaves op (s.fullDue op) end_.failed
  have hstat := State.drcStat_changeReported op (s.fullDue op) ((s.channelsBack op (s.fullDue op) end_.failed).pointShown op) old
    end_.holding
  rw [drcFreqDone_ends hchange hleast hmost hpast, State.beginPending_held]
  · refine ⟨?_, ?_, ?_, fun ch hch => ?_⟩
    · rw [State.drc_changeReported, State.pointShown, State.clear_drc, State.setFld_drc, hnone]
    · rw [State.fld_congr hstat, State.opNow_pointShown]
    · rw [State.flag_congr hstat]
      exact State.flag_clear _ ⟨by decide, by decide⟩
    · rw [State.chanU_changeReported, State.pointShown, State.chanU_clear, State.chanU_setFld, hfails ch hch]
  · exact .inl (by rw [State.flag_congr hstat, State.pendV_pointShown, hpendBack, hpend])

end

/-- Settles O35: each row's meaning has a frame, so it is the row's answer; the lemmas on trainings, on the controller's settings and on
changes that begin, wait and end say what it leaves. -/
theorem dramTrainingAndPoints : Obligations.DramTrainingAndPoints := by
  have hdone : ∀ s ch ok, exec (.trainingDone ch ok) s = .next (trainingDone s ch ok) := fun s ch ok =>
    State.effect_of_outside (P := Parts.all) (trainingDone_outside s ch ok (by simp [Parts.all, Parts.emits]))
  have hpoint : ∀ s, exec .opPointChange s = .next (opPointChange s) := fun s =>
    State.effect_of_outside (P := Parts.all) (opPointChange_outside s (by simp [Parts.all, Parts.emits]))
  have hreach : ∀ s : State, (s.reach 7).outside Parts.all = s.outside Parts.all := fun s =>
    s.reach_outside 7 (by simp [Parts.all, Parts.emits])
  unfold Obligations.DramTrainingAndPoints
  refine ⟨?check, ?full, ?passed, ?repeated, ?failed, ?cfg, ?target, ?begins, ?waits, ?requested, ?ends⟩
  case check =>
    intro s ch hch hquiet hnone hdue
    refine ⟨_, State.effect_of_outside (P := Parts.all) (periodicTraining_outside s ch ⟨rfl, trivial⟩), ?_⟩
    rw [periodicTraining_due hch hquiet hnone hdue, State.chanU_startTraining]
    exact ⟨rfl, rfl⟩
  case full =>
    intro s ch hch hquiet hdue
    refine ⟨_, State.effect_of_outside (P := Parts.all) (fullTraining_outside s ch (by simp [Parts.all, Parts.emits])), ?_⟩
    rw [fullTraining_due hch hquiet hdue, State.chanU_startTraining]
    exact ⟨rfl, rfl⟩
  case passed =>
    intro s ch hch htrains hlong
    exact ⟨_, hdone s ch true, fails_trainingDone hch htrains hlong (.inl rfl), lastCheck_trainingDone hch htrains hlong⟩
  case repeated =>
    intro s ch hch htrains hlong hagain
    refine ⟨_, hdone s ch false, ?_⟩
    rw [trainingDone_repeats hch htrains hlong hagain, State.chanU_setChan_self]
    exact ⟨rfl, rfl, rfl⟩
  case failed =>
    intro s ch hch htrains hlong hagain
    exact ⟨_, hdone s ch false, fails_trainingDone hch htrains hlong (.inr hagain), trainingDone_fails hch htrains hlong hagain⟩
  case cfg =>
    intro s v hb
    refine ⟨_, State.answer_open (P := Parts.all) hb
      ((drcCfgWrite_outside _ v (by simp [Parts.all, Parts.emits])).trans (hreach s)), ?_⟩
    rw [← s.drcSetting_reach drcSetting_drcCfg 7]
    exact drcCfgWrite_takes (s.reach 7) v
  case target =>
    intro s p v hb hp
    refine ⟨_, State.answer_open (P := Parts.all) hb ((drcPortTgtWrite_outside _ p v (by simp [Parts.all])).trans (hreach s)), ?_⟩
    rw [← s.drcSetting_reach (drcSetting_drcPortTgt hp) 7]
    exact drcPortTgtWrite_takes (s.reach 7) v hp
  case begins =>
    intro s hpend hbusy hself hnew
    refine ⟨_, hpoint s, ?_⟩
    rw [opPointChange, if_pos hpend]
    exact State.beginPending_begins hpend hbusy hself hnew
  case waits =>
    intro s hpend hchange hheld hnew
    refine ⟨_, hpoint s, ?_⟩
    rw [opPointChange_requests hpend hchange hnew, State.beginPending_held, State.drc_opRequested]
    · exact ⟨s.pendV_opRequested _, s.opPend_opRequested _, hchange⟩
    · exact .inr (by rwa [State.opBusy_opRequested, State.chanU_opRequested])
  case requested =>
    intro s hpend hbusy hself hnew
    have hchange : s.drc.change = none := by
      simp only [State.opBusy, Bool.or_eq_false_iff, Option.isSome_eq_false_iff, Option.isNone_iff_eq_none] at hbusy
      obtain ⟨⟨hchange, -⟩, -⟩ := hbusy
      exact hchange
    have hop : (s.opRequested (s.pointOf s.curMode)).fld Reg.DRC_STAT Fld.DRC_STAT_OP_PEND = s.pointOf s.curMode :=
      (s.opPend_opRequested _).trans (Nat.mod_eq_of_lt (s.pointOf_lt _))
    obtain ⟨hbegun, hshown, -⟩ := State.beginPending_begins (s := s.opRequested (s.pointOf s.curMode)) (s.pendV_opRequested _)
      (by rwa [State.opBusy_opRequested]) (by rwa [State.chanU_opRequested]) (by rwa [hop, s.opNow_opRequested])
    refine ⟨_, hpoint s, ?_⟩
    rw [opPointChange_requests hpend hchange hnew, hbegun, hop, s.opNow_opRequested]
    exact ⟨rfl, hshown⟩
  case ends =>
    intro s end_ old op hchange hpend hleast hmost hpast
    exact ⟨_, State.effect_of_outside (P := Parts.all) (drcFreqDone_outside s end_ (by simp [Parts.all, Parts.emits])),
      drcFreqDone_leaves hchange hleast hmost hpast hpend⟩

end Sys2Proof.Machine
end

section
/-!
PROOF. What a whole cell's write, a read and a flush leave of the cells, of the merge buffer and of the count of read-modify-writes.
-/
namespace Sys2Proof.Machine

/-! ### Spare cells and the error log, as operations leave them -/

section
variable {s t : State} (a : Nat)

theorem State.spareOf_congr (h : t.ecc.remap = s.ecc.remap) : t.spareOf a = s.spareOf a := by
  rw [State.spareOf, State.spareOf, h]

theorem State.logOf_congr (h : t.ecc.log = s.ecc.log) : t.logOf a = s.logOf a := by
  rw [State.logOf, State.logOf, h]

end

section
variable (s : State) (cell : Nat)

@[simp] theorem State.setLog_log (l : List (Option LogEntry)) : (s.setLog l).ecc.log = l := by
  rw [State.setLog, State.setFld_ecc]

@[simp] theorem State.setLog_remap (l : List (Option LogEntry)) : (s.setLog l).ecc.remap = s.ecc.remap := by
  rw [State.setLog, State.setFld_ecc]

@[simp] theorem State.updLog_remap (f : LogEntry → LogEntry) : (s.updLog cell f).ecc.remap = s.ecc.remap := by
  unfold State.updLog
  split
  · exact s.setLog_remap _
  · rfl

@[simp] theorem State.dropBack_remap : (s.dropBack cell).ecc.remap = s.ecc.remap := s.updLog_remap cell _

theorem State.updLog_none (h : s.logOf cell = none) (f : LogEntry → LogEntry) : s.updLog cell f = s := by
  rw [State.updLog, h]

theorem State.logOf_lt {i : Nat} {e : LogEntry} (h : s.logOf cell = some (i, e)) : i < s.ecc.log.length := by
  obtain ⟨⟨x, j⟩, hx, hmap⟩ := List.mem_filterMap.1 (List.mem_of_find?_eq_some h)
  obtain ⟨y, -, hy⟩ := Option.map_eq_some_iff.1 hmap
  obtain ⟨rfl, -⟩ := Prod.mk.inj hy
  exact (List.mem_zipIdx' hx).1

/-- A change of a cell's log entry leaves the changed entry in the log. -/
theorem State.mem_log_updLog {i : Nat} {e : LogEntry} (h : s.logOf cell = some (i, e)) (f : LogEntry → LogEntry) :
    some (f e) ∈ (s.updLog cell f).ecc.log := by
  simp only [State.updLog, h, State.setLog_log]
  exact List.mem_set (s.logOf_lt cell h) _

end

/-! ### A cell stored and read (R289, R290) -/

section
variable (s : State) (a : Nat)

@[simp] theorem State.setCell_ecc (c : Cell) : (s.setCell a c).ecc = s.ecc := rfl

theorem State.flag_setCell (c : Cell) (b : Nat) (f : Field) : (s.setCell a c).flag b f = s.flag b f := rfl

theorem State.cellAt_setCell_self (c : Cell) : (s.setCell a c).cellAt a = c := Store.get_set_self s.blankCell s.cells a c

variable {s a} (hspare : s.spareOf a = none)
include hspare

/-- A cell that is not remapped, and for which no injection is armed, is stored with its check bits. -/
theorem State.storeCell_plain (harm : s.flag Reg.ECC_INJ Fld.ECC_INJ_ARMED = false) (prot : Nat) (poison : Bool) :
    s.storeCell a prot poison = s.setCell a (mkCell prot poison) := by
  simp only [State.storeCell, hspare, harm, Bool.false_and, Bool.false_eq_true, if_false]

theorem State.cellAt_readCell_self (flips : List Nat) :
    (s.readCell a flips).2.cellAt a = flips.foldl (fun c p => c.flip p) (s.cellAt a) := by
  simp only [State.readCell, hspare]
  split <;> exact State.cellAt_setCell_self s a _

/-- A cell whose stored check bits are right is read as it stands. -/
theorem State.readCell_clean (hsyn : (s.cellAt a).syndrome = 0) :
    s.readCell a [] = (((s.cellAt a).prot, .clean, 0), s.setCell a (s.cellAt a)) := by
  have hclass : classOfSyndrome 0 = .clean := rfl
  simp only [State.readCell, hspare, List.foldl_nil, hsyn, hclass]

end

/-! ### A whole cell is written (R290) -/

section
variable (s : State) {cell : Nat} (port data attr : Nat) (poison : Bool)

theorem cellAt_fullCellWrite_other {a : Nat} (h : a ≠ cell) : (fullCellWrite s port cell data attr poison).cellAt a = s.cellAt a := by
  unfold fullCellWrite
  split
  · rfl
  · rw [State.cellAt_storeCell_other _ h, State.cellAt_dropBack, State.cellAt_dropMerge]

theorem cellAt_fullCellWrite_self (hcell : cell < dramCells s.fac.variant) (hspare : s.spareOf cell = none)
    (harm : s.flag Reg.ECC_INJ Fld.ECC_INJ_ARMED = false) : (fullCellWrite s port cell data attr poison).cellAt cell =
      mkCell (data % 2 ^ 240 + (if port ≤ 2 then attr % 64 else 0) * 2 ^ 240) poison := by
  have hkept : ((s.dropMerge cell).dropBack cell).reg Reg.ECC_INJ = s.reg Reg.ECC_INJ :=
    State.reg_of_sparing (kept := (· = Reg.ECC_INJ)) ((State.dropBack_outside _ _ (by simp +decide [Parts.sparing, Parts.all])).trans
      (State.dropMerge_outside _ _ rfl)) rfl
  rw [fullCellWrite, if_neg (Nat.not_le.2 hcell), State.storeCell_plain]
  · exact State.cellAt_setCell_self _ _ _
  · exact (State.spareOf_congr cell (State.dropBack_remap _ _)).trans hspare
  · rwa [State.flag_congr hkept]

end

/-! ### A merge entry is flushed (R291, R292) -/

/-- The flush of an entry of a poisoned cell is reported. -/
def State.partialReported (s : State) (e : MergeEntry) (k : CellClass) : State :=
  if k = .poisoned then
    (s.raise Reg.ECC_STAT Fld.ECC_STAT_PARTIAL_POISON_S).emitLimited 0x0313 (cellChan e.cell) 0 (secTime 1) false 0
      (fun n => [e.cell, e.port, e.mask, n])
  else s

theorem State.partialReported_outside {P : Parts} (s : State) (e : MergeEntry) (k : CellClass)
    (hP : P.emits ∧ P.rate = true ∧ P.regs Reg.ECC_STAT) : (s.partialReported e k).outside P = s.outside P := by
  obtain ⟨hemits, hrate, hstat⟩ := hP
  rw [State.partialReported, State.outside_ite, State.emitLimited_outside _ _ _ _ _ _ _ _ ⟨hemits, hrate⟩,
    State.raise_outside _ _ _ hstat, ite_self]

section
variable (s : State) (e : MergeEntry) (flips : List Nat)

/-- An entry leaves the merge buffer for a read-modify-write, which is counted. -/
def State.takenOut : State := (s.dropMerge e.cell).count Reg.ECC_RMW_CNT Fld.ECC_RMW_CNT_RMW

theorem State.takenOut_remap : (s.takenOut e).ecc.remap = s.ecc.remap := by
  rw [State.takenOut, State.count_ecc, State.dropMerge]

theorem State.takenOut_log : (s.takenOut e).ecc.log = s.ecc.log := by
  rw [State.takenOut, State.count_ecc, State.dropMerge]

/-- The cell of the entry has been read and the read noted. -/
def State.flushNoted : State :=
  let p := (s.takenOut e).readCell e.cell flips
  (p.2.noteRead e.cell 2 e.port p.1).partialReported e p.1.2.1

/-- The protected bits that a flush writes: the attributes as read, the data with the entry's nibbles. -/
def MergeEntry.over (prot : Nat) : Nat := prot / 2 ^ 240 * 2 ^ 240 + mergeNibbles (prot % 2 ^ 240) e.data e.mask

theorem State.flushEntry_eq : s.flushEntry e flips = ((s.flushNoted e flips).dropBack e.cell).storeCell e.cell
    (e.over ((s.takenOut e).readCell e.cell flips).1.1) ((s.takenOut e).readCell e.cell flips).1.2.1.bad := rfl

theorem State.cellAt_flushEntry_other {a : Nat} (h : a ≠ e.cell) : (s.flushEntry e flips).cellAt a = s.cellAt a := by
  have hnoted : (s.flushNoted e flips).cellAt a = ((s.takenOut e).readCell e.cell flips).2.cellAt a :=
    (State.cellAt_of_outside (State.partialReported_outside _ _ _ (by simp [Parts.butCells, Parts.all, Parts.emits])) a).trans
      (State.cellAt_noteRead _ _ _ _ _ a)
  rw [State.flushEntry_eq, State.cellAt_storeCell_other _ h, State.cellAt_dropBack, hnoted, State.cellAt_readCell_other _ h,
    State.takenOut, State.cellAt_count, State.cellAt_dropMerge]

theorem State.merge_flushEntry : (s.flushEntry e flips).ecc.merge = s.ecc.merge.filter (fun x => x.cell != e.cell) := by
  have hreported : ∀ (u : State) k, (u.partialReported e k).ecc = u.ecc := fun u k =>
    State.ecc_of_outside (State.partialReported_outside _ _ _ (by simp [Parts.butEcc, Parts.all, Parts.emits]))
  rw [State.flushEntry_eq, State.storeCell_merge, State.dropBack_merge, State.flushNoted, hreported, State.noteRead_merge,
    State.readCell_merge]
  rfl

/-- A flush counts one read-modify-write. -/
theorem State.rmw_flushEntry : (s.flushEntry e flips).fld Reg.ECC_RMW_CNT Fld.ECC_RMW_CNT_RMW =
    satInc (fieldWidth Fld.ECC_RMW_CNT_RMW) (s.fld Reg.ECC_RMW_CNT Fld.ECC_RMW_CNT_RMW) := by
  have hremap : ∀ n, Reg.ECC_REMAP n ≠ Reg.ECC_RMW_CNT := fun n => by
    unfold Reg.ECC_RMW_CNT Reg.ECC_REMAP
    omega
  have hkept : (s.flushEntry e flips).reg Reg.ECC_RMW_CNT = (s.takenOut e).reg Reg.ECC_RMW_CNT := by
    refine State.reg_of_sparing (kept := (· = Reg.ECC_RMW_CNT)) ?_ rfl
    rw [State.flushEntry_eq, State.storeCell_outside, State.dropBack_outside, State.flushNoted, State.partialReported_outside,
      State.noteRead_outside, State.readCell_outside]
    all_goals simp +decide [Parts.sparing, Parts.all, Parts.emits, hremap]
  rw [State.fld_congr hkept]
  exact State.fld_count_self (s.dropMerge e.cell) _ ⟨by decide, by decide⟩

variable {s e}

/-- The flush of an entry whose cell is clean, neither remapped nor in the log nor chosen for an injection, stores the merged data. -/
theorem State.cellAt_flushEntry_clean (hlog : s.logOf e.cell = none) (hspare : s.spareOf e.cell = none)
    (harm : s.flag Reg.ECC_INJ Fld.ECC_INJ_ARMED = false) (hsyn : (s.cellAt e.cell).syndrome = 0) :
    (s.flushEntry e []).cellAt e.cell = mkCell (e.over (s.cellAt e.cell).prot) false := by
  have hne : Reg.ECC_INJ ≠ Reg.ECC_RMW_CNT := by decide
  have hsame : (s.takenOut e).cellAt e.cell = s.cellAt e.cell :=
    (State.cellAt_count _ _ _ _).trans (State.cellAt_dropMerge s _ _)
  have hunmapped : (s.takenOut e).spareOf e.cell = none := (State.spareOf_congr e.cell (s.takenOut_remap e)).trans hspare
  have hread := State.readCell_clean hunmapped (by rwa [hsame])
  have hnoted : s.flushNoted e [] = (s.takenOut e).setCell e.cell (s.cellAt e.cell) := by
    simp only [State.flushNoted, hread, hsame, State.noteRead, State.partialReported, reduceCtorEq, if_false]
  have hdrop : (s.flushNoted e []).dropBack e.cell = s.flushNoted e [] := by
    rw [hnoted, State.dropBack, State.updLog_none]
    exact (State.logOf_congr e.cell (s := s) (by rw [State.setCell_ecc, State.takenOut_log])).trans hlog
  rw [State.flushEntry_eq, hdrop, hread, hsame, State.storeCell_plain]
  · exact State.cellAt_setCell_self _ _ _
  · rw [hnoted]
    exact (State.spareOf_congr e.cell (by rw [State.setCell_ecc])).trans hunmapped
  · rw [hnoted, State.flag_setCell, State.takenOut, State.flag_congr (State.reg_count_other _ hne _)]
    exact harm

end

/-! ### The entry of a cell is flushed -/

section
variable (s : State) {cell : Nat} (flips : List Nat)

theorem State.flushCell_held {e : MergeEntry} (h : s.ecc.merge.find? (fun e => e.cell == cell) = some e) :
    s.flushCell cell flips = s.flushEntry e flips ∧ e.cell = cell := by
  refine ⟨?_, by simpa using List.find?_some h⟩
  rw [State.flushCell, h]

theorem State.flushCell_absent (h : ∀ e ∈ s.ecc.merge, e.cell ≠ cell) : s.flushCell cell flips = s := by
  have hnone : s.ecc.merge.find? (fun e => e.cell == cell) = none := List.find?_eq_none.2 (by simpa using h)
  rw [State.flushCell, hnone]

theorem State.cellAt_flushCell_other {a : Nat} (h : a ≠ cell) : (s.flushCell cell flips).cellAt a = s.cellAt a := by
  cases hfind : s.ecc.merge.find? (fun e => e.cell == cell) with
  | none =>
    rw [State.flushCell_absent]
    simpa using hfind
  | some e =>
    obtain ⟨hflush, rfl⟩ := s.flushCell_held flips hfind
    rw [hflush, State.cellAt_flushEntry_other _ _ _ h]

end

end Sys2Proof.Machine
end

section
/-!
PROOF. Reads of cells by a port and by the scrubber, write-backs, and what a narrow write leaves of the merge buffer; O36 settled.
-/
namespace Sys2Proof.Machine

/-! ### A port reads a cell (R289, R301) -/

section
variable (s : State) (port cell a : Nat) (flips : List Nat)

theorem State.cellAt_withEcc (x : EccUnit) : ({ s with ecc := x } : State).cellAt a = s.cellAt a := rfl

theorem State.cellAt_emitSafetyHeld (type u : Nat) (l : List Int) : (s.emitSafetyHeld type u l).cellAt a = s.cellAt a :=
  State.cellAt_of_outside (State.emitSafetyHeld_outside s type u l (by simp [Parts.butCells, Parts.all, Parts.emits])) a

theorem State.cellAt_emit (type u : Nat) (l : List Int) : (s.emit type u l).cellAt a = s.cellAt a :=
  State.cellAt_of_outside (State.emit_outside s type u l (by simp [Parts.butCells, Parts.all, Parts.emits])) a

/-- After the flush of the cell's merge entry, a port's read changes what the read of the cell does. -/
theorem State.cellAt_portRead : (s.portRead port cell flips).2.cellAt a =
    ((s.flushCell cell flips).readCell cell (if s.ecc.merge.any (fun e => e.cell == cell) then [] else flips)).2.cellAt a := by
  unfold State.portRead
  dsimp only
  rw [apply_ite (fun u : State => u.cellAt a), State.cellAt_emitSafetyHeld, State.cellAt_withEcc, ite_self, State.cellAt_noteRead]

variable {s port cell} (hcell : cell < dramCells s.fac.variant)
include hcell

theorem cellAt_dramCellRead : (dramCellRead s port cell flips).cellAt a = (s.portRead port cell flips).2.cellAt a := by
  have hput : ∀ (u : State) o, (u.put o).cellAt a = u.cellAt a := fun _ _ => rfl
  have hcause : ∀ (u : State), (u.raiseCause 6 305 0).cellAt a = u.cellAt a := fun u =>
    State.cellAt_of_outside (State.raiseCause_outside u 6 305 0 (by simp [Parts.butCells, Parts.all, Parts.emits])) a
  rw [dramCellRead, if_neg (Nat.not_le.2 hcell)]
  dsimp only
  split
  · rfl
  · split
    · rw [hcause, hput]
    · exact hput _ _

variable {a}

theorem cellAt_dramCellRead_other (h : a ≠ cell) : (dramCellRead s port cell flips).cellAt a = s.cellAt a := by
  rw [cellAt_dramCellRead a flips hcell, State.cellAt_portRead, State.cellAt_readCell_other _ h, State.cellAt_flushCell_other _ _ h]

theorem cellAt_dramCellRead_self (hspare : s.spareOf cell = none) (hmerge : ∀ e ∈ s.ecc.merge, e.cell ≠ cell) :
    (dramCellRead s port cell flips).cellAt cell = flips.foldl (fun c p => c.flip p) (s.cellAt cell) := by
  have hnone : s.ecc.merge.any (fun e => e.cell == cell) = false := by simpa using hmerge
  rw [cellAt_dramCellRead cell flips hcell, State.cellAt_portRead, State.flushCell_absent _ _ hmerge, hnone,
    State.cellAt_readCell_self hspare]
  rfl

end

/-! ### A write-back (R296) -/

section
variable (s : State) (cell : Nat)

theorem State.cellAt_updLog (f : LogEntry → LogEntry) (a : Nat) : (s.updLog cell f).cellAt a = s.cellAt a :=
  State.cellAt_of_outside (State.updLog_outside s cell f ⟨rfl, trivial⟩) a

variable {s cell}

theorem eccWriteback_due {i prot : Nat} {e : LogEntry} (hlog : s.logOf cell = some (i, e)) (hback : e.back = some prot) :
    eccWriteback s cell = ((s.storeCell cell prot false).updLog cell (fun e => { e with state := 1, back := none })).emit 0x0314
      (cellChan cell) [cell, e.rep] := by
  simp only [eccWriteback, hlog, hback]

theorem cellAt_eccWriteback_other {a : Nat} (h : a ≠ cell) : (eccWriteback s cell).cellAt a = s.cellAt a := by
  unfold eccWriteback
  split
  · split
    · rw [State.cellAt_emit, State.cellAt_updLog, State.cellAt_storeCell_other _ h]
    · rfl
  · rfl

theorem eccWriteback_stores {i prot : Nat} {e : LogEntry} (hlog : s.logOf cell = some (i, e)) (hback : e.back = some prot)
    (hspare : s.spareOf cell = none) (harm : s.flag Reg.ECC_INJ Fld.ECC_INJ_ARMED = false) :
    (eccWriteback s cell).cellAt cell = mkCell prot false ∧
      ∃ x, some x ∈ (eccWriteback s cell).ecc.log ∧ x.cell = e.cell ∧ x.state = 1 ∧ x.back = none := by
  rw [eccWriteback_due hlog hback, State.storeCell_plain hspare harm]
  refine ⟨?_, { e with state := 1, back := none }, ?_, rfl, rfl, rfl⟩
  · rw [State.cellAt_emit, State.cellAt_updLog, State.cellAt_setCell_self]
  · rw [State.emit_ecc]
    exact State.mem_log_updLog _ cell ((State.logOf_congr cell (by rw [State.setCell_ecc])).trans hlog) _

end

/-! ### A flush by age (R291, R292) -/

section
variable {s : State} {cell : Nat} (flips : List Nat)

theorem cellAt_mergeFlush_other {a : Nat} (h : a ≠ cell) : (mergeFlush s cell flips).cellAt a = s.cellAt a := by
  unfold mergeFlush
  split
  · exact State.cellAt_flushCell_other s flips h
  · rfl

/-- Where an entry of the cell is 1 µs old, the first one of the cell is flushed. -/
theorem mergeFlush_due {e : MergeEntry} (hmem : e ∈ s.ecc.merge) (hcell : e.cell = cell) (hold : usTime 1 ≤ (s.time - e.at_).toNat) :
    mergeFlush s cell flips = s.flushCell cell flips := by
  rw [mergeFlush, if_pos (List.any_eq_true.2 ⟨e, hmem, by rw [hcell, beq_self_eq_true, decide_eq_true hold, Bool.and_self]⟩)]

theorem mergeFlush_removes {e : MergeEntry} (hmem : e ∈ s.ecc.merge) (hcell : e.cell = cell)
    (hold : usTime 1 ≤ (s.time - e.at_).toNat) : (∀ x ∈ (mergeFlush s cell flips).ecc.merge, x.cell ≠ cell) ∧
      (mergeFlush s cell flips).fld Reg.ECC_RMW_CNT Fld.ECC_RMW_CNT_RMW =
        satInc (fieldWidth Fld.ECC_RMW_CNT_RMW) (s.fld Reg.ECC_RMW_CNT Fld.ECC_RMW_CNT_RMW) := by
  obtain ⟨x, hx⟩ := Option.isSome_iff_exists.1 ((List.find?_isSome (p := fun e => e.cell == cell)).2 ⟨e, hmem, by simp [hcell]⟩)
  obtain ⟨hflush, rfl⟩ := s.flushCell_held flips hx
  rw [mergeFlush_due flips hmem hcell hold, hflush, State.merge_flushEntry, State.rmw_flushEntry]
  refine ⟨fun y hy => ?_, rfl⟩
  simpa using (List.mem_filter.1 hy).2

end

/-! ### Narrow writes (R291) -/

section
variable {s : State} {port cell data mask : Nat}

theorem State.cellAt_roomInMerge_other {a : Nat} (h : ∀ e, s.ecc.merge.head? = some e → e.cell ≠ a) :
    s.roomInMerge.cellAt a = s.cellAt a := by
  unfold State.roomInMerge
  split
  · rfl
  · split
    · next old hold => exact State.cellAt_flushEntry_other s old [] (h old hold).symm
    · rfl

/-- A merge buffer of at most eight entries has a place once room has been made. -/
theorem State.length_roomInMerge (h : s.ecc.merge.length ≤ 8) : s.roomInMerge.ecc.merge.length < 8 := by
  rw [State.roomInMerge]
  split
  · assumption
  · cases hmerge : s.ecc.merge with
    | nil => simp [hmerge]
    | cons old rest =>
      have hrest : rest.length < 8 := by simpa [hmerge] using h
      simp only [List.head?_cons, State.merge_flushEntry, hmerge, List.filter_cons, bne_self_eq_false, Bool.false_eq_true, if_false]
      exact Nat.lt_of_le_of_lt (List.length_filter_le _ _) hrest

theorem MergeEntry.mask_mk (cell data mask port : Nat) (t : Time) : (MergeEntry.mk cell data mask port t).mask = mask := rfl

theorem MergeEntry.merged_mask (e : MergeEntry) (data mask : Nat) : (e.merged data mask).mask = e.mask ||| mask % 2 ^ 60 := by
  rw [MergeEntry.merged, MergeEntry.mask_mk]

theorem State.cellAt_withMerge (s : State) (l : List MergeEntry) (a : Nat) : (s.withMerge l).cellAt a = s.cellAt a := rfl

/-- Beside its own cell a narrow write changes at most the cell of the entry that it displaces. -/
theorem cellAt_narrowWrite_other {a : Nat} (hne : a ≠ cell) (hhead : ∀ e, s.ecc.merge.head? = some e → e.cell ≠ a) :
    (narrowWrite s port cell data mask).cellAt a = s.cellAt a := by
  by_cases hcell : dramCells s.fac.variant ≤ cell
  · rw [narrowWrite_beyond hcell]
  cases hfind : (s.dropBack cell).ecc.merge.find? (fun e => e.cell == cell) with
  | some e =>
    have hinto : (s.mergesInto cell).cellAt a = s.cellAt a := (State.cellAt_count _ _ _ a).trans (State.cellAt_dropBack s cell a)
    rw [narrowWrite_held hcell hfind]
    split
    · rw [cellAt_fullCellWrite_other _ _ _ _ _ hne, hinto]
    · rw [State.cellAt_withMerge, hinto]
  | none =>
    rw [narrowWrite_new hcell hfind]
    split
    · rw [cellAt_fullCellWrite_other _ _ _ _ _ hne, State.cellAt_dropBack]
    · rw [State.cellAt_withMerge, State.cellAt_roomInMerge_other (by rwa [State.dropBack_merge]), State.cellAt_dropBack]

theorem narrowWrite_leavesEntry (hcell : cell < dramCells s.fac.variant) (hfind : s.ecc.merge.find? (fun e => e.cell == cell) = none)
    (hmask : mask % 2 ^ 60 ≠ allNibbles) :
    (∃ e ∈ (narrowWrite s port cell data mask).ecc.merge, e.cell = cell ∧ e.mask = mask % 2 ^ 60 ∧ e.port = port) ∧
      (s.ecc.merge.length ≤ 8 → (narrowWrite s port cell data mask).ecc.merge.length ≤ 8) := by
  rw [narrowWrite_new (Nat.not_le.2 hcell) (by rwa [State.dropBack_merge]), if_neg hmask]
  refine ⟨⟨_, List.mem_append_right _ (List.mem_singleton_self _), rfl, rfl, rfl⟩, fun hlen => ?_⟩
  have hroom := State.length_roomInMerge (s := s.dropBack cell) (by rwa [State.dropBack_merge])
  rw [State.withMerge, List.length_append]
  exact hroom

theorem narrowWrite_addsNibbles {m : MergeEntry} (hcell : cell < dramCells s.fac.variant)
    (hfind : s.ecc.merge.find? (fun e => e.cell == cell) = some m) (hmask : m.mask ||| mask % 2 ^ 60 ≠ allNibbles) :
    ∃ x ∈ (narrowWrite s port cell data mask).ecc.merge, x.cell = cell ∧ x.mask = m.mask ||| mask % 2 ^ 60 := by
  have hm : m.cell = cell := by simpa using List.find?_some hfind
  have hmem : m ∈ (s.mergesInto cell).ecc.merge := by
    rw [State.mergesInto, State.count_ecc, State.dropBack_merge]
    exact List.mem_of_find?_eq_some hfind
  rw [narrowWrite_held (Nat.not_le.2 hcell) (by rwa [State.dropBack_merge]),
    if_neg (by rwa [MergeEntry.merged_mask])]
  exact ⟨m.merged data mask, List.mem_map.2 ⟨m, hmem, if_pos hm⟩, (m.merged_cell data mask).trans hm, m.merged_mask data mask⟩

end

/-! ### The scrubber reads a cell (R302, R303) -/

section
variable (s : State) (cell : Nat) (flips : List Nat)

/-- The lap that may have ended is noted, the read counted, and the cell's merge entry flushed. -/
def State.scrubReady : State := ((eccScrubLapDone s).scrubCount (cellChan cell)).flushCell cell flips

/-- What the scrubber reads of the cell, and the state with the read noted. -/
def State.scrubNoted : (Nat × CellClass × Nat) × State :=
  let p := (s.scrubReady cell flips).readCell cell
    (if ((eccScrubLapDone s).scrubCount (cellChan cell)).ecc.merge.any (fun e => e.cell == cell) then [] else flips)
  (p.1, p.2.noteRead cell 1 15 p.1)

/-- Whether the log holds the cell as WEAK. -/
def State.isWeak (s : State) (cell : Nat) : Bool := match s.logOf cell with | some (_, e) => e.state == 3 | none => false

/-- What has been read goes back where it must (R298, R302), and the lap counts it. -/
def State.scrubStored (s : State) (cell : Nat) (p : Nat × CellClass × Nat) : State :=
  match p.2.1 with
  | .corrected _ => if s.isWeak cell || (s.spareOf cell).isSome then s else s.storeCell cell p.1 false
  | .uncorrectable =>
    let s := { s with ecc := { s.ecc with lapUnc := s.ecc.lapUnc + 1 } }
    if (s.spareOf cell).isSome then s else s.storeCell cell p.1 true
  | .poisoned => { s with ecc := { s.ecc with lapPoi := s.ecc.lapPoi + 1 } }
  | .clean => s

/-- The scrubber's position moves on. -/
def State.scrubMoved (s : State) (cell : Nat) : State :=
  { s with ecc := { s.ecc with lapped := decide ((cell + 1) % dramCells s.fac.variant = 0) } }.setFld Reg.ECC_SCRUB_POS
    Fld.ECC_SCRUB_POS_CELL ((cell + 1) % dramCells s.fac.variant)

theorem scrubRead_free {s : State} {cell : Nat} (hpos : s.fld Reg.ECC_SCRUB_POS Fld.ECC_SCRUB_POS_CELL = cell)
    (hfree : s.scrubFree (cellChan cell) = true) (hvigil : s.scrubVigil = true) (flips : List Nat) :
    scrubRead s flips = ((s.scrubNoted cell flips).2.scrubStored cell (s.scrubNoted cell flips).1).scrubMoved cell := by
  subst hpos
  rw [scrubRead, if_neg (by simp [hfree, hvigil])]
  rfl

theorem State.cellAt_scrubStored_other (p : Nat × CellClass × Nat) {a : Nat} (h : a ≠ cell) :
    (s.scrubStored cell p).cellAt a = s.cellAt a := by
  unfold State.scrubStored
  dsimp only
  split
  · split
    · rfl
    · exact State.cellAt_storeCell_other s h _ _
  · split
    · rfl
    · exact State.cellAt_storeCell_other _ h _ _
  · rfl
  · rfl

theorem State.cellAt_scrubNoted_other {a : Nat} (h : a ≠ cell) : (s.scrubNoted cell flips).2.cellAt a = s.cellAt a := by
  have hcounted : ((eccScrubLapDone s).scrubCount (cellChan cell)).cellAt a = s.cellAt a := by
    refine State.cellAt_of_outside ?_ a
    rw [State.scrubCount_outside _ _ ⟨rfl, rfl⟩, eccScrubLapDone_outside _ (by simp [Parts.butCells, Parts.all, Parts.emits])]
  rw [State.scrubNoted, State.cellAt_noteRead, State.cellAt_readCell_other _ h, State.scrubReady, State.cellAt_flushCell_other _ _ h,
    hcounted]

theorem State.cellAt_scrubMoved (a : Nat) : (s.scrubMoved cell).cellAt a = s.cellAt a :=
  (State.cellAt_of_outside (State.setFld_outside _ _ _ _ trivial) a).trans (State.cellAt_withEcc s a _)

theorem State.pos_scrubMoved : (s.scrubMoved cell).fld Reg.ECC_SCRUB_POS Fld.ECC_SCRUB_POS_CELL =
    (cell + 1) % dramCells s.fac.variant % 2 ^ fieldWidth Fld.ECC_SCRUB_POS_CELL :=
  State.fld_setFld_self _ _ ⟨by decide, by decide⟩ _

theorem State.fac_scrubMoved : (s.scrubMoved cell).fac = s.fac := by
  rw [State.scrubMoved, State.setFld_fac]

end

section
variable {s : State} {cell : Nat} (hpos : s.fld Reg.ECC_SCRUB_POS Fld.ECC_SCRUB_POS_CELL = cell)
  (hfree : s.scrubFree (cellChan cell) = true) (hvigil : s.scrubVigil = true) (flips : List Nat)
include hpos hfree hvigil

theorem scrubRead_leaves : (∀ a, a ≠ cell → (scrubRead s flips).cellAt a = s.cellAt a) ∧
    (scrubRead s flips).fld Reg.ECC_SCRUB_POS Fld.ECC_SCRUB_POS_CELL =
      (cell + 1) % dramCells s.fac.variant % 2 ^ fieldWidth Fld.ECC_SCRUB_POS_CELL := by
  have hfac : (scrubRead s flips).fac = s.fac :=
    (State.sameBut_of_outside (scrubRead_outside (P := Parts.all) s flips (by simp [Parts.all, Parts.emits]))).fac
  rw [scrubRead_free hpos hfree hvigil] at hfac ⊢
  refine ⟨fun a ha => ?_, ?_⟩
  · rw [State.cellAt_scrubMoved, State.cellAt_scrubStored_other _ _ _ ha, State.cellAt_scrubNoted_other _ _ _ ha]
  · rw [State.pos_scrubMoved, ← hfac, State.fac_scrubMoved]

end

/-- Settles O36: each row's meaning has a frame, so it is the row's answer; the lemmas on whole and narrow writes, reads, write-backs,
flushes and scrub reads say what it leaves. -/
theorem dramCellsAndMerging : Obligations.DramCellsAndMerging := by
  have hnarrow : ∀ s port cell data mask, exec (.narrowWrite port cell data mask) s = .next (narrowWrite s port cell data mask) :=
    fun s port cell data mask => State.effect_of_outside (P := Parts.all)
      (narrowWrite_outside s port cell data mask (by simp [Parts.all, Parts.emits]))
  have hback : ∀ s cell, exec (.eccWriteback cell) s = .next (eccWriteback s cell) := fun s cell =>
    State.effect_of_outside (P := Parts.all) (eccWriteback_outside s cell (by simp [Parts.all, Parts.emits]))
  have hflush : ∀ s cell flips, exec (.mergeFlush cell flips) s = .next (mergeFlush s cell flips) := fun s cell flips =>
    State.effect_of_outside (P := Parts.all) (mergeFlush_outside s cell flips (by simp [Parts.all, Parts.emits]))
  unfold Obligations.DramCellsAndMerging
  refine ⟨?full, ?read, ?back, ?written, ?narrow, ?flush, ?aged, ?merged, ?scrub, ?entry, ?nibbles⟩
  case full =>
    intro s port cell data attr poison hcell
    exact ⟨_, State.effect_of_outside (P := Parts.all) (fullCellWrite_outside s port cell data attr poison (by simp [Parts.all])),
      cellAt_fullCellWrite_self s port data attr poison hcell, fun _ ha => cellAt_fullCellWrite_other s port data attr poison ha⟩
  case read =>
    intro s port cell flips hcell
    exact ⟨_, State.effect_of_outside (P := Parts.all) (dramCellRead_outside s port cell flips (by simp [Parts.all, Parts.emits])),
      fun _ ha => cellAt_dramCellRead_other flips hcell ha, cellAt_dramCellRead_self flips hcell⟩
  case back => exact fun s cell => ⟨_, hback s cell, fun _ => cellAt_eccWriteback_other⟩
  case written => exact fun s cell _ _ _ hlog hdue hspare harm => ⟨_, hback s cell, eccWriteback_stores hlog hdue hspare harm⟩
  case narrow => exact fun s port cell data mask _ => ⟨_, hnarrow s port cell data mask, fun _ => cellAt_narrowWrite_other⟩
  case flush => exact fun s cell flips => ⟨_, hflush s cell flips, fun _ => cellAt_mergeFlush_other flips⟩
  case aged =>
    rintro s cell flips ⟨e, hmem, hcell, hold⟩
    exact ⟨_, hflush s cell flips, mergeFlush_removes flips hmem hcell hold⟩
  case merged =>
    intro s cell e hfind hold hlog hspare harm hsyn
    obtain ⟨heq, rfl⟩ := s.flushCell_held [] hfind
    refine ⟨_, hflush s e.cell [], ?_⟩
    rw [mergeFlush_due [] (List.mem_of_find?_eq_some hfind) rfl hold, heq]
    exact State.cellAt_flushEntry_clean hlog hspare harm hsyn
  case scrub =>
    intro s flips cell hpos hfree hvigil
    exact ⟨_, State.effect_of_outside (P := Parts.all) (scrubRead_outside s flips (by simp [Parts.all, Parts.emits])),
      scrubRead_leaves hpos hfree hvigil flips⟩
  case entry =>
    exact fun s port cell data mask hcell hfind hmask => ⟨_, hnarrow s port cell data mask, narrowWrite_leavesEntry hcell hfind hmask⟩
  case nibbles =>
    exact fun s port cell data mask m hcell hfind hmask => ⟨_, hnarrow s port cell data mask, narrowWrite_addsNibbles hcell hfind hmask⟩

end Sys2Proof.Machine
end

section
/-!
PROOF. The end of a lap, the log's and the injection's registers, and single errors of SRAM: what each leaves.
-/
namespace Sys2Proof.Machine

/-! ### A lap ends (R294, R302) -/

section
variable (s : State)

/-- The length of the lap in seconds, up to the largest number of its field. -/
def State.lapSecs : Nat := min ((s.time - s.ecc.lapStart).toNat / 2 ^ 32) 65535

/-- The lap's number and length are shown. -/
def State.lapShown : State :=
  (s.setFld Reg.ECC_SCRUB_LAP Fld.ECC_SCRUB_LAP_LAPS (s.fld Reg.ECC_SCRUB_LAP Fld.ECC_SCRUB_LAP_LAPS + 1)).setFld Reg.ECC_SCRUB_LAP
    Fld.ECC_SCRUB_LAP_SECONDS s.lapSecs

/-- The record of the lap is written. -/
def State.lapTold : State :=
  s.lapShown.emit 0x0319 0xFF [s.lapSecs, s.lapShown.ecc.lapCorr, s.lapShown.ecc.lapUnc, s.lapShown.ecc.lapPoi]

/-- A new lap begins. -/
def State.lapBegun : State :=
  { s with ecc := { s.ecc with lapStart := s.time, lapCorr := 0, lapUnc := 0, lapPoi := 0, reported := [], lapped := false,
                               log := s.ecc.log.map (fun e => e.map (fun e => { e with lap := 0 })) } }

theorem State.endLap_eq : s.endLap = s.lapTold.lapBegun := rfl

theorem State.fld_lapBegun (a : Nat) (f : Field) : s.lapBegun.fld a f = s.fld a f := rfl

theorem State.lapBegun_counts : s.lapBegun.ecc.lapCorr = 0 ∧ s.lapBegun.ecc.lapUnc = 0 ∧ s.lapBegun.ecc.lapPoi = 0 ∧
    s.lapBegun.ecc.lapStart = s.time := ⟨rfl, rfl, rfl, rfl⟩

theorem State.laps_lapTold : s.lapTold.fld Reg.ECC_SCRUB_LAP Fld.ECC_SCRUB_LAP_LAPS =
    (s.fld Reg.ECC_SCRUB_LAP Fld.ECC_SCRUB_LAP_LAPS + 1) % 2 ^ fieldWidth Fld.ECC_SCRUB_LAP_LAPS := by
  have hne : Reg.ECC_SCRUB_LAP ≠ Reg.DEV_EV_LOST := by decide
  rw [State.lapTold, State.fld_congr (State.emit_reg _ _ _ _ hne), State.lapShown,
    State.fld_setFld_apart _ _ ⟨by decide, by decide⟩ (by decide) (by decide), State.fld_setFld_self _ _ ⟨by decide, by decide⟩]

theorem State.time_lapTold : s.lapTold.time = s.time := by
  rw [State.lapTold, State.emit_time, State.lapShown, State.setFld_time, State.setFld_time]

end

theorem eccScrubLapDone_leaves {s : State} (h : s.ecc.lapped = true) :
    (eccScrubLapDone s).fld Reg.ECC_SCRUB_LAP Fld.ECC_SCRUB_LAP_LAPS =
      (s.fld Reg.ECC_SCRUB_LAP Fld.ECC_SCRUB_LAP_LAPS + 1) % 2 ^ fieldWidth Fld.ECC_SCRUB_LAP_LAPS ∧
    (eccScrubLapDone s).ecc.lapCorr = 0 ∧ (eccScrubLapDone s).ecc.lapUnc = 0 ∧ (eccScrubLapDone s).ecc.lapPoi = 0 ∧
    (eccScrubLapDone s).ecc.lapStart = s.time := by
  rw [eccScrubLapDone, if_pos h, State.endLap_eq, State.fld_lapBegun, State.laps_lapTold, ← s.time_lapTold]
  exact ⟨rfl, s.lapTold.lapBegun_counts⟩

/-! ### The log's registers (R295, R308) -/

/-- Clearing the log keeps the WEAK entries alone. -/
theorem mem_log_eccLogClr (s : State) (x : LogEntry) : some x ∈ (eccLogClr s).ecc.log ↔ some x ∈ s.ecc.log ∧ x.state = 3 := by
  rw [eccLogClr, State.setLog_log, List.mem_map]
  constructor
  · rintro ⟨e, he, hx⟩
    cases e with
    | none => cases hx
    | some y =>
      obtain ⟨hweak, hy⟩ := Option.ite_none_right_eq_some.1 hx
      obtain rfl := Option.some.inj hy
      exact ⟨he, hweak⟩
  · rintro ⟨hx, hweak⟩
    exact ⟨some x, hx, if_pos hweak⟩

/-- What has been latched for a reader is what it finds (R77). -/
theorem State.latched_setLatch_self (s : State) (reg : Nat) (who : Reader) (l : List Nat) :
    (s.setLatch reg who l).latched reg who = some l := by
  unfold State.setLatch State.latched
  dsimp only
  simp only [List.find?_cons, beq_self_eq_true, Option.map_some]

/-! ### The injection's register (R309) -/

theorem State.flag_setFld_bit (s : State) (a : Nat) {f : Field} (hf : Field.inWord f) (b : Bool) :
    (s.setFld a f (bit b)).flag a f = b := by
  cases b
  · exact State.flag_clear s hf
  · exact State.flag_raise s a hf

section
variable (s : State) (v : Word)

/-- A MODE that the injection does not accept: other than 0 outside SERVICE, or for a remapped cell. -/
def State.injRefused : Bool :=
  getField Fld.ECC_INJ_MODE v != 0 && (!s.inService || (s.spareOf (s.fld Reg.ECC_INJ_ADDR Fld.ECC_INJ_ADDR_CELL)).isSome)

/-- The write of ECC_INJ, judged; ARMED does not follow yet. -/
def State.injWritten : State :=
  s.writeJudged Reg.ECC_INJ 0x3FF (rejectIf (s.injRefused v) Fld.ECC_INJ_MODE) v Reg.ECC_STAT Fld.ECC_STAT_CFG_REJ

theorem eccInjArm_eq : eccInjArm s v = (s.injWritten v).setFld Reg.ECC_INJ Fld.ECC_INJ_ARMED
    (bit ((s.injWritten v).fld Reg.ECC_INJ Fld.ECC_INJ_MODE != 0)) := rfl

theorem State.mode_injWritten : (s.injWritten v).fld Reg.ECC_INJ Fld.ECC_INJ_MODE =
    if s.injRefused v then s.fld Reg.ECC_INJ Fld.ECC_INJ_MODE else getField Fld.ECC_INJ_MODE v := by
  have hne : Reg.ECC_INJ ≠ Reg.ECC_STAT := by decide
  rw [State.fld, State.injWritten, State.reg_writeJudged_self _ _ _ _ _ _ _ hne]
  cases s.injRefused v
  · exact getField_judged_taken (by decide)
  · exact getField_judged_kept (by decide)

theorem mode_eccInjArm : (eccInjArm s v).fld Reg.ECC_INJ Fld.ECC_INJ_MODE =
    if s.injRefused v then s.fld Reg.ECC_INJ Fld.ECC_INJ_MODE else getField Fld.ECC_INJ_MODE v := by
  rw [eccInjArm_eq, State.fld_setFld_apart _ _ ⟨by decide, by decide⟩ (by decide) (by decide), State.mode_injWritten]

theorem armed_eccInjArm : (eccInjArm s v).flag Reg.ECC_INJ Fld.ECC_INJ_ARMED =
    decide ((eccInjArm s v).fld Reg.ECC_INJ Fld.ECC_INJ_MODE ≠ 0) := by
  rw [mode_eccInjArm, ← State.mode_injWritten, eccInjArm_eq, State.flag_setFld_bit _ _ ⟨by decide, by decide⟩]
  exact Bool.eq_iff_iff.2 (by rw [bne_iff_ne, decide_eq_true_iff])

variable {s v}

theorem cfgRej_eccInjArm (h : s.injRefused v = true) : (eccInjArm s v).flag Reg.ECC_STAT Fld.ECC_STAT_CFG_REJ = true := by
  have hne : Reg.ECC_STAT ≠ Reg.ECC_INJ := by decide
  rw [eccInjArm_eq, State.flag_congr (State.reg_setFld_other _ hne _ _), State.injWritten, h]
  exact State.flag_writeJudged _ _ _ _ _ _ _ ⟨by decide, by decide⟩ (by decide)

theorem eccInjArm_taken (hserv : s.inService = true)
    (hspare : (s.spareOf (s.fld Reg.ECC_INJ_ADDR Fld.ECC_INJ_ADDR_CELL)).isNone = true) :
    (eccInjArm s v).fld Reg.ECC_INJ Fld.ECC_INJ_MODE = getField Fld.ECC_INJ_MODE v := by
  have hopen : s.injRefused v = false := by
    rw [State.injRefused, hserv, Option.isNone_iff_eq_none.1 hspare]
    simp
  rw [mode_eccInjArm, hopen, if_neg Bool.false_ne_true]

theorem eccInjArm_refused (hserv : s.inService = false) (hmode : getField Fld.ECC_INJ_MODE v ≠ 0) :
    (eccInjArm s v).fld Reg.ECC_INJ Fld.ECC_INJ_MODE = s.fld Reg.ECC_INJ Fld.ECC_INJ_MODE ∧
      (eccInjArm s v).flag Reg.ECC_STAT Fld.ECC_STAT_CFG_REJ = true := by
  have hshut : s.injRefused v = true := by
    rw [State.injRefused, hserv, bne_iff_ne.2 hmode]
    rfl
  exact ⟨by rw [mode_eccInjArm, if_pos hshut], cfgRej_eccInjArm hshut⟩

end

end Sys2Proof.Machine
end

section
/-!
PROOF. Errors of SRAM words: what the poisoned word leaves of the protection unit's registers, and where its poison stands; O37 settled.
The frame lemmas name CL_STAT and FP_UTIL of every number; the clusters are four, and packets leave by ports 0 to 3 alone.
-/
namespace Sys2Proof.Machine

/-! ### A cluster's fault reaches no register from the DRAM's blocks on (R192) -/

section
variable (s : State) {a : Nat} (ha : 0x40000 ≤ a)
include ha

theorem State.reg_raiseCause_high (c rule unit : Nat) : (s.raiseCause c rule unit).reg a = s.reg a :=
  (State.sameBut_of_outside (s.raiseCause_safety c rule unit)).reg a fun h : a < 0x10000 => by omega

theorem ne_of_high {r : Nat} (hr : r < 0x40000) : a ≠ r := (Nat.lt_of_lt_of_le hr ha).ne'

theorem State.reg_leaveCluster_high (c i : Nat) (d : NodeDef) : (s.leaveCluster c i d).reg a = s.reg a := by
  have hcause : a ≠ Reg.SAF_CAUSE := ne_of_high ha (by decide)
  have hlost : a ≠ Reg.DEV_EV_LOST := ne_of_high ha (by decide)
  have hnode : ∀ (u : State) x, (u.setNode i x).reg a = u.reg a := fun _ _ => rfl
  unfold State.leaveCluster
  simp only [apply_ite (fun u : State => u.reg a), State.reg_raiseCause_high _ ha, State.emitSafetyHeld, State.push_reg _ _ hlost,
    State.dropCause, State.setBit, State.reg_setFld_other _ hcause, hnode, ite_self]

theorem State.reg_showEngine_high : s.showEngine.reg a = s.reg a := by
  have hEng : a ≠ Reg.ENG_STAT := ne_of_high ha (by decide)
  have hother : ∀ c < 4, a ≠ Reg.CL_STAT c ∧ a ≠ Reg.CL_LOAD c ∧ a ≠ Reg.CL_XYUSE c ∧ a ≠ Reg.CL_CUSE c ∧
      a ≠ Reg.CL_WMAX c := fun c hc => by
    unfold Reg.CL_STAT Reg.CL_LOAD Reg.CL_XYUSE Reg.CL_CUSE Reg.CL_WMAX
    omega
  unfold State.showEngine
  refine List.foldlRecOn (motive := fun (u : State) => u.reg a = s.reg a) _ _ ?_ fun u hu c hc => ?_
  · rw [State.reg_setFld_other _ hEng, State.reg_setFld_other _ hEng, State.reg_setFld_other _ hEng]
  · obtain ⟨hstat, hload, hxy, hcuse, hwmax⟩ := hother c (List.mem_range.1 hc)
    split
    · exact hu
    · rw [State.reg_setReg_other _ hwmax, State.reg_setReg_other _ hcuse, State.reg_setReg_other _ hxy,
        State.reg_setFld_other _ hload, State.reg_setFld_other _ hstat, hu]

theorem State.reg_failed_high {c : Nat} (hc : c < 4) (cause : Nat) : (s.failed c cause).reg a = s.reg a := by
  have hgate : a ≠ Reg.CLK_GATE_OPEN := ne_of_high ha (by decide)
  have hEng : a ≠ Reg.ENG_STAT := ne_of_high ha (by decide)
  have hstat : a ≠ Reg.CL_STAT c := ne_of_high ha (by unfold Reg.CL_STAT; omega)
  have hcyc : a ≠ Reg.CL_CYC c := ne_of_high ha (by unfold Reg.CL_CYC; omega)
  rw [State.failed, State.reg_setClu, State.setBit, State.reg_setFld_other _ hgate, State.reg_raise_other _ hEng, State.setBit,
    State.reg_setFld_other _ hEng, State.reg_setFld_other _ hstat, State.reg_setFld_other _ hstat, State.reg_abandoned s c hcyc]

theorem State.reg_vacated_high (c : Nat) (l : List Int) : (s.vacated c l).reg a = s.reg a := by
  have hleave : ∀ (u : State) (p : NodeDef × Nat), (u.leaveCluster c p.2 p.1).reg a = u.reg a := fun u p =>
    u.reg_leaveCluster_high ha c p.2 p.1
  rw [State.vacated, State.foldl_keeps (π := fun u => u.reg a) hleave]
  exact s.push_reg _ (ne_of_high ha (by decide))

theorem reg_clusterFault_high (c cause : Nat) : (clusterFault s c cause).reg a = s.reg a := by
  by_cases hpresent : hasCl s.fac.variant c = true
  · by_cases hstate : s.clState c = clFailed
    · rw [clusterFault, if_pos (by simp [hstate])]
    · obtain ⟨l, hfault⟩ := clusterFault_eq s c cause hpresent hstate
      rw [hfault, State.reg_showEngine_high _ ha, State.reg_vacated_high _ ha, State.reg_failed_high s ha (hasCl_lt hpresent)]
  · rw [clusterFault, if_pos (by simp [hpresent])]

/-! ### A word is poisoned (R304, R305) -/

/-- Of the words that may be poisoned, those that hold a cluster's program alone reach registers. -/
theorem State.reg_spoil_high (w : SramWord) : (s.spoil w).reg a = s.reg a := by
  cases w with
  | logic c => exact reg_clusterFault_high s ha c 2
  | _ => rfl

theorem State.reg_spoilOne_high (l : List SramWord) : (s.spoilOne l).reg a = s.reg a := by
  unfold State.spoilOne
  dsimp only
  split
  · exact State.reg_spoil_high _ ha _
  · rfl

theorem State.reg_verifyP_high (n : Nat) : (s.verifyP n).reg a = s.reg a :=
  (s.verifyP_sameBut n).reg a fun h : a < 0x10000 => by omega

theorem State.reg_setCalPoison_high (key : Nat) (b : Bool) : (s.setCalPoison key b).reg a = s.reg a := by
  have hset : ∀ e, (s.setCal key e).reg a = s.reg a := fun _ => rfl
  have hverifyW : ∀ (u : State) n, (u.verifyW n).reg a = u.reg a := fun u n => u.reg_verifyP_high ha (64 + n)
  unfold State.setCalPoison
  dsimp only
  rw [apply_ite (fun u : State => u.reg a), apply_ite (fun u : State => u.reg a), State.reg_verifyP_high _ ha, hverifyW, hset, ite_self,
    ite_self]

end

/-- The counts of SRAM errors and the sticky bit of double ones stand as they were. -/
def State.SramShown (s t : State) : Prop :=
  (∀ r < 5, t.reg (Reg.ECC_SRAM_CE r) = s.reg (Reg.ECC_SRAM_CE r)) ∧
    t.flag Reg.ECC_STAT Fld.ECC_STAT_SRAM_UE_S = s.flag Reg.ECC_STAT Fld.ECC_STAT_SRAM_UE_S

theorem State.SramShown.of_high {s t : State} (h : ∀ {a}, 0x40000 ≤ a → t.reg a = s.reg a) : s.SramShown t :=
  ⟨fun r _ => h (by unfold Reg.ECC_SRAM_CE; omega), State.flag_congr (h (by decide)) _⟩

theorem State.sramUe_showRemap (s : State) : s.showRemap.flag Reg.ECC_STAT Fld.ECC_STAT_SRAM_UE_S =
    s.flag Reg.ECC_STAT Fld.ECC_STAT_SRAM_UE_S := by
  have hremap : ∀ n, Reg.ECC_STAT ≠ Reg.ECC_REMAP n := fun n => by
    unfold Reg.ECC_STAT Reg.ECC_REMAP
    omega
  rw [State.showRemap, State.flag_setFld_apart _ ⟨by decide, by decide⟩ (by decide) (by decide)]
  refine State.flag_congr ?_ _
  exact List.foldlRecOn (motive := fun (u : State) => u.reg Reg.ECC_STAT = s.reg Reg.ECC_STAT) _ _ rfl fun u hu p _ =>
    (u.reg_setReg_other (hremap p.2) _).trans hu

theorem State.setSpare_sramShown (s : State) (i : Nat) (x : Spare) : s.SramShown (s.setSpare i x) := by
  have hcount : ∀ r < 5, ∀ n, Reg.ECC_REMAP n ≠ Reg.ECC_SRAM_CE r := fun r hr n => by
    unfold Reg.ECC_REMAP Reg.ECC_SRAM_CE
    omega
  have hstat : ∀ r < 5, Reg.ECC_STAT ≠ Reg.ECC_SRAM_CE r := fun r _ => by
    unfold Reg.ECC_STAT Reg.ECC_SRAM_CE
    omega
  refine ⟨fun r hr => ?_, ?_⟩
  · exact State.reg_of_sparing (kept := (· = Reg.ECC_SRAM_CE r)) (s.setSpare_outside i x ⟨rfl, hcount r hr, hstat r hr⟩) rfl
  · rw [State.setSpare, State.sramUe_showRemap]
    rfl

theorem State.setSpare_remap (s : State) (i : Nat) (x : Spare) : (s.setSpare i x).ecc.remap = s.ecc.remap.set i (some x) := by
  rw [State.setSpare, State.ecc_of_outside (State.showRemap_outside _ ⟨fun _ => trivial, trivial⟩)]

section
variable (s : State) (region addr : Nat)

/-- The word that a double error of an SRAM region names is poisoned. -/
def State.sramSpoiled : State :=
  match region with
  | 0 => s.spoilOne s.stagingWords
  | 1 => s.spoilOne s.clusterWords
  | 2 => { s with ecc := { s.ecc with mcPo := addr :: s.ecc.mcPo } }.raiseCause 6 305 0
  | 3 => if addr < 560 then (if calPresent s.fac.variant addr then s.setCalPoison addr true else s) else s.spoilOne s.filterWords
  | _ => match s.ecc.remap.getD (addr / 7) none with
    | some x => s.setSpare (addr / 7) { x with words := x.words.modify (addr % 7) (fun w => (w.1, true)) }
    | none => s

theorem State.sramSpoiled_sramShown : s.SramShown (s.sramSpoiled region addr) := by
  have hsame : s.SramShown s := ⟨fun _ _ => rfl, rfl⟩
  unfold State.sramSpoiled
  split
  · exact .of_high fun ha => s.reg_spoilOne_high ha _
  · exact .of_high fun ha => s.reg_spoilOne_high ha _
  · exact .of_high fun ha => State.reg_raiseCause_high _ ha _ _ _
  · split
    · split
      · exact .of_high fun ha => s.reg_setCalPoison_high ha _ _
      · exact hsame
    · exact .of_high fun ha => s.reg_spoilOne_high ha _
  · split
    · exact s.setSpare_sramShown _ _
    · exact hsame

theorem State.causeActive_sramSpoiled : (s.sramSpoiled 2 addr).causeActive 6 = true :=
  State.causeActive_raiseCause _ (by decide) (by decide) _ _

variable {addr} in
theorem State.poison_sramSpoiled (hpresent : calPresent s.fac.variant addr = true) (haddr : addr < 560) :
    ((s.sramSpoiled 3 addr).calE addr).poison = true := by
  simp only [State.sramSpoiled, haddr, hpresent, if_true, State.calE_setCalPoison]

/-- The word of a remap entry that the address names carries poison. -/
theorem State.words_sramSpoiled (x : Spare) (hx : (s.sramSpoiled 4 addr).ecc.remap.getD (addr / 7) none = some x) :
    x.words[addr % 7]?.all (fun w => w.2) = true := by
  cases hold : s.ecc.remap.getD (addr / 7) none with
  | none =>
    simp only [State.sramSpoiled, hold] at hx
    cases hx
  | some y =>
    have hlt : addr / 7 < s.ecc.remap.length := by
      by_contra hge
      rw [List.getD_eq_default _ _ (Nat.le_of_not_lt hge)] at hold
      cases hold
    simp only [State.sramSpoiled, hold, State.setSpare_remap] at hx
    rw [List.getD_eq_getElem _ _ (by rwa [List.length_set]), List.getElem_set_self] at hx
    obtain rfl := Option.some.inj hx
    rw [List.getElem?_modify_eq]
    cases y.words[addr % 7]? <;> rfl

end

/-! ### An SRAM word is read (R304) -/

section
variable (s : State) {region : Nat} (addr : Nat)

theorem State.double_sramError (region addr : Nat) :
    (s.sramError region addr true).fld (Reg.ECC_SRAM_CE region) Fld.ECC_SRAM_CE_UE =
      satInc (fieldWidth Fld.ECC_SRAM_CE_UE) (s.fld (Reg.ECC_SRAM_CE region) Fld.ECC_SRAM_CE_UE) ∧
    (s.sramError region addr true).flag Reg.ECC_STAT Fld.ECC_STAT_SRAM_UE_S = true := by
  have hcount : Reg.ECC_SRAM_CE region ≠ Reg.ECC_STAT ∧ Reg.ECC_SRAM_CE region ≠ Reg.DEV_EV_LOST := by
    unfold Reg.ECC_SRAM_CE Reg.ECC_STAT Reg.DEV_EV_LOST
    omega
  have hlost : Reg.ECC_STAT ≠ Reg.DEV_EV_LOST := by decide
  have htold : ∀ {a}, a ≠ Reg.DEV_EV_LOST → (s.sramError region addr true).reg a =
      ((s.count (Reg.ECC_SRAM_CE region) Fld.ECC_SRAM_CE_UE).raise Reg.ECC_STAT Fld.ECC_STAT_SRAM_UE_S).reg a :=
    fun ha => State.push_reg _ _ ha
  rw [State.fld_congr (htold hcount.2), State.flag_congr (htold hlost), State.fld_congr (State.reg_raise_other _ hcount.1 _)]
  exact ⟨s.fld_count_self _ ⟨by decide, by decide⟩, State.flag_raise _ _ ⟨by decide, by decide⟩⟩

theorem State.sramError_fac (region addr : Nat) (ue : Bool) : (s.sramError region addr ue).fac = s.fac :=
  (State.sameBut_of_outside (s.sramError_outside (P := Parts.all) region addr ue (by simp [Parts.all, Parts.emits]))).fac

variable {s} (hregion : region < 5)
include hregion

theorem sramRead_single : sramRead s region addr false = s.count (Reg.ECC_SRAM_CE region) Fld.ECC_SRAM_CE_CE := by
  rw [sramRead, if_neg (Nat.not_le.2 hregion)]
  rfl

theorem sramRead_double : sramRead s region addr true = (s.sramError region addr true).sramSpoiled region addr := by
  rw [sramRead, if_neg (Nat.not_le.2 hregion)]
  rfl

theorem sramRead_double_shows :
    (sramRead s region addr true).fld (Reg.ECC_SRAM_CE region) Fld.ECC_SRAM_CE_UE =
      satInc (fieldWidth Fld.ECC_SRAM_CE_UE) (s.fld (Reg.ECC_SRAM_CE region) Fld.ECC_SRAM_CE_UE) ∧
    (sramRead s region addr true).flag Reg.ECC_STAT Fld.ECC_STAT_SRAM_UE_S = true := by
  obtain ⟨hcount, hsticky⟩ := State.sramSpoiled_sramShown (s.sramError region addr true) region addr
  rw [sramRead_double addr hregion, State.fld_congr (hcount region hregion), hsticky]
  exact s.double_sramError region addr

end

/-- Settles O37: each row's meaning has a frame, so it is the row's answer; the lemmas on the lap's end, on SRAM errors, on the log's
registers and on the injection's say what it leaves. -/
theorem eccCommands : Obligations.EccCommands := by
  have hsram : ∀ s region addr ue, exec (.sramRead region addr ue) s = .next (sramRead s region addr ue) := fun s region addr ue =>
    State.effect_of_outside (P := Parts.all) (sramRead_outside s region addr ue (by simp [Parts.all, Parts.emits]))
  unfold Obligations.EccCommands
  refine ⟨?lap, ?single, ?double, ?clear, ?select, ?arm⟩
  case lap =>
    intro s hlapped
    exact ⟨_, State.effect_of_outside (P := Parts.all) (eccScrubLapDone_outside s (by simp [Parts.all, Parts.emits])),
      eccScrubLapDone_leaves hlapped⟩
  case single =>
    intro s region addr hregion
    refine ⟨_, hsram s region addr false, ?_⟩
    rw [sramRead_single addr hregion]
    exact s.fld_count_self _ ⟨by decide, by decide⟩
  case double =>
    intro s region addr hregion
    obtain ⟨hcount, hsticky⟩ := sramRead_double_shows (s := s) addr hregion
    refine ⟨_, hsram s region addr true, hcount, hsticky, ?_⟩
    rw [sramRead_double addr hregion]
    refine ⟨?_, ?_, ?_⟩
    · rintro rfl
      exact State.causeActive_sramSpoiled _ _
    · rintro rfl hpresent haddr
      exact State.poison_sramSpoiled _ (by rwa [State.sramError_fac]) haddr
    · rintro rfl x hx
      exact State.words_sramSpoiled _ _ x hx
  case clear =>
    intro s hb
    exact ⟨_, State.answer_open (P := Parts.all) hb (eccLogClr_outside s (by simp [Parts.all])), mem_log_eccLogClr s⟩
  case select =>
    intro s who i hb
    exact ⟨_, State.answer_open (P := Parts.all) hb (eccLogSel_outside s who i (by simp [Parts.all])),
      s.latched_setLatch_self _ who _⟩
  case arm =>
    intro s v hb
    exact ⟨_, State.answer_open (P := Parts.all) hb (eccInjArm_outside s v (by simp [Parts.all])), eccInjArm_taken, eccInjArm_refused,
      armed_eccInjArm s v⟩

end Sys2Proof.Machine
end

section
/-!
PROOF. REG_READ and REG_WRITE by the access, the device and the unit that they name, and the request that one of another device leaves; O58
settled.
-/
namespace Sys2Proof.Machine

/-! ### Requests that wait for their answer (R355) -/

/-- A request toward a client waits for a device's answer. -/
def State.awaits (s : State) (dst : Nat) (client : Client) : Prop := ∃ q ∈ s.fab.reqs, q.dst = dst ∧ q.client = client

section
variable {s : State} {dst : Nat} {client : Client}

theorem State.awaits_congr {t : State} (h : t.fab = s.fab) (hs : s.awaits dst client) : t.awaits dst client := by
  rwa [State.awaits, h]

theorem State.fab_inject (s : State) (pk : Packet) : (s.inject pk).fab = s.fab :=
  (State.sameBut_of_outside (State.inject_outside (P := { Parts.all with fab := false }) s pk (by simp [Parts.all]))).fab rfl

/-- What sending changes of a request, the count of its tries and its time, leaves it waiting. -/
theorem State.awaits_map {f : OutReq → OutReq} (hf : ∀ q, (f q).dst = q.dst ∧ (f q).client = q.client) (hs : s.awaits dst client) :
    ({ s with fab := { s.fab with reqs := s.fab.reqs.map f } } : State).awaits dst client := by
  obtain ⟨q, hq, hdst, hclient⟩ := hs
  exact ⟨f q, List.mem_map_of_mem hq, (hf q).1.trans hdst, (hf q).2.trans hclient⟩

theorem State.awaits_pumpRequests (hs : s.awaits dst client) : s.pumpRequests.awaits dst client := by
  unfold State.pumpRequests
  refine List.foldlRecOn (motive := fun (u : State) => u.awaits dst client) _ _ hs fun u hu r _ => ?_
  dsimp only
  split
  · refine State.awaits_congr (State.fab_inject _ _) (State.awaits_map (fun q => ?_) hu)
    split <;> exact ⟨rfl, rfl⟩
  · exact hu

theorem State.awaits_request (s : State) (client : Client) (pk : Packet) : (s.request client pk).awaits pk.dst client :=
  State.awaits_pumpRequests ⟨_, List.mem_append_right _ (List.mem_singleton_self _), rfl, rfl⟩

end

/-! ### Accesses of another device's registers (R395) -/

section
variable {s : State} {src : CmdSrc} {op tag target size : Nat} {pk : Packet}

theorem State.remoteAccess_unrouted (h : target = 0xFFF ∨ s.routePort s.epoch target = none) :
    s.remoteAccess src op tag target size pk = s.settle src op tag { status := stInvalid, detail := 3 } := by
  rw [State.remoteAccess, if_pos (by simpa using h)]

theorem State.awaits_remoteAccess (hall : target ≠ 0xFFF) (hroute : (s.routePort s.epoch target).isSome = true) (hdst : pk.dst = target) :
    (s.remoteAccess src op tag target size pk).awaits target (.command src op tag size) := by
  have hsome := Option.isSome_iff_ne_none.1 hroute
  rw [State.remoteAccess, if_neg (by simp [hall, hsome]), ← hdst]
  exact State.awaits_request _ _ pk

end

/-! ### The two commands (R315, R395) -/

section
variable {s : State} {src : CmdSrc} {tag target size off : Nat}

theorem regRead_misnamed (hok : accessOk size off = false) :
    regRead s src tag target size off = s.settle src 0x0011 tag { status := stInvalid, detail := 2 } := by
  simp [regRead, hok]

theorem regWrite_misnamed (hok : accessOk size off = false) (data : Nat) :
    regWrite s src tag target size off data = s.settle src 0x0012 tag { status := stInvalid, detail := 2 } := by
  simp [regWrite, hok]

variable (hok : accessOk size off = true)
include hok

section
variable (haway : s.isHere target = false)
include haway

theorem regRead_away : ∃ pk : Packet, pk.dst = target ∧
    regRead s src tag target size off = s.remoteAccess src 0x0011 tag target size pk := by
  rw [regRead, if_neg (by simp [hok]), if_pos (by simp [haway])]
  exact ⟨_, rfl, rfl⟩

theorem regWrite_away (data : Nat) : ∃ pk : Packet, pk.dst = target ∧
    regWrite s src tag target size off data = s.remoteAccess src 0x0012 tag target size pk := by
  rw [regWrite, if_neg (by simp [hok]), if_pos (by simp [haway])]
  exact ⟨_, rfl, rfl⟩

end

variable (hhere : s.isHere target = true)
include hhere

theorem regRead_absent (habsent : s.absentTo .mc off = true) :
    regRead s src tag target size off = s.settle src 0x0011 tag { status := stAbsent } := by
  simp [regRead, hok, hhere, habsent]

variable (hpresent : s.absentTo .mc off = false)
include hpresent

theorem regRead_present : regRead s src tag target size off =
    (s.readAccess .mc off (4 + 4 * size)).2.settle src 0x0011 tag
      { status := stOk, result := leBytes 8 (s.readAccess .mc off (4 + 4 * size)).1 } := by
  simp [regRead, hok, hhere, hpresent]

theorem regWrite_misplaced (data : Nat) (hmode : bitAt (acceptMask 0x0012 0 off) s.curMode = false) :
    regWrite s src tag target size off data = s.settle src 0x0012 tag (s.stateStatus (acceptMask 0x0012 0 off)) := by
  simp [regWrite, hok, hhere, hpresent, hmode]

variable (hmode : bitAt (acceptMask 0x0012 0 off) s.curMode = true)
include hmode

theorem regWrite_routing (data : Nat) (hroute : inRouteWindow off = true) :
    regWrite s src tag target size off data = s.settle src 0x0012 tag { status := stRefused } := by
  simp [regWrite, hok, hhere, hpresent, hmode, hroute]

theorem regWrite_present (data : Nat) (hroute : inRouteWindow off = false) :
    regWrite s src tag target size off data =
      (s.writeAccess .mc off (4 + 4 * size) data).settle src 0x0012 tag { status := stOk } := by
  simp [regWrite, hok, hhere, hpresent, hmode, hroute]

end

/-- Settles O58: by the access, the device and the unit named, either command's meaning is the decision of the command, or a request that
waits; of a write's meaning the answer keeps all but the queue and the fuses, in which no decision and no request stands. -/
theorem registerCommands : Obligations.RegisterCommands := by
  have hread : ∀ s src tag target size off,
      exec (.regRead src tag target size off) s = .next (regRead s src tag target size off) := fun s src tag target size off =>
    State.effect_of_outside (P := Parts.all) (regRead_outside s src tag target size off (by simp [Parts.all, Parts.emits]))
  have hwrite : ∀ s src tag target size off data, exec (.regWrite src tag target size off data) s =
      .next { regWrite s src tag target size off data with pending := s.pending, fac := s.fac } := fun _ _ _ _ _ _ _ => rfl
  unfold Obligations.RegisterCommands
  refine ⟨?readMisnamed, ?readAbsent, ?readOk, ?writeMisnamed, ?writeRouting, ?writeOk, ?writeState, ?readAway, ?writeAway,
    ?readLost, ?writeLost⟩
  case readMisnamed =>
    intro s tag target size off htakes hok
    refine ⟨_, hread .., ?_⟩
    rw [regRead_misnamed hok]
    exact State.decided_settle htakes _
  case readAbsent =>
    intro s tag target size off htakes hok hhere habsent
    refine ⟨_, hread .., ?_⟩
    rw [regRead_absent hok hhere habsent]
    exact State.decided_settle htakes _
  case readOk =>
    intro s tag target size off hok hhere hpresent
    refine ⟨_, hread .., ?_⟩
    rw [regRead_present hok hhere hpresent]
    exact ⟨fun htakes => State.decided_settle htakes _, rfl⟩
  case writeMisnamed =>
    intro s tag target size off data htakes hok
    refine ⟨_, hwrite .., ?_⟩
    rw [regWrite_misnamed hok]
    exact State.decided_settle htakes _
  case writeRouting =>
    intro s tag target size off data htakes hok hhere hpresent hmode hroute
    refine ⟨_, hwrite .., ?_⟩
    rw [regWrite_routing hok hhere hpresent hmode data hroute]
    exact State.decided_settle htakes _
  case writeOk =>
    intro s src tag target size off data hok hhere hpresent hmode hroute
    refine ⟨_, hwrite .., ?_⟩
    rw [regWrite_present hok hhere hpresent hmode data hroute]
    refine ⟨?_, rfl, rfl⟩
    rintro rfl htakes
    exact State.decided_settle htakes _
  case writeState =>
    intro s tag target size off data htakes hok hhere hpresent hmode
    refine ⟨_, hwrite .., ?_⟩
    rw [regWrite_misplaced hok hhere hpresent data hmode]
    exact ⟨State.decided_settle htakes _, rfl⟩
  case readAway =>
    intro s src tag target size off hok haway hall hroute
    obtain ⟨pk, hdst, heq⟩ := regRead_away (src := src) (tag := tag) hok haway
    exact ⟨_, hread .., heq ▸ State.awaits_remoteAccess hall hroute hdst⟩
  case writeAway =>
    intro s src tag target size off data hok haway hall hroute
    obtain ⟨pk, hdst, heq⟩ := regWrite_away (src := src) (tag := tag) hok haway data
    exact ⟨_, hwrite .., heq ▸ State.awaits_remoteAccess hall hroute hdst⟩
  case readLost =>
    intro s tag target size off htakes hok haway hlost
    obtain ⟨pk, -, heq⟩ := regRead_away (src := .ring) (tag := tag) hok haway
    refine ⟨_, hread .., ?_⟩
    rw [heq, State.remoteAccess_unrouted hlost]
    exact State.decided_settle htakes _
  case writeLost =>
    intro s tag target size off data htakes hok haway hlost
    obtain ⟨pk, -, heq⟩ := regWrite_away (src := .ring) (tag := tag) hok haway data
    refine ⟨_, hwrite .., ?_⟩
    rw [heq, State.remoteAccess_unrouted hlost]
    exact State.decided_settle htakes _

end Sys2Proof.Machine
end

section
/-!
PROOF. What the causes of mode changes, those that have waited and an entry to SAFE leave of MODE_STAT, PACER_STAT and the mode machine, and
what the beginning of a change shows.
-/
namespace Sys2Proof.Machine

/-! ### The registers of modes and PACER -/

/-- The registers of modes and PACER lie from 0x1000 to 0x1FFF. -/
def modeBlock (r : Nat) : Prop := 0x1000 ≤ r ∧ r < 0x2000

theorem not_modeBlock {r : Nat} (h : r < 0x1000 ∨ 0x2000 ≤ r) : ¬modeBlock r := by
  unfold modeBlock
  omega

/-- The registers of a kind of unit whose first one lies above the block. -/
theorem not_modeBlock_unit {base stride : Nat} (h : 0x2000 ≤ base) (n : Nat) : ¬modeBlock (base + stride * n) :=
  not_modeBlock (.inr (Nat.le_add_right_of_le h))

theorem modeBlock_modeStat : modeBlock Reg.MODE_STAT := ⟨by decide, by decide⟩

theorem modeBlock_pacerStat : modeBlock Reg.PACER_STAT := ⟨by decide, by decide⟩

/-- A settlement leaves the registers of modes and PACER. -/
theorem State.reg_settle_modeBlock (s : State) (src : CmdSrc) (op tag : Nat) (c : Completion) {a : Nat} (ha : modeBlock a) :
    (s.settle src op tag c).reg a = s.reg a :=
  State.reg_of_sparing (s.settle_outside src op tag c
    (by simp (disch := decide) [Parts.sparing, Parts.all, not_modeBlock, Reg.FP_UTIL, not_modeBlock_unit])) ha

theorem State.reg_accept_modeBlock (s : State) (src : CmdSrc) (op tag target : Nat) {a : Nat} (ha : modeBlock a) :
    (s.accept src op tag target).reg a = s.reg a :=
  State.reg_of_sparing (s.accept_outside src op tag target
    (by simp (disch := decide) [Parts.sparing, Parts.all, not_modeBlock])) ha

/-- Every part but the mode machine and the registers of modes and PACER. -/
def Parts.besideModes : Parts := { Parts.all with regs := fun r => ¬modeBlock r, mode := false }

theorem Parts.besideModes_emits : Parts.besideModes.emits := ⟨rfl, rfl, rfl, not_modeBlock (.inl (by decide))⟩

theorem State.mode_settle (s : State) (src : CmdSrc) (op tag : Nat) (c : Completion) : (s.settle src op tag c).mode = s.mode :=
  (State.sameBut_of_outside (s.settle_outside (P := Parts.besideModes) src op tag c
    (by simp (disch := decide) [Parts.besideModes, Parts.all, not_modeBlock, Reg.FP_UTIL, not_modeBlock_unit]))).mode rfl

theorem State.mode_accept (s : State) (src : CmdSrc) (op tag target : Nat) : (s.accept src op tag target).mode = s.mode :=
  (State.sameBut_of_outside (s.accept_outside (P := Parts.besideModes) src op tag target
    (by simp (disch := decide) [Parts.besideModes, Parts.all, not_modeBlock]))).mode rfl

/-! ### The beginning of a change (R312, R313) -/

/-- A change between VIGIL and BURST passes through SURVEY (R313). -/
def viaSurvey (old new : Nat) : Bool := (old == modeBurst && new == modeVigil) || (old == modeVigil && new == modeBurst)

theorem viaSurvey_iff (old new : Nat) :
    viaSurvey old new = true ↔ old = modeBurst ∧ new = modeVigil ∨ old = modeVigil ∧ new = modeBurst := by
  simp [viaSurvey]

section
variable (s : State) (target cause trig : Nat) (cmd : Option (CmdSrc × Nat))

theorem State.mode_beginChange : (s.beginChange target cause trig cmd).mode =
    { s.mode with phase := .waiting, cause := cause, trig := trig, cmd := cmd,
                  next := if viaSurvey s.curMode target then some target else none } := rfl

theorem State.gate_beginChange : (s.beginChange target cause trig cmd).mode.gate = s.mode.gate := by
  rw [s.mode_beginChange]

theorem State.busy_beginChange : (s.beginChange target cause trig cmd).flag Reg.MODE_STAT Fld.MODE_STAT_BUSY = true :=
  State.flag_raise _ _ ⟨by decide, by decide⟩

theorem State.target_beginChange (h : target < 8) : (s.beginChange target cause trig cmd).fld Reg.MODE_STAT Fld.MODE_STAT_TARGET =
    if viaSurvey s.curMode target then modeSurvey else target := by
  unfold State.beginChange State.raise
  dsimp only
  rw [State.fld_setFld_apart _ _ ⟨by decide, by decide⟩ (by decide) (by decide), State.fld_setFld_self _ _ ⟨by decide, by decide⟩]
  refine Nat.mod_eq_of_lt ?_
  split
  · decide
  · exact h

theorem State.reg_beginChange {a : Nat} (ha : a ≠ Reg.MODE_STAT) : (s.beginChange target cause trig cmd).reg a = s.reg a :=
  State.reg_of_sparing (kept := (· ≠ Reg.MODE_STAT)) (s.beginChange_outside target cause trig cmd ⟨rfl, not_not.2 rfl⟩) ha

theorem State.host_beginChange : (s.beginChange target cause trig cmd).host = s.host :=
  (State.sameBut_of_outside (s.beginChange_outside (P := { Parts.all with host := false }) target cause trig cmd ⟨rfl, trivial⟩)).host rfl

/-- A change that does not pass through SURVEY shows its own target, and none follows it. -/
theorem State.beginChange_direct (h : target < 8) (hvia : viaSurvey s.curMode target = false) :
    (s.beginChange target cause trig cmd).fld Reg.MODE_STAT Fld.MODE_STAT_TARGET = target ∧
    (s.beginChange target cause trig cmd).flag Reg.MODE_STAT Fld.MODE_STAT_BUSY = true ∧
    (s.beginChange target cause trig cmd).mode.phase = .waiting ∧ (s.beginChange target cause trig cmd).mode.next = none := by
  rw [s.target_beginChange target cause trig cmd h, s.mode_beginChange, hvia]
  exact ⟨rfl, s.busy_beginChange target cause trig cmd, rfl, rfl⟩

end

/-! ### What stands through changes and their causes -/

/-- A field of MODE_STAT beside TARGET, BUSY and PSTATE. -/
def modeStands (f : Field) : Prop := f.lo ≤ f.hi ∧ (f.hi < 20 ∨ 25 < f.lo)

/-- A field of PACER_STAT beside the sticky bits. -/
def pacerStands (f : Field) : Prop := f.lo ≤ f.hi ∧ 3 < f.lo

/-- What stands where changes begin and power states follow one another: MODE_STAT but what a change is to and the power state, PACER_STAT
but its sticky bits, and the instant of the latest change. -/
structure State.ModeStands (s t : State) : Prop where
  stat : ∀ f, modeStands f → t.fld Reg.MODE_STAT f = s.fld Reg.MODE_STAT f
  pacer : ∀ f, pacerStands f → t.fld Reg.PACER_STAT f = s.fld Reg.PACER_STAT f
  instant : t.mode.instant = s.mode.instant

namespace State.ModeStands

variable {s t u : State}

theorem refl (s : State) : s.ModeStands s := ⟨fun _ _ => rfl, fun _ _ => rfl, rfl⟩

theorem trans (h : s.ModeStands t) (k : t.ModeStands u) : s.ModeStands u :=
  ⟨fun f hf => (k.stat f hf).trans (h.stat f hf), fun f hf => (k.pacer f hf).trans (h.pacer f hf), k.instant.trans h.instant⟩

theorem foldl {α : Type} {f : State → α → State} (h : ∀ (s : State) (x : α), s.ModeStands (f s x)) (l : List α) (s : State) :
    s.ModeStands (l.foldl f s) := by
  induction l generalizing s with
  | nil => exact refl s
  | cons x l ih => exact (h s x).trans (ih (f s x))

theorem ite {c : Prop} [Decidable c] (h : s.ModeStands t) (k : s.ModeStands u) : s.ModeStands (if c then t else u) := by
  split <;> assumption

theorem of_outside (h : t.outside Parts.besideModes = s.outside Parts.besideModes) : s.ModeStands t := by
  have same := State.sameBut_of_outside h
  exact ⟨fun f _ => State.fld_congr (same.reg _ (not_not.2 modeBlock_modeStat)) f,
    fun f _ => State.fld_congr (same.reg _ (not_not.2 modeBlock_pacerStat)) f, by rw [same.mode rfl]⟩

theorem setMode {m : ModeUnit} (h : m.instant = s.mode.instant := by rfl) : s.ModeStands { s with mode := m } :=
  ⟨fun _ _ => rfl, fun _ _ => rfl, h⟩

/-- A write of TARGET, BUSY or PSTATE. -/
theorem setStat {f : Field} {v : Nat} (hf : Field.inWord f := by exact ⟨by decide, by decide⟩)
    (hapart : 20 ≤ f.lo ∧ f.hi ≤ 25 := by decide) : s.ModeStands (s.setFld Reg.MODE_STAT f v) := by
  refine ⟨fun g hg => ?_, fun g _ => s.fld_setFld_other (by decide) f g v, rfl⟩
  obtain ⟨hord, hg⟩ := hg
  exact s.fld_setFld_apart _ hf hord (by omega) v

/-- A write of a sticky bit of PACER_STAT. -/
theorem setSticky {f : Field} {v : Nat} (hf : Field.inWord f := by exact ⟨by decide, by decide⟩)
    (hapart : f.hi ≤ 3 := by decide) : s.ModeStands (s.setFld Reg.PACER_STAT f v) := by
  refine ⟨fun g _ => s.fld_setFld_other (by decide) f g v, fun g hg => ?_, rfl⟩
  obtain ⟨hord, hg⟩ := hg
  exact s.fld_setFld_apart _ hf hord (by omega) v

theorem flag (h : s.ModeStands t) {f : Field} (hf : pacerStands f) : t.flag Reg.PACER_STAT f = s.flag Reg.PACER_STAT f := by
  rw [State.flag, h.pacer f hf, State.flag]

theorem curMode (h : s.ModeStands t) : t.curMode = s.curMode := h.stat _ ⟨by decide, by decide⟩

end State.ModeStands

/-! ### Causes of changes (R312, R335, R338) -/

section
variable (s : State)

theorem State.beginChange_stands (target cause trig : Nat) (cmd : Option (CmdSrc × Nat)) :
    s.ModeStands (s.beginChange target cause trig cmd) :=
  .trans .setMode (.trans .setStat .setStat)

theorem State.settle_stands (src : CmdSrc) (op tag : Nat) (c : Completion) : s.ModeStands (s.settle src op tag c) :=
  ⟨fun f _ => State.fld_congr (s.reg_settle_modeBlock src op tag c modeBlock_modeStat) f,
    fun f _ => State.fld_congr (s.reg_settle_modeBlock src op tag c modeBlock_pacerStat) f, by rw [s.mode_settle]⟩

theorem State.accept_stands (src : CmdSrc) (op tag target : Nat) : s.ModeStands (s.accept src op tag target) :=
  ⟨fun f _ => State.fld_congr (s.reg_accept_modeBlock src op tag target modeBlock_modeStat) f,
    fun f _ => State.fld_congr (s.reg_accept_modeBlock src op tag target modeBlock_pacerStat) f, by rw [s.mode_accept]⟩

theorem State.emit_modeStands (type u : Nat) (l : List Int) : s.ModeStands (s.emit type u l) :=
  .of_outside (s.emit_outside type u l Parts.besideModes_emits)

theorem State.waitAtGate_stands (c : GateCause) : s.ModeStands (s.waitAtGate c) := by
  unfold State.waitAtGate
  exact .trans .setMode (.ite (.refl _) (State.emit_modeStands _ _ _ _))

theorem State.wakeFrom_stands (c : GateCause) : s.ModeStands (s.wakeFrom c) := by
  unfold State.wakeFrom
  split
  · cases c <;> exact s.beginChange_stands _ _ _ _
  · exact s.waitAtGate_stands c

theorem State.burstDenied_stands : s.ModeStands s.burstDenied :=
  .trans .setSticky (.of_outside (State.emitLimited_outside _ _ _ _ _ _ _ _ ⟨Parts.besideModes_emits, rfl⟩))

theorem State.burstTrigger_stands (t : Nat) : s.ModeStands (s.burstTrigger t) := by
  unfold State.burstTrigger
  exact .ite .setMode (.ite (.ite s.burstDenied_stands (.ite (s.wakeFrom_stands _) (s.beginChange_stands _ _ _ _))) (.refl s))

theorem State.wakeTrigger_stands (t : Nat) : s.ModeStands (s.wakeTrigger t) := by
  unfold State.wakeTrigger
  exact .ite .setMode (.ite (s.wakeFrom_stands _) (.refl s))

theorem State.timerWake_stands : s.ModeStands s.timerWake := by
  unfold State.timerWake
  exact .ite .setMode (.ite (s.wakeFrom_stands _) (.refl s))

theorem State.pacerChange_stands : s.ModeStands s.pacerChange := by
  unfold State.pacerChange
  exact .ite (.refl s) (.ite .setMode (s.beginChange_stands _ _ _ _))

/-! ### What has waited is taken up (R313) -/

theorem State.modeSetNow_stands (src : CmdSrc) (tag target : Nat) : s.ModeStands (s.modeSetNow src tag target) := by
  unfold State.modeSetNow
  exact .ite (s.settle_stands _ _ _ _) (.ite (s.settle_stands _ _ _ _) (.ite (.trans .setSticky (State.settle_stands _ _ _ _ _))
    ((s.beginChange_stands _ _ _ _).trans (State.accept_stands _ _ _ _ _))))

theorem State.safeExitNow_stands (src : CmdSrc) (tag target : Nat) : s.ModeStands (s.safeExitNow src tag target) := by
  unfold State.safeExitNow
  exact .ite (s.settle_stands _ _ _ _) (.ite (s.settle_stands _ _ _ _)
    ((s.settle_stands _ _ _ _).trans (State.beginChange_stands _ _ _ _ _)))

theorem State.modeCmdNow_stands (src : CmdSrc) (tag target : Nat) (exit : Bool) : s.ModeStands (s.modeCmdNow src tag target exit) :=
  .ite (s.safeExitNow_stands src tag target) (s.modeSetNow_stands src tag target)

theorem takeCmds_stands (l : List (CmdSrc × Nat × Nat × Bool)) (s : State) : s.ModeStands (takeCmds l s) := by
  induction l generalizing s with
  | nil => exact .setMode
  | cons c l ih =>
    obtain ⟨src, tag, target, exit⟩ := c
    exact (s.modeCmdNow_stands src tag target exit).trans (.ite .setMode (ih _))

theorem State.takeBurst_stands : s.ModeStands s.takeBurst := by
  unfold State.takeBurst
  dsimp only
  split
  · exact .trans .setMode (State.burstTrigger_stands _ _)
  · exact .setMode

theorem State.takeWake_stands : s.ModeStands s.takeWake := by
  unfold State.takeWake
  dsimp only
  split
  · exact .trans .setMode (State.wakeTrigger_stands _ _)
  · exact .setMode

theorem State.takeTimer_stands : s.ModeStands s.takeTimer :=
  .ite (.trans .setMode (State.timerWake_stands _)) .setMode

theorem State.takePacer_stands : s.ModeStands s.takePacer :=
  .ite (.trans .setMode (State.pacerChange_stands _)) .setMode

theorem State.unlessChanging_stands {f : State → State} (h : ∀ s : State, s.ModeStands (f s)) :
    s.ModeStands (State.unlessChanging f s) :=
  .ite (.refl s) (h s)

theorem State.takeWaiting_stands : s.ModeStands s.takeWaiting := by
  rw [State.takeWaiting_eq]
  exact ((((takeCmds_stands _ s).trans (State.unlessChanging_stands _ State.takeBurst_stands)).trans
    (State.unlessChanging_stands _ State.takeWake_stands)).trans (State.unlessChanging_stands _ State.takeTimer_stands)).trans
    (State.unlessChanging_stands _ State.takePacer_stands)

/-! ### An entry to SAFE (R429) -/

theorem State.safeRequest_stands : s.ModeStands s.safeRequest := by
  have hrefused : ∀ cmd : Option (CmdSrc × Nat), s.ModeStands (match cmd with
      | some (src, tag) => s.settle src opModeSet tag { status := stRefused, detail := 9, result := [(modeSafe : Int)] }
      | none => s) := fun cmd => by
    cases cmd
    · exact .refl s
    · exact s.settle_stands _ _ _ _
  exact (hrefused s.mode.cmd).trans (.ite (.trans .setMode (.trans .setStat .setStat))
    (.ite (.trans (.trans .setMode (.trans .setStat .setStat)) (State.takeWaiting_stands _)) .setMode))

end

end Sys2Proof.Machine
end

section
/-!
PROOF. MODE_SET and SAFE_EXIT, the mode timer, and the causes that wait at the wake gate; O38 settled.
-/
namespace Sys2Proof.Machine

/-! ### Changes from VIGIL -/

theorem State.phase_of_idle {s : State} (h : s.changing = false) : s.mode.phase = .none := by
  simpa [State.changing] using h

theorem viaSurvey_vigil {target : Nat} : viaSurvey modeVigil target = decide (target = modeBurst) := by
  simp [viaSurvey, modeVigil, modeBurst]
  rfl

/-- From VIGIL a change to SURVEY or to BURST is to SURVEY first, and BURST follows. -/
theorem State.beginChange_fromVigil {s : State} (hcur : s.curMode = modeVigil) {target : Nat}
    (htarget : target = modeSurvey ∨ target = modeBurst) (cause trig : Nat) (cmd : Option (CmdSrc × Nat)) :
    (s.beginChange target cause trig cmd).fld Reg.MODE_STAT Fld.MODE_STAT_TARGET = modeSurvey ∧
    (s.beginChange target cause trig cmd).flag Reg.MODE_STAT Fld.MODE_STAT_BUSY = true ∧
    (s.beginChange target cause trig cmd).mode.phase = .waiting ∧
    (s.beginChange target cause trig cmd).mode.next = if target = modeBurst then some modeBurst else none := by
  have hshown := s.target_beginChange target cause trig cmd (by obtain rfl | rfl := htarget <;> decide)
  rw [hshown, s.mode_beginChange, hcur, viaSurvey_vigil]
  refine ⟨?_, s.busy_beginChange target cause trig cmd, rfl, ?_⟩ <;> obtain rfl | rfl := htarget <;> rfl

/-! ### MODE_SET and SAFE_EXIT (R313, R315 to R317) -/

section
variable {s : State} {src : CmdSrc} {tag target : Nat}

theorem modeSet_invalid (h : target = 0 ∨ 4 < target) :
    modeSet s src tag target = s.settle src opModeSet tag { status := stInvalid, detail := 2 } := by
  rw [modeSet, if_pos h]

theorem modeSet_valid (hlo : 1 ≤ target) (hhi : target ≤ 4) : modeSet s src tag target = s.requestMode src tag target false := by
  rw [modeSet, if_neg (by omega)]

theorem safeExit_invalid (h1 : target ≠ 1) (h2 : target ≠ 2) :
    safeExit s src tag target = s.settle src opSafeExit tag { status := stInvalid, detail := 2 } := by
  rw [safeExit, if_pos ⟨h1, h2⟩]

theorem safeExit_valid (h : target = 1 ∨ target = 2) : safeExit s src tag target = s.requestMode src tag target true := by
  rw [safeExit, if_neg (by omega)]

theorem State.requestMode_waits (h : s.changing = true) (exit : Bool) :
    (s.requestMode src tag target exit).mode.waitCmd = s.mode.waitCmd ++ [(src, tag, target, exit)] := by
  rw [State.requestMode, if_pos h, State.mode_accept]

variable (hidle : s.changing = false)
include hidle

theorem State.requestMode_set : s.requestMode src tag target false = s.modeSetNow src tag target := by
  rw [State.requestMode, hidle]
  rfl

theorem State.requestMode_exit : s.requestMode src tag target true = s.safeExitNow src tag target := by
  rw [State.requestMode, hidle]
  rfl

section
variable (hlo : 1 ≤ target) (hhi : target ≤ 4)
include hlo hhi

theorem modeSet_misplaced (hmode : bitAt (modeSetMask target) s.curMode = false) : modeSet s src tag target =
    s.settle src opModeSet tag { status := stState, detail := s.curMode, result := [(modeSetMask target : Int)] } := by
  rw [modeSet_valid hlo hhi, State.requestMode_set hidle, State.modeSetNow, hmode]
  rfl

variable (hmode : bitAt (modeSetMask target) s.curMode = true)
include hmode

theorem modeSet_present (hcur : target = s.curMode) : modeSet s src tag target =
    s.settle src opModeSet tag { status := stOk, result := [(target : Int)] } := by
  rw [modeSet_valid hlo hhi, State.requestMode_set hidle, State.modeSetNow, hmode, if_pos hcur, ← hcur]
  rfl

theorem modeSet_begins (hother : target ≠ s.curMode) (hadmit : target = modeBurst → s.burstRefusal = 0) : modeSet s src tag target =
    (s.beginChange target 1 0 (some (src, tag))).accept src opModeSet tag 0 := by
  rw [modeSet_valid hlo hhi, State.requestMode_set hidle, State.modeSetNow, hmode, if_neg hother,
    if_neg fun h : target = modeBurst ∧ s.burstRefusal ≠ 0 => h.2 (hadmit h.1)]
  rfl

end

section
variable (htarget : target = 1 ∨ target = 2)
include htarget

theorem safeExit_misplaced (hcur : s.curMode ≠ modeSafe) : safeExit s src tag target =
    s.settle src opSafeExit tag { status := stState, detail := s.curMode, result := [(0x20 : Int)] } := by
  rw [safeExit_valid htarget, State.requestMode_exit hidle, State.safeExitNow, if_pos hcur]

variable (hcur : s.curMode = modeSafe)
include hcur

theorem safeExit_refused (hcause : s.reg Reg.SAF_CAUSE ≠ 0) : safeExit s src tag target =
    s.settle src opSafeExit tag { status := stRefused, detail := 9, result := [(modeSafe : Int)] } := by
  rw [safeExit_valid htarget, State.requestMode_exit hidle, State.safeExitNow, if_neg (not_not.2 hcur), if_pos hcause, hcur]

theorem safeExit_begins (hcause : s.reg Reg.SAF_CAUSE = 0) : safeExit s src tag target =
    (s.settle src opSafeExit tag { status := stOk, result := [(target : Int)] }).beginChange target 1 0 none := by
  rw [safeExit_valid htarget, State.requestMode_exit hidle, State.safeExitNow, if_neg (not_not.2 hcur), if_neg (not_not.2 hcause)]

end

end

/-! ### The mode timer (R312) -/

/-- What the mode machine holds of the mode timer: whether its interval runs, and whether its wake waits for a change. -/
def State.timerState (s : State) : Bool × Bool := (s.mode.timerOn, s.mode.waitTimer)

theorem State.timerState_congr {s t : State} (h : t.mode = s.mode) : t.timerState = s.timerState := by
  rw [State.timerState, State.timerState, h]

section
variable (s : State)

theorem State.timerState_beginChange (target cause trig : Nat) (cmd : Option (CmdSrc × Nat)) :
    (s.beginChange target cause trig cmd).timerState = s.timerState := by
  rw [State.timerState, State.mode_beginChange, State.timerState]

theorem State.timerState_wakeFrom (c : GateCause) : (s.wakeFrom c).timerState = s.timerState := by
  unfold State.wakeFrom
  split
  · cases c <;> exact s.timerState_beginChange _ _ _ _
  · unfold State.waitAtGate
    dsimp only
    split <;> rfl

theorem State.mode_burstDenied : s.burstDenied.mode = s.mode :=
  (State.sameBut_of_outside (s.burstDenied_outside (P := { Parts.all with mode := false })
    (by simp [Parts.all, Parts.emits]))).mode rfl

theorem State.timerState_burstTrigger (t : Nat) : (s.burstTrigger t).timerState = s.timerState := by
  unfold State.burstTrigger
  repeat' split
  · rfl
  · exact State.timerState_congr s.mode_burstDenied
  · exact s.timerState_wakeFrom _
  · exact s.timerState_beginChange _ _ _ _
  · rfl

theorem State.timerState_wakeTrigger (t : Nat) : (s.wakeTrigger t).timerState = s.timerState := by
  unfold State.wakeTrigger
  repeat' split
  · rfl
  · exact s.timerState_wakeFrom _
  · rfl

/-- A trigger that is raised may begin a change or wait for one; it leaves the timer. -/
theorem State.timerState_raiseTrigger (tr : Trigger) (t : Time) : (s.raiseTrigger tr t).timerState = s.timerState := by
  have hfed : ∀ u : State, ((u.feedEvent (.trigger tr.num) t).triggerExc tr.num).timerState = u.timerState := fun u =>
    State.timerState_congr (((State.sameBut_of_outside (State.triggerExc_outside (P := { Parts.all with mode := false }) _ tr.num
      (by simp [Parts.all]))).mode rfl).trans
      ((State.sameBut_of_outside (State.feedEvent_outside (P := { Parts.all with mode := false }) u (.trigger tr.num) t rfl)).mode rfl))
  have hstarter : ∀ (u : State) (p : SnapPend), (u.broadcastStarter p).timerState = u.timerState := fun u p =>
    State.timerState_congr ((State.sameBut_of_outside (u.broadcastStarter_outside (P := { Parts.all with mode := false }) p
      (by simp [Parts.all, Parts.emits]))).mode rfl)
  unfold State.raiseTrigger
  extract_lets _ set fed
  have hset : fed.timerState = s.timerState := hfed set
  split
  · exact (State.timerState_wakeTrigger _ _).trans hset
  · exact (State.timerState_burstTrigger _ _).trans hset
  · exact (hstarter _ _).trans hset
  · exact hset

theorem State.timerState_offerTrigger (source index : Nat) (t : Time) : (s.offerTrigger source index t).timerState = s.timerState :=
  State.foldl_keeps (fun u tr => u.timerState_raiseTrigger tr t) _ s

end

/-- The ON interval runs. -/
def State.timerStarted (s : State) : State := { s with mode := { s.mode with timerOn := true } }

section
variable {s : State} (hon : s.inTimerOn = true) (hoff : s.mode.timerOn = false)
include hon hoff

theorem modeTimerOn_begins : modeTimerOn s = s.timerStarted.timerWake.offerTrigger 4 0 s.time := by
  rw [modeTimerOn, hon, hoff]
  rfl

theorem timerState_modeTimerOn : (modeTimerOn s).mode.timerOn = true ∧ (s.changing = true → (modeTimerOn s).mode.waitTimer = true) := by
  have hkept : (modeTimerOn s).timerState = s.timerStarted.timerWake.timerState := by
    rw [modeTimerOn_begins hon hoff, State.timerState_offerTrigger]
  obtain ⟨hruns, hwaits⟩ := Prod.ext_iff.1 hkept
  change (modeTimerOn s).mode.timerOn = _ at hruns
  change (modeTimerOn s).mode.waitTimer = _ at hwaits
  rw [hruns, hwaits]
  refine ⟨?_, fun hchanging => ?_⟩
  · unfold State.timerWake
    repeat' split
    · rfl
    · exact congrArg Prod.fst (State.timerState_wakeFrom _ _)
    · rfl
  · have hstarted : s.timerStarted.changing = true := hchanging
    rw [State.timerWake, if_pos hstarted]
    rfl

/-- In VIGIL, with the gate open and no trigger, the interval begins the change to SURVEY. -/
theorem modeTimerOn_wakes (hidle : s.changing = false) (hauto : s.autoOk = true) (hcur : s.curMode = modeVigil)
    (hgate : s.gatePasses = true) (htrig : s.triggers = []) :
    modeTimerOn s = s.timerStarted.beginChange modeSurvey 3 0 none := by
  have hidle' : s.timerStarted.changing = false := hidle
  have hauto' : s.timerStarted.autoOk = true := hauto
  have hcur' : s.timerStarted.curMode = modeVigil := hcur
  have hgate' : s.timerStarted.gatePasses = true := hgate
  have hwake : s.timerStarted.timerWake = s.timerStarted.beginChange modeSurvey 3 0 none := by
    rw [State.timerWake, hidle', hauto', hcur', State.wakeFrom, if_pos hgate']
    rfl
  have hnone : (s.timerStarted.beginChange modeSurvey 3 0 none).triggers = [] :=
    ((State.sameBut_of_outside (State.beginChange_outside (P := { Parts.all with triggers := false }) _ _ _ _ _
      ⟨rfl, trivial⟩)).triggers rfl).trans htrig
  rw [modeTimerOn_begins hon hoff, hwake, State.offerTrigger, hnone]
  rfl

end

theorem modeTimerOnEnd_ends {s : State} (hoff : s.inTimerOn = false) (hon : s.mode.timerOn = true) :
    (modeTimerOnEnd s).mode.timerOn = false ∧ (modeTimerOnEnd s).mode.waitTimer = false ∧
      GateCause.timer ∉ (modeTimerOnEnd s).mode.gate := by
  have hidle : ∀ u : State, u.idleToVigil.timerState = u.timerState ∧ u.idleToVigil.mode.gate = u.mode.gate := fun u => by
    unfold State.idleToVigil
    split
    · exact ⟨u.timerState_beginChange _ _ _ _, u.gate_beginChange _ _ _ _⟩
    · exact ⟨rfl, rfl⟩
  rw [modeTimerOnEnd, hoff, hon]
  simp only [Bool.not_true, Bool.or_self, Bool.false_eq_true, if_false]
  split
  · obtain ⟨htimer, hgate⟩ := hidle { s with mode := { s.mode with
      timerOn := false, waitTimer := false, gate := s.mode.gate.filter (fun g => g != GateCause.timer) } }
    rw [hgate]
    exact ⟨congrArg Prod.fst htimer, congrArg Prod.snd htimer, by simp⟩
  · exact ⟨rfl, rfl, by simp⟩

/-! ### Causes at the wake gate (R338) -/

theorem GateCause.target_cases (c : GateCause) : c.target = modeSurvey ∨ c.target = modeBurst := by
  cases c <;> simp [GateCause.target]

/-- A cause has left the gate. -/
def State.gateWithout (s : State) (c : GateCause) : State := s.setMode { s.mode with gate := s.mode.gate.filter (fun g => g != c) }

section
variable {s : State} {c : GateCause}

theorem State.passGate_begins (hadmit : c.target = modeBurst → s.burstRefusal = 0) :
    ∃ cause trig, s.passGate c = s.beginChange c.target cause trig none := by
  cases c with
  | wake t => exact ⟨2, t, rfl⟩
  | burst t => exact ⟨2, t, if_neg (not_not.2 (hadmit rfl))⟩
  | timer => exact ⟨3, 0, rfl⟩

theorem State.passGate_denied (hburst : c.target = modeBurst) (hrefused : s.burstRefusal ≠ 0) : s.passGate c = s.burstDenied := by
  cases c with
  | burst t => exact if_pos hrefused
  | wake t => exact absurd hburst (show modeSurvey ≠ modeBurst by decide)
  | timer => exact absurd hburst (show modeSurvey ≠ modeBurst by decide)

theorem State.denied_burstDenied (s : State) : s.burstDenied.flag Reg.PACER_STAT Fld.PACER_STAT_DENIED_S = true := by
  have hlimited : ∀ (u : State) type n key interval mk,
      (u.emitLimited type n key interval false 0 mk).reg Reg.PACER_STAT = u.reg Reg.PACER_STAT := fun u type n key interval mk =>
    State.reg_of_sparing (kept := (· = Reg.PACER_STAT)) (u.emitLimited_outside type n key interval false 0 mk
      (by simp +decide [Parts.sparing, Parts.all, Parts.emits])) rfl
  unfold State.burstDenied
  rw [State.flag_congr (hlimited _ _ _ _ _ _)]
  exact State.flag_raise _ _ ⟨by decide, by decide⟩

theorem wakeGatePass_passes (hfirst : firstCause (s.mode.gate.filter s.persists) = some c) (hidle : s.changing = false)
    (hauto : s.autoOk = true) (hcur : s.curMode = modeVigil) (hgate : s.gatePasses = true) :
    wakeGatePass s = (s.gateWithout c).passGate c := by
  rw [wakeGatePass, if_neg (by simp [hidle, hauto, hcur, hgate]), hfirst]
  rfl

end

/-- Settles O38: each row's meaning has a frame, so it is the row's answer; a command is decided, waits or begins a change, and the mode
timer and the causes at the gate begin one, each by the lemma on its condition. -/
theorem modeCommandsAndWakes : Obligations.ModeCommandsAndWakes := by
  have hset : ∀ s src tag target, exec (.modeSet src tag target) s = .next (modeSet s src tag target) := fun s src tag target =>
    State.effect_of_outside (P := Parts.all) (Machine.modeSet_outside s src tag target (by simp [Parts.all]))
  have hexit : ∀ s src tag target, exec (.safeExit src tag target) s = .next (safeExit s src tag target) := fun s src tag target =>
    State.effect_of_outside (P := Parts.all) (safeExit_outside s src tag target (by simp [Parts.all]))
  have hgate : ∀ s, exec .wakeGatePass s = .next (wakeGatePass s) := fun s =>
    State.effect_of_outside (P := Parts.all) (wakeGatePass_outside s (by simp [Parts.all, Parts.emits]))
  have htimer : ∀ s, exec .modeTimerOn s = .next (modeTimerOn s) := fun s =>
    State.effect_of_outside (P := Parts.all) (modeTimerOn_outside s (by simp [Parts.all, Parts.emits]))
  unfold Obligations.ModeCommandsAndWakes
  refine ⟨?setInvalid, ?setWaits, ?setBegins, ?setPresent, ?setState, ?exitInvalid, ?exitWaits, ?exitBegins, ?exitRefused, ?exitState,
    ?timer, ?timerWakes, ?timerEnds, ?gatePasses, ?gateDenied, ?dropped⟩
  case setInvalid =>
    intro s tag target htakes htarget
    refine ⟨_, hset .., ?_⟩
    rw [modeSet_invalid htarget]
    exact State.decided_settle htakes _
  case setWaits =>
    intro s src tag target hlo hhi hchanging
    refine ⟨_, hset .., ?_⟩
    rw [modeSet_valid hlo hhi]
    exact State.requestMode_waits hchanging false
  case setBegins =>
    intro s src tag target hlo hhi hidle hmode hother hadmit
    have hstat : (modeSet s src tag target).reg Reg.MODE_STAT = (s.beginChange target 1 0 (some (src, tag))).reg Reg.MODE_STAT := by
      rw [modeSet_begins hidle hlo hhi hmode hother hadmit, State.reg_accept_modeBlock _ _ _ _ _ modeBlock_modeStat]
    have hmach : (modeSet s src tag target).mode = (s.beginChange target 1 0 (some (src, tag))).mode := by
      rw [modeSet_begins hidle hlo hhi hmode hother hadmit, State.mode_accept]
    refine ⟨_, hset .., ?_⟩
    rw [hmach, State.flag_congr hstat, State.fld_congr hstat, s.target_beginChange _ _ _ _ (by omega), s.mode_beginChange,
      ← viaSurvey_iff]
    exact ⟨rfl, s.busy_beginChange _ _ _ _, rfl, fun hdirect => by simp [hdirect], fun hvia => by simp [hvia]⟩
  case setPresent =>
    intro s tag target htakes hlo hhi hidle hmode hcur
    refine ⟨_, hset .., ?_⟩
    rw [modeSet_present hidle hlo hhi hmode hcur]
    exact ⟨State.decided_settle htakes _, s.mode_settle _ _ _ _⟩
  case setState =>
    intro s tag target htakes hlo hhi hidle hmode
    refine ⟨_, hset .., ?_⟩
    rw [modeSet_misplaced hidle hlo hhi hmode]
    exact ⟨State.decided_settle htakes _, s.mode_settle _ _ _ _⟩
  case exitInvalid =>
    intro s tag target htakes h1 h2
    refine ⟨_, hexit .., ?_⟩
    rw [safeExit_invalid h1 h2]
    exact State.decided_settle htakes _
  case exitWaits =>
    intro s src tag target htarget hchanging
    refine ⟨_, hexit .., ?_⟩
    rw [safeExit_valid htarget]
    exact State.requestMode_waits hchanging true
  case exitBegins =>
    intro s src tag target htarget hidle hcur hcause
    have hcur' : ∀ c, (s.settle src opSafeExit tag c).curMode = modeSafe := fun c => (s.settle_stands _ _ _ c).curMode.trans hcur
    obtain ⟨hshown, hbusy, hphase, -⟩ := State.beginChange_direct (s.settle src opSafeExit tag
      { status := stOk, result := [(target : Int)] }) target 1 0 none (by omega)
      (by rw [hcur']; simp +decide [viaSurvey])
    refine ⟨_, hexit .., ?_⟩
    rw [safeExit_begins hidle htarget hcur hcause]
    refine ⟨hphase, hshown, hbusy, ?_⟩
    rintro rfl htakes
    unfold State.decided
    rw [State.host_beginChange]
    exact State.decided_settle htakes _
  case exitRefused =>
    intro s tag target htakes htarget hidle hcur hcause
    refine ⟨_, hexit .., ?_⟩
    rw [safeExit_refused hidle htarget hcur hcause]
    exact ⟨State.decided_settle htakes _, s.mode_settle _ _ _ _⟩
  case exitState =>
    intro s tag target htakes htarget hidle hcur
    refine ⟨_, hexit .., ?_⟩
    rw [safeExit_misplaced hidle htarget hcur]
    exact ⟨State.decided_settle htakes _, s.mode_settle _ _ _ _⟩
  case timer =>
    intro s hon hoff
    exact ⟨_, htimer s, timerState_modeTimerOn hon hoff⟩
  case timerWakes =>
    intro s hon hoff hidle hauto hcur hpass htrig
    obtain ⟨hshown, hbusy, hphase, -⟩ := State.beginChange_fromVigil (s := s.timerStarted) hcur (.inl rfl) 3 0 none
    refine ⟨_, htimer s, ?_⟩
    rw [modeTimerOn_wakes hon hoff hidle hauto hcur hpass htrig]
    exact ⟨hshown, hbusy, hphase⟩
  case timerEnds =>
    intro s hoff hon
    exact ⟨_, State.effect_of_outside (P := Parts.all) (modeTimerOnEnd_outside s ⟨rfl, trivial⟩), modeTimerOnEnd_ends hoff hon⟩
  case gatePasses =>
    intro s c hfirst hidle hauto hcur hpass hadmit
    obtain ⟨cause, trig, hbegins⟩ := State.passGate_begins (s := s.gateWithout c) hadmit
    obtain ⟨hshown, hbusy, hphase, hnext⟩ := State.beginChange_fromVigil (s := s.gateWithout c) hcur c.target_cases cause trig none
    refine ⟨_, hgate s, ?_⟩
    rw [wakeGatePass_passes hfirst hidle hauto hcur hpass, hbegins]
    exact ⟨hshown, hbusy, hphase, State.gate_beginChange _ _ _ _ _, hnext⟩
  case gateDenied =>
    intro s c hfirst hidle hauto hcur hpass hburst hrefused
    refine ⟨_, hgate s, ?_⟩
    rw [wakeGatePass_passes hfirst hidle hauto hcur hpass, State.passGate_denied (s := s.gateWithout c) hburst hrefused, State.mode_burstDenied]
    exact ⟨State.denied_burstDenied _, State.phase_of_idle hidle, by simp [State.gateWithout, State.setMode]⟩
  case dropped =>
    intro s
    exact ⟨_, State.effect_of_outside (P := Parts.all) (wakeCauseDropped_outside s rfl), rfl, rfl⟩

end Sys2Proof.Machine
end

section
/-!
PROOF. Power states, gates that open or whose close is given up, and accesses of gated blocks; O40 settled.
-/
namespace Sys2Proof.Machine

/-! ### Gates (R319, R320) -/

section
variable (s : State)

theorem State.clk_setGates (w : Word) :
    (s.setGates w).clk = { s.clk with closing := s.clk.closing.filter (fun q => w.getLsbD q.1) } := by
  rw [State.setGates, State.setFld_clk, State.setReg_clk]

theorem State.deepRetry_regate : s.regate.clk.deepRetry = s.clk.deepRetry := by
  unfold State.regate
  dsimp only
  rw [State.clk_setGates]

theorem State.deepRetry_openGate (g : Nat) : (s.openGate g).clk.deepRetry = s.clk.deepRetry := by
  unfold State.openGate State.keepGate
  dsimp only
  rw [State.clk_setGates]

/-- A gate that opens, or whose close is given up, is not being closed. -/
theorem State.closing_keepGate (g : Nat) : ∀ q ∈ (s.keepGate g).clk.closing, q.1 ≠ g := fun _ hq => by
  simpa using (List.mem_filter.1 hq).2

theorem State.reg_openGate_other (g : Nat) {a : Nat} (hopen : a ≠ Reg.CLK_GATE_OPEN) (hstat : a ≠ Reg.CLK_STAT) :
    (s.openGate g).reg a = s.reg a :=
  State.reg_of_sparing (kept := fun r => r ≠ Reg.CLK_GATE_OPEN ∧ r ≠ Reg.CLK_STAT)
    (s.openGate_outside g ⟨rfl, fun h => h.1 rfl, fun h => h.2 rfl⟩) ⟨hopen, hstat⟩

/-- A gate whose bit stands and which is not being closed is open. -/
theorem State.gateOpen_of_bit {g : Nat} (hbit : (s.reg Reg.CLK_GATE_OPEN).getLsbD g = true) (hkept : ∀ q ∈ s.clk.closing, q.1 ≠ g) :
    s.gateOpen g = true := by
  unfold State.gateOpen State.openGates
  refine List.foldlRecOn (motive := fun (w : Word) => w.getLsbD g = true) _ _ hbit fun w hw q hq => ?_
  split
  · have hlt := BitVec.lt_of_getLsbD hw
    have hclear : (BitVec.ofNat 32 (2 ^ q.1)).getLsbD g = false := by
      rw [BitVec.getLsbD_ofNat, Nat.testBit_two_pow_of_ne (hkept q hq), Bool.and_false]
    rw [BitVec.getLsbD_and, BitVec.getLsbD_not, hw, hclear, decide_eq_true hlt]
    rfl
  · exact hw

theorem State.gateOpen_openGate {g : Nat} (hg : g < 16) : (s.openGate g).gateOpen g = true := by
  refine State.gateOpen_of_bit _ ?_ (State.closing_keepGate _ g)
  have hreg : (s.openGate g).reg Reg.CLK_GATE_OPEN = s.openGates ||| BitVec.ofNat 32 (2 ^ g) := by
    change (s.setGates _).reg Reg.CLK_GATE_OPEN = _
    rw [State.setGates, State.reg_setFld_other _ (by decide), State.reg_setReg_self]
  have hlt : g < 32 := by omega
  rw [hreg, BitVec.getLsbD_or, BitVec.getLsbD_ofNat, Nat.testBit_two_pow_self]
  simp [hlt]

end

/-! ### Power states (R318) -/

section
variable (s : State) (ps : Nat)

/-- An entry into a power state shows it in MODE_STAT, and nothing else there. -/
theorem State.modeStat_enterPstate : (s.enterPstate ps).reg Reg.MODE_STAT = (s.setFld Reg.MODE_STAT Fld.MODE_STAT_PSTATE ps).reg Reg.MODE_STAT :=
  State.reg_gatesMoved _ (.inl rfl)

theorem State.modeStat_leaveDeep : (s.leaveDeep ps).reg Reg.MODE_STAT = (s.setFld Reg.MODE_STAT Fld.MODE_STAT_PSTATE ps).reg Reg.MODE_STAT := by
  have hpowered : ∀ (u : State) (c : Nat), (u.clusterPowered c).reg Reg.MODE_STAT = u.reg Reg.MODE_STAT := fun u c => by
    rcases u.reg_clusterPowered c Reg.MODE_STAT with h | h
    · exact h
    · exact h.trans (u.reg_setFld_other (clStat_ne_low c (by decide)).symm _ _)
  rw [State.leaveDeep_eq, State.reg_dramWoken _ _ (.inl rfl), State.foldl_keeps (π := fun u => u.reg Reg.MODE_STAT) hpowered,
    State.pllLocked, State.reg_raise_other _ (by decide), State.modeStat_enterPstate]

theorem State.pstate_of_modeStat {t : State} (h : t.reg Reg.MODE_STAT = (s.setFld Reg.MODE_STAT Fld.MODE_STAT_PSTATE ps).reg Reg.MODE_STAT)
    (hps : ps < 4) : t.pstate = ps := by
  rw [State.pstate, State.fld_congr h, State.fld_setFld_self _ _ ⟨by decide, by decide⟩]
  exact Nat.mod_eq_of_lt hps

theorem State.pstate_enterPstate (hps : ps < 4) : (s.enterPstate ps).pstate = ps :=
  s.pstate_of_modeStat ps (s.modeStat_enterPstate ps) hps

theorem State.pstate_leaveDeep (hps : ps < 4) : (s.leaveDeep ps).pstate = ps :=
  s.pstate_of_modeStat ps (s.modeStat_leaveDeep ps) hps

theorem State.deepRetry_enterPstate : (s.enterPstate ps).clk.deepRetry = s.clk.deepRetry := by
  have hports : ∀ u : State, u.gatePorts.clk = u.clk := fun u =>
    (State.sameBut_of_outside (u.gatePorts_outside (P := { Parts.all with clk := false }) (by simp [Parts.all]))).clk rfl
  rw [State.enterPstate, hports, State.deepRetry_regate, State.setFld_clk]

theorem State.pstate_lt : s.pstate < 4 := Nat.mod_lt _ (by decide)

theorem State.pstate_runBurst (h : s.pstate ≠ 3) : s.runBurst.pstate = 0 := by
  have hlt := s.pstate_lt
  unfold State.runBurst State.toRun
  split
  · exact s.pstate_leaveDeep 0 (by decide)
  · split
    · omega
    · exact s.pstate_enterPstate 0 (by decide)

end

theorem powerStateSleep_sleeps {s : State} (hmode : s.curMode = modeSurvey ∨ s.curMode = modeSafe) (hrun : s.pstate = 0)
    (hidle : s.changing = false) (hinvs : s.openInvs = []) (hended : usTime 10 ≤ (s.time - s.eng.ended).toNat)
    (hdma : usTime 10 ≤ (s.time - s.host.dmaAt).toNat) : powerStateSleep s = s.enterPstate 1 := by
  rw [powerStateSleep, hrun, hidle, hinvs, decide_eq_true hended, decide_eq_true hdma]
  rcases hmode with h | h <;> rw [h] <;> rfl

/-! ### DEEP (R320, R322) -/

section
variable (s : State)

/-- A cluster that has no power in DEEP is OFF. -/
def State.clusterOff (s : State) (c : Nat) : State :=
  if hasCl s.fac.variant c && s.clState c != clFailed then s.setFld (Reg.CL_STAT c) Fld.CL_STAT_STATE clOff else s

theorem State.modeStat_clusterOff (c : Nat) : (s.clusterOff c).reg Reg.MODE_STAT = s.reg Reg.MODE_STAT := by
  unfold State.clusterOff
  split
  · exact s.reg_setFld_other (clStat_ne_low c (by decide)).symm _ _
  · rfl

theorem State.clk_clusterOff (c : Nat) : (s.clusterOff c).clk = s.clk := by
  unfold State.clusterOff
  split
  · rw [State.setFld_clk]
  · rfl

theorem State.enterDeep_eq : s.enterDeep =
    (((List.range 4).foldl State.clusterOff (s.enterPstate 2).shutGates).clear Reg.CLK_STAT Fld.CLK_STAT_F_LOCK).requestRates modeVigil := rfl

theorem State.reg_vigilRates (a : Nat) : (s.requestRates modeVigil).reg a = s.reg a :=
  State.reg_of_sparing (kept := fun _ => True) (s.requestRates_outside modeVigil ⟨rfl, rfl⟩) trivial

theorem State.clk_vigilRates : (s.requestRates modeVigil).clk = s.clk :=
  (State.sameBut_of_outside (s.requestRates_outside (P := { Parts.all with clk := false }) modeVigil ⟨rfl, rfl⟩)).clk rfl

theorem State.modeStat_enterDeep :
    s.enterDeep.reg Reg.MODE_STAT = (s.setFld Reg.MODE_STAT Fld.MODE_STAT_PSTATE 2).reg Reg.MODE_STAT := by
  have hshut : ∀ u : State, u.shutGates.reg Reg.MODE_STAT = u.reg Reg.MODE_STAT := fun u => by
    rw [State.shutGates, State.setGates, State.reg_setFld_other _ (by decide), State.reg_setReg_other _ (by decide)]
    rfl
  rw [State.enterDeep_eq, State.reg_vigilRates, State.reg_clear_other _ (by decide),
    State.foldl_keeps (π := fun u => u.reg Reg.MODE_STAT) State.modeStat_clusterOff, hshut, State.modeStat_enterPstate]

theorem State.enterDeep_leaves : s.enterDeep.pstate = 2 ∧ s.enterDeep.flag Reg.CLK_STAT Fld.CLK_STAT_F_LOCK = false ∧
    s.enterDeep.clk.deepRetry = s.clk.deepRetry := by
  refine ⟨s.pstate_of_modeStat 2 s.modeStat_enterDeep (by decide), ?_, ?_⟩
  · rw [State.enterDeep_eq, State.flag_congr (State.reg_vigilRates _ _)]
    exact State.flag_clear _ ⟨by decide, by decide⟩
  · rw [State.enterDeep_eq, State.clk_vigilRates, State.clear, State.setFld_clk,
      State.foldl_keeps (π := fun u => u.clk) State.clk_clusterOff, State.shutGates, State.clk_setGates]
    exact s.deepRetry_enterPstate 2

variable {s}

theorem deepEntry_enters (hdeep : s.deepOk = true) (hretry : s.clk.deepRetry = none) : deepEntry s = s.enterDeep := by
  rw [deepEntry, hdeep, hretry]
  rfl

/-- No failed entry waits any more. -/
def State.retryDone (s : State) : State := { s with clk := { s.clk with deepRetry := none } }

theorem deepEntryRetry_due {u : Time} (hretry : s.clk.deepRetry = some u) (hdue : msTime 1 ≤ (s.time - u).toNat) :
    deepEntryRetry s = if s.deepOk then s.retryDone.enterDeep else s.retryDone := by
  have hdeep : s.retryDone.deepOk = s.deepOk := rfl
  rw [← hdeep, deepEntryRetry, hretry]
  exact if_neg (Nat.not_lt.2 hdue)

theorem deepEntryRetry_leaves {u : Time} (hretry : s.clk.deepRetry = some u) (hdue : msTime 1 ≤ (s.time - u).toNat) :
    (deepEntryRetry s).clk.deepRetry = none ∧ (s.deepOk = true →
      (deepEntryRetry s).pstate = 2 ∧ (deepEntryRetry s).flag Reg.CLK_STAT Fld.CLK_STAT_F_LOCK = false) := by
  obtain ⟨hps, hlock, hnone⟩ := s.retryDone.enterDeep_leaves
  rw [deepEntryRetry_due hretry hdue]
  split
  · exact ⟨hnone, fun _ => ⟨hps, hlock⟩⟩
  · next hno => exact ⟨rfl, fun h => absurd h hno⟩

end

/-! ### Closes that are given up (R320) -/

section
variable (s : State) (g : Nat)

/-- The close of a gate is counted, told and given up. -/
def State.closeGivenUp (ps : Nat) : State :=
  (((s.count Reg.CLK_GATE_TO Fld.CLK_GATE_TO_COUNT).setFld Reg.CLK_GATE_TO Fld.CLK_GATE_TO_LAST g).emitLimited 0x0020 0 g (secTime 1)
    false 0 (fun _ => [g, ps])).keepGate g

/-- The entry into DEEP is given up with it: the device is in SLEEP, the gate open. -/
def State.entryGivenUp : State :=
  ({ s with clk := { s.clk with deepRetry := some s.time } }.enterPstate 1).openGate g

theorem gateTimeout_entry (h : s.deepCloses g = true) : gateTimeout s g = (s.closeGivenUp g 2).entryGivenUp g := by
  rw [gateTimeout, if_neg (by simp [h]), if_pos h, if_pos h]
  rfl

theorem gateTimeout_close (hdeep : s.deepCloses g = false) (hwaited : s.closeWaited g = true) :
    ∃ ps, gateTimeout s g = s.closeGivenUp g ps := by
  rw [gateTimeout, if_neg (by simp [hwaited]), hdeep]
  exact ⟨_, rfl⟩

theorem State.reg_closeGivenUp (ps : Nat) {a : Nat} (ha : a ≠ Reg.DEV_EV_LOST) : (s.closeGivenUp g ps).reg a =
    ((s.count Reg.CLK_GATE_TO Fld.CLK_GATE_TO_COUNT).setFld Reg.CLK_GATE_TO Fld.CLK_GATE_TO_LAST g).reg a :=
  (State.emitLimited_sameBut _ _ _ _ _ _ _ _).reg a ha

theorem State.closeGivenUp_counts (hg : g < 16) (ps : Nat) :
    (s.closeGivenUp g ps).fld Reg.CLK_GATE_TO Fld.CLK_GATE_TO_LAST = g ∧
    (s.closeGivenUp g ps).fld Reg.CLK_GATE_TO Fld.CLK_GATE_TO_COUNT =
      satInc (fieldWidth Fld.CLK_GATE_TO_COUNT) (s.fld Reg.CLK_GATE_TO Fld.CLK_GATE_TO_COUNT) := by
  have hreg := s.reg_closeGivenUp g ps (a := Reg.CLK_GATE_TO) (by decide)
  rw [State.fld_congr hreg, State.fld_congr hreg, State.fld_setFld_self _ _ ⟨by decide, by decide⟩,
    State.fld_setFld_apart _ _ ⟨by decide, by decide⟩ (by decide) (by decide), State.fld_count_self _ _ ⟨by decide, by decide⟩]
  exact ⟨Nat.mod_eq_of_lt hg, rfl⟩

theorem State.reg_closeGivenUp_other (ps : Nat) {a : Nat} (hlost : a ≠ Reg.DEV_EV_LOST) (hto : a ≠ Reg.CLK_GATE_TO) :
    (s.closeGivenUp g ps).reg a = s.reg a := by
  rw [s.reg_closeGivenUp g ps hlost, State.reg_setFld_other _ hto, State.reg_count_other _ hto]

theorem State.time_closeGivenUp (ps : Nat) : (s.closeGivenUp g ps).time = s.time :=
  ((State.emitLimited_sameBut _ _ _ _ _ _ _ _).time rfl).trans (by rw [State.setFld_time, State.count_time])

theorem State.gateTo_entryGivenUp : (s.entryGivenUp g).reg Reg.CLK_GATE_TO = s.reg Reg.CLK_GATE_TO := by
  have hport : ∀ n, Reg.FP_STAT n ≠ Reg.CLK_GATE_TO := fun n => by
    unfold Reg.FP_STAT Reg.CLK_GATE_TO
    omega
  rw [State.entryGivenUp, State.reg_openGate_other _ _ (by decide) (by decide)]
  exact State.reg_of_sparing (kept := (· = Reg.CLK_GATE_TO)) (State.enterPstate_outside _ 1
    (by simp +decide [Parts.sparing, Parts.all, hport])) rfl

theorem State.entryGivenUp_leaves (hg : g < 16) : (s.entryGivenUp g).pstate = 1 ∧ (s.entryGivenUp g).gateOpen g = true ∧
    (s.entryGivenUp g).clk.deepRetry = some s.time := by
  refine ⟨?_, State.gateOpen_openGate _ hg, ?_⟩
  · rw [State.entryGivenUp, State.pstate, State.fld_congr (State.reg_openGate _ g (.inl rfl))]
    exact State.pstate_enterPstate _ 1 (by decide)
  · rw [State.entryGivenUp, State.deepRetry_openGate, State.deepRetry_enterPstate]

end

/-! ### Accesses of gated blocks (R321) -/

section
variable {s : State} {g : Nat} (hg : g < 16) (hshut : s.gateOpen g = false)
include hg hshut

theorem gatedAccess_deep (hdeep : s.pstate = 2) : gatedAccess s g = ((s.leaveDeep 0).count Reg.CLK_WAKE_ACC word32).openGate g := by
  rw [gatedAccess, if_neg (Nat.not_le.2 hg), State.reach, hshut, if_neg Bool.false_ne_true, if_pos hdeep]

theorem gatedAccess_awake (hdeep : s.pstate ≠ 2) : gatedAccess s g = s.openGate g := by
  rw [gatedAccess, if_neg (Nat.not_le.2 hg), State.reach, hshut, if_neg Bool.false_ne_true, if_neg hdeep]

theorem gatedAccess_endsDeep (hdeep : s.pstate = 2) : (gatedAccess s g).pstate = 0 ∧ (gatedAccess s g).gateOpen g = true ∧
    (gatedAccess s g).fld Reg.CLK_WAKE_ACC word32 = satInc 32 (s.fld Reg.CLK_WAKE_ACC word32) := by
  have hwake : (s.leaveDeep 0).reg Reg.CLK_WAKE_ACC = s.reg Reg.CLK_WAKE_ACC := by
    have hport : ∀ n, Reg.FP_STAT n ≠ Reg.CLK_WAKE_ACC := fun n => by
      unfold Reg.FP_STAT Reg.CLK_WAKE_ACC
      omega
    have hremap : ∀ n, Reg.ECC_REMAP n ≠ Reg.CLK_WAKE_ACC := fun n => by
      unfold Reg.ECC_REMAP Reg.CLK_WAKE_ACC
      omega
    have hclu : ∀ n, Reg.CL_STAT n ≠ Reg.CLK_WAKE_ACC := fun n => clStat_ne_low n (by decide)
    exact State.reg_of_sparing (kept := (· = Reg.CLK_WAKE_ACC)) (s.leaveDeep_outside 0
      (by simp +decide [Parts.sparing, Parts.all, Parts.emits, hport, hremap, hclu])) rfl
  rw [gatedAccess_deep hg hshut hdeep]
  refine ⟨?_, State.gateOpen_openGate _ hg, ?_⟩
  · rw [State.pstate, State.fld_congr (State.reg_openGate _ g (.inl rfl)), State.fld_congr (State.reg_count_other _ (by decide) _)]
    exact s.pstate_leaveDeep 0 (by decide)
  · rw [State.fld_congr (State.reg_openGate_other _ g (by decide) (by decide)), State.fld_count_self _ _ word32_inWord,
      State.fld_congr hwake]
    rfl

end

/-- Settles O40: each row's meaning has a frame, so it is the row's answer; the lemmas on entries into a power state, on closes that are
given up and on accesses say what it leaves. -/
theorem powerStates : Obligations.PowerStates := by
  unfold Obligations.PowerStates
  refine ⟨?sleep, ?deep, ?retry, ?burst, ?timeout, ?access⟩
  case sleep =>
    intro s hmode hrun hidle hinvs hended hdma
    refine ⟨_, State.effect_of_outside (P := Parts.all) (powerStateSleep_outside s (by simp [Parts.all])), ?_⟩
    rw [powerStateSleep_sleeps hmode hrun hidle hinvs hended hdma]
    exact s.pstate_enterPstate 1 (by decide)
  case deep =>
    intro s hdeep hretry
    obtain ⟨hps, hlock, -⟩ := s.enterDeep_leaves
    refine ⟨_, State.effect_of_outside (P := Parts.all) (deepEntry_outside s (by simp [Parts.all])), ?_⟩
    rw [deepEntry_enters hdeep hretry]
    exact ⟨hps, hlock⟩
  case retry =>
    intro s u hretry hdue
    exact ⟨_, State.effect_of_outside (P := Parts.all) (deepEntryRetry_outside s (by simp [Parts.all])),
      deepEntryRetry_leaves hretry hdue⟩
  case burst =>
    intro s hps hreason
    refine ⟨_, State.effect_of_outside (P := Parts.all) (runBurstStart_outside s (by simp [Parts.all, Parts.emits])), ?_⟩
    rw [runBurstStart, if_pos hreason]
    exact s.pstate_runBurst hps
  case timeout =>
    intro s g hg hwhy
    refine ⟨_, State.effect_of_outside (P := Parts.all) (gateTimeout_outside s g (by simp [Parts.all, Parts.emits])), ?_⟩
    cases hdeep : s.deepCloses g with
    | true =>
      obtain ⟨hlast, hcount⟩ := s.closeGivenUp_counts g hg 2
      have hto := (s.closeGivenUp g 2).gateTo_entryGivenUp g
      obtain ⟨hps, hopen, hretry⟩ := (s.closeGivenUp g 2).entryGivenUp_leaves g hg
      rw [gateTimeout_entry s g hdeep, State.fld_congr hto, State.fld_congr hto, hretry, State.time_closeGivenUp]
      exact ⟨hlast, hcount, State.closing_keepGate _ g, fun _ => ⟨hps, hopen, rfl⟩, fun h => absurd h (by decide)⟩
    | false =>
      have hwaited : s.closeWaited g = true := hwhy.resolve_left (by simp [hdeep])
      obtain ⟨ps, hgives⟩ := gateTimeout_close s g hdeep hwaited
      obtain ⟨hlast, hcount⟩ := s.closeGivenUp_counts g hg ps
      have hkept := fun {a} => s.reg_closeGivenUp_other g ps (a := a)
      rw [hgives]
      exact ⟨hlast, hcount, State.closing_keepGate _ g, fun h => absurd h (by decide),
        fun _ => ⟨State.fld_congr (hkept (by decide) (by decide)) _, by rw [State.regBit, hkept (by decide) (by decide), State.regBit]⟩⟩
  case access =>
    intro s g hg hshut
    refine ⟨_, State.effect_of_outside (P := Parts.all) (gatedAccess_outside s g (by simp [Parts.all, Parts.emits])),
      gatedAccess_endsDeep hg hshut, fun hdeep => ?_⟩
    rw [gatedAccess_awake hg hshut hdeep]
    exact s.gateOpen_openGate hg

end Sys2Proof.Machine
end

section
/-!
PROOF. A candidate whose readiness ends holdover by the switch to another, shallower one; O42 refuted by it.
-/
namespace Sys2Proof.Machine

/-- Port `p` is UP, and its neighbour has synthesized clock of its own at that depth and none from this device (R324, R368). -/
def State.withParent (s : State) (p depth : Nat) : State :=
  ((s.setFld (Reg.FP_STAT p) Fld.FP_STAT_LSTATE lsUp).setFld (Reg.FP_STAT p) Fld.FP_STAT_NSYNT 1).setFld
    (Reg.FP_STAT p) Fld.FP_STAT_NDEPTH depth

/-- A device at depth 6, in holdover since its source over port 1 is lost, with AUTO = 1. The clock root is its neighbour over port 0,
whose candidate is READY. -/
def twoParents : State :=
  (((((State.reset.withParent 0 0).withParent 1 5).setFld Reg.FAB_STAT Fld.FAB_STAT_DEPTH 6).setReg Reg.CLK_READY (BitVec.ofNat 32 2)).setFld
    Reg.CLK_SRC Fld.CLK_SRC_SEL 2).setFld Reg.CLK_STAT Fld.CLK_STAT_HOLDOVER 1

/-- Port 1 advertises what R324 asks. -/
theorem twoParents_advReady : twoParents.advReady 1 = true := by
  decide +kernel

/-- As its candidate becomes READY, the device takes the first one in the order of CLK_PRIO, port 0's. At depth 1 the neighbour over
port 1 is the deeper one, and its candidate is not READY. -/
theorem candidateReadyChange_twoParents : (candidateReadyChange twoParents 2 true).regBit Reg.CLK_READY 2 = false := by
  decide +kernel

/-- Refutes O42: in holdover with AUTO = 1 a candidate that becomes READY lets the device take the first READY one of CLK_PRIO (R326),
which may be another. The device's depth then falls, and the candidate named may no longer meet R324: it is not READY although the state
before the command says that its port advertises what R324 asks. -/
theorem not_clocks : ¬ Obligations.Clocks := by
  unfold Obligations.Clocks
  rintro ⟨-, -, -, -, hready, -, -⟩
  obtain ⟨t, ht, hbit⟩ := hready twoParents 2 true (by decide)
  have hdone : exec (.candidateReadyChange 2 true) twoParents = .next (candidateReadyChange twoParents 2 true) :=
    State.effect_of_outside (P := Parts.all) (candidateReadyChange_outside twoParents 2 true (by simp [Parts.all]))
  obtain rfl : candidateReadyChange twoParents 2 true = t := Host.Outcome.next.inj (hdone.symm.trans ht)
  rw [candidateReadyChange_twoParents, if_neg (by decide), twoParents_advReady] at hbit
  exact absurd hbit (by decide)

end Sys2Proof.Machine
end

section
/-!
PROOF. What PACER's evaluation, its windows and the temperature leave; O41 settled.
-/
namespace Sys2Proof.Machine

/-! ### What stands through an entry to SAFE -/

namespace State.ModeStands

variable {s : State} {a : Nat}

theorem setReg {w : Word} (hstat : Reg.MODE_STAT ≠ a := by decide) (hpacer : Reg.PACER_STAT ≠ a := by decide) :
    s.ModeStands (s.setReg a w) :=
  ⟨fun f _ => State.fld_congr (s.reg_setReg_other hstat w) f, fun f _ => State.fld_congr (s.reg_setReg_other hpacer w) f, rfl⟩

theorem setFld {f : Field} {v : Nat} (hstat : Reg.MODE_STAT ≠ a := by decide) (hpacer : Reg.PACER_STAT ≠ a := by decide) :
    s.ModeStands (s.setFld a f v) :=
  ⟨fun g _ => s.fld_setFld_other hstat f g v, fun g _ => s.fld_setFld_other hpacer f g v, by rw [State.setFld_mode]⟩

theorem setPacer {p : PacerUnit} : s.ModeStands { s with pacer := p } := ⟨fun _ _ => rfl, fun _ _ => rfl, rfl⟩

end State.ModeStands

section
variable (s : State)

theorem State.enterSafe_stands (c rule unit : Nat) : s.ModeStands (s.enterSafe c rule unit) := by
  have hdrive : ∀ u : State, u.ModeStands (u.driveSafeN true) := fun u =>
    .of_outside (u.driveSafeN_outside true (by simp (disch := decide) [Parts.besideModes, Parts.all, not_modeBlock]))
  have hmon : ∀ m : Smon, s.ModeStands { s with smon := m } := fun m => ⟨fun _ _ => rfl, fun _ _ => rfl, rfl⟩
  unfold State.enterSafe
  exact .ite (.ite s.safeRequest_stands (.refl s))
    ((((((hmon _).trans (hdrive _)).trans .setFld).trans .setFld).trans (State.safeRequest_stands _)).trans
      (State.emit_modeStands _ _ _ _))

theorem State.raiseCause_stands (c rule unit : Nat) : s.ModeStands (s.raiseCause c rule unit) := by
  unfold State.raiseCause
  exact .trans .setFld (.ite (State.enterSafe_stands _ c rule unit)
    (.ite (.refl _) (.trans .setFld (State.enterSafe_stands _ c rule unit))))

end

/-! ### Admission (R332, R336) -/

/-- What admission changes of PACER's accounts: what is charged, the debt and the budget that it raises. -/
def PacerUnit.Charges (p q : PacerUnit) : Prop :=
  ∃ charged debt budget, q = { p with charged := charged, debt := debt, budget := budget }

theorem PacerUnit.Charges.trans {p q r : PacerUnit} (h : p.Charges q) (k : q.Charges r) : p.Charges r := by
  obtain ⟨_, _, _, rfl⟩ := h
  exact k

theorem PacerUnit.Charges.of_eq {p q : PacerUnit} (h : q = p) : p.Charges q := ⟨p.charged, p.debt, p.budget, h⟩

/-- What admission leaves of the modes' registers and of PACER's accounts. -/
def State.Charges (s t : State) : Prop := s.ModeStands t ∧ s.pacer.Charges t.pacer

theorem State.Charges.refl (s : State) : s.Charges s := ⟨.refl s, .of_eq rfl⟩

theorem State.Charges.trans {s t u : State} (h : s.Charges t) (k : t.Charges u) : s.Charges u := ⟨h.1.trans k.1, h.2.trans k.2⟩

section
variable (s : State)

theorem State.showPacer_stands : s.ModeStands s.showPacer :=
  .trans (.trans (.trans .setReg .setReg) .setReg) .setReg

theorem State.showPacer_charges : s.Charges s.showPacer :=
  ⟨s.showPacer_stands, .of_eq (by rw [State.showPacer]; simp only [State.setReg_pacer])⟩

theorem State.admitInv_charges (node : Nat) (v : Inv) : s.Charges (s.admitInv node v) :=
  ⟨.trans .setPacer (.of_outside (State.updInv_outside _ node v.num _ (by simp [Parts.besideModes, Parts.all]))), _, _, _, rfl⟩

/-- What PACER borrows raises its debt and the window's budget, and shows. -/
def State.borrowed (short : Nat) : State :=
  ({ s with pacer := { s.pacer with debt := s.pacer.debt + short, budget := s.pacer.budget + short } }.raise Reg.PACER_STAT
    Fld.PACER_STAT_BORROW_S).showPacer

theorem State.borrowed_charges (short : Nat) : s.Charges (s.borrowed short) := by
  refine .trans ?_ (State.showPacer_charges _)
  exact ⟨.trans .setPacer .setSticky, _, _, _, State.raise_pacer _ _ _⟩

theorem State.borrow_charges (short : Nat) : s.Charges (s.borrow short) := by
  unfold State.borrow
  dsimp only
  split
  · exact .refl s
  · refine (s.borrowed_charges short).trans ?_
    split
    · exact ⟨State.emit_modeStands _ _ _ _, .of_eq (State.emit_pacer _ _ _ _)⟩
    · exact .refl _

theorem State.admitLoop_charges (fuel : Nat) : s.Charges (s.admitLoop fuel) := by
  induction fuel generalizing s with
  | zero => exact .refl s
  | succ fuel ih =>
    unfold State.admitLoop
    dsimp only
    split
    · exact .refl s
    · next i d v _ =>
      split
      · exact (s.admitInv_charges i v).trans (ih _)
      · split
        · exact ((s.borrow_charges _).trans (State.admitInv_charges _ i v)).trans (ih _)
        · exact .refl s

theorem State.pacerAdmit_charges : s.Charges s.pacerAdmit := by
  have hshown : ∀ u : State, u.Charges u.showWaiting.showPacer := fun u =>
    .trans ⟨.setFld, .of_eq (State.setFld_pacer _ _ _ _)⟩ (State.showPacer_charges _)
  unfold State.pacerAdmit
  dsimp only
  split
  · exact (s.admitLoop_charges _).trans (hshown _)
  · exact hshown s

end

/-! ### The temperature (R333) -/

theorem signedOf_toNat (v : BitVec 16) : signedOf 16 v.toNat = v.toInt := by
  rw [signedOf, BitVec.toInt_eq_toNat_cond, Nat.mod_eq_of_lt v.isLt]
  split <;> split <;> omega

section
variable (s : State) (tj : BitVec 16)

theorem State.fld_setTj : (s.setTj tj).fld Reg.PACER_STAT Fld.PACER_STAT_TJ = tj.toNat :=
  (s.fld_setFld_self _ ⟨by decide, by decide⟩ _).trans (Nat.mod_eq_of_lt tj.isLt)

theorem State.tj_setTj : (s.setTj tj).tj = tj.toInt := by
  rw [State.tj, s.fld_setTj tj, signedOf_toNat]

theorem State.limit_setTj (f : Field) : (s.setTj tj).fld Reg.PACER_THERM f = s.fld Reg.PACER_THERM f :=
  s.fld_setFld_other (by decide) _ f _

theorem State.flag_setTj {f : Field} (hf : f.lo ≤ f.hi ∧ f.hi < 16) : (s.setTj tj).flag Reg.PACER_STAT f = s.flag Reg.PACER_STAT f := by
  rw [State.flag, State.setTj, s.fld_setFld_apart _ ⟨by decide, by decide⟩ hf.1 (.inr hf.2), State.flag]

theorem State.atCeil_setTj : (s.setTj tj).atCeil = decide ((256 * s.fld Reg.PACER_THERM Fld.PACER_THERM_CEIL : Int) ≤ tj.toInt) := by
  rw [State.atCeil, s.tj_setTj, s.limit_setTj]

theorem State.inEmergency_setTj : (s.setTj tj).inEmergency =
    (!s.flag Reg.PACER_STAT Fld.PACER_STAT_EMERG && decide ((256 * s.fld Reg.PACER_THERM Fld.PACER_THERM_EMERG : Int) ≤ tj.toInt)) := by
  rw [State.inEmergency, s.tj_setTj, s.limit_setTj, s.flag_setTj tj ⟨by decide, by decide⟩]

/-- The temperature at CEIL sets its bit. -/
theorem State.ceil_reachCeil : s.reachCeil.flag Reg.PACER_STAT Fld.PACER_STAT_CEIL = true :=
  ((State.emit_modeStands _ _ _ _).flag ⟨by decide, by decide⟩).trans (State.flag_raise _ _ ⟨by decide, by decide⟩)

theorem State.haltClusters_stands : s.ModeStands s.haltClusters :=
  .of_outside (s.haltClusters_outside
    (by simp (disch := decide) [Parts.besideModes, Parts.all, not_modeBlock_unit, Reg.CL_CYC, Reg.CL_STAT]))

/-- The temperature at EMERG sets its bit, and the cause of SAFE is active. -/
theorem State.reachEmerg_leaves : s.reachEmerg.flag Reg.PACER_STAT Fld.PACER_STAT_EMERG = true ∧ s.reachEmerg.causeActive 4 = true :=
  ⟨(((State.haltClusters_stands _).trans (State.emit_modeStands _ _ _ _)).trans (State.raiseCause_stands _ _ _ _)).flag
      ⟨by decide, by decide⟩ |>.trans (State.flag_raise _ _ ⟨by decide, by decide⟩),
    State.causeActive_raiseCause _ (by decide) (by decide) _ _⟩

end

/-! ### An evaluation (R330, R332) -/

section
variable (s : State) {addr : Nat → Nat} (haddr : Function.Injective addr) (val : Nat → Word)
include haddr

theorem State.reg_foldl_addReg_other {l : List Nat} {n : Nat} (hn : n ∉ l) :
    (l.foldl (fun (s : State) k => s.setReg (addr k) (s.reg (addr k) + val k)) s).reg (addr n) = s.reg (addr n) := by
  induction l generalizing s with
  | nil => rfl
  | cons k l ih =>
    obtain ⟨hk, hl⟩ := not_or.1 (mt List.mem_cons.2 hn)
    rw [List.foldl_cons, ih _ hl, State.reg_setReg_other _ (haddr.ne hk)]

/-- Registers that each take one value: each holds the sum. -/
theorem State.reg_foldl_addReg {l : List Nat} (hl : l.Nodup) {n : Nat} (hn : n ∈ l) :
    (l.foldl (fun (s : State) k => s.setReg (addr k) (s.reg (addr k) + val k)) s).reg (addr n) = s.reg (addr n) + val n := by
  induction l generalizing s with
  | nil => exact absurd hn List.not_mem_nil
  | cons k l ih =>
    obtain ⟨hk, hl⟩ := List.nodup_cons.1 hl
    rw [List.foldl_cons]
    rcases List.mem_cons.1 hn with rfl | hmem
    · rw [State.reg_foldl_addReg_other _ haddr _ hk, State.reg_setReg_self]
    · have hne : n ≠ k := fun h => hk (h ▸ hmem)
      rw [ih _ hl hmem, State.reg_setReg_other _ (haddr.ne hne)]

end

theorem pacerE_injective : Function.Injective Reg.PACER_E := fun i j h => by
  unfold Reg.PACER_E at h
  omega

/-- The six energy counters. -/
def energyBlock (r : Nat) : Prop := 0x1140 ≤ r ∧ r < 0x1158

theorem not_energyBlock {r : Nat} (h : r < 0x1140 ∨ 0x1158 ≤ r) : ¬energyBlock r := by
  unfold energyBlock
  omega

theorem not_energyBlock_unit {base stride : Nat} (h : 0x1158 ≤ base) (n : Nat) : ¬energyBlock (base + stride * n) :=
  not_energyBlock (.inr (Nat.le_add_right_of_le h))

theorem energyBlock_pacerE {n : Nat} (hn : n < 6) : energyBlock (Reg.PACER_E n) := by
  unfold energyBlock Reg.PACER_E
  omega

section
variable (s : State) (energy : List Nat) (tj : BitVec 16)

/-- The state as an evaluation has charged the energy. -/
def State.energyCharged : State :=
  ((s.setTj tj).countEnergy energy).chargeWindow ((energy.take 6).foldl (· + ·) 0)
    (((s.setTj tj).countEnergy energy).time - ((s.setTj tj).countEnergy energy).pacer.lastEval).toNat

theorem pacerEvaluate_eq :
    pacerEvaluate s energy tj = (burstExhausted (s.energyCharged energy tj).judgeOver.judgeTemp.pacerAdmit).pacerChange := rfl

theorem State.energy_countEnergy {n : Nat} (hn : n < 6) :
    (s.countEnergy energy).reg (Reg.PACER_E n) = s.reg (Reg.PACER_E n) + BitVec.ofNat 32 (energy.getD n 0) :=
  s.reg_foldl_addReg pacerE_injective (fun n => BitVec.ofNat 32 (energy.getD n 0)) List.nodup_range (List.mem_range.2 hn)

theorem State.reg_chargeWindow (e dt a : Nat) : (s.chargeWindow e dt).reg a = s.reg a := rfl

theorem State.energy_energyCharged {n : Nat} (hn : n < 6) :
    (s.energyCharged energy tj).reg (Reg.PACER_E n) = s.reg (Reg.PACER_E n) + BitVec.ofNat 32 (energy.getD n 0) := by
  have hne : Reg.PACER_E n ≠ Reg.PACER_STAT := by
    unfold Reg.PACER_E Reg.PACER_STAT
    omega
  rw [State.energyCharged, State.reg_chargeWindow, State.energy_countEnergy _ _ hn, State.setTj, s.reg_setFld_other hne]

theorem pacerEvaluate_energy {n : Nat} (hn : n < 6) :
    (pacerEvaluate s energy tj).reg (Reg.PACER_E n) = s.reg (Reg.PACER_E n) + BitVec.ofNat 32 (energy.getD n 0) := by
  have hblock := energyBlock_pacerE hn
  have hover : ∀ u : State, u.judgeOver.reg (Reg.PACER_E n) = u.reg (Reg.PACER_E n) := fun u =>
    State.reg_of_sparing (u.judgeOver_outside
      (by simp (disch := decide) [Parts.sparing, Parts.all, Parts.emits, not_energyBlock])) hblock
  have htemp : ∀ u : State, u.judgeTemp.reg (Reg.PACER_E n) = u.reg (Reg.PACER_E n) := fun u =>
    State.reg_of_sparing (u.judgeTemp_outside
      (by simp (disch := decide) [Parts.sparing, Parts.all, Parts.emits, not_energyBlock, not_energyBlock_unit, Reg.CL_CYC,
        Reg.CL_STAT, Reg.FP_UTIL])) hblock
  have hadmit : ∀ u : State, u.pacerAdmit.reg (Reg.PACER_E n) = u.reg (Reg.PACER_E n) := fun u =>
    State.reg_of_sparing (u.pacerAdmit_outside
      (by simp (disch := decide) [Parts.sparing, Parts.all, Parts.emits, not_energyBlock])) hblock
  have hburst : ∀ u : State, (burstExhausted u).reg (Reg.PACER_E n) = u.reg (Reg.PACER_E n) := fun u =>
    State.reg_of_sparing (burstExhausted_outside u
      (by simp (disch := decide) [Parts.sparing, Parts.all, Parts.emits, not_energyBlock])) hblock
  have hchange : ∀ u : State, u.pacerChange.reg (Reg.PACER_E n) = u.reg (Reg.PACER_E n) := fun u =>
    State.reg_of_sparing (u.pacerChange_outside
      (by simp (disch := decide) [Parts.sparing, Parts.all, not_energyBlock])) hblock
  rw [pacerEvaluate_eq, hchange, hburst, hadmit, htemp, hover]
  exact s.energy_energyCharged energy tj hn

theorem State.judgeOver_stands : s.ModeStands s.judgeOver := by
  unfold State.judgeOver
  exact .ite (.refl s) (.trans (.trans .setPacer .setSticky) (State.emit_modeStands _ _ _ _))

theorem State.tj_reachCeil : s.reachCeil.fld Reg.PACER_STAT Fld.PACER_STAT_TJ = s.fld Reg.PACER_STAT Fld.PACER_STAT_TJ :=
  ((State.emit_modeStands _ _ _ _).pacer _ ⟨by decide, by decide⟩).trans
    (s.fld_setFld_apart _ ⟨by decide, by decide⟩ (by decide) (by decide) _)

theorem State.tj_reachEmerg : s.reachEmerg.fld Reg.PACER_STAT Fld.PACER_STAT_TJ = s.fld Reg.PACER_STAT Fld.PACER_STAT_TJ :=
  ((((State.haltClusters_stands _).trans (State.emit_modeStands _ _ _ _)).trans (State.raiseCause_stands _ _ _ _)).pacer _
    ⟨by decide, by decide⟩).trans (s.fld_setFld_apart _ ⟨by decide, by decide⟩ (by decide) (by decide) _)

theorem State.tj_judgeTemp : s.judgeTemp.fld Reg.PACER_STAT Fld.PACER_STAT_TJ = s.fld Reg.PACER_STAT Fld.PACER_STAT_TJ := by
  have hemerg : ∀ u : State, (if u.inEmergency then u.reachEmerg else u).fld Reg.PACER_STAT Fld.PACER_STAT_TJ =
      u.fld Reg.PACER_STAT Fld.PACER_STAT_TJ := fun u => by
    split
    · exact u.tj_reachEmerg
    · rfl
  unfold State.judgeTemp
  dsimp only
  rw [hemerg]
  split
  · exact s.tj_reachCeil
  · rfl

theorem burstExhausted_stands : s.ModeStands (burstExhausted s) :=
  .ite (.refl s) (((State.ModeStands.setPacer.trans .setSticky).trans (State.emit_modeStands _ _ _ _)).trans
    (State.pacerChange_stands _))

theorem pacerEvaluate_tj : (pacerEvaluate s energy tj).fld Reg.PACER_STAT Fld.PACER_STAT_TJ = tj.toNat := by
  have hne : ∀ n r, r < 0x1140 → r ≠ Reg.PACER_E n := fun n r hr => (Nat.lt_of_lt_of_le hr (Nat.le_add_right _ _)).ne
  have hcount : (s.setTj tj).ModeStands (s.energyCharged energy tj) :=
    .trans (.foldl (fun _ n => .setReg (hne n _ (by decide)) (hne n _ (by decide))) _ _) .setPacer
  have hfield : pacerStands Fld.PACER_STAT_TJ := ⟨by decide, by decide⟩
  have hafter := (((State.pacerAdmit_charges _).1.trans (burstExhausted_stands _)).trans
    (State.pacerChange_stands _)).pacer _ hfield (s := (s.energyCharged energy tj).judgeOver.judgeTemp)
  rw [pacerEvaluate_eq, hafter, State.tj_judgeTemp, (State.judgeOver_stands _).pacer _ hfield, hcount.pacer _ hfield]
  exact s.fld_setTj tj

theorem State.pacer_pacerChange : s.pacerChange.pacer = s.pacer :=
  (State.sameBut_of_outside (s.pacerChange_outside (P := { Parts.all with pacer := false }) (by simp [Parts.all]))).pacer rfl

theorem State.pacer_judgeTemp : s.judgeTemp.pacer = s.pacer :=
  (State.sameBut_of_outside (s.judgeTemp_outside (P := { Parts.all with pacer := false })
    (by simp [Parts.all, Parts.emits]))).pacer rfl

theorem State.lastEval_judgeOver : s.judgeOver.pacer.lastEval = s.pacer.lastEval := by
  unfold State.judgeOver
  split
  · rfl
  · rw [State.emit_pacer, State.raise_pacer]

theorem lastEval_burstExhausted : (burstExhausted s).pacer.lastEval = s.pacer.lastEval := by
  unfold burstExhausted
  split
  · rfl
  · rw [State.pacer_pacerChange, State.emit_pacer, State.raise_pacer]

theorem PacerUnit.Charges.lastEval {p q : PacerUnit} (h : p.Charges q) : q.lastEval = p.lastEval := by
  obtain ⟨_, _, _, rfl⟩ := h
  rfl

theorem State.lastEval_chargeWindow (e dt : Nat) : (s.chargeWindow e dt).pacer.lastEval = s.time := rfl

theorem pacerEvaluate_lastEval : (pacerEvaluate s energy tj).pacer.lastEval = s.time := by
  have hcount : ((s.setTj tj).countEnergy energy).time = (s.setTj tj).time :=
    (State.sameBut_of_outside (State.countEnergy_outside (P := { Parts.all with time := false }) _ energy (by simp [Parts.all]))).time rfl
  rw [pacerEvaluate_eq, State.pacer_pacerChange, lastEval_burstExhausted, (State.pacerAdmit_charges _).2.lastEval,
    State.pacer_judgeTemp, State.lastEval_judgeOver, State.energyCharged,
    State.lastEval_chargeWindow, hcount, State.setTj, State.setFld_time]

end

/-! ### A window (R331, R334) -/

section
variable (s : State)

/-- The baseline of a window that ends is measured, and nothing else of PACER's accounts. -/
theorem State.measureBase_pacer : ∃ baseV baseS, s.measureBase.pacer = { s.pacer with baseV := baseV, baseS := baseS } := by
  unfold State.measureBase
  dsimp only
  split
  · exact ⟨_, _, State.setReg_pacer _ _ _⟩
  · split
    · exact ⟨_, _, State.setReg_pacer _ _ _⟩
    · exact ⟨_, _, rfl⟩

theorem State.poolMax_measureBase : s.measureBase.poolMax = s.poolMax := by
  have hres : s.measureBase.reg Reg.PACER_RES = s.reg Reg.PACER_RES :=
    State.reg_of_sparing (kept := (· = Reg.PACER_RES)) (s.measureBase_outside (by simp +decide [Parts.sparing, Parts.all])) rfl
  rw [State.poolMax, State.fld_congr hres, State.poolMax]

/-- PACER's accounts as a window begins: what the last one has not spent is in the pool, and debt is repaid from this one's budget. -/
def State.windowOpened (start : Nat) : State :=
  { s with pacer := { s.pacer with
      pool := max s.pacer.pool (min s.poolMax (s.pacer.pool + (s.pacer.budget - s.pacer.used).toNat)),
      debt := s.pacer.debt - min s.pacer.debt (s.budgetOf s.curMode / 2),
      budget := (s.budgetOf s.curMode : Int) - (min s.pacer.debt (s.budgetOf s.curMode / 2) : Nat),
      used := 0, total := 0, discretion := 0, windowStart := BitVec.ofNat 64 start, wholeMode := some s.curMode, overWritten := false } }

theorem pacerWindowStart_charges (h : ¬(s.windowBegin ≤ s.pacer.windowStart.toNat ∧ s.pacer.windowStart.toNat ≤ s.time.toNat)) :
    (s.measureBase.windowOpened s.windowBegin).pacer.Charges (pacerWindowStart s).pacer := by
  have hadmit := (s.measureBase.windowOpened s.windowBegin).pacerAdmit_charges.2
  rw [pacerWindowStart, if_neg h]
  dsimp only
  split
  · rw [State.emit_pacer]
    exact hadmit
  · exact hadmit

theorem pacerWindowStart_begins (h : ¬(s.windowBegin ≤ s.pacer.windowStart.toNat ∧ s.pacer.windowStart.toNat ≤ s.time.toNat)) :
    (pacerWindowStart s).pacer.windowStart = BitVec.ofNat 64 s.windowBegin ∧ (pacerWindowStart s).pacer.used = 0 ∧
    (pacerWindowStart s).pacer.total = 0 ∧ (pacerWindowStart s).pacer.overWritten = false ∧
    (pacerWindowStart s).pacer.pool = max s.pacer.pool (min s.poolMax (s.pacer.pool + (s.pacer.budget - s.pacer.used).toNat)) := by
  obtain ⟨_, _, _, hpacer⟩ := pacerWindowStart_charges s h
  obtain ⟨_, _, hbase⟩ := s.measureBase_pacer
  rw [hpacer]
  refine ⟨rfl, rfl, rfl, rfl, ?_⟩
  dsimp only [State.windowOpened]
  rw [hbase, s.poolMax_measureBase]

end

/-! ### The end of the pool (R335) -/

section
variable {s : State}

theorem State.pacerChange_burst (hmode : s.curMode = modeBurst) (hpool : s.pacer.pool = 0) (hidle : s.changing = false) :
    s.pacerChange = s.beginChange modeSurvey 4 0 none := by
  have hburst : (s.curMode == modeBurst && (s.pacer.pool == 0 || s.atCeil)) = true := by
    rw [hmode, hpool]
    rfl
  unfold State.pacerChange
  dsimp only
  rw [hburst, hidle]
  exact (if_neg Bool.false_ne_true).trans (if_neg Bool.false_ne_true)

/-- The end of the pool is shown and told. -/
def State.exhaustionTold (s : State) : State :=
  ({ s with pacer := { s.pacer with exhausted := true } }.raise Reg.PACER_STAT Fld.PACER_STAT_EXH_S).emit 0x0703 0
    [msSince s.pacer.burstStart s.time]

theorem burstExhausted_leaves (hmode : s.curMode = modeBurst) (hpool : s.pacer.pool = 0) (hfirst : s.pacer.exhausted = false)
    (hidle : s.changing = false) : (burstExhausted s).flag Reg.PACER_STAT Fld.PACER_STAT_EXH_S = true ∧
    (burstExhausted s).fld Reg.MODE_STAT Fld.MODE_STAT_TARGET = modeSurvey ∧ (burstExhausted s).mode.phase = .waiting := by
  have hmode' : s.exhaustionTold.curMode = modeBurst :=
    ((State.ModeStands.setPacer.trans .setSticky).trans (State.emit_modeStands _ _ _ _)).curMode.trans hmode
  have hpool' : s.exhaustionTold.pacer.pool = 0 := by
    rw [State.exhaustionTold, State.emit_pacer, State.raise_pacer]
    exact hpool
  have hidle' : s.exhaustionTold.changing = false := by
    rw [State.changing, State.exhaustionTold, State.emit_mode, State.raise_mode]
    exact hidle
  have hvia : viaSurvey s.exhaustionTold.curMode modeSurvey = false := by
    rw [hmode']
    rfl
  have hsticky : s.exhaustionTold.flag Reg.PACER_STAT Fld.PACER_STAT_EXH_S = true := by
    rw [State.exhaustionTold, State.flag_congr (State.emit_reg _ _ _ _ (by decide))]
    exact State.flag_raise _ _ ⟨by decide, by decide⟩
  have hbegins : burstExhausted s = s.exhaustionTold.beginChange modeSurvey 4 0 none := by
    rw [← State.pacerChange_burst hmode' hpool' hidle', burstExhausted, hmode, hpool, hfirst]
    exact if_neg (by decide)
  obtain ⟨htarget, -, hphase, -⟩ := s.exhaustionTold.beginChange_direct modeSurvey 4 0 none (by decide) hvia
  rw [hbegins, State.flag_congr (State.reg_beginChange _ _ _ _ _ (by decide))]
  exact ⟨hsticky, htarget, hphase⟩

end

/-! ### The limits of the temperature (R333) -/

/-- A bit that has been cleared reads 0. -/
theorem State.regBit_dropped (s : State) (a : Nat) {i : Nat} (h : i < 32) : (s.setBit a i false).regBit a i = false := by
  have hfld := s.fld_setFld_self a (f := ⟨i, i⟩) ⟨Nat.le_refl i, h⟩ (bit false)
  rw [State.fld, getField, fieldWidth, Nat.add_sub_cancel_left] at hfld
  simpa [State.regBit, bitAt, State.setBit, bit] using hfld

section
variable {s : State} {tj : BitVec 16}

theorem State.ceil_pacerAdmit {u : State} : u.pacerAdmit.flag Reg.PACER_STAT Fld.PACER_STAT_CEIL = u.flag Reg.PACER_STAT Fld.PACER_STAT_CEIL :=
  u.pacerAdmit_charges.1.flag ⟨by decide, by decide⟩

theorem thermalCeil_reached (hclear : s.flag Reg.PACER_STAT Fld.PACER_STAT_CEIL = false)
    (hhot : (256 * s.fld Reg.PACER_THERM Fld.PACER_THERM_CEIL : Int) ≤ tj.toInt) :
    (thermalCeil s tj).flag Reg.PACER_STAT Fld.PACER_STAT_CEIL = true := by
  have hreach : thermalCeil s tj = (s.setTj tj).reachCeil.pacerChange := by
    unfold thermalCeil
    dsimp only
    rw [s.flag_setTj tj ⟨by decide, by decide⟩, s.atCeil_setTj, hclear, decide_eq_true hhot]
    exact if_pos rfl
  rw [hreach, (State.pacerChange_stands _).flag ⟨by decide, by decide⟩]
  exact State.ceil_reachCeil _

theorem thermalCeil_left (hset : s.flag Reg.PACER_STAT Fld.PACER_STAT_CEIL = true)
    (hcool : tj.toInt ≤ 256 * ((s.fld Reg.PACER_THERM Fld.PACER_THERM_CEIL : Int) - 5)) :
    (thermalCeil s tj).flag Reg.PACER_STAT Fld.PACER_STAT_CEIL = false := by
  have hleave : thermalCeil s tj = (((s.setTj tj).clear Reg.PACER_STAT Fld.PACER_STAT_CEIL).emit 0x0704 0 [tj.toInt, 0, 0]).pacerAdmit := by
    unfold thermalCeil
    dsimp only
    rw [s.flag_setTj tj ⟨by decide, by decide⟩, s.tj_setTj, s.limit_setTj, hset, decide_eq_true hcool]
    exact (if_neg Bool.false_ne_true).trans (if_pos rfl)
  rw [hleave, State.ceil_pacerAdmit, (State.emit_modeStands _ _ _ _).flag ⟨by decide, by decide⟩]
  exact State.flag_clear _ ⟨by decide, by decide⟩

theorem thermalEmergency_reached (hclear : s.flag Reg.PACER_STAT Fld.PACER_STAT_EMERG = false)
    (hhot : (256 * s.fld Reg.PACER_THERM Fld.PACER_THERM_EMERG : Int) ≤ tj.toInt) :
    (thermalEmergency s tj).flag Reg.PACER_STAT Fld.PACER_STAT_EMERG = true ∧ (thermalEmergency s tj).causeActive 4 = true := by
  have hreach : thermalEmergency s tj = (s.setTj tj).reachEmerg := by
    unfold thermalEmergency
    dsimp only
    rw [s.inEmergency_setTj, hclear, decide_eq_true hhot]
    exact if_pos rfl
  rw [hreach]
  exact State.reachEmerg_leaves _

theorem thermalEmergencyEnd_left (hset : s.flag Reg.PACER_STAT Fld.PACER_STAT_EMERG = true)
    (hcool : tj.toInt ≤ 256 * ((s.fld Reg.PACER_THERM Fld.PACER_THERM_EMERG : Int) - 5)) :
    (thermalEmergencyEnd s tj).flag Reg.PACER_STAT Fld.PACER_STAT_EMERG = false ∧ (thermalEmergencyEnd s tj).causeActive 4 = false := by
  have hleave : thermalEmergencyEnd s tj =
      ((((s.setTj tj).clear Reg.PACER_STAT Fld.PACER_STAT_EMERG).emit 0x0704 0 [tj.toInt, 1, 0]).dropCause 4).pacerAdmit := by
    unfold thermalEmergencyEnd
    dsimp only
    rw [s.flag_setTj tj ⟨by decide, by decide⟩, s.tj_setTj, s.limit_setTj, hset, decide_eq_false (Int.not_lt.2 hcool)]
    exact if_neg Bool.false_ne_true
  have hcause : ∀ u : State, u.pacerAdmit.reg Reg.SAF_CAUSE = u.reg Reg.SAF_CAUSE := fun u =>
    State.reg_of_sparing (kept := (· = Reg.SAF_CAUSE)) (u.pacerAdmit_outside (by simp +decide [Parts.sparing, Parts.all, Parts.emits])) rfl
  rw [hleave, (State.pacerAdmit_charges _).1.flag ⟨by decide, by decide⟩, State.dropCause, State.setBit,
    State.flag_congr (State.reg_setFld_other _ (by decide) _ _), (State.emit_modeStands _ _ _ _).flag ⟨by decide, by decide⟩,
    State.causeActive, State.regBit, hcause]
  exact ⟨State.flag_clear _ ⟨by decide, by decide⟩, State.regBit_dropped _ _ (by decide)⟩

end

/-- Settles O41: each row's meaning has a frame, so it is the row's answer; the lemmas on an evaluation, on a window's beginning, on the
pool's end and on the limits of the temperature say what it leaves. -/
theorem pacerAndThermalLimits : Obligations.PacerAndThermalLimits := by
  unfold Obligations.PacerAndThermalLimits
  refine ⟨?evaluate, ?window, ?exhausted, ?ceil, ?ceilEnd, ?emergency, ?emergencyEnd⟩
  case evaluate =>
    intro s energy tj
    exact ⟨_, State.effect_of_outside (P := Parts.all) (pacerEvaluate_outside s energy tj (by simp [Parts.all, Parts.emits])),
      fun _ hn => pacerEvaluate_energy s energy tj hn, pacerEvaluate_tj s energy tj, pacerEvaluate_lastEval s energy tj⟩
  case window =>
    intro s hdue
    exact ⟨_, State.effect_of_outside (P := Parts.all) (pacerWindowStart_outside s (by simp [Parts.all, Parts.emits])),
      pacerWindowStart_begins s hdue⟩
  case exhausted =>
    intro s hmode hpool hfirst hidle
    exact ⟨_, State.effect_of_outside (P := Parts.all) (burstExhausted_outside s (by simp [Parts.all, Parts.emits])),
      burstExhausted_leaves hmode hpool hfirst hidle⟩
  case ceil =>
    intro s tj hclear hhot
    exact ⟨_, State.effect_of_outside (P := Parts.all) (thermalCeil_outside s tj (by simp [Parts.all, Parts.emits])),
      thermalCeil_reached hclear hhot⟩
  case ceilEnd =>
    intro s tj hset hcool
    exact ⟨_, State.effect_of_outside (P := Parts.all) (thermalCeil_outside s tj (by simp [Parts.all, Parts.emits])),
      thermalCeil_left hset hcool⟩
  case emergency =>
    intro s tj hclear hhot
    exact ⟨_, State.effect_of_outside (P := Parts.all) (thermalEmergency_outside s tj (by simp [Parts.all, Parts.emits])),
      thermalEmergency_reached hclear hhot⟩
  case emergencyEnd =>
    intro s tj hset hcool
    exact ⟨_, State.effect_of_outside (P := Parts.all) (thermalEmergencyEnd_outside s tj (by simp [Parts.all, Parts.emits])),
      thermalEmergencyEnd_left hset hcool⟩

end Sys2Proof.Machine
end

section
/-!
PROOF. What the entry actions of a mode and the exits from SERVICE and SAFE leave of MODE_STAT and of the mode machine.
-/
namespace Sys2Proof.Machine

/-! ### Trust in channels (R426) -/

section
variable (s : State)

theorem State.judge_stands (n : Nat) : s.ModeStands (s.judge n) :=
  .of_outside (s.judge_outside n ⟨Parts.besideModes_emits, rfl, not_modeBlock (by decide), not_modeBlock (by decide), not_modeBlock (by decide)⟩)

theorem State.judgeChannelCause_stands : s.ModeStands s.judgeChannelCause := by
  unfold State.judgeChannelCause
  refine .ite (.ite (.refl s) .setFld) ?_
  split
  · exact s.raiseCause_stands _ _ _
  · exact .refl s

theorem State.verifyP_stands (n : Nat) : s.ModeStands (s.verifyP n) :=
  .ite ((s.judge_stands n).trans (State.judgeChannelCause_stands _)) (.refl s)

theorem State.verifyAll_stands : s.ModeStands s.verifyAll :=
  .ite ((State.ModeStands.foldl State.judge_stands _ s).trans (State.judgeChannelCause_stands _)) (.refl s)

end

/-! ### The exits from SERVICE and SAFE (R316, R317) -/

section
variable (s : State) (n : Nat)

theorem not_modeBlock_pchStat : ¬modeBlock (Reg.PCH_STAT n) := not_modeBlock_unit (by decide) n

theorem not_modeBlock_pchConvStat : ¬modeBlock (Reg.PCH_CONV_STAT n) := not_modeBlock_unit (by decide) n

theorem State.ModeStands.setUnit {s : State} {a : Nat} {f : Field} {v : Nat} (ha : ¬modeBlock a) : s.ModeStands (s.setFld a f v) :=
  .of_outside (s.setFld_outside a f v ha)

theorem State.setFusionUnchecked_stands (cause : Nat) : s.ModeStands (s.setFusionUnchecked n cause) := by
  have hpch := not_modeBlock_pchConvStat n
  unfold State.setFusionUnchecked
  exact .ite (.refl s) (((State.ModeStands.of_outside (s.setLive_outside _ _ _ _ hpch)).trans
    (State.emit_modeStands _ _ _ _)).trans (State.verifyP_stands _ n))

theorem State.forceTaken_stands (old new : Word) : s.ModeStands (s.forceTaken n old new) :=
  .ite (.of_outside (s.restartDiff_outside n ⟨rfl, not_modeBlock_pchConvStat⟩)) (.refl s)

theorem State.plausShown_stands (new : Word) : s.ModeStands (s.plausShown n new) := by
  unfold State.plausShown
  exact .ite (.trans (.setUnit (not_modeBlock_pchConvStat n)) (State.setFusionUnchecked_stands _ n 1))
    (.setUnit (not_modeBlock_pchConvStat n))

theorem State.mismJudged_stands (counted : List Nat) (new : Word) : s.ModeStands (s.mismJudged n counted new) := by
  unfold State.mismJudged
  refine .ite (.trans (.of_outside ?_) (State.verifyP_stands _ n)) (.refl s)
  rw [State.emitSafetyHeld_outside _ _ _ _ Parts.besideModes_emits, State.setPch_outside _ _ _ rfl,
    State.setLive_outside _ _ _ _ _ (not_modeBlock_pchConvStat n)]

theorem pchFusCfgWrite_stands (h : hasPch s.fac.variant n = true) (v : Word) : s.ModeStands (pchFusCfgWrite s n v) := by
  rw [pchFusCfgWrite_present h]
  exact (((State.ModeStands.of_outside (s.writeJudged_outside _ _ _ _ _ _ (not_modeBlock_unit (by decide) n)
    (not_modeBlock_pchStat n) ⟨rfl, rfl⟩)).trans (State.forceTaken_stands _ n _ _)).trans (State.plausShown_stands _ n _)).trans
    (State.mismJudged_stands _ n _ _)

theorem pchCfgWritten_stands : s.ModeStands (pchCfgWritten s n) := by
  have htaken : ∀ (u : State) (w : Word), u.ModeStands (u.cfgTaken n w) := fun u w =>
    .ite (.of_outside (u.setPch_outside n _ rfl)) (.of_outside (u.setPch_outside n _ rfl))
  have hball : ∀ (u : State) (ballN : Bool), u.ModeStands (u.openBall n ballN false) := fun u ballN =>
    .of_outside (u.openBall_outside n ballN false ⟨Parts.besideModes_emits, rfl, not_modeBlock_pchStat⟩)
  have hoff : ∀ (u : State) (w : Word), u.ModeStands (u.openOff n w) := fun u w =>
    .ite ((hball u false).trans (hball _ true)) (.refl u)
  have hpins : ∀ u : State, u.ModeStands (u.pinUpdate n) := fun u =>
    .of_outside (u.pinUpdate_outside n ⟨Parts.besideModes_emits, rfl, not_modeBlock_pchStat, rfl⟩)
  rw [pchCfgWritten_eq]
  exact (((htaken s _).trans (hoff _ _)).trans (hpins _)).trans (State.verifyP_stands _ n)

theorem State.leaveServiceChannel_stands : s.ModeStands (s.leaveServiceChannel n) := by
  unfold State.leaveServiceChannel
  split
  · exact .refl s
  · next h =>
    have hwrite := pchFusCfgWrite_stands s n (by simpa using h)
    exact (hwrite _).trans (.ite (.trans (.setUnit (not_modeBlock_unit (by decide) n)) (pchCfgWritten_stands _ n)) (.refl _))

theorem State.leaveService_stands : s.ModeStands s.leaveService := by
  have hcal : ∀ u : State, u.ModeStands u.leaveServiceCal.disarmInjection.restoreTests := fun u => .of_outside (by
    rw [State.restoreTests_outside _ (by simp (disch := decide) [Parts.besideModes, Parts.all, not_modeBlock]),
      State.disarmInjection_outside _ (not_modeBlock (by decide)), State.leaveServiceCal_outside _ Parts.besideModes_emits])
  exact (((State.ModeStands.foldl State.leaveServiceChannel_stands _ s).trans (hcal _)).trans .setFld).trans .setFld

theorem State.leaveSafe_stands (target : Nat) : s.ModeStands (s.leaveSafe target) :=
  .of_outside (s.leaveSafe_outside target ⟨Parts.besideModes_emits, rfl, not_modeBlock (by decide)⟩)

theorem State.leaveModes_stands (old new : Nat) : s.ModeStands (s.leaveModes old new) := by
  have hservice : s.ModeStands (if old = modeService ∧ new ≠ modeService then s.leaveService else s) :=
    .ite s.leaveService_stands (.refl s)
  exact .ite (hservice.trans (State.leaveSafe_stands _ new)) hservice

end

/-! ### Power states and entry actions (R314, R318) -/

section
variable (s : State)

/-- The mode machine, and the registers of modes and PACER beside MODE_STAT. -/
def Parts.besideStat : Parts := { Parts.all with regs := fun r => ¬modeBlock r ∨ r = Reg.MODE_STAT, mode := false }

/-- A change that shows a power state in MODE_STAT and changes nothing else there. -/
theorem State.ModeStands.of_pstate {s t : State} (ps : Nat)
    (hstat : t.reg Reg.MODE_STAT = (s.setFld Reg.MODE_STAT Fld.MODE_STAT_PSTATE ps).reg Reg.MODE_STAT)
    (hrest : t.outside Parts.besideStat = s.outside Parts.besideStat) : s.ModeStands t := by
  have same := State.sameBut_of_outside hrest
  have hshown : s.ModeStands (s.setFld Reg.MODE_STAT Fld.MODE_STAT_PSTATE ps) := .setStat
  have hpacer : ¬Parts.besideStat.regs Reg.PACER_STAT := not_or.2 ⟨not_not.2 modeBlock_pacerStat, by decide⟩
  exact ⟨fun f hf => (State.fld_congr hstat f).trans (hshown.stat f hf), fun f _ => State.fld_congr (same.reg _ hpacer) f,
    by rw [same.mode rfl]⟩

theorem State.enterPstate_stands (ps : Nat) : s.ModeStands (s.enterPstate ps) :=
  .of_pstate ps (s.modeStat_enterPstate ps) (s.enterPstate_outside ps (by
    simp (disch := decide) [Parts.besideStat, Parts.all, not_modeBlock, not_modeBlock_unit, Reg.FP_STAT]))

theorem State.leaveDeep_stands (ps : Nat) : s.ModeStands (s.leaveDeep ps) :=
  .of_pstate ps (s.modeStat_leaveDeep ps) (s.leaveDeep_outside ps (by
    simp (disch := decide) [Parts.besideStat, Parts.all, Parts.emits, not_modeBlock, not_modeBlock_unit, Reg.FP_STAT, Reg.CL_STAT,
      Reg.ECC_REMAP]))

theorem State.toRun_stands : s.ModeStands s.toRun := .ite (.refl s) (s.enterPstate_stands 0)

theorem State.runBurst_stands : s.ModeStands s.runBurst := .ite (s.leaveDeep_stands 0) s.toRun_stands

theorem State.flushStaging_stands : s.ModeStands s.flushStaging :=
  .of_outside (s.flushStaging_outside (by
    simp (disch := decide) [Parts.besideModes, Parts.all, Parts.emits, not_modeBlock, not_modeBlock_unit, Reg.FP_STAT, Reg.FP_UTIL,
      Reg.ECC_REMAP]))

theorem State.modeClocks_stands (new : Nat) : s.ModeStands (s.modeClocks new) :=
  .ite (s.toRun_stands.trans (State.flushStaging_stands _)) s.runBurst_stands

theorem State.entryActions_stands (new : Nat) : s.ModeStands (s.entryActions new) := by
  refine .trans (s.modeClocks_stands new) (.of_outside ?_)
  unfold State.entryActions
  rw [State.requestRates_outside _ _ ⟨rfl, rfl⟩,
    State.requestOp_outside _ _ (by
      simp (disch := decide) [Parts.besideModes, Parts.all, Parts.emits, not_modeBlock, not_modeBlock_unit, Reg.ECC_REMAP]),
    State.modeConverters_outside _ (by
      simp (disch := decide) [Parts.besideModes, Parts.all, not_modeBlock, not_modeBlock_unit, Reg.WCH_STAT, Reg.WCH_WAKE_CNT])]

end

end Sys2Proof.Machine
end

section
/-!
PROOF. The instant and the end of a mode change, what follows it, and the expiries that begin one; O39 settled.
-/
namespace Sys2Proof.Machine

/-! ### The instant (R314) -/

section
variable (s : State)

theorem State.curMode_lt : s.curMode < 8 := Nat.mod_lt _ (by decide)

variable (old new : Nat)

/-- At its instant a change shows the two modes and keeps the time. -/
theorem State.beginMode_shows (hold : old < 8) (hnew : new < 8) :
    (s.beginMode old new).curMode = new ∧ (s.beginMode old new).fld Reg.MODE_STAT Fld.MODE_STAT_PREV = old ∧
    (s.beginMode old new).mode.instant = s.time := by
  unfold State.beginMode State.showHeld
  dsimp only
  refine ⟨?_, ?_, ?_⟩
  · rw [State.curMode, State.fld_setFld_other _ (by decide), State.fld_setFld_apart _ _ ⟨by decide, by decide⟩ (by decide) (by decide),
      State.fld_setFld_apart _ _ ⟨by decide, by decide⟩ (by decide) (by decide),
      State.fld_setFld_apart _ _ ⟨by decide, by decide⟩ (by decide) (by decide), State.fld_setFld_self _ _ ⟨by decide, by decide⟩]
    exact Nat.mod_eq_of_lt hnew
  · rw [State.fld_setFld_other _ (by decide), State.fld_setFld_apart _ _ ⟨by decide, by decide⟩ (by decide) (by decide),
      State.fld_setFld_apart _ _ ⟨by decide, by decide⟩ (by decide) (by decide),
      State.fld_setFld_apart _ _ ⟨by decide, by decide⟩ (by decide) (by decide),
      State.fld_setFld_apart _ _ ⟨by decide, by decide⟩ (by decide) (by decide), State.fld_setFld_self _ _ ⟨by decide, by decide⟩]
    exact Nat.mod_eq_of_lt hold
  · simp only [State.setFld_mode]

/-- The mode's entry actions and the exits from the old one leave what the instant shows. -/
theorem State.changeMode_stands : ((s.shiftBudget old new).beginMode old new).ModeStands (s.changeMode old new) := by
  have hburst : ∀ u : State, u.ModeStands (u.beginBurst new) := fun u => .ite .setPacer (.refl u)
  have hverify : ∀ u : State, u.ModeStands (u.verifyModes old new) := fun u => .ite u.verifyAll_stands (.refl u)
  exact (((hburst _).trans (State.leaveModes_stands _ old new)).trans (State.entryActions_stands _ new)).trans (hverify _)

theorem State.changeMode_shows (hold : old < 8) (hnew : new < 8) :
    (s.changeMode old new).curMode = new ∧ (s.changeMode old new).fld Reg.MODE_STAT Fld.MODE_STAT_PREV = old ∧
    (s.changeMode old new).mode.instant = s.time := by
  have hstands := s.changeMode_stands old new
  obtain ⟨hcur, hprev, hinstant⟩ := (s.shiftBudget old new).beginMode_shows old new hold hnew
  exact ⟨hstands.curMode.trans hcur, (hstands.stat _ ⟨by decide, by decide⟩).trans hprev, hstands.instant.trans hinstant⟩

theorem modeChangeInstant_due (hphase : s.mode.phase = .waiting) (hboundary : s.atBoundary = true) :
    modeChangeInstant s = s.changeMode s.curMode (s.fld Reg.MODE_STAT Fld.MODE_STAT_TARGET) := by
  rw [modeChangeInstant, hphase, hboundary]
  exact if_neg (by decide)

end

/-! ### With nothing waiting, nothing is taken up (R313) -/

/-- No BURST trigger waits any more; only in VIGIL is there a gate to wait at. -/
def ModeUnit.burstTaken (m : ModeUnit) (mode : Nat) : ModeUnit :=
  { m with waitBurst := none, gate := if mode = modeVigil then m.gate else [] }

/-- No WAKE trigger waits any more. -/
def ModeUnit.wakeTaken (m : ModeUnit) : ModeUnit := { m with waitWake := none }

/-- The mode timer waits no more. -/
def ModeUnit.timerTaken (m : ModeUnit) : ModeUnit := { m with waitTimer := false }

/-- PACER waits no more. -/
def ModeUnit.pacerTaken (m : ModeUnit) : ModeUnit := { m with waitPacer := false }

section
variable (s : State) {m : ModeUnit} (hphase : m.phase = .none)
include hphase

theorem State.unlessChanging_idle (f : State → State) : State.unlessChanging f (s.setMode m) = f (s.setMode m) :=
  if_neg (fun h : (m.phase != .none) = true => absurd h (by rw [hphase]; decide))

theorem State.takeBurst_none (h : (s.setMode m).burstWaiting = none) : State.unlessChanging State.takeBurst (s.setMode m) =
    s.setMode (m.burstTaken s.curMode) := by
  rw [s.unlessChanging_idle hphase, State.takeBurst, h]
  rfl

theorem State.takeWake_none (h : m.waitWake = none) :
    State.unlessChanging State.takeWake (s.setMode m) = s.setMode m.wakeTaken := by
  have hwake : (s.setMode m).mode.waitWake = none := h
  rw [s.unlessChanging_idle hphase, State.takeWake, hwake]
  rfl

theorem State.takeTimer_none (h : m.waitTimer = false) :
    State.unlessChanging State.takeTimer (s.setMode m) = s.setMode m.timerTaken := by
  have htimer : (s.setMode m).mode.waitTimer = false := h
  rw [s.unlessChanging_idle hphase, State.takeTimer, htimer]
  rfl

theorem State.takePacer_none (h : m.waitPacer = false) :
    State.unlessChanging State.takePacer (s.setMode m) = s.setMode m.pacerTaken := by
  have hpacer : (s.setMode m).mode.waitPacer = false := h
  rw [s.unlessChanging_idle hphase, State.takePacer, hpacer]
  rfl

end

/-- Whether no cause waits for a change to complete (R313). -/
def State.nothingWaits (s : State) : Prop :=
  s.mode.waitCmd = [] ∧ s.burstWaiting = none ∧ s.mode.waitWake = none ∧ s.mode.waitTimer = false ∧ s.mode.waitPacer = false

theorem State.takeWaiting_nothing {s : State} (hphase : s.mode.phase = .none) (h : s.nothingWaits) :
    ∃ m, m.phase = .none ∧ s.takeWaiting = s.setMode m := by
  obtain ⟨hcmd, hburst, hwake, htimer, hpacer⟩ := h
  have htaken : takeCmds s.mode.waitCmd s = s.setMode s.mode := by
    rw [hcmd]
    change s.setMode { s.mode with waitCmd := [] } = s.setMode s.mode
    rw [← hcmd]
  rw [State.takeWaiting_eq, htaken, s.takeBurst_none hphase hburst, s.takeWake_none ?wakeIdle ?wake, s.takeTimer_none ?timerIdle ?timer,
    s.takePacer_none ?pacerIdle ?pacer]
  · exact ⟨(((s.mode.burstTaken s.curMode).wakeTaken).timerTaken).pacerTaken, hphase, rfl⟩
  case wake => exact hwake
  case timer => exact htimer
  case pacer => exact hpacer
  all_goals exact hphase

/-! ### The end (R313, R314) -/

section
variable (s : State)

theorem State.enterDeep_stands : s.ModeStands s.enterDeep :=
  .of_pstate 2 s.modeStat_enterDeep (s.enterDeep_outside (by
    simp (disch := decide) [Parts.besideStat, Parts.all, not_modeBlock, not_modeBlock_unit, Reg.FP_STAT, Reg.CL_STAT]))

theorem State.closeVigil_stands : s.ModeStands s.closeVigil := by
  refine .ite (s.enterDeep_stands.trans (.of_outside ?_)) (.refl s)
  exact selfRefreshEntry_outside _ (by
    simp (disch := decide) [Parts.besideModes, Parts.all, Parts.emits, not_modeBlock, not_modeBlock_unit, Reg.ECC_REMAP])

theorem State.modeRecord_stands : s.ModeStands s.modeRecord := (s.emit_modeStands _ _ _).trans .setFld

theorem State.closeVigil_sameBut : s.SameBut Parts.besideStat s.closeVigil :=
  State.sameBut_of_outside (s.closeVigil_outside (by
    simp (disch := decide) [Parts.besideStat, Parts.all, Parts.emits, not_modeBlock, not_modeBlock_unit, Reg.FP_STAT, Reg.CL_STAT,
      Reg.ECC_REMAP]))

theorem modeBlock_modeCnt : modeBlock Reg.MODE_CNT := ⟨by decide, by decide⟩

theorem modeBlock_modePolicy : modeBlock Reg.MODE_POLICY := ⟨by decide, by decide⟩

/-- A finished change is counted (R314). -/
theorem State.modeCnt_modeRecord : s.closeVigil.modeRecord.fld Reg.MODE_CNT word32 = satInc 32 (s.fld Reg.MODE_CNT word32) := by
  have hvigil : s.closeVigil.reg Reg.MODE_CNT = s.reg Reg.MODE_CNT :=
    s.closeVigil_sameBut.reg _ (not_or.2 ⟨not_not.2 modeBlock_modeCnt, by decide⟩)
  rw [State.modeRecord, State.fld_count_self _ _ word32_inWord, State.fld_congr (State.emit_reg _ _ _ _ (by decide)),
    State.fld_congr hvigil]
  rfl

section
variable (cmd : Option (CmdSrc × Nat)) (new : Nat)

theorem State.reg_modeSetDone {a : Nat} (ha : modeBlock a) : (s.modeSetDone cmd new).reg a = s.reg a := by
  cases cmd with
  | none => rfl
  | some c => exact s.reg_settle_modeBlock _ _ _ _ ha

theorem State.mode_modeSetDone : (s.modeSetDone cmd new).mode = s.mode := by
  cases cmd with
  | none => rfl
  | some c => exact s.mode_settle _ _ _ _

end

/-- A change that no other follows is counted and shown, and its MODE_SET completes. -/
def State.changeEnded : State :=
  ((s.closeVigil.modeRecord.setMode { s.mode with phase := .none, cmd := none }).clear Reg.MODE_STAT Fld.MODE_STAT_BUSY).modeSetDone
    s.mode.cmd s.closeVigil.curMode

theorem State.mode_changeEnded : s.changeEnded.mode = { s.mode with phase := .none, cmd := none } := by
  rw [State.changeEnded, State.mode_modeSetDone, State.clear_mode]
  rfl

theorem State.busy_changeEnded : s.changeEnded.flag Reg.MODE_STAT Fld.MODE_STAT_BUSY = false := by
  rw [State.changeEnded, State.flag_congr (State.reg_modeSetDone _ _ _ modeBlock_modeStat)]
  exact State.flag_clear _ ⟨by decide, by decide⟩

theorem State.modeCnt_changeEnded : s.changeEnded.fld Reg.MODE_CNT word32 = satInc 32 (s.fld Reg.MODE_CNT word32) := by
  rw [State.changeEnded, State.fld_congr (State.reg_modeSetDone _ _ _ modeBlock_modeCnt),
    State.fld_congr (State.reg_clear_other _ (by decide) _)]
  exact s.modeCnt_modeRecord

theorem State.curMode_changeEnded : s.changeEnded.curMode = s.curMode := by
  rw [State.curMode, State.changeEnded, State.fld_congr (State.reg_modeSetDone _ _ _ modeBlock_modeStat), State.clear,
    State.fld_setFld_apart _ _ ⟨by decide, by decide⟩ (by decide) (by decide)]
  exact (s.closeVigil_stands.trans (State.modeRecord_stands _)).curMode

/-- Every part but the triggers, the time and MODE_POLICY. -/
def Parts.besideTriggers : Parts :=
  { Parts.all with regs := fun r => ¬modeBlock r ∨ r = Reg.MODE_STAT ∨ r = Reg.MODE_CNT, trig := false, time := false }

theorem State.changeEnded_sameBut : s.SameBut Parts.besideTriggers s.changeEnded := by
  refine State.sameBut_of_outside ?_
  unfold State.changeEnded
  rw [State.modeSetDone_outside _ _ _ ?done, State.clear_outside _ _ _ ?busy, State.setMode_outside _ _ rfl,
    State.modeRecord_outside _ ?record, State.closeVigil_outside _ ?vigil]
  all_goals simp (disch := decide) [Parts.besideTriggers, Parts.all, Parts.emits, not_modeBlock, not_modeBlock_unit, Reg.FP_STAT,
    Reg.FP_UTIL, Reg.CL_STAT, Reg.ECC_REMAP]

/-- The end of a change leaves whether a BURST trigger has waited. -/
theorem State.burstWaiting_changeEnded : s.changeEnded.burstWaiting = s.burstWaiting := by
  have same := s.changeEnded_sameBut
  have hpolicy : s.changeEnded.reg Reg.MODE_POLICY = s.reg Reg.MODE_POLICY :=
    same.reg _ (not_or.2 ⟨not_not.2 modeBlock_modePolicy, by decide⟩)
  have hpersists : s.changeEnded.persists = s.persists := by
    funext c
    simp only [State.persists, State.trigU, same.trig rfl, same.time rfl, State.fld_congr hpolicy, s.mode_changeEnded]
  unfold State.burstWaiting
  rw [hpersists, s.mode_changeEnded, s.curMode_changeEnded]

theorem State.nothingWaits_changeEnded (h : s.nothingWaits) : s.changeEnded.nothingWaits := by
  unfold State.nothingWaits
  rwa [s.burstWaiting_changeEnded, s.mode_changeEnded]

variable {s}

theorem modeChange_last (hphase : s.mode.phase = .acting) (hnext : s.mode.next = none) : modeChange s = s.changeEnded.takeWaiting := by
  rw [modeChange, hphase, if_neg (by decide)]
  dsimp only
  split
  · next n h => exact absurd (h.symm.trans hnext) (Option.some_ne_none n)
  · rfl

theorem modeChange_last_idle (hphase : s.mode.phase = .acting) (hnext : s.mode.next = none) (h : s.nothingWaits) :
    (modeChange s).mode.phase = .none ∧ (modeChange s).flag Reg.MODE_STAT Fld.MODE_STAT_BUSY = false := by
  have hended : s.changeEnded.mode.phase = .none := by rw [s.mode_changeEnded]
  obtain ⟨m, hm, htaken⟩ := State.takeWaiting_nothing hended (s.nothingWaits_changeEnded h)
  rw [modeChange_last hphase hnext, htaken]
  exact ⟨hm, s.busy_changeEnded⟩

/-- Whatever is taken up behind it, a change is counted and its mode stays. -/
theorem modeChange_last_counts (hphase : s.mode.phase = .acting) (hnext : s.mode.next = none) :
    (modeChange s).fld Reg.MODE_CNT word32 = satInc 32 (s.fld Reg.MODE_CNT word32) ∧ (modeChange s).curMode = s.curMode := by
  have hcount : ∀ u : State, u.takeWaiting.reg Reg.MODE_CNT = u.reg Reg.MODE_CNT := fun u => by
    have hutil : ∀ n, Reg.FP_UTIL n ≠ Reg.MODE_CNT := fun n => by
      unfold Reg.FP_UTIL Reg.MODE_CNT
      omega
    exact State.reg_of_sparing (kept := (· = Reg.MODE_CNT)) (u.takeWaiting_outside
      (by simp +decide [Parts.sparing, Parts.all, Parts.emits, hutil])) rfl
  rw [modeChange_last hphase hnext, State.fld_congr (hcount _), s.modeCnt_changeEnded, s.changeEnded.takeWaiting_stands.curMode]
  exact ⟨rfl, s.curMode_changeEnded⟩

/-- The first of two changes is followed by the second. -/
theorem modeChange_next {n : Nat} (hphase : s.mode.phase = .acting) (hnext : s.mode.next = some n) :
    (modeChange s).mode.phase = .waiting ∧
    (modeChange s).fld Reg.MODE_STAT Fld.MODE_STAT_TARGET = n % 2 ^ fieldWidth Fld.MODE_STAT_TARGET ∧ (modeChange s).mode.next = none := by
  have hfollows : modeChange s = (s.closeVigil.modeRecord.setMode { s.mode with phase := .waiting, next := none }).setFld Reg.MODE_STAT
      Fld.MODE_STAT_TARGET n := by
    rw [modeChange, hphase, if_neg (by decide)]
    dsimp only
    rw [hnext]
  rw [hfollows, State.fld_setFld_self _ _ ⟨by decide, by decide⟩, State.setFld_mode]
  exact ⟨rfl, rfl, rfl⟩

end

/-! ### Expiries (R312) -/

section
variable {s : State}

theorem surveyIdleExpiry_begins (hmode : s.curMode = modeSurvey) (hidle : s.changing = false) (hauto : s.autoOk = true)
    (htimer : s.mode.timerOn = false) (hpassed : s.idlePassed = true) : surveyIdleExpiry s = s.beginChange modeVigil 3 0 none := by
  rw [surveyIdleExpiry, if_pos hpassed, State.idleToVigil, hmode, hidle, hauto, htimer]
  exact if_pos rfl

theorem burstHoldExpiry_begins (hmode : s.curMode = modeBurst) (hidle : s.changing = false) (hauto : s.autoOk = true)
    (hpassed : s.holdPassed = true) : burstHoldExpiry s = s.beginChange modeSurvey 3 0 none := by
  rw [burstHoldExpiry, hmode, hidle, hauto, hpassed]
  exact if_pos rfl

/-- An expiry begins a change that does not pass through SURVEY. -/
theorem State.expiry_shows {target : Nat} (h : target < 8) (hvia : viaSurvey s.curMode target = false) :
    (s.beginChange target 3 0 none).fld Reg.MODE_STAT Fld.MODE_STAT_TARGET = target ∧
    (s.beginChange target 3 0 none).flag Reg.MODE_STAT Fld.MODE_STAT_BUSY = true ∧
    (s.beginChange target 3 0 none).mode.phase = .waiting := by
  obtain ⟨htarget, hbusy, hphase, -⟩ := s.beginChange_direct target 3 0 none h hvia
  exact ⟨htarget, hbusy, hphase⟩

end

/-- Settles O39: each row's meaning has a frame, so it is the row's answer; the lemmas on a change's instant, its end, the change that
follows it and the expiries say what it leaves. -/
theorem modeChanges : Obligations.ModeChanges := by
  have hinstant : ∀ s, exec .modeChangeInstant s = .next (modeChangeInstant s) := fun s =>
    State.effect_of_outside (P := Parts.all) (modeChangeInstant_outside s (by simp [Parts.all, Parts.emits]))
  have hend : ∀ s, exec .modeChange s = .next (modeChange s) := fun s =>
    State.effect_of_outside (P := Parts.all) (modeChange_outside s (by simp [Parts.all, Parts.emits]))
  unfold Obligations.ModeChanges
  refine ⟨?instant, ?lastIdle, ?last, ?next, ?survey, ?burst⟩
  case instant =>
    intro s hphase hboundary
    refine ⟨_, hinstant s, ?_⟩
    rw [modeChangeInstant_due s hphase hboundary]
    exact s.changeMode_shows _ _ s.curMode_lt (Nat.mod_lt _ (by decide))
  case lastIdle =>
    intro s hphase hnext hcmd _ hburst hwake htimer hpacer
    obtain ⟨hnone, hbusy⟩ := modeChange_last_idle hphase hnext ⟨hcmd, hburst, hwake, htimer, hpacer⟩
    exact ⟨_, hend s, hnone, hbusy, (modeChange_last_counts hphase hnext).1⟩
  case last =>
    intro s hphase hnext
    exact ⟨_, hend s, modeChange_last_counts hphase hnext⟩
  case next =>
    intro s n hphase hnext
    exact ⟨_, hend s, modeChange_next hphase hnext⟩
  case survey =>
    intro s hmode hidle hauto htimer hpassed
    refine ⟨_, State.effect_of_outside (P := Parts.all) (surveyIdleExpiry_outside s (by simp [Parts.all])), ?_⟩
    rw [surveyIdleExpiry_begins hmode hidle hauto htimer hpassed]
    exact State.expiry_shows (by decide) (by rw [hmode]; rfl)
  case burst =>
    intro s hmode hidle hauto hpassed
    refine ⟨_, State.effect_of_outside (P := Parts.all) (burstHoldExpiry_outside s (by simp [Parts.all])), ?_⟩
    rw [burstHoldExpiry_begins hmode hidle hauto hpassed]
    exact State.expiry_shows (by decide) (by rw [hmode]; rfl)

end Sys2Proof.Machine
end

section
set_option Elab.async false
/-!
PROOF. The model's own steps, the table's rows, what reset leaves (O1 to O5); every command's answer and its frame (O6, O7). The states
that the lemmas of this part name serve statements only: where no counterexample runs on them they are not compiled (`noncomputable`).
-/
namespace Sys2Proof.Machine

/-- Settles O1: what a step does with a command at the front of the queue. -/
theorem stepRunsFront : Obligations.StepRunsFront := by
  unfold Obligations.StepRunsFront
  intro s c rest h
  rw [step, h]

/-- A frame that names no register leaves the register file itself. -/
theorem State.regs_of_outside {P : Parts} {s t : State} (hP : ∀ a, ¬P.regs a) (h : t.outside P = s.outside P) : t.regs = s.regs := by
  have e : (t.outside P).regs = (s.outside P).regs := by rw [h]
  simpa [State.outside, hP] using e

/-- The parts that a port's idle flits reach (R369). -/
noncomputable def Parts.idleFlits : Parts := { out := true, port := true }

theorem State.keepTalking_idleFlits (s : State) : s.keepTalking.outside Parts.idleFlits = s.outside Parts.idleFlits :=
  s.keepTalking_outside ⟨rfl, rfl⟩

/-- Settles O2: a device held in reset stands; in any other one cycle passes, and the idle flits of its links leave its registers, its
time and its queue. -/
theorem idleStepIsOneCycle : Obligations.IdleStepIsOneCycle := by
  unfold Obligations.IdleStepIsOneCycle
  intro s hq
  have hstep : step s = .next s.idle := by rw [step, hq]
  refine ⟨fun hheld => ?_, fun hcold hjtag => ?_⟩
  · rw [hstep, State.idle, if_pos (by simpa using hheld)]
  · have hidle : s.idle = (s.passCycles 1).keepTalking := by simp [State.idle, hcold, hjtag]
    have hflits := State.keepTalking_idleFlits (s.passCycles 1)
    have same := State.sameBut_of_outside hflits
    refine ⟨_, hstep, ?_⟩
    rw [hidle, same.cycles rfl, same.sinceBase rfl, same.time rfl, same.timeRem rfl, State.regs_of_outside (fun _ => id) hflits,
      same.pending]
    exact ⟨rfl, rfl, rfl, rfl, rfl, hq⟩

/-- Settles O3: the table's rows have no fields, so no word spells a command. -/
theorem noWordSpells : Obligations.NoWordSpells := by
  unfold Obligations.NoWordSpells
  exact fun _ _ _ => ⟨rfl, rfl⟩

/-- Settles O4: the reset state lists no register and no unit, so each reads what stands for an unlisted one. -/
theorem resetState : Obligations.ResetState := by
  unfold Obligations.ResetState
  exact ⟨rfl, fun _ => rfl, by decide +kernel, rfl, rfl, fun _ => ⟨rfl, rfl⟩, fun _ => ⟨rfl, rfl⟩⟩

/-- The tables of the reset state are within their places. -/
theorem State.reset_withinTables : State.reset.withinTables := by
  unfold State.withinTables
  decide +kernel

/-- Settles O5: the identity registers and the reserved fields by the register map, the tables by counting. -/
theorem invariantsAtReset : Obligations.InvariantsAtReset := by
  unfold Obligations.InvariantsAtReset
  exact ⟨State.reset_identityKept, State.reset_reservedZero, State.reset_withinTables⟩

theorem State.effect_completes (s t : State) : ∃ u, s.effect t = .next u ∧ u.pending = s.pending ∧ u.fac = s.fac :=
  ⟨_, rfl, rfl, rfl⟩

/-- Settles O6: every arm answers by `State.effect`, which puts the queue and the fuses back. -/
theorem everyCommandCompletes : Obligations.EveryCommandCompletes := by
  unfold Obligations.EveryCommandCompletes
  intro c s
  cases c <;> exact s.effect_completes _

/-- Settles O7: the frame of each row. -/
theorem commandFrame : Obligations.CommandFrame := by
  unfold Obligations.CommandFrame
  intro c s t h
  cases c with
  | powerOn => exact execPowerOn_frame h
  | coldResetEnd => exact execColdResetEnd_frame h
  | railBelowCold => exact execRailBelowCold_frame h
  | perstNAssert => exact execPerstNAssert_frame h
  | perstNRelease => exact execPerstNRelease_frame h
  | supplyFault _ _ => exact execSupplyFault_frame h
  | referenceMonitorTrip _ => exact execReferenceMonitorTrip_frame h
  | causeClearTimer _ => exact execCauseClearTimer_frame h
  | smonLockstepMismatch => exact execSmonLockstepMismatch_frame h
  | outputFault _ _ => exact execOutputFault_frame h
  | alarmEvaluate => exact execAlarmEvaluate_frame h
  | alarmHoldExpiry _ _ => exact execAlarmHoldExpiry_frame h
  | safAlmAck _ => exact execSafAlmAck_frame h
  | safAlmCfgWrite _ _ _ => exact execSafAlmCfgWrite_frame h
  | safForceSafe => exact execSafForceSafe_frame h
  | safForceAlm _ => exact execSafForceAlm_frame h
  | bootReferenceAcquired _ => exact execBootReferenceAcquired_frame h
  | bootSelfTests _ _ _ => exact execBootSelfTests_frame h
  | imageValidation _ _ _ _ => exact execImageValidation_frame h
  | fwStartTimeout => exact execFwStartTimeout_frame h
  | semanticValidation _ _ => exact execSemanticValidation_frame h
  | bootDone => exact execBootDone_frame h
  | bootRetry => exact execBootRetry_frame h
  | flReleaseWrite _ => exact execFlReleaseWrite_frame h
  | mcWdogKick _ => exact execMcWdogKick_frame h
  | mcWatchdogExpiry _ => exact execMcWatchdogExpiry_frame h
  | mcRestart => exact execMcRestart_frame h
  | mcSaturated _ => exact execMcSaturated_frame h
  | mcSatClear _ => exact execMcSatClear_frame h
  | cmdDoorbell _ => exact execCmdDoorbell_frame h
  | descriptorFetch _ _ => exact execDescriptorFetch_frame h
  | modeSet _ _ _ => exact execModeSet_frame h
  | safeExit _ _ _ => exact execSafeExit_frame h
  | reload _ _ => exact execReload_frame h
  | paramSet _ _ _ _ _ _ => exact execParamSet_frame h
  | regRead _ _ _ _ _ => exact execRegRead_frame h
  | regWrite _ _ _ _ _ _ => exact execRegWrite_frame h
  | streamOpen _ _ _ => exact execStreamOpen_frame h
  | streamClose _ _ _ => exact execStreamClose_frame h
  | capture _ _ _ => exact execCapture_frame h
  | snapshotArm _ _ _ _ _ => exact execSnapshotArm_frame h
  | chkConvert _ _ _ _ _ _ => exact execChkConvert_frame h
  | calSystemZero _ _ _ _ => exact execCalSystemZero_frame h
  | calSystemFull _ _ _ _ _ => exact execCalSystemFull_frame h
  | calCommit _ _ => exact execCalCommit_frame h
  | completion => exact execCompletion_frame h
  | onDemandSlotDone _ _ _ _ => exact execOnDemandSlotDone_frame h
  | calMeasureDone _ => exact execCalMeasureDone_frame h
  | calApplied _ => exact execCalApplied_frame h
  | calCommitDone _ => exact execCalCommitDone_frame h
  | calEntryReload _ _ => exact execCalEntryReload_frame h
  | modeChangeInstant => exact execModeChangeInstant_frame h
  | modeChange => exact execModeChange_frame h
  | modeTimerOn => exact execModeTimerOn_frame h
  | surveyIdleExpiry => exact execSurveyIdleExpiry_frame h
  | burstHoldExpiry => exact execBurstHoldExpiry_frame h
  | burstExhausted => exact execBurstExhausted_frame h
  | thermalCeil _ => exact execThermalCeil_frame h
  | thermalEmergency _ => exact execThermalEmergency_frame h
  | wakeGatePass => exact execWakeGatePass_frame h
  | powerStateSleep => exact execPowerStateSleep_frame h
  | deepEntry => exact execDeepEntry_frame h
  | runBurstStart => exact execRunBurstStart_frame h
  | gateTimeout _ => exact execGateTimeout_frame h
  | deepEntryRetry => exact execDeepEntryRetry_frame h
  | gatedAccess _ => exact execGatedAccess_frame h
  | pacerEvaluate _ _ => exact execPacerEvaluate_frame h
  | pacerWindowStart => exact execPacerWindowStart_frame h
  | invocationDeadline _ _ => exact execInvocationDeadline_frame h
  | clkSourceLoss => exact execClkSourceLoss_frame h
  | clkHoldoverEnd => exact execClkHoldoverEnd_frame h
  | clkMissing => exact execClkMissing_frame h
  | clkReturn => exact execClkReturn_frame h
  | candidateReadyChange _ _ => exact execCandidateReadyChange_frame h
  | clkSrcWrite _ => exact execClkSrcWrite_frame h
  | clkSwitch => exact execClkSwitch_frame h
  | linkSignal _ => exact execLinkSignal_frame h
  | linkTrained _ => exact execLinkTrained_frame h
  | linkUp _ => exact execLinkUp_frame h
  | linkDown _ _ => exact execLinkDown_frame h
  | linkRetrain _ => exact execLinkRetrain_frame h
  | dataFlitRx _ _ => exact execDataFlitRx_frame h
  | replayTimeout _ => exact execReplayTimeout_frame h
  | hello _ _ _ _ _ => exact execHello_frame h
  | elect _ _ _ => exact execElect_frame h
  | electionWin => exact execElectionWin_frame h
  | rate _ _ => exact execRate_frame h
  | rateSwitch _ => exact execRateSwitch_frame h
  | lost _ _ => exact execLost_frame h
  | offer _ _ _ => exact execOffer_frame h
  | clkRepair => exact execClkRepair_frame h
  | baton => exact execBaton_frame h
  | readPacketRx _ => exact execReadPacketRx_frame h
  | writePacketRx _ => exact execWritePacketRx_frame h
  | responseRx _ => exact execResponseRx_frame h
  | requestTimeout _ => exact execRequestTimeout_frame h
  | commandPacketRx _ _ _ => exact execCommandPacketRx_frame h
  | eventPacketRx _ _ _ => exact execEventPacketRx_frame h
  | eventAckRx _ _ => exact execEventAckRx_frame h
  | streamReqRx _ => exact execStreamReqRx_frame h
  | streamGrantRx _ => exact execStreamGrantRx_frame h
  | streamDataRx _ => exact execStreamDataRx_frame h
  | streamAckRx _ => exact execStreamAckRx_frame h
  | streamResend _ => exact execStreamResend_frame h
  | info _ _ => exact execInfo_frame h
  | setAddr _ _ => exact execSetAddr_frame h
  | rtWrite _ _ => exact execRtWrite_frame h
  | roles _ _ _ _ _ _ _ _ _ => exact execRoles_frame h
  | clkSel _ _ => exact execClkSel_frame h
  | heartbeat _ => exact execHeartbeat_frame h
  | heartbeatSend => exact execHeartbeatSend_frame h
  | mirror _ _ => exact execMirror_frame h
  | mgmtRspRx _ _ => exact execMgmtRspRx_frame h
  | discoveryDone _ _ _ _ => exact execDiscoveryDone_frame h
  | reroute _ _ _ _ => exact execReroute_frame h
  | tableCommit _ => exact execTableCommit_frame h
  | tableSwitch => exact execTableSwitch_frame h
  | bankRetire => exact execBankRetire_frame h
  | standbyTakeover => exact execStandbyTakeover_frame h
  | fabChurn => exact execFabChurn_frame h
  | vcStall _ _ _ => exact execVcStall_frame h
  | vcResumed _ => exact execVcResumed_frame h
  | reelect => exact execReelect_frame h
  | fabricJoin _ _ _ => exact execFabricJoin_frame h
  | timeExchange _ _ _ _ _ => exact execTimeExchange_frame h
  | ptmSample _ => exact execPtmSample_frame h
  | ppsInEdge _ => exact execPpsInEdge_frame h
  | timeLost => exact execTimeLost_frame h
  | timeStep _ _ => exact execTimeStep_frame h
  | timeStepApply => exact execTimeStepApply_frame h
  | starter _ _ _ => exact execStarter_frame h
  | snapshotLatch => exact execSnapshotLatch_frame h
  | snapDone => exact execSnapDone_frame h
  | syncOutSecond _ => exact execSyncOutSecond_frame h
  | pcieL0 => exact execPcieL0_frame h
  | pcieLinkDown => exact execPcieLinkDown_frame h
  | d3hotEntry _ => exact execD3hotEntry_frame h
  | msixSend _ => exact execMsixSend_frame h
  | bar2Read _ _ => exact execBar2Read_frame h
  | bar2Write _ _ => exact execBar2Write_frame h
  | hrCfgEnable _ _ => exact execHrCfgEnable_frame h
  | hrTailWrite _ _ => exact execHrTailWrite_frame h
  | hostRingBlockWrite _ => exact execHostRingBlockWrite_frame h
  | hostRingStall _ => exact execHostRingStall_frame h
  | cmdRingEnable _ => exact execCmdRingEnable_frame h
  | eqCfgEnable _ _ => exact execEqCfgEnable_frame h
  | eqTailWrite _ _ => exact execEqTailWrite_frame h
  | eventRecordWrite => exact execEventRecordWrite_frame h
  | eventDeferredDelivery => exact execEventDeferredDelivery_frame h
  | rateLimitIntervalEnd _ _ => exact execRateLimitIntervalEnd_frame h
  | baseSample _ => exact execBaseSample_frame h
  | fusionUnchecked _ => exact execFusionUnchecked_frame h
  | fusDiffUpdate _ => exact execFusDiffUpdate_frame h
  | overrangeLeave _ => exact execOverrangeLeave_frame h
  | pinRange _ _ _ => exact execPinRange_frame h
  | inputClamp _ _ _ => exact execInputClamp_frame h
  | cfgChange _ => exact execCfgChange_frame h
  | monitorOutput _ => exact execMonitorOutput_frame h
  | staticOutput _ => exact execStaticOutput_frame h
  | seismicOutput _ => exact execSeismicOutput_frame h
  | mainsLost _ => exact execMainsLost_frame h
  | resHiRead _ _ => exact execResHiRead_frame h
  | resLoRead _ _ => exact execResLoRead_frame h
  | res64Read _ _ => exact execRes64Read_frame h
  | pchCfgWrite _ _ => exact execPchCfgWrite_frame h
  | pchFusCfgWrite _ _ => exact execPchFusCfgWrite_frame h
  | pchPlausThWrite _ _ => exact execPchPlausThWrite_frame h
  | pchFmtWrite _ _ => exact execPchFmtWrite_frame h
  | pchStaticCfgWrite _ _ => exact execPchStaticCfgWrite_frame h
  | pchSeisCfgWrite _ _ => exact execPchSeisCfgWrite_frame h
  | excCtrlModeWrite _ _ => exact execExcCtrlModeWrite_frame h
  | excFire _ => exact execExcFire_frame h
  | excLevelWrite _ _ => exact execExcLevelWrite_frame h
  | excRampEnd _ => exact execExcRampEnd_frame h
  | excPolarityEdge _ => exact execExcPolarityEdge_frame h
  | excPeriodTimer _ => exact execExcPeriodTimer_frame h
  | excStart _ => exact execExcStart_frame h
  | excRelease _ => exact execExcRelease_frame h
  | excDone _ => exact execExcDone_frame h
  | excMonitorSample _ _ _ _ _ => exact execExcMonitorSample_frame h
  | excFault _ _ => exact execExcFault_frame h
  | checkerSlotBoundary _ _ => exact execCheckerSlotBoundary_frame h
  | checkerResult _ _ _ _ => exact execCheckerResult_frame h
  | checkerCycleEnd _ => exact execCheckerCycleEnd_frame h
  | bankCfgWrite _ _ _ => exact execBankCfgWrite_frame h
  | nativeSample _ _ => exact execNativeSample_frame h
  | wOverrangeLeave _ => exact execWOverrangeLeave_frame h
  | wConverterStart _ => exact execWConverterStart_frame h
  | wConverterReady _ => exact execWConverterReady_frame h
  | wConverterStop _ => exact execWConverterStop_frame h
  | wchCfgWrite _ _ => exact execWchCfgWrite_frame h
  | baselineWindow _ => exact execBaselineWindow_frame h
  | wmTransition _ _ _ => exact execWmTransition_frame h
  | wmResolve _ _ => exact execWmResolve_frame h
  | wmCfgWrite _ _ _ => exact execWmCfgWrite_frame h
  | wmTimeLoRead _ _ => exact execWmTimeLoRead_frame h
  | wmTimeHiRead _ _ => exact execWmTimeHiRead_frame h
  | hcCrossing _ _ => exact execHcCrossing_frame h
  | hit _ => exact execHit_frame h
  | hitTruncated _ => exact execHitTruncated_frame h
  | hcLockoutEnd _ => exact execHcLockoutEnd_frame h
  | compSelfTest _ => exact execCompSelfTest_frame h
  | compTestRelease _ _ _ _ => exact execCompTestRelease_frame h
  | compUntested _ => exact execCompUntested_frame h
  | syncInEdge _ _ => exact execSyncInEdge_frame h
  | startScheduleTimer _ => exact execStartScheduleTimer_frame h
  | startFired _ => exact execStartFired_frame h
  | startUnitIdle _ => exact execStartUnitIdle_frame h
  | nodeReady _ => exact execNodeReady_frame h
  | invocationStart _ => exact execInvocationStart_frame h
  | invocationDone _ _ _ => exact execInvocationDone_frame h
  | clusterSelfTest _ _ => exact execClusterSelfTest_frame h
  | clCtrlTest _ => exact execClCtrlTest_frame h
  | clCtrlOffline _ => exact execClCtrlOffline_frame h
  | clusterFault _ _ => exact execClusterFault_frame h
  | clusterReplaced _ _ => exact execClusterReplaced_frame h
  | ageMsExpiry _ => exact execAgeMsExpiry_frame h
  | blockWrite _ => exact execBlockWrite_frame h
  | stagingFull _ => exact execStagingFull_frame h
  | flushBurst => exact execFlushBurst_frame h
  | blockSend _ _ _ _ => exact execBlockSend_frame h
  | dramRequest _ _ _ => exact execDramRequest_frame h
  | refreshDue _ => exact execRefreshDue_frame h
  | refreshCatchup _ => exact execRefreshCatchup_frame h
  | dramTempRead _ => exact execDramTempRead_frame h
  | refreshWindowStart => exact execRefreshWindowStart_frame h
  | powerDownEntry _ => exact execPowerDownEntry_frame h
  | selfRefreshEntry => exact execSelfRefreshEntry_frame h
  | mpllStop => exact execMpllStop_frame h
  | selfRefreshExit => exact execSelfRefreshExit_frame h
  | periodicTraining _ => exact execPeriodicTraining_frame h
  | fullTraining _ => exact execFullTraining_frame h
  | trainingDone _ _ => exact execTrainingDone_frame h
  | drcCfgWrite _ => exact execDrcCfgWrite_frame h
  | opPointChange => exact execOpPointChange_frame h
  | drcFreqDone _ => exact execDrcFreqDone_frame h
  | drcPortTgtWrite _ _ => exact execDrcPortTgtWrite_frame h
  | dramCellRead _ _ _ => exact execDramCellRead_frame h
  | eccWriteback _ => exact execEccWriteback_frame h
  | fullCellWrite _ _ _ _ _ => exact execFullCellWrite_frame h
  | narrowWrite _ _ _ _ => exact execNarrowWrite_frame h
  | mergeFlush _ _ => exact execMergeFlush_frame h
  | scrubRead _ => exact execScrubRead_frame h
  | eccScrubLapDone => exact execEccScrubLapDone_frame h
  | sramRead _ _ _ => exact execSramRead_frame h
  | eccLogClr => exact execEccLogClr_frame h
  | eccLogSel _ _ => exact execEccLogSel_frame h
  | eccInjArm _ => exact execEccInjArm_frame h
  | absentUnitWrite _ _ => exact execAbsentUnitWrite_frame h
  | devAbsentWrClear _ => exact execDevAbsentWrClear_frame h
  | readClear _ _ _ => exact execReadClear_frame h
  | registerWrite _ _ _ _ => exact execRegisterWrite_frame h
  | jtagExtest _ _ => exact execJtagExtest_frame h
  | modeTimerOnEnd => exact execModeTimerOnEnd_frame h
  | wakeCauseDropped => exact execWakeCauseDropped_frame h
  | pcieLinkReturn => exact execPcieLinkReturn_frame h
  | thermalEmergencyEnd _ => exact execThermalEmergencyEnd_frame h
  | safSupChange _ _ => exact execSafSupChange_frame h

end Sys2Proof.Machine
end

section
set_option Elab.async false
/-!
PROOF. Resets and their release (O53).
-/
namespace Sys2Proof.Machine

/-- What a WARM reset keeps (R11), before the registers that show other parts are written. -/
noncomputable def State.warmBase (s : State) (keepLink : Bool) : State :=
  { fac := s.fac, pending := s.pending, fresh := s.fresh, out := s.out,
    regs := s.regs.filter (fun e => (descAt e.1).any (fun d => d.1.aon)), cycles := s.cycles, recs := s.recallRecs,
    classLost := s.classLost, rate := s.rate,
    latch := (s.latch.filter (fun p => p.1.1 == Reg.ECC_LOG_CTRL)).map (fun p => (p.1, 0 :: p.2.drop 1)),
    cells := s.cells, ecc := { log := s.ecc.log, remap := s.ecc.remap }, pins := { jtagSafe := s.pins.jtagSafe },
    clk := { mcdFired := s.clk.mcdFired },
    host := if keepLink then { d3hot := s.host.d3hot, wakeN := s.host.wakeN, pci := s.host.pci } else {},
    bootu := { coldHeld := s.bootu.coldHeld, perstLow := s.bootu.perstLow, jtagHold := s.bootu.jtagHold,
               restarts := s.bootu.restarts.map (· - s.time), tested := s.bootu.tested },
    smon := { supAt := s.smon.supAt.map (fun (e : Nat × Time) => (e.1, e.2 - s.time)) } }

/-- The registers that WARM reset shows again. -/
noncomputable def State.warmShown (s t : State) (link : Word) : State :=
  ((t.setReg Reg.HIF_STAT link).setReg Reg.SAF_SUP (s.reg Reg.SAF_SUP)).setFld Reg.ECC_STAT Fld.ECC_STAT_LOG_USED
    (t.ecc.log.filter (fun e => Option.isSome e)).length

theorem State.warmReset_eq (s : State) (keepLink : Bool) : s.warmReset keepLink =
    (s.warmShown (s.warmBase keepLink) (if keepLink then
      s.reg Reg.HIF_STAT &&& maskAll [Fld.HIF_STAT_SPEED, Fld.HIF_STAT_WIDTH, Fld.HIF_STAT_DSTATE, Fld.HIF_STAT_LINK_UP]
      else 0)).showRemap := rfl

/-- Every register may change, no other part. -/
noncomputable def Parts.registers : Parts := { regs := fun _ => True }

theorem State.warmShown_sameBut (s t : State) (link : Word) : t.SameBut Parts.registers (s.warmShown t link).showRemap :=
  State.sameBut_of_outside (by
    have h : (s.warmShown t link).outside Parts.registers = t.outside Parts.registers := by
      simp [State.warmShown, Parts.registers]
    rw [State.showRemap_outside _ ⟨fun _ => trivial, trivial⟩, h])

theorem State.warmReset_sameBut (s : State) (keepLink : Bool) :
    (s.warmBase keepLink).SameBut Parts.registers (s.warmReset keepLink) := by
  rw [State.warmReset_eq]
  exact State.warmShown_sameBut _ _ _

theorem State.inReset_iff (s : State) :
    s.inReset = false ↔ s.bootu.coldHeld = false ∧ s.bootu.perstLow = false ∧ s.bootu.jtagHold = false := by
  simp [State.inReset, and_assoc]

/-- What `beginBoot` writes. -/
noncomputable def Parts.begun : Parts := { regs := is Reg.BOOT_STAT, bootu := true }

theorem State.beginBoot_sameBut (s : State) (cause : Nat) : s.SameBut Parts.begun (s.beginBoot cause) :=
  State.sameBut_of_outside (s.beginBoot_outside cause ⟨rfl, rfl⟩)

/-- The boot unit replaced. -/
noncomputable def State.withBoot (s : State) (b : BootUnit) : State := { s with bootu := b }

theorem State.withBoot_sameBut (s : State) (b : BootUnit) : s.SameBut { bootu := true } (s.withBoot b) :=
  State.sameBut_of_outside rfl

/-- The start that `beginBoot` notes. -/
theorem State.cause_beginBoot (s : State) (cause : Nat) :
    (s.beginBoot cause).fld Reg.BOOT_STAT Fld.BOOT_STAT_CAUSE = cause % 2 ^ fieldWidth Fld.BOOT_STAT_CAUSE :=
  State.fld_setFld_self _ _ ⟨by decide, by decide⟩ _

theorem State.released_free {s : State} (h : s.inReset = false) : s.released = s.beginBoot s.bootu.nextCause :=
  if_neg (by simp [h])

theorem coldResetEnd_answers {s : State} (hc : s.bootu.coldHeld = true) (hp : s.bootu.perstLow = false)
    (hj : s.bootu.jtagHold = false) :
    exec .coldResetEnd s = .next ((s.withBoot { s.bootu with coldHeld := false }).beginBoot s.bootu.nextCause) := by
  have h : coldResetEnd s = (s.withBoot { s.bootu with coldHeld := false }).beginBoot s.bootu.nextCause :=
    (if_pos hc).trans (State.released_free ((State.inReset_iff _).2 ⟨rfl, hp, hj⟩))
  show s.effect (coldResetEnd s) = _
  rw [h]
  exact State.effect_of_kept (State.beginBoot_sameBut _ _).pending (State.beginBoot_sameBut _ _).fac

theorem perstNRelease_answers {s : State} (hp : s.bootu.perstLow = true) (hc : s.bootu.coldHeld = false)
    (hj : s.bootu.jtagHold = false) :
    exec .perstNRelease s = .next ((s.withBoot { s.bootu with perstLow := false }).beginBoot s.bootu.nextCause) := by
  have h : perstNRelease s = (s.withBoot { s.bootu with perstLow := false }).beginBoot s.bootu.nextCause :=
    (if_pos hp).trans (State.released_free ((State.inReset_iff _).2 ⟨hc, rfl, hj⟩))
  show s.effect (perstNRelease s) = _
  rw [h]
  exact State.effect_of_kept (State.beginBoot_sameBut _ _).pending (State.beginBoot_sameBut _ _).fac

theorem State.freeMc_sameBut (s : State) : s.SameBut { regs := is Reg.MC_WDOG, bootu := true } s.freeMc :=
  State.sameBut_of_outside (s.freeMc_outside ⟨rfl, rfl⟩)

theorem State.bootu_freeMc (s : State) : s.freeMc.bootu = { s.bootu with restarts := [] } := rfl

/-- A WARM reset of a device that PERST_N holds, the restarts of its MC counted anew. -/
noncomputable def State.perstHeld (s : State) : State := ((s.withBoot { s.bootu with perstLow := true }).warmReset false).freeMc

theorem State.perstHeld_leaves (s : State) :
    s.perstHeld.bootu.perstLow = true ∧ s.perstHeld.bootu.mcRunning = false ∧ s.perstHeld.cells = s.cells ∧
      s.perstHeld.ecc.log = s.ecc.log ∧ s.perstHeld.pending = s.pending ∧ s.perstHeld.fac = s.fac := by
  have warm := State.warmReset_sameBut (s.withBoot { s.bootu with perstLow := true }) false
  have free := State.freeMc_sameBut ((s.withBoot { s.bootu with perstLow := true }).warmReset false)
  rw [State.perstHeld, State.bootu_freeMc, warm.bootu rfl, free.cells rfl, warm.cells rfl, free.ecc rfl, warm.ecc rfl,
    free.pending, warm.pending, free.fac, warm.fac]
  exact ⟨rfl, rfl, rfl, rfl, rfl, rfl⟩

/-- The next start's cause noted. -/
noncomputable def State.noteCause (s : State) (cause : Nat) : State := s.withBoot { s.bootu with nextCause := cause }

theorem State.noteCause_leaves (s : State) (cause : Nat) :
    (s.noteCause cause).bootu.perstLow = s.bootu.perstLow ∧ (s.noteCause cause).bootu.mcRunning = s.bootu.mcRunning ∧
      (s.noteCause cause).bootu.nextCause = cause ∧ (s.noteCause cause).cells = s.cells ∧
      (s.noteCause cause).ecc.log = s.ecc.log ∧ (s.noteCause cause).pending = s.pending ∧ (s.noteCause cause).fac = s.fac :=
  ⟨rfl, rfl, rfl, rfl, rfl, rfl, rfl⟩

/-- PERST_N low in no other reset begins the reset that it holds, with its cause. -/
theorem perstNAssert_begins {s : State} (hh : hasHost s.fac.variant = true) (hp : s.bootu.perstLow = false)
    (hc : s.bootu.coldHeld = false) (hj : s.bootu.jtagHold = false) : perstNAssert s = s.perstHeld.noteCause 1 := by
  simp [perstNAssert, hh, hp, hc, hj, State.perstHeld, State.withBoot, State.noteCause]

theorem perstNAssert_leaves {s : State} (hh : hasHost s.fac.variant = true) (hp : s.bootu.perstLow = false)
    (hc : s.bootu.coldHeld = false) (hj : s.bootu.jtagHold = false) :
    ∃ t, exec .perstNAssert s = .next t ∧ t.bootu.perstLow = true ∧ t.bootu.mcRunning = false ∧ t.bootu.nextCause = 1 ∧
      t.cells = s.cells ∧ t.ecc.log = s.ecc.log := by
  obtain ⟨hlow, hmc, hcells, hlog, hpending, hfac⟩ := s.perstHeld_leaves
  obtain ⟨hlow', hmc', hcause, hcells', hlog', hpending', hfac'⟩ := s.perstHeld.noteCause_leaves 1
  have answer : exec .perstNAssert s = .next (s.perstHeld.noteCause 1) := by
    show s.effect (perstNAssert s) = _
    rw [perstNAssert_begins hh hp hc hj]
    exact State.effect_of_kept (hpending'.trans hpending) (hfac'.trans hfac)
  exact ⟨_, answer, hlow'.trans hlow, hmc'.trans hmc, hcause, hcells'.trans hcells, hlog'.trans hlog⟩

/-- Settles O53: a COLD reset lists no register and no cell; WARM reset by what it keeps; the release by what `beginBoot` notes. -/
theorem resetCommands : Obligations.ResetCommands := by
  unfold Obligations.ResetCommands
  refine ⟨fun s => ⟨_, rfl, fun _ => rfl, rfl, rfl, rfl⟩, fun s => ⟨_, rfl, fun _ => rfl, rfl, rfl, rfl⟩, fun s hc hp hj => ?_,
    fun s hh hp hc hj => ?_, fun s hp hc hj => ?_, fun s levels => ⟨_, rfl, ?_⟩, fun s levels hj => ⟨_, rfl, ?_⟩⟩
  · exact ⟨_, coldResetEnd_answers hc hp hj, rfl, rfl, State.cause_beginBoot _ _⟩
  · exact perstNAssert_leaves hh hp hc hj
  · exact ⟨_, perstNRelease_answers hp hc hj, rfl, rfl, State.cause_beginBoot _ _⟩
  · cases hj : s.bootu.jtagHold <;> simp [jtagExtest, hj, State.coldReset]
  · rw [jtagExtest, if_neg (by simp), if_pos hj]
    simp only [State.released]
    split <;> exact ⟨rfl, rfl⟩

end Sys2Proof.Machine
end

section
set_option Elab.async false
/-!
PROOF. Three statements that fail, each at one state: a configuration commit whose command is not in flight (O56), a switch of
the clock parent that CLK_SRC does not show (O48), and a warm reset, which sets the time to 0 (O55).
-/
namespace Sys2Proof.Machine

/-- The MC has stopped once in BOOT's phase 4; a configuration commit of the ring is open, and no command is in flight. -/
def State.strayCommit : State :=
  { State.reset with
    regs := [(Reg.BOOT_STAT, 0x40000000)]
    bootu := { State.reset.bootu with restarts := [0] }
    commit := some { src := .ring, tag := 1, entries := [] } }

/-- What the restart leaves in flight there: the refusal of the commit's command, which was not in flight. -/
theorem mcRestart_strayCommit {t : State} (h : exec .mcRestart State.strayCommit = .next t) : t.host.inflight.length = 1 := by
  cases h
  decide +kernel

/-- Refutes O56: where the open configuration commit belongs to a command of the ring that is not in flight, the MC's restart
refuses that command as well, and the flight holds one entry where it held none. -/
theorem not_managementCore : ¬ Obligations.ManagementCore := by
  unfold Obligations.ManagementCore
  rintro ⟨-, -, -, restart, -⟩
  obtain ⟨t, run, -, left⟩ := restart State.strayCommit (by decide +kernel) (by decide +kernel) (by decide +kernel) (by decide +kernel)
    (by decide +kernel) (by decide +kernel) (by decide +kernel)
  have one := mcRestart_strayCommit run
  rw [left] at one
  exact absurd one (by decide)

/-- The MC runs and source 1 is ready; the clock tree is switching to it already, and CLK_SRC's SEL still names source 0. -/
def State.darkSwitch : State :=
  { State.reset with
    regs := [(Reg.CLK_READY, 2)]
    bootu := { State.reset.bootu with mcRunning := true }
    clk := { State.reset.clk with switching := some 1 } }

/-- CLK_SEL of the source under way leaves SEL there. -/
theorem clkSel_darkSwitch {t : State} (h : exec (.clkSel State.darkSwitch.managerDie 1) State.darkSwitch = .next t) :
    t.clkSel = 0 := by
  cases h
  decide +kernel

/-- Refutes O48: CLK_SEL of the ready source that the clock tree is switching to already changes nothing, so CLK_SRC keeps a SEL
that still names another source. -/
theorem not_managementPackets : ¬ Obligations.ManagementPackets := by
  unfold Obligations.ManagementPackets
  rintro ⟨-, -, -, -, -, -, select, -⟩
  obtain ⟨t, run, named, -⟩ := select State.darkSwitch _ 1 (by decide +kernel) rfl (by decide +kernel) (by decide +kernel)
  rw [clkSel_darkSwitch run] at named
  exact absurd named (by decide)

/-- BOOT has failed, and one unit of fabric time has passed. -/
def State.failedLate : State :=
  { State.reset with
    regs := [(Reg.BOOT_STAT, 0x80000000)]
    time := 1 }

/-- The BOOT that RETRY begins there starts at time 0. -/
theorem bootRetry_failedLate {t : State} (h : exec .bootRetry State.failedLate = .next t) : t.bootu.startTime = 0 := by
  cases h
  decide +kernel

/-- Refutes O55: RETRY goes through WARM reset, which sets the time to 0, so the BOOT it begins does not start at the time of the
command once any time has passed. -/
theorem not_bootFailure : ¬ Obligations.BootFailure := by
  unfold Obligations.BootFailure
  rintro ⟨-, -, retry, -⟩
  obtain ⟨t, run, -, start, -⟩ := retry State.failedLate (by decide +kernel)
  rw [bootRetry_failedLate run] at start
  exact absurd start (by decide)

end Sys2Proof.Machine
end

section
set_option Elab.async false
/-!
PROOF. The boot sequence (O54).
-/
namespace Sys2Proof.Machine

/-! ### Registers of the units lie in series, each with its own stride -/

theorem add_mul_mod_of_dvd {g k : Nat} (h : g ∣ k) (b n : Nat) : (b + k * n) % g = b % g := by
  rw [Nat.add_mod, Nat.mod_eq_zero_of_dvd (Dvd.dvd.mul_right h n), Nat.add_zero, Nat.mod_mod]

theorem series_apart {a b j k : Nat} (h : a % Nat.gcd j k ≠ b % Nat.gcd j k) (n m : Nat) : a + j * n ≠ b + k * m := fun e =>
  h (by rw [← add_mul_mod_of_dvd (Nat.gcd_dvd_left j k) a n, e, add_mul_mod_of_dvd (Nat.gcd_dvd_right j k)])

theorem series_ne {a b k : Nat} (h : b % k ≠ a % k) (n : Nat) : b + k * n ≠ a := fun e =>
  h (by rw [← e, Nat.add_mul_mod_self_left])

theorem series_above {a b : Nat} (h : a < b) (k n : Nat) : b + k * n ≠ a := Nat.ne_of_gt (Nat.lt_add_right _ h)

theorem series_injective {b k n m : Nat} (hk : 0 < k) (h : n ≠ m) : b + k * n ≠ b + k * m := fun e =>
  h (Nat.eq_of_mul_eq_mul_left hk (Nat.add_left_cancel e))

/-- Every ending and unit register that BOOT's steps reach through an index lies above the clock's and BOOT's. -/
theorem unitReg_ge (n : Nat) : 0x8100 ≤ Reg.FP_STAT n ∧ 0x8100 ≤ Reg.FP_UTIL n ∧ 0x8100 ≤ Reg.ECC_REMAP n := by
  refine ⟨?_, ?_, ?_⟩ <;> exact Nat.le_add_right_of_le (by decide)

theorem fpStat_ne {a : Nat} (h : a < 0x8100) (n : Nat) : Reg.FP_STAT n ≠ a :=
  Nat.ne_of_gt (Nat.lt_of_lt_of_le h (unitReg_ge n).1)

theorem fpUtil_ne {a : Nat} (h : a < 0x8100) (n : Nat) : Reg.FP_UTIL n ≠ a :=
  Nat.ne_of_gt (Nat.lt_of_lt_of_le h (unitReg_ge n).2.1)

theorem eccRemap_ne {a : Nat} (h : a < 0x8100) (n : Nat) : Reg.ECC_REMAP n ≠ a :=
  Nat.ne_of_gt (Nat.lt_of_lt_of_le h (unitReg_ge n).2.2)

/-! ### The phase and the reference (R403, R404) -/

theorem State.bootPhase_setPhase (s : State) {ph : Nat} (h : ph < 16) : (s.setPhase ph).bootPhase = ph :=
  (State.fld_setFld_self _ _ ⟨by decide, by decide⟩ _).trans (Nat.mod_eq_of_lt h)

theorem State.reg_setPhase (s : State) (ph : Nat) {a : Nat} (h : a ≠ Reg.BOOT_STAT) : (s.setPhase ph).reg a = s.reg a :=
  State.reg_setFld_other _ h _ _

theorem State.bootPhase_congr {s t : State} (h : t.reg Reg.BOOT_STAT = s.reg Reg.BOOT_STAT) : t.bootPhase = s.bootPhase :=
  State.fld_congr h _

theorem State.reg_showSource (s : State) {a : Nat} (ha : a = Reg.CLK_SRC ∨ a = Reg.CLK_STAT) : s.showSource.reg a = s.reg a := by
  refine State.reg_of_sparing (kept := fun r => r = Reg.CLK_SRC ∨ r = Reg.CLK_STAT) (s.showSource_outside ?_) ha
  refine ⟨by unfold Parts.sparing; decide, by unfold Parts.sparing; decide, fun n h => ?_⟩
  exact h.elim (fpStat_ne (by decide) n) (fpStat_ne (by decide) n)

/-- The reference is selected, and the T-PLL locks to it. -/
noncomputable def State.referenceTaken (s : State) (src : Nat) : State :=
  ((s.setFld Reg.CLK_SRC Fld.CLK_SRC_SEL src).raise Reg.CLK_STAT Fld.CLK_STAT_T_LOCK).clear Reg.CLK_STAT Fld.CLK_STAT_HOLDOVER

theorem bootReferenceAcquired_port {s : State} {src : Nat} (hr : s.inReset = false) (hph : s.bootPhase = 0) (h1 : 1 ≤ src)
    (hp : hasFp s.fac.variant (src - 1) = true) :
    bootReferenceAcquired s src = (s.referenceTaken src).showSource.setPhase 2 := by
  have h0 : src ≠ 0 := Nat.ne_of_gt h1
  simp [bootReferenceAcquired, hr, hph, h0, hp, State.referenceTaken]

theorem State.referenceTaken_shows (s : State) {src : Nat} (h : src < 5) :
    (s.referenceTaken src).clkSel = src ∧ (s.referenceTaken src).flag Reg.CLK_STAT Fld.CLK_STAT_T_LOCK = true := by
  constructor
  · have hreg : (s.referenceTaken src).reg Reg.CLK_SRC = (s.setFld Reg.CLK_SRC Fld.CLK_SRC_SEL src).reg Reg.CLK_SRC :=
      (State.reg_clear_other _ (by decide) _).trans (State.reg_raise_other _ (by decide) _)
    exact (State.fld_congr hreg _).trans ((State.fld_setFld_self _ _ ⟨by decide, by decide⟩ _).trans
      (Nat.mod_eq_of_lt (Nat.lt_of_lt_of_le h (by decide))))
  · exact (State.flag_clear_apart _ ⟨by decide, by decide⟩ (by decide) (by decide)).trans
      (State.flag_raise _ _ ⟨by decide, by decide⟩)

theorem bootReferenceAcquired_shows {s : State} {src : Nat} (hr : s.inReset = false) (hph : s.bootPhase = 0) (h1 : 1 ≤ src)
    (h5 : src < 5) (hp : hasFp s.fac.variant (src - 1) = true) :
    (bootReferenceAcquired s src).bootPhase = 2 ∧ (bootReferenceAcquired s src).clkSel = src ∧
      (bootReferenceAcquired s src).flag Reg.CLK_STAT Fld.CLK_STAT_T_LOCK = true := by
  obtain ⟨hsel, hlock⟩ := s.referenceTaken_shows h5
  rw [bootReferenceAcquired_port hr hph h1 hp]
  refine ⟨State.bootPhase_setPhase _ (by decide), ?_, ?_⟩
  · exact (State.fld_congr ((State.reg_setPhase _ _ (by decide)).trans (State.reg_showSource _ (.inl rfl))) _).trans hsel
  · exact (State.flag_congr ((State.reg_setPhase _ _ (by decide)).trans (State.reg_showSource _ (.inr rfl))) _).trans hlock

/-! ### Slots (R404, R410 to R412) -/

/-- The boot unit as a slot's start leaves it. -/
noncomputable def State.atSlot (s : State) (b : Bool) : State :=
  s.withBoot { s.bootu with slotB := b, sections := [], imageId := 0, mcRunning := false, dramTested := false }

theorem State.reg_atSlot (s : State) (b : Bool) (a : Nat) : (s.atSlot b).reg a = s.reg a := by
  unfold State.reg
  rfl

theorem State.reg_freeNat (s : State) (w a : Nat) : (s.freeNat w).2.reg a = s.reg a := by
  unfold State.reg
  rfl

theorem State.startSlot_eq (s : State) (b : Bool) :
    s.startSlot b = (((s.atSlot b).setReg Reg.DEV_FW 0).setFld Reg.BOOT_STAT Fld.BOOT_STAT_SLOT (bit b)).setPhase 3 := rfl

theorem State.bootu_startSlot (s : State) (b : Bool) : (s.startSlot b).bootu = (s.atSlot b).bootu := by
  have frame : (s.atSlot b).SameBut Parts.registers (s.startSlot b) := State.sameBut_of_outside (by
    rw [State.startSlot_eq]
    simp [Parts.registers, State.setPhase])
  exact frame.bootu rfl

theorem State.startSlot_shows (s : State) (b : Bool) :
    (s.startSlot b).bootPhase = 3 ∧ (s.startSlot b).bootu.slotB = b := by
  rw [State.bootu_startSlot, State.startSlot_eq]
  exact ⟨State.bootPhase_setPhase _ (by decide), rfl⟩

theorem State.fallback_startSlot (s : State) (b : Bool) :
    (s.startSlot b).flag Reg.BOOT_STAT Fld.BOOT_STAT_FALLBACK = s.flag Reg.BOOT_STAT Fld.BOOT_STAT_FALLBACK := by
  rw [State.startSlot_eq, State.setPhase]
  rw [State.flag_setFld_apart _ ⟨by decide, by decide⟩ (by decide) (by decide),
    State.flag_setFld_apart _ ⟨by decide, by decide⟩ (by decide) (by decide)]
  exact State.flag_congr ((State.reg_setReg_other _ (by decide) _).trans (s.reg_atSlot b _)) _

theorem State.reg_startSlot (s : State) (b : Bool) {a : Nat} (h : a ≠ Reg.BOOT_STAT) (hfw : a ≠ Reg.DEV_FW) :
    (s.startSlot b).reg a = s.reg a := by
  rw [State.startSlot_eq, State.setPhase]
  exact (State.reg_setFld_other _ h _ _).trans ((State.reg_setFld_other _ h _ _).trans
    ((State.reg_setReg_other _ hfw _).trans (s.reg_atSlot b a)))

/-- The error that a failing slot leaves in BOOT_ERRA or BOOT_ERRB (R410). -/
noncomputable def bootErr (code stype entry : Nat) : Word := BitVec.ofNat 32 (code * 2 ^ 24 + min stype 255 * 2 ^ 16 + entry % 2 ^ 16)

/-- A slot's failure, noted and reported. -/
noncomputable def State.slotFailed (s : State) (code stype entry : Nat) (unit : Option Nat) : State :=
  let f := (s.setReg (if s.bootu.slotB then Reg.BOOT_ERRB else Reg.BOOT_ERRA) (bootErr code stype entry)).freeNat 16
  f.2.emit 0x0050 0 [bit s.bootu.slotB, code, stype, entry, (unit.getD f.1 : Nat)]

theorem State.failSlot_eq (s : State) (code stype entry : Nat) (unit : Option Nat) :
    s.failSlot code stype entry unit =
      if s.bootu.slotB then
        ((s.slotFailed code stype entry unit).withBoot
          { (s.slotFailed code stype entry unit).bootu with mcRunning := false, sections := [] }).portsDown.setPhase 8
      else (((s.slotFailed code stype entry unit).raise Reg.BOOT_STAT Fld.BOOT_STAT_FALLBACK).emit 0x0051 0 [code]).startSlot true :=
  rfl

theorem State.erra_slotFailed {s : State} (hb : s.bootu.slotB = false) (code stype entry : Nat) (unit : Option Nat) :
    (s.slotFailed code stype entry unit).reg Reg.BOOT_ERRA = bootErr code stype entry := by
  refine (State.emit_reg _ _ _ _ (by decide)).trans ?_
  rw [hb]
  exact (State.reg_freeNat _ _ _).trans (State.reg_setReg_self _ _ _)

/-- Slot A's failure falls back to slot B (R410 to R412). -/
theorem State.failSlot_shows {s : State} (hb : s.bootu.slotB = false) (code stype entry : Nat) (unit : Option Nat) :
    (s.failSlot code stype entry unit).bootPhase = 3 ∧ (s.failSlot code stype entry unit).bootu.slotB = true ∧
      (s.failSlot code stype entry unit).flag Reg.BOOT_STAT Fld.BOOT_STAT_FALLBACK = true ∧
      (s.failSlot code stype entry unit).reg Reg.BOOT_ERRA = bootErr code stype entry := by
  rw [State.failSlot_eq, if_neg (by simp [hb])]
  obtain ⟨hphase, hslot⟩ := State.startSlot_shows
    (((s.slotFailed code stype entry unit).raise Reg.BOOT_STAT Fld.BOOT_STAT_FALLBACK).emit 0x0051 0 [code]) true
  refine ⟨hphase, hslot, ?_, ?_⟩
  · exact (State.fallback_startSlot _ _).trans ((State.flag_congr (State.emit_reg _ _ _ _ (by decide)) _).trans
      (State.flag_raise _ _ ⟨by decide, by decide⟩))
  · exact (State.reg_startSlot _ _ (by decide) (by decide)).trans ((State.emit_reg _ _ _ _ (by decide)).trans
      ((State.reg_raise_other _ (by decide) _).trans (State.erra_slotFailed hb _ _ _ _)))

/-! ### The tests and the image (R282, R306, R404, R405) -/

/-- What BOOT shows of itself, and the clocks that it locks: no test, no cause of SAFE and no judgment of SMON writes these. -/
def bootShown (r : Nat) : Prop := r = Reg.CLK_STAT ∨ r = Reg.BOOT_STAT ∨ r = Reg.BOOT_IMG

theorem not_bootShown {r : Nat} (h : 0x8100 ≤ r) : ¬bootShown r := by
  rintro (rfl | rfl | rfl) <;> exact absurd h (by decide)

theorem State.reg_raiseCause_bootShown (s : State) (c rule unit : Nat) {a : Nat} (h : bootShown a) :
    (s.raiseCause c rule unit).reg a = s.reg a :=
  State.reg_of_sparing (s.raiseCause_outside c rule unit (by
    simp +decide [Parts.sparing, Parts.all, Parts.emits, bootShown, fpUtil_ne])) h

theorem State.reg_remapCell_bootShown (s : State) (cell prot : Nat) (poison boot : Bool) {a : Nat} (h : bootShown a) :
    (s.remapCell cell prot poison boot).reg a = s.reg a :=
  State.reg_of_sparing (s.remapCell_outside cell prot poison boot (by
    simp +decide [Parts.sparing, Parts.all, Parts.emits, bootShown, eccRemap_ne])) h

theorem State.reg_dramTest_bootShown (s : State) (bad : List Nat) {a : Nat} (h : bootShown a) : (s.dramTest bad).reg a = s.reg a :=
  State.reg_of_sparing (s.dramTest_outside bad (by
    simp +decide [Parts.sparing, Parts.all, Parts.emits, bootShown, fpUtil_ne, eccRemap_ne])) h

theorem bootSelfTests_passes {s : State} {march : Nat} (hr : s.inReset = false) (hc : s.causeActive 13 = false)
    (hph : s.bootPhase = 2) (hm : march % 32 = 0) (dram : DramTests) :
    bootSelfTests s march false dram =
      ((s.setFld Reg.ECC_BIST Fld.ECC_BIST_MARCH_FAIL march).setFld Reg.ECC_BIST Fld.ECC_BIST_CHK_FAIL (bit false)).startSlot
        false := by
  simp [bootSelfTests, hr, hc, hph, hm]

theorem bootSelfTests_fails {s : State} {march : Nat} {chk : Bool} (hr : s.inReset = false) (hc : s.causeActive 13 = false)
    (hph : s.bootPhase = 2) (hm : march % 32 ≠ 0 ∨ chk = true) (dram : DramTests) :
    bootSelfTests s march chk dram =
      ((s.setFld Reg.ECC_BIST Fld.ECC_BIST_MARCH_FAIL march).setFld Reg.ECC_BIST Fld.ECC_BIST_CHK_FAIL (bit chk)).raiseCause 13 306 0 := by
  simp [bootSelfTests, hr, hc, hph, hm]

/-- The F-PLL and the M-PLL lock (R404 step 6). -/
noncomputable def State.pllsLocked (s : State) : State :=
  ((s.raise Reg.CLK_STAT Fld.CLK_STAT_F_LOCK).raise Reg.CLK_STAT Fld.CLK_STAT_M_LOCK).setPhase 4

theorem State.pllsLocked_shows (s : State) :
    s.pllsLocked.bootPhase = 4 ∧ s.pllsLocked.flag Reg.CLK_STAT Fld.CLK_STAT_F_LOCK = true ∧
      s.pllsLocked.flag Reg.CLK_STAT Fld.CLK_STAT_M_LOCK = true := by
  refine ⟨State.bootPhase_setPhase _ (by decide), ?_, ?_⟩
  · exact (State.flag_congr (State.reg_setPhase _ _ (by decide)) _).trans ((State.flag_raise_apart _ ⟨by decide, by decide⟩
      (by decide) (by decide)).trans (State.flag_raise _ _ ⟨by decide, by decide⟩))
  · exact (State.flag_congr (State.reg_setPhase _ _ (by decide)) _).trans (State.flag_raise _ _ ⟨by decide, by decide⟩)

/-- A training without failures writes the DRAM controller's own state alone. -/
theorem State.bootTrain_good (s : State) {P : Parts} (hd : P.drc = true) (hch : P.chan = true) (ht : P.regs Reg.DRC_TEMP) :
    (s.bootTrain []).outside P = s.outside P := by
  simp only [State.bootTrain, List.contains_nil, Bool.false_eq_true, if_false]
  rw [State.showTTrain_outside _ ht, State.foldl_outside, State.foldl_outside]
  · exact fun t op => State.setTrained_outside t op hd
  · exact fun t op => State.foldl_outside (fun u ch => State.setChan_outside u ch _ hch) _ _

/-- Every part may change but the boot unit. -/
noncomputable def Parts.notBoot : Parts := { Parts.all with bootu := false }

/-- The DRAM pattern test notes its region in the boot unit, and touches nothing else of it. -/
theorem State.dramTest_sameBut (s : State) (bad : List Nat) :
    (s.overwriteRegion (leAt (s.sectionBody 2) 8 2 * 2 ^ 15) (leAt (s.sectionBody 2) 10 2 * 2 ^ 15)).SameBut Parts.notBoot
      (s.dramTest bad) := by
  refine State.sameBut_of_outside ?_
  unfold State.dramTest
  extract_lets dev first mib n t fails step r u
  have tested : u.outside Parts.notBoot = t.outside Parts.notBoot := by
    have remapped : r.2.outside Parts.notBoot = t.outside Parts.notBoot :=
      State.foldl_outside_start (fun p c => State.remapCell_outside _ _ _ _ _ (by simp [Parts.notBoot, Parts.all, Parts.emits])) _ _ _
    simp only [u]
    rw [State.setFld_outside, State.setFld_outside, remapped] <;> exact trivial
  split
  · rw [State.raiseCause_outside, State.raise_outside, tested]
    · exact trivial
    · simp [Parts.notBoot, Parts.all, Parts.emits]
  · exact tested

theorem State.dramTested_overwriteRegion (s : State) (first n : Nat) : (s.overwriteRegion first n).bootu.dramTested = s.bootu.dramTested := rfl

theorem State.dramTested_dramTest (s : State) (bad : List Nat) : (s.dramTest bad).bootu.dramTested = s.bootu.dramTested := by
  rw [(s.dramTest_sameBut bad).bootu rfl, State.dramTested_overwriteRegion]

/-- The channels are trained at every point, and the DRAM's test is next (R282, R306). -/
noncomputable def State.dramTrained (s : State) : State :=
  (s.pllsLocked.bootTrain []).withBoot { (s.pllsLocked.bootTrain []).bootu with dramTested := true }

theorem State.reg_bootTrain_good (s : State) {a : Nat} (h : a ≠ Reg.DRC_TEMP) : (s.bootTrain []).reg a = s.reg a :=
  State.reg_of_sparing (kept := fun r => r ≠ Reg.DRC_TEMP) (s.bootTrain_good rfl rfl (fun hn => hn rfl)) h

theorem State.reg_pllsLocked (s : State) {a : Nat} (hc : a ≠ Reg.CLK_STAT) (hb : a ≠ Reg.BOOT_STAT) : s.pllsLocked.reg a = s.reg a :=
  (State.reg_setPhase _ _ hb).trans ((State.reg_raise_other _ hc _).trans (State.reg_raise_other _ hc _))

theorem State.causeActive_congr {s t : State} (h : t.reg Reg.SAF_CAUSE = s.reg Reg.SAF_CAUSE) (c : Nat) :
    t.causeActive c = s.causeActive c := by
  unfold State.causeActive State.regBit
  rw [h]

theorem bootSelfTests_trains {s : State} {dram : DramTests} (hr : s.inReset = false) (hc : s.causeActive 13 = false)
    (hph : s.bootPhase = 3) (hsec : s.bootu.sections ≠ []) (hd : dram.failed = []) (march : Nat) (chk : Bool) :
    bootSelfTests s march chk dram =
      if leAt (s.dramTrained.sectionBody 2) 10 2 = 0 then s.dramTrained else s.dramTrained.dramTest dram.bad := by
  have quiet : (s.pllsLocked.bootTrain []).causeActive 13 = false := by
    rw [State.causeActive_congr ((State.reg_bootTrain_good _ (by decide)).trans (State.reg_pllsLocked _ (by decide) (by decide))), hc]
  have sections : s.bootu.sections.isEmpty = false := by simpa using hsec
  unfold bootSelfTests
  rw [hr, hc, hph, sections, hd, if_neg (by decide), if_neg (by decide), if_pos (by decide)]
  exact if_neg (by rw [← State.pllsLocked, quiet]; decide)

theorem State.reg_dramTrained (s : State) {a : Nat} (h : a ≠ Reg.DRC_TEMP) : s.dramTrained.reg a = s.pllsLocked.reg a :=
  ((State.withBoot_sameBut _ _).reg a (fun hn => hn)).trans (State.reg_bootTrain_good _ h)

theorem State.dramTrained_shows {s t : State} (h : ∀ a, bootShown a → t.reg a = s.dramTrained.reg a) :
    t.bootPhase = 4 ∧ t.flag Reg.CLK_STAT Fld.CLK_STAT_F_LOCK = true ∧ t.flag Reg.CLK_STAT Fld.CLK_STAT_M_LOCK = true := by
  obtain ⟨hphase, hf, hm⟩ := s.pllsLocked_shows
  have clk := (h Reg.CLK_STAT (.inl rfl)).trans (s.reg_dramTrained (by decide))
  have boot := (h Reg.BOOT_STAT (.inr (.inl rfl))).trans (s.reg_dramTrained (by decide))
  exact ⟨(State.bootPhase_congr boot).trans hphase, (State.flag_congr clk _).trans hf, (State.flag_congr clk _).trans hm⟩

theorem bootSelfTests_dram {s : State} {dram : DramTests} (hr : s.inReset = false) (hc : s.causeActive 13 = false)
    (hph : s.bootPhase = 3) (hsec : s.bootu.sections ≠ []) (hd : dram.failed = []) (march : Nat) (chk : Bool) :
    (bootSelfTests s march chk dram).bootPhase = 4 ∧ (bootSelfTests s march chk dram).bootu.dramTested = true ∧
      (bootSelfTests s march chk dram).flag Reg.CLK_STAT Fld.CLK_STAT_F_LOCK = true ∧
      (bootSelfTests s march chk dram).flag Reg.CLK_STAT Fld.CLK_STAT_M_LOCK = true := by
  rw [bootSelfTests_trains hr hc hph hsec hd]
  split
  · obtain ⟨hphase, hlocks⟩ := s.dramTrained_shows (fun _ _ => rfl)
    exact ⟨hphase, rfl, hlocks⟩
  · obtain ⟨hphase, hlocks⟩ := s.dramTrained_shows (fun a ha => s.dramTrained.reg_dramTest_bootShown dram.bad ha)
    exact ⟨hphase, State.dramTested_dramTest _ _, hlocks⟩


/-- SFDP's findings shown, where the flash may be read (R405). -/
noncomputable def State.flashSeen (s : State) (found : Word) (bytes : List (BitVec 8)) : State :=
  if !s.flag Reg.BOOT_CTRL Fld.BOOT_CTRL_FL_RELEASE then
    (s.setReg Reg.BOOT_FLASH (found &&& maskAll [Fld.BOOT_FLASH_MFR, Fld.BOOT_FLASH_SIZE_LOG2, Fld.BOOT_FLASH_MODE,
      Fld.BOOT_FLASH_ADDR4])).setFld Reg.BOOT_FLASH Fld.BOOT_FLASH_QCLK (if headerOk bytes then leAt bytes 6 1 else 2)
  else s

theorem State.bootu_flashSeen (s : State) (found : Word) (bytes : List (BitVec 8)) : (s.flashSeen found bytes).bootu = s.bootu := by
  have frame : s.SameBut Parts.registers (s.flashSeen found bytes) := State.sameBut_of_outside (by
    unfold State.flashSeen
    split <;> simp [Parts.registers])
  exact frame.bootu rfl

theorem State.reg_flashSeen (s : State) (found : Word) (bytes : List (BitVec 8)) {a : Nat} (h : a ≠ Reg.BOOT_FLASH) :
    (s.flashSeen found bytes).reg a = s.reg a := by
  unfold State.flashSeen
  split
  · exact (State.reg_setFld_other _ h _ _).trans (State.reg_setReg_other _ h _)
  · rfl

/-- Slot A unreadable: its failure (R405, R410). -/
theorem imageValidation_unread {s : State} (hr : s.inReset = false) (hph : s.bootPhase = 3) (hsec : s.bootu.sections = [])
    (hb : s.bootu.slotB = false) (found : Word) (bytes : List (BitVec 8)) :
    imageValidation s false found false bytes = (s.flashSeen found bytes).failSlot 1 0 0 none := by
  simp [imageValidation, hr, hph, hsec, hb, structure_, State.flashSeen]

/-- Slot A read and valid in its structure: the version the firmware reports is shown. -/
noncomputable def State.firmwareShown (s : State) : State := (s.freeNat 32).2.setReg Reg.DEV_FW (BitVec.ofNat 32 (s.freeNat 32).1)

theorem State.bootPhase_firmwareShown (s : State) : s.firmwareShown.bootPhase = s.bootPhase :=
  State.bootPhase_congr ((State.reg_setReg_other _ (by decide) _).trans (s.reg_freeNat 32 _))

/-- The sections of an image that BOOT keeps. -/
noncomputable def imageSections (bytes : List (BitVec 8)) (l : List Sec) : List (Nat × List (BitVec 8)) :=
  (l.filter (fun x => 1 ≤ x.stype && x.stype ≤ 9)).map (fun x => (x.stype, (bytes.drop (x.pos + 12)).take x.len))

/-- The header of an image's CALSET section. -/
noncomputable def imageCalHead (bytes : List (BitVec 8)) (l : List Sec) : List (BitVec 8) :=
  ((l.find? (fun x => x.stype == 9)).map (fun x => (bytes.drop x.pos).take 12)).getD []

/-- A slot's sections and its image taken, and the MC started. -/
noncomputable def State.imageRead (s : State) (bytes : List (BitVec 8)) (l : List Sec) : State :=
  (s.firmwareShown.withBoot
    { s.firmwareShown.bootu with
      sections := imageSections bytes l
      calHead := imageCalHead bytes l
      imageId := leAt bytes 12 4 }).startMc

theorem imageValidation_read {s : State} {bytes : List (BitVec 8)} {l : List Sec} (hr : s.inReset = false) (hph : s.bootPhase = 3)
    (hsec : s.bootu.sections = []) (hb : s.bootu.slotB = false) (hfl : s.flag Reg.BOOT_CTRL Fld.BOOT_CTRL_FL_RELEASE = false)
    (hl : structure_ bytes true = .inr l) (found : Word) :
    imageValidation s false found true bytes = (s.flashSeen found bytes).imageRead bytes l := by
  unfold imageValidation State.flashSeen
  rw [hr, hph, hsec, hb, if_neg (by decide), hfl]
  simp only [Bool.not_false, Bool.and_true, Bool.true_or, hl]
  rfl

theorem State.imageRead_shows (s : State) (bytes : List (BitVec 8)) (l : List Sec) :
    (s.imageRead bytes l).bootu.mcRunning = true ∧ (s.imageRead bytes l).bootu.imageId = leAt bytes 12 4 :=
  ⟨rfl, rfl⟩

theorem State.bootPhase_imageRead (s : State) (bytes : List (BitVec 8)) (l : List Sec) :
    (s.imageRead bytes l).bootPhase = s.bootPhase := by
  have started := State.sameBut_of_outside (p := { bootu := true }) (State.startMc_outside
    (s.firmwareShown.withBoot
      { s.firmwareShown.bootu with
        sections := imageSections bytes l
        calHead := imageCalHead bytes l
        imageId := leAt bytes 12 4 }) rfl)
  have placed := State.withBoot_sameBut s.firmwareShown
    { s.firmwareShown.bootu with
      sections := imageSections bytes l
      calHead := imageCalHead bytes l
      imageId := leAt bytes 12 4 }
  exact (State.bootPhase_congr ((started.reg _ (fun h => h)).trans (placed.reg _ (fun h => h)))).trans
    s.bootPhase_firmwareShown

/-! ### Semantic validation (R411) -/

theorem semanticValidation_valid {s : State} {g : List NodeDef} {graph : List NodeDef} (hr : s.inReset = false)
    (hph : s.bootPhase = 4) (hd : s.bootu.dramTested = true) (hc : s.causeActive 13 = false)
    (hg : g = if s.bootu.sections.any (fun p => p.1 == 4) then graph else []) (he : s.imageErr g (s.freeNat 16).1 = none)
    (graphId : Word) :
    semanticValidation s graphId graph =
      ((s.setPhase 5).applyImage (if s.bootu.sections.any (fun p => p.1 == 4) then graphId else 0) g).setPhase 6 := by
  unfold semanticValidation
  rw [hr, hph, hd, hc, if_neg (by decide)]
  subst hg
  simp only [he]

theorem semanticValidation_invalid {s : State} {g : List NodeDef} {graph : List NodeDef} {e : ImgErr} (hr : s.inReset = false)
    (hph : s.bootPhase = 4) (hd : s.bootu.dramTested = true) (hc : s.causeActive 13 = false)
    (hg : g = if s.bootu.sections.any (fun p => p.1 == 4) then graph else []) (he : s.imageErr g (s.freeNat 16).1 = some e)
    (graphId : Word) :
    semanticValidation s graphId graph = (s.freeNat 16).2.failSlot e.code e.stype e.entry e.unit := by
  unfold semanticValidation
  rw [hr, hph, hd, hc, if_neg (by decide)]
  subst hg
  simp only [he]

/-! ### The end of BOOT (R404 step 10) -/

/-- The image's number is kept by what a step of fabric time moves. -/
theorem State.imageId_retime (s : State) (t : Time) : (s.retime t).bootu.imageId = s.bootu.imageId := by
  have frame := State.sameBut_of_outside (p := { Parts.all with bootu := false })
    (State.rearmTimers_outside { s.keepElapsed (t - s.time) with time := t, timeRem := 0 } ⟨rfl, rfl⟩)
  rw [State.retime, frame.bootu rfl]
  rfl

theorem State.imageId_takeTime (s : State) (t : Time) (valid : Bool) : (s.takeTime t valid).bootu.imageId = s.bootu.imageId := by
  unfold State.takeTime
  split
  · exact s.imageId_retime 0
  · have frame : (s.retime t).SameBut Parts.registers ((s.retime t).setFld Reg.FAB_STAT Fld.FAB_STAT_TIME_VALID (bit valid)) :=
      State.sameBut_of_outside (by simp [Parts.registers])
    rw [frame.bootu rfl]
    exact s.imageId_retime t

/-- The units started, the image's streams open, the host told: what precedes BOOT's own last registers. -/
noncomputable def State.unitsStarted (s : State) (t : Time) (valid : Bool) : State :=
  let u := (streamsOfBody ((((s.loneDevice.takeTime t valid).startUnits.judgeSpare).startPacer).sectionBody 5)).foldl
    (fun (s : State) p => s.openStream p) (((s.loneDevice.takeTime t valid).startUnits.judgeSpare).startPacer)
  if hasHost u.fac.variant then u.raise Reg.HIF_STAT Fld.HIF_STAT_READY else u

theorem State.imageId_unitsStarted (s : State) (t : Time) (valid : Bool) :
    (s.unitsStarted t valid).bootu.imageId = s.bootu.imageId := by
  have lone := State.sameBut_of_outside (p := { Parts.all with bootu := false }) (s.loneDevice_outside (by
    simp [Parts.all]))
  have started : (s.loneDevice.takeTime t valid).SameBut { Parts.all with bootu := false } (s.unitsStarted t valid) := by
    refine State.sameBut_of_outside ?_
    have streams : ((streamsOfBody ((((s.loneDevice.takeTime t valid).startUnits.judgeSpare).startPacer).sectionBody 5)).foldl
        (fun (s : State) p => s.openStream p) (((s.loneDevice.takeTime t valid).startUnits.judgeSpare).startPacer)).outside
          { Parts.all with bootu := false } = (s.loneDevice.takeTime t valid).outside { Parts.all with bootu := false } := by
      rw [State.foldl_outside (fun u p => State.openStream_outside u p (by simp [Parts.all])), State.startPacer_outside,
        State.judgeSpare_outside, State.startUnits_outside] <;> simp [Parts.all, Parts.emits]
    unfold State.unitsStarted
    simp only
    split
    · rw [State.raise_outside _ _ _ trivial, streams]
    · exact streams
  rw [started.bootu rfl, State.imageId_takeTime, lone.bootu rfl]

/-- BOOT's last registers, its phase, and the start mode. -/
noncomputable def State.bootShownLast (s : State) (id us : Nat) : State :=
  ((((s.setReg Reg.BOOT_IMG (BitVec.ofNat 32 id)).setReg Reg.BOOT_TIME (BitVec.ofNat 32 us)).setPhase 7)).enterStart

/-- SMON runs. -/
noncomputable def State.smonRunning (s : State) : State := { s with smon := { s.smon with running := true } }

theorem State.endBoot_eq (s : State) (t : Time) (valid : Bool) :
    s.endBoot t valid =
      let us := usSince s.bootu.startTime s.time
      let u := s.unitsStarted t valid
      let v := ((u.bootShownLast u.bootu.imageId us).smonRunning).verifyAll
      v.emit 0x0052 0 [bit v.bootu.slotB, v.bootu.imageId, us, v.fld Reg.CAL_STAT Fld.CAL_STAT_BAD,
        v.fld Reg.BOOT_STAT Fld.BOOT_STAT_CAUSE] := rfl

theorem State.enterStart_shows (s : State) {a : Nat} (h : bootShown a) : s.enterStart.reg a = s.reg a :=
  State.reg_of_sparing (s.enterStart_outside (by simp +decide [Parts.sparing, Parts.all, bootShown])) h

theorem State.reg_verifyAll_bootShown (s : State) {a : Nat} (h : bootShown a) : s.verifyAll.reg a = s.reg a :=
  State.reg_of_sparing (s.verifyAll_outside (by
    simp +decide [Parts.sparing, Parts.all, Parts.emits, bootShown, fpUtil_ne])) h

theorem State.bootShownLast_shows (s : State) (id us : Nat) :
    (s.bootShownLast id us).bootPhase = 7 ∧ (s.bootShownLast id us).reg Reg.BOOT_IMG = BitVec.ofNat 32 id := by
  constructor
  · exact (State.bootPhase_congr (State.enterStart_shows _ (.inr (.inl rfl)))).trans (State.bootPhase_setPhase _ (by decide))
  · exact (State.enterStart_shows _ (.inr (.inr rfl))).trans ((State.reg_setPhase _ _ (by decide)).trans
      ((State.reg_setReg_other _ (by decide) _).trans (State.reg_setReg_self _ _ _)))

/-- Every part may change but SMON. -/
noncomputable def Parts.notSmon : Parts := { Parts.all with smon := false }

theorem State.running_judge (s : State) (n : Nat) : (s.judge n).smon = s.smon :=
  (State.sameBut_of_outside (p := Parts.notSmon) (s.judge_outside n (by simp [Parts.notSmon, Parts.all, Parts.emits]))).smon rfl

theorem State.smon_safeRequest (s : State) : s.safeRequest.smon = s.smon :=
  (State.sameBut_of_outside (p := Parts.notSmon) (s.safeRequest_outside (by simp [Parts.notSmon, Parts.all, Parts.emits]))).smon rfl

/-- The entry of SAFE as SMON keeps it, SAFE_N low. -/
noncomputable def State.safeNoted (s : State) : State :=
  ({ s with smon := { s.smon with inSafe := true, safeEntry := s.time } }).driveSafeN true

theorem State.running_safeNoted (s : State) : s.safeNoted.smon.running = s.smon.running := by
  have shown : ∀ t : State, t.showBalls.smon = t.smon := fun t =>
    (State.sameBut_of_outside (p := Parts.registers) (t.showBalls_outside trivial)).smon rfl
  rw [State.safeNoted, State.driveSafeN, shown]

theorem State.enterSafe_eq (s : State) (c rule unit : Nat) :
    s.enterSafe c rule unit =
      if s.smon.inSafe then (if s.mode.phase == .waiting && s.curMode == modeSafe then s.safeRequest else s)
      else (((s.safeNoted).raise Reg.SAF_STAT Fld.SAF_STAT_ENTER_S).count Reg.SAF_CNT word32).safeRequest.emit 0x0500 0
        [c, rule, unit, s.curMode] := rfl

theorem State.running_enterSafe (s : State) (c rule unit : Nat) : (s.enterSafe c rule unit).smon.running = s.smon.running := by
  rw [State.enterSafe_eq]
  split
  · split
    · rw [State.smon_safeRequest]
    · rfl
  · have told := State.sameBut_of_outside (p := Parts.notSmon) (State.emit_outside
      (((s.safeNoted).raise Reg.SAF_STAT Fld.SAF_STAT_ENTER_S).count Reg.SAF_CNT word32).safeRequest 0x0500 0
        [c, rule, unit, s.curMode] (by simp [Parts.notSmon, Parts.all, Parts.emits]))
    have counted : s.safeNoted.SameBut Parts.registers
        (((s.safeNoted).raise Reg.SAF_STAT Fld.SAF_STAT_ENTER_S).count Reg.SAF_CNT word32) :=
      State.sameBut_of_outside (by simp [Parts.registers])
    rw [told.smon rfl, State.smon_safeRequest, counted.smon rfl, State.running_safeNoted]

theorem State.running_raiseCause (s : State) (c rule unit : Nat) : (s.raiseCause c rule unit).smon.running = s.smon.running := by
  have bit : ∀ (t : State) (r i : Nat) (b : Bool), (t.setBit r i b).smon = t.smon := fun _ _ _ _ => rfl
  unfold State.raiseCause
  simp only
  split
  · rw [State.running_enterSafe, bit]
  · split
    · rw [bit]
    · rw [State.running_enterSafe, bit, bit]

theorem State.running_judgeChannelCause (s : State) : s.judgeChannelCause.smon.running = s.smon.running := by
  unfold State.judgeChannelCause
  split
  · split <;> rfl
  · split
    · exact s.running_raiseCause _ _ _
    · rfl

theorem State.running_verifyAll (s : State) : s.verifyAll.smon.running = s.smon.running := by
  unfold State.verifyAll
  split
  · have judged : ((List.range 72).foldl (fun s n => s.judge n) s).outside Parts.notSmon = s.outside Parts.notSmon :=
      State.foldl_outside (fun t n => t.judge_outside n (by simp [Parts.notSmon, Parts.all, Parts.emits])) _ _
    rw [State.running_judgeChannelCause, (State.sameBut_of_outside judged).smon rfl]
  · rfl

theorem State.reg_smonRunning (s : State) (a : Nat) : s.smonRunning.reg a = s.reg a := by
  unfold State.reg
  rfl

theorem State.endBoot_shows (s : State) (t : Time) (valid : Bool) :
    (s.endBoot t valid).bootPhase = 7 ∧ (s.endBoot t valid).smon.running = true ∧
      (s.endBoot t valid).reg Reg.BOOT_IMG = BitVec.ofNat 32 s.bootu.imageId := by
  rw [State.endBoot_eq]
  extract_lets us u v
  obtain ⟨hphase, himg⟩ := u.bootShownLast_shows u.bootu.imageId us
  have shown : ∀ {a : Nat}, bootShown a → v.reg a = (u.bootShownLast u.bootu.imageId us).reg a := fun ha =>
    (State.reg_verifyAll_bootShown _ ha).trans (State.reg_smonRunning _ _)
  refine ⟨?_, ?_, ?_⟩
  · exact (State.bootPhase_congr ((State.emit_reg _ _ _ _ (by decide)).trans (shown (.inr (.inl rfl))))).trans hphase
  · have told := State.sameBut_of_outside (p := Parts.notSmon) (State.emit_outside v 0x0052 0
      [bit v.bootu.slotB, v.bootu.imageId, us, v.fld Reg.CAL_STAT Fld.CAL_STAT_BAD, v.fld Reg.BOOT_STAT Fld.BOOT_STAT_CAUSE]
      (by simp [Parts.notSmon, Parts.all, Parts.emits]))
    exact (congrArg Smon.running (told.smon rfl)).trans (State.running_verifyAll _)
  · rw [State.emit_reg _ _ _ _ (by decide), shown (.inr (.inr rfl)), himg, s.imageId_unitsStarted]

theorem bootDone_ends {s : State} (hr : s.inReset = false) (hph : s.bootPhase = 6) (ht : s.timed = true) :
    bootDone s = s.upstreamTime.2.endBoot s.upstreamTime.1.1 s.upstreamTime.1.2 := by
  simp [bootDone, hr, hph, ht]

theorem State.bootu_upstreamTime (s : State) : s.upstreamTime.2.bootu = s.bootu :=
  (State.sameBut_of_outside (p := { fresh := true }) (s.upstreamTime_outside rfl)).bootu rfl

theorem bootSelfTests_answers (s : State) (march : Nat) (chk : Bool) (dram : DramTests) :
    exec (.bootSelfTests march chk dram) s = .next (bootSelfTests s march chk dram) :=
  State.effect_of_outside (P := Parts.all) (bootSelfTests_outside s march chk dram (by simp [Parts.all, Parts.emits]))

theorem imageValidation_answers (s : State) (slotB : Bool) (found : Word) (readable : Bool) (bytes : List (BitVec 8)) :
    exec (.imageValidation slotB found readable bytes) s = .next (imageValidation s slotB found readable bytes) :=
  State.effect_of_outside (P := Parts.all) (imageValidation_outside s slotB found readable bytes (by simp [Parts.all, Parts.emits]))

theorem regReset_bootStat (f : Factory) : regReset f Reg.BOOT_STAT = 0 := rfl

/-- The queue and the factory values do not bear on the phase. -/
theorem State.effect_phase (s u : State) : ∃ t, s.effect u = .next t ∧ t.bootPhase = u.bootPhase := by
  have kept : ({ u with pending := s.pending, fac := s.fac } : State).reg Reg.BOOT_STAT = u.reg Reg.BOOT_STAT := by
    unfold State.reg Store.get
    rw [regReset_bootStat, regReset_bootStat]
  exact ⟨{ u with pending := s.pending, fac := s.fac }, rfl, State.bootPhase_congr kept⟩

/-- Settles O54: each step by the state it passes to, and by what its last writes show. -/
theorem bootSequence : Obligations.BootSequence := by
  unfold Obligations.BootSequence
  refine ⟨fun s src hr hph h1 h5 hp => ?_, fun s march dram hr hc hph hm => ?_, fun s march chk dram hr hc hph hm => ?_,
    fun s march chk dram hr hc hph hsec hd => ?_, fun s found bytes hr hph hsec hb => ?_,
    fun s found bytes l hr hph hsec hb hfl hl => ?_, fun s graphId graph g hr hph hd hc hg he => ?_,
    fun s graphId graph g e hr hph hd hc hb hg he => ?_, fun s hr hph ht => ?_⟩
  · exact ⟨_, State.effect_of_outside (P := Parts.all) (bootReferenceAcquired_outside s src (by simp [Parts.all])),
      bootReferenceAcquired_shows hr hph h1 h5 hp⟩
  · refine ⟨_, bootSelfTests_answers s march false dram, ?_⟩
    rw [bootSelfTests_passes hr hc hph hm]
    exact State.startSlot_shows _ false
  · refine ⟨_, bootSelfTests_answers s march chk dram, ?_⟩
    rw [bootSelfTests_fails hr hc hph hm]
    refine ⟨State.causeActive_raiseCause _ (by decide) (by decide) _ _, ?_⟩
    exact (State.bootPhase_congr ((State.reg_raiseCause_bootShown _ _ _ _ (.inr (.inl rfl))).trans
      ((State.reg_setFld_other _ (by decide) _ _).trans (State.reg_setFld_other _ (by decide) _ _)))).trans hph
  · exact ⟨_, bootSelfTests_answers s march chk dram, bootSelfTests_dram hr hc hph hsec hd march chk⟩
  · refine ⟨_, imageValidation_answers s false found false bytes, ?_⟩
    rw [imageValidation_unread hr hph hsec hb]
    obtain ⟨hphase, hslot, hfall, -⟩ :=
      State.failSlot_shows ((congrArg BootUnit.slotB (s.bootu_flashSeen found bytes)).trans hb) 1 0 0 none
    exact ⟨hslot, hphase, hfall⟩
  · refine ⟨_, imageValidation_answers s false found true bytes, ?_⟩
    rw [imageValidation_read hr hph hsec hb hfl hl]
    obtain ⟨hmc, hid⟩ := (s.flashSeen found bytes).imageRead_shows bytes l
    exact ⟨hmc, hid, ((State.bootPhase_imageRead _ _ _).trans
      (State.bootPhase_congr (s.reg_flashSeen found bytes (by decide)))).trans hph⟩
  · obtain ⟨t, answer, hphase⟩ := s.effect_phase (semanticValidation s graphId graph)
    rw [semanticValidation_valid hr hph hd hc hg he] at hphase
    exact ⟨t, answer, hphase.trans (State.bootPhase_setPhase _ (by decide))⟩
  · refine ⟨(s.freeNat 16).2.failSlot e.code e.stype e.entry e.unit, ?_, ?_⟩
    · show s.effect (semanticValidation s graphId graph) = _
      rw [semanticValidation_invalid hr hph hd hc hg he]
      have failed := State.failSlot_outside (P := Parts.all) (s.freeNat 16).2 e.code e.stype e.entry e.unit (by
        simp [Parts.all, Parts.emits])
      exact State.effect_of_outside (P := Parts.all) failed
    obtain ⟨hphase, hslot, -, herr⟩ := State.failSlot_shows (s := (s.freeNat 16).2) hb e.code e.stype e.entry e.unit
    exact ⟨hphase, hslot, herr⟩
  · refine ⟨_, State.effect_of_outside (P := Parts.all) (bootDone_outside s (by simp [Parts.all, Parts.emits])), ?_⟩
    rw [bootDone_ends hr hph ht, ← s.bootu_upstreamTime]
    exact State.endBoot_shows _ _ _

end Sys2Proof.Machine
end

section
set_option Elab.async false
/-!
PROOF. STARTER snapshots and SYNC_OUT (O52).
-/
namespace Sys2Proof.Machine

/-! ### Arming (R376, R378) -/

/-- A snapshot taken among the pending ones, which SNP_STAT does not show yet. -/
noncomputable def State.withPending (s : State) (p : SnapPend) : State :=
  { s with snpSeen := s.snpSeen ++ [(p.id, p.origin)], snp := s.snp ++ [p] }

/-- The registers and the pending snapshots. -/
noncomputable def Parts.arming : Parts := { Parts.registers with snp := true, snpSeen := true }

theorem State.showPending_sameBut (s : State) : s.SameBut Parts.registers s.showPending :=
  State.sameBut_of_outside (s.showPending_outside ⟨trivial, trivial, trivial⟩)

theorem State.pending_sameBut (s : State) (p : SnapPend) : s.SameBut Parts.arming (s.withPending p).showPending := by
  refine State.sameBut_of_outside ?_
  rw [State.showPending_outside _ ⟨trivial, trivial, trivial⟩]
  rfl

/-- A STARTER in time that finds a place is armed. -/
theorem State.takeStarter_armed {s : State} {p : SnapPend} (hnew : (p.id, p.origin) ∉ s.snpSeen) (hin : s.time.toNat ≤ p.t.toNat)
    (hroom : s.snp.length < 4) : s.takeStarter p = (s.withPending p).showPending := by
  have new : s.snpSeen.contains (p.id, p.origin) = false := by simpa using hnew
  rw [State.takeStarter, new, if_neg (by decide), State.armSnapshot, if_neg (Nat.not_lt.2 hin), if_neg (Nat.not_le.2 hroom)]
  rfl

theorem State.armSnapshot_armed {s : State} {p : SnapPend} (hin : s.time.toNat ≤ p.t.toNat) (hroom : s.snp.length < 4) :
    s.armSnapshot p = { s with snp := s.snp ++ [p] }.showPending := by
  rw [State.armSnapshot, if_neg (Nat.not_lt.2 hin), if_neg (Nat.not_le.2 hroom)]

/-- STARTER sent to every device. -/
noncomputable def State.starterSent (s : State) (p : SnapPend) : State :=
  (s.put (.packet 0xFFF "STARTER" [(p.t.toNat : Int), p.id, p.origin])).broadcast ptStarter 1

/-- What sending STARTER writes. -/
noncomputable def Parts.sending : Parts := { Parts.registers with fresh := true, out := true, port := true }

theorem State.starterSent_sameBut (s : State) (p : SnapPend) : s.SameBut Parts.sending (s.starterSent p) :=
  State.sameBut_of_outside (by
    rw [State.starterSent, State.broadcast_outside _ _ _ ⟨rfl, trivial, rfl, fun _ => trivial, rfl⟩]
    rfl)

/-- Everything that arming and sending leave alone, the commands in flight among it. -/
noncomputable def Parts.armed : Parts := { Parts.sending with snp := true, snpSeen := true }

theorem State.armed_leaves {s t : State} (h : s.SameBut Parts.armed t) (op tag : Nat) :
    t.takes op tag = s.takes op tag ∧ t.time = s.time :=
  ⟨State.takes_congr (congrArg HostUnit.inflight (h.host rfl)) op tag, h.time rfl⟩

/-- What SNAPSHOT_ARM leaves armed, with the command still in flight. -/
theorem State.snapshotArmed_leaves {s : State} {p : SnapPend} (hin : s.time.toNat ≤ p.t.toNat) (hroom : s.snp.length < 4)
    {all : Bool} (hnew : all = true → (p.id, p.origin) ∉ s.snpSeen) :
    s.SameBut Parts.armed (if all then s.broadcastStarter p else s.armSnapshot p) ∧
      p ∈ (if all then s.broadcastStarter p else s.armSnapshot p).snp := by
  cases all with
  | false =>
    rw [if_neg (by decide), State.armSnapshot_armed hin hroom]
    refine ⟨State.sameBut_of_outside ?_, ?_⟩
    · rw [State.showPending_outside _ ⟨trivial, trivial, trivial⟩]
      rfl
    · rw [(State.showPending_sameBut _).snp rfl]
      exact List.mem_append_right _ List.mem_cons_self
  | true =>
    have sent := s.starterSent_sameBut p
    have armed : (s.starterSent p).takeStarter p = ((s.starterSent p).withPending p).showPending :=
      State.takeStarter_armed (by rw [sent.snpSeen rfl]; exact hnew rfl) (by rw [sent.time rfl]; exact hin)
        (by rw [sent.snp rfl]; exact hroom)
    rw [if_pos rfl, State.broadcastStarter, ← State.starterSent, armed]
    refine ⟨State.sameBut_of_outside ?_, ?_⟩
    · rw [State.showPending_outside _ ⟨trivial, trivial, trivial⟩]
      show (s.starterSent p).outside Parts.armed = s.outside Parts.armed
      rw [State.starterSent, State.broadcast_outside _ _ _ ⟨rfl, trivial, rfl, fun _ => trivial, rfl⟩]
      rfl
    · rw [(State.showPending_sameBut _).snp rfl]
      exact List.mem_append_right _ List.mem_cons_self

theorem State.snp_settle (s : State) (src : CmdSrc) (op tag : Nat) (c : Completion) : (s.settle src op tag c).snp = s.snp :=
  (State.sameBut_of_outside (p := { Parts.all with snp := false }) (s.settle_outside src op tag c (by simp [Parts.all]))).snp rfl

theorem snapshotArm_answers (s : State) (src : CmdSrc) (tag : Nat) (u : Time) (id : Nat) (all : Bool) :
    exec (.snapshotArm src tag u id all) s = .next (snapshotArm s src tag u id all) :=
  State.effect_of_outside (P := Parts.all) (snapshotArm_outside s src tag u id all (by simp [Parts.all, Parts.emits]))

/-- The snapshot that SNAPSHOT_ARM names. -/
noncomputable def State.ownSnap (s : State) (u : Time) (id : Nat) : SnapPend := { t := u, id := id % 65536, origin := s.ownAddr }

theorem snapshotArm_armed {s : State} {u : Time} (hmode : s.curMode ≠ modeBoot) (hlead : s.time.toNat + s.snapLead ≤ u.toNat)
    (hroom : s.snp.length < 4) (tag id : Nat) (all : Bool) :
    snapshotArm s .ring tag u id all =
      (if all then s.broadcastStarter (s.ownSnap u id) else s.armSnapshot (s.ownSnap u id)).settle .ring opSnapshotArm tag
        { status := stOk } := by
  unfold snapshotArm
  rw [if_neg hmode, if_neg (Nat.not_lt.2 hlead), if_neg (Nat.not_le.2 hroom)]
  rfl

theorem snapshotArm_late {s : State} {u : Time} (hmode : s.curMode ≠ modeBoot) (hlead : u.toNat < s.time.toNat + s.snapLead)
    (tag id : Nat) (all : Bool) :
    snapshotArm s .ring tag u id all = s.settle .ring opSnapshotArm tag { status := stInvalid } := by
  unfold snapshotArm
  rw [if_neg hmode, if_pos hlead]

theorem snapshotArm_full {s : State} {u : Time} (hmode : s.curMode ≠ modeBoot) (hlead : s.time.toNat + s.snapLead ≤ u.toNat)
    (hfull : 4 ≤ s.snp.length) (tag id : Nat) (all : Bool) :
    snapshotArm s .ring tag u id all = s.settle .ring opSnapshotArm tag { status := stBusy } := by
  unfold snapshotArm
  rw [if_neg hmode, if_neg (Nat.not_lt.2 hlead), if_pos hfull]

theorem snapshotArm_ok {s : State} {tag id : Nat} {u : Time} {all : Bool} (ht : s.takes opSnapshotArm tag = true)
    (hmode : s.curMode ≠ modeBoot) (hlead : s.time.toNat + s.snapLead ≤ u.toNat) (hroom : s.snp.length < 4)
    (hnew : all = true → (id % 65536, s.ownAddr) ∉ s.snpSeen) :
    (snapshotArm s .ring tag u id all).decided opSnapshotArm tag { status := stOk, time := s.time } ∧
      s.ownSnap u id ∈ (snapshotArm s .ring tag u id all).snp := by
  obtain ⟨same, armed⟩ := State.snapshotArmed_leaves (p := s.ownSnap u id) (Nat.le_trans (Nat.le_add_right _ _) hlead) hroom hnew
  obtain ⟨htakes, htime⟩ := State.armed_leaves same opSnapshotArm tag
  rw [snapshotArm_armed hmode hlead hroom, State.snp_settle]
  refine ⟨?_, armed⟩
  rw [← htime]
  exact State.decided_settle (htakes.trans ht) { status := stOk }

/-! ### Misses (R378) -/

theorem State.missSnapshot_shows (s : State) (p : SnapPend) (cause : Nat) :
    (s.missSnapshot p cause).snp = s.snp ∧ (s.missSnapshot p cause).flag Reg.SNP_STAT Fld.SNP_STAT_MISSED_S = true ∧
      (s.missSnapshot p cause).fld Reg.SNP_MISS_CNT word32 = satInc 32 (s.fld Reg.SNP_MISS_CNT word32) := by
  have kept : ∀ {a : Nat}, a ≠ Reg.DEV_EV_LOST → (s.missSnapshot p cause).reg a =
      ((s.raise Reg.SNP_STAT Fld.SNP_STAT_MISSED_S).count Reg.SNP_MISS_CNT word32).reg a := fun ha => State.emit_reg _ _ _ _ ha
  refine ⟨?_, ?_, ?_⟩
  · exact (State.sameBut_of_outside (p := { Parts.all with snp := false }) (s.missSnapshot_outside p cause (by
      simp [Parts.all, Parts.emits]))).snp rfl
  · exact (State.flag_congr ((kept (by decide)).trans (State.reg_setFld_other _ (by decide) _ _)) _).trans
      (State.flag_raise _ _ ⟨by decide, by decide⟩)
  · exact (State.fld_congr (kept (by decide)) _).trans ((State.fld_count_self _ _ ⟨by decide, by decide⟩).trans
      (congrArg (satInc 32) (State.fld_congr (State.reg_raise_other _ (by decide) _) _)))

/-- What keeps a snapshot in the list of those seen. -/
noncomputable def State.seen (s : State) (p : SnapPend) : State := { s with snpSeen := s.snpSeen ++ [(p.id, p.origin)] }

theorem State.takeStarter_missed {s : State} {p : SnapPend} (hnew : (p.id, p.origin) ∉ s.snpSeen)
    (hmiss : p.t.toNat < s.time.toNat ∨ 4 ≤ s.snp.length) : ∃ cause, s.takeStarter p = (s.seen p).missSnapshot p cause := by
  have new : s.snpSeen.contains (p.id, p.origin) = false := by simpa using hnew
  rw [State.takeStarter, new, if_neg (by decide), ← State.seen, State.armSnapshot]
  by_cases hlate : p.t.toNat < s.time.toNat
  · exact ⟨0, if_pos hlate⟩
  · exact ⟨1, (if_neg hlate).trans (if_pos (hmiss.resolve_left hlate))⟩

theorem State.takeStarter_seen {s : State} {p : SnapPend} (h : (p.id, p.origin) ∈ s.snpSeen) : s.takeStarter p = s :=
  if_pos (by simpa using h)

theorem starter_answers (s : State) (u : Time) (id origin : Nat) :
    exec (.starter u id origin) s = .next (s.takeStarter { t := u, id := id % 65536, origin := origin % 4096 }) :=
  State.effect_of_outside (P := Parts.all) (starter_outside s u id origin (by simp [Parts.all, Parts.emits]))

/-! ### The region (R377, R453) -/

theorem snapshotLatch_latches {s : State} {q : SnapPend} (hnone : s.snapNext = none) (hfirst : s.firstPending = some q)
    (hdue : q.t.toNat ≤ s.time.toNat) :
    snapshotLatch s = ({ s with snp := s.snp.erase q, snapNext := some (q, wordStore (s.snapWords q.t)) } : State).showPending.raise
      Reg.SNP_STAT Fld.SNP_STAT_BUSY := by
  have done : snapDone s = s := by
    unfold snapDone
    rw [hnone]
  unfold snapshotLatch
  simp only [done, ite_self, hfirst]
  exact if_neg (Nat.not_lt.2 hdue)

theorem State.latched_shows (s : State) (l : List SnapPend) (w : SnapPend × Store Nat) :
    (({ s with snp := l, snapNext := some w } : State).showPending.raise Reg.SNP_STAT Fld.SNP_STAT_BUSY).snp = l ∧
      (({ s with snp := l, snapNext := some w } : State).showPending.raise Reg.SNP_STAT Fld.SNP_STAT_BUSY).snapNext = some w := by
  have shown := State.showPending_sameBut { s with snp := l, snapNext := some w }
  exact ⟨shown.snp rfl, shown.snapNext rfl⟩

/-- SNP_STAT as SNAP_DONE leaves it, from the registers before. -/
noncomputable def State.snapShown (s : State) (p : SnapPend) : State :=
  ((((s.setFld Reg.SNP_STAT Fld.SNP_STAT_LAST_ID p.id).raise Reg.SNP_STAT Fld.SNP_STAT_VALID).clear Reg.SNP_STAT
    Fld.SNP_STAT_BUSY).raise Reg.SNP_STAT Fld.SNP_STAT_DONE_S)

theorem State.snapShown_shows (s : State) (p : SnapPend) :
    (s.snapShown p).flag Reg.SNP_STAT Fld.SNP_STAT_VALID = true ∧ (s.snapShown p).flag Reg.SNP_STAT Fld.SNP_STAT_BUSY = false ∧
      (s.snapShown p).fld Reg.SNP_STAT Fld.SNP_STAT_LAST_ID = p.id % 2 ^ fieldWidth Fld.SNP_STAT_LAST_ID := by
  refine ⟨?_, ?_, ?_⟩
  · rw [State.snapShown, State.flag_raise_apart _ ⟨by decide, by decide⟩ (by decide) (by decide),
      State.flag_clear_apart _ ⟨by decide, by decide⟩ (by decide) (by decide), State.flag_raise _ _ ⟨by decide, by decide⟩]
  · rw [State.snapShown, State.flag_raise_apart _ ⟨by decide, by decide⟩ (by decide) (by decide),
      State.flag_clear _ ⟨by decide, by decide⟩]
  · rw [State.snapShown, State.raise, State.fld_setFld_apart _ _ ⟨by decide, by decide⟩ (by decide) (by decide),
      State.clear, State.fld_setFld_apart _ _ ⟨by decide, by decide⟩ (by decide) (by decide),
      State.raise, State.fld_setFld_apart _ _ ⟨by decide, by decide⟩ (by decide) (by decide),
      State.fld_setFld_self _ _ ⟨by decide, by decide⟩]

/-- The region replaced, with its number and its origin shown. -/
noncomputable def State.regionTaken (s : State) (p : SnapPend) (seq : Nat) (region : Store Nat) : State :=
  (({ s with snapRegion := region, snapNext := none } : State).setFld Reg.SNP_ORIGIN Fld.SNP_ORIGIN_SEQ seq).setFld
    Reg.SNP_ORIGIN Fld.SNP_ORIGIN_ORIGIN p.origin

theorem snapDone_shows {s : State} {q : SnapPend} {words : Store Nat} (h : s.snapNext = some (q, words)) :
    ∃ seq region, snapDone s = (((s.regionTaken q seq region).snapShown q).setPair Reg.SNP_T_LO Reg.SNP_T_HI q.t.toNat).emit
      0x0450 0xFF [q.id, q.origin, q.t.toNat] := by
  refine ⟨(s.fld Reg.SNP_ORIGIN Fld.SNP_ORIGIN_SEQ + 1) % 65536, Store.set (fun _ => 0) (Store.set (fun _ => 0)
    (Store.set (fun _ => 0) words 0 ((s.fld Reg.SNP_ORIGIN Fld.SNP_ORIGIN_SEQ + 1) % 65536 * 2 ^ 16 + q.id)) 4
    (q.origin * 2 ^ 16 + s.ownAddr)) 0x4FFC ((s.fld Reg.SNP_ORIGIN Fld.SNP_ORIGIN_SEQ + 1) % 65536 * 2 ^ 16 + q.id), ?_⟩
  unfold snapDone
  rw [h]
  rfl

theorem State.snapTold_shows (s : State) (q : SnapPend) (seq : Nat) (region : Store Nat) (l : List Int) :
    ((((s.regionTaken q seq region).snapShown q).setPair Reg.SNP_T_LO Reg.SNP_T_HI q.t.toNat).emit 0x0450 0xFF l).snapNext = none ∧
      ((((s.regionTaken q seq region).snapShown q).setPair Reg.SNP_T_LO Reg.SNP_T_HI q.t.toNat).emit 0x0450 0xFF l).reg
        Reg.SNP_STAT = ((s.regionTaken q seq region).snapShown q).reg Reg.SNP_STAT := by
  constructor
  · have told := State.sameBut_of_outside (p := { Parts.all with snapNext := false }) (State.emit_outside
      (((s.regionTaken q seq region).snapShown q).setPair Reg.SNP_T_LO Reg.SNP_T_HI q.t.toNat) 0x0450 0xFF l (by
        simp [Parts.all, Parts.emits]))
    have shown : ({ s with snapRegion := region, snapNext := none } : State).SameBut Parts.registers
        (((s.regionTaken q seq region).snapShown q).setPair Reg.SNP_T_LO Reg.SNP_T_HI q.t.toNat) :=
      State.sameBut_of_outside (by simp [State.regionTaken, State.snapShown, Parts.registers])
    exact (told.snapNext rfl).trans (shown.snapNext rfl)
  · exact (State.emit_reg _ _ _ _ (by decide)).trans (State.reg_setPair_other _ ⟨by decide, by decide⟩ _)

/-! ### SYNC_OUT (R463) -/

theorem syncOutSecond_rises {s : State} (hv : s.flag Reg.FAB_STAT Fld.FAB_STAT_TIME_VALID = true)
    (hp : ∀ n ∈ s.pins.pulsed, n < s.time.toNat / 2 ^ 32) (hin : s.time.toNat % 2 ^ 32 < 263) :
    syncOutSecond s true =
      { s.put (.syncPulse true) with pins := { s.pins with syncOut := true, pulsed := some (s.time.toNat / 2 ^ 32) } } := by
  refine if_pos ?_
  simp only [hv, hin, decide_true, Bool.true_and, Bool.and_true, Bool.not_eq_true']
  split
  next n h => exact decide_eq_false (Nat.not_le.2 (hp n (by simp [h])))
  next => rfl

theorem syncOutSecond_falls {s : State} (ho : s.pins.syncOut = true)
    (hp : s.pins.pulsed = some (s.time.toNat / 2 ^ 32) → msTime 100 ≤ s.time.toNat % 2 ^ 32) :
    syncOutSecond s false = { s.put (.syncPulse false) with pins := { s.pins with syncOut := false } } := by
  have falls : (s.pins.syncOut && !(s.pins.pulsed == some (s.time.toNat / 2 ^ 32) && decide (s.time.toNat % 2 ^ 32 < msTime 100))) = true := by
    simpa [ho, imp_iff_not_or] using hp
  exact if_pos falls

theorem syncOutSecond_answers (s : State) (rise : Bool) : exec (.syncOutSecond rise) s = .next (syncOutSecond s rise) :=
  State.effect_of_outside (P := Parts.all) (syncOutSecond_outside s rise ⟨rfl, rfl⟩)

/-- Settles O52: each command by what it arms, misses, latches or shows. -/
theorem snapshotCommands : Obligations.SnapshotCommands := by
  unfold Obligations.SnapshotCommands
  refine ⟨fun s tag u id all ht hmode hlead hroom hnew => ⟨_, snapshotArm_answers s .ring tag u id all, ?_⟩,
    fun s tag u id all ht hmode hlate => ⟨_, snapshotArm_answers s .ring tag u id all, ?_⟩,
    fun s tag u id all ht hmode hlead hfull => ⟨_, snapshotArm_answers s .ring tag u id all, ?_⟩,
    fun s u id origin hin hroom hnew => ⟨_, starter_answers s u id origin, ?_⟩,
    fun s q hnone hfirst hdue => ⟨_, State.effect_of_outside (P := Parts.all) (snapshotLatch_outside s (by
      simp [Parts.all, Parts.emits])), ?_⟩,
    fun s q words h => ⟨_, State.effect_of_outside (P := Parts.all) (snapDone_outside s (by simp [Parts.all, Parts.emits])), ?_⟩,
    fun s hv hp hin => ⟨_, syncOutSecond_answers s true, ?_⟩, fun s ho hp => ⟨_, syncOutSecond_answers s false, ?_⟩,
    fun s u id origin hmiss hnew => ⟨_, starter_answers s u id origin, ?_⟩,
    fun s u id origin hseen => ⟨_, starter_answers s u id origin, State.takeStarter_seen hseen⟩⟩
  · obtain ⟨decided, armed⟩ := snapshotArm_ok ht hmode hlead hroom hnew
    exact ⟨decided, _, armed, rfl, rfl⟩
  · rw [snapshotArm_late hmode hlate]
    exact ⟨State.decided_settle ht { status := stInvalid }, State.snp_settle _ _ _ _ _⟩
  · rw [snapshotArm_full hmode hlead hfull]
    exact ⟨State.decided_settle ht { status := stBusy }, State.snp_settle _ _ _ _ _⟩
  · rw [State.takeStarter_armed hnew hin hroom, (State.showPending_sameBut _).snp rfl]
    exact ⟨_, List.mem_append_right _ List.mem_cons_self, rfl, rfl⟩
  · rw [snapshotLatch_latches hnone hfirst hdue]
    obtain ⟨hsnp, hnext⟩ := s.latched_shows (s.snp.erase q) (q, wordStore (s.snapWords q.t))
    exact ⟨hsnp, ⟨_, hnext⟩, State.flag_raise _ _ ⟨by decide, by decide⟩⟩
  · obtain ⟨seq, region, told⟩ := snapDone_shows h
    obtain ⟨hnext, hstat⟩ := s.snapTold_shows q seq region [q.id, q.origin, q.t.toNat]
    obtain ⟨hvalid, hbusy, hid⟩ := (s.regionTaken q seq region).snapShown_shows q
    rw [told]
    exact ⟨hnext, (State.flag_congr hstat _).trans hvalid, (State.flag_congr hstat _).trans hbusy,
      (State.fld_congr hstat _).trans hid⟩
  · rw [syncOutSecond_rises hv hp hin]
    exact ⟨rfl, rfl, rfl⟩
  · rw [syncOutSecond_falls ho hp]
    exact ⟨rfl, rfl⟩
  · obtain ⟨cause, missed⟩ := State.takeStarter_missed (p := { t := u, id := id % 65536, origin := origin % 4096 }) hnew hmiss
    obtain ⟨hsnp, hflag, hcnt⟩ := (s.seen { t := u, id := id % 65536, origin := origin % 4096 }).missSnapshot_shows
      { t := u, id := id % 65536, origin := origin % 4096 } cause
    rw [missed]
    exact ⟨hsnp, hflag, hcnt⟩

end Sys2Proof.Machine
end

section
set_option Elab.async false
/-!
PROOF. SMON's trips and its causes (O43).
-/
namespace Sys2Proof.Machine

/-! ### SAF_STAT beside the balls it reads back -/

/-- A field of SAF_STAT that neither a readback nor an entry of SAFE writes. -/
def statNote (g : Field) : Prop := g.lo ≤ g.hi ∧ 1 < g.lo ∧ g.hi < 26

theorem State.note_showBalls (s : State) {g : Field} (h : statNote g) :
    s.showBalls.flag Reg.SAF_STAT g = s.flag Reg.SAF_STAT g := by
  obtain ⟨hg, -, hhi⟩ := h
  unfold State.showBalls
  rw [State.flag_setFld_apart _ ⟨by decide, by decide⟩ hg (.inr (Nat.lt_of_lt_of_le hhi (by decide))),
    State.flag_setFld_apart _ ⟨by decide, by decide⟩ hg (.inr (Nat.lt_of_lt_of_le hhi (by decide)))]

theorem State.reg_showBalls (s : State) {a : Nat} (h : a ≠ Reg.SAF_STAT) : s.showBalls.reg a = s.reg a :=
  (State.sameBut_of_outside (p := { regs := is Reg.SAF_STAT }) (s.showBalls_outside rfl)).reg a h

theorem State.smon_showBalls (s : State) : s.showBalls.smon = s.smon :=
  (State.sameBut_of_outside (p := { regs := is Reg.SAF_STAT }) (s.showBalls_outside rfl)).smon rfl

/-- SMON replaced. -/
noncomputable def State.withSmon (s : State) (x : Smon) : State := { s with smon := x }

theorem State.withSmon_sameBut (s : State) (x : Smon) : s.SameBut { smon := true } (s.withSmon x) :=
  State.sameBut_of_outside rfl

theorem State.note_driveSafeN (s : State) (low : Bool) {g : Field} (h : statNote g) :
    (s.driveSafeN low).flag Reg.SAF_STAT g = s.flag Reg.SAF_STAT g :=
  (State.note_showBalls (s.withSmon { s.smon with safeNLow := low }) h).trans
    (State.flag_congr ((s.withSmon_sameBut _).reg _ (fun hn => hn)) _)

theorem State.note_safeNoted (s : State) {g : Field} (h : statNote g) :
    s.safeNoted.flag Reg.SAF_STAT g = s.flag Reg.SAF_STAT g :=
  (State.note_driveSafeN (s.withSmon { s.smon with inSafe := true, safeEntry := s.time }) true h).trans
    (State.flag_congr ((s.withSmon_sameBut _).reg _ (fun hn => hn)) _)

theorem State.note_enterSafe (s : State) (c rule unit : Nat) {g : Field} (h : statNote g) :
    (s.enterSafe c rule unit).flag Reg.SAF_STAT g = s.flag Reg.SAF_STAT g := by
  have request : ∀ t : State, t.safeRequest.reg Reg.SAF_STAT = t.reg Reg.SAF_STAT := fun t =>
    State.reg_of_sparing (kept := is Reg.SAF_STAT) (t.safeRequest_outside (by
      simp +decide [Parts.sparing, Parts.all, Parts.emits, is, fpUtil_ne])) rfl
  rw [State.enterSafe_eq]
  split
  · split
    · exact State.flag_congr (request s) g
    · rfl
  · have told := (State.emit_reg (((s.safeNoted).raise Reg.SAF_STAT Fld.SAF_STAT_ENTER_S).count Reg.SAF_CNT word32).safeRequest 0x0500 0
      [c, rule, unit, s.curMode] (a := Reg.SAF_STAT) (by decide)).trans ((request _).trans (State.reg_setFld_other _ (by decide) _ _))
    rw [State.flag_congr told, State.flag_raise_apart _ ⟨by decide, by decide⟩ h.1 (.inl h.2.1),
      State.note_safeNoted s h]

theorem State.note_setBit (s : State) {a : Nat} (ha : a ≠ Reg.SAF_STAT) (i : Nat) (b : Bool) (g : Field) :
    (s.setBit a i b).flag Reg.SAF_STAT g = s.flag Reg.SAF_STAT g :=
  State.flag_congr (State.reg_setFld_other _ (Ne.symm ha) _ _) g

theorem State.note_raiseCause (s : State) (c rule unit : Nat) {g : Field} (h : statNote g) :
    (s.raiseCause c rule unit).flag Reg.SAF_STAT g = s.flag Reg.SAF_STAT g := by
  unfold State.raiseCause
  simp only
  split
  · rw [State.note_enterSafe _ _ _ _ h, State.note_setBit _ (by decide)]
  · split
    · rw [State.note_setBit _ (by decide)]
    · rw [State.note_enterSafe _ _ _ _ h, State.note_setBit _ (by decide), State.note_setBit _ (by decide)]

/-! ### What a cause leaves -/

/-- The monitors and the alarm outputs as SMON shows them, which no cause of SAFE writes. -/
def safShown (r : Nat) : Prop := r = Reg.SAF_SUP ∨ (0x3100 ≤ r ∧ r < 0x3180)

theorem fpUtil_not_safShown (n : Nat) : ¬safShown (Reg.FP_UTIL n) := by
  rintro (h | ⟨-, h⟩)
  · exact fpUtil_ne (by decide) n h
  · exact absurd (Nat.le_trans (by decide) (unitReg_ge n).2.1) (Nat.not_le.2 h)

theorem State.reg_raiseCause_safShown (s : State) (c rule unit : Nat) {a : Nat} (h : safShown a) :
    (s.raiseCause c rule unit).reg a = s.reg a :=
  State.reg_of_sparing (s.raiseCause_outside c rule unit (by
    refine ⟨⟨rfl, rfl, rfl, ?_⟩, rfl, ?_, rfl, fpUtil_not_safShown, rfl, ?_, rfl, ?_, rfl, ?_, rfl, ?_, rfl, ?_, ?_, ?_⟩ <;>
      simp +decide [Parts.sparing, safShown])) h

theorem almStat_safShown {a : Nat} (h : a < 4) : safShown (Reg.SAF_ALM_STAT a) := by
  have within : ∀ a < 4, 0x3100 ≤ Reg.SAF_ALM_STAT a ∧ Reg.SAF_ALM_STAT a < 0x3180 := by decide
  exact .inr (within a h)

/-! ### Supply and reference monitors (R431) -/

theorem State.regBit_congr {s t : State} {a : Nat} (h : t.reg a = s.reg a) (i : Nat) : t.regBit a i = s.regBit a i := by
  unfold State.regBit
  rw [h]

theorem State.regBit_setBit_to (s : State) (a : Nat) {i : Nat} (h : i < 32) (b : Bool) : (s.setBit a i b).regBit a i = b := by
  cases b with
  | true => exact s.regBit_setBit a h
  | false =>
    rw [State.regBit_eq_flag]
    exact State.flag_clear _ ⟨Nat.le_refl i, h⟩

theorem State.regBit_setSup (s : State) {i : Nat} (h : i < 10) (out : Bool) : (s.setSup i out).regBit Reg.SAF_SUP i = out := by
  unfold State.setSup
  split
  next stands => exact stands.resolve_left (Nat.not_le.2 h)
  next =>
    have shown : ∀ x : Smon, ((s.setBit Reg.SAF_SUP i out).withSmon x).regBit Reg.SAF_SUP i = out := fun x =>
      (State.regBit_congr ((State.withSmon_sameBut _ x).reg _ (fun hn => hn)) i).trans
        (s.regBit_setBit_to _ (Nat.lt_of_lt_of_le h (by decide)) out)
    exact shown _

theorem State.reg_referenceOut (s : State) (a : Nat) : s.referenceOut.reg a = s.reg a :=
  (State.sameBut_of_outside (p := { bank := true }) (s.referenceOut_outside rfl)).reg a (fun hn => hn)

theorem supplyFault_trips {s : State} {rail : Nat} (hrail : rail < 9) (hr : s.inReset = false) (he : s.tooEarly rail = false) (mv : Nat) :
    supplyFault s rail mv =
      (((s.setSup rail true).raise Reg.SAF_STAT Fld.SAF_STAT_SUPPLY_S).emit 0x0505 0 [rail, mv]).raiseCause 2 431 rail := by
  have hn : ¬9 ≤ rail := Nat.not_le.2 hrail
  simp [supplyFault, hr, he, hn]

theorem supplyFault_shows {s : State} {rail : Nat} (hrail : rail < 9) (hr : s.inReset = false) (he : s.tooEarly rail = false) (mv : Nat) :
    (supplyFault s rail mv).regBit Reg.SAF_SUP rail = true ∧ (supplyFault s rail mv).causeActive 2 = true ∧
      (supplyFault s rail mv).flag Reg.SAF_STAT Fld.SAF_STAT_SUPPLY_S = true := by
  rw [supplyFault_trips hrail hr he]
  refine ⟨?_, State.causeActive_raiseCause _ (by decide) (by decide) _ _, ?_⟩
  · rw [State.regBit_congr ((State.reg_raiseCause_safShown _ _ _ _ (.inl rfl)).trans ((State.emit_reg _ _ _ _ (by decide)).trans
      (State.reg_raise_other _ (by decide) _)))]
    exact s.regBit_setSup (Nat.lt_of_lt_of_le hrail (by decide)) true
  · rw [State.note_raiseCause _ _ _ _ ⟨by decide, by decide, by decide⟩, State.flag_congr (State.emit_reg _ _ _ _ (by decide))]
    exact State.flag_raise _ _ ⟨by decide, by decide⟩

theorem referenceMonitorTrip_trips {s : State} (hr : s.inReset = false) (he : s.tooEarly 9 = false) (mv : Nat) :
    referenceMonitorTrip s mv =
      (((s.setSup 9 true).referenceOut.raise Reg.SAF_STAT Fld.SAF_STAT_SUPPLY_S).emit 0x0505 0 [9, mv]).raiseCause 3 431 9 := by
  simp [referenceMonitorTrip, hr, he]

theorem referenceMonitorTrip_shows {s : State} (hr : s.inReset = false) (he : s.tooEarly 9 = false) (mv : Nat) :
    (referenceMonitorTrip s mv).regBit Reg.SAF_SUP 9 = true ∧ (referenceMonitorTrip s mv).causeActive 3 = true := by
  rw [referenceMonitorTrip_trips hr he]
  refine ⟨?_, State.causeActive_raiseCause _ (by decide) (by decide) _ _⟩
  rw [State.regBit_congr ((State.reg_raiseCause_safShown _ _ _ _ (.inl rfl)).trans ((State.emit_reg _ _ _ _ (by decide)).trans
    ((State.reg_raise_other _ (by decide) _).trans (State.reg_referenceOut _ _))))]
  exact s.regBit_setSup (by decide) true

theorem safSupChange_shows (s : State) {i : Nat} (h : i < 10) (out : Bool) : (safSupChange s i out).regBit Reg.SAF_SUP i = out := by
  unfold safSupChange
  simp only
  split
  · exact (State.regBit_congr (State.reg_referenceOut _ _) i).trans (s.regBit_setSup h out)
  · exact s.regBit_setSup h out

/-! ### The end of a cause (R428) -/

theorem State.causeEnded_lt {s : State} {c : Nat} (h : s.causeEnded c = true) : c < 32 := by
  unfold State.causeEnded at h
  split at h <;> [decide; decide; decide; decide; decide; decide; exact absurd h (by decide)]

theorem State.causeActive_dropCause (s : State) {c : Nat} (h : c < 32) : (s.dropCause c).causeActive c = false :=
  s.regBit_setBit_to Reg.SAF_CAUSE h false

theorem causeClearTimer_drops {s : State} {c : Nat} (ha : s.causeActive c = true) (he : s.causeEnded c = true) :
    (causeClearTimer s c).causeActive c = false := by
  have hlt := State.causeEnded_lt he
  have acts : ¬(!s.causeActive c || !s.causeEnded c) = true := by simp [ha, he]
  unfold causeClearTimer
  rw [if_neg acts]
  split
  next h11 =>
    subst h11
    have shown : ∀ x : Smon, ((s.dropCause 11).withSmon x).showBalls.causeActive 11 = false := fun x =>
      (State.causeActive_congr ((State.reg_showBalls _ (by decide)).trans ((State.withSmon_sameBut _ x).reg _ (fun hn => hn))) 11).trans
        (s.causeActive_dropCause (by decide))
    exact shown _
  next => exact s.causeActive_dropCause hlt

/-! ### Readback and lockstep (R430) -/

theorem almStat_apart (a : Nat) : Reg.SAF_ALM_STAT a ≠ Reg.SAF_STAT ∧ Reg.SAF_ALM_STAT a ≠ Reg.DEV_EV_LOST :=
  ⟨series_ne (by decide) a, series_ne (by decide) a⟩

/-- LEVEL of an output as `setAlarm` writes it. -/
theorem State.level_setAlarm (s : State) (a : Nat) (level : Bool) (reason what : Nat) :
    (s.setAlarm a level reason what).flag (Reg.SAF_ALM_STAT a) Fld.SAF_ALM_STAT_LEVEL = level := by
  have apart := almStat_apart a
  have shown : ((s.setFld (Reg.SAF_ALM_STAT a) Fld.SAF_ALM_STAT_LEVEL (bit level)).setFld (Reg.SAF_ALM_STAT a)
      Fld.SAF_ALM_STAT_REASON reason).flag (Reg.SAF_ALM_STAT a) Fld.SAF_ALM_STAT_LEVEL = level := by
    rw [State.flag_setFld_apart _ ⟨by decide, by decide⟩ (by decide) (by decide), State.flag_setFld_bit _ _ ⟨by decide, by decide⟩]
  unfold State.setAlarm
  simp only
  split
  · exact shown
  · rw [State.flag_congr ((State.reg_showBalls _ apart.1).trans (State.emit_reg _ _ _ _ apart.2)), State.count,
      State.flag_setFld_apart _ ⟨by decide, by decide⟩ (by decide) (by decide), shown]

/-- What `setAlarm` of one output writes: its own status, the readback, the record. -/
noncomputable def Parts.alarmOf (a : Nat) : Parts :=
  { regs := fun r => r = Reg.SAF_ALM_STAT a ∨ r = Reg.SAF_STAT ∨ r = Reg.DEV_EV_LOST, recs := true, classLost := true, host := true }

theorem Parts.alarmOf_emits (a : Nat) : (Parts.alarmOf a).emits := ⟨rfl, rfl, rfl, .inr (.inr rfl)⟩

theorem Parts.alarmOf_own (a : Nat) : (Parts.alarmOf a).regs (Reg.SAF_ALM_STAT a) := .inl rfl

theorem Parts.alarmOf_stat (a : Nat) : (Parts.alarmOf a).regs Reg.SAF_STAT := .inr (.inl rfl)

theorem State.setAlarm_sameBut (s : State) (a : Nat) (level : Bool) (reason what : Nat) :
    s.SameBut (Parts.alarmOf a) (s.setAlarm a level reason what) := by
  refine State.sameBut_of_outside ?_
  have shown : ((s.setFld (Reg.SAF_ALM_STAT a) Fld.SAF_ALM_STAT_LEVEL (bit level)).setFld (Reg.SAF_ALM_STAT a)
      Fld.SAF_ALM_STAT_REASON reason).outside (Parts.alarmOf a) = s.outside (Parts.alarmOf a) := by
    rw [State.setFld_outside _ _ _ _ (Parts.alarmOf_own a), State.setFld_outside _ _ _ _ (Parts.alarmOf_own a)]
  unfold State.setAlarm
  simp only
  split
  · exact shown
  · rw [State.showBalls_outside _ (Parts.alarmOf_stat a), State.emit_outside _ _ _ _ (Parts.alarmOf_emits a),
      State.count_outside _ _ _ (Parts.alarmOf_own a), shown]

theorem almStat_ne {a b : Nat} (h : a ≠ b) : Reg.SAF_ALM_STAT a ≠ Reg.SAF_ALM_STAT b := series_injective (by decide) h

theorem State.almStat_setAlarm_other (s : State) {a b : Nat} (h : a ≠ b) (level : Bool) (reason what : Nat) :
    (s.setAlarm b level reason what).reg (Reg.SAF_ALM_STAT a) = s.reg (Reg.SAF_ALM_STAT a) :=
  (s.setAlarm_sameBut b level reason what).reg _ (fun hn =>
    hn.elim (almStat_ne h) (fun hn => hn.elim (almStat_apart a).1 (almStat_apart a).2))

theorem State.note_setAlarm (s : State) (a : Nat) (level : Bool) (reason what : Nat) {g : Field} (h : statNote g) :
    (s.setAlarm a level reason what).flag Reg.SAF_STAT g = s.flag Reg.SAF_STAT g := by
  have apart := (almStat_apart a).1
  have shown : ((s.setFld (Reg.SAF_ALM_STAT a) Fld.SAF_ALM_STAT_LEVEL (bit level)).setFld (Reg.SAF_ALM_STAT a)
      Fld.SAF_ALM_STAT_REASON reason).reg Reg.SAF_STAT = s.reg Reg.SAF_STAT :=
    (State.reg_setFld_other _ apart.symm _ _).trans (State.reg_setFld_other _ apart.symm _ _)
  unfold State.setAlarm
  simp only
  split
  · exact State.flag_congr shown g
  · rw [State.note_showBalls _ h]
    exact State.flag_congr ((State.emit_reg _ _ _ _ (by decide)).trans ((State.reg_setFld_other _ apart.symm _ _).trans shown)) g

/-- One step over the alarm outputs leaves each output but its own as it was. -/
theorem foldl_reaches {β : Type} {R : State → State → Prop} (hrefl : ∀ s, R s s) (htrans : ∀ {s t u}, R s t → R t u → R s u)
    {f : State → β → State} {a : β} {l : List β} (hf : ∀ s b, b ≠ a → R s (f s b)) (ha : a ∈ l) (hl : l.Nodup) (s : State) :
    ∃ u, R s u ∧ R (f u a) (l.foldl f s) := by
  induction l generalizing s with
  | nil => exact absurd ha List.not_mem_nil
  | cons b l ih =>
    obtain ⟨hb, hl⟩ := List.nodup_cons.1 hl
    by_cases hab : b = a
    · subst hab
      have rest : ∀ (m : List β) (t : State), b ∉ m → R t (m.foldl f t) := fun m => by
        induction m with
        | nil => exact fun t _ => hrefl t
        | cons c m ih' =>
          exact fun t hm => htrans (hf t c (List.ne_of_not_mem_cons hm).symm) (ih' _ (List.not_mem_of_not_mem_cons hm))
      exact ⟨s, hrefl s, rest l _ hb⟩
    · obtain ⟨u, hu, hend⟩ := ih ((List.mem_cons.1 ha).resolve_left (Ne.symm hab)) hl (f s b)
      exact ⟨u, htrans (hf s b hab) hu, hend⟩

theorem State.level_foldAlarm {f : State → Nat → State} {a : Nat} (ha : a < 4)
    (hother : ∀ t b, b ≠ a → (f t b).reg (Reg.SAF_ALM_STAT a) = t.reg (Reg.SAF_ALM_STAT a))
    (hself : ∀ t, (f t a).flag (Reg.SAF_ALM_STAT a) Fld.SAF_ALM_STAT_LEVEL = true) (s : State) :
    ((List.range 4).foldl f s).flag (Reg.SAF_ALM_STAT a) Fld.SAF_ALM_STAT_LEVEL = true := by
  obtain ⟨u, -, last⟩ := foldl_reaches (R := fun t u : State => u.reg (Reg.SAF_ALM_STAT a) = t.reg (Reg.SAF_ALM_STAT a))
    (fun _ => rfl) (fun h1 h2 => h2.trans h1) hother (List.mem_range.2 ha) List.nodup_range s
  exact (State.flag_congr last _).trans (hself u)

theorem State.level_assertAll (s : State) {a : Nat} (ha : a < 4) :
    s.assertAll.flag (Reg.SAF_ALM_STAT a) Fld.SAF_ALM_STAT_LEVEL = true :=
  State.level_foldAlarm ha (fun t _ hb => t.almStat_setAlarm_other (Ne.symm hb) true 3 0xFF) (fun t => t.level_setAlarm _ true 3 0xFF) s

theorem State.smon_assertAll (s : State) : s.assertAll.smon = s.smon :=
  (State.sameBut_of_outside (p := Parts.notSmon) (s.assertAll_outside (by simp [Parts.notSmon, Parts.all, Parts.emits]))).smon rfl

theorem State.safeNLow_driveSafeN (s : State) (low : Bool) : (s.driveSafeN low).smon.safeNLow = low :=
  congrArg Smon.safeNLow (State.smon_showBalls (s.withSmon { s.smon with safeNLow := low }))

theorem State.smon_safeNoted (s : State) :
    s.safeNoted.smon = { s.smon with inSafe := true, safeEntry := s.time, safeNLow := true } :=
  State.smon_showBalls ((s.withSmon { s.smon with inSafe := true, safeEntry := s.time }).withSmon _)

/-- An entry of SAFE as SMON keeps it: SAFE_N is driven low, unless the device is in SAFE already. -/
theorem State.smon_enterSafe (s : State) (c rule unit : Nat) :
    (s.enterSafe c rule unit).smon =
      if s.smon.inSafe then s.smon else { s.smon with inSafe := true, safeEntry := s.time, safeNLow := true } := by
  rw [State.enterSafe_eq]
  split
  · split
    · exact s.smon_safeRequest
    · rfl
  · have told := State.sameBut_of_outside (p := Parts.notSmon) (State.emit_outside
      (((s.safeNoted).raise Reg.SAF_STAT Fld.SAF_STAT_ENTER_S).count Reg.SAF_CNT word32).safeRequest 0x0500 0
        [c, rule, unit, s.curMode] (by simp [Parts.notSmon, Parts.all, Parts.emits]))
    have counted : s.safeNoted.SameBut Parts.registers
        (((s.safeNoted).raise Reg.SAF_STAT Fld.SAF_STAT_ENTER_S).count Reg.SAF_CNT word32) :=
      State.sameBut_of_outside (by simp [Parts.registers])
    rw [told.smon rfl, State.smon_safeRequest, counted.smon rfl, State.smon_safeNoted]

/-- A cause leaves SMON's other state, and SAFE_N low where it was. -/
theorem State.smon_raiseCause (s : State) (c rule unit : Nat) :
    (s.raiseCause c rule unit).smon = s.smon ∨
      (s.raiseCause c rule unit).smon = { s.smon with inSafe := true, safeEntry := s.time, safeNLow := true } := by
  have bits : ∀ (t : State) (r i : Nat) (b : Bool), (t.setBit r i b).smon = t.smon ∧ (t.setBit r i b).time = t.time :=
    fun _ _ _ _ => ⟨rfl, rfl⟩
  unfold State.raiseCause
  simp only
  split
  · rw [State.smon_enterSafe, (bits _ _ _ _).1, (bits _ _ _ _).2]
    split
    · exact .inl rfl
    · exact .inr rfl
  · split
    · exact .inl (bits _ _ _ _).1
    · rw [State.smon_enterSafe, (bits _ _ _ _).1, (bits _ _ _ _).2, (bits _ _ _ _).1, (bits _ _ _ _).2]
      split
      · exact .inl rfl
      · exact .inr rfl

theorem smonLockstepMismatch_shows (s : State) :
    (smonLockstepMismatch s).smon.safeNLow = true ∧ (smonLockstepMismatch s).causeActive 12 = true ∧
      ∀ a, a < 4 → (smonLockstepMismatch s).flag (Reg.SAF_ALM_STAT a) Fld.SAF_ALM_STAT_LEVEL = true := by
  refine ⟨?_, State.causeActive_raiseCause _ (by decide) (by decide) _ _, fun a ha => ?_⟩
  · obtain h | h := (s.driveSafeN true).assertAll.smon_raiseCause 12 430 0
    · rw [smonLockstepMismatch, h, State.smon_assertAll, State.safeNLow_driveSafeN]
    · rw [smonLockstepMismatch, h]
  · exact (State.flag_congr (State.reg_raiseCause_safShown _ _ _ _ (almStat_safShown ha)) _).trans
      ((s.driveSafeN true).level_assertAll ha)

/-- A ball's mismatch noted and reported. -/
noncomputable def State.ballFault (s : State) (ball : Nat) (level : Bool) : State :=
  ((s.withSmon { s.smon with badBall := some (ball, level) }).showBalls.raise Reg.SAF_STAT Fld.SAF_STAT_OUTPUT_S).emit 0x0506 0
    [ball, bit (s.ballDriven ball), bit level]

/-- Every output but one asserted. -/
noncomputable def State.assertOthers (s : State) (ball : Nat) : State :=
  (List.range 4).foldl (fun (t : State) b => if b = ball then t else t.setAlarm b true 3 0xFF) s

theorem outputFault_asserts {s : State} {ball : Nat} {level : Bool} (hb : ball < 5) (hl : level ≠ s.ballDriven ball) :
    outputFault s ball level = ((s.ballFault ball level).raiseCause 11 430 ball).assertOthers ball := by
  have acts : ¬(5 ≤ ball ∨ level = s.ballDriven ball) := fun h => h.elim (Nat.not_le.2 hb) hl
  unfold outputFault
  simp only [if_neg acts]
  rfl

theorem State.badBall_ballFault (s : State) (ball : Nat) (level : Bool) : (s.ballFault ball level).smon.badBall = some (ball, level) := by
  have told := State.sameBut_of_outside (p := Parts.notSmon) (State.emit_outside
    ((s.withSmon { s.smon with badBall := some (ball, level) }).showBalls.raise Reg.SAF_STAT Fld.SAF_STAT_OUTPUT_S) 0x0506 0
    [ball, bit (s.ballDriven ball), bit level] (by simp [Parts.notSmon, Parts.all, Parts.emits]))
  have shown := State.smon_showBalls (s.withSmon { s.smon with badBall := some (ball, level) })
  have raised : (s.withSmon { s.smon with badBall := some (ball, level) }).showBalls.SameBut Parts.registers
      ((s.withSmon { s.smon with badBall := some (ball, level) }).showBalls.raise Reg.SAF_STAT Fld.SAF_STAT_OUTPUT_S) :=
    State.sameBut_of_outside (State.raise_outside _ _ _ trivial)
  rw [State.ballFault, told.smon rfl, raised.smon rfl, shown]
  rfl

theorem State.assertOthers_keeps (s : State) (ball : Nat) :
    (s.assertOthers ball).smon = s.smon ∧ (s.assertOthers ball).reg Reg.SAF_CAUSE = s.reg Reg.SAF_CAUSE ∧
      (∀ g, statNote g → (s.assertOthers ball).flag Reg.SAF_STAT g = s.flag Reg.SAF_STAT g) ∧
      ∀ a, a < 4 → a ≠ ball → (s.assertOthers ball).flag (Reg.SAF_ALM_STAT a) Fld.SAF_ALM_STAT_LEVEL = true := by
  have along : ∀ (Q : State → Prop), Q s → (∀ t b, Q t → Q (t.setAlarm b true 3 0xFF)) → Q (s.assertOthers ball) := by
    intro Q h0 hstep
    refine List.foldlRecOn (motive := Q) _ _ h0 (fun t ht b _ => ?_)
    split
    · exact ht
    · exact hstep t b ht
  refine ⟨along (fun t => t.smon = s.smon) rfl (fun t b ht => ((t.setAlarm_sameBut b true 3 0xFF).smon rfl).trans ht),
    along (fun t => t.reg Reg.SAF_CAUSE = s.reg Reg.SAF_CAUSE) rfl (fun t b ht => ?_), fun g hg => ?_, fun a ha hne => ?_⟩
  · refine ((t.setAlarm_sameBut b true 3 0xFF).reg _ (fun hn => ?_)).trans ht
    have cause : Reg.SAF_CAUSE ≠ Reg.SAF_ALM_STAT b := (series_ne (by decide) b).symm
    exact hn.elim cause (fun hn => hn.elim (by decide) (by decide))
  · exact along (fun t => t.flag Reg.SAF_STAT g = s.flag Reg.SAF_STAT g) rfl
      (fun t b ht => (t.note_setAlarm b true 3 0xFF hg).trans ht)
  · refine State.level_foldAlarm ha (fun t b hb => ?_) (fun t => ?_) s
    · split
      · rfl
      · exact t.almStat_setAlarm_other (Ne.symm hb) true 3 0xFF
    · rw [if_neg hne]
      exact t.level_setAlarm _ true 3 0xFF

theorem outputFault_shows {s : State} {ball : Nat} {level : Bool} (hb : ball < 5) (hl : level ≠ s.ballDriven ball) :
    (outputFault s ball level).smon.badBall = some (ball, level) ∧ (outputFault s ball level).causeActive 11 = true ∧
      (outputFault s ball level).flag Reg.SAF_STAT Fld.SAF_STAT_OUTPUT_S = true ∧
      ∀ a, a < 4 → a ≠ ball → (outputFault s ball level).flag (Reg.SAF_ALM_STAT a) Fld.SAF_ALM_STAT_LEVEL = true := by
  obtain ⟨hsmon, hcause, hnote, hlevel⟩ := ((s.ballFault ball level).raiseCause 11 430 ball).assertOthers_keeps ball
  have noted : statNote Fld.SAF_STAT_OUTPUT_S := ⟨by decide, by decide, by decide⟩
  rw [outputFault_asserts hb hl]
  refine ⟨?_, (State.causeActive_congr hcause 11).trans (State.causeActive_raiseCause _ (by decide) (by decide) _ _), ?_, hlevel⟩
  · rw [hsmon]
    obtain h | h := (s.ballFault ball level).smon_raiseCause 11 430 ball
    · rw [h, s.badBall_ballFault]
    · rw [h]
      exact s.badBall_ballFault ball level
  · rw [hnote _ noted, State.note_raiseCause _ _ _ _ noted, State.ballFault, State.flag_congr (State.emit_reg _ _ _ _ (by decide))]
    exact State.flag_raise _ _ ⟨by decide, by decide⟩

/-- Settles O43: each trip by the registers and the causes that it leaves. -/
theorem safetyTrips : Obligations.SafetyTrips := by
  unfold Obligations.SafetyTrips
  refine ⟨fun s rail mv hrail hr he => ⟨_, State.effect_of_outside (P := Parts.all) (supplyFault_outside s rail mv ?_),
      supplyFault_shows hrail hr he mv⟩,
    fun s mv hr he => ⟨_, State.effect_of_outside (P := Parts.all) (referenceMonitorTrip_outside s mv ?_),
      referenceMonitorTrip_shows hr he mv⟩,
    fun s c ha he => ⟨_, State.effect_of_outside (P := Parts.all) (causeClearTimer_outside s c ?_), causeClearTimer_drops ha he⟩,
    fun s => ⟨_, State.effect_of_outside (P := Parts.all) (smonLockstepMismatch_outside s ?_), smonLockstepMismatch_shows s⟩,
    fun s ball level hb hl => ⟨_, State.effect_of_outside (P := Parts.all) (outputFault_outside s ball level ?_),
      outputFault_shows hb hl⟩,
    fun s i out hi => ⟨_, State.effect_of_outside (P := Parts.all) (safSupChange_outside s i out ?_), safSupChange_shows s hi out⟩⟩
  all_goals simp [Parts.all, Parts.emits]

end Sys2Proof.Machine
end

section
set_option Elab.async false
/-!
PROOF. The alarm outputs (O44).
-/
namespace Sys2Proof.Machine

/-! ### What the outputs are evaluated from -/

/-- What evaluating the alarm outputs writes: their status, the readback, their hold times and the records. -/
noncomputable def Parts.alarms : Parts :=
  { regs := fun r => r % 0x20 = 0x10 ∨ r = Reg.SAF_STAT ∨ r = Reg.DEV_EV_LOST, recs := true, classLost := true, host := true,
    alarm := true }

theorem Parts.alarms_emits : Parts.alarms.emits := ⟨rfl, rfl, rfl, .inr (.inr rfl)⟩

theorem Parts.alarms_stat : Parts.alarms.regs Reg.SAF_STAT := .inr (.inl rfl)

theorem Parts.alarms_own (a : Nat) : Parts.alarms.regs (Reg.SAF_ALM_STAT a) := .inl (Nat.add_mul_mod_self_left 0x3110 0x20 a)

theorem State.evaluateAlarm_sameBut (s : State) (a : Nat) : s.SameBut Parts.alarms (s.evaluateAlarm a) :=
  State.sameBut_of_outside (s.evaluateAlarm_outside a ⟨Parts.alarms_emits, rfl, Parts.alarms_own, Parts.alarms_stat⟩)

section
variable {s t : State} (h : s.SameBut Parts.alarms t)
include h

theorem State.reg_alarms {r : Nat} (hr : r % 0x20 ≠ 0x10) (h1 : r ≠ Reg.SAF_STAT) (h2 : r ≠ Reg.DEV_EV_LOST) : t.reg r = s.reg r :=
  h.reg r (fun hn => hn.elim hr (fun hn => hn.elim h1 h2))

theorem State.reg_alarms_series {b : Nat} (hb : b % 0x20 ≠ 0x10) (n : Nat) (h1 : Reg.SAF_STAT < b)
    (h2 : Reg.DEV_EV_LOST < b) : t.reg (b + 0x20 * n) = s.reg (b + 0x20 * n) :=
  State.reg_alarms h (by rwa [Nat.add_mul_mod_self_left]) (series_above h1 _ n) (series_above h2 _ n)

theorem State.reg_alarms_wm (n : Nat) : t.reg (Reg.WM_STAT n) = s.reg (Reg.WM_STAT n) :=
  State.reg_alarms_series h (by decide) n (by decide) (by decide)

theorem State.reg_alarms_config (a : Nat) :
    t.reg (Reg.SAF_ALM_CFG a) = s.reg (Reg.SAF_ALM_CFG a) ∧ t.reg (Reg.SAF_ALM_CH0 a) = s.reg (Reg.SAF_ALM_CH0 a) ∧
      t.reg (Reg.SAF_ALM_CH1 a) = s.reg (Reg.SAF_ALM_CH1 a) ∧ t.reg (Reg.SAF_ALM_HOLD a) = s.reg (Reg.SAF_ALM_HOLD a) := by
  refine ⟨?_, ?_, ?_, ?_⟩ <;> exact State.reg_alarms_series h (by decide) a (by decide) (by decide)

theorem State.inAlarm_alarms (a n : Nat) : t.inAlarm a n = s.inAlarm a n := by
  obtain ⟨hcfg, h0, h1, -⟩ := State.reg_alarms_config h a
  unfold State.inAlarm
  rw [State.regBit_congr h0, State.regBit_congr h1, State.fld_congr hcfg]

theorem State.chanPresent_alarms (n : Nat) : t.chanPresent n = s.chanPresent n := by
  unfold State.chanPresent
  rw [h.fac]

theorem State.trigU_alarms (k : Nat) : t.trigU k = s.trigU k := by
  unfold State.trigU
  rw [h.trig rfl]

theorem State.alarmSource_alarms (a : Nat) : t.alarmSource a = s.alarmSource a := by
  unfold State.alarmSource State.trigActive
  simp only [State.inAlarm_alarms h, State.chanPresent_alarms h, State.trigU_alarms h, (State.reg_alarms_config h a).1,
    State.fld_congr (State.reg_alarms_wm h _)]

theorem State.alarmFault_alarms (a : Nat) : t.alarmFault a = s.alarmFault a := by
  unfold State.alarmFault State.trustU
  simp only [State.inAlarm_alarms h, State.chanPresent_alarms h, State.trigU_alarms h, (State.reg_alarms_config h a).1, h.trust rfl]

theorem State.causeActive_alarms (c : Nat) : t.causeActive c = s.causeActive c :=
  State.causeActive_congr (State.reg_alarms h (by decide) (by decide) (by decide)) c

end

/-! ### The level of an output (R433) -/

/-- Whether an output's source is active, or held on by its hold time. -/
noncomputable def State.alarmSrc (s : State) (a : Nat) : Bool := (s.alarmSource a).isSome || decide (s.time.toNat < (s.alarmU a).until_.toNat)

/-- The level that the evaluation gives an output, in R433's order. -/
noncomputable def State.alarmLevel (s : State) (a : Nat) : Bool :=
  if s.causeActive 12 || s.causeActive 11 && s.smon.badBall.map (·.1) != some a then true
  else if s.alarmOn a = false then false
  else if bitAt (s.fld Reg.SAF_FORCE Fld.SAF_FORCE_ALM) a then true
  else if s.smon.inSafe && s.flag (Reg.SAF_ALM_CFG a) Fld.SAF_ALM_CFG_SAFE_ACT then true
  else if (s.alarmFault a).isSome then
    (s.fld (Reg.SAF_ALM_CFG a) Fld.SAF_ALM_CFG_FAULT_ACT == 0) || s.flag (Reg.SAF_ALM_STAT a) Fld.SAF_ALM_STAT_LEVEL
  else s.alarmSrc a || s.flag (Reg.SAF_ALM_STAT a) Fld.SAF_ALM_STAT_LATCHED

/-- Two states in which an output is evaluated alike. -/
def State.AlarmAlike (a : Nat) (s t : State) : Prop :=
  s.SameBut Parts.alarms t ∧ t.reg (Reg.SAF_ALM_STAT a) = s.reg (Reg.SAF_ALM_STAT a) ∧ t.alarmU a = s.alarmU a

theorem State.AlarmAlike.rfl {a : Nat} {s : State} : s.AlarmAlike a s := ⟨State.SameBut.rfl, Eq.refl _, Eq.refl _⟩

theorem State.AlarmAlike.trans {a : Nat} {s t u : State} (h : s.AlarmAlike a t) (k : t.AlarmAlike a u) : s.AlarmAlike a u :=
  ⟨h.1.trans k.1, k.2.1.trans h.2.1, k.2.2.trans h.2.2⟩

theorem State.alarmLevel_alike {a : Nat} {s t : State} (h : s.AlarmAlike a t) : t.alarmLevel a = s.alarmLevel a := by
  obtain ⟨same, stat, unit⟩ := h
  obtain ⟨hcfg, -⟩ := State.reg_alarms_config same a
  unfold State.alarmLevel State.alarmSrc State.alarmOn
  rw [State.causeActive_alarms same, State.causeActive_alarms same, same.smon rfl, same.time rfl, State.alarmFault_alarms same,
    State.alarmSource_alarms same, unit, State.flag_congr hcfg, State.flag_congr hcfg, State.fld_congr hcfg, State.flag_congr stat,
    State.flag_congr stat, State.fld_congr (State.reg_alarms same (r := Reg.SAF_FORCE) (by decide) (by decide) (by decide))]

/-- What the evaluation of an output makes of its source. -/
noncomputable def State.alarmUntil (s : State) (a : Nat) : Time :=
  if (s.alarmSource a).isSome && !(s.alarmU a).src then
    s.time + BitVec.ofNat 64 (msTime (s.fld (Reg.SAF_ALM_HOLD a) Fld.SAF_ALM_HOLD_HOLD))
  else (s.alarmU a).until_

/-- An output's source noted. -/
noncomputable def State.alarmNoted (s : State) (a : Nat) : State :=
  s.setAlarmU a { src := (s.alarmSource a).isSome, until_ := s.alarmUntil a }

/-- The level and the reason taken, in R433's order. -/
noncomputable def State.alarmTaken (s : State) (a : Nat) (src : Bool) (by_ : Option Nat) : State :=
  if (s.causeActive 11 && s.smon.badBall.map (·.1) != some a) || s.causeActive 12 then s.setAlarm a true 3 0xFF
  else if getField Fld.SAF_ALM_CFG_EN (s.reg (Reg.SAF_ALM_CFG a)) = 0 then s.setAlarm a false 0 0xFF
  else if bitAt (s.fld Reg.SAF_FORCE Fld.SAF_FORCE_ALM) a then s.setAlarm a true 3 0xFF
  else if s.smon.inSafe && getField Fld.SAF_ALM_CFG_SAFE_ACT (s.reg (Reg.SAF_ALM_CFG a)) == 1 then s.setAlarm a true 3 0xFF
  else match s.alarmFault a with
    | some n => if getField Fld.SAF_ALM_CFG_FAULT_ACT (s.reg (Reg.SAF_ALM_CFG a)) = 0 then s.setAlarm a true 2 n else s
    | none =>
      if src || s.flag (Reg.SAF_ALM_STAT a) Fld.SAF_ALM_STAT_LATCHED then s.setAlarm a true 1 (by_.getD 0xFF)
      else s.setAlarm a false 0 0xFF

/-- Whether the evaluation finds an output's source active or held on. -/
noncomputable def State.alarmSrcNow (s : State) (a : Nat) : Bool := (s.alarmSource a).isSome || decide (s.time.toNat < (s.alarmUntil a).toNat)

theorem State.alarmSrcNow_eq (s : State) (a : Nat) : s.alarmSrcNow a = s.alarmSrc a := by
  unfold State.alarmSrcNow State.alarmSrc State.alarmUntil
  cases (s.alarmSource a).isSome <;> rfl

theorem State.evaluateAlarm_eq (s : State) (a : Nat) :
    s.evaluateAlarm a =
      let v := (s.alarmNoted a).alarmTaken a (s.alarmSrcNow a) (s.alarmSource a)
      if s.alarmSrcNow a && getField Fld.SAF_ALM_CFG_LATCH (s.reg (Reg.SAF_ALM_CFG a)) == 1 then
        v.raise (Reg.SAF_ALM_STAT a) Fld.SAF_ALM_STAT_LATCHED
      else v := rfl

theorem State.alarmNoted_sameBut (s : State) (a : Nat) : s.SameBut { alarm := true } (s.alarmNoted a) :=
  State.sameBut_of_outside (State.setAlarmU_outside _ _ _ rfl)

theorem State.alarmNoted_alarms (s : State) (a : Nat) : s.SameBut Parts.alarms (s.alarmNoted a) :=
  State.sameBut_of_outside (State.setAlarmU_outside _ _ _ rfl)

theorem State.level_alarmTaken (s : State) (a : Nat) (src : Bool) (by_ : Option Nat) :
    (s.alarmTaken a src by_).flag (Reg.SAF_ALM_STAT a) Fld.SAF_ALM_STAT_LEVEL =
      if (s.causeActive 11 && s.smon.badBall.map (·.1) != some a) || s.causeActive 12 then true
      else if getField Fld.SAF_ALM_CFG_EN (s.reg (Reg.SAF_ALM_CFG a)) = 0 then false
      else if bitAt (s.fld Reg.SAF_FORCE Fld.SAF_FORCE_ALM) a then true
      else if s.smon.inSafe && getField Fld.SAF_ALM_CFG_SAFE_ACT (s.reg (Reg.SAF_ALM_CFG a)) == 1 then true
      else if (s.alarmFault a).isSome then
        (s.fld (Reg.SAF_ALM_CFG a) Fld.SAF_ALM_CFG_FAULT_ACT == 0) || s.flag (Reg.SAF_ALM_STAT a) Fld.SAF_ALM_STAT_LEVEL
      else src || s.flag (Reg.SAF_ALM_STAT a) Fld.SAF_ALM_STAT_LATCHED := by
  have level := fun l r w => s.level_setAlarm a l r w
  unfold State.alarmTaken
  split
  · exact level _ _ _
  split
  · exact level _ _ _
  split
  · exact level _ _ _
  split
  · exact level _ _ _
  cases s.alarmFault a with
  | some n =>
    by_cases hact : getField Fld.SAF_ALM_CFG_FAULT_ACT (s.reg (Reg.SAF_ALM_CFG a)) = 0
    · have zero : s.fld (Reg.SAF_ALM_CFG a) Fld.SAF_ALM_CFG_FAULT_ACT = 0 := hact
      simp [hact, zero, level]
    · have some_ : s.fld (Reg.SAF_ALM_CFG a) Fld.SAF_ALM_CFG_FAULT_ACT ≠ 0 := hact
      simp [hact, some_]
  | none =>
    cases hs : src || s.flag (Reg.SAF_ALM_STAT a) Fld.SAF_ALM_STAT_LATCHED <;> simp [level]

theorem State.setAlarm_other (s : State) {a b : Nat} (h : a ≠ b) (level : Bool) (reason what : Nat) :
    s.AlarmAlike a (s.setAlarm b level reason what) := by
  refine ⟨State.sameBut_of_outside (s.setAlarm_outside b level reason what
    ⟨Parts.alarms_emits, Parts.alarms_own, Parts.alarms_stat⟩), s.almStat_setAlarm_other h level reason what, ?_⟩
  unfold State.alarmU
  rw [(s.setAlarm_sameBut b level reason what).alarm rfl]

/-- What `alarmTaken` of an output does is to leave it, or to set its level. -/
theorem State.alarmTaken_cases {Q : State → Prop} (s : State) (a : Nat) (src : Bool) (by_ : Option Nat) (h0 : Q s)
    (hset : ∀ level reason what, Q (s.setAlarm a level reason what)) : Q (s.alarmTaken a src by_) := by
  unfold State.alarmTaken
  split
  · exact hset _ _ _
  split
  · exact hset _ _ _
  split
  · exact hset _ _ _
  split
  · exact hset _ _ _
  split
  · split
    · exact hset _ _ _
    · exact h0
  · split <;> exact hset _ _ _

theorem State.alarmNoted_other (s : State) {a b : Nat} (h : a ≠ b) : s.AlarmAlike a (s.alarmNoted b) :=
  ⟨s.alarmNoted_alarms b, (s.alarmNoted_sameBut b).reg _ (fun hn => hn), Store.get_set_other _ _ h _⟩

theorem State.evaluateAlarm_other (s : State) {a b : Nat} (h : a ≠ b) : s.AlarmAlike a (s.evaluateAlarm b) := by
  have taken : s.AlarmAlike a ((s.alarmNoted b).alarmTaken b (s.alarmSrcNow b) (s.alarmSource b)) :=
    (s.alarmNoted_other h).trans (State.alarmTaken_cases _ _ _ _ State.AlarmAlike.rfl (fun _ _ _ => State.setAlarm_other _ h _ _ _))
  rw [State.evaluateAlarm_eq]
  extract_lets v
  split
  · refine taken.trans ⟨State.sameBut_of_outside (State.raise_outside _ _ _ (Parts.alarms_own b)),
      State.reg_raise_other _ (almStat_ne h) _, ?_⟩
    unfold State.alarmU
    rw [(State.sameBut_of_outside (p := Parts.registers) (State.raise_outside v _ _ trivial)).alarm rfl]
  · exact taken

theorem getField_lt (f : Field) (w : Word) : getField f w < 2 ^ fieldWidth f := Nat.mod_lt _ (Nat.two_pow_pos _)

theorem State.alarmOff_iff (s : State) (a : Nat) :
    s.alarmOn a = false ↔ getField Fld.SAF_ALM_CFG_EN (s.reg (Reg.SAF_ALM_CFG a)) = 0 := by
  have one : getField Fld.SAF_ALM_CFG_EN (s.reg (Reg.SAF_ALM_CFG a)) < 2 := getField_lt _ _
  unfold State.alarmOn State.flag State.fld
  rw [beq_eq_false_iff_ne]
  exact ⟨fun h => Nat.lt_one_iff.1 (Nat.lt_of_le_of_ne (Nat.le_of_lt_succ one) h), fun h e => absurd (h.symm.trans e) Nat.zero_ne_one⟩

theorem State.level_evaluateAlarm (s : State) (a : Nat) :
    (s.evaluateAlarm a).flag (Reg.SAF_ALM_STAT a) Fld.SAF_ALM_STAT_LEVEL = s.alarmLevel a := by
  have noted := s.alarmNoted_alarms a
  have stat := (s.alarmNoted_sameBut a).reg (Reg.SAF_ALM_STAT a) (fun hn => hn)
  obtain ⟨hcfg, -⟩ := State.reg_alarms_config noted a
  have taken : ((s.alarmNoted a).alarmTaken a (s.alarmSrcNow a) (s.alarmSource a)).flag (Reg.SAF_ALM_STAT a)
      Fld.SAF_ALM_STAT_LEVEL = s.alarmLevel a := by
    rw [State.level_alarmTaken, State.causeActive_alarms noted, State.causeActive_alarms noted, noted.smon rfl,
      State.alarmFault_alarms noted, hcfg, State.fld_congr hcfg, State.flag_congr stat, State.flag_congr stat,
      State.fld_congr (State.reg_alarms noted (r := Reg.SAF_FORCE) (by decide) (by decide) (by decide)), State.alarmSrcNow_eq,
      State.alarmLevel, Bool.or_comm]
    simp only [State.alarmOff_iff]
    rfl
  rw [State.evaluateAlarm_eq]
  extract_lets v
  split
  · exact (State.flag_raise_apart _ ⟨by decide, by decide⟩ (by decide) (by decide)).trans taken
  · exact taken

theorem alarmEvaluate_runs {s : State} (h : s.smon.running = true) :
    alarmEvaluate s = (List.range 4).foldl (fun (t : State) a => t.evaluateAlarm a) s := if_pos h

theorem alarmEvaluate_level {s : State} (h : s.smon.running = true) {a : Nat} (ha : a < 4) :
    (alarmEvaluate s).flag (Reg.SAF_ALM_STAT a) Fld.SAF_ALM_STAT_LEVEL = s.alarmLevel a := by
  obtain ⟨u, before, after⟩ := foldl_reaches (R := State.AlarmAlike a) (fun _ => State.AlarmAlike.rfl) State.AlarmAlike.trans
    (f := fun (t : State) b => t.evaluateAlarm b) (fun t b hb => t.evaluateAlarm_other (Ne.symm hb)) (List.mem_range.2 ha)
    List.nodup_range s
  rw [alarmEvaluate_runs h, State.flag_congr after.2.1, State.level_evaluateAlarm, State.alarmLevel_alike before]

theorem alarmEvaluate_answers (s : State) : exec .alarmEvaluate s = .next (alarmEvaluate s) :=
  State.effect_of_outside (P := Parts.all) (alarmEvaluate_outside s (by simp [Parts.all, Parts.emits]))

/-! ### Holds and acknowledgments (R433) -/

theorem alarmHoldExpiry_expires {s : State} {a k : Nat} {u : Time} (ha : a < 4) (hrun : s.smon.running = true) (hk : k < 0xFF)
    (hnamed : s.fld (Reg.SAF_ALM_CFG a) Fld.SAF_ALM_CFG_TRIG_A = k ∨ s.fld (Reg.SAF_ALM_CFG a) Fld.SAF_ALM_CFG_TRIG_B = k)
    (hclear : s.hasClear k = false) (hraised : (s.trigU k).raised = true) (hlatest : (s.trigU k).latest = some u)
    (hdue : u.toNat + msTime (s.fld (Reg.SAF_ALM_HOLD a) Fld.SAF_ALM_HOLD_HOLD) ≤ s.time.toNat) :
    alarmHoldExpiry s a k = (s.setTrig k { s.trigU k with expired := (s.trigU k).expired ||| 2 ^ a }).evaluateAlarm a := by
  have named : (k != 0xFF && (s.fld (Reg.SAF_ALM_CFG a) Fld.SAF_ALM_CFG_TRIG_A == k ||
      s.fld (Reg.SAF_ALM_CFG a) Fld.SAF_ALM_CFG_TRIG_B == k)) = true := by
    have apart : k ≠ 0xFF := Nat.ne_of_lt hk
    simpa [apart] using hnamed
  have past : s.longSince (s.trigU k).latest (msTime (s.fld (Reg.SAF_ALM_HOLD a) Fld.SAF_ALM_HOLD_HOLD)) = true := by
    simpa [State.longSince, hlatest] using hdue
  refine if_neg ?_
  rintro (h | h | h | h | h | h)
  · exact absurd ha (Nat.not_lt.2 h)
  · simp [hrun] at h
  · exact absurd named (by simpa [State.fld, imp_iff_not_or] using h)
  · simp [hclear] at h
  · simp [hraised] at h
  · simp [past] at h

theorem State.trigU_setTrig_self (s : State) (k : Nat) (x : TrigState) : (s.setTrig k x).trigU k = x := Store.get_set_self _ _ _ _

theorem alarmHoldExpiry_shows (s : State) (a k : Nat) (hraised : (s.trigU k).raised = true) :
    bitAt (((s.setTrig k { s.trigU k with expired := (s.trigU k).expired ||| 2 ^ a }).evaluateAlarm a).trigU k).expired a = true ∧
      (((s.setTrig k { s.trigU k with expired := (s.trigU k).expired ||| 2 ^ a }).evaluateAlarm a).trigU k).raised = true := by
  rw [State.trigU_alarms (State.evaluateAlarm_sameBut _ a), State.trigU_setTrig_self]
  exact ⟨bitAt_or_two_pow _ _, hraised⟩

theorem State.latched_alarmTaken (s : State) (a : Nat) (src : Bool) (by_ : Option Nat) :
    (s.alarmTaken a src by_).flag (Reg.SAF_ALM_STAT a) Fld.SAF_ALM_STAT_LATCHED =
      s.flag (Reg.SAF_ALM_STAT a) Fld.SAF_ALM_STAT_LATCHED := by
  refine State.alarmTaken_cases (Q := fun t => t.flag (Reg.SAF_ALM_STAT a) Fld.SAF_ALM_STAT_LATCHED =
    s.flag (Reg.SAF_ALM_STAT a) Fld.SAF_ALM_STAT_LATCHED) s a src by_ rfl (fun level reason what => ?_)
  have shown : ((s.setFld (Reg.SAF_ALM_STAT a) Fld.SAF_ALM_STAT_LEVEL (bit level)).setFld (Reg.SAF_ALM_STAT a)
      Fld.SAF_ALM_STAT_REASON reason).flag (Reg.SAF_ALM_STAT a) Fld.SAF_ALM_STAT_LATCHED =
        s.flag (Reg.SAF_ALM_STAT a) Fld.SAF_ALM_STAT_LATCHED := by
    rw [State.flag_setFld_apart _ ⟨by decide, by decide⟩ (by decide) (by decide),
      State.flag_setFld_apart _ ⟨by decide, by decide⟩ (by decide) (by decide)]
  unfold State.setAlarm
  simp only
  split
  · exact shown
  · rw [State.flag_congr ((State.reg_showBalls _ (almStat_apart a).1).trans (State.emit_reg _ _ _ _ (almStat_apart a).2)),
      State.count, State.flag_setFld_apart _ ⟨by decide, by decide⟩ (by decide) (by decide), shown]

theorem State.latched_evaluateAlarm {s : State} {a : Nat} (h : s.alarmSrc a = false) :
    (s.evaluateAlarm a).flag (Reg.SAF_ALM_STAT a) Fld.SAF_ALM_STAT_LATCHED = s.flag (Reg.SAF_ALM_STAT a) Fld.SAF_ALM_STAT_LATCHED := by
  have quiet := (s.alarmSrcNow_eq a).trans h
  rw [State.evaluateAlarm_eq]
  simp only [quiet, Bool.false_and, Bool.false_eq_true, if_false]
  exact (State.latched_alarmTaken _ _ _ _).trans (State.flag_congr ((s.alarmNoted_sameBut a).reg _ (fun hn => hn)) _)

theorem safAlmAck_releases {s : State} {n : Nat} (hn : n < 4) (hsrc : s.alarmSrc n = false) :
    (safAlmAck s n).flag (Reg.SAF_ALM_STAT n) Fld.SAF_ALM_STAT_LATCHED = false := by
  have cleared : s.SameBut Parts.alarms (s.clear (Reg.SAF_ALM_STAT n) Fld.SAF_ALM_STAT_LATCHED) :=
    State.sameBut_of_outside (State.clear_outside _ _ _ (Parts.alarms_own n))
  have unit : (s.clear (Reg.SAF_ALM_STAT n) Fld.SAF_ALM_STAT_LATCHED).alarmU n = s.alarmU n := by
    unfold State.alarmU
    rw [(State.sameBut_of_outside (p := Parts.registers) (State.clear_outside s (Reg.SAF_ALM_STAT n) Fld.SAF_ALM_STAT_LATCHED
      trivial)).alarm rfl]
  have quiet : (s.clear (Reg.SAF_ALM_STAT n) Fld.SAF_ALM_STAT_LATCHED).alarmSrc n = false := by
    rw [State.alarmSrc, State.alarmSource_alarms cleared, cleared.time rfl, unit]
    exact hsrc
  have low := s.flag_clear (a := Reg.SAF_ALM_STAT n) (f := Fld.SAF_ALM_STAT_LATCHED) ⟨by decide, by decide⟩
  unfold safAlmAck
  rw [if_neg (Nat.not_le.2 hn)]
  simp only
  split
  next active => exact absurd active (by simpa [State.alarmSrc] using hsrc)
  next =>
    split
    · exact (State.latched_evaluateAlarm quiet).trans low
    · exact low

/-! ### Configuration (R434, R435) -/

theorem almReg_safShown {n i : Nat} (hn : n < 4) (hi : i < 4) : safShown (almReg n i) := by
  have within : ∀ n < 4, ∀ i < 4, 0x3100 ≤ almReg n i ∧ almReg n i < 0x3180 := by decide
  exact .inr (within n hn i hi)

theorem State.reg_almChanged {s : State} {a : Nat} (h : safShown a) : s.almChanged.reg a = s.reg a :=
  State.reg_of_sparing (s.almChanged_outside (by
    refine ⟨⟨rfl, rfl, rfl, ?_⟩, rfl, ?_, rfl, fpUtil_not_safShown, rfl, ?_, rfl, ?_, rfl, ?_, rfl, ?_, rfl, ?_, rfl, ?_, ?_, ?_, ?_, ?_,
      ?_, ?_⟩ <;> simp +decide [Parts.sparing, safShown])) h

/-- What SMON accepts of a value for an alarm register (R434, R435). -/
def State.almAllowed (s : State) (n i : Nat) (new : Word) : Prop :=
  (i = 0 → trigAllowed s.triggers s.eng.graph (getField Fld.SAF_ALM_CFG_TRIG_A new) = true ∧
    trigAllowed s.triggers s.eng.graph (getField Fld.SAF_ALM_CFG_TRIG_B new) = true) ∧
  (s.inService = true ∨ s.curMode = modeSafe ∧ almSafeOk i (s.reg (almReg n i)) new = true)

/-- The same decision as the model takes it. -/
noncomputable def State.almOk (s : State) (n i : Nat) (new : Word) : Bool :=
  (i != 0 || trigAllowed s.triggers s.eng.graph (getField Fld.SAF_ALM_CFG_TRIG_A new) &&
    trigAllowed s.triggers s.eng.graph (getField Fld.SAF_ALM_CFG_TRIG_B new)) &&
  (s.inService || s.curMode == modeSafe && almSafeOk i (s.reg (almReg n i)) new)

theorem State.almOk_iff (s : State) (n i : Nat) (new : Word) : s.almOk n i new = true ↔ s.almAllowed n i new := by
  simp [State.almOk, State.almAllowed, imp_iff_not_or]

theorem judged_rejectNone (old mask v : Word) : judged old mask 0 v = (old &&& ~~~mask) ||| (v &&& mask) := by
  have all : mask &&& ~~~(0 : Word) = mask := by
    rw [show ~~~(0 : Word) = BitVec.allOnes 32 from rfl, BitVec.and_allOnes]
  rw [judged, all]

theorem safAlmCfgWrite_eq {s : State} {n i : Nat} (hn : n < 4) (hi : i < 4) (v : Word) :
    safAlmCfgWrite s n i v =
      if s.almOk n i (judged (s.reg (almReg n i)) (almMasks.getD i 0) 0 v) then
        (s.setReg (almReg n i) (judged (s.reg (almReg n i)) (almMasks.getD i 0) 0 v)).almChanged
      else s.raise Reg.SAF_STAT Fld.SAF_STAT_CFG_REJ := by
  rw [judged_rejectNone]
  exact if_neg (fun h => h.elim (Nat.not_le.2 hn) (Nat.not_le.2 hi))

theorem safAlmCfgWrite_taken {s : State} {n i : Nat} {v : Word} (hn : n < 4) (hi : i < 4)
    (h : s.almAllowed n i (judged (s.reg (almReg n i)) (almMasks.getD i 0) 0 v)) :
    (safAlmCfgWrite s n i v).reg (almReg n i) = judged (s.reg (almReg n i)) (almMasks.getD i 0) 0 v := by
  rw [safAlmCfgWrite_eq hn hi, if_pos ((s.almOk_iff n i _).2 h), State.reg_almChanged (almReg_safShown hn hi)]
  exact State.reg_setReg_self _ _ _

theorem safAlmCfgWrite_rejected {s : State} {n i : Nat} {v : Word} (hn : n < 4) (hi : i < 4)
    (h : ¬s.almAllowed n i (judged (s.reg (almReg n i)) (almMasks.getD i 0) 0 v)) :
    (safAlmCfgWrite s n i v).reg (almReg n i) = s.reg (almReg n i) ∧
      (safAlmCfgWrite s n i v).flag Reg.SAF_STAT Fld.SAF_STAT_CFG_REJ = true := by
  have apart : ∀ n < 4, ∀ i < 4, almReg n i ≠ Reg.SAF_STAT := by decide
  rw [safAlmCfgWrite_eq hn hi, if_neg (fun hk => h ((s.almOk_iff n i _).1 hk))]
  exact ⟨State.reg_raise_other _ (apart n hn i hi) _, State.flag_raise _ _ ⟨by decide, by decide⟩⟩

theorem safAlmCfgWrite_answers {s : State} (hb : s.bootFailed = false) (n i : Nat) (v : Word) :
    exec (.safAlmCfgWrite n i v) s = .next (safAlmCfgWrite s n i v) :=
  State.answer_open (P := Parts.all) hb (safAlmCfgWrite_outside s n i v (by simp [Parts.all, Parts.emits]))

/-! ### Forced tests (R446) -/

/-- A change to SAFE that waits for its instant. -/
noncomputable def State.safeWaits (s : State) (m : ModeUnit) : State :=
  (({ s with mode := m } : State).raise Reg.MODE_STAT Fld.MODE_STAT_BUSY).setFld Reg.MODE_STAT Fld.MODE_STAT_TARGET modeSafe

theorem State.safeWaits_shows (s : State) (m : ModeUnit) :
    (s.safeWaits m).mode = m ∧ (s.safeWaits m).fld Reg.MODE_STAT Fld.MODE_STAT_TARGET = modeSafe := by
  constructor
  · have shown : ({ s with mode := m } : State).SameBut Parts.registers (s.safeWaits m) :=
      State.sameBut_of_outside (by simp [State.safeWaits, Parts.registers])
    exact shown.mode rfl
  · exact (State.fld_setFld_self _ _ ⟨by decide, by decide⟩ _).trans (by decide)

/-- The command that a change to SAFE ends, if one waits. -/
noncomputable def State.modeCmdEnded (s : State) : State :=
  match s.mode.cmd with
  | some (src, tag) => s.settle src opModeSet tag { status := stRefused, detail := 9, result := [(modeSafe : Int)] }
  | none => s

theorem State.curMode_modeCmdEnded (s : State) : s.modeCmdEnded.curMode = s.curMode := by
  unfold State.modeCmdEnded
  split
  · exact State.fld_congr (State.reg_of_sparing (kept := is Reg.MODE_STAT) (State.settle_outside _ _ _ _ _ (by
      simp +decide [Parts.sparing, Parts.all, is, fpUtil_ne])) rfl) _
  · rfl

theorem State.safeRequest_waits {s : State} (h : s.curMode ≠ modeSafe) :
    s.safeRequest.mode.phase = .waiting ∧ s.safeRequest.fld Reg.MODE_STAT Fld.MODE_STAT_TARGET = modeSafe := by
  have cur : (s.modeCmdEnded.curMode != modeSafe) = true := by
    rw [State.curMode_modeCmdEnded]
    simpa using h
  have waits : s.safeRequest = s.modeCmdEnded.safeWaits
      { s.modeCmdEnded.mode with cmd := none, next := none, gate := [], cause := 5, trig := 0, phase := .waiting } := if_pos cur
  obtain ⟨hmode, htarget⟩ := s.modeCmdEnded.safeWaits_shows
    { s.modeCmdEnded.mode with cmd := none, next := none, gate := [], cause := 5, trig := 0, phase := .waiting }
  rw [waits]
  exact ⟨congrArg ModeUnit.phase hmode, htarget⟩

theorem State.curMode_congr {s t : State} (h : t.reg Reg.MODE_STAT = s.reg Reg.MODE_STAT) : t.curMode = s.curMode :=
  State.fld_congr h _

theorem State.reg_safeNoted (s : State) {a : Nat} (h : a ≠ Reg.SAF_STAT) : s.safeNoted.reg a = s.reg a :=
  (State.reg_showBalls ((s.withSmon { s.smon with inSafe := true, safeEntry := s.time }).withSmon
    { s.smon with inSafe := true, safeEntry := s.time, safeNLow := true }) h).trans
    (((State.withSmon_sameBut _ _).reg a (fun hn => hn)).trans ((State.withSmon_sameBut _ _).reg a (fun hn => hn)))

theorem State.enterSafe_waits {s : State} (hin : s.smon.inSafe = false) (hcur : s.curMode ≠ modeSafe) (c rule unit : Nat) :
    (s.enterSafe c rule unit).mode.phase = .waiting ∧ (s.enterSafe c rule unit).fld Reg.MODE_STAT Fld.MODE_STAT_TARGET = modeSafe := by
  have there : (((s.safeNoted).raise Reg.SAF_STAT Fld.SAF_STAT_ENTER_S).count Reg.SAF_CNT word32).curMode ≠ modeSafe := by
    rw [State.count, State.curMode_congr ((State.reg_setFld_other _ (by decide) _ _).trans ((State.reg_raise_other _ (by decide) _).trans
      (s.reg_safeNoted (by decide))))]
    exact hcur
  obtain ⟨hphase, htarget⟩ := State.safeRequest_waits there
  have told := State.sameBut_of_outside (p := { Parts.all with mode := false }) (State.emit_outside
    (((s.safeNoted).raise Reg.SAF_STAT Fld.SAF_STAT_ENTER_S).count Reg.SAF_CNT word32).safeRequest 0x0500 0
      [c, rule, unit, s.curMode] (by simp [Parts.all, Parts.emits]))
  rw [State.enterSafe_eq, if_neg (by simp [hin])]
  exact ⟨(congrArg ModeUnit.phase (told.mode rfl)).trans hphase,
    (State.fld_congr (State.emit_reg _ _ _ _ (by decide)) _).trans htarget⟩

theorem State.reg_enterSafe_seen (s : State) (c rule unit : Nat) :
    (s.enterSafe c rule unit).reg Reg.SAF_CAUSE_S = s.reg Reg.SAF_CAUSE_S :=
  State.reg_of_sparing (kept := is Reg.SAF_CAUSE_S) (s.enterSafe_outside c rule unit (by
    simp +decide [Parts.sparing, Parts.all, Parts.emits, is, fpUtil_ne])) rfl

/-- Cause TEST noted. -/
noncomputable def State.testSeen (s : State) : State := s.setBit Reg.SAF_CAUSE_S 14 true

theorem safForceSafe_enters {s : State} (h : s.inService = true) : safForceSafe s = s.testSeen.enterSafe 14 446 0 := by
  rw [safForceSafe, if_pos h, State.raiseCause, if_pos rfl, State.testSeen]

theorem State.testSeen_keeps (s : State) :
    s.testSeen.smon = s.smon ∧ s.testSeen.curMode = s.curMode ∧ s.testSeen.regBit Reg.SAF_CAUSE_S 14 = true :=
  ⟨(State.sameBut_of_outside (p := Parts.registers) (State.setBit_outside s _ _ _ trivial)).smon rfl,
    State.curMode_congr (State.reg_setFld_other _ (by decide) _ _), s.regBit_setBit _ (by decide)⟩

theorem safForceSafe_shows {s : State} (h : s.inService = true) :
    (safForceSafe s).regBit Reg.SAF_CAUSE_S 14 = true ∧ (safForceSafe s).smon.inSafe = true ∧
      (s.smon.inSafe = false → (safForceSafe s).smon.safeNLow = true ∧ (safForceSafe s).mode.phase = .waiting ∧
        (safForceSafe s).fld Reg.MODE_STAT Fld.MODE_STAT_TARGET = modeSafe) := by
  obtain ⟨hsmon, hcur, hseen⟩ := s.testSeen_keeps
  have elsewhere : s.testSeen.curMode ≠ modeSafe := by
    have service : s.curMode = modeService := by simpa [State.inService] using h
    rw [hcur, service]
    decide
  rw [safForceSafe_enters h, State.smon_enterSafe, hsmon]
  refine ⟨(State.regBit_congr (State.reg_enterSafe_seen _ _ _ _) 14).trans hseen, ?_, fun hin => ?_⟩
  · split
    next hin => exact hin
    next => rfl
  · obtain ⟨hphase, htarget⟩ := State.enterSafe_waits (by rw [hsmon]; exact hin) elsewhere 14 446 0
    rw [if_neg (by simp [hin])]
    exact ⟨rfl, hphase, htarget⟩

theorem State.raise_keeps (s : State) (a : Nat) (f : Field) :
    (s.raise a f).smon = s.smon ∧ (s.raise a f).mode = s.mode := ⟨rfl, rfl⟩

theorem safForceSafe_answers {s : State} (hb : s.bootFailed = false) : exec .safForceSafe s = .next (safForceSafe s) :=
  State.answer_open (P := Parts.all) hb (safForceSafe_outside s (by simp [Parts.all, Parts.emits]))

theorem safForceAlm_answers {s : State} (hb : s.bootFailed = false) (v : Nat) : exec (.safForceAlm v) s = .next (safForceAlm s v) :=
  State.answer_open (P := Parts.all) hb (safForceAlm_outside s v (by simp [Parts.all]))

/-- Settles O44: the evaluation of an output by R433's order, which the others' evaluation leaves; the configuration by what SMON
accepts. -/
theorem alarmCommands : Obligations.AlarmCommands := by
  unfold Obligations.AlarmCommands
  refine ⟨fun s hrun h12 => ⟨_, alarmEvaluate_answers s, fun a ha => ?_⟩,
    fun s a ha hrun => ⟨_, alarmEvaluate_answers s, alarmEvaluate_level hrun ha⟩,
    fun s a ha hrun h11 h12 hen => ⟨_, alarmEvaluate_answers s, ?_⟩,
    fun s a k u ha hrun hk hnamed hclear hraised hlatest hdue => ⟨_, State.effect_of_outside (P := Parts.all)
      (alarmHoldExpiry_outside s a k (by simp [Parts.all, Parts.emits])), ?_⟩,
    fun s n hb hn hsrc huntil => ⟨_, State.answer_open (P := Parts.all) hb
      (safAlmAck_outside s n (by simp [Parts.all, Parts.emits])), ?_⟩,
    fun s n i v hb hn h1 hi hserv => ⟨_, safAlmCfgWrite_answers hb n i v, ?_⟩,
    fun s n i v new hb hn hi hnew htrig hallowed => ⟨_, safAlmCfgWrite_answers hb n i v, ?_⟩,
    fun s n i v new hb hn hi hnew hrefused => ⟨_, safAlmCfgWrite_answers hb n i v, ?_⟩,
    fun s n i v hb hn hi hserv hsafe => ⟨_, safAlmCfgWrite_answers hb n i v, ?_⟩,
    fun s hb hserv => ⟨_, safForceSafe_answers hb, safForceSafe_shows hserv⟩,
    fun s hb hserv => ⟨_, safForceSafe_answers hb, ?_⟩, fun s v hb hserv => ⟨_, safForceAlm_answers hb v, ?_⟩,
    fun s v hb hserv => ⟨_, safForceAlm_answers hb v, ?_⟩⟩
  · rw [alarmEvaluate_level hrun ha, State.alarmLevel, if_pos (by simp [h12])]
  · rw [alarmEvaluate_level hrun ha, State.alarmLevel, if_neg (by simp [h11, h12]), if_pos ((s.alarmOff_iff a).2 hen)]
  · rw [alarmHoldExpiry_expires ha hrun hk hnamed hclear hraised hlatest hdue]
    exact alarmHoldExpiry_shows s a k hraised
  · refine safAlmAck_releases hn ?_
    simpa [State.alarmSrc, hsrc] using huntil
  · exact safAlmCfgWrite_taken hn hi ⟨fun h0 => absurd h1 (by simp [h0]), .inl hserv⟩
  · subst hnew
    exact safAlmCfgWrite_taken hn hi ⟨htrig, hallowed⟩
  · subst hnew
    exact safAlmCfgWrite_rejected hn hi hrefused
  · refine safAlmCfgWrite_rejected hn hi (fun hk => ?_)
    exact hk.2.elim (fun h => absurd h (by simp [hserv])) (fun h => hsafe h.1)
  · obtain ⟨hsmon, hmode⟩ := s.raise_keeps Reg.SAF_STAT Fld.SAF_STAT_CFG_REJ
    rw [safForceSafe, if_neg (by simp [hserv])]
    exact ⟨State.flag_raise _ _ ⟨by decide, by decide⟩, hsmon, hmode⟩
  · rw [safForceAlm, if_pos hserv]
    exact State.fld_setFld_self _ _ ⟨by decide, by decide⟩ _
  · rw [safForceAlm, if_neg (by simp [hserv])]
    exact ⟨State.reg_raise_other _ (by decide) _, State.flag_raise _ _ ⟨by decide, by decide⟩⟩

end Sys2Proof.Machine
end

section
set_option Elab.async false
/-!
PROOF. The command ring (O57).
-/
namespace Sys2Proof.Machine

/-! ### The host interface's registers -/

/-- The registers of the host interface but its event queues'. -/
def hifReg (r : Nat) : Prop := 0x4000 ≤ r ∧ r < 0x6000

/-- The indexed registers of the other units lie above. -/
theorem unitReg_above (n : Nat) :
    0x6000 ≤ Reg.CL_STAT n ∧ 0x6000 ≤ Reg.ECC_REMAP n ∧ 0x6000 ≤ Reg.FP_STAT n ∧ 0x6000 ≤ Reg.FP_UTIL n := by
  refine ⟨?_, ?_, ?_, ?_⟩ <;> exact Nat.le_add_right_of_le (by decide)

theorem State.reg_reach_hif (s : State) (g : Nat) {a : Nat} (h : hifReg a) : (s.reach g).reg a = s.reg a :=
  State.reg_of_sparing (s.reach_outside g (by
    simp +decide [Parts.sparing, Parts.all, Parts.emits, hifReg, unitReg_above])) h

theorem State.reg_leaveDeep_hif (s : State) (ps : Nat) {a : Nat} (h : hifReg a) : (s.leaveDeep ps).reg a = s.reg a :=
  State.reg_of_sparing (s.leaveDeep_outside ps (by
    simp +decide [Parts.sparing, Parts.all, Parts.emits, hifReg, unitReg_above])) h

theorem State.reg_request_head (s : State) (client : Client) (pk : Packet) :
    (s.request client pk).reg Reg.HIF_CMD_HEAD = s.reg Reg.HIF_CMD_HEAD :=
  State.reg_of_sparing (kept := hifReg) (s.request_outside client pk (by
    simp +decide [Parts.sparing, Parts.all, hifReg, unitReg_above])) ⟨by decide, by decide⟩

/-! ### The doorbell (R389) -/

/-- The descriptors that wait, and those that a new TAIL adds, fill the ring. -/
def State.overfills (s : State) (tail : Nat) : Prop :=
  s.cmdSize ≤ tail ∨ s.cmdSize ≤ (s.fld Reg.HIF_CMD_DB Fld.HIF_CMD_DB_TAIL + s.cmdSize - s.fld Reg.HIF_CMD_HEAD Fld.HIF_CMD_HEAD_HEAD) %
      s.cmdSize + (tail + s.cmdSize - s.fld Reg.HIF_CMD_DB Fld.HIF_CMD_DB_TAIL) % s.cmdSize

theorem State.cmdSize_congr {s t : State} (h : t.reg Reg.HIF_CMD_CFG = s.reg Reg.HIF_CMD_CFG) : t.cmdSize = s.cmdSize := by
  unfold State.cmdSize
  rw [State.fld_congr h]

theorem State.overfills_congr {s t : State} (h : ∀ {a}, hifReg a → t.reg a = s.reg a) (tail : Nat) :
    t.overfills tail ↔ s.overfills tail := by
  unfold State.overfills
  rw [State.cmdSize_congr (h ⟨by decide, by decide⟩), State.fld_congr (h (a := Reg.HIF_CMD_DB) ⟨by decide, by decide⟩),
    State.fld_congr (h (a := Reg.HIF_CMD_HEAD) ⟨by decide, by decide⟩)]

theorem cmdDoorbell_rejected {s : State} {tail : Nat} (hh : hasHost s.fac.variant = true) (h : s.overfills tail) :
    cmdDoorbell s tail = (s.reach 9).raise Reg.HIF_CMD_STAT Fld.HIF_CMD_STAT_DB_ERR :=
  (if_neg (by simp [hh])).trans (if_pos ((State.overfills_congr (s.reg_reach_hif 9) tail).2 h))

theorem cmdDoorbell_rejected_shows {s : State} {tail : Nat} (hh : hasHost s.fac.variant = true) (h : s.overfills tail) :
    (cmdDoorbell s tail).flag Reg.HIF_CMD_STAT Fld.HIF_CMD_STAT_DB_ERR = true ∧
      (cmdDoorbell s tail).reg Reg.HIF_CMD_DB = s.reg Reg.HIF_CMD_DB := by
  rw [cmdDoorbell_rejected hh h]
  exact ⟨State.flag_raise _ _ ⟨by decide, by decide⟩,
    (State.reg_raise_other _ (by decide) _).trans (s.reg_reach_hif 9 ⟨by decide, by decide⟩)⟩

/-- TAIL taken; in DEEP a RUN burst starts with it (R321). -/
noncomputable def State.tailTaken (s : State) (tail : Nat) : State := (s.reach 9).setFld Reg.HIF_CMD_DB Fld.HIF_CMD_DB_TAIL tail

theorem cmdDoorbell_taken {s : State} {tail : Nat} (hh : hasHost s.fac.variant = true) (h : ¬s.overfills tail) :
    cmdDoorbell s tail =
      if (s.tailTaken tail).pstate = 2 then ((s.tailTaken tail).leaveDeep 0).count Reg.CLK_WAKE_ACC word32 else s.tailTaken tail :=
  (if_neg (by simp [hh])).trans (if_neg (fun hk => h ((State.overfills_congr (s.reg_reach_hif 9) tail).1 hk)))

theorem cmdDoorbell_taken_shows {s : State} {tail : Nat} (hh : hasHost s.fac.variant = true) (h : ¬s.overfills tail) :
    (cmdDoorbell s tail).fld Reg.HIF_CMD_DB Fld.HIF_CMD_DB_TAIL = tail % 2 ^ fieldWidth Fld.HIF_CMD_DB_TAIL := by
  have taken : (s.tailTaken tail).fld Reg.HIF_CMD_DB Fld.HIF_CMD_DB_TAIL = tail % 2 ^ fieldWidth Fld.HIF_CMD_DB_TAIL :=
    State.fld_setFld_self _ _ ⟨by decide, by decide⟩ _
  rw [cmdDoorbell_taken hh h]
  split
  · rw [State.count, State.fld_congr ((State.reg_setFld_other _ (by decide) _ _).trans
      (State.reg_leaveDeep_hif _ 0 (a := Reg.HIF_CMD_DB) ⟨by decide, by decide⟩)), taken]
  · exact taken

theorem cmdDoorbell_answers {s : State} (hb : s.bootFailed = false) (tail : Nat) :
    exec (.cmdDoorbell tail) s = .next (cmdDoorbell s tail) :=
  State.answer_open (P := Parts.all) hb (cmdDoorbell_outside s tail (by simp [Parts.all, Parts.emits]))

/-! ### The fetch (R392, R393) -/

/-- The command ring may be fetched from: the MC takes descriptors, some wait, and no command before them is to be decided at once. -/
structure State.Fetches (s : State) : Prop where
  up : s.hostUp = true
  mc : s.bootu.mcRunning = true
  on : s.flag Reg.HIF_CMD_CFG Fld.HIF_CMD_CFG_EN = true
  waits : s.cmdWaiting ≠ 0
  place : s.host.inflight.length < 16
  free : ∀ e ∈ s.host.inflight, e.startsAlone = false

/-- HEAD moved past a descriptor. -/
noncomputable def State.headMoved (s : State) : State :=
  (s.clear Reg.HIF_CMD_STAT Fld.HIF_CMD_STAT_WAIT_EQ).setFld Reg.HIF_CMD_HEAD Fld.HIF_CMD_HEAD_HEAD
    ((s.fld Reg.HIF_CMD_HEAD Fld.HIF_CMD_HEAD_HEAD + 1) % s.cmdSize)

/-- A poisoned descriptor noted for AER (R382). -/
noncomputable def State.poisonNoted (s : State) (poisoned : Bool) : State :=
  if poisoned then { s with host := { s.host with pci := { s.host.pci with aer := s.host.pci.aer ||| 2 ^ 12 } } } else s

/-- Whether a RELOAD of this device is in flight. -/
noncomputable def State.reloads (s : State) : Bool := s.host.inflight.any (fun e => e.opcode == 0x0003 && e.target == 0)

/-- The entry of a descriptor's command. -/
noncomputable def State.entryOf (s : State) (d : BitVec 256) : InFlight :=
  { src := .ring, opcode := descOp d, tag := descTag d, target := if descTarget d = s.ownAddr then 0 else descTarget d,
    slots := slotsFor d }

/-- What R392's checks decide of a descriptor at once. -/
noncomputable def State.fetchDecides (s : State) (d : BitVec 256) (poisoned : Bool) : Option Completion :=
  match s.formError d poisoned with
  | some k => some { status := stInvalid, detail := k }
  | none => if (s.entryOf d).target = 0 then s.entryError d else none

/-- A descriptor's command put in flight. -/
noncomputable def State.inFlightFrom (s : State) (d : BitVec 256) (poisoned : Bool) : State :=
  match s.fetchDecides d poisoned with
  | some c => s.setInflight (s.host.inflight ++ [{ s.entryOf d with done := some { c with time := s.time } }])
  | none =>
    let t := s.setInflight (s.host.inflight ++ [s.entryOf d])
    if (s.entryOf d).target = 0 ∨ descOp d = 0x0011 ∨ descOp d = 0x0012 then t
    else t.request (.forward .ring (descOp d) (descTag d))
      { ptype := ptCommand, dst := (s.entryOf d).target, src := 0, payload := [d.toNat % 2 ^ 240, d.toNat / 2 ^ 240],
        poison := [false, false] }

theorem State.Fetches.acts {s : State} (h : s.Fetches) :
    (!s.hostUp || !s.bootu.mcRunning || !s.flag Reg.HIF_CMD_CFG Fld.HIF_CMD_CFG_EN || s.cmdWaiting == 0 ||
      decide (16 ≤ s.host.inflight.length) || s.host.inflight.any InFlight.startsAlone) = false := by
  obtain ⟨hup, hmc, hon, hwaits, hplace, hfree⟩ := h
  have free : s.host.inflight.any InFlight.startsAlone = false := by simpa using hfree
  simp [hup, hmc, hon, hwaits, hplace, free]

theorem descriptorFetch_waits {s : State} (h : s.Fetches) (hq : s.routeQueue 6 = none) (d : BitVec 256) (poisoned : Bool) :
    descriptorFetch s d poisoned = s.raise Reg.HIF_CMD_STAT Fld.HIF_CMD_STAT_WAIT_EQ := by
  unfold descriptorFetch
  rw [h.acts, if_neg (by decide)]
  simp [hq]

theorem descriptorFetch_takes {s : State} {q : Nat} {d : BitVec 256} (h : s.Fetches) (hq : s.routeQueue 6 = some q)
    (hroom : slotsFor d < s.eqFree q) (poisoned : Bool) :
    descriptorFetch s d poisoned =
      if s.headMoved.reloads then s.headMoved else (s.headMoved.poisonNoted poisoned).inFlightFrom d poisoned := by
  unfold descriptorFetch
  rw [h.acts, if_neg (by decide)]
  simp only [hq, hroom, decide_true, Bool.not_true, Bool.false_eq_true, if_false]
  rfl

/-- What the fetch writes before the command is in flight. -/
noncomputable def Parts.fetching : Parts := { regs := fun r => r = Reg.HIF_CMD_STAT ∨ r = Reg.HIF_CMD_HEAD, host := true }

theorem State.headMoved_sameBut (s : State) : s.SameBut Parts.fetching s.headMoved := by
  refine State.sameBut_of_outside ?_
  have stat : Parts.fetching.regs Reg.HIF_CMD_STAT := .inl rfl
  have head : Parts.fetching.regs Reg.HIF_CMD_HEAD := .inr rfl
  rw [State.headMoved, State.setFld_outside _ _ _ _ head, State.clear_outside _ _ _ stat]

theorem State.poisonNoted_sameBut (s : State) (poisoned : Bool) : s.SameBut Parts.fetching (s.poisonNoted poisoned) := by
  refine State.sameBut_of_outside ?_
  cases poisoned <;> rfl

theorem State.inflight_poisonNoted (s : State) (poisoned : Bool) : (s.poisonNoted poisoned).host.inflight = s.host.inflight := by
  cases poisoned <;> rfl

theorem State.inflight_headMoved (s : State) : s.headMoved.host.inflight = s.host.inflight := by
  have kept : s.SameBut Parts.registers s.headMoved := State.sameBut_of_outside (by simp [State.headMoved, Parts.registers])
  rw [kept.host rfl]

theorem State.formError_congr {s t : State} (h : s.SameBut Parts.fetching t) (d : BitVec 256) (poisoned : Bool) :
    t.formError d poisoned = s.formError d poisoned := by
  have addr : t.ownAddr = s.ownAddr := State.fld_congr (h.reg _ (by rintro (hn | hn) <;> exact absurd hn (by decide))) _
  have epoch : t.epoch = s.epoch := State.fld_congr (h.reg _ (by rintro (hn | hn) <;> exact absurd hn (by decide))) _
  unfold State.formError State.badField State.streamInvalid State.routePort State.routeEntry State.nodeU
  rw [addr, epoch, h.fac, h.eng rfl, h.nodes rfl, h.fab rfl]

theorem State.host_request (s : State) (client : Client) (pk : Packet) : (s.request client pk).host = s.host :=
  (State.sameBut_of_outside (p := { Parts.all with host := false }) (s.request_outside client pk (by simp [Parts.all]))).host rfl

theorem State.reg_setInflight_head (s : State) (l : List InFlight) :
    (s.setInflight l).reg Reg.HIF_CMD_HEAD = s.reg Reg.HIF_CMD_HEAD :=
  (State.sameBut_of_outside (p := { regs := is Reg.HIF_CMD_STAT, host := true }) (s.setInflight_outside l ⟨rfl, rfl⟩)).reg _ (by
    unfold is
    decide)

theorem State.head_inFlightFrom (s : State) (d : BitVec 256) (poisoned : Bool) :
    (s.inFlightFrom d poisoned).reg Reg.HIF_CMD_HEAD = s.reg Reg.HIF_CMD_HEAD := by
  unfold State.inFlightFrom
  split
  · exact s.reg_setInflight_head _
  · simp only
    split
    · exact s.reg_setInflight_head _
    · exact (State.reg_request_head _ _ _).trans (s.reg_setInflight_head _)

/-- The command in flight is the last entry, decided where a check decided it. -/
theorem State.inflight_inFlightFrom (s : State) (d : BitVec 256) (poisoned : Bool) :
    (s.inFlightFrom d poisoned).host.inflight =
      s.host.inflight ++ [{ s.entryOf d with done := (s.fetchDecides d poisoned).map (fun c => { c with time := s.time }) }] := by
  unfold State.inFlightFrom
  split
  next c hc => rw [State.inflight_setInflight, hc]; rfl
  next hc =>
    rw [hc]
    simp only
    split
    · exact State.inflight_setInflight _ _
    · rw [State.host_request]
      exact State.inflight_setInflight _ _

/-- The fetch moves HEAD, whether or not a RELOAD is in flight. -/
theorem descriptorFetch_head {s : State} {q : Nat} {d : BitVec 256} (h : s.Fetches) (hq : s.routeQueue 6 = some q)
    (hroom : slotsFor d < s.eqFree q) (poisoned : Bool) :
    (descriptorFetch s d poisoned).fld Reg.HIF_CMD_HEAD Fld.HIF_CMD_HEAD_HEAD =
      (s.fld Reg.HIF_CMD_HEAD Fld.HIF_CMD_HEAD_HEAD + 1) % s.cmdSize % 2 ^ fieldWidth Fld.HIF_CMD_HEAD_HEAD := by
  have moved : s.headMoved.fld Reg.HIF_CMD_HEAD Fld.HIF_CMD_HEAD_HEAD =
      (s.fld Reg.HIF_CMD_HEAD Fld.HIF_CMD_HEAD_HEAD + 1) % s.cmdSize % 2 ^ fieldWidth Fld.HIF_CMD_HEAD_HEAD :=
    State.fld_setFld_self _ _ ⟨by decide, by decide⟩ _
  have noted : (s.headMoved.poisonNoted poisoned).reg Reg.HIF_CMD_HEAD = s.headMoved.reg Reg.HIF_CMD_HEAD :=
    (State.sameBut_of_outside (p := { host := true }) (by cases poisoned <;> rfl)).reg _ (fun hn => hn)
  rw [descriptorFetch_takes h hq hroom]
  split
  · exact moved
  · rw [State.fld_congr ((State.head_inFlightFrom _ d poisoned).trans noted), moved]

theorem State.reloads_headMoved {s : State} (h : ∀ e ∈ s.host.inflight, ¬(e.opcode = 0x0003 ∧ e.target = 0)) :
    s.headMoved.reloads = false := by
  unfold State.reloads
  rw [State.inflight_headMoved]
  simpa using fun e he h3 h0 => h e he ⟨h3, h0⟩

theorem descriptorFetch_flight {s : State} {q : Nat} {d : BitVec 256} (h : s.Fetches) (hq : s.routeQueue 6 = some q)
    (hroom : slotsFor d < s.eqFree q) (hreload : ∀ e ∈ s.host.inflight, ¬(e.opcode = 0x0003 ∧ e.target = 0)) (poisoned : Bool) :
    ∃ e ∈ (descriptorFetch s d poisoned).host.inflight, e.src = .ring ∧ e.opcode = descOp d ∧ e.tag = descTag d ∧
      ∀ k, s.formError d poisoned = some k → e.done = some { status := stInvalid, detail := k, time := s.time } := by
  have same := s.headMoved_sameBut.trans (s.headMoved.poisonNoted_sameBut poisoned)
  rw [descriptorFetch_takes h hq hroom, State.reloads_headMoved hreload, if_neg (by decide), State.inflight_inFlightFrom]
  refine ⟨_, List.mem_append_right _ List.mem_cons_self, rfl, rfl, rfl, fun k hk => ?_⟩
  have decides : (s.headMoved.poisonNoted poisoned).fetchDecides d poisoned = some { status := stInvalid, detail := k } := by
    rw [State.fetchDecides, State.formError_congr same, hk]
  rw [decides, same.time rfl]
  rfl

theorem descriptorFetch_answers (s : State) (d : BitVec 256) (poisoned : Bool) :
    exec (.descriptorFetch d poisoned) s = .next (descriptorFetch s d poisoned) :=
  State.effect_of_outside (P := Parts.all) (descriptorFetch_outside s d poisoned (by simp [Parts.all]))

/-! ### HIF_CMD_CFG (R389, R402) -/

/-- The ring's configuration as the write leaves it. -/
noncomputable def State.ringConfigured (s : State) (v : Word) : State :=
  s.writeJudged Reg.HIF_CMD_CFG 0x8000000F
    (rejectIf (decide (getField Fld.HIF_CMD_CFG_SIZE v < 4) || decide (12 < getField Fld.HIF_CMD_CFG_SIZE v) ||
      s.flag Reg.HIF_CMD_CFG Fld.HIF_CMD_CFG_EN &&
        decide (getField Fld.HIF_CMD_CFG_SIZE v ≠ s.fld Reg.HIF_CMD_CFG Fld.HIF_CMD_CFG_SIZE)) Fld.HIF_CMD_CFG_SIZE) v
    Reg.HIF_CMD_STAT Fld.HIF_CMD_STAT_CFG_REJ

theorem cmdRingEnable_eq {s : State} (hh : hasHost s.fac.variant = true) (v : Word) :
    cmdRingEnable s v =
      if s.flag Reg.HIF_CMD_CFG Fld.HIF_CMD_CFG_EN || decide (getField Fld.HIF_CMD_CFG_EN v = 0) then s.ringConfigured v
      else ((s.ringConfigured v).setReg Reg.HIF_CMD_HEAD 0).setReg Reg.HIF_CMD_DB 0 := if_neg (by simp [hh])

theorem State.en_ringConfigured (s : State) (v : Word) :
    (s.ringConfigured v).flag Reg.HIF_CMD_CFG Fld.HIF_CMD_CFG_EN = decide (getField Fld.HIF_CMD_CFG_EN v = 1) := by
  have taken : ∀ b : Bool, ∀ i ≤ Fld.HIF_CMD_CFG_EN.hi, Fld.HIF_CMD_CFG_EN.lo ≤ i →
      ((0x8000000F : Word).getLsbD i && !(rejectIf b Fld.HIF_CMD_CFG_SIZE).getLsbD i) = true := by
    intro b i hi hlo
    obtain rfl : i = 31 := Nat.le_antisymm hi hlo
    cases b <;> decide
  rw [State.flag, State.fld, State.ringConfigured, State.reg_writeJudged_self _ _ _ _ _ _ _ (by decide), getField_judged_taken (taken _)]
  exact Bool.beq_eq_decide_eq _ _

theorem cmdRingEnable_shows {s : State} (hh : hasHost s.fac.variant = true) (v : Word) :
    (cmdRingEnable s v).flag Reg.HIF_CMD_CFG Fld.HIF_CMD_CFG_EN = decide (getField Fld.HIF_CMD_CFG_EN v = 1) ∧
      (s.flag Reg.HIF_CMD_CFG Fld.HIF_CMD_CFG_EN = false → getField Fld.HIF_CMD_CFG_EN v = 1 →
        (cmdRingEnable s v).reg Reg.HIF_CMD_HEAD = 0 ∧ (cmdRingEnable s v).reg Reg.HIF_CMD_DB = 0) := by
  rw [cmdRingEnable_eq hh]
  constructor
  · split
    · exact s.en_ringConfigured v
    · exact (State.flag_congr ((State.reg_setReg_other _ (by decide) _).trans (State.reg_setReg_other _ (by decide) _)) _).trans
        (s.en_ringConfigured v)
  · intro hoff hon
    rw [if_neg (by simp [hoff, hon])]
    exact ⟨(State.reg_setReg_other _ (by decide) _).trans (State.reg_setReg_self _ _ _), State.reg_setReg_self _ _ _⟩

/-- A write that reaches the host interface opens its clock gate first (R321). -/
theorem State.reachIf_host {s : State} (hh : hasHost s.fac.variant = true) : s.reachIf (hasHost s.fac.variant) 9 = s.reach 9 :=
  if_pos hh

theorem State.reach_outside_all (s : State) (g : Nat) : (s.reach g).outside Parts.all = s.outside Parts.all :=
  s.reach_outside g (by simp [Parts.all, Parts.emits])

theorem cmdRingEnable_answers {s : State} (hb : s.bootFailed = false) (hh : hasHost s.fac.variant = true) (v : Word) :
    exec (.cmdRingEnable v) s = .next (cmdRingEnable (s.reach 9) v) := by
  have answer : s.effect (s.whenOpen (cmdRingEnable (s.reach 9) v)) = .next (cmdRingEnable (s.reach 9) v) :=
    State.answer_open (P := Parts.all) hb
      ((cmdRingEnable_outside (s.reach 9) v (by simp [Parts.all])).trans (s.reach_outside_all 9))
  rw [← State.reachIf_host hh] at answer ⊢
  exact answer

theorem cmdRingEnable_reached {s : State} (hh : hasHost s.fac.variant = true) (v : Word) :
    (cmdRingEnable (s.reach 9) v).flag Reg.HIF_CMD_CFG Fld.HIF_CMD_CFG_EN = decide (getField Fld.HIF_CMD_CFG_EN v = 1) ∧
      (s.flag Reg.HIF_CMD_CFG Fld.HIF_CMD_CFG_EN = false → getField Fld.HIF_CMD_CFG_EN v = 1 →
        (cmdRingEnable (s.reach 9) v).reg Reg.HIF_CMD_HEAD = 0 ∧ (cmdRingEnable (s.reach 9) v).reg Reg.HIF_CMD_DB = 0) := by
  have there : hasHost (s.reach 9).fac.variant = true := by
    rw [(State.sameBut_of_outside (s.reach_outside_all 9)).fac]
    exact hh
  have en : (s.reach 9).flag Reg.HIF_CMD_CFG Fld.HIF_CMD_CFG_EN = s.flag Reg.HIF_CMD_CFG Fld.HIF_CMD_CFG_EN :=
    State.flag_congr (s.reg_reach_hif 9 ⟨by decide, by decide⟩) _
  rw [← en]
  exact cmdRingEnable_shows there v

/-- Settles O57: the doorbell by whether it overfills the ring, the fetch by what R392's checks decide, the configuration by its
judgment. -/
theorem commandRing : Obligations.CommandRing := by
  unfold Obligations.CommandRing
  refine ⟨fun s tail hb hh hfull => ⟨_, cmdDoorbell_answers hb tail, cmdDoorbell_rejected_shows hh hfull⟩,
    fun s tail hb hh htail hroom => ⟨_, cmdDoorbell_answers hb tail, cmdDoorbell_taken_shows hh ?_⟩,
    fun s d poisoned q hup hmc hon hwaits hplace hfree hq hroom => ⟨_, descriptorFetch_answers s d poisoned, ?_⟩,
    fun s d poisoned hup hmc hon hwaits hplace hfree hq => ⟨_, descriptorFetch_answers s d poisoned, ?_⟩,
    fun s v hb hh => ⟨_, cmdRingEnable_answers hb hh v, cmdRingEnable_reached hh v⟩⟩
  · exact fun h => h.elim (Nat.not_le.2 htail) (Nat.not_le.2 hroom)
  · have fetches : s.Fetches := ⟨hup, hmc, hon, hwaits, hplace, hfree⟩
    refine ⟨descriptorFetch_head fetches hq hroom poisoned, fun hreload => ?_, fun hreload k hk => ?_⟩
    · obtain ⟨e, he, hsrc, hop, htag, -⟩ := descriptorFetch_flight fetches hq hroom hreload poisoned
      exact ⟨e, he, hsrc, hop, htag⟩
    · obtain ⟨e, he, hsrc, hop, htag, hdone⟩ := descriptorFetch_flight fetches hq hroom hreload poisoned
      exact ⟨e, he, hsrc, hop, htag, hdone k hk⟩
  · rw [descriptorFetch_waits ⟨hup, hmc, hon, hwaits, hplace, hfree⟩ hq]
    exact ⟨State.flag_raise _ _ ⟨by decide, by decide⟩, State.reg_raise_other _ (by decide) _⟩

end Sys2Proof.Machine
end

section
set_option Elab.async false
/-!
PROOF. The event queues and completions (O59).
-/
namespace Sys2Proof.Machine

/-! ### The queues' registers (R397) -/

/-- A queue's registers lie 0x20 apart, each at its own place. -/
theorem eqReg_apart (q n : Nat) :
    Reg.EQ_TAIL q ≠ Reg.EQ_HEAD n ∧ Reg.EQ_TAIL q ≠ Reg.EQ_SEQ n ∧ Reg.EQ_TAIL q ≠ Reg.EQ_STAT n ∧ Reg.EQ_TAIL q ≠ Reg.EQ_CFG n ∧
      Reg.EQ_STAT q ≠ Reg.EQ_HEAD n ∧ Reg.EQ_STAT q ≠ Reg.EQ_SEQ n ∧ Reg.EQ_CFG q ≠ Reg.EQ_HEAD n ∧ Reg.EQ_CFG q ≠ Reg.EQ_SEQ n ∧
      Reg.EQ_CFG q ≠ Reg.EQ_STAT n := by
  refine ⟨?_, ?_, ?_, ?_, ?_, ?_, ?_, ?_, ?_⟩ <;> exact series_apart (by decide) q n

theorem eqReg_hif {q : Nat} (h : q < 4) : hifReg (Reg.EQ_TAIL q) ∧ hifReg (Reg.EQ_CFG q) ∧ hifReg (Reg.EQ_STAT q) := by
  have within : ∀ q < 4, (0x4000 ≤ Reg.EQ_TAIL q ∧ Reg.EQ_TAIL q < 0x6000) ∧ (0x4000 ≤ Reg.EQ_CFG q ∧ Reg.EQ_CFG q < 0x6000) ∧
      0x4000 ≤ Reg.EQ_STAT q ∧ Reg.EQ_STAT q < 0x6000 := by decide
  exact within q h

/-- Queue `q`'s configuration as the write leaves it. -/
noncomputable def State.queueConfigured (s : State) (q : Nat) (v : Word) : State :=
  s.writeJudged (Reg.EQ_CFG q) 0xF00F001F
    (rejectIf (decide (getField Fld.EQ_CFG_SIZE v < 4) || decide (16 < getField Fld.EQ_CFG_SIZE v) ||
      s.eqOn q && decide (getField Fld.EQ_CFG_SIZE v ≠ s.fld (Reg.EQ_CFG q) Fld.EQ_CFG_SIZE)) Fld.EQ_CFG_SIZE) v
    (Reg.EQ_STAT q) Fld.EQ_STAT_CFG_REJ

/-- Queue `q` started empty. -/
noncomputable def State.queueStarted (s : State) (q : Nat) : State :=
  ((((s.setReg (Reg.EQ_HEAD q) 0x80000000).setReg (Reg.EQ_TAIL q) 0).setReg (Reg.EQ_SEQ q) 0).clear (Reg.EQ_STAT q)
    Fld.EQ_STAT_OVERFLOW).setEq q {}

theorem eqCfgEnable_eq {s : State} {q : Nat} (hh : hasHost s.fac.variant = true) (hq : q < 4) (v : Word) :
    eqCfgEnable s q v =
      if s.eqOn q || decide (getField Fld.EQ_CFG_EN v = 0) then s.queueConfigured q v
      else (s.queueConfigured q v).queueStarted q :=
  (if_neg (Nat.not_le.2 hq)).trans (if_neg (by simp [hh]))

theorem State.en_queueConfigured (s : State) (q : Nat) (v : Word) :
    (s.queueConfigured q v).flag (Reg.EQ_CFG q) Fld.EQ_CFG_EN = decide (getField Fld.EQ_CFG_EN v = 1) := by
  have taken : ∀ b : Bool, ∀ i ≤ Fld.EQ_CFG_EN.hi, Fld.EQ_CFG_EN.lo ≤ i →
      ((0xF00F001F : Word).getLsbD i && !(rejectIf b Fld.EQ_CFG_SIZE).getLsbD i) = true := by
    intro b i hi hlo
    obtain rfl : i = 31 := Nat.le_antisymm hi hlo
    cases b <;> decide
  rw [State.flag, State.fld, State.queueConfigured, State.reg_writeJudged_self _ _ _ _ _ _ _ (eqReg_apart q q).2.2.2.2.2.2.2.2,
    getField_judged_taken (taken _)]
  exact Bool.beq_eq_decide_eq _ _

theorem State.eqU_setEq_self (s : State) (q : Nat) (x : EvQueue) : (s.setEq q x).eqU q = x := Store.get_set_self _ _ _ _

theorem State.reg_setEq (s : State) (q : Nat) (x : EvQueue) (a : Nat) : (s.setEq q x).reg a = s.reg a := by
  unfold State.reg
  rfl

theorem State.queueStarted_shows (s : State) (q : Nat) :
    (s.queueStarted q).reg (Reg.EQ_CFG q) = s.reg (Reg.EQ_CFG q) ∧ (s.queueStarted q).reg (Reg.EQ_TAIL q) = 0 ∧
      (s.queueStarted q).eqU q = {} := by
  obtain ⟨th, ts, tt, tc, -, -, ch, cs, ct⟩ := eqReg_apart q q
  refine ⟨?_, ?_, State.eqU_setEq_self _ _ _⟩
  · rw [State.queueStarted, State.reg_setEq, State.reg_clear_other _ ct, State.reg_setReg_other _ cs, State.reg_setReg_other _ tc.symm,
      State.reg_setReg_other _ ch]
  · rw [State.queueStarted, State.reg_setEq, State.reg_clear_other _ tt, State.reg_setReg_other _ ts]
    exact State.reg_setReg_self _ _ _

theorem eqCfgEnable_shows {s : State} {q : Nat} (hh : hasHost s.fac.variant = true) (hq : q < 4) (v : Word) :
    (eqCfgEnable s q v).flag (Reg.EQ_CFG q) Fld.EQ_CFG_EN = decide (getField Fld.EQ_CFG_EN v = 1) ∧
      (s.eqOn q = false → getField Fld.EQ_CFG_EN v = 1 → (eqCfgEnable s q v).reg (Reg.EQ_TAIL q) = 0 ∧ (eqCfgEnable s q v).eqU q = {}) := by
  obtain ⟨hcfg, htail, hunit⟩ := (s.queueConfigured q v).queueStarted_shows q
  rw [eqCfgEnable_eq hh hq]
  constructor
  · split
    · exact s.en_queueConfigured q v
    · exact (State.flag_congr hcfg _).trans (s.en_queueConfigured q v)
  · intro hoff hon
    rw [if_neg (by simp [hoff, hon])]
    exact ⟨htail, hunit⟩

/-! ### TAIL (R397) -/

theorem eqTailWrite_rejected {s : State} {q v : Nat} (hh : hasHost s.fac.variant = true) (hq : q < 4) (hv : s.eqSize q ≤ v) :
    eqTailWrite s q v = s.raise (Reg.EQ_STAT q) Fld.EQ_STAT_TAIL_ERR := by
  unfold eqTailWrite
  rw [if_neg (Nat.not_le.2 hq), if_neg (by simp [hh])]
  exact if_pos (.inl hv)

/-- Records returned: TAIL moved, and as many places free. -/
noncomputable def State.tailMoved (s : State) (q v back : Nat) : State :=
  (s.setFld (Reg.EQ_TAIL q) Fld.EQ_TAIL_TAIL v).setEq q { s.eqU q with written := (s.eqU q).written - back }

theorem eqTailWrite_taken {s : State} {q v : Nat} (hh : hasHost s.fac.variant = true) (hq : q < 4) (hv : v < s.eqSize q)
    (hback : (v + s.eqSize q - s.fld (Reg.EQ_TAIL q) Fld.EQ_TAIL_TAIL) % s.eqSize q ≤ (s.eqU q).written) :
    ∃ back, eqTailWrite s q v = (s.tailMoved q v back).checkResume q := by
  unfold eqTailWrite
  rw [if_neg (Nat.not_le.2 hq), if_neg (by simp [hh])]
  refine ⟨_, if_neg ?_⟩
  rintro (h | h)
  · exact absurd hv (Nat.not_lt.2 h)
  · refine absurd h (Nat.not_lt.2 ?_)
    split
    next full => exact Nat.le_of_eq full.2.symm
    next => exact hback

theorem State.reg_putRecord_stat (s : State) (q n : Nat) (r : Rec) : (s.putRecord q r).reg (Reg.EQ_STAT n) = s.reg (Reg.EQ_STAT n) :=
  State.reg_of_sparing (kept := is (Reg.EQ_STAT n)) (s.putRecord_outside q r (by
    have apart := fun m => eqReg_apart n m
    have pba : Reg.MSIX_PBA ≠ Reg.EQ_STAT n := (series_ne (by decide) n).symm
    exact ⟨rfl, fun m => (apart m).2.2.2.2.1.symm, rfl, fun m => (apart m).2.2.2.2.2.1.symm, rfl, pba⟩)) rfl

theorem State.reg_putRecord_tail (s : State) (q n : Nat) (r : Rec) : (s.putRecord q r).reg (Reg.EQ_TAIL n) = s.reg (Reg.EQ_TAIL n) :=
  State.reg_of_sparing (kept := is (Reg.EQ_TAIL n)) (s.putRecord_outside q r (by
    have apart := fun m => eqReg_apart n m
    have pba : Reg.MSIX_PBA ≠ Reg.EQ_TAIL n := (series_ne (by decide) n).symm
    exact ⟨rfl, fun m => (apart m).1.symm, rfl, fun m => (apart m).2.1.symm, rfl, pba⟩)) rfl

/-- A queue that resumes writes EQ_RESUMED and leaves OVERFLOW (R400). -/
theorem State.checkResume_shows (s : State) (q : Nat) :
    (s.checkResume q).reg (Reg.EQ_TAIL q) = s.reg (Reg.EQ_TAIL q) ∧
      (s.checkResume q).fld (Reg.EQ_STAT q) Fld.EQ_STAT_TAIL_ERR = s.fld (Reg.EQ_STAT q) Fld.EQ_STAT_TAIL_ERR := by
  unfold State.checkResume
  split
  · exact ⟨rfl, rfl⟩
  · constructor
    · exact (State.reg_clear_other _ (eqReg_apart q q).2.2.1 _).trans ((State.reg_setEq _ _ _ _).trans (State.reg_putRecord_tail _ _ _ _))
    · rw [State.clear, State.fld_setFld_apart _ _ ⟨by decide, by decide⟩ (by decide) (by decide)]
      exact State.fld_congr ((State.reg_setEq _ _ _ _).trans (State.reg_putRecord_stat _ _ _ _)) _

theorem State.tailMoved_shows (s : State) (q v back : Nat) :
    (s.tailMoved q v back).fld (Reg.EQ_TAIL q) Fld.EQ_TAIL_TAIL = v % 2 ^ fieldWidth Fld.EQ_TAIL_TAIL ∧
      (s.tailMoved q v back).reg (Reg.EQ_STAT q) = s.reg (Reg.EQ_STAT q) := by
  constructor
  · exact (State.fld_congr (State.reg_setEq _ _ _ _) _).trans (State.fld_setFld_self _ _ ⟨by decide, by decide⟩ _)
  · exact (State.reg_setEq _ _ _ _).trans (State.reg_setFld_other _ (eqReg_apart q q).2.2.1.symm _ _)

theorem eqTailWrite_taken_shows {s : State} {q v : Nat} (hh : hasHost s.fac.variant = true) (hq : q < 4) (hv : v < s.eqSize q)
    (hback : (v + s.eqSize q - s.fld (Reg.EQ_TAIL q) Fld.EQ_TAIL_TAIL) % s.eqSize q ≤ (s.eqU q).written) :
    (eqTailWrite s q v).fld (Reg.EQ_TAIL q) Fld.EQ_TAIL_TAIL = v % 2 ^ fieldWidth Fld.EQ_TAIL_TAIL ∧
      (eqTailWrite s q v).fld (Reg.EQ_STAT q) Fld.EQ_STAT_TAIL_ERR = s.fld (Reg.EQ_STAT q) Fld.EQ_STAT_TAIL_ERR := by
  obtain ⟨back, taken⟩ := eqTailWrite_taken hh hq hv hback
  obtain ⟨htail, hstat⟩ := (s.tailMoved q v back).checkResume_shows q
  obtain ⟨hmoved, hkept⟩ := s.tailMoved_shows q v back
  rw [taken]
  exact ⟨(State.fld_congr htail _).trans hmoved, hstat.trans (State.fld_congr hkept _)⟩

/-! ### Delivery (R399) -/

/-- Every part may change but the records that wait. -/
noncomputable def Parts.notRecs : Parts := { Parts.all with recs := false }

theorem State.recs_queueRecord (s : State) (q : Nat) (r : Rec) : (s.queueRecord q r).recs = s.recs :=
  (State.sameBut_of_outside (p := Parts.notRecs) (s.queueRecord_outside q r (by simp [Parts.notRecs, Parts.all]))).recs rfl

theorem State.recs_sendEvent (s : State) (home : Nat) (r : Rec) : (s.sendEvent home r).recs = s.recs :=
  (State.sameBut_of_outside (p := Parts.notRecs) (s.sendEvent_outside home r (by simp [Parts.notRecs, Parts.all]))).recs rfl

theorem State.recs_toldFault (s : State) (fault : Bool) : (s.toldFault fault).recs = s.recs := by
  cases fault <;> rfl

/-- The oldest record taken from those that wait. -/
noncomputable def State.recTaken (s : State) (r : Rec) (rest : List Rec) : State :=
  { s with recs := rest, classLost := if r.remote then s.classLost else [] }

theorem eventRecordWrite_cons {s : State} {r : Rec} {rest : List Rec} (h : s.recs = r :: rest) :
    eventRecordWrite s =
      if s.host.pcieEver then
        match s.canWrite (classOf r.type) with
        | some q => ((s.recTaken r rest).queueRecord q (s.fromHere r)).toldFault r.hold
        | none => s
      else match s.eventHome with
        | some home => (s.recTaken r rest).sendEvent home (s.fromHere r)
        | none => s := by
  unfold eventRecordWrite
  rw [h]
  rfl

theorem eventRecordWrite_nil {s : State} (h : s.recs = []) : eventRecordWrite s = s := by
  unfold eventRecordWrite
  rw [h]

theorem eventRecordWrite_queued {s : State} {r : Rec} {rest : List Rec} {q : Nat} (h : s.recs = r :: rest)
    (hp : s.host.pcieEver = true) (hq : s.canWrite (classOf r.type) = some q) : (eventRecordWrite s).recs = rest := by
  rw [eventRecordWrite_cons h, if_pos hp, hq]
  exact (State.recs_toldFault _ _).trans (State.recs_queueRecord _ _ _)

theorem eventRecordWrite_sent {s : State} {r : Rec} {rest : List Rec} {home : Nat} (h : s.recs = r :: rest)
    (hp : s.host.pcieEver = false) (hq : s.eventHome = some home) : (eventRecordWrite s).recs = rest := by
  rw [eventRecordWrite_cons h, if_neg (by simp [hp]), hq]
  exact State.recs_sendEvent _ _ _

theorem eventRecordWrite_waits {s : State} {r : Rec} {rest : List Rec} (h : s.recs = r :: rest)
    (hp : s.host.pcieEver = true) (hq : s.canWrite (classOf r.type) = none) : eventRecordWrite s = s := by
  rw [eventRecordWrite_cons h, if_pos hp, hq]

theorem eventRecordWrite_suffix (s : State) : (eventRecordWrite s).recs <:+ s.recs := by
  cases h : s.recs with
  | nil =>
    rw [eventRecordWrite_nil h, h]
  | cons r rest =>
    have tail : rest <:+ r :: rest := List.suffix_cons _ _
    rw [eventRecordWrite_cons h]
    split
    · split
      · rw [State.recs_toldFault, State.recs_queueRecord]
        exact tail
      · exact h ▸ List.suffix_refl _
    · split
      · rw [State.recs_sendEvent]
        exact tail
      · exact h ▸ List.suffix_refl _

theorem State.deliverRecs_suffix (s : State) (n : Nat) : (s.deliverRecs n).recs <:+ s.recs := by
  induction n generalizing s with
  | zero => exact List.suffix_refl _
  | succ n ih => exact (ih (eventRecordWrite s)).trans (eventRecordWrite_suffix s)

theorem eventDeferredDelivery_suffix {s : State} {r : Rec} {rest : List Rec} {q : Nat} (h : s.recs = r :: rest)
    (hp : s.host.pcieEver = true) (hq : s.canWrite (classOf r.type) = some q) : (eventDeferredDelivery s).recs <:+ rest := by
  have first := (eventRecordWrite s).deliverRecs_suffix rest.length
  rw [eventRecordWrite_queued h hp hq] at first
  rw [eventDeferredDelivery, h]
  exact first

/-! ### Records of other devices (R394, R399) -/

/-- An answer is kept for its request. -/
theorem State.keeps_answer (s : State) (src tag : Nat) (pk : Packet) : ∃ a ∈ (s.answer src tag pk).fab.answers, a.src = src ∧ a.tag = tag := by
  unfold State.answer
  simp only
  rw [(State.sameBut_of_outside (p := { Parts.all with fab := false }) (State.inject_outside _ pk (by simp [Parts.all]))).fab rfl]
  exact ⟨_, List.mem_append_right _ List.mem_cons_self, rfl, rfl⟩

theorem State.host_answer (s : State) (src tag : Nat) (pk : Packet) : (s.answer src tag pk).host = s.host :=
  (State.sameBut_of_outside (p := { Parts.all with host := false }) (s.answer_outside src tag pk (by simp [Parts.all]))).host rfl

/-- What reaching the host depends on, in the host unit. -/
def State.HostStands (s t : State) : Prop := t.host.pcieEver = s.host.pcieEver ∧ t.host.d3hot = s.host.d3hot

theorem State.HostStands.trans {s t u : State} (h : s.HostStands t) (k : t.HostStands u) : s.HostStands u :=
  ⟨k.1.trans h.1, k.2.trans h.2⟩

theorem State.HostStands.of_host {s t : State} (h : t.host = s.host) : s.HostStands t := by
  unfold State.HostStands
  rw [h]
  exact ⟨rfl, rfl⟩

theorem State.host_setInflight (s : State) (l : List InFlight) : (s.setInflight l).host = { s.host with inflight := l } := rfl

theorem State.setInflight_hostStands (s : State) (l : List InFlight) : s.HostStands (s.setInflight l) := by
  unfold State.HostStands
  rw [State.host_setInflight]
  exact ⟨rfl, rfl⟩

/-- A record sent and not yet acknowledged. -/
noncomputable def State.unackedNoted (s : State) (x : Nat × Rec) : State := { s with host := { s.host with unacked := s.host.unacked ++ [x] } }

theorem State.unackedNoted_hostStands (s : State) (x : Nat × Rec) : s.HostStands (s.unackedNoted x) := ⟨rfl, rfl⟩

/-- An event packet put out, its two payload flits free. -/
noncomputable def State.eventPut (s : State) (home : Nat) (r : Rec) : State := ((s.freeNat 240).2.freeNat 240).2.put (.eventPacket home r)

theorem State.host_eventPut (s : State) (home : Nat) (r : Rec) : (s.eventPut home r).host = s.host :=
  (State.sameBut_of_outside (p := { fresh := true, out := true }) (s := s) (t := s.eventPut home r) rfl).host rfl

theorem State.sendEvent_eq (s : State) (home : Nat) (r : Rec) :
    s.sendEvent home r = ((s.eventPut home r).unackedNoted ((s.eventPut home r).freeTag, r)).request .event
      { ptype := ptEvent, dst := home, src := 0, payload := [(s.freeNat 240).1, ((s.freeNat 240).2.freeNat 240).1],
        poison := [false, false] } := rfl

theorem State.sendEvent_hostStands (s : State) (home : Nat) (r : Rec) : s.HostStands (s.sendEvent home r) := by
  rw [State.sendEvent_eq]
  exact ((State.HostStands.of_host (s.host_eventPut home r)).trans (State.unackedNoted_hostStands _ _)).trans
    (.of_host (State.host_request _ _ _))

theorem State.settle_hostStands (s : State) (src : CmdSrc) (op tag : Nat) (c : Completion) : s.HostStands (s.settle src op tag c) := by
  unfold State.settle
  cases src with
  | remote dev =>
    exact List.foldlRecOn (motive := fun t => s.HostStands t) _ _ (.of_host rfl) (fun t ht r _ => ht.trans (t.sendEvent_hostStands _ _))
  | ring =>
    simp only
    split
    · exact s.setInflight_hostStands _
    · split
      · exact s.setInflight_hostStands _
      · exact .of_host rfl

theorem State.loseTarget_hostStands (s : State) (a : Nat) : s.HostStands (s.loseTarget a) := by
  unfold State.loseTarget State.settleAll
  exact List.foldlRecOn (motive := fun t => s.HostStands t) _ _ (.of_host rfl) (fun t ht e _ => ht.trans (t.settle_hostStands _ _ _ _))

/-- The registers that say where a record can be written. -/
def routeReg (r : Nat) : Prop := r = Reg.HIF_STAT ∨ r = Reg.HIF_EQ_ROUTE ∨ ∃ n, r = Reg.EQ_CFG n

theorem State.reg_loseTarget_route (s : State) (a : Nat) {r : Nat} (h : routeReg r) : (s.loseTarget a).reg r = s.reg r := by
  refine State.reg_of_sparing (s.loseTarget_outside a ⟨rfl, ?_, rfl, fun n => ?_, rfl, ?_, rfl, rfl⟩) h
  case refine_2 =>
    rintro (hn | hn | ⟨m, hn⟩)
    · exact series_ne (by decide) n hn
    · exact series_ne (by decide) n hn
    · exact series_apart (by decide) n m hn
  all_goals
    rintro (hn | hn | ⟨m, hn⟩)
    · exact absurd hn (by decide)
    · exact absurd hn (by decide)
    · exact series_ne (by decide) m hn.symm

theorem State.canWrite_loseTarget (s : State) (a c : Nat) : (s.loseTarget a).canWrite c = s.canWrite c := by
  have fac : (s.loseTarget a).fac = s.fac :=
    (State.sameBut_of_outside (p := Parts.all) (s.loseTarget_outside a (by simp [Parts.all]))).fac
  have eqs : (s.loseTarget a).eqOn = s.eqOn := by
    funext n
    unfold State.eqOn
    rw [fac, State.flag_congr (s.reg_loseTarget_route a (.inr (.inr ⟨n, rfl⟩)))]
  unfold State.canWrite State.hostUp State.routeQueue
  rw [fac, (s.loseTarget_hostStands a).2, State.flag_congr (s.reg_loseTarget_route a (.inl rfl)), eqs,
    State.fld_congr (s.reg_loseTarget_route a (.inr (.inl rfl)))]

theorem eventPacketRx_kept {s : State} {origin tag : Nat} {a : Packet} (h : s.keptAnswer origin (tag % 256) = some a) (r : Rec) :
    eventPacketRx s origin tag r = s.inject a := by
  unfold eventPacketRx
  rw [h]

theorem eventPacketRx_part {s : State} {origin tag : Nat} {r : Rec} (h : s.keptAnswer origin (tag % 256) = none)
    (ht : r.type = 0x0600 ∨ r.type = 0x0601) :
    eventPacketRx s origin tag r = (s.setInflight (completionPart origin r s.host.inflight)).ackEvent origin tag := by
  unfold eventPacketRx
  rw [h]
  exact if_pos ht

/-- What a record's report of a lost device does first. -/
noncomputable def State.lossTaken (s : State) (r : Rec) : State := if r.type = 0x0423 then s.loseTarget (r.fields.headD 0).toNat else s

theorem State.canWrite_lossTaken (s : State) (r : Rec) (c : Nat) :
    (s.lossTaken r).canWrite c = s.canWrite c ∧ (s.lossTaken r).host.pcieEver = s.host.pcieEver := by
  unfold State.lossTaken
  split
  · exact ⟨s.canWrite_loseTarget _ c, (s.loseTarget_hostStands _).1⟩
  · exact ⟨rfl, rfl⟩

theorem eventPacketRx_record {s : State} {origin tag : Nat} {r : Rec} (h : s.keptAnswer origin (tag % 256) = none)
    (h0 : r.type ≠ 0x0600) (h1 : r.type ≠ 0x0601) :
    eventPacketRx s origin tag r =
      match (if s.host.pcieEver then s.canWrite (classOf r.type) else none) with
      | some q => ((s.lossTaken r).queueRecord q { r with remote := true, origin := origin }).ackEvent origin tag
      | none => s.lossTaken r := by
  obtain ⟨hcan, hever⟩ := s.canWrite_lossTaken r (classOf r.type)
  rw [← hcan, ← hever]
  unfold eventPacketRx
  rw [h]
  exact if_neg (fun hk => hk.elim h0 h1)

theorem eventPacketRx_answers (s : State) (origin tag : Nat) (r : Rec) :
    exec (.eventPacketRx origin tag r) s = .next (eventPacketRx s origin tag r) :=
  State.effect_of_outside (P := Parts.all) (eventPacketRx_outside s origin tag r (by simp [Parts.all]))

theorem eventPacketRx_repeat {s : State} {origin tag : Nat} {a : Packet} (h : s.keptAnswer origin (tag % 256) = some a) (r : Rec) :
    (eventPacketRx s origin tag r).host = s.host ∧ (eventPacketRx s origin tag r).recs = s.recs ∧
      (eventPacketRx s origin tag r).fab.answers = s.fab.answers := by
  have kept := State.sameBut_of_outside (p := { Parts.all with host := false, recs := false, fab := false })
    (s.inject_outside a (by simp [Parts.all]))
  rw [eventPacketRx_kept h]
  exact ⟨kept.host rfl, kept.recs rfl, congrArg FabUnit.answers (kept.fab rfl)⟩

theorem eventPacketRx_taken {s : State} {origin tag q : Nat} {r : Rec} (h : s.keptAnswer origin (tag % 256) = none)
    (h0 : r.type ≠ 0x0600) (h1 : r.type ≠ 0x0601) (hp : s.host.pcieEver = true) (hq : s.canWrite (classOf r.type) = some q) :
    ∃ a ∈ (eventPacketRx s origin tag r).fab.answers, a.src = origin ∧ a.tag = tag % 256 := by
  rw [eventPacketRx_record h h0 h1, if_pos hp, hq]
  exact State.keeps_answer _ _ _ _

theorem eventPacketRx_refused {s : State} {origin tag : Nat} {r : Rec} (h : s.keptAnswer origin (tag % 256) = none)
    (h0 : r.type ≠ 0x0600) (h1 : r.type ≠ 0x0601) (hloss : r.type ≠ 0x0423)
    (hnone : s.host.pcieEver = false ∨ s.canWrite (classOf r.type) = none) : eventPacketRx s origin tag r = s := by
  have nowhere : (if s.host.pcieEver then s.canWrite (classOf r.type) else none) = none := by
    split
    next hp => exact hnone.resolve_left (by simp [hp])
    next => rfl
  rw [eventPacketRx_record h h0 h1, nowhere]
  exact if_neg hloss

/-! ### Completions (R393, R396) -/

/-- The number of places in the queue that a completion needs. -/
noncomputable def State.completionPlaces (s : State) (e : InFlight) (rest : List InFlight) (c : Completion) (q : Nat) : Nat :=
  (s.completionOf e c).length +
    bit ((s.setInflight rest).originNeeded q ((s.completionOf e c).headD (mkRec 0x0600 0 c.time [])))

/-- The completion's records written, the command out of the flight and counted. -/
noncomputable def State.completed (s : State) (e : InFlight) (rest : List InFlight) (c : Completion) (q : Nat) : State :=
  (((s.completionOf e c).foldl (fun (t : State) r => t.putWithOrigin q r) (s.setInflight rest)).count Reg.HIF_CMD_CNT
    Fld.HIF_CMD_CNT_COUNT).checkResume q

theorem completion_eq {s : State} {e : InFlight} {rest : List InFlight} {c : Completion} {q : Nat} (h : s.host.inflight = e :: rest)
    (hd : e.done = some c) (hq : s.canWrite 6 = some q) (hmc : s.bootu.mcRunning = true)
    (hroom : s.completionPlaces e rest c q ≤ (s.setInflight rest).eqFree q) :
    completion s =
      if e.opcode = 0x0003 ∧ e.target = 0 ∧ c.status = stOk then ((s.completed e rest c q).warmReset true).beginBoot 2
      else s.completed e rest c q := by
  have acts : ¬(!s.bootu.mcRunning || decide ((s.setInflight rest).eqFree q < s.completionPlaces e rest c q)) = true := by
    simpa [hmc] using hroom
  unfold completion
  rw [h]
  simp only [hd, hq]
  exact if_neg acts

/-- What `putWithOrigin` and the end of an overflow write. -/
noncomputable def Parts.queueing : Parts := { Parts.all with host := false, cells := false, bootu := false }

theorem State.reg_putWithOrigin_cnt (s : State) (q : Nat) (r : Rec) :
    (s.putWithOrigin q r).reg Reg.HIF_CMD_CNT = s.reg Reg.HIF_CMD_CNT := by
  exact State.reg_of_sparing (kept := is Reg.HIF_CMD_CNT) (s.putWithOrigin_outside q r
    ⟨rfl, series_ne (by decide), rfl, series_ne (by decide), rfl, by unfold Parts.sparing is; decide⟩) rfl

theorem State.reg_checkResume_cnt (s : State) (q : Nat) : (s.checkResume q).reg Reg.HIF_CMD_CNT = s.reg Reg.HIF_CMD_CNT := by
  have other : ∀ n, Reg.EQ_STAT n ≠ Reg.HIF_CMD_CNT ∧ Reg.EQ_HEAD n ≠ Reg.HIF_CMD_CNT ∧ Reg.EQ_SEQ n ≠ Reg.HIF_CMD_CNT := fun n =>
    ⟨series_ne (by decide) n, series_ne (by decide) n, series_ne (by decide) n⟩
  have put : ∀ (t : State) (r : Rec), (t.putRecord q r).reg Reg.HIF_CMD_CNT = t.reg Reg.HIF_CMD_CNT := fun t r =>
    State.reg_of_sparing (kept := is Reg.HIF_CMD_CNT) (t.putRecord_outside q r
      ⟨rfl, fun n => (other n).2.1, rfl, fun n => (other n).2.2, rfl, by unfold Parts.sparing is; decide⟩) rfl
  unfold State.checkResume
  split
  · rfl
  · exact (State.reg_clear_other _ (other q).1.symm _).trans ((State.reg_setEq _ _ _ _).trans (put _ _))

/-- The completion's records written. -/
noncomputable def State.completionPut (s : State) (e : InFlight) (rest : List InFlight) (c : Completion) (q : Nat) : State :=
  (s.completionOf e c).foldl (fun (t : State) r => t.putWithOrigin q r) (s.setInflight rest)

theorem State.completionPut_sameBut (s : State) (e : InFlight) (rest : List InFlight) (c : Completion) (q : Nat) :
    (s.setInflight rest).SameBut Parts.queueing (s.completionPut e rest c q) :=
  State.sameBut_of_outside (State.foldl_outside (fun t r => t.putWithOrigin_outside q r (by simp [Parts.queueing, Parts.all])) _ _)

theorem State.completed_sameBut (s : State) (e : InFlight) (rest : List InFlight) (c : Completion) (q : Nat) :
    (s.setInflight rest).SameBut Parts.queueing (s.completed e rest c q) := by
  refine (s.completionPut_sameBut e rest c q).trans (State.sameBut_of_outside ?_)
  rw [State.completed, State.checkResume_outside _ _ (by simp [Parts.queueing, Parts.all]), State.count_outside _ _ _ trivial]
  rfl

theorem State.cnt_completed (s : State) (e : InFlight) (rest : List InFlight) (c : Completion) (q : Nat) :
    (s.completed e rest c q).fld Reg.HIF_CMD_CNT Fld.HIF_CMD_CNT_COUNT =
      satInc (fieldWidth Fld.HIF_CMD_CNT_COUNT) (s.fld Reg.HIF_CMD_CNT Fld.HIF_CMD_CNT_COUNT) := by
  have put : (s.completionPut e rest c q).reg Reg.HIF_CMD_CNT = (s.setInflight rest).reg Reg.HIF_CMD_CNT :=
    List.foldlRecOn (motive := fun t : State => t.reg Reg.HIF_CMD_CNT = (s.setInflight rest).reg Reg.HIF_CMD_CNT) _ _ rfl
      (fun t ht r _ => (t.reg_putWithOrigin_cnt q r).trans ht)
  have flight : (s.setInflight rest).reg Reg.HIF_CMD_CNT = s.reg Reg.HIF_CMD_CNT :=
    (State.sameBut_of_outside (p := { regs := is Reg.HIF_CMD_STAT, host := true }) (s.setInflight_outside rest ⟨rfl, rfl⟩)).reg _ (by
      unfold is
      decide)
  rw [State.completed, State.fld_congr (State.reg_checkResume_cnt _ q), ← State.completionPut,
    State.fld_count_self _ _ ⟨by decide, by decide⟩, State.fld_congr (put.trans flight)]

/-! ### The BOOT of a RELOAD (R417) -/

/-- No register outside the AON domain survives a WARM reset. -/
theorem find_aonRegs (m : Store Word) : Store.find (m.filter (fun e => (descAt e.1).any (fun d => d.1.aon))) Reg.BOOT_STAT = none := by
  induction m with
  | nil => rfl
  | cons e m ih =>
    rw [List.filter_cons]
    split
    next kept =>
      have apart : e.1 ≠ Reg.BOOT_STAT := fun h => by
        rw [h] at kept
        exact absurd kept (by decide)
      rw [Store.find, if_neg apart, ih]
    next => exact ih

theorem State.bootStat_warmReset (s : State) (keepLink : Bool) : (s.warmReset keepLink).reg Reg.BOOT_STAT = 0 := by
  have shown : (s.warmReset keepLink).reg Reg.BOOT_STAT = (s.warmBase keepLink).reg Reg.BOOT_STAT := by
    rw [State.warmReset_eq, (State.sameBut_of_outside (p := { Parts.registers with regs := fun r => r ≠ Reg.BOOT_STAT })
      (State.showRemap_outside _ ⟨fun n => eccRemap_ne (by decide) n, by decide⟩)).reg _ (fun hn => hn rfl), State.warmShown,
      State.reg_setFld_other _ (by decide), State.reg_setReg_other _ (by decide), State.reg_setReg_other _ (by decide)]
  rw [shown, State.reg, Store.get]
  refine (congrArg (fun o => Option.getD o _) (find_aonRegs s.regs)).trans ?_
  exact regReset_bootStat (s.warmBase keepLink).fac

theorem State.bootPhase_beginBoot (s : State) (cause : Nat) : (s.beginBoot cause).bootPhase = s.bootPhase := by
  refine (State.fld_setFld_apart _ _ ⟨by decide, by decide⟩ (by decide) (by decide) _).trans (State.fld_congr ?_ _)
  exact (State.withBoot_sameBut s _).reg _ (fun hn => hn)

theorem State.reloaded_shows (s : State) :
    ((s.warmReset true).beginBoot 2).bootPhase = 0 ∧
      ((s.warmReset true).beginBoot 2).fld Reg.BOOT_STAT Fld.BOOT_STAT_CAUSE = 2 ∧
      ((s.warmReset true).beginBoot 2).cells = s.cells ∧ ((s.warmReset true).beginBoot 2).pending = s.pending ∧
      ((s.warmReset true).beginBoot 2).fac = s.fac := by
  have warm := s.warmReset_sameBut true
  have begun := (s.warmReset true).beginBoot_sameBut 2
  refine ⟨?_, State.cause_beginBoot _ _, (begun.cells rfl).trans (warm.cells rfl), begun.pending.trans warm.pending,
    begun.fac.trans warm.fac⟩
  rw [State.bootPhase_beginBoot, State.bootPhase, State.fld, State.bootStat_warmReset]
  decide

theorem State.setInflight_sameBut (s : State) (l : List InFlight) :
    s.SameBut { regs := is Reg.HIF_CMD_STAT, host := true } (s.setInflight l) :=
  State.sameBut_of_outside (s.setInflight_outside l ⟨rfl, rfl⟩)

/-- The completion takes the command from the flight and leaves the DRAM, the queue and the factory values. -/
theorem State.completed_keeps (s : State) (e : InFlight) (rest : List InFlight) (c : Completion) (q : Nat) :
    (s.completed e rest c q).host.inflight = rest ∧ (s.completed e rest c q).cells = s.cells ∧
      (s.completed e rest c q).pending = s.pending ∧ (s.completed e rest c q).fac = s.fac := by
  have same := s.completed_sameBut e rest c q
  exact ⟨(congrArg HostUnit.inflight (same.host rfl)).trans (s.inflight_setInflight rest), (same.cells rfl).trans ((s.setInflight_sameBut rest).cells rfl),
    same.pending.trans (s.setInflight_sameBut rest).pending, same.fac.trans (s.setInflight_sameBut rest).fac⟩

theorem completion_leaves {s : State} {e : InFlight} {rest : List InFlight} {c : Completion} {q : Nat}
    (h : s.host.inflight = e :: rest) (hd : e.done = some c) (hq : s.canWrite 6 = some q) (hmc : s.bootu.mcRunning = true)
    (hother : e.opcode ≠ 0x0003 ∨ e.target ≠ 0 ∨ c.status ≠ stOk)
    (hroom : s.completionPlaces e rest c q ≤ (s.setInflight rest).eqFree q) :
    ∃ t, exec .completion s = .next t ∧ t.host.inflight = rest ∧
      t.fld Reg.HIF_CMD_CNT Fld.HIF_CMD_CNT_COUNT =
        satInc (fieldWidth Fld.HIF_CMD_CNT_COUNT) (s.fld Reg.HIF_CMD_CNT Fld.HIF_CMD_CNT_COUNT) := by
  have plain : ¬(e.opcode = 0x0003 ∧ e.target = 0 ∧ c.status = stOk) := fun ⟨ho, ht, hs⟩ =>
    hother.elim (fun hn => hn ho) (fun hn => hn.elim (fun hn => hn ht) (fun hn => hn hs))
  obtain ⟨hflight, -, hpending, hfac⟩ := s.completed_keeps e rest c q
  refine ⟨s.completed e rest c q, ?_, hflight, s.cnt_completed e rest c q⟩
  show s.effect (completion s) = _
  rw [completion_eq h hd hq hmc hroom, if_neg plain]
  exact State.effect_of_kept hpending hfac

theorem completion_reloads {s : State} {e : InFlight} {rest : List InFlight} {c : Completion} {q : Nat}
    (h : s.host.inflight = e :: rest) (hd : e.done = some c) (hq : s.canWrite 6 = some q) (hmc : s.bootu.mcRunning = true)
    (hreload : e.opcode = 0x0003 ∧ e.target = 0 ∧ c.status = stOk)
    (hroom : s.completionPlaces e rest c q ≤ (s.setInflight rest).eqFree q) :
    ∃ t, exec .completion s = .next t ∧ t.bootPhase = 0 ∧ t.fld Reg.BOOT_STAT Fld.BOOT_STAT_CAUSE = 2 ∧ t.cells = s.cells := by
  obtain ⟨-, kcells, kpending, kfac⟩ := s.completed_keeps e rest c q
  obtain ⟨hphase, hcause, hcells, hpending, hfac⟩ := (s.completed e rest c q).reloaded_shows
  refine ⟨((s.completed e rest c q).warmReset true).beginBoot 2, ?_, hphase, hcause, hcells.trans kcells⟩
  show s.effect (completion s) = _
  rw [completion_eq h hd hq hmc hroom, if_pos hreload]
  exact State.effect_of_kept (hpending.trans kpending) (hfac.trans kfac)

/-! ### The commands' answers -/

theorem eqCfgEnable_answers {s : State} (hb : s.bootFailed = false) (hh : hasHost s.fac.variant = true) (q : Nat) (v : Word) :
    exec (.eqCfgEnable q v) s = .next (eqCfgEnable (s.reach 9) q v) := by
  have answer : s.effect (s.whenOpen (eqCfgEnable (s.reach 9) q v)) = .next (eqCfgEnable (s.reach 9) q v) :=
    State.answer_open (P := Parts.all) hb ((eqCfgEnable_outside (s.reach 9) q v (by simp [Parts.all])).trans (s.reach_outside_all 9))
  rw [← State.reachIf_host hh] at answer ⊢
  exact answer

theorem eqTailWrite_answers {s : State} (hb : s.bootFailed = false) (hh : hasHost s.fac.variant = true) (q v : Nat) :
    exec (.eqTailWrite q v) s = .next (eqTailWrite (s.reach 9) q v) := by
  have answer : s.effect (s.whenOpen (eqTailWrite (s.reach 9) q v)) = .next (eqTailWrite (s.reach 9) q v) :=
    State.answer_open (P := Parts.all) hb ((eqTailWrite_outside (s.reach 9) q v (by simp [Parts.all])).trans (s.reach_outside_all 9))
  rw [← State.reachIf_host hh] at answer ⊢
  exact answer

theorem eventRecordWrite_answers (s : State) : exec .eventRecordWrite s = .next (eventRecordWrite s) :=
  State.effect_of_outside (P := Parts.all) (eventRecordWrite_outside s (by simp [Parts.all]))

theorem eventDeferredDelivery_answers (s : State) : exec .eventDeferredDelivery s = .next (eventDeferredDelivery s) :=
  State.effect_of_outside (P := Parts.all) (eventDeferredDelivery_outside s (by simp [Parts.all]))

/-- What a queue shows and holds stands when its block is reached. -/
theorem State.queue_reach {s : State} {q : Nat} (hq : q < 4) :
    (hasHost (s.reach 9).fac.variant = hasHost s.fac.variant) ∧ (s.reach 9).eqU q = s.eqU q ∧ (s.reach 9).eqOn q = s.eqOn q ∧
      (s.reach 9).eqSize q = s.eqSize q ∧ (s.reach 9).reg (Reg.EQ_TAIL q) = s.reg (Reg.EQ_TAIL q) ∧
      (s.reach 9).reg (Reg.EQ_STAT q) = s.reg (Reg.EQ_STAT q) := by
  obtain ⟨htail, hcfg, hstat⟩ := eqReg_hif hq
  have fac : (s.reach 9).fac = s.fac := (State.sameBut_of_outside (s.reach_outside_all 9)).fac
  have queues : (s.reach 9).queues = s.queues :=
    (State.sameBut_of_outside (p := { Parts.all with queues := false }) (s.reach_outside 9 (by simp [Parts.all, Parts.emits]))).queues rfl
  have cfg := s.reg_reach_hif 9 hcfg
  refine ⟨by rw [fac], ?_, ?_, ?_, s.reg_reach_hif 9 htail, s.reg_reach_hif 9 hstat⟩
  · unfold State.eqU
    rw [queues]
  · unfold State.eqOn
    rw [fac, State.flag_congr cfg]
  · unfold State.eqSize
    rw [State.fld_congr cfg]

theorem State.eqU_raise (s : State) (a : Nat) (f : Field) (q : Nat) : (s.raise a f).eqU q = s.eqU q := by
  unfold State.eqU
  rw [(State.sameBut_of_outside (p := Parts.registers) (s.raise_outside a f trivial)).queues rfl]

theorem eqTailWrite_rejects {s : State} {q v : Nat} (hb : s.bootFailed = false) (hh : hasHost s.fac.variant = true) (hq : q < 4)
    (hv : s.eqSize q ≤ v) :
    ∃ t, exec (.eqTailWrite q v) s = .next t ∧ t.flag (Reg.EQ_STAT q) Fld.EQ_STAT_TAIL_ERR = true ∧
      t.reg (Reg.EQ_TAIL q) = s.reg (Reg.EQ_TAIL q) ∧ t.eqU q = s.eqU q := by
  obtain ⟨hvar, hunit, -, hsize, htail, -⟩ := State.queue_reach (s := s) hq
  refine ⟨(s.reach 9).raise (Reg.EQ_STAT q) Fld.EQ_STAT_TAIL_ERR, ?_, State.flag_raise _ _ ⟨by decide, by decide⟩,
    (State.reg_raise_other _ (eqReg_apart q q).2.2.1 _).trans htail, (State.eqU_raise _ _ _ q).trans hunit⟩
  rw [eqTailWrite_answers hb hh, eqTailWrite_rejected ((congrArg (· = true) hvar).mpr hh) hq (Nat.le_trans (Nat.le_of_eq hsize) hv)]

theorem eqTailWrite_frees {s : State} {q v : Nat} (hb : s.bootFailed = false) (hh : hasHost s.fac.variant = true) (hq : q < 4)
    (hv : v < s.eqSize q)
    (hback : (v + s.eqSize q - s.fld (Reg.EQ_TAIL q) Fld.EQ_TAIL_TAIL) % s.eqSize q ≤ (s.eqU q).written) :
    ∃ t, exec (.eqTailWrite q v) s = .next t ∧
      t.fld (Reg.EQ_TAIL q) Fld.EQ_TAIL_TAIL = v % 2 ^ fieldWidth Fld.EQ_TAIL_TAIL ∧
      t.fld (Reg.EQ_STAT q) Fld.EQ_STAT_TAIL_ERR = s.fld (Reg.EQ_STAT q) Fld.EQ_STAT_TAIL_ERR := by
  obtain ⟨hvar, hunit, -, hsize, htail, hstat⟩ := State.queue_reach (s := s) hq
  have back : (v + (s.reach 9).eqSize q - (s.reach 9).fld (Reg.EQ_TAIL q) Fld.EQ_TAIL_TAIL) % (s.reach 9).eqSize q ≤
      ((s.reach 9).eqU q).written := by
    rw [hsize, hunit, State.fld_congr htail]
    exact hback
  obtain ⟨hmoved, hkept⟩ := eqTailWrite_taken_shows ((congrArg (· = true) hvar).mpr hh) hq (Nat.lt_of_lt_of_eq hv hsize.symm) back
  exact ⟨_, eqTailWrite_answers hb hh q v, hmoved, hkept.trans (State.fld_congr hstat _)⟩

/-- Settles O59: a queue by its own registers, delivery by the oldest record, a completion by the records that it writes. -/
theorem eventQueues : Obligations.EventQueues := by
  unfold Obligations.EventQueues
  refine ⟨fun s q v hb hh hq => ?_, fun s q v hb hh hq hv => eqTailWrite_rejects hb hh hq hv,
    fun s q v hb hh hq hv _ hback => eqTailWrite_frees hb hh hq hv hback,
    fun s r rest q h hp hq => ⟨_, eventRecordWrite_answers s, eventRecordWrite_queued h hp hq⟩,
    fun s r rest h hp hq => ⟨_, eventRecordWrite_answers s, eventRecordWrite_waits h hp hq⟩,
    fun s r rest home h hp hq => ⟨_, eventRecordWrite_answers s, eventRecordWrite_sent h hp hq⟩,
    fun s => ⟨_, eventDeferredDelivery_answers s, s.deliverRecs_suffix _⟩,
    fun s r rest q h hp hq => ⟨_, eventDeferredDelivery_answers s, eventDeferredDelivery_suffix h hp hq⟩,
    fun s origin tag r h h0 h1 hloss hnone => ⟨_, eventPacketRx_answers s origin tag r, eventPacketRx_refused h h0 h1 hloss hnone⟩,
    fun s origin tag q r h h0 h1 hp hq => ⟨_, eventPacketRx_answers s origin tag r, eventPacketRx_taken h h0 h1 hp hq⟩,
    fun s origin tag r a h => ⟨_, eventPacketRx_answers s origin tag r, eventPacketRx_repeat h r⟩,
    fun s origin tag r h ht => ⟨_, eventPacketRx_answers s origin tag r, ?_⟩,
    fun s e rest c q h hd hq hmc hother hroom => completion_leaves h hd hq hmc hother hroom,
    fun s e rest c q h hd hq hmc ho ht hs hroom => completion_reloads h hd hq hmc ⟨ho, ht, hs⟩ hroom⟩
  · obtain ⟨hvar, -, hon, -, -, -⟩ := State.queue_reach (s := s) hq
    refine ⟨_, eqCfgEnable_answers hb hh q v, ?_⟩
    rw [← hon]
    exact eqCfgEnable_shows (hvar.trans hh) hq v
  · rw [eventPacketRx_part h ht, State.ackEvent, State.host_answer]
    rfl

end Sys2Proof.Machine
end

section
set_option Elab.async false
/-!
PROOF. Accesses and commands over the fabric (O47).
-/
namespace Sys2Proof.Machine

/-! ### What sending leaves of the fabric's unit -/

/-- A request has gone out this many times, the last at this time. -/
def State.sent (s : State) (tag dst tries : Nat) (u : Time) : Prop :=
  ∃ q ∈ s.fab.reqs, q.tag = tag ∧ q.dst = dst ∧ q.tries = tries ∧ q.at_ = u

section
variable {s t : State} {tag dst tries : Nat} {u : Time}

theorem State.sent_congr (h : t.fab.reqs = s.fab.reqs) (hs : s.sent tag dst tries u) : t.sent tag dst tries u := by
  rwa [State.sent, h]

/-- The requests that leave for the first time are others. -/
theorem State.sent_pumpRequests (htries : tries ≠ 0) (hs : s.sent tag dst tries u) : s.pumpRequests.sent tag dst tries u := by
  unfold State.pumpRequests
  refine List.foldlRecOn (motive := fun (v : State) => v.sent tag dst tries u) _ _ hs fun v hv r _ => ?_
  dsimp only
  split
  · refine State.sent_congr (congrArg FabUnit.reqs (State.fab_inject _ _)) ?_
    obtain ⟨q, hq, htag, hdst, hq2, hat⟩ := hv
    refine ⟨q, List.mem_map.2 ⟨q, hq, if_neg fun hfirst => htries (hq2 ▸ hfirst.2.2)⟩, htag, hdst, hq2, hat⟩
  · exact hv

theorem State.sent_request (htries : tries ≠ 0) (hs : s.sent tag dst tries u) (client : Client) (pk : Packet) :
    (s.request client pk).sent tag dst tries u := by
  obtain ⟨q, hq, hsent⟩ := hs
  exact State.sent_pumpRequests htries ⟨q, List.mem_append_left _ hq, hsent⟩

theorem State.sent_askInfo (htries : tries ≠ 0) (hs : s.sent tag dst tries u) (die : Nat) (way : List Nat) :
    (s.askInfo die way).sent tag dst tries u := by
  unfold State.askInfo
  split
  · exact hs
  · refine State.sent_request htries ?_ _ _
    exact hs

end

theorem State.reqs_showSource (s : State) : s.showSource.fab = s.fab :=
  (State.sameBut_of_outside (p := { Parts.all with fab := false }) (s.showSource_outside (by simp [Parts.all]))).fab rfl

/-- A clock source that is taken only marks a repair in the fabric's unit. -/
theorem State.reqs_takeSource (s : State) (c : Nat) : (s.takeSource c).fab.reqs = s.fab.reqs := by
  unfold State.takeSource
  dsimp only
  refine (congrArg FabUnit.reqs (State.reqs_showSource _)).trans ?_
  rfl

theorem State.reqs_selectSource (s : State) (c : Nat) : (s.selectSource c).fab.reqs = s.fab.reqs := by
  unfold State.selectSource
  dsimp only
  split
  · rfl
  · split
    · rfl
    · split
      · rfl
      · exact s.reqs_takeSource c

theorem State.fab_sendMgmt (s : State) (d : Dev) (op : Nat) (name : String) (values : List Int) :
    (s.sendMgmt d op name values).fab = s.fab :=
  (State.sameBut_of_outside (p := { Parts.all with fab := false }) (s.sendMgmt_outside d op name values (by simp [Parts.all]))).fab rfl

/-- The manager's next move sends requests of its own alone. -/
theorem State.sent_nextMove {s : State} {tag dst tries : Nat} {u : Time} (htries : tries ≠ 0) (hs : s.sent tag dst tries u) :
    s.nextMove.sent tag dst tries u := by
  unfold State.nextMove
  dsimp only
  split
  · exact hs
  · split
    · exact hs
    · split
      · exact State.sent_congr (State.reqs_selectSource _ _) hs
      · split
        · exact hs
        · refine State.sent_askInfo htries (State.sent_congr (congrArg FabUnit.reqs (State.fab_sendMgmt _ _ _ _ _)) ?_) _ _
          exact hs

/-! ### Answers that are kept -/

theorem State.answers_pumpRequests (s : State) : s.pumpRequests.fab.answers = s.fab.answers := by
  unfold State.pumpRequests
  refine List.foldlRecOn (motive := fun (v : State) => v.fab.answers = s.fab.answers) _ _ rfl fun v hv r _ => ?_
  dsimp only
  split
  · exact (congrArg FabUnit.answers (State.fab_inject _ _)).trans hv
  · exact hv

theorem State.answers_request (s : State) (client : Client) (pk : Packet) : (s.request client pk).fab.answers = s.fab.answers :=
  State.answers_pumpRequests _

theorem State.answers_sendEvent (s : State) (home : Nat) (r : Rec) : (s.sendEvent home r).fab.answers = s.fab.answers :=
  State.answers_request _ _ _

theorem State.answers_settle_remote (s : State) (dev op tag : Nat) (c : Completion) :
    (s.settle (.remote dev) op tag c).fab.answers = s.fab.answers :=
  List.foldlRecOn (motive := fun (v : State) => v.fab.answers = s.fab.answers) _ _ rfl
    fun v hv _ _ => (State.answers_sendEvent v _ _).trans hv

theorem State.answer_keeps (s : State) (src tag : Nat) (pk : Packet) :
    ∃ a ∈ (s.answer src tag pk).fab.answers, a.src = src ∧ a.tag = tag ∧ a.pkt = pk := by
  unfold State.answer
  simp only
  rw [State.fab_inject]
  exact ⟨_, List.mem_append_right _ List.mem_cons_self, rfl, rfl, rfl⟩

/-! ### READ and WRITE (R354, R355) -/

theorem readPacketRx_fresh {s : State} {pkt : Packet} (h : s.keptAnswer pkt.src pkt.tag = none) :
    readPacketRx s pkt = (s.readPacket pkt).2.answer pkt.src pkt.tag (pkt.response (s.readPacket pkt).1.1
      ((s.readPacket pkt).1.2.map (·.1)) ((s.readPacket pkt).1.2.map (·.2))) := by
  rw [readPacketRx, h]

theorem readPacketRx_again {s : State} {pkt a : Packet} (h : s.keptAnswer pkt.src pkt.tag = some a) :
    readPacketRx s pkt = s.inject a := by
  rw [readPacketRx, h]

theorem writePacketRx_fresh {s : State} {pkt : Packet} (h : s.keptAnswer pkt.src pkt.tag = none) :
    writePacketRx s pkt = (s.writePacket pkt).2.answer pkt.src pkt.tag (pkt.response (s.writePacket pkt).1 [] []) := by
  rw [writePacketRx, h]

theorem writePacketRx_again {s : State} {pkt a : Packet} (h : s.keptAnswer pkt.src pkt.tag = some a) :
    writePacketRx s pkt = s.inject a := by
  rw [writePacketRx, h]

/-- An answer sent again writes no record and no cell, and keeps the answers. -/
theorem State.inject_keeps (s : State) (pk : Packet) :
    (s.inject pk).cells = s.cells ∧ (s.inject pk).fab.answers = s.fab.answers ∧ (s.inject pk).recs = s.recs := by
  have kept := State.sameBut_of_outside (p := { Parts.all with cells := false, recs := false, fab := false })
    (s.inject_outside pk (by simp [Parts.all]))
  exact ⟨kept.cells rfl, congrArg FabUnit.answers (kept.fab rfl), kept.recs rfl⟩

theorem State.cellAt_answer (s : State) (src tag : Nat) (pk : Packet) (a : Nat) : (s.answer src tag pk).cellAt a = s.cellAt a :=
  State.cellAt_of_outside (s.answer_outside src tag pk (by simp [Parts.butCells, Parts.all])) a

/-- A WRITE of DRAM stores its own cells. -/
theorem State.cellAt_writePacket {s : State} {pkt : Packet} (hdram : pkt.toDram = true) {a : Nat} (ha : a ∉ s.packetCells pkt) :
    (s.writePacket pkt).2.cellAt a = s.cellAt a := by
  rw [State.writePacket, if_pos hdram]
  split
  · rfl
  · refine List.foldlRecOn (motive := fun (v : State) => v.cellAt a = s.cellAt a) _ _ rfl fun v hv p hp => ?_
    have hmem : p.1 ∈ s.packetCells pkt := (List.mem_zipIdx' hp).2 ▸ List.getElem_mem _
    exact (cellAt_fullCellWrite_other v _ _ _ _ fun (h : a = p.1) => ha (h ▸ hmem)).trans hv

/-! ### The end of a request (R355, R394, R395) -/

theorem responseRx_command {s : State} {pkt : Packet} {r : OutReq} {src : CmdSrc} {op tag size : Nat}
    (h : s.findRequest pkt.tag pkt.src = some r) (hc : r.client = .command src op tag size) :
    responseRx s pkt = (s.dropRequest pkt.tag pkt.src).settle src op tag (accessCompletion op size pkt) := by
  simp only [responseRx, h, hc]

/-- A request that is given up leaves the time and the host's unit. -/
theorem State.dropRequest_keeps (s : State) (tag dst : Nat) :
    (s.dropRequest tag dst).time = s.time ∧ (s.dropRequest tag dst).host = s.host := by
  have kept := State.sameBut_of_outside (p := { Parts.all with time := false, host := false })
    (s.dropRequest_outside tag dst (by simp [Parts.all]))
  exact ⟨kept.time rfl, kept.host rfl⟩

/-- The command of an access is decided by the answer. -/
theorem responseRx_decides {s : State} {pkt : Packet} {r : OutReq} {op tag size : Nat} (htakes : s.takes op tag = true)
    (h : s.findRequest pkt.tag pkt.src = some r) (hc : r.client = .command .ring op tag size) :
    (responseRx s pkt).decided op tag { accessCompletion op size pkt with time := s.time } := by
  obtain ⟨htime, hhost⟩ := s.dropRequest_keeps pkt.tag pkt.src
  rw [responseRx_command h hc, ← htime]
  exact State.decided_settle ((State.takes_congr (congrArg HostUnit.inflight hhost) op tag).trans htakes) _

/-- The request that REQUEST_TIMEOUT finds. -/
noncomputable def State.overdue (s : State) (tag : Nat) : Option OutReq :=
  s.fab.reqs.find? (fun q => q.tag == tag && decide (0 < q.tries) && decide (s.tmo ≤ (s.time - q.at_).toNat))

/-- What a request that went unanswered twice leaves its client. -/
noncomputable def State.givenUp (s : State) (tag : Nat) (r : OutReq) : State :=
  match r.client with
  | .command src op t _ | .forward src op t => s.settle src op t { status := stRefused, detail := 10 }
  | .event => s.eventBack tag
  | .stream sid => s.askAgain sid
  | .mgmt => s

/-- A request is dropped and its timeout counted and shown. -/
noncomputable def State.timedOut (s : State) (r : OutReq) : State :=
  ((s.dropRequest r.tag r.dst).count Reg.FAB_CNT Fld.FAB_CNT_TIMEOUTS).raise Reg.FAB_STAT Fld.FAB_STAT_TIMEOUT_S

theorem requestTimeout_second {s : State} {tag : Nat} {r : OutReq} (h : s.overdue tag = some r) (hr : r.tries ≠ 1) :
    requestTimeout s tag = (s.timedOut r).givenUp tag r := by
  rw [State.overdue] at h
  rw [requestTimeout, h]
  exact if_neg hr

theorem requestTimeout_first {s : State} {tag : Nat} {r : OutReq} (h : s.overdue tag = some r) (hr : r.tries = 1) :
    (requestTimeout s tag).sent r.tag r.dst 2 s.time := by
  rw [State.overdue] at h
  rw [requestTimeout, h]
  simp only [if_pos hr]
  refine State.sent_congr (congrArg FabUnit.reqs (State.fab_inject _ _)) ?_
  exact ⟨_, List.mem_map.2 ⟨r, List.mem_of_find?_eq_some h, if_pos ⟨rfl, rfl⟩⟩, rfl, rfl, rfl, rfl⟩

theorem State.reg_givenUp (s : State) (tag : Nat) (r : OutReq) {a : Nat} (ha : a = Reg.FAB_STAT ∨ a = Reg.FAB_CNT) :
    (s.givenUp tag r).reg a = s.reg a := by
  have settled : ∀ src op t c, (s.settle src op t c).reg a = s.reg a := fun src op t c =>
    State.reg_of_sparing (kept := fun a => a = Reg.FAB_STAT ∨ a = Reg.FAB_CNT)
      (s.settle_outside src op t c (by simp +decide (disch := decide) [Parts.sparing, Parts.all, fpUtil_ne])) ha
  unfold State.givenUp
  split
  · exact settled _ _ _ _
  · exact settled _ _ _ _
  · exact State.reg_of_sparing (kept := fun a => a = Reg.FAB_STAT ∨ a = Reg.FAB_CNT)
      (s.eventBack_outside tag (by simp +decide [Parts.sparing, Parts.all, Parts.emits])) ha
  · exact (State.sameBut_of_outside (p := { streams := true }) (s.askAgain_outside _ rfl)).reg a not_false
  · rfl

/-! ### FAB_STAT where the clock source changes (R368) -/

/-- A field of FAB_STAT but the depth of the clock. -/
def offDepth (f : Field) : Prop := f.lo ≤ f.hi ∧ (Fld.FAB_STAT_DEPTH.hi < f.lo ∨ f.hi < Fld.FAB_STAT_DEPTH.lo)

section
variable {f : Field} (hf : offDepth f)
include hf

theorem State.fabStat_showSource (s : State) : s.showSource.fld Reg.FAB_STAT f = s.fld Reg.FAB_STAT f := by
  have apart : ∀ p, Reg.FAB_STAT ≠ Reg.FP_STAT p := fun p => (fpStat_ne (by decide) p).symm
  have shown : ∀ l : List Nat, ((l.foldl (fun (u : State) p => if hasFp u.fac.variant p then
      u.setFld (Reg.FP_STAT p) Fld.FP_STAT_CLKSRC (bit (s.clkSel == p + 1)) else u) s)).reg Reg.FAB_STAT = s.reg Reg.FAB_STAT := fun l =>
    List.foldlRecOn (motive := fun u : State => u.reg Reg.FAB_STAT = s.reg Reg.FAB_STAT) l _ rfl fun u hu p _ => by
      split
      · exact (u.reg_setFld_other (apart p) _ _).trans hu
      · exact hu
  unfold State.showSource
  dsimp only
  refine List.foldlRecOn (motive := fun u : State => u.fld Reg.FAB_STAT f = s.fld Reg.FAB_STAT f) _ _ ?_ fun u hu p _ => ?_
  · rw [State.fld_setFld_apart _ _ ⟨by decide, by decide⟩ hf.1 hf.2, State.fld_congr (shown _)]
  · split
    · exact hu
    · exact (State.fld_congr (u.reg_setFld_other (by decide) _ _) f).trans hu

theorem State.fabStat_takeSource (s : State) (c : Nat) : (s.takeSource c).fld Reg.FAB_STAT f = s.fld Reg.FAB_STAT f := by
  unfold State.takeSource
  dsimp only
  rw [State.fabStat_showSource hf, State.fld_congr (State.reg_setFld_other _ (by decide) _ _)]
  rfl

theorem State.fabStat_selectSource (s : State) (c : Nat) : (s.selectSource c).fld Reg.FAB_STAT f = s.fld Reg.FAB_STAT f := by
  unfold State.selectSource
  dsimp only
  split
  · rw [State.fld_congr (State.reg_raise_other _ (by decide) _), State.fld_congr (State.reg_setFld_other _ (by decide) _ _)]
  · split
    · rw [State.fld_congr (State.reg_setFld_other _ (by decide) _ _)]
    · rw [State.fld_congr (State.reg_setFld_other _ (by decide) _ _)]
      split
      · rfl
      · exact State.fabStat_takeSource hf s c

omit hf in
theorem State.fabStat_sendMgmt (s : State) (d : Dev) (op : Nat) (name : String) (values : List Int) :
    (s.sendMgmt d op name values).reg Reg.FAB_STAT = s.reg Reg.FAB_STAT :=
  State.reg_of_sparing (kept := fun a => a = Reg.FAB_STAT) (s.sendMgmt_outside d op name values (by
    simp +decide (disch := decide) [Parts.sparing, Parts.all, fpUtil_ne])) rfl

omit hf in
theorem State.fabStat_askInfo (s : State) (die : Nat) (way : List Nat) : (s.askInfo die way).reg Reg.FAB_STAT = s.reg Reg.FAB_STAT :=
  State.reg_of_sparing (kept := fun a => a = Reg.FAB_STAT) (s.askInfo_outside die way (by
    simp +decide (disch := decide) [Parts.sparing, Parts.all, fpUtil_ne])) rfl

/-- The manager's next move changes no more of FAB_STAT than the depth. -/
theorem State.fabStat_nextMove (s : State) : s.nextMove.fld Reg.FAB_STAT f = s.fld Reg.FAB_STAT f := by
  unfold State.nextMove
  dsimp only
  split
  · rfl
  · split
    · rfl
    · split
      · exact State.fabStat_selectSource hf _ _
      · split
        · rfl
        · rw [State.fld_congr (State.fabStat_askInfo _ _ _), State.fld_congr (State.fabStat_sendMgmt _ _ _ _ _)]
          rfl

end

theorem State.fabCnt_nextMove (s : State) : s.nextMove.reg Reg.FAB_CNT = s.reg Reg.FAB_CNT :=
  State.reg_of_sparing (kept := fun a => a = Reg.FAB_CNT) (s.nextMove_outside (by
    simp +decide (disch := decide) [Parts.sparing, Parts.all, fpUtil_ne, fpStat_ne])) rfl

theorem State.host_nextMove (s : State) : s.nextMove.host = s.host :=
  (State.sameBut_of_outside (p := { Parts.all with host := false }) (s.nextMove_outside (by simp [Parts.all]))).host rfl

/-- A request that is given up shows the timeout and counts it. -/
theorem requestTimedOut_shows {s : State} {tag : Nat} {r : OutReq} (h : s.overdue tag = some r) (hr : r.tries ≠ 1) :
    (requestTimedOut s tag).flag Reg.FAB_STAT Fld.FAB_STAT_TIMEOUT_S = true ∧
      (requestTimedOut s tag).fld Reg.FAB_CNT Fld.FAB_CNT_TIMEOUTS =
        satInc (fieldWidth Fld.FAB_CNT_TIMEOUTS) (s.fld Reg.FAB_CNT Fld.FAB_CNT_TIMEOUTS) := by
  have dropped : (s.dropRequest r.tag r.dst).reg Reg.FAB_CNT = s.reg Reg.FAB_CNT :=
    State.reg_of_sparing (kept := fun a => a = Reg.FAB_CNT) (s.dropRequest_outside r.tag r.dst (by
      simp +decide (disch := decide) [Parts.sparing, Parts.all, fpUtil_ne])) rfl
  rw [requestTimedOut, requestTimeout_second h hr]
  constructor
  · rw [State.flag, State.fabStat_nextMove ⟨by decide, by decide⟩, ← State.flag, State.flag_congr (State.reg_givenUp _ _ _ (.inl rfl)),
      State.timedOut, State.flag_raise _ _ ⟨by decide, by decide⟩]
  · rw [State.fld_congr (State.fabCnt_nextMove _), State.fld_congr (State.reg_givenUp _ _ _ (.inr rfl)), State.timedOut,
      State.fld_congr (State.reg_raise_other _ (by decide) _), State.fld_count_self _ _ ⟨by decide, by decide⟩, State.fld_congr dropped]

/-- What counting a timeout leaves: the time and the host's unit. -/
theorem State.timedOut_keeps (s : State) (r : OutReq) : (s.timedOut r).time = s.time ∧ (s.timedOut r).host = s.host := by
  obtain ⟨htime, hhost⟩ := s.dropRequest_keeps r.tag r.dst
  have counted : (s.dropRequest r.tag r.dst).SameBut Parts.registers (s.timedOut r) := State.sameBut_of_outside (by
    rw [State.timedOut, State.raise_outside _ _ _ trivial, State.count_outside _ _ _ trivial])
  exact ⟨(counted.time rfl).trans htime, (counted.host rfl).trans hhost⟩

/-- The ring's command that waited for the request is refused. -/
theorem requestTimedOut_decides {s : State} {tag : Nat} {r : OutReq} (h : s.overdue tag = some r) (hr : r.tries ≠ 1) {op k n : Nat}
    (hc : r.client = .command .ring op k n) (htakes : s.takes op k = true) :
    (requestTimedOut s tag).decided op k { status := stRefused, detail := 10, time := s.time } := by
  obtain ⟨htime, hhost⟩ := s.timedOut_keeps r
  have settled : (s.timedOut r).givenUp tag r = (s.timedOut r).settle .ring op k { status := stRefused, detail := 10 } := by
    simp only [State.givenUp, hc]
  have done := State.decided_settle ((State.takes_congr (congrArg HostUnit.inflight hhost) op k).trans htakes)
    { status := stRefused, detail := 10 }
  rw [requestTimedOut, requestTimeout_second h hr, settled, State.decided, State.host_nextMove, ← htime]
  exact done

/-! ### Commands that arrive (R394) -/

theorem commandPacketRx_answered {s : State} {origin tag : Nat} (hmc : s.bootu.mcRunning = true)
    (h : s.keptAnswer origin (tag % 256) = none) (d : BitVec 256) :
    ∃ a ∈ (commandPacketRx s origin tag d).fab.answers, a.src = origin ∧ a.tag = tag % 256 := by
  obtain ⟨a, ha, hsrc, htag, -⟩ := s.answer_keeps origin (tag % 256)
    (Packet.response { ptype := ptCommand, dst := s.ownAddr, src := origin, tspec := tag % 256 } 0 [] [])
  refine ⟨a, ?_, hsrc, htag⟩
  unfold commandPacketRx
  rw [if_neg (by simp [hmc])]
  simp only [h]
  split
  · exact (State.answers_settle_remote _ _ _ _ _).symm ▸ ha
  · split
    · exact (State.answers_settle_remote _ _ _ _ _).symm ▸ ha
    · exact ha

/-! ### The commands' answers -/

theorem readPacketRx_answers (s : State) (pkt : Packet) : exec (.readPacketRx pkt) s = .next (readPacketRx s pkt) :=
  State.effect_of_outside (P := Parts.all) (readPacketRx_outside s pkt (by simp [Parts.all, Parts.emits]))

/-- A WRITE of DRAM has a frame. -/
theorem State.writePacket_outside_all {s : State} {pkt : Packet} (hdram : pkt.toDram = true) :
    (s.writePacket pkt).2.outside Parts.all = s.outside Parts.all := by
  rw [State.writePacket, if_pos hdram]
  split
  · rfl
  · exact State.foldl_outside (fun u p => fullCellWrite_outside u _ _ _ _ _ (by simp [Parts.all])) _ _

theorem writePacketRx_stores {s : State} {pkt : Packet} (hdram : pkt.toDram = true) (h : s.keptAnswer pkt.src pkt.tag = none) :
    ∃ t, exec (.writePacketRx pkt) s = .next t ∧
      (∃ a ∈ t.fab.answers, a.src = pkt.src ∧ a.tag = pkt.tag ∧ a.pkt = pkt.response (s.writePacket pkt).1 [] []) ∧
      ∀ a, a ∉ s.packetCells pkt → t.cellAt a = s.cellAt a := by
  have frame : (writePacketRx s pkt).outside Parts.all = s.outside Parts.all := by
    rw [writePacketRx_fresh h, State.answer_outside _ _ _ _ (by simp [Parts.all]), State.writePacket_outside_all hdram]
  refine ⟨_, State.effect_of_outside frame, ?_⟩
  rw [writePacketRx_fresh h]
  exact ⟨State.answer_keeps _ _ _ _, fun a ha => (State.cellAt_answer _ _ _ _ a).trans (State.cellAt_writePacket hdram ha)⟩

theorem writePacketRx_repeats {s : State} {pkt a : Packet} (h : s.keptAnswer pkt.src pkt.tag = some a) :
    ∃ t, exec (.writePacketRx pkt) s = .next t ∧ t.cells = s.cells ∧ t.fab.answers = s.fab.answers := by
  obtain ⟨hcells, hanswers, -⟩ := s.inject_keeps a
  refine ⟨s.inject a, ?_, hcells, hanswers⟩
  show s.effect (writePacketRx s pkt) = _
  rw [writePacketRx_again h]
  exact State.effect_of_outside (P := Parts.all) (s.inject_outside a (by simp [Parts.all]))

theorem responseRx_answers (s : State) (pkt : Packet) : exec (.responseRx pkt) s = .next (responseRx s pkt) :=
  State.effect_of_outside (P := Parts.all) (responseRx_outside s pkt (by simp [Parts.all]))

theorem requestTimedOut_answers (s : State) (tag : Nat) : exec (.requestTimeout tag) s = .next (requestTimedOut s tag) :=
  State.effect_of_outside (P := Parts.all) (requestTimedOut_outside s tag (by simp [Parts.all, Parts.emits]))

theorem commandPacketRx_answers (s : State) (origin tag : Nat) (d : BitVec 256) :
    exec (.commandPacketRx origin tag d) s = .next (commandPacketRx s origin tag d) :=
  State.effect_of_outside (P := Parts.all) (commandPacketRx_outside s origin tag d (by simp [Parts.all]))

/-- Settles O47: an answer is kept as it leaves, a WRITE stores its own cells, and a request ends by its answer or its second timeout. -/
theorem fabricAccess : Obligations.FabricAccess := by
  unfold Obligations.FabricAccess
  refine ⟨fun s pkt h => ⟨_, readPacketRx_answers s pkt, ?_⟩, fun s pkt h hdram => writePacketRx_stores hdram h,
    fun s pkt a h => writePacketRx_repeats h,
    fun s pkt a h => ⟨_, readPacketRx_answers s pkt, ?_⟩,
    fun s pkt r op tag size htakes h hc => ⟨_, responseRx_answers s pkt, responseRx_decides htakes h hc⟩,
    fun s tag r h hr => ⟨_, requestTimedOut_answers s tag, State.sent_nextMove (by decide) (requestTimeout_first h hr)⟩,
    fun s tag r h hr => ⟨_, requestTimedOut_answers s tag, fun op k n hc htakes => requestTimedOut_decides h hr hc htakes,
      requestTimedOut_shows h hr⟩,
    fun s origin tag d hmc h => ⟨_, commandPacketRx_answers s origin tag d, commandPacketRx_answered hmc h d⟩⟩
  · rw [readPacketRx_fresh h]
    exact State.answer_keeps _ _ _ _
  · obtain ⟨hcells, hanswers, hrecs⟩ := s.inject_keeps a
    rw [readPacketRx_again h]
    exact ⟨hcells, hanswers, hrecs⟩

end Sys2Proof.Machine
end

section
set_option Elab.async false
/-!
PROOF. What the traffic of a port leaves of it: its receiver, its neighbour, its rate and its delays.
-/
namespace Sys2Proof.Machine

/-- A port but for what sending changes: the queue, the retry buffer, credits and the shares of the link. -/
noncomputable def Port.steady (x : Port) : Port :=
  { x with txNext := 0, retry := [], nakOwed := false, credits := [], owed := [], queue := [], served := 0, dropped := [], txAt := 0,
           sending := none, utilFrom := 0, txData := 0, rxData := 0 }

/-- Traffic alone tells the ports of two states apart. -/
structure State.PortsStand (s t : State) : Prop where
  steady : ∀ q, (t.portU q).steady = (s.portU q).steady

theorem State.portU_setPort (s : State) (p : Nat) (x : Port) (q : Nat) : (s.setPort p x).portU q = if q = p then x else s.portU q :=
  Store.get_set _ _ _ _ _

theorem State.portU_setPort_self (s : State) (p : Nat) (x : Port) : (s.setPort p x).portU p = x :=
  Store.get_set_self _ _ _ _

theorem State.portU_setPort_other (s : State) {p q : Nat} (h : q ≠ p) (x : Port) : (s.setPort p x).portU q = s.portU q :=
  Store.get_set_other _ _ h _

theorem State.portU_congr {s t : State} (h : t.port = s.port) (q : Nat) : t.portU q = s.portU q := by
  rw [State.portU, State.portU, h]

/-- What changes no port. -/
theorem State.portU_of_outside {s t : State}
    (h : t.outside { Parts.all with port := false } = s.outside { Parts.all with port := false }) (q : Nat) : t.portU q = s.portU q :=
  State.portU_congr ((State.sameBut_of_outside h).port rfl) q

theorem Port.steady_told (x : Port) (u : Time) : (x.told u).steady = x.steady := rfl

section
variable {s t u : State}

theorem State.PortsStand.refl (s : State) : s.PortsStand s := ⟨fun _ => rfl⟩

theorem State.PortsStand.trans (h : s.PortsStand t) (k : t.PortsStand u) : s.PortsStand u := ⟨fun q => (k.steady q).trans (h.steady q)⟩

theorem State.PortsStand.of_port (h : s.PortsStand t) (hp : u.port = t.port) : s.PortsStand u :=
  ⟨fun q => by rw [State.portU_congr hp, h.steady q]⟩

theorem State.PortsStand.setPort (h : s.PortsStand t) {p : Nat} {x : Port} (hx : x.steady = (t.portU p).steady) :
    s.PortsStand (t.setPort p x) := ⟨fun q => by
  rw [State.portU_setPort]
  split
  · next hq => rw [hq, hx, h.steady p]
  · exact h.steady q⟩

theorem State.port_setReg (s : State) (a : Nat) (w : Word) : (s.setReg a w).port = s.port := by
  unfold State.setReg
  rfl

theorem State.port_put (s : State) (o : Out) : (s.put o).port = s.port := by
  unfold State.put
  rfl

theorem State.PortsStand.setReg (h : s.PortsStand t) (a : Nat) (w : Word) : s.PortsStand (t.setReg a w) := h.of_port (t.port_setReg a w)

theorem State.PortsStand.put (h : s.PortsStand t) (o : Out) : s.PortsStand (t.put o) := h.of_port (t.port_put o)

theorem State.PortsStand.setFld (h : s.PortsStand t) (a : Nat) (f : Field) (v : Nat) : s.PortsStand (t.setFld a f v) :=
  State.PortsStand.setReg h a _

theorem State.PortsStand.count (h : s.PortsStand t) (a : Nat) (f : Field) : s.PortsStand (t.count a f) := State.PortsStand.setFld h a f _

end

/-! ### Sending (R348, R349, R356) -/

section
variable {s t : State} (h : s.PortsStand t)
include h

theorem State.PortsStand.sendIdle (p : Nat) : s.PortsStand (t.sendIdle p) := by
  unfold State.sendIdle
  split
  · refine State.PortsStand.put (State.PortsStand.setPort h ?_) _
    exact Port.steady_told _ _
  · exact h

theorem State.PortsStand.sendControl (p : Nat) (kind : String) (args : List Int) : s.PortsStand (t.sendControl p kind args) := by
  unfold State.sendControl
  split
  · refine State.PortsStand.put (State.PortsStand.setPort h ?_) _
    exact Port.steady_told _ _
  · exact h

theorem State.PortsStand.rollUtil (p : Nat) : s.PortsStand (t.rollUtil p) := by
  unfold State.rollUtil
  extract_lets x gone span share
  split
  · exact h
  · refine State.PortsStand.setReg (State.PortsStand.setPort h ?_) _ _
    simp only [Port.steady, x]

theorem State.PortsStand.noteFlits (p tx rx : Nat) : s.PortsStand (t.noteFlits p tx rx) := by
  unfold State.noteFlits
  refine State.PortsStand.setPort (h.rollUtil p) ?_
  rfl

theorem State.PortsStand.giveBack (p v n : Nat) : s.PortsStand (t.giveBack p v n) := by
  unfold State.giveBack
  split
  · refine State.PortsStand.setPort h ?_
    rfl
  · exact h

theorem State.PortsStand.leaveQueue (e : QPkt) : s.PortsStand (t.leaveQueue e) := by
  unfold State.leaveQueue
  split
  · exact h.giveBack _ _ _
  · exact h

theorem State.PortsStand.sendFlit (p v bits : Nat) (poison header : Bool) : s.PortsStand (t.sendFlit p v bits poison header) := by
  unfold State.sendFlit
  refine State.PortsStand.put (State.PortsStand.setPort (h.noteFlits p 1 0) ?_) _
  cases header
  · rfl
  · exact Port.steady_told _ _

theorem State.PortsStand.servePort (p n : Nat) : s.PortsStand (t.servePort p n) := by
  induction n generalizing t with
  | zero => exact h
  | succ n ih =>
    unfold State.servePort
    dsimp only
    split
    · exact h
    · split
      · refine ih (State.PortsStand.setPort h ?_)
        rfl
      · split
        · exact h
        · refine ih (State.PortsStand.sendFlit (State.PortsStand.setPort h ?_) _ _ _ _ _)
          rfl
      · split
        · exact h
        · refine ih (State.PortsStand.sendFlit (State.PortsStand.leaveQueue (State.PortsStand.setPort h ?_) _) _ _ _ _ _)
          rfl

theorem State.PortsStand.enqueueAs (p : Nat) (e : QPkt) : s.PortsStand (t.enqueueAs p e) := by
  unfold State.enqueueAs
  dsimp only
  split
  · refine State.PortsStand.leaveQueue (State.PortsStand.count (State.PortsStand.setPort h ?_) _ _) _
    rfl
  · refine State.PortsStand.servePort (State.PortsStand.setPort h ?_) _ _
    rfl

theorem State.PortsStand.enqueue (p inp : Nat) (pk : Packet) : s.PortsStand (t.enqueue p inp pk) := h.enqueueAs p _

theorem State.PortsStand.inject (pk : Packet) : s.PortsStand (t.inject pk) := by
  unfold State.inject
  dsimp only
  split
  · exact State.PortsStand.enqueue (h.put _) _ _ _
  · split
    · exact List.foldlRecOn (motive := fun (v : State) => s.PortsStand v) _ _ (h.put _) fun v hv q _ => State.PortsStand.enqueue hv _ _ _
    · split
      · exact State.PortsStand.enqueue (h.put _) _ _ _
      · exact h.put _

end

/-! ### Registers that traffic leaves -/

/-- FP_UTIL and FAB_DROP are all that traffic writes. -/
def untraveled (a : Nat) : Prop := a ≠ Reg.FAB_DROP ∧ ∀ n, a ≠ Reg.FP_UTIL n

theorem untraveled_below {a : Nat} (h : a < 0x8100) (hd : a ≠ Reg.FAB_DROP) : untraveled a := ⟨hd, fun n => (fpUtil_ne h n).symm⟩

theorem untraveled_fpStat (p : Nat) : untraveled (Reg.FP_STAT p) := ⟨series_ne (by decide) p, series_apart (by decide) p⟩

theorem untraveled_fpDelay (p : Nat) : untraveled (Reg.FP_DELAY p) := ⟨series_ne (by decide) p, series_apart (by decide) p⟩

section
variable (s : State) {a : Nat}

theorem State.reg_sendIdle (p : Nat) : (s.sendIdle p).reg a = s.reg a :=
  (State.sameBut_of_outside (p := { out := true, port := true }) (s.sendIdle_outside p ⟨rfl, rfl⟩)).reg a not_false

theorem State.reg_sendControl (p : Nat) (kind : String) (args : List Int) : (s.sendControl p kind args).reg a = s.reg a :=
  (State.sameBut_of_outside (p := { out := true, port := true }) (s.sendControl_outside p kind args ⟨rfl, rfl⟩)).reg a not_false

variable (h : untraveled a)
include h

theorem State.reg_servePort_untraveled (p n : Nat) : (s.servePort p n).reg a = s.reg a :=
  State.reg_of_sparing (kept := untraveled) (s.servePort_outside p n ⟨rfl, fun n hn => hn.2 n rfl, rfl⟩) h

theorem State.reg_inject_untraveled (pk : Packet) : (s.inject pk).reg a = s.reg a :=
  State.reg_of_sparing (kept := untraveled) (s.inject_outside pk ⟨rfl, fun hn => hn.1 rfl, rfl, fun n hn => hn.2 n rfl⟩) h

theorem State.reg_broadcast_untraveled (ptype n : Nat) : (s.broadcast ptype n).reg a = s.reg a :=
  State.reg_of_sparing (kept := untraveled) (s.broadcast_outside ptype n ⟨rfl, fun hn => hn.1 rfl, rfl, fun n hn => hn.2 n rfl, rfl⟩) h

end

/-- What serving a port leaves. -/
theorem State.servePort_sameBut (s : State) (p n : Nat) :
    s.SameBut { regs := each Reg.FP_UTIL, out := true, port := true } (s.servePort p n) :=
  State.sameBut_of_outside (s.servePort_outside p n ⟨rfl, fun n => ⟨n, rfl⟩, rfl⟩)

end Sys2Proof.Machine
end

section
set_option Elab.async false
/-!
PROOF. Fabric time (O51).
-/
namespace Sys2Proof.Machine

/-! ### Exchanges (R369) -/

/-- The round trips that port `p` keeps after one more. -/
noncomputable def State.tripsAfter (s : State) (p : Nat) (l : TimeSec) (t4 : Time) : List Int :=
  if 0xFFFFF ≤ l.res then (s.portU p).delays
  else (((((t4.toNat + 2 ^ 32 - l.echo % 2 ^ 32) % 2 ^ 32 : Nat) : Int) - l.res) :: (s.portU p).delays).take 64

/-- Half the mean of round trips, as FP_DELAY shows it. -/
noncomputable def delayWord (trips : List Int) : Word :=
  BitVec.ofInt 32 (ratRound (((trips.foldl (· + ·) 0 : Int) : Rat) / (2 * max 1 trips.length : Nat)))

/-- The steering of the phase leaves the ports and the registers. -/
theorem State.steerPhase_sameBut (s : State) (theta : Rat) : s.SameBut { time := true, timeRem := true, fab := true } (s.steerPhase theta) :=
  State.sameBut_of_outside (s.steerPhase_outside theta ⟨rfl, rfl, rfl⟩)

theorem State.exchange_shows (s : State) (p : Nat) (l : TimeSec) (t4 : Time) :
    ((s.exchange p l t4).portU p).delays = s.tripsAfter p l t4 ∧
      (s.exchange p l t4).reg (Reg.FP_DELAY p) = delayWord (s.tripsAfter p l t4) := by
  have apart : Reg.FP_DELAY p ≠ Reg.FAB_THETA := series_ne (by decide) p
  unfold State.exchange
  extract_lets x since trip delays d asym theta offsets u
  have shown : (u.portU p).delays = s.tripsAfter p l t4 ∧ u.reg (Reg.FP_DELAY p) = delayWord (s.tripsAfter p l t4) := by
    refine ⟨?_, State.reg_setReg_self _ _ _⟩
    rw [State.portU_congr (State.port_setReg _ _ _), State.portU_setPort_self]
    rfl
  split
  · exact shown
  · have steered := State.steerPhase_sameBut (u.setReg Reg.FAB_THETA (BitVec.ofInt 32 (satSigned 32 theta)))
      ((sumOf offsets : Rat) / (offsets.length : Nat))
    refine ⟨?_, (steered.reg _ not_false).trans ((State.reg_setReg_other _ apart _).trans shown.2)⟩
    rw [State.portU_congr (steered.port rfl), State.portU_congr (State.port_setReg _ _ _)]
    exact shown.1

/-- The link section leaves the delays that the exchange has shown. -/
theorem State.takeLink_shows {s : State} {p : Nat} {l : LinkSec} (hnak : l.nak = false) (t4 : Time) :
    ((s.takeLink p l t4).portU p).delays = s.tripsAfter p l.toTimeSec t4 ∧
      (s.takeLink p l t4).reg (Reg.FP_DELAY p) = delayWord (s.tripsAfter p l.toTimeSec t4) := by
  obtain ⟨htrips, hdelay⟩ := s.exchange_shows p l.toTimeSec t4
  unfold State.takeLink
  extract_lets u x upTo held y v
  rw [if_neg (by simp [hnak])]
  have advised : (u.setPort p y).SameBut { regs := anyOf [is Reg.CLK_READY, is Reg.FAB_STAT, each Reg.FP_STAT] } v :=
    State.sameBut_of_outside ((u.setPort p y).takeAdv_outside p l.adv (by simp [anyOf, is, each]))
  have apart : ¬anyOf [is Reg.CLK_READY, is Reg.FAB_STAT, each Reg.FP_STAT] (Reg.FP_DELAY p) := by
    simp only [anyOf, is, each, or_false, not_or, not_exists]
    exact ⟨series_ne (by decide) p, series_ne (by decide) p, series_apart (by decide) p⟩
  refine ⟨?_, (advised.reg _ apart).trans hdelay⟩
  rw [State.portU_congr (advised.port rfl), State.portU_setPort_self]
  exact htrips

theorem timeExchange_shows {s : State} {p : Nat} (hp : p < 4) (hfp : hasFp s.fac.variant p = true) (htalks : s.talks p = true)
    {l : LinkSec} (hnak : l.nak = false) (t4 : Time) :
    ((timeExchange s p l t4).portU p).delays = s.tripsAfter p l.toTimeSec t4 ∧
      (timeExchange s p l t4).reg (Reg.FP_DELAY p) = delayWord (s.tripsAfter p l.toTimeSec t4) := by
  obtain ⟨htrips, hdelay⟩ := s.takeLink_shows (p := p) hnak t4
  rw [timeExchange, if_neg (by simp [hp, hfp, htalks])]
  exact ⟨(congrArg Port.delays ((State.PortsStand.servePort (.refl _) p portFuel).steady p)).trans htrips,
    (State.reg_servePort_untraveled _ (untraveled_fpDelay p) _ _).trans hdelay⟩

/-! ### Samples of the source (R372 to R374) -/

theorem State.fab_broadcast (s : State) (ptype n : Nat) : (s.broadcast ptype n).fab = s.fab :=
  (State.sameBut_of_outside (p := { Parts.all with fab := false }) (s.broadcast_outside ptype n (by simp [Parts.all]))).fab rfl

theorem State.fab_emit (s : State) (type u : Nat) (l : List Int) : (s.emit type u l).fab = s.fab :=
  (State.sameBut_of_outside (p := { Parts.all with fab := false }) (s.emit_outside type u l (by simp [Parts.all, Parts.emits]))).fab rfl

theorem State.fab_setReg (s : State) (a : Nat) (w : Word) : (s.setReg a w).fab = s.fab := by
  unfold State.setReg
  rfl

theorem State.srcAt_announceStep (s : State) (step : Int) : (s.announceStep step).fab.srcAt = s.fab.srcAt := by
  unfold State.announceStep
  extract_lets t u unit
  have sent : u.fab.srcAt = s.fab.srcAt := congrArg FabUnit.srcAt (State.fab_broadcast _ _ _)
  exact sent

theorem State.srcAt_steerBy (s : State) (theta : Int) : (s.steerBy theta).fab.srcAt = some s.time := by
  unfold State.steerBy State.showFreq
  rw [State.fab_setReg, State.fab_setReg]

theorem State.srcAt_sourceSample (s : State) (theta : Int) : (s.sourceSample theta).fab.srcAt = some s.time := by
  unfold State.sourceSample
  extract_lets last a unit b close locked src c beyond
  have lockedAt : c.fab.srcAt = some s.time := by
    have sampled : b.fab.srcAt = some s.time := s.srcAt_steerBy theta
    unfold c
    split
    · exact (congrArg FabUnit.srcAt (State.fab_emit _ _ _ _)).trans ((congrArg FabUnit.srcAt (State.fab_setReg _ _ _)).trans sampled)
    · exact sampled
  split
  · exact lockedAt
  · split
    · exact (c.srcAt_announceStep theta).trans lockedAt
    · split
      · exact (c.srcAt_announceStep theta).trans lockedAt
      · exact lockedAt

theorem ptmSample_kept {s : State} (hsrc : s.fld Reg.FAB_TIME_CFG Fld.FAB_TIME_CFG_SRC = 1)
    (hroot : s.flag Reg.FAB_STAT Fld.FAB_STAT_ROOT = true) (ns : BitVec 64) : (ptmSample s ns).fab.srcAt = some s.time := by
  unfold ptmSample
  rw [if_neg (by simp [hsrc, hroot])]
  extract_lets ofs src
  rw [State.srcAt_sourceSample]
  split
  · exact congrArg some (State.raise_time _ _ _)
  · rfl

theorem ppsInEdge_counts (s : State) (u : Time) : (ppsInEdge s u).reg Reg.FAB_PPS_SEC = s.reg Reg.FAB_PPS_SEC + 1 := by
  have next : BitVec.ofNat 32 ((s.reg Reg.FAB_PPS_SEC).toNat + 1) = s.reg Reg.FAB_PPS_SEC + 1 := by
    apply BitVec.eq_of_toNat_eq
    simp
  unfold ppsInEdge
  extract_lets sec t
  have counted : t.reg Reg.FAB_PPS_SEC = s.reg Reg.FAB_PPS_SEC + 1 := (State.reg_setReg_self _ _ _).trans next
  split
  · exact (State.reg_of_sparing (kept := fun a => a = Reg.FAB_PPS_SEC) (State.sourceSample_outside t _ (by
      simp +decide (disch := decide) [Parts.sparing, Parts.all, Parts.emits, fpUtil_ne])) rfl).trans counted
  · exact counted

/-! ### A source lost (R372) -/

/-- What TIME_LOST leaves: the lock gone, its record, and no sample. -/
noncomputable def State.sourceLost (s : State) : State :=
  (s.clear Reg.FAB_STAT Fld.FAB_STAT_TIME_LOCK).emit 0x0441 0xFF [s.fld Reg.FAB_TIME_CFG Fld.FAB_TIME_CFG_SRC]

theorem timeLost_due {s : State} {u : Time} (hsrc : s.fld Reg.FAB_TIME_CFG Fld.FAB_TIME_CFG_SRC ≠ 0)
    (hroot : s.flag Reg.FAB_STAT Fld.FAB_STAT_ROOT = true) (hat : s.fab.srcAt = some u) (hlong : u.toNat + secTime 3 ≤ s.time.toNat) :
    timeLost s = { s.sourceLost with fab := { s.fab with srcLast := [], srcAt := none } } := by
  have long : s.longSince s.fab.srcAt (secTime 3) = true := by simpa [State.longSince, hat] using hlong
  unfold timeLost
  rw [if_neg (by simp [hsrc, hroot, long])]
  rfl

theorem State.sourceLost_shows (s : State) :
    s.sourceLost.flag Reg.FAB_STAT Fld.FAB_STAT_TIME_LOCK = false ∧
      (s.recsFull = false →
        s.sourceLost.recs = s.recs ++ [mkRec 0x0441 0xFF s.time [s.fld Reg.FAB_TIME_CFG Fld.FAB_TIME_CFG_SRC]]) := by
  refine ⟨?_, fun hroom => ?_⟩
  · rw [State.sourceLost, State.flag_congr (State.emit_reg _ _ _ _ (by decide)), State.flag_clear _ ⟨by decide, by decide⟩]
  · have cleared : (s.clear Reg.FAB_STAT Fld.FAB_STAT_TIME_LOCK).recs = s.recs := State.clear_recs _ _ _
    rw [State.sourceLost, State.emit_recs _ _ _ _ (by rwa [State.recsFull, cleared]), cleared, State.clear_time]

/-! ### A step of fabric time (R374, R378) -/

/-- The instants follow the step, and the step is added. -/
noncomputable def State.timeAdded (s : State) (step : Int) : State :=
  { s.keepElapsed (BitVec.ofInt 64 step) with
    time := (s.keepElapsed (BitVec.ofInt 64 step)).time + BitVec.ofInt 64 step,
    fab := { (s.keepElapsed (BitVec.ofInt 64 step)).fab with step := none } }

/-- The timers and the seconds pulsed follow the new time. -/
noncomputable def State.timersFollow (s : State) : State :=
  { s with pins := { s.pins with pulsed := s.pins.pulsed.filter (fun n => decide (n ≤ s.time.toNat / 2 ^ 32)) } }.rearmTimers

/-- The W-channels follow the step. -/
noncomputable def State.wFollow (s : State) (step : Int) : State :=
  (List.range 8).foldl (fun (s : State) n => if hasWch s.fac.variant n then s.wStep n step else s) s

/-- The step is shown, and every chain restarts. -/
noncomputable def State.stepShown (s : State) (step : Int) (u : Time) : State :=
  ((s.raise Reg.FAB_STAT Fld.FAB_STAT_TIME_VALID).emit 0x0442 0xFF [step, u.toNat]).restartAllChains 1

/-- No snapshot is pending any more. -/
noncomputable def State.noneArmed (s : State) : State := { s with snp := [] }

/-- Every pending snapshot is cancelled. -/
noncomputable def State.snapsMissed (s : State) : State := s.snp.foldl (fun (s : State) p => s.missSnapshot p 2) s.noneArmed.showPending

theorem timeStepApply_due {s : State} {step : Int} {u : Time} (h : s.fab.step = some (step, u)) (hu : u.toNat ≤ s.time.toNat) :
    timeStepApply s = (((((s.timeAdded step).renumber (roundDiv (step * 256000) 4294967296)).timersFollow.wFollow step).stepShown
      step u).snapsMissed) := by
  unfold timeStepApply
  rw [h]
  exact if_neg (Nat.not_lt.2 hu)

/-- What a step does after the time has been added. -/
noncomputable def Parts.afterStep : Parts := { Parts.all with time := false, fab := false }

theorem State.timeAdded_shows (s : State) (step : Int) :
    (s.timeAdded step).time = s.time + BitVec.ofInt 64 step ∧ (s.timeAdded step).fab.step = none := by
  have kept := State.sameBut_of_outside (p := { Parts.all with time := false })
    (s.keepElapsed_outside (BitVec.ofInt 64 step) (by simp [Parts.all]))
  exact ⟨congrArg (· + BitVec.ofInt 64 step) (kept.time rfl), rfl⟩

theorem State.stepShown_sameBut (s : State) (step : Int) (u : Time) : s.SameBut Parts.afterStep (s.stepShown step u) :=
  State.sameBut_of_outside (by
    rw [State.stepShown, State.restartAllChains_outside _ _ (by simp [Parts.afterStep, Parts.all, Parts.emits]),
      State.emit_outside _ _ _ _ (by simp [Parts.afterStep, Parts.all, Parts.emits]), State.raise_outside _ _ _ trivial])

theorem State.wFollow_sameBut (s : State) (step : Int) : s.SameBut Parts.afterStep (s.wFollow step) := by
  refine State.sameBut_of_outside (State.foldl_outside (fun u n => ?_) _ _)
  split
  · exact u.wStep_outside n step (by simp [Parts.afterStep, Parts.all])
  · rfl

theorem State.timersFollow_sameBut (s : State) : s.SameBut Parts.afterStep s.timersFollow := by
  refine State.sameBut_of_outside ?_
  rw [State.timersFollow, State.rearmTimers_outside _ ⟨rfl, rfl⟩]
  rfl

theorem State.snapsMissed_sameBut (s : State) : s.SameBut Parts.afterStep s.snapsMissed := by
  refine State.sameBut_of_outside ?_
  rw [State.snapsMissed, State.foldl_outside (fun u p => u.missSnapshot_outside p 2 (by simp [Parts.afterStep, Parts.all, Parts.emits])),
    State.showPending_outside _ (by simp [Parts.afterStep, Parts.all])]
  rfl

theorem State.snp_snapsMissed (s : State) : s.snapsMissed.snp = [] := by
  have missed : s.noneArmed.showPending.SameBut { Parts.all with snp := false } s.snapsMissed :=
    State.sameBut_of_outside (State.foldl_outside (fun u p => u.missSnapshot_outside p 2 (by simp [Parts.all, Parts.emits])) _ _)
  exact (missed.snp rfl).trans (s.noneArmed.showPending_sameBut.snp rfl)

theorem State.flag_stepShown (s : State) (step : Int) (u : Time) :
    (s.stepShown step u).snapsMissed.flag Reg.FAB_STAT Fld.FAB_STAT_TIME_VALID = true := by
  have missed : (s.stepShown step u).snapsMissed.reg Reg.FAB_STAT = (s.stepShown step u).reg Reg.FAB_STAT := by
    refine State.reg_of_sparing (kept := fun a => a = Reg.FAB_STAT) ?_ rfl
    rw [State.snapsMissed, State.foldl_outside (fun u p => u.missSnapshot_outside p 2 (by
      simp +decide [Parts.sparing, Parts.all, Parts.emits])), State.showPending_outside _ (by simp +decide [Parts.sparing, Parts.all])]
    rfl
  have restarted : (s.stepShown step u).reg Reg.FAB_STAT =
      ((s.raise Reg.FAB_STAT Fld.FAB_STAT_TIME_VALID).emit 0x0442 0xFF [step, u.toNat]).reg Reg.FAB_STAT :=
    State.reg_of_sparing (kept := fun a => a = Reg.FAB_STAT) (State.restartAllChains_outside _ 1 (by
      simp +decide [Parts.sparing, Parts.all, Parts.emits]
      exact series_ne (by decide))) rfl
  rw [State.flag_congr missed, State.flag_congr restarted, State.flag_congr (State.emit_reg _ _ _ _ (by decide)),
    State.flag_raise _ _ ⟨by decide, by decide⟩]

theorem timeStepApply_shows {s : State} {step : Int} {u : Time} (h : s.fab.step = some (step, u)) (hu : u.toNat ≤ s.time.toNat) :
    (timeStepApply s).time = s.time + BitVec.ofInt 64 step ∧
      (timeStepApply s).flag Reg.FAB_STAT Fld.FAB_STAT_TIME_VALID = true ∧
      (timeStepApply s).fab.step = none ∧ (timeStepApply s).snp = [] := by
  obtain ⟨htime, hstep⟩ := s.timeAdded_shows step
  have same : (s.timeAdded step).SameBut Parts.afterStep (timeStepApply s) := by
    rw [timeStepApply_due h hu]
    exact ((((State.sameBut_of_outside (State.renumber_outside _ _ (by simp [Parts.afterStep, Parts.all]))).trans
      (State.timersFollow_sameBut _)).trans (State.wFollow_sameBut _ _)).trans (State.stepShown_sameBut _ _ _)).trans
      (State.snapsMissed_sameBut _)
  refine ⟨(same.time rfl).trans htime, ?_, (congrArg FabUnit.step (same.fab rfl)).trans hstep, ?_⟩
  · rw [timeStepApply_due h hu]
    exact State.flag_stepShown _ _ _
  · rw [timeStepApply_due h hu]
    exact State.snp_snapsMissed _

/-! ### The commands' answers -/

theorem timeExchange_answers (s : State) (p : Nat) (flow : FlowSec) (times : TimeSec) (adv : Nat) (t4 : Time) :
    exec (.timeExchange p flow times adv t4) s = .next (timeExchange s p (LinkSec.mk flow times adv) t4) :=
  State.effect_of_outside (P := Parts.all) (timeExchange_outside s p _ t4 (by simp [Parts.all, Parts.emits]))

theorem ptmSample_answers (s : State) (ns : BitVec 64) : exec (.ptmSample ns) s = .next (ptmSample s ns) :=
  State.effect_of_outside (P := Parts.all) (ptmSample_outside s ns (by simp [Parts.all, Parts.emits]))

theorem ppsInEdge_answers (s : State) (u : Time) : exec (.ppsInEdge u) s = .next (ppsInEdge s u) :=
  State.effect_of_outside (P := Parts.all) (ppsInEdge_outside s u (by simp [Parts.all, Parts.emits]))

theorem timeLost_answers (s : State) : exec .timeLost s = .next (timeLost s) :=
  State.effect_of_outside (P := Parts.all) (timeLost_outside s (by simp [Parts.all, Parts.emits]))

theorem timeStep_answers (s : State) (step : Int) (u : Time) : exec (.timeStep step u) s = .next (timeStep s step u) :=
  State.effect_of_outside (P := Parts.all) (timeStep_outside s step u rfl)

theorem timeStepApply_answers (s : State) : exec .timeStepApply s = .next (timeStepApply s) :=
  State.effect_of_outside (P := Parts.all) (timeStepApply_outside s (by simp [Parts.all, Parts.emits]))

/-- Settles O51: the delays by the exchange, which later traffic leaves; a sample, a loss and a step by their own effects. -/
theorem fabricTime : Obligations.FabricTime := by
  unfold Obligations.FabricTime
  refine ⟨fun s p flow times adv t4 hp hfp htalks hnak => ⟨_, timeExchange_answers s p flow times adv t4, ?_⟩,
    fun s ns hsrc hroot => ⟨_, ptmSample_answers s ns, ptmSample_kept hsrc hroot ns⟩,
    fun s u => ⟨_, ppsInEdge_answers s u, ppsInEdge_counts s u⟩,
    fun s u hsrc hroot hat hlong => ⟨_, timeLost_answers s, ?_⟩,
    fun s step u => ⟨_, timeStep_answers s step u, rfl⟩,
    fun s step u h hu => ⟨_, timeStepApply_answers s, timeStepApply_shows h hu⟩⟩
  · obtain ⟨htrips, hdelay⟩ := timeExchange_shows hp hfp htalks (l := LinkSec.mk flow times adv) hnak t4
    refine ⟨htrips, ?_⟩
    rw [htrips]
    exact hdelay
  · obtain ⟨hlock, hrecs⟩ := s.sourceLost_shows
    rw [timeLost_due hsrc hroot hat hlong]
    exact ⟨hlock, rfl, hrecs⟩

end Sys2Proof.Machine
end

section
set_option Elab.async false
/-!
PROOF. The banks of the routing table, stopped channels and joined fabrics (O50).
-/
namespace Sys2Proof.Machine

/-! ### The fabric's unit beyond its requests -/

/-- The fabric's unit but for its requests, the devices asked and the clock parents to be moved. -/
noncomputable def FabUnit.standing (x : FabUnit) : FabUnit := { x with reqs := [], nextTag := 0, asked := [], moves := [], repair := false }

/-- Requests and moves alone tell the fabric's units of two states apart. -/
structure State.FabStands (s t : State) : Prop where
  standing : t.fab.standing = s.fab.standing

section
variable {s t u : State}

theorem State.FabStands.refl (s : State) : s.FabStands s := ⟨rfl⟩

theorem State.FabStands.of_fab (h : s.FabStands t) (k : u.fab = t.fab) : s.FabStands u := ⟨by rw [k, h.standing]⟩

theorem State.FabStands.setFab (h : s.FabStands t) {x : FabUnit} (hx : x.standing = t.fab.standing) :
    s.FabStands { t with fab := x } := ⟨hx.trans h.standing⟩

theorem State.FabStands.switchAt (h : s.FabStands t) : t.fab.switchAt = s.fab.switchAt := by
  have same : t.fab.standing.switchAt = s.fab.standing.switchAt := congrArg FabUnit.switchAt h.standing
  exact same

theorem State.FabStands.retired (h : s.FabStands t) : t.fab.retired = s.fab.retired := by
  have same : t.fab.standing.retired = s.fab.standing.retired := congrArg FabUnit.retired h.standing
  exact same

theorem State.FabStands.pumpRequests (h : s.FabStands t) : s.FabStands t.pumpRequests := by
  unfold State.pumpRequests
  refine List.foldlRecOn (motive := fun (v : State) => s.FabStands v) _ _ h fun v hv r _ => ?_
  dsimp only
  split
  · refine State.FabStands.of_fab (State.FabStands.setFab hv ?_) (State.fab_inject _ _)
    rfl
  · exact hv

theorem State.FabStands.request (h : s.FabStands t) (client : Client) (pk : Packet) : s.FabStands (t.request client pk) := by
  unfold State.request State.requestKeyed
  refine State.FabStands.pumpRequests (State.FabStands.setFab (State.FabStands.setFab h ?_) ?_)
  · rfl
  · rfl

theorem State.FabStands.askInfo (h : s.FabStands t) (die : Nat) (way : List Nat) : s.FabStands (t.askInfo die way) := by
  unfold State.askInfo
  split
  · exact h
  · refine State.FabStands.request (State.FabStands.setFab h ?_) _ _
    rfl

theorem State.FabStands.takeSource (h : s.FabStands t) (c : Nat) : s.FabStands (t.takeSource c) := by
  unfold State.takeSource
  refine State.FabStands.of_fab (t := { t with fab := _ }) (State.FabStands.setFab h ?_)
    ((State.reqs_showSource _).trans (State.fab_setReg _ _ _))
  rfl

theorem State.FabStands.selectSource (h : s.FabStands t) (c : Nat) : s.FabStands (t.selectSource c) := by
  unfold State.selectSource
  split
  · exact (h.of_fab (State.fab_setReg _ _ _)).of_fab (State.fab_setReg _ _ _)
  · split
    · exact h.of_fab (State.fab_setReg _ _ _)
    · have taken : s.FabStands (if t.clk.switching = some c then t else t.takeSource c) := by
        split
        · exact h
        · exact h.takeSource c
      exact taken.of_fab (State.fab_setReg _ _ _)

theorem State.FabStands.nextMove (h : s.FabStands t) : s.FabStands t.nextMove := by
  unfold State.nextMove
  dsimp only
  split
  · exact h
  · split
    · exact h
    · split
      · refine State.FabStands.selectSource (State.FabStands.setFab h ?_) _
        rfl
      · split
        · refine State.FabStands.setFab h ?_
          rfl
        · refine State.FabStands.askInfo ((State.FabStands.setFab h ?_).of_fab (State.fab_sendMgmt _ _ _ _ _)) _ _
          rfl

end

/-! ### The banks (R362) -/

/-- The shadow bank is active, its instant has passed, and the old bank is not yet retired. -/
noncomputable def State.bankActive (s : State) : State :=
  let s := s.setFld Reg.FAB_STAT Fld.FAB_STAT_EPOCH (1 - s.epoch)
  { s with fab := { s.fab with switchAt := none, retired := false, switched := some s.time } }

/-- What follows a switch of banks on the ports and in the streams. -/
noncomputable def State.switchFollowed (s : State) : State := (vcResumed s 7).showUplink.resendAll

/-- The manager's reroute is shown, counted and told. -/
noncomputable def State.rerouteShown (s : State) (links lost : Nat) : State :=
  (((s.raise Reg.FAB_STAT Fld.FAB_STAT_REROUTE_S).count Reg.FAB_CNT Fld.FAB_CNT_REROUTES).setFld Reg.FAB_STAT Fld.FAB_STAT_STATE 1).emit
    0x0421 0xFF [((usSince (s.fab.failAt.getD s.time) s.time : Nat) : Int), links, lost]

/-- The fabric's unit after a reroute. -/
noncomputable def State.rerouteTaken (s : State) (moves : List (Nat × Nat)) : State :=
  { s with fab := { s.fab with reroute := none, failAt := none, moves := moves } }

theorem State.rerouteTaken_keeps (s : State) (moves : List (Nat × Nat)) :
    (s.rerouteTaken moves).reg Reg.FAB_STAT = s.reg Reg.FAB_STAT ∧ (s.rerouteTaken moves).fab.switchAt = s.fab.switchAt ∧
      (s.rerouteTaken moves).fab.retired = s.fab.retired := ⟨rfl, rfl, rfl⟩

/-- The end of the manager's reroute, where one has led to the switch. -/
noncomputable def State.rerouteEnded (s : State) : State :=
  match s.fab.reroute with
  | none => { s with fab := { s.fab with failAt := none } }
  | some (links, lost, moves) => ((s.rerouteShown links lost).rerouteTaken moves).nextMove

theorem tableSwitch_due {s : State} {u : Time} (h : s.fab.switchAt = some u) (hu : u.toNat ≤ s.time.toNat) :
    tableSwitch s = s.bankActive.switchFollowed.rerouteEnded := by
  have due : s.longSince s.fab.switchAt 0 = true := by simpa [State.longSince, h] using hu
  unfold tableSwitch
  rw [if_neg (by simp [due])]
  rfl

theorem State.reg_withFab (s : State) (x : FabUnit) (a : Nat) : ({ s with fab := x } : State).reg a = s.reg a := rfl

theorem State.fabStat_bankActive (s : State) :
    s.bankActive.reg Reg.FAB_STAT = putField Fld.FAB_STAT_EPOCH (s.reg Reg.FAB_STAT) (1 - s.epoch) := by
  rw [State.bankActive, State.reg_withFab, State.reg_setFld_self]

theorem State.epoch_bankActive (s : State) : s.bankActive.epoch = 1 - s.epoch := by
  have one : (1 - s.epoch) % 2 ^ fieldWidth Fld.FAB_STAT_EPOCH = 1 - s.epoch :=
    Nat.mod_eq_of_lt (Nat.lt_of_le_of_lt (Nat.sub_le 1 _) (by decide))
  rw [State.epoch, State.fld, State.fabStat_bankActive, getField_putField ⟨by decide, by decide⟩, one]

theorem State.switchFollowed_keeps (s : State) :
    s.switchFollowed.reg Reg.FAB_STAT = s.reg Reg.FAB_STAT ∧ s.switchFollowed.fab = s.fab := by
  have frame : s.switchFollowed.outside (Parts.sparing (fun a => a = Reg.FAB_STAT)) = s.outside (Parts.sparing (fun a => a = Reg.FAB_STAT)) := by
    rw [State.switchFollowed, State.resendAll_outside _ rfl, State.showUplink_outside _ (by
      simp +decide (disch := decide) [Parts.sparing, Parts.all, fpStat_ne]), vcResumed_outside _ _ (by
      simp +decide (disch := decide) [Parts.sparing, Parts.all, Parts.emits, fpUtil_ne])]
  have same : s.SameBut { Parts.all with fab := false } s.switchFollowed := State.sameBut_of_outside (by
    rw [State.switchFollowed, State.resendAll_outside _ rfl, State.showUplink_outside _ (by simp [Parts.all]),
      vcResumed_outside _ _ (by simp [Parts.all, Parts.emits])])
  exact ⟨State.reg_of_sparing frame rfl, same.fab rfl⟩

theorem State.rerouteShown_keeps (s : State) (links lost : Nat) :
    (s.rerouteShown links lost).epoch = s.epoch ∧ (s.rerouteShown links lost).fab = s.fab := by
  constructor
  · rw [State.epoch, State.rerouteShown, State.fld_congr (State.emit_reg _ _ _ _ (by decide)),
      State.fld_setFld_apart _ _ ⟨by decide, by decide⟩ (by decide) (by decide), State.fld_congr (State.reg_count_other _ (by decide) _)]
    exact State.fld_setFld_apart _ _ ⟨by decide, by decide⟩ (by decide) (by decide) _
  · rw [State.rerouteShown, State.fab_emit, State.setFld, State.fab_setReg, State.count, State.setFld, State.fab_setReg, State.raise,
      State.setFld, State.fab_setReg]

/-- The end of a reroute leaves the banks as the switch has left them. -/
theorem State.rerouteEnded_keeps (s : State) :
    s.rerouteEnded.epoch = s.epoch ∧ s.rerouteEnded.fab.switchAt = s.fab.switchAt ∧ s.rerouteEnded.fab.retired = s.fab.retired := by
  unfold State.rerouteEnded
  split
  · exact ⟨rfl, rfl, rfl⟩
  · next links lost moves _ =>
    obtain ⟨hepoch, hfab⟩ := s.rerouteShown_keeps links lost
    obtain ⟨hstat, hat, hretired⟩ := (s.rerouteShown links lost).rerouteTaken_keeps moves
    have moved := State.FabStands.nextMove (.refl ((s.rerouteShown links lost).rerouteTaken moves))
    exact ⟨(State.fabStat_nextMove ⟨by decide, by decide⟩ _).trans ((State.fld_congr hstat _).trans hepoch), moved.switchAt.trans (hat.trans (congrArg FabUnit.switchAt hfab)),
      moved.retired.trans (hretired.trans (congrArg FabUnit.retired hfab))⟩

theorem tableSwitch_shows {s : State} {u : Time} (h : s.fab.switchAt = some u) (hu : u.toNat ≤ s.time.toNat) :
    (tableSwitch s).epoch = 1 - s.epoch ∧ (tableSwitch s).fab.switchAt = none ∧ (tableSwitch s).fab.retired = false := by
  obtain ⟨hstat, hfab⟩ := s.bankActive.switchFollowed_keeps
  obtain ⟨hepoch, hat, hretired⟩ := s.bankActive.switchFollowed.rerouteEnded_keeps
  rw [tableSwitch_due h hu]
  rw [hfab] at hat hretired
  exact ⟨(hepoch.trans (State.fld_congr hstat _)).trans s.epoch_bankActive, hat, hretired⟩

theorem bankRetire_due {s : State} {u : Time} (h : s.fab.switched = some u) (hu : u.toNat + usTime 200 ≤ s.time.toNat) :
    (bankRetire s).fab.retired = true := by
  have due : s.longSince s.fab.switched (usTime 200) = true := by simpa [State.longSince, h] using hu
  rw [bankRetire, if_pos due]

/-! ### Changes that are gathered (R367) -/

/-- FAB_CHURN is shown and told. -/
noncomputable def State.churnShown (s : State) : State := (s.raise Reg.FAB_STAT Fld.FAB_STAT_CHURN_S).emit 0x0425 0xFF [s.fab.churn]

theorem fabChurn_due {s : State} (h : s.fab.churned = true) (hn : s.fab.churn ≠ 0) :
    fabChurn s = { s.churnShown with fab := { s.churnShown.fab with churn := 0 } } := by
  unfold fabChurn
  rw [if_neg (by simp [h, hn])]
  rfl

theorem State.churnShown_shows (s : State) :
    s.churnShown.flag Reg.FAB_STAT Fld.FAB_STAT_CHURN_S = true ∧
      (s.recsFull = false → s.churnShown.recs = s.recs ++ [mkRec 0x0425 0xFF s.time [s.fab.churn]]) := by
  refine ⟨?_, fun hroom => ?_⟩
  · rw [State.churnShown, State.flag_congr (State.emit_reg _ _ _ _ (by decide)), State.flag_raise _ _ ⟨by decide, by decide⟩]
  · have raised : (s.raise Reg.FAB_STAT Fld.FAB_STAT_CHURN_S).recs = s.recs := State.raise_recs _ _ _
    rw [State.churnShown, State.emit_recs _ _ _ _ (by rwa [State.recsFull, raised]), raised, State.raise_time]

/-! ### Stopped channels (R367) -/

theorem State.port_emit (s : State) (type u : Nat) (l : List Int) : (s.emit type u l).port = s.port :=
  (State.sameBut_of_outside (p := { Parts.all with port := false }) (s.emit_outside type u l (by simp [Parts.all, Parts.emits]))).port rfl

theorem State.port_showStopped (s : State) : s.showStopped.port = s.port :=
  (State.sameBut_of_outside (p := Parts.registers) (s.showStopped_outside trivial)).port rfl

/-- A port's channels that are stopped stand through its traffic. -/
theorem State.PortsStand.stopped {s t : State} (h : s.PortsStand t) (q : Nat) : (t.portU q).stopped = (s.portU q).stopped := by
  have same : (t.portU q).steady.stopped = (s.portU q).steady.stopped := congrArg Port.stopped (h.steady q)
  exact same

/-- What waits on the ports in one state waits there in another. -/
structure State.QueuesShrink (s t : State) : Prop where
  sub : ∀ q, (t.portU q).queue ⊆ (s.portU q).queue

section
variable {s t u : State}

theorem State.QueuesShrink.refl (s : State) : s.QueuesShrink s := ⟨fun _ _ h => h⟩

theorem State.QueuesShrink.of_port (h : s.QueuesShrink t) (k : u.port = t.port) : s.QueuesShrink u :=
  ⟨fun q => by rw [State.portU_congr k]; exact h.sub q⟩

theorem State.QueuesShrink.setPort (h : s.QueuesShrink t) {p : Nat} {x : Port} (hx : x.queue ⊆ (t.portU p).queue) :
    s.QueuesShrink (t.setPort p x) := ⟨fun q => by
  rw [State.portU_setPort]
  split
  · next hq => exact hq ▸ fun e he => h.sub p (hx he)
  · exact h.sub q⟩

theorem State.QueuesShrink.leaveQueue (h : s.QueuesShrink t) (e : QPkt) : s.QueuesShrink (t.leaveQueue e) := by
  unfold State.leaveQueue
  split
  · unfold State.giveBack
    split
    · refine State.QueuesShrink.setPort h ?_
      exact fun _ he => he
    · exact h
  · exact h

theorem State.QueuesShrink.noteFlits (h : s.QueuesShrink t) (p tx rx : Nat) : s.QueuesShrink (t.noteFlits p tx rx) := by
  have rolled : s.QueuesShrink (t.rollUtil p) := by
    unfold State.rollUtil
    extract_lets x gone span share
    split
    · exact h
    · refine State.QueuesShrink.of_port (State.QueuesShrink.setPort h ?_) (State.port_setReg _ _ _)
      exact fun _ he => he
  unfold State.noteFlits
  refine State.QueuesShrink.setPort rolled ?_
  exact fun _ he => he

theorem State.QueuesShrink.sendFlit (h : s.QueuesShrink t) (p v bits : Nat) (poison header : Bool) :
    s.QueuesShrink (t.sendFlit p v bits poison header) := by
  unfold State.sendFlit
  refine State.QueuesShrink.of_port (State.QueuesShrink.setPort (h.noteFlits p 1 0) ?_) (State.port_put _ _)
  cases header <;> exact fun _ he => he

theorem State.QueuesShrink.servePort (h : s.QueuesShrink t) (p n : Nat) : s.QueuesShrink (t.servePort p n) := by
  induction n generalizing t with
  | zero => exact h
  | succ n ih =>
    unfold State.servePort
    dsimp only
    split
    · exact h
    · split
      · refine ih (State.QueuesShrink.setPort h ?_)
        exact fun _ he => he
      · split
        · exact h
        · refine ih (State.QueuesShrink.sendFlit (State.QueuesShrink.setPort h ?_) _ _ _ _ _)
          exact fun _ he => he
      · split
        · exact h
        · refine ih (State.QueuesShrink.sendFlit (State.QueuesShrink.leaveQueue (State.QueuesShrink.setPort h ?_) _) _ _ _ _ _)
          exact List.erase_subset

end

theorem State.PortsStand.leaveQueues {s t : State} (h : s.PortsStand t) (l : List QPkt) :
    s.PortsStand (l.foldl (fun (s : State) e => s.leaveQueue e) t) :=
  List.foldlRecOn (motive := fun (v : State) => s.PortsStand v) _ _ h fun _ hv e _ => hv.leaveQueue e

theorem State.QueuesShrink.leaveQueues {s t : State} (h : s.QueuesShrink t) (l : List QPkt) :
    s.QueuesShrink (l.foldl (fun (s : State) e => s.leaveQueue e) t) :=
  List.foldlRecOn (motive := fun (v : State) => s.QueuesShrink v) _ _ h fun _ hv e _ => hv.leaveQueue e

theorem State.reg_showStopped (s : State) {a : Nat} (h : a ≠ Reg.FAB_VC) : s.showStopped.reg a = s.reg a :=
  (State.sameBut_of_outside (p := { regs := is Reg.FAB_VC }) (s.showStopped_outside (Eq.refl _))).reg a h

/-- What a stopped channel is told and shown by, before its port is served again. -/
noncomputable def State.stallShown (s : State) (p v ms n : Nat) : State :=
  (((s.countBy Reg.FAB_DROP Fld.FAB_DROP_STOP n).raise Reg.FAB_STAT Fld.FAB_STAT_STALL_S).emit 0x0426 p [p, v, ms]).showStopped

theorem State.stallShown_shows (s : State) (p v ms n : Nat) :
    (s.stallShown p v ms n).port = s.port ∧ (s.stallShown p v ms n).flag Reg.FAB_STAT Fld.FAB_STAT_STALL_S = true := by
  constructor
  · rw [State.stallShown, State.port_showStopped, State.port_emit, State.raise, State.setFld, State.port_setReg, State.countBy, State.setFld,
      State.port_setReg]
  · rw [State.stallShown, State.flag_congr (State.reg_showStopped _ (by decide)), State.flag_congr (State.emit_reg _ _ _ _ (by decide)),
      State.flag_raise _ _ ⟨by decide, by decide⟩]

/-- The packets of channel `v` that wait on a port. -/
noncomputable def Port.waiting (x : Port) (v : Nat) : List QPkt := x.queue.filter (fun e => vcOf e.pkt.ptype == v)

/-- Whether a packet of channel `v` holds a port's output. -/
noncomputable def Port.holds (x : Port) (v : Nat) : Bool := match x.sending with | some (w, _) => w == v | none => false

/-- The packets that a stopped channel discards. -/
noncomputable def Port.discards (x : Port) (v : Nat) : Nat := (x.waiting v).length + bit (x.holds v)

/-- A port whose channel `v` is stopped. -/
noncomputable def Port.halted (x : Port) (v : Nat) : Port :=
  { x with stopped := x.stopped ++ [v], dropped := x.dropped.set v (x.discards v),
           queue := x.queue.filter (fun e => vcOf e.pkt.ptype != v), sending := if x.holds v then none else x.sending }

/-- What a stopped channel discards has left the queues. -/
noncomputable def State.channelHalted (s : State) (p v : Nat) : State :=
  ((s.portU p).waiting v).foldl (fun (s : State) e => s.leaveQueue e) (s.setPort p ((s.portU p).halted v))

theorem vcStall_due {s : State} {p v ms : Nat} (hp : p < 4) (hv : v < 3) (hfp : hasFp s.fac.variant p = true) (hup : s.lstate p = lsUp)
    (hnot : v ∉ (s.portU p).stopped) (hlong : s.fld Reg.FAB_CFG Fld.FAB_CFG_STALL_T < ms) (hcredit : (s.portU p).credits.getD v 0 = 0) :
    vcStall s p v ms = ((s.channelHalted p v).stallShown p v ms ((s.portU p).discards v)).servePort p portFuel := by
  unfold vcStall
  dsimp only
  rw [hcredit, if_neg (by simp [hp, hv, hfp, hup, hnot, hlong])]
  rfl

theorem vcStall_stops {s : State} {p v ms : Nat} (hp : p < 4) (hv : v < 3) (hfp : hasFp s.fac.variant p = true) (hup : s.lstate p = lsUp)
    (hnot : v ∉ (s.portU p).stopped) (hlong : s.fld Reg.FAB_CFG Fld.FAB_CFG_STALL_T < ms) (hcredit : (s.portU p).credits.getD v 0 = 0) :
    v ∈ ((vcStall s p v ms).portU p).stopped ∧ (vcStall s p v ms).flag Reg.FAB_STAT Fld.FAB_STAT_STALL_S = true ∧
      ∀ e ∈ ((vcStall s p v ms).portU p).queue, vcOf e.pkt.ptype ≠ v := by
  obtain ⟨hport, hflag⟩ := (s.channelHalted p v).stallShown_shows p v ms ((s.portU p).discards v)
  have halted : (s.setPort p ((s.portU p).halted v)).portU p = (s.portU p).halted v := State.portU_setPort_self _ _ _
  have stands := State.PortsStand.servePort (((State.PortsStand.refl (s.setPort p ((s.portU p).halted v))).leaveQueues
    ((s.portU p).waiting v)).of_port hport) p portFuel
  have shrinks := State.QueuesShrink.servePort (((State.QueuesShrink.refl (s.setPort p ((s.portU p).halted v))).leaveQueues
    ((s.portU p).waiting v)).of_port hport) p portFuel
  rw [vcStall_due hp hv hfp hup hnot hlong hcredit]
  refine ⟨?_, ?_, fun e he => ?_⟩
  · rw [stands.stopped, halted]
    exact List.mem_append_right _ List.mem_cons_self
  · rw [State.flag_congr (State.reg_servePort_untraveled _ (untraveled_below (by decide) (by decide)) _ _)]
    exact hflag
  · have kept := shrinks.sub p he
    rw [halted] at kept
    rw [Port.halted, List.mem_filter] at kept
    exact bne_iff_ne.1 kept.2

/-- A port whose channel `v` has resumed. -/
noncomputable def Port.resumed (x : Port) (v : Nat) : Port := { x with stopped := x.stopped.filter (· != v), dropped := x.dropped.set v 0 }

/-- One channel of a port resumes where the mask names it. -/
noncomputable def State.resumeOne (mask : Nat) (s : State) (pv : Nat × Nat) : State :=
  if (s.portU pv.1).stopped.contains pv.2 && bitAt mask pv.2 then
    ((s.setPort pv.1 ((s.portU pv.1).resumed pv.2)).emit 0x0427 pv.1
      [(pv.1 : Int), pv.2, (s.portU pv.1).dropped.getD pv.2 0]).servePort pv.1 portFuel
  else s

/-- Every channel of every port. -/
noncomputable def channels : List (Nat × Nat) := (List.range 4).flatMap (fun p => (List.range 3).map (fun v => (p, v)))

theorem vcResumed_eq (s : State) (mask : Nat) : vcResumed s mask = (channels.foldl (State.resumeOne mask) s).showStopped := rfl

theorem State.stopped_resumed (s : State) (p v q : Nat) (l : List Int) :
    ((((s.setPort p ((s.portU p).resumed v)).emit 0x0427 p l).servePort p portFuel).portU q).stopped =
      if q = p then (s.portU p).stopped.filter (· != v) else (s.portU q).stopped := by
  rw [(State.PortsStand.servePort (.refl _) p portFuel).stopped, State.portU_congr (State.port_emit _ _ _ _), State.portU_setPort]
  split <;> rfl

/-- A step only takes stopped channels away. -/
theorem State.resumeOne_sub (mask : Nat) (s : State) (pv : Nat × Nat) (q : Nat) :
    ((s.resumeOne mask pv).portU q).stopped ⊆ (s.portU q).stopped := by
  unfold State.resumeOne
  split
  · rw [State.stopped_resumed]
    split
    · next hq => exact hq ▸ List.filter_subset_self _
    · exact fun _ h => h
  · exact fun _ h => h

theorem State.resumeOne_resumes {mask : Nat} {pv : Nat × Nat} (hbit : bitAt mask pv.2 = true) (s : State) :
    pv.2 ∉ ((s.resumeOne mask pv).portU pv.1).stopped := by
  unfold State.resumeOne
  split
  · rw [State.stopped_resumed, if_pos rfl]
    simp
  · next hnot => simpa [hbit] using hnot

theorem mem_channels {p v : Nat} (hp : p < 4) (hv : v < 3) : (p, v) ∈ channels :=
  List.mem_flatMap.2 ⟨p, List.mem_range.2 hp, List.mem_map.2 ⟨v, List.mem_range.2 hv, rfl⟩⟩

theorem vcResumed_resumes (s : State) {mask p v : Nat} (hp : p < 4) (hv : v < 3) (hbit : bitAt mask v = true) :
    v ∉ ((vcResumed s mask).portU p).stopped := by
  obtain ⟨u, -, last⟩ := foldl_reaches (R := fun t u : State => (u.portU p).stopped ⊆ (t.portU p).stopped) (fun _ _ h => h)
    (fun h1 h2 _ h => h1 (h2 h)) (f := State.resumeOne mask) (fun t pv _ => t.resumeOne_sub mask pv p) (mem_channels hp hv)
    (by decide) s
  rw [vcResumed_eq, State.portU_congr (State.port_showStopped _)]
  exact fun h => State.resumeOne_resumes (pv := (p, v)) hbit u (last h)

/-! ### Fabrics that join (R365) -/

theorem State.reg_topologyChange (s : State) (a : Nat) : s.topologyChange.reg a = s.reg a := by
  unfold State.topologyChange State.reg
  rfl

theorem State.lstate_enterUp (s : State) (p : Nat) : (s.enterUp p).lstate p = lsUp := by
  unfold State.enterUp
  extract_lets a die
  rw [State.lstate, State.fld_congr (State.reg_servePort_untraveled _ (untraveled_fpStat p) _ _),
    State.fld_congr (State.reg_topologyChange _ _),
    State.fld_congr (State.emit_reg _ _ _ _ (a := Reg.FP_STAT p) (series_ne (by decide) p))]
  exact State.fld_setFld_self _ _ ⟨by decide, by decide⟩ _

theorem State.best_topologyChange (s : State) : s.topologyChange.fab.best = s.fab.best := rfl

/-- What entering UP leaves: FAB_STAT and the best key. -/
theorem State.enterUp_keeps (s : State) (p : Nat) :
    (s.enterUp p).reg Reg.FAB_STAT = s.reg Reg.FAB_STAT ∧ (s.enterUp p).fab.best = s.fab.best := by
  have frame : (s.enterUp p).outside (Parts.sparing (fun a => a = Reg.FAB_STAT)) = s.outside (Parts.sparing (fun a => a = Reg.FAB_STAT)) :=
    s.enterUp_outside p (by simp +decide (disch := decide) [Parts.sparing, Parts.all, Parts.emits, fpStat_ne, fpUtil_ne])
  refine ⟨State.reg_of_sparing frame rfl, ?_⟩
  unfold State.enterUp
  extract_lets a die
  rw [(State.servePort_sameBut _ _ _).fab rfl, State.best_topologyChange, State.fab_emit]
  exact congrArg FabUnit.best (State.fab_setReg _ _ _)

/-- An advertisement keeps the best key and the registers. -/
theorem State.advertise_keeps (s : State) : s.advertise.fab.best = s.fab.best ∧ ∀ a, s.advertise.reg a = s.reg a := by
  have regs := (State.sameBut_of_outside (p := { fab := true, out := true, port := true }) (s.advertise_outside ⟨rfl, rfl, rfl⟩)).reg
  refine ⟨?_, fun a => regs a not_false⟩
  unfold State.advertise
  refine List.foldlRecOn (motive := fun (v : State) => v.fab.best = s.fab.best) _ _ rfl fun v hv p _ => ?_
  split
  · exact (congrArg FabUnit.best ((State.sameBut_of_outside (p := { out := true, port := true })
      (v.sendControl_outside p "ELECT" _ ⟨rfl, rfl⟩)).fab rfl)).trans hv
  · exact hv

/-- How the root of a fabric that joins comes to the other's time. -/
noncomputable def State.timeJoined (s : State) (offset : Int) : State :=
  if !s.flag Reg.FAB_STAT Fld.FAB_STAT_ROOT then s
  else if msTime (s.fld Reg.FAB_TIME_CFG Fld.FAB_TIME_CFG_STEP_TH) < offset.natAbs then s.announceStep offset else s.steerBy offset

/-- The device is neither manager nor standby, root nor successor. -/
noncomputable def State.rolesGone (s : State) : State :=
  (((s.clear Reg.FAB_STAT Fld.FAB_STAT_MANAGER).clear Reg.FAB_STAT Fld.FAB_STAT_STANDBY).clear Reg.FAB_STAT Fld.FAB_STAT_ROOT).clear
    Reg.FAB_STAT Fld.FAB_STAT_SUCCESSOR

/-- The fabric's unit takes the neighbour's best key for its own. -/
noncomputable def State.keyTaken (s : State) (p : Nat) : State :=
  { s with fab := { s.fab.unformed with best := (s.portU p).nbrBest, bestHops := 1, mirror := [] } }

section
variable {s : State} {p : Nat} {k : Key} (hdone : s.helloDone p = true) (hforeign : s.foreign p = true)
  (hbest : (s.portU p).nbrBest = some k) (htopo : s.fab.lastTopo = none ∨ s.longSince s.fab.lastTopo (msTime 10) = true)
include hdone hforeign hbest htopo

theorem fabricJoin_lower (hk : k.beats s.bestKey = true) (offset : Int) :
    fabricJoin s p true offset =
      ((((s.timeJoined offset).rolesGone.keyTaken p).setFld Reg.FAB_STAT Fld.FAB_STAT_STATE 0).enterUp p).advertise := by
  unfold fabricJoin
  dsimp only
  rw [hbest, if_neg (by rcases htopo with h | h <;> simp [hdone, hforeign, hk, h]), if_neg (by decide)]
  rfl

theorem fabricJoin_upper (hk : k.beats s.bestKey = false) (offset : Int) : fabricJoin s p false offset = s.enterUp p := by
  unfold fabricJoin
  dsimp only
  rw [hbest, if_neg (by rcases htopo with h | h <;> simp [hdone, hforeign, hk, h]), if_pos (by decide)]

end

/-- A port's best key stands while the time is joined. -/
theorem State.nbrBest_timeJoined (s : State) (offset : Int) (p : Nat) : ((s.timeJoined offset).portU p).nbrBest = (s.portU p).nbrBest := by
  have stands : s.PortsStand (s.timeJoined offset) := by
    unfold State.timeJoined
    split
    · exact .refl s
    · split
      · unfold State.announceStep State.broadcast
        refine State.PortsStand.of_port (State.PortsStand.inject (.of_port (.refl s) ?_) _) rfl
        rfl
      · exact (State.PortsStand.refl s).of_port ((State.sameBut_of_outside (p := { Parts.registers with fab := true })
          (s.steerBy_outside offset ⟨rfl, trivial, trivial⟩)).port rfl)
  have same : ((s.timeJoined offset).portU p).steady.nbrBest = (s.portU p).steady.nbrBest := congrArg Port.nbrBest (stands.steady p)
  exact same

theorem State.rolesGone_shows (s : State) :
    s.rolesGone.flag Reg.FAB_STAT Fld.FAB_STAT_MANAGER = false ∧ s.rolesGone.flag Reg.FAB_STAT Fld.FAB_STAT_ROOT = false := by
  constructor
  · rw [State.rolesGone, State.flag_clear_apart _ ⟨by decide, by decide⟩ (by decide) (by decide),
      State.flag_clear_apart _ ⟨by decide, by decide⟩ (by decide) (by decide),
      State.flag_clear_apart _ ⟨by decide, by decide⟩ (by decide) (by decide), State.flag_clear _ ⟨by decide, by decide⟩]
  · rw [State.rolesGone, State.flag_clear_apart _ ⟨by decide, by decide⟩ (by decide) (by decide), State.flag_clear _ ⟨by decide, by decide⟩]

theorem State.port_rolesGone (s : State) : s.rolesGone.port = s.port := by
  rw [State.rolesGone, State.clear, State.setFld, State.port_setReg, State.clear, State.setFld, State.port_setReg, State.clear, State.setFld,
    State.port_setReg, State.clear, State.setFld, State.port_setReg]

theorem State.reg_keyTaken (s : State) (p a : Nat) : (s.keyTaken p).reg a = s.reg a := by
  unfold State.keyTaken State.reg
  rfl

theorem fabricJoin_joins {s : State} {p : Nat} {k : Key} (hdone : s.helloDone p = true) (hforeign : s.foreign p = true)
    (hbest : (s.portU p).nbrBest = some k) (hk : k.beats s.bestKey = true)
    (htopo : s.fab.lastTopo = none ∨ s.longSince s.fab.lastTopo (msTime 10) = true) (offset : Int) :
    (fabricJoin s p true offset).lstate p = lsUp ∧ (fabricJoin s p true offset).isManager = false ∧
      (fabricJoin s p true offset).flag Reg.FAB_STAT Fld.FAB_STAT_ROOT = false ∧ (fabricJoin s p true offset).fab.best = some k := by
  rw [fabricJoin_lower hdone hforeign hbest htopo hk]
  generalize hj : (s.timeJoined offset).rolesGone = j
  obtain ⟨hkept, hreg⟩ := (((j.keyTaken p).setFld Reg.FAB_STAT Fld.FAB_STAT_STATE 0).enterUp p).advertise_keeps
  obtain ⟨hstat, hup⟩ := ((j.keyTaken p).setFld Reg.FAB_STAT Fld.FAB_STAT_STATE 0).enterUp_keeps p
  obtain ⟨hman, hroot⟩ := (s.timeJoined offset).rolesGone_shows
  rw [hj] at hman hroot
  have best : j.portU p = (s.timeJoined offset).portU p := hj ▸ State.portU_congr (State.port_rolesGone _) p
  refine ⟨(State.fld_congr (hreg _) _).trans (State.lstate_enterUp _ _), ?_, ?_, ?_⟩
  · rw [State.isManager, State.flag_congr (hreg _), State.flag_congr hstat,
      State.flag_setFld_apart _ ⟨by decide, by decide⟩ (by decide) (by decide), State.flag_congr (State.reg_keyTaken _ _ _), hman]
  · rw [State.flag_congr (hreg _), State.flag_congr hstat, State.flag_setFld_apart _ ⟨by decide, by decide⟩ (by decide) (by decide),
      State.flag_congr (State.reg_keyTaken _ _ _), hroot]
  · rw [hkept, hup, State.setFld, State.fab_setReg]
    exact ((congrArg Port.nbrBest best).trans (s.nbrBest_timeJoined offset p)).trans hbest

/-! ### The commands' answers -/

theorem tableSwitch_answers (s : State) : exec .tableSwitch s = .next (tableSwitch s) :=
  State.effect_of_outside (P := Parts.all) (tableSwitch_outside s (by simp [Parts.all, Parts.emits]))

theorem vcResumed_answers {s : State} (hb : s.bootFailed = false) (mask : Nat) : exec (.vcResumed mask) s = .next (vcResumed s mask) :=
  State.answer_open (P := Parts.all) hb (vcResumed_outside s mask (by simp [Parts.all, Parts.emits]))

theorem fabricJoin_answers (s : State) (p : Nat) (higher : Bool) (offset : Int) :
    exec (.fabricJoin p higher offset) s = .next (fabricJoin s p higher offset) :=
  State.effect_of_outside (P := Parts.all) (fabricJoin_outside s p higher offset (by simp [Parts.all, Parts.emits]))

/-- Settles O50: the switch by what it leaves active, a stopped channel by its port, a joined fabric by the key it takes. -/
theorem routingTables : Obligations.RoutingTables := by
  unfold Obligations.RoutingTables
  refine ⟨fun s u => ⟨_, State.effect_of_outside (P := Parts.all) (tableCommit_outside s u rfl), rfl⟩,
    fun s u h hu => ⟨_, tableSwitch_answers s, tableSwitch_shows h hu⟩,
    fun s u h hu => ⟨_, State.effect_of_outside (P := Parts.all) (bankRetire_outside s rfl), bankRetire_due h hu⟩,
    fun s h hn => ⟨_, State.effect_of_outside (P := Parts.all) (fabChurn_outside s (by simp [Parts.all, Parts.emits])), ?_⟩,
    fun s p v ms hp hv hfp hup hnot hlong hcredit => ⟨_, State.effect_of_outside (P := Parts.all)
      (vcStall_outside s p v ms (by simp [Parts.all, Parts.emits])), vcStall_stops hp hv hfp hup hnot hlong hcredit⟩,
    fun s mask p v hb hp hv hbit => ⟨_, vcResumed_answers hb mask, vcResumed_resumes s hp hv hbit⟩,
    fun s p offset k hdone hforeign hbest hk htopo => ⟨_, fabricJoin_answers s p true offset,
      fabricJoin_joins hdone hforeign hbest hk htopo offset⟩,
    fun s p offset k hdone hforeign hbest hk htopo => ⟨_, fabricJoin_answers s p false offset, ?_⟩⟩
  · obtain ⟨hshown, hrecs⟩ := s.churnShown_shows
    rw [fabChurn_due h hn]
    exact ⟨rfl, hshown, hrecs⟩
  · obtain ⟨hstat, hup⟩ := s.enterUp_keeps p
    rw [fabricJoin_upper hdone hforeign hbest htopo hk]
    exact ⟨s.lstate_enterUp p, State.flag_congr hstat _, hup⟩

end Sys2Proof.Machine
end

section
set_option Elab.async false
/-!
PROOF. The election and the repair of the clock tree (O46).
-/
namespace Sys2Proof.Machine

/-! ### What a change of the clock source leaves (R325, R368) -/

/-- A field of FP_STAT but the mark of the clock's port. -/
def offClksrc (f : Field) : Prop := f.lo ≤ f.hi ∧ (Fld.FP_STAT_CLKSRC.hi < f.lo ∨ f.hi < Fld.FP_STAT_CLKSRC.lo)

/-- A field of FAB_STAT but the depth and the mark of the root. -/
def offRoot (f : Field) : Prop := offDepth f ∧ (Fld.FAB_STAT_ROOT.hi < f.lo ∨ f.hi < Fld.FAB_STAT_ROOT.lo)

/-- The clock source alone tells the fabric's registers of two states apart. -/
structure State.SourceMoves (s t : State) : Prop where
  fabStat : ∀ f, offRoot f → t.fld Reg.FAB_STAT f = s.fld Reg.FAB_STAT f
  fpStat : ∀ p f, offClksrc f → t.fld (Reg.FP_STAT p) f = s.fld (Reg.FP_STAT p) f

/-- The registers of the fabric that a clock source is shown in. -/
def sourceShown (a : Nat) : Prop := a = Reg.FAB_STAT ∨ ∃ p, a = Reg.FP_STAT p

theorem sourceShown_fabStat : sourceShown Reg.FAB_STAT := .inl rfl

theorem sourceShown_fpStat (p : Nat) : sourceShown (Reg.FP_STAT p) := .inr ⟨p, rfl⟩

theorem not_sourceShown {a : Nat} (h : a < 0x8000) : ¬sourceShown a := by
  rintro (rfl | ⟨p, rfl⟩)
  · exact absurd h (by decide)
  · exact absurd (unitReg_ge p).1 (Nat.not_le.2 (Nat.lt_trans h (by decide)))

theorem fpStat_inj {p q : Nat} (h : p ≠ q) : Reg.FP_STAT p ≠ Reg.FP_STAT q := series_injective (by decide) h

section
variable {s t u : State}

theorem State.SourceMoves.refl (s : State) : s.SourceMoves s := ⟨fun _ _ => rfl, fun _ _ _ => rfl⟩

theorem State.SourceMoves.trans (h : s.SourceMoves t) (k : t.SourceMoves u) : s.SourceMoves u :=
  ⟨fun f hf => (k.fabStat f hf).trans (h.fabStat f hf), fun p f hf => (k.fpStat p f hf).trans (h.fpStat p f hf)⟩

theorem State.SourceMoves.of_reg (h : s.SourceMoves t) (k : ∀ a, sourceShown a → u.reg a = t.reg a) : s.SourceMoves u :=
  ⟨fun f hf => (State.fld_congr (k _ sourceShown_fabStat) f).trans (h.fabStat f hf),
    fun p f hf => (State.fld_congr (k _ (sourceShown_fpStat p)) f).trans (h.fpStat p f hf)⟩

theorem State.SourceMoves.of_outside (h : s.SourceMoves t)
    (k : u.outside (Parts.sparing sourceShown) = t.outside (Parts.sparing sourceShown)) : s.SourceMoves u :=
  h.of_reg fun _ ha => State.reg_of_sparing k ha

theorem State.SourceMoves.showSource (h : s.SourceMoves t) : s.SourceMoves t.showSource := by
  refine ⟨fun f hf => (State.fabStat_showSource hf.1 t).trans (h.fabStat f hf), fun p f hf => Eq.trans ?_ (h.fpStat p f hf)⟩
  have marked : ∀ l : List Nat, (l.foldl (fun (v : State) q => if hasFp v.fac.variant q then
      v.setFld (Reg.FP_STAT q) Fld.FP_STAT_CLKSRC (bit (t.clkSel == q + 1)) else v) t).fld (Reg.FP_STAT p) f = t.fld (Reg.FP_STAT p) f :=
    fun l => List.foldlRecOn (motive := fun v : State => v.fld (Reg.FP_STAT p) f = t.fld (Reg.FP_STAT p) f) l _ rfl fun v hv q _ => by
      split
      · by_cases hq : p = q
        · rw [hq, State.fld_setFld_apart _ _ ⟨by decide, by decide⟩ hf.1 hf.2, ← hq, hv]
        · rw [State.fld_setFld_other _ (fpStat_inj hq), hv]
      · exact hv
  unfold State.showSource
  dsimp only
  refine List.foldlRecOn (motive := fun v : State => v.fld (Reg.FP_STAT p) f = t.fld (Reg.FP_STAT p) f) _ _ ?_ fun v hv q _ => ?_
  · rw [State.fld_setFld_other _ (fpStat_ne (by decide) p), marked]
  · split
    · exact hv
    · exact (State.fld_setFld_other _ (fpStat_ne (by decide) p) _ _ _).trans hv

theorem State.SourceMoves.takeSource (h : s.SourceMoves t) (c : Nat) : s.SourceMoves (t.takeSource c) := by
  unfold State.takeSource
  refine State.SourceMoves.showSource (h.of_reg fun a ha => ?_)
  rw [State.reg_setFld_other _ (fun hc => not_sourceShown (by decide) (hc ▸ ha))]
  rfl

theorem State.SourceMoves.beginHoldover (h : s.SourceMoves t) : s.SourceMoves t.beginHoldover :=
  h.of_outside (t.beginHoldover_outside (by simp +decide (disch := decide) [Parts.sparing, Parts.all, not_sourceShown]))

theorem State.SourceMoves.sendOffers (h : s.SourceMoves t) (except : Option Nat) : s.SourceMoves (t.sendOffers except) :=
  h.of_outside (t.sendOffers_outside except ⟨rfl, rfl⟩)

theorem State.SourceMoves.clearRoot (h : s.SourceMoves t) : s.SourceMoves (t.clear Reg.FAB_STAT Fld.FAB_STAT_ROOT) :=
  ⟨fun f hf => (State.fld_setFld_apart _ _ ⟨by decide, by decide⟩ hf.1.1 hf.2 _).trans (h.fabStat f hf),
    fun p f hf => (State.fld_congr (State.reg_clear_other _ (fpStat_ne (by decide) p) _) f).trans (h.fpStat p f hf)⟩

theorem State.SourceMoves.reparent (h : s.SourceMoves t) (p : Nat) : s.SourceMoves (t.reparent p) :=
  ((h.clearRoot.beginHoldover).takeSource _).sendOffers _

theorem State.SourceMoves.autoSwitch (h : s.SourceMoves t) : s.SourceMoves t.autoSwitch := by
  unfold State.autoSwitch
  dsimp only
  split
  · exact h
  · split
    · exact h
    · exact h.beginHoldover.takeSource 0
    · exact h.reparent _

theorem State.SourceMoves.flagFab (h : s.SourceMoves t) {f : Field} (hf : offRoot f) : t.flag Reg.FAB_STAT f = s.flag Reg.FAB_STAT f := by
  rw [State.flag, State.flag, h.fabStat f hf]

theorem State.SourceMoves.flagFp (h : s.SourceMoves t) (p : Nat) {f : Field} (hf : offClksrc f) :
    t.flag (Reg.FP_STAT p) f = s.flag (Reg.FP_STAT p) f := by
  rw [State.flag, State.flag, h.fpStat p f hf]

end

/-! ### Orphans and offers (R368) -/

theorem State.reg_orphaned (s : State) (die : Nat) {a : Nat} (h : a ≠ Reg.FAB_STAT) : (s.orphaned die).reg a = s.reg a :=
  (State.sameBut_of_outside (p := { regs := is Reg.FAB_STAT, fab := true, out := true, port := true })
    (s.orphaned_outside die ⟨rfl, rfl, rfl, rfl⟩)).reg a h

theorem State.orphan_orphaned (s : State) (die : Nat) : (s.orphaned die).flag Reg.FAB_STAT Fld.FAB_STAT_ORPHAN = true := by
  unfold State.orphaned
  split
  · next h => exact h
  · refine List.foldlRecOn (motive := fun v : State => v.flag Reg.FAB_STAT Fld.FAB_STAT_ORPHAN = true) _ _
      ((State.flag_congr (State.reg_withFab _ _ _) _).trans (State.flag_raise s _ ⟨by decide, by decide⟩)) fun v hv p _ => ?_
    split
    · exact (State.flag_congr (State.reg_sendControl _ _ _ _) _).trans hv
    · exact hv

theorem lost_shows {s : State} {p : Nat} (hp : p < 4) (hfp : hasFp s.fac.variant p = true) (htalks : s.talks p = true) (die : Nat) :
    (lost s p die).flag (Reg.FP_STAT p) Fld.FP_STAT_NORPHAN = true ∧ (lost s p die).flag Reg.FAB_STAT Fld.FAB_STAT_ORPHAN = true := by
  have moved := State.SourceMoves.autoSwitch (.refl ((s.raise (Reg.FP_STAT p) Fld.FP_STAT_NORPHAN).orphaned die))
  rw [lost, if_neg (by simp [hp, hfp, htalks])]
  constructor
  · rw [moved.flagFp p ⟨by decide, by decide⟩, State.flag_congr (State.reg_orphaned _ _ (fpStat_ne (by decide) p)),
      State.flag_raise _ _ ⟨by decide, by decide⟩]
  · rw [moved.flagFab ⟨⟨by decide, by decide⟩, by decide⟩, State.orphan_orphaned]

/-- An offer is heard: the neighbour's depth, and that it is no orphan. -/
noncomputable def State.offerHeard (s : State) (p depth : Nat) : State :=
  (s.setFld (Reg.FP_STAT p) Fld.FP_STAT_NDEPTH depth).clear (Reg.FP_STAT p) Fld.FP_STAT_NORPHAN

theorem State.offerHeard_shows (s : State) (p depth : Nat) :
    (s.offerHeard p depth).fld (Reg.FP_STAT p) Fld.FP_STAT_NDEPTH = depth % 2 ^ fieldWidth Fld.FP_STAT_NDEPTH ∧
      (s.offerHeard p depth).flag (Reg.FP_STAT p) Fld.FP_STAT_NORPHAN = false ∧
      (s.offerHeard p depth).flag Reg.FAB_STAT Fld.FAB_STAT_ORPHAN = s.flag Reg.FAB_STAT Fld.FAB_STAT_ORPHAN := by
  refine ⟨?_, State.flag_clear _ ⟨by decide, by decide⟩, ?_⟩
  · rw [State.offerHeard, State.clear, State.fld_setFld_apart _ _ ⟨by decide, by decide⟩ (by decide) (by decide),
      State.fld_setFld_self _ _ ⟨by decide, by decide⟩]
  · rw [State.offerHeard, State.flag_congr (State.reg_clear_other _ (fpStat_ne (by decide) p).symm _),
      State.flag_congr (State.reg_setFld_other _ (fpStat_ne (by decide) p).symm _ _)]

theorem State.offerHeard_sameBut (s : State) (p depth : Nat) : s.SameBut Parts.registers (s.offerHeard p depth) :=
  State.sameBut_of_outside (by
    rw [State.offerHeard, State.clear_outside _ _ _ trivial, State.setFld_outside _ _ _ _ trivial])

/-- The source that is taken, and what the fabric's unit keeps of it. -/
theorem State.takeSource_shows (s : State) (c : Nat) :
    (s.takeSource c).clk.switching = some c ∧
      (s.takeSource c).fab = { s.fab with repair := s.fab.repair || s.flag Reg.FAB_STAT Fld.FAB_STAT_ORPHAN } := by
  unfold State.takeSource
  extract_lets old unit x t
  have shown := State.sameBut_of_outside (p := Parts.registers) ((t.setFld Reg.CLK_SRC Fld.CLK_SRC_SEL c).showSource_outside
    ⟨trivial, trivial, fun _ => trivial⟩)
  have named := State.sameBut_of_outside (p := Parts.registers) (t.setFld_outside Reg.CLK_SRC Fld.CLK_SRC_SEL c trivial)
  exact ⟨(congrArg ClkUnit.switching ((shown.clk rfl).trans (named.clk rfl))), (shown.fab rfl).trans (named.fab rfl)⟩

theorem State.sendOffers_sameBut (s : State) (except : Option Nat) : s.SameBut { out := true, port := true } (s.sendOffers except) :=
  State.sameBut_of_outside (s.sendOffers_outside except ⟨rfl, rfl⟩)

theorem State.fab_beginHoldover (s : State) : s.beginHoldover.fab = s.fab :=
  (State.sameBut_of_outside (p := { Parts.registers with clk := true }) (s.beginHoldover_outside ⟨rfl, trivial, trivial⟩)).fab rfl

theorem State.reparent_shows (s : State) (p : Nat) :
    (s.reparent p).clk.switching = some (p + 1) ∧ (s.reparent p).fab.offered = s.fab.offered ∧
      (s.reparent p).fab.rootDie = s.fab.rootDie := by
  have offers := (((s.clear Reg.FAB_STAT Fld.FAB_STAT_ROOT).beginHoldover).takeSource (p + 1)).sendOffers_sameBut (some p)
  obtain ⟨hswitch, hfab⟩ := ((s.clear Reg.FAB_STAT Fld.FAB_STAT_ROOT).beginHoldover).takeSource_shows (p + 1)
  have held : ((s.clear Reg.FAB_STAT Fld.FAB_STAT_ROOT).beginHoldover).fab = s.fab :=
    (State.fab_beginHoldover _).trans (State.fab_setReg _ _ _)
  rw [held] at hfab
  unfold State.reparent
  rw [offers.clk rfl, offers.fab rfl, hfab]
  exact ⟨hswitch, rfl, rfl⟩

/-- The fabric's unit of an orphan that has taken an offer. -/
noncomputable def State.offerTaken (s : State) (die : Nat) : State := { s with fab := { s.fab with offered := true, rootDie := die } }

theorem offer_heard {s : State} {p : Nat} (hp : p < 4) (hfp : hasFp s.fac.variant p = true) (htalks : s.talks p = true) (depth die : Nat) :
    offer s p depth die = if (!(s.offerHeard p depth).flag Reg.FAB_STAT Fld.FAB_STAT_ORPHAN || (s.offerHeard p depth).fab.offered ||
      (s.offerHeard p depth).clk.switching.isSome) = true then s.offerHeard p depth else ((s.offerHeard p depth).offerTaken die).reparent p := by
  unfold offer
  rw [if_neg (by simp [hp, hfp, htalks])]
  rfl

theorem State.SourceMoves.offerTaken (s : State) (die : Nat) : s.SourceMoves (s.offerTaken die) :=
  (State.SourceMoves.refl s).of_reg fun a _ => s.reg_withFab _ a

theorem offer_shows {s : State} {p : Nat} (hp : p < 4) (hfp : hasFp s.fac.variant p = true) (htalks : s.talks p = true) (depth die : Nat) :
    (offer s p depth die).fld (Reg.FP_STAT p) Fld.FP_STAT_NDEPTH = depth % 2 ^ fieldWidth Fld.FP_STAT_NDEPTH ∧
      (offer s p depth die).flag (Reg.FP_STAT p) Fld.FP_STAT_NORPHAN = false := by
  obtain ⟨hdepth, horphan, -⟩ := s.offerHeard_shows p depth
  rw [offer_heard hp hfp htalks]
  split
  · exact ⟨hdepth, horphan⟩
  · have moved := (State.SourceMoves.offerTaken (s.offerHeard p depth) die).reparent p
    exact ⟨(moved.fpStat p _ ⟨by decide, by decide⟩).trans hdepth, (moved.flagFp p ⟨by decide, by decide⟩).trans horphan⟩

theorem offer_taken {s : State} {p : Nat} (hp : p < 4) (hfp : hasFp s.fac.variant p = true) (htalks : s.talks p = true)
    (horphan : s.flag Reg.FAB_STAT Fld.FAB_STAT_ORPHAN = true) (hoffer : s.fab.offered = false) (hswitch : s.clk.switching = none)
    (depth die : Nat) :
    (offer s p depth die).fab.offered = true ∧ (offer s p depth die).fab.rootDie = die ∧
      (offer s p depth die).clk.switching = some (p + 1) := by
  obtain ⟨-, -, hstands⟩ := s.offerHeard_shows p depth
  have heard := s.offerHeard_sameBut p depth
  obtain ⟨hmoves, hoffered, hroot⟩ := ((s.offerHeard p depth).offerTaken die).reparent_shows p
  rw [offer_heard hp hfp htalks, hstands, heard.fab rfl, heard.clk rfl, if_neg (by simp [horphan, hoffer, hswitch])]
  exact ⟨hoffered, hroot, hmoves⟩

/-! ### The repair (R368, R379) -/

theorem State.lockSource_shows (s : State) : s.lockSource.clk.switching = none ∧ s.lockSource.reg Reg.FAB_STAT = s.reg Reg.FAB_STAT := by
  have frame : s.lockSource.outside (Parts.sparing (fun a => a = Reg.FAB_STAT)) = s.outside (Parts.sparing (fun a => a = Reg.FAB_STAT)) :=
    s.lockSource_outside (by simp +decide [Parts.sparing, Parts.all])
  refine ⟨?_, State.reg_of_sparing frame rfl⟩
  unfold State.lockSource
  split
  · assumption
  · extract_lets unit t u
    have locked : u.clk.switching = none := by
      unfold u
      split
      · exact congrArg ClkUnit.switching ((State.sameBut_of_outside (p := Parts.registers) (t.setFld_outside _ _ _ trivial)).clk rfl)
      · rfl
    split
    · exact locked
    · exact (congrArg ClkUnit.switching ((State.sameBut_of_outside (p := Parts.registers) (u.raise_outside _ _ trivial)).clk rfl)).trans locked

/-- The record of a repair is written. -/
noncomputable def State.repairTold (s : State) : State :=
  (s.clear Reg.FAB_STAT Fld.FAB_STAT_ORPHAN).emit 0x0430 0xFF [(s.clkPort : Int), s.fld Reg.FAB_STAT Fld.FAB_STAT_DEPTH,
    ((s.time - s.fab.orphanAt.getD s.time).toNat * 100000000 / 2 ^ 32 : Nat)]

/-- The fabric's unit after a repair. -/
noncomputable def State.repairDone (s : State) : State := { s with fab := { s.fab with orphanAt := none, offered := false, repair := false } }

theorem clkRepair_due {s : State} (horphan : s.flag Reg.FAB_STAT Fld.FAB_STAT_ORPHAN = true) (hrepair : s.fab.repair = true) :
    clkRepair s = s.repairTold.lockSource.repairDone := by
  unfold clkRepair
  rw [if_neg (by simp [horphan, hrepair])]
  rfl

theorem State.repairDone_shows (s : State) :
    s.repairDone.reg Reg.FAB_STAT = s.reg Reg.FAB_STAT ∧ s.repairDone.clk.switching = s.clk.switching ∧ s.repairDone.fab.repair = false :=
  ⟨s.reg_withFab _ _, rfl, rfl⟩

theorem clkRepair_shows {s : State} (horphan : s.flag Reg.FAB_STAT Fld.FAB_STAT_ORPHAN = true) (hrepair : s.fab.repair = true) :
    (clkRepair s).flag Reg.FAB_STAT Fld.FAB_STAT_ORPHAN = false ∧ (clkRepair s).clk.switching = none ∧ (clkRepair s).fab.repair = false := by
  obtain ⟨hnone, hstat⟩ := s.repairTold.lockSource_shows
  obtain ⟨hreg, hswitch, hdone⟩ := s.repairTold.lockSource.repairDone_shows
  rw [clkRepair_due horphan hrepair]
  refine ⟨?_, hswitch.trans hnone, hdone⟩
  rw [State.flag_congr hreg, State.flag_congr hstat, State.repairTold, State.flag_congr (State.emit_reg _ _ _ _ (by decide)),
    State.flag_clear _ ⟨by decide, by decide⟩]

/-! ### The baton (R375) -/

/-- The rate that keeps fabric time, from a number that is free. -/
noncomputable def batonRate (n : Nat) : Rat := ((n % 1000000001 : Nat) : Rat) / 1000000000000 - 1 / 2000

/-- The successor takes over the tree of the clock with a rate of its own. -/
noncomputable def State.batonTaken (s : State) : State :=
  { ((s.freeNat 30).2.freeNat 30).2 with
    fab := { ((s.freeNat 30).2.freeNat 30).2.fab with y := batonRate (s.freeNat 30).1, yInt := batonRate ((s.freeNat 30).2.freeNat 30).1,
                                                      offered := true, rootDie := ((s.freeNat 30).2.freeNat 30).2.fac.dieId.toNat },
    clk := { ((s.freeNat 30).2.freeNat 30).2.clk with baton := some ((s.freeNat 30).2.freeNat 30).2.fab.rootDie } }

/-- The successor of the successor, where the topology is known. -/
noncomputable def State.nextSuccessor (s : State) : Nat :=
  ((hostOrder s.knownTopo).filter (fun a => a != s.fld Reg.FAB_ROLES0 Fld.FAB_ROLES0_A && a != s.ownAddr)).headD 0

/-- The successor shows itself as the root. -/
noncomputable def State.rootShown (s : State) : State :=
  ((s.raise Reg.FAB_STAT Fld.FAB_STAT_ROOT).clear Reg.FAB_STAT Fld.FAB_STAT_SUCCESSOR).raise Reg.FAB_STAT Fld.FAB_STAT_BATON_S

/-- The root and its successor are named. -/
noncomputable def State.rootNamed (s : State) (next : Nat) : State :=
  ((s.setFld Reg.FAB_ROLES0 Fld.FAB_ROLES0_A s.ownAddr).setFld Reg.FAB_ROLES0 Fld.FAB_ROLES0_B next).showFreq

/-- The new root runs from REFCLK. -/
noncomputable def State.refTaken (s : State) : State := (s.beginHoldover.takeSource 0).sendOffers none

theorem baton_due {s : State} {u : Time} (hhost : hasHost s.fac.variant = true)
    (hsucc : s.flag Reg.FAB_STAT Fld.FAB_STAT_SUCCESSOR = true) (horphan : s.flag Reg.FAB_STAT Fld.FAB_STAT_ORPHAN = true)
    (hoffer : s.fab.offered = false) (hswitch : s.clk.switching = none) (hat : s.fab.orphanAt = some u)
    (hlong : usTime 20 ≤ (s.time - u).toNat) : baton s = (s.batonTaken.rootShown.rootNamed s.nextSuccessor).refTaken := by
  unfold baton
  rw [if_neg (by
    rw [hat, hhost, hsucc, horphan, hoffer, hswitch]
    simpa using hlong)]
  rfl

theorem State.reg_batonTaken (s : State) (a : Nat) : s.batonTaken.reg a = s.reg a := by
  unfold State.batonTaken State.freeNat State.reg
  rfl

theorem State.rootShown_shows (s : State) :
    s.rootShown.flag Reg.FAB_STAT Fld.FAB_STAT_ROOT = true ∧ s.rootShown.flag Reg.FAB_STAT Fld.FAB_STAT_SUCCESSOR = false ∧
      s.rootShown.reg Reg.FAB_ADDR = s.reg Reg.FAB_ADDR := by
  refine ⟨?_, ?_, ?_⟩
  · rw [State.rootShown, State.flag_raise_apart _ ⟨by decide, by decide⟩ (by decide) (by decide),
      State.flag_clear_apart _ ⟨by decide, by decide⟩ (by decide) (by decide), State.flag_raise _ _ ⟨by decide, by decide⟩]
  · rw [State.rootShown, State.flag_raise_apart _ ⟨by decide, by decide⟩ (by decide) (by decide),
      State.flag_clear _ ⟨by decide, by decide⟩]
  · rw [State.rootShown, State.reg_raise_other _ (by decide), State.reg_clear_other _ (by decide), State.reg_raise_other _ (by decide)]

theorem State.rootNamed_shows (s : State) (next : Nat) :
    (s.rootNamed next).reg Reg.FAB_STAT = s.reg Reg.FAB_STAT ∧ (s.rootNamed next).fld Reg.FAB_ROLES0 Fld.FAB_ROLES0_A = s.ownAddr := by
  have small : s.ownAddr % 2 ^ fieldWidth Fld.FAB_ROLES0_A = s.ownAddr :=
    Nat.mod_eq_of_lt (getField_lt (f := Fld.FAB_ADDR_ADDR) _)
  constructor
  · rw [State.rootNamed, State.showFreq, State.reg_setReg_other _ (by decide), State.reg_setFld_other _ (by decide),
      State.reg_setFld_other _ (by decide)]
  · rw [State.rootNamed, State.showFreq, State.fld_congr (State.reg_setReg_other _ (by decide) _),
      State.fld_setFld_apart _ _ ⟨by decide, by decide⟩ (by decide) (by decide), State.fld_setFld_self _ _ ⟨by decide, by decide⟩, small]

/-- At the root the clock's depth is 0. -/
theorem State.depth_showSource {s : State} (h : s.flag Reg.FAB_STAT Fld.FAB_STAT_ROOT = true) :
    s.showSource.fld Reg.FAB_STAT Fld.FAB_STAT_DEPTH = 0 := by
  have marked : ∀ l : List Nat, (l.foldl (fun (v : State) q => if hasFp v.fac.variant q then
      v.setFld (Reg.FP_STAT q) Fld.FP_STAT_CLKSRC (bit (s.clkSel == q + 1)) else v) s).reg Reg.FAB_STAT = s.reg Reg.FAB_STAT :=
    fun l => List.foldlRecOn (motive := fun v : State => v.reg Reg.FAB_STAT = s.reg Reg.FAB_STAT) l _ rfl fun v hv q _ => by
      split
      · exact (v.reg_setFld_other (fpStat_ne (by decide) q).symm _ _).trans hv
      · exact hv
  unfold State.showSource
  dsimp only
  refine List.foldlRecOn (motive := fun v : State => v.fld Reg.FAB_STAT Fld.FAB_STAT_DEPTH = 0) _ _ ?_ fun v hv q _ => ?_
  · rw [State.flag_congr (marked _), if_pos h, State.fld_setFld_self _ _ ⟨by decide, by decide⟩, Nat.zero_mod]
  · split
    · exact hv
    · exact (State.fld_setFld_other _ (by decide) _ _ _).trans hv

theorem State.takeSource_named (s : State) (c : Nat) :
    (s.takeSource c).clkSel = c % 2 ^ fieldWidth Fld.CLK_SRC_SEL ∧
      (s.flag Reg.FAB_STAT Fld.FAB_STAT_ROOT = true → (s.takeSource c).fld Reg.FAB_STAT Fld.FAB_STAT_DEPTH = 0) := by
  unfold State.takeSource
  extract_lets old unit x t
  have stat : (t.setFld Reg.CLK_SRC Fld.CLK_SRC_SEL c).reg Reg.FAB_STAT = s.reg Reg.FAB_STAT :=
    (State.reg_setFld_other _ (by decide) _ _).trans (by unfold t State.reg; rfl)
  constructor
  · have frame := State.reg_of_sparing (kept := fun a => a = Reg.CLK_SRC) ((t.setFld Reg.CLK_SRC Fld.CLK_SRC_SEL c).showSource_outside (by
      simp +decide (disch := decide) [Parts.sparing, Parts.all, fpStat_ne])) rfl
    rw [State.clkSel, State.fld_congr frame, State.fld_setFld_self _ _ ⟨by decide, by decide⟩]
  · exact fun h => State.depth_showSource ((State.flag_congr stat _).trans h)

/-- The registers of the fabric's management. -/
def fabRegs (a : Nat) : Prop := a = Reg.FAB_STAT ∨ a = Reg.FAB_ROLES0

theorem State.refTaken_shows {s : State} (h : s.flag Reg.FAB_STAT Fld.FAB_STAT_ROOT = true) :
    s.refTaken.flag Reg.FAB_STAT Fld.FAB_STAT_ROOT = true ∧
      s.refTaken.flag Reg.FAB_STAT Fld.FAB_STAT_SUCCESSOR = s.flag Reg.FAB_STAT Fld.FAB_STAT_SUCCESSOR ∧
      s.refTaken.clkSel = 0 ∧ s.refTaken.clk.switching = some 0 ∧ s.refTaken.fld Reg.FAB_STAT Fld.FAB_STAT_DEPTH = 0 ∧
      s.refTaken.reg Reg.FAB_ROLES0 = s.reg Reg.FAB_ROLES0 := by
  have offers := (s.beginHoldover.takeSource 0).sendOffers_sameBut none
  have held : ∀ a, fabRegs a → s.beginHoldover.reg a = s.reg a := fun a ha =>
    State.reg_of_sparing (kept := fabRegs) (s.beginHoldover_outside (by simp +decide [Parts.sparing, Parts.all, fabRegs])) ha
  have root : s.beginHoldover.flag Reg.FAB_STAT Fld.FAB_STAT_ROOT = true := (State.flag_congr (held _ (.inl rfl)) _).trans h
  obtain ⟨hsel, hdepth⟩ := s.beginHoldover.takeSource_named 0
  have roles : (s.beginHoldover.takeSource 0).reg Reg.FAB_ROLES0 = s.beginHoldover.reg Reg.FAB_ROLES0 :=
    State.reg_of_sparing (kept := fun a => a = Reg.FAB_ROLES0) (s.beginHoldover.takeSource_outside 0 (by
      simp +decide (disch := decide) [Parts.sparing, Parts.all, fpStat_ne])) rfl
  unfold State.refTaken
  refine ⟨?_, ?_, ?_, (congrArg ClkUnit.switching (offers.clk rfl)).trans (s.beginHoldover.takeSource_shows 0).1, ?_, ?_⟩
  · rw [State.flag_congr (offers.reg _ not_false), State.flag, State.fabStat_takeSource ⟨by decide, by decide⟩, ← State.flag, root]
  · rw [State.flag_congr (offers.reg _ not_false), State.flag, State.fabStat_takeSource ⟨by decide, by decide⟩, ← State.flag,
      State.flag_congr (held _ (.inl rfl))]
  · exact (State.fld_congr (offers.reg _ not_false) _).trans hsel
  · exact (State.fld_congr (offers.reg _ not_false) _).trans (hdepth root)
  · exact ((offers.reg _ not_false).trans roles).trans (held _ (.inr rfl))

theorem baton_shows {s : State} {u : Time} (hhost : hasHost s.fac.variant = true)
    (hsucc : s.flag Reg.FAB_STAT Fld.FAB_STAT_SUCCESSOR = true) (horphan : s.flag Reg.FAB_STAT Fld.FAB_STAT_ORPHAN = true)
    (hoffer : s.fab.offered = false) (hswitch : s.clk.switching = none) (hat : s.fab.orphanAt = some u)
    (hlong : usTime 20 ≤ (s.time - u).toNat) :
    (baton s).flag Reg.FAB_STAT Fld.FAB_STAT_ROOT = true ∧ (baton s).flag Reg.FAB_STAT Fld.FAB_STAT_SUCCESSOR = false ∧
      (baton s).clkSel = 0 ∧ (baton s).clk.switching = some 0 ∧ (baton s).fld Reg.FAB_STAT Fld.FAB_STAT_DEPTH = 0 ∧
      (baton s).fld Reg.FAB_ROLES0 Fld.FAB_ROLES0_A = s.ownAddr := by
  obtain ⟨hroot, hnone, haddr⟩ := s.batonTaken.rootShown_shows
  obtain ⟨hstat, hroles⟩ := s.batonTaken.rootShown.rootNamed_shows s.nextSuccessor
  obtain ⟨kroot, ksucc, ksel, kswitch, kdepth, kroles⟩ := State.refTaken_shows ((State.flag_congr hstat _).trans hroot)
  have own : s.batonTaken.rootShown.ownAddr = s.ownAddr := State.fld_congr (haddr.trans (s.reg_batonTaken _)) _
  rw [baton_due hhost hsucc horphan hoffer hswitch hat hlong]
  exact ⟨kroot, (ksucc.trans (State.flag_congr hstat _)).trans hnone, ksel, kswitch, kdepth,
    ((State.fld_congr kroles _).trans hroles).trans own⟩

/-! ### HELLO and ELECT (R346, R357) -/

/-- The identity that HELLO has brought. -/
noncomputable def State.nbrShown (s : State) (p die nport naddr : Nat) : State :=
  ((s.setPair (Reg.FP_NBR_LO p) (Reg.FP_NBR_HI p) die).setFld (Reg.FP_NBR_ADDR p) Fld.FP_NBR_ADDR_NPORT nport).setFld (Reg.FP_NBR_ADDR p)
    Fld.FP_NBR_ADDR_NADDR naddr

theorem State.nbrShown_shows (s : State) (p die nport naddr : Nat) :
    (s.nbrShown p die nport naddr).reg (Reg.FP_NBR_LO p) = BitVec.ofNat 32 die ∧
      (s.nbrShown p die nport naddr).reg (Reg.FP_NBR_HI p) = BitVec.ofNat 32 (die / 2 ^ 32) ∧
      (s.nbrShown p die nport naddr).fld (Reg.FP_NBR_ADDR p) Fld.FP_NBR_ADDR_NADDR = naddr % 2 ^ fieldWidth Fld.FP_NBR_ADDR_NADDR := by
  have lo : Reg.FP_NBR_LO p ≠ Reg.FP_NBR_ADDR p := series_apart (by decide) p p
  have hi : Reg.FP_NBR_HI p ≠ Reg.FP_NBR_ADDR p := series_apart (by decide) p p
  have pair : Reg.FP_NBR_LO p ≠ Reg.FP_NBR_HI p := series_apart (by decide) p p
  refine ⟨?_, ?_, State.fld_setFld_self _ _ ⟨by decide, by decide⟩ _⟩
  · rw [State.nbrShown, State.reg_setFld_other _ lo, State.reg_setFld_other _ lo, State.reg_setPair_lo _ pair]
  · rw [State.nbrShown, State.reg_setFld_other _ hi, State.reg_setFld_other _ hi, State.setPair, State.reg_setReg_self]

/-- The registers of the neighbour's identity on port `p`. -/
def nbrReg (p a : Nat) : Prop := a = Reg.FP_NBR_LO p ∨ a = Reg.FP_NBR_HI p ∨ a = Reg.FP_NBR_ADDR p

theorem nbrReg_apart {p a : Nat} (h : nbrReg p a) : a ≠ Reg.CLK_READY ∧ a ≠ Reg.FAB_STAT ∧ ∀ n, a ≠ Reg.FP_STAT n := by
  rcases h with rfl | rfl | rfl <;> exact ⟨series_above (by decide) _ p, series_above (by decide) _ p, series_apart (by decide) p⟩

theorem State.reg_takeAdv (s : State) (p adv : Nat) {q a : Nat} (h : nbrReg q a) : (s.takeAdv p adv).reg a = s.reg a :=
  State.reg_of_sparing (kept := nbrReg q) (s.takeAdv_outside p adv
    ⟨fun hn => (nbrReg_apart hn).1 rfl, fun hn => (nbrReg_apart hn).2.1 rfl, fun n hn => (nbrReg_apart hn).2.2 n rfl⟩) h

theorem hello_heard {s : State} {p : Nat} (hp : p < 4) (hfp : hasFp s.fac.variant p = true) (htalks : s.talks p = true)
    (adv : Nat) (key : Key) (nport naddr : Nat) :
    hello s p adv key nport naddr = ((s.setPort p { s.portU p with
      nbr := some key, cleanFrom := (s.portU p).cleanFrom.or (some s.time) }).nbrShown p key.die nport naddr).takeAdv p adv := by
  unfold hello
  rw [if_neg (by simp [hp, hfp, htalks])]
  rfl

theorem hello_shows {s : State} {p : Nat} (hp : p < 4) (hfp : hasFp s.fac.variant p = true) (htalks : s.talks p = true)
    (adv : Nat) (key : Key) (nport naddr : Nat) :
    (hello s p adv key nport naddr).reg (Reg.FP_NBR_LO p) = BitVec.ofNat 32 key.die ∧
      (hello s p adv key nport naddr).reg (Reg.FP_NBR_HI p) = BitVec.ofNat 32 (key.die / 2 ^ 32) ∧
      (hello s p adv key nport naddr).fld (Reg.FP_NBR_ADDR p) Fld.FP_NBR_ADDR_NADDR = naddr % 2 ^ fieldWidth Fld.FP_NBR_ADDR_NADDR := by
  rw [hello_heard hp hfp htalks]
  generalize s.setPort p _ = t
  obtain ⟨hlo, hhi, haddr⟩ := t.nbrShown_shows p key.die nport naddr
  exact ⟨(State.reg_takeAdv _ _ _ (.inl rfl)).trans hlo, (State.reg_takeAdv _ _ _ (.inr (.inl rfl))).trans hhi,
    (State.fld_congr (State.reg_takeAdv _ _ _ (.inr (.inr rfl))) _).trans haddr⟩

/-- An advertisement notes only since when the own key is the best. -/
theorem State.fab_advertise (s : State) : s.advertise.fab = s.noteOwn.fab := by
  unfold State.advertise
  refine List.foldlRecOn (motive := fun (v : State) => v.fab = s.noteOwn.fab) _ _ rfl fun v hv p _ => ?_
  split
  · exact ((State.sameBut_of_outside (p := { out := true, port := true }) (v.sendControl_outside p "ELECT" _ ⟨rfl, rfl⟩)).fab rfl).trans hv
  · exact hv

theorem State.noteOwn_keeps (s : State) :
    s.noteOwn.fab.best = s.fab.best ∧ s.noteOwn.fab.bestHops = s.fab.bestHops ∧ s.noteOwn.fab.topo = s.fab.topo ∧
      s.noteOwn.fab.mgrDie = s.fab.mgrDie ∧ s.noteOwn.port = s.port := ⟨rfl, rfl, rfl, rfl, rfl⟩

theorem State.PortsStand.advertise {s t : State} (h : s.PortsStand t) : s.PortsStand t.advertise := by
  obtain ⟨-, -, -, -, hport⟩ := t.noteOwn_keeps
  unfold State.advertise
  refine List.foldlRecOn (motive := fun (v : State) => s.PortsStand v) _ _ (h.of_port hport) fun v hv p _ => ?_
  split
  · exact hv.sendControl p _ _
  · exact hv

/-- The neighbour's best key is kept. -/
noncomputable def State.nbrKept (s : State) (p : Nat) (key : Key) : State := s.setPort p { s.portU p with nbrBest := some key }

/-- A better key is the best, one hop further. -/
noncomputable def State.keyKept (s : State) (key : Key) (hops : Nat) : State := { s with fab := { s.fab with best := some key, bestHops := hops + 1 } }

theorem State.nbrKept_keeps (s : State) (p : Nat) (key : Key) :
    (s.nbrKept p key).bestKey = s.bestKey ∧ (s.nbrKept p key).ownAddr = s.ownAddr ∧ (s.nbrKept p key).lstate p = s.lstate p ∧
      (s.nbrKept p key).fab = s.fab ∧ ((s.nbrKept p key).portU p).nbrBest = some key := by
  have reg : ∀ a, (s.nbrKept p key).reg a = s.reg a := fun a => by
    unfold State.nbrKept State.setPort State.reg
    rfl
  have fab : (s.nbrKept p key).fab = s.fab := by
    unfold State.nbrKept State.setPort
    rfl
  have own : (s.nbrKept p key).ownKey = s.ownKey := by
    rw [State.ownKey, State.ownKey, State.fld_congr (reg _)]
    rfl
  refine ⟨?_, State.fld_congr (reg _) _, State.fld_congr (reg _) _, fab, ?_⟩
  · rw [State.bestKey, State.bestKey, fab, own]
  · rw [State.nbrKept, State.portU_setPort_self]

section
variable {s : State} {p : Nat} {key : Key} (hp : p < 4) (hfp : hasFp s.fac.variant p = true) (htalks : s.talks p = true)
include hp hfp htalks

theorem elect_better (hbeats : key.beats s.bestKey = true) (hplace : s.ownAddr = 0 ∨ s.lstate p ≠ lsHello) (hops : Nat) :
    elect s p key hops = ((s.nbrKept p key).keyKept key hops).advertise := by
  obtain ⟨hbest, hown, hlink, -, -⟩ := s.nbrKept_keeps p key
  have joins : (!key.beats (s.nbrKept p key).bestKey || ((s.nbrKept p key).foreign p && (s.nbrKept p key).lstate p == lsHello)) = false := by
    rw [hbest, hlink, State.foreign, hown]
    rcases hplace with h | h <;> simp [hbeats, h]
  unfold elect
  rw [if_neg (by simp [hp, hfp, htalks])]
  exact if_neg (Bool.eq_false_iff.1 joins)

theorem elect_worse (hbeats : key.beats s.bestKey = false) (hops : Nat) : elect s p key hops = s.nbrKept p key := by
  obtain ⟨hbest, -, -, -, -⟩ := s.nbrKept_keeps p key
  unfold elect
  rw [if_neg (by simp [hp, hfp, htalks])]
  refine if_pos ?_
  rw [← State.nbrKept, hbest]
  simp [hbeats]

theorem elect_better_shows (hbeats : key.beats s.bestKey = true) (hplace : s.ownAddr = 0 ∨ s.lstate p ≠ lsHello) (hops : Nat) :
    (elect s p key hops).fab.best = some key ∧ (elect s p key hops).fab.bestHops = hops + 1 ∧
      ((elect s p key hops).portU p).nbrBest = some key := by
  obtain ⟨-, -, -, -, hnbr⟩ := s.nbrKept_keeps p key
  obtain ⟨hbest, hhops, -, -, -⟩ := ((s.nbrKept p key).keyKept key hops).noteOwn_keeps
  have stands := (State.PortsStand.advertise ((State.PortsStand.refl (s.nbrKept p key)).of_port
    (u := (s.nbrKept p key).keyKept key hops) rfl)).steady p
  rw [elect_better hp hfp htalks hbeats hplace, State.fab_advertise, hbest, hhops]
  have kept : (((s.nbrKept p key).keyKept key hops).advertise.portU p).steady.nbrBest = ((s.nbrKept p key).portU p).steady.nbrBest :=
    congrArg Port.nbrBest stands
  exact ⟨rfl, rfl, Eq.trans kept hnbr⟩

end

/-! ### The manager elected, and elected anew (R357, R358, R364) -/

theorem State.FabStands.explore {s t : State} (h : s.FabStands t) : s.FabStands t.explore := by
  unfold State.explore
  refine List.foldlRecOn (motive := fun (v : State) => s.FabStands v) _ _ h fun v hv e _ => ?_
  split
  · exact hv
  · exact hv.askInfo _ _

theorem State.fabStat_explore (s : State) : s.explore.reg Reg.FAB_STAT = s.reg Reg.FAB_STAT :=
  State.reg_of_sparing (kept := fun a => a = Reg.FAB_STAT) (s.explore_outside (by
    simp +decide (disch := decide) [Parts.sparing, Parts.all, fpUtil_ne])) rfl

theorem State.FabStands.mgrDie {s t : State} (h : s.FabStands t) : t.fab.mgrDie = s.fab.mgrDie := by
  have same : t.fab.standing.mgrDie = s.fab.standing.mgrDie := congrArg FabUnit.mgrDie h.standing
  exact same

/-- The device holds itself for the manager. -/
noncomputable def State.manages (s : State) : State :=
  { s with fab := { s.fab.unformed with best := some s.ownKey, bestHops := 0, mgrDie := s.fac.dieId.toNat } }

/-- The manager shows itself, in discovery. -/
noncomputable def State.managerShown (s : State) : State := (s.raise Reg.FAB_STAT Fld.FAB_STAT_MANAGER).setFld Reg.FAB_STAT Fld.FAB_STAT_STATE 0

theorem State.managerShown_shows (s : State) :
    s.managerShown.flag Reg.FAB_STAT Fld.FAB_STAT_MANAGER = true ∧ s.managerShown.fld Reg.FAB_STAT Fld.FAB_STAT_STATE = 0 ∧
      s.managerShown.fab = s.fab := by
  refine ⟨?_, State.fld_setFld_self _ _ ⟨by decide, by decide⟩ _, ?_⟩
  · rw [State.managerShown, State.flag_setFld_apart _ ⟨by decide, by decide⟩ (by decide) (by decide),
      State.flag_raise _ _ ⟨by decide, by decide⟩]
  · rw [State.managerShown, State.setFld, State.fab_setReg, State.raise, State.setFld, State.fab_setReg]

theorem electionWin_due {s : State} {u : Time} (hmc : s.bootu.mcRunning = true) (hbest : s.bestKey = s.ownKey)
    (hsince : s.fab.ownSince = some (s.ownKey, u)) (hlong : u.toNat + msTime 2 ≤ s.time.toNat)
    (hman : s.flag Reg.FAB_STAT Fld.FAB_STAT_MANAGER = false) (hdie : s.fab.mgrDie = 0) (hnew : s.newcomer = false) :
    electionWin s = s.manages.managerShown.explore := by
  have since : (s.fab.ownSince.bind fun q => if q.1 = s.ownKey then some q.2 else none) = some u := by
    rw [hsince]
    exact if_pos rfl
  have long : s.longSince (some u) (msTime 2) = true := by simpa [State.longSince] using hlong
  unfold electionWin
  rw [since]
  dsimp only
  rw [if_neg (by rw [long]; simp [hmc, hbest, hman, hdie, hnew])]
  rfl

theorem electionWin_shows {s : State} {u : Time} (hmc : s.bootu.mcRunning = true) (hbest : s.bestKey = s.ownKey)
    (hsince : s.fab.ownSince = some (s.ownKey, u)) (hlong : u.toNat + msTime 2 ≤ s.time.toNat)
    (hman : s.flag Reg.FAB_STAT Fld.FAB_STAT_MANAGER = false) (hdie : s.fab.mgrDie = 0) (hnew : s.newcomer = false) :
    (electionWin s).flag Reg.FAB_STAT Fld.FAB_STAT_MANAGER = true ∧ (electionWin s).fab.mgrDie = s.fac.dieId.toNat ∧
      (electionWin s).fld Reg.FAB_STAT Fld.FAB_STAT_STATE = 0 := by
  obtain ⟨hflag, hstate, hfab⟩ := s.manages.managerShown_shows
  rw [electionWin_due hmc hbest hsince hlong hman hdie hnew]
  exact ⟨(State.flag_congr (State.fabStat_explore _) _).trans hflag,
    (State.FabStands.explore (.refl _)).mgrDie.trans (congrArg FabUnit.mgrDie hfab),
    (State.fld_congr (State.fabStat_explore _) _).trans hstate⟩

/-- The manager has forgotten what it was elected for. -/
noncomputable def State.unelected (s : State) : State := { s with fab := { s.fab.unformed with best := none, bestHops := 0, ownSince := none } }

/-- No manager is shown, in discovery. -/
noncomputable def State.managerGone (s : State) : State := (s.clear Reg.FAB_STAT Fld.FAB_STAT_MANAGER).setFld Reg.FAB_STAT Fld.FAB_STAT_STATE 0

theorem reelect_manager {s : State} (h : s.isManager = true) : reelect s = s.unelected.managerGone.advertise := by
  unfold reelect
  rw [if_neg (by simp [h])]
  rfl

theorem reelect_shows {s : State} (h : s.isManager = true) :
    (reelect s).isManager = false ∧ (reelect s).fab.topo = [] ∧ (reelect s).fab.mgrDie = 0 ∧ (reelect s).fab.best = none := by
  obtain ⟨-, hreg⟩ := s.unelected.managerGone.advertise_keeps
  obtain ⟨hbest, -, htopo, hdie, -⟩ := s.unelected.managerGone.noteOwn_keeps
  have gone : s.unelected.managerGone.fab = s.unelected.fab := by
    rw [State.managerGone, State.setFld, State.fab_setReg, State.clear, State.setFld, State.fab_setReg]
  rw [reelect_manager h, State.fab_advertise, hbest, htopo, hdie, gone]
  refine ⟨?_, rfl, rfl, rfl⟩
  rw [State.isManager, State.flag_congr (hreg _), State.managerGone,
    State.flag_setFld_apart _ ⟨by decide, by decide⟩ (by decide) (by decide), State.flag_clear _ ⟨by decide, by decide⟩]

/-! ### The commands' answers -/

theorem elect_answers (s : State) (p : Nat) (key : Key) (hops : Nat) : exec (.elect p key hops) s = .next (elect s p key hops) :=
  State.effect_of_outside (P := Parts.all) (elect_outside s p key hops ⟨rfl, rfl, rfl⟩)

theorem reelect_answers {s : State} (hb : s.bootFailed = false) : exec .reelect s = .next (reelect s) :=
  State.answer_open (P := Parts.all) hb (reelect_outside s ⟨rfl, trivial, rfl, rfl⟩)

/-- Settles O46: each control flit by what it shows and keeps, a change of the clock source by what it leaves. -/
theorem electionAndClockRepair : Obligations.ElectionAndClockRepair := by
  unfold Obligations.ElectionAndClockRepair
  refine ⟨fun s p adv key nport naddr hp hfp htalks => ⟨_, State.effect_of_outside (P := Parts.all)
      (hello_outside s p adv key nport naddr (by simp [Parts.all])), hello_shows hp hfp htalks adv key nport naddr⟩,
    fun s p key hops hp hfp htalks hbeats hplace => ⟨_, elect_answers s p key hops, elect_better_shows hp hfp htalks hbeats hplace hops⟩,
    fun s u hmc hbest hsince hlong hman hdie hnew => ⟨_, State.effect_of_outside (P := Parts.all)
      (electionWin_outside s (by simp [Parts.all])), electionWin_shows hmc hbest hsince hlong hman hdie hnew⟩,
    fun s hb h => ⟨_, reelect_answers hb, reelect_shows h⟩,
    fun s p key hops hp hfp htalks hbeats => ⟨_, elect_answers s p key hops, ?_⟩,
    fun s p die hp hfp htalks => ⟨_, State.effect_of_outside (P := Parts.all) (lost_outside s p die (by simp [Parts.all])),
      lost_shows hp hfp htalks die⟩,
    fun s p depth die hp hfp htalks => ⟨_, State.effect_of_outside (P := Parts.all) (offer_outside s p depth die (by simp [Parts.all])),
      (offer_shows hp hfp htalks depth die).1, (offer_shows hp hfp htalks depth die).2,
      fun horphan hoffer hswitch => offer_taken hp hfp htalks horphan hoffer hswitch depth die⟩,
    fun s horphan hrepair => ⟨_, State.effect_of_outside (P := Parts.all) (clkRepair_outside s (by simp [Parts.all, Parts.emits])),
      clkRepair_shows horphan hrepair⟩,
    fun s u hhost hsucc horphan hoffer hswitch hat hlong => ⟨_, State.effect_of_outside (P := Parts.all)
      (baton_outside s (by simp [Parts.all])), baton_shows hhost hsucc horphan hoffer hswitch hat hlong⟩⟩
  obtain ⟨-, -, -, hfab, hnbr⟩ := s.nbrKept_keeps p key
  rw [elect_worse hp hfp htalks hbeats]
  exact ⟨congrArg FabUnit.best hfab, hnbr⟩

end Sys2Proof.Machine
end

section
set_option Elab.async false
/-!
PROOF. The states of a link and its flits (O45).
-/
namespace Sys2Proof.Machine

/-! ### The counters of a port -/

/-- The counters of failed checks, replays and failures of a port. -/
def linkCounter (a : Nat) : Prop := ∃ p, a = Reg.FP_CRC_CNT p ∨ a = Reg.FP_REPLAY_CNT p ∨ a = Reg.FP_DOWN_CNT p

theorem linkCounter_crc (p : Nat) : linkCounter (Reg.FP_CRC_CNT p) := ⟨p, .inl rfl⟩

theorem linkCounter_replay (p : Nat) : linkCounter (Reg.FP_REPLAY_CNT p) := ⟨p, .inr (.inl rfl)⟩

theorem linkCounter_down (p : Nat) : linkCounter (Reg.FP_DOWN_CNT p) := ⟨p, .inr (.inr rfl)⟩

theorem linkCounter_apart {a : Nat} (h : linkCounter a) :
    a ≠ Reg.DEV_EV_LOST ∧ a ≠ Reg.CLK_READY ∧ (∀ n, a ≠ Reg.FP_STAT n) ∧ untraveled a := by
  obtain ⟨p, h⟩ := h
  rcases h with rfl | rfl | rfl <;>
    exact ⟨series_above (by decide) _ p, series_above (by decide) _ p, series_apart (by decide) p, series_ne (by decide) p, series_apart (by decide) p⟩

theorem fpStat_ne_lost (p : Nat) : Reg.FP_STAT p ≠ Reg.DEV_EV_LOST := fpStat_ne (by decide) p

theorem fpStat_ne_counter {a : Nat} (h : linkCounter a) (p : Nat) : Reg.FP_STAT p ≠ a := ((linkCounter_apart h).2.2.1 p).symm

/-! ### Link states (R346, R350) -/

theorem State.lstate_setLink (s : State) (p : Nat) {st : Nat} (h : st < 8) : (s.setLink p st).lstate p = st := by
  rw [State.lstate, State.setLink, State.fld_setFld_self _ _ ⟨by decide, by decide⟩]
  exact Nat.mod_eq_of_lt h

theorem State.reg_greet (s : State) (p a : Nat) : (s.greet p).reg a = s.reg a :=
  (State.sameBut_of_outside (p := { fab := true, out := true, port := true }) (s.greet_outside p ⟨rfl, rfl, rfl⟩)).reg a not_false

theorem State.reg_reportLoss (s : State) (p cause a : Nat) : (s.reportLoss p cause).reg a = s.reg a :=
  (State.sameBut_of_outside (p := { out := true, streams := true }) (s.reportLoss_outside p cause ⟨rfl, rfl⟩)).reg a not_false

theorem linkSignal_trains {s : State} {p : Nat} (hp : p < 4) (hfp : hasFp s.fac.variant p = true) (hreset : s.inReset = false)
    (hboot : s.bootFailed = false) (hen : s.flag (Reg.FP_CFG p) Fld.FP_CFG_EN = true) (hdown : s.lstate p = lsDown)
    (hgate : bitAt (s.gateEnables s.pstate).toNat (10 + p) = true) : (linkSignal s p).lstate p = lsTraining := by
  unfold linkSignal
  dsimp only
  rw [if_pos (by rw [hgate]; simp [hp, hfp, hreset, hboot, hen, hdown]), State.lstate_setLink _ _ (by decide)]

theorem linkTrained_greets {s : State} {p : Nat} (hp : p < 4) (hfp : hasFp s.fac.variant p = true) (hlink : s.lstate p = lsTraining) :
    (linkTrained s p).lstate p = lsHello := by
  rw [linkTrained, if_pos (by simp [hp, hfp, hlink]), State.lstate, State.fld_congr (State.reg_greet _ _ _), ← State.lstate,
    State.lstate_setLink _ _ (by decide)]

theorem linkUp_enters {s : State} {p : Nat} {u : Time} (hp : p < 4) (hfp : hasFp s.fac.variant p = true) (hlink : s.lstate p = lsHello)
    (hclean : (s.portU p).cleanFrom = some u) (hlong : u.toNat + msTime 1 ≤ s.time.toNat) (hforeign : s.foreign p = false) :
    (linkUp s p).lstate p = lsUp := by
  have long : s.longSince (some u) (msTime 1) = true := by simpa [State.longSince] using hlong
  rw [linkUp, if_pos (by rw [State.helloDone, hclean, long]; simp [hp, hfp, hlink, hforeign]), State.lstate_enterUp]

/-- A failure is shown and counted. -/
noncomputable def State.failShown (s : State) (p cause : Nat) : State :=
  ((((s.reportLoss p cause).clearLink p).setLink p lsFailed).raise (Reg.FP_STAT p) Fld.FP_STAT_DOWN_S).count (Reg.FP_DOWN_CNT p) word32

/-- When a failure has come. -/
noncomputable def State.failNoted (s : State) (p : Nat) : State := s.setPort p { s.portU p with failedAt := some s.time }

theorem State.failLink_eq (s : State) (p cause : Nat) :
    s.failLink p cause = (((s.failShown p cause).failNoted p).emit 0x0411 p [p, cause,
      (((s.failShown p cause).failNoted p).reg (Reg.FP_DOWN_CNT p)).toNat]).topologyChange := rfl

theorem State.reg_failNoted (s : State) (p a : Nat) : (s.failNoted p).reg a = s.reg a := by
  unfold State.failNoted State.setPort State.reg
  rfl

theorem State.reg_failLink (s : State) (p cause : Nat) {a : Nat} (h : a ≠ Reg.DEV_EV_LOST) :
    (s.failLink p cause).reg a = (s.failShown p cause).reg a := by
  rw [State.failLink_eq, State.reg_topologyChange, State.emit_reg _ _ _ _ h, State.reg_failNoted]

theorem State.failLink_shows (s : State) (p cause : Nat) :
    (s.failLink p cause).lstate p = lsFailed ∧ (s.failLink p cause).flag (Reg.FP_STAT p) Fld.FP_STAT_DOWN_S = true ∧
      (s.failLink p cause).fld (Reg.FP_DOWN_CNT p) word32 = satInc 32 (s.fld (Reg.FP_DOWN_CNT p) word32) := by
  have apart := fpStat_ne_counter (linkCounter_down p) p
  obtain ⟨lost, ready, stat, -⟩ := linkCounter_apart (linkCounter_down p)
  refine ⟨?_, ?_, ?_⟩
  · rw [State.lstate, State.fld_congr (State.reg_failLink _ _ _ (fpStat_ne_lost p)), State.failShown,
      State.fld_congr (State.reg_count_other _ apart _), State.raise,
      State.fld_setFld_apart _ _ ⟨by decide, by decide⟩ (by decide) (by decide), ← State.lstate, State.lstate_setLink _ _ (by decide)]
  · rw [State.flag_congr (State.reg_failLink _ _ _ (fpStat_ne_lost p)), State.failShown, State.flag_congr (State.reg_count_other _ apart _),
      State.flag_raise _ _ ⟨by decide, by decide⟩]
  · have kept : ((((s.reportLoss p cause).clearLink p).setLink p lsFailed).raise (Reg.FP_STAT p) Fld.FP_STAT_DOWN_S).reg (Reg.FP_DOWN_CNT p) =
        s.reg (Reg.FP_DOWN_CNT p) := by
      rw [State.reg_raise_other _ (stat p), State.setLink, State.reg_setFld_other _ (stat p), State.reg_clearLink _ (stat p) ready,
        State.reg_reportLoss]
    rw [State.fld_congr (State.reg_failLink _ _ _ lost), State.failShown, State.fld_count_self _ _ ⟨by decide, by decide⟩,
      State.fld_congr kept]
    rfl

theorem linkDown_fails {s : State} {p cause : Nat} (hp : p < 4) (hfp : hasFp s.fac.variant p = true)
    (hlink : s.talks p = true ∨ s.lstate p = lsTraining) : linkDown s p cause = s.failLink p cause := by
  rw [linkDown, if_pos]
  rcases hlink with h | h <;> simp [hp, hfp, h]

theorem linkRetrain_trains {s : State} {p : Nat} {u : Time} (hp : p < 4) (hfp : hasFp s.fac.variant p = true) (hlink : s.lstate p = lsFailed)
    (hat : (s.portU p).failedAt = some u) (hlong : u.toNat + msTime 1 ≤ s.time.toNat) : (linkRetrain s p).lstate p = lsTraining := by
  have long : s.longSince (some u) (msTime 1) = true := by simpa [State.longSince] using hlong
  rw [linkRetrain, if_pos (by rw [hat, long]; simp [hp, hfp, hlink]), State.lstate_setLink _ _ (by decide)]

/-! ### Flits that arrive (R347, R348) -/

theorem State.PortsStand.rxNext {s t : State} (h : s.PortsStand t) (q : Nat) : (t.portU q).rxNext = (s.portU q).rxNext := by
  have same : (t.portU q).steady.rxNext = (s.portU q).steady.rxNext := congrArg Port.rxNext (h.steady q)
  exact same

theorem State.PortsStand.part {s t : State} (h : s.PortsStand t) (q : Nat) : (t.portU q).part = (s.portU q).part := by
  have same : (t.portU q).steady.part = (s.portU q).steady.part := congrArg Port.part (h.steady q)
  exact same

theorem State.PortsStand.switch {s t : State} (h : s.PortsStand t) (q : Nat) : (t.portU q).switch = (s.portU q).switch := by
  have same : (t.portU q).steady.switch = (s.portU q).steady.switch := congrArg Port.switch (h.steady q)
  exact same

/-- A flit has been counted on port `p`. -/
theorem State.noteFlits_stands (s : State) (p tx rx : Nat) : s.PortsStand (s.noteFlits p tx rx) := (State.PortsStand.refl s).noteFlits p tx rx

theorem State.reg_noteFlits (s : State) (p tx rx : Nat) {a : Nat} (h : untraveled a) : (s.noteFlits p tx rx).reg a = s.reg a :=
  State.reg_of_sparing (kept := untraveled) (s.noteFlits_outside p tx rx ⟨rfl, fun n hn => hn.2 n rfl⟩) h

theorem State.crc_crcFailure (s : State) (p : Nat) :
    (s.crcFailure p).fld (Reg.FP_CRC_CNT p) word32 = satInc 32 (s.fld (Reg.FP_CRC_CNT p) word32) := by
  obtain ⟨lost, -, stat, -⟩ := linkCounter_apart (linkCounter_crc p)
  unfold State.crcFailure
  extract_lets x at_ t
  have counted : t.fld (Reg.FP_CRC_CNT p) word32 = satInc 32 (s.fld (Reg.FP_CRC_CNT p) word32) := State.fld_count_self _ _ ⟨by decide, by decide⟩
  split
  · exact counted
  · have told : ((t.raise (Reg.FP_STAT p) Fld.FP_STAT_DEGRADED_S).emitLimited 0x0412 p p (secTime 10) false 0 (fun _ => [(p : Int), at_.length])).reg
        (Reg.FP_CRC_CNT p) = (t.raise (Reg.FP_STAT p) Fld.FP_STAT_DEGRADED_S).reg (Reg.FP_CRC_CNT p) :=
      State.reg_of_sparing (kept := linkCounter) (State.emitLimited_outside _ _ _ _ _ _ _ _
        ⟨⟨rfl, rfl, rfl, fun hn => (linkCounter_apart hn).1 rfl⟩, rfl⟩) (linkCounter_crc p)
    rw [State.fld_congr told, State.fld_congr (State.reg_raise_other _ (stat p) _), counted]

theorem State.reg_nakLink (s : State) (p a : Nat) : (s.nakLink p).reg a = s.reg a :=
  (State.sameBut_of_outside (p := { out := true, port := true }) (s.nakLink_outside p ⟨rfl, rfl⟩)).reg a not_false

theorem dataFlitRx_fails {s : State} {p : Nat} {flit : BitVec 256} (hp : p < 4) (hup : s.lstate p = lsUp)
    (h : flitNumber (s.portU p).rxNext flit.toNat = none) :
    dataFlitRx s p flit = ((s.noteFlits p 0 1).crcFailure p).nakLink p := by
  unfold dataFlitRx
  rw [if_neg (by simp [hp, hup])]
  dsimp only
  rw [(s.noteFlits_stands p 0 1).rxNext, h]

theorem dataFlitRx_crc {s : State} {p : Nat} {flit : BitVec 256} (hp : p < 4) (hup : s.lstate p = lsUp)
    (h : flitNumber (s.portU p).rxNext flit.toNat = none) :
    (dataFlitRx s p flit).fld (Reg.FP_CRC_CNT p) word32 = satInc 32 (s.fld (Reg.FP_CRC_CNT p) word32) := by
  rw [dataFlitRx_fails hp hup h, State.fld_congr (State.reg_nakLink _ _ _), State.crc_crcFailure,
    State.fld_congr (State.reg_noteFlits _ _ _ _ (linkCounter_apart (linkCounter_crc p)).2.2.2)]

theorem State.rxNext_takeFlit {s : State} {p n flit : Nat} {pk : Packet} (h : (s.portU p).part = some (pk, n)) (hn : 2 ≤ n) (po : Bool) :
    ((s.takeFlit p flit po).portU p).rxNext = ((s.portU p).rxNext + 1) % 256 := by
  have more : ¬n ≤ 1 := Nat.not_le.2 hn
  simp only [State.takeFlit, h, if_neg more, State.portU_setPort_self]

theorem dataFlitRx_next {s : State} {p n : Nat} {flit : BitVec 256} {po : Bool} {pk : Packet} (hp : p < 4) (hup : s.lstate p = lsUp)
    (h : flitNumber (s.portU p).rxNext flit.toNat = some ((s.portU p).rxNext, po)) (hpart : (s.portU p).part = some (pk, n)) (hn : 2 ≤ n) :
    ((dataFlitRx s p flit).portU p).rxNext = ((s.portU p).rxNext + 1) % 256 := by
  have noted := s.noteFlits_stands p 0 1
  have taken : dataFlitRx s p flit = (((s.noteFlits p 0 1).takeFlit p flit.toNat po).sendIdle p).servePort p portFuel := by
    unfold dataFlitRx
    rw [if_neg (by simp [hp, hup])]
    dsimp only
    rw [noted.rxNext, h]
    exact if_pos rfl
  rw [taken, (State.PortsStand.servePort (State.PortsStand.sendIdle (.refl _) p) p portFuel).rxNext,
    State.rxNext_takeFlit ((noted.part p).trans hpart) hn, noted.rxNext]

/-! ### Replays (R348) -/

theorem State.retry_noteFlits (s : State) (p tx rx : Nat) : ((s.noteFlits p tx rx).portU p).retry = (s.portU p).retry := by
  have rolled : ((s.rollUtil p).portU p).retry = (s.portU p).retry := by
    unfold State.rollUtil
    extract_lets x gone span share
    split
    · rfl
    · rw [State.portU_congr (State.port_setReg _ _ _), State.portU_setPort_self]
  unfold State.noteFlits
  dsimp only
  rw [State.portU_setPort_self, rolled]

/-- A retry buffer whose flits go out again. -/
noncomputable def Port.again (x : Port) (u : Time) : Port := { x with retry := x.retry.map (fun e => { e with replays := e.replays + 1, sentAt := u }) }

/-- What a replay leaves before its flits go out. -/
noncomputable def State.replayShown (s : State) (p : Nat) : State :=
  ((s.setPort p ((s.portU p).again s.time)).noteFlits p (s.portU p).retry.length 0).count (Reg.FP_REPLAY_CNT p) word32

/-- Every flit kept goes out. -/
noncomputable def State.flitsOut (s : State) (p : Nat) (l : List TxFlit) : State :=
  l.foldl (fun (s : State) e => s.put (.flit p "DATA" [(mkFlit e.seq e.bits e.poison : Int)])) s

theorem State.flitsOut_keeps (s : State) (p : Nat) (l : List TxFlit) :
    (s.flitsOut p l).port = s.port ∧ ∀ a, (s.flitsOut p l).reg a = s.reg a := by
  have same : s.SameBut { out := true } (s.flitsOut p l) :=
    State.sameBut_of_outside (State.foldl_outside (fun u e => u.put_outside _ rfl) _ _)
  exact ⟨same.port rfl, fun a => same.reg a not_false⟩

theorem replayTimeout_due {s : State} {p : Nat} {e : TxFlit} (hp : p < 4) (hup : s.lstate p = lsUp)
    (hhead : (s.portU p).retry.head? = some e) (hlong : e.sentAt.toNat + s.replayTime p ≤ s.time.toNat) :
    replayTimeout s p = s.replay p := by
  have long : s.longSince (some e.sentAt) (s.replayTime p) = true := by simpa [State.longSince] using hlong
  rw [replayTimeout, hhead, Option.map_some, long, if_pos (by simp [hp, hup])]

section
variable {s : State} {p : Nat} {e : TxFlit} (hhead : (s.portU p).retry.head? = some e)
include hhead

theorem State.replay_again (hfew : ∀ q ∈ (s.portU p).retry, q.replays < 8) :
    s.replay p = (s.replayShown p).flitsOut p (s.portU p).retry := by
  have some_ : (s.portU p).retry.isEmpty = false := by
    cases h : (s.portU p).retry with
    | nil => rw [h] at hhead; cases hhead
    | cons _ _ => rfl
  have few : (s.portU p).retry.any (fun e => decide (8 ≤ e.replays)) = false :=
    List.any_eq_false.2 fun q hq => by simpa using hfew q hq
  unfold State.replay
  dsimp only
  rw [some_, few]
  rfl

theorem State.replay_fails (hmany : ∃ q ∈ (s.portU p).retry, 8 ≤ q.replays) : s.replay p = s.failLink p 2 := by
  have some_ : (s.portU p).retry.isEmpty = false := by
    cases h : (s.portU p).retry with
    | nil => rw [h] at hhead; cases hhead
    | cons _ _ => rfl
  have many : (s.portU p).retry.any (fun e => decide (8 ≤ e.replays)) = true := by
    obtain ⟨q, hq, h8⟩ := hmany
    exact List.any_eq_true.2 ⟨q, hq, by simpa using h8⟩
  unfold State.replay
  dsimp only
  rw [some_, many]
  rfl

end

theorem State.replayShown_shows (s : State) (p : Nat) :
    ((s.replayShown p).portU p).retry = (s.portU p).retry.map (fun q => { q with replays := q.replays + 1, sentAt := s.time }) ∧
      (s.replayShown p).fld (Reg.FP_REPLAY_CNT p) word32 = satInc 32 (s.fld (Reg.FP_REPLAY_CNT p) word32) := by
  have kept : ((s.setPort p ((s.portU p).again s.time)).noteFlits p (s.portU p).retry.length 0).reg (Reg.FP_REPLAY_CNT p) =
      s.reg (Reg.FP_REPLAY_CNT p) := by
    rw [State.reg_noteFlits _ _ _ _ (linkCounter_apart (linkCounter_replay p)).2.2.2]
    unfold State.setPort State.reg
    rfl
  constructor
  · rw [State.replayShown, State.count, State.setFld, State.portU_congr (State.port_setReg _ _ _), State.retry_noteFlits,
      State.portU_setPort_self, Port.again]
  · rw [State.replayShown, State.fld_count_self _ _ ⟨by decide, by decide⟩, State.fld_congr kept]
    rfl

/-! ### Rates (R345) -/

theorem State.nbrRate_settleRate (s : State) (p : Nat) : ((s.settleRate p).portU p).nbrRate = (s.portU p).nbrRate := by
  unfold State.settleRate
  extract_lets x now r
  split
  · rw [State.portU_setPort_self]
  · rw [State.portU_setPort_self]

theorem rate_kept {s : State} {p r : Nat} (hp : p < 4) (hfp : hasFp s.fac.variant p = true) (htalks : s.talks p = true) :
    ((rate s p r).portU p).nbrRate = some (if r = 0 then 0 else 1) := by
  rw [rate, if_neg (by simp [hp, hfp, htalks]), State.nbrRate_settleRate, State.portU_setPort_self]

/-- The rate is switched on port `p`. -/
noncomputable def State.rateSwitched (s : State) (p r : Nat) : State :=
  (s.setPort p { s.portU p with switch := none }).setFld (Reg.FP_STAT p) Fld.FP_STAT_RATE_NOW r

/-- A device whose clock comes over the port holds its PLLs. -/
noncomputable def State.pllsHeld (s : State) (p : Nat) : State :=
  if s.clkSel = p + 1 && s.clk.switching.isNone then
    { s with clk := { s.clk with switching := some (p + 1), oldSrc := p + 1, swDue := true } }.setFld Reg.CLK_SRC Fld.CLK_SRC_ST 2
  else s

theorem rateSwitch_due {s : State} {p r : Nat} {u : Time} (hfp : hasFp s.fac.variant p = true) (h : (s.portU p).switch = some (r, u))
    (hu : u.toNat ≤ s.time.toNat) : rateSwitch s p = ((s.rateSwitched p r).pllsHeld p).servePort p portFuel := by
  unfold rateSwitch
  rw [if_pos hfp, h]
  exact if_neg (Nat.not_lt.2 hu)

theorem State.pllsHeld_keeps (s : State) (p : Nat) : (s.pllsHeld p).port = s.port ∧ (s.pllsHeld p).reg (Reg.FP_STAT p) = s.reg (Reg.FP_STAT p) := by
  have same : s.SameBut { regs := is Reg.CLK_SRC, clk := true } (s.pllsHeld p) := by
    refine State.sameBut_of_outside ?_
    unfold State.pllsHeld
    split
    · rw [State.setFld_outside _ _ _ _ (Eq.refl _)]
      rfl
    · rfl
  exact ⟨same.port rfl, same.reg _ (fpStat_ne (by decide) p)⟩

theorem rateSwitch_shows {s : State} {p r : Nat} {u : Time} (hfp : hasFp s.fac.variant p = true) (h : (s.portU p).switch = some (r, u))
    (hu : u.toNat ≤ s.time.toNat) :
    (rateSwitch s p).fld (Reg.FP_STAT p) Fld.FP_STAT_RATE_NOW = r % 2 ^ fieldWidth Fld.FP_STAT_RATE_NOW ∧
      ((rateSwitch s p).portU p).switch = none := by
  obtain ⟨hport, hstat⟩ := (s.rateSwitched p r).pllsHeld_keeps p
  have served := State.PortsStand.servePort ((State.PortsStand.refl (s.rateSwitched p r)).of_port hport) p portFuel
  rw [rateSwitch_due hfp h hu]
  constructor
  · rw [State.fld_congr (State.reg_servePort_untraveled _ (untraveled_fpStat p) _ _), State.fld_congr hstat, State.rateSwitched,
      State.fld_setFld_self _ _ ⟨by decide, by decide⟩]
  · rw [served.switch, State.rateSwitched, State.setFld, State.portU_congr (State.port_setReg _ _ _), State.portU_setPort_self]

/-! ### The commands' answers -/

theorem dataFlitRx_answers (s : State) (p : Nat) (flit : BitVec 256) : exec (.dataFlitRx p flit) s = .next (dataFlitRx s p flit) :=
  State.effect_of_outside (P := Parts.all) (dataFlitRx_outside s p flit (by simp [Parts.all, Parts.emits]))

theorem replayTimeout_answers (s : State) (p : Nat) : exec (.replayTimeout p) s = .next (replayTimeout s p) :=
  State.effect_of_outside (P := Parts.all) (replayTimeout_outside s p (by simp [Parts.all, Parts.emits]))

theorem linkDown_answers (s : State) (p cause : Nat) : exec (.linkDown p cause) s = .next (linkDown s p cause) :=
  State.effect_of_outside (P := Parts.all) (linkDown_outside s p cause (by simp [Parts.all, Parts.emits]))

/-- Settles O45: a link's state by the step that enters it, a flit by its number, and what traffic leaves of the port. -/
theorem linkStatesAndFlits : Obligations.LinkStatesAndFlits := by
  unfold Obligations.LinkStatesAndFlits
  refine ⟨fun s p hp hfp hreset hboot hen hdown hgate => ⟨_, State.effect_of_outside (P := Parts.all) (linkSignal_outside s p (by
      simp [Parts.all])), linkSignal_trains hp hfp hreset hboot hen hdown hgate⟩,
    fun s p hp hfp hlink => ⟨_, State.effect_of_outside (P := Parts.all) (linkTrained_outside s p (by simp [Parts.all])),
      linkTrained_greets hp hfp hlink⟩,
    fun s p u hp hfp hlink hclean hlong hforeign => ⟨_, State.effect_of_outside (P := Parts.all) (linkUp_outside s p (by
      simp [Parts.all, Parts.emits])), linkUp_enters hp hfp hlink hclean hlong hforeign⟩,
    fun s p cause hp hfp hlink => ⟨_, linkDown_answers s p cause, ?_⟩,
    fun s p u hp hfp hlink hat hlong => ⟨_, State.effect_of_outside (P := Parts.all) (linkRetrain_outside s p (by simp [Parts.all])),
      linkRetrain_trains hp hfp hlink hat hlong⟩,
    fun s p flit hp hup h => ⟨_, dataFlitRx_answers s p flit, dataFlitRx_crc hp hup h⟩,
    fun s p n flit po pk hp hup h hpart hn => ⟨_, dataFlitRx_answers s p flit, dataFlitRx_next hp hup h hpart hn⟩,
    fun s p e hp hup hhead hlong hfew => ⟨_, replayTimeout_answers s p, ?_⟩,
    fun s p e hp hup hhead hlong hmany => ⟨_, replayTimeout_answers s p, ?_⟩,
    fun s p r hp hfp htalks => ⟨_, State.effect_of_outside (P := Parts.all) (rate_outside s p r rfl), rate_kept hp hfp htalks⟩,
    fun s p r u hfp h hu => ⟨_, State.effect_of_outside (P := Parts.all) (rateSwitch_outside s p (by simp [Parts.all])),
      rateSwitch_shows hfp h hu⟩⟩
  · rw [linkDown_fails hp hfp hlink]
    exact s.failLink_shows p cause
  · obtain ⟨hport, hreg⟩ := (s.replayShown p).flitsOut_keeps p (s.portU p).retry
    obtain ⟨hretry, hcount⟩ := s.replayShown_shows p
    rw [replayTimeout_due hp hup hhead hlong, State.replay_again hhead hfew]
    exact ⟨(congrArg Port.retry (State.portU_congr hport p)).trans hretry, (State.fld_congr (hreg _) _).trans hcount⟩
  · rw [replayTimeout_due hp hup hhead hlong, State.replay_fails hhead hmany]
    exact (s.failLink_shows p 2).1

end Sys2Proof.Machine
end

section
set_option Elab.async false
/-!
PROOF. The manager of the fabric (O49).
-/
namespace Sys2Proof.Machine

/-! ### What has been put out stays out -/

section
variable {C : State → Prop} (hput : ∀ t o, C t → C (t.put o)) (hport : ∀ t p x, C t → C (t.setPort p x))
  (hreg : ∀ t a w, C t → C (t.setReg a w))
include hput hport hreg

/-- Traffic writes ports, registers and outputs one after another. -/
theorem State.sendFlit_induct {s : State} (h : C s) (p v bits : Nat) (poison header : Bool) : C (s.sendFlit p v bits poison header) := by
  have rolled : C (s.rollUtil p) := by
    unfold State.rollUtil
    extract_lets x gone span share
    split
    · exact h
    · exact hreg _ _ _ (hport _ _ _ h)
  exact hput _ _ (hport _ _ _ (hport _ _ _ rolled))

omit hput hreg in
theorem State.leaveQueue_induct {s : State} (h : C s) (e : QPkt) : C (s.leaveQueue e) := by
  unfold State.leaveQueue State.giveBack
  split
  · split
    · exact hport _ _ _ h
    · exact h
  · exact h

theorem State.servePort_induct {s : State} (h : C s) (p n : Nat) : C (s.servePort p n) := by
  induction n generalizing s with
  | zero => exact h
  | succ n ih =>
    unfold State.servePort
    extract_lets x turn ready
    split
    · exact h
    · split
      · exact ih (hport _ _ _ h)
      · split
        · exact h
        · exact ih (State.sendFlit_induct hput hport hreg (hport _ _ _ h) _ _ _ _ _)
      · split
        · exact h
        · exact ih (State.sendFlit_induct hput hport hreg (State.leaveQueue_induct hport (hport _ _ _ h) _) _ _ _ _ _)

theorem State.enqueue_induct {s : State} (h : C s) (p inp : Nat) (pk : Packet) : C (s.enqueue p inp pk) := by
  unfold State.enqueue State.enqueueAs
  extract_lets x v
  split
  · exact State.leaveQueue_induct hport (hreg _ _ _ (hport _ _ _ h)) _
  · exact State.servePort_induct hput hport hreg (hport _ _ _ h) _ _

end

theorem State.mem_out_enqueue {s : State} {o : Out} (h : o ∈ s.out) (p inp : Nat) (pk : Packet) : o ∈ (s.enqueue p inp pk).out :=
  State.enqueue_induct (C := fun t => o ∈ t.out) (fun _ _ ht => List.mem_cons_of_mem _ ht) (fun _ _ _ ht => ht) (fun _ _ _ ht => ht) h p inp pk

/-- A packet that the device injects is put out. -/
theorem State.mem_out_inject (s : State) (pk : Packet) : Out.packet pk.dst "INJECT" [(pk.ptype : Int), pk.tspec] ∈ (s.inject pk).out := by
  unfold State.inject
  extract_lets pk' t
  have told : Out.packet pk.dst "INJECT" [(pk.ptype : Int), pk.tspec] ∈ t.out := List.mem_cons_self
  split
  · exact State.mem_out_enqueue told _ _ _
  · split
    · exact List.foldlRecOn (motive := fun (v : State) => Out.packet pk.dst "INJECT" [(pk.ptype : Int), pk.tspec] ∈ v.out) _ _ told
        fun v hv p _ => State.mem_out_enqueue hv _ _ _
    · split
      · exact State.mem_out_enqueue told _ _ _
      · exact told

/-! ### HEARTBEAT and INFO (R358, R364) -/

/-- When the manager's last HEARTBEAT has left. -/
noncomputable def State.beaten (s : State) : State := { s with fab := { s.fab with hbAt := some s.time } }

theorem heartbeatSend_due {s : State} (hmc : s.bootu.mcRunning = true) (hman : s.isManager = true)
    (hstby : s.fld Reg.FAB_ROLES1 Fld.FAB_ROLES1_B ≠ 0) (hat : s.fab.hbAt = none ∨ s.longSince s.fab.hbAt (msTime 1) = true) :
    heartbeatSend s = s.beaten.inject { ptype := ptMgmt, dst := s.fld Reg.FAB_ROLES1 Fld.FAB_ROLES1_B, src := s.ownAddr,
                                        tspec := opHeartbeat * 2 ^ 8 } := by
  rw [State.isManager] at hman
  unfold heartbeatSend
  dsimp only
  rw [hmc, hman]
  refine if_pos ?_
  rcases hat with h | h <;> simp [hstby, h]

theorem State.FabStands.topo {s t : State} (h : s.FabStands t) : t.fab.topo = s.fab.topo := by
  have same : t.fab.standing.topo = s.fab.standing.topo := congrArg FabUnit.topo h.standing
  exact same

theorem State.FabStands.dropRequest {s t : State} (h : s.FabStands t) (tag dst : Nat) : s.FabStands (t.dropRequest tag dst) := by
  unfold State.dropRequest
  refine State.FabStands.pumpRequests (State.FabStands.setFab h ?_)
  rfl

/-- The topology that an answer to INFO leaves. -/
noncomputable def State.topoWith (s : State) (dev : Dev) : List Dev :=
  s.fab.topo.filter (fun d => d.die != dev.die) ++
    [{ dev with depth := ((devOf s.fab.topo dev.die).getD dev).depth, parent := ((devOf s.fab.topo dev.die).getD dev).parent }]

/-- The device is learnt of. -/
noncomputable def State.learnt (s : State) (dev : Dev) : State := { s with fab := { s.fab with topo := s.topoWith dev } }

theorem mgmtRspRx_learns {s : State} {tag : Nat} {dev : Dev} {r : OutReq} (hman : s.isManager = true)
    (h : s.fab.reqs.find? (fun q => q.client == Client.mgmt && q.tag == tag && decide (0 < q.tries)) = some r) :
    mgmtRspRx s tag dev = ((s.learnt dev).dropRequest r.tag r.dst).explore.nextMove := by
  unfold mgmtRspRx
  rw [if_pos hman, h]
  rfl

theorem mgmtRspRx_topo {s : State} {tag : Nat} {dev : Dev} {r : OutReq} (hman : s.isManager = true)
    (h : s.fab.reqs.find? (fun q => q.client == Client.mgmt && q.tag == tag && decide (0 < q.tries)) = some r) :
    (mgmtRspRx s tag dev).fab.topo = s.topoWith dev := by
  rw [mgmtRspRx_learns hman h]
  exact (State.FabStands.nextMove (State.FabStands.explore (State.FabStands.dropRequest (.refl _) _ _))).topo

/-! ### What the manager has computed is taken (R357 to R361) -/

/-- The fabric's unit with what the manager has computed. -/
noncomputable def State.planKept (s : State) (g : List Dev) (q : Plan) : State :=
  { s with fab := { s.fab with
      topo := q.tree.placed ++ (g.filter (fun d => q.tree.placed.all (fun e => e.die != d.die))).map (fun d => { d with addr := 0 }),
      given := q.held.given, rootDie := q.held.root, stbyDie := q.held.stby, asked := q.tree.placed.map Dev.die } }

/-- The manager's address, the size of the fabric and the roles are shown. -/
noncomputable def State.planShown (s : State) (q : Plan) (me : Dev) : State :=
  ((((s.setFld Reg.FAB_ADDR Fld.FAB_ADDR_ADDR me.addr).setFld Reg.FAB_SIZE Fld.FAB_SIZE_DEVICES q.tree.placed.length).setFld Reg.FAB_SIZE
    Fld.FAB_SIZE_DIAMETER q.diameter).takeRoles q.who me.depth (eccOf q.tree.placed me)).raise Reg.FAB_STAT Fld.FAB_STAT_MANAGER

/-- Every device is told its part. -/
noncomputable def State.planTold (s : State) (q : Plan) (isNew : Dev → Bool) (die : Nat) : State :=
  ((q.tree.placed.filter (fun d => d.die != die)).foldl (fun (s : State) d => s.instruct q isNew d)
    ((q.tree.placed.filter isNew).foldl (fun (s : State) d => s.emit 0x0422 0xFF [d.addr, d.die])
      (s.takeLimits q.tree.limited))).sendMirror.writeShadow (q.routing die).tables

/-- The devices that the manager has not known before. -/
noncomputable def State.newDev (s : State) (d : Dev) : Bool :=
  !((s.fab.topo.filter (fun d => d.addr != 0)).map Dev.die).contains d.die && d.die != s.fac.dieId.toNat

theorem State.takePlan_eq (s : State) (g : List Dev) (q : Plan) :
    s.takePlan g q = ((s.planKept g q).planShown q (q.own s.fac.dieId.toNat)).planTold q s.newDev s.fac.dieId.toNat := rfl

theorem State.role_setRoles (s : State) (a b c d : Nat) :
    (s.setRoles a b c d).fld Reg.FAB_ROLES1 Fld.FAB_ROLES1_A = a % 2 ^ fieldWidth Fld.FAB_ROLES1_A := by
  unfold State.setRoles
  extract_lets s1 s2 me s3 can
  have shown : ((s3.setFld Reg.FAB_STAT Fld.FAB_STAT_ROOT (can * me c)).setFld Reg.FAB_STAT Fld.FAB_STAT_SUCCESSOR (can * me d)).showSource.reg
      Reg.FAB_ROLES1 = s2.reg Reg.FAB_ROLES1 := by
    rw [State.reg_of_sparing (kept := fun a => a = Reg.FAB_ROLES1) (State.showSource_outside _ (by
      simp +decide (disch := decide) [Parts.sparing, Parts.all, fpStat_ne])) rfl, State.reg_setFld_other _ (by decide),
      State.reg_setFld_other _ (by decide)]
    exact (State.reg_setFld_other _ (by decide) _ _).trans (State.reg_setFld_other _ (by decide) _ _)
  rw [State.fld_congr shown]
  exact (State.fld_setFld_apart _ _ ⟨by decide, by decide⟩ (by decide) (by decide) _).trans
    (State.fld_setFld_self _ _ ⟨by decide, by decide⟩ _)

theorem State.takeRoles_shows (s : State) (who : List Nat) (depth ecc : Nat) :
    (s.takeRoles who depth ecc).fld Reg.FAB_ROLES1 Fld.FAB_ROLES1_A = who.getD 0 0 % 2 ^ fieldWidth Fld.FAB_ROLES1_A ∧
      (s.takeRoles who depth ecc).fld Reg.FAB_STAT Fld.FAB_STAT_STATE = 1 := by
  constructor
  · rw [State.takeRoles, State.fld_setFld_other _ (by decide), State.fld_setFld_other _ (by decide), State.fld_setFld_other _ (by decide),
      State.role_setRoles]
  · exact State.fld_setFld_self _ _ ⟨by decide, by decide⟩ _

/-- The registers that show the manager's address and the fabric's size. -/
def sizeReg (a : Nat) : Prop := a = Reg.FAB_ADDR ∨ a = Reg.FAB_SIZE

theorem State.planShown_shows (s : State) (q : Plan) (me : Dev) :
    (s.planShown q me).fld Reg.FAB_STAT Fld.FAB_STAT_STATE = 1 ∧
      (s.planShown q me).fld Reg.FAB_ROLES1 Fld.FAB_ROLES1_A = q.who.getD 0 0 % 2 ^ fieldWidth Fld.FAB_ROLES1_A ∧
      (s.planShown q me).fld Reg.FAB_SIZE Fld.FAB_SIZE_DIAMETER = q.diameter % 2 ^ fieldWidth Fld.FAB_SIZE_DIAMETER ∧
      (s.planShown q me).ownAddr = me.addr % 2 ^ fieldWidth Fld.FAB_ADDR_ADDR := by
  have sized : ∀ (t : State) a, sizeReg a → (t.takeRoles q.who me.depth (eccOf q.tree.placed me)).reg a = t.reg a := fun t a ha =>
    State.reg_of_sparing (kept := sizeReg) (t.takeRoles_outside _ _ _ (by
      simp +decide (disch := decide) [Parts.sparing, Parts.all, sizeReg, fpStat_ne])) ha
  refine ⟨?_, ?_, ?_, ?_⟩
  · rw [State.planShown, State.raise, State.fld_setFld_apart _ _ ⟨by decide, by decide⟩ (by decide) (by decide), (State.takeRoles_shows _ _ _ _).2]
  · rw [State.planShown, State.fld_congr (State.reg_raise_other _ (by decide) _), (State.takeRoles_shows _ _ _ _).1]
  · rw [State.planShown, State.fld_congr (State.reg_raise_other _ (by decide) _), State.fld_congr (sized _ _ (.inr rfl)),
      State.fld_setFld_self _ _ ⟨by decide, by decide⟩]
  · rw [State.planShown, State.ownAddr, State.fld_congr (State.reg_raise_other _ (by decide) _), State.fld_congr (sized _ _ (.inl rfl)),
      State.fld_setFld_other _ (by decide), State.fld_setFld_other _ (by decide), State.fld_setFld_self _ _ ⟨by decide, by decide⟩]

/-- The topology, the time, and the registers that a plan shows. -/
structure State.PlanStands (s t : State) : Prop where
  topo : t.fab.topo = s.fab.topo
  time : t.time = s.time
  state : t.fld Reg.FAB_STAT Fld.FAB_STAT_STATE = s.fld Reg.FAB_STAT Fld.FAB_STAT_STATE
  role : t.reg Reg.FAB_ROLES1 = s.reg Reg.FAB_ROLES1
  size : t.reg Reg.FAB_SIZE = s.reg Reg.FAB_SIZE
  addr : t.reg Reg.FAB_ADDR = s.reg Reg.FAB_ADDR

/-- The registers of a plan. -/
def planReg (a : Nat) : Prop := a = Reg.FAB_STAT ∨ a = Reg.FAB_ROLES1 ∨ a = Reg.FAB_SIZE ∨ a = Reg.FAB_ADDR

section
variable {s t u : State}

theorem State.PlanStands.trans (h : s.PlanStands t) (k : t.PlanStands u) : s.PlanStands u :=
  ⟨k.topo.trans h.topo, k.time.trans h.time, k.state.trans h.state, k.role.trans h.role, k.size.trans h.size, k.addr.trans h.addr⟩

theorem State.PlanStands.of_regs (htopo : t.fab.topo = s.fab.topo) (htime : t.time = s.time) (hreg : ∀ a, planReg a → t.reg a = s.reg a) :
    s.PlanStands t :=
  ⟨htopo, htime, State.fld_congr (hreg _ (.inl rfl)) _, hreg _ (.inr (.inl rfl)), hreg _ (.inr (.inr (.inl rfl))),
    hreg _ (.inr (.inr (.inr rfl)))⟩

/-- What leaves the fabric's unit, the time and those registers. -/
theorem State.PlanStands.of_outside (h : t.outside { Parts.sparing planReg with fab := false, time := false } =
    s.outside { Parts.sparing planReg with fab := false, time := false }) : s.PlanStands t :=
  have same := State.sameBut_of_outside h
  .of_regs (congrArg FabUnit.topo (same.fab rfl)) (same.time rfl) fun a ha => same.reg a (not_not.2 ha)

end

theorem State.PlanStands.foldl {α : Type} {f : State → α → State} (hf : ∀ t x, State.PlanStands t (f t x)) (l : List α) (s : State) :
    s.PlanStands (l.foldl f s) :=
  List.foldlRecOn (motive := fun t : State => s.PlanStands t) l _ ⟨rfl, rfl, rfl, rfl, rfl, rfl⟩ fun _ ht x _ => ht.trans (hf _ x)

theorem State.PlanStands.emit (s : State) (type u : Nat) (l : List Int) : s.PlanStands (s.emit type u l) :=
  .of_outside (s.emit_outside type u l (by simp +decide [Parts.sparing, Parts.all, Parts.emits, planReg]))

theorem State.PlanStands.setLink (s : State) (p st : Nat) : s.PlanStands (s.setLink p st) := by
  refine .of_outside (s.setFld_outside _ _ _ ?_)
  simp +decide (disch := decide) [Parts.sparing, Parts.all, planReg, fpStat_ne]

theorem State.PlanStands.raiseLimit (s : State) : s.PlanStands (s.raise Reg.FAB_STAT Fld.FAB_STAT_LIMIT_S) where
  topo := congrArg FabUnit.topo (s.fab_setReg _ _)
  time := s.raise_time _ _
  state := State.fld_setFld_apart _ _ ⟨by decide, by decide⟩ (by decide) (by decide) _
  role := State.reg_raise_other _ (by decide) _
  size := State.reg_raise_other _ (by decide) _
  addr := State.reg_raise_other _ (by decide) _

/-- The links that are excluded are kept. -/
noncomputable def State.limitsKept (s : State) (l : List (Nat × Nat × Nat)) : State := { s with fab := { s.fab with limits := l } }

theorem State.PlanStands.limitsKept (s : State) (l : List (Nat × Nat × Nat)) : s.PlanStands (s.limitsKept l) :=
  .of_regs rfl rfl fun a _ => s.reg_withFab _ a

theorem State.PlanStands.takeLimits (s : State) (l : List (Nat × Nat × Nat)) : s.PlanStands (s.takeLimits l) := by
  have links := State.PlanStands.foldl (f := fun (s : State) p => if !hasFp s.fac.variant p then s
    else if l.any (fun x => x.1 == s.ownAddr && x.2.1 == p) then if s.lstate p == lsUp then s.setLink p lsExcluded else s
    else if s.lstate p == lsExcluded then s.setLink p lsUp else s) (fun t p => by
      split
      · exact .of_regs rfl rfl fun _ _ => rfl
      · split
        · split
          · exact .setLink t p _
          · exact .of_regs rfl rfl fun _ _ => rfl
        · split
          · exact .setLink t p _
          · exact .of_regs rfl rfl fun _ _ => rfl) (List.range 4) s
  exact (links.trans (.limitsKept _ l)).trans (.foldl (fun t _ => (State.PlanStands.raiseLimit t).trans (.emit _ _ _ _)) _ _)

theorem State.PlanStands.instruct (s : State) (q : Plan) (isNew : Dev → Bool) (d : Dev) : s.PlanStands (s.instruct q isNew d) :=
  .of_outside (s.instruct_outside q isNew d (by simp +decide (disch := decide) [Parts.sparing, Parts.all, planReg, fpUtil_ne]))

theorem State.PlanStands.sendMirror (s : State) : s.PlanStands s.sendMirror :=
  .of_outside (s.sendMirror_outside (by simp +decide (disch := decide) [Parts.sparing, Parts.all, planReg, fpUtil_ne]))

theorem State.PlanStands.writeShadow (s : State) (l : List (Nat × Nat)) : s.PlanStands (s.writeShadow l) := by
  unfold State.writeShadow
  split
  · exact .of_regs rfl rfl fun a _ => s.reg_withFab _ a
  · exact .of_regs rfl rfl fun a _ => s.reg_withFab _ a

theorem State.PlanStands.planTold (s : State) (q : Plan) (isNew : Dev → Bool) (die : Nat) : s.PlanStands (s.planTold q isNew die) :=
  ((((State.PlanStands.takeLimits s _).trans (.foldl (fun t _ => .emit t _ _ _) _ _)).trans
    (.foldl (fun t d => .instruct t q isNew d) _ _)).trans (.sendMirror _)).trans (.writeShadow _ _)

theorem State.planShown_sameBut (s : State) (q : Plan) (me : Dev) : s.SameBut Parts.registers (s.planShown q me) :=
  State.sameBut_of_outside (by
    rw [State.planShown, State.raise_outside _ _ _ trivial, State.takeRoles_outside _ _ _ _ ⟨trivial, trivial, trivial, trivial, fun _ => trivial⟩,
      State.setFld_outside _ _ _ _ trivial, State.setFld_outside _ _ _ _ trivial, State.setFld_outside _ _ _ _ trivial])

/-- What the manager has taken of its plan. -/
structure State.PlanTaken (s t : State) (q : Plan) : Prop where
  topo : ∀ d ∈ q.tree.placed, d ∈ t.fab.topo
  time : t.time = s.time
  state : t.fld Reg.FAB_STAT Fld.FAB_STAT_STATE = 1
  role : t.fld Reg.FAB_ROLES1 Fld.FAB_ROLES1_A = q.who.getD 0 0 % 2 ^ fieldWidth Fld.FAB_ROLES1_A
  size : t.fld Reg.FAB_SIZE Fld.FAB_SIZE_DIAMETER = q.diameter % 2 ^ fieldWidth Fld.FAB_SIZE_DIAMETER
  addr : t.ownAddr = (q.own s.fac.dieId.toNat).addr % 2 ^ fieldWidth Fld.FAB_ADDR_ADDR

theorem State.takePlan_taken (s : State) (g : List Dev) (q : Plan) : s.PlanTaken (s.takePlan g q) q := by
  have shown := (s.planKept g q).planShown_sameBut q (q.own s.fac.dieId.toNat)
  obtain ⟨hstate, hrole, hsize, haddr⟩ := (s.planKept g q).planShown_shows q (q.own s.fac.dieId.toNat)
  have told := State.PlanStands.planTold ((s.planKept g q).planShown q (q.own s.fac.dieId.toNat)) q s.newDev s.fac.dieId.toNat
  have kept : (s.planKept g q).time = s.time := rfl
  rw [State.takePlan_eq]
  refine ⟨fun d hd => ?_, (told.time.trans (shown.time rfl)).trans kept, told.state.trans hstate, (State.fld_congr told.role _).trans hrole,
    (State.fld_congr told.size _).trans hsize, (State.fld_congr told.addr _).trans haddr⟩
  rw [told.topo, shown.fab rfl]
  exact List.mem_append_left _ hd

/-! ### DISCOVERY_DONE (R357 to R362) -/

/-- TABLE_COMMIT has gone out. -/
noncomputable def State.commitTold (s : State) : State :=
  (s.put (.packet 0xFFF "TABLE_COMMIT" [((s.time + BitVec.ofNat 64 (usTime 20)).toNat : Int)])).broadcast ptTableCommit 0

/-- The switch of tables is scheduled. -/
noncomputable def State.switchSet (s : State) (u : Time) : State := { s with fab := { s.fab with switchAt := some u } }

theorem State.commitTables_eq (s : State) : s.commitTables = s.commitTold.switchSet (s.time + BitVec.ofNat 64 (usTime 20)) := by
  unfold State.commitTables State.commitTold State.switchSet
  rfl

theorem State.PlanStands.commitTables (s : State) : s.PlanStands s.commitTables := by
  have told : s.PlanStands s.commitTold := by
    refine .of_outside ?_
    rw [State.commitTold, State.broadcast_outside _ _ _ (by simp +decide (disch := decide) [Parts.sparing, Parts.all, planReg, fpUtil_ne]),
      State.put_outside _ _ rfl]
  rw [State.commitTables_eq]
  exact told.trans (.of_regs rfl rfl fun a _ => State.reg_withFab _ _ a)

theorem State.PlanTaken.of_stands {s t u : State} {q : Plan} (h : s.PlanTaken t q) (k : t.PlanStands u) : s.PlanTaken u q :=
  ⟨fun d hd => k.topo.symm ▸ h.topo d hd, k.time.trans h.time, k.state.trans h.state, (State.fld_congr k.role _).trans h.role,
    (State.fld_congr k.size _).trans h.size, (State.fld_congr k.addr _).trans h.addr⟩

theorem discoveryDone_takes {s : State} {q : Plan} (hman : s.isManager = true) (hplan : s.plan s.fab.topo = some q) :
    discoveryDone s q.tree.placed q.tree.limited q.who q.diameter =
      (s.takePlan (s.graph s.fab.topo) q).commitTables.emit 0x0420 0xFF (q.who.map (fun (n : Nat) => (n : Int))) := by
  unfold discoveryDone
  rw [if_pos hman, hplan]
  exact if_neg (by simp)

theorem discoveryDone_shows {s : State} {q : Plan} (hman : s.isManager = true) (hplan : s.plan s.fab.topo = some q) :
    s.PlanTaken (discoveryDone s q.tree.placed q.tree.limited q.who q.diameter) q ∧
      (discoveryDone s q.tree.placed q.tree.limited q.who q.diameter).fab.switchAt = some (s.time + BitVec.ofNat 64 (usTime 20)) := by
  have taken := s.takePlan_taken (s.graph s.fab.topo) q
  rw [discoveryDone_takes hman hplan]
  refine ⟨(taken.of_stands (.commitTables _)).of_stands (.emit _ _ _ _), ?_⟩
  rw [State.fab_emit, State.commitTables_eq, ← taken.time]
  rfl

/-! ### REROUTE (R363, R367) -/

/-- The devices lost are told and their commands end, before the plan is taken. -/
noncomputable def State.lossTold (s : State) (q : Plan) : State := (fabChurn s).loseDevices (lostDevices s.fab.topo q.tree.placed)

/-- A reroute is in progress. -/
noncomputable def State.rerouting (s : State) (links lost : Nat) (moves : List (Nat × Nat)) : State :=
  { s with fab := { s.fab with reroute := some (links, lost, moves), churn := 0, churned := false, reroutedAt := some s.time } }

theorem State.rerouting_shows (s : State) (links lost : Nat) (moves : List (Nat × Nat)) :
    (s.rerouting links lost moves).fab.topo = s.fab.topo ∧ (s.rerouting links lost moves).fab.switchAt = s.fab.switchAt ∧
      (s.rerouting links lost moves).fab.churn = 0 ∧ (s.rerouting links lost moves).fab.reroute = some (links, lost, moves) ∧
      ∀ a, (s.rerouting links lost moves).reg a = s.reg a :=
  ⟨rfl, rfl, rfl, rfl, fun a => s.reg_withFab _ a⟩

theorem State.beginReroute_eq (s : State) (g : List Dev) (q : Plan) (links : Nat) :
    s.beginReroute g q links = (((s.lossTold q).takePlan g q).commitTables.setFld Reg.FAB_STAT Fld.FAB_STAT_STATE 2).rerouting links
      (lostDevices s.fab.topo q.tree.placed).length (q.routing s.fac.dieId.toNat).moves := by
  unfold State.beginReroute State.lossTold State.rerouting
  rfl

theorem State.time_lossTold (s : State) (q : Plan) : (s.lossTold q).time = s.time :=
  (State.sameBut_of_outside (p := { Parts.all with time := false }) (by
    rw [State.lossTold, State.loseDevices_outside _ _ (by simp [Parts.all, Parts.emits]), fabChurn_outside _ (by
      simp [Parts.all, Parts.emits])])).time rfl

theorem State.beginReroute_shows (s : State) (g : List Dev) (q : Plan) (links : Nat) :
    (s.beginReroute g q links).fld Reg.FAB_STAT Fld.FAB_STAT_STATE = 2 ∧
      (s.beginReroute g q links).fab.switchAt = some (s.time + BitVec.ofNat 64 (usTime 20)) ∧ (s.beginReroute g q links).fab.churn = 0 ∧
      (∀ d ∈ q.tree.placed, d ∈ (s.beginReroute g q links).fab.topo) ∧
      (s.beginReroute g q links).fab.reroute = some (links, (lostDevices s.fab.topo q.tree.placed).length,
        (q.routing s.fac.dieId.toNat).moves) := by
  have taken := (s.lossTold q).takePlan_taken g q
  have stands := State.PlanStands.commitTables ((s.lossTold q).takePlan g q)
  rw [State.beginReroute_eq]
  generalize hc : ((s.lossTold q).takePlan g q).commitTables = c
  have due : c.fab.switchAt = some (s.time + BitVec.ofNat 64 (usTime 20)) := by
    rw [← hc, State.commitTables_eq, ← s.time_lossTold q, ← taken.time]
    rfl
  have fab : (c.setFld Reg.FAB_STAT Fld.FAB_STAT_STATE 2).fab = c.fab := State.fab_setReg _ _ _
  rw [hc] at stands
  obtain ⟨htopo, hswitch, hchurn, hmoves, hreg⟩ := (c.setFld Reg.FAB_STAT Fld.FAB_STAT_STATE 2).rerouting_shows links
    (lostDevices s.fab.topo q.tree.placed).length (q.routing s.fac.dieId.toNat).moves
  rw [fab] at htopo hswitch
  refine ⟨(State.fld_congr (hreg _) _).trans (State.fld_setFld_self _ _ ⟨by decide, by decide⟩ _), hswitch.trans due, hchurn, fun d hd => ?_,
    hmoves⟩
  rw [htopo, stands.topo]
  exact taken.topo d hd

theorem State.longSince_congr {s t : State} (h : t.time = s.time) {u : Option Time} {d : Nat} (hlong : s.longSince u d = true) :
    t.longSince u d = true := by
  unfold State.longSince at hlong ⊢
  rw [h]
  exact hlong

/-- A change that no link of its own has shown counts as it comes. -/
noncomputable def State.changeCounted (s : State) : State := if s.fab.churn = 0 && !s.fab.churned then s.topologyChange else s

theorem reroute_begins {s : State} {topo : List Dev} {q : Plan} (hman : s.isManager = true) (hplan : s.plan topo = some q)
    (hdue : s.fab.churned = false ∧ s.fab.churn ≠ 0 ∨ s.fab.reroutedAt = none ∨ s.longSince s.fab.reroutedAt (msTime 10) = true) :
    reroute s topo (lostDevices s.fab.topo q.tree.placed) (linkChanges s.fab.topo (s.graph topo)) (q.routing s.fac.dieId.toNat) =
      s.changeCounted.beginReroute (s.changeCounted.graph topo) q (linkChanges s.fab.topo (s.graph topo)) := by
  have at_ : s.changeCounted.fab.reroutedAt = s.fab.reroutedAt ∧ s.changeCounted.time = s.time := by
    unfold State.changeCounted
    split <;> exact ⟨rfl, rfl⟩
  unfold reroute
  rw [if_pos hman, hplan]
  refine (if_neg (by simp)).trans ?_
  refine if_neg ?_
  rw [← State.changeCounted, at_.1]
  rcases hdue with ⟨hchurned, hchurn⟩ | hnone | hlong
  · simp [State.changeCounted, hchurned, hchurn]
  · simp [hnone]
  · have long : s.changeCounted.longSince s.fab.reroutedAt (msTime 10) = true := State.longSince_congr at_.2 hlong
    simp [long]

theorem State.changeCounted_keeps (s : State) :
    s.changeCounted.time = s.time ∧ s.changeCounted.fab.topo = s.fab.topo ∧ s.changeCounted.fac = s.fac := by
  unfold State.changeCounted
  split <;> exact ⟨rfl, rfl, rfl⟩

/-! ### The standby takes over (R364) -/

/-- The fabric's unit of a standby that is manager now. -/
noncomputable def State.takenOver (s : State) (next : Option Dev) : State :=
  { s with fab := { s.fab with topo := s.fab.mirror, mirror := [], mgrDie := s.fac.dieId.toNat, hbAt := none,
                               given := (s.fab.mirror.filter (fun d => d.addr != 0)).map (fun d => (d.die, d.addr)),
                               asked := s.fab.mirror.map Dev.die, stbyDie := (next.map Dev.die).getD 0 } }

/-- The new manager and its standby are shown. -/
noncomputable def State.takeoverShown (s : State) (standby : Nat) : State :=
  ((((s.setFld Reg.FAB_ROLES1 Fld.FAB_ROLES1_A s.ownAddr).setFld Reg.FAB_ROLES1 Fld.FAB_ROLES1_B standby).raise Reg.FAB_STAT
    Fld.FAB_STAT_MANAGER).clear Reg.FAB_STAT Fld.FAB_STAT_STANDBY).setFld Reg.FAB_STAT Fld.FAB_STAT_STATE 2

/-- The next device in key order. -/
noncomputable def State.nextStandby (s : State) : Option Dev :=
  (ranked s.fab.mirror).find? (fun d => d.addr != s.fld Reg.FAB_ROLES1 Fld.FAB_ROLES1_A && d.addr != s.ownAddr && d.addr != 0)

theorem State.takeManager_eq (s : State) :
    s.takeManager = (s.takenOver s.nextStandby).takeoverShown ((s.nextStandby.map Dev.addr).getD 0) := rfl

theorem State.takeoverShown_shows (s : State) (standby : Nat) :
    (s.takeoverShown standby).flag Reg.FAB_STAT Fld.FAB_STAT_MANAGER = true ∧
      (s.takeoverShown standby).flag Reg.FAB_STAT Fld.FAB_STAT_STANDBY = false ∧
      (s.takeoverShown standby).fld Reg.FAB_ROLES1 Fld.FAB_ROLES1_A = s.ownAddr ∧ (s.takeoverShown standby).fab = s.fab := by
  have small : s.ownAddr % 2 ^ fieldWidth Fld.FAB_ROLES1_A = s.ownAddr := Nat.mod_eq_of_lt (getField_lt (f := Fld.FAB_ADDR_ADDR) _)
  refine ⟨?_, ?_, ?_, ?_⟩
  · rw [State.takeoverShown, State.flag_setFld_apart _ ⟨by decide, by decide⟩ (by decide) (by decide),
      State.flag_clear_apart _ ⟨by decide, by decide⟩ (by decide) (by decide), State.flag_raise _ _ ⟨by decide, by decide⟩]
  · rw [State.takeoverShown, State.flag_setFld_apart _ ⟨by decide, by decide⟩ (by decide) (by decide),
      State.flag_clear _ ⟨by decide, by decide⟩]
  · rw [State.takeoverShown, State.fld_setFld_other _ (by decide), State.fld_congr (State.reg_clear_other _ (by decide) _),
      State.fld_congr (State.reg_raise_other _ (by decide) _),
      State.fld_setFld_apart _ _ ⟨by decide, by decide⟩ (by decide) (by decide), State.fld_setFld_self _ _ ⟨by decide, by decide⟩, small]
  · rw [State.takeoverShown, State.setFld, State.fab_setReg, State.clear, State.setFld, State.fab_setReg, State.raise, State.setFld,
      State.fab_setReg, State.setFld, State.fab_setReg, State.setFld, State.fab_setReg]

/-- The announcement leaves the fabric's unit and what its registers show. -/
theorem State.announceRoles_keeps (s : State) (gone : Nat) :
    (s.announceRoles gone).fab = s.fab ∧ (s.announceRoles gone).reg Reg.FAB_STAT = s.reg Reg.FAB_STAT ∧
      (s.announceRoles gone).reg Reg.FAB_ROLES1 = s.reg Reg.FAB_ROLES1 := by
  have same := State.sameBut_of_outside (p := { Parts.sparing planReg with fab := false }) (s.announceRoles_outside gone (by
    simp +decide (disch := decide) [Parts.sparing, Parts.all, planReg, fpUtil_ne]))
  exact ⟨same.fab rfl, same.reg _ (not_not.2 (.inl rfl)), same.reg _ (not_not.2 (.inr (.inl rfl)))⟩

theorem standbyTakeover_takes {s : State} (hmc : s.bootu.mcRunning = true) (hstby : s.flag Reg.FAB_STAT Fld.FAB_STAT_STANDBY = true)
    (hwhy : s.longSince s.fab.hbAt (msTime 3) = true ∨ s.upPorts.any (fun p => (s.portU p).nbr.any (fun k => k.die == s.managerDie)) = false) :
    standbyTakeover s = s.takeManager.announceRoles (s.fld Reg.FAB_ROLES1 Fld.FAB_ROLES1_A) := by
  unfold standbyTakeover
  dsimp only
  rw [hmc, hstby]
  refine if_neg ?_
  rcases hwhy with h | h <;> rw [h] <;> simp

theorem standbyTakeover_shows {s : State} (hmc : s.bootu.mcRunning = true) (hstby : s.flag Reg.FAB_STAT Fld.FAB_STAT_STANDBY = true)
    (hwhy : s.longSince s.fab.hbAt (msTime 3) = true ∨ s.upPorts.any (fun p => (s.portU p).nbr.any (fun k => k.die == s.managerDie)) = false) :
    (standbyTakeover s).isManager = true ∧ (standbyTakeover s).flag Reg.FAB_STAT Fld.FAB_STAT_STANDBY = false ∧
      (standbyTakeover s).fab.topo = s.fab.mirror ∧ (standbyTakeover s).fab.mgrDie = s.fac.dieId.toNat ∧
      (standbyTakeover s).fld Reg.FAB_ROLES1 Fld.FAB_ROLES1_A = s.ownAddr := by
  obtain ⟨hman, hnone, hrole, hfab⟩ := (s.takenOver s.nextStandby).takeoverShown_shows ((s.nextStandby.map Dev.addr).getD 0)
  have own : (s.takenOver s.nextStandby).ownAddr = s.ownAddr := State.fld_congr (s.reg_withFab _ _) _
  obtain ⟨kfab, kstat, kroles⟩ := s.takeManager.announceRoles_keeps (s.fld Reg.FAB_ROLES1 Fld.FAB_ROLES1_A)
  rw [standbyTakeover_takes hmc hstby hwhy, kfab]
  rw [← State.takeManager_eq] at hman hnone hrole hfab
  rw [hfab]
  exact ⟨(State.flag_congr kstat _).trans hman, (State.flag_congr kstat _).trans hnone, rfl, rfl,
    ((State.fld_congr kroles _).trans hrole).trans own⟩

/-! ### The commands' answers -/

theorem standbyTakeover_answers (s : State) : exec .standbyTakeover s = .next (standbyTakeover s) :=
  State.effect_of_outside (P := Parts.all) (standbyTakeover_outside s (by simp [Parts.all]))

/-- Settles O49: what goes out by the packet injected, a plan by the state that takes it, a takeover by what it shows. -/
theorem manager : Obligations.Manager := by
  unfold Obligations.Manager
  refine ⟨fun s hmc hman hstby hat => ⟨_, State.effect_of_outside (P := Parts.all) (heartbeatSend_outside s (by simp [Parts.all])), ?_⟩,
    fun s tag dev r hman h => ⟨_, State.effect_of_outside (P := Parts.all) (mgmtRspRx_outside s tag dev (by simp [Parts.all])),
      mgmtRspRx_topo hman h⟩,
    fun s q hman hplan => ⟨_, State.effect_of_outside (P := Parts.all) (discoveryDone_outside s _ _ _ _ (by simp [Parts.all, Parts.emits])), ?_⟩,
    fun s topo lost q hman hplan hlost hdue => ⟨_, State.effect_of_outside (P := Parts.all) (reroute_outside s _ _ _ _ (by
      simp [Parts.all, Parts.emits])), ?_⟩,
    fun s hmc hstby hlong => ⟨_, standbyTakeover_answers s, standbyTakeover_shows hmc hstby (.inl hlong)⟩,
    fun s hmc hstby hlost => ⟨_, standbyTakeover_answers s, standbyTakeover_shows hmc hstby (.inr ?_)⟩⟩
  · rw [heartbeatSend_due hmc hman hstby hat]
    exact ⟨State.mem_out_inject _ _, congrArg FabUnit.hbAt (State.fab_inject _ _)⟩
  · obtain ⟨taken, hswitch⟩ := discoveryDone_shows hman hplan
    exact ⟨taken.topo, taken.state, taken.role, taken.size, taken.addr, hswitch⟩
  · obtain ⟨htime, htopo, hfac⟩ := s.changeCounted_keeps
    have shown := s.changeCounted.beginReroute_shows (s.changeCounted.graph topo) q (linkChanges s.fab.topo (s.graph topo))
    rw [htime, htopo, hfac] at shown
    rw [hlost, reroute_begins hman hplan hdue]
    exact shown
  · refine List.any_eq_false.2 fun p hp => ?_
    rw [Option.any_eq_true]
    rintro ⟨k, hk, hdie⟩
    exact hlost p hp k hk (beq_iff_eq.1 hdie)

end Sys2Proof.Machine
end

section
set_option Elab.async false
/-!
PROOF. No step changes an identity register (O8): which offsets are wired, and what writes none of them.
-/
namespace Sys2Proof.Machine

/-! ### The wired offsets -/

/-- Whether a register at a unit's own offset is wired. -/
def RegDesc.first (d : RegDesc) : Bool := d.off == 0 && d.rw == 0 && d.w1c == 0 && decide (2 ^ 24 ≤ d.reset)

/-- Whether a unit's first register is wired. -/
def RegBlock.firstWired (b : RegBlock) : Bool := b.kind != .res && b.regs.any RegDesc.first

/-- A wired first register is a single one. -/
theorem blocks_firstSingle : ∀ b ∈ blocks, b.kind ≠ .res → ∀ d ∈ b.regs, RegDesc.first d = true → d.cnt = 1 ∧ d.step = 4 := by
  decide +kernel

/-- The wired registers that are not a unit's first. -/
def wiredSingles : List Nat := [Reg.FAB_DIE_LO, Reg.FAB_DIE_HI, Reg.ENG_EPC, Reg.ENG_EPW]

/-- A unit's own offset, in a block whose first register is wired. -/
def UnitOffset (a : Nat) : Prop := ∃ b ∈ blocks, RegBlock.firstWired b = true ∧ ∃ i < b.count, a = b.base + b.stride * i

theorem unitOffset_of_blockAt {a i : Nat} {b : RegBlock} (h : blockAt a = some (b, i)) (hfirst : RegBlock.firstWired b = true)
    (hrel : (a - b.base) % b.stride = 0) : UnitOffset a := by
  obtain ⟨hb, hi, hlo, -⟩ := blockAt_mem h
  have hquot : i = (a - b.base) / b.stride := by
    obtain ⟨c, -, hc⟩ := Option.map_eq_some_iff.1 h
    obtain ⟨rfl, rfl⟩ := Prod.mk.inj hc
    rfl
  refine ⟨b, hb, hfirst, i, hi, ?_⟩
  rw [hquot, Nat.mul_div_cancel' (Nat.dvd_of_mod_eq_zero hrel), Nat.add_sub_cancel' hlo]

/-- Where a wired register can lie: in the first 64 bytes, at one of four offsets, or at a unit's own offset. -/
theorem hardwired_cases {a : Nat} (h : hardwired a = true) : a < 0x40 ∨ a ∈ wiredSingles ∨ UnitOffset a := by
  unfold hardwired at h
  simp only [Bool.or_eq_true, decide_eq_true_eq, beq_iff_eq] at h
  rcases h with ((((h | rfl) | rfl) | rfl) | rfl) | h
  · exact .inl h
  · exact .inr (.inl (by decide))
  · exact .inr (.inl (by decide))
  · exact .inr (.inl (by decide))
  · exact .inr (.inl (by decide))
  · split at h
    · cases h
    next b i hblock =>
      split at h
      · cases h
      next d hd =>
        rw [Bool.and_assoc, Bool.and_assoc, Bool.and_assoc, Bool.and_eq_true, ← Bool.and_assoc, ← Bool.and_assoc] at h
        obtain ⟨hkind, hd1⟩ := h
        have hmem := List.mem_of_find?_eq_some hd
        obtain ⟨hcnt, hstep⟩ := blocks_firstSingle b (blockAt_mem hblock).1 (bne_iff_ne.1 hkind) d hmem hd1
        have found := List.find?_some hd
        have hoff : d.off = 0 := beq_iff_eq.1 (Bool.and_eq_true_iff.1 (Bool.and_eq_true_iff.1 (Bool.and_eq_true_iff.1 hd1).1).1).1
        simp only [hoff, hcnt, hstep, Bool.and_eq_true, decide_eq_true_eq, beq_iff_eq] at found
        exact .inr (.inr (unitOffset_of_blockAt hblock (Bool.and_eq_true_iff.2 ⟨hkind, List.any_eq_true.2 ⟨d, hmem, hd1⟩⟩)
          (Nat.eq_zero_of_dvd_of_lt (Nat.dvd_of_mod_eq_zero found.2) found.1.2)))

/-! ### Series of registers that lie apart -/

/-- Those of the offsets `b`, `b + k`, `b + 2 k` and so on that do not lie beyond the series miss every wired one: by their remainder, or
as they lie above or below it. -/
def seriesApart (b k : Nat) (beyond : Nat → Bool) : Bool :=
  decide (0x40 ≤ b) && wiredSingles.all (fun a => decide (a < b) || beyond a || (a - b) % k != 0) &&
    (blocks.filter RegBlock.firstWired).all fun c => decide (c.base + c.stride * (c.count - 1) < b) || beyond c.base ||
      b % Nat.gcd k c.stride != c.base % Nat.gcd k c.stride

theorem hardwired_apart {b k i : Nat} {beyond : Nat → Bool} (h : seriesApart b k beyond = true)
    (near : ∀ a, beyond a = true → b + k * i < a) : hardwired (b + k * i) = false := by
  unfold seriesApart at h
  simp only [Bool.and_eq_true, List.all_eq_true, Bool.or_eq_true, decide_eq_true_eq, bne_iff_ne] at h
  obtain ⟨⟨hlow, hsingle⟩, hunit⟩ := h
  refine Bool.eq_false_iff.2 fun hw => ?_
  rcases hardwired_cases hw with hlt | hmem | ⟨c, hc, hfirst, j, hj, he⟩
  · exact absurd (Nat.lt_of_le_of_lt (Nat.le_add_right b _) hlt) (Nat.not_lt.2 hlow)
  · rcases hsingle _ hmem with (hlt | hfar) | hmod
    · exact absurd (Nat.le_add_right b _) (Nat.not_le.2 hlt)
    · exact Nat.lt_irrefl _ (near _ hfar)
    · exact hmod (by rw [Nat.add_sub_cancel_left, Nat.mul_mod_right])
  · rcases hunit c (List.mem_filter.2 ⟨hc, hfirst⟩) with (hlt | hfar) | hmod
    · have last : c.stride * j ≤ c.stride * (c.count - 1) := Nat.mul_le_mul_left _ (Nat.le_sub_one_of_lt hj)
      exact absurd (he ▸ Nat.le_add_right b (k * i)) (Nat.not_le.2 (Nat.lt_of_le_of_lt (Nat.add_le_add_left last _) hlt))
    · exact absurd (near _ hfar) (he ▸ Nat.not_lt.2 (Nat.le_add_right _ _))
    · refine hmod ?_
      have same : (b + k * i) % Nat.gcd k c.stride = (c.base + c.stride * j) % Nat.gcd k c.stride := by rw [he]
      rwa [add_mul_mod_of_dvd (Nat.gcd_dvd_left _ _), add_mul_mod_of_dvd (Nat.gcd_dvd_right _ _)] at same

theorem hardwired_series {b k : Nat} (h : seriesApart b k (fun _ => false) = true) (n : Nat) : hardwired (b + k * n) = false :=
  hardwired_apart h fun _ hf => Bool.noConfusion hf

/-- The first `n` of the offsets `b`, `b + k`, `b + 2 k` and so on are not wired. -/
theorem hardwired_seriesTo {b k n : Nat} (h : seriesApart b k (fun a => decide (b + k * (n - 1) < a)) = true) {i : Nat} (hi : i < n) :
    hardwired (b + k * i) = false :=
  hardwired_apart h fun _ ha => Nat.lt_of_le_of_lt (Nat.add_le_add_left (Nat.mul_le_mul_left k (Nat.le_sub_one_of_lt hi)) b) (of_decide_eq_true ha)

/-! The registers of each unit; those for which only the units that a device can have lie apart come last. -/

theorem hardwired_fpUtil (n : Nat) : hardwired (Reg.FP_UTIL n) = false := hardwired_series (b := 0x8124) (k := 0x40) rfl n
theorem hardwired_fpStat (n : Nat) : hardwired (Reg.FP_STAT n) = false := hardwired_series (b := 0x8104) (k := 0x40) rfl n
theorem hardwired_eccRemap (n : Nat) : hardwired (Reg.ECC_REMAP n) = false := hardwired_series (b := 0x44100) (k := 0x4) rfl n
theorem hardwired_clStat (n : Nat) : hardwired (Reg.CL_STAT n) = false := hardwired_series (b := 0x20108) (k := 0x100) rfl n
theorem hardwired_excStat (n : Nat) : hardwired (Reg.EXC_STAT n) = false := hardwired_series (b := 0x15024) (k := 0x40) rfl n
theorem hardwired_pchStat (n : Nat) : hardwired (Reg.PCH_STAT n) = false := hardwired_series (b := 0x1000C) (k := 0x100) rfl n
theorem hardwired_pchFltStat (n : Nat) : hardwired (Reg.PCH_FLT_STAT n) = false := hardwired_series (b := 0x10058) (k := 0x100) rfl n
theorem hardwired_clXyuse (n : Nat) : hardwired (Reg.CL_XYUSE n) = false := hardwired_series (b := 0x20114) (k := 0x100) rfl n
theorem hardwired_clWmax (n : Nat) : hardwired (Reg.CL_WMAX n) = false := hardwired_series (b := 0x2011C) (k := 0x100) rfl n
theorem hardwired_clLoad (n : Nat) : hardwired (Reg.CL_LOAD n) = false := hardwired_series (b := 0x2010C) (k := 0x100) rfl n
theorem hardwired_clCyc (n : Nat) : hardwired (Reg.CL_CYC n) = false := hardwired_series (b := 0x20110) (k := 0x100) rfl n
theorem hardwired_clCuse (n : Nat) : hardwired (Reg.CL_CUSE n) = false := hardwired_series (b := 0x20118) (k := 0x100) rfl n
theorem hardwired_bankStat (n : Nat) : hardwired (Reg.BANK_STAT n) = false := hardwired_series (b := 0x14018) (k := 0x200) rfl n
theorem hardwired_wmStat (n : Nat) : hardwired (Reg.WM_STAT n) = false := hardwired_series (b := 0x1A00C) (k := 0x20) rfl n
theorem hardwired_wchStat (n : Nat) : hardwired (Reg.WCH_STAT n) = false := hardwired_series (b := 0x18008) (k := 0x400) rfl n
theorem hardwired_hcStat (n : Nat) : hardwired (Reg.HC_STAT n) = false := hardwired_series (b := 0x1B01C) (k := 0x40) rfl n
theorem hardwired_pchPlausEff (n : Nat) : hardwired (Reg.PCH_PLAUS_EFF n) = false := hardwired_series (b := 0x1001C) (k := 0x100) rfl n
theorem hardwired_hrStat (n : Nat) : hardwired (Reg.HR_STAT n) = false := hardwired_series (b := 0x30414) (k := 0x20) rfl n
theorem hardwired_eqHead (n : Nat) : hardwired (Reg.EQ_HEAD n) = false := hardwired_series (b := 0x410C) (k := 0x20) rfl n
theorem hardwired_resOvcnt (n : Nat) : hardwired (Reg.RES_OVCNT n) = false := hardwired_series (b := 0x5000C) (k := 0x10) rfl n
theorem hardwired_hrHead (n : Nat) : hardwired (Reg.HR_HEAD n) = false := hardwired_series (b := 0x3040C) (k := 0x20) rfl n
theorem hardwired_pchCfg (n : Nat) : hardwired (Reg.PCH_CFG n) = false := hardwired_series (b := 0x10004) (k := 0x100) rfl n
theorem hardwired_hcHitCnt (n : Nat) : hardwired (Reg.HC_HIT_CNT n) = false := hardwired_series (b := 0x1B020) (k := 0x40) rfl n
theorem hardwired_fpReplayCnt (n : Nat) : hardwired (Reg.FP_REPLAY_CNT n) = false := hardwired_series (b := 0x811C) (k := 0x40) rfl n
theorem hardwired_eccSramCe (n : Nat) : hardwired (Reg.ECC_SRAM_CE n) = false := hardwired_series (b := 0x44060) (k := 0x4) rfl n
theorem hardwired_wmCnt (n : Nat) : hardwired (Reg.WM_CNT n) = false := hardwired_series (b := 0x1A018) (k := 0x20) rfl n
theorem hardwired_wchWakeCnt (n : Nat) : hardwired (Reg.WCH_WAKE_CNT n) = false := hardwired_series (b := 0x18018) (k := 0x400) rfl n
theorem hardwired_wchStStat (n : Nat) : hardwired (Reg.WCH_ST_STAT n) = false := hardwired_series (b := 0x18054) (k := 0x400) rfl n
theorem hardwired_resHi (n : Nat) : hardwired (Reg.RES_HI n) = false := hardwired_series (b := 0x50000) (k := 0x10) rfl n
theorem hardwired_pchPlausTh (n : Nat) : hardwired (Reg.PCH_PLAUS_TH n) = false := hardwired_series (b := 0x10018) (k := 0x100) rfl n
theorem hardwired_pchMainsPer (n : Nat) : hardwired (Reg.PCH_MAINS_PER n) = false := hardwired_series (b := 0x1004C) (k := 0x100) rfl n
theorem hardwired_hrTail (n : Nat) : hardwired (Reg.HR_TAIL n) = false := hardwired_series (b := 0x30410) (k := 0x20) rfl n
theorem hardwired_hrBlocks (n : Nat) : hardwired (Reg.HR_BLOCKS n) = false := hardwired_series (b := 0x30418) (k := 0x20) rfl n
theorem hardwired_hcBase (n : Nat) : hardwired (Reg.HC_BASE n) = false := hardwired_series (b := 0x1B018) (k := 0x40) rfl n
theorem hardwired_excCtrl (n : Nat) : hardwired (Reg.EXC_CTRL n) = false := hardwired_series (b := 0x15004) (k := 0x40) rfl n
theorem hardwired_drcPortStat (n : Nat) : hardwired (Reg.DRC_PORT_STAT n) = false := hardwired_series (b := 0x40104) (k := 0x20) rfl n
theorem hardwired_clCtrl (n : Nat) : hardwired (Reg.CL_CTRL n) = false := hardwired_series (b := 0x20104) (k := 0x100) rfl n
theorem hardwired_bankZero (n : Nat) : hardwired (Reg.BANK_ZERO n) = false := hardwired_series (b := 0x14030) (k := 0x200) rfl n
theorem hardwired_bankTemp (n : Nat) : hardwired (Reg.BANK_TEMP n) = false := hardwired_series (b := 0x14024) (k := 0x200) rfl n
theorem hardwired_wmTh (n : Nat) : hardwired (Reg.WM_TH n) = false := hardwired_series (b := 0x1A008) (k := 0x20) rfl n
theorem hardwired_wmCfg (n : Nat) : hardwired (Reg.WM_CFG n) = false := hardwired_series (b := 0x1A004) (k := 0x20) rfl n
theorem hardwired_wchCfg (n : Nat) : hardwired (Reg.WCH_CFG n) = false := hardwired_series (b := 0x18004) (k := 0x400) rfl n
theorem hardwired_resLo (n : Nat) : hardwired (Reg.RES_LO n) = false := hardwired_series (b := 0x50004) (k := 0x10) rfl n
theorem hardwired_pchStaticLast (n : Nat) : hardwired (Reg.PCH_STATIC_LAST n) = false := hardwired_series (b := 0x1005C) (k := 0x100) rfl n
theorem hardwired_pchSeisCfg (n : Nat) : hardwired (Reg.PCH_SEIS_CFG n) = false := hardwired_series (b := 0x10050) (k := 0x100) rfl n
theorem hardwired_pchOvrCnt (n : Nat) : hardwired (Reg.PCH_OVR_CNT n) = false := hardwired_series (b := 0x1002C) (k := 0x100) rfl n
theorem hardwired_pchFusDiff (n : Nat) : hardwired (Reg.PCH_FUS_DIFF n) = false := hardwired_series (b := 0x10024) (k := 0x100) rfl n
theorem hardwired_pchFusCnt (n : Nat) : hardwired (Reg.PCH_FUS_CNT n) = false := hardwired_series (b := 0x10028) (k := 0x100) rfl n
theorem hardwired_hrCfg (n : Nat) : hardwired (Reg.HR_CFG n) = false := hardwired_series (b := 0x30408) (k := 0x20) rfl n
theorem hardwired_hcLockCnt (n : Nat) : hardwired (Reg.HC_LOCK_CNT n) = false := hardwired_series (b := 0x1B024) (k := 0x40) rfl n
theorem hardwired_fpNbrLo (n : Nat) : hardwired (Reg.FP_NBR_LO n) = false := hardwired_series (b := 0x8108) (k := 0x40) rfl n
theorem hardwired_fpNbrHi (n : Nat) : hardwired (Reg.FP_NBR_HI n) = false := hardwired_series (b := 0x810C) (k := 0x40) rfl n
theorem hardwired_fpCrcCnt (n : Nat) : hardwired (Reg.FP_CRC_CNT n) = false := hardwired_series (b := 0x8118) (k := 0x40) rfl n
theorem hardwired_excMon (n : Nat) : hardwired (Reg.EXC_MON n) = false := hardwired_series (b := 0x15028) (k := 0x40) rfl n
theorem hardwired_excLevel (n : Nat) : hardwired (Reg.EXC_LEVEL n) = false := hardwired_series (b := 0x15008) (k := 0x40) rfl n
theorem hardwired_eqCfg (n : Nat) : hardwired (Reg.EQ_CFG n) = false := hardwired_series (b := 0x4108) (k := 0x20) rfl n
theorem hardwired_drcPortReq (n : Nat) : hardwired (Reg.DRC_PORT_REQ n) = false := hardwired_series (b := 0x40108) (k := 0x20) rfl n
theorem hardwired_drcPortMiss (n : Nat) : hardwired (Reg.DRC_PORT_MISS n) = false := hardwired_series (b := 0x4010C) (k := 0x20) rfl n
theorem hardwired_drcPortMaxlat (n : Nat) : hardwired (Reg.DRC_PORT_MAXLAT n) = false := hardwired_series (b := 0x40110) (k := 0x20) rfl n
theorem hardwired_bankS (n : Nat) : hardwired (Reg.BANK_S n) = false := hardwired_series (b := 0x14028) (k := 0x200) rfl n
theorem hardwired_bankM (n : Nat) : hardwired (Reg.BANK_M n) = false := hardwired_series (b := 0x1402C) (k := 0x200) rfl n
theorem hardwired_bankDropCnt (n : Nat) : hardwired (Reg.BANK_DROP_CNT n) = false := hardwired_series (b := 0x1401C) (k := 0x200) rfl n

theorem hardwired_pchConvStat {n : Nat} (h : n < 64) : hardwired (Reg.PCH_CONV_STAT n) = false := hardwired_seriesTo (b := 0x10020) (k := 0x100) rfl h
theorem hardwired_safAlmStat {n : Nat} (h : n < 4) : hardwired (Reg.SAF_ALM_STAT n) = false := hardwired_seriesTo (b := 0x3110) (k := 0x20) rfl h
theorem hardwired_eqStat {n : Nat} (h : n < 4) : hardwired (Reg.EQ_STAT n) = false := hardwired_seriesTo (b := 0x4114) (k := 0x20) rfl h
theorem hardwired_eqSeq {n : Nat} (h : n < 4) : hardwired (Reg.EQ_SEQ n) = false := hardwired_seriesTo (b := 0x411C) (k := 0x20) rfl h
theorem hardwired_fpDownCnt {n : Nat} (h : n < 4) : hardwired (Reg.FP_DOWN_CNT n) = false := hardwired_seriesTo (b := 0x8120) (k := 0x40) rfl h
theorem hardwired_wmTimeLo {n : Nat} (h : n < 72) : hardwired (Reg.WM_TIME_LO n) = false := hardwired_seriesTo (b := 0x1A010) (k := 0x20) rfl h
theorem hardwired_wmTimeHi {n : Nat} (h : n < 72) : hardwired (Reg.WM_TIME_HI n) = false := hardwired_seriesTo (b := 0x1A014) (k := 0x20) rfl h
theorem hardwired_eqLost {n : Nat} (h : n < 4) : hardwired (Reg.EQ_LOST n) = false := hardwired_seriesTo (b := 0x4118) (k := 0x20) rfl h
theorem hardwired_pchFusCfg {n : Nat} (h : n < 64) : hardwired (Reg.PCH_FUS_CFG n) = false := hardwired_seriesTo (b := 0x10014) (k := 0x100) rfl h
theorem hardwired_fpDelay {n : Nat} (h : n < 4) : hardwired (Reg.FP_DELAY n) = false := hardwired_seriesTo (b := 0x8114) (k := 0x40) rfl h
theorem hardwired_eqTail {n : Nat} (h : n < 4) : hardwired (Reg.EQ_TAIL n) = false := hardwired_seriesTo (b := 0x4110) (k := 0x20) rfl h
theorem hardwired_wchOvrCnt {n : Nat} (h : n < 8) : hardwired (Reg.WCH_OVR_CNT n) = false := hardwired_seriesTo (b := 0x18014) (k := 0x400) rfl h
theorem hardwired_wchDelay {n : Nat} (h : n < 8) : hardwired (Reg.WCH_DELAY n) = false := hardwired_seriesTo (b := 0x18010) (k := 0x400) rfl h
theorem hardwired_pchStaticCfg {n : Nat} (h : n < 64) : hardwired (Reg.PCH_STATIC_CFG n) = false := hardwired_seriesTo (b := 0x10040) (k := 0x100) rfl h
theorem hardwired_pchSeisDelay {n : Nat} (h : n < 64) : hardwired (Reg.PCH_SEIS_DELAY n) = false := hardwired_seriesTo (b := 0x10060) (k := 0x100) rfl h
theorem hardwired_pchFmt {n : Nat} (h : n < 64) : hardwired (Reg.PCH_FMT n) = false := hardwired_seriesTo (b := 0x10010) (k := 0x100) rfl h
theorem hardwired_pacerE {n : Nat} (h : n < 6) : hardwired (Reg.PACER_E n) = false := hardwired_seriesTo (b := 0x1140) (k := 0x4) rfl h
theorem hardwired_fpNbrAddr {n : Nat} (h : n < 4) : hardwired (Reg.FP_NBR_ADDR n) = false := hardwired_seriesTo (b := 0x8110) (k := 0x40) rfl h
theorem hardwired_drcPortTgt {n : Nat} (h : n < 6) : hardwired (Reg.DRC_PORT_TGT n) = false := hardwired_seriesTo (b := 0x40100) (k := 0x20) rfl h
theorem hardwired_bankCycleT {n : Nat} (h : n < 8) : hardwired (Reg.BANK_CYCLE_T n) = false := hardwired_seriesTo (b := 0x14020) (k := 0x200) rfl h

end Sys2Proof.Machine
end

section
set_option Elab.async false
/-!
PROOF. No step changes an identity register (O8): the operations whose registers lie apart only for the units that a device can have.
-/
namespace Sys2Proof.Machine

/-- Every part but the wired registers. -/
abbrev Parts.unwired : Parts where
  regs a := hardwired a = false
  cycles := true
  time := true
  timeRem := true
  sinceBase := true
  baseIdx := true
  baseRunning := true
  fresh := true
  late := true
  recs := true
  classLost := true
  rate := true
  out := true
  host := true
  queues := true
  msi := true
  latch := true
  mode := true
  clk := true
  pacer := true
  smon := true
  trust := true
  alarm := true
  triggers := true
  trig := true
  snp := true
  snpSeen := true
  snapRegion := true
  snapNext := true
  bootu := true
  pins := true
  pch := true
  exc := true
  res := true
  eff := true
  cal := true
  bank := true
  chk := true
  commit := true
  wch := true
  wm := true
  hc := true
  start := true
  eng := true
  nodes := true
  clu := true
  streams := true
  rings := true
  drc := true
  chan := true
  dport := true
  cells := true
  ecc := true
  fab := true
  port := true

@[simp] theorem Parts.unwired_emits : Parts.unwired.emits := ⟨rfl, rfl, rfl, rfl⟩

/-- The wired registers stand. -/
def State.IdStands (s t : State) : Prop := t.outside Parts.unwired = s.outside Parts.unwired

section
variable {s t u : State}

theorem State.IdStands.refl (s : State) : s.IdStands s := rfl

theorem State.IdStands.trans (h : s.IdStands t) (k : t.IdStands u) : s.IdStands u := Eq.trans k h

theorem State.IdStands.ite {c : Prop} [Decidable c] (h : s.IdStands t) (k : s.IdStands u) : s.IdStands (if c then t else u) := by
  split
  · exact h
  · exact k

theorem State.IdStands.iteOf {c : Prop} [Decidable c] (h : c → s.IdStands t) (k : ¬c → s.IdStands u) : s.IdStands (if c then t else u) := by
  split
  next hc => exact h hc
  next hc => exact k hc

theorem State.IdStands.iteSnd {α : Type} {c : Prop} [Decidable c] {p q : α × State} (h : s.IdStands p.2) (k : s.IdStands q.2) :
    s.IdStands (if c then p else q).2 := by
  split
  · exact h
  · exact k

theorem State.IdStands.setReg {a : Nat} (h : s.IdStands t) (ha : hardwired a = false) (w : Word) : s.IdStands (t.setReg a w) :=
  h.trans (State.setReg_outside ha t w)

theorem State.IdStands.setFld {a : Nat} (h : s.IdStands t) (ha : hardwired a = false) (f : Field) (v : Nat) : s.IdStands (t.setFld a f v) :=
  h.setReg ha _

theorem State.IdStands.raise {a : Nat} (h : s.IdStands t) (ha : hardwired a = false) (f : Field) : s.IdStands (t.raise a f) := h.setReg ha _

theorem State.IdStands.clear {a : Nat} (h : s.IdStands t) (ha : hardwired a = false) (f : Field) : s.IdStands (t.clear a f) := h.setReg ha _

theorem State.IdStands.count {a : Nat} (h : s.IdStands t) (ha : hardwired a = false) (f : Field) : s.IdStands (t.count a f) := h.setReg ha _

theorem State.IdStands.setLive {a : Nat} (h : s.IdStands t) (ha : hardwired a = false) (f g : Field) (b : Bool) : s.IdStands (t.setLive a f g b) :=
  .ite ((h.raise ha f).raise ha g) (h.clear ha f)

theorem State.IdStands.emit (h : s.IdStands t) (type u : Nat) (l : List Int) : s.IdStands (t.emit type u l) :=
  h.trans (t.emit_outside type u l Parts.unwired_emits)

theorem State.IdStands.setEq (h : s.IdStands t) (q : Nat) (x : EvQueue) : s.IdStands (t.setEq q x) := h.trans (t.setEq_outside q x rfl)

theorem State.IdStands.setPort (h : s.IdStands t) (p : Nat) (x : Port) : s.IdStands (t.setPort p x) := h.trans (t.setPort_outside p x rfl)

end

theorem State.IdStands.foldl {α : Type} {f : State → α → State} {l : List α} (hf : ∀ t, ∀ x ∈ l, State.IdStands t (f t x)) (s : State) :
    s.IdStands (l.foldl f s) :=
  List.foldlRecOn (motive := fun t : State => s.IdStands t) l _ (.refl s) fun t ht x hx => ht.trans (hf t x hx)

/-! ### Event queues -/

theorem State.routeQueue_lt {s : State} {c q : Nat} (h : s.routeQueue c = some q) : q < 4 := by
  unfold State.routeQueue at h
  extract_lets i at h
  split at h
  · exact Option.some.inj h ▸ Nat.mod_lt _ (by decide)
  · exact List.mem_range.1 (List.mem_of_find?_eq_some h)

theorem State.canWrite_lt {s : State} {c q : Nat} (h : s.canWrite c = some q) : q < 4 := by
  unfold State.canWrite at h
  split at h
  · exact State.routeQueue_lt h
  · cases h

section
variable {q : Nat} (hq : q < 4)
include hq

theorem State.IdStands.putRecord (s : State) (r : Rec) : s.IdStands (s.putRecord q r) := by
  unfold State.putRecord
  extract_lets head phase seq next s1 s2 s3 s4 s5 imm
  have h2 : s.IdStands s2 := State.IdStands.setFld (s.put_outside _ rfl) (hardwired_eqHead q) _ _
  have h3 : s.IdStands s3 := .ite (h2.setFld (hardwired_eqHead q) _ _) h2
  exact ((h3.setReg (hardwired_eqSeq hq) _).setEq _ _).trans (State.notify_outside _ _ _ ⟨rfl, rfl, rfl⟩)

theorem State.IdStands.putWithOrigin (s : State) (r : Rec) : s.IdStands (s.putWithOrigin q r) := by
  unfold State.putWithOrigin
  extract_lets owed s1
  have h1 : s.IdStands s1 := .ite (.putRecord hq s _) (.refl s)
  exact (h1.trans (.putRecord hq _ r)).setEq _ _

theorem State.IdStands.coalesce (s : State) (r : Rec) : s.IdStands (s.coalesce q r) :=
  ((State.IdStands.refl s).setEq _ _).count (hardwired_eqLost hq) _

theorem State.IdStands.queueRecord (s : State) (r : Rec) : s.IdStands (s.queueRecord q r) := by
  refine .ite (.coalesce hq s r) (.ite (.trans ?_ (.coalesce hq _ r)) (.putWithOrigin hq s r))
  exact .setLive (.ite (.refl s) (.setEq (.putRecord hq s _) _ _)) (hardwired_eqStat hq) _ _ _

theorem State.IdStands.checkResume (s : State) : s.IdStands (s.checkResume q) :=
  .ite (.refl s) (((State.IdStands.putRecord hq s _).setEq _ _).clear (hardwired_eqStat hq) _)

end

theorem eqCfgEnable_idStands (s : State) (q : Nat) (v : Word) : s.IdStands (eqCfgEnable s q v) := by
  refine .iteOf (fun _ => .refl s) fun hq => ?_
  replace hq := Nat.lt_of_not_le hq
  refine .ite (s.writeAbsent_outside _ _ _ ⟨rfl, rfl⟩) ?_
  extract_lets was size bad s1 s2
  have h1 : s.IdStands s1 := State.writeJudged_outside s _ _ _ _ _ _ (hardwired_eqCfg q) (hardwired_eqStat hq) ⟨rfl, rfl⟩
  have h2 : s.IdStands s2 := (h1.setReg (hardwired_eqHead q) _).setReg (hardwired_eqTail hq) _
  exact .ite h1 (((h2.setReg (hardwired_eqSeq hq) _).clear (hardwired_eqStat hq) _).setEq _ _)

theorem eqTailWrite_idStands (s : State) (q v : Nat) : s.IdStands (eqTailWrite s q v) :=
  .iteOf (fun _ => .refl s) fun hq =>
    have hq := Nat.lt_of_not_le hq
    .ite (s.writeAbsent_outside _ _ _ ⟨rfl, rfl⟩) (.ite ((State.IdStands.refl s).raise (hardwired_eqStat hq) _)
      ((((State.IdStands.refl s).setFld (hardwired_eqTail hq) _ _).setEq _ _).trans (.checkResume hq _)))

theorem State.IdStands.sendEvent (s : State) (home : Nat) (r : Rec) : s.IdStands (s.sendEvent home r) :=
  s.sendEvent_outside home r ⟨rfl, rfl, rfl, hardwired_fpUtil, rfl, rfl, rfl⟩

theorem eventRecordWrite_idStands (s : State) : s.IdStands (eventRecordWrite s) := by
  unfold eventRecordWrite
  rcases s.recs with _ | ⟨r, rest⟩
  · exact .refl s
  · have h : s.IdStands { s with recs := rest, classLost := if r.remote then s.classLost else [] } := State.outside_recs_classLost rfl rfl _ _ _
    refine .ite ?_ ?_
    · rcases hw : s.canWrite (classOf r.type) with _ | q
      · exact .refl s
      · exact (h.trans (.queueRecord (State.canWrite_lt hw) _ _)).trans (State.toldFault_outside _ _ rfl)
    · rcases s.eventHome with _ | home
      · exact .refl s
      · exact h.trans (.sendEvent _ _ _)

theorem State.IdStands.deliverRecs (s : State) (n : Nat) : s.IdStands (s.deliverRecs n) := by
  induction n generalizing s with
  | zero => exact .refl s
  | succ n ih => exact (eventRecordWrite_idStands s).trans (ih _)

theorem State.IdStands.ackEvent (s : State) (origin tag : Nat) : s.IdStands (s.ackEvent origin tag) :=
  s.ackEvent_outside _ _ ⟨rfl, rfl, rfl, hardwired_fpUtil, rfl⟩

theorem State.IdStands.recordTaken (s : State) (r r' : Rec) (origin tag : Nat) :
    s.IdStands (match (if s.host.pcieEver then s.canWrite (classOf r.type) else none) with
      | some q => (s.queueRecord q r').ackEvent origin tag
      | none => s) := by
  rcases hw : (if s.host.pcieEver then s.canWrite (classOf r.type) else none) with _ | q
  · exact .refl s
  · exact State.IdStands.trans (.queueRecord (State.canWrite_lt (Option.ite_none_right_eq_some.1 hw).2) s _) (.ackEvent _ _ _)

theorem eventPacketRx_idStands (s : State) (origin tag : Nat) (r : Rec) : s.IdStands (eventPacketRx s origin tag r) := by
  unfold eventPacketRx
  rcases s.keptAnswer origin (tag % 256) with _ | a
  · refine .ite (State.IdStands.trans (s.setInflight_outside _ ⟨rfl, rfl⟩) (.ackEvent _ _ _)) ?_
    exact State.IdStands.trans (.ite (s.loseTarget_outside _ ⟨rfl, rfl, rfl, hardwired_fpUtil, rfl, rfl, rfl, rfl⟩) (.refl s))
      (.recordTaken _ r _ origin tag)
  · exact s.inject_outside _ ⟨rfl, rfl, rfl, hardwired_fpUtil⟩

end Sys2Proof.Machine
end

section
set_option Elab.async false
/-!
PROOF. No step changes an identity register (O8): the fabric's ports and the alarm outputs.
-/
namespace Sys2Proof.Machine

/-! ### Ports -/

section
variable {p : Nat} (hp : p < 4)
include hp

theorem State.IdStands.failLink (s : State) (cause : Nat) : s.IdStands (s.failLink p cause) := by
  have lost : s.IdStands (((s.reportLoss p cause).clearLink p).setLink p lsFailed) :=
    State.IdStands.trans (State.IdStands.trans (s.reportLoss_outside _ _ ⟨rfl, rfl⟩) (State.clearLink_outside _ _ ⟨rfl, rfl, hardwired_fpStat⟩))
      (State.setLink_outside _ _ _ hardwired_fpStat)
  exact ((((lost.raise (hardwired_fpStat p) _).count (hardwired_fpDownCnt hp) _).setPort _ _).emit _ _ _).trans (State.topologyChange_outside _ rfl)

theorem State.IdStands.replay (s : State) : s.IdStands (s.replay p) := by
  refine .ite (.refl s) (.ite (.failLink hp s 2) ?_)
  refine .trans ?_ (.foldl (fun t _ _ => t.put_outside _ rfl) _)
  exact .count (State.IdStands.trans (.setPort (.refl s) p _) (State.noteFlits_outside _ _ _ _ ⟨rfl, hardwired_fpUtil⟩)) (hardwired_fpReplayCnt p) _

theorem State.IdStands.exchange (s : State) (l : TimeSec) (t4 : Time) : s.IdStands (s.exchange p l t4) := by
  have timed : ∀ x d, s.IdStands ((s.setPort p x).setReg (Reg.FP_DELAY p) d) := fun x d => ((State.IdStands.refl s).setPort p x).setReg (hardwired_fpDelay hp) d
  exact .ite (timed _ _) (State.IdStands.trans ((timed _ _).setReg rfl _) (State.steerPhase_outside _ _ ⟨rfl, rfl, rfl⟩))

theorem State.IdStands.takeLink (s : State) (l : LinkSec) (t4 : Time) : s.IdStands (s.takeLink p l t4) := by
  unfold State.takeLink
  extract_lets s1 x upTo held x' s2
  have h2 : s.IdStands s2 :=
    ((State.IdStands.exchange hp s l.toTimeSec t4).setPort p x').trans (State.takeAdv_outside _ _ _ ⟨rfl, rfl, hardwired_fpStat⟩)
  exact .ite (h2.trans (.replay hp s2)) h2

theorem State.IdStands.takeFlit (s : State) (flit : Nat) (poisoned : Bool) : s.IdStands (s.takeFlit p flit poisoned) := by
  unfold State.takeFlit
  extract_lets x s1 whole
  have h1 : s.IdStands s1 := (State.IdStands.refl s).setPort p _
  have ends : ∀ (t : State) (pk : Packet), s.IdStands t → s.IdStands (whole t pk) := fun t pk ht =>
    (ht.setPort p _).trans (State.arrive_outside _ _ _ ⟨rfl, rfl, rfl, hardwired_fpUtil⟩)
  rcases x.part with _ | ⟨pk, n⟩
  · have linked : s.IdStands (s1.takeLink p (linkOf flit) s1.time) := h1.trans (.takeLink hp _ _ _)
    exact .ite (ends _ _ linked) (linked.setPort p _)
  · exact .ite (ends _ _ h1) (h1.setPort p _)

end

theorem State.IdStands.servePort (s : State) (p : Nat) : s.IdStands (s.servePort p portFuel) := s.servePort_outside p _ ⟨rfl, hardwired_fpUtil, rfl⟩

theorem lt_of_and {p n : Nat} {b : Bool} (h : (decide (p < n) && b) = true) : p < n := of_decide_eq_true (Bool.and_eq_true_iff.1 h).1

theorem lt_of_and_and {p n : Nat} {b c : Bool} (h : (decide (p < n) && b && c) = true) : p < n := lt_of_and (Bool.and_eq_true_iff.1 h).1

theorem true_of_not {b : Bool} (h : ¬(!b) = true) : b = true := Bool.not_eq_false _ ▸ fun hf => h (hf ▸ rfl)

theorem linkDown_idStands (s : State) (p cause : Nat) : s.IdStands (linkDown s p cause) :=
  .iteOf (fun h => .failLink (lt_of_and_and h) s cause) fun _ => .refl s

theorem replayTimeout_idStands (s : State) (p : Nat) : s.IdStands (replayTimeout s p) :=
  .iteOf (fun h => .replay (lt_of_and_and h) s) fun _ => .refl s

theorem timeExchange_idStands (s : State) (p : Nat) (l : LinkSec) (t4 : Time) : s.IdStands (timeExchange s p l t4) :=
  .iteOf (fun _ => .refl s) fun h => (State.IdStands.takeLink (lt_of_and_and (true_of_not h)) s l t4).trans (.servePort _ _)

theorem hello_idStands (s : State) (p adv : Nat) (key : Key) (nport naddr : Nat) : s.IdStands (hello s p adv key nport naddr) := by
  refine .iteOf (fun _ => .refl s) fun h => ?_
  have seen : ∀ x, s.IdStands ((s.setPort p x).setPair (Reg.FP_NBR_LO p) (Reg.FP_NBR_HI p) key.die) :=
    fun x => (((State.IdStands.refl s).setPort p x).setReg (hardwired_fpNbrLo p) _).setReg (hardwired_fpNbrHi p) _
  have hp := hardwired_fpNbrAddr (lt_of_and_and (true_of_not h))
  exact (((seen _).setFld hp _ _).setFld hp _ _).trans (State.takeAdv_outside _ _ _ ⟨rfl, rfl, hardwired_fpStat⟩)

theorem dataFlitRx_idStands (s : State) (p : Nat) (flit : BitVec 256) : s.IdStands (dataFlitRx s p flit) := by
  have idle : ∀ t : State, t.IdStands (t.sendIdle p) := fun t => t.sendIdle_outside _ ⟨rfl, rfl⟩
  unfold dataFlitRx
  refine .iteOf (fun _ => .refl s) fun h => ?_
  extract_lets s1
  have h1 : s.IdStands s1 := s.noteFlits_outside _ _ _ ⟨rfl, hardwired_fpUtil⟩
  rcases flitNumber (s1.portU p).rxNext flit.toNat with _ | ⟨n, po⟩
  · exact (h1.trans (State.crcFailure_outside _ _ ⟨Parts.unwired_emits, rfl, hardwired_fpCrcCnt, rfl, hardwired_fpStat⟩)).trans
      (State.nakLink_outside _ _ ⟨rfl, rfl⟩)
  · exact .ite (((h1.trans (.takeFlit (lt_of_and (true_of_not h)) _ _ _)).trans (idle _)).trans (.servePort _ _))
      (.ite (h1.trans (State.nakGap_outside _ _ ⟨rfl, rfl⟩)) (h1.trans (idle _)))

/-! ### Alarm outputs -/

section
variable {a : Nat} (ha : a < 4)
include ha

theorem State.IdStands.setAlarm (s : State) (level : Bool) (reason what : Nat) : s.IdStands (s.setAlarm a level reason what) := by
  unfold State.setAlarm
  extract_lets was s1 s2
  have h2 : s.IdStands s2 := ((State.IdStands.refl s).setFld (hardwired_safAlmStat ha) _ _).setFld (hardwired_safAlmStat ha) _ _
  exact .ite h2 (((h2.count (hardwired_safAlmStat ha) _).emit _ _ _).trans (State.showBalls_outside _ rfl))

theorem State.IdStands.evaluateAlarm (s : State) : s.IdStands (s.evaluateAlarm a) := by
  unfold State.evaluateAlarm
  extract_lets cfg x by_ raw until_ src s1 latched other s2
  have h1 : s.IdStands s1 := s.setAlarmU_outside _ _ rfl
  have sets : ∀ l r w, s.IdStands (s1.setAlarm a l r w) := fun l r w => h1.trans (.setAlarm ha s1 l r w)
  have h2 : s.IdStands s2 := by
    refine .ite (sets _ _ _) (.ite (sets _ _ _) (.ite (sets _ _ _) (.ite (sets _ _ _) ?_)))
    rcases s1.alarmFault a with _ | n
    · exact .ite (sets _ _ _) (sets _ _ _)
    · exact .ite (sets _ _ _) h1
  exact .ite (h2.raise (hardwired_safAlmStat ha) _) h2

end

theorem alarmEvaluate_idStands (s : State) : s.IdStands (alarmEvaluate s) :=
  .ite (.foldl (fun t _ hx => .evaluateAlarm (List.mem_range.1 hx) t) s) (.refl s)

theorem alarmHoldExpiry_idStands (s : State) (a t : Nat) : s.IdStands (alarmHoldExpiry s a t) :=
  .iteOf (fun _ => .refl s) fun h => State.IdStands.trans (s.setTrig_outside _ _ rfl)
    (.evaluateAlarm (Nat.lt_of_not_le fun hle => h (.inl hle)) _)

theorem safAlmAck_idStands (s : State) (n : Nat) : s.IdStands (safAlmAck s n) := by
  refine .iteOf (fun _ => .refl s) fun h => ?_
  have hn := Nat.lt_of_not_le h
  have freed := (State.IdStands.refl s).clear (hardwired_safAlmStat hn) Fld.SAF_ALM_STAT_LATCHED
  exact .ite (.refl s) (.ite (freed.trans (.evaluateAlarm hn _)) freed)

theorem State.IdStands.raiseCause (s : State) (c rule unit : Nat) : s.IdStands (s.raiseCause c rule unit) :=
  s.raiseCause_outside _ _ _ ⟨Parts.unwired_emits, rfl, rfl, rfl, hardwired_fpUtil, rfl, rfl, rfl, rfl, rfl, rfl, rfl, rfl, rfl, rfl, rfl, rfl⟩

theorem smonLockstepMismatch_idStands (s : State) : s.IdStands (smonLockstepMismatch s) :=
  (State.IdStands.trans (s.driveSafeN_outside _ ⟨rfl, rfl⟩) (.foldl (fun t _ hx => .setAlarm (List.mem_range.1 hx) t _ _ _) _)).trans
    (.raiseCause _ _ _ _)

theorem outputFault_idStands (s : State) (ball : Nat) (level : Bool) : s.IdStands (outputFault s ball level) := by
  refine .ite (.refl s) ?_
  have shown : s.IdStands { s with smon := { s.smon with badBall := some (ball, level) } }.showBalls :=
    State.IdStands.trans (State.outside_smon rfl _ _) (State.showBalls_outside _ rfl)
  exact (((shown.raise (a := Reg.SAF_STAT) rfl _).emit _ _ _).trans (.raiseCause _ _ _ _)).trans
    (.foldl (fun t _ hx => .ite (.refl t) (.setAlarm (List.mem_range.1 hx) t _ _ _)) _)

end Sys2Proof.Machine
end

section
set_option Elab.async false
/-!
PROOF. No step changes an identity register (O8): fusion, the formats and the base samples of the P-channels.
-/
namespace Sys2Proof.Machine

section
variable {s t : State}

theorem State.IdStands.setPch (h : s.IdStands t) (n : Nat) (x : Pch) : s.IdStands (t.setPch n x) := h.trans (t.setPch_outside n x rfl)

theorem State.IdStands.verifyP (h : s.IdStands t) (n : Nat) : s.IdStands (t.verifyP n) :=
  h.trans (t.verifyP_outside n ⟨Parts.unwired_emits, rfl, rfl, rfl, hardwired_fpUtil, rfl, rfl, rfl, rfl, rfl, rfl, rfl, rfl, rfl, rfl, rfl, rfl, rfl, rfl,
    rfl, rfl⟩)

theorem State.IdStands.emitSafetyHeld (h : s.IdStands t) (type u : Nat) (l : List Int) : s.IdStands (t.emitSafetyHeld type u l) :=
  h.trans (t.emitSafetyHeld_outside _ _ _ Parts.unwired_emits)

theorem State.IdStands.writeJudged {a st : Nat} (h : s.IdStands t) (ha : hardwired a = false) (hst : hardwired st = false) (mask rej v : Word) (f : Field) :
    s.IdStands (t.writeJudged a mask rej v st f) := h.trans (t.writeJudged_outside _ _ _ _ _ _ ha hst ⟨rfl, rfl⟩)

theorem State.IdStands.restartRes (h : s.IdStands t) (n : Nat) : s.IdStands (t.restartRes n) := h.trans (t.restartRes_outside n rfl)

theorem State.IdStands.restartChain (h : s.IdStands t) (n out cause : Nat) : s.IdStands (t.restartChain n out cause) :=
  h.trans (t.restartChain_outside _ _ _ ⟨Parts.unwired_emits, rfl, hardwired_pchFltStat, rfl, rfl, rfl, rfl⟩)

theorem State.IdStands.loadPlaus (h : s.IdStands t) (n : Nat) : s.IdStands (t.loadPlaus n) := h.setReg (hardwired_pchPlausEff n) _

theorem State.IdStands.setChk (h : s.IdStands t) (n : Nat) (x : ChkCh) : s.IdStands (t.setChk n x) := h.trans (t.setChk_outside n x rfl)

end

theorem State.IdStands.writeAbsent (s : State) (n count off : Nat) : s.IdStands (s.writeAbsent n count off) := s.writeAbsent_outside _ _ _ ⟨rfl, rfl⟩

theorem hasPch_of_not {v : Variant} {n : Nat} (h : ¬(!hasPch v n) = true) : n < 64 := hasPch_lt (true_of_not h)

theorem hasPch_of_not_or {v : Variant} {n : Nat} {b : Bool} (h : ¬(!hasPch v n || b) = true) : n < 64 :=
  hasPch_of_not fun hf => h (Bool.or_eq_true_iff.2 (.inl hf))

/-! ### Fusion -/

section
variable {n : Nat} (hn : n < 64)
include hn

theorem State.IdStands.restartDiff {s t : State} (h : s.IdStands t) : s.IdStands (t.restartDiff n) := (h.setPch n _).clear (hardwired_pchConvStat hn) _

theorem State.IdStands.setFusionUnchecked {s t : State} (h : s.IdStands t) (cause : Nat) : s.IdStands (t.setFusionUnchecked n cause) :=
  .ite h (((h.setLive (hardwired_pchConvStat hn) _ _ _).emit _ _ _).verifyP n)

theorem State.IdStands.plausibility (s : State) (k : Nat) (c f rawF : Int) (ovr fovl : Bool) : s.IdStands (s.plausibility n k c f rawF ovr fovl) := by
  have hconv := hardwired_pchConvStat hn
  unfold State.plausibility
  extract_lets u th bad m win counted cnt run u' s1 s2 s3 fault firstK s4 s5 s6 s7 s8
  have h1 : s.IdStands s1 := ((State.IdStands.refl s).setPch n _).setFld hconv _ _
  have h2 : s.IdStands s2 := .ite (h1.count (hardwired_pchFusCnt n) _) h1
  have h3 : s.IdStands s3 := .ite ((h2.clear hconv _).verifyP n) h2
  exact .ite ((State.IdStands.refl s).setPch n _) (.ite ((((h3.setLive hconv _ _ _).setPch n _).emitSafetyHeld _ _ _).verifyP n)
    (.ite ((((h3.clear hconv _).setPch n _).emit _ _ _).verifyP n) h3))

theorem State.IdStands.overrangeStep {s t : State} (h : s.IdStands t) (cause : Option Nat) (neg : Bool) : s.IdStands (t.overrangeStep n cause neg) := by
  have hconv := hardwired_pchConvStat hn
  unfold State.overrangeStep
  extract_lets u s1 s2
  rcases cause with _ | why
  · exact (h.clear hconv _).setPch n _
  · have entered : ∀ x, s.IdStands (s2.setPch n x) := ((h.setLive hconv _ _ _).count (hardwired_pchOvrCnt n) _).setPch n
    exact .ite (entered _) ((entered _).trans (State.emitLimited_outside _ _ _ _ _ _ _ _ ⟨Parts.unwired_emits, rfl⟩))

theorem State.IdStands.changeAt {s t : State} (h : s.IdStands t) (k : Nat) (old new : Word) : s.IdStands (t.changeAt n k old new) := by
  unfold State.changeAt
  extract_lets x s1 s2 s3 y s4
  have h1 : s.IdStands s1 := h.setPch n _
  have h2 : s.IdStands s2 := .ite (h1.loadPlaus n) h1
  have h4 : s.IdStands s4 := ((h2.restartDiff hn).restartRes n).setChk n _
  exact ((h4.trans (State.emitAt_outside _ _ _ _ _ Parts.unwired_emits)).trans
    (State.pinUpdate_outside _ _ ⟨Parts.unwired_emits, rfl, hardwired_pchStat, rfl⟩)).verifyP n

end

theorem State.IdStands.fuseChannel (s : State) (k : Nat) (r : RawSample) (hn : r.ch < 64) : s.IdStands (fuseChannel s k r).2 := by
  have hconv := hardwired_pchConvStat hn
  unfold Machine.fuseChannel
  extract_lets n old s1 u pins e w c f covl fovl force frec wh cause neg y s2 s3 s4 s5 marks blank x u' s6
  have h1 : s.IdStands s1 := .ite (((State.IdStands.refl s).loadPlaus n).setPch n _) (.refl s)
  refine .iteSnd ((h1.setPch n _).setPch n _) (State.IdStands.setPch (.setPch ?_ n _) n _)
  exact ((State.IdStands.overrangeStep hn (h1.trans (.plausibility hn s1 _ _ _ _ _ _)) _ _).setFld hconv _ _).setFld hconv _ _

theorem fusionUnchecked_idStands (s : State) (n : Nat) : s.IdStands (fusionUnchecked s n) :=
  .iteOf (fun h => .setFusionUnchecked (hasPch_lt (Bool.and_eq_true_iff.1 h).1) (.refl s) _) fun _ => .refl s

theorem fusDiffUpdate_idStands (s : State) (n : Nat) : s.IdStands (fusDiffUpdate s n) :=
  .iteOf (fun _ => .refl s) fun h => (((State.IdStands.refl s).setReg (hardwired_pchFusDiff n) _).setPch n _).raise
    (hardwired_pchConvStat (hasPch_of_not_or h)) _

theorem cfgChange_idStands (s : State) (n : Nat) : s.IdStands (cfgChange s n) :=
  .iteOf (fun _ => .refl s) fun h => .setPch (.changeAt (hasPch_of_not_or fun hf => h (Bool.or_eq_true_iff.2 (.inl hf))) (.refl s) _ _ _) n _

theorem pchFusCfgWrite_idStands (s : State) (n : Nat) (v : Word) : s.IdStands (pchFusCfgWrite s n v) := by
  refine .iteOf (fun _ => .writeAbsent s _ _ _) fun h => ?_
  have hn := hasPch_of_not h
  have hconv := hardwired_pchConvStat hn
  extract_lets old rej s1 new s2 m counted cnt s3 s4 firstK s5 s6
  have h1 : s.IdStands s1 := (State.IdStands.refl s).writeJudged (hardwired_pchFusCfg hn) (hardwired_pchStat n) _ _ _ _
  have h2 : s.IdStands s2 := .ite (.restartDiff hn h1) h1
  have h3 : s.IdStands s3 := h2.setFld hconv _ _
  have h4 : s.IdStands s4 := .ite (.setFusionUnchecked hn h3 _) h3
  exact .ite ((((h4.setLive hconv _ _ _).setPch n _).emitSafetyHeld _ _ _).verifyP n) h4

theorem State.IdStands.leaveServiceChannel (s : State) (n : Nat) : s.IdStands (s.leaveServiceChannel n) := by
  refine .ite (.refl s) ?_
  have h1 := pchFusCfgWrite_idStands s n ((s.reg (Reg.PCH_FUS_CFG n) &&& 0x3FFFFFFF) ||| 0x20000000)
  exact .ite ((h1.clear (hardwired_pchCfg n) _).trans (pchCfgWritten_outside _ _ ⟨Parts.unwired_emits, rfl, rfl, rfl, hardwired_fpUtil, rfl, rfl, rfl, rfl,
    rfl, rfl, rfl, hardwired_pchStat, rfl, rfl, rfl, rfl, rfl, rfl, rfl, rfl, rfl, rfl⟩)) h1

theorem pchFmtWrite_idStands (s : State) (n : Nat) (v : Word) : s.IdStands (pchFmtWrite s n v) := by
  refine .iteOf (fun _ => .writeAbsent s _ _ _) fun h => ?_
  have h1 := (State.IdStands.refl s).writeJudged (hardwired_pchFmt (hasPch_of_not h)) (hardwired_pchStat n) 0x30037FFF (pchFmtReject v) v
    Fld.PCH_STAT_CFG_REJ
  exact .ite h1 (h1.restartRes n)

theorem pchStaticCfgWrite_idStands (s : State) (n : Nat) (v : Word) : s.IdStands (pchStaticCfgWrite s n v) := by
  refine .iteOf (fun _ => .writeAbsent s _ _ _) fun h => ?_
  have h1 := (State.IdStands.refl s).writeJudged (hardwired_pchStaticCfg (hasPch_of_not h)) (hardwired_pchStat n) 0xE03F00FF (pchStaticCfgReject v) v
    Fld.PCH_STAT_CFG_REJ
  exact .ite h1 (h1.restartChain n _ _)

theorem pchSeisCfgWrite_idStands (s : State) (n : Nat) (v : Word) : s.IdStands (pchSeisCfgWrite s n v) :=
  .iteOf (fun _ => .writeAbsent s _ _ _) fun h => .ite (.refl s) (.ite ((State.IdStands.refl s).raise (hardwired_pchStat n) _)
    ((((State.IdStands.refl s).setReg (hardwired_pchSeisCfg n) _).setFld (hardwired_pchSeisDelay (hasPch_of_not h)) _ _).restartChain n _ _))

end Sys2Proof.Machine
end

section
set_option Elab.async false
/-!
PROOF. No step changes an identity register (O8): base samples, calibration entries, the modes and the DRAM's operating points.
-/
namespace Sys2Proof.Machine

/-- The wired registers and the factory values stand. -/
def State.WiredKept (s t : State) : Prop := (∀ a, hardwired a = true → t.reg a = s.reg a) ∧ t.fac = s.fac

theorem State.IdStands.wiredKept {s t : State} (h : s.IdStands t) : s.WiredKept t :=
  ⟨fun _ ha => (State.sameBut_of_outside h).reg _ fun hf : hardwired _ = false => Bool.noConfusion (ha.symm.trans hf), (State.sameBut_of_outside h).fac⟩

theorem State.WiredKept.trans {s t u : State} (h : s.WiredKept t) (k : t.WiredKept u) : s.WiredKept u :=
  ⟨fun a ha => (k.1 a ha).trans (h.1 a ha), k.2.trans h.2⟩

/-! ### Base samples -/

theorem State.IdStands.applyDue (s : State) {n : Nat} (hn : n < 64) (k : Nat) : s.IdStands (s.applyDue n k) := by
  unfold State.applyDue
  rcases (s.chkU n).applyAt with _ | ⟨k0, g, w⟩
  · exact .refl s
  · have stored : s.IdStands ((s.setChk n { s.chkU n with applyAt := none }).storeWorking n g w) :=
      ((State.IdStands.refl s).setChk n _).trans (State.storeWorking_outside _ _ _ _ ⟨rfl, rfl, rfl, rfl⟩)
    exact .ite ((State.IdStands.changeAt hn stored _ _ _).setPch n _) (.refl s)

theorem State.IdStands.feedChecker (s : State) (n k : Nat) (o : Option BaseOut) : s.IdStands (s.feedChecker n k o) :=
  have kept := (State.IdStands.refl s).setChk n _
  .ite kept (kept.trans (State.setBank_outside _ _ _ rfl))

theorem State.rawOf_ch (s : State) (raws : List RawSample) (n : Nat) : (s.rawOf raws n).1.ch = n := by
  unfold State.rawOf
  cases h : raws.find? fun r => r.ch == n with
  | none => rfl
  | some r => exact beq_iff_eq.1 (List.find?_some (p := fun r : RawSample => r.ch == n) h)

theorem State.IdStands.baseChannel (s : State) (raws : List RawSample) (k n : Nat) : s.IdStands (s.baseChannel raws k n) := by
  refine .iteOf (fun _ => .refl s) fun h => ?_
  have hn := hasPch_of_not h
  extract_lets s1 r p s2
  have h1 : s.IdStands r.2 := (State.IdStands.applyDue s hn k).trans (State.rawOf_outside _ _ _ rfl)
  have h2 : s.IdStands s2 := (h1.trans (.fuseChannel _ _ _ (by rw [State.rawOf_ch]; exact hn))).trans (.feedChecker _ n k _)
  cases p.1 with
  | none => exact h2
  | some o =>
    exact ((h2.setPch n _).trans (State.staticAdd_outside _ _ _ ⟨rfl, hardwired_pchFltStat⟩)).trans (State.seisAdd_outside _ _ _ rfl)

theorem State.reg_foldl_setReg (v : Nat → Word) (a : Nat) : ∀ (l : List LateWrite) (s : State),
    (l.foldl (fun (t : State) e => t.setReg e.off (v e.off)) s).reg a = if l.any (fun e => e.off == a) then v a else s.reg a
  | [], _ => rfl
  | e :: l, s => by
    rw [List.foldl_cons, State.reg_foldl_setReg v a l, State.reg_setReg, List.any_cons]
    by_cases he : a = e.off
    · simp [he]
    · simp [he, Ne.symm he]

/-- At the boundary a register reads as the AON domain holds it. -/
theorem State.reg_asCommitted (s : State) (a : Nat) : s.asCommitted.reg a = s.regBy s.cycles a := by
  refine (State.reg_foldl_setReg (s.regBy s.cycles) a s.late s).trans ?_
  split
  · rfl
  next h =>
    have none : s.late.filter (fun e => e.off == a && decide (s.cycles < e.commit)) = [] :=
      List.filter_eq_nil_iff.2 fun e he hf => h (List.any_eq_true.2 ⟨e, he, (Bool.and_eq_true_iff.1 hf).1⟩)
    rw [State.regBy, none, List.foldl_nil]

/-- The word after writes that put bits of `w` back. -/
noncomputable def restored (w : Word) (l : List LateWrite) (x : Word) : Word := l.foldl (fun x e => (x &&& ~~~e.mask) ||| (w &&& e.mask)) x

/-- Two words that differ only where a late write has its bits. -/
def AgreeBut (l : List LateWrite) (x w : Word) : Prop := ∀ i : Fin 32, x[i] = w[i] ∨ ∃ e ∈ l, e.mask[i] = true

theorem agreeBut_masked (w : Word) : ∀ (l : List LateWrite) (x : Word) (m : List LateWrite), AgreeBut m x w →
    AgreeBut (l ++ m) (l.foldl (fun x e => (x &&& ~~~e.mask) ||| (e.old &&& e.mask)) x) w
  | [], _, _, h => h
  | e :: l, x, m, h => by
    have step : AgreeBut (e :: m) ((x &&& ~~~e.mask) ||| (e.old &&& e.mask)) w := fun i => by
      rcases h i with hi | ⟨f, hf, hi⟩
      · cases hm : e.mask[i]
        · exact .inl (by simp_all)
        · exact .inr ⟨e, List.mem_cons_self, hm⟩
      · exact .inr ⟨f, List.mem_cons_of_mem _ hf, hi⟩
    intro i
    rcases agreeBut_masked w l _ _ step i with hi | ⟨f, hf, hi⟩
    · exact .inl hi
    · exact .inr ⟨f, by simpa [or_left_comm] using hf, hi⟩

theorem restored_eq {w : Word} : ∀ {l : List LateWrite} {x : Word}, AgreeBut l x w → restored w l x = w
  | [], x, h => BitVec.eq_of_getElem_eq fun i hi => (h ⟨i, hi⟩).elim id fun ⟨_, he, _⟩ => absurd he List.not_mem_nil
  | e :: l, x, h => restored_eq (l := l) fun i => by
    cases hm : e.mask[i]
    · rcases h i with hi | ⟨f, hf, hi⟩
      · exact .inl (by simp_all)
      · rcases List.mem_cons.1 hf with rfl | hf
        · cases hm.symm.trans hi
        · exact .inr ⟨f, hf, hi⟩
    · exact .inl (by simp_all)

theorem State.reg_withLate_eq (t s : State) (a : Nat) :
    (t.withLate s).reg a = restored (s.reg a) (s.late.filter fun e => e.off == a && decide (s.cycles < e.commit)) (t.reg a) := by
  have none (u : State) (e : LateWrite) (n : Nat) : ((if e.off = Reg.PCH_FMT n && getField Fld.PCH_FMT_RES_SRC e.old != s.fld e.off Fld.PCH_FMT_RES_SRC
      then u.restartRes n else u)).reg a = u.reg a := by split <;> rfl
  have each (u : State) (e : LateWrite) : ((List.range 64).foldl (fun (t : State) n =>
      if e.off = Reg.PCH_FMT n && getField Fld.PCH_FMT_RES_SRC e.old != s.fld e.off Fld.PCH_FMT_RES_SRC then t.restartRes n else t) u).reg a = u.reg a :=
    List.foldlRecOn (motive := fun t : State => t.reg a = u.reg a) _ _ rfl fun t ht n _ => (none t e n).trans ht
  unfold State.withLate
  rw [← List.filter_filter]
  generalize s.late.filter (fun e => decide (s.cycles < e.commit)) = l
  induction l generalizing t with
  | nil => rfl
  | cons e l ih =>
    rw [List.foldl_cons, ih, each, State.reg_setReg]
    by_cases he : e.off = a
    · rw [List.filter_cons_of_pos (by simpa using he), if_pos he.symm, he]; rfl
    · rw [List.filter_cons_of_neg (by simpa using he), if_neg (Ne.symm he)]

theorem State.WiredKept.base {s t : State} (h : s.asCommitted.IdStands t) : s.WiredKept (t.withLate s) := by
  refine ⟨fun a ha => ?_, ?_⟩
  · rw [State.reg_withLate_eq, h.wiredKept.1 a ha, State.reg_asCommitted]
    refine restored_eq ?_
    have agree := agreeBut_masked (s.reg a) (s.late.filter fun e => e.off == a && decide (s.cycles < e.commit)) (s.reg a) [] fun _ => .inl rfl
    rwa [List.append_nil] at agree
  · exact (State.sameBut_of_outside (State.withLate_outside (P := Parts.all) t s rfl fun _ => trivial)).fac.trans (h.wiredKept.2.trans
      (State.sameBut_of_outside (State.asCommitted_outside (P := Parts.all) s fun _ => trivial)).fac)

theorem baseSample_wiredKept (s : State) (raws : List RawSample) : s.WiredKept (baseSample s raws) := by
  unfold baseSample
  split
  · exact (State.IdStands.refl s).wiredKept
  · extract_lets past s1 k
    have h1 : s.IdStands s1 := State.passCycles_outside s _ ⟨rfl, rfl, rfl, rfl⟩
    refine h1.wiredKept.trans (.base ?_)
    exact (State.IdStands.trans (State.takeEdges_outside _ ⟨rfl, hardwired_excStat⟩) (.foldl (fun t n _ => .baseChannel t raws k n) _)).trans
      (State.advanceExc_outside _ rfl)

/-! ### Working entries -/

/-- Where PCH_CONV_STAT of a channel beyond the last one would lie on a wired register, that is one of nine window monitors. -/
theorem pchConvStat_wired {n : Nat} (h : hardwired (Reg.PCH_CONV_STAT n) = true) : 160 ≤ n ∧ n < 169 := by
  constructor
  · refine Nat.le_of_not_lt fun hn => ?_
    have apart := hardwired_seriesTo (b := 0x10020) (k := 0x100) (n := 160) (by decide +kernel) hn
    exact Bool.noConfusion (h.symm.trans apart)
  · refine Nat.lt_of_not_le fun hn => ?_
    obtain ⟨i, rfl⟩ := Nat.exists_eq_add_of_le hn
    have apart := hardwired_series (b := 0x10020 + 0x100 * 169) (k := 0x100) (by decide +kernel) i
    rw [Nat.add_assoc, ← Nat.mul_add] at apart
    exact Bool.noConfusion (h.symm.trans apart)

theorem regReset_plain {a : Nat} (h : a ∉ specials) (f : Factory) : regReset f a = regReset Factory.standard a := by
  rw [regReset, regReset, resetSpecial_none h, resetSpecial_none h]

theorem diffValid_monitors : ∀ i < 9, Reg.PCH_CONV_STAT (160 + i) ∉ specials ∧
    putField Fld.PCH_CONV_STAT_DIFF_VALID (regReset Factory.standard (Reg.PCH_CONV_STAT (160 + i))) 0 =
      regReset Factory.standard (Reg.PCH_CONV_STAT (160 + i)) := by
  decide +kernel

/-- A wired register has no bit where PCH_CONV_STAT shows DIFF_VALID. -/
theorem diffValid_wired (f : Factory) {n : Nat} (h : hardwired (Reg.PCH_CONV_STAT n) = true) :
    putField Fld.PCH_CONV_STAT_DIFF_VALID (regReset f (Reg.PCH_CONV_STAT n)) 0 = regReset f (Reg.PCH_CONV_STAT n) := by
  obtain ⟨hlo, hhi⟩ := pchConvStat_wired h
  obtain ⟨i, rfl⟩ := Nat.exists_eq_add_of_le hlo
  obtain ⟨plain, same⟩ := diffValid_monitors i (Nat.lt_of_add_lt_add_left hhi)
  rw [regReset_plain plain, same]

theorem State.WiredKept.identityKept {s t : State} (h : s.WiredKept t) (hs : s.identityKept) : t.identityKept :=
  fun a ha => by rw [h.1 a ha, h.2, hs a ha]

/-- Averaging that starts again for any channel keeps the identity registers, also where the channel's status lies on one. -/
theorem State.identityKept.restartDiff {s : State} (hs : s.identityKept) (n : Nat) : s.WiredKept (s.restartDiff n) := by
  refine ⟨fun a ha => ?_, rfl⟩
  show ((s.setPch n _).setFld (Reg.PCH_CONV_STAT n) Fld.PCH_CONV_STAT_DIFF_VALID 0).reg a = s.reg a
  by_cases he : a = Reg.PCH_CONV_STAT n
  · rw [he, State.reg_setFld_self]
    show putField _ (s.reg _) 0 = _
    rw [hs _ (he ▸ ha), diffValid_wired s.fac (he ▸ ha)]
  · exact State.reg_setFld_other _ he _ _

theorem State.identityKept.changeAt {s : State} (hs : s.identityKept) (n k : Nat) (old new : Word) : s.WiredKept (s.changeAt n k old new) := by
  unfold State.changeAt
  extract_lets x s1 s2 s3 y s4
  have h1 : s.IdStands s1 := (State.IdStands.refl s).setPch n _
  have h2 : s.IdStands s2 := .ite (h1.loadPlaus n) h1
  have h3 : s.WiredKept (s2.restartDiff n) := h2.wiredKept.trans (State.identityKept.restartDiff (h2.wiredKept.identityKept hs) n)
  have h4 : (s2.restartDiff n).IdStands s4 := ((State.IdStands.refl _).restartRes n).setChk n _
  exact h3.trans (State.IdStands.verifyP ((h4.trans (State.emitAt_outside _ _ _ _ _ Parts.unwired_emits)).trans
    (State.pinUpdate_outside _ _ ⟨Parts.unwired_emits, rfl, hardwired_pchStat, rfl⟩)) n).wiredKept

theorem State.IdStands.storeWorking (s : State) (ch gain : Nat) (w : List Word) : s.IdStands (s.storeWorking ch gain w) :=
  s.storeWorking_outside _ _ _ ⟨rfl, rfl, rfl, rfl⟩

theorem calApplied_wiredKept {s : State} (hs : s.identityKept) (m : Nat) : s.WiredKept (calApplied s m) := by
  have same : s.WiredKept s := (State.IdStands.refl s).wiredKept
  unfold calApplied
  extract_lets b
  rcases b.meas with _ | me
  · exact same
  rcases b.cur with _ | sl
  · exact same
  dsimp -zeta only
  rcases me.words with _ | w
  · exact same
  rcases me.ready with _ | since
  · exact same
  dsimp -zeta only
  split
  · exact same
  extract_lets k inUse t s1 c s2
  have h1 : s.IdStands s1 := State.IdStands.trans (State.setBank_outside _ _ _ rfl) (State.showMeas_outside _ rfl)
  have h2 : s.WiredKept s2 := by
    dsimp -zeta only [s2]
    split
    · split
      · have h3 := h1.trans (State.IdStands.storeWorking s1 me.ch me.gain w)
        have h4 := State.identityKept.changeAt (h3.wiredKept.identityKept hs) me.ch k
          ((s1.storeWorking me.ch me.gain w).pchU me.ch).inForce ((s1.storeWorking me.ch me.gain w).pchU me.ch).inForce
        exact (h3.wiredKept.trans h4).trans ((State.IdStands.refl _).setPch _ _).wiredKept
      · exact (h1.setChk _ _).wiredKept
    · exact (h1.trans (.storeWorking _ _ _ _)).wiredKept
  exact h2.trans ((State.IdStands.refl s2).emit _ _ _).wiredKept

/-! ### Modes -/

theorem State.IdStands.leaveService (s : State) : s.IdStands s.leaveService := by
  have left := State.IdStands.foldl (fun t n _ => State.IdStands.leaveServiceChannel t n) s (l := List.range 64)
  exact (((left.trans (State.leaveServiceCal_outside _ Parts.unwired_emits)).trans (State.disarmInjection_outside _ rfl)).trans
    (State.restoreTests_outside _ ⟨rfl, rfl, rfl⟩)).clear rfl _ |>.clear rfl _

theorem State.IdStands.changeMode (s : State) (old new : Nat) : s.IdStands (s.changeMode old new) := by
  unfold State.changeMode
  extract_lets s1
  have h1 : s.IdStands s1 := State.IdStands.trans (State.IdStands.trans (State.shiftBudget_outside _ _ _ rfl)
    (State.beginMode_outside _ _ _ ⟨rfl, rfl, rfl⟩)) (State.beginBurst_outside _ _ rfl)
  have h2 : s.IdStands (s1.leaveModes old new) := by
    have left : s.IdStands (if old = modeService ∧ new ≠ modeService then s1.leaveService else s1) := .ite (h1.trans (.leaveService s1)) h1
    exact .ite (left.trans (State.leaveSafe_outside _ _ ⟨Parts.unwired_emits, rfl, rfl⟩)) left
  have h3 := h2.trans (State.entryActions_outside _ new ⟨Parts.unwired_emits, rfl, rfl, rfl, rfl, rfl, rfl, rfl, rfl, rfl, rfl, rfl, hardwired_clStat, rfl,
    rfl, rfl, rfl, rfl, rfl, rfl, rfl, rfl, rfl, rfl, rfl, rfl, rfl, rfl, hardwired_eccRemap, rfl, rfl, rfl, rfl, rfl, hardwired_fpStat, hardwired_fpUtil,
    rfl, rfl, rfl, rfl, rfl, hardwired_wchStat, hardwired_wchWakeCnt⟩)
  exact .ite (h3.trans (State.verifyAll_outside _ ⟨Parts.unwired_emits, rfl, rfl, rfl, hardwired_fpUtil, rfl, rfl, rfl, rfl, rfl, rfl, rfl, rfl, rfl, rfl,
    rfl, rfl, rfl, rfl, rfl, rfl⟩)) h3

theorem modeChangeInstant_idStands (s : State) : s.IdStands (modeChangeInstant s) := .ite (.refl s) (.changeMode s _ _)

/-! ### Operating points -/

theorem drcFreqDone_idStands (s : State) (end_ : ChangeEnd) : s.IdStands (drcFreqDone s end_) := by
  unfold drcFreqDone
  extract_lets holding
  rcases s.drc.change with _ | ⟨old, op⟩
  · exact .refl s
  dsimp -zeta only
  extract_lets full s1 d s2 s3 s4 s5 s6
  have h1 : s.IdStands s1 := .ite (State.setTrained_outside _ _ rfl) (.refl s)
  have h2 : s.IdStands s2 := h1.trans (State.outside_drc rfl _ _)
  have h3 : s.IdStands s3 := h2.trans (.foldl (fun t ch _ => State.IdStands.trans (State.IdStands.trans
    (State.changeTrained_outside _ _ _ _ _ ⟨Parts.unwired_emits, rfl, rfl, rfl, rfl, rfl, hardwired_fpUtil, rfl, rfl, rfl, rfl, rfl, rfl, rfl, rfl, rfl, rfl,
      rfl, rfl⟩) (State.setChan_outside _ _ _ rfl)) (State.noteInterval_outside _ _ _ _ _ rfl)) _)
  have h5 : s.IdStands s5 := ((h3.setFld (a := Reg.DRC_STAT) rfl _ _).clear rfl _).count (a := Reg.DRC_TRAIN_CNT) rfl _
  have h6 : s.IdStands s6 := (h5.count (a := Reg.DRC_FREQ_CNT) rfl _).trans (State.showTTrain_outside _ rfl)
  exact .ite (.refl s) ((h6.emit _ _ _).trans (State.beginPending_outside _ ⟨Parts.unwired_emits, rfl, rfl, rfl, rfl, rfl, rfl, rfl, rfl, rfl, rfl, rfl, rfl,
    rfl, hardwired_eccRemap, rfl, rfl, rfl⟩))

end Sys2Proof.Machine
end

section
set_option Elab.async false
/-!
PROOF. No step changes an identity register (O8): the bank checkers and the end of BOOT.
-/
namespace Sys2Proof.Machine

section
variable {s t : State}

theorem State.IdStands.setBank (h : s.IdStands t) (m : Nat) (x : Bank) : s.IdStands (t.setBank m x) := h.trans (t.setBank_outside m x rfl)

theorem State.IdStands.showOdBusy (h : s.IdStands t) (m : Nat) : s.IdStands (t.showOdBusy m) := h.setFld (hardwired_bankStat m) _ _

theorem State.IdStands.settle (h : s.IdStands t) (src : CmdSrc) (op tag : Nat) (c : Completion) : s.IdStands (t.settle src op tag c) :=
  h.trans (t.settle_outside _ _ _ _ ⟨rfl, rfl, rfl, hardwired_fpUtil, rfl, rfl, rfl, rfl⟩)

end

/-! ### The channels' registers of the checker -/

/-- Whether the registers that the eight banks hold at `b` are not wired. -/
def bankApart (b : Nat) : Bool := seriesApart b 0x200 fun a => decide (b + 0x200 * (8 - 1) < a)

/-- A bank's register at a place `c` further on. -/
theorem hardwired_bank {b c m : Nat} (h : bankApart (b + c) = true) (hm : m < 8) : hardwired (b + 0x200 * m + c) = false := by
  rw [Nat.add_right_comm]
  exact hardwired_seriesTo h hm

theorem chkChannels_apart : ∀ j < 8, bankApart (0x14040 + 0x20 * j) = true ∧ bankApart (0x14044 + 0x20 * j) = true ∧
    bankApart (0x14048 + 0x20 * j) = true ∧ bankApart (0x1404C + 0x20 * j) = true ∧ bankApart (0x14050 + 0x20 * j) = true ∧
    bankApart (0x14054 + 0x20 * j) = true := by
  decide +kernel

theorem bankPoints_apart : ∀ i < 4, bankApart (0x14140 + 4 * i) = true := by
  decide +kernel

theorem bankCfgs_apart : ∀ i < 5, bankApart (0x14004 + 4 * i) = true := by
  decide +kernel

theorem hardwired_chk (m : Nat) (hm : m < 8) (j : Nat) (hj : j < 8) : hardwired (Reg.CHK_CH_STAT m j) = false ∧
    hardwired (Reg.CHK_CH_A_LO m j) = false ∧ hardwired (Reg.CHK_CH_K_LO m j) = false ∧ hardwired (Reg.CHK_CH_HI m j) = false ∧
    hardwired (Reg.CHK_CH_DIFF m j) = false ∧ hardwired (Reg.CHK_CH_TOTAL m j) = false := by
  obtain ⟨hstat, halo, hklo, hhi, hdiff, htotal⟩ := chkChannels_apart j hj
  exact ⟨hardwired_bank hstat hm, hardwired_bank halo hm, hardwired_bank hklo hm, hardwired_bank hhi hm, hardwired_bank hdiff hm,
    hardwired_bank htotal hm⟩

theorem hardwired_bankPoint (m : Nat) (hm : m < 8) (i : Nat) (hi : i < 4) : hardwired (Reg.BANK_PT_ZERO m + 4 * i) = false :=
  hardwired_bank (bankPoints_apart i hi) hm

theorem hardwired_bankCfgs (m : Nat) (hm : m < 8) (i : Nat) (hi : i < 5) : hardwired (Reg.BANK_CFG m + 4 * i) = false :=
  hardwired_bank (bankCfgs_apart i hi) hm

theorem State.IdStands.setCheckUnchecked (s : State) {n : Nat} (hn : n < 64) (cause : Nat) : s.IdStands (s.setCheckUnchecked n cause) :=
  have hchk := (hardwired_chk (n / 8) (Nat.div_lt_of_lt_mul hn) (n % 8) (Nat.mod_lt n (by decide))).1
  .ite (.refl s) ((((State.IdStands.refl s).setLive hchk _ _ _).emit _ _ _).verifyP n)

theorem hasBank_of_not {v : Variant} {m : Nat} (h : ¬(!hasBank v m) = true) : m < 8 := lt_of_and (true_of_not h)

theorem State.IdStands.maskUnchecked (s : State) (m : Nat) : s.IdStands (s.maskUnchecked m) :=
  .foldl (fun t _ _ => .iteOf (fun h => .setCheckUnchecked t (hasPch_lt (Bool.and_eq_true_iff.1 h).1) _) fun _ => .refl t) s

theorem bankCfgWrite_idStands (s : State) (m i : Nat) (v : Word) : s.IdStands (bankCfgWrite s m i v) :=
  .iteOf (fun _ => .refl s) fun hi => .iteOf (fun _ => .writeAbsent s _ _ _) fun hm =>
    ((State.IdStands.refl s).writeJudged (hardwired_bankCfgs m (hasBank_of_not hm) i (Nat.lt_of_not_le hi)) (hardwired_bankStat m) _ _ _ _).trans
      (.maskUnchecked _ m)

theorem State.IdStands.missedCycle (s : State) (n : Nat) (cfg : Word) : s.IdStands (s.missedCycle n cfg) := by
  refine .iteOf (fun _ => .refl s) fun h => ?_
  extract_lets c w s1
  have h1 : s.IdStands s1 := (State.IdStands.refl s).setChk n _
  exact .ite (h1.trans (.setCheckUnchecked _ (hasPch_of_not_or h) _)) h1

/-! ### Results -/

theorem State.IdStands.openWire {s t : State} (h : s.IdStands t) (n : Nat) (p q : Bool) : s.IdStands (t.openWire n p q) :=
  h.trans (t.openWire_outside _ _ _ ⟨Parts.unwired_emits, rfl, hardwired_pchStat⟩)

section
variable {m : Nat} (hm : m < 8)
include hm

theorem State.IdStands.judgeChannel (s : State) (sl : Slot) (n status : Nat) (a k2 : Int) : s.IdStands (s.judgeChannel m sl n status a k2) := by
  have hchk := (hardwired_chk m hm (n % 8) (Nat.mod_lt n (by decide))).1
  unfold State.judgeChannel
  extract_lets st t c s1 s2 chkN first x s3 s4 t0 s5 s6
  have h1 : s.IdStands s1 := (State.IdStands.refl s).setChk n _
  have h2 : s.IdStands s2 := .ite (h1.clear hchk _) h1
  have h4 : s.IdStands s4 := (h2.setChk n _).setFld hchk _ _
  have h6 : s.IdStands s6 := (h2.setChk n _).setFld hchk _ _
  exact .ite (.refl s) (.ite (.ite ((h4.setLive hchk _ _ _).emitSafetyHeld _ _ _) h4) (.ite ((h6.clear hchk _).emit _ _ _) h6))

theorem State.IdStands.channelResult (s : State) (sl : Slot) (hpoint : sl.point < 8) (status0 : Nat) (r : BitVec 32) (owP owN : Bool) :
    s.IdStands (s.channelResult m sl status0 r owP owN).2 := by
  obtain ⟨hstat, halo, hklo, hhi, hdiff, htotal⟩ := hardwired_chk m hm sl.point hpoint
  unfold State.channelResult
  extract_lets n zc k k2 f a s1 tolPpm status st s2 s3 s4 s5 s6 s7 s8 s9 s10 s11
  have h1 : s.IdStands s1 := .ite (State.freeNat_outside _ _ rfl) (.refl s)
  have h3 : s.IdStands s3 := (h1.setFld hstat _ _).setFld hstat _ _
  have h4 : s.IdStands s4 := .ite (h3.count htotal _) h3
  have h9 : s.IdStands s9 := ((((h4.setReg halo _).setReg hklo _).setReg hhi _).setReg hdiff _).openWire n owP owN
  have h10 : s.IdStands s10 := .ite h9 (h9.trans (.judgeChannel hm s9 sl n status a k2))
  have h11 : s.IdStands s11 := .ite (h10.trans (State.firstAgree_outside _ _ rfl)) h10
  exact (h11.trans (State.measureSlot_outside _ _ _ _ _ ⟨rfl, rfl, rfl, rfl, rfl, hardwired_fpUtil, rfl, rfl, rfl, rfl⟩)).verifyP n

theorem State.IdStands.pointResult (s : State) (sl : Slot) (hpoint : sl.point < 12) (status0 : Nat) (r : BitVec 32) :
    s.IdStands (s.pointResult m sl status0 r) := by
  unfold State.pointResult
  extract_lets i b c zc v value tb tj tol expected out status s1 s2 s3
  have h1 : s.IdStands s1 := (State.IdStands.refl s).setReg (hardwired_bankPoint m hm i (by omega)) _
  have h2 : s.IdStands s2 := .ite (h1.setReg (hardwired_bankZero m) _) (.ite (h1.setFld (hardwired_bankTemp m) _ _) h1)
  have h3 : s.IdStands s3 := .ite (h2.setBank m _) (.ite (h2.setBank m _) h2)
  exact .ite h1 (.ite h2 (h3.trans (State.countPoint_outside _ _ _ _ _ _ _ ⟨Parts.unwired_emits, rfl, hardwired_bankStat, rfl, rfl, rfl, hardwired_fpUtil, rfl,
    rfl, rfl, rfl, rfl, rfl, rfl, rfl, rfl, rfl, rfl, rfl, rfl, rfl, rfl, rfl⟩)))

theorem State.IdStands.publish (s : State) (sl : Slot) (rest : List Slot) (r : BitVec 32) (owP owN : Bool) :
    s.IdStands (s.publish m sl rest r owP owN).2 := by
  unfold State.publish
  extract_lets b st rep s1 zc v
  have h1 : s.IdStands s1 := (State.IdStands.refl s).setBank m _
  split
  next h => exact h1.trans (.channelResult hm s1 sl h _ _ _ _)
  · split
    next h => exact h1.trans (.pointResult hm s1 sl h _ _)
    · exact h1

theorem State.IdStands.cycleEnd (s : State) (d : CycleDone) : s.IdStands (s.cycleEnd m d) := by
  unfold State.cycleEnd
  extract_lets x s1 s2 s3 p s4 s5
  have h2 : s.IdStands s2 := ((State.IdStands.refl s).setBank m _).setReg (hardwired_bankCycleT hm) _
  have h3 : s.IdStands s3 := h2.trans (State.trackReferences_outside _ _ _ ⟨rfl, hardwired_bankM, hardwired_bankS⟩)
  have hp : s.IdStands p.2 := List.foldlRecOn (motive := fun q : Option Nat × State => s.IdStands q.2) _ _ h3 fun q hq j _ =>
    hq.trans (State.driftChannel_outside _ _ _ _ ⟨rfl, rfl⟩)
  have h4 : s.IdStands s4 := .ite hp (hp.trans (State.showDrift_outside _ _ _ ⟨Parts.unwired_emits, hardwired_bankStat⟩))
  have h5 : s.IdStands s5 := h4.trans (.foldl (fun t _ _ => .missedCycle t _ _) _)
  exact h5.trans (State.detectionBound_outside _ _ _ ⟨Parts.unwired_emits, rfl, rfl, rfl, rfl⟩)

end

/-! ### Results and cycles that the checker publishes -/

theorem hasBank_of_not_or {v : Variant} {m : Nat} {b : Bool} (h : ¬(!hasBank v m || b) = true) : m < 8 :=
  hasBank_of_not fun hf => h (Bool.or_eq_true_iff.2 (.inl hf))

theorem checkerResult_idStands (s : State) (m : Nat) (r : BitVec 32) (owP owN : Bool) : s.IdStands (checkerResult s m r owP owN) := by
  refine .iteOf (fun _ => .refl s) fun hm => ?_
  extract_lets b
  rcases b.ended with _ | ⟨sl, rest⟩
  · exact .refl s
  · exact .ite (.refl s) (((State.IdStands.refl s).setBank m b).trans (.publish (hasBank_of_not hm) _ _ _ _ _ _))

theorem State.IdStands.finishCalibration (s : State) (m : Nat) (me : Meas) (w : List Word) : s.IdStands (s.finishCalibration m me w) :=
  s.finishCalibration_outside _ _ _ ⟨rfl, rfl, rfl, hardwired_fpUtil, rfl, rfl, rfl, rfl, rfl⟩

theorem checkerCycleEnd_idStands (s : State) (m : Nat) : s.IdStands (checkerCycleEnd s m) := by
  unfold checkerCycleEnd
  rcases (s.bankU m).done with _ | d
  · exact .refl s
  refine .iteOf (fun _ => .refl s) fun hm => ?_
  extract_lets s1
  have h1 : s.IdStands s1 := .cycleEnd (hasBank_of_not_or hm) s d
  rcases (s1.bankU m).meas with _ | me
  · exact h1
  dsimp -zeta only
  split
  · exact h1.trans (.finishCalibration _ _ _ _)
  · exact h1

theorem onDemandSlotDone_idStands (s : State) (m : Nat) (r : BitVec 32) (overload : Bool) (ow : OpenBalls) :
    s.IdStands (onDemandSlotDone s m r overload ow) := by
  refine .iteOf (fun _ => .refl s) fun hm => ?_
  extract_lets b
  rcases b.ended with _ | ⟨sl, rest⟩
  · exact .refl s
  dsimp -zeta only
  rcases sl.od with _ | o
  · exact .refl s
  refine .ite (.refl s) ?_
  extract_lets sl p res
  have hp : s.IdStands p.2 := ((State.IdStands.refl s).setBank m b).trans (.publish (hasBank_of_not hm) _ _ _ _ _ _)
  exact .ite (hp.showOdBusy m) ((hp.settle _ _ _ _).showOdBusy m)

/-! ### The end of BOOT -/

theorem State.IdStands.startUnits (s : State) : s.IdStands s.startUnits := by
  unfold State.startUnits
  extract_lets s1 s2 s3 s4
  have h1 : s.IdStands s1 := State.IdStands.trans (State.phaseBase_outside _ ⟨rfl, rfl, rfl⟩)
    (State.restartAllChains_outside _ _ ⟨Parts.unwired_emits, rfl, hardwired_pchFltStat, rfl, rfl, rfl, rfl⟩)
  have h2 : s.IdStands s2 := h1.trans (.foldl (fun t n _ => .ite ((State.IdStands.refl t).loadPlaus n) (.refl t)) _)
  have h3 : s.IdStands s3 := h2.trans (.foldl (fun t m _ => .ite (.refl t) (((State.IdStands.refl t).setBank m _).trans (.maskUnchecked _ m))) _)
  have h4 : s.IdStands s4 := h3.trans (.foldl (fun t _ _ => .ite (State.showBase_outside _ _ hardwired_hcBase) (.refl t)) _)
  exact (h4.trans (State.startMonitors_outside _ ⟨rfl, hardwired_wmStat, rfl, rfl⟩)).trans (State.startClusters_outside _ ⟨rfl, hardwired_clStat⟩)

theorem State.IdStands.verifyAll {s t : State} (h : s.IdStands t) : s.IdStands t.verifyAll :=
  h.trans (t.verifyAll_outside ⟨Parts.unwired_emits, rfl, rfl, rfl, hardwired_fpUtil, rfl, rfl, rfl, rfl, rfl, rfl, rfl, rfl, rfl, rfl, rfl, rfl, rfl, rfl,
    rfl, rfl⟩)

theorem State.IdStands.endBoot (s : State) (t : Time) (valid : Bool) : s.IdStands (s.endBoot t valid) := by
  unfold State.endBoot
  extract_lets us s1 s2 s3 s4 s5 sm s6
  have h1 : s.IdStands s1 := by
    have lone : s.IdStands s.loneDevice := State.loneDevice_outside _ ⟨rfl, rfl, rfl, rfl, rfl, rfl, rfl, hardwired_fpStat⟩
    have timed := lone.trans (State.takeTime_outside _ t valid ⟨rfl, rfl, rfl, rfl, rfl, rfl, rfl, rfl, rfl, rfl, rfl, rfl, rfl, rfl, rfl, rfl, rfl, rfl, rfl,
      rfl, rfl, rfl, rfl, rfl, rfl, rfl, rfl, rfl, rfl⟩)
    exact ((timed.trans (.startUnits _)).trans (State.judgeSpare_outside _ ⟨Parts.unwired_emits, rfl⟩)).trans
      (State.startPacer_outside _ ⟨rfl, rfl, rfl, rfl, rfl⟩)
  have h2 : s.IdStands s2 := h1.trans (.foldl (fun _ _ _ => State.openStream_outside _ _ ⟨rfl, rfl, rfl, rfl⟩) _)
  have h3 : s.IdStands s3 := .ite (h2.raise (a := Reg.HIF_STAT) rfl _) h2
  have h4 : s.IdStands s4 := (h3.setReg (a := Reg.BOOT_IMG) rfl _).setReg rfl _
  have h5 : s.IdStands s5 := (h4.trans (State.setPhase_outside _ _ rfl)).trans (State.enterStart_outside _ ⟨rfl, rfl, rfl, rfl⟩)
  have h6 : s.IdStands s6 := (h5.trans (State.outside_smon rfl _ _)).verifyAll
  exact h6.emit _ _ _

theorem bootDone_idStands (s : State) : s.IdStands (bootDone s) :=
  .ite (.refl s) (State.IdStands.trans (State.upstreamTime_outside s rfl) (.endBoot _ _ _))

end Sys2Proof.Machine
end

section
set_option Elab.async false
/-!
PROOF. No step changes an identity register (O8): excitation drivers, comparators, W-channels, nodes and PACER.
-/
namespace Sys2Proof.Machine

theorem not_left_of_not_or {a b : Bool} (h : ¬(a || b) = true) : ¬a = true := fun ha => h (Bool.or_eq_true_iff.2 (.inl ha))

/-! ### Start units and excitation drivers -/

section
variable {s t : State}

theorem State.IdStands.offerStart (h : s.IdStands t) (src index : Nat) (u : Time) : s.IdStands (t.offerStart src index u) :=
  h.trans (.foldl (fun t _ _ => .ite (State.setStart_outside t _ _ rfl) (.refl t)) t)

theorem State.IdStands.offerTrigger (h : s.IdStands t) (source index : Nat) (u : Time) : s.IdStands (t.offerTrigger source index u) :=
  h.trans (t.offerTrigger_outside _ _ _ ⟨Parts.unwired_emits, rfl, hardwired_excStat, rfl, rfl, rfl, hardwired_fpUtil, rfl, rfl, rfl, rfl, rfl, rfl, rfl, rfl,
    rfl, rfl, rfl, rfl, rfl⟩)

theorem State.IdStands.setExc (h : s.IdStands t) (k : Nat) (x : Exc) : s.IdStands (t.setExc k x) := h.trans (t.setExc_outside k x rfl)

theorem State.IdStands.verifyDriver (h : s.IdStands t) (k : Nat) : s.IdStands (t.verifyDriver k) :=
  h.trans (t.verifyDriver_outside _ ⟨Parts.unwired_emits, rfl, rfl, rfl, hardwired_fpUtil, rfl, rfl, rfl, rfl, rfl, rfl, rfl, rfl, rfl, rfl, rfl, rfl, rfl,
    rfl, rfl, rfl⟩)

theorem State.IdStands.releaseExc (h : s.IdStands t) (k : Nat) : s.IdStands (t.releaseExc k) :=
  by
  unfold State.releaseExc State.offerExcEnd
  extract_lets x u
  exact .offerStart ((h.setExc k _).trans (State.feedEvent_outside _ _ _ rfl)) _ _ _

theorem State.IdStands.cutExc (h : s.IdStands t) (k : Nat) : s.IdStands (t.cutExc k) := by
  have cut := (h.setExc k { t.excU k with req := false, seen := [0, 0, 0, 0, 0] }).trans (State.takeLevel_outside _ k rfl)
  exact .ite (cut.releaseExc k) cut

theorem State.IdStands.excFaultBit (h : s.IdStands t) (k b : Nat) : s.IdStands (t.excFaultBit k b) := by
  have hstat := hardwired_excStat k
  unfold State.excFaultBit
  extract_lets was x s1 s2 s3 s4
  have h2 : s.IdStands s2 := (h.trans (State.setBit_outside _ _ _ _ hstat)).setExc k _
  have h3 : s.IdStands s3 := .ite h2 (h2.emit _ _ _)
  have h4 : s.IdStands s4 := .ite (((h3.raise hstat _).clear hstat _).cutExc k) h3
  exact h4.verifyDriver k

end

theorem excCtrlModeWrite_idStands (s : State) (k : Nat) (v : Word) : s.IdStands (excCtrlModeWrite s k v) := by
  have hstat := hardwired_excStat k
  unfold excCtrlModeWrite
  extract_lets m was s1 s2 s3 s4
  have h1 : s.IdStands s1 := .ite ((State.IdStands.refl s).cutExc k) (.refl s)
  have h2 : s.IdStands s2 := h1.setFld (hardwired_excCtrl k) _ _
  have h3 : s.IdStands s3 := .ite (h2.clear hstat _) h2
  have h4 : s.IdStands s4 := .ite (h3.trans (State.enterAc_outside _ _ rfl)) h3
  exact .ite (.writeAbsent s _ _ _) (.ite ((State.IdStands.refl s).raise hstat _)
    (.ite (h4.trans (State.startRamp_outside _ _ _ ⟨rfl, hardwired_excStat⟩)) (.ite h4 (h4.clear hstat _))))

theorem State.IdStands.excCtrlWrite (s : State) (k : Nat) (v : Word) : s.IdStands (s.excCtrlWrite k v) :=
  have h := excCtrlModeWrite_idStands s k v
  .ite (h.trans (.ite (.writeAbsent _ _ _ _) (.ite (State.excRequest_outside _ _ ⟨rfl, hardwired_excStat⟩) (.refl _)))) h

theorem excRelease_idStands (s : State) (k : Nat) : s.IdStands (excRelease s k) := .ite (.refl s) ((State.IdStands.refl s).releaseExc k)

theorem excFault_idStands (s : State) (k b : Nat) : s.IdStands (excFault s k b) := .ite (.refl s) ((State.IdStands.refl s).excFaultBit k b)

theorem State.IdStands.excHoldRefLow (s : State) (k : Nat) : s.IdStands (s.excHoldRefLow k) := .ite ((State.IdStands.refl s).excFaultBit k 7) (.refl s)

theorem excMonitorSample_idStands (s : State) (k : Nat) (vmon imon : BitVec 16) (limit sense : Bool) :
    s.IdStands (excMonitorSample s k vmon imon limit sense) := by
  unfold excMonitorSample
  extract_lets s1 s2 x seen present s3
  have h3 : s.IdStands s3 := (((State.IdStands.refl s).setReg (hardwired_excMon k) _).setFld (hardwired_excStat k) _ _).setExc k _
  exact .ite (.refl s) (.ite (h3.excFaultBit k 7) (h3.verifyDriver k))

/-! ### Window monitors and hit comparators -/

theorem hasWm_lt {v : Variant} {i : Nat} (h : hasWm v i = true) : i < 72 := by
  unfold hasWm at h
  split at h
  · omega
  · split at h
    · omega
    · exact lt_of_and h

section
variable {i : Nat} (hi : i < 72)
include hi

theorem State.IdStands.wmMove (s : State) (new : Nat) (u : Time) (late : Bool) : s.IdStands (s.wmMove i new u late) := by
  unfold State.wmMove
  extract_lets old s1 s2 s3 x s4 s5 k due mk later s6 s7 s8
  have h3 : s.IdStands s3 :=
    ((((State.IdStands.refl s).setFld (hardwired_wmStat i) _ _).count (hardwired_wmCnt i) _).setReg (hardwired_wmTimeLo hi) _).setReg (hardwired_wmTimeHi hi) _
  have h4 : s.IdStands s4 := h3.trans (State.setWm_outside _ _ _ rfl)
  have h5 : s.IdStands s5 := .ite (h4.trans (State.wakeConverter_outside _ _ rfl)) h4
  have rated : ∀ x, s.IdStands (s5.setRate 0x0210 i x) := fun x => h5.trans (State.setRate_outside _ _ _ _ rfl)
  have h6 : s.IdStands s6 := .ite (.ite ((rated _).trans (State.emitAt_outside _ _ _ _ _ Parts.unwired_emits)) (rated _)) (rated _)
  have h7 : s.IdStands s7 := h6.offerTrigger _ _ _
  have h8 : s.IdStands s8 := .ite (h7.offerStart _ _ _) h7
  exact .ite (h8.trans (State.releaseSource_outside _ _ _ rfl)) h8

theorem State.IdStands.wmReach (s : State) (new : Nat) (u : Time) : s.IdStands (s.wmReach i new u) :=
  .ite (.wmMove hi s _ _ _) (.ite ((State.IdStands.wmMove hi s _ _ _).trans (.wmMove hi _ _ _ _)) (.refl s))

end

theorem wmTransition_idStands (s : State) (i new : Nat) (u : Time) : s.IdStands (wmTransition s i new u) :=
  .iteOf (fun _ => .refl s) fun h =>
    .wmMove (hasWm_lt (true_of_not (not_left_of_not_or (not_left_of_not_or (not_left_of_not_or h))))) s _ _ _

theorem State.IdStands.beginHit {s t : State} (k : s.IdStands t) (h : Nat) (u : Time) (late : Bool) : s.IdStands (t.beginHit h u late) := by
  unfold State.beginHit
  extract_lets awake since x0 x s1 s2 y s3
  have h1 : s.IdStands s1 := ((k.trans (State.setHc_outside _ _ _ rfl)).setFld (hardwired_hcStat h) _ _).trans (State.wAbsorb_outside _ _ rfl)
  have h2 : s.IdStands s2 := .ite (h1.trans (State.wakeConverter_outside _ _ rfl)) h1
  have h3 : s.IdStands s3 := .ite (h2.trans (State.setWch_outside _ _ _ rfl)) h2
  exact (h3.offerTrigger _ _ _).offerStart _ _ _

theorem hcCrossing_idStands (s : State) (h : Nat) (x : Crossing) : s.IdStands (hcCrossing s h x) := by
  have same := State.IdStands.refl s
  refine .ite same ?_
  extract_lets u w locked
  have counted : s.IdStands locked := same.count (hardwired_hcLockCnt h) _
  split
  · exact same.beginHit _ _ _
  · exact .ite ((State.IdStands.trans (State.setHc_outside _ _ _ rfl) (State.wAbsorb_outside _ _ rfl))) (.ite counted
      (State.IdStands.beginHit (State.endHit_outside _ _ _ _ ⟨Parts.unwired_emits, rfl, hardwired_hcHitCnt, rfl, hardwired_hcStat⟩) _ _ _))
  · exact .ite counted (same.beginHit _ _ _)

theorem syncInEdge_idStands (s : State) (u : Time) (rising : Bool) : s.IdStands (syncInEdge s u rising) :=
  .ite (((State.IdStands.refl s).offerTrigger _ _ _).offerStart _ _ _) (.refl s)

theorem State.IdStands.setCompFlag {s t : State} (k : s.IdStands t) (u : Nat) (live b : Bool) : s.IdStands (t.setCompFlag u live b) :=
  k.trans (t.setCompFlag_outside _ _ _ ⟨hardwired_hcStat, hardwired_wmStat⟩)

theorem compTestRelease_idStands (s : State) (u : Nat) (failed : Option Nat) (t : Time) (differs : Option Nat) :
    s.IdStands (compTestRelease s u failed t differs) := by
  unfold compTestRelease
  extract_lets c early s1 s2 s3 s4 s5
  refine .ite (.refl s) ?_
  have h1 : s.IdStands s1 := State.setCompTest_outside _ _ _ ⟨rfl, rfl⟩
  have h2 : s.IdStands s2 := h1.setCompFlag _ _ _
  have h3 : s.IdStands s3 := .ite (h2.setCompFlag _ _ _) h2
  have h4 : s.IdStands s4 := by
    cases failed with
    | none => exact h2
    | some step => exact .ite (h3.emit _ _ _) h3
  have h5 : s.IdStands s5 := h4.trans (State.compTested_outside _ _ _ ⟨Parts.unwired_emits, rfl, rfl, rfl, hardwired_fpUtil, rfl, rfl, rfl, rfl, rfl, rfl, rfl,
    rfl, rfl, rfl, rfl, rfl, rfl, rfl, rfl, rfl⟩)
  cases differs with
  | none => exact h5
  | some new => exact .iteOf (fun h => h5.trans (.wmReach h _ _ _)) fun _ => .ite (h5.beginHit _ _ _) h5

theorem wmTimeLoRead_idStands (s : State) (who : Reader) (i : Nat) : s.IdStands (wmTimeLoRead s who i) :=
  .ite (State.returns_outside _ _ _ _ rfl) (State.IdStands.trans (State.setWm_outside _ _ _ rfl) (State.returns_outside _ _ _ _ rfl))

theorem wmTimeHiRead_idStands (s : State) (who : Reader) (i : Nat) : s.IdStands (wmTimeHiRead s who i) := State.returns_outside _ _ _ _ rfl

/-! ### Nodes -/

theorem State.IdStands.setNode {s t : State} (h : s.IdStands t) (i : Nat) (x : NodeSt) : s.IdStands (t.setNode i x) := h.trans (t.setNode_outside i x rfl)

theorem State.IdStands.updInv {s t : State} (h : s.IdStands t) (i num : Nat) (f : Inv → Inv) : s.IdStands (t.updInv i num f) :=
  h.trans (t.updInv_outside _ _ _ rfl)

theorem State.IdStands.nodeRaises (s : State) (num : Nat) (t : Time) (mask : Bool) : s.IdStands (s.nodeRaises num t mask) := by
  have raised := State.IdStands.foldl (f := fun (s : State) (tr : Trigger) => s.raiseTrigger tr t) (l := s.triggers.filter fun tr => tr.num == num)
    (fun u _ _ => u.raiseTrigger_outside _ _ ⟨Parts.unwired_emits, rfl, hardwired_excStat, rfl, rfl, rfl, hardwired_fpUtil, rfl, rfl, rfl, rfl, rfl, rfl,
      rfl, rfl, rfl, rfl, rfl, rfl, rfl⟩) s
  exact .ite (raised.offerStart _ _ _) raised

theorem State.IdStands.completeInv {s t : State} (h : s.IdStands t) (i : Nat) (d : NodeDef) (v : Inv) (c : Nat) : s.IdStands (t.completeInv i d v c) := by
  unfold State.completeInv
  extract_lets x took o s1 s2 s3 s4 s5 s6 p s7 s8 s9
  have h1 : s.IdStands s1 := (h.setNode i _).trans (State.writeRegion_outside _ _ _ _ ⟨rfl, rfl, rfl, hardwired_eccRemap, rfl, rfl⟩)
  have h2 : s.IdStands s2 := (h1.trans (State.workEnded_outside _ rfl)).updInv _ _ _
  have h3 : s.IdStands s3 := h2.trans (.foldl (fun t _ _ => t.emitAt_outside _ _ _ _ Parts.unwired_emits) _)
  have h4 : s.IdStands s4 := h3.trans (.foldl (fun t _ _ => .nodeRaises t _ _ _) _)
  have h5 : s.IdStands s5 := h4.trans (.foldl (fun t _ _ => t.nodeFrees_outside _ rfl) _)
  have h6 : s.IdStands s6 := .ite (h5.trans (State.class1Done_outside _ _ _ _ ⟨rfl, rfl⟩)) h5
  have h7 : s.IdStands s7 := .ite (h6.trans (State.outside_pacer rfl _ _)) h6
  have h8 : s.IdStands s8 := h7.trans (State.uncharge_outside _ _ _ rfl)
  have h9 : s.IdStands s9 := .ite (h8.trans (State.dueTests_outside _ _ rfl)) h8
  exact (h9.trans (State.settleNode_outside _ _ _ ⟨rfl, rfl, rfl, rfl, rfl⟩)).trans
    (State.pacerAdmit_outside _ ⟨Parts.unwired_emits, rfl, rfl, rfl, rfl, rfl, rfl, rfl, rfl⟩)

theorem State.IdStands.endInv {s t : State} (h : s.IdStands t) (i : Nat) (d : NodeDef) (v : Inv) (c : Nat) (differs : Option Nat) :
    s.IdStands (t.endInv i d v c differs) := by
  unfold State.endInv
  extract_lets v' s1 s2
  have h1 : s.IdStands s1 := h.updInv _ _ _
  have h2 : s.IdStands s2 := .ite (h1.trans (State.class1Poison_outside _ _ _ ⟨Parts.unwired_emits, rfl, rfl, rfl, hardwired_fpUtil, rfl, rfl, rfl, rfl, rfl,
    rfl, rfl, rfl, rfl, rfl, rfl, rfl, rfl⟩)) h1
  refine .ite h1 ?_
  cases (if d.cls = 1 then differs else none) with
  | none => exact h2.completeInv i d v' c
  | some idx => exact h2.trans (State.mismatch_outside _ _ _ _ _ _ ⟨Parts.unwired_emits, rfl, rfl, rfl, rfl, rfl, rfl, rfl, hardwired_fpUtil, rfl, rfl, rfl,
      rfl, rfl, rfl, rfl, rfl, rfl, rfl, rfl, rfl, rfl, rfl, rfl, rfl, rfl, rfl, rfl⟩)

theorem invocationDone_idStands (s : State) (c cycles : Nat) (differs : Option Nat) : s.IdStands (invocationDone s c cycles differs) := by
  refine .ite (.refl s) ?_
  have idle : s.IdStands ((s.countBusy c cycles).setFld (Reg.CL_STAT c) Fld.CL_STAT_STATE clIdle) :=
    State.IdStands.setFld (State.countBusy_outside _ _ _ ⟨rfl, hardwired_clCyc⟩) (hardwired_clStat c) _ _
  rcases s.runningInv c with _ | ⟨i, d, v⟩
  · exact idle
  · exact .ite (clusterFault_outside _ _ _ ⟨Parts.unwired_emits, rfl, rfl, rfl, hardwired_clCuse, rfl, hardwired_clCyc, rfl, hardwired_clLoad, rfl,
      hardwired_clStat, rfl, hardwired_clWmax, rfl, hardwired_clXyuse, rfl, rfl, rfl, rfl, hardwired_fpUtil, rfl, rfl, rfl, rfl, rfl, rfl, rfl⟩)
      ((idle.setNode i _).endInv i d v c differs)

/-! ### W-channels, DRAM ports, alarm configuration and PACER -/

theorem State.IdStands.wOverrange {s t : State} (h : s.IdStands t) {n : Nat} (hn : n < 8) (ovr neg : Bool) : s.IdStands (t.wOverrange n ovr neg) := by
  have hstat := hardwired_wchStat n
  unfold State.wOverrange
  extract_lets w s1 s2 s3
  have h3 : s.IdStands s3 := ((h.setLive hstat _ _ _).count (hardwired_wchOvrCnt hn) _).trans (State.setWch_outside _ _ _ rfl)
  exact .ite (.ite h3 (h3.trans (State.emitLimited_outside _ _ _ _ _ _ _ _ ⟨Parts.unwired_emits, rfl⟩)))
    ((h.clear hstat _).trans (State.setWch_outside _ _ _ rfl))

theorem nativeSample_idStands (s : State) (n : Nat) (r : BitVec 20) : s.IdStands (nativeSample s n r) := by
  refine .iteOf (fun _ => .refl s) fun h => ?_
  have hn : n < 8 := lt_of_and (true_of_not (not_left_of_not_or (not_left_of_not_or h)))
  extract_lets w k y refOut p val s1 ovr bad x s2
  have h1 : s.IdStands s1 := .ite (State.freeNat_outside _ _ rfl) (.refl s)
  have h2 : s.IdStands s2 := h1.trans (State.setWch_outside _ _ _ rfl)
  exact ((h2.wOverrange hn _ _).trans (State.wFeedHit_outside _ _ _ rfl)).trans (State.wOutput_outside _ _ ⟨Parts.unwired_emits, rfl, rfl, rfl,
    hardwired_fpUtil, rfl, rfl, rfl, rfl, rfl, rfl, rfl, hardwired_resOvcnt, rfl, rfl, rfl, rfl, rfl, rfl, rfl, rfl, rfl, rfl, rfl, rfl, rfl, rfl, rfl⟩)

theorem wchCfgWrite_idStands (s : State) (n : Nat) (v : Word) : s.IdStands (wchCfgWrite s n v) := by
  refine .iteOf (fun _ => .writeAbsent s _ _ _) fun h => ?_
  have hn : n < 8 := lt_of_and (true_of_not h)
  extract_lets a old three rej used s1 new s2 y s3
  have h1 : s.IdStands s1 := (State.IdStands.refl s).writeJudged (hardwired_wchCfg n) (hardwired_wchStat n) _ _ _ _
  have h3 : s.IdStands s3 := .ite h1 (((h1.setFld (hardwired_wchDelay hn) _ _).trans (State.setWch_outside _ _ _ rfl)).trans
    (State.wRestart_outside _ _ ⟨rfl, rfl, rfl, rfl⟩))
  exact .ite (h3.trans (State.wSleep_outside _ _ ⟨rfl, hardwired_wchStat, rfl⟩)) h3

theorem drcPortTgtWrite_idStands (s : State) (p : Nat) (v : Word) : s.IdStands (drcPortTgtWrite s p v) :=
  .iteOf (fun _ => .refl s) fun h => (State.IdStands.refl s).writeJudged (hardwired_drcPortTgt (Nat.lt_of_not_le h)) rfl _ _ _ _

theorem hardwired_almReg : ∀ n < 4, ∀ i < 4, hardwired (almReg n i) = false := by
  decide +kernel

theorem safAlmCfgWrite_idStands (s : State) (n i : Nat) (v : Word) : s.IdStands (safAlmCfgWrite s n i v) :=
  .iteOf (fun _ => .refl s) fun h =>
    have hreg := hardwired_almReg n (Nat.lt_of_not_le fun hn => h (.inl hn)) i (Nat.lt_of_not_le fun hi => h (.inr hi))
    .ite (((State.IdStands.refl s).setReg hreg _).trans (State.almChanged_outside _ ⟨Parts.unwired_emits, rfl, rfl, rfl, hardwired_fpUtil, rfl, rfl, rfl, rfl,
      rfl, rfl, rfl, rfl, rfl, rfl, rfl, rfl, rfl, rfl, rfl, rfl, rfl, rfl⟩)) ((State.IdStands.refl s).raise (a := Reg.SAF_STAT) rfl _)

theorem pacerEvaluate_idStands (s : State) (energy : List Nat) (tj : BitVec 16) : s.IdStands (pacerEvaluate s energy tj) := by
  unfold pacerEvaluate
  extract_lets e s1 s2
  have h1 : s.IdStands s1 := State.IdStands.trans (State.setTj_outside _ _ rfl)
    (.foldl (fun t _ hx => (State.IdStands.refl t).setReg (hardwired_pacerE (List.mem_range.1 hx)) _) _)
  have h2 : s.IdStands s2 := (h1.trans (State.chargeWindow_outside _ _ _ rfl)).trans (State.judgeOver_outside _ ⟨Parts.unwired_emits, rfl, rfl⟩)
  have h3 := h2.trans (State.judgeTemp_outside _ ⟨Parts.unwired_emits, rfl, hardwired_clCyc, rfl, hardwired_clStat, rfl, rfl, rfl, hardwired_fpUtil, rfl, rfl,
    rfl, rfl, rfl, rfl, rfl, rfl, rfl, rfl, rfl, rfl⟩)
  have h4 := h3.trans (State.pacerAdmit_outside _ ⟨Parts.unwired_emits, rfl, rfl, rfl, rfl, rfl, rfl, rfl, rfl⟩)
  exact (h4.trans (burstExhausted_outside _ ⟨Parts.unwired_emits, rfl, rfl, rfl, rfl⟩)).trans (State.pacerChange_outside _ ⟨rfl, rfl⟩)

end Sys2Proof.Machine
end

section
set_option Elab.async false
/-!
PROOF. No step changes an identity register (O8): reads and writes of BAR0.
-/
namespace Sys2Proof.Machine

/-- The state holds the factory values `f`, and its wired registers read what they give. -/
def State.Fused (s : State) (f : Factory) : Prop := s.fac = f ∧ ∀ a, hardwired a = true → s.reg a = regReset f a

section
variable {s t : State} {f : Factory}

theorem State.identityKept.fused (hs : s.identityKept) : s.Fused s.fac := ⟨rfl, hs⟩

theorem State.WiredKept.fused (h : s.WiredKept t) (hs : s.Fused f) : t.Fused f :=
  ⟨h.2.trans hs.1, fun a ha => (h.1 a ha).trans (hs.2 a ha)⟩

theorem State.IdStands.fused (h : s.IdStands t) (hs : s.Fused f) : t.Fused f := h.wiredKept.fused hs

theorem State.Fused.ite {c : Prop} [Decidable c] (h : s.Fused f) (k : t.Fused f) : (if c then s else t).Fused f := by
  split
  · exact h
  · exact k

theorem State.IdStands.reachAt (s : State) (off : Nat) : s.IdStands (s.reachAt off) :=
  s.reachAt_outside _ ⟨Parts.unwired_emits, rfl, rfl, rfl, rfl, rfl, rfl, rfl, rfl, rfl, hardwired_clStat, rfl, rfl, rfl, rfl, rfl, rfl, rfl, rfl, rfl, rfl, rfl, rfl, rfl,
    rfl, hardwired_eccRemap, rfl, rfl, rfl, hardwired_fpStat, rfl⟩

end

/-! ### Reads -/

theorem State.IdStands.readReg (s : State) (who : Reader) (off : Nat) : s.IdStands (s.readReg who off).2 := by
  cases hw : hardwired off with
  | false =>
    exact State.readReg_outside _ _ _ hw ⟨Parts.unwired_emits, rfl, rfl, rfl, rfl, rfl, rfl, rfl, rfl, rfl, rfl, rfl, hardwired_clStat, rfl, rfl, rfl,
      hardwired_drcPortStat, rfl, rfl, rfl, rfl, rfl, rfl, rfl, rfl, rfl, rfl, rfl, rfl, rfl, rfl, hardwired_eccRemap, rfl, rfl, rfl, rfl, rfl, hardwired_fpStat,
      hardwired_fpUtil, rfl, rfl, rfl⟩
  | true =>
    have same := State.IdStands.refl s
    unfold State.readReg
    refine .iteSnd same (.iteSnd same (.iteSnd same (.iteSnd same ?_)))
    rcases blockAt off with _ | ⟨b, i⟩
    · exact same
    dsimp -zeta only
    extract_lets rel t
    cases regAt b rel with
    | none => exact .reachAt s off
    | some d => exact (congrArg (fun p : Nat × State => s.IdStands p.2) (if_pos hw)).mpr (.reachAt s off)

theorem State.IdStands.readAccess (s : State) (who : Reader) (off size : Nat) : s.IdStands (s.readAccess who off size).2 :=
  have first := State.IdStands.readReg s who
  .iteSnd (.iteSnd (first off) ((first off).trans (.readReg _ _ _))) (.iteSnd (first _) (State.freeNat_outside _ _ rfl))

theorem readClear_idStands (s : State) (who : Reader) (off size : Nat) : s.IdStands (readClear s who off size) :=
  (State.IdStands.readAccess s who off size).trans (State.returns_outside _ _ _ _ rfl)

theorem State.IdStands.remoteAccess (s : State) (src : CmdSrc) (op tag target size : Nat) (pk : Packet) : s.IdStands (s.remoteAccess src op tag target size pk) :=
  s.remoteAccess_outside _ _ _ _ _ _ ⟨rfl, rfl, rfl, hardwired_fpUtil, rfl, rfl, rfl, rfl⟩

theorem regRead_idStands (s : State) (src : CmdSrc) (tag target size off : Nat) : s.IdStands (regRead s src tag target size off) :=
  have same := State.IdStands.refl s
  .ite (same.settle _ _ _ _) (.ite (.remoteAccess _ _ _ _ _ _ _) (.ite (same.settle _ _ _ _) ((State.IdStands.readAccess s _ off _).settle _ _ _ _)))

theorem State.IdStands.inject (s : State) (pk : Packet) : s.IdStands (s.inject pk) := s.inject_outside _ ⟨rfl, rfl, rfl, hardwired_fpUtil⟩

theorem State.IdStands.answer {s t : State} (h : s.IdStands t) (from_ tag : Nat) (pk : Packet) : s.IdStands (t.answer from_ tag pk) :=
  h.trans (t.answer_outside _ _ _ ⟨rfl, rfl, rfl, hardwired_fpUtil, rfl⟩)

theorem State.IdStands.readPacket (s : State) (pk : Packet) : s.IdStands (s.readPacket pk).2 := by
  have same := State.IdStands.refl s
  unfold State.readPacket State.readRegs
  exact .iteSnd (State.readDram_outside _ _ ⟨Parts.unwired_emits, rfl, rfl, rfl, rfl, rfl, rfl, rfl, rfl, hardwired_eccRemap, rfl, rfl, rfl⟩) (.iteSnd same
    (.iteSnd (.iteSnd same (.iteSnd same (.readAccess s _ _ _))) (.iteSnd same same)))

theorem readPacketRx_idStands (s : State) (pkt : Packet) : s.IdStands (readPacketRx s pkt) := by
  unfold readPacketRx
  cases s.keptAnswer pkt.src pkt.tag with
  | some a => exact .inject s a
  | none => exact (State.IdStands.readPacket s pkt).answer _ _ _

/-! ### Writes by access type -/

/-- Whether a write of the register at `off` stores nothing. -/
noncomputable def storesNothing (off : Nat) : Bool := (descAt off).all fun p => p.1.rw == 0 && p.1.w1c == 0

theorem storesNothing_below : ∀ off < 0x40, storesNothing off = true := by
  decide +kernel

theorem storesNothing_singles : ∀ off ∈ wiredSingles, storesNothing off = true := by
  decide +kernel

theorem descAt_of {off i : Nat} {b : RegBlock} {d : RegDesc} (hb : blockAt off = some (b, i)) (hd : regAt b ((off - b.base) % b.stride) = some d) :
    descAt off = some (d, i) := by
  rw [descAt, hb]
  show Option.map _ (regAt b _) = _
  rw [hd]; rfl

/-- No write stores anything in a wired register. -/
theorem readOnly_of_hardwired {off i : Nat} {b : RegBlock} {d : RegDesc} (hb : blockAt off = some (b, i))
    (hd : regAt b ((off - b.base) % b.stride) = some d) (h : hardwired off = true) : d.rw = 0 ∧ d.w1c = 0 := by
  have nothing (hn : storesNothing off = true) : d.rw = 0 ∧ d.w1c = 0 := by
    rw [storesNothing, descAt_of hb hd] at hn
    obtain ⟨hrw, hw1c⟩ := Bool.and_eq_true_iff.1 hn
    exact ⟨beq_iff_eq.1 hrw, beq_iff_eq.1 hw1c⟩
  unfold hardwired at h
  rw [hb] at h
  simp only [hd, Bool.or_eq_true, Bool.and_eq_true, decide_eq_true_eq, beq_iff_eq] at h
  rcases h with ((((h | rfl) | rfl) | rfl) | rfl) | ⟨⟨⟨_, hrw⟩, hw1c⟩, _⟩
  · exact nothing (storesNothing_below off h)
  · exact nothing (storesNothing_singles _ (by decide))
  · exact nothing (storesNothing_singles _ (by decide))
  · exact nothing (storesNothing_singles _ (by decide))
  · exact nothing (storesNothing_singles _ (by decide))
  · exact ⟨hrw, hw1c⟩

/-- No register that records a refused configuration is wired. -/
theorem cfgRejOf_spared {k : UnitKind} {i : Nat} (rel : Nat) (hi : k = .eq → i < 4) : (cfgRejOf k i rel).all (fun p => !hardwired p.1) = true := by
  cases k
  case pch => exact congrArg not (hardwired_pchStat i)
  case exc => exact congrArg not (hardwired_excStat i)
  case bank => exact congrArg not (hardwired_bankStat i)
  case wch => exact congrArg not (hardwired_wchStat i)
  case wm => exact congrArg not (hardwired_wmStat i)
  case hc => exact congrArg not (hardwired_hcStat i)
  case hr => exact congrArg not (hardwired_hrStat i)
  case eq => exact congrArg not (hardwired_eqStat (hi rfl))
  case cmp | hif => dsimp only [cfgRejOf]; split <;> rfl
  case eng | drc | drcport | ecc | mode | clk | saf | alm | dev | msix | pba | snp | boot | cal | cl | engwin | res | str | fab | fp => rfl

theorem kept_of_noBits (w rej v : Word) : (w &&& ~~~(BitVec.ofNat 32 0 &&& ~~~rej)) ||| (v &&& (BitVec.ofNat 32 0 &&& ~~~rej)) = w := by
  rw [BitVec.zero_and, BitVec.and_zero, BitVec.or_zero, BitVec.not_zero, BitVec.and_allOnes]

theorem kept_of_noOnes (w v : Word) : w &&& ~~~(v &&& BitVec.ofNat 32 0) = w := by
  rw [BitVec.and_zero, BitVec.not_zero, BitVec.and_allOnes]

theorem State.IdStands.noteLate (s : State) (a : Nat) (mask : Word) : s.IdStands (s.noteLate a mask) := State.noteLate_outside s _ _ ⟨rfl, rfl⟩

theorem State.WiredKept.setSame {s t : State} (h : s.WiredKept t) {a : Nat} {w : Word} (hw : w = s.reg a) : s.WiredKept (t.setReg a w) := by
  refine ⟨fun c hc => ?_, h.2⟩
  rw [State.reg_setReg]
  split
  next he => rw [hw, he]
  · exact h.1 c hc

theorem eqBlock_count : ∀ b ∈ blocks, b.kind = .eq → b.count ≤ 4 := by
  decide +kernel

section
variable {s : State} {off i : Nat} {b : RegBlock} {d : RegDesc} (hb : blockAt off = some (b, i)) (hd : regAt b ((off - b.base) % b.stride) = some d)
include hb hd

theorem State.WiredKept.typedWrite (v : Word) : s.WiredKept (s.typedWrite b.kind i ((off - b.base) % b.stride) off d v) := by
  unfold State.typedWrite
  extract_lets rej s1
  have h1 : s.WiredKept s1 := by
    cases hw : hardwired off with
    | false => exact (((State.IdStands.noteLate s _ _).setReg hw _).setReg hw _).wiredKept
    | true =>
      obtain ⟨hrw, hw1c⟩ := readOnly_of_hardwired hb hd hw
      have written : s.WiredKept (s.writeBits off (BitVec.ofNat 32 d.rw) rej v) := (State.IdStands.noteLate s _ _).wiredKept.setSame (by rw [hrw]; exact kept_of_noBits _ _ _)
      exact written.setSame (by rw [written.1 off hw, hw1c]; exact kept_of_noOnes _ _)
  split
  · exact h1
  · obtain ⟨hmem, hi, -⟩ := blockAt_mem hb
    have spared := cfgRejOf_spared (k := b.kind) (i := i) ((off - b.base) % b.stride) fun hk => Nat.lt_of_lt_of_le hi (eqBlock_count b hmem hk)
    cases hrej : cfgRejOf b.kind i ((off - b.base) % b.stride) with
    | none => exact h1
    | some p =>
      rw [hrej] at spared
      exact h1.trans ((State.IdStands.refl s1).raise (Bool.not_inj spared) p.2).wiredKept

end

end Sys2Proof.Machine
end

section
set_option Elab.async false
/-!
PROOF. No step changes an identity register (O8): register writes, the image, resets and the starts of BOOT.
-/
namespace Sys2Proof.Machine

/-! ### Resets and the starts of BOOT -/

theorem Store.get_filter {α : Type} (d : Nat → α) (f : Nat → Bool) (m : Store α) (k : Nat) :
    Store.get d (m.filter fun e => f e.1) k = if f k then Store.get d m k else d k := by
  split
  next hk => rw [Store.get, Store.find_filter _ k (fun _ => hk), Store.get]
  next hk =>
    have none : Store.find (m.filter fun e => f e.1) k = none := by
      induction m with
      | nil => rfl
      | cons e m ih =>
        by_cases he : f e.1
        · rw [List.filter_cons, if_pos he, Store.find, if_neg fun hek : e.1 = k => hk (hek ▸ he)]
          exact ih
        · rw [List.filter_cons, if_neg he]
          exact ih
    rw [Store.get, none]; rfl

theorem State.Fused.warmReset {s : State} {f : Factory} (hs : s.Fused f) (keepLink : Bool) : (s.warmReset keepLink).Fused f := by
  unfold State.warmReset
  extract_lets aon link host boot t since t'
  have ht : t'.Fused f := by
    obtain ⟨rfl, hregs⟩ := hs
    refine ⟨rfl, fun a ha => ?_⟩
    show Store.get (regReset s.fac) (s.regs.filter fun e => (descAt e.1).any fun d => d.1.aon) a = regReset s.fac a
    rw [Store.get_filter _ (fun a => (descAt a).any fun d => d.1.aon)]
    split
    · exact hregs a ha
    · rfl
  have written : t'.IdStands ((t'.setReg Reg.HIF_STAT link).setReg Reg.SAF_SUP (s.reg Reg.SAF_SUP)) := ((State.IdStands.refl t').setReg rfl _).setReg rfl _
  exact ((written.trans (State.setLog_outside _ _ ⟨rfl, rfl⟩)).trans (State.showRemap_outside _ ⟨hardwired_eccRemap, rfl⟩)).fused ht

theorem State.Fused.bootu {s : State} {f : Factory} (hs : s.Fused f) (x : BootUnit) : { s with bootu := x }.Fused f :=
  State.IdStands.fused (State.outside_bootu rfl s x) hs

theorem State.Fused.pins {s : State} {f : Factory} (hs : s.Fused f) (x : Pins) : { s with pins := x }.Fused f :=
  State.IdStands.fused (State.outside_pins rfl s x) hs

theorem State.Fused.beginBoot {s : State} {f : Factory} (hs : s.Fused f) (cause : Nat) : (s.beginBoot cause).Fused f :=
  State.IdStands.fused (State.IdStands.setFld (State.outside_bootu rfl s _) (a := Reg.BOOT_STAT) rfl _ _) hs

theorem State.Fused.freeMc {s : State} {f : Factory} (hs : s.Fused f) : s.freeMc.Fused f :=
  State.IdStands.fused (State.IdStands.clear (State.outside_bootu rfl s _) (a := Reg.MC_WDOG) rfl _) hs

theorem State.coldReset_fused (s : State) : s.coldReset.Fused s.fac := ⟨rfl, fun a _ => by
  show Store.get (regReset s.fac) [] a = regReset s.fac a
  rfl⟩

theorem perstNAssert_fused {s : State} {f : Factory} (hs : s.Fused f) : (perstNAssert s).Fused f := by
  refine .ite hs ?_
  extract_lets b s1 s2
  have h1 : s1.Fused f := hs.bootu _
  exact .ite h1 ((h1.warmReset false).freeMc.bootu _)

theorem jtagExtest_fused {s : State} {f : Factory} (hs : s.Fused f) (on : Bool) (levels : List Bool) : (jtagExtest s on levels).Fused f := by
  unfold jtagExtest
  extract_lets b s1 p
  have held : s1.Fused f := .ite hs ((hs.bootu _).1 ▸ State.coldReset_fused _)
  refine .ite (held.pins _) (.ite ?_ hs)
  have left := (hs.bootu { b with jtagHold := false }).pins { p with jtagSafe := none }
  exact .ite left (left.beginBoot _)

theorem bootRetry_fused {s : State} {f : Factory} (hs : s.Fused f) : (bootRetry s).Fused f := .ite ((hs.warmReset true).freeMc.beginBoot 3) hs

theorem reload_fused {s : State} {f : Factory} (hs : s.Fused f) (src : CmdSrc) (tag : Nat) : (reload s src tag).Fused f := by
  have settled := ((State.IdStands.refl s).settle src 0x0003 tag { status := stOk }).fused hs
  refine .ite hs ?_
  cases src with
  | ring => exact settled
  | remote _ => exact (settled.warmReset true).beginBoot 2

theorem completion_fused {s : State} {f : Factory} (hs : s.Fused f) : (completion s).Fused f := by
  unfold completion
  rcases s.host.inflight with _ | ⟨e, rest⟩
  · exact hs
  dsimp -zeta only
  split
  next c q hc hq =>
    extract_lets recs t n t1 t2
    have hlt := State.canWrite_lt hq
    have h1 : s.IdStands t1 := State.IdStands.trans (s.setInflight_outside _ ⟨rfl, rfl⟩) (.foldl (fun u _ _ => .putWithOrigin hlt u _) _)
    have h2 : s.IdStands t2 := (h1.count (a := Reg.HIF_CMD_CNT) rfl _).trans (.checkResume hlt _)
    exact .ite hs (.ite (((h2.fused hs).warmReset true).beginBoot 2) (h2.fused hs))
  · exact hs

/-! ### Register writes -/

theorem modeBlock_base : ∀ b ∈ blocks, b.kind = .mode → b.base = 0x1000 ∧ b.stride = 0x1000 ∧ b.count = 1 := by
  decide +kernel

theorem almBlock_base : ∀ b ∈ blocks, b.kind = .alm → b.base = 0x3100 ∧ b.stride = 0x20 ∧ b.count = 4 := by
  decide +kernel

/-- Registers of the alarm outputs are not wired. -/
theorem hardwired_alm {j : Nat} (hj : j < 0x80) : hardwired (0x3100 + j) = false := by
  have apart := hardwired_seriesTo (b := 0x3100) (k := 1) rfl hj
  rwa [Nat.one_mul] at apart

theorem State.Fused.bootCtrlWrite {s : State} {f : Factory} (hs : s.Fused f) (v : Word) : (s.bootCtrlWrite v).Fused f :=
  have released := State.IdStands.fused (flReleaseWrite_outside s _ rfl) hs
  .ite (bootRetry_fused released) released

theorem State.IdStands.budgetWrite (s : State) {off : Nat} (h : hardwired off = false) (v : Word) : s.IdStands (s.budgetWrite off v) :=
  (State.IdStands.trans ((State.IdStands.refl s).setReg h v) (State.outside_pacer rfl _ _)).trans (State.showPacer_outside _ ⟨rfl, rfl, rfl, rfl⟩)

theorem State.unitWrite_fused {s : State} {off i : Nat} {b : RegBlock} {d : RegDesc} {f : Factory} (hs : s.Fused f) (who : Reader)
    (hb : blockAt off = some (b, i)) (hd : regAt b ((off - b.base) % b.stride) = some d) (v : Word) :
    (s.unitWrite who b.kind i ((off - b.base) % b.stride) off d v).Fused f := by
  have budget : b.kind = .mode → (off - b.base) % b.stride = 0x104 ∨ (off - b.base) % b.stride = 0x108 → hardwired off = false := by
    intro hk hrel
    obtain ⟨hmem, -, hlo, hhi⟩ := blockAt_mem hb
    obtain ⟨hbase, hstride, hcount⟩ := modeBlock_base b hmem hk
    rw [hbase, hstride] at hrel
    rw [hbase, hstride, hcount] at hhi
    obtain ⟨j, rfl⟩ := Nat.exists_eq_add_of_le (hbase ▸ hlo)
    rw [Nat.add_sub_cancel_left, Nat.mod_eq_of_lt (Nat.lt_of_add_lt_add_left hhi)] at hrel
    rcases hrel with rfl | rfl <;> rfl
  have ht := (State.WiredKept.typedWrite hb hd v).fused hs
  unfold State.unitWrite
  extract_lets t u w
  change t.Fused f at ht
  have via : ∀ {u}, s.IdStands u → u.Fused f := fun h => h.fused hs
  have thru : ∀ {u}, t.IdStands u → u.Fused f := fun h => h.fused ht
  have latched : ∀ r l, (s.setLatch r who l).Fused f := fun r l => via (s.setLatch_outside _ _ _ rfl)
  generalize (off - b.base) % b.stride = rel at *
  generalize b.kind = k at *
  cases k <;> dsimp -zeta only
  case pch =>
    refine .ite (via (pchCfgWrite_outside _ _ _ ⟨Parts.unwired_emits, rfl, rfl, rfl, rfl, rfl, rfl, rfl, hardwired_fpUtil, rfl, rfl, rfl, rfl, rfl, rfl, rfl,
      hardwired_pchCfg, rfl, hardwired_pchStat, rfl, rfl, rfl, rfl, rfl, rfl, rfl, rfl⟩)) (.ite (via (pchFmtWrite_idStands s i v))
      (.ite (via (pchFusCfgWrite_idStands s i v)) (.ite (via (pchPlausThWrite_outside _ _ _ ⟨rfl, rfl, rfl, rfl, rfl, hardwired_pchPlausTh⟩))
      (.ite (via (pchStaticCfgWrite_idStands s i v)) (.ite (via (pchStaticTimeWrite_outside _ _ _ ⟨Parts.unwired_emits, rfl, rfl, rfl, rfl, rfl, hardwired_pchFltStat,
        rfl, hardwired_pchStat, ?_, rfl⟩)) (.ite (via (pchMtrkWrite_outside _ _ _ ⟨Parts.unwired_emits, rfl, rfl, rfl, rfl, rfl,
        hardwired_pchMainsPer, ?_⟩)) (.ite (via (pchSeisCfgWrite_idStands s i v)) ht)))))))
    · exact hardwired_series (b := 0x10044) (k := 0x100) (by decide +kernel)
    · exact hardwired_series (b := 0x10048) (k := 0x100) (by decide +kernel)
  case exc =>
    exact .ite (via (.excCtrlWrite s i v)) (.ite (via (excLevelWrite_outside _ _ _ ⟨rfl, rfl, rfl, hardwired_excLevel, hardwired_excStat⟩))
      (.ite (thru (State.excTimerWritten_outside _ _ rfl)) (.ite (thru (.excHoldRefLow t i)) ht)))
  case bank => exact .ite (via (bankCfgWrite_idStands s i _ v)) ht
  case cal => exact .ite (latched _ _) ht
  case wch => exact .ite (via (wchCfgWrite_idStands s i v)) (.ite (thru (State.startTimerWritten_outside _ _ rfl)) ht)
  case wm =>
    have written : ∀ th, (wmCfgWrite s i th v).Fused f := fun th => via (wmCfgWrite_outside _ _ _ _ ⟨Parts.unwired_emits, rfl, rfl, rfl, rfl, rfl, rfl, rfl,
      hardwired_fpUtil, rfl, rfl, rfl, rfl, rfl, rfl, rfl, rfl, rfl, rfl, rfl, rfl, rfl, rfl, rfl, rfl, rfl, hardwired_wmCfg, hardwired_wmStat, hardwired_wmTh⟩)
    exact .ite (written _) (.ite (written _) ht)
  case hc =>
    have enabled : t.IdStands u := .ite (State.hcEnabled_outside _ _ _ rfl) (.refl t)
    exact .ite (thru ((enabled.trans (State.showBase_outside _ _ hardwired_hcBase)).trans (State.verifyW_outside _ _ ⟨Parts.unwired_emits, rfl, rfl, rfl, hardwired_fpUtil, rfl, rfl, rfl, rfl, rfl, rfl, rfl, rfl, rfl, rfl, rfl, rfl, rfl, rfl, rfl, rfl⟩)))
      (thru enabled)
  case cmp => exact .ite (thru (State.IdStands.refl t).verifyAll) ht
  case cl =>
    have tested : s.IdStands w := .ite (clCtrlTest_outside _ _ ⟨rfl, hardwired_clCtrl, rfl, rfl⟩) (.refl s)
    exact .ite (via (.ite (tested.trans (clCtrlOffline_outside _ _ ⟨Parts.unwired_emits, rfl, rfl, rfl, hardwired_clCtrl, rfl, hardwired_clCuse, rfl, hardwired_clCyc,
      rfl, hardwired_clLoad, rfl, hardwired_clStat, rfl, hardwired_clWmax, rfl, hardwired_clXyuse, rfl, rfl, rfl, rfl, rfl, hardwired_fpUtil, rfl, rfl, rfl, rfl,
      rfl, rfl, rfl⟩)) tested)) ht
  case engwin | str => exact .ite (latched _ _) ht
  case hr =>
    exact .ite (via (hrCfgEnable_outside _ _ _ ⟨rfl, rfl, rfl, rfl, rfl, rfl, rfl, hardwired_fpUtil, rfl, hardwired_hrCfg, hardwired_hrHead, hardwired_hrStat, hardwired_hrTail⟩))
      (.ite (via (hrTailWrite_outside _ _ _ ⟨rfl, rfl, rfl, rfl, rfl, rfl, hardwired_fpUtil, hardwired_hrHead, hardwired_hrStat, hardwired_hrTail⟩)) ht)
  case drc =>
    exact .ite (via (drcCfgWrite_outside _ _ ⟨Parts.unwired_emits, rfl, rfl, rfl, rfl, rfl, rfl, rfl, rfl, rfl, rfl, rfl, rfl, rfl, rfl, rfl, rfl, rfl, hardwired_eccRemap, rfl, rfl, rfl⟩))
      (.ite (thru (State.actThWritten_outside _ ⟨Parts.unwired_emits, rfl, rfl, rfl, rfl⟩)) ht)
  case drcport => exact .ite (via (drcPortTgtWrite_idStands s i v)) ht
  case ecc => exact .ite (via (State.logCtrlWrite_outside _ _ _ ⟨rfl, rfl, rfl, rfl⟩)) (.ite (via (eccInjArm_outside _ _ ⟨rfl, rfl, rfl, rfl⟩)) ht)
  case mode =>
    refine .ite (thru (State.showHeld_outside _ rfl)) ?_
    split
    next hrel => exact via (.budgetWrite s (budget rfl hrel) v)
    · exact .ite (thru (State.showPacer_outside _ ⟨rfl, rfl, rfl, rfl⟩)) ht
  case clk =>
    exact .ite (via (clkSrcWrite_outside _ _ ⟨rfl, rfl, rfl, rfl, rfl, rfl, rfl, rfl, rfl, hardwired_fpStat⟩))
      (.ite (thru (State.IdStands.trans (State.regate_outside _ ⟨rfl, rfl, rfl⟩) (State.gatePorts_outside _ ⟨rfl, rfl, rfl, hardwired_fpStat, rfl, rfl⟩))) ht)
  case saf =>
    exact .ite (via (State.forceWrite_outside _ _ ⟨Parts.unwired_emits, rfl, rfl, rfl, hardwired_fpUtil, rfl, rfl, rfl, rfl, rfl, rfl, rfl, rfl, rfl, rfl, rfl, rfl, rfl⟩)) ht
  case alm => exact .ite (via (safAlmCfgWrite_idStands s i _ v)) (.ite (via (safAlmAck_idStands s i)) ht)
  case hif =>
    exact .ite (via (cmdRingEnable_outside _ _ ⟨rfl, rfl, rfl, rfl, rfl, rfl, rfl, rfl⟩)) (.ite (via (cmdDoorbell_outside _ _ ⟨Parts.unwired_emits, rfl, rfl, rfl, rfl, rfl, rfl, rfl, rfl, rfl, hardwired_clStat, rfl, rfl, rfl, rfl, rfl, rfl, rfl, rfl, rfl, rfl, rfl, rfl, rfl, rfl, rfl, rfl, hardwired_eccRemap, rfl, rfl, rfl, hardwired_fpStat, rfl, rfl, rfl⟩)) (.ite (latched _ _) ht))
  case eq => exact .ite (via (eqCfgEnable_idStands s i v)) (.ite (via (eqTailWrite_idStands s i _)) ht)
  case msix => exact .ite (thru (State.msixCtrlWritten_outside _ _ ⟨rfl, rfl⟩)) ht
  case boot => exact .ite (hs.bootCtrlWrite v) (.ite (.ite (via (mcWdogKick_outside _ _ rfl)) hs) ht)
  case fab => exact .ite (via (State.fabCtrlWrite_outside _ _ ⟨Parts.unwired_emits, rfl, rfl, rfl, rfl, rfl, hardwired_fpUtil⟩)) ht
  case fp => exact .ite (thru (State.portCfgWritten_outside _ _ _ ⟨rfl, rfl, rfl, hardwired_fpStat, rfl⟩)) ht
  case dev => exact .ite (via (State.absentCountWrite_outside _ _ rfl)) ht
  case eng | snp | pba | res => exact ht

theorem State.Fused.writeReg {s : State} {f : Factory} (hs : s.Fused f) (who : Reader) (off : Nat) (v : Word) : (s.writeReg who off v).Fused f := by
  unfold State.writeReg
  refine .ite hs (.ite (State.IdStands.fused (s.absentWrite_outside _ _ ⟨rfl, rfl⟩) hs) ?_)
  cases hb : blockAt off with
  | none => exact hs
  | some p =>
    have reached := (State.IdStands.reachAt s off).fused hs
    dsimp -zeta only
    extract_lets rel t
    cases hd : regAt p.1 rel with
    | none => exact reached
    | some d => exact State.unitWrite_fused reached who hb hd v

theorem State.Fused.writeAccess {s : State} {f : Factory} (hs : s.Fused f) (who : Reader) (off size data : Nat) :
    (s.writeAccess who off size data).Fused f := by
  have first := hs.writeReg who off (BitVec.ofNat 32 data)
  refine .ite (.ite first (first.writeReg who _ _)) (.ite (State.IdStands.fused ?_ hs) hs)
  exact ((State.IdStands.refl s).count (a := Reg.HIF_BAD_ACC) rfl _).raise rfl _

theorem regWrite_fused {s : State} {f : Factory} (hs : s.Fused f) (src : CmdSrc) (tag target size off data : Nat) :
    (regWrite s src tag target size off data).Fused f := by
  have settled : ∀ {t : State}, t.Fused f → ∀ c, (t.settle src 0x0012 tag c).Fused f := fun ht c => ((State.IdStands.refl _).settle _ _ _ c).fused ht
  have written := hs.writeAccess .mc off (4 + 4 * size) data
  exact .ite (settled hs _) (.ite ((State.IdStands.remoteAccess s _ _ _ _ _ _).fused hs) (.ite (settled written _) (.ite (settled hs _)
    (.ite (settled hs _) (settled written _)))))

theorem State.IdStands.fullCellWrite (s : State) (port cell data attr : Nat) (poison : Bool) :
    s.IdStands (fullCellWrite s port cell data attr poison) :=
  fullCellWrite_outside _ _ _ _ _ _ ⟨rfl, rfl, rfl, hardwired_eccRemap, rfl⟩

theorem State.Fused.writePacket {s : State} {f : Factory} (hs : s.Fused f) (pk : Packet) : (s.writePacket pk).2.Fused f := by
  have written := hs.writeAccess (.fabric pk.src) pk.regOff (4 + 4 * pk.size) (pk.payload.headD 0)
  unfold State.writePacket
  split
  · cases s.packetCells pk with
    | nil => exact hs
    | cons c l =>
      refine State.IdStands.fused (s := s) ?_ hs
      exact .foldl (fun t p _ => .fullCellWrite t _ _ _ _ _) s
  split
  · exact hs
  split
  · exact written
  split
  · exact hs
  · exact written

theorem writePacketRx_fused {s : State} {f : Factory} (hs : s.Fused f) (pkt : Packet) : (writePacketRx s pkt).Fused f := by
  unfold writePacketRx
  cases s.keptAnswer pkt.src pkt.tag with
  | some a => exact (State.IdStands.inject s a).fused hs
  | none => exact ((State.IdStands.refl _).answer _ _ _).fused (hs.writePacket pkt)

/-! ### The image -/

theorem State.Fused.applyRecord {s : State} {f : Factory} (hs : s.Fused f) (r : Nat × Word) : (s.applyRecord r).Fused f := by
  unfold State.applyRecord
  cases hb : blockAt r.1 with
  | none => exact hs
  | some p =>
    dsimp only
    split
    next halm =>
      obtain ⟨hmem, -, hlo, hhi⟩ := blockAt_mem hb
      obtain ⟨hbase, hstride, hcount⟩ := almBlock_base p.1 hmem halm.1
      have hreg : hardwired r.1 = false := by
        rw [hbase, hstride, hcount] at hhi
        obtain ⟨j, hj⟩ := Nat.exists_eq_add_of_le (hbase ▸ hlo)
        rw [hj]
        exact hardwired_alm (Nat.lt_of_add_lt_add_left (hj ▸ hhi))
      exact (((State.IdStands.refl s).setReg hreg _).trans (State.almChanged_outside _ ⟨Parts.unwired_emits, rfl, rfl, rfl, hardwired_fpUtil, rfl, rfl, rfl, rfl,
        rfl, rfl, rfl, rfl, rfl, rfl, rfl, rfl, rfl, rfl, rfl, rfl, rfl, rfl⟩)).fused hs
    · exact hs.writeReg _ _ _

theorem semanticValidation_fused {s : State} {f : Factory} (hs : s.Fused f) (graphId : Word) (graph : List NodeDef) :
    (semanticValidation s graphId graph).Fused f := by
  refine .ite hs ?_
  extract_lets has g id e
  have he : s.IdStands e.2 := State.freeNat_outside _ _ rfl
  cases s.imageErr g e.1 with
  | some x =>
    exact (he.trans (State.failSlot_outside _ _ _ _ _ ⟨Parts.unwired_emits, rfl, rfl, rfl, rfl, rfl, rfl, rfl, rfl, hardwired_fpStat⟩)).fused hs
  | none =>
    have loaded : ∀ t : State, t.Fused f → (t.applyImage id g).Fused f := fun t ht => by
      unfold State.applyImage
      extract_lets s1 s2 s3 h s4
      have h4 : t.IdStands s4 := ((State.IdStands.trans (State.loadCalset_outside _ _ ⟨Parts.unwired_emits, rfl, rfl, rfl⟩)
        (State.applyDevice_outside _ _ ⟨rfl, rfl, rfl, rfl, rfl, rfl, rfl, rfl, rfl, rfl, rfl⟩)).setFld (a := Reg.FAB_CFG) rfl _ _).trans
          (State.outside_host_triggers rfl rfl _ _ _)
      have applied := List.foldlRecOn (motive := fun u : State => u.Fused f) s4.imageRecords (fun (s : State) r => s.applyRecord r)
        (h4.fused ht) fun u hu r _ => hu.applyRecord r
      exact State.IdStands.fused (State.loadGraph_outside _ _ _ ⟨rfl, hardwired_clCuse, rfl, hardwired_clLoad, hardwired_clStat, hardwired_clWmax, hardwired_clXyuse, rfl, rfl⟩) applied
    exact State.IdStands.fused (State.setPhase_outside _ _ rfl) (loaded _ ((he.trans (State.setPhase_outside _ _ rfl)).fused hs))

end Sys2Proof.Machine
end

section
set_option Elab.async false
/-!
PROOF. No step changes an identity register (O8): the rows, and the step.
-/
namespace Sys2Proof.Machine

/-! ### Rows whose registers are not wired -/

/-- No register of a choice is wired. -/
def Spares (p : Nat → Prop) : Prop := ∀ a, p a → hardwired a = false

/-- The claim `q`, given of each choice of a list that no register of it is wired. -/
def SparesEach : List (Nat → Prop) → Prop → Prop
  | [], q => q
  | p :: l, q => Spares p → SparesEach l q

theorem sparesEach_of_anyOf : ∀ {l : List (Nat → Prop)} {q : Prop}, (Spares (anyOf l) → q) → SparesEach l q
  | [], _, k => k fun _ h => h.elim
  | _ :: _, _, k => fun hp => sparesEach_of_anyOf fun hl => k fun a ha => ha.elim (hp a) (hl a)

theorem spares_is {r : Nat} (h : hardwired r = false) : Spares (is r) := fun _ he => he ▸ h

theorem spares_series {b k : Nat} (h : seriesApart b k (fun _ => false) = true) : Spares (each fun n => b + k * n) :=
  fun _ ⟨n, he⟩ => he ▸ hardwired_series h n

theorem spares_none : Spares fun _ => False := fun _ h => h.elim

theorem wiredKept_of_writes {c : Instr} {s t : State} (h : exec c s = .next t) (hw : Spares (writes c).regs) : s.WiredKept t :=
  have same := commandFrame c s t h
  ⟨fun a ha => same.reg a fun hc => Bool.noConfusion (ha.symm.trans (hw a hc)), same.fac⟩

theorem identityKept_of_writes {c : Instr} {s t : State} {l : List (Nat → Prop)} (hs : s.identityKept) (h : exec c s = .next t)
    (he : (writes c).regs = anyOf l) : SparesEach l t.identityKept :=
  sparesEach_of_anyOf fun hl => (wiredKept_of_writes h (he ▸ hl)).identityKept hs

/-! ### Rows that one of the operations above stands for -/

theorem identityKept_of_fused {s u t : State} (h : s.effect u = .next t) (hu : u.Fused s.fac) : t.identityKept := by
  obtain rfl := Host.Outcome.next.inj h
  intro a ha
  show Store.get (regReset s.fac) u.regs a = regReset s.fac a
  rw [← hu.2 a ha, State.reg, hu.1]

theorem identityKept_of_idStands {s u t : State} (hs : s.identityKept) (h : s.effect u = .next t) (hu : s.IdStands u) : t.identityKept :=
  identityKept_of_fused h (hu.fused hs.fused)

theorem identityKept_of_whenOpen {s u t : State} (hs : s.identityKept) (h : s.effect (s.whenOpen u) = .next t) (hu : s.IdStands u) : t.identityKept :=
  identityKept_of_idStands hs h (.ite (.refl s) hu)

theorem State.IdStands.reach (s : State) (b : Nat) : s.IdStands (s.reach b) :=
  s.reach_outside _ ⟨Parts.unwired_emits, rfl, rfl, rfl, rfl, rfl, rfl, rfl, rfl, rfl, hardwired_clStat, rfl, rfl, rfl, rfl, rfl, rfl, rfl, rfl, rfl, rfl, rfl, rfl, rfl,
    rfl, hardwired_eccRemap, rfl, rfl, rfl, hardwired_fpStat, rfl⟩

theorem State.IdStands.reachIf (s : State) (c : Bool) (b : Nat) : s.IdStands (s.reachIf c b) := .ite (.reach s b) (.refl s)

theorem basePeriod_wiredKept (s : State) (raws : List RawSample) : s.WiredKept (basePeriod s raws) :=
  (baseSample_wiredKept s raws).trans (State.IdStands.wiredKept (State.IdStands.trans (State.flushIfDue_outside _ ⟨Parts.unwired_emits, rfl, rfl, rfl, rfl, rfl, rfl,
    rfl, rfl, rfl, rfl, rfl, hardwired_clStat, rfl, rfl, rfl, rfl, rfl, rfl, rfl, rfl, rfl, rfl, rfl, rfl, rfl, hardwired_eccRemap, rfl, rfl, rfl, rfl, rfl,
    hardwired_fpStat, hardwired_fpUtil, rfl, rfl, rfl, rfl, rfl⟩) (State.keepTalking_outside _ ⟨rfl, rfl⟩)))

/-- Every row keeps the identity registers. -/
theorem exec_identityKept {c : Instr} {s t : State} (hs : s.identityKept) (h : exec c s = .next t) : t.identityKept := by
  have settled : ∀ {u}, s.effect u = .next t → s.IdStands u → t.identityKept := fun h hu => identityKept_of_idStands hs h hu
  have opened : ∀ {u}, s.effect (s.whenOpen u) = .next t → s.IdStands u → t.identityKept := fun h hu => identityKept_of_whenOpen hs h hu
  have fused : ∀ {u}, s.effect u = .next t → u.Fused s.fac → t.identityKept := identityKept_of_fused
  cases c
  case smonLockstepMismatch => exact settled h (smonLockstepMismatch_idStands ..)
  case outputFault => exact settled h (outputFault_idStands ..)
  case alarmEvaluate => exact settled h (alarmEvaluate_idStands ..)
  case alarmHoldExpiry => exact settled h (alarmHoldExpiry_idStands ..)
  case bootDone => exact settled h (bootDone_idStands ..)
  case regRead => exact settled h (regRead_idStands ..)
  case onDemandSlotDone => exact settled h (onDemandSlotDone_idStands ..)
  case modeChangeInstant => exact settled h (modeChangeInstant_idStands ..)
  case pacerEvaluate => exact settled h (pacerEvaluate_idStands ..)
  case linkDown => exact settled h (linkDown_idStands ..)
  case dataFlitRx => exact settled h (dataFlitRx_idStands ..)
  case replayTimeout => exact settled h (replayTimeout_idStands ..)
  case hello => exact settled h (hello_idStands ..)
  case readPacketRx => exact settled h (readPacketRx_idStands ..)
  case eventPacketRx => exact settled h (eventPacketRx_idStands ..)
  case timeExchange => exact settled h (timeExchange_idStands ..)
  case eventRecordWrite => exact settled h (eventRecordWrite_idStands ..)
  case fusionUnchecked => exact settled h (fusionUnchecked_idStands ..)
  case fusDiffUpdate => exact settled h (fusDiffUpdate_idStands ..)
  case cfgChange => exact settled h (cfgChange_idStands ..)
  case excRelease => exact settled h (excRelease_idStands ..)
  case excMonitorSample => exact settled h (excMonitorSample_idStands ..)
  case excFault => exact settled h (excFault_idStands ..)
  case checkerResult => exact settled h (checkerResult_idStands ..)
  case checkerCycleEnd => exact settled h (checkerCycleEnd_idStands ..)
  case nativeSample => exact settled h (nativeSample_idStands ..)
  case wmTransition => exact settled h (wmTransition_idStands ..)
  case hcCrossing => exact settled h (hcCrossing_idStands ..)
  case compTestRelease => exact settled h (compTestRelease_idStands ..)
  case syncInEdge => exact settled h (syncInEdge_idStands ..)
  case invocationDone => exact settled h (invocationDone_idStands ..)
  case drcFreqDone => exact settled h (drcFreqDone_idStands ..)
  case readClear => exact settled h (readClear_idStands ..)
  case eventDeferredDelivery => exact settled h (.deliverRecs s _)
  case safAlmAck => exact opened h (safAlmAck_idStands ..)
  case safAlmCfgWrite => exact opened h (safAlmCfgWrite_idStands ..)
  case pchFusCfgWrite => exact opened h (pchFusCfgWrite_idStands ..)
  case pchFmtWrite => exact opened h (pchFmtWrite_idStands ..)
  case pchStaticCfgWrite => exact opened h (pchStaticCfgWrite_idStands ..)
  case pchSeisCfgWrite => exact opened h (pchSeisCfgWrite_idStands ..)
  case excCtrlModeWrite => exact opened h (excCtrlModeWrite_idStands ..)
  case bankCfgWrite => exact opened h (bankCfgWrite_idStands ..)
  case wchCfgWrite => exact opened h (wchCfgWrite_idStands ..)
  case wmTimeLoRead => exact opened h (wmTimeLoRead_idStands ..)
  case wmTimeHiRead => exact opened h (wmTimeHiRead_idStands ..)
  case eqCfgEnable => exact opened h ((State.IdStands.reachIf ..).trans (eqCfgEnable_idStands ..))
  case eqTailWrite => exact opened h ((State.IdStands.reachIf ..).trans (eqTailWrite_idStands ..))
  case drcPortTgtWrite => exact opened h ((State.IdStands.reach ..).trans (drcPortTgtWrite_idStands ..))
  case baseSample => exact fused h ((basePeriod_wiredKept ..).fused hs.fused)
  case calApplied => exact fused h ((calApplied_wiredKept hs _).fused hs.fused)
  case perstNAssert => exact fused h (perstNAssert_fused hs.fused)
  case jtagExtest => exact fused h (jtagExtest_fused hs.fused ..)
  case bootRetry => exact fused h (bootRetry_fused hs.fused)
  case reload => exact fused h (reload_fused hs.fused ..)
  case completion => exact fused h (completion_fused hs.fused)
  case regWrite => exact fused h (regWrite_fused hs.fused ..)
  case writePacketRx => exact fused h (writePacketRx_fused hs.fused ..)
  case semanticValidation => exact fused h (semanticValidation_fused hs.fused ..)
  case registerWrite => exact fused h (hs.fused.writeAccess ..)
  case powerOn | railBelowCold => exact fused h (State.coldReset_fused _)
  case mcWdogKick | elect | rate | tableCommit | bankRetire | timeStep | syncOutSecond | compSelfTest | startScheduleTimer | refreshWindowStart | powerDownEntry | wakeCauseDropped =>
    exact (wiredKept_of_writes h spares_none).identityKept hs
  all_goals
    apply identityKept_of_writes hs h rfl
    all_goals first | exact spares_is (by decide +kernel) | exact spares_series (by decide +kernel)

theorem exec_keepsIdentity {c : Instr} {s t : State} (h : exec c s = .next t) (hs : s.identityKept) : t.identityKept ∧ t.fac = s.fac :=
  ⟨exec_identityKept hs h, (commandFrame c s t h).fac⟩

theorem State.IdStands.idle (s : State) : s.IdStands s.idle :=
  .ite (.refl s) (.trans (s.passCycles_outside _ ⟨rfl, rfl, rfl, rfl⟩) (State.keepTalking_outside _ ⟨rfl, rfl⟩))

/-- Settles O8: on an empty queue no register is written, and every row keeps the identity registers. -/
theorem identityPreserved : Obligations.IdentityPreserved := by
  unfold Obligations.IdentityPreserved
  intro s t hs h
  unfold step at h
  split at h
  next =>
    obtain rfl := Host.Outcome.next.inj h
    exact ⟨(State.IdStands.idle s).wiredKept.identityKept hs, (State.IdStands.idle s).wiredKept.2⟩
  next c rest _ =>
    have kept := exec_keepsIdentity h hs
    exact kept

end Sys2Proof.Machine
end
